-- ==== Sys2Proof/Word.lean ====
section
/-! DEFINITION. The word and byte types of the FN512 (R6: little-endian, bit 0 least significant) and the plainest
arithmetic on the numbers that registers, table entries and records are read as. -/
namespace Sys2Proof

/-- A 32-bit register word (R38). -/
abbrev Word := BitVec 32
/-- One byte of memory, of a frame or of a record. -/
abbrev Byte := BitVec 8

end Sys2Proof
end

