-- ==== Sys2Proof/Machine/Types.lean ====
section
/-! DEFINITION. The plain data that commands carry and that the state holds: blocks and pages (R12, R37), the sources
of accesses (R39), table requests (R49 to R51), frames, messages and records in the layouts of their chapters, and the
things that leave the chip. -/
namespace Sys2Proof.Machine

/-- Every block of R12, with REGION_CTL as one more kind whose instance number is the region code (R8, R37). -/
inductive Blk where
  | info
  | fault
  | clock
  | reset
  | fuse
  | irq
  | gnssRf
  | gnssAcq
  | gnssTrk
  | gnssMeas
  | time
  | meter
  | obsIn
  | solver
  | rtkCtrl
  | corrOut
  | airport
  | sluice
  | frameSec
  | route
  | flood
  | registry
  | graph
  | lease
  | turnout
  | motion
  | taskboard
  | dispatch
  | core
  | pcie
  | flume
  | eth
  | canal
  | pair
  | dram
  | keep
  | keystore
  | evlog
  | boot
  | debug
  | headgate
  | regionCtl
  deriving DecidableEq, Repr

/-- Region code of a block (R12); for REGION_CTL the page gives it. -/
def Blk.region : Blk → Nat
  | .info => 0
  | .fault => 0
  | .clock => 0
  | .reset => 0
  | .fuse => 0
  | .irq => 0
  | .gnssRf => 1
  | .gnssAcq => 1
  | .gnssTrk => 1
  | .gnssMeas => 1
  | .time => 1
  | .meter => 1
  | .obsIn => 2
  | .solver => 2
  | .rtkCtrl => 2
  | .corrOut => 2
  | .airport => 3
  | .sluice => 3
  | .frameSec => 3
  | .route => 3
  | .flood => 3
  | .registry => 4
  | .graph => 4
  | .lease => 4
  | .turnout => 4
  | .motion => 4
  | .taskboard => 4
  | .dispatch => 4
  | .core => 4
  | .pcie => 5
  | .flume => 5
  | .eth => 5
  | .canal => 5
  | .pair => 5
  | .dram => 5
  | .keep => 6
  | .keystore => 6
  | .evlog => 6
  | .boot => 6
  | .debug => 6
  | .headgate => 7
  | .regionCtl => 0

/-- Block number in its region (R12). -/
def Blk.num : Blk → Nat
  | .info => 0
  | .fault => 1
  | .clock => 2
  | .reset => 3
  | .fuse => 4
  | .irq => 5
  | .gnssRf => 0
  | .gnssAcq => 1
  | .gnssTrk => 2
  | .gnssMeas => 3
  | .time => 4
  | .meter => 5
  | .obsIn => 0
  | .solver => 1
  | .rtkCtrl => 2
  | .corrOut => 3
  | .airport => 0
  | .sluice => 1
  | .frameSec => 2
  | .route => 3
  | .flood => 4
  | .registry => 0
  | .graph => 1
  | .lease => 2
  | .turnout => 3
  | .motion => 4
  | .taskboard => 5
  | .dispatch => 6
  | .core => 7
  | .pcie => 0
  | .flume => 1
  | .eth => 2
  | .canal => 3
  | .pair => 4
  | .dram => 5
  | .keep => 0
  | .keystore => 1
  | .evlog => 2
  | .boot => 3
  | .debug => 4
  | .headgate => 0
  | .regionCtl => 31

/-- Number of instances (R37). -/
def Blk.count : Blk → Nat
  | .info => 1
  | .fault => 1
  | .clock => 1
  | .reset => 1
  | .fuse => 1
  | .irq => 1
  | .gnssRf => 2
  | .gnssAcq => 1
  | .gnssTrk => 16
  | .gnssMeas => 1
  | .time => 1
  | .meter => 1
  | .obsIn => 1
  | .solver => 16
  | .rtkCtrl => 1
  | .corrOut => 1
  | .airport => 4
  | .sluice => 4
  | .frameSec => 1
  | .route => 1
  | .flood => 1
  | .registry => 1
  | .graph => 1
  | .lease => 1
  | .turnout => 1
  | .motion => 1
  | .taskboard => 1
  | .dispatch => 1
  | .core => 8
  | .pcie => 1
  | .flume => 1
  | .eth => 2
  | .canal => 2
  | .pair => 1
  | .dram => 1
  | .keep => 1
  | .keystore => 1
  | .evlog => 1
  | .boot => 1
  | .debug => 1
  | .headgate => 1
  | .regionCtl => 8

/-- The block with a number in a region (R12). -/
def Blk.of (region num : Nat) : Option Blk :=
  match region, num with
  | 0, 0 => some .info
  | 0, 1 => some .fault
  | 0, 2 => some .clock
  | 0, 3 => some .reset
  | 0, 4 => some .fuse
  | 0, 5 => some .irq
  | 1, 0 => some .gnssRf
  | 1, 1 => some .gnssAcq
  | 1, 2 => some .gnssTrk
  | 1, 3 => some .gnssMeas
  | 1, 4 => some .time
  | 1, 5 => some .meter
  | 2, 0 => some .obsIn
  | 2, 1 => some .solver
  | 2, 2 => some .rtkCtrl
  | 2, 3 => some .corrOut
  | 3, 0 => some .airport
  | 3, 1 => some .sluice
  | 3, 2 => some .frameSec
  | 3, 3 => some .route
  | 3, 4 => some .flood
  | 4, 0 => some .registry
  | 4, 1 => some .graph
  | 4, 2 => some .lease
  | 4, 3 => some .turnout
  | 4, 4 => some .motion
  | 4, 5 => some .taskboard
  | 4, 6 => some .dispatch
  | 4, 7 => some .core
  | 5, 0 => some .pcie
  | 5, 1 => some .flume
  | 5, 2 => some .eth
  | 5, 3 => some .canal
  | 5, 4 => some .pair
  | 5, 5 => some .dram
  | 6, 0 => some .keep
  | 6, 1 => some .keystore
  | 6, 2 => some .evlog
  | 6, 3 => some .boot
  | 6, 4 => some .debug
  | 7, 0 => some .headgate
  | _, 31 => some .regionCtl
  | _, _ => none

/-- Every block but REGION_CTL, in the order of R12. -/
def Blk.all : List Blk := [.info, .fault, .clock, .reset, .fuse, .irq, .gnssRf, .gnssAcq, .gnssTrk, .gnssMeas, .time, .meter, .obsIn, .solver, .rtkCtrl, .corrOut, .airport, .sluice, .frameSec, .route, .flood, .registry, .graph, .lease, .turnout, .motion, .taskboard, .dispatch, .core, .pcie, .flume, .eth, .canal, .pair, .dram, .keep, .keystore, .evlog, .boot, .debug, .headgate]

/-- A 4 KiB register page: a block and an instance; for REGION_CTL the instance is the region code (R37). -/
structure Page where
  blk : Blk
  inst : Nat := 0
  deriving DecidableEq, Repr

/-- Region code of a page (R8). -/
def Page.region (p : Page) : Nat := match p.blk with
  | .regionCtl => p.inst
  | b => b.region

/-- BAR0 offset of a page (R8): region × 0x200000 + block × 0x10000 + instance × 0x1000; an instance number is read modulo
the block's count of instances, which no well-formed command exceeds. -/
def Page.base (p : Page) : Nat := match p.blk with
  | .regionCtl => p.inst % 8 * 0x200000 + 0x1F0000
  | b => b.region * 0x200000 + b.num * 0x10000 + p.inst % b.count * 0x1000

/-- BAR0 offset of a register of a page, by its offset in the page. -/
def Page.adr (p : Page) (off : Nat) : Nat := p.base + off % 0x1000

/-- The page that decodes an address, if any (R37, R38). -/
def Page.ofAddr (a : Nat) : Option Page :=
  let region := a / 0x200000
  let blkNo := a % 0x200000 / 0x10000
  let inst := a % 0x10000 / 0x1000
  if region < 8 then
    match Blk.of region blkNo with
    | some .regionCtl => if inst = 0 then some ⟨.regionCtl, region⟩ else none
    | some b => if inst < b.count then some ⟨b, inst⟩ else none
    | none => none
  else none

/-- Instance field as PAGE_ID shows it: 0 for REGION_CTL. -/
def Page.instNo (p : Page) : Nat := match p.blk with
  | .regionCtl => 0
  | _ => p.inst

/-- Interrupt source number of a page: region × 32 + block (R54). -/
def Page.irqSource (p : Page) : Nat := p.region * 32 + p.blk.num

/-- SOURCE field of an event record: region, block and cell (R464). -/
def Page.evSource (p : Page) (cell : Nat) : Nat := p.region * 0x2000 + p.blk.num * 0x100 + cell % 0x100

/-- Who makes an access: the sources of R39, and JTAG by its own access port (R442). -/
inductive Src where
  | host
  | bar2 (zone : Nat)
  | sup
  | core (n : Nat)
  | jtag
  deriving DecidableEq, Repr

/-- The code of a source, as TOK_STATUS.OWNER gives it. JTAG has none there: 4 (DESIGN CHOICE, log entry 31). -/
def Src.code : Src → Nat
  | .jtag => 4
  | .host => 1
  | .sup => 2
  | .bar2 _ => 3
  | .core n => 16 + n

/-- A number of each source's own, for the latches of R42 (host, supervisor, cores, BAR2 tunnels). -/
def Src.key : Src → Nat
  | .jtag => 0xFF
  | .host => 0
  | .sup => 1
  | .core n => 2 + n
  | .bar2 z => 0x100 + z

/-- How a table operation arrives (R49, R50): through the page interface, whose key and data words stand in the
page's registers, or as a tagged operation that carries them; `queue` is the Flume queue of a host tag. -/
inductive Via where
  | page (src : Src)
  | tag (src : Src) (tag : Nat) (queue : Nat) (key : List Nat) (data : Nat)
  deriving DecidableEq, Repr

/-- The result of a table operation: error code, index returned, data returned (R49, R506). -/
structure TRes where
  err : Nat := 0
  index : Option Nat := none
  data : Option Nat := none
  deriving DecidableEq, Repr

/-- A completion record (R358); `wire` is its bytes 2 and 3, which name the page. -/
structure Compl where
  tag : Nat
  err : Nat
  wire : Nat
  index : Nat
  data : Option Nat
  deriving DecidableEq, Repr

/-- An event record (R464). -/
structure EvRec where
  seq : Nat
  time : Nat
  code : Nat
  source : Nat
  epoch : Nat
  rflags : Nat
  arg0 : Nat
  arg1 : Nat
  arg2 : Nat
  deriving DecidableEq, Repr

/-- The body of a record on a Flume queue: an event, a table completion, or another source's bytes (R348). -/
inductive FBody where
  | event (r : EvRec)
  | compl (c : Compl)
  | bytes (rtype : Nat) (b : List Nat)
  deriving DecidableEq, Repr

/-- A record, or one fragment of a record, waiting on a Flume queue: its payload length, the place of the fragment in
the payload, FIRST, LAST and LOSS_BEFORE (R348). -/
structure FRec where
  len : Nat
  at_ : Nat := 0
  first : Bool := true
  last : Bool := true
  lossBefore : Bool := false
  body : FBody
  deriving DecidableEq, Repr

/-- A DATA frame of a chip-to-host queue (R347), and the priority it is sent with. -/
structure FFrame where
  queue : Nat
  zone : Nat
  seq : Nat
  session : Nat
  recs : List FRec
  prio : Nat := 0
  deriving DecidableEq, Repr

/-- A HELLO (R369): site, straps, number and PAIR_ROLE of its sender, and its serial number. -/
structure Hello where
  site : Nat
  head : Bool
  role : Nat
  number : Nat
  numbered : Bool
  paired : Bool
  serial : Nat := 0
  deriving DecidableEq, Repr

/-- An entry of a CREDIT frame (R356). -/
structure Credit where
  queue : Nat
  zone : Nat
  window : Nat
  ack : Nat
  deriving DecidableEq, Repr

/-- An Ethernet frame received, from its destination address to the end of the payload: destination, 802.1Q tag (ID and
PCP), EtherType, payload bytes, and whether its FCS is good (R347, R363). -/
structure EthFrame where
  fcsOk : Bool
  da : Nat
  sa : Nat
  vlan : Option (Nat × Nat)
  etype : Nat
  body : List Nat
  deriving DecidableEq, Repr

/-- An air frame of the Sluice MAC (R178 to R180): type, addresses, sequence number, key, counter, clear body, the identity whose key it takes, and the
bytes of its PSDU. -/
structure AirFrame where
  typ : Nat
  dst : Nat
  src : Nat
  seq : Nat
  keyId : Nat := 0
  kgen : Nat := 0
  fcnt : Nat := 0
  rate : Nat := 0
  body : List Nat := []
  prof : Nat := 2
  relay : List Nat := []
  id : Nat := 0
  wire : List Nat := []
  deriving DecidableEq, Repr

/-- A relay header (R202): FINAL_DST, ORIG_SRC, ORIG_SEQ, TTL, DOWN, HOPS, ENTRY_START. -/
structure RelayHdr where
  final : Nat
  orig : Nat
  seq : Nat
  ttl : Nat
  down : Bool
  hops : Nat
  entry : Nat
  deriving DecidableEq, Repr

/-- The headers of a frame and what stands between them and the FCS (R179, R180, R202). -/
structure AirHdr where
  typ : Nat
  prof : Nat
  obs : Bool
  dst : Nat
  src : Nat
  seq : Nat
  relay : Option RelayHdr
  fcnt : Nat
  kgen : Nat
  keyId : Nat
  body : List Nat
  deriving DecidableEq, Repr

/-- A frame that a port's receiver has passed up and the MAC has not handled yet: headers, whether its MIC verified, its clear body, its SNR in dB, start
and end at the antenna in fleet ns (R103, R167), and the end of the entry or opportunity it came in, fleet ns. -/
structure RxFrame where
  hdr : AirHdr
  micOk : Bool := true
  body : List Nat := []
  snr : Nat := 0
  startNs : Nat := 0
  endNs : Nat := 0
  entryEnd : Nat := 0
  deriving DecidableEq, Repr

/-- A PREPARE step record (R243). -/
structure PrepStep where
  seg : Nat
  pos : Nat
  dir : Nat
  dur : Nat
  startNs : Nat
  startS : Nat
  deriving DecidableEq, Repr

/-- A message of the LEASE class (R243): TYPE, EPOCH, FROM, N, XID, OWNER, ARG and the steps of a PREPARE. -/
structure LeaseMsg where
  typ : Nat
  epoch : Nat
  from_ : Nat
  n : Nat := 0
  xid : Nat := 0
  owner : Nat := 0
  arg : Nat := 0
  steps : List PrepStep := []
  deriving DecidableEq, Repr

/-- A LEARN (R219). -/
structure LearnMsg where
  addr : Nat
  prev : Nat
  timeMs : Nat
  chip : Nat
  kind : Nat
  hops : Nat
  deriving DecidableEq, Repr

/-- A Canal STOP message (R300). -/
structure StopMsg where
  origin : Nat
  cls : Nat
  reason : Nat
  seq : Nat
  hops : Nat
  timeMs : Nat
  deriving DecidableEq, Repr

/-- One after-image of a checkpoint (R391, R395): what it is of, its index, its contents. -/
structure Image where
  target : Nat
  index : Nat
  value : Nat
  deriving DecidableEq, Repr

/-- A bundle's points of one member (R279): SFN modulo 2^16, then the time in fleet ns and the path distance in nm of each. -/
structure SpBundle where
  sfn : Nat
  pts : List (Nat × Nat)
  deriving DecidableEq, Repr

/-- Motion of one member beside tables 0 and 1 (R270 to R287): slots of its queue in the order of addition; path number;
furrows of the path with the distance at which each begins and its length, mm; the plan at the last point (nm, µm/s,
µm/s²) and the time of that point, fleet ns; MODE; whether motion must begin a new path; deceleration in force where it
is not the move's, mm/s²; furrows (with the path number times 2^32) whose geometry has been sent and acknowledged, once for each record; points of the latest bundles; time of
the latest position, the lag it showed, the superframe in which one was last used;
stop class whose profile the plan follows; the plan's samples since the bundle before the last: time, nm, µm/s, µm/s²; whether a takeover still waits
for a trailer that shows the member at rest (R399). -/
structure MotSt where
  order : List Nat := []
  path : Nat := 0
  chain : List (Nat × Nat × Nat) := []
  d : Nat := 0
  v : Nat := 0
  a : Int := 0
  t : Nat := 0
  mode : Nat := 0
  newPath : Bool := true
  decel : Option Nat := none
  aDecNext : Option Nat := none
  geomSent : List Nat := []
  geomAck : List Nat := []
  bundles : List SpBundle := []
  posAt : Option Nat := none
  lag : Int := 0
  posSfn : Nat := 0
  jerk : Option Nat := none
  stopCls : Nat := 0
  hist : List (Nat × Nat × Nat × Int) := []
  wait : Bool := false
  deriving DecidableEq, Repr

/-- A PAIR message (R395); `plans` is the plan state of members that a full or a delta carries (R391), for which the spec gives no bytes. -/
structure PairMsg where
  typ : Nat
  lastRec : Bool := false
  format : Nat := 0
  sfn : Nat := 0
  rseq : Nat := 0
  arg : Nat := 0
  images : List Image := []
  cfgHash : Nat := 0
  kgen : Nat := 0
  pstate : Nat := 0
  nr : Nat := 0
  cls : Nat := 0
  reason : Nat := 0
  stopSeq : Nat := 0
  plans : List (Nat × MotSt) := []
  deriving DecidableEq, Repr

/-- What a Canal message carries, by its class (R370). -/
inductive CanalBody where
  | stop (m : StopMsg)
  | time (timeS timeNs corr uncert epoch tq : Nat)
  | pair (m : PairMsg)
  | lease (m : LeaseMsg)
  | learn (m : LearnMsg)
  | regReq (write : Bool) (addr value : Nat) (id : Nat)
  | regAns (write : Bool) (value : Nat) (id : Nat)
  | bulk (portSel : Nat) (f : FFrame)
  | bulkCredit (portSel zone session : Nat) (l : List Credit)
  | bulkIn (b : List Nat)
  | down (addr : Nat) (b : List Nat)
  | enum (count : Nat)
  | brk (link : Nat)
  | linkUp (link : Nat)
  | hello (h : Hello)
  | delayReq (t1 : Nat)
  | delayResp (t1 t2 t3 : Nat)
  deriving DecidableEq, Repr

/-- Class code of a message (R370). -/
def CanalBody.cls : CanalBody → Nat
  | .stop _ => 0
  | .time .. => 1
  | .pair _ => 2
  | .lease _ => 3
  | .learn _ => 4
  | .regReq .. | .regAns .. => 5
  | .bulk .. | .bulkCredit .. | .bulkIn _ | .down .. => 6
  | .hello _ | .enum _ | .brk _ | .linkUp _ | .delayReq _ | .delayResp .. => 7

/-- A Canal message with its header (R367, R372); `dest` none for a broadcast. -/
structure CanalMsg where
  dest : Option Nat
  destUnit : Nat := 0
  src : Nat
  srcUnit : Nat
  mseq : Nat
  hops : Nat := 0
  west : Bool := false
  body : CanalBody
  deriving DecidableEq, Repr

/-- Flits a message takes: 32 data bytes each, its 8-byte header included (R367, R372). -/
def CanalMsg.flits (m : CanalMsg) : Nat :=
  let payload := match m.body with
    | .stop _ => 8
    | .time .. => 24
    | .pair p => 16 + 68 * p.images.length
    | .lease l => 16 + 20 * l.steps.length
    | .learn _ => 16
    | .regReq .. | .regAns .. => 16
    | .bulkCredit _ _ _ l => 16 + 8 * l.length
    | .bulkIn b => b.length
    | .down _ b => 4 + b.length
    | .bulk _ f => 16 + f.recs.foldl (fun n r => n + 4 + (r.len + 3) / 4 * 4) 0
    | _ => 0
  (payload + 8 + 31) / 32

/-- An operation accepted and held back until its block can decide it (R51, R92, R217). -/
structure Held where
  via : Via
  page : Page
  opcode : Nat
  table : Nat
  index : Nat
  key : List Nat
  data : Nat
  gen : Nat := 0
  deriving DecidableEq, Repr

/-- What a tracking channel measures at a strobe (R68, R69): the quantities and flags that come from the signal. -/
structure MeasIn where
  channel : Nat
  elev : Nat
  psr : Int
  phase : Int
  doppler : Int
  cn0 : Nat
  codeOk : Bool
  dopOk : Bool
  ephOk : Bool
  deriving DecidableEq, Repr

/-- A measurement record (R69). -/
structure MeasRec where
  channel : Nat
  signal : Nat
  ant : Nat
  svid : Nat
  elev : Nat
  psr : Int
  phase : Int
  doppler : Int
  cn0 : Nat
  lockMs : Nat
  flags : Nat
  deriving DecidableEq, Repr

/-- A base epoch (R69) but for its CRC. -/
structure Epoch where
  timeS : Nat
  rate : Nat
  hflags : Nat
  timeNs : Nat
  seq : Nat
  tq : Nat
  withheld : Nat
  clkResid : Nat
  week : Nat
  recs : List MeasRec
  deriving DecidableEq, Repr

/-- A signal that the sky offers at an acquisition pass (R61): code, satellite, elevation, whether the search has found it. -/
structure SkySig where
  sig : Nat
  svid : Nat
  elev : Nat
  found : Bool
  deriving DecidableEq, Repr

/-- The geometry of one signal in the two-antenna check (R76): the unit vector towards its satellite, east, north and up, in 2^-30. -/
structure SigGeom where
  sig : Nat
  svid : Nat
  ue : Int
  un : Int
  uu : Int
  deriving DecidableEq, Repr



/-- A staged emit (R320): destination, KIND or CLASS, target, ARG, payload, its pool buffer, owner of the context. -/
structure Emit where
  dest : Nat
  kind : Nat
  target : Nat
  arg : Nat
  body : List Nat
  buf : Nat
  owner : Nat
  deriving DecidableEq, Repr

/-- A work item (R310) in the item store: its descriptor, payload and pool buffer, and where it stands: 0 waiting, 1 in a
context, 2 done, 3 released while an emit of it waits to leave; aborted once; emits staged. -/
structure DItem where
  flow : Nat
  src : Nat
  kind : Nat
  seq : Nat := 0
  mgen : Nat := 0
  arg : Nat := 0
  arg2 : Nat := 0
  ns : Nat := 0
  body : List Nat := []
  buf : Nat := 0xFFFF
  st : Nat := 0
  core : Nat := 0
  ctx : Nat := 0
  since : Nat := 0
  aborted : Bool := false
  emits : List Emit := []
  deriving DecidableEq, Repr

/-- A trace record (R322). -/
structure TraceRec where
  timeUs : Nat
  evt : Nat
  where_ : Nat
  flow : Nat
  seq : Nat
  arg : Nat
  deriving DecidableEq, Repr

/-- A frame queued for a DOWN_BCAST entry (R190): type 3 or 7, the port of a JOIN_RESP, member, clear body, numbers given
at its first sending, sendings so far, and what an acknowledgement of it means: a furrow's geometry (R278), an ASSIGN of an
epoch (R175), a RELAY_MAP;
sendings left of a profile 1 frame; the relay of a JOIN_RESP; the port it went out on; a LEAVE; a RELAY_MAP that goes ahead of
every other frame (R210). -/
structure DownFrame where
  typ : Nat
  port : Nat := 0
  member : Nat := 0
  joinId : Nat := 0
  body : List Nat
  kgen : Nat := 0
  fcnt : Nat := 0
  seq : Nat := 0
  dst : Nat := 0
  tries : Nat := 0
  waiting : Bool := false
  endAt : Nat := 0
  geom : Option Nat := none
  assign : Option Nat := none
  relayMap : Bool := false
  prof1 : Nat := 0
  hop : Option Nat := none
  sentPort : Nat := 0
  leave : Bool := false
  ahead : Bool := false
  deriving DecidableEq, Repr


/-- A step of a request (R233, R243): position in the furrow, local segment, direction, window start in fleet ns, length
in µs. -/
structure ReqStep where
  pos : Nat
  seg : Nat
  dir : Nat
  start : Nat
  dur : Nat
  deriving DecidableEq, Repr

/-- A build slot (R233, R234): handle, source that opened it, header, steps written, last OPEN or STEPS in ps. -/
structure Build where
  handle : Nat
  src : Src
  owner : Nat
  base : Nat
  nstep : Nat
  epoch : Nat
  wclass : Nat
  rflags : Nat
  steps : List (Nat × Nat × Nat × Nat × Nat)
  at_ : Nat
  deriving DecidableEq, Repr

/-- A furrow with other zones while it is reserved and committed (R240, R242): XID, its head, the zones it uses in
ascending order, those still to be asked, those that voted yes, those that acknowledged COMMIT, those that sent COMMITTED,
its deadline in fleet ns, the time of the grant, what completes, GEN of the owner at acceptance. -/
structure Xfer where
  xid : Nat
  head : Nat
  owner : Nat
  zones : List Nat
  ask : List Nat
  yes : List Nat
  acked : List Nat
  noted : List Nat
  deadline : Nat
  grantAt : Option Nat
  steps : List ReqStep
  via : Option Via
  wclass : Nat
  ownGen : Nat
  deriving DecidableEq, Repr

/-- A RELEASE or ABORT sent to a zone and not yet acknowledged (R243). -/
structure PendRel where
  zone : Nat
  msg : LeaseMsg
  deriving DecidableEq, Repr

/-- The latest trailer of a member, as R245 resolves it: furrow ID, GRANT_SEQ of that furrow, distance in mm, CLEAR. -/
structure TrailerRes where
  member : Nat
  furrow : Nat
  gseq : Nat
  d : Nat
  clear : Bool
  deriving DecidableEq, Repr

/-- A part held for another zone's owner (R240, R243): its head, the initiating zone, DEADLINE in fleet ns, when its COMMIT
came, the vote that was given. -/
structure Part where
  xid : Nat
  head : Option Nat
  zone : Nat
  owner : Nat
  deadline : Nat
  commitAt : Option Nat
  vote : Nat
  votePos : Nat
  deriving DecidableEq, Repr

/-- A staged edit of a table sequence (R261). -/
structure StagedEdit where
  index : Nat
  value : Nat
  deriving DecidableEq, Repr

/-- An open table sequence (R261 to R263): handle, owner index of R255 and its generation, target, range, edits in the
order of staging, last OPEN or STAGE in ps. -/
structure TblSeq where
  handle : Nat
  owner : Nat
  gen : Nat
  target : Nat
  lo : Nat
  hi : Nat
  edits : List StagedEdit
  at_ : Nat
  deriving DecidableEq, Repr


/-- A member's signal of an observation (R111 to R113): R60 code, SVID, fine pseudorange, phase, LOCK, C/N0 as sent, with
the rough range of its satellite. -/
structure MSig where
  sig : Nat
  svid : Nat
  rough : Nat
  pr : Int
  phase : Int
  lock : Nat
  cn0 : Nat
  deriving DecidableEq, Repr

/-- The own-fix fields of a trailer (R136, R187). -/
structure OwnFix where
  valid : Bool := false
  ms : Nat := 0
  pos : List Int := []
  deriving DecidableEq, Repr

/-- A member-epoch (R115 to R120): epoch E and arrival in fleet ns, the time it became ready, what it measured, whether it
has been given up once, and its base epoch once it is ready. -/
structure MEpoch where
  member : Nat
  e : Nat
  arrival : Nat
  ready : Option Nat := none
  ofs : Int := 0
  reset : Bool := false
  static : Bool := false
  sigs : List MSig := []
  own : OwnFix := {}
  again : Bool := false
  base : Option Epoch := none
  deriving DecidableEq, Repr

/-- One ambiguity of a member's filter (R121, R124): signal, satellite, value in FP64, the integer of the last fixed
epoch, reset since the last epoch, when the signal was last present in ps. -/
structure Amb where
  sig : Nat
  svid : Nat
  val : BitVec 64 := 0
  int_ : Option Int := none
  fresh : Bool := true
  seenAt : Nat := 0
  deriving DecidableEq, Repr

/-- A member's filter but for its ambiguities (R121), in FP64: the baseline vector in ECEF, its velocity, and the covariance of all
states by rows. -/
structure Filt where
  base : List (BitVec 64) := []
  vel : List (BitVec 64) := []
  cov : List (BitVec 64) := []
  deriving DecidableEq, Repr, Inhabited

/-- A signal that both ends have, as R122 admits it: code usable, phase usable, LOCK of the member; the member's pseudorange in 0.02 m and
phase range in 0.5 mm (R113), the base's quantities (R69), elevation in degrees at the base, and σ0 at each end in µm: of the member's code and phase and
of the base's. -/
structure Usable where
  sig : Nat
  svid : Nat
  code : Bool
  phase : Bool
  lock : Nat
  p : Int := 0
  l : Int := 0
  basePsr : Int := 0
  basePhase : Int := 0
  baseDop : Int := 0
  elev : Nat := 0
  sigMem : Nat × Nat := (0, 0)
  sigBase : Nat × Nat := (0, 0)
  deriving DecidableEq, Repr

/-- All that the arithmetic of a cell works on for one member-epoch (R121 to R125): the filter as stored, its ambiguities, those set anew from the
double-differenced code with a variance in cycles² of its own, the time from the last solved epoch in ns, the density of the process noise in
0.001 m²/s³, a zero-velocity measurement in mm/s or none, TIME_OFS in 10 ns, epoch E in fleet ns, the reference antenna point in ECEF 0.1 mm, the
signals used, and the pivot of each signal code for code and for phase. -/
structure SolveJob where
  filt : Filt
  ambs : List Amb
  anew : List (Nat × Nat)
  anewVar : Nat
  dt : Nat
  psd : Nat
  still : Option Nat
  ofs : Int
  e : Nat
  ref : List Int
  obs : List Usable
  pivots : List (Nat × Option Nat × Option Nat)
  deriving DecidableEq, Repr

/-- What the innovation test computes (R131, R132): the statistic T in thousandths and each satellite (SYS, SVX) with its largest normalised
innovation in thousandths. -/
structure TestOut where
  t : Nat
  sats : List (Nat × Nat × Nat)
  deriving DecidableEq, Repr, Inhabited

/-- One search (R125): the integers found, the squared norms, the nodes visited, and after the fixed solution each double-differenced phase
residual in thousandths of its σ. -/
structure ArTry where
  ints : List (Nat × Nat × Int)
  q1 : Nat
  q2 : Nat
  nodes : Nat
  resid : List Nat
  deriving DecidableEq, Repr, Inhabited

/-- The filter after the float update (R121): its states and covariance, the float ambiguities. -/
structure FloatOut where
  filt : Filt
  vals : List (Nat × Nat × BitVec 64)
  deriving DecidableEq, Repr, Inhabited

/-- The solution that is output for a fix state (R134): position in ECEF 0.1 mm, velocity in ECEF 0.1 mm/s, and σ_major in µm, of the
covariance of that solution. -/
structure SolOut where
  ecef : List Int
  vel : List Int
  sigmaUm : Nat
  deriving DecidableEq, Repr, Inhabited

/-- A built correction epoch as a port still has to send it (R144 to R147): number, epoch and end of its build in fleet ns,
RTCM frames left, begun, first of a new reference point. -/
structure CorrEpoch where
  seq : Nat
  e : Nat
  built : Nat
  msgs : List (List Nat)
  begun : Bool := false
  newArp : Bool := false
  deriving DecidableEq, Repr

/-- A PPDU at a receiver (R150, R155, R166, R167): words with OVR since the last one, SIGNAL good, the start of its short training field at the balls in
fleet ns, the power of that field below full scale in dB, its SNR in dB, and its PSDU. -/
structure PpduIn where
  ovr : Nat
  signalOk : Bool
  ballNs : Nat
  power : Nat
  snr : Nat
  psdu : List Nat
  deriving DecidableEq, Repr

/-- An UP frame that verified (R187): member, generation, counters, hop SNR in dB, FC.OBS, its clear body,
its end at the antenna and the end of its entry in fleet ns. -/
structure UpIn where
  m : Nat
  kgen : Nat
  fcnt : Nat
  seq : Nat
  snr : Nat
  obs : Bool
  body : List Nat
  endNs : Nat := 0
  entryEnd : Nat := 0
  deriving DecidableEq, Repr

/-- A frame that came over relays (R202, R211): profile, zone of ORIG_SRC, hop sender and its SEQ, HOPS, the frame. -/
structure RelayIn where
  prof : Nat
  zone : Nat
  hop : Nat
  hopSeq : Nat
  hops : Nat
  up : UpIn
  deriving DecidableEq, Repr

/-- A JOIN_REQ (R193, R430): HINT and JCNT of its FCNT, KGEN, whether its MIC verifies under the key of entry HINT, SEQ and
SNR, the air address of the hop's sender, the member index of its SRC for KIND 1 and 2, the body's fields, the relay that brought it and the hops before that relay, its end and the end of its entry in fleet ns. -/
structure JoinIn where
  hint : Nat
  jcnt : Nat
  kgen : Nat
  micOk : Bool
  seq : Nat
  snr : Nat
  src : Nat
  id : Nat
  kind : Nat
  profile : Nat
  caps : Nat
  bodyKgen : Nat
  prev : Nat
  prevValid : Bool
  from_ : Nat := 0
  relay : Option Nat := none
  hops : Nat := 0
  endNs : Nat := 0
  entryEnd : Nat := 0
  deriving DecidableEq, Repr

/-- What the converters give of a V channel over a window (R407): RMS and fundamental RMS in mV, frequency in mHz, a sample at
full scale. -/
structure VoltWin where
  rms : Nat
  fund : Nat
  freq : Nat
  ovr : Bool
  deriving DecidableEq, Repr

/-- What the converters give of a dock over a window (R407): RMS and fundamental RMS of its current in mA, P in mW, P_f in mW
and Q_f in mvar of the fundamental bins, a sample at full scale. -/
structure DockWin where
  rms : Nat
  fund : Nat
  p : Int
  pf : Int
  qf : Int
  ovr : Bool
  deriving DecidableEq, Repr

/-- A window (R407): its length on the sample clock in ns, the three V channels, the twelve docks. -/
structure MeterWin where
  lenNs : Nat
  volts : List VoltWin
  docks : List DockWin
  deriving DecidableEq, Repr

/-- What the payload and the signature of an image show: the digest of the payload, its first byte lowest, and whether SIG verifies. -/
structure ImgSeen where
  digest : Nat := 0
  sigOk : Bool := true
  deriving DecidableEq, Repr

/-- An image (R453): the 256 bytes of its header, and what its payload and signature show. -/
structure Img where
  hdr : List Nat
  seen : ImgSeen := {}
  deriving DecidableEq, Repr

/-- An image of a TYPE with a header that vendor root key 0 signs, of the shortest payload: what bank A holds at first (DESIGN CHOICE, log entry 4). -/
def Img.made (t : Nat) : Img := { hdr := [0x46, 0x4E, 0x49, 0x31, 1, t, 0x80, 0, 0, 0, 0, 0, 4, 0, 0, 0] ++ List.replicate 240 0 }

/-- What comes from outside with a start-up: whether the retained copy of an image passes its check (R458), the cells that fail their test
(R13), and for GNSS_ACQ what the supervisor has retained (R64): the RTC's error in ms, the ages of the almanac and the ephemerides in s, the
error of the position in km; none where there is nothing of a kind. -/
structure StartIn where
  copyOk : Bool := true
  badCells : List Nat := []
  timeErrMs : Option Nat := none
  almanacAge : Option Nat := none
  ephAge : Option Nat := none
  posErrKm : Option Nat := none
  deriving DecidableEq, Repr

/-- What comes from outside with a write that starts something: whether a signature verifies, what payloads and signatures of the images in
staging show, in their order, and those of the image that a last recovery record completes, whether a lifecycle bit burns,
whether it is a poisoned write TLP (R346). -/
structure WrExt where
  sigOk : Bool := true
  set : List ImgSeen := []
  img : ImgSeen := {}
  burnOk : Bool := true
  poisoned : Bool := false
  deriving DecidableEq, Repr



/-- A DRAM_READ record in progress (R360): its tag and queue, the partition, the offset of the next data record and the bytes left. -/
structure DRead where
  tag : Nat
  queue : Nat
  part : Nat
  off : Nat
  left : Nat
  deriving DecidableEq, Repr


/-- What leaves the chip, one item each (the model's own record of its outputs). -/
inductive Out where
  | msix (vector : Nat)
  | supIrq (source : Nat)
  | flume (port : Nat) (f : FFrame) (wire : List Nat)
  | air (port : Nat) (headgate : Bool) (f : AirFrame)
  | canal (port : Nat) (m : CanalMsg) (wire : List (List Nat))
  | credit (port zone session : Nat) (l : List Credit) (wire : List Nat)
  | pfc (port mask quanta : Nat)
  | compl (src : Src) (c : Compl)
  | readData (src : Src) (value : Nat)
  | pin (name : String) (high : Bool)
  | arbRead (region requester value : Nat)
  | supFrame (port : Nat) (stampNs : Option Nat) (f : EthFrame)
  | peerPulse (width : Nat)
  | ptpFrame (port msgType seqId : Nat) (origin turn : Option Nat) (given : List Nat := [])
  | announce (port clockClass accuracy variance timeSource : Nat) (utcValid : Bool)
  | strobe (port line : Nat) (active : Bool) (atNs : Int)
  | strobeStay (port : Nat)
  | spi (port len word : Nat)
  | abortTrap (core ctx : Nat)
  | rcvReply (channel status arg next : Nat)
  deriving DecidableEq, Repr

end Sys2Proof.Machine
end

