-- ==== Sys2Proof/Syntax.lean ====
section
/-! DEFINITION. The commands: one constructor for each row of spec/opcode_table.json, with what the command carries from
outside the chip. What a command measures, receives or is told from outside is its operand; what the chip itself holds
is in the state. -/
namespace Sys2Proof
open Sys2Proof.Machine

/-- The commands of the FN512. -/
inductive Instr where
  /-- REGISTER_WRITE (R505): A write to a register that has no row of its own is checked and applied whole or discarded and counted in CFG_REFUSED. -/
  | registerWrite (src : Src) (addr value : Nat) (x : WrExt)
  /-- UNMAPPED_ACCESS (R38): An access of the wrong width or alignment, or to an undecoded address, reads 0xFFFFFFFF or is discarded, is counted in UNMAPPED and is recorded once per second. -/
  | unmappedAccess (src : Src) (addr : Nat) (write bad : Bool)
  /-- COUNTER_READ (R42): A read of a 64-bit counter's low word latches the high word for the source that read it. -/
  | counterRead (src : Src) (addr : Nat)
  /-- NOW_NS_READ (R81): A read of NOW_NS latches NOW_S_LO and NOW_S_HI for the reading source. -/
  | nowNsRead (src : Src)
  /-- BAR2_ACCESS (R40): A BAR2 access to window z is sent as a REG message to zone z, or fails as unmapped when that zone's chip is absent or unnumbered. -/
  | bar2Access (z addr value : Nat) (write : Bool) (x : WrExt)
  /-- TUNNEL_TIMEOUT (R381): A tunnel read or write not answered within TUN_TIMEOUT completes as unmapped, or is counted in TUN_WRITE_LOST. -/
  | tunnelTimeout (id : Nat)
  /-- CTRL_EN_WRITE (R43): A write of CTRL.EN drives the block state machine: it begins start-up or shut-down, or sets or clears a pending bit. -/
  | ctrlEnWrite (src : Src) (p : Page) (en : Bool)
  /-- CTRL_RESTART (R44): CTRL.RESTART takes the block through FAULT and ISOLATED; the region controller gates its clocks, clears, scrubs and tests its cells. -/
  | ctrlRestart (p : Page)
  /-- ISO_CLEAR (R45): CTRL.ISO_CLEAR allows one more restart of a block held ISOLATED. -/
  | isoClear (p : Page)
  /-- STARTUP_COMPLETE (R43): A block completes start-up and enters ON, or enters FAULT when its start-up self-test fails. -/
  | startupComplete (p : Page) (ok : Bool) (code : Nat) (x : StartIn)
  /-- STARTUP_SAFE_POINT (R43): A starting block with PEND_OFF set reaches its next safe point and begins shut-down. -/
  | startupSafePoint (p : Page)
  /-- SHUTDOWN_COMPLETE (R46): A stopping block completes its accepted operations and drains its FIFOs, then enters OFF or starts again if PEND_ON is set. -/
  | shutdownComplete (p : Page)
  /-- REGION_ISOLATE (R44): The region controller takes a faulted block, gates its clocks, scrubs it and holds it ISOLATED. -/
  | regionIsolate (p : Page) (lost : List (Nat × Nat)) (badCells : List Nat) (can : Bool)
  /-- BLOCK_AUTO_RESTART (R45): The region controller restarts an isolated block when the count of error entries to FAULT in 60 s permits, to STARTING or OFF by EN. -/
  | blockAutoRestart (p : Page)
  /-- CELL_ERROR (R52): A hardware error in a cell or block is classified, corrected or contained, counted, and escalated to block, region or chip. -/
  | cellError (p : Page) (cell cls code a0 a1 a2 : Nat)
  /-- LEVEL_RISE (R32): Once a higher level's units have all worked for 1 s without a break, the level rises to it at the next beacon. -/
  | levelRise
  /-- ERR_INJECT (R48): ERR_INJECT injects an error of the written class into a cell or the block logic, or the write is refused. -/
  | errInject (src : Src) (p : Page) (cls cell : Nat)
  /-- IRQ_FORCE (R54): Setting a bit in IRQ_FORCE sets the same bit in IRQ_STATUS. -/
  | irqForce (src : Src) (p : Page) (mask : Nat)
  /-- LOCK_WRITE (R40): LOCK.LOCKED makes CTRL.EN and the lockable fields read-only until chip reset. -/
  | lockWrite (src : Src) (p : Page)
  /-- VEC_ACK (R55): The host acknowledges an MSI-X vector, which sends again at once if a routed source still asserts. -/
  | vecAck (v : Nat)
  /-- TBL_READ (R49): The READ opcode returns a whole table entry as it stood at one instant. -/
  | tblRead (via : Via) (p : Page) (table i : Nat)
  /-- TBL_WRITE (R49): The WRITE opcode replaces a whole table entry at one instant, subject to the block's rules. -/
  | tblWrite (via : Via) (p : Page) (table i : Nat)
  /-- TBL_INSERT (R217): The INSERT opcode adds an entry by key, failing with EXISTS, NO_ROOM or a block code. -/
  | tblInsert (via : Via) (p : Page) (table i : Nat)
  /-- TBL_DELETE (R49): The DELETE opcode removes an entry by index or by key. -/
  | tblDelete (via : Via) (p : Page) (table i : Nat)
  /-- TBL_LOOKUP (R49): The LOOKUP opcode finds an entry by key and returns its index and content. -/
  | tblLookup (via : Via) (p : Page) (table i : Nat)
  /-- TBL_NEXT (R49): The NEXT opcode returns the next valid entry after INDEX. -/
  | tblNext (via : Via) (p : Page) (table i : Nat)
  /-- TBL_CMPWRITE (R49): The CMPWRITE opcode writes an entry only if its first 8 bytes equal TBL_KEY0-1, otherwise returns COMPARE and the current entry. -/
  | tblCmpwrite (via : Via) (p : Page) (table i : Nat)
  /-- TAG_COMPLETION (R50): A tagged operation's completion record is written when the completion path has room, freeing its tag. -/
  | tagCompletion
  /-- REFCLK_LOST (R16): A monitor window counting REFCLK edges out of range declares REFCLK lost, forces strobes low, gates clocks and switches the PLLs to AUXCLK. -/
  | refclkLost (refEdges auxEdges : Nat)
  /-- PLL_RELOCK (R16): After an input switch the ROOT and DRAM PLLs relock, clocks are released together and fleet time is advanced by the gap. -/
  | pllRelock (rcCycles : Nat)
  /-- REF_GOOD_10S (R19): REFCLK has counted good for 10 s without a break, so REF_OK reads 1. -/
  | refGood10s
  /-- RETURN_REQ (R19): A write of ROOT_SEL.RETURN_REQ arms the return of the root to REFCLK, or is ignored. -/
  | returnReq
  /-- ROOT_RETURN (R19): At the next slot that is IDLE on every ON port the armed return to REFCLK is made with a clock gap. -/
  | rootReturn
  /-- RETURN_FAIL (R19): No common IDLE slot came within one superframe, so RETURN_FAIL is set and the root stays on AUXCLK. -/
  | returnFail
  /-- AUXCLK_LOST (R20): A monitor window declares AUXCLK lost: the Ethernet and Canal ports go down, and on AUXCLK the root switches to REFCLK if good. -/
  | auxclkLost (refEdges auxEdges : Nat)
  /-- ROOT_INPUT_RECOVERED (R20): A window in which an input counts good relocks the PLLs to it and releases the clocks, with DRAM restarted if its refresh lead was exceeded. -/
  | rootInputRecovered (refEdges auxEdges rcCycles : Nat)
  /-- DRAM_SCRUB_PASS (R25): With SCRUB_EN the DRAM block reads and checks the whole usable space once every 24 h. -/
  | dramScrubPass (corrected : Nat) (bad : List Nat)
  /-- DRAM_TRAINING_DONE (R24): The device is trained and the usable space written with check bits, and DRAM enters ON, or TRAINING is raised. -/
  | dramTrainingDone (pass : Bool)
  /-- SUP_RESTART (R35): SUP_CTRL.RESTART reloads the supervisor image from DRAM or flash, checks it against M_sup and releases the core. -/
  | supRestart
  /-- SUP_HOLD (R35): SUP_CTRL.HOLD := 1 holds the supervisor core in reset, and HOLD := 0 releases it as for a restart. -/
  | supHold (hold : Bool)
  /-- SUP_RELEASE (R35): The supervisor image load completes and the core is released at ENTRY, incrementing the SUPERVISOR generation. -/
  | supRelease (copyOk flashOk : Bool)
  /-- CHIP_RESET_GO (R35): CHIP_RESET.GO by token resets the main domain as PORST_N does, and the Headgate raises CHIP_RESET. -/
  | chipResetGo
  /-- BUNDLE_ASSEMBLY (R27): 2 ms before each DOWN_BCAST slot MOTION computes set-points for the group from the latest delivered fixes and builds the bundle. -/
  | bundleAssembly (p : Nat) (g : Nat) (late : List Nat)
  /-- ANT_CURRENT_CLASSIFY (R58): The LNA supply current is classified OPEN, OK or SHORT, and on SHORT PWR_EN is cleared within 1 ms and an event recorded. -/
  | antCurrentClassify (ant current : Nat)
  /-- INTERF_SET (R59): A path's AGC gain stays more than INTERF_DB below its reference for 1 s, setting INTERF. -/
  | interfSet (ant upper lower refUpper refLower : Nat)
  /-- INTERF_CLEAR (R59): The gain stays within INTERF_DB of the reference for 10 s, clearing INTERF. -/
  | interfClear (ant upper lower refUpper refLower : Nat)
  /-- ACQ_PASS (R61): Once a second the allocator assigns enabled signals above the mask to free channels and moves groups between antennas. -/
  | acqPass (sky : List SkySig)
  /-- CHANNEL_LOCK (R62): A channel in PULL_IN reaches code and carrier lock and enters TRACK. -/
  | channelLock (c : Nat)
  /-- PULL_IN_TIMEOUT (R62): A channel without lock within 2 s returns its signal to the acquisition list and goes IDLE. -/
  | pullInTimeout (c : Nat)
  /-- CYCLE_SLIP (R62): A tracking channel detects a cycle slip, resets LOCK_MS and flags its next record. -/
  | cycleSlip (c : Nat)
  /-- TRACK_LOSS (R62): C/N0 below 20 dB-Hz for 1 s, or loss of code lock, makes a channel coast in LOST. -/
  | trackLoss (c : Nat)
  /-- CHANNEL_RELOCK (R62): A LOST channel relocks within 10 s and returns to TRACK with CYCLE_SLIP set. -/
  | channelRelock (c : Nat)
  /-- LOST_TIMEOUT (R62): A channel LOST for 10 s, or whose satellite falls below the mask, releases its signal and goes IDLE. -/
  | lostTimeout (c : Nat) (belowMask : Bool)
  /-- POLARITY_RESOLVED (R63): A data-only signal resolves its data polarity, so phase becomes valid and lock time starts counting. -/
  | polarityResolved (c : Nat)
  /-- MEAS_STROBE (R66): At each whole multiple of the measurement period every TRACK channel latches one record at the strobe instant. -/
  | measStrobe (meas : List MeasIn)
  /-- EPOCH_COMPLETE (R70): GNSS_MEAS completes the epoch within 400 us and sends it to OBS_IN, the ring, the archive and the host, or withholds it from SOLVE. -/
  | epochComplete (clkResid : Option Nat) (geom : List SigGeom)
  /-- SPOOF_CLEAR (R77): A host W1C of CONSIST_STATUS.SPOOF clears it, unless SPOOF_NOW is 1. -/
  | spoofClear
  /-- SURVEY_START (R74): SURVEY_START begins a self-survey while MODE = 2 and no survey runs. -/
  | surveyStart
  /-- SURVEY_SECOND (R74): Each second the survey forms a code position, accepts it or not, and converges when n and sigma meet their limits. -/
  | surveySecond (x y z : Int)
  /-- SURVEY_TIMEOUT (R74): SURVEY_MAX_DUR passes before convergence, so SURVEY_STATE := FAILED. -/
  | surveyTimeout
  /-- TIME_SOURCE_MEASURE (R84): Once per source interval SENSE/TIME measures e, qualifies or loses the source, selects a source or refuses, and sets the slew offset. -/
  | timeSourceMeasure (src : Nat) (ptp : Option Int) (slave : Bool) (cls : Nat)
  /-- SLEW_COMPLETE (R84): The correction applied reaches the measured e and the rate offset returns to zero. -/
  | slewComplete
  /-- TQ_EVALUATE (R94): Every 10 ms u is evaluated and the instantaneous and reported TQ updated. -/
  | tqEvaluate
  /-- REFUSED_TIMEOUT (R85): No source has qualified for 10 s in REFUSED, so STATE returns to HOLDOVER. -/
  | refusedTimeout
  /-- GAP_ALLOW_EXPIRY (R89): 10 s after a clock gap GAP_ALLOW clears if no measurement has cleared it. -/
  | gapAllowExpiry
  /-- STEP_TO_SOURCE (R90): The STEP_TO_SOURCE token steps by the last e of the best qualified source, with every member held. -/
  | stepToSource
  /-- STEP_BY_OFFSET (R90): The STEP_BY_OFFSET token steps fleet time by STEP_OFS, with every member held. -/
  | stepByOffset (ofs : Option Int)
  /-- ACCEPT_FREE (R90): The ACCEPT_FREE token declares the free-running time stepped and enters HOLDOVER from UNSET. -/
  | acceptFree
  /-- SLEW_ACCEPT (R90): The SLEW_ACCEPT token selects the refused source and slews the whole e at SLEW_LIMIT. -/
  | slewAccept
  /-- TIME_STEP_APPLY (R91): At the end of the current superframe an accepted step changes fleet time in one update and increments EPOCH. -/
  | timeStepApply
  /-- REBASE_COMPLETE (R92): The lease engine's atomic re-base pass ends, held operations are applied and STEP_PEND clears. -/
  | rebaseComplete
  /-- PPS_EDGE (R101): PPS_OUT makes its active edge COMP ns before each whole fleet second. -/
  | ppsEdge
  /-- PTP_EVENT_RX (R102): An ETH port receives a PTP event message and time-stamps it. -/
  | ptpEventRx (port : Nat) (f : EthFrame)
  /-- PTP_EVENT_TX (R102): An ETH port sends a PTP event message, time-stamps it, inserts one-step fields and queues a transmit time-stamp. -/
  | ptpEventTx (port msgType domain seqId : Nat) (oneStep : Bool)
  /-- TXTS_POP (R109): An owner read of TXTS_W3 pops the head of the transmit time-stamp queue. -/
  | txtsPop (src : Src) (port : Nat)
  /-- MEMBER_EPOCH_READY (R116): A member-epoch becomes ready when both its observation and its base epoch are present, and its deadline is set. -/
  | memberEpochReady (m : Nat)
  /-- CELL_TAKE (R118): A free solver cell takes the eligible queued member-epoch with the earliest deadline. -/
  | cellTake (cell : Nat)
  /-- DEADLINE_DROP (R118): A member-epoch still queued at its deadline is dropped and counted. -/
  | deadlineDrop (m : Nat)
  /-- SOLVE_COMPLETE (R127): A cell completes a member-epoch and releases its fix record and notices, replacing the stored state in one step. -/
  | solveComplete (cell cycles : Nat)
  /-- CELL_WATCHDOG (R119): A cell reaches 2,000,000 cycles on one member-epoch, raises CONTAINED and gives it up for a requeue or drop. -/
  | cellWatchdog (cell : Nat)
  /-- RTK_CAPACITY_EVAL (R128): Each whole second RTK_CTRL computes demand and capacity and applies or undoes a shedding step. -/
  | rtkCapacityEval
  /-- SIGNAL_ABSENT_TIMEOUT (R124): A signal absent for 10 s is removed from the member's state. -/
  | signalAbsentTimeout (m : Nat) (sig : Nat) (svid : Nat)
  /-- MEMBER_STATE_TIMEOUT (R124): No epoch of a member solved for 10 s clears its whole state. -/
  | memberStateTimeout (m : Nat)
  /-- BASE_LOST (R140): No base epoch delivered for BASE_LOSS ms sets BASE_LOST and makes the CENTIMETRE row unmet. -/
  | baseLost
  /-- CORR_BUILD (R144): From an eligible base epoch CORR_OUT builds the ARP and MSM messages of a correction epoch within 1 ms. -/
  | corrBuild
  /-- CORR_ENTRY (R146): At a CORR slot start the port discards aged epochs and fills one CORR frame with whole RTCM messages. -/
  | corrEntry (p : Nat) (i : Nat)
  /-- FRAMING_LOCK (R152): The receiver sees both SYNC fields in 64 consecutive words and enters framing lock. -/
  | framingLock (p : Nat)
  /-- FRAMING_LOSS (R152): Four wrong SYNC words lose framing lock, end any PPDU being received and raise CONTAINED unless in a clock gap. -/
  | framingLoss (p : Nat)
  /-- PPDU_TX (R153): A PPDU is sent with its strobes driven at the times of STROBE_T0 and STROBE_T1. -/
  | ppduTx (p : Nat) (rate : Nat) (len : Nat)
  /-- PPDU_RX (R166): A PPDU is received and its SIGNAL checked, and its PSDU passed up with start and end time-stamps, or it is discarded. -/
  | ppduRx (p : Nat) (rate : Nat) (y : PpduIn)
  /-- SPI_TXN_GO (R157): SPI_TXN.GO requests a direct transceiver transaction, run after any transaction in progress. -/
  | spiTxnGo (p : Nat) (len : Nat)
  /-- SPI_TXN_DONE (R157): An SPI transaction completes, its MISO word goes to SPI_RX and DONE is set. -/
  | spiTxnDone (p : Nat) (miso : Nat)
  /-- HEALTH_CHECK (R158): Every 100 ms the port sends HEALTH_CMD and compares the answer, entering FAULT after 3 failures. -/
  | healthCheck (p : Nat) (miso : Nat)
  /-- AIRPORT_START_TIMEOUT (R160): A port start not complete within its bound, or without framing lock 1 ms after step 4, raises UNCONTAINED and enters FAULT. -/
  | airportStartTimeout (p : Nat)
  /-- TX_PATH_GRANT (R162): The Headgate obtains a port's transmit path at the end of the PPDU in progress. -/
  | txPathGrant (p : Nat)
  /-- PORT_SVC_START (R163): When AIRPORT and SLUICE are ON with their engine, the port service state goes STARTING and prepares the first beacon. -/
  | portSvcStart (p : Nat)
  /-- PORT_SVC_FAULT (R163): An engine removal, a FAULT of AIRPORT or SLUICE, or 3 superframes without a beacon put the port's service state in FAULT. -/
  | portSvcFault (p : Nat)
  /-- FAULT_CLR (R163): PORT_CTRL.FAULT_CLR returns a faulted port to STARTING if every condition holds, otherwise it is ignored and counted. -/
  | faultClr (p : Nat)
  /-- SUPERFRAME_BOUNDARY (R168): At each superframe boundary SFN increments, an armed bank swaps, the beacon goes on air and level changes take effect. -/
  | superframeBoundary
  /-- SLUICE_BANK_CLEAR (R173): The CLEAR opcode invalidates every entry of an inactive, unarmed bank. -/
  | sluiceBankClear (via : Via) (p bank : Nat)
  /-- BANK_ARM (R174): BANK_CTRL.ARM checks the inactive bank, arms it and queues ASSIGN and RELAY_MAP records, or reports ARM_ERR. -/
  | bankArm (p : Nat)
  /-- BANK_CANCEL (R175): BANK_CTRL.CANCEL disarms the bank, withdraws the queued ASSIGNs and stops the announcement. -/
  | bankCancel (p : Nat)
  /-- UP_FRAME_RX (R187): A verified UP frame is acknowledged and delivers its observation, trailer and message records, or is a duplicate or replay. -/
  | upFrameRx (p : Nat)
  /-- ACK_RX (R184): An ACK matching DST, SRC and SEQ arrives for a frame the FN512 sent. -/
  | ackRx (p : Nat)
  /-- ACK_MISSING (R186): No ACK begins within 56 us of a unicast frame, so it is queued for repeat or dropped after 3 repeats. -/
  | ackMissing (p seq : Nat)
  /-- JOIN_REQ_RX (R431): A JOIN_REQ is verified under its hint's key, acknowledged and delivered to the registry, or refused with a JOIN_RESP. -/
  | joinReqRx (p : Nat)
  /-- DOWN_BCAST_ENTRY (R190): In a DOWN_BCAST entry the FN512 sends the group's bundle, then pending JOIN_RESP and DOWN frames that fit. -/
  | downBcastEntry (p i : Nat)
  /-- UP_ENTRY_END (R199): A member's UP_MEMBER entry ends without an accepted frame and counts as missed, reporting SILENT at 3. -/
  | upEntryEnd (p i : Nat)
  /-- RELAYED_FRAME_RX (R211): A relayed frame is verified, delivered as from ORIG_SRC and offers a learned route. -/
  | relayedFrameRx (p : Nat)
  /-- ROUTE_AGE_TICK (R216): At each whole fleet second AGE of every non-STATIC route increases by 1. -/
  | routeAgeTick
  /-- ROUTE_SCAN_STEP (R216): Every 10 us the ageing and shadow scan visits one entry, removes aged entries and compares with the shadow. -/
  | routeScanStep
  /-- ROUTE_REPACK (R217): The REPACK opcode checks new bank lengths and moves entries between banks while lookups continue. -/
  | routeRepack (via : Via)
  /-- REPACK_COMPLETE (R217): A REPACK finishes its moves, applies held operations and sets REPACK_DONE. -/
  | repackComplete
  /-- ROUTE_ECC_HOLD_EXPIRY (R221): One second after a ROUTE restart the forced ECC mode ends. -/
  | routeEccHoldExpiry
  /-- LEARN_RX (R220): A received LEARN updates the routes of a roamed member and reports a departure to the registry. -/
  | learnRx (m : LearnMsg)
  /-- FLOOD_SEEN_AGE (R225): A seen-cache pair ages out 10 s after it was last seen. -/
  | floodSeenAge (src : Nat) (seq : Nat)
  /-- FURROW_OPEN (R233): The FURROW_OPEN opcode takes a free build slot for a request header and returns its handle. -/
  | furrowOpen (via : Via)
  /-- FURROW_STEPS (R233): The FURROW_STEPS opcode writes 1 to 4 build steps into an open slot. -/
  | furrowSteps (via : Via)
  /-- FURROW_SUBMIT (R235): The FURROW_SUBMIT opcode checks the request and grants it locally or begins cross-zone reservation, or refuses it. -/
  | furrowSubmit (via : Via)
  /-- FURROW_RELEASE (R251): The FURROW_RELEASE opcode frees every step from POS p that has not begun, with its TLOCKs and foreign steps. -/
  | furrowRelease (via : Via)
  /-- CLEAR_OVERSTAY (R247): The CLEAR_OVERSTAY opcode frees an OVERSTAY entry on the host's word. -/
  | clearOverstay (via : Via)
  /-- ABANDON (R233): The ABANDON opcode frees a build slot. -/
  | abandon (via : Via)
  /-- BUILD_TIMEOUT (R234): A build slot without OPEN or STEPS for BUILD_TIMEOUT is freed and counted. -/
  | buildTimeout (handle : Nat)
  /-- PREPARE_RX (R243): A PREPARE from another zone is checked against this zone's records and answered with a VOTE. -/
  | prepareRx (m : LeaseMsg)
  /-- VOTE_RX (R242): A VOTE reaches the initiating zone, which prepares the next zone, sends COMMIT or aborts. -/
  | voteRx (m : LeaseMsg)
  /-- COMMIT_RX (R240): A COMMIT turns a PREPARED part GRANTED and is answered with COMMIT_ACK. -/
  | commitRx (m : LeaseMsg)
  /-- COMMIT_ACK_RX (R240): COMMIT_ACKs from every zone make a COMMITTING furrow GRANTED, or a NOT_PREPARED answer releases it. -/
  | commitAckRx (m : LeaseMsg)
  /-- COMMITTED_RX (R240): A COMMITTED notice from another zone counts toward making a cross-zone furrow COMMITTED. -/
  | committedRx (m : LeaseMsg)
  /-- ABORT_RX (R240): An ABORT frees a PREPARED part. -/
  | abortRx (m : LeaseMsg)
  /-- LEASE_RELEASE_RX (R243): A LEASE-class RELEASE frees the named steps of a part and is acknowledged. -/
  | leaseReleaseRx (m : LeaseMsg)
  /-- STEP_DONE_RX (R250): A STEP_DONE from the initiating zone frees the owning zone's step. -/
  | stepDoneRx (m : LeaseMsg)
  /-- STEP_OVERSTAY_RX (R250): A STEP_OVERSTAY from the initiating zone turns the owning zone's step to OVERSTAY. -/
  | stepOverstayRx (m : LeaseMsg)
  /-- TAKEOVER_RX (R244): A TAKEOVER frees PREPARED parts and parts committed after the cut, and resends COMMITTED. -/
  | takeoverRx (m : LeaseMsg)
  /-- XFER_DEADLINE (R240): A PREPARING furrow or PREPARED part reaches its DEADLINE, or a COMMITTING one misses an ack at DEADLINE + P, and is freed or released. -/
  | xferDeadline (xid : Nat)
  /-- COMMITTED_TIMEOUT (R240): A cross-zone GRANTED furrow still lacking a COMMITTED notice 2 P after the grant is released and LOST. -/
  | committedTimeout (xid : Nat)
  /-- STEP_DUE (R246): At end + GRACE a step is freed if the member is not on it, or becomes OVERSTAY with BLOCKED reports. -/
  | stepDue (i : Nat)
  /-- REPORT_WAIT_EXPIRY (R250): No STEP message by end + GRACE + REPORT_WAIT makes the owning zone's step OVERSTAY. -/
  | reportWaitExpiry (i : Nat)
  /-- LOST_CLR (R252): LEASE_CTRL.LOST_CLR clears LEASE_STATUS.LOST after the host rebuilt the table. -/
  | lostClr (src : Src)
  /-- OWNER_FORFEIT (R257): A generation increment is applied as one forfeit decision that frees or orphans the old generation's locks, sequences and steps. -/
  | ownerForfeit (i : Nat)
  /-- HOST_GEN_BUMP (R256): HOST_GEN.BUMP increments the host generation. -/
  | hostGenBump
  /-- TLOCK_START (R259): A RESERVED turnout lock reaches its START and becomes ACTIVE. -/
  | tlockStart (i : Nat)
  /-- TLOCK_END (R259): An ACTIVE turnout lock reaches its end and is freed, or stays OPEN while a step overstays. -/
  | tlockEnd (i : Nat)
  /-- TURNOUT_TAKE (R260): The TAKE opcode takes a direct lock on a turnout, or completes BUSY or REFUSED. -/
  | turnoutTake (via : Via)
  /-- TURNOUT_DROP (R260): The DROP opcode drops the holder's direct lock. -/
  | turnoutDrop (via : Via)
  /-- ORPHAN_CLEAR (R260): The ORPHAN_CLEAR opcode frees an ORPHAN_HELD lock on the host's word. -/
  | orphanClear (via : Via)
  /-- SEQ_OPEN (R262): The SEQ_OPEN opcode locks an index range of a target table for a table sequence. -/
  | seqOpen (via : Via)
  /-- SEQ_STAGE (R262): The SEQ_STAGE opcode stages a whole entry in the sequence's batch. -/
  | seqStage (via : Via)
  /-- SEQ_COMMIT (R262): The SEQ_COMMIT opcode checks the batch and applies it whole in one decision, or reports BATCH_INVALID. -/
  | seqCommit (via : Via)
  /-- SEQ_DISCARD (R261): The SEQ_DISCARD opcode empties the batch and unlocks the range. -/
  | seqDiscard (via : Via)
  /-- SEQ_TIMEOUT (R263): A sequence without OPEN or STAGE for SEQ_TIMEOUT is discarded. -/
  | seqTimeout (handle : Nat)
  /-- REGISTRY_RELEASE (R267): The RELEASE opcode clears the masked hold causes, or refuses with CAUSE_ACTIVE or STEP_PEND. -/
  | registryRelease (via : Via)
  /-- REGISTRY_HOLD (R267): The HOLD opcode sets the cause REQUEST on a member. -/
  | registryHold (via : Via)
  /-- EVICT (R265): The EVICT opcode frees a member's index, increments its generation and queues a LEAVE. -/
  | evict (via : Via)
  /-- NO_POSITION_TIMEOUT (R269): A member with a valid set-point and no position used for STALE_SF superframes is held under NO_POSITION. -/
  | noPositionTimeout (m : Nat)
  /-- MOVE_ADD (R271): The MOVE_ADD opcode queues a move for a member, or completes with a block error. -/
  | moveAdd (via : Via)
  /-- MOVE_FLUSH (R273): The MOVE_FLUSH opcode removes every move that is not ACTIVE. -/
  | moveFlush (via : Via)
  /-- SET_LIMITS (R284): The SET_LIMITS opcode overwrites limits of queued moves and raises A_DEC of the ACTIVE move. -/
  | setLimits (via : Via)
  /-- STOP_INPUT_FILTERED (R290): An ESTOP or HOLD_N level held for F becomes active or inactive after filtering, raising its cause when active. -/
  | stopInputFiltered (input : Nat) (active : Bool)
  /-- DISCREPANCY (R291): The two ESTOP channels differ after filtering for 20 ms, raising DISCREPANCY. -/
  | discrepancy
  /-- STOP_REQ (R293): A write of STOP_REQ raises the HOST, SUPERVISOR or ALLOTMENT cause at the highest requested class. -/
  | stopReq (src : Src) (req : Nat)
  /-- BURST_FRAME (R297): At its slot boundary the Headgate sends the next STOP frame of its burst set on every ON port. -/
  | burstFrame
  /-- HG_BEACON (R299): At B − 200 us with CLASS not NONE and no beacon posted by the engine, the Headgate sends the beacon at B. -/
  | hgBeacon (port : Nat)
  /-- HG_KEY_LOAD (R295): KEYSTORE loads the Headgate's zone key copy, and every set is rebuilt. -/
  | hgKeyLoad
  /-- CANAL_STOP_RX (R300): A Canal STOP message is checked against recent pairs, raises REMOTE and is forwarded out of the other port. -/
  | canalStopRx (port unit mseq : Nat) (m : StopMsg)
  /-- OUTPUT_TEST_PULSE (R292): Once per second each high STOP output is pulsed low for 300 us. -/
  | outputTestPulse (outB : Bool)
  /-- OUTPUT_READBACK_ERROR (R292): A STOP output ball that reads other than driven for 2 us raises READBACK and GATE_FAULT. -/
  | outputReadbackError (outB : Bool)
  /-- RESUME_ARM (R303): An ARM token arms the resume and opens a 5,000 ms window, or is refused. -/
  | resumeArm
  /-- RESUME_RELEASE (R304): A RELEASE token with the current ARM_TAG clears every cause and sets CLASS NONE, or is refused. -/
  | resumeRelease (tag : Nat)
  /-- ARM_WINDOW_EXPIRY (R304): The resume window ends without a RELEASE, disarming with EXPIRED. -/
  | armWindowExpiry
  /-- HG_SELFTEST (R307): Every 10 s the Headgate self-tests its sequencer and frame memory. -/
  | hgSelftest (ok : Bool)
  /-- HG_POWER_ON (R308): The Headgate leaves its VDD_GATE power-on reset, self-tests and sets CLASS STOP with reason POWER_ON. -/
  | hgPowerOn (ok : Bool)
  /-- DP_TAKE (R318): A read of DP_TAKE moves the next deliverable item into the lowest free context. -/
  | dpTake (core : Nat)
  /-- ITEM_DONE (R316): A write of DONE marks an item done and releases it and later items of its flow in order. -/
  | itemDone (core ctx : Nat)
  /-- EMIT_CMD (R320): A write of EMIT_CMD stages an emit to a member, flow or host, with its payload copied to the pool. -/
  | emitCmd (core ctx dest kind target arg : Nat) (body : List Nat)
  /-- ITEM_TIMEOUT (R317): An item in a context beyond ITEM_TIMEOUT or CLASS0_TIMEOUT is aborted, forfeiting the context's generation. -/
  | itemTimeout (core ctx : Nat)
  /-- DISPATCH_POST (R314): The POST opcode enqueues a host work item with a payload of up to 48 bytes. -/
  | dispatchPost (via : Via)
  /-- TIMER_FIRE (R321): A dispatcher timer fires at AT, posts an item and advances by PERIOD or clears EN. -/
  | timerFire (t : Nat)
  /-- TRACE_SYNC (R322): At every whole fleet second the dispatcher writes a SYNC trace record. -/
  | traceSync
  /-- TASK_CREATE (R328): The CREATE opcode writes a task into the lowest FREE index and returns its ID. -/
  | taskCreate (via : Via)
  /-- TASK_OFFER (R328): The OFFER opcode offers an OPEN task to a member or to any, with a CLAIM_BY. -/
  | taskOffer (via : Via)
  /-- TASK_CLAIM (R331): The CLAIM opcode claims an offered task for a member, refusing with DOCK_BUSY or TAKEN. -/
  | taskClaim (via : Via)
  /-- TASK_START (R331): The START opcode makes a claimed task ACTIVE and takes the dock's import reading for CHARGE. -/
  | taskStart (via : Via)
  /-- TASK_FINISH (R328): The FINISH opcode ends an ACTIVE task as DONE or FAILED. -/
  | taskFinish (via : Via)
  /-- TASK_WITHDRAW (R328): The WITHDRAW opcode withdraws a live task and tells its holder. -/
  | taskWithdraw (via : Via)
  /-- TASK_FREE (R328): The FREE opcode frees a finished task and increments its GEN. -/
  | taskFree (via : Via)
  /-- TASK_DEADLINE (R330): A task reaches CLAIM_BY and lapses to OPEN, or reaches DUE and fails OVERDUE. -/
  | taskDeadline (i : Nat)
  /-- CHARGE_ENERGY_TICK (R331): Once per second an ACTIVE CHARGE task's ENERGY is updated, with ENERGY_REACHED or METER_INVALID events. -/
  | chargeEnergyTick
  /-- ARB_REQUEST (R335): A requester's transaction request is granted or parked in its 4-entry pending queue. -/
  | arbRequest (region r beats : Nat) (write : Bool) (target : Option Page)
  /-- ARB_GRANT_END (R333): A grant ends at the last beat or the burst limit, and the arbiter decides the next grant. -/
  | arbGrantEnd (region : Nat)
  /-- ARB_WITHDRAW (R336): A requester withdraws a parked or just-granted request, the latter costing one dead cycle. -/
  | arbWithdraw (region r : Nat) (parked : Option Nat)
  /-- QUOTA_WINDOW (R334): A new quota window begins and every masked requester is unmasked. -/
  | quotaWindow (region : Nat)
  /-- FREEZE_WRITE (R338): A write of ARB_CTRL.FREEZE stops or resumes new grants in the region. -/
  | freezeWrite (region : Nat) (src : Src) (on : Bool)
  /-- FREEZE_TIMEOUT (R338): FREEZE_MAX ms after it was set FREEZE ends, is counted and recorded. -/
  | freezeTimeout (region : Nat)
  /-- LW_CLR (R339): ARB_CTRL.LW_GO restarts LONGEST_WAIT of the named requester. -/
  | lwClr (region r : Nat)
  /-- PCIE_LINK_DOWN (R346): PERST_N, a link down or a hot reset returns PCIE to reset and increments the host generation. -/
  | pcieLinkDown (perst : Bool)
  /-- PCIE_FLR (R346): A function-level reset returns configuration space and MSI-X table to reset and increments the host generation. -/
  | pcieFlr
  /-- FLUME_FRAME_RX (R347): A received Flume DATA frame is checked and accepted in sequence, its records executed, or it is discarded. -/
  | flumeFrameRx (port : Nat) (f : EthFrame) (i : ImgSeen)
  /-- CREDIT_RX (R356): A CREDIT frame from the host updates WINDOW and ACK_SEQ of the named queues. -/
  | creditRx (port session : Nat) (l : List Credit)
  /-- FLUME_FLUSH (R349): FLUSH_US after its first record a DATA frame is closed and sent when its window allows. -/
  | flumeFlush (queue : Nat)
  /-- FLUME_RETX_TIMEOUT (R354): ACK_SEQ has not advanced for RETX_TIMEOUT, so every unacknowledged frame is sent again. -/
  | flumeRetxTimeout (queue : Nat)
  /-- CREDIT_SEND (R356): The FN512 sends a CREDIT frame within CREDIT_PERIOD of a change, and at least every 10 ms. -/
  | creditSend
  /-- HOST_TIMEOUT (R356): No host frame of the current session for HOST_TIMEOUT clears HOST_SEEN. -/
  | hostTimeout
  /-- FLUME_STALL (R351): A chip-to-host queue that held data with WINDOW = 0 for 10 ms sets its STALL event. -/
  | flumeStall (queue : Nat)
  /-- QEV_CLR (R351): QEV_CLR.GO clears the events of the named queue. -/
  | qevClr (queue : Nat)
  /-- PFC_RX (R357): A received PFC frame pauses or resumes the named priorities. -/
  | pfcRx (port mask : Nat) (quanta : List Nat)
  /-- PFC_XOFF_REPEAT (R357): While the receive buffer is above PFC_XOFF the port repeats its pause every 250 us. -/
  | pfcXoffRepeat (port : Nat)
  /-- ETH_LINK_CHANGE (R364): An ETH link goes up or down, and queues with PORT_SEL 2 move their frames to the other port. -/
  | ethLinkChange (port : Nat) (up anDone : Bool)
  /-- CANAL_TRAINED (R369): A Canal port gains block lock, deskew and a matching HELLO within 2 ms and goes UP, or REFUSED on another SITE_ID. -/
  | canalTrained (port : Nat) (h : Hello) (laneSwap : Bool)
  /-- CANAL_TRAIN_TIMEOUT (R369): Training without lock for 2 ms is counted and restarted. -/
  | canalTrainTimeout (port : Nat)
  /-- CANAL_LINK_FAIL (R369): An UP port without a good flit for 4 us, losing block lock or failing 8 replays returns to TRAINING and re-routes its messages. -/
  | canalLinkFail (port : Nat) (lockLost : Bool)
  /-- CANAL_REPLAY_TIMEOUT (R368): ACKSEQ has not advanced for 1 us, so unacknowledged flits are sent again. -/
  | canalReplayTimeout (port : Nat)
  /-- CANAL_MESSAGE_RX (R372): A Canal message completes at a chip, is checked for duplicates, delivered and forwarded toward its destination. -/
  | canalMessageRx (port : Nat) (m : CanalMsg) (x : WrExt)
  /-- ENUM_RX (R374): A chip receiving ENUM takes its number, or records RING_MISMATCH, and forwards the notice. -/
  | enumRx (port count : Nat) (own : Bool)
  /-- ENUM_TIMEOUT (R374): ENUM not back within 10 ms makes the head send ENUM west when RING_SIZE is set. -/
  | enumTimeout
  /-- RING_NOTICE_RX (R376): A BREAK or LINK_UP notice updates the chip's ring map and is rebroadcast. -/
  | ringNoticeRx (port link : Nat) (up : Bool)
  /-- ISLAND (R378): Both ports down, or two positions unreachable, for ISLAND_TIME raises ISLAND and a STOP of ISLAND_CLASS. -/
  | island
  /-- DELAY_REQ (R379): Every 10 ms each UP port sends DELAY_REQ to its neighbour. -/
  | delayReq (port : Nat)
  /-- DELAY_RESP_RX (R379): A DELAY_RESP yields one link delay result and updates LINK_DELAY and DELAY_VALID. -/
  | delayRespRx (port t1 t2 t3 : Nat)
  /-- TIME_MESSAGE_SEND (R380): The head sends a TIME message at every multiple of 62.5 ms of fleet time. -/
  | timeMessageSend
  /-- TIME_MESSAGE_RX (R380): A TIME message is corrected for delay, forwarded and used as the CANAL source measurement. -/
  | timeMessageRx (port hops timeS timeNs corr uncert epoch tq mseq origin unit : Nat)
  /-- REG_MESSAGE_RX (R381): A REG message applies a tunnelled access at the target chip and returns the answer to the head. -/
  | regMessageRx (m : CanalMsg) (x : WrExt)
  /-- PEER_ALIVE_PULSE (R388): Every 10 ms PAIR drives PEER_ALIVE_OUT with the width of its condition. -/
  | peerAlivePulse
  /-- PEER_PULSE_RX (R388): A PEER_ALIVE_IN pulse is read and PEER_STATE updated. -/
  | peerPulseRx (width : Nat)
  /-- PEER_PULSE_MISSED (R388): No pulse edge for 30 ms sets PEER_STATE NONE and counts PULSE_MISSES. -/
  | peerPulseMissed
  /-- PAIR_KICK (R388): PAIR_CTRL.KICK shows supervisor liveness for the active unit's pulses. -/
  | pairKick
  /-- PAIR_RESET_ROLE (R387): 30 ms after reset a PAIRED unit goes COLD if a partner claim is seen, otherwise the primary claims. -/
  | pairResetRole
  /-- CLAIM_CHECK (R389): 50 us after asserting its claim a unit reads the partner's line and the secondary withdraws on conflict. -/
  | claimCheck
  /-- CLAIM_LINE_CHANGE (R389): A change of the partner's claim line opens or closes the transmit gate. -/
  | claimLineChange (asserted : Bool)
  /-- PAIR_WARM (R387): A write of PAIR_CTRL.WARM starts or gates the standby's regions. -/
  | pairWarm (on : Bool)
  /-- PAIR_TAKE (R387): PAIR_CTRL.TAKE by token lets a secondary claim the zone without a checkpoint. -/
  | pairTake
  /-- TAKEOVER_START (R398): The takeover condition is met, so the standby claims, enables ports and loads images and checkpoint. -/
  | takeoverStart
  /-- TAKEOVER_LOADED (R398): Images and checkpoint are loaded, generations incremented and past-due steps decided, ready for the first beacon. -/
  | takeoverLoaded
  /-- PAIR_DATA_RX (R392): A FULL_DATA or DELTA_DATA message gives after-images to the standby. -/
  | pairDataRx (m : PairMsg)
  /-- PAIR_CUT_RX (R393): A CUT closes a delta at the standby, which checks the CRC and sends ACK within 1 ms. -/
  | pairCutRx (m : PairMsg)
  /-- PAIR_ACK_RX (R393): A delta ACK makes the delta acknowledged and commits the furrows it carried. -/
  | pairAckRx (sfn : Nat)
  /-- PARTNER_ACK_TIMEOUT (R393): ACK_SF deltas unacknowledged declare the partner out of service and send RESYNC. -/
  | partnerAckTimeout
  /-- STOP_STATE_RX (R396): A STOP_STATE raises PARTNER at its class, or applies a partner release on NONE. -/
  | stopStateRx (cls reason stopSeq : Nat)
  /-- PAIR_STATUS_SEND (R395): Once a second each unit sends a STATUS message with CFG_HASH, KGEN and state. -/
  | pairStatusSend
  /-- PAIR_STATUS_RX (R390): A STATUS message updates the readiness checks and a standby's key rotation. -/
  | pairStatusRx (m : PairMsg)
  /-- HANDOVER_RX (R397): A HANDOVER from the active unit allows a READY standby to take over. -/
  | handoverRx
  /-- RESYNC_RX (R394): A RESYNC makes the standby NOT_READY until a new full and its deltas arrive. -/
  | resyncRx
  /-- PAIR_SWITCH (R401): PAIR_CTRL.SWITCH by token names the switch SFN and sends SWITCH to the WARM partner. -/
  | pairSwitch
  /-- SWITCH_REQ_RX (R403): A SWITCH_REQ from the primary is answered with a switch SFN or refused. -/
  | switchReqRx
  /-- SWITCH_RX (R401): A SWITCH message fixes the boundary at which the WARM unit takes the zone. -/
  | switchRx (sfn : Nat)
  /-- REVERT_HOLDOFF_EXPIRY (R403): A COLD, READY primary whose blocks worked for REVERT_HOLDOFF goes WARM by itself. -/
  | revertHoldoffExpiry
  /-- REVERT_REQUEST (R403): After 10 s WARM and READY, and every 60 s after a refusal, the primary sends SWITCH_REQ. -/
  | revertRequest
  /-- METER_WINDOW (R407): At the end of each fundamental-cycle window the block computes P, S, Q and adds energy to the totals and pulse remainders. -/
  | meterWindow (w : MeterWin)
  /-- METER_SECOND (R409): At each whole fleet second the one-second values of table 2 are formed. -/
  | meterSecond
  /-- METER_INTERVAL_END (R410): At each INTERVAL multiple an interval record per enabled dock is made for queue 26. -/
  | meterIntervalEnd
  /-- PQ_REFRESH (R412): Each half-cycle a V channel's RMS is refreshed and sag, swell or interruption events begin or end. -/
  | pqRefresh (v rms : Nat)
  /-- METER_SAVE (R414): Every SAVE_PERIOD the meter totals and state are saved to flash, or SAVE_FAIL is raised. -/
  | meterSave (ok : Bool)
  /-- METER_PULSE (R416): A pulse output emits a pending pulse once the spacing allows. -/
  | meterPulse (k : Nat)
  /-- PULSE_CFG_WRITE (R416): A write to PULSE_CFG clears the output's remainder and backlog. -/
  | pulseCfgWrite (src : Src) (k value : Nat)
  /-- ATT_GO (R421): ATT_CTRL.GO starts an attestation statement over the written nonce. -/
  | attGo
  /-- ATTEST_DONE (R421): The signed statement replaces ATT_BUF, SEQ increments and DONE is set. -/
  | attestDone
  /-- KS_SIGN (R425): The SIGN opcode signs a digest with a slot's private key. -/
  | ksSign (via : Via)
  /-- KS_VERIFY (R425): The VERIFY opcode checks a signature against a slot's public key. -/
  | ksVerify (via : Via) (ok : Bool)
  /-- KS_DERIVE (R425): The DERIVE opcode derives a key by HKDF into an empty target slot. -/
  | ksDerive (via : Via)
  /-- REMASK (R424): Every REMASK_MS each key slot takes a new mask and is re-encoded atomically. -/
  | remask
  /-- TOK_OPEN (R428): TOK_CTRL.OPEN claims the token buffer for a source. -/
  | tokOpen (src : Src)
  /-- TOK_GO (R428): TOK_CTRL.GO starts verification of the token in TOK_BUF. -/
  | tokGo (src : Src)
  /-- TOK_RELEASE (R428): TOK_CTRL.RELEASE frees the token buffer unless verification runs. -/
  | tokRelease (src : Src)
  /-- TOK_OWNER_TIMEOUT (R428): 100 ms after OPEN with no verification running, the buffer's ownership ends. -/
  | tokOwnerTimeout
  /-- TOKEN_VERIFY_DONE (R428): Token verification completes, applying every write or key install as one step, or reporting the first failed check. -/
  | tokenVerifyDone (sigOk : Bool) (key : Option Nat) (burnOk : Bool)
  /-- TOK_NONCE_EXPIRY (R428): 300 s after the last draw a new TOK_NONCE is drawn. -/
  | tokNonceExpiry
  /-- FUSE_PROG_GO (R438): FUSE_PROG.GO by token writes a SETTING_CHANGE record and burns a fuse slot, or is refused. -/
  | fuseProgGo (setting value signer : Nat)
  /-- FUSE_BURN_DONE (R438): A fuse burn completes and FUSE_STATUS reports DONE or BURN_FAIL. -/
  | fuseBurnDone (ok : Bool)
  /-- LC_TRANSITION (R440): LC_CTRL.TARGET by token records, burns and applies a lifecycle transition, or reports BAD_TRANSITION. -/
  | lcTransition (target signer : Nat) (burnOk : Bool)
  /-- LC_RETIRE (R440): LC_CTRL.RETIRE in a vendor FULL session moves RETURNED to RETIRED. -/
  | lcRetire (burnOk : Bool)
  /-- DBG_OPEN_OBSERVE (R443): DBG_CTRL.OPEN_OBSERVE opens OBSERVE where no token is needed. -/
  | dbgOpenObserve
  /-- DBG_OPEN_FULL (R443): DBG_CTRL.OPEN_FULL opens FULL in BLANK. -/
  | dbgOpenFull
  /-- DBG_OBSERVE (R443): DBG_CTRL.OBSERVE by owner token opens OBSERVE. -/
  | dbgObserve
  /-- CERT_GO (R444): DBG_CTRL.CERT_GO verifies the certificate against the challenge and opens FULL, or reports the failing check. -/
  | certGo (sigOk : Bool)
  /-- DBG_END (R442): DBG_CTRL.END closes the debug session and the level falls to CLOSED. -/
  | dbgEnd
  /-- DBG_DURATION_EXPIRY (R446): The certificate's duration ends, closing the session and releasing halted cores. -/
  | dbgDurationExpiry
  /-- EXTEST (R447): The EXTEST instruction is accepted at FULL with the fleet stopped, otherwise replaced by BYPASS. -/
  | extest (trst : Option Nat)
  /-- PWR_TARGET_WRITE (R448): A write of PWR_CTRL.TARGET moves between RUN, TRIM and DOZE, or is refused with a reason. -/
  | pwrTargetWrite (t : Nat)
  /-- MAIN_SUPPLY_LOSS (R489): Loss of the main supply resets the main domain, enters BATTERY with VBAT and starts outage metering. -/
  | mainSupplyLoss (vbat : Bool)
  /-- VDD_GATE_LOSS (R489): Loss of VDD_GATE leaves the STOP outputs to the pull-downs, counts GATE lost and stops beacons. -/
  | vddGateLoss
  /-- SUPPLY_MONITOR_TRIP (R485): A rail out of its monitored range for 2 us resets the main domain or faults the blocks it feeds. -/
  | supplyMonitorTrip (rail : Nat) (vbat : Bool)
  /-- THERMAL_TRIP (R486): Tj at or above 125 C for 1 ms is treated as UNCONTAINED in the CHIP region and resets the chip. -/
  | thermalTrip (tj : Int)
  /-- TEMP_WARN (R486): Tj reaching 115 C sets TEMP.WARN and the CHIP/INFO interrupt. -/
  | tempWarn (tj : Int)
  /-- PORST (R488): A PORST_N pulse of 10 us or more resets the chip, which leaves reset 1 ms after PORST_N, rails and crystal are good. -/
  | porst (widthNs : Nat) (head role recovN : Bool)
  /-- ROM_BOOT (R455): At every chip reset ROM latches straps, restores keys, chooses and verifies a bank, derives the identity and releases the supervisor. -/
  | romBoot (copyOk : Bool)
  /-- BOOT_OK (R456): BOOT_CTRL.BOOT_OK stops the KEEP watchdog. -/
  | bootOk (src : Src)
  /-- KEEP_WATCHDOG (R456): No BOOT_OK within 10 s resets the chip through the watchdog. -/
  | keepWatchdog
  /-- IMAGE_LOAD (R457): The supervisor loads, verifies and retains the images of TYPE 1 to 4, leaving blocks with refused images OFF. -/
  | imageLoad (t : Nat)
  /-- UPD_VERIFY (R459): UPD_CTRL.OP VERIFY checks each staged image and the completeness of the set. -/
  | updVerify (seen : List ImgSeen)
  /-- UPD_PROGRAM (R459): UPD_CTRL.OP PROGRAM erases the other bank and writes the verified set and the directory. -/
  | updProgram
  /-- UPD_CANCEL (R460): UPD_CTRL.OP CANCEL stops a PROGRAM at the next sector and empties the bank. -/
  | updCancel
  /-- UPD_DONE (R459): A VERIFY or PROGRAM completes and UPD_STATUS reports its result. -/
  | updDone (changed : Option Nat) (flashOk : Bool) (sectors : Nat)
  /-- UPD_COMMIT (R459): UPD_CTRL.COMMIT by token marks the TRIAL bank COMMITTED and raises the ARB fuses. -/
  | updCommit (signer : Nat)
  /-- RECOVERY_CHUNK (R462): A recovery chunk record on PCIe, Ethernet or UART is checked and stored, and the image checked at LAST. -/
  | recoveryChunk (ch : Nat) (rec : List Nat) (i : ImgSeen)
  /-- RCV_GO (R462): RCV_CTRL.GO takes the chunk record in RCV_WIN and writes the reply. -/
  | rcvGo (i : ImgSeen)
  /-- RECOVERY_SILENCE (R461): A claimed recovery channel silent for 60 s releases its claim. -/
  | recoverySilence
  /-- WEIR_TOKEN_DUE (R467): A weir bucket gains one token every 1 / RATE s. -/
  | weirTokenDue (code : Option Nat)
  /-- WEIR_BUCKET_RETURN (R467): A bucket without records of its code for 60 s, and full, is returned. -/
  | weirBucketReturn (code : Nat)
  /-- EVENT_SUMMARY (R468): At each whole fleet second one SUMMARY is written for each code suppressed in the second just ended. -/
  | eventSummary
  /-- SEQ_SAVE (R469): Once an hour the supervisor saves NEXT_SEQ to flash. -/
  | seqSave
  /-- FOUNDING_BATCH (R473): Pinned founding records are programmed into the founding area in a batch at least every 10 s. -/
  | foundingBatch (n : Nat)
  /-- MAIN_SUPPLY_RETURN (R413): The main supply returns while KEEP held on VBAT: the chip resets with KEEP valid and METER makes one OUTAGE record per enabled dock. -/
  | mainSupplyReturn (head role recovN : Bool)
  /-- RAIL_BACK_IN_RANGE (R485): A monitored rail such as VDD_ANA has been back in range for 1 ms, so the GNSS_RF and METER blocks it faulted may restart. -/
  | railBackInRange (rail : Nat)
  /-- AUXCLK_RETURN (R20): The clock monitor finds AUXCLK counting good again while the root runs on REFCLK, so AUX_OK returns and the Ethernet and Canal ports can come back up. -/
  | auxclkReturn (auxEdges : Nat)
  /-- STEP_WINDOW_BEGINS (R248): A lease step reaches its START, becomes BEGUN, and its owner is reported BLOCKED if an OVERSTAY entry lasts on the same segment or turnout. -/
  | stepWindowBegins (i : Nat)
  /-- DIRECT_LOCK_END (R258): A direct turnout lock with a finite D_DUR_MS reaches its start plus duration and is freed. -/
  | directLockEnd (t : Nat)
  /-- PCIE_LINK_UP (R55): The PCIe link completes training and comes up, and MSI-X vectors held pending while it was down are sent. -/
  | pcieLinkUp (speed width : Nat) (bme : Bool)
  /-- MSIX_VECTOR_UNMASK (R55): The host unmasks a vector in the MSI-X table of BAR4, and a pending vector sends its message under the PCI Express rules. -/
  | msixVectorUnmask (v : Nat)
  /-- CANAL_FLIT_RX (R368): A Canal flit is received: its CRC and FSEQ are checked for retry, and its ACKSEQ and credit total are taken. A CTRL flit such as HELLO or DELAY_REQ is acted on. -/
  | canalFlitRx (port : Nat) (crcOk : Bool) (seq : Option Nat) (ackSeq crClass crTotal : Nat) (ctrl : Option CanalBody)
  /-- PFC_PAUSE_EXPIRY (R357): The pause time granted by a received PFC frame for a priority runs out without renewal, and that priority may send again. -/
  | pfcPauseExpiry (port prio : Nat)
  /-- ETH_OTHER_FRAME_RX (R363): An ETH port receives a frame that is neither a Flume frame nor a PTP event message. It is passed on if it is an ARP, neighbour discovery or PTP general message, and otherwise discarded and counted in RX_DISCARD. -/
  | ethOtherFrameRx (port : Nat) (f : EthFrame) (forSup : Bool)
  /-- METER_OUTAGE_SAMPLE (R413): In BATTERY the KEEP current-only path samples every enabled D channel each 1 ms and adds |i| × 1 ms to OUTAGE_CHG. -/
  | meterOutageSample (ma : List Nat)
  /-- TJ_BELOW_105 (R486): After a thermal-trip reset the die temperature falls below 105 °C, and ROM releases the supervisor it was holding. -/
  | tjBelow105 (tj : Int)
  /-- DEBUG_HALT (R445): A FULL debug session halts or steps a core that its certificate grants. Halting the supervisor lowers the service level, and halting an application core aborts its items. -/
  | debugHalt (core act : Nat)
  /-- RECOVERY_LINK_TRY (R461): In recovery an Ethernet port without a link switches between 10GBASE-R and 1000BASE-X every 2 s. -/
  | recoveryLinkTry (port : Nat)
  deriving DecidableEq, Repr

end Sys2Proof
end

