-- ==== Sys2Proof/Machine/Bits.lean ====
section
/-! DEFINITION. Bit fields of numbers, two's-complement reading, saturation, the little-endian byte order (R6) and the
CRC-32C that event records, packets and checkpoints carry (R343, R464). -/
namespace Sys2Proof.Machine

/-- `width` bits of `x` from bit `lsb`. -/
def bits (x lsb width : Nat) : Nat := x / 2 ^ lsb % 2 ^ width

/-- `x` with `width` bits from bit `lsb` replaced by those of `v`. -/
def setBits (x lsb width v : Nat) : Nat := x - bits x lsb width * 2 ^ lsb + v % 2 ^ width * 2 ^ lsb

/-- One bit. -/
def bit (x n : Nat) : Bool := decide (bits x n 1 = 1)

/-- A number from a Boolean. -/
def b2n (b : Bool) : Nat := if b then 1 else 0

/-- The two's-complement value of `w` bits. -/
def sext (x w : Nat) : Int := if x % 2 ^ w < 2 ^ (w - 1) then (x % 2 ^ w : Int) else (x % 2 ^ w : Int) - 2 ^ w

/-- The `w` bits of an integer. -/
def trunc (x : Int) (w : Nat) : Nat := (x % (2 ^ w : Int)).toNat

/-- An integer held to the range of `w` two's-complement bits. -/
def satInt (x : Int) (w : Nat) : Nat :=
  if x < -(2 ^ (w - 1) : Int) then 2 ^ (w - 1)
  else if (2 ^ (w - 1) : Int) ≤ x then 2 ^ (w - 1) - 1
  else trunc x w

/-- Saturating increment at `cap`. -/
def satAdd (x n cap : Nat) : Nat := min (x + n) cap

/-- `a` is later than `b` in a wrapping field of `w` bits (R474). -/
def later (a b w : Nat) : Bool :=
  let d := (a + 2 ^ w - b % 2 ^ w) % 2 ^ w
  decide (1 ≤ d ∧ d < 2 ^ (w - 1))

/-- The bytes of a number, least significant first. -/
def toBytes : Nat → Nat → List Nat
  | 0, _ => []
  | n + 1, x => x % 256 :: toBytes n (x / 256)

/-- The number that bytes spell, least significant first. -/
def ofBytes : List Nat → Nat
  | [] => 0
  | b :: r => b % 256 + 256 * ofBytes r

/-- Absolute value of an integer. -/
def iabs (x : Int) : Nat := x.natAbs

/-- One step of a reflected CRC-32 with polynomial `poly`, over `n` bits. -/
def crcBits (poly : Nat) : Nat → Nat → Nat
  | 0, c => c
  | n + 1, c => crcBits poly n (if c % 2 = 1 then Nat.xor (c / 2) poly else c / 2)

/-- A reflected CRC-32 over bytes: initial value and final complement all ones. -/
def crc32Of (poly : Nat) (bs : List Nat) : Nat :=
  Nat.xor (bs.foldl (fun c b => crcBits poly 8 (Nat.xor c (b % 256))) 0xFFFFFFFF) 0xFFFFFFFF

/-- CRC-32C (Castagnoli). -/
def crc32c (bs : List Nat) : Nat := crc32Of 0x82F63B78 bs

/-- CRC-32 of IEEE 802.3, the frame check sequence of air and Ethernet frames. -/
def crc32 (bs : List Nat) : Nat := crc32Of 0xEDB88320 bs

/-- One step of CRC-24Q over `n` bits, most significant first. -/
def crc24Bits : Nat → Nat → Nat
  | 0, c => c
  | n + 1, c => crc24Bits n (if 2 ^ 23 ≤ c then Nat.xor (c * 2 % 2 ^ 24) 0x864CFB else c * 2)

/-- CRC-24Q over bytes, as the RTCM transport carries it (R143). -/
def crc24q (bs : List Nat) : Nat := bs.foldl (fun c b => crc24Bits 8 (Nat.xor c (b % 256 * 65536))) 0

/-- The bytes of a number, most significant first. -/
def toBytesBe (n x : Nat) : List Nat := (toBytes n x).reverse

/-- The element at a position, with a default. -/
def nth {α : Type} (d : α) : List α → Nat → α
  | [], _ => d
  | x :: _, 0 => x
  | _ :: r, n + 1 => nth d r n

/-- A list with the element at a position replaced. -/
def setNth {α : Type} : List α → Nat → α → List α
  | [], _, _ => []
  | _ :: r, 0, v => v :: r
  | x :: r, n + 1, v => x :: setNth r n v

/-- Keep the last `n` elements. -/
def lastN {α : Type} (n : Nat) (l : List α) : List α := l.drop (l.length - n)

/-- The whole part of a square root, by halving between 0 and 2^k. -/
def isqrtGo (n : Nat) : Nat → Nat → Nat
  | 0, r => r
  | k + 1, r => let c := r + 2 ^ k; isqrtGo n k (if c * c ≤ n then c else r)

/-- The whole part of a square root of a number below 2^128. -/
def isqrt (n : Nat) : Nat := isqrtGo n 64 0

/-- A moment of fleet time in ns, told in the new time after a step by Δ ns. -/
def shiftNs (d : Int) (t : Nat) : Nat := ((t : Int) + d).toNat

end Sys2Proof.Machine
end

