-- ==== Sys2Proof/Config.lean ====
section
/-! DEFINITION. What one chip fixes and the spec leaves to it, and the free values: each an opaque constant, of which
nothing can be proved but that it is some value. -/
namespace Sys2Proof

/-- STEPPING of PAGE_ID and REV (R37): 0x00 A0, 0x01 A1 or 0x10 B0. -/
opaque Config.stepping : BitVec 8
/-- ROM version (R36). -/
opaque Config.romVer : BitVec 8
/-- DeviceID public key (R419). -/
opaque Config.deviceIdPub : BitVec 512
/-- SHA-256 of bytes; the digest's first byte is the lowest of the number. The spec names the algorithm and leaves it to its standard. -/
opaque Config.sha256 : List Nat → BitVec 256
/-- The chip's serial number: the first 8 bytes of the digest of its public key (R420). -/
def Config.serial : BitVec 64 := (Config.sha256 (Machine.toBytes 64 Config.deviceIdPub.toNat)).extractLsb' 0 64
/-- Alias private key, of M_sup and DEBUG_POLICY (R419). -/
opaque Config.aliasKey : Nat → Nat → BitVec 256
/-- Alias public key, of M_sup and DEBUG_POLICY (R419). -/
opaque Config.aliasPub : Nat → Nat → BitVec 512
/-- MAC address of an Ethernet port, from the fuses. -/
opaque Config.ethMac : Nat → BitVec 48
/-- A free value of 32 bits, by the count of free values used before it: any value the spec leaves open. -/
opaque Config.free32 : Nat → BitVec 32
/-- A free value of 64 bits. -/
opaque Config.free64 : Nat → BitVec 64
/-- A free value of 256 bits: random draws and signatures. -/
opaque Config.free256 : Nat → BitVec 256
/-- The gain, in dB, at which the AGC of a path is at its limit (R57). -/
opaque Config.agcLimit : Nat
/-- An ENU vector in mm (the last three arguments) turned into ECEF, 0.1 mm, in the local frame at an ECEF position in 0.1 mm (the first three)
(R73). The spec states no rounding. -/
opaque Config.enuToEcef : Int → Int → Int → Int → Int → Int → List Int
/-- The circular mean of phases in 2^-16 cycle (R76). The spec states no rounding. -/
opaque Config.circMean : List Int → Int
/-- The innovation test of a member-epoch (R131, R132). The rounding of the FP64 arithmetic is not stated. -/
opaque Config.innovation : Machine.SolveJob → Machine.TestOut
/-- The filter carried to the epoch without its measurements (R133). -/
opaque Config.predict : Machine.SolveJob → Machine.Filt
/-- The filter after the float update (R121 to R124). -/
opaque Config.floatUpdate : Machine.SolveJob → Machine.FloatOut
/-- The integer search on the candidates, after the update, with that many transformed ambiguities removed and at most that many nodes
(R125). -/
opaque Config.intSearch : Machine.SolveJob → Machine.FloatOut → List (Nat × Nat) → Nat → Nat → Machine.ArTry
/-- The solution output for a fix state and the accepted integers (R126, R134). -/
opaque Config.solution : Machine.SolveJob → Machine.FloatOut → Nat → List (Nat × Nat × Int) → Machine.SolOut
/-- A difference of ECEF positions, in 0.1 mm, turned into the east, north and up axes at an ECEF position in 0.1 mm on the WGS 84 ellipsoid, rounded to
the nearest mm (R127). -/
opaque Config.ecefToEnu : List Int → List Int → List Int
/-- HKDF-SHA-256 with the salt of R429, of a zone key and an info string, 16 bytes. The spec names the algorithm and leaves it to its standard. -/
opaque Config.hkdf : Nat → List Nat → BitVec 128
/-- HKDF-SHA-256 of a slot's key and an info string, for DERIVE (R425); a key of 16 bytes is its lower half. The spec states no salt. -/
opaque Config.ksDerive : Nat → List Nat → BitVec 256
/-- AES-128-CCM with an 8-byte MIC (R432): key, nonce, associated data, payload, to ciphertext and MIC. -/
opaque Config.ccmSeal : BitVec 128 → List Nat → List Nat → List Nat → List Nat
/-- Its inverse: the payload, if the MIC verifies. -/
opaque Config.ccmOpen : BitVec 128 → List Nat → List Nat → List Nat → Option (List Nat)
/-- A position in site ENU, mm, on the path of a member (R268): path distance of the nearest point and the signed horizontal distance from it, mm, positive to the
left. The path is given step by step: path distance of its start, DIR, LENGTH, HEAD_IN, CURV and the position of node FROM. The spec states no rounding, nor which
point is taken where several are nearest. -/
opaque Config.project : List (List Int) → List Int → Int × Int
/-- The hash that indexes the seen cache (R225), of ORIG_SRC and ORIG_SEQ. -/
opaque Config.seenHash : Nat → Nat → Nat

end Sys2Proof
end

