-- ==== Sys2Proof/Machine/AMap.lean ====
section
/-! DEFINITION. Sparse contents in one canonical form: (key, value) pairs, keys strictly rising, no value equal to what an
unlisted key reads as. Registers, counters, tables and memories are held so, and equal contents are equal data. -/
namespace Sys2Proof.Machine

/-- Sparse contents by key. -/
abbrev AMap (α : Type) := List (Nat × α)

/-- What a key reads as; `d` gives what an unlisted key reads as. -/
def AMap.get {α : Type} (d : Nat → α) : AMap α → Nat → α
  | [], k => d k
  | (k', v) :: r, k => if k = k' then v else AMap.get d r k

/-- Insert or replace in a sorted list, without regard to the default. -/
def AMap.put {α : Type} : AMap α → Nat → α → AMap α
  | [], k, v => [(k, v)]
  | (k', v') :: r, k, v =>
    if k < k' then (k, v) :: (k', v') :: r
    else if k = k' then (k, v) :: r
    else (k', v') :: AMap.put r k v

/-- Remove a key. -/
def AMap.del {α : Type} : AMap α → Nat → AMap α
  | [], _ => []
  | (k', v') :: r, k => if k = k' then AMap.del r k else (k', v') :: AMap.del r k

/-- Write a key: a value equal to the default removes the entry. -/
def AMap.set {α : Type} [DecidableEq α] (d : Nat → α) (m : AMap α) (k : Nat) (v : α) : AMap α :=
  if v = d k then AMap.del m k else AMap.put m k v

/-- Keys strictly rising, each above `lo`. -/
def AMap.sortedFrom {α : Type} : Nat → AMap α → Bool
  | _, [] => true
  | lo, (k, _) :: r => decide (lo ≤ k) && AMap.sortedFrom (k + 1) r

/-- No listed value is what its key would read as unlisted. -/
def AMap.noDefault {α : Type} [DecidableEq α] (d : Nat → α) : AMap α → Bool
  | [] => true
  | (k, v) :: r => decide (v ≠ d k) && AMap.noDefault d r

/-- The canonical form. -/
def AMap.wf {α : Type} [DecidableEq α] (d : Nat → α) (m : AMap α) : Bool :=
  AMap.sortedFrom 0 m && AMap.noDefault d m

/-- The listed keys from `lo` up to but not including `hi`. -/
def AMap.keysIn {α : Type} (m : AMap α) (lo hi : Nat) : List Nat :=
  (m.filter fun e => decide (lo ≤ e.1) && decide (e.1 < hi)).map (·.1)

/-- Remove every key from `lo` up to but not including `hi`. -/
def AMap.clearRange {α : Type} (m : AMap α) (lo hi : Nat) : AMap α :=
  m.filter fun e => !(decide (lo ≤ e.1) && decide (e.1 < hi))

end Sys2Proof.Machine
end

