-- ==== Sys2Proof/Machine/Parts.lean ====
section
/-! DEFINITION. The parts of the state, one structure for each unit of the chip: what the spec gives the unit beside its
registers, counters and tables. -/
namespace Sys2Proof.Machine

/-- What a page holds beside its registers (R45, R50 to R52): the times of the counted entries to FAULT, the one more
restart that ISO_CLEAR allows, whether the block stays ISOLATED, the cells removed, the times of cell errors, whether the
block has been ON since it last left ON, whether it has been scrubbed since (R44), the class bits of ERR_STATUS that unmasked errors set
(R53), whether its cells have been tested since the chip reset or since its region failed, the FIFOs whose paths are disabled (R13), and
when its shut-down began (R46). -/
structure PageSt where
  faultTimes : List Nat := []
  isoAllow : Bool := false
  stuck : Bool := false
  removed : List Nat := []
  corrTimes : List (Nat × Nat) := []
  contTimes : List (Nat × Nat) := []
  live : Bool := false
  scrubbed : Bool := false
  shown : Nat := 0
  tested : Bool := false
  fifosOff : List Nat := []
  stopAt : Nat := 0
  deriving DecidableEq, Repr

/-- One hardware queue of Flume: its table entry (R350), its ring, the frame being filled, the frames kept, and the records whose source waits for
room, by length (R353). -/
structure FQ where
  en : Bool := false
  toChip : Bool := false
  ovw : Bool := false
  portSel : Nat := 0
  prio : Nat := 0
  bind : Nat := 0
  ringKB : Nat := 0
  txSeq : Nat := 0
  ackSeq : Nat := 0
  window : Nat := 0
  qev : Nat := 0
  qevEn : Nat := 0
  lost : Nat := 0
  retx : Nat := 0
  discard : Nat := 0
  inFill : Nat := 0
  ring : List FRec := []
  opened : List FRec := []
  openedAt : Nat := 0
  closed : Bool := false
  unacked : List FFrame := []
  ackAt : Nat := 0
  stalledAt : Option Nat := none
  lossMark : Bool := false
  wait : List (Nat × FBody) := []
  deriving DecidableEq, Repr

/-- A weir bucket (R467): its code (none for the global weir and the shared one), tokens, when the next falls due, the
last record raised, and what it has suppressed since the last SUMMARY (R468). -/
structure Bucket where
  code : Option Nat := none
  tokens : Nat := 0
  due : Nat := 0
  last : Nat := 0
  deriving DecidableEq, Repr

/-- Suppressed records of one code since its last SUMMARY (R468): how many, fleet ms of the first, source of the last. -/
structure Suppr where
  code : Nat
  count : Nat
  firstMs : Nat
  source : Nat
  deriving DecidableEq, Repr

/-- A record in the circulating area: taken by the extension, taken by queue 16, bound for a founding area. -/
structure CircRec where
  ent : EvRec
  ext : Bool
  host : Bool
  pin : Bool
  deriving DecidableEq, Repr

/-- A founding slot waiting for its batch, or programmed: area, slot (4,096 + n for a setting slot) and record (R472). -/
structure FoundRec where
  area : Nat
  slot : Nat
  ent : EvRec
  deriving DecidableEq, Repr

/-- The event recorder (R467 to R473). -/
structure EvLogSt where
  nextSeq : Nat := 0
  staging : List EvRec := []
  circ : List CircRec := []
  ext : List EvRec := []
  tail : List EvRec := []
  buckets : List Bucket := []
  shared : Bucket := {}
  global : Bucket := { tokens := 1024 }
  suppressed : List Suppr := []
  lossCount : Nat := 0
  lossFirst : Nat := 0
  areaOpen : List Nat := []
  area : Nat := 0
  founding : List FoundRec := []
  pendingFound : List FoundRec := []
  lostSlots : List (Nat × Nat) := []
  taken : Option Nat := none
  saves : List (Option Nat) := [none, none]
  saveNext : Nat := 0
  bankB : Bool := false
  fallback : Bool := false
  bootDone : Bool := false
  lastSumSec : Nat := 0
  batchAt : Nat := 0
  saveAt : Nat := 0
  deriving DecidableEq, Repr

/-- One Canal port beside its registers (R367 to R369, R379): `freed` are the neighbour's credit totals, `rxFreed` this port's, `crNext` the class whose
total the next flit carries. -/
structure CanalPort where
  trainAt : Nat := 0
  goodAt : Nat := 0
  downAt : Nat := 0
  rxSeq : Nat := 0
  txSeq : Nat := 0
  replay : List (Nat × CanalMsg) := []
  ackAt : Nat := 0
  replaysRow : Nat := 0
  credits : List Nat := [8, 8, 128, 64, 32, 32, 192, 8]
  txq : List CanalMsg := []
  delays : List Nat := []
  nDelays : Nat := 0
  discarding : Bool := false
  reqAt : Nat := 0
  freed : List Nat := [0, 0, 0, 0, 0, 0, 0, 0]
  rxFreed : List Nat := [0, 0, 0, 0, 0, 0, 0, 0]
  crNext : Nat := 0
  deriving DecidableEq, Repr

/-- An access waiting for its answer over the tunnel (R381). -/
structure TunAccess where
  id : Nat
  zone : Nat
  write : Bool
  addr : Nat
  value : Nat
  sentAt : Nat
  deriving DecidableEq, Repr

/-- The ring as a chip knows it, its message numbers and duplicate windows, and the tunnel: accesses sent and
those that wait to be sent, and the way that a zone's accesses took last (R372 to R382). -/
structure CanalSt where
  east : CanalPort := {}
  west : CanalPort := {}
  mseq : List Nat := [0, 0, 0, 0, 0, 0, 0, 0]
  seen : List (Nat × Nat × Nat × List Nat) := []
  down : List Nat := []
  unreachAt : Option Nat := none
  enumAt : Option Nat := none
  tun : List TunAccess := []
  tunWait : List TunAccess := []
  tunNext : Nat := 0
  path : AMap (Option Nat) := []
  closed : Bool := false
  bothDownAt : Option Nat := some 0
  site : Nat := 0
  timeSent : Nat := 0
  deriving DecidableEq, Repr

/-- Bursts of one port (R297): the class, the next frame 0 to 8, the first boundary of the set and the next one, in
superframe-independent slot counts. -/
structure Burst where
  cls : Nat
  next : Nat
  s0 : Option Nat
  at_ : Nat
  first : Option Nat := none
  deriving DecidableEq, Repr

/-- Beacon fields that the Headgate latched last for a port (R299). -/
structure HgLatch where
  sfn : Nat := 0
  epoch : Nat := 0
  bankEpoch : Nat := 0
  nextEpoch : Nat := 0
  swapSfn : Nat := 0
  sfCode : Nat := 1
  missLimit : Nat := 3
  ackRate : Nat := 0
  zoneId : Nat := 0
  driftPpm : Nat := 40
  rate : Nat := 0
  deriving DecidableEq, Repr

/-- The Headgate beside its registers (R288 to R308). -/
structure HgSt where
  estopClearAt : Option Nat := some 0
  discAt : Option Nat := none
  discRaised : Bool := false
  armedAt : Option Nat := none
  raisedAt : Option Nat := none
  outA : Bool := false
  outB : Bool := false
  outPending : Bool := false
  bursts : List (Option Burst) := [none, none, none, none]
  setFcnt : List Nat := [0, 0, 0, 0]
  setSeq : List Nat := [0, 0, 0, 0]
  setOk : List Bool := [false, false, false, false]
  seen : List (Nat × Nat) := []
  key : Option Nat := none
  keyGen : Nat := 0
  latch : List HgLatch := [{}, {}, {}, {}]
  selfTestAt : Nat := 0
  pulseAt : Option Nat := none
  pulsedB : Bool := false
  deriving DecidableEq, Repr

/-- The chip fault manager beside its registers (R31, R32): the lowest level permitted since the last beacon, and since
when each of the levels 1 to 3 has been permitted without a break. -/
structure FltSt where
  low : Nat := 0
  since1 : Option Nat := none
  since2 : Option Nat := none
  since3 : Option Nat := none
  deriving DecidableEq, Repr

/-- Supplies and pins that the board sets (R485, R489, R373, R384, R455); rails out of limits: 0 VDD_CORE, 1 VDD_SRAM, 2 VDDIO,
3 VDD_ANA, 4 VDD_MET, 5 VDD_SD09, 6 VDD_SD12, 7 VDDQ_DDR. -/
structure SupplySt where
  vddGate : Bool := true
  mainOk : Bool := true
  railsOut : List Nat := []
  vbat : Bool := true
  keepValid : Bool := true
  strapHead : Bool := true
  strapRole : Bool := false
  recovN : Bool := true
  battery : Bool := false
  tripHold : Bool := false
  lostAt : Nat := 0
  rtcAhead : Nat := 0
  downAt : Option Nat := some 0
  deriving DecidableEq, Repr

/-- What is held while the clocks are gated, neither lost nor repeated (R17): a table operation, a register access, a register access from
another chip. -/
inductive GapOp where
  | op (via : Via) (p : Page) (opcode table index : Nat)
  | write (src : Src) (addr value : Nat) (x : WrExt)
  | read (src : Src) (addr : Nat)
  | bad (src : Src) (addr : Nat) (write : Bool)
  | reg (m : CanalMsg) (x : WrExt)
  deriving DecidableEq, Repr

/-- The clock monitor and the supervisor core beside their registers (R16 to R20, R25, R35): when REFCLK was last found
bad, since when the ROOT-derived clocks have been gated, whether the PLLs change to AUXCLK, whether no input counts good,
fleet ns at which the return was armed, whether the supervisor's memory is being loaded, whether only a chip reset starts
it again, when the last scrub pass of DRAM ended, what is held while the clocks are gated (R17), and the 8-byte words of DRAM that
were found lost (R25). -/
structure ClkSt where
  refBadAt : Nat := 0
  gapAt : Option Nat := none
  toAux : Bool := false
  lost : Bool := false
  armAt : Nat := 0
  supLoading : Bool := false
  supDead : Bool := false
  scrubAt : Nat := 0
  gapOps : List GapOp := []
  lostWords : List Nat := []
  deriving DecidableEq, Repr

/-- One air port beside its registers: when STARTING began in ps and its step 0 to 5, when RX_EN went active at step 4,
when the next health check is due, transactions in order (0 the start-up health check, 1 a direct one,
2 + i entry i of table 0) and until when a wait of the list lasts, when the
Headgate last held the path in fleet ns, when the first stop frame of the class in force went on air, whether a beacon of
this superframe went on air, the end of the PPDU in progress in ps, whether a swap made while the engine was not ON has still to
set SWAP_DONE (R175), the start of the last PPDU and the end of the Headgate's last hold of the path in ps, frames received and not
handled yet, oldest first, and in the DOWN_BCAST entry under way its index and the offset in µs at which its next frame may begin (R190). -/
structure PortSt where
  startAt : Nat := 0
  step : Nat := 0
  rxAt : Nat := 0
  healthAt : Nat := 0
  spi : List Nat := []
  waitTo : Nat := 0
  heldAt : Option Nat := none
  stopAt : Option Nat := none
  onAir : Bool := false
  txEnd : Nat := 0
  svcAt : Nat := 0
  swapDue : Bool := false
  txFrom : Nat := 0
  hgEnd : Nat := 0
  rxq : List RxFrame := []
  down : Option (Nat × Nat) := none
  deriving DecidableEq, Repr

/-- A bundle assembled for an entry (R191): start of the entry in fleet ns, NSP, its superframe, members present with
their 16-byte entries. -/
structure BundleSt where
  at_ : Nat := 0
  nsp : Nat := 1
  sfn : Nat := 0
  entries : List (Nat × List Nat) := []
  deriving DecidableEq, Repr

/-- The four air ports and slot engines: what they hold beside registers and tables. `curB` is the boundary of the present
superframe and `nextB` the next one, fleet ns; `done` the entries (port and index) already run in this superframe; `got` the
ports and members with an accepted frame in it; `prevLink` the receive state under the previous key generation by member;
`graceEnd` the superframe at which it ends; `inEnd` the due end of the last ack of a RELAY IN phase, by port. -/
structure AirSt where
  curB : Nat := 0
  nextB : Nat := 0
  fcnt : List Nat := [1, 1, 1, 1]
  seq : List Nat := [0, 0, 0, 0]
  hgSent : List Bool := [false, false, false, false]
  downq : List DownFrame := []
  joinCache : List (Nat × Nat) := []
  ports : List PortSt := [{}, {}, {}, {}]
  done : List (Nat × Nat) := []
  got : List (Nat × Nat) := []
  bundles : AMap BundleSt := []
  prevLink : AMap Nat := []
  graceEnd : Nat := 0
  inEnd : List (Option Nat) := [none, none, none, none]
  deriving DecidableEq, Repr

/-- A full of the checkpoint at the standby (R392, R394): the superframe of its cut, its after-images, whether its last
record has come. -/
structure FullRec where
  sfn : Nat
  images : List Image
  done : Bool
  plans : List (Nat × MotSt) := []
  deriving DecidableEq, Repr

/-- A delta at the standby: its superframe, its after-images in order, whether its CUT has come with a good CRC; the plan states with it. -/
structure DeltaRec where
  sfn : Nat
  images : List Image
  done : Bool
  plans : List (Nat × MotSt) := []
  deriving DecidableEq, Repr

/-- The pair logic beside its registers (R384 to R403); `brokeAt` is the last instant at which a block was not working. -/
structure PairSt where
  paired : Bool := false
  roleDone : Bool := false
  resetAt : Nat := 0
  pulseAt : Nat := 0
  edgeAt : Nat := 0
  kickAt : Option Nat := none
  peerRelAt : Nat := 0
  claimAt : Option Nat := none
  checked : Bool := false
  flitAt : Nat := 0
  delta : List Image := []
  unacked : List Nat := []
  fullSec : Nat := 0
  peer : Option PairMsg := none
  format : Nat := 0
  formatPrev : Nat := 0
  slots : List (Option FullRec) := [none, none]
  deltas : List DeltaRec := []
  gap : Bool := false
  oos : Bool := false
  handover : Bool := false
  imagesOk : Bool := true
  loaded : Bool := false
  warmReadyAt : Option Nat := none
  brokeAt : Nat := 0
  askAt : Option Nat := none
  statusAt : Nat := 0
  lastDelta : Bool := false
  cutMs : Nat := 0
  deriving DecidableEq, Repr


/-- A parked request of a region's arbiter (R335): requester, beats, when it was parked. -/
structure ArbReq where
  who : Nat
  beats : Nat
  at_ : Nat
  deriving DecidableEq, Repr

/-- The grant in progress (R333): its request and the beats that this grant takes. -/
structure ArbGrant where
  req : ArbReq
  len : Nat
  deriving DecidableEq, Repr

/-- A region's arbiter beside its registers (R333 to R339): parked requests, fifth requests whose handshake waits, the
grant, the last requester granted at each level, grants in the window, the window's start, when a decision after a dead
cycle is due, when and by whom FREEZE was set, and the LONGEST_WAIT values that restart. -/
structure ArbSt where
  parked : List ArbReq := []
  stalled : List ArbReq := []
  grant : Option ArbGrant := none
  last : List Nat := [31, 31, 31]
  used : AMap Nat := []
  winAt : Nat := 0
  decideAt : Option Nat := none
  freezeAt : Option Nat := none
  restart : List Nat := []
  deriving DecidableEq, Repr


/-- An Ethernet port beside its registers (R357): the frames in its receive buffer with their priorities
and receive times in 0.1 ns of fleet time, when each
priority was paused and until when, when the last pause was sent. -/
structure EthSt where
  buf : List (Nat × Nat × EthFrame) := []
  pauseAt : List Nat := [0, 0, 0, 0, 0, 0, 0, 0]
  pauseEnd : List Nat := [0, 0, 0, 0, 0, 0, 0, 0]
  xoffAt : Nat := 0
  deriving DecidableEq, Repr

/-- Flume beside its queues (R348, R356): the last frame of the current session from the host, the last CREDIT frame
sent, when the next is due for a change, the fragments of a record being received on each queue with its RTYPE ahead of
them, and the DRAM_READ records whose data has not all been sent. -/
structure LinkSt where
  eth0 : EthSt := {}
  eth1 : EthSt := {}
  seenAt : Nat := 0
  creditAt : Nat := 0
  creditDue : Option Nat := none
  part : AMap (List Nat) := []
  reads : List DRead := []
  deriving DecidableEq, Repr


/-- One tracking channel (R62, R63). -/
structure Chan where
  st : Nat := 0
  ant : Nat := 0
  sig : Nat := 0
  svid : Nat := 0
  lockAt : Nat := 0
  slip : Bool := false
  half : Bool := false
  at_ : Nat := 0
  deriving DecidableEq, Repr

/-- A signal in the consistency check (R76): consecutive failures and passes, and whether it is suspect. -/
structure Suspect where
  sig : Nat
  svid : Nat
  fails : Nat
  passes : Nat
  sus : Bool
  deriving DecidableEq, Repr

/-- GNSS sensing beside its registers (R57 to R78): channels, since when each antenna has been ON and OK, the rate and
reference antenna in force, base-position writes waiting for the strobe, the epoch being assembled, the ring, the check
and the survey. -/
structure GnssSt where
  chans : AMap Chan := []
  grpAnt : List Nat := [0, 0, 0, 0, 0, 0, 0, 0, 0, 0, 1, 1, 1, 1, 1, 1]
  okSince : List (Option Nat) := [none, none]
  passAt : Nat := 0
  rate : Nat := 3
  ref : Nat := 0
  weakSince : Option Nat := none
  lastStrobe : Nat := 0
  gap : Bool := false
  stepped : Bool := false
  baseChanged : Bool := false
  posPend : List (List (Nat × Nat)) := []
  latched : Option Epoch := none
  nextSeq : Nat := 0
  ring : List Epoch := []
  delivered : List Epoch := []
  lastBase : Option Nat := none
  suspects : List Suspect := []
  svN : Nat := 0
  svSum : List Int := [0, 0, 0]
  svSq : List Int := [0, 0, 0]
  svAt : Nat := 0
  svSecond : Nat := 0
  archHead : Nat := 0
  arch : List (Nat × Nat) := []
  archLoss : Bool := false
  moved : List Bool := [false, false]
  refGain : List Nat := [0, 0, 0, 0]
  deriving DecidableEq, Repr


/-- A transmit time-stamp (R107): identifier and time in ns. -/
structure TxStamp where
  id : Nat
  ns : Nat
  deriving DecidableEq, Repr

/-- Fleet time beside its registers (R79 to R109). Errors e are in 0.1 ns, uncertainties in ps. Per source: consecutive
good intervals, consecutive misses, qualified, last e, its u_lock in ns, EPOCH it carries. -/
structure TimeSt where
  good : List Nat := [0, 0, 0]
  miss : List Nat := [0, 0, 0]
  qual : List Bool := [false, false, false]
  lastE : List Int := [0, 0, 0]
  lastU : List Nat := [20, 50, 0]
  epochC : Nat := 1
  gnssSeq : Option Nat := none
  canalNew : Option (Int × Nat × Nat × Nat) := none
  freq : Int := 0
  slewE : Int := 0
  slewRate : Nat := 0
  slewAt : Nat := 0
  u : Nat := 4294967295000
  u0 : Nat := 0
  lossAt : Nat := 0
  gapU : Nat := 0
  gapLast : Nat := 0
  gapAt : Nat := 0
  noneSince : Option Nat := none
  hist : List (Nat × Nat) := []
  evalAt : Nat := 0
  stepBy : Option Int := none
  stepEpoch : Option Nat := none
  ppsSec : Nat := 0
  ppsHold : Nat := 0
  txts0 : List TxStamp := []
  txts1 : List TxStamp := []
  stepSrc : Option Nat := none
  freeRun : Bool := false
  gmClass : Nat := 248
  dacAcc : Int := 0
  dacSec : Nat := 0
  ppsAt : Option Nat := none
  pdelayIn : List (Nat × Nat × Nat) := []
  loadSec : Nat := 0
  deriving DecidableEq, Repr



/-- The dispatcher beside its registers and tables (R310 to R322): the item store in order of enqueue, the next SEQ of
each flow, items whose source waits, deficit round robin (credits of the 32 groups, the group in turn of each class, the
last flow served of each group), the contexts running on each core, newest first, EMIT_STATUS by context, the trace's staging
buffer and its DRAM partition. -/
structure DispSt where
  items : List DItem := []
  seqs : AMap Nat := []
  backlog : List DItem := []
  credits : List Nat := List.replicate 32 0
  turn : List Nat := [31, 31, 31, 31]
  last : List Nat := List.replicate 32 575
  stack : List (List Nat) := [[], [], [], [], [], [], [], []]
  emitStatus : AMap Nat := []
  trace : List TraceRec := []
  traceLost : Nat := 0
  part : List TraceRec := []
  traceSec : Nat := 0
  taskSec : Nat := 0
  deriving DecidableEq, Repr


/-- The lease engine and the table sequences beside registers and tables (R227 to R263): build slots, transactions of
furrows that this zone initiates, parts held for other zones, RELEASEs not acknowledged, trailers resolved, heads of
furrows whose owner's old generation left begun steps, heads whose delta is not yet acknowledged with the superframe of
the delta, count of XIDs, open sequences. -/
structure LeaseSt where
  builds : List Build := []
  xfers : List Xfer := []
  parts : List Part := []
  rels : List PendRel := []
  trailers : List TrailerRes := []
  ghosts : List Nat := []
  uncommitted : List (Nat × Nat) := []
  xidNext : Nat := 0
  seqs : List TblSeq := []
  lastErr : Nat := 0
  lastData : Nat := 0
  deriving DecidableEq, Repr


/-- One member at the solver beside tables 0 and 1 (R115, R121, R124 to R126, R137): last accepted epoch, filter, ambiguities, fix state, VERIFY_RUN,
epochs solved since the last exclusion, each signal's LOCK and the epoch, in fleet ns, in which it had it, the last solved epoch in
fleet ns, when an epoch was last solved in ps, DISAGREE and its counts. -/
structure RtkMem where
  lastE : Option Nat := none
  filt : Filt := {}
  ambs : List Amb := []
  state : Nat := 0
  verify : Nat := 0
  clean : Nat := 0
  wholeReset : Bool := true
  locks : List (Nat × Nat × Nat × Nat) := []
  solvedE : Nat := 0
  solvedAt : Option Nat := none
  disagree : Bool := false
  ovr : Nat := 0
  within : Nat := 0
  deriving DecidableEq, Repr

/-- What a solver cell works on: since when in ps, the copy of the member's state it solves on (R120), whether its result is to be
discarded (R124), and by how much fleet time has been stepped since it began, in ns. -/
structure CellWork where
  cell : Nat
  me : MEpoch
  at_ : Nat
  discard : Bool := false
  mem : RtkMem := {}
  shift : Int := 0
  deriving DecidableEq, Repr

/-- Observations, cells, shedding and corrections beside registers and tables (R115 to R147): queued member-epochs in the
order of acceptance, cells at work, members, cycles of the solved member-epochs of the last 10 s, steps of R128 applied,
newest first, since which whole fleet second one more could be undone and at which one was last undone, the strobe of the last applied time step,
correction epochs built, per port what is left to send, ARP built last, whether
the next one is due to ANT_SWITCH or BASE_CHANGED, each channel's last signal, and the strobes, in fleet ns, of the base epochs that reset ambiguities
in every member, with the signals they reset (none: all of them). -/
structure RtkSt where
  queue : List MEpoch := []
  cells : List CellWork := []
  mems : AMap RtkMem := []
  costs : List (Nat × Nat) := []
  shed : List Nat := []
  easySince : Option Nat := none
  undoneAt : Option Nat := none
  second : Nat := 0
  stepAt : Nat := 0
  corrSeq : Nat := 0
  corr : List (List CorrEpoch) := [[], [], [], []]
  corrE : Nat := 0
  arpAt : Option Nat := none
  arpDue : Bool := false
  antDue : Bool := false
  chanSig : AMap (Nat × Nat) := []
  baseHits : List (Nat × Option (List (Nat × Nat))) := []
  deriving DecidableEq, Repr


/-- The route table and the seen cache beside their registers and entries (R216 to R225): place of the scan and when it
last moved in ps, the last whole fleet second aged, no mismatch so far in this pass, a whole pass
without one, start of the block in ps, the bank
lengths of a REPACK in progress, the seen pairs (ORIG_SRC, ORIG_SEQ, fleet ns last seen) of each set, oldest first. -/
structure RouteSt where
  scan : Nat := 0
  scanAt : Nat := 0
  ageSec : Nat := 0
  clean : Bool := false
  passed : Bool := false
  startAt : Option Nat := none
  repack : Option (List Nat) := none
  seen : AMap (List (Nat × Nat × Nat)) := []
  deriving DecidableEq, Repr


/-- A dock's meter (R409, R410, R413): totals in mW·ns, mvar·ns and mVA·ns, outage charge in mA·ms with its value at the last
supply loss and the ms in a row above OUTAGE_MA; the open interval's sums, length in ns, peak in W, signs seen and flags;
SEQ; whether the next record carries START; GAP (0 none, 1 bounded, 2 unbounded). -/
structure DockSt where
  imp : Nat := 0
  exp : Nat := 0
  rpos : Nat := 0
  rneg : Nat := 0
  app : Nat := 0
  fimp : Nat := 0
  fexp : Nat := 0
  out : Nat := 0
  outAt : Nat := 0
  above : Nat := 0
  draw : Bool := false
  ivImp : Nat := 0
  ivExp : Nat := 0
  ivReact : Int := 0
  ivApp : Nat := 0
  ivFund : Int := 0
  ivNs : Nat := 0
  peak : Nat := 0
  pos : Bool := false
  neg : Bool := false
  ovr : Bool := false
  inval : Bool := false
  pq : Bool := false
  noFund : Bool := false
  seq : Nat := 0
  start : Bool := true
  gap : Nat := 0
  deriving DecidableEq, Repr

/-- A power-quality event in progress on a V channel (R412): kind (0 none), start, half-cycles, extreme in mV. -/
structure PqSt where
  kind : Nat := 0
  sec : Nat := 0
  ns : Nat := 0
  n : Nat := 0
  extreme : Nat := 0
  deriving DecidableEq, Repr

/-- A pulse output (R416): remainder times K in mW·ns, pulses waiting, when the last one began, whether it lasts. -/
structure PulseSt where
  remK : Nat := 0
  backlog : Nat := 0
  lastAt : Option Nat := none
  high : Bool := false
  deriving DecidableEq, Repr

/-- The sums of a channel's windows in the present second: RMS, fundamental, P, Q, S, P_f, frequency, overrange. -/
structure ChanSum where
  rms : Nat := 0
  fund : Nat := 0
  p : Int := 0
  q : Int := 0
  s : Nat := 0
  pf : Int := 0
  freq : Nat := 0
  ovr : Bool := false
  n : Nat := 0
  deriving DecidableEq, Repr

/-- A save in flash (R414): fleet second, docks, remainders, event SEQ, its CRC good. -/
structure MeterSave where
  sec : Nat
  docks : List DockSt
  rems : List Nat
  pqSeq : Nat
  ok : Bool
  deriving DecidableEq, Repr

/-- METER beside its registers and table 0 (R405 to R418): docks, sums of the second, events, pulse outputs, records waiting
for queue 26 and events waiting for the store, the next interval end and the last second formed in fleet s, saves, the
sector of the next, when it is due, whether the E0 of charging tasks is to be set, the docks enabled and
OUTAGE_MA when the supply was lost. -/
structure MeterSt where
  docks : List DockSt := List.replicate 12 {}
  sums : List ChanSum := List.replicate 15 {}
  pq : List PqSt := [{}, {}, {}]
  pqSeq : Nat := 0
  pulses : List PulseSt := [{}, {}]
  store : List (List Nat) := []
  pqWait : List (List Nat) := []
  nextIv : Nat := 0
  lastSec : Nat := 0
  saves : List (Option MeterSave) := [none, none]
  saveSlot : Nat := 0
  saveDue : Nat := 0
  e0Due : Bool := false
  outDocks : List Nat := []
  outMa : Nat := 100
  deriving DecidableEq, Repr

/-- A fuse change in progress (R438): setting, value before and after, slot, signer. -/
structure FuseJob where
  setting : Nat
  old : Nat
  value : Nat
  slot : Nat
  signer : Nat
  deriving DecidableEq, Repr

/-- KEYSTORE and FUSE beside registers and tables (R419 to R438): the words of the token under verification, since when the
token buffer is owned, when the nonce was
drawn and the masks replaced, the nonce words of the statement being signed, the fuse change in progress and those that
follow it, torn slots (setting, slot) that ROM has not yet recorded, DEBUG_POLICY in force, what ROM left for statements (ENDORSE and the five image hashes). -/
structure KeySt where
  tok : List Nat := []
  tokAt : Nat := 0
  nonceAt : Nat := 0
  remaskAt : Nat := 0
  attNonce : List Nat := []
  job : Option FuseJob := none
  jobs : List FuseJob := []
  policy : Nat := 0
  torn : List (Nat × Nat) := []
  endorse : Nat := 0
  meas : List Nat := [0, 0, 0, 0, 0]
  deriving DecidableEq, Repr

/-- Debug beside its registers (R442 to R447): when the certificate's duration ends, whether a vendor certificate opened the
session, cores halted (8 the supervisor), EXTEST in the instruction register. -/
structure DebugSt where
  endAt : Option Nat := none
  vendor : Bool := false
  halted : List Nat := []
  extest : Bool := false
  deriving DecidableEq, Repr

/-- A copy of the boot directory (R454): CRC good, DSEQ, PREF, STATE of banks A and B, TRIES. -/
structure DirCopy where
  ok : Bool := false
  dseq : Nat := 0
  pref : Nat := 0
  stA : Nat := 0
  stB : Nat := 0
  tries : Nat := 0
  deriving DecidableEq, Repr

/-- An update operation (R459): 1 VERIFY or 2 PROGRAM, the bank it writes (0 A, 1 B, 2 recovery), CANCEL seen. -/
structure UpdJob where
  op : Nat
  target : Nat
  cancel : Bool := false
  deriving DecidableEq, Repr

/-- The quad-SPI flash and BOOT beside its registers (R452 to R463): directory copies, image sets of banks A, B and recovery,
the set in staging that VERIFY accepted, the update in progress, TO_RECOVERY, types whose image was refused at this boot,
types retained in DRAM, the bank that step 7 refused, where the running
supervisor came from (0 A, 1 B, 2 recovery bank, 3 a download), whether ROM waits in recovery, whether it holds a supervisor
for the temperature, the watchdog's start, the claimed
channel with its last chunk, the next offset, when each port last changed its line rate. -/
structure BootSt where
  dirs : List DirCopy := [{ ok := true, dseq := 1, pref := 0, stA := 2 }, {}]
  banks : List (List Img) := [(List.range 5).map Img.made, [], []]
  staged : List Img := []
  verified : Bool := false
  job : Option UpdJob := none
  refused : List Nat := []
  retained : List Nat := []
  refusedBank : Option Nat := none
  src : Nat := 0
  romDone : Bool := false
  waiting : Bool := false
  relDue : Bool := false
  wdAt : Option Nat := none
  claim : Option (Nat × Nat) := none
  rcvNext : Nat := 0
  rcvHdr : List Nat := []
  linkAt : List Nat := [0, 0]
  deriving DecidableEq, Repr

end Sys2Proof.Machine
end

