-- ==== Sys2Proof/Machine/RegMap.lean ====
section
/-! DEFINITION. The register map of every page, transcribed from the register tables of spec/ (chapters 01 to 24),
the header of R37 to R50 and the table window of R506 included: for each register its offset, its copies, its reset
word and its fields with their access types (R11), stated ranges and lockability (R40). Then one name for each
field (`F.<REGISTER>_<FIELD>`), each counter (`C.<BLOCK>_<NAME>`, R42) and each block-specific interrupt bit
(`I.<BLOCK>_<NAME>`, R54). -/
namespace Sys2Proof.Machine

/-- Access types of R11. -/
inductive Acc where | ro | rw | w1c | w1s | wo | rwl | roc
  deriving DecidableEq, Repr

/-- One field of a register: place, access type, stated range of a written value, lockable under LOCK. -/
structure FldDef where
  lsb : Nat
  width : Nat
  acc : Acc
  lo : Nat
  hi : Nat
  lock : Bool
  deriving DecidableEq, Repr

/-- One register, or `count` copies of one at `stride` bytes from each other, with the reset word its table gives. -/
structure RegDef where
  off : Nat
  count : Nat
  stride : Nat
  reset : Nat
  fields : List FldDef
  deriving DecidableEq, Repr

/-- A named field: block, offset of the register in the page, place of the field, distance between copies. -/
structure Fld where
  blk : Blk
  off : Nat
  lsb : Nat
  width : Nat
  step : Nat
  deriving DecidableEq, Repr

/-- A named 64-bit counter of a page (R42). -/
structure Ctr where
  blk : Blk
  off : Nat
  deriving DecidableEq, Repr

/-- A field without a stated range. -/
def fd (lsb width : Nat) (acc : Acc) (lock : Bool := false) : FldDef := ⟨lsb, width, acc, 0, 2 ^ width - 1, lock⟩
/-- A field with a stated range. -/
def fr (lsb width : Nat) (acc : Acc) (lo hi : Nat) (lock : Bool := false) : FldDef := ⟨lsb, width, acc, lo, hi, lock⟩
/-- A register with a single copy. -/
def rg (off reset : Nat) (fields : List FldDef) : RegDef := ⟨off, 1, 4, reset, fields⟩

/-- The common header of every page (R37 to R55). -/
def hdrRegs : List RegDef := [
  rg 0x000 0x0 [fd 0 5 .ro, fd 5 3 .ro, fd 8 4 .ro, fd 16 8 .ro, fd 24 8 .ro],
  rg 0x004 0x0 [fd 0 8 .ro, fd 8 1 .ro, fd 9 1 .ro, fd 10 1 .ro, fd 16 5 .ro],
  rg 0x008 0x0 [fd 0 1 .rw true, fd 1 1 .w1s, fd 2 1 .w1s],
  rg 0x00C 0x0 [fd 0 3 .ro, fd 3 1 .ro, fd 4 1 .ro, fd 8 8 .ro, fd 16 8 .ro],
  rg 0x010 0x0 [fd 0 1 .w1c, fd 1 1 .w1c, fd 2 1 .w1c, fd 3 1 .w1c, fd 8 8 .ro, fd 16 8 .ro],
  rg 0x014 0x0 [fd 0 1 .rw, fd 1 1 .rw],
  rg 0x018 0x0 [fd 0 2 .wo, fd 8 8 .wo],
  rg 0x01C 0x0 [fd 0 1 .w1c, fd 1 1 .w1c, fd 2 1 .w1c, fd 8 24 .w1c],
  rg 0x020 0x0 [fd 0 1 .rw, fd 1 1 .rw, fd 2 1 .rw, fd 8 24 .rw],
  rg 0x024 0x0 [fd 0 1 .w1s, fd 1 1 .w1s, fd 2 1 .w1s, fd 8 24 .w1s],
  rg 0x030 0x0 [fd 0 1 .w1s]]

/-- Registers of INFO from +0x300. -/
def regs_INFO : List RegDef := [
  rg 0x300 0x5121F3A [fd 0 16 .ro, fd 16 16 .ro],
  rg 0x304 0x0 [fd 0 8 .ro, fd 8 8 .ro],
  rg 0x308 0x0 [fd 0 32 .ro],
  rg 0x30C 0x0 [fd 0 32 .ro],
  rg 0x310 0x0 [fd 0 1 .ro, fd 1 1 .ro, fd 2 1 .ro],
  rg 0x380 0x0 [fd 0 16 .ro, fd 16 1 .ro, fd 17 1 .ro]]

/-- Registers of FAULT from +0x300. -/
def regs_FAULT : List RegDef := [
  rg 0x300 0x0 [fd 0 2 .ro, fd 2 2 .ro, fd 4 1 .ro, fd 5 1 .ro, fd 8 8 .ro],
  rg 0x304 0x0 [fd 0 3 .ro, fd 3 5 .ro, fd 8 4 .ro, fd 12 1 .ro, fd 13 3 .ro]]

/-- Registers of CLOCK from +0x300. -/
def regs_CLOCK : List RegDef := [
  rg 0x300 0x0 [fd 0 1 .ro, fd 1 1 .ro, fd 2 1 .ro, fd 3 1 .ro, fd 4 1 .ro, fd 8 8 .ro],
  rg 0x304 0x0 [fd 0 1 .w1s, fd 1 1 .w1c]]

/-- Registers of RESET from +0x300. -/
def regs_RESET : List RegDef := [
  rg 0x300 0x0 [fd 0 1 .rwl, fd 1 1 .rwl],
  rg 0x304 0x0 [fd 0 1 .ro, fd 1 1 .ro, fd 8 8 .ro],
  rg 0x308 0x0 [fd 0 4 .ro],
  rg 0x30C 0x0 [fd 0 1 .rwl]]

/-- Registers of FUSE from +0x300. -/
def regs_FUSE : List RegDef := [
  rg 0x300 0x0 [fr 0 4 .rwl 0 3, fd 8 8 .rwl, fd 16 1 .rwl],
  rg 0x304 0x0 [fd 0 1 .ro, fd 1 3 .ro],
  ⟨0x310, 9, 4, 0x0, [fd 0 8 .ro, fd 8 8 .ro, fd 16 8 .ro, fd 24 1 .ro]⟩]

/-- Registers of IRQ from +0x300. -/
def regs_IRQ : List RegDef := [
  ⟨0x300, 320, 4, 0x80, [fd 0 6 .rw, fd 7 1 .rw, fd 8 1 .rw]⟩,
  rg 0x800 0x0 [fd 0 32 .wo],
  ⟨0x810, 2, 4, 0x0, [fd 0 32 .ro]⟩]

/-- Registers of GNSS_RF from +0x300. -/
def regs_GNSS_RF : List RegDef := [
  rg 0x300 0x603 [fd 0 1 .rw true, fd 1 1 .rw true, fd 2 1 .rw true, fr 8 8 .rw 0 30 true],
  rg 0x304 0x3 [fd 0 2 .ro, fd 2 1 .ro, fd 3 1 .ro, fd 4 1 .ro, fd 8 8 .ro, fd 16 8 .ro]]

/-- Registers of GNSS_ACQ from +0x300. -/
def regs_GNSS_ACQ : List RegDef := [
  rg 0x300 0x1FFF [fd 0 13 .rw true],
  rg 0x304 0xA06 [fr 0 4 .rw 0 8 true, fr 8 8 .rw 0 60 true],
  rg 0x308 0x0 [fd 0 2 .ro, fd 8 8 .ro, fd 16 8 .ro]]

/-- Registers of GNSS_TRK from +0x300. -/
def regs_GNSS_TRK : List RegDef := [
  ⟨0x300, 16, 4, 0x0, [fd 0 3 .ro, fd 3 1 .ro, fd 8 5 .ro, fd 16 8 .ro, fd 24 8 .ro]⟩]

/-- Registers of GNSS_MEAS from +0x300. -/
def regs_GNSS_MEAS : List RegDef := [
  rg 0x300 0x13 [fr 0 3 .rw 0 4, fd 3 1 .rw, fd 4 1 .rw, fd 5 1 .rw, fd 6 1 .rw],
  rg 0x304 0x0 [fd 0 32 .ro],
  rg 0x308 0x0 [fd 0 2 .rwl, fd 2 1 .w1s, fd 3 1 .ro, fd 4 3 .ro],
  rg 0x310 0x0 [fd 0 32 .rwl],
  rg 0x314 0x0 [fd 0 32 .rwl],
  rg 0x318 0x0 [fd 0 32 .rwl],
  rg 0x31C 0x0 [fd 0 32 .rwl],
  rg 0x320 0x0 [fd 0 32 .rwl],
  rg 0x324 0x0 [fd 0 32 .rwl],
  rg 0x328 0x0 [fd 0 32 .rwl],
  rg 0x32C 0x0 [fd 0 32 .rwl],
  rg 0x330 0x0 [fd 0 32 .rwl],
  rg 0x340 0x708 [fr 0 32 .rw 60 86400],
  rg 0x344 0x15180 [fr 0 32 .rw 60 604800],
  rg 0x348 0x1F4 [fr 0 32 .rw 10 10000],
  rg 0x34C 0x0 [fd 0 32 .ro],
  rg 0x350 0xFFFFFFFF [fd 0 32 .ro],
  rg 0x360 0x6461 [fd 0 1 .rw true, fr 4 4 .rw 4 15 true, fr 8 10 .rw 20 400 true],
  rg 0x364 0x0 [fd 0 1 .ro, fd 1 1 .w1c, fd 2 1 .ro, fd 3 1 .ro, fd 8 8 .ro, fd 16 8 .ro]]

/-- Registers of TIME from +0x300. -/
def regs_TIME : List RegDef := [
  rg 0x300 0x724 [fd 0 2 .rw true, fd 2 2 .rw true, fd 4 2 .rw true, fd 8 3 .rw true, fd 12 1 .rw true],
  rg 0x304 0x2710 [fr 0 32 .rw 100 100000 true],
  rg 0x308 0x1F4 [fr 0 32 .rwl 50 100000],
  rg 0x30C 0xF18 [fd 0 3 .ro, fd 3 2 .ro, fd 5 1 .ro, fd 6 1 .ro, fd 7 1 .ro, fd 8 4 .ro, fd 16 8 .ro, fd 24 1 .ro, fd 25 1 .ro],
  rg 0x310 0x0 [fd 0 32 .ro],
  rg 0x314 0x0 [fd 0 32 .ro],
  rg 0x318 0x0 [fd 0 32 .ro],
  rg 0x320 0x0 [fd 0 32 .ro],
  rg 0x324 0x0 [fd 0 32 .ro],
  rg 0x328 0xFFFFFFFF [fd 0 32 .ro],
  rg 0x330 0x3E8 [fr 0 32 .rw 1 10000000],
  rg 0x334 0x24 [fr 0 32 .rw 0 10000000],
  rg 0x338 0xF4240 [fr 0 32 .rw 1 200000000],
  rg 0x33C 0x32 [fr 0 32 .rw 1 100000],
  rg 0x340 0x18000 [fd 0 16 .rw, fr 16 2 .rw 0 2],
  rg 0x344 0x0 [fd 0 32 .rw],
  rg 0x350 0x0 [fr 0 3 .rwl 1 4, fd 8 3 .ro],
  rg 0x354 0x0 [fd 0 32 .rwl],
  rg 0x358 0x0 [fd 0 32 .rwl],
  rg 0x360 0x6400 [fd 0 1 .rw, fd 1 1 .rw, fd 2 1 .rw, fr 8 8 .rw 1 200, fd 16 16 .rw],
  ⟨0x370, 2, 4, 0x0, [fd 0 16 .rw, fd 16 16 .rw]⟩,
  ⟨0x380, 2, 16, 0x0, [fd 0 16 .ro, fd 16 1 .ro, fd 24 8 .ro]⟩,
  ⟨0x384, 2, 16, 0x0, [fd 0 32 .ro]⟩,
  ⟨0x388, 2, 16, 0x0, [fd 0 32 .ro]⟩,
  ⟨0x38C, 2, 16, 0x0, [fd 0 16 .ro]⟩]

/-- Registers of METER from +0x300. -/
def regs_METER : List RegDef := [
  rg 0x300 0x8FC0000 [fd 0 1 .rw true, fd 1 1 .rw true, fr 16 16 .rw 500 10000 true],
  rg 0x304 0x2056E5A [fr 0 8 .rw 50 99 true, fr 8 8 .rw 101 150 true, fr 16 8 .rw 1 20 true, fr 24 8 .rw 1 10 true],
  rg 0x308 0x3C [fr 0 32 .rw 1 3600 true],
  rg 0x30C 0x3C [fr 0 32 .rw 1 600 true],
  rg 0x310 0x64 [fr 0 32 .rw 1 100000],
  rg 0x314 0x0 [fd 0 32 .ro],
  ⟨0x320, 2, 4, 0x3E81E00, [fr 0 4 .rw 0 12 true, fd 4 2 .rw true, fd 6 1 .rw true, fd 7 1 .rw true, fr 8 8 .rw 5 100 true, fr 16 16 .rw 1 65535 true]⟩,
  rg 0x330 0x3 [fd 0 2 .ro, fd 2 1 .ro, fd 3 1 .ro, fd 8 3 .ro, fd 11 3 .ro, fd 14 3 .ro]]

/-- Registers of OBS_IN from +0x300. -/
def regs_OBS_IN : List RegDef := [
  rg 0x300 0xC8 [fr 0 9 .rw 10 300 true, fd 9 1 .rw true, fd 10 1 .rw true]]

/-- Registers of SOLVER from +0x300. -/
def regs_SOLVER : List RegDef := [
  rg 0x300 0x0 [fd 0 1 .ro, fd 1 1 .ro, fd 8 9 .ro],
  rg 0x304 0x0 [fd 0 32 .ro]]

/-- Registers of RTK_CTRL from +0x300. -/
def regs_RTK_CTRL : List RegDef := [
  rg 0x300 0x60A061E [fr 0 8 .rw 15 100 true, fr 8 6 .rw 4 48 true, fr 16 6 .rw 2 63 true, fd 24 3 .rw true, fd 28 1 .rw true],
  rg 0x304 0x50A4B [fr 0 8 .rw 40 95 true, fr 8 8 .rw 0 60 true, fr 16 4 .rw 1 15 true],
  rg 0x308 0x2000 [fr 0 32 .rw 256 65536 true],
  rg 0x30C 0x2710 [fr 0 32 .rw 100 50000 true],
  rg 0x310 0x0 [fd 0 5 .ro, fd 8 3 .ro, fd 11 1 .ro, fd 16 11 .ro],
  rg 0x314 0x112A88 [fd 0 32 .ro],
  rg 0x318 0x0 [fd 0 32 .ro],
  rg 0x320 0x0 [fd 0 32 .rwl],
  rg 0x324 0x0 [fd 0 32 .rwl],
  rg 0x328 0x0 [fd 0 32 .rwl],
  rg 0x32C 0x0 [fd 0 32 .rwl],
  rg 0x330 0x0 [fd 0 32 .rwl],
  rg 0x334 0x0 [fd 0 32 .rwl],
  rg 0x340 0x1322B3C [fr 0 8 .rw 30 200 true, fr 8 8 .rw 20 80 true, fd 16 2 .rw true, fr 20 4 .rw 1 15 true, fd 24 1 .rw true],
  rg 0x344 0x1F4012C [fr 0 16 .rw 10 10000 true, fr 16 16 .rw 10 20000 true],
  rg 0x348 0x32 [fr 0 32 .rw 10 1000 true],
  rg 0x34C 0x7D0 [fr 0 32 .rw 200 10000 true],
  rg 0x350 0x0 [fd 0 1 .ro, fd 16 10 .ro]]

/-- Registers of CORR_OUT from +0x300. -/
def regs_CORR_OUT : List RegDef := [
  rg 0x300 0x4000F [fd 0 6 .rw true, fd 8 6 .rw true, fd 16 1 .rw true, fd 17 1 .rw true, fd 18 1 .rw true],
  rg 0x304 0xA6A0000 [fd 0 12 .rw true, fr 16 4 .rw 1 15 true, fr 20 4 .rw 0 6 true, fr 24 8 .rw 1 60 true],
  rg 0x308 0x0 [fr 0 16 .rw 0 65535],
  rg 0x30C 0x3E8 [fr 0 32 .rw 100 5000],
  rg 0x310 0x0 [fd 0 32 .ro]]

/-- Registers of AIRPORT from +0x300. -/
def regs_AIRPORT : List RegDef := [
  rg 0x300 0x1 [fr 0 2 .rw 0 2 true, fd 2 1 .rw true, fd 8 4 .rw true],
  rg 0x304 0x51428 [fr 0 8 .rw 0 127 true, fr 8 8 .rw 0 127 true, fr 16 8 .rw 0 127 true],
  rg 0x308 0x50F0A [fr 0 8 .rw 0 127 true, fr 8 8 .rw 0 127 true, fr 16 8 .rw 0 127 true],
  rg 0x30C 0x0 [fr 0 16 .rw 0 10000 true, fr 16 16 .rw 0 10000 true],
  rg 0x310 0xA00 [fr 0 2 .rw 0 2, fr 8 8 .rw 0 40],
  rg 0x320 0x100007 [fr 0 8 .rw 3 255, fd 8 1 .rw, fd 9 1 .rw, fr 16 6 .rw 8 32],
  rg 0x324 0x0 [fd 0 32 .rw],
  rg 0x328 0x0 [fd 0 32 .rw],
  rg 0x32C 0x0 [fd 0 32 .rw],
  rg 0x330 0x0 [fd 0 32 .rw],
  rg 0x334 0x1000 [fd 0 1 .w1s, fd 1 1 .ro, fd 2 1 .w1c, fr 8 6 .rw 8 32],
  rg 0x338 0x0 [fd 0 32 .ro],
  rg 0x340 0x80 [fd 0 2 .ro, fd 2 1 .ro, fd 3 1 .ro, fd 4 4 .ro, fd 8 2 .ro],
  rg 0x344 0x0 [fd 0 1 .w1s]]

/-- Registers of SLUICE from +0x300. -/
def regs_SLUICE : List RegDef := [
  rg 0x300 0x82813 [fr 0 4 .rw 2 8 true, fd 4 1 .rw true, fr 8 8 .rw 1 200 true, fr 16 4 .rw 2 15 true],
  rg 0x304 0x0 [fd 0 16 .rw true],
  rg 0x308 0x0 [fd 0 32 .rw],
  ⟨0x310, 2, 4, 0x1, [fr 0 2 .rw 0 2, fd 4 3 .ro, fd 8 8 .ro]⟩,
  rg 0x318 0x0 [fd 0 1 .ro, fd 1 1 .ro, fd 2 1 .w1s, fd 3 1 .w1s, fd 8 4 .ro, fd 16 11 .ro],
  rg 0x31C 0x0 [fd 0 32 .rw],
  rg 0x320 0x0 [fd 0 10 .ro, fd 16 10 .ro, fd 28 2 .ro]]

/-- Registers of FRAME_SEC from +0x300. -/
def regs_FRAME_SEC : List RegDef := [
  rg 0x300 0x4018 [fr 0 4 .rw 1 15 true, fd 4 1 .rw true, fr 8 8 .rw 16 255 true],
  rg 0x304 0x0 [fd 0 8 .ro, fd 8 8 .ro, fd 16 8 .ro, fd 24 1 .ro, fd 25 1 .ro],
  rg 0x308 0x0 [fd 0 32 .rwl]]

/-- Registers of ROUTE from +0x300. -/
def regs_ROUTE : List RegDef := [
  rg 0x300 0x200C [fd 0 1 .rw true, fd 1 1 .rw true, fd 2 1 .rw true, fd 3 1 .rw true, fd 8 8 .rw true],
  rg 0x304 0x0 [fd 0 1 .ro, fd 1 1 .ro, fd 16 13 .ro],
  rg 0x308 0x1E [fr 0 32 .rw 2 3600 true],
  rg 0x30C 0x0 [fr 0 32 .rw 0 65535],
  rg 0x310 0x3 [fd 0 8 .rw, fd 16 16 .rw],
  ⟨0x320, 8, 4, 0x0, [fd 0 32 .ro]⟩]

/-- Registers of FLOOD from +0x300. -/
def regs_FLOOD : List RegDef := [
  rg 0x300 0x13 [fr 0 3 .rw 1 7 true, fr 4 2 .rw 1 3 true],
  rg 0x304 0x0 [fd 0 11 .ro]]

/-- Registers of REGISTRY from +0x300. -/
def regs_REGISTRY : List RegDef := [
  rg 0x300 0x302 [fr 0 4 .rw 1 15 true, fd 4 1 .rw true, fr 8 4 .rw 1 15 true],
  rg 0x304 0x12C [fr 0 32 .rw 50 10000 true],
  rg 0x308 0x3E8 [fr 0 32 .rw 100 60000 true],
  rg 0x30C 0x0 [fd 0 10 .ro, fd 10 10 .ro, fd 20 10 .ro],
  rg 0x310 0x1 [fd 0 16 .ro, fd 16 1 .w1s]]

/-- Registers of GRAPH from +0x300. -/
def regs_GRAPH : List RegDef := [
  rg 0x300 0x0 [fd 0 32 .ro],
  rg 0x304 0x0 [fd 0 32 .ro]]

/-- Registers of LEASE from +0x300. -/
def regs_LEASE : List RegDef := [
  rg 0x300 0x1 [fd 0 1 .rw true, fd 1 1 .rw true],
  rg 0x304 0xFA [fr 0 32 .rw 0 10000 true],
  rg 0x308 0x258 [fr 0 32 .rw 10 3600 true],
  rg 0x30C 0x2710 [fr 0 32 .rw 1000 1000000],
  rg 0x310 0x3E8 [fr 0 32 .rw 100 10000],
  rg 0x314 0x0 [fd 0 32 .ro],
  rg 0x318 0x0 [fd 0 19 .ro, fd 19 1 .ro, fd 20 3 .ro, fd 23 1 .ro, fd 24 7 .ro],
  rg 0x31C 0x0 [fd 0 16 .ro, fd 16 8 .ro],
  rg 0x320 0x0 [fd 0 1 .w1s]]

/-- Registers of TURNOUT from +0x300. -/
def regs_TURNOUT : List RegDef := [
  rg 0x300 0x2710 [fr 0 32 .rw 1000 1000000 true],
  rg 0x304 0x0 [fd 0 14 .ro, fd 15 8 .ro, fd 24 8 .ro],
  rg 0x308 0x0 [fd 0 32 .ro]]

/-- Registers of MOTION from +0x300. -/
def regs_MOTION : List RegDef := [
  rg 0x300 0x0 [fr 0 2 .rw 0 2 true],
  rg 0x304 0x1388 [fr 0 32 .rw 1000 1000000 true],
  rg 0x308 0x1F4 [fr 0 32 .rw 0 10000 true],
  rg 0x30C 0x1F4 [fr 0 32 .rw 100 10000 true],
  rg 0x310 0x3E8 [fr 0 32 .rw 100 65535 true],
  rg 0x314 0x0 [fd 0 10 .ro, fd 10 10 .ro, fd 20 10 .ro]]

/-- Registers of TASKBOARD from +0x300. -/
def regs_TASKBOARD : List RegDef := [
  rg 0x300 0x0 [fd 0 13 .ro, fd 16 13 .ro]]

/-- Registers of DISPATCH from +0x300. -/
def regs_DISPATCH : List RegDef := [
  rg 0x300 0x0 [fd 0 1 .rw true, fd 1 1 .rw true],
  rg 0x304 0x400 [fr 0 32 .rw 0 3072 true],
  rg 0x308 0x2710 [fr 0 32 .rw 100 1000000 true],
  rg 0x30C 0xC8 [fr 0 32 .rw 10 10000 true],
  rg 0x310 0x20380000 [fd 0 32 .ro],
  rg 0x314 0x18000000 [fd 0 13 .ro, fd 16 13 .ro],
  rg 0x318 0x0 [fd 0 32 .ro],
  ⟨0x400, 32, 4, 0xFF0100, [fd 0 2 .rw true, fr 8 8 .rw 1 255 true, fd 16 8 .rw true]⟩]

/-- Registers of CORE from +0x300. -/
def regs_CORE : List RegDef := [
  rg 0x300 0x2000 [fd 0 8 .ro, fd 8 3 .ro, fd 11 2 .ro, fd 13 1 .ro]]

/-- Registers of PCIE from +0x300. -/
def regs_PCIE : List RegDef := [
  rg 0x300 0x0 [fd 0 1 .ro, fd 1 2 .ro, fd 3 3 .ro, fd 6 1 .ro],
  rg 0x304 0x0 [fd 0 1 .rw true]]

/-- Registers of FLUME from +0x300. -/
def regs_FLUME : List RegDef := [
  rg 0x300 0x88B5 [fr 0 16 .rw 1536 65535 true, fd 16 1 .rw true],
  rg 0x304 0x0 [fd 0 32 .rw],
  rg 0x308 0x0 [fr 0 32 .rw 0 65535],
  rg 0x30C 0x32 [fr 0 32 .rw 0 10000],
  rg 0x310 0x64 [fr 0 32 .rw 20 10000],
  rg 0x314 0x7D0 [fr 0 32 .rw 100 100000],
  rg 0x318 0x3E8 [fr 0 32 .rw 10 60000],
  rg 0x320 0x1 [fd 0 16 .ro, fd 16 1 .ro, fd 17 1 .ro],
  rg 0x324 0x0 [fd 0 6 .wo, fd 8 1 .wo]]

/-- Registers of ETH from +0x300. -/
def regs_ETH : List RegDef := [
  rg 0x300 0x24 [fr 0 2 .rw 0 2 true, fd 2 1 .rw true, fd 3 1 .rw true, fd 4 1 .rw true, fd 5 1 .rw true, fr 16 12 .rw 1 4094 true],
  rg 0x304 0x0 [fd 0 1 .ro, fd 1 1 .ro, fd 8 8 .ro, fd 16 8 .ro],
  rg 0x308 0x0 [fd 0 32 .rw true],
  rg 0x30C 0x0 [fr 0 32 .rw 0 65535 true],
  rg 0x310 0x10 [fr 0 32 .rw 4 28]]

/-- Registers of CANAL from +0x300. -/
def regs_CANAL : List RegDef := [
  rg 0x300 0x0 [fd 0 2 .ro, fd 2 1 .ro, fd 3 1 .ro, fd 8 6 .ro, fd 14 1 .ro, fd 15 1 .ro],
  rg 0x304 0x0 [fd 0 32 .ro],
  rg 0x320 0x27F00 [fr 0 7 .rw 0 64 true, fd 8 7 .rw true, fd 16 2 .rwl],
  rg 0x324 0x64 [fr 0 32 .rw 10 1000 true],
  rg 0x328 0x1F4 [fr 0 32 .rw 100 10000],
  rg 0x330 0x0 [fd 0 32 .rw],
  rg 0x334 0x0 [fd 0 32 .rw],
  rg 0x338 0x0 [fd 0 6 .ro, fd 6 1 .ro, fd 7 1 .ro, fd 8 1 .ro, fd 9 1 .ro, fd 10 1 .ro, fd 11 1 .ro, fd 12 4 .ro, fd 16 7 .ro],
  rg 0x340 0x0 [fd 0 32 .ro],
  rg 0x344 0x0 [fd 0 32 .ro]]

/-- Registers of PAIR from +0x300. -/
def regs_PAIR : List RegDef := [
  rg 0x300 0x301 [fd 0 1 .rw true, fr 8 4 .rw 2 15 true],
  rg 0x304 0x3C [fr 0 32 .rw 10 3600 true],
  rg 0x308 0x0 [fd 0 32 .ro],
  rg 0x30C 0x0 [fd 0 1 .w1s, fd 1 1 .rw, fd 2 1 .rwl, fd 3 1 .rwl, fd 4 1 .rw],
  rg 0x310 0x1000 [fd 0 1 .ro, fd 1 3 .ro, fd 4 1 .ro, fd 5 2 .ro, fd 7 1 .ro, fd 8 1 .ro, fd 9 1 .ro, fd 10 1 .ro, fd 11 1 .ro, fd 12 4 .ro],
  rg 0x314 0x0 [fd 0 32 .ro],
  rg 0x318 0x0 [fd 0 32 .ro],
  rg 0x31C 0x0 [fd 0 32 .ro]]

/-- Registers of DRAM from +0x300. -/
def regs_DRAM : List RegDef := [
  rg 0x300 0x100 [fr 0 3 .rw 0 4 true, fd 8 1 .rw true],
  rg 0x304 0x1C0001C [fd 0 1 .ro, fd 1 1 .ro, fd 2 3 .ro, fd 16 16 .ro],
  ⟨0x310, 5, 8, 0x0, [fd 0 16 .rw]⟩,
  ⟨0x314, 5, 8, 0x0, [fd 0 16 .rw]⟩,
  rg 0x340 0x0 [fd 0 32 .ro]]

/-- Registers of KEEP from +0x300. -/
def regs_KEEP : List RegDef := [
  rg 0x300 0x0 [fd 0 3 .ro, fd 3 1 .ro, fd 4 4 .ro],
  rg 0x304 0x0 [fd 0 3 .rwl, fd 8 1 .w1s],
  rg 0x310 0x0 [fr 0 2 .rw 0 2],
  rg 0x314 0x0 [fd 0 3 .ro, fd 4 4 .ro]]

/-- Registers of KEYSTORE from +0x300. -/
def regs_KEYSTORE : List RegDef := [
  rg 0x300 0x3E8 [fr 0 16 .rw 100 10000 true],
  rg 0x310 0x0 [fd 0 32 .ro],
  rg 0x314 0x0 [fd 0 32 .ro],
  rg 0x318 0x0 [fd 0 1 .w1s, fd 1 1 .w1s, fd 2 1 .w1s],
  rg 0x31C 0x0 [fd 0 8 .ro, fd 8 1 .ro, fd 12 4 .ro, fd 16 4 .ro],
  rg 0x320 0x0 [fd 0 6 .rwl, fd 6 1 .rwl],
  ⟨0x400, 64, 4, 0x0, [fd 0 32 .rw]⟩,
  ⟨0x580, 8, 4, 0x0, [fd 0 32 .rw]⟩,
  rg 0x5A0 0x0 [fd 0 1 .w1s],
  rg 0x5A4 0x0 [fd 0 1 .ro, fd 1 1 .w1c, fd 8 8 .ro],
  ⟨0x600, 105, 4, 0x0, [fd 0 32 .ro]⟩]

/-- Registers of EVLOG from +0x300. -/
def regs_EVLOG : List RegDef := [
  rg 0x300 0x3 [fd 0 1 .rw true, fd 1 1 .rw true],
  rg 0x304 0x14000A [fr 0 14 .rw 1 10000 true, fr 16 11 .rw 1 1024 true],
  rg 0x308 0x0 [fd 0 32 .ro],
  rg 0x30C 0x0 [fd 0 32 .ro],
  rg 0x310 0x0 [fd 0 32 .ro],
  rg 0x314 0x0 [fd 0 32 .ro],
  rg 0x318 0x0 [fd 0 13 .ro, fd 13 3 .ro, fd 16 9 .ro, fd 25 1 .ro]]

/-- Registers of BOOT from +0x300. -/
def regs_BOOT : List RegDef := [
  rg 0x300 0x0 [fd 0 1 .ro, fd 1 1 .ro, fd 2 1 .ro, fd 3 1 .ro, fd 4 2 .ro, fd 8 5 .ro, fd 16 4 .ro],
  rg 0x304 0x0 [fd 0 1 .w1s],
  rg 0x308 0x0 [fd 0 3 .wo, fd 8 1 .rwl, fd 9 1 .rwl],
  rg 0x30C 0x0 [fd 0 1 .ro, fd 1 4 .ro, fd 5 3 .ro, fd 16 16 .ro],
  rg 0x310 0x0 [fd 0 32 .rw],
  rg 0x314 0x0 [fd 0 32 .ro],
  ⟨0x320, 5, 4, 0x0, [fd 0 32 .ro]⟩,
  rg 0x340 0x0 [fd 0 1 .w1s],
  rg 0x344 0x0 [fd 0 32 .ro],
  rg 0x348 0x0 [fd 0 32 .ro],
  ⟨0x400, 272, 4, 0x0, [fd 0 32 .rw]⟩]

/-- Registers of DEBUG from +0x300. -/
def regs_DEBUG : List RegDef := [
  rg 0x300 0x0 [fd 0 2 .ro, fd 2 3 .ro, fd 8 4 .ro, fd 16 16 .ro],
  rg 0x304 0x0 [fd 0 1 .rwl, fd 1 1 .w1s, fd 2 1 .w1s, fd 3 1 .w1s, fd 4 1 .w1s],
  ⟨0x320, 8, 4, 0x0, [fd 0 32 .ro]⟩,
  ⟨0x400, 32, 4, 0x0, [fd 0 32 .wo]⟩]

/-- Registers of HEADGATE from +0x300. -/
def regs_HEADGATE : List RegDef := [
  rg 0x300 0x16E2 [fr 0 2 .rwl 2 3, fd 4 3 .rwl, fd 7 1 .rwl, fd 8 3 .rwl, fd 11 1 .rwl, fd 12 3 .rwl, fr 16 10 .rwl 0 1000],
  rg 0x304 0x32 [fd 0 2 .ro, fd 2 6 .ro, fd 8 8 .ro, fd 16 1 .ro, fd 17 1 .ro, fd 18 1 .ro, fd 19 1 .ro, fd 20 1 .ro, fd 24 4 .ro],
  rg 0x308 0x1000 [fd 1 12 .ro],
  rg 0x30C 0x0 [fd 0 3 .ro, fd 4 3 .ro, fd 8 2 .ro],
  rg 0x310 0x0 [fd 0 3 .w1s],
  rg 0x314 0x0 [fr 0 2 .rwl 1 2, fd 8 8 .rwl],
  rg 0x318 0x0 [fd 0 4 .ro, fd 8 8 .ro, fd 16 16 .ro],
  rg 0x31C 0x0 [fd 0 16 .ro, fd 16 16 .ro]]

/-- Registers of REGION_CTL from +0x300. -/
def regs_REGION_CTL : List RegDef := [
  rg 0x300 0x0 [fd 0 32 .ro],
  rg 0x304 0x0 [fd 0 32 .ro],
  rg 0x308 0x0 [fd 0 32 .ro],
  rg 0x400 0x0 [fd 0 5 .ro],
  rg 0x404 0xA0100 [fr 0 16 .rw 16 65535 true, fr 16 8 .rw 1 255 true],
  rg 0x408 0x0 [fd 0 1 .rw, fd 1 1 .ro, fd 8 5 .wo, fd 13 1 .wo],
  rg 0x40C 0x0 [fd 0 5 .ro, fd 5 1 .ro, fd 6 1 .ro, fd 8 8 .ro],
  rg 0x410 0x0 [fd 0 32 .ro],
  ⟨0x500, 32, 4, 0x80010, [fr 0 9 .rw 1 256 true, fd 9 1 .rw true, fr 16 8 .rw 1 255 true]⟩]

/-- The block-specific registers of a block. -/
def Blk.regs : Blk → List RegDef
  | .info => regs_INFO
  | .fault => regs_FAULT
  | .clock => regs_CLOCK
  | .reset => regs_RESET
  | .fuse => regs_FUSE
  | .irq => regs_IRQ
  | .gnssRf => regs_GNSS_RF
  | .gnssAcq => regs_GNSS_ACQ
  | .gnssTrk => regs_GNSS_TRK
  | .gnssMeas => regs_GNSS_MEAS
  | .time => regs_TIME
  | .meter => regs_METER
  | .obsIn => regs_OBS_IN
  | .solver => regs_SOLVER
  | .rtkCtrl => regs_RTK_CTRL
  | .corrOut => regs_CORR_OUT
  | .airport => regs_AIRPORT
  | .sluice => regs_SLUICE
  | .frameSec => regs_FRAME_SEC
  | .route => regs_ROUTE
  | .flood => regs_FLOOD
  | .registry => regs_REGISTRY
  | .graph => regs_GRAPH
  | .lease => regs_LEASE
  | .turnout => regs_TURNOUT
  | .motion => regs_MOTION
  | .taskboard => regs_TASKBOARD
  | .dispatch => regs_DISPATCH
  | .core => regs_CORE
  | .pcie => regs_PCIE
  | .flume => regs_FLUME
  | .eth => regs_ETH
  | .canal => regs_CANAL
  | .pair => regs_PAIR
  | .dram => regs_DRAM
  | .keep => regs_KEEP
  | .keystore => regs_KEYSTORE
  | .evlog => regs_EVLOG
  | .boot => regs_BOOT
  | .debug => regs_DEBUG
  | .headgate => regs_HEADGATE
  | .regionCtl => regs_REGION_CTL

/-- How many 64-bit counters a page of the block has, the two common ones included (R42). -/
def Blk.ncount : Blk → Nat
  | .info => 2
  | .fault => 6
  | .clock => 2
  | .reset => 2
  | .fuse => 4
  | .irq => 2
  | .gnssRf => 2
  | .gnssAcq => 2
  | .gnssTrk => 4
  | .gnssMeas => 2
  | .time => 6
  | .meter => 9
  | .obsIn => 15
  | .solver => 5
  | .rtkCtrl => 13
  | .corrOut => 7
  | .airport => 11
  | .sluice => 15
  | .frameSec => 9
  | .route => 13
  | .flood => 6
  | .registry => 10
  | .graph => 3
  | .lease => 11
  | .turnout => 10
  | .motion => 9
  | .taskboard => 8
  | .dispatch => 12
  | .core => 7
  | .pcie => 6
  | .flume => 9
  | .eth => 11
  | .canal => 18
  | .pair => 10
  | .dram => 5
  | .keep => 2
  | .keystore => 7
  | .evlog => 10
  | .boot => 8
  | .debug => 5
  | .headgate => 12
  | .regionCtl => 7

/-- PAGE_ID.BLOCK of every page, RO. -/
abbrev F.PAGE_ID_BLOCK : Fld := ⟨.info, 0x000, 0, 5, 0⟩
/-- PAGE_ID.REGION of every page, RO. -/
abbrev F.PAGE_ID_REGION : Fld := ⟨.info, 0x000, 5, 3, 0⟩
/-- PAGE_ID.INSTANCE of every page, RO. -/
abbrev F.PAGE_ID_INSTANCE : Fld := ⟨.info, 0x000, 8, 4, 0⟩
/-- PAGE_ID.VERSION of every page, RO. -/
abbrev F.PAGE_ID_VERSION : Fld := ⟨.info, 0x000, 16, 8, 0⟩
/-- PAGE_ID.STEPPING of every page, RO. -/
abbrev F.PAGE_ID_STEPPING : Fld := ⟨.info, 0x000, 24, 8, 0⟩
/-- PAGE_CAPS.CELLS of every page, RO. -/
abbrev F.PAGE_CAPS_CELLS : Fld := ⟨.info, 0x004, 0, 8, 0⟩
/-- PAGE_CAPS.TABLE of every page, RO. -/
abbrev F.PAGE_CAPS_TABLE : Fld := ⟨.info, 0x004, 8, 1, 0⟩
/-- PAGE_CAPS.TAGGED of every page, RO. -/
abbrev F.PAGE_CAPS_TAGGED : Fld := ⟨.info, 0x004, 9, 1, 0⟩
/-- PAGE_CAPS.LOCKABLE of every page, RO. -/
abbrev F.PAGE_CAPS_LOCKABLE : Fld := ⟨.info, 0x004, 10, 1, 0⟩
/-- PAGE_CAPS.NCOUNT of every page, RO. -/
abbrev F.PAGE_CAPS_NCOUNT : Fld := ⟨.info, 0x004, 16, 5, 0⟩
/-- CTRL.EN of every page, RW. -/
abbrev F.CTRL_EN : Fld := ⟨.info, 0x008, 0, 1, 0⟩
/-- CTRL.RESTART of every page, W1S. -/
abbrev F.CTRL_RESTART : Fld := ⟨.info, 0x008, 1, 1, 0⟩
/-- CTRL.ISO_CLEAR of every page, W1S. -/
abbrev F.CTRL_ISO_CLEAR : Fld := ⟨.info, 0x008, 2, 1, 0⟩
/-- STATE.STATE of every page, RO. -/
abbrev F.STATE : Fld := ⟨.info, 0x00C, 0, 3, 0⟩
/-- STATE.PEND_ON of every page, RO. -/
abbrev F.STATE_PEND_ON : Fld := ⟨.info, 0x00C, 3, 1, 0⟩
/-- STATE.PEND_OFF of every page, RO. -/
abbrev F.STATE_PEND_OFF : Fld := ⟨.info, 0x00C, 4, 1, 0⟩
/-- STATE.CELLS_LIVE of every page, RO. -/
abbrev F.STATE_CELLS_LIVE : Fld := ⟨.info, 0x00C, 8, 8, 0⟩
/-- STATE.RESTARTS of every page, RO. -/
abbrev F.STATE_RESTARTS : Fld := ⟨.info, 0x00C, 16, 8, 0⟩
/-- ERR_STATUS.CORR of every page, W1C. -/
abbrev F.ERR_STATUS_CORR : Fld := ⟨.info, 0x010, 0, 1, 0⟩
/-- ERR_STATUS.CONT of every page, W1C. -/
abbrev F.ERR_STATUS_CONT : Fld := ⟨.info, 0x010, 1, 1, 0⟩
/-- ERR_STATUS.UNCONT of every page, W1C. -/
abbrev F.ERR_STATUS_UNCONT : Fld := ⟨.info, 0x010, 2, 1, 0⟩
/-- ERR_STATUS.MULTI of every page, W1C. -/
abbrev F.ERR_STATUS_MULTI : Fld := ⟨.info, 0x010, 3, 1, 0⟩
/-- ERR_STATUS.CELL of every page, RO. -/
abbrev F.ERR_STATUS_CELL : Fld := ⟨.info, 0x010, 8, 8, 0⟩
/-- ERR_STATUS.CODE of every page, RO. -/
abbrev F.ERR_STATUS_CODE : Fld := ⟨.info, 0x010, 16, 8, 0⟩
/-- ERR_MASK.MASK_CORR of every page, RW. -/
abbrev F.ERR_MASK_MASK_CORR : Fld := ⟨.info, 0x014, 0, 1, 0⟩
/-- ERR_MASK.MASK_CONT of every page, RW. -/
abbrev F.ERR_MASK_MASK_CONT : Fld := ⟨.info, 0x014, 1, 1, 0⟩
/-- ERR_INJECT.CLASS of every page, WO. -/
abbrev F.ERR_INJECT_CLASS : Fld := ⟨.info, 0x018, 0, 2, 0⟩
/-- ERR_INJECT.CELL of every page, WO. -/
abbrev F.ERR_INJECT_CELL : Fld := ⟨.info, 0x018, 8, 8, 0⟩
/-- IRQ_STATUS.ERR of every page, W1C. -/
abbrev F.IRQ_STATUS_ERR : Fld := ⟨.info, 0x01C, 0, 1, 0⟩
/-- IRQ_STATUS.STATE_CHG of every page, W1C. -/
abbrev F.IRQ_STATUS_STATE_CHG : Fld := ⟨.info, 0x01C, 1, 1, 0⟩
/-- IRQ_STATUS.TBL_DONE of every page, W1C. -/
abbrev F.IRQ_STATUS_TBL_DONE : Fld := ⟨.info, 0x01C, 2, 1, 0⟩
/-- IRQ_STATUS.BLOCK of every page, W1C. -/
abbrev F.IRQ_STATUS_BLOCK : Fld := ⟨.info, 0x01C, 8, 24, 0⟩
/-- IRQ_ENABLE.ERR of every page, RW. -/
abbrev F.IRQ_ENABLE_ERR : Fld := ⟨.info, 0x020, 0, 1, 0⟩
/-- IRQ_ENABLE.STATE_CHG of every page, RW. -/
abbrev F.IRQ_ENABLE_STATE_CHG : Fld := ⟨.info, 0x020, 1, 1, 0⟩
/-- IRQ_ENABLE.TBL_DONE of every page, RW. -/
abbrev F.IRQ_ENABLE_TBL_DONE : Fld := ⟨.info, 0x020, 2, 1, 0⟩
/-- IRQ_ENABLE.BLOCK of every page, RW. -/
abbrev F.IRQ_ENABLE_BLOCK : Fld := ⟨.info, 0x020, 8, 24, 0⟩
/-- IRQ_FORCE.ERR of every page, W1S. -/
abbrev F.IRQ_FORCE_ERR : Fld := ⟨.info, 0x024, 0, 1, 0⟩
/-- IRQ_FORCE.STATE_CHG of every page, W1S. -/
abbrev F.IRQ_FORCE_STATE_CHG : Fld := ⟨.info, 0x024, 1, 1, 0⟩
/-- IRQ_FORCE.TBL_DONE of every page, W1S. -/
abbrev F.IRQ_FORCE_TBL_DONE : Fld := ⟨.info, 0x024, 2, 1, 0⟩
/-- IRQ_FORCE.BLOCK of every page, W1S. -/
abbrev F.IRQ_FORCE_BLOCK : Fld := ⟨.info, 0x024, 8, 24, 0⟩
/-- LOCK.LOCKED of every page, W1S. -/
abbrev F.LOCK_LOCKED : Fld := ⟨.info, 0x030, 0, 1, 0⟩
/-- CHIP_ID.VENDOR_ID of INFO, RO. -/
abbrev F.CHIP_ID_VENDOR_ID : Fld := ⟨.info, 0x300, 0, 16, 0⟩
/-- CHIP_ID.DEVICE_ID of INFO, RO. -/
abbrev F.CHIP_ID_DEVICE_ID : Fld := ⟨.info, 0x300, 16, 16, 0⟩
/-- REV.STEPPING of INFO, RO. -/
abbrev F.REV_STEPPING : Fld := ⟨.info, 0x304, 0, 8, 0⟩
/-- REV.ROM_VER of INFO, RO. -/
abbrev F.REV_ROM_VER : Fld := ⟨.info, 0x304, 8, 8, 0⟩
/-- SERIAL_LO.SERIAL_LO of INFO, RO. -/
abbrev F.SERIAL_LO : Fld := ⟨.info, 0x308, 0, 32, 0⟩
/-- SERIAL_HI.SERIAL_HI of INFO, RO. -/
abbrev F.SERIAL_HI : Fld := ⟨.info, 0x30C, 0, 32, 0⟩
/-- STRAPS.HEAD_SEL of INFO, RO. -/
abbrev F.STRAPS_HEAD_SEL : Fld := ⟨.info, 0x310, 0, 1, 0⟩
/-- STRAPS.ROLE_SEL of INFO, RO. -/
abbrev F.STRAPS_ROLE_SEL : Fld := ⟨.info, 0x310, 1, 1, 0⟩
/-- STRAPS.RECOV_N of INFO, RO. -/
abbrev F.STRAPS_RECOV_N : Fld := ⟨.info, 0x310, 2, 1, 0⟩
/-- TEMP.TJ of INFO, RO. -/
abbrev F.TEMP_TJ : Fld := ⟨.info, 0x380, 0, 16, 0⟩
/-- TEMP.WARN of INFO, RO. -/
abbrev F.TEMP_WARN : Fld := ⟨.info, 0x380, 16, 1, 0⟩
/-- TEMP.TRIPPED of INFO, RO. -/
abbrev F.TEMP_TRIPPED : Fld := ⟨.info, 0x380, 17, 1, 0⟩
/-- SVC_STATUS.LEVEL of FAULT, RO. -/
abbrev F.SVC_STATUS_LEVEL : Fld := ⟨.fault, 0x300, 0, 2, 0⟩
/-- SVC_STATUS.PERMIT of FAULT, RO. -/
abbrev F.SVC_STATUS_PERMIT : Fld := ⟨.fault, 0x300, 2, 2, 0⟩
/-- SVC_STATUS.RISING of FAULT, RO. -/
abbrev F.SVC_STATUS_RISING : Fld := ⟨.fault, 0x300, 4, 1, 0⟩
/-- SVC_STATUS.HANDED of FAULT, RO. -/
abbrev F.SVC_STATUS_HANDED : Fld := ⟨.fault, 0x300, 5, 1, 0⟩
/-- SVC_STATUS.FAILED_REGIONS of FAULT, RO. -/
abbrev F.SVC_STATUS_FAILED_REGIONS : Fld := ⟨.fault, 0x300, 8, 8, 0⟩
/-- SVC_BLOCKER.REGION of FAULT, RO. -/
abbrev F.SVC_BLOCKER_REGION : Fld := ⟨.fault, 0x304, 0, 3, 0⟩
/-- SVC_BLOCKER.BLOCK of FAULT, RO. -/
abbrev F.SVC_BLOCKER_BLOCK : Fld := ⟨.fault, 0x304, 3, 5, 0⟩
/-- SVC_BLOCKER.INSTANCE of FAULT, RO. -/
abbrev F.SVC_BLOCKER_INSTANCE : Fld := ⟨.fault, 0x304, 8, 4, 0⟩
/-- SVC_BLOCKER.VALID of FAULT, RO. -/
abbrev F.SVC_BLOCKER_VALID : Fld := ⟨.fault, 0x304, 12, 1, 0⟩
/-- SVC_BLOCKER.CAUSE of FAULT, RO. -/
abbrev F.SVC_BLOCKER_CAUSE : Fld := ⟨.fault, 0x304, 13, 3, 0⟩
/-- ROOT_STATUS.REF_OK of CLOCK, RO. -/
abbrev F.ROOT_STATUS_REF_OK : Fld := ⟨.clock, 0x300, 0, 1, 0⟩
/-- ROOT_STATUS.AUX_OK of CLOCK, RO. -/
abbrev F.ROOT_STATUS_AUX_OK : Fld := ⟨.clock, 0x300, 1, 1, 0⟩
/-- ROOT_STATUS.ON_AUX of CLOCK, RO. -/
abbrev F.ROOT_STATUS_ON_AUX : Fld := ⟨.clock, 0x300, 2, 1, 0⟩
/-- ROOT_STATUS.ROOT_LOCK of CLOCK, RO. -/
abbrev F.ROOT_STATUS_ROOT_LOCK : Fld := ⟨.clock, 0x300, 3, 1, 0⟩
/-- ROOT_STATUS.DRAM_LOCK of CLOCK, RO. -/
abbrev F.ROOT_STATUS_DRAM_LOCK : Fld := ⟨.clock, 0x300, 4, 1, 0⟩
/-- ROOT_STATUS.SWITCH_COUNT of CLOCK, RO. -/
abbrev F.ROOT_STATUS_SWITCH_COUNT : Fld := ⟨.clock, 0x300, 8, 8, 0⟩
/-- ROOT_SEL.RETURN_REQ of CLOCK, W1S. -/
abbrev F.ROOT_SEL_RETURN_REQ : Fld := ⟨.clock, 0x304, 0, 1, 0⟩
/-- ROOT_SEL.RETURN_FAIL of CLOCK, W1C. -/
abbrev F.ROOT_SEL_RETURN_FAIL : Fld := ⟨.clock, 0x304, 1, 1, 0⟩
/-- SUP_CTRL.RESTART of RESET, RWL. -/
abbrev F.SUP_CTRL_RESTART : Fld := ⟨.reset, 0x300, 0, 1, 0⟩
/-- SUP_CTRL.HOLD of RESET, RWL. -/
abbrev F.SUP_CTRL_HOLD : Fld := ⟨.reset, 0x300, 1, 1, 0⟩
/-- SUP_STATUS.RUNNING of RESET, RO. -/
abbrev F.SUP_STATUS_RUNNING : Fld := ⟨.reset, 0x304, 0, 1, 0⟩
/-- SUP_STATUS.HELD of RESET, RO. -/
abbrev F.SUP_STATUS_HELD : Fld := ⟨.reset, 0x304, 1, 1, 0⟩
/-- SUP_STATUS.RESTARTS of RESET, RO. -/
abbrev F.SUP_STATUS_RESTARTS : Fld := ⟨.reset, 0x304, 8, 8, 0⟩
/-- RESET_CAUSE.CAUSE of RESET, RO. -/
abbrev F.RESET_CAUSE_CAUSE : Fld := ⟨.reset, 0x308, 0, 4, 0⟩
/-- CHIP_RESET.GO of RESET, RWL. -/
abbrev F.CHIP_RESET_GO : Fld := ⟨.reset, 0x30C, 0, 1, 0⟩
/-- FUSE_PROG.SETTING of FUSE, RWL. -/
abbrev F.FUSE_PROG_SETTING : Fld := ⟨.fuse, 0x300, 0, 4, 0⟩
/-- FUSE_PROG.VALUE of FUSE, RWL. -/
abbrev F.FUSE_PROG_VALUE : Fld := ⟨.fuse, 0x300, 8, 8, 0⟩
/-- FUSE_PROG.GO of FUSE, RWL. -/
abbrev F.FUSE_PROG_GO : Fld := ⟨.fuse, 0x300, 16, 1, 0⟩
/-- FUSE_STATUS.BUSY of FUSE, RO. -/
abbrev F.FUSE_STATUS_BUSY : Fld := ⟨.fuse, 0x304, 0, 1, 0⟩
/-- FUSE_STATUS.RESULT of FUSE, RO. -/
abbrev F.FUSE_STATUS_RESULT : Fld := ⟨.fuse, 0x304, 1, 3, 0⟩
/-- SETTING.VALUE of FUSE, RO. -/
abbrev F.SETTING_VALUE : Fld := ⟨.fuse, 0x310, 0, 8, 4⟩
/-- SETTING.USED of FUSE, RO. -/
abbrev F.SETTING_USED : Fld := ⟨.fuse, 0x310, 8, 8, 4⟩
/-- SETTING.LIMIT of FUSE, RO. -/
abbrev F.SETTING_LIMIT : Fld := ⟨.fuse, 0x310, 16, 8, 4⟩
/-- SETTING.TORN of FUSE, RO. -/
abbrev F.SETTING_TORN : Fld := ⟨.fuse, 0x310, 24, 1, 4⟩
/-- ROUTE.VECTOR of IRQ, RW. -/
abbrev F.ROUTE_VECTOR : Fld := ⟨.irq, 0x300, 0, 6, 4⟩
/-- ROUTE.EN of IRQ, RW. -/
abbrev F.ROUTE_EN : Fld := ⟨.irq, 0x300, 7, 1, 4⟩
/-- ROUTE.SUP of IRQ, RW. -/
abbrev F.ROUTE_SUP : Fld := ⟨.irq, 0x300, 8, 1, 4⟩
/-- VEC_ACK.VEC_ACK of IRQ, WO. -/
abbrev F.VEC_ACK : Fld := ⟨.irq, 0x800, 0, 32, 0⟩
/-- VEC_PEND.VEC_PEND of IRQ, RO. -/
abbrev F.VEC_PEND : Fld := ⟨.irq, 0x810, 0, 32, 4⟩
/-- RF_CFG.UPPER_EN of GNSS_RF, RW. -/
abbrev F.RF_CFG_UPPER_EN : Fld := ⟨.gnssRf, 0x300, 0, 1, 0⟩
/-- RF_CFG.LOWER_EN of GNSS_RF, RW. -/
abbrev F.RF_CFG_LOWER_EN : Fld := ⟨.gnssRf, 0x300, 1, 1, 0⟩
/-- RF_CFG.PWR_EN of GNSS_RF, RW. -/
abbrev F.RF_CFG_PWR_EN : Fld := ⟨.gnssRf, 0x300, 2, 1, 0⟩
/-- RF_CFG.INTERF_DB of GNSS_RF, RW. -/
abbrev F.RF_CFG_INTERF_DB : Fld := ⟨.gnssRf, 0x300, 8, 8, 0⟩
/-- RF_STATUS.ANT_STATE of GNSS_RF, RO. -/
abbrev F.RF_STATUS_ANT_STATE : Fld := ⟨.gnssRf, 0x304, 0, 2, 0⟩
/-- RF_STATUS.PLL_LOCK of GNSS_RF, RO. -/
abbrev F.RF_STATUS_PLL_LOCK : Fld := ⟨.gnssRf, 0x304, 2, 1, 0⟩
/-- RF_STATUS.INTERF of GNSS_RF, RO. -/
abbrev F.RF_STATUS_INTERF : Fld := ⟨.gnssRf, 0x304, 3, 1, 0⟩
/-- RF_STATUS.AGC_SAT of GNSS_RF, RO. -/
abbrev F.RF_STATUS_AGC_SAT : Fld := ⟨.gnssRf, 0x304, 4, 1, 0⟩
/-- RF_STATUS.GAIN_UPPER of GNSS_RF, RO. -/
abbrev F.RF_STATUS_GAIN_UPPER : Fld := ⟨.gnssRf, 0x304, 8, 8, 0⟩
/-- RF_STATUS.GAIN_LOWER of GNSS_RF, RO. -/
abbrev F.RF_STATUS_GAIN_LOWER : Fld := ⟨.gnssRf, 0x304, 16, 8, 0⟩
/-- SIG_EN.SIG of GNSS_ACQ, RW. -/
abbrev F.SIG_EN_SIG : Fld := ⟨.gnssAcq, 0x300, 0, 13, 0⟩
/-- ALLOC.SEC_GROUPS of GNSS_ACQ, RW. -/
abbrev F.ALLOC_SEC_GROUPS : Fld := ⟨.gnssAcq, 0x304, 0, 4, 0⟩
/-- ALLOC.ELEV_MASK of GNSS_ACQ, RW. -/
abbrev F.ALLOC_ELEV_MASK : Fld := ⟨.gnssAcq, 0x304, 8, 8, 0⟩
/-- ACQ_STATUS.START of GNSS_ACQ, RO. -/
abbrev F.ACQ_STATUS_START : Fld := ⟨.gnssAcq, 0x308, 0, 2, 0⟩
/-- ACQ_STATUS.PENDING of GNSS_ACQ, RO. -/
abbrev F.ACQ_STATUS_PENDING : Fld := ⟨.gnssAcq, 0x308, 8, 8, 0⟩
/-- ACQ_STATUS.DROPPED of GNSS_ACQ, RO. -/
abbrev F.ACQ_STATUS_DROPPED : Fld := ⟨.gnssAcq, 0x308, 16, 8, 0⟩
/-- CH_STATUS.STATE of GNSS_TRK, RO. -/
abbrev F.CH_STATUS_STATE : Fld := ⟨.gnssTrk, 0x300, 0, 3, 4⟩
/-- CH_STATUS.ANT of GNSS_TRK, RO. -/
abbrev F.CH_STATUS_ANT : Fld := ⟨.gnssTrk, 0x300, 3, 1, 4⟩
/-- CH_STATUS.SIGNAL of GNSS_TRK, RO. -/
abbrev F.CH_STATUS_SIGNAL : Fld := ⟨.gnssTrk, 0x300, 8, 5, 4⟩
/-- CH_STATUS.SVID of GNSS_TRK, RO. -/
abbrev F.CH_STATUS_SVID : Fld := ⟨.gnssTrk, 0x300, 16, 8, 4⟩
/-- CH_STATUS.CN0 of GNSS_TRK, RO. -/
abbrev F.CH_STATUS_CN0 : Fld := ⟨.gnssTrk, 0x300, 24, 8, 4⟩
/-- MEAS_CFG.RATE of GNSS_MEAS, RW. -/
abbrev F.MEAS_CFG_RATE : Fld := ⟨.gnssMeas, 0x300, 0, 3, 0⟩
/-- MEAS_CFG.REF_ANT of GNSS_MEAS, RW. -/
abbrev F.MEAS_CFG_REF_ANT : Fld := ⟨.gnssMeas, 0x300, 3, 1, 0⟩
/-- MEAS_CFG.REF_ANT_AUTO of GNSS_MEAS, RW. -/
abbrev F.MEAS_CFG_REF_ANT_AUTO : Fld := ⟨.gnssMeas, 0x300, 4, 1, 0⟩
/-- MEAS_CFG.HOST_EN of GNSS_MEAS, RW. -/
abbrev F.MEAS_CFG_HOST_EN : Fld := ⟨.gnssMeas, 0x300, 5, 1, 0⟩
/-- MEAS_CFG.ARCHIVE_EN of GNSS_MEAS, RW. -/
abbrev F.MEAS_CFG_ARCHIVE_EN : Fld := ⟨.gnssMeas, 0x300, 6, 1, 0⟩
/-- EPOCH_SEQ.EPOCH_SEQ of GNSS_MEAS, RO. -/
abbrev F.EPOCH_SEQ : Fld := ⟨.gnssMeas, 0x304, 0, 32, 0⟩
/-- BASE_CTRL.MODE of GNSS_MEAS, RWL. -/
abbrev F.BASE_CTRL_MODE : Fld := ⟨.gnssMeas, 0x308, 0, 2, 0⟩
/-- BASE_CTRL.SURVEY_START of GNSS_MEAS, W1S. -/
abbrev F.BASE_CTRL_SURVEY_START : Fld := ⟨.gnssMeas, 0x308, 2, 1, 0⟩
/-- BASE_CTRL.BASE_VALID of GNSS_MEAS, RO. -/
abbrev F.BASE_CTRL_BASE_VALID : Fld := ⟨.gnssMeas, 0x308, 3, 1, 0⟩
/-- BASE_CTRL.SURVEY_STATE of GNSS_MEAS, RO. -/
abbrev F.BASE_CTRL_SURVEY_STATE : Fld := ⟨.gnssMeas, 0x308, 4, 3, 0⟩
/-- BASE_POS_X_LO.BASE_POS_X_LO of GNSS_MEAS, RWL. -/
abbrev F.BASE_POS_X_LO : Fld := ⟨.gnssMeas, 0x310, 0, 32, 0⟩
/-- BASE_POS_X_HI.BASE_POS_X_HI of GNSS_MEAS, RWL. -/
abbrev F.BASE_POS_X_HI : Fld := ⟨.gnssMeas, 0x314, 0, 32, 0⟩
/-- BASE_POS_Y_LO.BASE_POS_Y_LO of GNSS_MEAS, RWL. -/
abbrev F.BASE_POS_Y_LO : Fld := ⟨.gnssMeas, 0x318, 0, 32, 0⟩
/-- BASE_POS_Y_HI.BASE_POS_Y_HI of GNSS_MEAS, RWL. -/
abbrev F.BASE_POS_Y_HI : Fld := ⟨.gnssMeas, 0x31C, 0, 32, 0⟩
/-- BASE_POS_Z_LO.BASE_POS_Z_LO of GNSS_MEAS, RWL. -/
abbrev F.BASE_POS_Z_LO : Fld := ⟨.gnssMeas, 0x320, 0, 32, 0⟩
/-- BASE_POS_Z_HI.BASE_POS_Z_HI of GNSS_MEAS, RWL. -/
abbrev F.BASE_POS_Z_HI : Fld := ⟨.gnssMeas, 0x324, 0, 32, 0⟩
/-- BASELINE_E.BASELINE_E of GNSS_MEAS, RWL. -/
abbrev F.BASELINE_E : Fld := ⟨.gnssMeas, 0x328, 0, 32, 0⟩
/-- BASELINE_N.BASELINE_N of GNSS_MEAS, RWL. -/
abbrev F.BASELINE_N : Fld := ⟨.gnssMeas, 0x32C, 0, 32, 0⟩
/-- BASELINE_U.BASELINE_U of GNSS_MEAS, RWL. -/
abbrev F.BASELINE_U : Fld := ⟨.gnssMeas, 0x330, 0, 32, 0⟩
/-- SURVEY_MIN_DUR.SURVEY_MIN_DUR of GNSS_MEAS, RW. -/
abbrev F.SURVEY_MIN_DUR : Fld := ⟨.gnssMeas, 0x340, 0, 32, 0⟩
/-- SURVEY_MAX_DUR.SURVEY_MAX_DUR of GNSS_MEAS, RW. -/
abbrev F.SURVEY_MAX_DUR : Fld := ⟨.gnssMeas, 0x344, 0, 32, 0⟩
/-- SURVEY_SIGMA.SURVEY_SIGMA of GNSS_MEAS, RW. -/
abbrev F.SURVEY_SIGMA : Fld := ⟨.gnssMeas, 0x348, 0, 32, 0⟩
/-- SURVEY_ELAPSED.SURVEY_ELAPSED of GNSS_MEAS, RO. -/
abbrev F.SURVEY_ELAPSED : Fld := ⟨.gnssMeas, 0x34C, 0, 32, 0⟩
/-- SURVEY_SIGMA_NOW.SURVEY_SIGMA_NOW of GNSS_MEAS, RO. -/
abbrev F.SURVEY_SIGMA_NOW : Fld := ⟨.gnssMeas, 0x350, 0, 32, 0⟩
/-- CONSIST_CFG.EN of GNSS_MEAS, RW. -/
abbrev F.CONSIST_CFG_EN : Fld := ⟨.gnssMeas, 0x360, 0, 1, 0⟩
/-- CONSIST_CFG.MIN_SIG of GNSS_MEAS, RW. -/
abbrev F.CONSIST_CFG_MIN_SIG : Fld := ⟨.gnssMeas, 0x360, 4, 4, 0⟩
/-- CONSIST_CFG.TOL of GNSS_MEAS, RW. -/
abbrev F.CONSIST_CFG_TOL : Fld := ⟨.gnssMeas, 0x360, 8, 10, 0⟩
/-- CONSIST_STATUS.ACTIVE of GNSS_MEAS, RO. -/
abbrev F.CONSIST_STATUS_ACTIVE : Fld := ⟨.gnssMeas, 0x364, 0, 1, 0⟩
/-- CONSIST_STATUS.SPOOF of GNSS_MEAS, W1C. -/
abbrev F.CONSIST_STATUS_SPOOF : Fld := ⟨.gnssMeas, 0x364, 1, 1, 0⟩
/-- CONSIST_STATUS.SPOOF_NOW of GNSS_MEAS, RO. -/
abbrev F.CONSIST_STATUS_SPOOF_NOW : Fld := ⟨.gnssMeas, 0x364, 2, 1, 0⟩
/-- CONSIST_STATUS.INTERF of GNSS_MEAS, RO. -/
abbrev F.CONSIST_STATUS_INTERF : Fld := ⟨.gnssMeas, 0x364, 3, 1, 0⟩
/-- CONSIST_STATUS.CHECKED of GNSS_MEAS, RO. -/
abbrev F.CONSIST_STATUS_CHECKED : Fld := ⟨.gnssMeas, 0x364, 8, 8, 0⟩
/-- CONSIST_STATUS.SUSPECT of GNSS_MEAS, RO. -/
abbrev F.CONSIST_STATUS_SUSPECT : Fld := ⟨.gnssMeas, 0x364, 16, 8, 0⟩
/-- TIME_CFG.PRIO0 of TIME, RW. -/
abbrev F.TIME_CFG_PRIO0 : Fld := ⟨.time, 0x300, 0, 2, 0⟩
/-- TIME_CFG.PRIO1 of TIME, RW. -/
abbrev F.TIME_CFG_PRIO1 : Fld := ⟨.time, 0x300, 2, 2, 0⟩
/-- TIME_CFG.PRIO2 of TIME, RW. -/
abbrev F.TIME_CFG_PRIO2 : Fld := ⟨.time, 0x300, 4, 2, 0⟩
/-- TIME_CFG.SRC_EN of TIME, RW. -/
abbrev F.TIME_CFG_SRC_EN : Fld := ⟨.time, 0x300, 8, 3, 0⟩
/-- TIME_CFG.PTP_HOST of TIME, RW. -/
abbrev F.TIME_CFG_PTP_HOST : Fld := ⟨.time, 0x300, 12, 1, 0⟩
/-- SLEW_LIMIT.SLEW_LIMIT of TIME, RW. -/
abbrev F.SLEW_LIMIT : Fld := ⟨.time, 0x304, 0, 32, 0⟩
/-- JUMP_LIMIT.JUMP_LIMIT of TIME, RWL. -/
abbrev F.JUMP_LIMIT : Fld := ⟨.time, 0x308, 0, 32, 0⟩
/-- TIME_STATUS.STATE of TIME, RO. -/
abbrev F.TIME_STATUS_STATE : Fld := ⟨.time, 0x30C, 0, 3, 0⟩
/-- TIME_STATUS.SRC of TIME, RO. -/
abbrev F.TIME_STATUS_SRC : Fld := ⟨.time, 0x30C, 3, 2, 0⟩
/-- TIME_STATUS.STEPPED of TIME, RO. -/
abbrev F.TIME_STATUS_STEPPED : Fld := ⟨.time, 0x30C, 5, 1, 0⟩
/-- TIME_STATUS.SLEWING of TIME, RO. -/
abbrev F.TIME_STATUS_SLEWING : Fld := ⟨.time, 0x30C, 6, 1, 0⟩
/-- TIME_STATUS.DEGRADED of TIME, RO. -/
abbrev F.TIME_STATUS_DEGRADED : Fld := ⟨.time, 0x30C, 7, 1, 0⟩
/-- TIME_STATUS.TQ of TIME, RO. -/
abbrev F.TIME_STATUS_TQ : Fld := ⟨.time, 0x30C, 8, 4, 0⟩
/-- TIME_STATUS.EPOCH of TIME, RO. -/
abbrev F.TIME_STATUS_EPOCH : Fld := ⟨.time, 0x30C, 16, 8, 0⟩
/-- TIME_STATUS.STEP_PEND of TIME, RO. -/
abbrev F.TIME_STATUS_STEP_PEND : Fld := ⟨.time, 0x30C, 24, 1, 0⟩
/-- TIME_STATUS.GAP_ALLOW of TIME, RO. -/
abbrev F.TIME_STATUS_GAP_ALLOW : Fld := ⟨.time, 0x30C, 25, 1, 0⟩
/-- NOW_NS.NOW_NS of TIME, RO. -/
abbrev F.NOW_NS : Fld := ⟨.time, 0x310, 0, 32, 0⟩
/-- NOW_S_LO.NOW_S_LO of TIME, RO. -/
abbrev F.NOW_S_LO : Fld := ⟨.time, 0x314, 0, 32, 0⟩
/-- NOW_S_HI.NOW_S_HI of TIME, RO. -/
abbrev F.NOW_S_HI : Fld := ⟨.time, 0x318, 0, 32, 0⟩
/-- PHASE_ERR.PHASE_ERR of TIME, RO. -/
abbrev F.PHASE_ERR : Fld := ⟨.time, 0x320, 0, 32, 0⟩
/-- FREQ_ADJ.FREQ_ADJ of TIME, RO. -/
abbrev F.FREQ_ADJ : Fld := ⟨.time, 0x324, 0, 32, 0⟩
/-- UNCERT.UNCERT of TIME, RO. -/
abbrev F.UNCERT : Fld := ⟨.time, 0x328, 0, 32, 0⟩
/-- HO_FREQ.HO_FREQ of TIME, RW. -/
abbrev F.HO_FREQ : Fld := ⟨.time, 0x330, 0, 32, 0⟩
/-- HO_AGING.HO_AGING of TIME, RW. -/
abbrev F.HO_AGING : Fld := ⟨.time, 0x334, 0, 32, 0⟩
/-- HO_FREQ_AUX.HO_FREQ_AUX of TIME, RW. -/
abbrev F.HO_FREQ_AUX : Fld := ⟨.time, 0x338, 0, 32, 0⟩
/-- PTP_UNCERT.PTP_UNCERT of TIME, RW. -/
abbrev F.PTP_UNCERT : Fld := ⟨.time, 0x33C, 0, 32, 0⟩
/-- OSC_TUNE.VALUE of TIME, RW. -/
abbrev F.OSC_TUNE_VALUE : Fld := ⟨.time, 0x340, 0, 16, 0⟩
/-- OSC_TUNE.MODE of TIME, RW. -/
abbrev F.OSC_TUNE_MODE : Fld := ⟨.time, 0x340, 16, 2, 0⟩
/-- TUNE_GAIN.TUNE_GAIN of TIME, RW. -/
abbrev F.TUNE_GAIN : Fld := ⟨.time, 0x344, 0, 32, 0⟩
/-- STEP_CTRL.OP of TIME, RWL. -/
abbrev F.STEP_CTRL_OP : Fld := ⟨.time, 0x350, 0, 3, 0⟩
/-- STEP_CTRL.RESULT of TIME, RO. -/
abbrev F.STEP_CTRL_RESULT : Fld := ⟨.time, 0x350, 8, 3, 0⟩
/-- STEP_OFS_LO.STEP_OFS_LO of TIME, RWL. -/
abbrev F.STEP_OFS_LO : Fld := ⟨.time, 0x354, 0, 32, 0⟩
/-- STEP_OFS_HI.STEP_OFS_HI of TIME, RWL. -/
abbrev F.STEP_OFS_HI : Fld := ⟨.time, 0x358, 0, 32, 0⟩
/-- PPS_CFG.EN of TIME, RW. -/
abbrev F.PPS_CFG_EN : Fld := ⟨.time, 0x360, 0, 1, 0⟩
/-- PPS_CFG.POL of TIME, RW. -/
abbrev F.PPS_CFG_POL : Fld := ⟨.time, 0x360, 1, 1, 0⟩
/-- PPS_CFG.UNSET_EN of TIME, RW. -/
abbrev F.PPS_CFG_UNSET_EN : Fld := ⟨.time, 0x360, 2, 1, 0⟩
/-- PPS_CFG.WIDTH of TIME, RW. -/
abbrev F.PPS_CFG_WIDTH : Fld := ⟨.time, 0x360, 8, 8, 0⟩
/-- PPS_CFG.COMP of TIME, RW. -/
abbrev F.PPS_CFG_COMP : Fld := ⟨.time, 0x360, 16, 16, 0⟩
/-- ETH_CORR.INGRESS of TIME, RW. -/
abbrev F.ETH_CORR_INGRESS : Fld := ⟨.time, 0x370, 0, 16, 4⟩
/-- ETH_CORR.EGRESS of TIME, RW. -/
abbrev F.ETH_CORR_EGRESS : Fld := ⟨.time, 0x370, 16, 16, 4⟩
/-- TXTS_W0.ID of TIME, RO. -/
abbrev F.TXTS_W0_ID : Fld := ⟨.time, 0x380, 0, 16, 16⟩
/-- TXTS_W0.VALID of TIME, RO. -/
abbrev F.TXTS_W0_VALID : Fld := ⟨.time, 0x380, 16, 1, 16⟩
/-- TXTS_W0.DEPTH of TIME, RO. -/
abbrev F.TXTS_W0_DEPTH : Fld := ⟨.time, 0x380, 24, 8, 16⟩
/-- TXTS_W1.TIME_NS of TIME, RO. -/
abbrev F.TXTS_W1_TIME_NS : Fld := ⟨.time, 0x384, 0, 32, 16⟩
/-- TXTS_W2.TIME_S_LO of TIME, RO. -/
abbrev F.TXTS_W2_TIME_S_LO : Fld := ⟨.time, 0x388, 0, 32, 16⟩
/-- TXTS_W3.TIME_S_HI of TIME, RO. -/
abbrev F.TXTS_W3_TIME_S_HI : Fld := ⟨.time, 0x38C, 0, 16, 16⟩
/-- MET_CFG.REC_EN of METER, RW. -/
abbrev F.MET_CFG_REC_EN : Fld := ⟨.meter, 0x300, 0, 1, 0⟩
/-- MET_CFG.F_NOM of METER, RW. -/
abbrev F.MET_CFG_F_NOM : Fld := ⟨.meter, 0x300, 1, 1, 0⟩
/-- MET_CFG.V_NOM of METER, RW. -/
abbrev F.MET_CFG_V_NOM : Fld := ⟨.meter, 0x300, 16, 16, 0⟩
/-- PQ_CFG.SAG_TH of METER, RW. -/
abbrev F.PQ_CFG_SAG_TH : Fld := ⟨.meter, 0x304, 0, 8, 0⟩
/-- PQ_CFG.SWELL_TH of METER, RW. -/
abbrev F.PQ_CFG_SWELL_TH : Fld := ⟨.meter, 0x304, 8, 8, 0⟩
/-- PQ_CFG.INT_TH of METER, RW. -/
abbrev F.PQ_CFG_INT_TH : Fld := ⟨.meter, 0x304, 16, 8, 0⟩
/-- PQ_CFG.HYST of METER, RW. -/
abbrev F.PQ_CFG_HYST : Fld := ⟨.meter, 0x304, 24, 8, 0⟩
/-- INTERVAL.INTERVAL of METER, RW. -/
abbrev F.INTERVAL : Fld := ⟨.meter, 0x308, 0, 32, 0⟩
/-- SAVE_PERIOD.SAVE_PERIOD of METER, RW. -/
abbrev F.SAVE_PERIOD : Fld := ⟨.meter, 0x30C, 0, 32, 0⟩
/-- OUTAGE_MA.OUTAGE_MA of METER, RW. -/
abbrev F.OUTAGE_MA : Fld := ⟨.meter, 0x310, 0, 32, 0⟩
/-- LAST_SAVE_S.LAST_SAVE_S of METER, RO. -/
abbrev F.LAST_SAVE_S : Fld := ⟨.meter, 0x314, 0, 32, 0⟩
/-- PULSE_CFG.SRC of METER, RW. -/
abbrev F.PULSE_CFG_SRC : Fld := ⟨.meter, 0x320, 0, 4, 4⟩
/-- PULSE_CFG.QTY of METER, RW. -/
abbrev F.PULSE_CFG_QTY : Fld := ⟨.meter, 0x320, 4, 2, 4⟩
/-- PULSE_CFG.EN of METER, RW. -/
abbrev F.PULSE_CFG_EN : Fld := ⟨.meter, 0x320, 6, 1, 4⟩
/-- PULSE_CFG.POL of METER, RW. -/
abbrev F.PULSE_CFG_POL : Fld := ⟨.meter, 0x320, 7, 1, 4⟩
/-- PULSE_CFG.WIDTH of METER, RW. -/
abbrev F.PULSE_CFG_WIDTH : Fld := ⟨.meter, 0x320, 8, 8, 4⟩
/-- PULSE_CFG.K of METER, RW. -/
abbrev F.PULSE_CFG_K : Fld := ⟨.meter, 0x320, 16, 16, 4⟩
/-- MET_STATUS.V_TRACK of METER, RO. -/
abbrev F.MET_STATUS_V_TRACK : Fld := ⟨.meter, 0x330, 0, 2, 0⟩
/-- MET_STATUS.FREQ_LOST of METER, RO. -/
abbrev F.MET_STATUS_FREQ_LOST : Fld := ⟨.meter, 0x330, 2, 1, 0⟩
/-- MET_STATUS.RESTORED of METER, RO. -/
abbrev F.MET_STATUS_RESTORED : Fld := ⟨.meter, 0x330, 3, 1, 0⟩
/-- MET_STATUS.SAG of METER, RO. -/
abbrev F.MET_STATUS_SAG : Fld := ⟨.meter, 0x330, 8, 3, 0⟩
/-- MET_STATUS.SWELL of METER, RO. -/
abbrev F.MET_STATUS_SWELL : Fld := ⟨.meter, 0x330, 11, 3, 0⟩
/-- MET_STATUS.INTR of METER, RO. -/
abbrev F.MET_STATUS_INTR : Fld := ⟨.meter, 0x330, 14, 3, 0⟩
/-- OBS_CFG.MAX_OFS of OBS_IN, RW. -/
abbrev F.OBS_CFG_MAX_OFS : Fld := ⟨.obsIn, 0x300, 0, 9, 0⟩
/-- OBS_CFG.HOST_EN of OBS_IN, RW. -/
abbrev F.OBS_CFG_HOST_EN : Fld := ⟨.obsIn, 0x300, 9, 1, 0⟩
/-- OBS_CFG.ARCHIVE_EN of OBS_IN, RW. -/
abbrev F.OBS_CFG_ARCHIVE_EN : Fld := ⟨.obsIn, 0x300, 10, 1, 0⟩
/-- CELL_STATUS.BUSY of SOLVER, RO. -/
abbrev F.CELL_STATUS_BUSY : Fld := ⟨.solver, 0x300, 0, 1, 0⟩
/-- CELL_STATUS.REMOVED of SOLVER, RO. -/
abbrev F.CELL_STATUS_REMOVED : Fld := ⟨.solver, 0x300, 1, 1, 0⟩
/-- CELL_STATUS.MEMBER of SOLVER, RO. -/
abbrev F.CELL_STATUS_MEMBER : Fld := ⟨.solver, 0x300, 8, 9, 0⟩
/-- CYCLES_LAST.CYCLES_LAST of SOLVER, RO. -/
abbrev F.CYCLES_LAST : Fld := ⟨.solver, 0x304, 0, 32, 0⟩
/-- RTK_CFG.RATIO_MIN of RTK_CTRL, RW. -/
abbrev F.RTK_CFG_RATIO_MIN : Fld := ⟨.rtkCtrl, 0x300, 0, 8, 0⟩
/-- RTK_CFG.MIN_FIX of RTK_CTRL, RW. -/
abbrev F.RTK_CFG_MIN_FIX : Fld := ⟨.rtkCtrl, 0x300, 8, 6, 0⟩
/-- RTK_CFG.VERIFY_EPOCHS of RTK_CTRL, RW. -/
abbrev F.RTK_CFG_VERIFY_EPOCHS : Fld := ⟨.rtkCtrl, 0x300, 16, 6, 0⟩
/-- RTK_CFG.PAR_TRIES of RTK_CTRL, RW. -/
abbrev F.RTK_CFG_PAR_TRIES : Fld := ⟨.rtkCtrl, 0x300, 24, 3, 0⟩
/-- RTK_CFG.FIX_HOST of RTK_CTRL, RW. -/
abbrev F.RTK_CFG_FIX_HOST : Fld := ⟨.rtkCtrl, 0x300, 28, 1, 0⟩
/-- RTK_CFG2.UTIL_TARGET of RTK_CTRL, RW. -/
abbrev F.RTK_CFG2_UTIL_TARGET : Fld := ⟨.rtkCtrl, 0x304, 0, 8, 0⟩
/-- RTK_CFG2.SOLVE_MASK of RTK_CTRL, RW. -/
abbrev F.RTK_CFG2_SOLVE_MASK : Fld := ⟨.rtkCtrl, 0x304, 8, 8, 0⟩
/-- RTK_CFG2.LOCK_MIN of RTK_CTRL, RW. -/
abbrev F.RTK_CFG2_LOCK_MIN : Fld := ⟨.rtkCtrl, 0x304, 16, 4, 0⟩
/-- SEARCH_NODES.SEARCH_NODES of RTK_CTRL, RW. -/
abbrev F.SEARCH_NODES : Fld := ⟨.rtkCtrl, 0x308, 0, 32, 0⟩
/-- BASELINE_MAX.BASELINE_MAX of RTK_CTRL, RW. -/
abbrev F.BASELINE_MAX : Fld := ⟨.rtkCtrl, 0x30C, 0, 32, 0⟩
/-- RTK_STATUS.CELLS_LIVE of RTK_CTRL, RO. -/
abbrev F.RTK_STATUS_CELLS_LIVE : Fld := ⟨.rtkCtrl, 0x310, 0, 5, 0⟩
/-- RTK_STATUS.SHED_STEP of RTK_CTRL, RO. -/
abbrev F.RTK_STATUS_SHED_STEP : Fld := ⟨.rtkCtrl, 0x310, 8, 3, 0⟩
/-- RTK_STATUS.CAP_SHORT of RTK_CTRL, RO. -/
abbrev F.RTK_STATUS_CAP_SHORT : Fld := ⟨.rtkCtrl, 0x310, 11, 1, 0⟩
/-- RTK_STATUS.QUEUED of RTK_CTRL, RO. -/
abbrev F.RTK_STATUS_QUEUED : Fld := ⟨.rtkCtrl, 0x310, 16, 11, 0⟩
/-- MEAN_COST.MEAN_COST of RTK_CTRL, RO. -/
abbrev F.MEAN_COST : Fld := ⟨.rtkCtrl, 0x314, 0, 32, 0⟩
/-- DEMAND.DEMAND of RTK_CTRL, RO. -/
abbrev F.DEMAND : Fld := ⟨.rtkCtrl, 0x318, 0, 32, 0⟩
/-- SITE_ORIGIN_X_LO.SITE_ORIGIN_X_LO of RTK_CTRL, RWL. -/
abbrev F.SITE_ORIGIN_X_LO : Fld := ⟨.rtkCtrl, 0x320, 0, 32, 0⟩
/-- SITE_ORIGIN_X_HI.SITE_ORIGIN_X_HI of RTK_CTRL, RWL. -/
abbrev F.SITE_ORIGIN_X_HI : Fld := ⟨.rtkCtrl, 0x324, 0, 32, 0⟩
/-- SITE_ORIGIN_Y_LO.SITE_ORIGIN_Y_LO of RTK_CTRL, RWL. -/
abbrev F.SITE_ORIGIN_Y_LO : Fld := ⟨.rtkCtrl, 0x328, 0, 32, 0⟩
/-- SITE_ORIGIN_Y_HI.SITE_ORIGIN_Y_HI of RTK_CTRL, RWL. -/
abbrev F.SITE_ORIGIN_Y_HI : Fld := ⟨.rtkCtrl, 0x32C, 0, 32, 0⟩
/-- SITE_ORIGIN_Z_LO.SITE_ORIGIN_Z_LO of RTK_CTRL, RWL. -/
abbrev F.SITE_ORIGIN_Z_LO : Fld := ⟨.rtkCtrl, 0x330, 0, 32, 0⟩
/-- SITE_ORIGIN_Z_HI.SITE_ORIGIN_Z_HI of RTK_CTRL, RWL. -/
abbrev F.SITE_ORIGIN_Z_HI : Fld := ⟨.rtkCtrl, 0x334, 0, 32, 0⟩
/-- INTEG_CFG.HPL_K of RTK_CTRL, RW. -/
abbrev F.INTEG_CFG_HPL_K : Fld := ⟨.rtkCtrl, 0x340, 0, 8, 0⟩
/-- INTEG_CFG.RAIM_K of RTK_CTRL, RW. -/
abbrev F.INTEG_CFG_RAIM_K : Fld := ⟨.rtkCtrl, 0x340, 8, 8, 0⟩
/-- INTEG_CFG.EXCL_MAX of RTK_CTRL, RW. -/
abbrev F.INTEG_CFG_EXCL_MAX : Fld := ⟨.rtkCtrl, 0x340, 16, 2, 0⟩
/-- INTEG_CFG.DIS_COUNT of RTK_CTRL, RW. -/
abbrev F.INTEG_CFG_DIS_COUNT : Fld := ⟨.rtkCtrl, 0x340, 20, 4, 0⟩
/-- INTEG_CFG.OWN_CHECK of RTK_CTRL, RW. -/
abbrev F.INTEG_CFG_OWN_CHECK : Fld := ⟨.rtkCtrl, 0x340, 24, 1, 0⟩
/-- INTEG_CFG2.DIS_H of RTK_CTRL, RW. -/
abbrev F.INTEG_CFG2_DIS_H : Fld := ⟨.rtkCtrl, 0x344, 0, 16, 0⟩
/-- INTEG_CFG2.DIS_V of RTK_CTRL, RW. -/
abbrev F.INTEG_CFG2_DIS_V : Fld := ⟨.rtkCtrl, 0x344, 16, 16, 0⟩
/-- VERIFY_HPL.VERIFY_HPL of RTK_CTRL, RW. -/
abbrev F.VERIFY_HPL : Fld := ⟨.rtkCtrl, 0x348, 0, 32, 0⟩
/-- BASE_LOSS.BASE_LOSS of RTK_CTRL, RW. -/
abbrev F.BASE_LOSS : Fld := ⟨.rtkCtrl, 0x34C, 0, 32, 0⟩
/-- INTEG_STATUS.BASE_LOST of RTK_CTRL, RO. -/
abbrev F.INTEG_STATUS_BASE_LOST : Fld := ⟨.rtkCtrl, 0x350, 0, 1, 0⟩
/-- INTEG_STATUS.DISAGREE_NOW of RTK_CTRL, RO. -/
abbrev F.INTEG_STATUS_DISAGREE_NOW : Fld := ⟨.rtkCtrl, 0x350, 16, 10, 0⟩
/-- CORR_CFG.SYS_EN of CORR_OUT, RW. -/
abbrev F.CORR_CFG_SYS_EN : Fld := ⟨.corrOut, 0x300, 0, 6, 0⟩
/-- CORR_CFG.MSM7 of CORR_OUT, RW. -/
abbrev F.CORR_CFG_MSM7 : Fld := ⟨.corrOut, 0x300, 8, 6, 0⟩
/-- CORR_CFG.ARP_MSG of CORR_OUT, RW. -/
abbrev F.CORR_CFG_ARP_MSG : Fld := ⟨.corrOut, 0x300, 16, 1, 0⟩
/-- CORR_CFG.HOST_EN of CORR_OUT, RW. -/
abbrev F.CORR_CFG_HOST_EN : Fld := ⟨.corrOut, 0x300, 17, 1, 0⟩
/-- CORR_CFG.AIR_EN of CORR_OUT, RW. -/
abbrev F.CORR_CFG_AIR_EN : Fld := ⟨.corrOut, 0x300, 18, 1, 0⟩
/-- CORR_CFG2.STATION_ID of CORR_OUT, RW. -/
abbrev F.CORR_CFG2_STATION_ID : Fld := ⟨.corrOut, 0x304, 0, 12, 0⟩
/-- CORR_CFG2.DIV of CORR_OUT, RW. -/
abbrev F.CORR_CFG2_DIV : Fld := ⟨.corrOut, 0x304, 16, 4, 0⟩
/-- CORR_CFG2.CORR_TQ_MAX of CORR_OUT, RW. -/
abbrev F.CORR_CFG2_CORR_TQ_MAX : Fld := ⟨.corrOut, 0x304, 20, 4, 0⟩
/-- CORR_CFG2.ARP_PERIOD of CORR_OUT, RW. -/
abbrev F.CORR_CFG2_ARP_PERIOD : Fld := ⟨.corrOut, 0x304, 24, 8, 0⟩
/-- ANT_HEIGHT.ANT_HEIGHT of CORR_OUT, RW. -/
abbrev F.ANT_HEIGHT : Fld := ⟨.corrOut, 0x308, 0, 16, 0⟩
/-- MAX_AGE.MAX_AGE of CORR_OUT, RW. -/
abbrev F.MAX_AGE : Fld := ⟨.corrOut, 0x30C, 0, 32, 0⟩
/-- LAST_SIZE.LAST_SIZE of CORR_OUT, RO. -/
abbrev F.LAST_SIZE : Fld := ⟨.corrOut, 0x310, 0, 32, 0⟩
/-- PORT_CFG.SPACING of AIRPORT, RW. -/
abbrev F.PORT_CFG_SPACING : Fld := ⟨.airport, 0x300, 0, 2, 0⟩
/-- PORT_CFG.RX_EDGE of AIRPORT, RW. -/
abbrev F.PORT_CFG_RX_EDGE : Fld := ⟨.airport, 0x300, 2, 1, 0⟩
/-- PORT_CFG.STROBE_POL of AIRPORT, RW. -/
abbrev F.PORT_CFG_STROBE_POL : Fld := ⟨.airport, 0x300, 8, 4, 0⟩
/-- STROBE_T0.TX_LEAD of AIRPORT, RW. -/
abbrev F.STROBE_T0_TX_LEAD : Fld := ⟨.airport, 0x304, 0, 8, 0⟩
/-- STROBE_T0.PA_LEAD of AIRPORT, RW. -/
abbrev F.STROBE_T0_PA_LEAD : Fld := ⟨.airport, 0x304, 8, 8, 0⟩
/-- STROBE_T0.RX_TX_GAP of AIRPORT, RW. -/
abbrev F.STROBE_T0_RX_TX_GAP : Fld := ⟨.airport, 0x304, 16, 8, 0⟩
/-- STROBE_T1.PA_LAG of AIRPORT, RW. -/
abbrev F.STROBE_T1_PA_LAG : Fld := ⟨.airport, 0x308, 0, 8, 0⟩
/-- STROBE_T1.TX_LAG of AIRPORT, RW. -/
abbrev F.STROBE_T1_TX_LAG : Fld := ⟨.airport, 0x308, 8, 8, 0⟩
/-- STROBE_T1.RX_LAG of AIRPORT, RW. -/
abbrev F.STROBE_T1_RX_LAG : Fld := ⟨.airport, 0x308, 16, 8, 0⟩
/-- LAT.TX_LAT of AIRPORT, RW. -/
abbrev F.LAT_TX_LAT : Fld := ⟨.airport, 0x30C, 0, 16, 0⟩
/-- LAT.RX_LAT of AIRPORT, RW. -/
abbrev F.LAT_RX_LAT : Fld := ⟨.airport, 0x30C, 16, 16, 0⟩
/-- LNA_CFG.MODE of AIRPORT, RW. -/
abbrev F.LNA_CFG_MODE : Fld := ⟨.airport, 0x310, 0, 2, 0⟩
/-- LNA_CFG.BYP_THRESH of AIRPORT, RW. -/
abbrev F.LNA_CFG_BYP_THRESH : Fld := ⟨.airport, 0x310, 8, 8, 0⟩
/-- SPI_CFG.DIV of AIRPORT, RW. -/
abbrev F.SPI_CFG_DIV : Fld := ⟨.airport, 0x320, 0, 8, 0⟩
/-- SPI_CFG.CPOL_CPHA of AIRPORT, RW. -/
abbrev F.SPI_CFG_CPOL_CPHA : Fld := ⟨.airport, 0x320, 8, 1, 0⟩
/-- SPI_CFG.HEALTH_EN of AIRPORT, RW. -/
abbrev F.SPI_CFG_HEALTH_EN : Fld := ⟨.airport, 0x320, 9, 1, 0⟩
/-- SPI_CFG.HEALTH_LEN of AIRPORT, RW. -/
abbrev F.SPI_CFG_HEALTH_LEN : Fld := ⟨.airport, 0x320, 16, 6, 0⟩
/-- HEALTH_CMD.HEALTH_CMD of AIRPORT, RW. -/
abbrev F.HEALTH_CMD : Fld := ⟨.airport, 0x324, 0, 32, 0⟩
/-- HEALTH_MASK.HEALTH_MASK of AIRPORT, RW. -/
abbrev F.HEALTH_MASK : Fld := ⟨.airport, 0x328, 0, 32, 0⟩
/-- HEALTH_EXPECT.HEALTH_EXPECT of AIRPORT, RW. -/
abbrev F.HEALTH_EXPECT : Fld := ⟨.airport, 0x32C, 0, 32, 0⟩
/-- SPI_TXD.SPI_TXD of AIRPORT, RW. -/
abbrev F.SPI_TXD : Fld := ⟨.airport, 0x330, 0, 32, 0⟩
/-- SPI_TXN.GO of AIRPORT, W1S. -/
abbrev F.SPI_TXN_GO : Fld := ⟨.airport, 0x334, 0, 1, 0⟩
/-- SPI_TXN.BUSY of AIRPORT, RO. -/
abbrev F.SPI_TXN_BUSY : Fld := ⟨.airport, 0x334, 1, 1, 0⟩
/-- SPI_TXN.DONE of AIRPORT, W1C. -/
abbrev F.SPI_TXN_DONE : Fld := ⟨.airport, 0x334, 2, 1, 0⟩
/-- SPI_TXN.LEN of AIRPORT, RW. -/
abbrev F.SPI_TXN_LEN : Fld := ⟨.airport, 0x334, 8, 6, 0⟩
/-- SPI_RX.SPI_RX of AIRPORT, RO. -/
abbrev F.SPI_RX : Fld := ⟨.airport, 0x338, 0, 32, 0⟩
/-- PORT_STATUS.SVC of AIRPORT, RO. -/
abbrev F.PORT_STATUS_SVC : Fld := ⟨.airport, 0x340, 0, 2, 0⟩
/-- PORT_STATUS.RX_LOCK of AIRPORT, RO. -/
abbrev F.PORT_STATUS_RX_LOCK : Fld := ⟨.airport, 0x340, 2, 1, 0⟩
/-- PORT_STATUS.TX_SRC of AIRPORT, RO. -/
abbrev F.PORT_STATUS_TX_SRC : Fld := ⟨.airport, 0x340, 3, 1, 0⟩
/-- PORT_STATUS.STROBES of AIRPORT, RO. -/
abbrev F.PORT_STATUS_STROBES : Fld := ⟨.airport, 0x340, 4, 4, 0⟩
/-- PORT_STATUS.HEALTH_RUN of AIRPORT, RO. -/
abbrev F.PORT_STATUS_HEALTH_RUN : Fld := ⟨.airport, 0x340, 8, 2, 0⟩
/-- PORT_CTRL.FAULT_CLR of AIRPORT, W1S. -/
abbrev F.PORT_CTRL_FAULT_CLR : Fld := ⟨.airport, 0x344, 0, 1, 0⟩
/-- MAC_CFG.MISS_LIMIT of SLUICE, RW. -/
abbrev F.MAC_CFG_MISS_LIMIT : Fld := ⟨.sluice, 0x300, 0, 4, 0⟩
/-- MAC_CFG.JOIN_OPEN of SLUICE, RW. -/
abbrev F.MAC_CFG_JOIN_OPEN : Fld := ⟨.sluice, 0x300, 4, 1, 0⟩
/-- MAC_CFG.DRIFT_PPM of SLUICE, RW. -/
abbrev F.MAC_CFG_DRIFT_PPM : Fld := ⟨.sluice, 0x300, 8, 8, 0⟩
/-- MAC_CFG.JOIN_RESP_WAIT of SLUICE, RW. -/
abbrev F.MAC_CFG_JOIN_RESP_WAIT : Fld := ⟨.sluice, 0x300, 16, 4, 0⟩
/-- ZONE_TAG.ZONE_TAG of SLUICE, RW. -/
abbrev F.ZONE_TAG : Fld := ⟨.sluice, 0x304, 0, 16, 0⟩
/-- SFN.SFN of SLUICE, RW. -/
abbrev F.SFN : Fld := ⟨.sluice, 0x308, 0, 32, 0⟩
/-- BANK_HDR.SF_CODE of SLUICE, RW. -/
abbrev F.BANK_HDR_SF_CODE : Fld := ⟨.sluice, 0x310, 0, 2, 4⟩
/-- BANK_HDR.ACK_RATE of SLUICE, RO. -/
abbrev F.BANK_HDR_ACK_RATE : Fld := ⟨.sluice, 0x310, 4, 3, 4⟩
/-- BANK_HDR.EPOCH of SLUICE, RO. -/
abbrev F.BANK_HDR_EPOCH : Fld := ⟨.sluice, 0x310, 8, 8, 4⟩
/-- BANK_CTRL.ACTIVE of SLUICE, RO. -/
abbrev F.BANK_CTRL_ACTIVE : Fld := ⟨.sluice, 0x318, 0, 1, 0⟩
/-- BANK_CTRL.ARMED of SLUICE, RO. -/
abbrev F.BANK_CTRL_ARMED : Fld := ⟨.sluice, 0x318, 1, 1, 0⟩
/-- BANK_CTRL.ARM of SLUICE, W1S. -/
abbrev F.BANK_CTRL_ARM : Fld := ⟨.sluice, 0x318, 2, 1, 0⟩
/-- BANK_CTRL.CANCEL of SLUICE, W1S. -/
abbrev F.BANK_CTRL_CANCEL : Fld := ⟨.sluice, 0x318, 3, 1, 0⟩
/-- BANK_CTRL.ARM_ERR of SLUICE, RO. -/
abbrev F.BANK_CTRL_ARM_ERR : Fld := ⟨.sluice, 0x318, 8, 4, 0⟩
/-- BANK_CTRL.ARM_INDEX of SLUICE, RO. -/
abbrev F.BANK_CTRL_ARM_INDEX : Fld := ⟨.sluice, 0x318, 16, 11, 0⟩
/-- SWAP_SFN.SWAP_SFN of SLUICE, RW. -/
abbrev F.SWAP_SFN : Fld := ⟨.sluice, 0x31C, 0, 32, 0⟩
/-- PORT_INFO.MEMBERS of SLUICE, RO. -/
abbrev F.PORT_INFO_MEMBERS : Fld := ⟨.sluice, 0x320, 0, 10, 0⟩
/-- PORT_INFO.SILENT of SLUICE, RO. -/
abbrev F.PORT_INFO_SILENT : Fld := ⟨.sluice, 0x320, 16, 10, 0⟩
/-- PORT_INFO.BEACON_MISS of SLUICE, RO. -/
abbrev F.PORT_INFO_BEACON_MISS : Fld := ⟨.sluice, 0x320, 28, 2, 0⟩
/-- SEC_CFG.GRACE_SF of FRAME_SEC, RW. -/
abbrev F.SEC_CFG_GRACE_SF : Fld := ⟨.frameSec, 0x300, 0, 4, 0⟩
/-- SEC_CFG.REKEY_AUTO of FRAME_SEC, RW. -/
abbrev F.SEC_CFG_REKEY_AUTO : Fld := ⟨.frameSec, 0x300, 4, 1, 0⟩
/-- SEC_CFG.ROTATE_LEAD of FRAME_SEC, RW. -/
abbrev F.SEC_CFG_ROTATE_LEAD : Fld := ⟨.frameSec, 0x300, 8, 8, 0⟩
/-- SEC_STATUS.KGEN_CUR of FRAME_SEC, RO. -/
abbrev F.SEC_STATUS_KGEN_CUR : Fld := ⟨.frameSec, 0x304, 0, 8, 0⟩
/-- SEC_STATUS.KGEN_NEXT of FRAME_SEC, RO. -/
abbrev F.SEC_STATUS_KGEN_NEXT : Fld := ⟨.frameSec, 0x304, 8, 8, 0⟩
/-- SEC_STATUS.KGEN_PREV of FRAME_SEC, RO. -/
abbrev F.SEC_STATUS_KGEN_PREV : Fld := ⟨.frameSec, 0x304, 16, 8, 0⟩
/-- SEC_STATUS.REKEY_DUE of FRAME_SEC, RO. -/
abbrev F.SEC_STATUS_REKEY_DUE : Fld := ⟨.frameSec, 0x304, 24, 1, 0⟩
/-- SEC_STATUS.ROT_PEND of FRAME_SEC, RO. -/
abbrev F.SEC_STATUS_ROT_PEND : Fld := ⟨.frameSec, 0x304, 25, 1, 0⟩
/-- ROT_SFN.ROT_SFN of FRAME_SEC, RWL. -/
abbrev F.ROT_SFN : Fld := ⟨.frameSec, 0x308, 0, 32, 0⟩
/-- RT_CFG.MODE of ROUTE, RW. -/
abbrev F.RT_CFG_MODE : Fld := ⟨.route, 0x300, 0, 1, 0⟩
/-- RT_CFG.REPAIR_EN of ROUTE, RW. -/
abbrev F.RT_CFG_REPAIR_EN : Fld := ⟨.route, 0x300, 1, 1, 0⟩
/-- RT_CFG.LEARN_EN of ROUTE, RW. -/
abbrev F.RT_CFG_LEARN_EN : Fld := ⟨.route, 0x300, 2, 1, 0⟩
/-- RT_CFG.LEARN_TX of ROUTE, RW. -/
abbrev F.RT_CFG_LEARN_TX : Fld := ⟨.route, 0x300, 3, 1, 0⟩
/-- RT_CFG.METRIC_HYST of ROUTE, RW. -/
abbrev F.RT_CFG_METRIC_HYST : Fld := ⟨.route, 0x300, 8, 8, 0⟩
/-- RT_STATUS.MODE_NOW of ROUTE, RO. -/
abbrev F.RT_STATUS_MODE_NOW : Fld := ⟨.route, 0x304, 0, 1, 0⟩
/-- RT_STATUS.REPACK_BUSY of ROUTE, RO. -/
abbrev F.RT_STATUS_REPACK_BUSY : Fld := ⟨.route, 0x304, 1, 1, 0⟩
/-- RT_STATUS.VALID of ROUTE, RO. -/
abbrev F.RT_STATUS_VALID : Fld := ⟨.route, 0x304, 16, 13, 0⟩
/-- AGE_LIMIT.AGE_LIMIT of ROUTE, RW. -/
abbrev F.AGE_LIMIT : Fld := ⟨.route, 0x308, 0, 32, 0⟩
/-- SHADOW_BASE.SHADOW_BASE of ROUTE, RW. -/
abbrev F.SHADOW_BASE : Fld := ⟨.route, 0x30C, 0, 32, 0⟩
/-- DEFAULT_ROUTE.TARGET of ROUTE, RW. -/
abbrev F.DEFAULT_ROUTE_TARGET : Fld := ⟨.route, 0x310, 0, 8, 0⟩
/-- DEFAULT_ROUTE.NEXT of ROUTE, RW. -/
abbrev F.DEFAULT_ROUTE_NEXT : Fld := ⟨.route, 0x310, 16, 16, 0⟩
/-- BANK_MAP.W of ROUTE, RO. -/
abbrev F.BANK_MAP_W : Fld := ⟨.route, 0x320, 0, 32, 4⟩
/-- FLOOD_CFG.TTL of FLOOD, RW. -/
abbrev F.FLOOD_CFG_TTL : Fld := ⟨.flood, 0x300, 0, 3, 0⟩
/-- FLOOD_CFG.REPEAT of FLOOD, RW. -/
abbrev F.FLOOD_CFG_REPEAT : Fld := ⟨.flood, 0x300, 4, 2, 0⟩
/-- SEEN_STATUS.OCCUPIED of FLOOD, RO. -/
abbrev F.SEEN_STATUS_OCCUPIED : Fld := ⟨.flood, 0x304, 0, 11, 0⟩
/-- CONF_CFG.BREACH_COUNT of REGISTRY, RW. -/
abbrev F.CONF_CFG_BREACH_COUNT : Fld := ⟨.registry, 0x300, 0, 4, 0⟩
/-- CONF_CFG.DIS_ACTION of REGISTRY, RW. -/
abbrev F.CONF_CFG_DIS_ACTION : Fld := ⟨.registry, 0x300, 4, 1, 0⟩
/-- CONF_CFG.STALE_SF of REGISTRY, RW. -/
abbrev F.CONF_CFG_STALE_SF : Fld := ⟨.registry, 0x300, 8, 4, 0⟩
/-- CORR_LAT_DEF.CORR_LAT_DEF of REGISTRY, RW. -/
abbrev F.CORR_LAT_DEF : Fld := ⟨.registry, 0x304, 0, 32, 0⟩
/-- CORR_ALONG_DEF.CORR_ALONG_DEF of REGISTRY, RW. -/
abbrev F.CORR_ALONG_DEF : Fld := ⟨.registry, 0x308, 0, 32, 0⟩
/-- REG_STATUS.JOINED of REGISTRY, RO. -/
abbrev F.REG_STATUS_JOINED : Fld := ⟨.registry, 0x30C, 0, 10, 0⟩
/-- REG_STATUS.HELD of REGISTRY, RO. -/
abbrev F.REG_STATUS_HELD : Fld := ⟨.registry, 0x30C, 10, 10, 0⟩
/-- REG_STATUS.SILENT of REGISTRY, RO. -/
abbrev F.REG_STATUS_SILENT : Fld := ⟨.registry, 0x30C, 20, 10, 0⟩
/-- HOST_GEN.GEN of REGISTRY, RO. -/
abbrev F.HOST_GEN_GEN : Fld := ⟨.registry, 0x310, 0, 16, 0⟩
/-- HOST_GEN.BUMP of REGISTRY, W1S. -/
abbrev F.HOST_GEN_BUMP : Fld := ⟨.registry, 0x310, 16, 1, 0⟩
/-- SEGMENTS.SEGMENTS of GRAPH, RO. -/
abbrev F.SEGMENTS : Fld := ⟨.graph, 0x300, 0, 32, 0⟩
/-- NODES.NODES of GRAPH, RO. -/
abbrev F.NODES : Fld := ⟨.graph, 0x304, 0, 32, 0⟩
/-- LEASE_CFG.CROSS_EN of LEASE, RW. -/
abbrev F.LEASE_CFG_CROSS_EN : Fld := ⟨.lease, 0x300, 0, 1, 0⟩
/-- LEASE_CFG.EVENT_HOST of LEASE, RW. -/
abbrev F.LEASE_CFG_EVENT_HOST : Fld := ⟨.lease, 0x300, 1, 1, 0⟩
/-- GRACE.GRACE of LEASE, RW. -/
abbrev F.GRACE : Fld := ⟨.lease, 0x304, 0, 32, 0⟩
/-- HORIZON.HORIZON of LEASE, RW. -/
abbrev F.HORIZON : Fld := ⟨.lease, 0x308, 0, 32, 0⟩
/-- BUILD_TIMEOUT.BUILD_TIMEOUT of LEASE, RW. -/
abbrev F.BUILD_TIMEOUT : Fld := ⟨.lease, 0x30C, 0, 32, 0⟩
/-- REPORT_WAIT.REPORT_WAIT of LEASE, RW. -/
abbrev F.REPORT_WAIT : Fld := ⟨.lease, 0x310, 0, 32, 0⟩
/-- GRANT_SEQ.GRANT_SEQ of LEASE, RO. -/
abbrev F.GRANT_SEQ : Fld := ⟨.lease, 0x314, 0, 32, 0⟩
/-- LEASE_STATUS.USED of LEASE, RO. -/
abbrev F.LEASE_STATUS_USED : Fld := ⟨.lease, 0x318, 0, 19, 0⟩
/-- LEASE_STATUS.REBASING of LEASE, RO. -/
abbrev F.LEASE_STATUS_REBASING : Fld := ⟨.lease, 0x318, 19, 1, 0⟩
/-- LEASE_STATUS.PIPES of LEASE, RO. -/
abbrev F.LEASE_STATUS_PIPES : Fld := ⟨.lease, 0x318, 20, 3, 0⟩
/-- LEASE_STATUS.LOST of LEASE, RO. -/
abbrev F.LEASE_STATUS_LOST : Fld := ⟨.lease, 0x318, 23, 1, 0⟩
/-- LEASE_STATUS.BUILDS of LEASE, RO. -/
abbrev F.LEASE_STATUS_BUILDS : Fld := ⟨.lease, 0x318, 24, 7, 0⟩
/-- LEASE_STATUS2.OVERSTAYS of LEASE, RO. -/
abbrev F.LEASE_STATUS2_OVERSTAYS : Fld := ⟨.lease, 0x31C, 0, 16, 0⟩
/-- LEASE_STATUS2.XFERS of LEASE, RO. -/
abbrev F.LEASE_STATUS2_XFERS : Fld := ⟨.lease, 0x31C, 16, 8, 0⟩
/-- LEASE_CTRL.LOST_CLR of LEASE, W1S. -/
abbrev F.LEASE_CTRL_LOST_CLR : Fld := ⟨.lease, 0x320, 0, 1, 0⟩
/-- SEQ_TIMEOUT.SEQ_TIMEOUT of TURNOUT, RW. -/
abbrev F.SEQ_TIMEOUT : Fld := ⟨.turnout, 0x300, 0, 32, 0⟩
/-- TO_STATUS.ORPHANS of TURNOUT, RO. -/
abbrev F.TO_STATUS_ORPHANS : Fld := ⟨.turnout, 0x304, 0, 14, 0⟩
/-- TO_STATUS.SEQ_OPEN of TURNOUT, RO. -/
abbrev F.TO_STATUS_SEQ_OPEN : Fld := ⟨.turnout, 0x304, 15, 8, 0⟩
/-- TO_STATUS.DIRECT of TURNOUT, RO. -/
abbrev F.TO_STATUS_DIRECT : Fld := ⟨.turnout, 0x304, 24, 8, 0⟩
/-- SEQ_STAGED.SEQ_STAGED of TURNOUT, RO. -/
abbrev F.SEQ_STAGED : Fld := ⟨.turnout, 0x308, 0, 32, 0⟩
/-- MOTION_CFG.NSP of MOTION, RW. -/
abbrev F.MOTION_CFG_NSP : Fld := ⟨.motion, 0x300, 0, 2, 0⟩
/-- STOP_JERK.STOP_JERK of MOTION, RW. -/
abbrev F.STOP_JERK : Fld := ⟨.motion, 0x304, 0, 32, 0⟩
/-- BLEND_LEN.BLEND_LEN of MOTION, RW. -/
abbrev F.BLEND_LEN : Fld := ⟨.motion, 0x308, 0, 32, 0⟩
/-- LAG_LIMIT.LAG_LIMIT of MOTION, RW. -/
abbrev F.LAG_LIMIT : Fld := ⟨.motion, 0x30C, 0, 32, 0⟩
/-- TRACK_VMAX.TRACK_VMAX of MOTION, RW. -/
abbrev F.TRACK_VMAX : Fld := ⟨.motion, 0x310, 0, 32, 0⟩
/-- MOT_STATUS.MOVING of MOTION, RO. -/
abbrev F.MOT_STATUS_MOVING : Fld := ⟨.motion, 0x314, 0, 10, 0⟩
/-- MOT_STATUS.STOPPING of MOTION, RO. -/
abbrev F.MOT_STATUS_STOPPING : Fld := ⟨.motion, 0x314, 10, 10, 0⟩
/-- MOT_STATUS.WAITING of MOTION, RO. -/
abbrev F.MOT_STATUS_WAITING : Fld := ⟨.motion, 0x314, 20, 10, 0⟩
/-- TB_STATUS.LIVE of TASKBOARD, RO. -/
abbrev F.TB_STATUS_LIVE : Fld := ⟨.taskboard, 0x300, 0, 13, 0⟩
/-- TB_STATUS.ACTIVE of TASKBOARD, RO. -/
abbrev F.TB_STATUS_ACTIVE : Fld := ⟨.taskboard, 0x300, 16, 13, 0⟩
/-- DISP_CFG.TRACE_EN of DISPATCH, RW. -/
abbrev F.DISP_CFG_TRACE_EN : Fld := ⟨.dispatch, 0x300, 0, 1, 0⟩
/-- DISP_CFG.TRAILERS of DISPATCH, RW. -/
abbrev F.DISP_CFG_TRAILERS : Fld := ⟨.dispatch, 0x300, 1, 1, 0⟩
/-- HW_RESERVE.HW_RESERVE of DISPATCH, RW. -/
abbrev F.HW_RESERVE : Fld := ⟨.dispatch, 0x304, 0, 32, 0⟩
/-- ITEM_TIMEOUT.ITEM_TIMEOUT of DISPATCH, RW. -/
abbrev F.ITEM_TIMEOUT : Fld := ⟨.dispatch, 0x308, 0, 32, 0⟩
/-- CLASS0_TIMEOUT.CLASS0_TIMEOUT of DISPATCH, RW. -/
abbrev F.CLASS0_TIMEOUT : Fld := ⟨.dispatch, 0x30C, 0, 32, 0⟩
/-- POOL_BASE.POOL_BASE of DISPATCH, RO. -/
abbrev F.POOL_BASE : Fld := ⟨.dispatch, 0x310, 0, 32, 0⟩
/-- DISP_STATUS.ITEMS of DISPATCH, RO. -/
abbrev F.DISP_STATUS_ITEMS : Fld := ⟨.dispatch, 0x314, 0, 13, 0⟩
/-- DISP_STATUS.SMALL_FREE of DISPATCH, RO. -/
abbrev F.DISP_STATUS_SMALL_FREE : Fld := ⟨.dispatch, 0x314, 16, 13, 0⟩
/-- TRACE_LOST.TRACE_LOST of DISPATCH, RO. -/
abbrev F.TRACE_LOST : Fld := ⟨.dispatch, 0x318, 0, 32, 0⟩
/-- GROUP_CFG.CLASS of DISPATCH, RW. -/
abbrev F.GROUP_CFG_CLASS : Fld := ⟨.dispatch, 0x400, 0, 2, 4⟩
/-- GROUP_CFG.WEIGHT of DISPATCH, RW. -/
abbrev F.GROUP_CFG_WEIGHT : Fld := ⟨.dispatch, 0x400, 8, 8, 4⟩
/-- GROUP_CFG.CORE_MASK of DISPATCH, RW. -/
abbrev F.GROUP_CFG_CORE_MASK : Fld := ⟨.dispatch, 0x400, 16, 8, 4⟩
/-- CORE_STATUS.BUSY of CORE, RO. -/
abbrev F.CORE_STATUS_BUSY : Fld := ⟨.core, 0x300, 0, 8, 0⟩
/-- CORE_STATUS.RUNNING of CORE, RO. -/
abbrev F.CORE_STATUS_RUNNING : Fld := ⟨.core, 0x300, 8, 3, 0⟩
/-- CORE_STATUS.CLASS of CORE, RO. -/
abbrev F.CORE_STATUS_CLASS : Fld := ⟨.core, 0x300, 11, 2, 0⟩
/-- CORE_STATUS.IDLE of CORE, RO. -/
abbrev F.CORE_STATUS_IDLE : Fld := ⟨.core, 0x300, 13, 1, 0⟩
/-- PCIE_STATUS.LINK_UP of PCIE, RO. -/
abbrev F.PCIE_STATUS_LINK_UP : Fld := ⟨.pcie, 0x300, 0, 1, 0⟩
/-- PCIE_STATUS.SPEED of PCIE, RO. -/
abbrev F.PCIE_STATUS_SPEED : Fld := ⟨.pcie, 0x300, 1, 2, 0⟩
/-- PCIE_STATUS.WIDTH of PCIE, RO. -/
abbrev F.PCIE_STATUS_WIDTH : Fld := ⟨.pcie, 0x300, 3, 3, 0⟩
/-- PCIE_STATUS.BME of PCIE, RO. -/
abbrev F.PCIE_STATUS_BME : Fld := ⟨.pcie, 0x300, 6, 1, 0⟩
/-- PCIE_CFG.L1_EN of PCIE, RW. -/
abbrev F.PCIE_CFG_L1_EN : Fld := ⟨.pcie, 0x304, 0, 1, 0⟩
/-- FLUME_CFG.ETHERTYPE of FLUME, RW. -/
abbrev F.FLUME_CFG_ETHERTYPE : Fld := ⟨.flume, 0x300, 0, 16, 0⟩
/-- FLUME_CFG.FUNNEL_EN of FLUME, RW. -/
abbrev F.FLUME_CFG_FUNNEL_EN : Fld := ⟨.flume, 0x300, 16, 1, 0⟩
/-- HOST_MAC_LO.HOST_MAC_LO of FLUME, RW. -/
abbrev F.HOST_MAC_LO : Fld := ⟨.flume, 0x304, 0, 32, 0⟩
/-- HOST_MAC_HI.HOST_MAC_HI of FLUME, RW. -/
abbrev F.HOST_MAC_HI : Fld := ⟨.flume, 0x308, 0, 32, 0⟩
/-- FLUSH_US.FLUSH_US of FLUME, RW. -/
abbrev F.FLUSH_US : Fld := ⟨.flume, 0x30C, 0, 32, 0⟩
/-- CREDIT_PERIOD.CREDIT_PERIOD of FLUME, RW. -/
abbrev F.CREDIT_PERIOD : Fld := ⟨.flume, 0x310, 0, 32, 0⟩
/-- RETX_TIMEOUT.RETX_TIMEOUT of FLUME, RW. -/
abbrev F.RETX_TIMEOUT : Fld := ⟨.flume, 0x314, 0, 32, 0⟩
/-- HOST_TIMEOUT.HOST_TIMEOUT of FLUME, RW. -/
abbrev F.HOST_TIMEOUT : Fld := ⟨.flume, 0x318, 0, 32, 0⟩
/-- FLUME_STATUS.SESSION of FLUME, RO. -/
abbrev F.FLUME_STATUS_SESSION : Fld := ⟨.flume, 0x320, 0, 16, 0⟩
/-- FLUME_STATUS.HOST_SEEN of FLUME, RO. -/
abbrev F.FLUME_STATUS_HOST_SEEN : Fld := ⟨.flume, 0x320, 16, 1, 0⟩
/-- FLUME_STATUS.FUNNEL_ACTIVE of FLUME, RO. -/
abbrev F.FLUME_STATUS_FUNNEL_ACTIVE : Fld := ⟨.flume, 0x320, 17, 1, 0⟩
/-- QEV_CLR.QUEUE of FLUME, WO. -/
abbrev F.QEV_CLR_QUEUE : Fld := ⟨.flume, 0x324, 0, 6, 0⟩
/-- QEV_CLR.GO of FLUME, WO. -/
abbrev F.QEV_CLR_GO : Fld := ⟨.flume, 0x324, 8, 1, 0⟩
/-- ETH_CFG.MODE of ETH, RW. -/
abbrev F.ETH_CFG_MODE : Fld := ⟨.eth, 0x300, 0, 2, 0⟩
/-- ETH_CFG.AN_EN of ETH, RW. -/
abbrev F.ETH_CFG_AN_EN : Fld := ⟨.eth, 0x300, 2, 1, 0⟩
/-- ETH_CFG.JUMBO of ETH, RW. -/
abbrev F.ETH_CFG_JUMBO : Fld := ⟨.eth, 0x300, 3, 1, 0⟩
/-- ETH_CFG.VLAN_EN of ETH, RW. -/
abbrev F.ETH_CFG_VLAN_EN : Fld := ⟨.eth, 0x300, 4, 1, 0⟩
/-- ETH_CFG.PFC_EN of ETH, RW. -/
abbrev F.ETH_CFG_PFC_EN : Fld := ⟨.eth, 0x300, 5, 1, 0⟩
/-- ETH_CFG.VLAN_ID of ETH, RW. -/
abbrev F.ETH_CFG_VLAN_ID : Fld := ⟨.eth, 0x300, 16, 12, 0⟩
/-- ETH_STATUS.LINK of ETH, RO. -/
abbrev F.ETH_STATUS_LINK : Fld := ⟨.eth, 0x304, 0, 1, 0⟩
/-- ETH_STATUS.AN_DONE of ETH, RO. -/
abbrev F.ETH_STATUS_AN_DONE : Fld := ⟨.eth, 0x304, 1, 1, 0⟩
/-- ETH_STATUS.PAUSED_RX of ETH, RO. -/
abbrev F.ETH_STATUS_PAUSED_RX : Fld := ⟨.eth, 0x304, 8, 8, 0⟩
/-- ETH_STATUS.XOFF_TX of ETH, RO. -/
abbrev F.ETH_STATUS_XOFF_TX : Fld := ⟨.eth, 0x304, 16, 8, 0⟩
/-- ETH_MAC_LO.ETH_MAC_LO of ETH, RW. -/
abbrev F.ETH_MAC_LO : Fld := ⟨.eth, 0x308, 0, 32, 0⟩
/-- ETH_MAC_HI.ETH_MAC_HI of ETH, RW. -/
abbrev F.ETH_MAC_HI : Fld := ⟨.eth, 0x30C, 0, 32, 0⟩
/-- PFC_XOFF.PFC_XOFF of ETH, RW. -/
abbrev F.PFC_XOFF : Fld := ⟨.eth, 0x310, 0, 32, 0⟩
/-- CPORT_STATUS.STATE of CANAL, RO. -/
abbrev F.CPORT_STATUS_STATE : Fld := ⟨.canal, 0x300, 0, 2, 0⟩
/-- CPORT_STATUS.DELAY_VALID of CANAL, RO. -/
abbrev F.CPORT_STATUS_DELAY_VALID : Fld := ⟨.canal, 0x300, 2, 1, 0⟩
/-- CPORT_STATUS.LANE_SWAP of CANAL, RO. -/
abbrev F.CPORT_STATUS_LANE_SWAP : Fld := ⟨.canal, 0x300, 3, 1, 0⟩
/-- CPORT_STATUS.NEIGHBOUR of CANAL, RO. -/
abbrev F.CPORT_STATUS_NEIGHBOUR : Fld := ⟨.canal, 0x300, 8, 6, 0⟩
/-- CPORT_STATUS.NB_UNIT of CANAL, RO. -/
abbrev F.CPORT_STATUS_NB_UNIT : Fld := ⟨.canal, 0x300, 14, 1, 0⟩
/-- CPORT_STATUS.NB_NUMBERED of CANAL, RO. -/
abbrev F.CPORT_STATUS_NB_NUMBERED : Fld := ⟨.canal, 0x300, 15, 1, 0⟩
/-- LINK_DELAY.LINK_DELAY of CANAL, RO. -/
abbrev F.LINK_DELAY : Fld := ⟨.canal, 0x304, 0, 32, 0⟩
/-- RING_CFG.RING_SIZE of CANAL, RW. -/
abbrev F.RING_CFG_RING_SIZE : Fld := ⟨.canal, 0x320, 0, 7, 0⟩
/-- RING_CFG.EXPECT_ZONE of CANAL, RW. -/
abbrev F.RING_CFG_EXPECT_ZONE : Fld := ⟨.canal, 0x320, 8, 7, 0⟩
/-- RING_CFG.ISLAND_CLASS of CANAL, RWL. -/
abbrev F.RING_CFG_ISLAND_CLASS : Fld := ⟨.canal, 0x320, 16, 2, 0⟩
/-- ISLAND_TIME.ISLAND_TIME of CANAL, RW. -/
abbrev F.ISLAND_TIME : Fld := ⟨.canal, 0x324, 0, 32, 0⟩
/-- TUN_TIMEOUT.TUN_TIMEOUT of CANAL, RW. -/
abbrev F.TUN_TIMEOUT : Fld := ⟨.canal, 0x328, 0, 32, 0⟩
/-- TUN_STANDBY_LO.TUN_STANDBY_LO of CANAL, RW. -/
abbrev F.TUN_STANDBY_LO : Fld := ⟨.canal, 0x330, 0, 32, 0⟩
/-- TUN_STANDBY_HI.TUN_STANDBY_HI of CANAL, RW. -/
abbrev F.TUN_STANDBY_HI : Fld := ⟨.canal, 0x334, 0, 32, 0⟩
/-- RING_STATUS.NUMBER of CANAL, RO. -/
abbrev F.RING_STATUS_NUMBER : Fld := ⟨.canal, 0x338, 0, 6, 0⟩
/-- RING_STATUS.NUMBERED of CANAL, RO. -/
abbrev F.RING_STATUS_NUMBERED : Fld := ⟨.canal, 0x338, 6, 1, 0⟩
/-- RING_STATUS.HEAD of CANAL, RO. -/
abbrev F.RING_STATUS_HEAD : Fld := ⟨.canal, 0x338, 7, 1, 0⟩
/-- RING_STATUS.UNIT of CANAL, RO. -/
abbrev F.RING_STATUS_UNIT : Fld := ⟨.canal, 0x338, 8, 1, 0⟩
/-- RING_STATUS.CLOSED of CANAL, RO. -/
abbrev F.RING_STATUS_CLOSED : Fld := ⟨.canal, 0x338, 9, 1, 0⟩
/-- RING_STATUS.ISLAND of CANAL, RO. -/
abbrev F.RING_STATUS_ISLAND : Fld := ⟨.canal, 0x338, 10, 1, 0⟩
/-- RING_STATUS.CONFLICT of CANAL, RO. -/
abbrev F.RING_STATUS_CONFLICT : Fld := ⟨.canal, 0x338, 11, 1, 0⟩
/-- RING_STATUS.DOWN_LINKS of CANAL, RO. -/
abbrev F.RING_STATUS_DOWN_LINKS : Fld := ⟨.canal, 0x338, 12, 4, 0⟩
/-- RING_STATUS.POSITIONS of CANAL, RO. -/
abbrev F.RING_STATUS_POSITIONS : Fld := ⟨.canal, 0x338, 16, 7, 0⟩
/-- REACH_LO.REACH_LO of CANAL, RO. -/
abbrev F.REACH_LO : Fld := ⟨.canal, 0x340, 0, 32, 0⟩
/-- REACH_HI.REACH_HI of CANAL, RO. -/
abbrev F.REACH_HI : Fld := ⟨.canal, 0x344, 0, 32, 0⟩
/-- PAIR_CFG.REVERT_EN of PAIR, RW. -/
abbrev F.PAIR_CFG_REVERT_EN : Fld := ⟨.pair, 0x300, 0, 1, 0⟩
/-- PAIR_CFG.ACK_SF of PAIR, RW. -/
abbrev F.PAIR_CFG_ACK_SF : Fld := ⟨.pair, 0x300, 8, 4, 0⟩
/-- REVERT_HOLDOFF.REVERT_HOLDOFF of PAIR, RW. -/
abbrev F.REVERT_HOLDOFF : Fld := ⟨.pair, 0x304, 0, 32, 0⟩
/-- SWITCH_SFN.SWITCH_SFN of PAIR, RO. -/
abbrev F.SWITCH_SFN : Fld := ⟨.pair, 0x308, 0, 32, 0⟩
/-- PAIR_CTRL.KICK of PAIR, W1S. -/
abbrev F.PAIR_CTRL_KICK : Fld := ⟨.pair, 0x30C, 0, 1, 0⟩
/-- PAIR_CTRL.WARM of PAIR, RW. -/
abbrev F.PAIR_CTRL_WARM : Fld := ⟨.pair, 0x30C, 1, 1, 0⟩
/-- PAIR_CTRL.SWITCH of PAIR, RWL. -/
abbrev F.PAIR_CTRL_SWITCH : Fld := ⟨.pair, 0x30C, 2, 1, 0⟩
/-- PAIR_CTRL.TAKE of PAIR, RWL. -/
abbrev F.PAIR_CTRL_TAKE : Fld := ⟨.pair, 0x30C, 3, 1, 0⟩
/-- PAIR_CTRL.NO_REVERT of PAIR, RW. -/
abbrev F.PAIR_CTRL_NO_REVERT : Fld := ⟨.pair, 0x30C, 4, 1, 0⟩
/-- PAIR_STATUS.ROLE of PAIR, RO. -/
abbrev F.PAIR_STATUS_ROLE : Fld := ⟨.pair, 0x310, 0, 1, 0⟩
/-- PAIR_STATUS.STATE of PAIR, RO. -/
abbrev F.PAIR_STATUS_STATE : Fld := ⟨.pair, 0x310, 1, 3, 0⟩
/-- PAIR_STATUS.READY of PAIR, RO. -/
abbrev F.PAIR_STATUS_READY : Fld := ⟨.pair, 0x310, 4, 1, 0⟩
/-- PAIR_STATUS.PEER_STATE of PAIR, RO. -/
abbrev F.PAIR_STATUS_PEER_STATE : Fld := ⟨.pair, 0x310, 5, 2, 0⟩
/-- PAIR_STATUS.CLAIM_OWN of PAIR, RO. -/
abbrev F.PAIR_STATUS_CLAIM_OWN : Fld := ⟨.pair, 0x310, 7, 1, 0⟩
/-- PAIR_STATUS.CLAIM_PEER of PAIR, RO. -/
abbrev F.PAIR_STATUS_CLAIM_PEER : Fld := ⟨.pair, 0x310, 8, 1, 0⟩
/-- PAIR_STATUS.ROLE_CONFLICT of PAIR, RO. -/
abbrev F.PAIR_STATUS_ROLE_CONFLICT : Fld := ⟨.pair, 0x310, 9, 1, 0⟩
/-- PAIR_STATUS.GATE_OPEN of PAIR, RO. -/
abbrev F.PAIR_STATUS_GATE_OPEN : Fld := ⟨.pair, 0x310, 10, 1, 0⟩
/-- PAIR_STATUS.PEER_IN_SERVICE of PAIR, RO. -/
abbrev F.PAIR_STATUS_PEER_IN_SERVICE : Fld := ⟨.pair, 0x310, 11, 1, 0⟩
/-- PAIR_STATUS.NR_REASON of PAIR, RO. -/
abbrev F.PAIR_STATUS_NR_REASON : Fld := ⟨.pair, 0x310, 12, 4, 0⟩
/-- FULL_SFN.FULL_SFN of PAIR, RO. -/
abbrev F.FULL_SFN : Fld := ⟨.pair, 0x314, 0, 32, 0⟩
/-- DELTA_SFN.DELTA_SFN of PAIR, RO. -/
abbrev F.DELTA_SFN : Fld := ⟨.pair, 0x318, 0, 32, 0⟩
/-- CFG_HASH.CFG_HASH of PAIR, RO. -/
abbrev F.CFG_HASH : Fld := ⟨.pair, 0x31C, 0, 32, 0⟩
/-- DRAM_CFG.SIZE of DRAM, RW. -/
abbrev F.DRAM_CFG_SIZE : Fld := ⟨.dram, 0x300, 0, 3, 0⟩
/-- DRAM_CFG.SCRUB_EN of DRAM, RW. -/
abbrev F.DRAM_CFG_SCRUB_EN : Fld := ⟨.dram, 0x300, 8, 1, 0⟩
/-- DRAM_STATUS.TRAINED of DRAM, RO. -/
abbrev F.DRAM_STATUS_TRAINED : Fld := ⟨.dram, 0x304, 0, 1, 0⟩
/-- DRAM_STATUS.CLEARED of DRAM, RO. -/
abbrev F.DRAM_STATUS_CLEARED : Fld := ⟨.dram, 0x304, 1, 1, 0⟩
/-- DRAM_STATUS.BAD_PART of DRAM, RO. -/
abbrev F.DRAM_STATUS_BAD_PART : Fld := ⟨.dram, 0x304, 2, 3, 0⟩
/-- DRAM_STATUS.USABLE of DRAM, RO. -/
abbrev F.DRAM_STATUS_USABLE : Fld := ⟨.dram, 0x304, 16, 16, 0⟩
/-- PART_BASE.BASE of DRAM, RW. -/
abbrev F.PART_BASE_BASE : Fld := ⟨.dram, 0x310, 0, 16, 8⟩
/-- PART_SIZE.SIZE of DRAM, RW. -/
abbrev F.PART_SIZE_SIZE : Fld := ⟨.dram, 0x314, 0, 16, 8⟩
/-- ARCH_LOST.ARCH_LOST of DRAM, RO. -/
abbrev F.ARCH_LOST : Fld := ⟨.dram, 0x340, 0, 32, 0⟩
/-- LC_STATUS.STATE of KEEP, RO. -/
abbrev F.LC_STATUS_STATE : Fld := ⟨.keep, 0x300, 0, 3, 0⟩
/-- LC_STATUS.BUSY of KEEP, RO. -/
abbrev F.LC_STATUS_BUSY : Fld := ⟨.keep, 0x300, 3, 1, 0⟩
/-- LC_STATUS.RESULT of KEEP, RO. -/
abbrev F.LC_STATUS_RESULT : Fld := ⟨.keep, 0x300, 4, 4, 0⟩
/-- LC_CTRL.TARGET of KEEP, RWL. -/
abbrev F.LC_CTRL_TARGET : Fld := ⟨.keep, 0x304, 0, 3, 0⟩
/-- LC_CTRL.RETIRE of KEEP, W1S. -/
abbrev F.LC_CTRL_RETIRE : Fld := ⟨.keep, 0x304, 8, 1, 0⟩
/-- PWR_CTRL.TARGET of KEEP, RW. -/
abbrev F.PWR_CTRL_TARGET : Fld := ⟨.keep, 0x310, 0, 2, 0⟩
/-- PWR_STATUS.STATE of KEEP, RO. -/
abbrev F.PWR_STATUS_STATE : Fld := ⟨.keep, 0x314, 0, 3, 0⟩
/-- PWR_STATUS.RESULT of KEEP, RO. -/
abbrev F.PWR_STATUS_RESULT : Fld := ⟨.keep, 0x314, 4, 4, 0⟩
/-- KS_CFG.REMASK_MS of KEYSTORE, RW. -/
abbrev F.KS_CFG_REMASK_MS : Fld := ⟨.keystore, 0x300, 0, 16, 0⟩
/-- TOK_NONCE_LO.TOK_NONCE_LO of KEYSTORE, RO. -/
abbrev F.TOK_NONCE_LO : Fld := ⟨.keystore, 0x310, 0, 32, 0⟩
/-- TOK_NONCE_HI.TOK_NONCE_HI of KEYSTORE, RO. -/
abbrev F.TOK_NONCE_HI : Fld := ⟨.keystore, 0x314, 0, 32, 0⟩
/-- TOK_CTRL.OPEN of KEYSTORE, W1S. -/
abbrev F.TOK_CTRL_OPEN : Fld := ⟨.keystore, 0x318, 0, 1, 0⟩
/-- TOK_CTRL.GO of KEYSTORE, W1S. -/
abbrev F.TOK_CTRL_GO : Fld := ⟨.keystore, 0x318, 1, 1, 0⟩
/-- TOK_CTRL.RELEASE of KEYSTORE, W1S. -/
abbrev F.TOK_CTRL_RELEASE : Fld := ⟨.keystore, 0x318, 2, 1, 0⟩
/-- TOK_STATUS.OWNER of KEYSTORE, RO. -/
abbrev F.TOK_STATUS_OWNER : Fld := ⟨.keystore, 0x31C, 0, 8, 0⟩
/-- TOK_STATUS.BUSY of KEYSTORE, RO. -/
abbrev F.TOK_STATUS_BUSY : Fld := ⟨.keystore, 0x31C, 8, 1, 0⟩
/-- TOK_STATUS.RESULT of KEYSTORE, RO. -/
abbrev F.TOK_STATUS_RESULT : Fld := ⟨.keystore, 0x31C, 12, 4, 0⟩
/-- TOK_STATUS.FAIL_INDEX of KEYSTORE, RO. -/
abbrev F.TOK_STATUS_FAIL_INDEX : Fld := ⟨.keystore, 0x31C, 16, 4, 0⟩
/-- KS_ZEROISE.SLOT of KEYSTORE, RWL. -/
abbrev F.KS_ZEROISE_SLOT : Fld := ⟨.keystore, 0x320, 0, 6, 0⟩
/-- KS_ZEROISE.GO of KEYSTORE, RWL. -/
abbrev F.KS_ZEROISE_GO : Fld := ⟨.keystore, 0x320, 6, 1, 0⟩
/-- TOK_BUF.TOK_BUF of KEYSTORE, RW. -/
abbrev F.TOK_BUF : Fld := ⟨.keystore, 0x400, 0, 32, 4⟩
/-- ATT_NONCE.ATT_NONCE of KEYSTORE, RW. -/
abbrev F.ATT_NONCE : Fld := ⟨.keystore, 0x580, 0, 32, 4⟩
/-- ATT_CTRL.GO of KEYSTORE, W1S. -/
abbrev F.ATT_CTRL_GO : Fld := ⟨.keystore, 0x5A0, 0, 1, 0⟩
/-- ATT_STATUS.BUSY of KEYSTORE, RO. -/
abbrev F.ATT_STATUS_BUSY : Fld := ⟨.keystore, 0x5A4, 0, 1, 0⟩
/-- ATT_STATUS.DONE of KEYSTORE, W1C. -/
abbrev F.ATT_STATUS_DONE : Fld := ⟨.keystore, 0x5A4, 1, 1, 0⟩
/-- ATT_STATUS.SEQ of KEYSTORE, RO. -/
abbrev F.ATT_STATUS_SEQ : Fld := ⟨.keystore, 0x5A4, 8, 8, 0⟩
/-- ATT_BUF.ATT_BUF of KEYSTORE, RO. -/
abbrev F.ATT_BUF : Fld := ⟨.keystore, 0x600, 0, 32, 4⟩
/-- LOG_CFG.HOST_EN of EVLOG, RW. -/
abbrev F.LOG_CFG_HOST_EN : Fld := ⟨.evlog, 0x300, 0, 1, 0⟩
/-- LOG_CFG.EXT_EN of EVLOG, RW. -/
abbrev F.LOG_CFG_EXT_EN : Fld := ⟨.evlog, 0x300, 1, 1, 0⟩
/-- WEIR_DEF.RATE of EVLOG, RW. -/
abbrev F.WEIR_DEF_RATE : Fld := ⟨.evlog, 0x304, 0, 14, 0⟩
/-- WEIR_DEF.BURST of EVLOG, RW. -/
abbrev F.WEIR_DEF_BURST : Fld := ⟨.evlog, 0x304, 16, 11, 0⟩
/-- NEWEST_SEQ.NEWEST_SEQ of EVLOG, RO. -/
abbrev F.NEWEST_SEQ : Fld := ⟨.evlog, 0x308, 0, 32, 0⟩
/-- OLDEST_SEQ.OLDEST_SEQ of EVLOG, RO. -/
abbrev F.OLDEST_SEQ : Fld := ⟨.evlog, 0x30C, 0, 32, 0⟩
/-- EXT_RECORDS.EXT_RECORDS of EVLOG, RO. -/
abbrev F.EXT_RECORDS : Fld := ⟨.evlog, 0x310, 0, 32, 0⟩
/-- LOG_LOST.LOG_LOST of EVLOG, RO. -/
abbrev F.LOG_LOST : Fld := ⟨.evlog, 0x314, 0, 32, 0⟩
/-- FOUND_STATUS.FILL of EVLOG, RO. -/
abbrev F.FOUND_STATUS_FILL : Fld := ⟨.evlog, 0x318, 0, 13, 0⟩
/-- FOUND_STATUS.AREA of EVLOG, RO. -/
abbrev F.FOUND_STATUS_AREA : Fld := ⟨.evlog, 0x318, 13, 3, 0⟩
/-- FOUND_STATUS.SET_FILL of EVLOG, RO. -/
abbrev F.FOUND_STATUS_SET_FILL : Fld := ⟨.evlog, 0x318, 16, 9, 0⟩
/-- FOUND_STATUS.BUSY of EVLOG, RO. -/
abbrev F.FOUND_STATUS_BUSY : Fld := ⟨.evlog, 0x318, 25, 1, 0⟩
/-- BOOT_STATUS.BANK of BOOT, RO. -/
abbrev F.BOOT_STATUS_BANK : Fld := ⟨.boot, 0x300, 0, 1, 0⟩
/-- BOOT_STATUS.TRIAL of BOOT, RO. -/
abbrev F.BOOT_STATUS_TRIAL : Fld := ⟨.boot, 0x300, 1, 1, 0⟩
/-- BOOT_STATUS.RECOVERY of BOOT, RO. -/
abbrev F.BOOT_STATUS_RECOVERY : Fld := ⟨.boot, 0x300, 2, 1, 0⟩
/-- BOOT_STATUS.BOOT_OK of BOOT, RO. -/
abbrev F.BOOT_STATUS_BOOT_OK : Fld := ⟨.boot, 0x300, 3, 1, 0⟩
/-- BOOT_STATUS.TRIES of BOOT, RO. -/
abbrev F.BOOT_STATUS_TRIES : Fld := ⟨.boot, 0x300, 4, 2, 0⟩
/-- BOOT_STATUS.IMG_OK of BOOT, RO. -/
abbrev F.BOOT_STATUS_IMG_OK : Fld := ⟨.boot, 0x300, 8, 5, 0⟩
/-- BOOT_STATUS.SUP_RESULT of BOOT, RO. -/
abbrev F.BOOT_STATUS_SUP_RESULT : Fld := ⟨.boot, 0x300, 16, 4, 0⟩
/-- BOOT_CTRL.BOOT_OK of BOOT, W1S. -/
abbrev F.BOOT_CTRL_BOOT_OK : Fld := ⟨.boot, 0x304, 0, 1, 0⟩
/-- UPD_CTRL.OP of BOOT, WO. -/
abbrev F.UPD_CTRL_OP : Fld := ⟨.boot, 0x308, 0, 3, 0⟩
/-- UPD_CTRL.COMMIT of BOOT, RWL. -/
abbrev F.UPD_CTRL_COMMIT : Fld := ⟨.boot, 0x308, 8, 1, 0⟩
/-- UPD_CTRL.TO_RECOVERY of BOOT, RWL. -/
abbrev F.UPD_CTRL_TO_RECOVERY : Fld := ⟨.boot, 0x308, 9, 1, 0⟩
/-- UPD_STATUS.BUSY of BOOT, RO. -/
abbrev F.UPD_STATUS_BUSY : Fld := ⟨.boot, 0x30C, 0, 1, 0⟩
/-- UPD_STATUS.RESULT of BOOT, RO. -/
abbrev F.UPD_STATUS_RESULT : Fld := ⟨.boot, 0x30C, 1, 4, 0⟩
/-- UPD_STATUS.FAIL_TYPE of BOOT, RO. -/
abbrev F.UPD_STATUS_FAIL_TYPE : Fld := ⟨.boot, 0x30C, 5, 3, 0⟩
/-- UPD_STATUS.SECTORS of BOOT, RO. -/
abbrev F.UPD_STATUS_SECTORS : Fld := ⟨.boot, 0x30C, 16, 16, 0⟩
/-- STAGE_LEN.STAGE_LEN of BOOT, RW. -/
abbrev F.STAGE_LEN : Fld := ⟨.boot, 0x310, 0, 32, 0⟩
/-- DIR_SEQ.DIR_SEQ of BOOT, RO. -/
abbrev F.DIR_SEQ : Fld := ⟨.boot, 0x314, 0, 32, 0⟩
/-- VERSION.VERSION of BOOT, RO. -/
abbrev F.VERSION : Fld := ⟨.boot, 0x320, 0, 32, 4⟩
/-- RCV_CTRL.GO of BOOT, W1S. -/
abbrev F.RCV_CTRL_GO : Fld := ⟨.boot, 0x340, 0, 1, 0⟩
/-- RCV_REPLY0.RCV_REPLY0 of BOOT, RO. -/
abbrev F.RCV_REPLY0 : Fld := ⟨.boot, 0x344, 0, 32, 0⟩
/-- RCV_REPLY1.RCV_REPLY1 of BOOT, RO. -/
abbrev F.RCV_REPLY1 : Fld := ⟨.boot, 0x348, 0, 32, 0⟩
/-- RCV_WIN.RCV_WIN of BOOT, RW. -/
abbrev F.RCV_WIN : Fld := ⟨.boot, 0x400, 0, 32, 4⟩
/-- DBG_STATUS.LEVEL of DEBUG, RO. -/
abbrev F.DBG_STATUS_LEVEL : Fld := ⟨.debug, 0x300, 0, 2, 0⟩
/-- DBG_STATUS.GRANTS of DEBUG, RO. -/
abbrev F.DBG_STATUS_GRANTS : Fld := ⟨.debug, 0x300, 2, 3, 0⟩
/-- DBG_STATUS.RESULT of DEBUG, RO. -/
abbrev F.DBG_STATUS_RESULT : Fld := ⟨.debug, 0x300, 8, 4, 0⟩
/-- DBG_STATUS.LEFT_S of DEBUG, RO. -/
abbrev F.DBG_STATUS_LEFT_S : Fld := ⟨.debug, 0x300, 16, 16, 0⟩
/-- DBG_CTRL.OBSERVE of DEBUG, RWL. -/
abbrev F.DBG_CTRL_OBSERVE : Fld := ⟨.debug, 0x304, 0, 1, 0⟩
/-- DBG_CTRL.OPEN_OBSERVE of DEBUG, W1S. -/
abbrev F.DBG_CTRL_OPEN_OBSERVE : Fld := ⟨.debug, 0x304, 1, 1, 0⟩
/-- DBG_CTRL.OPEN_FULL of DEBUG, W1S. -/
abbrev F.DBG_CTRL_OPEN_FULL : Fld := ⟨.debug, 0x304, 2, 1, 0⟩
/-- DBG_CTRL.CERT_GO of DEBUG, W1S. -/
abbrev F.DBG_CTRL_CERT_GO : Fld := ⟨.debug, 0x304, 3, 1, 0⟩
/-- DBG_CTRL.END of DEBUG, W1S. -/
abbrev F.DBG_CTRL_END : Fld := ⟨.debug, 0x304, 4, 1, 0⟩
/-- DBG_CHAL.DBG_CHAL of DEBUG, RO. -/
abbrev F.DBG_CHAL : Fld := ⟨.debug, 0x320, 0, 32, 4⟩
/-- DBG_CERT.DBG_CERT of DEBUG, WO. -/
abbrev F.DBG_CERT : Fld := ⟨.debug, 0x400, 0, 32, 4⟩
/-- HG_CFG.ESTOP_CLASS of HEADGATE, RWL. -/
abbrev F.HG_CFG_ESTOP_CLASS : Fld := ⟨.headgate, 0x300, 0, 2, 0⟩
/-- HG_CFG.SITE_TX of HEADGATE, RWL. -/
abbrev F.HG_CFG_SITE_TX : Fld := ⟨.headgate, 0x300, 4, 3, 0⟩
/-- HG_CFG.SITE_RX of HEADGATE, RWL. -/
abbrev F.HG_CFG_SITE_RX : Fld := ⟨.headgate, 0x300, 7, 1, 0⟩
/-- HG_CFG.OUT_CLASS of HEADGATE, RWL. -/
abbrev F.HG_CFG_OUT_CLASS : Fld := ⟨.headgate, 0x300, 8, 3, 0⟩
/-- HG_CFG.OUT_PULSE_EN of HEADGATE, RWL. -/
abbrev F.HG_CFG_OUT_PULSE_EN : Fld := ⟨.headgate, 0x300, 11, 1, 0⟩
/-- HG_CFG.STOP_RATE of HEADGATE, RWL. -/
abbrev F.HG_CFG_STOP_RATE : Fld := ⟨.headgate, 0x300, 12, 3, 0⟩
/-- HG_CFG.IN_TP_MAX of HEADGATE, RWL. -/
abbrev F.HG_CFG_IN_TP_MAX : Fld := ⟨.headgate, 0x300, 16, 10, 0⟩
/-- HG_STATE.CLASS of HEADGATE, RO. -/
abbrev F.HG_STATE_CLASS : Fld := ⟨.headgate, 0x304, 0, 2, 0⟩
/-- HG_STATE.REASON of HEADGATE, RO. -/
abbrev F.HG_STATE_REASON : Fld := ⟨.headgate, 0x304, 2, 6, 0⟩
/-- HG_STATE.STOP_SEQ of HEADGATE, RO. -/
abbrev F.HG_STATE_STOP_SEQ : Fld := ⟨.headgate, 0x304, 8, 8, 0⟩
/-- HG_STATE.ARMED of HEADGATE, RO. -/
abbrev F.HG_STATE_ARMED : Fld := ⟨.headgate, 0x304, 16, 1, 0⟩
/-- HG_STATE.BURST of HEADGATE, RO. -/
abbrev F.HG_STATE_BURST : Fld := ⟨.headgate, 0x304, 17, 1, 0⟩
/-- HG_STATE.HG_BEACON of HEADGATE, RO. -/
abbrev F.HG_STATE_HG_BEACON : Fld := ⟨.headgate, 0x304, 18, 1, 0⟩
/-- HG_STATE.KEY_OK of HEADGATE, RO. -/
abbrev F.HG_STATE_KEY_OK : Fld := ⟨.headgate, 0x304, 19, 1, 0⟩
/-- HG_STATE.GATE_FAULT of HEADGATE, RO. -/
abbrev F.HG_STATE_GATE_FAULT : Fld := ⟨.headgate, 0x304, 20, 1, 0⟩
/-- HG_STATE.PORTS of HEADGATE, RO. -/
abbrev F.HG_STATE_PORTS : Fld := ⟨.headgate, 0x304, 24, 4, 0⟩
/-- CAUSES.HELD of HEADGATE, RO. -/
abbrev F.CAUSES_HELD : Fld := ⟨.headgate, 0x308, 1, 12, 0⟩
/-- PINS.RAW of HEADGATE, RO. -/
abbrev F.PINS_RAW : Fld := ⟨.headgate, 0x30C, 0, 3, 0⟩
/-- PINS.FILTERED of HEADGATE, RO. -/
abbrev F.PINS_FILTERED : Fld := ⟨.headgate, 0x30C, 4, 3, 0⟩
/-- PINS.OUT_RB of HEADGATE, RO. -/
abbrev F.PINS_OUT_RB : Fld := ⟨.headgate, 0x30C, 8, 2, 0⟩
/-- STOP_REQ.REQ of HEADGATE, W1S. -/
abbrev F.STOP_REQ_REQ : Fld := ⟨.headgate, 0x310, 0, 3, 0⟩
/-- RESUME.OP of HEADGATE, RWL. -/
abbrev F.RESUME_OP : Fld := ⟨.headgate, 0x314, 0, 2, 0⟩
/-- RESUME.TAG of HEADGATE, RWL. -/
abbrev F.RESUME_TAG : Fld := ⟨.headgate, 0x314, 8, 8, 0⟩
/-- RESUME_STATUS.RESULT of HEADGATE, RO. -/
abbrev F.RESUME_STATUS_RESULT : Fld := ⟨.headgate, 0x318, 0, 4, 0⟩
/-- RESUME_STATUS.ARM_TAG of HEADGATE, RO. -/
abbrev F.RESUME_STATUS_ARM_TAG : Fld := ⟨.headgate, 0x318, 8, 8, 0⟩
/-- RESUME_STATUS.ARM_LEFT of HEADGATE, RO. -/
abbrev F.RESUME_STATUS_ARM_LEFT : Fld := ⟨.headgate, 0x318, 16, 16, 0⟩
/-- LAST_STOP.LAST of HEADGATE, RO. -/
abbrev F.LAST_STOP_LAST : Fld := ⟨.headgate, 0x31C, 0, 16, 0⟩
/-- LAST_STOP.WORST of HEADGATE, RO. -/
abbrev F.LAST_STOP_WORST : Fld := ⟨.headgate, 0x31C, 16, 16, 0⟩
/-- ERR_SUMMARY.ERR_SUMMARY of REGION_CTL, RO. -/
abbrev F.ERR_SUMMARY : Fld := ⟨.regionCtl, 0x300, 0, 32, 0⟩
/-- FAILED_BLOCKS.FAILED_BLOCKS of REGION_CTL, RO. -/
abbrev F.FAILED_BLOCKS : Fld := ⟨.regionCtl, 0x304, 0, 32, 0⟩
/-- IRQ_SUMMARY.IRQ_SUMMARY of REGION_CTL, RO. -/
abbrev F.IRQ_SUMMARY : Fld := ⟨.regionCtl, 0x308, 0, 32, 0⟩
/-- ARB_CAPS.NREQ of REGION_CTL, RO. -/
abbrev F.ARB_CAPS_NREQ : Fld := ⟨.regionCtl, 0x400, 0, 5, 0⟩
/-- ARB_CFG.QUOTA_WIN of REGION_CTL, RW. -/
abbrev F.ARB_CFG_QUOTA_WIN : Fld := ⟨.regionCtl, 0x404, 0, 16, 0⟩
/-- ARB_CFG.FREEZE_MAX of REGION_CTL, RW. -/
abbrev F.ARB_CFG_FREEZE_MAX : Fld := ⟨.regionCtl, 0x404, 16, 8, 0⟩
/-- ARB_CTRL.FREEZE of REGION_CTL, RW. -/
abbrev F.ARB_CTRL_FREEZE : Fld := ⟨.regionCtl, 0x408, 0, 1, 0⟩
/-- ARB_CTRL.FREEZE_HOST of REGION_CTL, RO. -/
abbrev F.ARB_CTRL_FREEZE_HOST : Fld := ⟨.regionCtl, 0x408, 1, 1, 0⟩
/-- ARB_CTRL.LW_CLR of REGION_CTL, WO. -/
abbrev F.ARB_CTRL_LW_CLR : Fld := ⟨.regionCtl, 0x408, 8, 5, 0⟩
/-- ARB_CTRL.LW_GO of REGION_CTL, WO. -/
abbrev F.ARB_CTRL_LW_GO : Fld := ⟨.regionCtl, 0x408, 13, 1, 0⟩
/-- ARB_STATUS.OWNER of REGION_CTL, RO. -/
abbrev F.ARB_STATUS_OWNER : Fld := ⟨.regionCtl, 0x40C, 0, 5, 0⟩
/-- ARB_STATUS.ACTIVE of REGION_CTL, RO. -/
abbrev F.ARB_STATUS_ACTIVE : Fld := ⟨.regionCtl, 0x40C, 5, 1, 0⟩
/-- ARB_STATUS.DRAINED of REGION_CTL, RO. -/
abbrev F.ARB_STATUS_DRAINED : Fld := ⟨.regionCtl, 0x40C, 6, 1, 0⟩
/-- ARB_STATUS.PENDING of REGION_CTL, RO. -/
abbrev F.ARB_STATUS_PENDING : Fld := ⟨.regionCtl, 0x40C, 8, 8, 0⟩
/-- MASKED.MASKED of REGION_CTL, RO. -/
abbrev F.MASKED : Fld := ⟨.regionCtl, 0x410, 0, 32, 0⟩
/-- ARB_REQ.BURST of REGION_CTL, RW. -/
abbrev F.ARB_REQ_BURST : Fld := ⟨.regionCtl, 0x500, 0, 9, 4⟩
/-- ARB_REQ.PRIO of REGION_CTL, RW. -/
abbrev F.ARB_REQ_PRIO : Fld := ⟨.regionCtl, 0x500, 9, 1, 4⟩
/-- ARB_REQ.QUOTA of REGION_CTL, RW. -/
abbrev F.ARB_REQ_QUOTA : Fld := ⟨.regionCtl, 0x500, 16, 8, 4⟩

/-- Corrected errors of a page (R42). -/
abbrev C.CORR_COUNT : Ctr := ⟨.info, 0x040⟩
/-- Contained errors of a page (R42). -/
abbrev C.CONT_COUNT : Ctr := ⟨.info, 0x048⟩
/-- Counter SCRUB_PASSES of DRAM. -/
abbrev C.DRAM_SCRUB_PASSES : Ctr := ⟨.dram, 0x050⟩
/-- Counter UNCORR_READS of DRAM. -/
abbrev C.DRAM_UNCORR_READS : Ctr := ⟨.dram, 0x058⟩
/-- Counter CFG_REFUSED of DRAM. -/
abbrev C.DRAM_CFG_REFUSED : Ctr := ⟨.dram, 0x060⟩
/-- Counter UNMAPPED of FAULT. -/
abbrev C.FAULT_UNMAPPED : Ctr := ⟨.fault, 0x050⟩
/-- Counter REFUSED_RWL of FAULT. -/
abbrev C.FAULT_REFUSED_RWL : Ctr := ⟨.fault, 0x058⟩
/-- Counter LEVEL_FALLS of FAULT. -/
abbrev C.FAULT_LEVEL_FALLS : Ctr := ⟨.fault, 0x060⟩
/-- Counter HANDOVERS of FAULT. -/
abbrev C.FAULT_HANDOVERS : Ctr := ⟨.fault, 0x068⟩
/-- Counter SLIP_COUNT of GNSS_TRK. -/
abbrev C.GNSS_TRK_SLIP_COUNT : Ctr := ⟨.gnssTrk, 0x050⟩
/-- Counter LOSS_COUNT of GNSS_TRK. -/
abbrev C.GNSS_TRK_LOSS_COUNT : Ctr := ⟨.gnssTrk, 0x058⟩
/-- Counter TXTS_DROP0 of TIME. -/
abbrev C.TIME_TXTS_DROP0 : Ctr := ⟨.time, 0x050⟩
/-- Counter TXTS_DROP1 of TIME. -/
abbrev C.TIME_TXTS_DROP1 : Ctr := ⟨.time, 0x058⟩
/-- Counter JUMP_REFUSED of TIME. -/
abbrev C.TIME_JUMP_REFUSED : Ctr := ⟨.time, 0x060⟩
/-- Counter STEPS of TIME. -/
abbrev C.TIME_STEPS : Ctr := ⟨.time, 0x068⟩
/-- Counter ACCEPTED of OBS_IN. -/
abbrev C.OBS_IN_ACCEPTED : Ctr := ⟨.obsIn, 0x050⟩
/-- Counter MALFORMED of OBS_IN. -/
abbrev C.OBS_IN_MALFORMED : Ctr := ⟨.obsIn, 0x058⟩
/-- Counter EARLY of OBS_IN. -/
abbrev C.OBS_IN_EARLY : Ctr := ⟨.obsIn, 0x060⟩
/-- Counter LATE_OBS of OBS_IN. -/
abbrev C.OBS_IN_LATE_OBS : Ctr := ⟨.obsIn, 0x068⟩
/-- Counter STALE of OBS_IN. -/
abbrev C.OBS_IN_STALE : Ctr := ⟨.obsIn, 0x070⟩
/-- Counter MISALIGNED of OBS_IN. -/
abbrev C.OBS_IN_MISALIGNED : Ctr := ⟨.obsIn, 0x078⟩
/-- Counter OFFSET of OBS_IN. -/
abbrev C.OBS_IN_OFFSET : Ctr := ⟨.obsIn, 0x080⟩
/-- Counter NO_BASE of OBS_IN. -/
abbrev C.OBS_IN_NO_BASE : Ctr := ⟨.obsIn, 0x088⟩
/-- Counter NOT_ENABLED of OBS_IN. -/
abbrev C.OBS_IN_NOT_ENABLED : Ctr := ⟨.obsIn, 0x090⟩
/-- Counter STEP_DISCARD of OBS_IN. -/
abbrev C.OBS_IN_STEP_DISCARD : Ctr := ⟨.obsIn, 0x098⟩
/-- Counter QUEUE_DROP of OBS_IN. -/
abbrev C.OBS_IN_QUEUE_DROP : Ctr := ⟨.obsIn, 0x0A0⟩
/-- Counter SHED_DROP of OBS_IN. -/
abbrev C.OBS_IN_SHED_DROP : Ctr := ⟨.obsIn, 0x0A8⟩
/-- Counter LEVEL_DISCARD of OBS_IN. -/
abbrev C.OBS_IN_LEVEL_DISCARD : Ctr := ⟨.obsIn, 0x0B0⟩
/-- Counter SOLVED of SOLVER. -/
abbrev C.SOLVER_SOLVED : Ctr := ⟨.solver, 0x050⟩
/-- Counter BUSY_CYCLES of SOLVER. -/
abbrev C.SOLVER_BUSY_CYCLES : Ctr := ⟨.solver, 0x058⟩
/-- Counter WATCHDOG of SOLVER. -/
abbrev C.SOLVER_WATCHDOG : Ctr := ⟨.solver, 0x060⟩
/-- Counter FIXES of RTK_CTRL. -/
abbrev C.RTK_CTRL_FIXES : Ctr := ⟨.rtkCtrl, 0x050⟩
/-- Counter DEADLINE_DROP of RTK_CTRL. -/
abbrev C.RTK_CTRL_DEADLINE_DROP : Ctr := ⟨.rtkCtrl, 0x058⟩
/-- Counter LATE_FIX of RTK_CTRL. -/
abbrev C.RTK_CTRL_LATE_FIX : Ctr := ⟨.rtkCtrl, 0x060⟩
/-- Counter REQUEUED of RTK_CTRL. -/
abbrev C.RTK_CTRL_REQUEUED : Ctr := ⟨.rtkCtrl, 0x068⟩
/-- Counter AR_ACCEPT of RTK_CTRL. -/
abbrev C.RTK_CTRL_AR_ACCEPT : Ctr := ⟨.rtkCtrl, 0x070⟩
/-- Counter AR_REJECT of RTK_CTRL. -/
abbrev C.RTK_CTRL_AR_REJECT : Ctr := ⟨.rtkCtrl, 0x078⟩
/-- Counter RAIM_EXCL of RTK_CTRL. -/
abbrev C.RTK_CTRL_RAIM_EXCL : Ctr := ⟨.rtkCtrl, 0x080⟩
/-- Counter RAIM_FAIL of RTK_CTRL. -/
abbrev C.RTK_CTRL_RAIM_FAIL : Ctr := ⟨.rtkCtrl, 0x088⟩
/-- Counter DISAGREE_SET of RTK_CTRL. -/
abbrev C.RTK_CTRL_DISAGREE_SET : Ctr := ⟨.rtkCtrl, 0x090⟩
/-- Counter BASE_GAP of RTK_CTRL. -/
abbrev C.RTK_CTRL_BASE_GAP : Ctr := ⟨.rtkCtrl, 0x098⟩
/-- Counter OWN_FIX_STALE of RTK_CTRL. -/
abbrev C.RTK_CTRL_OWN_FIX_STALE : Ctr := ⟨.rtkCtrl, 0x0A0⟩
/-- Counter EPOCHS_BUILT of CORR_OUT. -/
abbrev C.CORR_OUT_EPOCHS_BUILT : Ctr := ⟨.corrOut, 0x050⟩
/-- Counter EPOCHS_SUPERSEDED of CORR_OUT. -/
abbrev C.CORR_OUT_EPOCHS_SUPERSEDED : Ctr := ⟨.corrOut, 0x058⟩
/-- Counter EPOCHS_AGED of CORR_OUT. -/
abbrev C.CORR_OUT_EPOCHS_AGED : Ctr := ⟨.corrOut, 0x060⟩
/-- Counter BYTES_AIR of CORR_OUT. -/
abbrev C.CORR_OUT_BYTES_AIR : Ctr := ⟨.corrOut, 0x068⟩
/-- Counter SKIPPED_TQ of CORR_OUT. -/
abbrev C.CORR_OUT_SKIPPED_TQ : Ctr := ⟨.corrOut, 0x070⟩
/-- Counter PPDU_TX of AIRPORT. -/
abbrev C.AIRPORT_PPDU_TX : Ctr := ⟨.airport, 0x050⟩
/-- Counter PPDU_RX of AIRPORT. -/
abbrev C.AIRPORT_PPDU_RX : Ctr := ⟨.airport, 0x058⟩
/-- Counter RX_BAD_SIGNAL of AIRPORT. -/
abbrev C.AIRPORT_RX_BAD_SIGNAL : Ctr := ⟨.airport, 0x060⟩
/-- Counter RX_LEN_DROP of AIRPORT. -/
abbrev C.AIRPORT_RX_LEN_DROP : Ctr := ⟨.airport, 0x068⟩
/-- Counter FRAMING_LOSS of AIRPORT. -/
abbrev C.AIRPORT_FRAMING_LOSS : Ctr := ⟨.airport, 0x070⟩
/-- Counter HEALTH_FAIL of AIRPORT. -/
abbrev C.AIRPORT_HEALTH_FAIL : Ctr := ⟨.airport, 0x078⟩
/-- Counter EN_REFUSED of AIRPORT. -/
abbrev C.AIRPORT_EN_REFUSED : Ctr := ⟨.airport, 0x080⟩
/-- Counter CFG_REFUSED of AIRPORT. -/
abbrev C.AIRPORT_CFG_REFUSED : Ctr := ⟨.airport, 0x088⟩
/-- Counter OVR_COUNT of AIRPORT. -/
abbrev C.AIRPORT_OVR_COUNT : Ctr := ⟨.airport, 0x090⟩
/-- Counter BEACONS of SLUICE. -/
abbrev C.SLUICE_BEACONS : Ctr := ⟨.sluice, 0x050⟩
/-- Counter UP_RX of SLUICE. -/
abbrev C.SLUICE_UP_RX : Ctr := ⟨.sluice, 0x058⟩
/-- Counter ACK_TX of SLUICE. -/
abbrev C.SLUICE_ACK_TX : Ctr := ⟨.sluice, 0x060⟩
/-- Counter DUP of SLUICE. -/
abbrev C.SLUICE_DUP : Ctr := ⟨.sluice, 0x068⟩
/-- Counter REPLAY of SLUICE. -/
abbrev C.SLUICE_REPLAY : Ctr := ⟨.sluice, 0x070⟩
/-- Counter MIC_FAIL of SLUICE. -/
abbrev C.SLUICE_MIC_FAIL : Ctr := ⟨.sluice, 0x078⟩
/-- Counter TIMING_DROP of SLUICE. -/
abbrev C.SLUICE_TIMING_DROP : Ctr := ⟨.sluice, 0x080⟩
/-- Counter ACK_MISS of SLUICE. -/
abbrev C.SLUICE_ACK_MISS : Ctr := ⟨.sluice, 0x088⟩
/-- Counter JOIN_RX of SLUICE. -/
abbrev C.SLUICE_JOIN_RX : Ctr := ⟨.sluice, 0x090⟩
/-- Counter CORR_TOO_BIG of SLUICE. -/
abbrev C.SLUICE_CORR_TOO_BIG : Ctr := ⟨.sluice, 0x098⟩
/-- Counter RX_DISCARD of SLUICE. -/
abbrev C.SLUICE_RX_DISCARD : Ctr := ⟨.sluice, 0x0A0⟩
/-- Counter SLOTS_PREEMPTED of SLUICE. -/
abbrev C.SLUICE_SLOTS_PREEMPTED : Ctr := ⟨.sluice, 0x0A8⟩
/-- Counter CFG_REFUSED of SLUICE. -/
abbrev C.SLUICE_CFG_REFUSED : Ctr := ⟨.sluice, 0x0B0⟩
/-- Counter LOOKUPS of ROUTE. -/
abbrev C.ROUTE_LOOKUPS : Ctr := ⟨.route, 0x050⟩
/-- Counter HITS of ROUTE. -/
abbrev C.ROUTE_HITS : Ctr := ⟨.route, 0x058⟩
/-- Counter NO_ROUTE of ROUTE. -/
abbrev C.ROUTE_NO_ROUTE : Ctr := ⟨.route, 0x060⟩
/-- Counter AGED of ROUTE. -/
abbrev C.ROUTE_AGED : Ctr := ⟨.route, 0x068⟩
/-- Counter LEARN_RX of ROUTE. -/
abbrev C.ROUTE_LEARN_RX : Ctr := ⟨.route, 0x070⟩
/-- Counter LEARN_TX of ROUTE. -/
abbrev C.ROUTE_LEARN_TX : Ctr := ⟨.route, 0x078⟩
/-- Counter LEARN_NO_ROOM of ROUTE. -/
abbrev C.ROUTE_LEARN_NO_ROOM : Ctr := ⟨.route, 0x080⟩
/-- Counter SHADOW_MISMATCH of ROUTE. -/
abbrev C.ROUTE_SHADOW_MISMATCH : Ctr := ⟨.route, 0x088⟩
/-- Counter SHADOW_REPAIR of ROUTE. -/
abbrev C.ROUTE_SHADOW_REPAIR : Ctr := ⟨.route, 0x090⟩
/-- Counter FOREIGN of ROUTE. -/
abbrev C.ROUTE_FOREIGN : Ctr := ⟨.route, 0x098⟩
/-- Counter CFG_REFUSED of ROUTE. -/
abbrev C.ROUTE_CFG_REFUSED : Ctr := ⟨.route, 0x0A0⟩
/-- Counter FLOOD_RX of FLOOD. -/
abbrev C.FLOOD_FLOOD_RX : Ctr := ⟨.flood, 0x050⟩
/-- Counter FLOOD_DUP of FLOOD. -/
abbrev C.FLOOD_FLOOD_DUP : Ctr := ⟨.flood, 0x058⟩
/-- Counter SEEN_EVICT of FLOOD. -/
abbrev C.FLOOD_SEEN_EVICT : Ctr := ⟨.flood, 0x060⟩
/-- Counter FLOOD_TX of FLOOD. -/
abbrev C.FLOOD_FLOOD_TX : Ctr := ⟨.flood, 0x068⟩
/-- Counter WRITE_REFUSED of GRAPH. -/
abbrev C.GRAPH_WRITE_REFUSED : Ctr := ⟨.graph, 0x050⟩
/-- Counter GRANTS of LEASE. -/
abbrev C.LEASE_GRANTS : Ctr := ⟨.lease, 0x050⟩
/-- Counter REFUSALS of LEASE. -/
abbrev C.LEASE_REFUSALS : Ctr := ⟨.lease, 0x058⟩
/-- Counter EXPIRED of LEASE. -/
abbrev C.LEASE_EXPIRED : Ctr := ⟨.lease, 0x060⟩
/-- Counter OVERSTAY_COUNT of LEASE. -/
abbrev C.LEASE_OVERSTAY_COUNT : Ctr := ⟨.lease, 0x068⟩
/-- Counter PREPARE_RX of LEASE. -/
abbrev C.LEASE_PREPARE_RX : Ctr := ⟨.lease, 0x070⟩
/-- Counter XFER_ABORT of LEASE. -/
abbrev C.LEASE_XFER_ABORT : Ctr := ⟨.lease, 0x078⟩
/-- Counter XFER_LOST of LEASE. -/
abbrev C.LEASE_XFER_LOST : Ctr := ⟨.lease, 0x080⟩
/-- Counter BUILD_TIMEOUT of LEASE. -/
abbrev C.LEASE_BUILD_TIMEOUT : Ctr := ⟨.lease, 0x088⟩
/-- Counter CFG_REFUSED of LEASE. -/
abbrev C.LEASE_CFG_REFUSED : Ctr := ⟨.lease, 0x090⟩
/-- Counter JOINS of REGISTRY. -/
abbrev C.REGISTRY_JOINS : Ctr := ⟨.registry, 0x050⟩
/-- Counter REJOINS of REGISTRY. -/
abbrev C.REGISTRY_REJOINS : Ctr := ⟨.registry, 0x058⟩
/-- Counter DEPARTS of REGISTRY. -/
abbrev C.REGISTRY_DEPARTS : Ctr := ⟨.registry, 0x060⟩
/-- Counter HOLDS of REGISTRY. -/
abbrev C.REGISTRY_HOLDS : Ctr := ⟨.registry, 0x068⟩
/-- Counter RELEASES of REGISTRY. -/
abbrev C.REGISTRY_RELEASES : Ctr := ⟨.registry, 0x070⟩
/-- Counter RELEASE_REFUSED of REGISTRY. -/
abbrev C.REGISTRY_RELEASE_REFUSED : Ctr := ⟨.registry, 0x078⟩
/-- Counter BREACHES of REGISTRY. -/
abbrev C.REGISTRY_BREACHES : Ctr := ⟨.registry, 0x080⟩
/-- Counter CFG_REFUSED of REGISTRY. -/
abbrev C.REGISTRY_CFG_REFUSED : Ctr := ⟨.registry, 0x088⟩
/-- Counter FORFEITS of TURNOUT. -/
abbrev C.TURNOUT_FORFEITS : Ctr := ⟨.turnout, 0x050⟩
/-- Counter ORPHANS_SET of TURNOUT. -/
abbrev C.TURNOUT_ORPHANS_SET : Ctr := ⟨.turnout, 0x058⟩
/-- Counter ORPHANS_CLEARED of TURNOUT. -/
abbrev C.TURNOUT_ORPHANS_CLEARED : Ctr := ⟨.turnout, 0x060⟩
/-- Counter SEQ_COMMITS of TURNOUT. -/
abbrev C.TURNOUT_SEQ_COMMITS : Ctr := ⟨.turnout, 0x068⟩
/-- Counter SEQ_INVALID of TURNOUT. -/
abbrev C.TURNOUT_SEQ_INVALID : Ctr := ⟨.turnout, 0x070⟩
/-- Counter SEQ_TIMEOUTS of TURNOUT. -/
abbrev C.TURNOUT_SEQ_TIMEOUTS : Ctr := ⟨.turnout, 0x078⟩
/-- Counter SEQ_FORFEITS of TURNOUT. -/
abbrev C.TURNOUT_SEQ_FORFEITS : Ctr := ⟨.turnout, 0x080⟩
/-- Counter CFG_REFUSED of TURNOUT. -/
abbrev C.TURNOUT_CFG_REFUSED : Ctr := ⟨.turnout, 0x088⟩
/-- Counter MOVES_ADDED of MOTION. -/
abbrev C.MOTION_MOVES_ADDED : Ctr := ⟨.motion, 0x050⟩
/-- Counter MOVES_DONE of MOTION. -/
abbrev C.MOTION_MOVES_DONE : Ctr := ⟨.motion, 0x058⟩
/-- Counter MOVES_TRUNCATED of MOTION. -/
abbrev C.MOTION_MOVES_TRUNCATED : Ctr := ⟨.motion, 0x060⟩
/-- Counter RELEASE_OVERRUN of MOTION. -/
abbrev C.MOTION_RELEASE_OVERRUN : Ctr := ⟨.motion, 0x068⟩
/-- Counter ENTRIES_BUILT of MOTION. -/
abbrev C.MOTION_ENTRIES_BUILT : Ctr := ⟨.motion, 0x070⟩
/-- Counter ENTRIES_ABSENT of MOTION. -/
abbrev C.MOTION_ENTRIES_ABSENT : Ctr := ⟨.motion, 0x078⟩
/-- Counter CFG_REFUSED of MOTION. -/
abbrev C.MOTION_CFG_REFUSED : Ctr := ⟨.motion, 0x080⟩
/-- Counter STOPS of HEADGATE. -/
abbrev C.HEADGATE_STOPS : Ctr := ⟨.headgate, 0x050⟩
/-- Counter FRAMES_TX of HEADGATE. -/
abbrev C.HEADGATE_FRAMES_TX : Ctr := ⟨.headgate, 0x058⟩
/-- Counter BEACONS_TX of HEADGATE. -/
abbrev C.HEADGATE_BEACONS_TX : Ctr := ⟨.headgate, 0x060⟩
/-- Counter ENGINE_LATE of HEADGATE. -/
abbrev C.HEADGATE_ENGINE_LATE : Ctr := ⟨.headgate, 0x068⟩
/-- Counter REMOTE_RX of HEADGATE. -/
abbrev C.HEADGATE_REMOTE_RX : Ctr := ⟨.headgate, 0x070⟩
/-- Counter DISCREPANCIES of HEADGATE. -/
abbrev C.HEADGATE_DISCREPANCIES : Ctr := ⟨.headgate, 0x078⟩
/-- Counter RESUMES of HEADGATE. -/
abbrev C.HEADGATE_RESUMES : Ctr := ⟨.headgate, 0x080⟩
/-- Counter RESUME_REFUSED of HEADGATE. -/
abbrev C.HEADGATE_RESUME_REFUSED : Ctr := ⟨.headgate, 0x088⟩
/-- Counter NO_KEY of HEADGATE. -/
abbrev C.HEADGATE_NO_KEY : Ctr := ⟨.headgate, 0x090⟩
/-- Counter SELFTEST_RUNS of HEADGATE. -/
abbrev C.HEADGATE_SELFTEST_RUNS : Ctr := ⟨.headgate, 0x098⟩
/-- Counter ENQUEUED of DISPATCH. -/
abbrev C.DISPATCH_ENQUEUED : Ctr := ⟨.dispatch, 0x050⟩
/-- Counter RELEASED of DISPATCH. -/
abbrev C.DISPATCH_RELEASED : Ctr := ⟨.dispatch, 0x058⟩
/-- Counter PREEMPTS of DISPATCH. -/
abbrev C.DISPATCH_PREEMPTS : Ctr := ⟨.dispatch, 0x060⟩
/-- Counter ABORTS of DISPATCH. -/
abbrev C.DISPATCH_ABORTS : Ctr := ⟨.dispatch, 0x068⟩
/-- Counter REQUEUED of DISPATCH. -/
abbrev C.DISPATCH_REQUEUED : Ctr := ⟨.dispatch, 0x070⟩
/-- Counter RX_DROP of DISPATCH. -/
abbrev C.DISPATCH_RX_DROP : Ctr := ⟨.dispatch, 0x078⟩
/-- Counter FLOW_OFF of DISPATCH. -/
abbrev C.DISPATCH_FLOW_OFF : Ctr := ⟨.dispatch, 0x080⟩
/-- Counter CLASS_DROP of DISPATCH. -/
abbrev C.DISPATCH_CLASS_DROP : Ctr := ⟨.dispatch, 0x088⟩
/-- Counter TIMER_SKIP of DISPATCH. -/
abbrev C.DISPATCH_TIMER_SKIP : Ctr := ⟨.dispatch, 0x090⟩
/-- Counter CFG_REFUSED of DISPATCH. -/
abbrev C.DISPATCH_CFG_REFUSED : Ctr := ⟨.dispatch, 0x098⟩
/-- Counter ITEMS_DONE of CORE. -/
abbrev C.CORE_ITEMS_DONE : Ctr := ⟨.core, 0x050⟩
/-- Counter ABORTS of CORE. -/
abbrev C.CORE_ABORTS : Ctr := ⟨.core, 0x058⟩
/-- Counter PREEMPTED of CORE. -/
abbrev C.CORE_PREEMPTED : Ctr := ⟨.core, 0x060⟩
/-- Counter BUSY_CYCLES of CORE. -/
abbrev C.CORE_BUSY_CYCLES : Ctr := ⟨.core, 0x068⟩
/-- Counter ACCESS_FAULT of CORE. -/
abbrev C.CORE_ACCESS_FAULT : Ctr := ⟨.core, 0x070⟩
/-- Counter CREATED of TASKBOARD. -/
abbrev C.TASKBOARD_CREATED : Ctr := ⟨.taskboard, 0x050⟩
/-- Counter CLAIMS of TASKBOARD. -/
abbrev C.TASKBOARD_CLAIMS : Ctr := ⟨.taskboard, 0x058⟩
/-- Counter CLAIMS_REFUSED of TASKBOARD. -/
abbrev C.TASKBOARD_CLAIMS_REFUSED : Ctr := ⟨.taskboard, 0x060⟩
/-- Counter DONE of TASKBOARD. -/
abbrev C.TASKBOARD_DONE : Ctr := ⟨.taskboard, 0x068⟩
/-- Counter FAILED of TASKBOARD. -/
abbrev C.TASKBOARD_FAILED : Ctr := ⟨.taskboard, 0x070⟩
/-- Counter LAPSED of TASKBOARD. -/
abbrev C.TASKBOARD_LAPSED : Ctr := ⟨.taskboard, 0x078⟩
/-- Counter DEAD_CYCLES of REGION_CTL. -/
abbrev C.REGION_CTL_DEAD_CYCLES : Ctr := ⟨.regionCtl, 0x050⟩
/-- Counter FREEZE_TIMEOUTS of REGION_CTL. -/
abbrev C.REGION_CTL_FREEZE_TIMEOUTS : Ctr := ⟨.regionCtl, 0x058⟩
/-- Counter BRIDGE_ISO of REGION_CTL. -/
abbrev C.REGION_CTL_BRIDGE_ISO : Ctr := ⟨.regionCtl, 0x060⟩
/-- Counter PEND_FULL of REGION_CTL. -/
abbrev C.REGION_CTL_PEND_FULL : Ctr := ⟨.regionCtl, 0x068⟩
/-- Counter CFG_REFUSED of REGION_CTL. -/
abbrev C.REGION_CTL_CFG_REFUSED : Ctr := ⟨.regionCtl, 0x070⟩
/-- Counter LINK_DOWNS of PCIE. -/
abbrev C.PCIE_LINK_DOWNS : Ctr := ⟨.pcie, 0x050⟩
/-- Counter FLRS of PCIE. -/
abbrev C.PCIE_FLRS : Ctr := ⟨.pcie, 0x058⟩
/-- Counter POISONED of PCIE. -/
abbrev C.PCIE_POISONED : Ctr := ⟨.pcie, 0x060⟩
/-- Counter MSIX_SENT of PCIE. -/
abbrev C.PCIE_MSIX_SENT : Ctr := ⟨.pcie, 0x068⟩
/-- Counter BAD_FRAME of FLUME. -/
abbrev C.FLUME_BAD_FRAME : Ctr := ⟨.flume, 0x050⟩
/-- Counter MALFORMED of FLUME. -/
abbrev C.FLUME_MALFORMED : Ctr := ⟨.flume, 0x058⟩
/-- Counter STALE_SESSION of FLUME. -/
abbrev C.FLUME_STALE_SESSION : Ctr := ⟨.flume, 0x060⟩
/-- Counter NO_ZONE of FLUME. -/
abbrev C.FLUME_NO_ZONE : Ctr := ⟨.flume, 0x068⟩
/-- Counter FRAMES_TX of FLUME. -/
abbrev C.FLUME_FRAMES_TX : Ctr := ⟨.flume, 0x070⟩
/-- Counter FRAMES_RX of FLUME. -/
abbrev C.FLUME_FRAMES_RX : Ctr := ⟨.flume, 0x078⟩
/-- Counter CFG_REFUSED of FLUME. -/
abbrev C.FLUME_CFG_REFUSED : Ctr := ⟨.flume, 0x080⟩
/-- Counter FRAMES_RX of ETH. -/
abbrev C.ETH_FRAMES_RX : Ctr := ⟨.eth, 0x050⟩
/-- Counter FRAMES_TX of ETH. -/
abbrev C.ETH_FRAMES_TX : Ctr := ⟨.eth, 0x058⟩
/-- Counter FCS_ERR of ETH. -/
abbrev C.ETH_FCS_ERR : Ctr := ⟨.eth, 0x060⟩
/-- Counter PFC_RX of ETH. -/
abbrev C.ETH_PFC_RX : Ctr := ⟨.eth, 0x068⟩
/-- Counter PFC_TX of ETH. -/
abbrev C.ETH_PFC_TX : Ctr := ⟨.eth, 0x070⟩
/-- Counter RX_DISCARD of ETH. -/
abbrev C.ETH_RX_DISCARD : Ctr := ⟨.eth, 0x078⟩
/-- Counter RX_NO_BUF of ETH. -/
abbrev C.ETH_RX_NO_BUF : Ctr := ⟨.eth, 0x080⟩
/-- Counter LINK_DOWNS of ETH. -/
abbrev C.ETH_LINK_DOWNS : Ctr := ⟨.eth, 0x088⟩
/-- Counter CFG_REFUSED of ETH. -/
abbrev C.ETH_CFG_REFUSED : Ctr := ⟨.eth, 0x090⟩
/-- Counter FLITS_TX of CANAL. -/
abbrev C.CANAL_FLITS_TX : Ctr := ⟨.canal, 0x050⟩
/-- Counter FLITS_RX of CANAL. -/
abbrev C.CANAL_FLITS_RX : Ctr := ⟨.canal, 0x058⟩
/-- Counter CRC_ERR of CANAL. -/
abbrev C.CANAL_CRC_ERR : Ctr := ⟨.canal, 0x060⟩
/-- Counter REPLAYS of CANAL. -/
abbrev C.CANAL_REPLAYS : Ctr := ⟨.canal, 0x068⟩
/-- Counter LINK_DOWNS of CANAL. -/
abbrev C.CANAL_LINK_DOWNS : Ctr := ⟨.canal, 0x070⟩
/-- Counter TRAIN_FAIL of CANAL. -/
abbrev C.CANAL_TRAIN_FAIL : Ctr := ⟨.canal, 0x078⟩
/-- Counter SITE_REFUSED of CANAL. -/
abbrev C.CANAL_SITE_REFUSED : Ctr := ⟨.canal, 0x080⟩
/-- Counter NO_DELAY of CANAL. -/
abbrev C.CANAL_NO_DELAY : Ctr := ⟨.canal, 0x088⟩
/-- Counter DUP_DROP of CANAL. -/
abbrev C.CANAL_DUP_DROP : Ctr := ⟨.canal, 0x090⟩
/-- Counter UNROUTABLE of CANAL. -/
abbrev C.CANAL_UNROUTABLE : Ctr := ⟨.canal, 0x098⟩
/-- Counter TUN_TIMEOUTS of CANAL. -/
abbrev C.CANAL_TUN_TIMEOUTS : Ctr := ⟨.canal, 0x0A0⟩
/-- Counter TUN_WRITE_LOST of CANAL. -/
abbrev C.CANAL_TUN_WRITE_LOST : Ctr := ⟨.canal, 0x0A8⟩
/-- Counter TUN_LATE of CANAL. -/
abbrev C.CANAL_TUN_LATE : Ctr := ⟨.canal, 0x0B0⟩
/-- Counter RING_MISMATCH of CANAL. -/
abbrev C.CANAL_RING_MISMATCH : Ctr := ⟨.canal, 0x0B8⟩
/-- Counter ISLANDS of CANAL. -/
abbrev C.CANAL_ISLANDS : Ctr := ⟨.canal, 0x0C0⟩
/-- Counter CFG_REFUSED of CANAL. -/
abbrev C.CANAL_CFG_REFUSED : Ctr := ⟨.canal, 0x0C8⟩
/-- Counter FULLS of PAIR. -/
abbrev C.PAIR_FULLS : Ctr := ⟨.pair, 0x050⟩
/-- Counter DELTAS of PAIR. -/
abbrev C.PAIR_DELTAS : Ctr := ⟨.pair, 0x058⟩
/-- Counter RESYNCS of PAIR. -/
abbrev C.PAIR_RESYNCS : Ctr := ⟨.pair, 0x060⟩
/-- Counter TAKEOVERS of PAIR. -/
abbrev C.PAIR_TAKEOVERS : Ctr := ⟨.pair, 0x068⟩
/-- Counter SWITCHES of PAIR. -/
abbrev C.PAIR_SWITCHES : Ctr := ⟨.pair, 0x070⟩
/-- Counter CLAIM_CONFLICTS of PAIR. -/
abbrev C.PAIR_CLAIM_CONFLICTS : Ctr := ⟨.pair, 0x078⟩
/-- Counter PULSE_MISSES of PAIR. -/
abbrev C.PAIR_PULSE_MISSES : Ctr := ⟨.pair, 0x080⟩
/-- Counter CFG_REFUSED of PAIR. -/
abbrev C.PAIR_CFG_REFUSED : Ctr := ⟨.pair, 0x088⟩
/-- Counter RECORDS of METER. -/
abbrev C.METER_RECORDS : Ctr := ⟨.meter, 0x050⟩
/-- Counter PQ_EVENTS of METER. -/
abbrev C.METER_PQ_EVENTS : Ctr := ⟨.meter, 0x058⟩
/-- Counter SAVES of METER. -/
abbrev C.METER_SAVES : Ctr := ⟨.meter, 0x060⟩
/-- Counter SAVE_FAIL of METER. -/
abbrev C.METER_SAVE_FAIL : Ctr := ⟨.meter, 0x068⟩
/-- Counter PULSE_OVF of METER. -/
abbrev C.METER_PULSE_OVF : Ctr := ⟨.meter, 0x070⟩
/-- Counter OUTAGES of METER. -/
abbrev C.METER_OUTAGES : Ctr := ⟨.meter, 0x078⟩
/-- Counter CFG_REFUSED of METER. -/
abbrev C.METER_CFG_REFUSED : Ctr := ⟨.meter, 0x080⟩
/-- Counter OPS of KEYSTORE. -/
abbrev C.KEYSTORE_OPS : Ctr := ⟨.keystore, 0x050⟩
/-- Counter KILLED of KEYSTORE. -/
abbrev C.KEYSTORE_KILLED : Ctr := ⟨.keystore, 0x058⟩
/-- Counter REMASKS of KEYSTORE. -/
abbrev C.KEYSTORE_REMASKS : Ctr := ⟨.keystore, 0x060⟩
/-- Counter TOKENS_OK of KEYSTORE. -/
abbrev C.KEYSTORE_TOKENS_OK : Ctr := ⟨.keystore, 0x068⟩
/-- Counter TOKENS_REFUSED of KEYSTORE. -/
abbrev C.KEYSTORE_TOKENS_REFUSED : Ctr := ⟨.keystore, 0x070⟩
/-- Counter DERIVES of FRAME_SEC. -/
abbrev C.FRAME_SEC_DERIVES : Ctr := ⟨.frameSec, 0x050⟩
/-- Counter ID_MISMATCH of FRAME_SEC. -/
abbrev C.FRAME_SEC_ID_MISMATCH : Ctr := ⟨.frameSec, 0x058⟩
/-- Counter NOT_AUTH of FRAME_SEC. -/
abbrev C.FRAME_SEC_NOT_AUTH : Ctr := ⟨.frameSec, 0x060⟩
/-- Counter OLD_GEN of FRAME_SEC. -/
abbrev C.FRAME_SEC_OLD_GEN : Ctr := ⟨.frameSec, 0x068⟩
/-- Counter FCNT_LIMIT of FRAME_SEC. -/
abbrev C.FRAME_SEC_FCNT_LIMIT : Ctr := ⟨.frameSec, 0x070⟩
/-- Counter ROTATIONS of FRAME_SEC. -/
abbrev C.FRAME_SEC_ROTATIONS : Ctr := ⟨.frameSec, 0x078⟩
/-- Counter CFG_REFUSED of FRAME_SEC. -/
abbrev C.FRAME_SEC_CFG_REFUSED : Ctr := ⟨.frameSec, 0x080⟩
/-- Counter BURNS of FUSE. -/
abbrev C.FUSE_BURNS : Ctr := ⟨.fuse, 0x050⟩
/-- Counter BURN_FAILS of FUSE. -/
abbrev C.FUSE_BURN_FAILS : Ctr := ⟨.fuse, 0x058⟩
/-- Counter SESSIONS of DEBUG. -/
abbrev C.DEBUG_SESSIONS : Ctr := ⟨.debug, 0x050⟩
/-- Counter CERT_REFUSED of DEBUG. -/
abbrev C.DEBUG_CERT_REFUSED : Ctr := ⟨.debug, 0x058⟩
/-- Counter EXTEST_REFUSED of DEBUG. -/
abbrev C.DEBUG_EXTEST_REFUSED : Ctr := ⟨.debug, 0x060⟩
/-- Counter BOOTS of BOOT. -/
abbrev C.BOOT_BOOTS : Ctr := ⟨.boot, 0x050⟩
/-- Counter FALLBACKS of BOOT. -/
abbrev C.BOOT_FALLBACKS : Ctr := ⟨.boot, 0x058⟩
/-- Counter RECOVERIES of BOOT. -/
abbrev C.BOOT_RECOVERIES : Ctr := ⟨.boot, 0x060⟩
/-- Counter IMG_REJECT of BOOT. -/
abbrev C.BOOT_IMG_REJECT : Ctr := ⟨.boot, 0x068⟩
/-- Counter PROGRAMS of BOOT. -/
abbrev C.BOOT_PROGRAMS : Ctr := ⟨.boot, 0x070⟩
/-- Counter CFG_REFUSED of BOOT. -/
abbrev C.BOOT_CFG_REFUSED : Ctr := ⟨.boot, 0x078⟩
/-- Counter RECORDS of EVLOG. -/
abbrev C.EVLOG_RECORDS : Ctr := ⟨.evlog, 0x050⟩
/-- Counter SUPPRESSED of EVLOG. -/
abbrev C.EVLOG_SUPPRESSED : Ctr := ⟨.evlog, 0x058⟩
/-- Counter SUMMARIES of EVLOG. -/
abbrev C.EVLOG_SUMMARIES : Ctr := ⟨.evlog, 0x060⟩
/-- Counter CRC_FAIL of EVLOG. -/
abbrev C.EVLOG_CRC_FAIL : Ctr := ⟨.evlog, 0x068⟩
/-- Counter FOUND_PROGRAMMED of EVLOG. -/
abbrev C.EVLOG_FOUND_PROGRAMMED : Ctr := ⟨.evlog, 0x070⟩
/-- Counter FOUND_GAP of EVLOG. -/
abbrev C.EVLOG_FOUND_GAP : Ctr := ⟨.evlog, 0x078⟩
/-- Counter BUCKET_SHARED of EVLOG. -/
abbrev C.EVLOG_BUCKET_SHARED : Ctr := ⟨.evlog, 0x080⟩
/-- Counter CFG_REFUSED of EVLOG. -/
abbrev C.EVLOG_CFG_REFUSED : Ctr := ⟨.evlog, 0x088⟩

/-- IRQ_STATUS bit ARCH_LOSS of DRAM. -/
def I.DRAM_ARCH_LOSS : Nat := 8
/-- IRQ_STATUS bit LEVEL_CHG of FAULT. -/
def I.FAULT_LEVEL_CHG : Nat := 8
/-- IRQ_STATUS bit REGION_FAIL of FAULT. -/
def I.FAULT_REGION_FAIL : Nat := 9
/-- IRQ_STATUS bit EPOCH of GNSS_MEAS. -/
def I.GNSS_MEAS_EPOCH : Nat := 8
/-- IRQ_STATUS bit SPOOF of GNSS_MEAS. -/
def I.GNSS_MEAS_SPOOF : Nat := 9
/-- IRQ_STATUS bit SURVEY_DONE of GNSS_MEAS. -/
def I.GNSS_MEAS_SURVEY_DONE : Nat := 10
/-- IRQ_STATUS bit ANT_SWITCH of GNSS_MEAS. -/
def I.GNSS_MEAS_ANT_SWITCH : Nat := 11
/-- IRQ_STATUS bit SHORT of GNSS_RF. -/
def I.GNSS_RF_SHORT : Nat := 8
/-- IRQ_STATUS bit INTERF of GNSS_RF. -/
def I.GNSS_RF_INTERF : Nat := 9
/-- IRQ_STATUS bit TQ_CHG of TIME. -/
def I.TIME_TQ_CHG : Nat := 8
/-- IRQ_STATUS bit SRC_CHG of TIME. -/
def I.TIME_SRC_CHG : Nat := 9
/-- IRQ_STATUS bit JUMP_REFUSED of TIME. -/
def I.TIME_JUMP_REFUSED : Nat := 10
/-- IRQ_STATUS bit TXTS0 of TIME. -/
def I.TIME_TXTS0 : Nat := 11
/-- IRQ_STATUS bit TXTS1 of TIME. -/
def I.TIME_TXTS1 : Nat := 12
/-- IRQ_STATUS bit MODEL_EXCEEDED of TIME. -/
def I.TIME_MODEL_EXCEEDED : Nat := 13
/-- IRQ_STATUS bit SHED_CHG of RTK_CTRL. -/
def I.RTK_CTRL_SHED_CHG : Nat := 8
/-- IRQ_STATUS bit CAP_SHORT of RTK_CTRL. -/
def I.RTK_CTRL_CAP_SHORT : Nat := 9
/-- IRQ_STATUS bit DEADLINE_DROP of RTK_CTRL. -/
def I.RTK_CTRL_DEADLINE_DROP : Nat := 10
/-- IRQ_STATUS bit INTEGER_CHANGE of RTK_CTRL. -/
def I.RTK_CTRL_INTEGER_CHANGE : Nat := 11
/-- IRQ_STATUS bit DISAGREE of RTK_CTRL. -/
def I.RTK_CTRL_DISAGREE : Nat := 12
/-- IRQ_STATUS bit BASE_LOST of RTK_CTRL. -/
def I.RTK_CTRL_BASE_LOST : Nat := 13
/-- IRQ_STATUS bit RAIM_FAIL of RTK_CTRL. -/
def I.RTK_CTRL_RAIM_FAIL : Nat := 14
/-- IRQ_STATUS bit CORR_DROP of CORR_OUT. -/
def I.CORR_OUT_CORR_DROP : Nat := 8
/-- IRQ_STATUS bit SVC_CHG of AIRPORT. -/
def I.AIRPORT_SVC_CHG : Nat := 8
/-- IRQ_STATUS bit FRAMING_LOSS of AIRPORT. -/
def I.AIRPORT_FRAMING_LOSS : Nat := 9
/-- IRQ_STATUS bit HEALTH_FAIL of AIRPORT. -/
def I.AIRPORT_HEALTH_FAIL : Nat := 10
/-- IRQ_STATUS bit SWAP_DONE of SLUICE. -/
def I.SLUICE_SWAP_DONE : Nat := 8
/-- IRQ_STATUS bit SWAP_CANCEL of SLUICE. -/
def I.SLUICE_SWAP_CANCEL : Nat := 9
/-- IRQ_STATUS bit SILENT_CHG of SLUICE. -/
def I.SLUICE_SILENT_CHG : Nat := 10
/-- IRQ_STATUS bit BEACON_MISS of SLUICE. -/
def I.SLUICE_BEACON_MISS : Nat := 11
/-- IRQ_STATUS bit ARM_REFUSED of SLUICE. -/
def I.SLUICE_ARM_REFUSED : Nat := 12
/-- IRQ_STATUS bit MISMATCH of ROUTE. -/
def I.ROUTE_MISMATCH : Nat := 8
/-- IRQ_STATUS bit NO_ROOM of ROUTE. -/
def I.ROUTE_NO_ROOM : Nat := 9
/-- IRQ_STATUS bit BANK_LOST of ROUTE. -/
def I.ROUTE_BANK_LOST : Nat := 10
/-- IRQ_STATUS bit REPACK_DONE of ROUTE. -/
def I.ROUTE_REPACK_DONE : Nat := 11
/-- IRQ_STATUS bit OVERSTAY of LEASE. -/
def I.LEASE_OVERSTAY : Nat := 8
/-- IRQ_STATUS bit XFER_LOST of LEASE. -/
def I.LEASE_XFER_LOST : Nat := 9
/-- IRQ_STATUS bit NO_ROOM of LEASE. -/
def I.LEASE_NO_ROOM : Nat := 10
/-- IRQ_STATUS bit REBASE_DONE of LEASE. -/
def I.LEASE_REBASE_DONE : Nat := 11
/-- IRQ_STATUS bit CORRIDOR of REGISTRY. -/
def I.REGISTRY_CORRIDOR : Nat := 8
/-- IRQ_STATUS bit SILENT_CHG of REGISTRY. -/
def I.REGISTRY_SILENT_CHG : Nat := 9
/-- IRQ_STATUS bit DEPART of REGISTRY. -/
def I.REGISTRY_DEPART : Nat := 10
/-- IRQ_STATUS bit ORPHAN of TURNOUT. -/
def I.TURNOUT_ORPHAN : Nat := 8
/-- IRQ_STATUS bit SEQ_DISCARD of TURNOUT. -/
def I.TURNOUT_SEQ_DISCARD : Nat := 9
/-- IRQ_STATUS bit FORFEIT of TURNOUT. -/
def I.TURNOUT_FORFEIT : Nat := 10
/-- IRQ_STATUS bit RELEASE_OVERRUN of MOTION. -/
def I.MOTION_RELEASE_OVERRUN : Nat := 8
/-- IRQ_STATUS bit QUEUE_EMPTY of MOTION. -/
def I.MOTION_QUEUE_EMPTY : Nat := 9
/-- IRQ_STATUS bit STOP_CHG of HEADGATE. -/
def I.HEADGATE_STOP_CHG : Nat := 8
/-- IRQ_STATUS bit DISCREPANCY of HEADGATE. -/
def I.HEADGATE_DISCREPANCY : Nat := 9
/-- IRQ_STATUS bit RESUME of HEADGATE. -/
def I.HEADGATE_RESUME : Nat := 10
/-- IRQ_STATUS bit GATE_FAULT of HEADGATE. -/
def I.HEADGATE_GATE_FAULT : Nat := 11
/-- IRQ_STATUS bit ENGINE_LATE of HEADGATE. -/
def I.HEADGATE_ENGINE_LATE : Nat := 12
/-- IRQ_STATUS bit ABORT of DISPATCH. -/
def I.DISPATCH_ABORT : Nat := 8
/-- IRQ_STATUS bit RX_DROP of DISPATCH. -/
def I.DISPATCH_RX_DROP : Nat := 9
/-- IRQ_STATUS bit TRACE_LOSS of DISPATCH. -/
def I.DISPATCH_TRACE_LOSS : Nat := 10
/-- IRQ_STATUS bit HOLDER_LOST of TASKBOARD. -/
def I.TASKBOARD_HOLDER_LOST : Nat := 8
/-- IRQ_STATUS bit METER_INVALID of TASKBOARD. -/
def I.TASKBOARD_METER_INVALID : Nat := 9
/-- IRQ_STATUS bit FREEZE_TIMEOUT of REGION_CTL. -/
def I.REGION_CTL_FREEZE_TIMEOUT : Nat := 8
/-- IRQ_STATUS bit DRAINED of REGION_CTL. -/
def I.REGION_CTL_DRAINED : Nat := 9
/-- IRQ_STATUS bit HOST_LOST of FLUME. -/
def I.FLUME_HOST_LOST : Nat := 8
/-- IRQ_STATUS bit LINK_CHG of ETH. -/
def I.ETH_LINK_CHG : Nat := 8
/-- IRQ_STATUS bit PORT_CHG of CANAL. -/
def I.CANAL_PORT_CHG : Nat := 8
/-- IRQ_STATUS bit BREAK of CANAL. -/
def I.CANAL_BREAK : Nat := 9
/-- IRQ_STATUS bit ISLAND of CANAL. -/
def I.CANAL_ISLAND : Nat := 10
/-- IRQ_STATUS bit TUN_TIMEOUT of CANAL. -/
def I.CANAL_TUN_TIMEOUT : Nat := 11
/-- IRQ_STATUS bit RING_MISMATCH of CANAL. -/
def I.CANAL_RING_MISMATCH : Nat := 12
/-- IRQ_STATUS bit PAIR_STATE of PAIR. -/
def I.PAIR_PAIR_STATE : Nat := 8
/-- IRQ_STATUS bit PEER_CHG of PAIR. -/
def I.PAIR_PEER_CHG : Nat := 9
/-- IRQ_STATUS bit OUT_OF_SERVICE of PAIR. -/
def I.PAIR_OUT_OF_SERVICE : Nat := 10
/-- IRQ_STATUS bit CLAIM_CONFLICT of PAIR. -/
def I.PAIR_CLAIM_CONFLICT : Nat := 11
/-- IRQ_STATUS bit SWITCH_DONE of PAIR. -/
def I.PAIR_SWITCH_DONE : Nat := 12
/-- IRQ_STATUS bit PQ_EVENT of METER. -/
def I.METER_PQ_EVENT : Nat := 8
/-- IRQ_STATUS bit GAP of METER. -/
def I.METER_GAP : Nat := 9
/-- IRQ_STATUS bit CHANNEL_INVALID of METER. -/
def I.METER_CHANNEL_INVALID : Nat := 10
/-- IRQ_STATUS bit OUTAGE_DRAW of METER. -/
def I.METER_OUTAGE_DRAW : Nat := 11
/-- IRQ_STATUS bit TOKEN_DONE of KEYSTORE. -/
def I.KEYSTORE_TOKEN_DONE : Nat := 8
/-- IRQ_STATUS bit KEY_KILLED of KEYSTORE. -/
def I.KEYSTORE_KEY_KILLED : Nat := 9
/-- IRQ_STATUS bit ATT_DONE of KEYSTORE. -/
def I.KEYSTORE_ATT_DONE : Nat := 10
/-- IRQ_STATUS bit REKEY_DUE of FRAME_SEC. -/
def I.FRAME_SEC_REKEY_DUE : Nat := 8
/-- IRQ_STATUS bit ROTATED of FRAME_SEC. -/
def I.FRAME_SEC_ROTATED : Nat := 9
/-- IRQ_STATUS bit FUSE_DONE of FUSE. -/
def I.FUSE_FUSE_DONE : Nat := 8
/-- IRQ_STATUS bit DOZE_MOTION of KEEP. -/
def I.KEEP_DOZE_MOTION : Nat := 8
/-- IRQ_STATUS bit LEVEL_CHG of DEBUG. -/
def I.DEBUG_LEVEL_CHG : Nat := 8
/-- IRQ_STATUS bit UPD_DONE of BOOT. -/
def I.BOOT_UPD_DONE : Nat := 8
/-- IRQ_STATUS bit RCV_REPLY of BOOT. -/
def I.BOOT_RCV_REPLY : Nat := 9
/-- IRQ_STATUS bit LOSS of EVLOG. -/
def I.EVLOG_LOSS : Nat := 8
/-- IRQ_STATUS bit FOUND_CLOSED of EVLOG. -/
def I.EVLOG_FOUND_CLOSED : Nat := 9
/-- IRQ_STATUS bit SEQ_JUMP of EVLOG. -/
def I.EVLOG_SEQ_JUMP : Nat := 10
/-- IRQ_STATUS bit CRC_FAIL of EVLOG. -/
def I.EVLOG_CRC_FAIL : Nat := 11
/-- IRQ_STATUS bit TEMP_WARN of INFO. -/
def I.INFO_TEMP_WARN : Nat := 8

end Sys2Proof.Machine
end

