-- ==== Sys2Proof/Machine/Reset.lean ====
section
/-! DEFINITION. What everything reads as at chip reset: the reset word of every register (R11, R37 to R41 and the register
tables), of every table entry, and the queues of R352. -/
namespace Sys2Proof.Machine

/-- CTRL.EN resets to 1 (R41): every CHIP block, KEEP, KEYSTORE, EVLOG, BOOT, PCIE and HEADGATE. -/
def Page.enReset (p : Page) : Bool := match p.blk with
  | .keep | .keystore | .evlog | .boot | .pcie | .headgate => true
  | _ => decide (p.region = 0)

/-- Cells built into one page's pool (R13). -/
def Blk.cells : Blk → Nat
  | .gnssTrk => 16
  | .gnssAcq => 4
  | .meter => 15
  | .solver => 1
  | .sluice => 1
  | .route => 32
  | .flood => 4
  | .core => 1
  | .lease => 4
  | _ => 0

/-- How many tables the block's table interface has (R49); none for a page with PAGE_CAPS.TABLE = 0. -/
def Blk.tables : Blk → Nat
  | .gnssMeas => 1
  | .rtkCtrl => 2
  | .airport => 1
  | .sluice => 3
  | .frameSec => 1
  | .route => 1
  | .registry => 2
  | .graph => 2
  | .lease => 1
  | .turnout => 3
  | .motion => 2
  | .taskboard => 1
  | .dispatch => 2
  | .flume => 1
  | .meter => 3
  | .keystore => 2
  | .evlog => 3
  | _ => 0

/-- Requesters of a region's arbiter, without the bridge and the scrubber (R332). -/
def regionNreq : Nat → Nat
  | 0 => 7
  | 1 => 22
  | 2 => 19
  | 3 => 11
  | 4 => 15
  | 5 => 8
  | 6 => 5
  | _ => 1

/-- ARB_REQ[r].PRIO at reset: requester 30 and 31, the SLUICE ports and LEASE (R332). -/
def arbPrioReset (region r : Nat) : Bool :=
  decide (r = 30 ∨ r = 31 ∨ (region = 3 ∧ 4 ≤ r ∧ r < 8) ∨ (region = 4 ∧ r = 2))

/-- Prefix length of a CAM bank at reset (R212). -/
def bankPlenReset (b : Nat) : Nat := if b < 16 then 32 else if b < 28 then 23 else if b < 31 then 14 else 8

/-- The register whose copies cover an offset, among a list. -/
def findReg : List RegDef → Nat → Option RegDef
  | [], _ => none
  | r :: rs, off =>
    if r.off ≤ off ∧ (off - r.off) % r.stride = 0 ∧ (off - r.off) / r.stride < r.count then some r else findReg rs off

/-- The register at an offset of a page, header included. -/
def Page.findReg (p : Page) (off : Nat) : Option RegDef :=
  if off < 0x300 then Machine.findReg hdrRegs off else Machine.findReg p.blk.regs off

/-- Whether any field of the block is lockable beside CTRL.EN. -/
def Blk.lockable (b : Blk) : Bool := b.regs.any fun r => r.fields.any (·.lock)

/-- Reset word of a register of a page, the values that the tables give in words included. -/
def Page.resetAt (p : Page) (off : Nat) : Nat :=
  if off = 0x000 then
    p.blk.num + p.region * 0x20 + p.instNo * 0x100 + 0x01 * 0x10000 + Config.stepping.toNat * 0x1000000
  else if off = 0x004 then
    p.blk.cells + b2n (decide (0 < p.blk.tables)) * 0x100 + b2n (decide (0 < p.blk.tables)) * 0x200
      + b2n p.blk.lockable * 0x400 + p.blk.ncount * 0x10000
  else if off = 0x008 then b2n p.enReset
  else match p.findReg off with
  | none => 0
  | some r =>
    let k := (off - r.off) / r.stride
    match p.blk with
    | .info =>
      if off = 0x304 then Config.stepping.toNat + Config.romVer.toNat * 0x100
      else if off = 0x308 then Config.serial.toNat % 2 ^ 32
      else if off = 0x30C then Config.serial.toNat / 2 ^ 32
      else r.reset
    | .irq => if r.off = 0x300 then r.reset + (if k < 256 then k / 32 else k - 256) else r.reset
    | .dram =>
      if r.off = 0x310 then nth 0 [0, 32, 96, 160, 224] k
      else if r.off = 0x314 then nth 0 [32, 64, 64, 64, 0xFFFF] k
      else r.reset
    | .route =>
      if r.off = 0x320 then
        bankPlenReset (4 * k) + bankPlenReset (4 * k + 1) * 0x100 + bankPlenReset (4 * k + 2) * 0x10000
          + bankPlenReset (4 * k + 3) * 0x1000000
      else r.reset
    | .fuse => if r.off = 0x310 then nth 64 [8, 4, 4, 3, 128] k * 0x10000 else r.reset
    | .dispatch => if r.off = 0x400 then r.reset + (if k = 0 then 0 else 2) else r.reset
    | .regionCtl =>
      if off = 0x400 then regionNreq p.inst
      else if r.off = 0x500 then r.reset + b2n (arbPrioReset p.inst k) * 0x200
      else r.reset
    | .eth =>
      if off = 0x308 then (Config.ethMac p.inst).toNat % 2 ^ 32
      else if off = 0x30C then (Config.ethMac p.inst).toNat / 2 ^ 32
      else r.reset
    | _ => r.reset

/-- What an unlisted register address reads as: its reset word. -/
def regReset (a : Nat) : Word := match Page.ofAddr a with
  | some p => BitVec.ofNat 32 (p.resetAt (a % 0x1000))
  | none => 0

/-- Every page of R37. -/
def allPages : List Page :=
  (Blk.all.flatMap fun b => (List.range b.count).map fun i => ⟨b, i⟩) ++ (List.range 8).map fun r => ⟨.regionCtl, r⟩

/-- The number under which a table of a page stands in the table contents: page number × 16 + table. -/
def Page.tblBase (p : Page) (table : Nat) : Nat := (p.base / 0x1000 * 16 + table % 16) * 2 ^ 24

/-- Key of an entry of a table. -/
def Page.tblKey (p : Page) (table idx : Nat) : Nat := p.tblBase table + idx % 2 ^ 24

/-- What an unlisted table entry reads as: zero, but for the generations, which start at 1 (R255), the flows (R314) and
the IDs of free leases and tasks with their generation 1 (R231, R327). -/
def tblReset (k : Nat) : Nat :=
  let in_ := fun (b : Blk) (t n : Nat) => decide (Page.tblBase ⟨b, 0⟩ t ≤ k ∧ k < Page.tblBase ⟨b, 0⟩ t + n)
  if in_ .registry 1 578 then 1
  else if in_ .lease 0 262144 then k % 2 ^ 24 + 2 ^ 18
  else if in_ .taskboard 0 4096 then k % 2 ^ 24 + 2 ^ 12
  else if in_ .dispatch 0 512 then 0x010101
  else if in_ .dispatch 0 576 then 0x010102
  else 0

/-- Queue q at reset (R352). -/
def FQ.resetAt (q : Nat) : FQ :=
  let mk := fun (toChip ovw : Bool) (prio ring : Nat) =>
    ({ en := true, toChip := toChip, ovw := ovw, portSel := 2, prio := prio, bind := q + 1, ringKB := ring } : FQ)
  if q < 8 then mk true false 7 16
  else if q < 16 then mk false false 7 16
  else match q with
  | 16 => mk false true 4 64
  | 17 => mk false true 5 64
  | 18 => mk false true 5 128
  | 19 => mk false true 2 128
  | 20 => mk false true 2 256
  | 21 => mk false true 4 32
  | 22 => mk false true 1 128
  | 23 => mk false false 4 64
  | 24 => mk false false 6 16
  | 25 => mk true false 6 16
  | 26 => mk false false 3 32
  | 27 => mk true false 0 128
  | 28 => mk false false 0 128
  | _ => {}

/-- The queues at reset. -/
def FQ.reset : List FQ := (List.range 64).map FQ.resetAt

end Sys2Proof.Machine
end

