-- ==== Sys2Proof/Machine/State.lean ====
section
/-! DEFINITION. The state of the FN512: registers, counters, tables, memories, the hidden state of every unit, the queue of
waiting commands, and the machine right after reset. -/
namespace Sys2Proof.Machine
open Sys2Proof

/-- Why a step stops with a fault. -/
inductive Fault where
  /-- Raised by no command of this model: every command that the spec gives an effect completes. Safe. -/
  | none
  deriving DecidableEq, Repr

/-- Why a command is refused. -/
inductive Refusal where
  /-- Raised by the dispatcher for a command that has no meaning yet, by its mnemonic. Safe. -/
  | notModelled (mnemonic : String)
  deriving DecidableEq, Repr

/-- The words that show the straps: CHIP/INFO STRAPS, RING_STATUS, PAIR_STATUS (R36, R373, R384, R488). -/
def strapWords (head role recovN : Bool) : List (Nat × Word) :=
  [ (0x000310, BitVec.ofNat 32 (b2n head + 2 * b2n role + 4 * b2n recovN)),
    (0xA30338, BitVec.ofNat 32 (setBits (setBits (regReset 0xA30338).toNat 7 1 (b2n head)) 8 1 (b2n role))),
    (0xA40310, BitVec.ofNat 32 (setBits (regReset 0xA40310).toNat 0 1 (b2n role))) ]

/-- Register words that differ from their table's reset column as the main domain leaves reset: a block whose EN resets
to 1 has begun its start-up (R41), and the straps are latched. -/
def resetRegsOf (head role recovN : Bool) : AMap Word :=
  (strapWords head role recovN).foldl (fun m e => AMap.set regReset m e.1 e.2)
    ((allPages.filter Page.enReset).foldl (fun m p => AMap.put m (p.base + 0x00C) 1) [])

/-- The register words at the power-on reset: a head chip, a primary unit, RECOV_N high. -/
def resetRegs : AMap Word := resetRegsOf true false true

/-- Table entries that differ from what an unlisted entry reads as, at reset. -/
def resetTables : AMap Nat := []

/-- The whole state: what the spec gives the chip, the queue of commands, and the model's own `fresh` and `out`. -/
structure State where
  /-- commands waiting, first in, first out -/
  pending : List Instr
  /-- physical time since the power-on reset, ps -/
  now : Nat
  /-- fleet time since the PTP epoch in units of 2^-32 ns (R79) -/
  ft : Nat
  /-- the model's own: how many free values have been used (no part of the chip) -/
  fresh : Nat
  /-- register words by BAR0 address; unlisted ones hold their reset word (R8, R11) -/
  regs : AMap Word
  /-- 64-bit counters by BAR0 address (R42) -/
  ctrs : AMap (BitVec 64)
  /-- latched high words by source and counter (R42, R81) -/
  latch : AMap Word
  /-- table entries by table number and index, each the number its little-endian bytes spell (R6, R49) -/
  tbl : AMap Nat
  /-- the usable DRAM space by offset; unlisted bytes read zero (R24, R25) -/
  dram : AMap Byte
  /-- per page, by base address: fault history, removed cells (R45, R52) -/
  pg : AMap PageSt
  /-- the whole fleet second, plus one, of the last report of each first-in-a-second kind (R38) -/
  once : AMap Nat
  /-- completions not yet written, each with the Flume queue of its command: their tags stay in flight (R50) -/
  tags : List (Nat × Compl)
  /-- MSI-X vectors sent and not yet acknowledged (R55) -/
  vecSent : List Nat
  /-- vectors masked in the MSI-X table of BAR4 (R55) -/
  vecMask : List Nat
  /-- the 64 hardware queues (R350, R352) -/
  fq : List FQ
  /-- the event recorder (R467 to R473) -/
  ev : EvLogSt
  /-- the model's own: what has left the chip, newest first -/
  out : List Out
  /-- the Canal ports and the ring (R366 to R382) -/
  canal : CanalSt
  /-- the Headgate (R288 to R308) -/
  hg : HgSt
  /-- the chip fault manager (R31, R32) -/
  flt : FltSt
  /-- supplies, straps and the battery domain (R373, R384, R455, R485, R489) -/
  sup : SupplySt
  /-- table operations accepted and not yet decided (R51) -/
  held : List Held
  /-- the air ports and slot engines (R148 to R201) -/
  air : AirSt
  /-- the arbiters of the eight regions (R332 to R339) -/
  arb : List ArbSt
  /-- Ethernet ports and Flume sessions beside their registers and queues (R347 to R365) -/
  lk : LinkSt
  /-- the partner pair beside its registers (R384 to R404) -/
  pair : PairSt
  /-- GNSS sensing beside its registers (R57 to R78) -/
  gn : GnssSt
  /-- fleet time beside its registers (R79 to R109) -/
  tm : TimeSt
  /-- the dispatcher beside its registers and tables (R310 to R322) -/
  disp : DispSt
  /-- the lease engine and the table sequences (R227 to R263) -/
  ls : LeaseSt
  /-- motion of each member, by index (R270 to R287) -/
  mot : AMap MotSt
  /-- NSP in force since the last superframe boundary (R279) -/
  motNsp : Nat
  /-- observations, solver cells, shedding and corrections (R110 to R147) -/
  rtk : RtkSt
  /-- route table and seen cache (R212 to R225) -/
  rt : RouteSt
  /-- the clock monitor, the supervisor core and the scrub of DRAM (R16 to R20, R25, R35) -/
  clk : ClkSt
  /-- METER beside its registers and tables (R405 to R418) -/
  met : MeterSt
  /-- KEYSTORE and FUSE beside their registers and tables (R419 to R438) -/
  key : KeySt
  /-- the debug session beside its registers (R442 to R447) -/
  dbg : DebugSt
  /-- the quad-SPI flash and BOOT beside its registers (R452 to R463) -/
  boot : BootSt
  deriving DecidableEq, Repr

/-- The machine right after the power-on reset, as the main domain leaves reset. -/
def State.reset : State where
  pending := []
  now := 0
  ft := 0
  fresh := 0
  regs := resetRegs
  ctrs := []
  latch := []
  tbl := resetTables
  dram := []
  pg := []
  once := []
  tags := []
  vecSent := []
  vecMask := List.range 64
  fq := FQ.reset
  ev := {}
  out := []
  canal := {}
  hg := {}
  flt := {}
  sup := {}
  held := []
  air := {}
  arb := List.replicate 8 {}
  lk := {}
  pair := {}
  gn := {}
  tm := {}
  disp := {}
  ls := {}
  mot := []
  motNsp := 0
  rtk := {}
  rt := {}
  clk := {}
  met := {}
  key := {}
  dbg := {}
  boot := {}

end Sys2Proof.Machine
end

