-- ==== Sys2Proof/Machine/Ops.lean ====
section
/-! DEFINITION. The named operations over registers, counters, tables, time, interrupts, Flume queues and event records
that every family of commands is written with. -/
namespace Sys2Proof.Machine
open Sys2Proof

/-- What a step answers. -/
abbrev Res := Host.Outcome State Fault Refusal

/-! ### Registers and counters -/

/-- The word at a register address (R8). -/
def State.reg (s : State) (a : Nat) : Nat := (AMap.get regReset s.regs a).toNat

/-- The state with the word at a register address replaced. -/
def State.setReg (s : State) (a v : Nat) : State :=
  { s with regs := AMap.set regReset s.regs a (BitVec.ofNat 32 v) }

/-- Address of copy `k` of a named field's register in instance `inst` of its block. -/
def Fld.addr (F : Fld) (inst k : Nat) : Nat := Page.adr ⟨F.blk, inst⟩ (F.off + k * F.step)

/-- The value of a named field. -/
def State.get (s : State) (F : Fld) (inst : Nat := 0) (k : Nat := 0) : Nat :=
  bits (s.reg (F.addr inst k)) F.lsb F.width

/-- The state with a named field replaced. -/
def State.set (s : State) (F : Fld) (v : Nat) (inst : Nat := 0) (k : Nat := 0) : State :=
  s.setReg (F.addr inst k) (setBits (s.reg (F.addr inst k)) F.lsb F.width v)

/-- The value of a field of the common header of a page (R41 to R50). -/
def State.getP (s : State) (p : Page) (F : Fld) : Nat := bits (s.reg (p.adr F.off)) F.lsb F.width

/-- The state with a field of the common header of a page replaced. -/
def State.setP (s : State) (p : Page) (F : Fld) (v : Nat) : State :=
  s.setReg (p.adr F.off) (setBits (s.reg (p.adr F.off)) F.lsb F.width v)

/-- A 64-bit quantity held in a pair of registers. -/
def State.get64 (s : State) (lo hi : Fld) (inst : Nat := 0) : Nat := s.get lo inst + s.get hi inst * 2 ^ 32

/-- The state with a pair of registers replaced. -/
def State.set64 (s : State) (lo hi : Fld) (v : Nat) (inst : Nat := 0) : State :=
  (s.set lo (v % 2 ^ 32) inst).set hi (v / 2 ^ 32) inst

/-- Block states of R43. -/
def stOff : Nat := 0
/-- STARTING. -/
def stStarting : Nat := 1
/-- ON. -/
def stOn : Nat := 2
/-- STOPPING. -/
def stStopping : Nat := 3
/-- FAULT. -/
def stFault : Nat := 4
/-- ISOLATED. -/
def stIsolated : Nat := 5

/-- STATE.STATE of a page. -/
def State.st (s : State) (p : Page) : Nat := s.getP p F.STATE

/-- The block is in STATE ON. -/
def State.isOn (s : State) (b : Blk) (inst : Nat := 0) : Bool := decide (s.st ⟨b, inst⟩ = stOn)

/-- A 64-bit counter of a page (R42). -/
def State.ctr (s : State) (p : Page) (c : Ctr) : Nat := (AMap.get (fun _ => (0 : BitVec 64)) s.ctrs (p.adr c.off)).toNat

/-- Advance the counter at an address; it wraps at 64 bits. -/
def State.incAt (s : State) (a n : Nat) : State :=
  { s with ctrs := AMap.set (fun _ => 0) s.ctrs a (AMap.get (fun _ => 0) s.ctrs a + BitVec.ofNat 64 n) }

/-- Advance a counter of a page. -/
def State.incP (s : State) (p : Page) (c : Ctr) (n : Nat := 1) : State := s.incAt (p.adr c.off) n

/-- Advance a named counter of its block. -/
def State.inc (s : State) (c : Ctr) (inst : Nat := 0) (n : Nat := 1) : State := s.incP ⟨c.blk, inst⟩ c n

/-- Advance a 32-bit saturating lost counter held in a register (R342). -/
def State.incLost (s : State) (F : Fld) (n : Nat := 1) : State := s.set F (satAdd (s.get F) n 0xFFFFFFFF)

/-- Apply a change where a condition holds. -/
def State.on (s : State) (c : Bool) (f : State → State) : State := if c then f s else s

/-- Apply a change for each element of a list, in its order. -/
def State.each {α : Type} (s : State) (l : List α) (f : State → α → State) : State := l.foldl f s

/-- Something leaves the chip. -/
def State.emit (s : State) (o : Out) : State := { s with out := o :: s.out }

/-- A free value of 32 bits, and the state in which it is used up. -/
def State.free (s : State) : Nat × State := ((Config.free32 s.fresh).toNat, { s with fresh := s.fresh + 1 })

/-- What a page holds beside its registers. -/
def State.page (s : State) (p : Page) : PageSt := AMap.get (fun _ => {}) s.pg p.base

/-- The state with what a page holds replaced. -/
def State.setPage (s : State) (p : Page) (v : PageSt) : State :=
  { s with pg := AMap.set (fun _ => ({} : PageSt)) s.pg p.base v }

/-- JTAG does not reach a page at the present debug level (R442): the DEBUG page at every level, other pages for reads from OBSERVE, for writes at FULL. What
it is barred from has no effect and returns nothing (DESIGN CHOICE, log entry 31). -/
def State.jtagBars (s : State) (src : Src) (p : Page) (write : Bool) : Bool := match src with
  | .jtag => decide (p.blk ≠ .debug ∧ s.get F.DBG_STATUS_LEVEL < (if write then 2 else 1))
  | _ => false

/-- The same by the address of an access. -/
def State.jtagBarsAt (s : State) (src : Src) (addr : Nat) (write : Bool) : Bool := s.jtagBars src ((Page.ofAddr addr).getD ⟨.info, 0⟩) write

/-- A unit of a pair that does not serve: before its role is settled, COLD, WARM, or taking over and not loaded (R387). -/
def State.offDuty (s : State) : Bool :=
  let st := s.get F.PAIR_STATUS_STATE
  (s.pair.paired || decide (st ≠ 0)) && decide (st ≠ 4) && !(decide (st = 3) && s.pair.loaded)

/-- The path of a FIFO of a page is disabled (R13). -/
def State.fifoOff (s : State) (p : Page) (n : Nat) : Bool := (s.page p).fifosOff.contains n

/-! ### Time -/

/-- Microseconds in picoseconds. -/
def us (n : Nat) : Nat := n * 1000000
/-- Milliseconds in picoseconds. -/
def ms (n : Nat) : Nat := n * 1000000000
/-- Seconds in picoseconds. -/
def sec (n : Nat) : Nat := n * 1000000000000

/-- Fleet time in whole nanoseconds since the PTP epoch (R79). -/
def State.fleetNs (s : State) : Nat := s.ft / 2 ^ 32
/-- Fleet time in whole milliseconds. -/
def State.fleetMs (s : State) : Nat := s.fleetNs / 1000000
/-- Fleet seconds. -/
def State.fleetSec (s : State) : Nat := s.fleetNs / 1000000000
/-- Nanoseconds of the fleet second. -/
def State.fleetSubNs (s : State) : Nat := s.fleetNs % 1000000000

/-- Whether this is the first report of a kind in this whole fleet second (R38), and the state that remembers it. -/
def State.firstInSecond (s : State) (kind : Nat) (second : Nat := s.fleetSec) : Bool × State :=
  if AMap.get (fun _ => 0) s.once kind = second + 1 then (false, s)
  else (true, { s with once := AMap.set (fun _ => 0) s.once kind (second + 1) })

/-! ### Tables -/

/-- An entry of a table of a page, the number its bytes spell. -/
def State.te (s : State) (p : Page) (table idx : Nat) : Nat := AMap.get tblReset s.tbl (p.tblKey table idx)

/-- Tables that a checkpoint carries (R391). -/
def ckptTables : Blk → List Nat
  | .registry => [0, 1]
  | .graph => [0, 1]
  | .turnout => [0, 1, 2]
  | .lease => [0, 8, 9]
  | .taskboard => [0]
  | .dispatch => [0, 1]
  | .route => [0]
  | .sluice => [0, 1, 2, 8, 9]
  | .motion => [0, 1, 8, 9]
  | .rtkCtrl => [0]
  | _ => []

/-- The state with a table entry replaced; the active unit of a pair notes the after-image for its delta (R392). -/
def State.setTe (s : State) (p : Page) (table idx v : Nat) : State :=
  let s : State := { s with tbl := AMap.set tblReset s.tbl (p.tblKey table idx) v }
  if s.get F.PAIR_STATUS_STATE = 4 ∧ (ckptTables p.blk).contains table then
    { s with pair := { s.pair with delta := ⟨p.base / 0x1000 * 16 + table, idx, v⟩ :: s.pair.delta } }
  else s

/-- The indices of the entries of a table that are listed. -/
def State.teListed (s : State) (p : Page) (table : Nat) : List Nat :=
  (AMap.keysIn s.tbl (p.tblBase table) (p.tblBase table + 2 ^ 24)).map (· - p.tblBase table)

/-- The state with a table cleared to what it reads as at reset; the active unit of a pair notes what becomes of its entries. -/
def State.clearTable (s : State) (p : Page) (table : Nat) : State :=
  let gone : List Image := if s.get F.PAIR_STATUS_STATE = 4 ∧ (ckptTables p.blk).contains table then
      (s.teListed p table).map fun i => ⟨p.base / 0x1000 * 16 + table, i, tblReset (p.tblKey table i)⟩ else []
  { s with tbl := AMap.clearRange s.tbl (p.tblBase table) (p.tblBase table + 2 ^ 24),
           pair := { s.pair with delta := gone.reverse ++ s.pair.delta } }

/-! ### Interrupts (R54, R55) -/

/-- A message of a vector may leave: CHIP/IRQ ON, link up, bus mastering enabled, vector not masked (R55, R344). -/
def State.msixOpen (s : State) (v : Nat) : Bool :=
  s.isOn .irq && decide (s.get F.PCIE_STATUS_LINK_UP = 1) && decide (s.get F.PCIE_STATUS_BME = 1) && !(s.vecMask.contains v)

/-- Send the message of a vector that has none outstanding, where it may leave (R55). -/
def State.sendVec (s : State) (v : Nat) : State :=
  if s.vecSent.contains v || !(s.msixOpen v) then s
  else ({ s with vecSent := v :: s.vecSent }.emit (.msix v)).inc C.PCIE_MSIX_SENT

/-- A source has asserted: route it to the supervisor, or to its vector (R54, R55). -/
def State.assertSrc (s : State) (n : Nat) : State :=
  if s.get F.ROUTE_EN 0 n = 0 then s
  else if s.get F.ROUTE_SUP 0 n = 1 then s.emit (.supIrq n)
  else s.sendVec (s.get F.ROUTE_VECTOR 0 n)

/-- A page asserts its interrupt: IRQ_STATUS AND IRQ_ENABLE is not zero (R54). -/
def State.pageAsserts (s : State) (p : Page) : Bool :=
  decide (Nat.land (s.reg (p.adr 0x01C)) (s.reg (p.adr 0x020)) ≠ 0)

/-- The pages whose summary bit is source n (R54). -/
def pagesOfSource (n : Nat) : List Page :=
  match Blk.of (n / 32) (n % 32) with
  | some .regionCtl => [⟨.regionCtl, n / 32⟩]
  | some b => (List.range b.count).map fun i => ⟨b, i⟩
  | none => []

/-- Source n of R54 asserts: a block's summary bit, or a Flume queue's events (R351). -/
def State.srcAsserts (s : State) (n : Nat) : Bool :=
  if n < 256 then (pagesOfSource n).any s.pageAsserts
  else match s.fq[n - 256]? with
    | some q => decide (Nat.land q.qev q.qevEn ≠ 0)
    | none => false

/-- The sources that can assert: the blocks of R12 and the 64 queues. -/
def irqSources : List Nat :=
  (Blk.all.map fun b => b.region * 32 + b.num) ++ (List.range 8).map (fun r => r * 32 + 31) ++ (List.range 64).map (256 + ·)

/-- A routed source of a vector asserts (R55). -/
def State.vecAsserts (s : State) (v : Nat) : Bool :=
  irqSources.any fun n =>
    decide (s.get F.ROUTE_EN 0 n = 1 ∧ s.get F.ROUTE_SUP 0 n = 0 ∧ s.get F.ROUTE_VECTOR 0 n = v) && s.srcAsserts n

/-- Every vector that has a source asserting and no message outstanding sends one (R55). -/
def State.sendAllVecs (s : State) : State :=
  s.each ((List.range 64).filter s.vecAsserts) State.sendVec

/-- Set bits of a page's IRQ_STATUS; the page asserts under its IRQ_ENABLE (R54). -/
def State.irqBits (s : State) (p : Page) (m : Nat) : State :=
  let a := p.adr 0x01C
  let s := s.setReg a (Nat.lor (s.reg a) m)
  if s.pageAsserts p then s.assertSrc p.irqSource else s

/-- Set one bit of a page's IRQ_STATUS. -/
def State.irq (s : State) (p : Page) (n : Nat) : State := s.irqBits p (2 ^ n)

/-- A pinless page of a block. -/
def pgOf (b : Blk) (inst : Nat := 0) : Page := ⟨b, inst⟩

end Sys2Proof.Machine
end

