-- ==== Sys2Proof/Machine/CanalOps.lean ====
section
/-! DEFINITION. Sending on the Canal: message headers, the way round the ring, class priority, credits and the replay
buffer (R367 to R376). -/
namespace Sys2Proof.Machine
open Sys2Proof

/-- A Canal port: 0 east, 1 west. -/
def State.cport (s : State) (p : Nat) : CanalPort := if p = 0 then s.canal.east else s.canal.west

/-- The state with a Canal port replaced. -/
def State.setCport (s : State) (p : Nat) (c : CanalPort) : State :=
  if p = 0 then { s with canal := { s.canal with east := c } } else { s with canal := { s.canal with west := c } }

/-- The port is UP (R369). -/
def State.canalUp (s : State) (p : Nat) : Bool := decide (s.get F.CPORT_STATUS_STATE p = 2)

/-- This chip's number. -/
def State.number (s : State) : Nat := s.get F.RING_STATUS_NUMBER

/-- Positions of the ring, at least one. -/
def State.ringSize (s : State) : Nat := max 1 (s.get F.RING_STATUS_POSITIONS)

/-- The head chip: strapped so, and in a zone 0 pair the unit that holds the active claim (R373). -/
def State.isHead (s : State) : Bool :=
  decide (s.get F.RING_STATUS_HEAD = 1) && (decide (s.get F.PAIR_STATUS_STATE = 0) || decide (s.get F.PAIR_STATUS_STATE = 4))

/-- Order in which a port serves the classes (R371). -/
def canalPrio (cls : Nat) : Nat := if cls = 0 then 0 else if cls = 7 then 1 else cls + 1

/-- Receive buffer of a class at the neighbour, in flits (R370). -/
def canalBuffer (cls : Nat) : Nat := nth 8 [8, 8, 128, 64, 32, 32, 192, 8] cls

/-- A message takes its place among those waiting, behind the same and higher classes (R371). -/
def canalInsert (m : CanalMsg) : List CanalMsg → List CanalMsg
  | [] => [m]
  | x :: r => if canalPrio m.body.cls < canalPrio x.body.cls then m :: x :: r else x :: canalInsert m r

/-- The flits of the replay buffer still unacknowledged (R368). -/
def CanalPort.unacked (c : CanalPort) : Nat := c.replay.foldl (fun n e => n + e.2.flits) 0

/-- The first waiting message that has credit and, for a sequenced class, room in the replay buffer (R368, R371); in a
ring with two heads only STOP and CTRL (R373). -/
def CanalPort.ready (c : CanalPort) (only : Bool) : List CanalMsg → Option (CanalMsg × List CanalMsg)
  | [] => none
  | m :: r =>
    if (!only ∨ m.body.cls = 0 ∨ m.body.cls = 7) ∧ min m.flits (canalBuffer m.body.cls) ≤ nth 0 c.credits m.body.cls ∧
        (m.body.cls = 7 ∨ c.unacked = 0 ∨ c.unacked + m.flits ≤ 256) then some (m, r)
    else (CanalPort.ready c only r).map fun x => (x.1, m :: x.2)

/-! ### Flits (R367, R372) -/

/-- The payload of a message, where the spec gives its layout (R219, R243, R300, R380, R395); of the others it gives none. -/
def CanalBody.payload : CanalBody → Option (List Nat)
  | .stop m => some ([m.origin % 64, m.cls + m.reason * 4, m.seq, m.hops] ++ toBytes 4 m.timeMs)
  | .time ts tn corr u ep tq => some (toBytes 6 ts ++ [0, 0] ++ toBytes 4 tn ++ toBytes 4 corr ++ toBytes 4 u ++ [ep, tq % 16, 0, 0])
  | .learn m => some (toBytes 4 m.addr ++ toBytes 4 m.prev ++ toBytes 4 m.timeMs ++ [m.chip % 64, m.kind, m.hops, 0])
  | .lease m => some ([m.typ, m.epoch, m.from_ % 64, m.n] ++ toBytes 4 m.xid ++ toBytes 4 m.owner ++ toBytes 4 m.arg ++
      m.steps.flatMap fun x => toBytes 2 x.seg ++ [x.pos, x.dir] ++ toBytes 4 x.dur ++ toBytes 4 x.startNs ++ toBytes 6 x.startS ++ [0, 0])
  | .pair m => some ([m.typ, b2n m.lastRec] ++ toBytes 2 m.format ++ toBytes 4 m.sfn ++ toBytes 4 m.rseq ++ toBytes 4 m.arg ++
      (match m.typ with
        | 1 | 2 => m.images.flatMap fun i => [i.target % 256] ++ toBytes 3 i.index ++ toBytes 64 i.value
        | 5 => [m.cls, m.reason, m.stopSeq, 0]
        | 6 => toBytes 4 m.cfgHash ++ [m.kgen, m.pstate, m.nr, 0]
        | _ => []))
  | _ => none

/-- A message with its header (R372). -/
def CanalMsg.bytes (m : CanalMsg) : Option (List Nat) :=
  m.body.payload.map fun l => toBytes 2 l.length ++ toBytes 2 m.mseq ++ [m.hops, b2n m.west, 0, 0] ++ l

/-- A flit of 48 bytes (R367), its CRC-32C over the first 44. -/
def flitBytes (m : CanalMsg) (first last : Bool) (fseq ack crCls crTotal : Nat) (data : List Nat) : List Nat :=
  let b := [m.body.cls + 8 * b2n first + 16 * b2n last,
            (match m.dest with | some z => z % 64 + m.destUnit % 2 * 128 | none => 64),
            m.src % 64 + m.srcUnit % 2 * 128, data.length] ++ toBytes 2 (fseq % 4096) ++ [0, 0] ++
    (data ++ List.replicate (32 - data.length) 0) ++ toBytes 2 (ack % 4096) ++ [crCls, crTotal % 256]
  b ++ toBytes 4 (crc32c b)

/-- The flits of a message that leaves a port, the first with sequence number `fseq`: 32 bytes each, the credit totals class by class (R367, R368). -/
def CanalPort.flits (c : CanalPort) (m : CanalMsg) (fseq : Nat) : List (List Nat) := match m.bytes with
  | none => []
  | some l =>
    let n := (l.length + 31) / 32
    (List.range n).map fun k =>
      let cls := (c.crNext + k) % 8
      flitBytes m (decide (k = 0)) (decide (k + 1 = n)) (fseq + k) c.rxSeq cls (nth 0 c.rxFreed cls) ((l.drop (32 * k)).take 32)

/-- A message that has been taken frees its flits of the class's receive buffer (R368). -/
def State.flitsFreed (s : State) (p : Nat) (m : CanalMsg) : State :=
  let c := s.cport p
  s.setCport p { c with rxFreed := setNth c.rxFreed m.body.cls ((nth 0 c.rxFreed m.body.cls + m.flits) % 256) }

/-- One message of a port that is UP leaves (R371). -/
def State.canalTurn (s : State) (p : Nat) : State :=
  let c := s.cport p
  if !s.canalUp p then s
  else match c.ready (decide (s.get F.RING_STATUS_CONFLICT = 1)) c.txq with
  | none => s
  | some (m, rest) =>
    let k := m.flits
    let cls := m.body.cls
    let seq := (c.txSeq + k) % 4096
    let c' := { c with txq := rest,
                       credits := setNth c.credits cls (nth 0 c.credits cls - min k (canalBuffer cls)),
                       txSeq := if cls = 7 then c.txSeq else seq,
                       replay := if cls = 7 then c.replay else c.replay ++ [(seq, m)],
                       ackAt := if c.replay = [] then s.now else c.ackAt,
                       crNext := (c.crNext + k) % 8 }
    ((s.setCport p c').emit (.canal p m (c.flits m (c.txSeq + 1)))).inc C.CANAL_FLITS_TX p k

/-- Messages leave a port while credit allows. -/
def State.canalPump (s : State) (p : Nat) : State :=
  s.each (List.range (s.cport p).txq.length) fun s _ => s.canalTurn p

/-- A message is queued at a port and leaves when it can. -/
def State.canalOut (s : State) (p : Nat) (m : CanalMsg) : State :=
  let c := s.cport p
  (s.setCport p { c with txq := canalInsert m c.txq }).canalPump p

/-- The links from position `a` eastward over `n` hops are all up in the map (R376). -/
def State.linksUp (s : State) (a n : Nat) : Bool :=
  (List.range n).all fun i => !(s.canal.down.contains ((a + i) % s.ringSize))

/-- The port a unicast message to zone z leaves by: fewer hops, east on a tie, unless the map shows that way broken
(R376). -/
def State.canalWay (s : State) (z : Nat) : Option Nat :=
  let n := s.ringSize
  let me := s.number
  let he := (z % n + n - me % n) % n
  let hw := (me % n + n - z % n) % n
  let east := s.canalUp 0 && s.linksUp (me % n) he
  let west := s.canalUp 1 && s.linksUp (z % n) hw
  -- the partner unit of the same number stands east of a primary, west of a secondary (R373)
  if he = 0 ∧ s.get F.RING_STATUS_UNIT = 1 then (if s.canalUp 1 then some 1 else if s.canalUp 0 then some 0 else none)
  else if he ≤ hw then (if east then some 0 else if west then some 1 else none)
  else (if west then some 1 else if east then some 0 else none)

/-- A message comes to this chip: whether it is already among the last 32 MSEQ of its origin, unit and class, and the state that
keeps it (R372). -/
def State.canalHeard (s : State) (src unit cls mseq : Nat) : Bool × State :=
  match s.canal.seen.find? fun e => decide (e.1 = src ∧ e.2.1 = unit ∧ e.2.2.1 = cls) with
  | some e =>
    if e.2.2.2.contains mseq then (true, s)
    else
      let l := s.canal.seen.filter fun x => !(decide (x.1 = src ∧ x.2.1 = unit ∧ x.2.2.1 = cls))
      (false, { s with canal := { s.canal with seen := (src, unit, cls, lastN 32 (e.2.2.2 ++ [mseq])) :: l } })
  | none => (false, { s with canal := { s.canal with seen := (src, unit, cls, [mseq]) :: s.canal.seen } })

/-- The next message number of a class (R372). -/
def State.takeMseq (s : State) (cls : Nat) : Nat × State :=
  let v := nth 0 s.canal.mseq cls
  (v, { s with canal := { s.canal with mseq := setNth s.canal.mseq cls ((v + 1) % 2 ^ 16) } })

/-- A message of this chip to one zone; without a path it is discarded and counted in UNROUTABLE (R376). -/
def State.canalUnicast (s : State) (z unit : Nat) (b : CanalBody) : State :=
  let (q, s) := s.takeMseq b.cls
  match s.canalWay z with
  | some p => s.canalOut p ⟨some z, unit, s.number, s.get F.RING_STATUS_UNIT, q, 0, decide (p = 1), b⟩
  | none => s.inc C.CANAL_UNROUTABLE

/-- A broadcast of this chip, out of both ports (R376). -/
def State.canalBroadcast (s : State) (b : CanalBody) : State :=
  let (q, s) := s.takeMseq b.cls
  let m : CanalMsg := ⟨none, 0, s.number, s.get F.RING_STATUS_UNIT, q, 0, false, b⟩
  let s := if s.canalUp 0 then s.canalOut 0 m else s
  if s.canalUp 1 then s.canalOut 1 { m with west := true } else s

/-- A message to the partner unit: east of the primary, west of the secondary, or round the ring (R373, R395); with no
path it is dropped. -/
def State.pairSend (s : State) (m : PairMsg) : State :=
  let (q, s) := s.takeMseq 2
  let unit := s.get F.RING_STATUS_UNIT
  let near := if unit = 0 then 0 else 1
  let p := if s.canalUp near then some near else if s.canalUp (1 - near) then some (1 - near) else none
  match p with
  | some p => s.canalOut p ⟨some s.number, 1 - unit, s.number, unit, q, 0, decide (p = 1), .pair m⟩
  | none => s.inc C.CANAL_UNROUTABLE

/-- A LEASE message to another zone (R243). -/
def State.leaseSend (s : State) (z : Nat) (m : LeaseMsg) : State := s.canalUnicast z 0 (.lease m)

/-- A link-local CTRL flit out of one port. -/
def State.ctrlOut (s : State) (p : Nat) (b : CanalBody) : State :=
  s.canalOut p ⟨none, 0, 0, 0, 0, 0, decide (p = 1), b⟩

end Sys2Proof.Machine
end

