-- ==== Sys2Proof/Machine/FlumeOps.lean ====
section
/-! DEFINITION. Flume queues to the host (R347 to R356) and the raising and writing of event records (R464 to R473). -/
namespace Sys2Proof.Machine
open Sys2Proof

/-! ### Flume queues to the host (R348 to R354) -/

/-- A queue. -/
def State.q (s : State) (n : Nat) : FQ := nth {} s.fq n
/-- The state with a queue replaced. -/
def State.setQ (s : State) (n : Nat) (q : FQ) : State := { s with fq := setNth s.fq n q }

/-- Bytes a record takes in a ring or frame: its header and its padded payload (R348). -/
def FRec.size (r : FRec) : Nat := 4 + (r.len + 3) / 4 * 4
/-- Bytes of a list of records. -/
def recBytes (l : List FRec) : Nat := l.foldl (fun n r => n + r.size) 0
/-- Bytes held in a queue to the host: waiting, being framed, and kept until acknowledged (R350, R354). -/
def FQ.fill (q : FQ) : Nat :=
  if q.toChip then q.inFill
  else recBytes q.ring + recBytes q.opened + (if q.ovw then 0 else q.unacked.foldl (fun n f => n + recBytes f.recs) 0)

/-- Raise a queue event (R351). -/
def State.qevent (s : State) (n b : Nat) : State :=
  let q := s.q n
  let s := s.setQ n { q with qev := Nat.lor q.qev (2 ^ b) }
  if s.srcAsserts (256 + n) then s.assertSrc (256 + n) else s

/-- The port a queue sends on: PORT_SEL, or either port whose link is up (R364). -/
def State.qPort (s : State) (q : FQ) : Option Nat :=
  let up := fun i => decide (s.get F.ETH_STATUS_LINK i = 1)
  match q.portSel with
  | 0 => if up 0 then some 0 else none
  | 1 => if up 1 then some 1 else none
  | _ => if up 0 then some 0 else if up 1 then some 1 else none

/-- Room for records in a frame of the maximum size (R349): 1,518 or 9,018 bytes less Ethernet and Flume framing. -/
def State.frameRoom (s : State) (q : FQ) : Nat :=
  if s.get F.ETH_CFG_JUMBO ((s.qPort q).getD 0) = 1 then 8984 else 1484

/-- The priority is paused by the link partner of a port (R357). -/
def State.paused (s : State) (port prio : Nat) : Bool := bit (s.get F.ETH_STATUS_PAUSED_RX port) prio

/-- Flume traffic of this chip goes through the head chip: FUNNEL_EN on a chip that is not the head (R361). -/
def State.funnelled (s : State) : Bool := decide (s.get F.FLUME_CFG_FUNNEL_EN = 1) && !s.isHead

/-! ### What stands on the wire (R347, R348, R356, R358, R464) -/

/-- The bytes of an event record, its CRC included (R464). -/
def EvRec.bytes (r : EvRec) : List Nat :=
  let b := toBytes 4 r.seq ++ toBytes 8 r.time ++ toBytes 2 r.code ++ toBytes 2 r.source ++ [r.epoch, r.rflags]
    ++ toBytes 2 r.arg0 ++ toBytes 4 r.arg1 ++ toBytes 4 r.arg2
  b ++ toBytes 4 (crc32c b)

/-- The bytes of a COMPL record (R358). -/
def Compl.bytes (c : Compl) : List Nat :=
  [c.tag, c.err, c.wire % 256, c.wire / 256 % 16 + b2n c.data.isSome * 16] ++ toBytes 3 c.index ++ [0] ++
    (match c.data with | some d => toBytes 64 d | none => [])

/-- RTYPE of a record. -/
def FBody.rtype : FBody → Nat
  | .event _ => 7
  | .compl _ => 5
  | .bytes t _ => t

/-- The payload of a record. -/
def FBody.payload : FBody → List Nat
  | .event r => r.bytes
  | .compl c => c.bytes
  | .bytes _ b => b

/-- A fragment: its header, its part of the payload, zero bytes to a multiple of 4 (R348). -/
def FRec.bytes (r : FRec) : List Nat :=
  toBytes 2 r.len ++ [r.body.rtype, b2n r.first + 2 * b2n r.last + 4 * b2n r.lossBefore] ++ (r.body.payload.drop r.at_).take r.len ++
    List.replicate ((4 - r.len % 4) % 4) 0

/-- The header of a Flume frame, then its records (R347). -/
def flumeHeader (typ queue zone seq session n : Nat) (recs : List Nat) : List Nat :=
  [1, typ, queue, zone] ++ toBytes 4 seq ++ toBytes 2 session ++ toBytes 2 recs.length ++ toBytes 2 n ++ [0, 0] ++ recs

/-- A DATA frame from its Flume header on. -/
def FFrame.bytes (f : FFrame) : List Nat := flumeHeader 0 f.queue f.zone f.seq f.session f.recs.length (f.recs.flatMap FRec.bytes)

/-- A CREDIT frame from its Flume header on (R356). -/
def creditBytes (zone session : Nat) (l : List Credit) : List Nat :=
  flumeHeader 1 0 zone 0 session l.length (l.flatMap fun c => [c.queue, c.zone] ++ toBytes 2 c.window ++ toBytes 4 c.ack)

/-- The MAC address of a port. -/
def State.macOf (s : State) (port : Nat) : Nat := s.get F.ETH_MAC_LO port + s.get F.ETH_MAC_HI port % 2 ^ 16 * 2 ^ 32

/-- An Ethernet frame of a port to the host, whole: DA HOST_MAC, SA the port's, the 802.1Q tag with VLAN_EN, padding to the Ethernet minimum and FCS
(R347, R363). -/
def State.ethWire (s : State) (port prio etype : Nat) (payload : List Nat) : List Nat :=
  let host := s.get F.HOST_MAC_LO + s.get F.HOST_MAC_HI % 2 ^ 16 * 2 ^ 32
  let tag := if s.get F.ETH_CFG_VLAN_EN port = 1 then [0x81, 0x00] ++ (toBytes 2 (prio * 2 ^ 13 + s.get F.ETH_CFG_VLAN_ID port)).reverse else []
  let b := (toBytes 6 host).reverse ++ (toBytes 6 (s.macOf port)).reverse ++ tag ++ (toBytes 2 etype).reverse ++ payload
  let b := b ++ List.replicate (60 - b.length) 0
  b ++ toBytes 4 (crc32 b)

/-- A DATA frame leaves by a port. -/
def State.emitFlume (s : State) (port : Nat) (f : FFrame) : State :=
  s.emit (.flume port f (s.ethWire port f.prio (s.get F.FLUME_CFG_ETHERTYPE) f.bytes))

/-- A CREDIT frame leaves by a port, with priority 7 (R356). -/
def State.emitCredit (s : State) (port zone session : Nat) (l : List Credit) : State :=
  s.emit (.credit port zone session l (s.ethWire port 7 (s.get F.FLUME_CFG_ETHERTYPE) (creditBytes zone session l)))

/-- A frame leaves: from the queue's port, or over the Canal to the head chip, under the queue's PORT_SEL (R361, R364);
nothing where there is no way out. -/
def State.sendFrame (s : State) (q : FQ) (f : FFrame) : State :=
  if s.funnelled then (s.canalUnicast 0 0 (.bulk q.portSel f)).inc C.FLUME_FRAMES_TX
  else match s.qPort q with
    | some port => ((s.emitFlume port f).inc C.FLUME_FRAMES_TX).inc C.ETH_FRAMES_TX port
    | none => s

/-- A queue may send now: a way out, no pause of its priority, and FLUME ON (R357, R364). -/
def State.qMay (s : State) (q : FQ) : Bool :=
  (s.isOn .flume || decide (s.st ⟨.flume, 0⟩ = stStopping)) && (s.funnelled || match s.qPort q with | some port => !s.paused port q.prio | none => false)

/-- One turn of a queue to the host: a closed frame is sent when the window, the link and PFC allow (R349, R354, R357);
otherwise the next record of the ring enters the frame being filled, which is closed when the record does not fit or
FLUSH_US is 0. -/
def State.qTurn (s : State) (n : Nat) : State :=
  let q := s.q n
  if q.closed then
    let seq := (q.txSeq + 1) % 2 ^ 32
    if (seq + 2 ^ 32 - q.ackSeq) % 2 ^ 32 ≤ q.window ∧ s.qMay q then
      let f : FFrame := ⟨n, s.number, seq, s.get F.FLUME_STATUS_SESSION, q.opened, q.prio⟩
      let q' := { q with txSeq := seq, opened := [], closed := false,
                         ackAt := if q.unacked = [] then s.now else q.ackAt,
                         unacked := if q.ovw then [] else q.unacked ++ [f] }
      (s.setQ n q').sendFrame q f
    else s
  else match q.ring with
  | [] => s
  | r :: rest =>
    if recBytes q.opened + r.size ≤ s.frameRoom q then
      s.setQ n { q with ring := rest, opened := q.opened ++ [r],
                        openedAt := if q.opened = [] then s.now else q.openedAt,
                        closed := decide (s.get F.FLUSH_US = 0 ∧ r.last) }
    else s.setQ n { q with closed := true }

/-- Turns of a queue until nothing more moves: at most twice for each waiting record, and the closing send. -/
def State.qPump (s : State) (n : Nat) : State :=
  s.each (List.range (2 * (s.q n).ring.length + 3)) fun s _ => s.qTurn n

/-- The record cut into fragments that fit a frame (R348). -/
def fragments (room : Nat) (lossBefore : Bool) (body : FBody) (total : Nat) : Nat → Nat → List FRec
  | 0, _ => []
  | k + 1, at_ =>
    let room' := (room - 4) / 4 * 4
    if total - at_ ≤ room' then [⟨total - at_, at_, decide (at_ = 0), true, lossBefore && decide (at_ = 0), body⟩]
    else ⟨room', at_, decide (at_ = 0), false, lossBefore && decide (at_ = 0), body⟩ ::
      fragments room lossBefore body total k (at_ + room')

/-- What follows the record that stands first: its fragments up to and including the LAST one are dropped. -/
def dropRec : List FRec → List FRec
  | [] => []
  | r :: rest => if r.last then rest else dropRec rest

/-- Drop the oldest record of a ring that has not begun to be framed: what is left of one whose first fragment has been stays (R353). -/
def dropOldest : List FRec → List FRec
  | [] => []
  | r :: rest => if r.first then dropRec (r :: rest) else r :: dropOldest rest

/-- Room for a record in a queue to the host; a disabled queue takes, and loses, everything (R352, R353). -/
def State.qRoom (s : State) (n len : Nat) : Bool :=
  let q := s.q n
  !q.en || decide (q.ringKB = 0) || q.ovw || s.fifoOff ⟨.flume, 0⟩ n || decide (q.fill + 8 + (len + 3) / 4 * 4 ≤ q.ringKB * 1024)

/-- Count records lost by a queue (R342, R351). -/
def State.qLose (s : State) (n k : Nat) : State :=
  let q := s.q n
  (s.setQ n { q with lost := satAdd q.lost k 0xFFFFFFFF, lossMark := true }).qevent n 0

/-- Make room in an overwriting ring by dropping whole records from the oldest (R353); `fuel` bounds the drops. -/
def State.qMakeRoom (s : State) (n need : Nat) : Nat → State
  | 0 => s
  | k + 1 =>
    let q := s.q n
    if q.fill + need ≤ q.ringKB * 1024 ∨ !(q.ring.any (·.first)) then s
    else ((s.setQ n { q with ring := dropOldest q.ring }).qLose n 1).qMakeRoom n need k

/-- Put a record on a queue to the host. A disabled queue loses it (R352); a full overwriting one loses its oldest
(R353); a full one that does not overwrite has its source wait (R353). -/
def State.qPush (s : State) (n len : Nat) (body : FBody) : State :=
  let q := s.q n
  if !q.en || decide (q.ringKB = 0) || s.fifoOff ⟨.flume, 0⟩ n then s.qLose n 1
  else if q.wait ≠ [] || !s.qRoom n len then s.setQ n { q with wait := q.wait ++ [(len, body)] }
  else
    let s : State := if q.ovw then s.qMakeRoom n (4 + (len + 3) / 4 * 4) q.ring.length else s
    let q := s.q n
    let l := fragments (s.frameRoom q) q.lossMark body len (len / 1024 + 1) 0
    (s.setQ n { q with ring := q.ring ++ l, lossMark := false }).qPump n

/-- The records that wait for room in a queue enter it in their order, as far as they can. -/
def State.qWaits (s : State) (n : Nat) : State :=
  let l := (s.q n).wait
  (s.setQ n { s.q n with wait := [] }).each l fun s x => s.qPush n x.1 x.2

/-- Put a STREAM record of bytes on a queue (R348). -/
def State.qBytes (s : State) (n : Nat) (b : List Nat) : State := s.qPush n b.length (.bytes 7 b)

/-! ### Event records (R464 to R473) -/

/-- SYSTEM codes and the other kinds, as CODE carries them (R465). -/
def evCode (kind number : Nat) (injected : Bool := false) : Nat := kind * 0x2000 + b2n injected * 0x1000 + number % 0x1000

/-- RATE and BURST of a code's weir: its entry of EVLOG table 1, or WEIR_DEF (R467, R475). -/
def State.weirOf (s : State) (code : Nat) : Nat × Nat :=
  let p : Page := ⟨.evlog, 0⟩
  match (List.range 64).find? fun i => let e := s.te p 1 i; decide (bits e 0 16 = code ∧ bits e 48 1 = 1) with
  | some i => let e := s.te p 1 i; (bits e 16 16, bits e 32 16)
  | none => (s.get F.WEIR_DEF_RATE, s.get F.WEIR_DEF_BURST)

/-- The tokens that have fallen due are added, none above BURST (R467); with RATE 0 none falls due. -/
def Bucket.refill (b : Bucket) (rate burst now : Nat) : Bucket :=
  if rate = 0 ∨ now < b.due then b
  else
    let period := 1000000000000 / rate
    let k := (now - b.due) / period + 1
    { b with tokens := min burst (b.tokens + k), due := b.due + k * period }

/-- A bucket at its code's first record: full (R467). -/
def Bucket.fresh (code : Option Nat) (rate burst now : Nat) : Bucket :=
  ⟨code, burst, now + (if rate = 0 then 0 else 1000000000000 / rate), now⟩

/-- The global weir (R467). -/
def globalRate : Nat := 10000
/-- Its burst. -/
def globalBurst : Nat := 1024

/-- LINK is up as far as the recorder goes: not reported failing (DEDUCED, log entry 113). -/
def State.linkOn (s : State) : Bool := !(bit (s.get F.SVC_STATUS_FAILED_REGIONS) 5)

/-- Capacity of the DRAM extension in records (R470): none with EXT_EN = 0 or an empty partition. -/
def State.extCap (s : State) : Nat :=
  if s.get F.LOG_CFG_EXT_EN = 1 then min (2 ^ 20) (s.get F.PART_SIZE_SIZE 0 0 * 2 ^ 20 / 32) else 0

/-- The extension takes the records of the circulating area that it has not taken, in SEQ order (R470). An overwrite of the oldest record is not
counted: R470 says that it is no loss, against R22 and R342 (DESIGN CHOICE, log entry 17). -/
def State.extDrain (s : State) : State :=
  if s.extCap = 0 ∨ ¬ s.isOn .dram then s
  else
    let e := s.ev
    let new := (e.circ.filter fun c => !c.ext).map (·.ent)
    { s with ev := { e with ext := lastN s.extCap (e.ext ++ new), circ := e.circ.map fun c => { c with ext := true } } }

/-- Queue 16 takes the records of the circulating area that it has not taken, in SEQ order (R470). -/
def State.hostDrain (s : State) : State :=
  if s.get F.LOG_CFG_HOST_EN = 0 then s
  else
    let new := (s.ev.circ.filter fun c => !c.host).map (·.ent)
    let s : State := { s with ev := { s.ev with circ := s.ev.circ.map fun c => { c with host := true } } }
    s.each new fun s r => s.qPush 16 32 (.event r)

/-- Count a record of the event log lost (R470): LOG_LOST, the pending LOSS record, IRQ bit LOSS. -/
def State.logLose (s : State) (seq : Nat) : State :=
  let e := s.ev
  let s : State := { s with ev := { e with lossCount := e.lossCount + 1, lossFirst := if e.lossCount = 0 then seq else e.lossFirst } }
  (s.incLost F.LOG_LOST).irq ⟨.evlog, 0⟩ I.EVLOG_LOSS

/-- The oldest record that may be overwritten: the first that is not pinned (R473), with the rest. -/
def takeOldest : List CircRec → Option (CircRec × List CircRec)
  | [] => none
  | c :: r => if c.pin then (takeOldest r).map fun x => (x.1, c :: x.2) else some (c, r)

/-- A record enters the circulating area (R470); a full area loses its oldest, which counts when an enabled
destination has not taken it. -/
def State.toCirc (s : State) (r : EvRec) (pin : Bool) : State :=
  let s : State := if s.ev.circ.length < 8192 then s else
    match takeOldest s.ev.circ with
    | none => s
    | some (c, rest) =>
      let s : State := { s with ev := { s.ev with circ := rest } }
      if (decide (0 < s.extCap) && !c.ext) || (decide (s.get F.LOG_CFG_HOST_EN = 1) && !c.host) then s.logLose c.ent.seq else s
  let s : State := { s with ev := { s.ev with circ := s.ev.circ ++ [⟨r, false, false, pin⟩] } }
  (s.extDrain).hostDrain

/-- The slots of a founding area that are taken: programmed, awaiting their programming, or left erased (R472, R473). -/
def EvLogSt.usedSlots (e : EvLogSt) (area : Nat) : List Nat :=
  (((e.founding ++ e.pendingFound).map fun f => (f.area, f.slot)) ++ e.lostSlots).filterMap fun x => if x.1 = area then some x.2 else none

/-- The next general slot of a founding area (R472). -/
def EvLogSt.nextSlot (e : EvLogSt) (area : Nat) : Nat :=
  ((e.usedSlots area).filter fun k => k < 4096).foldl (fun n k => max n (k + 1)) 0

/-- The next setting slot of a founding area (R472). -/
def EvLogSt.nextSetSlot (e : EvLogSt) (area : Nat) : Nat :=
  ((e.usedSlots area).filter fun k => 4096 ≤ k).foldl (fun n k => max n (k - 4096 + 1)) 0

/-- Where a record goes in the founding areas (R472): the next general slot of `area` while it is open and not full,
and for SETTING_CHANGE and SETTING_TORN the next setting slot. -/
def EvLogSt.foundSlots (e : EvLogSt) (area code : Nat) : List Nat :=
  let g := if e.areaOpen.contains area && decide (e.nextSlot area < 4096) then [e.nextSlot area] else []
  let t := if (code = evCode 4 7 ∨ code = evCode 4 8) ∧ e.nextSetSlot area < 256 then [4096 + e.nextSetSlot area] else []
  g ++ t

/-- The KEEP RTC in 2^-32 ns: fleet time, what a reset took off it, and what has passed while the main domain had no clock (R80). That the
RTC follows fleet time while it runs is the model's (DESIGN CHOICE, log entry 25). -/
def State.rtc (s : State) : Nat :=
  let since := match s.sup.downAt with | some t => some t | none => s.clk.gapAt
  s.ft + s.sup.rtcAhead + (match since with | some t => (s.now - t) * 2 ^ 32 / 1000 | none => 0)

/-- No fleet-time counter runs: in BATTERY, with no root input, and before the root has locked (R20, R80, R471). -/
def State.noCounter (s : State) : Bool := s.sup.battery || s.clk.lost || s.sup.downAt.isSome

/-- A record that has passed is written: it takes the next SEQ (R469), enters the KEEP tail (R471), the founding area
(R472), and the staging buffer or the circulating area (R470). In BATTERY and without a fleet-time counter it carries the RTC, and KEEP_TIME is
set (R464, R471). -/
def State.writeRec (s : State) (code source arg0 arg1 arg2 : Nat) (area : Nat) : State :=
  let e := s.ev
  let slots := e.foundSlots area code
  let r : EvRec :=
    { seq := e.nextSeq, time := if s.noCounter then s.rtc / 2 ^ 32 else s.fleetNs, code := code, source := source, epoch := s.get F.TIME_STATUS_EPOCH,
      rflags := (if s.sup.battery then 15 else s.get F.TIME_STATUS_TQ % 16) + b2n s.noCounter * 16
        + b2n (!slots.isEmpty) * 32 + b2n e.bankB * 64 + b2n e.fallback * 128,
      arg0 := arg0 % 2 ^ 16, arg1 := arg1 % 2 ^ 32, arg2 := arg2 % 2 ^ 32 }
  let e := { e with nextSeq := (e.nextSeq + 1) % 2 ^ 32, tail := lastN 256 (e.tail ++ [r]),
                    pendingFound := e.pendingFound ++ slots.map fun k => ⟨area, k, r⟩ }
  let s := ({ s with ev := e }.inc C.EVLOG_RECORDS).set F.NEWEST_SEQ r.seq
  let s := s.on (slots.contains 4095) fun s => s.irq ⟨.evlog, 0⟩ I.EVLOG_FOUND_CLOSED
  if s.sup.battery then s
  else if s.linkOn then s.toCirc r (!slots.isEmpty)
  else if s.ev.staging.length < 64 then { s with ev := { s.ev with staging := s.ev.staging ++ [r] } }
  else match s.ev.staging with
    | [] => s
    | o :: rest => { s with ev := { s.ev with staging := rest ++ [r] } }.logLose o.seq

/-- The first record written after a loss is preceded by a LOSS record (R470). -/
def State.writeLoss (s : State) : State :=
  if s.ev.lossCount = 0 then s
  else
    let k := s.ev.lossCount
    let f := s.ev.lossFirst
    { s with ev := { s.ev with lossCount := 0 } }.writeRec (evCode 4 2) (Page.evSource ⟨.evlog, 0⟩ 0xFF) 0 k f s.ev.area

/-- The bucket of a code at a record: its own, one newly given, or the shared one when none is free (R467); the Boolean
says that it is the shared one. -/
def State.bucketFor (s : State) (code : Nat) : Bucket × Bool :=
  let (rate, burst) := s.weirOf code
  match s.ev.buckets.find? fun b => b.code = some code with
  | some b => (b.refill rate burst s.now, false)
  | none =>
    if s.ev.buckets.length < 511 then (Bucket.fresh (some code) rate burst s.now, false)
    else
      let r := s.get F.WEIR_DEF_RATE
      let b := s.get F.WEIR_DEF_BURST
      ((if s.ev.shared.due = 0 then Bucket.fresh none r b s.now else s.ev.shared.refill r b s.now), true)

/-- The state with a code's bucket replaced. -/
def State.putBucket (s : State) (code : Nat) (b : Bucket) (isShared : Bool) : State :=
  if isShared then { s with ev := { s.ev with shared := b } }.inc C.EVLOG_BUCKET_SHARED
  else { s with ev := { s.ev with buckets := b :: s.ev.buckets.filter fun x => x.code ≠ some code } }

/-- A record fails a weir: it takes no SEQ and is counted for its code (R468). -/
def State.suppress (s : State) (code source : Nat) : State :=
  let l := s.ev.suppressed
  let l := match l.find? fun x => x.code = code with
    | some x => { x with count := x.count + 1, source := source } :: l.filter fun y => y.code ≠ code
    | none => ⟨code, 1, s.fleetMs % 2 ^ 32, source⟩ :: l
  { s with ev := { s.ev with suppressed := l } }.inc C.EVLOG_SUPPRESSED

/-- The records that bypass both weirs (R468). -/
def bypasses (code source : Nat) : Bool :=
  decide (code / 0x2000 = 3) || (decide (code / 0x2000 = 4 ∧ 1 ≤ code % 0x1000 ∧ code % 0x1000 ≤ 10)) || decide (source / 0x2000 = 7)

/-- A record that passes takes a global token, where one is present, and is written, behind the LOSS record of a loss (R467, R468, R470). -/
def State.putRec (s : State) (code source arg0 arg1 arg2 area : Nat) : State :=
  let g := s.ev.global.refill globalRate globalBurst s.now
  let s : State := { s with ev := { s.ev with global := { g with tokens := g.tokens - 1 } } }
  s.writeLoss.writeRec code source arg0 arg1 arg2 area

/-- Suppressed codes in ascending order. -/
def insertSuppr (x : Suppr) : List Suppr → List Suppr
  | [] => [x]
  | y :: r => if x.code < y.code then x :: y :: r else y :: insertSuppr x r

/-- One SUMMARY record (R466, R468), which bypasses the weirs. -/
def State.summary (s : State) (x : Suppr) : State :=
  (s.putRec (evCode 4 1) x.source x.code x.count x.firstMs s.ev.area).inc C.EVLOG_SUMMARIES

/-- In a new whole fleet second, one SUMMARY for each code that had suppressions in the second just ended, in ascending CODE order and before any
record of the new second (R468). -/
def State.newSecond (s : State) : State :=
  if s.fleetSec = s.ev.lastSumSec ∨ s.noCounter then s
  else
    let l := s.ev.suppressed.foldr insertSuppr []
    ({ s with ev := { s.ev with suppressed := [], lastSumSec := s.fleetSec } } : State).each l State.summary

/-- A rule raises an event: it passes its weir and the global weir, or bypasses them, and is written; or it is
suppressed (R467, R468). In BATTERY one record of a code in a second goes to the tail alone (R471). -/
def State.eventAt (s : State) (code source arg0 arg1 arg2 area : Nat) : State :=
  let s := s.newSecond
  let (first, s) := if s.sup.battery then s.firstInSecond (0x10000 + code) (s.rtc / 2 ^ 32 / 1000000000) else (true, s)
  if !first then s
  else if bypasses code source then s.putRec code source arg0 arg1 arg2 area
  else
    let (b, sh) := s.bucketFor code
    let b := { b with last := s.now }
    if b.tokens = 0 then (s.putBucket code b sh).suppress code source
    else
      let s := s.putBucket code { b with tokens := b.tokens - 1 } sh
      if (s.ev.global.refill globalRate globalBurst s.now).tokens = 0 then s.suppress code source
      else s.putRec code source arg0 arg1 arg2 area

/-- An event of the current founding area. -/
def State.event (s : State) (code source arg0 arg1 arg2 : Nat) : State := s.eventAt code source arg0 arg1 arg2 s.ev.area

/-- A NOTICE that the raising rule ties to an IRQ_STATUS bit (R465): sets the bit and records it. -/
def State.notice (s : State) (p : Page) (n : Nat) (arg1 : Nat := 0) (arg2 : Nat := 0) (arg0 : Nat := 0) (cell : Nat := 0xFF) : State :=
  (s.irq p n).event (evCode 0 n) (p.evSource cell) arg0 arg1 arg2

/-- A NOTICE named after a counter of the page, where the raising rule sets no bit (R465). -/
def State.noticeCtr (s : State) (p : Page) (c : Ctr) (arg1 : Nat := 0) (arg2 : Nat := 0) (arg0 : Nat := 0) (cell : Nat := 0xFF) : State :=
  s.event (evCode 0 (0x100 + (c.off - 0x040) / 8)) (p.evSource cell) arg0 arg1 arg2

/-- A SYSTEM record (R466). -/
def State.sysEvent (s : State) (number : Nat) (p : Page) (arg0 arg1 arg2 : Nat) : State :=
  s.event (evCode 4 number) (p.evSource 0xFF) arg0 arg1 arg2


end Sys2Proof.Machine
end

