-- ==== Sys2Proof/Machine/ArbOps.lean ====
section
/-! DEFINITION. The arbiter of a region (R332 to R339): levels, round robin, quotas, grants, parked requests and freeze. -/
namespace Sys2Proof.Machine
open Sys2Proof

/-- A FABRIC_CLK cycle at 400 MHz, ps (R16). -/
def cyclePs : Nat := 2500

/-- The arbiter of a region. -/
def State.arbOf (s : State) (r : Nat) : ArbSt := nth {} s.arb r
/-- The state with a region's arbiter replaced. -/
def State.setArb (s : State) (r : Nat) (a : ArbSt) : State := { s with arb := setNth s.arb r a }

/-- The requester number of a block's page (R332). -/
def Page.requester (p : Page) : Nat :=
  let before := (Blk.all.filter fun b => decide (b.region = p.region ∧ b.num < p.blk.num)).foldl (fun n b => n + b.count) 0
  before + p.inst

/-- A requester that exists: a block port, the bridge or the scrubber (R332). -/
def isRequester (region r : Nat) : Bool := decide (r < regionNreq region ∨ r = 30 ∨ r = 31)

/-- PRIO of a requester; it reads 1 for requester 31. -/
def State.arbPrio (s : State) (region r : Nat) : Bool := decide (r = 31 ∨ s.get F.ARB_REQ_PRIO region r = 1)

/-- A requester with PRIO = 1 that has had QUOTA grants in the window is masked; requester 31 never is (R334). -/
def State.arbMasked (s : State) (region r : Nat) : Bool :=
  decide (r ≠ 31) && s.arbPrio region r && decide (s.get F.ARB_REQ_QUOTA region r ≤ AMap.get (fun _ => 0) (s.arbOf region).used r)

/-- The level at which a requester is chosen (R334). -/
def State.arbLevel (s : State) (region r : Nat) : Nat :=
  if s.arbMasked region r then 2 else if s.arbPrio region r then 0 else 1

/-- Round robin after the last requester granted: the waiting requester nearest above it, cyclically (R334). -/
def roundRobin (last : Nat) (l : List Nat) : Option Nat :=
  ((List.range 32).map fun k => (last + 1 + k) % 32).find? l.contains

/-- The requester to be granted next (R334, R338). -/
def State.arbPick (s : State) (region : Nat) : Option (Nat × Nat) :=
  let a := s.arbOf region
  let w := (a.parked.map (·.who)).filter fun r => decide (s.get F.ARB_CTRL_FREEZE region = 0 ∨ r = 31)
  let at_ := fun lv => (roundRobin (nth 31 a.last lv) (w.filter fun r => decide (s.arbLevel region r = lv))).map fun r => (lv, r)
  match at_ 0 with
  | some x => some x
  | none => match at_ 1 with
    | some x => some x
    | none => at_ 2

/-- MASKED as a word. -/
def State.arbMask (s : State) (region : Nat) : Nat :=
  (List.range 32).foldl (fun m r => m + b2n (s.arbMasked region r) * 2 ^ r) 0

/-- The registers that show the arbiter. -/
def State.arbShow (s : State) (region : Nat) : State :=
  let a := s.arbOf region
  let s := match a.grant with
    | some g => (s.set F.ARB_STATUS_OWNER g.req.who region).set F.ARB_STATUS_ACTIVE 1 region
    | none => s.set F.ARB_STATUS_ACTIVE 0 region
  let s := s.set F.ARB_STATUS_PENDING a.parked.length region
  let s := s.set F.MASKED (s.arbMask region) region
  let drained := decide (s.get F.ARB_CTRL_FREEZE region = 1) && a.grant.isNone && a.decideAt.isNone
  let rise := drained && decide (s.get F.ARB_STATUS_DRAINED region = 0)
  (s.set F.ARB_STATUS_DRAINED (b2n drained) region).on rise fun s => s.irq ⟨.regionCtl, region⟩ I.REGION_CTL_DRAINED

/-- Remove the first request of a requester. -/
def takeReq (r : Nat) : List ArbReq → Option (ArbReq × List ArbReq)
  | [] => none
  | q :: l => if q.who = r then some (q, l) else (takeReq r l).map fun x => (x.1, q :: x.2)

/-- A slot freed in a requester's queue takes the request whose handshake waits (R335). -/
def ArbSt.unstall (a : ArbSt) (r : Nat) (now : Nat) : ArbSt :=
  if 4 ≤ (a.parked.filter fun q => q.who = r).length then a
  else match takeReq r a.stalled with
    | some (q, l) => { a with parked := a.parked ++ [{ q with at_ := now }], stalled := l }
    | none => a

/-- GRANTS, WAIT_CYCLES and LONGEST_WAIT of a requester (R339): offset `k` of its three counters. -/
def arbCtr (region r k : Nat) : Nat := Page.adr ⟨.regionCtl, region⟩ (0x800 + 0x20 * r + k)

/-- A counter at an address. -/
def State.ctrAt (s : State) (a : Nat) : Nat := (AMap.get (fun _ => (0 : BitVec 64)) s.ctrs a).toNat

/-- A counter at an address replaced. -/
def State.setCtrAt (s : State) (a v : Nat) : State := { s with ctrs := AMap.set (fun _ => 0) s.ctrs a (BitVec.ofNat 64 v) }

/-- A request is granted at a time (R333, R334, R339): its waits counted, and its quota unless it is masked. -/
def State.arbGrant (s : State) (region lv t : Nat) (q : ArbReq) : State :=
  let a := s.arbOf region
  let wait := (t - q.at_) / cyclePs
  let masked := decide (lv = 2)
  let n := AMap.get (fun _ => 0) a.used q.who
  let longest := if a.restart.contains q.who then wait else max wait (s.ctrAt (arbCtr region q.who 0x10))
  let a := { a with grant := some ⟨q, min q.beats (s.get F.ARB_REQ_BURST region q.who)⟩,
                    last := setNth a.last lv q.who,
                    used := if masked then a.used else AMap.set (fun _ => 0) a.used q.who (n + 1),
                    restart := a.restart.filter (· ≠ q.who), decideAt := none }
  (((s.setArb region a).incAt (arbCtr region q.who 0) 1).incAt (arbCtr region q.who 8) wait).setCtrAt (arbCtr region q.who 0x10) longest

/-- The grant decision at a time, with no grant active (R333, R334). -/
def State.arbDecide (s : State) (region t : Nat) : State :=
  let a := s.arbOf region
  if a.grant.isSome then s
  else match s.arbPick region with
    | none => (s.setArb region { a with decideAt := none }).arbShow region
    | some (lv, r) => match takeReq r a.parked with
      | none => s
      | some (q, rest) =>
        ((s.setArb region ({ a with parked := rest }.unstall r t)).arbGrant region lv t q).arbShow region

/-- The decision after a dead cycle is made when its cycle has come (R336). -/
def State.arbSettle (s : State) (region : Nat) : State :=
  match (s.arbOf region).decideAt with
  | some t => if t ≤ s.now then s.arbDecide region t else s
  | none => s

/-- FREEZE ends: parked requests are granted (R338). -/
def State.arbThaw (s : State) (region : Nat) : State :=
  let s := (s.set F.ARB_CTRL_FREEZE 0 region).set F.ARB_CTRL_FREEZE_HOST 0 region
  let s := s.setArb region { s.arbOf region with freezeAt := none }
  if (s.arbOf region).decideAt.isSome then s.arbShow region else (s.arbDecide region s.now).arbShow region

/-- A block leaves ON for FAULT, ISOLATED or OFF: the requests it has parked are discarded (R337). -/
def State.arbDrop (s : State) (p : Page) : State :=
  if p.blk = .regionCtl then s
  else
    let a := s.arbOf p.region
    if a.parked.all (fun q => q.who ≠ p.requester) && a.stalled.all (fun q => q.who ≠ p.requester) then s
    else
      let a := { a with parked := a.parked.filter (·.who ≠ p.requester), stalled := a.stalled.filter (·.who ≠ p.requester) }
      (s.setArb p.region a).arbShow p.region

/-- A clock gap holds every arbiter in its state, and its cycles are not counted (R338): times move on by the gap. -/
def State.arbGap (s : State) (gap : Nat) : State :=
  let mv := fun (a : ArbSt) => { a with
    parked := a.parked.map fun q => { q with at_ := q.at_ + gap },
    stalled := a.stalled.map fun q => { q with at_ := q.at_ + gap },
    winAt := a.winAt + gap, decideAt := a.decideAt.map (· + gap) }
  { s with arb := s.arb.map mv }

end Sys2Proof.Machine
end

