-- ==== Sys2Proof/Machine/DispOps.lean ====
section
/-! DEFINITION. Work items: admission to their flows, the dispatcher's choice, delivery, ordered release, pre-emption and
the trace (R310 to R322), and message records queued for members (R188, R190). -/
namespace Sys2Proof.Machine
open Sys2Proof

/-- The DISPATCH page. -/
abbrev pDISP : Page := ⟨.dispatch, 0⟩
/-- A CORE page. -/
abbrev pCORE (n : Nat) : Page := ⟨.core, n⟩

/-! ### Generations -/

/-- The generation of an owner index: members 0 to 511, contexts 512 to 575, host 576, supervisor 577 (R255). -/
def State.gen (s : State) (i : Nat) : Nat := bits (s.te ⟨.registry, 0⟩ 1 i) 0 16

/-! ### Message records for members -/

/-- A message record: LEN and CLASS, then the data (R188). -/
def msgRecord (cls : Nat) (data : List Nat) : List Nat := toBytes 2 (data.length % 2048 + cls % 32 * 2048) ++ data

/-- A DOWN frame is queued behind the others (R190). -/
def State.queueFrame (s : State) (f : DownFrame) : State := { s with air := { s.air with downq := s.air.downq ++ [f] } }

/-- A message record for a member is queued as a DOWN frame of its own (R190). -/
def State.queueDown (s : State) (member cls : Nat) (data : List Nat) : State :=
  s.queueFrame { typ := 3, member := member, body := msgRecord cls data }

/-! ### Flows and groups (R314, R315) -/

/-- GROUP of a flow. -/
def State.flowGroup (s : State) (f : Nat) : Nat := bits (s.te pDISP 0 f) 0 5
/-- DEPTH of a flow; 0 is taken as 1. -/
def State.flowDepth (s : State) (f : Nat) : Nat := max 1 (bits (s.te pDISP 0 f) 8 3)
/-- EN of a flow. -/
def State.flowEn (s : State) (f : Nat) : Bool := bit (s.te pDISP 0 f) 16
/-- CLASS of a flow's group. -/
def State.flowClass (s : State) (f : Nat) : Nat := s.get F.GROUP_CFG_CLASS 0 (s.flowGroup f)
/-- INFLIGHT: items of the flow in cores. -/
def State.inflight (s : State) (f : Nat) : Nat := (s.disp.items.filter fun i => decide (i.flow = f ∧ i.st = 1)).length
/-- QUEUED: items of the flow waiting. -/
def State.queuedIn (s : State) (f : Nat) : Nat := (s.disp.items.filter fun i => decide (i.flow = f ∧ i.st = 0)).length
/-- READ of a flow (R314). -/
def State.flowEntry (s : State) (f : Nat) : Nat :=
  s.te pDISP 0 f % 2 ^ 24 + min 255 (s.inflight f) * 2 ^ 24 + s.queuedIn f % 2 ^ 16 * 2 ^ 32

/-! ### The payload pool (R312) -/

/-- Every buffer in use: of items and of staged emits. -/
def DispSt.buffers (d : DispSt) : List Nat :=
  d.items.flatMap fun i => (if i.buf = 0xFFFF then [] else [i.buf]) ++ (i.emits.filter fun e => e.buf ≠ 0xFFFF).map (·.buf)

/-- The lowest number from `n` that is not in a list, below `n + fuel`. -/
def lowestFree (used : List Nat) : Nat → Nat → Option Nat
  | 0, _ => none
  | k + 1, n => if used.contains n then lowestFree used k (n + 1) else some n

/-- A buffer for a payload (R312): none needed for LEN 0, a small one up to 64 bytes, else a large one; the lowest free. -/
def State.bufferFor (s : State) (len : Nat) : Option Nat :=
  let used := s.disp.buffers
  if len = 0 then some 0xFFFF
  else if len ≤ 64 then lowestFree used 6144 0
  else lowestFree used 64 0x8000

/-- Descriptors in use: each item's, and one for each staged emit to a flow, which was admitted when it was made (R313, R320). -/
def DispSt.descriptors (d : DispSt) : Nat := d.items.foldl (fun n i => n + 1 + (i.emits.filter fun e => e.dest = 1).length) 0

/-- DISP_STATUS. -/
def State.dispShow (s : State) : State :=
  let small := (s.disp.buffers.filter fun b => decide (b < 0x8000)).length
  (s.set F.DISP_STATUS_ITEMS s.disp.descriptors).set F.DISP_STATUS_SMALL_FREE (6144 - small)

/-! ### Trace (R322) -/

/-- The bytes of a trace record. -/
def TraceRec.bytes (t : TraceRec) : List Nat :=
  toBytes 4 t.timeUs ++ [t.evt, t.where_] ++ toBytes 2 t.flow ++ toBytes 4 t.seq ++ toBytes 4 t.arg

/-- A full buffer of the trace overwrites its `k` oldest records: counted, for the next LOSS record. -/
def State.traceLose (s : State) (k : Nat) : State :=
  if k = 0 then s
  else
    let s : State := { s with disp := { s.disp with traceLost := satAdd s.disp.traceLost k 0xFFFFFFFF } }
    (s.each (List.range k) fun s _ => s.incLost F.TRACE_LOST).irq pDISP I.DISPATCH_TRACE_LOSS

/-- Records go to queue 22, in order, as long as it has room; the rest is answered. -/
def State.traceOut (s : State) : List TraceRec → State × List TraceRec
  | [] => (s, [])
  | t :: r => if s.qRoom 22 16 then (s.qBytes 22 t.bytes).traceOut r else (s, t :: r)

/-- The staging buffer empties into the trace partition while DRAM is ON, and that to queue 22; with no partition straight to the queue. -/
def State.traceDrain (s : State) : State :=
  let d := s.disp
  if s.get F.PART_SIZE_SIZE 0 3 = 0 then
    let (s, l) := ({ s with disp := { d with trace := [] } }).traceOut d.trace
    { s with disp := { s.disp with trace := l } }
  else if s.isOn .dram then
    let l := d.part ++ d.trace
    let cap := s.get F.PART_SIZE_SIZE 0 3 * 2 ^ 16
    let s := ({ s with disp := { d with trace := [], part := [] } }).traceLose (l.length - cap)
    let (s, l) := s.traceOut (lastN cap l)
    { s with disp := { s.disp with part := l } }
  else s

/-- A record enters the staging buffer of 64; a full one loses its oldest. -/
def State.stage (s : State) (t : TraceRec) : State :=
  let s := (if s.disp.trace.length < 64 then s else { s with disp := { s.disp with trace := s.disp.trace.drop 1 } }.traceLose 1)
  { s with disp := { s.disp with trace := s.disp.trace ++ [t] } }

/-- One trace record while TRACE_EN = 1, behind a LOSS record where records were lost. -/
def State.traceRec (s : State) (evt where_ flow seq arg : Nat) : State :=
  if s.get F.DISP_CFG_TRACE_EN = 0 then s
  else
    let t := s.fleetNs / 1000 % 2 ^ 32
    let k := s.disp.traceLost
    let s := if k = 0 then s else { s with disp := { s.disp with traceLost := 0 } }.stage ⟨t, 10, 0, 0, 0, k⟩
    (s.stage ⟨t, evt, where_, flow % 1024, seq, arg⟩).traceDrain

/-- WHERE: context, core and class. -/
def traceWhere (core ctx cls : Nat) : Nat := ctx % 8 + core % 8 * 8 + cls % 4 * 64

/-- A trace record of an item. -/
def State.traceItem (s : State) (evt : Nat) (i : DItem) (arg : Nat := 0) : State :=
  s.traceRec evt (traceWhere i.core i.ctx (s.flowClass i.flow)) i.flow i.seq arg

/-! ### Cores and contexts -/

/-- Items in the contexts of a core. -/
def State.coreItems (s : State) (c : Nat) : List DItem := s.disp.items.filter fun i => decide (i.st = 1 ∧ i.core = c)
/-- The item of a context. -/
def State.ctxItem (s : State) (c x : Nat) : Option DItem := (s.coreItems c).find? fun i => i.ctx = x
/-- The contexts running on a core, newest first. -/
def State.running (s : State) (c : Nat) : List Nat := nth [] s.disp.stack c
/-- The class of the running item of a core. -/
def State.runClass (s : State) (c : Nat) : Option Nat :=
  match s.running c with
  | x :: _ => (s.ctxItem c x).map fun i => s.flowClass i.flow
  | [] => none

/-- CORE_STATUS. -/
def State.coreShow (s : State) (c : Nat) : State :=
  let busy := (s.coreItems c).foldl (fun n i => n + 2 ^ i.ctx) 0
  let s := s.set F.CORE_STATUS_BUSY busy c
  let s := s.set F.CORE_STATUS_RUNNING ((s.running c).headD 0) c
  (s.set F.CORE_STATUS_CLASS ((s.runClass c).getD 0) c).set F.CORE_STATUS_IDLE (b2n (s.running c).isEmpty) c

/-- Replace an item, by flow and SEQ. -/
def State.setItem (s : State) (i : DItem) : State :=
  { s with disp := { s.disp with items := s.disp.items.map fun j => if j.flow = i.flow ∧ j.seq = i.seq then i else j } }

/-- An item that is the oldest waiting one of its flow, whose flow is below DEPTH (R315). -/
def State.ripe (s : State) (i : DItem) : Bool :=
  decide (i.st = 0) && (match s.disp.items.find? fun j => decide (j.flow = i.flow ∧ j.st = 0) with
    | some j => decide (j.seq = i.seq)
    | none => false) && decide (s.inflight i.flow < s.flowDepth i.flow)

/-- Core `c` may take the items of a group: CORE_MASK, and its block ON (R315, R317). -/
def State.coreTakes (s : State) (c g : Nat) : Bool :=
  bit (s.get F.GROUP_CFG_CORE_MASK 0 g) c && s.isOn .core c && !s.dbg.halted.contains c

/-- The lowest free context 0 to 6 of a core (R318). -/
def State.freeCtx (s : State) (c : Nat) : Option Nat :=
  (List.range 7).find? fun x => (s.ctxItem c x).isNone

/-- Deliverable to a core by doorbell (R315, R318). -/
def State.deliverable (s : State) (c : Nat) (i : DItem) : Bool :=
  s.ripe i && s.coreTakes c (s.flowGroup i.flow) && (s.freeCtx c).isSome

/-- The next number after `k`, cyclically below `n`, among a list. -/
def nextIn (l : List Nat) (k n : Nat) : Option Nat := ((List.range n).map fun i => (k + 1 + i) % n).find? fun x => l.contains x

/-- The dispatcher's choice among the items that `ok` admits (R315): the lowest class, its group by deficit round robin,
the group's flow in turn. -/
def State.choose (s : State) (ok : DItem → Bool) : Option (DItem × State) :=
  let cand := s.disp.items.filter ok
  match (List.range 4).find? fun k => cand.any fun i => s.flowClass i.flow = k with
  | none => none
  | some k =>
    let cand := cand.filter fun i => s.flowClass i.flow = k
    let groups := cand.map fun i => s.flowGroup i.flow
    let cur := nth 31 s.disp.turn k
    let d := s.disp
    let gd : Option (Nat × DispSt) :=
      if groups.contains cur ∧ nth 0 d.credits cur ≠ 0 then some (cur, d)
      else (nextIn groups cur 32).map fun g =>
        (g, { d with turn := setNth d.turn k g, credits := setNth d.credits g (nth 0 d.credits g + s.get F.GROUP_CFG_WEIGHT 0 g) })
    match gd with
    | none => none
    | some (g, d) =>
      let flows := (cand.filter fun i => s.flowGroup i.flow = g).map (·.flow)
      match nextIn flows (nth 575 d.last g) 576 with
      | none => none
      | some f => match cand.find? fun i => i.flow = f with
        | none => none
        | some i => some (i, { s with disp := { d with credits := setNth d.credits g (nth 0 d.credits g - 1), last := setNth d.last g f } })

/-- An item enters a context. -/
def State.intoCtx (s : State) (i : DItem) (c x : Nat) : State :=
  let s := s.setItem { i with st := 1, core := c, ctx := x, since := s.now }
  ({ s with disp := { s.disp with stack := setNth s.disp.stack c (x :: nth [] s.disp.stack c) } }).coreShow c

/-- One pre-emption (R319): a ripe class 0 item whose eligible cores all run, into context 7 of the eligible core whose
running item has the highest class, the lowest core number among equals. -/
def State.preempt1 (s : State) : State :=
  let elig := fun (i : DItem) => (List.range 8).filter fun c =>
    s.coreTakes c (s.flowGroup i.flow) && (s.ctxItem c 7).isNone && decide (s.runClass c ≠ some 0)
  let ok := fun (i : DItem) => decide (s.flowClass i.flow = 0) && s.ripe i && !(elig i).isEmpty
    && (elig i).all fun c => !(s.running c).isEmpty
  match s.choose ok with
  | none => s
  | some (i, s') =>
    let l := elig i
    match (([3, 2, 1] : List Nat).flatMap fun k => l.filter fun c => decide (s.runClass c = some k)).head? with
    | none => s
    | some c =>
      let s := ((s'.intoCtx i c 7).inc C.DISPATCH_PREEMPTS).inc C.CORE_PREEMPTED c
      s.traceItem 3 { i with core := c, ctx := 7 }

/-- Pre-emption as long as some item can pre-empt: at most once for each core. -/
def State.preempt (s : State) : State := if s.isOn .dispatch then s.each (List.range 8) fun s _ => s.preempt1 else s

/-! ### Admission (R313) -/

/-- SRC codes of R311. -/
def srcAIR : Nat := 0
/-- SOLVE. -/
def srcSOLVE : Nat := 1
/-- LEASE. -/
def srcLEASE : Nat := 2
/-- REGISTRY. -/
def srcREG : Nat := 3
/-- MOTION. -/
def srcMOTION : Nat := 4
/-- TASKBOARD. -/
def srcTASK : Nat := 5
/-- TIMER. -/
def srcTIMER : Nat := 6
/-- HOST. -/
def srcHOST : Nat := 7
/-- CORE. -/
def srcCORE : Nat := 8

/-- A descriptor and a buffer are free for an item of a source (R313). -/
def State.roomFor (s : State) (src len : Nat) : Bool :=
  let free := 4096 - s.disp.descriptors
  (if src = srcAIR ∨ src = srcHOST ∨ src = srcCORE then decide (s.get F.HW_RESERVE < free) else decide (0 < free))
    && (s.bufferFor len).isSome

/-- What became of an item offered to its flow: admitted, refused, or discarded because the flow is off (R313, R314). -/
inductive Enq where | ok | refused | off
  deriving DecidableEq, Repr

/-- An item enters its flow with a descriptor and a buffer (R310). -/
def State.enqueue (s : State) (i : DItem) (b : Nat) : State :=
  let q := AMap.get (fun _ => 0) s.disp.seqs i.flow
  let i := { i with seq := q, ns := s.fleetNs, buf := b, st := 0, mgen := if i.flow < 512 then s.gen i.flow else 0 }
  let s : State := { s with disp := { s.disp with items := s.disp.items ++ [i],
                                                  seqs := AMap.set (fun _ => 0) s.disp.seqs i.flow ((q + 1) % 2 ^ 32) } }
  (((s.inc C.DISPATCH_ENQUEUED).traceItem 1 i).dispShow).preempt

/-- An item for a flow with EN = 0 is discarded and counted (R314). -/
def State.flowOff (s : State) (i : DItem) : State := (s.inc C.DISPATCH_FLOW_OFF).traceItem 8 i i.src

/-- An item is offered to its flow (R310 to R314). While DISPATCH is not ON nothing enters. -/
def State.offer (s : State) (i : DItem) : State × Enq :=
  if ¬ s.isOn .dispatch then (s, .refused)
  else if !s.flowEn i.flow then (s.flowOff i, .off)
  else if !s.roomFor i.src i.body.length then (s, .refused)
  else match s.bufferFor i.body.length with
  | none => (s, .refused)
  | some b => (s.enqueue i b, .ok)

/-- An item of a hardware source that waits where it is refused (R313), behind those of its own source that wait already. -/
def State.item (s : State) (i : DItem) : State :=
  let wait : State := { s with disp := { s.disp with backlog := s.disp.backlog ++ [i] } }
  if s.disp.backlog.any fun j => j.src = i.src then wait
  else match s.offer i with
    | (_, .refused) => wait
    | (s, _) => s

/-- Every waiting source tries once. -/
def State.drainBacklog (s : State) : State :=
  let l := s.disp.backlog
  ({ s with disp := { s.disp with backlog := [] } }).each l State.item

/-- An item of air receive: refused, it is dropped and counted, the first in a second recorded (R313). -/
def State.airItem (s : State) (i : DItem) : State :=
  match s.offer i with
  | (s, .refused) =>
    let s := ((s.inc C.DISPATCH_RX_DROP).irq pDISP I.DISPATCH_RX_DROP).traceItem 8 i i.src
    let (first, s) := s.firstInSecond 2
    if first then s.noticeCtr pDISP C.DISPATCH_RX_DROP i.flow else s
  | (s, _) => s

/-! ### Release (R316) -/

/-- One emit leaves (R320): one to a flow takes its own descriptor and buffer with it. -/
def State.sendEmit (s : State) (e : Emit) : State :=
  match e.dest with
  | 0 => s.queueDown e.target e.kind e.body
  | 1 =>
    let i : DItem := { flow := e.target, src := srcCORE, kind := e.kind, arg := e.arg, arg2 := e.owner, body := e.body }
    if s.flowEn e.target then s.enqueue i e.buf else s.flowOff i
  | _ => s.qBytes 23 e.body

/-- The emits of a released item leave in order; one to the host waits for room on queue 23, and those behind it with it (R316, R353). -/
def State.sendEmits (s : State) (i : DItem) : List Emit → State
  | [] => s.setItem { i with emits := [] }
  | e :: r =>
    if e.dest = 2 ∧ !s.qRoom 23 e.body.length then s.setItem { i with emits := e :: r }
    else ((s.setItem { i with emits := r }).sendEmit e).sendEmits i r

/-- The oldest item of a flow is released when it is done (R316): its emits leave, and with the last of them its buffer is free. -/
def State.release1 (s : State) (flow : Nat) : State :=
  match s.disp.items.find? fun i => i.flow = flow with
  | none => s
  | some i =>
    if i.st < 2 then s
    else
      let i' := { i with st := 3 }
      let s := if i.st = 2 then ((s.setItem i').inc C.DISPATCH_RELEASED).traceItem 6 i else s
      let s := s.sendEmits i' i.emits
      ({ s with disp := { s.disp with items := s.disp.items.filter fun j =>
          !(decide (j.flow = flow ∧ j.seq = i.seq ∧ j.emits = [])) } }).dispShow

/-- Released items of a flow in SEQ order, as far as they are done and their emits leave. -/
def State.releases (s : State) (flow : Nat) : State :=
  let n := (s.disp.items.filter fun i => i.flow = flow).length
  s.each (List.range n) fun s _ => s.release1 flow

/-- Released items of a flow; then what waited may enter. -/
def State.releaseFlow (s : State) (flow : Nat) : State := ((s.releases flow).drainBacklog).preempt

/-- A queue to the host has room again: emits that waited leave (R316, R353), and so does the trace (R322). -/
def State.hostRoom (s : State) : State :=
  let flows := ((s.disp.items.filter fun i => i.st = 3).map (·.flow)).eraseDups
  (((s.each (List.range 64) State.qWaits).each flows State.releaseFlow).traceDrain)

/-- The context that context 7 interrupted runs again (R319, R322). -/
def State.resumed (s : State) (c x : Nat) : State :=
  if x ≠ 7 then s
  else match s.running c with
    | y :: _ => if y = 7 then s else (match s.ctxItem c y with | some r => s.traceItem 4 r | none => s)
    | [] => s

/-- A context ends: it leaves the running stack of its core. -/
def State.endCtx (s : State) (c x : Nat) : State :=
  let l := (nth [] s.disp.stack c).filter fun y => y ≠ x
  ({ s with disp := { s.disp with stack := setNth s.disp.stack c l } }).coreShow c

end Sys2Proof.Machine
end

