-- ==== Sys2Proof/Machine/Operands.lean ====
section
/-! DEFINITION. Fields of table entries: where each table's layout puts them (R227 to R231, R255, R264, R327 and the tables
of the other chapters), read and written by name. -/
namespace Sys2Proof.Machine
open Sys2Proof

/-- A field of a table entry: byte offset, first bit within it, width in bits. -/
structure EF where
  byte : Nat
  lsb : Nat
  width : Nat
  deriving DecidableEq, Repr

/-- A whole-byte field. -/
def ef (byte bytes : Nat) : EF := ⟨byte, 0, 8 * bytes⟩

/-- The value of a field in an entry. -/
def EF.get (f : EF) (e : Nat) : Nat := bits e (8 * f.byte + f.lsb) f.width
/-- The entry with a field replaced. -/
def EF.set (f : EF) (e v : Nat) : Nat := setBits e (8 * f.byte + f.lsb) f.width v

/-- A signed field. -/
def EF.getI (f : EF) (e : Nat) : Int := sext (f.get e) f.width

/-! ### REGISTRY table 0 (R264) -/
/-- MEMBER_ID. -/
def RG.id : EF := ef 0 8
/-- RSTATE[1:0]: 0 FREE, 1 ACTIVE, 2 HELD. -/
def RG.rstate : EF := ⟨8, 0, 2⟩
/-- RSTATE.SILENT. -/
def RG.silent : EF := ⟨8, 2, 1⟩
/-- RSTATE.PROFILE1. -/
def RG.profile : EF := ⟨8, 3, 1⟩
/-- LINK: port of its assignment. -/
def RG.port : EF := ⟨9, 0, 2⟩
/-- LINK: assigned. -/
def RG.assigned : EF := ⟨9, 2, 1⟩
/-- HOLD_CAUSE. -/
def RG.cause : EF := ef 10 2
/-- GEN. -/
def RG.gen : EF := ef 12 2
/-- CAPS. -/
def RG.caps : EF := ef 14 1
/-- KGEN. -/
def RG.kgen : EF := ef 15 1
/-- ADDR. -/
def RG.addr : EF := ef 16 4
/-- JOIN_MS. -/
def RG.joinMs : EF := ef 20 4
/-- LAST_RX_MS. -/
def RG.lastRx : EF := ef 24 4
/-- TRAILER. -/
def RG.trailer : EF := ef 28 32
/-- TRAILER_MS. -/
def RG.trailerMs : EF := ef 60 4
/-- CORR_LAT. -/
def RG.corrLat : EF := ef 64 2
/-- CORR_ALONG. -/
def RG.corrAlong : EF := ef 66 2
/-- WCLASS. -/
def RG.wclass : EF := ⟨68, 0, 4⟩
/-- BREACH_RUN. -/
def RG.breach : EF := ef 69 1
/-- DECEL_MAX. -/
def RG.decel : EF := ef 70 2
/-- DEV_LAT. -/
def RG.devLat : EF := ef 72 4
/-- DEV_ALONG. -/
def RG.devAlong : EF := ef 76 4
/-- HOLD_MS. -/
def RG.holdMs : EF := ef 80 4

/-- The REGISTRY page. -/
abbrev pREG : Page := ⟨.registry, 0⟩

/-- A member's record. -/
def State.member (s : State) (i : Nat) : Nat := s.te pREG 0 i
/-- The state with a member's record replaced. -/
def State.setMember (s : State) (i v : Nat) : State := s.setTe pREG 0 i v
/-- One field of a member's record. -/
def State.mget (s : State) (i : Nat) (f : EF) : Nat := f.get (s.member i)
/-- The state with one field of a member's record replaced. -/
def State.mset (s : State) (i : Nat) (f : EF) (v : Nat) : State := s.setMember i (f.set (s.member i) v)

/-- The members that hold an index. -/
def State.members (s : State) : List Nat := (List.range 512).filter fun i => decide (s.mget i RG.rstate ≠ 0)

/-- A hold cause is set for a member that holds its index: RSTATE HELD, HOLD_MS (R264, R266). -/
def State.holdMember (s : State) (i cause : Nat) : State :=
  if s.mget i RG.rstate = 0 then s
  else
    let old := s.mget i RG.cause
    let s := (((s.mset i RG.cause (Nat.lor old (2 ^ cause))).mset i RG.rstate 2).mset i RG.holdMs (s.fleetMs % 2 ^ 32))
    if bit old cause then s
    else (s.inc C.REGISTRY_HOLDS).item { flow := i, src := srcREG, kind := 3, arg := s.mget i RG.cause }

/-- The same cause for every member that holds an index. -/
def State.holdAll (s : State) (cause : Nat) : State := s.each s.members fun s i => s.holdMember i cause

/-- REG_STATUS counts joined, held and silent members. -/
def State.regCounts (s : State) : State :=
  let l := s.members
  ((s.set F.REG_STATUS_JOINED l.length).set F.REG_STATUS_HELD (l.filter fun i => decide (s.mget i RG.rstate = 2)).length).set
    F.REG_STATUS_SILENT (l.filter fun i => decide (s.mget i RG.silent = 1)).length

end Sys2Proof.Machine
end

