-- ==== Sys2Proof/Machine/HgOps.lean ====
section
/-! DEFINITION. The stop state of the Headgate and what every raise of a cause does (R288 to R300), shared by every
command that raises one. -/
namespace Sys2Proof.Machine
open Sys2Proof

/-- The HEADGATE page. -/
abbrev pHG : Page := ⟨.headgate, 0⟩

/-- Reason codes of R288. -/
def rsESTOP : Nat := 1
/-- HOLD_PIN. -/
def rsHOLDPIN : Nat := 2
/-- HOST. -/
def rsHOST : Nat := 3
/-- SUPERVISOR. -/
def rsSUP : Nat := 4
/-- ALLOTMENT. -/
def rsALLOT : Nat := 5
/-- REMOTE. -/
def rsREMOTE : Nat := 6
/-- SERVICE. -/
def rsSERVICE : Nat := 7
/-- CHIP_RESET. -/
def rsCHIPRESET : Nat := 8
/-- DISCREPANCY. -/
def rsDISCREPANCY : Nat := 9
/-- PARTNER. -/
def rsPARTNER : Nat := 10
/-- GATE_FAULT. -/
def rsGATEFAULT : Nat := 11
/-- POWER_ON. -/
def rsPOWERON : Nat := 12

/-- The chip is in recovery, or runs a supervisor that came by it (R461, R463). -/
def State.inRecovery (s : State) : Bool := s.boot.waiting || decide (s.get F.BOOT_STATUS_RECOVERY = 1)

/-- A unit of a pair that is not SINGLE. -/
def State.isPaired (s : State) : Bool := decide (s.get F.PAIR_STATUS_STATE ≠ 0) || s.pair.paired

/-- The transmit gate (R389): own claim held for 50 µs, the partner's line released. A SINGLE unit has none. -/
def State.gateNow (s : State) : Bool :=
  !s.isPaired || (decide (s.get F.PAIR_STATUS_CLAIM_OWN = 1 ∧ s.get F.PAIR_STATUS_CLAIM_PEER = 0) &&
    (match s.pair.claimAt with | some t => decide (t + us 50 ≤ s.now) | none => false))

/-- A frame goes on air from a port, with the transmit gate open (R389) and no EXTEST holding the strobes (R447). -/
def State.airEmit (s : State) (port : Nat) (hg : Bool) (f : AirFrame) : State :=
  if s.gateNow && !s.dbg.extest then s.emit (.air port hg f) else s

/-- The ROOT PLL has a valid input, as the Headgate sees it (R20, R292). -/
def State.rootValid (s : State) : Bool := !s.clk.lost

/-- The outputs may be driven high (R292). -/
def State.outsMayBeHigh (s : State) : Bool :=
  let c := s.get F.HG_STATE_CLASS
  (decide (c = 0) || !(bit (s.get F.HG_CFG_OUT_CLASS) (c - 1))) && decide (s.get F.HG_STATE_GATE_FAULT = 0) && s.rootValid
    && s.sup.vddGate

/-- Both outputs low, and the read-back that follows them. -/
def State.outsLow (s : State) : State :=
  { s with hg := { s.hg with outA := false, outB := false, outPending := false } }.set F.PINS_OUT_RB 0

/-- Both outputs high where R292 allows it. -/
def State.outsHigh (s : State) : State :=
  if s.outsMayBeHigh then
    { s with hg := { s.hg with outA := true, outB := true, outPending := false } }.set F.PINS_OUT_RB 3
  else s

/-- The outputs follow R292: low where it does not allow them high, else high, or at the next boundary after a release (R304). -/
def State.outsCheck (s : State) : State := if !s.outsMayBeHigh then s.outsLow else if s.hg.outPending then s else s.outsHigh

/-- A new set of bursts on every port in block STATE ON, whatever its service state; a set in progress is abandoned, and a port that stays STOPPING
for one takes part in the new one (R161, R297, R298). The slots held before count on. -/
def State.startBursts (s : State) (cls : Nat) : State :=
  let l := (List.range 4).map fun p =>
    let old := nth none s.hg.bursts p
    if s.isOn .airport p || (old.isSome && decide (s.st ⟨.airport, p⟩ = stStopping)) then some (⟨cls, 0, none, 0, old.bind (·.first)⟩ : Burst) else none
  if l.any (·.isSome) then { s with hg := { s.hg with bursts := l } }.set F.HG_STATE_BURST 1
  else { s with hg := { s.hg with bursts := l } }.set F.HG_STATE_BURST 0

/-- The window of the resume closes (R304). -/
def State.disarm (s : State) (result : Nat) : State :=
  if s.get F.HG_STATE_ARMED = 1 then
    ({ s with hg := { s.hg with armedAt := none } }.set F.HG_STATE_ARMED 0).set F.RESUME_STATUS_RESULT result
      |>.set F.RESUME_STATUS_ARM_LEFT 0
  else s

/-- A STOP_STATE message to the partner (R396). -/
def State.sendStopState (s : State) (cls reason : Nat) : State :=
  if s.get F.PAIR_STATUS_STATE = 0 then s
  else s.pairSend { typ := 5, sfn := s.get F.SFN, cls := cls, reason := reason, stopSeq := s.get F.HG_STATE_STOP_SEQ }

/-- A unit in COLD or WARM raises of its own only ESTOP, HOLD_PIN, DISCREPANCY and GATE_FAULT; PARTNER and POWER_ON are
held there too (R396). -/
def State.mayRaise (s : State) (reason : Nat) : Bool :=
  !(decide (s.get F.PAIR_STATUS_STATE = 1) || decide (s.get F.PAIR_STATUS_STATE = 2)) ||
    [rsESTOP, rsHOLDPIN, rsDISCREPANCY, rsGATEFAULT, rsPARTNER, rsPOWERON].contains reason

/-- A cause arises (R288, R289): it is held; where it raises CLASS, STOP_SEQ steps, REASON is set, the outputs follow
R292, a new set of bursts starts, the resume is disarmed, the Canal STOP and the partner's STOP_STATE leave; where it does
not, it is recorded and changes nothing on air. Without VDD_GATE there is no Headgate (R489). -/
def State.raiseCause (s : State) (reason cls : Nat) : State :=
  if !s.mayRaise reason || decide (cls = 0) || !s.sup.vddGate then s
  else
    let old := s.get F.HG_STATE_CLASS
    let s := s.set F.CAUSES_HELD (Nat.lor (s.get F.CAUSES_HELD) (2 ^ (reason - 1)))
    let s := s.disarm 8
    let s := if old < cls then
        let s := (s.set F.HG_STATE_CLASS cls).set F.HG_STATE_REASON reason
        let s := s.set F.HG_STATE_STOP_SEQ ((s.get F.HG_STATE_STOP_SEQ + 1) % 256)
        let s := ((s.inc C.HEADGATE_STOPS).outsCheck).startBursts cls
        let s : State := { s with hg := { s.hg with raisedAt := some s.now } }
        let s := s.irq pHG I.HEADGATE_STOP_CHG
        if reason ≠ rsREMOTE ∧ reason ≠ rsPARTNER ∧ bit (s.get F.HG_CFG_SITE_TX) (cls - 1) then
          s.canalBroadcast (.stop ⟨s.number, cls, reason, s.get F.HG_STATE_STOP_SEQ, 0, s.fleetMs % 2 ^ 32⟩)
        else s
      else s.sysEvent 12 pHG reason old (s.get F.HG_STATE_STOP_SEQ)
    let pst := s.get F.PAIR_STATUS_STATE
    if pst = 1 ∨ pst = 2 then (if reason = rsPARTNER ∨ reason = rsPOWERON then s else s.sendStopState cls reason)
    else if old < cls then s.sendStopState cls reason else s

/-- Every cause is cleared: CLASS NONE, REASON 0 (R288, R304); the outputs go high at the next boundary;
EXTEST ends (R447). -/
def State.clearCauses (s : State) : State :=
  let fault := s.get F.CAUSES_HELD / 2 ^ (rsGATEFAULT - 1) % 2
  let s := ((s.set F.CAUSES_HELD (fault * 2 ^ (rsGATEFAULT - 1))).set F.HG_STATE_CLASS (2 * fault)).set F.HG_STATE_REASON
    (if fault = 1 then rsGATEFAULT else 0)
  let s : State := { s with dbg := { s.dbg with extest := s.dbg.extest && decide (fault = 1) } }
  { s with hg := { s.hg with outPending := true, bursts := [none, none, none, none] } }.set F.HG_STATE_BURST 0

/-- The sets of a port are rebuilt above its counters (R295). -/
def State.rebuildSets (s : State) (p : Nat) : State :=
  { s with hg := { s.hg with setFcnt := setNth s.hg.setFcnt p (nth 0 s.air.fcnt p), setSeq := setNth s.hg.setSeq p (nth 0 s.air.seq p),
                             setOk := setNth s.hg.setOk p s.hg.key.isSome } }

/-- FCNT and SEQ of frame `k` of the set of a class on a port (R295). -/
def State.setNumbers (s : State) (p cls k : Nat) : Nat × Nat :=
  (nth 0 s.hg.setFcnt p + 4096 + 16 * (cls - 1) + k, (nth 0 s.hg.setSeq p + 64 + 16 * (cls - 1) + k) % 4096)

/-- A frame of a set has been sent: the port's counters continue from the set's highest value plus 1 (R295). -/
def State.useSet (s : State) (p cls : Nat) : State :=
  let n := s.setNumbers p cls 8
  if n.1 < nth 0 s.air.fcnt p then s
  else { s with air := { s.air with fcnt := setNth s.air.fcnt p (n.1 + 1), seq := setNth s.air.seq p ((n.2 + 1) % 4096) } }

/-- The sets are rebuilt once the port's FCNT is within 2,048 of the lowest reserved one (R295); a set that is being sent stays as it is. -/
def State.nearSets (s : State) (p : Nat) : State :=
  if (nth none s.hg.bursts p).isNone ∧ nth 0 s.hg.setFcnt p + 2048 ≤ nth 0 s.air.fcnt p then s.rebuildSets p else s

/-- A port in block STATE ON joins a set that runs at the start of its next burst (R298); its own sets are complete (R295). -/
def State.joinBurst (s : State) (p : Nat) : State :=
  let s := s.rebuildSets p
  match ((List.range 4).filterMap fun q => if q = p then none else nth none s.hg.bursts q).head? with
  | none => s
  | some b =>
    let k := (b.next + 2) / 3
    if 3 ≤ k then s
    else
      let b' : Burst := ⟨b.cls, 3 * k, b.s0, (match b.s0 with | some x => x + 16 * k | none => 0), none⟩
      { s with hg := { s.hg with bursts := setNth s.hg.bursts p (some b') } }

/-- The Headgate uses a port's path no more. -/
def State.dropBurst (s : State) (p : Nat) : State :=
  let s := s.set F.PORT_STATUS_TX_SRC 0 p
  let s : State := { s with hg := { s.hg with bursts := setNth s.hg.bursts p none } }
  let s := s.set F.HG_STATE_PORTS (Nat.land (s.get F.HG_STATE_PORTS) (15 - 2 ^ p))
  if s.hg.bursts.all (·.isNone) then s.set F.HG_STATE_BURST 0 else s

/-- An upset of the stop state (R307, STATE_COMPARE): both copies take the more severe class; what the upset copy showed is not known, a free value. -/
def State.stateCompare (s : State) (code : Nat) : State :=
  if code ≠ 3 then s
  else
    let (v, s) := s.free
    s.set F.HG_STATE_CLASS (max (s.get F.HG_STATE_CLASS) (v % 4))

/-- GATE_OPEN follows. -/
def State.gateShow (s : State) : State := s.set F.PAIR_STATUS_GATE_OPEN (b2n (s.isPaired && s.gateNow))

/-- The claim is released. -/
def State.unclaim (s : State) : State :=
  (({ s with pair := { s.pair with claimAt := none } }.set F.PAIR_STATUS_CLAIM_OWN 0).emit (.pin "ACTIVE_N" true)).gateShow

/-- A planned switch that has not been made ends (R402): SWITCH_CANCEL, with cause 1 for a partner that is not READY and 2 for a
failure of the active unit; both units of the pair record theirs (R466). -/
def State.switchEnds (s : State) (cause : Nat) : State :=
  let sfn := s.get F.SWITCH_SFN
  if sfn = 0 then s else (s.set F.SWITCH_SFN 0).sysEvent 16 ⟨.pair, 0⟩ cause sfn 0

/-- The chip fault manager hands the zone to a fitted partner (R29, R52, R306, R387): HANDOVER with the cause's event code,
the claim released and the pulses stopped. -/
def State.handOver (s : State) (code : Nat) : State :=
  if s.get F.PAIR_STATUS_STATE ≠ 4 ∨ s.get F.SVC_STATUS_HANDED = 1 then s
  else
    let s := ((s.switchEnds 2).pairSend { typ := 7, arg := code }).unclaim
    let s := (s.set F.SVC_STATUS_HANDED 1).inc C.FAULT_HANDOVERS
    { s with pair := { s.pair with kickAt := none } }

/-- Any error of the GATE region that is not corrected: GATE_FAULT is raised and the outputs go low, bit 7 of FAILED_REGIONS
is set, and a fitted partner takes the zone (R52, R306). -/
def State.gateFault (s : State) (code : Nat := evCode 0 I.HEADGATE_GATE_FAULT) : State :=
  let s := (s.set F.HG_STATE_GATE_FAULT 1).irq pHG I.HEADGATE_GATE_FAULT
  let s := s.set F.SVC_STATUS_FAILED_REGIONS (Nat.lor (s.get F.SVC_STATUS_FAILED_REGIONS) 128)
  (((s.irq ⟨.fault, 0⟩ I.FAULT_REGION_FAIL).raiseCause rsGATEFAULT 2).outsLow).handOver code

end Sys2Proof.Machine
end

