-- ==== Sys2Proof/Machine/Flags.lean ====
section
/-! DEFINITION. The service level: the units of R28, the level they permit, what holds it down, and how a level is
announced (R28 to R34). -/
namespace Sys2Proof.Machine
open Sys2Proof

/-- One unit of R28: whether it works, and how SVC_BLOCKER names it. -/
structure UnitSt where
  ok : Bool
  region : Nat
  block : Nat
  inst : Nat
  cause : Nat
  deriving DecidableEq, Repr

/-- A block that must be ON. -/
def State.unitOn (s : State) (b : Blk) (inst : Nat := 0) : UnitSt := ⟨s.isOn b inst, b.region, b.num, inst, 0⟩

/-- Cells live in a page's pool while its block is ON. -/
def State.cells (s : State) (b : Blk) (inst : Nat := 0) : Nat :=
  if s.isOn b inst then s.getP ⟨b, inst⟩ F.STATE_CELLS_LIVE else 0

/-- The transceiver of a port answers on its control SPI (R28, R158). -/
def State.trxOk (s : State) (p : Nat) : Bool := decide (s.get F.PORT_STATUS_HEALTH_RUN p < 3)

/-- The STOP row of R28. Where a row names no
block (supplies, the supervisor core) the blocker is shown against CHIP/RESET, and of a row of several instances instance 0 is named
(DESIGN CHOICE, log entry 18). -/
def State.rowStop (s : State) : List UnitSt :=
  [ ⟨s.isOn .headgate && decide (s.get F.HG_STATE_GATE_FAULT = 0), 7, 0, 0, 0⟩,
    ⟨(List.range 4).any fun p => s.isOn .airport p, 3, 0, 0, 0⟩,
    ⟨(List.range 4).any fun p => s.isOn .airport p && s.trxOk p, 3, 0, 0, 4⟩,
    ⟨decide (s.get F.ROOT_STATUS_ROOT_LOCK = 1), 0, 2, 0, 7⟩,
    ⟨s.sup.vddGate && s.sup.mainOk && !(s.sup.railsOut.any fun r => decide (r ≤ 2)), 0, 3, 0, 6⟩ ]

/-- The HOLD row of R28. -/
def State.rowHold (s : State) : List UnitSt :=
  [ ⟨decide (s.get F.SUP_STATUS_RUNNING = 1), 0, 3, 0, 5⟩, s.unitOn .fault, s.unitOn .irq, s.unitOn .keep, s.unitOn .keystore,
    s.unitOn .evlog, s.unitOn .registry,
    ⟨(List.range 4).any fun p => s.isOn .airport p && s.isOn .sluice p, 3, 1, 0, 0⟩, s.unitOn .frameSec ]

/-- The TRACK row of R28. -/
def State.rowTrack (s : State) : List UnitSt :=
  [ s.unitOn .graph, s.unitOn .lease, ⟨decide (1 ≤ s.cells .lease), 4, 2, 0, 1⟩, s.unitOn .turnout, s.unitOn .motion,
    s.unitOn .taskboard, s.unitOn .dispatch, ⟨(List.range 8).any fun c => s.isOn .core c, 4, 7, 0, 0⟩, s.unitOn .time,
    ⟨decide (s.get F.TIME_STATUS_STATE ≠ 0), 1, 4, 0, 2⟩ ]

/-- The CENTIMETRE row of R28, with BASE_LOST (R140). -/
def State.rowCm (s : State) : List UnitSt :=
  [ ⟨s.isOn .gnssRf 0 || s.isOn .gnssRf 1, 1, 0, 0, 0⟩, s.unitOn .gnssAcq, ⟨decide (1 ≤ s.cells .gnssAcq), 1, 1, 0, 1⟩,
    ⟨decide (64 ≤ (List.range 16).foldl (fun n i => n + s.cells .gnssTrk i) 0), 1, 2, 0, 1⟩, s.unitOn .gnssMeas,
    s.unitOn .obsIn, s.unitOn .rtkCtrl,
    ⟨decide (4 ≤ (List.range 16).foldl (fun n i => n + s.cells .solver i) 0), 2, 1, 0, 1⟩,
    ⟨decide (s.get F.TIME_STATUS_TQ ≤ 6), 1, 4, 0, 2⟩, ⟨decide (s.get F.INTEG_STATUS_BASE_LOST = 0), 2, 2, 0, 3⟩ ]

/-- The rows of R28 from the bottom. -/
def State.levelRows (s : State) : List (List UnitSt) := [s.rowStop, s.rowHold, s.rowTrack, s.rowCm]

/-- DOZE and TRIM do not raise the level above TRACK (R450). -/
def State.powerCap (s : State) : Nat := if s.get F.PWR_STATUS_STATE = 2 then 2 else 3

/-- The highest level that R28 permits now: each level needs its own row and every row above it in the table. -/
def State.permitNow (s : State) : Nat :=
  let ok := fun (r : List UnitSt) => r.all (·.ok)
  let l := if ok s.rowStop then (if ok s.rowHold then (if ok s.rowTrack then (if ok s.rowCm then 3 else 2) else 1) else 0) else 0
  min l s.powerCap

/-- The first unit that keeps PERMIT from rising by one level (R34). -/
def State.blocker (s : State) : Option UnitSt :=
  ((s.levelRows.take (s.permitNow + 2)).flatten).find? fun u => !u.ok

/-- SVC_BLOCKER follows the units. -/
def State.setBlocker (s : State) : State :=
  match s.blocker with
  | some u =>
    if s.permitNow = 3 then s.setReg (F.SVC_BLOCKER_REGION.addr 0 0) 0
    else s.setReg (F.SVC_BLOCKER_REGION.addr 0 0) (u.region + u.block * 8 + u.inst * 256 + 4096 + u.cause * 8192)
  | none => s.setReg (F.SVC_BLOCKER_REGION.addr 0 0) 0

/-- A fall below CENTIMETRE takes effect (R141): what is still queued at OBS_IN is dropped and counted. -/
def State.obsLevelDrop (s : State) : State :=
  let n := s.rtk.queue.length
  if n = 0 then s
  else (({ s with rtk := { s.rtk with queue := [] } }).inc C.OBS_IN_LEVEL_DISCARD 0 n).set F.RTK_STATUS_QUEUED 0

/-- A level is announced (R31, R34): IRQ bit and LEVEL record; a fall is counted; below TRACK every member is held with
the cause LEVEL (R30, R266), and a fall to STOP raises SERVICE (R288). -/
def State.announce (s : State) (new : Nat) : State :=
  let old := s.get F.SVC_STATUS_LEVEL
  if new = old then s
  else
    let s := s.set F.SVC_STATUS_LEVEL new
    let s := (s.irq ⟨.fault, 0⟩ I.FAULT_LEVEL_CHG).sysEvent 11 ⟨.fault, 0⟩ (old + new * 4) (s.get F.SVC_STATUS_FAILED_REGIONS) 0
    if new < old then
      let s := (s.inc C.FAULT_LEVEL_FALLS).on (decide (old = 3)) State.obsLevelDrop
      let s := if new < 2 ∧ 2 ≤ old then (s.holdAll 6).regCounts else s
      if new = 0 then s.raiseCause rsSERVICE 2 else s
    else s

/-- The main domain has its supplies: none of VDD_CORE, VDD_SRAM and VDDIO is out of limits (R485, R488). -/
def State.powered (s : State) : Bool := s.sup.mainOk && !(s.sup.railsOut.any fun r => decide (r ≤ 2))
/-- No air port is ON. -/
def State.noPortOn (s : State) : Bool := !((List.range 4).any fun p => s.isOn .airport p)

/-- Since when a level has been permitted. -/
def sinceOf (old : Option Nat) (ok : Bool) (now : Nat) : Option Nat :=
  if ok then (match old with | some t => some t | none => some now) else none

/-- The time since which the level that is permitted now has been permitted without a break. -/
def State.sincePermit (s : State) : Option Nat := match s.permitNow with
  | 1 => s.flt.since1
  | 2 => s.flt.since2
  | 3 => s.flt.since3
  | _ => none

/-- SVC_STATUS.RISING (R34): PERMIT is above LEVEL, and its second of R32 still runs. -/
def State.rising (s : State) : Bool :=
  decide (s.get F.SVC_STATUS_LEVEL < s.get F.SVC_STATUS_PERMIT) &&
    match s.sincePermit with
    | some t => decide (s.now < t + sec 1)
    | none => false

/-- The resume stays armed only while its conditions hold (R304): the level at HOLD or above among them. -/
def State.armCheck (s : State) : State :=
  if s.get F.HG_STATE_ARMED = 1 ∧ (s.get F.SVC_STATUS_LEVEL = 0 ∨ s.get F.HG_STATE_GATE_FAULT = 1 ∨ s.get F.PINS_FILTERED ≠ 0) then
    s.disarm 8
  else s

/-- The chip fault manager recomputes PERMIT from the whole set of working units, latches the lowest level reached since
the last beacon, keeps the times of R32, and with no air port ON announces a fall at once (R31, R32, R34). While the
clocks are gated it is held and does nothing (R17, R20). -/
def State.recompute (s : State) : State :=
  if s.clk.gapAt.isSome then s else
  let p := s.permitNow
  let s := (s.set F.SVC_STATUS_PERMIT p).setBlocker
  let s : State := { s with flt := { s.flt with
    low := min s.flt.low p,
    since1 := sinceOf s.flt.since1 (decide (1 ≤ p)) s.now,
    since2 := sinceOf s.flt.since2 (decide (2 ≤ p)) s.now,
    since3 := sinceOf s.flt.since3 (decide (3 ≤ p)) s.now } }
  let s := s.set F.SVC_STATUS_RISING (b2n (decide (s.get F.SVC_STATUS_LEVEL < p)))
  let s := if s.noPortOn ∧ s.flt.low < s.get F.SVC_STATUS_LEVEL ∧ s.get F.ROOT_STATUS_ROOT_LOCK = 1 then
      let t := s.announce s.flt.low
      { t with flt := { t.flt with low := p } }
    else s
  s.armCheck

/-- The region of a failing block is reported to CHIP/FAULT (R33, R34, R52). -/
def State.regionFailed (s : State) (r : Nat) : State :=
  let s := s.set F.SVC_STATUS_FAILED_REGIONS (Nat.lor (s.get F.SVC_STATUS_FAILED_REGIONS) (2 ^ r))
  s.irq ⟨.fault, 0⟩ I.FAULT_REGION_FAIL

/-- A bit of FAILED_REGIONS clears when every block of its region, REGION_CTL among them, is ON again (R34); GATE_FAULT keeps bit 7 (R306). -/
def State.regionCheck (s : State) (r : Nat) : State :=
  let all := (allPages.filter fun p => decide (p.region = r)).all fun p => decide (s.st p = stOn)
  if all ∧ (r ≠ 7 ∨ s.get F.HG_STATE_GATE_FAULT = 0) then
    s.set F.SVC_STATUS_FAILED_REGIONS (Nat.land (s.get F.SVC_STATUS_FAILED_REGIONS) (255 - 2 ^ r))
  else s

/-- A port beside its registers. -/
def State.port (s : State) (p : Nat) : PortSt := nth {} s.air.ports p
/-- The state with a port replaced. -/
def State.setPort (s : State) (p : Nat) (x : PortSt) : State := { s with air := { s.air with ports := setNth s.air.ports p x } }

/-- The block of a port has left ON and its shut-down for FAULT, ISOLATED or OFF (R151, R156, R157): a transaction that runs is ended, its framing lock is gone,
its transmit clock stops, no set of bursts goes on there. -/
def State.portDown (s : State) (p : Nat) : State :=
  let x := s.port p
  let s := s.setPort p { x with spi := [], step := 0, rxq := [], down := none }
  ((s.dropBurst p).set F.PORT_STATUS_RX_LOCK 0 p |>.set F.SPI_TXN_BUSY 0 p).emit (.pin (nth "" ["A0_TXCLK", "A1_TXCLK", "A2_TXCLK", "A3_TXCLK"] p) false)

end Sys2Proof.Machine
end

