-- ==== Sys2Proof/Machine/Errors.lean ====
section
/-! DEFINITION. Errors and refusals that every block shares: what a classified error does at its cell and block (R52, R53),
block states (R43), refused and unmapped accesses (R38, R47). -/
namespace Sys2Proof.Machine
open Sys2Proof

/-- The REGION_CTL page of a page's region. -/
def Page.ctl (p : Page) : Page := ⟨.regionCtl, p.region⟩

/-- STATE.STATE changes (R43): IRQ_STATUS.STATE_CHG; RESTART reads 1 only until STATE leaves ON; the level follows. -/
def State.goState (s : State) (p : Page) (st : Nat) : State :=
  if s.st p = st then s
  else
    let s := s.on (decide (s.st p = stOn)) fun s => s.setP p F.CTRL_RESTART 0
    let broken := fun (x : Nat) => decide (x = stFault ∨ x = stIsolated)
    let s := s.on (broken st || broken (s.st p)) fun s => { s with pair := { s.pair with brokeAt := s.now } }
    let s := (s.setP p F.STATE st).irq p 1
    let s := s.on (decide (st = stOff ∨ st = stFault ∨ st = stIsolated)) fun s => s.arbDrop p
    let s := s.on (decide (st = stOn)) fun s => s.regionCheck p.region
    let s := s.on (decide (p.blk = .airport ∧ (st = stOff ∨ st = stFault ∨ st = stIsolated))) fun s => s.portDown p.inst
    s.recompute

/-- A masked class of error: counted and shown, but no interrupt, no record, no report (R53). -/
def State.errMasked (s : State) (p : Page) (cls : Nat) : Bool :=
  (decide (cls = 1) && decide (s.getP p F.ERR_MASK_MASK_CORR = 1)) || (decide (cls = 2) && decide (s.getP p F.ERR_MASK_MASK_CONT = 1))

/-- ERR_STATUS takes an error: MULTI when another is shown, its class bit, CELL and CODE of the most recent (R50). -/
def State.errShow (s : State) (p : Page) (cell cls code : Nat) : State :=
  let w := s.reg (p.adr 0x010)
  let multi := if w % 8 ≠ 0 then 8 else 0
  let low := Nat.lor (Nat.lor (w % 16) (2 ^ (cls - 1))) multi
  s.setReg (p.adr 0x010) (low + cell % 256 * 256 + code % 256 * 65536)

/-- A cell leaves its pool (R13): CELLS_LIVE falls, and the cell stays out until the block restarts. -/
def State.removeCell (s : State) (p : Page) (cell : Nat) : State :=
  let g := s.page p
  if g.removed.contains cell || decide (p.blk.cells ≤ cell) then s
  else (s.setPage p { g with removed := cell :: g.removed }).setP p F.STATE_CELLS_LIVE (s.getP p F.STATE_CELLS_LIVE - 1)

/-- A counted entry to FAULT: an UNCONTAINED error, an empty pool or a failed self-test (R43, R45); the fourth within 60 s
keeps the block ISOLATED. -/
def State.enterFault (s : State) (p : Page) : State :=
  let g := s.page p
  let times := s.now :: g.faultTimes.filter fun t => decide (s.now < t + sec 60)
  (s.setPage p { g with faultTimes := times, stuck := g.stuck || decide (4 ≤ times.length), isoAllow := false }).goState p stFault

/-- Counting and reporting of an error of class 1 CORRECTED, 2 CONTAINED or 3 UNCONTAINED (R42, R52, R53). -/
def State.errReport (s : State) (p : Page) (cell cls code : Nat) (injected : Bool) (a0 a1 a2 : Nat) : State :=
  let s := s.errShow p cell cls code
  let s := if cls = 1 then s.incP p C.CORR_COUNT else if cls = 2 then s.incP p C.CONT_COUNT else s
  if s.errMasked p cls then s
  else
    let s := s.setPage p { s.page p with shown := Nat.lor (s.page p).shown (2 ^ (cls - 1)) }
    let s := s.set F.ERR_SUMMARY (Nat.lor (s.get F.ERR_SUMMARY p.region) (2 ^ p.blk.num)) p.region
    (s.irq p 0).event (evCode cls (if injected then 0 else code) injected) (p.evSource cell) a0 a1 a2

/-- Whether a cell error makes its block remove the cell: more than 16 CORRECTED in 1 s, or a second CONTAINED within
60 s (R52). -/
def State.cellFails (s : State) (p : Page) (cell cls : Nat) : Bool :=
  let g := s.page p
  if cls = 1 then decide (16 ≤ (g.corrTimes.filter fun e => e.1 = cell ∧ s.now < e.2 + sec 1).length)
  else if cls = 2 then g.contTimes.any fun e => e.1 = cell ∧ s.now < e.2 + sec 60
  else false

/-- The times of cell errors that R52 looks back on. -/
def State.noteCellErr (s : State) (p : Page) (cell cls : Nat) : State :=
  let g := s.page p
  if cls = 1 then s.setPage p { g with corrTimes := (cell, s.now) :: g.corrTimes.filter fun e => decide (s.now < e.2 + sec 1) }
  else if cls = 2 then s.setPage p { g with contTimes := (cell, s.now) :: g.contTimes.filter fun e => decide (s.now < e.2 + sec 60) }
  else s

/-- An UNCONTAINED error takes the block to FAULT (R43, R52): from ON by the table of R43; from STARTING and STOPPING by R52, for R43 has
no row (DEDUCED, log entry 12); in OFF, FAULT and ISOLATED it is only reported. -/
def State.mayFault (s : State) (p : Page) : Bool := decide (s.st p = stOn ∨ s.st p = stStarting ∨ s.st p = stStopping)

/-- A CONTAINED or CORRECTED error of a block's own rule, with the values its record carries. -/
def State.blockError (s : State) (p : Page) (cell cls code : Nat) (a0 a1 a2 : Nat) : State :=
  if p.region = 7 ∧ cls ≠ 1 then ((s.errReport p cell cls code false a0 a1 a2).gateFault (evCode cls code)).stateCompare (if p = pHG then code else 0) |>.recompute
  else
    let s := s.errReport p cell cls code false a0 a1 a2
    if cls = 3 ∧ s.mayFault p then s.enterFault p else s

/-! ### Refused and unmapped accesses -/

/-- A discarded write that a block counts in its CFG_REFUSED counter where it has one (R505). -/
def cfgRefused : Blk → Option Ctr
  | .dram => some C.DRAM_CFG_REFUSED
  | .airport => some C.AIRPORT_CFG_REFUSED
  | .sluice => some C.SLUICE_CFG_REFUSED
  | .route => some C.ROUTE_CFG_REFUSED
  | .lease => some C.LEASE_CFG_REFUSED
  | .registry => some C.REGISTRY_CFG_REFUSED
  | .turnout => some C.TURNOUT_CFG_REFUSED
  | .motion => some C.MOTION_CFG_REFUSED
  | .dispatch => some C.DISPATCH_CFG_REFUSED
  | .regionCtl => some C.REGION_CTL_CFG_REFUSED
  | .flume => some C.FLUME_CFG_REFUSED
  | .eth => some C.ETH_CFG_REFUSED
  | .canal => some C.CANAL_CFG_REFUSED
  | .pair => some C.PAIR_CFG_REFUSED
  | .meter => some C.METER_CFG_REFUSED
  | .frameSec => some C.FRAME_SEC_CFG_REFUSED
  | .boot => some C.BOOT_CFG_REFUSED
  | .evlog => some C.EVLOG_CFG_REFUSED
  | _ => none

/-- The write of a register is discarded and counted (R505). The ring counters of CANAL stand in instance 0. -/
def State.refuseCfg (s : State) (p : Page) : State :=
  match cfgRefused p.blk with
  | some c => s.incP (match p.blk with | .canal => ⟨.canal, 0⟩ | _ => p) c
  | none => s

/-- A plain write that is refused for want of a token or by LOCK (R47): counted, and recorded once for each write. -/
def State.refuseRwl (s : State) (src : Src) (addr : Nat) (result : Nat := 0) : State :=
  (s.inc C.FAULT_REFUSED_RWL).sysEvent 19 ⟨.fault, 0⟩ src.code addr result

/-- An unmapped access (R38): counted, and the first of each whole fleet second recorded. -/
def State.unmapped (s : State) (src : Src) (addr : Nat) (write : Bool) : State :=
  let s := s.inc C.FAULT_UNMAPPED
  let (first, s) := s.firstInSecond 1
  if first then s.sysEvent 18 ⟨.fault, 0⟩ src.code addr (b2n write) else s

/-- An application core's access through its window on BAR0 that is an access fault (R323): a read of a KEEP page, or a write of anything but
GATE STOP_REQ. -/
def coreFault (src : Src) (addr : Nat) (write : Bool) : Option Nat := match src with
  | .core n => if (if write then decide (addr / 4 * 4 ≠ 0xE00310) else decide (addr / 2 ^ 21 = 6)) then some n else none
  | _ => none

/-! ### Generations (R255 to R257) -/

/-- The owner index of a source; an access through BAR2 is the host's, and so is one by JTAG (DESIGN CHOICE, log entry 31). -/
def Src.owner : Src → Nat
  | .jtag => 576
  | .host => 576
  | .bar2 _ => 576
  | .sup => 577
  | .core n => 512 + 8 * n

/-- The owner index of whoever issues a table operation: a core's tag names its context (R50, R255, R325). -/
def Via.owner : Via → Nat
  | .page src => src.owner
  | .tag (.core _) t _ _ _ => 512 + (t - 0xC0)
  | .tag src _ _ _ _ => src.owner

/-- The owner ID of an owner index (R255). -/
def ownerId (i : Nat) : Nat := if i < 512 then i else if i < 576 then 0x4000 + (i - 512) else if i = 576 then 0x8000 else 0xC000

/-- A generation is incremented with its cause (R255, R256): 65,535 wraps to 1. -/
def State.bumpGen (s : State) (i cause : Nat) : State :=
  let g := s.gen i
  let g' := if 65535 ≤ g then 1 else g + 1
  let s := s.setTe pREG 1 i (g' + cause * 2 ^ 16 + s.fleetMs % 2 ^ 32 * 2 ^ 32)
  let s := if i = 576 then (s.set F.HOST_GEN_GEN g').set F.FLUME_STATUS_SESSION g' else s
  if i < 512 then s.mset i RG.gen g' else s

/-! ### The table interface (R49 to R51, R506) -/

/-- TBL_CMD, TBL_STATUS, TBL_KEY0 and TBL_DATA0 of a page. -/
def Page.tblCmd (p : Page) : Nat := p.adr 0x200
/-- TBL_STATUS. -/
def Page.tblStatus (p : Page) : Nat := p.adr 0x204

/-- Words of a page from an offset. -/
def State.words (s : State) (p : Page) (off n : Nat) : List Nat := (List.range n).map fun i => s.reg (p.adr (off + 4 * i))

/-- The 64-byte entry window as one number. -/
def State.tblData (s : State) (p : Page) : Nat := (s.words p 0x240 16).foldr (fun w acc => w + acc * 2 ^ 32) 0

/-- The whole 64-byte window is written; words not named are zero (R506). -/
def State.setTblData (s : State) (p : Page) (v : Nat) : State :=
  s.each (List.range 16) fun s i => s.setReg (p.adr (0x240 + 4 * i)) (v / 2 ^ (32 * i) % 2 ^ 32)

/-- A completion is written where its issuer reads it: the Flume queue q + 8, or the private port of the supervisor or
a core; with no room on the queue it stays in flight (R50, R358). -/
def State.writeCompl (s : State) (src : Src) (queue : Nat) (c : Compl) : State :=
  match src with
  | .host =>
    let len := if c.data.isSome then 72 else 8
    if !(s.tags.any fun x => decide (x.1 = queue)) && s.qRoom (queue + 8) len then s.qPush (queue + 8) len (.compl c)
    else { s with tags := s.tags ++ [(queue, c)] }
  | _ => s.emit (.compl src c)

/-- Bytes 2 and 3 of a completion: BLOCK and REGION, INSTANCE (R358). -/
def Page.wire (p : Page) : Nat := p.blk.num + p.region * 32 + p.instNo * 256

/-- An operation completes: the page interface shows it in TBL_STATUS, TBL_DATA and TBL_CMD.INDEX (R506), a tagged one in
its completion record (R50). -/
def State.tblDone (s : State) (via : Via) (p : Page) (index : Nat) (r : TRes) : State :=
  match via with
  | .page _ =>
    let st := s.reg p.tblStatus
    let s := s.setReg p.tblStatus (Nat.lor (st % 8 - st % 2) 2 + r.err * 256)
    let s := match r.data with | some d => s.setTblData p d | none => s
    let s := match r.index with
      | some i => if r.err = 0 ∧ [2, 4, 5].contains (s.reg p.tblCmd % 16) then s.setReg p.tblCmd (s.reg p.tblCmd % 256 + i % 2 ^ 24 * 256) else s
      | none => s
    s.irq p 2
  | .tag src t q _ _ => s.writeCompl src q ⟨t, r.err, p.wire, r.index.getD index, r.data⟩

/-- The tag range of an issuer (R50). -/
def tagOk (src : Src) (t : Nat) : Bool := match src with
  | .jtag => false
  | .host | .bar2 _ => decide (t ≤ 0x7F)
  | .sup => decide (0x80 ≤ t ∧ t ≤ 0xBF)
  | .core n => decide (0xC0 + 8 * n ≤ t ∧ t ≤ 0xC7 + 8 * n)

/-- A tag is in flight: its completion is not yet written, its data is still being read, or its operation is held (R50, R360). -/
def State.tagBusy (s : State) (t : Nat) : Bool :=
  (s.tags.any fun c => c.2.tag = t) || (s.lk.reads.any fun r => r.tag = t) || s.held.any fun h => match h.via with | .tag _ t' _ _ _ => decide (t' = t) | .page _ => false

/-- The issuer of an operation. -/
def Via.src : Via → Src
  | .page s => s
  | .tag s .. => s

/-- What deciding an operation answers: a result, or nothing yet while the block holds it back. -/
abbrev TFn := State → List Nat → Nat → State × Option TRes

/-- An operation on a table that the re-base pass moves arrives during the pass, and waits for its end (R92). -/
def State.rebaseHolds (s : State) (p : Page) : Bool :=
  decide (s.get F.LEASE_STATUS_REBASING = 1) && [Blk.graph, .lease, .turnout, .dispatch, .taskboard].contains p.blk

/-- What becomes of an operation that a block has looked at: completed with its result, or held. -/
def State.tblAnswer (via : Via) (p : Page) (opcode table index : Nat) (key : List Nat) (data gen : Nat) : State × Option TRes → State
  | (s, some r) => s.tblDone via p index r
  | (s, none) => { s with held := s.held ++ [⟨via, p, opcode, table, index, key, data, gen⟩] }

/-- An operation that a block has accepted: held while the re-base pass runs, else decided by `f`. -/
def State.tblDecide (s : State) (via : Via) (p : Page) (opcode table index : Nat) (key : List Nat) (data : Nat) (f : TFn) : State :=
  State.tblAnswer via p opcode table index key data (s.gen via.owner) (if s.rebaseHolds p then (s, none) else f s key data)

/-- The error of an operation on a block that is not ON: STOPPING (R49), but REFUSED for a WRITE of a port's sequence table in STARTING and STOPPING (R159). -/
def State.notOnErr (s : State) (p : Page) (opcode : Nat) : Nat :=
  if p.blk = .airport ∧ opcode % 16 = 1 ∧ (s.st p = stStarting ∨ s.st p = stStopping) then 0x0C else 0x06

/-- A table operation: accepted, decided by `f` and completed, refused at acceptance (R49 to R51), or held. -/
def State.tblOpNow (s : State) (via : Via) (p : Page) (opcode table index : Nat) (f : TFn) : State :=
  match via with
  | .page (.core n) => s.inc C.CORE_ACCESS_FAULT n
  | .page src =>
    if p.blk.tables = 0 then s.unmapped src p.tblCmd true
    else if s.reg p.tblStatus % 2 = 1 then s.setReg p.tblStatus (Nat.lor (s.reg p.tblStatus) 4)
    else
      let key := s.words p 0x210 4
      let data := s.tblData p
      let s := s.setReg p.tblCmd (opcode % 16 + table % 16 * 16 + index % 2 ^ 24 * 256)
      let s := s.setReg p.tblStatus (Nat.lor (s.reg p.tblStatus) 1)
      if s.st p ≠ stOn then s.tblDone via p index { err := s.notOnErr p opcode } else s.tblDecide via p opcode table index key data f
  | .tag src t _ key data =>
    if !tagOk src t then s.tblDone via p index { err := 0x0B }
    else if s.tagBusy t then s.tblDone via p index { err := 0x0A }
    else if p.blk.tables = 0 then s.tblDone via p index { err := 0x05 }
    else if s.st p ≠ stOn then s.tblDone via p index { err := s.notOnErr p opcode }
    else s.tblDecide via p opcode table index key data f

/-- The clocks are gated (R16, R20). -/
def State.gated (s : State) : Bool := s.clk.gapAt.isSome

/-- What arrives while the clocks are gated is held until they are released (R17). -/
def State.gapHold (s : State) (o : GapOp) : State := { s with clk := { s.clk with gapOps := s.clk.gapOps ++ [o] } }

/-- A table operation: held while the clocks are gated (R17), else looked at now; one by JTAG only at FULL (R442). -/
def State.tblOp (s : State) (via : Via) (p : Page) (opcode table index : Nat) (f : TFn) : State :=
  if s.jtagBars via.src p true then s
  else if s.gated then s.gapHold (.op via p opcode table index) else s.tblOpNow via p opcode table index f

/-- The operations that a page holds complete with an error: ABORTED at a restart, STOPPING is not needed here (R51). -/
def State.abortHeld (s : State) (p : Page) (err : Nat) : State :=
  let mine := s.held.filter fun h => h.page = p
  let s : State := { s with held := s.held.filter fun h => h.page ≠ p }
  s.each mine fun s h => s.tblDone h.via p h.index { err := err }

end Sys2Proof.Machine
end

