-- ==== Sys2Proof/Machine/LeaseTab.lean ====
section
/-! DEFINITION. The site graph, the turnout records and the lease table: their entries by field, furrows, windows, turnout
runs and conflicts (R227 to R238, R258). -/
namespace Sys2Proof.Machine
open Sys2Proof

/-- The LEASE page. -/
abbrev pLEASE : Page := ⟨.lease, 0⟩
/-- The GRAPH page. -/
abbrev pGRAPH : Page := ⟨.graph, 0⟩
/-- The TURNOUT page. -/
abbrev pTURN : Page := ⟨.turnout, 0⟩

/-! ### Segments, nodes, turnouts (R227, R229, R258) -/

/-- FROM. -/
def SG.from_ : EF := ef 0 2
/-- TO. -/
def SG.to_ : EF := ef 2 2
/-- LENGTH, mm. -/
def SG.length : EF := ef 4 4
/-- HEADWAY, µs. -/
def SG.headway : EF := ef 8 4
/-- VMAX, mm/s. -/
def SG.vmax : EF := ef 12 2
/-- TURNOUT. -/
def SG.turnout : EF := ef 14 2
/-- WIDTH. -/
def SG.width : EF := ⟨16, 0, 4⟩
/-- VALID. -/
def SG.valid : EF := ⟨17, 0, 1⟩
/-- BIDIR. -/
def SG.bidir : EF := ⟨17, 1, 1⟩
/-- CLOSED. -/
def SG.closed : EF := ⟨17, 2, 1⟩
/-- FOREIGN. -/
def SG.foreign : EF := ⟨17, 3, 1⟩
/-- OWNER_ZONE. -/
def SG.zone : EF := ⟨18, 0, 6⟩
/-- OWNER_SEG. -/
def SG.oseg : EF := ef 20 2
/-- HEAD_IN. -/
def SG.headIn : EF := ef 22 2
/-- CURV. -/
def SG.curv : EF := ef 24 4
/-- E of a node. -/
def ND.e : EF := ef 0 4
/-- N of a node. -/
def ND.n : EF := ef 4 4
/-- U of a node. -/
def ND.u : EF := ef 8 4
/-- VALID of a node. -/
def ND.valid : EF := ⟨14, 0, 1⟩
/-- CLEAR of a turnout, µs. -/
def TU.clear : EF := ef 0 4
/-- VALID of a turnout. -/
def TU.valid : EF := ⟨4, 0, 1⟩
/-- CLOSED of a turnout. -/
def TU.closed : EF := ⟨4, 1, 1⟩
/-- NSEG. -/
def TU.nseg : EF := ef 6 2
/-- FIRST_LOCK. -/
def TU.first : EF := ef 8 4
/-- NLOCK. -/
def TU.nlock : EF := ef 12 2
/-- LFLAGS. -/
def TU.lflags : EF := ef 14 1
/-- D_OWNER. -/
def TU.downer : EF := ef 16 2
/-- D_GEN. -/
def TU.dgen : EF := ef 18 2
/-- D_START_MS. -/
def TU.dstart : EF := ef 20 4
/-- D_DUR_MS. -/
def TU.ddur : EF := ef 24 4

/-- A segment record. -/
def State.seg (s : State) (i : Nat) : Nat := s.te pGRAPH 0 i
/-- A node record. -/
def State.node (s : State) (i : Nat) : Nat := s.te pGRAPH 1 i
/-- A turnout record. -/
def State.turn (s : State) (i : Nat) : Nat := s.te pTURN 0 i

/-! ### Lease entries (R231) -/

/-- ID. -/
def LE.id : EF := ef 0 4
/-- GEN of the ID. -/
def LE.gen : EF := ⟨2, 2, 14⟩
/-- KIND: 0 FREE, 1 HEAD, 2 STEP, 3 OVERSTAY, 4 TLOCK. -/
def LE.kind : EF := ef 4 1
/-- STATE of a HEAD; LSTATE of a TLOCK. -/
def LE.state : EF := ef 5 1
/-- BEGUN of a step. -/
def LE.begun : EF := ⟨5, 0, 1⟩
/-- FROZEN of a step. -/
def LE.frozen : EF := ⟨5, 1, 1⟩
/-- FOREIGN of a step. -/
def LE.foreign : EF := ⟨5, 2, 1⟩
/-- NSTEP of a HEAD. -/
def LE.nstep : EF := ef 6 1
/-- POS. -/
def LE.pos : EF := ef 6 1
/-- FLAGS.CROSS of a HEAD. -/
def LE.cross : EF := ⟨7, 0, 1⟩
/-- FLAGS.FROZEN of a HEAD. -/
def LE.hfrozen : EF := ⟨7, 1, 1⟩
/-- FLAGS.PART of a HEAD. -/
def LE.part : EF := ⟨7, 2, 1⟩
/-- DIR. -/
def LE.dir : EF := ⟨7, 0, 1⟩
/-- OWNER. -/
def LE.owner : EF := ef 8 4
/-- FIRST. -/
def LE.first : EF := ef 12 4
/-- XID. -/
def LE.xid : EF := ef 16 4
/-- GRANT_SEQ. -/
def LE.gseq : EF := ef 20 4
/-- USER. -/
def LE.user : EF := ef 28 4
/-- SEGMENT. -/
def LE.seg : EF := ef 8 2
/-- TURNOUT of a TLOCK. -/
def LE.turn : EF := ef 8 2
/-- START_S. -/
def LE.startS : EF := ef 10 6
/-- START_NS. -/
def LE.startNs : EF := ef 16 4
/-- DUR, µs. -/
def LE.dur : EF := ef 20 4
/-- HEAD. -/
def LE.head : EF := ef 24 4
/-- NEXT. -/
def LE.next : EF := ef 28 4
/-- OWN_GEN of a TLOCK. -/
def LE.ownGen : EF := ef 28 2

/-- States of a HEAD (R231). -/
def hsPREPARED : Nat := 1
/-- PREPARING. -/
def hsPREPARING : Nat := 2
/-- COMMITTING. -/
def hsCOMMITTING : Nat := 3
/-- GRANTED. -/
def hsGRANTED : Nat := 4
/-- COMMITTED. -/
def hsCOMMITTED : Nat := 5

/-- A lease entry. -/
def State.le (s : State) (i : Nat) : Nat := s.te pLEASE 0 i
/-- The state with a lease entry replaced. -/
def State.setLe (s : State) (i v : Nat) : State := s.setTe pLEASE 0 i v
/-- The state with one field of a lease entry replaced. -/
def State.leSet (s : State) (i : Nat) (f : EF) (v : Nat) : State := s.setLe i (f.set (s.le i) v)
/-- The entries that are not FREE, in index order. -/
def State.leLive (s : State) : List Nat := (s.teListed pLEASE 0).filter fun i => decide (LE.kind.get (s.le i) ≠ 0)

/-- START of a step or lock, fleet ns. -/
def leStart (e : Nat) : Nat := LE.startS.get e * 1000000000 + LE.startNs.get e
/-- End of a step or lock, fleet ns. -/
def leEnd (e : Nat) : Nat := leStart e + LE.dur.get e * 1000

/-- An entry with a new window. -/
def leWindow (e start durUs : Nat) : Nat :=
  LE.dur.set (LE.startNs.set (LE.startS.set e (start / 1000000000)) (start % 1000000000)) durUs

/-- The owner of a step, lock or head: that of its HEAD; a lock remembers it past its furrow (pseudo-table 8). -/
def State.leOwner (s : State) (i : Nat) : Nat :=
  let e := s.le i
  match LE.kind.get e with
  | 1 => LE.owner.get e
  | 4 => s.te pLEASE 8 i
  | _ => LE.owner.get (s.le (LE.head.get e))

/-- The entry that a lease ID names: `none` where the generation differs or it is FREE (R231). -/
def State.leById (s : State) (id : Nat) : Option Nat :=
  let i := id % 2 ^ 18
  let e := s.le i
  if LE.id.get e = id ∧ LE.kind.get e ≠ 0 then some i else none

/-- An entry returns to FREE: zero in bytes 4 to 31, GEN stepped, 16,383 wrapping to 1 (R231). -/
def State.freeLe (s : State) (i : Nat) : State :=
  let g := LE.gen.get (s.le i)
  let g' := if 16383 ≤ g then 1 else g + 1
  ((s.setLe i (i + g' * 2 ^ 18)).setTe pLEASE 8 i 0).setTe pLEASE 9 i 0

/-- The lowest `n` FREE entries of the table. -/
def freeEntries (live : List Nat) : Nat → Nat → Nat → List Nat
  | 0, _, _ => []
  | _, _, 0 => []
  | fuel + 1, k, n + 1 => if live.contains k then freeEntries live fuel (k + 1) (n + 1) else k :: freeEntries live fuel (k + 1) n

/-- The lowest `n` FREE entries; fewer where the table is full. -/
def State.freeLes (s : State) (n : Nat) : List Nat :=
  let live := s.leLive
  (freeEntries live (live.length + n) 0 n).filter fun i => decide (i < 262144)

/-- Steps of a furrow still held, by index. -/
def State.stepsOf (s : State) (head : Nat) : List Nat :=
  s.leLive.filter fun i => decide ((LE.kind.get (s.le i) = 2 ∨ LE.kind.get (s.le i) = 3) ∧ LE.head.get (s.le i) = head)
/-- Locks of a furrow, by index. -/
def State.locksOf (s : State) (head : Nat) : List Nat :=
  s.leLive.filter fun i => decide (LE.kind.get (s.le i) = 4 ∧ LE.head.get (s.le i) = head)
/-- Live heads. -/
def State.heads (s : State) : List Nat := s.leLive.filter fun i => decide (LE.kind.get (s.le i) = 1)
/-- Live locks of a turnout. -/
def State.locksAt (s : State) (t : Nat) : List Nat :=
  s.leLive.filter fun i => decide (LE.kind.get (s.le i) = 4 ∧ LE.turn.get (s.le i) = t)

/-- Start and far end of a step along its furrow, mm: the LENGTHs of the steps before it at the grant (pseudo-table 9). -/
def State.stepDist (s : State) (i : Nat) : Nat × Nat := (s.te pLEASE 9 i % 2 ^ 32, s.te pLEASE 9 i / 2 ^ 32)

/-- The member whose fleet address this is, registered in this zone (R9, R264). -/
def State.memberAt (s : State) (addr : Nat) : Option Nat :=
  let m := bits addr 9 9
  if s.mget m RG.rstate ≠ 0 ∧ s.mget m RG.addr = addr then some m else none

/-- The fleet address of a member index of this zone, endpoint 0 (R9). -/
def State.addrOf (s : State) (m : Nat) : Nat := s.canal.site * 2 ^ 24 + s.number * 2 ^ 18 + m * 2 ^ 9

/-- Service level, as PLAN follows it. -/
def State.level (s : State) : Nat := s.get F.SVC_STATUS_LEVEL

/-- Superframe period by SF_CODE, ns. -/
def sfPeriod (c : Nat) : Nat := nth 200000000 [50000000, 100000000] c

/-- SF_CODE of a port's active bank. -/
def State.sfOf (s : State) (p : Nat) : Nat := s.get F.BANK_HDR_SF_CODE p (s.get F.BANK_CTRL_ACTIVE p)

/-- SVC states of a port (R163): DOWN, STARTING, SERVING, FAULT. -/
def State.svc (s : State) (p : Nat) : Nat := s.get F.PORT_STATUS_SVC p

/-- SF_CODE of the zone (R168): the SERVING ports', else the lowest STARTING port's, else SLUICE instance 0's. -/
def State.zoneSf (s : State) : Nat :=
  match (List.range 4).find? fun p => s.svc p = 2 with
  | some p => s.sfOf p
  | none => match (List.range 4).find? fun p => s.svc p = 1 with
    | some p => s.sfOf p
    | none => s.sfOf 0

/-- P of the zone in ns (R168). -/
def State.period (s : State) : Nat := sfPeriod s.zoneSf

/-! ### What the tables show -/

/-- A turnout record's lock state follows the lease table (R229, R258). -/
def State.turnShow (s : State) (t : Nat) : State :=
  let l := s.locksAt t
  let e := s.turn t
  let any := fun (st : Nat) => l.any fun i => decide (LE.state.get (s.le i) = st)
  let flags := b2n (any 4) + 2 * b2n (any 3) + 4 * b2n (decide (TU.downer.get e ≠ 0))
  s.setTe pTURN 0 t (TU.first.set (TU.lflags.set (TU.nlock.set e l.length) flags) (l.headD 0x3FFFF))

/-- LEASE_STATUS, LEASE_STATUS2 and TO_STATUS follow the tables. -/
def State.leaseShow (s : State) : State :=
  let live := s.leLive
  let n := fun (k st : Nat) => (live.filter fun i => decide (LE.kind.get (s.le i) = k ∧ (st = 0 ∨ LE.state.get (s.le i) = st))).length
  let s := (s.set F.LEASE_STATUS_USED live.length).set F.LEASE_STATUS_BUILDS s.ls.builds.length
  let s := s.set F.LEASE_STATUS2_OVERSTAYS (min 65535 (n 3 0))
  let s := s.set F.LEASE_STATUS2_XFERS (min 255 (n 1 1 + n 1 2 + n 1 3))
  let s := s.set F.TO_STATUS_ORPHANS (min 16383 (n 4 4))
  let direct := (s.teListed pTURN 0).filter fun t => decide (TU.downer.get (s.turn t) ≠ 0)
  s.set F.TO_STATUS_DIRECT (min 255 direct.length)

/-- The next GRANT_SEQ is taken (R239). -/
def State.takeSeq (s : State) : State := s.set F.GRANT_SEQ ((s.get F.GRANT_SEQ + 1) % 2 ^ 32)

/-! ### Conflicts (R236, R238) -/

/-- An entry is FROZEN now (R249): its owner is SILENT, the level is below TRACK, or the re-base pass runs. -/
def State.cold (s : State) (i : Nat) : Bool :=
  decide (s.level < 2) || decide (s.get F.LEASE_STATUS_REBASING = 1) || (match s.memberAt (s.leOwner i) with
    | some m => decide (s.mget m RG.silent = 1)
    | none => false)

/-- A live entry of a segment counts as open-ended (R236, R247, R249, R252). -/
def State.openEnded (s : State) (i : Nat) : Bool :=
  let e := s.le i
  decide (LE.kind.get e = 3) || decide (s.get F.LEASE_STATUS_LOST = 1) || (s.cold i && decide (leEnd e ≤ s.fleetNs))

/-- The windows of a request step and a live entry conflict, neither open-ended (R236). -/
def windowConflict (r : ReqStep) (x headwayUs : Nat) : Bool :=
  let rs := r.start
  let re := r.start + r.dur * 1000
  let xs := leStart x
  let xe := leEnd x
  if r.dir ≠ LE.dir.get x then decide (rs < xe ∧ xs < re)
  else
    let h := headwayUs * 1000
    !(decide (rs + h ≤ xs ∧ re + h ≤ xe) || decide (xs + h ≤ rs ∧ xe + h ≤ re))

/-- Live entries of other owners on a segment, FOREIGN placeholders apart. -/
def State.rivals (s : State) (owner seg : Nat) : List Nat :=
  s.leLive.filter fun i =>
    let e := s.le i
    decide ((LE.kind.get e = 2 ∨ LE.kind.get e = 3) ∧ LE.seg.get e = seg ∧ LE.foreign.get e = 0) && decide (s.leOwner i ≠ owner)

/-- A turnout run of a request (R238): first position, turnout, interval. -/
structure Run where
  pos : Nat
  turn : Nat
  start : Nat
  stop : Nat
  deriving DecidableEq, Repr

/-- The turnout runs of steps in order of position: maximal sequences of consecutive steps that name one turnout. -/
def State.runsOf (s : State) (l : List ReqStep) : List Run :=
  (l.foldl (fun (acc : List (Run × Nat)) r =>
    let t := SG.turnout.get (s.seg r.seg)
    let end_ := r.start + r.dur * 1000 + TU.clear.get (s.turn t) * 1000
    if t = 0xFFFF ∨ SG.foreign.get (s.seg r.seg) = 1 then acc
    else match acc.getLast? with
      | some (x, p) => if x.turn = t ∧ p + 1 = r.pos then acc.dropLast ++ [({ x with stop := end_ }, r.pos)]
                       else acc ++ [(⟨r.pos, t, r.start, end_⟩, r.pos)]
      | none => [(⟨r.pos, t, r.start, end_⟩, r.pos)]) []).map (·.1)

/-- The whole time within 2^31 ms of `near` that is `m` modulo 2^32 (R115). -/
def rebuildMs (m near : Nat) : Nat :=
  let c := near / 2 ^ 32 * 2 ^ 32 + m
  if near + 2 ^ 31 ≤ c then c - 2 ^ 32 else if c + 2 ^ 31 < near then c + 2 ^ 32 else c

/-- The interval of a turnout's direct lock, fleet ns; its start is rebuilt about now (R115, R258), `none` for no end. -/
def State.directIv (s : State) (t : Nat) : Nat × Option Nat :=
  let e := s.turn t
  let ms := rebuildMs (TU.dstart.get e) s.fleetMs
  (ms * 1000000, if TU.ddur.get e = 0xFFFFFFFF then none else some ((ms + TU.ddur.get e) * 1000000))

/-- An interval overlaps a direct lock of the turnout (R260). -/
def State.directMeets (s : State) (t start stop : Nat) : Bool :=
  if TU.downer.get (s.turn t) = 0 then false
  else match s.directIv t with
    | (a, some b) => decide (start < b ∧ a < stop)
    | (a, none) => decide (a < stop)

/-- The lock that conflicts with an interval on a turnout, of another owner: open-ended, or overlapping (R238, R259). -/
def State.lockConflict (s : State) (owner t start stop : Nat) : Option Nat :=
  (s.locksAt t).find? fun i =>
    let e := s.le i
    decide (s.leOwner i ≠ owner) &&
      (decide (LE.state.get e = 3 ∨ LE.state.get e = 4) || decide (s.get F.LEASE_STATUS_LOST = 1) || decide (start < leEnd e ∧ leStart e < stop))

/-! ### Lease events (R254) -/

/-- An event for the owner of a furrow: a work item of its flow, and a record on queue 17 where EVENT_HOST = 1. -/
def State.leaseEvent (s : State) (code owner furrow lease pos gseq refusal : Nat) : State :=
  match s.memberAt owner with
  | none => s
  | some m =>
    let body := toBytes 4 furrow ++ toBytes 4 lease ++ toBytes 4 gseq ++ [pos, refusal, 0, 0]
    let s := s.item { flow := m, src := srcLEASE, kind := code, body := body }
    if s.get F.LEASE_CFG_EVENT_HOST = 1 then s.qBytes 17 ([code, 0] ++ toBytes 2 m ++ body) else s

/-- An event about an entry of a furrow. -/
def State.leEvent (s : State) (code i : Nat) : State :=
  let e := s.le i
  let h := if LE.kind.get e = 1 then i else LE.head.get e
  let he := s.le h
  if LE.part.get he = 1 then s
  else s.leaseEvent code (LE.owner.get he) (LE.id.get he) (if LE.kind.get e = 1 then 0 else LE.id.get e)
    (if LE.kind.get e = 1 then 0 else LE.pos.get e) (s.get F.GRANT_SEQ) 0

end Sys2Proof.Machine
end

