-- ==== Sys2Proof/Machine/MotOps.lean ====
section
/-! DEFINITION. Queued moves, the distance a ramp takes, and what a release, a forfeit or a hold does to a member's motion
(R270 to R287). Lengths of the plan are in nm, speeds in µm/s, accelerations in µm/s². -/
namespace Sys2Proof.Machine
open Sys2Proof

/-- The MOTION page. -/
abbrev pMOT : Page := ⟨.motion, 0⟩

/-! ### Moves (R270) -/
/-- FURROW. -/
def MV.furrow : EF := ef 0 4
/-- D_END. -/
def MV.dEnd : EF := ef 4 4
/-- V_TGT. -/
def MV.vTgt : EF := ef 8 2
/-- V_MAX. -/
def MV.vMax : EF := ef 10 2
/-- A_MAX. -/
def MV.aMax : EF := ef 12 2
/-- A_DEC. -/
def MV.aDec : EF := ef 14 2
/-- J_MAX. -/
def MV.jMax : EF := ef 16 4
/-- A_LAT. -/
def MV.aLat : EF := ef 20 2
/-- MSTATE: 0 FREE, 1 QUEUED, 2 WAIT_COMMIT, 3 ACTIVE. -/
def MV.mstate : EF := ef 22 1
/-- USER. -/
def MV.user : EF := ef 24 4

/-- Motion of a member. -/
def State.motion (s : State) (m : Nat) : MotSt := AMap.get (fun _ => {}) s.mot m
/-- The state with a member's motion replaced. -/
def State.setMotion (s : State) (m : Nat) (x : MotSt) : State := { s with mot := AMap.set (fun _ => ({} : MotSt)) s.mot m x }
/-- A move. -/
def State.move (s : State) (m slot : Nat) : Nat := s.te pMOT 0 (m * 16 + slot)
/-- The state with a move replaced. -/
def State.setMove (s : State) (m slot v : Nat) : State := s.setTe pMOT 0 (m * 16 + slot) v
/-- The slot of the ACTIVE move. -/
def State.activeMove (s : State) (m : Nat) : Option Nat := (s.motion m).order.find? fun k => MV.mstate.get (s.move m k) = 3

/-- A slot is freed (R270). -/
def State.freeMove (s : State) (m slot : Nat) : State :=
  let x := s.motion m
  (s.setMove m slot 0).setMotion m { x with order := x.order.filter fun k => k ≠ slot }

/-- A move is done (R272): MOVE_DONE, and QUEUE_EMPTY after the last. -/
def State.moveDone (s : State) (m slot : Nat) : State :=
  let user := MV.user.get (s.move m slot)
  let s := (s.freeMove m slot).inc C.MOTION_MOVES_DONE
  let s := s.item { flow := m, src := srcMOTION, kind := 1, arg := slot, arg2 := user }
  if (s.motion m).order = [] then
    (s.irq pMOT I.MOTION_QUEUE_EMPTY).item { flow := m, src := srcMOTION, kind := 3, arg := slot, arg2 := user }
  else s

/-! ### Ramps -/

/-- The distance in nm that a jerk-limited ramp from speed `v` and acceleration `a` down to speed `u` takes, with
deceleration `A` and jerk `J` (R274, R283): the acceleration is first taken back to zero, or the ramp already begun is
counted from its beginning. -/
def brakeDist (v u : Nat) (a : Int) (A J : Nat) : Nat :=
  let A := max 1 A
  let J := max 1 J
  let m := iabs a
  let v' := v + m * m / (2 * J)
  if v' ≤ u then 0
  else
    let w := v' - u
    let tUs := if A * A ≤ w * J then w * 1000000 / A + A * 1000000 / J else 2 * isqrt (w * 1000000000000 / J)
    let main := (v' + u) * tUs / 2000
    let t0 := m * 1000000 / J
    if 0 ≤ a then main + v * t0 / 1000 + m * m * m * 1000 / (3 * J * J)
    else main - (v' * t0 / 1000 - m * m * m * 1000 / (6 * J * J))

/-! ### Furrows under moves -/

/-- The far end, mm, of the steps that a furrow still holds; 0 where it is gone. -/
def State.keptEnd (s : State) (furrow : Nat) : Nat :=
  match s.leById furrow with
  | some h => (s.stepsOf h).foldl (fun n i => max n (s.stepDist i).2) 0
  | none => 0

/-- Distance on the path at which a furrow begins, mm; 0 where it is not on it. -/
def MotSt.offset (x : MotSt) (furrow : Nat) : Nat := match x.chain.find? fun c => c.1 = furrow with
  | some c => c.2.1
  | none => 0

/-- One queued move after a release (R287): removed when it begins past the kept steps, cut to their end otherwise; the
ACTIVE move comes to rest there. -/
def State.truncMove (s : State) (m slot : Nat) (from_ : Nat) : State :=
  let e := s.move m slot
  let kept := s.keptEnd (MV.furrow.get e)
  if MV.dEnd.get e ≤ kept then s
  else
    let s := (s.inc C.MOTION_MOVES_TRUNCATED).item { flow := m, src := srcMOTION, kind := 2, arg := slot, arg2 := MV.user.get e }
    if MV.mstate.get e ≠ 3 ∧ kept ≤ from_ then s.freeMove m slot
    else
      let s := s.setMove m slot (MV.vTgt.set (MV.dEnd.set e kept) 0)
      if MV.mstate.get e ≠ 3 then s
      else
        let x := s.motion m
        let goal := (x.offset (MV.furrow.get e) + kept) * 1000000
        let dmax := s.mget m RG.decel
        let room := goal - x.d
        let fits := fun (dec jerk : Nat) => decide (x.d ≤ goal ∧ brakeDist x.v 0 x.a (dec * 1000) (jerk * 1000) ≤ room)
        let lo := MV.aDec.get e
        if fits lo (MV.jMax.get e) then s
        else
          let s := s.setMotion m { x with decel := some (leastDecel (fun k => fits k (s.get F.STOP_JERK)) lo dmax 16),
                                          jerk := some (s.get F.STOP_JERK) }
          if fits dmax (s.get F.STOP_JERK) then s
          else (s.inc C.MOTION_RELEASE_OVERRUN).notice pMOT I.MOTION_RELEASE_OVERRUN m (MV.furrow.get e)
where
  /-- The least deceleration that fits, by halving between `lo` and `hi`. -/
  leastDecel (ok : Nat → Bool) (lo hi : Nat) : Nat → Nat
    | 0 => hi
    | k + 1 => if hi ≤ lo + 1 then hi else
      let mid := (lo + hi) / 2
      if ok mid then leastDecel ok lo mid k else leastDecel ok mid hi k

/-- The moves of a member follow the steps that its furrows still hold (R287). -/
def State.motTrunc (s : State) (m : Nat) : State :=
  let order := (s.motion m).order
  (order.foldl (fun (acc : State × Nat × Nat) slot =>
    let (s, fur, end_) := acc
    let e := s.move m slot
    let from_ := if MV.furrow.get e = fur then end_ else 0
    (s.truncMove m slot from_, MV.furrow.get e, MV.dEnd.get e)) (s, 0, 0)).1

/-- The queue of a member is emptied, by a forfeit or its departure (R286). -/
def State.motEmpty (s : State) (m : Nat) : State :=
  let s := s.each (s.motion m).order fun s k => s.setMove m k 0
  let x := s.motion m
  s.setMotion m { x with order := [], newPath := true }

/-- Every plan is cleared at a fleet-time step; no queue is emptied (R287). -/
def State.motClear (s : State) : State :=
  s.each (List.range 512) fun s m =>
    let x := s.motion m
    let s := match s.activeMove m with
      | some k => s.setMove m k (MV.mstate.set (s.move m k) 1)
      | none => s
    if x = {} then s else s.setMotion m { x with v := 0, a := 0, mode := 0, newPath := true, bundles := [], chain := [] }

/-- MOT_STATUS. -/
def State.motShow (s : State) : State :=
  let n := fun (k : Nat) => (s.mot.filter fun e => decide (e.2.mode = k)).length
  let wait := (s.mot.filter fun e => match e.2.order.head? with
    | some k => decide (MV.mstate.get (s.move e.1 k) = 2)
    | none => false).length
  ((s.set F.MOT_STATUS_MOVING (n 1)).set F.MOT_STATUS_STOPPING (n 2)).set F.MOT_STATUS_WAITING wait

end Sys2Proof.Machine
end

