-- ==== Sys2Proof/Machine/MeterOps.lean ====
section
/-! DEFINITION. Dock metering: channels, accumulation, interval and event records, pulse outputs (R405 to R418). -/
namespace Sys2Proof.Machine
open Sys2Proof

/-- The METER page. -/
abbrev pMETER : Page := ⟨.meter, 0⟩

/-! ### Fields of a channel (table 0, R406) -/
/-- SCALE. -/
def MC.scale : EF := ef 0 4
/-- PHASE_CAL. -/
def MC.phaseCal : EF := ef 4 2
/-- GAIN, its zero bits included. -/
def MC.gain : EF := ef 6 1
/-- CFLAGS.EN. -/
def MC.en : EF := ⟨7, 0, 1⟩
/-- CFLAGS.ABS. -/
def MC.abs : EF := ⟨7, 1, 1⟩
/-- CFLAGS.PHASE. -/
def MC.phase : EF := ⟨7, 2, 2⟩
/-- CFLAGS[7:4], zero. -/
def MC.zero : EF := ⟨7, 4, 4⟩
/-- RATED_P. -/
def MC.rated : EF := ef 8 4
/-- CREEP. -/
def MC.creep : EF := ef 12 4

/-- The entry of a channel. -/
def State.mchan (s : State) (c : Nat) : Nat := s.te pMETER 0 c
/-- A converter channel works: enabled, its cell in the pool, VDD_MET in range (R406, R408, R485). -/
def State.chanOn (s : State) (c : Nat) : Bool :=
  decide (MC.en.get (s.mchan c) = 1) && !(s.page pMETER).removed.contains c && !s.sup.railsOut.contains 4
/-- A dock is enabled. -/
def State.dockEn (s : State) (d : Nat) : Bool := decide (MC.en.get (s.mchan (3 + d)) = 1)
/-- The V channel a dock is paired with. -/
def State.dockV (s : State) (d : Nat) : Nat := MC.phase.get (s.mchan (3 + d))
/-- A dock computes (R406, R408). -/
def State.dockOk (s : State) (d : Nat) : Bool := s.chanOn (3 + d) && s.chanOn (s.dockV d)
/-- A channel that reads valid: a dock with its paired voltage. -/
def State.chanOk (s : State) (c : Nat) : Bool := if c < 3 then s.chanOn c else s.dockOk (c - 3)

/-- V_NOM in mV. -/
def State.vNom (s : State) : Nat := s.get F.MET_CFG_V_NOM * 100
/-- An RMS in mV below a threshold in % of V_NOM. -/
def State.belowPct (s : State) (rms pct : Nat) : Bool := decide (rms * 100 < s.vNom * pct)

/-- A WRITE of table 0 (R406): every field in range, no change of SCALE, PHASE_CAL, GAIN or PHASE while the stored EN is 1. -/
def State.chanWrite (s : State) (c e : Nat) : Option State :=
  let old := s.mchan c
  let range := decide (1 ≤ MC.scale.get e ∧ MC.gain.get e ≤ 5 ∧ MC.zero.get e = 0 ∧ e < 2 ^ 128)
    && (decide (c < 3) || decide (MC.phase.get e ≤ 2 ∧ 1 ≤ MC.rated.get e ∧ MC.rated.get e ≤ 1000000 ∧ MC.creep.get e ≤ 100000))
  let same := decide (MC.scale.get e = MC.scale.get old ∧ MC.phaseCal.get e = MC.phaseCal.get old ∧ MC.gain.get e = MC.gain.get old
    ∧ MC.phase.get e = MC.phase.get old)
  if range ∧ (MC.en.get old = 0 ∨ same) then some (s.setTe pMETER 0 c e) else none

/-! ### Docks -/

/-- A dock's meter. -/
def State.dock (s : State) (d : Nat) : DockSt := nth {} s.met.docks d
/-- The state with a dock's meter replaced. -/
def State.setDock (s : State) (d : Nat) (x : DockSt) : State := { s with met := { s.met with docks := setNth s.met.docks d x } }

/-- Table 1 shows a dock's totals in whole mJ, mvar·s, mVA·s and mA·s (R409). -/
def State.totalsShow (s : State) (d : Nat) : State :=
  let x := s.dock d
  let w := fun n => n / 1000000000 % 2 ^ 64
  s.setTe pMETER 1 d (ofBytes (toBytes 8 (w x.imp) ++ toBytes 8 (w x.exp) ++ toBytes 8 (w x.rpos) ++ toBytes 8 (w x.rneg)
    ++ toBytes 8 (w x.app) ++ toBytes 8 (w x.fimp) ++ toBytes 8 (w x.fexp) ++ toBytes 8 (x.out / 1000)))

/-- Q of a window: the sign of Q_f and the root of S² − P² (R407). -/
def reactive (qf : Int) (S : Nat) (p : Int) : Int :=
  let q : Int := isqrt (S * S - p.natAbs * p.natAbs)
  if qf < 0 then -q else if qf = 0 then 0 else q

/-- Split by sign into import and export. -/
def split (x : Int) : Nat × Nat := if 0 < x then (x.natAbs, 0) else (0, x.natAbs)

/-- What one window gives a dock: P in mW, Q, S, P_f, and what it adds to import, export, fundamental import and export. -/
structure WinQ where
  p : Int
  q : Int
  S : Nat
  pf : Int
  imp : Nat
  exp : Nat
  fimp : Nat
  fexp : Nat
  deriving DecidableEq, Repr

/-- The quantities of a dock over a window (R407, R409). -/
def State.winQ (s : State) (d : Nat) (v : VoltWin) (x : DockWin) (lost : Bool) : WinQ :=
  let e := s.mchan (3 + d)
  let S := v.rms * x.rms / 1000
  let q := if lost then 0 else reactive x.qf S x.p
  let pf := if lost then 0 else x.pf
  let creep := decide (x.p.natAbs < MC.creep.get e)
  let abs := decide (MC.abs.get e = 1)
  let a := fun (y : Int) => if creep then (0, 0) else if abs then (y.natAbs, 0) else split y
  ⟨x.p, q, S, pf, (a x.p).1, (a x.p).2, (a pf).1, (a pf).2⟩

/-- A window adds to a dock's totals and to its open interval (R409, R410). -/
def DockSt.add (x : DockSt) (w : WinQ) (len : Nat) (lost ovr : Bool) : DockSt :=
  { x with
    imp := x.imp + w.imp * len, exp := x.exp + w.exp * len,
    rpos := x.rpos + (split w.q).1 * len, rneg := x.rneg + (split w.q).2 * len, app := x.app + w.S * len,
    fimp := x.fimp + w.fimp * len, fexp := x.fexp + w.fexp * len,
    ivImp := x.ivImp + w.imp * len, ivExp := x.ivExp + w.exp * len, ivReact := x.ivReact + w.q * len, ivApp := x.ivApp + w.S * len,
    ivFund := x.ivFund + ((w.fimp : Int) - w.fexp) * len, ivNs := x.ivNs + len,
    pos := x.pos || decide (0 < w.p), neg := x.neg || decide (w.p < 0), ovr := x.ovr || ovr, noFund := x.noFund || lost }

/-- The open interval restarts; an event in progress touches the new one (R410, R412). -/
def DockSt.restart (x : DockSt) (pq : Bool) : DockSt :=
  { x with ivImp := 0, ivExp := 0, ivReact := 0, ivApp := 0, ivFund := 0, ivNs := 0, peak := 0, pos := false, neg := false,
           ovr := false, inval := false, pq := pq, noFund := false }

/-- The sums of a channel in the present second. -/
def State.sum (s : State) (c : Nat) : ChanSum := nth {} s.met.sums c
/-- The state with them replaced. -/
def State.setSum (s : State) (c : Nat) (x : ChanSum) : State := { s with met := { s.met with sums := setNth s.met.sums c x } }

/-! ### Records (R410 to R413) -/

/-- Records wait in the store for queue 26 while REC_EN = 1 and leave in order as it has room (R411). -/
def State.meterFlush1 (s : State) : State := match s.met.store with
  | [] => s
  | r :: rest =>
    if s.get F.MET_CFG_REC_EN = 1 ∧ s.qRoom 26 r.length then
      ({ s with met := { s.met with store := rest } }.qBytes 26 r).inc C.METER_RECORDS
    else s

/-- Every record that may leave leaves, and events that wait for the store enter it (R411, R412). -/
def State.meterFlush (s : State) : State :=
  let s := s.each (List.range 256) fun s _ => s.meterFlush1
  let n := 256 - s.met.store.length
  let s : State := { s with met := { s.met with store := s.met.store ++ s.met.pqWait.take n, pqWait := s.met.pqWait.drop n } }
  s.each (List.range 256) fun s _ => s.meterFlush1

/-- A record enters the store. -/
def State.meterStore (s : State) (r : List Nat) : State :=
  ({ s with met := { s.met with store := s.met.store ++ [r] } }).meterFlush

/-- An event record goes ahead of interval records of its instant (R412): it waits where the store is full. -/
def State.pqStore (s : State) (r : List Nat) : State :=
  ({ s with met := { s.met with pqWait := s.met.pqWait ++ [r] } }).meterFlush

/-- AUX of a record with GAP: RATED_P × SAVE_PERIOD in J, or all ones where no save was good (R415). -/
def State.gapAux (s : State) (d gap : Nat) : Nat :=
  if gap = 2 then 0xFFFFFFFF else min (MC.rated.get (s.mchan (3 + d)) * s.get F.SAVE_PERIOD) 0xFFFFFFFF

/-- The interval record of a dock (R410). -/
def State.ivRecord (s : State) (d timeS : Nat) (x : DockSt) : List Nat :=
  let j := fun n => n / 1000000000
  let flags := b2n (x.pos && x.neg) + b2n (decide (x.gap ≠ 0)) * 2 + b2n x.inval * 8 + b2n x.start * 16 + b2n x.pq * 32 + b2n x.ovr * 64
    + b2n x.noFund * 128
  toBytes 6 timeS ++ [d, flags] ++ toBytes 4 (x.ivNs / 1000000) ++ toBytes 4 x.seq ++ toBytes 8 (j x.ivImp) ++ toBytes 8 (j x.ivExp)
    ++ toBytes 8 (trunc (x.ivReact.tdiv 1000000000) 64) ++ toBytes 8 (j x.ivApp) ++ toBytes 8 (trunc (x.ivFund.tdiv 1000000000) 64)
    ++ toBytes 4 x.peak ++ toBytes 4 (if x.gap ≠ 0 then s.gapAux d x.gap else 0)

/-- An event is in progress on a V channel. -/
def State.pqActive (s : State) : Bool := s.met.pq.any fun e => decide (e.kind ≠ 0)

/-- The open interval of a dock ends (R410, R411): a record where REC_EN = 1 and the store has room; with no room the interval runs
on; with REC_EN = 0 no record, and the sums restart. -/
def State.dockEnd (s : State) (timeS d : Nat) : State :=
  let x := s.dock d
  if ¬ s.dockEn d then s
  else if s.get F.MET_CFG_REC_EN = 0 then s.setDock d (x.restart s.pqActive)
  else if 256 ≤ s.met.store.length then s
  else
    let r := s.ivRecord d timeS x
    (s.setDock d { x.restart s.pqActive with seq := (x.seq + 1) % 2 ^ 32, start := false, gap := 0 }).meterStore r

/-- The intervals of all docks end. -/
def State.docksEnd (s : State) (timeS : Nat) : State := s.meterFlush.each (List.range 12) fun s d => s.dockEnd timeS d

/-- The next multiple of INTERVAL after a fleet second. -/
def State.nextInterval (s : State) : Nat :=
  let i := max 1 (s.get F.INTERVAL)
  (s.fleetSec / i + 1) * i

/-! ### Power-quality events (R412) -/

/-- The SAG, SWELL and INTR bits follow the events in progress. -/
def State.pqShow (s : State) : State :=
  let m := fun k => ((List.range 3).filter fun v => decide ((nth {} s.met.pq v).kind = k)).foldl (fun a v => a + 2 ^ v) 0
  ((s.set F.MET_STATUS_SAG (m 1)).set F.MET_STATUS_SWELL (m 2)).set F.MET_STATUS_INTR (m 3)

/-- The state with the event of a V channel replaced. -/
def State.setPq (s : State) (v : Nat) (x : PqSt) : State :=
  ({ s with met := { s.met with pq := setNth s.met.pq v x } }).pqShow

/-- EXTREME in 0.01 % of V_NOM; a free value where it does not fit. -/
def State.pqExtreme (s : State) (mv : Nat) : Nat × State :=
  let e := mv * 10000 / max 1 s.vNom
  if e < 65536 then (e, s) else let (x, s) := s.free; (x % 65536, s)

/-- An event begins: the open intervals of the docks are touched. -/
def State.pqBegin (s : State) (v kind rms : Nat) : State :=
  let s := s.setPq v ⟨kind, s.fleetSec, s.fleetSubNs, 1, rms⟩
  { s with met := { s.met with docks := s.met.docks.map fun x => { x with pq := true } } }

/-- An event ends: its record, PQ_EVENTS, IRQ bit 8 and its NOTICE. -/
def State.pqEnd (s : State) (v : Nat) (truncated : Bool) : State :=
  let x := nth {} s.met.pq v
  if x.kind = 0 then s
  else
    let s := s.setPq v {}
    let n := s.met.pqSeq
    let s : State := { s with met := { s.met with pqSeq := (n + 1) % 2 ^ 32 } }
    let s := if s.get F.MET_CFG_REC_EN = 0 then s
      else
        let (e, s) := s.pqExtreme x.extreme
        s.pqStore (toBytes 6 x.sec ++ [x.kind + v * 4 + b2n truncated * 16, 0] ++ toBytes 4 x.ns ++ toBytes 4 (min x.n 0xFFFFFFFF)
          ++ toBytes 2 e ++ [0, 0] ++ toBytes 4 n ++ toBytes 8 0)
    (s.inc C.METER_PQ_EVENTS).notice pMETER I.METER_PQ_EVENT

/-- No event in progress: a refresh beyond a threshold begins one. -/
def State.pqIdle (s : State) (v rms : Nat) : State :=
  if s.belowPct rms (s.get F.PQ_CFG_INT_TH) then s.pqBegin v 3 rms
  else if s.belowPct rms (s.get F.PQ_CFG_SAG_TH) then s.pqBegin v 1 rms
  else if s.vNom * s.get F.PQ_CFG_SWELL_TH < rms * 100 then s.pqBegin v 2 rms
  else s

/-- A refresh of a V channel's one-cycle RMS. -/
def State.pqRefresh (s : State) (v rms : Nat) : State :=
  let x := nth {} s.met.pq v
  if x.kind = 0 then s.pqIdle v rms
  else if x.kind = 2 then
    if rms * 100 ≤ s.vNom * (s.get F.PQ_CFG_SWELL_TH - s.get F.PQ_CFG_HYST) then (s.pqEnd v false).pqIdle v rms
    else s.setPq v { x with n := x.n + 1, extreme := max x.extreme rms }
  else if !s.belowPct rms (s.get F.PQ_CFG_SAG_TH + s.get F.PQ_CFG_HYST) then (s.pqEnd v false).pqIdle v rms
  else
    let k := if s.belowPct rms (s.get F.PQ_CFG_INT_TH) then 3 else x.kind
    s.setPq v { x with kind := k, n := x.n + 1, extreme := min x.extreme rms }

/-! ### Pulse outputs (R416) -/

/-- A pulse output. -/
def State.pulse (s : State) (k : Nat) : PulseSt := nth {} s.met.pulses k
/-- The state with a pulse output replaced. -/
def State.setPulse (s : State) (k : Nat) (x : PulseSt) : State := { s with met := { s.met with pulses := setNth s.met.pulses k x } }

/-- 3,600,000,000 mJ in mW·ns: a pulse is due when the remainder times K reaches it. -/
def pulseUnit : Nat := 3600000000 * 1000000000

/-- The quantity of an output that a dock's window adds, mW. -/
def WinQ.qty (w : WinQ) : Nat → Nat
  | 0 => w.imp
  | 1 => w.exp
  | 2 => w.q.natAbs
  | _ => w.S

/-- The pin of an output, active or not under POL. -/
def State.pulsePin (s : State) (k : Nat) (active : Bool) : State :=
  s.emit (.pin (if k = 0 then "METER_PULSE0" else "METER_PULSE1") (active == decide (s.get F.PULSE_CFG_POL 0 k = 0)))

/-- A pulse ends WIDTH ms after it began, or where its output is no longer driven. -/
def State.pulseEnd (s : State) (k : Nat) : State :=
  let x := s.pulse k
  let ended := match x.lastAt with | none => true | some t => decide (t + ms (s.get F.PULSE_CFG_WIDTH 0 k) ≤ s.now)
  if x.high && (ended || decide (s.get F.PULSE_CFG_EN 0 k = 0)) then (s.setPulse k { x with high := false }).pulsePin k false else s

/-- The pulse that is over ends, and one begins where one waits and the spacing of 2 × WIDTH allows. -/
def State.pulseOut (s : State) (k : Nat) : State :=
  let s := s.pulseEnd k
  let x := s.pulse k
  let may := match x.lastAt with | none => true | some t => decide (t + ms (2 * s.get F.PULSE_CFG_WIDTH 0 k) ≤ s.now)
  if x.backlog = 0 ∨ !may ∨ s.get F.PULSE_CFG_EN 0 k = 0 ∨ s.sup.battery then s
  else (s.setPulse k { x with backlog := x.backlog - 1, lastAt := some s.now, high := true }).pulsePin k true

/-- A window adds to an output's remainder; each time it reaches the pulse's energy a pulse falls due. -/
def State.pulseAdd (s : State) (k qty len : Nat) : State :=
  if s.get F.PULSE_CFG_EN 0 k = 0 then s
  else
    let x := s.pulse k
    let r := x.remK + qty * len * s.get F.PULSE_CFG_K 0 k
    let s := (s.setPulse k { x with remK := r % pulseUnit, backlog := x.backlog + r / pulseUnit }).pulseOut k
    let y := s.pulse k
    if 255 < y.backlog then (s.setPulse k { y with backlog := 255 }).inc C.METER_PULSE_OVF 0 (y.backlog - 255) else s

/-- What the windows of the docks add to an output: its SRC dock, or all. -/
def State.pulseQty (s : State) (k : Nat) (l : List (Nat × WinQ)) : Nat :=
  let src := s.get F.PULSE_CFG_SRC 0 k
  l.foldl (fun n x => if src = 12 ∨ src = x.1 then n + x.2.qty (s.get F.PULSE_CFG_QTY 0 k) else n) 0

/-! ### Start, stop and takeover (R413, R417, R418) -/

/-- METER enters ON: the next record of each dock carries START; intervals and saves run from here. What an interval still holds
goes into its next record (R411). -/
def State.meterStart (s : State) : State :=
  let s : State := { s with met := { s.met with
    docks := s.met.docks.map fun x => { x with start := true },
    sums := List.replicate 15 {}, lastSec := s.fleetSec, saveDue := s.fleetSec + s.get F.SAVE_PERIOD } }
  { s with met := { s.met with nextIv := s.nextInterval } }

/-- Events in progress close with TRUNCATED (R412). -/
def State.pqTruncate (s : State) : State := s.each (List.range 3) fun s v => s.pqEnd v true

/-- METER leaves ON: events close with TRUNCATED, then each open interval closes (R412, R418). -/
def State.meterStop (s : State) : State := s.pqTruncate.docksEnd s.fleetSec

/-- METER is enabled at a takeover or a switch, and E0 of the charging tasks falls due (R417). -/
def State.meterTake (s : State) : State :=
  let s := s.setP pMETER F.CTRL_EN 1
  let s := if s.st pMETER = stOff then s.goState pMETER stStarting else s
  { s with met := { s.met with e0Due := true } }

/-- A converter cell is removed, or its voltage (R408): the docks concerned read invalid at once. -/
def State.meterCellGone (s : State) : State :=
  let bad := (List.range 15).filter fun c => decide (MC.en.get (s.mchan c) = 1) && !s.chanOk c
  let s := s.each bad fun s c => let e := s.te pMETER 2 c; s.setTe pMETER 2 c (setBits e 208 1 1)
  s.irq pMETER I.METER_CHANNEL_INVALID

end Sys2Proof.Machine
end

