-- ==== Sys2Proof/Machine/TaskOps.lean ====
section
/-! DEFINITION. The task board: entries, transitions, claims and what a lost holder does (R327 to R331). -/
namespace Sys2Proof.Machine
open Sys2Proof

/-- The TASKBOARD page. -/
abbrev pTASK : Page := ⟨.taskboard, 0⟩

/-! ### Fields of a task (R327) -/
/-- ID. -/
def TK.id : EF := ef 0 4
/-- GEN of the ID. -/
def TK.gen : EF := ⟨1, 4, 20⟩
/-- STATE. -/
def TK.state : EF := ef 4 1
/-- TKIND. -/
def TK.kind : EF := ef 5 1
/-- PRIO. -/
def TK.prio : EF := ef 6 1
/-- REASON. -/
def TK.reason : EF := ef 7 1
/-- OFFER_TO. -/
def TK.offerTo : EF := ef 8 2
/-- HOLDER. -/
def TK.holder : EF := ef 10 2
/-- HOLDER_GEN. -/
def TK.holderGen : EF := ef 12 2
/-- NOTIFY_FLOW. -/
def TK.notify : EF := ⟨14, 0, 10⟩
/-- CLAIM_BY. -/
def TK.claimBy : EF := ef 16 8
/-- DUE. -/
def TK.due : EF := ef 24 8
/-- DOCK. -/
def TK.dock : EF := ⟨32, 0, 4⟩
/-- RESULT. -/
def TK.result : EF := ef 33 1
/-- TFLAGS.METER_INVALID. -/
def TK.invalid : EF := ⟨34, 0, 1⟩
/-- TFLAGS.ENERGY_REACHED. -/
def TK.reached : EF := ⟨34, 1, 1⟩
/-- ENERGY_TGT. -/
def TK.target : EF := ef 36 4
/-- ENERGY. -/
def TK.energy : EF := ef 40 4
/-- CHANGES. -/
def TK.changes : EF := ef 44 4
/-- USER. -/
def TK.user : EF := ef 48 16

/-- FREE. -/
def tsFREE : Nat := 0
/-- OPEN. -/
def tsOPEN : Nat := 1
/-- OFFERED. -/
def tsOFFERED : Nat := 2
/-- CLAIMED. -/
def tsCLAIMED : Nat := 3
/-- ACTIVE. -/
def tsACTIVE : Nat := 4
/-- DONE. -/
def tsDONE : Nat := 5
/-- FAILED. -/
def tsFAILED : Nat := 6
/-- WITHDRAWN. -/
def tsWITHDRAWN : Nat := 7

/-- A task. -/
def State.task (s : State) (i : Nat) : Nat := s.te pTASK 0 i
/-- STATE of a task. -/
def State.taskSt (s : State) (i : Nat) : Nat := TK.state.get (s.task i)
/-- The tasks that are not FREE, in index order. -/
def State.tasksLive (s : State) : List Nat := (s.teListed pTASK 0).filter fun i => decide (s.taskSt i ≠ tsFREE)

/-- TB_STATUS. -/
def State.taskShow (s : State) : State :=
  let l := s.tasksLive
  (s.set F.TB_STATUS_LIVE l.length).set F.TB_STATUS_ACTIVE (l.filter fun i => decide (s.taskSt i = tsACTIVE)).length

/-- A task event for its NOTIFY_FLOW (R311). -/
def State.taskEvent (s : State) (i kind : Nat) : State :=
  let e := s.task i
  s.item { flow := TK.notify.get e, src := srcTASK, kind := kind,
           body := toBytes 4 (TK.id.get e) ++ [TK.state.get e, TK.reason.get e] ++ toBytes 2 (TK.holder.get e) ++
                   toBytes 4 (TK.energy.get e) ++ [0, 0, 0, 0] }

/-- A transition (R328): the entry with its new state, CHANGES incremented, the event (none for 0). -/
def State.taskTo (s : State) (i e st kind : Nat) : State :=
  let e := TK.changes.set (TK.state.set e st) (TK.changes.get e + 1)
  let s := (s.setTe pTASK 0 i e).taskShow
  if kind = 0 then s else s.taskEvent i kind

/-- Codes of R329. -/
def tcOK : Nat := 0
/-- NOT_OFFERED. -/
def tcNOTOFFERED : Nat := 1
/-- TAKEN. -/
def tcTAKEN : Nat := 2
/-- WRONG_STATE. -/
def tcWRONG : Nat := 3
/-- STALE_ID. -/
def tcSTALE : Nat := 4
/-- DOCK_BUSY. -/
def tcDOCK : Nat := 5
/-- LAPSED. -/
def tcLAPSED : Nat := 6
/-- NOT_HOLDER. -/
def tcNOTHOLDER : Nat := 7
/-- LEVEL. -/
def tcLEVEL : Nat := 8

/-- CLAIM_BY has been reached by an offered task. -/
def State.offerLapsed (s : State) (i : Nat) : Bool :=
  let e := s.task i
  decide (TK.state.get e = tsOFFERED ∧ TK.claimBy.get e ≠ 0 ∧ TK.claimBy.get e ≤ s.fleetMs)

/-- DUE has been reached by a held task. -/
def State.taskOverdue (s : State) (i : Nat) : Bool :=
  let e := s.task i
  decide ((TK.state.get e = tsCLAIMED ∨ TK.state.get e = tsACTIVE) ∧ TK.due.get e ≠ 0 ∧ TK.due.get e ≤ s.fleetMs)

/-- The deadline of a task is decided (R328, R330): not below TRACK. -/
def State.taskDeadline (s : State) (i : Nat) : State :=
  if s.get F.SVC_STATUS_LEVEL < 2 then s
  else if s.offerLapsed i then (s.taskTo i (s.task i) tsOPEN 7).inc C.TASKBOARD_LAPSED
  else if s.taskOverdue i then (s.taskTo i (TK.reason.set (s.task i) 3) tsFAILED 5).inc C.TASKBOARD_FAILED
  else s

/-- On the return to TRACK every deadline that has passed is decided at once, in index order (R330). -/
def State.taskDeadlines (s : State) : State := s.each s.tasksLive State.taskDeadline

/-- Another CHARGE task with the same dock is CLAIMED or ACTIVE (R331). -/
def State.dockBusy (s : State) (i : Nat) : Bool :=
  decide (TK.kind.get (s.task i) = 1) && s.tasksLive.any fun j =>
    decide (j ≠ i ∧ TK.kind.get (s.task j) = 1 ∧ TK.dock.get (s.task j) = TK.dock.get (s.task i) ∧
      (s.taskSt j = tsCLAIMED ∨ s.taskSt j = tsACTIVE))

/-- CLAIM for a member (R328 to R331): the state and the code. A deadline at the decision time has passed (R330). -/
def State.taskClaim (s : State) (i m : Nat) : State × Nat :=
  let refuse := fun (s : State) (c : Nat) => (s.inc C.TASKBOARD_CLAIMS_REFUSED, c)
  if s.get F.SVC_STATUS_LEVEL < 2 then refuse s tcLEVEL
  else if s.offerLapsed i then refuse (s.taskDeadline i) tcLAPSED
  else
    let s := s.taskDeadline i
    let e := s.task i
    let st := TK.state.get e
    if st = tsCLAIMED ∨ st = tsACTIVE then refuse s tcTAKEN
    else if st ≠ tsOFFERED then refuse s tcWRONG
    else if ¬ (bit (TK.offerTo.get e) 15 ∨ bits (TK.offerTo.get e) 0 9 = m) then refuse s tcNOTOFFERED
    else if s.dockBusy i then refuse s tcDOCK
    else
      let e := TK.holderGen.set (TK.holder.set e (0x8000 + m)) (s.gen m)
      ((s.taskTo i e tsCLAIMED 2).inc C.TASKBOARD_CLAIMS, tcOK)

/-- Import energy of a dock, mJ (METER table 1, R409). -/
def State.dockImport (s : State) (d : Nat) : Nat := bits (s.te ⟨.meter, 0⟩ 1 d) 0 64
/-- A dock reads invalid (R406, R408), or the meter does not run. -/
def State.dockInvalid (s : State) (d : Nat) : Bool := !s.isOn .meter || !s.dockOk d

/-- START by or for the holder (R328, R331): CHARGE takes the import reading (pseudo-table 8). -/
def State.taskStart (s : State) (i : Nat) (by_ : Option Nat) : State × Nat :=
  if s.get F.SVC_STATUS_LEVEL < 2 then (s, tcLEVEL)
  else
    let s := s.taskDeadline i
    let e := s.task i
    if TK.state.get e ≠ tsCLAIMED then (s, tcWRONG)
    else if (match by_ with | some m => decide (bits (TK.holder.get e) 0 9 ≠ m) | none => false) then (s, tcNOTHOLDER)
    else
      let s := if TK.kind.get e = 1 then s.setTe pTASK 8 i (s.dockImport (TK.dock.get e)) else s
      (s.taskTo i (TK.energy.set e 0) tsACTIVE 3, tcOK)

/-- DONE or FAIL of an ACTIVE task, by the issuer or by its holder with a RESULT (R328). -/
def State.taskFinish (s : State) (i : Nat) (fail : Bool) (by_ : Option (Nat × Nat)) : State × Nat :=
  if by_.isSome ∧ s.get F.SVC_STATUS_LEVEL < 2 then (s, tcLEVEL)
  else
    let s := s.taskDeadline i
    let e := s.task i
    if TK.state.get e ≠ tsACTIVE then (s, tcWRONG)
    else if (match by_ with | some (m, _) => decide (bits (TK.holder.get e) 0 9 ≠ m) | none => false) then (s, tcNOTHOLDER)
    else
      let e := match by_ with | some (_, r) => TK.result.set e r | none => e
      if fail then
        ((s.taskTo i (TK.reason.set e (if by_.isSome then 1 else 2)) tsFAILED 5).inc C.TASKBOARD_FAILED, tcOK)
      else ((s.taskTo i e tsDONE 4).inc C.TASKBOARD_DONE, tcOK)

/-- A TASK record of a member, decided and answered (R329). -/
def State.taskRecord (s : State) (m : Nat) (data : List Nat) : State :=
  let op := nth 0 data 0
  let id := ofBytes ((data.drop 4).take 4)
  let i := id % 2 ^ 12
  let early := fun (c : Nat) => (if op = 2 then s.inc C.TASKBOARD_CLAIMS_REFUSED else s, c)
  let r : State × Nat :=
    if s.get F.SVC_STATUS_LEVEL < 2 then early tcLEVEL
    else if TK.id.get (s.task i) ≠ id then early tcSTALE
    else match op with
      | 2 => s.taskClaim i m
      | 3 => s.taskStart i (some m)
      | 4 => s.taskFinish i false (some (m, nth 0 data 1))
      | 5 => s.taskFinish i true (some (m, nth 0 data 1))
      | _ => (s, tcWRONG)
  r.1.queueDown m 2 ([6, r.2, 0, 0] ++ toBytes 4 id ++ [op, 0, 0, 0])

/-- A member's generation has changed (R328): its claimed tasks return to OPEN, its active ones fail. -/
def State.taskForfeit (s : State) (m : Nat) : State :=
  let mine := s.tasksLive.filter fun i => decide (TK.holder.get (s.task i) = 0x8000 + m)
  s.each mine fun s i =>
    let e := s.task i
    if TK.state.get e = tsCLAIMED then
      (s.taskTo i (TK.holderGen.set (TK.holder.set e 0) 0) tsOPEN 8).irq pTASK I.TASKBOARD_HOLDER_LOST
    else if TK.state.get e = tsACTIVE then
      ((s.taskTo i (TK.reason.set e 4) tsFAILED 8).inc C.TASKBOARD_FAILED).irq pTASK I.TASKBOARD_HOLDER_LOST
    else s

end Sys2Proof.Machine
end

