-- ==== Sys2Proof/Machine/LeaseOps.lean ====
section
/-! DEFINITION. The lease engine's decisions: the checks of a request, granting, freeing, release, overstay, cross-zone
reservation, commitment and forfeits (R235 to R262). -/
namespace Sys2Proof.Machine
open Sys2Proof

/-! ### Freeing and chaining -/

/-- Insert an entry by POS. -/
def State.insPos (s : State) (x : Nat) : List Nat → List Nat
  | [] => [x]
  | y :: r => if LE.pos.get (s.le x) ≤ LE.pos.get (s.le y) then x :: y :: r else y :: s.insPos x r

/-- Steps of a furrow in order of position. -/
def State.stepsSorted (s : State) (head : Nat) : List Nat := (s.stepsOf head).foldr (fun x l => s.insPos x l) []

/-- FIRST, NEXT and NSTEP follow the steps still held; with none left the HEAD is freed (R231, R240). -/
def State.rechain (s : State) (head : Nat) : State :=
  match s.stepsSorted head with
  | [] =>
    let s := s.freeLe head
    { s with ls := { s.ls with ghosts := s.ls.ghosts.filter (· ≠ head), uncommitted := s.ls.uncommitted.filter (·.1 ≠ head),
                               parts := s.ls.parts.filter fun p => p.head ≠ some head,
                               xfers := s.ls.xfers.filter fun x => x.head ≠ head } }
  | l@(f :: _) =>
    let s := (s.leSet head LE.first f).leSet head LE.nstep l.length
    s.each (l.zip (l.drop 1 ++ [0x3FFFF])) fun s x => s.leSet x.1 LE.next x.2

/-- A lock is freed. -/
def State.freeLock (s : State) (i : Nat) : State :=
  let t := LE.turn.get (s.le i)
  (s.freeLe i).turnShow t

/-- One step is freed; its furrow follows. -/
def State.freeStep (s : State) (i : Nat) : State :=
  let h := LE.head.get (s.le i)
  (s.freeLe i).rechain h

/-- Every entry of a furrow returns to FREE in one decision (R240). -/
def State.freeFurrow (s : State) (head : Nat) : State :=
  let s := s.each (s.locksOf head) State.freeLock
  let l := s.stepsOf head
  let s := s.each l State.freeLe
  (s.rechain head).leaseShow

/-! ### The checks of R235 -/

/-- A refusal: its code, the position and the conflicting entry. -/
structure Deny where
  code : Nat
  pos : Nat := 0
  id : Nat := 0
  zone : Nat := 0
  deriving DecidableEq, Repr

/-- The node where a step enters, and where it leaves. -/
def State.ends (s : State) (r : ReqStep) : Nat × Nat :=
  let g := s.seg r.seg
  if r.dir = 0 then (SG.from_.get g, SG.to_.get g) else (SG.to_.get g, SG.from_.get g)

/-- The first element that fails, as a refusal. -/
def firstDeny (code : Nat) (l : List ReqStep) (bad : ReqStep → Bool) : Option Deny := (l.find? bad).map fun r => { code := code, pos := r.pos }

/-- Check 6: the path. -/
def State.checkPath (s : State) (l : List ReqStep) : Option Deny :=
  firstDeny 0x13 l fun r =>
    let g := s.seg r.seg
    decide (SG.valid.get g = 0) || (decide (r.dir = 1) && decide (SG.bidir.get g = 0)) ||
      (l.any fun q => decide (q.pos < r.pos ∧ q.seg = r.seg)) ||
      (l.any fun q => decide (q.pos + 1 = r.pos) && decide ((s.ends q).2 ≠ (s.ends r).1))

/-- Check 7: the windows. -/
def State.checkWindows (s : State) (l : List ReqStep) : Option Deny :=
  firstDeny 0x14 l fun r =>
    let end_ := r.start + r.dur * 1000
    decide (r.dur = 0) || decide (r.start < s.fleetNs) || decide (s.fleetNs + s.get F.HORIZON * 1000000000 < end_) ||
      (l.any fun q => decide (q.pos + 1 = r.pos) &&
        !(decide (q.start ≤ r.start ∧ r.start ≤ q.start + q.dur * 1000 ∧ q.start + q.dur * 1000 ≤ end_)))

/-- Checks 8 to 10 on the local steps: speed, width, closures. -/
def State.checkLocal (s : State) (wclass : Nat) (l : List ReqStep) : Option Deny :=
  (firstDeny 0x15 l fun r => decide (r.dur * SG.vmax.get (s.seg r.seg) < SG.length.get (s.seg r.seg) * 1000000)).or <|
  (firstDeny 0x16 l fun r => decide (SG.width.get (s.seg r.seg) < wclass)).or <|
  firstDeny 0x17 l fun r =>
    let t := SG.turnout.get (s.seg r.seg)
    decide (SG.closed.get (s.seg r.seg) = 1) || (decide (t ≠ 0xFFFF) && decide (TU.closed.get (s.turn t) = 1))

/-- Checks 12 to 15: this zone's own reservation (R235, R236, R238). Among several failures the lowest POS, then the lowest
index. -/
def State.checkReserve (s : State) (owner : Nat) (l : List ReqStep) (more : Nat) : Option Deny :=
  let runs := s.runsOf l
  let need := 1 + more + l.length + runs.length
  if (s.freeLes need).length < need then some { code := 0x03 }
  else
    let meet := fun (code : Nat) (bad : ReqStep → Nat → Bool) =>
      l.foldl (fun (acc : Option Deny) r => match acc with
        | some d => some d
        | none => ((s.rivals owner r.seg).find? (bad r)).map fun i => { code := code, pos := r.pos, id := LE.id.get (s.le i) }) none
    (meet 0x18 fun _ i => s.openEnded i).or <|
    (meet 0x19 fun r i => windowConflict r (s.le i) (SG.headway.get (s.seg r.seg))).or <|
    runs.foldl (fun (acc : Option Deny) u => match acc with
      | some d => some d
      | none => match s.lockConflict owner u.turn u.start u.stop with
        | some i => some { code := 0x1A, pos := u.pos, id := LE.id.get (s.le i) }
        | none => if s.directMeets u.turn u.start u.stop then some { code := 0x1A, pos := u.pos } else none) none

/-! ### Writing a furrow -/

/-- The entries of a furrow are written (R231, R238): HEAD, one STEP each with its distance along the furrow, one TLOCK for
each local run. `foreign` says which steps are placeholders. -/
def State.writeFurrow (s : State) (owner state flags xid ownGen : Nat) (l : List ReqStep) (foreign : ReqStep → Bool) : State × Nat :=
  let runs := s.runsOf (l.filter fun r => !foreign r)
  let free := s.freeLes (1 + l.length + runs.length)
  let h := free.headD 0
  let sIdx := (free.drop 1).take l.length
  let kIdx := free.drop (1 + l.length)
  let put := fun (i kind : Nat) => LE.kind.set (s.le i % 2 ^ 32) kind
  let head := LE.gseq.set (LE.xid.set (LE.owner.set (LE.hfrozen.set (put h 1) 0) owner) xid) (s.get F.GRANT_SEQ)
  let s := s.setLe h (setBits (LE.state.set head state) 56 8 flags)
  let s := (l.zip sIdx).foldl (fun (acc : State × Nat) x =>
    let (s, d) := acc
    let (r, i) := x
    let len := SG.length.get (s.seg r.seg)
    let e := leWindow (LE.seg.set (LE.dir.set (LE.pos.set (LE.foreign.set (put i 2) (b2n (foreign r))) r.pos) r.dir) r.seg) r.start r.dur
    ((s.setLe i (LE.head.set e h)).setTe pLEASE 9 i (d % 2 ^ 32 + (d + len) * 2 ^ 32), d + len)) (s, 0) |>.1
  let s := s.each (runs.zip kIdx) fun s x =>
    let (u, i) := x
    let e := leWindow (LE.turn.set (LE.pos.set (LE.state.set (put i 4) 1) u.pos) u.turn) u.start ((u.stop - u.start) / 1000)
    let e := LE.ownGen.set (setBits (LE.head.set e h) 224 32 0) ownGen
    ((s.setLe i e).setTe pLEASE 8 i owner).turnShow u.turn
  ((s.rechain h).leaseShow, h)

/-- What the furrow's grant does next (R240, R241): it waits for the delta of this superframe. -/
def State.awaitDelta (s : State) (h : Nat) : State :=
  { s with ls := { s.ls with uncommitted := s.ls.uncommitted ++ [(h, s.get F.SFN)] } }

/-! ### Messages and the other zones (R242, R243) -/

/-- A LEASE message of this zone. -/
def State.sendLease (s : State) (zone typ n xid owner arg : Nat) (steps : List PrepStep := []) : State :=
  s.leaseSend zone { typ := typ, epoch := s.get F.TIME_STATUS_EPOCH, from_ := s.number, n := n, xid := xid, owner := owner, arg := arg, steps := steps }

/-- A RELEASE or ABORT that is sent again each superframe until it is acknowledged (R243). -/
def State.sendRelease (s : State) (zone typ n xid owner : Nat) : State :=
  let m : LeaseMsg := { typ := typ, epoch := s.get F.TIME_STATUS_EPOCH, from_ := s.number, n := n, xid := xid, owner := owner, arg := 0, steps := [] }
  let s := s.leaseSend zone m
  if typ = 7 then { s with ls := { s.ls with rels := s.ls.rels ++ [⟨zone, m⟩] } } else s

/-- An unacknowledged RELEASE is sent again (R243). -/
def State.resendReleases (s : State) : State := s.each s.ls.rels fun s r => s.leaseSend r.zone r.msg

/-- The zone that decides a segment. -/
def State.segZone (s : State) (seg : Nat) : Nat := if SG.foreign.get (s.seg seg) = 1 then SG.zone.get (s.seg seg) else s.number

/-- A held operation completes. -/
def State.complHeld (s : State) (via : Via) (p : Page) (r : TRes) : State :=
  match s.held.find? fun h => h.via = via ∧ h.page = p with
  | some h =>
    let s : State := { s with held := s.held.filter fun x => !(decide (x.via = via ∧ x.page = p)) }
    let s : State := if p = pLEASE ∧ h.opcode = 10 then
        { s with ls := { s.ls with builds := s.ls.builds.filter fun b => b.handle ≠ nth 0 h.key 0 % 64 } }
      else s
    s.tblDone via p h.index r
  | none => s

/-- A SUBMIT is refused (R237, R239): GRANT_SEQ, REFUSALS, the REFUSED event. -/
def State.refuseSubmit (s : State) (owner : Nat) (d : Deny) : State × TRes :=
  let s := (s.takeSeq).inc C.LEASE_REFUSALS
  let s := if d.code = 0x03 then s.irq pLEASE I.LEASE_NO_ROOM else s
  let s := s.leaseEvent 3 owner 0 d.id d.pos (s.get F.GRANT_SEQ) d.code
  let data := d.id + (d.pos % 64 + d.zone % 64 * 256) * 2 ^ 32
  ({ s with ls := { s.ls with lastErr := d.code, lastData := data } }, { err := d.code, data := some data })

/-- A SUBMIT is granted: GRANTED event, GRANTS, the furrow ID and the GRANT_SEQ. -/
def State.grantDone (s : State) (h : Nat) : State × TRes :=
  let s := ((s.inc C.LEASE_GRANTS).leEvent 1 h).awaitDelta h
  (s, { data := some (LE.id.get (s.le h) + s.get F.GRANT_SEQ * 2 ^ 32) })

/-- The transaction of an XID. -/
def State.xfer (s : State) (xid : Nat) : Option Xfer := s.ls.xfers.find? fun x => x.xid = xid
/-- The state with a transaction replaced. -/
def State.setXfer (s : State) (x : Xfer) : State :=
  { s with ls := { s.ls with xfers := s.ls.xfers.map fun y => if y.xid = x.xid then x else y } }
/-- No head yet. -/
def noHead : Nat := 0x3FFFF

/-- A transaction ends without a grant (R240): ABORT to every zone that reserved, or RELEASE once COMMIT was sent; the
furrow is freed and the SUBMIT refused. -/
def State.abortXfer (s : State) (x : Xfer) (d : Deny) : State :=
  let committing := x.ask = [] ∧ x.acked ≠ [] ∨ (x.head ≠ noHead ∧ LE.state.get (s.le x.head) = hsCOMMITTING)
  let others := x.yes.filter (· ≠ s.number)
  let s := s.each others fun s z => if committing then s.sendRelease z 7 0 x.xid x.owner else s.sendRelease z 6 0 x.xid x.owner
  let s : State := { s with ls := { s.ls with xfers := s.ls.xfers.filter fun y => y.xid ≠ x.xid } }
  let s := if x.head ≠ noHead then s.freeFurrow x.head else s
  let (s, r) := (s.inc C.LEASE_XFER_ABORT).refuseSubmit x.owner d
  match x.via with
  | some v => (s.complHeld v pLEASE r).leaseShow
  | none => s.leaseShow

/-- Reservations still being made end where the level falls below TRACK (R240). -/
def State.abortPreparing (s : State) : State :=
  s.each (s.ls.xfers.filter fun x => decide (x.grantAt = none ∧ x.ask ≠ [])) fun s x => s.abortXfer x { code := 0x11, zone := s.number }

/-- PREPARE to one zone, with its own steps (R243). -/
def State.sendPrepare (s : State) (x : Xfer) (z : Nat) : State :=
  let l := x.steps.filter fun r => decide (s.segZone r.seg = z)
  s.sendLease z 1 l.length x.xid x.owner (x.deadline / 1000000 % 2 ^ 32)
    (l.map fun r => ⟨SG.oseg.get (s.seg r.seg), r.pos, r.dir, r.dur, r.start % 1000000000, r.start / 1000000000⟩)

/-- The next zone in ascending order reserves; this zone's own reservation is made at its place; after the last, COMMIT
goes to every other zone (R240, R242). `fuel` is the number of zones. -/
def State.advance (s : State) (xid : Nat) : Nat → State
  | 0 => s
  | k + 1 => match s.xfer xid with
    | none => s
    | some x => match x.ask with
      | [] =>
        let s := s.leSet x.head LE.state hsCOMMITTING
        s.each (x.zones.filter (· ≠ s.number)) fun s z => s.sendLease z 3 0 x.xid x.owner 0
      | z :: rest =>
        if z ≠ s.number then s.sendPrepare x z
        else
          let local_ := x.steps.filter fun r => decide (s.segZone r.seg = s.number)
          match s.checkReserve x.owner local_ (x.steps.length - local_.length) with
          | some d => s.abortXfer x { d with zone := s.number }
          | none =>
            let s := s.takeSeq
            let (s, h) := s.writeFurrow x.owner hsPREPARING 1 x.xid x.ownGen x.steps fun r => decide (s.segZone r.seg ≠ s.number)
            (s.setXfer { x with ask := rest, yes := x.yes ++ [z], head := h }).advance xid k

/-- Distinct numbers in ascending order. -/
def sortNats (l : List Nat) : List Nat :=
  l.foldl (fun acc x => if acc.contains x then acc else (acc.filter (· < x)) ++ [x] ++ acc.filter (x < ·)) []

/-- SUBMIT (R235): the checks in order, the first that fails naming the refusal; a local grant at once, or the beginning
of a cross-zone reservation, for which the operation stays in flight. -/
def State.submit (s : State) (b : Build) (via : Via) : State × Option TRes :=
  let steps : List ReqStep := b.steps.map fun x => ⟨x.1, x.2.1, x.2.2.1 % 2, b.base + x.2.2.2.1 * 1000, x.2.2.2.2⟩
  let local_ := steps.filter fun r => decide (s.segZone r.seg = s.number)
  let foreign := steps.filter fun r => decide (s.segZone r.seg ≠ s.number)
  let own := s.memberAt b.owner
  let chk := fun (c : Bool) (code : Nat) => if c then none else some ({ code := code } : Deny)
  let early : Option Deny :=
    (chk (decide (2 ≤ s.level)) 0x11).or <| (chk (decide (s.get F.TIME_STATUS_STEPPED = 1)) 0x10).or <|
    (chk (decide (b.epoch = s.get F.TIME_STATUS_EPOCH)) 0x1E).or <| (chk (decide (steps.length = b.nstep)) 0x1D).or <|
    (chk (match own with | some m => decide (s.mget m RG.silent = 0) | none => false) 0x12).or <|
    (s.checkPath steps).or <| (s.checkWindows steps).or <| (s.checkLocal b.wclass local_).or <|
    chk (foreign.isEmpty || (decide (s.get F.LEASE_CFG_CROSS_EN = 1) && !bit b.rflags 0)) 0x1B
  let early := if s.get F.LEASE_STATUS_LOST = 1 ∧ early.isNone then some { code := 0x18 } else early
  let refuse := fun (s : State) (d : Deny) => let (s, r) := s.refuseSubmit b.owner { d with zone := s.number }; (s, some r)
  match early with
  | some d => refuse s d
  | none =>
    let gen := match own with | some m => s.gen m | none => 0
    if foreign.isEmpty then
      match s.checkReserve b.owner local_ 0 with
      | some d => refuse s d
      | none =>
        let s := s.takeSeq
        let (s, h) := s.writeFurrow b.owner hsGRANTED 0 0 gen steps fun _ => false
        let (s, r) := s.grantDone h
        (s, some r)
    else
      let xid := s.number % 64 * 2 ^ 26 + s.ls.xidNext % 2 ^ 26
      let zones := sortNats (s.number :: foreign.map fun r => s.segZone r.seg)
      let x : Xfer := { xid := xid, head := noHead, owner := b.owner, zones := zones, ask := zones, yes := [], acked := [], noted := [],
                        deadline := s.fleetNs + 2 * s.period, grantAt := none, steps := steps, via := some via, wclass := b.wclass, ownGen := gen }
      let s : State := { s with ls := { s.ls with xfers := s.ls.xfers ++ [x], xidNext := s.ls.xidNext + 1 } }
      (s.advance xid (zones.length + 1), none)

/-! ### Commitment (R240, R241) -/

/-- A GRANTED furrow becomes COMMITTED once its delta is acknowledged and, with other zones, every zone has sent
COMMITTED; a part is announced to the initiating zone. -/
def State.tryCommit (s : State) (h : Nat) : State :=
  let e := s.le h
  if LE.kind.get e ≠ 1 ∨ LE.state.get e ≠ hsGRANTED ∨ (s.ls.uncommitted.any fun u => u.1 = h) then s
  else if LE.part.get e = 1 then
    let s := s.leSet h LE.state hsCOMMITTED
    s.sendLease (LE.xid.get e / 2 ^ 26) 5 0 (LE.xid.get e) (LE.owner.get e) 0
  else
    let ready := match s.xfer (LE.xid.get e) with
      | some x => LE.cross.get e = 0 || x.zones.all fun z => decide (z = s.number) || x.noted.contains z
      | none => true
    if !ready then s
    else
      let s := (s.leSet h LE.state hsCOMMITTED).leEvent 2 h
      { s with ls := { s.ls with xfers := s.ls.xfers.filter fun x => x.head ≠ h } }

/-- Every delta up to a superframe is acknowledged (R241). -/
def State.deltaAcked (s : State) (sfn : Nat) : State :=
  let done := (s.ls.uncommitted.filter fun u => !later u.2 sfn 32).map (·.1)
  let s : State := { s with ls := { s.ls with uncommitted := s.ls.uncommitted.filter fun u => later u.2 sfn 32 } }
  s.each done State.tryCommit

/-! ### Being on a step (R245) -/

/-- The furrow that a trailer of a member speaks of: the one under its plan, else its earliest live furrow. -/
def State.currentFurrow (s : State) (m : Nat) : Nat :=
  let owner := s.mget m RG.addr
  let mine := s.heads.filter fun h => decide (LE.owner.get (s.le h) = owner ∧ LE.part.get (s.le h) = 0 ∧ 4 ≤ LE.state.get (s.le h))
  let planned := bits (s.te pMOT 1 m) 128 32
  if mine.any fun h => LE.id.get (s.le h) = planned then planned
  else match mine.foldl (fun (b : Option Nat) h => match b with
      | some k => if later (LE.gseq.get (s.le k)) (LE.gseq.get (s.le h)) 32 then some h else some k
      | none => some h) none with
    | some h => LE.id.get (s.le h)
    | none => 0

/-- A member's trailer is resolved (R245). -/
def State.noteTrailer (s : State) (m pathPos : Nat) (clear : Bool) : State :=
  let f := s.currentFurrow m
  let g := match s.leById f with | some h => LE.gseq.get (s.le h) | none => 0
  { s with ls := { s.ls with trailers := ⟨m, f, g, pathPos, clear⟩ :: s.ls.trailers.filter fun t => t.member ≠ m } }

/-- The owner is on a step by its last trailer (R245), also once it has departed (R242); an owner whose old generation left the step counts as on it until its CLEAR
(R257). -/
def State.onStep (s : State) (i : Nat) : Bool :=
  let e := s.le i
  let h := LE.head.get e
  if s.ls.ghosts.contains h then true
  else match s.ls.trailers.find? fun t => t.member = bits (s.leOwner i) 9 9 with
  | none => false
  | some t =>
    let he := s.le h
    if t.furrow = LE.id.get he then decide ((s.stepDist i).1 ≤ t.d) && !(decide ((s.stepDist i).2 ≤ t.d) && t.clear)
    else if later t.gseq (LE.gseq.get he) 32 then !t.clear
    else decide ((s.stepDist i).1 = 0)

/-! ### Expiry, overstay, blocking (R246 to R250) -/

/-- The turnout lock whose run holds a step, if any. -/
def State.lockOfStep (s : State) (i : Nat) : Option Nat :=
  let e := s.le i
  let t := SG.turnout.get (s.seg (LE.seg.get e))
  let l := (s.locksOf (LE.head.get e)).filter fun k => decide (LE.turn.get (s.le k) = t ∧ LE.pos.get (s.le k) ≤ LE.pos.get e)
  l.foldl (fun (b : Option Nat) k => match b with
    | some j => if LE.pos.get (s.le j) < LE.pos.get (s.le k) then some k else some j
    | none => some k) none

/-- The steps still held of the run that a lock covers. -/
def State.stepsOfLock (s : State) (k : Nat) : List Nat :=
  (s.stepsOf (LE.head.get (s.le k))).filter fun i => decide (s.lockOfStep i = some k)

/-- A lock is kept open by a step of its run: an OVERSTAY, or one frozen past its end (R247, R249, R259). -/
def State.lockHeldOpen (s : State) (k : Nat) : Bool :=
  (s.stepsOfLock k).any fun i =>
    let e := s.le i
    decide (LE.kind.get e = 3) || (s.cold i && decide (leEnd e ≤ s.fleetNs))

/-- A lock follows the steps of its run (R259): ACTIVE to OPEN, OPEN back to ACTIVE or freed past its end. -/
def State.lockFollow (s : State) (k : Nat) : State :=
  let e := s.le k
  if LE.kind.get e ≠ 4 then s
  else if s.lockHeldOpen k then
    if LE.state.get e = 2 ∨ (LE.state.get e = 1 ∧ leStart e ≤ s.fleetNs) then (s.leSet k LE.state 3).turnShow (LE.turn.get e) else s
  else if LE.state.get e = 3 then
    if leEnd e ≤ s.fleetNs then s.freeLock k else (s.leSet k LE.state 2).turnShow (LE.turn.get e)
  else s

/-- A locks' followings for a furrow. -/
def State.locksFollow (s : State) (l : List Nat) : State := s.each l State.lockFollow

/-- An owner is reported BLOCKED to the registry (R248). -/
def State.blockOwner (s : State) (i : Nat) : State :=
  match s.memberAt (s.leOwner i) with
  | some m => ((s.holdMember m 4).leEvent 7 i).regCounts
  | none => s

/-- A step or lock has begun. -/
def State.leBegun (s : State) (i : Nat) : Bool := decide (leStart (s.le i) ≤ s.fleetNs)

/-- Every other owner that has begun a step on the segment, or a lock on the turnout, of an OVERSTAY entry is BLOCKED
(R248). -/
def State.blockAround (s : State) (i : Nat) : State :=
  let e := s.le i
  let owner := s.leOwner i
  let seg := LE.seg.get e
  let t := SG.turnout.get (s.seg seg)
  let hit := s.leLive.filter fun j =>
    let x := s.le j
    (((decide (LE.kind.get x = 2) || decide (LE.kind.get x = 3)) && decide (LE.seg.get x = seg)) ||
      (decide (t ≠ 0xFFFF) && decide (LE.kind.get x = 4) && decide (LE.turn.get x = t))) && decide (s.leOwner j ≠ owner) && s.leBegun j
  s.each hit State.blockOwner

/-- A step becomes OVERSTAY (R246). -/
def State.toOverstay (s : State) (i : Nat) : State :=
  let s := (((s.takeSeq).leSet i LE.kind 3).inc C.LEASE_OVERSTAY_COUNT).irq pLEASE I.LEASE_OVERSTAY
  let s := match s.lockOfStep i with | some k => s.lockFollow k | none => s
  let s := (s.leEvent 5 i).blockAround i
  let he := s.le (LE.head.get (s.le i))
  let s := if LE.foreign.get (s.le i) = 1 then
      s.sendLease (s.segZone (LE.seg.get (s.le i))) 9 0 (LE.xid.get he) (LE.owner.get he) (LE.pos.get (s.le i))
    else s
  s.leaseShow

/-- A step is freed by a decision of its own, with an event code (R246, R247). -/
def State.freeDecided (s : State) (i code : Nat) : State :=
  let s := s.takeSeq
  let e := s.le i
  let h := LE.head.get e
  let he := s.le h
  let owner := s.leOwner i
  let lk := s.lockOfStep i
  let s := s.leEvent code i
  let s := if LE.foreign.get e = 1 then s.sendLease (s.segZone (LE.seg.get e)) 8 0 (LE.xid.get he) (LE.owner.get he) (LE.pos.get e) else s
  let s := s.freeStep i
  let s := match lk with | some k => s.lockFollow k | none => s
  let s := match s.memberAt owner with | some m => s.motTrunc m | none => s
  s.leaseShow

/-- At end + GRACE a step is decided: freed, or OVERSTAY if the member is on it (R246). -/
def State.stepDue (s : State) (i : Nat) : State :=
  let e := s.le i
  let he := s.le (LE.head.get e)
  if LE.kind.get e ≠ 2 ∨ s.cold i = true ∨ LE.part.get he = 1 ∨ s.get F.LEASE_STATUS_LOST = 1 ∨ LE.state.get he < 4 ∨
     s.fleetNs < leEnd e + s.get F.GRACE * 1000000 then s
  else if s.onStep i then s.toOverstay i
  else (s.inc C.LEASE_EXPIRED).freeDecided i 4

/-- The entries' FROZEN flags follow their causes: a SILENT owner, a level below TRACK, the re-base pass (R249). Where a
freeze ends, steps past end + GRACE are decided at once, in index order. -/
def State.refreeze (s : State) : State :=
  let l := s.leLive.filter fun i => decide (LE.kind.get (s.le i) = 2 ∨ LE.kind.get (s.le i) = 3 ∨ LE.kind.get (s.le i) = 1)
  let change := l.filter fun i =>
    let e := s.le i
    decide ((if LE.kind.get e = 1 then LE.hfrozen.get e else LE.frozen.get e) ≠ b2n (s.cold i))
  let thaw := change.filter fun i => !s.cold i && decide (LE.kind.get (s.le i) = 2)
  let s := s.each change fun s i => s.leSet i (if LE.kind.get (s.le i) = 1 then LE.hfrozen else LE.frozen) (b2n (s.cold i))
  let locks := s.leLive.filter fun i => decide (LE.kind.get (s.le i) = 4)
  let s := s.locksFollow locks
  s.each thaw State.stepDue

/-- A later trailer frees the OVERSTAY entries of its member on which it no longer is (R247), and the orphans of its old
generations where CLEAR = 1 (R257, R259). -/
def State.trailerFrees (s : State) (m : Nat) (clear : Bool) : State :=
  let owner := s.mget m RG.addr
  let s : State := if clear then
      let mine := s.heads.filter fun h => decide (LE.owner.get (s.le h) = owner)
      { s with ls := { s.ls with ghosts := s.ls.ghosts.filter fun h => !(mine.contains h) } }
    else s
  let ovr := s.leLive.filter fun i => decide (LE.kind.get (s.le i) = 3 ∧ LE.part.get (s.le (LE.head.get (s.le i))) = 0) && decide (s.leOwner i = owner)
  let s := s.each ovr fun s i => if s.onStep i then s else s.freeDecided i 6
  if !clear then s
  else
    let orphans := s.leLive.filter fun i => decide (LE.kind.get (s.le i) = 4 ∧ LE.state.get (s.le i) = 4) && decide (s.leOwner i = owner)
    (s.each orphans fun s k =>
      let s := s.inc C.TURNOUT_ORPHANS_CLEARED
      if (s.stepsOfLock k).any fun i => decide (LE.kind.get (s.le i) = 3) then (s.leSet k LE.state 3).turnShow (LE.turn.get (s.le k))
      else s.freeLock k).leaseShow

/-! ### Release (R251) -/

/-- A lock follows the steps its run keeps: freed with the last, its interval recomputed otherwise. -/
def State.relock (s : State) (k : Nat) : State :=
  let e := s.le k
  if LE.state.get e = 4 then s
  else match s.stepsOfLock k with
  | [] => s.freeLock k
  | l =>
    let t := LE.turn.get e
    let start := l.foldl (fun n i => min n (leStart (s.le i))) (leStart (s.le (l.headD 0)))
    let stop := l.foldl (fun n i => max n (leEnd (s.le i))) 0 + TU.clear.get (s.turn t) * 1000
    (s.setLe k (leWindow e start ((stop - start) / 1000))).turnShow t

/-- Steps of a furrow at POS p or above that have not begun are freed, with their locks and foreign steps (R251); the
answer is how many. -/
def State.releaseFrom (s : State) (h p : Nat) : State × Nat :=
  let e := s.le h
  let go := (s.stepsOf h).filter fun i => decide (p ≤ LE.pos.get (s.le i) ∧ LE.kind.get (s.le i) = 2) && !s.leBegun i
  if go = [] then (s, 0)
  else
    let zones := sortNats ((go.filter fun i => decide (LE.foreign.get (s.le i) = 1)).map fun i => s.segZone (LE.seg.get (s.le i)))
    let owner := LE.owner.get e
    let locks := s.locksOf h
    let first := fun (z : Nat) => (go.filter fun i => decide (s.segZone (LE.seg.get (s.le i)) = z)).foldl (fun n i => min n (LE.pos.get (s.le i))) 63
    let firsts := zones.map fun z => (z, first z)
    let s := s.each firsts fun s z => s.sendRelease z.1 7 z.2 (LE.xid.get e) owner
    let s := s.each go fun s i => s.leEvent 9 i
    let s := s.each go State.freeLe
    let s := s.each locks State.relock
    let s := (s.rechain h).leaseShow
    let s := match s.memberAt owner with | some m => s.motTrunc m | none => s
    (s, go.length)

/-! ### Departure and forfeit (R242, R257) -/

/-- The furrows of a member that has departed, or whose generation has changed: those being reserved are aborted, steps
not begun released, begun steps kept. -/
def State.dropFurrows (s : State) (addr : Nat) : State :=
  let s := s.each (s.ls.xfers.filter fun x => decide (x.owner = addr ∧ x.grantAt = none)) fun s x => s.abortXfer x { code := 0x12, zone := s.number }
  let mine := s.heads.filter fun h => decide (LE.owner.get (s.le h) = addr ∧ LE.part.get (s.le h) = 0 ∧ 4 ≤ LE.state.get (s.le h))
  s.each mine fun s h => (s.releaseFrom h 0).1

/-- The begun locks of an old generation become ORPHAN_HELD, the others are freed (R257, R259). -/
def State.orphanLocks (s : State) (addr gen : Nat) : State :=
  let l := s.leLive.filter fun k =>
    decide (LE.kind.get (s.le k) = 4 ∧ LE.state.get (s.le k) ≠ 4 ∧ LE.ownGen.get (s.le k) ≠ gen) && decide (s.leOwner k = addr)
  s.each l fun s k =>
    let e := s.le k
    if leStart e ≤ s.fleetNs then
      (((s.leSet k LE.state 4).turnShow (LE.turn.get e)).inc C.TURNOUT_ORPHANS_SET).notice pTURN I.TURNOUT_ORPHAN (LE.turn.get e) (LE.id.get e)
    else s.freeLock k

/-- A sequence is discarded (R263): its batch emptied, its range unlocked. -/
def State.dropSeq (s : State) (h : Nat) : State :=
  let s : State := { s with ls := { s.ls with seqs := s.ls.seqs.filter fun q => q.handle ≠ h } }
  let s := s.set F.TO_STATUS_SEQ_OPEN (s.ls.seqs.foldl (fun n q => n + 2 ^ q.handle) 0)
  s.set F.SEQ_STAGED (s.ls.seqs.foldl (fun n q => n + q.edits.length) 0)

/-- The operations that an old generation left undecided complete with OWNER_GEN (R257). -/
def State.oldOps (s : State) (i : Nat) : State :=
  let mine := s.held.filter fun h => decide (h.via.owner = i ∧ h.gen ≠ s.gen i)
  s.each mine fun s h =>
    match s.ls.xfers.find? fun x => x.via = some h.via with
    | some x => (s.complHeld h.via h.page { err := 0x0D }).abortXfer { x with via := none } { code := 0x12, zone := s.number }
    | none => s.complHeld h.via h.page { err := 0x0D }

/-- The forfeit decision after a generation has changed (R257): one GRANT_SEQ; direct locks, sequences and undecided
operations of the old generation go; for a member also its locks, its furrows and its tasks. -/
def State.forfeit (s : State) (i : Nat) : State :=
  let s := ((s.takeSeq).inc C.TURNOUT_FORFEITS).irq pTURN I.TURNOUT_FORFEIT
  let id := ownerId i
  let direct := (s.teListed pTURN 0).filter fun t => decide (TU.downer.get (s.turn t) = id ∧ id ≠ 0 ∧ TU.dgen.get (s.turn t) ≠ s.gen i)
  let s := s.each direct fun s t => (s.setTe pTURN 0 t (s.turn t % 2 ^ 128)).turnShow t
  let old := s.ls.seqs.filter fun q => decide (q.owner = i ∧ q.gen ≠ s.gen i)
  let s := s.each old fun s q => ((s.dropSeq q.handle).inc C.TURNOUT_SEQ_FORFEITS).irq pTURN I.TURNOUT_SEQ_DISCARD
  let s := s.oldOps i
  let s := if i < 512 then
      let addr := s.addrOf i
      let s := s.orphanLocks addr (s.gen i)
      let s := s.dropFurrows addr
      let mine := s.heads.filter fun h => decide (LE.owner.get (s.le h) = addr ∧ LE.part.get (s.le h) = 0)
      -- a departed member (cause 2) is judged by its last trailer (R242)
      let s : State := if bits (s.te pREG 1 i) 16 8 = 2 then s
        else { s with ls := { s.ls with ghosts := (s.ls.ghosts.filter fun h => !(mine.contains h)) ++ mine } }
      (s.motEmpty i).taskForfeit i
    else s
  s.leaseShow

/-- A generation is incremented by its cause and the forfeit decided (R256, R257). -/
def State.bump (s : State) (i cause : Nat) : State := (s.bumpGen i cause).forfeit i

end Sys2Proof.Machine
end

