-- ==== Sys2Proof/Machine/GraphOps.lean ====
section
/-! DEFINITION. What a write of a segment, node, turnout or lease entry must keep to, and how it is applied (R227 to R232,
R258, R262). -/
namespace Sys2Proof.Machine
open Sys2Proof

/-- Live lease entries of a segment, placeholders included (R228). -/
def State.segInUse (s : State) (i : Nat) : Bool :=
  s.leLive.any fun j => decide ((LE.kind.get (s.le j) = 2 ∨ LE.kind.get (s.le j) = 3) ∧ LE.seg.get (s.le j) = i)

/-- The VALID segments. -/
def State.segsValid (s : State) : List Nat := (s.teListed pGRAPH 0).filter fun i => decide (SG.valid.get (s.seg i) = 1)

/-- The error of a segment write (R228): `s` before it, `t` as the tables will stand. -/
def segErr (s t : State) (i : Nat) : Nat :=
  let e := t.seg i
  let nodeOk := fun (n : Nat) => decide (ND.valid.get (t.node n) = 1)
  let turn := SG.turnout.get e
  let bad :=
    !nodeOk (SG.from_.get e) || !nodeOk (SG.to_.get e) || decide (SG.from_.get e = SG.to_.get e) ||
    decide (SG.length.get e = 0 ∨ 10000000 < SG.length.get e ∨ SG.vmax.get e = 0) ||
    (decide (turn ≠ 0xFFFF) && (decide (8192 ≤ turn) || decide (TU.valid.get (t.turn turn) = 0))) ||
    (if SG.foreign.get e = 0 then decide (SG.zone.get e ≠ t.number ∨ SG.oseg.get e ≠ i)
     else decide (SG.zone.get e = t.number ∨ turn ≠ 0xFFFF)) ||
    decide (bits e 132 4 ≠ 0 ∨ bits e 140 4 ≠ 0 ∨ bits e 150 2 ≠ 0 ∨ bits e 152 8 ≠ 0 ∨ bits e 224 32 ≠ 0)
  if bad then 0x11
  else if s.segInUse i ∧ SG.closed.set e 0 ≠ SG.closed.set (s.seg i) 0 then 0x10 else 0

/-- The error of a node write (R228). -/
def nodeErr (s t : State) (i : Nat) : Nat :=
  let e := t.node i
  let o := s.node i
  let named := t.segsValid.filter fun g => decide (SG.from_.get (t.seg g) = i ∨ SG.to_.get (t.seg g) = i)
  if ND.valid.get e = 0 ∧ ND.valid.get o = 1 ∧ named ≠ [] then 0x12
  else if (ND.e.get e ≠ ND.e.get o ∨ ND.n.get e ≠ ND.n.get o ∨ ND.u.get e ≠ ND.u.get o) ∧ named.any s.segInUse then 0x12
  else 0

/-- The error of a turnout write (R229): CLEAR changed under a live lock, or a field outside its range. -/
def turnErr (s t : State) (i : Nat) : Nat :=
  let e := t.turn i
  let o := s.turn i
  if 60000000 < TU.clear.get e ∨ bits e 34 6 ≠ 0 ∨ bits e 40 8 ≠ 0 then 0x0C
  else if TU.clear.get e ≠ TU.clear.get o ∧ (s.locksAt i ≠ [] ∨ TU.downer.get o ≠ 0) then 0x0C else 0

/-- The error of a lease entry written by a sequence (R231, R262). -/
def leaseErr (_s t : State) (i : Nat) : Nat :=
  let e := t.le i
  let ok := decide (bits e 0 18 = i ∧ 1 ≤ LE.gen.get e) && (match LE.kind.get e with
    | 0 => decide (e < 2 ^ 32)
    | 1 => decide (1 ≤ LE.state.get e ∧ LE.state.get e ≤ 5 ∧ 1 ≤ LE.nstep.get e ∧ LE.nstep.get e ≤ 64)
    | 2 | 3 => decide (LE.pos.get e ≤ 63 ∧ 1 ≤ LE.dur.get e ∧ LE.startNs.get e < 1000000000)
    | 4 => decide (LE.startNs.get e < 1000000000)
    | _ => false)
  if ok then 0 else 0x0C

/-- NSEG of every turnout that a segment's old or new record names. -/
def State.turnSegs (s : State) (ts : List Nat) : State :=
  let l := s.segsValid
  s.each (ts.filter fun t => decide (t < 8192)) fun s t =>
    s.setTe pTURN 0 t (TU.nseg.set (s.turn t) (l.filter fun g => decide (SG.turnout.get (s.seg g) = t)).length)

/-- SEGMENTS and NODES. -/
def State.graphShow (s : State) : State :=
  let n := ((s.teListed pGRAPH 1).filter fun i => decide (ND.valid.get (s.node i) = 1)).length
  (s.set F.SEGMENTS s.segsValid.length).set F.NODES n

/-- An entry of a target of R261 as it will be stored: read-only bytes keep what they hold (R229, R258). -/
def State.storedAs (s : State) (target i v : Nat) : Nat := match target with
  | 0 => v % 2 ^ 256
  | 1 => v % 2 ^ 128
  | 2 => v % 2 ^ 48 + s.turn i / 2 ^ 48 * 2 ^ 48
  | _ => v % 2 ^ 256

/-- The page and table of a target of R261. -/
def seqTarget (t : Nat) : Page × Nat := match t with
  | 0 => (pGRAPH, 0)
  | 1 => (pGRAPH, 1)
  | 2 => (pTURN, 0)
  | _ => (pLEASE, 0)

/-- Entries of a target. -/
def seqSize (t : Nat) : Nat := match t with
  | 0 | 1 => 65536
  | 2 => 8192
  | _ => 262144

/-- The error of a staged or written entry. -/
def entryErr (target : Nat) (s t : State) (i : Nat) : Nat := match target with
  | 0 => segErr s t i
  | 1 => nodeErr s t i
  | 2 => turnErr s t i
  | _ => leaseErr s t i

/-- An entry is stored, with nothing checked. -/
def State.storeEntry (s : State) (target i v : Nat) : State :=
  let (p, k) := seqTarget target
  s.setTe p k i (s.storedAs target i v)

/-- The index is in a range that another owner's sequence locks (R262). -/
def State.seqLocks (s : State) (target i owner : Nat) : Bool :=
  s.ls.seqs.any fun q => decide (q.target = target ∧ q.lo ≤ i ∧ i ≤ q.hi ∧ q.owner ≠ owner)

/-- What follows a change of the graph. -/
def State.afterGraph (s : State) (old : List Nat) : State := (s.turnSegs old).graphShow

/-- A WRITE of a segment, node or turnout (R228, R229, R262). -/
def State.writeGraph (s : State) (target i v owner : Nat) : State × TRes :=
  let refuse := fun (err : Nat) => ((if target < 2 then s.inc C.GRAPH_WRITE_REFUSED else s), ({ err := err } : TRes))
  if seqSize target ≤ i then refuse 0x04
  else if s.seqLocks target i owner then refuse 0x07
  else
    let t := s.storeEntry target i v
    let err := entryErr target s t i
    if err ≠ 0 then refuse err
    else (t.afterGraph (if target = 0 then [SG.turnout.get (s.seg i), SG.turnout.get (t.seg i)] else []), {})

end Sys2Proof.Machine
end

