-- ==== Sys2Proof/Machine/RtkBase.lean ====
section
/-! DEFINITION. Members at the solver: their entries, resets of ambiguities and states, the queue of member-epochs, and what
a base epoch does to every member (R115 to R130). -/
namespace Sys2Proof.Machine
open Sys2Proof

/-- The RTK_CTRL page. -/
abbrev pRTK : Page := ⟨.rtkCtrl, 0⟩
/-- The OBS_IN page. -/
abbrev pOBS : Page := ⟨.obsIn, 0⟩

/-! ### Entries (R129) -/
/-- EN. -/
def RK.en : EF := ⟨0, 0, 1⟩
/-- PRIO. -/
def RK.prio : EF := ⟨1, 0, 2⟩
/-- RATE. -/
def RK.rate : EF := ⟨2, 0, 3⟩
/-- DYN. -/
def RK.dyn : EF := ⟨3, 0, 2⟩
/-- EFF_RATE. -/
def RK.eff : EF := ef 4 1
/-- FIX_STATE. -/
def RK.state : EF := ef 5 1

/-- A member's solver entry. -/
def State.rk (s : State) (m : Nat) : Nat := s.te pRTK 0 m
/-- A member at the solver. -/
def State.rmem (s : State) (m : Nat) : RtkMem := AMap.get (fun _ => {}) s.rtk.mems m
/-- The state with a member at the solver replaced. -/
def State.setRmem (s : State) (m : Nat) (x : RtkMem) : State :=
  { s with rtk := { s.rtk with mems := AMap.set (fun _ => ({} : RtkMem)) s.rtk.mems m x } }

/-- RTK_STATUS.QUEUED, CELLS_LIVE and INTEG_STATUS.DISAGREE_NOW. -/
def State.rtkShow (s : State) : State :=
  let live := ((List.range 16).filter fun c => s.isOn .solver c && decide (s.getP ⟨.solver, c⟩ F.STATE_CELLS_LIVE ≠ 0)).length
  let s := (s.set F.RTK_STATUS_QUEUED s.rtk.queue.length).set F.RTK_STATUS_CELLS_LIVE live
  s.set F.INTEG_STATUS_DISAGREE_NOW (s.rtk.mems.filter fun e => e.2.disagree).length

/-- A whole-state reset (R124, R137): no fix, no position, DISAGREE and its counts cleared. A cell that holds the member
completes, and its result is discarded. -/
def State.rtkReset (s : State) (m : Nat) : State :=
  let x := s.rmem m
  let s := s.setRmem m { lastE := x.lastE }
  let s := (s.setTe pRTK 1 m 0).setTe pRTK 0 m (RK.state.set (s.rk m) 0)
  let s : State := { s with rtk := { s.rtk with cells := s.rtk.cells.map fun c => if c.me.member = m then { c with discard := true } else c } }
  s.rtkShow

/-- Ambiguities of a member that meet a condition are reset (R124). -/
def RtkMem.resetAmbs (x : RtkMem) (hit : Amb → Bool) : RtkMem :=
  { x with ambs := x.ambs.map fun a => if hit a then { a with fresh := true, int_ := none } else a }

/-- Base epochs whose resets are kept: a member without a solved epoch for 10 s loses its whole state anyway (R124). -/
def hitsKept : Nat := 20000000000

/-- The ambiguities of every member that the base epochs after one solved epoch, up to and with epoch `e`, reset (R124). -/
def State.baseReset (s : State) (solved e : Nat) (a : Amb) : Bool :=
  s.rtk.baseHits.any fun h => decide (solved < h.1 ∧ h.1 ≤ e) && (match h.2 with | none => true | some l => l.contains (a.sig, a.svid))

/-- A base epoch delivered to SOLVE (R124): ANT_SWITCH resets every ambiguity of every member; a CYCLE_SLIP, or a channel
that changed its signal, resets that signal's. Each member takes the resets at its next solved epoch from this one on (R120). -/
def State.baseEffects (s : State) (e : Epoch) : State :=
  let changed := e.recs.filter fun r => match AMap.get (fun _ => (0xFF, 0)) s.rtk.chanSig r.channel with
    | (0xFF, _) => false
    | (g, v) => decide (g ≠ r.signal ∨ v ≠ r.svid)
  let slips := e.recs.filter fun r => decide (r.ant = e.hflags % 2) && bit r.flags 4
  let hit := (slips ++ changed).map fun r => (r.signal, r.svid)
  let s : State := { s with rtk := { s.rtk with
    chanSig := e.recs.foldl (fun m r => AMap.set (fun _ => (0xFF, 0)) m r.channel (r.signal, r.svid)) s.rtk.chanSig } }
  let t := e.timeS * 1000000000 + e.timeNs
  let put := fun (x : Option (List (Nat × Nat))) =>
    ({ s with rtk := { s.rtk with baseHits := s.rtk.baseHits.filter (fun h => decide (t < h.1 + hitsKept)) ++ [(t, x)] } } : State)
  if bit e.hflags 1 then put none else if hit = [] then s else put (some hit)

/-- A base epoch with ANT_SWITCH or BASE_CHANGED makes the next correction epoch begin with the ARP (R147). -/
def State.noteArp (s : State) (e : Epoch) : State :=
  if bit e.hflags 1 || bit e.hflags 5 then
    { s with rtk := { s.rtk with arpDue := true, antDue := s.rtk.antDue || bit e.hflags 1 } }
  else s

/-- The epochs dropped from the queue, and the queue that is left. -/
def State.dropQueue (s : State) (drop : MEpoch → Bool) : State :=
  ({ s with rtk := { s.rtk with queue := s.rtk.queue.filter fun x => !drop x } }).rtkShow

/-- The member-epoch of a cell is given up (R120): queued again once with its original deadline, else dropped. -/
def State.giveUp (s : State) (cell : Nat) : State :=
  match s.rtk.cells.find? fun c => c.cell = cell with
  | none => s
  | some w =>
    let s : State := { s with rtk := { s.rtk with cells := s.rtk.cells.filter fun c => c.cell ≠ cell } }
    let s := s.set F.CELL_STATUS_BUSY 0 cell
    let late := match w.me.ready with | some r => decide (r + 30000000 ≤ s.fleetNs) | none => true
    if w.me.again || late then (s.inc C.RTK_CTRL_DEADLINE_DROP).irq pRTK I.RTK_CTRL_DEADLINE_DROP
    else
      let me := { w.me with again := true }
      (({ s with rtk := { s.rtk with queue := me :: s.rtk.queue } }).inc C.RTK_CTRL_REQUEUED).rtkShow

/-- Every member state is lost, and every entry disabled (R129, R130). -/
def State.rtkClear (s : State) : State :=
  let s := (s.clearTable pRTK 0).clearTable pRTK 1
  let cells := s.rtk.cells.map fun c => { c with discard := true }
  ({ s with rtk := { s.rtk with mems := [], cells := cells, costs := [], shed := [], easySince := none } }).rtkShow

/-- OBS_IN restarts: queued member-epochs are lost and counted in CONT_COUNT (R130). -/
def State.obsClear (s : State) : State :=
  let n := s.rtk.queue.length
  (s.incP pOBS C.CONT_COUNT n).dropQueue fun _ => true

end Sys2Proof.Machine
end

