-- ==== Sys2Proof/Machine/Conform.lean ====
section
/-! DEFINITION. Conformance: the set-point distance at a time, deviations, breaches and lost positions (R268, R269), and hold
causes with their conditions (R266). -/
namespace Sys2Proof.Machine
open Sys2Proof

/-- Points of a member from its oldest bundle kept up to the bundle that a trailer named (R279). -/
def MotSt.pointsTo (x : MotSt) (spAck : Nat) : List (Nat × Nat) :=
  if x.bundles.any fun b => b.sfn % 65536 = spAck then
    (x.bundles.filter fun b => !later b.sfn spAck 16).flatMap (·.pts)
  else []

/-- Linear interpolation between the points around a time, nm; none outside them (R279). -/
def interp (t : Nat) : List (Nat × Nat) → Option Nat
  | (t0, d0) :: (t1, d1) :: r =>
    if t0 ≤ t ∧ t ≤ t1 then some (if t1 = t0 then d1 else d0 + (d1 - d0) * (t - t0) / (t1 - t0))
    else interp t ((t1, d1) :: r)
  | [(t0, d0)] => if t = t0 then some d0 else none
  | [] => none

/-- d_sp of a member at a time: the bundle is the one its trailer names in SP_ACK. -/
def State.dsp (s : State) (m t : Nat) : Option Nat :=
  let ack := bits (s.mget m RG.trailer) 224 16
  interp t ((s.motion m).pointsTo ack)

/-- The stop class in force at the Headgate. -/
def State.stopClass (s : State) : Nat := s.get F.HG_STATE_CLASS

/-- The member's path as its steps give it: path distance of the start, DIR, LENGTH, HEAD_IN, CURV, node FROM (R227, R268). -/
def State.pathGeom (s : State) (m : Nat) : List (List Int) :=
  (s.motion m).chain.flatMap fun c => match s.leById c.1 with
    | none => []
    | some h => (s.stepsSorted h).map fun i =>
      let e := s.le i
      let g := s.seg (LE.seg.get e)
      let nd := s.node (SG.from_.get g)
      [((c.2.1 + (s.stepDist i).1 : Nat) : Int), (LE.dir.get e : Int), (SG.length.get g : Int), (SG.headIn.get g : Int), SG.curv.getI g, ND.e.getI nd, ND.n.getI nd, ND.u.getI nd]

/-- A position's path distance and its signed distance from the path, mm; none without a path. -/
def State.project (s : State) (m : Nat) (pos : List Int) : Option (Int × Int) :=
  if s.pathGeom m = [] then none else some (Config.project (s.pathGeom m) pos)

/-- One evaluation of a position in site ENU, mm (R268, R269). -/
def State.conform (s : State) (m t : Nat) (pos : List Int) (hpl : Nat) : State :=
  if ¬ s.isOn .motion ∨ s.mget m RG.rstate = 0 then s
  else match s.project m pos, s.dsp m t with
  | some (dist, lat), some d =>
    if s.stopClass = 3 then s
    else
      let along : Int := dist - d / 1000000
      let x := s.motion m
      let s := s.setMotion m { x with posAt := some t, lag := -along, posSfn := s.get F.SFN }
      let cl := if s.mget m RG.corrLat = 0 then s.get F.CORR_LAT_DEF else s.mget m RG.corrLat
      let ca := if s.mget m RG.corrAlong = 0 then s.get F.CORR_ALONG_DEF else s.mget m RG.corrAlong
      let s := (s.mset m RG.devLat (satInt lat 32)).mset m RG.devAlong (satInt along 32)
      if cl < iabs lat + hpl ∨ ca < iabs along then
        let run := min 255 (s.mget m RG.breach + 1)
        let s := (s.mset m RG.breach run).inc C.REGISTRY_BREACHES
        if run < s.get F.CONF_CFG_BREACH_COUNT then s
        else
          let was := bit (s.mget m RG.cause) 1
          let s := (s.holdMember m 1).regCounts
          if was then s else s.notice pREG I.REGISTRY_CORRIDOR (satInt lat 32) (satInt along 32) m
      else s.mset m RG.breach 0
  | _, _ => s

/-- A position that has no path to be compared on still feeds the age and the lag of set-points (R27). -/
def State.notePosition (s : State) (m t : Nat) : State :=
  let x := s.motion m
  s.setMotion m { x with posAt := some t }

/-- The member has a valid set-point now. -/
def State.hasSetPoint (s : State) (m : Nat) : Bool := (s.dsp m s.fleetNs).isSome

/-- No position has been used for STALE_SF superframes while the member has a valid set-point (R269). -/
def State.noPosition (s : State) (m : Nat) : Bool :=
  s.hasSetPoint m && decide (s.get F.CONF_CFG_STALE_SF ≤ (s.get F.SFN + 2 ^ 32 - (s.motion m).posSfn) % 2 ^ 32)

/-- NO_POSITION (R269). -/
def execNoPositionTimeout (m : Nat) (s : State) : Res :=
  if m < 512 ∧ s.isOn .motion ∧ !s.offDuty ∧ s.mget m RG.rstate ≠ 0 ∧ s.noPosition m ∧ s.stopClass ≠ 3 ∧ ¬ bit (s.mget m RG.cause) 3 then
    .next ((s.holdMember m 3).regCounts)
  else .next s

/-- An open-ended entry of another owner still meets a begun window of the member (R248, R266). -/
def State.stillBlocked (s : State) (m : Nat) : Bool :=
  let addr := s.mget m RG.addr
  let mine := s.leLive.filter fun i => decide (LE.kind.get (s.le i) ≠ 1) && decide (s.leOwner i = addr) && s.leBegun i
  let open_ := s.leLive.filter fun i =>
    decide (s.leOwner i ≠ addr) && (match LE.kind.get (s.le i) with
      | 2 | 3 => s.openEnded i
      | 4 => decide (LE.state.get (s.le i) = 3 ∨ LE.state.get (s.le i) = 4)
      | _ => false)
  mine.any fun i => open_.any fun j =>
    let a := s.le i
    let b := s.le j
    if LE.kind.get a = 4 then decide (LE.kind.get b = 4 ∧ LE.turn.get a = LE.turn.get b)
    else decide (LE.kind.get b ≠ 4 ∧ LE.seg.get a = LE.seg.get b)

/-- The condition under which a cause may not be released (R266). -/
def State.causeHolds (s : State) (m cause : Nat) : Bool := match cause with
  | 2 => (s.rmem m).disagree
  | 3 => s.noPosition m
  | 4 => s.stillBlocked m
  | 5 => decide (s.svc (s.mget m RG.port) ≠ 2)
  | 6 => decide (s.level < 2)
  | 7 => decide (s.mget m RG.silent = 1)
  | _ => false

end Sys2Proof.Machine
end

