-- ==== Sys2Proof/Machine/KeyOps.lean ====
section
/-! DEFINITION. The key store's slots: attributes, uses, zeroisation and the generations FRAME_SEC shows (R422 to R425,
R429, R434). The spec names a slot's attributes and gives their 16 bytes no layout: byte 0 KTYPE, 1 USAGE, 2 KFLAGS, 3 KGEN,
4 to 7 USES (DESIGN CHOICE, log entry 98). -/
namespace Sys2Proof.Machine
open Sys2Proof

/-- The KEYSTORE page. -/
abbrev pKS : Page := ⟨.keystore, 0⟩

/-- KTYPE. -/
def KS.ktype : EF := ef 0 1
/-- USAGE. -/
def KS.usage : EF := ef 1 1
/-- KFLAGS: bit 0 EXPIRE. -/
def KS.flags : EF := ef 2 1
/-- KGEN. -/
def KS.kgen : EF := ef 3 1
/-- USES. -/
def KS.uses : EF := ef 4 4

/-- Usage bits. -/
def usSIGN : Nat := 0
/-- VERIFY. -/
def usVERIFY : Nat := 1
/-- DERIVE. -/
def usDERIVE : Nat := 2
/-- FRAME. -/
def usFRAME : Nat := 3

/-- A slot's attributes. -/
def State.ks (s : State) (k : Nat) : Nat := s.te pKS 0 k
/-- A slot's secret material (pseudo-table 8): read by no source. -/
def State.ksSecret (s : State) (k : Nat) : Nat := s.te pKS 8 k
/-- A slot was zeroised by its last use (pseudo-table 10). -/
def State.ksKilled (s : State) (k : Nat) : Bool := decide (s.te pKS 10 k = 1)
/-- A slot holds a key. -/
def State.ksHeld (s : State) (k : Nat) : Bool := decide (KS.ktype.get (s.ks k) ≠ 0)
/-- A slot holds a key that may be used so (R423). -/
def State.ksMay (s : State) (k usage : Nat) : Bool := s.ksHeld k && bit (KS.usage.get (s.ks k)) usage

/-- KGEN_CUR, KGEN_NEXT and KGEN_PREV follow slots 8, 9 and 10. -/
def State.secShow (s : State) : State :=
  ((s.set F.SEC_STATUS_KGEN_CUR (KS.kgen.get (s.ks 8))).set F.SEC_STATUS_KGEN_NEXT (KS.kgen.get (s.ks 9))).set F.SEC_STATUS_KGEN_PREV
    (KS.kgen.get (s.ks 10))

/-- A slot is replaced whole: attributes, public key, secret, mask, killed mark. -/
def State.ksPut (s : State) (k attr pub secret mask killed : Nat) : State :=
  (((((s.setTe pKS 0 k attr).setTe pKS 1 k pub).setTe pKS 8 k secret).setTe pKS 9 k mask).setTe pKS 10 k killed).secShow

/-- A slot is zeroised. -/
def State.zeroise (s : State) (k : Nat) : State := s.ksPut k 0 0 0 0 0

/-- A slot takes what another holds. -/
def State.ksMove (s : State) (from_ to_ : Nat) : State :=
  s.ksPut to_ (s.ks from_) (s.te pKS 1 from_) (s.ksSecret from_) (s.te pKS 9 from_) (s.te pKS 10 from_)

/-- One use of a slot (R423): the last one zeroises it, with a KILLED event. -/
def State.ksUse (s : State) (k : Nat) : State :=
  let u := KS.uses.get (s.ks k)
  if u = 0xFFFFFFFF then s
  else if u ≤ 1 then ((s.ksPut k 0 0 0 0 1).inc C.KEYSTORE_KILLED).notice pKS I.KEYSTORE_KEY_KILLED k
  else s.setTe pKS 0 k (KS.uses.set (s.ks k) (u - 1))

/-- A key derivation of FRAME_SEC from a zone key slot (R423, R429). -/
def State.secDerive (s : State) (k : Nat) : State := (s.inc C.FRAME_SEC_DERIVES).ksUse k

/-- A free value of 256 bits, and the state in which it is used up. -/
def State.free256 (s : State) : Nat × State := ((Config.free256 s.fresh).toNat, { s with fresh := s.fresh + 1 })

end Sys2Proof.Machine
end

