-- ==== Sys2Proof/Machine/AirFrames.lean ====
section
/-! DEFINITION. Air frames as bytes: headers, addresses, the CCM nonce and associated data, the frame check sequence
(R178 to R181, R202, R203, R429, R432). -/
namespace Sys2Proof.Machine
open Sys2Proof

/-! ### Addresses (R9, R178) -/

/-- What an air short address names. -/
inductive AirAddr where
  | member (zone m : Nat)
  | all (zone : Nat)
  | unjoined (zone : Nat)
  | port (zone n : Nat)
  | reserved
  deriving DecidableEq, Repr

/-- An air short address is read: MEMBER in bits 8:0, ZONE in 14:9, BCAST in 15. -/
def airAddr (a : Nat) : AirAddr :=
  let zone := bits a 9 6
  let m := bits a 0 9
  if bits a 15 1 = 0 then .member zone m
  else if m = 0 then .all zone
  else if m = 0x1FB then .unjoined zone
  else if 0x1FC ≤ m then .port zone (m - 0x1FC)
  else .reserved

/-! ### Headers (R179, R180, R202) -/

/-- The eight bytes of a MAC header. -/
def macBytes (fc dst src seq : Nat) : List Nat := toBytes 2 fc ++ toBytes 2 dst ++ toBytes 2 src ++ toBytes 2 (seq % 4096)

/-- FC of a frame: TYPE, PROFILE, RELAY, OBS, SECURED. -/
def frameControl (typ prof : Nat) (relay obs : Bool) : Nat :=
  typ % 16 + prof % 4 * 2 ^ 4 + b2n relay * 2 ^ 6 + b2n obs * 2 ^ 7 + b2n (decide (typ ≠ 1)) * 2 ^ 8

/-- The six bytes of a security header. -/
def secBytes (fcnt kgen keyId : Nat) : List Nat := toBytes 4 fcnt ++ [kgen, keyId]

/-- A relay header is read: none where HOPS is 3 or a reserved bit is set. -/
def parseRelay (b : List Nat) : Option RelayHdr :=
  let u := fun (i : Nat) => ofBytes ((b.drop i).take 2)
  let o := u 4
  let p := u 6
  if bits p 0 2 = 3 ∨ bits p 13 3 ≠ 0 then none
  else some { final := u 0, orig := u 2, seq := bits o 0 12, ttl := bits o 12 3, down := bit o 15, hops := bits p 0 2, entry := bits p 2 11 }

/-- A frame's headers are read and tested (R181, R202): the FCS, TYPE, PROFILE, reserved bits, SECURED, the relay header, and a length that holds
the parts. -/
def parseAir (b : List Nat) : Option AirHdr :=
  let u := fun (i : Nat) => ofBytes ((b.drop i).take 2)
  let n := b.length
  let fc := u 0
  let typ := bits fc 0 4
  let relay := bit fc 6
  let head := 8 + (if relay then 8 else 0)
  let r := if relay then parseRelay ((b.drop 8).take 8) else none
  let sec := (b.drop head).take 6
  if n < 14 ∨ ofBytes (b.drop (n - 4)) ≠ crc32 (b.take (n - 4)) ∨ 8 < typ ∨ bits fc 4 2 = 0 ∨ bits fc 4 2 = 3 ∨ bits fc 9 7 ≠ 0 ∨ bits (u 6) 12 4 ≠ 0 ∨
     (bits fc 8 1 = 1 ↔ typ = 1) ∨ (relay ∧ r = none) ∨ (typ ≠ 1 ∧ n < head + 18) then none
  else some { typ := typ, prof := bits fc 4 2, obs := bit fc 7, dst := u 2, src := u 4, seq := u 6, relay := r, fcnt := ofBytes (sec.take 4),
              kgen := nth 0 sec 4, keyId := nth 0 sec 5,
              body := if typ = 1 then (b.drop 8).take (n - 12) else (b.drop (head + 6)).take (n - head - 10) }

/-! ### Keys and CCM (R203, R429, R432) -/

/-- The secret of the zone key of a generation: slot 8, or slot 10 during grace (R429, R435). -/
def State.zoneSecret (s : State) (g : Nat) : Nat := if KS.kgen.get (s.ks 8) = g then s.ksSecret 8 else s.ksSecret 10

/-- The key of a frame: K_B for KEY_ID 1, K_M of a member's identity for KEY_ID 0 (R429). -/
def State.frameKey (s : State) (secret keyId kgen id : Nat) : BitVec 128 :=
  Config.hkdf secret (if keyId = 1 then 0x42 :: (toBytes 2 (s.get F.ZONE_TAG) ++ [kgen]) else 0x4D :: (toBytes 8 id ++ [kgen]))

/-- The 13 bytes of a nonce. -/
def ccmNonce (src dst site fcnt kgen keyId : Nat) : List Nat :=
  toBytes 2 src ++ toBytes 2 dst ++ [site % 256] ++ toBytes 4 fcnt ++ [kgen % 256, keyId % 256, 0, 0]

/-- The types whose body goes in clear, authenticated (R180). -/
def clearType (typ : Nat) : Bool := decide (typ = 0 ∨ typ = 8)

/-- The associated data: the MAC header, of a relayed frame the end-to-end header, and the security header. -/
def AirHdr.aad (h : AirHdr) : List Nat :=
  let fc := frameControl h.typ h.prof false h.obs
  (match h.relay with
    | some r => macBytes fc r.final r.orig r.seq
    | none => macBytes fc h.dst h.src h.seq) ++ secBytes h.fcnt h.kgen h.keyId

/-- The originator of a frame, and the address it is finally for. -/
def AirHdr.ends (h : AirHdr) : Nat × Nat := match h.relay with | some r => (r.orig, r.final) | none => (h.src, h.dst)

/-- The nonce of a frame. -/
def AirHdr.nonce (h : AirHdr) (site : Nat) : List Nat := ccmNonce h.ends.1 h.ends.2 site h.fcnt h.kgen h.keyId

/-- What a secured frame says under a key, if its MIC verifies. -/
def AirHdr.open_ (h : AirHdr) (site : Nat) (key : BitVec 128) : Option (List Nat) :=
  if clearType h.typ then
    let n := h.body.length - 8
    (Config.ccmOpen key (h.nonce site) (h.aad ++ h.body.take n) (h.body.drop n)).map fun _ => h.body.take n
  else Config.ccmOpen key (h.nonce site) h.aad h.body

/-- The headers of a frame to be sent. -/
def AirFrame.hdr (f : AirFrame) : AirHdr :=
  { typ := f.typ, prof := f.prof, obs := false, dst := f.dst, src := f.src, seq := f.seq % 4096, fcnt := f.fcnt, kgen := f.kgen, keyId := f.keyId, body := f.body,
    relay := if f.relay = [] then none else parseRelay f.relay }

/-- A PSDU with its FCS behind it. -/
def withFcs (b : List Nat) : List Nat := b ++ toBytes 4 (crc32 b)

/-- The PSDU of a frame under a key (R179, R180). -/
def AirFrame.bytes (f : AirFrame) (site : Nat) (key : BitVec 128) : List Nat :=
  let h := f.hdr
  let mac := macBytes (frameControl f.typ f.prof (decide (f.relay ≠ [])) false) f.dst f.src f.seq
  if f.typ = 1 then withFcs (mac ++ f.body)
  else
    let sealed_ := if clearType f.typ then f.body ++ Config.ccmSeal key (h.nonce site) (h.aad ++ f.body) [] else Config.ccmSeal key (h.nonce site) h.aad f.body
    withFcs (mac ++ f.relay ++ secBytes f.fcnt f.kgen f.keyId ++ sealed_)

/-- A frame with the bytes that leave the antenna, under a zone secret. -/
def State.sealFrame (s : State) (secret : Nat) (f : AirFrame) : AirFrame :=
  { f with wire := f.bytes s.canal.site (s.frameKey secret f.keyId f.kgen f.id) }

end Sys2Proof.Machine
end

