-- ==== Sys2Proof/Machine/AirOps.lean ====
section
/-! DEFINITION. The sluice table's entries, the duration of a PPDU, what a port sends and how it numbers frames, and the
receive state of a sender (R165 to R187, R432 to R435). -/
namespace Sys2Proof.Machine
open Sys2Proof

/-- An AIRPORT page. -/
abbrev pAP (p : Nat) : Page := ⟨.airport, p⟩
/-- A SLUICE page. -/
abbrev pSL (p : Nat) : Page := ⟨.sluice, p⟩
/-- The FRAME_SEC page. -/
abbrev pSEC : Page := ⟨.frameSec, 0⟩

/-! ### Sluice entries (R171, R172) -/

/-- START. -/
def slStart (e : Nat) : Nat := bits e 0 11
/-- LEN. -/
def slLen (e : Nat) : Nat := bits e 11 8
/-- KIND. -/
def slKind (e : Nat) : Nat := bits e 19 3
/-- MEMBER. -/
def slMember (e : Nat) : Nat := bits e 22 9
/-- RATE. -/
def slRate (e : Nat) : Nat := bits e 31 3
/-- VALID. -/
def slValid (e : Nat) : Bool := bit e 34

/-- The valid entries of a bank, by index. -/
def State.slots (s : State) (p bank : Nat) : List (Nat × Nat) :=
  ((s.teListed (pSL p) bank).map fun i => (i, s.te (pSL p) bank i)).filter fun x => slValid x.2

/-- The active bank of a port. -/
def State.activeBank (s : State) (p : Nat) : Nat := s.get F.BANK_CTRL_ACTIVE p
/-- The valid entries of the active bank. -/
def State.activeSlots (s : State) (p : Nat) : List (Nat × Nat) := s.slots p (s.activeBank p)

/-- Insert an entry by START. -/
def insSlot (x : Nat × Nat) : List (Nat × Nat) → List (Nat × Nat)
  | [] => [x]
  | y :: r => if slStart x.2 < slStart y.2 then x :: y :: r else y :: insSlot x r

/-- The UP_MEMBER entry of a member in a bank, if any. -/
def State.upEntry (s : State) (p bank m : Nat) : Option Nat :=
  ((s.slots p bank).find? fun x => decide (slKind x.2 = 2 ∧ slMember x.2 = m)).map (·.2)

/-- The port that serves a member under the active banks. -/
def State.servingPort (s : State) (m : Nat) : Option Nat := (List.range 4).find? fun p => (s.upEntry p (s.activeBank p) m).isSome

/-- LINK of a member follows the active banks (R264). -/
def State.linkShow (s : State) (m : Nat) : State :=
  if s.mget m RG.rstate = 0 then s
  else match s.servingPort m with
    | some p => (s.mset m RG.port p).mset m RG.assigned 1
    | none => s.mset m RG.assigned 0

/-- MEMBERS and SILENT of PORT_INFO. -/
def State.portInfo (s : State) (p : Nat) : State :=
  let l := (s.activeSlots p).filter fun x => slKind x.2 = 2
  let q := l.filter fun x => decide (s.mget (slMember x.2) RG.rstate ≠ 0 ∧ s.mget (slMember x.2) RG.silent = 1)
  (s.set F.PORT_INFO_MEMBERS l.length p).set F.PORT_INFO_SILENT q.length p

/-! ### PPDUs (R165, R166, R170) -/

/-- N_DBPS of a rate code. -/
def nDbps (r : Nat) : Nat := nth 24 [24, 36, 48, 72, 96, 144, 192, 216] r

/-- T of a PPDU with a PSDU of L bytes, µs, by channel spacing. -/
def airUs (spacing rate L : Nat) : Nat :=
  let k := nth 2 [4, 2, 1] spacing
  20 * k + 4 * k * ((22 + 8 * L + nDbps rate - 1) / nDbps rate)

/-- T on a port. -/
def State.portUs (s : State) (p rate L : Nat) : Nat := airUs (s.get F.PORT_CFG_SPACING p) rate L

/-- Bytes of a frame's PSDU (R179, R180, R202). -/
def AirFrame.psdu (f : AirFrame) : Nat := if f.typ = 1 then 14 else 26 + f.relay.length + f.body.length

/-- T of an ack, µs, at the active bank's ACK_RATE. -/
def State.ackUs (s : State) (p : Nat) : Nat := s.portUs p (s.get F.BANK_HDR_ACK_RATE p (s.activeBank p)) 14

/-- The Headgate holds a port's transmit path: until TX_LAG after the last frame of its set (R162, R297). -/
def State.hgHolds (s : State) (p : Nat) : Bool := decide (s.get F.PORT_STATUS_TX_SRC p = 1 ∨ s.now < (s.port p).hgEnd)

/-- A strobe time in ps. -/
def State.tenths (s : State) (f : Fld) (p : Nat) : Nat := s.get f p * 100000

/-- An_TXCLK runs: from the start of STARTING to the end of STOPPING, but for a clock gap (R151, R156). -/
def State.txclk (s : State) (p : Nat) : Bool :=
  decide (s.st (pAP p) = stStarting ∨ s.st (pAP p) = stOn ∨ s.st (pAP p) = stStopping) && decide (s.get F.ROOT_STATUS_ROOT_LOCK = 1)

/-- The strobes TX_EN, PA_EN, RX_EN and LNA_BYP as they stand now (R153, R155, R156). The samples of a PPDU leave the balls TX_LAT before their instants at
the antenna (R167). -/
def State.strobesNow (s : State) (p : Nat) : Nat :=
  let x := s.port p
  let st := s.st (pAP p)
  let run := decide (st = stOn ∨ st = stStopping)
  let clk := decide (s.get F.ROOT_STATUS_ROOT_LOCK = 1) && !s.dbg.extest
  let lat := s.get F.LAT_TX_LAT p * 1000
  let from_ := fun (lead : Nat) => decide (x.txEnd ≠ 0 ∧ x.txFrom ≤ s.now + lat + lead)
  let until_ := fun (lag : Nat) => decide (s.now + lat < x.txEnd + lag)
  let lead := s.tenths F.STROBE_T0_TX_LEAD p
  let lag := s.tenths F.STROBE_T1_TX_LAG p
  let tx := run && clk && from_ lead && until_ lag
  let pa := run && clk && from_ (s.tenths F.STROBE_T0_PA_LEAD p) && until_ (s.tenths F.STROBE_T1_PA_LAG p)
  let busy := from_ (lead + s.tenths F.STROBE_T0_RX_TX_GAP p) && until_ (lag + s.tenths F.STROBE_T1_RX_LAG p)
  let rx := clk && ((decide (st = stOn) && !busy) || (decide (st = stStarting) && decide (4 ≤ x.step)))
  let lna := !run || !clk || tx || decide (s.get F.LNA_CFG_MODE p = 1)
  b2n tx + 2 * b2n pa + 4 * b2n rx + 8 * b2n lna

/-- The word pair that carries a sample (R150): SYNC, the sample, and in the Q word the flag OVR or SOP. -/
def airWord (i q : Int) (flag : Bool) : Nat × Nat := (0xD0000 + trunc i 12 * 16, 0x20000 + trunc q 12 * 16 + b2n flag)

/-- The SYNC fields of a word pair are right (R150, R152). -/
def syncOk (w : Nat × Nat) : Bool := decide (bits w.1 16 4 = 0xD ∧ bits w.2 16 4 = 0x2)

/-- The strobe edges of one PPDU that lasts `us` µs, ns after the instant at which it begins at the antenna (R153, R155, R167). Where the one before it ended
less than the lag and lead times ago, the strobes stay as they are between the two: the edges told for the time between do not come. -/
def State.strobes (s : State) (p at_ us : Nat) : State :=
  let t := fun (f : Fld) => (s.get f p * 100 : Int)
  let x := s.port p
  let sum := s.tenths F.STROBE_T1_TX_LAG p + s.tenths F.STROBE_T1_RX_LAG p + s.tenths F.STROBE_T0_RX_TX_GAP p + s.tenths F.STROBE_T0_TX_LEAD p
  let near := decide (x.txEnd ≠ 0 ∧ at_ < x.txEnd + sum)
  let lat : Int := s.get F.LAT_TX_LAT p
  let lead := t F.STROBE_T0_TX_LEAD
  let end_ : Int := us * 1000 - lat
  let off := end_ + t F.STROBE_T1_TX_LAG
  let byp := decide (s.get F.LNA_CFG_MODE p ≠ 1)
  let s := if near then s.emit (.strobeStay p)
    else (((s.emit (.strobe p 2 false (-lat - lead - t F.STROBE_T0_RX_TX_GAP))).emit (.strobe p 0 true (-lat - lead))).on byp fun s =>
      s.emit (.strobe p 3 true (-lat - lead))).emit (.strobe p 1 true (-lat - t F.STROBE_T0_PA_LEAD))
  (((s.emit (.strobe p 1 false (end_ + t F.STROBE_T1_PA_LAG))).emit (.strobe p 0 false off)).on byp fun s => s.emit (.strobe p 3 false off)).emit
    (.strobe p 2 true (off + t F.STROBE_T1_RX_LAG))

/-- A PPDU of L bytes goes out (R153, R166), beginning at the antenna at a moment in ps: none outside 14 to 2,048 bytes. -/
def State.ppduAt (s : State) (p at_ rate L : Nat) : State :=
  if L < 14 ∨ 2048 < L then s
  else
    let t := s.portUs p rate L
    let s := (s.inc C.AIRPORT_PPDU_TX p).strobes p at_ t
    s.setPort p { s.port p with txFrom := at_, txEnd := at_ + us t }

/-- A PPDU that begins now. -/
def State.ppduTx (s : State) (p rate L : Nat) : State := s.ppduAt p s.now rate L

/-- The moment in ps of a fleet time that is not past, in ns; now for any other. -/
def State.momentOf (s : State) (ns : Nat) : Nat := s.now + (ns - s.fleetNs) * 1000

/-! ### Entries in time (R169, R175) -/

/-- Start of an entry of the present superframe, fleet ns. -/
def State.entryAt (s : State) (e : Nat) : Nat := s.air.curB + slStart e * 125000
/-- Its end. -/
def State.entryEnd (s : State) (e : Nat) : Nat := s.entryAt e + slLen e * 125000

/-- A valid entry of a kind in the active bank of a SERVING port that has begun and has not been run in this superframe. -/
def State.entryDue (s : State) (p i kind : Nat) : Option Nat :=
  let e := s.te (pSL p) (s.activeBank p) i
  if p < 4 ∧ slValid e ∧ slKind e = kind ∧ s.svc p = 2 ∧ s.isOn .sluice p ∧ s.entryAt e ≤ s.fleetNs ∧ s.fleetNs < s.entryEnd e ∧
     ¬ s.air.done.contains (p, i) then some e else none

/-- An entry is run once in a superframe. -/
def State.entryRun (s : State) (p i : Nat) : State := { s with air := { s.air with done := (p, i) :: s.air.done } }

/-- The Headgate holds a port's transmit path: the entry is lost and counted (R162, R196). -/
def State.preempted (s : State) (p : Nat) : Bool := s.hgHolds p

/-! ### Keys, counters and sending (R180, R433, R434) -/

/-- The generation under which a port sends; 0 none. -/
def State.kgen (s : State) : Nat := s.get F.SEC_STATUS_KGEN_CUR

/-- ROT_SFN may be set to `sfn` (R434). -/
def State.rotOk (s : State) (sfn : Nat) : Bool :=
  let d := (sfn + 2 ^ 32 - s.get F.SFN) % 2 ^ 32
  decide (s.get F.SEC_STATUS_KGEN_NEXT ≠ 0 ∧ s.get F.SEC_STATUS_ROT_PEND = 0 ∧ s.get F.SEC_STATUS_KGEN_PREV = 0 ∧ 16 ≤ d ∧ d < 2 ^ 31)

/-- A rotation is scheduled. -/
def State.rotSet (s : State) (sfn : Nat) : State := (s.set F.ROT_SFN sfn).set F.SEC_STATUS_ROT_PEND 1

/-- With REKEY_AUTO, REKEY_DUE schedules a rotation ROTATE_LEAD superframes ahead (R434). -/
def State.rotAuto (s : State) : State :=
  let sfn := (s.get F.SFN + s.get F.SEC_CFG_ROTATE_LEAD) % 2 ^ 32
  if s.get F.SEC_STATUS_REKEY_DUE = 1 ∧ s.get F.SEC_CFG_REKEY_AUTO = 1 ∧ s.rotOk sfn then s.rotSet sfn else s

/-- A frame counter has reached a value: at 2^30 REKEY_DUE is set (R433). -/
def State.noteFcnt (s : State) (v : Nat) : State :=
  if v < 2 ^ 30 ∨ s.get F.SEC_STATUS_REKEY_DUE = 1 then s
  else ((s.set F.SEC_STATUS_REKEY_DUE 1).irq pSEC I.FRAME_SEC_REKEY_DUE).rotAuto

/-- FCNT and SEQ of a port's next frame, and the state in which they are used up. -/
def State.takeNums (s : State) (p : Nat) : Nat × Nat × State :=
  let fc := nth 0 s.air.fcnt p
  let sq := nth 0 s.air.seq p
  let s : State := { s with air := { s.air with fcnt := setNth s.air.fcnt p (fc + 1), seq := setNth s.air.seq p ((sq + 1) % 4096) } }
  (fc, sq, (s.nearSets p).noteFcnt (fc + 1))

/-- ARB_CTRL.FREEZE of AIR stops what the slot engines send; the Headgate does not use the arbiter (R12, R338). -/
def State.airFrozen (s : State) : Bool := decide (s.get F.ARB_CTRL_FREEZE 3 = 1)

/-- The slot engine of a port may start a PPDU: its blocks ON, the path its own, the clock running, a zone key, FCNT below
2^31 (R156, R162, R433); a unit of a pair that does not serve sends nothing (R387). -/
def State.maySend (s : State) (p : Nat) : Bool :=
  s.isOn .airport p && s.isOn .sluice p && !s.hgHolds p && decide ((s.port p).txEnd ≤ s.now) && decide (s.get F.ROOT_STATUS_ROOT_LOCK = 1) &&
    decide (s.kgen ≠ 0) && decide (nth 0 s.air.fcnt p < 2 ^ 31) && !s.airFrozen && s.isOn .frameSec && !s.fifoOff (pAP p) 65 && !s.offDuty

/-- The BEACON entry of a port's active bank. -/
def State.beaconEntry (s : State) (p : Nat) : Option Nat := ((s.activeSlots p).find? fun x => slKind x.2 = 0).map (·.2)

/-- The entries of the beacon's map in order of START (R182). -/
def State.beaconMap (s : State) (p : Nat) : List (Nat × Nat) :=
  ((s.activeSlots p).filter fun x => decide (slKind x.2 = 1 ∨ slKind x.2 = 3 ∨ slKind x.2 = 4)).foldr insSlot []

/-- The slot engine posts the beacon of a boundary (R163, R170, R182, R299, R433, R489): the port STARTING for it or SERVING, its
blocks ON, VDD_GATE up, a zone key and a counter for it, a BEACON entry that it fits. -/
def State.enginePosts (s : State) (p b : Nat) : Bool :=
  s.isOn .airport p && s.isOn .sluice p && s.isOn .frameSec && !s.airFrozen && !s.offDuty && s.sup.vddGate &&
    decide (s.get F.ROOT_STATUS_ROOT_LOCK = 1 ∧ s.kgen ≠ 0 ∧ nth 0 s.air.fcnt p < 2 ^ 31) &&
    decide (s.svc p = 2 ∨ (s.svc p = 1 ∧ (s.port p).svcAt + 1000000 ≤ b)) &&
    (match s.beaconEntry p with
      | some e => decide (s.portUs p (slRate e) (58 + 4 * (s.beaconMap p).length) + 10 ≤ slLen e * 125)
      | none => false)

/-- A slot-engine frame goes on air at a rate. -/
def State.putAir (s : State) (p : Nat) (f : AirFrame) : State := (s.airEmit p false (s.sealFrame (s.zoneSecret f.kgen) f)).ppduTx p f.rate f.psdu

/-- A new broadcast frame under the zone key (R180). -/
def State.sendZone (s : State) (p typ rate : Nat) (body : List Nat) : State :=
  let (fc, sq, s) := s.takeNums p
  s.putAir p { typ := typ, dst := 0x8000 + s.number * 0x200, src := 0x8000 + s.number * 0x200 + 0x1FC + p, seq := sq, keyId := 1,
               kgen := s.kgen, fcnt := fc, rate := rate, body := body }

/-- Short address of a port. -/
def State.portShort (s : State) (p : Nat) : Nat := 0x8000 + s.number * 0x200 + 0x1FC + p
/-- Short address of a member of this zone. -/
def State.memberShort (s : State) (m : Nat) : Nat := s.number * 0x200 + m

/-- An ACK of a frame that ended at `end_` in an entry that ends at `lim`, fleet ns (R184): 32 µs after that end. It is not sent while the Headgate holds
the path (R297), by a unit of a pair that does not serve (R387), nor where it would not end 10 µs before the entry does (R170). -/
def State.sendAck (s : State) (p dst seq snr rate end_ lim : Nat) : State :=
  let f : AirFrame := { typ := 1, dst := dst, src := s.portShort p, seq := seq, rate := rate, body := [min 255 snr, 0] }
  if s.isOn .airport p && s.isOn .sluice p && !s.hgHolds p && !s.offDuty && decide ((s.port p).txEnd ≤ s.now ∧ end_ + 42000 + s.portUs p rate 14 * 1000 ≤ lim) then
    (((s.airEmit p false (s.sealFrame 0 f)).ppduAt p (s.momentOf (end_ + 32000)) rate 14)).inc C.SLUICE_ACK_TX p
  else s

/-! ### Receive state (R185, R435) -/
/-- WINDOW. -/
def LK.win : EF := ef 0 8
/-- LAST_FCNT. -/
def LK.fcnt : EF := ef 8 4
/-- HIGH_SEQ. -/
def LK.high : EF := ⟨12, 0, 12⟩
/-- MISS_RUN. -/
def LK.miss : EF := ef 14 1
/-- SILENT. -/
def LK.silent : EF := ⟨15, 0, 1⟩
/-- ASSIGN_PENDING. -/
def LK.pend : EF := ⟨15, 1, 1⟩

/-- The link state of a member; it is kept once, in table 2 of instance 0, whichever port serves the member. -/
def State.link (s : State) (m : Nat) : Nat := s.te (pSL 0) 2 m
/-- The state with a member's link state replaced. -/
def State.setLink (s : State) (m v : Nat) : State := s.setTe (pSL 0) 2 m v

/-- A sequence number is marked in a link's window. -/
def seqMarked (l seq : Nat) : Bool :=
  let d := (LK.high.get l + 4096 - seq % 4096) % 4096
  decide (d < 64) && bit (LK.win.get l) d

/-- A fresh frame moves the window to take its SEQ, and LAST_FCNT follows. -/
def takeSeqNo (l fcnt seq : Nat) : Nat :=
  let ahead := (seq % 4096 + 4096 - LK.high.get l) % 4096
  let behind := (4096 - ahead) % 4096
  let w := LK.win.get l
  let l := LK.fcnt.set l fcnt
  if ahead = 0 then LK.win.set l (Nat.lor w 1)
  else if ahead < 2048 then LK.high.set (LK.win.set l (w * 2 ^ (min ahead 64) % 2 ^ 64 + 1)) seq
  else if behind < 64 then LK.win.set l (Nat.lor w (2 ^ behind))
  else LK.high.set (LK.win.set l 1) seq

/-- How R185 classes a verified frame. -/
inductive Fresh where | deliver | dup | replay
  deriving DecidableEq, Repr

/-- The class of a frame under a link state. -/
def freshness (l fcnt seq : Nat) : Fresh :=
  if seqMarked l seq then .dup else if LK.fcnt.get l < fcnt then .deliver else .replay

/-- The receive state of a member under the generation of its frame: the present one, or the one kept in grace. -/
def State.linkUnder (s : State) (m kgen : Nat) : Nat :=
  if kgen = s.kgen then s.link m else AMap.get (fun _ => 0) s.air.prevLink m

/-- A delivered frame enters the receive state of its generation. -/
def State.linkTake (s : State) (m kgen fcnt seq : Nat) : State :=
  let l := takeSeqNo (s.linkUnder m kgen) fcnt seq
  if kgen = s.kgen then (s.setLink m l).noteFcnt fcnt
  else { s with air := { s.air with prevLink := AMap.set (fun _ => 0) s.air.prevLink m l } }

/-- Frames of a generation are still verified: the current one, or the previous during grace (R435). -/
def State.kgenOk (s : State) (g : Nat) : Bool :=
  decide (g ≠ 0) && (decide (g = s.kgen) || decide (g = s.get F.SEC_STATUS_KGEN_PREV))

/-! ### Service state (R163) -/

/-- Where the zone's P is no longer what it was, the next boundary is the next whole multiple of the new one (R168). -/
def State.newPeriod (s : State) (old : Nat) : State :=
  if s.period = old then s else { s with air := { s.air with nextB := (s.fleetNs / s.period + 1) * s.period } }

/-- PORT_STATUS.SVC changes, with bit 8 at every change; the zone's P may change with it. -/
def State.setSvc (s : State) (p v : Nat) : State :=
  if s.svc p = v then s else ((s.set F.PORT_STATUS_SVC v p).irq (pAP p) I.AIRPORT_SVC_CHG).newPeriod s.period

/-- Every condition of the DOWN row holds: AIRPORT and SLUICE ON, the slot engine in the pool. -/
def State.svcReady (s : State) (p : Nat) : Bool :=
  s.isOn .airport p && s.isOn .sluice p && decide (s.getP (pSL p) F.STATE_CELLS_LIVE ≠ 0) && !s.inRecovery

/-- Another port is STARTING or SERVING under another P (R168). -/
def State.svcClash (s : State) (p : Nat) : Bool :=
  (List.range 4).any fun q => decide (q ≠ p ∧ (s.svc q = 1 ∨ s.svc q = 2)) && decide (s.sfOf p ≠ s.zoneSf)

/-- A port enters FAULT (R163, R200, R266): its transmissions stop, members with an UP_MEMBER entry are held. -/
def State.svcFault (s : State) (p : Nat) : State :=
  if s.svc p ≠ 1 ∧ s.svc p ≠ 2 then s
  else
    let s := ((s.set F.PORT_STATUS_SVC 3 p).notice (pAP p) I.AIRPORT_SVC_CHG p).newPeriod s.period
    let l := ((s.activeSlots p).filter fun x => slKind x.2 = 2).map fun x => slMember x.2
    (s.each l fun s m => s.holdMember m 5).regCounts

/-- EN := 0 on AIRPORT or SLUICE takes a port's service to DOWN (R163). -/
def State.svcDown (s : State) (p : Nat) (fromFault : Bool) : State :=
  if s.svc p = 1 ∨ s.svc p = 2 ∨ (s.svc p = 3 ∧ fromFault) then s.setSvc p 0 else s

/-! ### ASSIGN and RELAY_MAP records (R189, R210) -/

/-- The data of an ASSIGN record. -/
def assignData (epoch port : Nat) (up : Option Nat) : List Nat :=
  match up with
  | some e => [epoch, 1 + port * 2] ++ toBytes 2 (slStart e) ++ [slLen e, slRate e, 0, 0]
  | none => [epoch, port * 2, 0, 0, 0, 0, 0, 0]

/-- The data of a RELAY_MAP of a relay in a bank. -/
def State.relayMapData (s : State) (p bank m epoch : Nat) (empty : Bool) : List Nat :=
  let l := if empty then [] else ((s.slots p bank).filter fun x => decide (slKind x.2 = 5 ∧ slMember x.2 = m)).foldr insSlot []
  [1, epoch, l.length] ++ l.flatMap fun x => toBytes 4 (slStart x.2 + slLen x.2 * 2 ^ 11)

/-- A DOWN frame with one message record, marked for what its acknowledgement means. -/
def State.queueRecord (s : State) (m cls : Nat) (data : List Nat) (f : DownFrame → DownFrame) : State :=
  s.queueFrame (f { typ := 3, member := m, body := msgRecord cls data })

end Sys2Proof.Machine
end

