-- ==== Sys2Proof/Machine/AirPort.lean ====
section
/-! DEFINITION. Commands of AIR/AIRPORT: framing, PPDUs, transceiver control, start-up and service states (R149 to R167). -/
namespace Sys2Proof.Machine
open Sys2Proof

/-! ### Framing (R152) -/

/-- An_RX_EN is active: the port ON and not sending, or STARTING at its fourth step; the clock gap is left out, for a loss of lock inside it counts (R152,
R153, R160). -/
def State.rxEn (s : State) (p : Nat) : Bool :=
  let x := s.port p
  let lat := s.get F.LAT_TX_LAT p * 1000
  let busy := decide (x.txEnd ≠ 0 ∧ x.txFrom ≤ s.now + lat + s.tenths F.STROBE_T0_TX_LEAD p + s.tenths F.STROBE_T0_RX_TX_GAP p ∧
    s.now + lat < x.txEnd + s.tenths F.STROBE_T1_TX_LAG p + s.tenths F.STROBE_T1_RX_LAG p)
  (decide (s.st (pAP p) = stOn) && !busy) || decide (s.st (pAP p) = stStarting ∧ 4 ≤ x.step)

/-- Words arrive and are looked at. -/
def State.rxWords (s : State) (p : Nat) : Bool := s.rxEn p && decide (s.get F.ROOT_STATUS_ROOT_LOCK = 1)

/-- Framing lock: RX_LOCK, and a start goes on to its last step (R160). -/
def execFramingLock (p : Nat) (s : State) : Res :=
  if 4 ≤ p ∨ ¬ s.rxWords p ∨ s.get F.PORT_STATUS_RX_LOCK p = 1 then .next s
  else
    let s := s.set F.PORT_STATUS_RX_LOCK 1 p
    .next (if s.st (pAP p) = stStarting ∧ (s.port p).step = 4 then s.setPort p { s.port p with step := 5 } else s)

/-- A clock gap runs, or ended less than 10 µs ago. -/
def State.nearGap (s : State) : Bool :=
  decide (s.get F.ROOT_STATUS_ROOT_LOCK = 0) || decide (s.get F.TIME_STATUS_GAP_ALLOW = 1 ∧ s.now < s.tm.gapAt + us 10)

/-- Four wrong SYNC words: lock is lost and counted, CONTAINED outside a clock gap. -/
def execFramingLoss (p : Nat) (s : State) : Res :=
  if 4 ≤ p ∨ s.get F.PORT_STATUS_RX_LOCK p = 0 ∨ ¬ s.rxEn p then .next s
  else
    let s := ((s.set F.PORT_STATUS_RX_LOCK 0 p).inc C.AIRPORT_FRAMING_LOSS p).irq (pAP p) I.AIRPORT_FRAMING_LOSS
    .next (if s.nearGap then s else s.blockError (pAP p) 0xFF 2 0x02 0 0 0)

/-! ### PPDUs (R153, R166, R181) -/

/-- A PPDU of L bytes is sent at a rate: a port that is ON, its clock running. -/
def execPpduTx (p rate len : Nat) (s : State) : Res :=
  if p < 4 ∧ s.isOn .airport p ∧ s.get F.ROOT_STATUS_ROOT_LOCK = 1 then .next (s.ppduTx p (rate % 8) len) else .next s

/-- Start of the window that a relay's IN phase begins with (R205): with one RELAY entry its second half, else the entries
after the first. -/
def State.inPhase (s : State) (p e : Nat) : Option Nat :=
  let l := ((s.activeSlots p).filter fun x => decide (slKind x.2 = 5 ∧ slMember x.2 = slMember e)).foldr insSlot []
  match l with
  | [x] => if x.2 = e then some (s.entryAt e + slLen e / 2 * 125000) else none
  | x :: _ => if x.2 = e then none else some (s.entryAt e)
  | [] => none

/-- The member of this zone that an address names. -/
def State.airMember (s : State) (a : Nat) : Option Nat := match airAddr a with
  | .member z m => if z = s.number then some m else none
  | _ => none

/-- The instants after which a frame may begin at a time in an entry, each with the end of the entry or opportunity (R169, R207): the start of its own
sender's UP_MEMBER entry; for a JOIN_REQ that of a JOIN opportunity; for a frame that a relay brings that of the relay's IN phase, or the due end of the
previous ack in it. -/
def State.windowStarts (s : State) (p t : Nat) (h : AirHdr) : List (Nat × Nat) :=
  (s.activeSlots p).flatMap fun x =>
    let e := x.2
    let a := s.entryAt e
    let own := decide (s.airMember h.src = some (slMember e))
    if t < a ∨ s.entryEnd e ≤ t then []
    else match slKind e with
      | 2 => if h.typ = 2 ∧ own then [(a, s.entryEnd e)] else []
      | 4 => if h.typ = 6 ∧ h.relay = none then (List.range (slLen e / 3)).map fun k => (a + k * 375000, a + (k + 1) * 375000) else []
      | 5 => if h.relay.isSome ∧ own then
          (match s.inPhase p e with
            | some b => [(b, s.entryEnd e)] ++ (match nth none s.air.inEnd p with
              | some d => [(d, s.entryEnd e)]
              | none => [])
            | none => [])
        else []
      | _ => []

/-- The boundary that a frame's start time-stamp allows, 10 µs to 50 µs after it (R169). -/
def State.inWindow (s : State) (p t : Nat) (h : AirHdr) : Option (Nat × Nat) :=
  (s.windowStarts p t h).find? fun a => decide (a.1 + 10000 ≤ t ∧ t ≤ a.1 + 50000)

/-- The start time-stamp: the start of the short training field at the antenna, RX_LAT before it comes to the balls (R167). -/
def State.rxStart (s : State) (p : Nat) (y : PpduIn) : Nat := y.ballNs - s.get F.LAT_RX_LAT p

/-- End of a PPDU in fleet ns (R167). -/
def State.ppduEnd (s : State) (p rate : Nat) (y : PpduIn) : Nat := s.rxStart p y + s.portUs p rate y.psdu.length * 1000

/-- In AUTO a strong PPDU makes LNA_BYP active within its first 1.6 µs, until its end (R155). -/
def State.lnaAuto (s : State) (p rate : Nat) (y : PpduIn) : State :=
  if s.isOn .airport p ∧ s.get F.LNA_CFG_MODE p = 0 ∧ y.power < s.get F.LNA_CFG_BYP_THRESH p then
    (s.emit (.strobe p 3 true 1600)).emit (.strobe p 3 false (s.portUs p rate y.psdu.length * 1000))
  else s

/-- DST names this port, or all members of its zone (R178, R181). -/
def State.dstMine (s : State) (p dst : Nat) : Bool := match airAddr dst with
  | .port z n => decide (z = s.number ∧ n = p)
  | .all z => decide (z = s.number)
  | _ => false

/-- The frame is handed to the MAC, behind those that wait. -/
def State.rxPut (s : State) (p : Nat) (f : RxFrame) : State := s.setPort p { s.port p with rxq := (s.port p).rxq ++ [f] }

/-- The identity under whose key a frame is verified: of an UP frame its sender's, of a JOIN_REQ that of the authorisation entry that its HINT names (R429,
R430); none where there is none. -/
def State.rxIdent (s : State) (h : AirHdr) : Option Nat :=
  if h.typ = 6 then some (bits (s.te pSEC 0 (bits h.fcnt 19 12)) 0 64)
  else match s.airMember h.ends.1 with
    | some m => if s.mget m RG.rstate = 0 then none else some (s.mget m RG.id)
    | none => none

/-- What a received frame says, if its MIC verifies under the pairwise key (R181, R432). -/
def State.rxOpen (s : State) (h : AirHdr) : Option (List Nat) := match s.rxIdent h with
  | some id => if h.keyId = 0 then h.open_ s.canal.site (s.frameKey (s.zoneSecret h.kgen) 0 h.kgen id) else none
  | none => none

/-- A relayed frame comes from an originator of another zone (R201). -/
def State.foreignFrame (s : State) (h : AirHdr) : Bool := match h.relay with
  | some r => decide (bits r.orig 9 6 ≠ s.number)
  | none => false

/-- A frame to this port in its time: an ACK as it is; a JOIN_REQ with what its MIC says, which R431 looks at later; an UP frame of a generation in force whose MIC
verifies and whose counter is in range (R181, R433, R435); one of another zone unopened, for its command to discard (R201). Frames of another TYPE are none that a port takes. -/
def State.rxFrame (s : State) (p rate : Nat) (y : PpduIn) (h : AirHdr) : State :=
  let f : RxFrame := { hdr := h, body := h.body, snr := y.snr, startNs := s.rxStart p y, endNs := s.ppduEnd p rate y }
  if h.typ = 1 then s.rxPut p f
  else if h.typ ≠ 2 ∧ h.typ ≠ 6 then s
  else match s.inWindow p f.startNs h with
    | none => s.inc C.SLUICE_TIMING_DROP p
    | some (_, lim) =>
      let f := { f with entryEnd := lim }
      -- the ack of a relay's frame is due to end before the next frame of the phase
      let s := if h.relay = none then s
        else { s with air := { s.air with inEnd := setNth s.air.inEnd p (some (f.endNs + 32000 + s.ackUs p * 1000)) } }
      if s.foreignFrame h then s.rxPut p { f with micOk := false }
      else if h.typ = 6 then
        (match s.rxOpen h with
          | some b => s.rxPut p { f with body := b }
          | none => s.rxPut p { f with micOk := false })
      else if !s.kgenOk h.kgen then s.inc C.FRAME_SEC_OLD_GEN
      else match s.rxOpen h with
        | none => s.inc C.SLUICE_MIC_FAIL p
        | some b => if 2 ^ 31 ≤ h.fcnt then s.inc C.FRAME_SEC_FCNT_LIMIT else s.rxPut p { f with body := b }

/-- A PPDU is received (R150, R166): its SIGNAL and length, then the FCS and headers, DST, the acceptance window, the key generation, the
MIC and the frame counter are tested in turn; the first that fails counts. A frame that passes them all waits for the command of its type. -/
def execPpduRx (p rate : Nat) (y : PpduIn) (s : State) : Res :=
  if 4 ≤ p ∨ ¬ s.rxWords p ∨ s.st (pAP p) = stStarting ∨ s.get F.PORT_STATUS_RX_LOCK p = 0 then .next s
  else
    let s := (s.inc C.AIRPORT_OVR_COUNT p y.ovr).lnaAuto p rate y
    if !y.signalOk then .next (s.inc C.AIRPORT_RX_BAD_SIGNAL p)
    else if y.psdu.length < 14 ∨ 2048 < y.psdu.length then .next (s.inc C.AIRPORT_RX_LEN_DROP p)
    else
      let s := s.inc C.AIRPORT_PPDU_RX p
      if ¬ s.isOn .sluice p then .next s
      else match parseAir y.psdu with
        | none => .next (s.inc C.SLUICE_RX_DISCARD p)
        | some h => if s.dstMine p h.dst then .next (s.rxFrame p rate y h) else .next (s.inc C.SLUICE_RX_DISCARD p)

/-! ### Transceiver control (R157 to R160) -/

/-- LEN and WAIT_US of a sequence entry. -/
def seqLen (e : Nat) : Nat := bits e 32 8
/-- LIST. -/
def seqList (e : Nat) : Nat := bits e 40 8
/-- WAIT_US. -/
def seqWait (e : Nat) : Nat := bits e 48 16

/-- The entries of a list, in order. -/
def State.seqEntries (s : State) (p list : Nat) : List Nat := (List.range 64).filter fun i => decide (seqList (s.te (pAP p) 0 i) = list)

/-- The WAIT_US of a list together. -/
def State.seqWaits (s : State) (p list : Nat) : Nat := (s.seqEntries p list).foldl (fun n i => n + seqWait (s.te (pAP p) 0 i)) 0

/-- The health check's answer is right (R158). -/
def State.healthOk (s : State) (p miso : Nat) : Bool := decide (Nat.land miso (s.get F.HEALTH_MASK p) = s.get F.HEALTH_EXPECT p)

/-- A port begins its start-up (R151, R160): its transmit clock with zero samples, the INIT list, then one health check. -/
def State.portStart (s : State) (p : Nat) : State :=
  let l := (s.seqEntries p 1).map (2 + ·)
  let x := s.port p
  let s := s.setPort p { x with startAt := s.now, step := 2, spi := x.spi ++ l ++ [0], waitTo := s.now, rxAt := 0 }
  ((s.set F.PORT_STATUS_RX_LOCK 0 p).set F.PORT_STATUS_HEALTH_RUN 0 p).emit (.pin (nth "" ["A0_TXCLK", "A1_TXCLK", "A2_TXCLK", "A3_TXCLK"] p) true)

/-- A port shuts down (R160): the SHUTDOWN list, behind the transaction that runs; what is left of an aborted start is dropped. -/
def State.portStop (s : State) (p : Nat) : State :=
  let x := s.port p
  s.setPort p { x with spi := x.spi.take 1 ++ (x.spi.drop 1).filter (· = 1) ++ (s.seqEntries p 2).map (2 + ·) }

/-- An UNCONTAINED error of a port (R158, R160). -/
def State.portError (s : State) (p code : Nat) : State := s.blockError (pAP p) 0xFF 3 code 0 0 0

/-- SPI_TXN.GO (R157): ignored while BUSY, and in FAULT and ISOLATED; a LEN outside 8 to 32 is discarded. -/
def execSpiTxnGo (p len : Nat) (s : State) : Res :=
  if 4 ≤ p then .next s
  else if len < 8 ∨ 32 < len then .next (s.refuseCfg (pAP p))
  else
    let s := s.set F.SPI_TXN_LEN len p
    if s.get F.SPI_TXN_BUSY p = 1 ∨ s.st (pAP p) = stFault ∨ s.st (pAP p) = stIsolated then .next s
    else .next ((s.set F.SPI_TXN_BUSY 1 p).setPort p { s.port p with spi := (s.port p).spi ++ [1] })

/-- The transaction at the front may run: its clock is not gated (R156), the wait before it is over, and one of the SHUTDOWN list comes after the PPDU in
progress and the stop frames of a set (R160, R161). -/
def State.spiReady (s : State) (p k : Nat) : Bool :=
  let stop := decide (s.st (pAP p) = stStopping ∧ 2 ≤ k ∧ seqList (s.te (pAP p) 0 (k - 2)) = 2)
  decide (p < 4 ∧ (s.port p).waitTo ≤ s.now ∧ s.get F.ROOT_STATUS_ROOT_LOCK = 1) &&
    (!stop || (decide ((s.port p).txEnd ≤ s.now) && !s.hgHolds p && (nth none s.hg.bursts p).isNone))

/-- Length and word of a transaction: the health check's, the direct one's, a sequence entry's (R157 to R159). -/
def State.spiWord (s : State) (p k : Nat) : Nat × Nat :=
  if k = 1 then (s.get F.SPI_TXN_LEN p, s.get F.SPI_TXD p)
  else if k = 0 then (s.get F.SPI_CFG_HEALTH_LEN p, s.get F.HEALTH_CMD p)
  else (seqLen (s.te (pAP p) 0 (k - 2)), bits (s.te (pAP p) 0 (k - 2)) 0 32)

/-- A word is shifted out, and the word read in its place is kept in SPI_RX. -/
def State.spiShift (s : State) (p miso : Nat) (w : Nat × Nat) : State :=
  (s.emit (.spi p w.1 (w.2 % 2 ^ w.1))).set F.SPI_RX (miso % 2 ^ w.1) p

/-- The transaction at the front completes (R157, R160). -/
def execSpiTxnDone (p miso : Nat) (s : State) : Res :=
  match (s.port p).spi with
  | [] => .next s
  | k :: rest =>
    if !s.spiReady p k then .next s
    else
      let w := s.spiWord p k
      let s := s.spiShift p miso w
      let s := s.setPort p { s.port p with spi := rest }
      match k with
      | 1 => .next ((s.set F.SPI_TXN_BUSY 0 p).set F.SPI_TXN_DONE 1 p)
      | 0 =>
        if s.st (pAP p) ≠ stStarting then .next s
        else if s.get F.SPI_CFG_HEALTH_EN p = 1 ∧ !s.healthOk p (miso % 2 ^ w.1) then .next (s.portError p 0x01)
        else .next (s.setPort p { s.port p with step := 4, rxAt := s.now })
      | i => .next (s.setPort p { s.port p with waitTo := s.now + us (seqWait (s.te (pAP p) 0 (i - 2))) })

/-- The health check of every 100 ms (R158): skipped where other transactions keep it waiting for 10 ms; the third failure
in a row faults the port. -/
def execHealthCheck (p miso : Nat) (s : State) : Res :=
  let x := s.port p
  if 4 ≤ p ∨ ¬ s.isOn .airport p ∨ s.get F.SPI_CFG_HEALTH_EN p = 0 ∨ s.get F.ROOT_STATUS_ROOT_LOCK = 0 ∨ s.fleetNs < x.healthAt then .next s
  else if x.spi ≠ [] then
    .next (if x.healthAt + 10000000 ≤ s.fleetNs then s.setPort p { x with healthAt := (s.fleetNs / 100000000 + 1) * 100000000 } else s)
  else
    let v := miso % 2 ^ s.get F.SPI_CFG_HEALTH_LEN p
    let s := (s.spiShift p miso (s.spiWord p 0)).setPort p { x with healthAt := (s.fleetNs / 100000000 + 1) * 100000000 }
    if s.healthOk p v then .next (s.set F.PORT_STATUS_HEALTH_RUN 0 p)
    else
      let run := min 3 (s.get F.PORT_STATUS_HEALTH_RUN p + 1)
      let s := s.set F.PORT_STATUS_HEALTH_RUN run p
      if run < 3 then .next s
      else .next ((((s.inc C.AIRPORT_HEALTH_FAIL p).irq (pAP p) I.AIRPORT_HEALTH_FAIL).portError p 0x01).recompute)

/-- A start has overrun its bound, or has no framing lock 1 ms after its fourth step (R160). -/
def execAirportStartTimeout (p : Nat) (s : State) : Res :=
  let x := s.port p
  if 4 ≤ p ∨ s.st (pAP p) ≠ stStarting then .next s
  else if x.step = 4 ∧ s.get F.PORT_STATUS_RX_LOCK p = 0 ∧ x.rxAt + ms 1 ≤ s.now then .next (s.portError p 0x02)
  else if x.startAt + min (ms 100) (ms 20 + us (s.seqWaits p 1)) ≤ s.now then .next (s.portError p 0x03)
  else .next s

/-! ### The transmit path and the service state (R162, R163) -/

/-- The Headgate gets a port's path for its burst, at the end of the PPDU in progress (R162). -/
def execTxPathGrant (p : Nat) (s : State) : Res :=
  if p < 4 ∧ (nth none s.hg.bursts p).isSome ∧ s.get F.PORT_STATUS_TX_SRC p = 0 ∧ (s.port p).txEnd ≤ s.now ∧
     (s.isOn .airport p ∨ s.st (pAP p) = stStopping) then
    let s := s.set F.PORT_STATUS_TX_SRC 1 p
    let s := s.set F.HG_STATE_PORTS (Nat.lor (s.get F.HG_STATE_PORTS) (2 ^ p))
    .next (s.setPort p { s.port p with heldAt := some s.fleetNs })
  else .next s

/-- A port begins service (R163): its first beacon is prepared for a boundary at least 1 ms ahead. -/
def State.svcStart (s : State) (p : Nat) : State :=
  ((s.setSvc p 1).set F.PORT_INFO_BEACON_MISS 0 p).setPort p { s.port p with svcAt := s.fleetNs }

/-- DOWN to STARTING. -/
def execPortSvcStart (p : Nat) (s : State) : Res :=
  if p < 4 ∧ s.svc p = 0 ∧ s.svcReady p ∧ ¬ s.svcClash p then .next (s.svcStart p) else .next s

/-- A cause of the FAULT row: AIRPORT or SLUICE faulted, the engine out of its pool, 3 superframes without a beacon. -/
def State.svcCause (s : State) (p : Nat) : Bool :=
  let bad := fun (q : Page) => decide (s.st q = stFault ∨ s.st q = stIsolated)
  bad (pAP p) || bad (pSL p) || decide (s.getP (pSL p) F.STATE_CELLS_LIVE = 0) || decide (3 ≤ s.get F.PORT_INFO_BEACON_MISS p)

/-- STARTING or SERVING to FAULT. -/
def execPortSvcFault (p : Nat) (s : State) : Res := if p < 4 ∧ s.svcCause p then .next (s.svcFault p) else .next s

/-- PORT_CTRL.FAULT_CLR. -/
def execFaultClr (p : Nat) (s : State) : Res :=
  if 4 ≤ p ∨ s.svc p ≠ 3 then .next s
  else if s.svcReady p ∧ ¬ s.svcClash p then .next (s.svcStart p)
  else .next (s.refuseCfg (pAP p))

end Sys2Proof.Machine
end

