-- ==== Sys2Proof/Machine/Gnss.lean ====
section
/-! DEFINITION. GNSS sensing: antennas, acquisition and tracking channels, the strobe and the base epoch, base position and
self-survey, and the two-antenna check (R57 to R78); the observation archive (R26). -/
namespace Sys2Proof.Machine
open Sys2Proof

/-- The GNSS_MEAS page. -/
abbrev pMEAS : Page := ⟨.gnssMeas, 0⟩
/-- A GNSS_RF page. -/
abbrev pRF (a : Nat) : Page := ⟨.gnssRf, a⟩

/-! ### Antennas (R57 to R59) -/

/-- The antenna's instance is ON and its state OK. -/
def State.antOk (s : State) (a : Nat) : Bool := s.isOn .gnssRf a && decide (s.get F.RF_STATUS_ANT_STATE a = 0)

/-- BASELINE is between 0.5 m and 10 m long. -/
def State.baselineOk (s : State) : Bool :=
  let v := fun (f : Fld) => sext (s.get f) 32
  let q := v F.BASELINE_E * v F.BASELINE_E + v F.BASELINE_N * v F.BASELINE_N + v F.BASELINE_U * v F.BASELINE_U
  decide (250000 ≤ q ∧ q ≤ 100000000)

/-- ACTIVE of R76; entering 0 records CONSIST_OFF. -/
def State.setActive (s : State) : State :=
  let a := decide (s.get F.CONSIST_CFG_EN = 1 ∧ 1 ≤ s.get F.ALLOC_SEC_GROUPS) && s.antOk 0 && s.antOk 1 && s.baselineOk
  let was := s.get F.CONSIST_STATUS_ACTIVE
  let s := s.set F.CONSIST_STATUS_ACTIVE (b2n a)
  if a then s
  else
    let s := (({ s with gn := { s.gn with suspects := [] } }.set F.CONSIST_STATUS_CHECKED 0).set F.CONSIST_STATUS_SUSPECT 0).set F.CONSIST_STATUS_SPOOF_NOW 0
    if was = 1 then s.sysEvent 14 pMEAS 0 0 0 else s

/-- Since when each antenna has been ON and OK without a break (R61). -/
def State.antTimes (s : State) : State :=
  let f := fun (a : Nat) => if s.antOk a then (match nth none s.gn.okSince a with | some t => some t | none => some s.now) else none
  ({ s with gn := { s.gn with okSince := [f 0, f 1] } } : State).setActive

/-- The LNA supply of an antenna is driven on its ANTn_PWR_EN ball (R58). -/
def State.pwrPin (s : State) (ant : Nat) : State :=
  s.emit (.pin (if ant = 0 then "ANT0_PWR_EN" else "ANT1_PWR_EN") (decide (s.get F.RF_CFG_PWR_EN ant = 1)))

/-- PWR_EN is written (R58): the ball follows; an antenna whose supply is off shows UNPOWERED, but for one that SHORT took off. -/
def State.pwrSet (s : State) (ant : Nat) : State :=
  let s := s.pwrPin ant
  if s.get F.RF_CFG_PWR_EN ant = 1 ∨ s.get F.RF_STATUS_ANT_STATE ant = 2 then s else (s.set F.RF_STATUS_ANT_STATE 3 ant).antTimes

/-- The LNA supply current in µA is classified: below 5 mA OPEN, above 80 mA SHORT, which takes the supply off and is
recorded (R58). -/
def execAntCurrentClassify (ant current : Nat) (s : State) : Res :=
  if 2 ≤ ant ∨ !s.powered then .next s
  else if s.get F.RF_CFG_PWR_EN ant = 0 then
    .next (if s.get F.RF_STATUS_ANT_STATE ant = 2 then s else (s.set F.RF_STATUS_ANT_STATE 3 ant).antTimes)
  else if 80000 < current then
    .next ((((s.set F.RF_STATUS_ANT_STATE 2 ant).set F.RF_CFG_PWR_EN 0 ant).pwrPin ant).notice (pRF ant) I.GNSS_RF_SHORT).antTimes
  else .next (s.set F.RF_STATUS_ANT_STATE (if current < 5000 then 1 else 0) ant).antTimes

/-- CONSIST_STATUS.INTERF is the OR of both instances. -/
def State.interfShow (s : State) : State :=
  s.set F.CONSIST_STATUS_INTERF (max (s.get F.RF_STATUS_INTERF 0) (s.get F.RF_STATUS_INTERF 1))

/-- The gain of a path, in dB; one that UPPER_EN or LOWER_EN turns off has none. -/
def State.pathGain (s : State) (ant gain : Nat) (en : Fld) : Nat := if s.get en ant = 1 then gain else 0

/-- The gains of both paths, in dB, are shown, and AGC_SAT while one of them is at its limit (R57). -/
def State.setGains (s : State) (ant upper lower : Nat) : State :=
  let u := s.pathGain ant upper F.RF_CFG_UPPER_EN
  let l := s.pathGain ant lower F.RF_CFG_LOWER_EN
  let sat := (decide (s.get F.RF_CFG_UPPER_EN ant = 1) && decide (Config.agcLimit ≤ upper)) || (decide (s.get F.RF_CFG_LOWER_EN ant = 1) && decide (Config.agcLimit ≤ lower))
  ((s.set F.RF_STATUS_GAIN_UPPER u ant).set F.RF_STATUS_GAIN_LOWER l ant).set F.RF_STATUS_AGC_SAT (b2n sat) ant

/-- The reference gains of an antenna, upper and lower: the hour's running means as they were last learned (R59). -/
def State.refGains (s : State) (ant : Nat) : Nat × Nat := (nth 0 s.gn.refGain (2 * ant), nth 0 s.gn.refGain (2 * ant + 1))

/-- The running means are learned only while INTERF is 0 (R59). -/
def State.learnGains (s : State) (ant refUpper refLower : Nat) : State :=
  if s.get F.RF_STATUS_INTERF ant = 1 then s
  else { s with gn := { s.gn with refGain := setNth (setNth s.gn.refGain (2 * ant) refUpper) (2 * ant + 1) refLower } }

/-- The gain of a path that is on stands more than `db` below its reference. -/
def State.gainLow (s : State) (ant upper lower db : Nat) : Bool :=
  let r := s.refGains ant
  (decide (s.get F.RF_CFG_UPPER_EN ant = 1) && decide (upper + db < r.1)) || (decide (s.get F.RF_CFG_LOWER_EN ant = 1) && decide (lower + db < r.2))

/-- A gain has stayed more than INTERF_DB below its reference for 1 s (R59); `refUpper` and `refLower` are the hour's running means, which
count while INTERF is 0. -/
def execInterfSet (ant upper lower refUpper refLower : Nat) (s : State) : Res :=
  let db := s.get F.RF_CFG_INTERF_DB ant
  if 2 ≤ ant ∨ ¬ s.isOn .gnssRf ant then .next s
  else
    let s := (s.setGains ant upper lower).learnGains ant refUpper refLower
    if db = 0 ∨ s.get F.RF_STATUS_INTERF ant = 1 ∨ !s.gainLow ant upper lower db then .next s
    else .next ((s.set F.RF_STATUS_INTERF 1 ant).irq (pRF ant) I.GNSS_RF_INTERF).interfShow

/-- Both gains have stayed within INTERF_DB of their references, which INTERF has frozen, for 10 s (R59). -/
def execInterfClear (ant upper lower refUpper refLower : Nat) (s : State) : Res :=
  let db := s.get F.RF_CFG_INTERF_DB ant
  if 2 ≤ ant ∨ ¬ s.isOn .gnssRf ant then .next s
  else
    let s := (s.setGains ant upper lower).learnGains ant refUpper refLower
    if !s.gainLow ant upper lower db then .next (s.set F.RF_STATUS_INTERF 0 ant).interfShow else .next s

/-! ### Channels (R60 to R65) -/

/-- A channel. -/
def State.chan (s : State) (c : Nat) : Chan := AMap.get (fun _ => {}) s.gn.chans c

/-- The state with a channel replaced; CH_STATUS follows. -/
def State.setChan (s : State) (c : Nat) (h : Chan) : State :=
  let s : State := { s with gn := { s.gn with chans := AMap.set (fun _ => ({} : Chan)) s.gn.chans c h } }
  let g := c / 16
  let k := c % 16
  (((s.set F.CH_STATUS_STATE h.st g k).set F.CH_STATUS_ANT h.ant g k).set F.CH_STATUS_SIGNAL h.sig g k).set F.CH_STATUS_SVID h.svid g k

/-- A channel goes IDLE and keeps its antenna. -/
def State.idleChan (s : State) (c : Nat) : State :=
  let h := s.chan c
  if h.st = 0 ∨ h.st = 7 then s else (s.setChan c { ant := h.ant }).set F.CH_STATUS_CN0 0 (c / 16) (c % 16)

/-- The channel can be used: its group ON, and its cell in the pool. -/
def State.chanLive (s : State) (c : Nat) : Bool :=
  s.isOn .gnssTrk (c / 16) && !((s.page ⟨.gnssTrk, c / 16⟩).removed.contains (c % 16))

/-- A data-only signal (R60, R63). -/
def dataOnly (sig : Nat) : Bool := [0, 7, 10, 11, 12].contains sig

/-- A signal on the upper path (R60). -/
def upperPath (sig : Nat) : Bool := [0, 1, 3, 5, 7, 8, 11].contains sig

/-- A satellite number that a system has (R60). -/
def svidOk (sig svid : Nat) : Bool :=
  if sig ≤ 2 then decide (1 ≤ svid ∧ svid ≤ 32)
  else if sig ≤ 4 then decide (1 ≤ svid ∧ svid ≤ 36)
  else if sig ≤ 6 then decide (1 ≤ svid ∧ svid ≤ 63)
  else if sig ≤ 9 then decide (1 ≤ svid ∧ svid ≤ 10)
  else if sig = 10 then decide (1 ≤ svid ∧ svid ≤ 14)
  else decide (sig ≤ 12 ∧ 120 ≤ svid ∧ svid ≤ 158)

/-- Insert a signal by descending elevation. -/
def insertElev (x : SkySig) : List SkySig → List SkySig
  | [] => [x]
  | y :: r => if y.elev < x.elev then x :: y :: r else y :: insertElev x r

/-- The groups of an antenna are moved away: from a pass that finds it not ON or not OK, until it has been both for 60 s (R61). -/
def State.antMoved (s : State) (a : Nat) : Bool := match nth none s.gn.okSince a with
  | some t => nth false s.gn.moved a && decide (s.now < t + sec 60)
  | none => true

/-- The antenna that a group serves: its own, or the other while the groups of its own are moved away (R61). -/
def State.groupAnt (s : State) (g : Nat) : Nat :=
  let own := if g < 16 - s.get F.ALLOC_SEC_GROUPS then 0 else 1
  if nth false s.gn.moved own then 1 - own else own

/-- Groups move to the antenna they serve; a channel that is moved starts again from IDLE (R61). -/
def State.moveGroups (s : State) : State :=
  State.each { s with gn := { s.gn with moved := [s.antMoved 0, s.antMoved 1] } } (List.range 16) fun s g =>
    let a := s.groupAnt g
    let s : State := { s with gn := { s.gn with grpAnt := setNth s.gn.grpAnt g a } }
    s.each (List.range 16) fun s k =>
      let c := 16 * g + k
      if (s.chan c).ant = a then s
      else
        let s := s.idleChan c
        s.setChan c { s.chan c with ant := a }

/-- A channel holds a signal: it pulls in, tracks it, or has lost it and coasts (R62). -/
def Chan.holds (h : Chan) : Bool := decide (h.st = 1 ∨ h.st = 2 ∨ h.st = 3)

/-- The signals that channels of an antenna hold and that the pass does not bring above the mask: enabled ones keep their channel, below
the mask or out of sight, until R62 releases them. Their elevation is what `sky` says, else they are the lowest. -/
def State.heldBelow (s : State) (mine : List Nat) (sky want : List SkySig) : List SkySig :=
  let has := fun (h : Chan) (x : SkySig) => decide (h.sig = x.sig ∧ h.svid = x.svid)
  let l := ((mine.map s.chan).filter fun h => h.holds && bit (s.get F.SIG_EN_SIG) h.sig && !(want.any (has h)))
  (l.map fun h => (sky.find? (has h)).getD ⟨h.sig, h.svid, 0, false⟩).foldr insertElev []

/-- The pass for one antenna: signals of the highest elevations keep or get a channel, the rest are left without one; the
number of wanted ones left is answered (R61). -/
def State.passAnt (s : State) (a : Nat) (sky want : List SkySig) : State × Nat :=
  let mine := (List.range 256).filter fun c => decide ((s.chan c).ant = a) && s.chanLive c
  let take := (want ++ s.heldBelow mine sky want).take mine.length
  let has := fun (h : Chan) (x : SkySig) => decide (h.sig = x.sig ∧ h.svid = x.svid)
  let s := s.each mine fun s c =>
    let h := s.chan c
    if h.st ≠ 0 ∧ h.st ≠ 7 ∧ !(take.any (has h)) then s.idleChan c else s
  let need := (want.take mine.length).filter fun x => x.found && !(mine.any fun c => let h := s.chan c; decide (h.st ≠ 0) && has h x)
  let free := mine.filter fun c => decide ((s.chan c).st = 0)
  let s := s.each (free.zip need) fun s x =>
    s.setChan x.1 { st := 1, ant := a, sig := x.2.sig, svid := x.2.svid, at_ := s.now }
  (s, if mine = [] then 0 else want.length - mine.length)

/-- An acquisition pass, once a second (R61): groups move, then every enabled signal above the mask gets a channel of
each antenna that has channels. -/
def execAcqPass (sky : List SkySig) (s : State) : Res :=
  if ¬ s.isOn .gnssAcq ∨ s.now < s.gn.passAt + sec 1 then .next s
  else
    let s := ({ s with gn := { s.gn with passAt := s.now } }).antTimes.moveGroups
    let want := ((sky.filter fun x => bit (s.get F.SIG_EN_SIG) x.sig && decide (s.get F.ALLOC_ELEV_MASK < x.elev) && svidOk x.sig x.svid).foldr insertElev [])
    let (s, d0) := s.passAnt 0 sky want
    let (s, d1) := s.passAnt 1 sky want
    let pend := (want.filter fun x => !x.found).length
    .next ((s.set F.ACQ_STATUS_DROPPED (min 255 (d0 + d1))).set F.ACQ_STATUS_PENDING (min 255 pend))

/-- Code and carrier lock within 2 s of PULL_IN (R62, R63). -/
def execChannelLock (c : Nat) (s : State) : Res :=
  let h := s.chan c
  if h.st ≠ 1 ∨ h.at_ + sec 2 < s.now then .next s
  else .next (s.setChan c { h with st := 2, lockAt := s.now, half := dataOnly h.sig, at_ := s.now })

/-- 2 s without lock: the signal returns to the acquisition list (R62). -/
def execPullInTimeout (c : Nat) (s : State) : Res :=
  let h := s.chan c
  if h.st ≠ 1 ∨ s.now < h.at_ + sec 2 then .next s else .next (s.idleChan c)

/-- A cycle slip in TRACK (R62). -/
def execCycleSlip (c : Nat) (s : State) : Res :=
  let h := s.chan c
  if h.st ≠ 2 then .next s else .next ((s.setChan c { h with lockAt := s.now, slip := true }).inc C.GNSS_TRK_SLIP_COUNT (c / 16))

/-- C/N0 below 20 dB-Hz for 1 s, or code lock lost (R62). -/
def State.loseChan (s : State) (c : Nat) : State :=
  let h := s.chan c
  if h.st ≠ 2 then s else (s.setChan c { h with st := 3, at_ := s.now }).inc C.GNSS_TRK_LOSS_COUNT (c / 16)

/-- A channel goes LOST. -/
def execTrackLoss (c : Nat) (s : State) : Res := .next (s.loseChan c)

/-- A LOST channel relocks within 10 s (R62). -/
def execChannelRelock (c : Nat) (s : State) : Res :=
  let h := s.chan c
  if h.st ≠ 3 ∨ h.at_ + sec 10 < s.now then .next s
  else .next (s.setChan c { h with st := 2, lockAt := s.now, slip := true, half := dataOnly h.sig, at_ := s.now })

/-- 10 s LOST, or a satellite 2° below the mask: the signal is released (R62). -/
def execLostTimeout (c : Nat) (belowMask : Bool) (s : State) : Res :=
  let h := s.chan c
  if h.st ≠ 3 ∨ (s.now < h.at_ + sec 10 ∧ !belowMask) then .next s else .next (s.idleChan c)

/-- A data-only signal resolves its polarity: its lock time counts from here (R63). -/
def execPolarityResolved (c : Nat) (s : State) : Res :=
  let h := s.chan c
  if h.st ≠ 2 ∨ !h.half then .next s else .next (s.setChan c { h with half := false, lockAt := s.now })

/-- A clock gap (R65, R66): every channel in TRACK sets LOCK_MS to 0 and CYCLE_SLIP in its next record; where a strobe fell
inside the gap, from fleet time `t0` to now, its header carries CLK_GAP. -/
def State.gnssGap (s : State) (t0 : Nat) : State :=
  let s := s.each ((List.range 256).filter fun c => decide ((s.chan c).st = 2)) fun s c =>
    s.setChan c { s.chan c with lockAt := s.now, slip := true }
  let per := nth 100000000 [1000000000, 500000000, 200000000, 100000000, 50000000] s.gn.rate
  { s with gn := { s.gn with gap := s.gn.gap || (s.isOn .gnssMeas && decide (t0 / per < s.fleetNs / per)) } }

/-! ### The strobe (R66 to R68) -/

/-- The measurement period of a rate code, ns. -/
def ratePeriod (r : Nat) : Nat := nth 100000000 [1000000000, 500000000, 200000000, 100000000, 50000000] r

/-- The record that a channel latches. -/
def State.latch1 (s : State) (m : MeasIn) : Option MeasRec :=
  let h := s.chan m.channel
  if h.st ≠ 2 ∨ !s.chanLive m.channel then none
  else
    let lock := if h.half then 0 else min ((s.now - h.lockAt) / 1000000000) 0xFFFFFFFF
    let fl := b2n m.codeOk + b2n (!h.half) * 2 + b2n m.dopOk * 4 + b2n (!dataOnly h.sig) * 8 + b2n h.slip * 16
      + b2n (decide (m.cn0 < 3000)) * 32 + b2n m.ephOk * 128 + b2n h.half * 256
    some ⟨m.channel, h.sig, h.ant, h.svid, m.elev, m.psr, m.phase, m.doppler, m.cn0, lock, fl⟩

/-- What a channel in TRACK measures where the strobe's command brings nothing of it: values that the spec leaves to the signal. -/
def State.freeMeas (s : State) (c : Nat) : MeasIn × State :=
  let (a, s) := s.free
  let (b, s) := s.free
  let (d, s) := s.free
  let (e, s) := s.free
  (⟨c, 0xFF, sext a 32, sext b 32, sext d 32, e % 65536, false, false, false⟩, s)

/-- The latch of one channel, after those before it. -/
def State.latchOne (meas : List MeasIn) (acc : List MeasRec × State) (c : Nat) : List MeasRec × State :=
  let s := acc.2
  if (s.chan c).st ≠ 2 ∨ !s.chanLive c then acc
  else match meas.find? fun m => decide (m.channel = c) with
    | some m => (acc.1 ++ (s.latch1 m).toList, s)
    | none => let (m, s) := s.freeMeas c; (acc.1 ++ (s.latch1 m).toList, s)

/-- Every channel in TRACK latches one record, in ascending channel order (R67, R69). -/
def State.latchAll (s : State) (meas : List MeasIn) : List MeasRec × State :=
  (List.range 256).foldl (State.latchOne meas) ([], s)

/-- A record qualifies for SOLVE on an antenna: PHASE_VALID and not SPOOF_SUSPECT (R70). -/
def MeasRec.qualifies (r : MeasRec) (ant : Nat) : Bool := decide (r.ant = ant) && bit r.flags 1 && !bit r.flags 6

/-- The median C/N0 of an antenna's upper-path records, 0.01 dB-Hz; none without one. Of an even number it is the upper of the two in the middle
(DESIGN CHOICE, log entry 23). -/
def medianCn0 (l : List MeasRec) (ant : Nat) : Option Nat :=
  let v := ((l.filter fun r => r.ant = ant && upperPath r.signal).map (·.cn0)).foldr
    (fun x acc => (acc.filter (· < x)) ++ [x] ++ (acc.filter fun y => !(y < x))) []
  v[v.length / 2]?

/-- The reference antenna switches (R75). -/
def State.switchRef (s : State) (a : Nat) : State :=
  let s : State := { s with gn := { s.gn with ref := a, baseChanged := true, weakSince := none } }
  (s.set F.MEAS_CFG_REF_ANT a).irq pMEAS I.GNSS_MEAS_ANT_SWITCH

/-- The automatic switch of R75, from the records just latched. -/
def State.autoRef (s : State) (l : List MeasRec) : State :=
  let r := s.gn.ref
  let o := 1 - r
  let weak := match medianCn0 l r, medianCn0 l o with
    | some a, some b => decide (a < 2500 ∧ 3500 ≤ b)
    | _, _ => false
  let since := if weak then (match s.gn.weakSince with | some t => some t | none => some s.now) else none
  let s : State := { s with gn := { s.gn with weakSince := since } }
  let long := match since with | some t => decide (t + sec 10 ≤ s.now) | none => false
  let bad := !s.antOk r || long
  if s.get F.MEAS_CFG_REF_ANT_AUTO = 1 ∧ bad ∧ 5 ≤ (l.filter fun x => x.qualifies o).length then s.switchRef o else s

/-- A token's base-position writes take effect together at the strobe (R73): entering a position with MODE 1 sets
BASE_VALID; a change of MODE without one clears it. -/
def State.applyBase (s : State) (l : List (Nat × Nat)) : State :=
  let old := s.get F.BASE_CTRL_MODE
  let isPos := fun (a : Nat) => decide (F.BASE_POS_X_LO.addr 0 0 ≤ a ∧ a ≤ F.BASE_POS_Z_HI.addr 0 0)
  let isLine := fun (a : Nat) => decide (F.BASELINE_E.addr 0 0 ≤ a ∧ a ≤ F.BASELINE_U.addr 0 0)
  let s := s.each l fun s w =>
    if w.1 = F.BASE_CTRL_MODE.addr 0 0 then s.set F.BASE_CTRL_MODE w.2 else s.setReg w.1 w.2
  let pos := l.any fun w => isPos w.1
  let s := if pos && decide (s.get F.BASE_CTRL_MODE = 1) then
      { s with gn := { s.gn with baseChanged := true } }.set F.BASE_CTRL_BASE_VALID 1
    else if s.get F.BASE_CTRL_MODE ≠ old then s.set F.BASE_CTRL_BASE_VALID 0 else s
  (if (l.any fun w => isLine w.1) && decide (s.gn.ref = 1) then { s with gn := { s.gn with baseChanged := true } } else s).setActive

/-- A host write of REF_ANT takes effect at the strobe like an automatic switch (R75). Where the other antenna has fewer than five
qualifying records the write is refused and the register takes its old value again (DESIGN CHOICE, log entry 24). -/
def State.hostRef (s : State) (l : List MeasRec) : State :=
  let a := s.get F.MEAS_CFG_REF_ANT
  if a ≠ s.gn.ref then (if 5 ≤ (l.filter fun x => x.qualifies a).length then s.switchRef a else s.set F.MEAS_CFG_REF_ANT s.gn.ref)
  else s.autoRef l

/-- The whole GPS week of a fleet second (R69): GPS time is fleet time less 19 s, from 1980-01-06. -/
def gpsWeek (fleetS : Nat) : Nat := (fleetS - 315964819) / 604800 % 2 ^ 16

/-- The strobe (R66, R67): at each whole multiple of the period every channel in TRACK latches one record. -/
def execMeasStrobe (meas : List MeasIn) (s : State) : Res :=
  let per := ratePeriod s.gn.rate
  let k := s.fleetNs / per
  let t := k * per
  if ¬ s.isOn .gnssMeas ∨ t ≤ s.gn.lastStrobe ∨ s.get F.ROOT_STATUS_ROOT_LOCK = 0 then .next s
  else
    let s := s.each s.gn.posPend State.applyBase
    let (l, s) := s.latchAll meas
    let old := s.gn.ref
    let s := s.hostRef l
    let g := s.gn
    let whole := decide (t % 1000000000 = 0)
    let rate := if whole then s.get F.MEAS_CFG_RATE else g.rate
    let hf := g.ref + b2n (decide (g.ref ≠ old)) * 2 + b2n g.stepped * 4 + b2n g.gap * 8 + s.get F.ROOT_STATUS_ON_AUX * 16
      + b2n g.baseChanged * 32 + s.get F.CONSIST_STATUS_SPOOF * 64 + s.get F.CONSIST_STATUS_INTERF * 128
    let e : Epoch := ⟨t / 1000000000, rate, hf, t % 1000000000, g.nextSeq, s.get F.TIME_STATUS_TQ, 0, 0x80000000, gpsWeek (t / 1000000000), l⟩
    let s : State := { s with gn := { g with posPend := [], rate := rate, lastStrobe := t, stepped := false, gap := false,
                                             baseChanged := false, latched := some e } }
    .next (s.each l fun s r =>
      let s := s.set F.CH_STATUS_CN0 (min 255 (r.cn0 / 100)) (r.channel / 16) (r.channel % 16)
      s.setChan r.channel { s.chan r.channel with slip := false })

/-! ### The consistency check (R76, R77) -/

/-- Reduce to [−0.5, 0.5) cycle, in 2^-16 cycle. -/
def wrapCycle (x : Int) : Int := (x + 32768) % 65536 - 32768

/-- Carrier of a signal, Hz (R60). -/
def carrierHz (sig : Nat) : Int := if upperPath sig then 1575420000 else 1176450000

/-- (BASELINE · u) ÷ λ in 2^-16 cycle, rounded down, of a unit vector in 2^-30 (R76). -/
def State.baseTerm (s : State) (x : SigGeom) : Int :=
  let v := fun (f : Fld) => sext (s.get f) 32
  (v F.BASELINE_E * x.ue + v F.BASELINE_N * x.un + v F.BASELINE_U * x.uu) * carrierHz x.sig / (299792458000 * 2 ^ 14)

/-- SD + (BASELINE · u) ÷ λ of a signal in valid phase on both antennas (R76). -/
def State.single (s : State) (l : List MeasRec) (x : SigGeom) : Option Int :=
  let at_ := fun (a : Nat) => l.find? fun r => decide (r.ant = a ∧ r.signal = x.sig ∧ r.svid = x.svid) && bit r.flags 1
  match at_ 0, at_ 1 with
  | some r0, some r1 => some (r1.phase - r0.phase + s.baseTerm x)
  | _, _ => none

/-- The residuals of every signal that can be checked: δ is the circular mean over each band (R76). -/
def State.residuals (s : State) (l : List MeasRec) (geom : List SigGeom) : List (SigGeom × Int) :=
  let v := geom.filterMap fun x => (s.single l x).map fun r => (x, r)
  let delta := fun (up : Bool) => Config.circMean ((v.filter fun y => upperPath y.1.sig = up).map (·.2))
  v.map fun y => (y.1, wrapCycle (y.2 - delta (upperPath y.1.sig)))

/-- A signal's run of failures or passes: suspect after 3 failures in a row, until 3 passes in a row (R76). -/
def stepSuspect (old : List Suspect) (x : SigGeom) (bad : Bool) : Suspect :=
  let o := (old.find? fun y => y.sig = x.sig ∧ y.svid = x.svid).getD ⟨x.sig, x.svid, 0, 0, false⟩
  let f := if bad then o.fails + 1 else 0
  let p := if bad then 0 else o.passes + 1
  { o with fails := f, passes := p, sus := if 3 ≤ f then true else if 3 ≤ p then false else o.sus }

/-- SPOOF_NOW sets the latched SPOOF, with its interrupt and record (R77). -/
def State.spoofLatch (s : State) : State :=
  if s.get F.CONSIST_STATUS_SPOOF_NOW = 1 ∧ s.get F.CONSIST_STATUS_SPOOF = 0 then
    (s.set F.CONSIST_STATUS_SPOOF 1).notice pMEAS I.GNSS_MEAS_SPOOF
  else s

/-- The check at one epoch (R76). A suspect signal that this epoch does not check stays suspect, and its run begins anew. -/
def State.consist (s : State) (l : List MeasRec) (geom : List SigGeom) : State :=
  let s := s.setActive
  if s.get F.CONSIST_STATUS_ACTIVE = 0 then s
  else
    let tol : Int := s.get F.CONSIST_CFG_TOL
    let chk := s.residuals l geom
    let sus := chk.map fun (x, r) => stepSuspect s.gn.suspects x (decide (tol * 65536 < (iabs r : Int) * 1000))
    let n := (sus.filter (·.sus)).length
    let now := decide (s.get F.CONSIST_CFG_MIN_SIG ≤ chk.length ∧ chk.length < 4 * n)
    let rest := (s.gn.suspects.filter fun y => y.sus && !(sus.any fun z => decide (z.sig = y.sig ∧ z.svid = y.svid))).map fun y => { y with fails := 0, passes := 0 }
    let s : State := { s with gn := { s.gn with suspects := sus ++ rest } }
    let s := ((s.set F.CONSIST_STATUS_CHECKED (min 255 chk.length)).set F.CONSIST_STATUS_SUSPECT (min 255 n))
    (s.set F.CONSIST_STATUS_SPOOF_NOW (b2n now)).spoofLatch

/-- A host clear of SPOOF, ignored while SPOOF_NOW is 1 (R77). -/
def State.spoofClear (s : State) : State :=
  if s.get F.CONSIST_STATUS_SPOOF_NOW = 1 then s else s.set F.CONSIST_STATUS_SPOOF 0

/-- SPOOF is written 1. -/
def execSpoofClear (s : State) : Res := .next s.spoofClear

/-! ### Epochs (R69 to R72) -/

/-- A record's bytes. -/
def MeasRec.bytes (r : MeasRec) : List Nat :=
  [r.channel, r.signal + r.ant * 128, r.svid, r.elev] ++ toBytes 8 (trunc r.psr 64) ++ toBytes 8 (trunc r.phase 64)
    ++ toBytes 4 (trunc r.doppler 32) ++ toBytes 2 r.cn0 ++ toBytes 4 r.lockMs ++ toBytes 2 r.flags

/-- The header's bytes but for its CRC. -/
def Epoch.head (e : Epoch) : List Nat :=
  toBytes 6 e.timeS ++ [e.rate, e.hflags] ++ toBytes 4 e.timeNs ++ toBytes 4 e.seq ++ toBytes 2 e.recs.length
    ++ [e.tq, e.withheld] ++ toBytes 4 e.clkResid ++ toBytes 2 e.week ++ [0, 0]

/-- An epoch's bytes, CRC included. -/
def Epoch.bytes (e : Epoch) : List Nat :=
  let body := e.recs.flatMap (·.bytes)
  e.head ++ toBytes 4 (crc32c (e.head ++ body)) ++ body

/-- Base and size of a DRAM partition in bytes; 0xFFFF in the last takes the rest (R23). -/
def State.partBase (s : State) (k : Nat) : Nat := s.get F.PART_BASE_BASE 0 k * 2 ^ 20
/-- Size. -/
def State.partSize (s : State) (k : Nat) : Nat :=
  let n := s.get F.PART_SIZE_SIZE 0 k
  if k = 4 ∧ n = 0xFFFF then (s.get F.DRAM_STATUS_USABLE - s.get F.PART_BASE_BASE 0 4) * 2 ^ 20 else n * 2 ^ 20

/-- Bytes placed in DRAM from an offset. -/
def State.dramPut (s : State) (off : Nat) : List Nat → State
  | [] => s
  | b :: r => State.dramPut { s with dram := AMap.set (fun _ => 0) s.dram off (BitVec.ofNat 8 b) } (off + 1) r

/-- Bytes written to DRAM from an offset; a word so written is good again (R25). -/
def State.dramWrite (s : State) (off : Nat) (l : List Nat) : State :=
  State.dramPut { s with clk := { s.clk with lostWords := s.clk.lostWords.filter fun w => decide (8 * w + 8 ≤ off ∨ off + l.length ≤ 8 * w) } } off l

/-- The lost words among the bytes from an offset (R25). -/
def State.dramLost (s : State) (off n : Nat) : List Nat := s.clk.lostWords.filter fun w => decide (off < 8 * w + 8 ∧ 8 * w < off + n)

/-- The partition that an offset lies in; 7 none. -/
def State.partAt (s : State) (offset : Nat) : Nat :=
  ((List.range 5).find? fun k => decide (s.partBase k ≤ offset ∧ offset < s.partBase k + s.partSize k)).getD 7

/-- A read meets words that cannot be corrected: each is counted and raises CONTAINED 0x02 (R25). -/
def State.dramMet (s : State) (off n : Nat) : State :=
  s.each (s.dramLost off n) fun s w => (s.inc C.DRAM_UNCORR_READS).blockError ⟨.dram, 0⟩ 0xFF 2 0x02 (s.partAt (8 * w)) (8 * w) 0

/-- An archive packet is lost (R24, R342): counted, and the next written one carries LOSS_BEFORE. -/
def State.archLose (s : State) : State :=
  ({ s with gn := { s.gn with archLoss := true } }.incLost F.ARCH_LOST).irq ⟨.dram, 0⟩ I.DRAM_ARCH_LOSS

/-- The oldest packets go until none stands in the `need` bytes from `head` of the archive ring; each is counted in ARCH_LOST (R26, R342). -/
def State.archRoom (s : State) (head need : Nat) : Nat → State
  | 0 => s
  | k + 1 =>
    if !(s.gn.arch.any fun x => decide (x.1 < head + need ∧ head < x.1 + x.2)) then s
    else match s.gn.arch with
      | [] => s
      | _ :: rest => ({ s with gn := { s.gn with arch := rest } }).archLose.archRoom head need k

/-- A packet is written: room is made, and its header carries LOSS_BEFORE when packets were lost ahead of it (R343). -/
def State.archPut (s : State) (status : Nat) (payload : List Nat) : State :=
  let need := 8 + (payload.length + 7) / 8 * 8
  let head := if s.gn.archHead + need ≤ s.partSize 4 then s.gn.archHead else 0
  let s := s.archRoom head need s.gn.arch.length
  let pad := List.replicate ((payload.length + 7) / 8 * 8 - payload.length) 0
  let hdr := toBytes 2 payload.length ++ [status, 1 + 2 * b2n s.gn.archLoss] ++ toBytes 4 (crc32c payload)
  let s : State := { s with gn := { s.gn with arch := s.gn.arch ++ [(head, need)], archHead := head + need, archLoss := false } }
  s.dramWrite (s.partBase 4 + head) (hdr ++ payload ++ pad)

/-- A packet is written to the archive ring, framed under R343; while DRAM is not ON, or in an empty partition, it is
lost and counted; one longer than the ring leaves a header alone, TOO_BIG (R24, R26, R343). -/
def State.archive (s : State) (payload : List Nat) : State :=
  let need := 8 + (payload.length + 7) / 8 * 8
  if ¬ s.isOn .dram ∨ s.partSize 4 < 8 then s.archLose
  else if s.partSize 4 < need then s.archLose.archPut 2 []
  else s.archPut 0 payload

/-- The lowest withheld code that applies (R72). -/
def State.withheld (s : State) (e : Epoch) : Nat :=
  if s.get F.BASE_CTRL_BASE_VALID = 0 then 1
  else if s.get F.CONSIST_STATUS_SPOOF = 1 then 2
  else if (e.recs.filter fun r => r.qualifies (e.hflags % 2)).length < 5 then 3 else 0

/-- The window of a ring READ (R71): header and the channel's record. -/
def State.readEpoch (s : State) (idx : Nat) : TRes :=
  let slot := idx / 256 % 64
  let ch := idx % 256
  if 2 ^ 14 ≤ idx then { err := 0x04 }
  else match s.gn.ring.find? fun e => e.seq % 64 = slot with
    | none => { err := 0x01, data := some 0 }
    | some e =>
      let h := e.head ++ toBytes 4 (crc32c (e.head ++ e.recs.flatMap (·.bytes)))
      match e.recs.find? fun r => r.channel = ch with
      | some r => { index := some idx, data := some (ofBytes (h ++ r.bytes)) }
      | none => { err := 0x01, data := some (ofBytes h) }

/-- NEXT: the next slot and channel that has a record. -/
def State.nextEpoch (s : State) (idx : Nat) : TRes :=
  let all := s.gn.ring.flatMap fun e => e.recs.map fun r => e.seq % 64 * 256 + r.channel
  match (all.filter fun i => decide (idx < i)).foldl (fun (b : Option Nat) i => match b with
      | some j => some (min i j)
      | none => some i) none with
  | some i => s.readEpoch i
  | none => { err := 0x01 }

/-! ### Self-survey (R74) -/

/-- SURVEY_START begins a survey while MODE is 2 and none runs. -/
def State.surveyStart (s : State) : State :=
  if s.get F.BASE_CTRL_MODE ≠ 2 ∨ s.get F.BASE_CTRL_SURVEY_STATE = 1 then s
  else
    let s : State := { s with gn := { s.gn with svN := 0, svSum := [0, 0, 0], svSq := [0, 0, 0], svAt := s.now, svSecond := s.fleetSec } }
    ((s.set F.BASE_CTRL_SURVEY_STATE 1).set F.SURVEY_ELAPSED 0).set F.SURVEY_SIGMA_NOW 0xFFFFFFFF

/-- SURVEY_START is written 1. -/
def execSurveyStart (s : State) : Res := .next s.surveyStart

/-- SURVEY_SIGMA_NOW, mm: the root of the sum of the axis variances over √max(1, ⌊n ÷ 60⌋), rounded down. The variances divide by n (DESIGN CHOICE, log entry 22). -/
def GnssSt.surveySigma (g : GnssSt) : Nat :=
  let n : Int := g.svN
  let v := fun i => n * nth 0 g.svSq i - nth 0 g.svSum i * nth 0 g.svSum i
  let m := max 1 (g.svN / 60)
  isqrt ((v 0 + v 1 + v 2).toNat / (100 * g.svN * g.svN * m))

/-- A 64-bit signed value into a register pair. -/
def State.setI64 (s : State) (lo hi : Fld) (x : Int) : State := s.set64 lo hi (trunc x 64)

/-- BASELINE turned into ECEF at a position, 0.1 mm (R73). -/
def State.baselineAt (s : State) (p : List Int) : List Int :=
  let v := fun (f : Fld) => sext (s.get f) 32
  Config.enuToEcef (nth 0 p 0) (nth 0 p 1) (nth 0 p 2) (v F.BASELINE_E) (v F.BASELINE_N) (v F.BASELINE_U)

/-- The ECEF position of an antenna, 0.1 mm: BASE_POS, and for antenna 1 BASELINE added (R73). -/
def State.antPos (s : State) (ant : Nat) : List Int :=
  let p := [sext (s.get64 F.BASE_POS_X_LO F.BASE_POS_X_HI) 64, sext (s.get64 F.BASE_POS_Y_LO F.BASE_POS_Y_HI) 64, sext (s.get64 F.BASE_POS_Z_LO F.BASE_POS_Z_HI) 64]
  if ant = 0 then p else (List.range 3).map fun i => nth 0 p i + nth 0 (s.baselineAt p) i

/-- A position of the reference antenna, corrected by BASELINE to antenna 0 where antenna 1 is the reference (R74). -/
def State.toAnt0 (s : State) (p : List Int) : List Int :=
  if s.gn.ref = 0 then p else (List.range 3).map fun i => nth 0 p i - nth 0 (s.baselineAt p) i

/-- A code position enters the survey (R74). -/
def State.surveyAdd (s : State) (p : List Int) : State :=
  let add := fun (l m : List Int) => (l.zip m).map fun a => a.1 + a.2
  let g := { s.gn with svN := s.gn.svN + 1, svSum := add s.gn.svSum p, svSq := add s.gn.svSq (p.map fun a => a * a) }
  (({ s with gn := g } : State).set F.SURVEY_ELAPSED g.svN).set F.SURVEY_SIGMA_NOW (min g.surveySigma 0xFFFFFFFF)

/-- The survey has converged: its mean is the base position (R74). -/
def State.surveyDone (s : State) : State :=
  let m := fun (i : Nat) => nth 0 s.gn.svSum i / (s.gn.svN : Int)
  let s := ((s.setI64 F.BASE_POS_X_LO F.BASE_POS_X_HI (m 0)).setI64 F.BASE_POS_Y_LO F.BASE_POS_Y_HI (m 1)).setI64
    F.BASE_POS_Z_LO F.BASE_POS_Z_HI (m 2)
  let s : State := { s with gn := { s.gn with baseChanged := true } }
  ((s.set F.BASE_CTRL_BASE_VALID 1).set F.BASE_CTRL_SURVEY_STATE 2).notice pMEAS I.GNSS_MEAS_SURVEY_DONE

/-- One second's code position of the reference antenna, ECEF 0.1 mm (R74), corrected to antenna 0: accepted unless its epoch carries SPOOF or INTERF; the
survey converges when its duration and sigma are reached. -/
def execSurveySecond (x y z : Int) (s : State) : Res :=
  if s.get F.BASE_CTRL_SURVEY_STATE ≠ 1 ∨ s.fleetSec ≤ s.gn.svSecond then .next s
  else
    let s : State := { s with gn := { s.gn with svSecond := s.fleetSec } }
    let marked := match s.gn.ring.getLast? with | some e => bit e.hflags 6 || bit e.hflags 7 | none => false
    if marked then .next s
    else
      let s := s.surveyAdd (s.toAnt0 [x, y, z])
      .next (if s.get F.SURVEY_MIN_DUR ≤ s.gn.svN ∧ s.get F.SURVEY_SIGMA_NOW ≤ s.get F.SURVEY_SIGMA then s.surveyDone else s)

/-- SURVEY_MAX_DUR passes first: FAILED (R74). -/
def execSurveyTimeout (s : State) : Res :=
  if s.get F.BASE_CTRL_SURVEY_STATE ≠ 1 ∨ s.now < s.gn.svAt + sec (s.get F.SURVEY_MAX_DUR) then .next s
  else .next (((s.set F.BASE_CTRL_SURVEY_STATE 3).set F.BASE_CTRL_BASE_VALID 0).irq pMEAS I.GNSS_MEAS_SURVEY_DONE)

/-! ### Restarts (R78) -/

/-- What the GNSS blocks do as they start again or shut down (R78). -/
def State.gnssBlock (s : State) (p : Page) (on : Bool) : State :=
  match p.blk with
  | .gnssMeas =>
    if on then
      let s : State := { s with gn := { s.gn with nextSeq := 0, ring := [], latched := none, gap := false, lastStrobe := s.fleetNs, rate := s.get F.MEAS_CFG_RATE } }
      let s := s.set F.EPOCH_SEQ 0
      if s.get F.BASE_CTRL_SURVEY_STATE = 1 then (s.set F.BASE_CTRL_SURVEY_STATE 3).irq pMEAS I.GNSS_MEAS_SURVEY_DONE else s
    else s
  | .gnssTrk =>
    s.each (List.range 16) fun s k =>
      let c := 16 * p.inst + k
      let removed := (s.page p).removed.contains k
      s.setChan c { ant := (s.chan c).ant, st := if removed then 7 else 0 }
  | .gnssRf =>
    if on then (s.set F.RF_STATUS_PLL_LOCK 1 p.inst).antTimes
    else
      let s := (s.set F.RF_STATUS_PLL_LOCK 0 p.inst).antTimes
      s.each ((List.range 256).filter fun c => decide ((s.chan c).ant = p.inst)) State.loseChan
  | _ => s

end Sys2Proof.Machine
end

