-- ==== Sys2Proof/Machine/Rtk.lean ====
section
/-! DEFINITION. Observations, solver cells, fixes and shedding (R110 to R142). -/
namespace Sys2Proof.Machine
open Sys2Proof

/-! ### The observation payload (R111 to R114) -/

/-- The R60 codes of a system's SIGMASK bits (R112). -/
def sysSignals (sys : Nat) : List Nat := nth [] [[0, 1, 2], [3, 4], [5, 6], [7, 8, 9], [10], [11, 12]] sys

/-- The SVID that SVX stands for. -/
def svidOf (sys svx : Nat) : Nat := if sys = 5 then svx + 120 else svx

/-- What a well-formed payload says. -/
structure ObsIn where
  ms : Nat
  ofs : Int
  reset : Bool
  static : Bool
  sigs : List MSig
  deriving DecidableEq, Repr

/-- The signals of the satellite blocks, in order, with their rough range: code, satellite, rough range. -/
def blockSignals (blocks : List Nat) : List (Nat × Nat × Nat) :=
  blocks.flatMap fun b =>
    let sys := bits b 0 3
    ((sysSignals sys).zip (List.range 3)).filterMap fun (c, i) =>
      if bit (bits b 9 3) i then some (c, svidOf sys (bits b 3 6), bits b 12 20) else none

/-- Strictly ascending. -/
def ascending : List Nat → Bool
  | a :: b :: r => decide (a < b) && ascending (b :: r)
  | _ => true

/-- A payload is read and checked (R114): none where it is MALFORMED. -/
def parseObs (b : List Nat) (avail : Nat) : Option ObsIn :=
  let u := fun (i n : Nat) => ofBytes ((b.drop i).take n)
  let nsat := u 6 1
  let nsig := u 7 1
  let len := 12 + 4 * nsat + (44 * nsig + 7) / 8
  let blocks := (List.range nsat).map fun i => u (12 + 4 * i) 4
  let stream := u (12 + 4 * nsat) ((44 * nsig + 7) / 8)
  let sig := blockSignals blocks
  let masks := blocks.foldl (fun n x => n + b2n (bit x 9) + b2n (bit x 10) + b2n (bit x 11)) 0
  if b.length < 12 ∨ u 9 1 ≠ 1 ∨ u 10 2 ≠ len ∨ avail < len ∨ 48 < nsat ∨ 48 < nsig ∨ masks ≠ nsig ∨ sig.length ≠ nsig ∨
     (nsat = 0 ∧ nsig ≠ 0) ∨ (blocks.any fun x => decide (6 ≤ bits x 0 3 ∨ bits x 9 3 = 0)) ∨ ¬ ascending (blocks.map fun x => bits x 0 9) ∨
     4 ≤ u 8 1 ∨ 2 ^ (44 * nsig) ≤ stream then none
  else
    let recs := (sig.zip (List.range nsig)).map fun ((c, v, rough), i) =>
      let r := bits stream (44 * i) 44
      ({ sig := c, svid := v, rough := rough, pr := sext (bits r 0 13) 13, phase := sext (bits r 13 21) 21,
         lock := bits r 34 4, cn0 := bits r 38 6 } : MSig)
    some { ms := u 0 4, ofs := sext (u 4 2) 16, reset := bit (u 8 1) 0, static := bit (u 8 1) 1, sigs := recs }

/-- Valid code, and valid phase, at the member. -/
def MSig.codeOk (x : MSig) : Bool := decide (x.pr ≠ -4096)
/-- Valid phase. -/
def MSig.phaseOk (x : MSig) : Bool := decide (x.phase ≠ -1048576)

/-! ### Acceptance (R115 to R117) -/

/-- P_m in ns by RATE code. -/
def ratePm (r : Nat) : Nat := nth 100000000 [1000000000, 500000000, 200000000, 100000000] r

/-- The base epoch of a strobe instant, if it is complete. -/
def State.baseAt (s : State) (e : Nat) : Option Epoch := s.gn.ring.find? fun b => b.timeS * 1000000000 + b.timeNs = e

/-- A base epoch of a strobe instant is still being assembled. -/
def State.baseComing (s : State) (e : Nat) : Bool := match s.gn.latched with
  | some b => decide (b.timeS * 1000000000 + b.timeNs = e)
  | none => false

/-- The first test of R115 that fails, as its counter. -/
def State.obsTest (s : State) (m arrival : Nat) (o : Option ObsIn) : Option Ctr :=
  let k := s.rk m
  if s.level ≠ 3 then some C.OBS_IN_LEVEL_DISCARD
  else if ¬ s.isOn .rtkCtrl ∨ RK.en.get k = 0 then some C.OBS_IN_NOT_ENABLED
  else match o with
  | none => some C.OBS_IN_MALFORMED
  | some o =>
    let e := rebuildMs o.ms (arrival / 1000000) * 1000000
    let pm := ratePm (RK.rate.get k)
    if e % pm ≠ 0 then some C.OBS_IN_MISALIGNED
    else if s.get F.OBS_CFG_MAX_OFS * 1000 < iabs o.ofs * 10 then some C.OBS_IN_OFFSET
    else if arrival < e then some C.OBS_IN_EARLY
    else if e + pm ≤ arrival then some C.OBS_IN_LATE_OBS
    else if (match (s.rmem m).lastE with | some l => decide (e ≤ l) | none => false) then some C.OBS_IN_STALE
    else if e < s.rtk.stepAt then some C.OBS_IN_STEP_DISCARD
    else if (s.baseAt e).isNone && !s.baseComing e then some C.OBS_IN_NO_BASE
    else if e % ratePm (RK.eff.get k) ≠ 0 then some C.OBS_IN_SHED_DROP
    else none

/-- A member-epoch becomes ready (R116, R139): its deadline is set, or it is dropped because its base epoch is withheld. -/
def State.makeReady (s : State) (me : MEpoch) : State :=
  match s.baseAt me.e with
  | none => s
  | some b =>
    let same := fun (x : MEpoch) => decide (x.member = me.member ∧ x.e = me.e)
    if b.withheld ≠ 0 then (s.inc C.RTK_CTRL_BASE_GAP).dropQueue same
    else { s with rtk := { s.rtk with queue := s.rtk.queue.map fun x => if same x then { x with ready := some s.fleetNs, base := some b } else x } }

/-- The payload of an UP frame (R115 to R117): host and archive copies, the queue of two per member. -/
def State.obsAccept (s : State) (m arrival : Nat) (payload : List Nat) (avail : Nat) (own : OwnFix) : State :=
  if ¬ s.isOn .obsIn then s
  else
    let o := parseObs payload avail
    match s.obsTest m arrival o, o with
    | some c, _ => s.incP pOBS c
    | none, none => s
    | none, some o =>
      let e := rebuildMs o.ms (arrival / 1000000) * 1000000
      let len := ofBytes ((payload.drop 10).take 2)
      let pkt := toBytes 2 m ++ [0, 0] ++ toBytes 6 (arrival / 1000000000) ++ toBytes 4 (arrival % 1000000000) ++ [0, 0] ++ payload.take len
      let s := s.inc C.OBS_IN_ACCEPTED
      let s := if s.get F.OBS_CFG_ARCHIVE_EN = 1 then s.archive ([2, 0, 0, 0] ++ pkt) else s
      let s := if s.get F.OBS_CFG_HOST_EN = 1 then s.qBytes 20 pkt else s
      let s := s.setRmem m { s.rmem m with lastE := some e }
      let s := s.on o.reset fun s =>
        { s with rtk := { s.rtk with cells := s.rtk.cells.map fun c => if c.me.member = m then { c with discard := true } else c } }
      let me : MEpoch := { member := m, e := e, arrival := arrival, ofs := o.ofs, reset := o.reset, static := o.static, sigs := o.sigs, own := own }
      let mine := s.rtk.queue.filter fun x => x.member = m
      let s := if 2 ≤ mine.length then
          match mine.head? with
          | some old => (s.inc C.OBS_IN_QUEUE_DROP).dropQueue fun x => decide (x.member = m ∧ x.e = old.e)
          | none => s
        else s
      let s : State := { s with rtk := { s.rtk with queue := s.rtk.queue ++ [me] } }
      (s.makeReady me).rtkShow

/-- A member's oldest queued epoch whose base epoch has come becomes ready. -/
def execMemberEpochReady (m : Nat) (s : State) : Res :=
  .next (s.each (s.rtk.queue.filter fun x => decide (x.member = m ∧ x.ready = none)) State.makeReady)

/-! ### Cells (R118 to R120) -/

/-- D of a member-epoch. -/
def MEpoch.deadline (x : MEpoch) : Option Nat := x.ready.map (· + 30000000)

/-- `a` goes before `b`: earlier D, then lower class, then lower member. -/
def State.before (s : State) (a b : MEpoch) : Bool :=
  let k := fun (x : MEpoch) => ((x.deadline.getD 0) * 4 + RK.prio.get (s.rk x.member)) * 512 + x.member
  decide (k a < k b)

/-- A free cell takes the eligible member-epoch of earliest D (R118). -/
def execCellTake (cell : Nat) (s : State) : Res :=
  if 16 ≤ cell ∨ ¬ s.isOn .solver cell ∨ s.getP ⟨.solver, cell⟩ F.STATE_CELLS_LIVE = 0 ∨ (s.rtk.cells.any fun c => c.cell = cell) ∨
     ¬ s.isOn .rtkCtrl then .next s
  else
    let ok := fun (x : MEpoch) =>
      (match x.deadline with | some d => decide (s.fleetNs < d) | none => false) && !(s.rtk.cells.any fun c => c.me.member = x.member) &&
      (match s.rtk.queue.filter fun y => y.member = x.member with
        | l => l.all fun y => decide (x.e ≤ y.e))
    match (s.rtk.queue.filter ok).foldl (fun (b : Option MEpoch) x => match b with
        | some y => if s.before x y then some x else some y
        | none => some x) none with
    | none => .next s
    | some x =>
      let s := s.dropQueue fun y => decide (y.member = x.member ∧ y.e = x.e)
      let s : State := { s with rtk := { s.rtk with cells := s.rtk.cells ++ [⟨cell, x, s.now, false, s.rmem x.member, 0⟩] } }
      .next ((s.set F.CELL_STATUS_BUSY 1 cell).set F.CELL_STATUS_MEMBER x.member cell)

/-- Queued member-epochs of a member whose deadline has come are dropped (R118). -/
def execDeadlineDrop (m : Nat) (s : State) : Res :=
  let gone := fun (x : MEpoch) => decide (x.member = m) && (match x.deadline with | some d => decide (d ≤ s.fleetNs) | none => false)
  let n := (s.rtk.queue.filter gone).length
  if n = 0 then .next s
  else .next (((s.inc C.RTK_CTRL_DEADLINE_DROP 0 n).irq pRTK I.RTK_CTRL_DEADLINE_DROP).dropQueue gone)

/-! ### The solve (R121 to R138) -/

/-- σ0 of an observation in µm (R122): 0.30 m for code, 3 mm for phase, twice that below 30 dB-Hz. -/
def sigma0 (low : Bool) : Nat × Nat := if low then (600000, 6000) else (300000, 3000)

/-- The usable signals of a member-epoch (R122), with the quantities of R113 and R69. -/
def State.usable (s : State) (me : MEpoch) (b : Epoch) : List Usable :=
  me.sigs.filterMap fun x =>
    match b.recs.find? fun r => decide (r.signal = x.sig ∧ r.svid = x.svid ∧ r.ant = b.hflags % 2) with
    | some r =>
      let base := bit r.flags 7 && !bit r.flags 6 && decide (s.get F.RTK_CFG2_SOLVE_MASK ≤ r.elev)
      let u : Usable := { sig := x.sig, svid := x.svid, code := base && bit r.flags 0 && x.codeOk, phase := base && bit r.flags 1 && x.phaseOk, lock := x.lock
                          p := x.rough * 3200 + x.pr, l := x.rough * 128000 + x.phase, basePsr := r.psr, basePhase := r.phase, baseDop := r.doppler, elev := r.elev
                          sigMem := sigma0 (decide (x.cn0 < 30)), sigBase := sigma0 (bit r.flags 5) }
      if u.code || u.phase then some u else none
    | none => none

/-- The pivot of a signal code among the signals that `f` admits: the satellite of highest base elevation (R121). -/
def pivotOf (l : List Usable) (sig : Nat) (f : Usable → Bool) : Option Nat :=
  ((l.filter fun u => decide (u.sig = sig) && f u).foldl (fun (b : Option Usable) u => match b with
    | some v => if v.elev < u.elev then some u else some v
    | none => some u) none).map (·.svid)

/-- The pivots of every signal code, for code and for phase. -/
def pivots (l : List Usable) : List (Nat × Option Nat × Option Nat) :=
  (List.range 13).map fun c => (c, pivotOf l c (·.code), pivotOf l c (·.phase))

/-- The density of the process noise by DYN class, in 0.001 m²/s³ (R123). -/
def dynPsd (dyn : Nat) : Nat := nth 5000 [0, 100, 1000, 5000] dyn

/-- Double differences of the signals that `f` admits: per signal code one fewer than its satellites (R121). -/
def ddCount (l : List Usable) (f : Usable → Bool) : Nat :=
  (List.range 16).foldl (fun n c => n + ((l.filter fun u => decide (u.sig = c) && f u).length - 1)) 0

/-- The system of a signal code, and SVX of a satellite (R111, R112). -/
def sysOf (sig : Nat) : Nat := ((List.range 6).find? fun y => (sysSignals y).contains sig).getD 7
/-- SVX. -/
def svxOf (sig svid : Nat) : Nat := if sysOf sig = 5 then svid - 120 else svid

/-- The test passes: T ≤ m + (RAIM_K ÷ 10) √(2m), T in thousandths (R131). -/
def innovOk (t m k : Nat) : Bool := decide (t ≤ 1000 * m) || decide ((10 * (t - 1000 * m)) ^ 2 ≤ (1000 * k) ^ 2 * (2 * m))

/-- The job with the signals used. -/
def jobUse (j : SolveJob) (l : List Usable) : SolveJob := { j with obs := l, pivots := pivots l }

/-- The satellite of largest normalised innovation (R132). -/
def worstSat (l : List (Nat × Nat × Nat)) : Option (Nat × Nat) :=
  (l.foldl (fun (b : Option (Nat × Nat × Nat)) x => match b with
    | some y => if y.2.2 < x.2.2 then some x else some y
    | none => some x) none).map fun x => (x.1, x.2.1)

/-- The signals pass the innovation test: there is nothing to test, or T is at most its threshold (R131). -/
def passes (k : Nat) (j : SolveJob) (l : List Usable) : Bool :=
  let m := ddCount l (·.code) + ddCount l (·.phase)
  decide (m = 0) || innovOk (Config.innovation (jobUse j l)).t m k

/-- The innovation test with exclusions (R131 to R133), at most `n` of them: the signals left, the satellites excluded, passed or not. -/
def raim (k : Nat) (j : SolveJob) (l : List Usable) (ex : List (Nat × Nat)) : Nat → List Usable × List (Nat × Nat) × Bool
  | 0 => (l, ex, passes k j l)
  | n + 1 =>
    if passes k j l then (l, ex, true)
    else match worstSat ((Config.innovation (jobUse j l)).sats.filter fun x => l.any fun u => decide (sysOf u.sig = x.1 ∧ svxOf u.sig u.svid = x.2.1)) with
    | none => (l, ex, false)
    | some w =>
      let l' := l.filter fun u => !decide (sysOf u.sig = w.1 ∧ svxOf u.sig u.svid = w.2)
      if ddCount l' (·.code) < 4 then (l, ex, false) else raim k j l' (ex ++ [w]) n

/-- LOCK bounds in ms: the lower of the old, the upper of the new (R113). -/
def lockLow (k : Nat) : Nat := if k = 0 then 0 else 32 * 2 ^ (k - 1)

/-- A slip: the new bound is shorter than the old lower bound plus the time between (R113). -/
def slipped (oldK newK dtMs : Nat) : Bool := decide (newK < 15) && decide (32 * 2 ^ newK < lockLow oldK + dtMs)

/-- The candidates of the search: enough LOCK at the member, valid phase at the base (R125). -/
def State.candidates (s : State) (used : List Usable) : List Usable :=
  used.filter fun u => u.phase && decide (s.get F.RTK_CFG2_LOCK_MIN ≤ u.lock)

/-- The first search that is accepted (R125): the set of all `n` candidates, then sets smaller by one each, at most PAR_TRIES of them and none with fewer
than MIN_FIX. -/
def State.accepted (s : State) (j : SolveJob) (f : FloatOut) (used : List Usable) : Option ArTry :=
  let c := s.candidates used
  let n := ddCount c fun _ => true
  let nodes := s.get F.SEARCH_NODES
  (((List.range (s.get F.RTK_CFG_PAR_TRIES + 1)).filter fun i => decide (s.get F.RTK_CFG_MIN_FIX + i ≤ n)).map fun i =>
      Config.intSearch j f (c.map fun u => (u.sig, u.svid)) i nodes).find? fun t =>
    decide (s.get F.RTK_CFG_MIN_FIX ≤ t.ints.length ∧ t.nodes < nodes ∧ s.get F.RTK_CFG_RATIO_MIN * t.q1 ≤ 10 * t.q2) && t.resid.all fun r => decide (r ≤ 4000)

/-- Reference antenna point in ECEF 0.1 mm (R121): BASE_POS, for antenna 1 with BASELINE. -/
def State.basePos (s : State) (ref : Nat) : List Int := s.antPos ref

/-- Squared length of a difference. -/
def sqDist (a b : List Int) : Int := ((a.zip b).map fun x => (x.1 - x.2) * (x.1 - x.2)).foldl (· + ·) 0

/-- MARGIN by fix state (R134). -/
def hplMargin (st : Nat) : Nat := nth 5 [0, 500, 50, 10, 5] st

/-- HPL of a state from σ_major in µm (R134). -/
def State.hpl (s : State) (st sigmaUm : Nat) : Nat :=
  if st = 0 then 0 else min 65535 ((s.get F.INTEG_CFG_HPL_K * sigmaUm + hplMargin st * 10000 + 9999) / 10000)

/-- A notice (R138). -/
def noticeBytes (m e kind arg value : Nat) : List Nat :=
  toBytes 6 (e / 1000000000) ++ toBytes 2 m ++ toBytes 4 (e % 1000000000) ++ [kind, arg] ++ toBytes 2 value

/-- A solved epoch in the making. -/
structure Solved where
  st : Nat
  mem : RtkMem
  nfix : Nat
  flags : Nat
  used : List Usable
  notices : List (Nat × Nat × Nat)
  raimFail : Bool
  intChange : Bool
  searched : Bool
  out : SolOut
  deriving DecidableEq, Repr

/-- The fix state of R126 and the checks of R135, from the state before, the double differences and the accepted set. -/
def State.fixState (s : State) (x : RtkMem) (fixedHpl ddCode ddPhase : Nat) (long : Bool) (acc : Option ArTry) : Nat × Nat × Bool × Option Nat :=
  if ddCode < 4 then (0, 0, false, none)
  else
    let set := if long ∨ ddPhase < 4 then none else acc
    if x.state < 2 then (if ddPhase < 4 then (1, 0, false, none) else (2, 0, false, none))
    else match set with
    | none => (2, 0, false, none)
    | some t =>
      if x.state = 2 then (3, 1, false, none)
      else
        let changed := t.ints.any fun (g, v, n) => x.ambs.any fun a => decide (a.sig = g ∧ a.svid = v) && (match a.int_ with
          | some o => decide (o ≠ n)
          | none => false)
        let need := s.get F.RTK_CFG_VERIFY_EPOCHS
        let fail : Option Nat :=
          if x.clean % 2 ^ need ≠ 0 then some 1 else if x.disagree then some 2
          else if s.get F.VERIFY_HPL < fixedHpl then some 3 else none
        if changed then (3, 1, true, none)
        else if x.state = 4 then (match fail with | some k => (3, 1, false, some k) | none => (4, x.verify + 1, false, none))
        else
          let v := x.verify + 1
          (if need ≤ v ∧ fail.isNone then 4 else 3, v, false, none)

/-- The state a member's epoch starts from (R113, R124): the whole-state reset it carries, slips at the member and at the base; and whether any ambiguity
is reset. -/
def State.solveStart (s : State) (me : MEpoch) (x0 : RtkMem) : RtkMem × Bool :=
  let x := if me.reset then { lastE := x0.lastE, solvedE := x0.solvedE } else x0
  let slip := fun (a : Amb) => match me.sigs.find? fun u => decide (u.sig = a.sig ∧ u.svid = a.svid) with
    | some u => !u.phaseOk || (match x.locks.find? fun l => decide (l.1 = a.sig ∧ l.2.1 = a.svid) with
      | some l => slipped l.2.2.1 u.lock ((me.e - l.2.2.2) / 1000000)
      | none => false)
    | none => false
  let hit := fun (a : Amb) => slip a || s.baseReset x.solvedE me.e a
  (x.resetAmbs hit, x.ambs.any fun a => a.fresh || hit a)

/-- What the arithmetic of a cell works on. -/
def State.solveJob (s : State) (me : MEpoch) (b : Epoch) (x : RtkMem) (all : List Usable) : SolveJob :=
  { filt := x.filt, ambs := x.ambs, anewVar := 10000, dt := me.e - x.solvedE, psd := dynPsd (RK.dyn.get (s.rk me.member)), ofs := me.ofs, e := me.e
    anew := (all.filter fun u => u.phase && !(x.ambs.any fun a => decide (a.sig = u.sig ∧ a.svid = u.svid) && !a.fresh)).map fun u => (u.sig, u.svid)
    still := if me.static then some 1 else none, ref := s.basePos (b.hflags % 2), obs := all, pivots := pivots all }

/-- The ambiguities after a solved epoch: those of its signals, and the others as they were, fixed to nothing. -/
def newAmbs (now : Nat) (x : RtkMem) (used : List Usable) (f : FloatOut) (ints : List (Nat × Nat × Int)) : List Amb :=
  let keep := used.filter (·.phase)
  let same := fun (a : Amb) (u : Usable) => decide (u.sig = a.sig ∧ u.svid = a.svid)
  ((x.ambs.filter fun a => !(keep.any (same a))).map fun a => { a with int_ := none }) ++ keep.map fun u =>
    let a := (x.ambs.find? fun a => same a u).getD { sig := u.sig, svid := u.svid }
    { a with fresh := false, seenAt := now,
             val := ((f.vals.find? fun v => decide (v.1 = u.sig ∧ v.2.1 = u.svid)).map (·.2.2)).getD a.val,
             int_ := (ints.find? fun v => decide (v.1 = u.sig ∧ v.2.1 = u.svid)).map (·.2.2) }

/-- One member-epoch solved on the copy `x0` of the member's state (R120 to R135). The innovation test comes before the update; where it fails for good the
filter is carried to E without it (R133). -/
def State.solve (s : State) (me : MEpoch) (b : Epoch) (x0 : RtkMem) : Solved :=
  let whole := x0.wholeReset || me.reset
  let (x, hit) := s.solveStart me x0
  let all := s.usable me b
  let j := s.solveJob me b x all
  let (used, ex, ok) := raim (s.get F.INTEG_CFG_RAIM_K) j all [] (s.get F.INTEG_CFG_EXCL_MAX)
  let x := x.resetAmbs fun a => ex.contains (sysOf a.sig, svxOf a.sig a.svid)
  let x := { x with clean := (x.clean * 2 + b2n (ex ≠ [])) % 2 ^ 63 }
  let exNote := if ex = [] then [] else [(3, ex.length, (ex.headD (0, 0)).1 + (ex.headD (0, 0)).2 * 8)]
  if !ok then
    { st := 0, mem := { x with state := 0, verify := 0, filt := Config.predict j }, nfix := 0, flags := 8 * b2n (whole || hit), used := used,
      notices := exNote ++ [(4, 0, 0)], raimFail := true, intChange := false, searched := false, out := ⟨[], [], 0⟩ }
  else
    let j := jobUse j used
    let f := Config.floatUpdate j
    let ddc := ddCount used (·.code)
    let ddp := ddCount used (·.phase)
    let long := decide ((s.get F.BASELINE_MAX * 10000 : Int) ^ 2 < sqDist (Config.solution j f 2 []).ecef j.ref)
    let acc := s.accepted j f used
    let fixed := match acc with | some t => (Config.solution j f 4 t.ints).sigmaUm | none => 0
    let (st, run, chg, lost) := s.fixState x (s.hpl 4 fixed) ddc ddp long acc
    let ints := if 3 ≤ st then (match acc with | some t => t.ints | none => []) else []
    { st := st, nfix := ints.length, used := used, raimFail := false, intChange := chg, out := Config.solution j f st ints,
      searched := decide (2 ≤ st) && !long && decide (s.get F.RTK_CFG_MIN_FIX ≤ ddCount (s.candidates used) fun _ => true),
      flags := 4 * b2n long + 8 * b2n (whole || hit),
      notices := exNote ++ (match lost with | some k => [(5, k, 0)] | none => []),
      mem := { x with state := st, verify := run, ambs := newAmbs s.now x used f ints, filt := f.filt } }

/-- SITE_ORIGIN in ECEF 0.1 mm (R127). -/
def State.originAt (s : State) : List Int :=
  [sext (s.get F.SITE_ORIGIN_X_LO + s.get F.SITE_ORIGIN_X_HI * 2 ^ 32) 64, sext (s.get F.SITE_ORIGIN_Y_LO + s.get F.SITE_ORIGIN_Y_HI * 2 ^ 32) 64,
   sext (s.get F.SITE_ORIGIN_Z_LO + s.get F.SITE_ORIGIN_Z_HI * 2 ^ 32) 64]

/-- Three elements of a list. -/
def three (l : List Int) : List Int := [nth 0 l 0, nth 0 l 1, nth 0 l 2]

/-- The position of a solution in site ENU, mm (R127). -/
def State.siteEnu (s : State) (ecef : List Int) : List Int :=
  three (Config.ecefToEnu s.originAt (((three ecef).zip s.originAt).map fun p => p.1 - p.2))

/-- The velocity of a solution in site ENU, mm/s. -/
def State.siteVel (s : State) (vel : List Int) : List Int := three (Config.ecefToEnu s.originAt (three vel))

/-- The member's own fix is compared with position and velocity `enu`, `vel` (R136, R137): the outcome with its counts, the notice and d_H, and
whether it is stale. -/
def State.compareOwn (s : State) (me : MEpoch) (enu vel : List Int) (st : Nat) (x : RtkMem) : RtkMem × Option (Nat × Nat × Nat) × Bool :=
  let own := rebuildMs me.own.ms (me.arrival / 1000000)
  let e := me.e / 1000000
  let stale := me.own.valid && decide (200 < own - e ∨ 200 < e - own)
  if s.get F.INTEG_CFG_OWN_CHECK = 0 ∨ st < 3 ∨ !me.own.valid ∨ stale then (x, none, stale)
  else
    let at_ := ((me.own.pos.zip vel).map fun p => p.1 * 1000 + p.2 * ((e : Int) - own))
    let d := (at_.zip enu).map fun p => p.1 - p.2 * 1000
    let h2 := nth 0 d 0 * nth 0 d 0 + nth 0 d 1 * nth 0 d 1
    let limH : Int := s.get F.INTEG_CFG2_DIS_H * 1000
    let bad := decide (limH * limH < h2) || decide (s.get F.INTEG_CFG2_DIS_V * 1000 < iabs (nth 0 d 2))
    let cm := min 65535 (isqrt h2.toNat / 10000)
    let n := s.get F.INTEG_CFG_DIS_COUNT
    let x := if bad then { x with ovr := x.ovr + 1, within := 0 } else { x with ovr := 0, within := x.within + 1 }
    if !x.disagree && decide (n ≤ x.ovr) then ({ x with disagree := true, within := 0 }, some (1, 0, cm), false)
    else if x.disagree && decide (n ≤ x.within) then ({ x with disagree := false, ovr := 0 }, some (2, 0, cm), false)
    else (x, none, false)

/-- A velocity of the record: saturating at ±32,767 (R127). -/
def satVel (v : Int) : Int := max (-32767) (min 32767 v)

/-- The fix record (R127). -/
def fixBytes (m e : Nat) (st nfix nsig flags : Nat) (ecef enu vel : List Int) (hpl age tq : Nat) : List Nat :=
  toBytes 6 (e / 1000000000) ++ toBytes 2 m ++ toBytes 4 (e % 1000000000) ++ [st, nfix, nsig, flags]
    ++ ecef.flatMap (fun v => toBytes 8 (trunc v 64)) ++ enu.flatMap (fun v => toBytes 4 (trunc v 32))
    ++ vel.flatMap (fun v => toBytes 2 (trunc (satVel v) 16)) ++ toBytes 2 hpl ++ toBytes 2 age ++ [tq, 0]

/-- Free values for a position that the record does not have (R126). -/
def State.freePos (s : State) : List Int × State :=
  let (a, s) := s.free
  let (b, s) := s.free
  let (c, s) := s.free
  ([a, b, c], s)

/-- Insert by KIND. -/
def insKind (x : Nat × Nat × Nat) : List (Nat × Nat × Nat) → List (Nat × Nat × Nat)
  | [] => [x]
  | y :: r => if x.1 < y.1 then x :: y :: r else y :: insKind x r

/-- An item of SOLVE, or the queue-18 copy, of a record or notice. -/
def State.solveOut (s : State) (toPlan : Bool) (m kind : Nat) (body : List Nat) : State :=
  let s := if toPlan then s.item { flow := m, src := srcSOLVE, kind := kind, body := body } else s
  if s.get F.RTK_CFG_FIX_HOST = 1 then s.qBytes 18 body else s

/-- What the integrity checks count and raise (R131 to R134). -/
def State.integCounts (s : State) (m : Nat) (r : Solved) : State :=
  let ex := (r.notices.find? fun n => n.1 = 3).map (·.2.1)
  let s := match ex with | some k => s.inc C.RTK_CTRL_RAIM_EXCL 0 k | none => s
  let s := if r.raimFail then (s.inc C.RTK_CTRL_RAIM_FAIL).irq pRTK I.RTK_CTRL_RAIM_FAIL else s
  if r.intChange then s.notice pRTK I.RTK_CTRL_INTEGER_CHANGE m else s

/-- A change of the agreement with a member's own fix: set is counted and noticed, cleared is noticed (R136). -/
def State.disagreeNote (s : State) (m : Nat) (note : Option (Nat × Nat × Nat)) : State := match note with
  | some (1, _, v) => (s.inc C.RTK_CTRL_DISAGREE_SET).notice pRTK I.RTK_CTRL_DISAGREE m v
  | some (_, _, v) => s.noticeCtr pRTK C.RTK_CTRL_DISAGREE_SET m v
  | none => s

/-- A member whose own fix disagrees is held where DIS_ACTION says so (R136, R266). -/
def State.disagreeHold (s : State) (m : Nat) (note : Option (Nat × Nat × Nat)) : State := match note with
  | some (1, _, _) => if s.get F.CONF_CFG_DIS_ACTION = 1 then (s.holdMember m 2).regCounts else s
  | _ => s

/-- A solved epoch is released in one step (R120, R127, R138): stored state, table 1, host and PLAN; then its notices. Below CENTIMETRE nothing goes
to PLAN, a notice of DISAGREE included (R141). -/
def State.releaseFix (s : State) (w : CellWork) (b : Epoch) : State :=
  let me := w.me
  let m := me.member
  let r := s.solve me b w.mem
  let enu := s.siteEnu r.out.ecef
  let vel := s.siteVel r.out.vel
  let (mem, note, stale) := s.compareOwn me enu vel r.st r.mem
  let s := if stale then s.inc C.RTK_CTRL_OWN_FIX_STALE else s
  let notes := match note with | some n => insKind n r.notices | none => r.notices
  let late := match me.deadline with | some d => decide (d ≤ s.fleetNs) | none => false
  let shed := decide (RK.eff.get (s.rk m) < RK.rate.get (s.rk m))
  let flags := b2n late + 2 * b2n shed + r.flags + 16 * b2n (bit b.hflags 4)
  let hpl := s.hpl r.st r.out.sigmaUm
  let (free, s) := if r.st = 0 then s.freePos else ([], s)
  let body := fixBytes m me.e r.st r.nfix r.used.length flags (if r.st = 0 then free else three r.out.ecef) (if r.st = 0 then free else enu)
    (if r.st = 0 then [0, 0, 0] else vel) hpl (min 65535 ((s.fleetNs - shiftNs w.shift me.e) / 100000)) b.tq
  let locks := (mem.locks.filter fun l => !(me.sigs.any fun u => decide (u.sig = l.1 ∧ u.svid = l.2.1))) ++ me.sigs.map fun u => (u.sig, u.svid, u.lock, shiftNs w.shift me.e)
  let s := s.setRmem m { mem with lastE := (s.rmem m).lastE, wholeReset := false, locks := locks, solvedE := shiftNs w.shift me.e, solvedAt := some s.now }
  let s := (s.setTe pRTK 1 m (ofBytes body)).setTe pRTK 0 m (RK.state.set (s.rk m) r.st)
  let s := (s.inc C.RTK_CTRL_FIXES).on late fun s => s.inc C.RTK_CTRL_LATE_FIX
  let s := if !r.searched then s else if r.nfix ≠ 0 then s.inc C.RTK_CTRL_AR_ACCEPT else s.inc C.RTK_CTRL_AR_REJECT
  let s := (s.integCounts m r).disagreeNote m note
  let plan := decide (s.level = 3) && !s.offDuty
  let s := s.solveOut plan m 1 body
  let s := s.each notes fun s n => s.solveOut plan m 2 (noticeBytes m me.e n.1 n.2.1 n.2.2)
  let s := s.on plan fun s => s.disagreeHold m note
  let ownOk := me.own.valid && (let o := rebuildMs me.own.ms (me.arrival / 1000000); decide (o ≤ me.e / 1000000 + 200 ∧ me.e / 1000000 ≤ o + 200))
  let s := if ¬ plan then s
    else if 2 ≤ r.st then (s.notePosition m me.e).conform m me.e enu hpl
    else if ownOk then
      let t := rebuildMs me.own.ms (me.arrival / 1000000) * 1000000
      (s.notePosition m t).conform m t me.own.pos 0
    else s
  s.rtkShow

/-- The running mean of R128, over 10 s. -/
def State.noteCost (s : State) (cycles : Nat) : State :=
  let l := (s.now, cycles) :: s.rtk.costs.filter fun c => decide (s.now < c.1 + sec 10)
  let s : State := { s with rtk := { s.rtk with costs := l } }
  s.set F.MEAN_COST (l.foldl (fun n c => n + c.2) 0 / l.length)

/-- A cell completes a member-epoch (R119, R120, R127). While the dispatcher has no room, SOLVE waits (R313). -/
def execSolveComplete (cell cycles : Nat) (s : State) : Res :=
  match s.rtk.cells.find? fun c => c.cell = cell with
  | none => .next s
  | some w =>
    if s.level = 3 ∧ ¬ w.discard ∧ (!s.isOn .dispatch || (s.flowEn w.me.member && !s.roomFor srcSOLVE 64)) then .next s
    else
      let s : State := { s with rtk := { s.rtk with cells := s.rtk.cells.filter fun c => c.cell ≠ cell } }
      let s := ((s.set F.CELL_STATUS_BUSY 0 cell).set F.CYCLES_LAST (cycles % 2 ^ 32) cell).inc C.SOLVER_BUSY_CYCLES cell cycles
      let s := (s.inc C.SOLVER_SOLVED cell).noteCost cycles
      if w.discard then .next s.rtkShow
      else match w.me.base with
        | none => .next s.rtkShow
        | some b => .next (s.releaseFix w b)

/-! ### Shedding (R128) -/

/-- The rate code of a member under applied steps. -/
def effRate (shed : List Nat) (prio rate : Nat) : Nat :=
  let five := shed.contains (7 - 2 * prio)
  let two := shed.contains (8 - 2 * prio)
  if prio = 0 then rate else if two then min rate 1 else if five then min rate 2 else rate

/-- Σ f over the enabled members under applied steps, Hz. -/
def State.sumRate (s : State) (shed : List Nat) : Nat :=
  (List.range 512).foldl (fun n m =>
    let k := s.rk m
    if RK.en.get k = 0 then n else n + nth 10 [1, 2, 5, 10] (effRate shed (RK.prio.get k) (RK.rate.get k))) 0

/-- D_c > C, or D_c ≤ 0.9 C, in whole arithmetic. -/
def State.overC (s : State) (sum num : Nat) : Bool :=
  decide (s.get F.RTK_STATUS_CELLS_LIVE * s.get F.RTK_CFG2_UTIL_TARGET * 600000000 * num < sum * s.get F.MEAN_COST * 1000)

/-- Steps are applied, from the one after the last, while D_c > C; one that changes no rate is passed over. -/
def State.shedMore (s : State) (shed : List Nat) : Nat → Nat → List Nat
  | 0, _ => shed
  | n + 1, k =>
    if 6 < k ∨ !s.overC (s.sumRate shed) 10 then shed
    else s.shedMore (if s.sumRate (k :: shed) = s.sumRate shed then shed else k :: shed) n (k + 1)

/-- The capacity evaluation of a whole fleet second. -/
def execRtkCapacityEval (s : State) : Res :=
  if ¬ s.isOn .rtkCtrl ∨ s.fleetSec ≤ s.rtk.second then .next s
  else
    let s : State := ({ s with rtk := { s.rtk with second := s.fleetSec } }).rtkShow
    let old := s.rtk.shed
    let more := s.shedMore old 6 (old.headD 0 + 1)
    let ovr := s.overC (s.sumRate more) 10
    let easy := decide (old ≠ []) && decide (more = old) && !s.overC (s.sumRate (old.drop 1)) 9
    let now := s.fleetSec
    let since := if easy then (match s.rtk.easySince with | some t => some t | none => some now) else none
    let long := match since with | some t => decide (t + 10 ≤ now) | none => false
    let paced := match s.rtk.undoneAt with | some t => decide (t + 10 ≤ now) | none => true
    let undo := long && paced
    let shed := if undo then old.drop 1 else more
    let next := if old.drop 1 ≠ [] ∧ !s.overC (s.sumRate (old.drop 2)) 9 then some now else none
    let s : State := { s with rtk := { s.rtk with shed := shed, easySince := if undo then next else since,
                                                  undoneAt := if undo then some now else s.rtk.undoneAt } }
    let s := s.each ((List.range 512).filter fun m => decide (s.rk m ≠ 0)) fun s m =>
      s.setTe pRTK 0 m (RK.eff.set (s.rk m) (effRate shed (RK.prio.get (s.rk m)) (RK.rate.get (s.rk m))))
    let s := (s.set F.RTK_STATUS_SHED_STEP (shed.headD 0)).set F.DEMAND ((s.sumRate shed * s.get F.MEAN_COST / 6000000) % 2 ^ 32)
    let s := if shed ≠ old then s.irq pRTK I.RTK_CTRL_SHED_CHG else s
    let was := s.get F.RTK_STATUS_CAP_SHORT
    let s := s.set F.RTK_STATUS_CAP_SHORT (b2n ovr)
    .next (if ovr ∧ was = 0 then s.notice pRTK I.RTK_CTRL_CAP_SHORT else s)

/-! ### Time-outs (R124, R140) -/

/-- A signal absent for 10 s leaves the member's state. -/
def execSignalAbsentTimeout (m sig svid : Nat) (s : State) : Res :=
  let x := s.rmem m
  let gone := fun (a : Amb) => decide (a.sig = sig ∧ a.svid = svid ∧ a.seenAt + sec 10 ≤ s.now)
  if x.ambs.any gone then .next (s.setRmem m { x with ambs := x.ambs.filter fun a => !gone a }) else .next s

/-- No epoch of the member solved for 10 s: its whole state goes. -/
def execMemberStateTimeout (m : Nat) (s : State) : Res :=
  match (s.rmem m).solvedAt with
  | some t => if t + sec 10 ≤ s.now then .next (s.rtkReset m) else .next s
  | none => .next s

/-- No base epoch delivered for BASE_LOSS (R140). -/
def execBaseLost (s : State) : Res :=
  if ¬ s.isOn .rtkCtrl ∨ s.get F.INTEG_STATUS_BASE_LOST = 1 ∨ s.fleetNs < s.gn.lastBase.getD 0 + s.get F.BASE_LOSS * 1000000 then .next s
  else .next (((s.set F.INTEG_STATUS_BASE_LOST 1).notice pRTK I.RTK_CTRL_BASE_LOST).recompute)

end Sys2Proof.Machine
end

