-- ==== Sys2Proof/Machine/Corr.lean ====
section
/-! DEFINITION. Correction epochs: which RTCM messages a base epoch makes, and what a CORR entry sends of them (R142 to
R147, R192). -/
namespace Sys2Proof.Machine
open Sys2Proof

/-- The CORR_OUT page. -/
abbrev pCORR : Page := ⟨.corrOut, 0⟩

/-- The systems in the order of R143: GPS, Galileo, SBAS, QZSS, BeiDou, NavIC, by SYS code of R112. -/
def corrSystems : List Nat := [0, 1, 5, 3, 2, 4]

/-- Message number of a system's MSM4; MSM7 is 3 more (R143). -/
def msmNumber (sys : Nat) : Nat := nth 1074 [1074, 1094, 1124, 1114, 1134, 1104] sys

/-- The transport of a message: preamble, 10-bit length, CRC-24Q (R143). -/
def rtcmFrame (body : List Nat) : List Nat :=
  let h := [0xD3, body.length / 256 % 4, body.length % 256] ++ body
  h ++ toBytesBe 3 (crc24q h)

/-- `n` bits, most significant first, padded with zero bits to whole bytes. -/
def bitBytes (n x : Nat) : List Nat :=
  let k := (n + 7) / 8
  toBytesBe k (x % 2 ^ n * 2 ^ (8 * k - n))

/-- The records of a base epoch that a correction uses (R144). -/
def State.corrRecs (s : State) (e : Epoch) : List MeasRec :=
  e.recs.filter fun r => decide (r.ant = e.hflags % 2 ∧ s.get F.RTK_CFG2_SOLVE_MASK ≤ r.elev ∧ r.elev ≤ 90) && bit r.flags 0 && !bit r.flags 6

/-- Distinct numbers in ascending order. -/
def insNat (x : Nat) : List Nat → List Nat
  | [] => [x]
  | y :: r => if x < y then x :: y :: r else if x = y then y :: r else y :: insNat x r
/-- The distinct numbers of a list, ascending. -/
def distinct (l : List Nat) : List Nat := l.foldr insNat []

/-- A list cut into pieces of at most `n`. -/
def chunks (n : Nat) : Nat → List Nat → List (List Nat)
  | 0, _ => []
  | _ + 1, [] => []
  | k + 1, l => l.take (max 1 n) :: chunks n k (l.drop (max 1 n))

/-- One MSM to be built: its system, its satellites, the signals of its mask in the order of their columns, its records. -/
structure MsmPlan where
  sys : Nat
  sats : List Nat
  sigs : List Nat
  recs : List MeasRec
  deriving DecidableEq, Repr

/-- The column of an R60 signal code in the signal mask of RTCM 10403.4, 1 the first: of its pilot where it has one. PRESUMED (log entry
26), as the whole layout of the messages. -/
def sigCol (sig : Nat) : Nat := nth 22 [2, 31, 23, 2, 23, 31, 23, 2, 31, 23, 22, 2, 22] sig

/-- Columns in ascending order, without repeats. -/
def bySigCol (l : List Nat) : List Nat := (distinct (l.map sigCol)).filterMap fun c => l.find? fun g => sigCol g = c

/-- The MSMs of a system: one message, or as many as 64 cells each require, satellites in ascending order (R145). -/
def msmPlans (recs : List MeasRec) (sys : Nat) : List MsmPlan :=
  let l := recs.filter fun r => (sysSignals sys).contains r.signal
  let sats := distinct (l.map (·.svid))
  let sigs := bySigCol (l.map (·.signal))
  (chunks (64 / max 1 sigs.length) sats.length sats).map fun c => ⟨sys, c, sigs, l.filter fun r => c.contains r.svid⟩

/-- The cells of an MSM, satellite by satellite: its record or none. -/
def MsmPlan.grid (m : MsmPlan) : List (Option MeasRec) :=
  m.sats.flatMap fun v => m.sigs.map fun g => m.recs.find? fun r => decide (r.svid = v ∧ r.signal = g)

/-- A signed field of `w` bits; its most negative value stands for no value. -/
def fitField (w : Nat) (ok : Bool) (v : Int) : Nat × Nat := (w, if ok ∧ iabs v < 2 ^ (w - 1) then trunc v w else 2 ^ (w - 1))

/-- A quotient rounded to the nearest whole number. -/
def roundDiv (a b : Int) : Int := (2 * a + b) / (2 * b)

/-- Light travels this far in 1 ms, in 0.1 mm. -/
def lightMs : Int := 2997924580

/-- Carrier cycles in 1 ms (R60). -/
def cyclesMs (sig : Nat) : Int := if upperPath sig then 1575420 else 1176450

/-- Rough range of a satellite in 2^-10 ms, from its first record. -/
def MsmPlan.rough (m : MsmPlan) (v : Nat) : Int := match m.recs.find? fun r => r.svid = v with
  | some r => roundDiv (r.psr * 2 ^ 10) lightMs
  | none => 0

/-- Rate of a phase range in 0.0001 m/s (R68). -/
def MeasRec.rate (r : MeasRec) : Int := roundDiv (-r.doppler * lightMs) (1000 * cyclesMs r.signal)

/-- Rough phase range rate of a satellite in m/s, from its first record with a valid Doppler. -/
def MsmPlan.roughRate (m : MsmPlan) (v : Nat) : Option Int :=
  (m.recs.find? fun r => decide (r.svid = v) && bit r.flags 2).map fun r => roundDiv r.rate 10000

/-- Lock time indicator of MSM4: the count of the thresholds 32 ms, 64 ms, … that are reached. -/
def lock4 (t : Nat) : Nat := ((List.range 15).filter fun i => decide (32 * 2 ^ i ≤ t)).length

/-- Lock time indicator of MSM7. -/
def lock10 (t : Nat) : Nat :=
  if t < 64 then t
  else
    let k := Nat.log2 t - 5
    min 704 (32 * (k + 1) + (t - 2 ^ (k + 5)) / 2 ^ k)

/-- LOCK_MS as a correction tells it: none after a slip (R142), nor in the first epoch after a switch of antennas (R147). -/
def MeasRec.told (lock0 : Bool) (r : MeasRec) : Nat := if lock0 || bit r.flags 4 then 0 else r.lockMs

/-- The satellite fields of an MSM, each field for all satellites. -/
def MsmPlan.satFields (m : MsmPlan) (msm7 : Bool) : List (Nat × Nat) :=
  let ms := fun v => (8, min 255 ((m.rough v) / 1024).toNat)
  let sub := fun v => (10, trunc (m.rough v) 10)
  if msm7 then m.sats.map ms ++ m.sats.map (fun _ => (4, 0)) ++ m.sats.map sub ++
      m.sats.map fun v => fitField 14 (m.roughRate v).isSome ((m.roughRate v).getD 0)
  else m.sats.map ms ++ m.sats.map sub

/-- The signal fields of an MSM, each field for all cells present. -/
def MsmPlan.sigFields (m : MsmPlan) (msm7 lock0 : Bool) : List (Nat × Nat) :=
  let l := m.grid.filterMap id
  let k := if msm7 then 19 else 14
  let pr := fun (r : MeasRec) => fitField (if msm7 then 20 else 15) true (roundDiv (r.psr * 2 ^ (10 + k)) lightMs - m.rough r.svid * 2 ^ k)
  let j := if msm7 then 21 else 19
  let ph := fun (r : MeasRec) =>
    fitField (if msm7 then 24 else 22) (bit r.flags 1) (roundDiv (r.phase * 2 ^ (10 + j)) (2 ^ 16 * cyclesMs r.signal) - m.rough r.svid * 2 ^ j)
  let lock := fun (r : MeasRec) => if msm7 then (10, lock10 (r.told lock0)) else (4, lock4 (r.told lock0))
  let half := fun (r : MeasRec) => (1, b2n (bit r.flags 8))
  let cn := fun (r : MeasRec) => if msm7 then (10, min 1023 ((r.cn0 * 16 + 50) / 100)) else (6, min 63 ((r.cn0 + 50) / 100))
  let rate := fun (r : MeasRec) => fitField 15 (bit r.flags 2) (r.rate - (m.roughRate r.svid).getD 0 * 10000)
  l.map pr ++ l.map ph ++ l.map lock ++ l.map half ++ l.map cn ++ (if msm7 then l.map rate else [])

/-- The satellite's place in the satellite mask, 1 the first. -/
def satPlace (sys svid : Nat) : Nat := if sys = 5 then svid - 119 else svid

/-- Epoch time of a system: ms of its week at the strobe (R68, R144). -/
def msmTime (sys : Nat) (e : Epoch) : Nat :=
  (e.timeS * 1000 + e.timeNs / 1000000 - 315964819000 - (if sys = 2 then 14000 else 0)) % 604800000

/-- Fields joined, most significant first: width and value. -/
def joinFields (l : List (Nat × Nat)) : Nat × Nat := l.foldl (fun a f => (a.1 + f.1, a.2 * 2 ^ f.1 + f.2 % 2 ^ f.1)) (0, 0)

/-- The fields of an MSM (R145); `lock0` makes every lock time indicator 0 (R147). -/
def State.msmFields (s : State) (e : Epoch) (m : MsmPlan) (more lock0 : Bool) : List (Nat × Nat) :=
  let msm7 := bit (s.get F.CORR_CFG_MSM7) m.sys
  let ext := if s.get F.TIME_STATUS_STATE = 1 ∧ s.get F.ROOT_STATUS_ON_AUX = 0 then 1 else 2
  [(12, msmNumber m.sys + (if msm7 then 3 else 0)), (12, s.get F.CORR_CFG2_STATION_ID), (30, msmTime m.sys e), (1, b2n more), (3, 0), (7, 0), (2, 1), (2, ext),
   (1, 0), (3, 0), (64, m.sats.foldl (fun n v => n + 2 ^ (64 - satPlace m.sys v)) 0), (32, m.sigs.foldl (fun n g => n + 2 ^ (32 - sigCol g)) 0)]
    ++ m.grid.map (fun r => (1, b2n r.isSome)) ++ m.satFields msm7 ++ m.sigFields msm7 lock0

/-- An MSM in bytes. -/
def State.msmBytes (s : State) (e : Epoch) (m : MsmPlan) (more lock0 : Bool) : List Nat :=
  let (n, v) := joinFields (s.msmFields e m more lock0)
  bitBytes n v

/-- The antenna reference point (R145): BASE_POS, with BASELINE where antenna 1 is the reference, 0.1 mm. -/
def State.arpPos (s : State) (ref : Nat) : List Int := s.antPos ref

/-- The ARP message, 1005 or 1006. The indicators that the spec does not name are as log entry 26 says: realisation year 0, the systems of SYS_EN, a physical
station, one receiver oscillator, quarter cycles not told. -/
def State.arpBytes (s : State) (ref : Nat) : List Nat :=
  let p := s.arpPos ref
  let six := s.get F.CORR_CFG_ARP_MSG
  let sys := s.get F.CORR_CFG_SYS_EN
  let l := [(12, 1005 + six), (12, s.get F.CORR_CFG2_STATION_ID), (6, 0), (1, bits sys 0 1), (1, 0), (1, bits sys 1 1), (1, 0), (38, trunc (nth 0 p 0) 38),
            (1, 1), (1, 0), (38, trunc (nth 0 p 1) 38), (2, 0), (38, trunc (nth 0 p 2) 38)]
  let (n, v) := joinFields (l ++ if six = 0 then [] else [(16, s.get F.ANT_HEIGHT)])
  bitBytes n v

/-- The RTCM frames of an epoch. -/
def State.corrMsgs (s : State) (e : Epoch) (arp ant0 : Bool) : List (List Nat) :=
  let plans := if s.get F.CORR_CFG2_CORR_TQ_MAX < s.get F.TIME_STATUS_TQ then []
    else (corrSystems.filter fun k => bit (s.get F.CORR_CFG_SYS_EN) k).flatMap (msmPlans (s.corrRecs e))
  let n := plans.length
  let msm := (plans.zip (List.range n)).map fun (m, i) =>
    rtcmFrame (s.msmBytes e m (decide (i + 1 < n)) ant0)
  (if arp then [rtcmFrame (s.arpBytes (e.hflags % 2))] else []) ++ msm

/-- A delivered base epoch makes a correction epoch (R144, R145): its strobe a whole multiple of DIV base periods, BASE_VALID,
no SPOOF, CENTIMETRE. A reported TQ worse than CORR_TQ_MAX leaves its MSMs out (R142). -/
def execCorrBuild (s : State) : Res :=
  match s.gn.delivered.getLast? with
  | none => .next s
  | some e =>
    let t := e.timeS * 1000000000 + e.timeNs
    if ¬ s.isOn .corrOut ∨ t ≤ s.rtk.corrE ∨ t % (s.get F.CORR_CFG2_DIV * ratePeriod e.rate) ≠ 0 ∨ s.get F.BASE_CTRL_BASE_VALID = 0 ∨
       s.get F.CONSIST_STATUS_SPOOF = 1 ∨ s.level ≠ 3 then .next s
    else
      let arp := s.rtk.arpDue || (match s.rtk.arpAt with
        | none => true
        | some a => decide (a + s.get F.CORR_CFG2_ARP_PERIOD * 1000000000 ≤ t))
      let l := s.corrMsgs e arp s.rtk.antDue
      let s := if s.get F.CORR_CFG2_CORR_TQ_MAX < s.get F.TIME_STATUS_TQ then s.inc C.CORR_OUT_SKIPPED_TQ else s
      let r := s.rtk
      let s : State := { s with rtk := { r with corrE := t } }
      if l = [] then .next s
      else
        let x : CorrEpoch := { seq := r.corrSeq, e := t, built := s.fleetNs, msgs := l, newArp := r.arpDue }
        let s : State := { s with rtk := { s.rtk with
          corrSeq := (r.corrSeq + 1) % 65536, arpAt := if arp then some t else r.arpAt, arpDue := false, antDue := false,
          corr := if s.get F.CORR_CFG_AIR_EN = 1 then r.corr.map fun c => c ++ [x] else r.corr } }
        let s := (s.inc C.CORR_OUT_EPOCHS_BUILT).set F.LAST_SIZE (l.foldl (fun n m => n + m.length) 0)
        .next (if s.get F.CORR_CFG_HOST_EN = 1 then s.qBytes 21 l.flatten else s)

/-- An epoch of a port is dropped: aged or superseded (R146). -/
def State.corrDrop (s : State) (c : Ctr) (n : Nat) : State := if n = 0 then s else (s.inc c 0 n).irq pCORR I.CORR_OUT_CORR_DROP

/-- The epochs of a port at a CORR entry that starts at `t` (R146, R147): aged ones discarded, those not begun superseded by
the newest one eligible, everything older discarded by one with a new ARP. -/
def State.corrAge (s : State) (p t : Nat) : State :=
  let l := nth [] s.rtk.corr p
  let young := l.filter fun x => decide (t < x.e + s.get F.MAX_AGE * 1000000)
  let s := s.corrDrop C.CORR_OUT_EPOCHS_AGED (l.length - young.length)
  let ripe := young.filter fun x => decide (x.built + 200000 ≤ t)
  match ripe.getLast? with
  | none => { s with rtk := { s.rtk with corr := setNth s.rtk.corr p young } }
  | some n =>
    let old := young.filter fun x => decide (x.e < n.e)
    let kept := young.filter fun x => decide (n.e ≤ x.e) || (x.begun && !(ripe.any fun y => y.newArp && decide (x.e < y.e)))
    let s := s.corrDrop C.CORR_OUT_EPOCHS_SUPERSEDED (old.filter fun x => !x.begun).length
    { s with rtk := { s.rtk with corr := setNth s.rtk.corr p kept } }

/-- A CORR frame with `n` bytes of RTCM fits an entry of LEN slots (R170, R181). -/
def State.corrFits (s : State) (p rate len n : Nat) : Bool :=
  decide (s.portUs p rate (30 + n) + 10 ≤ len * 125 ∧ 30 + n ≤ 1536)

/-- The whole messages from the front that fit behind `n` bytes, and the rest. -/
def takeMsgs (fits : Nat → Bool) : Nat → List (List Nat) → List (List Nat) × List (List Nat)
  | _, [] => ([], [])
  | n, m :: r =>
    if fits (n + m.length) then
      let (a, b) := takeMsgs fits (n + m.length) r
      (m :: a, b)
    else ([], m :: r)

/-- A CORR entry (R146, R192): nothing below CENTIMETRE; lost to the Headgate, or one frame of the epoch partly on air, else
of the newest that is ready. -/
def execCorrEntry (p i : Nat) (s : State) : Res :=
  match s.entryDue p i 3 with
  | none => .next s
  | some e =>
    let s := s.entryRun p i
    if s.preempted p then .next s
    else
      let t := s.entryAt e
      let s := s.corrAge p t
      if s.level ≠ 3 ∨ ¬ s.maySend p then .next s
      else
        let l := nth [] s.rtk.corr p
        match l.find? fun x => x.begun || decide (x.built + 200000 ≤ t) with
        | none => .next s
        | some x =>
          let fits := s.corrFits p (slRate e) (slLen e)
          let small := x.msgs.filter fun m => fits m.length
          let s := if small.length < x.msgs.length then s.inc C.SLUICE_CORR_TOO_BIG p (x.msgs.length - small.length) else s
          let (now, rest) := takeMsgs fits 0 small
          let l' := if rest = [] then l.filter fun y => y.seq ≠ x.seq else l.map fun y => if y.seq = x.seq then { x with msgs := rest, begun := true } else y
          let s : State := { s with rtk := { s.rtk with corr := setNth s.rtk.corr p l' } }
          if now = [] then .next s
          else
            let b := now.flatten
            let s := s.sendZone p 5 (slRate e) (toBytes 2 x.seq ++ [now.length, b2n (decide (rest = []))] ++ b)
            .next (s.inc C.CORR_OUT_BYTES_AIR 0 b.length)

end Sys2Proof.Machine
end

