-- ==== Sys2Proof/Machine/Headgate.lean ====
section
/-! DEFINITION. The Headgate's commands: inputs, discrepancy, stop requests, stop frames, its beacons, the site-wide stop, the
two-step resume, diagnostics and its power-on reset (R288 to R308). -/
namespace Sys2Proof.Machine
open Sys2Proof

/-- The filter time F of R290, ps: the larger of 64 µs and IN_TP_MAX + 16 µs. -/
def State.filterTime (s : State) : Nat := us (max 64 (s.get F.HG_CFG_IN_TP_MAX + 16))

/-- A level of ESTOP_A_N (0), ESTOP_B_N (1) or HOLD_N (2) has held for the filter time: the filtered state follows it
(R290). An input that becomes active raises its cause; discrepancy and the release time of the channels are timed from
the filtered states (R291, R303). -/
def execStopInputFiltered (input : Nat) (active : Bool) (s : State) : Res :=
  if 3 ≤ input ∨ !s.sup.vddGate then .next s
  else
    let m := 2 ^ input
    let f := s.get F.PINS_FILTERED
    let upd := fun (x : Nat) => if active then Nat.lor x m else Nat.land x (7 - m)
    let s := s.set F.PINS_RAW (upd (s.get F.PINS_RAW))
    if bit f input = active then .next s
    else
      let s := s.set F.PINS_FILTERED (upd f)
      let f := upd f
      let differ := decide (bits f 0 1 ≠ bits f 1 1)
      let disc := if differ then (match s.hg.discAt with | some t => some t | none => some s.now) else none
      let clear := if bits f 0 2 = 0 then (match s.hg.estopClearAt with | some t => some t | none => some s.now) else none
      let s : State := { s with hg := { s.hg with discAt := disc, discRaised := s.hg.discRaised && differ, estopClearAt := clear } }
      let s := if active then
          (if input = 2 then s.raiseCause rsHOLDPIN 1 else s.raiseCause rsESTOP (s.get F.HG_CFG_ESTOP_CLASS))
        else s
      .next s.armCheck

/-- The two ESTOP channels have differed after filtering for 20 ms without a break (R291). -/
def execDiscrepancy (s : State) : Res :=
  match s.hg.discAt with
  | none => .next s
  | some t =>
    if s.hg.discRaised ∨ s.now < t + ms 20 then .next s
    else
      let s : State := { s with hg := { s.hg with discRaised := true } }
      let s := (s.inc C.HEADGATE_DISCREPANCIES).irq pHG I.HEADGATE_DISCREPANCY
      .next (s.raiseCause rsDISCREPANCY (s.get F.HG_CFG_ESTOP_CLASS))

/-- The highest class that STOP_REQ asks for: bit 0 HOLD, 1 STOP, 2 HALT. -/
def reqClass (req : Nat) : Nat := if bit req 2 then 3 else if bit req 1 then 2 else if bit req 0 then 1 else 0

/-- The cause that a source's STOP_REQ raises (R288, R293); JTAG's is SUPERVISOR, as the DEBUG block's is (R445; DESIGN CHOICE, log entry 31). -/
def Src.stopReason : Src → Nat
  | .host | .bar2 _ => rsHOST
  | .sup => rsSUP
  | .jtag => rsSUP
  | .core _ => rsALLOT

/-- A write of STOP_REQ raises the source's cause at the highest requested class; the register reads 0 (R293). -/
def execStopReq (src : Src) (req : Nat) (s : State) : Res :=
  if s.jtagBars src pHG true then .next s else .next (s.raiseCause src.stopReason (reqClass req))

/-! ### Stop frames -/

/-- Short address of port An: BCAST, the zone, 0x1FC + n (R9, R178). -/
def State.portAddr (s : State) (p : Nat) : Nat := 0x8000 + s.number * 0x200 + 0x1FC + p
/-- Short address of all members of the zone (R178). -/
def State.allMembers (s : State) : Nat := 0x8000 + s.number * 0x200

/-- Duration of a burst frame, µs, by channel spacing and rate code (R296). -/
def burstUs (spacing rate : Nat) : Nat :=
  nth 256 (nth [] [[256, 208, 176, 144, 128, 112], [128, 104, 88, 72, 64, 56], [64, 52, 44, 36, 32, 28]] spacing) rate

/-- The number of a slot boundary: 125 µs slots counted in fleet time. -/
def State.slotNow (s : State) : Nat := s.fleetNs / 125000

/-- Frame `k` of the set of a class (R294). -/
def State.stopFrame (s : State) (p cls k : Nat) : AirFrame :=
  let (fc, sq) := s.setNumbers p cls k
  { typ := 8, dst := s.allMembers, src := s.portAddr p, seq := sq, keyId := 1, kgen := s.hg.keyGen, fcnt := fc % 2 ^ 32,
    rate := s.get F.HG_CFG_STOP_RATE,
    body := [cls, s.get F.HG_STATE_STOP_SEQ, k / 3 + k % 3 * 4, 0] }

/-- The set is done on a port: its sets are rebuilt above its counters, and the path returns to the slot engine TX_LAG after the last frame (R295,
R297). -/
def State.endBurst (s : State) (p : Nat) (b : Burst) (lastSlot : Nat) : State :=
  let s := s.inc C.SLUICE_SLOTS_PREEMPTED p (lastSlot - b.first.getD lastSlot)
  let s := (s.rebuildSets p).dropBurst p
  s.setPort p { s.port p with heldAt := some s.fleetNs, hgEnd := (s.port p).txEnd + s.tenths F.STROBE_T1_TX_LAG p }

/-- LAST_STOP: µs from the cause to the first frame on the first port (R301). -/
def State.noteFirstFrame (s : State) : State :=
  match s.hg.raisedAt with
  | none => s
  | some t =>
    let d := min ((s.now - t) / 1000000) 0xFFFF
    let s : State := { s with hg := { s.hg with raisedAt := none } }
    (s.set F.LAST_STOP_LAST d).set F.LAST_STOP_WORST (max d (s.get F.LAST_STOP_WORST))

/-- The burst of a port moves past frame `k`, which lasts `slots` slots from `slot` (R297). -/
def State.stepBurst (s : State) (p : Nat) (b : Burst) (slot slots : Nat) : State :=
  let s0 := b.s0.getD slot
  let next := b.next + 1
  let b' : Burst := { b with next := next, s0 := some s0, at_ := if next % 3 = 0 then s0 + 16 * (next / 3) else slot + slots,
                             first := some (b.first.getD slot) }
  if 9 ≤ next then s.endBurst p b' (slot + slots)
  else { s with hg := { s.hg with bursts := setNth s.hg.bursts p (some b') } }

/-- One port's turn at a slot boundary: with the path held and the key loaded its next frame goes, where it is due
(R295, R297); without the key the frame cannot be sent, and NO_KEY counts it (R308). -/
def State.burstPort (s : State) (p : Nat) : State :=
  match nth none s.hg.bursts p with
  | none => s
  | some b =>
    if s.get F.ROOT_STATUS_ROOT_LOCK = 0 ∨ s.get F.PORT_STATUS_TX_SRC p = 0 ∨ s.slotNow < b.at_ ∨ s.now < (s.port p).txEnd ∨ ¬ (s.isOn .airport p ∨ s.st ⟨.airport, p⟩ = stStopping) then s
    else
      let slots := (burstUs (s.get F.PORT_CFG_SPACING p) (s.get F.HG_CFG_STOP_RATE) + 124) / 125
      if s.hg.key.isNone then (s.inc C.HEADGATE_NO_KEY).stepBurst p b s.slotNow slots else
      let f := s.stopFrame p b.cls b.next
      let s := ((s.airEmit p true (s.sealFrame (s.hg.key.getD 0) f)).ppduTx p f.rate f.psdu).inc C.HEADGATE_FRAMES_TX |>.useSet p b.cls
      -- motion follows the class from the first stop frame on the port (R285)
      let s := if b.next = 0 then s.setPort p { s.port p with stopAt := some s.fleetNs } else s
      (s.noteFirstFrame).stepBurst p b s.slotNow slots

/-- At a slot boundary the Headgate sends the next frame of its burst set on every port (R297). -/
def execBurstFrame (s : State) : Res := .next (s.each (List.range 4) State.burstPort)

/-! ### Beacons -/

/-- The beacon that the Headgate builds for the boundary `b` of a port: live fields while the source block is ON, the
latched ones otherwise (R182, R299). -/
def State.hgBeaconBody (s : State) (p b : Nat) : List Nat :=
  let sl := s.isOn .sluice 0
  let l := nth {} s.hg.latch p
  let sfn := if sl then (s.get F.SFN + 1) % 2 ^ 32 else (l.sfn + 1) % 2 ^ 32
  let tq := if s.isOn .time then s.get F.TIME_STATUS_TQ else 14
  let lvl := if s.isOn .fault then s.get F.SVC_STATUS_LEVEL else 0
  let swapNow := decide (l.nextEpoch ≠ 0) && decide (sfn = l.swapSfn)
  toBytes 4 sfn ++ toBytes 6 (b / 1000000000) ++ toBytes 4 (b % 1000000000) ++ [tq + lvl * 16 + l.sfCode * 64]
    ++ [if s.isOn .time then s.get F.TIME_STATUS_EPOCH else l.epoch]
    ++ [s.get F.HG_STATE_CLASS + s.get F.HG_STATE_REASON * 4, if swapNow then l.nextEpoch else l.bankEpoch,
        if swapNow then 0 else l.nextEpoch, l.missLimit + l.ackRate * 16]
    ++ toBytes 4 (if swapNow then 0 else l.swapSfn) ++ toBytes 4 (l.zoneId + p * 2 ^ 14) ++ [0, l.driftPpm, 0, 0]

/-- The rate of the BEACON entry, or the one last known where SLUICE is not ON. -/
def State.hgRate (s : State) (p : Nat) : Nat :=
  if s.isOn .sluice p then slRate ((s.beaconEntry p).getD 0) else (nth {} s.hg.latch p).rate

/-- 200 µs before a boundary, with CLASS not NONE and no beacon posted by the slot engine, the Headgate sends the
beacon of an ON port, at the rate of the BEACON entry (R299). -/
def execHgBeacon (port : Nat) (s : State) : Res :=
  let b := s.air.nextB
  if 4 ≤ port ∨ s.get F.ROOT_STATUS_ROOT_LOCK = 0 ∨ s.get F.HG_STATE_CLASS = 0 ∨ ¬ s.isOn .airport port ∨ s.enginePosts port b ∨
     s.fleetNs + 200000 < b ∨ b + 10000 < s.fleetNs ∨ nth false s.air.hgSent port ∨ s.momentOf b < (s.port port).txEnd then .next s
  else if s.hg.key.isNone then .next (s.inc C.HEADGATE_NO_KEY)
  else
    let body := s.hgBeaconBody port b
    let (fc, sq, s) := s.takeNums port
    let f : AirFrame := { typ := 0, dst := s.allMembers, src := s.portAddr port, seq := sq, keyId := 1, kgen := s.hg.keyGen,
                          fcnt := fc, rate := s.hgRate port, body := body }
    let s := ((s.airEmit port true (s.sealFrame (s.hg.key.getD 0) f)).ppduAt port (s.momentOf b) f.rate f.psdu).inc C.HEADGATE_BEACONS_TX
    .next { s with air := { s.air with hgSent := setNth s.air.hgSent port true } }

/-! ### Keys -/

/-- The zone key of generation in force: KEYSTORE slot 8 (chapter 20) holds it while its attributes show a key. -/
def State.zoneKeyHeld (s : State) : Bool := decide (bits (s.te ⟨.keystore, 0⟩ 0 8) 0 8 ≠ 0)

/-- KEYSTORE, while ON and holding a zone key, loads the Headgate's copy; every set is rebuilt (R295, R308). -/
def State.hgLoadKey (s : State) (key : Nat) : State :=
  let s : State := { s with hg := { s.hg with key := some key, keyGen := s.get F.SEC_STATUS_KGEN_CUR } }
  let s := s.set F.HG_STATE_KEY_OK 1
  s.each (List.range 4) fun s p => s.rebuildSets p

/-! ### The site -/

/-- A Canal STOP message of an origin's unit (R300, R372): dropped when its MSEQ has been seen, or when among the last 8 pairs;
otherwise it raises REMOTE with SITE_RX, and is forwarded out of the other port unless the origin is this chip or the next hop. -/
def State.stopRx (s : State) (port unit mseq : Nat) (m : StopMsg) : State :=
  let (dup, s) := s.canalHeard m.origin unit 0 mseq
  if dup then s.inc C.CANAL_DUP_DROP
  else if s.hg.seen.contains (m.origin, m.seq) then s
  else
    let s : State := { s with hg := { s.hg with seen := lastN 8 (s.hg.seen ++ [(m.origin, m.seq)]) } }
    let s := s.inc C.HEADGATE_REMOTE_RX
    let s := if s.get F.HG_CFG_SITE_RX = 1 ∧ m.cls ≠ 0 then s.raiseCause rsREMOTE m.cls else s
    let other := 1 - port
    if m.origin = s.number ∨ 2 ≤ port ∨ ¬ s.canalUp other ∨
        (s.get F.CPORT_STATUS_NB_NUMBERED other = 1 ∧ s.get F.CPORT_STATUS_NEIGHBOUR other = m.origin) then s
    else s.canalOut other ⟨none, 0, m.origin, unit, mseq, m.hops + 1, decide (port = 0), .stop { m with hops := m.hops + 1 }⟩

/-- A Canal STOP message arrives. -/
def execCanalStopRx (port unit mseq : Nat) (m : StopMsg) (s : State) : Res := .next (s.stopRx port unit mseq m)

/-! ### Outputs and diagnostics -/

/-- An output's test pulse is due (R292): output A's once per second, output B's 500 ms after it. -/
def State.pulseDue (s : State) (outB : Bool) : Bool :=
  match s.hg.pulseAt with
  | none => !outB
  | some t => if outB then !s.hg.pulsedB && decide (t + ms 500 ≤ s.now) else decide (t + sec 1 ≤ s.now)

/-- With OUT_PULSE_EN an output that is driven high is pulsed low for 300 µs once per second (R292). -/
def execOutputTestPulse (outB : Bool) (s : State) : Res :=
  let high := if outB then s.hg.outB else s.hg.outA
  let name := if outB then "STOP_OUT_B" else "STOP_OUT_A"
  if s.get F.HG_CFG_OUT_PULSE_EN = 0 ∨ !s.pulseDue outB then .next s
  else
    let s : State := { s with hg := if outB then { s.hg with pulsedB := true } else { s.hg with pulseAt := some s.now, pulsedB := false } }
    .next (if high then (s.emit (.pin name false)).emit (.pin name true) else s)

/-- A STOP output ball that reads other than driven for 2 µs is a READBACK error, and GATE_FAULT with it (R292, R306,
R307). -/
def execOutputReadbackError (outB : Bool) (s : State) : Res :=
  let s := s.set F.PINS_OUT_RB (Nat.xor (b2n s.hg.outA + 2 * b2n s.hg.outB) (if outB then 2 else 1))
  .next (s.blockError pHG 0xFF 2 0x02 0 0 0)

/-! ### Resume -/

/-- Both ESTOP channels inactive together after filtering for 1 s, and HOLD inactive (R303). -/
def State.pinsClear (s : State) : Bool :=
  decide (s.get F.PINS_FILTERED = 0) && (match s.hg.estopClearAt with | some t => decide (t + sec 1 ≤ s.now) | none => false)

/-- A refused resume step (R304). -/
def State.resumeRefused (s : State) (result : Nat) : State :=
  ((s.set F.RESUME_STATUS_RESULT result).inc C.HEADGATE_RESUME_REFUSED).irq pHG I.HEADGATE_RESUME

/-- An ARM token (R303): with its conditions met it opens a window of 5,000 ms. The code of a refusal for CLASS NONE is
not stated: a free value. -/
def State.resumeArm (s : State) : State :=
  if s.get F.HG_STATE_CLASS = 0 then
    let (v, s) := s.free
    s.resumeRefused (v % 16)
  else if !s.pinsClear then s.resumeRefused 3
  else if s.get F.HG_STATE_GATE_FAULT = 1 ∨ s.get F.SVC_STATUS_LEVEL = 0 then s.resumeRefused 4
  else
    let s : State := { s with hg := { s.hg with armedAt := some s.now } }
    let s := (s.set F.HG_STATE_ARMED 1).set F.RESUME_STATUS_ARM_TAG ((s.get F.RESUME_STATUS_ARM_TAG + 1) % 256)
    (s.set F.RESUME_STATUS_RESULT 1).set F.RESUME_STATUS_ARM_LEFT 5000

/-- An ARM token arms the resume (R303). -/
def execResumeArm (s : State) : Res := .next s.resumeArm

/-- What a RELEASE does once accepted: every cause is cleared, RELEASED is shown, the partner follows (R304, R396). -/
def State.released (s : State) : State :=
  let s : State := { s with hg := { s.hg with armedAt := none } }
  let s := ((s.set F.HG_STATE_ARMED 0).set F.RESUME_STATUS_RESULT 2).set F.RESUME_STATUS_ARM_LEFT 0
  let s := (s.inc C.HEADGATE_RESUMES).clearCauses
  if s.get F.PAIR_STATUS_STATE = 4 then s.sendStopState 0 0 else s

/-- A FULL session without LIVE on a served zone in DEPLOYED holds the fleet: the SUPERVISOR cause at class HOLD, again
after any RELEASE (R445). A zone is served while a port is SERVING and a member is joined. -/
def State.debugHold (s : State) : State :=
  let served := (List.range 4).any (fun p => decide (s.get F.PORT_STATUS_SVC p = 2)) && decide (0 < s.get F.REG_STATUS_JOINED)
  if s.get F.LC_STATUS_STATE = 2 ∧ s.get F.DBG_STATUS_LEVEL = 2 ∧ ¬ bit (s.get F.DBG_STATUS_GRANTS) 0 ∧ served ∧
     ¬ bit (s.get F.CAUSES_HELD) (rsSUP - 1) then s.raiseCause rsSUP 1 else s

/-- A RELEASE token (R304). -/
def State.resumeRelease (s : State) (tag : Nat) : State :=
  match s.hg.armedAt with
  | none => s.resumeRefused 5
  | some t =>
    if t + ms 5000 ≤ s.now then (s.disarm 9).resumeRefused 9
    else if tag ≠ s.get F.RESUME_STATUS_ARM_TAG then s.resumeRefused 6
    else if s.get F.TIME_STATUS_STEP_PEND = 1 then s.resumeRefused 7
    else if !s.pinsClear ∨ s.get F.HG_STATE_GATE_FAULT = 1 ∨ s.get F.SVC_STATUS_LEVEL = 0 then s.resumeRefused 4
    else s.released.debugHold

/-- A RELEASE token with the current ARM_TAG clears every cause (R304). -/
def execResumeRelease (tag : Nat) (s : State) : Res := .next (s.resumeRelease tag)

/-- The resume window ends without a RELEASE (R304). -/
def execArmWindowExpiry (s : State) : Res :=
  match s.hg.armedAt with
  | some t => if t + ms 5000 ≤ s.now then .next (s.disarm 9) else .next s
  | none => .next s

/-- Every 10 s the Headgate tests its sequencer and frame memory (R307). -/
def execHgSelftest (ok : Bool) (s : State) : Res :=
  if s.now < s.hg.selfTestAt + sec 10 ∨ !s.sup.vddGate then .next s
  else
    let s : State := { s with hg := { s.hg with selfTestAt := s.now } }
    let s := s.inc C.HEADGATE_SELFTEST_RUNS
    .next (if ok then s else s.blockError pHG 0xFF 2 0x01 0 0 0)

/-- The Headgate leaves its VDD_GATE power-on reset: its registers and counters are as reset, CLASS STOP with POWER_ON,
both outputs low, no key; after its self-test it is ON (R41, R308). -/
def execHgPowerOn (ok : Bool) (s : State) : Res :=
  let s : State := { s with regs := AMap.clearRange s.regs pHG.base (pHG.base + 0x1000),
                            ctrs := AMap.clearRange s.ctrs pHG.base (pHG.base + 0x1000),
                            sup := { s.sup with vddGate := true } }
  let s : State := { s with hg := { estopClearAt := some s.now, selfTestAt := s.now } }
  let s := (s.inc C.HEADGATE_SELFTEST_RUNS).goState pHG stStarting
  let s := s.goState pHG stOn
  .next (if ok then s else s.blockError pHG 0xFF 2 0x01 0 0 0)

/-- KEYSTORE loads the Headgate's key copy while it is ON and holds a zone key (R295, R308). -/
def execHgKeyLoad (s : State) : Res :=
  if s.isOn .keystore ∧ s.zoneKeyHeld ∧ s.sup.vddGate then .next (s.hgLoadKey (s.te ⟨.keystore, 0⟩ 8 8)) else .next s

end Sys2Proof.Machine
end

