-- ==== Sys2Proof/Machine/RouteOps.lean ====
section
/-! DEFINITION. The route table: entries, banks, lookups, inserts, moves between banks, the shadow and LEARNs (R212 to R223),
and the seen cache (R225). -/
namespace Sys2Proof.Machine
open Sys2Proof

/-- The ROUTE page. -/
abbrev pRT : Page := ⟨.route, 0⟩
/-- The FLOOD page. -/
abbrev pFLOOD : Page := ⟨.flood, 0⟩

/-! ### Entries (R213) -/
/-- KEY. -/
def RT.key : EF := ef 0 4
/-- PLEN; 0 in a free entry. -/
def RT.plen : EF := ef 4 1
/-- TARGET: 0 AIR, 1 CHIP, 2 LOCAL, 3 DISCARD. -/
def RT.target : EF := ⟨5, 0, 2⟩
/-- PORT. -/
def RT.port : EF := ⟨5, 2, 2⟩
/-- NEXT. -/
def RT.next : EF := ⟨6, 0, 9⟩
/-- HOPS. -/
def RT.hops : EF := ef 8 1
/-- STATIC. -/
def RT.static : EF := ⟨9, 0, 1⟩
/-- LEARNED. -/
def RT.learned : EF := ⟨9, 1, 1⟩
/-- ROAMED. -/
def RT.roamed : EF := ⟨9, 2, 1⟩
/-- METRIC. -/
def RT.metric : EF := ef 10 2
/-- AGE. -/
def RT.age : EF := ef 12 2
/-- LTIME. -/
def RT.ltime : EF := ef 14 2

/-- An entry. -/
def State.route (s : State) (i : Nat) : Nat := s.te pRT 0 i
/-- The valid entries, by index. -/
def State.routes (s : State) : List Nat := (s.teListed pRT 0).filter fun i => decide (i < 4096 ∧ RT.plen.get (s.route i) ≠ 0)

/-! ### Banks (R212, R218) -/

/-- The byte of BANK_MAP of a bank. -/
def State.bankByte (s : State) (b : Nat) : Nat := bits (s.get F.BANK_MAP_W 0 (b / 4)) (8 * (b % 4)) 8
/-- A bank out of the pool. -/
def State.bankGone (s : State) (b : Nat) : Bool := bit (s.bankByte b) 7
/-- The prefix length of a bank; none for a spare or removed one. -/
def State.bankPlen (s : State) (b : Nat) : Option Nat :=
  let x := s.bankByte b
  if bit x 7 ∨ x % 64 = 0x3F ∨ 32 ≤ b then none else some (x % 64)
/-- The state with the byte of a bank replaced. -/
def State.setBank (s : State) (b v : Nat) : State :=
  s.set F.BANK_MAP_W (setBits (s.get F.BANK_MAP_W 0 (b / 4)) (8 * (b % 4)) 8 v) 0 (b / 4)

/-- A key cut to its prefix. -/
def prefixOf (key plen : Nat) : Nat := key / 2 ^ (32 - plen) * 2 ^ (32 - plen)

/-- The lowest valid entry of a key and length. -/
def State.routeFind (s : State) (key plen : Nat) : Option Nat :=
  s.routes.find? fun i => decide (RT.plen.get (s.route i) = plen ∧ RT.key.get (s.route i) = prefixOf key plen)

/-- A free entry of a length among banks: the lowest, of the lowest bank. -/
def State.routeFreeIn (s : State) (banks : List Nat) : Option Nat :=
  (banks.flatMap fun b => (List.range 128).map fun k => b * 128 + k).find? fun i => decide (RT.plen.get (s.route i) = 0)

/-- The banks of a length. -/
def State.banksOf (s : State) (plen : Nat) : List Nat := (List.range 32).filter fun b => decide (s.bankPlen b = some plen)

/-! ### The shadow (R221, R222) -/

/-- The place of the shadow that R221 asks for: the second 64 KiB of the partner checkpoint partition. -/
def State.shadowPlaced (s : State) (base : Nat) : Bool :=
  decide (base = s.get F.PART_BASE_BASE 0 1 * 16 + 1 ∧ 1 ≤ s.get F.PART_SIZE_SIZE 0 1)

/-- Changes are written through to the shadow. -/
def State.shadowed (s : State) : Bool :=
  decide (s.get F.RT_CFG_MODE = 1) && s.shadowPlaced (s.get F.SHADOW_BASE) && s.isOn .dram

/-- Offset of the shadow of an entry. -/
def State.shadowAt (s : State) (i : Nat) : Nat := s.get F.SHADOW_BASE % 65536 * 65536 + 16 * i

/-- `n` bytes of the usable DRAM space. -/
def State.dramBytes (s : State) (off n : Nat) : List Nat :=
  (List.range n).map fun k => (AMap.get (fun _ => (0 : Byte)) s.dram (off + k)).toNat

/-- The shadow of an entry. -/
def State.shadow (s : State) (i : Nat) : Nat := ofBytes (s.dramBytes (s.shadowAt i) 16)

/-- RT_STATUS.VALID. -/
def State.routeShow (s : State) : State := s.set F.RT_STATUS_VALID s.routes.length

/-- An entry changes, and its shadow with it. -/
def State.setRoute (s : State) (i v : Nat) : State :=
  let s := s.setTe pRT 0 i v
  let s := if s.shadowed then s.dramWrite (s.shadowAt i) (toBytes 16 v) else s
  s.routeShow

/-- AGE of an entry; it is no change that a checkpoint or the shadow carries. -/
def State.setAge (s : State) (i v : Nat) : State :=
  { s with tbl := AMap.set tblReset s.tbl (pRT.tblKey 0 i) (RT.age.set (s.route i) v) }

/-! ### Lookup (R214) -/

/-- The valid entry of greatest length that matches an address, the lowest among equals. -/
def State.routeMatch (s : State) (addr : Nat) : Option Nat :=
  let hit := s.routes.filter fun i => decide (RT.key.get (s.route i) = prefixOf addr (RT.plen.get (s.route i)))
  hit.foldl (fun (best : Option Nat) i => match best with
    | some b => if RT.plen.get (s.route b) < RT.plen.get (s.route i) then some i else some b
    | none => some i) none

/-- Where a lookup sends a frame. -/
inductive Way where
  | air (port next hops : Nat)
  | chip (n : Nat)
  | local_ (m : Nat)
  | drop
  deriving DecidableEq, Repr

/-- Member index of a fleet address. -/
def memberOf (addr : Nat) : Nat := bits addr 9 9

/-- The outcome of a TARGET. -/
def wayOf (target port next hops addr : Nat) (roamed : Bool) : Way := match target with
  | 0 => .air port (next % 512) hops
  | 1 => .chip (next % 64)
  | 2 => .local_ (if roamed then next % 512 else memberOf addr)
  | _ => .drop

/-- A lookup, which is a hit on the entry it selects. -/
def State.routeLookup (s : State) (addr : Nat) : Way × State :=
  let s := s.inc C.ROUTE_LOOKUPS
  match s.routeMatch addr with
  | some i =>
    let e := s.route i
    (wayOf (RT.target.get e) (RT.port.get e) (RT.next.get e) (RT.hops.get e) addr (decide (RT.roamed.get e = 1)),
     (s.inc C.ROUTE_HITS).setAge i 0)
  | none =>
    let t := s.get F.DEFAULT_ROUTE_TARGET
    (wayOf (t % 4) (t / 4 % 4) (s.get F.DEFAULT_ROUTE_NEXT) 0 addr false, s)

/-- The address lies in this zone. -/
def State.ownAddr (s : State) (addr : Nat) : Bool := decide (addr / 2 ^ 18 = s.addrOf 0 / 2 ^ 18)

/-- Where a frame for an address goes; a member of this zone that the registry does not hold is no destination. While ROUTE
is not ON nothing is looked up: a member of this zone is reached direct. -/
def State.wayTo (s : State) (addr : Nat) : Way × State :=
  if s.ownAddr addr ∧ s.mget (memberOf addr) RG.rstate = 0 then (.drop, s.inc C.ROUTE_NO_ROUTE)
  else if ¬ s.isOn .route then (if s.ownAddr addr then (.local_ (memberOf addr), s) else (.drop, s))
  else match s.routeLookup addr with
    | (.drop, s) => (.drop, s.inc C.ROUTE_NO_ROUTE)
    | x => x

/-! ### Inserts (R217) -/

/-- A new entry, by the rules of INSERT but for its errors: its index, or none where no bank of its length has room. -/
def State.routeInsert (s : State) (e : Nat) : Option Nat × State :=
  match s.routeFreeIn (s.banksOf (RT.plen.get e)) with
  | some i => (some i, s.setRoute i (RT.age.set e 0))
  | none => (none, s)

/-- An entry of the given fields. -/
def mkRoute (key plen target port next hops flags metric ltime : Nat) : Nat :=
  ofBytes (toBytes 4 (prefixOf key plen) ++ [plen, target + port * 4] ++ toBytes 2 next ++ [hops, flags] ++ toBytes 2 metric ++ [0, 0] ++
    toBytes 2 ltime)

/-- An entry of a key and length is made or replaced. -/
def State.routePut (s : State) (e : Nat) : State :=
  match s.routeFind (RT.key.get e) (RT.plen.get e) with
  | some i => s.setRoute i e
  | none => (s.routeInsert e).2

/-! ### REPACK (R217, R218) -/

/-- The banks of each length hold what they must under a new map. -/
def State.repackFits (s : State) (lens : List Nat) : Bool :=
  (List.range 32).all fun k =>
    let plen := k + 1
    let n := (s.routes.filter fun i => decide (RT.plen.get (s.route i) = plen)).length
    decide (n ≤ 128 * ((List.range 32).filter fun b => !s.bankGone b && decide (nth 0 lens b = plen)).length)

/-- One entry moves out of a bank that changes length. -/
def State.moveRoute (s : State) (e : Nat) : State := (s.routeInsert e).2

/-- The moves and the new map, as one change: every lookup finds the entry throughout. -/
def State.repackNow (s : State) (lens : List Nat) : State :=
  let changed := (List.range 32).filter fun b => !s.bankGone b && decide (s.bankPlen b ≠ (if nth 0 lens b = 0 then none else some (nth 0 lens b)))
  let idx := s.routes.filter fun i => changed.contains (i / 128)
  let moved := idx.map fun i => (s.route i)
  let ages := moved
  let s := s.each idx fun s i => s.setRoute i 0
  let s := s.each changed fun s b => s.setBank b (let l := nth 0 lens b; if l = 0 then 0x3F else l % 64)
  s.each ages fun s e => match s.routeFreeIn (s.banksOf (RT.plen.get e)) with
    | some i => s.setRoute i e
    | none => s

/-- Learned entries with the greatest AGE first, STATIC ones last: the order in which entries are given up (R218). -/
def insLoss (e : Nat) : List Nat → List Nat
  | [] => [e]
  | y :: r =>
    let k := fun (x : Nat) => if RT.static.get x = 1 then 0 else 1 + RT.age.get x
    if k e ≤ k y then e :: y :: r else y :: insLoss e r

/-- A bank is removed (R13, R218): its length takes a spare bank, its entries come back from the shadow in SHADOW mode, and
what does not fit is dropped. Entries that need room are placed the most lasting first. -/
def State.bankLost (s : State) (b : Nat) : State :=
  let old := s.bankPlen b
  let shadow := decide (s.get F.RT_STATUS_MODE_NOW = 1)
  let idx := s.routes.filter fun i => i / 128 = b
  let back := if shadow then (idx.map fun i => s.shadow i).filter fun e => decide (RT.plen.get e ≠ 0) else []
  let s := s.each idx fun s i => s.setRoute i 0
  let s := s.setBank b (s.bankByte b % 128 + 128)
  let s := match old with
    | none => s
    | some l => match (List.range 32).find? fun k => decide (s.bankByte k = 0x3F) with
      | some k => s.setBank k l
      | none => s
  let s := s.each (back.foldr insLoss []) fun s e => (s.routeInsert e).2
  let lost := idx.length - (back.filter fun e => (s.routeFind (RT.key.get e) (RT.plen.get e)).isSome).length
  s.notice pRT I.ROUTE_BANK_LOST lost b

/-! ### Operations of table 0 (R217) -/

/-- INSERT. -/
def State.routeOpInsert (s : State) (key : List Nat) (data : Nat) : State × TRes :=
  let plen := nth 0 key 1 % 64
  let k := nth 0 key 0
  if plen = 0 ∨ 32 < plen then (s, { err := 0x10 })
  else if (s.routeFind k plen).isSome then (s, { err := 0x02 })
  else
    let e := RT.ltime.set (RT.age.set (RT.plen.set (RT.key.set (data % 2 ^ 128) (prefixOf k plen)) plen) 0) (RT.ltime.get data)
    match s.routeInsert e with
    | (some i, s) => (s, { index := some i })
    | (none, s) => (s, { err := 0x03 })

/-- DELETE by key where one is given, else by index (R49). -/
def State.routeOpDelete (s : State) (idx : Nat) (key : List Nat) : State × TRes :=
  let plen := nth 0 key 1 % 64
  let at_ := if plen ≠ 0 then s.routeFind (nth 0 key 0) plen
    else if idx < 4096 ∧ RT.plen.get (s.route idx) ≠ 0 then some idx else none
  match at_ with
  | some i => (s.setRoute i 0, {})
  | none => (s, { err := if plen = 0 ∧ 4096 ≤ idx then 0x04 else 0x01 })

/-- LOOKUP of an address: the entry that would be selected, without a hit (R214). -/
def State.routeOpLookup (s : State) (key : List Nat) : TRes :=
  match s.routeMatch (nth 0 key 0) with
  | some i => { index := some i, data := some (s.route i) }
  | none => { err := 0x01 }

/-- One operation of table 0, by its opcode. -/
def State.routeOp (s : State) (opcode idx : Nat) (key : List Nat) (data : Nat) : State × TRes := match opcode with
  | 0 => (s, if 4096 ≤ idx then { err := 0x04 } else if RT.plen.get (s.route idx) = 0 then { err := 0x01 } else { index := some idx, data := some (s.route idx) })
  | 2 => s.routeOpInsert key data
  | 3 => s.routeOpDelete idx key
  | 4 => (s, s.routeOpLookup key)
  | 5 => (s, match s.routes.find? fun i => decide (idx < i) with
    | some i => { index := some i, data := some (s.route i) }
    | none => { err := 0x01 })
  | _ => (s, { err := 0x05 })

/-- Operations that arrive during a REPACK are held and applied after it, in order. -/
def State.routeTbl (opcode idx : Nat) : TFn := fun s key data =>
  if s.rt.repack.isSome then (s, none) else let (s, r) := s.routeOp opcode idx key data; (s, some r)

/-! ### LEARN and offers (R215, R219, R220) -/

/-- A LEARN goes to every other chip (R219). -/
def State.sendLearn (s : State) (m : LearnMsg) : State :=
  if s.get F.RT_CFG_LEARN_TX = 0 ∨ ¬ s.isOn .route then s else (s.canalBroadcast (.learn m)).inc C.ROUTE_LEARN_TX

/-- A relayed frame offers a route for its originator (R215): `m` the member, `hop` the hop's sender. -/
def State.offerRoute (s : State) (m port hop hops snr : Nat) : State :=
  if s.get F.RT_CFG_LEARN_EN = 0 ∨ ¬ s.isOn .route then s
  else
    let a := s.addrOf m
    let metric := 256 * hops + 255 - min 255 snr
    let e := mkRoute a 23 0 port hop hops 2 metric 0
    let tell := fun (s : State) => s.sendLearn ⟨a, 0, s.fleetMs % 2 ^ 32, s.number, 2, hops⟩
    match s.routeFind a 23 with
    | some i =>
      let x := s.route i
      if RT.target.get x = 0 ∧ RT.port.get x = port ∧ RT.next.get x = hop ∧ RT.hops.get x = hops then s.setAge i 0
      else if metric + s.get F.RT_CFG_METRIC_HYST ≤ RT.metric.get x ∨ 2 ≤ RT.age.get x then tell (s.setRoute i e)
      else s
    | none => match s.routeInsert e with
      | (some _, s) => s
      | (none, s) => (s.inc C.ROUTE_LEARN_NO_ROOM).irq pRT I.ROUTE_NO_ROOM

/-- The entry that a LEARN asks for may take the place of the present one (R220). -/
def learnNewer (e ltime chip : Nat) : Bool :=
  RT.learned.get e = 1 && (later ltime (RT.ltime.get e) 16 ||
    (decide (RT.ltime.get e = ltime) && (decide (RT.target.get e = 1 ∧ chip < RT.next.get e % 64))))

/-- A /32 entry that a LEARN made or a join left is replaced or refreshed. -/
def State.learnEntry (s : State) (i e : Nat) : State :=
  let x := s.route i
  if RT.target.get x = RT.target.get e ∧ RT.next.get x = RT.next.get e ∧ RT.ltime.get x = RT.ltime.get e then s.setAge i 0
  else if learnNewer x (RT.ltime.get e) (RT.next.get e) then s.setRoute i e
  else s

/-- A LEARN whose PREV lies in this zone (R220), but for the report to the registry. -/
def State.learnRoutes (s : State) (m : LearnMsg) : State :=
  let lt := m.timeMs / 100 % 65536
  let e := mkRoute m.prev 32 1 0 (m.chip % 64) 0 2 0 lt
  let s := match s.routeFind m.prev 32 with
    | some i => s.learnEntry i e
    | none => match s.routeInsert e with
      | (some _, s) => s
      | (none, s) => (s.inc C.ROUTE_LEARN_NO_ROOM).irq pRT I.ROUTE_NO_ROOM
  let roamed := s.routes.filter fun i => decide (RT.roamed.get (s.route i) = 1 ∧ RT.target.get (s.route i) = 2 ∧ RT.next.get (s.route i) = memberOf m.prev)
  s.each roamed fun s i =>
    s.learnEntry i (RT.ltime.set (RT.roamed.set (RT.next.set (RT.target.set (s.route i) 1) (m.chip % 64)) 0) lt)

/-! ### The seen cache (R225) -/

/-- Sets of ways. -/
def seenSet (src seq : Nat) : Nat := Config.seenHash src seq % 256

/-- SEEN_STATUS.OCCUPIED. -/
def State.seenShow (s : State) : State := s.set F.SEEN_STATUS_OCCUPIED (s.rt.seen.foldl (fun n x => n + x.2.length) 0)

/-- A profile 1 frame comes (R225): a pair that is present is a duplicate and refreshed; a new one enters its set. Ways of a
removed cell hold nothing. -/
def State.floodSee (s : State) (src seq : Nat) : Bool × State :=
  let k := seenSet src seq
  let l := AMap.get (fun _ => []) s.rt.seen k
  let ways := max 1 (s.getP pFLOOD F.STATE_CELLS_LIVE)
  let same := fun (x : Nat × Nat × Nat) => decide (x.1 = src ∧ x.2.1 = seq)
  let dup := l.any same
  let s := s.inc C.FLOOD_FLOOD_RX
  let rest := l.filter fun x => !same x
  let full := !dup && decide (ways ≤ rest.length)
  let l' := (if full then rest.drop (rest.length + 1 - ways) else rest) ++ [(src, seq, s.fleetNs)]
  let s : State := { s with rt := { s.rt with seen := AMap.set (fun _ => []) s.rt.seen k l' } }
  let s := if dup then s.inc C.FLOOD_FLOOD_DUP else if full then s.inc C.FLOOD_SEEN_EVICT else s
  (dup, s.seenShow)

end Sys2Proof.Machine
end

