-- ==== Sys2Proof/Machine/Departure.lean ====
section
/-! DEFINITION. Departures and joins as the registry makes them (R264, R265), holds released by command (R266, R267). -/
namespace Sys2Proof.Machine
open Sys2Proof

/-- Kinds of the registry's work items. -/
def regJOINED : Nat := 1
/-- DEPARTED. -/
def regDEPARTED : Nat := 2

/-- Bytes 8 to 11 and 16 to 83 of a record are cleared; MEMBER_ID and GEN stay (R265). -/
def clearDeparted (e : Nat) : Nat := setBits (setBits e 64 32 0) 128 544 0

/-- A LEAVE, an EVICT or a departure frees an index (R265): GEN steps with its forfeit, the record is cleared, the lease
engine and the solver follow. -/
def State.depart (s : State) (m : Nat) : State :=
  if s.mget m RG.rstate = 0 then s
  else
    let s := (s.bump m 2).rtkReset m
    let s := s.setMember m (clearDeparted (s.member m))
    let s := ((s.inc C.REGISTRY_DEPARTS).irq pREG I.REGISTRY_DEPART).regCounts
    s.item { flow := m, src := srcREG, kind := regDEPARTED, arg := s.mget m RG.cause }

/-- The index a MEMBER_ID holds. -/
def State.indexOf (s : State) (id : Nat) : Option Nat := s.members.find? fun i => s.mget i RG.id = id

/-- The lowest FREE index. -/
def State.freeIndex (s : State) : Option Nat := (List.range 512).find? fun i => decide (s.mget i RG.rstate = 0)

/-- What of a JOIN the registry takes into a record: MEMBER_ID, PROFILE, CAPS, KGEN. -/
structure JoinRec where
  id : Nat
  profile : Nat
  caps : Nat
  kgen : Nat
  deriving DecidableEq, Repr

/-- An index takes a join (R265): a rejoin keeps the hold causes but SILENT's state ends; a join below TRACK sets LEVEL. -/
def State.takeJoin (s : State) (i : Nat) (j : JoinRec) (rejoin : Bool) : State :=
  let s := (s.bump i 1).rtkReset i
  let s := if rejoin then s.mset i RG.silent 0
    else s.setMember i ((RG.rstate.set (clearDeparted (s.member i)) 1))
  let s := (((s.mset i RG.id j.id).mset i RG.profile (b2n (decide (j.profile = 1)))).mset i RG.caps j.caps).mset i RG.kgen j.kgen
  let s := (s.mset i RG.addr (s.addrOf i)).mset i RG.joinMs (s.fleetMs % 2 ^ 32)
  let s := s.linkShow i
  let s := s.inc (if rejoin then C.REGISTRY_REJOINS else C.REGISTRY_JOINS)
  let s := if s.level < 2 then s.holdMember i 6 else s
  (s.regCounts).item { flow := i, src := srcREG, kind := regJOINED, arg := s.mget i RG.cause }

/-- The result of a JOIN (R194, R265). -/
inductive JoinRes where
  | accepted (m : Nat)
  | full
  | profile
  deriving DecidableEq, Repr

/-- The registry answers a JOIN. -/
def State.join (s : State) (j : JoinRec) : JoinRes × State :=
  if j.profile = 1 ∧ ¬ s.isOn .flood then (.profile, s)
  else match s.indexOf j.id with
    | some i => (.accepted i, s.takeJoin i j true)
    | none => match s.freeIndex with
      | some i => (.accepted i, s.takeJoin i j false)
      | none => (.full, s)

/-- A join is told to the other chips with the member's depth, and PREV leaves a route to the new index (R219). -/
def State.joinLearn (s : State) (m prev : Nat) (prevValid : Bool) (depth : Nat) : State :=
  let pa := if prevValid then s.canal.site * 2 ^ 24 + bits prev 9 6 * 2 ^ 18 + bits prev 0 9 * 2 ^ 9 else 0
  let s := if prevValid ∧ s.isOn .route then
      s.routePut (mkRoute pa 32 2 0 m 0 6 0 (s.fleetMs / 100 % 65536))
    else s
  s.sendLearn ⟨s.addrOf m, pa, s.fleetMs % 2 ^ 32, s.number, 1, depth⟩

end Sys2Proof.Machine
end

