-- ==== Sys2Proof/Machine/MotPlan.lean ====
section
/-! DEFINITION. The trajectory of a member (R272 to R287): what limits it, the plan in steps of 0.5 ms, the geometry of its
furrows, and the entry that a bundle carries. Distances of the plan are nm, speeds µm/s, accelerations µm/s². -/
namespace Sys2Proof.Machine
open Sys2Proof

/-! ### Moves and furrows -/

/-- The number under which a furrow's geometry is kept for a path. -/
def geomKey (path furrow : Nat) : Nat := path * 2 ^ 32 + furrow

/-- A furrow's steps in order of position. -/
def State.furrowSteps (s : State) (furrow : Nat) : List Nat := match s.leById furrow with
  | some h => s.stepsSorted h
  | none => []

/-- Records that the geometry of a furrow takes: 32 segments each (R326). -/
def State.geomRecs (s : State) (furrow : Nat) : Nat := ((s.furrowSteps furrow).length + 31) / 32

/-- A furrow that is COMMITTED. -/
def State.furrowCommitted (s : State) (furrow : Nat) : Bool := match s.leById furrow with
  | some h => decide (LE.kind.get (s.le h) = 1 ∧ LE.state.get (s.le h) = hsCOMMITTED)
  | none => false

/-- The geometry of a furrow on the present path is acknowledged whole. -/
def State.geomKnown (s : State) (m furrow : Nat) : Bool :=
  let x := s.motion m
  let k := geomKey x.path furrow
  x.geomSent.contains k && decide ((x.geomSent.filter (· = k)).length ≤ (x.geomAck.filter (· = k)).length)

/-- A move may enter the plan: its furrow COMMITTED, its geometry known (R272, R278). -/
def State.moveReady (s : State) (m slot : Nat) : Bool :=
  let f := MV.furrow.get (s.move m slot)
  s.furrowCommitted f && s.geomKnown m f

/-- A move as a READ shows it: MSTATE WAIT_COMMIT where it waits (R270, R272). -/
def State.moveView (s : State) (m slot : Nat) : Nat :=
  let e := s.move m slot
  if MV.mstate.get e = 0 ∨ MV.mstate.get e = 3 then e
  else MV.mstate.set e (if s.moveReady m slot then 1 else 2)

/-- The node where a step enters, by its direction. -/
def State.stepIn (s : State) (i : Nat) : Nat :=
  let g := s.seg (LE.seg.get (s.le i))
  if LE.dir.get (s.le i) = 0 then SG.from_.get g else SG.to_.get g
/-- The node where it leaves. -/
def State.stepOut (s : State) (i : Nat) : Nat :=
  let g := s.seg (LE.seg.get (s.le i))
  if LE.dir.get (s.le i) = 0 then SG.to_.get g else SG.from_.get g

/-- The node where a furrow begins. -/
def State.furrowIn (s : State) (furrow : Nat) : Option Nat := (s.furrowSteps furrow).head?.map s.stepIn
/-- The node where it ends. -/
def State.furrowOut (s : State) (furrow : Nat) : Option Nat := (s.furrowSteps furrow).getLast?.map s.stepOut

/-- Total LENGTH of a furrow's steps, mm. -/
def State.furrowLen (s : State) (furrow : Nat) : Nat := s.keptEnd furrow

/-! ### Geometry (R227, R278, R326) -/

/-- The turn of a heading over a length on a curve: CURV in 10^-9 per mm, headings clockwise (PRESUMED, log entry 79). -/
def headTurn (curv : Int) (mm : Nat) : Int := -(curv * mm * 1043037835 / 100000000000000)

/-- Curvature of a step in its direction of travel. -/
def State.stepCurv (s : State) (i : Nat) : Int :=
  let c := SG.curv.getI (s.seg (LE.seg.get (s.le i)))
  if LE.dir.get (s.le i) = 0 then c else -c

/-- Heading of travel on a step, `mm` after its entry. -/
def State.headAt (s : State) (i mm : Nat) : Nat :=
  let g := s.seg (LE.seg.get (s.le i))
  let c := SG.curv.getI g
  let h0 : Int := SG.headIn.get g
  let h : Int := if LE.dir.get (s.le i) = 0 then h0 + headTurn c mm else h0 + headTurn c (SG.length.get g - mm) + 32768
  trunc h 16

/-- One segment of a PATH_GEOM record. -/
def State.geomSeg (s : State) (i : Nat) : List Nat :=
  let nd := s.node (s.stepIn i)
  toBytes 4 (ND.e.get nd) ++ toBytes 4 (ND.n.get nd) ++ toBytes 4 (ND.u.get nd) ++ toBytes 4 (SG.length.get (s.seg (LE.seg.get (s.le i)))) ++
    toBytes 2 (s.headAt i 0) ++ [0, 0] ++ toBytes 4 (trunc (s.stepCurv i) 32)

/-- A PATH_GEOM record of the steps from the `k`-th on (R326). -/
def State.geomRecord (s : State) (m furrow d0 k : Nat) : List Nat :=
  let all := s.furrowSteps furrow
  let l := (all.drop k).take 32
  let first := l.headD 0
  let last := decide (all.length ≤ k + 32)
  let base := (s.stepDist (all.headD 0)).1
  [(s.motion m).path, LE.pos.get (s.le first), l.length, b2n last] ++ toBytes 4 furrow ++
    toBytes 4 (d0 + (s.stepDist first).1 - base) ++ l.flatMap s.geomSeg

/-- The geometry of a furrow goes to the member. -/
def State.sendGeom (s : State) (m furrow d0 : Nat) : State :=
  let k := geomKey (s.motion m).path furrow
  let n := s.geomRecs furrow
  let s := s.each (List.range n) fun s r => s.queueRecord m 1 (s.geomRecord m furrow d0 (32 * r)) fun f => { f with geom := some k }
  let x := s.motion m
  s.setMotion m { x with geomSent := x.geomSent ++ List.replicate n k }

/-- Distance along a furrow, nm, at which a member stands on a new path: where it came to rest on that furrow, else where
its trailer places it on the furrow it is on, else its start (DESIGN CHOICE, log entry 78). -/
def State.restAt (s : State) (m furrow : Nat) : Nat :=
  let x := s.motion m
  match x.chain.find? fun c => c.1 = furrow with
  | some c => x.d - c.2.1 * 1000000
  | none => if x.chain = [] ∧ s.currentFurrow m = furrow then bits (s.mget m RG.trailer) 160 32 * 1000000 else 0

/-- Furrows of the queue enter the path in order (R278): one that continues it is appended; the first of a queue at rest begins
a new path where it does not. Each one's geometry is sent. -/
def State.extendPath (s : State) (m slot : Nat) : State :=
  let x := s.motion m
  let f := MV.furrow.get (s.move m slot)
  if !s.furrowCommitted f then s
  else if !x.newPath && x.chain.any (fun c => c.1 = f) then s
  else
    let joined := !x.newPath && (match x.chain.getLast? with
      | some c => decide (s.furrowOut c.1 = s.furrowIn f ∧ (s.furrowIn f).isSome)
      | none => false)
    if joined then
      match x.chain.getLast? with
      | some c => (s.setMotion m { x with chain := x.chain ++ [(f, c.2.1 + c.2.2, s.furrowLen f)] }).sendGeom m f (c.2.1 + c.2.2)
      | none => s
    else if x.v = 0 ∧ x.a = 0 ∧ x.order.head? = some slot then
      (s.setMotion m { x with path := (x.path + 1) % 256, newPath := false, d := s.restAt m f, chain := [(f, 0, s.furrowLen f)],
                              geomSent := [], geomAck := [] }).sendGeom m f 0
    else s

/-- Every queued move in turn. -/
def State.extendPaths (s : State) (m : Nat) : State := s.each (s.motion m).order fun s k => s.extendPath m k

/-! ### Limits (R274 to R276) -/

/-- A piece of the path under one step: entry index, path distances in nm, START. -/
structure Piece where
  step : Nat
  lo : Nat
  hi : Nat
  start : Nat
  deriving DecidableEq, Repr

/-- The pieces of a member's path that are still held. -/
def State.pieces (s : State) (m : Nat) : List Piece :=
  (s.motion m).chain.flatMap fun c =>
    (s.furrowSteps c.1).map fun i =>
      let d := s.stepDist i
      ⟨i, (c.2.1 + d.1) * 1000000, (c.2.1 + d.2) * 1000000, leStart (s.le i)⟩

/-- A queued move on the path: slot, entry, path distance of its end in nm. -/
structure MovePt where
  slot : Nat
  e : Nat
  end_ : Nat
  deriving DecidableEq, Repr

/-- Elements from the front while a condition holds. -/
def takeWhileL {α : Type} (ok : α → Bool) : List α → List α
  | [] => []
  | x :: r => if ok x then x :: takeWhileL ok r else []

/-- The moves that the plan may use: from the front of the queue as long as they are ready. -/
def State.planMoves (s : State) (m : Nat) : List MovePt :=
  let x := s.motion m
  (takeWhileL (fun k => s.moveReady m k && x.chain.any fun c => c.1 = MV.furrow.get (s.move m k)) x.order).map fun k =>
    let e := s.move m k
    ⟨k, e, (x.offset (MV.furrow.get e) + MV.dEnd.get e) * 1000000⟩

/-- The speed limit of a curve, µm/s: √(A_LAT ÷ κ). -/
def curveLimit (aLat : Nat) (curv : Int) : Nat :=
  if curv = 0 then 4294967295000 else isqrt (aLat * 1000000000000000 / iabs curv)

/-- The limit on a piece under a move, µm/s. -/
def State.pieceLimit (s : State) (q : Piece) (e : Nat) : Nat :=
  let g := s.seg (LE.seg.get (s.le q.step))
  let l := min (min (MV.vMax.get e) (SG.vmax.get g) * 1000) (curveLimit (MV.aLat.get e) (SG.curv.getI g))
  if s.level = 2 then min l (s.get F.TRACK_VMAX * 1000) else l

/-- The joint speed at the end of a move, µm/s (R275). -/
def State.jointSpeed (s : State) (l : List Piece) (a b : MovePt) : Nat :=
  let at_ := a.end_
  let here := l.find? fun q => decide (q.lo < at_ ∧ at_ ≤ q.hi)
  let next := l.find? fun q => decide (q.lo ≤ at_ ∧ at_ < q.hi)
  match here, next with
  | some q, some r =>
    let v := min (min (MV.vTgt.get a.e) (MV.vMax.get b.e) * 1000)
      (min (curveLimit (MV.aLat.get a.e) (s.stepCurv q.step)) (curveLimit (MV.aLat.get b.e) (s.stepCurv r.step)))
    if q.step = r.step then v
    else
      let h1 := s.headAt q.step ((q.hi - q.lo) / 1000000)
      let h2 := s.headAt r.step 0
      let turn := iabs (sext ((h2 + 65536 - h1) % 65536) 16)
      if turn = 0 then v else min v (isqrt (MV.aLat.get a.e * s.get F.BLEND_LEN * 10430378350 / turn))
  | _, _ => 0

/-- A point that the plan meets at no more than a speed, while `until_` lies ahead (none: always). -/
structure LimitPt where
  pos : Nat
  v : Nat
  until_ : Option Nat
  deriving DecidableEq, Repr

/-- The joint speeds and stops of the moves in order. -/
def State.jointPts (s : State) (l : List Piece) : List MovePt → List LimitPt
  | [] => []
  | [a] => [⟨a.end_, 0, none⟩]
  | a :: b :: r => ⟨a.end_, if MV.vTgt.get a.e = 0 then 0 else s.jointSpeed l a b, none⟩ :: s.jointPts l (b :: r)

/-- What binds a plan: moves, pieces, points ahead. -/
structure Bounds where
  moves : List MovePt
  pieces : List Piece
  pts : List LimitPt
  lims : List (Nat × Nat × Nat)
  jerk : Nat
  decMin : Option Nat
  hold : Bool
  deriving DecidableEq, Repr

/-- The bounds of a member's plan: segment limits under each move, joints, STARTs of steps and of turnout locks. -/
def State.bounds (s : State) (m : Nat) : Bounds :=
  let x := s.motion m
  let l := s.pieces m
  let mv := s.planMoves m
  let starts := l.map fun q => (⟨q.lo, 0, some q.start⟩ : LimitPt)
  let locks := x.chain.flatMap fun c => match s.leById c.1 with
    | some h => (s.locksOf h).filterMap fun k =>
        (l.find? fun q => decide (LE.head.get (s.le q.step) = h ∧ LE.pos.get (s.le q.step) = LE.pos.get (s.le k))).map fun q =>
          (⟨q.lo, 0, some (leStart (s.le k))⟩ : LimitPt)
    | none => []
  let begins := 0 :: mv.map (·.end_)
  let lims := (mv.zip begins).flatMap fun (a, from_) =>
    (l.filter fun q => decide (from_ < q.hi ∧ q.lo < a.end_)).map fun q => (max q.lo from_, min q.hi a.end_, s.pieceLimit q a.e)
  let act := match mv.head? with
    | some a => a.e
    | none => 0
  { moves := mv, pieces := l, pts := s.jointPts l mv ++ starts ++ locks, lims := lims,
    jerk := (x.jerk.getD (MV.jMax.get act)) * 1000, decMin := x.decel, hold := decide ((s.get F.LAG_LIMIT : Int) < x.lag) }

/-! ### The plan in steps of 0.5 ms (R274) -/

/-- A planned state: time in fleet ns, nm, µm/s, µm/s². -/
structure PState where
  t : Nat
  d : Nat
  v : Nat
  a : Int
  deriving DecidableEq, Repr

/-- One step of 0.5 ms under an acceleration; it ends at rest where the speed would fall below zero. -/
def PState.go (p : PState) (a : Int) : PState :=
  let v' : Int := p.v + a / 2000
  if v' ≤ 0 then ⟨p.t + 500000, p.d + p.v / 8, 0, 0⟩
  else ⟨p.t + 500000, p.d + (p.v + v'.toNat) / 4, v'.toNat, a⟩

/-- The move that holds a point: the first that ends beyond it. -/
def Bounds.moveAt (b : Bounds) (d : Nat) : Option MovePt := b.moves.find? fun m => decide (d < m.end_)

/-- The speed limit at a point. -/
def Bounds.limAt (b : Bounds) (d : Nat) : Nat := match b.lims.find? fun x => decide (x.1 ≤ d ∧ d < x.2.1) with
  | some x => if b.hold then 0 else x.2.2
  | none => 0

/-- A state from which every limit ahead can still be met. -/
def Bounds.safe (b : Bounds) (A : Nat) (p : PState) : Bool :=
  let lim := b.limAt p.d
  let peak := if 0 < p.a then p.v + iabs p.a * iabs p.a / (2 * max 1 b.jerk) else p.v
  decide (peak ≤ lim ∨ (p.v = 0 ∧ p.a = 0)) &&
    (b.pts.all fun q => decide (q.pos ≤ p.d ∧ (p.v ≤ q.v ∨ q.pos < p.d)) || (match q.until_ with | some u => decide (u ≤ p.t) | none => false) ||
      decide (p.d < q.pos ∧ brakeDist p.v q.v p.a A b.jerk ≤ q.pos - p.d)) &&
    (b.lims.all fun x => decide (x.1 ≤ p.d) || decide (brakeDist p.v x.2.2 p.a A b.jerk ≤ x.1 - p.d))

/-- One step of the plan: the greatest of the three accelerations that jerk allows from which every limit can be met. -/
def Bounds.step (b : Bounds) (p : PState) : PState :=
  match b.moveAt p.d with
  | none => ⟨p.t + 500000, p.d, 0, 0⟩
  | some mv =>
    let A := (b.decMin.getD (MV.aDec.get mv.e)) * 1000
    let up : Int := min (p.a + b.jerk / 2000) (MV.aMax.get mv.e * 1000)
    let down : Int := max (p.a - b.jerk / 2000) (-(A : Int))
    let n := if b.safe A (p.go up) then p.go up else if b.safe A (p.go p.a) then p.go p.a else p.go down
    -- within a millimetre of a point of rest, the plan is on it
    if n.v = 0 then
      match b.pts.find? fun q => decide (q.v = 0 ∧ n.d < q.pos ∧ q.pos ≤ n.d + 1000000) && (match q.until_ with | some u => decide (n.t < u) | none => true) with
      | some q => { n with d := q.pos, a := 0 }
      | none => n
    else n

/-- One step of a stop at a deceleration and jerk: rising, held, and eased back to zero (R285). -/
def stopStep (A J : Nat) (p : PState) : PState :=
  if p.v = 0 then ⟨p.t + 500000, p.d, 0, 0⟩
  else
    let easing := decide (p.a < 0 ∧ p.v * 2 * max 1 J ≤ iabs p.a * iabs p.a)
    let a : Int := if easing then min (-1) (p.a + J / 2000) else max (p.a - J / 2000) (-(A : Int))
    p.go a

/-- The samples of a plan to an instant, first to last. -/
def samples (f : PState → PState) (until_ : Nat) : Nat → PState → List PState
  | 0, _ => []
  | k + 1, p => if until_ ≤ p.t then [] else let q := f p; q :: samples f until_ k q

/-! ### Entries (R280) -/

/-- Heading at a path distance. -/
def headOf (s : State) (l : List Piece) (d : Nat) : Nat :=
  match l.find? fun q => decide (q.lo ≤ d ∧ d < q.hi) with
  | some q => s.headAt q.step ((d - q.lo) / 1000000)
  | none => match l.find? fun q => decide (q.lo ≤ d ∧ d ≤ q.hi) with
    | some q => s.headAt q.step ((d - q.lo) / 1000000)
    | none => 0

/-- D16, V, H of a point. -/
def pointBytes (s : State) (l : List Piece) (p : PState) : List Nat :=
  toBytes 2 (p.d / 1000000) ++ toBytes 2 (p.v / 1000) ++ toBytes 2 (headOf s l p.d)

/-- The 16-byte entry. -/
def entryBytes (s : State) (l : List Piece) (mode path age : Nat) (last : Bool) (nsp : Nat) (pts : List PState) : List Nat :=
  let h := [mode + 4 * b2n last, path % 256, age, 0]
  if mode = 0 ∨ mode = 3 then [mode, path % 256, age, 0] ++ List.replicate 12 0
  else match nsp with
    | 1 => h ++ (pts.take 1).flatMap (fun p => pointBytes s l p ++ toBytes 2 (trunc (p.a / 1000) 16)) ++ [0, 0, 0, 0]
    | 2 => h ++ (pts.take 2).flatMap (pointBytes s l)
    | _ => h ++ (pts.take 4).flatMap (fun p => toBytes 2 (p.d / 1000000)) ++
        (match pts.getLast? with | some p => toBytes 2 (p.v / 1000) ++ toBytes 2 (headOf s l p.d) | none => [0, 0, 0, 0])

end Sys2Proof.Machine
end

