-- ==== Sys2Proof/Machine/Registry.lean ====
section
/-! DEFINITION. The registry's table operations (R265 to R267). -/
namespace Sys2Proof.Machine
open Sys2Proof

/-- Kind of the item of a release. -/
def regCLEARED : Nat := 4

/-- The masked causes are cleared; a member without a cause is ACTIVE again. -/
def State.releaseHold (s : State) (m mask : Nat) : State :=
  let old := s.mget m RG.cause
  let new := old - Nat.land old mask
  let s := s.mset m RG.cause new
  let s := (s.mset m RG.rstate (if new = 0 then 1 else 2)).inc C.REGISTRY_RELEASES
  if new = old then s else (s.regCounts).item { flow := m, src := srcREG, kind := regCLEARED, arg := new }

/-- RELEASE (opcode 8). -/
def State.regRelease (s : State) (key : List Nat) : State × TRes :=
  let m := nth 0 key 0 % 512
  let mask := nth 0 key 1 % 256
  if s.mget m RG.rstate = 0 then (s, { err := 0x01 })
  else if (List.range 8).any fun c => bit mask c && s.causeHolds m c then (s.inc C.REGISTRY_RELEASE_REFUSED, { err := 0x10 })
  else if s.get F.TIME_STATUS_STEP_PEND = 1 then (s.inc C.REGISTRY_RELEASE_REFUSED, { err := 0x11 })
  else (s.releaseHold m mask, {})

/-- HOLD (opcode 9). -/
def State.regHold (s : State) (key : List Nat) : State × TRes :=
  let m := nth 0 key 0 % 512
  if s.mget m RG.rstate = 0 then (s, { err := 0x01 }) else ((s.holdMember m 0).regCounts, {})

/-- The message record that withdraws an index (R188). -/
def leaveRecord : List Nat := msgRecord 0 [2]

/-- EVICT (opcode 10): the host's alone. -/
def State.regEvict (s : State) (src : Src) (key : List Nat) : State × TRes :=
  let m := nth 0 key 0 % 512
  let host := match src with | .host => true | .bar2 _ => true | _ => false
  if !host then (s, { err := 0x0C })
  else if s.mget m RG.rstate = 0 then (s, { err := 0x01 })
  else ((s.depart m).queueFrame { typ := 3, member := m, body := leaveRecord, leave := true }, {})

/-- An operation that its block decides at once. -/
def now (f : State → List Nat → Nat → State × TRes) : TFn := fun s key data => let (s, r) := f s key data; (s, some r)

/-- RELEASE. -/
def execRegistryRelease (via : Via) (s : State) : Res := .next (s.tblOp via pREG 8 0 0 (now fun s key _ => s.regRelease key))

/-- HOLD. -/
def execRegistryHold (via : Via) (s : State) : Res := .next (s.tblOp via pREG 9 0 0 (now fun s key _ => s.regHold key))

/-- EVICT. -/
def execEvict (via : Via) (s : State) : Res := .next (s.tblOp via pREG 10 0 0 (now fun s key _ => s.regEvict via.src key))

end Sys2Proof.Machine
end

