-- ==== Sys2Proof/Machine/Motion.lean ====
section
/-! DEFINITION. Commands of PLAN/MOTION: queued moves, limits, and the assembly of a bundle (R191, R270 to R287, R27). -/
namespace Sys2Proof.Machine
open Sys2Proof

/-! ### Moves (R271 to R273, R284) -/

/-- A field of a move lies outside its range, or asks more than the member or the stop allow. -/
def State.badLimits (s : State) (m e : Nat) (withV : Bool) : Bool :=
  let r := fun (x lo hi : Nat) => decide (x < lo ∨ hi < x)
  let dec := s.mget m RG.decel
  (withV && r (MV.vMax.get e) 1 65535) || r (MV.aMax.get e) 10 20000 || r (MV.aDec.get e) 10 20000 || r (MV.jMax.get e) 100 1000000 ||
    r (MV.aLat.get e) 100 20000 || decide (dec = 0 ∨ dec < MV.aDec.get e ∨ s.get F.STOP_JERK < MV.jMax.get e)

/-- The HEAD of a furrow that a member may move on. -/
def State.moveHead (s : State) (m furrow : Nat) : Bool := match s.leById furrow with
  | some h =>
    let e := s.le h
    decide (LE.kind.get e = 1 ∧ (LE.state.get e = hsGRANTED ∨ LE.state.get e = hsCOMMITTED) ∧ LE.owner.get e = s.mget m RG.addr ∧
      s.mget m RG.rstate ≠ 0)
  | none => false

/-- The error of a MOVE_ADD; 0 none. -/
def State.moveErr (s : State) (m e : Nat) : Nat :=
  let f := MV.furrow.get e
  let x := s.motion m
  let prev := x.order.getLast?.map fun k => s.move m k
  if !s.moveHead m f then 0x10
  else if decide (s.furrowLen f < MV.dEnd.get e) || (match prev with
      | some p => decide (MV.furrow.get p = f ∧ MV.dEnd.get e ≤ MV.dEnd.get p)
      | none => false) then 0x11
  else if s.badLimits m e true then 0x12
  else if (match prev with
      | some p => decide (MV.furrow.get p ≠ f ∧ MV.vTgt.get p ≠ 0 ∧ s.furrowOut (MV.furrow.get p) ≠ s.furrowIn f)
      | none => false) then 0x13
  else if 16 ≤ x.order.length then 0x03
  else 0

/-- MOVE_ADD (opcode 8). -/
def State.moveAdd (s : State) (key : List Nat) (data : Nat) : State × TRes :=
  let m := nth 0 key 0 % 512
  let e := MV.mstate.set (data % 2 ^ 224 - bits data 184 8 * 2 ^ 184) 1
  match s.moveErr m e with
  | 0 =>
    let x := s.motion m
    match (List.range 16).find? fun k => !(x.order.contains k) with
    | none => (s, { err := 0x03 })
    | some k =>
      let s := (s.setMove m k e).setMotion m { x with order := x.order ++ [k] }
      ((s.inc C.MOTION_MOVES_ADDED).motShow, { data := some k })
  | c => (s, { err := c })

/-- MOVE_FLUSH (opcode 9): every move that is not ACTIVE goes. -/
def State.moveFlush (s : State) (key : List Nat) : State × TRes :=
  let m := nth 0 key 0 % 512
  let l := (s.motion m).order.filter fun k => decide (MV.mstate.get (s.move m k) ≠ 3)
  ((s.each l fun s k => s.freeMove m k).motShow, { data := some l.length })

/-- The limits that SET_LIMITS names, put into a move. -/
def withLimits (e data : Nat) : Nat :=
  MV.aLat.set (MV.jMax.set (MV.aDec.set (MV.aMax.set e (MV.aMax.get data)) (MV.aDec.get data)) (MV.jMax.get data)) (MV.aLat.get data)

/-- SET_LIMITS (opcode 10). -/
def State.setLimits (s : State) (key : List Nat) (data : Nat) : State × TRes :=
  let m := nth 0 key 0 % 512
  if s.badLimits m data false then (s, { err := 0x12 })
  else
    let s := s.each (s.motion m).order fun s k =>
      let e := s.move m k
      if MV.mstate.get e = 3 then
        let x := s.motion m
        let cur := max (MV.aDec.get e) (x.aDecNext.getD 0)
        if cur < MV.aDec.get data then s.setMotion m { x with aDecNext := some (MV.aDec.get data) } else s
      else s.setMove m k (withLimits e data)
    (s, {})

/-- MOVE_ADD. -/
def execMoveAdd (via : Via) (s : State) : Res := .next (s.tblOp via pMOT 8 0 0 (now State.moveAdd))

/-- MOVE_FLUSH. -/
def execMoveFlush (via : Via) (s : State) : Res := .next (s.tblOp via pMOT 9 0 0 (now fun s key _ => s.moveFlush key))

/-- SET_LIMITS. -/
def execSetLimits (via : Via) (s : State) : Res := .next (s.tblOp via pMOT 10 0 0 (now State.setLimits))

/-! ### The assembly (R27, R191, R272 to R286) -/

/-- A bundle in assembly: port, group, start of its entry, the boundary after its superframe, SFN, P, N, and the
bank in force in it. -/
structure Asm where
  port : Nat
  group : Nat
  start : Nat
  next : Nat
  sfn : Nat
  per : Nat
  n : Nat
  bank : Nat
  deriving DecidableEq, Repr

/-- Servo instants (R279). -/
def Asm.instants (y : Asm) : List Nat := (List.range y.n).map fun i => y.next + (i + 1) * y.per / y.n
/-- The last of them. -/
def Asm.last (y : Asm) : Nat := y.next + y.per

/-- The plan has come to its last move's end or to rest: moves reached are done (R272). -/
def State.passMoves (s : State) (m : Nat) (p : PState) : State :=
  s.each (s.planMoves m) fun s a =>
    if a.end_ ≤ p.d ∧ (MV.vTgt.get a.e ≠ 0 ∨ p.v = 0) then s.moveDone m a.slot else s

/-- The move under the plan becomes ACTIVE (R272). -/
def State.activate (s : State) (m : Nat) : State :=
  match (s.planMoves m).head? with
  | some a => if MV.mstate.get a.e = 3 then s else s.setMove m a.slot (MV.mstate.set a.e 3)
  | none => s

/-- A larger A_DEC written for the ACTIVE move takes effect (R284). -/
def State.applyDec (s : State) (m : Nat) : State :=
  let x := s.motion m
  match x.aDecNext, s.activeMove m with
  | some d, some k => (s.setMove m k (MV.aDec.set (s.move m k) d)).setMotion m { x with aDecNext := none }
  | some _, none => s.setMotion m { x with aDecNext := none }
  | none, _ => s

/-- The ACTIVE move is truncated where the member comes to rest (R285), and is done. -/
def State.truncActive (s : State) (m d : Nat) : State :=
  match s.activeMove m with
  | none => s
  | some k =>
    let e := s.move m k
    let x := s.motion m
    let at_ := d / 1000000 - x.offset (MV.furrow.get e)
    let s := (s.inc C.MOTION_MOVES_TRUNCATED).item { flow := m, src := srcMOTION, kind := 2, arg := k, arg2 := MV.user.get e }
    (s.setMove m k (MV.vTgt.set (MV.dEnd.set e at_) 0)).moveDone m k

/-- The deceleration and jerk of the profile in force: STOP's from the member, any other's from the ACTIVE move (R285,
R286). -/
def State.stopProfile (s : State) (m cls : Nat) : Nat × Nat :=
  if cls = 2 then (s.mget m RG.decel * 1000, s.get F.STOP_JERK * 1000)
  else match s.activeMove m with
    | some k => (MV.aDec.get (s.move m k) * 1000, MV.jMax.get (s.move m k) * 1000)
    | none => (s.mget m RG.decel * 1000, s.get F.STOP_JERK * 1000)

/-- The state at an instant among samples, the last before it. -/
def sampleAt (l : List (Nat × Nat × Nat × Int)) (t : Nat) : Option PState :=
  ((l.filter fun x => decide (x.1 ≤ t)).getLast?).map fun x => ⟨x.1, x.2.1, x.2.2.1, x.2.2.2⟩

/-- What the plan of one member yields for a bundle: samples from where it was taken up, and the mode. -/
structure PlanOut where
  samples : List PState
  mode : Nat
  deriving DecidableEq, Repr

/-- The plan of one member to the last servo instant, and the state after it. -/
def State.plan (s : State) (y : Asm) (m : Nat) : PlanOut × State :=
  let cls := s.stopClass
  let wait := (s.motion m).wait && !([0, 3, 4].contains (bits (s.mget m RG.trailer) 0 3))
  let held := decide (s.mget m RG.rstate = 2) || wait
  let s := if (s.motion m).wait = wait then s else s.setMotion m { s.motion m with wait := wait }
  let s := s.extendPaths m
  let x := s.motion m
  let moving := decide (x.v ≠ 0 ∨ x.a ≠ 0)
  let rest : PState := ⟨y.last, x.d, 0, 0⟩
  if cls = 3 then
    -- HALT: no profile; the plan ends where it is
    let s := s.truncActive m x.d
    let x := s.motion m
    (⟨[rest], 3⟩, s.setMotion m { x with v := 0, a := 0, t := y.last, newPath := true, stopCls := 3, hist := [], decel := none, jerk := none })
  else if held || decide (cls ≠ 0) then
    if !moving then
      (⟨[rest], 3⟩, s.setMotion m { x with t := y.last, newPath := true, stopCls := cls, hist := [], decel := none, jerk := none })
    else
      let (A, J) := s.stopProfile m cls
      -- a stop class replaces the plan from the on-air time of its first stop frame
      let p0 : PState := ⟨x.t, x.d, x.v, x.a⟩
      let p := if cls ≤ x.stopCls then p0 else match (s.port y.port).stopAt with
        | some t => (sampleAt x.hist t).getD p0
        | none => p0
      let l := samples (stopStep A J) y.last 4096 p
      let q := l.getLast?.getD p
      let s := s.setMotion m { x with d := q.d, v := q.v, a := q.a, t := y.last, stopCls := cls,
                                      hist := (x.hist ++ l.map fun z => (z.t, z.d, z.v, z.a)) }
      if q.v = 0 then
        let s := s.truncActive m q.d
        (⟨l, 2⟩, s.setMotion m { s.motion m with newPath := true, decel := none, jerk := none })
      else (⟨l, 2⟩, s)
  else
    let s := (s.applyDec m).activate m
    let b := s.bounds m
    if b.moves = [] ∧ !moving then
      (⟨[rest], 0⟩, s.setMotion m { x with t := y.last, stopCls := 0, hist := [] })
    else
      let p : PState := if moving then ⟨x.t, x.d, x.v, x.a⟩ else ⟨y.next, x.d, 0, 0⟩
      let l := samples b.step y.last 4096 p
      let q := l.getLast?.getD p
      let old := x.hist.filter fun z => decide (y.next ≤ z.1 + 2 * y.per)
      let s := s.setMotion m { s.motion m with d := q.d, v := q.v, a := q.a, t := y.last, stopCls := 0,
                                               hist := old ++ l.map fun z => (z.t, z.d, z.v, z.a) }
      let s := (s.passMoves m q).activate m
      let s := if q.v = 0 then s.setMotion m { s.motion m with decel := none, jerk := none } else s
      (⟨l, 1⟩, s)

/-- Table 1 of a member (R287). -/
def State.motTable (s : State) (m : Nat) (l : List Piece) : State :=
  let x := s.motion m
  let stop := x.d + brakeDist x.v 0 x.a (s.mget m RG.decel * 1000) (s.get F.STOP_JERK * 1000)
  let fur := match l.find? fun q => decide (q.lo ≤ x.d ∧ x.d ≤ q.hi) with
    | some q => LE.id.get (s.le (LE.head.get (s.le q.step)))
    | none => 0
  let act := (s.activeMove m).getD 0xFF
  s.setTe pMOT 1 m (ofBytes ([x.mode, x.path, x.order.length, act] ++ toBytes 4 (x.d / 1000000) ++ toBytes 2 (x.v / 1000) ++
    toBytes 2 (trunc (x.a / 1000) 16) ++ toBytes 4 (stop / 1000000) ++ toBytes 4 fur))

/-- AGE of the position used, in 4 ms (R280). -/
def State.posAge (s : State) (m : Nat) : Nat := match (s.motion m).posAt with
  | some e => min 255 ((s.fleetNs - e) / 4000000)
  | none => 255

/-- One member's entry is computed and takes its place in the bundle. -/
def State.assembleOne (s : State) (y : Asm) (m : Nat) : List Nat × State :=
  let before := s.motion m
  let age := s.posAge m
  let pieces := s.pieces m
  let (o, s) := s.plan y m
  let pieces := if pieces = [] then s.pieces m else pieces
  let pts := y.instants.map fun t => match (o.samples.filter fun p => decide (p.t ≤ t)).getLast? with
    | some p => { p with t := t }
    | none => (⟨t, (s.motion m).d, (s.motion m).v, (s.motion m).a⟩ : PState)
  let x := s.motion m
  let last := decide (x.v = 0 ∧ x.a = 0)
  let path := (pts.map fun p => (p.t, p.d))
  let bundle : SpBundle := ⟨y.sfn % 65536, (y.next, before.d) :: path⟩
  let keep := if x.path = before.path ∧ (o.mode = 1 ∨ o.mode = 2) then lastN 7 x.bundles ++ [bundle]
    else if o.mode = 1 ∨ o.mode = 2 then [⟨y.sfn % 65536, path⟩] else []
  let s := s.setMotion m { x with mode := o.mode, bundles := keep }
  (entryBytes s pieces o.mode x.path age last y.n pts, (s.motTable m pieces).inc C.MOTION_ENTRIES_BUILT)

/-- The members of a group that the port serves under a bank. -/
def State.groupMembers (s : State) (p bank g : Nat) : List Nat :=
  (List.range 64).filterMap fun i =>
    let m := 64 * g + i
    if s.mget m RG.rstate ≠ 0 ∧ (s.upEntry p bank m).isSome then some m else none

/-- The bank that is active on a port in the superframe after the present one: an armed swap that falls at its boundary is made
(R175, R27). -/
def State.nextBank (s : State) (p : Nat) : Nat :=
  if s.get F.BANK_CTRL_ARMED p = 1 ∧ s.get F.SWAP_SFN p = (s.get F.SFN + 1) % 2 ^ 32 then 1 - s.activeBank p else s.activeBank p

/-- The entry of a group in a bank. -/
def State.groupEntry (s : State) (p bank g : Nat) : Option Nat :=
  ((s.slots p bank).find? fun x => decide (slKind x.2 = 1 ∧ slMember x.2 = 64 * g)).map (·.2)

/-- N of MOTION_CFG.NSP in force since the last boundary (R279). -/
def State.nsp (s : State) : Nat := nth 4 [1, 2] s.motNsp

/-- The assembly that is due for a port and group: 2 ms before its entry, of this superframe or of the next (R27). -/
def State.asmDue (s : State) (p g : Nat) : Option Asm :=
  let ok := fun (t : Nat) => decide (t ≤ s.fleetNs + 2000000 ∧ s.fleetNs < t ∧ (AMap.get (fun _ => ({} : BundleSt)) s.air.bundles (p * 8 + g)).at_ ≠ t)
  let due := fun (bank b nx sfn : Nat) => match s.groupEntry p bank g with
    | none => none
    | some e =>
      let t := b + slStart e * 125000
      if ok t then some (⟨p, g, t, nx, sfn % 2 ^ 32, s.period, s.nsp, bank⟩ : Asm) else none
  (due (s.activeBank p) s.air.curB s.air.nextB (s.get F.SFN)).or (due (s.nextBank p) s.air.nextB (s.air.nextB + s.period) (s.get F.SFN + 1))

/-- Bundle assembly (R27, R191): `late` are the members whose set-points are not ready at the entry's start. -/
def execBundleAssembly (p g : Nat) (late : List Nat) (s : State) : Res :=
  if 4 ≤ p ∨ 8 ≤ g ∨ ¬ s.isOn .motion ∨ s.svc p ≠ 2 ∨ s.offDuty then .next s
  else match s.asmDue p g with
  | none => .next s
  | some y =>
    let l := s.groupMembers p y.bank g
    let (ents, s) := l.foldl (fun (acc : List (Nat × List Nat) × State) m =>
      if late.contains m then (acc.1, acc.2.inc C.MOTION_ENTRIES_ABSENT)
      else
        let (b, s) := acc.2.assembleOne y m
        (acc.1 ++ [(m, b)], s)) ([], s)
    let b : BundleSt := { at_ := y.start, nsp := y.n, sfn := y.sfn, entries := ents }
    .next (({ s with air := { s.air with bundles := AMap.set (fun _ => ({} : BundleSt)) s.air.bundles (p * 8 + g) b } }).motShow)

end Sys2Proof.Machine
end

