-- ==== Sys2Proof/Machine/AirRx.lean ====
section
/-! DEFINITION. What a port receives and what it sends in its DOWN_BCAST entries: UP and relayed frames, acks, joins, missed
entries (R184 to R194, R199, R201 to R211, R224, R226, R430, R431). -/
namespace Sys2Proof.Machine
open Sys2Proof

/-! ### UP frames (R185, R187) -/

/-- A change of SILENT shows on the port, in the registry and in the lease table (R199, R249, R264). -/
def State.silentChg (s : State) (p m : Nat) : State :=
  let s := (s.irq (pSL p) I.SLUICE_SILENT_CHG).irq pREG I.REGISTRY_SILENT_CHG
  let s := (((s.regCounts).refreeze).portInfo p).item { flow := m, src := srcREG, kind := 5, arg := s.mget m RG.cause }
  s

/-- An accepted frame, fresh or duplicate: it was heard in this superframe, the run of missed entries ends, and SILENT with
it (R199). Nothing of it reaches PLAN of a unit that does not serve (R387). -/
def State.heard (s : State) (p m : Nat) : State :=
  if s.offDuty then s else
  let s := s.mset m RG.lastRx (s.fleetMs % 2 ^ 32)
  let s : State := { s with air := { s.air with got := (p, m) :: s.air.got } }
  let l := s.link m
  let was := decide (LK.silent.get l = 1) || decide (s.mget m RG.silent = 1)
  let s := s.setLink m (LK.silent.set (LK.miss.set l 0) 0)
  if was then (s.mset m RG.silent 0).silentChg p m else s

/-- One message record of an UP frame goes to its class (R188, R326, R329). -/
def State.upRecord (s : State) (p : Nat) (y : UpIn) (cls : Nat) (data : List Nat) : State :=
  if cls = 0 then s.inc C.SLUICE_RX_DISCARD p
  else if cls = 2 then s.taskRecord y.m data
  else if 16 ≤ cls ∧ cls ≤ 30 then s.airItem { flow := y.m, src := srcAIR, kind := cls, arg := y.snr, body := data }
  else s.inc C.DISPATCH_CLASS_DROP

/-- Message records in order; one that runs past the frame ends them. -/
def State.upRecords (s : State) (p : Nat) (y : UpIn) : Nat → List Nat → State
  | 0, _ => s
  | _ + 1, [] => s
  | _ + 1, [_] => s
  | k + 1, a :: b :: rest =>
    let h := a % 256 + b % 256 * 256
    let len := h % 2048
    if rest.length < len then s else (s.upRecord p y (h / 2048) (rest.take len)).upRecords p y k (rest.drop len)

/-- The own fix of a status trailer (R187), its time rebuilt about the arrival. -/
def trailerFix (t : List Nat) (arrival : Nat) : OwnFix :=
  let w := fun (i : Nat) => sext (ofBytes ((t.drop i).take 4)) 32
  { valid := bit (nth 0 t 0) 3, ms := rebuildMs (ofBytes ((t.drop 4).take 4)) (arrival / 1000000), pos := [w 8, w 12, w 16] }

/-- A trailer reaches the registry, conformance below CENTIMETRE, and the lease engine (R187, R245, R247, R264, R268), and
is reported in DOZE where it shows motion (R450). -/
def State.trailerRx (s : State) (y : UpIn) (arrival : Nat) (t : List Nat) : State :=
  let m := y.m
  let s := (s.mset m RG.trailer (ofBytes t)).mset m RG.trailerMs (arrival / 1000000 % 2 ^ 32)
  let s := if s.get F.DISP_CFG_TRAILERS = 1 then
      s.item { flow := m, src := srcREG, kind := 6, arg := s.mget m RG.cause, body := t } else s
  let moves := decide (s.get F.PWR_STATUS_STATE = 2 ∧ (nth 0 t 0 % 8 = 1 ∨ nth 0 t 0 % 8 = 2))
  let s := s.on moves fun s => s.notice ⟨.keep, 0⟩ I.KEEP_DOZE_MOTION m
  let clear := bit (nth 0 t 0) 4
  let s := (s.noteTrailer m (ofBytes ((t.drop 20).take 4)) clear).trailerFrees m clear
  let own := trailerFix t arrival
  let at_ := own.ms * 1000000
  if s.level = 2 ∧ own.valid ∧ at_ ≤ arrival ∧ arrival ≤ at_ + 200000000 then
    (s.notePosition m at_).conform m at_ own.pos 0
  else s

/-- The body of a delivered UP frame: observation payload, trailer, message records (R187). Where LEN leaves no trailer the observation is malformed and the last 32
bytes of the body are taken as the trailer, with no record behind it: R114 has the trailer delivered and does not say where it stands then (DESIGN CHOICE, log
entry 27). In a unit of a pair that does not serve only the observations go on (R387). -/
def State.upDeliver (s : State) (p : Nat) (y : UpIn) : State :=
  let arrival := y.endNs
  let avail := y.body.length - 32
  let n := if y.obs then ofBytes ((y.body.drop 10).take 2) else 0
  if y.body.length < 32 then s
  else
    let k := min n avail
    let t := (y.body.drop k).take 32
    let s := if y.obs then s.obsAccept y.m arrival y.body avail (trailerFix t arrival) else s
    let rest := if n ≤ avail then y.body.drop (n + 32) else []
    if s.offDuty then s else (s.trailerRx y arrival t).upRecords p y rest.length rest

/-- The frame is one that this zone verifies (R429, R433, R435): its member is registered, its generation verified, its
counter in range. The counter says why not. -/
def State.upBad (s : State) (p : Nat) (y : UpIn) : Option State :=
  if 512 ≤ y.m ∨ s.mget y.m RG.rstate = 0 then some (s.inc C.SLUICE_MIC_FAIL p)
  else if !s.kgenOk y.kgen then some (s.inc C.FRAME_SEC_OLD_GEN)
  else if 2 ^ 31 ≤ y.fcnt then some (s.inc C.FRAME_SEC_FCNT_LIMIT)
  else none

/-- What R185 does with a verified frame: `ack` its acknowledgement, `offer` the route it offers (R215). -/
def State.upTake (s : State) (p : Nat) (y : UpIn) (ack offer : State → State) : State :=
  match freshness (s.linkUnder y.m y.kgen) y.fcnt y.seq with
  | .replay => s.inc C.SLUICE_REPLAY p
  | .dup => offer ((((ack s).inc C.SLUICE_DUP p)).heard p y.m)
  | .deliver =>
    let s := (((ack s).linkTake y.m y.kgen y.fcnt y.seq).inc C.SLUICE_UP_RX p).heard p y.m
    (offer s).upDeliver p y

/-- ACK_RATE of a port's active bank. -/
def State.ackRate (s : State) (p : Nat) : Nat := s.get F.BANK_HDR_ACK_RATE p (s.activeBank p)

/-- A port receives and processes member traffic; at level STOP joins, uplink processing and frame security for it are lost (R30), and what a
unit receives between a planned switch and the last delta is not delivered (R401). -/
def State.receives (s : State) (p : Nat) : Bool :=
  decide (p < 4) && s.isOn .airport p && s.isOn .sluice p && s.isOn .frameSec && !s.fifoOff (pAP p) 64 && decide (s.level ≠ 0) && !s.pair.lastDelta

/-- The frame at the front of a port's receive queue, where it is of a kind. -/
def State.rxFront (s : State) (p : Nat) (ok : AirHdr → Bool) : Option RxFrame := match (s.port p).rxq with
  | f :: _ => if ok f.hdr then some f else none
  | [] => none

/-- That frame is taken off the queue. -/
def State.rxPop (s : State) (p : Nat) : State := s.setPort p { s.port p with rxq := (s.port p).rxq.drop 1 }

/-- An UP frame as its headers and clear body give it; the index of a sender that is no member of this zone is out of range. -/
def State.upOf (s : State) (f : RxFrame) : UpIn :=
  { m := (s.airMember f.hdr.ends.1).getD 512, kgen := f.hdr.kgen, fcnt := f.hdr.fcnt, snr := f.snr, obs := f.hdr.obs, body := f.body,
    seq := match f.hdr.relay with | some r => r.seq | none => f.hdr.seq, endNs := f.endNs, entryEnd := f.entryEnd }

/-- What a port does with an UP frame of its own (R187). -/
def State.upRx (s : State) (p : Nat) (y : UpIn) : State := match s.upBad p y with
  | some s => s
  | none => s.upTake p y (fun s => s.sendAck p (s.memberShort y.m) y.seq y.snr (s.ackRate p) y.endNs y.entryEnd) id

/-- The verified UP frame at the front (R187): it is lost where the port does not receive. -/
def execUpFrameRx (p : Nat) (s : State) : Res :=
  match s.rxFront p fun h => decide (h.typ = 2 ∧ h.relay = none) with
  | none => .next s
  | some f => if !s.receives p then .next (s.rxPop p) else .next ((s.rxPop p).upRx p (s.upOf f))

/-- Whether a flooded frame was seen before, or FLOOD is not ON, and the state that remembers it (R225); profile 0 has no such
test. -/
def State.relaySeen (s : State) (y : RelayIn) : Bool × State :=
  if y.prof = 1 then (if s.isOn .flood then s.floodSee (s.memberShort y.up.m) y.up.seq else (true, s)) else (false, s)

/-- The hop is acknowledged, but for a flooded frame (R202, R211). -/
def State.relayAck (s : State) (p : Nat) (y : RelayIn) : State :=
  if y.prof = 1 then s else s.sendAck p (s.memberShort y.hop) y.hopSeq y.up.snr (s.ackRate p) y.up.endNs y.up.entryEnd

/-- A relayed frame is taken as from ORIG_SRC and offers a route (R211, R218). A unit that does not serve has its routes from the
checkpoint (R391): what it receives offers none there (DESIGN CHOICE, log entry 72). -/
def State.relayUp (s : State) (p : Nat) (y : RelayIn) : State :=
  match s.upBad p y.up with
  | some s => s
  | none => s.upTake p y.up (fun s => s.relayAck p y) fun s => if s.offDuty then s else s.offerRoute y.up.m p y.hop (y.hops + 1) y.up.snr

/-- What a port does with a relayed frame: of this zone, not seen before under profile 1; its hop is acknowledged under profile 2. -/
def State.relayRx (s : State) (p : Nat) (y : RelayIn) : State :=
  if y.zone ≠ s.number then s.inc C.ROUTE_FOREIGN
  else
    let x := s.relaySeen y
    if x.1 then x.2 else x.2.relayUp p y

/-- A relayed frame as its headers give it. -/
def State.relayOf (s : State) (f : RxFrame) (r : RelayHdr) : RelayIn :=
  { prof := f.hdr.prof, zone := bits r.orig 9 6, hop := (s.airMember f.hdr.src).getD 512, hopSeq := f.hdr.seq, hops := r.hops, up := s.upOf f }

/-- The relayed UP frame at the front (R201, R202, R204, R211, R215, R224, R225). -/
def execRelayedFrameRx (p : Nat) (s : State) : Res :=
  match s.rxFront p fun h => decide (h.typ = 2) && h.relay.isSome with
  | none => .next s
  | some f => match f.hdr.relay with
    | none => .next s
    | some r => if !s.receives p then .next (s.rxPop p) else .next ((s.rxPop p).relayRx p (s.relayOf f r))

/-! ### Acks of sent frames (R184, R186) -/

/-- An acknowledged DOWN frame: its geometry is known, its ASSIGN has arrived. -/
def State.ackedFrame (s : State) (f : DownFrame) : State :=
  let s := match f.geom with
    | some k => let x := s.motion f.member; s.setMotion f.member { x with geomAck := x.geomAck ++ [k] }
    | none => s
  if f.assign.isSome then s.setLink f.member (LK.pend.set (s.link f.member) 0) else s

/-- The frame that an ACK of a port speaks of. -/
def DownFrame.matches_ (f : DownFrame) (p seq : Nat) : Bool := f.waiting && decide (f.sentPort = p ∧ f.seq = seq)

/-- An ACK matches DST, SRC and SEQ of a frame that waits for it, and began within 56 µs of that frame's end (R184). -/
def RxFrame.acks (f : RxFrame) (p : Nat) (d : DownFrame) : Bool :=
  decide (f.hdr.typ = 1 ∧ d.dst = f.hdr.src ∧ f.startNs ≤ d.endAt + 56000) && d.matches_ p f.hdr.seq

/-- The ACK at the front: the frame that it acknowledges is done with. -/
def execAckRx (p : Nat) (s : State) : Res :=
  match s.rxFront p fun h => decide (h.typ = 1) with
  | none => .next s
  | some f =>
    let s := s.rxPop p
    if !s.receives p then .next s
    else match s.air.downq.find? (f.acks p) with
    | none => .next s
    | some d =>
      let s : State := { s with air := { s.air with downq := s.air.downq.filter fun g => !f.acks p g } }
      .next (s.ackedFrame d)

/-- No ACK began within 56 µs of a frame's end (R184, R186), none that waits to be handled either: the frame waits for its next entry, or after 3 repeats is dropped. -/
def execAckMissing (p seq : Nat) (s : State) : Res :=
  match s.air.downq.find? fun f => f.matches_ p seq with
  | none => .next s
  | some f =>
    if s.fleetNs < f.endAt + 56000 ∨ (s.port p).rxq.any (fun a => a.acks p f) then .next s
    else if f.tries ≤ 3 then
      .next { s with air := { s.air with downq := s.air.downq.map fun g => if g.matches_ p seq then { g with waiting := false } else g } }
    else
      let s : State := { s with air := { s.air with downq := s.air.downq.filter fun g => !g.matches_ p seq } }
      .next ((s.inc C.SLUICE_ACK_MISS p).noticeCtr (pSL p) C.SLUICE_ACK_MISS f.member seq)

/-! ### Joins (R193, R194, R430, R431) -/

/-- The short address of a member that has not joined. -/
def State.unjoined (s : State) : Nat := 0x8000 + s.number * 0x200 + 0x1FB

/-- AFLAGS of an authorisation entry. -/
def AU.flags : EF := ef 8 1
/-- MEMBER_ID. -/
def AU.id : EF := ef 0 8
/-- LAST_JCNT. -/
def AU.last : EF := ef 12 4

/-- An authorisation entry. -/
def State.auth (s : State) (hint : Nat) : Nat := s.te pSEC 0 hint

/-- The ASSIGN of a member for a port's active epoch: its UP entry, or none (R189). -/
def State.assignNow (s : State) (p m : Nat) : List Nat :=
  match s.servingPort m with
  | some q => assignData (s.get F.BANK_HDR_EPOCH q (s.activeBank q)) q (s.upEntry q (s.activeBank q) m)
  | none => assignData (s.get F.BANK_HDR_EPOCH p (s.activeBank p)) p none

/-- A JOIN_RESP is queued (R194), under the generation of its request. -/
def State.joinResp (s : State) (p : Nat) (y : JoinIn) (result retry m : Nat) (assign : List Nat) : State :=
  s.queueFrame { typ := 7, port := p, member := m, joinId := y.id, kgen := y.kgen, hop := y.relay,
                 body := toBytes 8 y.id ++ [result, retry] ++ toBytes 2 m ++ [0, 0, 0, 0] ++ assign }

/-- No ASSIGN. -/
def noAssign : List Nat := [0, 0, 0, 0, 0, 0, 0, 0]

/-- An accepted JOIN: receive state, LEARN and answer. -/
def State.joined (s : State) (p : Nat) (y : JoinIn) (m : Nat) (rejoin : Bool) : State :=
  let s := if rejoin then s.setLink m (LK.silent.set (LK.miss.set (s.link m) 0) 0)
    else { s.setLink m 0 with air := { s.air with prevLink := AMap.set (fun _ => 0) s.air.prevLink m 0 } }
  let s := (s.joinLearn m y.prev y.prevValid (if y.relay = none then 1 else y.hops + 1)).refreeze
  let s := s.each (List.range 4) State.portInfo
  s.joinResp p y 0 0 m (s.assignNow p m)

/-- A JOIN at the registry (R265). While REGISTRY is not ON the answer is BUSY, with a RETRY_SF that the spec does not
state. -/
def State.joinAsk (s : State) (p : Nat) (y : JoinIn) : State :=
  if ¬ s.isOn .registry then
    let (v, s) := s.free
    s.joinResp p y 3 (v % 256) 0 noAssign
  else
    let rejoin := (s.indexOf y.id).isSome
    match s.join ⟨y.id, y.profile, y.caps, y.bodyKgen⟩ with
    | (.accepted m, s) => s.joined p y m rejoin
    | (.full, s) => s.joinResp p y 1 0 0 noAssign
    | (.profile, s) => s.joinResp p y 4 0 0 noAssign

/-- The index of a request's sender is held by its MEMBER_ID. -/
def State.holdsIndex (s : State) (y : JoinIn) : Bool := decide (y.src < 512 ∧ s.mget y.src RG.rstate ≠ 0 ∧ s.mget y.src RG.id = y.id)

/-- A relayed request of a member offers a route to it (R215). -/
def State.joinOffer (s : State) (p : Nat) (y : JoinIn) : State := match y.relay with
  | some r => if y.kind ≠ 0 ∧ s.holdsIndex y then s.offerRoute y.src p r (y.hops + 1) y.snr else s
  | none => s

/-- A request delivered to the registry, by its KIND. -/
def State.joinDeliver (s : State) (p : Nat) (y : JoinIn) : State := match y.kind with
  | 0 => s.joinAsk p y
  | 1 =>
    if s.holdsIndex y then
      let q := (s.servingPort y.src).getD p
      let epoch := s.get F.BANK_HDR_EPOCH q (s.activeBank q)
      (s.queueRecord y.src 0 (1 :: s.assignNow p y.src) fun f => { f with assign := some (epoch + 256 * q) }).setLink y.src
        (LK.pend.set (s.link y.src) 1)
    else s.joinResp p y 6 0 0 noAssign
  | _ => if s.holdsIndex y then s.depart y.src else s

/-- FCNT of a JOIN_REQ (R430). -/
def JoinIn.fcnt (y : JoinIn) : Nat := 2 ^ 31 + y.hint % 4096 * 2 ^ 19 + y.jcnt % 2 ^ 19

/-- The ACK of a JOIN_REQ to the sender of its last hop (R184): at rate code 0 in a JOIN opportunity, at ACK_RATE in a RELAY entry. -/
def State.joinAck (s : State) (p : Nat) (y : JoinIn) : State :=
  s.sendAck p y.from_ y.seq y.snr (if y.relay = none then 0 else s.ackRate p) y.endNs y.entryEnd

/-- LAST_JCNT takes a request that is acknowledged as new, and the join cache its pair. -/
def State.joinTake (s : State) (y : JoinIn) : State :=
  let s := s.setTe pSEC 0 (y.hint % 4096) (AU.last.set (s.auth (y.hint % 4096)) (y.jcnt % 2 ^ 19))
  { s with air := { s.air with joinCache := lastN 16 (s.air.joinCache ++ [(y.id, y.fcnt)]) } }

/-- What a port does with a JOIN_REQ, in the order of R431; a unit of a pair that does not serve only follows LAST_JCNT. -/
def State.joinRx (s : State) (p : Nat) (y : JoinIn) : State :=
  let e := s.auth (y.hint % 4096)
  let prev := decide (y.kgen ≠ s.kgen)
  if !bit (AU.flags.get e) 0 ∨ !s.kgenOk y.kgen then s.inc C.SLUICE_MIC_FAIL p
  else
    let s := s.secDerive (if prev then 10 else 8)
    if !y.micOk then s.inc C.SLUICE_MIC_FAIL p
    else if y.id ≠ AU.id.get e then s.inc C.FRAME_SEC_ID_MISMATCH
    else if 2 < y.kind then s
    else if prev ∧ s.offDuty then s
    else if prev then (s.joinAck p y).joinResp p y 5 0 0 noAssign
    else
      let j := y.jcnt % 2 ^ 19
      if j = AU.last.get e ∧ s.air.joinCache.contains (y.id, y.fcnt) then s.joinAck p y
      else if j ≤ AU.last.get e then s.inc C.SLUICE_REPLAY p
      else
        let s := (s.joinAck p y).joinTake y
        if s.offDuty then s
        else if !bit (AU.flags.get e) 1 then (s.inc C.FRAME_SEC_NOT_AUTH).joinResp p y 2 0 0 noAssign
        else ((s.inc C.SLUICE_JOIN_RX p).joinOffer p y).joinDeliver p y

/-- A JOIN_REQ as its headers and clear body give it (R193, R430). One whose FCNT[31] is 0 is no JOIN_REQ of R430 and counts as one whose MIC fails, which the
spec does not say (DESIGN CHOICE, log entry 28). -/
def State.joinOf (s : State) (f : RxFrame) : JoinIn :=
  let h := f.hdr
  let b := fun (i n : Nat) => ofBytes ((f.body.drop i).take n)
  { hint := bits h.fcnt 19 12, jcnt := bits h.fcnt 0 19, kgen := h.kgen, micOk := f.micOk && bit h.fcnt 31, seq := h.seq, snr := f.snr, from_ := h.src,
    src := (s.airMember h.ends.1).getD 512, id := b 0 8, kind := b 8 1, profile := b 9 1, caps := b 10 1, bodyKgen := b 11 1, prev := b 12 2 % 2 ^ 15,
    prevValid := bit (b 12 2) 15, relay := if h.relay = none then none else s.airMember h.src, hops := (h.relay.map (·.hops)).getD 0, endNs := f.endNs, entryEnd := f.entryEnd }

/-- The JOIN_REQ at the front (R193, R201, R431). -/
def execJoinReqRx (p : Nat) (s : State) : Res :=
  match s.rxFront p fun h => decide (h.typ = 6) with
  | none => .next s
  | some f =>
    let s := s.rxPop p
    if !s.receives p then .next s
    else if s.foreignFrame f.hdr then .next (s.inc C.ROUTE_FOREIGN)
    else .next (s.joinRx p (s.joinOf f)).debugHold

/-! ### DOWN_BCAST entries (R170, R190, R191, R202, R211, R226) -/

/-- What a queued frame may do in an entry of a port and group: wait, be dropped, leave for another chip, or go on air to a
member, direct or over a relay. -/
inductive Go where
  | wait
  | drop
  | chip (n : Nat)
  | here (dst : Nat) (hop : Option Nat)
  deriving DecidableEq, Repr

/-- The entry is the one of a member's group on the port that serves it. -/
def State.entryOf (s : State) (p g m : Nat) : Bool := decide (s.servingPort m = some p ∧ m / 64 = g)

/-- What a frame that has not been sent yet does. -/
def State.goFirst (s : State) (p g : Nat) (f : DownFrame) : Go :=
  let m := f.member
  if s.mget m RG.rstate = 0 then
    (if f.leave then (if s.entryOf p g m then .here m none else .wait) else if m / 64 = g then .drop else .wait)
  else if s.mget m RG.profile = 1 then (if s.entryOf p g m ∧ s.isOn .flood then .here m none else .wait)
  else match (s.wayTo (s.addrOf m)).1 with
    | .air port next _ =>
      let hop := if next = m then none else some next
      if port = p ∧ next / 64 = g then .here m hop else .wait
    | .local_ k => if s.entryOf p g k then .here k none else .wait
    | .chip n => if m / 64 = g then .chip n else .wait
    | .drop => if m / 64 = g then .drop else .wait

/-- What a queued frame does; a repeat goes the way of its first sending. -/
def State.goOf (s : State) (p g : Nat) (f : DownFrame) : Go :=
  if f.waiting then .wait
  else if f.typ = 7 then
    (if decide (f.port = p) && (match f.hop with | some r => decide (r / 64 = g) | none => true) then .here f.member f.hop else .wait)
  else if f.tries = 0 then s.goFirst p g f
  else if f.sentPort = p ∧ (f.hop.getD f.member) / 64 = g then .here f.member f.hop
  else .wait

/-- Profile 1 frames carry a relay header and are not acknowledged (R224). -/
def State.flooded (s : State) (f : DownFrame) : Bool := decide (f.typ = 3 ∧ s.mget f.member RG.profile = 1 ∧ s.mget f.member RG.rstate ≠ 0)

/-- The relay header of a downlink frame (R202). -/
def State.downRelay (s : State) (p final seq : Nat) (ttl : Nat) : List Nat :=
  toBytes 2 final ++ toBytes 2 (s.portShort p) ++ toBytes 2 (seq % 4096 + ttl % 8 * 2 ^ 12 + 2 ^ 15) ++ [0, 0]

/-- A frame as it goes on air. -/
def State.downAir (s : State) (p rate : Nat) (f : DownFrame) (final : Nat) (flood : Bool) : AirFrame :=
  { typ := f.typ, dst := f.dst, src := s.portShort p, seq := f.seq, keyId := 0, kgen := f.kgen, fcnt := f.fcnt, rate := rate, body := f.body,
    prof := if flood then 1 else 2,
    id := if f.typ = 7 then f.joinId else s.mget f.member RG.id,
    relay := if flood then s.downRelay p final f.seq (s.get F.FLOOD_CFG_TTL) else if f.hop.isSome then s.downRelay p final f.seq 0 else [] }

/-- The state with one queued frame replaced; TYPE 0 marks it as gone. -/
def State.putDown (s : State) (i : Nat) (f : DownFrame) : State := { s with air := { s.air with downq := setNth s.air.downq i f } }

/-- A frame is sent now in an entry: numbers at its first sending, a hit of its route, its ACK awaited. -/
def State.sendDown (s : State) (p e i : Nat) (f : DownFrame) (dst : Nat) (hop : Option Nat) : State :=
  let flood := s.flooded f
  let final := if f.typ = 7 then s.unjoined else s.memberShort dst
  let (f, s) := if 0 < f.tries then (f, s) else
    let s := if f.typ = 3 ∧ !flood ∧ !f.leave then (s.wayTo (s.addrOf f.member)).2 else s
    let k := if f.kgen = 0 then s.kgen else f.kgen
    let (fc, sq, s) := s.takeNums p
    let d := if flood then 0x8000 + s.number * 0x200 else match hop with
      | some r => s.memberShort r
      | none => final
    ({ f with kgen := k, fcnt := fc, seq := sq, dst := d, hop := hop, sentPort := p,
              prof1 := if flood then s.get F.FLOOD_CFG_REPEAT else 0 }, s)
  let a := s.downAir p (slRate e) f final flood
  let s := s.putAir p a
  let s := if flood then s.inc C.FLOOD_FLOOD_TX else s
  let t := s.portUs p (slRate e) a.psdu
  let f := { f with tries := f.tries + 1, waiting := !flood, endAt := s.fleetNs + t * 1000, prof1 := f.prof1 - 1 }
  s.putDown i (if flood ∧ f.prof1 = 0 then { f with typ := 0 } else f)

/-- One queued frame in an entry, `lead` µs before it counted to it: the state, and the fleet time at which the next may begin once one has been sent. A frame goes
out once in an entry (R186). -/
def State.downOne (p e g lead : Nat) (acc : State × Option Nat) (i : Nat) : State × Option Nat :=
  let (s, sent) := acc
  match s.air.downq[i]? with
  | none => acc
  | some f =>
    if sent.isSome ∨ (0 < f.tries ∧ s.entryAt e < f.endAt) then acc
    else match s.goOf p g f with
    | .wait => acc
    | .drop => (((s.wayTo (s.addrOf f.member)).2).putDown i { f with typ := 0 }, none)
    | .chip n =>
      let s := (s.wayTo (s.addrOf f.member)).2
      ((s.canalUnicast n 0 (.down (s.addrOf f.member) f.body)).putDown i { f with typ := 0 }, none)
    | .here dst hop =>
      let len := 26 + f.body.length + (if s.flooded f ∨ hop.isSome then 8 else 0)
      let t := s.portUs p (slRate e) len
      let tail := 32 + 20 + s.ackUs p
      if s.maySend p ∧ len ≤ 1536 ∧ s.fleetNs + (lead + t + tail + 10) * 1000 ≤ s.entryEnd e then
        (s.sendDown p e i f dst hop, some (s.fleetNs + (t + tail + 32) * 1000))
      else acc

/-- The queue in the order of R190: JOIN_RESP, then RELAY_MAPs that go ahead (R210), then the other DOWN frames. -/
def State.downOrder (s : State) : List Nat :=
  let l := s.air.downq.zip (List.range s.air.downq.length)
  let pick := fun (ok : DownFrame → Bool) => (l.filter fun x => ok x.1).map (·.2)
  pick (fun f => decide (f.typ = 7)) ++ pick (fun f => decide (f.typ = 3) && f.ahead) ++ pick (fun f => decide (f.typ = 3) && !f.ahead)

/-- The body of a group's BUNDLE (R191); without an assembly for this entry no member is present. -/
def State.bundleBody (s : State) (p g e : Nat) : List Nat :=
  let b := AMap.get (fun _ => ({} : BundleSt)) s.air.bundles (p * 8 + g)
  let ents := if b.at_ = s.entryAt e then b.entries else []
  let present := ents.foldl (fun n x => n + 2 ^ (x.1 % 64)) 0
  [g, 16, if b.at_ = s.entryAt e then b.nsp else s.nsp, 0] ++ toBytes 8 present ++ toBytes 4 (s.get F.SFN) ++ ents.flatMap (·.2)

/-- The BUNDLE of an entry, where one is sent, and the fleet time at which the frame after it may begin (R190). -/
def State.sendBundle (s : State) (p g e : Nat) : State × Option Nat :=
  let b := s.bundleBody p g e
  let t := s.portUs p (slRate e) (26 + b.length)
  if 2 ≤ s.level ∧ s.groupMembers p (s.activeBank p) g ≠ [] ∧ s.maySend p ∧ s.fleetNs + (t + 10) * 1000 ≤ s.entryEnd e then
    (s.sendZone p 4 (slRate e) b, some (s.fleetNs + (t + 32) * 1000))
  else (s, none)

/-- The next unicast frame of an entry goes out, the frames before it that leave the queue leaving it; with none to send the entry is over. -/
def State.downNext (s : State) (p i e lead : Nat) : State :=
  let (s, next) := s.downOrder.foldl (State.downOne p e (slMember e / 64) lead) (s, none)
  let s : State := { s with air := { s.air with downq := s.air.downq.filter fun f => f.typ ≠ 0 } }
  match next with
  | some t => s.setPort p { s.port p with down := some (i, t) }
  | none => (s.setPort p { s.port p with down := none }).entryRun p i

/-- A DOWN_BCAST entry sends its next frame (R190): its BUNDLE, or the first unicast frame, as it begins; then, each in its time, one unicast frame after another. A
frame that comes due while the Headgate holds the path is lost to the entry, and the rest with it (R162, R196). -/
def execDownBcastEntry (p i : Nat) (s : State) : Res :=
  match s.entryDue p i 1 with
  | none => .next s
  | some e =>
    let going := (s.port p).down.filter fun d => d.1 = i
    let due := match going with | some d => decide (d.2 ≤ s.fleetNs) | none => true
    if !due then .next s
    else if s.preempted p then .next ((s.setPort p { s.port p with down := none }).entryRun p i)
    else if s.now < (s.port p).txEnd then .next s
    else if going.isSome then .next (s.downNext p i e 0)
    else match s.sendBundle p (slMember e / 64) e with
      | (s, some t) => .next (s.setPort p { s.port p with down := some (i, t) })
      | (s, none) => .next (s.downNext p i e 32)

/-! ### Missed entries (R199, R211) -/

/-- A member goes SILENT (R199, R249, R266). -/
def State.goSilent (s : State) (p m : Nat) : State :=
  let s := s.setLink m (LK.silent.set (s.link m) 1)
  let s := (s.notice (pSL p) I.SLUICE_SILENT_CHG m).mset m RG.silent 1
  (s.holdMember m 7).silentChg p m

/-- A missed entry of a member: at the third in a row it is SILENT. -/
def State.missEntry (s : State) (p m : Nat) : State :=
  let l := s.link m
  let n := min 255 (LK.miss.get l + 1)
  let s := s.setLink m (LK.miss.set l n)
  if 3 ≤ n ∧ LK.silent.get l = 0 ∧ s.mget m RG.rstate ≠ 0 then s.goSilent p m else s

/-- Depth of a member by its route: one or the HOPS of its entry of its own (R211). -/
def State.depthOf (s : State) (m : Nat) : Nat := match s.routeFind (s.addrOf m) 23 with
  | some i => if RT.target.get (s.route i) = 0 then RT.hops.get (s.route i) else 1
  | none => 1

/-- The Headgate held the path in this entry, or the superframe has no beacon on the port. -/
def State.entryVoid (s : State) (p e : Nat) : Bool :=
  s.hgHolds p || !(s.port p).onAir ||
    (match (s.port p).heldAt with | some t => decide (s.entryAt e ≤ t) | none => false)

/-- An UP_MEMBER entry ends (R199). A member at depth 2 or more is counted per superframe instead (R211). -/
def execUpEntryEnd (p i : Nat) (s : State) : Res :=
  let e := s.te (pSL p) (s.activeBank p) i
  if 4 ≤ p ∨ s.offDuty ∨ !slValid e ∨ slKind e ≠ 2 ∨ s.svc p ≠ 2 ∨ ¬ s.isOn .sluice p ∨ s.fleetNs < s.entryEnd e ∨ s.air.done.contains (p, i) then .next s
  else
    let s := s.entryRun p i
    let m := slMember e
    if s.entryVoid p e ∨ 2 ≤ s.depthOf m ∨ s.air.got.contains (p, m) then .next s else .next (s.missEntry p m)

/-! ### Banks (R173 to R175) -/

/-- CLEAR of a bank of SLUICE p. -/
def clearBankFn (p bank : Nat) : TFn := fun s _ _ =>
  if 2 ≤ bank then (s, some { err := 0x05 })
  else if s.activeBank p = bank then (s, some { err := 0x10 })
  else if s.get F.BANK_CTRL_ARMED p = 1 then (s, some { err := 0x11 })
  else (s.each (s.teListed (pSL p) bank) fun s i => s.setTe (pSL p) bank i 0, some {})

/-- CLEAR (opcode 7): every entry of a bank becomes invalid. -/
def execSluiceBankClear (via : Via) (p bank : Nat) (s : State) : Res :=
  if 4 ≤ p then .next s else .next (s.tblOp via (pSL p) 7 bank 0 (clearBankFn p bank))

/-- The bank that is in force on a port at a superframe: its active one, or its armed one where that swaps no later. -/
def State.bankAt (s : State) (q sfn : Nat) : Nat :=
  if s.get F.BANK_CTRL_ARMED q = 1 ∧ !later (s.get F.SWAP_SFN q) sfn 32 then 1 - s.activeBank q else s.activeBank q

/-- Slots of a superframe by SF_CODE. -/
def sfSlots (c : Nat) : Nat := nth 1600 [400, 800] c

/-- Two entries share a slot. -/
def slotsMeet (a b : Nat) : Bool := decide (slStart a < slStart b + slLen b ∧ slStart b < slStart a + slLen a)

/-- The lowest index among entries for which a check fails. -/
def firstBad (l : List (Nat × Nat)) (bad : Nat × Nat → Bool) : Option Nat := (l.find? bad).map (·.1)

/-- The checks of R174 in the order of their codes: each with the index that it names. -/
def State.armChecks (s : State) (p : Nat) : List (Nat × Option Nat) :=
  let b := 1 - s.activeBank p
  let l := s.slots p b
  let sf := s.get F.BANK_HDR_SF_CODE p b
  let down := decide (s.svc p = 0)
  let sfn := if down then s.get F.SFN else s.get F.SWAP_SFN p
  let of := fun (k : Nat) => l.filter fun x => decide (slKind x.2 = k)
  let other := fun (x : Nat × Nat) (ok : Nat → Bool) => l.any fun y => decide (y.1 ≠ x.1) && ok y.2
  let beacon : Option Nat := match of 0 with
    | [] => some 0
    | [x] => if slStart x.2 = 0 then none else some x.1
    | _ :: y :: _ => some y.1
  let dup := fun (x : Nat × Nat) => decide (slKind x.2 = 2) &&
    (other x (fun e => decide (slKind e = 2 ∧ slMember e = slMember x.2)) ||
      (List.range 4).any fun q => decide (q ≠ p) && (s.upEntry q (s.bankAt q sfn) (slMember x.2)).isSome)
  let d := (s.get F.SWAP_SFN p + 2 ^ 32 - s.get F.SFN) % 2 ^ 32
  let soon : Option Nat := if !down && decide (d < 4 ∨ 2 ^ 31 ≤ d) then some 0 else none
  let counted := l.filter fun x => decide (slKind x.2 = 1 ∨ slKind x.2 = 3 ∨ slKind x.2 = 4)
  let group := fun (x : Nat × Nat) => decide (slKind x.2 = 1) &&
    (decide (slMember x.2 % 64 ≠ 0) || other x fun e => decide (slKind e = 1 ∧ slMember e = slMember x.2))
  let join := fun (x : Nat × Nat) => decide (slKind x.2 = 4 ∧ (slRate x.2 ≠ 0 ∨ slLen x.2 < 3))
  let short := fun (x : Nat × Nat) => decide (slKind x.2 = 0 ∧ slLen x.2 * 125 < s.portUs p (slRate x.2) (58 + 4 * counted.length))
  [(1, beacon), (2, firstBad l fun x => other x (slotsMeet x.2)), (3, firstBad l fun x => decide (sfSlots sf < slStart x.2 + slLen x.2)),
   (4, firstBad l dup), (5, soon), (6, (counted[32]?).map (·.1)), (7, firstBad l group), (8, firstBad l join), (9, firstBad l short)]

/-- BANK_EPOCH after a swap (R175). -/
def nextEpochOf (e : Nat) : Nat := if 255 ≤ e then 1 else e + 1

/-- The banks of a port swap (R175); an engine that is not ON sets SWAP_DONE when it returns. -/
def State.swapBank (s : State) (p : Nat) : State :=
  let old := s.activeBank p
  let ep := nextEpochOf (s.get F.BANK_HDR_EPOCH p old)
  let s := (s.set F.BANK_CTRL_ACTIVE (1 - old) p).set F.BANK_CTRL_ARMED 0 p
  let s := s.set F.BANK_HDR_EPOCH ep p (1 - old)
  let s := if s.isOn .sluice p then s.irq (pSL p) I.SLUICE_SWAP_DONE else s.setPort p { s.port p with swapDue := true }
  let s := s.each s.members State.linkShow
  s.each (List.range 4) State.portInfo

/-- Members with an UP_MEMBER entry in a bank. -/
def State.bankMembers (s : State) (p b k : Nat) : List Nat := distinct (((s.slots p b).filter fun x => decide (slKind x.2 = k)).map fun x => slMember x.2)

/-- ASSIGNs and RELAY_MAPs of an armed bank are queued (R175, R210). -/
def State.announceBank (s : State) (p : Nat) : State :=
  let a := s.activeBank p
  let ep := nextEpochOf (s.get F.BANK_HDR_EPOCH p a)
  let ms := (distinct (s.bankMembers p a 2 ++ s.bankMembers p (1 - a) 2)).filter fun m =>
    decide (s.mget m RG.rstate ≠ 0 ∧ (s.servingPort m).isSome) &&
      decide ((s.upEntry p a m).map (fun e => (slStart e, slLen e, slRate e)) ≠ (s.upEntry p (1 - a) m).map fun e => (slStart e, slLen e, slRate e))
  let s := s.each ms fun s m =>
    (s.queueRecord m 0 (1 :: assignData ep p (s.upEntry p (1 - a) m)) fun f => { f with assign := some (ep + 256 * p) }).setLink m
      (LK.pend.set (s.link m) 1)
  let rs := (distinct (s.bankMembers p a 5 ++ s.bankMembers p (1 - a) 5)).filter fun m =>
    decide ((s.relayMapData p a m 0 false) ≠ s.relayMapData p (1 - a) m 0 false)
  s.each rs fun s m => s.queueRecord m 31 (s.relayMapData p (1 - a) m ep false) fun f => { f with relayMap := true }

/-- BANK_CTRL.ARM (R174, R175). -/
def execBankArm (p : Nat) (s : State) : Res :=
  if 4 ≤ p ∨ s.get F.BANK_CTRL_ARMED p = 1 then .next s
  else match (s.armChecks p).find? fun c => c.2.isSome with
    | some (code, idx) =>
      .next (((s.set F.BANK_CTRL_ARM_ERR code p).set F.BANK_CTRL_ARM_INDEX (idx.getD 0) p).irq (pSL p) I.SLUICE_ARM_REFUSED)
    | none =>
      let b := 1 - s.activeBank p
      let s := (s.set F.BANK_CTRL_ARM_ERR 0 p).set F.BANK_CTRL_ARM_INDEX 0 p
      let rates := ((s.slots p b).filter fun x => decide (slKind x.2 = 2 ∨ slKind x.2 = 5)).map fun x => slRate x.2
      let s := s.set F.BANK_HDR_ACK_RATE (match rates with | [] => 0 | r :: l => l.foldl min r) p b
      if s.svc p = 0 then .next ((s.swapBank p).newPeriod s.period)
      else .next ((s.set F.BANK_CTRL_ARMED 1 p).announceBank p)

/-- BANK_CTRL.CANCEL (R175): the ASSIGNs of the next epoch that are still queued are withdrawn. -/
def State.cancelBank (s : State) (p : Nat) : State :=
  if s.get F.BANK_CTRL_ARMED p = 0 then s
  else
    let key := nextEpochOf (s.get F.BANK_HDR_EPOCH p (s.activeBank p)) + 256 * p
    let gone := s.air.downq.filter fun f => f.assign = some key
    let s : State := { s with air := { s.air with downq := s.air.downq.filter fun f => f.assign ≠ some key } }
    (s.each gone fun s f => s.setLink f.member (LK.pend.set (s.link f.member) 0)).set F.BANK_CTRL_ARMED 0 p

/-- CANCEL. -/
def execBankCancel (p : Nat) (s : State) : Res := if 4 ≤ p then .next s else .next (s.cancelBank p)

end Sys2Proof.Machine
end

