-- ==== Sys2Proof/Machine/Arbiter.lean ====
section
/-! DEFINITION. The arbiter's commands: requests, the end of a grant, withdrawals, quota windows, freeze, LW_CLR (R333 to
R339). -/
namespace Sys2Proof.Machine
open Sys2Proof

/-- A requester makes a request of `beats` beats, to the shared memories or (with `target`) to a block. A request to a
block that is not ON completes at the bridge: a read returns all ones, a write is discarded, BRIDGE_ISO counts (R337).
Otherwise it is granted at once, parked, or, as the fifth, waits with its handshake (R333, R335). -/
def execArbRequest (region r beats : Nat) (write : Bool) (target : Option Page) (s : State) : Res :=
  if 8 ≤ region ∨ !isRequester region r ∨ beats = 0 ∨ 256 < beats then .next s
  else
    let iso := match target with | some p => decide (s.st p ≠ stOn) | none => false
    if iso then
      let s := s.incP ⟨.regionCtl, region⟩ C.REGION_CTL_BRIDGE_ISO
      .next (if write then s else s.emit (.arbRead region r 0xFFFFFFFF))
    else
      let s := s.arbSettle region
      let a := s.arbOf region
      let q : ArbReq := ⟨r, beats, s.now⟩
      if 4 ≤ (a.parked.filter fun q => q.who = r).length then
        if a.stalled.any fun q => q.who = r then .next s
        else .next ((s.setArb region { a with stalled := a.stalled ++ [q] }).incP ⟨.regionCtl, region⟩ C.REGION_CTL_PEND_FULL)
      else
        let s := (s.setArb region { a with parked := a.parked ++ [q] }).arbShow region
        .next (if a.decideAt.isSome then s else s.arbDecide region s.now)

/-- The grant in progress ends: its owner has had all its beats, or BURST of them, and then the remainder goes back to
the head of its queue, its wait counted from now; the next grant is decided (R333). -/
def execArbGrantEnd (region : Nat) (s : State) : Res :=
  if 8 ≤ region then .next s
  else
    let s := s.arbSettle region
    let a := s.arbOf region
    match a.grant with
    | none => .next s
    | some g =>
      let rest := g.req.beats - g.len
      let parked := if rest = 0 then a.parked else ⟨g.req.who, rest, s.now⟩ :: a.parked
      .next (((s.setArb region { a with grant := none, parked := parked }).arbShow region).arbDecide region s.now)

/-- A requester withdraws its k-th parked request, at no cost, or (`none`) the request just granted whose first beat has
not been taken: one dead cycle, and the next grant is decided in the cycle after it (R336). -/
def execArbWithdraw (region r : Nat) (parked : Option Nat) (s : State) : Res :=
  if 8 ≤ region then .next s
  else
    let s := s.arbSettle region
    let a := s.arbOf region
    match parked with
    | some k =>
      let mine := a.parked.filter fun q => q.who = r
      let others := a.parked.filter fun q => q.who ≠ r
      if mine.length ≤ k then .next s
      else
        let a := { a with parked := mine.take k ++ mine.drop (k + 1) ++ others }.unstall r s.now
        .next ((s.setArb region a).arbShow region)
    | none => match a.grant with
      | none => .next s
      | some g =>
        if g.req.who ≠ r then .next s
        else
          let s := s.setArb region { a with grant := none, decideAt := some (s.now + 2 * cyclePs) }
          .next ((s.incP ⟨.regionCtl, region⟩ C.REGION_CTL_DEAD_CYCLES).arbShow region)

/-- A quota window ends: no requester is masked (R334). -/
def execQuotaWindow (region : Nat) (s : State) : Res :=
  if 8 ≤ region then .next s
  else
    let a := s.arbOf region
    let win := max 1 (s.get F.ARB_CFG_QUOTA_WIN region) * cyclePs
    if s.now < a.winAt + win then .next s
    else
      let s := s.arbSettle region
      let a := s.arbOf region
      .next ((s.setArb region { a with used := [], winAt := a.winAt + (s.now - a.winAt) / win * win }).arbShow region)

/-- ARB_CTRL.FREEZE is written (R338): 1 stops new grants but those of requester 31, 0 lets them go on. -/
def State.freezeWrite (s : State) (region : Nat) (src : Src) (on : Bool) : State :=
  if on then
    if s.get F.ARB_CTRL_FREEZE region = 1 then s
    else
      let s := (s.arbSettle region).set F.ARB_CTRL_FREEZE 1 region
      let host := match src with | .host | .bar2 _ => true | _ => false
      let s := s.set F.ARB_CTRL_FREEZE_HOST (b2n host) region
      (s.setArb region { s.arbOf region with freezeAt := some s.now }).arbShow region
  else if s.get F.ARB_CTRL_FREEZE region = 0 then s else s.arbThaw region

/-- FREEZE is written. -/
def execFreezeWrite (region : Nat) (src : Src) (on : Bool) (s : State) : Res :=
  if 8 ≤ region ∨ s.jtagBars src ⟨.regionCtl, region⟩ true then .next s else .next (s.freezeWrite region src on)

/-- FREEZE_MAX ms after it was set, FREEZE ends: counted, recorded, IRQ_STATUS bit 8 (R338). -/
def execFreezeTimeout (region : Nat) (s : State) : Res :=
  match (s.arbOf region).freezeAt with
  | none => .next s
  | some t =>
    if s.now < t + ms (s.get F.ARB_CFG_FREEZE_MAX region) then .next s
    else
      let p : Page := ⟨.regionCtl, region⟩
      .next (((s.incP p C.REGION_CTL_FREEZE_TIMEOUTS).notice p I.REGION_CTL_FREEZE_TIMEOUT).arbThaw region)

/-- ARB_CTRL.LW_GO: the LONGEST_WAIT of a requester restarts at its next grant (R339). -/
def State.lwClr (s : State) (region r : Nat) : State :=
  let a := s.arbOf region
  s.setArb region { a with restart := if a.restart.contains r then a.restart else r :: a.restart }

/-- LW_CLR is applied. -/
def execLwClr (region r : Nat) (s : State) : Res :=
  if 8 ≤ region ∨ 32 ≤ r then .next s else .next (s.lwClr region r)

end Sys2Proof.Machine
end

