-- ==== Sys2Proof/Machine/EventLog.lean ====
section
/-! DEFINITION. The event recorder's own commands and tables: weir tokens and buckets, the SUMMARY and BOOT records of each
whole fleet second, the hourly save, the founding batches, and the reading of records (R466 to R475). -/
namespace Sys2Proof.Machine
open Sys2Proof

/-- The EVLOG page. -/
abbrev pEV : Page := ⟨.evlog, 0⟩

/-- A token falls due at the global weir, or at the bucket of a code or the shared one (R467); nothing happens before
its time. -/
def execWeirTokenDue (code : Option Nat) (s : State) : Res :=
  match code with
  | none => .next { s with ev := { s.ev with
      global := s.ev.global.refill globalRate globalBurst s.now,
      shared := if s.ev.shared.due = 0 then s.ev.shared else s.ev.shared.refill (s.get F.WEIR_DEF_RATE) (s.get F.WEIR_DEF_BURST) s.now } }
  | some c =>
    let (rate, burst) := s.weirOf c
    let l := s.ev.buckets.map fun b => if b.code = some c then b.refill rate burst s.now else b
    .next { s with ev := { s.ev with buckets := l } }

/-- A bucket may be returned: 60 s without a record of its code, full again, and no suppressed record waiting for its
SUMMARY (R467). -/
def State.bucketIdle (s : State) (c : Nat) (b : Bucket) : Bool :=
  decide (b.last + sec 60 ≤ s.now) && decide ((b.refill (s.weirOf c).1 (s.weirOf c).2 s.now).tokens = (s.weirOf c).2)
    && !(s.ev.suppressed.any fun x => x.code = c)

/-- A bucket is returned (R467). -/
def execWeirBucketReturn (code : Nat) (s : State) : Res :=
  .next { s with ev := { s.ev with buckets := s.ev.buckets.filter fun b => !(decide (b.code = some code) && s.bucketIdle code b) } }

/-- NEXT_SEQ is saved to the other save sector (R469, R472). -/
def State.saveSeq (s : State) : State :=
  let e := s.ev
  { s with ev := { e with saves := setNth e.saves e.saveNext (some e.nextSeq), saveNext := (e.saveNext + 1) % 2,
                          saveAt := s.now + sec 3600 } }

/-- The BOOT record, at the first whole fleet second after the supervisor is released, with NEXT_SEQ saved (R466, R469);
the first of the chip's life opens the area of BLANK (R472). -/
def State.bootRecord (s : State) : State :=
  if s.ev.bootDone ∨ s.get F.SUP_STATUS_RUNNING = 0 then s
  else
    let bankB := decide (s.get F.BOOT_STATUS_BANK = 1)
    let areas := if s.ev.areaOpen = [] then [s.ev.area] else s.ev.areaOpen
    let s : State := { s with ev := { s.ev with bootDone := true, bankB := bankB, fallback := s.boot.refusedBank.isSome, areaOpen := areas } }
    (s.sysEvent 3 pEV (b2n bankB + b2n s.ev.fallback * 2 + s.get F.BOOT_STATUS_RECOVERY * 4 + s.get F.BOOT_STATUS_SUP_RESULT * 256)
      (s.get F.VERSION 0 0) (s.get F.RESET_CAUSE_CAUSE)).saveSeq

/-- A whole fleet second begins: one SUMMARY for each code that had suppressions in the second just ended, in ascending
CODE order, then the BOOT record if it is due (R466, R468). -/
def execEventSummary (s : State) : Res :=
  if s.fleetSec = s.ev.lastSumSec ∨ s.noCounter then .next s else .next s.newSecond.bootRecord

/-- The supervisor saves NEXT_SEQ once an hour (R469). -/
def execSeqSave (s : State) : Res :=
  if s.now < s.ev.saveAt ∨ s.get F.SUP_STATUS_RUNNING = 0 then .next s else .next s.saveSeq

/-- FOUND_STATUS follows the current area (R472). -/
def State.foundStatus (s : State) : State :=
  let flash := { s.ev with pendingFound := [] }
  ((s.set F.FOUND_STATUS_FILL (flash.nextSlot s.ev.area)).set F.FOUND_STATUS_AREA s.ev.area).set F.FOUND_STATUS_SET_FILL
    (flash.nextSetSlot s.ev.area)

/-- Pinned founding records are programmed: they are pinned no longer, and NEXT_SEQ is saved (R469, R472, R473). -/
def State.foundProgram (s : State) (now rest : List FoundRec) : State :=
  let done := fun (c : CircRec) => now.any (fun f => f.ent.seq = c.ent.seq) && !(rest.any fun f => f.ent.seq = c.ent.seq)
  let circ := s.ev.circ.map fun c => if done c then { c with pin := false } else c
  let found := s.ev.founding ++ now
  let s : State := { s with ev := { s.ev with founding := found, pendingFound := rest, batchAt := s.now, circ := circ } }
  let s := (s.inc C.EVLOG_FOUND_PROGRAMMED 0 now.length).foundStatus
  if now = [] then s else s.saveSeq

/-- The records bound for one area are programmed at once. -/
def State.foundNow (s : State) (area : Nat) : State :=
  s.foundProgram (s.ev.pendingFound.filter fun f => f.area = area) (s.ev.pendingFound.filter fun f => f.area ≠ area)

/-- A batch of pinned founding records is programmed, behind any flash operation in progress (R473). -/
def execFoundingBatch (n : Nat) (s : State) : Res :=
  if s.get F.UPD_STATUS_BUSY = 1 then .next s
  else .next (s.foundProgram (s.ev.pendingFound.take n) (s.ev.pendingFound.drop n))

/-! ### Reading (R475) -/

/-- Every record held in the extension and the circulating area, in SEQ order. -/
def State.heldRecs (s : State) : List EvRec :=
  let here := (s.ev.circ.map (·.ent)).filter fun r => !(s.ev.ext.any fun x => x.seq = r.seq)
  match s.ev.ext with
  | [] => here
  | h :: _ => (here.filter fun r => !later r.seq h.seq 32) ++ s.ev.ext ++ here.filter fun r => later r.seq h.seq 32

/-- OLDEST_SEQ and NEWEST_SEQ: with nothing held, the next SEQ and one less (R475). -/
def State.seqSpan (s : State) : Nat × Nat :=
  let l := s.heldRecs
  match l.head?, l.getLast? with
  | some a, some b => (a.seq, b.seq)
  | _, _ => (s.ev.nextSeq, (s.ev.nextSeq + 2 ^ 32 - 1) % 2 ^ 32)

/-- The window that a record read returns: the record, OLDEST_SEQ and NEWEST_SEQ. -/
def State.recWindow (s : State) (b : List Nat) : Nat :=
  ofBytes (b ++ List.replicate (32 - b.length) 0) + s.seqSpan.1 * 2 ^ 256 + s.seqSpan.2 * 2 ^ 288

/-- A record that only the extension holds, and of which DRAM has lost a word (R25): its CRC fails. -/
def State.extBad (s : State) (r : EvRec) : Bool :=
  let at_ := s.get F.PART_BASE_BASE 0 0 * 2 ^ 20 + r.seq % (max 1 s.extCap) * 32
  (s.ev.ext.any fun x => x.seq = r.seq) && !(s.ev.circ.any fun c => c.ent.seq = r.seq) &&
    s.clk.lostWords.any fun w => decide (at_ < 8 * w + 8 ∧ 8 * w < at_ + 32)

/-- What a READ or NEXT of table 0 answers for the record found: NOT_FOUND with OLDEST_SEQ and NEWEST_SEQ, or the record, with BAD_CRC
where its CRC fails (R475). -/
def State.evAnswer (s : State) : Option EvRec → State × TRes
  | none => (s, { err := 0x01, data := some (s.recWindow []) })
  | some r =>
    if s.extBad r then ((s.inc C.EVLOG_CRC_FAIL).irq pEV I.EVLOG_CRC_FAIL, { err := 0x10, data := some (s.recWindow r.bytes) })
    else (s, { data := some (s.recWindow r.bytes) })

/-- READ of table 0 by SEQ. -/
def State.readEvent (s : State) (seq : Nat) : State × TRes := s.evAnswer (s.heldRecs.find? fun r => r.seq = seq)

/-- NEXT of table 0: the held record with the earliest SEQ later than the key (R474). -/
def State.nextEvent (s : State) (seq : Nat) : State × TRes := s.evAnswer (s.heldRecs.find? fun r => later r.seq seq 32)

/-- A founding slot (R472): an erased one is NOT_FOUND. -/
def State.readFound (s : State) (idx : Nat) : TRes :=
  let area := idx / 2 ^ 13
  let slot := idx % 2 ^ 13
  if 5 ≤ area ∨ 4352 ≤ slot then { err := 0x04 }
  else match s.ev.founding.find? fun f => f.area = area ∧ f.slot = slot with
    | some f => { index := some idx, data := some (ofBytes f.ent.bytes) }
    | none => { err := 0x01 }

/-- The next programmed founding slot after an index; erased slots are skipped. -/
def State.nextFound (s : State) (idx : Nat) : TRes :=
  let after := (s.ev.founding.map fun f => (f.area * 2 ^ 13 + f.slot, f.ent)).filter fun x => decide (idx < x.1)
  match after.foldl (fun (b : Option (Nat × EvRec)) x => match b with
      | some y => if x.1 < y.1 then some x else some y
      | none => some x) none with
  | some x => { index := some x.1, data := some (ofBytes x.2.bytes) }
  | none => { err := 0x01 }

/-- A bucket's weir is written anew (R475): tokens above BURST go, and the next one falls due one period after the write. -/
def State.weirApply (s : State) (b : Bucket) : Bucket := match b.code with
  | none => b
  | some c =>
    let (rate, burst) := s.weirOf c
    { b with tokens := min b.tokens burst, due := s.now + (if rate = 0 then 0 else 1000000000000 / rate) }

/-- WRITE of a weir entry: a value out of range or a reserved bit set is REFUSED; an accepted one applies to the code's
bucket at once, and so it does to the bucket of the code that the entry named before (R475). -/
def State.writeWeir (s : State) (idx data : Nat) : State × TRes :=
  let code := bits data 0 16
  let rate := bits data 16 16
  let burst := bits data 32 16
  if 64 ≤ idx then (s, { err := 0x04 })
  else if 10000 < rate ∨ burst < 1 ∨ 1024 < burst ∨ bits data 49 15 ≠ 0 then (s, { err := 0x0C })
  else
    let was := s.te pEV 1 idx
    let s := s.setTe pEV 1 idx (data % 2 ^ 64)
    let upd := fun (b : Bucket) =>
      if b.code = some code ∨ (b.code = some (bits was 0 16) ∧ bits was 48 1 = 1) then s.weirApply b else b
    let s : State := { s with ev := { s.ev with buckets := s.ev.buckets.map upd } }
    (s, {})

end Sys2Proof.Machine
end

