-- ==== Sys2Proof/Machine/Canal.lean ====
section
/-! DEFINITION. The Canal link: port state machine, retry and credits, numbering, the ring map, the island condition and hop
delay (R366 to R380). Messages, tunnel and fleet time stand in later files. -/
namespace Sys2Proof.Machine
open Sys2Proof

/-- A CANAL page. -/
abbrev pCANAL (p : Nat) : Page := ⟨.canal, p⟩
/-- The PAIR page. -/
abbrev pPAIR : Page := ⟨.pair, 0⟩

/-! ### The ring map (R376 to R378) -/

/-- Zone z can be reached east or west over links that are up. -/
def State.reachable (s : State) (z : Nat) : Bool :=
  let n := s.ringSize
  let me := s.number % n
  decide (z < n) && (decide (z = me) || (s.canalUp 0 && s.linksUp me ((z + n - me) % n)) || (s.canalUp 1 && s.linksUp z ((me + n - z) % n)))

/-- Two or more consecutive positions are unreachable. -/
def State.runLost (s : State) : Bool :=
  let n := s.ringSize
  (List.range n).any fun z => !s.reachable z && !s.reachable ((z + 1) % n) && decide (2 ≤ n)

/-- REACH as a word: zones `from_` to `from_` + 31. -/
def State.reachWord (s : State) (from_ : Nat) : Nat :=
  if s.get F.RING_STATUS_NUMBERED = 0 then 0
  else (List.range 32).foldl (fun m i => m + b2n (s.reachable (from_ + i)) * 2 ^ i) 0

/-- The registers and times that follow the map: DOWN_LINKS, CLOSED, REACH, the island condition's clocks; ISLAND clears
when every position is reachable again (R378). -/
def State.ringShow (s : State) : State :=
  let c := s.canal
  let lost := s.runLost
  let both := !s.canalUp 0 && !s.canalUp 1
  let hold := fun (o : Option Nat) (b : Bool) => if b then (match o with | some t => some t | none => some s.now) else none
  let s : State := { s with canal := { c with unreachAt := hold c.unreachAt lost, bothDownAt := hold c.bothDownAt both } }
  let s := s.set F.RING_STATUS_DOWN_LINKS (min 15 c.down.length)
  let s := s.set F.RING_STATUS_CLOSED (b2n (c.closed && decide (c.down = [])))
  let s := (s.set F.REACH_LO (s.reachWord 0)).set F.REACH_HI (s.reachWord 32)
  let all := (List.range s.ringSize).all s.reachable
  if all && !both then s.set F.RING_STATUS_ISLAND 0 else s

/-- The link that a port of this chip ends: link i joins positions i and i + 1, eastward. -/
def State.linkOf (s : State) (port : Nat) : Nat :=
  let n := s.ringSize
  if port = 0 then s.number % n else (s.number + n - 1) % n

/-- A link's state in the map. -/
def State.mapLink (s : State) (link : Nat) (up : Bool) : State :=
  let d := s.canal.down.filter (· ≠ link)
  ({ s with canal := { s.canal with down := if up then d else link :: d } }).ringShow

/-- RING_MISMATCH is counted, shown and recorded (R374, R375). -/
def State.ringMismatch (s : State) : State :=
  (s.inc C.CANAL_RING_MISMATCH).notice (pCANAL 0) I.CANAL_RING_MISMATCH

/-! ### The port state machine (R369) -/

/-- This chip's HELLO (R369). -/
def State.helloOf (s : State) : Hello :=
  { site := s.canal.site, head := decide (s.get F.RING_STATUS_HEAD = 1), role := s.get F.RING_STATUS_UNIT, number := s.number,
    numbered := decide (s.get F.RING_STATUS_NUMBERED = 1), paired := s.pair.paired, serial := Config.serial.toNat }

/-- A HELLO is sent on a port; a CTRL flit has no message header (R369, R372). -/
def State.sendHello (s : State) (p : Nat) : State := s.emit (.canal p ⟨none, 0, 0, 0, 0, 0, decide (p = 1), .hello s.helloOf⟩ [])

/-- A port begins training, with a HELLO. -/
def State.canalTrain (s : State) (p : Nat) : State :=
  let s := s.set F.CPORT_STATUS_STATE 1 p
  (s.setCport p { s.cport p with trainAt := s.now }).sendHello p

/-- A message that a failed port held goes out of the other port at once; a broadcast copy ends there (R376). -/
def State.reroute (s : State) (other : Nat) (m : CanalMsg) : State :=
  match m.dest with
  | none => s
  | some _ => if m.body.cls = 7 then s else if s.canalUp other then s.canalOut other m else s.inc C.CANAL_UNROUTABLE

/-- A port leaves UP: its messages are re-routed, a BREAK notice goes the other way, IRQ_STATUS bit 8 (R369, R376). -/
def State.canalLeave (s : State) (p next : Nat) : State :=
  let c := s.cport p
  let was := s.canalUp p
  let s := (s.set F.CPORT_STATUS_STATE next p).set F.CPORT_STATUS_DELAY_VALID 0 p
  let s := (s.set F.LINK_DELAY 0 p).setCport p { trainAt := s.now }
  let s := if next = 1 then s.sendHello p else s
  if !was then s.ringShow
  else
    let s := ((s.inc C.CANAL_LINK_DOWNS p).irq (pCANAL p) I.CANAL_PORT_CHG).irq (pCANAL p) I.CANAL_BREAK
    let link := s.linkOf p
    let s := s.mapLink link false
    let s := s.each (c.replay.map (·.2) ++ c.txq) fun s m => s.reroute (1 - p) m
    if s.canalUp (1 - p) then s.ctrlOut (1 - p) (.brk link) else s

/-- ENUM is sent east by the head with COUNT 1 (R374). -/
def State.enumStart (s : State) : State :=
  if s.isHead ∧ s.canalUp 0 ∧ s.get F.RING_STATUS_CONFLICT = 0 then
    let s := (s.set F.RING_STATUS_NUMBER 0).set F.RING_STATUS_NUMBERED 1
    { s with canal := { s.canal with enumAt := some s.now } }.ctrlOut 0 (.enum 1)
  else s

/-- ROLE_CONFLICT (R384): the partner of a PAIRED unit stands east of a primary and west of a secondary; a partner of the
same ROLE_SEL, or that is not PAIRED, is a conflict. -/
def State.roleCheck (s : State) (p : Nat) (h : Hello) : State :=
  let own := s.get F.PAIR_STATUS_ROLE
  if s.pair.paired ∧ p = own ∧ (h.role = own ∨ !h.paired) ∧ s.get F.PAIR_STATUS_ROLE_CONFLICT = 0 then
    (s.set F.PAIR_STATUS_ROLE_CONFLICT 1).sysEvent 15 pPAIR own h.role (b2n h.paired)
  else s

/-- Lock, deskew and a HELLO within 2 ms of training: UP with the same SITE_ID, REFUSED with another (R369). -/
def execCanalTrained (port : Nat) (h : Hello) (laneSwap : Bool) (s : State) : Res :=
  let c := s.cport port
  if 2 ≤ port ∨ s.get F.CPORT_STATUS_STATE port ≠ 1 ∨ c.trainAt + ms 2 < s.now ∨ ¬ s.isOn .canal port then .next s
  else
    let s := s.set F.CPORT_STATUS_LANE_SWAP (b2n laneSwap) port
    if h.site ≠ s.canal.site then
      .next (((s.set F.CPORT_STATUS_STATE 3 port).inc C.CANAL_SITE_REFUSED port).irq (pCANAL port) I.CANAL_PORT_CHG)
    else
      let s := ((s.set F.CPORT_STATUS_STATE 2 port).set F.CPORT_STATUS_NEIGHBOUR h.number port).set F.CPORT_STATUS_NB_UNIT h.role port
      let s := s.set F.CPORT_STATUS_NB_NUMBERED (b2n h.numbered) port
      let s := s.setCport port { goodAt := s.now, ackAt := s.now, reqAt := s.now }
      let s := (s.irq (pCANAL port) I.CANAL_PORT_CHG).mapLink (s.linkOf port) true
      let s := (s.roleCheck port h).ctrlOut port (.linkUp (s.linkOf port))
      let s := if s.canalUp (1 - port) then s.ctrlOut (1 - port) (.linkUp (s.linkOf port)) else s
      .next (if s.get F.RING_STATUS_NUMBERED = 0 ∨ port = 0 ∨ !h.numbered then s.enumStart else s)

/-- 2 ms without lock: counted, and training restarts (R369). -/
def execCanalTrainTimeout (port : Nat) (s : State) : Res :=
  if 2 ≤ port ∨ s.get F.CPORT_STATUS_STATE port ≠ 1 ∨ s.now < (s.cport port).trainAt + ms 2 then .next s
  else .next ((s.inc C.CANAL_TRAIN_FAIL port).canalTrain port)

/-- An UP port fails: 4 µs without a good flit, a lane's block lock lost, or 8 replays in a row without progress (R369). -/
def execCanalLinkFail (port : Nat) (lockLost : Bool) (s : State) : Res :=
  let c := s.cport port
  if 2 ≤ port ∨ !s.canalUp port then .next s
  else if lockLost ∨ c.goodAt + us 4 ≤ s.now ∨ 8 ≤ c.replaysRow then .next (s.canalLeave port 1)
  else .next s

/-- ACKSEQ has not advanced for 1 µs: what is unacknowledged is sent again (R368). -/
def execCanalReplayTimeout (port : Nat) (s : State) : Res :=
  let c := s.cport port
  if 2 ≤ port ∨ !s.canalUp port ∨ c.replay = [] ∨ s.now < c.ackAt + us 1 then .next s
  else
    let s := s.each c.replay fun s e => (s.emit (.canal port e.2 (c.flits e.2 (e.1 + 4097 - e.2.flits)))).inc C.CANAL_FLITS_TX port e.2.flits
    .next ((s.setCport port { c with ackAt := s.now, replaysRow := c.replaysRow + 1 }).inc C.CANAL_REPLAYS port)

/-- ACKSEQ and the credit total of a good flit (R368). -/
def State.canalTail (s : State) (port ackSeq crClass crTotal : Nat) : State :=
  let c := s.cport port
  let keep := c.replay.filter fun e => later e.1 ackSeq 12
  let adv := decide (keep.length < c.replay.length)
  let back := (crTotal + 256 - nth 0 c.freed crClass % 256) % 256
  let c := { c with
    replay := keep, goodAt := s.now, ackAt := if adv then s.now else c.ackAt, replaysRow := if adv then 0 else c.replaysRow,
    freed := setNth c.freed crClass (crTotal % 256),
    credits := setNth c.credits crClass (min (canalBuffer crClass) (nth 0 c.credits crClass + back)) }
  (s.setCport port c).canalPump port

/-- A CTRL flit that is no ring notice: a HELLO that changes to this SITE_ID takes a REFUSED port back to TRAINING (R369);
a DELAY_REQ is answered (R379). -/
def State.canalCtrl (s : State) (port : Nat) (b : CanalBody) : State :=
  match b with
  | .hello h =>
    if s.get F.CPORT_STATUS_STATE port = 3 ∧ h.site = s.canal.site then s.canalTrain port
    else if s.canalUp port then (s.set F.CPORT_STATUS_NEIGHBOUR h.number port).set F.CPORT_STATUS_NB_NUMBERED (b2n h.numbered) port
    else s
  | .delayReq t1 => if s.canalUp port then s.ctrlOut port (.delayResp t1 s.ft s.ft) else s
  | _ => s

/-- A flit arrives (R368): a failed CRC, or a sequenced flit that is not the next, is counted and discarded; a good one
gives its ACKSEQ and credit total, and a CTRL flit is acted on. `seq` is none for NULL and CTRL flits. -/
def execCanalFlitRx (port : Nat) (crcOk : Bool) (seq : Option Nat) (ackSeq crClass crTotal : Nat) (ctrl : Option CanalBody) (s : State) : Res :=
  if 2 ≤ port ∨ ¬ s.isOn .canal port then .next s
  else
    let c := s.cport port
    let s := s.inc C.CANAL_FLITS_RX port
    if !crcOk then .next ((s.setCport port { c with discarding := true }).inc C.CANAL_CRC_ERR port)
    else
      let bad := match seq with | some q => decide (q % 4096 ≠ (c.rxSeq + 1) % 4096) | none => false
      if bad && s.canalUp port then .next ((s.setCport port { c with discarding := true, goodAt := s.now }).inc C.CANAL_CRC_ERR port)
      else
        let s := match seq with | some q => s.setCport port { c with rxSeq := q % 4096, discarding := false } | none => s
        let s := if s.canalUp port then s.canalTail port ackSeq (crClass % 8) crTotal else s
        .next (match ctrl with | some b => s.canalCtrl port b | none => s)

/-! ### Numbering (R373 to R375) -/

/-- POSITIONS as a chip other than the head knows it: RING_SIZE, or one more than the highest COUNT seen. -/
def State.learnPositions (s : State) (count : Nat) : State :=
  let n := if s.get F.RING_CFG_RING_SIZE ≠ 0 then s.get F.RING_CFG_RING_SIZE else max (s.get F.RING_STATUS_POSITIONS) (min 64 (count + 1))
  s.set F.RING_STATUS_POSITIONS n

/-- A number is offered: taken, kept against another, or refused by EXPECT_ZONE (R374, R375). -/
def State.offerNumber (s : State) (n : Nat) : State :=
  if 64 ≤ n then s
  else if s.get F.RING_STATUS_NUMBERED = 1 then (if s.number = n then s else s.ringMismatch)
  else if s.get F.RING_CFG_EXPECT_ZONE ≠ 0x7F ∧ s.get F.RING_CFG_EXPECT_ZONE ≠ n then s.ringMismatch
  else
    let s := ((s.set F.RING_STATUS_NUMBER n).set F.RING_STATUS_NUMBERED 1).learnPositions n
    -- the neighbours learn it from a HELLO (DEDUCED, log entry 30)
    s.each [0, 1] fun s p => if s.canalUp p then s.sendHello p else s

/-- The neighbour of a port is this unit's partner. -/
def State.partnerOn (s : State) (port : Nat) : Bool :=
  s.pair.paired && decide (s.get F.RING_STATUS_UNIT = port) && decide (s.get F.CPORT_STATUS_NB_UNIT port ≠ s.get F.RING_STATUS_UNIT)

/-- ENUM is forwarded out of the other port. -/
def State.enumOn (s : State) (port count : Nat) : State :=
  if s.canalUp (1 - port) then s.ctrlOut (1 - port) (.enum count) else s

/-- An ENUM arrives (R374); `own` says that this chip sent it. A secondary shares its primary's number and forwards
COUNT unchanged, and so does any unit strapped as head. -/
def execEnumRx (port count : Nat) (own : Bool) (s : State) : Res :=
  if 2 ≤ port ∨ !s.canalUp port ∨ s.get F.RING_STATUS_CONFLICT = 1 then .next s
  else if s.isHead then
    if !own then .next (s.set F.RING_STATUS_CONFLICT 1)
    else if port = 1 then
      let s : State := { s with canal := { s.canal with enumAt := none, closed := true } }
      let s := (s.set F.RING_STATUS_POSITIONS (min 64 count)).ringShow
      let size := s.get F.RING_CFG_RING_SIZE
      .next (if size ≠ 0 ∧ size ≠ count then s.ringMismatch else s)
    else .next s
  else if s.get F.RING_STATUS_HEAD = 1 then
    .next (((s.set F.RING_STATUS_NUMBER 0).set F.RING_STATUS_NUMBERED 1).learnPositions 0 |>.enumOn port count)
  else if port = 1 then
    if s.partnerOn 1 then .next (((s.offerNumber (count - 1)).enumOn port count).ringShow)
    else .next (((s.offerNumber count).enumOn port (if 64 ≤ count then count else count + 1)).ringShow)
  else
    let next := if s.pair.paired ∧ s.get F.RING_STATUS_UNIT = 1 then count else count - 1
    .next (((s.offerNumber count).enumOn port next).ringShow)

/-- ENUM has not returned within 10 ms: with RING_SIZE set the head sends ENUM west (R374). -/
def execEnumTimeout (s : State) : Res :=
  match s.canal.enumAt with
  | none => .next s
  | some t =>
    if s.now < t + ms 10 ∨ !s.isHead then .next s
    else
      let s : State := { s with canal := { s.canal with enumAt := none } }
      let size := s.get F.RING_CFG_RING_SIZE
      .next (if size ≠ 0 ∧ s.canalUp 1 then s.ctrlOut 1 (.enum (size - 1)) else s)

/-- A BREAK or LINK_UP notice: the map follows, a change is rebroadcast, BREAK sets IRQ_STATUS bit 9, and the head sends a
fresh ENUM when a port has come UP (R375, R376). -/
def execRingNoticeRx (port link : Nat) (up : Bool) (s : State) : Res :=
  if 2 ≤ port ∨ !s.canalUp port then .next s
  else
    let known := decide (s.canal.down.contains link = !up)
    if known && !up then .next s
    else
      let s := (s.mapLink link up).on (!up) fun s => s.irq (pCANAL port) I.CANAL_BREAK
      let s := if !known ∧ s.canalUp (1 - port) then s.ctrlOut (1 - port) (if up then .linkUp link else .brk link) else s
      .next (if up then s.enumStart else s)

/-- ISLAND_TIME without both ports, or with two consecutive positions unreachable (R378): ISLAND, and a STOP of
ISLAND_CLASS submitted to this chip's Headgate. -/
def execIsland (s : State) : Res :=
  let since := fun (o : Option Nat) => match o with | some t => decide (t + ms (s.get F.ISLAND_TIME) ≤ s.now) | none => false
  if s.get F.RING_STATUS_ISLAND = 1 ∨ !(since s.canal.unreachAt || since s.canal.bothDownAt) ∨ !(s.isOn .canal 0 || s.isOn .canal 1) then
    .next s
  else
    let s := ((s.set F.RING_STATUS_ISLAND 1).inc C.CANAL_ISLANDS).notice (pCANAL 0) I.CANAL_ISLAND
    let cls := s.get F.RING_CFG_ISLAND_CLASS
    let s := if cls ≠ 0 ∧ s.sup.vddGate then s.inc C.HEADGATE_REMOTE_RX else s
    .next (if cls ≠ 0 ∧ s.get F.HG_CFG_SITE_RX = 1 then s.raiseCause rsREMOTE cls else s)

/-! ### Hop delay (R379) -/

/-- Every 10 ms an UP port sends DELAY_REQ. -/
def execDelayReq (port : Nat) (s : State) : Res :=
  let c := s.cport port
  if 2 ≤ port ∨ !s.canalUp port ∨ s.now < c.reqAt + ms 10 then .next s
  else .next ((s.setCport port { c with reqAt := s.now }).ctrlOut port (.delayReq s.ft))

/-- Insert into an ascending list. -/
def insertNat (x : Nat) : List Nat → List Nat
  | [] => [x]
  | y :: r => if x ≤ y then x :: y :: r else y :: insertNat x r

/-- The median of a list: of an even number, the mean of the middle two, rounded down. -/
def median (l : List Nat) : Nat :=
  let l := l.foldr insertNat []
  let n := l.length
  if n % 2 = 1 then nth 0 l (n / 2) else (nth 0 l (n / 2 - 1) + nth 0 l (n / 2)) / 2

/-- A DELAY_RESP with the neighbour's t2 and t3 and the echoed t1, all in 2^-32 ns; t4 is this chip's fleet time now
(R379). -/
def execDelayRespRx (port t1 t2 t3 : Nat) (s : State) : Res :=
  if 2 ≤ port ∨ !s.canalUp port then .next s
  else
    let d : Int := (((s.ft : Int) - t1) - ((t3 : Int) - t2)) * 10 / (2 ^ 33 : Int)
    let c := s.cport port
    let c := { c with delays := lastN 8 (c.delays ++ [d.toNat]), nDelays := min 8 (c.nDelays + 1) }
    let s := s.setCport port c
    .next (if 8 ≤ c.nDelays then (s.set F.LINK_DELAY (median c.delays) port).set F.CPORT_STATUS_DELAY_VALID 1 port else s)

end Sys2Proof.Machine
end

