-- ==== Sys2Proof/Machine/DispLate.lean ====
section
/-! DEFINITION. Aborts of items (R317), and what a restart of DISPATCH or a stop of a core does to the items. -/
namespace Sys2Proof.Machine
open Sys2Proof

/-- The operations in flight on a context's tag complete with their result discarded (R317). -/
def State.dropTag (s : State) (tag : Nat) : State :=
  { s with held := s.held.filter fun h => match h.via with
      | .tag _ t _ _ _ => decide (t ≠ tag)
      | .page _ => true }

/-- An item is aborted (R317): its context's generation steps, its staged emits are discarded, the context is free; the
item is queued again once at its place where its core is stopped or lost, else it is done with no emits. -/
def State.abortItem (s : State) (i : DItem) (again : Bool) : State :=
  let owner := 512 + 8 * i.core + i.ctx
  let s := (s.dropTag (0xC0 + 8 * i.core + i.ctx)).bump owner 3
  let s := (((s.inc C.DISPATCH_ABORTS).inc C.CORE_ABORTS i.core).irq pDISP I.DISPATCH_ABORT).traceItem 7 i
  let s := s.endCtx i.core i.ctx
  let s := if again && !i.aborted then ((s.setItem { i with st := 0, aborted := true, emits := [] }).inc C.DISPATCH_REQUEUED).dispShow.preempt
    else (s.setItem { i with st := 2, aborted := true, emits := [] }).releaseFlow i.flow
  s.resumed i.core i.ctx

/-- Every item of a core is aborted: its block is stopped, restarted or removed, or the core is reset. -/
def State.abortCore (s : State) (c : Nat) : State := s.each (s.coreItems c) fun s i => s.abortItem i true

/-- The core's own reset steps the generations of all its contexts, aborted items' included (R256). -/
def State.resetCore (s : State) (c : Nat) : State :=
  let busy := (s.coreItems c).map (·.ctx)
  let s := s.abortCore c
  s.each ((List.range 8).filter fun x => !busy.contains x) fun s x => s.bump (512 + 8 * c + x) 3

/-- A restart of DISPATCH aborts every context and loses the queued items, counted in CONT_COUNT. -/
def State.dispRestart (s : State) : State :=
  let s := s.each (List.range 8) State.abortCore
  let n := s.disp.items.length
  (({ s with disp := { s.disp with items := [], stack := [[], [], [], [], [], [], [], []] } }).incP pDISP C.CONT_COUNT n).dispShow

/-- An item has been in its context for longer than its timeout: it is done with no emits (R317). -/
def execItemTimeout (core ctx : Nat) (s : State) : Res :=
  match s.ctxItem core ctx with
  | none => .next s
  | some i =>
    let limit := if s.flowClass i.flow = 0 then s.get F.CLASS0_TIMEOUT else s.get F.ITEM_TIMEOUT
    if s.now ≤ i.since + us limit then .next s else .next ((s.abortItem i false).emit (.abortTrap core ctx))

end Sys2Proof.Machine
end

