-- ==== Sys2Proof/Machine/Link.lean ====
section
/-! DEFINITION. PCI Express, MSI-X vectors, the Ethernet ports and the Flume queues: their commands, and FLUME table 0 (R54,
R55, R344 to R365). The received Flume frame stands in FlumeRx. -/
namespace Sys2Proof.Machine
open Sys2Proof

/-- The FLUME page. -/
abbrev pFLUME : Page := ⟨.flume, 0⟩
/-- An ETH page. -/
abbrev pETH (i : Nat) : Page := ⟨.eth, i⟩

/-- What an Ethernet port holds beside its registers. -/
def State.ethSt (s : State) (i : Nat) : EthSt := if i = 0 then s.lk.eth0 else s.lk.eth1
/-- The state with it replaced. -/
def State.setEth (s : State) (i : Nat) (e : EthSt) : State :=
  if i = 0 then { s with lk := { s.lk with eth0 := e } } else { s with lk := { s.lk with eth1 := e } }

/-! ### PCI Express and MSI-X -/

/-- The link comes up (L0): its speed, width and Bus Master Enable; pending vectors are sent (R55, R488). -/
def execPcieLinkUp (speed width : Nat) (bme : Bool) (s : State) : Res :=
  if !s.isOn .pcie ∨ speed = 0 ∨ 3 < speed ∨ ¬ (width = 1 ∨ width = 2 ∨ width = 4) then .next s
  else
    let s := ((s.set F.PCIE_STATUS_LINK_UP 1).set F.PCIE_STATUS_SPEED speed).set F.PCIE_STATUS_WIDTH width
    .next (s.set F.PCIE_STATUS_BME (b2n bme)).sendAllVecs

/-- The host unmasks a vector in the MSI-X table of BAR4: a pending one is sent (R55). -/
def execMsixVectorUnmask (v : Nat) (s : State) : Res :=
  let s : State := { s with vecMask := s.vecMask.filter (· ≠ v) }
  .next (if v < 64 ∧ s.vecAsserts v then s.sendVec v else s)

/-- VEC_ACK: the vector may send again, and does so at once while a routed source asserts (R55). -/
def State.vecAck (s : State) (v : Nat) : State :=
  let s : State := { s with vecSent := s.vecSent.filter (· ≠ v) }
  if s.vecAsserts v then s.sendVec v else s

/-- VEC_ACK is written. -/
def execVecAck (v : Nat) (s : State) : Res := .next (if s.isOn .irq then s.vecAck v else s)

/-! ### Sessions, credits and resending -/

/-- Every queue restarts under a new session (R355): numbers and the window to the host go to 0; records held, those
sent and not acknowledged included, are sent again under it. -/
def FQ.restart (q : FQ) : FQ :=
  { q with txSeq := 0, ackSeq := 0, window := if q.toChip then q.window else 0,
           ring := (q.unacked.flatMap (·.recs)) ++ q.opened ++ q.ring, opened := [], closed := false, unacked := [],
           inFill := if q.toChip then 0 else q.inFill }

/-- Maximum frame of a queue's port (R349). -/
def State.maxFrame (s : State) (q : FQ) : Nat := if s.get F.ETH_CFG_JUMBO ((s.qPort q).getD 0) = 1 then 9018 else 1518

/-- WINDOW granted on a queue to the chip: free ring bytes over the maximum frame size, rounded down (R354). -/
def State.grantWindow (s : State) (q : FQ) : Nat := min 0xFFFF ((q.ringKB * 1024 - q.inFill) / s.maxFrame q)

/-- The entries of a CREDIT frame: one for each enabled queue to the chip (R356). -/
def State.creditList (s : State) : List Credit :=
  ((List.range 64).filter fun n => (s.q n).en && (s.q n).toChip).map fun n =>
    ⟨n, s.number, s.grantWindow (s.q n), (s.q n).ackSeq⟩

/-- An ACK_SEQ or WINDOW granted by this chip has changed: a CREDIT frame is due within `within` µs (R354, R356). -/
def State.wantCredit (s : State) (within : Nat) : State :=
  let t := s.now + us within
  { s with lk := { s.lk with creditDue := some (match s.lk.creditDue with | some u => min t u | none => t) } }

/-- A new session begins (R355): every ACK_SEQ granted has changed. -/
def State.newSession (s : State) : State :=
  (({ s with fq := s.fq.map FQ.restart, lk := { s.lk with part := [] } }).set F.FLUME_STATUS_SESSION (s.gen 576)).wantCredit (s.get F.CREDIT_PERIOD)

/-- A CREDIT frame is sent on a port whose link is up, or through the head chip (R356, R361). -/
def State.sendCredit (s : State) : State :=
  let l := s.creditList
  let fq := (List.range 64).map fun n => let q := s.q n; if q.en && q.toChip then { q with window := s.grantWindow q } else q
  let s : State := { s with fq := fq, lk := { s.lk with creditAt := s.now, creditDue := none } }
  if s.funnelled then s.canalUnicast 0 0 (.bulkCredit 2 s.number (s.get F.FLUME_STATUS_SESSION) l)
  else match s.qPort { portSel := 2 } with
    | some p => (s.emitCredit p s.number (s.get F.FLUME_STATUS_SESSION) l).inc C.ETH_FRAMES_TX p
    | none => s

/-- A CREDIT frame is sent when a change of ACK_SEQ or WINDOW calls for one, and at the latest 10 ms after the one
before (R356). -/
def execCreditSend (s : State) : Res :=
  let change := s.lk.creditDue.isSome || ((List.range 64).any fun n =>
    let q := s.q n; q.en && q.toChip && decide (q.window ≠ s.grantWindow q))
  if s.isOn .flume ∧ (change ∨ s.lk.creditAt + ms 10 ≤ s.now) then .next s.sendCredit else .next s

/-- A frame of the current session has arrived from the host (R356). -/
def State.hostSeen (s : State) : State :=
  { s with lk := { s.lk with seenAt := s.now } }.set F.FLUME_STATUS_HOST_SEEN 1

/-- One entry of a CREDIT frame from the host: the frames up to ACK_SEQ are kept no longer, and the window is as
granted (R354, R356). -/
def State.takeCredit (s : State) (c : Credit) : State :=
  let q := s.q c.queue
  if 64 ≤ c.queue ∨ q.toChip ∨ c.zone ≠ s.number then s
  else
    let within := decide ((c.ack + 2 ^ 32 - q.ackSeq) % 2 ^ 32 ≤ (q.txSeq + 2 ^ 32 - q.ackSeq) % 2 ^ 32)
    let q1 := if within then
        { q with ackSeq := c.ack % 2 ^ 32, unacked := q.unacked.filter fun f => later f.seq c.ack 32,
                 ackAt := if c.ack = q.ackSeq then q.ackAt else s.now }
      else q
    let q2 := { q1 with window := c.window % 2 ^ 16, stalledAt := if c.window = 0 then q1.stalledAt else none }
    (s.setQ c.queue q2).qPump c.queue

/-- Queues holding data while the host grants no window start the 10 ms of R351. -/
def State.markStall (s : State) (n : Nat) : State :=
  let q := s.q n
  if !q.toChip ∧ q.window = 0 ∧ 0 < q.fill ∧ q.stalledAt.isNone then s.setQ n { q with stalledAt := some s.now } else s

/-- A CREDIT frame arrives (R356); one of another session is counted in STALE_SESSION (R355). -/
def State.creditRx (s : State) (session : Nat) (l : List Credit) : State :=
  if session ≠ s.get F.FLUME_STATUS_SESSION then s.inc C.FLUME_STALE_SESSION
  else
    let s := (s.hostSeen).each l State.takeCredit
    (s.each (List.range 64) State.markStall).hostRoom

/-- A CREDIT frame on a port. A chip that funnels receives none on its own ports (R361). -/
def execCreditRx (port session : Nat) (l : List Credit) (s : State) : Res :=
  if 2 ≤ port ∨ ¬ s.isOn .eth port ∨ ¬ s.isOn .flume then .next s
  else
    let s := s.inc C.ETH_FRAMES_RX port
    if s.funnelled then .next (s.inc C.FLUME_BAD_FRAME)
    else .next ((s.inc C.FLUME_FRAMES_RX).creditRx session l)

/-- FLUSH_US after a frame's first record, it is closed (R349). -/
def execFlumeFlush (queue : Nat) (s : State) : Res :=
  let q := s.q queue
  if 64 ≤ queue ∨ q.opened = [] ∨ s.now < q.openedAt + us (s.get F.FLUSH_US) then .next s
  else .next (((s.setQ queue { q with closed := true }).qPump queue).markStall queue)

/-- RETX_TIMEOUT without progress: every frame from ACK_SEQ + 1 is sent again (R354). -/
def execFlumeRetxTimeout (queue : Nat) (s : State) : Res :=
  let q := s.q queue
  if 64 ≤ queue ∨ q.unacked = [] ∨ s.now < q.ackAt + us (s.get F.RETX_TIMEOUT) ∨ !s.qMay q then .next s
  else
    let s := s.setQ queue { q with retx := satAdd q.retx q.unacked.length 0xFFFFFFFF, ackAt := s.now }
    .next (s.each q.unacked fun s f => s.sendFrame q f)

/-- HOST_TIMEOUT without a frame of the current session (R356). -/
def execHostTimeout (s : State) : Res :=
  if s.get F.FLUME_STATUS_HOST_SEEN = 0 ∨ s.now < s.lk.seenAt + ms (s.get F.HOST_TIMEOUT) then .next s
  else .next ((s.set F.FLUME_STATUS_HOST_SEEN 0).irq pFLUME I.FLUME_HOST_LOST)

/-- A queue to the host has held data with WINDOW = 0 for 10 ms (R351). -/
def execFlumeStall (queue : Nat) (s : State) : Res :=
  let q := s.q queue
  match q.stalledAt with
  | none => .next (s.markStall queue)
  | some t =>
    if q.toChip ∨ q.window ≠ 0 ∨ q.fill = 0 then .next (s.setQ queue { q with stalledAt := none })
    else if s.now < t + ms 10 then .next s else .next (s.qevent queue 1)

/-- QEV_CLR clears a queue's events (R351). -/
def State.qevClr (s : State) (queue : Nat) : State := s.setQ queue { s.q queue with qev := 0 }

/-- QEV_CLR is written. -/
def execQevClr (queue : Nat) (s : State) : Res := .next (if s.isOn .flume then s.qevClr queue else s)

/-! ### FLUME table 0 (R350) -/

/-- The entry of a queue as a number. -/
def FQ.entry (q : FQ) : Nat :=
  ofBytes ([b2n q.en + b2n q.toChip * 2 + b2n q.ovw * 4 + q.portSel * 8 + q.prio * 32, q.bind]
    ++ toBytes 2 q.ringKB ++ toBytes 4 q.txSeq ++ toBytes 4 q.ackSeq ++ toBytes 2 q.window ++ [q.qev, q.qevEn]
    ++ toBytes 4 q.lost ++ toBytes 4 q.retx ++ toBytes 4 q.discard ++ toBytes 4 q.fill)

/-- READ. -/
def State.readQueue (s : State) (i : Nat) : TRes :=
  if 64 ≤ i then { err := 0x04 } else { data := some (s.q i).entry }

/-- WRITE changes bytes 0, 2 to 3 and 15 (R350). -/
def State.writeQueue (s : State) (i data : Nat) : State × TRes :=
  if 64 ≤ i then (s, { err := 0x04 })
  else
    let q := s.q i
    let dir := if i < 16 then q.toChip else bit data 1
    let ovw := if dir || decide (8 ≤ i ∧ i < 16) then false else bit data 2
    let kb := bits data 16 16
    let sum := (List.range 64).foldl (fun n j => n + if j = i then kb else (s.q j).ringKB) 0
    let moved := decide (dir ≠ q.toChip) || decide (ovw ≠ q.ovw) || decide (kb ≠ q.ringKB)
    if (q.en && moved) || decide (1536 < sum) || decide (kb ≠ 0 ∧ (kb < 4 ∨ 256 < kb)) || decide (bits data 3 2 = 3) then (s, { err := 0x0C })
    else
      let q := { q with en := bit data 0, toChip := dir, ovw := ovw, portSel := bits data 3 2, prio := bits data 5 3,
                        ringKB := kb, qevEn := bits data 120 3 }
      (((s.setQ i q).qPump i).qWaits i, {})

/-! ### Ethernet ports -/

/-- The link of a port comes up or goes down (R362, R364): frames not yet sent take the other port at once. -/
def State.ethLink (s : State) (port : Nat) (up anDone : Bool) : State :=
  let was := decide (s.get F.ETH_STATUS_LINK port = 1)
  let s := (s.set F.ETH_STATUS_LINK (b2n up) port).set F.ETH_STATUS_AN_DONE (b2n anDone) port
  if was = up then s
  else
    let s := if up then s else (s.inc C.ETH_LINK_DOWNS port).set F.ETH_STATUS_PAUSED_RX 0 port
    let s := s.irq (pETH port) I.ETH_LINK_CHG
    s.each (List.range 64) State.qPump

/-- A link change. Up needs the block ON and AUXCLK (R20, R362). -/
def execEthLinkChange (port : Nat) (up anDone : Bool) (s : State) : Res :=
  if 2 ≤ port ∨ (up ∧ (¬ s.isOn .eth port ∨ s.get F.ROOT_STATUS_AUX_OK = 0)) then .next s
  else .next (s.ethLink port up anDone)

/-- A quantum of 512 bit times, ps (R357). -/
def State.quantumPs (s : State) (port : Nat) : Nat := if s.get F.ETH_CFG_MODE port = 0 then 51200 else 512000

/-- A priority of a port is paused, or resumed by quanta 0 (R357); paused time does not count for R354. -/
def State.pfcPrio (s : State) (port : Nat) (x : Nat × Nat) : State :=
  let (prio, quanta) := x
  let e := s.ethSt port
  let m := s.get F.ETH_STATUS_PAUSED_RX port
  if quanta = 0 then
    if !bit m prio then s
    else
      let t0 := nth 0 e.pauseAt prio
      let mv := fun (q : FQ) => if q.prio = prio ∧ s.qPort q = some port then { q with ackAt := q.ackAt + (s.now - max t0 q.ackAt) } else q
      let s : State := { s with fq := s.fq.map mv }
      (s.set F.ETH_STATUS_PAUSED_RX (m - 2 ^ prio) port).each (List.range 64) State.qPump
  else
    let e := { e with pauseAt := if bit m prio then e.pauseAt else setNth e.pauseAt prio s.now,
                      pauseEnd := setNth e.pauseEnd prio (s.now + quanta * s.quantumPs port) }
    (s.setEth port e).set F.ETH_STATUS_PAUSED_RX (Nat.lor m (2 ^ prio)) port

/-- A PFC frame arrives: for each priority of its mask, the quanta of its pause (R357). -/
def execPfcRx (port mask : Nat) (quanta : List Nat) (s : State) : Res :=
  if 2 ≤ port ∨ ¬ s.isOn .eth port then .next s
  else if s.get F.ETH_CFG_PFC_EN port = 0 then .next (s.inc C.ETH_RX_DISCARD port)
  else
    let l := ((List.range 8).filter (bit mask ·)).map fun p => (p, nth 0 quanta p % 2 ^ 16)
    .next ((s.inc C.ETH_PFC_RX port).each l fun s x => s.pfcPrio port x)

/-- A pause of a priority ends (R357). -/
def execPfcPauseExpiry (port prio : Nat) (s : State) : Res :=
  if 2 ≤ port ∨ 8 ≤ prio ∨ s.now < nth 0 (s.ethSt port).pauseEnd prio then .next s
  else .next (s.pfcPrio port (prio, 0))

/-- Bytes of the frames in a port's receive buffer. -/
def EthSt.fill (e : EthSt) : Nat := e.buf.foldl (fun n f => n + f.2.2.body.length + 18) 0
/-- Priorities that have frames in the buffer, as a mask. -/
def EthSt.prios (e : EthSt) : Nat := e.buf.foldl (fun m f => Nat.lor m (2 ^ (f.1 % 8))) 0

/-- Pauses follow the fill of the receive buffer (R357): above PFC_XOFF KiB a pause with quanta 0xFFFF for every
priority with frames in it, repeated every 250 µs; below half of it, quanta 0. -/
def State.xoff (s : State) (port : Nat) : State :=
  let e := s.ethSt port
  let lim := s.get F.PFC_XOFF port * 1024
  let cur := s.get F.ETH_STATUS_XOFF_TX port
  if s.get F.ETH_CFG_PFC_EN port = 0 then s
  else if lim < e.fill ∧ (cur = 0 ∨ e.xoffAt + us 250 ≤ s.now) then
    ((((s.setEth port { e with xoffAt := s.now }).set F.ETH_STATUS_XOFF_TX e.prios port).inc C.ETH_PFC_TX port).emit
      (.pfc port e.prios 0xFFFF)).inc C.ETH_FRAMES_TX port
  else if cur ≠ 0 ∧ 2 * e.fill < lim then
    (((s.set F.ETH_STATUS_XOFF_TX 0 port).inc C.ETH_PFC_TX port).emit (.pfc port cur 0)).inc C.ETH_FRAMES_TX port
  else s

/-- PTP multicast addresses, 01-1B-19-00-00-00 and 01-80-C2-00-00-0E. -/
def ptpMulticast (a : Nat) : Bool := decide (a = 0x011B19000000 ∨ a = 0x0180C200000E)

/-- The port receives a frame: a good FCS, its own address, broadcast or PTP multicast, and the VLAN set (R363); the
Boolean says so. Others are counted and discarded. -/
def State.ethTake (s : State) (port : Nat) (f : EthFrame) : State × Bool :=
  if !f.fcsOk then (s.inc C.ETH_FCS_ERR port, false)
  else
    let vlan := if s.get F.ETH_CFG_VLAN_EN port = 1 then decide (f.vlan.map (·.1) = some (s.get F.ETH_CFG_VLAN_ID port)) else true
    if !(decide (f.da = s.macOf port ∨ f.da = 0xFFFFFFFFFFFF) || ptpMulticast f.da) || !vlan then (s.inc C.ETH_RX_DISCARD port, false)
    else (s.inc C.ETH_FRAMES_RX port, true)

end Sys2Proof.Machine
end

