-- ==== Sys2Proof/Machine/Route.lean ====
section
/-! DEFINITION. Commands of AIR/ROUTE and AIR/FLOOD (R216 to R225). -/
namespace Sys2Proof.Machine
open Sys2Proof

/-- A whole fleet second (R216): AGE of every valid entry without STATIC increases, and saturates. -/
def execRouteAgeTick (s : State) : Res :=
  if ¬ s.isOn .route ∨ s.offDuty ∨ s.fleetSec ≤ s.rt.ageSec then .next s
  else
    let s : State := { s with rt := { s.rt with ageSec := s.fleetSec } }
    .next (s.each (s.routes.filter fun i => RT.static.get (s.route i) = 0) fun s i => s.setAge i (satAdd (RT.age.get (s.route i)) 1 65535))

/-- MODE_NOW becomes SHADOW once a whole pass was clean and no restart holds it in ECC (R221). -/
def State.shadowMode (s : State) : State :=
  if s.rt.passed ∧ s.rt.startAt = none ∧ s.shadowed then s.set F.RT_STATUS_MODE_NOW 1 else s

/-- The comparison of an entry with its shadow (R221, R222): in SHADOW mode a mismatch is counted, recorded and repaired or
ends the mode; before it, a mismatch spoils the pass. -/
def State.compareShadow (s : State) (i : Nat) : State :=
  let e := s.route i
  let w := s.shadow i
  if RT.age.set e 0 = RT.age.set w 0 then s
  else if s.get F.RT_STATUS_MODE_NOW = 0 then { s with rt := { s.rt with clean := false } }
  else
    let s := (s.inc C.ROUTE_SHADOW_MISMATCH).notice pRT I.ROUTE_MISMATCH i
    if s.get F.RT_CFG_REPAIR_EN = 1 then (({ s with tbl := AMap.set tblReset s.tbl (pRT.tblKey 0 i) w }).inc C.ROUTE_SHADOW_REPAIR).routeShow
    else { s.set F.RT_STATUS_MODE_NOW 0 with rt := { s.rt with clean := false, passed := false } }

/-- One step of the ageing and shadow scan, every 10 µs (R216, R222). An entry does not age out while a REPACK moves
entries. -/
def execRouteScanStep (s : State) : Res :=
  if ¬ s.isOn .route ∨ s.now < s.rt.scanAt + us 10 then .next s
  else
    let i := s.rt.scan % 4096
    let e := s.route i
    let s := if RT.plen.get e ≠ 0 ∧ RT.static.get e = 0 ∧ s.get F.AGE_LIMIT ≤ RT.age.get e ∧ s.rt.repack = none then
        (s.setRoute i 0).inc C.ROUTE_AGED
      else if s.shadowed then s.compareShadow i
      else s
    let s := if s.shadowed then s else { s.set F.RT_STATUS_MODE_NOW 0 with rt := { s.rt with clean := false, passed := false } }
    let s : State := { s with rt := { s.rt with scan := (i + 1) % 4096, scanAt := s.now } }
    if i = 4095 then
      let s : State := { s with rt := { s.rt with passed := s.rt.clean, clean := s.shadowed } }
      .next s.shadowMode
    else .next s

/-- REPACK (opcode 8, R217): the lengths are checked; the operation completes when the moves are done. -/
def execRouteRepack (via : Via) (s : State) : Res :=
  .next (s.tblOp via pRT 8 0 0 fun s _ data =>
    let lens := toBytes 32 data
    if s.rt.repack.isSome then (s, none)
    else if lens.any fun l => decide (32 < l) then (s, some { err := 0x10 })
    else if !s.repackFits lens then (s, some { err := 0x03 })
    else ({ s.set F.RT_STATUS_REPACK_BUSY 1 with rt := { s.rt with repack := some lens } }, none))

/-- One operation that a REPACK held back is applied. -/
def State.routeHeld (s : State) (h : Held) : State :=
  if h.opcode = 8 then
    let lens := toBytes 32 h.data
    if lens.any fun l => decide (32 < l) then s.tblDone h.via pRT h.index { err := 0x10 }
    else if !s.repackFits lens then s.tblDone h.via pRT h.index { err := 0x03 }
    else ((s.repackNow lens).irq pRT I.ROUTE_REPACK_DONE).tblDone h.via pRT h.index {}
  else
    let (s, r) := s.routeOp h.opcode h.index h.key h.data
    s.tblDone h.via pRT h.index r

/-- A REPACK ends (R217): the operations held meanwhile are applied in order. -/
def execRepackComplete (s : State) : Res :=
  match s.rt.repack with
  | none => .next s
  | some lens =>
    let s : State := { s.set F.RT_STATUS_REPACK_BUSY 0 with rt := { s.rt with repack := none } }
    let mine := s.held.filter fun h => h.page = pRT
    let s : State := { s with held := s.held.filter fun h => h.page ≠ pRT }
    match mine.find? fun h => decide (h.opcode = 8 ∧ toBytes 32 h.data = lens) with
    | none => .next (s.each mine State.routeHeld)
    | some r => .next ((((s.repackNow lens).irq pRT I.ROUTE_REPACK_DONE).tblDone r.via pRT r.index {}).each (mine.erase r) State.routeHeld)

/-- One second after a restart the forced ECC mode ends (R221). -/
def execRouteEccHoldExpiry (s : State) : Res :=
  match s.rt.startAt with
  | some t => if t + sec 1 ≤ s.now then .next ({ s with rt := { s.rt with startAt := none } }.shadowMode) else .next s
  | none => .next s

/-- A LEARN is received (R220): where its PREV lies in this zone, routes follow the member, and the registry hears of its
departure. -/
def State.learnRx (s : State) (m : LearnMsg) : State :=
  let on := s.isOn .route
  let s := if on then s.inc C.ROUTE_LEARN_RX else s
  if m.prev = 0 ∨ ¬ s.ownAddr m.prev then s
  else
    let s := if on then s.learnRoutes m else s
    s.depart (memberOf m.prev)

/-- LEARN_RX. -/
def execLearnRx (m : LearnMsg) (s : State) : Res := .next (s.learnRx m)

/-- A pair leaves the seen cache 10 s after it was last seen (R225). -/
def execFloodSeenAge (src seq : Nat) (s : State) : Res :=
  let k := seenSet src seq
  let l := AMap.get (fun _ => []) s.rt.seen k
  let l' := l.filter fun x => !(decide (x.1 = src ∧ x.2.1 = seq ∧ x.2.2 + 10000000000 ≤ s.fleetNs))
  .next ({ s with rt := { s.rt with seen := AMap.set (fun _ => []) s.rt.seen k l' } }.seenShow)

/-- ROUTE leaves FAULT or OFF for ON (R223): in SHADOW mode the CAM is loaded from the shadow, else it is clear. -/
def State.routeStart (s : State) (restart : Bool) : State :=
  let s : State := { s with rt := { s.rt with startAt := if restart then some s.now else none, clean := false, passed := false, scan := 0, scanAt := s.now } }
  if s.shadowed then
    let l := (List.range 4096).filter fun i => decide (RT.plen.get (s.shadow i) ≠ 0)
    (s.each l fun s i => { s with tbl := AMap.set tblReset s.tbl (pRT.tblKey 0 i) (s.shadow i) }).routeShow
  else s.routeShow

end Sys2Proof.Machine
end

