-- ==== Sys2Proof/Machine/BlockOps.lean ====
section
/-! DEFINITION. Start-up, shut-down, isolation and restart of a block, with what each block's own chapter adds to R43 to R46,
and the failing region (R33, R52). -/
namespace Sys2Proof.Machine
open Sys2Proof

/-- The DRAM page. -/
abbrev pDRAM : Page := ⟨.dram, 0⟩
/-- The BOOT page. -/
abbrev pBOOT : Page := ⟨.boot, 0⟩

/-! ### Links that go with a block -/

/-- The host generation is incremented, every Flume session restarts, and a FREEZE that the host set ends (R256, R338, R346, R355). -/
def State.hostBump (s : State) : State :=
  let s := (s.bump 576 4).newSession
  s.each ((List.range 8).filter fun r => decide (s.get F.ARB_CTRL_FREEZE r = 1 ∧ s.get F.ARB_CTRL_FREEZE_HOST r = 1)) fun s r => s.arbThaw r

/-- PCIE returns to its reset state: link state, PCIE_CFG and the MSI-X table, whose vectors are masked (R346). -/
def State.pcieReset (s : State) : State :=
  let s := ((s.set F.PCIE_STATUS_LINK_UP 0).set F.PCIE_STATUS_BME 0).set F.PCIE_STATUS_SPEED 0
  { (s.set F.PCIE_STATUS_WIDTH 0).set F.PCIE_CFG_L1_EN 0 with vecMask := List.range 64 }

/-- The PCIe link goes down (R346): counted, and the host generation steps. -/
def State.pcieDown (s : State) : State :=
  if s.get F.PCIE_STATUS_LINK_UP = 0 then s else ((s.inc C.PCIE_LINK_DOWNS).pcieReset).hostBump

/-- Relays of a profile with RELAY entries in the active bank of a port (R210). -/
def State.relaysOf (s : State) (p prof : Nat) : List Nat :=
  let l := distinct (((s.activeSlots p).filter fun x => decide (slKind x.2 = 5)).map fun x => slMember x.2)
  l.filter fun m => decide (s.mget m RG.profile = 2 - prof)

/-- RELAY_MAPs of the active banks for the relays of a profile: empty and ahead of every other frame as ROUTE or FLOOD leaves ON,
whole as it returns (R210). -/
def State.relayMaps (s : State) (prof : Nat) (empty : Bool) : State :=
  s.each (List.range 4) fun s p =>
    let a := s.activeBank p
    let ep := s.get F.BANK_HDR_EPOCH p a
    s.each (s.relaysOf p prof) fun s m =>
      s.queueRecord m 31 (s.relayMapData p a m ep empty) fun f => { f with relayMap := true, ahead := empty }

/-! ### DRAM (R22 to R24) -/

/-- Usable space in MiB by DRAM_CFG.SIZE. -/
def State.dramUsable (s : State) : Nat := nth 448 [448, 896, 1792, 2688, 3584] (s.get F.DRAM_CFG_SIZE)

/-- Base and size of a partition in MiB; 0xFFFF in the last one takes the space to the end. -/
def State.partMiB (s : State) (k : Nat) : Nat × Nat :=
  let b := s.get F.PART_BASE_BASE 0 k
  let n := s.get F.PART_SIZE_SIZE 0 k
  (b, if k = 4 ∧ n = 0xFFFF then s.dramUsable - b else n)

/-- Two partitions overlap. -/
def partsMeet (a b : Nat × Nat) : Bool := decide (0 < a.2 ∧ 0 < b.2 ∧ a.1 < b.1 + b.2 ∧ b.1 < a.1 + a.2)

/-- The first partition that fails the checks of R23, in their order. Of two that overlap it is the one with the higher number
(DESIGN CHOICE, log entry 13). -/
def State.badPart (s : State) : Option Nat :=
  let l := (List.range 5).map s.partMiB
  let at_ := fun k => nth (0, 0) l k
  let low := (List.range 5).find? fun k => decide ((at_ k).2 < nth 0 [0, 48, 32, 0, 0] k)
  let meet := (List.range 5).find? fun k => (List.range k).any fun j => partsMeet (at_ j) (at_ k)
  let out := (List.range 5).find? fun k => decide (s.dramUsable < (at_ k).1 + (at_ k).2)
  (low.or meet).or out

/-- The whole usable space is written with zero (R24): what stood there is gone. -/
def State.dramClear (s : State) : State :=
  { s with dram := [], clk := { s.clk with lostWords := [] }, ev := { s.ev with ext := [] }, disp := { s.disp with part := [] }, gn := { s.gn with arch := [] },
           pair := { s.pair with slots := [none, none], deltas := [] },
           boot := { s.boot with staged := [], verified := false, retained := [] } }

/-- The start of DRAM (R23): partitions first. -/
def State.dramStart (s : State) : State :=
  let s := ((s.set F.DRAM_STATUS_TRAINED 0).set F.DRAM_STATUS_CLEARED 0).set F.DRAM_STATUS_USABLE s.dramUsable
  match s.badPart with
  | some k => (s.set F.DRAM_STATUS_BAD_PART k).blockError pDRAM 0xFF 3 0x01 0 0 0
  | none => s.set F.DRAM_STATUS_BAD_PART 7

/-! ### Start and stop -/

/-- Records staged while LINK was down enter the circulating area (R470). -/
def State.stagingDrain (s : State) : State :=
  if !s.linkOn then s
  else
    let l := s.ev.staging
    ({ s with ev := { s.ev with staging := [] } }).each l fun s r =>
      s.toCirc r (s.ev.pendingFound.any fun f => decide (f.ent.seq = r.seq))

/-- The pages that DOZE clock-gates: SOLVE, cores 1 to 7, GNSS groups from 2 on (R448). -/
def dozePages : List Page :=
  allPages.filter fun p => decide ((p.region = 2 ∧ p.blk ≠ .regionCtl) ∨ (p.blk = .core ∧ p.inst ≠ 0) ∨ (p.blk = .gnssTrk ∧ 2 ≤ p.inst))

/-- DOZE gates a block. -/
def State.dozeGated (s : State) (p : Page) : Bool := decide (s.get F.PWR_STATUS_STATE = 2) && dozePages.contains p

/-- A block begins its start-up (R43); one that DOZE gates does so when DOZE ends. -/
def State.startBlock (s : State) (p : Page) : State :=
  if s.dozeGated p then s else
  let s := s.goState p stStarting
  match p.blk with
  | .airport => s.portStart p.inst
  | .dram => s.dramStart
  | _ => s

/-- What a block's chapter does as the block enters ON. -/
def State.onHook (s : State) (p : Page) (restart : Bool) : State :=
  match p.blk with
  | .airport => (s.setPort p.inst { s.port p.inst with healthAt := (s.fleetNs / 100000000 + 1) * 100000000 }).joinBurst p.inst
  | .sluice =>
    let x := s.port p.inst
    if x.swapDue then (s.setPort p.inst { x with swapDue := false }).irq p I.SLUICE_SWAP_DONE else s
  | .route => (s.routeStart restart).relayMaps 2 false
  | .flood => s.relayMaps 1 false
  | .keystore => if s.zoneKeyHeld then s.hgLoadKey (s.te p 8 8) else s
  | .irq => State.sendAllVecs { s with vecSent := [] }
  | .gnssRf | .gnssTrk | .gnssMeas => s.gnssBlock p true
  | .solver => (s.set F.CELL_STATUS_REMOVED (1 - s.getP p F.STATE_CELLS_LIVE) p.inst).rtkShow
  | .canal => if s.get F.ROOT_STATUS_AUX_OK = 1 ∧ s.get F.CPORT_STATUS_STATE p.inst = 0 then s.canalTrain p.inst else s
  | .meter => s.meterStart
  | .dram => s.extDrain
  | .flume => s.each (List.range 64) State.qPump
  | .dispatch => s.drainBacklog.preempt
  | .core => s.preempt
  | .regionCtl => s.setArb p.region { s.arbOf p.region with winAt := s.now, used := [] }
  | _ => s

/-- A block enters ON (R43), its pool without the cells removed (R13); with an empty pool it goes on to FAULT at once. -/
def State.enterOn (s : State) (p : Page) : State :=
  let g := s.page p
  let s := s.setP p F.STATE_CELLS_LIVE (p.blk.cells - g.removed.length)
  if 0 < p.blk.cells ∧ p.blk.cells ≤ g.removed.length then
    ((s.setPage p { g with scrubbed := false, tested := true }).goState p stOn).enterFault p
  else
    let s := (s.setPage p { g with live := true, scrubbed := false, tested := true }).goState p stOn
    ((s.onHook p g.scrubbed).stagingDrain).recompute

/-- What a block's chapter does as the block leaves ON, by a shut-down or a fault; once for each time it was ON. -/
def State.leaveOn (s : State) (p : Page) : State :=
  let g := s.page p
  if !g.live then s
  else
    let s := s.setPage p { g with live := false }
    match p.blk with
    | .route => s.relayMaps 2 true
    | .flood => s.relayMaps 1 true
    | .gnssRf => s.gnssBlock p false
    | .gnssTrk => s.gnssBlock p false
    | .canal => s.canalLeave p.inst 0
    | .eth => s.ethLink p.inst false false
    | .pcie => s.pcieDown
    | .meter => s.meterStop
    | .corrOut => { s with rtk := { s.rtk with corr := [[], [], [], []] } }
    | _ => s

/-- A block that is ON begins its shut-down (R43, R46, R160, R163). -/
def State.stopBlock (s : State) (p : Page) : State :=
  let s := (((s.setPage p { s.page p with stopAt := s.now }).goState p stStopping).leaveOn p)
  match p.blk with
  | .airport => (s.portStop p.inst).svcDown p.inst true
  | .sluice => s.svcDown p.inst false
  | _ => s

/-- A block is OFF, or a COLD unit gates it. -/
def State.blockOff (s : State) (p : Page) : State :=
  let s := (s.leaveOn p).goState p stOff
  match p.blk with
  | .core => s.abortCore p.inst
  | _ => s

/-! ### Isolation (R33, R44, R45, R52) -/

/-- The region controller clears a block's pipelines, FIFOs and cell states (R44), as its chapter says. -/
def State.clearBlock (s : State) (p : Page) : State :=
  match p.blk with
  | .airport => s.portDown p.inst
  | .gnssTrk => s.gnssBlock p false
  | .obsIn => s.obsClear
  | .solver => s.giveUp p.inst
  | .rtkCtrl => s.rtkClear
  | .corrOut => { s with rtk := { s.rtk with corr := [[], [], [], []] } }
  | .route =>
    let s : State := { s.set F.RT_STATUS_REPACK_BUSY 0 with rt := { s.rt with repack := none } }
    let keep := if s.get F.RT_STATUS_MODE_NOW = 1 then [] else s.routes.filter fun i => decide (RT.static.get (s.route i) = 1)
    let l := keep.map fun i => (i, s.route i)
    (s.clearTable p 0).each l fun s e => s.setRoute e.1 e.2
  | .flood => ({ s with rt := { s.rt with seen := [] } }).seenShow
  | .lease =>
    let open_ := s.ls.xfers.filter fun x => x.via.isSome
    let s := s.each open_ fun s x => s.abortXfer { x with via := none } { code := 0x12, zone := s.number }
    ({ s with ls := { s.ls with builds := [] } }).leaseShow
  | .turnout => s.each s.ls.seqs fun s q => (s.dropSeq q.handle).irq pTURN I.TURNOUT_SEQ_DISCARD
  | .dispatch => s.dispRestart.set F.TRACE_LOST 0
  | .core => s.resetCore p.inst
  | .flume =>
    { s with fq := s.fq.map fun q => { q with ring := [], opened := [], closed := false, unacked := [], inFill := 0, lost := 0 },
             lk := { s.lk with part := [] } }
  | .eth => s.setEth p.inst { s.ethSt p.inst with buf := [] }
  | .dram => s.set F.ARCH_LOST 0
  | .evlog => s.set F.LOG_LOST 0
  | _ => s

/-- A word that the scrub loses (R44): cleared, and a CONTAINED error that names table and index; its code is not given. -/
def State.scrubLoss (s : State) (p : Page) (e : Nat × Nat) : State :=
  let s : State := { s with tbl := AMap.del s.tbl (p.tblKey e.1 e.2) }
  let (c, s) := s.free
  let s := s.errReport p 0xFF 2 (c % 256) false e.1 e.2 0
  match p.blk with
  | .lease => s.set F.LEASE_STATUS_LOST 1
  | .graph => s.graphShow
  | .turnout => s.turnShow e.2
  | .route => s.routeShow
  | .registry => s.regCounts
  | _ => s

/-- FAILED_BLOCKS shows a block of which an instance is held ISOLATED under R45. -/
def State.failedBlock (s : State) (p : Page) (held : Bool) : State :=
  let v := s.get F.FAILED_BLOCKS p.region
  let other := (pagesOfSource p.irqSource).any fun q => decide (q ≠ p ∧ s.st q = stIsolated) && (s.page q).stuck
  s.set F.FAILED_BLOCKS (if held || other then Nat.lor v (2 ^ p.blk.num) else Nat.land v (2 ^ 32 - 1 - 2 ^ p.blk.num)) p.region

/-- The region controller takes a block from FAULT (R44): clocks gated, FIFOs and cells cleared, operations ABORTED, the table
SRAM scrubbed, each cell tested; the block is ISOLATED. A CAM bank that passes its test is free again. -/
def State.isolate (s : State) (p : Page) (lost : List (Nat × Nat)) (badCells : List Nat) : State :=
  let bad := (badCells.filter fun c => decide (c < p.blk.cells)).eraseDups
  let s := (s.leaveOn p).abortHeld p 0x09
  let g := s.page p
  let s := (s.setPage p { g with removed := bad, scrubbed := true, tested := true, fifosOff := [] }).setP p F.STATE_CELLS_LIVE (p.blk.cells - bad.length)
  let s := s.clearBlock p
  let s := if p.blk = .route then
      s.each (List.range 32) fun s b => if bad.contains b then s.setBank b (s.bankByte b % 128 + 128) else s.setBank b (s.bankByte b % 128)
    else s
  let s := s.each (lost.filter fun e => decide (e.1 < p.blk.tables)) fun s e => s.scrubLoss p e
  (s.goState p stIsolated).on g.stuck fun s => s.failedBlock p true

/-- The pages of a region. -/
def regionPages (r : Nat) : List Page := allPages.filter fun p => decide (p.region = r)

/-- What a block keeps in SRAM is not trusted after its region has been isolated, and is cleared before the block is ON again (R33): its
tables, those that only the model numbers among them, and what it holds beside them. Keys go as ZEROISE takes them. -/
def State.sramLost (s : State) (p : Page) : State :=
  let s := if p.blk = .keystore then s.each (List.range 64) State.zeroise else s.each (List.range 16) fun s k => s.clearTable p k
  match p.blk with
  | .motion => { s.motClear with mot := [] }
  | .sluice => { s with air := { s.air with downq := [], joinCache := [], bundles := [], prevLink := [] } }
  | .lease => ({ s with ls := { s.ls with parts := [], rels := [], trailers := [], ghosts := [], uncommitted := [] } }).leaseShow
  | .turnout => { s with ls := { s.ls with seqs := [] } }
  | .registry => s.regCounts
  | .dispatch => { s with disp := { s.disp with items := [], seqs := [], backlog := [], emitStatus := [], trace := [], part := [] } }
  | .obsIn => { s with rtk := { s.rtk with queue := [] } }
  | .gnssMeas => { s with gn := { s.gn with ring := [], latched := none } }
  | .eth => s.setEth p.inst { s.ethSt p.inst with buf := [] }
  | _ => s

/-- A page of a failing region is powered down and held ISOLATED, whatever its state was; its cells are to be tested anew (R13, R33). -/
def State.powerDown (s : State) (p : Page) : State :=
  let s := if s.st p = stIsolated then s else s.isolate p [] []
  let s := s.sramLost p
  (s.setPage p { s.page p with stuck := true, isoAllow := false, tested := false }).failedBlock p true

/-- A region is reported failing (R29, R33, R52): with LINK the zone goes to a fitted partner, or cross-zone furrows in prepare are
aborted; every unit of the region is powered down, its SRAM not to be trusted afterwards. -/
def State.regionFailing (s : State) (r code : Nat) : State :=
  let s := s.regionFailed r
  let s := if r ≠ 5 then s
    else if s.get F.PAIR_STATUS_STATE = 4 then s.handOver code
    else s.each (s.ls.xfers.filter fun x => x.grantAt = none) fun s x => s.abortXfer x { code := 0x1C, zone := x.ask.headD s.number }
  (s.each (regionPages r) State.powerDown).recompute

/-- The pages that a COLD unit keeps clock-gated (R387): SOLVE, AIR, PLAN, and SENSE without TIME. -/
def coldPages : List Page :=
  allPages.filter fun p => decide (p.blk ≠ .regionCtl ∧ p.blk ≠ .time ∧ (p.region = 1 ∨ p.region = 2 ∨ p.region = 3 ∨ p.region = 4))

/-- A page of a COLD unit whose block is gated: a write to it is discarded (R386). -/
def State.coldGated (s : State) (p : Page) : Bool := decide (s.get F.PAIR_STATUS_STATE = 1) && coldPages.contains p

/-- The lifecycle keeps SOLVE, AIR and PLAN OFF (R441). -/
def State.lifeBars (s : State) (p : Page) : Bool :=
  decide (3 ≤ s.get F.LC_STATUS_STATE) && decide (p.region = 2 ∨ p.region = 3 ∨ p.region = 4)

/-- The TYPE of the image that a block runs (R452). -/
def imageOf : Blk → Option Nat
  | .core => some 1
  | .sluice | .airport => some 2
  | .gnssTrk | .gnssAcq => some 3
  | .solver => some 4
  | _ => none

/-- A block whose image was refused at this boot (R457). -/
def State.imgRefused (s : State) (p : Page) : Bool := match imageOf p.blk with
  | some k => s.boot.refused.contains k
  | none => false

end Sys2Proof.Machine
end

