-- ==== Sys2Proof/Machine/Pair.lean ====
section
/-! DEFINITION. Partner pairs: pulses, claims and the transmit gate, the checkpoint stream, readiness, the stop state across
the pair, takeover and switch (R384 to R404). What needs the lease engine or the key store stands in PairLate. -/
namespace Sys2Proof.Machine
open Sys2Proof

/-- STANDBY is the power state of a COLD unit: it is entered and left with COLD (R448). -/
def State.pairPower (s : State) (old st : Nat) : State :=
  if st = 1 then s.set F.PWR_STATUS_STATE 3
  else if old = 1 then (s.set F.PWR_STATUS_STATE 0).set F.PWR_CTRL_TARGET 0
  else s

/-- The unit's state changes (R387): IRQ_STATUS.PAIR_STATE. -/
def State.goPair (s : State) (st : Nat) : State :=
  let old := s.get F.PAIR_STATUS_STATE
  if old = st then s else ((s.set F.PAIR_STATUS_STATE st).pairPower old st).irq pPAIR I.PAIR_PAIR_STATE

/-- COLD or WARM. -/
def State.standby (s : State) : Bool := decide (s.get F.PAIR_STATUS_STATE = 1 ∨ s.get F.PAIR_STATUS_STATE = 2)

/-- The regions of a COLD unit are clock-gated, and its supervisor held (R387): what their SRAM holds is not trusted and is cleared; their
registers keep the configuration (R386). -/
def State.gateRegions (s : State) : State :=
  let s := ((s.each coldPages State.blockOff).each coldPages State.sramLost).set F.SUP_STATUS_RUNNING 0
  { s with ls := {} }

/-- The regions start again: the blocks whose EN is 1 begin their start-up, but for METER, which a standby keeps OFF (R417); the supervisor runs
(R387). -/
def State.startRegions (s : State) : State :=
  let s := s.each coldPages fun s p => if s.getP p F.CTRL_EN = 1 ∧ s.st p = stOff ∧ p.blk ≠ .meter then s.startBlock p else s
  (s.set F.SUP_STATUS_RUNNING 1).recompute

/-! ### Pulses (R388) -/

/-- Width of the pulse of the unit's condition, µs. -/
def State.pulseWidth (s : State) : Nat :=
  if s.get F.PAIR_STATUS_STATE = 4 then 3500 else if s.get F.PAIR_STATUS_READY = 1 then 1500 else 500

/-- The planned switch is cancelled for the partner's sake (R402): an event, and the partner is refused. -/
def State.switchCancel (s : State) : State := (s.switchEnds 1).pairSend { typ := 9, format := s.pair.format, arg := 0 }

/-- PEER_STATE changes: IRQ_STATUS.PEER_CHG. From then on PEER_STATE alone says whether the partner is in service (R393). A partner that stops
being READY ends a planned switch (R402). -/
def State.setPeer (s : State) (v : Nat) : State :=
  if s.get F.PAIR_STATUS_PEER_STATE = v then s
  else
    let s : State := { s with pair := { s.pair with oos := s.pair.oos && decide (s.get F.PAIR_STATUS_STATE ≠ 4) } }
    let s := if s.get F.PAIR_STATUS_STATE = 4 ∧ s.get F.SWITCH_SFN ≠ 0 ∧ v ≠ 2 then s.switchCancel else s
    (s.set F.PAIR_STATUS_PEER_STATE v).irq pPAIR I.PAIR_PEER_CHG

/-- A pulse on PEER_ALIVE_IN, of a width in µs: read within ±0.25 ms (R388). -/
def execPeerPulseRx (width : Nat) (s : State) : Res :=
  let near := fun w => decide (w - 250 ≤ width ∧ width ≤ w + 250)
  let s : State := { s with pair := { s.pair with edgeAt := s.now - us width } }
  .next (if near 500 then s.setPeer 1 else if near 1500 then s.setPeer 2 else if near 3500 then s.setPeer 3 else s)

/-- No edge for 30 ms: PEER_STATE NONE (R388). -/
def execPeerPulseMissed (s : State) : Res :=
  if s.get F.PAIR_STATUS_PEER_STATE = 0 ∨ s.now < s.pair.edgeAt + ms 30 then .next s
  else .next ((s.inc C.PAIR_PULSE_MISSES).setPeer 0)

/-- PAIR_CTRL.KICK (R388). -/
def State.kick (s : State) : State := { s with pair := { s.pair with kickAt := some s.now } }

/-- KICK is written. -/
def execPairKick (s : State) : Res := .next s.kick

/-! ### The checkpoint -/

/-- Fields outside the tables that a checkpoint carries (R391): the banks and SFN of SLUICE, GRANT_SEQ, EPOCH and
STEP_PEND, by field, instance and copy. -/
def ckptFields : List (Fld × Nat × Nat) :=
  [(F.GRANT_SEQ, 0, 0), (F.TIME_STATUS_EPOCH, 0, 0), (F.TIME_STATUS_STEP_PEND, 0, 0), (F.SFN, 0, 0)] ++
  (List.range 4).flatMap fun p =>
    [(F.BANK_HDR_SF_CODE, p, 0), (F.BANK_HDR_ACK_RATE, p, 0), (F.BANK_HDR_EPOCH, p, 0), (F.BANK_HDR_SF_CODE, p, 1),
     (F.BANK_HDR_ACK_RATE, p, 1), (F.BANK_HDR_EPOCH, p, 1), (F.BANK_CTRL_ACTIVE, p, 0), (F.BANK_CTRL_ARMED, p, 0), (F.SWAP_SFN, p, 0)]

/-- Image targets above every table: a field, FCNT and SEQ of a port address, the fleet time of the cut. -/
def tgField : Nat := 0x100000
/-- FCNT of a port. -/
def tgFcnt : Nat := 0x100001
/-- SEQ of a port. -/
def tgSeq : Nat := 0x100002
/-- Fleet time of the cut. -/
def tgTime : Nat := 0x100003
/-- The stop state: CLASS, REASON, STOP_SEQ. -/
def tgStop : Nat := 0x100004

/-- The images of what stands outside the tables. -/
def State.fieldImages (s : State) : List Image :=
  (List.range ckptFields.length).map (fun i => match ckptFields[i]? with
    | some (f, inst, k) => ⟨tgField, i, s.get f inst k⟩
    | none => ⟨tgField, i, 0⟩)
  ++ (List.range 4).map (fun p => ⟨tgFcnt, p, nth 0 s.air.fcnt p⟩) ++ (List.range 4).map (fun p => ⟨tgSeq, p, nth 0 s.air.seq p⟩)
  ++ [⟨tgTime, 0, s.ft⟩, ⟨tgStop, 0, s.get F.HG_STATE_CLASS⟩, ⟨tgStop, 1, s.get F.HG_STATE_REASON⟩, ⟨tgStop, 2, s.get F.HG_STATE_STOP_SEQ⟩]

/-- The table numbers that a checkpoint carries, as images name them. -/
def ckptTargets : List Nat :=
  allPages.flatMap fun p => (ckptTables p.blk).map fun t => p.base / 0x1000 * 16 + t

/-- The after-images of a full (R391, R392). -/
def State.fullImages (s : State) : List Image :=
  (s.tbl.filter fun e => ckptTargets.contains (e.1 / 2 ^ 24)).map (fun e => ⟨e.1 / 2 ^ 24, e.1 % 2 ^ 24, e.2⟩) ++ s.fieldImages

/-- One after-image is applied. Of the stop state only STOP_SEQ is: its class is held as the cause PARTNER (R396). -/
def State.applyImage (s : State) (i : Image) : State :=
  if i.target < tgField then { s with tbl := AMap.set tblReset s.tbl (i.target * 2 ^ 24 + i.index % 2 ^ 24) i.value }
  else if i.target = tgField then
    match ckptFields[i.index]? with
    | some (f, inst, k) => s.set f i.value inst k
    | none => s
  else if i.target = tgFcnt then { s with air := { s.air with fcnt := setNth s.air.fcnt i.index i.value } }
  else if i.target = tgSeq then { s with air := { s.air with seq := setNth s.air.seq i.index i.value } }
  else if i.target = tgStop ∧ i.index = 2 then s.set F.HG_STATE_STOP_SEQ (i.value % 256)
  else s

/-- The bytes of a delta's records, as its CUT's CRC covers them (R395). -/
def imageBytes (l : List Image) : List Nat := l.flatMap fun i => (i.target % 256) :: toBytes 3 i.index ++ toBytes 64 i.value

/-- A list cut into lists of at most `n`, in at most `fuel` pieces. -/
def chunkList {α : Type} (n : Nat) : Nat → List α → List (List α)
  | 0, _ => []
  | k + 1, l => match l with
    | [] => []
    | _ :: _ => l.take n :: chunkList n k (l.drop n)

/-- The records of a full or a delta are sent, in messages of at most 200 images; the last one carries the members' plan states. -/
def State.sendImages (s : State) (typ sfn : Nat) (l : List Image) (lastRec : Bool) : State :=
  let cs := chunkList 200 (l.length / 200 + 1) l
  s.each (List.range cs.length) fun s i =>
    s.pairSend { typ := typ, lastRec := lastRec && decide (i + 1 = cs.length), format := s.pair.format, sfn := sfn,
                 rseq := 200 * i, images := nth [] cs i, plans := if i + 1 = cs.length then s.mot else [] }

/-- The active unit closes the delta of the superframe that ends at a boundary, and starts a full at the first boundary of
each whole fleet second (R392). SFN has stepped. -/
def State.pairCut (s : State) : State :=
  if s.get F.PAIR_STATUS_STATE ≠ 4 then s
  else
    let sfn := (s.get F.SFN + 2 ^ 32 - 1) % 2 ^ 32
    let d := s.pair.delta.reverse ++ s.fieldImages
    let s : State := { s with pair := { s.pair with delta := [] } }
    let inService := decide (s.get F.PAIR_STATUS_PEER_STATE = 2) && !s.pair.oos
    let s := s.set F.PAIR_STATUS_PEER_IN_SERVICE (b2n inService)
    let s := (s.sendImages 2 sfn d false).pairSend { typ := 3, format := s.pair.format, sfn := sfn, arg := crc32c (imageBytes d) }
    let s := (s.inc C.PAIR_DELTAS).sendStopState (s.get F.HG_STATE_CLASS) (s.get F.HG_STATE_REASON)
    let s : State := { s with pair := { s.pair with unacked := if inService then s.pair.unacked ++ [sfn] else [] } }
    if s.pair.fullSec = s.fleetSec then s
    else
      let s : State := { s with pair := { s.pair with fullSec := s.fleetSec } }
      (s.sendImages 1 sfn s.fullImages true).inc C.PAIR_FULLS

/-- The newest complete full. -/
def PairSt.full (p : PairSt) : Option FullRec :=
  (p.slots.filterMap fun o => match o with | some f => if f.done then some f else none | none => none).foldl
    (fun b f => match b with | some g => if later f.sfn g.sfn 32 then some f else some g | none => some f) none

/-- CFG_HASH (R386): a CRC-32C over the RW and RWL fields from +0x300 of the zone's pages, words in ascending address. -/
def hashedPages : List Page :=
  allPages.filter fun p => decide (p.region = 4 ∨ p = ⟨.sluice, 0⟩ ∨ p.blk = .route ∨ p.blk = .flood ∨ p.blk = .rtkCtrl ∨ p.blk = .corrOut)

/-- The RW and RWL bits of a register as a mask. -/
def RegDef.rwMask (r : RegDef) : Nat :=
  r.fields.foldl (fun m f => if f.acc = .rw ∨ f.acc = .rwl then m + (2 ^ f.width - 1) * 2 ^ f.lsb else m) 0

/-- The bytes that CFG_HASH covers. -/
def State.cfgBytes (s : State) : List Nat :=
  let page := fun (p : Page) => p.blk.regs.flatMap fun r =>
    if r.off < 0x300 ∨ r.rwMask = 0 then []
    else (List.range r.count).flatMap fun k => toBytes 4 (Nat.land (s.reg (p.adr (r.off + k * r.stride))) r.rwMask)
  hashedPages.flatMap page ++ toBytes 4 (s.reg (F.HG_CFG_OUT_CLASS.addr 0 0))

/-- CFG_HASH of this unit. -/
def State.cfgHash (s : State) : Nat := crc32c s.cfgBytes

/-- The first condition of R390 that fails, 0 for none. -/
def State.nrReason (s : State) : Nat :=
  match s.pair.full with
  | none => 1
  | some _ =>
    if s.pair.gap then 2
    else match s.pair.peer with
      | none => 3
      | some m =>
        if m.cfgHash ≠ s.cfgHash then 3
        else if m.kgen ≠ s.get F.SEC_STATUS_KGEN_CUR then 4
        else if m.format ≠ s.pair.format ∧ ¬ (m.pstate = 4 ∧ s.pair.formatPrev ≠ 0 ∧ m.format = s.pair.formatPrev) then 5
        else if !s.pair.imagesOk then 6
        else if s.pair.oos then 7 else 0

/-- READY and NR_REASON follow (R390), and the moment from which a WARM unit has been READY (R403). -/
def State.readyShow (s : State) : State :=
  if !s.standby then s
  else
    let r := s.nrReason
    let first := decide (r = 0 ∧ (s.get F.PAIR_STATUS_READY = 0 ∨ s.pair.warmReadyAt = none))
    let s : State := { s with pair := { s.pair with warmReadyAt := if s.get F.PAIR_STATUS_STATE = 2 then (if first then some s.now else s.pair.warmReadyAt) else none } }
    (s.set F.PAIR_STATUS_READY (b2n (decide (r = 0)))).set F.PAIR_STATUS_NR_REASON r

/-- Every 10 ms PEER_ALIVE_OUT goes high while PAIR is ON: an ACTIVE unit only within 20 ms of KICK and until it has handed the zone over, a COLD
one while DRAM is ON (R387, R388). -/
def execPeerAlivePulse (s : State) : Res :=
  if !s.isPaired ∨ !s.isOn .pair ∨ s.inRecovery ∨ s.now < s.pair.pulseAt + ms 10 then .next s
  else
    let s := ({ s with pair := { s.pair with pulseAt := s.now } } : State).readyShow
    let st := s.get F.PAIR_STATUS_STATE
    let kicked := match s.pair.kickAt with | some t => decide (s.now ≤ t + ms 20) | none => false
    let may := if st = 4 then kicked && decide (s.get F.SVC_STATUS_HANDED = 0) else if st = 1 then s.isOn .dram else true
    .next (if may then s.emit (.peerPulse s.pulseWidth) else s)

/-- The standby's image stream: a record of a full goes to the slot that does not hold the complete full (R394); a delta's
records are kept in order. They stand in DRAM: while that is not ON they are lost, which is a gap. -/
def State.pairData (s : State) (m : PairMsg) : State :=
  let s : State := { s with pair := { s.pair with flitAt := s.now } }
  let p := s.pair
  if ¬ s.isOn .dram then { s with pair := { p with gap := true } }
  else if m.typ = 1 then
    let keep := p.full.map (·.sfn)
    let k := match nth none p.slots 0 with
      | some f => if f.done ∧ some f.sfn = keep then 1 else 0
      | none => 0
    let old := match nth none p.slots k with
      | some f => if f.sfn = m.sfn ∧ !f.done then f.images else []
      | none => []
    if old.length ≠ m.rseq then s
    else
      let f : FullRec := ⟨m.sfn, old ++ m.images, m.lastRec, m.plans⟩
      let s : State := { s with pair := { p with slots := setNth p.slots k (some f),
                                                 oos := p.oos && !m.lastRec,
                                                 deltas := if m.lastRec then p.deltas.filter fun d => later d.sfn m.sfn 32 else p.deltas } }
      if m.lastRec then
        let sfns := s.pair.deltas.map (·.sfn)
        let ok := (List.range sfns.length).all fun i => decide (nth 0 sfns i = (m.sfn + 1 + i) % 2 ^ 32)
        ({ s with pair := { s.pair with gap := !ok } }.set F.FULL_SFN m.sfn).inc C.PAIR_FULLS
      else s
  else
    match p.deltas.getLast? with
    | some d =>
      if d.sfn = m.sfn ∧ !d.done then
        if d.images.length = m.rseq then
          { s with pair := { p with deltas := p.deltas.dropLast ++ [{ d with images := d.images ++ m.images, plans := m.plans }] } }
        else s
      else { s with pair := { p with deltas := p.deltas ++ [⟨m.sfn, m.images, false, m.plans⟩] } }
    | none => { s with pair := { p with deltas := [⟨m.sfn, m.images, false, m.plans⟩] } }

/-- FULL_DATA or DELTA_DATA arrives at a standby (R392, R394). -/
def execPairDataRx (m : PairMsg) (s : State) : Res :=
  if (s.standby ∨ s.pair.lastDelta) ∧ (m.typ = 1 ∨ m.typ = 2) then .next (s.pairData m).readyShow else .next s

/-- Bytes that the deltas held take in the ring (R394). -/
def PairSt.deltaBytes (p : PairSt) : Nat := p.deltas.foldl (fun n d => n + 16 + 68 * d.images.length) 0

/-- Bytes of the delta ring: the partner partition from 0x2100000 (R394). -/
def State.deltaRing (s : State) : Nat := s.get F.PART_SIZE_SIZE 0 1 * 2 ^ 20 - 0x2100000

/-- RESYNC (R393, R394): a standby has been declared out of service, and is NOT_READY until a new full and its deltas have
come; at the active unit the standby asks for a new full, which starts at the next boundary. -/
def execResyncRx (s : State) : Res :=
  let s : State := { s with pair := { s.pair with flitAt := s.now } }
  if s.standby then .next (({ s with pair := { s.pair with oos := true } }).inc C.PAIR_RESYNCS).readyShow
  else .next (({ s with pair := { s.pair with fullSec := 0 } }).inc C.PAIR_RESYNCS)

/-- Once a second each unit sends STATUS (R395). -/
def execPairStatusSend (s : State) : Res :=
  if !s.isPaired ∨ s.now < s.pair.statusAt + sec 1 then .next s
  else
    let s := ({ s with pair := { s.pair with statusAt := s.now } }).set F.CFG_HASH s.cfgHash
    .next (s.pairSend { typ := 6, format := s.pair.format, cfgHash := s.cfgHash, kgen := s.get F.SEC_STATUS_KGEN_CUR,
                        pstate := s.get F.PAIR_STATUS_STATE, nr := s.get F.PAIR_STATUS_NR_REASON })

/-! ### The stop state (R396) -/

/-- STOP_STATE arrives: a standby holds PARTNER at the class received, and on NONE applies a partner release, accepted
only with its inputs inactive and no GATE_FAULT; STOP_SEQ is the active unit's (R391); the active unit raises PARTNER with the class. -/
def execStopStateRx (cls _reason stopSeq : Nat) (s : State) : Res :=
  if !s.isPaired then .next s
  else if s.standby then
    if cls ≠ 0 then .next ((s.raiseCause rsPARTNER (min cls 3)).set F.HG_STATE_STOP_SEQ (stopSeq % 256))
    else if s.get F.PINS_FILTERED = 0 ∧ s.get F.HG_STATE_GATE_FAULT = 0 then
      .next ((s.set F.HG_STATE_STOP_SEQ (stopSeq % 256)).disarm 8).clearCauses
    else .next s
  else if s.get F.PAIR_STATUS_STATE = 4 ∧ cls ≠ 0 then .next (s.raiseCause rsPARTNER (min cls 3))
  else .next s

/-! ### Claims (R389) -/

/-- The unit may assert its claim: the partner's line released for 1 ms, the partner not ACTIVE, no role conflict; none in
recovery (R461). -/
def State.mayClaim (s : State) : Bool :=
  !s.inRecovery && decide (s.get F.PAIR_STATUS_CLAIM_PEER = 0 ∧ s.pair.peerRelAt + ms 1 ≤ s.now ∧ s.get F.PAIR_STATUS_PEER_STATE ≠ 3
    ∧ s.get F.PAIR_STATUS_ROLE_CONFLICT = 0)

/-- The claim is asserted. -/
def State.claim (s : State) : State :=
  (({ s with pair := { s.pair with claimAt := some s.now, checked := false } }.set F.PAIR_STATUS_CLAIM_OWN 1).emit (.pin "ACTIVE_N" false)).gateShow

/-- The unit goes COLD: its regions are gated (R387). -/
def State.goCold (s : State) : State :=
  (((s.set F.PAIR_CTRL_WARM 0).goPair 1).gateRegions).readyShow

/-- The first 30 ms after reset (R387): a PAIRED unit that has seen a partner's claim, be it over again, is COLD; after them a primary that saw
none claims, and a secondary waits COLD. -/
def execPairResetRole (s : State) : Res :=
  let seen := decide (s.get F.PAIR_STATUS_CLAIM_PEER = 1 ∨ s.pair.resetAt < s.pair.peerRelAt)
  if !s.pair.paired ∨ s.pair.roleDone ∨ (!seen ∧ s.now < s.pair.resetAt + ms 30) then .next s
  else if s.get F.PAIR_STATUS_ROLE_CONFLICT = 1 then .next s
  else if !seen ∧ s.get F.PAIR_STATUS_ROLE = 0 then
    if s.mayClaim then .next (({ s with pair := { s.pair with roleDone := true } }).claim.goPair 4) else .next s
  else .next ({ s with pair := { s.pair with roleDone := true } }).goCold

/-- Both lines are asserted: counted and recorded; the secondary releases its line and goes COLD (R389). -/
def State.claimConflict (s : State) : State :=
  let s := (s.inc C.PAIR_CLAIM_CONFLICTS).notice pPAIR I.PAIR_CLAIM_CONFLICT
  if s.get F.PAIR_STATUS_ROLE = 1 then s.unclaim.goCold else s.gateShow

/-- 50 µs after asserting its claim the unit reads the partner's line again, once; the gate opens where it is released (R389). -/
def execClaimCheck (s : State) : Res :=
  match s.pair.claimAt with
  | none => .next s
  | some t =>
    if s.now < t + us 50 ∨ s.pair.checked then .next s
    else
    let s : State := { s with pair := { s.pair with checked := true } }
    if s.get F.PAIR_STATUS_CLAIM_PEER = 1 then .next s.claimConflict
    else .next s.gateShow

/-- PAIR_CTRL.WARM (R387): 1 starts a COLD unit's regions, 0 gates a WARM unit's again. -/
def State.warm (s : State) (on : Bool) : State :=
  let s := s.set F.PAIR_CTRL_WARM (b2n on)
  if on ∧ s.get F.PAIR_STATUS_STATE = 1 then (s.goPair 2).startRegions.readyShow
  else if !on ∧ s.get F.PAIR_STATUS_STATE = 2 then s.goCold
  else s

/-- WARM is written. -/
def execPairWarm (on : Bool) (s : State) : Res := .next (s.warm on)

/-! ### Takeover -/

/-- HANDOVER from the active unit (R397). -/
def execHandoverRx (s : State) : Res :=
  let s : State := { s with pair := { s.pair with flitAt := s.now } }
  .next (if s.standby then { s with pair := { s.pair with handover := true } } else s)

/-- The takeover condition is met (R397, R398): the unit claims, its AIRPORTs are enabled and its supervisor released. -/
def execTakeoverStart (s : State) : Res :=
  let s := s.readyShow
  let silent := decide (s.get F.PAIR_STATUS_PEER_STATE = 0 ∧ s.pair.flitAt + ms 30 ≤ s.now)
  if !s.standby ∨ s.get F.PAIR_STATUS_READY = 0 ∨ !s.mayClaim ∨ !(s.pair.handover || silent) then .next s
  else
    let s : State := { s with pair := { s.pair with handover := false, loaded := false } }
    let s := ((s.switchEnds 2).claim.goPair 3).inc C.PAIR_TAKEOVERS
    let s := s.each (List.range 4) fun s p => s.setP ⟨.airport, p⟩ F.CTRL_EN 1
    .next s.startRegions

/-! ### Planned switch and reversion (R401 to R403) -/

/-- The active unit names the switch SFN and sends SWITCH (R401). -/
def State.switchStart (s : State) : State :=
  let sfn := (s.get F.SFN + 8) % 2 ^ 32
  (s.set F.SWITCH_SFN sfn).pairSend { typ := 9, format := s.pair.format, sfn := sfn, arg := sfn }

/-- The partner is WARM and READY, as its last STATUS and pulses say. -/
def State.peerWarmReady (s : State) : Bool :=
  decide (s.get F.PAIR_STATUS_PEER_STATE = 2) && (match s.pair.peer with | some m => decide (m.pstate = 2) | none => false)

/-- PAIR_CTRL.SWITCH by token on the active unit (R401). -/
def State.switchCmd (s : State) : State :=
  if s.get F.PAIR_STATUS_STATE = 4 ∧ s.get F.SWITCH_SFN = 0 ∧ s.peerWarmReady then s.switchStart else s

/-- A token writes SWITCH. -/
def execPairSwitch (s : State) : Res := .next s.switchCmd

/-- SWITCH_REQ from the primary is answered with a switch SFN, or with 0 while NO_REVERT is set or a switch is pending
(R403). -/
def execSwitchReqRx (s : State) : Res :=
  let s : State := { s with pair := { s.pair with flitAt := s.now } }
  if s.get F.PAIR_STATUS_STATE ≠ 4 then .next s
  else if s.get F.PAIR_CTRL_NO_REVERT = 1 ∨ s.get F.SWITCH_SFN ≠ 0 then .next (s.pairSend { typ := 9, arg := 0 })
  else .next s.switchStart

/-- SWITCH names the boundary at which this WARM unit takes the zone; 0 refuses, and the primary asks again 60 s later
(R401, R403). -/
def execSwitchRx (sfn : Nat) (s : State) : Res :=
  let s : State := { s with pair := { s.pair with flitAt := s.now } }
  if s.get F.PAIR_STATUS_STATE ≠ 2 then .next s
  else .next (s.set F.SWITCH_SFN sfn)

/-- Every block of the unit works, as far as a unit in COLD shows it. -/
def State.blocksWork (s : State) : Bool := allPages.all fun p => decide (s.st p ≠ stFault ∧ s.st p ≠ stIsolated)

/-- A COLD, READY primary whose blocks have all worked for REVERT_HOLDOFF without a break goes WARM by itself (R403). -/
def execRevertHoldoffExpiry (s : State) : Res :=
  let ok := decide (s.get F.PAIR_STATUS_STATE = 1 ∧ s.get F.PAIR_STATUS_ROLE = 0 ∧ s.get F.PAIR_STATUS_READY = 1
    ∧ s.get F.PAIR_CFG_REVERT_EN = 1) && s.blocksWork && decide (max s.pair.brokeAt s.pair.resetAt + sec (s.get F.REVERT_HOLDOFF) ≤ s.now)
  if !ok then .next s else .next (({ s with pair := { s.pair with askAt := none } }).warm true)

/-- After 10 s WARM and READY, and every 60 s after, the primary sends SWITCH_REQ (R403). -/
def execRevertRequest (s : State) : Res :=
  if s.get F.PAIR_STATUS_STATE ≠ 2 ∨ s.get F.PAIR_STATUS_READY = 0 ∨ s.get F.PAIR_STATUS_ROLE ≠ 0 ∨ s.get F.PAIR_CFG_REVERT_EN = 0
      ∨ s.get F.SWITCH_SFN ≠ 0 then .next s
  else
    let since := s.pair.warmReadyAt.getD s.now
    let due := match s.pair.askAt with | none => since + sec 10 | some t => t + sec 60
    if s.now < due then .next s
    else .next (({ s with pair := { s.pair with askAt := some s.now } }).pairSend { typ := 8 })

end Sys2Proof.Machine
end

