-- ==== Sys2Proof/Machine/ResetOps.lean ====
section
/-! DEFINITION. Chip reset: what a reset of the main domain leaves of the state, and what KEEP, the fuses, the flash and the
Headgate carry over it (R35, R80, R308, R384, R415, R423, R437, R449, R469, R471, R488, R489). -/
namespace Sys2Proof.Machine
open Sys2Proof

/-- Base of the GATE region: its registers and counters are not the main domain's (R308). -/
def gateBase : Nat := 0xE00000

/-- Register words that no main-domain reset changes: the GATE region's, and the fuse settings (R437). -/
def survives (a : Nat) : Bool := decide (gateBase ≤ a) || decide (0x040310 ≤ a ∧ a < 0x040334)

/-- Register words of the main domain at reset, those that survive on top of them; without supplies no block has begun its
start-up. -/
def State.keptRegs (s : State) (powered : Bool) : AMap Word :=
  let base := (resetRegsOf s.sup.strapHead s.sup.strapRole s.sup.recovN).filter fun e =>
    decide (e.1 < gateBase) && (powered || decide (e.1 % 0x1000 ≠ 0x00C))
  (s.regs.filter fun e => survives e.1).foldl (fun m e => AMap.set regReset m e.1 e.2) base

/-- SEQ of the last record that every enabled destination has taken, as far as KEEP knows one (R471). -/
def State.lastTaken (s : State) : Option Nat :=
  let ext := decide (0 < s.extCap)
  let host := decide (s.get F.LOG_CFG_HOST_EN = 1)
  match (s.ev.circ.filter fun c => (!ext || c.ext) && (!host || c.host)).getLast? with
  | some c => some c.ent.seq
  | none => s.ev.taken

/-- The records of the tail later than the last one that every enabled destination has taken go back into the circulating area, and so do those
still bound for a founding area (R471, R473). -/
def State.tailBack (s : State) : List CircRec :=
  let new := fun (r : EvRec) => match s.lastTaken with | some t => later r.seq t 32 | none => true
  let pin := fun (r : EvRec) => s.ev.pendingFound.any fun f => decide (f.ent.seq = r.seq)
  let back := s.ev.tail.filter fun r => new r || pin r
  back.map fun r => match s.ev.circ.find? fun c => c.ent.seq = r.seq with
    | some c => { c with pin := pin r }
    | none => ⟨r, false, false, pin r⟩

/-- Founding records that were pinned and are still in the tail, with KEEP valid, are programmed first at the next boot (R473). -/
def State.foundKept (s : State) : List FoundRec :=
  s.ev.pendingFound.filter fun f => s.sup.keepValid && s.ev.tail.any fun r => decide (r.seq = f.ent.seq)

/-- The event recorder after a chip reset: KEEP holds NEXT_SEQ and the tail, the flash the areas and saves; with KEEP invalid the
sequence goes on from the newest save plus 2^26 (R469, R471, R473). -/
def State.evKept (s : State) : EvLogSt :=
  let e := s.ev
  let lost := (s.ev.pendingFound.filter fun f => !(s.foundKept.contains f)).map fun f => (f.area, f.slot)
  if s.sup.keepValid then
    { nextSeq := e.nextSeq, taken := s.lastTaken, lostSlots := e.lostSlots ++ lost, tail := e.tail, circ := s.tailBack, areaOpen := e.areaOpen, area := e.area, founding := e.founding,
      pendingFound := s.foundKept, saves := e.saves, saveNext := e.saveNext }
  else
    let newest := (nth none e.saves ((e.saveNext + 1) % 2)).or (nth none e.saves e.saveNext)
    { nextSeq := match newest with | some n => (n + 2 ^ 26) % 2 ^ 32 | none => 0,
      lostSlots := e.lostSlots ++ lost,
      areaOpen := e.areaOpen, area := e.area, founding := e.founding, saves := e.saves, saveNext := e.saveNext }

/-- SEQ_JUMP, the first record after KEEP was lost (R469). -/
def State.seqJump (s : State) : State :=
  let e := s.ev
  let newest := (nth none e.saves ((e.saveNext + 1) % 2)).or (nth none e.saves e.saveNext)
  (s.irq pEV I.EVLOG_SEQ_JUMP).sysEvent 4 pEV 0 (newest.getD 0xFFFFFFFF) e.nextSeq

/-- FOUNDING_GAP, one record for each area of which founding records were lost entirely: their slots stay erased (R473). -/
def State.foundGap (s : State) (lost : List FoundRec) : State :=
  s.each (List.range 5) fun s a => match lost.filter fun f => f.area = a with
    | [] => s
    | f :: r => (s.sysEvent 5 pEV a (r.length + 1) f.slot).inc C.EVLOG_FOUND_GAP 0 (r.length + 1)

/-- METER after a chip reset (R415): KEEP's totals stand, or the newest good save is loaded. -/
def State.metKept (s : State) : MeterSt :=
  let m := s.met
  let fresh := { m with sums := List.replicate 15 {}, pq := [{}, {}, {}], e0Due := false, nextIv := 0, lastSec := 0,
                        pulses := m.pulses.map fun x => { x with backlog := 0, lastAt := none, high := false } }
  if s.sup.keepValid then fresh
  else
    let good := (m.saves.filterMap id).filter (·.ok)
    let newest := good.foldl (fun (a : Option MeterSave) x => match a with
      | some y => if y.sec ≤ x.sec then some x else a
      | none => some x) none
    let base := { fresh with store := [], pqWait := [], outDocks := [] }
    match newest with
    | some x => { base with docks := x.docks.map fun d => { d with seq := (d.seq + 65536) % 2 ^ 32, gap := 1 },
                            pqSeq := (x.pqSeq + 65536) % 2 ^ 32, pulses := x.rems.map fun r => { remK := r } }
    | none => { base with docks := List.replicate 12 { gap := 2 }, pqSeq := 0, pulses := [{}, {}] }

/-- What shows that KEEP was lost in METER (R415). -/
def State.metRestored (s : State) : State :=
  let s := if s.met.docks.any fun d => decide (d.gap = 1) then s.set F.MET_STATUS_RESTORED 1 else s
  s.irq pMETER I.METER_GAP

/-- A fuse change that a reset cuts short (R438): a slot without its valid bit, found by ROM; of a counter, some of the steps. -/
def State.tearFuse (s : State) : State :=
  match s.key.job with
  | none => s
  | some j =>
    let s : State := { s with key := { s.key with job := none, jobs := [] } }
    if j.setting < 3 then
      let s := (s.set F.SETTING_USED (s.get F.SETTING_USED 0 j.setting + 1) 0 j.setting).set F.SETTING_TORN 1 0 j.setting
      { s with key := { s.key with torn := s.key.torn ++ [(j.setting, j.slot)] } }
    else
      let (x, s) := s.free
      let v := j.old + x % (j.value - j.old + 1)
      (s.set F.SETTING_VALUE v 0 j.setting).set F.SETTING_USED v 0 j.setting

/-- The slots with EXPIRE are zeroised (R423). -/
def State.expireSlots (s : State) : State :=
  s.each ((List.range 64).filter fun k => bit (KS.flags.get (s.ks k)) 0) State.zeroise

/-- Its whole seconds, which the counter is loaded with; 0 without VBAT (R80). -/
def State.rtcSec (s : State) : Nat := if s.sup.keepValid then s.rtc / 2 ^ 32 / 1000000000 else 0

/-- The RTC goes on from the fraction of its second, and by itself until the main domain has a clock again. -/
def State.rtcKept (s : State) : SupplySt :=
  { s.sup with rtcAhead := if s.sup.keepValid then s.rtc % (1000000000 * 2 ^ 32) else 0, downAt := some s.now }

/-- The main domain is reset (in RETURNED and RETIRED with the pair logic off, R451): what remains is what KEEP, fuses, flash, pins and the Headgate hold. Fleet time is the RTC's whole
seconds (R80), the frame counters of the ports go on. -/
def State.resetMain (s : State) (powered : Bool) : State :=
  let keepTbl := s.tbl.filter fun e => decide (pKS.tblBase 0 ≤ e.1 ∧ e.1 < pKS.tblBase 0 + 16 * 2 ^ 24)
  { State.reset with
    pending := s.pending, now := s.now, fresh := s.fresh, out := s.out,
    ft := s.rtcSec * 1000000000 * 2 ^ 32, tm := { loadSec := s.rtcSec },
    regs := s.keptRegs powered, ctrs := s.ctrs.filter (fun e => decide (gateBase ≤ e.1)), tbl := keepTbl,
    ev := s.evKept, hg := { s.hg with bursts := [none, none, none, none], armedAt := none }, sup := s.rtcKept,
    air := { fcnt := s.air.fcnt, seq := s.air.seq }, met := s.metKept,
    canal := { site := s.get F.SETTING_VALUE 0 0 },
    pair := { paired := decide (s.get F.SETTING_VALUE 0 1 = 1 ∧ s.get F.LC_STATUS_STATE < 3), resetAt := s.now },
    key := { policy := s.get F.SETTING_VALUE 0 2, torn := s.key.torn, remaskAt := s.key.remaskAt },
    boot := { dirs := s.boot.dirs, banks := s.boot.banks } }

/-- In RETURNED and RETIRED the blocks of SOLVE, AIR and PLAN stay OFF (R441). -/
def State.lifeOff (s : State) : State :=
  let l := allPages.filter s.lifeBars
  s.each l fun s p => (s.setP p F.CTRL_EN 0).setP p F.STATE 0

/-- A chip reset with its cause (RESET_CAUSE of R35): events of METER close, the claim falls, a fuse change is cut short, the main
domain is reset, the EXPIRE slots are zeroised, and the Headgate raises CHIP_RESET (R288, R308). Without supplies the
domain stays in reset. -/
def State.chipReset (s : State) (cause : Nat) (powered : Bool := true) : State :=
  let life := s.get F.LC_STATUS_STATE
  let s := s.on (s.isOn .meter) State.pqTruncate
  let s := s.on (decide (s.get F.PAIR_STATUS_CLAIM_OWN = 1)) fun s => s.emit (.pin "ACTIVE_N" true)
  let s := s.tearFuse
  let lost := s.ev.pendingFound.filter fun f => !(s.foundKept.contains f)
  let keep := s.sup.keepValid
  let t := ((s.resetMain powered).set F.LC_STATUS_STATE life).lifeOff.expireSlots
  let t := if keep then t else { t with tbl := AMap.clearRange t.tbl (pKS.tblBase 10) (pKS.tblBase 10 + 2 ^ 24) }
  let t := (t.set F.RESET_CAUSE_CAUSE cause).set F.TEMP_TRIPPED (b2n (decide (cause = 3)))
  let t := t.each (List.range 12) State.totalsShow
  let t := t.set F.NEWEST_SEQ ((t.ev.nextSeq + 2 ^ 32 - 1) % 2 ^ 32)
  let t := (if keep then t else t.seqJump.metRestored).foundGap lost
  let t := t.foundStatus
  let t := (t.set F.HG_STATE_BURST 0).set F.HG_STATE_ARMED 0
  ((t.secShow).raiseCause rsCHIPRESET 2).recompute

/-- An UNCONTAINED error in FAULT, CLOCK, RESET or IRQ, or a thermal trip (R52, R486): the Headgate is asked for STOP, the zone
goes to a fitted partner, the chip is reset. -/
def State.chipStop (s : State) (cause code : Nat) : State :=
  ((s.raiseCause rsCHIPRESET 2).handOver code).chipReset cause

end Sys2Proof.Machine
end

