-- ==== Sys2Proof/Machine/Blocks.lean ====
section
/-! DEFINITION. Commands of the block state machine, of the region controllers and of classified errors (R43 to R46, R48, R52). -/
namespace Sys2Proof.Machine
open Sys2Proof

/-! ### CTRL.EN (R43, R161, R386, R441, R457) -/

/-- EN := 0 is refused on the last port that is ON while the stop state is set (R161). -/
def State.lastPort (s : State) (p : Page) : Bool :=
  decide (p.blk = .airport ∧ s.st p = stOn ∧ s.get F.HG_STATE_CLASS ≠ 0) &&
    !((List.range 4).any fun q => decide (q ≠ p.inst) && s.isOn .airport q)

/-- EN := 1. -/
def State.enOn (s : State) (p : Page) : State :=
  if s.lifeBars p then s
  else if s.imgRefused p then s.inc C.BOOT_IMG_REJECT
  else
    let s := s.setP p F.CTRL_EN 1
    let st := s.st p
    if st = stOff then s.startBlock p
    else if st = stStarting then s.setP p F.STATE_PEND_OFF 0
    else if st = stStopping then s.setP p F.STATE_PEND_ON 1
    else s

/-- EN := 0. -/
def State.enOff (s : State) (p : Page) : State :=
  if s.lastPort p then s.inc C.AIRPORT_EN_REFUSED p.inst
  else
    let s := s.setP p F.CTRL_EN 0
    let st := s.st p
    if st = stOn then s.stopBlock p
    else if st = stStarting then (s.setP p F.STATE_PEND_OFF 1).on (decide (p.blk = .airport)) fun s => s.svcDown p.inst true
    else if st = stStopping then s.setP p F.STATE_PEND_ON 0
    else if p.blk = .airport then s.svcDown p.inst true
    else s

/-- A write of CTRL.EN (R43, R40, R41): the Headgate's is RO; under LOCK it is a refused write; the value in force changes
nothing. -/
def State.writeEn (s : State) (src : Src) (p : Page) (en : Bool) : State :=
  if p.blk = .headgate ∨ s.coldGated p ∨ !s.powered ∨ s.getP p F.CTRL_EN = b2n en then s
  else if s.getP p F.LOCK_LOCKED = 1 then s.refuseRwl src (p.base + 0x008)
  else if en then s.enOn p
  else s.enOff p

/-- CTRL.EN is written. -/
def execCtrlEnWrite (src : Src) (p : Page) (en : Bool) (s : State) : Res :=
  if allPages.contains p ∧ !s.jtagBars src p true then .next (s.writeEn src p en) else .next s

/-! ### Errors (R13, R48, R52) -/

/-- What a block's chapter does as a cell leaves its pool (R13). -/
def State.cellHook (s : State) (p : Page) (cell : Nat) : State :=
  match p.blk with
  | .gnssTrk =>
    let c := 16 * p.inst + cell
    s.setChan c { s.chan c with st := 7 }
  | .meter => s.meterCellGone
  | .solver => ((s.giveUp p.inst).set F.CELL_STATUS_REMOVED 1 p.inst).rtkShow
  | .sluice => s.svcFault p.inst
  | .route => s.bankLost cell
  | .flood =>
    let ways := s.getP p F.STATE_CELLS_LIVE
    ({ s with rt := { s.rt with seen := s.rt.seen.map fun (e : Nat × List (Nat × Nat × Nat)) => (e.1, lastN ways e.2) } }).seenShow
  | .core => s.abortCore p.inst
  | _ => s

/-- A number that names none of a block's pool cells and not its logic (0xFF) names one of its FIFOs. R13 gives FIFOs no numbers: here FIFO
q of FLUME is queue q, FIFO 64 of an AIRPORT its receive FIFO, 65 its transmit FIFO (DESIGN CHOICE, log entry 14). -/
def Page.isFifo (p : Page) (cell : Nat) : Bool := decide (p.blk.cells ≤ cell ∧ cell < 0xFF)

/-- A FIFO fails (R13): its path is disabled until the block is restarted, and a CONTAINED error, whose code is not given, is raised. -/
def State.fifoGone (s : State) (p : Page) (cell : Nat) : State :=
  let g := s.page p
  if g.fifosOff.contains cell then s
  else
    let (c, s) := (s.setPage p { g with fifosOff := cell :: g.fifosOff }).free
    s.errReport p cell 2 (c % 256) false 0 0 0

/-- A cell is removed; an empty pool takes its block to FAULT (R13, R43). -/
def State.cellGone (s : State) (p : Page) (cell : Nat) : State :=
  if (s.page p).removed.contains cell ∨ p.blk.cells ≤ cell then s
  else
    let s := (s.removeCell p cell).cellHook p cell
    if s.getP p F.STATE_CELLS_LIVE = 0 ∧ s.st p = stOn then s.enterFault p else s

/-- An error that removes its cell at once: a slot engine's or a converter's failed self-check. -/
def selfCheck (p : Page) (code : Nat) : Bool := decide (code = 0x01 ∧ (p.blk = .sluice ∨ p.blk = .meter))

/-- An error at a cell or in a block's logic (0xFF), classified (R52): counted and reported, its cell perhaps removed, and escalated
to the block, the region, the chip or the Headgate. -/
def State.cellError (s : State) (p : Page) (cell cls code : Nat) (injected : Bool) (a0 a1 a2 : Nat) : State :=
  let ev := evCode cls (if injected then 0 else code) injected
  if p.region = 7 ∧ cls ≠ 1 then
    let code := if p.blk = .regionCtl ∧ !injected then 0x07 else code
    ((s.errReport pHG cell cls code injected a0 a1 a2).gateFault ev).stateCompare (if p = pHG ∧ !injected then code else 0) |>.recompute
  else
    let gone := s.cellFails p cell cls || (selfCheck p code && !injected)
    let s := (s.errReport p cell cls code injected a0 a1 a2).noteCellErr p cell cls
    let s := s.on (decide (cls = 2 ∧ p.blk = .solver)) fun s => s.giveUp p.inst
    let s := s.on gone fun s => if p.isFifo cell then s.fifoGone p cell else s.cellGone p cell
    let s :=
      if cls ≠ 3 then s
      else if p.blk = .regionCtl then s.regionFailing p.region ev
      else if p.blk = .fault ∨ p.blk = .clock ∨ p.blk = .reset ∨ p.blk = .irq then s.chipStop 2 ev
      else if s.mayFault p then s.enterFault p
      else s
    s.recompute

/-! ### Start-up and shut-down (R24, R43, R46, R160) -/

/-- A start that may complete: STARTING, wanted, for a port its last step reached, for GNSS_RF the ROOT PLL locked
(R78). -/
def State.startReady (s : State) (p : Page) : Bool :=
  allPages.contains p && s.powered && decide (s.st p = stStarting ∧ s.getP p F.STATE_PEND_OFF = 0) && decide (p.blk ≠ .dram) &&
    decide (p.blk ≠ .gnssRf ∨ s.get F.ROOT_STATUS_ROOT_LOCK = 1)

/-- The cells are tested at the first start after a chip reset or after the region failed (R13); a restart has tested them before. -/
def State.testCells (s : State) (p : Page) (badCells : List Nat) : State :=
  let g := s.page p
  if g.tested then s else s.setPage p { g with removed := (badCells.filter fun c => decide (c < p.blk.cells)).eraseDups, tested := true }

/-- The start mode of GNSS_ACQ (R64): warm with time within 2 s from a valid RTC, an almanac under 30 days old and the position within 100 km;
hot with ephemerides under 2 h old as well; else cold. -/
def State.startMode (s : State) (p : Page) (x : StartIn) : State :=
  if p.blk ≠ .gnssAcq then s
  else
    let under := fun (o : Option Nat) (n : Nat) => match o with | some v => decide (v < n) | none => false
    let warm := s.sup.keepValid && under x.timeErrMs 2001 && under x.almanacAge (30 * 86400) && under x.posErrKm 101
    s.set F.ACQ_STATUS_START (if warm then (if under x.ephAge 7200 then 2 else 1) else 0)

/-- Start-up is complete: ON; or its self-test fails with a code (R43), which is an UNCONTAINED error (R52). A block that holds an image is
loaded from the retained copy, or from flash where the copy fails its check (R458). `x` is what comes from outside. -/
def execStartupComplete (p : Page) (ok : Bool) (code : Nat) (x : StartIn) (s : State) : Res :=
  if !s.startReady p then .next s
  else
    let kept := match imageOf p.blk with | some t => s.boot.retained.contains t | none => false
    let load := kept && ((s.page p).scrubbed || decide (p.blk = .core)) && !x.copyOk
    let s := s.on load fun s => s.blockError pBOOT 0xFF 2 0x01 0 0 0
    if !ok then
      let s := s.cellError p 0xFF 3 code false 0 0 0
      .next (if s.st p = stStarting then s.enterFault p else s)
    else if p.blk = .airport ∧ (s.port p.inst).step < 5 then .next s
    else .next (((s.startMode p x).testCells p x.badCells).enterOn p)

/-- DRAM answers its training and has been written with check bits, or not (R24). -/
def execDramTrainingDone (pass : Bool) (s : State) : Res :=
  if s.st pDRAM ≠ stStarting ∨ s.getP pDRAM F.STATE_PEND_OFF = 1 then .next s
  else if pass then .next ((((s.set F.DRAM_STATUS_TRAINED 1).set F.DRAM_STATUS_CLEARED 1).dramClear).enterOn pDRAM)
  else .next (s.blockError pDRAM 0xFF 3 0x03 0 0 0)

/-- The next safe point of a start that is to be aborted (R43). -/
def execStartupSafePoint (p : Page) (s : State) : Res :=
  if allPages.contains p ∧ s.st p = stStarting ∧ s.getP p F.STATE_PEND_OFF = 1 then .next ((s.setP p F.STATE_PEND_OFF 0).stopBlock p)
  else .next s

/-- A shut-down may complete (R46, R160, R161): no accepted operation is open; a port has sent its PPDU, the stop frames of a set
and its SHUTDOWN list; a core's items have written DONE, or its 1 ms is over (R317); FLUME has drained its output queues, or its 1 ms is over. -/
def State.stopReady (s : State) (p : Page) : Bool :=
  !(s.held.any fun h => decide (h.page = p)) &&
    (match p.blk with
      | .flume => (s.fq.all fun q => q.toChip || (decide (q.ring = [] ∧ q.opened = []))) || decide ((s.page p).stopAt + ms 1 ≤ s.now)
      | .core => decide (s.coreItems p.inst = [] ∨ (s.page p).stopAt + ms 1 ≤ s.now)
      | .airport =>
        decide ((s.port p.inst).spi = [] ∧ (s.port p.inst).waitTo ≤ s.now ∧ (s.port p.inst).txEnd ≤ s.now) && !s.hgHolds p.inst && (nth none s.hg.bursts p.inst).isNone
      | _ => true)

/-- A shut-down is complete: OFF, or a start where one is pending (R43). -/
def execShutdownComplete (p : Page) (s : State) : Res :=
  if !allPages.contains p ∨ s.st p ≠ stStopping ∨ !s.stopReady p then .next s
  else if s.getP p F.STATE_PEND_ON = 1 then
    .next (((s.setP p F.STATE_PEND_ON 0).on (decide (p.blk = .core)) fun s => s.abortCore p.inst).startBlock p)
  else .next (s.blockOff p)

/-! ### Restart and isolation (R44, R45, R485) -/

/-- CTRL.RESTART takes a block that is ON to FAULT; it is not counted under R45. The Headgate is never isolated (R306). Written while the
block is not ON it does nothing (DESIGN CHOICE, log entry 20). -/
def execCtrlRestart (p : Page) (s : State) : Res :=
  if !allPages.contains p ∨ p.region = 7 ∨ s.st p ≠ stOn then .next s
  else .next ((s.setP p F.CTRL_RESTART 1).goState p stFault)

/-- CTRL.ISO_CLEAR allows one more restart of a block held ISOLATED. -/
def execIsoClear (p : Page) (s : State) : Res :=
  let g := s.page p
  if allPages.contains p ∧ s.st p = stIsolated ∧ g.stuck then .next (s.setPage p { g with isoAllow := true }) else .next s

/-- The region controller takes a block in FAULT (R44): the words that its scrub loses (table and index), the cells that fail their
test; a block that cannot be isolated fails its region (R52). -/
def execRegionIsolate (p : Page) (lost : List (Nat × Nat)) (badCells : List Nat) (can : Bool) (s : State) : Res :=
  if !allPages.contains p ∨ p.region = 7 ∨ s.st p ≠ stFault then .next s
  else if can then .next (s.isolate p lost badCells).recompute
  else .next (s.regionFailing p.region (evCode 3 (s.getP p F.ERR_STATUS_CODE)))

/-- A restart is held back while VDD_ANA is out of range (R485). -/
def State.railHolds (s : State) (p : Page) : Bool := s.sup.railsOut.contains 3 && (decide (p.blk = .gnssRf) || decide (p.blk = .meter))

/-- The region controller restarts a block that is ISOLATED, unless four counted entries keep it there and no ISO_CLEAR has come
(R43, R45): to STARTING, or to OFF by EN. -/
def execBlockAutoRestart (p : Page) (s : State) : Res :=
  let g := s.page p
  if !allPages.contains p ∨ s.st p ≠ stIsolated ∨ (g.stuck ∧ ¬ g.isoAllow) ∨ s.railHolds p then .next s
  else
    let s := (s.setPage p { g with stuck := false, isoAllow := false }).failedBlock p false
    if s.getP p F.CTRL_EN = 1 ∧ !s.lifeBars p then
      .next ((s.setP p F.STATE_RESTARTS (satAdd (s.getP p F.STATE_RESTARTS) 1 255)).startBlock p)
    else .next (s.goState p stOff)

/-! ### Errors from outside (R48, R52, R119) -/

/-- A hardware error. -/
def execCellError (p : Page) (cell cls code a0 a1 a2 : Nat) (s : State) : Res :=
  if !allPages.contains p ∨ cls = 0 ∨ 3 < cls ∨ !s.powered then .next s else .next (s.cellError p cell cls code false a0 a1 a2)

/-- A write of ERR_INJECT (R48): CORRECTED always; the others where the block is not ON or the debug level is FULL; else refused.
The injected error takes the path of a real one, with code 0. -/
def State.errInject (s : State) (src : Src) (p : Page) (cls cell : Nat) : State :=
  if cls = 0 ∨ 3 < cls then s
  else if cls ≠ 1 ∧ s.st p = stOn ∧ s.get F.DBG_STATUS_LEVEL ≠ 2 then s.refuseRwl src (p.base + 0x018)
  else s.cellError p (cell % 256) cls 0 true 0 0 0

/-- ERR_INJECT is written. -/
def execErrInject (src : Src) (p : Page) (cls cell : Nat) (s : State) : Res :=
  if !allPages.contains p ∨ s.coldGated p ∨ !s.powered ∨ s.jtagBars src p true then .next s else .next (s.errInject src p (cls % 4) cell)

/-- A solver cell reaches 2,000,000 cycles on one member-epoch (R119): counted, CONTAINED with a code that the spec does not give,
the member-epoch given up. -/
def execCellWatchdog (cell : Nat) (s : State) : Res :=
  match s.rtk.cells.find? fun w => w.cell = cell with
  | none => .next s
  | some w =>
    if 16 ≤ cell ∨ s.now < w.at_ + 3333333334 then .next s
    else
      let (c, s) := (s.inc C.SOLVER_WATCHDOG cell).free
      .next (s.cellError ⟨.solver, cell⟩ 0 2 (c % 256) false 0 0 0)

end Sys2Proof.Machine
end

