-- ==== Sys2Proof/Machine/Keys.lean ====
section
/-! DEFINITION. Commands of KEYSTORE and FUSE: attestation, key operations, re-masking, the token buffer, setting changes
(R421, R424, R425, R428, R437, R438). Signatures, masks and nonces are free values. -/
namespace Sys2Proof.Machine
open Sys2Proof

/-! ### Attestation (R421) -/

/-- ATT_CTRL.GO: discarded while BUSY. -/
def execAttGo (s : State) : Res :=
  if ¬ s.isOn .keystore ∨ s.get F.ATT_STATUS_BUSY = 1 then .next s
  else .next (({ s with key := { s.key with attNonce := s.words pKS 0x580 8 } }).set F.ATT_STATUS_BUSY 1)

/-- Bytes 0 to 355 of a statement. -/
def State.attBody (s : State) : List Nat :=
  let set := fun k => s.get F.SETTING_VALUE 0 k
  let used := fun k => s.get F.SETTING_USED 0 k
  [1, s.get F.LC_STATUS_STATE, s.get F.DBG_STATUS_LEVEL, s.get F.BOOT_STATUS_BANK + 2 * s.get F.BOOT_STATUS_RECOVERY]
    ++ toBytes 8 Config.serial.toNat
    ++ [set 0, used 0, set 1, used 1, set 2, used 2, set 3, 0] ++ [set 4, set 5, set 6, set 7, set 8, 0, 0, 0]
    ++ toBytes 6 s.fleetSec ++ [s.get F.TIME_STATUS_TQ, s.get F.SEC_STATUS_KGEN_CUR]
    ++ s.key.attNonce.flatMap (toBytes 4) ++ s.key.meas.flatMap (toBytes 32) ++ toBytes 64 (s.te pKS 1 1) ++ toBytes 64 s.key.endorse

/-- A free signature of 64 bytes. -/
def State.freeSig (s : State) : Nat × State :=
  let (a, s) := s.free256
  let (b, s) := s.free256
  (a + b * 2 ^ 256, s)

/-- The little-endian words of bytes. -/
def wordsOf (n : Nat) (l : List Nat) : List Nat := (List.range n).map fun i => ofBytes ((l.drop (4 * i)).take 4)

/-- The statement is signed by slot 1 and replaces ATT_BUF whole; without that key nothing is made. -/
def execAttestDone (s : State) : Res :=
  if s.get F.ATT_STATUS_BUSY = 0 then .next s
  else
    let s := s.set F.ATT_STATUS_BUSY 0
    if !s.ksMay 1 4 then .next s
    else
      let (sig, s) := s.freeSig
      let w := wordsOf 105 (s.attBody ++ toBytes 64 sig)
      let s := s.each (w.zip (List.range 105)) fun s x => s.set F.ATT_BUF x.1 0 x.2
      let s := ((s.set F.ATT_STATUS_SEQ ((s.get F.ATT_STATUS_SEQ + 1) % 256)).set F.ATT_STATUS_DONE 1).irq pKS I.KEYSTORE_ATT_DONE
      .next ((s.inc C.KEYSTORE_OPS).ksUse 1)

/-! ### Operations of table 0 (R423, R425) -/

/-- A slot that an operation names: in the table, not one of 0 to 15 for a core, not killed, its usage allowing the operation. -/
def State.ksCheck (s : State) (src : Src) (k usage : Nat) : Option Nat :=
  if 64 ≤ k then some 0x04
  else if (match src with | .core _ => decide (k < 16) | _ => false) then some 0x0C
  else if s.ksKilled k then some 0x10
  else if !s.ksMay k usage then some 0x0C
  else none

/-- SIGN. -/
def ksSignFn (src : Src) : TFn := fun s key _ =>
  let k := nth 0 key 0
  match s.ksCheck src k usSIGN with
  | some e => (s, some { err := e })
  | none =>
    if KS.ktype.get (s.ks k) ≠ 3 then (s, some { err := 0x0C })
    else
      let (sig, s) := s.freeSig
      (((s.inc C.KEYSTORE_OPS).ksUse k), some { data := some sig })

/-- The SIGN opcode. -/
def execKsSign (via : Via) (s : State) : Res := .next (s.tblOp via pKS 8 0 0 (ksSignFn via.src))

/-- VERIFY: whether the signature matches. -/
def ksVerifyFn (src : Src) (ok : Bool) : TFn := fun s key _ =>
  let k := nth 0 key 0
  match s.ksCheck src k usVERIFY with
  | some e => (s, some { err := e })
  | none =>
    if KS.ktype.get (s.ks k) < 3 then (s, some { err := 0x0C })
    else (((s.inc C.KEYSTORE_OPS).ksUse k), some { err := if ok then 0 else 0x08 })

/-- The VERIFY opcode. -/
def execKsVerify (via : Via) (ok : Bool) (s : State) : Res := .next (s.tblOp via pKS 9 0 0 (ksVerifyFn via.src ok))

/-- DERIVE: into an empty slot 16 to 63, a key of type 1 or 2 whose usage leaves ATTEST out, from 1 to 64 bytes of info. -/
def ksDeriveFn (src : Src) : TFn := fun s key data =>
  let k := nth 0 key 0
  let t := nth 0 key 1
  let w := nth 0 key 2
  let ktype := w % 256
  let usage := w / 256 % 256
  let len := w / 2 ^ 24
  match s.ksCheck src k usDERIVE with
  | some e => (s, some { err := e })
  | none =>
    if 64 ≤ t then (s, some { err := 0x04 })
    else if t < 16 ∨ ¬ (ktype = 1 ∨ ktype = 2) ∨ 16 ≤ usage ∨ len = 0 ∨ 64 < len then (s, some { err := 0x0C })
    else if s.ksHeld t then (s, some { err := 0x03 })
    else
      let secret := (Config.ksDerive (s.ksSecret k) ((toBytes 64 data).take len)).toNat
      let (mask, s) := s.free256
      let attr := ktype + usage * 2 ^ 8 + nth 0 key 3 * 2 ^ 32
      let s := s.ksPut t attr 0 (if ktype = 1 then secret % 2 ^ 128 else secret) mask 0
      (((s.inc C.KEYSTORE_OPS).ksUse k), some {})

/-- The DERIVE opcode. -/
def execKsDerive (via : Via) (s : State) : Res := .next (s.tblOp via pKS 10 0 0 (ksDeriveFn via.src))

/-- Every REMASK_MS each slot takes a new mask, in every power state that has KEEP (R424). -/
def execRemask (s : State) : Res :=
  if s.now < s.key.remaskAt + ms (s.get F.KS_CFG_REMASK_MS) ∨ (¬ s.sup.mainOk ∧ ¬ s.sup.battery) then .next s
  else
    let s : State := { s with key := { s.key with remaskAt := s.now } }
    let s := s.each (List.range 64) fun s k =>
      let (m, s) := s.free256
      s.setTe pKS 9 k m
    .next (s.inc C.KEYSTORE_REMASKS)

/-! ### The token buffer (R428) -/

/-- A new TOK_NONCE is drawn. -/
def State.drawNonce (s : State) : State :=
  let (a, s) := s.free
  let (b, s) := s.free
  ({ s with key := { s.key with nonceAt := s.now } }.set F.TOK_NONCE_LO a).set F.TOK_NONCE_HI b

/-- TOK_CTRL.OPEN: the buffer belongs to the source, where it belonged to none. -/
def execTokOpen (src : Src) (s : State) : Res :=
  if ¬ s.isOn .keystore ∨ s.get F.TOK_STATUS_OWNER ≠ 0 ∨ s.jtagBars src pKS true then .next s
  else .next ({ s with key := { s.key with tokAt := s.now } }.set F.TOK_STATUS_OWNER src.code)

/-- TOK_CTRL.GO by the owner starts verification of what TOK_BUF then holds. -/
def execTokGo (src : Src) (s : State) : Res :=
  if ¬ s.isOn .keystore ∨ s.get F.TOK_STATUS_OWNER ≠ src.code ∨ s.get F.TOK_STATUS_BUSY = 1 ∨ s.jtagBars src pKS true then .next s
  else .next ({ s with key := { s.key with tok := s.words pKS 0x400 64 } }.set F.TOK_STATUS_BUSY 1)

/-- TOK_CTRL.RELEASE by the owner, ignored while BUSY. -/
def execTokRelease (src : Src) (s : State) : Res :=
  if s.get F.TOK_STATUS_OWNER ≠ src.code ∨ s.get F.TOK_STATUS_BUSY = 1 ∨ s.jtagBars src pKS true then .next s
  else .next (s.set F.TOK_STATUS_OWNER 0)

/-- 100 ms after OPEN the ownership ends, unless a verification runs. -/
def execTokOwnerTimeout (s : State) : Res :=
  if s.get F.TOK_STATUS_OWNER = 0 ∨ s.get F.TOK_STATUS_BUSY = 1 ∨ s.now < s.key.tokAt + ms 100 then .next s
  else .next (s.set F.TOK_STATUS_OWNER 0)

/-- 300 s after the last draw a new nonce is drawn. -/
def execTokNonceExpiry (s : State) : Res :=
  if s.now < s.key.nonceAt + sec 300 ∨ ¬ s.isOn .keystore then .next s else .next s.drawNonce

/-! ### Setting changes (R437, R438) -/

/-- Power state RUN: neither TRIM nor DOZE nor STANDBY (R448). -/
def State.inRun (s : State) : Bool := decide (s.get F.PWR_STATUS_STATE = 0) && s.powered

/-- Width of a setting's value; the counters take 8 bits. -/
def settingWidth (k : Nat) : Nat := nth 8 [8, 1, 2] k

/-- A FUSE_PROG write is refused under check 8 of R428: a code above 3, a change in progress, a value that its setting has no bits for. -/
def State.fuseRefused (s : State) (setting value : Nat) : Bool :=
  decide (3 < setting ∨ s.get F.FUSE_STATUS_BUSY = 1 ∨ 2 ^ settingWidth setting ≤ value)

/-- What a change is refused with: 2 EXHAUSTED, 3 SAME, 4 NOT_RUN; 0 not refused. -/
def State.fuseResult (s : State) (setting value : Nat) : Nat :=
  let old := s.get F.SETTING_VALUE 0 setting
  let limit := s.get F.SETTING_LIMIT 0 setting
  let full := if setting < 3 then decide (limit ≤ s.get F.SETTING_USED 0 setting) else decide (limit < value)
  let same := if setting < 3 then decide (value = old) else decide (value ≤ old)
  if full ∨ 256 ≤ s.ev.nextSetSlot s.ev.area then 2 else if same then 3 else if !s.inRun then 4 else 0

/-- A change begins: its SETTING_CHANGE record, then the burn. -/
def State.fuseStart (s : State) (j : FuseJob) : State :=
  let s := s.sysEvent 7 ⟨.fuse, 0⟩ (j.setting + j.signer * 256) (j.old % 256 + j.value % 256 * 2 ^ 8 + j.slot % 256 * 2 ^ 16) 0
  let s := s.foundNow s.ev.area
  ({ s with key := { s.key with job := some j } }).set F.FUSE_STATUS_BUSY 1

/-- FUSE_PROG.GO by a token of a signer. -/
def State.fuseGo (s : State) (setting value signer : Nat) : State :=
  if s.fuseRefused setting value then s
  else
    let r := s.fuseResult setting value
    if r ≠ 0 then (s.set F.FUSE_STATUS_RESULT r)
    else
      let old := s.get F.SETTING_VALUE 0 setting
      (s.set F.FUSE_STATUS_RESULT 0).fuseStart ⟨setting, old, value, if setting < 3 then s.get F.SETTING_USED 0 setting else old, signer⟩

/-- FUSE_PROG_GO. -/
def execFuseProgGo (setting value signer : Nat) (s : State) : Res := .next (s.fuseGo setting value signer)

/-- The burn completes (R438): the value counts; or the slot is used up without its valid bit. A raise that follows begins. -/
def execFuseBurnDone (ok : Bool) (s : State) : Res :=
  match s.key.job with
  | none => .next s
  | some j =>
    let s : State := { s with key := { s.key with job := none } }
    let s := s.set F.FUSE_STATUS_BUSY 0
    let value := decide (j.setting < 3)
    let s :=
      if ok then
        let s := (s.set F.SETTING_VALUE j.value 0 j.setting).set F.SETTING_USED (if value then j.slot + 1 else j.value) 0 j.setting
        (s.set F.FUSE_STATUS_RESULT 1).inc C.FUSE_BURNS
      else
        let s := if value then
            let s := (s.set F.SETTING_USED (j.slot + 1) 0 j.setting).set F.SETTING_TORN 1 0 j.setting
            { s with key := { s.key with torn := s.key.torn ++ [(j.setting, j.slot)] } }
          else s
        (s.set F.FUSE_STATUS_RESULT 5).inc C.FUSE_BURN_FAILS
    let s := s.irq ⟨.fuse, 0⟩ I.FUSE_FUSE_DONE
    match s.key.jobs with
    | [] => .next s
    | n :: rest => .next ({ s with key := { s.key with jobs := rest } }.fuseStart n)

end Sys2Proof.Machine
end

