-- ==== Sys2Proof/Machine/Life.lean ====
section
/-! DEFINITION. Lifecycle transitions and the power state that the host sets (R439 to R441, R448 to R450). -/
namespace Sys2Proof.Machine
open Sys2Proof

/-- The KEEP page. -/
abbrev pKEEP : Page := ⟨.keep, 0⟩

/-- A signer is a vendor root key that ROOT_REV has not revoked (R422, R437). -/
def State.vendorOk (s : State) (signer : Nat) : Bool :=
  decide (0x80 ≤ signer ∧ signer ≤ 0x83 ∧ s.get F.SETTING_VALUE 0 3 ≤ signer - 0x80)

/-- A transition that the table of R440 has, with the signer it asks for; RETURNED to RETIRED has none. -/
def State.lcListed (s : State) (target signer : Nat) : Bool :=
  match s.get F.LC_STATUS_STATE, target with
  | 0, 1 | 1, 2 | 1, 4 | 2, 4 => decide (signer = 2)
  | 1, 3 | 2, 3 => decide (0x80 ≤ signer ∧ signer ≤ 0x83)
  | 3, 4 => decide (signer = 0)
  | _, _ => false

/-- The condition of a transition (R440). -/
def State.lcCondition (s : State) (target : Nat) : Bool :=
  if target = 1 then s.ksHeld 2
  else if target = 2 then s.ksHeld 8
  else decide (s.get F.LC_STATUS_STATE = 3 ∨ 2 ≤ s.get F.HG_STATE_CLASS)

/-- What a transition is refused with: LC_STATUS.RESULT 2 BAD_TRANSITION, 3 NOT_RUN, 4 CONDITION; 0 not refused. -/
def State.lcRefusal (s : State) (target signer : Nat) : Nat :=
  if !s.lcListed target signer then 2 else if !s.inRun then 3 else if !s.lcCondition target then 4 else 0

/-- The Headgate's copy of the zone key goes, with its frame sets (R295). -/
def State.hgKeyGone (s : State) : State :=
  { s with hg := { s.hg with key := none, setOk := [false, false, false, false] } }.set F.HG_STATE_KEY_OK 0

/-- The key store's slots 2 to 63 and the Headgate's copy are zeroised (R441). -/
def State.zeroiseAll (s : State) : State := (s.each ((List.range 64).drop 2) State.zeroise).hgKeyGone

/-- A block of SOLVE, AIR or PLAN is stopped for good (R441). -/
def State.barBlock (s : State) (p : Page) : State :=
  let s := s.setP p F.CTRL_EN 0
  let st := s.st p
  if st = stOn then s.stopBlock p
  else if st = stStarting then s.setP p F.STATE_PEND_OFF 1
  else if st = stStopping then s.setP p F.STATE_PEND_ON 0
  else s

/-- SITE_ORIGIN's words. -/
def siteOrigin : List Fld :=
  [F.SITE_ORIGIN_X_LO, F.SITE_ORIGIN_X_HI, F.SITE_ORIGIN_Y_LO, F.SITE_ORIGIN_Y_HI, F.SITE_ORIGIN_Z_LO, F.SITE_ORIGIN_Z_HI]

/-- Entry to RETURNED or RETIRED (R441). A partner in service takes the zone of an active unit; the pair logic is off from here on (R451). -/
def State.endService (s : State) : State :=
  let s := (s.handOver (evCode 4 6)).goPair 0
  let s : State := { s with pair := { s.pair with paired := false } }
  let s := (s.zeroiseAll).clearTable pSEC 0
  let s := s.each siteOrigin fun s f => s.set f 0
  (s.each (allPages.filter s.lifeBars) State.barBlock).recompute

/-- The transport key pair is generated in slot 4 (R422). -/
def State.transportKey (s : State) : State :=
  let (secret, s) := s.free256
  let (mask, s) := s.free256
  let (pub, s) := s.freeSig
  s.ksPut 4 (3 + 4 * 2 ^ 8 + 0xFFFFFFFF * 2 ^ 32) pub secret mask 0

/-- What a transition brings at once (R440, R441). -/
def State.lcEffect (s : State) (target : Nat) : State :=
  if target = 1 then s.transportKey else if 3 ≤ target then s.endService else s

/-- A transition is made (R438, R440, R472): its record opens the new area, then the bit burns, then the effect is applied. -/
def State.lcMove (s : State) (target signer : Nat) (burnOk : Bool) : State :=
  let old := s.get F.LC_STATUS_STATE
  let areas := if s.ev.areaOpen.contains target then s.ev.areaOpen else s.ev.areaOpen ++ [target]
  let s : State := { s with ev := { s.ev with areaOpen := areas } }
  let s := s.eventAt (evCode 4 6) (pKEEP.evSource 0xFF) (old + target * 16 + signer % 256 * 256) (Config.serial.toNat % 2 ^ 32)
    (b2n burnOk) target
  let s := s.foundNow target
  if !burnOk then s.set F.LC_STATUS_RESULT 5
  else
    let s := (s.set F.LC_STATUS_STATE target).set F.LC_STATUS_RESULT 1
    ({ s with ev := { s.ev with area := target } }.foundStatus).lcEffect target

/-- A transition asked for by a token of a signer: refused, or made. -/
def State.lcGo (s : State) (target signer : Nat) (burnOk : Bool) : State :=
  if s.get F.FUSE_STATUS_BUSY = 1 then s
  else
    let r := s.lcRefusal target signer
    if r ≠ 0 then s.set F.LC_STATUS_RESULT r else s.lcMove target signer burnOk

/-- LC_CTRL.TARGET by a token; whether the bit burns comes from outside. RETURNED to RETIRED has no signer. -/
def execLcTransition (target signer : Nat) (burnOk : Bool) (s : State) : Res :=
  if signer = 0 then .next s else .next (s.lcGo target signer burnOk)

/-- LC_CTRL.RETIRE: in a FULL session that a vendor certificate opened in RETURNED; otherwise ignored. -/
def execLcRetire (burnOk : Bool) (s : State) : Res :=
  if s.get F.LC_STATUS_STATE ≠ 3 ∨ s.get F.DBG_STATUS_LEVEL ≠ 2 ∨ !s.dbg.vendor then .next s else .next (s.lcGo 4 0 burnOk)

/-! ### Power state (R448, R450) -/

/-- Every registered member's last trailer shows PARKED, STOPPED or HELD, and no member is MOVING or STOPPING (R450). -/
def State.allParked (s : State) : Bool :=
  (s.members.all fun m => [0, 3, 4].contains (bits (s.mget m RG.trailer) 0 3)) && decide (s.get F.MOT_STATUS_MOVING = 0 ∧ s.get F.MOT_STATUS_STOPPING = 0)

/-- Every SERVING port's active bank has SF_CODE 2. -/
def State.slowBanks (s : State) : Bool :=
  (List.range 4).all fun p => decide (s.get F.PORT_STATUS_SVC p ≠ 2) || decide (s.get F.BANK_HDR_SF_CODE p (s.activeBank p) = 2)

/-- Blocks that DOZE gates stop; when it ends, those whose EN is 1 start (R448). -/
def State.dozeBlocks (s : State) (old t : Nat) : State :=
  if t = 2 ∧ old ≠ 2 then s.each (dozePages.filter fun p => s.st p = stOn ∨ s.st p = stStarting) State.blockOff
  else if old = 2 ∧ t ≠ 2 then
    s.each dozePages fun s p => if s.getP p F.CTRL_EN = 1 ∧ s.st p = stOff then s.startBlock p else s
  else s

/-- A write of PWR_CTRL.TARGET (R448): none in STANDBY; DOZE under R450, which ends by TARGET := RUN alone. A discarded TRIM
has no RESULT code of its own, and RESULT stays (DEDUCED, log entry 104). -/
def State.powerTo (s : State) (t : Nat) : State :=
  let old := s.get F.PWR_STATUS_STATE
  if t = 3 ∨ (old = 2 ∧ t = 1) then s
  else if old = 3 then s.set F.PWR_STATUS_RESULT 4
  else if t = 2 ∧ !s.allParked then s.set F.PWR_STATUS_RESULT 2
  else if t = 2 ∧ !s.slowBanks then s.set F.PWR_STATUS_RESULT 3
  else ((((s.set F.PWR_CTRL_TARGET t).set F.PWR_STATUS_STATE t).set F.PWR_STATUS_RESULT 1).dozeBlocks old t).recompute

/-- PWR_CTRL.TARGET is written. -/
def execPwrTargetWrite (t : Nat) (s : State) : Res := if s.powered then .next (s.powerTo (t % 4)) else .next s

end Sys2Proof.Machine
end

