-- ==== Sys2Proof/Machine/Debug.lean ====
section
/-! DEFINITION. Debug levels, sessions, certificates, halts and EXTEST (R442 to R447). -/
namespace Sys2Proof.Machine
open Sys2Proof

/-- The DEBUG page. -/
abbrev pDBG : Page := ⟨.debug, 0⟩

/-- A new challenge is drawn: at reset, after every use, at END (R444, R446). -/
def State.drawChallenge (s : State) : State :=
  let (c, s) := s.free256
  s.each (List.range 8) fun s k => s.set F.DBG_CHAL (c / 2 ^ (32 * k) % 2 ^ 32) 0 k

/-- OBSERVE opens without a token (R443). -/
def State.observeFree (s : State) : Bool := match s.get F.LC_STATUS_STATE with
  | 0 | 3 | 4 => true
  | 2 => decide (s.key.policy = 1)
  | _ => false

/-- OBSERVE opens by an owner token (R443). -/
def State.observeToken (s : State) : Bool := decide (s.get F.LC_STATUS_STATE ≠ 2 ∨ s.key.policy ≠ 3)

/-- FULL opens by a vendor certificate (R443). -/
def State.fullByCert (s : State) : Bool := match s.get F.LC_STATUS_STATE with
  | 0 => false
  | 2 => decide (s.key.policy ≤ 1)
  | _ => true

/-- DBG_STATUS.RESULT. -/
def State.dbgResult (s : State) (r : Nat) : State := s.set F.DBG_STATUS_RESULT r

/-- The level rises: a session is open; R445's HOLD where it applies. -/
def State.dbgOpen (s : State) (level grants : Nat) : State :=
  let s := (s.dbgResult 1).inc C.DEBUG_SESSIONS
  let old := s.get F.DBG_STATUS_LEVEL
  let s := if old < level then (s.set F.DBG_STATUS_LEVEL level).irq pDBG I.DEBUG_LEVEL_CHG else s
  let s := if level = 2 then s.set F.DBG_STATUS_GRANTS grants else s
  s.debugHold

/-- The supervisor core runs again, unless something else keeps it down. -/
def State.supUnhalt (s : State) : State :=
  if s.get F.SUP_CTRL_HOLD = 1 ∨ s.clk.supLoading ∨ s.clk.supDead ∨ s.get F.PAIR_STATUS_STATE = 1 ∨ !s.boot.romDone ∨ s.boot.waiting ∨
     s.boot.relDue then s
  else (s.set F.SUP_STATUS_RUNNING 1).recompute

/-- A session ends: the level falls to CLOSED, halted cores are released and resume, EXTEST ends (R442, R446, R447). -/
def State.dbgClose (s : State) : State :=
  if s.get F.DBG_STATUS_LEVEL = 0 then s
  else
    let sup := s.dbg.halted.contains 8
    let s : State := { s with dbg := {} }
    let s := ((s.set F.DBG_STATUS_LEVEL 0).set F.DBG_STATUS_GRANTS 0).set F.DBG_STATUS_LEFT_S 0
    (((s.irq pDBG I.DEBUG_LEVEL_CHG).on sup State.supUnhalt).preempt).recompute

/-- DBG_CTRL.OPEN_OBSERVE. -/
def execDbgOpenObserve (s : State) : Res :=
  if ¬ s.isOn .debug then .next s else if s.observeFree then .next (s.dbgOpen 1 0) else .next (s.dbgResult 7)

/-- DBG_CTRL.OPEN_FULL: in BLANK only; it grants no core. -/
def execDbgOpenFull (s : State) : Res :=
  if ¬ s.isOn .debug then .next s
  else if s.get F.LC_STATUS_STATE = 0 then .next (s.dbgOpen 2 0) else .next (s.dbgResult 7)

/-- DBG_CTRL.OBSERVE by an owner token. -/
def State.dbgObserve (s : State) : State := if s.observeToken then s.dbgOpen 1 0 else s.dbgResult 7

/-- OBSERVE. -/
def execDbgObserve (s : State) : Res := if ¬ s.isOn .debug then .next s else .next s.dbgObserve

/-- The certificate in DBG_CERT as one number, byte 0 lowest. -/
def State.cert (s : State) : Nat := (s.words pDBG 0x400 32).foldr (fun w acc => w + acc * 2 ^ 32) 0

/-- The first failing check of R444; 1 OPENED where there is none. -/
def State.certResult (s : State) (sigOk : Bool) : Nat :=
  let c := s.cert
  let b := fun (at_ n : Nat) => bits c (8 * at_) (8 * n)
  let grants := b 2 1
  let chal := (s.words pDBG 0x320 8).foldr (fun w acc => w + acc * 2 ^ 32) 0
  if b 0 1 ≠ 1 ∨ b 1 1 ≠ 2 ∨ 8 ≤ grants ∨ (bit grants 0 ∧ bit grants 2) ∨ 3 < b 3 1 ∨ b 44 4 < 60 ∨ 86400 < b 44 4 ∨ b 48 16 ≠ 0 then 2
  else if b 4 8 ≠ Config.serial.toNat then 3
  else if b 12 32 ≠ chal then 4
  else if b 3 1 < s.get F.SETTING_VALUE 0 3 then 5
  else if !sigOk then 6
  else if !s.fullByCert then 7
  else 1

/-- DBG_CTRL.CERT_GO: whether SIG verifies under the root key comes from outside. -/
def execCertGo (sigOk : Bool) (s : State) : Res :=
  if ¬ s.isOn .debug then .next s
  else
    let r := s.certResult sigOk
    let dur := bits s.cert 352 32
    let grants := bits s.cert 16 3
    let s := s.drawChallenge
    if r ≠ 1 then .next ((s.dbgResult r).inc C.DEBUG_CERT_REFUSED)
    else
      let s : State := { s with dbg := { s.dbg with endAt := some (s.now + sec dur), vendor := true } }
      .next ((s.set F.DBG_STATUS_LEFT_S (min dur 65535)).dbgOpen 2 grants)

/-- DBG_CTRL.END. -/
def execDbgEnd (s : State) : Res :=
  if ¬ s.isOn .debug then .next s else .next (s.dbgClose.drawChallenge)

/-- The certificate's duration ends. -/
def execDbgDurationExpiry (s : State) : Res := match s.dbg.endAt with
  | some t => if t ≤ s.now then .next s.dbgClose else .next s
  | none => .next s

/-- The TAP's instruction (R447, R500): a TRST_N pulse of 100 ns or more resets the TAP, and a shorter one does nothing; with no pulse, EXTEST comes into the
instruction register: at FULL with CLASS STOP or HALT the strobes of every port are inactive; otherwise BYPASS takes its place. The table has no command of its
own for TRST_N, so the pulse stands with this one (log entry 29). Without the main supply the port is dead (R451). -/
def execExtest (trst : Option Nat) (s : State) : Res :=
  if !s.powered then .next s
  else if trst.isSome then .next { s with dbg := { s.dbg with extest := s.dbg.extest && decide (trst.getD 0 < 100) } }
  else if s.get F.DBG_STATUS_LEVEL = 2 ∧ 2 ≤ s.get F.HG_STATE_CLASS then
    .next ({ s with dbg := { s.dbg with extest := true } })
  else .next ({ s with dbg := { s.dbg with extest := false } }.inc C.DEBUG_EXTEST_REFUSED)

/-- The certificate of a FULL session grants a core: 0 to 7 an application core, 8 the supervisor. -/
def State.haltGranted (s : State) (core : Nat) : Bool :=
  decide (s.get F.DBG_STATUS_LEVEL = 2 ∧ core ≤ 8) && bit (s.get F.DBG_STATUS_GRANTS) (if core = 8 then 2 else 1)

/-- A core is halted (1), stepped (2) or resumed (0) by JTAG. A halted application core takes nothing, so that its items run into
their timeout (R317); what a step executes is the program's. -/
def State.debugHalt (s : State) (core act : Nat) : State :=
  let halted := s.dbg.halted.contains core
  if act = 1 ∧ !halted then
    let s : State := { s with dbg := { s.dbg with halted := core :: s.dbg.halted } }
    if core = 8 then (s.set F.SUP_STATUS_RUNNING 0).recompute else s
  else if act = 0 ∧ halted then
    let s : State := { s with dbg := { s.dbg with halted := s.dbg.halted.filter (· ≠ core) } }
    if core = 8 then s.supUnhalt else s.preempt
  else s

/-- DEBUG_HALT. -/
def execDebugHalt (core act : Nat) (s : State) : Res := if s.haltGranted core then .next (s.debugHalt core act) else .next s

end Sys2Proof.Machine
end

