-- ==== Sys2Proof/Machine/Power.lean ====
section
/-! DEFINITION. Commands of supplies, temperature and reset (R35, R413, R448, R485 to R489). -/
namespace Sys2Proof.Machine
open Sys2Proof

/-- CHIP_RESET.GO by a token (R35). -/
def execChipResetGo (s : State) : Res := .next (s.chipReset 5)

/-- A pulse on PORST_N of some ns, with the straps as they then stand (R488): none below 1 µs, a chip reset from 10 µs, either
between. -/
def execPorst (widthNs : Nat) (head role recovN : Bool) (s : State) : Res :=
  if widthNs < 1000 ∨ !s.powered then .next s
  else
    let (x, s) := s.free
    if widthNs < 10000 ∧ x % 2 = 0 then .next s
    else .next ({ s with sup := { s.sup with strapHead := head, strapRole := role, recovN := recovN } }.chipReset 1)

/-- What METER keeps of the docks at the loss of the supply (R413). -/
def State.outageBegin (s : State) (docks : List Nat) : State :=
  { s with met := { s.met with outDocks := docks, outMa := s.get F.OUTAGE_MA,
                               docks := s.met.docks.map fun x => { x with outAt := x.out, above := 0, draw := false } } }

/-- The main supply is gone, as the supplies stood in `old`; with VBAT the battery domain lives on (R489). -/
def State.supplyGone (s : State) (vbat : Bool) (old : State) : State :=
  { s with sup := { old.sup with
      mainOk := false, lostAt := old.now, vbat := vbat, keepValid := old.sup.keepValid && vbat, battery := vbat
      rtcAhead := s.sup.rtcAhead, downAt := s.sup.downAt } }

/-- The main supply is lost (R413, R448, R489): METER's events close, its enabled docks are metered on; the main domain is without
supply, the Headgate raises CHIP_RESET with its outputs low; with VBAT this is BATTERY, without it KEEP is lost. -/
def State.mainLost (s : State) (vbat : Bool) : State :=
  if !s.sup.mainOk then s
  else
    let docks := (List.range 12).filter s.dockEn
    let s := s.on (s.isOn .meter) State.pqTruncate
    ((((s.outageBegin docks).chipReset 4 false).supplyGone vbat s).outsLow).recompute

/-- MAIN_SUPPLY_LOSS. -/
def execMainSupplyLoss (vbat : Bool) (s : State) : Res := .next (s.mainLost vbat)

/-- The record of an outage for a dock (R413). -/
def State.outageRecord (s : State) (ms d : Nat) : State :=
  let x := s.dock d
  let r := toBytes 6 s.fleetSec ++ [d, 4] ++ toBytes 4 ms ++ toBytes 4 x.seq ++ toBytes 8 0 ++ toBytes 8 0 ++ toBytes 8 0 ++ toBytes 8 0
    ++ toBytes 8 0 ++ toBytes 4 0 ++ toBytes 4 ((x.out - x.outAt) / 1000000)
  let s := s.setDock d { x with seq := (x.seq + 1) % 2 ^ 32, draw := false, above := 0 }
  let s := if x.draw then s.irq pMETER I.METER_OUTAGE_DRAW else s
  { s with met := { s.met with store := s.met.store ++ [r] } }

/-- The supplies are back: the straps are latched (R373, R384, R485). -/
def State.mainBack (s : State) (head role recovN : Bool) : State :=
  { s with sup := { s.sup with mainOk := true, battery := false, strapHead := head, strapRole := role, recovN := recovN } }

/-- The outage records of the docks that were metered when the supply went (R418). -/
def State.outageEnd (s : State) (docks : List Nat) (ms_ : Nat) : State :=
  let s := s.each docks fun s d => s.outageRecord (ms_ % 2 ^ 32) d
  { s with met := { s.met with outDocks := [] } }.inc C.METER_OUTAGES

/-- The main supply returns (R80, R413, R489): a chip reset with the straps as they stand. From BATTERY the RTC has gone on, and
METER makes its outage records, the time counted on the 32.768 kHz clock. -/
def execMainSupplyReturn (head role recovN : Bool) (s : State) : Res :=
  if s.sup.mainOk then .next s
  else
    let t := s.mainBack head role recovN
    let u := t.chipReset (if s.sup.battery then 4 else 0) t.powered
    if !s.sup.battery then .next u
    else
      let ticks := (s.now - s.sup.lostAt) * 32768 / 1000000000000
      .next (u.outageEnd s.met.outDocks (ticks * 1000 / 32768))

/-- VDD_GATE falls below 2.7 V (R485, R489): the Headgate is unpowered, its outputs fall to the pull-downs, the zone goes to a
fitted partner, and no slot engine sends a beacon. -/
def execVddGateLoss (s : State) : Res :=
  if !s.sup.vddGate then .next s
  else
    let s := (s.outsLow).handOver (evCode 0 I.HEADGATE_GATE_FAULT)
    let s : State := { s with regs := AMap.clearRange s.regs pHG.base (pHG.base + 0x1000),
                              ctrs := AMap.clearRange s.ctrs pHG.base (pHG.base + 0x1000),
                              sup := { s.sup with vddGate := false }, hg := {} }
    .next (s.each (List.range 4) fun s p => s.set F.PORT_STATUS_TX_SRC 0 p).recompute

/-- A block that a rail feeds enters FAULT; no error of its own, so not counted under R45. -/
def State.railFault (s : State) (p : Page) : State :=
  let s := s.leaveOn p
  if s.st p = stOn ∨ s.st p = stStarting ∨ s.st p = stStopping then s.goState p stFault else s

/-- A rail out of its monitored range for 2 µs (R485): VDD_CORE, VDD_SRAM and VDDIO reset the main domain, VDD_CORE as a loss of
the main supply; the others stop what they feed. -/
def execSupplyMonitorTrip (rail : Nat) (vbat : Bool) (s : State) : Res :=
  if 8 ≤ rail ∨ s.sup.railsOut.contains rail ∨ !s.sup.mainOk then .next s
  else if rail = 0 then .next (s.mainLost vbat)
  else
    let s : State := { s with sup := { s.sup with railsOut := rail :: s.sup.railsOut } }
    match rail with
    | 3 => .next (((s.railFault ⟨.gnssRf, 0⟩).railFault ⟨.gnssRf, 1⟩).railFault pMETER)
    | 4 => .next s.meterCellGone
    | 5 | 6 =>
      let l : List Page := [⟨.pcie, 0⟩, ⟨.eth, 0⟩, ⟨.eth, 1⟩, ⟨.canal, 0⟩, ⟨.canal, 1⟩]
      .next (s.each l State.railFault)
    | 7 => .next (s.railFault pDRAM)
    | _ => .next (s.chipReset 4 false)

/-- A rail has been back in range for 1 ms (R485, R488): blocks it held may restart; the main domain leaves reset when all of its
rails are in range. -/
def execRailBackInRange (rail : Nat) (s : State) : Res :=
  if !s.sup.railsOut.contains rail then .next s
  else
    let s : State := { s with sup := { s.sup with railsOut := s.sup.railsOut.filter (· ≠ rail) } }
    .next (if rail ≤ 2 ∧ s.powered then s.chipReset 4 else s.recompute)

/-- TEMP shows Tj in units of 0.125 °C; WARN from 115 °C, with its interrupt as it is set (R486). -/
def State.showTemp (s : State) (tj : Int) : State :=
  let warn := decide (920 ≤ tj)
  let rises := warn && decide (s.get F.TEMP_WARN = 0)
  ((s.set F.TEMP_TJ (satInt tj 16)).set F.TEMP_WARN (b2n warn)).on rises fun s => s.irq ⟨.info, 0⟩ I.INFO_TEMP_WARN

/-- TEMP_WARN: the hottest sensor reads so. -/
def execTempWarn (tj : Int) (s : State) : Res := if s.powered then .next (s.showTemp tj) else .next s

/-- Tj at 125 °C or above for 1 ms (R486): as an UNCONTAINED error of the CHIP region; ROM then holds the supervisor. -/
def execThermalTrip (tj : Int) (s : State) : Res :=
  if tj < 1000 ∨ !s.powered then .next s
  else
    let s := s.showTemp tj
    let s : State := { s with sup := { s.sup with tripHold := true } }
    .next (s.chipStop 3 (evCode 3 0))

end Sys2Proof.Machine
end

