-- ==== Sys2Proof/Machine/Boot.lean ====
section
/-! DEFINITION. ROM, images, the watchdog, updates and recovery (R449, R452 to R463, R486). -/
namespace Sys2Proof.Machine
open Sys2Proof

/-! ### The boot directory (R454) -/

/-- The copy in force: the one with a valid CRC and the later DSEQ. -/
def BootSt.dirAt (b : BootSt) : Nat :=
  let d0 := nth {} b.dirs 0
  let d1 := nth {} b.dirs 1
  if d0.ok && d1.ok then (if later d1.dseq d0.dseq 32 then 1 else 0) else if d1.ok then 1 else 0

/-- The directory in force; with no valid copy both banks are EMPTY. -/
def BootSt.dir (b : BootSt) : DirCopy :=
  let d := nth {} b.dirs b.dirAt
  if d.ok then d else {}

/-- STATE of a bank. -/
def DirCopy.state (d : DirCopy) (bank : Nat) : Nat := if bank = 0 then d.stA else d.stB
/-- The directory with the STATE of a bank replaced. -/
def DirCopy.setState (d : DirCopy) (bank st : Nat) : DirCopy := if bank = 0 then { d with stA := st } else { d with stB := st }

/-- A directory write goes to the other copy, with DSEQ + 1. -/
def State.dirWrite (s : State) (d : DirCopy) : State :=
  let b := s.boot
  let d := { d with ok := true, dseq := (b.dir.dseq + 1) % 2 ^ 32 }
  { s with boot := { b with dirs := setNth b.dirs (1 - b.dirAt) d } }.set F.DIR_SEQ d.dseq

/-! ### Images (R453, R454) -/

/-- A number in the header. -/
def Img.field (i : Img) (at_ n : Nat) : Nat := ofBytes ((i.hdr.drop at_).take n)
/-- TYPE. -/
def Img.typ (i : Img) : Nat := i.field 5 1
/-- SIGNER. -/
def Img.signer (i : Img) : Nat := i.field 6 1
/-- ARB. -/
def Img.arb (i : Img) : Nat := i.field 7 1
/-- VERSION. -/
def Img.version (i : Img) : Nat := i.field 8 4
/-- LENGTH. -/
def Img.length (i : Img) : Nat := i.field 12 4
/-- FORMAT. -/
def Img.format (i : Img) : Nat := i.field 20 2
/-- FORMAT_PREV. -/
def Img.formatPrev (i : Img) : Nat := i.field 64 2
/-- MIN_STEP. -/
def Img.minStep (i : Img) : Nat := i.field 22 1
/-- SERIAL. -/
def Img.serial (i : Img) : Nat := i.field 24 8
/-- HASH. -/
def Img.hash (i : Img) : Nat := i.field 32 32

/-- The largest payload of a TYPE. -/
def imgLimit (t : Nat) : Nat := nth (2 ^ 32) [2 ^ 21, 3712 * 1024, 256 * 1024, 512 * 1024, 2 ^ 20] t

/-- MAGIC, HVER, LENGTH and the bytes that are to be zero (R453). -/
def Img.headerOk (i : Img) : Bool :=
  decide (i.hdr.length = 256 ∧ i.field 0 4 = 0x31494E46 ∧ i.field 4 1 = 1 ∧ i.length % 4 = 0 ∧ i.length ≤ imgLimit i.typ ∧ i.field 23 1 = 0 ∧
    i.field 66 126 = 0 ∧ (i.typ = 0 ∨ (i.field 16 6 = 0 ∧ i.formatPrev = 0)))

/-- The image of a TYPE in a set. -/
def imgOf (set : List Img) (t : Nat) : Option Img := set.find? fun i => i.typ = t

/-- A signer whose images load (R454): a vendor root key not revoked, or the owner in PROVISIONED and DEPLOYED. -/
def State.imgSigner (s : State) (signer : Nat) : Bool :=
  s.vendorOk signer || (decide (signer = 2 ∧ (s.get F.LC_STATUS_STATE = 1 ∨ s.get F.LC_STATUS_STATE = 2)) && s.ksHeld 2)

/-- The first check of R454 that an image fails, where a TYPE is expected; 0 when it passes. -/
def State.imgCheck (s : State) (t : Nat) (i : Img) : Nat :=
  if !i.headerOk then 1
  else if i.typ ≠ t then 2
  else if Config.stepping.toNat < i.minStep then 3
  else if i.serial ≠ 0 ∧ i.serial ≠ Config.serial.toNat then 4
  else if !s.imgSigner i.signer then 5
  else if i.arb < s.get F.SETTING_VALUE 0 (4 + t) then 6
  else if i.hash ≠ i.seen.digest then 7
  else if !i.seen.sigOk then 8
  else 0

/-- The check of what stands at the place of an image; nothing there has no valid header. -/
def State.placeCheck (s : State) (set : List Img) (t : Nat) : Nat := match imgOf set t with
  | some i => s.imgCheck t i
  | none => 1

/-! ### The ROM sequence (R455) -/

/-- The identity (R419, R422): DeviceID public key in slot 0, alias key in slot 1 until the next reset, ENDORSE kept. -/
def State.identity (s : State) (msup : Nat) : State :=
  let pol := s.key.policy
  let (m0, s) := s.free256
  let (m1, s) := s.free256
  let (sig, s) := s.freeSig
  let s := s.ksPut 0 (4 + 2 * 2 ^ 8 + 0xFFFFFFFF * 2 ^ 32) Config.deviceIdPub.toNat 0 m0 0
  let s := s.ksPut 1 (3 + 16 * 2 ^ 8 + 1 * 2 ^ 16 + 0xFFFFFFFF * 2 ^ 32) (Config.aliasPub msup pol).toNat (Config.aliasKey msup pol).toNat m1 0
  { s with key := { s.key with endorse := sig, meas := [msup, 0, 0, 0, 0] } }

/-- ROM hands over: the supervisor is released at ENTRY and the watchdog starts (R455). -/
def State.romRelease (s : State) : State :=
  ({ s with boot := { s.boot with relDue := false, wdAt := some s.now } }.set F.SUP_STATUS_RUNNING 1).recompute

/-- A verified supervisor is loaded (R455, R463, R486): identity, what BOOT shows of it, its release, held while the chip is hot
after a thermal trip. `src` is 0 bank A, 1 bank B, 2 the recovery bank, 3 a download. -/
def State.bootSup (s : State) (src : Nat) (i : Img) : State :=
  let trial := decide (src ≤ 1 ∧ s.boot.dir.state src = 1)
  let s := s.identity i.hash
  let s := (s.set F.VERSION i.version 0 0).set F.BOOT_STATUS_BANK (b2n (decide (src = 1)))
  let s := (s.set F.BOOT_STATUS_TRIAL (b2n trial)).set F.BOOT_STATUS_TRIES (if trial then s.boot.dir.tries else 0)
  let s := (s.set F.BOOT_STATUS_RECOVERY (b2n (decide (2 ≤ src)))).set F.BOOT_STATUS_IMG_OK 1
  let s : State := { s with boot := { s.boot with src := src, waiting := false, romDone := true },
                            pair := { s.pair with format := i.format, formatPrev := i.formatPrev } }
  let s := s.inc C.BOOT_BOOTS
  if s.sup.tripHold then { s with boot := { s.boot with relDue := true } } else s.romRelease

/-- Recovery (R461): the supervisor of the recovery bank unless RECOV_N is low; else ROM waits on every channel. -/
def State.recover (s : State) : State :=
  let s := s.inc C.BOOT_RECOVERIES
  match (if s.sup.recovN && decide (s.placeCheck (nth [] s.boot.banks 2) 0 = 0) then imgOf (nth [] s.boot.banks 2) 0 else none) with
  | some i => s.bootSup 2 i
  | none => { s with boot := { s.boot with romDone := true, waiting := true, linkAt := [s.now, s.now] } }

/-- Step 6 of R455 for a bank that is not EMPTY: a TRIAL bank without tries is given up, one with tries loses one. The Boolean says that
the bank may be tried. -/
def State.romTry (s : State) (bank : Nat) : Bool × State :=
  let d := s.boot.dir
  if d.state bank = 0 then (false, s)
  else if d.state bank ≠ 1 then (true, s)
  else if d.tries = 0 then (false, s.dirWrite { d.setState bank 0 with pref := 1 - bank })
  else (true, s.dirWrite { d with tries := d.tries - 1 })

/-- Step 7 refuses a bank's supervisor. -/
def State.romRefuse (s : State) (b r : Nat) : State :=
  let s := s.set F.BOOT_STATUS_SUP_RESULT r
  match s.boot.refusedBank with
  | some _ => s
  | none => { s with boot := { s.boot with refusedBank := some b } }.inc C.BOOT_FALLBACKS

/-- Steps 5 to 9 for the banks in an order; where none remains, recovery (R455). -/
def State.romBanks (s : State) : List Nat → State
  | [] => s.recover
  | b :: rest =>
    let (may, s) := s.romTry b
    if !may then s.romBanks rest
    else
      let set := nth [] s.boot.banks b
      match imgOf set 0 with
      | some i =>
        let r := s.imgCheck 0 i
        if r = 0 then s.bootSup b i else (s.romRefuse b r).romBanks rest
      | none => (s.romRefuse b 1).romBanks rest

/-- Step 3 (R449): with KEEP invalid the slots come back from their copy, or, where its MIC fails, slots 2 to 63 start empty. -/
def State.romKeys (s : State) (copyOk : Bool) : State :=
  if s.sup.keepValid then s
  else
    let s : State := { s with sup := { s.sup with keepValid := true } }
    let held := ((List.range 64).drop 2).filter s.ksHeld
    if copyOk ∨ held = [] then s
    else (s.each held State.zeroise).sysEvent 9 pKS held.length 0 0

/-- Slots without their valid bit that ROM finds (R438). -/
def State.romTorn (s : State) : State :=
  let l := s.key.torn
  { s with key := { s.key with torn := [] } }.each l fun s x => s.sysEvent 8 ⟨.fuse, 0⟩ x.1 x.2 0

/-- The ROM sequence (R455); whether the flash copy of the key slots passes its MIC comes from outside. Nonce and challenge are
drawn (R428, R444). -/
def execRomBoot (copyOk : Bool) (s : State) : Res :=
  if !s.powered ∨ s.boot.romDone then .next s
  else
    let s := if 3 ≤ s.get F.LC_STATUS_STATE then s.zeroiseAll else s
    let s := ((s.romKeys copyOk).romTorn.drawNonce).drawChallenge
    let d := s.boot.dir
    let s := s.set F.DIR_SEQ d.dseq
    if !s.sup.recovN then .next s.recover
    else .next (s.romBanks (if d.state d.pref ≠ 0 then [d.pref, 1 - d.pref] else [1 - d.pref]))

/-- BOOT_CTRL.BOOT_OK by the supervisor (R456): the watchdog stops; in a COLD unit the supervisor is then held (R387). -/
def execBootOk (src : Src) (s : State) : Res :=
  if src ≠ .sup ∨ !s.boot.romDone ∨ s.boot.waiting ∨ s.boot.relDue then .next s
  else
    let s := { s with boot := { s.boot with wdAt := none } }.set F.BOOT_STATUS_BOOT_OK 1
    .next (if s.get F.PAIR_STATUS_STATE = 1 then (s.set F.SUP_STATUS_RUNNING 0).recompute else s)

/-- No BOOT_OK within 10 s: the watchdog resets the chip. -/
def execKeepWatchdog (s : State) : Res := match s.boot.wdAt with
  | some t => if t + sec 10 ≤ s.now then .next (s.chipReset 2) else .next s
  | none => .next s

/-- Tj falls (R486): below 105 °C ROM releases the supervisor that it held. -/
def execTjBelow105 (tj : Int) (s : State) : Res :=
  if 840 ≤ tj ∨ !s.sup.tripHold ∨ !s.powered then .next s
  else
    let s := ({ s with sup := { s.sup with tripHold := false } }).showTemp tj
    .next (if s.boot.relDue then s.romRelease else s)

/-! ### Loading the other images (R457) -/

/-- A copy of an image is kept in DRAM. -/
def State.retain (s : State) (t : Nat) : State :=
  if s.isOn .dram && !s.boot.retained.contains t then { s with boot := { s.boot with retained := t :: s.boot.retained } } else s

/-- An image is loaded. -/
def State.imgLoaded (s : State) (t : Nat) (i : Img) : State :=
  let s := (s.set F.BOOT_STATUS_IMG_OK (Nat.lor (s.get F.BOOT_STATUS_IMG_OK) (2 ^ t))).set F.VERSION i.version 0 t
  let s : State := { s with boot := { s.boot with refused := s.boot.refused.filter (· ≠ t) },
                            key := { s.key with meas := setNth s.key.meas t i.hash } }
  s.retain t

/-- An image is refused: its blocks stay OFF. -/
def State.imgBarred (s : State) (t : Nat) : State :=
  let ok := Nat.land (s.get F.BOOT_STATUS_IMG_OK) (31 - 2 ^ t)
  let s := s.set F.BOOT_STATUS_IMG_OK ok
  let s : State := { s with boot := { s.boot with refused := t :: s.boot.refused.filter (· ≠ t) } }
  let s := s.each (allPages.filter fun p => imageOf p.blk = some t) fun s p => (s.setP p F.CTRL_EN 0).blockOff p
  s.recompute

/-- Readiness follows what was verified at this boot (R390). -/
def State.imagesShow (s : State) : State :=
  { s with pair := { s.pair with imagesOk := decide (s.boot.refused = []) } }.readyShow

/-- The supervisor loads the image of a TYPE from its own bank (R457), and keeps copies of all five. -/
def execImageLoad (t : Nat) (s : State) : Res :=
  if s.get F.SUP_STATUS_RUNNING = 0 ∨ 5 ≤ t ∨ 3 ≤ s.boot.src then .next s
  else if t = 0 then .next (s.retain 0)
  else match imgOf (nth [] s.boot.banks s.boot.src) t with
    | some i => if s.imgCheck t i = 0 then .next (s.imgLoaded t i).imagesShow else .next (s.imgBarred t).imagesShow
    | none => .next (s.imgBarred t).imagesShow

/-! ### Updates (R459, R460) -/

/-- UPD_STATUS.RESULT. -/
def State.updResult (s : State) (r t : Nat) : State := (s.set F.UPD_STATUS_RESULT r).set F.UPD_STATUS_FAIL_TYPE t

/-- An update operation begins. -/
def State.updStart (s : State) (j : UpdJob) : State :=
  ({ s with boot := { s.boot with job := some j } }.set F.UPD_STATUS_BUSY 1).updResult 0 0

/-- The images that staging holds from an offset up to STAGE_LEN (R453, R459), in at most `fuel` steps: one behind another, each at the next 4 KiB boundary
(DEDUCED, log entry 112); with a header that is not valid the parse ends, that image the last. -/
def State.stagedFrom (s : State) : Nat → Nat → List ImgSeen → List Img
  | 0, _, _ => []
  | k + 1, off, seen =>
    if s.get F.STAGE_LEN ≤ off then []
    else
      let i : Img := ⟨s.dramBytes (s.partBase 2 + off) 256, seen.headD {}⟩
      if i.headerOk then i :: s.stagedFrom k ((off + 256 + i.length + 4095) / 4096 * 4096) seen.tail else [i]

/-- UPD_CTRL.OP := VERIFY over the set that staging holds; refused while an operation runs. What payloads and signatures show comes from outside. -/
def execUpdVerify (seen : List ImgSeen) (s : State) : Res :=
  if ¬ s.isOn .boot then .next s
  else if s.get F.UPD_STATUS_BUSY = 1 then .next (s.set F.UPD_STATUS_RESULT 14)
  else
    let set := s.stagedFrom (s.get F.STAGE_LEN / 4096 + 1) 0 seen
    .next ({ s with boot := { s.boot with staged := set, verified := false } }.updStart ⟨1, 0, false⟩)

/-- The bank that PROGRAM writes (R459, R463). -/
def State.updTarget (s : State) : Nat :=
  let d := s.boot.dir
  if s.get F.UPD_CTRL_TO_RECOVERY = 1 then 2
  else if s.get F.BOOT_STATUS_RECOVERY = 1 then (if d.stA = 0 ∧ d.stB = 0 then 0 else s.boot.refusedBank.getD 0)
  else 1 - s.get F.BOOT_STATUS_BANK

/-- UPD_CTRL.OP := PROGRAM: refused while an operation runs, while the running bank is TRIAL, and without a verified set; else the target
is erased, and written until UPD_DONE. -/
def execUpdProgram (s : State) : Res :=
  if ¬ s.isOn .boot then .next s
  else if s.get F.UPD_STATUS_BUSY = 1 then .next (s.set F.UPD_STATUS_RESULT 14)
  else if s.get F.BOOT_STATUS_TRIAL = 1 then .next (s.updResult 11 0)
  else if !s.boot.verified then .next (s.updResult 10 0)
  else
    let t := s.updTarget
    let s := (s.set F.UPD_STATUS_SECTORS 0).set F.UPD_CTRL_TO_RECOVERY 0
    .next ({ s with boot := { s.boot with banks := setNth s.boot.banks t [] } }.updStart ⟨2, t, false⟩)

/-- UPD_CTRL.OP := CANCEL stops a PROGRAM at its next sector. -/
def execUpdCancel (s : State) : Res := match s.boot.job with
  | some j => if j.op = 2 then .next { s with boot := { s.boot with job := some { j with cancel := true } } } else .next s
  | none => .next s

/-- What VERIFY finds of a staged image: R454, then no lower VERSION than the running one of its TYPE. -/
def State.stagedCheck (s : State) (i : Img) : Nat :=
  let r := if i.headerOk ∧ 5 ≤ i.typ then 2 else s.imgCheck i.typ i
  if r ≠ 0 then r else if i.version < s.get F.VERSION 0 i.typ then 9 else 0

/-- The result of VERIFY and the TYPE concerned. -/
def State.verifyResult (s : State) (set : List Img) : Nat × Nat :=
  match set.find? fun i => s.stagedCheck i ≠ 0 with
  | some i => (s.stagedCheck i, i.typ % 8)
  | none =>
    match (List.range 5).find? fun t => decide ((set.filter fun i => i.typ = t).length ≠ 1) with
    | some t => (10, t)
    | none => (0, 0)

/-- An operation ends: UPD_STATUS and UPD_DONE. -/
def State.updEnd (s : State) (r t : Nat) : State :=
  let s : State := { s with boot := { s.boot with job := none } }
  ((s.set F.UPD_STATUS_BUSY 0).updResult r t).irq pBOOT I.BOOT_UPD_DONE

/-- STATE := EMPTY for a bank of the directory. -/
def State.emptyBank (s : State) (t : Nat) : State := if t ≤ 1 then s.dirWrite (s.boot.dir.setState t 0) else s

/-- The operation in progress completes: VERIFY with its result; PROGRAM cancelled, ended by a payload that changed (its TYPE) or by a
flash failure, or done: the bank holds the set and the directory, written last, names it TRIAL. The RESULT of a cancelled PROGRAM
is a free value. -/
def execUpdDone (changed : Option Nat) (flashOk : Bool) (sectors : Nat) (s : State) : Res :=
  match s.boot.job with
  | none => .next s
  | some j =>
    if j.op = 1 then
      let r := s.verifyResult s.boot.staged
      .next ({ s with boot := { s.boot with verified := decide (r.1 = 0) } }.updEnd r.1 r.2)
    else
      let s := s.set F.UPD_STATUS_SECTORS (sectors % 65536)
      if j.cancel then
        let (x, s) := s.free
        .next ((s.emptyBank j.target).updEnd (x % 16) 0)
      else if !flashOk then .next ((s.emptyBank j.target).updEnd 13 0)
      else match changed with
        | some t => .next (s.updEnd 12 (t % 8))
        | none =>
          let s := { s with boot := { s.boot with banks := setNth s.boot.banks j.target s.boot.staged } }.inc C.BOOT_PROGRAMS
          let d := s.boot.dir
          let s := if j.target ≤ 1 then s.dirWrite { d.setState j.target 1 with tries := 3, pref := j.target } else s
          .next (s.updEnd 0 0)

/-- COMMIT is accepted: the running bank is TRIAL, BOOT_OK has been written, in RUN, no fuse change in progress. -/
def State.commitOk (s : State) : Bool :=
  decide (s.get F.BOOT_STATUS_TRIAL = 1 ∧ s.get F.BOOT_STATUS_BOOT_OK = 1 ∧ s.get F.FUSE_STATUS_BUSY = 0) && s.inRun

/-- The raises that COMMIT needs: each ARB fuse below the running bank's header ARB. -/
def State.arbRaises (s : State) (signer : Nat) : List FuseJob :=
  let set := nth [] s.boot.banks s.boot.src
  (List.range 5).filterMap fun t => match imgOf set t with
    | some i =>
      let v := s.get F.SETTING_VALUE 0 (4 + t)
      if v < i.arb then some ⟨4 + t, v, i.arb, v, signer⟩ else none
    | none => none

/-- UPD_CTRL.COMMIT by a token of a signer (R459): the bank is COMMITTED, then each ARB fuse is raised in turn; none where the
founding area lacks a setting slot for every raise (R472). -/
def State.commit (s : State) (signer : Nat) : State :=
  if !s.commitOk then s
  else
    let d := s.boot.dir
    let s := s.dirWrite { d.setState s.boot.src 2 with tries := 0 }
    let s := (s.set F.BOOT_STATUS_TRIAL 0).set F.BOOT_STATUS_TRIES 0
    let l := s.arbRaises signer
    if 256 < s.ev.nextSetSlot s.ev.area + l.length then s.set F.FUSE_STATUS_RESULT 2
    else match l with
      | [] => s
      | j :: rest => { s with key := { s.key with jobs := rest } }.fuseStart j

/-- COMMIT. -/
def execUpdCommit (signer : Nat) (s : State) : Res := .next (s.commit signer)

/-! ### Recovery and the chunk protocol (R461 to R463) -/

/-- The answer to a chunk: STATUS, ARG, NEXT. -/
abbrev ChunkReply := Nat × Nat × Nat

/-- The claim on a channel ends. -/
def State.rcvEnd (s : State) : State := { s with boot := { s.boot with claim := none, rcvNext := 0, rcvHdr := [] } }

/-- LAST has come: in recovery ROM checks the supervisor and boots it (R461, R462); in normal operation the set stands in staging. -/
def State.rcvLast (s : State) (x : ImgSeen) (next : Nat) : State × ChunkReply :=
  let i : Img := ⟨s.boot.rcvHdr, x⟩
  let s := s.rcvEnd
  if !s.boot.waiting then (s, (0, 0, next))
  else
    let r := s.imgCheck 0 i
    if r ≠ 0 then (s, (4, r, next)) else (s.bootSup 3 i, (0, 0, next))

/-- The bytes of a chunk are stored: in recovery into supervisor memory, in normal operation into staging. -/
def State.rcvStore (s : State) (offset : Nat) (data : List Nat) : State :=
  if s.boot.waiting then s else s.dramWrite (s.partBase 2 + offset) data

/-- Room in staging for a chunk of normal operation. -/
def State.rcvRoom (s : State) (offset len : Nat) : Bool :=
  s.boot.waiting || (s.isOn .dram && decide (s.get F.UPD_STATUS_BUSY = 0 ∧ offset + len + 2 ^ 24 ≤ s.partSize 2))

/-- A chunk on the claimed channel, or the one that claims it. -/
def State.chunkOn (s : State) (ch offset flags : Nat) (data : List Nat) (i : ImgSeen) : State × ChunkReply :=
  let next := s.boot.rcvNext
  let s : State := { s with boot := { s.boot with claim := some (ch, s.now) } }
  if bit flags 1 then (s.rcvEnd, (0, 0, 0))
  else if offset ≠ next then (s, (1, 0, next))
  else if !s.rcvRoom offset data.length then (s, (3, 0, next))
  else
    let s := s.rcvStore offset data
    let s : State := { s with boot := { s.boot with rcvNext := next + data.length, rcvHdr := (s.boot.rcvHdr ++ data).take 256 } }
    if bit flags 0 then s.rcvLast i (next + data.length) else (s, (0, 0, next + data.length))

/-- A chunk record on a channel (0 PCIe, 1 Ethernet, 2 UART), byte by byte, with what payload and signature of the image that the transfer makes
show. -/
def State.chunk (s : State) (ch : Nat) (rec : List Nat) (i : ImgSeen) : State × ChunkReply :=
  let offset := ofBytes (rec.take 4)
  let len := ofBytes ((rec.drop 4).take 2)
  let flags := nth 0 rec 6
  let data := (rec.drop 8).take len
  let next := s.boot.rcvNext
  let good := decide (4 ≤ len ∧ len ≤ 1024 ∧ len % 4 = 0 ∧ rec.length = 12 + len ∧ flags < 4 ∧ nth 0 rec 7 = 0
    ∧ ofBytes ((rec.drop (8 + len)).take 4) = crc32c (rec.take (8 + len)))
  if !good then (s, (2, 0, next))
  else match s.boot.claim with
    | some (c, _) => if c ≠ ch then (s, (3, 0, next)) else s.chunkOn ch offset flags data i
    | none => if offset ≠ 0 then (s, (1, 0, 0)) else s.chunkOn ch offset flags data i
/-- A supervisor listens: ROM in recovery, or the supervisor in normal operation. -/
def State.rcvListens (s : State) : Bool := s.boot.waiting || decide (s.get F.SUP_STATUS_RUNNING = 1)

/-- A chunk record arrives by Ethernet or UART; its reply goes back on the channel. -/
def State.chunkRx (s : State) (ch : Nat) (rec : List Nat) (i : ImgSeen) : State :=
  if !s.rcvListens then s
  else
    let (s, r) := s.chunk ch rec i
    s.emit (.rcvReply ch r.1 r.2.1 r.2.2)

/-- RECOVERY_CHUNK. -/
def execRecoveryChunk (ch : Nat) (rec : List Nat) (i : ImgSeen) (s : State) : Res :=
  if ch = 1 ∨ ch = 2 then .next (s.chunkRx ch rec i) else .next s

/-- RCV_CTRL.GO takes the record in RCV_WIN and writes RCV_REPLY0 and RCV_REPLY1. -/
def execRcvGo (i : ImgSeen) (s : State) : Res :=
  if !s.rcvListens then .next s
  else
    let bytes := (s.words pBOOT 0x400 272).flatMap (toBytes 4)
    let len := ofBytes ((bytes.drop 4).take 2)
    let (s, r) := s.chunk 0 (bytes.take (12 + len)) i
    .next (((s.set F.RCV_REPLY0 (r.1 + r.2.1 * 256)).set F.RCV_REPLY1 r.2.2).irq pBOOT I.BOOT_RCV_REPLY)

/-- A claimed channel silent for 60 s is free again. -/
def execRecoverySilence (s : State) : Res := match s.boot.claim with
  | some (_, t) => if t + sec 60 ≤ s.now then .next s.rcvEnd else .next s
  | none => .next s

/-- In recovery a port without a link changes its line rate every 2 s (R461). -/
def execRecoveryLinkTry (port : Nat) (s : State) : Res :=
  if 2 ≤ port ∨ !s.boot.waiting ∨ s.get F.ETH_STATUS_LINK port = 1 ∨ s.now < nth 0 s.boot.linkAt port + sec 2 then .next s
  else
    let s : State := { s with boot := { s.boot with linkAt := setNth s.boot.linkAt port s.now } }
    .next (s.set F.ETH_CFG_MODE (if s.get F.ETH_CFG_MODE port = 0 then 1 else 0) port)

end Sys2Proof.Machine
end

