-- ==== Sys2Proof/Machine/Lease.lean ====
section
/-! DEFINITION. The lease engine's commands (R233 to R252). -/
namespace Sys2Proof.Machine
open Sys2Proof

/-- A source, as build slots are owned: BAR0, BAR2 and host tags are the host (R233). -/
def Src.slot : Src → Src
  | .bar2 _ => .host
  | x => x

/-! ### Build slots (R233, R234) -/

/-- FURROW_OPEN: the lowest free handle of 64 takes the header. -/
def openFn (via : Via) : TFn := fun s _ data =>
  let b := fun (i n : Nat) => bits data (8 * i) (8 * n)
  if 64 ≤ s.ls.builds.length then (s, some { err := 0x03 })
  else if b 14 1 = 0 ∨ 64 < b 14 1 ∨ 1000000000 ≤ b 10 4 ∨ 16 ≤ b 16 1 ∨ 2 ≤ b 17 1 then (s, some { err := 0x1D })
  else match lowestFree (s.ls.builds.map (·.handle)) 64 0 with
    | none => (s, some { err := 0x03 })
    | some h =>
      let x : Build := { handle := h, src := via.src.slot, owner := b 0 4, base := b 4 6 * 1000000000 + b 10 4, nstep := b 14 1,
                         epoch := b 15 1, wclass := b 16 1, rflags := b 17 1, steps := [], at_ := s.now }
      (({ s with ls := { s.ls with builds := s.ls.builds ++ [x] } }).leaseShow, some { data := some h })

/-- The FURROW_OPEN opcode. -/
def execFurrowOpen (via : Via) (s : State) : Res := .next (s.tblOp via pLEASE 8 0 0 (openFn via))

/-- The open slot of a handle that this source owns. -/
def State.build (s : State) (via : Via) (h : Nat) : Option Build :=
  s.ls.builds.find? fun b => decide (b.handle = h % 64 ∧ b.src = via.src.slot)

/-- A slot without OPEN or STEPS for BUILD_TIMEOUT is gone. -/
def State.buildLate (s : State) (b : Build) : Bool := decide (b.at_ + us (s.get F.BUILD_TIMEOUT) ≤ s.now)

/-- A step goes in at its position. -/
def putStep (x : Nat × Nat × Nat × Nat × Nat) : List (Nat × Nat × Nat × Nat × Nat) → List (Nat × Nat × Nat × Nat × Nat)
  | [] => [x]
  | y :: r => if x.1 < y.1 then x :: y :: r else if x.1 = y.1 then x :: r else y :: putStep x r

/-- FURROW_STEPS: 1 to 4 steps from a position. -/
def stepsFn (via : Via) : TFn := fun s key data =>
  match s.build via (nth 0 key 0) with
  | none => (s, some { err := 0x1D })
  | some b =>
    let pos := nth 0 key 1 % 64
    let n := bits (nth 0 key 1) 8 2 + 1
    let l := (List.range n).map fun i =>
      let e := bits data (128 * i) 128
      (pos + i, bits e 0 16, bits e 16 8, bits e 32 32, bits e 64 32)
    if b.nstep < pos + n ∨ (l.any fun x => decide (2 ≤ x.2.2.1 ∨ x.2.2.2.2 = 0)) then (s, some { err := 0x1D })
    else
      let b' := { b with steps := l.foldl (fun acc x => putStep x acc) b.steps, at_ := s.now }
      ({ s with ls := { s.ls with builds := s.ls.builds.map fun y => if y.handle = b.handle then b' else y } }, some {})

/-- The FURROW_STEPS opcode. -/
def execFurrowSteps (via : Via) (s : State) : Res := .next (s.tblOp via pLEASE 9 0 0 (stepsFn via))

/-- A slot is freed. -/
def State.dropBuild (s : State) (h : Nat) : State :=
  ({ s with ls := { s.ls with builds := s.ls.builds.filter fun b => b.handle ≠ h } }).leaseShow

/-- FURROW_SUBMIT: the slot is freed at the completion (R234). -/
def submitFn (via : Via) : TFn := fun s key _ =>
  match s.build via (nth 0 key 0) with
  | none => (s, some { err := 0x1D })
  | some b =>
    if s.held.any fun h => decide (h.page = pLEASE ∧ h.opcode = 10 ∧ nth 0 h.key 0 % 64 = b.handle) then (s, some { err := 0x1D })
    else match s.submit b via with
      | (s, some r) => (s.dropBuild b.handle, some r)
      | (s, none) => (s, none)

/-- A cross-zone SUBMIT that its own zone refused at once has no operation left to complete: it completes here. -/
def submitDone (via : Via) : TFn := fun s key data =>
  match submitFn via s key data with
  | (t, some r) => (t, some r)
  | (t, none) =>
    if t.ls.xfers.any fun x => x.via = some via then (t, none)
    else (t.dropBuild (nth 0 key 0 % 64), some { err := t.ls.lastErr, data := some t.ls.lastData })

/-- The FURROW_SUBMIT opcode. -/
def execFurrowSubmit (via : Via) (s : State) : Res := .next (s.tblOp via pLEASE 10 0 0 (submitDone via))

/-- FURROW_RELEASE (R251). -/
def releaseFn : TFn := fun s key _ =>
  match s.leById (nth 0 key 0) with
  | none => (s, some { err := 0x01 })
  | some h =>
    let e := s.le h
    if LE.kind.get e ≠ 1 then (s, some { err := 0x01 })
    else if LE.state.get e = hsPREPARING ∨ LE.state.get e = hsCOMMITTING ∨ LE.part.get e = 1 then (s.takeSeq, some { err := 0x0C })
    else
      let (t, n) := (s.takeSeq).releaseFrom h (nth 0 key 1 % 64)
      (if n = 0 then s else t, some { index := some h, data := some n })

/-- The FURROW_RELEASE opcode. -/
def execFurrowRelease (via : Via) (s : State) : Res := .next (s.tblOp via pLEASE 11 0 0 releaseFn)

/-- CLEAR_OVERSTAY: from the host only, on an OVERSTAY entry only (R247). -/
def clearFn (via : Via) : TFn := fun s key _ =>
  match s.leById (nth 0 key 0) with
  | none => (s, some { err := 0x01 })
  | some i =>
    if via.src.slot ≠ .host ∨ LE.kind.get (s.le i) ≠ 3 then (s.takeSeq, some { err := 0x0C })
    else (s.freeDecided i 6, some { index := some i })

/-- The CLEAR_OVERSTAY opcode. -/
def execClearOverstay (via : Via) (s : State) : Res := .next (s.tblOp via pLEASE 12 0 0 (clearFn via))

/-- ABANDON (R233). -/
def abandonFn (via : Via) : TFn := fun s key _ =>
  match s.build via (nth 0 key 0) with
  | none => (s, some { err := 0x1D })
  | some b => (s.dropBuild b.handle, some {})

/-- The ABANDON opcode. -/
def execAbandon (via : Via) (s : State) : Res := .next (s.tblOp via pLEASE 13 0 0 (abandonFn via))

/-- A build slot times out (R234). -/
def execBuildTimeout (handle : Nat) (s : State) : Res :=
  match s.ls.builds.find? fun b => b.handle = handle with
  | none => .next s
  | some b =>
    if ¬ s.buildLate b ∨ (s.held.any fun h => decide (h.page = pLEASE ∧ h.opcode = 10 ∧ nth 0 h.key 0 % 64 = handle)) then .next s
    else .next ((s.dropBuild handle).inc C.LEASE_BUILD_TIMEOUT)

/-! ### Messages of other zones (R240 to R244) -/

/-- The part of an XID held here. -/
def State.part (s : State) (xid : Nat) : Option Part := s.ls.parts.find? fun p => p.xid = xid

/-- The head of a part while its furrow stands in a state. -/
def State.partIn (s : State) (xid state : Nat) : Option Nat :=
  match s.part xid with
  | some p => match p.head with
    | some h => if LE.kind.get (s.le h) = 1 ∧ LE.state.get (s.le h) = state ∧ LE.xid.get (s.le h) = xid then some h else none
    | none => none
  | none => none

/-- An acknowledgement (R243). -/
def State.ackLease (s : State) (m : LeaseMsg) (n : Nat) : State := s.sendLease m.from_ 4 n m.xid m.owner 0

/-- This zone's own answer to a PREPARE (R243): none for yes. -/
def State.prepareDeny (s : State) (m : LeaseMsg) (deadline : Nat) (l : List ReqStep) : Option Deny :=
  let chk := fun (c : Bool) (code : Nat) => if c then none else some ({ code := code } : Deny)
  (chk (decide (2 ≤ s.level)) 0x11).or <| (chk (decide (s.get F.TIME_STATUS_STEPPED = 1)) 0x10).or <|
  (chk (decide (m.epoch = s.get F.TIME_STATUS_EPOCH)) 0x1E).or <| (chk (decide (s.get F.LEASE_CFG_CROSS_EN = 1)) 0x1B).or <|
  (chk (decide (s.fleetNs ≤ deadline)) 0x1C).or <|
  (firstDeny 0x13 l fun r => decide (SG.foreign.get (s.seg r.seg) = 1)).or <| (s.checkPath l).or <| (s.checkWindows l).or <|
  (s.checkLocal 0 l).or <| (chk (decide (s.get F.LEASE_STATUS_LOST = 0)) 0x18).or <| s.checkReserve m.owner l 0

/-- A PREPARE is checked against this zone's records and voted on; a repeated one receives the same vote (R243). -/
def execPrepareRx (m : LeaseMsg) (s : State) : Res :=
  if ¬ s.isOn .lease then .next s
  else
    let s := s.inc C.LEASE_PREPARE_RX
    match s.part m.xid with
    | some p => .next (s.sendLease m.from_ 2 p.vote m.xid m.owner p.votePos)
    | none =>
      let deadline := rebuildMs m.arg s.fleetMs * 1000000
      let l : List ReqStep := m.steps.map fun x => ⟨x.pos, x.seg, x.dir, x.startS * 1000000000 + x.startNs, x.dur⟩
      let s := s.takeSeq
      match s.prepareDeny m deadline l with
      | some d =>
        let p : Part := ⟨m.xid, none, m.from_, m.owner, deadline, none, d.code, d.pos⟩
        .next (({ s with ls := { s.ls with parts := s.ls.parts ++ [p] } }).sendLease m.from_ 2 d.code m.xid m.owner d.pos)
      | none =>
        let (s, h) := s.writeFurrow m.owner hsPREPARED 5 m.xid 0 l fun _ => false
        let p : Part := ⟨m.xid, some h, m.from_, m.owner, deadline, none, 0, 0⟩
        .next ((({ s with ls := { s.ls with parts := s.ls.parts ++ [p] } }).sendLease m.from_ 2 0 m.xid m.owner 0).leaseShow)

/-- A VOTE: the next zone is asked, COMMIT is sent, or the reservation is aborted (R240, R242). -/
def execVoteRx (m : LeaseMsg) (s : State) : Res :=
  match s.xfer m.xid with
  | none => .next s
  | some x =>
    match x.ask with
    | z :: rest =>
      if z ≠ m.from_ ∨ ¬ s.isOn .lease then .next s
      else if s.level < 2 then .next (s.abortXfer x { code := 0x11, zone := s.number })
      else if m.n ≠ 0 then .next (s.abortXfer x { code := 0x1C, pos := m.arg % 64, zone := m.from_ })
      else .next ((s.setXfer { x with ask := rest, yes := x.yes ++ [z] }).advance m.xid (rest.length + 1))
    | [] => .next s

/-- A COMMIT turns a PREPARED part GRANTED (R240). -/
def execCommitRx (m : LeaseMsg) (s : State) : Res :=
  match s.partIn m.xid hsPREPARED with
  | some h =>
    let s := ((s.takeSeq).leSet h LE.state hsGRANTED).awaitDelta h
    let s : State := { s with ls := { s.ls with parts := s.ls.parts.map fun p => if p.xid = m.xid then { p with commitAt := some s.fleetMs } else p } }
    .next ((s.ackLease m 0).leaseShow)
  | none =>
    if (s.partIn m.xid hsGRANTED).isSome ∨ (s.partIn m.xid hsCOMMITTED).isSome then .next (s.ackLease m 0) else .next (s.ackLease m 1)

/-- A COMMIT_ACK: OK from every zone makes the furrow GRANTED; NOT_PREPARED releases it (R240). For a RELEASE it ends the
repetition (R243). -/
def execCommitAckRx (m : LeaseMsg) (s : State) : Res :=
  let s : State := { s with ls := { s.ls with rels := s.ls.rels.filter fun r => !(decide (r.zone = m.from_ ∧ r.msg.xid = m.xid)) } }
  match s.xfer m.xid with
  | none => .next s
  | some x =>
    if x.head = noHead ∨ LE.state.get (s.le x.head) ≠ hsCOMMITTING then .next s
    else if m.n ≠ 0 then .next (s.abortXfer x { code := 0x1C, zone := m.from_ })
    else
      let acked := if x.acked.contains m.from_ then x.acked else x.acked ++ [m.from_]
      let x := { x with acked := acked }
      let s := s.setXfer x
      if !(x.zones.all fun z => decide (z = s.number) || acked.contains z) then .next s
      else if (match s.memberAt x.owner with | some g => decide (s.gen g ≠ x.ownGen) | none => true) then
        .next (s.abortXfer x { code := 0x12, zone := s.number })
      else
        let s := (s.takeSeq).leSet x.head LE.state hsGRANTED
        let s := s.leSet x.head LE.gseq (s.get F.GRANT_SEQ)
        let s := s.setXfer { x with grantAt := some s.fleetNs, via := none }
        let (s, r) := s.grantDone x.head
        .next (match x.via with | some v => (s.complHeld v pLEASE r).leaseShow | none => s.leaseShow)

/-- A COMMITTED notice (R240). -/
def execCommittedRx (m : LeaseMsg) (s : State) : Res :=
  match s.xfer m.xid with
  | none => .next s
  | some x =>
    if x.grantAt.isNone then .next s
    else
      let s := s.setXfer { x with noted := if x.noted.contains m.from_ then x.noted else x.noted ++ [m.from_] }
      .next (s.tryCommit x.head)

/-- The record of a part goes. -/
def State.dropPart (s : State) (xid : Nat) : State := { s with ls := { s.ls with parts := s.ls.parts.filter fun p => p.xid ≠ xid } }

/-- An ABORT frees a PREPARED part; for an unknown XID it is only acknowledged (R240, R243). -/
def execAbortRx (m : LeaseMsg) (s : State) : Res :=
  match s.partIn m.xid hsPREPARED with
  | some h => .next (((s.takeSeq).freeFurrow h).dropPart m.xid)
  | none => match s.part m.xid with
    | some _ => .next s
    | none => .next (s.ackLease m 0)

/-- A RELEASE frees the steps of a part from its first POS on and is acknowledged (R243). -/
def execLeaseReleaseRx (m : LeaseMsg) (s : State) : Res :=
  match s.part m.xid with
  | some p => match p.head with
    | some h =>
      let go := (s.stepsOf h).filter fun i => decide (m.n ≤ LE.pos.get (s.le i))
      let locks := s.locksOf h
      let s := s.takeSeq
      let s := s.each go State.freeLe
      let s := s.each locks State.relock
      .next (((s.rechain h).leaseShow).ackLease m 0)
    | none => .next (s.ackLease m 0)
  | none => .next (s.ackLease m 0)

/-- The step of a part at a position. -/
def State.partStep (s : State) (xid pos : Nat) : Option Nat :=
  match s.part xid with
  | some p => match p.head with
    | some h => (s.stepsOf h).find? fun i => LE.pos.get (s.le i) = pos
    | none => none
  | none => none

/-- STEP_DONE frees the owning zone's step (R250). -/
def execStepDoneRx (m : LeaseMsg) (s : State) : Res :=
  match s.partStep m.xid (m.arg % 64) with
  | some i => .next (s.freeDecided i 4)
  | none => .next (if (s.part m.xid).isSome then s else s.ackLease m 0)

/-- STEP_OVERSTAY turns the owning zone's step to OVERSTAY (R250). -/
def execStepOverstayRx (m : LeaseMsg) (s : State) : Res :=
  match s.partStep m.xid (m.arg % 64) with
  | some i => if LE.kind.get (s.le i) = 2 then .next (s.toOverstay i) else .next s
  | none => .next (if (s.part m.xid).isSome then s else s.ackLease m 0)

/-- TAKEOVER (R244): PREPARED parts of the zone are freed, and those whose COMMIT came at or after the cut; COMMITTED is
sent again for every committed part. -/
def execTakeoverRx (m : LeaseMsg) (s : State) : Res :=
  let cut := rebuildMs m.arg s.fleetMs
  let mine := s.ls.parts.filter fun p => decide (p.zone = m.from_)
  .next (s.each mine fun s p => match p.head with
    | none => s.dropPart p.xid
    | some h =>
      let e := s.le h
      if decide (LE.state.get e = hsPREPARED) || (match p.commitAt with | some t => decide (cut ≤ t) | none => false) then
        ((s.takeSeq).freeFurrow h).dropPart p.xid
      else if LE.state.get e = hsCOMMITTED then s.sendLease m.from_ 5 0 p.xid p.owner 0
      else s)

/-! ### Deadlines -/

/-- A PREPARING furrow or a PREPARED part reaches its DEADLINE, or the level is below TRACK; a COMMITTING one misses an ack at DEADLINE + P (R240). -/
def execXferDeadline (xid : Nat) (s : State) : Res :=
  match s.xfer xid with
  | some x =>
    let committing := decide (x.head ≠ noHead ∧ LE.state.get (s.le x.head) = hsCOMMITTING)
    if x.grantAt = none ∧ !committing ∧ s.level < 2 then .next (s.abortXfer x { code := 0x11, zone := s.number })
    else if x.grantAt.isSome ∨ s.fleetNs < x.deadline + (if committing then s.period else 0) then .next s
    else .next (s.abortXfer x { code := 0x1C, zone := x.ask.headD s.number })
  | none => match s.part xid with
    | some p =>
      if s.fleetNs < p.deadline then .next s
      else match p.head with
        | none => .next (s.dropPart xid)
        | some h => if LE.state.get (s.le h) = hsPREPARED then .next (((s.takeSeq).freeFurrow h).dropPart xid) else .next s
    | none => .next s

/-- A cross-zone GRANTED furrow without every COMMITTED notice 2 P after the grant is released and LOST (R240). -/
def execCommittedTimeout (xid : Nat) (s : State) : Res :=
  match s.xfer xid with
  | none => .next s
  | some x => match x.grantAt with
    | none => .next s
    | some t =>
      if s.fleetNs < t + 2 * s.period ∨ (x.zones.all fun z => decide (z = s.number) || x.noted.contains z) then .next s
      else
        let s := s.each (x.zones.filter (· ≠ s.number)) fun s z => s.sendRelease z 7 0 xid x.owner
        let s := ((s.takeSeq).inc C.LEASE_XFER_LOST).irq pLEASE I.LEASE_XFER_LOST
        let s := (s.leEvent 8 x.head).freeFurrow x.head
        .next (match s.memberAt x.owner with | some g => s.motTrunc g | none => s)

/-- A step is due (R246). -/
def execStepDue (i : Nat) (s : State) : Res := if s.isOn .lease && !s.offDuty then .next (s.stepDue i) else .next s

/-- No STEP message by end + GRACE + REPORT_WAIT: the owning zone's step becomes OVERSTAY (R250). -/
def execReportWaitExpiry (i : Nat) (s : State) : Res :=
  let e := s.le i
  if ¬ s.isOn .lease ∨ s.offDuty ∨ LE.kind.get e ≠ 2 ∨ LE.part.get (s.le (LE.head.get e)) = 0 ∨ s.cold i = true ∨ s.get F.LEASE_STATUS_LOST = 1 ∨
     s.fleetNs < leEnd e + (s.get F.GRACE + s.get F.REPORT_WAIT) * 1000000 then .next s
  else .next (s.toOverstay i)

/-- LEASE_CTRL.LOST_CLR, from the host only (R252). -/
def State.lostClr (s : State) (src : Src) : State := if src.slot = .host then s.set F.LEASE_STATUS_LOST 0 else s

/-- LOST_CLR is written. -/
def execLostClr (src : Src) (s : State) : Res := if s.jtagBars src pLEASE true then .next s else .next (s.lostClr src)

/-- An OVERSTAY of another owner lasts on a segment or turnout (R248). -/
def State.overstayOn (s : State) (owner seg turn : Nat) : Bool :=
  s.leLive.any fun j =>
    let x := s.le j
    decide (LE.kind.get x = 3) && decide (s.leOwner j ≠ owner) &&
      (decide (LE.seg.get x = seg) || (decide (turn ≠ 0xFFFF) && decide (SG.turnout.get (s.seg (LE.seg.get x)) = turn)))

/-- A step's window begins (R231, R248). -/
def execStepWindowBegins (i : Nat) (s : State) : Res :=
  let e := s.le i
  if ¬ s.isOn .lease ∨ LE.kind.get e ≠ 2 ∨ LE.begun.get e = 1 ∨ s.fleetNs < leStart e then .next s
  else
    let s := s.leSet i LE.begun 1
    let t := SG.turnout.get (s.seg (LE.seg.get e))
    .next (if s.overstayOn (s.leOwner i) (LE.seg.get e) t then s.blockOwner i else s)

end Sys2Proof.Machine
end

