-- ==== Sys2Proof/Machine/PairLate.lean ====
section
/-! DEFINITION. What of the partner pair needs the lease engine, motion and the key store: rotation of keys, loading of a
checkpoint, TAKEOVER, the planned switch, acknowledgement of deltas (R241, R244, R387, R393, R398 to R402, R435, R436). -/
namespace Sys2Proof.Machine
open Sys2Proof

/-! ### Rotation of the zone key (R435, R436) -/

/-- The receive state of a member for a new generation: the window is empty, what R199 counts stays. -/
def freshLink (l : Nat) : Nat := LK.fcnt.set (LK.high.set (LK.win.set l 0) 0) 0

/-- The receive states under the old key are kept for the grace period, and the frame counters begin anew (R435). -/
def State.graceBegin (s : State) (ms : List Nat) : State :=
  let prev := ms.foldl (fun m i => AMap.set (fun _ => 0) m i (s.link i)) ([] : AMap Nat)
  { s with air := { s.air with fcnt := [1, 1, 1, 1], prevLink := prev, graceEnd := (s.get F.SFN + s.get F.SEC_CFG_GRACE_SF) % 2 ^ 32 } }

/-- The zone key rotates (R435). -/
def State.rotateKeys (s : State) : State :=
  let s := ((s.ksMove 8 10).ksMove 9 8).zeroise 9
  let ms := s.teListed (pSL 0) 2
  let s := (s.graceBegin ms).each ms fun s m => s.setLink m (freshLink (s.link m))
  let s := s.each (s.teListed pSEC 0) fun s i => s.setTe pSEC 0 i (AU.last.set (s.auth i) 0)
  let s := ((s.set F.SEC_STATUS_REKEY_DUE 0).set F.SEC_STATUS_ROT_PEND 0).set F.ROT_SFN 0
  ((s.inc C.FRAME_SEC_ROTATIONS).irq pSEC I.FRAME_SEC_ROTATED).hgLoadKey (s.ksSecret 8)

/-- Grace ends (R435): slot 10 is zeroised, the receive state of the previous generation is gone. -/
def State.endGrace (s : State) : State :=
  let s := s.zeroise 10
  { s with air := { s.air with prevLink := [] } }

/-! ### The checkpoint is loaded (R392, R398) -/

/-- The deltas that follow the full and are complete. -/
def PairSt.goodDeltas (p : PairSt) (f : FullRec) : List DeltaRec := p.deltas.filter fun d => d.done && later d.sfn f.sfn 32

/-- Fleet time of the last cut among images, ns. -/
def cutNs (l : List Image) : Nat := match (l.filter fun i => i.target = tgTime).getLast? with
  | some i => i.value / 2 ^ 32
  | none => 0

/-- The parts that this zone holds for others, as the loaded lease table shows them; DEADLINE is not carried. -/
def State.partsOf (s : State) : List Part :=
  (s.heads.filter fun h => decide (LE.part.get (s.le h) = 1)).map fun h =>
    let e := s.le h
    { xid := LE.xid.get e, head := some h, zone := LE.xid.get e / 2 ^ 26, owner := LE.owner.get e, deadline := s.fleetNs + 2 * s.period,
      commitAt := none, vote := 0, votePos := 0 }

/-- A member's motion after a load (R399): its queue in the order of its plan state, a new path, and no motion until a trailer shows it at rest. -/
def State.motLoad (s : State) (m : Nat) : State :=
  let full := (List.range 16).filter fun k => decide (MV.mstate.get (s.move m k) ≠ 0)
  let had := (s.motion m).order.filter full.contains
  let order := had ++ full.filter fun k => !had.contains k
  let e := s.te pMOT 1 m
  s.setMotion m { order := order, path := bits e 8 8, newPath := true, wait := true }

/-- A unit that takes over a zone advances every FCNT that it sends with (R180), the stop sets' with them. -/
def State.advanceFcnt (s : State) : State :=
  let s : State := { s with air := { s.air with fcnt := s.air.fcnt.map (· + 2 ^ 20) } }
  s.each (List.range 4) State.rebuildSets

/-- The after-images of a complete full and of the deltas behind it, and the latest plan states. -/
def PairSt.content (p : PairSt) : Option (List Image × List (Nat × MotSt)) := p.full.map fun f =>
  let l := p.goodDeltas f
  (f.images ++ l.flatMap (·.images), (l.getLast?.map (·.plans)).getD f.plans)

/-- Tables, fields and plan states of a checkpoint replace what the unit holds of them. -/
def State.applyContent (s : State) (imgs : List Image) (plans : List (Nat × MotSt)) : State :=
  let s : State := { s with tbl := s.tbl.filter fun e => !(ckptTargets.contains (e.1 / 2 ^ 24)), ls := {}, mot := [] }
  (s.each imgs State.applyImage).each plans fun s x => s.setMotion x.1 x.2

/-- What stands beside the tables follows them: parts held for others, trailers, counts. -/
def State.followTables (s : State) : State :=
  let s : State := { s with ls := { s.ls with parts := s.partsOf } }
  let s := s.each s.members fun s m => s.noteTrailer m (bits (s.mget m RG.trailer) 160 32) (bit (s.mget m RG.trailer) 4)
  let s := s.each (List.range 4) State.portInfo
  (s.regCounts).leaseShow

/-- The live tables of a WARM unit are those of the checkpoint that it holds (R387, R392). -/
def State.warmApply (s : State) : State :=
  match s.pair.content with
  | some (imgs, plans) => (s.applyContent imgs plans).followTables
  | none => s

/-- The checkpoint is loaded: the complete full, then every delta that has a CUT (R398); what stands beside the tables
follows them. -/
def State.loadCheckpoint (s : State) : State :=
  match s.pair.content with
  | none => s
  | some (imgs, plans) =>
    let s := s.applyContent imgs plans
    let cut := cutNs imgs
    let gone := s.fleetNs / s.period - cut / s.period
    let s := s.set F.SFN ((s.get F.SFN + gone) % 2 ^ 32)
    let s := (({ s with pair := { s.pair with cutMs := cut / 1000000 % 2 ^ 32 } } : State).advanceFcnt).followTables
    s.each s.members State.motLoad

/-- The generations of the host, of every context and of the supervisor step (R398). -/
def State.bumpSources (s : State) : State :=
  let s := s.hostBump.each (List.range 64) fun s c => s.bump (512 + c) 3
  s.bump 577 5

/-- Lease steps and deadlines past due are decided at once, in index order (R398). -/
def State.decidePast (s : State) : State := (s.each s.leLive State.stepDue).taskDeadlines

/-- Images and checkpoint are loaded (R398). -/
def execTakeoverLoaded (s : State) : Res :=
  if s.get F.PAIR_STATUS_STATE ≠ 3 ∨ s.pair.loaded then .next s
  else
    let s := (s.loadCheckpoint.bumpSources).decidePast
    .next { s with pair := { s.pair with loaded := true } }

/-! ### TAKEOVER (R244) -/

/-- A loaded furrow in PREPARING or COMMITTING is released in every zone. -/
def State.releaseLoaded (s : State) (h : Nat) : State :=
  let e := s.le h
  let zones := sortNats (((s.stepsOf h).filter fun i => decide (LE.foreign.get (s.le i) = 1)).map fun i => s.segZone (LE.seg.get (s.le i)))
  let s := s.each zones fun s z => s.sendRelease z 7 0 (LE.xid.get e) (LE.owner.get e)
  (s.takeSeq).freeFurrow h

/-- A loaded GRANTED furrow awaits its notices; one of this zone alone is COMMITTED. -/
def State.awaitLoaded (s : State) (h : Nat) : State :=
  let e := s.le h
  if LE.cross.get e = 0 then s.tryCommit h
  else
    let zones := sortNats (s.number :: ((s.stepsOf h).filter fun i => decide (LE.foreign.get (s.le i) = 1)).map fun i => s.segZone (LE.seg.get (s.le i)))
    let gen := match s.memberAt (LE.owner.get e) with | some m => s.gen m | none => 0
    let x : Xfer := { xid := LE.xid.get e, head := h, owner := LE.owner.get e, zones := zones, ask := [], yes := zones, acked := zones, noted := [],
                      deadline := s.fleetNs, grantAt := some s.fleetNs, steps := [], via := none, wclass := 0, ownGen := gen }
    { s with ls := { s.ls with xfers := s.ls.xfers ++ [x] } }

/-- This unit has taken the zone: TAKEOVER to every zone with the cut time, furrows in reservation released, granted ones
awaiting notices. -/
def State.takeZone (s : State) (cutMs : Nat) : State :=
  let s := s.each ((List.range s.ringSize).filter fun z => z ≠ s.number) fun s z => s.sendLease z 10 0 0 0 cutMs
  let own := s.heads.filter fun h => decide (LE.part.get (s.le h) = 0)
  let open_ := own.filter fun h => decide (LE.state.get (s.le h) = hsPREPARING ∨ LE.state.get (s.le h) = hsCOMMITTING)
  let granted := own.filter fun h => decide (LE.state.get (s.le h) = hsGRANTED)
  (s.each open_ State.releaseLoaded).each granted State.awaitLoaded

/-- The first beacon of a unit that takes over is on air (R387). -/
def State.tookOver (s : State) : State :=
  if s.get F.PAIR_STATUS_STATE = 3 ∧ s.pair.loaded then ((s.takeZone s.pair.cutMs).goPair 4).meterTake else s

/-! ### The planned switch (R401, R402) -/

/-- The switch boundary is here. -/
def State.switchNow (s : State) : Bool := decide (s.get F.SWITCH_SFN ≠ 0 ∧ s.get F.SFN = s.get F.SWITCH_SFN)

/-- The switch has been made. -/
def State.switched (s : State) : State := ((s.set F.SWITCH_SFN 0).inc C.PAIR_SWITCHES).irq pPAIR I.PAIR_SWITCH_DONE

/-- Operations that are not decided complete with ABORTED. -/
def State.abortAll (s : State) : State := s.each ((s.held.map (·.page)).eraseDups) fun s p => s.abortHeld p 0x09

/-- The active unit at the switch boundary: it waits for a set of bursts to end, cancels where the partner is no longer
WARM and READY, or gives the zone up. -/
def State.switchOld (s : State) : State :=
  if s.hg.bursts.any (·.isSome) then
    let sfn := (s.get F.SFN + 1) % 2 ^ 32
    (s.set F.SWITCH_SFN sfn).pairSend { typ := 9, format := s.pair.format, sfn := sfn, arg := sfn }
  else if !s.peerWarmReady then s.switchCancel
  else ((s.unclaim.abortAll).goCold).switched

/-- The WARM unit at the switch boundary, the old unit's line released: it claims, and its gate opens for the beacon at that boundary, which it
sends from what it holds. The rest waits for the last delta (R401). Its claim counts as 50 µs old (DESIGN CHOICE, log entry 93: R401 has the beacon at B(S)). -/
def State.switchNew (s : State) : State :=
  if s.get F.PAIR_STATUS_READY = 0 then s.set F.SWITCH_SFN 0
  else if s.get F.PAIR_STATUS_CLAIM_PEER = 1 then s
  else
    let s := s.claim
    let s : State := { s with pair := { s.pair with claimAt := some (s.now - us 50), checked := true, loaded := true, lastDelta := true } }
    ((s.gateShow).goPair 4).meterTake.advanceFcnt.switched

/-- The last delta is applied, but for the counters that this unit sends with: hosts and cores forfeit their locks, and the zone is taken
(R401). -/
def State.switchFinish (s : State) (d : DeltaRec) : State :=
  let imgs := d.images.filter fun i => decide (i.target ≠ tgFcnt ∧ i.target ≠ tgSeq)
  let s : State := { s with pair := { s.pair with lastDelta := false }, ls := {} }
  let s := ((s.each imgs State.applyImage).each d.plans fun s x => s.setMotion x.1 x.2).followTables.bumpSources
  s.takeZone (s.fleetMs % 2 ^ 32)

/-- The switch at a boundary, for either unit. A unit whose last delta has not come by the next boundary goes on with what it holds (DESIGN
CHOICE: the spec gives the delta 1 ms and says no more). -/
def State.switchBoundary (s : State) : State :=
  if s.pair.lastDelta then s.switchFinish ⟨0, [], true, []⟩
  else if !s.switchNow then s
  else if s.get F.PAIR_STATUS_STATE = 4 then s.switchOld
  else if s.get F.PAIR_STATUS_STATE = 2 then s.switchNew
  else s

/-! ### Commands -/

/-- The partner's claim line changes (R389): asserted, the gate closes at once, and past its own check a unit that holds its claim has a conflict;
released, a primary that holds its claim reopens its gate, and a WARM unit whose switch boundary has come claims (R401). -/
def execClaimLineChange (asserted : Bool) (s : State) : Res :=
  if !s.isPaired then .next s
  else
    let s := s.set F.PAIR_STATUS_CLAIM_PEER (b2n asserted)
    if asserted then
      if s.get F.PAIR_STATUS_CLAIM_OWN = 1 ∧ s.pair.checked then .next s.claimConflict else .next s.gateShow
    else
      let s := ({ s with pair := { s.pair with peerRelAt := s.now } } : State).gateShow
      .next (if s.get F.PAIR_STATUS_STATE = 2 ∧ s.switchNow then s.switchNew else s)

/-- The delta of a CUT is complete and good: it is held and acknowledged; a WARM unit's live tables follow, and a unit that has just taken the zone
by a switch goes on with it. A full delta ring makes the unit NOT_READY, with RESYNC (R394). -/
def State.takeDelta (s : State) (m : PairMsg) (d : DeltaRec) (before : List DeltaRec) : State :=
  let p := s.pair
  let prev := match before.getLast? with | some x => some x.sfn | none => p.full.map (·.sfn)
  let gap := match prev with | some q => decide (m.sfn ≠ (q + 1) % 2 ^ 32) && p.full.isSome | none => false
  let s : State := { s with pair := { p with deltas := before ++ [{ d with done := true }], gap := p.gap || gap } }
  let s := (s.set F.DELTA_SFN m.sfn).inc C.PAIR_DELTAS
  let s := if p.lastDelta then s.switchFinish d else if s.get F.PAIR_STATUS_STATE = 2 then s.warmApply else s
  let s := s.pairSend { typ := 4, format := s.pair.format, sfn := m.sfn, arg := m.sfn }
  if s.deltaRing < s.pair.deltaBytes then
    ({ s with pair := { s.pair with gap := true, deltas := [] } }.pairSend { typ := 10 }).inc C.PAIR_RESYNCS
  else s

/-- A CUT closes a delta (R393): with its CRC good it is held and acknowledged within 1 ms. A gap makes the unit NOT_READY. While DRAM is not
ON nothing is held. -/
def execPairCutRx (m : PairMsg) (s : State) : Res :=
  if !s.standby && !s.pair.lastDelta then .next s
  else
    let s : State := { s with pair := { s.pair with flitAt := s.now } }
    let p := s.pair
    let d : DeltaRec := match p.deltas.getLast? with
      | some d => if d.sfn = m.sfn ∧ !d.done then d else ⟨m.sfn, [], false, []⟩
      | none => ⟨m.sfn, [], false, []⟩
    let before := p.deltas.filter fun x => x.sfn ≠ m.sfn
    if ¬ s.isOn .dram ∨ crc32c (imageBytes d.images) ≠ m.arg then .next ({ s with pair := { p with deltas := before, gap := true } } : State).readyShow
    else .next (s.takeDelta m d before).readyShow

/-- PAIR_CTRL.TAKE by token (R387): a secondary claims without a checkpoint, its zone state empty. -/
def State.take (s : State) : State :=
  if !s.isPaired ∨ s.get F.PAIR_STATUS_ROLE = 0 ∨ s.get F.PAIR_STATUS_STATE = 4 ∨ !s.mayClaim then s
  else
    let s : State := { s with tbl := s.tbl.filter fun e => !(ckptTargets.contains (e.1 / 2 ^ 24)), ls := {}, mot := [],
                              air := { s.air with downq := [] }, pair := { s.pair with roleDone := true, loaded := true } }
    let s := (s.claim.goPair 4).startRegions.meterTake.advanceFcnt
    (s.regCounts).leaseShow

/-- TAKE is written. -/
def execPairTake (s : State) : Res := .next s.take

/-- A delta is acknowledged (R241, R393): the furrows that it carried are COMMITTED. -/
def execPairAckRx (sfn : Nat) (s : State) : Res :=
  let s : State := { s with pair := { s.pair with flitAt := s.now } }
  if s.get F.PAIR_STATUS_STATE ≠ 4 ∨ ¬ s.pair.unacked.contains sfn then .next s
  else
    let done := (s.ls.uncommitted.filter fun u => u.2 = sfn).map (·.1)
    let s : State := { s with pair := { s.pair with unacked := s.pair.unacked.filter fun x => x ≠ sfn },
                              ls := { s.ls with uncommitted := s.ls.uncommitted.filter fun u => u.2 ≠ sfn } }
    .next ((s.set F.DELTA_SFN sfn).each done State.tryCommit)

/-- ACK_SF consecutive deltas of an in-service partner are unacknowledged (R393). -/
def execPartnerAckTimeout (s : State) : Res :=
  if s.get F.PAIR_STATUS_STATE ≠ 4 ∨ s.pair.unacked.length < s.get F.PAIR_CFG_ACK_SF then .next s
  else
    let last := s.pair.unacked.getLast?.getD 0
    let s : State := { s with pair := { s.pair with oos := true, unacked := [] } }
    let s := (s.set F.PAIR_STATUS_PEER_IN_SERVICE 0).notice pPAIR I.PAIR_OUT_OF_SERVICE
    .next (((s.deltaAcked last).pairSend { typ := 10, format := s.pair.format }).inc C.PAIR_RESYNCS)

/-- STATUS of the partner (R390, R395): the readiness checks follow; a standby rotates its slots when it shows the
generation of its slot 9 (R436). -/
def execPairStatusRx (m : PairMsg) (s : State) : Res :=
  if !s.isPaired then .next s
  else
    let s : State := { s with pair := { s.pair with peer := some m, flitAt := s.now } }
    let s := if s.standby ∧ m.kgen ≠ 0 ∧ m.kgen = s.get F.SEC_STATUS_KGEN_NEXT ∧ m.kgen ≠ s.kgen then s.rotateKeys else s
    .next s.readyShow

end Sys2Proof.Machine
end

