-- ==== Sys2Proof/Machine/Boundary.lean ====
section
/-! DEFINITION. The superframe boundary: SFN, key rotation, bank swaps, the service level, beacons, what PLAN does at it
(R31, R32, R168, R175 to R177, R182, R183, R200, R241, R243, R279, R292, R298, R299, R392, R401, R435). -/
namespace Sys2Proof.Machine
open Sys2Proof

/-! ### Swaps (R175, R176) -/

/-- Ports whose armed bank swaps at the superframe that begins. -/
def State.swapsDue (s : State) : List Nat :=
  (List.range 4).filter fun p => decide (s.get F.BANK_CTRL_ARMED p = 1 ∧ s.get F.SWAP_SFN p = s.get F.SFN)

/-- SF_CODE of a port after the swaps of a list of ports. -/
def State.sfAfter (s : State) (due : List Nat) (p : Nat) : Nat :=
  if due.contains p then s.get F.BANK_HDR_SF_CODE p (1 - s.activeBank p) else s.sfOf p

/-- The swaps would leave two SERVING ports with different P. -/
def State.swapClash (s : State) (due : List Nat) : Bool :=
  match ((List.range 4).filter fun p => s.svc p = 2).map (s.sfAfter due) with
  | [] => false
  | a :: l => l.any fun b => decide (b ≠ a)

/-- The swaps of a boundary are made, or all cancelled. -/
def State.swapAll (s : State) : State :=
  let due := s.swapsDue
  if due = [] then s
  else if s.swapClash due then s.each due fun s p => (s.cancelBank p).notice (pSL p) I.SLUICE_SWAP_CANCEL p
  else s.each due State.swapBank

/-! ### The service level at a beacon (R31, R32, R398) -/

/-- The highest level whose units have all worked for 1 s without a break. -/
def State.risen (s : State) : Nat :=
  let ok := fun (o : Option Nat) => match o with | some t => decide (t + sec 1 ≤ s.now) | none => false
  let r := if ok s.flt.since3 then 3 else if ok s.flt.since2 then 2 else if ok s.flt.since1 then 1 else 0
  min r s.permitNow

/-- The level that the next beacon announces: the lowest since the last one where that is a fall, else a rise that is due.
The first beacon after a takeover announces the highest permitted one. -/
def State.nextLevel (s : State) : Nat :=
  let old := s.get F.SVC_STATUS_LEVEL
  if s.get F.PAIR_STATUS_STATE = 3 then s.permitNow
  else if s.flt.low < old then s.flt.low
  else max old s.risen

/-- A level takes effect, with what PLAN and SOLVE do at its change (R30, R141, R249, R328). -/
def State.setLevel (s : State) (new : Nat) : State :=
  let old := s.get F.SVC_STATUS_LEVEL
  if new = old then s
  else
    let s := s.announce new
    let s := (s.set F.SVC_STATUS_RISING (b2n (decide (new < s.get F.SVC_STATUS_PERMIT)))).refreeze
    let s := if old < 2 ∧ 2 ≤ new then s.taskDeadlines else if 2 ≤ old ∧ new < 2 then s.abortPreparing else s
    s.armCheck

/-- The level at a beacon; the latch of R31 begins anew. -/
def State.levelAtBeacon (s : State) : State :=
  let s := s.setLevel s.nextLevel
  { s with flt := { s.flt with low := s.permitNow } }

/-- A higher level's units have all worked for 1 s, and a beacon is due, or no air port is ON (R32, R34): the level rises to
it, unless a lower one has been reached since the beacon before, which wins (R31). At any other moment the rise waits for its beacon. -/
def execLevelRise (s : State) : Res :=
  if (s.noPortOn ∨ s.air.nextB ≤ s.fleetNs) ∧ s.get F.SVC_STATUS_LEVEL ≤ s.flt.low ∧ s.get F.SVC_STATUS_LEVEL < s.risen then
    .next ({ s.setLevel s.risen with flt := { (s.setLevel s.risen).flt with low := s.permitNow } })
  else .next s

/-! ### What the Headgate latches (R299) -/

/-- ZONE_ID without PORT. -/
def State.zoneId (s : State) : Nat := s.canal.site % 2 ^ 8 + s.number % 2 ^ 6 * 2 ^ 8 + s.get F.ZONE_TAG * 2 ^ 16

/-- The latch of a port at a boundary: from the engine's registers while SLUICE is ON; else carried on, an announced swap
made. -/
def State.latchPort (s : State) (p : Nat) : State :=
  let l := nth {} s.hg.latch p
  let epoch := if s.isOn .time then s.get F.TIME_STATUS_EPOCH else l.epoch
  let a := s.activeBank p
  let armed := decide (s.get F.BANK_CTRL_ARMED p = 1)
  let l' : HgLatch :=
    if s.isOn .sluice p then
      { sfn := s.get F.SFN, epoch := epoch, bankEpoch := s.get F.BANK_HDR_EPOCH p a,
        nextEpoch := if armed then nextEpochOf (s.get F.BANK_HDR_EPOCH p a) else 0, swapSfn := if armed then s.get F.SWAP_SFN p else 0,
        sfCode := s.zoneSf, missLimit := s.get F.MAC_CFG_MISS_LIMIT, ackRate := s.ackRate p, zoneId := s.zoneId,
        driftPpm := s.get F.MAC_CFG_DRIFT_PPM, rate := slRate ((s.beaconEntry p).getD 0) }
    else
      let sfn := (l.sfn + 1) % 2 ^ 32
      let l := { l with sfn := sfn, epoch := epoch }
      if l.nextEpoch ≠ 0 ∧ sfn = l.swapSfn then { l with bankEpoch := l.nextEpoch, nextEpoch := 0, swapSfn := 0 } else l
  { s with hg := { s.hg with latch := setNth s.hg.latch p l' } }

/-! ### Beacons (R182, R183, R200, R298) -/

/-- The body of the beacon of a boundary (R182). -/
def State.beaconBody (s : State) (p b : Nat) : List Nat :=
  let a := s.activeBank p
  let ep := s.get F.BANK_HDR_EPOCH p a
  let armed := decide (s.get F.BANK_CTRL_ARMED p = 1)
  let map := s.beaconMap p
  let word := fun (x : Nat × Nat) =>
    let e := x.2
    slStart e + slLen e * 2 ^ 11 + slKind e * 2 ^ 19 + slRate e * 2 ^ 22 + (if slKind e = 1 then slMember e / 64 % 8 * 2 ^ 25 else 0)
  toBytes 4 (s.get F.SFN) ++ toBytes 6 (b / 1000000000) ++ toBytes 4 (b % 1000000000) ++
    [s.get F.TIME_STATUS_TQ + s.level * 16 + s.zoneSf * 64, s.get F.TIME_STATUS_EPOCH, s.get F.HG_STATE_CLASS + s.get F.HG_STATE_REASON * 4,
     ep, if armed then nextEpochOf ep else 0,
     s.get F.MAC_CFG_MISS_LIMIT + s.ackRate p * 16 + s.get F.MAC_CFG_JOIN_OPEN * 128] ++
    toBytes 4 (if armed then s.get F.SWAP_SFN p else 0) ++ toBytes 4 (s.zoneId + p * 2 ^ 14) ++
    [map.length, s.get F.MAC_CFG_DRIFT_PPM, 0, 0] ++ map.flatMap fun x => toBytes 4 (word x)

/-- A beacon at B counts as the burst frame that would start there (R298). -/
def State.beaconForBurst (s : State) (p b us_ : Nat) : State :=
  match nth none s.hg.bursts p with
  | none => s
  | some x =>
    if s.get F.PORT_STATUS_TX_SRC p = 1 ∧ x.at_ ≤ b / 125000 then
      let s := if x.next = 0 then s.setPort p { s.port p with stopAt := some s.fleetNs } else s
      (s.noteFirstFrame).stepBurst p x (b / 125000) ((us_ + 124) / 125)
    else s

/-- The engine's beacon may go on air at B: the path is the engine's and free, or a burst frame of the Headgate would start at B (R162, R297, R298). -/
def State.mayBeacon (s : State) (p b : Nat) : Bool :=
  decide ((s.port p).txEnd ≤ s.now) && (!s.hgHolds p || (match nth none s.hg.bursts p with | some x => decide (x.at_ ≤ b / 125000) | none => false))

/-- The beacon of a port at a boundary: the Headgate's, where it sent one and the engine's comes late, else the engine's
(R299). The Boolean says whether one is on air. -/
def State.beacon (s : State) (p b : Nat) : State × Bool :=
  let late := decide (b + 10000 < s.fleetNs)
  let posts := s.enginePosts p b
  if nth false s.air.hgSent p then
    let s := if posts then (s.inc C.HEADGATE_ENGINE_LATE).irq pHG I.HEADGATE_ENGINE_LATE else s
    (s.beaconForBurst p b (s.portUs p (s.hgRate p) 58), true)
  else if posts && !late && s.mayBeacon p b then
    let rate := slRate ((s.beaconEntry p).getD 0)
    let body := s.beaconBody p b
    let s := (s.sendZone p 0 rate body).inc C.SLUICE_BEACONS p
    (s.beaconForBurst p b (s.portUs p rate (26 + body.length)), true)
  else (s, false)

/-- A port's turn at a boundary: its beacon, the count of R200, STARTING to SERVING (R163). -/
def State.portBoundary (s : State) (b p : Nat) : State :=
  let (s, air) := s.beacon p b
  let s := s.setPort p { s.port p with onAir := air }
  if s.svc p ≠ 1 ∧ s.svc p ≠ 2 then s
  else if air then (if s.svc p = 1 then (s.setSvc p 2).debugHold else s).set F.PORT_INFO_BEACON_MISS 0 p
  else if s.offDuty ∨ (s.svc p = 1 ∧ b < (s.port p).svcAt + 1000000) then s
  else
    let n := min 3 (s.get F.PORT_INFO_BEACON_MISS p + 1)
    let s := (s.set F.PORT_INFO_BEACON_MISS n p).irq (pSL p) I.SLUICE_BEACON_MISS
    if n = 3 then s.svcFault p else s

/-! ### The end of a superframe -/

/-- Members at depth 2 or more that nothing was accepted from in the superframe that ends (R211). -/
def State.missRelayed (s : State) : State :=
  let l := s.members.filter fun m => decide (2 ≤ s.depthOf m)
  s.each l fun s m => match s.servingPort m with
    | some p =>
      let void := decide (s.svc p ≠ 2) || !(s.port p).onAir || s.hgHolds p ||
        (match (s.port p).heldAt with | some t => decide (s.air.curB ≤ t) | none => false)
      if void || s.air.got.any (fun x => decide (x.2 = m)) then s else s.missEntry p m
    | none => s

/-- The zone key at a boundary: a rotation that is due, the end of grace, a rotation to be scheduled (R434, R435). -/
def State.keysAtBoundary (s : State) : State :=
  let s := if s.get F.SEC_STATUS_ROT_PEND = 1 ∧ s.get F.ROT_SFN = s.get F.SFN ∧ !s.standby then s.rotateKeys
    else if s.get F.SEC_STATUS_KGEN_PREV ≠ 0 ∧ s.get F.SFN = s.air.graceEnd then s.endGrace
    else s
  s.rotAuto

/-- The delta of the superframe that ended is cut; with no partner in service it is acknowledged at once (R241, R392). -/
def State.cutAtBoundary (s : State) : State :=
  let ended := (s.get F.SFN + 2 ^ 32 - 1) % 2 ^ 32
  let s := s.pairCut
  if s.pair.unacked = [] ∧ !s.standby then s.deltaAcked ended else s

/-- What a superframe counts begins anew. -/
def State.clearSuperframe (s : State) (b next : Nat) : State :=
  { s with air := { s.air with curB := b, nextB := next, done := [], got := [], hgSent := [false, false, false, false],
                               inEnd := [none, none, none, none],
                               ports := s.air.ports.map fun x => { x with down := none } },
           motNsp := s.get F.MOTION_CFG_NSP }

/-- The boundary that begins a superframe at B. -/
def State.beginSuperframe (s : State) (b : Nat) : State :=
  let s := s.levelAtBeacon
  let s := s.each (List.range 4) fun s p => s.portBoundary b p
  let s := s.set F.HG_STATE_HG_BEACON (b2n (s.air.hgSent.any id))
  let s := s.each (List.range 4) State.latchPort
  let s := if (List.range 4).any fun p => (s.port p).onAir then s.tookOver else s
  let s := if s.hg.outPending then s.outsHigh else s
  let s := if s.isOn .lease then s.resendReleases else s
  s.clearSuperframe b ((b / s.period + 1) * s.period)

/-- A superframe boundary. Where a swap changes P and B is no multiple of the new P, the first superframe under the new bank
begins at the next multiple, and nothing is scheduled until then (R176). -/
def execSuperframeBoundary (s : State) : Res :=
  if s.fleetNs < s.air.nextB then .next s
  else
    let b := s.fleetNs / s.period * s.period
    -- the SFN of the superframe that the swap's stretch leads to was already counted when its boundary was reached
    let stretch := decide (0 < s.air.curB ∧ s.air.nextB = s.air.curB)
    let s := if stretch then s else s.missRelayed.set F.SFN ((s.get F.SFN + 1) % 2 ^ 32)
    let s := if stretch then s else s.cutAtBoundary.switchBoundary
    let s := if stretch then s else s.keysAtBoundary
    let s := s.swapAll
    if b % s.period = 0 then .next (s.beginSuperframe b)
    else
      let n := (b / s.period + 1) * s.period
      .next { s with air := { s.air with curB := n, nextB := n } }

end Sys2Proof.Machine
end

