-- ==== Sys2Proof/Machine/Time.lean ====
section
/-! DEFINITION. Fleet time: sources, slews, refusals, authorised steps, quality and holdover, PPS_OUT, IEEE 1588 time-stamps,
and the ring's TIME messages (R79 to R109, R380). Applying a step to the plan stands in Rebase. -/
namespace Sys2Proof.Machine
open Sys2Proof

/-- The TIME page. -/
abbrev pTIME : Page := ⟨.time, 0⟩

/-- States of R85. -/
def tUnset : Nat := 0
/-- LOCKED. -/
def tLocked : Nat := 1
/-- HOLDOVER. -/
def tHoldover : Nat := 2
/-- REFUSED. -/
def tRefused : Nat := 3

/-! ### Measurements (R82 to R84) -/

/-- The limit of R83 and R88, 0.1 ns: JUMP_LIMIT, and with GAP_ALLOW the u that the last gap added (R89). -/
def State.jumpLimit (s : State) : Nat :=
  s.get F.JUMP_LIMIT * 10 + (if s.get F.TIME_STATUS_GAP_ALLOW = 1 then s.tm.gapLast / 100 else 0)

/-- |e| is within the limit. -/
def State.within (s : State) (e : Int) : Bool := decide (iabs e ≤ s.jumpLimit)

/-- SLEWING and FREQ_ADJ: the estimate with the rate offset of a slew, in 0.001 ppb (R84). -/
def State.setSlew (s : State) (e : Int) (rate : Nat) : State :=
  let sign : Int := if e < 0 then -1 else 1
  let s : State := { s with tm := { s.tm with slewE := e, slewRate := rate, slewAt := s.now } }
  (s.set F.FREQ_ADJ (satInt (s.tm.freq + sign * rate) 32)).set F.TIME_STATUS_SLEWING (b2n (decide (rate ≠ 0)))

/-- The slew ends: the rate offset returns to zero (R84). -/
def State.endSlew (s : State) : State :=
  let s : State := { s with tm := { s.tm with slewE := 0, slewRate := 0 } }
  (s.set F.FREQ_ADJ (satInt s.tm.freq 32)).set F.TIME_STATUS_SLEWING 0

/-- The offset of a slew by e: min(SLEW_LIMIT, |e| per second), in 0.001 ppb (R84). -/
def State.slewOf (s : State) (e : Int) : Nat := min (s.get F.SLEW_LIMIT * 1000) (iabs e * 100)

/-- A source is selected (R85). -/
def State.selectSrc (s : State) (src : Nat) : State :=
  let s := if s.get F.TIME_STATUS_SRC ≠ src then s.irq pTIME I.TIME_SRC_CHG else s
  let s : State := { s with tm := { s.tm with freeRun := false } }
  (s.set F.TIME_STATUS_SRC src).set F.TIME_STATUS_STATE tLocked

/-- A measurement is accepted: the frequency estimate is updated (to a value that the spec does not state), GAP_ALLOW
clears, and the slew replaces any in progress (R84, R89). -/
def State.acceptE (s : State) (e : Int) (rate : Nat) : State :=
  let (v, s) := s.free
  let s : State := { s with tm := { s.tm with freq := sext v 32, gapU := 0 } }
  (s.set F.TIME_STATUS_GAP_ALLOW 0).setSlew e rate

/-- A measured e is refused (R88). -/
def State.refuseE (s : State) : State := s.inc C.TIME_JUMP_REFUSED

/-- The sources in order of priority. -/
def State.prioOrder (s : State) : List Nat := [s.get F.TIME_CFG_PRIO0, s.get F.TIME_CFG_PRIO1, s.get F.TIME_CFG_PRIO2]

/-- Place of a source in the order. -/
def State.prioOf (s : State) (src : Nat) : Nat := (s.prioOrder.findIdx? (· = src)).getD 3

/-- A source qualified. -/
def State.qualified (s : State) (src : Nat) : Bool := nth false s.tm.qual src

/-- The superframes after a step by Δ (R91): the present one is told in the new time, and the next begins at the first
multiple of P in the new time at or after its end. -/
def State.stepFrames (s : State) (d : Int) : State :=
  let a := s.air
  let stop := if s.noPortOn then s.fleetNs else shiftNs d a.nextB
  let next := (stop + s.period - 1) / s.period * s.period
  let cur := if a.curB = 0 then 0 else if a.curB = a.nextB then next else shiftNs d a.curB
  { s with air := { a with curB := cur, nextB := next } }

/-- A member's epochs after a step by `d` ns. -/
def RtkMem.stepped (d : Int) (x : RtkMem) : RtkMem :=
  { x with solvedE := if x.solvedAt.isSome then shiftNs d x.solvedE else x.solvedE, locks := x.locks.map fun l => (l.1, l.2.1, l.2.2.1, shiftNs d l.2.2.2) }

/-- What the solver holds in fleet time after a step by `d` ns to `now`. The last accepted epochs stand (R115). -/
def RtkSt.stepped (d : Int) (now : Nat) (x : RtkSt) : RtkSt :=
  let sec := fun (t : Nat) => ((t : Int) + d / 1000000000).toNat
  { x with second := now / 1000000000, corrE := now, easySince := x.easySince.map sec, undoneAt := x.undoneAt.map sec
           mems := x.mems.map fun e => (e.1, e.2.stepped d), baseHits := x.baseHits.map fun h => (shiftNs d h.1, h.2)
           cells := x.cells.map fun w =>
             { w with me := { w.me with ready := w.me.ready.map (shiftNs d) }, mem := w.mem.stepped d, shift := w.shift + d } }

/-- The moments of fleet time that the blocks hold to measure elapsed time move with a step by Δ ns, and what is due at a
multiple of fleet time is due at the next one. -/
def State.stepMarks (s : State) (d : Int) : State :=
  let port := fun (x : PortSt) =>
    { x with heldAt := x.heldAt.map (shiftNs d), stopAt := x.stopAt.map (shiftNs d), svcAt := shiftNs d x.svcAt,
             healthAt := (s.fleetNs / 100000000 + 1) * 100000000 }
  let burst := fun (b : Burst) => 
    let f := fun (x : Nat) => (shiftNs d (x * 125000) + 124999) / 125000
    { b with at_ := f b.at_, s0 := b.s0.map f, first := b.first.map f }
  { s with
    clk := { s.clk with armAt := shiftNs d s.clk.armAt },
    air := { s.air with ports := s.air.ports.map port },
    hg := { s.hg with bursts := s.hg.bursts.map (Option.map burst) },
    rt := { s.rt with seen := s.rt.seen.map fun x => (x.1, x.2.map fun y => (y.1, y.2.1, shiftNs d y.2.2)) },
    rtk := s.rtk.stepped d s.fleetNs,
    canal := { s.canal with timeSent := s.fleetNs / 62500000 },
    met := { s.met with lastSec := s.fleetSec } }

/-- Fleet time moves by Δ in one update, in 0.1 ns; the step is recorded and counted (R86, R91, R92). -/
def State.stepTime (s : State) (d01 : Int) (epoch : Nat) : State :=
  let old := s.fleetSec
  let ft : Int := s.ft + d01 * 2 ^ 32 / 10
  let s : State := { s with ft := ft.toNat }
  let s := (s.set F.TIME_STATUS_EPOCH epoch).inc C.TIME_STEPS
  let s : State := { s with gn := { s.gn with stepped := true, lastStrobe := s.fleetNs - 1 },
                            sup := { s.sup with rtcAhead := 0 }, tm := { s.tm with ppsHold := s.now + ms 500, ppsSec := s.fleetSec } }
  ((s.stepFrames (d01 / 10)).stepMarks (d01 / 10)).sysEvent 10 pTIME epoch (old % 2 ^ 32) (s.fleetSec % 2 ^ 32)

/-- The first step, from UNSET (R85, R86). -/
def State.firstStep (s : State) (src : Nat) (e : Int) : State :=
  let s := s.stepTime e (if src = 2 then s.tm.epochC else 1)
  ((s.set F.TIME_STATUS_STEPPED 1).selectSrc src).acceptE 0 0 |>.recompute

/-- HOLDOVER begins: OSC_TUNE is frozen and the model of R96 starts from u (R85). -/
def State.toHoldover (s : State) : State :=
  let s : State := { s with tm := { s.tm with u0 := s.tm.u, lossAt := s.now } }
  let s := s.endSlew
  let s := if s.get F.TIME_STATUS_SRC ≠ 3 then s.irq pTIME I.TIME_SRC_CHG else s
  ((s.set F.TIME_STATUS_SRC 3).set F.TIME_STATUS_STATE tHoldover).recompute

/-- The selected source is lost: another qualified one within the limit is taken, or HOLDOVER begins (R85). -/
def State.loseSource (s : State) : State :=
  match s.prioOrder.find? fun x => s.qualified x && s.within (nth 0 s.tm.lastE x) with
  | some x => (s.selectSrc x).acceptE (nth 0 s.tm.lastE x) (s.slewOf (nth 0 s.tm.lastE x))
  | none => s.toHoldover

/-- A qualified source has been measured (R83, R85, R88). One of higher priority than the selected one is checked once a second. -/
def State.takeMeasure (s : State) (src : Nat) (e : Int) : State :=
  let st := s.get F.TIME_STATUS_STATE
  let sel := s.get F.TIME_STATUS_SRC
  if st = tUnset then s.firstStep src e
  else
    let s := if s.tm.u < iabs e * 100 then s.notice pTIME I.TIME_MODEL_EXCEEDED else s
    if st = tLocked then
      if src = sel then
        if s.within e then s.acceptE e (s.slewOf e)
        else
          let s := (s.refuseE).notice pTIME I.TIME_JUMP_REFUSED
          let s : State := { s with tm := { s.tm with u0 := s.tm.u, lossAt := s.now, noneSince := none } }
          ((s.endSlew).set F.TIME_STATUS_SRC 3).set F.TIME_STATUS_STATE tRefused
      else if s.prioOf src < s.prioOf sel then
        let (first, s) := s.firstInSecond (8 + src)
        if !first then s
        else if s.within e then (s.selectSrc src).acceptE e (s.slewOf e)
        else ((s.refuseE).irq pTIME I.TIME_JUMP_REFUSED).sysEvent 13 pTIME src (satInt (e / 10) 32) 0
      else s
    else if s.within e then ((s.selectSrc src).acceptE e (s.slewOf e)).recompute
    else if st = tHoldover then
      let s : State := { s with tm := { s.tm with noneSince := none } }
      ((s.refuseE).notice pTIME I.TIME_JUMP_REFUSED).set F.TIME_STATUS_STATE tRefused
    else (s.refuseE).irq pTIME I.TIME_JUMP_REFUSED

/-- The DAC is steered in AUTO while LOCKED on REFCLK, once a second (R99): towards a mean FREQ_ADJ, the frequency estimate without its
slews, of zero with a time constant of 1,000 s, at most 1 ppb a second; TUNE_GAIN 0 holds it. What is less than a step of the DAC is
carried on, in 10^-6 ppb. -/
def State.steerDac (s : State) : State :=
  let gain := sext (s.get F.TUNE_GAIN) 32
  if s.get F.OSC_TUNE_MODE ≠ 1 ∨ s.get F.TIME_STATUS_STATE ≠ tLocked ∨ s.get F.ROOT_STATUS_ON_AUX = 1 ∨ gain = 0 ∨ s.fleetSec ≤ s.tm.dacSec then s
  else
    let lim : Int := max (-1000000) (min 1000000 s.tm.freq)
    let acc := s.tm.dacAcc + lim
    let v : Int := s.get F.OSC_TUNE_VALUE + acc / (1000 * gain)
    let s : State := { s with tm := { s.tm with dacAcc := acc % (1000 * gain), dacSec := s.fleetSec } }
    s.set F.OSC_TUNE_VALUE (if v < 0 then 0 else min v.toNat 0xFFFF)

/-- How many good intervals in a row qualify a source (R82). -/
def needGood (src : Nat) : Nat := if src = 0 then 10 else 16

/-- A good interval of a source. -/
def State.goodInterval (s : State) (src : Nat) (e : Int) (u : Nat) : State :=
  let t := s.tm
  let n := min (nth 0 t.good src + 1) 16
  let q := nth false t.qual src || decide (needGood src ≤ n)
  { s with tm := { t with good := setNth t.good src n, miss := setNth t.miss src 0, qual := setNth t.qual src q,
                          lastE := setNth t.lastE src e, lastU := setNth t.lastU src u,
                          noneSince := if q then none else t.noneSince } }

/-- A source loses its qualification. -/
def State.dropSource (s : State) (src : Nat) : State :=
  let t := s.tm
  let was := nth false t.qual src
  let qual := setNth t.qual src false
  let s : State := { s with tm := { t with good := setNth t.good src 0, miss := setNth t.miss src 0, qual := qual,
                                           noneSince := if qual.any (fun b => b) then none else
                                             (match t.noneSince with | some x => some x | none => some s.now) } }
  if was ∧ s.get F.TIME_STATUS_STATE = tLocked ∧ s.get F.TIME_STATUS_SRC = src then s.loseSource else s

/-- A missed interval: it breaks the run that qualifies, and the third in a row loses the source (R82). -/
def State.missInterval (s : State) (src : Nat) : State :=
  let t := s.tm
  let m := nth 0 t.miss src + 1
  if 3 ≤ m then s.dropSource src
  else { s with tm := { t with miss := setNth t.miss src m, good := if nth false t.qual src then t.good else setNth t.good src 0 } }

/-- A good measurement of a source is taken in. -/
def State.measured (s : State) (src : Nat) (e : Int) (u : Nat) : State :=
  let s := s.set F.PHASE_ERR (satInt (e / 10) 32)
  let s := s.goodInterval src e u
  if s.qualified src then (s.takeMeasure src e).steerDac else s

/-- GNSS availability of the last whole-second base epoch: e from its CLK_RESID (R82). -/
def State.gnssE (s : State) : Option (Nat × Option Int) :=
  match (s.gn.ring.filter fun e => e.timeNs = 0).getLast? with
  | none => none
  | some e =>
    let ok := decide (e.clkResid ≠ 0x80000000) && !bit e.hflags 6 && decide (s.get F.CONSIST_STATUS_SPOOF = 0)
    some (e.seq, if ok then some (-(sext e.clkResid 32)) else none)

/-- A source interval of GNSS (0), PTP (1) or CANAL (2). GNSS is taken from the newest whole-second epoch, CANAL from the
TIME message received; a PTP interval brings its offset, or none when it was missed, whether the port is in SLAVE, and the
grandmaster's clockClass, of which 6 or 7 qualifies and one above 7 loses. -/
def execTimeSourceMeasure (src : Nat) (ptp : Option Int) (slave : Bool) (cls : Nat) (s : State) : Res :=
  if 3 ≤ src ∨ ¬ s.isOn .time then .next s
  else if !bit (s.get F.TIME_CFG_SRC_EN) src then .next (s.dropSource src)
  else if src = 0 then
    match s.gnssE with
    | none => .next s
    | some (q, r) =>
      if s.tm.gnssSeq = some q then .next s
      else
        let s : State := { s with tm := { s.tm with gnssSeq := some q } }
        match r with
        | some e => .next (s.measured 0 e 20)
        | none => .next (s.dropSource 0)
  else if src = 1 then
    if !slave ∨ 7 < cls then .next (s.dropSource 1)
    else if cls < 6 ∧ !s.qualified 1 then .next { s with tm := { s.tm with good := setNth s.tm.good 1 0 } }
    else
      let s : State := { s with tm := { s.tm with gmClass := cls } }
      match ptp with
      | some e => .next (s.measured 1 e (s.get F.PTP_UNCERT))
      | none => .next (s.missInterval 1)
  else if s.isHead then .next (s.dropSource 2)
  else match s.tm.canalNew with
    | some (e, u, epoch, _) =>
      let s : State := { s with tm := { s.tm with canalNew := none, epochC := epoch } }
      .next (s.measured 2 e u)
    | none => .next (s.missInterval 2)

/-- Time in ps that a slew takes. -/
def TimeSt.slewTime (t : TimeSt) : Nat := if t.slewRate = 0 then 0 else iabs t.slewE * 100000000000000 / t.slewRate

/-- The correction applied equals the measured e (R84). -/
def execSlewComplete (s : State) : Res :=
  if s.get F.TIME_STATUS_SLEWING = 0 ∨ s.now < s.tm.slewAt + s.tm.slewTime then .next s else .next s.endSlew

/-- No source has been qualified for 10 s in REFUSED (R85). -/
def execRefusedTimeout (s : State) : Res :=
  match s.tm.noneSince with
  | some t => if s.get F.TIME_STATUS_STATE = tRefused ∧ t + sec 10 ≤ s.now then .next (s.set F.TIME_STATUS_STATE tHoldover) else .next s
  | none => .next s

/-- 10 s after a gap GAP_ALLOW clears (R89). -/
def execGapAllowExpiry (s : State) : Res :=
  if s.get F.TIME_STATUS_GAP_ALLOW = 1 ∧ s.tm.gapAt + sec 10 ≤ s.now then .next (s.set F.TIME_STATUS_GAP_ALLOW 0) else .next s

/-- A clock gap adds to u and sets GAP_ALLOW (R89); `add` in ps. -/
def State.timeGap (s : State) (add : Nat) : State :=
  let t := s.tm
  { s with tm := { t with gapU := t.gapU + add, gapLast := add, gapAt := s.now, u := t.u + add, u0 := t.u0 + add } }.set
    F.TIME_STATUS_GAP_ALLOW 1

/-! ### Quality (R94 to R98) -/

/-- u in ps at this moment. -/
def State.uNow (s : State) : Nat :=
  let st := s.get F.TIME_STATUS_STATE
  let cap := 4294967295000
  if st = tUnset then cap
  else if st = tLocked then
    let src := s.get F.TIME_STATUS_SRC
    let lock := nth 0 s.tm.lastU src + 50 * s.get F.ROOT_STATUS_ON_AUX
    let total := s.tm.slewTime
    let left := if s.get F.TIME_STATUS_SLEWING = 0 ∨ total = 0 then 0
      else iabs s.tm.slewE * 100 * (total - min total (s.now - s.tm.slewAt)) / total
    min cap (lock * 1000 + left + s.tm.gapU)
  else
    let t := (s.now - s.tm.lossAt) / 1000000000
    let f := if s.get F.ROOT_STATUS_ON_AUX = 1 then s.get F.HO_FREQ_AUX else s.get F.HO_FREQ
    min cap (s.tm.u0 + f * t / 1000 + s.get F.HO_AGING * t * t / 7200000000)

/-- The instantaneous TQ of u in ps (R94). -/
def tqOf (u : Nat) : Nat :=
  let bounds := [25, 50, 100, 250, 500, 1000, 2500, 5000, 10000, 25000, 50000, 100000, 1000000, 10000000]
  (bounds.findIdx? fun b => u ≤ b * 1000).getD 14

/-- Every 10 ms u is evaluated; the reported TQ is the worst of the last 10 s, each evaluation standing until the next
(R94, R95); the level follows (R97). -/
def execTqEvaluate (s : State) : Res :=
  if ¬ s.isOn .time ∨ s.now < s.tm.evalAt + ms 10 then .next s
  else
    let u := s.uNow
    let tq := if s.get F.TIME_STATUS_STATE = tUnset then 15 else tqOf u
    let hist := (s.tm.hist.filter fun x => decide (s.now < x.1 + sec 10 + ms 10)) ++ [(s.now, tq)]
    let rep := (hist.map (·.2)).foldl max tq
    let old := s.get F.TIME_STATUS_TQ
    let s : State := { s with tm := { s.tm with u := u, hist := hist, evalAt := s.now } }
    let s := (s.set F.UNCERT (min 0xFFFFFFFF (u / 1000))).set F.TIME_STATUS_DEGRADED (s.get F.ROOT_STATUS_ON_AUX)
    let s := s.set F.TIME_STATUS_TQ rep
    .next (if rep = old then s else (s.irq pTIME I.TIME_TQ_CHG).recompute)

/-! ### Authorised operations (R90) -/

/-- Every registered member is in HOLD or STOP: held by the registry, or stopped by the fleet's stop state. -/
def State.allHeld (s : State) : Bool :=
  decide (s.get F.HG_STATE_CLASS ≠ 0) || s.members.all fun i => decide (s.mget i RG.rstate = 2)

/-- Why a STEP_CTRL token is refused: 3 NOT_HELD, 4 STATE, 5 RANGE; 0 when it is not. -/
def State.stepCheck (s : State) (op : Nat) (ofs : Option Int) : Nat :=
  let st := s.get F.TIME_STATUS_STATE
  if s.get F.TIME_STATUS_STEP_PEND = 1 ∨ op = 0 ∨ 5 ≤ op then 4
  else if op = 1 then (if st ≠ tRefused then 4 else if !s.allHeld then 3 else 0)
  else if op = 2 then
    if ¬ (st = tHoldover ∨ st = tRefused) then 4
    else match ofs with
      | none => 5
      | some d => if iabs d ≤ 10 ^ 15 ∧ 0 ≤ (s.fleetNs : Int) + d then (if !s.allHeld then 3 else 0) else 5
  else if op = 3 then (if st ≠ tUnset then 4 else 0)
  else (if st ≠ tRefused then 4 else 0)

/-- The best qualified source. -/
def State.bestSource (s : State) : Option Nat := s.prioOrder.find? s.qualified

/-- A step is accepted and waits for the end of the superframe (R90, R91). -/
def State.stepAccept (s : State) (op : Nat) (d01 : Int) (epoch : Option Nat) : State :=
  let s : State := { s with tm := { s.tm with stepBy := some d01, stepEpoch := epoch } }
  ((s.set F.TIME_STATUS_STEP_PEND 1).set F.STEP_CTRL_RESULT 1).set F.STEP_CTRL_OP op

/-- A STEP_CTRL operation from a token (R90): refused with its RESULT, or carried out. -/
def State.stepOp (s : State) (op : Nat) (ofs : Option Int) : State :=
  let c := s.stepCheck op ofs
  if c ≠ 0 then s.set F.STEP_CTRL_RESULT c
  else if op = 1 then
    match s.bestSource with
    | some x => ({ s with tm := { s.tm with stepSrc := some x } } : State).stepAccept 1 (nth 0 s.tm.lastE x) (if x = 2 then some s.tm.epochC else none)
    | none => s.set F.STEP_CTRL_RESULT 4
  else if op = 2 then
    let d := ofs.getD 0
    (s.set64 F.STEP_OFS_LO F.STEP_OFS_HI (trunc d 64)).stepAccept 2 (d * 10) none
  else if op = 3 then
    let s := (s.set F.TIME_STATUS_STEPPED 1).set F.TIME_STATUS_EPOCH 1
    let s : State := { s with tm := { s.tm with u := 20000000000, u0 := 20000000000, lossAt := s.now, freeRun := true } }
    ((s.set F.TIME_STATUS_STATE tHoldover).set F.STEP_CTRL_RESULT 2).recompute
  else
    match s.bestSource with
    | some x =>
      let e := nth 0 s.tm.lastE x
      ((s.selectSrc x).acceptE e (s.get F.SLEW_LIMIT * 1000)).set F.STEP_CTRL_RESULT 2
    | none => s.set F.STEP_CTRL_RESULT 4

/-- STEP_TO_SOURCE. -/
def execStepToSource (s : State) : Res := .next (s.stepOp 1 none)
/-- STEP_BY_OFFSET; none when the token does not name the offset. -/
def execStepByOffset (ofs : Option Int) (s : State) : Res := .next (s.stepOp 2 ofs)
/-- ACCEPT_FREE. -/
def execAcceptFree (s : State) : Res := .next (s.stepOp 3 none)
/-- SLEW_ACCEPT. -/
def execSlewAccept (s : State) : Res := .next (s.stepOp 4 none)

/-! ### PPS_OUT (R101) -/

/-- PPS_OUT at its level. -/
def State.ppsPin (s : State) (active : Bool) : State :=
  ({ s with tm := { s.tm with ppsAt := if active then some s.now else none } }).emit (.pin "PPS_OUT" (active == decide (s.get F.PPS_CFG_POL = 0)))

/-- An edge of PPS_OUT (R101): the active edge COMP ns before a whole fleet second, at most 25 µs late after a clock gap, in the states that
run it, none for 500 ms after a step; and WIDTH ms after it the pulse's end. -/
def execPpsEdge (s : State) : Res :=
  let t : Int := (s.fleetNs : Int) + sext (s.get F.PPS_CFG_COMP) 16
  let k := (t / 1000000000).toNat
  let runs := decide (s.get F.TIME_STATUS_STATE ≠ tUnset ∨ s.get F.PPS_CFG_UNSET_EN = 1)
  let ended := match s.tm.ppsAt with
    | some a => decide (a + ms (s.get F.PPS_CFG_WIDTH) ≤ s.now) || decide (s.get F.PPS_CFG_EN = 0) || !runs
    | none => false
  if ended then .next (s.ppsPin false)
  else if s.get F.PPS_CFG_EN = 0 ∨ !runs ∨ k ≤ s.tm.ppsSec ∨ s.now < s.tm.ppsHold ∨ ¬ s.isOn .time ∨ s.get F.ROOT_STATUS_ROOT_LOCK = 0 ∨
     25000 < t % 1000000000 then .next s
  else .next (State.ppsPin { s with tm := { s.tm with ppsSec := k } } true)

/-! ### PTP (R102 to R109) -/

/-- Built-in latency of a port's mode, 0.1 ns: ingress and egress. -/
def State.ethLatency (s : State) (port : Nat) : Nat × Nat :=
  if s.get F.ETH_CFG_MODE port = 0 then (416, 384) else (1040, 880)

/-- Fleet time in 0.1 ns. -/
def State.fleet01 (s : State) : Nat := s.ft * 10 / 2 ^ 32

/-- The bytes of a frame from DA to the end of the payload. -/
def EthFrame.bytes (f : EthFrame) : List Nat :=
  let be := fun (n x : Nat) => (toBytes n x).reverse
  be 6 f.da ++ be 6 f.sa ++ (match f.vlan with | some (i, p) => [0x81, 0x00] ++ be 2 (p * 8192 + i) | none => []) ++ be 2 f.etype ++ f.body

/-- A number in the bytes of a frame, most significant first. -/
def beAt (f : List Nat) (at_ n : Nat) : Nat := ofBytes ((f.drop at_).take n).reverse

/-- Where the EtherType stands, past one 802.1Q tag. -/
def typeAt (f : List Nat) : Nat := if beAt f 12 2 = 0x8100 then 16 else 12

/-- Where the UDP header begins in a frame over IPv4 or IPv6; none in any other. -/
def udpAt (f : List Nat) : Option Nat :=
  let t := typeAt f
  if beAt f t 2 = 0x0800 ∧ nth 0 f (t + 11) = 17 then some (t + 2 + nth 0 f (t + 2) % 16 * 4)
  else if beAt f t 2 = 0x86DD ∧ nth 0 f (t + 8) = 17 then some (t + 42)
  else none

/-- Where the PTP message begins in a frame from DA on (R102): IEEE 802.3, UDP over IPv4, UDP over IPv6, untagged or with one tag. -/
def ptpOffset (f : List Nat) : Nat := match udpAt f with
  | some u => u + 8
  | none => typeAt f + 2

/-- A frame of PTP, by EtherType 0x88F7 or by UDP destination port (R102). -/
def ptpFrame (f : List Nat) (port : Nat) : Bool := match udpAt f with
  | some u => decide (beAt f (u + 2) 2 = port)
  | none => decide (beAt f (typeAt f) 2 = 0x88F7)

/-- messageType of a PTP frame. -/
def ptpType (f : List Nat) : Nat := nth 0 f (ptpOffset f) % 16
/-- sequenceId of a PTP frame. -/
def ptpSeq (f : List Nat) : Nat := beAt f (ptpOffset f + 30) 2

/-- Bytes put into a frame. -/
def putAt (f : List Nat) (at_ : Nat) (b : List Nat) : List Nat := f.take at_ ++ b ++ f.drop (at_ + b.length)

/-- The one's complement sum of the 16-bit words of some bytes. -/
def sum16 : List Nat → Nat
  | a :: b :: r => (a * 256 + b + sum16 r) % 65535
  | [a] => a * 256 % 65535
  | [] => 0

/-- What one step does to a frame (R106): originTimestamp into Sync, the turnaround, 0.1 ns, into the correctionField of Pdelay_Resp; over
UDP/IPv4 the checksum is zero, over UDP/IPv6 the two bytes after the message keep the checksum valid. -/
def ptpOneStep (f : List Nat) (ns turn01 : Nat) : List Nat :=
  let m := ptpOffset f
  let be := fun (n x : Nat) => (toBytes n x).reverse
  let g := if ptpType f = 0 then putAt f (m + 34) (be 6 (ns / 1000000000) ++ be 4 (ns % 1000000000))
    else putAt f (m + 8) (be 8 ((beAt f (m + 8) 8 + turn01 * 65536 / 10) % 2 ^ 64))
  match udpAt f with
  | none => g
  | some u =>
    if beAt f (typeAt f) 2 = 0x0800 then putAt g (u + 6) [0, 0]
    else
      let e := m + beAt f (m + 2) 2
      let old := sum16 (f.drop m)
      let new := sum16 ((putAt g e [0, 0]).drop m)
      putAt g e (be 2 ((old + 65535 - new) % 65535))

/-- A PTP event message received at a fleet time in 0.1 ns (R102, R104): time-stamped, and with PTP_HOST sent on queue 24 with its
time-stamp (R365), waiting in the receive buffer where the queue is full (R353); otherwise passed to the supervisor with it.
The time of a Pdelay_Req is kept for the turnaround of its answer (R106). -/
def State.ptpRx (s : State) (port at01 : Nat) (f : EthFrame) : State :=
  let t : Int := (at01 : Int) - (s.ethLatency port).1 - sext (s.get F.ETH_CORR_INGRESS 0 port) 16
  let ns := t.toNat / 10
  let s : State := if ptpType f.bytes ≠ 2 then s
    else { s with tm := { s.tm with pdelayIn := (s.tm.pdelayIn.filter fun x => x.1 ≠ port) ++ [(port, ptpSeq f.bytes, t.toNat)] } }
  if s.get F.TIME_CFG_PTP_HOST = 1 then
    let b := toBytes 6 (ns / 1000000000) ++ toBytes 4 (ns % 1000000000) ++ [port, 0] ++ f.bytes
    if s.qRoom 24 b.length then s.qPush 24 b.length (.bytes 8 b)
    else
      let e := s.ethSt port
      (s.setEth port { e with buf := e.buf ++ [((f.vlan.map (·.2)).getD 0, at01, f)] }).xoff port
  else s.emit (.supFrame port (some ns) f)

/-- A PTP event message arrives; of a frame that is none this is not the command. -/
def execPtpEventRx (port : Nat) (f : EthFrame) (s : State) : Res :=
  if 2 ≤ port ∨ ¬ s.isOn .eth port ∨ !ptpFrame f.bytes 319 then .next s
  else
    let (s, ok) := s.ethTake port f
    .next (if ok then s.ptpRx port s.fleet01 f else s)

/-- A frame that is neither Flume nor a PTP event: PTP general messages go to the supervisor, or with PTP_HOST to the host on queue 24;
management messages are discarded and counted; ARP or neighbour discovery for the port's address with PTP over UDP goes to the
supervisor; every other is discarded and counted (R104, R363, R365). -/
def execEthOtherFrameRx (port : Nat) (f : EthFrame) (forSup : Bool) (s : State) : Res :=
  if 2 ≤ port ∨ ¬ s.isOn .eth port then .next s
  else
    let (s, ok) := s.ethTake port f
    let general := ptpFrame f.bytes 320
    .next (if !ok then s
      else if general ∧ ptpType f.bytes = 13 then s.inc C.ETH_RX_DISCARD port
      else if general ∧ s.get F.TIME_CFG_PTP_HOST = 1 then s.ptpRx port s.fleet01 f
      else if general || forSup then s.emit (.supFrame port none f)
      else s.inc C.ETH_RX_DISCARD port)

/-- clockClass and timeSource that a master announces, by STATE and source (R105). -/
def State.announced (s : State) : Nat × Nat :=
  let st := s.get F.TIME_STATUS_STATE
  let src := s.get F.TIME_STATUS_SRC
  if st = tUnset ∨ (s.tm.freeRun ∧ st ≠ tLocked) then (248, 0xA0)
  else if st = tLocked then (if src = 0 then (6, 0x20) else if src = 1 then (s.tm.gmClass, 0x40) else (7, 0x90))
  else if s.get F.TIME_STATUS_TQ ≤ 6 then (7, 0xA0)
  else (52, 0xA0)

/-- clockAccuracy of a time quality (R94). -/
def clockAccuracy (tq : Nat) : Nat :=
  nth 0xFE [0x20, 0x21, 0x21, 0x22, 0x23, 0x23, 0x24, 0x25, 0x25, 0x26, 0x27, 0x27, 0x29, 0x2B, 0xFE, 0xFE] tq

/-- An Announce goes out on a port (R105): offsetScaledLogVariance 0xFFFF, currentUtcOffset valid only while the source is GNSS. -/
def State.announceTx (s : State) (port tq : Nat) : State :=
  let a := s.announced
  s.emit (.announce port a.1 (clockAccuracy tq) 0xFFFF a.2 (decide (s.get F.TIME_STATUS_STATE = tLocked ∧ s.get F.TIME_STATUS_SRC = 0)))

/-- The time-stamp queue of a port. -/
def State.txts (s : State) (port : Nat) : List TxStamp := if port = 0 then s.tm.txts0 else s.tm.txts1

/-- The state with it replaced; TXTS_W0 to W3 and the interrupt bit follow (R109). -/
def State.setTxts (s : State) (port : Nat) (l : List TxStamp) : State :=
  let s : State := if port = 0 then { s with tm := { s.tm with txts0 := l } } else { s with tm := { s.tm with txts1 := l } }
  let h : TxStamp := (l.head?).getD ⟨0, 0⟩
  let s := (s.set F.TXTS_W0_ID h.id 0 port).set F.TXTS_W0_VALID (b2n (!l.isEmpty)) 0 port
  let s := (s.set F.TXTS_W0_DEPTH l.length 0 port).set F.TXTS_W1_TIME_NS (h.ns % 1000000000) 0 port
  let s := (s.set F.TXTS_W2_TIME_S_LO (h.ns / 1000000000 % 2 ^ 32) 0 port).set F.TXTS_W3_TIME_S_HI (h.ns / 1000000000 / 2 ^ 32) 0 port
  if l.isEmpty then s else s.irq pTIME (if port = 0 then I.TIME_TXTS0 else I.TIME_TXTS1)

/-- A PTP event message is sent (R105 to R108): with one step the egress path writes its time; a two-step Sync or
Pdelay_Resp, a Delay_Req and a Pdelay_Req make a queue entry, dropped and counted when the queue is full. -/
def State.ptpTx (s : State) (port msgType domain seqId : Nat) (oneStep : Bool) (given : List Nat := []) : State :=
  let t : Int := (s.fleet01 : Int) + (s.ethLatency port).2 + sext (s.get F.ETH_CORR_EGRESS 0 port) 16
  let ns := t.toNat / 10
  let one := oneStep && decide (msgType = 0 ∨ msgType = 3)
  let turn := match s.tm.pdelayIn.find? fun x => decide (x.1 = port ∧ x.2.1 = seqId) with
    | some x => t.toNat - x.2.2
    | none => 0
  let out := if one ∧ given ≠ [] then ptpOneStep given ns turn else given
  let s := (s.emit (.ptpFrame port msgType seqId (if one ∧ msgType = 0 then some ns else none) (if one ∧ msgType = 3 then some turn else none) out)).inc
    C.ETH_FRAMES_TX port
  if one ∨ 4 ≤ msgType then s
  else
    let l := s.txts port
    if 64 ≤ l.length then
      let c := if port = 0 then C.TIME_TXTS_DROP0 else C.TIME_TXTS_DROP1
      let s := s.inc c
      let (first, s) := s.firstInSecond (2 + port)
      if first then s.noticeCtr pTIME c else s
    else s.setTxts port (l ++ [⟨msgType % 16 * 4096 + domain % 16 * 256 + seqId % 256, ns⟩])

/-- A PTP message is sent on a port whose link is up; an Announce (messageType 11) carries what R105 says. -/
def execPtpEventTx (port msgType domain seqId : Nat) (oneStep : Bool) (s : State) : Res :=
  if 2 ≤ port ∨ ¬ s.isOn .eth port ∨ s.get F.ETH_STATUS_LINK port = 0 then .next s
  else if msgType = 11 then .next ((s.announceTx port (if s.get F.TIME_STATUS_STATE = tUnset then 15 else tqOf s.uNow)).inc C.ETH_FRAMES_TX port)
  else .next (s.ptpTx port msgType domain seqId oneStep)

/-- The owner of the time-stamp queues: the host with PTP_HOST = 1, else the supervisor (R109). -/
def State.txtsOwner (s : State) (src : Src) : Bool :=
  match src with
  | .host | .bar2 _ => decide (s.get F.TIME_CFG_PTP_HOST = 1)
  | .sup => decide (s.get F.TIME_CFG_PTP_HOST = 0)
  | .core _ | .jtag => false

/-- TXTS_W3 is read: the owner's read pops the entry, any other returns the same word (R109). -/
def execTxtsPop (src : Src) (port : Nat) (s : State) : Res :=
  if 2 ≤ port ∨ s.jtagBars src ⟨.time, 0⟩ false then .next s
  else
    let s := s.emit (.readData src (s.get F.TXTS_W3_TIME_S_HI 0 port))
    .next (if s.txtsOwner src then s.setTxts port ((s.txts port).drop 1) else s)

/-! ### Reading the counter (R81) -/

/-- The latch of a source for a register. -/
def latchKey (src : Src) (addr : Nat) : Nat := src.key * 2 ^ 32 + addr

/-- NOW_NS as it reads, with the seconds latched for the source. -/
def State.nowRead (s : State) (src : Src) : Nat × State :=
  let l := AMap.set (fun _ => 0) s.latch (latchKey src (F.NOW_S_LO.addr 0 0)) (BitVec.ofNat 32 (s.fleetSec % 2 ^ 32))
  let l := AMap.set (fun _ => 0) l (latchKey src (F.NOW_NS.addr 0 0)) 1
  let l := AMap.set (fun _ => 0) l (latchKey src (F.NOW_S_HI.addr 0 0)) (BitVec.ofNat 32 (s.fleetSec / 2 ^ 32 % 2 ^ 16))
  (s.fleetSubNs, { s with latch := l })

/-- The seconds that a source reads: those that its last read of NOW_NS latched, before one those of the RTC that the reset loaded (R80,
R81). -/
def State.nowSec (s : State) (src : Src) (hi : Bool) : Nat :=
  let w := fun (F : Fld) => (AMap.get (fun _ => (0 : Word)) s.latch (latchKey src (F.addr 0 0))).toNat
  if w F.NOW_NS = 0 then (if hi then s.tm.loadSec / 2 ^ 32 % 2 ^ 16 else s.tm.loadSec % 2 ^ 32)
  else w (if hi then F.NOW_S_HI else F.NOW_S_LO)

/-- NOW_NS is read. -/
def execNowNsRead (src : Src) (s : State) : Res :=
  if s.jtagBars src ⟨.time, 0⟩ false then .next s else
  let (v, s) := s.nowRead src
  .next (s.emit (.readData src v))

/-! ### TIME messages on the ring (R380) -/

/-- At each whole multiple of 62.5 ms of fleet time the head sends a TIME message out of both ports. -/
def execTimeMessageSend (s : State) : Res :=
  let k := s.fleetNs / 62500000
  if !s.isHead ∨ s.get F.TIME_STATUS_STATE = tUnset ∨ k ≤ s.canal.timeSent then .next s
  else
    let s : State := { s with canal := { s.canal with timeSent := k } }
    .next (s.canalBroadcast (.time s.fleetSec s.fleetSubNs 0 (s.get F.UNCERT) (s.get F.TIME_STATUS_EPOCH) (s.get F.TIME_STATUS_TQ)))

/-- A TIME message arrives on a port: without DELAY_VALID it is neither used nor forwarded; otherwise it is forwarded
with the incoming link's delay added to CORR, once for each message, and the copy with fewer hops, or of the east port on a tie,
gives the CANAL measurement. CORR and LINK_DELAY are in ns and 0.1 ns. -/
def execTimeMessageRx (port hops timeS timeNs corr uncert epoch tq mseq origin unit : Nat) (s : State) : Res :=
  if 2 ≤ port ∨ !s.canalUp port then .next s
  else if s.get F.CPORT_STATUS_DELAY_VALID port = 0 then .next (s.inc C.CANAL_NO_DELAY port)
  else
    let d := s.get F.LINK_DELAY port
    let corr' := corr + d / 10
    let (dup, s) := s.canalHeard origin unit 1 mseq
    let s := if dup then s.inc C.CANAL_DUP_DROP
      else if s.canalUp (1 - port) ∧ origin ≠ s.number then
        s.canalOut (1 - port) ⟨none, 0, origin, unit, mseq, hops + 1, decide (port = 0), .time timeS timeNs corr' uncert epoch tq⟩
      else s
    let e : Int := ((timeS * 1000000000 + timeNs + corr) * 10 + d : Nat) - (s.fleet01 : Int)
    let better := match s.tm.canalNew with | some (_, _, _, h) => decide (hops < h ∨ (hops = h ∧ port = 0)) | none => true
    .next (if better then { s with tm := { s.tm with canalNew := some (e, uncert + 10 * hops, epoch, hops) } } else s)

end Sys2Proof.Machine
end

