-- ==== Sys2Proof/Machine/Clock.lean ====
section
/-! DEFINITION. The root clock: loss and return of its inputs and the clock gap (R16 to R20), the scrub of DRAM (R25), and
the supervisor core's restart (R35). -/
namespace Sys2Proof.Machine
open Sys2Proof

/-! ### The clock monitor (R16, R20) -/

/-- REFCLK counts good in a window. -/
def refGood (edges : Nat) : Bool := decide (10 ≤ edges ∧ edges ≤ 30)
/-- AUXCLK counts good in a window. -/
def auxGood (edges : Nat) : Bool := decide (156 ≤ edges ∧ edges ≤ 469)

/-- The ROOT PLL runs on AUXCLK, or changes to it. -/
def State.onAux (s : State) : Bool := if s.clk.gapAt.isSome then s.clk.toAux else decide (s.get F.ROOT_STATUS_ON_AUX = 1)

/-- Every ROOT-derived clock is gated: a PPDU being sent is cut short, the strobes fall (R16). -/
def State.gateClocks (s : State) (toAux lost : Bool) : State :=
  let at_ := match s.clk.gapAt with | some t => t | none => s.now
  let s : State := { s with clk := { s.clk with gapAt := some at_, toAux := toAux, lost := lost } }
  let s := (s.set F.ROOT_STATUS_ROOT_LOCK 0).set F.ROOT_STATUS_DRAM_LOCK 0
  s.each (List.range 4) fun s p => s.setPort p { s.port p with txEnd := min (s.port p).txEnd s.now }

/-- SWITCH_COUNT steps. -/
def State.switchCount (s : State) : State :=
  s.set F.ROOT_STATUS_SWITCH_COUNT (satAdd (s.get F.ROOT_STATUS_SWITCH_COUNT) 1 255)

/-- The PLL inputs are switched. -/
def State.switchRoot (s : State) (toAux : Bool) : State := (s.gateClocks toAux false).switchCount

/-- Neither input counts good (R20): the clocks stay gated, the Headgate raises SERVICE at STOP and drives its outputs low,
KEEP records ROOT_LOST. -/
def State.rootLost (s : State) : State :=
  let s := s.gateClocks false true
  let s := (s.raiseCause rsSERVICE 2).outsLow
  s.sysEvent 17 ⟨.keep, 0⟩ 0 0 0

/-- An armed return ends. -/
def State.disarmReturn (s : State) (fail : Bool) : State :=
  if s.get F.ROOT_SEL_RETURN_REQ = 0 then s
  else
    let s := s.set F.ROOT_SEL_RETURN_REQ 0
    if fail then s.set F.ROOT_SEL_RETURN_FAIL 1 else s

/-- A DRAM block that has lost its contents enters FAULT at the release (R18, R20). -/
def State.dramGap (s : State) (gap : Nat) : State :=
  let p : Page := ⟨.dram, 0⟩
  if us 25 < gap ∧ (s.st p = stOn ∨ s.st p = stStarting) then s.enterFault p else s

/-- The clocks run again: fleet time advances by the RC cycles counted, and the root shows its input (R16, R20). -/
def State.ungate (s : State) (rcCycles : Nat) : State :=
  let s : State := { s with ft := s.ft + rcCycles * 125 * 2 ^ 31, clk := { s.clk with gapAt := none, lost := false } }
  let s := ((s.set F.ROOT_STATUS_ROOT_LOCK 1).set F.ROOT_STATUS_DRAM_LOCK 1).set F.ROOT_STATUS_ON_AUX (b2n s.clk.toAux)
  (s.set F.TIME_STATUS_DEGRADED (b2n s.clk.toAux)).outsCheck

/-- The clocks are released together: fleet time advances by the gap, counted in RC cycles of 62.5 ns; u, the channels and
the arbiters take the gap (R16, R20, R65, R89, R338). -/
def State.releaseClocks (s : State) (rcCycles : Nat) : State :=
  match s.clk.gapAt with
  | none => s
  | some t =>
    let add := 1250000 + (if s.clk.lost then rcCycles * 62500 / 20 else 0)
    let gap := s.now - t
    (((((s.ungate rcCycles).timeGap add).gnssGap s.fleetNs).arbGap gap).dramGap gap).recompute

/-- A window in which REFCLK does not count good (R16, R19, R20). -/
def execRefclkLost (refEdges auxEdges : Nat) (s : State) : Res :=
  if refGood refEdges then .next s
  else
    let s : State := { s with clk := { s.clk with refBadAt := s.now } }
    let s := s.set F.ROOT_STATUS_REF_OK 0
    if s.clk.lost then .next s
    else if s.onAux then .next (s.disarmReturn true)
    else if auxGood auxEdges then .next (s.switchRoot true)
    else .next s.rootLost

/-- REFCLK has counted good for 10 s without a break (R19). -/
def execRefGood10s (s : State) : Res :=
  if s.clk.refBadAt + sec 10 ≤ s.now ∧ ¬ s.clk.lost then .next (s.set F.ROOT_STATUS_REF_OK 1) else .next s

/-! ### The return to REFCLK (R19) -/

/-- The slot of the present superframe that fleet time stands in. -/
def State.slotIdx (s : State) : Nat := (s.fleetNs - s.air.curB) / 125000

/-- A slot that begins at or after the arming of the return, and within one superframe of it (R19). -/
def State.returnSlot (s : State) : Bool :=
  let at_ := s.air.curB + s.slotIdx * 125000
  decide (s.clk.armAt ≤ at_ ∧ at_ < s.clk.armAt + s.period)

/-- The present slot is of kind IDLE on every port that is ON. -/
def State.commonIdle (s : State) : Bool :=
  let n := s.slotIdx
  ((List.range 4).filter fun p => s.isOn .airport p).all fun p =>
    (s.activeSlots p).any fun x => decide (slKind x.2 = 6 ∧ slStart x.2 ≤ n ∧ n < slStart x.2 + slLen x.2)

/-- The return is made. -/
def State.rootReturn (s : State) : State := (s.disarmReturn false).switchRoot false

/-- RETURN_REQ := 1: arms the return with REF_OK and ON_AUX; with no air port ON it is made at once. -/
def execReturnReq (s : State) : Res :=
  if s.get F.ROOT_STATUS_REF_OK = 0 ∨ s.get F.ROOT_STATUS_ON_AUX = 0 ∨ s.get F.ROOT_SEL_RETURN_REQ = 1 then .next s
  else
    let s : State := { s with clk := { s.clk with armAt := s.fleetNs } }
    let s := s.set F.ROOT_SEL_RETURN_REQ 1
    .next (if s.noPortOn then s.rootReturn else s)

/-- The start of the next slot, after the arming, that is IDLE at the same number on every port that is ON. -/
def execRootReturn (s : State) : Res :=
  if s.get F.ROOT_SEL_RETURN_REQ = 1 ∧ s.clk.gapAt.isNone ∧ (s.noPortOn ∨ (s.returnSlot ∧ s.commonIdle)) then .next s.rootReturn else .next s

/-- No such slot within one superframe. -/
def execReturnFail (s : State) : Res :=
  if s.get F.ROOT_SEL_RETURN_REQ = 1 ∧ s.clk.armAt + s.period ≤ s.fleetNs then .next (s.disarmReturn true) else .next s

/-! ### AUXCLK (R20) -/

/-- The ports that AUXCLK clocks go down. -/
def State.auxPortsDown (s : State) : State :=
  let s := s.each [0, 1] fun s p => if s.get F.CPORT_STATUS_STATE p = 0 then s else s.canalLeave p 0
  s.each [0, 1] fun s p => s.ethLink p false false

/-- A window in which AUXCLK does not count good (R20). An armed return is dropped when the root switches to REFCLK by itself: RETURN_REQ
reads 0 and RETURN_FAIL is not set, which the spec leaves open (DESIGN CHOICE, log entry 15). -/
def execAuxclkLost (refEdges auxEdges : Nat) (s : State) : Res :=
  if auxGood auxEdges then .next s
  else
    let s := (s.set F.ROOT_STATUS_AUX_OK 0).auxPortsDown
    if s.clk.lost ∨ !s.onAux then .next s
    else if refGood refEdges then
      let s : State := { s with clk := { s.clk with refBadAt := s.now } }
      .next (((s.set F.ROOT_STATUS_REF_OK 0).disarmReturn false).switchRoot false)
    else .next ((s.disarmReturn true).rootLost)

/-- AUXCLK counts good again: AUX_OK returns, and the Canal ports train (R20, R369). -/
def execAuxclkReturn (auxEdges : Nat) (s : State) : Res :=
  if !auxGood auxEdges ∨ s.clk.lost then .next s
  else
    let s := s.set F.ROOT_STATUS_AUX_OK 1
    .next (s.each [0, 1] fun s p => if s.isOn .canal p ∧ s.get F.CPORT_STATUS_STATE p = 0 then s.canalTrain p else s)

/-! ### The scrub of DRAM (R25) -/

/-- A pass over the usable space: words corrected, and the offsets of those that cannot be. -/
def execDramScrubPass (corrected : Nat) (bad : List Nat) (s : State) : Res :=
  let p : Page := ⟨.dram, 0⟩
  if ¬ s.isOn .dram ∨ s.get F.DRAM_CFG_SCRUB_EN = 0 ∨ s.now < s.clk.scrubAt + sec 86400 then .next s
  else
    let s : State := { s with clk := { s.clk with scrubAt := s.now } }
    let s := s.inc C.DRAM_SCRUB_PASSES
    let s := s.incP p C.CORR_COUNT corrected
    let s : State := { s with clk := { s.clk with lostWords := s.clk.lostWords ++ ((bad.map (· / 8)).filter fun w => !(s.clk.lostWords.contains w)).eraseDups } }
    .next (s.each bad fun s a => (s.inc C.DRAM_UNCORR_READS).blockError p 0xFF 2 0x02 (s.partAt a) a 0)

/-! ### The supervisor core (R35) -/

/-- The core is taken down to be loaded, or held. -/
def State.supStop (s : State) (loading : Bool) : State :=
  let s : State := { s with clk := { s.clk with supLoading := loading } }
  (s.set F.SUP_STATUS_RUNNING 0).recompute

/-- SUP_CTRL.RESTART by a token. While HOLD = 1 it does nothing, which the spec leaves open (DESIGN CHOICE, log entry 16). -/
def State.supRestart (s : State) : State := if s.clk.supDead ∨ s.get F.SUP_CTRL_HOLD = 1 then s else s.supStop true

/-- RESTART. -/
def execSupRestart (s : State) : Res := .next s.supRestart

/-- SUP_CTRL.HOLD by a token. -/
def State.supHold (s : State) (hold : Bool) : State :=
  if hold then ((s.set F.SUP_CTRL_HOLD 1).set F.SUP_STATUS_HELD 1).supStop false
  else if s.get F.SUP_CTRL_HOLD = 0 then s
  else ((s.set F.SUP_CTRL_HOLD 0).set F.SUP_STATUS_HELD 0).supRestart

/-- HOLD. -/
def execSupHold (hold : Bool) (s : State) : Res := .next (s.supHold hold)

/-- The core is released at ENTRY: RESTARTS and the SUPERVISOR generation step. -/
def State.supReleased (s : State) : State :=
  let s := (s.set F.SUP_STATUS_RUNNING 1).set F.SUP_STATUS_RESTARTS (satAdd (s.get F.SUP_STATUS_RESTARTS) 1 255)
  ({ s with clk := { s.clk with supLoading := false } }.bump 577 5).recompute

/-- The load completes: from the copy in DRAM, else from flash; a failed copy is an error of BOOT, and an image that does not
match M_sup leaves the core held until a chip reset. -/
def execSupRelease (copyOk flashOk : Bool) (s : State) : Res :=
  if !s.clk.supLoading then .next s
  else if s.isOn .dram ∧ copyOk then .next s.supReleased
  else
    let s := if s.isOn .dram then s.blockError ⟨.boot, 0⟩ 0xFF 2 0x01 0 0 0 else s
    if flashOk then .next s.supReleased
    else .next { s with clk := { s.clk with supLoading := false, supDead := true } }

/-! ### The idle step -/

/-- What fleet time gains in one FABRIC_CLK cycle of 2.5 ns at the rate of FREQ_ADJ, in 2^-32 ns (R15, R79, R84). -/
def State.tickGain (s : State) : Nat := (10737418240 * (1000000000000 + sext (s.get F.FREQ_ADJ) 32) / 1000000000000).toNat

/-- BUSY_CYCLES of the cores with a context running: two PLAN_CLK cycles in one of FABRIC_CLK (R15; what the counter counts is DEDUCED from its
name, log entry 114). -/
def State.busyCycles (s : State) : State :=
  s.each (List.range 8) fun s c => if (s.running c).isEmpty then s else s.inc C.CORE_BUSY_CYCLES c 2

/-- No command waits: one FABRIC_CLK cycle passes. Fleet time runs while the main domain is clocked (R16, R17, R79). -/
def State.tick (s : State) : State :=
  if s.get F.ROOT_STATUS_ROOT_LOCK = 1 then ({ s with now := s.now + 2500, ft := s.ft + s.tickGain }).busyCycles
  else { s with now := s.now + 2500 }

/-- The commands that wait are led by one more. -/
def State.lead (s : State) (c : Instr) : State := { s with pending := c :: s.pending }

end Sys2Proof.Machine
end

