-- ==== Sys2Proof/Machine/Dispatcher.lean ====
section
/-! DEFINITION. The dispatcher's commands but for aborts: delivery, DONE, emits, posts, timers and the trace (R314 to R324). -/
namespace Sys2Proof.Machine
open Sys2Proof

/-- A read of DP_TAKE (R318): the next deliverable item enters the lowest free context of the core; 0 when none. -/
def execDpTake (core : Nat) (s : State) : Res :=
  let none_ := s.emit (.readData (.core core) 0)
  if 8 ≤ core ∨ ¬ s.isOn .dispatch ∨ s.dbg.halted.contains core then .next none_
  else match s.choose (s.deliverable core), s.freeCtx core with
    | some (i, s), some x =>
      let s := (s.intoCtx i core x).traceItem 2 { i with core := core, ctx := x }
      .next (s.emit (.readData (.core core) (x + 2 ^ 31)))
    | _, _ => .next none_

/-- A write of DONE (R316, R319): the item is done, the interrupted context resumes, the flow releases in order. -/
def execItemDone (core ctx : Nat) (s : State) : Res :=
  match s.ctxItem core ctx with
  | none => .next s
  | some i =>
    let s := ((s.setItem { i with st := 2 }).inc C.CORE_ITEMS_DONE core).traceItem 5 i
    let s := (s.endCtx core ctx).releaseFlow i.flow
    .next (s.resumed core ctx)

/-- The descriptor of an item as a core reads it (R310). -/
def DItem.bytes (i : DItem) : List Nat :=
  toBytes 6 (i.ns / 1000000000) ++ toBytes 2 (i.flow % 1024) ++ toBytes 4 (i.ns % 1000000000) ++ [i.src % 256, i.kind % 256] ++
    toBytes 2 i.body.length ++ toBytes 4 i.seq ++ toBytes 2 i.mgen ++ toBytes 2 i.buf ++ toBytes 4 i.arg ++ toBytes 4 i.arg2

/-- What a core reads in its dispatch port beside DP_TAKE (R324): DP_READY, DP_CUR, the descriptor and EMIT_STATUS of each context. -/
def State.dispatchPort (s : State) (core off : Nat) : Nat :=
  let x := (off - 0x100) / 0x40
  if off = 0x000 then min 4095 ((s.disp.items.filter (s.deliverable core)).length)
  else if off = 0x008 then (s.running core).headD 0 + 8 * b2n ((s.running core).contains 7)
  else if 0x100 ≤ off ∧ off < 0x300 ∧ off % 0x40 < 0x20 then
    match s.ctxItem core x with
    | some i => ofBytes ((i.bytes.drop (off % 0x40 / 4 * 4)).take 4)
    | none => 0
  else if 0x100 ≤ off ∧ off < 0x300 ∧ off % 0x40 = 0x28 then AMap.get (fun _ => 0) s.disp.emitStatus (8 * core + x)
  else 0

/-- EMIT_STATUS of a context. -/
def State.emitResult (s : State) (core ctx r : Nat) : State :=
  { s with disp := { s.disp with emitStatus := AMap.set (fun _ => 0) s.disp.emitStatus (8 * core + ctx) r } }

/-- The rules of a destination (R320). -/
def emitOk (dest kind target len : Nat) : Bool := match dest with
  | 0 => decide (16 ≤ kind ∧ kind ≤ 30 ∧ len ≤ 1500 ∧ target < 512)
  | 1 => decide (len ≤ 2047 ∧ target < 576)
  | 2 => decide (len ≤ 2047)
  | _ => false

/-- A write of EMIT_CMD (R320): the payload is copied to the pool and the emit stays staged; BAD, LIMIT or FULL else. One to a flow is admitted
here, with a descriptor (R313). -/
def execEmitCmd (core ctx dest kind target arg : Nat) (body : List Nat) (s : State) : Res :=
  match s.ctxItem core ctx with
  | none => .next s
  | some i =>
    if !emitOk dest kind target body.length then .next (s.emitResult core ctx 2)
    else if 16 ≤ i.emits.length then .next (s.emitResult core ctx 3)
    else match dest ≠ 1 || s.roomFor srcCORE body.length, s.bufferFor body.length with
      | true, some b =>
        let e : Emit := ⟨dest, kind, target, arg, body, b, 0x4000 + 8 * core + ctx⟩
        .next (((s.setItem { i with emits := i.emits ++ [e] }).emitResult core ctx 0).dispShow)
      | _, _ => .next (s.emitResult core ctx 1)

/-- POST (R314): FLOW in KEY0, KIND and LEN in KEY1, ARG and ARG2 in KEY2 and KEY3, at most 48 bytes of payload. -/
def postFn : TFn := fun s key data =>
  let flow := nth 0 key 0 % 1024
  let len := nth 0 key 1 / 2 ^ 16
  if 576 ≤ flow then (s, some { err := 0x04 })
  else if 48 < len then (s, some { err := 0x0C })
  else
    let i : DItem := { flow := flow, src := srcHOST, kind := nth 0 key 1 % 256, arg := nth 0 key 2, arg2 := nth 0 key 3,
                       body := toBytes len data }
    match s.offer i with
    | (s, .refused) => (s, some { err := 0x03 })
    | (s, _) => (s, some {})

/-- The POST opcode enqueues a host item. -/
def execDispatchPost (via : Via) (s : State) : Res := .next (s.tblOp via pDISP 8 0 0 postFn)

/-- A timer's next firing after time `ns`: AT advanced by whole periods, and how many firings were passed over. -/
def timerNext (at_ period ns : Nat) : Nat × Nat :=
  if period = 0 then (at_, 0)
  else
    let k := (ns - at_) / (period * 1000)
    (at_ + (k + 1) * period * 1000, k)

/-- A timer fires at AT (R321): an item with the timer's index and its firing count; AT advances by PERIOD, or EN clears. A
refused firing is made later. -/
def execTimerFire (t : Nat) (s : State) : Res :=
  let e := s.te pDISP 1 t
  let at_ := bits e 0 48 * 1000000000 + bits e 64 32
  let period := bits e 96 32
  if 256 ≤ t ∨ s.offDuty ∨ bits e 63 1 = 0 ∨ s.fleetNs < at_ then .next s
  else
    let fired := s.te pDISP 8 t + 1
    match s.offer { flow := bits e 48 10, src := srcTIMER, kind := 1, arg := t, arg2 := fired % 2 ^ 32 } with
    | (_, .refused) => .next s
    | (s, _) =>
      let (at', skip) := timerNext at_ period s.fleetNs
      let e' := if period = 0 then setBits e 63 1 0 else setBits (setBits e 0 48 (at' / 1000000000)) 64 32 (at' % 1000000000)
      .next (((s.setTe pDISP 1 t e').setTe pDISP 8 t fired).inc C.DISPATCH_TIMER_SKIP 0 skip)

/-- At every whole fleet second a SYNC record (R322). -/
def execTraceSync (s : State) : Res :=
  if s.disp.traceSec = s.fleetSec + 1 ∨ ¬ s.isOn .dispatch then .next s
  else .next ({ s with disp := { s.disp with traceSec := s.fleetSec + 1 } }.traceRec 9 0 0 0 (s.fleetSec % 2 ^ 32))

end Sys2Proof.Machine
end

