-- ==== Sys2Proof/Machine/TaskBoard.lean ====
section
/-! DEFINITION. The task board's commands (R328 to R331). -/
namespace Sys2Proof.Machine
open Sys2Proof

/-- The result of a task operation: a code of R329 as 0x10 + CODE. -/
def taskRes (c : Nat) : TRes := if c = 0 then {} else { err := 0x10 + c }

/-- A task operation on the ID in KEY0; an ID whose GEN differs completes with NOT_FOUND. -/
def onTask (f : State → Nat → State × TRes) : TFn := fun s key _ =>
  let id := nth 0 key 0
  if TK.id.get (s.task (id % 2 ^ 12)) ≠ id then (s, some { err := 0x01 })
  else
    let (s, r) := f s (id % 2 ^ 12)
    (s, some { r with index := some (id % 2 ^ 12) })

/-- CREATE writes the entry from TBL_DATA into the lowest FREE index, but for what the board keeps there: ID, STATE, ENERGY, CHANGES (R327, R328). -/
def createFn : TFn := fun s _ data =>
  match lowestFree s.tasksLive 4096 0 with
  | none => (s, some { err := 0x03 })
  | some i =>
    let e := TK.id.set (data % 2 ^ 512) (TK.id.get (s.task i))
    let e := TK.energy.set (TK.changes.set e (TK.changes.get (s.task i))) 0
    let s := (s.taskTo i e tsOPEN 0).inc C.TASKBOARD_CREATED
    (s, some { index := some i, data := some (TK.id.get e) })

/-- The CREATE opcode. -/
def execTaskCreate (via : Via) (s : State) : Res := .next (s.tblOp via pTASK 8 0 0 createFn)

/-- OFFER: to a member or to ANY, until CLAIM_BY (R328). -/
def offerFn : TFn := fun s key data => onTask (fun s i =>
  let s := s.taskDeadline i
  let e := s.task i
  if s.get F.SVC_STATUS_LEVEL < 2 then (s, taskRes tcLEVEL)
  else if TK.state.get e ≠ tsOPEN then (s, taskRes tcWRONG)
  else
    let dest := nth 0 key 1 % 2 ^ 16
    let by_ := nth 0 key 2 + nth 0 key 3 * 2 ^ 32
    let e := TK.claimBy.set (TK.offerTo.set e dest) by_
    let s := s.taskTo i e tsOFFERED 1
    if bit dest 15 then (s, {})
    else (s.queueDown (dest % 512) 2 ([1, 0, 0, 0] ++ toBytes 4 (TK.id.get e) ++ [TK.kind.get e, TK.prio.get e, TK.dock.get e, 0]
      ++ toBytes 4 by_ ++ toBytes 16 (TK.user.get e)), {})) s key data

/-- The OFFER opcode. -/
def execTaskOffer (via : Via) (s : State) : Res := .next (s.tblOp via pTASK 9 0 0 offerFn)

/-- The CLAIM opcode, for the member in KEY1. -/
def execTaskClaim (via : Via) (s : State) : Res := .next (s.tblOp via pTASK 10 0 0 fun s key data =>
  onTask (fun s i => let (s, c) := s.taskClaim i (nth 0 key 1 % 512); (s, taskRes c)) s key data)

/-- The START opcode. -/
def execTaskStart (via : Via) (s : State) : Res := .next (s.tblOp via pTASK 11 0 0 fun s key data =>
  onTask (fun s i => let (s, c) := s.taskStart i none; (s, taskRes c)) s key data)

/-- The FINISH opcode: KEY1 0 for DONE, 1 for FAIL. -/
def execTaskFinish (via : Via) (s : State) : Res := .next (s.tblOp via pTASK 12 0 0 fun s key data =>
  onTask (fun s i =>
    if 1 < nth 0 key 1 then (s, { err := 0x0C })
    else let (s, c) := s.taskFinish i (decide (nth 0 key 1 = 1)) none; (s, taskRes c)) s key data)

/-- The WITHDRAW opcode: REASON ISSUER, and a WITHDRAWN record to a holder. -/
def execTaskWithdraw (via : Via) (s : State) : Res := .next (s.tblOp via pTASK 13 0 0 fun s key data =>
  onTask (fun s i =>
    let s := s.taskDeadline i
    let e := s.task i
    let st := TK.state.get e
    if st < tsOPEN ∨ tsACTIVE < st then (s, taskRes tcWRONG)
    else
      let s := s.taskTo i (TK.reason.set e 2) tsWITHDRAWN 6
      if bit (TK.holder.get e) 15 then
        (s.queueDown (bits (TK.holder.get e) 0 9) 2 ([7, 2, 0, 0] ++ toBytes 4 (TK.id.get e)), {})
      else (s, {})) s key data)

/-- The FREE opcode: GEN stepped, 1,048,575 wrapping to 1; a live task is WRONG_STATE. -/
def execTaskFree (via : Via) (s : State) : Res := .next (s.tblOp via pTASK 14 0 0 fun s key data =>
  onTask (fun s i =>
    let st := s.taskSt i
    if st < tsDONE then (s, taskRes tcWRONG)
    else
      let g := TK.gen.get (s.task i)
      let g' := if 1048575 ≤ g then 1 else g + 1
      ((s.taskTo i (TK.gen.set (s.task i) g') tsFREE 0).setTe pTASK 8 i 0, {})) s key data)

/-- A task's CLAIM_BY or DUE is reached (R330). -/
def execTaskDeadline (i : Nat) (s : State) : Res :=
  if ¬ s.isOn .taskboard ∨ s.offDuty ∨ 4096 ≤ i then .next s else .next (s.taskDeadline i)

/-- The energy of one ACTIVE CHARGE task (R331). -/
def State.chargeTick (s : State) (i : Nat) : State :=
  let e := s.task i
  let d := TK.dock.get e
  if s.dockInvalid d then
    if TK.invalid.get e = 1 then s
    else ((s.setTe pTASK 0 i (TK.invalid.set e 1)).irq pTASK I.TASKBOARD_METER_INVALID).taskEvent i 10
  else
    let en := min ((s.dockImport d + 2 ^ 64 - s.te pTASK 8 i) % 2 ^ 64 / 1000) 0xFFFFFFFF
    let e := TK.energy.set e en
    if TK.target.get e ≠ 0 ∧ TK.target.get e ≤ en ∧ TK.reached.get e = 0 then
      (s.setTe pTASK 0 i (TK.reached.set e 1)).taskEvent i 9
    else s.setTe pTASK 0 i e

/-- Once per second every ACTIVE CHARGE task's ENERGY follows its dock (R331). -/
def execChargeEnergyTick (s : State) : Res :=
  if s.disp.taskSec = s.fleetSec + 1 ∨ s.offDuty ∨ ¬ s.isOn .taskboard then .next s
  else
    let s : State := { s with disp := { s.disp with taskSec := s.fleetSec + 1 } }
    .next (s.each (s.tasksLive.filter fun i => decide (s.taskSt i = tsACTIVE ∧ TK.kind.get (s.task i) = 1)) State.chargeTick)

end Sys2Proof.Machine
end

