-- ==== Sys2Proof/Machine/Turnout.lean ====
section
/-! DEFINITION. Turnout locks, direct locks and table sequences: their commands (R258 to R263). -/
namespace Sys2Proof.Machine
open Sys2Proof

/-! ### Locks of furrows (R259) -/

/-- A RESERVED lock reaches its START: ACTIVE, or OPEN where a step of its run keeps it so; beginning beside an OVERSTAY it
blocks its owner (R248). -/
def execTlockStart (i : Nat) (s : State) : Res :=
  let e := s.le i
  if ¬ s.isOn .lease ∨ s.offDuty ∨ LE.kind.get e ≠ 4 ∨ LE.state.get e ≠ 1 ∨ s.fleetNs < leStart e then .next s
  else
    let t := LE.turn.get e
    let s := ((s.leSet i LE.state 2).turnShow t).lockFollow i
    let beside := s.leLive.any fun j =>
      decide (LE.kind.get (s.le j) = 3 ∧ SG.turnout.get (s.seg (LE.seg.get (s.le j))) = t) && decide (s.leOwner j ≠ s.leOwner i)
    .next (if beside then s.blockOwner i else s)

/-- An ACTIVE lock reaches its end: freed, or OPEN where a step of its run is OVERSTAY or FROZEN. -/
def execTlockEnd (i : Nat) (s : State) : Res :=
  let e := s.le i
  if ¬ s.isOn .lease ∨ s.offDuty ∨ LE.kind.get e ≠ 4 ∨ LE.state.get e ≠ 2 ∨ s.fleetNs < leEnd e ∨ s.get F.LEASE_STATUS_LOST = 1 then .next s
  else if s.lockHeldOpen i then .next ((s.leSet i LE.state 3).turnShow (LE.turn.get e))
  else .next (((s.takeSeq).freeLock i).leaseShow)

/-! ### Direct locks (R260) -/

/-- The direct lock of a turnout goes. -/
def State.dropDirect (s : State) (t : Nat) : State := ((s.setTe pTURN 0 t (s.turn t % 2 ^ 128)).turnShow t).leaseShow

/-- An owner that is no fleet address. -/
def noOwner : Nat := 2 ^ 32

/-- TAKE: one direct lock per turnout, for the host or a core's context; a CLOSED turnout takes none (R229). -/
def takeFn (via : Via) : TFn := fun s key _ =>
  let t := nth 0 key 0 % 2 ^ 13
  let s := s.takeSeq
  let e := s.turn t
  if via.src = .sup ∨ TU.valid.get e = 0 ∨ TU.closed.get e = 1 then (s, some { err := 0x0C })
  else
    let start := rebuildMs (nth 0 key 1 % 2 ^ 32) s.fleetMs * 1000000
    let dur := nth 0 key 2 % 2 ^ 32
    let far := (s.locksAt t).foldl (fun n i => max n (leEnd (s.le i))) start
    let stop := if dur = 0xFFFFFFFF then far + 1 else start + dur * 1000000
    if TU.downer.get e ≠ 0 ∨ (s.lockConflict noOwner t start stop).isSome then (s, some { err := 0x12 })
    else
      let e := TU.dgen.set (TU.downer.set e (ownerId via.owner)) (s.gen via.owner)
      let e := TU.ddur.set (TU.dstart.set e (nth 0 key 1)) dur
      (((s.setTe pTURN 0 t e).turnShow t).leaseShow, some {})

/-- The TAKE opcode. -/
def execTurnoutTake (via : Via) (s : State) : Res := .next (s.tblOp via pTURN 8 1 0 (takeFn via))

/-- DROP: by the holder only. -/
def dropFn (via : Via) : TFn := fun s key _ =>
  let t := nth 0 key 0 % 2 ^ 13
  let s := s.takeSeq
  let e := s.turn t
  if TU.downer.get e = 0 ∨ TU.downer.get e ≠ ownerId via.owner ∨ TU.dgen.get e ≠ s.gen via.owner then (s, some { err := 0x13 })
  else (s.dropDirect t, some {})

/-- The DROP opcode. -/
def execTurnoutDrop (via : Via) (s : State) : Res := .next (s.tblOp via pTURN 9 1 0 (dropFn via))

/-- A direct lock with a finite length ends (R258). -/
def execDirectLockEnd (t : Nat) (s : State) : Res :=
  if TU.downer.get (s.turn t) = 0 then .next s
  else match s.directIv t with
    | (_, some b) => if b ≤ s.fleetNs then .next (s.dropDirect t) else .next s
    | (_, none) => .next s

/-- ORPHAN_CLEAR: the host's word that the orphan is clear of the junction (R259). -/
def orphanFn (via : Via) : TFn := fun s key _ =>
  if via.owner ≠ 576 then (s, some { err := 0x0C })
  else match s.leById (nth 0 key 0) with
    | none => (s, some { err := 0x14 })
    | some k =>
      if LE.kind.get (s.le k) ≠ 4 ∨ LE.state.get (s.le k) ≠ 4 then (s, some { err := 0x14 })
      else
        let s := (s.takeSeq).inc C.TURNOUT_ORPHANS_CLEARED
        if (s.stepsOfLock k).any fun i => decide (LE.kind.get (s.le i) = 3) then
          (((s.leSet k LE.state 3).turnShow (LE.turn.get (s.le k))).leaseShow, some {})
        else ((s.freeLock k).leaseShow, some {})

/-- The ORPHAN_CLEAR opcode. -/
def execOrphanClear (via : Via) (s : State) : Res := .next (s.tblOp via pTURN 10 1 0 (orphanFn via))

/-! ### Table sequences (R261 to R263) -/

/-- A sequence's life is over: SEQ_TIMEOUT from its last OPEN or STAGE, half-open. -/
def State.seqLate (s : State) (q : TblSeq) : Bool := decide (q.at_ + us (s.get F.SEQ_TIMEOUT) ≤ s.now)

/-- A sequence is discarded by its timeout: counted, IRQ_STATUS bit 9. -/
def State.seqExpire (s : State) (q : TblSeq) : State :=
  ((s.dropSeq q.handle).inc C.TURNOUT_SEQ_TIMEOUTS).irq pTURN I.TURNOUT_SEQ_DISCARD

/-- Sequences whose life is over are gone before an operation is decided. -/
def State.seqPurge (s : State) : State := s.each (s.ls.seqs.filter s.seqLate) State.seqExpire

/-- TO_STATUS.SEQ_OPEN and SEQ_STAGED. -/
def State.seqShow (s : State) : State :=
  let s := s.set F.TO_STATUS_SEQ_OPEN (s.ls.seqs.foldl (fun n q => n + 2 ^ q.handle) 0)
  s.set F.SEQ_STAGED (s.ls.seqs.foldl (fun n q => n + q.edits.length) 0)

/-- The state with a sequence replaced. -/
def State.setSeq (s : State) (q : TblSeq) : State :=
  let l : List TblSeq := s.ls.seqs.map fun r => if r.handle = q.handle then q else r
  State.seqShow { s with ls := { s.ls with seqs := l } }

/-- An operation on the sequence of KEY0: gone, of another owner, or its own (R262). -/
def onSeq (via : Via) (f : State → TblSeq → State × TRes) (s : State) (key : List Nat) : State × Option TRes :=
  let s := s.seqPurge
  match s.ls.seqs.find? fun q => q.handle = nth 0 key 0 % 8 with
  | none => (s, some { err := 0x11 })
  | some q =>
    if q.owner ≠ via.owner ∨ q.gen ≠ s.gen via.owner then (s, some { err := 0x13 })
    else let (s, r) := f s q; (s, some r)

/-- SEQ_OPEN: the lowest free handle. -/
def seqOpenFn (via : Via) : TFn := fun s key _ =>
  let s := s.seqPurge
  let target := nth 0 key 0 % 4
  let lo := nth 0 key 1
  let hi := nth 0 key 2
  match lowestFree (s.ls.seqs.map (·.handle)) 8 0 with
  | none => (s, some { err := 0x03 })
  | some h =>
    if s.ls.seqs.any fun q => decide (q.target = target ∧ lo ≤ q.hi ∧ q.lo ≤ hi) then (s, some { err := 0x07 })
    else if hi < lo ∨ seqSize target ≤ hi then (s, some { err := 0x04 })
    else if target = 3 ∧ (via.owner ≠ 576 ∨ s.get F.LEASE_STATUS_LOST = 0) then (s, some { err := 0x0C })
    else
      let q : TblSeq := { handle := h, owner := via.owner, gen := s.gen via.owner, target := target, lo := lo, hi := hi, edits := [], at_ := s.now }
      (({ s with ls := { s.ls with seqs := s.ls.seqs ++ [q] } }).seqShow, some { data := some h })

/-- The SEQ_OPEN opcode. -/
def execSeqOpen (via : Via) (s : State) : Res := .next (s.tblOp via pTURN 8 2 0 (seqOpenFn via))

/-- SEQ_STAGE: a later copy of an index replaces the earlier. -/
def seqStageFn (via : Via) : TFn := fun s key data => onSeq via (fun s q =>
  let i := nth 0 key 1
  if i < q.lo ∨ q.hi < i then (s, { err := 0x04 })
  else
    let again := q.edits.any fun e => e.index = i
    if ¬ again ∧ 16384 ≤ s.get F.SEQ_STAGED then (s, { err := 0x03 })
    else
      let l := q.edits.filter fun e => e.index ≠ i
      let edits := (l.filter fun e => e.index < i) ++ [⟨i, data % 2 ^ 256⟩] ++ l.filter fun e => i < e.index
      (s.setSeq { q with edits := edits, at_ := s.now }, { data := some edits.length })) s key

/-- The SEQ_STAGE opcode. -/
def execSeqStage (via : Via) (s : State) : Res := .next (s.tblOp via pTURN 9 2 0 (seqStageFn via))

/-- What the lease table's entries imply, after a batch has rebuilt it: the owners of locks, the distances of steps, what
the turnout records and the status show (R252). -/
def State.leaseRebuilt (s : State) : State :=
  let s := s.each s.heads fun s h =>
    ((s.stepsSorted h).foldl (fun (acc : State × Nat) i =>
      let (s, d) := acc
      let far := d + SG.length.get (s.seg (LE.seg.get (s.le i)))
      (s.setTe pLEASE 9 i (d % 2 ^ 32 + far * 2 ^ 32), far)) (s, 0)).1
  let locks := s.leLive.filter fun i => decide (LE.kind.get (s.le i) = 4)
  let s := s.each locks fun s k => s.setTe pLEASE 8 k (LE.owner.get (s.le (LE.head.get (s.le k))))
  (s.each (sortNats (locks.map fun k => LE.turn.get (s.le k))) State.turnShow).leaseShow

/-- The state with every edit of a batch stored, in the order of staging. -/
def State.seqStored (s : State) (q : TblSeq) : State := s.each q.edits fun t e => t.storeEntry q.target e.index e.value

/-- What follows the storing of a batch: turnouts follow changed segments, the lease tables are rebuilt. -/
def State.seqFollow (t : State) (s : State) (q : TblSeq) : State :=
  let turns := if q.target = 0 then q.edits.flatMap fun e => [SG.turnout.get (s.seg e.index), SG.turnout.get (t.seg e.index)] else []
  let t := t.afterGraph (sortNats turns)
  if q.target = 3 then t.leaseRebuilt else t

/-- A batch is checked and applied whole, or reports BATCH_INVALID (R262). -/
def State.seqCommit (s : State) (q : TblSeq) : State × TRes :=
  let t := s.seqStored q
  match q.edits.find? fun e => entryErr q.target s t e.index ≠ 0 with
  | some e => (s.inc C.TURNOUT_SEQ_INVALID, { err := 0x15, data := some (e.index + entryErr q.target s t e.index * 2 ^ 32) })
  | none => (((t.seqFollow s q).dropSeq q.handle).inc C.TURNOUT_SEQ_COMMITS, {})

/-- SEQ_COMMIT: every staged entry is checked against the tables as they will stand; all are applied, or none (R262). -/
def seqCommitFn (via : Via) : TFn := fun s key _ => onSeq via (fun s q => s.takeSeq.seqCommit q) s key

/-- The SEQ_COMMIT opcode. -/
def execSeqCommit (via : Via) (s : State) : Res := .next (s.tblOp via pTURN 10 2 0 (seqCommitFn via))

/-- SEQ_DISCARD. -/
def seqDiscardFn (via : Via) : TFn := fun s key _ =>
  onSeq via (fun s q => ((s.dropSeq q.handle).irq pTURN I.TURNOUT_SEQ_DISCARD, {})) s key

/-- The SEQ_DISCARD opcode. -/
def execSeqDiscard (via : Via) (s : State) : Res := .next (s.tblOp via pTURN 11 2 0 (seqDiscardFn via))

/-- A sequence's SEQ_TIMEOUT ends. -/
def execSeqTimeout (handle : Nat) (s : State) : Res :=
  match s.ls.seqs.find? fun q => q.handle = handle with
  | some q => if s.seqLate q then .next (s.seqExpire q) else .next s
  | none => .next s

end Sys2Proof.Machine
end

