-- ==== Sys2Proof/Machine/TableCmds.lean ====
section
/-! DEFINITION. The common table opcodes READ, WRITE, INSERT, DELETE, LOOKUP, NEXT and CMPWRITE on every table (R49 to R51,
R506), and the start of any operation by its opcode, block-specific ones included. -/
namespace Sys2Proof.Machine
open Sys2Proof

/-- What a table operation yields, by the index it names. -/
abbrev TAct := State → State × TRes

/-- Entries of a table (R49); none where the block does not define it. -/
def tblSize : Blk → Nat → Option Nat
  | .gnssMeas, 0 => some 16384
  | .rtkCtrl, 0 | .rtkCtrl, 1 => some 512
  | .airport, 0 => some 64
  | .sluice, 0 | .sluice, 1 => some 2048
  | .sluice, 2 => some 512
  | .frameSec, 0 => some 4096
  | .route, 0 => some 4096
  | .registry, 0 => some 2048
  | .registry, 1 => some 578
  | .graph, 0 | .graph, 1 => some 65536
  | .lease, 0 => some 262144
  | .turnout, 0 => some 8192
  | .motion, 0 => some 8192
  | .motion, 1 => some 512
  | .taskboard, 0 => some 4096
  | .dispatch, 0 => some 576
  | .dispatch, 1 => some 256
  | .flume, 0 => some 64
  | .meter, 0 | .meter, 2 => some 15
  | .meter, 1 => some 12
  | .keystore, 0 | .keystore, 1 => some 64
  | .evlog, 1 => some 64
  | _, _ => none

/-- A quarter of a member's record (R264). -/
def quarter (e q : Nat) : Nat := bits e (512 * q) 512

/-- A member's record with a quarter written: bytes 64 to 68, 70 to 71 and 84 to 255 alone change (R264). -/
def writeQuarter (e q v : Nat) : Nat :=
  let put := fun (e from_ n : Nat) =>
    if from_ / 64 = q then setBits e (8 * from_) (8 * n) (bits v (8 * (from_ % 64)) (8 * n)) else e
  if q = 0 then e
  else if q = 1 then (setBits (put (put (put e 64 4) 70 2) 84 44) 544 4 (bits v 32 4))
  else setBits e (512 * q) 512 v

/-- A member's link state is shown by the port that serves it (R185). -/
def State.linkServed (s : State) (p m : Nat) : Bool := decide (s.servingPort m = some p)

/-- An entry as a READ returns it; none where there is no entry with the index. -/
def State.tblEntry (s : State) (p : Page) (table i : Nat) : Option Nat := match p.blk, table with
  | .rtkCtrl, 1 => if s.te p 1 i = 0 then none else some (s.te p 1 i)
  | .sluice, 2 => if s.linkServed p.inst i then some (s.link i) else none
  | .route, 0 => if RT.plen.get (s.route i) = 0 then none else some (s.route i)
  | .registry, 0 => some (quarter (s.member (i / 4)) (i % 4))
  | .motion, 0 => some (s.moveView (i / 16) (i % 16))
  | .dispatch, 0 => some (s.flowEntry i)
  | .flume, 0 => (s.readQueue i).data
  | _, _ => some (s.te p table i)

/-- An entry that NEXT returns: a valid one. -/
def State.tblValid (s : State) (p : Page) (table i : Nat) : Bool := match p.blk, table with
  | .sluice, 0 | .sluice, 1 => slValid (s.te p table i)
  | .frameSec, 0 => bit (AU.flags.get (s.te p 0 i)) 0
  | .registry, 0 => decide (s.mget (i / 4) RG.rstate ≠ 0)
  | .graph, 0 => decide (SG.valid.get (s.seg i) = 1)
  | .graph, 1 => decide (ND.valid.get (s.node i) = 1)
  | .lease, 0 => decide (LE.kind.get (s.le i) ≠ 0)
  | .turnout, 0 => decide (TU.valid.get (s.turn i) = 1)
  | .motion, 0 => decide (MV.mstate.get (s.move (i / 16) (i % 16)) ≠ 0)
  | .taskboard, 0 => decide (s.taskSt i ≠ tsFREE)
  | .keystore, _ => s.ksHeld i
  | .evlog, 1 => bit (s.te p 1 i) 48
  | _, _ => (s.tblEntry p table i).isSome

/-- Indices that may hold a valid entry: the listed ones where an unlisted entry is never valid, else every one. -/
def State.tblMaybe (s : State) (p : Page) (table n : Nat) : List Nat := match p.blk, table with
  | .sluice, 0 | .sluice, 1 | .frameSec, 0 | .graph, _ | .lease, 0 | .turnout, 0 | .motion, 0 | .taskboard, 0 | .route, 0 | .rtkCtrl, 1
  | .keystore, 0 | .evlog, 1 => s.teListed p table
  | .keystore, 1 => s.teListed p 0
  | .registry, 0 => (s.teListed p 0).flatMap fun m => [4 * m, 4 * m + 1, 4 * m + 2, 4 * m + 3]
  | _, _ => List.range n

/-- The next valid entry after an index. -/
def State.tblNext (s : State) (p : Page) (table n i : Nat) : TRes :=
  match (s.tblMaybe p table n).find? fun j => decide (i < j) && s.tblValid p table j with
  | some j => { index := some j, data := s.tblEntry p table j }
  | none => { err := 0x01 }

/-- READ of an index. -/
def State.tblRead (s : State) (p : Page) (table n i : Nat) : TRes :=
  if n ≤ i then { err := 0x04 }
  else match s.tblEntry p table i with
    | some e => { index := some i, data := some e }
    | none => { err := 0x01 }

/-- A core may name only slots 16 to 63 of the key store (R425). -/
def coreBarred (src : Src) (p : Page) (i : Nat) : Bool := match src, p.blk with
  | .core _, .keystore => decide (i < 16)
  | _, _ => false

/-! ### Writes by table -/

/-- WRITE of an RTK entry (R129): RATE 4 to 7 is refused; RESET resets the solver state; EFF_RATE follows PRIO and RATE under the
shedding in force. -/
def State.writeRtk (s : State) (m v : Nat) : State × TRes :=
  if 4 ≤ RK.rate.get v then (s, { err := 0x0C })
  else
    let old := s.rk m
    let fresh := decide (RK.en.get old = 0 ∨ RK.rate.get old ≠ RK.rate.get v)
    let e := RK.en.set (RK.prio.set (RK.rate.set (RK.dyn.set old (RK.dyn.get v)) (RK.rate.get v)) (RK.prio.get v)) (RK.en.get v)
    let e := if fresh then RK.eff.set e (RK.rate.get v) else e
    let s := s.setTe pRTK 0 m e
    ((if bit v 1 then s.rtkReset m else s.rtkShow), {})

/-- WRITE of a sequence entry (R159). -/
def State.writeSpi (s : State) (p i v : Nat) : State × TRes :=
  let v := v % 2 ^ 64
  let t := s.setTe (pAP p) 0 i v
  let list := seqList v
  if s.st (pAP p) = stStarting ∨ s.st (pAP p) = stStopping ∨ 2 < list ∨ (list ≠ 0 ∧ (seqLen v < 8 ∨ 32 < seqLen v)) ∨ 80000 < t.seqWaits p 1 then
    (s, { err := 0x0C })
  else (t, {})

/-- WRITE of a bank entry (R173). -/
def State.writeSlot (s : State) (p bank i v : Nat) : State × TRes :=
  let v := v % 2 ^ 64
  if s.activeBank p = bank then (s, { err := 0x10 })
  else if s.get F.BANK_CTRL_ARMED p = 1 then (s, { err := 0x11 })
  else if 2 ^ 35 ≤ v ∨ (slValid v ∧ (1599 < slStart v ∨ slLen v = 0 ∨ slKind v = 7)) then (s, { err := 0x12 })
  else (s.setTe (pSL p) bank i v, {})

/-- WRITE of an authorisation entry (R430): by the host and the supervisor only, not under LOCK; LAST_JCNT is RO. -/
def State.writeAuth (s : State) (src : Src) (i v : Nat) : State × TRes :=
  let core : Bool := match src with | .core _ => true | _ => false
  if core ∨ s.getP pSEC F.LOCK_LOCKED = 1 ∨ bits v 66 30 ≠ 0 then (s, { err := 0x0C })
  else (s.setTe pSEC 0 i (AU.last.set (v % 2 ^ 96) (AU.last.get (s.te pSEC 0 i))), {})

/-- WRITE of a quarter of a member's record (R264). -/
def State.writeMember (s : State) (i v : Nat) : State × TRes :=
  if s.mget (i / 4) RG.rstate = 0 then (s, { err := 0x01 })
  else (s.setMember (i / 4) (writeQuarter (s.member (i / 4)) (i % 4) v), {})

/-- WRITE of a lease entry (R232): USER of a HEAD alone. -/
def State.writeLease (s : State) (owner i v : Nat) : State × TRes :=
  if s.seqLocks 3 i owner then (s, { err := 0x07 })
  else
    let old := s.le i
    let v := v % 2 ^ 256
    if LE.kind.get old ≠ 1 ∨ LE.user.set v (LE.user.get old) ≠ old then (s, { err := 0x0C })
    else (s.setLe i v, {})

/-- WRITE of a flow entry: bytes 0 to 2 (R314). A value that its field has no place for is refused. -/
def State.writeFlow (s : State) (i v : Nat) : State × TRes :=
  let w := v % 2 ^ 24
  if 32 ≤ bits w 0 8 ∨ bits w 8 8 = 0 ∨ 8 ≤ bits w 8 8 ∨ 2 ≤ bits w 16 8 then (s, { err := 0x0C })
  else ((s.setTe pDISP 0 i w).preempt, {})

/-- WRITE of a timer (R321); its count of firings begins again. -/
def State.writeTimer (s : State) (i v : Nat) : State × TRes :=
  if bits v 58 5 ≠ 0 ∨ 576 ≤ bits v 48 10 ∨ 1000000000 ≤ bits v 64 32 then (s, { err := 0x0C })
  else ((s.setTe pDISP 1 i (v % 2 ^ 128)).setTe pDISP 8 i 0, {})

/-- WRITE of a channel entry of METER (R406). -/
def State.writeChan (s : State) (i v : Nat) : State × TRes := match s.chanWrite i (v % 2 ^ 128) with
  | some t => (t, {})
  | none => (s, { err := 0x0C })

/-- WRITE of an entry, with the rules of its block; a table without WRITE answers BAD_OP. -/
def State.tblWrite (s : State) (via : Via) (p : Page) (table i v : Nat) : State × TRes := match p.blk, table with
  | .rtkCtrl, 0 => s.writeRtk i v
  | .airport, 0 => s.writeSpi p.inst i v
  | .sluice, 0 | .sluice, 1 => s.writeSlot p.inst table i v
  | .frameSec, 0 => s.writeAuth via.src i v
  | .registry, 0 => s.writeMember i v
  | .graph, 0 => s.writeGraph 0 i v via.owner
  | .graph, 1 => s.writeGraph 1 i v via.owner
  | .turnout, 0 => s.writeGraph 2 i v via.owner
  | .lease, 0 => s.writeLease via.owner i v
  | .dispatch, 0 => s.writeFlow i v
  | .dispatch, 1 => s.writeTimer i v
  | .flume, 0 => s.writeQueue i v
  | .meter, 0 => s.writeChan i v
  | .evlog, 1 => s.writeWeir i v
  | _, _ => (s, { err := 0x05 })

/-- CMPWRITE (R49, R232): written only where the first 8 bytes equal the key; LEASE alone has it. -/
def State.tblCmp (s : State) (via : Via) (p : Page) (table i : Nat) (key : List Nat) (v : Nat) : State × TRes :=
  if p.blk ≠ .lease ∨ table ≠ 0 then (s, { err := 0x05 })
  else if s.seqLocks 3 i via.owner then (s, { err := 0x07 })
  else if s.le i % 2 ^ 64 ≠ nth 0 key 0 + nth 0 key 1 * 2 ^ 32 then (s, { err := 0x08, index := some i, data := some (s.le i) })
  else s.writeLease via.owner i v

/-- A table that takes no NEXT. -/
def noNext (p : Page) (table : Nat) : Bool := decide ((p.blk = .rtkCtrl ∧ table = 0) ∨ p.blk = .airport)

/-- READ. -/
def tblReadFn (via : Via) (p : Page) (table i : Nat) : TFn := fun s key data => match p.blk, table with
  | .gnssMeas, 0 => (s, some (s.readEpoch i))
  | .route, 0 => State.routeTbl 0 i s key data
  | .evlog, 0 => now (fun s key _ => s.readEvent (nth 0 key 0)) s key data
  | .evlog, 2 => (s, some (s.readFound i))
  | b, t => match tblSize b t with
    | none => (s, some { err := 0x05 })
    | some n => if coreBarred via.src p i then (s, some { err := 0x0C }) else (s, some (s.tblRead p t n i))

/-- NEXT. A core's NEXT in the key store begins at slot 16 (R425). -/
def tblNextFn (via : Via) (p : Page) (table i : Nat) : TFn := fun s key data => match p.blk, table with
  | .gnssMeas, 0 => (s, some (s.nextEpoch i))
  | .route, 0 => State.routeTbl 5 i s key data
  | .evlog, 0 => now (fun s key _ => s.nextEvent (nth 0 key 0)) s key data
  | .evlog, 2 => (s, some (s.nextFound i))
  | b, t => match tblSize b t with
    | none => (s, some { err := 0x05 })
    | some n =>
      if noNext p t then (s, some { err := 0x05 }) else (s, some (s.tblNext p t n (if coreBarred via.src p i then 15 else i)))

/-- WRITE. -/
def tblWriteFn (via : Via) (p : Page) (table i : Nat) : TFn := fun s _ data => match tblSize p.blk table with
  | none => (s, some { err := 0x05 })
  | some n =>
    if n ≤ i then
      let (_, r) := s.tblWrite via p table 0 data
      ((if p.blk = .graph then s.inc C.GRAPH_WRITE_REFUSED else s), some { err := if r.err = 0x05 then 0x05 else 0x04 })
    else
      let (s, r) := s.tblWrite via p table i data
      (s, some r)

/-- CMPWRITE. -/
def tblCmpFn (via : Via) (p : Page) (table i : Nat) : TFn := fun s key data => match tblSize p.blk table with
  | none => (s, some { err := 0x05 })
  | some n =>
    if p.blk = .lease ∧ n ≤ i then (s, some { err := 0x04 })
    else
      let (s, r) := s.tblCmp via p table i key data
      (s, some r)

/-- INSERT, DELETE and LOOKUP: the route table alone has keys (R217). -/
def tblKeyFn (p : Page) (opcode table i : Nat) : TFn := fun s key data =>
  if p.blk = .route ∧ table = 0 then State.routeTbl opcode i s key data else (s, some { err := 0x05 })

/-- The common opcodes 0 to 6. -/
def tblFn (via : Via) (p : Page) (opcode table i : Nat) : TFn := match opcode with
  | 0 => tblReadFn via p table i
  | 1 => tblWriteFn via p table i
  | 2 => tblKeyFn p 2 table i
  | 3 => tblKeyFn p 3 table i
  | 4 => tblKeyFn p 4 table i
  | 5 => tblNextFn via p table i
  | 6 => tblCmpFn via p table i
  | _ => fun s _ _ => (s, some { err := 0x05 })

/-- A table operation on a page; a page that R37 does not have is unmapped, or has no table for a tagged one. -/
def State.tblGo (s : State) (via : Via) (p : Page) (opcode table i : Nat) : State :=
  if allPages.contains p then s.tblOp via p opcode table i (tblFn via p opcode table i)
  else match via with
    | .page src => s.unmapped src p.tblCmd true
    | .tag .. => s.tblDone via p i { err := 0x05 }

/-- READ. -/
def execTblRead (via : Via) (p : Page) (table i : Nat) (s : State) : Res := .next (s.tblGo via p 0 table i)
/-- WRITE. -/
def execTblWrite (via : Via) (p : Page) (table i : Nat) (s : State) : Res := .next (s.tblGo via p 1 table i)
/-- INSERT. -/
def execTblInsert (via : Via) (p : Page) (table i : Nat) (s : State) : Res := .next (s.tblGo via p 2 table i)
/-- DELETE. -/
def execTblDelete (via : Via) (p : Page) (table i : Nat) (s : State) : Res := .next (s.tblGo via p 3 table i)
/-- LOOKUP. -/
def execTblLookup (via : Via) (p : Page) (table i : Nat) (s : State) : Res := .next (s.tblGo via p 4 table i)
/-- NEXT. -/
def execTblNext (via : Via) (p : Page) (table i : Nat) (s : State) : Res := .next (s.tblGo via p 5 table i)
/-- CMPWRITE. -/
def execTblCmpwrite (via : Via) (p : Page) (table i : Nat) (s : State) : Res := .next (s.tblGo via p 6 table i)

/-! ### The start of an operation by its opcode -/

/-- The state a meaning leads to. -/
def Res.state (s : State) (r : Res) : State := match r with
  | .next t => t
  | _ => s

/-- An operation that TBL_CMD, a CMD record or a private port starts: its block's own opcodes, else the common ones. A signature
that a VERIFY checks matches or not as a free value says. -/
def State.tblStart (s : State) (via : Via) (p : Page) (opcode table i : Nat) : State :=
  let go := fun (r : Res) => Res.state s r
  match p.blk, table, opcode with
  | .sluice, bank, 7 => if bank < 2 then go (execSluiceBankClear via p.inst bank s) else s.tblGo via p 7 bank i
  | .route, 0, 8 => go (execRouteRepack via s)
  | .lease, 0, 8 => go (execFurrowOpen via s)
  | .lease, 0, 9 => go (execFurrowSteps via s)
  | .lease, 0, 10 => go (execFurrowSubmit via s)
  | .lease, 0, 11 => go (execFurrowRelease via s)
  | .lease, 0, 12 => go (execClearOverstay via s)
  | .lease, 0, 13 => go (execAbandon via s)
  | .turnout, 1, 8 => go (execTurnoutTake via s)
  | .turnout, 1, 9 => go (execTurnoutDrop via s)
  | .turnout, 1, 10 => go (execOrphanClear via s)
  | .turnout, 2, 8 => go (execSeqOpen via s)
  | .turnout, 2, 9 => go (execSeqStage via s)
  | .turnout, 2, 10 => go (execSeqCommit via s)
  | .turnout, 2, 11 => go (execSeqDiscard via s)
  | .registry, 0, 8 => go (execRegistryRelease via s)
  | .registry, 0, 9 => go (execRegistryHold via s)
  | .registry, 0, 10 => go (execEvict via s)
  | .motion, 0, 8 => go (execMoveAdd via s)
  | .motion, 0, 9 => go (execMoveFlush via s)
  | .motion, 0, 10 => go (execSetLimits via s)
  | .dispatch, 0, 8 => go (execDispatchPost via s)
  | .taskboard, 0, 8 => go (execTaskCreate via s)
  | .taskboard, 0, 9 => go (execTaskOffer via s)
  | .taskboard, 0, 10 => go (execTaskClaim via s)
  | .taskboard, 0, 11 => go (execTaskStart via s)
  | .taskboard, 0, 12 => go (execTaskFinish via s)
  | .taskboard, 0, 13 => go (execTaskWithdraw via s)
  | .taskboard, 0, 14 => go (execTaskFree via s)
  | .keystore, 0, 8 => go (execKsSign via s)
  | .keystore, 0, 9 => let (v, s) := s.free; Res.state s (execKsVerify via (decide (v % 2 = 1)) s)
  | .keystore, 0, 10 => go (execKsDerive via s)
  | _, t, op => s.tblGo via p op t i

end Sys2Proof.Machine
end

