-- ==== Sys2Proof/Machine/WriteOps.lean ====
section
/-! DEFINITION. What a write of a register does (R11, R38, R40, R47, R505): which fields change, what refuses the write, and
what the fields that act start. -/
namespace Sys2Proof.Machine
open Sys2Proof

/-- A write of one register: source, page and offset, value, the bits it may touch, and the signer where a token makes it. -/
structure RegWr where
  src : Src
  p : Page
  off : Nat
  value : Nat
  mask : Nat := 0xFFFFFFFF
  signer : Option Nat := none
  deriving DecidableEq, Repr

/-- The address that a write names. -/
def RegWr.addr (w : RegWr) : Nat := w.p.adr w.off

/-- The fields of the register. -/
def RegWr.fields (w : RegWr) : List FldDef := match w.p.findReg w.off with
  | some r => r.fields
  | none => []

/-- Which copy of the register an offset names. -/
def RegWr.copy (w : RegWr) : Nat := match w.p.findReg w.off with
  | some r => (w.off - r.off) / r.stride
  | none => 0

/-- A field's value in a word. -/
def FldDef.of (f : FldDef) (x : Nat) : Nat := bits x f.lsb f.width

/-- The word with the bits of the mask taken from the value. -/
def RegWr.merged (w : RegWr) (old : Nat) : Nat :=
  let m := w.mask % 2 ^ 32
  old - Nat.land old m + Nat.land w.value m

/-- A bit that the write sets. -/
def RegWr.one (w : RegWr) (n : Nat) : Bool := bit (Nat.land w.value w.mask) n

/-! ### Which addresses decode (R37, R38, R461) -/

/-- Where an arbiter's counters stand in a REGION_CTL page: three for each of 32 requesters, and two words that read as zero
(R339). -/
def arbCounter (p : Page) (off : Nat) : Bool := decide (p.blk = .regionCtl ∧ 0x800 ≤ off ∧ off < 0x800 + 32 * 32)

/-- An offset that the page's block defines. -/
def Page.defines (p : Page) (off : Nat) : Bool :=
  decide (off % 4 = 0) &&
    ((p.findReg off).isSome || decide (0x040 ≤ off ∧ off < 0x040 + 8 * p.blk.ncount) ||
     decide (0x200 ≤ off ∧ off < 0x280 ∧ p.blk.tables ≠ 0) || arbCounter p off)

/-- An access reaches a register: the page exists, its block defines the offset; in recovery CHIP/INFO and KEEP/BOOT alone
answer. -/
def State.decodes (s : State) (p : Page) (off : Nat) : Bool :=
  allPages.contains p && p.defines off && (!s.boot.waiting || decide (p.blk = .info ∨ p.blk = .boot))

/-! ### What refuses a write (R505) -/

/-- Registers of which instance 0 alone holds the value: the others read it (R168, R374). -/
def mirrored (p : Page) (off : Nat) : Bool := match p.blk with
  | .sluice => decide (p.inst ≠ 0 ∧ (off = 0x300 ∨ off = 0x304 ∨ off = 0x308))
  | .canal => decide (p.inst ≠ 0 ∧ 0x320 ≤ off)
  | _ => false

/-- No port is STARTING or SERVING (R168). -/
def State.noService (s : State) : Bool := (List.range 4).all fun p => decide (s.get F.PORT_STATUS_SVC p ≠ 1 ∧ s.get F.PORT_STATUS_SVC p ≠ 2)

/-- A field that this write may change: an RW field, or an RWL one for a token; but for those that are RO where they stand. -/
def State.mayWrite (s : State) (w : RegWr) (f : FldDef) : Bool :=
  (decide (f.acc = .rw) || (decide (f.acc = .rwl) && w.signer.isSome)) &&
  (match w.p.blk with
   | .sluice => decide (w.off ≠ 0x308) || (decide (w.p.inst = 0) && s.noService)
   | .regionCtl => decide (w.off ≠ 0x500 + 4 * 31 ∨ f.lsb ≠ 9)
   | .headgate => decide (w.off ≠ 0x008)
   | .time => decide (w.off ≠ 0x340 ∨ f.lsb ≠ 0 ∨ bits (w.merged (s.reg w.addr)) 16 2 = 2)
   | _ => true)

/-- The writable fields whose written value differs from their present one (R505). -/
def State.changes (s : State) (w : RegWr) : List FldDef :=
  let old := s.reg w.addr
  w.fields.filter fun f => s.mayWrite w f && decide (f.of (w.merged old) ≠ f.of old)

/-- A field that LOCK keeps as it is (R40). -/
def State.lockedField (s : State) (w : RegWr) (f : FldDef) : Bool :=
  f.lock && decide (f.acc = .rw ∧ s.getP w.p F.LOCK_LOCKED = 1)

/-- The block is OFF, FAULT or ISOLATED. -/
def State.restful (s : State) (p : Page) : Bool := [stOff, stFault, stIsolated].contains (s.st p)

/-- The conditions of R154 on the strobe times and latencies of a port, as they would stand. -/
def strobesOk (t0 t1 lat : Nat) : Bool :=
  let sum := fun (a b : Nat) => bits lat 0 16 + bits lat 16 16 + 100 * (a + b)
  decide (bits t0 8 8 ≤ bits t0 0 8 ∧ bits t1 0 8 ≤ bits t1 8 8) && decide (sum (bits t0 0 8) (bits t0 16 8) ≤ 20000)
    && decide (sum (bits t1 8 8) (bits t1 16 8) ≤ 20000)

/-- The other conditions that a register's description gives for its new word. -/
def State.wrCond (s : State) (w : RegWr) (new : Nat) : Bool :=
  let p := w.p
  let f := fun (lsb width : Nat) => bits new lsb width
  match p.blk, w.off with
  | .dram, o => decide (o < 0x300) || s.restful pDRAM
  | .gnssMeas, 0x340 | .gnssMeas, 0x348 => decide (s.get F.BASE_CTRL_SURVEY_STATE ≠ 1)
  | .gnssMeas, 0x344 => decide (s.get F.SURVEY_MIN_DUR ≤ new ∧ s.get F.BASE_CTRL_SURVEY_STATE ≠ 1)
  | .time, 0x300 => decide (f 0 2 ≠ 3 ∧ f 2 2 ≠ 3 ∧ f 4 2 ≠ 3 ∧ f 0 2 ≠ f 2 2 ∧ f 0 2 ≠ f 4 2 ∧ f 2 2 ≠ f 4 2)
  | .airport, 0x300 => decide (s.st p = stOff)
  | .airport, 0x304 => strobesOk new (s.reg (p.adr 0x308)) (s.reg (p.adr 0x30C))
  | .airport, 0x308 => strobesOk (s.reg (p.adr 0x304)) new (s.reg (p.adr 0x30C))
  | .airport, 0x30C => strobesOk (s.reg (p.adr 0x304)) (s.reg (p.adr 0x308)) new
  | .flume, 0x300 => decide (s.st p = stOff)
  | .eth, 0x300 => decide (s.st p = stOff)
  | .sluice, 0x310 => decide (s.activeBank p.inst ≠ 0 ∧ s.get F.BANK_CTRL_ARMED p.inst = 0)
  | .sluice, 0x314 => decide (s.activeBank p.inst ≠ 1 ∧ s.get F.BANK_CTRL_ARMED p.inst = 0)
  | .sluice, 0x31C => decide (s.get F.BANK_CTRL_ARMED p.inst = 0)
  | .route, 0x300 => decide (f 0 1 = 0 ∨ f 0 1 = bits (s.reg w.addr) 0 1) || s.shadowPlaced (s.get F.SHADOW_BASE)
  | .motion, 0x304 => (List.range 512).all fun m => (s.motion m).order.all fun k => decide (MV.jMax.get (s.move m k) ≤ new)
  | .meter, 0x304 => decide (f 16 8 < f 0 8)
  | .canal, 0x320 => decide (f 8 7 ≤ 63 ∨ f 8 7 = 0x7F)
  | .boot, 0x310 => decide (4096 ≤ new ∧ new + 16 * 2 ^ 20 ≤ s.partSize 2)
  | _, _ => true

/-- The value of a field stands in its stated range. -/
def FldDef.inRange (f : FldDef) (x : Nat) : Bool := decide (f.lo ≤ f.of x ∧ f.of x ≤ f.hi)

/-- A trigger field that is written with a value it does not take. -/
def RegWr.badTrigger (w : RegWr) : Bool := match w.p.blk, w.off with
  | .boot, 0x308 => !([0, 1, 2, 4] : List Nat).contains (bits (Nat.land w.value w.mask) 0 3)
  | _, _ => false

/-- The whole write is refused: a changed field outside its range, or a condition not met; a write to a copy of what instance 0
holds. -/
def State.wrRefused (s : State) (w : RegWr) (l : List FldDef) : Bool :=
  let new := w.merged (s.reg w.addr)
  (decide (l ≠ []) && (!(l.all (·.inRange new)) || !s.wrCond w new || mirrored w.p w.off)) || w.badTrigger

/-! ### What an applied write changes -/

/-- Fields that have a command of their own in place of plain storing: CTRL.EN, ARB_CTRL.FREEZE, PAIR_CTRL.WARM, PWR_CTRL. -/
def ownField (w : RegWr) (f : FldDef) : Bool := match w.p.blk, w.off with
  | _, 0x008 => true
  | .regionCtl, 0x408 => decide (f.lsb = 0)
  | .pair, 0x30C => decide (f.lsb = 1)
  | .keep, 0x310 => true
  | _, _ => false

/-- The changed fields are stored. -/
def State.storeFields (s : State) (w : RegWr) (l : List FldDef) : State :=
  let old := s.reg w.addr
  let new := w.merged old
  s.setReg w.addr (l.foldl (fun x f => setBits x f.lsb f.width (f.of new)) old)

/-- W1C fields clear where a 1 is written. -/
def State.clearW1c (s : State) (w : RegWr) : State :=
  let ones := Nat.land w.value w.mask
  let old := s.reg w.addr
  s.setReg w.addr ((w.fields.filter fun f => f.acc = .w1c).foldl (fun x f =>
    setBits x f.lsb f.width (f.of x - Nat.land (f.of x) (f.of ones))) old)

/-- ERR_STATUS is cleared: ERR_SUMMARY shows the block only while a class bit that an unmasked error set stays (R53). -/
def State.clearErr (s : State) (w : RegWr) : State :=
  let s := s.clearW1c w
  let g := s.page w.p
  let s := s.setPage w.p { g with shown := Nat.land g.shown (s.reg w.addr % 8) }
  let any := (pagesOfSource w.p.irqSource).any fun q => decide ((s.page q).shown ≠ 0)
  if any then s
  else
    let v := s.get F.ERR_SUMMARY w.p.region
    s.set F.ERR_SUMMARY (Nat.land v (2 ^ 32 - 1 - 2 ^ w.p.blk.num)) w.p.region

/-- IRQ_STATUS is cleared; TIME's time-stamp bits stay set while a stamp waits (R107). -/
def State.clearIrq (s : State) (w : RegWr) : State :=
  let s := s.clearW1c w
  if w.p.blk = .time then
    let s := if s.tm.txts0 = [] then s else s.irq pTIME 11
    if s.tm.txts1 = [] then s else s.irq pTIME 12
  else s

/-- What follows the storing of fields (R54, R55, R292, R315, R416, R470). -/
def State.afterStore (s : State) (w : RegWr) : State := match w.p.blk, w.off with
  | _, 0x020 => if s.pageAsserts w.p then s.assertSrc w.p.irqSource else s
  | .irq, o =>
    let n := (o - 0x300) / 4
    if 0x300 ≤ o ∧ o < 0x800 ∧ s.srcAsserts n then s.assertSrc n else s
  | .dispatch, _ => s.drainBacklog.preempt
  | .gnssRf, 0x300 => s.pwrSet w.p.inst
  | .gnssMeas, 0x360 => s.setActive
  | .gnssAcq, 0x304 => s.setActive
  | .dram, 0x300 => s.set F.DRAM_STATUS_USABLE s.dramUsable
  | .evlog, 0x300 => s.extDrain.hostDrain
  | .headgate, 0x300 => s.outsCheck
  | .meter, o => if o = 0x320 ∨ o = 0x324 then
      let k := (o - 0x320) / 4
      s.setPulse k { s.pulse k with remK := 0, backlog := 0 }
    else s
  | _, _ => s

/-- A command that a field of a register starts. -/
def State.doit (s : State) (c : Bool) (f : State → Res) : State := if c then Res.state s (f s) else s

/-- The host's write of SPOOF alone clears it (R77). -/
def Src.isHost : Src → Bool
  | .host | .bar2 _ => true
  | _ => false

/-- CTRL, ERR_INJECT, IRQ_FORCE and LOCK of any page (R40, R43 to R48, R54). IRQ_FORCE itself keeps nothing and
reads 0 (DESIGN CHOICE, log entry 19). -/
def State.headerAct (s : State) (w : RegWr) : State := match w.off with
  | 0x008 =>
    let s := if w.mask % 2 = 1 then s.writeEn w.src w.p (w.one 0) else s
    (s.doit (w.one 1) (execCtrlRestart w.p)).doit (w.one 2) (execIsoClear w.p)
  | 0x018 => s.errInject w.src w.p (bits w.value 0 2) (bits w.value 8 8)
  | 0x024 => s.irqBits w.p (Nat.land (Nat.land w.value w.mask) 0xFFFFFF07)
  | 0x030 => if w.one 0 ∧ w.p.blk.lockable then s.setP w.p F.LOCK_LOCKED 1 else s
  | _ => s

/-- The fields of the blocks that act when written (R19, R55, R74, R77, R157, R163, R175, R252, R256, R293, R338, R339, R351,
R388, R421, R428, R439, R443, R448, R456, R459, R462). VEC_ACK counts for the host alone, and takes its
value modulo 64 (DESIGN CHOICE, log entry 21). -/
def State.blockAct (s : State) (w : RegWr) (x : WrExt) : State :=
  let i := w.p.inst
  let v := Nat.land w.value w.mask
  match w.p.blk, w.off with
  | .irq, 0x800 => s.on w.src.isHost fun s => s.vecAck (v % 64)
  | .clock, 0x304 => s.doit (w.one 0) execReturnReq
  | .gnssMeas, 0x308 => s.on (w.one 2) State.surveyStart
  | .airport, 0x334 => s.doit (w.one 0) (execSpiTxnGo i (s.get F.SPI_TXN_LEN i))
  | .airport, 0x344 => s.doit (w.one 0) (execFaultClr i)
  | .sluice, 0x318 => (s.doit (w.one 2) (execBankArm i)).doit (w.one 3) (execBankCancel i)
  | .lease, 0x320 => s.on (w.one 0) fun s => s.lostClr w.src
  | .registry, 0x310 => s.on (w.one 16) State.hostBump
  | .headgate, 0x310 => s.doit (decide (v % 8 ≠ 0)) (execStopReq w.src (v % 8))
  | .regionCtl, 0x408 =>
    let s := if w.mask % 2 = 1 then s.freezeWrite i w.src (w.one 0) else s
    s.on (w.one 13) fun s => s.lwClr i (bits v 8 5)
  | .flume, 0x324 => s.on (w.one 8) fun s => s.qevClr (v % 64)
  | .pair, 0x30C =>
    let s := s.doit (w.one 0) execPairKick
    if bit w.mask 1 ∧ s.get F.PAIR_CTRL_WARM ≠ b2n (w.one 1) then s.warm (w.one 1) else s
  | .keep, 0x304 => s.doit (w.one 8) (execLcRetire x.burnOk)
  | .keep, 0x310 => if s.get F.PWR_CTRL_TARGET = v % 4 then s else s.powerTo (v % 4)
  | .keystore, 0x318 => ((s.doit (w.one 0) (execTokOpen w.src)).doit (w.one 1) (execTokGo w.src)).doit (w.one 2) (execTokRelease w.src)
  | .keystore, 0x5A0 => s.doit (w.one 0) execAttGo
  | .debug, 0x304 =>
    let s := (s.doit (w.one 1) execDbgOpenObserve).doit (w.one 2) execDbgOpenFull
    (s.doit (w.one 3) (execCertGo x.sigOk)).doit (w.one 4) execDbgEnd
  | .boot, 0x304 => s.doit (w.one 0) (execBootOk w.src)
  | .boot, 0x308 => match v % 8 with
    | 1 => s.doit true (execUpdVerify x.set)
    | 2 => s.doit true execUpdProgram
    | 4 => s.doit true execUpdCancel
    | _ => s
  | .boot, 0x340 => s.doit (w.one 0) (execRcvGo x.img)
  | _, _ => s

/-- Fields that clear where a 1 is written, SPOOF and those of the header with their rules. -/
def State.w1cAct (s : State) (w : RegWr) : State := match w.p.blk, w.off with
  | _, 0x010 => s.clearErr w
  | _, 0x01C => s.clearIrq w
  | .gnssMeas, 0x364 => s.on (w.one 1 && w.src.isHost) State.spoofClear
  | _, _ => s.clearW1c w

/-- The token buffer is written by its owner alone (R428); a debug certificate is kept though it reads zero (R444). -/
def State.bufferWrite (s : State) (w : RegWr) : Option State := match w.p.blk with
  | .keystore =>
    if 0x400 ≤ w.off ∧ w.off < 0x500 then
      some (if s.get F.TOK_STATUS_OWNER = w.src.code then s.setReg w.addr w.value else s)
    else none
  | .debug => if 0x400 ≤ w.off ∧ w.off < 0x480 then some (s.setReg w.addr w.value) else none
  | _ => none

/-- A plain write's RWL fields that it would change (R47). -/
def State.rwlTouched (s : State) (w : RegWr) : Bool :=
  w.signer.isNone && w.fields.any fun f => decide (f.acc = .rwl ∧ f.of (w.merged (s.reg w.addr)) ≠ f.of (s.reg w.addr))

/-- A write is applied: stored fields, then W1C, then what it starts. -/
def State.applyWrite (s : State) (w : RegWr) (x : WrExt) : State :=
  let l := (s.changes w).filter fun f => !(s.lockedField w f) && !(ownField w f)
  let s := if l = [] then s else s.storeFields w l
  let s := s.afterStore w
  ((s.w1cAct w).headerAct w).blockAct w x

/-- A write of a register that its page defines (R40, R47, R505): discarded and counted, or applied whole but for the fields
that LOCK or a missing token keeps as they are, which count as one refused write. -/
def State.regWrite (s : State) (w : RegWr) (x : WrExt) : State :=
  match s.bufferWrite w with
  | some s => s
  | none =>
    let l := (s.changes w).filter fun f => !(s.lockedField w f)
    if s.wrRefused w l then s.refuseCfg w.p
    else
      let locked := (s.changes w).any fun f => s.lockedField w f && !(ownField w f)
      let s := if locked || s.rwlTouched w then s.refuseRwl w.src w.addr else s
      s.applyWrite w x

/-- A write of the table window (R49, R506). -/
def State.windowWrite (s : State) (src : Src) (p : Page) (off v : Nat) : State :=
  let busy := decide (s.reg p.tblStatus % 2 = 1)
  if off = 0x200 then s.tblStart (.page src) p (v % 16) (v / 16 % 16) (v / 256 % 2 ^ 24)
  else if off = 0x204 then s.setReg p.tblStatus (s.reg p.tblStatus - Nat.land (Nat.land (s.reg p.tblStatus) v) 6)
  else if (0x210 ≤ off ∧ off < 0x220) ∨ (0x240 ≤ off ∧ off < 0x280) then (if busy then s else s.setReg (p.adr off) v)
  else s

/-- A write to the clock-gated regions of a cold standby is discarded at the bridge (R337, R386). -/
def State.coldWrite (s : State) (p : Page) : State := s.incP ⟨.regionCtl, p.region⟩ C.REGION_CTL_BRIDGE_ISO

/-- A plain write of a word at a BAR0 address; while the clocks are gated it is held (R17, R20). One of an application core is an access fault but
at STOP_REQ (R323). -/
def State.plainWrite (s : State) (src : Src) (addr value : Nat) (x : WrExt) : State :=
  if !s.powered ∨ s.jtagBarsAt src addr true then s
  else if s.gated then s.gapHold (.write src addr value x)
  else match coreFault src addr true with
  | some n => s.inc C.CORE_ACCESS_FAULT n
  | none => match Page.ofAddr addr with
  | none => s.unmapped src addr true
  | some p =>
    let off := addr % 0x1000
    if !s.decodes p off then s.unmapped src addr true
    else if s.coldGated p then s.coldWrite p
    else if 0x200 ≤ off ∧ off < 0x280 then s.windowWrite src p off (value % 2 ^ 32)
    else s.regWrite { src := src, p := p, off := off, value := value % 2 ^ 32 } x

end Sys2Proof.Machine
end

