-- ==== Sys2Proof/Machine/Bus.lean ====
section
/-! DEFINITION. Plain accesses by address: what a read returns and what it latches (R38 to R42, R81, R109), writes of registers,
unmapped accesses, and the accesses of rows of their own that are register writes (R40, R54, R416, R505). -/
namespace Sys2Proof.Machine
open Sys2Proof

/-! ### What a register reads as -/

/-- A read of a counter: the low word, which latches the high word for the source; or the word latched (R42). -/
def State.counterWord (s : State) (src : Src) (a : Nat) : Nat × State :=
  if a % 8 = 0 then
    let v := (AMap.get (fun _ => (0 : BitVec 64)) s.ctrs a).toNat
    (v % 2 ^ 32, { s with latch := AMap.set (fun _ => 0) s.latch (latchKey src (a + 4)) (BitVec.ofNat 32 (v / 2 ^ 32)) })
  else ((AMap.get (fun _ => (0 : Word)) s.latch (latchKey src a)).toNat, s)

/-- Whole seconds left of a time limit, saturating at 16 bits. -/
def leftOf (end_ now unit : Nat) : Nat := min 0xFFFF ((end_ - now) / unit)

/-- Registers that show what the state holds elsewhere. -/
def State.shown (s : State) (src : Src) (p : Page) (off : Nat) : Nat :=
  let w := s.reg (p.adr off)
  match p.blk, off with
  | .irq, 0x810 => (List.range 32).foldl (fun m v => m + b2n (s.vecAsserts v) * 2 ^ v) 0
  | .irq, 0x814 => (List.range 32).foldl (fun m v => m + b2n (s.vecAsserts (32 + v)) * 2 ^ v) 0
  | .fault, 0x300 => setBits w 4 1 (b2n s.rising)
  | .regionCtl, 0x308 => (List.range 32).foldl (fun m b => m + b2n (s.srcAsserts (p.inst * 32 + b)) * 2 ^ b) 0
  | .time, 0x314 => s.nowSec src false
  | .time, 0x318 => s.nowSec src true
  | .pair, 0x31C => s.cfgHash
  | .flume, 0x320 => setBits w 17 1 (b2n s.funnelled)
  | .lease, 0x318 => setBits w 20 3 (s.cells .lease)
  | .airport, 0x340 => setBits (setBits w 3 1 (b2n (s.hgHolds p.inst))) 4 4 (s.strobesNow p.inst)
  | .headgate, 0x318 => match s.hg.armedAt with
    | some t => setBits w 16 16 (leftOf (t + sec 5) s.now (ms 1))
    | none => w
  | .debug, 0x300 => match s.dbg.endAt with
    | some t => setBits w 16 16 (leftOf t s.now (sec 1))
    | none => w
  | .evlog, 0x30C => s.seqSpan.1
  | .evlog, 0x308 => (s.ev.nextSeq + 2 ^ 32 - 1) % 2 ^ 32
  | .evlog, 0x310 => s.extCap
  | .keystore, o => if 0x400 ≤ o ∧ o < 0x500 ∧ s.get F.TOK_STATUS_OWNER ≠ src.code then 0 else w
  | .debug, o => if 0x400 ≤ o ∧ o < 0x480 then 0 else w
  | _, _ => w

/-- A read of a register that its page defines: the word, and what the read does: a counter or NOW_NS latches, the owner's read of
TXTS_W3 pops. -/
def State.regView (s : State) (src : Src) (p : Page) (off : Nat) : Nat × State :=
  let q : Page := if mirrored p off then ⟨p.blk, 0⟩ else p
  if 0x040 ≤ off ∧ off < 0x040 + 8 * p.blk.ncount then s.counterWord src (p.adr off)
  else if arbCounter p off then (if off % 0x20 < 0x18 then s.counterWord src (p.adr off) else (0, s))
  else if 0x200 ≤ off ∧ off < 0x280 then (s.reg (p.adr off), s)
  else match p.blk, off with
    | .time, 0x310 => s.nowRead src
    | .time, 0x38C => (s.shown src p off, if s.txtsOwner src then s.setTxts 0 ((s.txts 0).drop 1) else s)
    | .time, 0x39C => (s.shown src p off, if s.txtsOwner src then s.setTxts 1 ((s.txts 1).drop 1) else s)
    | _, _ => (s.shown src q off, s)

/-- A read at a BAR0 address: an unmapped one, and one of a page that a cold standby gates, return all ones (R38, R337, R386). -/
def State.busRead (s : State) (src : Src) (addr : Nat) : Nat × State :=
  if !s.powered then (0xFFFFFFFF, s)
  else match Page.ofAddr addr with
  | none => (0xFFFFFFFF, s.unmapped src addr false)
  | some p =>
    let off := addr % 0x1000
    if !s.decodes p off then (0xFFFFFFFF, s.unmapped src addr false)
    else if s.coldGated p then (0xFFFFFFFF, s.coldWrite p)
    else s.regView src p off

/-! ### Commands -/

/-- A write of a register (R505). A poisoned write TLP is discarded and counted (R346). -/
def execRegisterWrite (src : Src) (addr value : Nat) (x : WrExt) (s : State) : Res :=
  if x.poisoned ∧ src = .host then .next (if s.powered then s.inc C.PCIE_POISONED else s)
  else .next (s.plainWrite src addr value x)

/-- A read at an address; that of a 64-bit counter's low word latches its high word for the source (R42). An application core's read of a KEEP page
is an access fault (R323). -/
def execCounterRead (src : Src) (addr : Nat) (s : State) : Res :=
  if s.jtagBarsAt src addr false then .next s
  else if s.powered ∧ s.gated then .next (s.gapHold (.read src addr))
  else match coreFault src addr false with
  | some n => .next (if s.powered then s.inc C.CORE_ACCESS_FAULT n else s)
  | none =>
    let (v, s) := s.busRead src addr
    .next (s.emit (.readData src v))

/-- An access of a wrong width or alignment (`bad`), or to an address that nothing decodes (R38); of any other this is not the
command. -/
def execUnmappedAccess (src : Src) (addr : Nat) (write bad : Bool) (s : State) : Res :=
  let mapped : Bool := match Page.ofAddr addr with | some p => s.decodes p (addr % 0x1000) | none => false
  if !s.powered ∨ (mapped ∧ !bad) ∨ s.jtagBarsAt src addr write then .next s
  else if s.gated then .next (s.gapHold (.bad src addr write))
  else match coreFault src addr write with
  | some n => .next (s.inc C.CORE_ACCESS_FAULT n)
  | none =>
    let s := s.unmapped src addr write
    .next (if write then s else s.emit (.readData src 0xFFFFFFFF))

/-- IRQ_FORCE is written: the same bits of IRQ_STATUS are set (R54). -/
def execIrqForce (src : Src) (p : Page) (mask : Nat) (s : State) : Res := .next (s.plainWrite src (p.base + 0x024) mask {})

/-- LOCK.LOCKED is written 1 (R40). -/
def execLockWrite (src : Src) (p : Page) (s : State) : Res := .next (s.plainWrite src (p.base + 0x030) 1 {})

/-- PULSE_CFG of a pulse output is written: its remainder and backlog clear (R416). -/
def execPulseCfgWrite (src : Src) (k value : Nat) (s : State) : Res :=
  if 2 ≤ k then .next s else .next (s.plainWrite src (Page.base ⟨.meter, 0⟩ + 0x320 + 4 * k) value {})

end Sys2Proof.Machine
end

