-- ==== Sys2Proof/Machine/FlumeRx.lean ====
section
/-! DEFINITION. Flume frames from the host (R347, R348, R354, R355), the records they carry (R358 to R360, R365), what leaves the
partitions of DRAM, and the receive buffer of a port (R357). -/
namespace Sys2Proof.Machine
open Sys2Proof

/-- Words of bytes, least significant byte first. -/
def wordsFrom (n : Nat) (b : List Nat) : List Nat := (List.range n).map fun i => ofBytes ((b.drop (4 * i)).take 4)

/-- A record that is discarded as malformed (R358). -/
def State.malformed (s : State) : State := s.inc C.FLUME_MALFORMED

/-! ### CMD and POST (R358, R359) -/

/-- A record that names no table operation of a page completes with an error. -/
def State.cmdDone (s : State) (queue tag err wire : Nat) : State := s.writeCompl .host queue ⟨tag, err, wire, 0, none⟩

/-- Why a host tag is not taken: BAD_TAG, TAG_BUSY; 0 when it is (R50). -/
def State.tagErr (s : State) (tag : Nat) : Nat := if 0x7F < tag then 0x0B else if s.tagBusy tag then 0x0A else 0

/-- A CMD record starts its tagged operation. -/
def State.cmdRec (s : State) (queue : Nat) (b : List Nat) : State :=
  let tag := nth 0 b 0
  let op := nth 0 b 1
  let where_ := nth 0 b 2
  let inst := nth 0 b 3 % 16
  let index := ofBytes ((b.drop 4).take 3)
  let via : Via := .tag .host tag queue (wordsFrom 4 (b.drop 8)) (ofBytes (b.drop 24))
  let page : Option Page := match Blk.of (where_ / 32) (where_ % 32) with
    | some .regionCtl => if inst = 0 then some ⟨.regionCtl, where_ / 32⟩ else none
    | some k => if inst < k.count then some ⟨k, inst⟩ else none
    | none => none
  match page with
  | some p => s.tblStart via p (op % 16) (op / 16) index
  | none =>
    let e := s.tagErr tag
    s.cmdDone queue tag (if e = 0 then 0x05 else e) (where_ + inst * 256)

/-- POST (R359): a host item with a payload of up to 2,047 bytes. -/
def postRecFn (flow kind arg arg2 : Nat) (body : List Nat) : TFn := fun s _ _ =>
  if 576 ≤ flow then (s, some { err := 0x04 })
  else match s.offer { flow := flow, src := srcHOST, kind := kind, arg := arg, arg2 := arg2, body := body } with
    | (s, .refused) => (s, some { err := 0x03 })
    | (s, _) => (s, some {})

/-- A POST record. -/
def State.postRec (s : State) (queue : Nat) (b : List Nat) : State :=
  let n := ofBytes ((b.drop 6).take 2)
  if 2047 < n ∨ b.length ≠ 16 + n then s.malformed
  else
    let flow := ofBytes ((b.drop 2).take 2) % 1024
    s.tblOp (Via.tag .host (nth 0 b 0) queue [] 0) pDISP 8 0 0
      (postRecFn flow (nth 0 b 4) (ofBytes ((b.drop 8).take 4)) (ofBytes ((b.drop 12).take 4)) (b.drop 16))

/-! ### DRAM (R360) -/

/-- Free bytes: the spec does not say where a partition holds what is read. -/
def State.freeBytes (s : State) : Nat → List Nat × State
  | 0 => ([], s)
  | n + 1 =>
    let (v, s) := s.free
    let (l, s) := s.freeBytes n
    (toBytes 4 v ++ l, s)

/-- A byte of the event log extension: record SEQ stands in slot SEQ modulo the capacity (DESIGN CHOICE, log entry 86). -/
def State.extByte (s : State) (off : Nat) : Nat :=
  match s.ev.ext.find? fun r => decide (0 < s.extCap ∧ r.seq % s.extCap = off / 32) with
  | some r => nth 0 r.bytes (off % 32)
  | none => 0

/-- Bytes of a partition as they stand; of the checkpoint area and the trace, whose layout the spec leaves open, free values. -/
def State.partBytes (s : State) (part off n : Nat) : List Nat × State :=
  if part = 0 then ((List.range n).map fun j => s.extByte (off + j), s)
  else if part = 2 ∨ part = 4 then
    ((List.range n).map fun j => (AMap.get (fun _ => (0 : Byte)) s.dram (s.partBase part + off + j)).toNat, s)
  else s.freeBytes (n / 4)

/-- The oldest DRAM_READ goes on: a data record of at most 2,048 bytes where queue 28 has room, then its completion; one that meets
DRAM not ON receives nothing more and is ABORTED. -/
def State.readTurn (s : State) : State := match s.lk.reads with
  | [] => s
  | r :: rest =>
    let done := fun (s : State) (e : Nat) => ({ s with lk := { s.lk with reads := rest } }).cmdDone r.queue r.tag e pDRAM.wire
    if r.left = 0 then done s 0
    else if ¬ s.isOn .dram then done s 0x09
    else
      let n := min 2048 r.left
      if !s.qRoom 28 (8 + n) then s
      else
        let (b, s) := (s.dramMet (s.partBase r.part + r.off) n).partBytes r.part r.off n
        let s : State := { s with lk := { s.lk with reads := { r with off := r.off + n, left := r.left - n } :: rest } }
        s.qPush 28 (8 + n) (.bytes 6 ([r.tag, r.part, 0, 0] ++ toBytes 4 r.off ++ b))

/-- DRAM_READ records go on as far as queue 28 has room. -/
def State.readPump (s : State) : State :=
  s.each (List.range (s.lk.reads.foldl (fun n r => n + r.left / 2048 + 2) 0)) fun s _ => s.readTurn

/-- Why a DRAM access does not begin. -/
def State.dramErr (s : State) (tag part off len most : Nat) : Nat :=
  let e := s.tagErr tag
  if e ≠ 0 then e
  else if ¬ s.isOn .dram then 0x06
  else if off % 4 ≠ 0 ∨ len % 4 ≠ 0 ∨ len < 4 ∨ most < len then 0x0C
  else if 5 ≤ part ∨ s.partSize part < off + len then 0x04
  else 0

/-- A DRAM_READ record. -/
def State.dramReadRec (s : State) (queue : Nat) (b : List Nat) : State :=
  let tag := nth 0 b 0
  let part := nth 0 b 1
  let off := ofBytes ((b.drop 4).take 4)
  let len := ofBytes ((b.drop 8).take 4)
  let e := s.dramErr tag part off len (2 ^ 24)
  if e ≠ 0 then s.cmdDone queue tag e pDRAM.wire
  else
    let r : DRead := ⟨tag, queue, part, off, len⟩
    let s : State := { s with lk := { s.lk with reads := s.lk.reads ++ [r] } }
    s.readPump

/-- A DRAM_WRITE record: into the image staging partition alone, and not while an update reads or writes it (R360, R460). -/
def State.dramWriteRec (s : State) (b : List Nat) : State :=
  let tag := nth 0 b 0
  let part := nth 0 b 1
  let off := ofBytes ((b.drop 4).take 4)
  let data := b.drop 8
  let e := s.tagErr tag
  let e := if e ≠ 0 then e else if part ≠ 2 ∨ s.get F.UPD_STATUS_BUSY = 1 then 0x0C else s.dramErr tag part off data.length 2048
  let s := if e = 0 then s.dramWrite (s.partBase 2 + off) data else s
  s.cmdDone 0 tag e pDRAM.wire

/-! ### PTP from the host (R104, R365) -/

/-- A PTP record of queue 25: the frame is sent as given, with one step where ONE_STEP says so. -/
def State.ptpRec (s : State) (b : List Nat) : State :=
  let port := nth 0 b 0
  let f := b.drop 4
  let m := f.drop (ptpOffset f)
  if 2 ≤ port ∨ ¬ s.isOn .eth port ∨ s.get F.ETH_STATUS_LINK port = 0 then s
  else s.ptpTx port (ptpType f) (nth 0 m 4) (nth 0 m 30 * 256 + nth 0 m 31) (bit (nth 0 b 1) 0) f

/-! ### Records and frames -/

/-- A whole record of a queue (R348): each RTYPE on its queues and of its length, else it is malformed. -/
def State.runRec (s : State) (queue rtype : Nat) (b : List Nat) : State := match rtype with
  | 1 => if queue < 8 ∧ (b.length = 24 ∨ b.length = 88) then s.cmdRec queue b else s.malformed
  | 2 => if queue < 8 ∧ 16 ≤ b.length then s.postRec queue b else s.malformed
  | 3 => if queue < 8 ∧ b.length = 12 then s.dramReadRec queue b else s.malformed
  | 4 => if queue = 27 ∧ 8 < b.length then s.dramWriteRec b else s.malformed
  | 8 => if queue = 25 ∧ 18 ≤ b.length then s.ptpRec b else s.malformed
  | _ => s.malformed

/-- What has come of a record in fragments: RTYPE, then the bytes. -/
def State.setPart (s : State) (queue : Nat) (l : List Nat) : State :=
  let s : State := { s with lk := { s.lk with part := AMap.set (fun _ => []) s.lk.part queue l } }
  s.setQ queue { s.q queue with inFill := l.length - 1 }

/-- One fragment (R348): the whole record is acted on with its LAST fragment; one out of order is malformed. -/
def State.fragRec (s : State) (queue : Nat) (x : Nat × Nat × List Nat) : State :=
  let (rtype, flags, b) := x
  let have_ := AMap.get (fun _ => []) s.lk.part queue
  let first := bit flags 0
  let s := if first ∧ have_ ≠ [] then (s.setPart queue []).malformed else s
  if !first ∧ (have_ = [] ∨ nth 0 have_ 0 ≠ rtype) then (s.setPart queue []).malformed
  else
    let all := if first then rtype :: b else have_ ++ b
    if bit flags 1 then (s.setPart queue []).runRec queue rtype (all.drop 1) else s.setPart queue all

/-- The records of a frame: RTYPE, RFLAGS and payload of each; none where they do not add up (R347, R348). -/
def parseRecs : Nat → List Nat → Option (List (Nat × Nat × List Nat))
  | 0, b => if b = [] then some [] else none
  | n + 1, b =>
    let len := ofBytes (b.take 2)
    let size := 4 + (len + 3) / 4 * 4
    if b.length < size ∨ 8 ≤ nth 0 b 3 then none
    else (parseRecs n (b.drop size)).map fun l => (nth 0 b 2, nth 0 b 3, (b.drop 4).take len) :: l

/-- The entries of a CREDIT frame (R356). -/
def parseCredits : Nat → List Nat → List Credit
  | 0, _ => []
  | n + 1, b => ⟨nth 0 b 0 % 64, nth 0 b 1 % 64, ofBytes ((b.drop 2).take 2), ofBytes ((b.drop 4).take 4)⟩ :: parseCredits n (b.drop 8)

/-- A frame to the chip that is not accepted (R351, R354). -/
def State.denyFrame (s : State) (queue : Nat) : State :=
  let q := s.q queue
  (s.setQ queue { q with discard := satAdd q.discard 1 0xFFFFFFFF }).qevent queue 2

/-- A DATA frame for a queue of this chip (R354, R355): accepted in sequence, its records acted on in their order; a repeat calls for
a CREDIT frame within 20 µs. -/
def State.flumeData (s : State) (queue seq session : Nat) (l : List (Nat × Nat × List Nat)) : State :=
  if session ≠ s.get F.FLUME_STATUS_SESSION then (s.inc C.FLUME_STALE_SESSION).denyFrame queue
  else
    let s := s.hostSeen
    let q := s.q queue
    if !q.toChip || !q.en || s.fifoOff ⟨.flume, 0⟩ queue then s.denyFrame queue
    else if seq = (q.ackSeq + 1) % 2 ^ 32 ∧ 1 ≤ s.grantWindow q then
      let s := (s.setQ queue { q with txSeq := seq, ackSeq := seq }).wantCredit (s.get F.CREDIT_PERIOD)
      s.each l fun s x => s.fragRec queue x
    else
      let s := s.denyFrame queue
      if later seq q.ackSeq 32 then s else s.wantCredit 20

/-- A frame whose ZONE is another chip's: the head of a funnelling site passes it on, where that zone has a numbered chip
(R361). -/
def State.zoneFrame (s : State) (zone : Nat) (b : List Nat) : State :=
  if s.isHead ∧ s.get F.FLUME_CFG_FUNNEL_EN = 1 ∧ zone < s.get F.RING_STATUS_POSITIONS then s.canalUnicast zone 0 (.bulkIn b)
  else s.inc C.FLUME_NO_ZONE

/-- A Flume frame, header and records (R347): in recovery a chunk record of TYPE 2 alone is taken (R461). -/
def State.flumeIn (s : State) (b : List Nat) (i : ImgSeen) : State :=
  let typ := nth 0 b 1
  let queue := nth 0 b 2
  let zone := nth 0 b 3
  let seq := ofBytes ((b.drop 4).take 4)
  let session := ofBytes ((b.drop 8).take 2)
  let len := ofBytes ((b.drop 10).take 2)
  let n := ofBytes ((b.drop 12).take 2)
  let body := (b.drop 16).take len
  let bad := decide (b.length < 16 ∨ nth 0 b 0 ≠ 1 ∨ 64 ≤ queue ∨ 64 ≤ zone ∨ (b.drop 14).take 2 ≠ [0, 0] ∨ b.length < 16 + len)
  if bad then s.inc C.FLUME_BAD_FRAME
  else if s.boot.waiting then
    (if typ = 2 ∧ queue = 0 ∧ zone = 0 ∧ seq = 0 ∧ session = 0 then s.chunkRx 1 body i else s)
  else match typ with
    | 0 => match parseRecs n body with
      | none => s.inc C.FLUME_BAD_FRAME
      | some l => if zone ≠ s.number then s.zoneFrame zone b else s.flumeData queue seq session l
    | 1 =>
      if len ≠ 8 * n then s.inc C.FLUME_BAD_FRAME
      else if zone ≠ s.number then s.zoneFrame zone b
      else s.creditRx session (parseCredits n body)
    | 2 => s.inc C.FLUME_BAD_FRAME
    | _ => s

/-- A Flume frame has come on a port of this chip; a chip that funnels takes none there (R361). -/
def State.flumePort (s : State) (b : List Nat) (i : ImgSeen) : State :=
  if ¬ s.isOn .flume then s
  else
    let s := s.inc C.FLUME_FRAMES_RX
    if s.funnelled then s.inc C.FLUME_BAD_FRAME else s.flumeIn b i

/-- LINK is frozen: received frames stay in the buffer (R338, R357). -/
def State.linkFrozen (s : State) : Bool := decide (s.get F.ARB_CTRL_FREEZE 5 = 1)

/-- The frames of a port's receive buffer are taken up in their order, as far as they can be (R353, R357). -/
def State.ethDrain (s : State) (port : Nat) (i : ImgSeen) : State :=
  if s.linkFrozen then s
  else
    let e := s.ethSt port
    let s := s.setEth port { e with buf := [] }
    s.each e.buf fun s x =>
      if x.2.2.etype = s.get F.FLUME_CFG_ETHERTYPE then s.flumePort x.2.2.body i else s.ptpRx port x.2.1 x.2.2

/-- The bytes that a port's receive buffer holds. -/
def rxBuffer : Nat := 32 * 1024

/-- A frame of EtherType FLUME arrives on a port: one that meets a full buffer is not received (R357). `i` is the image that a
recovery record completes. -/
def execFlumeFrameRx (port : Nat) (f : EthFrame) (i : ImgSeen) (s : State) : Res :=
  if 2 ≤ port ∨ !s.powered then .next s
  else if s.boot.waiting then
    .next (if f.fcsOk ∧ (f.da = s.macOf port ∨ f.da = 0xFFFFFFFFFFFF) ∧ f.etype = s.get F.FLUME_CFG_ETHERTYPE then s.flumeIn f.body i else s)
  else if ¬ s.isOn .eth port then .next s
  else if rxBuffer < (s.ethSt port).fill + f.body.length + 18 then .next (s.inc C.ETH_RX_NO_BUF port)
  else
    let (s, ok) := s.ethTake port f
    if !ok then .next s
    else if f.etype ≠ s.get F.FLUME_CFG_ETHERTYPE then .next (s.inc C.ETH_RX_DISCARD port)
    else if s.linkFrozen then
      let e := s.ethSt port
      .next ((s.setEth port { e with buf := e.buf ++ [((f.vlan.map (·.2)).getD 0, s.fleet01, f)] }).xoff port)
    else .next ((s.ethDrain port i).flumePort f.body i)

/-- While the receive buffer stays above PFC_XOFF its pause is sent again every 250 µs; below half of it the pause ends (R357). -/
def execPfcXoffRepeat (port : Nat) (s : State) : Res :=
  if 2 ≤ port ∨ ¬ s.isOn .eth port then .next s else .next ((s.ethDrain port {}).xoff port)

/-- The completions that wait are written where their queues have room, each queue in its order, and the DRAM_READ records go on
(R50, R358, R360). -/
def execTagCompletion (s : State) : Res :=
  let l := s.tags
  let s : State := { s with tags := [] }
  .next (s.each l fun s x => s.writeCompl .host x.1 x.2).readPump

end Sys2Proof.Machine
end

