-- ==== Sys2Proof/Machine/CanalRx.lean ====
section
/-! DEFINITION. Canal messages that arrive: duplicates, delivery by class and forwarding (R370 to R376), and the register tunnel
(R40, R381, R382). -/
namespace Sys2Proof.Machine
open Sys2Proof

/-! ### The register tunnel at the head -/

/-- Window z's bit of TUN_STANDBY: 0 the unit that holds the active claim, 1 the other. -/
def State.tunUnit (s : State) (z : Nat) : Nat :=
  if z < 32 then bits (s.get F.TUN_STANDBY_LO) z 1 else bits (s.get F.TUN_STANDBY_HI) (z - 32) 1

/-- An access to a zone may be sent: no earlier one waits, at most 16 writes are unacknowledged, and the way is that of those
outstanding (R381, R382). -/
def State.tunMay (s : State) (a : TunAccess) (ahead : List TunAccess) : Bool :=
  let out := s.canal.tun.filter fun x => x.zone = a.zone
  !(ahead.any fun x => x.zone = a.zone) && (!a.write || decide ((out.filter (·.write)).length < 16))
    && (decide (out = []) || decide (AMap.get (fun _ => none) s.canal.path a.zone = s.canalWay a.zone))

/-- An access is sent as a REG message. -/
def State.tunSend (s : State) (a : TunAccess) : State :=
  let c := s.canal
  let s : State := { s with canal := { c with tun := c.tun ++ [{ a with sentAt := s.now }],
                                              path := AMap.set (fun _ => none) c.path a.zone (s.canalWay a.zone) } }
  s.canalUnicast a.zone (s.tunUnit a.zone) (.regReq a.write a.addr a.value a.id)

/-- The accesses that wait, in their order: each is sent, or waits on. -/
def State.tunPump (s : State) : State :=
  let l := s.canal.tunWait
  let s : State := { s with canal := { s.canal with tunWait := [] } }
  s.each l fun s a =>
    if s.tunMay a s.canal.tunWait then s.tunSend a
    else { s with canal := { s.canal with tunWait := s.canal.tunWait ++ [a] } }

/-- A BAR2 access that reaches no chip (R38, R40). -/
def State.tunFail (s : State) (z addr : Nat) (write : Bool) : State :=
  let s := s.unmapped (.bar2 z) addr write
  if write then s else s.emit (.readData (.bar2 z) 0xFFFFFFFF)

/-- An access to BAR2: `z` its window, `addr` the offset in it. On the head window 0 is its own, or its partner's where TUN_STANDBY says so; a window of a chip that is absent or
not numbered is unmapped, and so is every window on another chip (R40, R345, R381). -/
def execBar2Access (z addr value : Nat) (write : Bool) (x : WrExt) (s : State) : Res :=
  if !s.powered then .next s
  else if 64 ≤ z ∨ 2 ^ 24 ≤ addr ∨ !s.isHead then .next (s.tunFail z addr write)
  else if z = 0 ∧ !(s.pair.paired && decide (s.tunUnit 0 = 1)) then
    if write then .next (s.plainWrite (.bar2 0) addr value x)
    else if s.gated then .next (s.gapHold (.read (.bar2 0) addr))
    else
      let (v, s) := s.busRead (.bar2 0) addr
      .next (s.emit (.readData (.bar2 0) v))
  else if s.get F.RING_STATUS_POSITIONS ≤ z then .next (s.tunFail z addr write)
  else
    let c := s.canal
    let a : TunAccess := ⟨c.tunNext, z, write, addr, value % 2 ^ 32, s.now⟩
    let s : State := { s with canal := { c with tunNext := (c.tunNext + 1) % 2 ^ 16, tunWait := c.tunWait ++ [a] } }
    .next s.tunPump

/-- An access is not answered within TUN_TIMEOUT (R40, R381): a read completes as unmapped and is counted, a write is counted as lost
and recorded. -/
def execTunnelTimeout (id : Nat) (s : State) : Res :=
  match s.canal.tun.find? fun a => a.id = id with
  | none => .next s
  | some a =>
    if s.now < a.sentAt + us (s.get F.TUN_TIMEOUT) then .next s
    else
      let s : State := { s with canal := { s.canal with tun := s.canal.tun.filter fun x => x.id ≠ id } }
      let s := if a.write then (s.inc C.CANAL_TUN_WRITE_LOST).noticeCtr (pCANAL 0) C.CANAL_TUN_WRITE_LOST a.addr 0 a.zone
        else ((s.inc C.CANAL_TUN_TIMEOUTS).irq (pCANAL 0) I.CANAL_TUN_TIMEOUT).tunFail a.zone a.addr false
      .next s.tunPump

/-- A REG message (R381): a request is applied as a BAR2 access of this zone and answered; an answer completes its access, or comes
too late. -/
def State.regRx (s : State) (m : CanalMsg) (x : WrExt) : State := match m.body with
  | .regReq write addr value id =>
    if write then (s.plainWrite (.bar2 s.number) addr value x).canalUnicast m.src m.srcUnit (.regAns true 0 id)
    else
      let (v, s) := s.busRead (.bar2 s.number) addr
      s.canalUnicast m.src m.srcUnit (.regAns false v id)
  | .regAns _ value id =>
    match s.canal.tun.find? fun a => decide (a.id = id ∧ a.zone = m.src) with
    | none => s.inc C.CANAL_TUN_LATE
    | some a =>
      let s : State := { s with canal := { s.canal with tun := s.canal.tun.filter fun y => y.id ≠ id } }
      (if a.write then s else s.emit (.readData (.bar2 a.zone) value)).tunPump
  | _ => s

/-- REG_MESSAGE_RX. -/
def execRegMessageRx (m : CanalMsg) (x : WrExt) (s : State) : Res :=
  .next (if !s.powered then s else if s.gated then s.gapHold (.reg m x) else s.regRx m x)

/-! ### Delivery -/

/-- The state that a meaning gives. -/
def State.run (s : State) (f : State → Res) : State := Res.state s (f s)

/-- A PAIR message by its TYPE (R395). -/
def State.pairRx (s : State) (m : PairMsg) : State := match m.typ with
  | 1 | 2 => s.run (execPairDataRx m)
  | 3 => s.run (execPairCutRx m)
  | 4 => s.run (execPairAckRx m.sfn)
  | 5 => s.run (execStopStateRx m.cls m.reason m.stopSeq)
  | 6 => s.run (execPairStatusRx m)
  | 7 => s.run execHandoverRx
  | 8 => s.run execSwitchReqRx
  | 9 => s.run (execSwitchRx m.arg)
  | 10 => s.run execResyncRx
  | _ => s

/-- A LEASE message by its TYPE (R243). -/
def State.leaseRx (s : State) (m : LeaseMsg) : State := match m.typ with
  | 1 => s.run (execPrepareRx m)
  | 2 => s.run (execVoteRx m)
  | 3 => s.run (execCommitRx m)
  | 4 => s.run (execCommitAckRx m)
  | 5 => s.run (execCommittedRx m)
  | 6 => s.run (execAbortRx m)
  | 7 => s.run (execLeaseReleaseRx m)
  | 8 => s.run (execStepDoneRx m)
  | 9 => s.run (execStepOverstayRx m)
  | 10 => s.run (execTakeoverRx m)
  | _ => s

/-- A frame of another chip leaves the head by a port of its own, under the sending chip's PORT_SEL (R361). -/
def State.bulkOut (s : State) (portSel : Nat) (o : Nat → Out) : State :=
  if !s.isHead ∨ ¬ s.isOn .flume then s
  else match s.qPort { portSel := portSel } with
    | some p => (s.emit (o p)).inc C.ETH_FRAMES_TX p
    | none => s

/-- A frame for a member that another chip's route sent here (R214): looked up again. -/
def State.downRx (s : State) (addr : Nat) (b : List Nat) : State :=
  if s.ownAddr addr ∧ s.mget (memberOf addr) RG.rstate ≠ 0 then s.queueFrame { typ := 3, member := memberOf addr, body := b }
  else match s.wayTo addr with
    | (.local_ m, s) => s.queueFrame { typ := 3, member := m, body := b }
    | (.chip n, s) => if n = s.number then s.inc C.ROUTE_NO_ROUTE else s.canalUnicast n 0 (.down addr b)
    | (_, s) => s

/-- A message for this chip is delivered by its class (R370). -/
def State.deliver (s : State) (m : CanalMsg) (x : WrExt) : State := match m.body with
  | .pair p => s.pairRx p
  | .lease l => s.leaseRx l
  | .regReq .. | .regAns .. => s.regRx m x
  | .bulk sel f => s.bulkOut sel fun p => .flume p f (s.ethWire p f.prio (s.get F.FLUME_CFG_ETHERTYPE) f.bytes)
  | .bulkCredit sel z session l => s.bulkOut sel fun p => .credit p z session l (s.ethWire p 7 (s.get F.FLUME_CFG_ETHERTYPE) (creditBytes z session l))
  | .bulkIn b => if s.isOn .flume && s.funnelled then (s.inc C.FLUME_FRAMES_RX).flumeIn b x.img else s
  | .down a b => s.downRx a b
  | _ => s

/-- This unit takes a message to its number: PAIR names the unit; for the others 0 means the unit that holds the active claim and 1
the other. A chip without a partner takes every one. -/
def State.takesUnit (s : State) (m : CanalMsg) : Bool :=
  !s.pair.paired ||
    (if m.body.cls = 2 then decide (m.destUnit = s.get F.RING_STATUS_UNIT)
     else decide ((s.get F.PAIR_STATUS_STATE = 4) = (m.destUnit = 0)))

/-- A message goes on, away from where it came, unless the map shows that way broken (R376). -/
def State.onward (s : State) (port z : Nat) (m : CanalMsg) : State :=
  let n := s.ringSize
  let me := s.number % n
  let other := 1 - port
  let open_ := s.canalUp other &&
    (if other = 0 then s.linksUp me ((z % n + n - me) % n) else s.linksUp (z % n) ((me + n - z % n) % n))
  let m : CanalMsg := { m with hops := m.hops + 1 }
  if open_ then s.canalOut other m
  else match s.canalWay z with
    | some p => s.canalOut p m
    | none => s.inc C.CANAL_UNROUTABLE

/-- A message completes at a port that is UP (R370 to R376): a duplicate is counted and goes no further; one for this chip is
delivered, any other goes on; STOP, TIME and LEARN are delivered and forwarded by their own rules. With two heads in the ring only
STOP is carried (R373). -/
def execCanalMessageRx (port : Nat) (m : CanalMsg) (x : WrExt) (s : State) : Res :=
  if 2 ≤ port ∨ !s.canalUp port ∨ ¬ s.isOn .canal port ∨ m.body.cls = 7 ∨ (s.get F.RING_STATUS_CONFLICT = 1 ∧ m.body.cls ≠ 0) then .next s
  else
    let s := s.flitsFreed port m
    match m.body with
    | .stop y => .next (s.stopRx port m.srcUnit m.mseq y)
    | .time ts tn corr u ep tq => execTimeMessageRx port m.hops ts tn corr u ep tq m.mseq m.src m.srcUnit s
    | .learn l =>
      let own := decide (m.src = s.number ∧ m.srcUnit = s.get F.RING_STATUS_UNIT)
      let (dup, s) := s.canalHeard m.src m.srcUnit 4 m.mseq
      if dup ∨ own then .next (s.inc C.CANAL_DUP_DROP)
      else
        let s := s.learnRx l
        .next (if s.canalUp (1 - port) then s.canalOut (1 - port) { m with hops := m.hops + 1 } else s)
    | _ =>
      let (dup, s) := s.canalHeard m.src m.srcUnit m.body.cls m.mseq
      if dup then .next (s.inc C.CANAL_DUP_DROP)
      else match m.dest with
        | some z =>
          if z = s.number ∧ s.get F.RING_STATUS_NUMBERED = 1 ∧ s.takesUnit m then .next (s.deliver m x) else .next (s.onward port z m)
        | none => .next s

end Sys2Proof.Machine
end

