-- ==== Sys2Proof/Machine/ClockLate.lean ====
section
/-! DEFINITION. The release of the gated clocks (R16, R20), and what was held while they were gated (R17). -/
namespace Sys2Proof.Machine
open Sys2Proof

/-- One thing that was held is done as it would have been at its arrival. -/
def State.replayOne (s : State) : GapOp → State
  | .op via p opcode table index => s.tblStart via p opcode table index
  | .write src addr value x => s.plainWrite src addr value x
  | .read src addr => Res.state s (execCounterRead src addr s)
  | .bad src addr write => Res.state s (execUnmappedAccess src addr write true s)
  | .reg m x => Res.state s (execRegMessageRx m x s)

/-- What was held during the gap, in its order, once each (R17). -/
def State.replayGap (s : State) : State :=
  ({ s with clk := { s.clk with gapOps := [] } }).each s.clk.gapOps State.replayOne

/-- After an input switch the PLLs have relocked (R16); at the start of the main domain they lock for the first time, and
fleet time has run from the reset (R80). -/
def execPllRelock (rcCycles : Nat) (s : State) : Res :=
  if s.clk.lost ∨ !s.powered then .next s
  else match s.clk.gapAt with
    | some _ => .next (s.releaseClocks rcCycles).replayGap
    | none =>
      if s.get F.ROOT_STATUS_ROOT_LOCK = 1 then .next s
      else
        let s : State := { s with ft := s.rtc - s.sup.rtcAhead, sup := { s.sup with downAt := none } }
        .next (((s.set F.ROOT_STATUS_ROOT_LOCK 1).set F.ROOT_STATUS_DRAM_LOCK 1).recompute)

/-- With no root input, the end of the first window in which one counts good: the PLLs relock to it, to REFCLK when both do
(R20). -/
def execRootInputRecovered (refEdges auxEdges rcCycles : Nat) (s : State) : Res :=
  if !s.clk.lost ∨ !(refGood refEdges || auxGood auxEdges) then .next s
  else
    let s : State := { s with clk := { s.clk with toAux := !refGood refEdges } }
    let s := (s.switchCount).set F.ROOT_STATUS_AUX_OK (b2n (auxGood auxEdges))
    let s := s.releaseClocks rcCycles
    let s := if auxGood auxEdges then
        s.each [0, 1] fun s p => if s.isOn .canal p ∧ s.get F.CPORT_STATUS_STATE p = 0 then s.canalTrain p else s
      else s
    .next s.replayGap

end Sys2Proof.Machine
end

