-- ==== Sys2Proof/Machine/Epochs.lean ====
section
/-! DEFINITION. A base epoch is completed and sent where it goes (R69 to R72, R76, R77). -/
namespace Sys2Proof.Machine
open Sys2Proof

/-- While SPOOF is 1 GNSS is unavailable to TIME (R77, R82). -/
def State.spoofDrops (s : State) : State := if s.get F.CONSIST_STATUS_SPOOF = 1 ∧ s.isOn .time then s.dropSource 0 else s

/-- The epoch is complete within 400 µs of its strobe (R70): checked, withheld or delivered to SOLVE, kept in the ring, and
sent to the archive and the host where enabled. A delivered epoch clears BASE_LOST (R140). -/
def execEpochComplete (clkResid : Option Nat) (geom : List SigGeom) (s : State) : Res :=
  match s.gn.latched with
  | none => .next s
  | some e =>
    let s := (s.consist e.recs geom).spoofDrops
    let sus := fun (r : MeasRec) => s.gn.suspects.any fun x => x.sus && decide (x.sig = r.signal ∧ x.svid = r.svid)
    let recs := e.recs.map fun r => if sus r then { r with flags := Nat.lor r.flags 64 } else r
    let e := { e with recs := recs, clkResid := clkResid.getD 0x80000000 }
    let e := { e with withheld := s.withheld e }
    let g := s.gn
    let ring := (g.ring.filter fun x => x.seq % 64 ≠ e.seq % 64) ++ [e]
    let t := e.timeS * 1000000000 + e.timeNs
    let s : State := { s with gn := { g with latched := none, nextSeq := (e.seq + 1) % 2 ^ 32, ring := ring,
                                             delivered := if e.withheld = 0 then lastN 8 (g.delivered ++ [e]) else g.delivered,
                                             lastBase := if e.withheld = 0 then some t else g.lastBase } }
    let s := (s.set F.EPOCH_SEQ e.seq).irq pMEAS I.GNSS_MEAS_EPOCH
    let s := s.noteArp e
    let s := if e.withheld = 0 then s.baseEffects e else s
    let s := if e.withheld = 0 ∧ s.get F.INTEG_STATUS_BASE_LOST = 1 then (s.set F.INTEG_STATUS_BASE_LOST 0).recompute else s
    let s := if s.get F.MEAS_CFG_ARCHIVE_EN = 1 then s.archive ([1, 0, 0, 0] ++ e.bytes) else s
    .next (if s.get F.MEAS_CFG_HOST_EN = 1 then s.qBytes 19 e.bytes else s)

end Sys2Proof.Machine
end

