-- ==== Sys2Proof/Machine/Hosts.lean ====
section
/-! DEFINITION. The host generation and its forfeits (R256, R257), the PCIe events that step it (R346), and what is left of an
owner's old generation. -/
namespace Sys2Proof.Machine
open Sys2Proof

/-- PERST_N, a link that goes down without a transition to L1, or a hot reset (R346): PCIE returns to its reset state and the host
generation steps; MSI-X vectors wait. `perst` says that PERST_N was asserted, which needs no link. -/
def execPcieLinkDown (perst : Bool) (s : State) : Res :=
  if !s.powered ∨ !s.isOn .pcie then .next s
  else if s.get F.PCIE_STATUS_LINK_UP = 1 then .next s.pcieDown
  else if perst then .next (s.pcieReset.hostBump)
  else .next s

/-- A function-level reset (R346): configuration space, Bus Master Enable in it, and the MSI-X table return to reset; the host
generation steps; register pages stay. -/
def execPcieFlr (s : State) : Res :=
  if !s.powered ∨ !s.isOn .pcie ∨ s.get F.PCIE_STATUS_LINK_UP = 0 then .next s
  else
    let s : State := { s.set F.PCIE_STATUS_BME 0 with vecMask := List.range 64 }
    .next (s.inc C.PCIE_FLRS).hostBump

/-- HOST_GEN.BUMP is written (R256). -/
def execHostGenBump (s : State) : Res := .next (if s.powered then s.hostBump else s)

/-- Something of an older generation of an owner is left: a direct lock, a sequence, an undecided operation, or, of a member, a lock
that is not orphaned or a furrow with steps not begun (R257). -/
def State.oldLeft (s : State) (i : Nat) : Bool :=
  let id := ownerId i
  ((s.teListed pTURN 0).any fun t => decide (TU.downer.get (s.turn t) = id ∧ id ≠ 0 ∧ TU.dgen.get (s.turn t) ≠ s.gen i))
    || (s.ls.seqs.any fun q => decide (q.owner = i ∧ q.gen ≠ s.gen i))
    || (s.held.any fun h => decide (h.via.owner = i ∧ h.gen ≠ s.gen i))
    || (decide (i < 512) && s.leLive.any fun k =>
        decide (LE.kind.get (s.le k) = 4 ∧ LE.state.get (s.le k) ≠ 4 ∧ LE.ownGen.get (s.le k) ≠ s.gen i) && decide (s.leOwner k = s.addrOf i))

/-- The forfeit decision of an owner whose generation has stepped: made while anything of the old generation is left. -/
def execOwnerForfeit (i : Nat) (s : State) : Res :=
  if 578 ≤ i ∨ !s.powered ∨ !s.oldLeft i then .next s else .next (s.forfeit i)

end Sys2Proof.Machine
end

