-- ==== Sys2Proof/Machine/Meter.lean ====
section
/-! DEFINITION. The commands of METER: windows, seconds, intervals, power quality, saves and pulses (R405 to R418). -/
namespace Sys2Proof.Machine
open Sys2Proof

/-- METER runs: ON, the converters not stopped by a supply loss (R413). -/
def State.meterRuns (s : State) : Bool := s.isOn .meter && !s.sup.battery

/-- The tracked voltage of a window (R407); 3 none. -/
def State.tracked (s : State) (l : List VoltWin) : Nat :=
  match (List.range 3).find? fun v => match l[v]? with
    | some x => s.chanOn v && decide (s.vNom * s.get F.PQ_CFG_INT_TH < x.rms * 100 ∧ 45000 ≤ x.freq ∧ x.freq ≤ 66000)
    | none => false with
  | some v => v
  | none => 3

/-- A V channel's window enters the sums of the second. -/
def State.voltAdd (s : State) (lost : Bool) (v : Nat) (x : VoltWin) : State :=
  let c := s.sum v
  s.setSum v { c with rms := c.rms + x.rms, fund := c.fund + (if lost then 0 else x.fund), freq := c.freq + (if lost then 0 else x.freq),
                      ovr := c.ovr || x.ovr, n := c.n + 1 }

/-- A dock's window: totals, interval and sums where it computes; else INVALID (R408, R409). -/
def State.dockAdd (s : State) (w : MeterWin) (lost : Bool) (d : Nat) (x : DockWin) : State × Option WinQ :=
  let y := s.dock d
  if ¬ s.dockEn d then (s, none)
  else match w.volts[s.dockV d]? with
    | none => (s, none)
    | some v =>
      if !s.dockOk d then (s.setDock d { y with inval := true, ivNs := y.ivNs + w.lenNs, noFund := y.noFund || lost }, none)
      else
        let q := s.winQ d v x lost
        let c := s.sum (3 + d)
        let s := s.setSum (3 + d) { c with rms := c.rms + x.rms, fund := c.fund + (if lost then 0 else x.fund), p := c.p + q.p, q := c.q + q.q,
                                            s := c.s + q.S, pf := c.pf + q.pf, ovr := c.ovr || x.ovr, n := c.n + 1 }
        ((s.setDock d (y.add q w.lenNs lost x.ovr)).totalsShow d, some q)

/-- The end of a window (R407, R409, R416). -/
def execMeterWindow (w : MeterWin) (s : State) : Res :=
  if !s.meterRuns then .next s
  else
    let t := s.tracked w.volts
    let lost := decide (t = 3)
    let s := (s.set F.MET_STATUS_V_TRACK t).set F.MET_STATUS_FREQ_LOST (b2n lost)
    let s := s.each ((w.volts.zip (List.range 3)).filter fun x => s.chanOn x.2) fun s x => s.voltAdd lost x.2 x.1
    let (s, l) := (w.docks.zip (List.range 12)).foldl (fun (a : State × List (Nat × WinQ)) x =>
      let (s, q) := a.1.dockAdd w lost x.2 x.1
      (s, match q with | some q => (x.2, q) :: a.2 | none => a.2)) (s, [])
    let s := s.each [0, 1] fun s k => s.pulseAdd k (s.pulseQty k l) w.lenNs
    .next s.meterFlush

/-- The one-second entry of a channel (table 2, R407, R409): means of the windows of the second. FREQ is a free value where it
does not fit its field. -/
def State.secondEntry (s : State) (c : Nat) : State :=
  let x := s.sum c
  let n := max 1 x.n
  let m := fun (y : Nat) => y / n
  let mi := fun (y : Int) => trunc (y.tdiv n) 32
  let (f, s) := if m x.freq < 65536 then (m x.freq, s) else (let (y, s) := s.free; (y % 65536, s))
  let flags := b2n (!s.chanOk c) + b2n x.ovr * 2 + s.get F.MET_STATUS_FREQ_LOST * 4
  let e := ofBytes (toBytes 4 (m x.rms) ++ toBytes 4 (m x.fund) ++ toBytes 4 (mi x.p) ++ toBytes 4 (mi x.q) ++ toBytes 4 (m x.s)
    ++ toBytes 4 (mi x.pf) ++ toBytes 2 f ++ toBytes 2 flags)
  let s := if c < 3 then s
    else
      let y := s.dock (c - 3)
      s.setDock (c - 3) { y with peak := max y.peak ((x.p.tdiv n).natAbs / 1000) }
  (s.setTe pMETER 2 c e).setSum c {}

/-- E0 of a charging task at the first second after METER enters ON on a new active unit (R417), modulo 2^64. -/
def State.taskE0 (s : State) (i : Nat) : State :=
  let e := s.task i
  s.setTe pTASK 8 i ((s.dockImport (TK.dock.get e) + 2 ^ 64 - 1000 * TK.energy.get e) % 2 ^ 64)

/-- A whole fleet second (R407, R409): table 2 is formed. -/
def execMeterSecond (s : State) : Res :=
  if !s.meterRuns ∨ s.met.lastSec = s.fleetSec then .next s
  else
    let s : State := { s with met := { s.met with lastSec := s.fleetSec } }
    let s := s.each (List.range 15) State.secondEntry
    let s := if s.met.e0Due then
        let s := s.each (s.tasksLive.filter fun i => decide (s.taskSt i = tsACTIVE ∧ TK.kind.get (s.task i) = 1)) State.taskE0
        { s with met := { s.met with e0Due := false } }
      else s
    .next s.meterFlush

/-- An interval ends at a multiple of INTERVAL (R410). -/
def execMeterIntervalEnd (s : State) : Res :=
  if !s.meterRuns ∨ s.fleetSec < s.met.nextIv then .next s
  else
    let s := s.docksEnd s.met.nextIv
    .next { s with met := { s.met with nextIv := s.nextInterval } }

/-- The one-cycle RMS of a V channel is refreshed (R412). -/
def execPqRefresh (v rms : Nat) (s : State) : Res :=
  if !s.meterRuns ∨ 3 ≤ v ∨ !s.chanOn v then .next s else .next (s.pqRefresh v rms)

/-- A save to flash falls due (R414): to the sector in turn, or a failure, retried at the next period. -/
def execMeterSave (ok : Bool) (s : State) : Res :=
  if !s.meterRuns ∨ s.fleetSec < s.met.saveDue then .next s
  else
    let m := { s.met with saveDue := s.fleetSec + s.get F.SAVE_PERIOD }
    if ok then
      let x : MeterSave := ⟨s.fleetSec, m.docks, m.pulses.map (·.remK), m.pqSeq, true⟩
      let s : State := { s with met := { m with saves := setNth m.saves m.saveSlot (some x), saveSlot := 1 - m.saveSlot } }
      .next ((s.set F.LAST_SAVE_S (s.fleetSec % 2 ^ 32)).inc C.METER_SAVES)
    else
      let s : State := { s with met := { m with saves := setNth m.saves m.saveSlot none } }
      .next ((s.inc C.METER_SAVE_FAIL).blockError pMETER 0xFF 2 0x02 0 0 0)

/-- A pulse ends after its width, and one that waits begins once the spacing allows (R416). -/
def execMeterPulse (k : Nat) (s : State) : Res :=
  if !s.meterRuns ∨ 2 ≤ k then .next s else .next (s.pulseOut k)

/-- In BATTERY the current-only path samples every dock that was enabled (R413): charge, and ms in a row above OUTAGE_MA. -/
def execMeterOutageSample (ma : List Nat) (s : State) : Res :=
  if !s.sup.battery then .next s
  else .next (s.each s.met.outDocks fun s d =>
    let x := s.dock d
    let i := nth 0 ma d
    let above := if s.met.outMa < i then x.above + 1 else 0
    (s.setDock d { x with out := x.out + i, above := above, draw := x.draw || decide (1000 ≤ above) }).totalsShow d)

end Sys2Proof.Machine
end

