-- ==== Sys2Proof/Machine/Rebase.lean ====
section
/-! DEFINITION. An accepted step of fleet time is applied, and the lease engine's re-base pass that follows it (R91, R92,
R249, R253). -/
namespace Sys2Proof.Machine
open Sys2Proof

/-! ### What the step undoes (R253) -/

/-- Open build slots are freed, undecided transactions are aborted, and parts in PREPARED are freed. -/
def State.stepAborts (s : State) : State :=
  let s := s.each (s.ls.builds.map (·.handle)) State.dropBuild
  let s := s.each (s.ls.xfers.filter fun x => x.grantAt.isNone) fun s x => s.abortXfer x { code := 0x1C, zone := s.number }
  s.each (s.ls.parts.map (·.xid)) fun s x => match s.partIn x hsPREPARED with
    | some h => ((s.takeSeq).freeFurrow h).dropPart x
    | none => s

/-- Set-points and plans go; motion is built anew on release (R92). -/
def State.stepMotion (s : State) (d : Int) : State :=
  let s : State := { s.motClear with air := { s.motClear.air with bundles := [] } }
  ({ s with mot := s.mot.map fun (x : Nat × MotSt) => (x.1, { x.2 with posAt := x.2.posAt.map (shiftNs d) }) }).motShow

/-- Member-epochs from before the step are discarded and counted (R92). -/
def State.stepObs (s : State) : State :=
  let n := s.rtk.queue.length
  ({ s with rtk := { s.rtk with queue := [], stepAt := s.fleetNs } }).inc C.OBS_IN_STEP_DISCARD 0 n

/-- The metering interval in progress closes at the step, under the old time, and the next ends at a multiple of INTERVAL of
the new time (R410). -/
def State.stepMeter (s : State) (oldSec : Nat) : State :=
  let s := if s.meterRuns then s.docksEnd oldSec else s
  let due := shiftNs ((s.fleetSec : Int) - oldSec) s.met.saveDue
  { s with met := { s.met with nextIv := s.nextInterval, saveDue := due } }

/-! ### The re-base (R92) -/

/-- Δ is added to the start of a window. -/
def leShift (d : Int) (e : Nat) : Nat := leWindow e (shiftNs d (leStart e)) (LE.dur.get e)

/-- Lease windows and turnout lock times. -/
def State.rebaseLeases (s : State) (d : Int) : State :=
  let l := s.leLive.filter fun i => decide (2 ≤ LE.kind.get (s.le i))
  let s := s.each l fun s i => s.setLe i (leShift d (s.le i))
  let turns := (s.teListed pTURN 0).filter fun t => decide (TU.downer.get (s.turn t) ≠ 0)
  let s := s.each turns fun s t =>
    s.setTe pTURN 0 t (TU.dstart.set (s.turn t) (((TU.dstart.get (s.turn t) : Int) + d / 1000000) % 2 ^ 32).toNat)
  let part := fun (p : Part) => { p with deadline := shiftNs d p.deadline, commitAt := p.commitAt.map (shiftNs (d / 1000000)) }
  let xfer := fun (x : Xfer) => { x with deadline := shiftNs d x.deadline, grantAt := x.grantAt.map (shiftNs d) }
  { s with ls := { s.ls with parts := s.ls.parts.map part, xfers := s.ls.xfers.map xfer } }

/-- Timers of the dispatcher. -/
def State.rebaseTimers (s : State) (d : Int) : State :=
  s.each ((s.teListed pDISP 1).filter fun t => decide (bits (s.te pDISP 1 t) 63 1 = 1)) fun s t =>
    let e := s.te pDISP 1 t
    let at_ := shiftNs d (bits e 0 48 * 1000000000 + bits e 64 32)
    s.setTe pDISP 1 t (setBits (setBits e 0 48 (at_ / 1000000000)) 64 32 (at_ % 1000000000))

/-- CLAIM_BY and DUE of the task board. -/
def State.rebaseTasks (s : State) (d : Int) : State :=
  let mv := fun (t : Nat) => if t = 0 then 0 else shiftNs (d / 1000000) t
  s.each s.tasksLive fun s i =>
    let e := s.task i
    s.setTe pTASK 0 i (TK.due.set (TK.claimBy.set e (mv (TK.claimBy.get e))) (mv (TK.due.get e)))

/-- An accepted step is applied (R91): at the end of the superframe, or at once if no air port is ON. A step to the
source leaves STATE LOCKED on it (R85). The re-base pass begins (R92). -/
def execTimeStepApply (s : State) : Res :=
  match s.tm.stepBy with
  | none => .next s
  | some d01 =>
    if !s.powered ∨ ¬ (s.noPortOn ∨ s.air.nextB ≤ s.fleetNs) then .next s
    else
      let old := s.fleetSec
      let d := d01 / 10
      let epoch := s.tm.stepEpoch.getD (s.get F.TIME_STATUS_EPOCH % 255 + 1)
      let src := s.tm.stepSrc
      let s := s.stepTime d01 epoch
      let s : State := { s with tm := { s.tm with stepBy := none, stepEpoch := none, stepSrc := none, lastE := s.tm.lastE.map (· - d01) } }
      let s := match src with
        | some x => ((s.selectSrc x).acceptE 0 0).recompute
        | none => s
      let s := (s.stepAborts.stepMotion d).stepObs.stepMeter old
      let s := ((s.set F.LEASE_STATUS_REBASING 1).refreeze.rebaseLeases d).rebaseTimers d
      .next (s.rebaseTasks d).leaseShow

/-- An operation that the pass held back is applied: it is started anew as it was issued, unless its owner's generation has
changed (R92, R257) or its block is in FAULT (R51). A block that is STOPPING completes it (R46). -/
def State.rebaseHeld (s : State) (h : Held) : State :=
  if h.gen ≠ s.gen h.via.owner then s.tblDone h.via h.page h.index { err := 0x0D }
  else if s.st h.page = stFault then s.tblDone h.via h.page h.index { err := 0x09 }
  else
    let stopping := s.st h.page = stStopping
    let s := s.on stopping fun s => s.setP h.page F.STATE stOn
    let s := match h.via with
      | .page _ => s.setReg h.page.tblStatus (s.reg h.page.tblStatus / 2 * 2)
      | .tag .. => s
    let s := s.tblStart h.via h.page h.opcode h.table h.index
    s.on (stopping ∧ s.st h.page = stOn) fun s => s.setP h.page F.STATE stStopping

/-- The pass ends (R92): STEP_PEND clears, the operations held meanwhile are applied in order, and steps past end + GRACE are
decided in index order (R249). -/
def execRebaseComplete (s : State) : Res :=
  if s.get F.LEASE_STATUS_REBASING = 0 then .next s
  else
    let mine := s.held.filter fun h => s.rebaseHolds h.page
    let s : State := { s with held := s.held.filter fun h => !s.rebaseHolds h.page }
    let s := (s.set F.LEASE_STATUS_REBASING 0).set F.TIME_STATUS_STEP_PEND 0
    let s := ((s.set F.STEP_CTRL_RESULT 2).set F.STEP_CTRL_OP 0).irq pLEASE I.LEASE_REBASE_DONE
    .next ((s.refreeze.each mine State.rebaseHeld).leaseShow)

end Sys2Proof.Machine
end

