-- ==== Sys2Proof/Machine/Token.lean ====
section
/-! DEFINITION. Authorised-write tokens: the layout of R426, the checks of R428 in their order, what each register's block says
of a write by token, and the application of all writes as one step (R47). Whether SIG verifies, what WRAPPED decrypts to and
whether a lifecycle bit burns come from outside. -/
namespace Sys2Proof.Machine
open Sys2Proof

/-- One write of a token. -/
structure TokWr where
  addr : Nat
  mask : Nat
  value : Nat
  deriving DecidableEq, Repr

/-- A number at a place of the token. -/
def State.tokAt (s : State) (at_ n : Nat) : Nat := ofBytes (((s.key.tok.flatMap (toBytes 4)).drop at_).take n)

/-- The writes of a WRITES token. -/
def State.tokWrites (s : State) : List TokWr :=
  (List.range (s.tokAt 3 1)).map fun i => ⟨s.tokAt (24 + 12 * i) 4, s.tokAt (28 + 12 * i) 4, s.tokAt (32 + 12 * i) 4⟩

/-- KIND of the token. -/
def State.tokKind (s : State) : Nat := s.tokAt 1 1
/-- SIGNER of the token. -/
def State.tokSigner (s : State) : Nat := s.tokAt 2 1

/-- Check 1: VER, KIND, N and reserved bytes (R426). -/
def State.tokFormat (s : State) : Bool :=
  let n := s.tokAt 3 1
  decide (s.tokAt 0 1 = 1 ∧ s.tokAt 20 4 = 0) &&
    (if s.tokKind = 1 then decide (1 ≤ n ∧ n ≤ 8)
     else if s.tokKind = 2 then
       let t := s.tokAt 25 1
       decide ((t = 1 ∧ n = 16) ∨ (t = 2 ∧ n = 32) ∨ (t = 3 ∧ n = 32) ∨ (t = 4 ∧ n = 64)) &&
         decide (s.tokAt 27 1 < 4 ∧ s.tokAt 33 3 = 0 ∧ (t ≠ 4 ∨ s.tokAt 100 40 = 0))
     else false)

/-- Check 4: the signer's key is present, not revoked or killed, and may verify. -/
def State.tokSignerOk (s : State) : Bool :=
  let k := s.tokSigner
  if k = 2 ∨ k = 3 then s.ksMay k usVERIFY && decide (KS.ktype.get (s.ks k) = 4) && !s.ksKilled k else s.vendorOk k

/-! ### Check 6 (R427) -/

/-- The setting that FUSE_PROG would name after a write. -/
def fuseSetting (was : Nat) (w : TokWr) : Nat :=
  if w.addr = F.FUSE_PROG_SETTING.addr 0 0 then (was - Nat.land was (w.mask % 16)) + Nat.land (w.value % 16) (w.mask % 16) else was

/-- A signer may make a write, the setting that FUSE_PROG names after it given. -/
def mayWriteTok (signer setting : Nat) (w : TokWr) : Bool :=
  let a := w.addr
  let lc := decide (a = F.LC_CTRL_TARGET.addr 0 0)
  let fuse := decide (a = F.FUSE_PROG_SETTING.addr 0 0)
  let commit := decide (a = F.UPD_CTRL_COMMIT.addr 0 0)
  if signer = 2 then !(fuse && bit (Nat.land w.value w.mask) 16 && decide (setting = 3))
  else if signer = 3 then
    match Page.ofAddr a with
    | some p => !(decide (p.blk = .keep ∨ p.blk = .fuse ∨ p.blk = .debug) || commit)
    | none => true
  else (lc && decide (Nat.land w.value w.mask % 8 = 3)) || (fuse && decide (setting = 3)) || (commit && decide (w.mask = 2 ^ 8))

/-- The first write that its signer may not make. -/
def firstBarred (signer : Nat) : Nat → Nat → List TokWr → Option Nat
  | _, _, [] => none
  | i, setting, w :: r =>
    let t := fuseSetting setting w
    if mayWriteTok signer t w then firstBarred signer (i + 1) t r else some i

/-- A signer may install a key in a slot. -/
def State.mayInstall (s : State) (signer k : Nat) : Bool :=
  if signer = 2 then decide (k = 2 ∨ k = 3 ∨ (8 ≤ k ∧ k ≤ 10) ∨ (16 ≤ k ∧ k ≤ 63))
  else if signer = 3 then decide (k = 9 ∨ (16 ≤ k ∧ k ≤ 63))
  else decide (k = 2 ∧ s.get F.LC_STATUS_STATE = 0)

/-! ### Check 7 -/

/-- A write's mask touches an RWL bit and no RO or reserved bit of a register that is decoded. -/
def State.tokTarget (s : State) (w : TokWr) : Bool := match Page.ofAddr w.addr with
  | none => false
  | some p =>
    let off := w.addr % 0x1000
    s.decodes p off && (match p.findReg off with
      | none => false
      | some r =>
        let cover := fun (l : List FldDef) => l.foldl (fun m f => Nat.lor m ((2 ^ f.width - 1) * 2 ^ f.lsb)) 0
        let rwl := cover (r.fields.filter fun f => f.acc = .rwl)
        let ok := cover (r.fields.filter fun f => f.acc ≠ .ro)
        decide (Nat.land w.mask rwl ≠ 0 ∧ Nat.land w.mask ok = w.mask))

/-! ### Check 8: each block's own rules, a write at a time -/

/-- What the writes so far have done: the state they leave, the base-position words to take effect together at the next strobe
(R73), whether a chip reset is asked for. -/
structure TokRun where
  s : State
  base : List (Nat × Nat) := []
  reset : Bool := false
  deriving DecidableEq, Repr

/-- A write accepted, or refused with the result that its block shows. -/
abbrev TokStep := Except (State → State) TokRun

/-- Refused, with nothing of the block's own to show. -/
def blocked : TokStep := .error id

/-- The offset that a token gives STEP_OFS, where it names both words: the words as its writes leave them. -/
def State.stepOfs (s : State) (l : List TokWr) : Option Int :=
  let word := fun (F : Fld) => match l.filter fun w => w.addr = F.addr 0 0 with
    | [] => none
    | ws => some (ws.foldl (fun old w => old - Nat.land old w.mask + Nat.land w.value w.mask) (s.reg (F.addr 0 0)))
  match word F.STEP_OFS_LO, word F.STEP_OFS_HI with
  | some a, some b => some (sext (a + b * 2 ^ 32) 64)
  | _, _ => none

/-- FUSE_PROG (R437, R438). -/
def fuseStep (t : TokRun) (w : RegWr) (l : List FldDef) : TokStep :=
  let s := (t.s.storeFields w l).set F.FUSE_PROG_GO 0
  let k := s.get F.FUSE_PROG_SETTING
  let v := s.get F.FUSE_PROG_VALUE
  if t.s.get F.FUSE_STATUS_BUSY = 1 ∨ 3 < k then blocked
  else if !w.one 16 then .ok { t with s := s }
  else if s.fuseRefused k v then blocked
  else
    let r := s.fuseResult k v
    if r ≠ 0 then .error fun s => s.set F.FUSE_STATUS_RESULT r else .ok { t with s := s.fuseGo k v (w.signer.getD 0) }

/-- BASE_CTRL.MODE, BASE_POS and BASELINE wait for the strobe (R73). -/
def baseStep (t : TokRun) (w : RegWr) : TokStep :=
  let mode := decide (w.off = 0x308)
  let v := if mode then w.value % 4 else w.merged (t.s.reg w.addr)
  if mode ∧ v = 3 then blocked
  else
    let s := if mode then t.s.on (w.one 2) State.surveyStart else t.s
    if mode ∧ w.mask % 4 = 0 then .ok { t with s := s } else .ok { t with s := s, base := t.base ++ [(w.addr, v)] }

/-- STEP_CTRL.OP (R90). -/
def stepStep (t : TokRun) (w : RegWr) (ofs : Option Int) : TokStep :=
  let op := w.merged (t.s.reg w.addr) % 8
  let c := t.s.stepCheck op ofs
  if c ≠ 0 then .error fun s => s.set F.STEP_CTRL_RESULT c
  else
    let u := t.s.stepOp op ofs
    let r := u.get F.STEP_CTRL_RESULT
    if r = 1 ∨ r = 2 then .ok { t with s := u } else .error fun s => s.set F.STEP_CTRL_RESULT r

/-- PAIR_CTRL: SWITCH and TAKE, with the plain fields beside them (R387, R401). -/
def pairStep (t : TokRun) (w : RegWr) (l : List FldDef) (x : WrExt) : TokStep :=
  let s := t.s
  if w.one 2 ∧ ¬ (s.get F.PAIR_STATUS_STATE = 4 ∧ s.get F.SWITCH_SFN = 0 ∧ s.peerWarmReady) then blocked
  else if w.one 3 ∧ (!s.isPaired ∨ s.get F.PAIR_STATUS_ROLE = 0 ∨ s.get F.PAIR_STATUS_STATE = 4 ∨ !s.mayClaim) then blocked
  else
    let s := (s.storeFields w (l.filter fun f => f.acc = .rw)).blockAct w x
    .ok { t with s := (s.on (w.one 2) State.switchCmd).on (w.one 3) State.take }

/-- KS_ZEROISE (R428). -/
def zeroStep (t : TokRun) (w : RegWr) (l : List FldDef) : TokStep :=
  let s := (t.s.storeFields w l).set F.KS_ZEROISE_GO 0
  let k := s.get F.KS_ZEROISE_SLOT
  if k = 0 ∨ k = 1 ∨ k = 4 then blocked else .ok { t with s := s.on (w.one 6) fun s => s.zeroise k }

/-- LC_CTRL.TARGET (R440). -/
def lcStep (t : TokRun) (w : RegWr) (burnOk : Bool) (x : WrExt) : TokStep :=
  let target := w.value % 8
  if t.s.get F.FUSE_STATUS_BUSY = 1 then blocked
  else
    let r := t.s.lcRefusal target (w.signer.getD 0)
    if r ≠ 0 then .error fun s => s.set F.LC_STATUS_RESULT r
    else .ok { t with s := (t.s.lcGo target (w.signer.getD 0) burnOk).blockAct w x }

/-- DBG_CTRL.OBSERVE (R443). -/
def debugStep (t : TokRun) (w : RegWr) (x : WrExt) : TokStep :=
  if w.one 0 ∧ !t.s.isOn .debug then blocked
  else if w.one 0 ∧ !t.s.observeToken then .error fun s => s.dbgResult 7
  else .ok { t with s := (t.s.on (w.one 0) State.dbgObserve).blockAct w x }

/-- UPD_CTRL: TO_RECOVERY and COMMIT (R459, R463). -/
def updStep (t : TokRun) (w : RegWr) (x : WrExt) : TokStep :=
  if w.one 8 ∧ !t.s.commitOk then blocked
  else
    let s := if bit w.mask 9 then t.s.set F.UPD_CTRL_TO_RECOVERY (b2n (w.one 9)) else t.s
    .ok { t with s := (s.on (w.one 8) fun s => s.commit (w.signer.getD 0)).blockAct w x }

/-- ROT_SFN (R434): 0 cancels. -/
def rotStep (t : TokRun) (w : RegWr) : TokStep :=
  let v := w.merged (t.s.reg w.addr)
  if v = 0 then .ok { t with s := (t.s.set F.ROT_SFN 0).set F.SEC_STATUS_ROT_PEND 0 }
  else if t.s.rotOk v then .ok { t with s := t.s.rotSet v } else blocked

/-- RESUME (R303, R304): a refusal shows its RESULT, counts and interrupts as the operation itself does,
and an arming that is over is gone; nothing of a refused token is applied. -/
def resumeStep (t : TokRun) (w : RegWr) : TokStep :=
  let s := t.s.setReg w.addr (Nat.land (w.merged (t.s.reg w.addr)) 0xFF03)
  let op := s.get F.RESUME_OP
  let go := fun (f : State → State) (want : Nat) =>
    let r := (f s).get F.RESUME_STATUS_RESULT
    if r = want then .ok { t with s := f s }
    else .error fun u => ({ u.on (decide (r = 9)) fun u => u.disarm 9 with fresh := max u.fresh (f s).fresh }).resumeRefused r
  if op = 1 then go State.resumeArm 1 else if op = 2 then go (fun u => u.resumeRelease (s.get F.RESUME_TAG)) 2 else blocked

/-- SUP_CTRL (R35). -/
def supStep (t : TokRun) (w : RegWr) : TokStep :=
  let s := if bit w.mask 1 ∧ t.s.get F.SUP_CTRL_HOLD ≠ b2n (w.one 1) then t.s.supHold (w.one 1) else t.s
  .ok { t with s := s.on (w.one 0) State.supRestart }

/-- A register whose RWL fields are plain settings: ranges and conditions, then stored (R99, R134, R305, R378). -/
def plainStep (t : TokRun) (w : RegWr) (l : List FldDef) (x : WrExt) : TokStep :=
  if t.s.wrRefused w l ∨ (w.p.blk = .headgate ∧ t.s.get F.HG_STATE_CLASS < 2) then blocked else .ok { t with s := t.s.applyWrite w x }

/-- One write against the state that the earlier ones leave. -/
def tokStep (ofs : Option Int) (burnOk : Bool) (t : TokRun) (w : RegWr) : TokStep :=
  let x : WrExt := { burnOk := burnOk }
  let l := t.s.changes w
  if mirrored w.p w.off ∨ t.s.coldGated w.p ∨ l.any (t.s.lockedField w) then blocked
  else match w.p.blk, w.off with
  | .reset, 0x300 => supStep t w
  | .reset, 0x30C => .ok { t with reset := t.reset || w.one 0 }
  | .fuse, 0x300 => fuseStep t w l
  | .gnssMeas, _ => baseStep t w
  | .time, 0x350 => stepStep t w ofs
  | .time, 0x354 | .time, 0x358 => .ok { t with s := t.s.storeFields w l }
  | .pair, 0x30C => pairStep t w l x
  | .keystore, 0x320 => zeroStep t w l
  | .keep, 0x304 => lcStep t w burnOk x
  | .debug, 0x304 => debugStep t w x
  | .boot, 0x308 => updStep t w x
  | .frameSec, 0x308 => rotStep t w
  | .headgate, 0x314 => resumeStep t w
  | _, _ => plainStep t w l x

/-- The writes in order: what they leave, or the first refused one with what its block shows. -/
def tokFold (src : Src) (signer : Nat) (ofs : Option Int) (burnOk : Bool) : Nat → TokRun → List TokWr → Except (Nat × (State → State)) TokRun
  | _, t, [] => .ok t
  | i, t, w :: r =>
    match Page.ofAddr w.addr with
    | none => .error (i, id)
    | some p =>
      match tokStep ofs burnOk t ⟨src, p, w.addr % 0x1000, w.value, w.mask, some signer⟩ with
      | .ok t => tokFold src signer ofs burnOk (i + 1) t r
      | .error f => .error (i, f)

/-- The source that owns the buffer. -/
def ownerSrc (code : Nat) : Src := if code = 1 then .host else if code = 2 then .sup else if code = 3 then .bar2 0 else if code = 4 then .jtag else .core (code - 16)

/-! ### KEY_INSTALL -/

/-- The rule of R434 for a zone key. -/
def State.zoneKeyOk (s : State) (k kgen : Nat) : Bool :=
  let cur := s.kgen
  decide (k = 9 ∨ (k = 8 ∧ !s.ksHeld 8)) && decide (1 ≤ kgen) && decide (cur = 0 ∨ kgen = cur % 255 + 1)

/-- The key is installed with its attributes. The public key of an installed private key is not stated: a free value. -/
def State.installKey (s : State) (key : Nat) : State :=
  let k := s.tokAt 24 1
  let t := s.tokAt 25 1
  let kgen := if 8 ≤ k ∧ k ≤ 10 then s.tokAt 32 1 else 0
  let attr := t + s.tokAt 26 1 * 2 ^ 8 + s.tokAt 27 1 % 2 * 2 ^ 16 + kgen * 2 ^ 24 + s.tokAt 28 4 * 2 ^ 32
  let (mask, s) := s.free256
  let (pub, s) := if t = 4 then (s.tokAt 36 64, s) else if t = 3 then s.freeSig else (0, s)
  let s := s.ksPut k attr pub (if t = 4 then 0 else key % 2 ^ (8 * s.tokAt 3 1)) mask 0
  if k = 8 then s.hgLoadKey (s.ksSecret 8) else s

/-! ### Verification completes (R428) -/

/-- The first failing check: RESULT, the write concerned, what a block shows; or the effect. `reset` asks for a chip reset after it. -/
def State.tokVerify (s : State) (src : Src) (sigOk : Bool) (key : Option Nat) (burnOk : Bool) : Except (Nat × Nat × (State → State)) TokRun :=
  let k := s.tokSigner
  let ws := s.tokWrites
  if !s.tokFormat then .error (2, 0, id)
  else if s.tokAt 4 8 ≠ Config.serial.toNat then .error (3, 0, id)
  else if s.tokAt 12 8 ≠ s.get64 F.TOK_NONCE_LO F.TOK_NONCE_HI then .error (4, 0, id)
  else if !s.tokSignerOk then .error (5, 0, id)
  else if !sigOk then .error (6, 0, id)
  else if s.tokKind = 1 then
    match firstBarred k 0 (s.get F.FUSE_PROG_SETTING) ws with
    | some i => .error (7, i, id)
    | none =>
      match (ws.zip (List.range 8)).find? fun x => !s.tokTarget x.1 with
      | some x => .error (8, x.2, id)
      | none =>
        match tokFold src k (s.stepOfs ws) burnOk 0 { s := s } ws with
        | .ok t => .ok t
        | .error (i, f) => .error (9, i, f)
  else
    let slot := s.tokAt 24 1
    if !s.mayInstall k slot then .error (7, 0, id)
    else if 8 ≤ slot ∧ slot ≤ 10 ∧ !s.zoneKeyOk slot (s.tokAt 32 1) then .error (9, 0, id)
    else if s.ksHeld slot ∧ (s.tokAt 27 1 < 2 ∨ slot = 0 ∨ slot = 1 ∨ slot = 4) then .error (10, 0, id)
    else match key with
      | none => if s.tokAt 25 1 = 4 then .ok { s := s.installKey 0 } else .error (11, 0, id)
      | some v => .ok { s := s.installKey v }

/-- Every completion: RESULT and FAIL_INDEX, BUSY and OWNER 0, a new nonce, TOKEN_DONE. -/
def State.tokEnd (s : State) (result index : Nat) : State :=
  let s := ((s.set F.TOK_STATUS_RESULT result).set F.TOK_STATUS_FAIL_INDEX index).set F.TOK_STATUS_BUSY 0
  (({ s with key := { s.key with tok := [] } }.set F.TOK_STATUS_OWNER 0).drawNonce).irq pKS I.KEYSTORE_TOKEN_DONE

/-- A refused token counts once in REFUSED_RWL and makes one record, naming the write at FAIL_INDEX (R47). -/
def State.tokRefused (s : State) (code result index : Nat) (named : Bool) : State :=
  let addr := if named then s.tokAt (24 + 12 * index) 4 else 0
  ((s.inc C.FAULT_REFUSED_RWL).sysEvent 19 ⟨.fault, 0⟩ code addr result).inc C.KEYSTORE_TOKENS_REFUSED

/-- Verification completes: a token that passes every check is applied as one step, its chip reset last. -/
def execTokenVerifyDone (sigOk : Bool) (key : Option Nat) (burnOk : Bool) (s : State) : Res :=
  if s.get F.TOK_STATUS_BUSY = 0 then .next s
  else
    let code := s.get F.TOK_STATUS_OWNER
    let k := s.tokSigner
    let r := s.tokVerify (ownerSrc code) sigOk key burnOk
    let used := match r with
      | .error (e, _, _) => decide (6 ≤ e)
      | .ok _ => true
    let count := fun (s : State) => if used && decide (k = 2 ∨ k = 3) then s.ksUse k else s
    match r with
    | .error (e, i, show_) => .next (((count (show_ s)).tokRefused code e i (decide (s.tokKind = 1 ∧ 6 < e))).tokEnd e i)
    | .ok t =>
      let u : State := if t.base = [] then t.s else { t.s with gn := { t.s.gn with posPend := t.s.gn.posPend ++ [t.base] } }
      let u := (((count u).inc C.KEYSTORE_TOKENS_OK).tokEnd 1 0)
      .next (if t.reset then u.chipReset 5 else u)

end Sys2Proof.Machine
end

