-- ==== Sys2Proof/Machine/Dispatch.lean ====
section
/-! DEFINITION. One arm for each command: the meaning it has. -/
namespace Sys2Proof.Machine
open Sys2Proof

/-- The effect of a command on everything but the queue. -/
def exec (i : Instr) (s : State) : Host.Outcome State Fault Refusal :=
  match i with
  | .registerWrite src addr value x => Sys2Proof.Machine.execRegisterWrite src addr value x s
  | .unmappedAccess src addr write bad => Sys2Proof.Machine.execUnmappedAccess src addr write bad s
  | .counterRead src addr => Sys2Proof.Machine.execCounterRead src addr s
  | .nowNsRead src => Sys2Proof.Machine.execNowNsRead src s
  | .bar2Access z addr value write x => Sys2Proof.Machine.execBar2Access z addr value write x s
  | .tunnelTimeout id => Sys2Proof.Machine.execTunnelTimeout id s
  | .ctrlEnWrite src p en => Sys2Proof.Machine.execCtrlEnWrite src p en s
  | .ctrlRestart p => Sys2Proof.Machine.execCtrlRestart p s
  | .isoClear p => Sys2Proof.Machine.execIsoClear p s
  | .startupComplete p ok code x => Sys2Proof.Machine.execStartupComplete p ok code x s
  | .startupSafePoint p => Sys2Proof.Machine.execStartupSafePoint p s
  | .shutdownComplete p => Sys2Proof.Machine.execShutdownComplete p s
  | .regionIsolate p lost badCells can => Sys2Proof.Machine.execRegionIsolate p lost badCells can s
  | .blockAutoRestart p => Sys2Proof.Machine.execBlockAutoRestart p s
  | .cellError p cell cls code a0 a1 a2 => Sys2Proof.Machine.execCellError p cell cls code a0 a1 a2 s
  | .levelRise => Sys2Proof.Machine.execLevelRise s
  | .errInject src p cls cell => Sys2Proof.Machine.execErrInject src p cls cell s
  | .irqForce src p mask => Sys2Proof.Machine.execIrqForce src p mask s
  | .lockWrite src p => Sys2Proof.Machine.execLockWrite src p s
  | .vecAck v => Sys2Proof.Machine.execVecAck v s
  | .tblRead via p table idx => Sys2Proof.Machine.execTblRead via p table idx s
  | .tblWrite via p table idx => Sys2Proof.Machine.execTblWrite via p table idx s
  | .tblInsert via p table idx => Sys2Proof.Machine.execTblInsert via p table idx s
  | .tblDelete via p table idx => Sys2Proof.Machine.execTblDelete via p table idx s
  | .tblLookup via p table idx => Sys2Proof.Machine.execTblLookup via p table idx s
  | .tblNext via p table idx => Sys2Proof.Machine.execTblNext via p table idx s
  | .tblCmpwrite via p table idx => Sys2Proof.Machine.execTblCmpwrite via p table idx s
  | .tagCompletion => Sys2Proof.Machine.execTagCompletion s
  | .refclkLost refEdges auxEdges => Sys2Proof.Machine.execRefclkLost refEdges auxEdges s
  | .pllRelock rcCycles => Sys2Proof.Machine.execPllRelock rcCycles s
  | .refGood10s => Sys2Proof.Machine.execRefGood10s s
  | .returnReq => Sys2Proof.Machine.execReturnReq s
  | .rootReturn => Sys2Proof.Machine.execRootReturn s
  | .returnFail => Sys2Proof.Machine.execReturnFail s
  | .auxclkLost refEdges auxEdges => Sys2Proof.Machine.execAuxclkLost refEdges auxEdges s
  | .rootInputRecovered refEdges auxEdges rcCycles => Sys2Proof.Machine.execRootInputRecovered refEdges auxEdges rcCycles s
  | .dramScrubPass corrected bad => Sys2Proof.Machine.execDramScrubPass corrected bad s
  | .dramTrainingDone pass => Sys2Proof.Machine.execDramTrainingDone pass s
  | .supRestart => Sys2Proof.Machine.execSupRestart s
  | .supHold hold => Sys2Proof.Machine.execSupHold hold s
  | .supRelease copyOk flashOk => Sys2Proof.Machine.execSupRelease copyOk flashOk s
  | .chipResetGo => Sys2Proof.Machine.execChipResetGo s
  | .bundleAssembly p g late => Sys2Proof.Machine.execBundleAssembly p g late s
  | .antCurrentClassify ant current => Sys2Proof.Machine.execAntCurrentClassify ant current s
  | .interfSet ant upper lower refUpper refLower => Sys2Proof.Machine.execInterfSet ant upper lower refUpper refLower s
  | .interfClear ant upper lower refUpper refLower => Sys2Proof.Machine.execInterfClear ant upper lower refUpper refLower s
  | .acqPass sky => Sys2Proof.Machine.execAcqPass sky s
  | .channelLock c => Sys2Proof.Machine.execChannelLock c s
  | .pullInTimeout c => Sys2Proof.Machine.execPullInTimeout c s
  | .cycleSlip c => Sys2Proof.Machine.execCycleSlip c s
  | .trackLoss c => Sys2Proof.Machine.execTrackLoss c s
  | .channelRelock c => Sys2Proof.Machine.execChannelRelock c s
  | .lostTimeout c belowMask => Sys2Proof.Machine.execLostTimeout c belowMask s
  | .polarityResolved c => Sys2Proof.Machine.execPolarityResolved c s
  | .measStrobe meas => Sys2Proof.Machine.execMeasStrobe meas s
  | .epochComplete clkResid geom => Sys2Proof.Machine.execEpochComplete clkResid geom s
  | .spoofClear => Sys2Proof.Machine.execSpoofClear s
  | .surveyStart => Sys2Proof.Machine.execSurveyStart s
  | .surveySecond x y z => Sys2Proof.Machine.execSurveySecond x y z s
  | .surveyTimeout => Sys2Proof.Machine.execSurveyTimeout s
  | .timeSourceMeasure src ptp slave cls => Sys2Proof.Machine.execTimeSourceMeasure src ptp slave cls s
  | .slewComplete => Sys2Proof.Machine.execSlewComplete s
  | .tqEvaluate => Sys2Proof.Machine.execTqEvaluate s
  | .refusedTimeout => Sys2Proof.Machine.execRefusedTimeout s
  | .gapAllowExpiry => Sys2Proof.Machine.execGapAllowExpiry s
  | .stepToSource => Sys2Proof.Machine.execStepToSource s
  | .stepByOffset ofs => Sys2Proof.Machine.execStepByOffset ofs s
  | .acceptFree => Sys2Proof.Machine.execAcceptFree s
  | .slewAccept => Sys2Proof.Machine.execSlewAccept s
  | .timeStepApply => Sys2Proof.Machine.execTimeStepApply s
  | .rebaseComplete => Sys2Proof.Machine.execRebaseComplete s
  | .ppsEdge => Sys2Proof.Machine.execPpsEdge s
  | .ptpEventRx port f => Sys2Proof.Machine.execPtpEventRx port f s
  | .ptpEventTx port msgType domain seqId oneStep => Sys2Proof.Machine.execPtpEventTx port msgType domain seqId oneStep s
  | .txtsPop src port => Sys2Proof.Machine.execTxtsPop src port s
  | .memberEpochReady m => Sys2Proof.Machine.execMemberEpochReady m s
  | .cellTake cell => Sys2Proof.Machine.execCellTake cell s
  | .deadlineDrop m => Sys2Proof.Machine.execDeadlineDrop m s
  | .solveComplete cell cycles => Sys2Proof.Machine.execSolveComplete cell cycles s
  | .cellWatchdog cell => Sys2Proof.Machine.execCellWatchdog cell s
  | .rtkCapacityEval => Sys2Proof.Machine.execRtkCapacityEval s
  | .signalAbsentTimeout m sig svid => Sys2Proof.Machine.execSignalAbsentTimeout m sig svid s
  | .memberStateTimeout m => Sys2Proof.Machine.execMemberStateTimeout m s
  | .baseLost => Sys2Proof.Machine.execBaseLost s
  | .corrBuild => Sys2Proof.Machine.execCorrBuild s
  | .corrEntry p idx => Sys2Proof.Machine.execCorrEntry p idx s
  | .framingLock p => Sys2Proof.Machine.execFramingLock p s
  | .framingLoss p => Sys2Proof.Machine.execFramingLoss p s
  | .ppduTx p rate len => Sys2Proof.Machine.execPpduTx p rate len s
  | .ppduRx p rate y => Sys2Proof.Machine.execPpduRx p rate y s
  | .spiTxnGo p len => Sys2Proof.Machine.execSpiTxnGo p len s
  | .spiTxnDone p miso => Sys2Proof.Machine.execSpiTxnDone p miso s
  | .healthCheck p miso => Sys2Proof.Machine.execHealthCheck p miso s
  | .airportStartTimeout p => Sys2Proof.Machine.execAirportStartTimeout p s
  | .txPathGrant p => Sys2Proof.Machine.execTxPathGrant p s
  | .portSvcStart p => Sys2Proof.Machine.execPortSvcStart p s
  | .portSvcFault p => Sys2Proof.Machine.execPortSvcFault p s
  | .faultClr p => Sys2Proof.Machine.execFaultClr p s
  | .superframeBoundary => Sys2Proof.Machine.execSuperframeBoundary s
  | .sluiceBankClear via p bank => Sys2Proof.Machine.execSluiceBankClear via p bank s
  | .bankArm p => Sys2Proof.Machine.execBankArm p s
  | .bankCancel p => Sys2Proof.Machine.execBankCancel p s
  | .upFrameRx p => Sys2Proof.Machine.execUpFrameRx p s
  | .ackRx p => Sys2Proof.Machine.execAckRx p s
  | .ackMissing p seq => Sys2Proof.Machine.execAckMissing p seq s
  | .joinReqRx p => Sys2Proof.Machine.execJoinReqRx p s
  | .downBcastEntry p idx => Sys2Proof.Machine.execDownBcastEntry p idx s
  | .upEntryEnd p idx => Sys2Proof.Machine.execUpEntryEnd p idx s
  | .relayedFrameRx p => Sys2Proof.Machine.execRelayedFrameRx p s
  | .routeAgeTick => Sys2Proof.Machine.execRouteAgeTick s
  | .routeScanStep => Sys2Proof.Machine.execRouteScanStep s
  | .routeRepack via => Sys2Proof.Machine.execRouteRepack via s
  | .repackComplete => Sys2Proof.Machine.execRepackComplete s
  | .routeEccHoldExpiry => Sys2Proof.Machine.execRouteEccHoldExpiry s
  | .learnRx m => Sys2Proof.Machine.execLearnRx m s
  | .floodSeenAge src seq => Sys2Proof.Machine.execFloodSeenAge src seq s
  | .furrowOpen via => Sys2Proof.Machine.execFurrowOpen via s
  | .furrowSteps via => Sys2Proof.Machine.execFurrowSteps via s
  | .furrowSubmit via => Sys2Proof.Machine.execFurrowSubmit via s
  | .furrowRelease via => Sys2Proof.Machine.execFurrowRelease via s
  | .clearOverstay via => Sys2Proof.Machine.execClearOverstay via s
  | .abandon via => Sys2Proof.Machine.execAbandon via s
  | .buildTimeout handle => Sys2Proof.Machine.execBuildTimeout handle s
  | .prepareRx m => Sys2Proof.Machine.execPrepareRx m s
  | .voteRx m => Sys2Proof.Machine.execVoteRx m s
  | .commitRx m => Sys2Proof.Machine.execCommitRx m s
  | .commitAckRx m => Sys2Proof.Machine.execCommitAckRx m s
  | .committedRx m => Sys2Proof.Machine.execCommittedRx m s
  | .abortRx m => Sys2Proof.Machine.execAbortRx m s
  | .leaseReleaseRx m => Sys2Proof.Machine.execLeaseReleaseRx m s
  | .stepDoneRx m => Sys2Proof.Machine.execStepDoneRx m s
  | .stepOverstayRx m => Sys2Proof.Machine.execStepOverstayRx m s
  | .takeoverRx m => Sys2Proof.Machine.execTakeoverRx m s
  | .xferDeadline xid => Sys2Proof.Machine.execXferDeadline xid s
  | .committedTimeout xid => Sys2Proof.Machine.execCommittedTimeout xid s
  | .stepDue idx => Sys2Proof.Machine.execStepDue idx s
  | .reportWaitExpiry idx => Sys2Proof.Machine.execReportWaitExpiry idx s
  | .lostClr src => Sys2Proof.Machine.execLostClr src s
  | .ownerForfeit idx => Sys2Proof.Machine.execOwnerForfeit idx s
  | .hostGenBump => Sys2Proof.Machine.execHostGenBump s
  | .tlockStart idx => Sys2Proof.Machine.execTlockStart idx s
  | .tlockEnd idx => Sys2Proof.Machine.execTlockEnd idx s
  | .turnoutTake via => Sys2Proof.Machine.execTurnoutTake via s
  | .turnoutDrop via => Sys2Proof.Machine.execTurnoutDrop via s
  | .orphanClear via => Sys2Proof.Machine.execOrphanClear via s
  | .seqOpen via => Sys2Proof.Machine.execSeqOpen via s
  | .seqStage via => Sys2Proof.Machine.execSeqStage via s
  | .seqCommit via => Sys2Proof.Machine.execSeqCommit via s
  | .seqDiscard via => Sys2Proof.Machine.execSeqDiscard via s
  | .seqTimeout handle => Sys2Proof.Machine.execSeqTimeout handle s
  | .registryRelease via => Sys2Proof.Machine.execRegistryRelease via s
  | .registryHold via => Sys2Proof.Machine.execRegistryHold via s
  | .evict via => Sys2Proof.Machine.execEvict via s
  | .noPositionTimeout m => Sys2Proof.Machine.execNoPositionTimeout m s
  | .moveAdd via => Sys2Proof.Machine.execMoveAdd via s
  | .moveFlush via => Sys2Proof.Machine.execMoveFlush via s
  | .setLimits via => Sys2Proof.Machine.execSetLimits via s
  | .stopInputFiltered input active => Sys2Proof.Machine.execStopInputFiltered input active s
  | .discrepancy => Sys2Proof.Machine.execDiscrepancy s
  | .stopReq src req => Sys2Proof.Machine.execStopReq src req s
  | .burstFrame => Sys2Proof.Machine.execBurstFrame s
  | .hgBeacon port => Sys2Proof.Machine.execHgBeacon port s
  | .hgKeyLoad => Sys2Proof.Machine.execHgKeyLoad s
  | .canalStopRx port unit mseq m => Sys2Proof.Machine.execCanalStopRx port unit mseq m s
  | .outputTestPulse outB => Sys2Proof.Machine.execOutputTestPulse outB s
  | .outputReadbackError outB => Sys2Proof.Machine.execOutputReadbackError outB s
  | .resumeArm => Sys2Proof.Machine.execResumeArm s
  | .resumeRelease tag => Sys2Proof.Machine.execResumeRelease tag s
  | .armWindowExpiry => Sys2Proof.Machine.execArmWindowExpiry s
  | .hgSelftest ok => Sys2Proof.Machine.execHgSelftest ok s
  | .hgPowerOn ok => Sys2Proof.Machine.execHgPowerOn ok s
  | .dpTake core => Sys2Proof.Machine.execDpTake core s
  | .itemDone core ctx => Sys2Proof.Machine.execItemDone core ctx s
  | .emitCmd core ctx dest kind target arg body => Sys2Proof.Machine.execEmitCmd core ctx dest kind target arg body s
  | .itemTimeout core ctx => Sys2Proof.Machine.execItemTimeout core ctx s
  | .dispatchPost via => Sys2Proof.Machine.execDispatchPost via s
  | .timerFire t => Sys2Proof.Machine.execTimerFire t s
  | .traceSync => Sys2Proof.Machine.execTraceSync s
  | .taskCreate via => Sys2Proof.Machine.execTaskCreate via s
  | .taskOffer via => Sys2Proof.Machine.execTaskOffer via s
  | .taskClaim via => Sys2Proof.Machine.execTaskClaim via s
  | .taskStart via => Sys2Proof.Machine.execTaskStart via s
  | .taskFinish via => Sys2Proof.Machine.execTaskFinish via s
  | .taskWithdraw via => Sys2Proof.Machine.execTaskWithdraw via s
  | .taskFree via => Sys2Proof.Machine.execTaskFree via s
  | .taskDeadline idx => Sys2Proof.Machine.execTaskDeadline idx s
  | .chargeEnergyTick => Sys2Proof.Machine.execChargeEnergyTick s
  | .arbRequest region r beats write target => Sys2Proof.Machine.execArbRequest region r beats write target s
  | .arbGrantEnd region => Sys2Proof.Machine.execArbGrantEnd region s
  | .arbWithdraw region r parked => Sys2Proof.Machine.execArbWithdraw region r parked s
  | .quotaWindow region => Sys2Proof.Machine.execQuotaWindow region s
  | .freezeWrite region src on => Sys2Proof.Machine.execFreezeWrite region src on s
  | .freezeTimeout region => Sys2Proof.Machine.execFreezeTimeout region s
  | .lwClr region r => Sys2Proof.Machine.execLwClr region r s
  | .pcieLinkDown perst => Sys2Proof.Machine.execPcieLinkDown perst s
  | .pcieFlr => Sys2Proof.Machine.execPcieFlr s
  | .flumeFrameRx port f idx => Sys2Proof.Machine.execFlumeFrameRx port f idx s
  | .creditRx port session l => Sys2Proof.Machine.execCreditRx port session l s
  | .flumeFlush queue => Sys2Proof.Machine.execFlumeFlush queue s
  | .flumeRetxTimeout queue => Sys2Proof.Machine.execFlumeRetxTimeout queue s
  | .creditSend => Sys2Proof.Machine.execCreditSend s
  | .hostTimeout => Sys2Proof.Machine.execHostTimeout s
  | .flumeStall queue => Sys2Proof.Machine.execFlumeStall queue s
  | .qevClr queue => Sys2Proof.Machine.execQevClr queue s
  | .pfcRx port mask quanta => Sys2Proof.Machine.execPfcRx port mask quanta s
  | .pfcXoffRepeat port => Sys2Proof.Machine.execPfcXoffRepeat port s
  | .ethLinkChange port up anDone => Sys2Proof.Machine.execEthLinkChange port up anDone s
  | .canalTrained port h laneSwap => Sys2Proof.Machine.execCanalTrained port h laneSwap s
  | .canalTrainTimeout port => Sys2Proof.Machine.execCanalTrainTimeout port s
  | .canalLinkFail port lockLost => Sys2Proof.Machine.execCanalLinkFail port lockLost s
  | .canalReplayTimeout port => Sys2Proof.Machine.execCanalReplayTimeout port s
  | .canalMessageRx port m x => Sys2Proof.Machine.execCanalMessageRx port m x s
  | .enumRx port count own => Sys2Proof.Machine.execEnumRx port count own s
  | .enumTimeout => Sys2Proof.Machine.execEnumTimeout s
  | .ringNoticeRx port link up => Sys2Proof.Machine.execRingNoticeRx port link up s
  | .island => Sys2Proof.Machine.execIsland s
  | .delayReq port => Sys2Proof.Machine.execDelayReq port s
  | .delayRespRx port t1 t2 t3 => Sys2Proof.Machine.execDelayRespRx port t1 t2 t3 s
  | .timeMessageSend => Sys2Proof.Machine.execTimeMessageSend s
  | .timeMessageRx port hops timeS timeNs corr uncert epoch tq mseq origin unit => Sys2Proof.Machine.execTimeMessageRx port hops timeS timeNs corr uncert epoch tq mseq origin unit s
  | .regMessageRx m x => Sys2Proof.Machine.execRegMessageRx m x s
  | .peerAlivePulse => Sys2Proof.Machine.execPeerAlivePulse s
  | .peerPulseRx width => Sys2Proof.Machine.execPeerPulseRx width s
  | .peerPulseMissed => Sys2Proof.Machine.execPeerPulseMissed s
  | .pairKick => Sys2Proof.Machine.execPairKick s
  | .pairResetRole => Sys2Proof.Machine.execPairResetRole s
  | .claimCheck => Sys2Proof.Machine.execClaimCheck s
  | .claimLineChange asserted => Sys2Proof.Machine.execClaimLineChange asserted s
  | .pairWarm on => Sys2Proof.Machine.execPairWarm on s
  | .pairTake => Sys2Proof.Machine.execPairTake s
  | .takeoverStart => Sys2Proof.Machine.execTakeoverStart s
  | .takeoverLoaded => Sys2Proof.Machine.execTakeoverLoaded s
  | .pairDataRx m => Sys2Proof.Machine.execPairDataRx m s
  | .pairCutRx m => Sys2Proof.Machine.execPairCutRx m s
  | .pairAckRx sfn => Sys2Proof.Machine.execPairAckRx sfn s
  | .partnerAckTimeout => Sys2Proof.Machine.execPartnerAckTimeout s
  | .stopStateRx cls reason stopSeq => Sys2Proof.Machine.execStopStateRx cls reason stopSeq s
  | .pairStatusSend => Sys2Proof.Machine.execPairStatusSend s
  | .pairStatusRx m => Sys2Proof.Machine.execPairStatusRx m s
  | .handoverRx => Sys2Proof.Machine.execHandoverRx s
  | .resyncRx => Sys2Proof.Machine.execResyncRx s
  | .pairSwitch => Sys2Proof.Machine.execPairSwitch s
  | .switchReqRx => Sys2Proof.Machine.execSwitchReqRx s
  | .switchRx sfn => Sys2Proof.Machine.execSwitchRx sfn s
  | .revertHoldoffExpiry => Sys2Proof.Machine.execRevertHoldoffExpiry s
  | .revertRequest => Sys2Proof.Machine.execRevertRequest s
  | .meterWindow w => Sys2Proof.Machine.execMeterWindow w s
  | .meterSecond => Sys2Proof.Machine.execMeterSecond s
  | .meterIntervalEnd => Sys2Proof.Machine.execMeterIntervalEnd s
  | .pqRefresh v rms => Sys2Proof.Machine.execPqRefresh v rms s
  | .meterSave ok => Sys2Proof.Machine.execMeterSave ok s
  | .meterPulse k => Sys2Proof.Machine.execMeterPulse k s
  | .pulseCfgWrite src k value => Sys2Proof.Machine.execPulseCfgWrite src k value s
  | .attGo => Sys2Proof.Machine.execAttGo s
  | .attestDone => Sys2Proof.Machine.execAttestDone s
  | .ksSign via => Sys2Proof.Machine.execKsSign via s
  | .ksVerify via ok => Sys2Proof.Machine.execKsVerify via ok s
  | .ksDerive via => Sys2Proof.Machine.execKsDerive via s
  | .remask => Sys2Proof.Machine.execRemask s
  | .tokOpen src => Sys2Proof.Machine.execTokOpen src s
  | .tokGo src => Sys2Proof.Machine.execTokGo src s
  | .tokRelease src => Sys2Proof.Machine.execTokRelease src s
  | .tokOwnerTimeout => Sys2Proof.Machine.execTokOwnerTimeout s
  | .tokenVerifyDone sigOk key burnOk => Sys2Proof.Machine.execTokenVerifyDone sigOk key burnOk s
  | .tokNonceExpiry => Sys2Proof.Machine.execTokNonceExpiry s
  | .fuseProgGo setting value signer => Sys2Proof.Machine.execFuseProgGo setting value signer s
  | .fuseBurnDone ok => Sys2Proof.Machine.execFuseBurnDone ok s
  | .lcTransition target signer burnOk => Sys2Proof.Machine.execLcTransition target signer burnOk s
  | .lcRetire burnOk => Sys2Proof.Machine.execLcRetire burnOk s
  | .dbgOpenObserve => Sys2Proof.Machine.execDbgOpenObserve s
  | .dbgOpenFull => Sys2Proof.Machine.execDbgOpenFull s
  | .dbgObserve => Sys2Proof.Machine.execDbgObserve s
  | .certGo sigOk => Sys2Proof.Machine.execCertGo sigOk s
  | .dbgEnd => Sys2Proof.Machine.execDbgEnd s
  | .dbgDurationExpiry => Sys2Proof.Machine.execDbgDurationExpiry s
  | .extest trst => Sys2Proof.Machine.execExtest trst s
  | .pwrTargetWrite t => Sys2Proof.Machine.execPwrTargetWrite t s
  | .mainSupplyLoss vbat => Sys2Proof.Machine.execMainSupplyLoss vbat s
  | .vddGateLoss => Sys2Proof.Machine.execVddGateLoss s
  | .supplyMonitorTrip rail vbat => Sys2Proof.Machine.execSupplyMonitorTrip rail vbat s
  | .thermalTrip tj => Sys2Proof.Machine.execThermalTrip tj s
  | .tempWarn tj => Sys2Proof.Machine.execTempWarn tj s
  | .porst widthNs head role recovN => Sys2Proof.Machine.execPorst widthNs head role recovN s
  | .romBoot copyOk => Sys2Proof.Machine.execRomBoot copyOk s
  | .bootOk src => Sys2Proof.Machine.execBootOk src s
  | .keepWatchdog => Sys2Proof.Machine.execKeepWatchdog s
  | .imageLoad t => Sys2Proof.Machine.execImageLoad t s
  | .updVerify set => Sys2Proof.Machine.execUpdVerify set s
  | .updProgram => Sys2Proof.Machine.execUpdProgram s
  | .updCancel => Sys2Proof.Machine.execUpdCancel s
  | .updDone changed flashOk sectors => Sys2Proof.Machine.execUpdDone changed flashOk sectors s
  | .updCommit signer => Sys2Proof.Machine.execUpdCommit signer s
  | .recoveryChunk ch rec idx => Sys2Proof.Machine.execRecoveryChunk ch rec idx s
  | .rcvGo idx => Sys2Proof.Machine.execRcvGo idx s
  | .recoverySilence => Sys2Proof.Machine.execRecoverySilence s
  | .weirTokenDue code => Sys2Proof.Machine.execWeirTokenDue code s
  | .weirBucketReturn code => Sys2Proof.Machine.execWeirBucketReturn code s
  | .eventSummary => Sys2Proof.Machine.execEventSummary s
  | .seqSave => Sys2Proof.Machine.execSeqSave s
  | .foundingBatch n => Sys2Proof.Machine.execFoundingBatch n s
  | .mainSupplyReturn head role recovN => Sys2Proof.Machine.execMainSupplyReturn head role recovN s
  | .railBackInRange rail => Sys2Proof.Machine.execRailBackInRange rail s
  | .auxclkReturn auxEdges => Sys2Proof.Machine.execAuxclkReturn auxEdges s
  | .stepWindowBegins idx => Sys2Proof.Machine.execStepWindowBegins idx s
  | .directLockEnd t => Sys2Proof.Machine.execDirectLockEnd t s
  | .pcieLinkUp speed width bme => Sys2Proof.Machine.execPcieLinkUp speed width bme s
  | .msixVectorUnmask v => Sys2Proof.Machine.execMsixVectorUnmask v s
  | .canalFlitRx port crcOk seq ackSeq crClass crTotal ctrl => Sys2Proof.Machine.execCanalFlitRx port crcOk seq ackSeq crClass crTotal ctrl s
  | .pfcPauseExpiry port prio => Sys2Proof.Machine.execPfcPauseExpiry port prio s
  | .ethOtherFrameRx port f forSup => Sys2Proof.Machine.execEthOtherFrameRx port f forSup s
  | .meterOutageSample ma => Sys2Proof.Machine.execMeterOutageSample ma s
  | .tjBelow105 tj => Sys2Proof.Machine.execTjBelow105 tj s
  | .debugHalt core act => Sys2Proof.Machine.execDebugHalt core act s
  | .recoveryLinkTry port => Sys2Proof.Machine.execRecoveryLinkTry port s

end Sys2Proof.Machine
end

