-- ==== Sys2Proof/Safety.lean ====
section
/-! DEFINITION. The terms that claims use: which parts of the state a command may touch, and what it then leaves; a register
page that is a page of the chip; the canonical form of every memory. -/
namespace Sys2Proof.Machine
open Sys2Proof

/-- Parts of the state that something may touch: all of `State` but the queue and the physical time, which no command
touches. -/
structure Touch where
  /-- Blocks whose registers, counters, table entries and page may be touched. -/
  blks : List Blk := []
  /-- `State.ft` -/
  ft : Bool := false
  /-- `State.fresh` -/
  fresh : Bool := false
  /-- `State.latch` -/
  latch : Bool := false
  /-- `State.dram` -/
  dram : Bool := false
  /-- `State.once` -/
  once : Bool := false
  /-- `State.tags` -/
  tags : Bool := false
  /-- `State.vecSent` -/
  vecSent : Bool := false
  /-- `State.vecMask` -/
  vecMask : Bool := false
  /-- `State.fq` -/
  fq : Bool := false
  /-- `State.ev` -/
  ev : Bool := false
  /-- `State.out` -/
  out : Bool := false
  /-- `State.canal` -/
  canal : Bool := false
  /-- `State.hg` -/
  hg : Bool := false
  /-- `State.flt` -/
  flt : Bool := false
  /-- `State.sup` -/
  sup : Bool := false
  /-- `State.held` -/
  held : Bool := false
  /-- `State.air` -/
  air : Bool := false
  /-- `State.arb` -/
  arb : Bool := false
  /-- `State.lk` -/
  lk : Bool := false
  /-- `State.pair` -/
  pair : Bool := false
  /-- `State.gn` -/
  gn : Bool := false
  /-- `State.tm` -/
  tm : Bool := false
  /-- `State.disp` -/
  disp : Bool := false
  /-- `State.ls` -/
  ls : Bool := false
  /-- `State.mot` -/
  mot : Bool := false
  /-- `State.motNsp` -/
  motNsp : Bool := false
  /-- `State.rtk` -/
  rtk : Bool := false
  /-- `State.rt` -/
  rt : Bool := false
  /-- `State.clk` -/
  clk : Bool := false
  /-- `State.met` -/
  met : Bool := false
  /-- `State.key` -/
  key : Bool := false
  /-- `State.dbg` -/
  dbg : Bool := false
  /-- `State.boot` -/
  boot : Bool := false
  deriving DecidableEq, Repr

/-- What is left of a state when the parts that may be touched are hidden. -/
structure Rest where
  pending : List Instr
  now : Nat
  ft : Option (Nat)
  fresh : Option (Nat)
  regs : AMap Word
  ctrs : AMap (BitVec 64)
  latch : Option (AMap Word)
  tbl : AMap Nat
  dram : Option (AMap Byte)
  pg : AMap PageSt
  once : Option (AMap Nat)
  tags : Option (List (Nat × Compl))
  vecSent : Option (List Nat)
  vecMask : Option (List Nat)
  fq : Option (List FQ)
  ev : Option (EvLogSt)
  out : Option (List Out)
  canal : Option (CanalSt)
  hg : Option (HgSt)
  flt : Option (FltSt)
  sup : Option (SupplySt)
  held : Option (List Held)
  air : Option (AirSt)
  arb : Option (List ArbSt)
  lk : Option (LinkSt)
  pair : Option (PairSt)
  gn : Option (GnssSt)
  tm : Option (TimeSt)
  disp : Option (DispSt)
  ls : Option (LeaseSt)
  mot : Option (AMap MotSt)
  motNsp : Option (Nat)
  rtk : Option (RtkSt)
  rt : Option (RouteSt)
  clk : Option (ClkSt)
  met : Option (MeterSt)
  key : Option (KeySt)
  dbg : Option (DebugSt)
  boot : Option (BootSt)
  deriving DecidableEq, Repr

/-- Hide a value, or show it. -/
def hide {α : Type} (b : Bool) (x : α) : Option α := if b then none else some x

/-- The block whose page decodes an address, if any. -/
def blkAt (a : Nat) : Option Blk := (Page.ofAddr a).map (·.blk)

/-- Whether what stands at a block may be touched; what stands at no block's page is nobody's. -/
def Touch.has (w : Touch) : Option Blk → Bool
  | some b => w.blks.contains b
  | none => true

/-- What is left of the words, counters or pages when those of the touched blocks are hidden. -/
def Touch.regLeft {α : Type} (w : Touch) (m : AMap α) : AMap α := m.filter fun e => !w.has (blkAt e.1)

/-- What is left of the table entries. -/
def Touch.tblLeft (w : Touch) (m : AMap Nat) : AMap Nat := m.filter fun e => !w.has (blkAt (e.1 / 2 ^ 28 * 0x1000))

/-- The state without the parts of `w`: equal for two states exactly when they agree on the queue, the time and every part, and every block's registers,
counters, table entries and pages, not in `w`. -/
def State.rest (w : Touch) (s : State) : Rest :=
  { pending := s.pending, now := s.now,
    ft := hide w.ft s.ft, fresh := hide w.fresh s.fresh, regs := w.regLeft s.regs, ctrs := w.regLeft s.ctrs,
    latch := hide w.latch s.latch, tbl := w.tblLeft s.tbl, dram := hide w.dram s.dram, pg := w.regLeft s.pg,
    once := hide w.once s.once, tags := hide w.tags s.tags, vecSent := hide w.vecSent s.vecSent, vecMask := hide w.vecMask s.vecMask,
    fq := hide w.fq s.fq, ev := hide w.ev s.ev, out := hide w.out s.out, canal := hide w.canal s.canal,
    hg := hide w.hg s.hg, flt := hide w.flt s.flt, sup := hide w.sup s.sup, held := hide w.held s.held,
    air := hide w.air s.air, arb := hide w.arb s.arb, lk := hide w.lk s.lk, pair := hide w.pair s.pair,
    gn := hide w.gn s.gn, tm := hide w.tm s.tm, disp := hide w.disp s.disp, ls := hide w.ls s.ls,
    mot := hide w.mot s.mot, motNsp := hide w.motNsp s.motNsp, rtk := hide w.rtk s.rtk, rt := hide w.rt s.rt,
    clk := hide w.clk s.clk, met := hide w.met s.met, key := hide w.key s.key, dbg := hide w.dbg s.dbg,
    boot := hide w.boot s.boot }

/-- What a next state leaves; nothing where the outcome is none. -/
def Res.rest (w : Touch) : Res → Option Rest
  | .next t => some (t.rest w)
  | _ => none

/-- Every memory is in canonical form (`AMap.wf`): registers, counters, latches, tables, DRAM, pages, motion. -/
def State.wf (s : State) : Bool :=
  AMap.wf regReset s.regs && AMap.wf (fun _ => (0 : BitVec 64)) s.ctrs && AMap.wf (fun _ => (0 : Word)) s.latch &&
    AMap.wf tblReset s.tbl && AMap.wf (fun _ => (0 : Byte)) s.dram && AMap.wf (fun _ => ({} : PageSt)) s.pg &&
    AMap.wf (fun _ => 0) s.once && AMap.wf (fun _ => ({} : MotSt)) s.mot

/-- A bit of a page's IRQ_STATUS is set (R54). -/
def State.irqUp (s : State) (p : Page) (n : Nat) : Bool := bit (s.reg (p.adr 0x01C)) n

/-- Every block, the region controllers among them. -/
def Blk.every : List Blk := .regionCtl :: Blk.all

/-- What a record, an interrupt, or a message touches: registers, counters, the queues to the host, the event recorder, the
first-in-a-second marks, the messages sent to the ring and to the host. -/
def touchLog : Touch :=
  { blks := [.canal, .eth, .evlog, .flume, .pcie], out := true, vecSent := true, fq := true, ev := true, once := true, canal := true }
/-- What a change of the service level touches beside those: the Headgate, the fault manager, held members with their
items in the dispatcher, the observations in waiting, and the after-images for the partner. -/
def touchLevel : Touch :=
  { touchLog with blks := [.canal, .eth, .evlog, .flume, .pcie, .core, .dispatch, .fault, .headgate, .obsIn, .registry, .rtkCtrl], hg := true, flt := true, pair := true, disp := true, rtk := true }
/-- Everything: what a chip reset touches. -/
def touchAll : Touch :=
  { touchLevel with
    blks := Blk.every,
    ft := true, fresh := true, latch := true, dram := true, tags := true, vecMask := true,
    sup := true, held := true, air := true, arb := true, lk := true, gn := true,
    tm := true, ls := true, mot := true, motNsp := true, rt := true, clk := true,
    met := true, key := true, dbg := true, boot := true }

/-- The parts of the state that a command may touch, command by command; with `State.rest` this is each command's frame. -/
def touches : Instr → Touch
  | .registerWrite _ _ _ _ => touchAll
  | .unmappedAccess _ _ _ _ => { touchLog with blks := [.core, .fault] ++ touchLog.blks, clk := true }
  | .counterRead _ _ => { touchLog with blks := [.core, .fault, .regionCtl, .time] ++ touchLog.blks, latch := true, tm := true, clk := true }
  | .nowNsRead _ => { latch := true, out := true }
  | .bar2Access _ _ _ _ _ => touchAll
  | .tunnelTimeout _ => { touchLog with blks := [.fault] ++ touchLog.blks }
  | .ctrlEnWrite _ _ _ => { touchLevel with blks := Blk.every, fresh := true, tags := true, vecMask := true, held := true, air := true, arb := true, lk := true, gn := true, ls := true, mot := true, met := true }
  | .ctrlRestart p0 => { touchLevel with blks := [.airport, .regionCtl] ++ touchLevel.blks ++ [p0.blk], air := true, arb := true }
  | .isoClear p0 => { blks := [p0.blk] }
  | .startupComplete _ _ _ _ => touchAll
  | .startupSafePoint _ => { touchLevel with blks := Blk.every, fresh := true, tags := true, vecMask := true, held := true, air := true, arb := true, lk := true, gn := true, ls := true, mot := true, met := true }
  | .shutdownComplete _ => { touchLevel with blks := Blk.every, fresh := true, tags := true, vecMask := true, held := true, air := true, arb := true, lk := true, gn := true, ls := true, mot := true, met := true }
  | .regionIsolate _ _ _ _ => { touchLevel with blks := Blk.every, fresh := true, dram := true, tags := true, vecMask := true, held := true, air := true, arb := true, lk := true, gn := true, ls := true, mot := true, rt := true, clk := true, met := true }
  | .blockAutoRestart p0 => { touchLevel with blks := [.airport, .dram, .pair, .regionCtl] ++ touchLevel.blks ++ [p0.blk], fresh := true, air := true, arb := true }
  | .cellError _ _ _ _ _ _ _ => touchAll
  | .levelRise => { touchLevel with blks := [.lease, .motion, .taskboard, .turnout] ++ touchLevel.blks, tags := true, held := true, ls := true, mot := true }
  | .errInject _ _ _ _ => touchAll
  | .irqForce _ _ _ => touchAll
  | .lockWrite _ _ => touchAll
  | .vecAck _ => { blks := [.pcie], vecSent := true, out := true }
  | .tblRead _ _ _ _ => { touchLog with blks := Blk.every, dram := true, tags := true, held := true, pair := true, disp := true, rtk := true, clk := true }
  | .tblWrite _ _ _ _ => { touchLog with blks := Blk.every, dram := true, tags := true, held := true, pair := true, disp := true, rtk := true, clk := true }
  | .tblInsert _ _ _ _ => { touchLog with blks := Blk.every, dram := true, tags := true, held := true, pair := true, disp := true, rtk := true, clk := true }
  | .tblDelete _ _ _ _ => { touchLog with blks := Blk.every, dram := true, tags := true, held := true, pair := true, disp := true, rtk := true, clk := true }
  | .tblLookup _ _ _ _ => { touchLog with blks := Blk.every, dram := true, tags := true, held := true, pair := true, disp := true, rtk := true, clk := true }
  | .tblNext _ _ _ _ => { touchLog with blks := Blk.every, dram := true, tags := true, held := true, pair := true, disp := true, rtk := true, clk := true }
  | .tblCmpwrite _ _ _ _ => { touchLog with blks := Blk.every, dram := true, tags := true, held := true, pair := true, disp := true, rtk := true, clk := true }
  | .tagCompletion => { touchLevel with blks := [.airport, .dram, .pair, .regionCtl] ++ touchLevel.blks, fresh := true, tags := true, air := true, arb := true, lk := true }
  | .refclkLost _ _ => { touchLog with blks := [.clock, .headgate] ++ touchLog.blks, hg := true, air := true, clk := true }
  | .pllRelock _ => touchAll
  | .refGood10s => { blks := [.clock] }
  | .returnReq => { blks := [.clock], air := true, clk := true }
  | .rootReturn => { blks := [.clock], air := true, clk := true }
  | .returnFail => { blks := [.clock] }
  | .auxclkLost _ _ => { touchLog with blks := [.clock, .headgate] ++ touchLog.blks, hg := true, air := true, clk := true }
  | .rootInputRecovered _ _ _ => touchAll
  | .dramScrubPass _ _ => { touchLevel with blks := [.airport, .dram, .pair, .regionCtl] ++ touchLevel.blks, fresh := true, air := true, arb := true, clk := true }
  | .dramTrainingDone _ => { touchLevel with blks := [.airport, .dram, .gnssMeas, .gnssRf, .gnssTrk, .pair, .regionCtl, .route, .solver] ++ touchLevel.blks, fresh := true, dram := true, air := true, arb := true, gn := true, rt := true, clk := true, met := true, boot := true }
  | .supRestart => { touchLevel with blks := [.reset] ++ touchLevel.blks, clk := true }
  | .supHold _ => { touchLevel with blks := [.reset] ++ touchLevel.blks, clk := true }
  | .supRelease _ _ => { touchLevel with blks := Blk.every, fresh := true, tags := true, held := true, air := true, arb := true, ls := true, mot := true, clk := true }
  | .chipResetGo => touchAll
  | .bundleAssembly _ _ _ => { blks := [.canal, .core, .dispatch, .eth, .flume, .motion, .pcie], vecSent := true, fq := true, out := true, canal := true, air := true, pair := true, disp := true, mot := true }
  | .antCurrentClassify _ _ => { touchLog with blks := [.gnssMeas, .gnssRf] ++ touchLog.blks, gn := true }
  | .interfSet _ _ _ _ _ => { blks := [.gnssMeas, .gnssRf, .pcie], vecSent := true, out := true, gn := true }
  | .interfClear _ _ _ _ _ => { blks := [.gnssMeas, .gnssRf], gn := true }
  | .acqPass _ => { touchLog with blks := [.gnssAcq, .gnssMeas, .gnssTrk] ++ touchLog.blks, gn := true }
  | .channelLock _ => { blks := [.gnssTrk], gn := true }
  | .pullInTimeout _ => { blks := [.gnssTrk], gn := true }
  | .cycleSlip _ => { blks := [.gnssTrk], gn := true }
  | .trackLoss _ => { blks := [.gnssTrk], gn := true }
  | .channelRelock _ => { blks := [.gnssTrk], gn := true }
  | .lostTimeout _ _ => { blks := [.gnssTrk], gn := true }
  | .polarityResolved _ => { blks := [.gnssTrk], gn := true }
  | .measStrobe _ => { touchLog with blks := Blk.every, fresh := true, gn := true }
  | .epochComplete _ _ => { touchLevel with blks := [.dram, .gnssMeas, .time] ++ touchLevel.blks, fresh := true, dram := true, gn := true, tm := true, clk := true }
  | .spoofClear => { blks := [.gnssMeas] }
  | .surveyStart => { blks := [.gnssMeas], gn := true }
  | .surveySecond _ _ _ => { touchLog with blks := [.gnssMeas] ++ touchLog.blks, gn := true }
  | .surveyTimeout => { blks := [.gnssMeas, .pcie], vecSent := true, out := true }
  | .timeSourceMeasure _ _ _ _ => { touchLevel with blks := [.time] ++ touchLevel.blks, ft := true, fresh := true, sup := true, air := true, gn := true, tm := true, rt := true, clk := true, met := true }
  | .slewComplete => { blks := [.time], tm := true }
  | .tqEvaluate => { touchLevel with blks := [.time] ++ touchLevel.blks, tm := true }
  | .refusedTimeout => { blks := [.time] }
  | .gapAllowExpiry => { blks := [.time] }
  | .stepToSource => { touchLevel with blks := [.time] ++ touchLevel.blks, fresh := true, tm := true }
  | .stepByOffset _ => { touchLevel with blks := [.time] ++ touchLevel.blks, fresh := true, tm := true }
  | .acceptFree => { touchLevel with blks := [.time] ++ touchLevel.blks, fresh := true, tm := true }
  | .slewAccept => { touchLevel with blks := [.time] ++ touchLevel.blks, fresh := true, tm := true }
  | .timeStepApply => { touchLevel with blks := [.lease, .meter, .motion, .taskboard, .time, .turnout] ++ touchLevel.blks, ft := true, fresh := true, tags := true, sup := true, held := true, air := true, gn := true, tm := true, ls := true, mot := true, rt := true, clk := true, met := true }
  | .rebaseComplete => { touchLog with blks := Blk.every, fresh := true, dram := true, tags := true, held := true, air := true, pair := true, tm := true, disp := true, ls := true, mot := true, rtk := true, rt := true, clk := true }
  | .ppsEdge => { out := true, tm := true }
  | .ptpEventRx _ _ => { blks := [.canal, .eth, .flume, .pcie], vecSent := true, fq := true, out := true, canal := true, lk := true, tm := true }
  | .ptpEventTx _ _ _ _ _ => { touchLog with blks := [.time] ++ touchLog.blks, tm := true }
  | .txtsPop _ _ => { blks := [.pcie, .time], vecSent := true, out := true, tm := true }
  | .memberEpochReady _ => { blks := [.rtkCtrl], rtk := true }
  | .cellTake _ => { blks := [.rtkCtrl, .solver], rtk := true }
  | .deadlineDrop _ => { blks := [.pcie, .rtkCtrl], vecSent := true, out := true, rtk := true }
  | .solveComplete _ _ => { touchLog with blks := [.core, .dispatch, .registry, .rtkCtrl, .solver] ++ touchLog.blks, fresh := true, pair := true, disp := true, mot := true, rtk := true }
  | .cellWatchdog _ => touchAll
  | .rtkCapacityEval => { touchLog with blks := [.rtkCtrl] ++ touchLog.blks, pair := true, rtk := true }
  | .signalAbsentTimeout _ _ _ => { rtk := true }
  | .memberStateTimeout _ => { blks := [.rtkCtrl], pair := true, rtk := true }
  | .baseLost => touchLevel
  | .corrBuild => { blks := [.canal, .corrOut, .eth, .flume, .pcie], vecSent := true, fq := true, out := true, canal := true, rtk := true }
  | .corrEntry _ _ => { blks := [.airport, .corrOut, .frameSec, .pcie, .sluice], vecSent := true, out := true, hg := true, air := true, rtk := true }
  | .framingLock _ => { blks := [.airport], air := true }
  | .framingLoss _ => { touchLevel with blks := [.airport, .pair, .regionCtl] ++ touchLevel.blks, fresh := true, air := true, arb := true }
  | .ppduTx _ _ _ => { blks := [.airport], out := true, air := true }
  | .ppduRx _ _ _ => { blks := [.airport, .frameSec, .sluice], out := true, air := true }
  | .spiTxnGo _ _ => { blks := [.airport, .canal], air := true }
  | .spiTxnDone _ _ => { touchLevel with blks := [.airport, .pair, .regionCtl] ++ touchLevel.blks, fresh := true, air := true, arb := true }
  | .healthCheck _ _ => { touchLevel with blks := [.airport, .pair, .regionCtl] ++ touchLevel.blks, fresh := true, air := true, arb := true }
  | .airportStartTimeout _ => { touchLevel with blks := [.airport, .pair, .regionCtl] ++ touchLevel.blks, fresh := true, air := true, arb := true }
  | .txPathGrant _ => { blks := [.airport, .headgate], air := true }
  | .portSvcStart _ => { blks := [.airport, .pcie, .sluice], vecSent := true, out := true, air := true }
  | .portSvcFault _ => { touchLog with blks := [.airport, .core, .dispatch, .registry] ++ touchLog.blks, air := true, pair := true, disp := true }
  | .faultClr _ => { blks := [.airport, .canal, .pcie, .sluice], vecSent := true, out := true, air := true }
  | .superframeBoundary => { touchLevel with blks := Blk.every, fresh := true, tags := true, vecMask := true, held := true, air := true, arb := true, lk := true, gn := true, ls := true, mot := true, motNsp := true, met := true }
  | .sluiceBankClear _ _ _ => { touchLog with blks := [.core, .fault, .sluice] ++ touchLog.blks, tags := true, held := true, pair := true, clk := true }
  | .bankArm _ => { blks := [.pcie, .registry, .sluice], vecSent := true, out := true, air := true, pair := true }
  | .bankCancel _ => { blks := [.sluice], air := true, pair := true }
  | .upFrameRx _ => { touchLog with blks := [.airport, .core, .dispatch, .dram, .frameSec, .keep, .lease, .motion, .obsIn, .registry, .rtkCtrl, .sluice, .taskboard, .turnout] ++ touchLog.blks, dram := true, air := true, pair := true, gn := true, disp := true, ls := true, mot := true, rtk := true, clk := true }
  | .ackRx _ => { blks := [.sluice], air := true, pair := true, mot := true }
  | .ackMissing _ _ => { touchLog with blks := [.sluice] ++ touchLog.blks, air := true }
  | .joinReqRx _ => { touchLog with blks := Blk.every, fresh := true, dram := true, tags := true, hg := true, held := true, air := true, pair := true, disp := true, ls := true, mot := true, rtk := true, clk := true }
  | .downBcastEntry _ _ => { blks := [.airport, .canal, .flood, .frameSec, .pcie, .route], vecSent := true, out := true, canal := true, hg := true, air := true }
  | .upEntryEnd _ _ => { touchLog with blks := [.core, .dispatch, .lease, .motion, .registry, .sluice, .turnout] ++ touchLog.blks, air := true, pair := true, disp := true, ls := true, mot := true }
  | .relayedFrameRx _ => { touchLog with blks := [.airport, .core, .dispatch, .dram, .flood, .frameSec, .keep, .lease, .motion, .obsIn, .registry, .route, .rtkCtrl, .sluice, .taskboard, .turnout] ++ touchLog.blks, dram := true, air := true, pair := true, gn := true, disp := true, ls := true, mot := true, rtk := true, rt := true, clk := true }
  | .routeAgeTick => { blks := [.route], rt := true }
  | .routeScanStep => { touchLog with blks := [.route] ++ touchLog.blks, dram := true, pair := true, rt := true, clk := true }
  | .routeRepack _ => { touchLog with blks := [.core, .fault, .route] ++ touchLog.blks, tags := true, held := true, rt := true, clk := true }
  | .repackComplete => { blks := [.canal, .eth, .flume, .pcie, .route], dram := true, tags := true, vecSent := true, fq := true, out := true, canal := true, held := true, pair := true, rt := true, clk := true }
  | .routeEccHoldExpiry => { blks := [.route], rt := true }
  | .learnRx _ => { touchLog with blks := Blk.every, dram := true, tags := true, held := true, pair := true, disp := true, ls := true, mot := true, rtk := true, clk := true }
  | .floodSeenAge _ _ => { blks := [.flood], rt := true }
  | .furrowOpen _ => { touchLog with blks := [.core, .fault, .lease, .turnout] ++ touchLog.blks, tags := true, held := true, ls := true, clk := true }
  | .furrowSteps _ => { touchLog with blks := [.core, .fault, .lease] ++ touchLog.blks, tags := true, held := true, ls := true, clk := true }
  | .furrowSubmit _ => { touchLog with blks := [.core, .dispatch, .fault, .lease, .turnout] ++ touchLog.blks, tags := true, held := true, pair := true, disp := true, ls := true, clk := true }
  | .furrowRelease _ => { touchLog with blks := [.core, .dispatch, .fault, .lease, .motion, .turnout] ++ touchLog.blks, tags := true, held := true, pair := true, disp := true, ls := true, mot := true, clk := true }
  | .clearOverstay _ => { touchLog with blks := [.core, .dispatch, .fault, .lease, .motion, .turnout] ++ touchLog.blks, tags := true, held := true, pair := true, disp := true, ls := true, mot := true, clk := true }
  | .abandon _ => { touchLog with blks := [.core, .fault, .lease, .turnout] ++ touchLog.blks, tags := true, held := true, ls := true, clk := true }
  | .buildTimeout _ => { blks := [.lease, .turnout], ls := true }
  | .prepareRx _ => { blks := [.canal, .lease, .turnout], out := true, canal := true, pair := true, ls := true }
  | .voteRx _ => { blks := [.canal, .core, .dispatch, .eth, .flume, .lease, .pcie, .turnout], tags := true, vecSent := true, fq := true, out := true, canal := true, held := true, pair := true, disp := true, ls := true }
  | .commitRx _ => { blks := [.canal, .lease, .turnout], out := true, canal := true, pair := true, ls := true }
  | .commitAckRx _ => { blks := [.canal, .core, .dispatch, .eth, .flume, .lease, .pcie, .turnout], tags := true, vecSent := true, fq := true, out := true, canal := true, held := true, pair := true, disp := true, ls := true }
  | .committedRx _ => { blks := [.canal, .core, .dispatch, .eth, .flume, .lease, .pcie], vecSent := true, fq := true, out := true, canal := true, pair := true, disp := true, ls := true }
  | .abortRx _ => { blks := [.canal, .lease, .turnout], out := true, canal := true, pair := true, ls := true }
  | .leaseReleaseRx _ => { blks := [.canal, .lease, .turnout], out := true, canal := true, pair := true, ls := true }
  | .stepDoneRx _ => { touchLog with blks := [.core, .dispatch, .lease, .motion, .turnout] ++ touchLog.blks, pair := true, disp := true, ls := true, mot := true }
  | .stepOverstayRx _ => { blks := [.canal, .core, .dispatch, .eth, .flume, .lease, .pcie, .registry, .turnout], vecSent := true, fq := true, out := true, canal := true, pair := true, disp := true }
  | .takeoverRx _ => { blks := [.canal, .lease, .turnout], out := true, canal := true, pair := true, ls := true }
  | .xferDeadline _ => { blks := [.canal, .core, .dispatch, .eth, .flume, .lease, .pcie, .turnout], tags := true, vecSent := true, fq := true, out := true, canal := true, held := true, pair := true, disp := true, ls := true }
  | .committedTimeout _ => { touchLog with blks := [.core, .dispatch, .lease, .motion, .turnout] ++ touchLog.blks, pair := true, disp := true, ls := true, mot := true }
  | .stepDue _ => { touchLog with blks := [.core, .dispatch, .lease, .motion, .registry, .turnout] ++ touchLog.blks, pair := true, disp := true, ls := true, mot := true }
  | .reportWaitExpiry _ => { blks := [.canal, .core, .dispatch, .eth, .flume, .lease, .pcie, .registry, .turnout], vecSent := true, fq := true, out := true, canal := true, pair := true, disp := true }
  | .lostClr _ => { blks := [.lease] }
  | .ownerForfeit _ => { touchLog with blks := Blk.every, tags := true, held := true, pair := true, disp := true, ls := true, mot := true }
  | .hostGenBump => { touchLog with blks := Blk.every, tags := true, held := true, arb := true, lk := true, pair := true, disp := true, ls := true, mot := true }
  | .tlockStart _ => { blks := [.canal, .core, .dispatch, .eth, .flume, .lease, .pcie, .registry, .turnout], vecSent := true, fq := true, out := true, canal := true, pair := true, disp := true }
  | .tlockEnd _ => { blks := [.lease, .turnout], pair := true }
  | .turnoutTake _ => { touchLog with blks := [.core, .fault, .lease, .turnout] ++ touchLog.blks, tags := true, held := true, pair := true, clk := true }
  | .turnoutDrop _ => { touchLog with blks := [.core, .fault, .lease, .turnout] ++ touchLog.blks, tags := true, held := true, pair := true, clk := true }
  | .orphanClear _ => { touchLog with blks := [.core, .fault, .lease, .turnout] ++ touchLog.blks, tags := true, held := true, pair := true, clk := true }
  | .seqOpen _ => { touchLog with blks := [.core, .fault, .turnout] ++ touchLog.blks, tags := true, held := true, ls := true, clk := true }
  | .seqStage _ => { touchLog with blks := [.core, .fault, .turnout] ++ touchLog.blks, tags := true, held := true, ls := true, clk := true }
  | .seqCommit _ => { touchLog with blks := Blk.every, tags := true, held := true, pair := true, ls := true, clk := true }
  | .seqDiscard _ => { touchLog with blks := [.core, .fault, .turnout] ++ touchLog.blks, tags := true, held := true, ls := true, clk := true }
  | .seqTimeout _ => { blks := [.pcie, .turnout], vecSent := true, out := true, ls := true }
  | .registryRelease _ => { touchLog with blks := [.core, .dispatch, .fault, .registry] ++ touchLog.blks, tags := true, held := true, pair := true, disp := true, clk := true }
  | .registryHold _ => { touchLog with blks := [.core, .dispatch, .fault, .registry] ++ touchLog.blks, tags := true, held := true, pair := true, disp := true, clk := true }
  | .evict _ => { touchLog with blks := Blk.every, tags := true, held := true, air := true, pair := true, disp := true, ls := true, mot := true, rtk := true, clk := true }
  | .noPositionTimeout _ => { blks := [.canal, .core, .dispatch, .eth, .flume, .pcie, .registry], vecSent := true, fq := true, out := true, canal := true, pair := true, disp := true }
  | .moveAdd _ => { touchLog with blks := [.core, .fault, .motion] ++ touchLog.blks, tags := true, held := true, pair := true, mot := true, clk := true }
  | .moveFlush _ => { touchLog with blks := [.core, .fault, .motion] ++ touchLog.blks, tags := true, held := true, pair := true, mot := true, clk := true }
  | .setLimits _ => { touchLog with blks := [.core, .fault, .motion] ++ touchLog.blks, tags := true, held := true, pair := true, mot := true, clk := true }
  | .stopInputFiltered _ _ => { touchLog with blks := [.headgate] ++ touchLog.blks, hg := true }
  | .discrepancy => { touchLog with blks := [.headgate] ++ touchLog.blks, hg := true }
  | .stopReq _ _ => { touchLog with blks := [.headgate] ++ touchLog.blks, hg := true }
  | .burstFrame => { blks := [.airport, .headgate, .sluice], out := true, hg := true, air := true }
  | .hgBeacon _ => { blks := [.airport, .frameSec, .headgate, .pcie], vecSent := true, out := true, hg := true, air := true }
  | .hgKeyLoad => { blks := [.headgate], hg := true }
  | .canalStopRx _ _ _ _ => { touchLog with blks := [.headgate] ++ touchLog.blks, hg := true }
  | .outputTestPulse _ => { out := true, hg := true }
  | .outputReadbackError _ => { touchLevel with blks := [.airport, .pair, .regionCtl] ++ touchLevel.blks, fresh := true, air := true, arb := true }
  | .resumeArm => { blks := [.headgate, .pcie], fresh := true, vecSent := true, out := true, hg := true }
  | .resumeRelease _ => { touchLog with blks := [.headgate] ++ touchLog.blks, hg := true, dbg := true }
  | .armWindowExpiry => { blks := [.headgate], hg := true }
  | .hgSelftest _ => { touchLevel with blks := [.airport, .pair, .regionCtl] ++ touchLevel.blks, fresh := true, air := true, arb := true }
  | .hgPowerOn _ => { touchLevel with blks := [.airport, .pair, .regionCtl] ++ touchLevel.blks, fresh := true, sup := true, air := true, arb := true }
  | .dpTake _ => { blks := [.canal, .core, .dispatch, .eth, .flume, .pcie], vecSent := true, fq := true, out := true, canal := true, disp := true }
  | .itemDone _ _ => { blks := [.canal, .core, .dispatch, .eth, .flume, .pcie], vecSent := true, fq := true, out := true, canal := true, air := true, disp := true }
  | .emitCmd _ _ _ _ _ _ _ => { blks := [.dispatch], disp := true }
  | .itemTimeout _ _ => { touchLog with blks := Blk.every, tags := true, held := true, air := true, pair := true, disp := true, ls := true, mot := true }
  | .dispatchPost _ => { touchLog with blks := [.core, .dispatch, .fault] ++ touchLog.blks, tags := true, held := true, disp := true, clk := true }
  | .timerFire _ => { blks := [.canal, .core, .dispatch, .eth, .flume, .pcie], vecSent := true, fq := true, out := true, canal := true, pair := true, disp := true }
  | .traceSync => { blks := [.canal, .dispatch, .eth, .flume, .pcie], vecSent := true, fq := true, out := true, canal := true, disp := true }
  | .taskCreate _ => { touchLog with blks := [.core, .dispatch, .fault, .taskboard] ++ touchLog.blks, tags := true, held := true, pair := true, disp := true, clk := true }
  | .taskOffer _ => { touchLog with blks := [.core, .dispatch, .fault, .taskboard] ++ touchLog.blks, tags := true, held := true, air := true, pair := true, disp := true, clk := true }
  | .taskClaim _ => { touchLog with blks := [.core, .dispatch, .fault, .taskboard] ++ touchLog.blks, tags := true, held := true, pair := true, disp := true, clk := true }
  | .taskStart _ => { touchLog with blks := [.core, .dispatch, .fault, .taskboard] ++ touchLog.blks, tags := true, held := true, pair := true, disp := true, clk := true }
  | .taskFinish _ => { touchLog with blks := [.core, .dispatch, .fault, .taskboard] ++ touchLog.blks, tags := true, held := true, pair := true, disp := true, clk := true }
  | .taskWithdraw _ => { touchLog with blks := [.core, .dispatch, .fault, .taskboard] ++ touchLog.blks, tags := true, held := true, air := true, pair := true, disp := true, clk := true }
  | .taskFree _ => { touchLog with blks := [.core, .dispatch, .fault, .taskboard] ++ touchLog.blks, tags := true, held := true, pair := true, disp := true, clk := true }
  | .taskDeadline _ => { blks := [.canal, .core, .dispatch, .eth, .flume, .pcie, .taskboard], vecSent := true, fq := true, out := true, canal := true, pair := true, disp := true }
  | .chargeEnergyTick => { blks := [.canal, .core, .dispatch, .eth, .flume, .pcie, .taskboard], vecSent := true, fq := true, out := true, canal := true, pair := true, disp := true }
  | .arbRequest _ _ _ _ _ => { blks := [.pcie, .regionCtl], vecSent := true, out := true, arb := true }
  | .arbGrantEnd _ => { blks := [.pcie, .regionCtl], vecSent := true, out := true, arb := true }
  | .arbWithdraw _ _ _ => { blks := [.pcie, .regionCtl], vecSent := true, out := true, arb := true }
  | .quotaWindow _ => { blks := [.pcie, .regionCtl], vecSent := true, out := true, arb := true }
  | .freezeWrite _ _ _ => { blks := [.pcie, .regionCtl], vecSent := true, out := true, arb := true }
  | .freezeTimeout _ => { touchLog with blks := [.regionCtl] ++ touchLog.blks, arb := true }
  | .lwClr _ _ => { arb := true }
  | .pcieLinkDown _ => { touchLog with blks := Blk.every, tags := true, vecMask := true, held := true, arb := true, lk := true, pair := true, disp := true, ls := true, mot := true }
  | .pcieFlr => { touchLog with blks := Blk.every, tags := true, vecMask := true, held := true, arb := true, lk := true, pair := true, disp := true, ls := true, mot := true }
  | .flumeFrameRx _ _ _ => { touchLevel with blks := Blk.every, fresh := true, dram := true, tags := true, held := true, air := true, arb := true, lk := true, tm := true, ls := true, mot := true, rt := true, clk := true, key := true, boot := true }
  | .creditRx _ _ _ => { blks := [.canal, .core, .dispatch, .eth, .flume, .pcie], vecSent := true, fq := true, out := true, canal := true, air := true, lk := true, disp := true }
  | .flumeFlush _ => { blks := [.canal, .eth, .flume], fq := true, out := true, canal := true }
  | .flumeRetxTimeout _ => { blks := [.canal, .eth, .flume], fq := true, out := true, canal := true }
  | .creditSend => { blks := [.canal, .eth], fq := true, out := true, canal := true, lk := true }
  | .hostTimeout => { blks := [.flume, .pcie], vecSent := true, out := true }
  | .flumeStall _ => { blks := [.pcie], vecSent := true, fq := true, out := true }
  | .qevClr _ => { fq := true }
  | .pfcRx _ _ _ => { blks := [.canal, .eth, .flume], fq := true, out := true, canal := true, lk := true }
  | .pfcXoffRepeat _ => { touchLevel with blks := Blk.every, fresh := true, dram := true, tags := true, held := true, air := true, arb := true, lk := true, tm := true, ls := true, mot := true, rt := true, clk := true, key := true, boot := true }
  | .ethLinkChange _ _ _ => { blks := [.canal, .eth, .flume, .pcie], vecSent := true, fq := true, out := true, canal := true }
  | .canalTrained _ _ _ => { touchLog with blks := [.pair] ++ touchLog.blks }
  | .canalTrainTimeout _ => { blks := [.canal], out := true, canal := true }
  | .canalLinkFail _ _ => { blks := [.canal, .pcie], vecSent := true, out := true, canal := true }
  | .canalReplayTimeout _ => { blks := [.canal], out := true, canal := true }
  | .canalMessageRx _ _ _ => touchAll
  | .enumRx _ _ _ => touchLog
  | .enumTimeout => { blks := [.canal], out := true, canal := true }
  | .ringNoticeRx _ _ _ => { blks := [.canal, .pcie], vecSent := true, out := true, canal := true }
  | .island => { touchLog with blks := [.headgate] ++ touchLog.blks, hg := true }
  | .delayReq _ => { blks := [.canal], out := true, canal := true }
  | .delayRespRx _ _ _ _ => { blks := [.canal], canal := true }
  | .timeMessageSend => { blks := [.canal], out := true, canal := true }
  | .timeMessageRx _ _ _ _ _ _ _ _ _ _ _ => { blks := [.canal], out := true, canal := true, tm := true }
  | .regMessageRx _ _ => touchAll
  | .peerAlivePulse => { blks := [.pair], out := true, pair := true }
  | .peerPulseRx _ => { touchLog with blks := [.pair] ++ touchLog.blks, pair := true }
  | .peerPulseMissed => { touchLog with blks := [.pair] ++ touchLog.blks, pair := true }
  | .pairKick => { pair := true }
  | .pairResetRole => { touchLevel with blks := Blk.every, fresh := true, tags := true, vecMask := true, held := true, air := true, arb := true, lk := true, gn := true, ls := true, mot := true, met := true }
  | .claimCheck => { touchLevel with blks := Blk.every, fresh := true, tags := true, vecMask := true, held := true, air := true, arb := true, lk := true, gn := true, ls := true, mot := true, met := true }
  | .claimLineChange _ => { touchLevel with blks := Blk.every, fresh := true, tags := true, vecMask := true, held := true, air := true, arb := true, lk := true, gn := true, ls := true, mot := true, met := true }
  | .pairWarm _ => { touchLevel with blks := Blk.every, fresh := true, tags := true, vecMask := true, held := true, air := true, arb := true, lk := true, gn := true, ls := true, mot := true, met := true }
  | .pairTake => { touchLevel with blks := Blk.every, fresh := true, air := true, arb := true, ls := true, mot := true, met := true }
  | .takeoverStart => { touchLevel with blks := Blk.every, fresh := true, air := true, arb := true }
  | .takeoverLoaded => { touchLog with blks := Blk.every, tags := true, hg := true, held := true, air := true, arb := true, lk := true, pair := true, disp := true, ls := true, mot := true }
  | .pairDataRx _ => { blks := [.pair], pair := true }
  | .pairCutRx _ => { touchLog with blks := Blk.every, tags := true, held := true, air := true, arb := true, lk := true, pair := true, disp := true, ls := true, mot := true }
  | .pairAckRx _ => { blks := [.canal, .core, .dispatch, .eth, .flume, .lease, .pair, .pcie], vecSent := true, fq := true, out := true, canal := true, pair := true, disp := true, ls := true }
  | .partnerAckTimeout => { touchLog with blks := [.core, .dispatch, .lease, .pair] ++ touchLog.blks, pair := true, disp := true, ls := true }
  | .stopStateRx _ _ _ => { touchLog with blks := [.headgate] ++ touchLog.blks, hg := true, dbg := true }
  | .pairStatusSend => { blks := [.canal, .pair], out := true, canal := true, pair := true }
  | .pairStatusRx _ => { blks := [.frameSec, .headgate, .keystore, .pair, .pcie, .sluice], vecSent := true, out := true, hg := true, air := true, pair := true }
  | .handoverRx => { pair := true }
  | .resyncRx => { blks := [.pair], pair := true }
  | .pairSwitch => { blks := [.canal, .pair], out := true, canal := true }
  | .switchReqRx => { blks := [.canal, .pair], out := true, canal := true, pair := true }
  | .switchRx _ => { blks := [.pair], pair := true }
  | .revertHoldoffExpiry => { touchLevel with blks := Blk.every, fresh := true, tags := true, vecMask := true, held := true, air := true, arb := true, lk := true, gn := true, ls := true, mot := true, met := true }
  | .revertRequest => { blks := [.canal], out := true, canal := true, pair := true }
  | .meterWindow _ => { blks := [.canal, .eth, .flume, .meter, .pcie], vecSent := true, fq := true, out := true, canal := true, pair := true, met := true }
  | .meterSecond => { blks := [.canal, .eth, .flume, .meter, .pcie, .taskboard], fresh := true, vecSent := true, fq := true, out := true, canal := true, pair := true, met := true }
  | .meterIntervalEnd => { blks := [.canal, .eth, .flume, .meter, .pcie], vecSent := true, fq := true, out := true, canal := true, met := true }
  | .pqRefresh _ _ => { touchLog with blks := [.meter] ++ touchLog.blks, fresh := true, met := true }
  | .meterSave _ => { touchLevel with blks := [.airport, .meter, .pair, .regionCtl] ++ touchLevel.blks, fresh := true, air := true, arb := true, met := true }
  | .meterPulse _ => { out := true, met := true }
  | .pulseCfgWrite _ _ _ => touchAll
  | .attGo => { blks := [.keystore], key := true }
  | .attestDone => { touchLog with blks := [.frameSec, .keystore] ++ touchLog.blks, fresh := true, pair := true }
  | .ksSign _ => { touchLog with blks := [.core, .fault, .frameSec, .keystore] ++ touchLog.blks, fresh := true, tags := true, held := true, pair := true, clk := true }
  | .ksVerify _ _ => { touchLog with blks := [.core, .fault, .frameSec, .keystore] ++ touchLog.blks, tags := true, held := true, pair := true, clk := true }
  | .ksDerive _ => { touchLog with blks := [.core, .fault, .frameSec, .keystore] ++ touchLog.blks, fresh := true, tags := true, held := true, pair := true, clk := true }
  | .remask => { blks := [.keystore], fresh := true, pair := true, key := true }
  | .tokOpen _ => { blks := [.keystore], key := true }
  | .tokGo _ => { blks := [.keystore], key := true }
  | .tokRelease _ => { blks := [.keystore] }
  | .tokOwnerTimeout => { blks := [.keystore] }
  | .tokenVerifyDone _ _ _ => touchAll
  | .tokNonceExpiry => { blks := [.keystore], fresh := true, key := true }
  | .fuseProgGo _ _ _ => { touchLog with blks := [.fuse] ++ touchLog.blks, key := true }
  | .fuseBurnDone _ => { touchLog with blks := [.fuse] ++ touchLog.blks, key := true }
  | .lcTransition _ _ _ => { touchLevel with blks := Blk.every, fresh := true, tags := true, vecMask := true, held := true, air := true, arb := true, lk := true, gn := true, ls := true, mot := true, met := true }
  | .lcRetire _ => { touchLevel with blks := Blk.every, fresh := true, tags := true, vecMask := true, held := true, air := true, arb := true, lk := true, gn := true, ls := true, mot := true, met := true }
  | .dbgOpenObserve => { touchLog with blks := [.debug, .headgate] ++ touchLog.blks, hg := true }
  | .dbgOpenFull => { touchLog with blks := [.debug, .headgate] ++ touchLog.blks, hg := true }
  | .dbgObserve => { touchLog with blks := [.debug, .headgate] ++ touchLog.blks, hg := true }
  | .certGo _ => { touchLog with blks := [.debug, .headgate] ++ touchLog.blks, fresh := true, hg := true, dbg := true }
  | .dbgEnd => { touchLevel with blks := [.debug, .reset] ++ touchLevel.blks, fresh := true, dbg := true }
  | .dbgDurationExpiry => { touchLevel with blks := [.debug, .reset] ++ touchLevel.blks, dbg := true }
  | .extest _ => { blks := [.debug], dbg := true }
  | .pwrTargetWrite _ => { touchLevel with blks := Blk.every, fresh := true, tags := true, vecMask := true, held := true, air := true, arb := true, lk := true, gn := true, ls := true, mot := true, met := true }
  | .mainSupplyLoss _ => touchAll
  | .vddGateLoss => { touchLevel with blks := [.airport, .pair] ++ touchLevel.blks, sup := true }
  | .supplyMonitorTrip _ _ => touchAll
  | .thermalTrip _ => touchAll
  | .tempWarn _ => { blks := [.info, .pcie], vecSent := true, out := true }
  | .porst _ _ _ _ => touchAll
  | .romBoot _ => { touchLevel with blks := [.boot, .debug, .frameSec, .keystore, .reset] ++ touchLevel.blks, fresh := true, sup := true, key := true, boot := true }
  | .bootOk _ => { touchLevel with blks := [.boot, .reset] ++ touchLevel.blks, boot := true }
  | .keepWatchdog => touchAll
  | .imageLoad _ => { touchLevel with blks := Blk.every, fresh := true, tags := true, vecMask := true, held := true, air := true, arb := true, lk := true, gn := true, ls := true, mot := true, met := true, key := true, boot := true }
  | .updVerify _ => { blks := [.boot], boot := true }
  | .updProgram => { blks := [.boot], boot := true }
  | .updCancel => { boot := true }
  | .updDone _ _ _ => { blks := [.boot, .pcie], fresh := true, vecSent := true, out := true, boot := true }
  | .updCommit _ => { touchLog with blks := [.boot, .fuse] ++ touchLog.blks, key := true, boot := true }
  | .recoveryChunk _ _ _ => { touchLevel with blks := [.boot, .frameSec, .keystore, .reset] ++ touchLevel.blks, fresh := true, dram := true, clk := true, key := true, boot := true }
  | .rcvGo _ => { touchLevel with blks := [.boot, .frameSec, .keystore, .reset] ++ touchLevel.blks, fresh := true, dram := true, clk := true, key := true, boot := true }
  | .recoverySilence => { boot := true }
  | .weirTokenDue _ => { ev := true }
  | .weirBucketReturn _ => { ev := true }
  | .eventSummary => touchLog
  | .seqSave => { ev := true }
  | .foundingBatch _ => { blks := [.evlog], ev := true }
  | .mainSupplyReturn _ _ _ => touchAll
  | .railBackInRange _ => touchAll
  | .auxclkReturn _ => { blks := [.canal, .clock], out := true, canal := true }
  | .stepWindowBegins _ => { blks := [.canal, .core, .dispatch, .eth, .flume, .lease, .pcie, .registry], vecSent := true, fq := true, out := true, canal := true, pair := true, disp := true }
  | .directLockEnd _ => { blks := [.lease, .turnout], pair := true }
  | .pcieLinkUp _ _ _ => { blks := [.pcie], vecSent := true, out := true }
  | .msixVectorUnmask _ => { blks := [.pcie], vecSent := true, vecMask := true, out := true }
  | .canalFlitRx _ _ _ _ _ _ _ => { blks := [.canal], out := true, canal := true }
  | .pfcPauseExpiry _ _ => { blks := [.canal, .eth, .flume], fq := true, out := true, canal := true, lk := true }
  | .ethOtherFrameRx _ _ _ => { blks := [.canal, .eth, .flume, .pcie], vecSent := true, fq := true, out := true, canal := true, lk := true, tm := true }
  | .meterOutageSample _ => { blks := [.meter], pair := true, met := true }
  | .tjBelow105 _ => { touchLevel with blks := [.info, .reset] ++ touchLevel.blks, sup := true, boot := true }
  | .debugHalt _ _ => { touchLevel with blks := [.reset] ++ touchLevel.blks, dbg := true }
  | .recoveryLinkTry _ => { blks := [.eth], boot := true }

end Sys2Proof.Machine
end

