-- ==== Sys2Proof/Certificates/Slice0/Obligations.lean ====
section
/-! DEFINITION. The statements for the provers, family by family: what the machine does in general, then for each family of
commands what each of them does where it has its own effect. A docstring names the rules of spec/ that a statement rests on. -/
open Sys2Proof
open Sys2Proof.Machine

/-- A step takes the command at the front of the queue and carries it out on the state with the rest of the queue.
(spec/INDEX.md, spec/95_what_each_step_holds.md) -/
def Obligations.StepTakesTheFront : Prop :=
  (∀ (c : Instr) (rest : List Instr) (s : State), s.pending = c :: rest → step s = exec c { s with pending := rest }) ∧
  (∀ (c : Instr) (s : State), step (s.lead c) = exec c s) ∧
  (∀ (nbits w : Nat) (s : State), decodeTableWord nbits w = none ∧ s.withFetchWord nbits w = s)

/-- With no command waiting, a step is one cycle of FABRIC_CLK: only physical time and, under ROOT_LOCK, fleet time go
on (model's choice). (R14, R79) -/
def Obligations.IdleStepIsOneClockCycle : Prop :=
  (∀ (s : State), s.pending = [] → ∃ t, step s = .next t ∧ t.now = s.now + 2500 ∧ t.pending = [] ∧ t.regs = s.regs ∧ t.ctrs = s.ctrs ∧ t.tbl = s.tbl ∧ s.ft ≤ t.ft) ∧
  (∀ (s : State), s.pending = [] → s.get F.ROOT_STATUS_ROOT_LOCK ≠ 1 → ∃ t, step s = .next t ∧ t.now = s.now + 2500 ∧ t.ft = s.ft)

/-- Every command completes, and leaves alone every block and every part of the state outside its own frame.
(spec/95_what_each_step_holds.md, R8, R11, R42) -/
def Obligations.FrameOfEveryCommand : Prop :=
  ∀ (c : Instr) (s : State), ∃ t : State, exec c s = .next t ∧ t.rest (touches c) = s.rest (touches c)

/-- Read by read: a register, counter, table entry or page history of a block outside a command's frame reads as before.
(spec/95_what_each_step_holds.md, R8, R42, R49) -/
def Obligations.OutsideTheFrame : Prop :=
  ∀ (c : Instr) (s : State), ∃ t : State, exec c s = .next t ∧ t.pending = s.pending ∧ t.now = s.now ∧
      (∀ (p : Page) (o : Nat), p.blk ∉ (touches c).blks → t.reg (p.adr o) = s.reg (p.adr o)) ∧
      (∀ (f : Fld) (i k : Nat), f.blk ∉ (touches c).blks → t.get f i k = s.get f i k) ∧
      (∀ (p : Page) (n : Ctr), p.blk ∉ (touches c).blks → t.ctr p n = s.ctr p n) ∧
      (∀ (p : Page) (table idx : Nat), p.blk ∉ (touches c).blks → t.te p table idx = s.te p table idx) ∧
      (∀ (p : Page), p.blk ∉ (touches c).blks → t.page p = s.page p) ∧
      ((touches c).dram = false → ∀ a, AMap.get (fun _ => (0 : Byte)) t.dram a = AMap.get (fun _ => 0) s.dram a) ∧
      ((touches c).hg = false → t.hg = s.hg) ∧ ((touches c).ls = false → t.ls = s.ls) ∧ ((touches c).key = false → t.key = s.key)

/-- Every step keeps the canonical form of every memory. (R8, R11, R24, R42, R49) -/
def Obligations.StepKeepsCanonicalForm : Prop :=
  ∀ (s : State), s.wf = true → ∃ t, step s = .next t ∧ t.wf = true

/-- The memories of the state after reset are in canonical form, and its queue is empty. (R11, R488) -/
def Obligations.ResetIsCanonical : Prop :=
  State.reset.wf = true ∧ State.reset.pending = []

/-- After reset every block whose EN resets to 1 is starting, every other is OFF, and every counter reads 0. (R41, R42,
R43, R488) -/
def Obligations.ResetStartsTheBlocks : Prop :=
  (∀ p ∈ allPages, p.blk ≠ .regionCtl →
      State.reset.getP p F.CTRL_EN = (if p.blk.region = 0 ∨ p.blk ∈ [Blk.keep, .keystore, .evlog, .boot, .pcie, .headgate] then 1 else 0) ∧
      State.reset.st p = State.reset.getP p F.CTRL_EN) ∧
  (∀ (p : Page) (c : Ctr), State.reset.ctr p c = 0) ∧
  (State.reset.vecSent = [] ∧ State.reset.tags = [] ∧ State.reset.members = [])

/-- What is written to a register field, a counter, a table entry or a byte of DRAM is read back, and nothing else of
its kind changes. (R8, R11, R42, R49, R24) -/
def Obligations.ContentsReadBack : Prop :=
  (∀ (s : State) (f : Fld) (v i k : Nat), f.lsb + f.width ≤ 32 → (s.set f v i k).get f i k = v % 2 ^ f.width) ∧
  (∀ (s : State) (f : Fld) (v i k : Nat) (g : Fld) (j l : Nat), f.lsb + f.width ≤ 32 →
      (g.addr j l ≠ f.addr i k ∨ g.lsb + g.width ≤ f.lsb ∨ f.lsb + f.width ≤ g.lsb) → (s.set f v i k).get g j l = s.get g j l) ∧
  (∀ (s : State) (p : Page) (c : Ctr) (n : Nat), (s.incP p c n).ctr p c = (s.ctr p c + n) % 2 ^ 64) ∧
  (∀ (s : State) (p q : Page) (c d : Ctr) (n : Nat), q.adr d.off ≠ p.adr c.off → (s.incP p c n).ctr q d = s.ctr q d) ∧
  (∀ (s : State) (p : Page) (table idx v : Nat), (s.setTe p table idx v).te p table idx = v) ∧
  (∀ (s : State) (p q : Page) (table idx v table' idx' : Nat), q.tblKey table' idx' ≠ p.tblKey table idx → (s.setTe p table idx v).te q table' idx' = s.te q table' idx') ∧
  (∀ (m : AMap Byte) (a b : Nat) (v : Byte), AMap.get (fun _ => (0 : Byte)) (AMap.set (fun _ => 0) m a v) a = v ∧
      (b ≠ a → AMap.get (fun _ => (0 : Byte)) (AMap.set (fun _ => 0) m a v) b = AMap.get (fun _ => 0) m b))

/-- A read of NOW_NS returns the nanoseconds and latches the seconds of the same instant for the source that read it,
and for no other. (R81) -/
def Obligations.ReadOfTimeLatchesForItsSource : Prop :=
  ∀ (src : Src) (s : State), s.jtagBars src ⟨.time, 0⟩ false = false →
      ∃ t, exec (.nowNsRead src) s = .next t ∧ t.out = .readData src (s.fleetNs % 1000000000) :: s.out ∧
      AMap.get (fun _ => (0 : Word)) t.latch (latchKey src (F.NOW_S_LO.addr 0 0)) = BitVec.ofNat 32 (s.fleetSec % 2 ^ 32) ∧
      AMap.get (fun _ => (0 : Word)) t.latch (latchKey src (F.NOW_S_HI.addr 0 0)) = BitVec.ofNat 32 (s.fleetSec / 2 ^ 32 % 2 ^ 16) ∧
      (∀ k, k ≠ latchKey src (F.NOW_S_LO.addr 0 0) → k ≠ latchKey src (F.NOW_S_HI.addr 0 0) →
        AMap.get (fun _ => (0 : Word)) t.latch k = AMap.get (fun _ => 0) s.latch k) ∧
      t.regs = s.regs ∧ t.ctrs = s.ctrs

/-- Writes of registers, unmapped accesses, reads of counters and accesses through BAR2. (R38, R40, R42, R49, R381,
R505, R506) -/
def Obligations.PlainAccesses : Prop :=
  (∀ (s : State) (src : Src) (p : Page) (addr value : Nat) (x : WrExt), x.poisoned = false → s.powered = true → s.gated = false →
      s.jtagBarsAt src addr true = false → coreFault src addr true = none → Page.ofAddr addr = some p →
      s.decodes p (addr % 0x1000) = true → s.coldGated p = false → s.reg p.tblStatus % 2 = 0 →
      (0x210 ≤ addr % 0x1000 ∧ addr % 0x1000 < 0x220) ∨ (0x240 ≤ addr % 0x1000 ∧ addr % 0x1000 < 0x280) →
      ∃ t, exec (.registerWrite src addr value x) s = .next t ∧ t.reg (p.adr (addr % 0x1000)) = value % 2 ^ 32 ∧
        (∀ a, a ≠ p.adr (addr % 0x1000) → t.reg a = s.reg a) ∧ t.ctrs = s.ctrs ∧ t.tbl = s.tbl) ∧
  (∀ (s : State) (src : Src) (value : Nat) (x : WrExt), x.poisoned = false → s.powered = true → s.gated = false →
      s.jtagBarsAt src (F.SLEW_LIMIT.addr 0 0) true = false → coreFault src (F.SLEW_LIMIT.addr 0 0) true = none → s.boot.waiting = false → s.coldGated ⟨.time, 0⟩ = false → s.getP ⟨.time, 0⟩ F.LOCK_LOCKED = 0 → 100 ≤ value → value ≤ 100000 →
      ∃ t, exec (.registerWrite src (F.SLEW_LIMIT.addr 0 0) value x) s = .next t ∧ t.get F.SLEW_LIMIT = value ∧
        t.get F.JUMP_LIMIT = s.get F.JUMP_LIMIT) ∧
  (∀ (s : State) (src : Src) (value : Nat) (x : WrExt), x.poisoned = false → s.powered = true → s.gated = false →
      s.jtagBarsAt src (F.SLEW_LIMIT.addr 0 0) true = false → coreFault src (F.SLEW_LIMIT.addr 0 0) true = none → s.boot.waiting = false → s.coldGated ⟨.time, 0⟩ = false → s.getP ⟨.time, 0⟩ F.LOCK_LOCKED = 0 → value < 100 ∨ 100000 < value → value < 2 ^ 32 →
      s.get F.SLEW_LIMIT ≠ value →
      ∃ t, exec (.registerWrite src (F.SLEW_LIMIT.addr 0 0) value x) s = .next t ∧ t.regs = s.regs) ∧
  (∀ (s : State) (src : Src) (addr : Nat) (write bad : Bool), s.powered = true → s.gated = false → s.jtagBarsAt src addr write = false →
      coreFault src addr write = none → bad = true ∨ Page.ofAddr addr = none →
      ∃ t, exec (.unmappedAccess src addr write bad) s = .next t ∧
        t.ctr ⟨.fault, 0⟩ C.FAULT_UNMAPPED = (s.ctr ⟨.fault, 0⟩ C.FAULT_UNMAPPED + 1) % 2 ^ 64 ∧
        (write = false → t.out.head? = some (.readData src 0xFFFFFFFF))) ∧
  (∀ (s : State) (src : Src) (p : Page) (addr : Nat), s.powered = true → s.gated = false → s.jtagBarsAt src addr false = false →
      coreFault src addr false = none → Page.ofAddr addr = some p → s.decodes p (addr % 0x1000) = true →
      s.coldGated p = false → 0x040 ≤ addr % 0x1000 → addr % 0x1000 < 0x040 + 8 * p.blk.ncount → addr % 8 = 0 →
      ∃ t, exec (.counterRead src addr) s = .next t ∧
        t.out = .readData src (s.ctr p ⟨p.blk, addr % 0x1000⟩ % 2 ^ 32) :: s.out ∧
        AMap.get (fun _ => (0 : Word)) t.latch (latchKey src (p.adr (addr % 0x1000) + 4)) = BitVec.ofNat 32 (s.ctr p ⟨p.blk, addr % 0x1000⟩ / 2 ^ 32) ∧
        t.regs = s.regs ∧ t.ctrs = s.ctrs) ∧
  (∀ (s : State) (z addr value : Nat) (write : Bool) (x : WrExt), s.powered = true → s.isHead = true → 1 ≤ z → z < 64 → z < s.get F.RING_STATUS_POSITIONS →
      addr < 2 ^ 24 → s.canal.tunWait = [] → (∀ a ∈ s.canal.tun, a.zone ≠ z) →
      ∃ t, exec (.bar2Access z addr value write x) s = .next t ∧ t.canal.tunNext = (s.canal.tunNext + 1) % 2 ^ 16 ∧ t.canal.tunWait = [] ∧
        ⟨s.canal.tunNext, z, write, addr, value % 2 ^ 32, s.now⟩ ∈ t.canal.tun) ∧
  (∀ (s : State) (z addr value : Nat) (write : Bool) (x : WrExt), s.powered = true →
      64 ≤ z ∨ s.isHead = false ∨ (1 ≤ z ∧ s.get F.RING_STATUS_POSITIONS ≤ z) →
      ∃ t, exec (.bar2Access z addr value write x) s = .next t ∧
        t.ctr ⟨.fault, 0⟩ C.FAULT_UNMAPPED = (s.ctr ⟨.fault, 0⟩ C.FAULT_UNMAPPED + 1) % 2 ^ 64) ∧
  (∀ (s : State) (id : Nat) (a : TunAccess), (s.canal.tun.find? fun y => y.id = id) = some a → a.sentAt + us (s.get F.TUN_TIMEOUT) ≤ s.now → a.write = false →
      ∃ t, exec (.tunnelTimeout id) s = .next t ∧ (t.canal.tun.find? fun y => y.id = id) = none ∧
        t.ctr ⟨.canal, 0⟩ C.CANAL_TUN_TIMEOUTS = (s.ctr ⟨.canal, 0⟩ C.CANAL_TUN_TIMEOUTS + 1) % 2 ^ 64 ∧
        t.irqUp ⟨.canal, 0⟩ I.CANAL_TUN_TIMEOUT = true ∧
        t.ctr ⟨.fault, 0⟩ C.FAULT_UNMAPPED = (s.ctr ⟨.fault, 0⟩ C.FAULT_UNMAPPED + 1) % 2 ^ 64) ∧
  (∀ (s : State) (id : Nat) (a : TunAccess), (s.canal.tun.find? fun y => y.id = id) = some a → a.sentAt + us (s.get F.TUN_TIMEOUT) ≤ s.now → a.write = true →
      ∃ t, exec (.tunnelTimeout id) s = .next t ∧
        t.ctr ⟨.canal, 0⟩ C.CANAL_TUN_WRITE_LOST = (s.ctr ⟨.canal, 0⟩ C.CANAL_TUN_WRITE_LOST + 1) % 2 ^ 64)

/-- The state machine of every block: start-up, shut-down, restart, isolation and automatic restart. (R40, R41, R43,
R44, R45, R46, R52) -/
def Obligations.BlockStateMachine : Prop :=
  (∀ (s : State) (src : Src) (p : Page), p ∈ allPages → p.blk ≠ .headgate → s.jtagBars src p true = false → s.coldGated p = false → s.powered = true → s.getP p F.CTRL_EN = 0 →
      s.getP p F.LOCK_LOCKED = 0 → s.lifeBars p = false → s.imgRefused p = false → s.st p = stOff → s.dozeGated p = false → (p.blk = .dram → s.badPart = none) →
      ∃ t, exec (.ctrlEnWrite src p true) s = .next t ∧ t.st p = stStarting ∧ t.getP p F.CTRL_EN = 1) ∧
  (∀ (s : State) (src : Src) (p : Page), p ∈ allPages → p.blk ≠ .headgate → s.jtagBars src p true = false → s.coldGated p = false → s.powered = true → s.getP p F.CTRL_EN = 1 →
      s.getP p F.LOCK_LOCKED = 0 → s.st p = stOn → s.lastPort p = false →
      ∃ t, exec (.ctrlEnWrite src p false) s = .next t ∧ t.st p = stStopping ∧ t.getP p F.CTRL_EN = 0) ∧
  (∀ (s : State) (src : Src) (p : Page) (en : Bool), p ∈ allPages → s.getP p F.CTRL_EN = b2n en →
      exec (.ctrlEnWrite src p en) s = .next s) ∧
  (∀ (s : State) (src : Src) (p : Page), p ∈ allPages → p.blk ≠ .headgate → s.jtagBars src p true = false → s.coldGated p = false → s.powered = true → s.getP p F.CTRL_EN = 1 →
      s.getP p F.LOCK_LOCKED = 0 → s.st p = stStarting →
      ∃ t, exec (.ctrlEnWrite src p false) s = .next t ∧ t.st p = stStarting ∧ t.getP p F.STATE_PEND_OFF = 1) ∧
  (∀ (s : State) (p : Page), p ∈ allPages → s.st p = stStarting → s.getP p F.STATE_PEND_OFF = 1 →
      ∃ t, exec (.startupSafePoint p) s = .next t ∧ t.st p = stStopping ∧ t.getP p F.STATE_PEND_OFF = 0) ∧
  (∀ (s : State) (p : Page) (code : Nat) (x : StartIn), p ∈ allPages → s.powered = true → s.st p = stStarting → s.getP p F.STATE_PEND_OFF = 0 →
      p.blk ≠ .dram → (p.blk = .gnssRf → s.get F.ROOT_STATUS_ROOT_LOCK = 1) → (p.blk = .airport → 5 ≤ (s.port p.inst).step) →
      (0 < p.blk.cells → (((s.startMode p x).testCells p x.badCells).page p).removed.length < p.blk.cells) →
      ∃ t, exec (.startupComplete p true code x) s = .next t ∧ t.st p = stOn) ∧
  (∀ (s : State) (p : Page) (code : Nat) (x : StartIn), p ∈ allPages → s.powered = true → s.st p = stStarting → s.getP p F.STATE_PEND_OFF = 0 → p.blk ≠ .dram →
      (p.blk = .gnssRf → s.get F.ROOT_STATUS_ROOT_LOCK = 1) →
      ∃ t, exec (.startupComplete p false code x) s = .next t ∧ t.st p = stFault) ∧
  (∀ (s : State) (p : Page), p ∈ allPages → s.st p = stStopping → s.stopReady p = true → s.getP p F.STATE_PEND_ON = 0 →
      ∃ t, exec (.shutdownComplete p) s = .next t ∧ t.st p = stOff) ∧
  (∀ (s : State) (p : Page), p ∈ allPages → s.st p = stStopping → s.stopReady p = true → s.getP p F.STATE_PEND_ON = 1 → s.dozeGated p = false →
      p.blk ≠ .dram →
      ∃ t, exec (.shutdownComplete p) s = .next t ∧ t.st p = stStarting ∧ t.getP p F.STATE_PEND_ON = 0) ∧
  (∀ (s : State) (p : Page), p ∈ allPages → p.region ≠ 7 → s.st p = stOn →
      ∃ t, exec (.ctrlRestart p) s = .next t ∧ t.st p = stFault ∧ t.getP p F.CTRL_RESTART = 0 ∧ t.irqUp p 1 = true) ∧
  (∀ (s : State) (p : Page), p ∈ allPages → s.st p = stIsolated → (s.page p).stuck = true →
      ∃ t, exec (.isoClear p) s = .next t ∧ (t.page p).isoAllow = true ∧ (t.page p).stuck = true ∧ t.regs = s.regs) ∧
  (∀ (s : State) (p : Page) (lost : List (Nat × Nat)) (badCells : List Nat), p ∈ allPages → p.region ≠ 7 → s.st p = stFault →
      ∃ t, exec (.regionIsolate p lost badCells true) s = .next t ∧ t.st p = stIsolated) ∧
  (∀ (s : State) (p : Page) (lost : List (Nat × Nat)) (badCells : List Nat), p ∈ allPages → p.region ≠ 7 → s.st p = stFault →
      ∃ t, exec (.regionIsolate p lost badCells false) s = .next t ∧ bit (t.get F.SVC_STATUS_FAILED_REGIONS) p.region = true) ∧
  (∀ (s : State) (p : Page), p ∈ allPages → s.st p = stIsolated → (s.page p).stuck = false ∨ (s.page p).isoAllow = true → s.railHolds p = false →
      s.getP p F.CTRL_EN = 1 → s.lifeBars p = false → s.dozeGated p = false → p.blk ≠ .dram →
      ∃ t, exec (.blockAutoRestart p) s = .next t ∧ t.st p = stStarting ∧ t.getP p F.STATE_RESTARTS = satAdd (s.getP p F.STATE_RESTARTS) 1 255) ∧
  (∀ (s : State) (p : Page), p ∈ allPages → s.st p = stIsolated → (s.page p).stuck = false ∨ (s.page p).isoAllow = true → s.railHolds p = false →
      s.getP p F.CTRL_EN = 0 →
      ∃ t, exec (.blockAutoRestart p) s = .next t ∧ t.st p = stOff)

/-- Classified errors, injected errors, a rise of the service level, forced interrupts and locks. (R32, R40, R42, R48,
R52, R54) -/
def Obligations.ErrorsInterruptsAndLocks : Prop :=
  (∀ (s : State) (p : Page) (cell code a0 a1 a2 : Nat), p ∈ allPages → s.powered = true → s.cellFails p cell 1 = false → selfCheck p code = false →
      ∃ t, exec (.cellError p cell 1 code a0 a1 a2) s = .next t ∧ t.ctr p C.CORR_COUNT = (s.ctr p C.CORR_COUNT + 1) % 2 ^ 64) ∧
  (∀ (s : State) (p : Page) (cell code a0 a1 a2 : Nat), p ∈ allPages → s.powered = true → p.region ≠ 7 → s.cellFails p cell 2 = false → selfCheck p code = false →
      ∃ t, exec (.cellError p cell 2 code a0 a1 a2) s = .next t ∧ t.ctr p C.CONT_COUNT = (s.ctr p C.CONT_COUNT + 1) % 2 ^ 64) ∧
  (∀ (s : State) (src : Src) (p : Page) (cell : Nat), p ∈ allPages → s.jtagBars src p true = false → s.coldGated p = false → s.powered = true → s.cellFails p (cell % 256) 1 = false →
      ∃ t, exec (.errInject src p 1 cell) s = .next t ∧ t.ctr p C.CORR_COUNT = (s.ctr p C.CORR_COUNT + 1) % 2 ^ 64) ∧
  (∀ (s : State) (src : Src) (p : Page) (cls cell : Nat), p ∈ allPages → s.jtagBars src p true = false → s.coldGated p = false → s.powered = true → cls = 2 ∨ cls = 3 → s.st p = stOn →
      s.get F.DBG_STATUS_LEVEL ≠ 2 →
      ∃ t, exec (.errInject src p cls cell) s = .next t ∧ t.ctr ⟨.fault, 0⟩ C.FAULT_REFUSED_RWL = (s.ctr ⟨.fault, 0⟩ C.FAULT_REFUSED_RWL + 1) % 2 ^ 64 ∧
        t.st p = stOn) ∧
  (∀ (s : State), s.noPortOn = true ∨ s.air.nextB ≤ s.fleetNs → s.get F.SVC_STATUS_LEVEL ≤ s.flt.low → s.get F.SVC_STATUS_LEVEL < s.risen →
      ∃ t, exec .levelRise s = .next t ∧ t.get F.SVC_STATUS_LEVEL = s.risen ∧ t.irqUp ⟨.fault, 0⟩ I.FAULT_LEVEL_CHG = true) ∧
  (∀ (s : State) (src : Src) (p : Page) (mask : Nat), p ∈ allPages → s.powered = true → s.gated = false → s.jtagBarsAt src (p.base + 0x024) true = false →
      coreFault src (p.base + 0x024) true = none → s.boot.waiting = false → s.coldGated p = false → mask < 2 ^ 32 →
      ∃ t, exec (.irqForce src p mask) s = .next t ∧
        (∀ n ∈ List.range 32, (bit mask n = true ∧ (n < 3 ∨ 8 ≤ n)) ∨ s.irqUp p n = true → t.irqUp p n = true)) ∧
  (∀ (s : State) (src : Src) (p : Page), p ∈ allPages → s.powered = true → s.gated = false → s.jtagBarsAt src (p.base + 0x030) true = false →
      coreFault src (p.base + 0x030) true = none → s.boot.waiting = false → s.coldGated p = false → p.blk.lockable = true →
      ∃ t, exec (.lockWrite src p) s = .next t ∧ t.getP p F.LOCK_LOCKED = 1)

/-- The common table opcodes: READ, WRITE, INSERT, DELETE, LOOKUP, NEXT and CMPWRITE. (R49, R50, R51, R173, R217, R232,
R321) -/
def Obligations.TableOperations : Prop :=
  (∀ (s : State) (src : Src) (i : Nat), s.gated = false → s.jtagBars src ⟨.lease, 0⟩ true = false → coreFault src (Page.tblCmd ⟨.lease, 0⟩) true = none → s.isOn .lease = true → s.reg (Page.tblStatus ⟨.lease, 0⟩) % 2 = 0 → s.get F.LEASE_STATUS_REBASING = 0 → i < 262144 →
      ∃ t, exec (.tblRead (.page src) ⟨.lease, 0⟩ 0 i) s = .next t ∧ t.tblData ⟨.lease, 0⟩ = s.te ⟨.lease, 0⟩ 0 i % 2 ^ 512 ∧ t.tbl = s.tbl ∧
        t.reg (Page.tblStatus ⟨.lease, 0⟩) % 2 = 0 ∧ t.reg (Page.tblStatus ⟨.lease, 0⟩) / 256 = 0 ∧ t.irqUp ⟨.lease, 0⟩ 2 = true) ∧
  (∀ (s : State) (tg q i data : Nat) (key : List Nat), s.gated = false → s.isOn .lease = true → 0x80 ≤ tg → tg ≤ 0xBF → s.tagBusy tg = false → s.get F.LEASE_STATUS_REBASING = 0 → i < 262144 →
      ∃ t, exec (.tblRead (.tag .sup tg q key data) ⟨.lease, 0⟩ 0 i) s = .next t ∧
        t.out = .compl .sup ⟨tg, 0, Page.wire ⟨.lease, 0⟩, i, some (s.te ⟨.lease, 0⟩ 0 i)⟩ :: s.out ∧ t.tbl = s.tbl ∧ t.regs = s.regs) ∧
  (∀ (s : State) (tg q i data : Nat) (key : List Nat), s.gated = false → s.isOn .dispatch = true → 0x80 ≤ tg → tg ≤ 0xBF → s.tagBusy tg = false → s.get F.LEASE_STATUS_REBASING = 0 → i < 256 →
      bits data 58 5 = 0 → bits data 48 10 < 576 → bits data 64 32 < 1000000000 →
      ∃ t, exec (.tblWrite (.tag .sup tg q key data) ⟨.dispatch, 0⟩ 1 i) s = .next t ∧ t.te ⟨.dispatch, 0⟩ 1 i = data % 2 ^ 128 ∧
        t.out = .compl .sup ⟨tg, 0, Page.wire ⟨.dispatch, 0⟩, i, none⟩ :: s.out) ∧
  (∀ (s : State) (tg q port i data : Nat) (key : List Nat), s.gated = false → port < 4 → s.isOn .sluice port = true → 0x80 ≤ tg → tg ≤ 0xBF → s.tagBusy tg = false → i < 2048 →
      s.activeBank port < 2 →
      ∃ t, exec (.tblWrite (.tag .sup tg q key data) ⟨.sluice, port⟩ (s.activeBank port) i) s = .next t ∧ t.tbl = s.tbl ∧
        t.out = .compl .sup ⟨tg, 0x10, Page.wire ⟨.sluice, port⟩, i, none⟩ :: s.out) ∧
  (∀ (s : State) (tg q i j k plen data : Nat), s.gated = false → s.isOn .route = true → 0x80 ≤ tg → tg ≤ 0xBF → s.tagBusy tg = false → s.rt.repack = none → 1 ≤ plen → plen ≤ 32 → k < 2 ^ 32 →
      s.routeFind k plen = none → s.routeFreeIn (s.banksOf plen) = some j →
      ∃ t, exec (.tblInsert (.tag .sup tg q [k, plen, 0, 0] data) ⟨.route, 0⟩ 0 i) s = .next t ∧ RT.key.get (t.route j) = prefixOf k plen ∧
        RT.plen.get (t.route j) = plen ∧ RT.target.get (t.route j) = RT.target.get data ∧ t.out = .compl .sup ⟨tg, 0, Page.wire ⟨.route, 0⟩, j, none⟩ :: s.out) ∧
  (∀ (s : State) (tg q i j k plen data : Nat), s.gated = false → s.isOn .route = true → 0x80 ≤ tg → tg ≤ 0xBF → s.tagBusy tg = false → s.rt.repack = none → 1 ≤ plen → plen ≤ 32 →
      s.routeFind k plen = some j →
      ∃ t, exec (.tblDelete (.tag .sup tg q [k, plen, 0, 0] data) ⟨.route, 0⟩ 0 i) s = .next t ∧ t.route j = 0 ∧
        t.out = .compl .sup ⟨tg, 0, Page.wire ⟨.route, 0⟩, i, none⟩ :: s.out) ∧
  (∀ (s : State) (tg q i j k data : Nat), s.gated = false → s.isOn .route = true → 0x80 ≤ tg → tg ≤ 0xBF → s.tagBusy tg = false → s.rt.repack = none →
      s.routeMatch k = some j →
      ∃ t, exec (.tblLookup (.tag .sup tg q [k, 0, 0, 0] data) ⟨.route, 0⟩ 0 i) s = .next t ∧ t.tbl = s.tbl ∧ t.ctrs = s.ctrs ∧
        t.out = .compl .sup ⟨tg, 0, Page.wire ⟨.route, 0⟩, j, some (s.route j)⟩ :: s.out) ∧
  (∀ (s : State) (tg q i j data : Nat) (key : List Nat), s.gated = false → s.isOn .lease = true → 0x80 ≤ tg → tg ≤ 0xBF → s.tagBusy tg = false → s.get F.LEASE_STATUS_REBASING = 0 →
      ((s.teListed ⟨.lease, 0⟩ 0).find? fun k => decide (i < k) && decide (LE.kind.get (s.le k) ≠ 0)) = some j →
      ∃ t, exec (.tblNext (.tag .sup tg q key data) ⟨.lease, 0⟩ 0 i) s = .next t ∧
        t.out = .compl .sup ⟨tg, 0, Page.wire ⟨.lease, 0⟩, j, some (s.le j)⟩ :: s.out ∧ t.tbl = s.tbl) ∧
  (∀ (s : State) (tg q i data : Nat) (key : List Nat), s.gated = false → s.isOn .lease = true → 0x80 ≤ tg → tg ≤ 0xBF → s.tagBusy tg = false → s.get F.LEASE_STATUS_REBASING = 0 → i < 262144 →
      s.seqLocks 3 i 577 = false → s.le i % 2 ^ 64 ≠ nth 0 key 0 + nth 0 key 1 * 2 ^ 32 →
      ∃ t, exec (.tblCmpwrite (.tag .sup tg q key data) ⟨.lease, 0⟩ 0 i) s = .next t ∧ t.tbl = s.tbl ∧
        t.out = .compl .sup ⟨tg, 8, Page.wire ⟨.lease, 0⟩, i, some (s.le i)⟩ :: s.out) ∧
  (∀ (s : State) (tg q i data : Nat) (key : List Nat), s.gated = false → s.isOn .lease = true → 0x80 ≤ tg → tg ≤ 0xBF → s.tagBusy tg = false → s.get F.LEASE_STATUS_REBASING = 0 → i < 262144 →
      s.seqLocks 3 i 577 = false → s.le i % 2 ^ 64 = nth 0 key 0 + nth 0 key 1 * 2 ^ 32 → LE.kind.get (s.le i) = 1 →
      LE.user.set (data % 2 ^ 256) (LE.user.get (s.le i)) = s.le i →
      ∃ t, exec (.tblCmpwrite (.tag .sup tg q key data) ⟨.lease, 0⟩ 0 i) s = .next t ∧ t.le i = data % 2 ^ 256)

/-- The root clock: loss of its inputs, the clock gap, relock, and the return to REFCLK. (R16, R17, R18, R19, R20, R89) -/
def Obligations.RootClock : Prop :=
  (∀ (s : State) (re ax : Nat), refGood re = false → s.clk.lost = false → s.clk.gapAt = none → s.get F.ROOT_STATUS_ON_AUX = 0 → auxGood ax = true →
      ∃ t, exec (.refclkLost re ax) s = .next t ∧ t.get F.ROOT_STATUS_REF_OK = 0 ∧ t.clk.gapAt = some s.now ∧ t.clk.toAux = true ∧ t.get F.ROOT_STATUS_ROOT_LOCK = 0 ∧
        t.get F.ROOT_STATUS_DRAM_LOCK = 0 ∧ t.get F.ROOT_STATUS_SWITCH_COUNT = min 255 (s.get F.ROOT_STATUS_SWITCH_COUNT + 1) ∧ t.ft = s.ft ∧ t.clk.refBadAt = s.now) ∧
  (∀ (s : State) (re ax : Nat), refGood re = false → s.clk.lost = false → s.onAux = false → auxGood ax = false →
      ∃ t, exec (.refclkLost re ax) s = .next t ∧ t.clk.lost = true ∧ t.get F.ROOT_STATUS_REF_OK = 0 ∧ t.get F.ROOT_STATUS_ROOT_LOCK = 0 ∧ t.hg.outA = false ∧ t.hg.outB = false ∧ t.ft = s.ft) ∧
  (∀ (s : State) (rc a : Nat), s.clk.lost = false → s.powered = true → s.clk.gapAt = some a → s.clk.gapOps = [] →
      ∃ t, exec (.pllRelock rc) s = .next t ∧ t.clk.gapAt = none ∧ t.get F.ROOT_STATUS_ROOT_LOCK = 1 ∧ t.get F.ROOT_STATUS_DRAM_LOCK = 1 ∧
        t.get F.ROOT_STATUS_ON_AUX = b2n s.clk.toAux ∧ t.ft = s.ft + rc * 125 * 2 ^ 31 ∧ t.get F.TIME_STATUS_GAP_ALLOW = 1 ∧ t.tm.gapAt = s.now) ∧
  (∀ (s : State) (rc : Nat), s.clk.lost = false → s.powered = true → s.clk.gapAt = none → s.get F.ROOT_STATUS_ROOT_LOCK = 0 →
      ∃ t, exec (.pllRelock rc) s = .next t ∧ t.get F.ROOT_STATUS_ROOT_LOCK = 1 ∧ t.get F.ROOT_STATUS_DRAM_LOCK = 1 ∧ t.ft = s.rtc - s.sup.rtcAhead) ∧
  (∀ (s : State), s.clk.refBadAt + sec 10 ≤ s.now → s.clk.lost = false → ∃ t, exec .refGood10s s = .next t ∧ t.get F.ROOT_STATUS_REF_OK = 1) ∧
  (∀ (s : State), s.get F.ROOT_STATUS_REF_OK = 1 → s.get F.ROOT_STATUS_ON_AUX = 1 → s.get F.ROOT_SEL_RETURN_REQ = 0 → s.noPortOn = false →
      ∃ t, exec .returnReq s = .next t ∧ t.get F.ROOT_SEL_RETURN_REQ = 1 ∧ t.clk.armAt = s.fleetNs ∧ t.clk.gapAt = s.clk.gapAt) ∧
  (∀ (s : State), s.get F.ROOT_STATUS_REF_OK = 1 → s.get F.ROOT_STATUS_ON_AUX = 1 → s.get F.ROOT_SEL_RETURN_REQ = 0 → s.noPortOn = true → s.clk.gapAt = none →
      ∃ t, exec .returnReq s = .next t ∧ t.get F.ROOT_SEL_RETURN_REQ = 0 ∧ t.clk.gapAt = some s.now ∧ t.clk.toAux = false) ∧
  (∀ (s : State), s.get F.ROOT_SEL_RETURN_REQ = 1 → s.clk.gapAt = none → s.noPortOn = true ∨ (s.returnSlot = true ∧ s.commonIdle = true) →
      ∃ t, exec .rootReturn s = .next t ∧ t.clk.gapAt = some s.now ∧ t.clk.toAux = false ∧ t.get F.ROOT_SEL_RETURN_REQ = 0 ∧ t.get F.ROOT_STATUS_ROOT_LOCK = 0 ∧
        t.get F.ROOT_SEL_RETURN_FAIL = s.get F.ROOT_SEL_RETURN_FAIL) ∧
  (∀ (s : State), s.get F.ROOT_SEL_RETURN_REQ = 1 → s.clk.armAt + s.period ≤ s.fleetNs →
      ∃ t, exec .returnFail s = .next t ∧ t.get F.ROOT_SEL_RETURN_REQ = 0 ∧ t.get F.ROOT_SEL_RETURN_FAIL = 1 ∧ t.clk = s.clk) ∧
  (∀ (s : State) (re ax : Nat), auxGood ax = false → s.clk.lost = false → s.onAux = false →
      ∃ t, exec (.auxclkLost re ax) s = .next t ∧ t.get F.ROOT_STATUS_AUX_OK = 0 ∧ t.clk = s.clk ∧ (∀ p ∈ List.range 2, t.get F.CPORT_STATUS_STATE p = 0 ∧ t.get F.ETH_STATUS_LINK p = 0)) ∧
  (∀ (s : State) (re ax : Nat), auxGood ax = false → s.clk.lost = false → s.onAux = true → refGood re = true →
      ∃ t, exec (.auxclkLost re ax) s = .next t ∧ t.get F.ROOT_STATUS_AUX_OK = 0 ∧ t.clk.toAux = false ∧ t.clk.gapAt.isSome = true ∧ t.get F.ROOT_STATUS_REF_OK = 0 ∧
        t.get F.ROOT_STATUS_ROOT_LOCK = 0 ∧ t.get F.ROOT_SEL_RETURN_REQ = 0) ∧
  (∀ (s : State) (re ax rc a : Nat), s.clk.lost = true → s.clk.gapAt = some a → s.clk.gapOps = [] → refGood re = true ∨ auxGood ax = true →
      ∃ t, exec (.rootInputRecovered re ax rc) s = .next t ∧ t.clk.lost = false ∧ t.clk.gapAt = none ∧ t.get F.ROOT_STATUS_ROOT_LOCK = 1 ∧
        t.get F.ROOT_STATUS_ON_AUX = b2n (!refGood re) ∧ t.ft = s.ft + rc * 125 * 2 ^ 31 ∧ t.get F.ROOT_STATUS_AUX_OK = b2n (auxGood ax))

/-- DRAM training and scrub, the supervisor core, the chip reset by token, and the assembly of a bundle. (R24, R25, R35,
R27, R45, R191) -/
def Obligations.DramSupervisorAndReset : Prop :=
  (∀ (s : State) (corrected : Nat) (bad : List Nat), s.isOn .dram = true → s.get F.DRAM_CFG_SCRUB_EN = 1 → s.clk.scrubAt + sec 86400 ≤ s.now →
      ∃ t, exec (.dramScrubPass corrected bad) s = .next t ∧ t.clk.scrubAt = s.now ∧
        t.ctr pDRAM C.DRAM_SCRUB_PASSES = (s.ctr pDRAM C.DRAM_SCRUB_PASSES + 1) % 2 ^ 64 ∧
        t.ctr pDRAM C.CORR_COUNT = (s.ctr pDRAM C.CORR_COUNT + corrected) % 2 ^ 64 ∧
        t.ctr pDRAM C.DRAM_UNCORR_READS = (s.ctr pDRAM C.DRAM_UNCORR_READS + bad.length) % 2 ^ 64) ∧
  (∀ (s : State), s.st pDRAM = stStarting → s.getP pDRAM F.STATE_PEND_OFF = 0 →
      ∃ t, exec (.dramTrainingDone true) s = .next t ∧ t.st pDRAM = stOn ∧ t.get F.DRAM_STATUS_TRAINED = 1 ∧ t.get F.DRAM_STATUS_CLEARED = 1) ∧
  (∀ (s : State), s.st pDRAM = stStarting → s.getP pDRAM F.STATE_PEND_OFF = 0 →
      ∃ t, exec (.dramTrainingDone false) s = .next t ∧ t.st pDRAM = stFault) ∧
  (∀ (s : State), s.clk.supDead = false → s.get F.SUP_CTRL_HOLD = 0 → ∃ t, exec .supRestart s = .next t ∧ t.clk.supLoading = true ∧ t.get F.SUP_STATUS_RUNNING = 0) ∧
  (∀ (s : State), ∃ t, exec (.supHold true) s = .next t ∧ t.get F.SUP_CTRL_HOLD = 1 ∧ t.get F.SUP_STATUS_HELD = 1 ∧ t.get F.SUP_STATUS_RUNNING = 0 ∧ t.clk.supLoading = false) ∧
  (∀ (s : State), s.get F.SUP_CTRL_HOLD = 1 → s.clk.supDead = false →
      ∃ t, exec (.supHold false) s = .next t ∧ t.get F.SUP_CTRL_HOLD = 0 ∧ t.get F.SUP_STATUS_HELD = 0 ∧ t.clk.supLoading = true) ∧
  (∀ (s : State) (flashOk : Bool), s.clk.supLoading = true → s.isOn .dram = true →
      ∃ t, exec (.supRelease true flashOk) s = .next t ∧ t.get F.SUP_STATUS_RUNNING = 1 ∧ t.clk.supLoading = false ∧
        t.get F.SUP_STATUS_RESTARTS = min 255 (s.get F.SUP_STATUS_RESTARTS + 1) ∧ t.gen 577 = (s.bump 577 5).gen 577) ∧
  (∀ (s : State) (copyOk : Bool), s.clk.supLoading = true → s.isOn .dram = false →
      ∃ t, exec (.supRelease copyOk true) s = .next t ∧ t.get F.SUP_STATUS_RUNNING = 1 ∧ t.clk.supLoading = false) ∧
  (∀ (s : State), s.sup.vddGate = true →
      ∃ t, exec .chipResetGo s = .next t ∧ t.get F.RESET_CAUSE_CAUSE = 5 ∧ bit (t.get F.CAUSES_HELD) 7 = true ∧ 2 ≤ t.get F.HG_STATE_CLASS ∧ t.hg.key = s.hg.key ∧
        t.get F.LC_STATUS_STATE = s.get F.LC_STATUS_STATE ∧ t.sup = s.rtcKept ∧ t.ft = s.rtcSec * 1000000000 * 2 ^ 32) ∧
  (∀ (s : State) (p g : Nat) (late : List Nat) (y : Asm), p < 4 → g < 8 → s.isOn .motion = true → s.offDuty = false → s.svc p = 2 → s.asmDue p g = some y →
      ∃ t, exec (.bundleAssembly p g late) s = .next t ∧ (AMap.get (fun _ => ({} : BundleSt)) t.air.bundles (p * 8 + g)).at_ = y.start ∧
        (AMap.get (fun _ => ({} : BundleSt)) t.air.bundles (p * 8 + g)).sfn = y.sfn ∧
        (AMap.get (fun _ => ({} : BundleSt)) t.air.bundles (p * 8 + g)).entries.map (·.1) = (s.groupMembers p y.bank g).filter fun m => !late.contains m)

/-- The LNA supply current is classified, SHORT takes the supply off, and INTERF is set and cleared. (R58, R59) -/
def Obligations.AntennaAndInterference : Prop :=
  (∀ (s : State) (ant current : Nat), ant < 2 → s.powered = true → s.get F.RF_CFG_PWR_EN ant = 1 → 80000 < current →
      ∃ t, exec (.antCurrentClassify ant current) s = .next t ∧ t.get F.RF_STATUS_ANT_STATE ant = 2 ∧ t.get F.RF_CFG_PWR_EN ant = 0 ∧
        t.irqUp ⟨.gnssRf, ant⟩ I.GNSS_RF_SHORT = true) ∧
  (∀ (s : State) (ant current : Nat), ant < 2 → s.powered = true → s.get F.RF_CFG_PWR_EN ant = 1 → current ≤ 80000 →
      ∃ t, exec (.antCurrentClassify ant current) s = .next t ∧ t.get F.RF_STATUS_ANT_STATE ant = (if current < 5000 then 1 else 0) ∧
        t.get F.RF_CFG_PWR_EN ant = 1) ∧
  (∀ (s : State) (ant current : Nat), ant < 2 → s.powered = true → s.get F.RF_CFG_PWR_EN ant = 0 →
      ∃ t, exec (.antCurrentClassify ant current) s = .next t ∧ t.get F.RF_STATUS_ANT_STATE ant = (if s.get F.RF_STATUS_ANT_STATE ant = 2 then 2 else 3) ∧
        t.get F.RF_CFG_PWR_EN ant = 0) ∧
  (∀ (s : State) (ant upper lower refUpper refLower : Nat), ant < 2 → s.isOn .gnssRf ant = true → s.get F.RF_CFG_INTERF_DB ant ≠ 0 →
      s.get F.RF_STATUS_INTERF ant = 0 → s.gn.refGain.length = 4 →
      (s.get F.RF_CFG_UPPER_EN ant = 1 ∧ upper + s.get F.RF_CFG_INTERF_DB ant < refUpper) ∨
        (s.get F.RF_CFG_LOWER_EN ant = 1 ∧ lower + s.get F.RF_CFG_INTERF_DB ant < refLower) →
      ∃ t, exec (.interfSet ant upper lower refUpper refLower) s = .next t ∧ t.get F.RF_STATUS_INTERF ant = 1 ∧
        t.get F.RF_STATUS_GAIN_UPPER ant = (if s.get F.RF_CFG_UPPER_EN ant = 1 then upper % 2 ^ 8 else 0) ∧
        t.get F.RF_STATUS_GAIN_LOWER ant = (if s.get F.RF_CFG_LOWER_EN ant = 1 then lower % 2 ^ 8 else 0) ∧
        t.irqUp ⟨.gnssRf, ant⟩ I.GNSS_RF_INTERF = true) ∧
  (∀ (s : State) (ant upper lower refUpper refLower : Nat), ant < 2 → s.isOn .gnssRf ant = true → s.gn.refGain.length = 4 →
      (s.get F.RF_STATUS_INTERF ant = 0 ∧ refUpper ≤ upper + s.get F.RF_CFG_INTERF_DB ant ∧ refLower ≤ lower + s.get F.RF_CFG_INTERF_DB ant) ∨
        (s.get F.RF_STATUS_INTERF ant = 1 ∧ nth 0 s.gn.refGain (2 * ant) ≤ upper + s.get F.RF_CFG_INTERF_DB ant ∧
          nth 0 s.gn.refGain (2 * ant + 1) ≤ lower + s.get F.RF_CFG_INTERF_DB ant) →
      ∃ t, exec (.interfClear ant upper lower refUpper refLower) s = .next t ∧ t.get F.RF_STATUS_INTERF ant = 0)

/-- The states of a tracking channel: lock, slip, loss, relock, time-outs and polarity. (R62, R63) -/
def Obligations.TrackingChannels : Prop :=
  (∀ (s : State) (c : Nat), (s.chan c).st = 1 → s.now ≤ (s.chan c).at_ + sec 2 →
      ∃ t, exec (.channelLock c) s = .next t ∧ t.get F.CH_STATUS_STATE (c / 16) (c % 16) = 2 ∧ (t.chan c).st = 2 ∧ (t.chan c).lockAt = s.now ∧
        (t.chan c).half = dataOnly (s.chan c).sig) ∧
  (∀ (s : State) (c : Nat), (s.chan c).st = 1 → (s.chan c).at_ + sec 2 ≤ s.now →
      ∃ t, exec (.pullInTimeout c) s = .next t ∧ t.get F.CH_STATUS_CN0 (c / 16) (c % 16) = 0 ∧ (t.chan c).st = 0 ∧ (t.chan c).ant = (s.chan c).ant) ∧
  (∀ (s : State) (c : Nat), (s.chan c).st = 2 →
      ∃ t, exec (.cycleSlip c) s = .next t ∧ (t.chan c).lockAt = s.now ∧ (t.chan c).slip = true ∧ (t.chan c).st = 2 ∧
        t.ctr ⟨.gnssTrk, c / 16⟩ C.GNSS_TRK_SLIP_COUNT = (s.ctr ⟨.gnssTrk, c / 16⟩ C.GNSS_TRK_SLIP_COUNT + 1) % 2 ^ 64) ∧
  (∀ (s : State) (c : Nat), (s.chan c).st = 2 →
      ∃ t, exec (.trackLoss c) s = .next t ∧ (t.chan c).st = 3 ∧ (t.chan c).at_ = s.now ∧ t.get F.CH_STATUS_STATE (c / 16) (c % 16) = 3 ∧
        t.ctr ⟨.gnssTrk, c / 16⟩ C.GNSS_TRK_LOSS_COUNT = (s.ctr ⟨.gnssTrk, c / 16⟩ C.GNSS_TRK_LOSS_COUNT + 1) % 2 ^ 64) ∧
  (∀ (s : State) (c : Nat), (s.chan c).st = 3 → s.now ≤ (s.chan c).at_ + sec 10 →
      ∃ t, exec (.channelRelock c) s = .next t ∧ (t.chan c).st = 2 ∧ (t.chan c).slip = true ∧ (t.chan c).lockAt = s.now ∧
        t.get F.CH_STATUS_STATE (c / 16) (c % 16) = 2) ∧
  (∀ (s : State) (c : Nat) (below : Bool), (s.chan c).st = 3 → (s.chan c).at_ + sec 10 ≤ s.now ∨ below = true →
      ∃ t, exec (.lostTimeout c below) s = .next t ∧ (t.chan c).st = 0 ∧ (t.chan c).ant = (s.chan c).ant ∧
        t.get F.CH_STATUS_CN0 (c / 16) (c % 16) = 0) ∧
  (∀ (s : State) (c : Nat), (s.chan c).st = 2 → (s.chan c).half = true →
      ∃ t, exec (.polarityResolved c) s = .next t ∧ (t.chan c).half = false ∧ (t.chan c).lockAt = s.now ∧ (t.chan c).st = 2)

/-- The acquisition pass, the measurement strobe, the completed epoch, the self-survey and the clearing of SPOOF. (R61,
R66, R70, R74, R77) -/
def Obligations.MeasurementAndSurvey : Prop :=
  (∀ (s : State) (sky : List SkySig), s.isOn .gnssAcq = true → s.gn.passAt + sec 1 ≤ s.now →
      ∃ t, exec (.acqPass sky) s = .next t ∧ t.gn.passAt = s.now ∧
        t.get F.ACQ_STATUS_PENDING = min 255 (sky.filter fun x => bit (s.get F.SIG_EN_SIG) x.sig && decide (s.get F.ALLOC_ELEV_MASK < x.elev) && svidOk x.sig x.svid && !x.found).length ∧
        (∀ c ∈ List.range 256, (s.chan c).st ≠ 1 → (t.chan c).st = 1 → (t.chan c).at_ = s.now ∧
          (sky.any fun x => x.found && bit (s.get F.SIG_EN_SIG) x.sig && decide (s.get F.ALLOC_ELEV_MASK < x.elev ∧ x.sig = (t.chan c).sig ∧ x.svid = (t.chan c).svid)) = true)) ∧
  (∀ (s : State) (meas : List MeasIn) (t0 : Nat), s.isOn .gnssMeas = true → s.get F.ROOT_STATUS_ROOT_LOCK ≠ 0 →
      t0 = s.fleetNs / ratePeriod s.gn.rate * ratePeriod s.gn.rate → s.gn.lastStrobe < t0 →
      ∃ t, exec (.measStrobe meas) s = .next t ∧ t.gn.lastStrobe = t0 ∧
        t.gn.latched.map (fun e => (e.timeS, e.timeNs, e.seq, e.recs)) = some (t0 / 1000000000, t0 % 1000000000, s.gn.nextSeq, ((s.each s.gn.posPend State.applyBase).latchAll meas).1) ∧
        (∀ c ∈ List.range 256, ((((t.gn.latched.map (·.recs)).getD []).filter fun r => r.channel = c).length =
          if (s.chan c).st = 2 ∧ (s.each s.gn.posPend State.applyBase).chanLive c = true then 1 else 0)) ∧
        (∀ r ∈ (t.gn.latched.map (·.recs)).getD [], (t.chan r.channel).slip = false) ∧ t.gn.posPend = []) ∧
  (∀ (s : State) (r : Option Nat) (geom : List SigGeom) (e : Epoch), s.gn.latched = some e → e.seq < 2 ^ 32 →
      ∃ t, exec (.epochComplete r geom) s = .next t ∧ t.gn.latched = none ∧ t.gn.nextSeq = (e.seq + 1) % 2 ^ 32 ∧ t.get F.EPOCH_SEQ = e.seq ∧
        t.irqUp ⟨.gnssMeas, 0⟩ I.GNSS_MEAS_EPOCH = true ∧ t.gn.ring.getLast?.map (·.seq) = some e.seq ∧
        t.gn.ring.getLast?.map (·.clkResid) = some (r.getD 0x80000000) ∧
        t.gn.delivered = (if t.gn.ring.getLast?.map (·.withheld) = some 0 then lastN 8 (s.gn.delivered ++ t.gn.ring.getLast?.toList) else s.gn.delivered)) ∧
  (∀ (s : State) (r : Option Nat) (geom : List SigGeom) (e : Epoch), s.gn.latched = some e → s.get F.BASE_CTRL_BASE_VALID = 0 →
      ∃ t, exec (.epochComplete r geom) s = .next t ∧ t.gn.ring.getLast?.map (·.withheld) = some 1 ∧ t.gn.delivered = s.gn.delivered ∧ t.gn.lastBase = s.gn.lastBase) ∧
  (∀ (s : State), s.get F.CONSIST_STATUS_SPOOF_NOW = 0 → ∃ t, exec .spoofClear s = .next t ∧ t.get F.CONSIST_STATUS_SPOOF = 0) ∧
  (∀ (s : State), s.get F.CONSIST_STATUS_SPOOF_NOW = 1 → exec .spoofClear s = .next s) ∧
  (∀ (s : State), s.get F.BASE_CTRL_MODE = 2 → s.get F.BASE_CTRL_SURVEY_STATE ≠ 1 →
      ∃ t, exec .surveyStart s = .next t ∧ t.get F.BASE_CTRL_SURVEY_STATE = 1 ∧ t.get F.SURVEY_ELAPSED = 0 ∧ t.gn.svN = 0 ∧ t.gn.svAt = s.now ∧ t.gn.svSum = [0, 0, 0]) ∧
  (∀ (s : State) (x y z : Int), s.get F.BASE_CTRL_SURVEY_STATE = 1 → s.gn.svSecond < s.fleetSec → (∀ e ∈ s.gn.ring.getLast?, bit e.hflags 6 = false ∧ bit e.hflags 7 = false) →
      s.gn.svN + 1 < s.get F.SURVEY_MIN_DUR →
      ∃ t, exec (.surveySecond x y z) s = .next t ∧ t.gn.svN = s.gn.svN + 1 ∧ t.get F.SURVEY_ELAPSED = (s.gn.svN + 1) % 2 ^ 32 ∧ t.gn.svSecond = s.fleetSec ∧
        t.get F.BASE_CTRL_SURVEY_STATE = 1 ∧ t.get F.BASE_CTRL_BASE_VALID = s.get F.BASE_CTRL_BASE_VALID) ∧
  (∀ (s : State) (x y z : Int), s.get F.BASE_CTRL_SURVEY_STATE = 1 → s.gn.svSecond < s.fleetSec → (∀ e ∈ s.gn.ring.getLast?, bit e.hflags 6 = false ∧ bit e.hflags 7 = false) →
      s.get F.SURVEY_MIN_DUR ≤ s.gn.svN + 1 → (s.surveyAdd (s.toAnt0 [x, y, z])).get F.SURVEY_SIGMA_NOW ≤ s.get F.SURVEY_SIGMA → s.gn.svSum.length = 3 →
      ∃ t, exec (.surveySecond x y z) s = .next t ∧ t.get F.BASE_CTRL_SURVEY_STATE = 2 ∧ t.get F.BASE_CTRL_BASE_VALID = 1 ∧ t.gn.baseChanged = true ∧
        t.get F.BASE_POS_X_LO = (((nth 0 s.gn.svSum 0 + nth 0 (s.toAnt0 [x, y, z]) 0) / (s.gn.svN + 1)) % 2 ^ 32).toNat ∧ t.get F.BASE_POS_Z_HI = (((nth 0 s.gn.svSum 2 + nth 0 (s.toAnt0 [x, y, z]) 2) / (s.gn.svN + 1)) / 2 ^ 32 % 2 ^ 32).toNat) ∧
  (∀ (s : State), s.get F.BASE_CTRL_SURVEY_STATE = 1 → s.gn.svAt + sec (s.get F.SURVEY_MAX_DUR) ≤ s.now →
      ∃ t, exec .surveyTimeout s = .next t ∧ t.get F.BASE_CTRL_SURVEY_STATE = 3 ∧ t.get F.BASE_CTRL_BASE_VALID = 0 ∧ t.irqUp ⟨.gnssMeas, 0⟩ I.GNSS_MEAS_SURVEY_DONE = true)

/-- What a measurement of a time source, the end of a slew, an evaluation of quality and the time-outs of fleet time do.
(R82, R84, R85, R88, R89, R94, R95) -/
def Obligations.FleetTimeSources : Prop :=
  (∀ (s : State) (e : Int) (cls : Nat), 6 ≤ cls → cls ≤ 7 → s.isOn .time = true → bit (s.get F.TIME_CFG_SRC_EN) 1 = true → s.qualified 1 = false → nth 0 s.tm.good 1 < 15 →
      ∃ t, exec (.timeSourceMeasure 1 (some e) true cls) s = .next t ∧ t.get F.PHASE_ERR = satInt (e / 10) 32 % 2 ^ 32 ∧
        t.tm.good = setNth s.tm.good 1 (nth 0 s.tm.good 1 + 1) ∧ t.get F.TIME_STATUS_STATE = s.get F.TIME_STATUS_STATE ∧ t.ft = s.ft) ∧
  (∀ (s : State) (e : Int) (cls : Nat), cls ≤ 7 → s.isOn .time = true → bit (s.get F.TIME_CFG_SRC_EN) 1 = true → s.get F.TIME_STATUS_STATE = 1 → s.get F.TIME_STATUS_SRC = 1 →
      s.qualified 1 = true → s.jumpLimit < iabs e →
      ∃ t, exec (.timeSourceMeasure 1 (some e) true cls) s = .next t ∧ t.get F.TIME_STATUS_STATE = 3 ∧ t.get F.TIME_STATUS_SRC = 3 ∧
        t.get F.TIME_STATUS_SLEWING = 0 ∧ t.irqUp ⟨.time, 0⟩ I.TIME_JUMP_REFUSED = true ∧
        t.ctr ⟨.time, 0⟩ C.TIME_JUMP_REFUSED = (s.ctr ⟨.time, 0⟩ C.TIME_JUMP_REFUSED + 1) % 2 ^ 64 ∧ t.ft = s.ft) ∧
  (∀ (s : State) (e : Int) (cls : Nat), cls ≤ 7 → s.isOn .time = true → bit (s.get F.TIME_CFG_SRC_EN) 1 = true → s.get F.TIME_STATUS_STATE = 1 → s.get F.TIME_STATUS_SRC = 1 →
      s.qualified 1 = true → iabs e ≤ s.jumpLimit →
      ∃ t, exec (.timeSourceMeasure 1 (some e) true cls) s = .next t ∧ t.get F.TIME_STATUS_STATE = 1 ∧ t.get F.TIME_STATUS_SRC = 1 ∧
        t.get F.TIME_STATUS_GAP_ALLOW = 0 ∧ t.tm.slewE = e ∧
        t.ctr ⟨.time, 0⟩ C.TIME_JUMP_REFUSED = s.ctr ⟨.time, 0⟩ C.TIME_JUMP_REFUSED ∧ t.ft = s.ft) ∧
  (∀ (s : State), s.get F.TIME_STATUS_SLEWING = 1 → s.tm.slewAt + s.tm.slewTime ≤ s.now →
      ∃ t, exec .slewComplete s = .next t ∧ t.get F.TIME_STATUS_SLEWING = 0 ∧ t.get F.FREQ_ADJ = satInt s.tm.freq 32 % 2 ^ 32 ∧ t.tm.slewRate = 0 ∧
        t.get F.TIME_STATUS_STATE = s.get F.TIME_STATUS_STATE) ∧
  (∀ (s : State), s.isOn .time = true → s.tm.evalAt + ms 10 ≤ s.now →
      ∃ t, exec .tqEvaluate s = .next t ∧ t.get F.UNCERT = min 0xFFFFFFFF (s.uNow / 1000) ∧ t.tm.u = s.uNow ∧
        t.get F.TIME_STATUS_TQ = (((s.tm.hist.filter fun x => decide (s.now < x.1 + sec 10 + ms 10)).map (·.2)).foldl max
          (if s.get F.TIME_STATUS_STATE = 0 then 15 else tqOf s.uNow)) % 2 ^ 4) ∧
  (∀ (s : State) (at_ : Nat), s.get F.TIME_STATUS_STATE = 3 → s.tm.noneSince = some at_ → at_ + sec 10 ≤ s.now →
      ∃ t, exec .refusedTimeout s = .next t ∧ t.get F.TIME_STATUS_STATE = 2 ∧ t.ft = s.ft) ∧
  (∀ (s : State), s.get F.TIME_STATUS_GAP_ALLOW = 1 → s.tm.gapAt + sec 10 ≤ s.now →
      ∃ t, exec .gapAllowExpiry s = .next t ∧ t.get F.TIME_STATUS_GAP_ALLOW = 0 ∧ t.get F.TIME_STATUS_STATE = s.get F.TIME_STATUS_STATE)

/-- Authorised operations on fleet time: accepted and pending, applied at the end of the superframe in one update, re-
based and finished. (R85, R86, R90, R91, R92) -/
def Obligations.AuthorisedTimeSteps : Prop :=
  (∀ (s : State) (x : Nat), s.get F.TIME_STATUS_STATE = 3 → s.get F.TIME_STATUS_STEP_PEND = 0 → s.allHeld = true → s.bestSource = some x →
      ∃ t, exec .stepToSource s = .next t ∧ t.get F.TIME_STATUS_STEP_PEND = 1 ∧ t.get F.STEP_CTRL_RESULT = 1 ∧ t.get F.STEP_CTRL_OP = 1 ∧
        t.tm.stepBy = some (nth 0 s.tm.lastE x) ∧ t.ft = s.ft) ∧
  (∀ (s : State) (d : Int), s.get F.TIME_STATUS_STATE = 2 ∨ s.get F.TIME_STATUS_STATE = 3 → s.get F.TIME_STATUS_STEP_PEND = 0 →
      s.allHeld = true → iabs d ≤ 10 ^ 15 → 0 ≤ (s.fleetNs : Int) + d →
      ∃ t, exec (.stepByOffset (some d)) s = .next t ∧ t.get F.TIME_STATUS_STEP_PEND = 1 ∧ t.get F.STEP_CTRL_RESULT = 1 ∧
        t.get F.STEP_CTRL_OP = 2 ∧ t.tm.stepBy = some (d * 10) ∧ t.ft = s.ft) ∧
  (∀ (s : State), s.get F.TIME_STATUS_STATE = 0 → s.get F.TIME_STATUS_STEP_PEND = 0 →
      ∃ t, exec .acceptFree s = .next t ∧ t.get F.TIME_STATUS_STATE = 2 ∧ t.get F.TIME_STATUS_STEPPED = 1 ∧ t.get F.TIME_STATUS_EPOCH = 1 ∧
        t.get F.STEP_CTRL_RESULT = 2 ∧ t.ft = s.ft) ∧
  (∀ (s : State) (x : Nat), s.get F.TIME_STATUS_STATE = 3 → s.get F.TIME_STATUS_STEP_PEND = 0 → s.bestSource = some x →
      ∃ t, exec .slewAccept s = .next t ∧ t.get F.TIME_STATUS_STATE = 1 ∧ t.get F.TIME_STATUS_SRC = x % 2 ^ 2 ∧ t.get F.STEP_CTRL_RESULT = 2 ∧
        t.tm.slewE = nth 0 s.tm.lastE x ∧ t.ft = s.ft) ∧
  (∀ (s : State) (d : Int), s.tm.stepBy = some d → s.powered = true → s.noPortOn = true ∨ s.air.nextB ≤ s.fleetNs →
      ∃ t, exec .timeStepApply s = .next t ∧ t.ft = ((s.ft : Int) + d * 2 ^ 32 / 10).toNat ∧ t.get F.LEASE_STATUS_REBASING = 1 ∧
        t.get F.TIME_STATUS_EPOCH = (s.tm.stepEpoch.getD (s.get F.TIME_STATUS_EPOCH % 255 + 1)) % 2 ^ 8 ∧ t.tm.stepBy = none) ∧
  (∀ (s : State), s.get F.LEASE_STATUS_REBASING = 1 → (∀ h ∈ s.held, s.rebaseHolds h.page = false) →
      ∃ t, exec .rebaseComplete s = .next t ∧ t.get F.LEASE_STATUS_REBASING = 0 ∧ t.get F.TIME_STATUS_STEP_PEND = 0 ∧
        t.get F.STEP_CTRL_RESULT = 2 ∧ t.get F.STEP_CTRL_OP = 0)

/-- The PPS edge, PTP event messages received and sent, and the transmit time-stamp queue. (R101, R102, R104, R107,
R108, R109) -/
def Obligations.PulsePerSecondAndTimeStamps : Prop :=
  (∀ (s : State), s.isOn .time = true → s.get F.PPS_CFG_EN = 1 → s.get F.TIME_STATUS_STATE ≠ 0 ∨ s.get F.PPS_CFG_UNSET_EN = 1 → s.tm.ppsHold ≤ s.now →
      s.tm.ppsSec < (((s.fleetNs : Int) + sext (s.get F.PPS_CFG_COMP) 16) / 1000000000).toNat → s.tm.ppsAt = none → s.get F.ROOT_STATUS_ROOT_LOCK = 1 →
      ((s.fleetNs : Int) + sext (s.get F.PPS_CFG_COMP) 16) % 1000000000 ≤ 25000 →
      ∃ t, exec .ppsEdge s = .next t ∧ t.out = .pin "PPS_OUT" (decide (s.get F.PPS_CFG_POL = 0)) :: s.out ∧
        t.tm.ppsSec = (((s.fleetNs : Int) + sext (s.get F.PPS_CFG_COMP) 16) / 1000000000).toNat) ∧
  (∀ (s : State) (a : Nat), s.tm.ppsAt = some a → a + ms (s.get F.PPS_CFG_WIDTH) ≤ s.now →
      ∃ t, exec .ppsEdge s = .next t ∧ t.out = .pin "PPS_OUT" (decide (s.get F.PPS_CFG_POL ≠ 0)) :: s.out ∧ t.tm.ppsAt = none ∧ t.tm.ppsSec = s.tm.ppsSec) ∧
  (∀ (s : State) (port : Nat) (f : EthFrame), port < 2 → s.isOn .eth port = true → f.fcsOk = true → f.da = 0x011B19000000 ∨ f.da = s.macOf port →
      s.get F.ETH_CFG_VLAN_EN port = 0 → s.get F.TIME_CFG_PTP_HOST = 0 → ptpFrame f.bytes 319 = true →
      ∃ t, exec (.ptpEventRx port f) s = .next t ∧ t.out = .supFrame port (some (((s.fleet01 : Int) - (s.ethLatency port).1 - sext (s.get F.ETH_CORR_INGRESS 0 port) 16).toNat / 10)) f :: s.out ∧
        t.ctr ⟨.eth, port⟩ C.ETH_FRAMES_RX = (s.ctr ⟨.eth, port⟩ C.ETH_FRAMES_RX + 1) % 2 ^ 64) ∧
  (∀ (s : State) (port msgType domain seqId : Nat), port < 2 → s.isOn .eth port = true → s.get F.ETH_STATUS_LINK port ≠ 0 → msgType < 4 → (s.txts port).length < 64 →
      ∃ t, exec (.ptpEventTx port msgType domain seqId false) s = .next t ∧
        t.txts port = s.txts port ++ [⟨msgType * 4096 + domain % 16 * 256 + seqId % 256,
          ((s.fleet01 : Int) + (s.ethLatency port).2 + sext (s.get F.ETH_CORR_EGRESS 0 port) 16).toNat / 10⟩] ∧
        t.get F.TXTS_W0_VALID 0 port = 1 ∧ t.irqUp ⟨.time, 0⟩ (if port = 0 then I.TIME_TXTS0 else I.TIME_TXTS1) = true ∧
        (.ptpFrame port msgType seqId none none :: s.out) <:+ t.out) ∧
  (∀ (s : State) (msgType domain seqId : Nat), s.isOn .eth 0 = true → s.get F.ETH_STATUS_LINK 0 ≠ 0 → msgType < 4 → 64 ≤ s.tm.txts0.length →
      ∃ t, exec (.ptpEventTx 0 msgType domain seqId false) s = .next t ∧ t.tm.txts0 = s.tm.txts0 ∧
        t.ctr ⟨.time, 0⟩ C.TIME_TXTS_DROP0 = (s.ctr ⟨.time, 0⟩ C.TIME_TXTS_DROP0 + 1) % 2 ^ 64 ∧
        (.ptpFrame 0 msgType seqId none none :: s.out) <:+ t.out) ∧
  (∀ (s : State) (src : Src) (port : Nat), port < 2 → s.jtagBars src ⟨.time, 0⟩ false = false → s.txtsOwner src = true →
      ∃ t, exec (.txtsPop src port) s = .next t ∧ t.txts port = (s.txts port).drop 1 ∧
        t.get F.TXTS_W0_VALID 0 port = b2n (!((s.txts port).drop 1).isEmpty) ∧
        (.readData src (s.get F.TXTS_W3_TIME_S_HI 0 port) :: s.out) <:+ t.out) ∧
  (∀ (s : State) (src : Src) (port : Nat), port < 2 → s.jtagBars src ⟨.time, 0⟩ false = false → s.txtsOwner src = false →
      ∃ t, exec (.txtsPop src port) s = .next t ∧ t.tm = s.tm ∧ t.regs = s.regs ∧
        t.out = .readData src (s.get F.TXTS_W3_TIME_S_HI 0 port) :: s.out)

/-- Member-epochs, solver cells, shedding, time-outs of RTK state, the loss of the base, and corrections on air. (R116,
R118, R119, R124, R127, R128, R140, R144, R146) -/
def Obligations.RtkCorrectionsAndCells : Prop :=
  (∀ (s : State) (m : Nat) (x : MEpoch) (b : Epoch), x ∈ s.rtk.queue → x.member = m → x.ready = none → s.baseAt x.e = some b → b.withheld = 0 →
      ∃ t, exec (.memberEpochReady m) s = .next t ∧ { x with ready := some s.fleetNs, base := some b } ∈ t.rtk.queue) ∧
  (∀ (s : State) (m : Nat) (x : MEpoch) (b : Epoch), x ∈ s.rtk.queue → x.member = m → x.ready = none → s.baseAt x.e = some b → b.withheld ≠ 0 →
      ∃ t, exec (.memberEpochReady m) s = .next t ∧ (t.rtk.queue.any fun y => decide (y.member = m ∧ y.e = x.e)) = false) ∧
  (∀ (s : State) (cell d : Nat) (x : MEpoch), cell < 16 → s.isOn .solver cell = true → s.getP ⟨.solver, cell⟩ F.STATE_CELLS_LIVE ≠ 0 → (s.rtk.cells.any fun c => decide (c.cell = cell)) = false →
      s.isOn .rtkCtrl = true → x ∈ s.rtk.queue → x.member < 512 → x.deadline = some d → s.fleetNs < d → (s.rtk.cells.any fun c => decide (c.me.member = x.member)) = false →
      (∀ y ∈ s.rtk.queue, y ≠ x → s.before x y = true ∧ (y.member = x.member → x.e < y.e)) →
      ∃ t, exec (.cellTake cell) s = .next t ∧ t.rtk.cells = s.rtk.cells ++ [⟨cell, x, s.now, false, s.rmem x.member, 0⟩] ∧ t.get F.CELL_STATUS_BUSY cell = 1 ∧
        t.get F.CELL_STATUS_MEMBER cell = x.member ∧ t.rtk.queue = s.rtk.queue.filter fun y => !decide (y.member = x.member ∧ y.e = x.e)) ∧
  (∀ (s : State) (m : Nat), (s.rtk.queue.filter fun x => decide (x.member = m) && (match x.deadline with | some d => decide (d ≤ s.fleetNs) | none => false)) ≠ [] →
      ∃ t, exec (.deadlineDrop m) s = .next t ∧
        t.rtk.queue = s.rtk.queue.filter (fun x => !(decide (x.member = m) && (match x.deadline with | some d => decide (d ≤ s.fleetNs) | none => false))) ∧
        t.irqUp ⟨.rtkCtrl, 0⟩ I.RTK_CTRL_DEADLINE_DROP = true ∧ t.ctr ⟨.rtkCtrl, 0⟩ C.RTK_CTRL_DEADLINE_DROP =
          (s.ctr ⟨.rtkCtrl, 0⟩ C.RTK_CTRL_DEADLINE_DROP + (s.rtk.queue.length - t.rtk.queue.length)) % 2 ^ 64) ∧
  (∀ (s : State) (cell cycles : Nat) (w : CellWork) (b : Epoch), s.rtk.cells.find? (fun c => decide (c.cell = cell)) = some w → cell < 16 → w.discard = false → s.level ≠ 3 →
      w.me.base = some b →
      ∃ t, exec (.solveComplete cell cycles) s = .next t ∧ (t.rtk.cells.any fun c => decide (c.cell = cell)) = false ∧ t.get F.CELL_STATUS_BUSY cell = 0 ∧
        t.ctr ⟨.solver, cell⟩ C.SOLVER_SOLVED = (s.ctr ⟨.solver, cell⟩ C.SOLVER_SOLVED + 1) % 2 ^ 64 ∧
        t.ctr ⟨.rtkCtrl, 0⟩ C.RTK_CTRL_FIXES = (s.ctr ⟨.rtkCtrl, 0⟩ C.RTK_CTRL_FIXES + 1) % 2 ^ 64 ∧ (t.rmem w.me.member).solvedE = shiftNs w.shift w.me.e ∧ t.get F.CYCLES_LAST cell = cycles % 2 ^ 32 ∧ (t.rmem w.me.member).solvedAt = some s.now) ∧
  (∀ (s : State) (cell : Nat) (w : CellWork), s.rtk.cells.find? (fun c => decide (c.cell = cell)) = some w → cell < 16 → w.at_ + 3333333334 ≤ s.now →
      ∃ t, exec (.cellWatchdog cell) s = .next t ∧ t.ctr ⟨.solver, cell⟩ C.SOLVER_WATCHDOG = (s.ctr ⟨.solver, cell⟩ C.SOLVER_WATCHDOG + 1) % 2 ^ 64 ∧
        (t.rtk.cells.any fun c => decide (c.cell = cell)) = false) ∧
  (∀ (s : State), s.isOn .rtkCtrl = true → s.rtk.second < s.fleetSec →
      ∃ t, exec .rtkCapacityEval s = .next t ∧ t.rtk.second = s.fleetSec ∧ t.get F.RTK_STATUS_SHED_STEP = t.rtk.shed.headD 0 % 8 ∧
        t.get F.RTK_STATUS_CAP_SHORT = b2n (s.rtkShow.overC (s.sumRate (s.rtkShow.shedMore s.rtk.shed 6 (s.rtk.shed.headD 0 + 1))) 10) ∧
        (∀ m ∈ List.range 512, s.rk m ≠ 0 → RK.eff.get (t.rk m) = effRate t.rtk.shed (RK.prio.get (s.rk m)) (RK.rate.get (s.rk m)))) ∧
  (∀ (s : State) (m sig svid : Nat), ((s.rmem m).ambs.any fun a => decide (a.sig = sig ∧ a.svid = svid ∧ a.seenAt + sec 10 ≤ s.now)) = true →
      ∃ t, exec (.signalAbsentTimeout m sig svid) s = .next t ∧
        (t.rmem m).ambs = (s.rmem m).ambs.filter fun a => !decide (a.sig = sig ∧ a.svid = svid ∧ a.seenAt + sec 10 ≤ s.now)) ∧
  (∀ (s : State) (m a : Nat), m < 512 → (s.rmem m).solvedAt = some a → a + sec 10 ≤ s.now →
      ∃ t, exec (.memberStateTimeout m) s = .next t ∧ (t.rmem m).ambs = [] ∧ (t.rmem m).solvedAt = none ∧ t.te ⟨.rtkCtrl, 0⟩ 1 m = 0 ∧ (t.rmem m).lastE = (s.rmem m).lastE) ∧
  (∀ (s : State), s.isOn .rtkCtrl = true → s.get F.INTEG_STATUS_BASE_LOST = 0 → s.gn.lastBase.getD 0 + s.get F.BASE_LOSS * 1000000 ≤ s.fleetNs →
      ∃ t, exec .baseLost s = .next t ∧ t.get F.INTEG_STATUS_BASE_LOST = 1 ∧ t.irqUp ⟨.rtkCtrl, 0⟩ I.RTK_CTRL_BASE_LOST = true) ∧
  (∀ (s : State) (e : Epoch) (t0 : Nat), s.gn.delivered.getLast? = some e → t0 = e.timeS * 1000000000 + e.timeNs → s.isOn .corrOut = true → s.rtk.corrE < t0 →
      t0 % (s.get F.CORR_CFG2_DIV * ratePeriod e.rate) = 0 → s.get F.BASE_CTRL_BASE_VALID = 1 → s.get F.CONSIST_STATUS_SPOOF = 0 → s.level = 3 → s.rtk.arpAt = none →
      ∃ t, exec .corrBuild s = .next t ∧ t.rtk.corrE = t0 ∧ t.rtk.corrSeq = (s.rtk.corrSeq + 1) % 65536 ∧ t.rtk.arpAt = some t0 ∧
        t.ctr ⟨.corrOut, 0⟩ C.CORR_OUT_EPOCHS_BUILT = (s.ctr ⟨.corrOut, 0⟩ C.CORR_OUT_EPOCHS_BUILT + 1) % 2 ^ 64 ∧
        (s.get F.CORR_CFG_AIR_EN = 1 → (∀ q ∈ t.rtk.corr, q.getLast?.map (·.seq) = some s.rtk.corrSeq ∧ q.getLast?.map (·.e) = some t0))) ∧
  (∀ (s : State) (p i e : Nat) (x : CorrEpoch) (m : List Nat), s.entryDue p i 3 = some e → s.level = 3 → s.maySend p = true → s.gateNow = true → s.dbg.extest = false →
      nth [] s.rtk.corr p = [x] → x.msgs = [m] → x.built + 200000 ≤ s.entryAt e → s.entryAt e < x.e + s.get F.MAX_AGE * 1000000 → s.corrFits p (slRate e) (slLen e) m.length = true →
      ∃ t, exec (.corrEntry p i) s = .next t ∧ nth [] t.rtk.corr p = [] ∧ (p, i) ∈ t.air.done ∧
        t.ctr ⟨.corrOut, 0⟩ C.CORR_OUT_BYTES_AIR = (s.ctr ⟨.corrOut, 0⟩ C.CORR_OUT_BYTES_AIR + m.length) % 2 ^ 64 ∧
        (t.out.any fun o => match o with | .air q false f => decide (q = p ∧ f.typ = 5 ∧ f.body = toBytes 2 x.seq ++ [1, 1] ++ m) | _ => false) = true)

/-- Air ports: framing, PPDUs, transceiver transactions, health checks, the path's grant and the service state. (R152,
R153, R157, R158, R160, R162, R163, R166, R177) -/
def Obligations.AirPorts : Prop :=
  (∀ (s : State) (p : Nat), p < 4 → s.rxEn p = true → s.get F.ROOT_STATUS_ROOT_LOCK = 1 → s.get F.PORT_STATUS_RX_LOCK p = 0 →
      ∃ t, exec (.framingLock p) s = .next t ∧ t.get F.PORT_STATUS_RX_LOCK p = 1 ∧ t.get F.PORT_STATUS_SVC p = s.get F.PORT_STATUS_SVC p) ∧
  (∀ (s : State) (p : Nat), p < 4 → s.rxEn p = true → s.get F.PORT_STATUS_RX_LOCK p = 1 →
      ∃ t, exec (.framingLoss p) s = .next t ∧ t.get F.PORT_STATUS_RX_LOCK p = 0 ∧ t.irqUp ⟨.airport, p⟩ I.AIRPORT_FRAMING_LOSS = true ∧
        t.ctr ⟨.airport, p⟩ C.AIRPORT_FRAMING_LOSS = (s.ctr ⟨.airport, p⟩ C.AIRPORT_FRAMING_LOSS + 1) % 2 ^ 64) ∧
  (∀ (s : State) (p rate len : Nat), p < 4 → s.isOn .airport p = true → s.get F.ROOT_STATUS_ROOT_LOCK = 1 → rate < 8 → 14 ≤ len → len ≤ 2048 → p < s.air.ports.length →
      ∃ t, exec (.ppduTx p rate len) s = .next t ∧ (t.port p).txEnd = s.now + us (s.portUs p rate len) ∧
        t.ctr ⟨.airport, p⟩ C.AIRPORT_PPDU_TX = (s.ctr ⟨.airport, p⟩ C.AIRPORT_PPDU_TX + 1) % 2 ^ 64) ∧
  (∀ (s : State) (p rate : Nat) (y : PpduIn), p < 4 → s.rxWords p = true → s.st ⟨.airport, p⟩ = stOn → s.get F.PORT_STATUS_RX_LOCK p = 1 → y.signalOk = false →
      ∃ t, exec (.ppduRx p rate y) s = .next t ∧ t.ctr ⟨.airport, p⟩ C.AIRPORT_RX_BAD_SIGNAL = (s.ctr ⟨.airport, p⟩ C.AIRPORT_RX_BAD_SIGNAL + 1) % 2 ^ 64 ∧
        t.ctr ⟨.airport, p⟩ C.AIRPORT_OVR_COUNT = (s.ctr ⟨.airport, p⟩ C.AIRPORT_OVR_COUNT + y.ovr) % 2 ^ 64 ∧
        t.ctr ⟨.airport, p⟩ C.AIRPORT_PPDU_RX = s.ctr ⟨.airport, p⟩ C.AIRPORT_PPDU_RX ∧ t.air = s.air) ∧
  (∀ (s : State) (p rate : Nat) (y : PpduIn), p < 4 → s.rxWords p = true → s.st ⟨.airport, p⟩ = stOn → s.get F.PORT_STATUS_RX_LOCK p = 1 → y.signalOk = true →
      y.psdu.length < 14 ∨ 2048 < y.psdu.length →
      ∃ t, exec (.ppduRx p rate y) s = .next t ∧ t.ctr ⟨.airport, p⟩ C.AIRPORT_RX_LEN_DROP = (s.ctr ⟨.airport, p⟩ C.AIRPORT_RX_LEN_DROP + 1) % 2 ^ 64 ∧ t.air = s.air) ∧
  (∀ (s : State) (p rate : Nat) (y : PpduIn), p < 4 → s.rxWords p = true → s.st ⟨.airport, p⟩ = stOn → s.get F.PORT_STATUS_RX_LOCK p = 1 → y.signalOk = true →
      14 ≤ y.psdu.length → y.psdu.length ≤ 2048 → s.isOn .sluice p = true → (parseAir y.psdu).any (fun h => s.dstMine p h.dst) = false →
      ∃ t, exec (.ppduRx p rate y) s = .next t ∧ t.ctr ⟨.airport, p⟩ C.AIRPORT_PPDU_RX = (s.ctr ⟨.airport, p⟩ C.AIRPORT_PPDU_RX + 1) % 2 ^ 64 ∧
        t.ctr ⟨.sluice, p⟩ C.SLUICE_RX_DISCARD = (s.ctr ⟨.sluice, p⟩ C.SLUICE_RX_DISCARD + 1) % 2 ^ 64 ∧ t.air = s.air) ∧
  (∀ (s : State) (p rate : Nat) (y : PpduIn) (h : AirHdr), p < 4 → s.rxWords p = true → s.st ⟨.airport, p⟩ = stOn → s.get F.PORT_STATUS_RX_LOCK p = 1 → y.signalOk = true →
      14 ≤ y.psdu.length → y.psdu.length ≤ 2048 → s.isOn .sluice p = true → parseAir y.psdu = some h → s.dstMine p h.dst = true → h.typ = 1 → p < s.air.ports.length →
      ∃ t, exec (.ppduRx p rate y) s = .next t ∧ t.ctr ⟨.airport, p⟩ C.AIRPORT_PPDU_RX = (s.ctr ⟨.airport, p⟩ C.AIRPORT_PPDU_RX + 1) % 2 ^ 64 ∧
        (t.port p).rxq = (s.port p).rxq ++ [⟨h, true, h.body, y.snr, y.ballNs - s.get F.LAT_RX_LAT p,
          y.ballNs - s.get F.LAT_RX_LAT p + s.portUs p rate y.psdu.length * 1000, 0⟩]) ∧
  (∀ (s : State) (p rate a lim : Nat) (y : PpduIn) (h : AirHdr), p < 4 → s.rxWords p = true → s.st ⟨.airport, p⟩ = stOn → s.get F.PORT_STATUS_RX_LOCK p = 1 → y.signalOk = true →
      14 ≤ y.psdu.length → y.psdu.length ≤ 2048 → s.isOn .sluice p = true → parseAir y.psdu = some h → s.dstMine p h.dst = true → h.typ = 2 →
      s.inWindow p (y.ballNs - s.get F.LAT_RX_LAT p) h = some (a, lim) → s.foreignFrame h = false → s.kgenOk h.kgen = true → h.fcnt < 2 ^ 31 → p < s.air.ports.length →
      ∃ t, exec (.ppduRx p rate y) s = .next t ∧ t.ctr ⟨.airport, p⟩ C.AIRPORT_PPDU_RX = (s.ctr ⟨.airport, p⟩ C.AIRPORT_PPDU_RX + 1) % 2 ^ 64 ∧
        (t.port p).rxq = (s.port p).rxq ++ (match s.rxOpen h with
          | some b => [⟨h, true, b, y.snr, y.ballNs - s.get F.LAT_RX_LAT p, y.ballNs - s.get F.LAT_RX_LAT p + s.portUs p rate y.psdu.length * 1000, lim⟩]
          | none => []) ∧
        t.ctr ⟨.sluice, p⟩ C.SLUICE_MIC_FAIL = (s.ctr ⟨.sluice, p⟩ C.SLUICE_MIC_FAIL + b2n (s.rxOpen h).isNone) % 2 ^ 64) ∧
  (∀ (s : State) (p len : Nat), p < 4 → 8 ≤ len → len ≤ 32 → s.get F.SPI_TXN_BUSY p = 0 → s.st ⟨.airport, p⟩ ≠ stFault → s.st ⟨.airport, p⟩ ≠ stIsolated → p < s.air.ports.length →
      ∃ t, exec (.spiTxnGo p len) s = .next t ∧ t.get F.SPI_TXN_BUSY p = 1 ∧ t.get F.SPI_TXN_LEN p = len ∧ (t.port p).spi = (s.port p).spi ++ [1]) ∧
  (∀ (s : State) (p miso : Nat) (rest : List Nat), p < 4 → (s.port p).spi = 1 :: rest → s.spiReady p 1 = true → p < s.air.ports.length →
      ∃ t, exec (.spiTxnDone p miso) s = .next t ∧ t.get F.SPI_TXN_BUSY p = 0 ∧ t.get F.SPI_TXN_DONE p = 1 ∧
        t.get F.SPI_RX p = miso % 2 ^ s.get F.SPI_TXN_LEN p % 2 ^ 32 ∧ (t.port p).spi = rest ∧
        t.out = .spi p (s.get F.SPI_TXN_LEN p) (s.get F.SPI_TXD p % 2 ^ s.get F.SPI_TXN_LEN p) :: s.out) ∧
  (∀ (s : State) (p miso : Nat), p < 4 → s.isOn .airport p = true → s.get F.SPI_CFG_HEALTH_EN p = 1 → s.get F.ROOT_STATUS_ROOT_LOCK = 1 → (s.port p).healthAt ≤ s.fleetNs → (s.port p).spi = [] →
      s.healthOk p (miso % 2 ^ s.get F.SPI_CFG_HEALTH_LEN p) = true →
      ∃ t, exec (.healthCheck p miso) s = .next t ∧ t.get F.PORT_STATUS_HEALTH_RUN p = 0 ∧ t.st ⟨.airport, p⟩ = stOn ∧
        t.get F.SPI_RX p = miso % 2 ^ s.get F.SPI_CFG_HEALTH_LEN p % 2 ^ 32) ∧
  (∀ (s : State) (p miso : Nat), p < 4 → s.isOn .airport p = true → s.get F.SPI_CFG_HEALTH_EN p = 1 → s.get F.ROOT_STATUS_ROOT_LOCK = 1 → (s.port p).healthAt ≤ s.fleetNs → (s.port p).spi = [] →
      s.healthOk p (miso % 2 ^ s.get F.SPI_CFG_HEALTH_LEN p) = false → 2 ≤ s.get F.PORT_STATUS_HEALTH_RUN p →
      ∃ t, exec (.healthCheck p miso) s = .next t ∧ t.st ⟨.airport, p⟩ = stFault ∧ t.irqUp ⟨.airport, p⟩ I.AIRPORT_HEALTH_FAIL = true ∧
        t.ctr ⟨.airport, p⟩ C.AIRPORT_HEALTH_FAIL = (s.ctr ⟨.airport, p⟩ C.AIRPORT_HEALTH_FAIL + 1) % 2 ^ 64) ∧
  (∀ (s : State) (p : Nat), p < 4 → s.st ⟨.airport, p⟩ = stStarting → (s.port p).step = 4 → s.get F.PORT_STATUS_RX_LOCK p = 0 → (s.port p).rxAt + ms 1 ≤ s.now →
      ∃ t, exec (.airportStartTimeout p) s = .next t ∧ t.st ⟨.airport, p⟩ = stFault) ∧
  (∀ (s : State) (p : Nat), p < 4 → (nth none s.hg.bursts p).isSome = true → s.get F.PORT_STATUS_TX_SRC p = 0 → (s.port p).txEnd ≤ s.now → s.isOn .airport p = true → p < s.air.ports.length →
      ∃ t, exec (.txPathGrant p) s = .next t ∧ t.get F.PORT_STATUS_TX_SRC p = 1 ∧ bit (t.get F.HG_STATE_PORTS) p = true ∧ (t.port p).heldAt = some s.fleetNs) ∧
  (∀ (s : State) (p : Nat), p < 4 → s.svc p = 0 → s.svcReady p = true → s.svcClash p = false → p < s.air.ports.length →
      ∃ t, exec (.portSvcStart p) s = .next t ∧ t.svc p = 1 ∧ (t.port p).svcAt = s.fleetNs ∧ t.get F.PORT_INFO_BEACON_MISS p = 0) ∧
  (∀ (s : State) (p : Nat), p < 4 → s.svcCause p = true → (s.svc p = 1 ∨ s.svc p = 2) →
      ∃ t, exec (.portSvcFault p) s = .next t ∧ t.svc p = 3 ∧ t.irqUp ⟨.airport, p⟩ I.AIRPORT_SVC_CHG = true) ∧
  (∀ (s : State) (p : Nat), p < 4 → s.svc p = 3 → s.svcReady p = true → s.svcClash p = false → ∃ t, exec (.faultClr p) s = .next t ∧ t.svc p = 1) ∧
  (∀ (s : State) (p : Nat), p < 4 → s.svc p = 3 → s.svcReady p = false →
      ∃ t, exec (.faultClr p) s = .next t ∧ t.svc p = 3 ∧ t.ctr ⟨.airport, p⟩ C.AIRPORT_CFG_REFUSED = (s.ctr ⟨.airport, p⟩ C.AIRPORT_CFG_REFUSED + 1) % 2 ^ 64)

/-- The Sluice MAC: superframe boundary, slot banks, acknowledged frames, joins, the down broadcast entry and missed
entries. (R168, R173, R174, R175, R184, R186, R187, R190, R199, R431) -/
def Obligations.SluiceMac : Prop :=
  (∀ (s : State), s.air.nextB ≤ s.fleetNs → (s.air.curB = 0 ∨ s.air.nextB ≠ s.air.curB) → s.pair.lastDelta = false → s.get F.SWITCH_SFN = 0 →
      ∃ t, exec .superframeBoundary s = .next t ∧ t.get F.SFN = (s.get F.SFN + 1) % 2 ^ 32 ∧ t.air.curB = s.fleetNs / s.period * s.period ∧ t.air.done = [] ∧ t.air.got = []) ∧
  (∀ (s : State) (p : Nat), p < 4 → s.air.nextB ≤ s.fleetNs → (s.air.curB = 0 ∨ s.air.nextB ≠ s.air.curB) → s.pair.lastDelta = false → s.get F.SWITCH_SFN = 0 →
      s.get F.BANK_CTRL_ARMED p = 1 → s.get F.SWAP_SFN p = (s.get F.SFN + 1) % 2 ^ 32 → (∀ q ∈ List.range 4, s.svc q ≠ 2) →
      ∃ t, exec .superframeBoundary s = .next t ∧ t.get F.BANK_CTRL_ACTIVE p = 1 - s.get F.BANK_CTRL_ACTIVE p ∧ t.get F.BANK_CTRL_ARMED p = 0 ∧
        t.get F.SFN = (s.get F.SFN + 1) % 2 ^ 32) ∧
  (∀ (s : State) (p tg q data bank : Nat) (key : List Nat), s.gated = false → p < 4 → s.isOn .sluice p = true → 0x80 ≤ tg → tg ≤ 0xBF → s.tagBusy tg = false → bank < 2 → s.activeBank p ≠ bank →
      s.get F.BANK_CTRL_ARMED p = 0 →
      ∃ t, exec (.sluiceBankClear (.tag .sup tg q key data) p bank) s = .next t ∧ (∀ j ∈ List.range 2048, t.te ⟨.sluice, p⟩ bank j = 0) ∧
        (∀ j ∈ List.range 2048, t.te ⟨.sluice, p⟩ (1 - bank) j = s.te ⟨.sluice, p⟩ (1 - bank) j) ∧ t.out = .compl .sup ⟨tg, 0, Page.wire ⟨.sluice, p⟩, 0, none⟩ :: s.out) ∧
  (∀ (s : State) (p tg q data : Nat) (key : List Nat), s.gated = false → p < 4 → s.isOn .sluice p = true → 0x80 ≤ tg → tg ≤ 0xBF → s.tagBusy tg = false → s.activeBank p < 2 →
      ∃ t, exec (.sluiceBankClear (.tag .sup tg q key data) p (s.activeBank p)) s = .next t ∧ t.tbl = s.tbl ∧
        t.out = .compl .sup ⟨tg, 0x10, Page.wire ⟨.sluice, p⟩, 0, none⟩ :: s.out) ∧
  (∀ (s : State) (p : Nat), p < 4 → s.get F.BANK_CTRL_ARMED p = 0 → (∀ c ∈ s.armChecks p, c.2 = none) → s.svc p ≠ 0 →
      ∃ t, exec (.bankArm p) s = .next t ∧ t.get F.BANK_CTRL_ARMED p = 1 ∧ t.get F.BANK_CTRL_ARM_ERR p = 0 ∧ t.get F.BANK_CTRL_ACTIVE p = s.get F.BANK_CTRL_ACTIVE p) ∧
  (∀ (s : State) (p : Nat), p < 4 → s.get F.BANK_CTRL_ARMED p = 0 → (∀ c ∈ s.armChecks p, c.2 = none) → s.svc p = 0 →
      ∃ t, exec (.bankArm p) s = .next t ∧ t.get F.BANK_CTRL_ARMED p = 0 ∧ t.get F.BANK_CTRL_ARM_ERR p = 0 ∧ t.get F.BANK_CTRL_ACTIVE p = 1 - s.get F.BANK_CTRL_ACTIVE p) ∧
  (∀ (s : State) (p code idx : Nat) , p < 4 → s.get F.BANK_CTRL_ARMED p = 0 → (s.armChecks p).find? (fun c => c.2.isSome) = some (code, some idx) → code < 16 → idx < 2048 →
      ∃ t, exec (.bankArm p) s = .next t ∧ t.get F.BANK_CTRL_ARMED p = 0 ∧ t.get F.BANK_CTRL_ARM_ERR p = code ∧ t.get F.BANK_CTRL_ARM_INDEX p = idx ∧
        t.irqUp ⟨.sluice, p⟩ I.SLUICE_ARM_REFUSED = true ∧ t.get F.BANK_CTRL_ACTIVE p = s.get F.BANK_CTRL_ACTIVE p) ∧
  (∀ (s : State) (p : Nat), p < 4 → s.get F.BANK_CTRL_ARMED p = 1 →
      ∃ t, exec (.bankCancel p) s = .next t ∧ t.get F.BANK_CTRL_ARMED p = 0 ∧
        t.air.downq = s.air.downq.filter fun f => f.assign ≠ some (nextEpochOf (s.get F.BANK_HDR_EPOCH p (s.activeBank p)) + 256 * p)) ∧
  (∀ (s : State) (p : Nat) (f : RxFrame) (rest : List RxFrame), s.receives p = true → (s.port p).rxq = f :: rest → f.hdr.typ = 2 → f.hdr.relay = none → p < s.air.ports.length →
      (s.upOf f).m < 512 → s.mget (s.upOf f).m RG.rstate ≠ 0 → s.kgenOk f.hdr.kgen = true → f.hdr.fcnt < 2 ^ 31 →
      freshness (s.linkUnder (s.upOf f).m f.hdr.kgen) f.hdr.fcnt f.hdr.seq = .deliver → f.body.length < 32 →
      ∃ t, exec (.upFrameRx p) s = .next t ∧ (t.port p).rxq = rest ∧
        t.ctr ⟨.sluice, p⟩ C.SLUICE_UP_RX = (s.ctr ⟨.sluice, p⟩ C.SLUICE_UP_RX + 1) % 2 ^ 64 ∧
        (f.hdr.kgen = s.kgen → LK.fcnt.get (t.link (s.upOf f).m) = f.hdr.fcnt) ∧ (s.offDuty = false → (p, (s.upOf f).m) ∈ t.air.got ∧ LK.miss.get (t.link (s.upOf f).m) = 0 ∧ LK.silent.get (t.link (s.upOf f).m) = 0)) ∧
  (∀ (s : State) (p : Nat) (f : RxFrame) (rest : List RxFrame), s.receives p = true → (s.port p).rxq = f :: rest → f.hdr.typ = 2 → f.hdr.relay = none → p < s.air.ports.length →
      (s.upOf f).m < 512 → s.mget (s.upOf f).m RG.rstate ≠ 0 → s.kgenOk f.hdr.kgen = true → f.hdr.fcnt < 2 ^ 31 →
      freshness (s.linkUnder (s.upOf f).m f.hdr.kgen) f.hdr.fcnt f.hdr.seq = .replay →
      ∃ t, exec (.upFrameRx p) s = .next t ∧ (t.port p).rxq = rest ∧ t.tbl = s.tbl ∧ t.air.got = s.air.got ∧ t.out = s.out ∧
        t.ctr ⟨.sluice, p⟩ C.SLUICE_REPLAY = (s.ctr ⟨.sluice, p⟩ C.SLUICE_REPLAY + 1) % 2 ^ 64) ∧
  (∀ (s : State) (p : Nat) (f : RxFrame) (rest : List RxFrame) (d : DownFrame), s.receives p = true → (s.port p).rxq = f :: rest → f.hdr.typ = 1 → p < s.air.ports.length →
      s.air.downq.find? (f.acks p) = some d →
      ∃ t, exec (.ackRx p) s = .next t ∧ (t.port p).rxq = rest ∧ t.air.downq = s.air.downq.filter (fun g => !f.acks p g) ∧
        (d.assign.isSome = true → LK.pend.get (t.link d.member) = 0)) ∧
  (∀ (s : State) (p seq : Nat) (f : DownFrame), s.air.downq.find? (fun g => g.matches_ p seq) = some f → f.endAt + 56000 ≤ s.fleetNs →
      ((s.port p).rxq.any fun a => a.acks p f) = false → f.tries ≤ 3 →
      ∃ t, exec (.ackMissing p seq) s = .next t ∧ (t.air.downq.any fun g => g.matches_ p seq) = false ∧ t.air.downq.length = s.air.downq.length ∧
        t.ctr ⟨.sluice, p⟩ C.SLUICE_ACK_MISS = s.ctr ⟨.sluice, p⟩ C.SLUICE_ACK_MISS) ∧
  (∀ (s : State) (p seq : Nat) (f : DownFrame), s.air.downq.find? (fun g => g.matches_ p seq) = some f → f.endAt + 56000 ≤ s.fleetNs →
      ((s.port p).rxq.any fun a => a.acks p f) = false → 3 < f.tries →
      ∃ t, exec (.ackMissing p seq) s = .next t ∧ t.air.downq = s.air.downq.filter (fun g => !g.matches_ p seq) ∧
        t.ctr ⟨.sluice, p⟩ C.SLUICE_ACK_MISS = (s.ctr ⟨.sluice, p⟩ C.SLUICE_ACK_MISS + 1) % 2 ^ 64) ∧
  (∀ (s : State) (p : Nat) (f : RxFrame) (rest : List RxFrame) (y : JoinIn), s.receives p = true → (s.port p).rxq = f :: rest → f.hdr.typ = 6 → s.foreignFrame f.hdr = false →
      p < s.air.ports.length → y = s.joinOf f → bit (AU.flags.get (s.auth (y.hint % 4096))) 0 = true → bit (AU.flags.get (s.auth (y.hint % 4096))) 1 = true →
      y.kgen = s.kgen → s.kgen ≠ 0 → y.micOk = true → y.id = AU.id.get (s.auth (y.hint % 4096)) → y.kind ≤ 2 → AU.last.get (s.auth (y.hint % 4096)) < y.jcnt % 2 ^ 19 → s.offDuty = false →
      ∃ t, exec (.joinReqRx p) s = .next t ∧ t.ctr ⟨.sluice, p⟩ C.SLUICE_JOIN_RX = (s.ctr ⟨.sluice, p⟩ C.SLUICE_JOIN_RX + 1) % 2 ^ 64 ∧
        AU.last.get (t.auth (y.hint % 4096)) = y.jcnt % 2 ^ 19 ∧ (y.id, y.fcnt) ∈ t.air.joinCache) ∧
  (∀ (s : State) (p : Nat) (f : RxFrame) (rest : List RxFrame) (y : JoinIn), s.receives p = true → (s.port p).rxq = f :: rest → f.hdr.typ = 6 → s.foreignFrame f.hdr = false →
      p < s.air.ports.length → y = s.joinOf f → bit (AU.flags.get (s.auth (y.hint % 4096))) 0 = true → s.kgenOk y.kgen = true → y.micOk = true →
      y.id ≠ AU.id.get (s.auth (y.hint % 4096)) →
      ∃ t, exec (.joinReqRx p) s = .next t ∧ t.ctr ⟨.frameSec, 0⟩ C.FRAME_SEC_ID_MISMATCH = (s.ctr ⟨.frameSec, 0⟩ C.FRAME_SEC_ID_MISMATCH + 1) % 2 ^ 64 ∧
        t.auth (y.hint % 4096) = s.auth (y.hint % 4096) ∧ t.air.downq = s.air.downq) ∧
  (∀ (s : State) (p i e : Nat), s.entryDue p i 1 = some e → (s.port p).down = none → 2 ≤ s.level → s.groupMembers p (s.activeBank p) (slMember e / 64) ≠ [] → s.maySend p = true →
      s.gateNow = true → s.dbg.extest = false → s.fleetNs + (s.portUs p (slRate e) (26 + (s.bundleBody p (slMember e / 64) e).length) + 10) * 1000 ≤ s.entryEnd e → p < s.air.ports.length →
      ∃ t, exec (.downBcastEntry p i) s = .next t ∧
        (t.port p).down = some (i, s.fleetNs + (s.portUs p (slRate e) (26 + (s.bundleBody p (slMember e / 64) e).length) + 32) * 1000) ∧
        (t.out.any fun o => match o with | .air q false f => decide (q = p ∧ f.typ = 4 ∧ f.body = s.bundleBody p (slMember e / 64) e) | _ => false) = true) ∧
  (∀ (s : State) (p i e d : Nat), s.entryDue p i 1 = some e → (s.port p).down = some (i, d) → d ≤ s.fleetNs → s.hgHolds p = false → (s.port p).txEnd ≤ s.now → s.air.downq = [] →
      p < s.air.ports.length →
      ∃ t, exec (.downBcastEntry p i) s = .next t ∧ (p, i) ∈ t.air.done ∧ (t.port p).down = none ∧ t.out = s.out) ∧
  (∀ (s : State) (p i e : Nat), s.entryDue p i 1 = some e → (s.port p).down = none → s.hgHolds p = true →
      ∃ t, exec (.downBcastEntry p i) s = .next t ∧ (p, i) ∈ t.air.done ∧ t.out = s.out ∧ t.air.downq = s.air.downq ∧ t.air.bundles = s.air.bundles) ∧
  (∀ (s : State) (p i m : Nat), p < 4 → slValid (s.te ⟨.sluice, p⟩ (s.activeBank p) i) = true → slKind (s.te ⟨.sluice, p⟩ (s.activeBank p) i) = 2 → s.svc p = 2 → s.isOn .sluice p = true → s.offDuty = false →
      s.entryEnd (s.te ⟨.sluice, p⟩ (s.activeBank p) i) ≤ s.fleetNs → s.air.done.contains (p, i) = false → m = slMember (s.te ⟨.sluice, p⟩ (s.activeBank p) i) →
      s.entryVoid p (s.te ⟨.sluice, p⟩ (s.activeBank p) i) = false → s.depthOf m < 2 → s.air.got.contains (p, m) = false →
      ∃ t, exec (.upEntryEnd p i) s = .next t ∧ (p, i) ∈ t.air.done ∧ LK.miss.get (t.link m) = min 255 (LK.miss.get (s.link m) + 1) ∧
        (2 ≤ LK.miss.get (s.link m) → s.mget m RG.rstate ≠ 0 → LK.silent.get (t.link m) = 1))

/-- Routes: relayed frames, ageing, the scan against the shadow, REPACK, the forced ECC mode, LEARN messages and the
seen cache. (R211, R216, R217, R220, R221, R225) -/
def Obligations.RoutesAndRelaying : Prop :=
  (∀ (s : State) (p i : Nat) (f : RxFrame) (r : RelayHdr) (rest : List RxFrame) (y : RelayIn), s.receives p = true → (s.port p).rxq = f :: rest → f.hdr.typ = 2 → f.hdr.relay = some r → p < s.air.ports.length →
      y = s.relayOf f r →
      y.prof ≠ 1 → y.zone = s.number → y.up.m < 512 → s.mget y.up.m RG.rstate ≠ 0 → s.kgenOk y.up.kgen = true →
      y.up.fcnt < 2 ^ 31 → freshness (s.linkUnder y.up.m y.up.kgen) y.up.fcnt y.up.seq = .deliver → y.up.body.length < 32 → s.get F.RT_CFG_LEARN_EN = 1 → s.isOn .route = true →
      s.offDuty = false → s.routeFind (s.addrOf y.up.m) 23 = some i → RT.target.get (s.route i) = 0 → RT.port.get (s.route i) = p → RT.next.get (s.route i) = y.hop →
      RT.hops.get (s.route i) = y.hops + 1 →
      ∃ t, exec (.relayedFrameRx p) s = .next t ∧ (t.port p).rxq = rest ∧ (p, y.up.m) ∈ t.air.got ∧
        t.ctr ⟨.sluice, p⟩ C.SLUICE_UP_RX = (s.ctr ⟨.sluice, p⟩ C.SLUICE_UP_RX + 1) % 2 ^ 64 ∧
        RT.age.get (t.route i) = 0 ∧ RT.key.get (t.route i) = RT.key.get (s.route i)) ∧
  (∀ (s : State) (p : Nat) (f : RxFrame) (r : RelayHdr) (rest : List RxFrame) (y : RelayIn), s.receives p = true → (s.port p).rxq = f :: rest → f.hdr.typ = 2 → f.hdr.relay = some r → p < s.air.ports.length →
      y = s.relayOf f r → y.zone ≠ s.number →
      ∃ t, exec (.relayedFrameRx p) s = .next t ∧ (t.port p).rxq = rest ∧ t.air.got = s.air.got ∧ t.air.downq = s.air.downq ∧ t.tbl = s.tbl ∧
        t.ctr ⟨.route, 0⟩ C.ROUTE_FOREIGN = (s.ctr ⟨.route, 0⟩ C.ROUTE_FOREIGN + 1) % 2 ^ 64) ∧
  (∀ (s : State), s.wf = true → s.isOn .route = true → s.offDuty = false → s.rt.ageSec < s.fleetSec →
      ∃ t, exec .routeAgeTick s = .next t ∧ t.rt.ageSec = s.fleetSec ∧ (∀ i ∈ s.routes, (RT.static.get (s.route i) = 0 → RT.age.get (t.route i) = min 65535 (RT.age.get (s.route i) + 1)) ∧
        (RT.static.get (s.route i) ≠ 0 → t.route i = s.route i) ∧ RT.key.get (t.route i) = RT.key.get (s.route i))) ∧
  (∀ (s : State) (i : Nat), s.isOn .route = true → s.rt.scanAt + us 10 ≤ s.now → i = s.rt.scan % 4096 → RT.plen.get (s.route i) ≠ 0 → RT.static.get (s.route i) = 0 →
      s.get F.AGE_LIMIT ≤ RT.age.get (s.route i) → s.rt.repack = none →
      ∃ t, exec .routeScanStep s = .next t ∧ t.route i = 0 ∧ t.rt.scan = (i + 1) % 4096 ∧ t.rt.scanAt = s.now ∧ t.ctr ⟨.route, 0⟩ C.ROUTE_AGED = (s.ctr ⟨.route, 0⟩ C.ROUTE_AGED + 1) % 2 ^ 64) ∧
  (∀ (s : State) (i : Nat), s.isOn .route = true → s.rt.scanAt + us 10 ≤ s.now → i = s.rt.scan % 4096 → RT.plen.get (s.route i) = 0 ∨ RT.static.get (s.route i) ≠ 0 ∨ RT.age.get (s.route i) < s.get F.AGE_LIMIT →
      s.shadowed = true → s.get F.RT_STATUS_MODE_NOW = 1 → s.get F.RT_CFG_REPAIR_EN = 1 → RT.age.set (s.route i) 0 ≠ RT.age.set (s.shadow i) 0 →
      ∃ t, exec .routeScanStep s = .next t ∧ t.route i = s.shadow i ∧ t.rt.scan = (i + 1) % 4096 ∧
        t.ctr ⟨.route, 0⟩ C.ROUTE_SHADOW_MISMATCH = (s.ctr ⟨.route, 0⟩ C.ROUTE_SHADOW_MISMATCH + 1) % 2 ^ 64) ∧
  (∀ (s : State) (tg q data : Nat) (key : List Nat), s.gated = false → s.isOn .route = true → 0x80 ≤ tg → tg ≤ 0xBF → s.tagBusy tg = false → s.rt.repack = none → ((toBytes 32 data).any fun l => decide (32 < l)) = false →
      s.repackFits (toBytes 32 data) = true →
      ∃ t, exec (.routeRepack (.tag .sup tg q key data)) s = .next t ∧ t.rt.repack = some (toBytes 32 data) ∧ t.get F.RT_STATUS_REPACK_BUSY = 1 ∧ t.tbl = s.tbl ∧ t.out = s.out) ∧
  (∀ (s : State) (tg q data : Nat) (key : List Nat), s.gated = false → s.isOn .route = true → 0x80 ≤ tg → tg ≤ 0xBF → s.tagBusy tg = false → s.rt.repack = none → ((toBytes 32 data).any fun l => decide (32 < l)) = false →
      s.repackFits (toBytes 32 data) = false →
      ∃ t, exec (.routeRepack (.tag .sup tg q key data)) s = .next t ∧ t.rt.repack = none ∧ t.tbl = s.tbl ∧ t.out = .compl .sup ⟨tg, 3, Page.wire ⟨.route, 0⟩, 0, none⟩ :: s.out) ∧
  (∀ (s : State) (lens : List Nat) (h : Held), s.rt.repack = some lens → h ∈ s.held → h.page = ⟨.route, 0⟩ → h.opcode = 8 → toBytes 32 h.data = lens →
      ∃ t, exec .repackComplete s = .next t ∧ t.rt.repack = none ∧ t.get F.RT_STATUS_REPACK_BUSY = 0 ∧ t.irqUp ⟨.route, 0⟩ I.ROUTE_REPACK_DONE = true ∧
        (∀ x ∈ t.held, x.page ≠ ⟨.route, 0⟩)) ∧
  (∀ (s : State) (a : Nat), s.rt.startAt = some a → a + sec 1 ≤ s.now →
      ∃ t, exec .routeEccHoldExpiry s = .next t ∧ t.rt.startAt = none ∧ (s.rt.passed = true → s.shadowed = true → t.get F.RT_STATUS_MODE_NOW = 1) ∧ t.tbl = s.tbl) ∧
  (∀ (s : State) (m : LearnMsg), s.isOn .route = true → m.prev ≠ 0 → s.ownAddr m.prev = true → s.mget (memberOf m.prev) RG.rstate ≠ 0 →
      ∃ t, exec (.learnRx m) s = .next t ∧ t.mget (memberOf m.prev) RG.rstate = 0 ∧ t.ctr ⟨.route, 0⟩ C.ROUTE_LEARN_RX = (s.ctr ⟨.route, 0⟩ C.ROUTE_LEARN_RX + 1) % 2 ^ 64 ∧
        t.ctr ⟨.registry, 0⟩ C.REGISTRY_DEPARTS = (s.ctr ⟨.registry, 0⟩ C.REGISTRY_DEPARTS + 1) % 2 ^ 64) ∧
  (∀ (s : State) (m : LearnMsg), s.isOn .route = true → m.prev = 0 ∨ s.ownAddr m.prev = false →
      ∃ t, exec (.learnRx m) s = .next t ∧ t.tbl = s.tbl ∧ t.ctr ⟨.route, 0⟩ C.ROUTE_LEARN_RX = (s.ctr ⟨.route, 0⟩ C.ROUTE_LEARN_RX + 1) % 2 ^ 64) ∧
  (∀ (s : State) (src seq : Nat), ∃ t, exec (.floodSeenAge src seq) s = .next t ∧
        AMap.get (fun _ => ([] : List (Nat × Nat × Nat))) t.rt.seen (seenSet src seq) = (AMap.get (fun _ => ([] : List (Nat × Nat × Nat))) s.rt.seen (seenSet src seq)).filter
          fun x => !decide (x.1 = src ∧ x.2.1 = seq ∧ x.2.2 + 10000000000 ≤ s.fleetNs))

/-- The request operations of the lease engine: OPEN, STEPS, SUBMIT, RELEASE, CLEAR_OVERSTAY, ABANDON and the build
time-out. (R233, R234, R235, R236, R239, R247, R251) -/
def Obligations.FurrowRequests : Prop :=
  (∀ (s : State) (tg q h data : Nat) (key : List Nat), s.gated = false → s.isOn .lease = true → 0x80 ≤ tg → tg ≤ 0xBF → s.tagBusy tg = false → s.get F.LEASE_STATUS_REBASING = 0 → s.ls.builds.length < 64 →
      1 ≤ bits data 112 8 → bits data 112 8 ≤ 64 → bits data 80 32 < 1000000000 → bits data 128 8 < 16 → bits data 136 8 < 2 → lowestFree (s.ls.builds.map (·.handle)) 64 0 = some h →
      ∃ t, exec (.furrowOpen (.tag .sup tg q key data)) s = .next t ∧ t.ls.builds.map (·.handle) = s.ls.builds.map (·.handle) ++ [h] ∧
        (t.ls.builds.getLast?.any fun b => decide (b.src = .sup ∧ b.owner = bits data 0 32 ∧ b.nstep = bits data 112 8 ∧ b.steps = [] ∧ b.at_ = s.now)) = true ∧
        t.out = .compl .sup ⟨tg, 0, Page.wire ⟨.lease, 0⟩, 0, some h⟩ :: s.out ∧ t.tbl = s.tbl) ∧
  (∀ (s : State) (tg q data : Nat) (key : List Nat), s.gated = false → s.isOn .lease = true → 0x80 ≤ tg → tg ≤ 0xBF → s.tagBusy tg = false → s.get F.LEASE_STATUS_REBASING = 0 → s.ls.builds.length < 64 →
      bits data 112 8 = 0 →
      ∃ t, exec (.furrowOpen (.tag .sup tg q key data)) s = .next t ∧ t.ls.builds = s.ls.builds ∧ t.out = .compl .sup ⟨tg, 0x1D, Page.wire ⟨.lease, 0⟩, 0, none⟩ :: s.out) ∧
  (∀ (s : State) (tg q data k1 : Nat) (b : Build), s.gated = false → s.isOn .lease = true → 0x80 ≤ tg → tg ≤ 0xBF → s.tagBusy tg = false → s.get F.LEASE_STATUS_REBASING = 0 →
      s.build (.tag .sup tg q [b.handle, k1] data) b.handle = some b → bits k1 8 2 = 0 → k1 % 64 < b.nstep → bits data 16 8 < 2 → bits data 64 32 ≠ 0 →
      ∃ t, exec (.furrowSteps (.tag .sup tg q [b.handle, k1] data)) s = .next t ∧
        (t.ls.builds.any fun x => decide (x.handle = b.handle ∧ x.steps = putStep (k1 % 64, bits data 0 16, bits data 16 8, bits data 32 32, bits data 64 32) b.steps ∧ x.at_ = s.now)) = true ∧
        t.out = .compl .sup ⟨tg, 0, Page.wire ⟨.lease, 0⟩, 0, none⟩ :: s.out) ∧
  (∀ (s : State) (tg q data m : Nat) (b : Build) (l : List ReqStep), s.wf = true → s.gated = false → s.isOn .lease = true → 0x80 ≤ tg → tg ≤ 0xBF → s.tagBusy tg = false → s.get F.LEASE_STATUS_REBASING = 0 →
      s.build (.tag .sup tg q [b.handle] data) b.handle = some b → s.held = [] → l = b.steps.map (fun x => ⟨x.1, x.2.1, x.2.2.1 % 2, b.base + x.2.2.2.1 * 1000, x.2.2.2.2⟩) →
      (∀ r ∈ l, s.segZone r.seg = s.number) → 2 ≤ s.level → s.get F.TIME_STATUS_STEPPED = 1 → b.epoch = s.get F.TIME_STATUS_EPOCH → l.length = b.nstep →
      s.memberAt b.owner = some m → s.mget m RG.silent = 0 → s.checkPath l = none → s.checkWindows l = none → s.checkLocal b.wclass l = none → s.get F.LEASE_STATUS_LOST = 0 →
      s.checkReserve b.owner l 0 = none → b.owner < 2 ^ 32 →
      ∃ t, exec (.furrowSubmit (.tag .sup tg q [b.handle] data)) s = .next t ∧ t.get F.GRANT_SEQ = (s.get F.GRANT_SEQ + 1) % 2 ^ 32 ∧
        LE.kind.get (t.le ((s.freeLes (1 + l.length + (s.runsOf l).length)).headD 0)) = 1 ∧ LE.state.get (t.le ((s.freeLes (1 + l.length + (s.runsOf l).length)).headD 0)) = hsGRANTED ∧
        LE.owner.get (t.le ((s.freeLes (1 + l.length + (s.runsOf l).length)).headD 0)) = b.owner ∧
        (t.ls.builds.any fun x => decide (x.handle = b.handle)) = false ∧ t.ctr ⟨.lease, 0⟩ C.LEASE_GRANTS = (s.ctr ⟨.lease, 0⟩ C.LEASE_GRANTS + 1) % 2 ^ 64) ∧
  (∀ (s : State) (tg q data : Nat) (b : Build), s.gated = false → s.isOn .lease = true → 0x80 ≤ tg → tg ≤ 0xBF → s.tagBusy tg = false → s.get F.LEASE_STATUS_REBASING = 0 →
      s.build (.tag .sup tg q [b.handle] data) b.handle = some b → s.held = [] → s.level < 2 →
      ∃ t, exec (.furrowSubmit (.tag .sup tg q [b.handle] data)) s = .next t ∧ t.tbl = s.tbl ∧ t.ctr ⟨.lease, 0⟩ C.LEASE_REFUSALS = (s.ctr ⟨.lease, 0⟩ C.LEASE_REFUSALS + 1) % 2 ^ 64 ∧
        (t.ls.builds.any fun x => decide (x.handle = b.handle)) = false ∧ (t.out.any fun o => match o with | .compl .sup c => decide (c.tag = tg ∧ c.err = 0x11) | _ => false) = true) ∧
  (∀ (s : State) (tg q data p h : Nat), s.gated = false → s.isOn .lease = true → 0x80 ≤ tg → tg ≤ 0xBF → s.tagBusy tg = false → s.get F.LEASE_STATUS_REBASING = 0 → s.leById (LE.id.get (s.le h)) = some h →
      LE.kind.get (s.le h) = 1 → LE.state.get (s.le h) ≠ hsPREPARING → LE.state.get (s.le h) ≠ hsCOMMITTING → LE.part.get (s.le h) = 0 →
      ∃ t, exec (.furrowRelease (.tag .sup tg q [LE.id.get (s.le h), p] data)) s = .next t ∧
        t.out.head? = some (.compl .sup ⟨tg, 0, Page.wire ⟨.lease, 0⟩, h, some (((s.stepsOf h).filter fun i => decide (p % 64 ≤ LE.pos.get (s.le i) ∧ LE.kind.get (s.le i) = 2) && !s.leBegun i).length)⟩)) ∧
  (∀ (s : State) (tg q data p h : Nat), s.gated = false → s.isOn .lease = true → 0x80 ≤ tg → tg ≤ 0xBF → s.tagBusy tg = false → s.get F.LEASE_STATUS_REBASING = 0 → s.leById (LE.id.get (s.le h)) = some h →
      LE.kind.get (s.le h) = 1 → LE.state.get (s.le h) = hsPREPARING →
      ∃ t, exec (.furrowRelease (.tag .sup tg q [LE.id.get (s.le h), p] data)) s = .next t ∧ t.tbl = s.tbl ∧ t.out = .compl .sup ⟨tg, 0x0C, Page.wire ⟨.lease, 0⟩, 0, none⟩ :: s.out) ∧
  (∀ (s : State) (q i : Nat) (src : Src), s.gated = false → s.isOn .lease = true → s.reg (Page.tblStatus ⟨.lease, 0⟩) % 2 = 0 → s.get F.LEASE_STATUS_REBASING = 0 → src.slot = .host →
      s.words ⟨.lease, 0⟩ 0x210 4 = [LE.id.get (s.le i), 0, 0, q] → s.leById (LE.id.get (s.le i)) = some i → LE.kind.get (s.le i) = 3 →
      ∃ t, exec (.clearOverstay (.page src)) s = .next t ∧ LE.kind.get (t.le i) = 0 ∧ t.get F.GRANT_SEQ = (s.get F.GRANT_SEQ + 1) % 2 ^ 32 ∧
        t.reg (Page.tblStatus ⟨.lease, 0⟩) % 2 = 0 ∧ t.reg (Page.tblStatus ⟨.lease, 0⟩) / 256 % 256 = 0) ∧
  (∀ (s : State) (tg q i data : Nat), s.gated = false → s.isOn .lease = true → 0x80 ≤ tg → tg ≤ 0xBF → s.tagBusy tg = false → s.get F.LEASE_STATUS_REBASING = 0 → s.leById (LE.id.get (s.le i)) = some i →
      ∃ t, exec (.clearOverstay (.tag .sup tg q [LE.id.get (s.le i)] data)) s = .next t ∧ t.tbl = s.tbl ∧ t.out = .compl .sup ⟨tg, 0x0C, Page.wire ⟨.lease, 0⟩, 0, none⟩ :: s.out) ∧
  (∀ (s : State) (tg q h data : Nat) (b : Build), s.gated = false → s.isOn .lease = true → 0x80 ≤ tg → tg ≤ 0xBF → s.tagBusy tg = false → s.get F.LEASE_STATUS_REBASING = 0 →
      s.build (.tag .sup tg q [h] data) h = some b →
      ∃ t, exec (.abandon (.tag .sup tg q [h] data)) s = .next t ∧ t.ls.builds = s.ls.builds.filter (fun x => x.handle ≠ b.handle) ∧
        t.out = .compl .sup ⟨tg, 0, Page.wire ⟨.lease, 0⟩, 0, none⟩ :: s.out ∧ t.tbl = s.tbl) ∧
  (∀ (s : State) (b : Build), s.ls.builds.find? (fun x => decide (x.handle = b.handle)) = some b → s.buildLate b = true → s.held = [] →
      ∃ t, exec (.buildTimeout b.handle) s = .next t ∧ t.ls.builds = s.ls.builds.filter (fun x => x.handle ≠ b.handle) ∧
        t.ctr ⟨.lease, 0⟩ C.LEASE_BUILD_TIMEOUT = (s.ctr ⟨.lease, 0⟩ C.LEASE_BUILD_TIMEOUT + 1) % 2 ^ 64)

/-- Reservation across zones: PREPARE, VOTE, COMMIT, acknowledgements, ABORT, RELEASE, the end of steps, TAKEOVER and
the deadlines. (R239, R240, R242, R243, R244, R250) -/
def Obligations.CrossZoneReservation : Prop :=
  (∀ (s : State) (m : LeaseMsg) (d : Deny), s.isOn .lease = true → s.part m.xid = none →
      (s.takeSeq).prepareDeny m (rebuildMs m.arg s.fleetMs * 1000000) (m.steps.map fun x => ⟨x.pos, x.seg, x.dir, x.startS * 1000000000 + x.startNs, x.dur⟩) = some d →
      ∃ t, exec (.prepareRx m) s = .next t ∧ t.ls.parts = s.ls.parts ++ [⟨m.xid, none, m.from_, m.owner, rebuildMs m.arg s.fleetMs * 1000000, none, d.code, d.pos⟩] ∧ t.tbl = s.tbl ∧
        t.ctr ⟨.lease, 0⟩ C.LEASE_PREPARE_RX = (s.ctr ⟨.lease, 0⟩ C.LEASE_PREPARE_RX + 1) % 2 ^ 64) ∧
  (∀ (s : State) (m : LeaseMsg), s.wf = true → s.isOn .lease = true → s.part m.xid = none → m.xid < 2 ^ 32 → m.steps ≠ [] →
      (s.takeSeq).prepareDeny m (rebuildMs m.arg s.fleetMs * 1000000) (m.steps.map fun x => ⟨x.pos, x.seg, x.dir, x.startS * 1000000000 + x.startNs, x.dur⟩) = none →
      ∃ t, exec (.prepareRx m) s = .next t ∧ (t.partIn m.xid hsPREPARED).isSome = true ∧ (t.part m.xid).map (·.vote) = some 0 ∧
        t.get F.GRANT_SEQ = (s.get F.GRANT_SEQ + 1) % 2 ^ 32) ∧
  (∀ (s : State) (m : LeaseMsg) (p : Part), s.isOn .lease = true → s.part m.xid = some p →
      ∃ t, exec (.prepareRx m) s = .next t ∧ t.ls = s.ls ∧ t.tbl = s.tbl ∧ t.get F.GRANT_SEQ = s.get F.GRANT_SEQ) ∧
  (∀ (s : State) (m : LeaseMsg) (x : Xfer) (y : Nat) (rest : List Nat), s.xfer m.xid = some x → x.xid = m.xid → x.ask = m.from_ :: y :: rest → s.isOn .lease = true → 2 ≤ s.level → m.n = 0 → y ≠ s.number →
      ∃ t, exec (.voteRx m) s = .next t ∧ (t.xfer m.xid).map (fun z => (z.ask, z.yes)) = some (y :: rest, x.yes ++ [m.from_]) ∧ t.tbl = s.tbl) ∧
  (∀ (s : State) (m : LeaseMsg) (x : Xfer) (rest : List Nat), s.xfer m.xid = some x → x.xid = m.xid → x.ask = m.from_ :: rest → s.isOn .lease = true → 2 ≤ s.level → m.n ≠ 0 →
      ∃ t, exec (.voteRx m) s = .next t ∧ t.xfer m.xid = none ∧ t.ctr ⟨.lease, 0⟩ C.LEASE_XFER_ABORT = (s.ctr ⟨.lease, 0⟩ C.LEASE_XFER_ABORT + 1) % 2 ^ 64 ∧ t.ls.lastErr = 0x1C) ∧
  (∀ (s : State) (m : LeaseMsg) (h : Nat), s.partIn m.xid hsPREPARED = some h →
      ∃ t, exec (.commitRx m) s = .next t ∧ LE.state.get (t.le h) = hsGRANTED ∧ (h, s.get F.SFN) ∈ t.ls.uncommitted ∧ (t.part m.xid).bind (·.commitAt) = some s.fleetMs) ∧
  (∀ (s : State) (m : LeaseMsg) (x : Xfer) (g : Nat), s.xfer m.xid = some x → x.xid = m.xid → x.head ≠ noHead → LE.state.get (s.le x.head) = hsCOMMITTING → m.n = 0 →
      (∀ z ∈ x.zones, z = s.number ∨ z = m.from_ ∨ z ∈ x.acked) → s.memberAt x.owner = some g → s.gen g = x.ownGen →
      ∃ t, exec (.commitAckRx m) s = .next t ∧ LE.state.get (t.le x.head) = hsGRANTED ∧ (t.xfer m.xid).bind (·.grantAt) = some s.fleetNs ∧
        t.ctr ⟨.lease, 0⟩ C.LEASE_GRANTS = (s.ctr ⟨.lease, 0⟩ C.LEASE_GRANTS + 1) % 2 ^ 64) ∧
  (∀ (s : State) (m : LeaseMsg) (x : Xfer), s.xfer m.xid = some x → x.xid = m.xid → x.head ≠ noHead → LE.state.get (s.le x.head) = hsCOMMITTING → m.n ≠ 0 →
      ∃ t, exec (.commitAckRx m) s = .next t ∧ t.xfer m.xid = none ∧ t.ctr ⟨.lease, 0⟩ C.LEASE_XFER_ABORT = (s.ctr ⟨.lease, 0⟩ C.LEASE_XFER_ABORT + 1) % 2 ^ 64) ∧
  (∀ (s : State) (m : LeaseMsg) (x : Xfer) (g : Nat), s.xfer m.xid = some x → x.xid = m.xid → x.grantAt = some g → LE.state.get (s.le x.head) ≠ hsGRANTED →
      ∃ t, exec (.committedRx m) s = .next t ∧ (t.xfer m.xid).map (fun z => z.noted.contains m.from_) = some true ∧ t.tbl = s.tbl) ∧
  (∀ (s : State) (m : LeaseMsg) (h : Nat), s.partIn m.xid hsPREPARED = some h →
      ∃ t, exec (.abortRx m) s = .next t ∧ t.part m.xid = none ∧ t.get F.GRANT_SEQ = (s.get F.GRANT_SEQ + 1) % 2 ^ 32 ∧ (t.stepsOf h) = []) ∧
  (∀ (s : State) (m : LeaseMsg) (p : Part) (h i : Nat), s.part m.xid = some p → p.head = some h → i ∈ s.stepsOf h → m.n ≤ LE.pos.get (s.le i) →
      ∃ t, exec (.leaseReleaseRx m) s = .next t ∧ LE.kind.get (t.le i) = 0 ∧ t.get F.GRANT_SEQ = (s.get F.GRANT_SEQ + 1) % 2 ^ 32) ∧
  (∀ (s : State) (m : LeaseMsg) (i : Nat), s.partStep m.xid (m.arg % 64) = some i →
      ∃ t, exec (.stepDoneRx m) s = .next t ∧ LE.kind.get (t.le i) = 0 ∧ t.get F.GRANT_SEQ = (s.get F.GRANT_SEQ + 1) % 2 ^ 32) ∧
  (∀ (s : State) (m : LeaseMsg) (i : Nat), s.partStep m.xid (m.arg % 64) = some i → LE.kind.get (s.le i) = 2 →
      ∃ t, exec (.stepOverstayRx m) s = .next t ∧ LE.kind.get (t.le i) = 3 ∧ t.ctr ⟨.lease, 0⟩ C.LEASE_OVERSTAY_COUNT = (s.ctr ⟨.lease, 0⟩ C.LEASE_OVERSTAY_COUNT + 1) % 2 ^ 64) ∧
  (∀ (s : State) (m : LeaseMsg) (p : Part) (h : Nat), s.ls.parts = [p] → p.zone = m.from_ → p.head = some h → LE.state.get (s.le h) = hsPREPARED →
      ∃ t, exec (.takeoverRx m) s = .next t ∧ t.ls.parts = [] ∧ t.stepsOf h = []) ∧
  (∀ (s : State) (x : Xfer), s.xfer x.xid = some x → x.grantAt = none → x.deadline + s.period ≤ s.fleetNs →
      ∃ t, exec (.xferDeadline x.xid) s = .next t ∧ t.xfer x.xid = none ∧ t.ctr ⟨.lease, 0⟩ C.LEASE_XFER_ABORT = (s.ctr ⟨.lease, 0⟩ C.LEASE_XFER_ABORT + 1) % 2 ^ 64) ∧
  (∀ (s : State) (xid h : Nat) (p : Part), s.xfer xid = none → s.part xid = some p → p.head = some h → LE.state.get (s.le h) = hsPREPARED → p.deadline ≤ s.fleetNs →
      ∃ t, exec (.xferDeadline xid) s = .next t ∧ t.part xid = none ∧ t.stepsOf h = []) ∧
  (∀ (s : State) (x : Xfer) (g z : Nat), s.xfer x.xid = some x → x.grantAt = some g → g + 2 * s.period ≤ s.fleetNs → z ∈ x.zones → z ≠ s.number → x.noted.contains z = false →
      ∃ t, exec (.committedTimeout x.xid) s = .next t ∧ t.stepsOf x.head = [] ∧ t.ctr ⟨.lease, 0⟩ C.LEASE_XFER_LOST = (s.ctr ⟨.lease, 0⟩ C.LEASE_XFER_LOST + 1) % 2 ^ 64 ∧
        t.irqUp ⟨.lease, 0⟩ I.LEASE_XFER_LOST = true)

/-- The two ESTOP channels are in discrepancy while their filtered states differ; 20 ms of it without a break raises
DISCREPANCY. (R291) -/
def Obligations.EstopDiscrepancy : Prop :=
  (∀ (s : State) (input : Nat) (active : Bool), input < 2 → s.sup.vddGate = true → bit (s.get F.PINS_FILTERED) input ≠ active → bit (s.get F.PINS_FILTERED) (1 - input) ≠ active → s.hg.discAt = none →
      ∃ t, exec (.stopInputFiltered input active) s = .next t ∧ t.hg.discAt = some s.now ∧ bit (t.get F.PINS_FILTERED) input = active ∧
        bit (t.get F.PINS_FILTERED) (1 - input) = bit (s.get F.PINS_FILTERED) (1 - input)) ∧
  (∀ (s : State) (input : Nat) (active : Bool), input < 2 → s.sup.vddGate = true → bit (s.get F.PINS_FILTERED) input ≠ active → bit (s.get F.PINS_FILTERED) (1 - input) = active →
      ∃ t, exec (.stopInputFiltered input active) s = .next t ∧ t.hg.discAt = none ∧ t.hg.discRaised = false ∧ bit (t.get F.PINS_FILTERED) input = active) ∧
  (∀ (s : State) (a : Nat), s.hg.discAt = some a → s.hg.discRaised = false → a + ms 20 ≤ s.now → s.get F.HG_CFG_ESTOP_CLASS ≠ 0 → s.sup.vddGate = true →
      ∃ t, exec .discrepancy s = .next t ∧ bit (t.get F.CAUSES_HELD) 8 = true ∧ t.get F.HG_STATE_CLASS = max (s.get F.HG_STATE_CLASS) (s.get F.HG_CFG_ESTOP_CLASS) ∧
        t.get F.HG_STATE_REASON = (if s.get F.HG_STATE_CLASS < s.get F.HG_CFG_ESTOP_CLASS then 9 else s.get F.HG_STATE_REASON) ∧
        t.ctr pHG C.HEADGATE_DISCREPANCIES = (s.ctr pHG C.HEADGATE_DISCREPANCIES + 1) % 2 ^ 64 ∧ t.irqUp pHG 9 = true ∧ t.hg.discRaised = true) ∧
  (∀ (s : State), s.hg.discAt = none → exec .discrepancy s = .next s) ∧
  (∀ (s : State) (a : Nat), s.hg.discAt = some a → s.now < a + ms 20 → exec .discrepancy s = .next s)

/-- The Headgate: inputs and requests that raise causes, burst frames and beacons, the site-wide stop, key copy,
outputs, self-test and power-on. (R288, R289, R290, R292, R293, R295, R297, R299, R300, R306, R307, R308) -/
def Obligations.HeadgateStops : Prop :=
  (∀ (s : State) (input : Nat), input < 3 → bit (s.get F.PINS_FILTERED) input = false → s.sup.vddGate = true → (input < 2 → s.get F.HG_CFG_ESTOP_CLASS ≠ 0) →
      ∃ t, exec (.stopInputFiltered input true) s = .next t ∧ bit (t.get F.CAUSES_HELD) (if input = 2 then 1 else 0) = true ∧
        t.get F.HG_STATE_CLASS = max (s.get F.HG_STATE_CLASS) (if input = 2 then 1 else s.get F.HG_CFG_ESTOP_CLASS) ∧ bit (t.get F.PINS_FILTERED) input = true ∧ bit (t.get F.PINS_RAW) input = true) ∧
  (∀ (s : State) (src : Src) (req : Nat), s.jtagBars src pHG true = false → s.sup.vddGate = true → s.mayRaise src.stopReason = true → s.get F.HG_STATE_CLASS < reqClass req →
      ∃ t, exec (.stopReq src req) s = .next t ∧ t.get F.HG_STATE_CLASS = reqClass req ∧ t.get F.HG_STATE_REASON = src.stopReason ∧
        t.get F.HG_STATE_STOP_SEQ = (s.get F.HG_STATE_STOP_SEQ + 1) % 256 ∧ bit (t.get F.CAUSES_HELD) (src.stopReason - 1) = true ∧ t.irqUp pHG 8 = true ∧
        t.ctr pHG C.HEADGATE_STOPS = (s.ctr pHG C.HEADGATE_STOPS + 1) % 2 ^ 64) ∧
  (∀ (s : State) (src : Src) (req : Nat), s.jtagBars src pHG true = false → s.sup.vddGate = true → s.mayRaise src.stopReason = true → reqClass req ≠ 0 → reqClass req ≤ s.get F.HG_STATE_CLASS →
      ∃ t, exec (.stopReq src req) s = .next t ∧ t.get F.HG_STATE_CLASS = s.get F.HG_STATE_CLASS ∧ t.get F.HG_STATE_REASON = s.get F.HG_STATE_REASON ∧
        t.get F.HG_STATE_STOP_SEQ = s.get F.HG_STATE_STOP_SEQ ∧ bit (t.get F.CAUSES_HELD) (src.stopReason - 1) = true ∧ t.hg.bursts = s.hg.bursts) ∧
  (∀ (s : State) (p : Nat) (b : Burst), p < 4 → nth none s.hg.bursts p = some b → s.get F.ROOT_STATUS_ROOT_LOCK ≠ 0 → s.get F.PORT_STATUS_TX_SRC p ≠ 0 →
      b.at_ ≤ s.slotNow → (s.port p).txEnd ≤ s.now → s.isOn .airport p = true → s.hg.key.isSome = true → s.gateNow = true → s.dbg.extest = false →
      ∃ t, exec .burstFrame s = .next t ∧ Out.air p true (s.sealFrame (s.hg.key.getD 0) (s.stopFrame p b.cls b.next)) ∈ t.out ∧
        (b.next < 8 → (nth none t.hg.bursts p).map (·.next) = some (b.next + 1)) ∧ (8 ≤ b.next → nth none t.hg.bursts p = none)) ∧
  (∀ (s : State) (port : Nat), port < 4 → s.get F.ROOT_STATUS_ROOT_LOCK ≠ 0 → s.get F.HG_STATE_CLASS ≠ 0 → s.isOn .airport port = true →
      s.enginePosts port s.air.nextB = false → s.hg.key.isSome = true → s.air.nextB ≤ s.fleetNs + 200000 → s.fleetNs ≤ s.air.nextB + 10000 →
      nth true s.air.hgSent port = false → (s.port port).txEnd ≤ s.momentOf s.air.nextB → s.gateNow = true → s.dbg.extest = false →
      ∃ t, exec (.hgBeacon port) s = .next t ∧ nth false t.air.hgSent port = true ∧
        t.ctr pHG C.HEADGATE_BEACONS_TX = (s.ctr pHG C.HEADGATE_BEACONS_TX + 1) % 2 ^ 64 ∧
        (t.out.any fun o => match o with | .air q true f => decide (q = port ∧ f.typ = 0 ∧ f.dst = s.allMembers ∧ f.src = s.portAddr port ∧ f.body = s.hgBeaconBody port s.air.nextB) | _ => false) = true) ∧
  (∀ (s : State) (port unit mseq : Nat) (m : StopMsg), (s.canalHeard m.origin unit 0 mseq).1 = false → s.hg.seen.contains (m.origin, m.seq) = false →
      s.get F.HG_CFG_SITE_RX = 1 → m.cls ≠ 0 → m.cls < 4 → s.sup.vddGate = true → s.mayRaise rsREMOTE = true →
      ∃ t, exec (.canalStopRx port unit mseq m) s = .next t ∧ bit (t.get F.CAUSES_HELD) 5 = true ∧ (m.origin, m.seq) ∈ t.hg.seen ∧
        t.ctr pHG C.HEADGATE_REMOTE_RX = (s.ctr pHG C.HEADGATE_REMOTE_RX + 1) % 2 ^ 64 ∧ s.get F.HG_STATE_CLASS ≤ t.get F.HG_STATE_CLASS) ∧
  (∀ (s : State) (port unit mseq : Nat) (m : StopMsg), s.hg.seen.contains (m.origin, m.seq) = true →
      ∃ t, exec (.canalStopRx port unit mseq m) s = .next t ∧ t.hg = s.hg ∧ t.get F.CAUSES_HELD = s.get F.CAUSES_HELD ∧ t.out = s.out) ∧
  (∀ (s : State), s.isOn .keystore = true → s.zoneKeyHeld = true → s.sup.vddGate = true →
      ∃ t, exec .hgKeyLoad s = .next t ∧ t.hg.key = some (s.te ⟨.keystore, 0⟩ 8 8) ∧ t.hg.keyGen = s.get F.SEC_STATUS_KGEN_CUR ∧ t.get F.HG_STATE_KEY_OK = 1) ∧
  (∀ (s : State) (outB : Bool), s.get F.HG_CFG_OUT_PULSE_EN = 1 → (if outB then s.hg.outB else s.hg.outA) = true → s.pulseDue outB = true →
      ∃ t, exec (.outputTestPulse outB) s = .next t ∧
        t.out = .pin (if outB then "STOP_OUT_B" else "STOP_OUT_A") true :: .pin (if outB then "STOP_OUT_B" else "STOP_OUT_A") false :: s.out ∧ t.pulseDue outB = false ∧
        t.hg.outA = s.hg.outA ∧ t.hg.outB = s.hg.outB) ∧
  (∀ (s : State) (outB : Bool), s.sup.vddGate = true →
      ∃ t, exec (.outputReadbackError outB) s = .next t ∧ t.get F.HG_STATE_GATE_FAULT = 1 ∧ bit (t.get F.CAUSES_HELD) 10 = true ∧ t.hg.outA = false ∧ t.hg.outB = false ∧
        2 ≤ t.get F.HG_STATE_CLASS ∧ t.irqUp pHG 11 = true) ∧
  (∀ (s : State), s.hg.selfTestAt + sec 10 ≤ s.now → s.sup.vddGate = true →
      ∃ t, exec (.hgSelftest true) s = .next t ∧ t.ctr pHG C.HEADGATE_SELFTEST_RUNS = (s.ctr pHG C.HEADGATE_SELFTEST_RUNS + 1) % 2 ^ 64 ∧ t.hg.selfTestAt = s.now ∧ t.regs = s.regs) ∧
  (∀ (s : State), s.hg.selfTestAt + sec 10 ≤ s.now → s.sup.vddGate = true →
      ∃ t, exec (.hgSelftest false) s = .next t ∧ t.get F.HG_STATE_GATE_FAULT = 1 ∧ bit (t.get F.CAUSES_HELD) 10 = true ∧ t.hg.outA = false) ∧
  (∀ (s : State), ∃ t, exec (.hgPowerOn true) s = .next t ∧ t.st pHG = stOn ∧ t.get F.HG_STATE_CLASS = 2 ∧ t.get F.HG_STATE_REASON = 12 ∧ t.hg.key = none ∧
        t.hg.outA = false ∧ t.hg.outB = false ∧ t.sup.vddGate = true ∧ t.get F.PINS_FILTERED = 0)

/-- The two-step resume of the Headgate: ARM, RELEASE, their refusals and the end of the window. (R303, R304) -/
def Obligations.HeadgateResume : Prop :=
  (∀ (s : State), s.get F.HG_STATE_CLASS ≠ 0 → s.pinsClear = true → s.get F.HG_STATE_GATE_FAULT ≠ 1 → s.get F.SVC_STATUS_LEVEL ≠ 0 →
      ∃ t, exec .resumeArm s = .next t ∧ t.get F.RESUME_STATUS_RESULT = 1 ∧ t.get F.RESUME_STATUS_ARM_TAG = (s.get F.RESUME_STATUS_ARM_TAG + 1) % 256 ∧
        t.get F.HG_STATE_ARMED = 1 ∧ t.hg.armedAt = some s.now ∧ t.get F.HG_STATE_CLASS = s.get F.HG_STATE_CLASS) ∧
  (∀ (s : State), s.get F.HG_STATE_CLASS ≠ 0 → s.pinsClear = false →
      ∃ t, exec .resumeArm s = .next t ∧ t.get F.RESUME_STATUS_RESULT = 3 ∧ t.hg = s.hg ∧ t.irqUp pHG 10 = true ∧
        t.ctr pHG C.HEADGATE_RESUME_REFUSED = (s.ctr pHG C.HEADGATE_RESUME_REFUSED + 1) % 2 ^ 64) ∧
  (∀ (s : State), s.get F.HG_STATE_CLASS ≠ 0 → s.pinsClear = true → (s.get F.HG_STATE_GATE_FAULT = 1 ∨ s.get F.SVC_STATUS_LEVEL = 0) →
      ∃ t, exec .resumeArm s = .next t ∧ t.get F.RESUME_STATUS_RESULT = 4 ∧ t.hg = s.hg) ∧
  (∀ (s : State) (a : Nat), s.hg.armedAt = some a → s.now < a + ms 5000 → s.get F.TIME_STATUS_STEP_PEND ≠ 1 → s.pinsClear = true → s.get F.HG_STATE_GATE_FAULT ≠ 1 →
      s.get F.SVC_STATUS_LEVEL ≠ 0 → bit (s.get F.CAUSES_HELD) 10 = false → s.get F.DBG_STATUS_LEVEL ≠ 2 →
      ∃ t, exec (.resumeRelease (s.get F.RESUME_STATUS_ARM_TAG)) s = .next t ∧ t.get F.RESUME_STATUS_RESULT = 2 ∧ t.get F.HG_STATE_CLASS = 0 ∧ t.get F.HG_STATE_REASON = 0 ∧
        t.get F.CAUSES_HELD = 0 ∧ t.hg.outPending = true ∧ t.hg.armedAt = none ∧ t.ctr pHG C.HEADGATE_RESUMES = (s.ctr pHG C.HEADGATE_RESUMES + 1) % 2 ^ 64) ∧
  (∀ (s : State) (tag : Nat), s.hg.armedAt = none →
      ∃ t, exec (.resumeRelease tag) s = .next t ∧ t.get F.RESUME_STATUS_RESULT = 5 ∧ t.get F.HG_STATE_CLASS = s.get F.HG_STATE_CLASS ∧
        t.ctr pHG C.HEADGATE_RESUME_REFUSED = (s.ctr pHG C.HEADGATE_RESUME_REFUSED + 1) % 2 ^ 64) ∧
  (∀ (s : State) (a tag : Nat), s.hg.armedAt = some a → a + ms 5000 ≤ s.now →
      ∃ t, exec (.resumeRelease tag) s = .next t ∧ t.get F.RESUME_STATUS_RESULT = 9 ∧ t.get F.HG_STATE_CLASS = s.get F.HG_STATE_CLASS) ∧
  (∀ (s : State) (a tag : Nat), s.hg.armedAt = some a → s.now < a + ms 5000 → tag ≠ s.get F.RESUME_STATUS_ARM_TAG →
      ∃ t, exec (.resumeRelease tag) s = .next t ∧ t.get F.RESUME_STATUS_RESULT = 6 ∧ t.get F.HG_STATE_CLASS = s.get F.HG_STATE_CLASS ∧ t.hg = s.hg) ∧
  (∀ (s : State) (a : Nat), s.hg.armedAt = some a → s.now < a + ms 5000 → s.get F.TIME_STATUS_STEP_PEND = 1 →
      ∃ t, exec (.resumeRelease (s.get F.RESUME_STATUS_ARM_TAG)) s = .next t ∧ t.get F.RESUME_STATUS_RESULT = 7 ∧ t.get F.HG_STATE_CLASS = s.get F.HG_STATE_CLASS ∧ t.hg = s.hg) ∧
  (∀ (s : State) (a : Nat), s.hg.armedAt = some a → a + ms 5000 ≤ s.now → s.get F.HG_STATE_ARMED = 1 →
      ∃ t, exec .armWindowExpiry s = .next t ∧ t.get F.HG_STATE_ARMED = 0 ∧ t.get F.RESUME_STATUS_RESULT = 9 ∧ t.hg.armedAt = none ∧
        t.get F.HG_STATE_CLASS = s.get F.HG_STATE_CLASS)

/-- Begun and due steps, the report wait, LOST_CLR, start and end of turnout locks; direct locks: TAKE, DROP, their end,
ORPHAN_CLEAR. (R246, R248, R250, R252, R258, R259, R260) -/
def Obligations.LeaseTimesAndTurnouts : Prop :=
  (∀ (s : State) (i : Nat), s.isOn .lease = true → s.offDuty = false → LE.kind.get (s.le i) = 2 → s.cold i = false → LE.part.get (s.le (LE.head.get (s.le i))) ≠ 1 → s.get F.LEASE_STATUS_LOST ≠ 1 →
      4 ≤ LE.state.get (s.le (LE.head.get (s.le i))) → leEnd (s.le i) + s.get F.GRACE * 1000000 ≤ s.fleetNs → s.onStep i = false →
      ∃ t, exec (.stepDue i) s = .next t ∧ LE.kind.get (t.le i) = 0 ∧ t.ctr ⟨.lease, 0⟩ C.LEASE_EXPIRED = (s.ctr ⟨.lease, 0⟩ C.LEASE_EXPIRED + 1) % 2 ^ 64 ∧ t.get F.GRANT_SEQ = (s.get F.GRANT_SEQ + 1) % 2 ^ 32) ∧
  (∀ (s : State) (i : Nat), s.isOn .lease = true → s.offDuty = false → LE.kind.get (s.le i) = 2 → s.cold i = false → LE.part.get (s.le (LE.head.get (s.le i))) ≠ 1 → s.get F.LEASE_STATUS_LOST ≠ 1 →
      4 ≤ LE.state.get (s.le (LE.head.get (s.le i))) → leEnd (s.le i) + s.get F.GRACE * 1000000 ≤ s.fleetNs → s.onStep i = true →
      ∃ t, exec (.stepDue i) s = .next t ∧ LE.kind.get (t.le i) = 3 ∧ LE.seg.get (t.le i) = LE.seg.get (s.le i) ∧ t.ctr ⟨.lease, 0⟩ C.LEASE_OVERSTAY_COUNT = (s.ctr ⟨.lease, 0⟩ C.LEASE_OVERSTAY_COUNT + 1) % 2 ^ 64 ∧
        t.irqUp ⟨.lease, 0⟩ I.LEASE_OVERSTAY = true) ∧
  (∀ (s : State) (i : Nat), s.isOn .lease = true → s.offDuty = false → LE.kind.get (s.le i) = 2 → s.cold i = false → LE.part.get (s.le (LE.head.get (s.le i))) ≠ 0 → s.get F.LEASE_STATUS_LOST ≠ 1 →
      leEnd (s.le i) + (s.get F.GRACE + s.get F.REPORT_WAIT) * 1000000 ≤ s.fleetNs →
      ∃ t, exec (.reportWaitExpiry i) s = .next t ∧ LE.kind.get (t.le i) = 3 ∧ t.ctr ⟨.lease, 0⟩ C.LEASE_OVERSTAY_COUNT = (s.ctr ⟨.lease, 0⟩ C.LEASE_OVERSTAY_COUNT + 1) % 2 ^ 64 ∧
        t.irqUp ⟨.lease, 0⟩ I.LEASE_OVERSTAY = true) ∧
  (∀ (s : State) (src : Src), src.slot = .host → ∃ t, exec (.lostClr src) s = .next t ∧ t.get F.LEASE_STATUS_LOST = 0 ∧ t.tbl = s.tbl) ∧
  (∀ (s : State) (src : Src), src.slot ≠ .host → exec (.lostClr src) s = .next s) ∧
  (∀ (s : State) (i : Nat), s.isOn .lease = true → s.offDuty = false → LE.kind.get (s.le i) = 4 → LE.state.get (s.le i) = 1 → leStart (s.le i) ≤ s.fleetNs → s.lockHeldOpen i = false →
      ∃ t, exec (.tlockStart i) s = .next t ∧ LE.kind.get (t.le i) = 4 ∧ LE.state.get (t.le i) = 2 ∧ LE.turn.get (t.le i) = LE.turn.get (s.le i)) ∧
  (∀ (s : State) (i : Nat), s.isOn .lease = true → s.offDuty = false → LE.kind.get (s.le i) = 4 → LE.state.get (s.le i) = 2 → leEnd (s.le i) ≤ s.fleetNs → s.get F.LEASE_STATUS_LOST ≠ 1 →
      ∃ t, exec (.tlockEnd i) s = .next t ∧ LE.kind.get (t.le i) = (if s.lockHeldOpen i then 4 else 0) ∧ LE.state.get (t.le i) = (if s.lockHeldOpen i then 3 else 0)) ∧
  (∀ (s : State) (src : Src) (k a d q : Nat), s.gated = false → s.isOn .turnout = true → s.reg (Page.tblStatus ⟨.turnout, 0⟩) % 2 = 0 → src.slot = .host → s.get F.LEASE_STATUS_REBASING = 0 → s.words ⟨.turnout, 0⟩ 0x210 4 = [k, a, d, q] → k < 2 ^ 13 → d ≠ 0xFFFFFFFF → TU.valid.get (s.turn k) = 1 → TU.closed.get (s.turn k) = 0 → TU.downer.get (s.turn k) = 0 →
      s.lockConflict noOwner k (rebuildMs (a % 2 ^ 32) s.fleetMs * 1000000) (rebuildMs (a % 2 ^ 32) s.fleetMs * 1000000 + d % 2 ^ 32 * 1000000) = none →
      ∃ t, exec (.turnoutTake (.page src)) s = .next t ∧ TU.downer.get (t.turn k) = 0x8000 ∧ TU.dgen.get (t.turn k) = s.gen 576 ∧ t.get F.GRANT_SEQ = (s.get F.GRANT_SEQ + 1) % 2 ^ 32 ∧ t.reg (Page.tblStatus ⟨.turnout, 0⟩) % 2 = 0 ∧ t.reg (Page.tblStatus ⟨.turnout, 0⟩) / 256 % 256 = 0) ∧
  (∀ (s : State) (tg q k data : Nat) (key : List Nat), s.gated = false → s.isOn .turnout = true → 0x80 ≤ tg → tg ≤ 0xBF → s.tagBusy tg = false → s.get F.LEASE_STATUS_REBASING = 0 →
      ∃ t, exec (.turnoutTake (.tag .sup tg q (k :: key) data)) s = .next t ∧ t.tbl = s.tbl ∧ t.get F.GRANT_SEQ = (s.get F.GRANT_SEQ + 1) % 2 ^ 32 ∧ t.out = .compl .sup ⟨tg, 0x0C, Page.wire ⟨.turnout, 0⟩, 0, none⟩ :: s.out) ∧
  (∀ (s : State) (src : Src) (k a d q : Nat), s.gated = false → s.isOn .turnout = true → s.reg (Page.tblStatus ⟨.turnout, 0⟩) % 2 = 0 → src.slot = .host → s.get F.LEASE_STATUS_REBASING = 0 → s.words ⟨.turnout, 0⟩ 0x210 4 = [k, a, d, q] → k < 2 ^ 13 → TU.downer.get (s.turn k) = 0x8000 → TU.dgen.get (s.turn k) = s.gen 576 →
      ∃ t, exec (.turnoutDrop (.page src)) s = .next t ∧ TU.downer.get (t.turn k) = 0 ∧ TU.valid.get (t.turn k) = TU.valid.get (s.turn k) ∧ t.get F.GRANT_SEQ = (s.get F.GRANT_SEQ + 1) % 2 ^ 32 ∧ t.reg (Page.tblStatus ⟨.turnout, 0⟩) % 2 = 0 ∧ t.reg (Page.tblStatus ⟨.turnout, 0⟩) / 256 % 256 = 0) ∧
  (∀ (s : State) (tg q k data : Nat) (key : List Nat), s.gated = false → s.isOn .turnout = true → 0x80 ≤ tg → tg ≤ 0xBF → s.tagBusy tg = false → s.get F.LEASE_STATUS_REBASING = 0 → TU.downer.get (s.turn (k % 2 ^ 13)) ≠ 0xC000 →
      ∃ t, exec (.turnoutDrop (.tag .sup tg q (k :: key) data)) s = .next t ∧ t.tbl = s.tbl ∧ t.out = .compl .sup ⟨tg, 0x13, Page.wire ⟨.turnout, 0⟩, 0, none⟩ :: s.out) ∧
  (∀ (s : State) (src : Src) (i a d q : Nat), s.gated = false → s.isOn .turnout = true → s.reg (Page.tblStatus ⟨.turnout, 0⟩) % 2 = 0 → src.slot = .host → s.get F.LEASE_STATUS_REBASING = 0 → s.words ⟨.turnout, 0⟩ 0x210 4 = [LE.id.get (s.le i), a, d, q] → s.leById (LE.id.get (s.le i)) = some i → LE.kind.get (s.le i) = 4 → LE.state.get (s.le i) = 4 →
      ((s.stepsOfLock i).any fun j => decide (LE.kind.get (s.le j) = 3)) = false →
      ∃ t, exec (.orphanClear (.page src)) s = .next t ∧ LE.kind.get (t.le i) = 0 ∧ t.ctr ⟨.turnout, 0⟩ C.TURNOUT_ORPHANS_CLEARED = (s.ctr ⟨.turnout, 0⟩ C.TURNOUT_ORPHANS_CLEARED + 1) % 2 ^ 64 ∧ t.get F.GRANT_SEQ = (s.get F.GRANT_SEQ + 1) % 2 ^ 32 ∧ t.reg (Page.tblStatus ⟨.turnout, 0⟩) % 2 = 0 ∧ t.reg (Page.tblStatus ⟨.turnout, 0⟩) / 256 % 256 = 0) ∧
  (∀ (s : State) (tg q data : Nat) (key : List Nat), s.gated = false → s.isOn .turnout = true → 0x80 ≤ tg → tg ≤ 0xBF → s.tagBusy tg = false → s.get F.LEASE_STATUS_REBASING = 0 →
      ∃ t, exec (.orphanClear (.tag .sup tg q key data)) s = .next t ∧ t.tbl = s.tbl ∧ t.out = .compl .sup ⟨tg, 0x0C, Page.wire ⟨.turnout, 0⟩, 0, none⟩ :: s.out) ∧
  (∀ (s : State) (i : Nat), s.isOn .lease = true → LE.kind.get (s.le i) = 2 → LE.begun.get (s.le i) = 0 → leStart (s.le i) ≤ s.fleetNs →
      ∃ t, exec (.stepWindowBegins i) s = .next t ∧ LE.begun.get (t.le i) = 1 ∧ t.le i = LE.begun.set (s.le i) 1) ∧
  (∀ (s : State) (i b : Nat), TU.downer.get (s.turn i) ≠ 0 → (s.directIv i).2 = some b → b ≤ s.fleetNs →
      ∃ t, exec (.directLockEnd i) s = .next t ∧ TU.downer.get (t.turn i) = 0 ∧ t.ft = s.ft)

/-- Table sequences: SEQ_OPEN, SEQ_STAGE, SEQ_COMMIT, SEQ_DISCARD and the sequence time-out. (R257, R261, R262, R263) -/
def Obligations.TableSequences : Prop :=
  (∀ (s : State) (tg q g lo hi h data : Nat), s.gated = false → s.isOn .turnout = true → 0x80 ≤ tg → tg ≤ 0xBF → s.tagBusy tg = false → s.get F.LEASE_STATUS_REBASING = 0 → s.seqPurge = s → lowestFree (s.ls.seqs.map (·.handle)) 8 0 = some h → (s.ls.seqs.any fun q => decide (q.target = g ∧ lo ≤ q.hi ∧ q.lo ≤ hi)) = false →
      g < 3 → lo ≤ hi → hi < seqSize g →
      ∃ t, exec (.seqOpen (.tag .sup tg q [g, lo, hi] data)) s = .next t ∧ t.ls.seqs = s.ls.seqs ++ [{ handle := h, owner := 577, gen := s.gen 577, target := g, lo := lo, hi := hi, edits := [], at_ := s.now }] ∧
        t.out = .compl .sup ⟨tg, 0, Page.wire ⟨.turnout, 0⟩, 0, some h⟩ :: s.out) ∧
  (∀ (s : State) (tg q g lo hi h data : Nat), s.gated = false → s.isOn .turnout = true → 0x80 ≤ tg → tg ≤ 0xBF → s.tagBusy tg = false → s.get F.LEASE_STATUS_REBASING = 0 → s.seqPurge = s → lowestFree (s.ls.seqs.map (·.handle)) 8 0 = some h → (s.ls.seqs.any fun q => decide (q.target = g ∧ lo ≤ q.hi ∧ q.lo ≤ hi)) = false →
      g < 4 → (hi < lo ∨ seqSize g ≤ hi) →
      ∃ t, exec (.seqOpen (.tag .sup tg q [g, lo, hi] data)) s = .next t ∧ t.ls = s.ls ∧ t.out = .compl .sup ⟨tg, 0x04, Page.wire ⟨.turnout, 0⟩, 0, none⟩ :: s.out) ∧
  (∀ (s : State) (tg q i data : Nat) (x : TblSeq), s.gated = false → s.isOn .turnout = true → 0x80 ≤ tg → tg ≤ 0xBF → s.tagBusy tg = false → s.get F.LEASE_STATUS_REBASING = 0 → s.seqPurge = s → s.ls.seqs.find? (fun q => decide (q.handle = x.handle)) = some x → x.handle < 8 → x.owner = 577 → x.gen = s.gen 577 → x.lo ≤ i → i ≤ x.hi →
      s.get F.SEQ_STAGED < 16384 → (x.edits.any fun e => decide (e.index = i)) = false →
      ∃ t, exec (.seqStage (.tag .sup tg q [x.handle, i] data)) s = .next t ∧
        (t.ls.seqs.any fun y => decide (y.handle = x.handle ∧ y.at_ = s.now) && y.edits.contains ⟨i, data % 2 ^ 256⟩) = true ∧
        t.out = .compl .sup ⟨tg, 0, Page.wire ⟨.turnout, 0⟩, 0, some (x.edits.length + 1)⟩ :: s.out ∧ t.tbl = s.tbl) ∧
  (∀ (s : State) (tg q i data : Nat) (x : TblSeq), s.gated = false → s.isOn .turnout = true → 0x80 ≤ tg → tg ≤ 0xBF → s.tagBusy tg = false → s.get F.LEASE_STATUS_REBASING = 0 → s.seqPurge = s → s.ls.seqs.find? (fun q => decide (q.handle = x.handle)) = some x → x.handle < 8 → x.owner = 577 → x.gen = s.gen 577 → (i < x.lo ∨ x.hi < i) →
      ∃ t, exec (.seqStage (.tag .sup tg q [x.handle, i] data)) s = .next t ∧ t.ls = s.ls ∧ t.out = .compl .sup ⟨tg, 0x04, Page.wire ⟨.turnout, 0⟩, 0, none⟩ :: s.out) ∧
  (∀ (s : State) (tg q i data : Nat) (x : TblSeq), s.gated = false → s.isOn .turnout = true → 0x80 ≤ tg → tg ≤ 0xBF → s.tagBusy tg = false → s.get F.LEASE_STATUS_REBASING = 0 → s.seqPurge = s → s.ls.seqs.find? (fun q => decide (q.handle = x.handle)) = some x → x.handle < 8 → x.owner ≠ 577 →
      ∃ t, exec (.seqStage (.tag .sup tg q [x.handle, i] data)) s = .next t ∧ t.ls = s.ls ∧ t.out = .compl .sup ⟨tg, 0x13, Page.wire ⟨.turnout, 0⟩, 0, none⟩ :: s.out) ∧
  (∀ (s : State) (tg q data : Nat) (x : TblSeq), s.gated = false → s.isOn .turnout = true → 0x80 ≤ tg → tg ≤ 0xBF → s.tagBusy tg = false → s.get F.LEASE_STATUS_REBASING = 0 → s.seqPurge = s → s.ls.seqs.find? (fun q => decide (q.handle = x.handle)) = some x → x.handle < 8 → x.owner = 577 → x.gen = s.gen 577 → x.target ≠ 3 →
      (x.edits.find? fun e => decide (entryErr x.target s.takeSeq (s.takeSeq.seqStored x) e.index ≠ 0)) = none →
      ∃ t, exec (.seqCommit (.tag .sup tg q [x.handle] data)) s = .next t ∧ t.ls.seqs = s.ls.seqs.filter (fun y => y.handle ≠ x.handle) ∧ t.ctr ⟨.turnout, 0⟩ C.TURNOUT_SEQ_COMMITS = (s.ctr ⟨.turnout, 0⟩ C.TURNOUT_SEQ_COMMITS + 1) % 2 ^ 64 ∧
        t.get F.GRANT_SEQ = (s.get F.GRANT_SEQ + 1) % 2 ^ 32 ∧ (t.out.any fun o => match o with | .compl .sup c => decide (c.tag = tg ∧ c.err = 0) | _ => false) = true) ∧
  (∀ (s : State) (tg q data : Nat) (x : TblSeq) (e : StagedEdit), s.gated = false → s.isOn .turnout = true → 0x80 ≤ tg → tg ≤ 0xBF → s.tagBusy tg = false → s.get F.LEASE_STATUS_REBASING = 0 → s.seqPurge = s → s.ls.seqs.find? (fun q => decide (q.handle = x.handle)) = some x → x.handle < 8 → x.owner = 577 → x.gen = s.gen 577 →
      (x.edits.find? fun e => decide (entryErr x.target s.takeSeq (s.takeSeq.seqStored x) e.index ≠ 0)) = some e →
      ∃ t, exec (.seqCommit (.tag .sup tg q [x.handle] data)) s = .next t ∧ t.ls = s.ls ∧ t.tbl = s.tbl ∧ t.ctr ⟨.turnout, 0⟩ C.TURNOUT_SEQ_INVALID = (s.ctr ⟨.turnout, 0⟩ C.TURNOUT_SEQ_INVALID + 1) % 2 ^ 64 ∧
        t.get F.GRANT_SEQ = (s.get F.GRANT_SEQ + 1) % 2 ^ 32 ∧ (t.out.any fun o => match o with | .compl .sup c => decide (c.tag = tg ∧ c.err = 0x15) | _ => false) = true) ∧
  (∀ (s : State) (tg q data : Nat) (x : TblSeq), s.gated = false → s.isOn .turnout = true → 0x80 ≤ tg → tg ≤ 0xBF → s.tagBusy tg = false → s.get F.LEASE_STATUS_REBASING = 0 → s.seqPurge = s → s.ls.seqs.find? (fun q => decide (q.handle = x.handle)) = some x → x.handle < 8 → x.owner = 577 → x.gen = s.gen 577 →
      ∃ t, exec (.seqDiscard (.tag .sup tg q [x.handle] data)) s = .next t ∧ t.ls.seqs = s.ls.seqs.filter (fun y => y.handle ≠ x.handle) ∧ t.tbl = s.tbl ∧ t.irqUp ⟨.turnout, 0⟩ I.TURNOUT_SEQ_DISCARD = true ∧ (t.out.any fun o => match o with | .compl .sup c => decide (c.tag = tg ∧ c.err = 0) | _ => false) = true) ∧
  (∀ (s : State) (x : TblSeq), s.ls.seqs.find? (fun q => decide (q.handle = x.handle)) = some x → s.seqLate x = true →
      ∃ t, exec (.seqTimeout x.handle) s = .next t ∧ t.ls.seqs = s.ls.seqs.filter (fun y => y.handle ≠ x.handle) ∧ t.tbl = s.tbl ∧ t.ctr ⟨.turnout, 0⟩ C.TURNOUT_SEQ_TIMEOUTS = (s.ctr ⟨.turnout, 0⟩ C.TURNOUT_SEQ_TIMEOUTS + 1) % 2 ^ 64 ∧ t.irqUp ⟨.turnout, 0⟩ I.TURNOUT_SEQ_DISCARD = true)

/-- The registry's RELEASE, HOLD and EVICT operations and the hold of a member without a position. (R257, R265, R266,
R267, R269) -/
def Obligations.HoldsAndEviction : Prop :=
  (∀ (s : State) (tg q m mask data : Nat), s.gated = false → s.isOn .registry = true → 0x80 ≤ tg → tg ≤ 0xBF → s.tagBusy tg = false → m < 512 → s.mget m RG.rstate ≠ 0 → ((List.range 8).any fun c => bit (mask % 256) c && s.causeHolds m c) = false → s.get F.TIME_STATUS_STEP_PEND ≠ 1 →
      ∃ t, exec (.registryRelease (.tag .sup tg q [m, mask] data)) s = .next t ∧ t.mget m RG.cause = s.mget m RG.cause - Nat.land (s.mget m RG.cause) (mask % 256) ∧
        t.mget m RG.rstate = (if s.mget m RG.cause - Nat.land (s.mget m RG.cause) (mask % 256) = 0 then 1 else 2) ∧ t.mget m RG.addr = s.mget m RG.addr ∧ t.ctr ⟨.registry, 0⟩ C.REGISTRY_RELEASES = (s.ctr ⟨.registry, 0⟩ C.REGISTRY_RELEASES + 1) % 2 ^ 64 ∧ (t.out.any fun o => match o with | .compl .sup c => decide (c.tag = tg ∧ c.err = 0) | _ => false) = true) ∧
  (∀ (s : State) (tg q m mask data : Nat), s.gated = false → s.isOn .registry = true → 0x80 ≤ tg → tg ≤ 0xBF → s.tagBusy tg = false → m < 512 → s.mget m RG.rstate ≠ 0 → ((List.range 8).any fun c => bit (mask % 256) c && s.causeHolds m c) = true →
      ∃ t, exec (.registryRelease (.tag .sup tg q [m, mask] data)) s = .next t ∧ t.tbl = s.tbl ∧ t.ctr ⟨.registry, 0⟩ C.REGISTRY_RELEASE_REFUSED = (s.ctr ⟨.registry, 0⟩ C.REGISTRY_RELEASE_REFUSED + 1) % 2 ^ 64 ∧ t.out = .compl .sup ⟨tg, 0x10, Page.wire ⟨.registry, 0⟩, 0, none⟩ :: s.out) ∧
  (∀ (s : State) (tg q m mask data : Nat), s.gated = false → s.isOn .registry = true → 0x80 ≤ tg → tg ≤ 0xBF → s.tagBusy tg = false → m < 512 → s.mget m RG.rstate ≠ 0 → ((List.range 8).any fun c => bit (mask % 256) c && s.causeHolds m c) = false → s.get F.TIME_STATUS_STEP_PEND = 1 →
      ∃ t, exec (.registryRelease (.tag .sup tg q [m, mask] data)) s = .next t ∧ t.tbl = s.tbl ∧ t.ctr ⟨.registry, 0⟩ C.REGISTRY_RELEASE_REFUSED = (s.ctr ⟨.registry, 0⟩ C.REGISTRY_RELEASE_REFUSED + 1) % 2 ^ 64 ∧ t.out = .compl .sup ⟨tg, 0x11, Page.wire ⟨.registry, 0⟩, 0, none⟩ :: s.out) ∧
  (∀ (s : State) (tg q m data : Nat) (key : List Nat), s.gated = false → s.isOn .registry = true → 0x80 ≤ tg → tg ≤ 0xBF → s.tagBusy tg = false → m < 512 → s.mget m RG.rstate ≠ 0 →
      ∃ t, exec (.registryHold (.tag .sup tg q (m :: key) data)) s = .next t ∧ t.mget m RG.rstate = 2 ∧ t.mget m RG.cause = Nat.lor (s.mget m RG.cause) 1 ∧ t.mget m RG.addr = s.mget m RG.addr ∧
        t.ctr ⟨.registry, 0⟩ C.REGISTRY_HOLDS = (s.ctr ⟨.registry, 0⟩ C.REGISTRY_HOLDS + b2n (decide (bit (s.mget m RG.cause) 0 = false))) % 2 ^ 64 ∧ (t.out.any fun o => match o with | .compl .sup c => decide (c.tag = tg ∧ c.err = 0) | _ => false) = true) ∧
  (∀ (s : State) (src : Src) (m a d q : Nat), s.gated = false → s.isOn .registry = true → s.reg (Page.tblStatus ⟨.registry, 0⟩) % 2 = 0 → src.slot = .host → s.words ⟨.registry, 0⟩ 0x210 4 = [m, a, d, q] → m < 512 → s.mget m RG.rstate ≠ 0 →
      ∃ t, exec (.evict (.page src)) s = .next t ∧ t.mget m RG.rstate = 0 ∧ t.gen m = (if 65535 ≤ s.gen m then 1 else s.gen m + 1) ∧
        t.air.downq.getLast? = some { typ := 3, member := m, body := leaveRecord, leave := true } ∧ t.ctr ⟨.registry, 0⟩ C.REGISTRY_DEPARTS = (s.ctr ⟨.registry, 0⟩ C.REGISTRY_DEPARTS + 1) % 2 ^ 64 ∧ t.irqUp ⟨.registry, 0⟩ I.REGISTRY_DEPART = true ∧ t.reg (Page.tblStatus ⟨.registry, 0⟩) % 2 = 0 ∧ t.reg (Page.tblStatus ⟨.registry, 0⟩) / 256 % 256 = 0) ∧
  (∀ (s : State) (tg q data : Nat) (key : List Nat), s.gated = false → s.isOn .registry = true → 0x80 ≤ tg → tg ≤ 0xBF → s.tagBusy tg = false →
      ∃ t, exec (.evict (.tag .sup tg q key data)) s = .next t ∧ t.tbl = s.tbl ∧ t.air.downq = s.air.downq ∧ t.out = .compl .sup ⟨tg, 0x0C, Page.wire ⟨.registry, 0⟩, 0, none⟩ :: s.out) ∧
  (∀ (s : State) (m : Nat), m < 512 → s.isOn .motion = true → s.offDuty = false → s.mget m RG.rstate ≠ 0 → s.noPosition m = true → s.get F.HG_STATE_CLASS ≠ 3 → bit (s.mget m RG.cause) 3 = false →
      ∃ t, exec (.noPositionTimeout m) s = .next t ∧ t.mget m RG.rstate = 2 ∧ t.mget m RG.cause = Nat.lor (s.mget m RG.cause) 8 ∧ t.ctr ⟨.registry, 0⟩ C.REGISTRY_HOLDS = (s.ctr ⟨.registry, 0⟩ C.REGISTRY_HOLDS + 1) % 2 ^ 64) ∧
  (∀ (s : State) (m : Nat), s.noPosition m = false → exec (.noPositionTimeout m) s = .next s)

/-- The move queue of a member: MOVE_ADD, MOVE_FLUSH and SET_LIMITS. (R270, R271, R272, R273, R284) -/
def Obligations.MoveQueues : Prop :=
  (∀ (s : State) (tg q m k data : Nat) (key : List Nat), s.gated = false → s.isOn .motion = true → 0x80 ≤ tg → tg ≤ 0xBF → s.tagBusy tg = false → m < 512 → s.moveErr m (MV.mstate.set (data % 2 ^ 224 - bits data 184 8 * 2 ^ 184) 1) = 0 →
      ((List.range 16).find? fun k => !((s.motion m).order.contains k)) = some k →
      ∃ t, exec (.moveAdd (.tag .sup tg q (m :: key) data)) s = .next t ∧ (t.motion m).order = (s.motion m).order ++ [k] ∧ MV.mstate.get (t.move m k) = 1 ∧ MV.furrow.get (t.move m k) = MV.furrow.get data ∧
        MV.dEnd.get (t.move m k) = MV.dEnd.get data ∧ MV.vMax.get (t.move m k) = MV.vMax.get data ∧ t.ctr ⟨.motion, 0⟩ C.MOTION_MOVES_ADDED = (s.ctr ⟨.motion, 0⟩ C.MOTION_MOVES_ADDED + 1) % 2 ^ 64 ∧ t.out = .compl .sup ⟨tg, 0, Page.wire ⟨.motion, 0⟩, 0, some k⟩ :: s.out) ∧
  (∀ (s : State) (tg q m data : Nat) (key : List Nat), s.gated = false → s.isOn .motion = true → 0x80 ≤ tg → tg ≤ 0xBF → s.tagBusy tg = false → m < 512 → s.moveErr m (MV.mstate.set (data % 2 ^ 224 - bits data 184 8 * 2 ^ 184) 1) ≠ 0 →
      ∃ t, exec (.moveAdd (.tag .sup tg q (m :: key) data)) s = .next t ∧ t.mot = s.mot ∧ t.tbl = s.tbl ∧ t.out = .compl .sup ⟨tg, (s.moveErr m (MV.mstate.set (data % 2 ^ 224 - bits data 184 8 * 2 ^ 184) 1)), Page.wire ⟨.motion, 0⟩, 0, none⟩ :: s.out) ∧
  (∀ (s : State) (tg q m data : Nat) (key : List Nat), s.gated = false → s.isOn .motion = true → 0x80 ≤ tg → tg ≤ 0xBF → s.tagBusy tg = false → m < 512 →
      ∃ t, exec (.moveFlush (.tag .sup tg q (m :: key) data)) s = .next t ∧ (t.motion m).order = (s.motion m).order.filter (fun k => MV.mstate.get (s.move m k) = 3) ∧
        t.out = .compl .sup ⟨tg, 0, Page.wire ⟨.motion, 0⟩, 0, some ((s.motion m).order.filter fun k => decide (MV.mstate.get (s.move m k) ≠ 3)).length⟩ :: s.out) ∧
  (∀ (s : State) (tg q m k data : Nat) (key : List Nat), s.gated = false → s.isOn .motion = true → 0x80 ≤ tg → tg ≤ 0xBF → s.tagBusy tg = false → m < 512 → s.badLimits m data false = false → k ∈ (s.motion m).order → MV.mstate.get (s.move m k) ≠ 3 →
      ∃ t, exec (.setLimits (.tag .sup tg q (m :: key) data)) s = .next t ∧ MV.aMax.get (t.move m k) = MV.aMax.get data ∧ MV.aDec.get (t.move m k) = MV.aDec.get data ∧ MV.jMax.get (t.move m k) = MV.jMax.get data ∧
        MV.aLat.get (t.move m k) = MV.aLat.get data ∧ MV.furrow.get (t.move m k) = MV.furrow.get (s.move m k) ∧ MV.dEnd.get (t.move m k) = MV.dEnd.get (s.move m k) ∧ MV.vTgt.get (t.move m k) = MV.vTgt.get (s.move m k) ∧
        (t.motion m).order = (s.motion m).order ∧ t.out = .compl .sup ⟨tg, 0, Page.wire ⟨.motion, 0⟩, 0, none⟩ :: s.out) ∧
  (∀ (s : State) (tg q m data : Nat) (key : List Nat), s.gated = false → s.isOn .motion = true → 0x80 ≤ tg → tg ≤ 0xBF → s.tagBusy tg = false → m < 512 → s.badLimits m data false = true →
      ∃ t, exec (.setLimits (.tag .sup tg q (m :: key) data)) s = .next t ∧ t.mot = s.mot ∧ t.tbl = s.tbl ∧ t.out = .compl .sup ⟨tg, 0x12, Page.wire ⟨.motion, 0⟩, 0, none⟩ :: s.out)

/-- The dispatcher: DP_TAKE, DONE, EMIT_CMD, the item time-out, POST, timers and the SYNC trace record. (R311, R312,
R314, R315, R316, R317, R318, R319, R320, R321, R322) -/
def Obligations.DispatcherItems : Prop :=
  (∀ (s u : State) (core x : Nat) (i : DItem), core < 8 → s.isOn .dispatch = true → s.dbg.halted.contains core = false → s.choose (s.deliverable core) = some (i, u) → s.freeCtx core = some x →
      ∃ t, exec (.dpTake core) s = .next t ∧ t.out.head? = some (.readData (.core core) (x + 2 ^ 31)) ∧ (t.disp.items.any fun j => decide (j.flow = i.flow ∧ j.seq = i.seq ∧ j.st = 1 ∧ j.core = core ∧ j.ctx = x ∧ j.since = s.now)) = true) ∧
  (∀ (s : State) (core : Nat), core < 8 → (s.choose (s.deliverable core)).isNone = true →
      ∃ t, exec (.dpTake core) s = .next t ∧ t.out = .readData (.core core) 0 :: s.out ∧ t.disp = s.disp) ∧
  (∀ (s : State) (core ctx : Nat) (i : DItem), core < 8 → s.ctxItem core ctx = some i →
      ∃ t, exec (.itemDone core ctx) s = .next t ∧ t.ctr ⟨.core, core⟩ C.CORE_ITEMS_DONE = (s.ctr ⟨.core, core⟩ C.CORE_ITEMS_DONE + 1) % 2 ^ 64 ∧
        ((s.disp.items.filter fun j => decide (j.flow = i.flow)) = [i] ∧ i.emits = [] ∧ s.disp.backlog = [] →
          (t.disp.items.any fun j => decide (j.flow = i.flow)) = false ∧ t.ctr ⟨.dispatch, 0⟩ C.DISPATCH_RELEASED = (s.ctr ⟨.dispatch, 0⟩ C.DISPATCH_RELEASED + 1) % 2 ^ 64)) ∧
  (∀ (s : State) (core ctx dest kind target arg : Nat) (body : List Nat) (i : DItem), s.ctxItem core ctx = some i → emitOk dest kind target body.length = false →
      ∃ t, exec (.emitCmd core ctx dest kind target arg body) s = .next t ∧ AMap.get (fun _ => 0) t.disp.emitStatus (8 * core + ctx) = 2 ∧ t.disp.items = s.disp.items) ∧
  (∀ (s : State) (core ctx dest kind target arg : Nat) (body : List Nat) (i : DItem), s.ctxItem core ctx = some i → emitOk dest kind target body.length = true → 16 ≤ i.emits.length →
      ∃ t, exec (.emitCmd core ctx dest kind target arg body) s = .next t ∧ AMap.get (fun _ => 0) t.disp.emitStatus (8 * core + ctx) = 3 ∧ t.disp.items = s.disp.items) ∧
  (∀ (s : State) (core ctx dest kind target arg b : Nat) (body : List Nat) (i : DItem), s.ctxItem core ctx = some i → emitOk dest kind target body.length = true → i.emits.length < 16 →
      (dest = 1 → s.roomFor srcCORE body.length = true) → s.bufferFor body.length = some b →
      ∃ t, exec (.emitCmd core ctx dest kind target arg body) s = .next t ∧ AMap.get (fun _ => 0) t.disp.emitStatus (8 * core + ctx) = 0 ∧
        (t.disp.items.any fun j => decide (j.flow = i.flow ∧ j.seq = i.seq ∧ j.emits = i.emits ++ [⟨dest, kind, target, arg, body, b, 0x4000 + 8 * core + ctx⟩])) = true) ∧
  (∀ (s : State) (core ctx dest kind target arg : Nat) (body : List Nat) (i : DItem), s.ctxItem core ctx = some i → emitOk dest kind target body.length = true → i.emits.length < 16 → dest = 1 → s.roomFor srcCORE body.length = false →
      ∃ t, exec (.emitCmd core ctx dest kind target arg body) s = .next t ∧ AMap.get (fun _ => 0) t.disp.emitStatus (8 * core + ctx) = 1 ∧ t.disp.items = s.disp.items) ∧
  (∀ (s : State) (core ctx : Nat) (i : DItem), core < 8 → ctx < 8 → s.ctxItem core ctx = some i → i.since + us (if s.flowClass i.flow = 0 then s.get F.CLASS0_TIMEOUT else s.get F.ITEM_TIMEOUT) < s.now →
      ∃ t, exec (.itemTimeout core ctx) s = .next t ∧ t.out.head? = some (.abortTrap core ctx) ∧ t.ctr ⟨.core, core⟩ C.CORE_ABORTS = (s.ctr ⟨.core, core⟩ C.CORE_ABORTS + 1) % 2 ^ 64 ∧ t.ctr ⟨.dispatch, 0⟩ C.DISPATCH_ABORTS = (s.ctr ⟨.dispatch, 0⟩ C.DISPATCH_ABORTS + 1) % 2 ^ 64 ∧
        t.irqUp ⟨.dispatch, 0⟩ I.DISPATCH_ABORT = true ∧ t.gen (512 + 8 * core + ctx) = (if 65535 ≤ s.gen (512 + 8 * core + ctx) then 1 else s.gen (512 + 8 * core + ctx) + 1)) ∧
  (∀ (s : State) (tg q flow w a b data : Nat), s.gated = false → s.isOn .dispatch = true → 0x80 ≤ tg → tg ≤ 0xBF → s.tagBusy tg = false → s.get F.LEASE_STATUS_REBASING = 0 → flow < 576 → w / 2 ^ 16 ≤ 48 → s.flowEn flow = true → s.roomFor srcHOST (w / 2 ^ 16) = true →
      ∃ t, exec (.dispatchPost (.tag .sup tg q [flow, w, a, b] data)) s = .next t ∧ t.ctr ⟨.dispatch, 0⟩ C.DISPATCH_ENQUEUED = (s.ctr ⟨.dispatch, 0⟩ C.DISPATCH_ENQUEUED + 1) % 2 ^ 64 ∧
        (t.disp.items.any fun j => decide (j.flow = flow ∧ j.src = srcHOST ∧ j.kind = w % 256 ∧ j.arg = a ∧ j.arg2 = b ∧ j.body = toBytes (w / 2 ^ 16) data ∧ j.ns = s.fleetNs)) = true ∧ (t.out.any fun o => match o with | .compl .sup c => decide (c.tag = tg ∧ c.err = 0) | _ => false) = true) ∧
  (∀ (s : State) (tg q flow w data : Nat) (key : List Nat), s.gated = false → s.isOn .dispatch = true → 0x80 ≤ tg → tg ≤ 0xBF → s.tagBusy tg = false → s.get F.LEASE_STATUS_REBASING = 0 → 576 ≤ flow → flow < 1024 →
      ∃ t, exec (.dispatchPost (.tag .sup tg q (flow :: w :: key) data)) s = .next t ∧ t.disp = s.disp ∧ t.out = .compl .sup ⟨tg, 0x04, Page.wire ⟨.dispatch, 0⟩, 0, none⟩ :: s.out) ∧
  (∀ (s : State) (tg q flow w data : Nat) (key : List Nat), s.gated = false → s.isOn .dispatch = true → 0x80 ≤ tg → tg ≤ 0xBF → s.tagBusy tg = false → s.get F.LEASE_STATUS_REBASING = 0 → flow < 576 → 49 * 2 ^ 16 ≤ w →
      ∃ t, exec (.dispatchPost (.tag .sup tg q (flow :: w :: key) data)) s = .next t ∧ t.disp = s.disp ∧ t.out = .compl .sup ⟨tg, 0x0C, Page.wire ⟨.dispatch, 0⟩, 0, none⟩ :: s.out) ∧
  (∀ (s : State) (k e at_ period f : Nat), k < 256 → s.isOn .dispatch = true → s.offDuty = false → e = s.te ⟨.dispatch, 0⟩ 1 k → at_ = bits e 0 48 * 1000000000 + bits e 64 32 → period = bits e 96 32 → f = bits e 48 10 → bits e 63 1 = 1 → at_ ≤ s.fleetNs →
      s.flowEn f = true → s.roomFor srcTIMER 0 = true → (timerNext at_ period s.fleetNs).1 / 1000000000 < 2 ^ 48 →
      ∃ t, exec (.timerFire k) s = .next t ∧ t.ctr ⟨.dispatch, 0⟩ C.DISPATCH_ENQUEUED = (s.ctr ⟨.dispatch, 0⟩ C.DISPATCH_ENQUEUED + 1) % 2 ^ 64 ∧ t.te ⟨.dispatch, 0⟩ 8 k = s.te ⟨.dispatch, 0⟩ 8 k + 1 ∧
        bits (t.te ⟨.dispatch, 0⟩ 1 k) 63 1 = (if period = 0 then 0 else 1) ∧ bits (t.te ⟨.dispatch, 0⟩ 1 k) 0 48 * 1000000000 + bits (t.te ⟨.dispatch, 0⟩ 1 k) 64 32 = (timerNext at_ period s.fleetNs).1 ∧
        t.ctr ⟨.dispatch, 0⟩ C.DISPATCH_TIMER_SKIP = (s.ctr ⟨.dispatch, 0⟩ C.DISPATCH_TIMER_SKIP + (timerNext at_ period s.fleetNs).2) % 2 ^ 64) ∧
  (∀ (s : State), s.disp.traceSec ≠ s.fleetSec + 1 → s.isOn .dispatch = true → s.get F.DISP_CFG_TRACE_EN = 1 → s.get F.PART_SIZE_SIZE 0 3 ≠ 0 → s.isOn .dram = false →
      ∃ t, exec .traceSync s = .next t ∧ t.disp.traceSec = s.fleetSec + 1 ∧ t.disp.trace.getLast? = some ⟨s.fleetNs / 1000 % 2 ^ 32, 9, 0, 0, 0, s.fleetSec % 2 ^ 32⟩ ∧ t.disp.items = s.disp.items) ∧
  (∀ (s : State), s.disp.traceSec = s.fleetSec + 1 → exec .traceSync s = .next s)

/-- The task board: CREATE, OFFER, CLAIM, START, FINISH, WITHDRAW, FREE, deadlines and the energy of charging tasks.
(R327, R328, R329, R330, R331) -/
def Obligations.TaskBoard : Prop :=
  (∀ (s : State) (tg q i data : Nat) (key : List Nat), s.gated = false → s.isOn .taskboard = true → 0x80 ≤ tg → tg ≤ 0xBF → s.tagBusy tg = false → s.get F.LEASE_STATUS_REBASING = 0 → lowestFree s.tasksLive 4096 0 = some i →
      ∃ t, exec (.taskCreate (.tag .sup tg q key data)) s = .next t ∧ TK.state.get (t.task i) = 1 ∧ TK.kind.get (t.task i) = TK.kind.get data ∧ TK.dock.get (t.task i) = TK.dock.get data ∧ TK.energy.get (t.task i) = 0 ∧
        TK.id.get (t.task i) = TK.id.get (s.task i) ∧ t.ctr ⟨.taskboard, 0⟩ C.TASKBOARD_CREATED = (s.ctr ⟨.taskboard, 0⟩ C.TASKBOARD_CREATED + 1) % 2 ^ 64 ∧ t.out = .compl .sup ⟨tg, 0, Page.wire ⟨.taskboard, 0⟩, i, some (TK.id.get (s.task i))⟩ :: s.out) ∧
  (∀ (s : State) (tg q i d lo hi data : Nat), s.gated = false → s.isOn .taskboard = true → 0x80 ≤ tg → tg ≤ 0xBF → s.tagBusy tg = false → s.get F.LEASE_STATUS_REBASING = 0 → i < 4096 → TK.id.get (s.task i) % 4096 = i → 2 ≤ s.get F.SVC_STATUS_LEVEL → TK.state.get (s.task i) = 1 → d < 2 ^ 16 → lo < 2 ^ 32 → hi < 2 ^ 32 →
      ∃ t, exec (.taskOffer (.tag .sup tg q [TK.id.get (s.task i), d, lo, hi] data)) s = .next t ∧ TK.state.get (t.task i) = 2 ∧ TK.offerTo.get (t.task i) = d ∧ TK.claimBy.get (t.task i) = lo + hi * 2 ^ 32 ∧ (t.out.any fun o => match o with | .compl .sup c => decide (c.tag = tg ∧ c.err = 0) | _ => false) = true) ∧
  (∀ (s : State) (tg q i data : Nat) (key : List Nat), s.gated = false → s.isOn .taskboard = true → 0x80 ≤ tg → tg ≤ 0xBF → s.tagBusy tg = false → s.get F.LEASE_STATUS_REBASING = 0 → i < 4096 → TK.id.get (s.task i) % 4096 = i → s.get F.SVC_STATUS_LEVEL < 2 →
      ∃ t, exec (.taskOffer (.tag .sup tg q (TK.id.get (s.task i) :: key) data)) s = .next t ∧ t.tbl = s.tbl ∧ t.out = .compl .sup ⟨tg, 0x18, Page.wire ⟨.taskboard, 0⟩, i, none⟩ :: s.out) ∧
  (∀ (s : State) (tg q i m data : Nat), s.gated = false → s.isOn .taskboard = true → 0x80 ≤ tg → tg ≤ 0xBF → s.tagBusy tg = false → s.get F.LEASE_STATUS_REBASING = 0 → i < 4096 → TK.id.get (s.task i) % 4096 = i → 2 ≤ s.get F.SVC_STATUS_LEVEL → TK.state.get (s.task i) = 2 → s.offerLapsed i = false → m < 512 →
      bit (TK.offerTo.get (s.task i)) 15 = true ∨ bits (TK.offerTo.get (s.task i)) 0 9 = m → s.dockBusy i = false →
      ∃ t, exec (.taskClaim (.tag .sup tg q [TK.id.get (s.task i), m] data)) s = .next t ∧ TK.state.get (t.task i) = 3 ∧ TK.holder.get (t.task i) = 0x8000 + m ∧ TK.holderGen.get (t.task i) = s.gen m ∧
        t.ctr ⟨.taskboard, 0⟩ C.TASKBOARD_CLAIMS = (s.ctr ⟨.taskboard, 0⟩ C.TASKBOARD_CLAIMS + 1) % 2 ^ 64 ∧ (t.out.any fun o => match o with | .compl .sup c => decide (c.tag = tg ∧ c.err = 0) | _ => false) = true) ∧
  (∀ (s : State) (tg q i m data : Nat), s.gated = false → s.isOn .taskboard = true → 0x80 ≤ tg → tg ≤ 0xBF → s.tagBusy tg = false → s.get F.LEASE_STATUS_REBASING = 0 → i < 4096 → TK.id.get (s.task i) % 4096 = i → 2 ≤ s.get F.SVC_STATUS_LEVEL → TK.state.get (s.task i) = 2 → s.offerLapsed i = false → m < 512 →
      bit (TK.offerTo.get (s.task i)) 15 = false → bits (TK.offerTo.get (s.task i)) 0 9 ≠ m →
      ∃ t, exec (.taskClaim (.tag .sup tg q [TK.id.get (s.task i), m] data)) s = .next t ∧ t.tbl = s.tbl ∧ t.ctr ⟨.taskboard, 0⟩ C.TASKBOARD_CLAIMS_REFUSED = (s.ctr ⟨.taskboard, 0⟩ C.TASKBOARD_CLAIMS_REFUSED + 1) % 2 ^ 64 ∧ t.out = .compl .sup ⟨tg, 0x11, Page.wire ⟨.taskboard, 0⟩, i, none⟩ :: s.out) ∧
  (∀ (s : State) (tg q i data : Nat) (key : List Nat), s.gated = false → s.isOn .taskboard = true → 0x80 ≤ tg → tg ≤ 0xBF → s.tagBusy tg = false → s.get F.LEASE_STATUS_REBASING = 0 → i < 4096 → TK.id.get (s.task i) % 4096 = i → 2 ≤ s.get F.SVC_STATUS_LEVEL → TK.state.get (s.task i) = 3 → s.taskOverdue i = false →
      ∃ t, exec (.taskStart (.tag .sup tg q (TK.id.get (s.task i) :: key) data)) s = .next t ∧ TK.state.get (t.task i) = 4 ∧ TK.energy.get (t.task i) = 0 ∧ TK.holder.get (t.task i) = TK.holder.get (s.task i) ∧
        (TK.kind.get (s.task i) = 1 → t.te ⟨.taskboard, 0⟩ 8 i = s.dockImport (TK.dock.get (s.task i))) ∧ (t.out.any fun o => match o with | .compl .sup c => decide (c.tag = tg ∧ c.err = 0) | _ => false) = true) ∧
  (∀ (s : State) (tg q i w data : Nat), s.gated = false → s.isOn .taskboard = true → 0x80 ≤ tg → tg ≤ 0xBF → s.tagBusy tg = false → s.get F.LEASE_STATUS_REBASING = 0 → i < 4096 → TK.id.get (s.task i) % 4096 = i → TK.state.get (s.task i) = 4 → (2 ≤ s.get F.SVC_STATUS_LEVEL → s.taskOverdue i = false) → w < 2 →
      ∃ t, exec (.taskFinish (.tag .sup tg q [TK.id.get (s.task i), w] data)) s = .next t ∧ TK.state.get (t.task i) = 5 + w ∧ (w = 1 → TK.reason.get (t.task i) = 2) ∧ TK.energy.get (t.task i) = TK.energy.get (s.task i) ∧
        t.ctr ⟨.taskboard, 0⟩ C.TASKBOARD_DONE = (s.ctr ⟨.taskboard, 0⟩ C.TASKBOARD_DONE + (1 - w)) % 2 ^ 64 ∧ t.ctr ⟨.taskboard, 0⟩ C.TASKBOARD_FAILED = (s.ctr ⟨.taskboard, 0⟩ C.TASKBOARD_FAILED + w) % 2 ^ 64 ∧ (t.out.any fun o => match o with | .compl .sup c => decide (c.tag = tg ∧ c.err = 0) | _ => false) = true) ∧
  (∀ (s : State) (tg q i data : Nat) (key : List Nat), s.gated = false → s.isOn .taskboard = true → 0x80 ≤ tg → tg ≤ 0xBF → s.tagBusy tg = false → s.get F.LEASE_STATUS_REBASING = 0 → i < 4096 → TK.id.get (s.task i) % 4096 = i → 1 ≤ TK.state.get (s.task i) → TK.state.get (s.task i) ≤ 4 → s.offerLapsed i = false → s.taskOverdue i = false →
      ∃ t, exec (.taskWithdraw (.tag .sup tg q (TK.id.get (s.task i) :: key) data)) s = .next t ∧ TK.state.get (t.task i) = 7 ∧ TK.reason.get (t.task i) = 2 ∧ (t.out.any fun o => match o with | .compl .sup c => decide (c.tag = tg ∧ c.err = 0) | _ => false) = true) ∧
  (∀ (s : State) (tg q i data : Nat) (key : List Nat), s.gated = false → s.isOn .taskboard = true → 0x80 ≤ tg → tg ≤ 0xBF → s.tagBusy tg = false → s.get F.LEASE_STATUS_REBASING = 0 → i < 4096 → TK.id.get (s.task i) % 4096 = i → 5 ≤ TK.state.get (s.task i) →
      ∃ t, exec (.taskFree (.tag .sup tg q (TK.id.get (s.task i) :: key) data)) s = .next t ∧ TK.state.get (t.task i) = 0 ∧
        TK.gen.get (t.task i) = (if 1048575 ≤ TK.gen.get (s.task i) then 1 else TK.gen.get (s.task i) + 1) ∧ t.out = .compl .sup ⟨tg, 0, Page.wire ⟨.taskboard, 0⟩, i, none⟩ :: s.out) ∧
  (∀ (s : State) (i : Nat), s.isOn .taskboard = true → s.offDuty = false → i < 4096 → 2 ≤ s.get F.SVC_STATUS_LEVEL → s.offerLapsed i = true →
      ∃ t, exec (.taskDeadline i) s = .next t ∧ TK.state.get (t.task i) = 1 ∧ t.ctr ⟨.taskboard, 0⟩ C.TASKBOARD_LAPSED = (s.ctr ⟨.taskboard, 0⟩ C.TASKBOARD_LAPSED + 1) % 2 ^ 64) ∧
  (∀ (s : State) (i : Nat), s.isOn .taskboard = true → s.offDuty = false → i < 4096 → 2 ≤ s.get F.SVC_STATUS_LEVEL → s.taskOverdue i = true →
      ∃ t, exec (.taskDeadline i) s = .next t ∧ TK.state.get (t.task i) = 6 ∧ TK.reason.get (t.task i) = 3 ∧ t.ctr ⟨.taskboard, 0⟩ C.TASKBOARD_FAILED = (s.ctr ⟨.taskboard, 0⟩ C.TASKBOARD_FAILED + 1) % 2 ^ 64) ∧
  (∀ (s : State) (i d : Nat), s.wf = true → s.disp.taskSec ≠ s.fleetSec + 1 → s.offDuty = false → s.isOn .taskboard = true → i ∈ s.tasksLive → s.taskSt i = 4 → TK.kind.get (s.task i) = 1 → d = TK.dock.get (s.task i) → s.dockInvalid d = false →
      ∃ t, exec .chargeEnergyTick s = .next t ∧ TK.energy.get (t.task i) = min ((s.dockImport d + 2 ^ 64 - s.te ⟨.taskboard, 0⟩ 8 i) % 2 ^ 64 / 1000) 0xFFFFFFFF ∧ TK.state.get (t.task i) = 4 ∧ t.disp.taskSec = s.fleetSec + 1) ∧
  (∀ (s : State) (i d : Nat), s.wf = true → s.disp.taskSec ≠ s.fleetSec + 1 → s.offDuty = false → s.isOn .taskboard = true → i ∈ s.tasksLive → s.taskSt i = 4 → TK.kind.get (s.task i) = 1 → d = TK.dock.get (s.task i) → s.dockInvalid d = true →
      TK.invalid.get (s.task i) = 0 →
      ∃ t, exec .chargeEnergyTick s = .next t ∧ TK.invalid.get (t.task i) = 1 ∧ TK.energy.get (t.task i) = TK.energy.get (s.task i) ∧ t.irqUp ⟨.taskboard, 0⟩ I.TASKBOARD_METER_INVALID = true)

/-- A region's arbiter: requests, the end of a grant, withdrawal, quota windows, FREEZE and its time-out, and
LONGEST_WAIT. (R333, R334, R335, R336, R337, R338, R339) -/
def Obligations.RegionArbiter : Prop :=
  (∀ (s : State) (region r beats : Nat) (write : Bool), region < 8 → region < s.arb.length → isRequester region r = true → 1 ≤ beats → beats ≤ 256 → (s.arbOf region).grant = none → (s.arbOf region).parked = [] → (s.arbOf region).stalled = [] →
      (s.arbOf region).decideAt = none → s.get F.ARB_CTRL_FREEZE region = 0 → r < 32 → (s.arbOf region).last.length = 3 →
      ∃ t, exec (.arbRequest region r beats write none) s = .next t ∧ ((t.arbOf region).grant.any fun g => decide (g.req.who = r ∧ g.req.beats = beats ∧ g.req.at_ = s.now ∧ g.len = min beats (s.get F.ARB_REQ_BURST region r))) = true ∧
        t.get F.ARB_STATUS_ACTIVE region = 1 ∧ t.get F.ARB_STATUS_OWNER region = r ∧ (t.arbOf region).parked = []) ∧
  (∀ (s : State) (region r beats : Nat) (write : Bool) (g : ArbGrant), region < 8 → region < s.arb.length → isRequester region r = true → 1 ≤ beats → beats ≤ 256 → (s.arbOf region).grant = some g → (s.arbOf region).decideAt = none →
      ((s.arbOf region).parked.filter fun q => q.who = r).length < 4 →
      ∃ t, exec (.arbRequest region r beats write none) s = .next t ∧ (t.arbOf region).grant = some g ∧ (t.arbOf region).parked = (s.arbOf region).parked ++ [⟨r, beats, s.now⟩]) ∧
  (∀ (s : State) (region r beats : Nat) (write : Bool), region < 8 → region < s.arb.length → isRequester region r = true → 1 ≤ beats → beats ≤ 256 → (s.arbOf region).decideAt = none →
      4 ≤ ((s.arbOf region).parked.filter fun q => q.who = r).length → ((s.arbOf region).stalled.any fun q => decide (q.who = r)) = false →
      ∃ t, exec (.arbRequest region r beats write none) s = .next t ∧ (t.arbOf region).stalled = (s.arbOf region).stalled ++ [⟨r, beats, s.now⟩] ∧ t.ctr ⟨.regionCtl, region⟩ C.REGION_CTL_PEND_FULL = (s.ctr ⟨.regionCtl, region⟩ C.REGION_CTL_PEND_FULL + 1) % 2 ^ 64) ∧
  (∀ (s : State) (region r beats : Nat) (p : Page), region < 8 → isRequester region r = true → 1 ≤ beats → beats ≤ 256 → s.st p ≠ stOn →
      ∃ t, exec (.arbRequest region r beats false (some p)) s = .next t ∧ t.out = .arbRead region r 0xFFFFFFFF :: s.out ∧ t.arb = s.arb ∧ t.ctr ⟨.regionCtl, region⟩ C.REGION_CTL_BRIDGE_ISO = (s.ctr ⟨.regionCtl, region⟩ C.REGION_CTL_BRIDGE_ISO + 1) % 2 ^ 64) ∧
  (∀ (s : State) (region : Nat) (g : ArbGrant), region < 8 → region < s.arb.length → (s.arbOf region).grant = some g → (s.arbOf region).decideAt = none → g.req.beats ≤ g.len → (s.arbOf region).parked = [] →
      ∃ t, exec (.arbGrantEnd region) s = .next t ∧ (t.arbOf region).grant = none ∧ (t.arbOf region).parked = [] ∧ t.get F.ARB_STATUS_ACTIVE region = 0) ∧
  (∀ (s : State) (region : Nat) (g : ArbGrant), region < 8 → region < s.arb.length → (s.arbOf region).grant = some g → (s.arbOf region).decideAt = none →
      ∃ t, exec (.arbWithdraw region g.req.who none) s = .next t ∧ (t.arbOf region).grant = none ∧ (t.arbOf region).decideAt = some (s.now + 2 * cyclePs) ∧ t.get F.ARB_STATUS_ACTIVE region = 0 ∧
        t.ctr ⟨.regionCtl, region⟩ C.REGION_CTL_DEAD_CYCLES = (s.ctr ⟨.regionCtl, region⟩ C.REGION_CTL_DEAD_CYCLES + 1) % 2 ^ 64) ∧
  (∀ (s : State) (region r k : Nat), region < 8 → region < s.arb.length → (s.arbOf region).decideAt = none → k < ((s.arbOf region).parked.filter fun q => q.who = r).length → (s.arbOf region).stalled = [] →
      ∃ t, exec (.arbWithdraw region r (some k)) s = .next t ∧ (t.arbOf region).parked.length + 1 = (s.arbOf region).parked.length ∧ (t.arbOf region).grant = (s.arbOf region).grant ∧
        (t.arbOf region).parked.filter (fun q => q.who ≠ r) = (s.arbOf region).parked.filter (fun q => q.who ≠ r)) ∧
  (∀ (s : State) (region : Nat), region < 8 → region < s.arb.length → (s.arbOf region).decideAt = none → (s.arbOf region).winAt + max 1 (s.get F.ARB_CFG_QUOTA_WIN region) * cyclePs ≤ s.now →
      ∃ t, exec (.quotaWindow region) s = .next t ∧ (t.arbOf region).used = [] ∧ (t.arbOf region).grant = (s.arbOf region).grant ∧ s.now < (t.arbOf region).winAt + max 1 (s.get F.ARB_CFG_QUOTA_WIN region) * cyclePs) ∧
  (∀ (s : State) (region : Nat) (src : Src), region < 8 → region < s.arb.length → s.jtagBars src ⟨.regionCtl, region⟩ true = false → s.get F.ARB_CTRL_FREEZE region = 0 →
      ∃ t, exec (.freezeWrite region src true) s = .next t ∧ t.get F.ARB_CTRL_FREEZE region = 1 ∧ t.get F.ARB_CTRL_FREEZE_HOST region = b2n (decide (src.slot = .host)) ∧ (t.arbOf region).freezeAt = some s.now) ∧
  (∀ (s : State) (region : Nat) (src : Src), region < 8 → region < s.arb.length → s.jtagBars src ⟨.regionCtl, region⟩ true = false → s.get F.ARB_CTRL_FREEZE region = 1 →
      ∃ t, exec (.freezeWrite region src false) s = .next t ∧ t.get F.ARB_CTRL_FREEZE region = 0 ∧ t.get F.ARB_CTRL_FREEZE_HOST region = 0 ∧ (t.arbOf region).freezeAt = none) ∧
  (∀ (s : State) (region a : Nat), region < 8 → region < s.arb.length → (s.arbOf region).freezeAt = some a → a + ms (s.get F.ARB_CFG_FREEZE_MAX region) ≤ s.now →
      ∃ t, exec (.freezeTimeout region) s = .next t ∧ t.get F.ARB_CTRL_FREEZE region = 0 ∧ (t.arbOf region).freezeAt = none ∧ t.ctr ⟨.regionCtl, region⟩ C.REGION_CTL_FREEZE_TIMEOUTS = (s.ctr ⟨.regionCtl, region⟩ C.REGION_CTL_FREEZE_TIMEOUTS + 1) % 2 ^ 64) ∧
  (∀ (s : State) (region r : Nat), region < 8 → region < s.arb.length → r < 32 →
      ∃ t, exec (.lwClr region r) s = .next t ∧ (t.arbOf region).restart.contains r = true ∧ (t.arbOf region).parked = (s.arbOf region).parked ∧ (t.arbOf region).grant = (s.arbOf region).grant)

/-- The PCI Express link, MSI-X vectors and the host generation. (R55, R256, R257, R346, R355) -/
def Obligations.PciExpressAndVectors : Prop :=
  (∀ (s : State) (speed width : Nat) (bme : Bool), s.isOn .pcie = true → 1 ≤ speed → speed ≤ 3 → width = 1 ∨ width = 2 ∨ width = 4 →
      ∃ t, exec (.pcieLinkUp speed width bme) s = .next t ∧ t.get F.PCIE_STATUS_LINK_UP = 1 ∧ t.get F.PCIE_STATUS_SPEED = speed ∧
        t.get F.PCIE_STATUS_WIDTH = width ∧ t.get F.PCIE_STATUS_BME = b2n bme) ∧
  (∀ (s : State) (v : Nat), ∃ t, exec (.msixVectorUnmask v) s = .next t ∧ v ∉ t.vecMask ∧ (∀ w, w ≠ v → (w ∈ t.vecMask ↔ w ∈ s.vecMask)) ∧ t.regs = s.regs) ∧
  (∀ (s : State) (v : Nat), v < 64 → s.vecAsserts v = true → v ∉ s.vecSent → s.isOn .irq = true → s.get F.PCIE_STATUS_LINK_UP = 1 →
      s.get F.PCIE_STATUS_BME = 1 →
      ∃ t, exec (.msixVectorUnmask v) s = .next t ∧ t.out = .msix v :: s.out ∧ v ∈ t.vecSent) ∧
  (∀ (s : State) (v : Nat), s.isOn .irq = true → s.vecAsserts v = false →
      ∃ t, exec (.vecAck v) s = .next t ∧ t.vecSent = s.vecSent.filter (· ≠ v) ∧ t.out = s.out ∧ t.regs = s.regs) ∧
  (∀ (s : State) (v : Nat), s.isOn .irq = true → s.vecAsserts v = true → v ∉ s.vecMask → s.get F.PCIE_STATUS_LINK_UP = 1 → s.get F.PCIE_STATUS_BME = 1 →
      ∃ t, exec (.vecAck v) s = .next t ∧ t.out = .msix v :: s.out ∧ v ∈ t.vecSent ∧
        t.ctr ⟨.pcie, 0⟩ C.PCIE_MSIX_SENT = (s.ctr ⟨.pcie, 0⟩ C.PCIE_MSIX_SENT + 1) % 2 ^ 64) ∧
  (∀ (s : State) (perst : Bool), s.powered = true → s.isOn .pcie = true → s.get F.PCIE_STATUS_LINK_UP = 1 →
      ∃ t, exec (.pcieLinkDown perst) s = .next t ∧ t.get F.PCIE_STATUS_LINK_UP = 0 ∧ t.get F.PCIE_STATUS_BME = 0 ∧ t.vecMask = List.range 64 ∧
        t.ctr ⟨.pcie, 0⟩ C.PCIE_LINK_DOWNS = (s.ctr ⟨.pcie, 0⟩ C.PCIE_LINK_DOWNS + 1) % 2 ^ 64 ∧
        t.gen 576 = (if 65535 ≤ s.gen 576 then 1 else s.gen 576 + 1)) ∧
  (∀ (s : State), s.powered = true → s.isOn .pcie = true → s.get F.PCIE_STATUS_LINK_UP = 1 →
      ∃ t, exec .pcieFlr s = .next t ∧ t.get F.PCIE_STATUS_BME = 0 ∧ t.get F.PCIE_STATUS_LINK_UP = 1 ∧ t.vecMask = List.range 64 ∧
        t.ctr ⟨.pcie, 0⟩ C.PCIE_FLRS = (s.ctr ⟨.pcie, 0⟩ C.PCIE_FLRS + 1) % 2 ^ 64 ∧
        t.gen 576 = (if 65535 ≤ s.gen 576 then 1 else s.gen 576 + 1)) ∧
  (∀ (s : State), s.powered = true →
      ∃ t, exec .hostGenBump s = .next t ∧ t.gen 576 = (if 65535 ≤ s.gen 576 then 1 else s.gen 576 + 1) ∧
        t.get F.FLUME_STATUS_SESSION = t.gen 576 ∧ t.get F.HOST_GEN_GEN = t.gen 576 ∧
        t.ctr ⟨.turnout, 0⟩ C.TURNOUT_FORFEITS = (s.ctr ⟨.turnout, 0⟩ C.TURNOUT_FORFEITS + 1) % 2 ^ 64) ∧
  (∀ (s : State) (i : Nat), i < 578 → s.powered = true → s.oldLeft i = true →
      ∃ t, exec (.ownerForfeit i) s = .next t ∧ (∀ q ∈ t.ls.seqs, q.owner = i → q.gen = s.gen i) ∧ t.gen i = s.gen i)

/-- Flume frames, credits, resending, stalls and completion records. (R50, R347, R349, R351, R354, R355, R356, R357,
R358) -/
def Obligations.FlumeQueues : Prop :=
  (∀ (s : State) (port queue seq : Nat) (f : EthFrame) (i : ImgSeen), port < 2 → s.powered = true → s.boot.waiting = false → s.isOn .eth port = true →
      s.isOn .flume = true → s.linkFrozen = false → (s.ethSt port).buf = [] → f.fcsOk = true → f.da = 0xFFFFFFFFFFFF ∨ f.da = s.macOf port → s.get F.ETH_CFG_VLAN_EN port = 0 →
      f.etype = s.get F.FLUME_CFG_ETHERTYPE → s.funnelled = false → queue < 64 → (s.q queue).toChip = true → (s.q queue).en = true →
      seq = ((s.q queue).ackSeq + 1) % 2 ^ 32 → 1 ≤ s.grantWindow (s.q queue) → s.number < 64 →
      f.body = [1, 0, queue, s.number] ++ toBytes 4 seq ++ toBytes 2 (s.get F.FLUME_STATUS_SESSION) ++ [0, 0, 0, 0, 0, 0] →
      ∃ t, exec (.flumeFrameRx port f i) s = .next t ∧ (t.q queue).ackSeq = seq ∧ (t.q queue).txSeq = seq ∧ t.get F.FLUME_STATUS_HOST_SEEN = 1 ∧
        t.ctr ⟨.flume, 0⟩ C.FLUME_FRAMES_RX = (s.ctr ⟨.flume, 0⟩ C.FLUME_FRAMES_RX + 1) % 2 ^ 64) ∧
  (∀ (s : State) (port session : Nat) (l : List Credit), port < 2 → s.isOn .eth port = true → s.isOn .flume = true → s.funnelled = false →
      session = s.get F.FLUME_STATUS_SESSION →
      ∃ t, exec (.creditRx port session l) s = .next t ∧ t.get F.FLUME_STATUS_HOST_SEEN = 1 ∧ t.lk.seenAt = s.now) ∧
  (∀ (s : State) (port session : Nat) (l : List Credit), port < 2 → s.isOn .eth port = true → s.isOn .flume = true → s.funnelled = false →
      session ≠ s.get F.FLUME_STATUS_SESSION →
      ∃ t, exec (.creditRx port session l) s = .next t ∧ t.fq = s.fq ∧
        t.ctr ⟨.flume, 0⟩ C.FLUME_STALE_SESSION = (s.ctr ⟨.flume, 0⟩ C.FLUME_STALE_SESSION + 1) % 2 ^ 64) ∧
  (∀ (s : State) (queue : Nat), queue < 64 → (s.q queue).opened ≠ [] → (s.q queue).openedAt + us (s.get F.FLUSH_US) ≤ s.now → (s.q queue).ring = [] →
      (s.q queue).closed = false → (s.q queue).ovw = false → s.qMay (s.q queue) = true →
      ((s.q queue).txSeq + 1 + 2 ^ 32 - (s.q queue).ackSeq) % 2 ^ 32 ≤ (s.q queue).window → (s.q queue).txSeq < 2 ^ 32 - 1 → (s.q queue).ackSeq < 2 ^ 32 →
      ∃ t, exec (.flumeFlush queue) s = .next t ∧ (t.q queue).opened = [] ∧ (t.q queue).txSeq = (s.q queue).txSeq + 1 ∧
        (t.q queue).unacked = (s.q queue).unacked ++ [⟨queue, s.number, (s.q queue).txSeq + 1, s.get F.FLUME_STATUS_SESSION, (s.q queue).opened, (s.q queue).prio⟩]) ∧
  (∀ (s : State) (queue : Nat), queue < 64 → (s.q queue).unacked ≠ [] → (s.q queue).ackAt + us (s.get F.RETX_TIMEOUT) ≤ s.now → s.qMay (s.q queue) = true →
      ∃ t, exec (.flumeRetxTimeout queue) s = .next t ∧ (t.q queue).unacked = (s.q queue).unacked ∧ (t.q queue).ackAt = s.now ∧
        (t.q queue).retx = satAdd (s.q queue).retx (s.q queue).unacked.length 0xFFFFFFFF) ∧
  (∀ (s : State), s.isOn .flume = true → s.lk.creditAt + ms 10 ≤ s.now →
      ∃ t, exec .creditSend s = .next t ∧ t.lk.creditAt = s.now ∧ t.lk.creditDue = none) ∧
  (∀ (s : State), s.get F.FLUME_STATUS_HOST_SEEN = 1 → s.lk.seenAt + ms (s.get F.HOST_TIMEOUT) ≤ s.now →
      ∃ t, exec .hostTimeout s = .next t ∧ t.get F.FLUME_STATUS_HOST_SEEN = 0 ∧ t.irqUp ⟨.flume, 0⟩ I.FLUME_HOST_LOST = true ∧ t.fq = s.fq) ∧
  (∀ (s : State) (queue at_ : Nat), (s.q queue).stalledAt = some at_ → (s.q queue).toChip = false → (s.q queue).window = 0 → 0 < (s.q queue).fill →
      at_ + ms 10 ≤ s.now →
      ∃ t, exec (.flumeStall queue) s = .next t ∧ bit (t.q queue).qev 1 = true ∧ (t.q queue).fill = (s.q queue).fill) ∧
  (∀ (s : State) (queue : Nat), s.isOn .flume = true →
      ∃ t, exec (.qevClr queue) s = .next t ∧ (t.q queue).qev = 0 ∧ (∀ n, n ≠ queue → t.q n = s.q n) ∧ t.regs = s.regs) ∧
  (∀ (s : State) (queue : Nat) (c : Compl), s.tags = [(queue, c)] → s.lk.reads = [] → s.qRoom (queue + 8) (if c.data.isSome then 72 else 8) = true →
      ∃ t, exec .tagCompletion s = .next t ∧ t.tags = [])

/-- Ethernet ports: link changes, priority flow control, and frames that are neither Flume nor PTP events. (R20, R357,
R362, R363, R364, R374) -/
def Obligations.EthernetPorts : Prop :=
  (∀ (s : State) (port : Nat) (anDone : Bool), port < 2 → s.isOn .eth port = true → s.get F.ROOT_STATUS_AUX_OK = 1 → s.get F.ETH_STATUS_LINK port = 0 →
      ∃ t, exec (.ethLinkChange port true anDone) s = .next t ∧ t.get F.ETH_STATUS_LINK port = 1 ∧ t.get F.ETH_STATUS_AN_DONE port = b2n anDone ∧
        t.irqUp ⟨.eth, port⟩ I.ETH_LINK_CHG = true) ∧
  (∀ (s : State) (port : Nat) (anDone : Bool), port < 2 → s.get F.ETH_STATUS_LINK port = 1 →
      ∃ t, exec (.ethLinkChange port false anDone) s = .next t ∧ t.get F.ETH_STATUS_LINK port = 0 ∧ t.get F.ETH_STATUS_PAUSED_RX port = 0 ∧
        t.ctr ⟨.eth, port⟩ C.ETH_LINK_DOWNS = (s.ctr ⟨.eth, port⟩ C.ETH_LINK_DOWNS + 1) % 2 ^ 64 ∧ t.irqUp ⟨.eth, port⟩ I.ETH_LINK_CHG = true) ∧
  (∀ (s : State) (port mask : Nat) (quanta : List Nat), port < 2 → s.isOn .eth port = true → s.get F.ETH_CFG_PFC_EN port = 1 →
      ∃ t, exec (.pfcRx port mask quanta) s = .next t ∧
        (∀ p ∈ List.range 8, bit (t.get F.ETH_STATUS_PAUSED_RX port) p = if bit mask p then decide (nth 0 quanta p % 2 ^ 16 ≠ 0) else bit (s.get F.ETH_STATUS_PAUSED_RX port) p) ∧
        t.ctr ⟨.eth, port⟩ C.ETH_PFC_RX = (s.ctr ⟨.eth, port⟩ C.ETH_PFC_RX + 1) % 2 ^ 64) ∧
  (∀ (s : State) (port prio : Nat), port < 2 → prio < 8 → nth 0 (s.ethSt port).pauseEnd prio ≤ s.now →
      ∃ t, exec (.pfcPauseExpiry port prio) s = .next t ∧ bit (t.get F.ETH_STATUS_PAUSED_RX port) prio = false ∧
        (∀ p ∈ List.range 8, p ≠ prio → bit (t.get F.ETH_STATUS_PAUSED_RX port) p = bit (s.get F.ETH_STATUS_PAUSED_RX port) p)) ∧
  (∀ (s : State) (port : Nat), port < 2 → s.isOn .eth port = true → s.linkFrozen = true → s.get F.ETH_CFG_PFC_EN port = 1 →
      s.get F.PFC_XOFF port * 1024 < (s.ethSt port).fill → (s.ethSt port).xoffAt + us 250 ≤ s.now →
      ∃ t, exec (.pfcXoffRepeat port) s = .next t ∧ t.out = .pfc port (s.ethSt port).prios 0xFFFF :: s.out ∧ (t.ethSt port).xoffAt = s.now ∧
        t.ctr ⟨.eth, port⟩ C.ETH_PFC_TX = (s.ctr ⟨.eth, port⟩ C.ETH_PFC_TX + 1) % 2 ^ 64) ∧
  (∀ (s : State) (port : Nat) (f : EthFrame), port < 2 → s.isOn .eth port = true → f.fcsOk = true → f.da = 0xFFFFFFFFFFFF ∨ f.da = s.macOf port →
      s.get F.ETH_CFG_VLAN_EN port = 0 → ptpFrame f.bytes 320 = false →
      ∃ t, exec (.ethOtherFrameRx port f false) s = .next t ∧ t.out = s.out ∧
        t.ctr ⟨.eth, port⟩ C.ETH_RX_DISCARD = (s.ctr ⟨.eth, port⟩ C.ETH_RX_DISCARD + 1) % 2 ^ 64) ∧
  (∀ (s : State) (port : Nat) (f : EthFrame), port < 2 → s.isOn .eth port = true → f.fcsOk = true → f.da = 0xFFFFFFFFFFFF ∨ f.da = s.macOf port →
      s.get F.ETH_CFG_VLAN_EN port = 0 → ptpFrame f.bytes 320 = false →
      ∃ t, exec (.ethOtherFrameRx port f true) s = .next t ∧ t.out = .supFrame port none f :: s.out)

/-- The Canal link: flits, training, link failure, replay, and messages received, forwarded and delivered. (R367, R368,
R369, R371, R372, R381) -/
def Obligations.CanalLink : Prop :=
  (∀ (s : State) (port ackSeq crClass crTotal : Nat) (seq : Option Nat) (b : Option CanalBody), port < 2 → s.isOn .canal port = true →
      ∃ t, exec (.canalFlitRx port false seq ackSeq crClass crTotal b) s = .next t ∧ (t.cport port).discarding = true ∧ t.ctr ⟨.canal, port⟩ C.CANAL_CRC_ERR = (s.ctr ⟨.canal, port⟩ C.CANAL_CRC_ERR + 1) % 2 ^ 64 ∧ t.ctr ⟨.canal, port⟩ C.CANAL_FLITS_RX = (s.ctr ⟨.canal, port⟩ C.CANAL_FLITS_RX + 1) % 2 ^ 64 ∧ (t.cport port).rxSeq = (s.cport port).rxSeq) ∧
  (∀ (s : State) (port q ackSeq crClass crTotal : Nat), port < 2 → s.isOn .canal port = true → s.canalUp port = true → q < 4096 → q = ((s.cport port).rxSeq + 1) % 4096 → (s.cport port).replay = [] → (s.cport port).txq = [] →
      ∃ t, exec (.canalFlitRx port true (some q) ackSeq crClass crTotal none) s = .next t ∧ (t.cport port).rxSeq = q ∧ (t.cport port).discarding = false ∧ (t.cport port).goodAt = s.now ∧ t.ctr ⟨.canal, port⟩ C.CANAL_FLITS_RX = (s.ctr ⟨.canal, port⟩ C.CANAL_FLITS_RX + 1) % 2 ^ 64 ∧ t.out = s.out) ∧
  (∀ (s : State) (port ackSeq crClass crTotal : Nat) (h : Hello), port < 2 → s.isOn .canal port = true → s.canalUp port = true → h.number < 64 →
      ∃ t, exec (.canalFlitRx port true none ackSeq crClass crTotal (some (.hello h))) s = .next t ∧ t.get F.CPORT_STATUS_NEIGHBOUR port = h.number ∧ t.get F.CPORT_STATUS_NB_NUMBERED port = b2n h.numbered) ∧
  (∀ (s : State) (port : Nat) (h : Hello) (laneSwap : Bool), port < 2 → s.get F.CPORT_STATUS_STATE port = 1 → s.now ≤ (s.cport port).trainAt + ms 2 → s.isOn .canal port = true → h.site = s.canal.site → h.number < 64 → h.role < 2 →
      ∃ t, exec (.canalTrained port h laneSwap) s = .next t ∧ t.get F.CPORT_STATUS_STATE port = 2 ∧ t.get F.CPORT_STATUS_NEIGHBOUR port = h.number ∧ t.get F.CPORT_STATUS_NB_UNIT port = h.role ∧
        t.get F.CPORT_STATUS_NB_NUMBERED port = b2n h.numbered ∧ t.get F.CPORT_STATUS_LANE_SWAP port = b2n laneSwap ∧ t.irqUp ⟨.canal, port⟩ I.CANAL_PORT_CHG = true) ∧
  (∀ (s : State) (port : Nat) (h : Hello) (laneSwap : Bool), port < 2 → s.get F.CPORT_STATUS_STATE port = 1 → s.now ≤ (s.cport port).trainAt + ms 2 → s.isOn .canal port = true → h.site ≠ s.canal.site →
      ∃ t, exec (.canalTrained port h laneSwap) s = .next t ∧ t.get F.CPORT_STATUS_STATE port = 3 ∧ t.ctr ⟨.canal, port⟩ C.CANAL_SITE_REFUSED = (s.ctr ⟨.canal, port⟩ C.CANAL_SITE_REFUSED + 1) % 2 ^ 64 ∧ t.irqUp ⟨.canal, port⟩ I.CANAL_PORT_CHG = true ∧ t.out = s.out) ∧
  (∀ (s : State) (port : Nat), port < 2 → s.get F.CPORT_STATUS_STATE port = 1 → (s.cport port).trainAt + ms 2 ≤ s.now →
      ∃ t, exec (.canalTrainTimeout port) s = .next t ∧ t.get F.CPORT_STATUS_STATE port = 1 ∧ (t.cport port).trainAt = s.now ∧ t.ctr ⟨.canal, port⟩ C.CANAL_TRAIN_FAIL = (s.ctr ⟨.canal, port⟩ C.CANAL_TRAIN_FAIL + 1) % 2 ^ 64 ∧ (t.out.any fun o => match o with | .canal c y _ => decide (c = port ∧ y.body = .hello s.helloOf) | _ => false) = true) ∧
  (∀ (s : State) (port : Nat) (lockLost : Bool), port < 2 → s.canalUp port = true → lockLost = true ∨ (s.cport port).goodAt + us 4 ≤ s.now ∨ 8 ≤ (s.cport port).replaysRow →
      ∃ t, exec (.canalLinkFail port lockLost) s = .next t ∧ t.get F.CPORT_STATUS_STATE port = 1 ∧ t.get F.CPORT_STATUS_DELAY_VALID port = 0 ∧ t.ctr ⟨.canal, port⟩ C.CANAL_LINK_DOWNS = (s.ctr ⟨.canal, port⟩ C.CANAL_LINK_DOWNS + 1) % 2 ^ 64 ∧ t.irqUp ⟨.canal, port⟩ I.CANAL_PORT_CHG = true ∧
        t.canal.down.contains (s.linkOf port) = true) ∧
  (∀ (s : State) (port q : Nat) (m : CanalMsg), port < 2 → s.canalUp port = true → (s.cport port).replay = [(q, m)] → (s.cport port).ackAt + us 1 ≤ s.now →
      ∃ t, exec (.canalReplayTimeout port) s = .next t ∧ (t.out.any fun o => match o with | .canal c y _ => decide (c = port ∧ y.body = m.body) | _ => false) = true ∧ (t.cport port).replay = [(q, m)] ∧ (t.cport port).replaysRow = (s.cport port).replaysRow + 1 ∧ (t.cport port).ackAt = s.now ∧
        t.ctr ⟨.canal, port⟩ C.CANAL_REPLAYS = (s.ctr ⟨.canal, port⟩ C.CANAL_REPLAYS + 1) % 2 ^ 64) ∧
  (∀ (s : State) (port : Nat) (m : CanalMsg) (x : WrExt), port < 2 → s.canalUp port = true → s.isOn .canal port = true → s.get F.RING_STATUS_CONFLICT = 0 → m.body.cls ∈ [2, 3, 5, 6] →
      (s.canalHeard m.src m.srcUnit m.body.cls m.mseq).1 = true →
      ∃ t, exec (.canalMessageRx port m x) s = .next t ∧ t.ctr ⟨.canal, 0⟩ C.CANAL_DUP_DROP = (s.ctr ⟨.canal, 0⟩ C.CANAL_DUP_DROP + 1) % 2 ^ 64 ∧ t.out = s.out ∧ t.canal.seen = s.canal.seen) ∧
  (∀ (s : State) (port z : Nat) (m : CanalMsg) (x : WrExt), port < 2 → s.canalUp port = true → s.isOn .canal port = true → m.dest = some z → m.body.cls ∈ [2, 3, 5, 6] →
      (s.canalHeard m.src m.srcUnit m.body.cls m.mseq).1 = false → z ≠ s.number → s.canal.down = [] → m.flits ≤ 256 → s.canalUp (1 - port) = true → (s.cport (1 - port)).txq = [] → (s.cport (1 - port)).replay = [] → s.get F.RING_STATUS_CONFLICT = 0 →
      canalBuffer m.body.cls ≤ nth 0 (s.cport (1 - port)).credits m.body.cls →
      ∃ t, exec (.canalMessageRx port m x) s = .next t ∧ (t.out.any fun o => match o with | .canal c y _ => decide (c = 1 - port ∧ y.body = m.body) | _ => false) = true ∧ (t.cport (1 - port)).replay.map (·.2) = [{ m with hops := m.hops + 1 }]) ∧
  (∀ (s : State) (port z v id mseq unit : Nat) (x : WrExt) (a : TunAccess), port < 2 → s.canalUp port = true → s.isOn .canal port = true → s.get F.RING_STATUS_CONFLICT = 0 → s.get F.RING_STATUS_NUMBERED = 1 → s.pair.paired = false →
      (s.canalHeard z unit 5 mseq).1 = false → s.canal.tun = [a] → a.id = id → a.zone = z → a.write = false → s.canal.tunWait = [] →
      ∃ t, exec (.canalMessageRx port ⟨some s.number, 0, z, unit, mseq, 0, false, .regAns false v id⟩ x) s = .next t ∧ t.out = .readData (.bar2 z) v :: s.out ∧ t.canal.tun = [])

/-- The Canal ring: numbering, ring notices, ISLAND, link delay, TIME messages and tunnelled accesses. (R373, R374,
R375, R376, R377, R378, R379, R380, R381) -/
def Obligations.CanalRing : Prop :=
  (∀ (s : State) (count : Nat) (own : Bool), s.canalUp 1 = true → s.get F.RING_STATUS_CONFLICT = 0 → s.get F.RING_STATUS_HEAD = 0 → s.partnerOn 1 = false → s.get F.RING_STATUS_NUMBERED = 0 → s.get F.RING_CFG_EXPECT_ZONE = 0x7F → count < 64 → s.canalUp 0 = true → (s.cport (0)).txq = [] → canalBuffer 7 ≤ nth 0 (s.cport (0)).credits 7 →
      ∃ t, exec (.enumRx 1 count own) s = .next t ∧ t.number = count ∧ t.get F.RING_STATUS_NUMBERED = 1 ∧ (t.out.any fun o => match o with | .canal c y _ => decide (c = 0 ∧ y.body = .enum (count + 1)) | _ => false) = true) ∧
  (∀ (s : State) (count : Nat) (own : Bool), s.canalUp 1 = true → s.get F.RING_STATUS_CONFLICT = 0 → s.get F.RING_STATUS_HEAD = 0 → s.partnerOn 1 = false → s.get F.RING_STATUS_NUMBERED = 1 → s.number ≠ count → count < 64 →
      ∃ t, exec (.enumRx 1 count own) s = .next t ∧ t.number = s.number ∧ t.ctr ⟨.canal, 0⟩ C.CANAL_RING_MISMATCH = (s.ctr ⟨.canal, 0⟩ C.CANAL_RING_MISMATCH + 1) % 2 ^ 64 ∧ t.irqUp ⟨.canal, 0⟩ I.CANAL_RING_MISMATCH = true) ∧
  (∀ (s : State) (count : Nat), s.canalUp 1 = true → s.get F.RING_STATUS_CONFLICT = 0 → s.isHead = true → s.get F.RING_CFG_RING_SIZE = 0 ∨ s.get F.RING_CFG_RING_SIZE = count →
      ∃ t, exec (.enumRx 1 count true) s = .next t ∧ t.canal.closed = true ∧ t.canal.enumAt = none ∧ t.get F.RING_STATUS_POSITIONS = min 64 count ∧ t.ctrs = s.ctrs) ∧
  (∀ (s : State) (a : Nat), s.canal.enumAt = some a → a + ms 10 ≤ s.now → s.isHead = true → s.get F.RING_CFG_RING_SIZE ≠ 0 → s.canalUp 1 = true → (s.cport (1)).txq = [] → canalBuffer 7 ≤ nth 0 (s.cport (1)).credits 7 →
      ∃ t, exec .enumTimeout s = .next t ∧ (t.out.any fun o => match o with | .canal c y _ => decide (c = 1 ∧ y.body = .enum (s.get F.RING_CFG_RING_SIZE - 1)) | _ => false) = true ∧ t.canal.enumAt = none) ∧
  (∀ (s : State) (port link : Nat), port < 2 → s.canalUp port = true → s.canal.down.contains link = false →
      ∃ t, exec (.ringNoticeRx port link false) s = .next t ∧ t.canal.down.contains link = true ∧ t.irqUp ⟨.canal, port⟩ I.CANAL_BREAK = true) ∧
  (∀ (s : State) (port link : Nat), port < 2 → s.canalUp port = true →
      ∃ t, exec (.ringNoticeRx port link true) s = .next t ∧ t.canal.down = s.canal.down.filter (fun l => l ≠ link)) ∧
  (∀ (s : State) (a : Nat), s.get F.RING_STATUS_ISLAND = 0 → (s.canal.bothDownAt = some a ∨ s.canal.unreachAt = some a) → a + ms (s.get F.ISLAND_TIME) ≤ s.now → s.isOn .canal 0 = true ∨ s.isOn .canal 1 = true →
      ∃ t, exec .island s = .next t ∧ t.get F.RING_STATUS_ISLAND = 1 ∧ t.ctr ⟨.canal, 0⟩ C.CANAL_ISLANDS = (s.ctr ⟨.canal, 0⟩ C.CANAL_ISLANDS + 1) % 2 ^ 64 ∧ t.irqUp ⟨.canal, 0⟩ I.CANAL_ISLAND = true ∧
        (s.get F.RING_CFG_ISLAND_CLASS ≠ 0 → s.get F.HG_CFG_SITE_RX = 1 → s.sup.vddGate = true → s.mayRaise rsREMOTE = true → bit (t.get F.CAUSES_HELD) 5 = true)) ∧
  (∀ (s : State) (port : Nat), port < 2 → (s.cport port).reqAt + ms 10 ≤ s.now → s.canalUp port = true → (s.cport (port)).txq = [] → canalBuffer 7 ≤ nth 0 (s.cport (port)).credits 7 →
      ∃ t, exec (.delayReq port) s = .next t ∧ (t.out.any fun o => match o with | .canal c y _ => decide (c = port ∧ y.body = .delayReq s.ft) | _ => false) = true ∧ (t.cport port).reqAt = s.now) ∧
  (∀ (s : State) (port t1 t2 t3 : Nat) (l : List Nat), port < 2 → s.canalUp port = true → 7 ≤ (s.cport port).nDelays → l = lastN 8 ((s.cport port).delays ++ [((((s.ft : Int) - t1) - ((t3 : Int) - t2)) * 10 / (2 ^ 33 : Int)).toNat]) →
      ∃ t, exec (.delayRespRx port t1 t2 t3) s = .next t ∧ t.get F.LINK_DELAY port = median l % 2 ^ 32 ∧ t.get F.CPORT_STATUS_DELAY_VALID port = 1 ∧ (t.cport port).delays = l) ∧
  (∀ (s : State) (port t1 t2 t3 : Nat), port < 2 → s.canalUp port = true → (s.cport port).nDelays < 7 →
      ∃ t, exec (.delayRespRx port t1 t2 t3) s = .next t ∧ t.regs = s.regs ∧ (t.cport port).nDelays = (s.cport port).nDelays + 1) ∧
  (∀ (s : State), s.isHead = true → s.get F.TIME_STATUS_STATE ≠ 0 → s.canal.timeSent < s.fleetNs / 62500000 → s.canalUp 0 = true → (s.cport (0)).txq = [] → (s.cport (0)).replay = [] → s.get F.RING_STATUS_CONFLICT = 0 → canalBuffer 1 ≤ nth 0 (s.cport (0)).credits 1 →
      ∃ t, exec .timeMessageSend s = .next t ∧ (t.out.any fun o => match o with | .canal c y _ => decide (c = 0 ∧ y.body = .time s.fleetSec s.fleetSubNs 0 (s.get F.UNCERT) (s.get F.TIME_STATUS_EPOCH) (s.get F.TIME_STATUS_TQ)) | _ => false) = true ∧ t.canal.timeSent = s.fleetNs / 62500000) ∧
  (∀ (s : State) (port hops timeS timeNs corr uncert epoch tq mseq origin unit : Nat), port < 2 → s.canalUp port = true → s.get F.CPORT_STATUS_DELAY_VALID port ≠ 0 → s.tm.canalNew = none →
      ∃ t, exec (.timeMessageRx port hops timeS timeNs corr uncert epoch tq mseq origin unit) s = .next t ∧
        t.tm.canalNew = some ((((timeS * 1000000000 + timeNs + corr) * 10 + s.get F.LINK_DELAY port : Nat) : Int) - (s.fleet01 : Int), uncert + 10 * hops, epoch, hops)) ∧
  (∀ (s : State) (port hops timeS timeNs corr uncert epoch tq mseq origin unit : Nat), port < 2 → s.canalUp port = true → s.get F.CPORT_STATUS_DELAY_VALID port = 0 →
      ∃ t, exec (.timeMessageRx port hops timeS timeNs corr uncert epoch tq mseq origin unit) s = .next t ∧ t.ctr ⟨.canal, port⟩ C.CANAL_NO_DELAY = (s.ctr ⟨.canal, port⟩ C.CANAL_NO_DELAY + 1) % 2 ^ 64 ∧ t.tm = s.tm ∧ t.out = s.out) ∧
  (∀ (s u : State) (addr id v unit z mseq p : Nat) (x : WrExt), s.powered = true → s.gated = false → s.busRead (.bar2 s.number) addr = (v, u) → u.canalWay z = some p → u.canalUp p = true → (u.cport p).txq = [] → (u.cport p).replay = [] →
      u.get F.RING_STATUS_CONFLICT = 0 → 32 ≤ nth 0 (u.cport p).credits 5 →
      ∃ t, exec (.regMessageRx ⟨some s.number, 0, z, unit, mseq, 0, false, .regReq false addr 0 id⟩ x) s = .next t ∧ (t.out.any fun o => match o with | .canal c y _ => decide (c = p ∧ y.body = .regAns false v id) | _ => false) = true ∧ t.regs = u.regs) ∧
  (∀ (s : State) (v id mseq unit : Nat) (x : WrExt) (a : TunAccess), s.powered = true → s.gated = false → s.canal.tun = [a] → a.id = id → a.write = false → s.canal.tunWait = [] →
      ∃ t, exec (.regMessageRx ⟨some s.number, 0, a.zone, unit, mseq, 0, false, .regAns false v id⟩ x) s = .next t ∧ t.out = .readData (.bar2 a.zone) v :: s.out ∧ t.canal.tun = [])

/-- Roles and claims of a redundant pair: pulses, the role after reset, claims and their conflict, WARM, TAKE and
takeover. (R387, R388, R389, R390, R398, R399, R401) -/
def Obligations.PairRoles : Prop :=
  (∀ (s : State), s.isPaired = true → s.isOn .pair = true → s.inRecovery = false → s.pair.pulseAt + ms 10 ≤ s.now → s.get F.PAIR_STATUS_STATE = 2 →
      ∃ t, exec .peerAlivePulse s = .next t ∧ t.out = .peerPulse (if t.get F.PAIR_STATUS_READY = 1 then 1500 else 500) :: s.out ∧ t.pair.pulseAt = s.now) ∧
  (∀ (s : State), s.isPaired = true → s.isOn .pair = true → s.inRecovery = false → s.pair.pulseAt + ms 10 ≤ s.now → s.get F.PAIR_STATUS_STATE = 4 →
      ∃ t, exec .peerAlivePulse s = .next t ∧ t.pair.pulseAt = s.now ∧
        t.out = (if (s.pair.kickAt.any fun k => decide (s.now ≤ k + ms 20)) = true ∧ s.get F.SVC_STATUS_HANDED = 0 then .peerPulse 3500 :: s.out else s.out)) ∧
  (∀ (s : State) (width k : Nat), k < 3 → nth 0 [500, 1500, 3500] k ≤ width + 250 → width ≤ nth 0 [500, 1500, 3500] k + 250 →
      ∃ t, exec (.peerPulseRx width) s = .next t ∧ t.get F.PAIR_STATUS_PEER_STATE = k + 1 ∧ t.pair.edgeAt = s.now - us width) ∧
  (∀ (s : State), s.get F.PAIR_STATUS_PEER_STATE ≠ 0 → s.pair.edgeAt + ms 30 ≤ s.now →
      ∃ t, exec .peerPulseMissed s = .next t ∧ t.get F.PAIR_STATUS_PEER_STATE = 0 ∧ t.ctr ⟨.pair, 0⟩ C.PAIR_PULSE_MISSES = (s.ctr ⟨.pair, 0⟩ C.PAIR_PULSE_MISSES + 1) % 2 ^ 64 ∧ t.irqUp ⟨.pair, 0⟩ I.PAIR_PEER_CHG = true) ∧
  (∀ (s : State), ∃ t, exec .pairKick s = .next t ∧ t.pair.kickAt = some s.now ∧ t.regs = s.regs) ∧
  (∀ (s : State), s.pair.paired = true → s.pair.roleDone = false → s.get F.PAIR_STATUS_CLAIM_PEER = 0 → s.pair.peerRelAt ≤ s.pair.resetAt → s.pair.resetAt + ms 30 ≤ s.now → s.get F.PAIR_STATUS_ROLE = 0 → s.mayClaim = true →
      ∃ t, exec .pairResetRole s = .next t ∧ t.get F.PAIR_STATUS_STATE = 4 ∧ t.get F.PAIR_STATUS_CLAIM_OWN = 1 ∧ t.pair.roleDone = true ∧ t.pair.claimAt = some s.now ∧ t.out.contains (.pin "ACTIVE_N" false) = true) ∧
  (∀ (s : State), s.pair.paired = true → s.pair.roleDone = false → s.get F.PAIR_STATUS_CLAIM_PEER = 1 → s.get F.PAIR_STATUS_ROLE_CONFLICT = 0 →
      ∃ t, exec .pairResetRole s = .next t ∧ t.get F.PAIR_STATUS_STATE = 1 ∧ t.pair.roleDone = true ∧ t.get F.PAIR_STATUS_CLAIM_OWN = s.get F.PAIR_STATUS_CLAIM_OWN) ∧
  (∀ (s : State) (a : Nat), s.pair.claimAt = some a → a + us 50 ≤ s.now → s.pair.checked = false → s.get F.PAIR_STATUS_CLAIM_PEER = 1 → s.get F.PAIR_STATUS_ROLE = 1 →
      ∃ t, exec .claimCheck s = .next t ∧ t.ctr ⟨.pair, 0⟩ C.PAIR_CLAIM_CONFLICTS = (s.ctr ⟨.pair, 0⟩ C.PAIR_CLAIM_CONFLICTS + 1) % 2 ^ 64 ∧ t.get F.PAIR_STATUS_CLAIM_OWN = 0 ∧ t.get F.PAIR_STATUS_STATE = 1 ∧ t.irqUp ⟨.pair, 0⟩ I.PAIR_CLAIM_CONFLICT = true) ∧
  (∀ (s : State) (a : Nat), s.pair.claimAt = some a → a + us 50 ≤ s.now → s.pair.checked = false → s.get F.PAIR_STATUS_CLAIM_PEER = 0 → s.get F.PAIR_STATUS_CLAIM_OWN = 1 → s.isPaired = true →
      ∃ t, exec .claimCheck s = .next t ∧ t.get F.PAIR_STATUS_GATE_OPEN = 1 ∧ t.get F.PAIR_STATUS_CLAIM_OWN = 1 ∧ t.pair.checked = true ∧ t.ctrs = s.ctrs) ∧
  (∀ (s : State), s.isPaired = true → s.get F.PAIR_STATUS_CLAIM_OWN = 0 ∨ s.pair.checked = false →
      ∃ t, exec (.claimLineChange true) s = .next t ∧ t.get F.PAIR_STATUS_CLAIM_PEER = 1 ∧ t.get F.PAIR_STATUS_GATE_OPEN = 0 ∧ t.pair = s.pair) ∧
  (∀ (s : State), s.isPaired = true → s.get F.PAIR_STATUS_STATE ≠ 2 ∨ s.get F.SWITCH_SFN = 0 →
      ∃ t, exec (.claimLineChange false) s = .next t ∧ t.get F.PAIR_STATUS_CLAIM_PEER = 0 ∧ t.pair.peerRelAt = s.now ∧ t.get F.PAIR_STATUS_GATE_OPEN = b2n t.gateNow) ∧
  (∀ (s : State), s.get F.PAIR_STATUS_STATE = 1 → ∃ t, exec (.pairWarm true) s = .next t ∧ t.get F.PAIR_STATUS_STATE = 2 ∧ t.get F.PAIR_CTRL_WARM = 1 ∧ t.get F.SUP_STATUS_RUNNING = 1 ∧ t.irqUp ⟨.pair, 0⟩ I.PAIR_PAIR_STATE = true) ∧
  (∀ (s : State), s.get F.PAIR_STATUS_STATE = 2 → ∃ t, exec (.pairWarm false) s = .next t ∧ t.get F.PAIR_STATUS_STATE = 1 ∧ t.get F.PAIR_CTRL_WARM = 0 ∧ t.get F.SUP_STATUS_RUNNING = 0) ∧
  (∀ (s : State), s.isPaired = true → s.get F.PAIR_STATUS_ROLE = 1 → s.get F.PAIR_STATUS_STATE ≠ 4 → s.mayClaim = true →
      ∃ t, exec .pairTake s = .next t ∧ t.get F.PAIR_STATUS_STATE = 4 ∧ t.get F.PAIR_STATUS_CLAIM_OWN = 1 ∧ t.pair.claimAt = some s.now ∧ t.members = [] ∧ t.air.downq = [] ∧ t.get F.REG_STATUS_JOINED = 0) ∧
  (∀ (s : State), s.standby = true → s.nrReason = 0 → s.mayClaim = true → s.pair.handover = true ∨ (s.get F.PAIR_STATUS_PEER_STATE = 0 ∧ s.pair.flitAt + ms 30 ≤ s.now) →
      ∃ t, exec .takeoverStart s = .next t ∧ t.get F.PAIR_STATUS_STATE = 3 ∧ t.get F.PAIR_STATUS_CLAIM_OWN = 1 ∧ t.pair.loaded = false ∧ t.ctr ⟨.pair, 0⟩ C.PAIR_TAKEOVERS = (s.ctr ⟨.pair, 0⟩ C.PAIR_TAKEOVERS + 1) % 2 ^ 64 ∧
        ((List.range 4).all fun p => decide (t.getP ⟨.airport, p⟩ F.CTRL_EN = 1)) = true) ∧
  (∀ (s : State), s.get F.PAIR_STATUS_STATE = 3 → s.pair.loaded = false →
      ∃ t, exec .takeoverLoaded s = .next t ∧ t.pair.loaded = true ∧ t.gen 577 = (if 65535 ≤ s.loadCheckpoint.gen 577 then 1 else s.loadCheckpoint.gen 577 + 1))

/-- The checkpoint of a pair and its messages: DATA, CUT, ACK and its time-out, STOP_STATE, STATUS, HANDOVER and RESYNC.
(R390, R391, R392, R393, R394, R395, R396, R397) -/
def Obligations.PairCheckpoint : Prop :=
  (∀ (s : State) (m : PairMsg), s.standby = true → s.isOn .dram = true → m.typ = 1 → m.lastRec = true → m.rseq = 0 → m.sfn < 2 ^ 32 → s.pair.slots = [none, none] → s.pair.deltas = [] →
      ∃ t, exec (.pairDataRx m) s = .next t ∧ t.pair.slots = [some ⟨m.sfn, m.images, true, m.plans⟩, none] ∧ t.pair.gap = false ∧ t.pair.oos = false ∧ t.get F.FULL_SFN = m.sfn ∧ t.ctr ⟨.pair, 0⟩ C.PAIR_FULLS = (s.ctr ⟨.pair, 0⟩ C.PAIR_FULLS + 1) % 2 ^ 64) ∧
  (∀ (s : State) (m : PairMsg), s.standby = true → s.isOn .dram = true → m.typ = 2 → s.pair.deltas = [] →
      ∃ t, exec (.pairDataRx m) s = .next t ∧ t.pair.deltas = [⟨m.sfn, m.images, false, m.plans⟩] ∧ t.pair.slots = s.pair.slots ∧ t.ctrs = s.ctrs) ∧
  (∀ (s : State) (m : PairMsg) (d : DeltaRec), s.get F.PAIR_STATUS_STATE = 1 → s.pair.lastDelta = false → s.isOn .dram = true → s.pair.deltas = [d] → d.done = false → d.sfn = m.sfn → m.sfn < 2 ^ 32 → crc32c (imageBytes d.images) = m.arg →
      16 + 68 * d.images.length ≤ s.deltaRing → s.pair.full = none → s.canalUp (s.get F.RING_STATUS_UNIT) = true → (s.cport (s.get F.RING_STATUS_UNIT)).txq = [] → (s.cport (s.get F.RING_STATUS_UNIT)).replay = [] → s.get F.RING_STATUS_CONFLICT = 0 → canalBuffer 2 ≤ nth 0 (s.cport (s.get F.RING_STATUS_UNIT)).credits 2 →
      ∃ t, exec (.pairCutRx m) s = .next t ∧ t.pair.deltas = [{ d with done := true }] ∧ t.get F.DELTA_SFN = m.sfn ∧ t.ctr ⟨.pair, 0⟩ C.PAIR_DELTAS = (s.ctr ⟨.pair, 0⟩ C.PAIR_DELTAS + 1) % 2 ^ 64 ∧ t.pair.flitAt = s.now ∧
        (t.out.any fun o => match o with | .canal c y _ => decide (c = s.get F.RING_STATUS_UNIT ∧ y.body = .pair { typ := 4, format := s.pair.format, sfn := m.sfn, arg := m.sfn }) | _ => false) = true) ∧
  (∀ (s : State) (m : PairMsg) (d : DeltaRec), s.standby = true → s.isOn .dram = true → s.pair.deltas = [d] → d.done = false → d.sfn = m.sfn → crc32c (imageBytes d.images) ≠ m.arg →
      ∃ t, exec (.pairCutRx m) s = .next t ∧ t.pair.gap = true ∧ t.pair.deltas = [] ∧ t.ctrs = s.ctrs ∧ t.out = s.out) ∧
  (∀ (s : State) (sfn : Nat), s.get F.PAIR_STATUS_STATE = 4 → s.pair.unacked.contains sfn = true → sfn < 2 ^ 32 →
      ∃ t, exec (.pairAckRx sfn) s = .next t ∧ t.get F.DELTA_SFN = sfn ∧ t.pair.unacked = s.pair.unacked.filter (fun x => x ≠ sfn) ∧ t.ls.uncommitted = s.ls.uncommitted.filter (fun u => u.2 ≠ sfn) ∧ t.pair.flitAt = s.now) ∧
  (∀ (s : State), s.get F.PAIR_STATUS_STATE = 4 → s.get F.PAIR_CFG_ACK_SF ≤ s.pair.unacked.length → s.ls.uncommitted = [] → s.canalUp (s.get F.RING_STATUS_UNIT) = true → (s.cport (s.get F.RING_STATUS_UNIT)).txq = [] → (s.cport (s.get F.RING_STATUS_UNIT)).replay = [] → s.get F.RING_STATUS_CONFLICT = 0 → canalBuffer 2 ≤ nth 0 (s.cport (s.get F.RING_STATUS_UNIT)).credits 2 →
      ∃ t, exec .partnerAckTimeout s = .next t ∧ t.pair.oos = true ∧ t.pair.unacked = [] ∧ t.get F.PAIR_STATUS_PEER_IN_SERVICE = 0 ∧ t.irqUp ⟨.pair, 0⟩ I.PAIR_OUT_OF_SERVICE = true ∧ t.ctr ⟨.pair, 0⟩ C.PAIR_RESYNCS = (s.ctr ⟨.pair, 0⟩ C.PAIR_RESYNCS + 1) % 2 ^ 64 ∧
        (t.out.any fun o => match o with | .canal c y _ => decide (c = s.get F.RING_STATUS_UNIT ∧ y.body = .pair { typ := 10, format := s.pair.format }) | _ => false) = true) ∧
  (∀ (s : State) (cls reason seq : Nat), s.standby = true → 1 ≤ cls → cls ≤ 3 → s.sup.vddGate = true →
      ∃ t, exec (.stopStateRx cls reason seq) s = .next t ∧ bit (t.get F.CAUSES_HELD) 9 = true ∧ t.get F.HG_STATE_CLASS = max (s.get F.HG_STATE_CLASS) cls ∧ t.get F.HG_STATE_STOP_SEQ = seq % 256) ∧
  (∀ (s : State) (reason seq : Nat), s.standby = true → s.get F.PINS_FILTERED = 0 → s.get F.HG_STATE_GATE_FAULT = 0 → bit (s.get F.CAUSES_HELD) (rsGATEFAULT - 1) = false →
      ∃ t, exec (.stopStateRx 0 reason seq) s = .next t ∧ t.get F.CAUSES_HELD = 0 ∧ t.get F.HG_STATE_CLASS = 0 ∧ t.get F.HG_STATE_STOP_SEQ = seq % 256) ∧
  (∀ (s : State), s.isPaired = true → s.pair.statusAt + sec 1 ≤ s.now → s.canalUp (s.get F.RING_STATUS_UNIT) = true → (s.cport (s.get F.RING_STATUS_UNIT)).txq = [] → (s.cport (s.get F.RING_STATUS_UNIT)).replay = [] → s.get F.RING_STATUS_CONFLICT = 0 → canalBuffer 2 ≤ nth 0 (s.cport (s.get F.RING_STATUS_UNIT)).credits 2 →
      ∃ t, exec .pairStatusSend s = .next t ∧ t.pair.statusAt = s.now ∧ t.get F.CFG_HASH = s.cfgHash ∧
        (t.out.any fun o => match o with | .canal c y _ => decide (c = s.get F.RING_STATUS_UNIT ∧ y.body = .pair { typ := 6, format := s.pair.format, cfgHash := s.cfgHash, kgen := s.get F.SEC_STATUS_KGEN_CUR, pstate := s.get F.PAIR_STATUS_STATE, nr := s.get F.PAIR_STATUS_NR_REASON }) | _ => false) = true) ∧
  (∀ (s : State) (m : PairMsg), s.isPaired = true → m.kgen = 0 ∨ m.kgen ≠ s.get F.SEC_STATUS_KGEN_NEXT ∨ s.standby = false →
      ∃ t, exec (.pairStatusRx m) s = .next t ∧ t.pair.peer = some m ∧ t.pair.flitAt = s.now ∧ t.ctrs = s.ctrs) ∧
  (∀ (s : State), s.standby = true → ∃ t, exec .handoverRx s = .next t ∧ t.pair.handover = true ∧ t.pair.flitAt = s.now ∧ t.regs = s.regs) ∧
  (∀ (s : State), s.standby = true → ∃ t, exec .resyncRx s = .next t ∧ t.pair.oos = true ∧ t.ctr ⟨.pair, 0⟩ C.PAIR_RESYNCS = (s.ctr ⟨.pair, 0⟩ C.PAIR_RESYNCS + 1) % 2 ^ 64 ∧ t.get F.PAIR_STATUS_READY = 0) ∧
  (∀ (s : State), s.standby = false → ∃ t, exec .resyncRx s = .next t ∧ t.pair.fullSec = 0 ∧ t.ctr ⟨.pair, 0⟩ C.PAIR_RESYNCS = (s.ctr ⟨.pair, 0⟩ C.PAIR_RESYNCS + 1) % 2 ^ 64 ∧ t.regs = s.regs)

/-- Planned switches of a pair: SWITCH, SWITCH_REQ and its answer, and the primary's way back. (R401, R402, R403) -/
def Obligations.PairSwitchOver : Prop :=
  (∀ (s : State), s.get F.PAIR_STATUS_STATE = 4 → s.get F.SWITCH_SFN = 0 → s.peerWarmReady = true → s.canalUp (s.get F.RING_STATUS_UNIT) = true → (s.cport (s.get F.RING_STATUS_UNIT)).txq = [] → (s.cport (s.get F.RING_STATUS_UNIT)).replay = [] → s.get F.RING_STATUS_CONFLICT = 0 → canalBuffer 2 ≤ nth 0 (s.cport (s.get F.RING_STATUS_UNIT)).credits 2 →
      ∃ t, exec .pairSwitch s = .next t ∧ t.get F.SWITCH_SFN = (s.get F.SFN + 8) % 2 ^ 32 ∧
        (t.out.any fun o => match o with | .canal c y _ => decide (c = s.get F.RING_STATUS_UNIT ∧ y.body = .pair { typ := 9, format := s.pair.format, sfn := (s.get F.SFN + 8) % 2 ^ 32, arg := (s.get F.SFN + 8) % 2 ^ 32 }) | _ => false) = true) ∧
  (∀ (s : State), s.peerWarmReady = false → exec .pairSwitch s = .next s) ∧
  (∀ (s : State), s.get F.PAIR_STATUS_STATE = 4 → s.get F.PAIR_CTRL_NO_REVERT = 0 → s.get F.SWITCH_SFN = 0 →
      ∃ t, exec .switchReqRx s = .next t ∧ t.get F.SWITCH_SFN = (s.get F.SFN + 8) % 2 ^ 32 ∧ t.pair.flitAt = s.now) ∧
  (∀ (s : State), s.get F.PAIR_STATUS_STATE = 4 → s.get F.PAIR_CTRL_NO_REVERT = 1 ∨ s.get F.SWITCH_SFN ≠ 0 → s.canalUp (s.get F.RING_STATUS_UNIT) = true → (s.cport (s.get F.RING_STATUS_UNIT)).txq = [] → (s.cport (s.get F.RING_STATUS_UNIT)).replay = [] → s.get F.RING_STATUS_CONFLICT = 0 → canalBuffer 2 ≤ nth 0 (s.cport (s.get F.RING_STATUS_UNIT)).credits 2 →
      ∃ t, exec .switchReqRx s = .next t ∧ t.regs = s.regs ∧ (t.out.any fun o => match o with | .canal c y _ => decide (c = s.get F.RING_STATUS_UNIT ∧ y.body = .pair { typ := 9, arg := 0 }) | _ => false) = true) ∧
  (∀ (s : State) (sfn : Nat), s.get F.PAIR_STATUS_STATE = 2 → ∃ t, exec (.switchRx sfn) s = .next t ∧ t.get F.SWITCH_SFN = sfn % 2 ^ 32 ∧ t.pair.flitAt = s.now) ∧
  (∀ (s : State), s.get F.PAIR_STATUS_STATE = 1 → s.get F.PAIR_STATUS_ROLE = 0 → s.get F.PAIR_STATUS_READY = 1 → s.get F.PAIR_CFG_REVERT_EN = 1 → s.blocksWork = true →
      max s.pair.brokeAt s.pair.resetAt + sec (s.get F.REVERT_HOLDOFF) ≤ s.now →
      ∃ t, exec .revertHoldoffExpiry s = .next t ∧ t.get F.PAIR_STATUS_STATE = 2 ∧ t.get F.PAIR_CTRL_WARM = 1 ∧ t.pair.askAt = none) ∧
  (∀ (s : State) (a : Nat), s.get F.PAIR_STATUS_STATE = 2 → s.get F.PAIR_STATUS_READY = 1 → s.get F.PAIR_STATUS_ROLE = 0 → s.get F.PAIR_CFG_REVERT_EN = 1 → s.get F.SWITCH_SFN = 0 →
      (s.pair.askAt = none ∧ s.pair.warmReadyAt = some a ∧ a + sec 10 ≤ s.now) ∨ (s.pair.askAt = some a ∧ a + sec 60 ≤ s.now) → s.canalUp (s.get F.RING_STATUS_UNIT) = true → (s.cport (s.get F.RING_STATUS_UNIT)).txq = [] → (s.cport (s.get F.RING_STATUS_UNIT)).replay = [] → s.get F.RING_STATUS_CONFLICT = 0 → canalBuffer 2 ≤ nth 0 (s.cport (s.get F.RING_STATUS_UNIT)).credits 2 →
      ∃ t, exec .revertRequest s = .next t ∧ t.pair.askAt = some s.now ∧ (t.out.any fun o => match o with | .canal c y _ => decide (c = s.get F.RING_STATUS_UNIT ∧ y.body = .pair { typ := 8 }) | _ => false) = true)

/-- Metering: windows, seconds, intervals, power quality, saves, pulses and the outage path. (R407, R408, R409, R410,
R412, R413, R414, R416) -/
def Obligations.Metering : Prop :=
  (∀ (s : State) (w : MeterWin) (d : Nat) (v : VoltWin) (x : DockWin), s.meterRuns = true → d < 12 → s.met.docks.length = 12 → s.dockEn d = true → s.dockOk d = true → w.volts[s.dockV d]? = some v → w.docks[d]? = some x →
      ∃ t, exec (.meterWindow w) s = .next t ∧ t.get F.MET_STATUS_V_TRACK = s.tracked w.volts ∧ t.get F.MET_STATUS_FREQ_LOST = b2n (decide (s.tracked w.volts = 3)) ∧
        t.dock d = (s.dock d).add (s.winQ d v x (decide (s.tracked w.volts = 3))) w.lenNs (decide (s.tracked w.volts = 3)) x.ovr) ∧
  (∀ (s : State) (c : Nat), s.meterRuns = true → s.met.lastSec ≠ s.fleetSec → c < 15 → s.met.sums.length = 15 → s.met.e0Due = false →
      ∃ t, exec .meterSecond s = .next t ∧ t.met.lastSec = s.fleetSec ∧ t.sum c = {} ∧ bits (t.te ⟨.meter, 0⟩ 2 c) 0 32 = (s.sum c).rms / max 1 (s.sum c).n % 2 ^ 32 ∧
        bits (t.te ⟨.meter, 0⟩ 2 c) 32 32 = (s.sum c).fund / max 1 (s.sum c).n % 2 ^ 32 ∧ bit (t.te ⟨.meter, 0⟩ 2 c) 208 = !s.chanOk c) ∧
  (∀ (s : State) (d : Nat), s.meterRuns = true → s.met.nextIv ≤ s.fleetSec → d < 12 → s.met.docks.length = 12 → s.dockEn d = true → s.get F.MET_CFG_REC_EN = 1 → s.met.store.length ≤ 244 →
      ∃ t, exec .meterIntervalEnd s = .next t ∧ (t.dock d).ivImp = 0 ∧ (t.dock d).ivNs = 0 ∧ (t.dock d).seq = ((s.dock d).seq + 1) % 2 ^ 32 ∧ (t.dock d).start = false ∧ (t.dock d).imp = (s.dock d).imp ∧
        t.met.nextIv = s.nextInterval ∧ s.fleetSec < t.met.nextIv) ∧
  (∀ (s : State) (v rms : Nat), s.meterRuns = true → v < 3 → s.met.pq.length = 3 → s.chanOn v = true → (nth {} s.met.pq v).kind = 0 → s.belowPct rms (s.get F.PQ_CFG_INT_TH) = true →
      ∃ t, exec (.pqRefresh v rms) s = .next t ∧ nth {} t.met.pq v = ⟨3, s.fleetSec, s.fleetSubNs, 1, rms⟩ ∧ bit (t.get F.MET_STATUS_INTR) v = true) ∧
  (∀ (s : State) (v rms : Nat), s.meterRuns = true → v < 3 → s.met.pq.length = 3 → s.chanOn v = true → (nth {} s.met.pq v).kind = 0 → s.belowPct rms (s.get F.PQ_CFG_INT_TH) = false → s.belowPct rms (s.get F.PQ_CFG_SAG_TH) = true →
      ∃ t, exec (.pqRefresh v rms) s = .next t ∧ nth {} t.met.pq v = ⟨1, s.fleetSec, s.fleetSubNs, 1, rms⟩ ∧ bit (t.get F.MET_STATUS_SAG) v = true) ∧
  (∀ (s : State) (v rms : Nat), s.meterRuns = true → v < 3 → s.met.pq.length = 3 → s.chanOn v = true → (nth {} s.met.pq v).kind = 1 ∨ (nth {} s.met.pq v).kind = 3 → s.belowPct rms (s.get F.PQ_CFG_SAG_TH + s.get F.PQ_CFG_HYST) = false →
      s.belowPct rms (s.get F.PQ_CFG_INT_TH) = false → s.belowPct rms (s.get F.PQ_CFG_SAG_TH) = false → rms * 100 ≤ s.vNom * s.get F.PQ_CFG_SWELL_TH →
      ∃ t, exec (.pqRefresh v rms) s = .next t ∧ (nth {} t.met.pq v).kind = 0 ∧ t.ctr ⟨.meter, 0⟩ C.METER_PQ_EVENTS = (s.ctr ⟨.meter, 0⟩ C.METER_PQ_EVENTS + 1) % 2 ^ 64 ∧ t.irqUp ⟨.meter, 0⟩ I.METER_PQ_EVENT = true ∧ t.met.pqSeq = (s.met.pqSeq + 1) % 2 ^ 32) ∧
  (∀ (s : State), s.meterRuns = true → s.met.saveDue ≤ s.fleetSec → s.met.saveSlot < 2 → s.met.saves.length = 2 →
      ∃ t, exec (.meterSave true) s = .next t ∧ nth none t.met.saves s.met.saveSlot = some ⟨s.fleetSec, s.met.docks, s.met.pulses.map (·.remK), s.met.pqSeq, true⟩ ∧ t.met.saveSlot = 1 - s.met.saveSlot ∧
        t.get F.LAST_SAVE_S = s.fleetSec % 2 ^ 32 ∧ t.ctr ⟨.meter, 0⟩ C.METER_SAVES = (s.ctr ⟨.meter, 0⟩ C.METER_SAVES + 1) % 2 ^ 64 ∧ t.met.saveDue = s.fleetSec + s.get F.SAVE_PERIOD) ∧
  (∀ (s : State), s.meterRuns = true → s.met.saveDue ≤ s.fleetSec → s.met.saveSlot < 2 → s.met.saves.length = 2 →
      ∃ t, exec (.meterSave false) s = .next t ∧ nth none t.met.saves s.met.saveSlot = none ∧ t.ctr ⟨.meter, 0⟩ C.METER_SAVE_FAIL = (s.ctr ⟨.meter, 0⟩ C.METER_SAVE_FAIL + 1) % 2 ^ 64 ∧ t.get F.LAST_SAVE_S = s.get F.LAST_SAVE_S) ∧
  (∀ (s : State) (k : Nat), s.meterRuns = true → k < 2 → s.met.pulses.length = 2 → (s.pulse k).high = false → 1 ≤ (s.pulse k).backlog → s.get F.PULSE_CFG_EN 0 k = 1 →
      ((s.pulse k).lastAt.any fun a => decide (s.now < a + ms (2 * s.get F.PULSE_CFG_WIDTH 0 k))) = false →
      ∃ t, exec (.meterPulse k) s = .next t ∧ (t.pulse k).backlog + 1 = (s.pulse k).backlog ∧ (t.pulse k).lastAt = some s.now ∧
        t.out = .pin (if k = 0 then "METER_PULSE0" else "METER_PULSE1") (decide (s.get F.PULSE_CFG_POL 0 k = 0)) :: s.out) ∧
  (∀ (s : State) (src : Src) (k value : Nat), k < 2 → s.met.pulses.length = 2 → s.powered = true → s.gated = false → s.jtagBarsAt src (Page.base ⟨.meter, 0⟩ + 0x320 + 4 * k) true = false → coreFault src (Page.base ⟨.meter, 0⟩ + 0x320 + 4 * k) true = none →
      s.boot.waiting = false → s.coldGated ⟨.meter, 0⟩ = false → s.getP ⟨.meter, 0⟩ F.LOCK_LOCKED = 0 → bits value 0 4 ≤ 12 → 5 ≤ bits value 8 8 → bits value 8 8 ≤ 100 → 1 ≤ bits value 16 16 → value < 2 ^ 32 →
      ∃ t, exec (.pulseCfgWrite src k value) s = .next t ∧ (t.pulse k).remK = 0 ∧ (t.pulse k).backlog = 0 ∧ t.get F.PULSE_CFG_SRC 0 k = bits value 0 4 ∧ t.get F.PULSE_CFG_WIDTH 0 k = bits value 8 8 ∧ t.get F.PULSE_CFG_K 0 k = bits value 16 16 ∧
        t.get F.PULSE_CFG_EN 0 k = bits value 6 1) ∧
  (∀ (s : State) (d : Nat) (ma : List Nat), s.sup.battery = true → s.met.outDocks = [d] → d < 12 → s.met.docks.length = 12 →
      ∃ t, exec (.meterOutageSample ma) s = .next t ∧ (t.dock d).out = (s.dock d).out + nth 0 ma d ∧ (t.dock d).imp = (s.dock d).imp ∧ bits (t.te ⟨.meter, 0⟩ 1 d) 448 64 = ((s.dock d).out + nth 0 ma d) / 1000 % 2 ^ 64)

/-- KEYSTORE: attestation, SIGN, VERIFY, DERIVE, re-masking, and the token buffer from OPEN to the end of verification.
(R421, R424, R425, R426, R428, R431, R434, R435) -/
def Obligations.KeysAndTokens : Prop :=
  (∀ (s : State), s.isOn .keystore = true → s.get F.ATT_STATUS_BUSY = 0 → ∃ t, exec .attGo s = .next t ∧ t.get F.ATT_STATUS_BUSY = 1 ∧ t.key.attNonce = s.words ⟨.keystore, 0⟩ 0x580 8) ∧
  (∀ (s : State), s.get F.ATT_STATUS_BUSY = 1 → s.ksMay 1 4 = true →
      ∃ t, exec .attestDone s = .next t ∧ t.get F.ATT_STATUS_BUSY = 0 ∧ t.get F.ATT_STATUS_DONE = 1 ∧ t.get F.ATT_STATUS_SEQ = (s.get F.ATT_STATUS_SEQ + 1) % 256 ∧ t.ctr ⟨.keystore, 0⟩ C.KEYSTORE_OPS = (s.ctr ⟨.keystore, 0⟩ C.KEYSTORE_OPS + 1) % 2 ^ 64 ∧
        t.irqUp ⟨.keystore, 0⟩ I.KEYSTORE_ATT_DONE = true) ∧
  (∀ (s : State) (tg q k data : Nat) (key : List Nat), s.gated = false → s.isOn .keystore = true → 0x80 ≤ tg → tg ≤ 0xBF → s.tagBusy tg = false → s.ksCheck .sup k usSIGN = none → KS.ktype.get (s.ks k) = 3 →
      ∃ t, exec (.ksSign (.tag .sup tg q (k :: key) data)) s = .next t ∧ t.ctr ⟨.keystore, 0⟩ C.KEYSTORE_OPS = (s.ctr ⟨.keystore, 0⟩ C.KEYSTORE_OPS + 1) % 2 ^ 64 ∧ (t.out.any fun o => match o with | .compl .sup c => decide (c.tag = tg ∧ c.err = 0) | _ => false) = true ∧ (2 ≤ KS.uses.get (s.ks k) → KS.uses.get (s.ks k) ≠ 0xFFFFFFFF → KS.uses.get (t.ks k) + 1 = KS.uses.get (s.ks k))) ∧
  (∀ (s : State) (tg q k data : Nat) (key : List Nat), s.gated = false → s.isOn .keystore = true → 0x80 ≤ tg → tg ≤ 0xBF → s.tagBusy tg = false → k < 64 → s.ksKilled k = false → s.ksMay k usSIGN = false →
      ∃ t, exec (.ksSign (.tag .sup tg q (k :: key) data)) s = .next t ∧ t.tbl = s.tbl ∧ t.out = .compl .sup ⟨tg, 0x0C, Page.wire ⟨.keystore, 0⟩, 0, none⟩ :: s.out) ∧
  (∀ (s : State) (tg q k data : Nat) (key : List Nat) (ok : Bool), s.gated = false → s.isOn .keystore = true → 0x80 ≤ tg → tg ≤ 0xBF → s.tagBusy tg = false → s.ksCheck .sup k usVERIFY = none → 3 ≤ KS.ktype.get (s.ks k) →
      ∃ t, exec (.ksVerify (.tag .sup tg q (k :: key) data) ok) s = .next t ∧ t.ctr ⟨.keystore, 0⟩ C.KEYSTORE_OPS = (s.ctr ⟨.keystore, 0⟩ C.KEYSTORE_OPS + 1) % 2 ^ 64 ∧ (t.out.any fun o => match o with | .compl .sup c => decide (c.tag = tg ∧ c.err = (if ok then 0 else 0x08)) | _ => false) = true) ∧
  (∀ (s : State) (tg q k i u data : Nat), s.gated = false → s.isOn .keystore = true → 0x80 ≤ tg → tg ≤ 0xBF → s.tagBusy tg = false → s.ksCheck .sup k usDERIVE = none → 16 ≤ i → i < 64 → s.ksHeld i = false → k ≠ i → u < 2 ^ 32 →
      ∃ t, exec (.ksDerive (.tag .sup tg q [k, i, 2 + 3 * 256 + 64 * 2 ^ 24, u] data)) s = .next t ∧ KS.ktype.get (t.ks i) = 2 ∧ KS.usage.get (t.ks i) = 3 ∧ KS.uses.get (t.ks i) = u ∧
        t.ksSecret i = (Config.ksDerive (s.ksSecret k) ((toBytes 64 data).take 64)).toNat ∧ t.ctr ⟨.keystore, 0⟩ C.KEYSTORE_OPS = (s.ctr ⟨.keystore, 0⟩ C.KEYSTORE_OPS + 1) % 2 ^ 64 ∧ (t.out.any fun o => match o with | .compl .sup c => decide (c.tag = tg ∧ c.err = 0) | _ => false) = true) ∧
  (∀ (s : State) (k : Nat), s.key.remaskAt + ms (s.get F.KS_CFG_REMASK_MS) ≤ s.now → s.sup.mainOk = true ∨ s.sup.battery = true →
      ∃ t, exec .remask s = .next t ∧ t.key.remaskAt = s.now ∧ t.ksSecret k = s.ksSecret k ∧ t.ks k = s.ks k ∧ t.ctr ⟨.keystore, 0⟩ C.KEYSTORE_REMASKS = (s.ctr ⟨.keystore, 0⟩ C.KEYSTORE_REMASKS + 1) % 2 ^ 64) ∧
  (∀ (s : State) (src : Src), s.isOn .keystore = true → s.get F.TOK_STATUS_OWNER = 0 → s.jtagBars src ⟨.keystore, 0⟩ true = false → src.code < 256 →
      ∃ t, exec (.tokOpen src) s = .next t ∧ t.get F.TOK_STATUS_OWNER = src.code ∧ t.key.tokAt = s.now) ∧
  (∀ (s : State) (src : Src), s.isOn .keystore = true → s.get F.TOK_STATUS_OWNER = src.code → s.get F.TOK_STATUS_BUSY = 0 → s.jtagBars src ⟨.keystore, 0⟩ true = false →
      ∃ t, exec (.tokGo src) s = .next t ∧ t.get F.TOK_STATUS_BUSY = 1 ∧ t.key.tok = s.words ⟨.keystore, 0⟩ 0x400 64 ∧ t.get F.TOK_STATUS_OWNER = src.code) ∧
  (∀ (s : State) (src : Src), s.get F.TOK_STATUS_OWNER = src.code → s.get F.TOK_STATUS_BUSY = 0 → s.jtagBars src ⟨.keystore, 0⟩ true = false →
      ∃ t, exec (.tokRelease src) s = .next t ∧ t.get F.TOK_STATUS_OWNER = 0 ∧ t.key = s.key) ∧
  (∀ (s : State), s.get F.TOK_STATUS_OWNER ≠ 0 → s.get F.TOK_STATUS_BUSY = 0 → s.key.tokAt + ms 100 ≤ s.now → ∃ t, exec .tokOwnerTimeout s = .next t ∧ t.get F.TOK_STATUS_OWNER = 0 ∧ t.key = s.key) ∧
  (∀ (s : State) (v k i : Nat) (burnOk : Bool), s.get F.TOK_STATUS_BUSY = 1 → s.tokFormat = true → s.tokKind = 2 → s.tokAt 4 8 = Config.serial.toNat → s.tokAt 12 8 = s.get64 F.TOK_NONCE_LO F.TOK_NONCE_HI → k = s.tokSigner → s.tokSignerOk = true →
      i = s.tokAt 24 1 → s.mayInstall k i = true → i < 8 ∨ 10 < i → s.ksHeld i = false → s.tokAt 25 1 < 4 →
      ∃ t, exec (.tokenVerifyDone true (some v) burnOk) s = .next t ∧ KS.ktype.get (t.ks i) = s.tokAt 25 1 ∧ t.ksSecret i = v % 2 ^ (8 * s.tokAt 3 1) ∧ t.get F.TOK_STATUS_RESULT = 1 ∧ t.get F.TOK_STATUS_BUSY = 0 ∧ t.get F.TOK_STATUS_OWNER = 0 ∧
        t.ctr ⟨.keystore, 0⟩ C.KEYSTORE_TOKENS_OK = (s.ctr ⟨.keystore, 0⟩ C.KEYSTORE_TOKENS_OK + 1) % 2 ^ 64 ∧ t.irqUp ⟨.keystore, 0⟩ I.KEYSTORE_TOKEN_DONE = true) ∧
  (∀ (s : State) (sigOk burnOk : Bool) (key : Option Nat), s.get F.TOK_STATUS_BUSY = 1 → s.tokFormat = false →
      ∃ t, exec (.tokenVerifyDone sigOk key burnOk) s = .next t ∧ t.get F.TOK_STATUS_RESULT = 2 ∧ t.get F.TOK_STATUS_BUSY = 0 ∧ t.get F.TOK_STATUS_OWNER = 0 ∧ t.tbl = s.tbl ∧ t.ctr ⟨.keystore, 0⟩ C.KEYSTORE_TOKENS_REFUSED = (s.ctr ⟨.keystore, 0⟩ C.KEYSTORE_TOKENS_REFUSED + 1) % 2 ^ 64 ∧
        t.irqUp ⟨.keystore, 0⟩ I.KEYSTORE_TOKEN_DONE = true) ∧
  (∀ (s : State), s.isOn .keystore = true → s.key.nonceAt + sec 300 ≤ s.now →
      ∃ t, exec .tokNonceExpiry s = .next t ∧ t.key.nonceAt = s.now ∧ t.fresh = s.fresh + 2 ∧ t.get F.TOK_STATUS_OWNER = s.get F.TOK_STATUS_OWNER)

/-- Fuses and the lifecycle: FUSE GO and the end of a burn, transitions and RETIRE. (R437, R438, R439, R440, R441) -/
def Obligations.FusesAndLifecycle : Prop :=
  (∀ (s : State) (setting value signer : Nat), s.fuseRefused setting value = false → s.fuseResult setting value = 0 →
      ∃ t, exec (.fuseProgGo setting value signer) s = .next t ∧ t.get F.FUSE_STATUS_BUSY = 1 ∧ t.get F.FUSE_STATUS_RESULT = 0 ∧
        t.key.job = some ⟨setting, s.get F.SETTING_VALUE 0 setting, value, if setting < 3 then s.get F.SETTING_USED 0 setting else s.get F.SETTING_VALUE 0 setting, signer⟩ ∧ t.get F.SETTING_VALUE 0 setting = s.get F.SETTING_VALUE 0 setting) ∧
  (∀ (s : State) (setting value signer : Nat), s.fuseRefused setting value = false → s.fuseResult setting value ≠ 0 →
      ∃ t, exec (.fuseProgGo setting value signer) s = .next t ∧ t.get F.FUSE_STATUS_RESULT = s.fuseResult setting value ∧ t.key = s.key ∧ t.get F.FUSE_STATUS_BUSY = s.get F.FUSE_STATUS_BUSY) ∧
  (∀ (s : State) (j : FuseJob), s.key.job = some j → s.key.jobs = [] → j.setting < 3 → j.value < 256 → j.slot < 255 →
      ∃ t, exec (.fuseBurnDone true) s = .next t ∧ t.get F.SETTING_VALUE 0 j.setting = j.value ∧ t.get F.SETTING_USED 0 j.setting = j.slot + 1 ∧ t.get F.FUSE_STATUS_BUSY = 0 ∧ t.get F.FUSE_STATUS_RESULT = 1 ∧ t.key.job = none ∧ t.ctr ⟨.fuse, 0⟩ C.FUSE_BURNS = (s.ctr ⟨.fuse, 0⟩ C.FUSE_BURNS + 1) % 2 ^ 64 ∧
        t.irqUp ⟨.fuse, 0⟩ I.FUSE_FUSE_DONE = true) ∧
  (∀ (s : State) (j : FuseJob), s.key.job = some j → s.key.jobs = [] → j.setting < 3 → j.slot < 255 →
      ∃ t, exec (.fuseBurnDone false) s = .next t ∧ t.get F.SETTING_VALUE 0 j.setting = s.get F.SETTING_VALUE 0 j.setting ∧ t.get F.SETTING_USED 0 j.setting = j.slot + 1 ∧ t.get F.SETTING_TORN 0 j.setting = 1 ∧ t.get F.FUSE_STATUS_BUSY = 0 ∧
        t.get F.FUSE_STATUS_RESULT = 5 ∧ t.ctr ⟨.fuse, 0⟩ C.FUSE_BURN_FAILS = (s.ctr ⟨.fuse, 0⟩ C.FUSE_BURN_FAILS + 1) % 2 ^ 64) ∧
  (∀ (s : State) (target signer : Nat), signer ≠ 0 → target < 3 → s.get F.FUSE_STATUS_BUSY = 0 → s.lcRefusal target signer = 0 →
      ∃ t, exec (.lcTransition target signer true) s = .next t ∧ t.get F.LC_STATUS_STATE = target ∧ t.get F.LC_STATUS_RESULT = 1) ∧
  (∀ (s : State) (target signer : Nat), signer ≠ 0 → s.get F.FUSE_STATUS_BUSY = 0 → s.lcListed target signer = false →
      ∃ t, exec (.lcTransition target signer true) s = .next t ∧ t.get F.LC_STATUS_STATE = s.get F.LC_STATUS_STATE ∧ t.get F.LC_STATUS_RESULT = 2 ∧ t.ev = s.ev) ∧
  (∀ (s : State), s.get F.LC_STATUS_STATE = 3 → s.get F.DBG_STATUS_LEVEL = 2 → s.dbg.vendor = true → s.get F.FUSE_STATUS_BUSY = 0 → s.inRun = true →
      ∃ t, exec (.lcRetire true) s = .next t ∧ t.get F.LC_STATUS_STATE = 4 ∧ t.get F.LC_STATUS_RESULT = 1)

/-- DEBUG: opening OBSERVE and FULL, the certificate, the end of a session, halting a granted core, EXTEST. (R442, R443,
R444, R445, R446, R447, R500) -/
def Obligations.DebugSessions : Prop :=
  (∀ (s : State), s.isOn .debug = true → s.observeFree = true →
      ∃ t, exec .dbgOpenObserve s = .next t ∧ t.get F.DBG_STATUS_LEVEL = max (s.get F.DBG_STATUS_LEVEL) 1 ∧ t.get F.DBG_STATUS_RESULT = 1 ∧ t.ctr ⟨.debug, 0⟩ C.DEBUG_SESSIONS = (s.ctr ⟨.debug, 0⟩ C.DEBUG_SESSIONS + 1) % 2 ^ 64 ∧ t.get F.DBG_STATUS_GRANTS = s.get F.DBG_STATUS_GRANTS) ∧
  (∀ (s : State), s.isOn .debug = true → s.observeFree = false →
      ∃ t, exec .dbgOpenObserve s = .next t ∧ t.get F.DBG_STATUS_LEVEL = s.get F.DBG_STATUS_LEVEL ∧ t.get F.DBG_STATUS_RESULT = 7 ∧ t.ctrs = s.ctrs) ∧
  (∀ (s : State), s.isOn .debug = true → s.get F.LC_STATUS_STATE = 0 →
      ∃ t, exec .dbgOpenFull s = .next t ∧ t.get F.DBG_STATUS_LEVEL = max (s.get F.DBG_STATUS_LEVEL) 2 ∧ t.get F.DBG_STATUS_RESULT = 1 ∧ t.get F.DBG_STATUS_GRANTS = 0 ∧ t.ctr ⟨.debug, 0⟩ C.DEBUG_SESSIONS = (s.ctr ⟨.debug, 0⟩ C.DEBUG_SESSIONS + 1) % 2 ^ 64) ∧
  (∀ (s : State), s.isOn .debug = true → s.observeToken = true →
      ∃ t, exec .dbgObserve s = .next t ∧ t.get F.DBG_STATUS_LEVEL = max (s.get F.DBG_STATUS_LEVEL) 1 ∧ t.get F.DBG_STATUS_RESULT = 1 ∧ t.ctr ⟨.debug, 0⟩ C.DEBUG_SESSIONS = (s.ctr ⟨.debug, 0⟩ C.DEBUG_SESSIONS + 1) % 2 ^ 64) ∧
  (∀ (s : State), s.isOn .debug = true → s.certResult true = 1 →
      ∃ t, exec (.certGo true) s = .next t ∧ t.get F.DBG_STATUS_LEVEL = max (s.get F.DBG_STATUS_LEVEL) 2 ∧ t.get F.DBG_STATUS_RESULT = 1 ∧ t.get F.DBG_STATUS_GRANTS = bits s.cert 16 3 ∧
        t.dbg.endAt = some (s.now + sec (bits s.cert 352 32)) ∧ t.ctr ⟨.debug, 0⟩ C.DEBUG_SESSIONS = (s.ctr ⟨.debug, 0⟩ C.DEBUG_SESSIONS + 1) % 2 ^ 64) ∧
  (∀ (s : State) (sigOk : Bool), s.isOn .debug = true → s.certResult sigOk ≠ 1 →
      ∃ t, exec (.certGo sigOk) s = .next t ∧ t.get F.DBG_STATUS_LEVEL = s.get F.DBG_STATUS_LEVEL ∧ t.get F.DBG_STATUS_RESULT = s.certResult sigOk ∧ t.dbg = s.dbg ∧ t.ctr ⟨.debug, 0⟩ C.DEBUG_CERT_REFUSED = (s.ctr ⟨.debug, 0⟩ C.DEBUG_CERT_REFUSED + 1) % 2 ^ 64) ∧
  (∀ (s : State), s.isOn .debug = true → s.get F.DBG_STATUS_LEVEL ≠ 0 →
      ∃ t, exec .dbgEnd s = .next t ∧ t.get F.DBG_STATUS_LEVEL = 0 ∧ t.get F.DBG_STATUS_GRANTS = 0 ∧ t.dbg = {} ∧ t.irqUp ⟨.debug, 0⟩ I.DEBUG_LEVEL_CHG = true) ∧
  (∀ (s : State) (at_ : Nat), s.dbg.endAt = some at_ → at_ ≤ s.now → s.get F.DBG_STATUS_LEVEL ≠ 0 →
      ∃ t, exec .dbgDurationExpiry s = .next t ∧ t.get F.DBG_STATUS_LEVEL = 0 ∧ t.get F.DBG_STATUS_GRANTS = 0 ∧ t.get F.DBG_STATUS_LEFT_S = 0 ∧ t.dbg = {}) ∧
  (∀ (s : State), s.powered = true → s.get F.DBG_STATUS_LEVEL = 2 → 2 ≤ s.get F.HG_STATE_CLASS → ∃ t, exec (.extest none) s = .next t ∧ t.dbg.extest = true ∧ t.regs = s.regs ∧ t.out = s.out) ∧
  (∀ (s : State), s.powered = true → s.get F.DBG_STATUS_LEVEL ≠ 2 ∨ s.get F.HG_STATE_CLASS < 2 → ∃ t, exec (.extest none) s = .next t ∧ t.dbg.extest = false ∧ t.regs = s.regs ∧ t.ctr ⟨.debug, 0⟩ C.DEBUG_EXTEST_REFUSED = (s.ctr ⟨.debug, 0⟩ C.DEBUG_EXTEST_REFUSED + 1) % 2 ^ 64) ∧
  (∀ (s : State) (n : Nat), s.powered = true → ∃ t, exec (.extest (some n)) s = .next t ∧ (100 ≤ n → t.dbg.extest = false) ∧ (n < 100 → t.dbg.extest = s.dbg.extest) ∧ t.regs = s.regs ∧ t.ctrs = s.ctrs) ∧
  (∀ (s : State) (core : Nat), s.haltGranted core = true → s.dbg.halted.contains core = false →
      ∃ t, exec (.debugHalt core 1) s = .next t ∧ t.dbg.halted = core :: s.dbg.halted ∧ (core = 8 → t.get F.SUP_STATUS_RUNNING = 0) ∧ t.get F.DBG_STATUS_LEVEL = 2) ∧
  (∀ (s : State) (core : Nat), s.haltGranted core = true → s.dbg.halted.contains core = true →
      ∃ t, exec (.debugHalt core 0) s = .next t ∧ t.dbg.halted.contains core = false ∧ t.get F.DBG_STATUS_LEVEL = 2)

/-- Power states, losses and returns of the supplies, PORST_N, the die temperature and the return of AUXCLK. (R20, R413,
R448, R449, R450, R485, R486, R488, R489) -/
def Obligations.PowerAndSupplies : Prop :=
  (∀ (s : State) (v : Nat), s.powered = true → v < 2 → s.get F.PWR_STATUS_STATE < 2 →
      ∃ t, exec (.pwrTargetWrite v) s = .next t ∧ t.get F.PWR_STATUS_STATE = v ∧ t.get F.PWR_CTRL_TARGET = v ∧ t.get F.PWR_STATUS_RESULT = 1) ∧
  (∀ (s : State), s.powered = true → s.get F.PWR_STATUS_STATE < 3 → s.allParked = true → s.slowBanks = true →
      ∃ t, exec (.pwrTargetWrite 2) s = .next t ∧ t.get F.PWR_STATUS_STATE = 2 ∧ t.get F.PWR_CTRL_TARGET = 2 ∧ t.get F.PWR_STATUS_RESULT = 1) ∧
  (∀ (s : State), s.powered = true → s.get F.PWR_STATUS_STATE ≠ 3 → s.allParked = false →
      ∃ t, exec (.pwrTargetWrite 2) s = .next t ∧ t.get F.PWR_STATUS_STATE = s.get F.PWR_STATUS_STATE ∧ t.get F.PWR_STATUS_RESULT = 2 ∧ t.pg = s.pg) ∧
  (∀ (s : State) (vbat : Bool), s.sup.mainOk = true → s.sup.vddGate = true →
      ∃ t, exec (.mainSupplyLoss vbat) s = .next t ∧ t.sup.mainOk = false ∧ t.powered = false ∧ t.sup.battery = vbat ∧ t.sup.lostAt = s.now ∧ (vbat = false → t.sup.keepValid = false) ∧ t.hg.outA = false ∧ t.hg.outB = false ∧
        t.get F.RESET_CAUSE_CAUSE = 4 ∧ bit (t.get F.CAUSES_HELD) 7 = true) ∧
  (∀ (s : State) (head role recovN : Bool), s.sup.mainOk = false → s.sup.battery = true → s.sup.railsOut = [] →
      ∃ t, exec (.mainSupplyReturn head role recovN) s = .next t ∧ t.powered = true ∧ t.sup.battery = false ∧ t.sup.strapHead = head ∧ t.sup.strapRole = role ∧ t.sup.recovN = recovN ∧ t.get F.RESET_CAUSE_CAUSE = 4 ∧
        t.ctr ⟨.meter, 0⟩ C.METER_OUTAGES = 1 ∧ t.met.outDocks = []) ∧
  (∀ (s : State) (head role recovN : Bool), s.sup.mainOk = false → s.sup.battery = false → s.sup.railsOut = [] →
      ∃ t, exec (.mainSupplyReturn head role recovN) s = .next t ∧ t.powered = true ∧ t.sup.strapHead = head ∧ t.sup.strapRole = role ∧ t.sup.recovN = recovN ∧ t.get F.RESET_CAUSE_CAUSE = 0) ∧
  (∀ (s : State) (p : Nat), s.sup.vddGate = true → p < 4 →
      ∃ t, exec .vddGateLoss s = .next t ∧ t.sup.vddGate = false ∧ t.hg.outA = false ∧ t.hg.outB = false ∧ t.get F.PORT_STATUS_TX_SRC p = 0 ∧ t.hg.key = none) ∧
  (∀ (s : State) (rail : Nat) (vbat : Bool), rail = 1 ∨ rail = 2 → s.sup.railsOut.contains rail = false → s.sup.mainOk = true → s.sup.vddGate = true →
      ∃ t, exec (.supplyMonitorTrip rail vbat) s = .next t ∧ t.sup.railsOut.contains rail = true ∧ t.powered = false ∧ t.sup.battery = s.sup.battery ∧ t.get F.RESET_CAUSE_CAUSE = 4 ∧ bit (t.get F.CAUSES_HELD) 7 = true) ∧
  (∀ (s : State) (vbat : Bool) (i : Nat), s.sup.railsOut.contains 3 = false → s.sup.mainOk = true → i < 2 →
      ∃ t, exec (.supplyMonitorTrip 3 vbat) s = .next t ∧ 3 ∈ t.sup.railsOut ∧ t.isOn .gnssRf i = false ∧ t.isOn .meter = false ∧ (s.isOn .gnssRf i = true → t.st ⟨.gnssRf, i⟩ = 4)) ∧
  (∀ (s : State) (vbat : Bool), s.sup.railsOut.contains 4 = false → s.sup.mainOk = true →
      ∃ t, exec (.supplyMonitorTrip 4 vbat) s = .next t ∧ 4 ∈ t.sup.railsOut ∧ t.irqUp ⟨.meter, 0⟩ I.METER_CHANNEL_INVALID = true ∧ t.pg = s.pg) ∧
  (∀ (s : State) (rail : Nat) (vbat : Bool) (i : Nat), rail = 5 ∨ rail = 6 → s.sup.railsOut.contains rail = false → s.sup.mainOk = true → i < 2 →
      ∃ t, exec (.supplyMonitorTrip rail vbat) s = .next t ∧ rail ∈ t.sup.railsOut ∧ t.isOn .pcie = false ∧ t.isOn .eth i = false ∧ t.isOn .canal i = false) ∧
  (∀ (s : State) (vbat : Bool), s.sup.railsOut.contains 7 = false → s.sup.mainOk = true →
      ∃ t, exec (.supplyMonitorTrip 7 vbat) s = .next t ∧ 7 ∈ t.sup.railsOut ∧ t.isOn .dram = false ∧ (s.isOn .dram = true → t.st ⟨.dram, 0⟩ = 4)) ∧
  (∀ (s : State) (rail : Nat), s.sup.railsOut.contains rail = true → 2 < rail →
      ∃ t, exec (.railBackInRange rail) s = .next t ∧ t.sup.railsOut = s.sup.railsOut.filter (fun r => decide (r ≠ rail)) ∧ t.pg = s.pg ∧ t.ft = s.ft) ∧
  (∀ (s : State) (rail : Nat), s.sup.railsOut = [rail] → rail ≤ 2 → s.sup.mainOk = true →
      ∃ t, exec (.railBackInRange rail) s = .next t ∧ t.powered = true ∧ t.get F.RESET_CAUSE_CAUSE = 4 ∧ t.boot.romDone = false ∧ t.ft = s.rtcSec * 1000000000 * 2 ^ 32) ∧
  (∀ (s : State) (tj : Int), 1000 ≤ tj → s.powered = true → s.sup.vddGate = true →
      ∃ t, exec (.thermalTrip tj) s = .next t ∧ t.get F.RESET_CAUSE_CAUSE = 3 ∧ t.get F.TEMP_TRIPPED = 1 ∧ t.sup.tripHold = true ∧ bit (t.get F.CAUSES_HELD) 7 = true ∧ t.boot.romDone = false) ∧
  (∀ (s : State) (tj : Int), s.powered = true → 920 ≤ tj → tj < 32768 →
      ∃ t, exec (.tempWarn tj) s = .next t ∧ (t.get F.TEMP_TJ : Int) = tj ∧ t.get F.TEMP_WARN = 1 ∧ (s.get F.TEMP_WARN = 0 → t.irqUp ⟨.info, 0⟩ I.INFO_TEMP_WARN = true) ∧ t.sup = s.sup) ∧
  (∀ (s : State) (tj : Int), s.powered = true → tj < 920 → 0 ≤ tj → ∃ t, exec (.tempWarn tj) s = .next t ∧ (t.get F.TEMP_TJ : Int) = tj ∧ t.get F.TEMP_WARN = 0) ∧
  (∀ (s : State) (w : Nat) (head role recovN : Bool), 10000 ≤ w → s.powered = true → s.sup.vddGate = true →
      ∃ t, exec (.porst w head role recovN) s = .next t ∧ t.get F.RESET_CAUSE_CAUSE = 1 ∧ t.sup.strapHead = head ∧ t.sup.strapRole = role ∧ t.sup.recovN = recovN ∧ bit (t.get F.CAUSES_HELD) 7 = true ∧ t.boot.romDone = false) ∧
  (∀ (s : State) (w : Nat) (head role recovN : Bool), w < 1000 → exec (.porst w head role recovN) s = .next s) ∧
  (∀ (s : State) (tj : Int), tj < 840 → s.sup.tripHold = true → s.powered = true → s.boot.relDue = true →
      ∃ t, exec (.tjBelow105 tj) s = .next t ∧ t.sup.tripHold = false ∧ t.get F.SUP_STATUS_RUNNING = 1 ∧ t.boot.wdAt = some s.now ∧ t.boot.relDue = false) ∧
  (∀ (s : State) (auxEdges : Nat), auxGood auxEdges = true → s.clk.lost = false → ∃ t, exec (.auxclkReturn auxEdges) s = .next t ∧ t.get F.ROOT_STATUS_AUX_OK = 1 ∧ t.ft = s.ft ∧ t.get F.ROOT_STATUS_ON_AUX = s.get F.ROOT_STATUS_ON_AUX)

/-- ROM boot of a good bank and into recovery, BOOT_OK, the watchdog, and loading an image. (R387, R454, R455, R456,
R457, R461, R486) -/
def Obligations.BootAndImages : Prop :=
  (∀ (s : State) (copyOk : Bool) (i : Img), s.powered = true → s.boot.romDone = false → s.sup.keepValid = true → s.sup.tripHold = false → s.get F.LC_STATUS_STATE < 3 → s.key.torn = [] → s.sup.recovN = true → s.boot.dir.pref < 2 →
      s.boot.dir.state s.boot.dir.pref = 2 → imgOf (nth [] s.boot.banks s.boot.dir.pref) 0 = some i → s.imgCheck 0 i = 0 → i.version < 2 ^ 32 →
      ∃ t, exec (.romBoot copyOk) s = .next t ∧ t.get F.SUP_STATUS_RUNNING = 1 ∧ t.get F.BOOT_STATUS_BANK = s.boot.dir.pref ∧ t.get F.VERSION = i.version ∧ t.get F.BOOT_STATUS_IMG_OK = 1 ∧ t.get F.BOOT_STATUS_TRIAL = 0 ∧ t.get F.BOOT_STATUS_RECOVERY = 0 ∧
        t.boot.romDone = true ∧ t.boot.waiting = false ∧ t.boot.wdAt = some s.now ∧ t.key.meas = [i.hash, 0, 0, 0, 0] ∧ t.ctr ⟨.boot, 0⟩ C.BOOT_BOOTS = (s.ctr ⟨.boot, 0⟩ C.BOOT_BOOTS + 1) % 2 ^ 64) ∧
  (∀ (s : State) (copyOk : Bool), s.powered = true → s.boot.romDone = false → s.sup.keepValid = true → s.sup.recovN = false →
      ∃ t, exec (.romBoot copyOk) s = .next t ∧ t.boot.romDone = true ∧ t.boot.waiting = true ∧ t.get F.SUP_STATUS_RUNNING = s.get F.SUP_STATUS_RUNNING ∧ t.boot.linkAt = [s.now, s.now] ∧ t.ctr ⟨.boot, 0⟩ C.BOOT_RECOVERIES = (s.ctr ⟨.boot, 0⟩ C.BOOT_RECOVERIES + 1) % 2 ^ 64) ∧
  (∀ (s : State), s.boot.romDone = true → s.boot.waiting = false → s.boot.relDue = false → s.get F.PAIR_STATUS_STATE ≠ 1 →
      ∃ t, exec (.bootOk .sup) s = .next t ∧ t.boot.wdAt = none ∧ t.get F.BOOT_STATUS_BOOT_OK = 1 ∧ t.get F.SUP_STATUS_RUNNING = s.get F.SUP_STATUS_RUNNING) ∧
  (∀ (s : State), s.boot.romDone = true → s.boot.waiting = false → s.boot.relDue = false → s.get F.PAIR_STATUS_STATE = 1 →
      ∃ t, exec (.bootOk .sup) s = .next t ∧ t.boot.wdAt = none ∧ t.get F.BOOT_STATUS_BOOT_OK = 1 ∧ t.get F.SUP_STATUS_RUNNING = 0) ∧
  (∀ (s : State) (w : Nat), s.boot.wdAt = some w → w + sec 10 ≤ s.now → s.sup.vddGate = true →
      ∃ t, exec .keepWatchdog s = .next t ∧ t.get F.RESET_CAUSE_CAUSE = 2 ∧ t.boot.wdAt = none ∧ t.boot.romDone = false ∧ bit (t.get F.CAUSES_HELD) 7 = true) ∧
  (∀ (s : State) (k : Nat) (i : Img), s.get F.SUP_STATUS_RUNNING = 1 → s.boot.src < 3 → k < 5 → 1 ≤ k → imgOf (nth [] s.boot.banks s.boot.src) k = some i → s.imgCheck k i = 0 → i.version < 2 ^ 32 → s.key.meas.length = 5 →
      ∃ t, exec (.imageLoad k) s = .next t ∧ bit (t.get F.BOOT_STATUS_IMG_OK) k = true ∧ t.get F.VERSION 0 k = i.version ∧ nth 0 t.key.meas k = i.hash ∧ t.boot.refused = s.boot.refused.filter (fun x => decide (x ≠ k))) ∧
  (∀ (s : State) (k : Nat) (p : Page), s.get F.SUP_STATUS_RUNNING = 1 → s.boot.src < 3 → k < 5 → 1 ≤ k → imgOf (nth [] s.boot.banks s.boot.src) k = none → imageOf p.blk = some k → p ∈ allPages →
      ∃ t, exec (.imageLoad k) s = .next t ∧ bit (t.get F.BOOT_STATUS_IMG_OK) k = false ∧ k ∈ t.boot.refused ∧ t.getP p F.CTRL_EN = 0 ∧ t.isOn p.blk p.inst = false)

/-- Updates: VERIFY, PROGRAM, CANCEL, their ends, COMMIT; recovery: chunks, silence and the line rate. (R438, R454,
R459, R460, R461, R462, R463) -/
def Obligations.UpdateAndRecovery : Prop :=
  (∀ (s : State) (seen : List ImgSeen), s.isOn .boot = true → s.get F.UPD_STATUS_BUSY = 0 →
      ∃ t, exec (.updVerify seen) s = .next t ∧ t.get F.UPD_STATUS_BUSY = 1 ∧ t.get F.UPD_STATUS_RESULT = 0 ∧ t.boot.verified = false ∧ t.boot.job = some ⟨1, 0, false⟩ ∧ (s.get F.STAGE_LEN = 0 → t.boot.staged = []) ∧ t.boot.banks = s.boot.banks) ∧
  (∀ (s : State) (seen : List ImgSeen), s.isOn .boot = true → s.get F.UPD_STATUS_BUSY = 1 → ∃ t, exec (.updVerify seen) s = .next t ∧ t.get F.UPD_STATUS_RESULT = 14 ∧ t.boot = s.boot) ∧
  (∀ (s : State), s.isOn .boot = true → s.get F.UPD_STATUS_BUSY = 0 → s.get F.BOOT_STATUS_TRIAL = 0 → s.boot.verified = true → s.boot.banks.length = 3 → s.updTarget < 3 →
      ∃ t, exec .updProgram s = .next t ∧ t.get F.UPD_STATUS_BUSY = 1 ∧ t.get F.UPD_STATUS_RESULT = 0 ∧ t.boot.job = some ⟨2, s.updTarget, false⟩ ∧ nth [] t.boot.banks s.updTarget = [] ∧ t.boot.staged = s.boot.staged ∧ t.boot.dirs = s.boot.dirs) ∧
  (∀ (s : State), s.isOn .boot = true → s.get F.UPD_STATUS_BUSY = 0 → s.get F.BOOT_STATUS_TRIAL = 1 → ∃ t, exec .updProgram s = .next t ∧ t.get F.UPD_STATUS_RESULT = 11 ∧ t.boot = s.boot ∧ t.get F.UPD_STATUS_BUSY = 0) ∧
  (∀ (s : State), s.isOn .boot = true → s.get F.UPD_STATUS_BUSY = 0 → s.get F.BOOT_STATUS_TRIAL = 0 → s.boot.verified = false → ∃ t, exec .updProgram s = .next t ∧ t.get F.UPD_STATUS_RESULT = 10 ∧ t.boot = s.boot) ∧
  (∀ (s : State) (j : UpdJob), s.boot.job = some j → j.op = 2 → ∃ t, exec .updCancel s = .next t ∧ t.boot.job = some { j with cancel := true } ∧ t.regs = s.regs) ∧
  (∀ (s : State) (changed : Option Nat) (flashOk : Bool) (n : Nat) (j : UpdJob), s.boot.job = some j → j.op = 1 → (s.verifyResult s.boot.staged).1 < 16 →
      ∃ t, exec (.updDone changed flashOk n) s = .next t ∧ t.get F.UPD_STATUS_BUSY = 0 ∧ t.get F.UPD_STATUS_RESULT = (s.verifyResult s.boot.staged).1 ∧ t.boot.verified = decide ((s.verifyResult s.boot.staged).1 = 0) ∧ t.boot.job = none ∧
        t.irqUp ⟨.boot, 0⟩ I.BOOT_UPD_DONE = true) ∧
  (∀ (s : State) (n : Nat) (j : UpdJob), s.boot.job = some j → j.op = 2 → j.cancel = false → j.target < 2 → s.boot.banks.length = 3 → s.boot.dirs.length = 2 → n < 65536 →
      ∃ t, exec (.updDone none true n) s = .next t ∧ t.get F.UPD_STATUS_BUSY = 0 ∧ t.get F.UPD_STATUS_RESULT = 0 ∧ t.get F.UPD_STATUS_SECTORS = n ∧ nth [] t.boot.banks j.target = s.boot.staged ∧ t.boot.job = none ∧ t.ctr ⟨.boot, 0⟩ C.BOOT_PROGRAMS = (s.ctr ⟨.boot, 0⟩ C.BOOT_PROGRAMS + 1) % 2 ^ 64 ∧
        (nth {} t.boot.dirs (1 - s.boot.dirAt)).state j.target = 1 ∧ (nth {} t.boot.dirs (1 - s.boot.dirAt)).tries = 3 ∧ (nth {} t.boot.dirs (1 - s.boot.dirAt)).pref = j.target ∧ t.get F.DIR_SEQ = (s.boot.dir.dseq + 1) % 2 ^ 32 ∧
        t.irqUp ⟨.boot, 0⟩ I.BOOT_UPD_DONE = true) ∧
  (∀ (s : State) (changed : Option Nat) (n : Nat) (j : UpdJob), s.boot.job = some j → j.op = 2 → j.cancel = false → j.target < 2 → s.boot.dirs.length = 2 →
      ∃ t, exec (.updDone changed false n) s = .next t ∧ t.get F.UPD_STATUS_BUSY = 0 ∧ t.get F.UPD_STATUS_RESULT = 13 ∧ (nth {} t.boot.dirs (1 - s.boot.dirAt)).state j.target = 0 ∧ t.boot.banks = s.boot.banks) ∧
  (∀ (s : State) (k n : Nat) (j : UpdJob), s.boot.job = some j → j.op = 2 → j.cancel = false → k < 8 →
      ∃ t, exec (.updDone (some k) true n) s = .next t ∧ t.get F.UPD_STATUS_BUSY = 0 ∧ t.get F.UPD_STATUS_RESULT = 12 ∧ t.get F.UPD_STATUS_FAIL_TYPE = k ∧ t.boot.dirs = s.boot.dirs) ∧
  (∀ (s : State) (signer : Nat), s.commitOk = true → s.boot.dirs.length = 2 → s.boot.src < 2 →
      ∃ t, exec (.updCommit signer) s = .next t ∧ t.get F.BOOT_STATUS_TRIAL = 0 ∧ t.get F.BOOT_STATUS_TRIES = 0 ∧ (nth {} t.boot.dirs (1 - s.boot.dirAt)).state s.boot.src = 2 ∧ t.boot.banks = s.boot.banks ∧ t.get F.DIR_SEQ = (s.boot.dir.dseq + 1) % 2 ^ 32) ∧
  (∀ (s : State) (ch at_ len : Nat) (r : List Nat) (i : ImgSeen), ch = 1 ∨ ch = 2 → s.boot.waiting = true → s.boot.claim = some (ch, at_) → ofBytes (r.take 4) = s.boot.rcvNext → len = ofBytes ((r.drop 4).take 2) → 4 ≤ len → len ≤ 1024 → len % 4 = 0 →
      r.length = 12 + len → nth 0 r 6 = 0 → nth 0 r 7 = 0 → ofBytes ((r.drop (8 + len)).take 4) = crc32c (r.take (8 + len)) →
      ∃ t, exec (.recoveryChunk ch r i) s = .next t ∧ t.boot.rcvNext = s.boot.rcvNext + len ∧ t.boot.claim = some (ch, s.now) ∧ t.out = .rcvReply ch 0 0 (s.boot.rcvNext + len) :: s.out) ∧
  (∀ (s : State) (ch len : Nat) (r : List Nat) (i : ImgSeen), ch = 1 ∨ ch = 2 → s.rcvListens = true → len = ofBytes ((r.drop 4).take 2) → ofBytes ((r.drop (8 + len)).take 4) ≠ crc32c (r.take (8 + len)) →
      ∃ t, exec (.recoveryChunk ch r i) s = .next t ∧ t.boot = s.boot ∧ t.out = .rcvReply ch 2 0 s.boot.rcvNext :: s.out) ∧
  (∀ (s : State) (ch at_ len : Nat) (r : List Nat) (i : ImgSeen), ch = 1 ∨ ch = 2 → s.rcvListens = true → s.boot.claim = some (ch, at_) → ofBytes (r.take 4) ≠ s.boot.rcvNext → len = ofBytes ((r.drop 4).take 2) → 4 ≤ len → len ≤ 1024 → len % 4 = 0 →
      r.length = 12 + len → nth 0 r 6 = 0 → nth 0 r 7 = 0 → ofBytes ((r.drop (8 + len)).take 4) = crc32c (r.take (8 + len)) →
      ∃ t, exec (.recoveryChunk ch r i) s = .next t ∧ t.boot.rcvNext = s.boot.rcvNext ∧ t.out = .rcvReply ch 1 0 s.boot.rcvNext :: s.out) ∧
  (∀ (s : State) (i : ImgSeen), s.rcvListens = true → ofBytes ((((s.words ⟨.boot, 0⟩ 0x400 272).flatMap (toBytes 4)).drop 4).take 2) = 0 →
      ∃ t, exec (.rcvGo i) s = .next t ∧ t.get F.RCV_REPLY0 = 2 ∧ t.get F.RCV_REPLY1 = s.boot.rcvNext % 2 ^ 32 ∧ t.boot = s.boot ∧ t.irqUp ⟨.boot, 0⟩ I.BOOT_RCV_REPLY = true) ∧
  (∀ (s : State) (i : ImgSeen) (at_ len : Nat) (r : List Nat), s.boot.waiting = true → s.boot.claim = some (0, at_) → r = ((s.words ⟨.boot, 0⟩ 0x400 272).flatMap (toBytes 4)).take (12 + len) → ofBytes (r.take 4) = s.boot.rcvNext →
      len = ofBytes ((((s.words ⟨.boot, 0⟩ 0x400 272).flatMap (toBytes 4)).drop 4).take 2) → len = ofBytes ((r.drop 4).take 2) → 4 ≤ len → len ≤ 1024 → len % 4 = 0 → r.length = 12 + len → nth 0 r 6 = 0 → nth 0 r 7 = 0 →
      ofBytes ((r.drop (8 + len)).take 4) = crc32c (r.take (8 + len)) →
      ∃ t, exec (.rcvGo i) s = .next t ∧ t.boot.rcvNext = s.boot.rcvNext + len ∧ t.get F.RCV_REPLY0 = 0 ∧ t.get F.RCV_REPLY1 = (s.boot.rcvNext + len) % 2 ^ 32 ∧ t.irqUp ⟨.boot, 0⟩ I.BOOT_RCV_REPLY = true) ∧
  (∀ (s : State) (ch at_ : Nat), s.boot.claim = some (ch, at_) → at_ + sec 60 ≤ s.now → ∃ t, exec .recoverySilence s = .next t ∧ t.boot.claim = none ∧ t.boot.rcvNext = 0 ∧ t.regs = s.regs) ∧
  (∀ (s : State) (p : Nat), p < 2 → s.boot.waiting = true → s.get F.ETH_STATUS_LINK p = 0 → nth 0 s.boot.linkAt p + sec 2 ≤ s.now → s.boot.linkAt.length = 2 → s.get F.ETH_CFG_MODE p < 2 →
      ∃ t, exec (.recoveryLinkTry p) s = .next t ∧ t.get F.ETH_CFG_MODE p = 1 - s.get F.ETH_CFG_MODE p ∧ nth 0 t.boot.linkAt p = s.now)

/-- The event recorder's buckets, summaries, the saves of NEXT_SEQ and the batches of founding records. (R467, R468,
R469, R473) -/
def Obligations.EventRecorderUpkeep : Prop :=
  (∀ (s : State) (c : Nat) (b : Bucket), b ∈ s.ev.buckets → b.code = some c → (s.weirOf c).1 ≠ 0 → b.due ≤ s.now →
      ∃ t, exec (.weirTokenDue (some c)) s = .next t ∧ (∃ b' ∈ t.ev.buckets, b'.code = some c ∧ s.now < b'.due ∧ b'.tokens ≤ (s.weirOf c).2 ∧ min (s.weirOf c).2 (b.tokens + 1) ≤ b'.tokens) ∧ t.regs = s.regs) ∧
  (∀ (s : State), s.ev.global.due ≤ s.now → ∃ t, exec (.weirTokenDue none) s = .next t ∧ min 1024 (s.ev.global.tokens + 1) ≤ t.ev.global.tokens ∧ t.ev.global.tokens ≤ 1024 ∧ t.ev.buckets = s.ev.buckets) ∧
  (∀ (s : State) (c : Nat), ∃ t, exec (.weirBucketReturn c) s = .next t ∧ (∀ b ∈ s.ev.buckets, b.code = some c → s.bucketIdle c b = true → b ∉ t.ev.buckets) ∧ (∀ b ∈ s.ev.buckets, b.code ≠ some c ∨ s.bucketIdle c b = false → b ∈ t.ev.buckets)) ∧
  (∀ (s : State), s.fleetSec ≠ s.ev.lastSumSec → s.noCounter = false → ∃ t, exec .eventSummary s = .next t ∧ t.ev.lastSumSec = s.fleetSec ∧ (s.ev.suppressed = [] → t.ctr ⟨.evlog, 0⟩ C.EVLOG_SUMMARIES = s.ctr ⟨.evlog, 0⟩ C.EVLOG_SUMMARIES) ∧
        (s.ev.suppressed.length = 1 → t.ctr ⟨.evlog, 0⟩ C.EVLOG_SUMMARIES = (s.ctr ⟨.evlog, 0⟩ C.EVLOG_SUMMARIES + 1) % 2 ^ 64)) ∧
  (∀ (s : State), s.ev.saveAt ≤ s.now → s.get F.SUP_STATUS_RUNNING = 1 → s.ev.saves.length = 2 → s.ev.saveNext < 2 →
      ∃ t, exec .seqSave s = .next t ∧ nth none t.ev.saves s.ev.saveNext = some s.ev.nextSeq ∧ t.ev.saveNext = 1 - s.ev.saveNext ∧ nth none t.ev.saves (1 - s.ev.saveNext) = nth none s.ev.saves (1 - s.ev.saveNext) ∧ t.ev.saveAt = s.now + sec 3600) ∧
  (∀ (s : State) (n : Nat), s.get F.UPD_STATUS_BUSY = 0 →
      ∃ t, exec (.foundingBatch n) s = .next t ∧ t.ev.pendingFound = s.ev.pendingFound.drop n ∧ t.ev.founding = s.ev.founding ++ s.ev.pendingFound.take n ∧ t.ev.batchAt = s.now ∧
        t.ctr ⟨.evlog, 0⟩ C.EVLOG_FOUND_PROGRAMMED = (s.ctr ⟨.evlog, 0⟩ C.EVLOG_FOUND_PROGRAMMED + (s.ev.pendingFound.take n).length) % 2 ^ 64)
end

