-- ==== Sys2Proof/Laws/Data.lean ====
section
/-! SUPPORT. Laws of the sparse maps (read after write, the canonical form is kept) and of bit fields. -/
namespace Sys2Proof.Machine

/-! ### Sparse maps: read after write -/

theorem AMap.get_put_same {α : Type} (d : Nat → α) (m : AMap α) (k : Nat) (v : α) : AMap.get d (AMap.put m k v) k = v := by
  induction m with
  | nil => simp [AMap.put, AMap.get]
  | cons e r ih =>
    obtain ⟨k', v'⟩ := e
    unfold AMap.put
    split
    · simp [AMap.get]
    · split
      · simp [AMap.get]
      · rename_i h
        simp [AMap.get, h, ih]

theorem AMap.get_put_ne {α : Type} (d : Nat → α) (m : AMap α) (k : Nat) (v : α) (j : Nat) (h : j ≠ k) :
    AMap.get d (AMap.put m k v) j = AMap.get d m j := by
  induction m with
  | nil => simp [AMap.put, AMap.get, h]
  | cons e r ih =>
    obtain ⟨k', v'⟩ := e
    unfold AMap.put
    split
    · simp [AMap.get, h]
    · split
      · rename_i hk
        subst hk
        simp [AMap.get, h]
      · simp [AMap.get, ih]

theorem AMap.get_del_same {α : Type} (d : Nat → α) (m : AMap α) (k : Nat) : AMap.get d (AMap.del m k) k = d k := by
  induction m with
  | nil => simp [AMap.del, AMap.get]
  | cons e r ih =>
    obtain ⟨k', v'⟩ := e
    unfold AMap.del
    split
    · exact ih
    · rename_i h
      simp [AMap.get, h, ih]

theorem AMap.get_del_ne {α : Type} (d : Nat → α) (m : AMap α) (k j : Nat) (h : j ≠ k) :
    AMap.get d (AMap.del m k) j = AMap.get d m j := by
  induction m with
  | nil => simp [AMap.del]
  | cons e r ih =>
    obtain ⟨k', v'⟩ := e
    unfold AMap.del
    split
    · rename_i hk
      subst hk
      simp [AMap.get, h, ih]
    · simp [AMap.get, ih]

/-- A read of the key that was written gives the value written. -/
@[simp] theorem AMap.get_set_same {α : Type} [DecidableEq α] (d : Nat → α) (m : AMap α) (k : Nat) (v : α) :
    AMap.get d (AMap.set d m k v) k = v := by
  unfold AMap.set
  split
  · rename_i h
    rw [AMap.get_del_same, h]
  · exact AMap.get_put_same d m k v

/-- A write leaves every other key alone. -/
theorem AMap.get_set_ne {α : Type} [DecidableEq α] (d : Nat → α) (m : AMap α) (k : Nat) (v : α) (j : Nat) (h : j ≠ k) :
    AMap.get d (AMap.set d m k v) j = AMap.get d m j := by
  unfold AMap.set
  split
  · exact AMap.get_del_ne d m k j h
  · exact AMap.get_put_ne d m k v j h

/-- A range that is cleared reads as unlisted keys do, and every other key keeps its value. -/
theorem AMap.get_clearRange {α : Type} (d : Nat → α) (m : AMap α) (lo hi j : Nat) :
    AMap.get d (AMap.clearRange m lo hi) j = if lo ≤ j ∧ j < hi then d j else AMap.get d m j := by
  induction m with
  | nil => simp [AMap.clearRange, AMap.get]
  | cons e r ih =>
    obtain ⟨k', v'⟩ := e
    unfold AMap.clearRange at *
    rw [List.filter_cons]
    split
    · rename_i h
      simp only [AMap.get, ih]
      by_cases hj : j = k'
      · subst hj
        simp at h
        simp
        intro h1 h2
        omega
      · simp [hj]
    · rename_i h
      rw [ih]
      by_cases hj : j = k'
      · subst hj
        simp at h
        simp [h]
      · simp [AMap.get, hj]

/-! ### Sparse maps: the canonical form is kept -/

theorem AMap.sortedFrom_mono {α : Type} (m : AMap α) (a b : Nat) (h : a ≤ b) (hm : AMap.sortedFrom b m = true) :
    AMap.sortedFrom a m = true := by
  cases m with
  | nil => rfl
  | cons e r =>
    obtain ⟨k, v⟩ := e
    simp [AMap.sortedFrom] at hm ⊢
    exact ⟨by omega, hm.2⟩

theorem AMap.sortedFrom_put {α : Type} (m : AMap α) (lo k : Nat) (v : α) (hk : lo ≤ k) (hm : AMap.sortedFrom lo m = true) :
    AMap.sortedFrom lo (AMap.put m k v) = true := by
  induction m generalizing lo with
  | nil => simp [AMap.put, AMap.sortedFrom, hk]
  | cons e r ih =>
    obtain ⟨k', v'⟩ := e
    simp only [AMap.sortedFrom, Bool.and_eq_true, decide_eq_true_eq] at hm
    unfold AMap.put
    split
    · rename_i h
      simp [AMap.sortedFrom, hk, hm.2]
      omega
    · split
      · rename_i h
        subst h
        simp [AMap.sortedFrom, hk, hm.2]
      · simp [AMap.sortedFrom, hm.1]
        exact ih (k' + 1) (by omega) hm.2

theorem AMap.sortedFrom_filter {α : Type} (m : AMap α) (lo : Nat) (p : Nat × α → Bool) (hm : AMap.sortedFrom lo m = true) :
    AMap.sortedFrom lo (m.filter p) = true := by
  induction m generalizing lo with
  | nil => rfl
  | cons e r ih =>
    obtain ⟨k', v'⟩ := e
    simp only [AMap.sortedFrom, Bool.and_eq_true, decide_eq_true_eq] at hm
    rw [List.filter_cons]
    split
    · simp [AMap.sortedFrom, hm.1, ih (k' + 1) hm.2]
    · exact ih lo (AMap.sortedFrom_mono r lo (k' + 1) (by omega) hm.2)

theorem AMap.del_eq_filter {α : Type} (m : AMap α) (k : Nat) : AMap.del m k = m.filter fun e => decide (k ≠ e.1) := by
  induction m with
  | nil => rfl
  | cons e r ih =>
    obtain ⟨k', v'⟩ := e
    unfold AMap.del
    rw [List.filter_cons, ih]
    by_cases h : k = k' <;> simp [h]

theorem AMap.noDefault_filter {α : Type} [DecidableEq α] (d : Nat → α) (m : AMap α) (p : Nat × α → Bool)
    (hm : AMap.noDefault d m = true) : AMap.noDefault d (m.filter p) = true := by
  induction m with
  | nil => rfl
  | cons e r ih =>
    obtain ⟨k', v'⟩ := e
    simp only [AMap.noDefault, Bool.and_eq_true, decide_eq_true_eq] at hm
    rw [List.filter_cons]
    split
    · simp [AMap.noDefault, hm.1, ih hm.2]
    · exact ih hm.2

theorem AMap.noDefault_put {α : Type} [DecidableEq α] (d : Nat → α) (m : AMap α) (k : Nat) (v : α) (hv : v ≠ d k)
    (hm : AMap.noDefault d m = true) : AMap.noDefault d (AMap.put m k v) = true := by
  induction m with
  | nil => simp [AMap.put, AMap.noDefault, hv]
  | cons e r ih =>
    obtain ⟨k', v'⟩ := e
    simp only [AMap.noDefault, Bool.and_eq_true, decide_eq_true_eq] at hm
    unfold AMap.put
    split
    · simp [AMap.noDefault, hv, hm.1, hm.2]
    · split
      · rename_i h
        subst h
        simp [AMap.noDefault, hv, hm.2]
      · simp [AMap.noDefault, hm.1, ih hm.2]

/-- Filtering keeps the canonical form. -/
theorem AMap.wf_filter {α : Type} [DecidableEq α] (d : Nat → α) (m : AMap α) (p : Nat × α → Bool) (hm : AMap.wf d m = true) :
    AMap.wf d (m.filter p) = true := by
  simp only [AMap.wf, Bool.and_eq_true] at hm ⊢
  exact ⟨AMap.sortedFrom_filter m 0 p hm.1, AMap.noDefault_filter d m p hm.2⟩

/-- A write keeps the canonical form. -/
theorem AMap.wf_set {α : Type} [DecidableEq α] (d : Nat → α) (m : AMap α) (k : Nat) (v : α) (hm : AMap.wf d m = true) :
    AMap.wf d (AMap.set d m k v) = true := by
  unfold AMap.set
  split
  · rw [AMap.del_eq_filter]
    exact AMap.wf_filter d m _ hm
  · rename_i hv
    simp only [AMap.wf, Bool.and_eq_true] at hm ⊢
    exact ⟨AMap.sortedFrom_put m 0 k v (Nat.zero_le k) hm.1, AMap.noDefault_put d m k v hv hm.2⟩

/-- Removing a key keeps the canonical form. -/
theorem AMap.wf_del {α : Type} [DecidableEq α] (d : Nat → α) (m : AMap α) (k : Nat) (hm : AMap.wf d m = true) :
    AMap.wf d (AMap.del m k) = true := by
  rw [AMap.del_eq_filter]
  exact AMap.wf_filter d m _ hm

/-- Clearing a range keeps the canonical form. -/
theorem AMap.wf_clearRange {α : Type} [DecidableEq α] (d : Nat → α) (m : AMap α) (lo hi : Nat) (hm : AMap.wf d m = true) :
    AMap.wf d (AMap.clearRange m lo hi) = true := AMap.wf_filter d m _ hm

/-- The empty contents are in canonical form. -/
theorem AMap.wf_nil {α : Type} [DecidableEq α] (d : Nat → α) : AMap.wf d ([] : AMap α) = true := rfl

/-! ### Bit fields -/

theorem bits_le (x l w : Nat) : bits x l w * 2 ^ l ≤ x := by
  unfold bits
  exact le_trans (Nat.mul_le_mul_right _ (Nat.mod_le _ _)) (Nat.div_mul_le_self x (2 ^ l))

theorem bits_lt (x l w : Nat) : bits x l w < 2 ^ w := Nat.mod_lt _ (Nat.two_pow_pos w)

/-- A number cut at a field: the bits above it, the field, the bits below it. -/
theorem bits_split (x l w : Nat) : x = x / 2 ^ (l + w) * 2 ^ (l + w) + bits x l w * 2 ^ l + x % 2 ^ l := by
  unfold bits
  have h1 := Nat.div_add_mod x (2 ^ l)
  have h2 := Nat.div_add_mod (x / 2 ^ l) (2 ^ w)
  rw [Nat.div_div_eq_div_mul, ← pow_add] at h2
  have h3 : 2 ^ (l + w) = 2 ^ l * 2 ^ w := pow_add 2 l w
  rw [h3] at h2 ⊢
  generalize x / (2 ^ l * 2 ^ w) = a at *
  generalize x / 2 ^ l % 2 ^ w = b at *
  generalize x % 2 ^ l = c at *
  rw [← h1, ← h2]
  ring

theorem setBits_eq (x l w v : Nat) :
    setBits x l w v = x / 2 ^ (l + w) * 2 ^ (l + w) + v % 2 ^ w * 2 ^ l + x % 2 ^ l := by
  unfold setBits
  have h := bits_split x l w
  omega

/-- A field that was set reads as its new value. -/
theorem bits_setBits_same (x l w v : Nat) : bits (setBits x l w v) l w = v % 2 ^ w := by
  rw [setBits_eq, pow_add]
  unfold bits
  have h : x / (2 ^ l * 2 ^ w) * (2 ^ l * 2 ^ w) + v % 2 ^ w * 2 ^ l + x % 2 ^ l =
      x % 2 ^ l + 2 ^ l * (v % 2 ^ w + 2 ^ w * (x / (2 ^ l * 2 ^ w))) := by ring
  rw [h, Nat.add_mul_div_left _ _ (Nat.two_pow_pos l), Nat.div_eq_of_lt (Nat.mod_lt _ (Nat.two_pow_pos l)), Nat.zero_add,
    Nat.add_mul_mod_self_left, Nat.mod_mod]

theorem setBits_div (x l w v : Nat) : setBits x l w v / 2 ^ (l + w) = x / 2 ^ (l + w) := by
  rw [setBits_eq]
  have hb : v % 2 ^ w * 2 ^ l + x % 2 ^ l < 2 ^ (l + w) := by
    have h1 : v % 2 ^ w + 1 ≤ 2 ^ w := Nat.mod_lt _ (Nat.two_pow_pos w)
    have h2 : x % 2 ^ l < 2 ^ l := Nat.mod_lt _ (Nat.two_pow_pos l)
    have h3 := Nat.mul_le_mul_right (2 ^ l) h1
    rw [pow_add, Nat.mul_comm (2 ^ l)]
    rw [Nat.add_mul] at h3
    omega
  rw [Nat.add_assoc, Nat.add_comm, Nat.add_mul_div_right _ _ (Nat.two_pow_pos _), Nat.div_eq_of_lt hb, Nat.zero_add]

theorem setBits_mod (x l w v : Nat) : setBits x l w v % 2 ^ l = x % 2 ^ l := by
  rw [setBits_eq, pow_add]
  have h : x / (2 ^ l * 2 ^ w) * (2 ^ l * 2 ^ w) + v % 2 ^ w * 2 ^ l + x % 2 ^ l =
      x % 2 ^ l + 2 ^ l * (v % 2 ^ w + 2 ^ w * (x / (2 ^ l * 2 ^ w))) := by ring
  rw [h, Nat.add_mul_mod_self_left, Nat.mod_mod]

/-- A field above the one that was set keeps its value. -/
theorem bits_setBits_above (x l w v l' w' : Nat) (h : l + w ≤ l') : bits (setBits x l w v) l' w' = bits x l' w' := by
  obtain ⟨k, rfl⟩ := Nat.exists_eq_add_of_le h
  unfold bits
  rw [pow_add 2 (l + w) k, ← Nat.div_div_eq_div_mul, ← Nat.div_div_eq_div_mul, setBits_div]

/-- A field below the one that was set keeps its value. -/
theorem bits_setBits_below (x l w v l' w' : Nat) (h : l' + w' ≤ l) : bits (setBits x l w v) l' w' = bits x l' w' := by
  have key : ∀ y : Nat, bits y l' w' = bits (y % 2 ^ l) l' w' := by
    intro y
    obtain ⟨k, rfl⟩ := Nat.exists_eq_add_of_le h
    unfold bits
    rw [pow_add, pow_add, Nat.mul_assoc, Nat.mod_mul, Nat.add_mul_div_left _ _ (Nat.two_pow_pos l'),
      Nat.div_eq_of_lt (Nat.mod_lt _ (Nat.two_pow_pos l')), Nat.zero_add, Nat.mod_mul_right_mod]
  rw [key, setBits_mod, ← key]

/-- A field set within 32 bits leaves a number of 32 bits. -/
theorem setBits_lt (x l w v : Nat) (h : l + w ≤ 32) (hx : x < 2 ^ 32) : setBits x l w v < 2 ^ 32 := by
  obtain ⟨k, hk⟩ := Nat.exists_eq_add_of_le h
  have h1 : setBits x l w v / 2 ^ (l + w) < 2 ^ k := by
    rw [setBits_div, Nat.div_lt_iff_lt_mul (Nat.two_pow_pos _), ← pow_add, Nat.add_comm k, ← hk]
    exact hx
  rw [Nat.div_lt_iff_lt_mul (Nat.two_pow_pos _), ← pow_add, Nat.add_comm k, ← hk] at h1
  exact h1

end Sys2Proof.Machine
end

