-- ==== Sys2Proof/Laws/State.lean ====
section
/-! SUPPORT. The state updates that everything is written with: what each leaves alone, field by field, and what a register
field, a counter, a table entry, or a page reads as after a write. -/
namespace Sys2Proof.Machine
open Sys2Proof

/-! ### What each update leaves alone -/

@[simp] theorem State.setReg_pending (s : State) (a v : Nat) : (s.setReg a v).pending = s.pending := rfl
@[simp] theorem State.setReg_now (s : State) (a v : Nat) : (s.setReg a v).now = s.now := rfl
@[simp] theorem State.setReg_ft (s : State) (a v : Nat) : (s.setReg a v).ft = s.ft := rfl
@[simp] theorem State.setReg_fresh (s : State) (a v : Nat) : (s.setReg a v).fresh = s.fresh := rfl
@[simp] theorem State.setReg_ctrs (s : State) (a v : Nat) : (s.setReg a v).ctrs = s.ctrs := rfl
@[simp] theorem State.setReg_latch (s : State) (a v : Nat) : (s.setReg a v).latch = s.latch := rfl
@[simp] theorem State.setReg_tbl (s : State) (a v : Nat) : (s.setReg a v).tbl = s.tbl := rfl
@[simp] theorem State.setReg_dram (s : State) (a v : Nat) : (s.setReg a v).dram = s.dram := rfl
@[simp] theorem State.setReg_pg (s : State) (a v : Nat) : (s.setReg a v).pg = s.pg := rfl
@[simp] theorem State.setReg_once (s : State) (a v : Nat) : (s.setReg a v).once = s.once := rfl
@[simp] theorem State.setReg_tags (s : State) (a v : Nat) : (s.setReg a v).tags = s.tags := rfl
@[simp] theorem State.setReg_vecSent (s : State) (a v : Nat) : (s.setReg a v).vecSent = s.vecSent := rfl
@[simp] theorem State.setReg_vecMask (s : State) (a v : Nat) : (s.setReg a v).vecMask = s.vecMask := rfl
@[simp] theorem State.setReg_fq (s : State) (a v : Nat) : (s.setReg a v).fq = s.fq := rfl
@[simp] theorem State.setReg_ev (s : State) (a v : Nat) : (s.setReg a v).ev = s.ev := rfl
@[simp] theorem State.setReg_out (s : State) (a v : Nat) : (s.setReg a v).out = s.out := rfl
@[simp] theorem State.setReg_canal (s : State) (a v : Nat) : (s.setReg a v).canal = s.canal := rfl
@[simp] theorem State.setReg_hg (s : State) (a v : Nat) : (s.setReg a v).hg = s.hg := rfl
@[simp] theorem State.setReg_flt (s : State) (a v : Nat) : (s.setReg a v).flt = s.flt := rfl
@[simp] theorem State.setReg_sup (s : State) (a v : Nat) : (s.setReg a v).sup = s.sup := rfl
@[simp] theorem State.setReg_held (s : State) (a v : Nat) : (s.setReg a v).held = s.held := rfl
@[simp] theorem State.setReg_air (s : State) (a v : Nat) : (s.setReg a v).air = s.air := rfl
@[simp] theorem State.setReg_arb (s : State) (a v : Nat) : (s.setReg a v).arb = s.arb := rfl
@[simp] theorem State.setReg_lk (s : State) (a v : Nat) : (s.setReg a v).lk = s.lk := rfl
@[simp] theorem State.setReg_pair (s : State) (a v : Nat) : (s.setReg a v).pair = s.pair := rfl
@[simp] theorem State.setReg_gn (s : State) (a v : Nat) : (s.setReg a v).gn = s.gn := rfl
@[simp] theorem State.setReg_tm (s : State) (a v : Nat) : (s.setReg a v).tm = s.tm := rfl
@[simp] theorem State.setReg_disp (s : State) (a v : Nat) : (s.setReg a v).disp = s.disp := rfl
@[simp] theorem State.setReg_ls (s : State) (a v : Nat) : (s.setReg a v).ls = s.ls := rfl
@[simp] theorem State.setReg_mot (s : State) (a v : Nat) : (s.setReg a v).mot = s.mot := rfl
@[simp] theorem State.setReg_motNsp (s : State) (a v : Nat) : (s.setReg a v).motNsp = s.motNsp := rfl
@[simp] theorem State.setReg_rtk (s : State) (a v : Nat) : (s.setReg a v).rtk = s.rtk := rfl
@[simp] theorem State.setReg_rt (s : State) (a v : Nat) : (s.setReg a v).rt = s.rt := rfl
@[simp] theorem State.setReg_clk (s : State) (a v : Nat) : (s.setReg a v).clk = s.clk := rfl
@[simp] theorem State.setReg_met (s : State) (a v : Nat) : (s.setReg a v).met = s.met := rfl
@[simp] theorem State.setReg_key (s : State) (a v : Nat) : (s.setReg a v).key = s.key := rfl
@[simp] theorem State.setReg_dbg (s : State) (a v : Nat) : (s.setReg a v).dbg = s.dbg := rfl
@[simp] theorem State.setReg_boot (s : State) (a v : Nat) : (s.setReg a v).boot = s.boot := rfl

@[simp] theorem State.set_pending (s : State) (F : Fld) (v i k : Nat) : (s.set F v i k).pending = s.pending := rfl
@[simp] theorem State.set_now (s : State) (F : Fld) (v i k : Nat) : (s.set F v i k).now = s.now := rfl
@[simp] theorem State.set_ft (s : State) (F : Fld) (v i k : Nat) : (s.set F v i k).ft = s.ft := rfl
@[simp] theorem State.set_fresh (s : State) (F : Fld) (v i k : Nat) : (s.set F v i k).fresh = s.fresh := rfl
@[simp] theorem State.set_ctrs (s : State) (F : Fld) (v i k : Nat) : (s.set F v i k).ctrs = s.ctrs := rfl
@[simp] theorem State.set_latch (s : State) (F : Fld) (v i k : Nat) : (s.set F v i k).latch = s.latch := rfl
@[simp] theorem State.set_tbl (s : State) (F : Fld) (v i k : Nat) : (s.set F v i k).tbl = s.tbl := rfl
@[simp] theorem State.set_dram (s : State) (F : Fld) (v i k : Nat) : (s.set F v i k).dram = s.dram := rfl
@[simp] theorem State.set_pg (s : State) (F : Fld) (v i k : Nat) : (s.set F v i k).pg = s.pg := rfl
@[simp] theorem State.set_once (s : State) (F : Fld) (v i k : Nat) : (s.set F v i k).once = s.once := rfl
@[simp] theorem State.set_tags (s : State) (F : Fld) (v i k : Nat) : (s.set F v i k).tags = s.tags := rfl
@[simp] theorem State.set_vecSent (s : State) (F : Fld) (v i k : Nat) : (s.set F v i k).vecSent = s.vecSent := rfl
@[simp] theorem State.set_vecMask (s : State) (F : Fld) (v i k : Nat) : (s.set F v i k).vecMask = s.vecMask := rfl
@[simp] theorem State.set_fq (s : State) (F : Fld) (v i k : Nat) : (s.set F v i k).fq = s.fq := rfl
@[simp] theorem State.set_ev (s : State) (F : Fld) (v i k : Nat) : (s.set F v i k).ev = s.ev := rfl
@[simp] theorem State.set_out (s : State) (F : Fld) (v i k : Nat) : (s.set F v i k).out = s.out := rfl
@[simp] theorem State.set_canal (s : State) (F : Fld) (v i k : Nat) : (s.set F v i k).canal = s.canal := rfl
@[simp] theorem State.set_hg (s : State) (F : Fld) (v i k : Nat) : (s.set F v i k).hg = s.hg := rfl
@[simp] theorem State.set_flt (s : State) (F : Fld) (v i k : Nat) : (s.set F v i k).flt = s.flt := rfl
@[simp] theorem State.set_sup (s : State) (F : Fld) (v i k : Nat) : (s.set F v i k).sup = s.sup := rfl
@[simp] theorem State.set_held (s : State) (F : Fld) (v i k : Nat) : (s.set F v i k).held = s.held := rfl
@[simp] theorem State.set_air (s : State) (F : Fld) (v i k : Nat) : (s.set F v i k).air = s.air := rfl
@[simp] theorem State.set_arb (s : State) (F : Fld) (v i k : Nat) : (s.set F v i k).arb = s.arb := rfl
@[simp] theorem State.set_lk (s : State) (F : Fld) (v i k : Nat) : (s.set F v i k).lk = s.lk := rfl
@[simp] theorem State.set_pair (s : State) (F : Fld) (v i k : Nat) : (s.set F v i k).pair = s.pair := rfl
@[simp] theorem State.set_gn (s : State) (F : Fld) (v i k : Nat) : (s.set F v i k).gn = s.gn := rfl
@[simp] theorem State.set_tm (s : State) (F : Fld) (v i k : Nat) : (s.set F v i k).tm = s.tm := rfl
@[simp] theorem State.set_disp (s : State) (F : Fld) (v i k : Nat) : (s.set F v i k).disp = s.disp := rfl
@[simp] theorem State.set_ls (s : State) (F : Fld) (v i k : Nat) : (s.set F v i k).ls = s.ls := rfl
@[simp] theorem State.set_mot (s : State) (F : Fld) (v i k : Nat) : (s.set F v i k).mot = s.mot := rfl
@[simp] theorem State.set_motNsp (s : State) (F : Fld) (v i k : Nat) : (s.set F v i k).motNsp = s.motNsp := rfl
@[simp] theorem State.set_rtk (s : State) (F : Fld) (v i k : Nat) : (s.set F v i k).rtk = s.rtk := rfl
@[simp] theorem State.set_rt (s : State) (F : Fld) (v i k : Nat) : (s.set F v i k).rt = s.rt := rfl
@[simp] theorem State.set_clk (s : State) (F : Fld) (v i k : Nat) : (s.set F v i k).clk = s.clk := rfl
@[simp] theorem State.set_met (s : State) (F : Fld) (v i k : Nat) : (s.set F v i k).met = s.met := rfl
@[simp] theorem State.set_key (s : State) (F : Fld) (v i k : Nat) : (s.set F v i k).key = s.key := rfl
@[simp] theorem State.set_dbg (s : State) (F : Fld) (v i k : Nat) : (s.set F v i k).dbg = s.dbg := rfl
@[simp] theorem State.set_boot (s : State) (F : Fld) (v i k : Nat) : (s.set F v i k).boot = s.boot := rfl

@[simp] theorem State.setP_pending (s : State) (p : Page) (F : Fld) (v : Nat) : (s.setP p F v).pending = s.pending := rfl
@[simp] theorem State.setP_now (s : State) (p : Page) (F : Fld) (v : Nat) : (s.setP p F v).now = s.now := rfl
@[simp] theorem State.setP_ft (s : State) (p : Page) (F : Fld) (v : Nat) : (s.setP p F v).ft = s.ft := rfl
@[simp] theorem State.setP_fresh (s : State) (p : Page) (F : Fld) (v : Nat) : (s.setP p F v).fresh = s.fresh := rfl
@[simp] theorem State.setP_ctrs (s : State) (p : Page) (F : Fld) (v : Nat) : (s.setP p F v).ctrs = s.ctrs := rfl
@[simp] theorem State.setP_latch (s : State) (p : Page) (F : Fld) (v : Nat) : (s.setP p F v).latch = s.latch := rfl
@[simp] theorem State.setP_tbl (s : State) (p : Page) (F : Fld) (v : Nat) : (s.setP p F v).tbl = s.tbl := rfl
@[simp] theorem State.setP_dram (s : State) (p : Page) (F : Fld) (v : Nat) : (s.setP p F v).dram = s.dram := rfl
@[simp] theorem State.setP_pg (s : State) (p : Page) (F : Fld) (v : Nat) : (s.setP p F v).pg = s.pg := rfl
@[simp] theorem State.setP_once (s : State) (p : Page) (F : Fld) (v : Nat) : (s.setP p F v).once = s.once := rfl
@[simp] theorem State.setP_tags (s : State) (p : Page) (F : Fld) (v : Nat) : (s.setP p F v).tags = s.tags := rfl
@[simp] theorem State.setP_vecSent (s : State) (p : Page) (F : Fld) (v : Nat) : (s.setP p F v).vecSent = s.vecSent := rfl
@[simp] theorem State.setP_vecMask (s : State) (p : Page) (F : Fld) (v : Nat) : (s.setP p F v).vecMask = s.vecMask := rfl
@[simp] theorem State.setP_fq (s : State) (p : Page) (F : Fld) (v : Nat) : (s.setP p F v).fq = s.fq := rfl
@[simp] theorem State.setP_ev (s : State) (p : Page) (F : Fld) (v : Nat) : (s.setP p F v).ev = s.ev := rfl
@[simp] theorem State.setP_out (s : State) (p : Page) (F : Fld) (v : Nat) : (s.setP p F v).out = s.out := rfl
@[simp] theorem State.setP_canal (s : State) (p : Page) (F : Fld) (v : Nat) : (s.setP p F v).canal = s.canal := rfl
@[simp] theorem State.setP_hg (s : State) (p : Page) (F : Fld) (v : Nat) : (s.setP p F v).hg = s.hg := rfl
@[simp] theorem State.setP_flt (s : State) (p : Page) (F : Fld) (v : Nat) : (s.setP p F v).flt = s.flt := rfl
@[simp] theorem State.setP_sup (s : State) (p : Page) (F : Fld) (v : Nat) : (s.setP p F v).sup = s.sup := rfl
@[simp] theorem State.setP_held (s : State) (p : Page) (F : Fld) (v : Nat) : (s.setP p F v).held = s.held := rfl
@[simp] theorem State.setP_air (s : State) (p : Page) (F : Fld) (v : Nat) : (s.setP p F v).air = s.air := rfl
@[simp] theorem State.setP_arb (s : State) (p : Page) (F : Fld) (v : Nat) : (s.setP p F v).arb = s.arb := rfl
@[simp] theorem State.setP_lk (s : State) (p : Page) (F : Fld) (v : Nat) : (s.setP p F v).lk = s.lk := rfl
@[simp] theorem State.setP_pair (s : State) (p : Page) (F : Fld) (v : Nat) : (s.setP p F v).pair = s.pair := rfl
@[simp] theorem State.setP_gn (s : State) (p : Page) (F : Fld) (v : Nat) : (s.setP p F v).gn = s.gn := rfl
@[simp] theorem State.setP_tm (s : State) (p : Page) (F : Fld) (v : Nat) : (s.setP p F v).tm = s.tm := rfl
@[simp] theorem State.setP_disp (s : State) (p : Page) (F : Fld) (v : Nat) : (s.setP p F v).disp = s.disp := rfl
@[simp] theorem State.setP_ls (s : State) (p : Page) (F : Fld) (v : Nat) : (s.setP p F v).ls = s.ls := rfl
@[simp] theorem State.setP_mot (s : State) (p : Page) (F : Fld) (v : Nat) : (s.setP p F v).mot = s.mot := rfl
@[simp] theorem State.setP_motNsp (s : State) (p : Page) (F : Fld) (v : Nat) : (s.setP p F v).motNsp = s.motNsp := rfl
@[simp] theorem State.setP_rtk (s : State) (p : Page) (F : Fld) (v : Nat) : (s.setP p F v).rtk = s.rtk := rfl
@[simp] theorem State.setP_rt (s : State) (p : Page) (F : Fld) (v : Nat) : (s.setP p F v).rt = s.rt := rfl
@[simp] theorem State.setP_clk (s : State) (p : Page) (F : Fld) (v : Nat) : (s.setP p F v).clk = s.clk := rfl
@[simp] theorem State.setP_met (s : State) (p : Page) (F : Fld) (v : Nat) : (s.setP p F v).met = s.met := rfl
@[simp] theorem State.setP_key (s : State) (p : Page) (F : Fld) (v : Nat) : (s.setP p F v).key = s.key := rfl
@[simp] theorem State.setP_dbg (s : State) (p : Page) (F : Fld) (v : Nat) : (s.setP p F v).dbg = s.dbg := rfl
@[simp] theorem State.setP_boot (s : State) (p : Page) (F : Fld) (v : Nat) : (s.setP p F v).boot = s.boot := rfl

@[simp] theorem State.set64_pending (s : State) (a b : Fld) (v i : Nat) : (s.set64 a b v i).pending = s.pending := rfl
@[simp] theorem State.set64_now (s : State) (a b : Fld) (v i : Nat) : (s.set64 a b v i).now = s.now := rfl
@[simp] theorem State.set64_ft (s : State) (a b : Fld) (v i : Nat) : (s.set64 a b v i).ft = s.ft := rfl
@[simp] theorem State.set64_fresh (s : State) (a b : Fld) (v i : Nat) : (s.set64 a b v i).fresh = s.fresh := rfl
@[simp] theorem State.set64_ctrs (s : State) (a b : Fld) (v i : Nat) : (s.set64 a b v i).ctrs = s.ctrs := rfl
@[simp] theorem State.set64_latch (s : State) (a b : Fld) (v i : Nat) : (s.set64 a b v i).latch = s.latch := rfl
@[simp] theorem State.set64_tbl (s : State) (a b : Fld) (v i : Nat) : (s.set64 a b v i).tbl = s.tbl := rfl
@[simp] theorem State.set64_dram (s : State) (a b : Fld) (v i : Nat) : (s.set64 a b v i).dram = s.dram := rfl
@[simp] theorem State.set64_pg (s : State) (a b : Fld) (v i : Nat) : (s.set64 a b v i).pg = s.pg := rfl
@[simp] theorem State.set64_once (s : State) (a b : Fld) (v i : Nat) : (s.set64 a b v i).once = s.once := rfl
@[simp] theorem State.set64_tags (s : State) (a b : Fld) (v i : Nat) : (s.set64 a b v i).tags = s.tags := rfl
@[simp] theorem State.set64_vecSent (s : State) (a b : Fld) (v i : Nat) : (s.set64 a b v i).vecSent = s.vecSent := rfl
@[simp] theorem State.set64_vecMask (s : State) (a b : Fld) (v i : Nat) : (s.set64 a b v i).vecMask = s.vecMask := rfl
@[simp] theorem State.set64_fq (s : State) (a b : Fld) (v i : Nat) : (s.set64 a b v i).fq = s.fq := rfl
@[simp] theorem State.set64_ev (s : State) (a b : Fld) (v i : Nat) : (s.set64 a b v i).ev = s.ev := rfl
@[simp] theorem State.set64_out (s : State) (a b : Fld) (v i : Nat) : (s.set64 a b v i).out = s.out := rfl
@[simp] theorem State.set64_canal (s : State) (a b : Fld) (v i : Nat) : (s.set64 a b v i).canal = s.canal := rfl
@[simp] theorem State.set64_hg (s : State) (a b : Fld) (v i : Nat) : (s.set64 a b v i).hg = s.hg := rfl
@[simp] theorem State.set64_flt (s : State) (a b : Fld) (v i : Nat) : (s.set64 a b v i).flt = s.flt := rfl
@[simp] theorem State.set64_sup (s : State) (a b : Fld) (v i : Nat) : (s.set64 a b v i).sup = s.sup := rfl
@[simp] theorem State.set64_held (s : State) (a b : Fld) (v i : Nat) : (s.set64 a b v i).held = s.held := rfl
@[simp] theorem State.set64_air (s : State) (a b : Fld) (v i : Nat) : (s.set64 a b v i).air = s.air := rfl
@[simp] theorem State.set64_arb (s : State) (a b : Fld) (v i : Nat) : (s.set64 a b v i).arb = s.arb := rfl
@[simp] theorem State.set64_lk (s : State) (a b : Fld) (v i : Nat) : (s.set64 a b v i).lk = s.lk := rfl
@[simp] theorem State.set64_pair (s : State) (a b : Fld) (v i : Nat) : (s.set64 a b v i).pair = s.pair := rfl
@[simp] theorem State.set64_gn (s : State) (a b : Fld) (v i : Nat) : (s.set64 a b v i).gn = s.gn := rfl
@[simp] theorem State.set64_tm (s : State) (a b : Fld) (v i : Nat) : (s.set64 a b v i).tm = s.tm := rfl
@[simp] theorem State.set64_disp (s : State) (a b : Fld) (v i : Nat) : (s.set64 a b v i).disp = s.disp := rfl
@[simp] theorem State.set64_ls (s : State) (a b : Fld) (v i : Nat) : (s.set64 a b v i).ls = s.ls := rfl
@[simp] theorem State.set64_mot (s : State) (a b : Fld) (v i : Nat) : (s.set64 a b v i).mot = s.mot := rfl
@[simp] theorem State.set64_motNsp (s : State) (a b : Fld) (v i : Nat) : (s.set64 a b v i).motNsp = s.motNsp := rfl
@[simp] theorem State.set64_rtk (s : State) (a b : Fld) (v i : Nat) : (s.set64 a b v i).rtk = s.rtk := rfl
@[simp] theorem State.set64_rt (s : State) (a b : Fld) (v i : Nat) : (s.set64 a b v i).rt = s.rt := rfl
@[simp] theorem State.set64_clk (s : State) (a b : Fld) (v i : Nat) : (s.set64 a b v i).clk = s.clk := rfl
@[simp] theorem State.set64_met (s : State) (a b : Fld) (v i : Nat) : (s.set64 a b v i).met = s.met := rfl
@[simp] theorem State.set64_key (s : State) (a b : Fld) (v i : Nat) : (s.set64 a b v i).key = s.key := rfl
@[simp] theorem State.set64_dbg (s : State) (a b : Fld) (v i : Nat) : (s.set64 a b v i).dbg = s.dbg := rfl
@[simp] theorem State.set64_boot (s : State) (a b : Fld) (v i : Nat) : (s.set64 a b v i).boot = s.boot := rfl

@[simp] theorem State.incLost_pending (s : State) (F : Fld) (n : Nat) : (s.incLost F n).pending = s.pending := rfl
@[simp] theorem State.incLost_now (s : State) (F : Fld) (n : Nat) : (s.incLost F n).now = s.now := rfl
@[simp] theorem State.incLost_ft (s : State) (F : Fld) (n : Nat) : (s.incLost F n).ft = s.ft := rfl
@[simp] theorem State.incLost_fresh (s : State) (F : Fld) (n : Nat) : (s.incLost F n).fresh = s.fresh := rfl
@[simp] theorem State.incLost_ctrs (s : State) (F : Fld) (n : Nat) : (s.incLost F n).ctrs = s.ctrs := rfl
@[simp] theorem State.incLost_latch (s : State) (F : Fld) (n : Nat) : (s.incLost F n).latch = s.latch := rfl
@[simp] theorem State.incLost_tbl (s : State) (F : Fld) (n : Nat) : (s.incLost F n).tbl = s.tbl := rfl
@[simp] theorem State.incLost_dram (s : State) (F : Fld) (n : Nat) : (s.incLost F n).dram = s.dram := rfl
@[simp] theorem State.incLost_pg (s : State) (F : Fld) (n : Nat) : (s.incLost F n).pg = s.pg := rfl
@[simp] theorem State.incLost_once (s : State) (F : Fld) (n : Nat) : (s.incLost F n).once = s.once := rfl
@[simp] theorem State.incLost_tags (s : State) (F : Fld) (n : Nat) : (s.incLost F n).tags = s.tags := rfl
@[simp] theorem State.incLost_vecSent (s : State) (F : Fld) (n : Nat) : (s.incLost F n).vecSent = s.vecSent := rfl
@[simp] theorem State.incLost_vecMask (s : State) (F : Fld) (n : Nat) : (s.incLost F n).vecMask = s.vecMask := rfl
@[simp] theorem State.incLost_fq (s : State) (F : Fld) (n : Nat) : (s.incLost F n).fq = s.fq := rfl
@[simp] theorem State.incLost_ev (s : State) (F : Fld) (n : Nat) : (s.incLost F n).ev = s.ev := rfl
@[simp] theorem State.incLost_out (s : State) (F : Fld) (n : Nat) : (s.incLost F n).out = s.out := rfl
@[simp] theorem State.incLost_canal (s : State) (F : Fld) (n : Nat) : (s.incLost F n).canal = s.canal := rfl
@[simp] theorem State.incLost_hg (s : State) (F : Fld) (n : Nat) : (s.incLost F n).hg = s.hg := rfl
@[simp] theorem State.incLost_flt (s : State) (F : Fld) (n : Nat) : (s.incLost F n).flt = s.flt := rfl
@[simp] theorem State.incLost_sup (s : State) (F : Fld) (n : Nat) : (s.incLost F n).sup = s.sup := rfl
@[simp] theorem State.incLost_held (s : State) (F : Fld) (n : Nat) : (s.incLost F n).held = s.held := rfl
@[simp] theorem State.incLost_air (s : State) (F : Fld) (n : Nat) : (s.incLost F n).air = s.air := rfl
@[simp] theorem State.incLost_arb (s : State) (F : Fld) (n : Nat) : (s.incLost F n).arb = s.arb := rfl
@[simp] theorem State.incLost_lk (s : State) (F : Fld) (n : Nat) : (s.incLost F n).lk = s.lk := rfl
@[simp] theorem State.incLost_pair (s : State) (F : Fld) (n : Nat) : (s.incLost F n).pair = s.pair := rfl
@[simp] theorem State.incLost_gn (s : State) (F : Fld) (n : Nat) : (s.incLost F n).gn = s.gn := rfl
@[simp] theorem State.incLost_tm (s : State) (F : Fld) (n : Nat) : (s.incLost F n).tm = s.tm := rfl
@[simp] theorem State.incLost_disp (s : State) (F : Fld) (n : Nat) : (s.incLost F n).disp = s.disp := rfl
@[simp] theorem State.incLost_ls (s : State) (F : Fld) (n : Nat) : (s.incLost F n).ls = s.ls := rfl
@[simp] theorem State.incLost_mot (s : State) (F : Fld) (n : Nat) : (s.incLost F n).mot = s.mot := rfl
@[simp] theorem State.incLost_motNsp (s : State) (F : Fld) (n : Nat) : (s.incLost F n).motNsp = s.motNsp := rfl
@[simp] theorem State.incLost_rtk (s : State) (F : Fld) (n : Nat) : (s.incLost F n).rtk = s.rtk := rfl
@[simp] theorem State.incLost_rt (s : State) (F : Fld) (n : Nat) : (s.incLost F n).rt = s.rt := rfl
@[simp] theorem State.incLost_clk (s : State) (F : Fld) (n : Nat) : (s.incLost F n).clk = s.clk := rfl
@[simp] theorem State.incLost_met (s : State) (F : Fld) (n : Nat) : (s.incLost F n).met = s.met := rfl
@[simp] theorem State.incLost_key (s : State) (F : Fld) (n : Nat) : (s.incLost F n).key = s.key := rfl
@[simp] theorem State.incLost_dbg (s : State) (F : Fld) (n : Nat) : (s.incLost F n).dbg = s.dbg := rfl
@[simp] theorem State.incLost_boot (s : State) (F : Fld) (n : Nat) : (s.incLost F n).boot = s.boot := rfl

@[simp] theorem State.incAt_pending (s : State) (a n : Nat) : (s.incAt a n).pending = s.pending := rfl
@[simp] theorem State.incAt_now (s : State) (a n : Nat) : (s.incAt a n).now = s.now := rfl
@[simp] theorem State.incAt_ft (s : State) (a n : Nat) : (s.incAt a n).ft = s.ft := rfl
@[simp] theorem State.incAt_fresh (s : State) (a n : Nat) : (s.incAt a n).fresh = s.fresh := rfl
@[simp] theorem State.incAt_regs (s : State) (a n : Nat) : (s.incAt a n).regs = s.regs := rfl
@[simp] theorem State.incAt_latch (s : State) (a n : Nat) : (s.incAt a n).latch = s.latch := rfl
@[simp] theorem State.incAt_tbl (s : State) (a n : Nat) : (s.incAt a n).tbl = s.tbl := rfl
@[simp] theorem State.incAt_dram (s : State) (a n : Nat) : (s.incAt a n).dram = s.dram := rfl
@[simp] theorem State.incAt_pg (s : State) (a n : Nat) : (s.incAt a n).pg = s.pg := rfl
@[simp] theorem State.incAt_once (s : State) (a n : Nat) : (s.incAt a n).once = s.once := rfl
@[simp] theorem State.incAt_tags (s : State) (a n : Nat) : (s.incAt a n).tags = s.tags := rfl
@[simp] theorem State.incAt_vecSent (s : State) (a n : Nat) : (s.incAt a n).vecSent = s.vecSent := rfl
@[simp] theorem State.incAt_vecMask (s : State) (a n : Nat) : (s.incAt a n).vecMask = s.vecMask := rfl
@[simp] theorem State.incAt_fq (s : State) (a n : Nat) : (s.incAt a n).fq = s.fq := rfl
@[simp] theorem State.incAt_ev (s : State) (a n : Nat) : (s.incAt a n).ev = s.ev := rfl
@[simp] theorem State.incAt_out (s : State) (a n : Nat) : (s.incAt a n).out = s.out := rfl
@[simp] theorem State.incAt_canal (s : State) (a n : Nat) : (s.incAt a n).canal = s.canal := rfl
@[simp] theorem State.incAt_hg (s : State) (a n : Nat) : (s.incAt a n).hg = s.hg := rfl
@[simp] theorem State.incAt_flt (s : State) (a n : Nat) : (s.incAt a n).flt = s.flt := rfl
@[simp] theorem State.incAt_sup (s : State) (a n : Nat) : (s.incAt a n).sup = s.sup := rfl
@[simp] theorem State.incAt_held (s : State) (a n : Nat) : (s.incAt a n).held = s.held := rfl
@[simp] theorem State.incAt_air (s : State) (a n : Nat) : (s.incAt a n).air = s.air := rfl
@[simp] theorem State.incAt_arb (s : State) (a n : Nat) : (s.incAt a n).arb = s.arb := rfl
@[simp] theorem State.incAt_lk (s : State) (a n : Nat) : (s.incAt a n).lk = s.lk := rfl
@[simp] theorem State.incAt_pair (s : State) (a n : Nat) : (s.incAt a n).pair = s.pair := rfl
@[simp] theorem State.incAt_gn (s : State) (a n : Nat) : (s.incAt a n).gn = s.gn := rfl
@[simp] theorem State.incAt_tm (s : State) (a n : Nat) : (s.incAt a n).tm = s.tm := rfl
@[simp] theorem State.incAt_disp (s : State) (a n : Nat) : (s.incAt a n).disp = s.disp := rfl
@[simp] theorem State.incAt_ls (s : State) (a n : Nat) : (s.incAt a n).ls = s.ls := rfl
@[simp] theorem State.incAt_mot (s : State) (a n : Nat) : (s.incAt a n).mot = s.mot := rfl
@[simp] theorem State.incAt_motNsp (s : State) (a n : Nat) : (s.incAt a n).motNsp = s.motNsp := rfl
@[simp] theorem State.incAt_rtk (s : State) (a n : Nat) : (s.incAt a n).rtk = s.rtk := rfl
@[simp] theorem State.incAt_rt (s : State) (a n : Nat) : (s.incAt a n).rt = s.rt := rfl
@[simp] theorem State.incAt_clk (s : State) (a n : Nat) : (s.incAt a n).clk = s.clk := rfl
@[simp] theorem State.incAt_met (s : State) (a n : Nat) : (s.incAt a n).met = s.met := rfl
@[simp] theorem State.incAt_key (s : State) (a n : Nat) : (s.incAt a n).key = s.key := rfl
@[simp] theorem State.incAt_dbg (s : State) (a n : Nat) : (s.incAt a n).dbg = s.dbg := rfl
@[simp] theorem State.incAt_boot (s : State) (a n : Nat) : (s.incAt a n).boot = s.boot := rfl

@[simp] theorem State.incP_pending (s : State) (p : Page) (c : Ctr) (n : Nat) : (s.incP p c n).pending = s.pending := rfl
@[simp] theorem State.incP_now (s : State) (p : Page) (c : Ctr) (n : Nat) : (s.incP p c n).now = s.now := rfl
@[simp] theorem State.incP_ft (s : State) (p : Page) (c : Ctr) (n : Nat) : (s.incP p c n).ft = s.ft := rfl
@[simp] theorem State.incP_fresh (s : State) (p : Page) (c : Ctr) (n : Nat) : (s.incP p c n).fresh = s.fresh := rfl
@[simp] theorem State.incP_regs (s : State) (p : Page) (c : Ctr) (n : Nat) : (s.incP p c n).regs = s.regs := rfl
@[simp] theorem State.incP_latch (s : State) (p : Page) (c : Ctr) (n : Nat) : (s.incP p c n).latch = s.latch := rfl
@[simp] theorem State.incP_tbl (s : State) (p : Page) (c : Ctr) (n : Nat) : (s.incP p c n).tbl = s.tbl := rfl
@[simp] theorem State.incP_dram (s : State) (p : Page) (c : Ctr) (n : Nat) : (s.incP p c n).dram = s.dram := rfl
@[simp] theorem State.incP_pg (s : State) (p : Page) (c : Ctr) (n : Nat) : (s.incP p c n).pg = s.pg := rfl
@[simp] theorem State.incP_once (s : State) (p : Page) (c : Ctr) (n : Nat) : (s.incP p c n).once = s.once := rfl
@[simp] theorem State.incP_tags (s : State) (p : Page) (c : Ctr) (n : Nat) : (s.incP p c n).tags = s.tags := rfl
@[simp] theorem State.incP_vecSent (s : State) (p : Page) (c : Ctr) (n : Nat) : (s.incP p c n).vecSent = s.vecSent := rfl
@[simp] theorem State.incP_vecMask (s : State) (p : Page) (c : Ctr) (n : Nat) : (s.incP p c n).vecMask = s.vecMask := rfl
@[simp] theorem State.incP_fq (s : State) (p : Page) (c : Ctr) (n : Nat) : (s.incP p c n).fq = s.fq := rfl
@[simp] theorem State.incP_ev (s : State) (p : Page) (c : Ctr) (n : Nat) : (s.incP p c n).ev = s.ev := rfl
@[simp] theorem State.incP_out (s : State) (p : Page) (c : Ctr) (n : Nat) : (s.incP p c n).out = s.out := rfl
@[simp] theorem State.incP_canal (s : State) (p : Page) (c : Ctr) (n : Nat) : (s.incP p c n).canal = s.canal := rfl
@[simp] theorem State.incP_hg (s : State) (p : Page) (c : Ctr) (n : Nat) : (s.incP p c n).hg = s.hg := rfl
@[simp] theorem State.incP_flt (s : State) (p : Page) (c : Ctr) (n : Nat) : (s.incP p c n).flt = s.flt := rfl
@[simp] theorem State.incP_sup (s : State) (p : Page) (c : Ctr) (n : Nat) : (s.incP p c n).sup = s.sup := rfl
@[simp] theorem State.incP_held (s : State) (p : Page) (c : Ctr) (n : Nat) : (s.incP p c n).held = s.held := rfl
@[simp] theorem State.incP_air (s : State) (p : Page) (c : Ctr) (n : Nat) : (s.incP p c n).air = s.air := rfl
@[simp] theorem State.incP_arb (s : State) (p : Page) (c : Ctr) (n : Nat) : (s.incP p c n).arb = s.arb := rfl
@[simp] theorem State.incP_lk (s : State) (p : Page) (c : Ctr) (n : Nat) : (s.incP p c n).lk = s.lk := rfl
@[simp] theorem State.incP_pair (s : State) (p : Page) (c : Ctr) (n : Nat) : (s.incP p c n).pair = s.pair := rfl
@[simp] theorem State.incP_gn (s : State) (p : Page) (c : Ctr) (n : Nat) : (s.incP p c n).gn = s.gn := rfl
@[simp] theorem State.incP_tm (s : State) (p : Page) (c : Ctr) (n : Nat) : (s.incP p c n).tm = s.tm := rfl
@[simp] theorem State.incP_disp (s : State) (p : Page) (c : Ctr) (n : Nat) : (s.incP p c n).disp = s.disp := rfl
@[simp] theorem State.incP_ls (s : State) (p : Page) (c : Ctr) (n : Nat) : (s.incP p c n).ls = s.ls := rfl
@[simp] theorem State.incP_mot (s : State) (p : Page) (c : Ctr) (n : Nat) : (s.incP p c n).mot = s.mot := rfl
@[simp] theorem State.incP_motNsp (s : State) (p : Page) (c : Ctr) (n : Nat) : (s.incP p c n).motNsp = s.motNsp := rfl
@[simp] theorem State.incP_rtk (s : State) (p : Page) (c : Ctr) (n : Nat) : (s.incP p c n).rtk = s.rtk := rfl
@[simp] theorem State.incP_rt (s : State) (p : Page) (c : Ctr) (n : Nat) : (s.incP p c n).rt = s.rt := rfl
@[simp] theorem State.incP_clk (s : State) (p : Page) (c : Ctr) (n : Nat) : (s.incP p c n).clk = s.clk := rfl
@[simp] theorem State.incP_met (s : State) (p : Page) (c : Ctr) (n : Nat) : (s.incP p c n).met = s.met := rfl
@[simp] theorem State.incP_key (s : State) (p : Page) (c : Ctr) (n : Nat) : (s.incP p c n).key = s.key := rfl
@[simp] theorem State.incP_dbg (s : State) (p : Page) (c : Ctr) (n : Nat) : (s.incP p c n).dbg = s.dbg := rfl
@[simp] theorem State.incP_boot (s : State) (p : Page) (c : Ctr) (n : Nat) : (s.incP p c n).boot = s.boot := rfl

@[simp] theorem State.inc_pending (s : State) (c : Ctr) (i n : Nat) : (s.inc c i n).pending = s.pending := rfl
@[simp] theorem State.inc_now (s : State) (c : Ctr) (i n : Nat) : (s.inc c i n).now = s.now := rfl
@[simp] theorem State.inc_ft (s : State) (c : Ctr) (i n : Nat) : (s.inc c i n).ft = s.ft := rfl
@[simp] theorem State.inc_fresh (s : State) (c : Ctr) (i n : Nat) : (s.inc c i n).fresh = s.fresh := rfl
@[simp] theorem State.inc_regs (s : State) (c : Ctr) (i n : Nat) : (s.inc c i n).regs = s.regs := rfl
@[simp] theorem State.inc_latch (s : State) (c : Ctr) (i n : Nat) : (s.inc c i n).latch = s.latch := rfl
@[simp] theorem State.inc_tbl (s : State) (c : Ctr) (i n : Nat) : (s.inc c i n).tbl = s.tbl := rfl
@[simp] theorem State.inc_dram (s : State) (c : Ctr) (i n : Nat) : (s.inc c i n).dram = s.dram := rfl
@[simp] theorem State.inc_pg (s : State) (c : Ctr) (i n : Nat) : (s.inc c i n).pg = s.pg := rfl
@[simp] theorem State.inc_once (s : State) (c : Ctr) (i n : Nat) : (s.inc c i n).once = s.once := rfl
@[simp] theorem State.inc_tags (s : State) (c : Ctr) (i n : Nat) : (s.inc c i n).tags = s.tags := rfl
@[simp] theorem State.inc_vecSent (s : State) (c : Ctr) (i n : Nat) : (s.inc c i n).vecSent = s.vecSent := rfl
@[simp] theorem State.inc_vecMask (s : State) (c : Ctr) (i n : Nat) : (s.inc c i n).vecMask = s.vecMask := rfl
@[simp] theorem State.inc_fq (s : State) (c : Ctr) (i n : Nat) : (s.inc c i n).fq = s.fq := rfl
@[simp] theorem State.inc_ev (s : State) (c : Ctr) (i n : Nat) : (s.inc c i n).ev = s.ev := rfl
@[simp] theorem State.inc_out (s : State) (c : Ctr) (i n : Nat) : (s.inc c i n).out = s.out := rfl
@[simp] theorem State.inc_canal (s : State) (c : Ctr) (i n : Nat) : (s.inc c i n).canal = s.canal := rfl
@[simp] theorem State.inc_hg (s : State) (c : Ctr) (i n : Nat) : (s.inc c i n).hg = s.hg := rfl
@[simp] theorem State.inc_flt (s : State) (c : Ctr) (i n : Nat) : (s.inc c i n).flt = s.flt := rfl
@[simp] theorem State.inc_sup (s : State) (c : Ctr) (i n : Nat) : (s.inc c i n).sup = s.sup := rfl
@[simp] theorem State.inc_held (s : State) (c : Ctr) (i n : Nat) : (s.inc c i n).held = s.held := rfl
@[simp] theorem State.inc_air (s : State) (c : Ctr) (i n : Nat) : (s.inc c i n).air = s.air := rfl
@[simp] theorem State.inc_arb (s : State) (c : Ctr) (i n : Nat) : (s.inc c i n).arb = s.arb := rfl
@[simp] theorem State.inc_lk (s : State) (c : Ctr) (i n : Nat) : (s.inc c i n).lk = s.lk := rfl
@[simp] theorem State.inc_pair (s : State) (c : Ctr) (i n : Nat) : (s.inc c i n).pair = s.pair := rfl
@[simp] theorem State.inc_gn (s : State) (c : Ctr) (i n : Nat) : (s.inc c i n).gn = s.gn := rfl
@[simp] theorem State.inc_tm (s : State) (c : Ctr) (i n : Nat) : (s.inc c i n).tm = s.tm := rfl
@[simp] theorem State.inc_disp (s : State) (c : Ctr) (i n : Nat) : (s.inc c i n).disp = s.disp := rfl
@[simp] theorem State.inc_ls (s : State) (c : Ctr) (i n : Nat) : (s.inc c i n).ls = s.ls := rfl
@[simp] theorem State.inc_mot (s : State) (c : Ctr) (i n : Nat) : (s.inc c i n).mot = s.mot := rfl
@[simp] theorem State.inc_motNsp (s : State) (c : Ctr) (i n : Nat) : (s.inc c i n).motNsp = s.motNsp := rfl
@[simp] theorem State.inc_rtk (s : State) (c : Ctr) (i n : Nat) : (s.inc c i n).rtk = s.rtk := rfl
@[simp] theorem State.inc_rt (s : State) (c : Ctr) (i n : Nat) : (s.inc c i n).rt = s.rt := rfl
@[simp] theorem State.inc_clk (s : State) (c : Ctr) (i n : Nat) : (s.inc c i n).clk = s.clk := rfl
@[simp] theorem State.inc_met (s : State) (c : Ctr) (i n : Nat) : (s.inc c i n).met = s.met := rfl
@[simp] theorem State.inc_key (s : State) (c : Ctr) (i n : Nat) : (s.inc c i n).key = s.key := rfl
@[simp] theorem State.inc_dbg (s : State) (c : Ctr) (i n : Nat) : (s.inc c i n).dbg = s.dbg := rfl
@[simp] theorem State.inc_boot (s : State) (c : Ctr) (i n : Nat) : (s.inc c i n).boot = s.boot := rfl

@[simp] theorem State.emit_pending (s : State) (o : Out) : (s.emit o).pending = s.pending := rfl
@[simp] theorem State.emit_now (s : State) (o : Out) : (s.emit o).now = s.now := rfl
@[simp] theorem State.emit_ft (s : State) (o : Out) : (s.emit o).ft = s.ft := rfl
@[simp] theorem State.emit_fresh (s : State) (o : Out) : (s.emit o).fresh = s.fresh := rfl
@[simp] theorem State.emit_regs (s : State) (o : Out) : (s.emit o).regs = s.regs := rfl
@[simp] theorem State.emit_ctrs (s : State) (o : Out) : (s.emit o).ctrs = s.ctrs := rfl
@[simp] theorem State.emit_latch (s : State) (o : Out) : (s.emit o).latch = s.latch := rfl
@[simp] theorem State.emit_tbl (s : State) (o : Out) : (s.emit o).tbl = s.tbl := rfl
@[simp] theorem State.emit_dram (s : State) (o : Out) : (s.emit o).dram = s.dram := rfl
@[simp] theorem State.emit_pg (s : State) (o : Out) : (s.emit o).pg = s.pg := rfl
@[simp] theorem State.emit_once (s : State) (o : Out) : (s.emit o).once = s.once := rfl
@[simp] theorem State.emit_tags (s : State) (o : Out) : (s.emit o).tags = s.tags := rfl
@[simp] theorem State.emit_vecSent (s : State) (o : Out) : (s.emit o).vecSent = s.vecSent := rfl
@[simp] theorem State.emit_vecMask (s : State) (o : Out) : (s.emit o).vecMask = s.vecMask := rfl
@[simp] theorem State.emit_fq (s : State) (o : Out) : (s.emit o).fq = s.fq := rfl
@[simp] theorem State.emit_ev (s : State) (o : Out) : (s.emit o).ev = s.ev := rfl
@[simp] theorem State.emit_canal (s : State) (o : Out) : (s.emit o).canal = s.canal := rfl
@[simp] theorem State.emit_hg (s : State) (o : Out) : (s.emit o).hg = s.hg := rfl
@[simp] theorem State.emit_flt (s : State) (o : Out) : (s.emit o).flt = s.flt := rfl
@[simp] theorem State.emit_sup (s : State) (o : Out) : (s.emit o).sup = s.sup := rfl
@[simp] theorem State.emit_held (s : State) (o : Out) : (s.emit o).held = s.held := rfl
@[simp] theorem State.emit_air (s : State) (o : Out) : (s.emit o).air = s.air := rfl
@[simp] theorem State.emit_arb (s : State) (o : Out) : (s.emit o).arb = s.arb := rfl
@[simp] theorem State.emit_lk (s : State) (o : Out) : (s.emit o).lk = s.lk := rfl
@[simp] theorem State.emit_pair (s : State) (o : Out) : (s.emit o).pair = s.pair := rfl
@[simp] theorem State.emit_gn (s : State) (o : Out) : (s.emit o).gn = s.gn := rfl
@[simp] theorem State.emit_tm (s : State) (o : Out) : (s.emit o).tm = s.tm := rfl
@[simp] theorem State.emit_disp (s : State) (o : Out) : (s.emit o).disp = s.disp := rfl
@[simp] theorem State.emit_ls (s : State) (o : Out) : (s.emit o).ls = s.ls := rfl
@[simp] theorem State.emit_mot (s : State) (o : Out) : (s.emit o).mot = s.mot := rfl
@[simp] theorem State.emit_motNsp (s : State) (o : Out) : (s.emit o).motNsp = s.motNsp := rfl
@[simp] theorem State.emit_rtk (s : State) (o : Out) : (s.emit o).rtk = s.rtk := rfl
@[simp] theorem State.emit_rt (s : State) (o : Out) : (s.emit o).rt = s.rt := rfl
@[simp] theorem State.emit_clk (s : State) (o : Out) : (s.emit o).clk = s.clk := rfl
@[simp] theorem State.emit_met (s : State) (o : Out) : (s.emit o).met = s.met := rfl
@[simp] theorem State.emit_key (s : State) (o : Out) : (s.emit o).key = s.key := rfl
@[simp] theorem State.emit_dbg (s : State) (o : Out) : (s.emit o).dbg = s.dbg := rfl
@[simp] theorem State.emit_boot (s : State) (o : Out) : (s.emit o).boot = s.boot := rfl

@[simp] theorem State.free_pending (s : State) : s.free.2.pending = s.pending := rfl
@[simp] theorem State.free_now (s : State) : s.free.2.now = s.now := rfl
@[simp] theorem State.free_ft (s : State) : s.free.2.ft = s.ft := rfl
@[simp] theorem State.free_regs (s : State) : s.free.2.regs = s.regs := rfl
@[simp] theorem State.free_ctrs (s : State) : s.free.2.ctrs = s.ctrs := rfl
@[simp] theorem State.free_latch (s : State) : s.free.2.latch = s.latch := rfl
@[simp] theorem State.free_tbl (s : State) : s.free.2.tbl = s.tbl := rfl
@[simp] theorem State.free_dram (s : State) : s.free.2.dram = s.dram := rfl
@[simp] theorem State.free_pg (s : State) : s.free.2.pg = s.pg := rfl
@[simp] theorem State.free_once (s : State) : s.free.2.once = s.once := rfl
@[simp] theorem State.free_tags (s : State) : s.free.2.tags = s.tags := rfl
@[simp] theorem State.free_vecSent (s : State) : s.free.2.vecSent = s.vecSent := rfl
@[simp] theorem State.free_vecMask (s : State) : s.free.2.vecMask = s.vecMask := rfl
@[simp] theorem State.free_fq (s : State) : s.free.2.fq = s.fq := rfl
@[simp] theorem State.free_ev (s : State) : s.free.2.ev = s.ev := rfl
@[simp] theorem State.free_out (s : State) : s.free.2.out = s.out := rfl
@[simp] theorem State.free_canal (s : State) : s.free.2.canal = s.canal := rfl
@[simp] theorem State.free_hg (s : State) : s.free.2.hg = s.hg := rfl
@[simp] theorem State.free_flt (s : State) : s.free.2.flt = s.flt := rfl
@[simp] theorem State.free_sup (s : State) : s.free.2.sup = s.sup := rfl
@[simp] theorem State.free_held (s : State) : s.free.2.held = s.held := rfl
@[simp] theorem State.free_air (s : State) : s.free.2.air = s.air := rfl
@[simp] theorem State.free_arb (s : State) : s.free.2.arb = s.arb := rfl
@[simp] theorem State.free_lk (s : State) : s.free.2.lk = s.lk := rfl
@[simp] theorem State.free_pair (s : State) : s.free.2.pair = s.pair := rfl
@[simp] theorem State.free_gn (s : State) : s.free.2.gn = s.gn := rfl
@[simp] theorem State.free_tm (s : State) : s.free.2.tm = s.tm := rfl
@[simp] theorem State.free_disp (s : State) : s.free.2.disp = s.disp := rfl
@[simp] theorem State.free_ls (s : State) : s.free.2.ls = s.ls := rfl
@[simp] theorem State.free_mot (s : State) : s.free.2.mot = s.mot := rfl
@[simp] theorem State.free_motNsp (s : State) : s.free.2.motNsp = s.motNsp := rfl
@[simp] theorem State.free_rtk (s : State) : s.free.2.rtk = s.rtk := rfl
@[simp] theorem State.free_rt (s : State) : s.free.2.rt = s.rt := rfl
@[simp] theorem State.free_clk (s : State) : s.free.2.clk = s.clk := rfl
@[simp] theorem State.free_met (s : State) : s.free.2.met = s.met := rfl
@[simp] theorem State.free_key (s : State) : s.free.2.key = s.key := rfl
@[simp] theorem State.free_dbg (s : State) : s.free.2.dbg = s.dbg := rfl
@[simp] theorem State.free_boot (s : State) : s.free.2.boot = s.boot := rfl

@[simp] theorem State.setPage_pending (s : State) (p : Page) (v : PageSt) : (s.setPage p v).pending = s.pending := rfl
@[simp] theorem State.setPage_now (s : State) (p : Page) (v : PageSt) : (s.setPage p v).now = s.now := rfl
@[simp] theorem State.setPage_ft (s : State) (p : Page) (v : PageSt) : (s.setPage p v).ft = s.ft := rfl
@[simp] theorem State.setPage_fresh (s : State) (p : Page) (v : PageSt) : (s.setPage p v).fresh = s.fresh := rfl
@[simp] theorem State.setPage_regs (s : State) (p : Page) (v : PageSt) : (s.setPage p v).regs = s.regs := rfl
@[simp] theorem State.setPage_ctrs (s : State) (p : Page) (v : PageSt) : (s.setPage p v).ctrs = s.ctrs := rfl
@[simp] theorem State.setPage_latch (s : State) (p : Page) (v : PageSt) : (s.setPage p v).latch = s.latch := rfl
@[simp] theorem State.setPage_tbl (s : State) (p : Page) (v : PageSt) : (s.setPage p v).tbl = s.tbl := rfl
@[simp] theorem State.setPage_dram (s : State) (p : Page) (v : PageSt) : (s.setPage p v).dram = s.dram := rfl
@[simp] theorem State.setPage_once (s : State) (p : Page) (v : PageSt) : (s.setPage p v).once = s.once := rfl
@[simp] theorem State.setPage_tags (s : State) (p : Page) (v : PageSt) : (s.setPage p v).tags = s.tags := rfl
@[simp] theorem State.setPage_vecSent (s : State) (p : Page) (v : PageSt) : (s.setPage p v).vecSent = s.vecSent := rfl
@[simp] theorem State.setPage_vecMask (s : State) (p : Page) (v : PageSt) : (s.setPage p v).vecMask = s.vecMask := rfl
@[simp] theorem State.setPage_fq (s : State) (p : Page) (v : PageSt) : (s.setPage p v).fq = s.fq := rfl
@[simp] theorem State.setPage_ev (s : State) (p : Page) (v : PageSt) : (s.setPage p v).ev = s.ev := rfl
@[simp] theorem State.setPage_out (s : State) (p : Page) (v : PageSt) : (s.setPage p v).out = s.out := rfl
@[simp] theorem State.setPage_canal (s : State) (p : Page) (v : PageSt) : (s.setPage p v).canal = s.canal := rfl
@[simp] theorem State.setPage_hg (s : State) (p : Page) (v : PageSt) : (s.setPage p v).hg = s.hg := rfl
@[simp] theorem State.setPage_flt (s : State) (p : Page) (v : PageSt) : (s.setPage p v).flt = s.flt := rfl
@[simp] theorem State.setPage_sup (s : State) (p : Page) (v : PageSt) : (s.setPage p v).sup = s.sup := rfl
@[simp] theorem State.setPage_held (s : State) (p : Page) (v : PageSt) : (s.setPage p v).held = s.held := rfl
@[simp] theorem State.setPage_air (s : State) (p : Page) (v : PageSt) : (s.setPage p v).air = s.air := rfl
@[simp] theorem State.setPage_arb (s : State) (p : Page) (v : PageSt) : (s.setPage p v).arb = s.arb := rfl
@[simp] theorem State.setPage_lk (s : State) (p : Page) (v : PageSt) : (s.setPage p v).lk = s.lk := rfl
@[simp] theorem State.setPage_pair (s : State) (p : Page) (v : PageSt) : (s.setPage p v).pair = s.pair := rfl
@[simp] theorem State.setPage_gn (s : State) (p : Page) (v : PageSt) : (s.setPage p v).gn = s.gn := rfl
@[simp] theorem State.setPage_tm (s : State) (p : Page) (v : PageSt) : (s.setPage p v).tm = s.tm := rfl
@[simp] theorem State.setPage_disp (s : State) (p : Page) (v : PageSt) : (s.setPage p v).disp = s.disp := rfl
@[simp] theorem State.setPage_ls (s : State) (p : Page) (v : PageSt) : (s.setPage p v).ls = s.ls := rfl
@[simp] theorem State.setPage_mot (s : State) (p : Page) (v : PageSt) : (s.setPage p v).mot = s.mot := rfl
@[simp] theorem State.setPage_motNsp (s : State) (p : Page) (v : PageSt) : (s.setPage p v).motNsp = s.motNsp := rfl
@[simp] theorem State.setPage_rtk (s : State) (p : Page) (v : PageSt) : (s.setPage p v).rtk = s.rtk := rfl
@[simp] theorem State.setPage_rt (s : State) (p : Page) (v : PageSt) : (s.setPage p v).rt = s.rt := rfl
@[simp] theorem State.setPage_clk (s : State) (p : Page) (v : PageSt) : (s.setPage p v).clk = s.clk := rfl
@[simp] theorem State.setPage_met (s : State) (p : Page) (v : PageSt) : (s.setPage p v).met = s.met := rfl
@[simp] theorem State.setPage_key (s : State) (p : Page) (v : PageSt) : (s.setPage p v).key = s.key := rfl
@[simp] theorem State.setPage_dbg (s : State) (p : Page) (v : PageSt) : (s.setPage p v).dbg = s.dbg := rfl
@[simp] theorem State.setPage_boot (s : State) (p : Page) (v : PageSt) : (s.setPage p v).boot = s.boot := rfl

@[simp] theorem State.clearTable_pending (s : State) (p : Page) (t : Nat) : (s.clearTable p t).pending = s.pending := rfl
@[simp] theorem State.clearTable_now (s : State) (p : Page) (t : Nat) : (s.clearTable p t).now = s.now := rfl
@[simp] theorem State.clearTable_ft (s : State) (p : Page) (t : Nat) : (s.clearTable p t).ft = s.ft := rfl
@[simp] theorem State.clearTable_fresh (s : State) (p : Page) (t : Nat) : (s.clearTable p t).fresh = s.fresh := rfl
@[simp] theorem State.clearTable_regs (s : State) (p : Page) (t : Nat) : (s.clearTable p t).regs = s.regs := rfl
@[simp] theorem State.clearTable_ctrs (s : State) (p : Page) (t : Nat) : (s.clearTable p t).ctrs = s.ctrs := rfl
@[simp] theorem State.clearTable_latch (s : State) (p : Page) (t : Nat) : (s.clearTable p t).latch = s.latch := rfl
@[simp] theorem State.clearTable_dram (s : State) (p : Page) (t : Nat) : (s.clearTable p t).dram = s.dram := rfl
@[simp] theorem State.clearTable_pg (s : State) (p : Page) (t : Nat) : (s.clearTable p t).pg = s.pg := rfl
@[simp] theorem State.clearTable_once (s : State) (p : Page) (t : Nat) : (s.clearTable p t).once = s.once := rfl
@[simp] theorem State.clearTable_tags (s : State) (p : Page) (t : Nat) : (s.clearTable p t).tags = s.tags := rfl
@[simp] theorem State.clearTable_vecSent (s : State) (p : Page) (t : Nat) : (s.clearTable p t).vecSent = s.vecSent := rfl
@[simp] theorem State.clearTable_vecMask (s : State) (p : Page) (t : Nat) : (s.clearTable p t).vecMask = s.vecMask := rfl
@[simp] theorem State.clearTable_fq (s : State) (p : Page) (t : Nat) : (s.clearTable p t).fq = s.fq := rfl
@[simp] theorem State.clearTable_ev (s : State) (p : Page) (t : Nat) : (s.clearTable p t).ev = s.ev := rfl
@[simp] theorem State.clearTable_out (s : State) (p : Page) (t : Nat) : (s.clearTable p t).out = s.out := rfl
@[simp] theorem State.clearTable_canal (s : State) (p : Page) (t : Nat) : (s.clearTable p t).canal = s.canal := rfl
@[simp] theorem State.clearTable_hg (s : State) (p : Page) (t : Nat) : (s.clearTable p t).hg = s.hg := rfl
@[simp] theorem State.clearTable_flt (s : State) (p : Page) (t : Nat) : (s.clearTable p t).flt = s.flt := rfl
@[simp] theorem State.clearTable_sup (s : State) (p : Page) (t : Nat) : (s.clearTable p t).sup = s.sup := rfl
@[simp] theorem State.clearTable_held (s : State) (p : Page) (t : Nat) : (s.clearTable p t).held = s.held := rfl
@[simp] theorem State.clearTable_air (s : State) (p : Page) (t : Nat) : (s.clearTable p t).air = s.air := rfl
@[simp] theorem State.clearTable_arb (s : State) (p : Page) (t : Nat) : (s.clearTable p t).arb = s.arb := rfl
@[simp] theorem State.clearTable_lk (s : State) (p : Page) (t : Nat) : (s.clearTable p t).lk = s.lk := rfl
@[simp] theorem State.clearTable_gn (s : State) (p : Page) (t : Nat) : (s.clearTable p t).gn = s.gn := rfl
@[simp] theorem State.clearTable_tm (s : State) (p : Page) (t : Nat) : (s.clearTable p t).tm = s.tm := rfl
@[simp] theorem State.clearTable_disp (s : State) (p : Page) (t : Nat) : (s.clearTable p t).disp = s.disp := rfl
@[simp] theorem State.clearTable_ls (s : State) (p : Page) (t : Nat) : (s.clearTable p t).ls = s.ls := rfl
@[simp] theorem State.clearTable_mot (s : State) (p : Page) (t : Nat) : (s.clearTable p t).mot = s.mot := rfl
@[simp] theorem State.clearTable_motNsp (s : State) (p : Page) (t : Nat) : (s.clearTable p t).motNsp = s.motNsp := rfl
@[simp] theorem State.clearTable_rtk (s : State) (p : Page) (t : Nat) : (s.clearTable p t).rtk = s.rtk := rfl
@[simp] theorem State.clearTable_rt (s : State) (p : Page) (t : Nat) : (s.clearTable p t).rt = s.rt := rfl
@[simp] theorem State.clearTable_clk (s : State) (p : Page) (t : Nat) : (s.clearTable p t).clk = s.clk := rfl
@[simp] theorem State.clearTable_met (s : State) (p : Page) (t : Nat) : (s.clearTable p t).met = s.met := rfl
@[simp] theorem State.clearTable_key (s : State) (p : Page) (t : Nat) : (s.clearTable p t).key = s.key := rfl
@[simp] theorem State.clearTable_dbg (s : State) (p : Page) (t : Nat) : (s.clearTable p t).dbg = s.dbg := rfl
@[simp] theorem State.clearTable_boot (s : State) (p : Page) (t : Nat) : (s.clearTable p t).boot = s.boot := rfl

@[simp] theorem State.setTe_pending (s : State) (p : Page) (t i v : Nat) : (s.setTe p t i v).pending = s.pending := by
  unfold State.setTe
  dsimp only
  split <;> rfl
@[simp] theorem State.setTe_now (s : State) (p : Page) (t i v : Nat) : (s.setTe p t i v).now = s.now := by
  unfold State.setTe
  dsimp only
  split <;> rfl
@[simp] theorem State.setTe_ft (s : State) (p : Page) (t i v : Nat) : (s.setTe p t i v).ft = s.ft := by
  unfold State.setTe
  dsimp only
  split <;> rfl
@[simp] theorem State.setTe_fresh (s : State) (p : Page) (t i v : Nat) : (s.setTe p t i v).fresh = s.fresh := by
  unfold State.setTe
  dsimp only
  split <;> rfl
@[simp] theorem State.setTe_regs (s : State) (p : Page) (t i v : Nat) : (s.setTe p t i v).regs = s.regs := by
  unfold State.setTe
  dsimp only
  split <;> rfl
@[simp] theorem State.setTe_ctrs (s : State) (p : Page) (t i v : Nat) : (s.setTe p t i v).ctrs = s.ctrs := by
  unfold State.setTe
  dsimp only
  split <;> rfl
@[simp] theorem State.setTe_latch (s : State) (p : Page) (t i v : Nat) : (s.setTe p t i v).latch = s.latch := by
  unfold State.setTe
  dsimp only
  split <;> rfl
@[simp] theorem State.setTe_dram (s : State) (p : Page) (t i v : Nat) : (s.setTe p t i v).dram = s.dram := by
  unfold State.setTe
  dsimp only
  split <;> rfl
@[simp] theorem State.setTe_pg (s : State) (p : Page) (t i v : Nat) : (s.setTe p t i v).pg = s.pg := by
  unfold State.setTe
  dsimp only
  split <;> rfl
@[simp] theorem State.setTe_once (s : State) (p : Page) (t i v : Nat) : (s.setTe p t i v).once = s.once := by
  unfold State.setTe
  dsimp only
  split <;> rfl
@[simp] theorem State.setTe_tags (s : State) (p : Page) (t i v : Nat) : (s.setTe p t i v).tags = s.tags := by
  unfold State.setTe
  dsimp only
  split <;> rfl
@[simp] theorem State.setTe_vecSent (s : State) (p : Page) (t i v : Nat) : (s.setTe p t i v).vecSent = s.vecSent := by
  unfold State.setTe
  dsimp only
  split <;> rfl
@[simp] theorem State.setTe_vecMask (s : State) (p : Page) (t i v : Nat) : (s.setTe p t i v).vecMask = s.vecMask := by
  unfold State.setTe
  dsimp only
  split <;> rfl
@[simp] theorem State.setTe_fq (s : State) (p : Page) (t i v : Nat) : (s.setTe p t i v).fq = s.fq := by
  unfold State.setTe
  dsimp only
  split <;> rfl
@[simp] theorem State.setTe_ev (s : State) (p : Page) (t i v : Nat) : (s.setTe p t i v).ev = s.ev := by
  unfold State.setTe
  dsimp only
  split <;> rfl
@[simp] theorem State.setTe_out (s : State) (p : Page) (t i v : Nat) : (s.setTe p t i v).out = s.out := by
  unfold State.setTe
  dsimp only
  split <;> rfl
@[simp] theorem State.setTe_canal (s : State) (p : Page) (t i v : Nat) : (s.setTe p t i v).canal = s.canal := by
  unfold State.setTe
  dsimp only
  split <;> rfl
@[simp] theorem State.setTe_hg (s : State) (p : Page) (t i v : Nat) : (s.setTe p t i v).hg = s.hg := by
  unfold State.setTe
  dsimp only
  split <;> rfl
@[simp] theorem State.setTe_flt (s : State) (p : Page) (t i v : Nat) : (s.setTe p t i v).flt = s.flt := by
  unfold State.setTe
  dsimp only
  split <;> rfl
@[simp] theorem State.setTe_sup (s : State) (p : Page) (t i v : Nat) : (s.setTe p t i v).sup = s.sup := by
  unfold State.setTe
  dsimp only
  split <;> rfl
@[simp] theorem State.setTe_held (s : State) (p : Page) (t i v : Nat) : (s.setTe p t i v).held = s.held := by
  unfold State.setTe
  dsimp only
  split <;> rfl
@[simp] theorem State.setTe_air (s : State) (p : Page) (t i v : Nat) : (s.setTe p t i v).air = s.air := by
  unfold State.setTe
  dsimp only
  split <;> rfl
@[simp] theorem State.setTe_arb (s : State) (p : Page) (t i v : Nat) : (s.setTe p t i v).arb = s.arb := by
  unfold State.setTe
  dsimp only
  split <;> rfl
@[simp] theorem State.setTe_lk (s : State) (p : Page) (t i v : Nat) : (s.setTe p t i v).lk = s.lk := by
  unfold State.setTe
  dsimp only
  split <;> rfl
@[simp] theorem State.setTe_gn (s : State) (p : Page) (t i v : Nat) : (s.setTe p t i v).gn = s.gn := by
  unfold State.setTe
  dsimp only
  split <;> rfl
@[simp] theorem State.setTe_tm (s : State) (p : Page) (t i v : Nat) : (s.setTe p t i v).tm = s.tm := by
  unfold State.setTe
  dsimp only
  split <;> rfl
@[simp] theorem State.setTe_disp (s : State) (p : Page) (t i v : Nat) : (s.setTe p t i v).disp = s.disp := by
  unfold State.setTe
  dsimp only
  split <;> rfl
@[simp] theorem State.setTe_ls (s : State) (p : Page) (t i v : Nat) : (s.setTe p t i v).ls = s.ls := by
  unfold State.setTe
  dsimp only
  split <;> rfl
@[simp] theorem State.setTe_mot (s : State) (p : Page) (t i v : Nat) : (s.setTe p t i v).mot = s.mot := by
  unfold State.setTe
  dsimp only
  split <;> rfl
@[simp] theorem State.setTe_motNsp (s : State) (p : Page) (t i v : Nat) : (s.setTe p t i v).motNsp = s.motNsp := by
  unfold State.setTe
  dsimp only
  split <;> rfl
@[simp] theorem State.setTe_rtk (s : State) (p : Page) (t i v : Nat) : (s.setTe p t i v).rtk = s.rtk := by
  unfold State.setTe
  dsimp only
  split <;> rfl
@[simp] theorem State.setTe_rt (s : State) (p : Page) (t i v : Nat) : (s.setTe p t i v).rt = s.rt := by
  unfold State.setTe
  dsimp only
  split <;> rfl
@[simp] theorem State.setTe_clk (s : State) (p : Page) (t i v : Nat) : (s.setTe p t i v).clk = s.clk := by
  unfold State.setTe
  dsimp only
  split <;> rfl
@[simp] theorem State.setTe_met (s : State) (p : Page) (t i v : Nat) : (s.setTe p t i v).met = s.met := by
  unfold State.setTe
  dsimp only
  split <;> rfl
@[simp] theorem State.setTe_key (s : State) (p : Page) (t i v : Nat) : (s.setTe p t i v).key = s.key := by
  unfold State.setTe
  dsimp only
  split <;> rfl
@[simp] theorem State.setTe_dbg (s : State) (p : Page) (t i v : Nat) : (s.setTe p t i v).dbg = s.dbg := by
  unfold State.setTe
  dsimp only
  split <;> rfl
@[simp] theorem State.setTe_boot (s : State) (p : Page) (t i v : Nat) : (s.setTe p t i v).boot = s.boot := by
  unfold State.setTe
  dsimp only
  split <;> rfl

@[simp] theorem State.setMember_pending (s : State) (i v : Nat) : (s.setMember i v).pending = s.pending := State.setTe_pending s pREG 0 i v
@[simp] theorem State.setMember_now (s : State) (i v : Nat) : (s.setMember i v).now = s.now := State.setTe_now s pREG 0 i v
@[simp] theorem State.setMember_ft (s : State) (i v : Nat) : (s.setMember i v).ft = s.ft := State.setTe_ft s pREG 0 i v
@[simp] theorem State.setMember_fresh (s : State) (i v : Nat) : (s.setMember i v).fresh = s.fresh := State.setTe_fresh s pREG 0 i v
@[simp] theorem State.setMember_regs (s : State) (i v : Nat) : (s.setMember i v).regs = s.regs := State.setTe_regs s pREG 0 i v
@[simp] theorem State.setMember_ctrs (s : State) (i v : Nat) : (s.setMember i v).ctrs = s.ctrs := State.setTe_ctrs s pREG 0 i v
@[simp] theorem State.setMember_latch (s : State) (i v : Nat) : (s.setMember i v).latch = s.latch := State.setTe_latch s pREG 0 i v
@[simp] theorem State.setMember_dram (s : State) (i v : Nat) : (s.setMember i v).dram = s.dram := State.setTe_dram s pREG 0 i v
@[simp] theorem State.setMember_pg (s : State) (i v : Nat) : (s.setMember i v).pg = s.pg := State.setTe_pg s pREG 0 i v
@[simp] theorem State.setMember_once (s : State) (i v : Nat) : (s.setMember i v).once = s.once := State.setTe_once s pREG 0 i v
@[simp] theorem State.setMember_tags (s : State) (i v : Nat) : (s.setMember i v).tags = s.tags := State.setTe_tags s pREG 0 i v
@[simp] theorem State.setMember_vecSent (s : State) (i v : Nat) : (s.setMember i v).vecSent = s.vecSent := State.setTe_vecSent s pREG 0 i v
@[simp] theorem State.setMember_vecMask (s : State) (i v : Nat) : (s.setMember i v).vecMask = s.vecMask := State.setTe_vecMask s pREG 0 i v
@[simp] theorem State.setMember_fq (s : State) (i v : Nat) : (s.setMember i v).fq = s.fq := State.setTe_fq s pREG 0 i v
@[simp] theorem State.setMember_ev (s : State) (i v : Nat) : (s.setMember i v).ev = s.ev := State.setTe_ev s pREG 0 i v
@[simp] theorem State.setMember_out (s : State) (i v : Nat) : (s.setMember i v).out = s.out := State.setTe_out s pREG 0 i v
@[simp] theorem State.setMember_canal (s : State) (i v : Nat) : (s.setMember i v).canal = s.canal := State.setTe_canal s pREG 0 i v
@[simp] theorem State.setMember_hg (s : State) (i v : Nat) : (s.setMember i v).hg = s.hg := State.setTe_hg s pREG 0 i v
@[simp] theorem State.setMember_flt (s : State) (i v : Nat) : (s.setMember i v).flt = s.flt := State.setTe_flt s pREG 0 i v
@[simp] theorem State.setMember_sup (s : State) (i v : Nat) : (s.setMember i v).sup = s.sup := State.setTe_sup s pREG 0 i v
@[simp] theorem State.setMember_held (s : State) (i v : Nat) : (s.setMember i v).held = s.held := State.setTe_held s pREG 0 i v
@[simp] theorem State.setMember_air (s : State) (i v : Nat) : (s.setMember i v).air = s.air := State.setTe_air s pREG 0 i v
@[simp] theorem State.setMember_arb (s : State) (i v : Nat) : (s.setMember i v).arb = s.arb := State.setTe_arb s pREG 0 i v
@[simp] theorem State.setMember_lk (s : State) (i v : Nat) : (s.setMember i v).lk = s.lk := State.setTe_lk s pREG 0 i v
@[simp] theorem State.setMember_gn (s : State) (i v : Nat) : (s.setMember i v).gn = s.gn := State.setTe_gn s pREG 0 i v
@[simp] theorem State.setMember_tm (s : State) (i v : Nat) : (s.setMember i v).tm = s.tm := State.setTe_tm s pREG 0 i v
@[simp] theorem State.setMember_disp (s : State) (i v : Nat) : (s.setMember i v).disp = s.disp := State.setTe_disp s pREG 0 i v
@[simp] theorem State.setMember_ls (s : State) (i v : Nat) : (s.setMember i v).ls = s.ls := State.setTe_ls s pREG 0 i v
@[simp] theorem State.setMember_mot (s : State) (i v : Nat) : (s.setMember i v).mot = s.mot := State.setTe_mot s pREG 0 i v
@[simp] theorem State.setMember_motNsp (s : State) (i v : Nat) : (s.setMember i v).motNsp = s.motNsp := State.setTe_motNsp s pREG 0 i v
@[simp] theorem State.setMember_rtk (s : State) (i v : Nat) : (s.setMember i v).rtk = s.rtk := State.setTe_rtk s pREG 0 i v
@[simp] theorem State.setMember_rt (s : State) (i v : Nat) : (s.setMember i v).rt = s.rt := State.setTe_rt s pREG 0 i v
@[simp] theorem State.setMember_clk (s : State) (i v : Nat) : (s.setMember i v).clk = s.clk := State.setTe_clk s pREG 0 i v
@[simp] theorem State.setMember_met (s : State) (i v : Nat) : (s.setMember i v).met = s.met := State.setTe_met s pREG 0 i v
@[simp] theorem State.setMember_key (s : State) (i v : Nat) : (s.setMember i v).key = s.key := State.setTe_key s pREG 0 i v
@[simp] theorem State.setMember_dbg (s : State) (i v : Nat) : (s.setMember i v).dbg = s.dbg := State.setTe_dbg s pREG 0 i v
@[simp] theorem State.setMember_boot (s : State) (i v : Nat) : (s.setMember i v).boot = s.boot := State.setTe_boot s pREG 0 i v

@[simp] theorem State.mset_pending (s : State) (i : Nat) (f : EF) (v : Nat) : (s.mset i f v).pending = s.pending := State.setTe_pending s pREG 0 i _
@[simp] theorem State.mset_now (s : State) (i : Nat) (f : EF) (v : Nat) : (s.mset i f v).now = s.now := State.setTe_now s pREG 0 i _
@[simp] theorem State.mset_ft (s : State) (i : Nat) (f : EF) (v : Nat) : (s.mset i f v).ft = s.ft := State.setTe_ft s pREG 0 i _
@[simp] theorem State.mset_fresh (s : State) (i : Nat) (f : EF) (v : Nat) : (s.mset i f v).fresh = s.fresh := State.setTe_fresh s pREG 0 i _
@[simp] theorem State.mset_regs (s : State) (i : Nat) (f : EF) (v : Nat) : (s.mset i f v).regs = s.regs := State.setTe_regs s pREG 0 i _
@[simp] theorem State.mset_ctrs (s : State) (i : Nat) (f : EF) (v : Nat) : (s.mset i f v).ctrs = s.ctrs := State.setTe_ctrs s pREG 0 i _
@[simp] theorem State.mset_latch (s : State) (i : Nat) (f : EF) (v : Nat) : (s.mset i f v).latch = s.latch := State.setTe_latch s pREG 0 i _
@[simp] theorem State.mset_dram (s : State) (i : Nat) (f : EF) (v : Nat) : (s.mset i f v).dram = s.dram := State.setTe_dram s pREG 0 i _
@[simp] theorem State.mset_pg (s : State) (i : Nat) (f : EF) (v : Nat) : (s.mset i f v).pg = s.pg := State.setTe_pg s pREG 0 i _
@[simp] theorem State.mset_once (s : State) (i : Nat) (f : EF) (v : Nat) : (s.mset i f v).once = s.once := State.setTe_once s pREG 0 i _
@[simp] theorem State.mset_tags (s : State) (i : Nat) (f : EF) (v : Nat) : (s.mset i f v).tags = s.tags := State.setTe_tags s pREG 0 i _
@[simp] theorem State.mset_vecSent (s : State) (i : Nat) (f : EF) (v : Nat) : (s.mset i f v).vecSent = s.vecSent := State.setTe_vecSent s pREG 0 i _
@[simp] theorem State.mset_vecMask (s : State) (i : Nat) (f : EF) (v : Nat) : (s.mset i f v).vecMask = s.vecMask := State.setTe_vecMask s pREG 0 i _
@[simp] theorem State.mset_fq (s : State) (i : Nat) (f : EF) (v : Nat) : (s.mset i f v).fq = s.fq := State.setTe_fq s pREG 0 i _
@[simp] theorem State.mset_ev (s : State) (i : Nat) (f : EF) (v : Nat) : (s.mset i f v).ev = s.ev := State.setTe_ev s pREG 0 i _
@[simp] theorem State.mset_out (s : State) (i : Nat) (f : EF) (v : Nat) : (s.mset i f v).out = s.out := State.setTe_out s pREG 0 i _
@[simp] theorem State.mset_canal (s : State) (i : Nat) (f : EF) (v : Nat) : (s.mset i f v).canal = s.canal := State.setTe_canal s pREG 0 i _
@[simp] theorem State.mset_hg (s : State) (i : Nat) (f : EF) (v : Nat) : (s.mset i f v).hg = s.hg := State.setTe_hg s pREG 0 i _
@[simp] theorem State.mset_flt (s : State) (i : Nat) (f : EF) (v : Nat) : (s.mset i f v).flt = s.flt := State.setTe_flt s pREG 0 i _
@[simp] theorem State.mset_sup (s : State) (i : Nat) (f : EF) (v : Nat) : (s.mset i f v).sup = s.sup := State.setTe_sup s pREG 0 i _
@[simp] theorem State.mset_held (s : State) (i : Nat) (f : EF) (v : Nat) : (s.mset i f v).held = s.held := State.setTe_held s pREG 0 i _
@[simp] theorem State.mset_air (s : State) (i : Nat) (f : EF) (v : Nat) : (s.mset i f v).air = s.air := State.setTe_air s pREG 0 i _
@[simp] theorem State.mset_arb (s : State) (i : Nat) (f : EF) (v : Nat) : (s.mset i f v).arb = s.arb := State.setTe_arb s pREG 0 i _
@[simp] theorem State.mset_lk (s : State) (i : Nat) (f : EF) (v : Nat) : (s.mset i f v).lk = s.lk := State.setTe_lk s pREG 0 i _
@[simp] theorem State.mset_gn (s : State) (i : Nat) (f : EF) (v : Nat) : (s.mset i f v).gn = s.gn := State.setTe_gn s pREG 0 i _
@[simp] theorem State.mset_tm (s : State) (i : Nat) (f : EF) (v : Nat) : (s.mset i f v).tm = s.tm := State.setTe_tm s pREG 0 i _
@[simp] theorem State.mset_disp (s : State) (i : Nat) (f : EF) (v : Nat) : (s.mset i f v).disp = s.disp := State.setTe_disp s pREG 0 i _
@[simp] theorem State.mset_ls (s : State) (i : Nat) (f : EF) (v : Nat) : (s.mset i f v).ls = s.ls := State.setTe_ls s pREG 0 i _
@[simp] theorem State.mset_mot (s : State) (i : Nat) (f : EF) (v : Nat) : (s.mset i f v).mot = s.mot := State.setTe_mot s pREG 0 i _
@[simp] theorem State.mset_motNsp (s : State) (i : Nat) (f : EF) (v : Nat) : (s.mset i f v).motNsp = s.motNsp := State.setTe_motNsp s pREG 0 i _
@[simp] theorem State.mset_rtk (s : State) (i : Nat) (f : EF) (v : Nat) : (s.mset i f v).rtk = s.rtk := State.setTe_rtk s pREG 0 i _
@[simp] theorem State.mset_rt (s : State) (i : Nat) (f : EF) (v : Nat) : (s.mset i f v).rt = s.rt := State.setTe_rt s pREG 0 i _
@[simp] theorem State.mset_clk (s : State) (i : Nat) (f : EF) (v : Nat) : (s.mset i f v).clk = s.clk := State.setTe_clk s pREG 0 i _
@[simp] theorem State.mset_met (s : State) (i : Nat) (f : EF) (v : Nat) : (s.mset i f v).met = s.met := State.setTe_met s pREG 0 i _
@[simp] theorem State.mset_key (s : State) (i : Nat) (f : EF) (v : Nat) : (s.mset i f v).key = s.key := State.setTe_key s pREG 0 i _
@[simp] theorem State.mset_dbg (s : State) (i : Nat) (f : EF) (v : Nat) : (s.mset i f v).dbg = s.dbg := State.setTe_dbg s pREG 0 i _
@[simp] theorem State.mset_boot (s : State) (i : Nat) (f : EF) (v : Nat) : (s.mset i f v).boot = s.boot := State.setTe_boot s pREG 0 i _

/-! ### Register words -/

theorem State.reg_lt (s : State) (a : Nat) : s.reg a < 2 ^ 32 := (AMap.get regReset s.regs a).isLt

/-- The word just written. -/
@[simp] theorem State.reg_setReg_same (s : State) (a v : Nat) : (s.setReg a v).reg a = v % 2 ^ 32 := by
  simp [State.reg, State.setReg, BitVec.toNat_ofNat]

/-- Every other word. -/
theorem State.reg_setReg_ne (s : State) (a v b : Nat) (h : b ≠ a) : (s.setReg a v).reg b = s.reg b := by
  simp [State.reg, State.setReg, AMap.get_set_ne _ _ _ _ _ h]

/-- An update that leaves the register words alone leaves every field alone. -/
theorem State.get_of_regs {s t : State} (h : t.regs = s.regs) (F : Fld) (i k : Nat) : t.get F i k = s.get F i k := by
  simp [State.get, State.reg, h]

theorem State.getP_of_regs {s t : State} (h : t.regs = s.regs) (p : Page) (F : Fld) : t.getP p F = s.getP p F := by
  simp [State.getP, State.reg, h]

/-! ### Named fields -/

/-- Fields that share no bit: different words, or different bits of one word. -/
def Fld.apart (F : Fld) (i k : Nat) (G : Fld) (j l : Nat) : Prop :=
  G.addr j l = F.addr i k → G.lsb + G.width ≤ F.lsb ∨ F.lsb + F.width ≤ G.lsb

theorem Fld.apart_iff (F : Fld) (i k : Nat) (G : Fld) (j l : Nat) :
    F.apart i k G j l ↔ (G.addr j l = F.addr i k → G.lsb + G.width ≤ F.lsb ∨ F.lsb + F.width ≤ G.lsb) := Iff.rfl

/-- A field that was set reads as its new value. -/
theorem State.get_set_same (s : State) (F : Fld) (v i k : Nat) (h : F.lsb + F.width ≤ 32) :
    (s.set F v i k).get F i k = v % 2 ^ F.width := by
  unfold State.set State.get
  rw [State.reg_setReg_same, Nat.mod_eq_of_lt (setBits_lt _ _ _ _ h (State.reg_lt s _)), bits_setBits_same]

/-- A field that shares no bit with the one that was set keeps its value. -/
theorem State.get_set_apart (s : State) (F : Fld) (v i k : Nat) (G : Fld) (j l : Nat) (hf : F.lsb + F.width ≤ 32)
    (h : G.addr j l = F.addr i k → G.lsb + G.width ≤ F.lsb ∨ F.lsb + F.width ≤ G.lsb) :
    (s.set F v i k).get G j l = s.get G j l := by
  unfold State.set State.get
  by_cases ha : G.addr j l = F.addr i k
  · rw [ha, State.reg_setReg_same, Nat.mod_eq_of_lt (setBits_lt _ _ _ _ hf (State.reg_lt s _))]
    rcases h ha with h | h
    · exact bits_setBits_below _ _ _ _ _ _ h
    · exact bits_setBits_above _ _ _ _ _ _ h
  · rw [State.reg_setReg_ne _ _ _ _ ha]

theorem State.getP_setP_same (s : State) (p : Page) (F : Fld) (v : Nat) (h : F.lsb + F.width ≤ 32) :
    (s.setP p F v).getP p F = v % 2 ^ F.width := by
  unfold State.setP State.getP
  rw [State.reg_setReg_same, Nat.mod_eq_of_lt (setBits_lt _ _ _ _ h (State.reg_lt s _)), bits_setBits_same]

theorem State.getP_setP_apart (s : State) (p : Page) (F : Fld) (v : Nat) (G : Fld) (hf : F.lsb + F.width ≤ 32)
    (h : G.off % 0x1000 = F.off % 0x1000 → G.lsb + G.width ≤ F.lsb ∨ F.lsb + F.width ≤ G.lsb) :
    (s.setP p F v).getP p G = s.getP p G := by
  unfold State.setP State.getP Page.adr
  by_cases ha : G.off % 0x1000 = F.off % 0x1000
  · rw [ha, State.reg_setReg_same, Nat.mod_eq_of_lt (setBits_lt _ _ _ _ hf (State.reg_lt s _))]
    rcases h ha with h | h
    · exact bits_setBits_below _ _ _ _ _ _ h
    · exact bits_setBits_above _ _ _ _ _ _ h
  · rw [State.reg_setReg_ne _ _ _ _ (by omega)]

/-- Every page stands at a multiple of 4 KiB (R37). -/
theorem Page.base_mod (p : Page) : p.base % 0x1000 = 0 := by
  unfold Page.base
  split <;> omega

/-- Two words with different offsets within their pages are different words. -/
theorem Page.off_ne (p q : Page) (a b : Nat) (ha : a < 0x1000) (hb : b < 0x1000) (h : a ≠ b) : p.adr a ≠ q.adr b := by
  have h1 := Page.base_mod p
  have h2 := Page.base_mod q
  unfold Page.adr
  omega

/-- Words of different pages are different words. -/
theorem Page.page_ne (p q : Page) (a b : Nat) (h : p.base ≠ q.base) : p.adr a ≠ q.adr b := by
  have h1 := Page.base_mod p
  have h2 := Page.base_mod q
  unfold Page.adr
  omega

/-- Setting a field of the common header leaves the fields of the block's own registers alone. -/
theorem State.get_setP (s : State) (p : Page) (F : Fld) (v : Nat) (G : Fld) (j l : Nat) (hf : F.off < 0x280)
    (h1 : 0x280 ≤ G.off + l * G.step) (h2 : G.off + l * G.step < 0x1000) : (s.setP p F v).get G j l = s.get G j l := by
  unfold State.setP State.get
  rw [State.reg_setReg_ne]
  exact Page.off_ne ⟨G.blk, j⟩ p (G.off + l * G.step) F.off h2 (by omega) (by omega)

/-- Setting a field of a block's own registers leaves the common headers alone. -/
theorem State.getP_set (s : State) (p : Page) (F : Fld) (v j l : Nat) (G : Fld) (hg : G.off < 0x280)
    (h1 : 0x280 ≤ F.off + l * F.step) (h2 : F.off + l * F.step < 0x1000) : (s.set F v j l).getP p G = s.getP p G := by
  unfold State.set State.getP
  rw [State.reg_setReg_ne]
  exact Page.off_ne p ⟨F.blk, j⟩ G.off (F.off + l * F.step) (by omega) h2 (by omega)

theorem State.st_eq (s : State) (p : Page) : s.st p = s.getP p F.STATE := rfl

/-! ### Fields through updates of other kinds -/

@[simp] theorem State.get_incAt (s : State) (a n : Nat) (F : Fld) (i k : Nat) : (s.incAt a n).get F i k = s.get F i k := rfl
@[simp] theorem State.get_incP (s : State) (p : Page) (c : Ctr) (n : Nat) (F : Fld) (i k : Nat) : (s.incP p c n).get F i k = s.get F i k := rfl
@[simp] theorem State.get_inc (s : State) (c : Ctr) (a n : Nat) (F : Fld) (i k : Nat) : (s.inc c a n).get F i k = s.get F i k := rfl
@[simp] theorem State.get_emit (s : State) (o : Out) (F : Fld) (i k : Nat) : (s.emit o).get F i k = s.get F i k := rfl
@[simp] theorem State.get_free (s : State) (F : Fld) (i k : Nat) : s.free.2.get F i k = s.get F i k := rfl
@[simp] theorem State.get_setPage (s : State) (p : Page) (v : PageSt) (F : Fld) (i k : Nat) : (s.setPage p v).get F i k = s.get F i k := rfl
@[simp] theorem State.get_clearTable (s : State) (p : Page) (t : Nat) (F : Fld) (i k : Nat) : (s.clearTable p t).get F i k = s.get F i k := rfl
@[simp] theorem State.get_setTe (s : State) (p : Page) (t n v : Nat) (F : Fld) (i k : Nat) : (s.setTe p t n v).get F i k = s.get F i k :=
  State.get_of_regs (State.setTe_regs s p t n v) F i k
@[simp] theorem State.getP_incAt (s : State) (a n : Nat) (q : Page) (F : Fld) : (s.incAt a n).getP q F = s.getP q F := rfl
@[simp] theorem State.getP_incP (s : State) (p : Page) (c : Ctr) (n : Nat) (q : Page) (F : Fld) : (s.incP p c n).getP q F = s.getP q F := rfl
@[simp] theorem State.getP_inc (s : State) (c : Ctr) (a n : Nat) (q : Page) (F : Fld) : (s.inc c a n).getP q F = s.getP q F := rfl
@[simp] theorem State.getP_emit (s : State) (o : Out) (q : Page) (F : Fld) : (s.emit o).getP q F = s.getP q F := rfl
@[simp] theorem State.getP_setPage (s : State) (p : Page) (v : PageSt) (q : Page) (F : Fld) : (s.setPage p v).getP q F = s.getP q F := rfl
@[simp] theorem State.getP_setTe (s : State) (p : Page) (t n v : Nat) (q : Page) (F : Fld) : (s.setTe p t n v).getP q F = s.getP q F :=
  State.getP_of_regs (State.setTe_regs s p t n v) q F
@[simp] theorem State.reg_incAt (s : State) (a n b : Nat) : (s.incAt a n).reg b = s.reg b := rfl
@[simp] theorem State.reg_incP (s : State) (p : Page) (c : Ctr) (n b : Nat) : (s.incP p c n).reg b = s.reg b := rfl
@[simp] theorem State.reg_inc (s : State) (c : Ctr) (a n b : Nat) : (s.inc c a n).reg b = s.reg b := rfl
@[simp] theorem State.reg_emit (s : State) (o : Out) (b : Nat) : (s.emit o).reg b = s.reg b := rfl

/-! ### Counters -/

/-- A counter that was advanced. -/
theorem State.ctr_incP_same (s : State) (p : Page) (c : Ctr) (n : Nat) : (s.incP p c n).ctr p c = (s.ctr p c + n) % 2 ^ 64 := by
  simp [State.ctr, State.incP, State.incAt, BitVec.toNat_add, BitVec.toNat_ofNat]

/-- Every other counter. -/
theorem State.ctr_incP_ne (s : State) (p : Page) (c : Ctr) (n : Nat) (q : Page) (d : Ctr) (h : q.adr d.off ≠ p.adr c.off) :
    (s.incP p c n).ctr q d = s.ctr q d := by
  simp [State.ctr, State.incP, State.incAt, AMap.get_set_ne _ _ _ _ _ h]

theorem State.ctr_inc_same (s : State) (c : Ctr) (i n : Nat) : (s.inc c i n).ctr ⟨c.blk, i⟩ c = (s.ctr ⟨c.blk, i⟩ c + n) % 2 ^ 64 :=
  State.ctr_incP_same s ⟨c.blk, i⟩ c n

theorem State.ctr_of_ctrs {s t : State} (h : t.ctrs = s.ctrs) (p : Page) (c : Ctr) : t.ctr p c = s.ctr p c := by
  simp [State.ctr, h]

@[simp] theorem State.ctr_set (s : State) (F : Fld) (v i k : Nat) (p : Page) (c : Ctr) : (s.set F v i k).ctr p c = s.ctr p c := rfl
@[simp] theorem State.ctr_setReg (s : State) (a v : Nat) (p : Page) (c : Ctr) : (s.setReg a v).ctr p c = s.ctr p c := rfl
@[simp] theorem State.ctr_setP (s : State) (q : Page) (F : Fld) (v : Nat) (p : Page) (c : Ctr) : (s.setP q F v).ctr p c = s.ctr p c := rfl
@[simp] theorem State.ctr_emit (s : State) (o : Out) (p : Page) (c : Ctr) : (s.emit o).ctr p c = s.ctr p c := rfl

/-! ### Pages and table entries -/

@[simp] theorem State.page_setPage_same (s : State) (p : Page) (v : PageSt) : (s.setPage p v).page p = v := by
  simp [State.page, State.setPage]

theorem State.page_of_pg {s t : State} (h : t.pg = s.pg) (p : Page) : t.page p = s.page p := by
  simp [State.page, h]

theorem State.setTe_tbl (s : State) (p : Page) (t i v : Nat) : (s.setTe p t i v).tbl = AMap.set tblReset s.tbl (p.tblKey t i) v := by
  unfold State.setTe
  dsimp only
  split <;> rfl

/-- The entry just written. -/
@[simp] theorem State.te_setTe_same (s : State) (p : Page) (t i v : Nat) : (s.setTe p t i v).te p t i = v := by
  simp [State.te, State.setTe_tbl]

/-- Every other entry. -/
theorem State.te_setTe_ne (s : State) (p : Page) (t i v : Nat) (q : Page) (u j : Nat) (h : q.tblKey u j ≠ p.tblKey t i) :
    (s.setTe p t i v).te q u j = s.te q u j := by
  simp [State.te, State.setTe_tbl, AMap.get_set_ne _ _ _ _ _ h]

/-- Another index of the same table. -/
theorem State.te_setTe_idx (s : State) (p : Page) (t i v j : Nat) (h : j % 2 ^ 24 ≠ i % 2 ^ 24) :
    (s.setTe p t i v).te p t j = s.te p t j :=
  State.te_setTe_ne s p t i v p t j (by unfold Page.tblKey; omega)

theorem State.te_of_tbl {s t : State} (h : t.tbl = s.tbl) (p : Page) (n i : Nat) : t.te p n i = s.te p n i := by
  simp [State.te, h]

/-- A cleared table reads as at reset. -/
theorem State.te_clearTable_same (s : State) (p : Page) (t i : Nat) (h : i < 2 ^ 24) :
    (s.clearTable p t).te p t i = tblReset (p.tblBase t + i) := by
  simp only [State.te, State.clearTable, AMap.get_clearRange, Page.tblKey, Nat.mod_eq_of_lt h]
  rw [if_pos ⟨by omega, by omega⟩]

theorem EF.get_set_same (f : EF) (e v : Nat) : f.get (f.set e v) = v % 2 ^ f.width := bits_setBits_same _ _ _ _

theorem EF.get_set_apart (f g : EF) (e v : Nat)
    (h : 8 * g.byte + g.lsb + g.width ≤ 8 * f.byte + f.lsb ∨ 8 * f.byte + f.lsb + f.width ≤ 8 * g.byte + g.lsb) :
    g.get (f.set e v) = g.get e := by
  unfold EF.get EF.set
  rcases h with h | h
  · exact bits_setBits_below _ _ _ _ _ _ h
  · exact bits_setBits_above _ _ _ _ _ _ h

/-- A field of a member's record that was set. -/
theorem State.mget_mset_same (s : State) (i : Nat) (f : EF) (v : Nat) : (s.mset i f v).mget i f = v % 2 ^ f.width := by
  unfold State.mset State.mget State.setMember State.member
  rw [State.te_setTe_same, EF.get_set_same]

/-- The other fields of that record. -/
theorem State.mget_mset_apart (s : State) (i : Nat) (f : EF) (v : Nat) (g : EF)
    (h : 8 * g.byte + g.lsb + g.width ≤ 8 * f.byte + f.lsb ∨ 8 * f.byte + f.lsb + f.width ≤ 8 * g.byte + g.lsb) :
    (s.mset i f v).mget i g = s.mget i g := by
  unfold State.mset State.mget State.setMember State.member
  rw [State.te_setTe_same, EF.get_set_apart f g _ _ h]

/-- Every other member's record. -/
theorem State.member_mset_ne (s : State) (i : Nat) (f : EF) (v j : Nat) (h : j % 2 ^ 24 ≠ i % 2 ^ 24) :
    (s.mset i f v).member j = s.member j :=
  State.te_setTe_idx s pREG 0 i _ j h

/-! ### Conditional and repeated updates -/

@[simp] theorem State.on_true (s : State) (f : State → State) : s.on true f = f s := rfl
@[simp] theorem State.on_false (s : State) (f : State → State) : s.on false f = s := rfl

/-- What every single update keeps, a repetition keeps. -/
theorem State.each_keeps {α β : Type} (π : State → β) (s : State) (l : List α) (f : State → α → State)
    (h : ∀ t x, π (f t x) = π t) : π (s.each l f) = π s := by
  unfold State.each
  induction l generalizing s with
  | nil => rfl
  | cons x r ih => rw [List.foldl_cons, ih, h]

/-- What an update keeps, it keeps under a condition. -/
theorem State.on_keeps {β : Type} (π : State → β) (s : State) (c : Bool) (f : State → State) (h : π (f s) = π s) :
    π (s.on c f) = π s := by
  cases c
  · rfl
  · exact h

end Sys2Proof.Machine
end

