-- ==== Sys2Proof/Laws/Frame.lean ====
section
/-! SUPPORT. What every function of the model leaves alone: for each one a lemma that the parts of the state that it does not
name as touched are as before, the queue and the physical time always among them. `Res.rest` says as well that an outcome
is a next state. A class below says that a part may be touched. -/
namespace Sys2Proof.Machine
open Sys2Proof
set_option simprocs false
set_option linter.unusedSimpArgs false
set_option linter.unusedVariables false
set_option linter.unusedSectionVars false
set_option linter.unnecessarySeqFocus false
set_option linter.unusedTactic false
set_option linter.unreachableTactic false

/-- `ft` may be touched. -/
class Touch.Ft (W : Touch) : Prop where
  ft_on : W.ft = true
/-- `fresh` may be touched. -/
class Touch.Fresh (W : Touch) : Prop where
  fresh_on : W.fresh = true
/-- `latch` may be touched. -/
class Touch.Latch (W : Touch) : Prop where
  latch_on : W.latch = true
/-- `dram` may be touched. -/
class Touch.Dram (W : Touch) : Prop where
  dram_on : W.dram = true
/-- `once` may be touched. -/
class Touch.Once (W : Touch) : Prop where
  once_on : W.once = true
/-- `tags` may be touched. -/
class Touch.Tags (W : Touch) : Prop where
  tags_on : W.tags = true
/-- `vecSent` may be touched. -/
class Touch.VecSent (W : Touch) : Prop where
  vecSent_on : W.vecSent = true
/-- `vecMask` may be touched. -/
class Touch.VecMask (W : Touch) : Prop where
  vecMask_on : W.vecMask = true
/-- `fq` may be touched. -/
class Touch.Fq (W : Touch) : Prop where
  fq_on : W.fq = true
/-- `ev` may be touched. -/
class Touch.Ev (W : Touch) : Prop where
  ev_on : W.ev = true
/-- `out` may be touched. -/
class Touch.Out (W : Touch) : Prop where
  out_on : W.out = true
/-- `canal` may be touched. -/
class Touch.Canal (W : Touch) : Prop where
  canal_on : W.canal = true
/-- `hg` may be touched. -/
class Touch.Hg (W : Touch) : Prop where
  hg_on : W.hg = true
/-- `flt` may be touched. -/
class Touch.Flt (W : Touch) : Prop where
  flt_on : W.flt = true
/-- `sup` may be touched. -/
class Touch.Sup (W : Touch) : Prop where
  sup_on : W.sup = true
/-- `held` may be touched. -/
class Touch.Held (W : Touch) : Prop where
  held_on : W.held = true
/-- `air` may be touched. -/
class Touch.Air (W : Touch) : Prop where
  air_on : W.air = true
/-- `arb` may be touched. -/
class Touch.Arb (W : Touch) : Prop where
  arb_on : W.arb = true
/-- `lk` may be touched. -/
class Touch.Lk (W : Touch) : Prop where
  lk_on : W.lk = true
/-- `pair` may be touched. -/
class Touch.Pair (W : Touch) : Prop where
  pair_on : W.pair = true
/-- `gn` may be touched. -/
class Touch.Gn (W : Touch) : Prop where
  gn_on : W.gn = true
/-- `tm` may be touched. -/
class Touch.Tm (W : Touch) : Prop where
  tm_on : W.tm = true
/-- `disp` may be touched. -/
class Touch.Disp (W : Touch) : Prop where
  disp_on : W.disp = true
/-- `ls` may be touched. -/
class Touch.Ls (W : Touch) : Prop where
  ls_on : W.ls = true
/-- `mot` may be touched. -/
class Touch.Mot (W : Touch) : Prop where
  mot_on : W.mot = true
/-- `motNsp` may be touched. -/
class Touch.MotNsp (W : Touch) : Prop where
  motNsp_on : W.motNsp = true
/-- `rtk` may be touched. -/
class Touch.Rtk (W : Touch) : Prop where
  rtk_on : W.rtk = true
/-- `rt` may be touched. -/
class Touch.Rt (W : Touch) : Prop where
  rt_on : W.rt = true
/-- `clk` may be touched. -/
class Touch.Clk (W : Touch) : Prop where
  clk_on : W.clk = true
/-- `met` may be touched. -/
class Touch.Met (W : Touch) : Prop where
  met_on : W.met = true
/-- `key` may be touched. -/
class Touch.Key (W : Touch) : Prop where
  key_on : W.key = true
/-- `dbg` may be touched. -/
class Touch.Dbg (W : Touch) : Prop where
  dbg_on : W.dbg = true
/-- `boot` may be touched. -/
class Touch.Boot (W : Touch) : Prop where
  boot_on : W.boot = true
/-- The block may be touched. -/
class Touch.In (W : Touch) (b : Blk) : Prop where
  mem : W.has (some b) = true
/-- What a record, an interrupt or a message touches. -/
class Touch.Log (W : Touch) : Prop extends W.Out, W.VecSent, W.Fq, W.Ev, W.Once, W.Canal where
  canal_in : W.In .canal
  eth_in : W.In .eth
  evlog_in : W.In .evlog
  flume_in : W.In .flume
  pcie_in : W.In .pcie
/-- What a change of the service level touches. -/
class Touch.Level (W : Touch) : Prop extends W.Log, W.Hg, W.Flt, W.Pair, W.Disp, W.Rtk where
  core_in : W.In .core
  dispatch_in : W.In .dispatch
  fault_in : W.In .fault
  headgate_in : W.In .headgate
  obsIn_in : W.In .obsIn
  registry_in : W.In .registry
  rtkCtrl_in : W.In .rtkCtrl
/-- Every part beside the blocks may be touched. -/
class Touch.All (W : Touch) : Prop extends W.Level, W.Ft, W.Fresh, W.Latch, W.Dram, W.Tags, W.VecMask, W.Sup, W.Held, W.Air, W.Arb, W.Lk, W.Gn, W.Tm, W.Ls, W.Mot, W.MotNsp, W.Rt, W.Clk, W.Met, W.Key, W.Dbg, W.Boot
theorem Touch.logIns (W : Touch) [h : W.Log] : W.In .canal ∧ W.In .eth ∧ W.In .evlog ∧ W.In .flume ∧ W.In .pcie :=
  ⟨h.canal_in, h.eth_in, h.evlog_in, h.flume_in, h.pcie_in⟩
theorem Touch.levelIns (W : Touch) [h : W.Level] : W.In .canal ∧ W.In .eth ∧ W.In .evlog ∧ W.In .flume ∧ W.In .pcie ∧ W.In .core ∧ W.In .dispatch ∧ W.In .fault ∧ W.In .headgate ∧ W.In .obsIn ∧ W.In .registry ∧ W.In .rtkCtrl :=
  ⟨h.toLog.canal_in, h.toLog.eth_in, h.toLog.evlog_in, h.toLog.flume_in, h.toLog.pcie_in, h.core_in, h.dispatch_in, h.fault_in, h.headgate_in, h.obsIn_in, h.registry_in, h.rtkCtrl_in⟩
theorem hide_on {α : Type} {b : Bool} (h : b = true) (x y : α) : hide b x = hide b y := by
  subst h
  rfl
@[simp] theorem rest_next (W : Touch) (t : State) : Res.rest W (.next t) = some (t.rest W) := rfl
theorem AMap.filter_put {α : Type} (m : AMap α) (k : Nat) (v : α) (p : Nat × α → Bool) (h : ∀ x, p (k, x) = false) :
    (AMap.put m k v).filter p = m.filter p := by
  induction m with
  | nil => simp [AMap.put, h]
  | cons e r ih =>
    obtain ⟨k', v'⟩ := e
    unfold AMap.put
    split
    · rw [List.filter_cons, h]; rfl
    · split
      · rename_i h2; subst h2; rw [List.filter_cons, List.filter_cons, h, h]; rfl
      · rw [List.filter_cons, List.filter_cons, ih]
theorem AMap.filter_del {α : Type} (m : AMap α) (k : Nat) (p : Nat × α → Bool) (h : ∀ x, p (k, x) = false) :
    (AMap.del m k).filter p = m.filter p := by
  rw [AMap.del_eq_filter, List.filter_filter]
  refine List.filter_congr fun e _ => ?_
  by_cases hk : k = e.1
  · have := h e.2
    rw [hk] at this
    rw [show p e = false from this]
    rfl
  · simp [hk]
theorem AMap.filter_set {α : Type} [DecidableEq α] (d : Nat → α) (m : AMap α) (k : Nat) (v : α) (p : Nat × α → Bool)
    (h : ∀ x, p (k, x) = false) : (AMap.set d m k v).filter p = m.filter p := by
  unfold AMap.set
  split
  · exact AMap.filter_del m k p h
  · exact AMap.filter_put m k v p h
theorem AMap.filter_clearRange {α : Type} (m : AMap α) (lo hi : Nat) (p : Nat × α → Bool)
    (h : ∀ e, lo ≤ e.1 → e.1 < hi → p e = false) : (AMap.clearRange m lo hi).filter p = m.filter p := by
  unfold AMap.clearRange
  rw [List.filter_filter]
  refine List.filter_congr fun e _ => ?_
  by_cases h1 : lo ≤ e.1 <;> by_cases h2 : e.1 < hi <;> simp [h1, h2]
  exact h e h1 h2

theorem ofAddr_eq (r n i o : Nat) (hr : r < 8) (hn : n < 32) (hi : i < 16) (ho : o < 0x1000) (b : Blk) (hb : Blk.of r n = some b)
    (hc : i < b.count) (hx : b ≠ .regionCtl) : Page.ofAddr (r * 0x200000 + n * 0x10000 + i * 0x1000 + o) = some ⟨b, i⟩ := by
  unfold Page.ofAddr
  rw [show (r * 0x200000 + n * 0x10000 + i * 0x1000 + o) / 0x200000 = r by omega,
    show (r * 0x200000 + n * 0x10000 + i * 0x1000 + o) % 0x200000 / 0x10000 = n by omega,
    show (r * 0x200000 + n * 0x10000 + i * 0x1000 + o) % 0x10000 / 0x1000 = i by omega]
  dsimp only
  rw [if_pos hr, hb]
  cases b <;> first | exact absurd rfl hx | exact if_pos hc
theorem ctl_of : ∀ r, r < 8 → Blk.of r 31 = some .regionCtl := by decide
theorem blk_facts (b : Blk) : b.region < 8 ∧ b.num < 32 ∧ 0 < b.count ∧ b.count ≤ 16 ∧
    (b ≠ .regionCtl → Blk.of b.region b.num = some b) := by
  cases b <;> decide
theorem ofAddr_ctl (r o : Nat) (hr : r < 8) (ho : o < 0x1000) : Page.ofAddr (r * 0x200000 + 0x1F0000 + o) = some ⟨.regionCtl, r⟩ := by
  unfold Page.ofAddr
  rw [show (r * 0x200000 + 0x1F0000 + o) / 0x200000 = r by omega,
    show (r * 0x200000 + 0x1F0000 + o) % 0x200000 / 0x10000 = 31 by omega,
    show (r * 0x200000 + 0x1F0000 + o) % 0x10000 / 0x1000 = 0 by omega]
  dsimp only
  rw [if_pos hr]
  have : Blk.of r 31 = some .regionCtl := ctl_of r hr
  rw [this]
  rfl
/-- A page's addresses decode to its block. -/
theorem blkAt_adr (p : Page) (o : Nat) : blkAt (p.adr o) = some p.blk := by
  obtain ⟨b, i⟩ := p
  have ho : o % 0x1000 < 0x1000 := Nat.mod_lt _ (by decide)
  unfold blkAt
  obtain ⟨hr, hn, hc, hc2, hb⟩ := blk_facts b
  by_cases hx : b = .regionCtl
  · subst hx
    rw [show Page.adr ⟨.regionCtl, i⟩ o = i % 8 * 0x200000 + 0x1F0000 + o % 0x1000 from rfl, ofAddr_ctl _ _ (Nat.mod_lt _ (by decide)) ho]
    rfl
  · rw [show Page.adr ⟨b, i⟩ o = b.region * 0x200000 + b.num * 0x10000 + i % b.count * 0x1000 + o % 0x1000 by
      unfold Page.adr Page.base; cases b <;> first | exact absurd rfl hx | rfl]
    rw [ofAddr_eq _ _ _ _ hr hn (Nat.lt_of_lt_of_le (Nat.mod_lt _ hc) hc2) ho b (hb hx) (Nat.mod_lt _ hc) hx]
    rfl
theorem blkAt_tblKey (p : Page) (n i : Nat) : blkAt (p.tblKey n i / 2 ^ 28 * 0x1000) = some p.blk := by
  rw [← blkAt_adr p 0]
  have h := Page.base_mod p
  congr 1
  unfold Page.tblKey Page.tblBase Page.adr
  omega
theorem base_range (p : Page) (a : Nat) (h1 : p.base ≤ a) (h2 : a < p.base + 0x1000) : blkAt a = some p.blk := by
  rw [show a = p.adr (a - p.base) by unfold Page.adr; omega]
  exact blkAt_adr p _
theorem tbl_range (p : Page) (n a : Nat) (h1 : p.tblBase n ≤ a) (h2 : a < p.tblBase n + 2 ^ 24) :
    blkAt (a / 2 ^ 28 * 0x1000) = some p.blk := by
  rw [show a = p.tblKey n (a - p.tblBase n) by unfold Page.tblKey; omega]
  exact blkAt_tblKey p _ _

theorem Touch.left {W : Touch} {b : Blk} [h : W.In b] {o : Option Blk} (ho : o = some b) : (!W.has o) = false := by
  rw [ho, h.mem]; rfl
theorem Touch.hasAny (W : Touch) [h : ∀ b, W.In b] (o : Option Blk) : W.has o = true := by
  cases o with
  | none => rfl
  | some b => exact (h b).mem
theorem Touch.regLeft_all {α : Type} (W : Touch) [∀ b, W.In b] (x y : AMap α) : W.regLeft x = W.regLeft y := by
  simp [Touch.regLeft, Touch.hasAny]
theorem Touch.tblLeft_all (W : Touch) [∀ b, W.In b] (x y : AMap Nat) : W.tblLeft x = W.tblLeft y := by
  simp [Touch.tblLeft, Touch.hasAny]
theorem Touch.regLeft_set {α : Type} [DecidableEq α] (W : Touch) (p : Page) [W.In p.blk] (d : Nat → α) (m : AMap α) (o : Nat) (v : α) :
    W.regLeft (AMap.set d m (p.adr o) v) = W.regLeft m :=
  AMap.filter_set d m _ v _ fun _ => Touch.left (blkAt_adr p o)
theorem Touch.regLeft_clear {α : Type} (W : Touch) (p : Page) [W.In p.blk] (m : AMap α) :
    W.regLeft (AMap.clearRange m p.base (p.base + 0x1000)) = W.regLeft m :=
  AMap.filter_clearRange m _ _ _ fun e h1 h2 => Touch.left (base_range p e.1 h1 h2)
theorem Touch.tblLeft_set (W : Touch) (p : Page) [W.In p.blk] (m : AMap Nat) (n i v : Nat) :
    W.tblLeft (AMap.set tblReset m (p.tblKey n i) v) = W.tblLeft m :=
  AMap.filter_set _ m _ v _ fun _ => Touch.left (blkAt_tblKey p n i)
theorem Touch.tblLeft_del (W : Touch) (p : Page) [W.In p.blk] (m : AMap Nat) (n i : Nat) :
    W.tblLeft (AMap.del m (p.tblKey n i)) = W.tblLeft m :=
  AMap.filter_del m _ _ fun _ => Touch.left (blkAt_tblKey p n i)
theorem Touch.tblLeft_clear (W : Touch) (p : Page) [W.In p.blk] (m : AMap Nat) (n : Nat) :
    W.tblLeft (AMap.clearRange m (p.tblBase n) (p.tblBase n + 2 ^ 24)) = W.tblLeft m :=
  AMap.filter_clearRange m _ _ _ fun e h1 h2 => Touch.left (tbl_range p n e.1 h1 h2)
theorem State.rest_regset {W : Touch} (t : State) (p : Page) [W.In p.blk] (o : Nat) (v : Word) :
    (State.mk t.pending t.now t.ft t.fresh (AMap.set regReset t.regs (p.adr o) v) t.ctrs t.latch t.tbl t.dram t.pg t.once t.tags t.vecSent t.vecMask t.fq t.ev t.out t.canal t.hg t.flt t.sup t.held t.air t.arb t.lk t.pair t.gn t.tm t.disp t.ls t.mot t.motNsp t.rtk t.rt t.clk t.met t.key t.dbg t.boot).rest W = t.rest W := by
  unfold State.rest
  rw [Touch.regLeft_set]
theorem State.rest_ctrset {W : Touch} (t : State) (p : Page) [W.In p.blk] (o : Nat) (v : BitVec 64) :
    (State.mk t.pending t.now t.ft t.fresh t.regs (AMap.set (fun _ => 0) t.ctrs (p.adr o) v) t.latch t.tbl t.dram t.pg t.once t.tags t.vecSent t.vecMask t.fq t.ev t.out t.canal t.hg t.flt t.sup t.held t.air t.arb t.lk t.pair t.gn t.tm t.disp t.ls t.mot t.motNsp t.rtk t.rt t.clk t.met t.key t.dbg t.boot).rest W = t.rest W := by
  unfold State.rest
  rw [Touch.regLeft_set]
theorem State.rest_pgset {W : Touch} (t : State) (p : Page) [W.In p.blk] (v : PageSt) :
    (State.mk t.pending t.now t.ft t.fresh t.regs t.ctrs t.latch t.tbl t.dram (AMap.set (fun _ => ({} : PageSt)) t.pg (p.adr 0) v) t.once t.tags t.vecSent t.vecMask t.fq t.ev t.out t.canal t.hg t.flt t.sup t.held t.air t.arb t.lk t.pair t.gn t.tm t.disp t.ls t.mot t.motNsp t.rtk t.rt t.clk t.met t.key t.dbg t.boot).rest W = t.rest W := by
  unfold State.rest
  rw [Touch.regLeft_set]
theorem State.rest_tblset {W : Touch} (t : State) (p : Page) [W.In p.blk] (n i v : Nat) :
    (State.mk t.pending t.now t.ft t.fresh t.regs t.ctrs t.latch (AMap.set tblReset t.tbl (p.tblKey n i) v) t.dram t.pg t.once t.tags t.vecSent t.vecMask t.fq t.ev t.out t.canal t.hg t.flt t.sup t.held t.air t.arb t.lk t.pair t.gn t.tm t.disp t.ls t.mot t.motNsp t.rtk t.rt t.clk t.met t.key t.dbg t.boot).rest W = t.rest W := by
  unfold State.rest
  rw [Touch.tblLeft_set]
theorem State.rest_tbldel {W : Touch} (t : State) (p : Page) [W.In p.blk] (n i : Nat) :
    (State.mk t.pending t.now t.ft t.fresh t.regs t.ctrs t.latch (AMap.del t.tbl (p.tblKey n i)) t.dram t.pg t.once t.tags t.vecSent t.vecMask t.fq t.ev t.out t.canal t.hg t.flt t.sup t.held t.air t.arb t.lk t.pair t.gn t.tm t.disp t.ls t.mot t.motNsp t.rtk t.rt t.clk t.met t.key t.dbg t.boot).rest W = t.rest W := by
  unfold State.rest
  rw [Touch.tblLeft_del]
theorem State.rest_tblclr {W : Touch} (t : State) (p : Page) [W.In p.blk] (n : Nat) :
    (State.mk t.pending t.now t.ft t.fresh t.regs t.ctrs t.latch (AMap.clearRange t.tbl (p.tblBase n) (p.tblBase n + 2 ^ 24)) t.dram t.pg t.once t.tags t.vecSent t.vecMask t.fq t.ev t.out t.canal t.hg t.flt t.sup t.held t.air t.arb t.lk t.pair t.gn t.tm t.disp t.ls t.mot t.motNsp t.rtk t.rt t.clk t.met t.key t.dbg t.boot).rest W = t.rest W := by
  unfold State.rest
  rw [Touch.tblLeft_clear]
theorem State.rest_hgclear {W : Touch} (t : State) [W.In .headgate] [W.Hg] [W.Sup] (h : HgSt) (u : SupplySt) :
    (State.mk t.pending t.now t.ft t.fresh (AMap.clearRange t.regs pHG.base (pHG.base + 0x1000)) (AMap.clearRange t.ctrs pHG.base (pHG.base + 0x1000)) t.latch t.tbl t.dram t.pg t.once t.tags t.vecSent t.vecMask t.fq t.ev t.out t.canal h t.flt u t.held t.air t.arb t.lk t.pair t.gn t.tm t.disp t.ls t.mot t.motNsp t.rtk t.rt t.clk t.met t.key t.dbg t.boot).rest W = t.rest W := by
  unfold State.rest
  rw [Touch.regLeft_clear W pHG t.regs]
  rw [Touch.regLeft_clear W pHG t.ctrs]
  rw [hide_on (Touch.Hg.hg_on (W := W)) h t.hg]
  rw [hide_on (Touch.Sup.sup_on (W := W)) u t.sup]
theorem State.setReg_adr_rest {W : Touch} (s : State) (p : Page) [W.In p.blk] (o v : Nat) : (s.setReg (p.adr o) v).rest W = s.rest W :=
  State.rest_regset s p o _
theorem State.setReg_fld_rest {W : Touch} (s : State) (F : Fld) [W.In F.blk] (i k v : Nat) : (s.setReg (F.addr i k) v).rest W = s.rest W :=
  State.rest_regset s ⟨F.blk, i⟩ _ _
theorem State.setReg_sts_rest {W : Touch} (s : State) (p : Page) [W.In p.blk] (v : Nat) : (s.setReg p.tblStatus v).rest W = s.rest W :=
  State.rest_regset s p _ _
theorem State.setReg_cmd_rest {W : Touch} (s : State) (p : Page) [W.In p.blk] (v : Nat) : (s.setReg p.tblCmd v).rest W = s.rest W :=
  State.rest_regset s p _ _
theorem State.incAt_adr_rest {W : Touch} (s : State) (p : Page) [W.In p.blk] (o n : Nat) : (s.incAt (p.adr o) n).rest W = s.rest W :=
  State.rest_ctrset s p o _
theorem State.incAt_arb_rest {W : Touch} (s : State) [W.In .regionCtl] (g r k n : Nat) : (s.incAt (arbCtr g r k) n).rest W = s.rest W :=
  State.rest_ctrset s ⟨.regionCtl, g⟩ _ _
theorem State.setCtrAt_arb_rest {W : Touch} (s : State) [W.In .regionCtl] (g r k n : Nat) : (s.setCtrAt (arbCtr g r k) n).rest W = s.rest W :=
  State.rest_ctrset s ⟨.regionCtl, g⟩ _ _

theorem State.rest_air {W : Touch} [W.Air] (t : State) (x0 : AirSt) :
    (State.mk t.pending t.now t.ft t.fresh t.regs t.ctrs t.latch t.tbl t.dram t.pg t.once t.tags t.vecSent t.vecMask t.fq t.ev t.out t.canal t.hg t.flt t.sup t.held x0 t.arb t.lk t.pair t.gn t.tm t.disp t.ls t.mot t.motNsp t.rtk t.rt t.clk t.met t.key t.dbg t.boot).rest W = t.rest W := by
  unfold State.rest
  rw [hide_on (Touch.Air.air_on (W := W)) x0 t.air]
theorem State.rest_air_motNsp {W : Touch} [W.Air] [W.MotNsp] (t : State) (x0 : AirSt) (x1 : Nat) :
    (State.mk t.pending t.now t.ft t.fresh t.regs t.ctrs t.latch t.tbl t.dram t.pg t.once t.tags t.vecSent t.vecMask t.fq t.ev t.out t.canal t.hg t.flt t.sup t.held x0 t.arb t.lk t.pair t.gn t.tm t.disp t.ls t.mot x1 t.rtk t.rt t.clk t.met t.key t.dbg t.boot).rest W = t.rest W := by
  unfold State.rest
  rw [hide_on (Touch.Air.air_on (W := W)) x0 t.air]
  rw [hide_on (Touch.MotNsp.motNsp_on (W := W)) x1 t.motNsp]
theorem State.rest_arb {W : Touch} [W.Arb] (t : State) (x0 : List ArbSt) :
    (State.mk t.pending t.now t.ft t.fresh t.regs t.ctrs t.latch t.tbl t.dram t.pg t.once t.tags t.vecSent t.vecMask t.fq t.ev t.out t.canal t.hg t.flt t.sup t.held t.air x0 t.lk t.pair t.gn t.tm t.disp t.ls t.mot t.motNsp t.rtk t.rt t.clk t.met t.key t.dbg t.boot).rest W = t.rest W := by
  unfold State.rest
  rw [hide_on (Touch.Arb.arb_on (W := W)) x0 t.arb]
theorem State.rest_boot {W : Touch} [W.Boot] (t : State) (x0 : BootSt) :
    (State.mk t.pending t.now t.ft t.fresh t.regs t.ctrs t.latch t.tbl t.dram t.pg t.once t.tags t.vecSent t.vecMask t.fq t.ev t.out t.canal t.hg t.flt t.sup t.held t.air t.arb t.lk t.pair t.gn t.tm t.disp t.ls t.mot t.motNsp t.rtk t.rt t.clk t.met t.key t.dbg x0).rest W = t.rest W := by
  unfold State.rest
  rw [hide_on (Touch.Boot.boot_on (W := W)) x0 t.boot]
theorem State.rest_canal {W : Touch} [W.Canal] (t : State) (x0 : CanalSt) :
    (State.mk t.pending t.now t.ft t.fresh t.regs t.ctrs t.latch t.tbl t.dram t.pg t.once t.tags t.vecSent t.vecMask t.fq t.ev t.out x0 t.hg t.flt t.sup t.held t.air t.arb t.lk t.pair t.gn t.tm t.disp t.ls t.mot t.motNsp t.rtk t.rt t.clk t.met t.key t.dbg t.boot).rest W = t.rest W := by
  unfold State.rest
  rw [hide_on (Touch.Canal.canal_on (W := W)) x0 t.canal]
theorem State.rest_canal_hg_air_rtk_rt_clk_met {W : Touch} [W.Canal] [W.Hg] [W.Air] [W.Rtk] [W.Rt] [W.Clk] [W.Met] (t : State) (x0 : CanalSt) (x1 : HgSt) (x2 : AirSt) (x3 : RtkSt) (x4 : RouteSt) (x5 : ClkSt) (x6 : MeterSt) :
    (State.mk t.pending t.now t.ft t.fresh t.regs t.ctrs t.latch t.tbl t.dram t.pg t.once t.tags t.vecSent t.vecMask t.fq t.ev t.out x0 x1 t.flt t.sup t.held x2 t.arb t.lk t.pair t.gn t.tm t.disp t.ls t.mot t.motNsp x3 x4 x5 x6 t.key t.dbg t.boot).rest W = t.rest W := by
  unfold State.rest
  rw [hide_on (Touch.Canal.canal_on (W := W)) x0 t.canal]
  rw [hide_on (Touch.Hg.hg_on (W := W)) x1 t.hg]
  rw [hide_on (Touch.Air.air_on (W := W)) x2 t.air]
  rw [hide_on (Touch.Rtk.rtk_on (W := W)) x3 t.rtk]
  rw [hide_on (Touch.Rt.rt_on (W := W)) x4 t.rt]
  rw [hide_on (Touch.Clk.clk_on (W := W)) x5 t.clk]
  rw [hide_on (Touch.Met.met_on (W := W)) x6 t.met]
theorem State.rest_clk {W : Touch} [W.Clk] (t : State) (x0 : ClkSt) :
    (State.mk t.pending t.now t.ft t.fresh t.regs t.ctrs t.latch t.tbl t.dram t.pg t.once t.tags t.vecSent t.vecMask t.fq t.ev t.out t.canal t.hg t.flt t.sup t.held t.air t.arb t.lk t.pair t.gn t.tm t.disp t.ls t.mot t.motNsp t.rtk t.rt x0 t.met t.key t.dbg t.boot).rest W = t.rest W := by
  unfold State.rest
  rw [hide_on (Touch.Clk.clk_on (W := W)) x0 t.clk]
theorem State.rest_ctrs {W : Touch}  [∀ b, W.In b] (t : State) (x0 : AMap (BitVec 64)) :
    (State.mk t.pending t.now t.ft t.fresh t.regs x0 t.latch t.tbl t.dram t.pg t.once t.tags t.vecSent t.vecMask t.fq t.ev t.out t.canal t.hg t.flt t.sup t.held t.air t.arb t.lk t.pair t.gn t.tm t.disp t.ls t.mot t.motNsp t.rtk t.rt t.clk t.met t.key t.dbg t.boot).rest W = t.rest W := by
  unfold State.rest
  rw [Touch.regLeft_all W x0 t.ctrs]
theorem State.rest_dbg {W : Touch} [W.Dbg] (t : State) (x0 : DebugSt) :
    (State.mk t.pending t.now t.ft t.fresh t.regs t.ctrs t.latch t.tbl t.dram t.pg t.once t.tags t.vecSent t.vecMask t.fq t.ev t.out t.canal t.hg t.flt t.sup t.held t.air t.arb t.lk t.pair t.gn t.tm t.disp t.ls t.mot t.motNsp t.rtk t.rt t.clk t.met t.key x0 t.boot).rest W = t.rest W := by
  unfold State.rest
  rw [hide_on (Touch.Dbg.dbg_on (W := W)) x0 t.dbg]
theorem State.rest_disp {W : Touch} [W.Disp] (t : State) (x0 : DispSt) :
    (State.mk t.pending t.now t.ft t.fresh t.regs t.ctrs t.latch t.tbl t.dram t.pg t.once t.tags t.vecSent t.vecMask t.fq t.ev t.out t.canal t.hg t.flt t.sup t.held t.air t.arb t.lk t.pair t.gn t.tm x0 t.ls t.mot t.motNsp t.rtk t.rt t.clk t.met t.key t.dbg t.boot).rest W = t.rest W := by
  unfold State.rest
  rw [hide_on (Touch.Disp.disp_on (W := W)) x0 t.disp]
theorem State.rest_dram {W : Touch} [W.Dram] (t : State) (x0 : AMap Byte) :
    (State.mk t.pending t.now t.ft t.fresh t.regs t.ctrs t.latch t.tbl x0 t.pg t.once t.tags t.vecSent t.vecMask t.fq t.ev t.out t.canal t.hg t.flt t.sup t.held t.air t.arb t.lk t.pair t.gn t.tm t.disp t.ls t.mot t.motNsp t.rtk t.rt t.clk t.met t.key t.dbg t.boot).rest W = t.rest W := by
  unfold State.rest
  rw [hide_on (Touch.Dram.dram_on (W := W)) x0 t.dram]
theorem State.rest_dram_ev_pair_gn_disp_clk_boot {W : Touch} [W.Dram] [W.Ev] [W.Pair] [W.Gn] [W.Disp] [W.Clk] [W.Boot] (t : State) (x0 : AMap Byte) (x1 : EvLogSt) (x2 : PairSt) (x3 : GnssSt) (x4 : DispSt) (x5 : ClkSt) (x6 : BootSt) :
    (State.mk t.pending t.now t.ft t.fresh t.regs t.ctrs t.latch t.tbl x0 t.pg t.once t.tags t.vecSent t.vecMask t.fq x1 t.out t.canal t.hg t.flt t.sup t.held t.air t.arb t.lk x2 x3 t.tm x4 t.ls t.mot t.motNsp t.rtk t.rt x5 t.met t.key t.dbg x6).rest W = t.rest W := by
  unfold State.rest
  rw [hide_on (Touch.Dram.dram_on (W := W)) x0 t.dram]
  rw [hide_on (Touch.Ev.ev_on (W := W)) x1 t.ev]
  rw [hide_on (Touch.Pair.pair_on (W := W)) x2 t.pair]
  rw [hide_on (Touch.Gn.gn_on (W := W)) x3 t.gn]
  rw [hide_on (Touch.Disp.disp_on (W := W)) x4 t.disp]
  rw [hide_on (Touch.Clk.clk_on (W := W)) x5 t.clk]
  rw [hide_on (Touch.Boot.boot_on (W := W)) x6 t.boot]
theorem State.rest_ev {W : Touch} [W.Ev] (t : State) (x0 : EvLogSt) :
    (State.mk t.pending t.now t.ft t.fresh t.regs t.ctrs t.latch t.tbl t.dram t.pg t.once t.tags t.vecSent t.vecMask t.fq x0 t.out t.canal t.hg t.flt t.sup t.held t.air t.arb t.lk t.pair t.gn t.tm t.disp t.ls t.mot t.motNsp t.rtk t.rt t.clk t.met t.key t.dbg t.boot).rest W = t.rest W := by
  unfold State.rest
  rw [hide_on (Touch.Ev.ev_on (W := W)) x0 t.ev]
theorem State.rest_flt {W : Touch} [W.Flt] (t : State) (x0 : FltSt) :
    (State.mk t.pending t.now t.ft t.fresh t.regs t.ctrs t.latch t.tbl t.dram t.pg t.once t.tags t.vecSent t.vecMask t.fq t.ev t.out t.canal t.hg x0 t.sup t.held t.air t.arb t.lk t.pair t.gn t.tm t.disp t.ls t.mot t.motNsp t.rtk t.rt t.clk t.met t.key t.dbg t.boot).rest W = t.rest W := by
  unfold State.rest
  rw [hide_on (Touch.Flt.flt_on (W := W)) x0 t.flt]
theorem State.rest_fq {W : Touch} [W.Fq] (t : State) (x0 : List FQ) :
    (State.mk t.pending t.now t.ft t.fresh t.regs t.ctrs t.latch t.tbl t.dram t.pg t.once t.tags t.vecSent t.vecMask x0 t.ev t.out t.canal t.hg t.flt t.sup t.held t.air t.arb t.lk t.pair t.gn t.tm t.disp t.ls t.mot t.motNsp t.rtk t.rt t.clk t.met t.key t.dbg t.boot).rest W = t.rest W := by
  unfold State.rest
  rw [hide_on (Touch.Fq.fq_on (W := W)) x0 t.fq]
theorem State.rest_fq_lk {W : Touch} [W.Fq] [W.Lk] (t : State) (x0 : List FQ) (x1 : LinkSt) :
    (State.mk t.pending t.now t.ft t.fresh t.regs t.ctrs t.latch t.tbl t.dram t.pg t.once t.tags t.vecSent t.vecMask x0 t.ev t.out t.canal t.hg t.flt t.sup t.held t.air t.arb x1 t.pair t.gn t.tm t.disp t.ls t.mot t.motNsp t.rtk t.rt t.clk t.met t.key t.dbg t.boot).rest W = t.rest W := by
  unfold State.rest
  rw [hide_on (Touch.Fq.fq_on (W := W)) x0 t.fq]
  rw [hide_on (Touch.Lk.lk_on (W := W)) x1 t.lk]
theorem State.rest_fresh {W : Touch} [W.Fresh] (t : State) (x0 : Nat) :
    (State.mk t.pending t.now t.ft x0 t.regs t.ctrs t.latch t.tbl t.dram t.pg t.once t.tags t.vecSent t.vecMask t.fq t.ev t.out t.canal t.hg t.flt t.sup t.held t.air t.arb t.lk t.pair t.gn t.tm t.disp t.ls t.mot t.motNsp t.rtk t.rt t.clk t.met t.key t.dbg t.boot).rest W = t.rest W := by
  unfold State.rest
  rw [hide_on (Touch.Fresh.fresh_on (W := W)) x0 t.fresh]
theorem State.rest_ft {W : Touch} [W.Ft] (t : State) (x0 : Nat) :
    (State.mk t.pending t.now x0 t.fresh t.regs t.ctrs t.latch t.tbl t.dram t.pg t.once t.tags t.vecSent t.vecMask t.fq t.ev t.out t.canal t.hg t.flt t.sup t.held t.air t.arb t.lk t.pair t.gn t.tm t.disp t.ls t.mot t.motNsp t.rtk t.rt t.clk t.met t.key t.dbg t.boot).rest W = t.rest W := by
  unfold State.rest
  rw [hide_on (Touch.Ft.ft_on (W := W)) x0 t.ft]
theorem State.rest_ft_clk {W : Touch} [W.Ft] [W.Clk] (t : State) (x0 : Nat) (x1 : ClkSt) :
    (State.mk t.pending t.now x0 t.fresh t.regs t.ctrs t.latch t.tbl t.dram t.pg t.once t.tags t.vecSent t.vecMask t.fq t.ev t.out t.canal t.hg t.flt t.sup t.held t.air t.arb t.lk t.pair t.gn t.tm t.disp t.ls t.mot t.motNsp t.rtk t.rt x1 t.met t.key t.dbg t.boot).rest W = t.rest W := by
  unfold State.rest
  rw [hide_on (Touch.Ft.ft_on (W := W)) x0 t.ft]
  rw [hide_on (Touch.Clk.clk_on (W := W)) x1 t.clk]
theorem State.rest_ft_regs_ctrs_tbl_ev_canal_hg_sup_air_pair_tm_met_key_boot {W : Touch} [W.Ft] [W.Ev] [W.Canal] [W.Hg] [W.Sup] [W.Air] [W.Pair] [W.Tm] [W.Met] [W.Key] [W.Boot] [∀ b, W.In b] (t : State) (x0 : Nat) (x1 : AMap Word) (x2 : AMap (BitVec 64)) (x3 : AMap Nat) (x4 : EvLogSt) (x5 : CanalSt) (x6 : HgSt) (x7 : SupplySt) (x8 : AirSt) (x9 : PairSt) (x10 : TimeSt) (x11 : MeterSt) (x12 : KeySt) (x13 : BootSt) :
    (State.mk t.pending t.now x0 t.fresh x1 x2 t.latch x3 t.dram t.pg t.once t.tags t.vecSent t.vecMask t.fq x4 t.out x5 x6 t.flt x7 t.held x8 t.arb t.lk x9 t.gn x10 t.disp t.ls t.mot t.motNsp t.rtk t.rt t.clk x11 x12 t.dbg x13).rest W = t.rest W := by
  unfold State.rest
  rw [hide_on (Touch.Ft.ft_on (W := W)) x0 t.ft]
  rw [Touch.regLeft_all W x1 t.regs]
  rw [Touch.regLeft_all W x2 t.ctrs]
  rw [Touch.tblLeft_all W x3 t.tbl]
  rw [hide_on (Touch.Ev.ev_on (W := W)) x4 t.ev]
  rw [hide_on (Touch.Canal.canal_on (W := W)) x5 t.canal]
  rw [hide_on (Touch.Hg.hg_on (W := W)) x6 t.hg]
  rw [hide_on (Touch.Sup.sup_on (W := W)) x7 t.sup]
  rw [hide_on (Touch.Air.air_on (W := W)) x8 t.air]
  rw [hide_on (Touch.Pair.pair_on (W := W)) x9 t.pair]
  rw [hide_on (Touch.Tm.tm_on (W := W)) x10 t.tm]
  rw [hide_on (Touch.Met.met_on (W := W)) x11 t.met]
  rw [hide_on (Touch.Key.key_on (W := W)) x12 t.key]
  rw [hide_on (Touch.Boot.boot_on (W := W)) x13 t.boot]
theorem State.rest_ft_sup {W : Touch} [W.Ft] [W.Sup] (t : State) (x0 : Nat) (x1 : SupplySt) :
    (State.mk t.pending t.now x0 t.fresh t.regs t.ctrs t.latch t.tbl t.dram t.pg t.once t.tags t.vecSent t.vecMask t.fq t.ev t.out t.canal t.hg t.flt x1 t.held t.air t.arb t.lk t.pair t.gn t.tm t.disp t.ls t.mot t.motNsp t.rtk t.rt t.clk t.met t.key t.dbg t.boot).rest W = t.rest W := by
  unfold State.rest
  rw [hide_on (Touch.Ft.ft_on (W := W)) x0 t.ft]
  rw [hide_on (Touch.Sup.sup_on (W := W)) x1 t.sup]
theorem State.rest_gn {W : Touch} [W.Gn] (t : State) (x0 : GnssSt) :
    (State.mk t.pending t.now t.ft t.fresh t.regs t.ctrs t.latch t.tbl t.dram t.pg t.once t.tags t.vecSent t.vecMask t.fq t.ev t.out t.canal t.hg t.flt t.sup t.held t.air t.arb t.lk t.pair x0 t.tm t.disp t.ls t.mot t.motNsp t.rtk t.rt t.clk t.met t.key t.dbg t.boot).rest W = t.rest W := by
  unfold State.rest
  rw [hide_on (Touch.Gn.gn_on (W := W)) x0 t.gn]
theorem State.rest_held {W : Touch} [W.Held] (t : State) (x0 : List Held) :
    (State.mk t.pending t.now t.ft t.fresh t.regs t.ctrs t.latch t.tbl t.dram t.pg t.once t.tags t.vecSent t.vecMask t.fq t.ev t.out t.canal t.hg t.flt t.sup x0 t.air t.arb t.lk t.pair t.gn t.tm t.disp t.ls t.mot t.motNsp t.rtk t.rt t.clk t.met t.key t.dbg t.boot).rest W = t.rest W := by
  unfold State.rest
  rw [hide_on (Touch.Held.held_on (W := W)) x0 t.held]
theorem State.rest_held_tm {W : Touch} [W.Held] [W.Tm] (t : State) (x0 : List Held) (x1 : TimeSt) :
    (State.mk t.pending t.now t.ft t.fresh t.regs t.ctrs t.latch t.tbl t.dram t.pg t.once t.tags t.vecSent t.vecMask t.fq t.ev t.out t.canal t.hg t.flt t.sup x0 t.air t.arb t.lk t.pair t.gn x1 t.disp t.ls t.mot t.motNsp t.rtk t.rt t.clk t.met t.key t.dbg t.boot).rest W = t.rest W := by
  unfold State.rest
  rw [hide_on (Touch.Held.held_on (W := W)) x0 t.held]
  rw [hide_on (Touch.Tm.tm_on (W := W)) x1 t.tm]
theorem State.rest_hg {W : Touch} [W.Hg] (t : State) (x0 : HgSt) :
    (State.mk t.pending t.now t.ft t.fresh t.regs t.ctrs t.latch t.tbl t.dram t.pg t.once t.tags t.vecSent t.vecMask t.fq t.ev t.out t.canal x0 t.flt t.sup t.held t.air t.arb t.lk t.pair t.gn t.tm t.disp t.ls t.mot t.motNsp t.rtk t.rt t.clk t.met t.key t.dbg t.boot).rest W = t.rest W := by
  unfold State.rest
  rw [hide_on (Touch.Hg.hg_on (W := W)) x0 t.hg]
theorem State.rest_key {W : Touch} [W.Key] (t : State) (x0 : KeySt) :
    (State.mk t.pending t.now t.ft t.fresh t.regs t.ctrs t.latch t.tbl t.dram t.pg t.once t.tags t.vecSent t.vecMask t.fq t.ev t.out t.canal t.hg t.flt t.sup t.held t.air t.arb t.lk t.pair t.gn t.tm t.disp t.ls t.mot t.motNsp t.rtk t.rt t.clk t.met x0 t.dbg t.boot).rest W = t.rest W := by
  unfold State.rest
  rw [hide_on (Touch.Key.key_on (W := W)) x0 t.key]
theorem State.rest_key_boot {W : Touch} [W.Key] [W.Boot] (t : State) (x0 : KeySt) (x1 : BootSt) :
    (State.mk t.pending t.now t.ft t.fresh t.regs t.ctrs t.latch t.tbl t.dram t.pg t.once t.tags t.vecSent t.vecMask t.fq t.ev t.out t.canal t.hg t.flt t.sup t.held t.air t.arb t.lk t.pair t.gn t.tm t.disp t.ls t.mot t.motNsp t.rtk t.rt t.clk t.met x0 t.dbg x1).rest W = t.rest W := by
  unfold State.rest
  rw [hide_on (Touch.Key.key_on (W := W)) x0 t.key]
  rw [hide_on (Touch.Boot.boot_on (W := W)) x1 t.boot]
theorem State.rest_latch {W : Touch} [W.Latch] (t : State) (x0 : AMap Word) :
    (State.mk t.pending t.now t.ft t.fresh t.regs t.ctrs x0 t.tbl t.dram t.pg t.once t.tags t.vecSent t.vecMask t.fq t.ev t.out t.canal t.hg t.flt t.sup t.held t.air t.arb t.lk t.pair t.gn t.tm t.disp t.ls t.mot t.motNsp t.rtk t.rt t.clk t.met t.key t.dbg t.boot).rest W = t.rest W := by
  unfold State.rest
  rw [hide_on (Touch.Latch.latch_on (W := W)) x0 t.latch]
theorem State.rest_lk {W : Touch} [W.Lk] (t : State) (x0 : LinkSt) :
    (State.mk t.pending t.now t.ft t.fresh t.regs t.ctrs t.latch t.tbl t.dram t.pg t.once t.tags t.vecSent t.vecMask t.fq t.ev t.out t.canal t.hg t.flt t.sup t.held t.air t.arb x0 t.pair t.gn t.tm t.disp t.ls t.mot t.motNsp t.rtk t.rt t.clk t.met t.key t.dbg t.boot).rest W = t.rest W := by
  unfold State.rest
  rw [hide_on (Touch.Lk.lk_on (W := W)) x0 t.lk]
theorem State.rest_ls {W : Touch} [W.Ls] (t : State) (x0 : LeaseSt) :
    (State.mk t.pending t.now t.ft t.fresh t.regs t.ctrs t.latch t.tbl t.dram t.pg t.once t.tags t.vecSent t.vecMask t.fq t.ev t.out t.canal t.hg t.flt t.sup t.held t.air t.arb t.lk t.pair t.gn t.tm t.disp x0 t.mot t.motNsp t.rtk t.rt t.clk t.met t.key t.dbg t.boot).rest W = t.rest W := by
  unfold State.rest
  rw [hide_on (Touch.Ls.ls_on (W := W)) x0 t.ls]
theorem State.rest_met {W : Touch} [W.Met] (t : State) (x0 : MeterSt) :
    (State.mk t.pending t.now t.ft t.fresh t.regs t.ctrs t.latch t.tbl t.dram t.pg t.once t.tags t.vecSent t.vecMask t.fq t.ev t.out t.canal t.hg t.flt t.sup t.held t.air t.arb t.lk t.pair t.gn t.tm t.disp t.ls t.mot t.motNsp t.rtk t.rt t.clk x0 t.key t.dbg t.boot).rest W = t.rest W := by
  unfold State.rest
  rw [hide_on (Touch.Met.met_on (W := W)) x0 t.met]
theorem State.rest_mot {W : Touch} [W.Mot] (t : State) (x0 : AMap MotSt) :
    (State.mk t.pending t.now t.ft t.fresh t.regs t.ctrs t.latch t.tbl t.dram t.pg t.once t.tags t.vecSent t.vecMask t.fq t.ev t.out t.canal t.hg t.flt t.sup t.held t.air t.arb t.lk t.pair t.gn t.tm t.disp t.ls x0 t.motNsp t.rtk t.rt t.clk t.met t.key t.dbg t.boot).rest W = t.rest W := by
  unfold State.rest
  rw [hide_on (Touch.Mot.mot_on (W := W)) x0 t.mot]
theorem State.rest_once {W : Touch} [W.Once] (t : State) (x0 : AMap Nat) :
    (State.mk t.pending t.now t.ft t.fresh t.regs t.ctrs t.latch t.tbl t.dram t.pg x0 t.tags t.vecSent t.vecMask t.fq t.ev t.out t.canal t.hg t.flt t.sup t.held t.air t.arb t.lk t.pair t.gn t.tm t.disp t.ls t.mot t.motNsp t.rtk t.rt t.clk t.met t.key t.dbg t.boot).rest W = t.rest W := by
  unfold State.rest
  rw [hide_on (Touch.Once.once_on (W := W)) x0 t.once]
theorem State.rest_out {W : Touch} [W.Out] (t : State) (x0 : List Out) :
    (State.mk t.pending t.now t.ft t.fresh t.regs t.ctrs t.latch t.tbl t.dram t.pg t.once t.tags t.vecSent t.vecMask t.fq t.ev x0 t.canal t.hg t.flt t.sup t.held t.air t.arb t.lk t.pair t.gn t.tm t.disp t.ls t.mot t.motNsp t.rtk t.rt t.clk t.met t.key t.dbg t.boot).rest W = t.rest W := by
  unfold State.rest
  rw [hide_on (Touch.Out.out_on (W := W)) x0 t.out]
theorem State.rest_pair {W : Touch} [W.Pair] (t : State) (x0 : PairSt) :
    (State.mk t.pending t.now t.ft t.fresh t.regs t.ctrs t.latch t.tbl t.dram t.pg t.once t.tags t.vecSent t.vecMask t.fq t.ev t.out t.canal t.hg t.flt t.sup t.held t.air t.arb t.lk x0 t.gn t.tm t.disp t.ls t.mot t.motNsp t.rtk t.rt t.clk t.met t.key t.dbg t.boot).rest W = t.rest W := by
  unfold State.rest
  rw [hide_on (Touch.Pair.pair_on (W := W)) x0 t.pair]
theorem State.rest_pair_boot {W : Touch} [W.Pair] [W.Boot] (t : State) (x0 : PairSt) (x1 : BootSt) :
    (State.mk t.pending t.now t.ft t.fresh t.regs t.ctrs t.latch t.tbl t.dram t.pg t.once t.tags t.vecSent t.vecMask t.fq t.ev t.out t.canal t.hg t.flt t.sup t.held t.air t.arb t.lk x0 t.gn t.tm t.disp t.ls t.mot t.motNsp t.rtk t.rt t.clk t.met t.key t.dbg x1).rest W = t.rest W := by
  unfold State.rest
  rw [hide_on (Touch.Pair.pair_on (W := W)) x0 t.pair]
  rw [hide_on (Touch.Boot.boot_on (W := W)) x1 t.boot]
theorem State.rest_pair_ls {W : Touch} [W.Pair] [W.Ls] (t : State) (x0 : PairSt) (x1 : LeaseSt) :
    (State.mk t.pending t.now t.ft t.fresh t.regs t.ctrs t.latch t.tbl t.dram t.pg t.once t.tags t.vecSent t.vecMask t.fq t.ev t.out t.canal t.hg t.flt t.sup t.held t.air t.arb t.lk x0 t.gn t.tm t.disp x1 t.mot t.motNsp t.rtk t.rt t.clk t.met t.key t.dbg t.boot).rest W = t.rest W := by
  unfold State.rest
  rw [hide_on (Touch.Pair.pair_on (W := W)) x0 t.pair]
  rw [hide_on (Touch.Ls.ls_on (W := W)) x1 t.ls]
theorem State.rest_pg {W : Touch}  [∀ b, W.In b] (t : State) (x0 : AMap PageSt) :
    (State.mk t.pending t.now t.ft t.fresh t.regs t.ctrs t.latch t.tbl t.dram x0 t.once t.tags t.vecSent t.vecMask t.fq t.ev t.out t.canal t.hg t.flt t.sup t.held t.air t.arb t.lk t.pair t.gn t.tm t.disp t.ls t.mot t.motNsp t.rtk t.rt t.clk t.met t.key t.dbg t.boot).rest W = t.rest W := by
  unfold State.rest
  rw [Touch.regLeft_all W x0 t.pg]
theorem State.rest_regs {W : Touch}  [∀ b, W.In b] (t : State) (x0 : AMap Word) :
    (State.mk t.pending t.now t.ft t.fresh x0 t.ctrs t.latch t.tbl t.dram t.pg t.once t.tags t.vecSent t.vecMask t.fq t.ev t.out t.canal t.hg t.flt t.sup t.held t.air t.arb t.lk t.pair t.gn t.tm t.disp t.ls t.mot t.motNsp t.rtk t.rt t.clk t.met t.key t.dbg t.boot).rest W = t.rest W := by
  unfold State.rest
  rw [Touch.regLeft_all W x0 t.regs]
theorem State.rest_regs_ctrs_hg_sup {W : Touch} [W.Hg] [W.Sup] [∀ b, W.In b] (t : State) (x0 : AMap Word) (x1 : AMap (BitVec 64)) (x2 : HgSt) (x3 : SupplySt) :
    (State.mk t.pending t.now t.ft t.fresh x0 x1 t.latch t.tbl t.dram t.pg t.once t.tags t.vecSent t.vecMask t.fq t.ev t.out t.canal x2 t.flt x3 t.held t.air t.arb t.lk t.pair t.gn t.tm t.disp t.ls t.mot t.motNsp t.rtk t.rt t.clk t.met t.key t.dbg t.boot).rest W = t.rest W := by
  unfold State.rest
  rw [Touch.regLeft_all W x0 t.regs]
  rw [Touch.regLeft_all W x1 t.ctrs]
  rw [hide_on (Touch.Hg.hg_on (W := W)) x2 t.hg]
  rw [hide_on (Touch.Sup.sup_on (W := W)) x3 t.sup]
theorem State.rest_regs_ctrs_sup {W : Touch} [W.Sup] [∀ b, W.In b] (t : State) (x0 : AMap Word) (x1 : AMap (BitVec 64)) (x2 : SupplySt) :
    (State.mk t.pending t.now t.ft t.fresh x0 x1 t.latch t.tbl t.dram t.pg t.once t.tags t.vecSent t.vecMask t.fq t.ev t.out t.canal t.hg t.flt x2 t.held t.air t.arb t.lk t.pair t.gn t.tm t.disp t.ls t.mot t.motNsp t.rtk t.rt t.clk t.met t.key t.dbg t.boot).rest W = t.rest W := by
  unfold State.rest
  rw [Touch.regLeft_all W x0 t.regs]
  rw [Touch.regLeft_all W x1 t.ctrs]
  rw [hide_on (Touch.Sup.sup_on (W := W)) x2 t.sup]
theorem State.rest_rt {W : Touch} [W.Rt] (t : State) (x0 : RouteSt) :
    (State.mk t.pending t.now t.ft t.fresh t.regs t.ctrs t.latch t.tbl t.dram t.pg t.once t.tags t.vecSent t.vecMask t.fq t.ev t.out t.canal t.hg t.flt t.sup t.held t.air t.arb t.lk t.pair t.gn t.tm t.disp t.ls t.mot t.motNsp t.rtk x0 t.clk t.met t.key t.dbg t.boot).rest W = t.rest W := by
  unfold State.rest
  rw [hide_on (Touch.Rt.rt_on (W := W)) x0 t.rt]
theorem State.rest_rtk {W : Touch} [W.Rtk] (t : State) (x0 : RtkSt) :
    (State.mk t.pending t.now t.ft t.fresh t.regs t.ctrs t.latch t.tbl t.dram t.pg t.once t.tags t.vecSent t.vecMask t.fq t.ev t.out t.canal t.hg t.flt t.sup t.held t.air t.arb t.lk t.pair t.gn t.tm t.disp t.ls t.mot t.motNsp x0 t.rt t.clk t.met t.key t.dbg t.boot).rest W = t.rest W := by
  unfold State.rest
  rw [hide_on (Touch.Rtk.rtk_on (W := W)) x0 t.rtk]
theorem State.rest_sup {W : Touch} [W.Sup] (t : State) (x0 : SupplySt) :
    (State.mk t.pending t.now t.ft t.fresh t.regs t.ctrs t.latch t.tbl t.dram t.pg t.once t.tags t.vecSent t.vecMask t.fq t.ev t.out t.canal t.hg t.flt x0 t.held t.air t.arb t.lk t.pair t.gn t.tm t.disp t.ls t.mot t.motNsp t.rtk t.rt t.clk t.met t.key t.dbg t.boot).rest W = t.rest W := by
  unfold State.rest
  rw [hide_on (Touch.Sup.sup_on (W := W)) x0 t.sup]
theorem State.rest_sup_gn_tm {W : Touch} [W.Sup] [W.Gn] [W.Tm] (t : State) (x0 : SupplySt) (x1 : GnssSt) (x2 : TimeSt) :
    (State.mk t.pending t.now t.ft t.fresh t.regs t.ctrs t.latch t.tbl t.dram t.pg t.once t.tags t.vecSent t.vecMask t.fq t.ev t.out t.canal t.hg t.flt x0 t.held t.air t.arb t.lk t.pair x1 x2 t.disp t.ls t.mot t.motNsp t.rtk t.rt t.clk t.met t.key t.dbg t.boot).rest W = t.rest W := by
  unfold State.rest
  rw [hide_on (Touch.Sup.sup_on (W := W)) x0 t.sup]
  rw [hide_on (Touch.Gn.gn_on (W := W)) x1 t.gn]
  rw [hide_on (Touch.Tm.tm_on (W := W)) x2 t.tm]
theorem State.rest_tags {W : Touch} [W.Tags] (t : State) (x0 : List (Nat × Compl)) :
    (State.mk t.pending t.now t.ft t.fresh t.regs t.ctrs t.latch t.tbl t.dram t.pg t.once x0 t.vecSent t.vecMask t.fq t.ev t.out t.canal t.hg t.flt t.sup t.held t.air t.arb t.lk t.pair t.gn t.tm t.disp t.ls t.mot t.motNsp t.rtk t.rt t.clk t.met t.key t.dbg t.boot).rest W = t.rest W := by
  unfold State.rest
  rw [hide_on (Touch.Tags.tags_on (W := W)) x0 t.tags]
theorem State.rest_tbl {W : Touch}  [∀ b, W.In b] (t : State) (x0 : AMap Nat) :
    (State.mk t.pending t.now t.ft t.fresh t.regs t.ctrs t.latch x0 t.dram t.pg t.once t.tags t.vecSent t.vecMask t.fq t.ev t.out t.canal t.hg t.flt t.sup t.held t.air t.arb t.lk t.pair t.gn t.tm t.disp t.ls t.mot t.motNsp t.rtk t.rt t.clk t.met t.key t.dbg t.boot).rest W = t.rest W := by
  unfold State.rest
  rw [Touch.tblLeft_all W x0 t.tbl]
theorem State.rest_tbl_air_pair_ls_mot {W : Touch} [W.Air] [W.Pair] [W.Ls] [W.Mot] [∀ b, W.In b] (t : State) (x0 : AMap Nat) (x1 : AirSt) (x2 : PairSt) (x3 : LeaseSt) (x4 : AMap MotSt) :
    (State.mk t.pending t.now t.ft t.fresh t.regs t.ctrs t.latch x0 t.dram t.pg t.once t.tags t.vecSent t.vecMask t.fq t.ev t.out t.canal t.hg t.flt t.sup t.held x1 t.arb t.lk x2 t.gn t.tm t.disp x3 x4 t.motNsp t.rtk t.rt t.clk t.met t.key t.dbg t.boot).rest W = t.rest W := by
  unfold State.rest
  rw [Touch.tblLeft_all W x0 t.tbl]
  rw [hide_on (Touch.Air.air_on (W := W)) x1 t.air]
  rw [hide_on (Touch.Pair.pair_on (W := W)) x2 t.pair]
  rw [hide_on (Touch.Ls.ls_on (W := W)) x3 t.ls]
  rw [hide_on (Touch.Mot.mot_on (W := W)) x4 t.mot]
theorem State.rest_tbl_ls_mot {W : Touch} [W.Ls] [W.Mot] [∀ b, W.In b] (t : State) (x0 : AMap Nat) (x1 : LeaseSt) (x2 : AMap MotSt) :
    (State.mk t.pending t.now t.ft t.fresh t.regs t.ctrs t.latch x0 t.dram t.pg t.once t.tags t.vecSent t.vecMask t.fq t.ev t.out t.canal t.hg t.flt t.sup t.held t.air t.arb t.lk t.pair t.gn t.tm t.disp x1 x2 t.motNsp t.rtk t.rt t.clk t.met t.key t.dbg t.boot).rest W = t.rest W := by
  unfold State.rest
  rw [Touch.tblLeft_all W x0 t.tbl]
  rw [hide_on (Touch.Ls.ls_on (W := W)) x1 t.ls]
  rw [hide_on (Touch.Mot.mot_on (W := W)) x2 t.mot]
theorem State.rest_tbl_pair {W : Touch} [W.Pair] [∀ b, W.In b] (t : State) (x0 : AMap Nat) (x1 : PairSt) :
    (State.mk t.pending t.now t.ft t.fresh t.regs t.ctrs t.latch x0 t.dram t.pg t.once t.tags t.vecSent t.vecMask t.fq t.ev t.out t.canal t.hg t.flt t.sup t.held t.air t.arb t.lk x1 t.gn t.tm t.disp t.ls t.mot t.motNsp t.rtk t.rt t.clk t.met t.key t.dbg t.boot).rest W = t.rest W := by
  unfold State.rest
  rw [Touch.tblLeft_all W x0 t.tbl]
  rw [hide_on (Touch.Pair.pair_on (W := W)) x1 t.pair]
theorem State.rest_tm {W : Touch} [W.Tm] (t : State) (x0 : TimeSt) :
    (State.mk t.pending t.now t.ft t.fresh t.regs t.ctrs t.latch t.tbl t.dram t.pg t.once t.tags t.vecSent t.vecMask t.fq t.ev t.out t.canal t.hg t.flt t.sup t.held t.air t.arb t.lk t.pair t.gn x0 t.disp t.ls t.mot t.motNsp t.rtk t.rt t.clk t.met t.key t.dbg t.boot).rest W = t.rest W := by
  unfold State.rest
  rw [hide_on (Touch.Tm.tm_on (W := W)) x0 t.tm]
theorem State.rest_vecMask {W : Touch} [W.VecMask] (t : State) (x0 : List Nat) :
    (State.mk t.pending t.now t.ft t.fresh t.regs t.ctrs t.latch t.tbl t.dram t.pg t.once t.tags t.vecSent x0 t.fq t.ev t.out t.canal t.hg t.flt t.sup t.held t.air t.arb t.lk t.pair t.gn t.tm t.disp t.ls t.mot t.motNsp t.rtk t.rt t.clk t.met t.key t.dbg t.boot).rest W = t.rest W := by
  unfold State.rest
  rw [hide_on (Touch.VecMask.vecMask_on (W := W)) x0 t.vecMask]
theorem State.rest_vecSent {W : Touch} [W.VecSent] (t : State) (x0 : List Nat) :
    (State.mk t.pending t.now t.ft t.fresh t.regs t.ctrs t.latch t.tbl t.dram t.pg t.once t.tags x0 t.vecMask t.fq t.ev t.out t.canal t.hg t.flt t.sup t.held t.air t.arb t.lk t.pair t.gn t.tm t.disp t.ls t.mot t.motNsp t.rtk t.rt t.clk t.met t.key t.dbg t.boot).rest W = t.rest W := by
  unfold State.rest
  rw [hide_on (Touch.VecSent.vecSent_on (W := W)) x0 t.vecSent]
theorem State.rest_all {W : Touch} [W.All] [∀ b, W.In b] (t : State) (x0 : Nat) (x1 : Nat) (x2 : AMap Word) (x3 : AMap (BitVec 64)) (x4 : AMap Word) (x5 : AMap Nat) (x6 : AMap Byte) (x7 : AMap PageSt) (x8 : AMap Nat) (x9 : List (Nat × Compl)) (x10 : List Nat) (x11 : List Nat) (x12 : List FQ) (x13 : EvLogSt) (x14 : List Out) (x15 : CanalSt) (x16 : HgSt) (x17 : FltSt) (x18 : SupplySt) (x19 : List Held) (x20 : AirSt) (x21 : List ArbSt) (x22 : LinkSt) (x23 : PairSt) (x24 : GnssSt) (x25 : TimeSt) (x26 : DispSt) (x27 : LeaseSt) (x28 : AMap MotSt) (x29 : Nat) (x30 : RtkSt) (x31 : RouteSt) (x32 : ClkSt) (x33 : MeterSt) (x34 : KeySt) (x35 : DebugSt) (x36 : BootSt) :
    (State.mk t.pending t.now x0 x1 x2 x3 x4 x5 x6 x7 x8 x9 x10 x11 x12 x13 x14 x15 x16 x17 x18 x19 x20 x21 x22 x23 x24 x25 x26 x27 x28 x29 x30 x31 x32 x33 x34 x35 x36).rest W = t.rest W := by
  unfold State.rest
  rw [hide_on (Touch.Ft.ft_on (W := W)) x0 t.ft]
  rw [hide_on (Touch.Fresh.fresh_on (W := W)) x1 t.fresh]
  rw [Touch.regLeft_all W x2 t.regs]
  rw [Touch.regLeft_all W x3 t.ctrs]
  rw [hide_on (Touch.Latch.latch_on (W := W)) x4 t.latch]
  rw [Touch.tblLeft_all W x5 t.tbl]
  rw [hide_on (Touch.Dram.dram_on (W := W)) x6 t.dram]
  rw [Touch.regLeft_all W x7 t.pg]
  rw [hide_on (Touch.Once.once_on (W := W)) x8 t.once]
  rw [hide_on (Touch.Tags.tags_on (W := W)) x9 t.tags]
  rw [hide_on (Touch.VecSent.vecSent_on (W := W)) x10 t.vecSent]
  rw [hide_on (Touch.VecMask.vecMask_on (W := W)) x11 t.vecMask]
  rw [hide_on (Touch.Fq.fq_on (W := W)) x12 t.fq]
  rw [hide_on (Touch.Ev.ev_on (W := W)) x13 t.ev]
  rw [hide_on (Touch.Out.out_on (W := W)) x14 t.out]
  rw [hide_on (Touch.Canal.canal_on (W := W)) x15 t.canal]
  rw [hide_on (Touch.Hg.hg_on (W := W)) x16 t.hg]
  rw [hide_on (Touch.Flt.flt_on (W := W)) x17 t.flt]
  rw [hide_on (Touch.Sup.sup_on (W := W)) x18 t.sup]
  rw [hide_on (Touch.Held.held_on (W := W)) x19 t.held]
  rw [hide_on (Touch.Air.air_on (W := W)) x20 t.air]
  rw [hide_on (Touch.Arb.arb_on (W := W)) x21 t.arb]
  rw [hide_on (Touch.Lk.lk_on (W := W)) x22 t.lk]
  rw [hide_on (Touch.Pair.pair_on (W := W)) x23 t.pair]
  rw [hide_on (Touch.Gn.gn_on (W := W)) x24 t.gn]
  rw [hide_on (Touch.Tm.tm_on (W := W)) x25 t.tm]
  rw [hide_on (Touch.Disp.disp_on (W := W)) x26 t.disp]
  rw [hide_on (Touch.Ls.ls_on (W := W)) x27 t.ls]
  rw [hide_on (Touch.Mot.mot_on (W := W)) x28 t.mot]
  rw [hide_on (Touch.MotNsp.motNsp_on (W := W)) x29 t.motNsp]
  rw [hide_on (Touch.Rtk.rtk_on (W := W)) x30 t.rtk]
  rw [hide_on (Touch.Rt.rt_on (W := W)) x31 t.rt]
  rw [hide_on (Touch.Clk.clk_on (W := W)) x32 t.clk]
  rw [hide_on (Touch.Met.met_on (W := W)) x33 t.met]
  rw [hide_on (Touch.Key.key_on (W := W)) x34 t.key]
  rw [hide_on (Touch.Dbg.dbg_on (W := W)) x35 t.dbg]
  rw [hide_on (Touch.Boot.boot_on (W := W)) x36 t.boot]
@[simp] theorem State.each_rest {W : Touch} {α : Type} (s : State) (l : List α) (f : State → α → State)
    (h : ∀ t x, (f t x).rest W = t.rest W) : (s.each l f).rest W = s.rest W := by
  unfold State.each
  induction l generalizing s with
  | nil => rfl
  | cons x r ih => rw [List.foldl_cons, ih, h]
@[simp] theorem State.on_rest {W : Touch} (s : State) (c : Bool) (f : State → State)
    (h : ∀ t, (f t).rest W = t.rest W) : (s.on c f).rest W = s.rest W := by
  cases c
  · rfl
  · exact h s
theorem ite_rest {W : Touch} {c : Prop} [Decidable c] {a b : State} {x : Rest} (ha : a.rest W = x) (hb : b.rest W = x) :
    (if c then a else b).rest W = x := by
  split
  · exact ha
  · exact hb
theorem ite_res {W : Touch} {c : Prop} [Decidable c] {a b : Res} {x : Option Rest} (ha : Res.rest W a = x)
    (hb : Res.rest W b = x) : Res.rest W (if c then a else b) = x := by
  split
  · exact ha
  · exact hb

@[simp] theorem State.setReg_rest {W : Touch} [∀ b, W.In b] (s : State) (a v : Nat) : (s.setReg a v).rest W = s.rest W := State.rest_regs s _

@[simp] theorem State.setTblData_rest {W : Touch}  (s : State) (a1 : Page) (a2 : Nat) [W.In a1.blk] : (State.setTblData s a1 a2).rest W = s.rest W := by
  unfold State.setTblData
  simp only [State.setReg_rest, State.setReg_adr_rest, State.setReg_fld_rest, State.setReg_sts_rest, State.setReg_cmd_rest, rest_next, ite_self, implies_true, State.each_rest, State.on_rest, apply_ite (State.rest _), apply_ite (Res.rest _), apply_ite Prod.fst, apply_ite Prod.snd]

@[simp] theorem State.emit_rest {W : Touch} [W.Out] (s : State) (a1 : Out)  : (State.emit s a1).rest W = s.rest W := by
  unfold State.emit
  simp only [State.rest_out, rest_next, ite_self, implies_true, State.each_rest, State.on_rest, apply_ite (State.rest _), apply_ite (Res.rest _), apply_ite Prod.fst, apply_ite Prod.snd]

@[simp] theorem State.incAt_rest {W : Touch} [∀ b, W.In b] (s : State) (a n : Nat) : (s.incAt a n).rest W = s.rest W := State.rest_ctrs s _

@[simp] theorem State.incP_rest {W : Touch}  (s : State) (p : Page) (c : Ctr) (n : optParam Nat 1) [W.In p.blk] : (s.incP p c n).rest W = s.rest W :=
  State.incAt_adr_rest s p _ n

@[simp] theorem State.inc_rest {W : Touch}  (s : State) (a1 : Ctr) (a2 : optParam Nat 0) (a3 : optParam Nat 1) [W.In a1.blk] : (State.inc s a1 a2 a3).rest W = s.rest W := by
  unfold State.inc
  simp only [State.incP_rest, rest_next, ite_self, implies_true, State.each_rest, State.on_rest, apply_ite (State.rest _), apply_ite (Res.rest _), apply_ite Prod.fst, apply_ite Prod.snd]

@[simp] theorem State.sendVec_rest {W : Touch} [W.VecSent] [W.Out] [W.In .pcie] (s : State) (a1 : Nat)  : (State.sendVec s a1).rest W = s.rest W := by
  unfold State.sendVec
  simp only [State.inc_rest, State.emit_rest, State.rest_vecSent, rest_next, ite_self, implies_true, State.each_rest, State.on_rest, apply_ite (State.rest _), apply_ite (Res.rest _), apply_ite Prod.fst, apply_ite Prod.snd]

@[simp] theorem State.assertSrc_rest {W : Touch} [W.VecSent] [W.Out] [W.In .pcie] (s : State) (a1 : Nat)  : (State.assertSrc s a1).rest W = s.rest W := by
  unfold State.assertSrc
  simp only [State.emit_rest, State.sendVec_rest, rest_next, ite_self, implies_true, State.each_rest, State.on_rest, apply_ite (State.rest _), apply_ite (Res.rest _), apply_ite Prod.fst, apply_ite Prod.snd]

@[simp] theorem State.irqBits_rest {W : Touch} [W.VecSent] [W.Out] [W.In .pcie] (s : State) (a1 : Page) (a2 : Nat) [W.In a1.blk] : (State.irqBits s a1 a2).rest W = s.rest W := by
  unfold State.irqBits
  simp only [State.setReg_rest, State.assertSrc_rest, State.setReg_adr_rest, State.setReg_fld_rest, State.setReg_sts_rest, State.setReg_cmd_rest, rest_next, ite_self, implies_true, State.each_rest, State.on_rest, apply_ite (State.rest _), apply_ite (Res.rest _), apply_ite Prod.fst, apply_ite Prod.snd]

@[simp] theorem State.irq_rest {W : Touch} [W.VecSent] [W.Out] [W.In .pcie] (s : State) (a1 : Page) (a2 : Nat) [W.In a1.blk] : (State.irq s a1 a2).rest W = s.rest W := by
  unfold State.irq
  simp only [State.irqBits_rest, rest_next, ite_self, implies_true, State.each_rest, State.on_rest, apply_ite (State.rest _), apply_ite (Res.rest _), apply_ite Prod.fst, apply_ite Prod.snd]

@[simp] theorem State.setQ_rest {W : Touch} [W.Fq] (s : State) (a1 : Nat) (a2 : FQ)  : (State.setQ s a1 a2).rest W = s.rest W := by
  unfold State.setQ
  simp only [State.rest_fq, rest_next, ite_self, implies_true, State.each_rest, State.on_rest, apply_ite (State.rest _), apply_ite (Res.rest _), apply_ite Prod.fst, apply_ite Prod.snd]

@[simp] theorem State.qevent_rest {W : Touch} [W.VecSent] [W.Fq] [W.Out] [W.In .pcie] (s : State) (a1 : Nat) (a2 : Nat)  : (State.qevent s a1 a2).rest W = s.rest W := by
  unfold State.qevent
  simp only [State.setQ_rest, State.assertSrc_rest, rest_next, ite_self, implies_true, State.each_rest, State.on_rest, apply_ite (State.rest _), apply_ite (Res.rest _), apply_ite Prod.fst, apply_ite Prod.snd]

@[simp] theorem State.qLose_rest {W : Touch} [W.VecSent] [W.Fq] [W.Out] [W.In .pcie] (s : State) (a1 : Nat) (a2 : Nat)  : (State.qLose s a1 a2).rest W = s.rest W := by
  unfold State.qLose
  simp only [State.qevent_rest, State.setQ_rest, rest_next, ite_self, implies_true, State.each_rest, State.on_rest, apply_ite (State.rest _), apply_ite (Res.rest _), apply_ite Prod.fst, apply_ite Prod.snd]

@[simp] theorem State.qMakeRoom_rest {W : Touch} [W.VecSent] [W.Fq] [W.Out] [W.In .pcie] (s : State) (n need k : Nat) : (s.qMakeRoom n need k).rest W = s.rest W := by
  induction k generalizing s with
  | zero => rfl
  | succ k ih =>
    unfold State.qMakeRoom
    refine ite_rest rfl ?_
    rw [ih, State.qLose_rest, State.setQ_rest]

@[simp] theorem State.takeMseq_rest {W : Touch} [W.Canal] (s : State) (a1 : Nat)  : (State.takeMseq s a1).2.rest W = s.rest W := by
  unfold State.takeMseq
  simp only [State.rest_canal, rest_next, ite_self, implies_true, State.each_rest, State.on_rest, apply_ite (State.rest _), apply_ite (Res.rest _), apply_ite Prod.fst, apply_ite Prod.snd]

@[simp] theorem State.setCport_rest {W : Touch} [W.Canal] (s : State) (a1 : Nat) (a2 : CanalPort)  : (State.setCport s a1 a2).rest W = s.rest W := by
  unfold State.setCport
  simp only [State.rest_canal, rest_next, ite_self, implies_true, State.each_rest, State.on_rest, apply_ite (State.rest _), apply_ite (Res.rest _), apply_ite Prod.fst, apply_ite Prod.snd]

@[simp] theorem State.canalTurn_rest {W : Touch} [W.Out] [W.Canal] [W.In .canal] (s : State) (a1 : Nat)  : (State.canalTurn s a1).rest W = s.rest W := by
  unfold State.canalTurn
  dsimp only
  (repeat' split) <;> simp only [State.inc_rest, State.emit_rest, State.setCport_rest, rest_next, implies_true, State.each_rest, State.on_rest]

@[simp] theorem State.canalPump_rest {W : Touch} [W.Out] [W.Canal] [W.In .canal] (s : State) (a1 : Nat)  : (State.canalPump s a1).rest W = s.rest W := by
  unfold State.canalPump
  simp only [State.canalTurn_rest, rest_next, ite_self, implies_true, State.each_rest, State.on_rest, apply_ite (State.rest _), apply_ite (Res.rest _), apply_ite Prod.fst, apply_ite Prod.snd]

@[simp] theorem State.canalOut_rest {W : Touch} [W.Out] [W.Canal] [W.In .canal] (s : State) (a1 : Nat) (a2 : CanalMsg)  : (State.canalOut s a1 a2).rest W = s.rest W := by
  unfold State.canalOut
  simp only [State.canalPump_rest, State.setCport_rest, rest_next, ite_self, implies_true, State.each_rest, State.on_rest, apply_ite (State.rest _), apply_ite (Res.rest _), apply_ite Prod.fst, apply_ite Prod.snd]

@[simp] theorem State.canalUnicast_rest {W : Touch} [W.Out] [W.Canal] [W.In .canal] (s : State) (a1 : Nat) (a2 : Nat) (a3 : CanalBody)  : (State.canalUnicast s a1 a2 a3).rest W = s.rest W := by
  unfold State.canalUnicast
  grind [State.takeMseq_rest, State.canalOut_rest, State.inc_rest, rest_next]

@[simp] theorem State.emitFlume_rest {W : Touch} [W.Out] (s : State) (a1 : Nat) (a2 : FFrame)  : (State.emitFlume s a1 a2).rest W = s.rest W := by
  unfold State.emitFlume
  simp only [State.emit_rest, rest_next, ite_self, implies_true, State.each_rest, State.on_rest, apply_ite (State.rest _), apply_ite (Res.rest _), apply_ite Prod.fst, apply_ite Prod.snd]

@[simp] theorem State.sendFrame_rest {W : Touch} [W.Out] [W.Canal] [W.In .canal] [W.In .eth] [W.In .flume] (s : State) (a1 : FQ) (a2 : FFrame)  : (State.sendFrame s a1 a2).rest W = s.rest W := by
  unfold State.sendFrame
  (repeat' split) <;> simp only [State.inc_rest, State.canalUnicast_rest, State.emitFlume_rest, rest_next, implies_true, State.each_rest, State.on_rest]

@[simp] theorem State.qTurn_rest {W : Touch} [W.Fq] [W.Out] [W.Canal] [W.In .canal] [W.In .eth] [W.In .flume] (s : State) (a1 : Nat)  : (State.qTurn s a1).rest W = s.rest W := by
  fun_cases State.qTurn <;> simp only [State.sendFrame_rest, State.setQ_rest, rest_next, implies_true, State.each_rest, State.on_rest]

@[simp] theorem State.qPump_rest {W : Touch} [W.Fq] [W.Out] [W.Canal] [W.In .canal] [W.In .eth] [W.In .flume] (s : State) (a1 : Nat)  : (State.qPump s a1).rest W = s.rest W := by
  unfold State.qPump
  simp only [State.qTurn_rest, rest_next, ite_self, implies_true, State.each_rest, State.on_rest, apply_ite (State.rest _), apply_ite (Res.rest _), apply_ite Prod.fst, apply_ite Prod.snd]

@[simp] theorem State.qPush_rest {W : Touch} [W.VecSent] [W.Fq] [W.Out] [W.Canal] [W.In .canal] [W.In .eth] [W.In .flume] [W.In .pcie] (s : State) (a1 : Nat) (a2 : Nat) (a3 : FBody)  : (State.qPush s a1 a2 a3).rest W = s.rest W := by
  unfold State.qPush
  simp only [State.qLose_rest, State.setQ_rest, State.qMakeRoom_rest, State.qPump_rest, rest_next, ite_self, implies_true, State.each_rest, State.on_rest, apply_ite (State.rest _), apply_ite (Res.rest _), apply_ite Prod.fst, apply_ite Prod.snd]

@[simp] theorem State.writeCompl_rest {W : Touch} [W.Tags] [W.VecSent] [W.Fq] [W.Out] [W.Canal] [W.In .canal] [W.In .eth] [W.In .flume] [W.In .pcie] (s : State) (a1 : Src) (a2 : Nat) (a3 : Compl)  : (State.writeCompl s a1 a2 a3).rest W = s.rest W := by
  unfold State.writeCompl
  dsimp only
  (repeat' split) <;> simp only [State.qPush_rest, State.emit_rest, State.rest_tags, rest_next, implies_true, State.each_rest, State.on_rest]

@[simp] theorem State.tblDone_rest {W : Touch} [W.Tags] [W.VecSent] [W.Fq] [W.Out] [W.Canal] [W.In .canal] [W.In .eth] [W.In .flume] [W.In .pcie] (s : State) (a1 : Via) (a2 : Page) (a3 : Nat) (a4 : TRes) [W.In a2.blk] : (State.tblDone s a1 a2 a3 a4).rest W = s.rest W := by
  unfold State.tblDone
  dsimp only
  (repeat' split) <;> simp only [State.setReg_rest, State.setTblData_rest, State.irq_rest, State.writeCompl_rest, State.setReg_adr_rest, State.setReg_fld_rest, State.setReg_sts_rest, State.setReg_cmd_rest, rest_next, implies_true, State.each_rest, State.on_rest]

@[simp] theorem State.abortHeld_rest {W : Touch} [W.Tags] [W.VecSent] [W.Fq] [W.Out] [W.Canal] [W.Held] [W.In .canal] [W.In .eth] [W.In .flume] [W.In .pcie] (s : State) (a1 : Page) (a2 : Nat) [W.In a1.blk] : (State.abortHeld s a1 a2).rest W = s.rest W := by
  unfold State.abortHeld
  simp only [State.tblDone_rest, State.rest_held, rest_next, ite_self, implies_true, State.each_rest, State.on_rest, apply_ite (State.rest _), apply_ite (Res.rest _), apply_ite Prod.fst, apply_ite Prod.snd]

@[simp] theorem State.abortAll_rest {W : Touch} [W.Tags] [W.VecSent] [W.Fq] [W.Out] [W.Canal] [W.Held] [∀ b, W.In b] (s : State)  : (State.abortAll s).rest W = s.rest W := by
  unfold State.abortAll
  simp only [State.abortHeld_rest, rest_next, ite_self, implies_true, State.each_rest, State.on_rest, apply_ite (State.rest _), apply_ite (Res.rest _), apply_ite Prod.fst, apply_ite Prod.snd]

@[simp] theorem State.set_rest {W : Touch}  (s : State) (F : Fld) (v : Nat) (i : optParam Nat 0) (k : optParam Nat 0) [W.In F.blk] : (s.set F v i k).rest W = s.rest W :=
  State.setReg_fld_rest s F i k _

@[simp] theorem State.takeSeq_rest {W : Touch} [W.In .lease] (s : State)  : (State.takeSeq s).rest W = s.rest W := by
  unfold State.takeSeq
  simp only [State.set_rest, rest_next, ite_self, implies_true, State.each_rest, State.on_rest, apply_ite (State.rest _), apply_ite (Res.rest _), apply_ite Prod.fst, apply_ite Prod.snd]

@[simp] theorem State.setTe_rest {W : Touch} [W.Pair] (s : State) (p : Page) (t i v : Nat) [W.In p.blk] : (s.setTe p t i v).rest W = s.rest W := by
  unfold State.setTe
  exact ite_rest ((State.rest_pair { s with tbl := _ } _).trans (State.rest_tblset s p t i v)) (State.rest_tblset s p t i v)

@[simp] theorem State.turnShow_rest {W : Touch} [W.Pair] [W.In .turnout] (s : State) (a1 : Nat)  : (State.turnShow s a1).rest W = s.rest W := by
  unfold State.turnShow
  simp only [State.setTe_rest, rest_next, ite_self, implies_true, State.each_rest, State.on_rest, apply_ite (State.rest _), apply_ite (Res.rest _), apply_ite Prod.fst, apply_ite Prod.snd]

@[simp] theorem State.dropSeq_rest {W : Touch} [W.Ls] [W.In .turnout] (s : State) (a1 : Nat)  : (State.dropSeq s a1).rest W = s.rest W := by
  unfold State.dropSeq
  simp only [State.set_rest, State.rest_ls, rest_next, ite_self, implies_true, State.each_rest, State.on_rest, apply_ite (State.rest _), apply_ite (Res.rest _), apply_ite Prod.fst, apply_ite Prod.snd]

@[simp] theorem State.leaseSend_rest {W : Touch} [W.Out] [W.Canal] [W.In .canal] (s : State) (a1 : Nat) (a2 : LeaseMsg)  : (State.leaseSend s a1 a2).rest W = s.rest W := by
  unfold State.leaseSend
  simp only [State.canalUnicast_rest, rest_next, ite_self, implies_true, State.each_rest, State.on_rest, apply_ite (State.rest _), apply_ite (Res.rest _), apply_ite Prod.fst, apply_ite Prod.snd]

@[simp] theorem State.sendRelease_rest {W : Touch} [W.Out] [W.Canal] [W.Ls] [W.In .canal] (s : State) (a1 : Nat) (a2 : Nat) (a3 : Nat) (a4 : Nat) (a5 : Nat)  : (State.sendRelease s a1 a2 a3 a4 a5).rest W = s.rest W := by
  unfold State.sendRelease
  simp only [State.leaseSend_rest, State.rest_ls, rest_next, ite_self, implies_true, State.each_rest, State.on_rest, apply_ite (State.rest _), apply_ite (Res.rest _), apply_ite Prod.fst, apply_ite Prod.snd]

@[simp] theorem State.setLe_rest {W : Touch} [W.Pair] [W.In .lease] (s : State) (a1 : Nat) (a2 : Nat)  : (State.setLe s a1 a2).rest W = s.rest W := by
  unfold State.setLe
  simp only [State.setTe_rest, rest_next, ite_self, implies_true, State.each_rest, State.on_rest, apply_ite (State.rest _), apply_ite (Res.rest _), apply_ite Prod.fst, apply_ite Prod.snd]

@[simp] theorem State.freeLe_rest {W : Touch} [W.Pair] [W.In .lease] (s : State) (a1 : Nat)  : (State.freeLe s a1).rest W = s.rest W := by
  unfold State.freeLe
  simp only [State.setTe_rest, State.setLe_rest, rest_next, ite_self, implies_true, State.each_rest, State.on_rest, apply_ite (State.rest _), apply_ite (Res.rest _), apply_ite Prod.fst, apply_ite Prod.snd]

@[simp] theorem State.freeLock_rest {W : Touch} [W.Pair] [W.In .lease] [W.In .turnout] (s : State) (a1 : Nat)  : (State.freeLock s a1).rest W = s.rest W := by
  unfold State.freeLock
  simp only [State.turnShow_rest, State.freeLe_rest, rest_next, ite_self, implies_true, State.each_rest, State.on_rest, apply_ite (State.rest _), apply_ite (Res.rest _), apply_ite Prod.fst, apply_ite Prod.snd]

@[simp] theorem State.leaseShow_rest {W : Touch} [W.In .lease] [W.In .turnout] (s : State)  : (State.leaseShow s).rest W = s.rest W := by
  unfold State.leaseShow
  simp only [State.set_rest, rest_next, ite_self, implies_true, State.each_rest, State.on_rest, apply_ite (State.rest _), apply_ite (Res.rest _), apply_ite Prod.fst, apply_ite Prod.snd]

@[simp] theorem State.leSet_rest {W : Touch} [W.Pair] [W.In .lease] (s : State) (a1 : Nat) (a2 : EF) (a3 : Nat)  : (State.leSet s a1 a2 a3).rest W = s.rest W := by
  unfold State.leSet
  simp only [State.setLe_rest, rest_next, ite_self, implies_true, State.each_rest, State.on_rest, apply_ite (State.rest _), apply_ite (Res.rest _), apply_ite Prod.fst, apply_ite Prod.snd]

@[simp] theorem State.rechain_rest {W : Touch} [W.Pair] [W.Ls] [W.In .lease] (s : State) (a1 : Nat)  : (State.rechain s a1).rest W = s.rest W := by
  unfold State.rechain
  dsimp only
  (repeat' split) <;> simp only [State.freeLe_rest, State.leSet_rest, State.rest_ls, rest_next, implies_true, State.each_rest, State.on_rest]

@[simp] theorem State.freeFurrow_rest {W : Touch} [W.Pair] [W.Ls] [W.In .lease] [W.In .turnout] (s : State) (a1 : Nat)  : (State.freeFurrow s a1).rest W = s.rest W := by
  unfold State.freeFurrow
  simp only [State.freeLock_rest, State.freeLe_rest, State.leaseShow_rest, State.rechain_rest, rest_next, ite_self, implies_true, State.each_rest, State.on_rest, apply_ite (State.rest _), apply_ite (Res.rest _), apply_ite Prod.fst, apply_ite Prod.snd]

@[simp] theorem State.incLost_rest {W : Touch}  (s : State) (a1 : Fld) (a2 : optParam Nat 1) [W.In a1.blk] : (State.incLost s a1 a2).rest W = s.rest W := by
  unfold State.incLost
  simp only [State.set_rest, rest_next, ite_self, implies_true, State.each_rest, State.on_rest, apply_ite (State.rest _), apply_ite (Res.rest _), apply_ite Prod.fst, apply_ite Prod.snd]

@[simp] theorem State.traceLose_rest {W : Touch} [W.VecSent] [W.Out] [W.Disp] [W.In .dispatch] [W.In .pcie] (s : State) (a1 : Nat)  : (State.traceLose s a1).rest W = s.rest W := by
  unfold State.traceLose
  simp only [State.irq_rest, State.incLost_rest, State.rest_disp, rest_next, ite_self, implies_true, State.each_rest, State.on_rest, apply_ite (State.rest _), apply_ite (Res.rest _), apply_ite Prod.fst, apply_ite Prod.snd]

@[simp] theorem State.stage_rest {W : Touch} [W.VecSent] [W.Out] [W.Disp] [W.In .dispatch] [W.In .pcie] (s : State) (a1 : TraceRec)  : (State.stage s a1).rest W = s.rest W := by
  unfold State.stage
  simp only [State.traceLose_rest, State.rest_disp, rest_next, ite_self, implies_true, State.each_rest, State.on_rest, apply_ite (State.rest _), apply_ite (Res.rest _), apply_ite Prod.fst, apply_ite Prod.snd]

@[simp] theorem State.qBytes_rest {W : Touch} [W.VecSent] [W.Fq] [W.Out] [W.Canal] [W.In .canal] [W.In .eth] [W.In .flume] [W.In .pcie] (s : State) (a1 : Nat) (a2 : List Nat)  : (State.qBytes s a1 a2).rest W = s.rest W := by
  unfold State.qBytes
  simp only [State.qPush_rest, rest_next, ite_self, implies_true, State.each_rest, State.on_rest, apply_ite (State.rest _), apply_ite (Res.rest _), apply_ite Prod.fst, apply_ite Prod.snd]

@[simp] theorem State.traceOut_rest {W : Touch} [W.VecSent] [W.Fq] [W.Out] [W.Canal] [W.In .canal] [W.In .eth] [W.In .flume] [W.In .pcie] (s : State) (l : List TraceRec) : (s.traceOut l).1.rest W = s.rest W := by
  induction l generalizing s with
  | nil => rfl
  | cons t r ih =>
    unfold State.traceOut
    split
    · exact (ih _).trans (State.qBytes_rest ..)
    · rfl

@[simp] theorem State.traceDrain_rest {W : Touch} [W.VecSent] [W.Fq] [W.Out] [W.Canal] [W.Disp] [W.In .canal] [W.In .dispatch] [W.In .eth] [W.In .flume] [W.In .pcie] (s : State)  : (State.traceDrain s).rest W = s.rest W := by
  unfold State.traceDrain
  simp only [State.traceOut_rest, State.traceLose_rest, State.rest_disp, rest_next, ite_self, implies_true, State.each_rest, State.on_rest, apply_ite (State.rest _), apply_ite (Res.rest _), apply_ite Prod.fst, apply_ite Prod.snd]

@[simp] theorem State.traceRec_rest {W : Touch} [W.VecSent] [W.Fq] [W.Out] [W.Canal] [W.Disp] [W.In .canal] [W.In .dispatch] [W.In .eth] [W.In .flume] [W.In .pcie] (s : State) (a1 : Nat) (a2 : Nat) (a3 : Nat) (a4 : Nat) (a5 : Nat)  : (State.traceRec s a1 a2 a3 a4 a5).rest W = s.rest W := by
  unfold State.traceRec
  simp only [State.stage_rest, State.traceDrain_rest, State.rest_disp, rest_next, ite_self, implies_true, State.each_rest, State.on_rest, apply_ite (State.rest _), apply_ite (Res.rest _), apply_ite Prod.fst, apply_ite Prod.snd]

@[simp] theorem State.traceItem_rest {W : Touch} [W.VecSent] [W.Fq] [W.Out] [W.Canal] [W.Disp] [W.In .canal] [W.In .dispatch] [W.In .eth] [W.In .flume] [W.In .pcie] (s : State) (a1 : Nat) (a2 : DItem) (a3 : optParam Nat 0)  : (State.traceItem s a1 a2 a3).rest W = s.rest W := by
  unfold State.traceItem
  simp only [State.traceRec_rest, rest_next, ite_self, implies_true, State.each_rest, State.on_rest, apply_ite (State.rest _), apply_ite (Res.rest _), apply_ite Prod.fst, apply_ite Prod.snd]

@[simp] theorem State.flowOff_rest {W : Touch} [W.VecSent] [W.Fq] [W.Out] [W.Canal] [W.Disp] [W.In .canal] [W.In .dispatch] [W.In .eth] [W.In .flume] [W.In .pcie] (s : State) (a1 : DItem)  : (State.flowOff s a1).rest W = s.rest W := by
  unfold State.flowOff
  simp only [State.traceItem_rest, State.inc_rest, rest_next, ite_self, implies_true, State.each_rest, State.on_rest, apply_ite (State.rest _), apply_ite (Res.rest _), apply_ite Prod.fst, apply_ite Prod.snd]

theorem State.choose_rest {W : Touch} [W.Disp] (s : State) (ok : DItem → Bool) (t : DItem × State) (h : s.choose ok = some t) : t.2.rest W = s.rest W := by
  unfold State.choose at h
  dsimp only at h
  split at h
  · cases h
  · split at h
    · cases h
    · split at h
      · cases h
      · split at h
        · cases h
        · cases h; exact State.rest_disp s _

@[simp] theorem State.setItem_rest {W : Touch} [W.Disp] (s : State) (a1 : DItem)  : (State.setItem s a1).rest W = s.rest W := by
  unfold State.setItem
  simp only [State.rest_disp, rest_next, ite_self, implies_true, State.each_rest, State.on_rest, apply_ite (State.rest _), apply_ite (Res.rest _), apply_ite Prod.fst, apply_ite Prod.snd]

@[simp] theorem State.coreShow_rest {W : Touch} [W.In .core] (s : State) (a1 : Nat)  : (State.coreShow s a1).rest W = s.rest W := by
  unfold State.coreShow
  simp only [State.set_rest, rest_next, ite_self, implies_true, State.each_rest, State.on_rest, apply_ite (State.rest _), apply_ite (Res.rest _), apply_ite Prod.fst, apply_ite Prod.snd]

@[simp] theorem State.intoCtx_rest {W : Touch} [W.Disp] [W.In .core] (s : State) (a1 : DItem) (a2 : Nat) (a3 : Nat)  : (State.intoCtx s a1 a2 a3).rest W = s.rest W := by
  unfold State.intoCtx
  simp only [State.setItem_rest, State.coreShow_rest, State.rest_disp, rest_next, ite_self, implies_true, State.each_rest, State.on_rest, apply_ite (State.rest _), apply_ite (Res.rest _), apply_ite Prod.fst, apply_ite Prod.snd]

@[simp] theorem State.preempt1_rest {W : Touch} [W.VecSent] [W.Fq] [W.Out] [W.Canal] [W.Disp] [W.In .canal] [W.In .core] [W.In .dispatch] [W.In .eth] [W.In .flume] [W.In .pcie] (s : State) : s.preempt1.rest W = s.rest W := by
  unfold State.preempt1
  dsimp only
  split
  · rfl
  · rename_i i t h
    have ht := State.choose_rest (W := W) s _ _ h
    split
    · rfl
    · simp only [State.traceItem_rest, State.inc_rest, State.intoCtx_rest]; exact ht

@[simp] theorem State.preempt_rest {W : Touch} [W.VecSent] [W.Fq] [W.Out] [W.Canal] [W.Disp] [W.In .canal] [W.In .core] [W.In .dispatch] [W.In .eth] [W.In .flume] [W.In .pcie] (s : State)  : (State.preempt s).rest W = s.rest W := by
  unfold State.preempt
  simp only [State.preempt1_rest, rest_next, ite_self, implies_true, State.each_rest, State.on_rest, apply_ite (State.rest _), apply_ite (Res.rest _), apply_ite Prod.fst, apply_ite Prod.snd]

@[simp] theorem State.dispShow_rest {W : Touch} [W.In .dispatch] (s : State)  : (State.dispShow s).rest W = s.rest W := by
  unfold State.dispShow
  simp only [State.set_rest, rest_next, ite_self, implies_true, State.each_rest, State.on_rest, apply_ite (State.rest _), apply_ite (Res.rest _), apply_ite Prod.fst, apply_ite Prod.snd]

@[simp] theorem State.enqueue_rest {W : Touch} [W.VecSent] [W.Fq] [W.Out] [W.Canal] [W.Disp] [W.In .canal] [W.In .core] [W.In .dispatch] [W.In .eth] [W.In .flume] [W.In .pcie] (s : State) (a1 : DItem) (a2 : Nat)  : (State.enqueue s a1 a2).rest W = s.rest W := by
  unfold State.enqueue
  simp only [State.preempt_rest, State.dispShow_rest, State.traceItem_rest, State.inc_rest, State.rest_disp, rest_next, ite_self, implies_true, State.each_rest, State.on_rest, apply_ite (State.rest _), apply_ite (Res.rest _), apply_ite Prod.fst, apply_ite Prod.snd]

@[simp] theorem State.offer_rest {W : Touch} [W.VecSent] [W.Fq] [W.Out] [W.Canal] [W.Disp] [W.In .canal] [W.In .core] [W.In .dispatch] [W.In .eth] [W.In .flume] [W.In .pcie] (s : State) (a1 : DItem)  : (State.offer s a1).1.rest W = s.rest W := by
  unfold State.offer
  grind [State.flowOff_rest, State.enqueue_rest, rest_next]

@[simp] theorem State.item_rest {W : Touch} [W.VecSent] [W.Fq] [W.Out] [W.Canal] [W.Disp] [W.In .canal] [W.In .core] [W.In .dispatch] [W.In .eth] [W.In .flume] [W.In .pcie] (s : State) (a1 : DItem)  : (State.item s a1).rest W = s.rest W := by
  unfold State.item
  grind [State.offer_rest, State.rest_disp, rest_next]

@[simp] theorem State.leaseEvent_rest {W : Touch} [W.VecSent] [W.Fq] [W.Out] [W.Canal] [W.Disp] [W.In .canal] [W.In .core] [W.In .dispatch] [W.In .eth] [W.In .flume] [W.In .pcie] (s : State) (a1 : Nat) (a2 : Nat) (a3 : Nat) (a4 : Nat) (a5 : Nat) (a6 : Nat) (a7 : Nat)  : (State.leaseEvent s a1 a2 a3 a4 a5 a6 a7).rest W = s.rest W := by
  unfold State.leaseEvent
  dsimp only
  (repeat' split) <;> simp only [State.item_rest, State.qBytes_rest, rest_next, implies_true, State.each_rest, State.on_rest]

@[simp] theorem State.refuseSubmit_rest {W : Touch} [W.VecSent] [W.Fq] [W.Out] [W.Canal] [W.Disp] [W.Ls] [W.In .canal] [W.In .core] [W.In .dispatch] [W.In .eth] [W.In .flume] [W.In .lease] [W.In .pcie] (s : State) (a1 : Nat) (a2 : Deny)  : (State.refuseSubmit s a1 a2).1.rest W = s.rest W := by
  unfold State.refuseSubmit
  simp only [State.inc_rest, State.takeSeq_rest, State.irq_rest, State.leaseEvent_rest, State.rest_ls, rest_next, ite_self, implies_true, State.each_rest, State.on_rest, apply_ite (State.rest _), apply_ite (Res.rest _), apply_ite Prod.fst, apply_ite Prod.snd]

@[simp] theorem State.complHeld_rest {W : Touch} [W.Tags] [W.VecSent] [W.Fq] [W.Out] [W.Canal] [W.Held] [W.Ls] [W.In .canal] [W.In .eth] [W.In .flume] [W.In .pcie] (s : State) (via : Via) (p : Page) (r : TRes) [W.In p.blk] : (s.complHeld via p r).rest W = s.rest W := by
  unfold State.complHeld
  split
  · exact (State.tblDone_rest ..).trans (ite_rest ((State.rest_ls { s with held := _ } _).trans (State.rest_held s _)) (State.rest_held s _))
  · rfl

@[simp] theorem State.abortXfer_rest {W : Touch} [W.Tags] [W.VecSent] [W.Fq] [W.Out] [W.Canal] [W.Held] [W.Pair] [W.Disp] [W.Ls] [W.In .canal] [W.In .core] [W.In .dispatch] [W.In .eth] [W.In .flume] [W.In .lease] [W.In .pcie] [W.In .turnout] (s : State) (a1 : Xfer) (a2 : Deny)  : (State.abortXfer s a1 a2).rest W = s.rest W := by
  unfold State.abortXfer
  dsimp only
  (repeat' split) <;> simp only [State.sendRelease_rest, State.freeFurrow_rest, State.refuseSubmit_rest, State.inc_rest, State.leaseShow_rest, State.complHeld_rest, State.rest_ls, rest_next, implies_true, State.each_rest, State.on_rest]

@[simp] theorem State.oldOps_rest {W : Touch} [W.Tags] [W.VecSent] [W.Fq] [W.Out] [W.Canal] [W.Held] [W.Pair] [W.Disp] [W.Ls] [∀ b, W.In b] (s : State) (i : Nat) : (s.oldOps i).rest W = s.rest W := by
  unfold State.oldOps
  refine State.each_rest s _ _ fun t h => ?_
  split <;> simp only [State.abortXfer_rest, State.complHeld_rest]

@[simp] theorem State.logLose_rest {W : Touch} [W.VecSent] [W.Ev] [W.Out] [W.In .evlog] [W.In .pcie] (s : State) (a1 : Nat)  : (State.logLose s a1).rest W = s.rest W := by
  unfold State.logLose
  simp only [State.irq_rest, State.incLost_rest, State.rest_ev, rest_next, ite_self, implies_true, State.each_rest, State.on_rest, apply_ite (State.rest _), apply_ite (Res.rest _), apply_ite Prod.fst, apply_ite Prod.snd]

@[simp] theorem State.hostDrain_rest {W : Touch} [W.VecSent] [W.Fq] [W.Ev] [W.Out] [W.Canal] [W.In .canal] [W.In .eth] [W.In .flume] [W.In .pcie] (s : State)  : (State.hostDrain s).rest W = s.rest W := by
  unfold State.hostDrain
  simp only [State.qPush_rest, State.rest_ev, rest_next, ite_self, implies_true, State.each_rest, State.on_rest, apply_ite (State.rest _), apply_ite (Res.rest _), apply_ite Prod.fst, apply_ite Prod.snd]

@[simp] theorem State.extDrain_rest {W : Touch} [W.Ev] (s : State)  : (State.extDrain s).rest W = s.rest W := by
  unfold State.extDrain
  simp only [State.rest_ev, rest_next, ite_self, implies_true, State.each_rest, State.on_rest, apply_ite (State.rest _), apply_ite (Res.rest _), apply_ite Prod.fst, apply_ite Prod.snd]

@[simp] theorem State.toCirc_rest {W : Touch} [W.VecSent] [W.Fq] [W.Ev] [W.Out] [W.Canal] [W.In .canal] [W.In .eth] [W.In .evlog] [W.In .flume] [W.In .pcie] (s : State) (a1 : EvRec) (a2 : Bool)  : (State.toCirc s a1 a2).rest W = s.rest W := by
  unfold State.toCirc
  dsimp only
  (repeat' split) <;> simp only [State.logLose_rest, State.hostDrain_rest, State.extDrain_rest, State.rest_ev, rest_next, implies_true, State.each_rest, State.on_rest]

@[simp] theorem State.writeRec_rest {W : Touch} [W.VecSent] [W.Fq] [W.Ev] [W.Out] [W.Canal] [W.In .canal] [W.In .eth] [W.In .evlog] [W.In .flume] [W.In .pcie] (s : State) (a1 : Nat) (a2 : Nat) (a3 : Nat) (a4 : Nat) (a5 : Nat) (a6 : Nat)  : (State.writeRec s a1 a2 a3 a4 a5 a6).rest W = s.rest W := by
  unfold State.writeRec
  dsimp only
  (repeat' split) <;> simp only [State.set_rest, State.inc_rest, State.irq_rest, State.toCirc_rest, State.logLose_rest, State.rest_ev, rest_next, implies_true, State.each_rest, State.on_rest]

@[simp] theorem State.writeLoss_rest {W : Touch} [W.VecSent] [W.Fq] [W.Ev] [W.Out] [W.Canal] [W.In .canal] [W.In .eth] [W.In .evlog] [W.In .flume] [W.In .pcie] (s : State)  : (State.writeLoss s).rest W = s.rest W := by
  unfold State.writeLoss
  simp only [State.writeRec_rest, State.rest_ev, rest_next, ite_self, implies_true, State.each_rest, State.on_rest, apply_ite (State.rest _), apply_ite (Res.rest _), apply_ite Prod.fst, apply_ite Prod.snd]

@[simp] theorem State.putRec_rest {W : Touch} [W.VecSent] [W.Fq] [W.Ev] [W.Out] [W.Canal] [W.In .canal] [W.In .eth] [W.In .evlog] [W.In .flume] [W.In .pcie] (s : State) (a1 : Nat) (a2 : Nat) (a3 : Nat) (a4 : Nat) (a5 : Nat) (a6 : Nat)  : (State.putRec s a1 a2 a3 a4 a5 a6).rest W = s.rest W := by
  unfold State.putRec
  simp only [State.writeRec_rest, State.writeLoss_rest, State.rest_ev, rest_next, ite_self, implies_true, State.each_rest, State.on_rest, apply_ite (State.rest _), apply_ite (Res.rest _), apply_ite Prod.fst, apply_ite Prod.snd]

@[simp] theorem State.summary_rest {W : Touch} [W.VecSent] [W.Fq] [W.Ev] [W.Out] [W.Canal] [W.In .canal] [W.In .eth] [W.In .evlog] [W.In .flume] [W.In .pcie] (s : State) (a1 : Suppr)  : (State.summary s a1).rest W = s.rest W := by
  unfold State.summary
  simp only [State.inc_rest, State.putRec_rest, rest_next, ite_self, implies_true, State.each_rest, State.on_rest, apply_ite (State.rest _), apply_ite (Res.rest _), apply_ite Prod.fst, apply_ite Prod.snd]

@[simp] theorem State.newSecond_rest {W : Touch} [W.VecSent] [W.Fq] [W.Ev] [W.Out] [W.Canal] [W.In .canal] [W.In .eth] [W.In .evlog] [W.In .flume] [W.In .pcie] (s : State)  : (State.newSecond s).rest W = s.rest W := by
  unfold State.newSecond
  simp only [State.summary_rest, State.rest_ev, rest_next, ite_self, implies_true, State.each_rest, State.on_rest, apply_ite (State.rest _), apply_ite (Res.rest _), apply_ite Prod.fst, apply_ite Prod.snd]

@[simp] theorem State.firstInSecond_rest {W : Touch} [W.Once] (s : State) (a1 : Nat) (a2 : optParam Nat s.fleetSec)  : (State.firstInSecond s a1 a2).2.rest W = s.rest W := by
  unfold State.firstInSecond
  simp only [State.rest_once, rest_next, ite_self, implies_true, State.each_rest, State.on_rest, apply_ite (State.rest _), apply_ite (Res.rest _), apply_ite Prod.fst, apply_ite Prod.snd]

@[simp] theorem State.suppress_rest {W : Touch} [W.Ev] [W.In .evlog] (s : State) (a1 : Nat) (a2 : Nat)  : (State.suppress s a1 a2).rest W = s.rest W := by
  unfold State.suppress
  simp only [State.inc_rest, State.rest_ev, rest_next, ite_self, implies_true, State.each_rest, State.on_rest, apply_ite (State.rest _), apply_ite (Res.rest _), apply_ite Prod.fst, apply_ite Prod.snd]

@[simp] theorem State.putBucket_rest {W : Touch} [W.Ev] [W.In .evlog] (s : State) (a1 : Nat) (a2 : Bucket) (a3 : Bool)  : (State.putBucket s a1 a2 a3).rest W = s.rest W := by
  unfold State.putBucket
  simp only [State.inc_rest, State.rest_ev, rest_next, ite_self, implies_true, State.each_rest, State.on_rest, apply_ite (State.rest _), apply_ite (Res.rest _), apply_ite Prod.fst, apply_ite Prod.snd]

@[simp] theorem State.eventAt_rest {W : Touch} [W.Log] (s : State) (a1 : Nat) (a2 : Nat) (a3 : Nat) (a4 : Nat) (a5 : Nat) (a6 : Nat)  : (State.eventAt s a1 a2 a3 a4 a5 a6).rest W = s.rest W := by
  have ⟨_, _, _, _, _⟩ := Touch.logIns W
  unfold State.eventAt
  simp only [State.newSecond_rest, State.firstInSecond_rest, State.putRec_rest, State.suppress_rest, State.putBucket_rest, rest_next, ite_self, implies_true, State.each_rest, State.on_rest, apply_ite (State.rest _), apply_ite (Res.rest _), apply_ite Prod.fst, apply_ite Prod.snd]

@[simp] theorem State.event_rest {W : Touch} [W.Log] (s : State) (a1 : Nat) (a2 : Nat) (a3 : Nat) (a4 : Nat) (a5 : Nat)  : (State.event s a1 a2 a3 a4 a5).rest W = s.rest W := by
  have ⟨_, _, _, _, _⟩ := Touch.logIns W
  unfold State.event
  simp only [State.eventAt_rest, rest_next, ite_self, implies_true, State.each_rest, State.on_rest, apply_ite (State.rest _), apply_ite (Res.rest _), apply_ite Prod.fst, apply_ite Prod.snd]

@[simp] theorem State.notice_rest {W : Touch} [W.Log] (s : State) (a1 : Page) (a2 : Nat) (a3 : optParam Nat 0) (a4 : optParam Nat 0) (a5 : optParam Nat 0) (a6 : optParam Nat 255) [W.In a1.blk] : (State.notice s a1 a2 a3 a4 a5 a6).rest W = s.rest W := by
  have ⟨_, _, _, _, _⟩ := Touch.logIns W
  unfold State.notice
  simp only [State.event_rest, State.irq_rest, rest_next, ite_self, implies_true, State.each_rest, State.on_rest, apply_ite (State.rest _), apply_ite (Res.rest _), apply_ite Prod.fst, apply_ite Prod.snd]

@[simp] theorem State.orphanLocks_rest {W : Touch} [W.Log] [W.Pair] [W.In .lease] [W.In .turnout] (s : State) (a1 : Nat) (a2 : Nat)  : (State.orphanLocks s a1 a2).rest W = s.rest W := by
  have ⟨_, _, _, _, _⟩ := Touch.logIns W
  unfold State.orphanLocks
  simp only [State.notice_rest, State.inc_rest, State.turnShow_rest, State.leSet_rest, State.freeLock_rest, rest_next, ite_self, implies_true, State.each_rest, State.on_rest, apply_ite (State.rest _), apply_ite (Res.rest _), apply_ite Prod.fst, apply_ite Prod.snd]

@[simp] theorem State.leEvent_rest {W : Touch} [W.VecSent] [W.Fq] [W.Out] [W.Canal] [W.Disp] [W.In .canal] [W.In .core] [W.In .dispatch] [W.In .eth] [W.In .flume] [W.In .pcie] (s : State) (a1 : Nat) (a2 : Nat)  : (State.leEvent s a1 a2).rest W = s.rest W := by
  unfold State.leEvent
  simp only [State.leaseEvent_rest, rest_next, ite_self, implies_true, State.each_rest, State.on_rest, apply_ite (State.rest _), apply_ite (Res.rest _), apply_ite Prod.fst, apply_ite Prod.snd]

@[simp] theorem State.relock_rest {W : Touch} [W.Pair] [W.In .lease] [W.In .turnout] (s : State) (a1 : Nat)  : (State.relock s a1).rest W = s.rest W := by
  unfold State.relock
  dsimp only
  (repeat' split) <;> simp only [State.freeLock_rest, State.turnShow_rest, State.setLe_rest, rest_next, implies_true, State.each_rest, State.on_rest]

@[simp] theorem State.setMotion_rest {W : Touch} [W.Mot] (s : State) (a1 : Nat) (a2 : MotSt)  : (State.setMotion s a1 a2).rest W = s.rest W := by
  unfold State.setMotion
  simp only [State.rest_mot, rest_next, ite_self, implies_true, State.each_rest, State.on_rest, apply_ite (State.rest _), apply_ite (Res.rest _), apply_ite Prod.fst, apply_ite Prod.snd]

@[simp] theorem State.setMove_rest {W : Touch} [W.Pair] [W.In .motion] (s : State) (a1 : Nat) (a2 : Nat) (a3 : Nat)  : (State.setMove s a1 a2 a3).rest W = s.rest W := by
  unfold State.setMove
  simp only [State.setTe_rest, rest_next, ite_self, implies_true, State.each_rest, State.on_rest, apply_ite (State.rest _), apply_ite (Res.rest _), apply_ite Prod.fst, apply_ite Prod.snd]

@[simp] theorem State.freeMove_rest {W : Touch} [W.Pair] [W.Mot] [W.In .motion] (s : State) (a1 : Nat) (a2 : Nat)  : (State.freeMove s a1 a2).rest W = s.rest W := by
  unfold State.freeMove
  simp only [State.setMotion_rest, State.setMove_rest, rest_next, ite_self, implies_true, State.each_rest, State.on_rest, apply_ite (State.rest _), apply_ite (Res.rest _), apply_ite Prod.fst, apply_ite Prod.snd]

@[simp] theorem State.truncMove_rest {W : Touch} [W.Log] [W.Pair] [W.Disp] [W.Mot] [W.In .core] [W.In .dispatch] [W.In .motion] (s : State) (a1 : Nat) (a2 : Nat) (a3 : Nat)  : (State.truncMove s a1 a2 a3).rest W = s.rest W := by
  have ⟨_, _, _, _, _⟩ := Touch.logIns W
  unfold State.truncMove
  simp only [State.item_rest, State.inc_rest, State.freeMove_rest, State.setMove_rest, State.setMotion_rest, State.notice_rest, rest_next, ite_self, implies_true, State.each_rest, State.on_rest, apply_ite (State.rest _), apply_ite (Res.rest _), apply_ite Prod.fst, apply_ite Prod.snd]

theorem foldl_rest {W : Touch}  {α β : Type} (l : List α) (g : β → State) (f : β → α → β) (h : ∀ b x, (g (f b x)).rest W = (g b).rest W) (b : β) :
    (g (l.foldl f b)).rest W = (g b).rest W := by
  induction l generalizing b with
  | nil => rfl
  | cons x r ih => exact (ih _).trans (h b x)

@[simp] theorem State.motTrunc_rest {W : Touch} [W.Log] [W.Pair] [W.Disp] [W.Mot] [W.In .core] [W.In .dispatch] [W.In .motion] (s : State) (m : Nat) : (s.motTrunc m).rest W = s.rest W := by
  have ⟨_, _, _, _, _⟩ := Touch.logIns W
  unfold State.motTrunc
  exact foldl_rest _ (fun (b : State × Nat × Nat) => b.1) _ (fun b x => State.truncMove_rest ..) (s, 0, 0)

@[simp] theorem State.releaseFrom_rest {W : Touch} [W.Log] [W.Pair] [W.Disp] [W.Ls] [W.Mot] [W.In .core] [W.In .dispatch] [W.In .lease] [W.In .motion] [W.In .turnout] (s : State) (a1 : Nat) (a2 : Nat)  : (State.releaseFrom s a1 a2).1.rest W = s.rest W := by
  have ⟨_, _, _, _, _⟩ := Touch.logIns W
  unfold State.releaseFrom
  dsimp only
  (repeat' split) <;> simp only [State.sendRelease_rest, State.leEvent_rest, State.freeLe_rest, State.relock_rest, State.leaseShow_rest, State.rechain_rest, State.motTrunc_rest, rest_next, implies_true, State.each_rest, State.on_rest]

@[simp] theorem State.dropFurrows_rest {W : Touch} [W.Log] [W.Tags] [W.Held] [W.Pair] [W.Disp] [W.Ls] [W.Mot] [W.In .core] [W.In .dispatch] [W.In .lease] [W.In .motion] [W.In .turnout] (s : State) (a1 : Nat)  : (State.dropFurrows s a1).rest W = s.rest W := by
  have ⟨_, _, _, _, _⟩ := Touch.logIns W
  unfold State.dropFurrows
  simp only [State.abortXfer_rest, State.releaseFrom_rest, rest_next, ite_self, implies_true, State.each_rest, State.on_rest, apply_ite (State.rest _), apply_ite (Res.rest _), apply_ite Prod.fst, apply_ite Prod.snd]

@[simp] theorem State.taskShow_rest {W : Touch} [W.In .taskboard] (s : State)  : (State.taskShow s).rest W = s.rest W := by
  unfold State.taskShow
  simp only [State.set_rest, rest_next, ite_self, implies_true, State.each_rest, State.on_rest, apply_ite (State.rest _), apply_ite (Res.rest _), apply_ite Prod.fst, apply_ite Prod.snd]

@[simp] theorem State.taskEvent_rest {W : Touch} [W.VecSent] [W.Fq] [W.Out] [W.Canal] [W.Disp] [W.In .canal] [W.In .core] [W.In .dispatch] [W.In .eth] [W.In .flume] [W.In .pcie] (s : State) (a1 : Nat) (a2 : Nat)  : (State.taskEvent s a1 a2).rest W = s.rest W := by
  unfold State.taskEvent
  simp only [State.item_rest, rest_next, ite_self, implies_true, State.each_rest, State.on_rest, apply_ite (State.rest _), apply_ite (Res.rest _), apply_ite Prod.fst, apply_ite Prod.snd]

@[simp] theorem State.taskTo_rest {W : Touch} [W.VecSent] [W.Fq] [W.Out] [W.Canal] [W.Pair] [W.Disp] [W.In .canal] [W.In .core] [W.In .dispatch] [W.In .eth] [W.In .flume] [W.In .pcie] [W.In .taskboard] (s : State) (a1 : Nat) (a2 : Nat) (a3 : Nat) (a4 : Nat)  : (State.taskTo s a1 a2 a3 a4).rest W = s.rest W := by
  unfold State.taskTo
  simp only [State.taskShow_rest, State.setTe_rest, State.taskEvent_rest, rest_next, ite_self, implies_true, State.each_rest, State.on_rest, apply_ite (State.rest _), apply_ite (Res.rest _), apply_ite Prod.fst, apply_ite Prod.snd]

@[simp] theorem State.taskForfeit_rest {W : Touch} [W.VecSent] [W.Fq] [W.Out] [W.Canal] [W.Pair] [W.Disp] [W.In .canal] [W.In .core] [W.In .dispatch] [W.In .eth] [W.In .flume] [W.In .pcie] [W.In .taskboard] (s : State) (a1 : Nat)  : (State.taskForfeit s a1).rest W = s.rest W := by
  unfold State.taskForfeit
  simp only [State.irq_rest, State.taskTo_rest, State.inc_rest, rest_next, ite_self, implies_true, State.each_rest, State.on_rest, apply_ite (State.rest _), apply_ite (Res.rest _), apply_ite Prod.fst, apply_ite Prod.snd]

@[simp] theorem State.motEmpty_rest {W : Touch} [W.Pair] [W.Mot] [W.In .motion] (s : State) (a1 : Nat)  : (State.motEmpty s a1).rest W = s.rest W := by
  unfold State.motEmpty
  simp only [State.setMove_rest, State.setMotion_rest, rest_next, ite_self, implies_true, State.each_rest, State.on_rest, apply_ite (State.rest _), apply_ite (Res.rest _), apply_ite Prod.fst, apply_ite Prod.snd]

@[simp] theorem State.forfeit_rest {W : Touch} [W.Log] [W.Tags] [W.Held] [W.Pair] [W.Disp] [W.Ls] [W.Mot] [∀ b, W.In b] (s : State) (a1 : Nat)  : (State.forfeit s a1).rest W = s.rest W := by
  unfold State.forfeit
  simp only [State.irq_rest, State.inc_rest, State.takeSeq_rest, State.turnShow_rest, State.setTe_rest, State.dropSeq_rest, State.oldOps_rest, State.orphanLocks_rest, State.dropFurrows_rest, State.taskForfeit_rest, State.motEmpty_rest, State.leaseShow_rest, State.rest_ls, rest_next, ite_self, implies_true, State.each_rest, State.on_rest, apply_ite (State.rest _), apply_ite (Res.rest _), apply_ite Prod.fst, apply_ite Prod.snd]

@[simp] theorem State.setMember_rest {W : Touch} [W.Pair] [W.In .registry] (s : State) (a1 : Nat) (a2 : Nat)  : (State.setMember s a1 a2).rest W = s.rest W := by
  unfold State.setMember
  simp only [State.setTe_rest, rest_next, ite_self, implies_true, State.each_rest, State.on_rest, apply_ite (State.rest _), apply_ite (Res.rest _), apply_ite Prod.fst, apply_ite Prod.snd]

@[simp] theorem State.mset_rest {W : Touch} [W.Pair] [W.In .registry] (s : State) (a1 : Nat) (a2 : EF) (a3 : Nat)  : (State.mset s a1 a2 a3).rest W = s.rest W := by
  unfold State.mset
  simp only [State.setMember_rest, rest_next, ite_self, implies_true, State.each_rest, State.on_rest, apply_ite (State.rest _), apply_ite (Res.rest _), apply_ite Prod.fst, apply_ite Prod.snd]

@[simp] theorem State.bumpGen_rest {W : Touch} [W.Pair] [W.In .flume] [W.In .registry] (s : State) (a1 : Nat) (a2 : Nat)  : (State.bumpGen s a1 a2).rest W = s.rest W := by
  unfold State.bumpGen
  simp only [State.setTe_rest, State.set_rest, State.mset_rest, rest_next, ite_self, implies_true, State.each_rest, State.on_rest, apply_ite (State.rest _), apply_ite (Res.rest _), apply_ite Prod.fst, apply_ite Prod.snd]

@[simp] theorem State.bump_rest {W : Touch} [W.Log] [W.Tags] [W.Held] [W.Pair] [W.Disp] [W.Ls] [W.Mot] [∀ b, W.In b] (s : State) (a1 : Nat) (a2 : Nat)  : (State.bump s a1 a2).rest W = s.rest W := by
  unfold State.bump
  simp only [State.forfeit_rest, State.bumpGen_rest, rest_next, ite_self, implies_true, State.each_rest, State.on_rest, apply_ite (State.rest _), apply_ite (Res.rest _), apply_ite Prod.fst, apply_ite Prod.snd]

@[simp] theorem State.dropTag_rest {W : Touch} [W.Held] (s : State) (a1 : Nat)  : (State.dropTag s a1).rest W = s.rest W := by
  unfold State.dropTag
  simp only [State.rest_held, rest_next, ite_self, implies_true, State.each_rest, State.on_rest, apply_ite (State.rest _), apply_ite (Res.rest _), apply_ite Prod.fst, apply_ite Prod.snd]

@[simp] theorem State.endCtx_rest {W : Touch} [W.Disp] [W.In .core] (s : State) (a1 : Nat) (a2 : Nat)  : (State.endCtx s a1 a2).rest W = s.rest W := by
  unfold State.endCtx
  simp only [State.coreShow_rest, State.rest_disp, rest_next, ite_self, implies_true, State.each_rest, State.on_rest, apply_ite (State.rest _), apply_ite (Res.rest _), apply_ite Prod.fst, apply_ite Prod.snd]

@[simp] theorem State.drainBacklog_rest {W : Touch} [W.VecSent] [W.Fq] [W.Out] [W.Canal] [W.Disp] [W.In .canal] [W.In .core] [W.In .dispatch] [W.In .eth] [W.In .flume] [W.In .pcie] (s : State)  : (State.drainBacklog s).rest W = s.rest W := by
  unfold State.drainBacklog
  simp only [State.item_rest, State.rest_disp, rest_next, ite_self, implies_true, State.each_rest, State.on_rest, apply_ite (State.rest _), apply_ite (Res.rest _), apply_ite Prod.fst, apply_ite Prod.snd]

@[simp] theorem State.queueFrame_rest {W : Touch} [W.Air] (s : State) (a1 : DownFrame)  : (State.queueFrame s a1).rest W = s.rest W := by
  unfold State.queueFrame
  simp only [State.rest_air, rest_next, ite_self, implies_true, State.each_rest, State.on_rest, apply_ite (State.rest _), apply_ite (Res.rest _), apply_ite Prod.fst, apply_ite Prod.snd]

@[simp] theorem State.queueDown_rest {W : Touch} [W.Air] (s : State) (a1 : Nat) (a2 : Nat) (a3 : List Nat)  : (State.queueDown s a1 a2 a3).rest W = s.rest W := by
  unfold State.queueDown
  simp only [State.queueFrame_rest, rest_next, ite_self, implies_true, State.each_rest, State.on_rest, apply_ite (State.rest _), apply_ite (Res.rest _), apply_ite Prod.fst, apply_ite Prod.snd]

@[simp] theorem State.sendEmit_rest {W : Touch} [W.VecSent] [W.Fq] [W.Out] [W.Canal] [W.Air] [W.Disp] [W.In .canal] [W.In .core] [W.In .dispatch] [W.In .eth] [W.In .flume] [W.In .pcie] (s : State) (a1 : Emit)  : (State.sendEmit s a1).rest W = s.rest W := by
  unfold State.sendEmit
  dsimp only
  (repeat' split) <;> simp only [State.queueDown_rest, State.enqueue_rest, State.flowOff_rest, State.qBytes_rest, rest_next, implies_true, State.each_rest, State.on_rest]

@[simp] theorem State.sendEmits_rest {W : Touch} [W.VecSent] [W.Fq] [W.Out] [W.Canal] [W.Air] [W.Disp] [W.In .canal] [W.In .core] [W.In .dispatch] [W.In .eth] [W.In .flume] [W.In .pcie] (s : State) (i : DItem) (l : List Emit) : (s.sendEmits i l).rest W = s.rest W := by
  induction l generalizing s with
  | nil => exact State.setItem_rest ..
  | cons e r ih =>
    unfold State.sendEmits
    refine ite_rest (State.setItem_rest ..) ?_
    exact (ih _).trans ((State.sendEmit_rest ..).trans (State.setItem_rest ..))

@[simp] theorem State.release1_rest {W : Touch} [W.VecSent] [W.Fq] [W.Out] [W.Canal] [W.Air] [W.Disp] [W.In .canal] [W.In .core] [W.In .dispatch] [W.In .eth] [W.In .flume] [W.In .pcie] (s : State) (a1 : Nat)  : (State.release1 s a1).rest W = s.rest W := by
  unfold State.release1
  (repeat' (first | (refine ite_rest ?_ ?_) | (refine ite_res ?_ ?_) | split)) <;> simp only [State.traceItem_rest, State.inc_rest, State.setItem_rest, State.sendEmits_rest, State.dispShow_rest, State.rest_disp, rest_next, implies_true, State.each_rest, State.on_rest]

@[simp] theorem State.releases_rest {W : Touch} [W.VecSent] [W.Fq] [W.Out] [W.Canal] [W.Air] [W.Disp] [W.In .canal] [W.In .core] [W.In .dispatch] [W.In .eth] [W.In .flume] [W.In .pcie] (s : State) (a1 : Nat)  : (State.releases s a1).rest W = s.rest W := by
  unfold State.releases
  simp only [State.release1_rest, rest_next, ite_self, implies_true, State.each_rest, State.on_rest, apply_ite (State.rest _), apply_ite (Res.rest _), apply_ite Prod.fst, apply_ite Prod.snd]

@[simp] theorem State.releaseFlow_rest {W : Touch} [W.VecSent] [W.Fq] [W.Out] [W.Canal] [W.Air] [W.Disp] [W.In .canal] [W.In .core] [W.In .dispatch] [W.In .eth] [W.In .flume] [W.In .pcie] (s : State) (a1 : Nat)  : (State.releaseFlow s a1).rest W = s.rest W := by
  unfold State.releaseFlow
  simp only [State.preempt_rest, State.drainBacklog_rest, State.releases_rest, rest_next, ite_self, implies_true, State.each_rest, State.on_rest, apply_ite (State.rest _), apply_ite (Res.rest _), apply_ite Prod.fst, apply_ite Prod.snd]

@[simp] theorem State.resumed_rest {W : Touch} [W.VecSent] [W.Fq] [W.Out] [W.Canal] [W.Disp] [W.In .canal] [W.In .dispatch] [W.In .eth] [W.In .flume] [W.In .pcie] (s : State) (a1 : Nat) (a2 : Nat)  : (State.resumed s a1 a2).rest W = s.rest W := by
  unfold State.resumed
  grind [State.traceItem_rest, rest_next]

@[simp] theorem State.abortItem_rest {W : Touch} [W.Log] [W.Tags] [W.Held] [W.Air] [W.Pair] [W.Disp] [W.Ls] [W.Mot] [∀ b, W.In b] (s : State) (a1 : DItem) (a2 : Bool)  : (State.abortItem s a1 a2).rest W = s.rest W := by
  unfold State.abortItem
  simp only [State.bump_rest, State.dropTag_rest, State.traceItem_rest, State.irq_rest, State.inc_rest, State.endCtx_rest, State.preempt_rest, State.dispShow_rest, State.setItem_rest, State.releaseFlow_rest, State.resumed_rest, rest_next, ite_self, implies_true, State.each_rest, State.on_rest, apply_ite (State.rest _), apply_ite (Res.rest _), apply_ite Prod.fst, apply_ite Prod.snd]

@[simp] theorem State.abortCore_rest {W : Touch} [W.Log] [W.Tags] [W.Held] [W.Air] [W.Pair] [W.Disp] [W.Ls] [W.Mot] [∀ b, W.In b] (s : State) (a1 : Nat)  : (State.abortCore s a1).rest W = s.rest W := by
  unfold State.abortCore
  simp only [State.abortItem_rest, rest_next, ite_self, implies_true, State.each_rest, State.on_rest, apply_ite (State.rest _), apply_ite (Res.rest _), apply_ite Prod.fst, apply_ite Prod.snd]

@[simp] theorem State.abortPreparing_rest {W : Touch} [W.Tags] [W.VecSent] [W.Fq] [W.Out] [W.Canal] [W.Held] [W.Pair] [W.Disp] [W.Ls] [W.In .canal] [W.In .core] [W.In .dispatch] [W.In .eth] [W.In .flume] [W.In .lease] [W.In .pcie] [W.In .turnout] (s : State)  : (State.abortPreparing s).rest W = s.rest W := by
  unfold State.abortPreparing
  simp only [State.abortXfer_rest, rest_next, ite_self, implies_true, State.each_rest, State.on_rest, apply_ite (State.rest _), apply_ite (Res.rest _), apply_ite Prod.fst, apply_ite Prod.snd]

@[simp] theorem State.free_rest {W : Touch} [W.Fresh] (s : State)  : (State.free s).2.rest W = s.rest W := by
  unfold State.free
  simp only [State.rest_fresh, rest_next, ite_self, implies_true, State.each_rest, State.on_rest, apply_ite (State.rest _), apply_ite (Res.rest _), apply_ite Prod.fst, apply_ite Prod.snd]

@[simp] theorem State.setSlew_rest {W : Touch} [W.Tm] [W.In .time] (s : State) (a1 : Int) (a2 : Nat)  : (State.setSlew s a1 a2).rest W = s.rest W := by
  unfold State.setSlew
  simp only [State.set_rest, State.rest_tm, rest_next, ite_self, implies_true, State.each_rest, State.on_rest, apply_ite (State.rest _), apply_ite (Res.rest _), apply_ite Prod.fst, apply_ite Prod.snd]

@[simp] theorem State.acceptE_rest {W : Touch} [W.Fresh] [W.Tm] [W.In .time] (s : State) (a1 : Int) (a2 : Nat)  : (State.acceptE s a1 a2).rest W = s.rest W := by
  unfold State.acceptE
  simp only [State.free_rest, State.setSlew_rest, State.set_rest, State.rest_tm, rest_next, ite_self, implies_true, State.each_rest, State.on_rest, apply_ite (State.rest _), apply_ite (Res.rest _), apply_ite Prod.fst, apply_ite Prod.snd]

@[simp] theorem State.sendLease_rest {W : Touch} [W.Out] [W.Canal] [W.In .canal] (s : State) (a1 : Nat) (a2 : Nat) (a3 : Nat) (a4 : Nat) (a5 : Nat) (a6 : Nat) (a7 : optParam (List PrepStep) [])  : (State.sendLease s a1 a2 a3 a4 a5 a6 a7).rest W = s.rest W := by
  unfold State.sendLease
  simp only [State.leaseSend_rest, rest_next, ite_self, implies_true, State.each_rest, State.on_rest, apply_ite (State.rest _), apply_ite (Res.rest _), apply_ite Prod.fst, apply_ite Prod.snd]

@[simp] theorem State.ackLease_rest {W : Touch} [W.Out] [W.Canal] [W.In .canal] (s : State) (a1 : LeaseMsg) (a2 : Nat)  : (State.ackLease s a1 a2).rest W = s.rest W := by
  unfold State.ackLease
  simp only [State.sendLease_rest, rest_next, ite_self, implies_true, State.each_rest, State.on_rest, apply_ite (State.rest _), apply_ite (Res.rest _), apply_ite Prod.fst, apply_ite Prod.snd]

@[simp] theorem State.setLink_rest {W : Touch} [W.Pair] [W.In .sluice] (s : State) (a1 : Nat) (a2 : Nat)  : (State.setLink s a1 a2).rest W = s.rest W := by
  unfold State.setLink
  simp only [State.setTe_rest, rest_next, ite_self, implies_true, State.each_rest, State.on_rest, apply_ite (State.rest _), apply_ite (Res.rest _), apply_ite Prod.fst, apply_ite Prod.snd]

@[simp] theorem State.ackedFrame_rest {W : Touch} [W.Pair] [W.Mot] [W.In .sluice] (s : State) (a1 : DownFrame)  : (State.ackedFrame s a1).rest W = s.rest W := by
  unfold State.ackedFrame
  dsimp only
  (repeat' split) <;> simp only [State.setMotion_rest, State.setLink_rest, rest_next, implies_true, State.each_rest, State.on_rest]

@[simp] theorem State.activate_rest {W : Touch} [W.Pair] [W.In .motion] (s : State) (a1 : Nat)  : (State.activate s a1).rest W = s.rest W := by
  rw [State.activate.eq_def]
  grind [State.setMove_rest, rest_next]

@[simp] theorem State.writeFurrow_rest {W : Touch} [W.Pair] [W.Ls] [W.In .lease] [W.In .turnout] (s : State) (owner state flags xid ownGen : Nat) (l : List ReqStep) (foreign : ReqStep → Bool) :
    (s.writeFurrow owner state flags xid ownGen l foreign).1.rest W = s.rest W := by
  unfold State.writeFurrow
  dsimp only
  rw [State.leaseShow_rest, State.rechain_rest, State.each_rest _ _ _ fun t x => by rw [State.turnShow_rest, State.setTe_rest, State.setLe_rest]]
  refine (foldl_rest _ (fun (b : State × Nat) => b.1) _ (fun b x => ?_) _).trans (State.setLe_rest ..)
  dsimp only
  rw [State.setTe_rest, State.setLe_rest]

@[simp] theorem State.setXfer_rest {W : Touch} [W.Ls] (s : State) (a1 : Xfer)  : (State.setXfer s a1).rest W = s.rest W := by
  unfold State.setXfer
  simp only [State.rest_ls, rest_next, ite_self, implies_true, State.each_rest, State.on_rest, apply_ite (State.rest _), apply_ite (Res.rest _), apply_ite Prod.fst, apply_ite Prod.snd]

@[simp] theorem State.sendPrepare_rest {W : Touch} [W.Out] [W.Canal] [W.In .canal] (s : State) (a1 : Xfer) (a2 : Nat)  : (State.sendPrepare s a1 a2).rest W = s.rest W := by
  unfold State.sendPrepare
  simp only [State.sendLease_rest, rest_next, ite_self, implies_true, State.each_rest, State.on_rest, apply_ite (State.rest _), apply_ite (Res.rest _), apply_ite Prod.fst, apply_ite Prod.snd]

@[simp] theorem State.advance_rest {W : Touch} [W.Tags] [W.VecSent] [W.Fq] [W.Out] [W.Canal] [W.Held] [W.Pair] [W.Disp] [W.Ls] [W.In .canal] [W.In .core] [W.In .dispatch] [W.In .eth] [W.In .flume] [W.In .lease] [W.In .pcie] [W.In .turnout] (s : State) (xid n : Nat) : (s.advance xid n).rest W = s.rest W := by
  induction n generalizing s with
  | zero => rfl
  | succ n ih =>
    unfold State.advance
    split
    · rfl
    · split
      · rw [State.each_rest _ _ _ fun t z => State.sendLease_rest .., State.leSet_rest]
      · split
        · exact State.sendPrepare_rest ..
        · dsimp only
          split
          · exact State.abortXfer_rest ..
          · rw [ih, State.setXfer_rest, State.writeFurrow_rest, State.takeSeq_rest]

@[simp] theorem State.rebuildSets_rest {W : Touch} [W.Hg] (s : State) (a1 : Nat)  : (State.rebuildSets s a1).rest W = s.rest W := by
  unfold State.rebuildSets
  simp only [State.rest_hg, rest_next, ite_self, implies_true, State.each_rest, State.on_rest, apply_ite (State.rest _), apply_ite (Res.rest _), apply_ite Prod.fst, apply_ite Prod.snd]

@[simp] theorem State.advanceFcnt_rest {W : Touch} [W.Hg] [W.Air] (s : State)  : (State.advanceFcnt s).rest W = s.rest W := by
  unfold State.advanceFcnt
  simp only [State.rebuildSets_rest, State.rest_air, rest_next, ite_self, implies_true, State.each_rest, State.on_rest, apply_ite (State.rest _), apply_ite (Res.rest _), apply_ite Prod.fst, apply_ite Prod.snd]

@[simp] theorem State.graphShow_rest {W : Touch} [W.In .graph] (s : State)  : (State.graphShow s).rest W = s.rest W := by
  unfold State.graphShow
  simp only [State.set_rest, rest_next, ite_self, implies_true, State.each_rest, State.on_rest, apply_ite (State.rest _), apply_ite (Res.rest _), apply_ite Prod.fst, apply_ite Prod.snd]

@[simp] theorem State.turnSegs_rest {W : Touch} [W.Pair] [W.In .turnout] (s : State) (a1 : List Nat)  : (State.turnSegs s a1).rest W = s.rest W := by
  unfold State.turnSegs
  simp only [State.setTe_rest, rest_next, ite_self, implies_true, State.each_rest, State.on_rest, apply_ite (State.rest _), apply_ite (Res.rest _), apply_ite Prod.fst, apply_ite Prod.snd]

@[simp] theorem State.afterGraph_rest {W : Touch} [W.Pair] [W.In .graph] [W.In .turnout] (s : State) (a1 : List Nat)  : (State.afterGraph s a1).rest W = s.rest W := by
  unfold State.afterGraph
  simp only [State.graphShow_rest, State.turnSegs_rest, rest_next, ite_self, implies_true, State.each_rest, State.on_rest, apply_ite (State.rest _), apply_ite (Res.rest _), apply_ite Prod.fst, apply_ite Prod.snd]

@[simp] theorem State.pwrPin_rest {W : Touch} [W.Out] (s : State) (a1 : Nat)  : (State.pwrPin s a1).rest W = s.rest W := by
  unfold State.pwrPin
  simp only [State.emit_rest, rest_next, ite_self, implies_true, State.each_rest, State.on_rest, apply_ite (State.rest _), apply_ite (Res.rest _), apply_ite Prod.fst, apply_ite Prod.snd]

@[simp] theorem State.sysEvent_rest {W : Touch} [W.Log] (s : State) (a1 : Nat) (a2 : Page) (a3 : Nat) (a4 : Nat) (a5 : Nat)  : (State.sysEvent s a1 a2 a3 a4 a5).rest W = s.rest W := by
  have ⟨_, _, _, _, _⟩ := Touch.logIns W
  unfold State.sysEvent
  simp only [State.event_rest, rest_next, ite_self, implies_true, State.each_rest, State.on_rest, apply_ite (State.rest _), apply_ite (Res.rest _), apply_ite Prod.fst, apply_ite Prod.snd]

@[simp] theorem State.setActive_rest {W : Touch} [W.Log] [W.Gn] [W.In .gnssMeas] (s : State)  : (State.setActive s).rest W = s.rest W := by
  have ⟨_, _, _, _, _⟩ := Touch.logIns W
  unfold State.setActive
  simp only [State.set_rest, State.sysEvent_rest, State.rest_gn, rest_next, ite_self, implies_true, State.each_rest, State.on_rest, apply_ite (State.rest _), apply_ite (Res.rest _), apply_ite Prod.fst, apply_ite Prod.snd]

@[simp] theorem State.antTimes_rest {W : Touch} [W.Log] [W.Gn] [W.In .gnssMeas] (s : State)  : (State.antTimes s).rest W = s.rest W := by
  have ⟨_, _, _, _, _⟩ := Touch.logIns W
  unfold State.antTimes
  simp only [State.setActive_rest, State.rest_gn, rest_next, ite_self, implies_true, State.each_rest, State.on_rest, apply_ite (State.rest _), apply_ite (Res.rest _), apply_ite Prod.fst, apply_ite Prod.snd]

@[simp] theorem State.pwrSet_rest {W : Touch} [W.Log] [W.Gn] [W.In .gnssMeas] [W.In .gnssRf] (s : State) (a1 : Nat)  : (State.pwrSet s a1).rest W = s.rest W := by
  have ⟨_, _, _, _, _⟩ := Touch.logIns W
  unfold State.pwrSet
  simp only [State.pwrPin_rest, State.antTimes_rest, State.set_rest, rest_next, ite_self, implies_true, State.each_rest, State.on_rest, apply_ite (State.rest _), apply_ite (Res.rest _), apply_ite Prod.fst, apply_ite Prod.snd]

@[simp] theorem State.outsLow_rest {W : Touch} [W.Hg] [W.In .headgate] (s : State)  : (State.outsLow s).rest W = s.rest W := by
  unfold State.outsLow
  simp only [State.set_rest, State.rest_hg, rest_next, ite_self, implies_true, State.each_rest, State.on_rest, apply_ite (State.rest _), apply_ite (Res.rest _), apply_ite Prod.fst, apply_ite Prod.snd]

@[simp] theorem State.outsHigh_rest {W : Touch} [W.Hg] [W.In .headgate] (s : State)  : (State.outsHigh s).rest W = s.rest W := by
  unfold State.outsHigh
  simp only [State.set_rest, State.rest_hg, rest_next, ite_self, implies_true, State.each_rest, State.on_rest, apply_ite (State.rest _), apply_ite (Res.rest _), apply_ite Prod.fst, apply_ite Prod.snd]

@[simp] theorem State.outsCheck_rest {W : Touch} [W.Hg] [W.In .headgate] (s : State)  : (State.outsCheck s).rest W = s.rest W := by
  unfold State.outsCheck
  simp only [State.outsLow_rest, State.outsHigh_rest, rest_next, ite_self, implies_true, State.each_rest, State.on_rest, apply_ite (State.rest _), apply_ite (Res.rest _), apply_ite Prod.fst, apply_ite Prod.snd]

@[simp] theorem State.setPulse_rest {W : Touch} [W.Met] (s : State) (a1 : Nat) (a2 : PulseSt)  : (State.setPulse s a1 a2).rest W = s.rest W := by
  unfold State.setPulse
  simp only [State.rest_met, rest_next, ite_self, implies_true, State.each_rest, State.on_rest, apply_ite (State.rest _), apply_ite (Res.rest _), apply_ite Prod.fst, apply_ite Prod.snd]

@[simp] theorem State.afterStore_rest {W : Touch} [W.Log] [W.Hg] [W.Gn] [W.Disp] [W.Met] [W.In .core] [W.In .dispatch] [W.In .dram] [W.In .gnssMeas] [W.In .gnssRf] [W.In .headgate] (s : State) (a1 : RegWr)  : (State.afterStore s a1).rest W = s.rest W := by
  have ⟨_, _, _, _, _⟩ := Touch.logIns W
  unfold State.afterStore
  grind [State.assertSrc_rest, State.preempt_rest, State.drainBacklog_rest, State.pwrSet_rest, State.setActive_rest, State.set_rest, State.hostDrain_rest, State.extDrain_rest, State.outsCheck_rest, State.setPulse_rest, rest_next]

@[simp] theorem State.airEmit_rest {W : Touch} [W.Out] (s : State) (a1 : Nat) (a2 : Bool) (a3 : AirFrame)  : (State.airEmit s a1 a2 a3).rest W = s.rest W := by
  unfold State.airEmit
  simp only [State.emit_rest, rest_next, ite_self, implies_true, State.each_rest, State.on_rest, apply_ite (State.rest _), apply_ite (Res.rest _), apply_ite Prod.fst, apply_ite Prod.snd]

@[simp] theorem State.noticeCtr_rest {W : Touch} [W.Log] (s : State) (a1 : Page) (a2 : Ctr) (a3 : optParam Nat 0) (a4 : optParam Nat 0) (a5 : optParam Nat 0) (a6 : optParam Nat 255)  : (State.noticeCtr s a1 a2 a3 a4 a5 a6).rest W = s.rest W := by
  have ⟨_, _, _, _, _⟩ := Touch.logIns W
  unfold State.noticeCtr
  simp only [State.event_rest, rest_next, ite_self, implies_true, State.each_rest, State.on_rest, apply_ite (State.rest _), apply_ite (Res.rest _), apply_ite Prod.fst, apply_ite Prod.snd]

@[simp] theorem State.airItem_rest {W : Touch} [W.Log] [W.Disp] [W.In .core] [W.In .dispatch] (s : State) (i : DItem) : (s.airItem i).rest W = s.rest W := by
  have ⟨_, _, _, _, _⟩ := Touch.logIns W
  have h := State.offer_rest (W := W) s i
  unfold State.airItem
  generalize s.offer i = x at h
  obtain ⟨t, r⟩ := x
  replace h : t.rest W = s.rest W := h
  cases r with
  | refused => simp only [apply_ite (State.rest W), State.noticeCtr_rest, State.firstInSecond_rest, State.traceItem_rest, State.irq_rest, State.inc_rest, h, ite_self]
  | _ => exact h

@[simp] theorem State.obsLevelDrop_rest {W : Touch} [W.Rtk] [W.In .obsIn] [W.In .rtkCtrl] (s : State)  : (State.obsLevelDrop s).rest W = s.rest W := by
  unfold State.obsLevelDrop
  simp only [State.set_rest, State.inc_rest, State.rest_rtk, rest_next, ite_self, implies_true, State.each_rest, State.on_rest, apply_ite (State.rest _), apply_ite (Res.rest _), apply_ite Prod.fst, apply_ite Prod.snd]

@[simp] theorem State.regCounts_rest {W : Touch} [W.In .registry] (s : State)  : (State.regCounts s).rest W = s.rest W := by
  unfold State.regCounts
  simp only [State.set_rest, rest_next, ite_self, implies_true, State.each_rest, State.on_rest, apply_ite (State.rest _), apply_ite (Res.rest _), apply_ite Prod.fst, apply_ite Prod.snd]

@[simp] theorem State.holdMember_rest {W : Touch} [W.VecSent] [W.Fq] [W.Out] [W.Canal] [W.Pair] [W.Disp] [W.In .canal] [W.In .core] [W.In .dispatch] [W.In .eth] [W.In .flume] [W.In .pcie] [W.In .registry] (s : State) (a1 : Nat) (a2 : Nat)  : (State.holdMember s a1 a2).rest W = s.rest W := by
  unfold State.holdMember
  simp only [State.mset_rest, State.item_rest, State.inc_rest, rest_next, ite_self, implies_true, State.each_rest, State.on_rest, apply_ite (State.rest _), apply_ite (Res.rest _), apply_ite Prod.fst, apply_ite Prod.snd]

@[simp] theorem State.holdAll_rest {W : Touch} [W.VecSent] [W.Fq] [W.Out] [W.Canal] [W.Pair] [W.Disp] [W.In .canal] [W.In .core] [W.In .dispatch] [W.In .eth] [W.In .flume] [W.In .pcie] [W.In .registry] (s : State) (a1 : Nat)  : (State.holdAll s a1).rest W = s.rest W := by
  unfold State.holdAll
  simp only [State.holdMember_rest, rest_next, ite_self, implies_true, State.each_rest, State.on_rest, apply_ite (State.rest _), apply_ite (Res.rest _), apply_ite Prod.fst, apply_ite Prod.snd]

@[simp] theorem State.disarm_rest {W : Touch} [W.Hg] [W.In .headgate] (s : State) (a1 : Nat)  : (State.disarm s a1).rest W = s.rest W := by
  unfold State.disarm
  simp only [State.set_rest, State.rest_hg, rest_next, ite_self, implies_true, State.each_rest, State.on_rest, apply_ite (State.rest _), apply_ite (Res.rest _), apply_ite Prod.fst, apply_ite Prod.snd]

@[simp] theorem State.startBursts_rest {W : Touch} [W.Hg] [W.In .headgate] (s : State) (a1 : Nat)  : (State.startBursts s a1).rest W = s.rest W := by
  unfold State.startBursts
  simp only [State.set_rest, State.rest_hg, rest_next, ite_self, implies_true, State.each_rest, State.on_rest, apply_ite (State.rest _), apply_ite (Res.rest _), apply_ite Prod.fst, apply_ite Prod.snd]

@[simp] theorem State.canalBroadcast_rest {W : Touch} [W.Out] [W.Canal] [W.In .canal] (s : State) (a1 : CanalBody)  : (State.canalBroadcast s a1).rest W = s.rest W := by
  unfold State.canalBroadcast
  simp only [State.takeMseq_rest, State.canalOut_rest, rest_next, ite_self, implies_true, State.each_rest, State.on_rest, apply_ite (State.rest _), apply_ite (Res.rest _), apply_ite Prod.fst, apply_ite Prod.snd]

@[simp] theorem State.pairSend_rest {W : Touch} [W.Out] [W.Canal] [W.In .canal] (s : State) (a1 : PairMsg)  : (State.pairSend s a1).rest W = s.rest W := by
  unfold State.pairSend
  dsimp only
  (repeat' split) <;> simp only [State.takeMseq_rest, State.canalOut_rest, State.inc_rest, rest_next, implies_true, State.each_rest, State.on_rest]

@[simp] theorem State.sendStopState_rest {W : Touch} [W.Out] [W.Canal] [W.In .canal] (s : State) (a1 : Nat) (a2 : Nat)  : (State.sendStopState s a1 a2).rest W = s.rest W := by
  unfold State.sendStopState
  simp only [State.pairSend_rest, rest_next, ite_self, implies_true, State.each_rest, State.on_rest, apply_ite (State.rest _), apply_ite (Res.rest _), apply_ite Prod.fst, apply_ite Prod.snd]

@[simp] theorem State.raiseCause_rest {W : Touch} [W.Log] [W.Hg] [W.In .headgate] (s : State) (a1 : Nat) (a2 : Nat)  : (State.raiseCause s a1 a2).rest W = s.rest W := by
  have ⟨_, _, _, _, _⟩ := Touch.logIns W
  unfold State.raiseCause
  simp only [State.set_rest, State.disarm_rest, State.startBursts_rest, State.outsCheck_rest, State.inc_rest, State.irq_rest, State.canalBroadcast_rest, State.sysEvent_rest, State.sendStopState_rest, State.rest_hg, rest_next, ite_self, implies_true, State.each_rest, State.on_rest, apply_ite (State.rest _), apply_ite (Res.rest _), apply_ite Prod.fst, apply_ite Prod.snd]

@[simp] theorem State.announce_rest {W : Touch} [W.Log] [W.Hg] [W.Pair] [W.Disp] [W.Rtk] [W.In .core] [W.In .dispatch] [W.In .fault] [W.In .headgate] [W.In .obsIn] [W.In .registry] [W.In .rtkCtrl] (s : State) (a1 : Nat)  : (State.announce s a1).rest W = s.rest W := by
  have ⟨_, _, _, _, _⟩ := Touch.logIns W
  unfold State.announce
  simp only [State.set_rest, State.sysEvent_rest, State.irq_rest, State.inc_rest, State.obsLevelDrop_rest, State.regCounts_rest, State.holdAll_rest, State.raiseCause_rest, rest_next, ite_self, implies_true, State.each_rest, State.on_rest, apply_ite (State.rest _), apply_ite (Res.rest _), apply_ite Prod.fst, apply_ite Prod.snd]

@[simp] theorem State.queueRecord_rest {W : Touch} [W.Air] (s : State) (a1 : Nat) (a2 : Nat) (a3 : List Nat) (a4 : DownFrame → DownFrame)  : (State.queueRecord s a1 a2 a3 a4).rest W = s.rest W := by
  unfold State.queueRecord
  simp only [State.queueFrame_rest, rest_next, ite_self, implies_true, State.each_rest, State.on_rest, apply_ite (State.rest _), apply_ite (Res.rest _), apply_ite Prod.fst, apply_ite Prod.snd]

@[simp] theorem State.announceBank_rest {W : Touch} [W.Air] [W.Pair] [W.In .sluice] (s : State) (a1 : Nat)  : (State.announceBank s a1).rest W = s.rest W := by
  unfold State.announceBank
  simp only [State.setLink_rest, State.queueRecord_rest, rest_next, ite_self, implies_true, State.each_rest, State.on_rest, apply_ite (State.rest _), apply_ite (Res.rest _), apply_ite Prod.fst, apply_ite Prod.snd]

@[simp] theorem State.announceTx_rest {W : Touch} [W.Out] (s : State) (a1 : Nat) (a2 : Nat)  : (State.announceTx s a1 a2).rest W = s.rest W := by
  unfold State.announceTx
  simp only [State.emit_rest, rest_next, ite_self, implies_true, State.each_rest, State.on_rest, apply_ite (State.rest _), apply_ite (Res.rest _), apply_ite Prod.fst, apply_ite Prod.snd]

@[simp] theorem State.applyBase_rest {W : Touch} [W.Log] [W.Gn] [∀ b, W.In b] (s : State) (a1 : List (Nat × Nat))  : (State.applyBase s a1).rest W = s.rest W := by
  unfold State.applyBase
  simp only [State.set_rest, State.setReg_rest, State.setActive_rest, State.setReg_adr_rest, State.setReg_fld_rest, State.setReg_sts_rest, State.setReg_cmd_rest, State.rest_gn, rest_next, ite_self, implies_true, State.each_rest, State.on_rest, apply_ite (State.rest _), apply_ite (Res.rest _), apply_ite Prod.fst, apply_ite Prod.snd]

@[simp] theorem State.applyImage_rest {W : Touch} [W.Air] [∀ b, W.In b] (s : State) (a1 : Image)  : (State.applyImage s a1).rest W = s.rest W := by
  unfold State.applyImage
  (repeat' split) <;> simp only [State.set_rest, State.rest_tblset, State.rest_tbldel, State.rest_tblclr, State.rest_air, State.rest_tbl, rest_next, implies_true, State.each_rest, State.on_rest]

@[simp] theorem State.applyContent_rest {W : Touch} [W.Air] [W.Ls] [W.Mot] [∀ b, W.In b] (s : State) (a1 : List Image) (a2 : List (Nat × MotSt))  : (State.applyContent s a1 a2).rest W = s.rest W := by
  unfold State.applyContent
  simp only [State.applyImage_rest, State.setMotion_rest, State.rest_tblset, State.rest_tbldel, State.rest_tblclr, State.rest_tbl_ls_mot, rest_next, ite_self, implies_true, State.each_rest, State.on_rest, apply_ite (State.rest _), apply_ite (Res.rest _), apply_ite Prod.fst, apply_ite Prod.snd]

@[simp] theorem State.applyDec_rest {W : Touch} [W.Pair] [W.Mot] [W.In .motion] (s : State) (a1 : Nat)  : (State.applyDec s a1).rest W = s.rest W := by
  unfold State.applyDec
  dsimp only
  (repeat' split) <;> simp only [State.setMotion_rest, State.setMove_rest, rest_next, implies_true, State.each_rest, State.on_rest]

@[simp] theorem State.storeFields_rest {W : Touch} [∀ b, W.In b] (s : State) (a1 : RegWr) (a2 : List FldDef)  : (State.storeFields s a1 a2).rest W = s.rest W := by
  unfold State.storeFields
  simp only [State.setReg_rest, State.setReg_adr_rest, State.setReg_fld_rest, State.setReg_sts_rest, State.setReg_cmd_rest, rest_next, ite_self, implies_true, State.each_rest, State.on_rest, apply_ite (State.rest _), apply_ite (Res.rest _), apply_ite Prod.fst, apply_ite Prod.snd]

@[simp] theorem State.vecAck_rest {W : Touch} [W.VecSent] [W.Out] [W.In .pcie] (s : State) (a1 : Nat)  : (State.vecAck s a1).rest W = s.rest W := by
  unfold State.vecAck
  simp only [State.sendVec_rest, State.rest_vecSent, rest_next, ite_self, implies_true, State.each_rest, State.on_rest, apply_ite (State.rest _), apply_ite (Res.rest _), apply_ite Prod.fst, apply_ite Prod.snd]

@[simp] theorem Res.state_rest {W : Touch}  (s : State) (r : Res) (h : Res.rest W r = some (s.rest W)) : (Res.state s r).rest W = s.rest W := by
  cases r with
  | next t => exact Option.some.inj h
  | fault _ => rfl
  | refused _ => rfl

@[simp] theorem State.doit_rest {W : Touch}  (s : State) (c : Bool) (f : State → Res) (h : ∀ t, Res.rest W (f t) = some (t.rest W)) :
    (s.doit c f).rest W = s.rest W := by
  unfold State.doit
  cases c with
  | true => exact Res.state_rest s _ (h s)
  | false => rfl

@[simp] theorem State.switchCount_rest {W : Touch} [W.In .clock] (s : State)  : (State.switchCount s).rest W = s.rest W := by
  unfold State.switchCount
  simp only [State.set_rest, rest_next, ite_self, implies_true, State.each_rest, State.on_rest, apply_ite (State.rest _), apply_ite (Res.rest _), apply_ite Prod.fst, apply_ite Prod.snd]

@[simp] theorem State.setPort_rest {W : Touch} [W.Air] (s : State) (a1 : Nat) (a2 : PortSt)  : (State.setPort s a1 a2).rest W = s.rest W := by
  unfold State.setPort
  simp only [State.rest_air, rest_next, ite_self, implies_true, State.each_rest, State.on_rest, apply_ite (State.rest _), apply_ite (Res.rest _), apply_ite Prod.fst, apply_ite Prod.snd]

@[simp] theorem State.gateClocks_rest {W : Touch} [W.Air] [W.Clk] [W.In .clock] (s : State) (a1 : Bool) (a2 : Bool)  : (State.gateClocks s a1 a2).rest W = s.rest W := by
  unfold State.gateClocks
  simp only [State.set_rest, State.setPort_rest, State.rest_clk, rest_next, ite_self, implies_true, State.each_rest, State.on_rest, apply_ite (State.rest _), apply_ite (Res.rest _), apply_ite Prod.fst, apply_ite Prod.snd]

@[simp] theorem State.switchRoot_rest {W : Touch} [W.Air] [W.Clk] [W.In .clock] (s : State) (a1 : Bool)  : (State.switchRoot s a1).rest W = s.rest W := by
  unfold State.switchRoot
  simp only [State.switchCount_rest, State.gateClocks_rest, rest_next, ite_self, implies_true, State.each_rest, State.on_rest, apply_ite (State.rest _), apply_ite (Res.rest _), apply_ite Prod.fst, apply_ite Prod.snd]

@[simp] theorem State.disarmReturn_rest {W : Touch} [W.In .clock] (s : State) (a1 : Bool)  : (State.disarmReturn s a1).rest W = s.rest W := by
  unfold State.disarmReturn
  simp only [State.set_rest, rest_next, ite_self, implies_true, State.each_rest, State.on_rest, apply_ite (State.rest _), apply_ite (Res.rest _), apply_ite Prod.fst, apply_ite Prod.snd]

@[simp] theorem State.rootReturn_rest {W : Touch} [W.Air] [W.Clk] [W.In .clock] (s : State)  : (State.rootReturn s).rest W = s.rest W := by
  unfold State.rootReturn
  simp only [State.switchRoot_rest, State.disarmReturn_rest, rest_next, ite_self, implies_true, State.each_rest, State.on_rest, apply_ite (State.rest _), apply_ite (Res.rest _), apply_ite Prod.fst, apply_ite Prod.snd]

@[simp] theorem execReturnReq_rest {W : Touch} [W.Air] [W.Clk] [W.In .clock] (s : State)  : Res.rest W (execReturnReq s) = some (s.rest W) := by
  unfold execReturnReq
  simp only [State.set_rest, State.rootReturn_rest, State.rest_clk, rest_next, ite_self, implies_true, State.each_rest, State.on_rest, apply_ite (State.rest _), apply_ite (Res.rest _), apply_ite Prod.fst, apply_ite Prod.snd]

@[simp] theorem State.surveyStart_rest {W : Touch} [W.Gn] [W.In .gnssMeas] (s : State)  : (State.surveyStart s).rest W = s.rest W := by
  unfold State.surveyStart
  simp only [State.set_rest, State.rest_gn, rest_next, ite_self, implies_true, State.each_rest, State.on_rest, apply_ite (State.rest _), apply_ite (Res.rest _), apply_ite Prod.fst, apply_ite Prod.snd]

@[simp] theorem State.refuseCfg_rest {W : Touch} [W.In .canal] (s : State) (a1 : Page) [W.In a1.blk] : (State.refuseCfg s a1).rest W = s.rest W := by
  unfold State.refuseCfg
  (repeat' split) <;> simp only [State.incP_rest, rest_next, implies_true, State.each_rest, State.on_rest]

@[simp] theorem execSpiTxnGo_rest {W : Touch} [W.Air] [W.In .airport] [W.In .canal] (a0 : Nat) (a1 : Nat) (s : State)  : Res.rest W (execSpiTxnGo a0 a1 s) = some (s.rest W) := by
  unfold execSpiTxnGo
  simp only [State.refuseCfg_rest, State.set_rest, State.setPort_rest, rest_next, ite_self, implies_true, State.each_rest, State.on_rest, apply_ite (State.rest _), apply_ite (Res.rest _), apply_ite Prod.fst, apply_ite Prod.snd]

@[simp] theorem State.newPeriod_rest {W : Touch} [W.Air] (s : State) (a1 : Nat)  : (State.newPeriod s a1).rest W = s.rest W := by
  unfold State.newPeriod
  simp only [State.rest_air, rest_next, ite_self, implies_true, State.each_rest, State.on_rest, apply_ite (State.rest _), apply_ite (Res.rest _), apply_ite Prod.fst, apply_ite Prod.snd]

@[simp] theorem State.setSvc_rest {W : Touch} [W.VecSent] [W.Out] [W.Air] [W.In .airport] [W.In .pcie] (s : State) (a1 : Nat) (a2 : Nat)  : (State.setSvc s a1 a2).rest W = s.rest W := by
  unfold State.setSvc
  simp only [State.newPeriod_rest, State.irq_rest, State.set_rest, rest_next, ite_self, implies_true, State.each_rest, State.on_rest, apply_ite (State.rest _), apply_ite (Res.rest _), apply_ite Prod.fst, apply_ite Prod.snd]

@[simp] theorem State.svcStart_rest {W : Touch} [W.VecSent] [W.Out] [W.Air] [W.In .airport] [W.In .pcie] [W.In .sluice] (s : State) (a1 : Nat)  : (State.svcStart s a1).rest W = s.rest W := by
  unfold State.svcStart
  simp only [State.setPort_rest, State.set_rest, State.setSvc_rest, rest_next, ite_self, implies_true, State.each_rest, State.on_rest, apply_ite (State.rest _), apply_ite (Res.rest _), apply_ite Prod.fst, apply_ite Prod.snd]

@[simp] theorem execFaultClr_rest {W : Touch} [W.VecSent] [W.Out] [W.Air] [W.In .airport] [W.In .canal] [W.In .pcie] [W.In .sluice] (a0 : Nat) (s : State)  : Res.rest W (execFaultClr a0 s) = some (s.rest W) := by
  unfold execFaultClr
  simp only [State.svcStart_rest, State.refuseCfg_rest, rest_next, ite_self, implies_true, State.each_rest, State.on_rest, apply_ite (State.rest _), apply_ite (Res.rest _), apply_ite Prod.fst, apply_ite Prod.snd]

@[simp] theorem State.linkShow_rest {W : Touch} [W.Pair] [W.In .registry] (s : State) (a1 : Nat)  : (State.linkShow s a1).rest W = s.rest W := by
  unfold State.linkShow
  grind [State.mset_rest, rest_next]

@[simp] theorem State.portInfo_rest {W : Touch} [W.In .sluice] (s : State) (a1 : Nat)  : (State.portInfo s a1).rest W = s.rest W := by
  unfold State.portInfo
  simp only [State.set_rest, rest_next, ite_self, implies_true, State.each_rest, State.on_rest, apply_ite (State.rest _), apply_ite (Res.rest _), apply_ite Prod.fst, apply_ite Prod.snd]

@[simp] theorem State.swapBank_rest {W : Touch} [W.VecSent] [W.Out] [W.Air] [W.Pair] [W.In .pcie] [W.In .registry] [W.In .sluice] (s : State) (a1 : Nat)  : (State.swapBank s a1).rest W = s.rest W := by
  unfold State.swapBank
  simp only [State.set_rest, State.irq_rest, State.setPort_rest, State.linkShow_rest, State.portInfo_rest, rest_next, ite_self, implies_true, State.each_rest, State.on_rest, apply_ite (State.rest _), apply_ite (Res.rest _), apply_ite Prod.fst, apply_ite Prod.snd]

@[simp] theorem execBankArm_rest {W : Touch} [W.VecSent] [W.Out] [W.Air] [W.Pair] [W.In .pcie] [W.In .registry] [W.In .sluice] (a0 : Nat) (s : State)  : Res.rest W (execBankArm a0 s) = some (s.rest W) := by
  unfold execBankArm
  dsimp only
  (repeat' split) <;> simp only [State.irq_rest, State.set_rest, State.newPeriod_rest, State.swapBank_rest, State.announceBank_rest, rest_next, implies_true, State.each_rest, State.on_rest]

@[simp] theorem State.cancelBank_rest {W : Touch} [W.Air] [W.Pair] [W.In .sluice] (s : State) (a1 : Nat)  : (State.cancelBank s a1).rest W = s.rest W := by
  unfold State.cancelBank
  simp only [State.set_rest, State.setLink_rest, State.rest_air, rest_next, ite_self, implies_true, State.each_rest, State.on_rest, apply_ite (State.rest _), apply_ite (Res.rest _), apply_ite Prod.fst, apply_ite Prod.snd]

@[simp] theorem execBankCancel_rest {W : Touch} [W.Air] [W.Pair] [W.In .sluice] (a0 : Nat) (s : State)  : Res.rest W (execBankCancel a0 s) = some (s.rest W) := by
  unfold execBankCancel
  simp only [State.cancelBank_rest, rest_next, ite_self, implies_true, State.each_rest, State.on_rest, apply_ite (State.rest _), apply_ite (Res.rest _), apply_ite Prod.fst, apply_ite Prod.snd]

@[simp] theorem State.lostClr_rest {W : Touch} [W.In .lease] (s : State) (a1 : Src)  : (State.lostClr s a1).rest W = s.rest W := by
  unfold State.lostClr
  simp only [State.set_rest, rest_next, ite_self, implies_true, State.each_rest, State.on_rest, apply_ite (State.rest _), apply_ite (Res.rest _), apply_ite Prod.fst, apply_ite Prod.snd]

@[simp] theorem State.wantCredit_rest {W : Touch} [W.Lk] (s : State) (a1 : Nat)  : (State.wantCredit s a1).rest W = s.rest W := by
  unfold State.wantCredit
  simp only [State.rest_lk, rest_next, ite_self, implies_true, State.each_rest, State.on_rest, apply_ite (State.rest _), apply_ite (Res.rest _), apply_ite Prod.fst, apply_ite Prod.snd]

@[simp] theorem State.newSession_rest {W : Touch} [W.Fq] [W.Lk] [W.In .flume] (s : State)  : (State.newSession s).rest W = s.rest W := by
  unfold State.newSession
  simp only [State.wantCredit_rest, State.set_rest, State.rest_fq_lk, rest_next, ite_self, implies_true, State.each_rest, State.on_rest, apply_ite (State.rest _), apply_ite (Res.rest _), apply_ite Prod.fst, apply_ite Prod.snd]

@[simp] theorem State.setArb_rest {W : Touch} [W.Arb] (s : State) (a1 : Nat) (a2 : ArbSt)  : (State.setArb s a1 a2).rest W = s.rest W := by
  unfold State.setArb
  simp only [State.rest_arb, rest_next, ite_self, implies_true, State.each_rest, State.on_rest, apply_ite (State.rest _), apply_ite (Res.rest _), apply_ite Prod.fst, apply_ite Prod.snd]

@[simp] theorem State.arbShow_rest {W : Touch} [W.VecSent] [W.Out] [W.In .pcie] [W.In .regionCtl] (s : State) (a1 : Nat)  : (State.arbShow s a1).rest W = s.rest W := by
  unfold State.arbShow
  dsimp only
  (repeat' split) <;> simp only [State.set_rest, State.irq_rest, rest_next, implies_true, State.each_rest, State.on_rest]

@[simp] theorem State.setCtrAt_rest {W : Touch} [∀ b, W.In b] (s : State) (a v : Nat) : (s.setCtrAt a v).rest W = s.rest W := State.rest_ctrs s _

@[simp] theorem State.arbGrant_rest {W : Touch} [W.Arb] [W.In .regionCtl] (s : State) (a1 : Nat) (a2 : Nat) (a3 : Nat) (a4 : ArbReq)  : (State.arbGrant s a1 a2 a3 a4).rest W = s.rest W := by
  unfold State.arbGrant
  simp only [State.setCtrAt_rest, State.incAt_rest, State.setArb_rest, State.incAt_adr_rest, State.incAt_arb_rest, State.setCtrAt_arb_rest, rest_next, ite_self, implies_true, State.each_rest, State.on_rest, apply_ite (State.rest _), apply_ite (Res.rest _), apply_ite Prod.fst, apply_ite Prod.snd]

@[simp] theorem State.arbDecide_rest {W : Touch} [W.VecSent] [W.Out] [W.Arb] [W.In .pcie] [W.In .regionCtl] (s : State) (a1 : Nat) (a2 : Nat)  : (State.arbDecide s a1 a2).rest W = s.rest W := by
  unfold State.arbDecide
  dsimp only
  (repeat' split) <;> simp only [State.arbShow_rest, State.setArb_rest, State.arbGrant_rest, rest_next, implies_true, State.each_rest, State.on_rest]

@[simp] theorem State.arbThaw_rest {W : Touch} [W.VecSent] [W.Out] [W.Arb] [W.In .pcie] [W.In .regionCtl] (s : State) (a1 : Nat)  : (State.arbThaw s a1).rest W = s.rest W := by
  unfold State.arbThaw
  simp only [State.set_rest, State.setArb_rest, State.arbShow_rest, State.arbDecide_rest, rest_next, ite_self, implies_true, State.each_rest, State.on_rest, apply_ite (State.rest _), apply_ite (Res.rest _), apply_ite Prod.fst, apply_ite Prod.snd]

@[simp] theorem State.hostBump_rest {W : Touch} [W.Log] [W.Tags] [W.Held] [W.Arb] [W.Lk] [W.Pair] [W.Disp] [W.Ls] [W.Mot] [∀ b, W.In b] (s : State)  : (State.hostBump s).rest W = s.rest W := by
  unfold State.hostBump
  simp only [State.newSession_rest, State.bump_rest, State.arbThaw_rest, rest_next, ite_self, implies_true, State.each_rest, State.on_rest, apply_ite (State.rest _), apply_ite (Res.rest _), apply_ite Prod.fst, apply_ite Prod.snd]

@[simp] theorem execStopReq_rest {W : Touch} [W.Log] [W.Hg] [W.In .headgate] (a0 : Src) (a1 : Nat) (s : State)  : Res.rest W (execStopReq a0 a1 s) = some (s.rest W) := by
  have ⟨_, _, _, _, _⟩ := Touch.logIns W
  unfold execStopReq
  simp only [State.raiseCause_rest, rest_next, ite_self, implies_true, State.each_rest, State.on_rest, apply_ite (State.rest _), apply_ite (Res.rest _), apply_ite Prod.fst, apply_ite Prod.snd]

@[simp] theorem State.arbSettle_rest {W : Touch} [W.VecSent] [W.Out] [W.Arb] [W.In .pcie] [W.In .regionCtl] (s : State) (a1 : Nat)  : (State.arbSettle s a1).rest W = s.rest W := by
  unfold State.arbSettle
  (repeat' split) <;> simp only [State.arbDecide_rest, rest_next, implies_true, State.each_rest, State.on_rest]

@[simp] theorem State.freezeWrite_rest {W : Touch} [W.VecSent] [W.Out] [W.Arb] [W.In .pcie] [W.In .regionCtl] (s : State) (a1 : Nat) (a2 : Src) (a3 : Bool)  : (State.freezeWrite s a1 a2 a3).rest W = s.rest W := by
  unfold State.freezeWrite
  simp only [State.set_rest, State.arbSettle_rest, State.arbShow_rest, State.setArb_rest, State.arbThaw_rest, rest_next, ite_self, implies_true, State.each_rest, State.on_rest, apply_ite (State.rest _), apply_ite (Res.rest _), apply_ite Prod.fst, apply_ite Prod.snd]

@[simp] theorem State.lwClr_rest {W : Touch} [W.Arb] (s : State) (a1 : Nat) (a2 : Nat)  : (State.lwClr s a1 a2).rest W = s.rest W := by
  unfold State.lwClr
  simp only [State.setArb_rest, rest_next, ite_self, implies_true, State.each_rest, State.on_rest, apply_ite (State.rest _), apply_ite (Res.rest _), apply_ite Prod.fst, apply_ite Prod.snd]

@[simp] theorem State.qevClr_rest {W : Touch} [W.Fq] (s : State) (a1 : Nat)  : (State.qevClr s a1).rest W = s.rest W := by
  unfold State.qevClr
  simp only [State.setQ_rest, rest_next, ite_self, implies_true, State.each_rest, State.on_rest, apply_ite (State.rest _), apply_ite (Res.rest _), apply_ite Prod.fst, apply_ite Prod.snd]

@[simp] theorem State.kick_rest {W : Touch} [W.Pair] (s : State)  : (State.kick s).rest W = s.rest W := by
  unfold State.kick
  simp only [State.rest_pair, rest_next, ite_self, implies_true, State.each_rest, State.on_rest, apply_ite (State.rest _), apply_ite (Res.rest _), apply_ite Prod.fst, apply_ite Prod.snd]

@[simp] theorem execPairKick_rest {W : Touch} [W.Pair] (s : State)  : Res.rest W (execPairKick s) = some (s.rest W) := by
  unfold execPairKick
  simp only [State.kick_rest, rest_next, ite_self, implies_true, State.each_rest, State.on_rest, apply_ite (State.rest _), apply_ite (Res.rest _), apply_ite Prod.fst, apply_ite Prod.snd]

@[simp] theorem State.readyShow_rest {W : Touch} [W.Pair] [W.In .pair] (s : State)  : (State.readyShow s).rest W = s.rest W := by
  unfold State.readyShow
  simp only [State.set_rest, State.rest_pair, rest_next, ite_self, implies_true, State.each_rest, State.on_rest, apply_ite (State.rest _), apply_ite (Res.rest _), apply_ite Prod.fst, apply_ite Prod.snd]

@[simp] theorem State.setP_rest {W : Touch}  (s : State) (p : Page) (F : Fld) (v : Nat) [W.In p.blk] : (s.setP p F v).rest W = s.rest W :=
  State.setReg_adr_rest s p _ _

@[simp] theorem State.arbDrop_rest {W : Touch} [W.VecSent] [W.Out] [W.Arb] [W.In .pcie] [W.In .regionCtl] (s : State) (a1 : Page)  : (State.arbDrop s a1).rest W = s.rest W := by
  unfold State.arbDrop
  simp only [State.arbShow_rest, State.setArb_rest, rest_next, ite_self, implies_true, State.each_rest, State.on_rest, apply_ite (State.rest _), apply_ite (Res.rest _), apply_ite Prod.fst, apply_ite Prod.snd]

@[simp] theorem State.regionCheck_rest {W : Touch} [W.In .fault] (s : State) (a1 : Nat)  : (State.regionCheck s a1).rest W = s.rest W := by
  unfold State.regionCheck
  simp only [State.set_rest, rest_next, ite_self, implies_true, State.each_rest, State.on_rest, apply_ite (State.rest _), apply_ite (Res.rest _), apply_ite Prod.fst, apply_ite Prod.snd]

@[simp] theorem State.dropBurst_rest {W : Touch} [W.Hg] [W.In .airport] [W.In .headgate] (s : State) (a1 : Nat)  : (State.dropBurst s a1).rest W = s.rest W := by
  unfold State.dropBurst
  simp only [State.set_rest, State.rest_hg, rest_next, ite_self, implies_true, State.each_rest, State.on_rest, apply_ite (State.rest _), apply_ite (Res.rest _), apply_ite Prod.fst, apply_ite Prod.snd]

@[simp] theorem State.portDown_rest {W : Touch} [W.Out] [W.Hg] [W.Air] [W.In .airport] [W.In .headgate] (s : State) (a1 : Nat)  : (State.portDown s a1).rest W = s.rest W := by
  unfold State.portDown
  simp only [State.setPort_rest, State.emit_rest, State.set_rest, State.dropBurst_rest, rest_next, ite_self, implies_true, State.each_rest, State.on_rest, apply_ite (State.rest _), apply_ite (Res.rest _), apply_ite Prod.fst, apply_ite Prod.snd]

@[simp] theorem State.setBlocker_rest {W : Touch} [W.In .fault] (s : State)  : (State.setBlocker s).rest W = s.rest W := by
  unfold State.setBlocker
  (repeat' split) <;> simp only [State.setReg_rest, State.setReg_adr_rest, State.setReg_fld_rest, State.setReg_sts_rest, State.setReg_cmd_rest, rest_next, implies_true, State.each_rest, State.on_rest]

@[simp] theorem State.armCheck_rest {W : Touch} [W.Hg] [W.In .headgate] (s : State)  : (State.armCheck s).rest W = s.rest W := by
  unfold State.armCheck
  simp only [State.disarm_rest, rest_next, ite_self, implies_true, State.each_rest, State.on_rest, apply_ite (State.rest _), apply_ite (Res.rest _), apply_ite Prod.fst, apply_ite Prod.snd]

@[simp] theorem State.recompute_rest {W : Touch} [W.Level] (s : State)  : (State.recompute s).rest W = s.rest W := by
  have ⟨_, _, _, _, _, _, _, _, _, _, _, _⟩ := Touch.levelIns W
  unfold State.recompute
  simp only [State.setBlocker_rest, State.set_rest, State.announce_rest, State.armCheck_rest, State.rest_flt, rest_next, ite_self, implies_true, State.each_rest, State.on_rest, apply_ite (State.rest _), apply_ite (Res.rest _), apply_ite Prod.fst, apply_ite Prod.snd]

@[simp] theorem State.goState_rest {W : Touch} [W.Level] [W.Air] [W.Arb] [W.In .airport] [W.In .regionCtl] (s : State) (a1 : Page) (a2 : Nat) [W.In a1.blk] : (State.goState s a1 a2).rest W = s.rest W := by
  have ⟨_, _, _, _, _, _, _, _, _, _, _, _⟩ := Touch.levelIns W
  unfold State.goState
  simp only [State.setP_rest, State.irq_rest, State.arbDrop_rest, State.regionCheck_rest, State.portDown_rest, State.recompute_rest, State.rest_pair, rest_next, ite_self, implies_true, State.each_rest, State.on_rest, apply_ite (State.rest _), apply_ite (Res.rest _), apply_ite Prod.fst, apply_ite Prod.snd]

@[simp] theorem State.portStart_rest {W : Touch} [W.Out] [W.Air] [W.In .airport] (s : State) (a1 : Nat)  : (State.portStart s a1).rest W = s.rest W := by
  unfold State.portStart
  simp only [State.setPort_rest, State.emit_rest, State.set_rest, rest_next, ite_self, implies_true, State.each_rest, State.on_rest, apply_ite (State.rest _), apply_ite (Res.rest _), apply_ite Prod.fst, apply_ite Prod.snd]

@[simp] theorem State.stateCompare_rest {W : Touch} [W.Fresh] [W.In .headgate] (s : State) (a1 : Nat)  : (State.stateCompare s a1).rest W = s.rest W := by
  unfold State.stateCompare
  simp only [State.free_rest, State.set_rest, rest_next, ite_self, implies_true, State.each_rest, State.on_rest, apply_ite (State.rest _), apply_ite (Res.rest _), apply_ite Prod.fst, apply_ite Prod.snd]

@[simp] theorem State.gateShow_rest {W : Touch} [W.In .pair] (s : State)  : (State.gateShow s).rest W = s.rest W := by
  unfold State.gateShow
  simp only [State.set_rest, rest_next, ite_self, implies_true, State.each_rest, State.on_rest, apply_ite (State.rest _), apply_ite (Res.rest _), apply_ite Prod.fst, apply_ite Prod.snd]

@[simp] theorem State.unclaim_rest {W : Touch} [W.Out] [W.Pair] [W.In .pair] (s : State)  : (State.unclaim s).rest W = s.rest W := by
  unfold State.unclaim
  simp only [State.gateShow_rest, State.emit_rest, State.set_rest, State.rest_pair, rest_next, ite_self, implies_true, State.each_rest, State.on_rest, apply_ite (State.rest _), apply_ite (Res.rest _), apply_ite Prod.fst, apply_ite Prod.snd]

@[simp] theorem State.switchEnds_rest {W : Touch} [W.Log] [W.In .pair] (s : State) (a1 : Nat)  : (State.switchEnds s a1).rest W = s.rest W := by
  have ⟨_, _, _, _, _⟩ := Touch.logIns W
  unfold State.switchEnds
  simp only [State.sysEvent_rest, State.set_rest, rest_next, ite_self, implies_true, State.each_rest, State.on_rest, apply_ite (State.rest _), apply_ite (Res.rest _), apply_ite Prod.fst, apply_ite Prod.snd]

@[simp] theorem State.handOver_rest {W : Touch} [W.Log] [W.Pair] [W.In .fault] [W.In .pair] (s : State) (a1 : Nat)  : (State.handOver s a1).rest W = s.rest W := by
  have ⟨_, _, _, _, _⟩ := Touch.logIns W
  unfold State.handOver
  simp only [State.unclaim_rest, State.pairSend_rest, State.switchEnds_rest, State.inc_rest, State.set_rest, State.rest_pair, rest_next, ite_self, implies_true, State.each_rest, State.on_rest, apply_ite (State.rest _), apply_ite (Res.rest _), apply_ite Prod.fst, apply_ite Prod.snd]

@[simp] theorem State.gateFault_rest {W : Touch} [W.Log] [W.Hg] [W.Pair] [W.In .fault] [W.In .headgate] [W.In .pair] (s : State) (a1 : optParam Nat (evCode 0 I.HEADGATE_GATE_FAULT))  : (State.gateFault s a1).rest W = s.rest W := by
  have ⟨_, _, _, _, _⟩ := Touch.logIns W
  unfold State.gateFault
  simp only [State.irq_rest, State.set_rest, State.handOver_rest, State.outsLow_rest, State.raiseCause_rest, rest_next, ite_self, implies_true, State.each_rest, State.on_rest, apply_ite (State.rest _), apply_ite (Res.rest _), apply_ite Prod.fst, apply_ite Prod.snd]

@[simp] theorem State.errShow_rest {W : Touch}  (s : State) (a1 : Page) (a2 : Nat) (a3 : Nat) (a4 : Nat) [W.In a1.blk] : (State.errShow s a1 a2 a3 a4).rest W = s.rest W := by
  unfold State.errShow
  simp only [State.setReg_rest, State.setReg_adr_rest, State.setReg_fld_rest, State.setReg_sts_rest, State.setReg_cmd_rest, rest_next, ite_self, implies_true, State.each_rest, State.on_rest, apply_ite (State.rest _), apply_ite (Res.rest _), apply_ite Prod.fst, apply_ite Prod.snd]

@[simp] theorem State.setPage_rest {W : Touch}  (s : State) (p : Page) (v : PageSt) [W.In p.blk] : (s.setPage p v).rest W = s.rest W :=
  State.rest_pgset s p v

@[simp] theorem State.errReport_rest {W : Touch} [W.Log] [W.In .regionCtl] (s : State) (a1 : Page) (a2 : Nat) (a3 : Nat) (a4 : Nat) (a5 : Bool) (a6 : Nat) (a7 : Nat) (a8 : Nat) [W.In a1.blk] : (State.errReport s a1 a2 a3 a4 a5 a6 a7 a8).rest W = s.rest W := by
  have ⟨_, _, _, _, _⟩ := Touch.logIns W
  unfold State.errReport
  simp only [State.errShow_rest, State.incP_rest, State.setPage_rest, State.set_rest, State.event_rest, State.irq_rest, rest_next, ite_self, implies_true, State.each_rest, State.on_rest, apply_ite (State.rest _), apply_ite (Res.rest _), apply_ite Prod.fst, apply_ite Prod.snd]

@[simp] theorem State.enterFault_rest {W : Touch} [W.Level] [W.Air] [W.Arb] [W.In .airport] [W.In .regionCtl] (s : State) (a1 : Page) [W.In a1.blk] : (State.enterFault s a1).rest W = s.rest W := by
  have ⟨_, _, _, _, _, _, _, _, _, _, _, _⟩ := Touch.levelIns W
  unfold State.enterFault
  simp only [State.goState_rest, State.setPage_rest, rest_next, ite_self, implies_true, State.each_rest, State.on_rest, apply_ite (State.rest _), apply_ite (Res.rest _), apply_ite Prod.fst, apply_ite Prod.snd]

@[simp] theorem State.blockError_rest {W : Touch} [W.Level] [W.Fresh] [W.Air] [W.Arb] [W.In .airport] [W.In .pair] [W.In .regionCtl] (s : State) (a1 : Page) (a2 : Nat) (a3 : Nat) (a4 : Nat) (a5 : Nat) (a6 : Nat) (a7 : Nat) [W.In a1.blk] : (State.blockError s a1 a2 a3 a4 a5 a6 a7).rest W = s.rest W := by
  have ⟨_, _, _, _, _, _, _, _, _, _, _, _⟩ := Touch.levelIns W
  unfold State.blockError
  simp only [State.recompute_rest, State.stateCompare_rest, State.gateFault_rest, State.errReport_rest, State.enterFault_rest, rest_next, ite_self, implies_true, State.each_rest, State.on_rest, apply_ite (State.rest _), apply_ite (Res.rest _), apply_ite Prod.fst, apply_ite Prod.snd]

@[simp] theorem State.dramStart_rest {W : Touch} [W.Level] [W.Fresh] [W.Air] [W.Arb] [W.In .airport] [W.In .dram] [W.In .pair] [W.In .regionCtl] (s : State)  : (State.dramStart s).rest W = s.rest W := by
  have ⟨_, _, _, _, _, _, _, _, _, _, _, _⟩ := Touch.levelIns W
  unfold State.dramStart
  dsimp only
  (repeat' split) <;> simp only [State.set_rest, State.blockError_rest, rest_next, implies_true, State.each_rest, State.on_rest]

@[simp] theorem State.startBlock_rest {W : Touch} [W.Level] [W.Fresh] [W.Air] [W.Arb] [W.In .airport] [W.In .dram] [W.In .pair] [W.In .regionCtl] (s : State) (a1 : Page) [W.In a1.blk] : (State.startBlock s a1).rest W = s.rest W := by
  have ⟨_, _, _, _, _, _, _, _, _, _, _, _⟩ := Touch.levelIns W
  unfold State.startBlock
  grind [State.goState_rest, State.portStart_rest, State.dramStart_rest, rest_next]

@[simp] theorem State.startRegions_rest {W : Touch} [W.Level] [W.Fresh] [W.Air] [W.Arb] [∀ b, W.In b] (s : State)  : (State.startRegions s).rest W = s.rest W := by
  unfold State.startRegions
  simp only [State.startBlock_rest, State.recompute_rest, State.set_rest, rest_next, ite_self, implies_true, State.each_rest, State.on_rest, apply_ite (State.rest _), apply_ite (Res.rest _), apply_ite Prod.fst, apply_ite Prod.snd]

@[simp] theorem State.pairPower_rest {W : Touch} [W.In .keep] (s : State) (a1 : Nat) (a2 : Nat)  : (State.pairPower s a1 a2).rest W = s.rest W := by
  unfold State.pairPower
  simp only [State.set_rest, rest_next, ite_self, implies_true, State.each_rest, State.on_rest, apply_ite (State.rest _), apply_ite (Res.rest _), apply_ite Prod.fst, apply_ite Prod.snd]

@[simp] theorem State.goPair_rest {W : Touch} [W.VecSent] [W.Out] [W.In .keep] [W.In .pair] [W.In .pcie] (s : State) (a1 : Nat)  : (State.goPair s a1).rest W = s.rest W := by
  unfold State.goPair
  simp only [State.irq_rest, State.pairPower_rest, State.set_rest, rest_next, ite_self, implies_true, State.each_rest, State.on_rest, apply_ite (State.rest _), apply_ite (Res.rest _), apply_ite Prod.fst, apply_ite Prod.snd]

@[simp] theorem State.relayMaps_rest {W : Touch} [W.Air] (s : State) (a1 : Nat) (a2 : Bool)  : (State.relayMaps s a1 a2).rest W = s.rest W := by
  unfold State.relayMaps
  simp only [State.queueRecord_rest, rest_next, ite_self, implies_true, State.each_rest, State.on_rest, apply_ite (State.rest _), apply_ite (Res.rest _), apply_ite Prod.fst, apply_ite Prod.snd]

@[simp] theorem State.setChan_rest {W : Touch} [W.Gn] [W.In .gnssTrk] (s : State) (a1 : Nat) (a2 : Chan)  : (State.setChan s a1 a2).rest W = s.rest W := by
  unfold State.setChan
  simp only [State.set_rest, State.rest_gn, rest_next, ite_self, implies_true, State.each_rest, State.on_rest, apply_ite (State.rest _), apply_ite (Res.rest _), apply_ite Prod.fst, apply_ite Prod.snd]

@[simp] theorem State.loseChan_rest {W : Touch} [W.Gn] [W.In .gnssTrk] (s : State) (a1 : Nat)  : (State.loseChan s a1).rest W = s.rest W := by
  unfold State.loseChan
  simp only [State.inc_rest, State.setChan_rest, rest_next, ite_self, implies_true, State.each_rest, State.on_rest, apply_ite (State.rest _), apply_ite (Res.rest _), apply_ite Prod.fst, apply_ite Prod.snd]

@[simp] theorem State.gnssBlock_rest {W : Touch} [W.Log] [W.Gn] [W.In .gnssMeas] [W.In .gnssRf] [W.In .gnssTrk] (s : State) (a1 : Page) (a2 : Bool)  : (State.gnssBlock s a1 a2).rest W = s.rest W := by
  have ⟨_, _, _, _, _⟩ := Touch.logIns W
  unfold State.gnssBlock
  dsimp only
  (repeat' split) <;> simp only [State.set_rest, State.irq_rest, State.setChan_rest, State.antTimes_rest, State.loseChan_rest, State.rest_gn, rest_next, implies_true, State.each_rest, State.on_rest]

@[simp] theorem State.sendHello_rest {W : Touch} [W.Out] (s : State) (a1 : Nat)  : (State.sendHello s a1).rest W = s.rest W := by
  unfold State.sendHello
  simp only [State.emit_rest, rest_next, ite_self, implies_true, State.each_rest, State.on_rest, apply_ite (State.rest _), apply_ite (Res.rest _), apply_ite Prod.fst, apply_ite Prod.snd]

@[simp] theorem State.ringShow_rest {W : Touch} [W.Canal] [W.In .canal] (s : State)  : (State.ringShow s).rest W = s.rest W := by
  unfold State.ringShow
  simp only [State.set_rest, State.rest_canal, rest_next, ite_self, implies_true, State.each_rest, State.on_rest, apply_ite (State.rest _), apply_ite (Res.rest _), apply_ite Prod.fst, apply_ite Prod.snd]

@[simp] theorem State.mapLink_rest {W : Touch} [W.Canal] [W.In .canal] (s : State) (a1 : Nat) (a2 : Bool)  : (State.mapLink s a1 a2).rest W = s.rest W := by
  unfold State.mapLink
  simp only [State.ringShow_rest, State.rest_canal, rest_next, ite_self, implies_true, State.each_rest, State.on_rest, apply_ite (State.rest _), apply_ite (Res.rest _), apply_ite Prod.fst, apply_ite Prod.snd]

@[simp] theorem State.reroute_rest {W : Touch} [W.Out] [W.Canal] [W.In .canal] (s : State) (a1 : Nat) (a2 : CanalMsg)  : (State.reroute s a1 a2).rest W = s.rest W := by
  rw [State.reroute.eq_def]
  grind [State.canalOut_rest, State.inc_rest, rest_next]

@[simp] theorem State.ctrlOut_rest {W : Touch} [W.Out] [W.Canal] [W.In .canal] (s : State) (a1 : Nat) (a2 : CanalBody)  : (State.ctrlOut s a1 a2).rest W = s.rest W := by
  unfold State.ctrlOut
  simp only [State.canalOut_rest, rest_next, ite_self, implies_true, State.each_rest, State.on_rest, apply_ite (State.rest _), apply_ite (Res.rest _), apply_ite Prod.fst, apply_ite Prod.snd]

@[simp] theorem State.canalLeave_rest {W : Touch} [W.VecSent] [W.Out] [W.Canal] [W.In .canal] [W.In .pcie] (s : State) (a1 : Nat) (a2 : Nat)  : (State.canalLeave s a1 a2).rest W = s.rest W := by
  unfold State.canalLeave
  simp only [State.set_rest, State.setCport_rest, State.sendHello_rest, State.ringShow_rest, State.irq_rest, State.inc_rest, State.mapLink_rest, State.reroute_rest, State.ctrlOut_rest, rest_next, ite_self, implies_true, State.each_rest, State.on_rest, apply_ite (State.rest _), apply_ite (Res.rest _), apply_ite Prod.fst, apply_ite Prod.snd]

@[simp] theorem State.ethLink_rest {W : Touch} [W.VecSent] [W.Fq] [W.Out] [W.Canal] [W.In .canal] [W.In .eth] [W.In .flume] [W.In .pcie] (s : State) (a1 : Nat) (a2 : Bool) (a3 : Bool)  : (State.ethLink s a1 a2 a3).rest W = s.rest W := by
  unfold State.ethLink
  simp only [State.set_rest, State.inc_rest, State.irq_rest, State.qPump_rest, rest_next, ite_self, implies_true, State.each_rest, State.on_rest, apply_ite (State.rest _), apply_ite (Res.rest _), apply_ite Prod.fst, apply_ite Prod.snd]

@[simp] theorem State.pcieReset_rest {W : Touch} [W.VecMask] [W.In .pcie] (s : State)  : (State.pcieReset s).rest W = s.rest W := by
  unfold State.pcieReset
  simp only [State.set_rest, State.rest_vecMask, rest_next, ite_self, implies_true, State.each_rest, State.on_rest, apply_ite (State.rest _), apply_ite (Res.rest _), apply_ite Prod.fst, apply_ite Prod.snd]

@[simp] theorem State.pcieDown_rest {W : Touch} [W.Log] [W.Tags] [W.VecMask] [W.Held] [W.Arb] [W.Lk] [W.Pair] [W.Disp] [W.Ls] [W.Mot] [∀ b, W.In b] (s : State)  : (State.pcieDown s).rest W = s.rest W := by
  unfold State.pcieDown
  simp only [State.hostBump_rest, State.pcieReset_rest, State.inc_rest, rest_next, ite_self, implies_true, State.each_rest, State.on_rest, apply_ite (State.rest _), apply_ite (Res.rest _), apply_ite Prod.fst, apply_ite Prod.snd]

@[simp] theorem State.meterFlush1_rest {W : Touch} [W.VecSent] [W.Fq] [W.Out] [W.Canal] [W.Met] [W.In .canal] [W.In .eth] [W.In .flume] [W.In .meter] [W.In .pcie] (s : State)  : (State.meterFlush1 s).rest W = s.rest W := by
  unfold State.meterFlush1
  dsimp only
  (repeat' split) <;> simp only [State.inc_rest, State.qBytes_rest, State.rest_met, rest_next, implies_true, State.each_rest, State.on_rest]

@[simp] theorem State.meterFlush_rest {W : Touch} [W.VecSent] [W.Fq] [W.Out] [W.Canal] [W.Met] [W.In .canal] [W.In .eth] [W.In .flume] [W.In .meter] [W.In .pcie] (s : State)  : (State.meterFlush s).rest W = s.rest W := by
  unfold State.meterFlush
  (repeat' split) <;> simp only [State.meterFlush1_rest, State.rest_met, rest_next, implies_true, State.each_rest, State.on_rest]

@[simp] theorem State.setDock_rest {W : Touch} [W.Met] (s : State) (a1 : Nat) (a2 : DockSt)  : (State.setDock s a1 a2).rest W = s.rest W := by
  unfold State.setDock
  simp only [State.rest_met, rest_next, ite_self, implies_true, State.each_rest, State.on_rest, apply_ite (State.rest _), apply_ite (Res.rest _), apply_ite Prod.fst, apply_ite Prod.snd]

@[simp] theorem State.meterStore_rest {W : Touch} [W.VecSent] [W.Fq] [W.Out] [W.Canal] [W.Met] [W.In .canal] [W.In .eth] [W.In .flume] [W.In .meter] [W.In .pcie] (s : State) (a1 : List Nat)  : (State.meterStore s a1).rest W = s.rest W := by
  unfold State.meterStore
  simp only [State.meterFlush_rest, State.rest_met, rest_next, ite_self, implies_true, State.each_rest, State.on_rest, apply_ite (State.rest _), apply_ite (Res.rest _), apply_ite Prod.fst, apply_ite Prod.snd]

@[simp] theorem State.dockEnd_rest {W : Touch} [W.VecSent] [W.Fq] [W.Out] [W.Canal] [W.Met] [W.In .canal] [W.In .eth] [W.In .flume] [W.In .meter] [W.In .pcie] (s : State) (a1 : Nat) (a2 : Nat)  : (State.dockEnd s a1 a2).rest W = s.rest W := by
  unfold State.dockEnd
  simp only [State.setDock_rest, State.meterStore_rest, rest_next, ite_self, implies_true, State.each_rest, State.on_rest, apply_ite (State.rest _), apply_ite (Res.rest _), apply_ite Prod.fst, apply_ite Prod.snd]

@[simp] theorem State.docksEnd_rest {W : Touch} [W.VecSent] [W.Fq] [W.Out] [W.Canal] [W.Met] [W.In .canal] [W.In .eth] [W.In .flume] [W.In .meter] [W.In .pcie] (s : State) (a1 : Nat)  : (State.docksEnd s a1).rest W = s.rest W := by
  unfold State.docksEnd
  simp only [State.meterFlush_rest, State.dockEnd_rest, rest_next, ite_self, implies_true, State.each_rest, State.on_rest, apply_ite (State.rest _), apply_ite (Res.rest _), apply_ite Prod.fst, apply_ite Prod.snd]

@[simp] theorem State.pqShow_rest {W : Touch} [W.In .meter] (s : State)  : (State.pqShow s).rest W = s.rest W := by
  unfold State.pqShow
  simp only [State.set_rest, rest_next, ite_self, implies_true, State.each_rest, State.on_rest, apply_ite (State.rest _), apply_ite (Res.rest _), apply_ite Prod.fst, apply_ite Prod.snd]

@[simp] theorem State.setPq_rest {W : Touch} [W.Met] [W.In .meter] (s : State) (a1 : Nat) (a2 : PqSt)  : (State.setPq s a1 a2).rest W = s.rest W := by
  unfold State.setPq
  simp only [State.pqShow_rest, State.rest_met, rest_next, ite_self, implies_true, State.each_rest, State.on_rest, apply_ite (State.rest _), apply_ite (Res.rest _), apply_ite Prod.fst, apply_ite Prod.snd]

@[simp] theorem State.pqExtreme_rest {W : Touch} [W.Fresh] (s : State) (a1 : Nat)  : (State.pqExtreme s a1).2.rest W = s.rest W := by
  unfold State.pqExtreme
  simp only [State.free_rest, rest_next, ite_self, implies_true, State.each_rest, State.on_rest, apply_ite (State.rest _), apply_ite (Res.rest _), apply_ite Prod.fst, apply_ite Prod.snd]

@[simp] theorem State.pqStore_rest {W : Touch} [W.VecSent] [W.Fq] [W.Out] [W.Canal] [W.Met] [W.In .canal] [W.In .eth] [W.In .flume] [W.In .meter] [W.In .pcie] (s : State) (a1 : List Nat)  : (State.pqStore s a1).rest W = s.rest W := by
  unfold State.pqStore
  simp only [State.meterFlush_rest, State.rest_met, rest_next, ite_self, implies_true, State.each_rest, State.on_rest, apply_ite (State.rest _), apply_ite (Res.rest _), apply_ite Prod.fst, apply_ite Prod.snd]

@[simp] theorem State.pqEnd_rest {W : Touch} [W.Log] [W.Fresh] [W.Met] [W.In .meter] (s : State) (a1 : Nat) (a2 : Bool)  : (State.pqEnd s a1 a2).rest W = s.rest W := by
  have ⟨_, _, _, _, _⟩ := Touch.logIns W
  unfold State.pqEnd; (repeat' (first | split | intro)) <;> simp [State.setPq_rest, State.pqExtreme_rest, State.pqStore_rest, State.notice_rest, State.inc_rest, State.rest_met, rest_next, ite_self, implies_true, State.each_rest, State.on_rest, apply_ite (State.rest _), apply_ite (Res.rest _), apply_ite Prod.fst, apply_ite Prod.snd]

@[simp] theorem State.pqTruncate_rest {W : Touch} [W.Log] [W.Fresh] [W.Met] [W.In .meter] (s : State)  : (State.pqTruncate s).rest W = s.rest W := by
  have ⟨_, _, _, _, _⟩ := Touch.logIns W
  unfold State.pqTruncate
  simp only [State.pqEnd_rest, rest_next, ite_self, implies_true, State.each_rest, State.on_rest, apply_ite (State.rest _), apply_ite (Res.rest _), apply_ite Prod.fst, apply_ite Prod.snd]

@[simp] theorem State.meterStop_rest {W : Touch} [W.Log] [W.Fresh] [W.Met] [W.In .meter] (s : State)  : (State.meterStop s).rest W = s.rest W := by
  have ⟨_, _, _, _, _⟩ := Touch.logIns W
  unfold State.meterStop
  simp only [State.docksEnd_rest, State.pqTruncate_rest, rest_next, ite_self, implies_true, State.each_rest, State.on_rest, apply_ite (State.rest _), apply_ite (Res.rest _), apply_ite Prod.fst, apply_ite Prod.snd]

@[simp] theorem State.leaveOn_rest {W : Touch} [W.Log] [W.Fresh] [W.Tags] [W.VecMask] [W.Held] [W.Air] [W.Arb] [W.Lk] [W.Pair] [W.Gn] [W.Disp] [W.Ls] [W.Mot] [W.Rtk] [W.Met] [∀ b, W.In b] (s : State) (a1 : Page)  : (State.leaveOn s a1).rest W = s.rest W := by
  unfold State.leaveOn
  dsimp only
  (repeat' split) <;> simp only [State.setPage_rest, State.relayMaps_rest, State.gnssBlock_rest, State.canalLeave_rest, State.ethLink_rest, State.pcieDown_rest, State.meterStop_rest, State.rest_rtk, rest_next, implies_true, State.each_rest, State.on_rest]

@[simp] theorem State.blockOff_rest {W : Touch} [W.Level] [W.Fresh] [W.Tags] [W.VecMask] [W.Held] [W.Air] [W.Arb] [W.Lk] [W.Gn] [W.Ls] [W.Mot] [W.Met] [∀ b, W.In b] (s : State) (a1 : Page)  : (State.blockOff s a1).rest W = s.rest W := by
  unfold State.blockOff
  (repeat' split) <;> simp only [State.goState_rest, State.leaveOn_rest, State.abortCore_rest, rest_next, implies_true, State.each_rest, State.on_rest]

@[simp] theorem State.secShow_rest {W : Touch} [W.In .frameSec] (s : State)  : (State.secShow s).rest W = s.rest W := by
  unfold State.secShow
  simp only [State.set_rest, rest_next, ite_self, implies_true, State.each_rest, State.on_rest, apply_ite (State.rest _), apply_ite (Res.rest _), apply_ite Prod.fst, apply_ite Prod.snd]

@[simp] theorem State.ksPut_rest {W : Touch} [W.Pair] [W.In .frameSec] [W.In .keystore] (s : State) (a1 : Nat) (a2 : Nat) (a3 : Nat) (a4 : Nat) (a5 : Nat) (a6 : Nat)  : (State.ksPut s a1 a2 a3 a4 a5 a6).rest W = s.rest W := by
  unfold State.ksPut
  simp only [State.secShow_rest, State.setTe_rest, rest_next, ite_self, implies_true, State.each_rest, State.on_rest, apply_ite (State.rest _), apply_ite (Res.rest _), apply_ite Prod.fst, apply_ite Prod.snd]

@[simp] theorem State.zeroise_rest {W : Touch} [W.Pair] [W.In .frameSec] [W.In .keystore] (s : State) (a1 : Nat)  : (State.zeroise s a1).rest W = s.rest W := by
  unfold State.zeroise
  simp only [State.ksPut_rest, rest_next, ite_self, implies_true, State.each_rest, State.on_rest, apply_ite (State.rest _), apply_ite (Res.rest _), apply_ite Prod.fst, apply_ite Prod.snd]

@[simp] theorem State.clearTable_rest {W : Touch} [W.Pair] (s : State) (p : Page) (t : Nat) [W.In p.blk] : (s.clearTable p t).rest W = s.rest W := by
  unfold State.clearTable
  exact (State.rest_pair { s with tbl := _ } _).trans (State.rest_tblclr s p t)

@[simp] theorem State.motClear_rest {W : Touch} [W.Pair] [W.Mot] [W.In .motion] (s : State) : s.motClear.rest W = s.rest W := by
  unfold State.motClear
  refine State.each_rest s _ _ fun t m => ?_
  have h : ∀ o : Option Nat, (match o with
      | some k => t.setMove m k (MV.mstate.set (t.move m k) 1)
      | none => t).rest W = t.rest W := by
    intro o; cases o <;> simp only [State.setMove_rest]
  have h' := h (t.activeMove m)
  dsimp only
  split
  · exact h'
  · rw [State.setMotion_rest]; exact h'

@[simp] theorem State.setEth_rest {W : Touch} [W.Lk] (s : State) (a1 : Nat) (a2 : EthSt)  : (State.setEth s a1 a2).rest W = s.rest W := by
  unfold State.setEth
  simp only [State.rest_lk, rest_next, ite_self, implies_true, State.each_rest, State.on_rest, apply_ite (State.rest _), apply_ite (Res.rest _), apply_ite Prod.fst, apply_ite Prod.snd]

@[simp] theorem State.sramLost_rest {W : Touch} [W.Air] [W.Lk] [W.Pair] [W.Gn] [W.Disp] [W.Ls] [W.Mot] [W.Rtk] [W.In .frameSec] [W.In .keystore] [W.In .lease] [W.In .motion] [W.In .registry] [W.In .turnout] (s : State) (a1 : Page) [W.In a1.blk] : (State.sramLost s a1).rest W = s.rest W := by
  unfold State.sramLost
  dsimp only
  (repeat' split) <;> simp only [State.zeroise_rest, State.clearTable_rest, State.motClear_rest, State.leaseShow_rest, State.regCounts_rest, State.setEth_rest, State.rest_air, State.rest_disp, State.rest_gn, State.rest_ls, State.rest_mot, State.rest_rtk, rest_next, implies_true, State.each_rest, State.on_rest]

@[simp] theorem State.gateRegions_rest {W : Touch} [W.Level] [W.Fresh] [W.Tags] [W.VecMask] [W.Held] [W.Air] [W.Arb] [W.Lk] [W.Gn] [W.Ls] [W.Mot] [W.Met] [∀ b, W.In b] (s : State)  : (State.gateRegions s).rest W = s.rest W := by
  unfold State.gateRegions
  simp only [State.set_rest, State.blockOff_rest, State.sramLost_rest, State.rest_ls, rest_next, ite_self, implies_true, State.each_rest, State.on_rest, apply_ite (State.rest _), apply_ite (Res.rest _), apply_ite Prod.fst, apply_ite Prod.snd]

@[simp] theorem State.goCold_rest {W : Touch} [W.Level] [W.Fresh] [W.Tags] [W.VecMask] [W.Held] [W.Air] [W.Arb] [W.Lk] [W.Gn] [W.Ls] [W.Mot] [W.Met] [∀ b, W.In b] (s : State)  : (State.goCold s).rest W = s.rest W := by
  unfold State.goCold
  simp only [State.readyShow_rest, State.gateRegions_rest, State.goPair_rest, State.set_rest, rest_next, ite_self, implies_true, State.each_rest, State.on_rest, apply_ite (State.rest _), apply_ite (Res.rest _), apply_ite Prod.fst, apply_ite Prod.snd]

@[simp] theorem State.warm_rest {W : Touch} [W.Level] [W.Fresh] [W.Tags] [W.VecMask] [W.Held] [W.Air] [W.Arb] [W.Lk] [W.Gn] [W.Ls] [W.Mot] [W.Met] [∀ b, W.In b] (s : State) (a1 : Bool)  : (State.warm s a1).rest W = s.rest W := by
  unfold State.warm
  simp only [State.set_rest, State.readyShow_rest, State.startRegions_rest, State.goPair_rest, State.goCold_rest, rest_next, ite_self, implies_true, State.each_rest, State.on_rest, apply_ite (State.rest _), apply_ite (Res.rest _), apply_ite Prod.fst, apply_ite Prod.snd]

@[simp] theorem State.foundStatus_rest {W : Touch} [W.In .evlog] (s : State)  : (State.foundStatus s).rest W = s.rest W := by
  unfold State.foundStatus
  simp only [State.set_rest, rest_next, ite_self, implies_true, State.each_rest, State.on_rest, apply_ite (State.rest _), apply_ite (Res.rest _), apply_ite Prod.fst, apply_ite Prod.snd]

@[simp] theorem State.saveSeq_rest {W : Touch} [W.Ev] (s : State)  : (State.saveSeq s).rest W = s.rest W := by
  unfold State.saveSeq
  simp only [State.rest_ev, rest_next, ite_self, implies_true, State.each_rest, State.on_rest, apply_ite (State.rest _), apply_ite (Res.rest _), apply_ite Prod.fst, apply_ite Prod.snd]

@[simp] theorem State.foundProgram_rest {W : Touch} [W.Ev] [W.In .evlog] (s : State) (a1 : List FoundRec) (a2 : List FoundRec)  : (State.foundProgram s a1 a2).rest W = s.rest W := by
  unfold State.foundProgram
  simp only [State.foundStatus_rest, State.inc_rest, State.saveSeq_rest, State.rest_ev, rest_next, ite_self, implies_true, State.each_rest, State.on_rest, apply_ite (State.rest _), apply_ite (Res.rest _), apply_ite Prod.fst, apply_ite Prod.snd]

@[simp] theorem State.foundNow_rest {W : Touch} [W.Ev] [W.In .evlog] (s : State) (a1 : Nat)  : (State.foundNow s a1).rest W = s.rest W := by
  unfold State.foundNow
  simp only [State.foundProgram_rest, rest_next, ite_self, implies_true, State.each_rest, State.on_rest, apply_ite (State.rest _), apply_ite (Res.rest _), apply_ite Prod.fst, apply_ite Prod.snd]

@[simp] theorem State.free256_rest {W : Touch} [W.Fresh] (s : State)  : (State.free256 s).2.rest W = s.rest W := by
  unfold State.free256
  simp only [State.rest_fresh, rest_next, ite_self, implies_true, State.each_rest, State.on_rest, apply_ite (State.rest _), apply_ite (Res.rest _), apply_ite Prod.fst, apply_ite Prod.snd]

@[simp] theorem State.freeSig_rest {W : Touch} [W.Fresh] (s : State)  : (State.freeSig s).2.rest W = s.rest W := by
  unfold State.freeSig
  simp only [State.free256_rest, rest_next, ite_self, implies_true, State.each_rest, State.on_rest, apply_ite (State.rest _), apply_ite (Res.rest _), apply_ite Prod.fst, apply_ite Prod.snd]

@[simp] theorem State.transportKey_rest {W : Touch} [W.Fresh] [W.Pair] [W.In .frameSec] [W.In .keystore] (s : State)  : (State.transportKey s).rest W = s.rest W := by
  unfold State.transportKey
  simp only [State.free256_rest, State.freeSig_rest, State.ksPut_rest, rest_next, ite_self, implies_true, State.each_rest, State.on_rest, apply_ite (State.rest _), apply_ite (Res.rest _), apply_ite Prod.fst, apply_ite Prod.snd]

@[simp] theorem State.hgKeyGone_rest {W : Touch} [W.Hg] [W.In .headgate] (s : State)  : (State.hgKeyGone s).rest W = s.rest W := by
  fun_cases State.hgKeyGone <;> simp_all [State.set_rest, State.rest_hg]

@[simp] theorem State.zeroiseAll_rest {W : Touch} [W.Hg] [W.Pair] [W.In .frameSec] [W.In .headgate] [W.In .keystore] (s : State)  : (State.zeroiseAll s).rest W = s.rest W := by
  fun_cases State.zeroiseAll <;> simp only [State.hgKeyGone_rest, State.zeroise_rest, rest_next, implies_true, State.each_rest, State.on_rest]

@[simp] theorem State.svcDown_rest {W : Touch} [W.VecSent] [W.Out] [W.Air] [W.In .airport] [W.In .pcie] (s : State) (a1 : Nat) (a2 : Bool)  : (State.svcDown s a1 a2).rest W = s.rest W := by
  unfold State.svcDown
  simp only [State.setSvc_rest, rest_next, ite_self, implies_true, State.each_rest, State.on_rest, apply_ite (State.rest _), apply_ite (Res.rest _), apply_ite Prod.fst, apply_ite Prod.snd]

@[simp] theorem State.portStop_rest {W : Touch} [W.Air] (s : State) (a1 : Nat)  : (State.portStop s a1).rest W = s.rest W := by
  unfold State.portStop
  simp only [State.setPort_rest, rest_next, ite_self, implies_true, State.each_rest, State.on_rest, apply_ite (State.rest _), apply_ite (Res.rest _), apply_ite Prod.fst, apply_ite Prod.snd]

@[simp] theorem State.stopBlock_rest {W : Touch} [W.Level] [W.Fresh] [W.Tags] [W.VecMask] [W.Held] [W.Air] [W.Arb] [W.Lk] [W.Gn] [W.Ls] [W.Mot] [W.Met] [∀ b, W.In b] (s : State) (a1 : Page)  : (State.stopBlock s a1).rest W = s.rest W := by
  unfold State.stopBlock
  dsimp only
  (repeat' split) <;> simp only [State.leaveOn_rest, State.goState_rest, State.setPage_rest, State.svcDown_rest, State.portStop_rest, rest_next, implies_true, State.each_rest, State.on_rest]

@[simp] theorem State.barBlock_rest {W : Touch} [W.Level] [W.Fresh] [W.Tags] [W.VecMask] [W.Held] [W.Air] [W.Arb] [W.Lk] [W.Gn] [W.Ls] [W.Mot] [W.Met] [∀ b, W.In b] (s : State) (a1 : Page)  : (State.barBlock s a1).rest W = s.rest W := by
  unfold State.barBlock
  simp only [State.setP_rest, State.stopBlock_rest, rest_next, ite_self, implies_true, State.each_rest, State.on_rest, apply_ite (State.rest _), apply_ite (Res.rest _), apply_ite Prod.fst, apply_ite Prod.snd]

@[simp] theorem State.endService_rest {W : Touch} [W.Level] [W.Fresh] [W.Tags] [W.VecMask] [W.Held] [W.Air] [W.Arb] [W.Lk] [W.Gn] [W.Ls] [W.Mot] [W.Met] [∀ b, W.In b] (s : State)  : (State.endService s).rest W = s.rest W := by
  unfold State.endService
  simp only [State.goPair_rest, State.handOver_rest, State.clearTable_rest, State.zeroiseAll_rest, State.set_rest, State.recompute_rest, State.barBlock_rest, State.rest_pair, rest_next, ite_self, implies_true, State.each_rest, State.on_rest, apply_ite (State.rest _), apply_ite (Res.rest _), apply_ite Prod.fst, apply_ite Prod.snd]

@[simp] theorem State.lcEffect_rest {W : Touch} [W.Level] [W.Fresh] [W.Tags] [W.VecMask] [W.Held] [W.Air] [W.Arb] [W.Lk] [W.Gn] [W.Ls] [W.Mot] [W.Met] [∀ b, W.In b] (s : State) (a1 : Nat)  : (State.lcEffect s a1).rest W = s.rest W := by
  unfold State.lcEffect
  simp only [State.transportKey_rest, State.endService_rest, rest_next, ite_self, implies_true, State.each_rest, State.on_rest, apply_ite (State.rest _), apply_ite (Res.rest _), apply_ite Prod.fst, apply_ite Prod.snd]

@[simp] theorem State.lcMove_rest {W : Touch} [W.Level] [W.Fresh] [W.Tags] [W.VecMask] [W.Held] [W.Air] [W.Arb] [W.Lk] [W.Gn] [W.Ls] [W.Mot] [W.Met] [∀ b, W.In b] (s : State) (a1 : Nat) (a2 : Nat) (a3 : Bool)  : (State.lcMove s a1 a2 a3).rest W = s.rest W := by
  unfold State.lcMove
  simp only [State.eventAt_rest, State.foundNow_rest, State.set_rest, State.lcEffect_rest, State.foundStatus_rest, State.rest_ev, rest_next, ite_self, implies_true, State.each_rest, State.on_rest, apply_ite (State.rest _), apply_ite (Res.rest _), apply_ite Prod.fst, apply_ite Prod.snd]

@[simp] theorem State.lcGo_rest {W : Touch} [W.Level] [W.Fresh] [W.Tags] [W.VecMask] [W.Held] [W.Air] [W.Arb] [W.Lk] [W.Gn] [W.Ls] [W.Mot] [W.Met] [∀ b, W.In b] (s : State) (a1 : Nat) (a2 : Nat) (a3 : Bool)  : (State.lcGo s a1 a2 a3).rest W = s.rest W := by
  unfold State.lcGo
  simp only [State.set_rest, State.lcMove_rest, rest_next, ite_self, implies_true, State.each_rest, State.on_rest, apply_ite (State.rest _), apply_ite (Res.rest _), apply_ite Prod.fst, apply_ite Prod.snd]

@[simp] theorem execLcRetire_rest {W : Touch} [W.Level] [W.Fresh] [W.Tags] [W.VecMask] [W.Held] [W.Air] [W.Arb] [W.Lk] [W.Gn] [W.Ls] [W.Mot] [W.Met] [∀ b, W.In b] (a0 : Bool) (s : State)  : Res.rest W (execLcRetire a0 s) = some (s.rest W) := by
  unfold execLcRetire
  simp only [State.lcGo_rest, rest_next, ite_self, implies_true, State.each_rest, State.on_rest, apply_ite (State.rest _), apply_ite (Res.rest _), apply_ite Prod.fst, apply_ite Prod.snd]

@[simp] theorem State.dozeBlocks_rest {W : Touch} [W.Level] [W.Fresh] [W.Tags] [W.VecMask] [W.Held] [W.Air] [W.Arb] [W.Lk] [W.Gn] [W.Ls] [W.Mot] [W.Met] [∀ b, W.In b] (s : State) (a1 : Nat) (a2 : Nat)  : (State.dozeBlocks s a1 a2).rest W = s.rest W := by
  unfold State.dozeBlocks
  simp only [State.blockOff_rest, State.startBlock_rest, rest_next, ite_self, implies_true, State.each_rest, State.on_rest, apply_ite (State.rest _), apply_ite (Res.rest _), apply_ite Prod.fst, apply_ite Prod.snd]

@[simp] theorem State.powerTo_rest {W : Touch} [W.Level] [W.Fresh] [W.Tags] [W.VecMask] [W.Held] [W.Air] [W.Arb] [W.Lk] [W.Gn] [W.Ls] [W.Mot] [W.Met] [∀ b, W.In b] (s : State) (a1 : Nat)  : (State.powerTo s a1).rest W = s.rest W := by
  unfold State.powerTo
  simp only [State.set_rest, State.recompute_rest, State.dozeBlocks_rest, rest_next, ite_self, implies_true, State.each_rest, State.on_rest, apply_ite (State.rest _), apply_ite (Res.rest _), apply_ite Prod.fst, apply_ite Prod.snd]

@[simp] theorem execTokOpen_rest {W : Touch} [W.Key] [W.In .keystore] (a0 : Src) (s : State)  : Res.rest W (execTokOpen a0 s) = some (s.rest W) := by
  unfold execTokOpen
  simp only [State.set_rest, State.rest_key, rest_next, ite_self, implies_true, State.each_rest, State.on_rest, apply_ite (State.rest _), apply_ite (Res.rest _), apply_ite Prod.fst, apply_ite Prod.snd]

@[simp] theorem execTokGo_rest {W : Touch} [W.Key] [W.In .keystore] (a0 : Src) (s : State)  : Res.rest W (execTokGo a0 s) = some (s.rest W) := by
  unfold execTokGo
  simp only [State.set_rest, State.rest_key, rest_next, ite_self, implies_true, State.each_rest, State.on_rest, apply_ite (State.rest _), apply_ite (Res.rest _), apply_ite Prod.fst, apply_ite Prod.snd]

@[simp] theorem execTokRelease_rest {W : Touch} [W.In .keystore] (a0 : Src) (s : State)  : Res.rest W (execTokRelease a0 s) = some (s.rest W) := by
  unfold execTokRelease
  simp only [State.set_rest, rest_next, ite_self, implies_true, State.each_rest, State.on_rest, apply_ite (State.rest _), apply_ite (Res.rest _), apply_ite Prod.fst, apply_ite Prod.snd]

@[simp] theorem execAttGo_rest {W : Touch} [W.Key] [W.In .keystore] (s : State)  : Res.rest W (execAttGo s) = some (s.rest W) := by
  unfold execAttGo
  simp only [State.set_rest, State.rest_key, rest_next, ite_self, implies_true, State.each_rest, State.on_rest, apply_ite (State.rest _), apply_ite (Res.rest _), apply_ite Prod.fst, apply_ite Prod.snd]

@[simp] theorem State.dbgResult_rest {W : Touch} [W.In .debug] (s : State) (a1 : Nat)  : (State.dbgResult s a1).rest W = s.rest W := by
  unfold State.dbgResult
  simp only [State.set_rest, rest_next, ite_self, implies_true, State.each_rest, State.on_rest, apply_ite (State.rest _), apply_ite (Res.rest _), apply_ite Prod.fst, apply_ite Prod.snd]

@[simp] theorem State.debugHold_rest {W : Touch} [W.Log] [W.Hg] [W.In .headgate] (s : State)  : (State.debugHold s).rest W = s.rest W := by
  have ⟨_, _, _, _, _⟩ := Touch.logIns W
  unfold State.debugHold
  simp only [State.raiseCause_rest, rest_next, ite_self, implies_true, State.each_rest, State.on_rest, apply_ite (State.rest _), apply_ite (Res.rest _), apply_ite Prod.fst, apply_ite Prod.snd]

@[simp] theorem State.dbgOpen_rest {W : Touch} [W.Log] [W.Hg] [W.In .debug] [W.In .headgate] (s : State) (a1 : Nat) (a2 : Nat)  : (State.dbgOpen s a1 a2).rest W = s.rest W := by
  have ⟨_, _, _, _, _⟩ := Touch.logIns W
  unfold State.dbgOpen
  simp only [State.inc_rest, State.dbgResult_rest, State.irq_rest, State.set_rest, State.debugHold_rest, rest_next, ite_self, implies_true, State.each_rest, State.on_rest, apply_ite (State.rest _), apply_ite (Res.rest _), apply_ite Prod.fst, apply_ite Prod.snd]

@[simp] theorem execDbgOpenObserve_rest {W : Touch} [W.Log] [W.Hg] [W.In .debug] [W.In .headgate] (s : State)  : Res.rest W (execDbgOpenObserve s) = some (s.rest W) := by
  have ⟨_, _, _, _, _⟩ := Touch.logIns W
  unfold execDbgOpenObserve
  simp only [State.dbgOpen_rest, State.dbgResult_rest, rest_next, ite_self, implies_true, State.each_rest, State.on_rest, apply_ite (State.rest _), apply_ite (Res.rest _), apply_ite Prod.fst, apply_ite Prod.snd]

@[simp] theorem execDbgOpenFull_rest {W : Touch} [W.Log] [W.Hg] [W.In .debug] [W.In .headgate] (s : State)  : Res.rest W (execDbgOpenFull s) = some (s.rest W) := by
  have ⟨_, _, _, _, _⟩ := Touch.logIns W
  unfold execDbgOpenFull
  simp only [State.dbgOpen_rest, State.dbgResult_rest, rest_next, ite_self, implies_true, State.each_rest, State.on_rest, apply_ite (State.rest _), apply_ite (Res.rest _), apply_ite Prod.fst, apply_ite Prod.snd]

@[simp] theorem State.drawChallenge_rest {W : Touch} [W.Fresh] [W.In .debug] (s : State)  : (State.drawChallenge s).rest W = s.rest W := by
  unfold State.drawChallenge
  simp only [State.free256_rest, State.set_rest, rest_next, ite_self, implies_true, State.each_rest, State.on_rest, apply_ite (State.rest _), apply_ite (Res.rest _), apply_ite Prod.fst, apply_ite Prod.snd]

@[simp] theorem execCertGo_rest {W : Touch} [W.Log] [W.Fresh] [W.Hg] [W.Dbg] [W.In .debug] [W.In .headgate] (a0 : Bool) (s : State)  : Res.rest W (execCertGo a0 s) = some (s.rest W) := by
  have ⟨_, _, _, _, _⟩ := Touch.logIns W
  unfold execCertGo
  simp only [State.drawChallenge_rest, State.inc_rest, State.dbgResult_rest, State.dbgOpen_rest, State.set_rest, State.rest_dbg, rest_next, ite_self, implies_true, State.each_rest, State.on_rest, apply_ite (State.rest _), apply_ite (Res.rest _), apply_ite Prod.fst, apply_ite Prod.snd]

@[simp] theorem State.supUnhalt_rest {W : Touch} [W.Level] [W.In .reset] (s : State)  : (State.supUnhalt s).rest W = s.rest W := by
  have ⟨_, _, _, _, _, _, _, _, _, _, _, _⟩ := Touch.levelIns W
  unfold State.supUnhalt
  simp only [State.recompute_rest, State.set_rest, rest_next, ite_self, implies_true, State.each_rest, State.on_rest, apply_ite (State.rest _), apply_ite (Res.rest _), apply_ite Prod.fst, apply_ite Prod.snd]

@[simp] theorem State.dbgClose_rest {W : Touch} [W.Level] [W.Dbg] [W.In .debug] [W.In .reset] (s : State)  : (State.dbgClose s).rest W = s.rest W := by
  have ⟨_, _, _, _, _, _, _, _, _, _, _, _⟩ := Touch.levelIns W
  unfold State.dbgClose
  simp only [State.set_rest, State.recompute_rest, State.preempt_rest, State.irq_rest, State.supUnhalt_rest, State.rest_dbg, rest_next, ite_self, implies_true, State.each_rest, State.on_rest, apply_ite (State.rest _), apply_ite (Res.rest _), apply_ite Prod.fst, apply_ite Prod.snd]

@[simp] theorem execDbgEnd_rest {W : Touch} [W.Level] [W.Fresh] [W.Dbg] [W.In .debug] [W.In .reset] (s : State)  : Res.rest W (execDbgEnd s) = some (s.rest W) := by
  have ⟨_, _, _, _, _, _, _, _, _, _, _, _⟩ := Touch.levelIns W
  unfold execDbgEnd
  simp only [State.drawChallenge_rest, State.dbgClose_rest, rest_next, ite_self, implies_true, State.each_rest, State.on_rest, apply_ite (State.rest _), apply_ite (Res.rest _), apply_ite Prod.fst, apply_ite Prod.snd]

@[simp] theorem execBootOk_rest {W : Touch} [W.Level] [W.Boot] [W.In .boot] [W.In .reset] (a0 : Src) (s : State)  : Res.rest W (execBootOk a0 s) = some (s.rest W) := by
  have ⟨_, _, _, _, _, _, _, _, _, _, _, _⟩ := Touch.levelIns W
  unfold execBootOk
  simp only [State.set_rest, State.recompute_rest, State.rest_boot, rest_next, ite_self, implies_true, State.each_rest, State.on_rest, apply_ite (State.rest _), apply_ite (Res.rest _), apply_ite Prod.fst, apply_ite Prod.snd]

@[simp] theorem State.updResult_rest {W : Touch} [W.In .boot] (s : State) (a1 : Nat) (a2 : Nat)  : (State.updResult s a1 a2).rest W = s.rest W := by
  unfold State.updResult
  simp only [State.set_rest, rest_next, ite_self, implies_true, State.each_rest, State.on_rest, apply_ite (State.rest _), apply_ite (Res.rest _), apply_ite Prod.fst, apply_ite Prod.snd]

@[simp] theorem State.updStart_rest {W : Touch} [W.Boot] [W.In .boot] (s : State) (a1 : UpdJob)  : (State.updStart s a1).rest W = s.rest W := by
  unfold State.updStart
  simp only [State.updResult_rest, State.set_rest, State.rest_boot, rest_next, ite_self, implies_true, State.each_rest, State.on_rest, apply_ite (State.rest _), apply_ite (Res.rest _), apply_ite Prod.fst, apply_ite Prod.snd]

@[simp] theorem execUpdVerify_rest {W : Touch} [W.Boot] [W.In .boot] (a0 : List ImgSeen) (s : State)  : Res.rest W (execUpdVerify a0 s) = some (s.rest W) := by
  unfold execUpdVerify
  simp only [State.set_rest, State.updStart_rest, State.rest_boot, rest_next, ite_self, implies_true, State.each_rest, State.on_rest, apply_ite (State.rest _), apply_ite (Res.rest _), apply_ite Prod.fst, apply_ite Prod.snd]

@[simp] theorem execUpdProgram_rest {W : Touch} [W.Boot] [W.In .boot] (s : State)  : Res.rest W (execUpdProgram s) = some (s.rest W) := by
  unfold execUpdProgram
  grind [State.set_rest, State.updResult_rest, State.updStart_rest, State.rest_boot, rest_next]

@[simp] theorem execUpdCancel_rest {W : Touch} [W.Boot] (s : State)  : Res.rest W (execUpdCancel s) = some (s.rest W) := by
  unfold execUpdCancel
  dsimp only
  (repeat' split) <;> simp only [State.rest_boot, rest_next, implies_true, State.each_rest, State.on_rest]

@[simp] theorem State.rcvEnd_rest {W : Touch} [W.Boot] (s : State)  : (State.rcvEnd s).rest W = s.rest W := by
  unfold State.rcvEnd
  simp only [State.rest_boot, rest_next, ite_self, implies_true, State.each_rest, State.on_rest, apply_ite (State.rest _), apply_ite (Res.rest _), apply_ite Prod.fst, apply_ite Prod.snd]

@[simp] theorem State.dramPut_rest {W : Touch} [W.Dram] (s : State) (off : Nat) (b : List Nat) : (s.dramPut off b).rest W = s.rest W := by
  induction b generalizing s off with
  | nil => rfl
  | cons x r ih =>
    unfold State.dramPut
    rw [ih, State.rest_dram]

@[simp] theorem State.dramWrite_rest {W : Touch} [W.Dram] [W.Clk] (s : State) (a1 : Nat) (a2 : List Nat)  : (State.dramWrite s a1 a2).rest W = s.rest W := by
  unfold State.dramWrite
  simp only [State.dramPut_rest, State.rest_clk, rest_next, ite_self, implies_true, State.each_rest, State.on_rest, apply_ite (State.rest _), apply_ite (Res.rest _), apply_ite Prod.fst, apply_ite Prod.snd]

@[simp] theorem State.rcvStore_rest {W : Touch} [W.Dram] [W.Clk] (s : State) (a1 : Nat) (a2 : List Nat)  : (State.rcvStore s a1 a2).rest W = s.rest W := by
  unfold State.rcvStore
  simp only [State.dramWrite_rest, rest_next, ite_self, implies_true, State.each_rest, State.on_rest, apply_ite (State.rest _), apply_ite (Res.rest _), apply_ite Prod.fst, apply_ite Prod.snd]

@[simp] theorem State.identity_rest {W : Touch} [W.Fresh] [W.Pair] [W.Key] [W.In .frameSec] [W.In .keystore] (s : State) (a1 : Nat)  : (State.identity s a1).rest W = s.rest W := by
  unfold State.identity
  simp only [State.free256_rest, State.freeSig_rest, State.ksPut_rest, State.rest_key, rest_next, ite_self, implies_true, State.each_rest, State.on_rest, apply_ite (State.rest _), apply_ite (Res.rest _), apply_ite Prod.fst, apply_ite Prod.snd]

@[simp] theorem State.romRelease_rest {W : Touch} [W.Level] [W.Boot] [W.In .reset] (s : State)  : (State.romRelease s).rest W = s.rest W := by
  have ⟨_, _, _, _, _, _, _, _, _, _, _, _⟩ := Touch.levelIns W
  unfold State.romRelease
  simp only [State.recompute_rest, State.set_rest, State.rest_boot, rest_next, ite_self, implies_true, State.each_rest, State.on_rest, apply_ite (State.rest _), apply_ite (Res.rest _), apply_ite Prod.fst, apply_ite Prod.snd]

@[simp] theorem State.bootSup_rest {W : Touch} [W.Level] [W.Fresh] [W.Key] [W.Boot] [W.In .boot] [W.In .frameSec] [W.In .keystore] [W.In .reset] (s : State) (a1 : Nat) (a2 : Img)  : (State.bootSup s a1 a2).rest W = s.rest W := by
  have ⟨_, _, _, _, _, _, _, _, _, _, _, _⟩ := Touch.levelIns W
  unfold State.bootSup
  simp only [State.identity_rest, State.set_rest, State.inc_rest, State.romRelease_rest, State.rest_boot, State.rest_pair_boot, rest_next, ite_self, implies_true, State.each_rest, State.on_rest, apply_ite (State.rest _), apply_ite (Res.rest _), apply_ite Prod.fst, apply_ite Prod.snd]

@[simp] theorem State.rcvLast_rest {W : Touch} [W.Level] [W.Fresh] [W.Key] [W.Boot] [W.In .boot] [W.In .frameSec] [W.In .keystore] [W.In .reset] (s : State) (a1 : ImgSeen) (a2 : Nat)  : (State.rcvLast s a1 a2).1.rest W = s.rest W := by
  have ⟨_, _, _, _, _, _, _, _, _, _, _, _⟩ := Touch.levelIns W
  unfold State.rcvLast
  simp only [State.rcvEnd_rest, State.bootSup_rest, rest_next, ite_self, implies_true, State.each_rest, State.on_rest, apply_ite (State.rest _), apply_ite (Res.rest _), apply_ite Prod.fst, apply_ite Prod.snd]

@[simp] theorem State.chunkOn_rest {W : Touch} [W.Level] [W.Fresh] [W.Dram] [W.Clk] [W.Key] [W.Boot] [W.In .boot] [W.In .frameSec] [W.In .keystore] [W.In .reset] (s : State) (a1 : Nat) (a2 : Nat) (a3 : Nat) (a4 : List Nat) (a5 : ImgSeen)  : (State.chunkOn s a1 a2 a3 a4 a5).1.rest W = s.rest W := by
  have ⟨_, _, _, _, _, _, _, _, _, _, _, _⟩ := Touch.levelIns W
  unfold State.chunkOn
  simp only [State.rcvEnd_rest, State.rcvStore_rest, State.rcvLast_rest, State.rest_boot, rest_next, ite_self, implies_true, State.each_rest, State.on_rest, apply_ite (State.rest _), apply_ite (Res.rest _), apply_ite Prod.fst, apply_ite Prod.snd]

@[simp] theorem State.chunk_rest {W : Touch} [W.Level] [W.Fresh] [W.Dram] [W.Clk] [W.Key] [W.Boot] [W.In .boot] [W.In .frameSec] [W.In .keystore] [W.In .reset] (s : State) (a1 : Nat) (a2 : List Nat) (a3 : ImgSeen)  : (State.chunk s a1 a2 a3).1.rest W = s.rest W := by
  have ⟨_, _, _, _, _, _, _, _, _, _, _, _⟩ := Touch.levelIns W
  unfold State.chunk
  dsimp only
  (repeat' split) <;> simp only [State.chunkOn_rest, rest_next, implies_true, State.each_rest, State.on_rest]

@[simp] theorem execRcvGo_rest {W : Touch} [W.Level] [W.Fresh] [W.Dram] [W.Clk] [W.Key] [W.Boot] [W.In .boot] [W.In .frameSec] [W.In .keystore] [W.In .reset] (a0 : ImgSeen) (s : State)  : Res.rest W (execRcvGo a0 s) = some (s.rest W) := by
  have ⟨_, _, _, _, _, _, _, _, _, _, _, _⟩ := Touch.levelIns W
  unfold execRcvGo
  simp only [State.chunk_rest, State.irq_rest, State.set_rest, rest_next, ite_self, implies_true, State.each_rest, State.on_rest, apply_ite (State.rest _), apply_ite (Res.rest _), apply_ite Prod.fst, apply_ite Prod.snd]

@[simp] theorem State.blockAct_rest {W : Touch} [W.Level] [W.Fresh] [W.Dram] [W.Tags] [W.VecMask] [W.Held] [W.Air] [W.Arb] [W.Lk] [W.Gn] [W.Ls] [W.Mot] [W.Clk] [W.Met] [W.Key] [W.Dbg] [W.Boot] [∀ b, W.In b] (s : State) (a1 : RegWr) (a2 : WrExt)  : (State.blockAct s a1 a2).rest W = s.rest W := by
  unfold State.blockAct
  dsimp only
  (repeat' split) <;> simp only [State.vecAck_rest, State.doit_rest, execReturnReq_rest, State.surveyStart_rest, execSpiTxnGo_rest, execFaultClr_rest, execBankArm_rest, execBankCancel_rest, State.lostClr_rest, State.hostBump_rest, execStopReq_rest, State.freezeWrite_rest, State.lwClr_rest, State.qevClr_rest, execPairKick_rest, State.warm_rest, execLcRetire_rest, State.powerTo_rest, execTokOpen_rest, execTokGo_rest, execTokRelease_rest, execAttGo_rest, execDbgOpenObserve_rest, execDbgOpenFull_rest, execCertGo_rest, execDbgEnd_rest, execBootOk_rest, execUpdVerify_rest, execUpdProgram_rest, execUpdCancel_rest, execRcvGo_rest, rest_next, implies_true, State.each_rest, State.on_rest]

@[simp] theorem State.refuseRwl_rest {W : Touch} [W.Log] [W.In .fault] (s : State) (a1 : Src) (a2 : Nat) (a3 : optParam Nat 0)  : (State.refuseRwl s a1 a2 a3).rest W = s.rest W := by
  have ⟨_, _, _, _, _⟩ := Touch.logIns W
  unfold State.refuseRwl
  simp only [State.sysEvent_rest, State.inc_rest, rest_next, ite_self, implies_true, State.each_rest, State.on_rest, apply_ite (State.rest _), apply_ite (Res.rest _), apply_ite Prod.fst, apply_ite Prod.snd]

@[simp] theorem State.enOn_rest {W : Touch} [W.Level] [W.Fresh] [W.Air] [W.Arb] [W.In .airport] [W.In .boot] [W.In .dram] [W.In .pair] [W.In .regionCtl] (s : State) (a1 : Page) [W.In a1.blk] : (State.enOn s a1).rest W = s.rest W := by
  have ⟨_, _, _, _, _, _, _, _, _, _, _, _⟩ := Touch.levelIns W
  unfold State.enOn
  simp only [State.inc_rest, State.setP_rest, State.startBlock_rest, rest_next, ite_self, implies_true, State.each_rest, State.on_rest, apply_ite (State.rest _), apply_ite (Res.rest _), apply_ite Prod.fst, apply_ite Prod.snd]

@[simp] theorem State.enOff_rest {W : Touch} [W.Level] [W.Fresh] [W.Tags] [W.VecMask] [W.Held] [W.Air] [W.Arb] [W.Lk] [W.Gn] [W.Ls] [W.Mot] [W.Met] [∀ b, W.In b] (s : State) (a1 : Page)  : (State.enOff s a1).rest W = s.rest W := by
  unfold State.enOff
  simp only [State.inc_rest, State.setP_rest, State.stopBlock_rest, State.svcDown_rest, rest_next, ite_self, implies_true, State.each_rest, State.on_rest, apply_ite (State.rest _), apply_ite (Res.rest _), apply_ite Prod.fst, apply_ite Prod.snd]

@[simp] theorem State.writeEn_rest {W : Touch} [W.Level] [W.Fresh] [W.Tags] [W.VecMask] [W.Held] [W.Air] [W.Arb] [W.Lk] [W.Gn] [W.Ls] [W.Mot] [W.Met] [∀ b, W.In b] (s : State) (a1 : Src) (a2 : Page) (a3 : Bool)  : (State.writeEn s a1 a2 a3).rest W = s.rest W := by
  unfold State.writeEn
  simp only [State.refuseRwl_rest, State.enOn_rest, State.enOff_rest, rest_next, ite_self, implies_true, State.each_rest, State.on_rest, apply_ite (State.rest _), apply_ite (Res.rest _), apply_ite Prod.fst, apply_ite Prod.snd]

@[simp] theorem execCtrlRestart_rest {W : Touch} [W.Level] [W.Air] [W.Arb] [W.In .airport] [W.In .regionCtl] (a0 : Page) (s : State) [W.In a0.blk] : Res.rest W (execCtrlRestart a0 s) = some (s.rest W) := by
  have ⟨_, _, _, _, _, _, _, _, _, _, _, _⟩ := Touch.levelIns W
  unfold execCtrlRestart
  simp only [State.goState_rest, State.setP_rest, rest_next, ite_self, implies_true, State.each_rest, State.on_rest, apply_ite (State.rest _), apply_ite (Res.rest _), apply_ite Prod.fst, apply_ite Prod.snd]

@[simp] theorem execIsoClear_rest {W : Touch}  (a0 : Page) (s : State) [W.In a0.blk] : Res.rest W (execIsoClear a0 s) = some (s.rest W) := by
  unfold execIsoClear
  simp only [State.setPage_rest, rest_next, ite_self, implies_true, State.each_rest, State.on_rest, apply_ite (State.rest _), apply_ite (Res.rest _), apply_ite Prod.fst, apply_ite Prod.snd]

@[simp] theorem State.noteCellErr_rest {W : Touch}  (s : State) (a1 : Page) (a2 : Nat) (a3 : Nat) [W.In a1.blk] : (State.noteCellErr s a1 a2 a3).rest W = s.rest W := by
  unfold State.noteCellErr
  simp only [State.setPage_rest, rest_next, ite_self, implies_true, State.each_rest, State.on_rest, apply_ite (State.rest _), apply_ite (Res.rest _), apply_ite Prod.fst, apply_ite Prod.snd]

@[simp] theorem State.rtkShow_rest {W : Touch} [W.In .rtkCtrl] (s : State)  : (State.rtkShow s).rest W = s.rest W := by
  unfold State.rtkShow
  simp only [State.set_rest, rest_next, ite_self, implies_true, State.each_rest, State.on_rest, apply_ite (State.rest _), apply_ite (Res.rest _), apply_ite Prod.fst, apply_ite Prod.snd]

@[simp] theorem State.giveUp_rest {W : Touch} [W.VecSent] [W.Out] [W.Rtk] [W.In .pcie] [W.In .rtkCtrl] [W.In .solver] (s : State) (a1 : Nat)  : (State.giveUp s a1).rest W = s.rest W := by
  unfold State.giveUp
  dsimp only
  (repeat' split) <;> simp only [State.set_rest, State.irq_rest, State.inc_rest, State.rtkShow_rest, State.rest_rtk, rest_next, implies_true, State.each_rest, State.on_rest]

@[simp] theorem State.fifoGone_rest {W : Touch} [W.Log] [W.Fresh] [W.In .regionCtl] (s : State) (a1 : Page) (a2 : Nat) [W.In a1.blk] : (State.fifoGone s a1 a2).rest W = s.rest W := by
  have ⟨_, _, _, _, _⟩ := Touch.logIns W
  unfold State.fifoGone
  simp only [State.free_rest, State.setPage_rest, State.errReport_rest, rest_next, ite_self, implies_true, State.each_rest, State.on_rest, apply_ite (State.rest _), apply_ite (Res.rest _), apply_ite Prod.fst, apply_ite Prod.snd]

@[simp] theorem State.meterCellGone_rest {W : Touch} [W.VecSent] [W.Out] [W.Pair] [W.In .meter] [W.In .pcie] (s : State)  : (State.meterCellGone s).rest W = s.rest W := by
  unfold State.meterCellGone
  simp only [State.setTe_rest, State.irq_rest, rest_next, ite_self, implies_true, State.each_rest, State.on_rest, apply_ite (State.rest _), apply_ite (Res.rest _), apply_ite Prod.fst, apply_ite Prod.snd]

@[simp] theorem State.svcFault_rest {W : Touch} [W.Log] [W.Air] [W.Pair] [W.Disp] [W.In .airport] [W.In .core] [W.In .dispatch] [W.In .registry] (s : State) (a1 : Nat)  : (State.svcFault s a1).rest W = s.rest W := by
  have ⟨_, _, _, _, _⟩ := Touch.logIns W
  unfold State.svcFault
  simp only [State.newPeriod_rest, State.notice_rest, State.set_rest, State.regCounts_rest, State.holdMember_rest, rest_next, ite_self, implies_true, State.each_rest, State.on_rest, apply_ite (State.rest _), apply_ite (Res.rest _), apply_ite Prod.fst, apply_ite Prod.snd]

@[simp] theorem State.routeShow_rest {W : Touch} [W.In .route] (s : State)  : (State.routeShow s).rest W = s.rest W := by
  unfold State.routeShow
  simp only [State.set_rest, rest_next, ite_self, implies_true, State.each_rest, State.on_rest, apply_ite (State.rest _), apply_ite (Res.rest _), apply_ite Prod.fst, apply_ite Prod.snd]

@[simp] theorem State.setRoute_rest {W : Touch} [W.Dram] [W.Pair] [W.Clk] [W.In .route] (s : State) (a1 : Nat) (a2 : Nat)  : (State.setRoute s a1 a2).rest W = s.rest W := by
  unfold State.setRoute
  simp only [State.setTe_rest, State.dramWrite_rest, State.routeShow_rest, rest_next, ite_self, implies_true, State.each_rest, State.on_rest, apply_ite (State.rest _), apply_ite (Res.rest _), apply_ite Prod.fst, apply_ite Prod.snd]

@[simp] theorem State.setBank_rest {W : Touch} [W.In .route] (s : State) (a1 : Nat) (a2 : Nat)  : (State.setBank s a1 a2).rest W = s.rest W := by
  unfold State.setBank
  simp only [State.set_rest, rest_next, ite_self, implies_true, State.each_rest, State.on_rest, apply_ite (State.rest _), apply_ite (Res.rest _), apply_ite Prod.fst, apply_ite Prod.snd]

@[simp] theorem State.routeInsert_rest {W : Touch} [W.Dram] [W.Pair] [W.Clk] [W.In .route] (s : State) (a1 : Nat)  : (State.routeInsert s a1).2.rest W = s.rest W := by
  unfold State.routeInsert
  (repeat' split) <;> simp only [State.setRoute_rest, rest_next, implies_true, State.each_rest, State.on_rest]

@[simp] theorem State.bankLost_rest {W : Touch} [W.Log] [W.Dram] [W.Pair] [W.Clk] [W.In .route] (s : State) (a1 : Nat)  : (State.bankLost s a1).rest W = s.rest W := by
  have ⟨_, _, _, _, _⟩ := Touch.logIns W
  unfold State.bankLost
  dsimp only
  (repeat' split) <;> simp only [State.setRoute_rest, State.setBank_rest, State.routeInsert_rest, State.notice_rest, rest_next, implies_true, State.each_rest, State.on_rest]

@[simp] theorem State.seenShow_rest {W : Touch} [W.In .flood] (s : State)  : (State.seenShow s).rest W = s.rest W := by
  unfold State.seenShow
  simp only [State.set_rest, rest_next, ite_self, implies_true, State.each_rest, State.on_rest, apply_ite (State.rest _), apply_ite (Res.rest _), apply_ite Prod.fst, apply_ite Prod.snd]

@[simp] theorem State.cellHook_rest {W : Touch} [W.Log] [W.Dram] [W.Tags] [W.Held] [W.Air] [W.Pair] [W.Gn] [W.Disp] [W.Ls] [W.Mot] [W.Rtk] [W.Rt] [W.Clk] [∀ b, W.In b] (s : State) (a1 : Page) (a2 : Nat)  : (State.cellHook s a1 a2).rest W = s.rest W := by
  unfold State.cellHook
  dsimp only
  (repeat' split) <;> simp only [State.setChan_rest, State.meterCellGone_rest, State.rtkShow_rest, State.set_rest, State.giveUp_rest, State.svcFault_rest, State.bankLost_rest, State.seenShow_rest, State.abortCore_rest, State.rest_rt, rest_next, implies_true, State.each_rest, State.on_rest]

@[simp] theorem State.removeCell_rest {W : Touch}  (s : State) (a1 : Page) (a2 : Nat) [W.In a1.blk] : (State.removeCell s a1 a2).rest W = s.rest W := by
  unfold State.removeCell
  simp only [State.setP_rest, State.setPage_rest, rest_next, ite_self, implies_true, State.each_rest, State.on_rest, apply_ite (State.rest _), apply_ite (Res.rest _), apply_ite Prod.fst, apply_ite Prod.snd]

@[simp] theorem State.cellGone_rest {W : Touch} [W.Level] [W.Dram] [W.Tags] [W.Held] [W.Air] [W.Arb] [W.Gn] [W.Ls] [W.Mot] [W.Rt] [W.Clk] [∀ b, W.In b] (s : State) (a1 : Page) (a2 : Nat)  : (State.cellGone s a1 a2).rest W = s.rest W := by
  unfold State.cellGone
  simp only [State.cellHook_rest, State.removeCell_rest, State.enterFault_rest, rest_next, ite_self, implies_true, State.each_rest, State.on_rest, apply_ite (State.rest _), apply_ite (Res.rest _), apply_ite Prod.fst, apply_ite Prod.snd]

@[simp] theorem State.regionFailed_rest {W : Touch} [W.VecSent] [W.Out] [W.In .fault] [W.In .pcie] (s : State) (a1 : Nat)  : (State.regionFailed s a1).rest W = s.rest W := by
  unfold State.regionFailed
  simp only [State.set_rest, State.irq_rest, rest_next, ite_self, implies_true, State.each_rest, State.on_rest, apply_ite (State.rest _), apply_ite (Res.rest _), apply_ite Prod.fst, apply_ite Prod.snd]

@[simp] theorem State.dropQueue_rest {W : Touch} [W.Rtk] [W.In .rtkCtrl] (s : State) (a1 : MEpoch → Bool)  : (State.dropQueue s a1).rest W = s.rest W := by
  unfold State.dropQueue
  simp only [State.rtkShow_rest, State.rest_rtk, rest_next, ite_self, implies_true, State.each_rest, State.on_rest, apply_ite (State.rest _), apply_ite (Res.rest _), apply_ite Prod.fst, apply_ite Prod.snd]

@[simp] theorem State.obsClear_rest {W : Touch} [W.Rtk] [W.In .obsIn] [W.In .rtkCtrl] (s : State)  : (State.obsClear s).rest W = s.rest W := by
  unfold State.obsClear
  simp only [State.dropQueue_rest, State.incP_rest, rest_next, ite_self, implies_true, State.each_rest, State.on_rest, apply_ite (State.rest _), apply_ite (Res.rest _), apply_ite Prod.fst, apply_ite Prod.snd]

@[simp] theorem State.rtkClear_rest {W : Touch} [W.Pair] [W.Rtk] [W.In .rtkCtrl] (s : State)  : (State.rtkClear s).rest W = s.rest W := by
  unfold State.rtkClear
  simp only [State.clearTable_rest, State.rtkShow_rest, State.rest_rtk, rest_next, ite_self, implies_true, State.each_rest, State.on_rest, apply_ite (State.rest _), apply_ite (Res.rest _), apply_ite Prod.fst, apply_ite Prod.snd]

@[simp] theorem State.dispRestart_rest {W : Touch} [W.Log] [W.Tags] [W.Held] [W.Air] [W.Pair] [W.Disp] [W.Ls] [W.Mot] [∀ b, W.In b] (s : State)  : (State.dispRestart s).rest W = s.rest W := by
  unfold State.dispRestart
  simp only [State.abortCore_rest, State.dispShow_rest, State.incP_rest, State.rest_disp, rest_next, ite_self, implies_true, State.each_rest, State.on_rest, apply_ite (State.rest _), apply_ite (Res.rest _), apply_ite Prod.fst, apply_ite Prod.snd]

@[simp] theorem State.resetCore_rest {W : Touch} [W.Log] [W.Tags] [W.Held] [W.Air] [W.Pair] [W.Disp] [W.Ls] [W.Mot] [∀ b, W.In b] (s : State) (a1 : Nat)  : (State.resetCore s a1).rest W = s.rest W := by
  unfold State.resetCore
  simp only [State.abortCore_rest, State.bump_rest, rest_next, ite_self, implies_true, State.each_rest, State.on_rest, apply_ite (State.rest _), apply_ite (Res.rest _), apply_ite Prod.fst, apply_ite Prod.snd]

@[simp] theorem State.clearBlock_rest {W : Touch} [W.Log] [W.Dram] [W.Tags] [W.Hg] [W.Held] [W.Air] [W.Lk] [W.Pair] [W.Gn] [W.Disp] [W.Ls] [W.Mot] [W.Rtk] [W.Rt] [W.Clk] [∀ b, W.In b] (s : State) (a1 : Page)  : (State.clearBlock s a1).rest W = s.rest W := by
  unfold State.clearBlock
  (repeat' split) <;> simp only [State.portDown_rest, State.gnssBlock_rest, State.obsClear_rest, State.giveUp_rest, State.rtkClear_rest, State.set_rest, State.clearTable_rest, State.setRoute_rest, State.seenShow_rest, State.abortXfer_rest, State.leaseShow_rest, State.irq_rest, State.dropSeq_rest, State.dispRestart_rest, State.resetCore_rest, State.setEth_rest, State.rest_fq_lk, State.rest_ls, State.rest_rt, State.rest_rtk, rest_next, implies_true, State.each_rest, State.on_rest]

@[simp] theorem State.scrubLoss_rest {W : Touch} [W.Log] [W.Fresh] [W.Pair] [W.In .graph] [W.In .lease] [W.In .regionCtl] [W.In .registry] [W.In .route] [W.In .turnout] (s : State) (a1 : Page) (a2 : Nat × Nat) [W.In a1.blk] : (State.scrubLoss s a1 a2).rest W = s.rest W := by
  have ⟨_, _, _, _, _⟩ := Touch.logIns W
  unfold State.scrubLoss
  dsimp only
  (repeat' split) <;> simp only [State.free_rest, State.errReport_rest, State.set_rest, State.graphShow_rest, State.turnShow_rest, State.routeShow_rest, State.regCounts_rest, State.rest_tblset, State.rest_tbldel, State.rest_tblclr, State.rest_tbl, rest_next, implies_true, State.each_rest, State.on_rest]

@[simp] theorem State.failedBlock_rest {W : Touch} [W.In .regionCtl] (s : State) (a1 : Page) (a2 : Bool)  : (State.failedBlock s a1 a2).rest W = s.rest W := by
  unfold State.failedBlock
  simp only [State.set_rest, rest_next, ite_self, implies_true, State.each_rest, State.on_rest, apply_ite (State.rest _), apply_ite (Res.rest _), apply_ite Prod.fst, apply_ite Prod.snd]

@[simp] theorem State.isolate_rest {W : Touch} [W.Level] [W.Fresh] [W.Dram] [W.Tags] [W.VecMask] [W.Held] [W.Air] [W.Arb] [W.Lk] [W.Gn] [W.Ls] [W.Mot] [W.Rt] [W.Clk] [W.Met] [∀ b, W.In b] (s : State) (a1 : Page) (a2 : List (Nat × Nat)) (a3 : List Nat)  : (State.isolate s a1 a2 a3).rest W = s.rest W := by
  unfold State.isolate
  simp only [State.abortHeld_rest, State.leaveOn_rest, State.setP_rest, State.setPage_rest, State.clearBlock_rest, State.setBank_rest, State.scrubLoss_rest, State.goState_rest, State.failedBlock_rest, rest_next, ite_self, implies_true, State.each_rest, State.on_rest, apply_ite (State.rest _), apply_ite (Res.rest _), apply_ite Prod.fst, apply_ite Prod.snd]

@[simp] theorem State.powerDown_rest {W : Touch} [W.Level] [W.Fresh] [W.Dram] [W.Tags] [W.VecMask] [W.Held] [W.Air] [W.Arb] [W.Lk] [W.Gn] [W.Ls] [W.Mot] [W.Rt] [W.Clk] [W.Met] [∀ b, W.In b] (s : State) (a1 : Page)  : (State.powerDown s a1).rest W = s.rest W := by
  unfold State.powerDown
  simp only [State.isolate_rest, State.sramLost_rest, State.failedBlock_rest, State.setPage_rest, rest_next, ite_self, implies_true, State.each_rest, State.on_rest, apply_ite (State.rest _), apply_ite (Res.rest _), apply_ite Prod.fst, apply_ite Prod.snd]

@[simp] theorem State.regionFailing_rest {W : Touch} [W.Level] [W.Fresh] [W.Dram] [W.Tags] [W.VecMask] [W.Held] [W.Air] [W.Arb] [W.Lk] [W.Gn] [W.Ls] [W.Mot] [W.Rt] [W.Clk] [W.Met] [∀ b, W.In b] (s : State) (a1 : Nat) (a2 : Nat)  : (State.regionFailing s a1 a2).rest W = s.rest W := by
  unfold State.regionFailing
  simp only [State.regionFailed_rest, State.handOver_rest, State.abortXfer_rest, State.recompute_rest, State.powerDown_rest, rest_next, ite_self, implies_true, State.each_rest, State.on_rest, apply_ite (State.rest _), apply_ite (Res.rest _), apply_ite Prod.fst, apply_ite Prod.snd]

@[simp] theorem State.tearFuse_rest {W : Touch} [W.Fresh] [W.Key] [W.In .fuse] (s : State)  : (State.tearFuse s).rest W = s.rest W := by
  unfold State.tearFuse
  grind [State.set_rest, State.free_rest, State.rest_key, rest_next]

@[simp] theorem State.expireSlots_rest {W : Touch} [W.Pair] [W.In .frameSec] [W.In .keystore] (s : State)  : (State.expireSlots s).rest W = s.rest W := by
  unfold State.expireSlots
  simp only [State.zeroise_rest, rest_next, ite_self, implies_true, State.each_rest, State.on_rest, apply_ite (State.rest _), apply_ite (Res.rest _), apply_ite Prod.fst, apply_ite Prod.snd]

@[simp] theorem State.lifeOff_rest {W : Touch} [∀ b, W.In b] (s : State)  : (State.lifeOff s).rest W = s.rest W := by
  unfold State.lifeOff
  simp only [State.setP_rest, rest_next, ite_self, implies_true, State.each_rest, State.on_rest, apply_ite (State.rest _), apply_ite (Res.rest _), apply_ite Prod.fst, apply_ite Prod.snd]

@[simp] theorem State.resetMain_rest {W : Touch} [W.All] [∀ b, W.In b] (s : State) (powered : Bool) : (s.resetMain powered).rest W = s.rest W :=
  State.rest_all s _ _ _ _ _ _ _ _ _ _ _ _ _ _ _ _ _ _ _ _ _ _ _ _ _ _ _ _ _ _ _ _ _ _ _ _ _

@[simp] theorem State.totalsShow_rest {W : Touch} [W.Pair] [W.In .meter] (s : State) (a1 : Nat)  : (State.totalsShow s a1).rest W = s.rest W := by
  unfold State.totalsShow
  simp only [State.setTe_rest, rest_next, ite_self, implies_true, State.each_rest, State.on_rest, apply_ite (State.rest _), apply_ite (Res.rest _), apply_ite Prod.fst, apply_ite Prod.snd]

@[simp] theorem State.foundGap_rest {W : Touch} [W.Log] (s : State) (lost : List FoundRec) : (s.foundGap lost).rest W = s.rest W := by
  have ⟨_, _, _, _, _⟩ := Touch.logIns W
  unfold State.foundGap
  refine State.each_rest _ _ _ fun t a => ?_
  split
  · rfl
  · exact (State.inc_rest _ C.EVLOG_FOUND_GAP _ _).trans (State.sysEvent_rest ..)

@[simp] theorem State.metRestored_rest {W : Touch} [W.VecSent] [W.Out] [W.In .meter] [W.In .pcie] (s : State)  : (State.metRestored s).rest W = s.rest W := by
  unfold State.metRestored
  simp only [State.set_rest, State.irq_rest, rest_next, ite_self, implies_true, State.each_rest, State.on_rest, apply_ite (State.rest _), apply_ite (Res.rest _), apply_ite Prod.fst, apply_ite Prod.snd]

@[simp] theorem State.seqJump_rest {W : Touch} [W.Log] (s : State)  : (State.seqJump s).rest W = s.rest W := by
  have ⟨_, _, _, _, _⟩ := Touch.logIns W
  unfold State.seqJump
  simp only [State.sysEvent_rest, State.irq_rest, rest_next, ite_self, implies_true, State.each_rest, State.on_rest, apply_ite (State.rest _), apply_ite (Res.rest _), apply_ite Prod.fst, apply_ite Prod.snd]

@[simp] theorem State.chipReset_rest {W : Touch} [W.All] [∀ b, W.In b] (s : State) (a1 : Nat) (a2 : optParam Bool true)  : (State.chipReset s a1 a2).rest W = s.rest W := by
  unfold State.chipReset
  simp only [State.pqTruncate_rest, State.emit_rest, State.tearFuse_rest, State.expireSlots_rest, State.lifeOff_rest, State.set_rest, State.resetMain_rest, State.totalsShow_rest, State.foundGap_rest, State.metRestored_rest, State.seqJump_rest, State.foundStatus_rest, State.recompute_rest, State.raiseCause_rest, State.secShow_rest, State.rest_tblset, State.rest_tbldel, State.rest_tblclr, State.rest_tbl, rest_next, ite_self, implies_true, State.each_rest, State.on_rest, apply_ite (State.rest _), apply_ite (Res.rest _), apply_ite Prod.fst, apply_ite Prod.snd]

@[simp] theorem State.chipStop_rest {W : Touch} [W.All] [∀ b, W.In b] (s : State) (a1 : Nat) (a2 : Nat)  : (State.chipStop s a1 a2).rest W = s.rest W := by
  unfold State.chipStop
  simp only [State.chipReset_rest, State.handOver_rest, State.raiseCause_rest, rest_next, ite_self, implies_true, State.each_rest, State.on_rest, apply_ite (State.rest _), apply_ite (Res.rest _), apply_ite Prod.fst, apply_ite Prod.snd]

@[simp] theorem State.cellError_rest {W : Touch} [W.All] [∀ b, W.In b] (s : State) (a1 : Page) (a2 : Nat) (a3 : Nat) (a4 : Nat) (a5 : Bool) (a6 : Nat) (a7 : Nat) (a8 : Nat)  : (State.cellError s a1 a2 a3 a4 a5 a6 a7 a8).rest W = s.rest W := by
  unfold State.cellError
  simp only [State.recompute_rest, State.stateCompare_rest, State.gateFault_rest, State.errReport_rest, State.noteCellErr_rest, State.giveUp_rest, State.fifoGone_rest, State.cellGone_rest, State.regionFailing_rest, State.chipStop_rest, State.enterFault_rest, rest_next, ite_self, implies_true, State.each_rest, State.on_rest, apply_ite (State.rest _), apply_ite (Res.rest _), apply_ite Prod.fst, apply_ite Prod.snd]

@[simp] theorem State.errInject_rest {W : Touch} [W.All] [∀ b, W.In b] (s : State) (a1 : Src) (a2 : Page) (a3 : Nat) (a4 : Nat)  : (State.errInject s a1 a2 a3 a4).rest W = s.rest W := by
  unfold State.errInject
  simp only [State.refuseRwl_rest, State.cellError_rest, rest_next, ite_self, implies_true, State.each_rest, State.on_rest, apply_ite (State.rest _), apply_ite (Res.rest _), apply_ite Prod.fst, apply_ite Prod.snd]

@[simp] theorem State.headerAct_rest {W : Touch} [W.All] [∀ b, W.In b] (s : State) (a1 : RegWr)  : (State.headerAct s a1).rest W = s.rest W := by
  unfold State.headerAct
  dsimp only
  (repeat' split) <;> simp only [State.writeEn_rest, State.doit_rest, execCtrlRestart_rest, execIsoClear_rest, State.errInject_rest, State.irqBits_rest, State.setP_rest, rest_next, implies_true, State.each_rest, State.on_rest]

@[simp] theorem State.clearW1c_rest {W : Touch} [∀ b, W.In b] (s : State) (a1 : RegWr)  : (State.clearW1c s a1).rest W = s.rest W := by
  unfold State.clearW1c
  simp only [State.setReg_rest, State.setReg_adr_rest, State.setReg_fld_rest, State.setReg_sts_rest, State.setReg_cmd_rest, rest_next, ite_self, implies_true, State.each_rest, State.on_rest, apply_ite (State.rest _), apply_ite (Res.rest _), apply_ite Prod.fst, apply_ite Prod.snd]

@[simp] theorem State.clearErr_rest {W : Touch} [∀ b, W.In b] (s : State) (a1 : RegWr)  : (State.clearErr s a1).rest W = s.rest W := by
  unfold State.clearErr
  simp only [State.clearW1c_rest, State.setPage_rest, State.set_rest, rest_next, ite_self, implies_true, State.each_rest, State.on_rest, apply_ite (State.rest _), apply_ite (Res.rest _), apply_ite Prod.fst, apply_ite Prod.snd]

@[simp] theorem State.clearIrq_rest {W : Touch} [W.VecSent] [W.Out] [∀ b, W.In b] (s : State) (a1 : RegWr)  : (State.clearIrq s a1).rest W = s.rest W := by
  unfold State.clearIrq
  simp only [State.clearW1c_rest, State.irq_rest, rest_next, ite_self, implies_true, State.each_rest, State.on_rest, apply_ite (State.rest _), apply_ite (Res.rest _), apply_ite Prod.fst, apply_ite Prod.snd]

@[simp] theorem State.spoofClear_rest {W : Touch} [W.In .gnssMeas] (s : State)  : (State.spoofClear s).rest W = s.rest W := by
  unfold State.spoofClear
  simp only [State.set_rest, rest_next, ite_self, implies_true, State.each_rest, State.on_rest, apply_ite (State.rest _), apply_ite (Res.rest _), apply_ite Prod.fst, apply_ite Prod.snd]

@[simp] theorem State.w1cAct_rest {W : Touch} [W.VecSent] [W.Out] [∀ b, W.In b] (s : State) (a1 : RegWr)  : (State.w1cAct s a1).rest W = s.rest W := by
  fun_cases State.w1cAct <;> simp_all [State.clearErr_rest, State.clearIrq_rest, State.spoofClear_rest, State.clearW1c_rest]

@[simp] theorem State.applyWrite_rest {W : Touch} [W.All] [∀ b, W.In b] (s : State) (a1 : RegWr) (a2 : WrExt)  : (State.applyWrite s a1 a2).rest W = s.rest W := by
  unfold State.applyWrite
  simp only [State.storeFields_rest, State.afterStore_rest, State.blockAct_rest, State.headerAct_rest, State.w1cAct_rest, rest_next, ite_self, implies_true, State.each_rest, State.on_rest, apply_ite (State.rest _), apply_ite (Res.rest _), apply_ite Prod.fst, apply_ite Prod.snd]

@[simp] theorem State.arbGap_rest {W : Touch} [W.Arb] (s : State) (a1 : Nat)  : (State.arbGap s a1).rest W = s.rest W := by
  unfold State.arbGap
  simp only [State.rest_arb, rest_next, ite_self, implies_true, State.each_rest, State.on_rest, apply_ite (State.rest _), apply_ite (Res.rest _), apply_ite Prod.fst, apply_ite Prod.snd]

@[simp] theorem State.archLose_rest {W : Touch} [W.VecSent] [W.Out] [W.Gn] [W.In .dram] [W.In .pcie] (s : State)  : (State.archLose s).rest W = s.rest W := by
  unfold State.archLose
  simp only [State.irq_rest, State.incLost_rest, State.rest_gn, rest_next, ite_self, implies_true, State.each_rest, State.on_rest, apply_ite (State.rest _), apply_ite (Res.rest _), apply_ite Prod.fst, apply_ite Prod.snd]

@[simp] theorem State.archRoom_rest {W : Touch} [W.VecSent] [W.Out] [W.Gn] [W.In .dram] [W.In .pcie] (s : State) (head need k : Nat) : (s.archRoom head need k).rest W = s.rest W := by
  induction k generalizing s with
  | zero => rfl
  | succ k ih =>
    unfold State.archRoom
    refine ite_rest rfl ?_
    split
    · rfl
    · exact (ih _).trans ((State.archLose_rest ..).trans (State.rest_gn s _))

@[simp] theorem State.archPut_rest {W : Touch} [W.Dram] [W.VecSent] [W.Out] [W.Gn] [W.Clk] [W.In .dram] [W.In .pcie] (s : State) (a1 : Nat) (a2 : List Nat)  : (State.archPut s a1 a2).rest W = s.rest W := by
  unfold State.archPut
  simp only [State.archRoom_rest, State.dramWrite_rest, State.rest_gn, rest_next, ite_self, implies_true, State.each_rest, State.on_rest, apply_ite (State.rest _), apply_ite (Res.rest _), apply_ite Prod.fst, apply_ite Prod.snd]

@[simp] theorem State.archive_rest {W : Touch} [W.Dram] [W.VecSent] [W.Out] [W.Gn] [W.Clk] [W.In .dram] [W.In .pcie] (s : State) (a1 : List Nat)  : (State.archive s a1).rest W = s.rest W := by
  unfold State.archive
  simp only [State.archLose_rest, State.archPut_rest, rest_next, ite_self, implies_true, State.each_rest, State.on_rest, apply_ite (State.rest _), apply_ite (Res.rest _), apply_ite Prod.fst, apply_ite Prod.snd]

@[simp] theorem State.sendGeom_rest {W : Touch} [W.Air] [W.Mot] (s : State) (a1 : Nat) (a2 : Nat) (a3 : Nat)  : (State.sendGeom s a1 a2 a3).rest W = s.rest W := by
  unfold State.sendGeom
  simp only [State.queueRecord_rest, State.setMotion_rest, rest_next, ite_self, implies_true, State.each_rest, State.on_rest, apply_ite (State.rest _), apply_ite (Res.rest _), apply_ite Prod.fst, apply_ite Prod.snd]

@[simp] theorem State.extendPath_rest {W : Touch} [W.Air] [W.Mot] (s : State) (a1 : Nat) (a2 : Nat)  : (State.extendPath s a1 a2).rest W = s.rest W := by
  fun_cases State.extendPath <;> simp only [State.sendGeom_rest, State.setMotion_rest, rest_next, implies_true, State.each_rest, State.on_rest]

@[simp] theorem State.extendPaths_rest {W : Touch} [W.Air] [W.Mot] (s : State) (a1 : Nat)  : (State.extendPaths s a1).rest W = s.rest W := by
  unfold State.extendPaths
  simp only [State.extendPath_rest, rest_next, ite_self, implies_true, State.each_rest, State.on_rest, apply_ite (State.rest _), apply_ite (Res.rest _), apply_ite Prod.fst, apply_ite Prod.snd]

@[simp] theorem State.moveDone_rest {W : Touch} [W.VecSent] [W.Fq] [W.Out] [W.Canal] [W.Pair] [W.Disp] [W.Mot] [W.In .canal] [W.In .core] [W.In .dispatch] [W.In .eth] [W.In .flume] [W.In .motion] [W.In .pcie] (s : State) (a1 : Nat) (a2 : Nat)  : (State.moveDone s a1 a2).rest W = s.rest W := by
  unfold State.moveDone
  simp only [State.inc_rest, State.freeMove_rest, State.item_rest, State.irq_rest, rest_next, ite_self, implies_true, State.each_rest, State.on_rest, apply_ite (State.rest _), apply_ite (Res.rest _), apply_ite Prod.fst, apply_ite Prod.snd]

@[simp] theorem State.truncActive_rest {W : Touch} [W.VecSent] [W.Fq] [W.Out] [W.Canal] [W.Pair] [W.Disp] [W.Mot] [W.In .canal] [W.In .core] [W.In .dispatch] [W.In .eth] [W.In .flume] [W.In .motion] [W.In .pcie] (s : State) (a1 : Nat) (a2 : Nat)  : (State.truncActive s a1 a2).rest W = s.rest W := by
  unfold State.truncActive
  dsimp only
  (repeat' split) <;> simp only [State.item_rest, State.inc_rest, State.moveDone_rest, State.setMove_rest, rest_next, implies_true, State.each_rest, State.on_rest]

@[simp] theorem State.passMoves_rest {W : Touch} [W.VecSent] [W.Fq] [W.Out] [W.Canal] [W.Pair] [W.Disp] [W.Mot] [W.In .canal] [W.In .core] [W.In .dispatch] [W.In .eth] [W.In .flume] [W.In .motion] [W.In .pcie] (s : State) (a1 : Nat) (a2 : PState)  : (State.passMoves s a1 a2).rest W = s.rest W := by
  unfold State.passMoves
  simp only [State.moveDone_rest, rest_next, ite_self, implies_true, State.each_rest, State.on_rest, apply_ite (State.rest _), apply_ite (Res.rest _), apply_ite Prod.fst, apply_ite Prod.snd]

@[simp] theorem State.plan_rest {W : Touch} [W.VecSent] [W.Fq] [W.Out] [W.Canal] [W.Air] [W.Pair] [W.Disp] [W.Mot] [W.In .canal] [W.In .core] [W.In .dispatch] [W.In .eth] [W.In .flume] [W.In .motion] [W.In .pcie] (s : State) (a1 : Asm) (a2 : Nat)  : (State.plan s a1 a2).2.rest W = s.rest W := by
  unfold State.plan
  simp only [State.setMotion_rest, State.extendPaths_rest, State.truncActive_rest, State.activate_rest, State.applyDec_rest, State.passMoves_rest, rest_next, ite_self, implies_true, State.each_rest, State.on_rest, apply_ite (State.rest _), apply_ite (Res.rest _), apply_ite Prod.fst, apply_ite Prod.snd]

@[simp] theorem State.motTable_rest {W : Touch} [W.Pair] [W.In .motion] (s : State) (a1 : Nat) (a2 : List Piece)  : (State.motTable s a1 a2).rest W = s.rest W := by
  unfold State.motTable
  simp only [State.setTe_rest, rest_next, ite_self, implies_true, State.each_rest, State.on_rest, apply_ite (State.rest _), apply_ite (Res.rest _), apply_ite Prod.fst, apply_ite Prod.snd]

@[simp] theorem State.assembleOne_rest {W : Touch} [W.VecSent] [W.Fq] [W.Out] [W.Canal] [W.Air] [W.Pair] [W.Disp] [W.Mot] [W.In .canal] [W.In .core] [W.In .dispatch] [W.In .eth] [W.In .flume] [W.In .motion] [W.In .pcie] (s : State) (a1 : Asm) (a2 : Nat)  : (State.assembleOne s a1 a2).2.rest W = s.rest W := by
  unfold State.assembleOne
  simp only [State.plan_rest, State.setMotion_rest, State.inc_rest, State.motTable_rest, rest_next, ite_self, implies_true, State.each_rest, State.on_rest, apply_ite (State.rest _), apply_ite (Res.rest _), apply_ite Prod.fst, apply_ite Prod.snd]

@[simp] theorem State.switchRef_rest {W : Touch} [W.VecSent] [W.Out] [W.Gn] [W.In .gnssMeas] [W.In .pcie] (s : State) (a1 : Nat)  : (State.switchRef s a1).rest W = s.rest W := by
  unfold State.switchRef
  simp only [State.irq_rest, State.set_rest, State.rest_gn, rest_next, ite_self, implies_true, State.each_rest, State.on_rest, apply_ite (State.rest _), apply_ite (Res.rest _), apply_ite Prod.fst, apply_ite Prod.snd]

@[simp] theorem State.autoRef_rest {W : Touch} [W.VecSent] [W.Out] [W.Gn] [W.In .gnssMeas] [W.In .pcie] (s : State) (a1 : List MeasRec)  : (State.autoRef s a1).rest W = s.rest W := by
  unfold State.autoRef
  simp only [State.switchRef_rest, State.rest_gn, rest_next, ite_self, implies_true, State.each_rest, State.on_rest, apply_ite (State.rest _), apply_ite (Res.rest _), apply_ite Prod.fst, apply_ite Prod.snd]

@[simp] theorem State.auxPortsDown_rest {W : Touch} [W.VecSent] [W.Fq] [W.Out] [W.Canal] [W.In .canal] [W.In .eth] [W.In .flume] [W.In .pcie] (s : State)  : (State.auxPortsDown s).rest W = s.rest W := by
  unfold State.auxPortsDown
  simp only [State.canalLeave_rest, State.ethLink_rest, rest_next, ite_self, implies_true, State.each_rest, State.on_rest, apply_ite (State.rest _), apply_ite (Res.rest _), apply_ite Prod.fst, apply_ite Prod.snd]

@[simp] theorem State.awaitDelta_rest {W : Touch} [W.Ls] (s : State) (a1 : Nat)  : (State.awaitDelta s a1).rest W = s.rest W := by
  unfold State.awaitDelta
  simp only [State.rest_ls, rest_next, ite_self, implies_true, State.each_rest, State.on_rest, apply_ite (State.rest _), apply_ite (Res.rest _), apply_ite Prod.fst, apply_ite Prod.snd]

@[simp] theorem State.tryCommit_rest {W : Touch} [W.VecSent] [W.Fq] [W.Out] [W.Canal] [W.Pair] [W.Disp] [W.Ls] [W.In .canal] [W.In .core] [W.In .dispatch] [W.In .eth] [W.In .flume] [W.In .lease] [W.In .pcie] (s : State) (a1 : Nat)  : (State.tryCommit s a1).rest W = s.rest W := by
  unfold State.tryCommit
  simp only [State.leSet_rest, State.sendLease_rest, State.leEvent_rest, State.rest_ls, rest_next, ite_self, implies_true, State.each_rest, State.on_rest, apply_ite (State.rest _), apply_ite (Res.rest _), apply_ite Prod.fst, apply_ite Prod.snd]

@[simp] theorem State.awaitLoaded_rest {W : Touch} [W.VecSent] [W.Fq] [W.Out] [W.Canal] [W.Pair] [W.Disp] [W.Ls] [W.In .canal] [W.In .core] [W.In .dispatch] [W.In .eth] [W.In .flume] [W.In .lease] [W.In .pcie] (s : State) (a1 : Nat)  : (State.awaitLoaded s a1).rest W = s.rest W := by
  unfold State.awaitLoaded
  simp only [State.tryCommit_rest, State.rest_ls, rest_next, ite_self, implies_true, State.each_rest, State.on_rest, apply_ite (State.rest _), apply_ite (Res.rest _), apply_ite Prod.fst, apply_ite Prod.snd]

@[simp] theorem State.baseEffects_rest {W : Touch} [W.Rtk] (s : State) (a1 : Epoch)  : (State.baseEffects s a1).rest W = s.rest W := by
  unfold State.baseEffects
  simp only [State.rest_rtk, rest_next, ite_self, implies_true, State.each_rest, State.on_rest, apply_ite (State.rest _), apply_ite (Res.rest _), apply_ite Prod.fst, apply_ite Prod.snd]

@[simp] theorem State.endBurst_rest {W : Touch} [W.Hg] [W.Air] [W.In .airport] [W.In .headgate] [W.In .sluice] (s : State) (a1 : Nat) (a2 : Burst) (a3 : Nat)  : (State.endBurst s a1 a2 a3).rest W = s.rest W := by
  unfold State.endBurst
  simp only [State.inc_rest, State.dropBurst_rest, State.rebuildSets_rest, State.setPort_rest, rest_next, ite_self, implies_true, State.each_rest, State.on_rest, apply_ite (State.rest _), apply_ite (Res.rest _), apply_ite Prod.fst, apply_ite Prod.snd]

@[simp] theorem State.stepBurst_rest {W : Touch} [W.Hg] [W.Air] [W.In .airport] [W.In .headgate] [W.In .sluice] (s : State) (a1 : Nat) (a2 : Burst) (a3 : Nat) (a4 : Nat)  : (State.stepBurst s a1 a2 a3 a4).rest W = s.rest W := by
  unfold State.stepBurst
  simp only [State.endBurst_rest, State.rest_hg, rest_next, ite_self, implies_true, State.each_rest, State.on_rest, apply_ite (State.rest _), apply_ite (Res.rest _), apply_ite Prod.fst, apply_ite Prod.snd]

@[simp] theorem State.noteFirstFrame_rest {W : Touch} [W.Hg] [W.In .headgate] (s : State)  : (State.noteFirstFrame s).rest W = s.rest W := by
  unfold State.noteFirstFrame
  dsimp only
  (repeat' split) <;> simp only [State.set_rest, State.rest_hg, rest_next, implies_true, State.each_rest, State.on_rest]

@[simp] theorem State.beaconForBurst_rest {W : Touch} [W.Hg] [W.Air] [W.In .airport] [W.In .headgate] [W.In .sluice] (s : State) (a1 : Nat) (a2 : Nat) (a3 : Nat)  : (State.beaconForBurst s a1 a2 a3).rest W = s.rest W := by
  unfold State.beaconForBurst
  dsimp only
  (repeat' split) <;> simp only [State.setPort_rest, State.stepBurst_rest, State.noteFirstFrame_rest, rest_next, implies_true, State.each_rest, State.on_rest]

@[simp] theorem State.rotSet_rest {W : Touch} [W.In .frameSec] (s : State) (a1 : Nat)  : (State.rotSet s a1).rest W = s.rest W := by
  unfold State.rotSet
  simp only [State.set_rest, rest_next, ite_self, implies_true, State.each_rest, State.on_rest, apply_ite (State.rest _), apply_ite (Res.rest _), apply_ite Prod.fst, apply_ite Prod.snd]

@[simp] theorem State.rotAuto_rest {W : Touch} [W.In .frameSec] (s : State)  : (State.rotAuto s).rest W = s.rest W := by
  unfold State.rotAuto
  simp only [State.rotSet_rest, rest_next, ite_self, implies_true, State.each_rest, State.on_rest, apply_ite (State.rest _), apply_ite (Res.rest _), apply_ite Prod.fst, apply_ite Prod.snd]

@[simp] theorem State.noteFcnt_rest {W : Touch} [W.VecSent] [W.Out] [W.In .frameSec] [W.In .pcie] (s : State) (a1 : Nat)  : (State.noteFcnt s a1).rest W = s.rest W := by
  unfold State.noteFcnt
  simp only [State.rotAuto_rest, State.irq_rest, State.set_rest, rest_next, ite_self, implies_true, State.each_rest, State.on_rest, apply_ite (State.rest _), apply_ite (Res.rest _), apply_ite Prod.fst, apply_ite Prod.snd]

@[simp] theorem State.nearSets_rest {W : Touch} [W.Hg] (s : State) (a1 : Nat)  : (State.nearSets s a1).rest W = s.rest W := by
  unfold State.nearSets
  simp only [State.rebuildSets_rest, rest_next, ite_self, implies_true, State.each_rest, State.on_rest, apply_ite (State.rest _), apply_ite (Res.rest _), apply_ite Prod.fst, apply_ite Prod.snd]

@[simp] theorem State.takeNums_rest {W : Touch} [W.VecSent] [W.Out] [W.Hg] [W.Air] [W.In .frameSec] [W.In .pcie] (s : State) (a1 : Nat)  : (State.takeNums s a1).2.2.rest W = s.rest W := by
  unfold State.takeNums
  simp only [State.noteFcnt_rest, State.nearSets_rest, State.rest_air, rest_next, ite_self, implies_true, State.each_rest, State.on_rest, apply_ite (State.rest _), apply_ite (Res.rest _), apply_ite Prod.fst, apply_ite Prod.snd]

@[simp] theorem State.strobes_rest {W : Touch} [W.Out] (s : State) (a1 : Nat) (a2 : Nat) (a3 : Nat)  : (State.strobes s a1 a2 a3).rest W = s.rest W := by
  unfold State.strobes
  simp only [State.emit_rest, rest_next, ite_self, implies_true, State.each_rest, State.on_rest, apply_ite (State.rest _), apply_ite (Res.rest _), apply_ite Prod.fst, apply_ite Prod.snd]

@[simp] theorem State.ppduAt_rest {W : Touch} [W.Out] [W.Air] [W.In .airport] (s : State) (a1 : Nat) (a2 : Nat) (a3 : Nat) (a4 : Nat)  : (State.ppduAt s a1 a2 a3 a4).rest W = s.rest W := by
  unfold State.ppduAt
  simp only [State.strobes_rest, State.inc_rest, State.setPort_rest, rest_next, ite_self, implies_true, State.each_rest, State.on_rest, apply_ite (State.rest _), apply_ite (Res.rest _), apply_ite Prod.fst, apply_ite Prod.snd]

@[simp] theorem State.ppduTx_rest {W : Touch} [W.Out] [W.Air] [W.In .airport] (s : State) (a1 : Nat) (a2 : Nat) (a3 : Nat)  : (State.ppduTx s a1 a2 a3).rest W = s.rest W := by
  unfold State.ppduTx
  simp only [State.ppduAt_rest, rest_next, ite_self, implies_true, State.each_rest, State.on_rest, apply_ite (State.rest _), apply_ite (Res.rest _), apply_ite Prod.fst, apply_ite Prod.snd]

@[simp] theorem State.putAir_rest {W : Touch} [W.Out] [W.Air] [W.In .airport] (s : State) (a1 : Nat) (a2 : AirFrame)  : (State.putAir s a1 a2).rest W = s.rest W := by
  unfold State.putAir
  simp only [State.ppduTx_rest, State.airEmit_rest, rest_next, ite_self, implies_true, State.each_rest, State.on_rest, apply_ite (State.rest _), apply_ite (Res.rest _), apply_ite Prod.fst, apply_ite Prod.snd]

@[simp] theorem State.sendZone_rest {W : Touch} [W.VecSent] [W.Out] [W.Hg] [W.Air] [W.In .airport] [W.In .frameSec] [W.In .pcie] (s : State) (a1 : Nat) (a2 : Nat) (a3 : Nat) (a4 : List Nat)  : (State.sendZone s a1 a2 a3 a4).rest W = s.rest W := by
  unfold State.sendZone
  simp only [State.takeNums_rest, State.putAir_rest, rest_next, ite_self, implies_true, State.each_rest, State.on_rest, apply_ite (State.rest _), apply_ite (Res.rest _), apply_ite Prod.fst, apply_ite Prod.snd]

@[simp] theorem State.beacon_rest {W : Touch} [W.VecSent] [W.Out] [W.Hg] [W.Air] [W.In .airport] [W.In .frameSec] [W.In .headgate] [W.In .pcie] [W.In .sluice] (s : State) (a1 : Nat) (a2 : Nat)  : (State.beacon s a1 a2).1.rest W = s.rest W := by
  unfold State.beacon
  simp only [State.irq_rest, State.inc_rest, State.beaconForBurst_rest, State.sendZone_rest, rest_next, ite_self, implies_true, State.each_rest, State.on_rest, apply_ite (State.rest _), apply_ite (Res.rest _), apply_ite Prod.fst, apply_ite Prod.snd]

@[simp] theorem State.lockFollow_rest {W : Touch} [W.Pair] [W.In .lease] [W.In .turnout] (s : State) (a1 : Nat)  : (State.lockFollow s a1).rest W = s.rest W := by
  unfold State.lockFollow
  simp only [State.turnShow_rest, State.leSet_rest, State.freeLock_rest, rest_next, ite_self, implies_true, State.each_rest, State.on_rest, apply_ite (State.rest _), apply_ite (Res.rest _), apply_ite Prod.fst, apply_ite Prod.snd]

@[simp] theorem State.locksFollow_rest {W : Touch} [W.Pair] [W.In .lease] [W.In .turnout] (s : State) (a1 : List Nat)  : (State.locksFollow s a1).rest W = s.rest W := by
  unfold State.locksFollow
  simp only [State.lockFollow_rest, rest_next, ite_self, implies_true, State.each_rest, State.on_rest, apply_ite (State.rest _), apply_ite (Res.rest _), apply_ite Prod.fst, apply_ite Prod.snd]

@[simp] theorem State.blockOwner_rest {W : Touch} [W.VecSent] [W.Fq] [W.Out] [W.Canal] [W.Pair] [W.Disp] [W.In .canal] [W.In .core] [W.In .dispatch] [W.In .eth] [W.In .flume] [W.In .pcie] [W.In .registry] (s : State) (a1 : Nat)  : (State.blockOwner s a1).rest W = s.rest W := by
  unfold State.blockOwner
  (repeat' split) <;> simp only [State.regCounts_rest, State.leEvent_rest, State.holdMember_rest, rest_next, implies_true, State.each_rest, State.on_rest]

@[simp] theorem State.blockAround_rest {W : Touch} [W.VecSent] [W.Fq] [W.Out] [W.Canal] [W.Pair] [W.Disp] [W.In .canal] [W.In .core] [W.In .dispatch] [W.In .eth] [W.In .flume] [W.In .pcie] [W.In .registry] (s : State) (a1 : Nat)  : (State.blockAround s a1).rest W = s.rest W := by
  unfold State.blockAround
  simp only [State.blockOwner_rest, rest_next, ite_self, implies_true, State.each_rest, State.on_rest, apply_ite (State.rest _), apply_ite (Res.rest _), apply_ite Prod.fst, apply_ite Prod.snd]

@[simp] theorem State.toOverstay_rest {W : Touch} [W.VecSent] [W.Fq] [W.Out] [W.Canal] [W.Pair] [W.Disp] [W.In .canal] [W.In .core] [W.In .dispatch] [W.In .eth] [W.In .flume] [W.In .lease] [W.In .pcie] [W.In .registry] [W.In .turnout] (s : State) (a1 : Nat)  : (State.toOverstay s a1).rest W = s.rest W := by
  unfold State.toOverstay
  dsimp only
  (repeat' split) <;> simp only [State.irq_rest, State.inc_rest, State.leSet_rest, State.takeSeq_rest, State.lockFollow_rest, State.blockAround_rest, State.leEvent_rest, State.sendLease_rest, State.leaseShow_rest, rest_next, implies_true, State.each_rest, State.on_rest]

@[simp] theorem State.freeStep_rest {W : Touch} [W.Pair] [W.Ls] [W.In .lease] (s : State) (a1 : Nat)  : (State.freeStep s a1).rest W = s.rest W := by
  unfold State.freeStep
  simp only [State.rechain_rest, State.freeLe_rest, rest_next, ite_self, implies_true, State.each_rest, State.on_rest, apply_ite (State.rest _), apply_ite (Res.rest _), apply_ite Prod.fst, apply_ite Prod.snd]

@[simp] theorem State.freeDecided_rest {W : Touch} [W.Log] [W.Pair] [W.Disp] [W.Ls] [W.Mot] [W.In .core] [W.In .dispatch] [W.In .lease] [W.In .motion] [W.In .turnout] (s : State) (a1 : Nat) (a2 : Nat)  : (State.freeDecided s a1 a2).rest W = s.rest W := by
  have ⟨_, _, _, _, _⟩ := Touch.logIns W
  unfold State.freeDecided
  dsimp only
  (repeat' split) <;> simp only [State.takeSeq_rest, State.leEvent_rest, State.sendLease_rest, State.freeStep_rest, State.lockFollow_rest, State.motTrunc_rest, State.leaseShow_rest, rest_next, implies_true, State.each_rest, State.on_rest]

@[simp] theorem State.stepDue_rest {W : Touch} [W.Log] [W.Pair] [W.Disp] [W.Ls] [W.Mot] [W.In .core] [W.In .dispatch] [W.In .lease] [W.In .motion] [W.In .registry] [W.In .turnout] (s : State) (a1 : Nat)  : (State.stepDue s a1).rest W = s.rest W := by
  have ⟨_, _, _, _, _⟩ := Touch.logIns W
  unfold State.stepDue
  simp only [State.toOverstay_rest, State.freeDecided_rest, State.inc_rest, rest_next, ite_self, implies_true, State.each_rest, State.on_rest, apply_ite (State.rest _), apply_ite (Res.rest _), apply_ite Prod.fst, apply_ite Prod.snd]

@[simp] theorem State.refreeze_rest {W : Touch} [W.Log] [W.Pair] [W.Disp] [W.Ls] [W.Mot] [W.In .core] [W.In .dispatch] [W.In .lease] [W.In .motion] [W.In .registry] [W.In .turnout] (s : State)  : (State.refreeze s).rest W = s.rest W := by
  have ⟨_, _, _, _, _⟩ := Touch.logIns W
  unfold State.refreeze
  simp only [State.leSet_rest, State.locksFollow_rest, State.stepDue_rest, rest_next, ite_self, implies_true, State.each_rest, State.on_rest, apply_ite (State.rest _), apply_ite (Res.rest _), apply_ite Prod.fst, apply_ite Prod.snd]

@[simp] theorem State.taskDeadline_rest {W : Touch} [W.VecSent] [W.Fq] [W.Out] [W.Canal] [W.Pair] [W.Disp] [W.In .canal] [W.In .core] [W.In .dispatch] [W.In .eth] [W.In .flume] [W.In .pcie] [W.In .taskboard] (s : State) (a1 : Nat)  : (State.taskDeadline s a1).rest W = s.rest W := by
  unfold State.taskDeadline
  simp only [State.inc_rest, State.taskTo_rest, rest_next, ite_self, implies_true, State.each_rest, State.on_rest, apply_ite (State.rest _), apply_ite (Res.rest _), apply_ite Prod.fst, apply_ite Prod.snd]

@[simp] theorem State.taskDeadlines_rest {W : Touch} [W.VecSent] [W.Fq] [W.Out] [W.Canal] [W.Pair] [W.Disp] [W.In .canal] [W.In .core] [W.In .dispatch] [W.In .eth] [W.In .flume] [W.In .pcie] [W.In .taskboard] (s : State)  : (State.taskDeadlines s).rest W = s.rest W := by
  unfold State.taskDeadlines
  simp only [State.taskDeadline_rest, rest_next, ite_self, implies_true, State.each_rest, State.on_rest, apply_ite (State.rest _), apply_ite (Res.rest _), apply_ite Prod.fst, apply_ite Prod.snd]

@[simp] theorem State.setLevel_rest {W : Touch} [W.Log] [W.Tags] [W.Hg] [W.Held] [W.Pair] [W.Disp] [W.Ls] [W.Mot] [W.Rtk] [W.In .core] [W.In .dispatch] [W.In .fault] [W.In .headgate] [W.In .lease] [W.In .motion] [W.In .obsIn] [W.In .registry] [W.In .rtkCtrl] [W.In .taskboard] [W.In .turnout] (s : State) (a1 : Nat)  : (State.setLevel s a1).rest W = s.rest W := by
  have ⟨_, _, _, _, _⟩ := Touch.logIns W
  unfold State.setLevel
  simp only [State.announce_rest, State.refreeze_rest, State.set_rest, State.taskDeadlines_rest, State.abortPreparing_rest, State.armCheck_rest, rest_next, ite_self, implies_true, State.each_rest, State.on_rest, apply_ite (State.rest _), apply_ite (Res.rest _), apply_ite Prod.fst, apply_ite Prod.snd]

@[simp] theorem State.levelAtBeacon_rest {W : Touch} [W.Level] [W.Tags] [W.Held] [W.Ls] [W.Mot] [W.In .lease] [W.In .motion] [W.In .taskboard] [W.In .turnout] (s : State)  : (State.levelAtBeacon s).rest W = s.rest W := by
  have ⟨_, _, _, _, _, _, _, _, _, _, _, _⟩ := Touch.levelIns W
  unfold State.levelAtBeacon
  simp only [State.setLevel_rest, State.rest_flt, rest_next, ite_self, implies_true, State.each_rest, State.on_rest, apply_ite (State.rest _), apply_ite (Res.rest _), apply_ite Prod.fst, apply_ite Prod.snd]

@[simp] theorem State.portBoundary_rest {W : Touch} [W.Log] [W.Hg] [W.Air] [W.Pair] [W.Disp] [W.In .airport] [W.In .core] [W.In .dispatch] [W.In .frameSec] [W.In .headgate] [W.In .registry] [W.In .sluice] (s : State) (a1 : Nat) (a2 : Nat)  : (State.portBoundary s a1 a2).rest W = s.rest W := by
  have ⟨_, _, _, _, _⟩ := Touch.logIns W
  unfold State.portBoundary
  simp only [State.beacon_rest, State.setPort_rest, State.set_rest, State.debugHold_rest, State.setSvc_rest, State.irq_rest, State.svcFault_rest, rest_next, ite_self, implies_true, State.each_rest, State.on_rest, apply_ite (State.rest _), apply_ite (Res.rest _), apply_ite Prod.fst, apply_ite Prod.snd]

@[simp] theorem State.latchPort_rest {W : Touch} [W.Hg] (s : State) (a1 : Nat)  : (State.latchPort s a1).rest W = s.rest W := by
  unfold State.latchPort
  simp only [State.rest_hg, rest_next, ite_self, implies_true, State.each_rest, State.on_rest, apply_ite (State.rest _), apply_ite (Res.rest _), apply_ite Prod.fst, apply_ite Prod.snd]

@[simp] theorem State.meterTake_rest {W : Touch} [W.Level] [W.Air] [W.Arb] [W.Met] [W.In .airport] [W.In .meter] [W.In .regionCtl] (s : State)  : (State.meterTake s).rest W = s.rest W := by
  have ⟨_, _, _, _, _, _, _, _, _, _, _, _⟩ := Touch.levelIns W
  unfold State.meterTake
  simp only [State.setP_rest, State.goState_rest, State.rest_met, rest_next, ite_self, implies_true, State.each_rest, State.on_rest, apply_ite (State.rest _), apply_ite (Res.rest _), apply_ite Prod.fst, apply_ite Prod.snd]

@[simp] theorem State.releaseLoaded_rest {W : Touch} [W.Out] [W.Canal] [W.Pair] [W.Ls] [W.In .canal] [W.In .lease] [W.In .turnout] (s : State) (a1 : Nat)  : (State.releaseLoaded s a1).rest W = s.rest W := by
  unfold State.releaseLoaded
  simp only [State.sendRelease_rest, State.freeFurrow_rest, State.takeSeq_rest, rest_next, ite_self, implies_true, State.each_rest, State.on_rest, apply_ite (State.rest _), apply_ite (Res.rest _), apply_ite Prod.fst, apply_ite Prod.snd]

@[simp] theorem State.takeZone_rest {W : Touch} [W.VecSent] [W.Fq] [W.Out] [W.Canal] [W.Pair] [W.Disp] [W.Ls] [W.In .canal] [W.In .core] [W.In .dispatch] [W.In .eth] [W.In .flume] [W.In .lease] [W.In .pcie] [W.In .turnout] (s : State) (a1 : Nat)  : (State.takeZone s a1).rest W = s.rest W := by
  unfold State.takeZone
  simp only [State.sendLease_rest, State.releaseLoaded_rest, State.awaitLoaded_rest, rest_next, ite_self, implies_true, State.each_rest, State.on_rest, apply_ite (State.rest _), apply_ite (Res.rest _), apply_ite Prod.fst, apply_ite Prod.snd]

@[simp] theorem State.tookOver_rest {W : Touch} [W.Level] [W.Air] [W.Arb] [W.Ls] [W.Met] [W.In .airport] [W.In .keep] [W.In .lease] [W.In .meter] [W.In .pair] [W.In .regionCtl] [W.In .turnout] (s : State)  : (State.tookOver s).rest W = s.rest W := by
  have ⟨_, _, _, _, _, _, _, _, _, _, _, _⟩ := Touch.levelIns W
  unfold State.tookOver
  simp only [State.meterTake_rest, State.goPair_rest, State.takeZone_rest, rest_next, ite_self, implies_true, State.each_rest, State.on_rest, apply_ite (State.rest _), apply_ite (Res.rest _), apply_ite Prod.fst, apply_ite Prod.snd]

@[simp] theorem State.resendReleases_rest {W : Touch} [W.Out] [W.Canal] [W.In .canal] (s : State)  : (State.resendReleases s).rest W = s.rest W := by
  unfold State.resendReleases
  simp only [State.leaseSend_rest, rest_next, ite_self, implies_true, State.each_rest, State.on_rest, apply_ite (State.rest _), apply_ite (Res.rest _), apply_ite Prod.fst, apply_ite Prod.snd]

@[simp] theorem State.clearSuperframe_rest {W : Touch} [W.Air] [W.MotNsp] (s : State) (a1 : Nat) (a2 : Nat)  : (State.clearSuperframe s a1 a2).rest W = s.rest W := by
  unfold State.clearSuperframe
  simp only [State.rest_air_motNsp, rest_next, ite_self, implies_true, State.each_rest, State.on_rest, apply_ite (State.rest _), apply_ite (Res.rest _), apply_ite Prod.fst, apply_ite Prod.snd]

@[simp] theorem State.beginSuperframe_rest {W : Touch} [W.Level] [W.Tags] [W.Held] [W.Air] [W.Arb] [W.Ls] [W.Mot] [W.MotNsp] [W.Met] [W.In .airport] [W.In .frameSec] [W.In .keep] [W.In .lease] [W.In .meter] [W.In .motion] [W.In .pair] [W.In .regionCtl] [W.In .sluice] [W.In .taskboard] [W.In .turnout] (s : State) (a1 : Nat)  : (State.beginSuperframe s a1).rest W = s.rest W := by
  have ⟨_, _, _, _, _, _, _, _, _, _, _, _⟩ := Touch.levelIns W
  unfold State.beginSuperframe
  simp only [State.levelAtBeacon_rest, State.portBoundary_rest, State.set_rest, State.latchPort_rest, State.tookOver_rest, State.outsHigh_rest, State.resendReleases_rest, State.clearSuperframe_rest, rest_next, ite_self, implies_true, State.each_rest, State.on_rest, apply_ite (State.rest _), apply_ite (Res.rest _), apply_ite Prod.fst, apply_ite Prod.snd]

@[simp] theorem State.bootRecord_rest {W : Touch} [W.Log] (s : State)  : (State.bootRecord s).rest W = s.rest W := by
  have ⟨_, _, _, _, _⟩ := Touch.logIns W
  unfold State.bootRecord
  simp only [State.saveSeq_rest, State.sysEvent_rest, State.rest_ev, rest_next, ite_self, implies_true, State.each_rest, State.on_rest, apply_ite (State.rest _), apply_ite (Res.rest _), apply_ite Prod.fst, apply_ite Prod.snd]

@[simp] theorem State.bufferWrite_rest {W : Touch} [∀ b, W.In b] (s : State) (a1 : RegWr)  : ∀ t, (State.bufferWrite s a1) = some t → t.rest W = s.rest W := by
  intro t
  rw [State.bufferWrite.eq_def]
  grind [State.setReg_rest, State.setReg_adr_rest, State.setReg_fld_rest, State.setReg_sts_rest, State.setReg_cmd_rest, rest_next]

@[simp] theorem State.bulkOut_rest {W : Touch} [W.Out] [W.In .eth] (s : State) (a1 : Nat) (a2 : Nat → Out)  : (State.bulkOut s a1 a2).rest W = s.rest W := by
  unfold State.bulkOut
  (repeat' split) <;> simp only [State.inc_rest, State.emit_rest, rest_next, implies_true, State.each_rest, State.on_rest]

@[simp] theorem State.bumpSources_rest {W : Touch} [W.Log] [W.Tags] [W.Held] [W.Arb] [W.Lk] [W.Pair] [W.Disp] [W.Ls] [W.Mot] [∀ b, W.In b] (s : State)  : (State.bumpSources s).rest W = s.rest W := by
  unfold State.bumpSources
  simp only [State.hostBump_rest, State.bump_rest, rest_next, ite_self, implies_true, State.each_rest, State.on_rest, apply_ite (State.rest _), apply_ite (Res.rest _), apply_ite Prod.fst, apply_ite Prod.snd]

@[simp] theorem State.useSet_rest {W : Touch} [W.Air] (s : State) (a1 : Nat) (a2 : Nat)  : (State.useSet s a1 a2).rest W = s.rest W := by
  unfold State.useSet
  simp only [State.rest_air, rest_next, ite_self, implies_true, State.each_rest, State.on_rest, apply_ite (State.rest _), apply_ite (Res.rest _), apply_ite Prod.fst, apply_ite Prod.snd]

@[simp] theorem State.burstPort_rest {W : Touch} [W.Out] [W.Hg] [W.Air] [W.In .airport] [W.In .headgate] [W.In .sluice] (s : State) (a1 : Nat)  : (State.burstPort s a1).rest W = s.rest W := by
  unfold State.burstPort
  dsimp only
  (repeat' split) <;> simp only [State.stepBurst_rest, State.inc_rest, State.useSet_rest, State.ppduTx_rest, State.airEmit_rest, State.setPort_rest, State.noteFirstFrame_rest, rest_next, implies_true, State.each_rest, State.on_rest]

@[simp] theorem State.unmapped_rest {W : Touch} [W.Log] [W.In .fault] (s : State) (a1 : Src) (a2 : Nat) (a3 : Bool)  : (State.unmapped s a1 a2 a3).rest W = s.rest W := by
  have ⟨_, _, _, _, _⟩ := Touch.logIns W
  unfold State.unmapped
  simp only [State.inc_rest, State.firstInSecond_rest, State.sysEvent_rest, rest_next, ite_self, implies_true, State.each_rest, State.on_rest, apply_ite (State.rest _), apply_ite (Res.rest _), apply_ite Prod.fst, apply_ite Prod.snd]

@[simp] theorem State.coldWrite_rest {W : Touch} [W.In .regionCtl] (s : State) (a1 : Page)  : (State.coldWrite s a1).rest W = s.rest W := by
  unfold State.coldWrite
  simp only [State.incP_rest, rest_next, ite_self, implies_true, State.each_rest, State.on_rest, apply_ite (State.rest _), apply_ite (Res.rest _), apply_ite Prod.fst, apply_ite Prod.snd]

@[simp] theorem State.counterWord_rest {W : Touch} [W.Latch] (s : State) (a1 : Src) (a2 : Nat)  : (State.counterWord s a1 a2).2.rest W = s.rest W := by
  unfold State.counterWord
  simp only [State.rest_latch, rest_next, ite_self, implies_true, State.each_rest, State.on_rest, apply_ite (State.rest _), apply_ite (Res.rest _), apply_ite Prod.fst, apply_ite Prod.snd]

@[simp] theorem State.nowRead_rest {W : Touch} [W.Latch] (s : State) (a1 : Src)  : (State.nowRead s a1).2.rest W = s.rest W := by
  unfold State.nowRead
  simp only [State.rest_latch, rest_next, ite_self, implies_true, State.each_rest, State.on_rest, apply_ite (State.rest _), apply_ite (Res.rest _), apply_ite Prod.fst, apply_ite Prod.snd]

@[simp] theorem State.setTxts_rest {W : Touch} [W.VecSent] [W.Out] [W.Tm] [W.In .pcie] [W.In .time] (s : State) (a1 : Nat) (a2 : List TxStamp)  : (State.setTxts s a1 a2).rest W = s.rest W := by
  unfold State.setTxts
  simp only [State.set_rest, State.irq_rest, State.rest_tm, rest_next, ite_self, implies_true, State.each_rest, State.on_rest, apply_ite (State.rest _), apply_ite (Res.rest _), apply_ite Prod.fst, apply_ite Prod.snd]

@[simp] theorem State.regView_rest {W : Touch} [W.Latch] [W.VecSent] [W.Out] [W.Tm] [W.In .pcie] [W.In .time] (s : State) (a1 : Src) (a2 : Page) (a3 : Nat)  : (State.regView s a1 a2 a3).2.rest W = s.rest W := by
  unfold State.regView
  dsimp only
  (repeat' split) <;> simp only [State.counterWord_rest, State.nowRead_rest, State.setTxts_rest, rest_next, implies_true, State.each_rest, State.on_rest]

@[simp] theorem State.busRead_rest {W : Touch} [W.Log] [W.Latch] [W.Tm] [W.In .fault] [W.In .regionCtl] [W.In .time] (s : State) (a1 : Src) (a2 : Nat)  : (State.busRead s a1 a2).2.rest W = s.rest W := by
  have ⟨_, _, _, _, _⟩ := Touch.logIns W
  unfold State.busRead
  dsimp only
  (repeat' split) <;> simp only [State.unmapped_rest, State.coldWrite_rest, State.regView_rest, rest_next, implies_true, State.each_rest, State.on_rest]

@[simp] theorem State.busyCycles_rest {W : Touch} [W.In .core] (s : State)  : (State.busyCycles s).rest W = s.rest W := by
  unfold State.busyCycles
  simp only [State.inc_rest, rest_next, ite_self, implies_true, State.each_rest, State.on_rest, apply_ite (State.rest _), apply_ite (Res.rest _), apply_ite Prod.fst, apply_ite Prod.snd]

@[simp] theorem State.canalTrain_rest {W : Touch} [W.Out] [W.Canal] [W.In .canal] (s : State) (a1 : Nat)  : (State.canalTrain s a1).rest W = s.rest W := by
  unfold State.canalTrain
  simp only [State.set_rest, State.sendHello_rest, State.setCport_rest, rest_next, ite_self, implies_true, State.each_rest, State.on_rest, apply_ite (State.rest _), apply_ite (Res.rest _), apply_ite Prod.fst, apply_ite Prod.snd]

@[simp] theorem State.canalCtrl_rest {W : Touch} [W.Out] [W.Canal] [W.In .canal] (s : State) (a1 : Nat) (a2 : CanalBody)  : (State.canalCtrl s a1 a2).rest W = s.rest W := by
  unfold State.canalCtrl
  (repeat' split) <;> simp only [State.canalTrain_rest, State.set_rest, State.ctrlOut_rest, rest_next, implies_true, State.each_rest, State.on_rest]

@[simp] theorem State.canalHeard_rest {W : Touch} [W.Canal] (s : State) (a1 : Nat) (a2 : Nat) (a3 : Nat) (a4 : Nat)  : (State.canalHeard s a1 a2 a3 a4).2.rest W = s.rest W := by
  unfold State.canalHeard
  dsimp only
  (repeat' split) <;> simp only [State.rest_canal, rest_next, implies_true, State.each_rest, State.on_rest]

@[simp] theorem State.canalTail_rest {W : Touch} [W.Out] [W.Canal] [W.In .canal] (s : State) (a1 : Nat) (a2 : Nat) (a3 : Nat) (a4 : Nat)  : (State.canalTail s a1 a2 a3 a4).rest W = s.rest W := by
  unfold State.canalTail
  simp only [State.canalPump_rest, State.setCport_rest, rest_next, ite_self, implies_true, State.each_rest, State.on_rest, apply_ite (State.rest _), apply_ite (Res.rest _), apply_ite Prod.fst, apply_ite Prod.snd]

@[simp] theorem State.chanWrite_rest {W : Touch} [W.Pair] [W.In .meter] (s : State) (a1 : Nat) (a2 : Nat) : ∀ t, (State.chanWrite s a1 a2) = some t → t.rest W = s.rest W := by
  intro t
  unfold State.chanWrite
  extract_lets
  split
  · intro h
    rw [← Option.some.inj h]
    exact State.setTe_rest ..
  · exact fun h => nomatch h

@[simp] theorem State.chargeTick_rest {W : Touch} [W.VecSent] [W.Fq] [W.Out] [W.Canal] [W.Pair] [W.Disp] [W.In .canal] [W.In .core] [W.In .dispatch] [W.In .eth] [W.In .flume] [W.In .pcie] [W.In .taskboard] (s : State) (a1 : Nat)  : (State.chargeTick s a1).rest W = s.rest W := by
  unfold State.chargeTick
  simp only [State.taskEvent_rest, State.irq_rest, State.setTe_rest, rest_next, ite_self, implies_true, State.each_rest, State.on_rest, apply_ite (State.rest _), apply_ite (Res.rest _), apply_ite Prod.fst, apply_ite Prod.snd]

@[simp] theorem State.chunkRx_rest {W : Touch} [W.Level] [W.Fresh] [W.Dram] [W.Clk] [W.Key] [W.Boot] [W.In .boot] [W.In .frameSec] [W.In .keystore] [W.In .reset] (s : State) (a1 : Nat) (a2 : List Nat) (a3 : ImgSeen)  : (State.chunkRx s a1 a2 a3).rest W = s.rest W := by
  have ⟨_, _, _, _, _, _, _, _, _, _, _, _⟩ := Touch.levelIns W
  unfold State.chunkRx
  simp only [State.chunk_rest, State.emit_rest, rest_next, ite_self, implies_true, State.each_rest, State.on_rest, apply_ite (State.rest _), apply_ite (Res.rest _), apply_ite Prod.fst, apply_ite Prod.snd]

@[simp] theorem State.claim_rest {W : Touch} [W.Out] [W.Pair] [W.In .pair] (s : State)  : (State.claim s).rest W = s.rest W := by
  unfold State.claim
  simp only [State.gateShow_rest, State.emit_rest, State.set_rest, State.rest_pair, rest_next, ite_self, implies_true, State.each_rest, State.on_rest, apply_ite (State.rest _), apply_ite (Res.rest _), apply_ite Prod.fst, apply_ite Prod.snd]

@[simp] theorem State.claimConflict_rest {W : Touch} [W.Level] [W.Fresh] [W.Tags] [W.VecMask] [W.Held] [W.Air] [W.Arb] [W.Lk] [W.Gn] [W.Ls] [W.Mot] [W.Met] [∀ b, W.In b] (s : State)  : (State.claimConflict s).rest W = s.rest W := by
  unfold State.claimConflict
  simp only [State.notice_rest, State.inc_rest, State.goCold_rest, State.unclaim_rest, State.gateShow_rest, rest_next, ite_self, implies_true, State.each_rest, State.on_rest, apply_ite (State.rest _), apply_ite (Res.rest _), apply_ite Prod.fst, apply_ite Prod.snd]

@[simp] theorem State.clearCauses_rest {W : Touch} [W.Hg] [W.Dbg] [W.In .headgate] (s : State) : s.clearCauses.rest W = s.rest W := by
  unfold State.clearCauses
  dsimp only
  generalize s.get F.CAUSES_HELD / 2 ^ (rsGATEFAULT - 1) % 2 = fault
  have h : (((s.set F.CAUSES_HELD (fault * 2 ^ (rsGATEFAULT - 1))).set F.HG_STATE_CLASS (2 * fault)).set F.HG_STATE_REASON
      (if fault = 1 then rsGATEFAULT else 0)).rest W = s.rest W :=
    (State.set_rest _ F.HG_STATE_REASON ..).trans ((State.set_rest _ F.HG_STATE_CLASS ..).trans (State.set_rest _ F.CAUSES_HELD ..))
  revert h
  generalize ((s.set F.CAUSES_HELD (fault * 2 ^ (rsGATEFAULT - 1))).set F.HG_STATE_CLASS (2 * fault)).set F.HG_STATE_REASON
      (if fault = 1 then rsGATEFAULT else 0) = u
  intro h
  refine (State.set_rest _ F.HG_STATE_BURST 0 0 0).trans ?_
  exact (State.rest_hg { u with dbg := { u.dbg with extest := u.dbg.extest && decide (fault = 1) } } _).trans ((State.rest_dbg u _).trans h)

@[simp] theorem State.cmdDone_rest {W : Touch} [W.Tags] [W.VecSent] [W.Fq] [W.Out] [W.Canal] [W.In .canal] [W.In .eth] [W.In .flume] [W.In .pcie] (s : State) (a1 : Nat) (a2 : Nat) (a3 : Nat) (a4 : Nat)  : (State.cmdDone s a1 a2 a3 a4).rest W = s.rest W := by
  unfold State.cmdDone
  simp only [State.writeCompl_rest, rest_next, ite_self, implies_true, State.each_rest, State.on_rest, apply_ite (State.rest _), apply_ite (Res.rest _), apply_ite Prod.fst, apply_ite Prod.snd]

@[simp] theorem State.gapHold_rest {W : Touch} [W.Clk] (s : State) (a1 : GapOp)  : (State.gapHold s a1).rest W = s.rest W := by
  unfold State.gapHold
  simp only [State.rest_clk, rest_next, ite_self, implies_true, State.each_rest, State.on_rest, apply_ite (State.rest _), apply_ite (Res.rest _), apply_ite Prod.fst, apply_ite Prod.snd]

@[simp] theorem State.tblAnswer_rest {W : Touch} [W.Tags] [W.VecSent] [W.Fq] [W.Out] [W.Canal] [W.Held] [W.In .canal] [W.In .eth] [W.In .flume] [W.In .pcie] (via : Via) (p : Page) (opcode table index : Nat) (key : List Nat) (data gen : Nat)
    (x : State × Option TRes) [W.In p.blk] : (State.tblAnswer via p opcode table index key data gen x).rest W = x.1.rest W := by
  obtain ⟨s, r⟩ := x
  cases r with
  | none => exact State.rest_held s _
  | some r => exact State.tblDone_rest ..

@[simp] theorem State.tblDecide_rest {W : Touch} [W.Tags] [W.VecSent] [W.Fq] [W.Out] [W.Canal] [W.Held] [W.In .canal] [W.In .eth] [W.In .flume] [W.In .pcie] (s : State) (via : Via) (p : Page) (opcode table index : Nat) (key : List Nat) (data : Nat) (f : TFn)
    (h : ∀ t k d, (f t k d).1.rest W = t.rest W) [W.In p.blk] : (s.tblDecide via p opcode table index key data f).rest W = s.rest W := by
  unfold State.tblDecide
  rw [State.tblAnswer_rest]
  cases s.rebaseHolds p with
  | true => rfl
  | false => exact h ..

@[simp] theorem State.tblOpNow_rest {W : Touch} [W.Log] [W.Tags] [W.Held] [W.In .core] [W.In .fault] (s : State) (via : Via) (p : Page) (opcode table index : Nat) (f : TFn)
    (h : ∀ t k d, (f t k d).1.rest W = t.rest W) [W.In p.blk] : (s.tblOpNow via p opcode table index f).rest W = s.rest W := by
  have ⟨_, _, _, _, _⟩ := Touch.logIns W
  unfold State.tblOpNow
  split
  · exact State.inc_rest s C.CORE_ACCESS_FAULT _ _
  · exact ite_rest (State.unmapped_rest ..) (ite_rest (State.setReg_sts_rest ..) (ite_rest
      ((State.tblDone_rest ..).trans ((State.setReg_sts_rest ..).trans (State.setReg_cmd_rest ..)))
      ((State.tblDecide_rest _ _ _ _ _ _ _ _ _ h).trans ((State.setReg_sts_rest ..).trans (State.setReg_cmd_rest ..)))))
  · exact ite_rest (State.tblDone_rest ..) (ite_rest (State.tblDone_rest ..) (ite_rest (State.tblDone_rest ..) (ite_rest
      (State.tblDone_rest ..) (State.tblDecide_rest _ _ _ _ _ _ _ _ _ h))))

@[simp] theorem State.tblOp_rest {W : Touch} [W.Log] [W.Tags] [W.Held] [W.Clk] [W.In .core] [W.In .fault] (s : State) (via : Via) (p : Page) (opcode table index : Nat) (f : TFn)
    (h : ∀ t k d, (f t k d).1.rest W = t.rest W) [W.In p.blk] : (s.tblOp via p opcode table index f).rest W = s.rest W := by
  have ⟨_, _, _, _, _⟩ := Touch.logIns W
  unfold State.tblOp
  exact ite_rest rfl (ite_rest (State.gapHold_rest ..) (State.tblOpNow_rest _ _ _ _ _ _ _ h))

@[simp] theorem clearBankFn_rest {W : Touch} [W.Pair] [W.In .sluice] (a0 : Nat) (a1 : Nat)  : ∀ s k d, (clearBankFn a0 a1 s k d).1.rest W = s.rest W := by
  intro s k d
  fun_cases clearBankFn <;> simp_all [State.setTe_rest]

@[simp] theorem execSluiceBankClear_rest {W : Touch} [W.Log] [W.Tags] [W.Held] [W.Pair] [W.Clk] [W.In .core] [W.In .fault] [W.In .sluice] (a0 : Via) (a1 : Nat) (a2 : Nat) (s : State)  : Res.rest W (execSluiceBankClear a0 a1 a2 s) = some (s.rest W) := by
  have ⟨_, _, _, _, _⟩ := Touch.logIns W
  fun_cases execSluiceBankClear <;> simp only [State.tblOp_rest, clearBankFn_rest, rest_next, implies_true, State.each_rest, State.on_rest]

@[simp] theorem State.routeOpInsert_rest {W : Touch} [W.Dram] [W.Pair] [W.Clk] [W.In .route] (s : State) (a1 : List Nat) (a2 : Nat)  : (State.routeOpInsert s a1 a2).1.rest W = s.rest W := by
  unfold State.routeOpInsert
  grind [State.routeInsert_rest, rest_next]

@[simp] theorem State.routeOpDelete_rest {W : Touch} [W.Dram] [W.Pair] [W.Clk] [W.In .route] (s : State) (a1 : Nat) (a2 : List Nat)  : (State.routeOpDelete s a1 a2).1.rest W = s.rest W := by
  unfold State.routeOpDelete
  dsimp only
  (repeat' split) <;> simp only [State.setRoute_rest, rest_next, implies_true, State.each_rest, State.on_rest]

@[simp] theorem State.routeOp_rest {W : Touch} [W.Dram] [W.Pair] [W.Clk] [W.In .route] (s : State) (a1 : Nat) (a2 : Nat) (a3 : List Nat) (a4 : Nat)  : (State.routeOp s a1 a2 a3 a4).1.rest W = s.rest W := by
  unfold State.routeOp
  (repeat' split) <;> simp only [State.routeOpInsert_rest, State.routeOpDelete_rest, rest_next, implies_true, State.each_rest, State.on_rest]

@[simp] theorem State.routeTbl_rest {W : Touch} [W.Dram] [W.Pair] [W.Clk] [W.In .route] (a0 : Nat) (a1 : Nat)  : ∀ s k d, (State.routeTbl a0 a1 s k d).1.rest W = s.rest W := by
  intro s k d
  unfold State.routeTbl
  simp only [State.routeOp_rest, rest_next, ite_self, implies_true, State.each_rest, State.on_rest, apply_ite (State.rest _), apply_ite (Res.rest _), apply_ite Prod.fst, apply_ite Prod.snd]

@[simp] theorem now_rest {W : Touch}  (f : State → List Nat → Nat → State × TRes) (h : ∀ t k d, (f t k d).1.rest W = t.rest W) (s : State)
    (k : List Nat) (d : Nat) : (now f s k d).1.rest W = s.rest W := h s k d

@[simp] theorem State.evAnswer_rest {W : Touch} [W.VecSent] [W.Out] [W.In .evlog] [W.In .pcie] (s : State) (a1 : Option EvRec)  : (State.evAnswer s a1).1.rest W = s.rest W := by
  unfold State.evAnswer
  grind [State.irq_rest, State.inc_rest, rest_next]

@[simp] theorem State.readEvent_rest {W : Touch} [W.VecSent] [W.Out] [W.In .evlog] [W.In .pcie] (s : State) (a1 : Nat)  : (State.readEvent s a1).1.rest W = s.rest W := by
  unfold State.readEvent
  simp only [State.evAnswer_rest, rest_next, ite_self, implies_true, State.each_rest, State.on_rest, apply_ite (State.rest _), apply_ite (Res.rest _), apply_ite Prod.fst, apply_ite Prod.snd]

@[simp] theorem tblReadFn_rest {W : Touch} [W.Dram] [W.VecSent] [W.Out] [W.Pair] [W.Clk] [W.In .evlog] [W.In .pcie] [W.In .route] (a0 : Via) (a1 : Page) (a2 : Nat) (a3 : Nat)  : ∀ s k d, (tblReadFn a0 a1 a2 a3 s k d).1.rest W = s.rest W := by
  intro s k d
  unfold tblReadFn
  (repeat' split) <;> simp only [State.routeTbl_rest, now_rest, State.readEvent_rest, rest_next, implies_true, State.each_rest, State.on_rest]

@[simp] theorem State.setRmem_rest {W : Touch} [W.Rtk] (s : State) (a1 : Nat) (a2 : RtkMem)  : (State.setRmem s a1 a2).rest W = s.rest W := by
  unfold State.setRmem
  simp only [State.rest_rtk, rest_next, ite_self, implies_true, State.each_rest, State.on_rest, apply_ite (State.rest _), apply_ite (Res.rest _), apply_ite Prod.fst, apply_ite Prod.snd]

@[simp] theorem State.rtkReset_rest {W : Touch} [W.Pair] [W.Rtk] [W.In .rtkCtrl] (s : State) (a1 : Nat)  : (State.rtkReset s a1).rest W = s.rest W := by
  unfold State.rtkReset
  simp only [State.setRmem_rest, State.setTe_rest, State.rtkShow_rest, State.rest_rtk, rest_next, ite_self, implies_true, State.each_rest, State.on_rest, apply_ite (State.rest _), apply_ite (Res.rest _), apply_ite Prod.fst, apply_ite Prod.snd]

@[simp] theorem State.writeRtk_rest {W : Touch} [W.Pair] [W.Rtk] [W.In .rtkCtrl] (s : State) (a1 : Nat) (a2 : Nat)  : (State.writeRtk s a1 a2).1.rest W = s.rest W := by
  unfold State.writeRtk
  simp only [State.setTe_rest, State.rtkReset_rest, State.rtkShow_rest, rest_next, ite_self, implies_true, State.each_rest, State.on_rest, apply_ite (State.rest _), apply_ite (Res.rest _), apply_ite Prod.fst, apply_ite Prod.snd]

@[simp] theorem State.writeSpi_rest {W : Touch} [W.Pair] [W.In .airport] (s : State) (a1 : Nat) (a2 : Nat) (a3 : Nat)  : (State.writeSpi s a1 a2 a3).1.rest W = s.rest W := by
  unfold State.writeSpi
  simp only [State.setTe_rest, rest_next, ite_self, implies_true, State.each_rest, State.on_rest, apply_ite (State.rest _), apply_ite (Res.rest _), apply_ite Prod.fst, apply_ite Prod.snd]

@[simp] theorem State.writeSlot_rest {W : Touch} [W.Pair] [W.In .sluice] (s : State) (a1 : Nat) (a2 : Nat) (a3 : Nat) (a4 : Nat)  : (State.writeSlot s a1 a2 a3 a4).1.rest W = s.rest W := by
  unfold State.writeSlot
  simp only [State.setTe_rest, rest_next, ite_self, implies_true, State.each_rest, State.on_rest, apply_ite (State.rest _), apply_ite (Res.rest _), apply_ite Prod.fst, apply_ite Prod.snd]

@[simp] theorem State.writeAuth_rest {W : Touch} [W.Pair] [W.In .frameSec] (s : State) (a1 : Src) (a2 : Nat) (a3 : Nat)  : (State.writeAuth s a1 a2 a3).1.rest W = s.rest W := by
  unfold State.writeAuth
  simp only [State.setTe_rest, rest_next, ite_self, implies_true, State.each_rest, State.on_rest, apply_ite (State.rest _), apply_ite (Res.rest _), apply_ite Prod.fst, apply_ite Prod.snd]

@[simp] theorem State.writeMember_rest {W : Touch} [W.Pair] [W.In .registry] (s : State) (a1 : Nat) (a2 : Nat)  : (State.writeMember s a1 a2).1.rest W = s.rest W := by
  unfold State.writeMember
  simp only [State.setMember_rest, rest_next, ite_self, implies_true, State.each_rest, State.on_rest, apply_ite (State.rest _), apply_ite (Res.rest _), apply_ite Prod.fst, apply_ite Prod.snd]

@[simp] theorem State.storeEntry_rest {W : Touch} [W.Pair] [∀ b, W.In b] (s : State) (a1 : Nat) (a2 : Nat) (a3 : Nat)  : (State.storeEntry s a1 a2 a3).rest W = s.rest W := by
  unfold State.storeEntry
  simp only [State.setTe_rest, rest_next, ite_self, implies_true, State.each_rest, State.on_rest, apply_ite (State.rest _), apply_ite (Res.rest _), apply_ite Prod.fst, apply_ite Prod.snd]

@[simp] theorem State.writeGraph_rest {W : Touch} [W.Pair] [∀ b, W.In b] (s : State) (a1 : Nat) (a2 : Nat) (a3 : Nat) (a4 : Nat)  : (State.writeGraph s a1 a2 a3 a4).1.rest W = s.rest W := by
  unfold State.writeGraph
  simp only [State.inc_rest, State.storeEntry_rest, State.afterGraph_rest, rest_next, ite_self, implies_true, State.each_rest, State.on_rest, apply_ite (State.rest _), apply_ite (Res.rest _), apply_ite Prod.fst, apply_ite Prod.snd]

@[simp] theorem State.writeLease_rest {W : Touch} [W.Pair] [W.In .lease] (s : State) (a1 : Nat) (a2 : Nat) (a3 : Nat)  : (State.writeLease s a1 a2 a3).1.rest W = s.rest W := by
  unfold State.writeLease
  simp only [State.setLe_rest, rest_next, ite_self, implies_true, State.each_rest, State.on_rest, apply_ite (State.rest _), apply_ite (Res.rest _), apply_ite Prod.fst, apply_ite Prod.snd]

@[simp] theorem State.writeFlow_rest {W : Touch} [W.VecSent] [W.Fq] [W.Out] [W.Canal] [W.Pair] [W.Disp] [W.In .canal] [W.In .core] [W.In .dispatch] [W.In .eth] [W.In .flume] [W.In .pcie] (s : State) (a1 : Nat) (a2 : Nat)  : (State.writeFlow s a1 a2).1.rest W = s.rest W := by
  unfold State.writeFlow
  simp only [State.preempt_rest, State.setTe_rest, rest_next, ite_self, implies_true, State.each_rest, State.on_rest, apply_ite (State.rest _), apply_ite (Res.rest _), apply_ite Prod.fst, apply_ite Prod.snd]

@[simp] theorem State.writeTimer_rest {W : Touch} [W.Pair] [W.In .dispatch] (s : State) (a1 : Nat) (a2 : Nat)  : (State.writeTimer s a1 a2).1.rest W = s.rest W := by
  unfold State.writeTimer
  simp only [State.setTe_rest, rest_next, ite_self, implies_true, State.each_rest, State.on_rest, apply_ite (State.rest _), apply_ite (Res.rest _), apply_ite Prod.fst, apply_ite Prod.snd]

@[simp] theorem State.qWaits_rest {W : Touch} [W.VecSent] [W.Fq] [W.Out] [W.Canal] [W.In .canal] [W.In .eth] [W.In .flume] [W.In .pcie] (s : State) (a1 : Nat)  : (State.qWaits s a1).rest W = s.rest W := by
  unfold State.qWaits
  simp only [State.setQ_rest, State.qPush_rest, rest_next, ite_self, implies_true, State.each_rest, State.on_rest, apply_ite (State.rest _), apply_ite (Res.rest _), apply_ite Prod.fst, apply_ite Prod.snd]

@[simp] theorem State.writeQueue_rest {W : Touch} [W.VecSent] [W.Fq] [W.Out] [W.Canal] [W.In .canal] [W.In .eth] [W.In .flume] [W.In .pcie] (s : State) (a1 : Nat) (a2 : Nat)  : (State.writeQueue s a1 a2).1.rest W = s.rest W := by
  unfold State.writeQueue
  simp only [State.qWaits_rest, State.qPump_rest, State.setQ_rest, rest_next, ite_self, implies_true, State.each_rest, State.on_rest, apply_ite (State.rest _), apply_ite (Res.rest _), apply_ite Prod.fst, apply_ite Prod.snd]

@[simp] theorem State.writeChan_rest {W : Touch} [W.Pair] [W.In .meter] (s : State) (a1 : Nat) (a2 : Nat)  : (State.writeChan s a1 a2).1.rest W = s.rest W := by
  unfold State.writeChan
  grind [State.chanWrite_rest, rest_next]

@[simp] theorem State.writeWeir_rest {W : Touch} [W.Ev] [W.Pair] [W.In .evlog] (s : State) (a1 : Nat) (a2 : Nat)  : (State.writeWeir s a1 a2).1.rest W = s.rest W := by
  unfold State.writeWeir
  simp only [State.setTe_rest, State.rest_ev, rest_next, ite_self, implies_true, State.each_rest, State.on_rest, apply_ite (State.rest _), apply_ite (Res.rest _), apply_ite Prod.fst, apply_ite Prod.snd]

@[simp] theorem State.tblWrite_rest {W : Touch} [W.VecSent] [W.Fq] [W.Ev] [W.Out] [W.Canal] [W.Pair] [W.Disp] [W.Rtk] [∀ b, W.In b] (s : State) (a1 : Via) (a2 : Page) (a3 : Nat) (a4 : Nat) (a5 : Nat)  : (State.tblWrite s a1 a2 a3 a4 a5).1.rest W = s.rest W := by
  unfold State.tblWrite
  (repeat' split) <;> simp only [State.writeRtk_rest, State.writeSpi_rest, State.writeSlot_rest, State.writeAuth_rest, State.writeMember_rest, State.writeGraph_rest, State.writeLease_rest, State.writeFlow_rest, State.writeTimer_rest, State.writeQueue_rest, State.writeChan_rest, State.writeWeir_rest, rest_next, implies_true, State.each_rest, State.on_rest]

@[simp] theorem tblWriteFn_rest {W : Touch} [W.VecSent] [W.Fq] [W.Ev] [W.Out] [W.Canal] [W.Pair] [W.Disp] [W.Rtk] [∀ b, W.In b] (a0 : Via) (a1 : Page) (a2 : Nat) (a3 : Nat)  : ∀ s k d, (tblWriteFn a0 a1 a2 a3 s k d).1.rest W = s.rest W := by
  intro s k d
  unfold tblWriteFn
  dsimp only
  (repeat' split) <;> simp only [State.tblWrite_rest, State.inc_rest, rest_next, implies_true, State.each_rest, State.on_rest]

@[simp] theorem tblKeyFn_rest {W : Touch} [W.Dram] [W.Pair] [W.Clk] [W.In .route] (a0 : Page) (a1 : Nat) (a2 : Nat) (a3 : Nat)  : ∀ s k d, (tblKeyFn a0 a1 a2 a3 s k d).1.rest W = s.rest W := by
  intro s k d
  unfold tblKeyFn
  simp only [State.routeTbl_rest, rest_next, ite_self, implies_true, State.each_rest, State.on_rest, apply_ite (State.rest _), apply_ite (Res.rest _), apply_ite Prod.fst, apply_ite Prod.snd]

@[simp] theorem State.nextEvent_rest {W : Touch} [W.VecSent] [W.Out] [W.In .evlog] [W.In .pcie] (s : State) (a1 : Nat)  : (State.nextEvent s a1).1.rest W = s.rest W := by
  unfold State.nextEvent
  simp only [State.evAnswer_rest, rest_next, ite_self, implies_true, State.each_rest, State.on_rest, apply_ite (State.rest _), apply_ite (Res.rest _), apply_ite Prod.fst, apply_ite Prod.snd]

@[simp] theorem tblNextFn_rest {W : Touch} [W.Dram] [W.VecSent] [W.Out] [W.Pair] [W.Clk] [W.In .evlog] [W.In .pcie] [W.In .route] (a0 : Via) (a1 : Page) (a2 : Nat) (a3 : Nat)  : ∀ s k d, (tblNextFn a0 a1 a2 a3 s k d).1.rest W = s.rest W := by
  intro s k d
  fun_cases tblNextFn <;> simp only [State.routeTbl_rest, now_rest, State.nextEvent_rest, rest_next, implies_true, State.each_rest, State.on_rest]

@[simp] theorem State.tblCmp_rest {W : Touch} [W.Pair] [W.In .lease] (s : State) (a1 : Via) (a2 : Page) (a3 : Nat) (a4 : Nat) (a5 : List Nat) (a6 : Nat)  : (State.tblCmp s a1 a2 a3 a4 a5 a6).1.rest W = s.rest W := by
  unfold State.tblCmp
  simp only [State.writeLease_rest, rest_next, ite_self, implies_true, State.each_rest, State.on_rest, apply_ite (State.rest _), apply_ite (Res.rest _), apply_ite Prod.fst, apply_ite Prod.snd]

@[simp] theorem tblCmpFn_rest {W : Touch} [W.Pair] [W.In .lease] (a0 : Via) (a1 : Page) (a2 : Nat) (a3 : Nat)  : ∀ s k d, (tblCmpFn a0 a1 a2 a3 s k d).1.rest W = s.rest W := by
  intro s k d
  unfold tblCmpFn
  dsimp only
  (repeat' split) <;> simp only [State.tblCmp_rest, rest_next, implies_true, State.each_rest, State.on_rest]

@[simp] theorem tblFn_rest {W : Touch} [W.Dram] [W.VecSent] [W.Fq] [W.Ev] [W.Out] [W.Canal] [W.Pair] [W.Disp] [W.Rtk] [W.Clk] [∀ b, W.In b] (a0 : Via) (a1 : Page) (a2 : Nat) (a3 : Nat) (a4 : Nat)  : ∀ s k d, (tblFn a0 a1 a2 a3 a4 s k d).1.rest W = s.rest W := by
  intro s k d
  unfold tblFn
  (repeat' split) <;> simp only [tblReadFn_rest, tblWriteFn_rest, tblKeyFn_rest, tblNextFn_rest, tblCmpFn_rest, rest_next, implies_true, State.each_rest, State.on_rest]

@[simp] theorem State.tblGo_rest {W : Touch} [W.Log] [W.Dram] [W.Tags] [W.Held] [W.Pair] [W.Disp] [W.Rtk] [W.Clk] [∀ b, W.In b] (s : State) (a1 : Via) (a2 : Page) (a3 : Nat) (a4 : Nat) (a5 : Nat)  : (State.tblGo s a1 a2 a3 a4 a5).rest W = s.rest W := by
  unfold State.tblGo
  (repeat' split) <;> simp only [State.tblOp_rest, tblFn_rest, State.unmapped_rest, State.tblDone_rest, rest_next, implies_true, State.each_rest, State.on_rest]

@[simp] theorem execRouteRepack_rest {W : Touch} [W.Log] [W.Tags] [W.Held] [W.Rt] [W.Clk] [W.In .core] [W.In .fault] [W.In .route] (a0 : Via) (s : State)  : Res.rest W (execRouteRepack a0 s) = some (s.rest W) := by
  have ⟨_, _, _, _, _⟩ := Touch.logIns W
  unfold execRouteRepack
  simp only [State.tblOp_rest, State.set_rest, State.rest_rt, rest_next, ite_self, implies_true, State.each_rest, State.on_rest, apply_ite (State.rest _), apply_ite (Res.rest _), apply_ite Prod.fst, apply_ite Prod.snd]

@[simp] theorem openFn_rest {W : Touch} [W.Ls] [W.In .lease] [W.In .turnout] (a0 : Via)  : ∀ s k d, (openFn a0 s k d).1.rest W = s.rest W := by
  intro s k d
  unfold openFn
  dsimp only
  (repeat' split) <;> simp only [State.leaseShow_rest, State.rest_ls, rest_next, implies_true, State.each_rest, State.on_rest]

@[simp] theorem execFurrowOpen_rest {W : Touch} [W.Log] [W.Tags] [W.Held] [W.Ls] [W.Clk] [W.In .core] [W.In .fault] [W.In .lease] [W.In .turnout] (a0 : Via) (s : State)  : Res.rest W (execFurrowOpen a0 s) = some (s.rest W) := by
  have ⟨_, _, _, _, _⟩ := Touch.logIns W
  unfold execFurrowOpen
  simp only [State.tblOp_rest, openFn_rest, rest_next, ite_self, implies_true, State.each_rest, State.on_rest, apply_ite (State.rest _), apply_ite (Res.rest _), apply_ite Prod.fst, apply_ite Prod.snd]

@[simp] theorem stepsFn_rest {W : Touch} [W.Ls] (a0 : Via)  : ∀ s k d, (stepsFn a0 s k d).1.rest W = s.rest W := by
  intro s k d
  fun_cases stepsFn <;> simp only [State.rest_ls, rest_next, implies_true, State.each_rest, State.on_rest]

@[simp] theorem execFurrowSteps_rest {W : Touch} [W.Log] [W.Tags] [W.Held] [W.Ls] [W.Clk] [W.In .core] [W.In .fault] [W.In .lease] (a0 : Via) (s : State)  : Res.rest W (execFurrowSteps a0 s) = some (s.rest W) := by
  have ⟨_, _, _, _, _⟩ := Touch.logIns W
  unfold execFurrowSteps
  simp only [State.tblOp_rest, stepsFn_rest, rest_next, ite_self, implies_true, State.each_rest, State.on_rest, apply_ite (State.rest _), apply_ite (Res.rest _), apply_ite Prod.fst, apply_ite Prod.snd]

@[simp] theorem State.grantDone_rest {W : Touch} [W.VecSent] [W.Fq] [W.Out] [W.Canal] [W.Disp] [W.Ls] [W.In .canal] [W.In .core] [W.In .dispatch] [W.In .eth] [W.In .flume] [W.In .lease] [W.In .pcie] (s : State) (a1 : Nat)  : (State.grantDone s a1).1.rest W = s.rest W := by
  unfold State.grantDone
  simp only [State.awaitDelta_rest, State.leEvent_rest, State.inc_rest, rest_next, ite_self, implies_true, State.each_rest, State.on_rest, apply_ite (State.rest _), apply_ite (Res.rest _), apply_ite Prod.fst, apply_ite Prod.snd]

@[simp] theorem State.submit_rest {W : Touch} [W.Tags] [W.VecSent] [W.Fq] [W.Out] [W.Canal] [W.Held] [W.Pair] [W.Disp] [W.Ls] [W.In .canal] [W.In .core] [W.In .dispatch] [W.In .eth] [W.In .flume] [W.In .lease] [W.In .pcie] [W.In .turnout] (s : State) (a1 : Build) (a2 : Via)  : (State.submit s a1 a2).1.rest W = s.rest W := by
  unfold State.submit
  dsimp only
  (repeat' split) <;> simp only [State.refuseSubmit_rest, State.takeSeq_rest, State.writeFurrow_rest, State.grantDone_rest, State.advance_rest, State.rest_ls, rest_next, implies_true, State.each_rest, State.on_rest]

@[simp] theorem State.dropBuild_rest {W : Touch} [W.Ls] [W.In .lease] [W.In .turnout] (s : State) (a1 : Nat)  : (State.dropBuild s a1).rest W = s.rest W := by
  unfold State.dropBuild
  simp only [State.leaseShow_rest, State.rest_ls, rest_next, ite_self, implies_true, State.each_rest, State.on_rest, apply_ite (State.rest _), apply_ite (Res.rest _), apply_ite Prod.fst, apply_ite Prod.snd]

@[simp] theorem submitFn_rest {W : Touch} [W.Tags] [W.VecSent] [W.Fq] [W.Out] [W.Canal] [W.Held] [W.Pair] [W.Disp] [W.Ls] [W.In .canal] [W.In .core] [W.In .dispatch] [W.In .eth] [W.In .flume] [W.In .lease] [W.In .pcie] [W.In .turnout] (a0 : Via)  : ∀ s k d, (submitFn a0 s k d).1.rest W = s.rest W := by
  intro s k d
  unfold submitFn
  grind [State.submit_rest, State.dropBuild_rest, rest_next]

@[simp] theorem submitDone_rest {W : Touch} [W.Tags] [W.VecSent] [W.Fq] [W.Out] [W.Canal] [W.Held] [W.Pair] [W.Disp] [W.Ls] [W.In .canal] [W.In .core] [W.In .dispatch] [W.In .eth] [W.In .flume] [W.In .lease] [W.In .pcie] [W.In .turnout] (a0 : Via)  : ∀ s k d, (submitDone a0 s k d).1.rest W = s.rest W := by
  intro s k d
  unfold submitDone
  grind [submitFn_rest, State.dropBuild_rest, rest_next]

@[simp] theorem execFurrowSubmit_rest {W : Touch} [W.Log] [W.Tags] [W.Held] [W.Pair] [W.Disp] [W.Ls] [W.Clk] [W.In .core] [W.In .dispatch] [W.In .fault] [W.In .lease] [W.In .turnout] (a0 : Via) (s : State)  : Res.rest W (execFurrowSubmit a0 s) = some (s.rest W) := by
  have ⟨_, _, _, _, _⟩ := Touch.logIns W
  unfold execFurrowSubmit
  simp only [State.tblOp_rest, submitDone_rest, rest_next, ite_self, implies_true, State.each_rest, State.on_rest, apply_ite (State.rest _), apply_ite (Res.rest _), apply_ite Prod.fst, apply_ite Prod.snd]

@[simp] theorem releaseFn_rest {W : Touch} [W.Log] [W.Pair] [W.Disp] [W.Ls] [W.Mot] [W.In .core] [W.In .dispatch] [W.In .lease] [W.In .motion] [W.In .turnout]   : ∀ s k d, (releaseFn s k d).1.rest W = s.rest W := by
  have ⟨_, _, _, _, _⟩ := Touch.logIns W
  intro s k d
  unfold releaseFn
  dsimp only
  (repeat' split) <;> simp only [State.takeSeq_rest, State.releaseFrom_rest, rest_next, implies_true, State.each_rest, State.on_rest]

@[simp] theorem execFurrowRelease_rest {W : Touch} [W.Log] [W.Tags] [W.Held] [W.Pair] [W.Disp] [W.Ls] [W.Mot] [W.Clk] [W.In .core] [W.In .dispatch] [W.In .fault] [W.In .lease] [W.In .motion] [W.In .turnout] (a0 : Via) (s : State)  : Res.rest W (execFurrowRelease a0 s) = some (s.rest W) := by
  have ⟨_, _, _, _, _⟩ := Touch.logIns W
  unfold execFurrowRelease
  simp only [State.tblOp_rest, releaseFn_rest, rest_next, ite_self, implies_true, State.each_rest, State.on_rest, apply_ite (State.rest _), apply_ite (Res.rest _), apply_ite Prod.fst, apply_ite Prod.snd]

@[simp] theorem clearFn_rest {W : Touch} [W.Log] [W.Pair] [W.Disp] [W.Ls] [W.Mot] [W.In .core] [W.In .dispatch] [W.In .lease] [W.In .motion] [W.In .turnout] (a0 : Via)  : ∀ s k d, (clearFn a0 s k d).1.rest W = s.rest W := by
  have ⟨_, _, _, _, _⟩ := Touch.logIns W
  intro s k d
  unfold clearFn
  (repeat' split) <;> simp only [State.takeSeq_rest, State.freeDecided_rest, rest_next, implies_true, State.each_rest, State.on_rest]

@[simp] theorem execClearOverstay_rest {W : Touch} [W.Log] [W.Tags] [W.Held] [W.Pair] [W.Disp] [W.Ls] [W.Mot] [W.Clk] [W.In .core] [W.In .dispatch] [W.In .fault] [W.In .lease] [W.In .motion] [W.In .turnout] (a0 : Via) (s : State)  : Res.rest W (execClearOverstay a0 s) = some (s.rest W) := by
  have ⟨_, _, _, _, _⟩ := Touch.logIns W
  unfold execClearOverstay
  simp only [State.tblOp_rest, clearFn_rest, rest_next, ite_self, implies_true, State.each_rest, State.on_rest, apply_ite (State.rest _), apply_ite (Res.rest _), apply_ite Prod.fst, apply_ite Prod.snd]

@[simp] theorem abandonFn_rest {W : Touch} [W.Ls] [W.In .lease] [W.In .turnout] (a0 : Via)  : ∀ s k d, (abandonFn a0 s k d).1.rest W = s.rest W := by
  intro s k d
  unfold abandonFn
  (repeat' split) <;> simp only [State.dropBuild_rest, rest_next, implies_true, State.each_rest, State.on_rest]

@[simp] theorem execAbandon_rest {W : Touch} [W.Log] [W.Tags] [W.Held] [W.Ls] [W.Clk] [W.In .core] [W.In .fault] [W.In .lease] [W.In .turnout] (a0 : Via) (s : State)  : Res.rest W (execAbandon a0 s) = some (s.rest W) := by
  have ⟨_, _, _, _, _⟩ := Touch.logIns W
  unfold execAbandon
  simp only [State.tblOp_rest, abandonFn_rest, rest_next, ite_self, implies_true, State.each_rest, State.on_rest, apply_ite (State.rest _), apply_ite (Res.rest _), apply_ite Prod.fst, apply_ite Prod.snd]

@[simp] theorem takeFn_rest {W : Touch} [W.Pair] [W.In .lease] [W.In .turnout] (a0 : Via)  : ∀ s k d, (takeFn a0 s k d).1.rest W = s.rest W := by
  intro s k d
  unfold takeFn
  simp only [State.takeSeq_rest, State.leaseShow_rest, State.turnShow_rest, State.setTe_rest, rest_next, ite_self, implies_true, State.each_rest, State.on_rest, apply_ite (State.rest _), apply_ite (Res.rest _), apply_ite Prod.fst, apply_ite Prod.snd]

@[simp] theorem execTurnoutTake_rest {W : Touch} [W.Log] [W.Tags] [W.Held] [W.Pair] [W.Clk] [W.In .core] [W.In .fault] [W.In .lease] [W.In .turnout] (a0 : Via) (s : State)  : Res.rest W (execTurnoutTake a0 s) = some (s.rest W) := by
  have ⟨_, _, _, _, _⟩ := Touch.logIns W
  unfold execTurnoutTake
  simp only [State.tblOp_rest, takeFn_rest, rest_next, ite_self, implies_true, State.each_rest, State.on_rest, apply_ite (State.rest _), apply_ite (Res.rest _), apply_ite Prod.fst, apply_ite Prod.snd]

@[simp] theorem State.dropDirect_rest {W : Touch} [W.Pair] [W.In .lease] [W.In .turnout] (s : State) (a1 : Nat)  : (State.dropDirect s a1).rest W = s.rest W := by
  unfold State.dropDirect
  simp only [State.leaseShow_rest, State.turnShow_rest, State.setTe_rest, rest_next, ite_self, implies_true, State.each_rest, State.on_rest, apply_ite (State.rest _), apply_ite (Res.rest _), apply_ite Prod.fst, apply_ite Prod.snd]

@[simp] theorem dropFn_rest {W : Touch} [W.Pair] [W.In .lease] [W.In .turnout] (a0 : Via)  : ∀ s k d, (dropFn a0 s k d).1.rest W = s.rest W := by
  intro s k d
  unfold dropFn
  simp only [State.takeSeq_rest, State.dropDirect_rest, rest_next, ite_self, implies_true, State.each_rest, State.on_rest, apply_ite (State.rest _), apply_ite (Res.rest _), apply_ite Prod.fst, apply_ite Prod.snd]

@[simp] theorem execTurnoutDrop_rest {W : Touch} [W.Log] [W.Tags] [W.Held] [W.Pair] [W.Clk] [W.In .core] [W.In .fault] [W.In .lease] [W.In .turnout] (a0 : Via) (s : State)  : Res.rest W (execTurnoutDrop a0 s) = some (s.rest W) := by
  have ⟨_, _, _, _, _⟩ := Touch.logIns W
  unfold execTurnoutDrop
  simp only [State.tblOp_rest, dropFn_rest, rest_next, ite_self, implies_true, State.each_rest, State.on_rest, apply_ite (State.rest _), apply_ite (Res.rest _), apply_ite Prod.fst, apply_ite Prod.snd]

@[simp] theorem orphanFn_rest {W : Touch} [W.Pair] [W.In .lease] [W.In .turnout] (a0 : Via)  : ∀ s k d, (orphanFn a0 s k d).1.rest W = s.rest W := by
  intro s k d
  unfold orphanFn
  dsimp only
  (repeat' split) <;> simp only [State.inc_rest, State.takeSeq_rest, State.leaseShow_rest, State.turnShow_rest, State.leSet_rest, State.freeLock_rest, rest_next, implies_true, State.each_rest, State.on_rest]

@[simp] theorem execOrphanClear_rest {W : Touch} [W.Log] [W.Tags] [W.Held] [W.Pair] [W.Clk] [W.In .core] [W.In .fault] [W.In .lease] [W.In .turnout] (a0 : Via) (s : State)  : Res.rest W (execOrphanClear a0 s) = some (s.rest W) := by
  have ⟨_, _, _, _, _⟩ := Touch.logIns W
  unfold execOrphanClear
  simp only [State.tblOp_rest, orphanFn_rest, rest_next, ite_self, implies_true, State.each_rest, State.on_rest, apply_ite (State.rest _), apply_ite (Res.rest _), apply_ite Prod.fst, apply_ite Prod.snd]

@[simp] theorem State.seqExpire_rest {W : Touch} [W.VecSent] [W.Out] [W.Ls] [W.In .pcie] [W.In .turnout] (s : State) (a1 : TblSeq)  : (State.seqExpire s a1).rest W = s.rest W := by
  unfold State.seqExpire
  simp only [State.irq_rest, State.inc_rest, State.dropSeq_rest, rest_next, ite_self, implies_true, State.each_rest, State.on_rest, apply_ite (State.rest _), apply_ite (Res.rest _), apply_ite Prod.fst, apply_ite Prod.snd]

@[simp] theorem State.seqPurge_rest {W : Touch} [W.VecSent] [W.Out] [W.Ls] [W.In .pcie] [W.In .turnout] (s : State)  : (State.seqPurge s).rest W = s.rest W := by
  unfold State.seqPurge
  simp only [State.seqExpire_rest, rest_next, ite_self, implies_true, State.each_rest, State.on_rest, apply_ite (State.rest _), apply_ite (Res.rest _), apply_ite Prod.fst, apply_ite Prod.snd]

@[simp] theorem State.seqShow_rest {W : Touch} [W.In .turnout] (s : State)  : (State.seqShow s).rest W = s.rest W := by
  unfold State.seqShow
  simp only [State.set_rest, rest_next, ite_self, implies_true, State.each_rest, State.on_rest, apply_ite (State.rest _), apply_ite (Res.rest _), apply_ite Prod.fst, apply_ite Prod.snd]

@[simp] theorem seqOpenFn_rest {W : Touch} [W.VecSent] [W.Out] [W.Ls] [W.In .pcie] [W.In .turnout] (a0 : Via)  : ∀ s k d, (seqOpenFn a0 s k d).1.rest W = s.rest W := by
  intro s k d
  unfold seqOpenFn
  dsimp only
  (repeat' split) <;> simp only [State.seqPurge_rest, State.seqShow_rest, State.rest_ls, rest_next, implies_true, State.each_rest, State.on_rest]

@[simp] theorem execSeqOpen_rest {W : Touch} [W.Log] [W.Tags] [W.Held] [W.Ls] [W.Clk] [W.In .core] [W.In .fault] [W.In .turnout] (a0 : Via) (s : State)  : Res.rest W (execSeqOpen a0 s) = some (s.rest W) := by
  have ⟨_, _, _, _, _⟩ := Touch.logIns W
  unfold execSeqOpen
  simp only [State.tblOp_rest, seqOpenFn_rest, rest_next, ite_self, implies_true, State.each_rest, State.on_rest, apply_ite (State.rest _), apply_ite (Res.rest _), apply_ite Prod.fst, apply_ite Prod.snd]

@[simp] theorem onSeq_rest {W : Touch} [W.VecSent] [W.Out] [W.Ls] [W.In .pcie] [W.In .turnout] (via : Via) (f : State → TblSeq → State × TRes) (h : ∀ t q, (f t q).1.rest W = t.rest W) (s : State)
    (k : List Nat) : (onSeq via f s k).1.rest W = s.rest W := by
  unfold onSeq
  dsimp only
  split
  · exact State.seqPurge_rest s
  · split
    · exact State.seqPurge_rest s
    · exact (h _ _).trans (State.seqPurge_rest s)

@[simp] theorem State.setSeq_rest {W : Touch} [W.Ls] [W.In .turnout] (s : State) (a1 : TblSeq)  : (State.setSeq s a1).rest W = s.rest W := by
  unfold State.setSeq
  simp only [State.seqShow_rest, State.rest_ls, rest_next, ite_self, implies_true, State.each_rest, State.on_rest, apply_ite (State.rest _), apply_ite (Res.rest _), apply_ite Prod.fst, apply_ite Prod.snd]

@[simp] theorem seqStageFn_rest {W : Touch} [W.VecSent] [W.Out] [W.Ls] [W.In .pcie] [W.In .turnout] (a0 : Via)  : ∀ s k d, (seqStageFn a0 s k d).1.rest W = s.rest W := by
  intro s k d
  unfold seqStageFn
  simp only [onSeq_rest, State.setSeq_rest, rest_next, ite_self, implies_true, State.each_rest, State.on_rest, apply_ite (State.rest _), apply_ite (Res.rest _), apply_ite Prod.fst, apply_ite Prod.snd]

@[simp] theorem execSeqStage_rest {W : Touch} [W.Log] [W.Tags] [W.Held] [W.Ls] [W.Clk] [W.In .core] [W.In .fault] [W.In .turnout] (a0 : Via) (s : State)  : Res.rest W (execSeqStage a0 s) = some (s.rest W) := by
  have ⟨_, _, _, _, _⟩ := Touch.logIns W
  unfold execSeqStage
  simp only [State.tblOp_rest, seqStageFn_rest, rest_next, ite_self, implies_true, State.each_rest, State.on_rest, apply_ite (State.rest _), apply_ite (Res.rest _), apply_ite Prod.fst, apply_ite Prod.snd]

@[simp] theorem State.seqStored_rest {W : Touch} [W.Pair] [∀ b, W.In b] (s : State) (a1 : TblSeq)  : (State.seqStored s a1).rest W = s.rest W := by
  fun_cases State.seqStored <;> simp only [State.storeEntry_rest, rest_next, implies_true, State.each_rest, State.on_rest]

@[simp] theorem State.leaseRebuilt_rest {W : Touch} [W.Pair] [W.In .lease] [W.In .turnout] (s : State) : s.leaseRebuilt.rest W = s.rest W := by
  unfold State.leaseRebuilt
  dsimp only
  rw [State.leaseShow_rest, State.each_rest _ _ _ fun t x => State.turnShow_rest t x, State.each_rest _ _ _ fun t x => State.setTe_rest ..]
  refine State.each_rest s _ _ fun t x => ?_
  exact foldl_rest _ (fun (b : State × Nat) => b.1) _ (fun b x => State.setTe_rest ..) (t, 0)

@[simp] theorem State.seqFollow_rest {W : Touch} [W.Pair] [W.In .graph] [W.In .lease] [W.In .turnout] (t s : State) (q : TblSeq) : (t.seqFollow s q).rest W = t.rest W := by
  unfold State.seqFollow
  exact ite_rest ((State.leaseRebuilt_rest _).trans (State.afterGraph_rest ..)) (State.afterGraph_rest ..)

@[simp] theorem State.seqCommit_rest {W : Touch} [W.Pair] [W.Ls] [∀ b, W.In b] (s : State) (q : TblSeq) : (s.seqCommit q).1.rest W = s.rest W := by
  unfold State.seqCommit
  dsimp only
  split
  · exact State.inc_rest ..
  · exact (State.inc_rest ..).trans ((State.dropSeq_rest ..).trans ((State.seqFollow_rest ..).trans (State.seqStored_rest ..)))

@[simp] theorem seqCommitFn_rest {W : Touch} [W.VecSent] [W.Out] [W.Pair] [W.Ls] [∀ b, W.In b] (a0 : Via)  : ∀ s k d, (seqCommitFn a0 s k d).1.rest W = s.rest W := by
  intro s k d
  unfold seqCommitFn
  (repeat' (first | (refine ite_rest ?_ ?_) | (refine ite_res ?_ ?_) | split)) <;> simp only [onSeq_rest, State.seqCommit_rest, State.takeSeq_rest, rest_next, implies_true, State.each_rest, State.on_rest]

@[simp] theorem execSeqCommit_rest {W : Touch} [W.Log] [W.Tags] [W.Held] [W.Pair] [W.Ls] [W.Clk] [∀ b, W.In b] (a0 : Via) (s : State)  : Res.rest W (execSeqCommit a0 s) = some (s.rest W) := by
  unfold execSeqCommit
  simp only [State.tblOp_rest, seqCommitFn_rest, rest_next, ite_self, implies_true, State.each_rest, State.on_rest, apply_ite (State.rest _), apply_ite (Res.rest _), apply_ite Prod.fst, apply_ite Prod.snd]

@[simp] theorem seqDiscardFn_rest {W : Touch} [W.VecSent] [W.Out] [W.Ls] [W.In .pcie] [W.In .turnout] (a0 : Via)  : ∀ s k d, (seqDiscardFn a0 s k d).1.rest W = s.rest W := by
  intro s k d
  unfold seqDiscardFn
  simp only [onSeq_rest, State.irq_rest, State.dropSeq_rest, rest_next, ite_self, implies_true, State.each_rest, State.on_rest, apply_ite (State.rest _), apply_ite (Res.rest _), apply_ite Prod.fst, apply_ite Prod.snd]

@[simp] theorem execSeqDiscard_rest {W : Touch} [W.Log] [W.Tags] [W.Held] [W.Ls] [W.Clk] [W.In .core] [W.In .fault] [W.In .turnout] (a0 : Via) (s : State)  : Res.rest W (execSeqDiscard a0 s) = some (s.rest W) := by
  have ⟨_, _, _, _, _⟩ := Touch.logIns W
  unfold execSeqDiscard
  simp only [State.tblOp_rest, seqDiscardFn_rest, rest_next, ite_self, implies_true, State.each_rest, State.on_rest, apply_ite (State.rest _), apply_ite (Res.rest _), apply_ite Prod.fst, apply_ite Prod.snd]

@[simp] theorem State.releaseHold_rest {W : Touch} [W.VecSent] [W.Fq] [W.Out] [W.Canal] [W.Pair] [W.Disp] [W.In .canal] [W.In .core] [W.In .dispatch] [W.In .eth] [W.In .flume] [W.In .pcie] [W.In .registry] (s : State) (a1 : Nat) (a2 : Nat)  : (State.releaseHold s a1 a2).rest W = s.rest W := by
  unfold State.releaseHold
  simp only [State.mset_rest, State.inc_rest, State.item_rest, State.regCounts_rest, rest_next, ite_self, implies_true, State.each_rest, State.on_rest, apply_ite (State.rest _), apply_ite (Res.rest _), apply_ite Prod.fst, apply_ite Prod.snd]

@[simp] theorem State.regRelease_rest {W : Touch} [W.VecSent] [W.Fq] [W.Out] [W.Canal] [W.Pair] [W.Disp] [W.In .canal] [W.In .core] [W.In .dispatch] [W.In .eth] [W.In .flume] [W.In .pcie] [W.In .registry] (s : State) (a1 : List Nat)  : (State.regRelease s a1).1.rest W = s.rest W := by
  unfold State.regRelease
  simp only [State.inc_rest, State.releaseHold_rest, rest_next, ite_self, implies_true, State.each_rest, State.on_rest, apply_ite (State.rest _), apply_ite (Res.rest _), apply_ite Prod.fst, apply_ite Prod.snd]

@[simp] theorem execRegistryRelease_rest {W : Touch} [W.Log] [W.Tags] [W.Held] [W.Pair] [W.Disp] [W.Clk] [W.In .core] [W.In .dispatch] [W.In .fault] [W.In .registry] (a0 : Via) (s : State)  : Res.rest W (execRegistryRelease a0 s) = some (s.rest W) := by
  have ⟨_, _, _, _, _⟩ := Touch.logIns W
  unfold execRegistryRelease
  simp only [State.tblOp_rest, now_rest, State.regRelease_rest, rest_next, ite_self, implies_true, State.each_rest, State.on_rest, apply_ite (State.rest _), apply_ite (Res.rest _), apply_ite Prod.fst, apply_ite Prod.snd]

@[simp] theorem State.regHold_rest {W : Touch} [W.VecSent] [W.Fq] [W.Out] [W.Canal] [W.Pair] [W.Disp] [W.In .canal] [W.In .core] [W.In .dispatch] [W.In .eth] [W.In .flume] [W.In .pcie] [W.In .registry] (s : State) (a1 : List Nat)  : (State.regHold s a1).1.rest W = s.rest W := by
  unfold State.regHold
  simp only [State.regCounts_rest, State.holdMember_rest, rest_next, ite_self, implies_true, State.each_rest, State.on_rest, apply_ite (State.rest _), apply_ite (Res.rest _), apply_ite Prod.fst, apply_ite Prod.snd]

@[simp] theorem execRegistryHold_rest {W : Touch} [W.Log] [W.Tags] [W.Held] [W.Pair] [W.Disp] [W.Clk] [W.In .core] [W.In .dispatch] [W.In .fault] [W.In .registry] (a0 : Via) (s : State)  : Res.rest W (execRegistryHold a0 s) = some (s.rest W) := by
  have ⟨_, _, _, _, _⟩ := Touch.logIns W
  unfold execRegistryHold
  simp only [State.tblOp_rest, now_rest, State.regHold_rest, rest_next, ite_self, implies_true, State.each_rest, State.on_rest, apply_ite (State.rest _), apply_ite (Res.rest _), apply_ite Prod.fst, apply_ite Prod.snd]

@[simp] theorem State.depart_rest {W : Touch} [W.Log] [W.Tags] [W.Held] [W.Pair] [W.Disp] [W.Ls] [W.Mot] [W.Rtk] [∀ b, W.In b] (s : State) (a1 : Nat)  : (State.depart s a1).rest W = s.rest W := by
  unfold State.depart
  simp only [State.rtkReset_rest, State.bump_rest, State.setMember_rest, State.regCounts_rest, State.irq_rest, State.inc_rest, State.item_rest, rest_next, ite_self, implies_true, State.each_rest, State.on_rest, apply_ite (State.rest _), apply_ite (Res.rest _), apply_ite Prod.fst, apply_ite Prod.snd]

@[simp] theorem State.regEvict_rest {W : Touch} [W.Log] [W.Tags] [W.Held] [W.Air] [W.Pair] [W.Disp] [W.Ls] [W.Mot] [W.Rtk] [∀ b, W.In b] (s : State) (a1 : Src) (a2 : List Nat)  : (State.regEvict s a1 a2).1.rest W = s.rest W := by
  unfold State.regEvict
  simp only [State.queueFrame_rest, State.depart_rest, rest_next, ite_self, implies_true, State.each_rest, State.on_rest, apply_ite (State.rest _), apply_ite (Res.rest _), apply_ite Prod.fst, apply_ite Prod.snd]

@[simp] theorem execEvict_rest {W : Touch} [W.Log] [W.Tags] [W.Held] [W.Air] [W.Pair] [W.Disp] [W.Ls] [W.Mot] [W.Rtk] [W.Clk] [∀ b, W.In b] (a0 : Via) (s : State)  : Res.rest W (execEvict a0 s) = some (s.rest W) := by
  unfold execEvict
  simp only [State.tblOp_rest, now_rest, State.regEvict_rest, rest_next, ite_self, implies_true, State.each_rest, State.on_rest, apply_ite (State.rest _), apply_ite (Res.rest _), apply_ite Prod.fst, apply_ite Prod.snd]

@[simp] theorem State.motShow_rest {W : Touch} [W.In .motion] (s : State)  : (State.motShow s).rest W = s.rest W := by
  unfold State.motShow
  simp only [State.set_rest, rest_next, ite_self, implies_true, State.each_rest, State.on_rest, apply_ite (State.rest _), apply_ite (Res.rest _), apply_ite Prod.fst, apply_ite Prod.snd]

@[simp] theorem State.moveAdd_rest {W : Touch} [W.Pair] [W.Mot] [W.In .motion] (s : State) (a1 : List Nat) (a2 : Nat)  : (State.moveAdd s a1 a2).1.rest W = s.rest W := by
  unfold State.moveAdd
  dsimp only
  (repeat' split) <;> simp only [State.setMotion_rest, State.setMove_rest, State.motShow_rest, State.inc_rest, rest_next, implies_true, State.each_rest, State.on_rest]

@[simp] theorem execMoveAdd_rest {W : Touch} [W.Log] [W.Tags] [W.Held] [W.Pair] [W.Mot] [W.Clk] [W.In .core] [W.In .fault] [W.In .motion] (a0 : Via) (s : State)  : Res.rest W (execMoveAdd a0 s) = some (s.rest W) := by
  have ⟨_, _, _, _, _⟩ := Touch.logIns W
  unfold execMoveAdd
  simp only [State.tblOp_rest, now_rest, State.moveAdd_rest, rest_next, ite_self, implies_true, State.each_rest, State.on_rest, apply_ite (State.rest _), apply_ite (Res.rest _), apply_ite Prod.fst, apply_ite Prod.snd]

@[simp] theorem State.moveFlush_rest {W : Touch} [W.Pair] [W.Mot] [W.In .motion] (s : State) (a1 : List Nat)  : (State.moveFlush s a1).1.rest W = s.rest W := by
  unfold State.moveFlush
  simp only [State.motShow_rest, State.freeMove_rest, rest_next, ite_self, implies_true, State.each_rest, State.on_rest, apply_ite (State.rest _), apply_ite (Res.rest _), apply_ite Prod.fst, apply_ite Prod.snd]

@[simp] theorem execMoveFlush_rest {W : Touch} [W.Log] [W.Tags] [W.Held] [W.Pair] [W.Mot] [W.Clk] [W.In .core] [W.In .fault] [W.In .motion] (a0 : Via) (s : State)  : Res.rest W (execMoveFlush a0 s) = some (s.rest W) := by
  have ⟨_, _, _, _, _⟩ := Touch.logIns W
  unfold execMoveFlush
  simp only [State.tblOp_rest, now_rest, State.moveFlush_rest, rest_next, ite_self, implies_true, State.each_rest, State.on_rest, apply_ite (State.rest _), apply_ite (Res.rest _), apply_ite Prod.fst, apply_ite Prod.snd]

@[simp] theorem State.setLimits_rest {W : Touch} [W.Pair] [W.Mot] [W.In .motion] (s : State) (a1 : List Nat) (a2 : Nat)  : (State.setLimits s a1 a2).1.rest W = s.rest W := by
  unfold State.setLimits
  simp only [State.setMotion_rest, State.setMove_rest, rest_next, ite_self, implies_true, State.each_rest, State.on_rest, apply_ite (State.rest _), apply_ite (Res.rest _), apply_ite Prod.fst, apply_ite Prod.snd]

@[simp] theorem execSetLimits_rest {W : Touch} [W.Log] [W.Tags] [W.Held] [W.Pair] [W.Mot] [W.Clk] [W.In .core] [W.In .fault] [W.In .motion] (a0 : Via) (s : State)  : Res.rest W (execSetLimits a0 s) = some (s.rest W) := by
  have ⟨_, _, _, _, _⟩ := Touch.logIns W
  unfold execSetLimits
  simp only [State.tblOp_rest, now_rest, State.setLimits_rest, rest_next, ite_self, implies_true, State.each_rest, State.on_rest, apply_ite (State.rest _), apply_ite (Res.rest _), apply_ite Prod.fst, apply_ite Prod.snd]

@[simp] theorem postFn_rest {W : Touch} [W.VecSent] [W.Fq] [W.Out] [W.Canal] [W.Disp] [W.In .canal] [W.In .core] [W.In .dispatch] [W.In .eth] [W.In .flume] [W.In .pcie]   : ∀ s k d, (postFn s k d).1.rest W = s.rest W := by
  intro s k d
  rw [postFn.eq_def]
  grind [State.offer_rest, rest_next]

@[simp] theorem execDispatchPost_rest {W : Touch} [W.Log] [W.Tags] [W.Held] [W.Disp] [W.Clk] [W.In .core] [W.In .dispatch] [W.In .fault] (a0 : Via) (s : State)  : Res.rest W (execDispatchPost a0 s) = some (s.rest W) := by
  have ⟨_, _, _, _, _⟩ := Touch.logIns W
  unfold execDispatchPost
  simp only [State.tblOp_rest, postFn_rest, rest_next, ite_self, implies_true, State.each_rest, State.on_rest, apply_ite (State.rest _), apply_ite (Res.rest _), apply_ite Prod.fst, apply_ite Prod.snd]

@[simp] theorem createFn_rest {W : Touch} [W.VecSent] [W.Fq] [W.Out] [W.Canal] [W.Pair] [W.Disp] [W.In .canal] [W.In .core] [W.In .dispatch] [W.In .eth] [W.In .flume] [W.In .pcie] [W.In .taskboard]   : ∀ s k d, (createFn s k d).1.rest W = s.rest W := by
  intro s k d
  unfold createFn
  dsimp only
  (repeat' split) <;> simp only [State.inc_rest, State.taskTo_rest, rest_next, implies_true, State.each_rest, State.on_rest]

@[simp] theorem execTaskCreate_rest {W : Touch} [W.Log] [W.Tags] [W.Held] [W.Pair] [W.Disp] [W.Clk] [W.In .core] [W.In .dispatch] [W.In .fault] [W.In .taskboard] (a0 : Via) (s : State)  : Res.rest W (execTaskCreate a0 s) = some (s.rest W) := by
  have ⟨_, _, _, _, _⟩ := Touch.logIns W
  unfold execTaskCreate
  simp only [State.tblOp_rest, createFn_rest, rest_next, ite_self, implies_true, State.each_rest, State.on_rest, apply_ite (State.rest _), apply_ite (Res.rest _), apply_ite Prod.fst, apply_ite Prod.snd]

@[simp] theorem onTask_rest {W : Touch}  (f : State → Nat → State × TRes) (h : ∀ t i, (f t i).1.rest W = t.rest W) (s : State)
    (k : List Nat) (d : Nat) : (onTask f s k d).1.rest W = s.rest W := by
  unfold onTask
  dsimp only
  split
  · rfl
  · exact h s _

@[simp] theorem offerFn_rest {W : Touch} [W.VecSent] [W.Fq] [W.Out] [W.Canal] [W.Air] [W.Pair] [W.Disp] [W.In .canal] [W.In .core] [W.In .dispatch] [W.In .eth] [W.In .flume] [W.In .pcie] [W.In .taskboard]   : ∀ s k d, (offerFn s k d).1.rest W = s.rest W := by
  intro s k d
  unfold offerFn
  simp only [onTask_rest, State.taskDeadline_rest, State.taskTo_rest, State.queueDown_rest, rest_next, ite_self, implies_true, State.each_rest, State.on_rest, apply_ite (State.rest _), apply_ite (Res.rest _), apply_ite Prod.fst, apply_ite Prod.snd]

@[simp] theorem execTaskOffer_rest {W : Touch} [W.Log] [W.Tags] [W.Held] [W.Air] [W.Pair] [W.Disp] [W.Clk] [W.In .core] [W.In .dispatch] [W.In .fault] [W.In .taskboard] (a0 : Via) (s : State)  : Res.rest W (execTaskOffer a0 s) = some (s.rest W) := by
  have ⟨_, _, _, _, _⟩ := Touch.logIns W
  unfold execTaskOffer
  simp only [State.tblOp_rest, offerFn_rest, rest_next, ite_self, implies_true, State.each_rest, State.on_rest, apply_ite (State.rest _), apply_ite (Res.rest _), apply_ite Prod.fst, apply_ite Prod.snd]

@[simp] theorem State.taskClaim_rest {W : Touch} [W.VecSent] [W.Fq] [W.Out] [W.Canal] [W.Pair] [W.Disp] [W.In .canal] [W.In .core] [W.In .dispatch] [W.In .eth] [W.In .flume] [W.In .pcie] [W.In .taskboard] (s : State) (a1 : Nat) (a2 : Nat)  : (State.taskClaim s a1 a2).1.rest W = s.rest W := by
  unfold State.taskClaim
  simp only [State.inc_rest, State.taskDeadline_rest, State.taskTo_rest, rest_next, ite_self, implies_true, State.each_rest, State.on_rest, apply_ite (State.rest _), apply_ite (Res.rest _), apply_ite Prod.fst, apply_ite Prod.snd]

@[simp] theorem execTaskClaim_rest {W : Touch} [W.Log] [W.Tags] [W.Held] [W.Pair] [W.Disp] [W.Clk] [W.In .core] [W.In .dispatch] [W.In .fault] [W.In .taskboard] (a0 : Via) (s : State)  : Res.rest W (execTaskClaim a0 s) = some (s.rest W) := by
  have ⟨_, _, _, _, _⟩ := Touch.logIns W
  unfold execTaskClaim
  simp only [State.tblOp_rest, onTask_rest, State.taskClaim_rest, rest_next, ite_self, implies_true, State.each_rest, State.on_rest, apply_ite (State.rest _), apply_ite (Res.rest _), apply_ite Prod.fst, apply_ite Prod.snd]

@[simp] theorem State.taskStart_rest {W : Touch} [W.VecSent] [W.Fq] [W.Out] [W.Canal] [W.Pair] [W.Disp] [W.In .canal] [W.In .core] [W.In .dispatch] [W.In .eth] [W.In .flume] [W.In .pcie] [W.In .taskboard] (s : State) (a1 : Nat) (a2 : Option Nat)  : (State.taskStart s a1 a2).1.rest W = s.rest W := by
  unfold State.taskStart
  simp only [State.taskDeadline_rest, State.setTe_rest, State.taskTo_rest, rest_next, ite_self, implies_true, State.each_rest, State.on_rest, apply_ite (State.rest _), apply_ite (Res.rest _), apply_ite Prod.fst, apply_ite Prod.snd]

@[simp] theorem execTaskStart_rest {W : Touch} [W.Log] [W.Tags] [W.Held] [W.Pair] [W.Disp] [W.Clk] [W.In .core] [W.In .dispatch] [W.In .fault] [W.In .taskboard] (a0 : Via) (s : State)  : Res.rest W (execTaskStart a0 s) = some (s.rest W) := by
  have ⟨_, _, _, _, _⟩ := Touch.logIns W
  unfold execTaskStart
  simp only [State.tblOp_rest, onTask_rest, State.taskStart_rest, rest_next, ite_self, implies_true, State.each_rest, State.on_rest, apply_ite (State.rest _), apply_ite (Res.rest _), apply_ite Prod.fst, apply_ite Prod.snd]

@[simp] theorem State.taskFinish_rest {W : Touch} [W.VecSent] [W.Fq] [W.Out] [W.Canal] [W.Pair] [W.Disp] [W.In .canal] [W.In .core] [W.In .dispatch] [W.In .eth] [W.In .flume] [W.In .pcie] [W.In .taskboard] (s : State) (a1 : Nat) (a2 : Bool) (a3 : Option (Nat × Nat))  : (State.taskFinish s a1 a2 a3).1.rest W = s.rest W := by
  unfold State.taskFinish
  simp only [State.taskDeadline_rest, State.inc_rest, State.taskTo_rest, rest_next, ite_self, implies_true, State.each_rest, State.on_rest, apply_ite (State.rest _), apply_ite (Res.rest _), apply_ite Prod.fst, apply_ite Prod.snd]

@[simp] theorem execTaskFinish_rest {W : Touch} [W.Log] [W.Tags] [W.Held] [W.Pair] [W.Disp] [W.Clk] [W.In .core] [W.In .dispatch] [W.In .fault] [W.In .taskboard] (a0 : Via) (s : State)  : Res.rest W (execTaskFinish a0 s) = some (s.rest W) := by
  have ⟨_, _, _, _, _⟩ := Touch.logIns W
  unfold execTaskFinish
  simp only [State.tblOp_rest, onTask_rest, State.taskFinish_rest, rest_next, ite_self, implies_true, State.each_rest, State.on_rest, apply_ite (State.rest _), apply_ite (Res.rest _), apply_ite Prod.fst, apply_ite Prod.snd]

@[simp] theorem execTaskWithdraw_rest {W : Touch} [W.Log] [W.Tags] [W.Held] [W.Air] [W.Pair] [W.Disp] [W.Clk] [W.In .core] [W.In .dispatch] [W.In .fault] [W.In .taskboard] (a0 : Via) (s : State)  : Res.rest W (execTaskWithdraw a0 s) = some (s.rest W) := by
  have ⟨_, _, _, _, _⟩ := Touch.logIns W
  unfold execTaskWithdraw
  simp only [State.tblOp_rest, onTask_rest, State.taskDeadline_rest, State.taskTo_rest, State.queueDown_rest, rest_next, ite_self, implies_true, State.each_rest, State.on_rest, apply_ite (State.rest _), apply_ite (Res.rest _), apply_ite Prod.fst, apply_ite Prod.snd]

@[simp] theorem execTaskFree_rest {W : Touch} [W.Log] [W.Tags] [W.Held] [W.Pair] [W.Disp] [W.Clk] [W.In .core] [W.In .dispatch] [W.In .fault] [W.In .taskboard] (a0 : Via) (s : State)  : Res.rest W (execTaskFree a0 s) = some (s.rest W) := by
  have ⟨_, _, _, _, _⟩ := Touch.logIns W
  unfold execTaskFree
  simp only [State.tblOp_rest, onTask_rest, State.setTe_rest, State.taskTo_rest, rest_next, ite_self, implies_true, State.each_rest, State.on_rest, apply_ite (State.rest _), apply_ite (Res.rest _), apply_ite Prod.fst, apply_ite Prod.snd]

@[simp] theorem State.ksUse_rest {W : Touch} [W.Log] [W.Pair] [W.In .frameSec] [W.In .keystore] (s : State) (a1 : Nat)  : (State.ksUse s a1).rest W = s.rest W := by
  have ⟨_, _, _, _, _⟩ := Touch.logIns W
  unfold State.ksUse
  simp only [State.notice_rest, State.inc_rest, State.ksPut_rest, State.setTe_rest, rest_next, ite_self, implies_true, State.each_rest, State.on_rest, apply_ite (State.rest _), apply_ite (Res.rest _), apply_ite Prod.fst, apply_ite Prod.snd]

@[simp] theorem ksSignFn_rest {W : Touch} [W.Log] [W.Fresh] [W.Pair] [W.In .frameSec] [W.In .keystore] (a0 : Src)  : ∀ s k d, (ksSignFn a0 s k d).1.rest W = s.rest W := by
  have ⟨_, _, _, _, _⟩ := Touch.logIns W
  intro s k d
  unfold ksSignFn
  dsimp only
  (repeat' split) <;> simp only [State.freeSig_rest, State.ksUse_rest, State.inc_rest, rest_next, implies_true, State.each_rest, State.on_rest]

@[simp] theorem execKsSign_rest {W : Touch} [W.Log] [W.Fresh] [W.Tags] [W.Held] [W.Pair] [W.Clk] [W.In .core] [W.In .fault] [W.In .frameSec] [W.In .keystore] (a0 : Via) (s : State)  : Res.rest W (execKsSign a0 s) = some (s.rest W) := by
  have ⟨_, _, _, _, _⟩ := Touch.logIns W
  unfold execKsSign
  simp only [State.tblOp_rest, ksSignFn_rest, rest_next, ite_self, implies_true, State.each_rest, State.on_rest, apply_ite (State.rest _), apply_ite (Res.rest _), apply_ite Prod.fst, apply_ite Prod.snd]

@[simp] theorem ksVerifyFn_rest {W : Touch} [W.Log] [W.Pair] [W.In .frameSec] [W.In .keystore] (a0 : Src) (a1 : Bool)  : ∀ s k d, (ksVerifyFn a0 a1 s k d).1.rest W = s.rest W := by
  have ⟨_, _, _, _, _⟩ := Touch.logIns W
  intro s k d
  unfold ksVerifyFn
  dsimp only
  (repeat' split) <;> simp only [State.ksUse_rest, State.inc_rest, rest_next, implies_true, State.each_rest, State.on_rest]

@[simp] theorem execKsVerify_rest {W : Touch} [W.Log] [W.Tags] [W.Held] [W.Pair] [W.Clk] [W.In .core] [W.In .fault] [W.In .frameSec] [W.In .keystore] (a0 : Via) (a1 : Bool) (s : State)  : Res.rest W (execKsVerify a0 a1 s) = some (s.rest W) := by
  have ⟨_, _, _, _, _⟩ := Touch.logIns W
  unfold execKsVerify
  simp only [State.tblOp_rest, ksVerifyFn_rest, rest_next, ite_self, implies_true, State.each_rest, State.on_rest, apply_ite (State.rest _), apply_ite (Res.rest _), apply_ite Prod.fst, apply_ite Prod.snd]

@[simp] theorem ksDeriveFn_rest {W : Touch} [W.Log] [W.Fresh] [W.Pair] [W.In .frameSec] [W.In .keystore] (a0 : Src)  : ∀ s k d, (ksDeriveFn a0 s k d).1.rest W = s.rest W := by
  have ⟨_, _, _, _, _⟩ := Touch.logIns W
  intro s k d
  unfold ksDeriveFn
  dsimp only
  (repeat' split) <;> simp only [State.free256_rest, State.ksPut_rest, State.ksUse_rest, State.inc_rest, rest_next, implies_true, State.each_rest, State.on_rest]

@[simp] theorem execKsDerive_rest {W : Touch} [W.Log] [W.Fresh] [W.Tags] [W.Held] [W.Pair] [W.Clk] [W.In .core] [W.In .fault] [W.In .frameSec] [W.In .keystore] (a0 : Via) (s : State)  : Res.rest W (execKsDerive a0 s) = some (s.rest W) := by
  have ⟨_, _, _, _, _⟩ := Touch.logIns W
  unfold execKsDerive
  simp only [State.tblOp_rest, ksDeriveFn_rest, rest_next, ite_self, implies_true, State.each_rest, State.on_rest, apply_ite (State.rest _), apply_ite (Res.rest _), apply_ite Prod.fst, apply_ite Prod.snd]

@[simp] theorem State.tblStart_rest {W : Touch} [W.Log] [W.Fresh] [W.Dram] [W.Tags] [W.Held] [W.Air] [W.Pair] [W.Disp] [W.Ls] [W.Mot] [W.Rtk] [W.Rt] [W.Clk] [∀ b, W.In b] (s : State) (a1 : Via) (a2 : Page) (a3 : Nat) (a4 : Nat) (a5 : Nat)  : (State.tblStart s a1 a2 a3 a4 a5).rest W = s.rest W := by
  unfold State.tblStart
  dsimp only
  (repeat' split) <;> simp only [execSluiceBankClear_rest, State.tblGo_rest, execRouteRepack_rest, execFurrowOpen_rest, execFurrowSteps_rest, execFurrowSubmit_rest, execFurrowRelease_rest, execClearOverstay_rest, execAbandon_rest, execTurnoutTake_rest, execTurnoutDrop_rest, execOrphanClear_rest, execSeqOpen_rest, execSeqStage_rest, execSeqCommit_rest, execSeqDiscard_rest, execRegistryRelease_rest, execRegistryHold_rest, execEvict_rest, execMoveAdd_rest, execMoveFlush_rest, execSetLimits_rest, execDispatchPost_rest, execTaskCreate_rest, execTaskOffer_rest, execTaskClaim_rest, execTaskStart_rest, execTaskFinish_rest, execTaskWithdraw_rest, execTaskFree_rest, execKsSign_rest, State.free_rest, execKsVerify_rest, execKsDerive_rest, Res.state_rest, rest_next, implies_true, State.each_rest, State.on_rest]

@[simp] theorem State.cmdRec_rest {W : Touch} [W.Log] [W.Fresh] [W.Dram] [W.Tags] [W.Held] [W.Air] [W.Pair] [W.Disp] [W.Ls] [W.Mot] [W.Rtk] [W.Rt] [W.Clk] [∀ b, W.In b] (s : State) (a1 : Nat) (a2 : List Nat)  : (State.cmdRec s a1 a2).rest W = s.rest W := by
  unfold State.cmdRec
  dsimp only
  (repeat' split) <;> simp only [State.tblStart_rest, State.cmdDone_rest, rest_next, implies_true, State.each_rest, State.on_rest]

@[simp] theorem State.dirWrite_rest {W : Touch} [W.Boot] [W.In .boot] (s : State) (a1 : DirCopy)  : (State.dirWrite s a1).rest W = s.rest W := by
  unfold State.dirWrite
  simp only [State.set_rest, State.rest_boot, rest_next, ite_self, implies_true, State.each_rest, State.on_rest, apply_ite (State.rest _), apply_ite (Res.rest _), apply_ite Prod.fst, apply_ite Prod.snd]

@[simp] theorem State.fuseStart_rest {W : Touch} [W.Log] [W.Key] [W.In .fuse] (s : State) (a1 : FuseJob)  : (State.fuseStart s a1).rest W = s.rest W := by
  have ⟨_, _, _, _, _⟩ := Touch.logIns W
  unfold State.fuseStart
  simp only [State.sysEvent_rest, State.foundNow_rest, State.set_rest, State.rest_key, rest_next, ite_self, implies_true, State.each_rest, State.on_rest, apply_ite (State.rest _), apply_ite (Res.rest _), apply_ite Prod.fst, apply_ite Prod.snd]

@[simp] theorem State.commit_rest {W : Touch} [W.Log] [W.Key] [W.Boot] [W.In .boot] [W.In .fuse] (s : State) (a1 : Nat)  : (State.commit s a1).rest W = s.rest W := by
  have ⟨_, _, _, _, _⟩ := Touch.logIns W
  unfold State.commit
  dsimp only
  (repeat' split) <;> simp only [State.dirWrite_rest, State.set_rest, State.fuseStart_rest, State.rest_key, rest_next, implies_true, State.each_rest, State.on_rest]

@[simp] theorem State.compareShadow_rest {W : Touch} [W.Log] [W.Rt] [W.In .route] (s : State) (a1 : Nat)  : (State.compareShadow s a1).rest W = s.rest W := by
  have ⟨_, _, _, _, _⟩ := Touch.logIns W
  unfold State.compareShadow
  simp only [State.notice_rest, State.inc_rest, State.routeShow_rest, State.set_rest, State.rest_tblset, State.rest_tbldel, State.rest_tblclr, State.rest_rt, State.rest_tbl, rest_next, ite_self, implies_true, State.each_rest, State.on_rest, apply_ite (State.rest _), apply_ite (Res.rest _), apply_ite Prod.fst, apply_ite Prod.snd]

@[simp] theorem State.conform_rest {W : Touch} [W.Log] [W.Pair] [W.Disp] [W.Mot] [W.In .core] [W.In .dispatch] [W.In .registry] (s : State) (a1 : Nat) (a2 : Nat) (a3 : List Int) (a4 : Nat)  : (State.conform s a1 a2 a3 a4).rest W = s.rest W := by
  have ⟨_, _, _, _, _⟩ := Touch.logIns W
  unfold State.conform; (repeat' (first | split | intro)) <;> simp [State.setMotion_rest, State.mset_rest, State.inc_rest, State.regCounts_rest, State.holdMember_rest, State.notice_rest, rest_next, ite_self, implies_true, State.each_rest, State.on_rest, apply_ite (State.rest _), apply_ite (Res.rest _), apply_ite Prod.fst, apply_ite Prod.snd]

@[simp] theorem State.spoofLatch_rest {W : Touch} [W.Log] [W.In .gnssMeas] (s : State)  : (State.spoofLatch s).rest W = s.rest W := by
  have ⟨_, _, _, _, _⟩ := Touch.logIns W
  unfold State.spoofLatch
  simp only [State.notice_rest, State.set_rest, rest_next, ite_self, implies_true, State.each_rest, State.on_rest, apply_ite (State.rest _), apply_ite (Res.rest _), apply_ite Prod.fst, apply_ite Prod.snd]

@[simp] theorem State.consist_rest {W : Touch} [W.Log] [W.Gn] [W.In .gnssMeas] (s : State) (a1 : List MeasRec) (a2 : List SigGeom)  : (State.consist s a1 a2).rest W = s.rest W := by
  have ⟨_, _, _, _, _⟩ := Touch.logIns W
  unfold State.consist
  simp only [State.setActive_rest, State.set_rest, State.spoofLatch_rest, State.rest_gn, rest_next, ite_self, implies_true, State.each_rest, State.on_rest, apply_ite (State.rest _), apply_ite (Res.rest _), apply_ite Prod.fst, apply_ite Prod.snd]

@[simp] theorem State.corrDrop_rest {W : Touch} [W.VecSent] [W.Out] [W.In .corrOut] [W.In .pcie] (s : State) (a1 : Ctr) (a2 : Nat) [W.In a1.blk] : (State.corrDrop s a1 a2).rest W = s.rest W := by
  unfold State.corrDrop
  simp only [State.irq_rest, State.inc_rest, rest_next, ite_self, implies_true, State.each_rest, State.on_rest, apply_ite (State.rest _), apply_ite (Res.rest _), apply_ite Prod.fst, apply_ite Prod.snd]

@[simp] theorem State.corrAge_rest {W : Touch} [W.VecSent] [W.Out] [W.Rtk] [W.In .corrOut] [W.In .pcie] (s : State) (a1 : Nat) (a2 : Nat)  : (State.corrAge s a1 a2).rest W = s.rest W := by
  unfold State.corrAge
  dsimp only
  (repeat' split) <;> simp only [State.corrDrop_rest, State.rest_rtk, rest_next, implies_true, State.each_rest, State.on_rest]

@[simp] theorem State.hostSeen_rest {W : Touch} [W.Lk] [W.In .flume] (s : State)  : (State.hostSeen s).rest W = s.rest W := by
  unfold State.hostSeen
  simp only [State.set_rest, State.rest_lk, rest_next, ite_self, implies_true, State.each_rest, State.on_rest, apply_ite (State.rest _), apply_ite (Res.rest _), apply_ite Prod.fst, apply_ite Prod.snd]

@[simp] theorem State.takeCredit_rest {W : Touch} [W.Fq] [W.Out] [W.Canal] [W.In .canal] [W.In .eth] [W.In .flume] (s : State) (a1 : Credit)  : (State.takeCredit s a1).rest W = s.rest W := by
  unfold State.takeCredit
  simp only [State.qPump_rest, State.setQ_rest, rest_next, ite_self, implies_true, State.each_rest, State.on_rest, apply_ite (State.rest _), apply_ite (Res.rest _), apply_ite Prod.fst, apply_ite Prod.snd]

@[simp] theorem State.hostRoom_rest {W : Touch} [W.VecSent] [W.Fq] [W.Out] [W.Canal] [W.Air] [W.Disp] [W.In .canal] [W.In .core] [W.In .dispatch] [W.In .eth] [W.In .flume] [W.In .pcie] (s : State)  : (State.hostRoom s).rest W = s.rest W := by
  unfold State.hostRoom
  simp only [State.traceDrain_rest, State.qWaits_rest, State.releaseFlow_rest, rest_next, ite_self, implies_true, State.each_rest, State.on_rest, apply_ite (State.rest _), apply_ite (Res.rest _), apply_ite Prod.fst, apply_ite Prod.snd]

@[simp] theorem State.markStall_rest {W : Touch} [W.Fq] (s : State) (a1 : Nat)  : (State.markStall s a1).rest W = s.rest W := by
  unfold State.markStall
  simp only [State.setQ_rest, rest_next, ite_self, implies_true, State.each_rest, State.on_rest, apply_ite (State.rest _), apply_ite (Res.rest _), apply_ite Prod.fst, apply_ite Prod.snd]

@[simp] theorem State.creditRx_rest {W : Touch} [W.VecSent] [W.Fq] [W.Out] [W.Canal] [W.Air] [W.Lk] [W.Disp] [W.In .canal] [W.In .core] [W.In .dispatch] [W.In .eth] [W.In .flume] [W.In .pcie] (s : State) (a1 : Nat) (a2 : List Credit)  : (State.creditRx s a1 a2).rest W = s.rest W := by
  unfold State.creditRx
  simp only [State.inc_rest, State.hostSeen_rest, State.takeCredit_rest, State.hostRoom_rest, State.markStall_rest, rest_next, ite_self, implies_true, State.each_rest, State.on_rest, apply_ite (State.rest _), apply_ite (Res.rest _), apply_ite Prod.fst, apply_ite Prod.snd]

@[simp] theorem State.sendImages_rest {W : Touch} [W.Out] [W.Canal] [W.In .canal] (s : State) (a1 : Nat) (a2 : Nat) (a3 : List Image) (a4 : Bool)  : (State.sendImages s a1 a2 a3 a4).rest W = s.rest W := by
  unfold State.sendImages
  simp only [State.pairSend_rest, rest_next, ite_self, implies_true, State.each_rest, State.on_rest, apply_ite (State.rest _), apply_ite (Res.rest _), apply_ite Prod.fst, apply_ite Prod.snd]

@[simp] theorem State.pairCut_rest {W : Touch} [W.Out] [W.Canal] [W.Pair] [W.In .canal] [W.In .pair] (s : State)  : (State.pairCut s).rest W = s.rest W := by
  unfold State.pairCut
  simp only [State.set_rest, State.pairSend_rest, State.sendImages_rest, State.sendStopState_rest, State.inc_rest, State.rest_pair, rest_next, ite_self, implies_true, State.each_rest, State.on_rest, apply_ite (State.rest _), apply_ite (Res.rest _), apply_ite Prod.fst, apply_ite Prod.snd]

@[simp] theorem State.deltaAcked_rest {W : Touch} [W.VecSent] [W.Fq] [W.Out] [W.Canal] [W.Pair] [W.Disp] [W.Ls] [W.In .canal] [W.In .core] [W.In .dispatch] [W.In .eth] [W.In .flume] [W.In .lease] [W.In .pcie] (s : State) (a1 : Nat)  : (State.deltaAcked s a1).rest W = s.rest W := by
  unfold State.deltaAcked
  simp only [State.tryCommit_rest, State.rest_ls, rest_next, ite_self, implies_true, State.each_rest, State.on_rest, apply_ite (State.rest _), apply_ite (Res.rest _), apply_ite Prod.fst, apply_ite Prod.snd]

@[simp] theorem State.cutAtBoundary_rest {W : Touch} [W.VecSent] [W.Fq] [W.Out] [W.Canal] [W.Pair] [W.Disp] [W.Ls] [W.In .canal] [W.In .core] [W.In .dispatch] [W.In .eth] [W.In .flume] [W.In .lease] [W.In .pair] [W.In .pcie] (s : State)  : (State.cutAtBoundary s).rest W = s.rest W := by
  unfold State.cutAtBoundary
  simp only [State.pairCut_rest, State.deltaAcked_rest, rest_next, ite_self, implies_true, State.each_rest, State.on_rest, apply_ite (State.rest _), apply_ite (Res.rest _), apply_ite Prod.fst, apply_ite Prod.snd]

@[simp] theorem State.dbgObserve_rest {W : Touch} [W.Log] [W.Hg] [W.In .debug] [W.In .headgate] (s : State)  : (State.dbgObserve s).rest W = s.rest W := by
  have ⟨_, _, _, _, _⟩ := Touch.logIns W
  unfold State.dbgObserve
  simp only [State.dbgOpen_rest, State.dbgResult_rest, rest_next, ite_self, implies_true, State.each_rest, State.on_rest, apply_ite (State.rest _), apply_ite (Res.rest _), apply_ite Prod.fst, apply_ite Prod.snd]

@[simp] theorem State.debugHalt_rest {W : Touch} [W.Level] [W.Dbg] [W.In .reset] (s : State) (a1 : Nat) (a2 : Nat)  : (State.debugHalt s a1 a2).rest W = s.rest W := by
  have ⟨_, _, _, _, _, _, _, _, _, _, _, _⟩ := Touch.levelIns W
  unfold State.debugHalt
  simp only [State.recompute_rest, State.set_rest, State.supUnhalt_rest, State.preempt_rest, State.rest_dbg, rest_next, ite_self, implies_true, State.each_rest, State.on_rest, apply_ite (State.rest _), apply_ite (Res.rest _), apply_ite Prod.fst, apply_ite Prod.snd]

@[simp] theorem State.decidePast_rest {W : Touch} [W.Log] [W.Pair] [W.Disp] [W.Ls] [W.Mot] [W.In .core] [W.In .dispatch] [W.In .lease] [W.In .motion] [W.In .registry] [W.In .taskboard] [W.In .turnout] (s : State)  : (State.decidePast s).rest W = s.rest W := by
  have ⟨_, _, _, _, _⟩ := Touch.logIns W
  unfold State.decidePast
  simp only [State.taskDeadlines_rest, State.stepDue_rest, rest_next, ite_self, implies_true, State.each_rest, State.on_rest, apply_ite (State.rest _), apply_ite (Res.rest _), apply_ite Prod.fst, apply_ite Prod.snd]

@[simp] theorem State.run_rest {W : Touch}  (s : State) (f : State → Res) (h : ∀ t, Res.rest W (f t) = some (t.rest W)) : (s.run f).rest W = s.rest W :=
  Res.state_rest s _ (h s)

@[simp] theorem State.pairData_rest {W : Touch} [W.Pair] [W.In .pair] (s : State) (a1 : PairMsg)  : (State.pairData s a1).rest W = s.rest W := by
  unfold State.pairData
  grind [State.inc_rest, State.set_rest, State.rest_pair, rest_next]

@[simp] theorem execPairDataRx_rest {W : Touch} [W.Pair] [W.In .pair] (a0 : PairMsg) (s : State)  : Res.rest W (execPairDataRx a0 s) = some (s.rest W) := by
  unfold execPairDataRx
  simp only [State.readyShow_rest, State.pairData_rest, rest_next, ite_self, implies_true, State.each_rest, State.on_rest, apply_ite (State.rest _), apply_ite (Res.rest _), apply_ite Prod.fst, apply_ite Prod.snd]

@[simp] theorem State.noteTrailer_rest {W : Touch} [W.Ls] (s : State) (a1 : Nat) (a2 : Nat) (a3 : Bool)  : (State.noteTrailer s a1 a2 a3).rest W = s.rest W := by
  unfold State.noteTrailer
  simp only [State.rest_ls, rest_next, ite_self, implies_true, State.each_rest, State.on_rest, apply_ite (State.rest _), apply_ite (Res.rest _), apply_ite Prod.fst, apply_ite Prod.snd]

@[simp] theorem State.followTables_rest {W : Touch} [W.Ls] [W.In .lease] [W.In .registry] [W.In .sluice] [W.In .turnout] (s : State)  : (State.followTables s).rest W = s.rest W := by
  unfold State.followTables
  simp only [State.noteTrailer_rest, State.portInfo_rest, State.leaseShow_rest, State.regCounts_rest, State.rest_ls, rest_next, ite_self, implies_true, State.each_rest, State.on_rest, apply_ite (State.rest _), apply_ite (Res.rest _), apply_ite Prod.fst, apply_ite Prod.snd]

@[simp] theorem State.switchFinish_rest {W : Touch} [W.Log] [W.Tags] [W.Held] [W.Air] [W.Arb] [W.Lk] [W.Pair] [W.Disp] [W.Ls] [W.Mot] [∀ b, W.In b] (s : State) (a1 : DeltaRec)  : (State.switchFinish s a1).rest W = s.rest W := by
  unfold State.switchFinish
  simp only [State.bumpSources_rest, State.followTables_rest, State.applyImage_rest, State.setMotion_rest, State.takeZone_rest, State.rest_pair_ls, rest_next, ite_self, implies_true, State.each_rest, State.on_rest, apply_ite (State.rest _), apply_ite (Res.rest _), apply_ite Prod.fst, apply_ite Prod.snd]

@[simp] theorem State.warmApply_rest {W : Touch} [W.Air] [W.Ls] [W.Mot] [∀ b, W.In b] (s : State)  : (State.warmApply s).rest W = s.rest W := by
  unfold State.warmApply
  grind [State.followTables_rest, State.applyContent_rest, rest_next]

@[simp] theorem State.takeDelta_rest {W : Touch} [W.Log] [W.Tags] [W.Held] [W.Air] [W.Arb] [W.Lk] [W.Pair] [W.Disp] [W.Ls] [W.Mot] [∀ b, W.In b] (s : State) (a1 : PairMsg) (a2 : DeltaRec) (a3 : List DeltaRec)  : (State.takeDelta s a1 a2 a3).rest W = s.rest W := by
  unfold State.takeDelta
  simp only [State.inc_rest, State.set_rest, State.switchFinish_rest, State.warmApply_rest, State.pairSend_rest, State.rest_pair, rest_next, ite_self, implies_true, State.each_rest, State.on_rest, apply_ite (State.rest _), apply_ite (Res.rest _), apply_ite Prod.fst, apply_ite Prod.snd]

@[simp] theorem execPairCutRx_rest {W : Touch} [W.Log] [W.Tags] [W.Held] [W.Air] [W.Arb] [W.Lk] [W.Pair] [W.Disp] [W.Ls] [W.Mot] [∀ b, W.In b] (a0 : PairMsg) (s : State)  : Res.rest W (execPairCutRx a0 s) = some (s.rest W) := by
  unfold execPairCutRx
  simp only [State.readyShow_rest, State.takeDelta_rest, State.rest_pair, rest_next, ite_self, implies_true, State.each_rest, State.on_rest, apply_ite (State.rest _), apply_ite (Res.rest _), apply_ite Prod.fst, apply_ite Prod.snd]

@[simp] theorem execPairAckRx_rest {W : Touch} [W.VecSent] [W.Fq] [W.Out] [W.Canal] [W.Pair] [W.Disp] [W.Ls] [W.In .canal] [W.In .core] [W.In .dispatch] [W.In .eth] [W.In .flume] [W.In .lease] [W.In .pair] [W.In .pcie] (a0 : Nat) (s : State)  : Res.rest W (execPairAckRx a0 s) = some (s.rest W) := by
  unfold execPairAckRx
  simp only [State.set_rest, State.tryCommit_rest, State.rest_pair, State.rest_pair_ls, rest_next, ite_self, implies_true, State.each_rest, State.on_rest, apply_ite (State.rest _), apply_ite (Res.rest _), apply_ite Prod.fst, apply_ite Prod.snd]

@[simp] theorem execStopStateRx_rest {W : Touch} [W.Log] [W.Hg] [W.Dbg] [W.In .headgate] (a0 : Nat) (a1 : Nat) (a2 : Nat) (s : State)  : Res.rest W (execStopStateRx a0 a1 a2 s) = some (s.rest W) := by
  have ⟨_, _, _, _, _⟩ := Touch.logIns W
  unfold execStopStateRx
  simp only [State.set_rest, State.raiseCause_rest, State.clearCauses_rest, State.disarm_rest, rest_next, ite_self, implies_true, State.each_rest, State.on_rest, apply_ite (State.rest _), apply_ite (Res.rest _), apply_ite Prod.fst, apply_ite Prod.snd]

@[simp] theorem State.ksMove_rest {W : Touch} [W.Pair] [W.In .frameSec] [W.In .keystore] (s : State) (a1 : Nat) (a2 : Nat)  : (State.ksMove s a1 a2).rest W = s.rest W := by
  unfold State.ksMove
  simp only [State.ksPut_rest, rest_next, ite_self, implies_true, State.each_rest, State.on_rest, apply_ite (State.rest _), apply_ite (Res.rest _), apply_ite Prod.fst, apply_ite Prod.snd]

@[simp] theorem State.graceBegin_rest {W : Touch} [W.Air] (s : State) (a1 : List Nat)  : (State.graceBegin s a1).rest W = s.rest W := by
  unfold State.graceBegin
  simp only [State.rest_air, rest_next, ite_self, implies_true, State.each_rest, State.on_rest, apply_ite (State.rest _), apply_ite (Res.rest _), apply_ite Prod.fst, apply_ite Prod.snd]

@[simp] theorem State.hgLoadKey_rest {W : Touch} [W.Hg] [W.In .headgate] (s : State) (a1 : Nat)  : (State.hgLoadKey s a1).rest W = s.rest W := by
  unfold State.hgLoadKey
  simp only [State.set_rest, State.rebuildSets_rest, State.rest_hg, rest_next, ite_self, implies_true, State.each_rest, State.on_rest, apply_ite (State.rest _), apply_ite (Res.rest _), apply_ite Prod.fst, apply_ite Prod.snd]

@[simp] theorem State.rotateKeys_rest {W : Touch} [W.VecSent] [W.Out] [W.Hg] [W.Air] [W.Pair] [W.In .frameSec] [W.In .headgate] [W.In .keystore] [W.In .pcie] [W.In .sluice] (s : State)  : (State.rotateKeys s).rest W = s.rest W := by
  unfold State.rotateKeys
  simp only [State.zeroise_rest, State.ksMove_rest, State.graceBegin_rest, State.setLink_rest, State.setTe_rest, State.set_rest, State.hgLoadKey_rest, State.irq_rest, State.inc_rest, rest_next, ite_self, implies_true, State.each_rest, State.on_rest, apply_ite (State.rest _), apply_ite (Res.rest _), apply_ite Prod.fst, apply_ite Prod.snd]

@[simp] theorem execPairStatusRx_rest {W : Touch} [W.VecSent] [W.Out] [W.Hg] [W.Air] [W.Pair] [W.In .frameSec] [W.In .headgate] [W.In .keystore] [W.In .pair] [W.In .pcie] [W.In .sluice] (a0 : PairMsg) (s : State)  : Res.rest W (execPairStatusRx a0 s) = some (s.rest W) := by
  unfold execPairStatusRx
  simp only [State.rotateKeys_rest, State.readyShow_rest, State.rest_pair, rest_next, ite_self, implies_true, State.each_rest, State.on_rest, apply_ite (State.rest _), apply_ite (Res.rest _), apply_ite Prod.fst, apply_ite Prod.snd]

@[simp] theorem execHandoverRx_rest {W : Touch} [W.Pair] (s : State)  : Res.rest W (execHandoverRx s) = some (s.rest W) := by
  unfold execHandoverRx
  simp only [State.rest_pair, rest_next, ite_self, implies_true, State.each_rest, State.on_rest, apply_ite (State.rest _), apply_ite (Res.rest _), apply_ite Prod.fst, apply_ite Prod.snd]

@[simp] theorem State.switchStart_rest {W : Touch} [W.Out] [W.Canal] [W.In .canal] [W.In .pair] (s : State)  : (State.switchStart s).rest W = s.rest W := by
  unfold State.switchStart
  simp only [State.pairSend_rest, State.set_rest, rest_next, ite_self, implies_true, State.each_rest, State.on_rest, apply_ite (State.rest _), apply_ite (Res.rest _), apply_ite Prod.fst, apply_ite Prod.snd]

@[simp] theorem execSwitchReqRx_rest {W : Touch} [W.Out] [W.Canal] [W.Pair] [W.In .canal] [W.In .pair] (s : State)  : Res.rest W (execSwitchReqRx s) = some (s.rest W) := by
  unfold execSwitchReqRx
  simp only [State.pairSend_rest, State.switchStart_rest, State.rest_pair, rest_next, ite_self, implies_true, State.each_rest, State.on_rest, apply_ite (State.rest _), apply_ite (Res.rest _), apply_ite Prod.fst, apply_ite Prod.snd]

@[simp] theorem execSwitchRx_rest {W : Touch} [W.Pair] [W.In .pair] (a0 : Nat) (s : State)  : Res.rest W (execSwitchRx a0 s) = some (s.rest W) := by
  unfold execSwitchRx
  simp only [State.set_rest, State.rest_pair, rest_next, ite_self, implies_true, State.each_rest, State.on_rest, apply_ite (State.rest _), apply_ite (Res.rest _), apply_ite Prod.fst, apply_ite Prod.snd]

@[simp] theorem execResyncRx_rest {W : Touch} [W.Pair] [W.In .pair] (s : State)  : Res.rest W (execResyncRx s) = some (s.rest W) := by
  unfold execResyncRx
  simp only [State.readyShow_rest, State.inc_rest, State.rest_pair, rest_next, ite_self, implies_true, State.each_rest, State.on_rest, apply_ite (State.rest _), apply_ite (Res.rest _), apply_ite Prod.fst, apply_ite Prod.snd]

@[simp] theorem State.pairRx_rest {W : Touch} [W.Log] [W.Tags] [W.Hg] [W.Held] [W.Air] [W.Arb] [W.Lk] [W.Pair] [W.Disp] [W.Ls] [W.Mot] [W.Dbg] [∀ b, W.In b] (s : State) (a1 : PairMsg)  : (State.pairRx s a1).rest W = s.rest W := by
  unfold State.pairRx
  (repeat' split) <;> simp only [State.run_rest, execPairDataRx_rest, execPairCutRx_rest, execPairAckRx_rest, execStopStateRx_rest, execPairStatusRx_rest, execHandoverRx_rest, execSwitchReqRx_rest, execSwitchRx_rest, execResyncRx_rest, rest_next, implies_true, State.each_rest, State.on_rest]

@[simp] theorem execPrepareRx_rest {W : Touch} [W.Out] [W.Canal] [W.Pair] [W.Ls] [W.In .canal] [W.In .lease] [W.In .turnout] (a0 : LeaseMsg) (s : State)  : Res.rest W (execPrepareRx a0 s) = some (s.rest W) := by
  unfold execPrepareRx
  dsimp only
  (repeat' split) <;> simp only [State.inc_rest, State.sendLease_rest, State.takeSeq_rest, State.writeFurrow_rest, State.leaseShow_rest, State.rest_ls, rest_next, implies_true, State.each_rest, State.on_rest]

@[simp] theorem execVoteRx_rest {W : Touch} [W.Tags] [W.VecSent] [W.Fq] [W.Out] [W.Canal] [W.Held] [W.Pair] [W.Disp] [W.Ls] [W.In .canal] [W.In .core] [W.In .dispatch] [W.In .eth] [W.In .flume] [W.In .lease] [W.In .pcie] [W.In .turnout] (a0 : LeaseMsg) (s : State)  : Res.rest W (execVoteRx a0 s) = some (s.rest W) := by
  unfold execVoteRx
  (repeat' (first | (refine ite_rest ?_ ?_) | (refine ite_res ?_ ?_) | split)) <;> simp only [State.abortXfer_rest, State.advance_rest, State.setXfer_rest, rest_next, implies_true, State.each_rest, State.on_rest]

@[simp] theorem execCommitRx_rest {W : Touch} [W.Out] [W.Canal] [W.Pair] [W.Ls] [W.In .canal] [W.In .lease] [W.In .turnout] (a0 : LeaseMsg) (s : State)  : Res.rest W (execCommitRx a0 s) = some (s.rest W) := by
  unfold execCommitRx
  dsimp only
  (repeat' split) <;> simp only [State.awaitDelta_rest, State.leSet_rest, State.takeSeq_rest, State.leaseShow_rest, State.ackLease_rest, State.rest_ls, rest_next, implies_true, State.each_rest, State.on_rest]

@[simp] theorem execCommitAckRx_rest {W : Touch} [W.Tags] [W.VecSent] [W.Fq] [W.Out] [W.Canal] [W.Held] [W.Pair] [W.Disp] [W.Ls] [W.In .canal] [W.In .core] [W.In .dispatch] [W.In .eth] [W.In .flume] [W.In .lease] [W.In .pcie] [W.In .turnout] (a0 : LeaseMsg) (s : State)  : Res.rest W (execCommitAckRx a0 s) = some (s.rest W) := by
  unfold execCommitAckRx
  dsimp only
  (repeat' split) <;> simp only [State.abortXfer_rest, State.setXfer_rest, State.leSet_rest, State.takeSeq_rest, State.grantDone_rest, State.leaseShow_rest, State.complHeld_rest, State.rest_ls, rest_next, implies_true, State.each_rest, State.on_rest]

@[simp] theorem execCommittedRx_rest {W : Touch} [W.VecSent] [W.Fq] [W.Out] [W.Canal] [W.Pair] [W.Disp] [W.Ls] [W.In .canal] [W.In .core] [W.In .dispatch] [W.In .eth] [W.In .flume] [W.In .lease] [W.In .pcie] (a0 : LeaseMsg) (s : State)  : Res.rest W (execCommittedRx a0 s) = some (s.rest W) := by
  unfold execCommittedRx
  dsimp only
  (repeat' split) <;> simp only [State.setXfer_rest, State.tryCommit_rest, rest_next, implies_true, State.each_rest, State.on_rest]

@[simp] theorem State.dropPart_rest {W : Touch} [W.Ls] (s : State) (a1 : Nat)  : (State.dropPart s a1).rest W = s.rest W := by
  unfold State.dropPart
  simp only [State.rest_ls, rest_next, ite_self, implies_true, State.each_rest, State.on_rest, apply_ite (State.rest _), apply_ite (Res.rest _), apply_ite Prod.fst, apply_ite Prod.snd]

@[simp] theorem execAbortRx_rest {W : Touch} [W.Out] [W.Canal] [W.Pair] [W.Ls] [W.In .canal] [W.In .lease] [W.In .turnout] (a0 : LeaseMsg) (s : State)  : Res.rest W (execAbortRx a0 s) = some (s.rest W) := by
  fun_cases execAbortRx <;> simp_all [State.dropPart_rest, State.freeFurrow_rest, State.takeSeq_rest, State.ackLease_rest]

@[simp] theorem execLeaseReleaseRx_rest {W : Touch} [W.Out] [W.Canal] [W.Pair] [W.Ls] [W.In .canal] [W.In .lease] [W.In .turnout] (a0 : LeaseMsg) (s : State)  : Res.rest W (execLeaseReleaseRx a0 s) = some (s.rest W) := by
  unfold execLeaseReleaseRx
  dsimp only
  (repeat' split) <;> simp only [State.takeSeq_rest, State.freeLe_rest, State.relock_rest, State.ackLease_rest, State.leaseShow_rest, State.rechain_rest, rest_next, implies_true, State.each_rest, State.on_rest]

@[simp] theorem execStepDoneRx_rest {W : Touch} [W.Log] [W.Pair] [W.Disp] [W.Ls] [W.Mot] [W.In .core] [W.In .dispatch] [W.In .lease] [W.In .motion] [W.In .turnout] (a0 : LeaseMsg) (s : State)  : Res.rest W (execStepDoneRx a0 s) = some (s.rest W) := by
  have ⟨_, _, _, _, _⟩ := Touch.logIns W
  unfold execStepDoneRx
  (repeat' split) <;> simp only [State.freeDecided_rest, State.ackLease_rest, rest_next, implies_true, State.each_rest, State.on_rest]

@[simp] theorem execStepOverstayRx_rest {W : Touch} [W.VecSent] [W.Fq] [W.Out] [W.Canal] [W.Pair] [W.Disp] [W.In .canal] [W.In .core] [W.In .dispatch] [W.In .eth] [W.In .flume] [W.In .lease] [W.In .pcie] [W.In .registry] [W.In .turnout] (a0 : LeaseMsg) (s : State)  : Res.rest W (execStepOverstayRx a0 s) = some (s.rest W) := by
  unfold execStepOverstayRx
  (repeat' split) <;> simp only [State.toOverstay_rest, State.ackLease_rest, rest_next, implies_true, State.each_rest, State.on_rest]

@[simp] theorem execTakeoverRx_rest {W : Touch} [W.Out] [W.Canal] [W.Pair] [W.Ls] [W.In .canal] [W.In .lease] [W.In .turnout] (m : LeaseMsg) (s : State) : Res.rest W (execTakeoverRx m s) = some (s.rest W) := by
  unfold execTakeoverRx
  refine congrArg some (State.each_rest s _ _ ?_)
  intro t p
  split
  · exact State.dropPart_rest ..
  · exact ite_rest ((State.dropPart_rest ..).trans ((State.freeFurrow_rest ..).trans (State.takeSeq_rest ..)))
      (ite_rest (State.sendLease_rest ..) rfl)

@[simp] theorem State.leaseRx_rest {W : Touch} [W.Log] [W.Tags] [W.Held] [W.Pair] [W.Disp] [W.Ls] [W.Mot] [W.In .core] [W.In .dispatch] [W.In .lease] [W.In .motion] [W.In .registry] [W.In .turnout] (s : State) (a1 : LeaseMsg)  : (State.leaseRx s a1).rest W = s.rest W := by
  have ⟨_, _, _, _, _⟩ := Touch.logIns W
  unfold State.leaseRx
  (repeat' split) <;> simp only [State.run_rest, execPrepareRx_rest, execVoteRx_rest, execCommitRx_rest, execCommitAckRx_rest, execCommittedRx_rest, execAbortRx_rest, execLeaseReleaseRx_rest, execStepDoneRx_rest, execStepOverstayRx_rest, execTakeoverRx_rest, rest_next, implies_true, State.each_rest, State.on_rest]

@[simp] theorem State.windowWrite_rest {W : Touch} [W.Log] [W.Fresh] [W.Dram] [W.Tags] [W.Held] [W.Air] [W.Pair] [W.Disp] [W.Ls] [W.Mot] [W.Rtk] [W.Rt] [W.Clk] [∀ b, W.In b] (s : State) (a1 : Src) (a2 : Page) (a3 : Nat) (a4 : Nat)  : (State.windowWrite s a1 a2 a3 a4).rest W = s.rest W := by
  unfold State.windowWrite
  simp only [State.tblStart_rest, State.setReg_rest, State.setReg_adr_rest, State.setReg_fld_rest, State.setReg_sts_rest, State.setReg_cmd_rest, rest_next, ite_self, implies_true, State.each_rest, State.on_rest, apply_ite (State.rest _), apply_ite (Res.rest _), apply_ite Prod.fst, apply_ite Prod.snd]

@[simp] theorem State.regWrite_rest {W : Touch} [W.All] [∀ b, W.In b] (s : State) (a1 : RegWr) (a2 : WrExt)  : (State.regWrite s a1 a2).rest W = s.rest W := by
  unfold State.regWrite
  grind [State.bufferWrite_rest, State.refuseCfg_rest, State.refuseRwl_rest, State.applyWrite_rest, rest_next]

@[simp] theorem State.plainWrite_rest {W : Touch} [W.All] [∀ b, W.In b] (s : State) (a1 : Src) (a2 : Nat) (a3 : Nat) (a4 : WrExt)  : (State.plainWrite s a1 a2 a3 a4).rest W = s.rest W := by
  unfold State.plainWrite
  dsimp only
  (repeat' split) <;> simp only [State.gapHold_rest, State.inc_rest, State.unmapped_rest, State.coldWrite_rest, State.windowWrite_rest, State.regWrite_rest, rest_next, implies_true, State.each_rest, State.on_rest]

@[simp] theorem State.tunSend_rest {W : Touch} [W.Out] [W.Canal] [W.In .canal] (s : State) (a1 : TunAccess)  : (State.tunSend s a1).rest W = s.rest W := by
  unfold State.tunSend
  simp only [State.canalUnicast_rest, State.rest_canal, rest_next, ite_self, implies_true, State.each_rest, State.on_rest, apply_ite (State.rest _), apply_ite (Res.rest _), apply_ite Prod.fst, apply_ite Prod.snd]

@[simp] theorem State.tunPump_rest {W : Touch} [W.Out] [W.Canal] [W.In .canal] (s : State)  : (State.tunPump s).rest W = s.rest W := by
  unfold State.tunPump
  simp only [State.tunSend_rest, State.rest_canal, rest_next, ite_self, implies_true, State.each_rest, State.on_rest, apply_ite (State.rest _), apply_ite (Res.rest _), apply_ite Prod.fst, apply_ite Prod.snd]

@[simp] theorem State.regRx_rest {W : Touch} [W.All] [∀ b, W.In b] (s : State) (a1 : CanalMsg) (a2 : WrExt)  : (State.regRx s a1 a2).rest W = s.rest W := by
  unfold State.regRx
  dsimp only
  (repeat' split) <;> simp only [State.canalUnicast_rest, State.plainWrite_rest, State.busRead_rest, State.inc_rest, State.tunPump_rest, State.emit_rest, State.rest_canal, rest_next, implies_true, State.each_rest, State.on_rest]

@[simp] theorem State.zoneFrame_rest {W : Touch} [W.Out] [W.Canal] [W.In .canal] [W.In .flume] (s : State) (a1 : Nat) (a2 : List Nat)  : (State.zoneFrame s a1 a2).rest W = s.rest W := by
  unfold State.zoneFrame
  simp only [State.canalUnicast_rest, State.inc_rest, rest_next, ite_self, implies_true, State.each_rest, State.on_rest, apply_ite (State.rest _), apply_ite (Res.rest _), apply_ite Prod.fst, apply_ite Prod.snd]

@[simp] theorem State.denyFrame_rest {W : Touch} [W.VecSent] [W.Fq] [W.Out] [W.In .pcie] (s : State) (a1 : Nat)  : (State.denyFrame s a1).rest W = s.rest W := by
  unfold State.denyFrame
  simp only [State.qevent_rest, State.setQ_rest, rest_next, ite_self, implies_true, State.each_rest, State.on_rest, apply_ite (State.rest _), apply_ite (Res.rest _), apply_ite Prod.fst, apply_ite Prod.snd]

@[simp] theorem State.malformed_rest {W : Touch} [W.In .flume] (s : State)  : (State.malformed s).rest W = s.rest W := by
  unfold State.malformed
  simp only [State.inc_rest, rest_next, ite_self, implies_true, State.each_rest, State.on_rest, apply_ite (State.rest _), apply_ite (Res.rest _), apply_ite Prod.fst, apply_ite Prod.snd]

@[simp] theorem State.setPart_rest {W : Touch} [W.Fq] [W.Lk] (s : State) (a1 : Nat) (a2 : List Nat)  : (State.setPart s a1 a2).rest W = s.rest W := by
  unfold State.setPart
  simp only [State.setQ_rest, State.rest_lk, rest_next, ite_self, implies_true, State.each_rest, State.on_rest, apply_ite (State.rest _), apply_ite (Res.rest _), apply_ite Prod.fst, apply_ite Prod.snd]

@[simp] theorem postRecFn_rest {W : Touch} [W.VecSent] [W.Fq] [W.Out] [W.Canal] [W.Disp] [W.In .canal] [W.In .core] [W.In .dispatch] [W.In .eth] [W.In .flume] [W.In .pcie] (a0 : Nat) (a1 : Nat) (a2 : Nat) (a3 : Nat) (a4 : List Nat)  : ∀ s k d, (postRecFn a0 a1 a2 a3 a4 s k d).1.rest W = s.rest W := by
  intro s k d
  unfold postRecFn
  grind [State.offer_rest, rest_next]

@[simp] theorem State.postRec_rest {W : Touch} [W.Log] [W.Tags] [W.Held] [W.Disp] [W.Clk] [W.In .core] [W.In .dispatch] [W.In .fault] (s : State) (a1 : Nat) (a2 : List Nat)  : (State.postRec s a1 a2).rest W = s.rest W := by
  have ⟨_, _, _, _, _⟩ := Touch.logIns W
  unfold State.postRec
  simp only [State.malformed_rest, State.tblOp_rest, postRecFn_rest, rest_next, ite_self, implies_true, State.each_rest, State.on_rest, apply_ite (State.rest _), apply_ite (Res.rest _), apply_ite Prod.fst, apply_ite Prod.snd]

@[simp] theorem State.freeBytes_rest {W : Touch} [W.Fresh] (s : State) (n : Nat) : (s.freeBytes n).2.rest W = s.rest W := by
  induction n generalizing s with
  | zero => rfl
  | succ n ih => exact (ih _).trans (State.free_rest s)

@[simp] theorem State.partBytes_rest {W : Touch} [W.Fresh] (s : State) (a1 : Nat) (a2 : Nat) (a3 : Nat)  : (State.partBytes s a1 a2 a3).2.rest W = s.rest W := by
  unfold State.partBytes
  simp only [State.freeBytes_rest, rest_next, ite_self, implies_true, State.each_rest, State.on_rest, apply_ite (State.rest _), apply_ite (Res.rest _), apply_ite Prod.fst, apply_ite Prod.snd]

@[simp] theorem State.dramMet_rest {W : Touch} [W.Level] [W.Fresh] [W.Air] [W.Arb] [W.In .airport] [W.In .dram] [W.In .pair] [W.In .regionCtl] (s : State) (a1 : Nat) (a2 : Nat)  : (State.dramMet s a1 a2).rest W = s.rest W := by
  have ⟨_, _, _, _, _, _, _, _, _, _, _, _⟩ := Touch.levelIns W
  unfold State.dramMet
  simp only [State.blockError_rest, State.inc_rest, rest_next, ite_self, implies_true, State.each_rest, State.on_rest, apply_ite (State.rest _), apply_ite (Res.rest _), apply_ite Prod.fst, apply_ite Prod.snd]

@[simp] theorem State.readTurn_rest {W : Touch} [W.Level] [W.Fresh] [W.Tags] [W.Air] [W.Arb] [W.Lk] [W.In .airport] [W.In .dram] [W.In .pair] [W.In .regionCtl] (s : State)  : (State.readTurn s).rest W = s.rest W := by
  have ⟨_, _, _, _, _, _, _, _, _, _, _, _⟩ := Touch.levelIns W
  unfold State.readTurn
  dsimp only
  (repeat' split) <;> simp only [State.cmdDone_rest, State.partBytes_rest, State.dramMet_rest, State.qPush_rest, State.rest_lk, rest_next, implies_true, State.each_rest, State.on_rest]

@[simp] theorem State.readPump_rest {W : Touch} [W.Level] [W.Fresh] [W.Tags] [W.Air] [W.Arb] [W.Lk] [W.In .airport] [W.In .dram] [W.In .pair] [W.In .regionCtl] (s : State)  : (State.readPump s).rest W = s.rest W := by
  have ⟨_, _, _, _, _, _, _, _, _, _, _, _⟩ := Touch.levelIns W
  unfold State.readPump
  simp only [State.readTurn_rest, rest_next, ite_self, implies_true, State.each_rest, State.on_rest, apply_ite (State.rest _), apply_ite (Res.rest _), apply_ite Prod.fst, apply_ite Prod.snd]

@[simp] theorem State.dramReadRec_rest {W : Touch} [W.Level] [W.Fresh] [W.Tags] [W.Air] [W.Arb] [W.Lk] [W.In .airport] [W.In .dram] [W.In .pair] [W.In .regionCtl] (s : State) (a1 : Nat) (a2 : List Nat)  : (State.dramReadRec s a1 a2).rest W = s.rest W := by
  have ⟨_, _, _, _, _, _, _, _, _, _, _, _⟩ := Touch.levelIns W
  unfold State.dramReadRec
  simp only [State.cmdDone_rest, State.readPump_rest, State.rest_lk, rest_next, ite_self, implies_true, State.each_rest, State.on_rest, apply_ite (State.rest _), apply_ite (Res.rest _), apply_ite Prod.fst, apply_ite Prod.snd]

@[simp] theorem State.dramWriteRec_rest {W : Touch} [W.Dram] [W.Tags] [W.VecSent] [W.Fq] [W.Out] [W.Canal] [W.Clk] [W.In .canal] [W.In .eth] [W.In .flume] [W.In .pcie] (s : State) (a1 : List Nat)  : (State.dramWriteRec s a1).rest W = s.rest W := by
  unfold State.dramWriteRec
  simp only [State.dramWrite_rest, State.cmdDone_rest, rest_next, ite_self, implies_true, State.each_rest, State.on_rest, apply_ite (State.rest _), apply_ite (Res.rest _), apply_ite Prod.fst, apply_ite Prod.snd]

@[simp] theorem State.ptpTx_rest {W : Touch} [W.Log] [W.Tm] [W.In .time] (s : State) (a1 : Nat) (a2 : Nat) (a3 : Nat) (a4 : Nat) (a5 : Bool) (a6 : optParam (List Nat) [])  : (State.ptpTx s a1 a2 a3 a4 a5 a6).rest W = s.rest W := by
  have ⟨_, _, _, _, _⟩ := Touch.logIns W
  unfold State.ptpTx; (repeat' (first | split | intro)) <;> simp [State.inc_rest, State.emit_rest, State.firstInSecond_rest, State.noticeCtr_rest, State.setTxts_rest, rest_next, ite_self, implies_true, State.each_rest, State.on_rest, apply_ite (State.rest _), apply_ite (Res.rest _), apply_ite Prod.fst, apply_ite Prod.snd]

@[simp] theorem State.ptpRec_rest {W : Touch} [W.Log] [W.Tm] [W.In .time] (s : State) (a1 : List Nat)  : (State.ptpRec s a1).rest W = s.rest W := by
  have ⟨_, _, _, _, _⟩ := Touch.logIns W
  unfold State.ptpRec
  simp only [State.ptpTx_rest, rest_next, ite_self, implies_true, State.each_rest, State.on_rest, apply_ite (State.rest _), apply_ite (Res.rest _), apply_ite Prod.fst, apply_ite Prod.snd]

@[simp] theorem State.runRec_rest {W : Touch} [W.Level] [W.Fresh] [W.Dram] [W.Tags] [W.Held] [W.Air] [W.Arb] [W.Lk] [W.Tm] [W.Ls] [W.Mot] [W.Rt] [W.Clk] [∀ b, W.In b] (s : State) (a1 : Nat) (a2 : Nat) (a3 : List Nat)  : (State.runRec s a1 a2 a3).rest W = s.rest W := by
  unfold State.runRec
  (repeat' split) <;> simp only [State.cmdRec_rest, State.malformed_rest, State.postRec_rest, State.dramReadRec_rest, State.dramWriteRec_rest, State.ptpRec_rest, rest_next, implies_true, State.each_rest, State.on_rest]

@[simp] theorem State.fragRec_rest {W : Touch} [W.Level] [W.Fresh] [W.Dram] [W.Tags] [W.Held] [W.Air] [W.Arb] [W.Lk] [W.Tm] [W.Ls] [W.Mot] [W.Rt] [W.Clk] [∀ b, W.In b] (s : State) (a1 : Nat) (a2 : Nat × Nat × List Nat)  : (State.fragRec s a1 a2).rest W = s.rest W := by
  unfold State.fragRec
  simp only [State.malformed_rest, State.setPart_rest, State.runRec_rest, rest_next, ite_self, implies_true, State.each_rest, State.on_rest, apply_ite (State.rest _), apply_ite (Res.rest _), apply_ite Prod.fst, apply_ite Prod.snd]

@[simp] theorem State.flumeData_rest {W : Touch} [W.Level] [W.Fresh] [W.Dram] [W.Tags] [W.Held] [W.Air] [W.Arb] [W.Lk] [W.Tm] [W.Ls] [W.Mot] [W.Rt] [W.Clk] [∀ b, W.In b] (s : State) (a1 : Nat) (a2 : Nat) (a3 : Nat) (a4 : List (Nat × Nat × List Nat))  : (State.flumeData s a1 a2 a3 a4).rest W = s.rest W := by
  unfold State.flumeData
  simp only [State.denyFrame_rest, State.inc_rest, State.hostSeen_rest, State.wantCredit_rest, State.setQ_rest, State.fragRec_rest, rest_next, ite_self, implies_true, State.each_rest, State.on_rest, apply_ite (State.rest _), apply_ite (Res.rest _), apply_ite Prod.fst, apply_ite Prod.snd]

@[simp] theorem State.flumeIn_rest {W : Touch} [W.Level] [W.Fresh] [W.Dram] [W.Tags] [W.Held] [W.Air] [W.Arb] [W.Lk] [W.Tm] [W.Ls] [W.Mot] [W.Rt] [W.Clk] [W.Key] [W.Boot] [∀ b, W.In b] (s : State) (a1 : List Nat) (a2 : ImgSeen)  : (State.flumeIn s a1 a2).rest W = s.rest W := by
  unfold State.flumeIn
  dsimp only
  (repeat' split) <;> simp only [State.inc_rest, State.chunkRx_rest, State.zoneFrame_rest, State.flumeData_rest, State.creditRx_rest, rest_next, implies_true, State.each_rest, State.on_rest]

@[simp] theorem State.setAge_rest {W : Touch} [W.In .route] (s : State) (a1 : Nat) (a2 : Nat)  : (State.setAge s a1 a2).rest W = s.rest W := by
  unfold State.setAge
  grind [State.rest_tblset, State.rest_tbldel, State.rest_tblclr, State.rest_tbl, rest_next]

@[simp] theorem State.routeLookup_rest {W : Touch} [W.In .route] (s : State) (a1 : Nat)  : (State.routeLookup s a1).2.rest W = s.rest W := by
  unfold State.routeLookup
  dsimp only
  (repeat' split) <;> simp only [State.inc_rest, State.setAge_rest, rest_next, implies_true, State.each_rest, State.on_rest]

@[simp] theorem State.wayTo_rest {W : Touch} [W.In .route] (s : State) (a1 : Nat)  : (State.wayTo s a1).2.rest W = s.rest W := by
  rw [State.wayTo.eq_def]
  grind [State.inc_rest, State.routeLookup_rest, rest_next]

@[simp] theorem State.downRx_rest {W : Touch} [W.Out] [W.Canal] [W.Air] [W.In .canal] [W.In .route] (s : State) (a1 : Nat) (a2 : List Nat)  : (State.downRx s a1 a2).rest W = s.rest W := by
  unfold State.downRx
  grind [State.queueFrame_rest, State.wayTo_rest, State.inc_rest, State.canalUnicast_rest, rest_next]

@[simp] theorem State.deliver_rest {W : Touch} [W.All] [∀ b, W.In b] (s : State) (a1 : CanalMsg) (a2 : WrExt)  : (State.deliver s a1 a2).rest W = s.rest W := by
  fun_cases State.deliver <;> simp_all [State.pairRx_rest, State.leaseRx_rest, State.regRx_rest, State.bulkOut_rest, State.flumeIn_rest, State.inc_rest, State.downRx_rest]

@[simp] theorem State.disagreeHold_rest {W : Touch} [W.VecSent] [W.Fq] [W.Out] [W.Canal] [W.Pair] [W.Disp] [W.In .canal] [W.In .core] [W.In .dispatch] [W.In .eth] [W.In .flume] [W.In .pcie] [W.In .registry] (s : State) (a1 : Nat) (a2 : Option (Nat × Nat × Nat))  : (State.disagreeHold s a1 a2).rest W = s.rest W := by
  fun_cases State.disagreeHold <;> simp only [State.regCounts_rest, State.holdMember_rest, rest_next, implies_true, State.each_rest, State.on_rest]

@[simp] theorem State.disagreeNote_rest {W : Touch} [W.Log] [W.In .rtkCtrl] (s : State) (a1 : Nat) (a2 : Option (Nat × Nat × Nat))  : (State.disagreeNote s a1 a2).rest W = s.rest W := by
  have ⟨_, _, _, _, _⟩ := Touch.logIns W
  rw [State.disagreeNote.eq_def]
  grind [State.notice_rest, State.inc_rest, State.noticeCtr_rest, rest_next]

@[simp] theorem State.setSum_rest {W : Touch} [W.Met] (s : State) (a1 : Nat) (a2 : ChanSum)  : (State.setSum s a1 a2).rest W = s.rest W := by
  unfold State.setSum
  simp only [State.rest_met, rest_next, ite_self, implies_true, State.each_rest, State.on_rest, apply_ite (State.rest _), apply_ite (Res.rest _), apply_ite Prod.fst, apply_ite Prod.snd]

@[simp] theorem State.dockAdd_rest {W : Touch} [W.Pair] [W.Met] [W.In .meter] (s : State) (a1 : MeterWin) (a2 : Bool) (a3 : Nat) (a4 : DockWin)  : (State.dockAdd s a1 a2 a3 a4).1.rest W = s.rest W := by
  unfold State.dockAdd
  dsimp only
  (repeat' split) <;> simp only [State.setDock_rest, State.setSum_rest, State.totalsShow_rest, rest_next, implies_true, State.each_rest, State.on_rest]

@[simp] theorem State.putDown_rest {W : Touch} [W.Air] (s : State) (a1 : Nat) (a2 : DownFrame)  : (State.putDown s a1 a2).rest W = s.rest W := by
  unfold State.putDown
  simp only [State.rest_air, rest_next, ite_self, implies_true, State.each_rest, State.on_rest, apply_ite (State.rest _), apply_ite (Res.rest _), apply_ite Prod.fst, apply_ite Prod.snd]

@[simp] theorem State.sendDown_rest {W : Touch} [W.VecSent] [W.Out] [W.Hg] [W.Air] [W.In .airport] [W.In .flood] [W.In .frameSec] [W.In .pcie] [W.In .route] (s : State) (a1 : Nat) (a2 : Nat) (a3 : Nat) (a4 : DownFrame) (a5 : Nat) (a6 : Option Nat)  : (State.sendDown s a1 a2 a3 a4 a5 a6).rest W = s.rest W := by
  unfold State.sendDown
  simp only [State.wayTo_rest, State.takeNums_rest, State.putAir_rest, State.inc_rest, State.putDown_rest, rest_next, ite_self, implies_true, State.each_rest, State.on_rest, apply_ite (State.rest _), apply_ite (Res.rest _), apply_ite Prod.fst, apply_ite Prod.snd]

@[simp] theorem State.entryRun_rest {W : Touch} [W.Air] (s : State) (a1 : Nat) (a2 : Nat)  : (State.entryRun s a1 a2).rest W = s.rest W := by
  unfold State.entryRun
  simp only [State.rest_air, rest_next, ite_self, implies_true, State.each_rest, State.on_rest, apply_ite (State.rest _), apply_ite (Res.rest _), apply_ite Prod.fst, apply_ite Prod.snd]

@[simp] theorem State.downOne_rest {W : Touch} [W.VecSent] [W.Out] [W.Canal] [W.Hg] [W.Air] [W.In .airport] [W.In .canal] [W.In .flood] [W.In .frameSec] [W.In .pcie] [W.In .route] (p e g lead : Nat) (acc : State × Option Nat) (i : Nat) : (State.downOne p e g lead acc i).1.rest W = acc.1.rest W := by
  obtain ⟨s, off⟩ := acc
  unfold State.downOne
  dsimp only
  split
  · rfl
  · split
    · rfl
    · split
      · rfl
      · simp only [State.putDown_rest, State.wayTo_rest]
      · simp only [State.putDown_rest, State.canalUnicast_rest, State.wayTo_rest]
      · repeat' split
        all_goals first | exact State.sendDown_rest .. | rfl

@[simp] theorem State.downNext_rest {W : Touch} [W.VecSent] [W.Out] [W.Canal] [W.Hg] [W.Air] [W.In .airport] [W.In .canal] [W.In .flood] [W.In .frameSec] [W.In .pcie] [W.In .route] (s : State) (p i e lead : Nat) : (s.downNext p i e lead).rest W = s.rest W := by
  have hf (l : List Nat) (acc : State × Option Nat) : (l.foldl (State.downOne p e (slMember e / 64) lead) acc).1.rest W = acc.1.rest W := by
    induction l generalizing acc with
    | nil => rfl
    | cons x r ih => exact (ih _).trans (State.downOne_rest ..)
  unfold State.downNext
  dsimp only
  split
  · exact (State.setPort_rest ..).trans ((State.rest_air _ _).trans (hf _ _))
  · exact (State.entryRun_rest ..).trans ((State.setPort_rest ..).trans ((State.rest_air _ _).trans (hf _ _)))

@[simp] theorem State.dramClear_rest {W : Touch} [W.Dram] [W.Ev] [W.Pair] [W.Gn] [W.Disp] [W.Clk] [W.Boot] (s : State)  : (State.dramClear s).rest W = s.rest W := by
  unfold State.dramClear
  simp only [State.rest_dram_ev_pair_gn_disp_clk_boot, rest_next, ite_self, implies_true, State.each_rest, State.on_rest, apply_ite (State.rest _), apply_ite (Res.rest _), apply_ite Prod.fst, apply_ite Prod.snd]

@[simp] theorem State.dramGap_rest {W : Touch} [W.Level] [W.Air] [W.Arb] [W.In .airport] [W.In .dram] [W.In .regionCtl] (s : State) (a1 : Nat)  : (State.dramGap s a1).rest W = s.rest W := by
  have ⟨_, _, _, _, _, _, _, _, _, _, _, _⟩ := Touch.levelIns W
  unfold State.dramGap
  simp only [State.enterFault_rest, rest_next, ite_self, implies_true, State.each_rest, State.on_rest, apply_ite (State.rest _), apply_ite (Res.rest _), apply_ite Prod.fst, apply_ite Prod.snd]

@[simp] theorem State.drawNonce_rest {W : Touch} [W.Fresh] [W.Key] [W.In .keystore] (s : State)  : (State.drawNonce s).rest W = s.rest W := by
  unfold State.drawNonce
  simp only [State.free_rest, State.set_rest, State.rest_key, rest_next, ite_self, implies_true, State.each_rest, State.on_rest, apply_ite (State.rest _), apply_ite (Res.rest _), apply_ite Prod.fst, apply_ite Prod.snd]

@[simp] theorem State.selectSrc_rest {W : Touch} [W.VecSent] [W.Out] [W.Tm] [W.In .pcie] [W.In .time] (s : State) (a1 : Nat)  : (State.selectSrc s a1).rest W = s.rest W := by
  unfold State.selectSrc
  simp only [State.irq_rest, State.set_rest, State.rest_tm, rest_next, ite_self, implies_true, State.each_rest, State.on_rest, apply_ite (State.rest _), apply_ite (Res.rest _), apply_ite Prod.fst, apply_ite Prod.snd]

@[simp] theorem State.endSlew_rest {W : Touch} [W.Tm] [W.In .time] (s : State)  : (State.endSlew s).rest W = s.rest W := by
  unfold State.endSlew
  simp only [State.set_rest, State.rest_tm, rest_next, ite_self, implies_true, State.each_rest, State.on_rest, apply_ite (State.rest _), apply_ite (Res.rest _), apply_ite Prod.fst, apply_ite Prod.snd]

@[simp] theorem State.toHoldover_rest {W : Touch} [W.Level] [W.Tm] [W.In .time] (s : State)  : (State.toHoldover s).rest W = s.rest W := by
  have ⟨_, _, _, _, _, _, _, _, _, _, _, _⟩ := Touch.levelIns W
  unfold State.toHoldover
  simp only [State.endSlew_rest, State.irq_rest, State.recompute_rest, State.set_rest, State.rest_tm, rest_next, ite_self, implies_true, State.each_rest, State.on_rest, apply_ite (State.rest _), apply_ite (Res.rest _), apply_ite Prod.fst, apply_ite Prod.snd]

@[simp] theorem State.loseSource_rest {W : Touch} [W.Level] [W.Fresh] [W.Tm] [W.In .time] (s : State)  : (State.loseSource s).rest W = s.rest W := by
  have ⟨_, _, _, _, _, _, _, _, _, _, _, _⟩ := Touch.levelIns W
  unfold State.loseSource
  (repeat' split) <;> simp only [State.acceptE_rest, State.selectSrc_rest, State.toHoldover_rest, rest_next, implies_true, State.each_rest, State.on_rest]

@[simp] theorem State.dropSource_rest {W : Touch} [W.Level] [W.Fresh] [W.Tm] [W.In .time] (s : State) (a1 : Nat)  : (State.dropSource s a1).rest W = s.rest W := by
  have ⟨_, _, _, _, _, _, _, _, _, _, _, _⟩ := Touch.levelIns W
  unfold State.dropSource
  simp only [State.loseSource_rest, State.rest_tm, rest_next, ite_self, implies_true, State.each_rest, State.on_rest, apply_ite (State.rest _), apply_ite (Res.rest _), apply_ite Prod.fst, apply_ite Prod.snd]

@[simp] theorem State.emitCredit_rest {W : Touch} [W.Out] (s : State) (a1 : Nat) (a2 : Nat) (a3 : Nat) (a4 : List Credit)  : (State.emitCredit s a1 a2 a3 a4).rest W = s.rest W := by
  unfold State.emitCredit
  simp only [State.emit_rest, rest_next, ite_self, implies_true, State.each_rest, State.on_rest, apply_ite (State.rest _), apply_ite (Res.rest _), apply_ite Prod.fst, apply_ite Prod.snd]

@[simp] theorem State.emitResult_rest {W : Touch} [W.Disp] (s : State) (a1 : Nat) (a2 : Nat) (a3 : Nat)  : (State.emitResult s a1 a2 a3).rest W = s.rest W := by
  unfold State.emitResult
  simp only [State.rest_disp, rest_next, ite_self, implies_true, State.each_rest, State.on_rest, apply_ite (State.rest _), apply_ite (Res.rest _), apply_ite Prod.fst, apply_ite Prod.snd]

@[simp] theorem State.emptyBank_rest {W : Touch} [W.Boot] [W.In .boot] (s : State) (a1 : Nat)  : (State.emptyBank s a1).rest W = s.rest W := by
  unfold State.emptyBank
  simp only [State.dirWrite_rest, rest_next, ite_self, implies_true, State.each_rest, State.on_rest, apply_ite (State.rest _), apply_ite (Res.rest _), apply_ite Prod.fst, apply_ite Prod.snd]

@[simp] theorem State.endGrace_rest {W : Touch} [W.Air] [W.Pair] [W.In .frameSec] [W.In .keystore] (s : State)  : (State.endGrace s).rest W = s.rest W := by
  unfold State.endGrace
  grind [State.zeroise_rest, State.rest_air, rest_next]

@[simp] theorem State.stagingDrain_rest {W : Touch} [W.VecSent] [W.Fq] [W.Ev] [W.Out] [W.Canal] [W.In .canal] [W.In .eth] [W.In .evlog] [W.In .flume] [W.In .pcie] (s : State)  : (State.stagingDrain s).rest W = s.rest W := by
  unfold State.stagingDrain
  simp only [State.toCirc_rest, State.rest_ev, rest_next, ite_self, implies_true, State.each_rest, State.on_rest, apply_ite (State.rest _), apply_ite (Res.rest _), apply_ite Prod.fst, apply_ite Prod.snd]

@[simp] theorem State.joinBurst_rest {W : Touch} [W.Hg] (s : State) (a1 : Nat)  : (State.joinBurst s a1).rest W = s.rest W := by
  unfold State.joinBurst
  dsimp only
  (repeat' split) <;> simp only [State.rebuildSets_rest, State.rest_hg, rest_next, implies_true, State.each_rest, State.on_rest]

@[simp] theorem State.routeStart_rest {W : Touch} [W.Rt] [W.In .route] (s : State) (restart : Bool) : (s.routeStart restart).rest W = s.rest W := by
  have hp : W.In pRT.blk := inferInstanceAs (W.In .route)
  unfold State.routeStart
  exact ite_rest ((State.routeShow_rest _).trans ((State.each_rest _ _ _ fun t i => State.rest_tblset t pRT 0 i _).trans (State.rest_rt s _)))
    ((State.routeShow_rest _).trans (State.rest_rt s _))

@[simp] theorem State.sendAllVecs_rest {W : Touch} [W.VecSent] [W.Out] [W.In .pcie] (s : State)  : (State.sendAllVecs s).rest W = s.rest W := by
  unfold State.sendAllVecs
  simp only [State.sendVec_rest, rest_next, ite_self, implies_true, State.each_rest, State.on_rest, apply_ite (State.rest _), apply_ite (Res.rest _), apply_ite Prod.fst, apply_ite Prod.snd]

@[simp] theorem State.meterStart_rest {W : Touch} [W.Met] (s : State)  : (State.meterStart s).rest W = s.rest W := by
  unfold State.meterStart
  simp only [State.rest_met, rest_next, ite_self, implies_true, State.each_rest, State.on_rest, apply_ite (State.rest _), apply_ite (Res.rest _), apply_ite Prod.fst, apply_ite Prod.snd]

@[simp] theorem State.onHook_rest {W : Touch} [W.Log] [W.Hg] [W.Air] [W.Arb] [W.Gn] [W.Disp] [W.Rt] [W.Met] [W.In .core] [W.In .dispatch] [W.In .gnssMeas] [W.In .gnssRf] [W.In .gnssTrk] [W.In .headgate] [W.In .route] [W.In .rtkCtrl] [W.In .solver] (s : State) (a1 : Page) (a2 : Bool) [W.In a1.blk] : (State.onHook s a1 a2).rest W = s.rest W := by
  have ⟨_, _, _, _, _⟩ := Touch.logIns W
  unfold State.onHook
  dsimp only
  (repeat' split) <;> simp only [State.joinBurst_rest, State.setPort_rest, State.irq_rest, State.relayMaps_rest, State.routeStart_rest, State.hgLoadKey_rest, State.sendAllVecs_rest, State.gnssBlock_rest, State.rtkShow_rest, State.set_rest, State.canalTrain_rest, State.meterStart_rest, State.extDrain_rest, State.qPump_rest, State.preempt_rest, State.drainBacklog_rest, State.setArb_rest, State.rest_vecSent, rest_next, implies_true, State.each_rest, State.on_rest]

@[simp] theorem State.enterOn_rest {W : Touch} [W.Level] [W.Air] [W.Arb] [W.Gn] [W.Rt] [W.Met] [W.In .airport] [W.In .gnssMeas] [W.In .gnssRf] [W.In .gnssTrk] [W.In .regionCtl] [W.In .route] [W.In .solver] (s : State) (a1 : Page) [W.In a1.blk] : (State.enterOn s a1).rest W = s.rest W := by
  have ⟨_, _, _, _, _, _, _, _, _, _, _, _⟩ := Touch.levelIns W
  unfold State.enterOn
  simp only [State.setP_rest, State.enterFault_rest, State.goState_rest, State.setPage_rest, State.recompute_rest, State.stagingDrain_rest, State.onHook_rest, rest_next, ite_self, implies_true, State.each_rest, State.on_rest, apply_ite (State.rest _), apply_ite (Res.rest _), apply_ite Prod.fst, apply_ite Prod.snd]

@[simp] theorem State.enumOn_rest {W : Touch} [W.Out] [W.Canal] [W.In .canal] (s : State) (a1 : Nat) (a2 : Nat)  : (State.enumOn s a1 a2).rest W = s.rest W := by
  unfold State.enumOn
  simp only [State.ctrlOut_rest, rest_next, ite_self, implies_true, State.each_rest, State.on_rest, apply_ite (State.rest _), apply_ite (Res.rest _), apply_ite Prod.fst, apply_ite Prod.snd]

@[simp] theorem State.enumStart_rest {W : Touch} [W.Out] [W.Canal] [W.In .canal] (s : State)  : (State.enumStart s).rest W = s.rest W := by
  unfold State.enumStart
  simp only [State.set_rest, State.ctrlOut_rest, State.rest_canal, rest_next, ite_self, implies_true, State.each_rest, State.on_rest, apply_ite (State.rest _), apply_ite (Res.rest _), apply_ite Prod.fst, apply_ite Prod.snd]

@[simp] theorem State.flumePort_rest {W : Touch} [W.Level] [W.Fresh] [W.Dram] [W.Tags] [W.Held] [W.Air] [W.Arb] [W.Lk] [W.Tm] [W.Ls] [W.Mot] [W.Rt] [W.Clk] [W.Key] [W.Boot] [∀ b, W.In b] (s : State) (a1 : List Nat) (a2 : ImgSeen)  : (State.flumePort s a1 a2).rest W = s.rest W := by
  unfold State.flumePort
  simp only [State.inc_rest, State.flumeIn_rest, rest_next, ite_self, implies_true, State.each_rest, State.on_rest, apply_ite (State.rest _), apply_ite (Res.rest _), apply_ite Prod.fst, apply_ite Prod.snd]

@[simp] theorem State.xoff_rest {W : Touch} [W.Out] [W.Lk] [W.In .eth] (s : State) (a1 : Nat)  : (State.xoff s a1).rest W = s.rest W := by
  unfold State.xoff
  simp only [State.inc_rest, State.emit_rest, State.set_rest, State.setEth_rest, rest_next, ite_self, implies_true, State.each_rest, State.on_rest, apply_ite (State.rest _), apply_ite (Res.rest _), apply_ite Prod.fst, apply_ite Prod.snd]

@[simp] theorem State.ptpRx_rest {W : Touch} [W.VecSent] [W.Fq] [W.Out] [W.Canal] [W.Lk] [W.Tm] [W.In .canal] [W.In .eth] [W.In .flume] [W.In .pcie] (s : State) (a1 : Nat) (a2 : Nat) (a3 : EthFrame)  : (State.ptpRx s a1 a2 a3).rest W = s.rest W := by
  unfold State.ptpRx
  simp only [State.qPush_rest, State.xoff_rest, State.setEth_rest, State.emit_rest, State.rest_tm, rest_next, ite_self, implies_true, State.each_rest, State.on_rest, apply_ite (State.rest _), apply_ite (Res.rest _), apply_ite Prod.fst, apply_ite Prod.snd]

@[simp] theorem State.ethDrain_rest {W : Touch} [W.Level] [W.Fresh] [W.Dram] [W.Tags] [W.Held] [W.Air] [W.Arb] [W.Lk] [W.Tm] [W.Ls] [W.Mot] [W.Rt] [W.Clk] [W.Key] [W.Boot] [∀ b, W.In b] (s : State) (a1 : Nat) (a2 : ImgSeen)  : (State.ethDrain s a1 a2).rest W = s.rest W := by
  unfold State.ethDrain
  simp only [State.setEth_rest, State.flumePort_rest, State.ptpRx_rest, rest_next, ite_self, implies_true, State.each_rest, State.on_rest, apply_ite (State.rest _), apply_ite (Res.rest _), apply_ite Prod.fst, apply_ite Prod.snd]

@[simp] theorem State.ethTake_rest {W : Touch} [W.In .eth] (s : State) (a1 : Nat) (a2 : EthFrame)  : (State.ethTake s a1 a2).1.rest W = s.rest W := by
  unfold State.ethTake
  simp only [State.inc_rest, rest_next, ite_self, implies_true, State.each_rest, State.on_rest, apply_ite (State.rest _), apply_ite (Res.rest _), apply_ite Prod.fst, apply_ite Prod.snd]

@[simp] theorem State.stepMarks_rest {W : Touch} [W.Canal] [W.Hg] [W.Air] [W.Rtk] [W.Rt] [W.Clk] [W.Met] (s : State) (a1 : Int)  : (State.stepMarks s a1).rest W = s.rest W := by
  unfold State.stepMarks
  simp only [State.rest_canal_hg_air_rtk_rt_clk_met, rest_next, ite_self, implies_true, State.each_rest, State.on_rest, apply_ite (State.rest _), apply_ite (Res.rest _), apply_ite Prod.fst, apply_ite Prod.snd]

@[simp] theorem State.stepFrames_rest {W : Touch} [W.Air] (s : State) (a1 : Int)  : (State.stepFrames s a1).rest W = s.rest W := by
  unfold State.stepFrames
  simp only [State.rest_air, rest_next, ite_self, implies_true, State.each_rest, State.on_rest, apply_ite (State.rest _), apply_ite (Res.rest _), apply_ite Prod.fst, apply_ite Prod.snd]

@[simp] theorem State.stepTime_rest {W : Touch} [W.Log] [W.Ft] [W.Hg] [W.Sup] [W.Air] [W.Gn] [W.Tm] [W.Rtk] [W.Rt] [W.Clk] [W.Met] [W.In .time] (s : State) (a1 : Int) (a2 : Nat)  : (State.stepTime s a1 a2).rest W = s.rest W := by
  have ⟨_, _, _, _, _⟩ := Touch.logIns W
  unfold State.stepTime
  simp only [State.inc_rest, State.set_rest, State.sysEvent_rest, State.stepMarks_rest, State.stepFrames_rest, State.rest_ft, State.rest_sup_gn_tm, rest_next, ite_self, implies_true, State.each_rest, State.on_rest, apply_ite (State.rest _), apply_ite (Res.rest _), apply_ite Prod.fst, apply_ite Prod.snd]

@[simp] theorem State.firstStep_rest {W : Touch} [W.Level] [W.Ft] [W.Fresh] [W.Sup] [W.Air] [W.Gn] [W.Tm] [W.Rt] [W.Clk] [W.Met] [W.In .time] (s : State) (a1 : Nat) (a2 : Int)  : (State.firstStep s a1 a2).rest W = s.rest W := by
  have ⟨_, _, _, _, _, _, _, _, _, _, _, _⟩ := Touch.levelIns W
  unfold State.firstStep
  simp only [State.stepTime_rest, State.recompute_rest, State.acceptE_rest, State.selectSrc_rest, State.set_rest, rest_next, ite_self, implies_true, State.each_rest, State.on_rest, apply_ite (State.rest _), apply_ite (Res.rest _), apply_ite Prod.fst, apply_ite Prod.snd]

@[simp] theorem State.flitsFreed_rest {W : Touch} [W.Canal] (s : State) (a1 : Nat) (a2 : CanalMsg)  : (State.flitsFreed s a1 a2).rest W = s.rest W := by
  unfold State.flitsFreed
  simp only [State.setCport_rest, rest_next, ite_self, implies_true, State.each_rest, State.on_rest, apply_ite (State.rest _), apply_ite (Res.rest _), apply_ite Prod.fst, apply_ite Prod.snd]

@[simp] theorem State.floodSee_rest {W : Touch} [W.Rt] [W.In .flood] (s : State) (a1 : Nat) (a2 : Nat)  : (State.floodSee s a1 a2).2.rest W = s.rest W := by
  unfold State.floodSee
  simp only [State.inc_rest, State.seenShow_rest, State.rest_rt, rest_next, ite_self, implies_true, State.each_rest, State.on_rest, apply_ite (State.rest _), apply_ite (Res.rest _), apply_ite Prod.fst, apply_ite Prod.snd]

@[simp] theorem State.freeMeas_rest {W : Touch} [W.Fresh] (s : State) (a1 : Nat)  : (State.freeMeas s a1).2.rest W = s.rest W := by
  unfold State.freeMeas
  simp only [State.free_rest, rest_next, ite_self, implies_true, State.each_rest, State.on_rest, apply_ite (State.rest _), apply_ite (Res.rest _), apply_ite Prod.fst, apply_ite Prod.snd]

@[simp] theorem State.freePos_rest {W : Touch} [W.Fresh] (s : State)  : (State.freePos s).2.rest W = s.rest W := by
  unfold State.freePos
  simp only [State.free_rest, rest_next, ite_self, implies_true, State.each_rest, State.on_rest, apply_ite (State.rest _), apply_ite (Res.rest _), apply_ite Prod.fst, apply_ite Prod.snd]

@[simp] theorem State.fuseGo_rest {W : Touch} [W.Log] [W.Key] [W.In .fuse] (s : State) (a1 : Nat) (a2 : Nat) (a3 : Nat)  : (State.fuseGo s a1 a2 a3).rest W = s.rest W := by
  have ⟨_, _, _, _, _⟩ := Touch.logIns W
  unfold State.fuseGo
  simp only [State.set_rest, State.fuseStart_rest, rest_next, ite_self, implies_true, State.each_rest, State.on_rest, apply_ite (State.rest _), apply_ite (Res.rest _), apply_ite Prod.fst, apply_ite Prod.snd]

@[simp] theorem State.gnssGap_rest {W : Touch} [W.Gn] [W.In .gnssTrk] (s : State) (a1 : Nat)  : (State.gnssGap s a1).rest W = s.rest W := by
  unfold State.gnssGap
  simp only [State.setChan_rest, State.rest_gn, rest_next, ite_self, implies_true, State.each_rest, State.on_rest, apply_ite (State.rest _), apply_ite (Res.rest _), apply_ite Prod.fst, apply_ite Prod.snd]

@[simp] theorem State.silentChg_rest {W : Touch} [W.Log] [W.Pair] [W.Disp] [W.Ls] [W.Mot] [W.In .core] [W.In .dispatch] [W.In .lease] [W.In .motion] [W.In .registry] [W.In .sluice] [W.In .turnout] (s : State) (a1 : Nat) (a2 : Nat)  : (State.silentChg s a1 a2).rest W = s.rest W := by
  have ⟨_, _, _, _, _⟩ := Touch.logIns W
  unfold State.silentChg
  simp only [State.irq_rest, State.item_rest, State.portInfo_rest, State.refreeze_rest, State.regCounts_rest, rest_next, ite_self, implies_true, State.each_rest, State.on_rest, apply_ite (State.rest _), apply_ite (Res.rest _), apply_ite Prod.fst, apply_ite Prod.snd]

@[simp] theorem State.goSilent_rest {W : Touch} [W.Log] [W.Pair] [W.Disp] [W.Ls] [W.Mot] [W.In .core] [W.In .dispatch] [W.In .lease] [W.In .motion] [W.In .registry] [W.In .sluice] [W.In .turnout] (s : State) (a1 : Nat) (a2 : Nat)  : (State.goSilent s a1 a2).rest W = s.rest W := by
  have ⟨_, _, _, _, _⟩ := Touch.logIns W
  unfold State.goSilent
  simp only [State.setLink_rest, State.mset_rest, State.notice_rest, State.silentChg_rest, State.holdMember_rest, rest_next, ite_self, implies_true, State.each_rest, State.on_rest, apply_ite (State.rest _), apply_ite (Res.rest _), apply_ite Prod.fst, apply_ite Prod.snd]

@[simp] theorem State.goodInterval_rest {W : Touch} [W.Tm] (s : State) (a1 : Nat) (a2 : Int) (a3 : Nat)  : (State.goodInterval s a1 a2 a3).rest W = s.rest W := by
  unfold State.goodInterval
  simp only [State.rest_tm, rest_next, ite_self, implies_true, State.each_rest, State.on_rest, apply_ite (State.rest _), apply_ite (Res.rest _), apply_ite Prod.fst, apply_ite Prod.snd]

@[simp] theorem State.heard_rest {W : Touch} [W.Log] [W.Air] [W.Pair] [W.Disp] [W.Ls] [W.Mot] [W.In .core] [W.In .dispatch] [W.In .lease] [W.In .motion] [W.In .registry] [W.In .sluice] [W.In .turnout] (s : State) (a1 : Nat) (a2 : Nat)  : (State.heard s a1 a2).rest W = s.rest W := by
  have ⟨_, _, _, _, _⟩ := Touch.logIns W
  unfold State.heard
  simp only [State.mset_rest, State.setLink_rest, State.silentChg_rest, State.rest_air, rest_next, ite_self, implies_true, State.each_rest, State.on_rest, apply_ite (State.rest _), apply_ite (Res.rest _), apply_ite Prod.fst, apply_ite Prod.snd]

@[simp] theorem State.hostRef_rest {W : Touch} [W.VecSent] [W.Out] [W.Gn] [W.In .gnssMeas] [W.In .pcie] (s : State) (a1 : List MeasRec)  : (State.hostRef s a1).rest W = s.rest W := by
  unfold State.hostRef
  simp only [State.switchRef_rest, State.set_rest, State.autoRef_rest, rest_next, ite_self, implies_true, State.each_rest, State.on_rest, apply_ite (State.rest _), apply_ite (Res.rest _), apply_ite Prod.fst, apply_ite Prod.snd]

@[simp] theorem State.idleChan_rest {W : Touch} [W.Gn] [W.In .gnssTrk] (s : State) (a1 : Nat)  : (State.idleChan s a1).rest W = s.rest W := by
  unfold State.idleChan
  simp only [State.set_rest, State.setChan_rest, rest_next, ite_self, implies_true, State.each_rest, State.on_rest, apply_ite (State.rest _), apply_ite (Res.rest _), apply_ite Prod.fst, apply_ite Prod.snd]

@[simp] theorem State.imagesShow_rest {W : Touch} [W.Pair] [W.In .pair] (s : State)  : (State.imagesShow s).rest W = s.rest W := by
  unfold State.imagesShow
  simp only [State.readyShow_rest, State.rest_pair, rest_next, ite_self, implies_true, State.each_rest, State.on_rest, apply_ite (State.rest _), apply_ite (Res.rest _), apply_ite Prod.fst, apply_ite Prod.snd]

@[simp] theorem State.imgBarred_rest {W : Touch} [W.Level] [W.Fresh] [W.Tags] [W.VecMask] [W.Held] [W.Air] [W.Arb] [W.Lk] [W.Gn] [W.Ls] [W.Mot] [W.Met] [W.Boot] [∀ b, W.In b] (s : State) (a1 : Nat)  : (State.imgBarred s a1).rest W = s.rest W := by
  unfold State.imgBarred
  simp only [State.set_rest, State.blockOff_rest, State.setP_rest, State.recompute_rest, State.rest_boot, rest_next, ite_self, implies_true, State.each_rest, State.on_rest, apply_ite (State.rest _), apply_ite (Res.rest _), apply_ite Prod.fst, apply_ite Prod.snd]

@[simp] theorem State.retain_rest {W : Touch} [W.Boot] (s : State) (a1 : Nat)  : (State.retain s a1).rest W = s.rest W := by
  unfold State.retain
  simp only [State.rest_boot, rest_next, ite_self, implies_true, State.each_rest, State.on_rest, apply_ite (State.rest _), apply_ite (Res.rest _), apply_ite Prod.fst, apply_ite Prod.snd]

@[simp] theorem State.imgLoaded_rest {W : Touch} [W.Key] [W.Boot] [W.In .boot] (s : State) (a1 : Nat) (a2 : Img)  : (State.imgLoaded s a1 a2).rest W = s.rest W := by
  unfold State.imgLoaded
  simp only [State.set_rest, State.retain_rest, State.rest_key_boot, rest_next, ite_self, implies_true, State.each_rest, State.on_rest, apply_ite (State.rest _), apply_ite (Res.rest _), apply_ite Prod.fst, apply_ite Prod.snd]

@[simp] theorem State.installKey_rest {W : Touch} [W.Fresh] [W.Hg] [W.Pair] [W.In .frameSec] [W.In .headgate] [W.In .keystore] (s : State) (a1 : Nat)  : (State.installKey s a1).rest W = s.rest W := by
  unfold State.installKey
  simp only [State.free256_rest, State.freeSig_rest, State.ksPut_rest, State.hgLoadKey_rest, rest_next, ite_self, implies_true, State.each_rest, State.on_rest, apply_ite (State.rest _), apply_ite (Res.rest _), apply_ite Prod.fst, apply_ite Prod.snd]

@[simp] theorem State.integCounts_rest {W : Touch} [W.Log] [W.In .rtkCtrl] (s : State) (a1 : Nat) (a2 : Solved)  : (State.integCounts s a1 a2).rest W = s.rest W := by
  have ⟨_, _, _, _, _⟩ := Touch.logIns W
  unfold State.integCounts
  grind [State.inc_rest, State.irq_rest, State.notice_rest, rest_next]

@[simp] theorem State.interfShow_rest {W : Touch} [W.In .gnssMeas] (s : State)  : (State.interfShow s).rest W = s.rest W := by
  unfold State.interfShow
  simp only [State.set_rest, rest_next, ite_self, implies_true, State.each_rest, State.on_rest, apply_ite (State.rest _), apply_ite (Res.rest _), apply_ite Prod.fst, apply_ite Prod.snd]

@[simp] theorem State.takeJoin_rest {W : Touch} [W.Log] [W.Tags] [W.Held] [W.Pair] [W.Disp] [W.Ls] [W.Mot] [W.Rtk] [∀ b, W.In b] (s : State) (a1 : Nat) (a2 : JoinRec) (a3 : Bool)  : (State.takeJoin s a1 a2 a3).rest W = s.rest W := by
  unfold State.takeJoin
  simp only [State.rtkReset_rest, State.bump_rest, State.mset_rest, State.setMember_rest, State.linkShow_rest, State.inc_rest, State.holdMember_rest, State.item_rest, State.regCounts_rest, rest_next, ite_self, implies_true, State.each_rest, State.on_rest, apply_ite (State.rest _), apply_ite (Res.rest _), apply_ite Prod.fst, apply_ite Prod.snd]

@[simp] theorem State.join_rest {W : Touch} [W.Log] [W.Tags] [W.Held] [W.Pair] [W.Disp] [W.Ls] [W.Mot] [W.Rtk] [∀ b, W.In b] (s : State) (a1 : JoinRec)  : (State.join s a1).2.rest W = s.rest W := by
  unfold State.join
  grind [State.takeJoin_rest, rest_next]

@[simp] theorem State.sendAck_rest {W : Touch} [W.Out] [W.Air] [W.In .airport] [W.In .sluice] (s : State) (a1 : Nat) (a2 : Nat) (a3 : Nat) (a4 : Nat) (a5 : Nat) (a6 : Nat) (a7 : Nat)  : (State.sendAck s a1 a2 a3 a4 a5 a6 a7).rest W = s.rest W := by
  unfold State.sendAck
  simp only [State.inc_rest, State.ppduAt_rest, State.airEmit_rest, rest_next, ite_self, implies_true, State.each_rest, State.on_rest, apply_ite (State.rest _), apply_ite (Res.rest _), apply_ite Prod.fst, apply_ite Prod.snd]

@[simp] theorem State.joinAck_rest {W : Touch} [W.Out] [W.Air] [W.In .airport] [W.In .sluice] (s : State) (a1 : Nat) (a2 : JoinIn)  : (State.joinAck s a1 a2).rest W = s.rest W := by
  unfold State.joinAck
  simp only [State.sendAck_rest, rest_next, ite_self, implies_true, State.each_rest, State.on_rest, apply_ite (State.rest _), apply_ite (Res.rest _), apply_ite Prod.fst, apply_ite Prod.snd]

@[simp] theorem State.joinResp_rest {W : Touch} [W.Air] (s : State) (a1 : Nat) (a2 : JoinIn) (a3 : Nat) (a4 : Nat) (a5 : Nat) (a6 : List Nat)  : (State.joinResp s a1 a2 a3 a4 a5 a6).rest W = s.rest W := by
  unfold State.joinResp
  simp only [State.queueFrame_rest, rest_next, ite_self, implies_true, State.each_rest, State.on_rest, apply_ite (State.rest _), apply_ite (Res.rest _), apply_ite Prod.fst, apply_ite Prod.snd]

@[simp] theorem State.routePut_rest {W : Touch} [W.Dram] [W.Pair] [W.Clk] [W.In .route] (s : State) (a1 : Nat)  : (State.routePut s a1).rest W = s.rest W := by
  unfold State.routePut
  (repeat' split) <;> simp only [State.setRoute_rest, State.routeInsert_rest, rest_next, implies_true, State.each_rest, State.on_rest]

@[simp] theorem State.sendLearn_rest {W : Touch} [W.Out] [W.Canal] [W.In .canal] [W.In .route] (s : State) (a1 : LearnMsg)  : (State.sendLearn s a1).rest W = s.rest W := by
  unfold State.sendLearn
  simp only [State.inc_rest, State.canalBroadcast_rest, rest_next, ite_self, implies_true, State.each_rest, State.on_rest, apply_ite (State.rest _), apply_ite (Res.rest _), apply_ite Prod.fst, apply_ite Prod.snd]

@[simp] theorem State.joinLearn_rest {W : Touch} [W.Dram] [W.Out] [W.Canal] [W.Pair] [W.Clk] [W.In .canal] [W.In .route] (s : State) (a1 : Nat) (a2 : Nat) (a3 : Bool) (a4 : Nat)  : (State.joinLearn s a1 a2 a3 a4).rest W = s.rest W := by
  unfold State.joinLearn
  simp only [State.routePut_rest, State.sendLearn_rest, rest_next, ite_self, implies_true, State.each_rest, State.on_rest, apply_ite (State.rest _), apply_ite (Res.rest _), apply_ite Prod.fst, apply_ite Prod.snd]

@[simp] theorem State.joined_rest {W : Touch} [W.Log] [W.Dram] [W.Air] [W.Pair] [W.Disp] [W.Ls] [W.Mot] [W.Clk] [W.In .core] [W.In .dispatch] [W.In .lease] [W.In .motion] [W.In .registry] [W.In .route] [W.In .sluice] [W.In .turnout] (s : State) (a1 : Nat) (a2 : JoinIn) (a3 : Nat) (a4 : Bool)  : (State.joined s a1 a2 a3 a4).rest W = s.rest W := by
  have ⟨_, _, _, _, _⟩ := Touch.logIns W
  unfold State.joined
  simp only [State.setLink_rest, State.refreeze_rest, State.joinLearn_rest, State.portInfo_rest, State.joinResp_rest, State.rest_air, rest_next, ite_self, implies_true, State.each_rest, State.on_rest, apply_ite (State.rest _), apply_ite (Res.rest _), apply_ite Prod.fst, apply_ite Prod.snd]

@[simp] theorem State.joinAsk_rest {W : Touch} [W.Log] [W.Fresh] [W.Dram] [W.Tags] [W.Held] [W.Air] [W.Pair] [W.Disp] [W.Ls] [W.Mot] [W.Rtk] [W.Clk] [∀ b, W.In b] (s : State) (a1 : Nat) (a2 : JoinIn)  : (State.joinAsk s a1 a2).rest W = s.rest W := by
  unfold State.joinAsk
  grind [State.free_rest, State.joinResp_rest, State.join_rest, State.joined_rest, rest_next]

@[simp] theorem State.joinDeliver_rest {W : Touch} [W.Log] [W.Fresh] [W.Dram] [W.Tags] [W.Held] [W.Air] [W.Pair] [W.Disp] [W.Ls] [W.Mot] [W.Rtk] [W.Clk] [∀ b, W.In b] (s : State) (a1 : Nat) (a2 : JoinIn)  : (State.joinDeliver s a1 a2).rest W = s.rest W := by
  unfold State.joinDeliver
  dsimp only
  (repeat' split) <;> simp only [State.joinAsk_rest, State.setLink_rest, State.queueRecord_rest, State.joinResp_rest, State.depart_rest, rest_next, implies_true, State.each_rest, State.on_rest]

@[simp] theorem State.offerRoute_rest {W : Touch} [W.Dram] [W.VecSent] [W.Out] [W.Canal] [W.Pair] [W.Clk] [W.In .canal] [W.In .pcie] [W.In .route] (s : State) (a1 : Nat) (a2 : Nat) (a3 : Nat) (a4 : Nat) (a5 : Nat)  : (State.offerRoute s a1 a2 a3 a4 a5).rest W = s.rest W := by
  unfold State.offerRoute
  grind [State.sendLearn_rest, State.setAge_rest, State.setRoute_rest, State.routeInsert_rest, State.irq_rest, State.inc_rest, rest_next]

@[simp] theorem State.joinOffer_rest {W : Touch} [W.Dram] [W.VecSent] [W.Out] [W.Canal] [W.Pair] [W.Clk] [W.In .canal] [W.In .pcie] [W.In .route] (s : State) (a1 : Nat) (a2 : JoinIn)  : (State.joinOffer s a1 a2).rest W = s.rest W := by
  unfold State.joinOffer
  grind [State.offerRoute_rest, rest_next]

@[simp] theorem State.secDerive_rest {W : Touch} [W.Log] [W.Pair] [W.In .frameSec] [W.In .keystore] (s : State) (a1 : Nat)  : (State.secDerive s a1).rest W = s.rest W := by
  have ⟨_, _, _, _, _⟩ := Touch.logIns W
  unfold State.secDerive
  simp only [State.ksUse_rest, State.inc_rest, rest_next, ite_self, implies_true, State.each_rest, State.on_rest, apply_ite (State.rest _), apply_ite (Res.rest _), apply_ite Prod.fst, apply_ite Prod.snd]

@[simp] theorem State.joinTake_rest {W : Touch} [W.Air] [W.Pair] [W.In .frameSec] (s : State) (a1 : JoinIn)  : (State.joinTake s a1).rest W = s.rest W := by
  unfold State.joinTake
  simp only [State.setTe_rest, State.rest_air, rest_next, ite_self, implies_true, State.each_rest, State.on_rest, apply_ite (State.rest _), apply_ite (Res.rest _), apply_ite Prod.fst, apply_ite Prod.snd]

@[simp] theorem State.joinRx_rest {W : Touch} [W.Log] [W.Fresh] [W.Dram] [W.Tags] [W.Held] [W.Air] [W.Pair] [W.Disp] [W.Ls] [W.Mot] [W.Rtk] [W.Clk] [∀ b, W.In b] (s : State) (a1 : Nat) (a2 : JoinIn)  : (State.joinRx s a1 a2).rest W = s.rest W := by
  unfold State.joinRx
  simp only [State.inc_rest, State.secDerive_rest, State.joinResp_rest, State.joinAck_rest, State.joinTake_rest, State.joinDeliver_rest, State.joinOffer_rest, rest_next, ite_self, implies_true, State.each_rest, State.on_rest, apply_ite (State.rest _), apply_ite (Res.rest _), apply_ite Prod.fst, apply_ite Prod.snd]

@[simp] theorem State.keysAtBoundary_rest {W : Touch} [W.VecSent] [W.Out] [W.Hg] [W.Air] [W.Pair] [W.In .frameSec] [W.In .headgate] [W.In .keystore] [W.In .pcie] [W.In .sluice] (s : State)  : (State.keysAtBoundary s).rest W = s.rest W := by
  unfold State.keysAtBoundary
  simp only [State.rotateKeys_rest, State.endGrace_rest, State.rotAuto_rest, rest_next, ite_self, implies_true, State.each_rest, State.on_rest, apply_ite (State.rest _), apply_ite (Res.rest _), apply_ite Prod.fst, apply_ite Prod.snd]

theorem State.latchOne_rest {W : Touch} [W.Fresh] (meas : List MeasIn) (acc : List MeasRec × State) (c : Nat) :
    (State.latchOne meas acc c).2.rest W = acc.2.rest W := by
  obtain ⟨l, s⟩ := acc
  unfold State.latchOne
  dsimp only
  repeat' split
  all_goals simp only [State.freeMeas_rest]

@[simp] theorem State.latchAll_rest {W : Touch} [W.Fresh] (s : State) (meas : List MeasIn) : (s.latchAll meas).2.rest W = s.rest W := by
  have hf (l : List Nat) (acc : List MeasRec × State) : (l.foldl (State.latchOne meas) acc).2.rest W = acc.2.rest W := by
    induction l generalizing acc with
    | nil => rfl
    | cons x r ih => exact (ih _).trans (State.latchOne_rest ..)
  exact hf _ _

@[simp] theorem State.learnEntry_rest {W : Touch} [W.Dram] [W.Pair] [W.Clk] [W.In .route] (s : State) (a1 : Nat) (a2 : Nat)  : (State.learnEntry s a1 a2).rest W = s.rest W := by
  unfold State.learnEntry
  simp only [State.setAge_rest, State.setRoute_rest, rest_next, ite_self, implies_true, State.each_rest, State.on_rest, apply_ite (State.rest _), apply_ite (Res.rest _), apply_ite Prod.fst, apply_ite Prod.snd]

@[simp] theorem State.learnGains_rest {W : Touch} [W.Gn] (s : State) (a1 : Nat) (a2 : Nat) (a3 : Nat)  : (State.learnGains s a1 a2 a3).rest W = s.rest W := by
  unfold State.learnGains
  simp only [State.rest_gn, rest_next, ite_self, implies_true, State.each_rest, State.on_rest, apply_ite (State.rest _), apply_ite (Res.rest _), apply_ite Prod.fst, apply_ite Prod.snd]

@[simp] theorem State.learnPositions_rest {W : Touch} [W.In .canal] (s : State) (a1 : Nat)  : (State.learnPositions s a1).rest W = s.rest W := by
  unfold State.learnPositions
  simp only [State.set_rest, rest_next, ite_self, implies_true, State.each_rest, State.on_rest, apply_ite (State.rest _), apply_ite (Res.rest _), apply_ite Prod.fst, apply_ite Prod.snd]

@[simp] theorem State.learnRoutes_rest {W : Touch} [W.Dram] [W.VecSent] [W.Out] [W.Pair] [W.Clk] [W.In .pcie] [W.In .route] (s : State) (m : LearnMsg) : (s.learnRoutes m).rest W = s.rest W := by
  unfold State.learnRoutes
  dsimp only
  rw [State.each_rest _ _ _ fun t i => State.learnEntry_rest ..]
  split
  · exact State.learnEntry_rest ..
  · have h := State.routeInsert_rest (W := W) s (mkRoute m.prev 32 1 0 (m.chip % 64) 0 2 0 (m.timeMs / 100 % 65536))
    split
    · rename_i heq; rw [heq] at h; exact h
    · rename_i heq; rw [heq] at h; simp only [State.irq_rest, State.inc_rest]; exact h

@[simp] theorem State.learnRx_rest {W : Touch} [W.Log] [W.Dram] [W.Tags] [W.Held] [W.Pair] [W.Disp] [W.Ls] [W.Mot] [W.Rtk] [W.Clk] [∀ b, W.In b] (s : State) (a1 : LearnMsg)  : (State.learnRx s a1).rest W = s.rest W := by
  unfold State.learnRx
  simp only [State.inc_rest, State.learnRoutes_rest, State.depart_rest, rest_next, ite_self, implies_true, State.each_rest, State.on_rest, apply_ite (State.rest _), apply_ite (Res.rest _), apply_ite Prod.fst, apply_ite Prod.snd]

@[simp] theorem State.linkTake_rest {W : Touch} [W.VecSent] [W.Out] [W.Air] [W.Pair] [W.In .frameSec] [W.In .pcie] [W.In .sluice] (s : State) (a1 : Nat) (a2 : Nat) (a3 : Nat) (a4 : Nat)  : (State.linkTake s a1 a2 a3 a4).rest W = s.rest W := by
  unfold State.linkTake
  simp only [State.noteFcnt_rest, State.setLink_rest, State.rest_air, rest_next, ite_self, implies_true, State.each_rest, State.on_rest, apply_ite (State.rest _), apply_ite (Res.rest _), apply_ite Prod.fst, apply_ite Prod.snd]

@[simp] theorem State.lnaAuto_rest {W : Touch} [W.Out] (s : State) (a1 : Nat) (a2 : Nat) (a3 : PpduIn)  : (State.lnaAuto s a1 a2 a3).rest W = s.rest W := by
  unfold State.lnaAuto
  simp only [State.emit_rest, rest_next, ite_self, implies_true, State.each_rest, State.on_rest, apply_ite (State.rest _), apply_ite (Res.rest _), apply_ite Prod.fst, apply_ite Prod.snd]

@[simp] theorem State.motLoad_rest {W : Touch} [W.Mot] (s : State) (a1 : Nat)  : (State.motLoad s a1).rest W = s.rest W := by
  unfold State.motLoad
  simp only [State.setMotion_rest, rest_next, ite_self, implies_true, State.each_rest, State.on_rest, apply_ite (State.rest _), apply_ite (Res.rest _), apply_ite Prod.fst, apply_ite Prod.snd]

@[simp] theorem State.loadCheckpoint_rest {W : Touch} [W.Hg] [W.Air] [W.Pair] [W.Ls] [W.Mot] [∀ b, W.In b] (s : State)  : (State.loadCheckpoint s).rest W = s.rest W := by
  unfold State.loadCheckpoint
  dsimp only
  (repeat' split) <;> simp only [State.applyContent_rest, State.set_rest, State.followTables_rest, State.advanceFcnt_rest, State.motLoad_rest, State.rest_pair, rest_next, implies_true, State.each_rest, State.on_rest]

@[simp] theorem State.mainBack_rest {W : Touch} [W.Sup] (s : State) (a1 : Bool) (a2 : Bool) (a3 : Bool)  : (State.mainBack s a1 a2 a3).rest W = s.rest W := by
  unfold State.mainBack
  grind [State.rest_sup, rest_next]

@[simp] theorem State.outageBegin_rest {W : Touch} [W.Met] (s : State) (a1 : List Nat)  : (State.outageBegin s a1).rest W = s.rest W := by
  unfold State.outageBegin
  (repeat' (first | (refine ite_rest ?_ ?_) | (refine ite_res ?_ ?_) | split)) <;> simp only [State.rest_met, rest_next, implies_true, State.each_rest, State.on_rest]

@[simp] theorem State.supplyGone_rest {W : Touch} [W.Sup] (s : State) (vbat : Bool) (old : State) : (s.supplyGone vbat old).rest W = s.rest W :=
  State.rest_sup s _

@[simp] theorem State.mainLost_rest {W : Touch} [W.All] [∀ b, W.In b] (s : State) (vbat : Bool) : (s.mainLost vbat).rest W = s.rest W := by
  unfold State.mainLost
  dsimp only
  simp only [apply_ite (State.rest W), State.recompute_rest, State.outsLow_rest, State.supplyGone_rest, State.chipReset_rest,
    State.outageBegin_rest, State.on_rest, State.pqTruncate_rest, implies_true, ite_self]

@[simp] theorem State.makeReady_rest {W : Touch} [W.Rtk] [W.In .rtkCtrl] (s : State) (a1 : MEpoch)  : (State.makeReady s a1).rest W = s.rest W := by
  unfold State.makeReady
  dsimp only
  (repeat' split) <;> simp only [State.dropQueue_rest, State.inc_rest, State.rest_rtk, rest_next, implies_true, State.each_rest, State.on_rest]

@[simp] theorem State.steerDac_rest {W : Touch} [W.Tm] [W.In .time] (s : State)  : (State.steerDac s).rest W = s.rest W := by
  unfold State.steerDac
  simp only [State.set_rest, State.rest_tm, rest_next, ite_self, implies_true, State.each_rest, State.on_rest, apply_ite (State.rest _), apply_ite (Res.rest _), apply_ite Prod.fst, apply_ite Prod.snd]

@[simp] theorem State.refuseE_rest {W : Touch} [W.In .time] (s : State)  : (State.refuseE s).rest W = s.rest W := by
  unfold State.refuseE
  simp only [State.inc_rest, rest_next, ite_self, implies_true, State.each_rest, State.on_rest, apply_ite (State.rest _), apply_ite (Res.rest _), apply_ite Prod.fst, apply_ite Prod.snd]

@[simp] theorem State.takeMeasure_rest {W : Touch} [W.Level] [W.Ft] [W.Fresh] [W.Sup] [W.Air] [W.Gn] [W.Tm] [W.Rt] [W.Clk] [W.Met] [W.In .time] (s : State) (a1 : Nat) (a2 : Int)  : (State.takeMeasure s a1 a2).rest W = s.rest W := by
  have ⟨_, _, _, _, _, _, _, _, _, _, _, _⟩ := Touch.levelIns W
  unfold State.takeMeasure
  simp only [State.firstStep_rest, State.notice_rest, State.acceptE_rest, State.refuseE_rest, State.set_rest, State.endSlew_rest, State.firstInSecond_rest, State.selectSrc_rest, State.sysEvent_rest, State.irq_rest, State.recompute_rest, State.rest_tm, rest_next, ite_self, implies_true, State.each_rest, State.on_rest, apply_ite (State.rest _), apply_ite (Res.rest _), apply_ite Prod.fst, apply_ite Prod.snd]

@[simp] theorem State.measured_rest {W : Touch} [W.Level] [W.Ft] [W.Fresh] [W.Sup] [W.Air] [W.Gn] [W.Tm] [W.Rt] [W.Clk] [W.Met] [W.In .time] (s : State) (a1 : Nat) (a2 : Int) (a3 : Nat)  : (State.measured s a1 a2 a3).rest W = s.rest W := by
  have ⟨_, _, _, _, _, _, _, _, _, _, _, _⟩ := Touch.levelIns W
  unfold State.measured
  simp only [State.set_rest, State.goodInterval_rest, State.steerDac_rest, State.takeMeasure_rest, rest_next, ite_self, implies_true, State.each_rest, State.on_rest, apply_ite (State.rest _), apply_ite (Res.rest _), apply_ite Prod.fst, apply_ite Prod.snd]

@[simp] theorem State.missEntry_rest {W : Touch} [W.Log] [W.Pair] [W.Disp] [W.Ls] [W.Mot] [W.In .core] [W.In .dispatch] [W.In .lease] [W.In .motion] [W.In .registry] [W.In .sluice] [W.In .turnout] (s : State) (a1 : Nat) (a2 : Nat)  : (State.missEntry s a1 a2).rest W = s.rest W := by
  have ⟨_, _, _, _, _⟩ := Touch.logIns W
  unfold State.missEntry
  simp only [State.setLink_rest, State.goSilent_rest, rest_next, ite_self, implies_true, State.each_rest, State.on_rest, apply_ite (State.rest _), apply_ite (Res.rest _), apply_ite Prod.fst, apply_ite Prod.snd]

@[simp] theorem State.missInterval_rest {W : Touch} [W.Level] [W.Fresh] [W.Tm] [W.In .time] (s : State) (a1 : Nat)  : (State.missInterval s a1).rest W = s.rest W := by
  have ⟨_, _, _, _, _, _, _, _, _, _, _, _⟩ := Touch.levelIns W
  unfold State.missInterval
  simp only [State.dropSource_rest, State.rest_tm, rest_next, ite_self, implies_true, State.each_rest, State.on_rest, apply_ite (State.rest _), apply_ite (Res.rest _), apply_ite Prod.fst, apply_ite Prod.snd]

@[simp] theorem State.missRelayed_rest {W : Touch} [W.Log] [W.Pair] [W.Disp] [W.Ls] [W.Mot] [W.In .core] [W.In .dispatch] [W.In .lease] [W.In .motion] [W.In .registry] [W.In .sluice] [W.In .turnout] (s : State) : s.missRelayed.rest W = s.rest W := by
  have ⟨_, _, _, _, _⟩ := Touch.logIns W
  unfold State.missRelayed
  refine State.each_rest s _ _ ?_
  intro t m
  split
  · exact ite_rest rfl (State.missEntry_rest ..)
  · rfl

@[simp] theorem State.moveGroups_rest {W : Touch} [W.Gn] [W.In .gnssTrk] (s : State)  : (State.moveGroups s).rest W = s.rest W := by
  unfold State.moveGroups
  simp only [State.idleChan_rest, State.setChan_rest, State.rest_gn, rest_next, ite_self, implies_true, State.each_rest, State.on_rest, apply_ite (State.rest _), apply_ite (Res.rest _), apply_ite Prod.fst, apply_ite Prod.snd]

@[simp] theorem State.moveRoute_rest {W : Touch} [W.Dram] [W.Pair] [W.Clk] [W.In .route] (s : State) (a1 : Nat)  : (State.moveRoute s a1).rest W = s.rest W := by
  unfold State.moveRoute
  simp only [State.routeInsert_rest, rest_next, ite_self, implies_true, State.each_rest, State.on_rest, apply_ite (State.rest _), apply_ite (Res.rest _), apply_ite Prod.fst, apply_ite Prod.snd]

@[simp] theorem State.noteArp_rest {W : Touch} [W.Rtk] (s : State) (a1 : Epoch)  : (State.noteArp s a1).rest W = s.rest W := by
  unfold State.noteArp
  simp only [State.rest_rtk, rest_next, ite_self, implies_true, State.each_rest, State.on_rest, apply_ite (State.rest _), apply_ite (Res.rest _), apply_ite Prod.fst, apply_ite Prod.snd]

@[simp] theorem State.noteCost_rest {W : Touch} [W.Rtk] [W.In .rtkCtrl] (s : State) (a1 : Nat)  : (State.noteCost s a1).rest W = s.rest W := by
  unfold State.noteCost
  simp only [State.set_rest, State.rest_rtk, rest_next, ite_self, implies_true, State.each_rest, State.on_rest, apply_ite (State.rest _), apply_ite (Res.rest _), apply_ite Prod.fst, apply_ite Prod.snd]

@[simp] theorem State.notePosition_rest {W : Touch} [W.Mot] (s : State) (a1 : Nat) (a2 : Nat)  : (State.notePosition s a1 a2).rest W = s.rest W := by
  unfold State.notePosition
  simp only [State.setMotion_rest, rest_next, ite_self, implies_true, State.each_rest, State.on_rest, apply_ite (State.rest _), apply_ite (Res.rest _), apply_ite Prod.fst, apply_ite Prod.snd]

@[simp] theorem State.obsAccept_rest {W : Touch} [W.Dram] [W.VecSent] [W.Fq] [W.Out] [W.Canal] [W.Gn] [W.Rtk] [W.Clk] [W.In .canal] [W.In .dram] [W.In .eth] [W.In .flume] [W.In .obsIn] [W.In .pcie] [W.In .rtkCtrl] (s : State) (a1 : Nat) (a2 : Nat) (a3 : List Nat) (a4 : Nat) (a5 : OwnFix)  : (State.obsAccept s a1 a2 a3 a4 a5).rest W = s.rest W := by
  unfold State.obsAccept
  dsimp only
  (repeat' split) <;> simp only [State.incP_rest, State.inc_rest, State.archive_rest, State.qBytes_rest, State.setRmem_rest, State.dropQueue_rest, State.rtkShow_rest, State.makeReady_rest, State.rest_rtk, rest_next, implies_true, State.each_rest, State.on_rest]

@[simp] theorem State.ringMismatch_rest {W : Touch} [W.Log] (s : State)  : (State.ringMismatch s).rest W = s.rest W := by
  have ⟨_, _, _, _, _⟩ := Touch.logIns W
  unfold State.ringMismatch
  simp only [State.notice_rest, State.inc_rest, rest_next, ite_self, implies_true, State.each_rest, State.on_rest, apply_ite (State.rest _), apply_ite (Res.rest _), apply_ite Prod.fst, apply_ite Prod.snd]

@[simp] theorem State.offerNumber_rest {W : Touch} [W.Log] (s : State) (a1 : Nat)  : (State.offerNumber s a1).rest W = s.rest W := by
  have ⟨_, _, _, _, _⟩ := Touch.logIns W
  unfold State.offerNumber
  simp only [State.ringMismatch_rest, State.learnPositions_rest, State.set_rest, State.sendHello_rest, rest_next, ite_self, implies_true, State.each_rest, State.on_rest, apply_ite (State.rest _), apply_ite (Res.rest _), apply_ite Prod.fst, apply_ite Prod.snd]

@[simp] theorem State.onward_rest {W : Touch} [W.Out] [W.Canal] [W.In .canal] (s : State) (a1 : Nat) (a2 : Nat) (a3 : CanalMsg)  : (State.onward s a1 a2 a3).rest W = s.rest W := by
  unfold State.onward
  dsimp only
  (repeat' split) <;> simp only [State.canalOut_rest, State.inc_rest, rest_next, implies_true, State.each_rest, State.on_rest]

@[simp] theorem State.outageRecord_rest {W : Touch} [W.VecSent] [W.Out] [W.Met] [W.In .meter] [W.In .pcie] (s : State) (a1 : Nat) (a2 : Nat)  : (State.outageRecord s a1 a2).rest W = s.rest W := by
  unfold State.outageRecord
  simp only [State.setDock_rest, State.irq_rest, State.rest_met, rest_next, ite_self, implies_true, State.each_rest, State.on_rest, apply_ite (State.rest _), apply_ite (Res.rest _), apply_ite Prod.fst, apply_ite Prod.snd]

@[simp] theorem State.outageEnd_rest {W : Touch} [W.VecSent] [W.Out] [W.Met] [W.In .meter] [W.In .pcie] (s : State) (a1 : List Nat) (a2 : Nat)  : (State.outageEnd s a1 a2).rest W = s.rest W := by
  unfold State.outageEnd
  (repeat' (first | (refine ite_rest ?_ ?_) | (refine ite_res ?_ ?_) | split)) <;> simp only [State.outageRecord_rest, State.inc_rest, State.rest_met, rest_next, implies_true, State.each_rest, State.on_rest]

@[simp] theorem State.passAnt_rest {W : Touch} [W.Gn] [W.In .gnssTrk] (s : State) (a1 : Nat) (a2 : List SkySig) (a3 : List SkySig)  : (State.passAnt s a1 a2 a3).1.rest W = s.rest W := by
  unfold State.passAnt
  simp only [State.idleChan_rest, State.setChan_rest, rest_next, ite_self, implies_true, State.each_rest, State.on_rest, apply_ite (State.rest _), apply_ite (Res.rest _), apply_ite Prod.fst, apply_ite Prod.snd]

@[simp] theorem State.pfcPrio_rest {W : Touch} [W.Fq] [W.Out] [W.Canal] [W.Lk] [W.In .canal] [W.In .eth] [W.In .flume] (s : State) (a1 : Nat) (a2 : Nat × Nat)  : (State.pfcPrio s a1 a2).rest W = s.rest W := by
  unfold State.pfcPrio
  simp only [State.set_rest, State.qPump_rest, State.setEth_rest, State.rest_fq, rest_next, ite_self, implies_true, State.each_rest, State.on_rest, apply_ite (State.rest _), apply_ite (Res.rest _), apply_ite Prod.fst, apply_ite Prod.snd]

@[simp] theorem State.portError_rest {W : Touch} [W.Level] [W.Fresh] [W.Air] [W.Arb] [W.In .airport] [W.In .pair] [W.In .regionCtl] (s : State) (a1 : Nat) (a2 : Nat)  : (State.portError s a1 a2).rest W = s.rest W := by
  have ⟨_, _, _, _, _, _, _, _, _, _, _, _⟩ := Touch.levelIns W
  unfold State.portError
  simp only [State.blockError_rest, rest_next, ite_self, implies_true, State.each_rest, State.on_rest, apply_ite (State.rest _), apply_ite (Res.rest _), apply_ite Prod.fst, apply_ite Prod.snd]

@[simp] theorem State.ppsPin_rest {W : Touch} [W.Out] [W.Tm] (s : State) (a1 : Bool)  : (State.ppsPin s a1).rest W = s.rest W := by
  unfold State.ppsPin
  simp only [State.emit_rest, State.rest_tm, rest_next, ite_self, implies_true, State.each_rest, State.on_rest, apply_ite (State.rest _), apply_ite (Res.rest _), apply_ite Prod.fst, apply_ite Prod.snd]

@[simp] theorem State.pqBegin_rest {W : Touch} [W.Met] [W.In .meter] (s : State) (a1 : Nat) (a2 : Nat) (a3 : Nat)  : (State.pqBegin s a1 a2 a3).rest W = s.rest W := by
  unfold State.pqBegin
  simp only [State.setPq_rest, State.rest_met, rest_next, ite_self, implies_true, State.each_rest, State.on_rest, apply_ite (State.rest _), apply_ite (Res.rest _), apply_ite Prod.fst, apply_ite Prod.snd]

@[simp] theorem State.pqIdle_rest {W : Touch} [W.Met] [W.In .meter] (s : State) (a1 : Nat) (a2 : Nat)  : (State.pqIdle s a1 a2).rest W = s.rest W := by
  unfold State.pqIdle
  simp only [State.pqBegin_rest, rest_next, ite_self, implies_true, State.each_rest, State.on_rest, apply_ite (State.rest _), apply_ite (Res.rest _), apply_ite Prod.fst, apply_ite Prod.snd]

@[simp] theorem State.pqRefresh_rest {W : Touch} [W.Log] [W.Fresh] [W.Met] [W.In .meter] (s : State) (a1 : Nat) (a2 : Nat)  : (State.pqRefresh s a1 a2).rest W = s.rest W := by
  have ⟨_, _, _, _, _⟩ := Touch.logIns W
  unfold State.pqRefresh
  simp only [State.pqIdle_rest, State.pqEnd_rest, State.setPq_rest, rest_next, ite_self, implies_true, State.each_rest, State.on_rest, apply_ite (State.rest _), apply_ite (Res.rest _), apply_ite Prod.fst, apply_ite Prod.snd]

@[simp] theorem State.pulsePin_rest {W : Touch} [W.Out] (s : State) (a1 : Nat) (a2 : Bool)  : (State.pulsePin s a1 a2).rest W = s.rest W := by
  unfold State.pulsePin
  simp only [State.emit_rest, rest_next, ite_self, implies_true, State.each_rest, State.on_rest, apply_ite (State.rest _), apply_ite (Res.rest _), apply_ite Prod.fst, apply_ite Prod.snd]

@[simp] theorem State.pulseEnd_rest {W : Touch} [W.Out] [W.Met] (s : State) (a1 : Nat)  : (State.pulseEnd s a1).rest W = s.rest W := by
  unfold State.pulseEnd
  simp only [State.pulsePin_rest, State.setPulse_rest, rest_next, ite_self, implies_true, State.each_rest, State.on_rest, apply_ite (State.rest _), apply_ite (Res.rest _), apply_ite Prod.fst, apply_ite Prod.snd]

@[simp] theorem State.pulseOut_rest {W : Touch} [W.Out] [W.Met] (s : State) (a1 : Nat)  : (State.pulseOut s a1).rest W = s.rest W := by
  unfold State.pulseOut
  simp only [State.pulseEnd_rest, State.pulsePin_rest, State.setPulse_rest, rest_next, ite_self, implies_true, State.each_rest, State.on_rest, apply_ite (State.rest _), apply_ite (Res.rest _), apply_ite Prod.fst, apply_ite Prod.snd]

@[simp] theorem State.pulseAdd_rest {W : Touch} [W.Out] [W.Met] [W.In .meter] (s : State) (a1 : Nat) (a2 : Nat) (a3 : Nat)  : (State.pulseAdd s a1 a2 a3).rest W = s.rest W := by
  unfold State.pulseAdd
  simp only [State.pulseOut_rest, State.setPulse_rest, State.inc_rest, rest_next, ite_self, implies_true, State.each_rest, State.on_rest, apply_ite (State.rest _), apply_ite (Res.rest _), apply_ite Prod.fst, apply_ite Prod.snd]

@[simp] theorem State.railFault_rest {W : Touch} [W.Level] [W.Fresh] [W.Tags] [W.VecMask] [W.Held] [W.Air] [W.Arb] [W.Lk] [W.Gn] [W.Ls] [W.Mot] [W.Met] [∀ b, W.In b] (s : State) (a1 : Page)  : (State.railFault s a1).rest W = s.rest W := by
  unfold State.railFault
  simp only [State.leaveOn_rest, State.goState_rest, rest_next, ite_self, implies_true, State.each_rest, State.on_rest, apply_ite (State.rest _), apply_ite (Res.rest _), apply_ite Prod.fst, apply_ite Prod.snd]

@[simp] theorem State.rebaseHeld_rest {W : Touch} [W.Log] [W.Fresh] [W.Dram] [W.Tags] [W.Held] [W.Air] [W.Pair] [W.Disp] [W.Ls] [W.Mot] [W.Rtk] [W.Rt] [W.Clk] [∀ b, W.In b] (s : State) (a1 : Held)  : (State.rebaseHeld s a1).rest W = s.rest W := by
  unfold State.rebaseHeld
  dsimp only
  (repeat' split) <;> simp only [State.tblDone_rest, State.setP_rest, State.setReg_rest, State.tblStart_rest, State.setReg_adr_rest, State.setReg_fld_rest, State.setReg_sts_rest, State.setReg_cmd_rest, rest_next, implies_true, State.each_rest, State.on_rest]

@[simp] theorem State.rebaseLeases_rest {W : Touch} [W.Pair] [W.Ls] [W.In .lease] [W.In .turnout] (s : State) (a1 : Int)  : (State.rebaseLeases s a1).rest W = s.rest W := by
  unfold State.rebaseLeases
  simp only [State.setLe_rest, State.setTe_rest, State.rest_ls, rest_next, ite_self, implies_true, State.each_rest, State.on_rest, apply_ite (State.rest _), apply_ite (Res.rest _), apply_ite Prod.fst, apply_ite Prod.snd]

@[simp] theorem State.rebaseTasks_rest {W : Touch} [W.Pair] [W.In .taskboard] (s : State) (a1 : Int)  : (State.rebaseTasks s a1).rest W = s.rest W := by
  unfold State.rebaseTasks
  simp only [State.setTe_rest, rest_next, ite_self, implies_true, State.each_rest, State.on_rest, apply_ite (State.rest _), apply_ite (Res.rest _), apply_ite Prod.fst, apply_ite Prod.snd]

@[simp] theorem State.rebaseTimers_rest {W : Touch} [W.Pair] [W.In .dispatch] (s : State) (a1 : Int)  : (State.rebaseTimers s a1).rest W = s.rest W := by
  unfold State.rebaseTimers
  simp only [State.setTe_rest, rest_next, ite_self, implies_true, State.each_rest, State.on_rest, apply_ite (State.rest _), apply_ite (Res.rest _), apply_ite Prod.fst, apply_ite Prod.snd]

@[simp] theorem State.recover_rest {W : Touch} [W.Level] [W.Fresh] [W.Key] [W.Boot] [W.In .boot] [W.In .frameSec] [W.In .keystore] [W.In .reset] (s : State)  : (State.recover s).rest W = s.rest W := by
  have ⟨_, _, _, _, _, _, _, _, _, _, _, _⟩ := Touch.levelIns W
  unfold State.recover
  dsimp only
  (repeat' split) <;> simp only [State.inc_rest, State.bootSup_rest, State.rest_boot, rest_next, implies_true, State.each_rest, State.on_rest]

@[simp] theorem State.relayAck_rest {W : Touch} [W.Out] [W.Air] [W.In .airport] [W.In .sluice] (s : State) (a1 : Nat) (a2 : RelayIn)  : (State.relayAck s a1 a2).rest W = s.rest W := by
  unfold State.relayAck
  (repeat' split) <;> simp only [State.sendAck_rest, rest_next, implies_true, State.each_rest, State.on_rest]

@[simp] theorem State.relaySeen_rest {W : Touch} [W.Rt] [W.In .flood] (s : State) (a1 : RelayIn)  : (State.relaySeen s a1).2.rest W = s.rest W := by
  unfold State.relaySeen
  simp only [State.floodSee_rest, rest_next, ite_self, implies_true, State.each_rest, State.on_rest, apply_ite (State.rest _), apply_ite (Res.rest _), apply_ite Prod.fst, apply_ite Prod.snd]

@[simp] theorem State.upBad_rest {W : Touch} [W.In .frameSec] [W.In .sluice] (s : State) (a1 : Nat) (a2 : UpIn) : ∀ t, (State.upBad s a1 a2) = some t → t.rest W = s.rest W := by
  intro t
  unfold State.upBad
  repeat' split
  all_goals intro h
  all_goals (try (simp at h; done))
  all_goals (cases h)
  all_goals (exact State.inc_rest _ _ _ _)

@[simp] theorem State.taskRecord_rest {W : Touch} [W.VecSent] [W.Fq] [W.Out] [W.Canal] [W.Air] [W.Pair] [W.Disp] [W.In .canal] [W.In .core] [W.In .dispatch] [W.In .eth] [W.In .flume] [W.In .pcie] [W.In .taskboard] (s : State) (a1 : Nat) (a2 : List Nat)  : (State.taskRecord s a1 a2).rest W = s.rest W := by
  unfold State.taskRecord
  dsimp only
  (repeat' split) <;> simp only [State.inc_rest, State.taskClaim_rest, State.taskStart_rest, State.taskFinish_rest, State.queueDown_rest, rest_next, implies_true, State.each_rest, State.on_rest]

@[simp] theorem State.upRecord_rest {W : Touch} [W.Log] [W.Air] [W.Pair] [W.Disp] [W.In .core] [W.In .dispatch] [W.In .sluice] [W.In .taskboard] (s : State) (a1 : Nat) (a2 : UpIn) (a3 : Nat) (a4 : List Nat)  : (State.upRecord s a1 a2 a3 a4).rest W = s.rest W := by
  have ⟨_, _, _, _, _⟩ := Touch.logIns W
  unfold State.upRecord
  simp only [State.inc_rest, State.taskRecord_rest, State.airItem_rest, rest_next, ite_self, implies_true, State.each_rest, State.on_rest, apply_ite (State.rest _), apply_ite (Res.rest _), apply_ite Prod.fst, apply_ite Prod.snd]

@[simp] theorem State.upRecords_rest {W : Touch} [W.Log] [W.Air] [W.Pair] [W.Disp] [W.In .core] [W.In .dispatch] [W.In .sluice] [W.In .taskboard] (s : State) (p : Nat) (y : UpIn) (k : Nat) (l : List Nat) :
    (s.upRecords p y k l).rest W = s.rest W := by
  have ⟨_, _, _, _, _⟩ := Touch.logIns W
  induction k generalizing s l with
  | zero => rfl
  | succ k ih =>
    match l with
    | [] => rfl
    | [_] => rfl
    | a :: b :: rest =>
      unfold State.upRecords
      refine ite_rest rfl ?_
      rw [ih, State.upRecord_rest]

@[simp] theorem State.trailerFrees_rest {W : Touch} [W.Log] [W.Pair] [W.Disp] [W.Ls] [W.Mot] [W.In .core] [W.In .dispatch] [W.In .lease] [W.In .motion] [W.In .turnout] (s : State) (a1 : Nat) (a2 : Bool)  : (State.trailerFrees s a1 a2).rest W = s.rest W := by
  have ⟨_, _, _, _, _⟩ := Touch.logIns W
  unfold State.trailerFrees
  simp only [State.freeDecided_rest, State.leaseShow_rest, State.inc_rest, State.turnShow_rest, State.leSet_rest, State.freeLock_rest, State.rest_ls, rest_next, ite_self, implies_true, State.each_rest, State.on_rest, apply_ite (State.rest _), apply_ite (Res.rest _), apply_ite Prod.fst, apply_ite Prod.snd]

@[simp] theorem State.trailerRx_rest {W : Touch} [W.Log] [W.Pair] [W.Disp] [W.Ls] [W.Mot] [W.In .core] [W.In .dispatch] [W.In .keep] [W.In .lease] [W.In .motion] [W.In .registry] [W.In .turnout] (s : State) (a1 : UpIn) (a2 : Nat) (a3 : List Nat)  : (State.trailerRx s a1 a2 a3).rest W = s.rest W := by
  have ⟨_, _, _, _, _⟩ := Touch.logIns W
  unfold State.trailerRx
  dsimp only
  (repeat' split) <;> simp only [State.mset_rest, State.item_rest, State.notice_rest, State.trailerFrees_rest, State.noteTrailer_rest, State.conform_rest, State.notePosition_rest, rest_next, implies_true, State.each_rest, State.on_rest]

@[simp] theorem State.upDeliver_rest {W : Touch} [W.Log] [W.Dram] [W.Air] [W.Pair] [W.Gn] [W.Disp] [W.Ls] [W.Mot] [W.Rtk] [W.Clk] [W.In .core] [W.In .dispatch] [W.In .dram] [W.In .keep] [W.In .lease] [W.In .motion] [W.In .obsIn] [W.In .registry] [W.In .rtkCtrl] [W.In .sluice] [W.In .taskboard] [W.In .turnout] (s : State) (a1 : Nat) (a2 : UpIn)  : (State.upDeliver s a1 a2).rest W = s.rest W := by
  have ⟨_, _, _, _, _⟩ := Touch.logIns W
  unfold State.upDeliver
  simp only [State.obsAccept_rest, State.upRecords_rest, State.trailerRx_rest, rest_next, ite_self, implies_true, State.each_rest, State.on_rest, apply_ite (State.rest _), apply_ite (Res.rest _), apply_ite Prod.fst, apply_ite Prod.snd]

@[simp] theorem State.upTake_rest {W : Touch} [W.Log] [W.Dram] [W.Air] [W.Pair] [W.Gn] [W.Disp] [W.Ls] [W.Mot] [W.Rtk] [W.Clk] [W.In .core] [W.In .dispatch] [W.In .dram] [W.In .frameSec] [W.In .keep] [W.In .lease] [W.In .motion] [W.In .obsIn] [W.In .registry] [W.In .rtkCtrl] [W.In .sluice] [W.In .taskboard] [W.In .turnout] (s : State) (p : Nat) (y : UpIn) (ack offer : State → State) (ha : ∀ t, (ack t).rest W = t.rest W)
    (ho : ∀ t, (offer t).rest W = t.rest W) : (s.upTake p y ack offer).rest W = s.rest W := by
  have ⟨_, _, _, _, _⟩ := Touch.logIns W
  unfold State.upTake
  split <;> simp only [State.inc_rest, State.heard_rest, State.linkTake_rest, State.upDeliver_rest, ha, ho]

@[simp] theorem State.relayUp_rest {W : Touch} [W.Log] [W.Dram] [W.Air] [W.Pair] [W.Gn] [W.Disp] [W.Ls] [W.Mot] [W.Rtk] [W.Clk] [W.In .airport] [W.In .core] [W.In .dispatch] [W.In .dram] [W.In .frameSec] [W.In .keep] [W.In .lease] [W.In .motion] [W.In .obsIn] [W.In .registry] [W.In .route] [W.In .rtkCtrl] [W.In .sluice] [W.In .taskboard] [W.In .turnout] (s : State) (p : Nat) (y : RelayIn) : (s.relayUp p y).rest W = s.rest W := by
  have ⟨_, _, _, _, _⟩ := Touch.logIns W
  unfold State.relayUp
  split
  · rename_i heq
    exact State.upBad_rest _ _ _ _ heq
  · exact State.upTake_rest _ _ _ _ _ (fun u => State.relayAck_rest ..) fun u => ite_rest rfl (State.offerRoute_rest ..)

@[simp] theorem State.relayRx_rest {W : Touch} [W.Log] [W.Dram] [W.Air] [W.Pair] [W.Gn] [W.Disp] [W.Ls] [W.Mot] [W.Rtk] [W.Rt] [W.Clk] [W.In .airport] [W.In .core] [W.In .dispatch] [W.In .dram] [W.In .flood] [W.In .frameSec] [W.In .keep] [W.In .lease] [W.In .motion] [W.In .obsIn] [W.In .registry] [W.In .route] [W.In .rtkCtrl] [W.In .sluice] [W.In .taskboard] [W.In .turnout] (s : State) (a1 : Nat) (a2 : RelayIn)  : (State.relayRx s a1 a2).rest W = s.rest W := by
  have ⟨_, _, _, _, _⟩ := Touch.logIns W
  unfold State.relayRx
  simp only [State.inc_rest, State.relaySeen_rest, State.relayUp_rest, rest_next, ite_self, implies_true, State.each_rest, State.on_rest, apply_ite (State.rest _), apply_ite (Res.rest _), apply_ite Prod.fst, apply_ite Prod.snd]

@[simp] theorem State.timeGap_rest {W : Touch} [W.Tm] [W.In .time] (s : State) (a1 : Nat)  : (State.timeGap s a1).rest W = s.rest W := by
  unfold State.timeGap
  simp only [State.set_rest, State.rest_tm, rest_next, ite_self, implies_true, State.each_rest, State.on_rest, apply_ite (State.rest _), apply_ite (Res.rest _), apply_ite Prod.fst, apply_ite Prod.snd]

@[simp] theorem State.ungate_rest {W : Touch} [W.Ft] [W.Hg] [W.Clk] [W.In .clock] [W.In .headgate] [W.In .time] (s : State) (a1 : Nat)  : (State.ungate s a1).rest W = s.rest W := by
  unfold State.ungate
  dsimp only
  (repeat' split) <;> simp only [State.set_rest, State.outsCheck_rest, State.rest_ft_clk, rest_next, implies_true, State.each_rest, State.on_rest]

@[simp] theorem State.releaseClocks_rest {W : Touch} [W.Level] [W.Ft] [W.Air] [W.Arb] [W.Gn] [W.Tm] [W.Clk] [W.In .airport] [W.In .clock] [W.In .dram] [W.In .gnssTrk] [W.In .regionCtl] [W.In .time] (s : State) (a1 : Nat)  : (State.releaseClocks s a1).rest W = s.rest W := by
  have ⟨_, _, _, _, _, _, _, _, _, _, _, _⟩ := Touch.levelIns W
  unfold State.releaseClocks
  dsimp only
  (repeat' split) <;> simp only [State.recompute_rest, State.dramGap_rest, State.arbGap_rest, State.gnssGap_rest, State.timeGap_rest, State.ungate_rest, rest_next, implies_true, State.each_rest, State.on_rest]

@[simp] theorem State.solveOut_rest {W : Touch} [W.VecSent] [W.Fq] [W.Out] [W.Canal] [W.Disp] [W.In .canal] [W.In .core] [W.In .dispatch] [W.In .eth] [W.In .flume] [W.In .pcie] (s : State) (a1 : Bool) (a2 : Nat) (a3 : Nat) (a4 : List Nat)  : (State.solveOut s a1 a2 a3 a4).rest W = s.rest W := by
  unfold State.solveOut
  simp only [State.item_rest, State.qBytes_rest, rest_next, ite_self, implies_true, State.each_rest, State.on_rest, apply_ite (State.rest _), apply_ite (Res.rest _), apply_ite Prod.fst, apply_ite Prod.snd]

@[simp] theorem State.releaseFix_rest {W : Touch} [W.Log] [W.Fresh] [W.Pair] [W.Disp] [W.Mot] [W.Rtk] [W.In .core] [W.In .dispatch] [W.In .registry] [W.In .rtkCtrl] (s : State) (a1 : CellWork) (a2 : Epoch)  : (State.releaseFix s a1 a2).rest W = s.rest W := by
  have ⟨_, _, _, _, _⟩ := Touch.logIns W
  unfold State.releaseFix
  simp only [State.inc_rest, State.freePos_rest, State.setRmem_rest, State.setTe_rest, State.disagreeNote_rest, State.integCounts_rest, State.solveOut_rest, State.disagreeHold_rest, State.conform_rest, State.notePosition_rest, State.rtkShow_rest, rest_next, ite_self, implies_true, State.each_rest, State.on_rest, apply_ite (State.rest _), apply_ite (Res.rest _), apply_ite Prod.fst, apply_ite Prod.snd]

@[simp] theorem State.released_rest {W : Touch} [W.Out] [W.Canal] [W.Hg] [W.Dbg] [W.In .canal] [W.In .headgate] (s : State)  : (State.released s).rest W = s.rest W := by
  unfold State.released
  simp only [State.set_rest, State.clearCauses_rest, State.inc_rest, State.sendStopState_rest, State.rest_hg, rest_next, ite_self, implies_true, State.each_rest, State.on_rest, apply_ite (State.rest _), apply_ite (Res.rest _), apply_ite Prod.fst, apply_ite Prod.snd]

@[simp] theorem State.repackNow_rest {W : Touch} [W.Dram] [W.Pair] [W.Clk] [W.In .route] (s : State) (lens : List Nat) : (s.repackNow lens).rest W = s.rest W := by
  unfold State.repackNow
  dsimp only
  rw [State.each_rest _ _ _ fun t e => by split <;> simp only [State.setRoute_rest], State.each_rest _ _ _ fun t b => State.setBank_rest ..,
    State.each_rest _ _ _ fun t i => State.setRoute_rest ..]

@[simp] theorem execCounterRead_rest {W : Touch} [W.Log] [W.Latch] [W.Tm] [W.Clk] [W.In .core] [W.In .fault] [W.In .regionCtl] [W.In .time] (a0 : Src) (a1 : Nat) (s : State)  : Res.rest W (execCounterRead a0 a1 s) = some (s.rest W) := by
  have ⟨_, _, _, _, _⟩ := Touch.logIns W
  unfold execCounterRead
  dsimp only
  (repeat' split) <;> simp only [State.gapHold_rest, State.inc_rest, State.busRead_rest, State.emit_rest, rest_next, implies_true, State.each_rest, State.on_rest]

@[simp] theorem execUnmappedAccess_rest {W : Touch} [W.Log] [W.Clk] [W.In .core] [W.In .fault] (a0 : Src) (a1 : Nat) (a2 : Bool) (a3 : Bool) (s : State)  : Res.rest W (execUnmappedAccess a0 a1 a2 a3 s) = some (s.rest W) := by
  have ⟨_, _, _, _, _⟩ := Touch.logIns W
  unfold execUnmappedAccess
  dsimp only
  (repeat' split) <;> simp only [State.gapHold_rest, State.inc_rest, State.unmapped_rest, State.emit_rest, rest_next, implies_true, State.each_rest, State.on_rest]

@[simp] theorem execRegMessageRx_rest {W : Touch} [W.All] [∀ b, W.In b] (a0 : CanalMsg) (a1 : WrExt) (s : State)  : Res.rest W (execRegMessageRx a0 a1 s) = some (s.rest W) := by
  unfold execRegMessageRx
  simp only [State.gapHold_rest, State.regRx_rest, rest_next, ite_self, implies_true, State.each_rest, State.on_rest, apply_ite (State.rest _), apply_ite (Res.rest _), apply_ite Prod.fst, apply_ite Prod.snd]

@[simp] theorem State.replayOne_rest {W : Touch} [W.All] [∀ b, W.In b] (s : State) (o : GapOp) : (s.replayOne o).rest W = s.rest W := by
  unfold State.replayOne
  split
  · exact State.tblStart_rest ..
  · exact State.plainWrite_rest ..
  · exact Res.state_rest _ _ (execCounterRead_rest ..)
  · exact Res.state_rest _ _ (execUnmappedAccess_rest ..)
  · exact Res.state_rest _ _ (execRegMessageRx_rest ..)

@[simp] theorem State.replayGap_rest {W : Touch} [W.All] [∀ b, W.In b] (s : State)  : (State.replayGap s).rest W = s.rest W := by
  unfold State.replayGap
  simp only [State.replayOne_rest, State.rest_clk, rest_next, ite_self, implies_true, State.each_rest, State.on_rest, apply_ite (State.rest _), apply_ite (Res.rest _), apply_ite Prod.fst, apply_ite Prod.snd]

@[simp] theorem State.resumeRefused_rest {W : Touch} [W.VecSent] [W.Out] [W.In .headgate] [W.In .pcie] (s : State) (a1 : Nat)  : (State.resumeRefused s a1).rest W = s.rest W := by
  unfold State.resumeRefused
  simp only [State.irq_rest, State.inc_rest, State.set_rest, rest_next, ite_self, implies_true, State.each_rest, State.on_rest, apply_ite (State.rest _), apply_ite (Res.rest _), apply_ite Prod.fst, apply_ite Prod.snd]

@[simp] theorem State.resumeArm_rest {W : Touch} [W.Fresh] [W.VecSent] [W.Out] [W.Hg] [W.In .headgate] [W.In .pcie] (s : State)  : (State.resumeArm s).rest W = s.rest W := by
  unfold State.resumeArm
  simp only [State.free_rest, State.resumeRefused_rest, State.set_rest, State.rest_hg, rest_next, ite_self, implies_true, State.each_rest, State.on_rest, apply_ite (State.rest _), apply_ite (Res.rest _), apply_ite Prod.fst, apply_ite Prod.snd]

@[simp] theorem State.resumeRelease_rest {W : Touch} [W.Log] [W.Hg] [W.Dbg] [W.In .headgate] (s : State) (a1 : Nat)  : (State.resumeRelease s a1).rest W = s.rest W := by
  have ⟨_, _, _, _, _⟩ := Touch.logIns W
  unfold State.resumeRelease
  (repeat' split) <;> simp only [State.resumeRefused_rest, State.disarm_rest, State.debugHold_rest, State.released_rest, rest_next, implies_true, State.each_rest, State.on_rest]

@[simp] theorem State.roleCheck_rest {W : Touch} [W.Log] [W.In .pair] (s : State) (a1 : Nat) (a2 : Hello)  : (State.roleCheck s a1 a2).rest W = s.rest W := by
  have ⟨_, _, _, _, _⟩ := Touch.logIns W
  unfold State.roleCheck
  simp only [State.sysEvent_rest, State.set_rest, rest_next, ite_self, implies_true, State.each_rest, State.on_rest, apply_ite (State.rest _), apply_ite (Res.rest _), apply_ite Prod.fst, apply_ite Prod.snd]

@[simp] theorem State.romRefuse_rest {W : Touch} [W.Boot] [W.In .boot] (s : State) (a1 : Nat) (a2 : Nat)  : (State.romRefuse s a1 a2).rest W = s.rest W := by
  unfold State.romRefuse
  grind [State.set_rest, State.inc_rest, State.rest_boot, rest_next]

@[simp] theorem State.romTry_rest {W : Touch} [W.Boot] [W.In .boot] (s : State) (a1 : Nat)  : (State.romTry s a1).2.rest W = s.rest W := by
  unfold State.romTry
  simp only [State.dirWrite_rest, rest_next, ite_self, implies_true, State.each_rest, State.on_rest, apply_ite (State.rest _), apply_ite (Res.rest _), apply_ite Prod.fst, apply_ite Prod.snd]

@[simp] theorem State.romBanks_rest {W : Touch} [W.Level] [W.Fresh] [W.Key] [W.Boot] [W.In .boot] [W.In .frameSec] [W.In .keystore] [W.In .reset] (s : State) (l : List Nat) : (s.romBanks l).rest W = s.rest W := by
  have ⟨_, _, _, _, _, _, _, _, _, _, _, _⟩ := Touch.levelIns W
  induction l generalizing s with
  | nil => exact State.recover_rest s
  | cons b r ih =>
    have h := State.romTry_rest (W := W) s b
    unfold State.romBanks
    generalize s.romTry b = p at h
    obtain ⟨may, t⟩ := p
    dsimp only at h ⊢
    split
    · rw [ih, h]
    · split
      · split
        · rw [State.bootSup_rest, h]
        · rw [ih, State.romRefuse_rest, h]
      · rw [ih, State.romRefuse_rest, h]

@[simp] theorem State.romKeys_rest {W : Touch} [W.Log] [W.Sup] [W.Pair] [W.In .frameSec] [W.In .keystore] (s : State) (a1 : Bool)  : (State.romKeys s a1).rest W = s.rest W := by
  have ⟨_, _, _, _, _⟩ := Touch.logIns W
  unfold State.romKeys
  simp only [State.sysEvent_rest, State.zeroise_rest, State.rest_sup, rest_next, ite_self, implies_true, State.each_rest, State.on_rest, apply_ite (State.rest _), apply_ite (Res.rest _), apply_ite Prod.fst, apply_ite Prod.snd]

@[simp] theorem State.romTorn_rest {W : Touch} [W.Log] [W.Key] (s : State)  : (State.romTorn s).rest W = s.rest W := by
  have ⟨_, _, _, _, _⟩ := Touch.logIns W
  unfold State.romTorn
  simp only [State.sysEvent_rest, State.rest_key, rest_next, ite_self, implies_true, State.each_rest, State.on_rest, apply_ite (State.rest _), apply_ite (Res.rest _), apply_ite Prod.fst, apply_ite Prod.snd]

@[simp] theorem State.rootLost_rest {W : Touch} [W.Log] [W.Hg] [W.Air] [W.Clk] [W.In .clock] [W.In .headgate] (s : State)  : (State.rootLost s).rest W = s.rest W := by
  have ⟨_, _, _, _, _⟩ := Touch.logIns W
  unfold State.rootLost
  simp only [State.gateClocks_rest, State.outsLow_rest, State.raiseCause_rest, State.sysEvent_rest, rest_next, ite_self, implies_true, State.each_rest, State.on_rest, apply_ite (State.rest _), apply_ite (Res.rest _), apply_ite Prod.fst, apply_ite Prod.snd]

@[simp] theorem State.routeHeld_rest {W : Touch} [W.Dram] [W.Tags] [W.VecSent] [W.Fq] [W.Out] [W.Canal] [W.Pair] [W.Clk] [W.In .canal] [W.In .eth] [W.In .flume] [W.In .pcie] [W.In .route] (s : State) (a1 : Held)  : (State.routeHeld s a1).rest W = s.rest W := by
  unfold State.routeHeld
  simp only [State.tblDone_rest, State.irq_rest, State.repackNow_rest, State.routeOp_rest, rest_next, ite_self, implies_true, State.each_rest, State.on_rest, apply_ite (State.rest _), apply_ite (Res.rest _), apply_ite Prod.fst, apply_ite Prod.snd]

@[simp] theorem State.rxPut_rest {W : Touch} [W.Air] (s : State) (a1 : Nat) (a2 : RxFrame)  : (State.rxPut s a1 a2).rest W = s.rest W := by
  unfold State.rxPut
  simp only [State.setPort_rest, rest_next, ite_self, implies_true, State.each_rest, State.on_rest, apply_ite (State.rest _), apply_ite (Res.rest _), apply_ite Prod.fst, apply_ite Prod.snd]

@[simp] theorem State.rxFrame_rest {W : Touch} [W.Air] [W.In .frameSec] [W.In .sluice] (s : State) (a1 : Nat) (a2 : Nat) (a3 : PpduIn) (a4 : AirHdr)  : (State.rxFrame s a1 a2 a3 a4).rest W = s.rest W := by
  unfold State.rxFrame
  dsimp only
  (repeat' split) <;> simp only [State.rxPut_rest, State.inc_rest, State.rest_air, rest_next, implies_true, State.each_rest, State.on_rest]

@[simp] theorem State.rxPop_rest {W : Touch} [W.Air] (s : State) (a1 : Nat)  : (State.rxPop s a1).rest W = s.rest W := by
  unfold State.rxPop
  simp only [State.setPort_rest, rest_next, ite_self, implies_true, State.each_rest, State.on_rest, apply_ite (State.rest _), apply_ite (Res.rest _), apply_ite Prod.fst, apply_ite Prod.snd]

@[simp] theorem State.secondEntry_rest {W : Touch} [W.Fresh] [W.Pair] [W.Met] [W.In .meter] (s : State) (a1 : Nat)  : (State.secondEntry s a1).rest W = s.rest W := by
  unfold State.secondEntry
  simp only [State.free_rest, State.setDock_rest, State.setSum_rest, State.setTe_rest, rest_next, ite_self, implies_true, State.each_rest, State.on_rest, apply_ite (State.rest _), apply_ite (Res.rest _), apply_ite Prod.fst, apply_ite Prod.snd]

@[simp] theorem State.sendBundle_rest {W : Touch} [W.VecSent] [W.Out] [W.Hg] [W.Air] [W.In .airport] [W.In .frameSec] [W.In .pcie] (s : State) (a1 : Nat) (a2 : Nat) (a3 : Nat)  : (State.sendBundle s a1 a2 a3).1.rest W = s.rest W := by
  unfold State.sendBundle
  simp only [State.sendZone_rest, rest_next, ite_self, implies_true, State.each_rest, State.on_rest, apply_ite (State.rest _), apply_ite (Res.rest _), apply_ite Prod.fst, apply_ite Prod.snd]

@[simp] theorem State.sendCredit_rest {W : Touch} [W.Fq] [W.Out] [W.Canal] [W.Lk] [W.In .canal] [W.In .eth] (s : State)  : (State.sendCredit s).rest W = s.rest W := by
  unfold State.sendCredit
  grind [State.canalUnicast_rest, State.inc_rest, State.emitCredit_rest, State.rest_fq_lk, rest_next]

@[simp] theorem State.set64_rest {W : Touch}  (s : State) (a1 : Fld) (a2 : Fld) (a3 : Nat) (a4 : optParam Nat 0) [W.In a1.blk] [W.In a2.blk] : (State.set64 s a1 a2 a3 a4).rest W = s.rest W := by
  unfold State.set64
  simp only [State.set_rest, rest_next, ite_self, implies_true, State.each_rest, State.on_rest, apply_ite (State.rest _), apply_ite (Res.rest _), apply_ite Prod.fst, apply_ite Prod.snd]

@[simp] theorem State.setGains_rest {W : Touch} [W.In .gnssRf] (s : State) (a1 : Nat) (a2 : Nat) (a3 : Nat)  : (State.setGains s a1 a2 a3).rest W = s.rest W := by
  unfold State.setGains
  simp only [State.set_rest, rest_next, ite_self, implies_true, State.each_rest, State.on_rest, apply_ite (State.rest _), apply_ite (Res.rest _), apply_ite Prod.fst, apply_ite Prod.snd]

@[simp] theorem State.setI64_rest {W : Touch}  (s : State) (a1 : Fld) (a2 : Fld) (a3 : Int) [W.In a1.blk] [W.In a2.blk] : (State.setI64 s a1 a2 a3).rest W = s.rest W := by
  unfold State.setI64
  simp only [State.set64_rest, rest_next, ite_self, implies_true, State.each_rest, State.on_rest, apply_ite (State.rest _), apply_ite (Res.rest _), apply_ite Prod.fst, apply_ite Prod.snd]

@[simp] theorem State.switchCancel_rest {W : Touch} [W.Log] [W.In .pair] (s : State)  : (State.switchCancel s).rest W = s.rest W := by
  have ⟨_, _, _, _, _⟩ := Touch.logIns W
  unfold State.switchCancel
  simp only [State.pairSend_rest, State.switchEnds_rest, rest_next, ite_self, implies_true, State.each_rest, State.on_rest, apply_ite (State.rest _), apply_ite (Res.rest _), apply_ite Prod.fst, apply_ite Prod.snd]

@[simp] theorem State.setPeer_rest {W : Touch} [W.Log] [W.Pair] [W.In .pair] (s : State) (a1 : Nat)  : (State.setPeer s a1).rest W = s.rest W := by
  have ⟨_, _, _, _, _⟩ := Touch.logIns W
  unfold State.setPeer
  simp only [State.switchCancel_rest, State.irq_rest, State.set_rest, State.rest_pair, rest_next, ite_self, implies_true, State.each_rest, State.on_rest, apply_ite (State.rest _), apply_ite (Res.rest _), apply_ite Prod.fst, apply_ite Prod.snd]

@[simp] theorem State.shadowMode_rest {W : Touch} [W.In .route] (s : State)  : (State.shadowMode s).rest W = s.rest W := by
  unfold State.shadowMode
  simp only [State.set_rest, rest_next, ite_self, implies_true, State.each_rest, State.on_rest, apply_ite (State.rest _), apply_ite (Res.rest _), apply_ite Prod.fst, apply_ite Prod.snd]

@[simp] theorem State.showTemp_rest {W : Touch} [W.VecSent] [W.Out] [W.In .info] [W.In .pcie] (s : State) (a1 : Int)  : (State.showTemp s a1).rest W = s.rest W := by
  unfold State.showTemp
  simp only [State.set_rest, State.irq_rest, rest_next, ite_self, implies_true, State.each_rest, State.on_rest, apply_ite (State.rest _), apply_ite (Res.rest _), apply_ite Prod.fst, apply_ite Prod.snd]

@[simp] theorem State.spiShift_rest {W : Touch} [W.Out] [W.In .airport] (s : State) (a1 : Nat) (a2 : Nat) (a3 : Nat × Nat)  : (State.spiShift s a1 a2 a3).rest W = s.rest W := by
  unfold State.spiShift
  simp only [State.set_rest, State.emit_rest, rest_next, ite_self, implies_true, State.each_rest, State.on_rest, apply_ite (State.rest _), apply_ite (Res.rest _), apply_ite Prod.fst, apply_ite Prod.snd]

@[simp] theorem State.spoofDrops_rest {W : Touch} [W.Level] [W.Fresh] [W.Tm] [W.In .time] (s : State)  : (State.spoofDrops s).rest W = s.rest W := by
  have ⟨_, _, _, _, _, _, _, _, _, _, _, _⟩ := Touch.levelIns W
  unfold State.spoofDrops
  simp only [State.dropSource_rest, rest_next, ite_self, implies_true, State.each_rest, State.on_rest, apply_ite (State.rest _), apply_ite (Res.rest _), apply_ite Prod.fst, apply_ite Prod.snd]

@[simp] theorem State.startMode_rest {W : Touch} [W.In .gnssAcq] (s : State) (a1 : Page) (a2 : StartIn)  : (State.startMode s a1 a2).rest W = s.rest W := by
  unfold State.startMode
  simp only [State.set_rest, rest_next, ite_self, implies_true, State.each_rest, State.on_rest, apply_ite (State.rest _), apply_ite (Res.rest _), apply_ite Prod.fst, apply_ite Prod.snd]

@[simp] theorem State.stepAborts_rest {W : Touch} [W.Tags] [W.VecSent] [W.Fq] [W.Out] [W.Canal] [W.Held] [W.Pair] [W.Disp] [W.Ls] [W.In .canal] [W.In .core] [W.In .dispatch] [W.In .eth] [W.In .flume] [W.In .lease] [W.In .pcie] [W.In .turnout] (s : State) : s.stepAborts.rest W = s.rest W := by
  unfold State.stepAborts
  dsimp only
  rw [State.each_rest _ _ _ fun t x => by split <;> simp only [State.dropPart_rest, State.freeFurrow_rest, State.takeSeq_rest],
    State.each_rest _ _ _ fun t x => State.abortXfer_rest .., State.each_rest _ _ _ fun t x => State.dropBuild_rest ..]

@[simp] theorem State.stepAccept_rest {W : Touch} [W.Tm] [W.In .time] (s : State) (a1 : Nat) (a2 : Int) (a3 : Option Nat)  : (State.stepAccept s a1 a2 a3).rest W = s.rest W := by
  unfold State.stepAccept
  simp only [State.set_rest, State.rest_tm, rest_next, ite_self, implies_true, State.each_rest, State.on_rest, apply_ite (State.rest _), apply_ite (Res.rest _), apply_ite Prod.fst, apply_ite Prod.snd]

@[simp] theorem State.stepMeter_rest {W : Touch} [W.VecSent] [W.Fq] [W.Out] [W.Canal] [W.Met] [W.In .canal] [W.In .eth] [W.In .flume] [W.In .meter] [W.In .pcie] (s : State) (a1 : Nat)  : (State.stepMeter s a1).rest W = s.rest W := by
  unfold State.stepMeter
  simp only [State.docksEnd_rest, State.rest_met, rest_next, ite_self, implies_true, State.each_rest, State.on_rest, apply_ite (State.rest _), apply_ite (Res.rest _), apply_ite Prod.fst, apply_ite Prod.snd]

@[simp] theorem State.stepMotion_rest {W : Touch} [W.Air] [W.Pair] [W.Mot] [W.In .motion] (s : State) (d : Int) : (s.stepMotion d).rest W = s.rest W := by
  unfold State.stepMotion
  exact (State.motShow_rest _).trans ((State.rest_mot { s.motClear with air := _ } _).trans ((State.rest_air s.motClear _).trans (State.motClear_rest s)))

@[simp] theorem State.stepObs_rest {W : Touch} [W.Rtk] [W.In .obsIn] (s : State)  : (State.stepObs s).rest W = s.rest W := by
  unfold State.stepObs
  simp only [State.inc_rest, State.rest_rtk, rest_next, ite_self, implies_true, State.each_rest, State.on_rest, apply_ite (State.rest _), apply_ite (Res.rest _), apply_ite Prod.fst, apply_ite Prod.snd]

@[simp] theorem State.stepOp_rest {W : Touch} [W.Level] [W.Fresh] [W.Tm] [W.In .time] (s : State) (a1 : Nat) (a2 : Option Int)  : (State.stepOp s a1 a2).rest W = s.rest W := by
  have ⟨_, _, _, _, _, _, _, _, _, _, _, _⟩ := Touch.levelIns W
  unfold State.stepOp
  dsimp only
  (repeat' split) <;> simp only [State.set_rest, State.stepAccept_rest, State.set64_rest, State.recompute_rest, State.acceptE_rest, State.selectSrc_rest, State.rest_tm, rest_next, implies_true, State.each_rest, State.on_rest]

@[simp] theorem State.stopRx_rest {W : Touch} [W.Log] [W.Hg] [W.In .headgate] (s : State) (a1 : Nat) (a2 : Nat) (a3 : Nat) (a4 : StopMsg)  : (State.stopRx s a1 a2 a3 a4).rest W = s.rest W := by
  have ⟨_, _, _, _, _⟩ := Touch.logIns W
  unfold State.stopRx
  simp only [State.canalHeard_rest, State.inc_rest, State.raiseCause_rest, State.canalOut_rest, State.rest_hg, rest_next, ite_self, implies_true, State.each_rest, State.on_rest, apply_ite (State.rest _), apply_ite (Res.rest _), apply_ite Prod.fst, apply_ite Prod.snd]

@[simp] theorem State.supStop_rest {W : Touch} [W.Level] [W.Clk] [W.In .reset] (s : State) (a1 : Bool)  : (State.supStop s a1).rest W = s.rest W := by
  have ⟨_, _, _, _, _, _, _, _, _, _, _, _⟩ := Touch.levelIns W
  unfold State.supStop
  simp only [State.recompute_rest, State.set_rest, State.rest_clk, rest_next, ite_self, implies_true, State.each_rest, State.on_rest, apply_ite (State.rest _), apply_ite (Res.rest _), apply_ite Prod.fst, apply_ite Prod.snd]

@[simp] theorem State.supRestart_rest {W : Touch} [W.Level] [W.Clk] [W.In .reset] (s : State)  : (State.supRestart s).rest W = s.rest W := by
  have ⟨_, _, _, _, _, _, _, _, _, _, _, _⟩ := Touch.levelIns W
  unfold State.supRestart
  simp only [State.supStop_rest, rest_next, ite_self, implies_true, State.each_rest, State.on_rest, apply_ite (State.rest _), apply_ite (Res.rest _), apply_ite Prod.fst, apply_ite Prod.snd]

@[simp] theorem State.supHold_rest {W : Touch} [W.Level] [W.Clk] [W.In .reset] (s : State) (a1 : Bool)  : (State.supHold s a1).rest W = s.rest W := by
  have ⟨_, _, _, _, _, _, _, _, _, _, _, _⟩ := Touch.levelIns W
  unfold State.supHold
  simp only [State.supStop_rest, State.set_rest, State.supRestart_rest, rest_next, ite_self, implies_true, State.each_rest, State.on_rest, apply_ite (State.rest _), apply_ite (Res.rest _), apply_ite Prod.fst, apply_ite Prod.snd]

@[simp] theorem State.supReleased_rest {W : Touch} [W.Level] [W.Tags] [W.Held] [W.Ls] [W.Mot] [W.Clk] [∀ b, W.In b] (s : State)  : (State.supReleased s).rest W = s.rest W := by
  unfold State.supReleased
  simp only [State.set_rest, State.recompute_rest, State.bump_rest, State.rest_clk, rest_next, ite_self, implies_true, State.each_rest, State.on_rest, apply_ite (State.rest _), apply_ite (Res.rest _), apply_ite Prod.fst, apply_ite Prod.snd]

@[simp] theorem State.surveyAdd_rest {W : Touch} [W.Gn] [W.In .gnssMeas] (s : State) (a1 : List Int)  : (State.surveyAdd s a1).rest W = s.rest W := by
  unfold State.surveyAdd
  simp only [State.set_rest, State.rest_gn, rest_next, ite_self, implies_true, State.each_rest, State.on_rest, apply_ite (State.rest _), apply_ite (Res.rest _), apply_ite Prod.fst, apply_ite Prod.snd]

@[simp] theorem State.surveyDone_rest {W : Touch} [W.Log] [W.Gn] [W.In .gnssMeas] (s : State)  : (State.surveyDone s).rest W = s.rest W := by
  have ⟨_, _, _, _, _⟩ := Touch.logIns W
  unfold State.surveyDone
  simp only [State.setI64_rest, State.notice_rest, State.set_rest, State.rest_gn, rest_next, ite_self, implies_true, State.each_rest, State.on_rest, apply_ite (State.rest _), apply_ite (Res.rest _), apply_ite Prod.fst, apply_ite Prod.snd]

@[simp] theorem State.swapAll_rest {W : Touch} [W.Log] [W.Air] [W.Pair] [W.In .registry] [W.In .sluice] (s : State)  : (State.swapAll s).rest W = s.rest W := by
  have ⟨_, _, _, _, _⟩ := Touch.logIns W
  unfold State.swapAll
  simp only [State.notice_rest, State.cancelBank_rest, State.swapBank_rest, rest_next, ite_self, implies_true, State.each_rest, State.on_rest, apply_ite (State.rest _), apply_ite (Res.rest _), apply_ite Prod.fst, apply_ite Prod.snd]

@[simp] theorem State.switched_rest {W : Touch} [W.VecSent] [W.Out] [W.In .pair] [W.In .pcie] (s : State)  : (State.switched s).rest W = s.rest W := by
  unfold State.switched
  simp only [State.irq_rest, State.inc_rest, State.set_rest, rest_next, ite_self, implies_true, State.each_rest, State.on_rest, apply_ite (State.rest _), apply_ite (Res.rest _), apply_ite Prod.fst, apply_ite Prod.snd]

@[simp] theorem State.switchOld_rest {W : Touch} [W.Level] [W.Fresh] [W.Tags] [W.VecMask] [W.Held] [W.Air] [W.Arb] [W.Lk] [W.Gn] [W.Ls] [W.Mot] [W.Met] [∀ b, W.In b] (s : State)  : (State.switchOld s).rest W = s.rest W := by
  unfold State.switchOld
  simp only [State.pairSend_rest, State.set_rest, State.switchCancel_rest, State.switched_rest, State.goCold_rest, State.abortAll_rest, State.unclaim_rest, rest_next, ite_self, implies_true, State.each_rest, State.on_rest, apply_ite (State.rest _), apply_ite (Res.rest _), apply_ite Prod.fst, apply_ite Prod.snd]

@[simp] theorem State.switchNew_rest {W : Touch} [W.Level] [W.Air] [W.Arb] [W.Met] [W.In .airport] [W.In .keep] [W.In .meter] [W.In .pair] [W.In .regionCtl] (s : State)  : (State.switchNew s).rest W = s.rest W := by
  have ⟨_, _, _, _, _, _, _, _, _, _, _, _⟩ := Touch.levelIns W
  unfold State.switchNew
  grind [State.set_rest, State.claim_rest, State.switched_rest, State.advanceFcnt_rest, State.meterTake_rest, State.goPair_rest, State.gateShow_rest, State.rest_pair, rest_next]

@[simp] theorem State.switchBoundary_rest {W : Touch} [W.Level] [W.Fresh] [W.Tags] [W.VecMask] [W.Held] [W.Air] [W.Arb] [W.Lk] [W.Gn] [W.Ls] [W.Mot] [W.Met] [∀ b, W.In b] (s : State)  : (State.switchBoundary s).rest W = s.rest W := by
  unfold State.switchBoundary
  simp only [State.switchFinish_rest, State.switchOld_rest, State.switchNew_rest, rest_next, ite_self, implies_true, State.each_rest, State.on_rest, apply_ite (State.rest _), apply_ite (Res.rest _), apply_ite Prod.fst, apply_ite Prod.snd]

@[simp] theorem State.switchCmd_rest {W : Touch} [W.Out] [W.Canal] [W.In .canal] [W.In .pair] (s : State)  : (State.switchCmd s).rest W = s.rest W := by
  unfold State.switchCmd
  simp only [State.switchStart_rest, rest_next, ite_self, implies_true, State.each_rest, State.on_rest, apply_ite (State.rest _), apply_ite (Res.rest _), apply_ite Prod.fst, apply_ite Prod.snd]

@[simp] theorem State.take_rest {W : Touch} [W.Level] [W.Fresh] [W.Air] [W.Arb] [W.Ls] [W.Mot] [W.Met] [∀ b, W.In b] (s : State)  : (State.take s).rest W = s.rest W := by
  unfold State.take
  simp only [State.advanceFcnt_rest, State.meterTake_rest, State.startRegions_rest, State.goPair_rest, State.claim_rest, State.leaseShow_rest, State.regCounts_rest, State.rest_tblset, State.rest_tbldel, State.rest_tblclr, State.rest_tbl_air_pair_ls_mot, rest_next, ite_self, implies_true, State.each_rest, State.on_rest, apply_ite (State.rest _), apply_ite (Res.rest _), apply_ite Prod.fst, apply_ite Prod.snd]

@[simp] theorem State.taskE0_rest {W : Touch} [W.Pair] [W.In .taskboard] (s : State) (a1 : Nat)  : (State.taskE0 s a1).rest W = s.rest W := by
  unfold State.taskE0
  simp only [State.setTe_rest, rest_next, ite_self, implies_true, State.each_rest, State.on_rest, apply_ite (State.rest _), apply_ite (Res.rest _), apply_ite Prod.fst, apply_ite Prod.snd]

@[simp] theorem State.testCells_rest {W : Touch}  (s : State) (a1 : Page) (a2 : List Nat) [W.In a1.blk] : (State.testCells s a1 a2).rest W = s.rest W := by
  unfold State.testCells
  simp only [State.setPage_rest, rest_next, ite_self, implies_true, State.each_rest, State.on_rest, apply_ite (State.rest _), apply_ite (Res.rest _), apply_ite Prod.fst, apply_ite Prod.snd]

@[simp] theorem State.tokEnd_rest {W : Touch} [W.Fresh] [W.VecSent] [W.Out] [W.Key] [W.In .keystore] [W.In .pcie] (s : State) (a1 : Nat) (a2 : Nat)  : (State.tokEnd s a1 a2).rest W = s.rest W := by
  unfold State.tokEnd
  simp only [State.set_rest, State.irq_rest, State.drawNonce_rest, State.rest_key, rest_next, ite_self, implies_true, State.each_rest, State.on_rest, apply_ite (State.rest _), apply_ite (Res.rest _), apply_ite Prod.fst, apply_ite Prod.snd]

@[simp] theorem State.tokRefused_rest {W : Touch} [W.Log] [W.In .fault] [W.In .keystore] (s : State) (a1 : Nat) (a2 : Nat) (a3 : Nat) (a4 : Bool)  : (State.tokRefused s a1 a2 a3 a4).rest W = s.rest W := by
  have ⟨_, _, _, _, _⟩ := Touch.logIns W
  unfold State.tokRefused
  simp only [State.inc_rest, State.sysEvent_rest, rest_next, ite_self, implies_true, State.each_rest, State.on_rest, apply_ite (State.rest _), apply_ite (Res.rest _), apply_ite Prod.fst, apply_ite Prod.snd]

@[simp] theorem State.tunFail_rest {W : Touch} [W.Log] [W.In .fault] (s : State) (a1 : Nat) (a2 : Nat) (a3 : Bool)  : (State.tunFail s a1 a2 a3).rest W = s.rest W := by
  have ⟨_, _, _, _, _⟩ := Touch.logIns W
  unfold State.tunFail
  simp only [State.unmapped_rest, State.emit_rest, rest_next, ite_self, implies_true, State.each_rest, State.on_rest, apply_ite (State.rest _), apply_ite (Res.rest _), apply_ite Prod.fst, apply_ite Prod.snd]

@[simp] theorem State.upRx_rest {W : Touch} [W.Log] [W.Dram] [W.Air] [W.Pair] [W.Gn] [W.Disp] [W.Ls] [W.Mot] [W.Rtk] [W.Clk] [W.In .airport] [W.In .core] [W.In .dispatch] [W.In .dram] [W.In .frameSec] [W.In .keep] [W.In .lease] [W.In .motion] [W.In .obsIn] [W.In .registry] [W.In .rtkCtrl] [W.In .sluice] [W.In .taskboard] [W.In .turnout] (s : State) (p : Nat) (y : UpIn) : (s.upRx p y).rest W = s.rest W := by
  have ⟨_, _, _, _, _⟩ := Touch.logIns W
  unfold State.upRx
  split
  · rename_i heq
    exact State.upBad_rest _ _ _ _ heq
  · exact State.upTake_rest _ _ _ _ _ (fun u => State.sendAck_rest ..) fun u => rfl

@[simp] theorem State.updEnd_rest {W : Touch} [W.VecSent] [W.Out] [W.Boot] [W.In .boot] [W.In .pcie] (s : State) (a1 : Nat) (a2 : Nat)  : (State.updEnd s a1 a2).rest W = s.rest W := by
  unfold State.updEnd
  simp only [State.irq_rest, State.updResult_rest, State.set_rest, State.rest_boot, rest_next, ite_self, implies_true, State.each_rest, State.on_rest, apply_ite (State.rest _), apply_ite (Res.rest _), apply_ite Prod.fst, apply_ite Prod.snd]

@[simp] theorem State.voltAdd_rest {W : Touch} [W.Met] (s : State) (a1 : Bool) (a2 : Nat) (a3 : VoltWin)  : (State.voltAdd s a1 a2 a3).rest W = s.rest W := by
  unfold State.voltAdd
  simp only [State.setSum_rest, rest_next, ite_self, implies_true, State.each_rest, State.on_rest, apply_ite (State.rest _), apply_ite (Res.rest _), apply_ite Prod.fst, apply_ite Prod.snd]

@[simp] theorem execRegisterWrite_rest {W : Touch} [W.All] [∀ b, W.In b] (a0 : Src) (a1 : Nat) (a2 : Nat) (a3 : WrExt) (s : State)  : Res.rest W (execRegisterWrite a0 a1 a2 a3 s) = some (s.rest W) := by
  unfold execRegisterWrite
  simp only [State.inc_rest, State.plainWrite_rest, rest_next, ite_self, implies_true, State.each_rest, State.on_rest, apply_ite (State.rest _), apply_ite (Res.rest _), apply_ite Prod.fst, apply_ite Prod.snd]

@[simp] theorem execNowNsRead_rest {W : Touch} [W.Latch] [W.Out] (a0 : Src) (s : State)  : Res.rest W (execNowNsRead a0 s) = some (s.rest W) := by
  unfold execNowNsRead
  simp only [State.nowRead_rest, State.emit_rest, rest_next, ite_self, implies_true, State.each_rest, State.on_rest, apply_ite (State.rest _), apply_ite (Res.rest _), apply_ite Prod.fst, apply_ite Prod.snd]

@[simp] theorem execBar2Access_rest {W : Touch} [W.All] [∀ b, W.In b] (a0 : Nat) (a1 : Nat) (a2 : Nat) (a3 : Bool) (a4 : WrExt) (s : State)  : Res.rest W (execBar2Access a0 a1 a2 a3 a4 s) = some (s.rest W) := by
  unfold execBar2Access
  simp only [State.tunFail_rest, State.plainWrite_rest, State.gapHold_rest, State.busRead_rest, State.emit_rest, State.tunPump_rest, State.rest_canal, rest_next, ite_self, implies_true, State.each_rest, State.on_rest, apply_ite (State.rest _), apply_ite (Res.rest _), apply_ite Prod.fst, apply_ite Prod.snd]

@[simp] theorem execTunnelTimeout_rest {W : Touch} [W.Log] [W.In .fault] (a0 : Nat) (s : State)  : Res.rest W (execTunnelTimeout a0 s) = some (s.rest W) := by
  have ⟨_, _, _, _, _⟩ := Touch.logIns W
  unfold execTunnelTimeout
  dsimp only
  (repeat' split) <;> simp only [State.noticeCtr_rest, State.inc_rest, State.tunFail_rest, State.irq_rest, State.tunPump_rest, State.rest_canal, rest_next, implies_true, State.each_rest, State.on_rest]

@[simp] theorem execCtrlEnWrite_rest {W : Touch} [W.Level] [W.Fresh] [W.Tags] [W.VecMask] [W.Held] [W.Air] [W.Arb] [W.Lk] [W.Gn] [W.Ls] [W.Mot] [W.Met] [∀ b, W.In b] (a0 : Src) (a1 : Page) (a2 : Bool) (s : State)  : Res.rest W (execCtrlEnWrite a0 a1 a2 s) = some (s.rest W) := by
  unfold execCtrlEnWrite
  simp only [State.writeEn_rest, rest_next, ite_self, implies_true, State.each_rest, State.on_rest, apply_ite (State.rest _), apply_ite (Res.rest _), apply_ite Prod.fst, apply_ite Prod.snd]

@[simp] theorem execStartupComplete_rest {W : Touch} [W.All] [∀ b, W.In b] (a0 : Page) (a1 : Bool) (a2 : Nat) (a3 : StartIn) (s : State)  : Res.rest W (execStartupComplete a0 a1 a2 a3 s) = some (s.rest W) := by
  unfold execStartupComplete
  simp only [State.blockError_rest, State.cellError_rest, State.enterFault_rest, State.enterOn_rest, State.testCells_rest, State.startMode_rest, rest_next, ite_self, implies_true, State.each_rest, State.on_rest, apply_ite (State.rest _), apply_ite (Res.rest _), apply_ite Prod.fst, apply_ite Prod.snd]

@[simp] theorem execStartupSafePoint_rest {W : Touch} [W.Level] [W.Fresh] [W.Tags] [W.VecMask] [W.Held] [W.Air] [W.Arb] [W.Lk] [W.Gn] [W.Ls] [W.Mot] [W.Met] [∀ b, W.In b] (a0 : Page) (s : State)  : Res.rest W (execStartupSafePoint a0 s) = some (s.rest W) := by
  unfold execStartupSafePoint
  simp only [State.stopBlock_rest, State.setP_rest, rest_next, ite_self, implies_true, State.each_rest, State.on_rest, apply_ite (State.rest _), apply_ite (Res.rest _), apply_ite Prod.fst, apply_ite Prod.snd]

@[simp] theorem execShutdownComplete_rest {W : Touch} [W.Level] [W.Fresh] [W.Tags] [W.VecMask] [W.Held] [W.Air] [W.Arb] [W.Lk] [W.Gn] [W.Ls] [W.Mot] [W.Met] [∀ b, W.In b] (a0 : Page) (s : State)  : Res.rest W (execShutdownComplete a0 s) = some (s.rest W) := by
  unfold execShutdownComplete
  simp only [State.startBlock_rest, State.setP_rest, State.abortCore_rest, State.blockOff_rest, rest_next, ite_self, implies_true, State.each_rest, State.on_rest, apply_ite (State.rest _), apply_ite (Res.rest _), apply_ite Prod.fst, apply_ite Prod.snd]

@[simp] theorem execRegionIsolate_rest {W : Touch} [W.Level] [W.Fresh] [W.Dram] [W.Tags] [W.VecMask] [W.Held] [W.Air] [W.Arb] [W.Lk] [W.Gn] [W.Ls] [W.Mot] [W.Rt] [W.Clk] [W.Met] [∀ b, W.In b] (a0 : Page) (a1 : List (Nat × Nat)) (a2 : List Nat) (a3 : Bool) (s : State)  : Res.rest W (execRegionIsolate a0 a1 a2 a3 s) = some (s.rest W) := by
  unfold execRegionIsolate
  simp only [State.recompute_rest, State.isolate_rest, State.regionFailing_rest, rest_next, ite_self, implies_true, State.each_rest, State.on_rest, apply_ite (State.rest _), apply_ite (Res.rest _), apply_ite Prod.fst, apply_ite Prod.snd]

@[simp] theorem execBlockAutoRestart_rest {W : Touch} [W.Level] [W.Fresh] [W.Air] [W.Arb] [W.In .airport] [W.In .dram] [W.In .pair] [W.In .regionCtl] (a0 : Page) (s : State) [W.In a0.blk] : Res.rest W (execBlockAutoRestart a0 s) = some (s.rest W) := by
  have ⟨_, _, _, _, _, _, _, _, _, _, _, _⟩ := Touch.levelIns W
  unfold execBlockAutoRestart
  simp only [State.failedBlock_rest, State.setPage_rest, State.startBlock_rest, State.setP_rest, State.goState_rest, rest_next, ite_self, implies_true, State.each_rest, State.on_rest, apply_ite (State.rest _), apply_ite (Res.rest _), apply_ite Prod.fst, apply_ite Prod.snd]

@[simp] theorem execCellError_rest {W : Touch} [W.All] [∀ b, W.In b] (a0 : Page) (a1 : Nat) (a2 : Nat) (a3 : Nat) (a4 : Nat) (a5 : Nat) (a6 : Nat) (s : State)  : Res.rest W (execCellError a0 a1 a2 a3 a4 a5 a6 s) = some (s.rest W) := by
  unfold execCellError
  simp only [State.cellError_rest, rest_next, ite_self, implies_true, State.each_rest, State.on_rest, apply_ite (State.rest _), apply_ite (Res.rest _), apply_ite Prod.fst, apply_ite Prod.snd]

@[simp] theorem execLevelRise_rest {W : Touch} [W.Level] [W.Tags] [W.Held] [W.Ls] [W.Mot] [W.In .lease] [W.In .motion] [W.In .taskboard] [W.In .turnout] (s : State)  : Res.rest W (execLevelRise s) = some (s.rest W) := by
  have ⟨_, _, _, _, _, _, _, _, _, _, _, _⟩ := Touch.levelIns W
  unfold execLevelRise
  simp only [State.setLevel_rest, State.rest_flt, rest_next, ite_self, implies_true, State.each_rest, State.on_rest, apply_ite (State.rest _), apply_ite (Res.rest _), apply_ite Prod.fst, apply_ite Prod.snd]

@[simp] theorem execErrInject_rest {W : Touch} [W.All] [∀ b, W.In b] (a0 : Src) (a1 : Page) (a2 : Nat) (a3 : Nat) (s : State)  : Res.rest W (execErrInject a0 a1 a2 a3 s) = some (s.rest W) := by
  unfold execErrInject
  simp only [State.errInject_rest, rest_next, ite_self, implies_true, State.each_rest, State.on_rest, apply_ite (State.rest _), apply_ite (Res.rest _), apply_ite Prod.fst, apply_ite Prod.snd]

@[simp] theorem execIrqForce_rest {W : Touch} [W.All] [∀ b, W.In b] (a0 : Src) (a1 : Page) (a2 : Nat) (s : State)  : Res.rest W (execIrqForce a0 a1 a2 s) = some (s.rest W) := by
  unfold execIrqForce
  simp only [State.plainWrite_rest, rest_next, ite_self, implies_true, State.each_rest, State.on_rest, apply_ite (State.rest _), apply_ite (Res.rest _), apply_ite Prod.fst, apply_ite Prod.snd]

@[simp] theorem execLockWrite_rest {W : Touch} [W.All] [∀ b, W.In b] (a0 : Src) (a1 : Page) (s : State)  : Res.rest W (execLockWrite a0 a1 s) = some (s.rest W) := by
  unfold execLockWrite
  simp only [State.plainWrite_rest, rest_next, ite_self, implies_true, State.each_rest, State.on_rest, apply_ite (State.rest _), apply_ite (Res.rest _), apply_ite Prod.fst, apply_ite Prod.snd]

@[simp] theorem execVecAck_rest {W : Touch} [W.VecSent] [W.Out] [W.In .pcie] (a0 : Nat) (s : State)  : Res.rest W (execVecAck a0 s) = some (s.rest W) := by
  unfold execVecAck
  simp only [State.vecAck_rest, rest_next, ite_self, implies_true, State.each_rest, State.on_rest, apply_ite (State.rest _), apply_ite (Res.rest _), apply_ite Prod.fst, apply_ite Prod.snd]

@[simp] theorem execTblRead_rest {W : Touch} [W.Log] [W.Dram] [W.Tags] [W.Held] [W.Pair] [W.Disp] [W.Rtk] [W.Clk] [∀ b, W.In b] (a0 : Via) (a1 : Page) (a2 : Nat) (a3 : Nat) (s : State)  : Res.rest W (execTblRead a0 a1 a2 a3 s) = some (s.rest W) := by
  unfold execTblRead
  simp only [State.tblGo_rest, rest_next, ite_self, implies_true, State.each_rest, State.on_rest, apply_ite (State.rest _), apply_ite (Res.rest _), apply_ite Prod.fst, apply_ite Prod.snd]

@[simp] theorem execTblWrite_rest {W : Touch} [W.Log] [W.Dram] [W.Tags] [W.Held] [W.Pair] [W.Disp] [W.Rtk] [W.Clk] [∀ b, W.In b] (a0 : Via) (a1 : Page) (a2 : Nat) (a3 : Nat) (s : State)  : Res.rest W (execTblWrite a0 a1 a2 a3 s) = some (s.rest W) := by
  unfold execTblWrite
  simp only [State.tblGo_rest, rest_next, ite_self, implies_true, State.each_rest, State.on_rest, apply_ite (State.rest _), apply_ite (Res.rest _), apply_ite Prod.fst, apply_ite Prod.snd]

@[simp] theorem execTblInsert_rest {W : Touch} [W.Log] [W.Dram] [W.Tags] [W.Held] [W.Pair] [W.Disp] [W.Rtk] [W.Clk] [∀ b, W.In b] (a0 : Via) (a1 : Page) (a2 : Nat) (a3 : Nat) (s : State)  : Res.rest W (execTblInsert a0 a1 a2 a3 s) = some (s.rest W) := by
  unfold execTblInsert
  simp only [State.tblGo_rest, rest_next, ite_self, implies_true, State.each_rest, State.on_rest, apply_ite (State.rest _), apply_ite (Res.rest _), apply_ite Prod.fst, apply_ite Prod.snd]

@[simp] theorem execTblDelete_rest {W : Touch} [W.Log] [W.Dram] [W.Tags] [W.Held] [W.Pair] [W.Disp] [W.Rtk] [W.Clk] [∀ b, W.In b] (a0 : Via) (a1 : Page) (a2 : Nat) (a3 : Nat) (s : State)  : Res.rest W (execTblDelete a0 a1 a2 a3 s) = some (s.rest W) := by
  unfold execTblDelete
  simp only [State.tblGo_rest, rest_next, ite_self, implies_true, State.each_rest, State.on_rest, apply_ite (State.rest _), apply_ite (Res.rest _), apply_ite Prod.fst, apply_ite Prod.snd]

@[simp] theorem execTblLookup_rest {W : Touch} [W.Log] [W.Dram] [W.Tags] [W.Held] [W.Pair] [W.Disp] [W.Rtk] [W.Clk] [∀ b, W.In b] (a0 : Via) (a1 : Page) (a2 : Nat) (a3 : Nat) (s : State)  : Res.rest W (execTblLookup a0 a1 a2 a3 s) = some (s.rest W) := by
  unfold execTblLookup
  simp only [State.tblGo_rest, rest_next, ite_self, implies_true, State.each_rest, State.on_rest, apply_ite (State.rest _), apply_ite (Res.rest _), apply_ite Prod.fst, apply_ite Prod.snd]

@[simp] theorem execTblNext_rest {W : Touch} [W.Log] [W.Dram] [W.Tags] [W.Held] [W.Pair] [W.Disp] [W.Rtk] [W.Clk] [∀ b, W.In b] (a0 : Via) (a1 : Page) (a2 : Nat) (a3 : Nat) (s : State)  : Res.rest W (execTblNext a0 a1 a2 a3 s) = some (s.rest W) := by
  unfold execTblNext
  simp only [State.tblGo_rest, rest_next, ite_self, implies_true, State.each_rest, State.on_rest, apply_ite (State.rest _), apply_ite (Res.rest _), apply_ite Prod.fst, apply_ite Prod.snd]

@[simp] theorem execTblCmpwrite_rest {W : Touch} [W.Log] [W.Dram] [W.Tags] [W.Held] [W.Pair] [W.Disp] [W.Rtk] [W.Clk] [∀ b, W.In b] (a0 : Via) (a1 : Page) (a2 : Nat) (a3 : Nat) (s : State)  : Res.rest W (execTblCmpwrite a0 a1 a2 a3 s) = some (s.rest W) := by
  unfold execTblCmpwrite
  simp only [State.tblGo_rest, rest_next, ite_self, implies_true, State.each_rest, State.on_rest, apply_ite (State.rest _), apply_ite (Res.rest _), apply_ite Prod.fst, apply_ite Prod.snd]

@[simp] theorem execTagCompletion_rest {W : Touch} [W.Level] [W.Fresh] [W.Tags] [W.Air] [W.Arb] [W.Lk] [W.In .airport] [W.In .dram] [W.In .pair] [W.In .regionCtl] (s : State)  : Res.rest W (execTagCompletion s) = some (s.rest W) := by
  have ⟨_, _, _, _, _, _, _, _, _, _, _, _⟩ := Touch.levelIns W
  unfold execTagCompletion
  simp only [State.readPump_rest, State.writeCompl_rest, State.rest_tags, rest_next, ite_self, implies_true, State.each_rest, State.on_rest, apply_ite (State.rest _), apply_ite (Res.rest _), apply_ite Prod.fst, apply_ite Prod.snd]

@[simp] theorem execRefclkLost_rest {W : Touch} [W.Log] [W.Hg] [W.Air] [W.Clk] [W.In .clock] [W.In .headgate] (a0 : Nat) (a1 : Nat) (s : State)  : Res.rest W (execRefclkLost a0 a1 s) = some (s.rest W) := by
  have ⟨_, _, _, _, _⟩ := Touch.logIns W
  unfold execRefclkLost
  simp only [State.set_rest, State.disarmReturn_rest, State.switchRoot_rest, State.rootLost_rest, State.rest_clk, rest_next, ite_self, implies_true, State.each_rest, State.on_rest, apply_ite (State.rest _), apply_ite (Res.rest _), apply_ite Prod.fst, apply_ite Prod.snd]

@[simp] theorem execPllRelock_rest {W : Touch} [W.All] [∀ b, W.In b] (a0 : Nat) (s : State)  : Res.rest W (execPllRelock a0 s) = some (s.rest W) := by
  unfold execPllRelock
  (repeat' split) <;> simp only [State.replayGap_rest, State.releaseClocks_rest, State.recompute_rest, State.set_rest, State.rest_ft_sup, rest_next, implies_true, State.each_rest, State.on_rest]

@[simp] theorem execRefGood10s_rest {W : Touch} [W.In .clock] (s : State)  : Res.rest W (execRefGood10s s) = some (s.rest W) := by
  unfold execRefGood10s
  simp only [State.set_rest, rest_next, ite_self, implies_true, State.each_rest, State.on_rest, apply_ite (State.rest _), apply_ite (Res.rest _), apply_ite Prod.fst, apply_ite Prod.snd]

@[simp] theorem execRootReturn_rest {W : Touch} [W.Air] [W.Clk] [W.In .clock] (s : State)  : Res.rest W (execRootReturn s) = some (s.rest W) := by
  unfold execRootReturn
  simp only [State.rootReturn_rest, rest_next, ite_self, implies_true, State.each_rest, State.on_rest, apply_ite (State.rest _), apply_ite (Res.rest _), apply_ite Prod.fst, apply_ite Prod.snd]

@[simp] theorem execReturnFail_rest {W : Touch} [W.In .clock] (s : State)  : Res.rest W (execReturnFail s) = some (s.rest W) := by
  unfold execReturnFail
  simp only [State.disarmReturn_rest, rest_next, ite_self, implies_true, State.each_rest, State.on_rest, apply_ite (State.rest _), apply_ite (Res.rest _), apply_ite Prod.fst, apply_ite Prod.snd]

@[simp] theorem execAuxclkLost_rest {W : Touch} [W.Log] [W.Hg] [W.Air] [W.Clk] [W.In .clock] [W.In .headgate] (a0 : Nat) (a1 : Nat) (s : State)  : Res.rest W (execAuxclkLost a0 a1 s) = some (s.rest W) := by
  have ⟨_, _, _, _, _⟩ := Touch.logIns W
  unfold execAuxclkLost
  simp only [State.auxPortsDown_rest, State.set_rest, State.switchRoot_rest, State.disarmReturn_rest, State.rootLost_rest, State.rest_clk, rest_next, ite_self, implies_true, State.each_rest, State.on_rest, apply_ite (State.rest _), apply_ite (Res.rest _), apply_ite Prod.fst, apply_ite Prod.snd]

@[simp] theorem execRootInputRecovered_rest {W : Touch} [W.All] [∀ b, W.In b] (a0 : Nat) (a1 : Nat) (a2 : Nat) (s : State)  : Res.rest W (execRootInputRecovered a0 a1 a2 s) = some (s.rest W) := by
  unfold execRootInputRecovered
  simp only [State.set_rest, State.switchCount_rest, State.releaseClocks_rest, State.canalTrain_rest, State.replayGap_rest, State.rest_clk, rest_next, ite_self, implies_true, State.each_rest, State.on_rest, apply_ite (State.rest _), apply_ite (Res.rest _), apply_ite Prod.fst, apply_ite Prod.snd]

@[simp] theorem execDramScrubPass_rest {W : Touch} [W.Level] [W.Fresh] [W.Air] [W.Arb] [W.Clk] [W.In .airport] [W.In .dram] [W.In .pair] [W.In .regionCtl] (a0 : Nat) (a1 : List Nat) (s : State)  : Res.rest W (execDramScrubPass a0 a1 s) = some (s.rest W) := by
  have ⟨_, _, _, _, _, _, _, _, _, _, _, _⟩ := Touch.levelIns W
  unfold execDramScrubPass
  simp only [State.inc_rest, State.incP_rest, State.blockError_rest, State.rest_clk, rest_next, ite_self, implies_true, State.each_rest, State.on_rest, apply_ite (State.rest _), apply_ite (Res.rest _), apply_ite Prod.fst, apply_ite Prod.snd]

@[simp] theorem execDramTrainingDone_rest {W : Touch} [W.Level] [W.Fresh] [W.Dram] [W.Air] [W.Arb] [W.Gn] [W.Rt] [W.Clk] [W.Met] [W.Boot] [W.In .airport] [W.In .dram] [W.In .gnssMeas] [W.In .gnssRf] [W.In .gnssTrk] [W.In .pair] [W.In .regionCtl] [W.In .route] [W.In .solver] (a0 : Bool) (s : State)  : Res.rest W (execDramTrainingDone a0 s) = some (s.rest W) := by
  have ⟨_, _, _, _, _, _, _, _, _, _, _, _⟩ := Touch.levelIns W
  unfold execDramTrainingDone
  simp only [State.enterOn_rest, State.dramClear_rest, State.set_rest, State.blockError_rest, rest_next, ite_self, implies_true, State.each_rest, State.on_rest, apply_ite (State.rest _), apply_ite (Res.rest _), apply_ite Prod.fst, apply_ite Prod.snd]

@[simp] theorem execSupRestart_rest {W : Touch} [W.Level] [W.Clk] [W.In .reset] (s : State)  : Res.rest W (execSupRestart s) = some (s.rest W) := by
  have ⟨_, _, _, _, _, _, _, _, _, _, _, _⟩ := Touch.levelIns W
  unfold execSupRestart
  simp only [State.supRestart_rest, rest_next, ite_self, implies_true, State.each_rest, State.on_rest, apply_ite (State.rest _), apply_ite (Res.rest _), apply_ite Prod.fst, apply_ite Prod.snd]

@[simp] theorem execSupHold_rest {W : Touch} [W.Level] [W.Clk] [W.In .reset] (a0 : Bool) (s : State)  : Res.rest W (execSupHold a0 s) = some (s.rest W) := by
  have ⟨_, _, _, _, _, _, _, _, _, _, _, _⟩ := Touch.levelIns W
  unfold execSupHold
  simp only [State.supHold_rest, rest_next, ite_self, implies_true, State.each_rest, State.on_rest, apply_ite (State.rest _), apply_ite (Res.rest _), apply_ite Prod.fst, apply_ite Prod.snd]

@[simp] theorem execSupRelease_rest {W : Touch} [W.Level] [W.Fresh] [W.Tags] [W.Held] [W.Air] [W.Arb] [W.Ls] [W.Mot] [W.Clk] [∀ b, W.In b] (a0 : Bool) (a1 : Bool) (s : State)  : Res.rest W (execSupRelease a0 a1 s) = some (s.rest W) := by
  unfold execSupRelease
  simp only [State.supReleased_rest, State.blockError_rest, State.rest_clk, rest_next, ite_self, implies_true, State.each_rest, State.on_rest, apply_ite (State.rest _), apply_ite (Res.rest _), apply_ite Prod.fst, apply_ite Prod.snd]

@[simp] theorem execChipResetGo_rest {W : Touch} [W.All] [∀ b, W.In b] (s : State)  : Res.rest W (execChipResetGo s) = some (s.rest W) := by
  unfold execChipResetGo
  simp only [State.chipReset_rest, rest_next, ite_self, implies_true, State.each_rest, State.on_rest, apply_ite (State.rest _), apply_ite (Res.rest _), apply_ite Prod.fst, apply_ite Prod.snd]

@[simp] theorem execBundleAssembly_rest {W : Touch} [W.VecSent] [W.Fq] [W.Out] [W.Canal] [W.Air] [W.Pair] [W.Disp] [W.Mot] [W.In .canal] [W.In .core] [W.In .dispatch] [W.In .eth] [W.In .flume] [W.In .motion] [W.In .pcie] (p g : Nat) (late : List Nat) (s : State) :
    Res.rest W (execBundleAssembly p g late s) = some (s.rest W) := by
  unfold execBundleAssembly
  split
  · rfl
  · split
    · rfl
    · rw [rest_next, State.motShow_rest, State.rest_air]
      congr 1
      refine foldl_rest _ (fun (b : List (Nat × List Nat) × State) => b.2) _ (fun b x => ?_) ([], s)
      split
      · exact State.inc_rest ..
      · exact State.assembleOne_rest ..

@[simp] theorem execAntCurrentClassify_rest {W : Touch} [W.Log] [W.Gn] [W.In .gnssMeas] [W.In .gnssRf] (a0 : Nat) (a1 : Nat) (s : State)  : Res.rest W (execAntCurrentClassify a0 a1 s) = some (s.rest W) := by
  have ⟨_, _, _, _, _⟩ := Touch.logIns W
  unfold execAntCurrentClassify
  simp only [State.antTimes_rest, State.set_rest, State.notice_rest, State.pwrPin_rest, rest_next, ite_self, implies_true, State.each_rest, State.on_rest, apply_ite (State.rest _), apply_ite (Res.rest _), apply_ite Prod.fst, apply_ite Prod.snd]

@[simp] theorem execInterfSet_rest {W : Touch} [W.VecSent] [W.Out] [W.Gn] [W.In .gnssMeas] [W.In .gnssRf] [W.In .pcie] (a0 : Nat) (a1 : Nat) (a2 : Nat) (a3 : Nat) (a4 : Nat) (s : State)  : Res.rest W (execInterfSet a0 a1 a2 a3 a4 s) = some (s.rest W) := by
  unfold execInterfSet
  simp only [State.learnGains_rest, State.setGains_rest, State.interfShow_rest, State.irq_rest, State.set_rest, rest_next, ite_self, implies_true, State.each_rest, State.on_rest, apply_ite (State.rest _), apply_ite (Res.rest _), apply_ite Prod.fst, apply_ite Prod.snd]

@[simp] theorem execInterfClear_rest {W : Touch} [W.Gn] [W.In .gnssMeas] [W.In .gnssRf] (a0 : Nat) (a1 : Nat) (a2 : Nat) (a3 : Nat) (a4 : Nat) (s : State)  : Res.rest W (execInterfClear a0 a1 a2 a3 a4 s) = some (s.rest W) := by
  unfold execInterfClear
  simp only [State.learnGains_rest, State.setGains_rest, State.interfShow_rest, State.set_rest, rest_next, ite_self, implies_true, State.each_rest, State.on_rest, apply_ite (State.rest _), apply_ite (Res.rest _), apply_ite Prod.fst, apply_ite Prod.snd]

@[simp] theorem execAcqPass_rest {W : Touch} [W.Log] [W.Gn] [W.In .gnssAcq] [W.In .gnssMeas] [W.In .gnssTrk] (a0 : List SkySig) (s : State)  : Res.rest W (execAcqPass a0 s) = some (s.rest W) := by
  have ⟨_, _, _, _, _⟩ := Touch.logIns W
  unfold execAcqPass
  simp only [State.moveGroups_rest, State.antTimes_rest, State.passAnt_rest, State.set_rest, State.rest_gn, rest_next, ite_self, implies_true, State.each_rest, State.on_rest, apply_ite (State.rest _), apply_ite (Res.rest _), apply_ite Prod.fst, apply_ite Prod.snd]

@[simp] theorem execChannelLock_rest {W : Touch} [W.Gn] [W.In .gnssTrk] (a0 : Nat) (s : State)  : Res.rest W (execChannelLock a0 s) = some (s.rest W) := by
  unfold execChannelLock
  simp only [State.setChan_rest, rest_next, ite_self, implies_true, State.each_rest, State.on_rest, apply_ite (State.rest _), apply_ite (Res.rest _), apply_ite Prod.fst, apply_ite Prod.snd]

@[simp] theorem execPullInTimeout_rest {W : Touch} [W.Gn] [W.In .gnssTrk] (a0 : Nat) (s : State)  : Res.rest W (execPullInTimeout a0 s) = some (s.rest W) := by
  unfold execPullInTimeout
  simp only [State.idleChan_rest, rest_next, ite_self, implies_true, State.each_rest, State.on_rest, apply_ite (State.rest _), apply_ite (Res.rest _), apply_ite Prod.fst, apply_ite Prod.snd]

@[simp] theorem execCycleSlip_rest {W : Touch} [W.Gn] [W.In .gnssTrk] (a0 : Nat) (s : State)  : Res.rest W (execCycleSlip a0 s) = some (s.rest W) := by
  unfold execCycleSlip
  simp only [State.inc_rest, State.setChan_rest, rest_next, ite_self, implies_true, State.each_rest, State.on_rest, apply_ite (State.rest _), apply_ite (Res.rest _), apply_ite Prod.fst, apply_ite Prod.snd]

@[simp] theorem execTrackLoss_rest {W : Touch} [W.Gn] [W.In .gnssTrk] (a0 : Nat) (s : State)  : Res.rest W (execTrackLoss a0 s) = some (s.rest W) := by
  unfold execTrackLoss
  simp only [State.loseChan_rest, rest_next, ite_self, implies_true, State.each_rest, State.on_rest, apply_ite (State.rest _), apply_ite (Res.rest _), apply_ite Prod.fst, apply_ite Prod.snd]

@[simp] theorem execChannelRelock_rest {W : Touch} [W.Gn] [W.In .gnssTrk] (a0 : Nat) (s : State)  : Res.rest W (execChannelRelock a0 s) = some (s.rest W) := by
  unfold execChannelRelock
  simp only [State.setChan_rest, rest_next, ite_self, implies_true, State.each_rest, State.on_rest, apply_ite (State.rest _), apply_ite (Res.rest _), apply_ite Prod.fst, apply_ite Prod.snd]

@[simp] theorem execLostTimeout_rest {W : Touch} [W.Gn] [W.In .gnssTrk] (a0 : Nat) (a1 : Bool) (s : State)  : Res.rest W (execLostTimeout a0 a1 s) = some (s.rest W) := by
  unfold execLostTimeout
  simp only [State.idleChan_rest, rest_next, ite_self, implies_true, State.each_rest, State.on_rest, apply_ite (State.rest _), apply_ite (Res.rest _), apply_ite Prod.fst, apply_ite Prod.snd]

@[simp] theorem execPolarityResolved_rest {W : Touch} [W.Gn] [W.In .gnssTrk] (a0 : Nat) (s : State)  : Res.rest W (execPolarityResolved a0 s) = some (s.rest W) := by
  unfold execPolarityResolved
  simp only [State.setChan_rest, rest_next, ite_self, implies_true, State.each_rest, State.on_rest, apply_ite (State.rest _), apply_ite (Res.rest _), apply_ite Prod.fst, apply_ite Prod.snd]

@[simp] theorem execMeasStrobe_rest {W : Touch} [W.Log] [W.Fresh] [W.Gn] [∀ b, W.In b] (a0 : List MeasIn) (s : State)  : Res.rest W (execMeasStrobe a0 s) = some (s.rest W) := by
  unfold execMeasStrobe
  simp only [State.applyBase_rest, State.latchAll_rest, State.hostRef_rest, State.set_rest, State.setChan_rest, State.rest_gn, rest_next, ite_self, implies_true, State.each_rest, State.on_rest, apply_ite (State.rest _), apply_ite (Res.rest _), apply_ite Prod.fst, apply_ite Prod.snd]

@[simp] theorem execEpochComplete_rest {W : Touch} [W.Level] [W.Fresh] [W.Dram] [W.Gn] [W.Tm] [W.Clk] [W.In .dram] [W.In .gnssMeas] [W.In .time] (a0 : Option Nat) (a1 : List SigGeom) (s : State)  : Res.rest W (execEpochComplete a0 a1 s) = some (s.rest W) := by
  have ⟨_, _, _, _, _, _, _, _, _, _, _, _⟩ := Touch.levelIns W
  unfold execEpochComplete; (repeat' (first | split | intro)) <;> simp [State.spoofDrops_rest, State.consist_rest, State.irq_rest, State.set_rest, State.noteArp_rest, State.baseEffects_rest, State.recompute_rest, State.archive_rest, State.qBytes_rest, State.rest_gn, rest_next, ite_self, implies_true, State.each_rest, State.on_rest, apply_ite (State.rest _), apply_ite (Res.rest _), apply_ite Prod.fst, apply_ite Prod.snd]

@[simp] theorem execSpoofClear_rest {W : Touch} [W.In .gnssMeas] (s : State)  : Res.rest W (execSpoofClear s) = some (s.rest W) := by
  unfold execSpoofClear
  simp only [State.spoofClear_rest, rest_next, ite_self, implies_true, State.each_rest, State.on_rest, apply_ite (State.rest _), apply_ite (Res.rest _), apply_ite Prod.fst, apply_ite Prod.snd]

@[simp] theorem execSurveyStart_rest {W : Touch} [W.Gn] [W.In .gnssMeas] (s : State)  : Res.rest W (execSurveyStart s) = some (s.rest W) := by
  unfold execSurveyStart
  simp only [State.surveyStart_rest, rest_next, ite_self, implies_true, State.each_rest, State.on_rest, apply_ite (State.rest _), apply_ite (Res.rest _), apply_ite Prod.fst, apply_ite Prod.snd]

@[simp] theorem execSurveySecond_rest {W : Touch} [W.Log] [W.Gn] [W.In .gnssMeas] (a0 : Int) (a1 : Int) (a2 : Int) (s : State)  : Res.rest W (execSurveySecond a0 a1 a2 s) = some (s.rest W) := by
  have ⟨_, _, _, _, _⟩ := Touch.logIns W
  unfold execSurveySecond
  simp only [State.surveyAdd_rest, State.surveyDone_rest, State.rest_gn, rest_next, ite_self, implies_true, State.each_rest, State.on_rest, apply_ite (State.rest _), apply_ite (Res.rest _), apply_ite Prod.fst, apply_ite Prod.snd]

@[simp] theorem execSurveyTimeout_rest {W : Touch} [W.VecSent] [W.Out] [W.In .gnssMeas] [W.In .pcie] (s : State)  : Res.rest W (execSurveyTimeout s) = some (s.rest W) := by
  unfold execSurveyTimeout
  simp only [State.irq_rest, State.set_rest, rest_next, ite_self, implies_true, State.each_rest, State.on_rest, apply_ite (State.rest _), apply_ite (Res.rest _), apply_ite Prod.fst, apply_ite Prod.snd]

@[simp] theorem execTimeSourceMeasure_rest {W : Touch} [W.Level] [W.Ft] [W.Fresh] [W.Sup] [W.Air] [W.Gn] [W.Tm] [W.Rt] [W.Clk] [W.Met] [W.In .time] (a0 : Nat) (a1 : Option Int) (a2 : Bool) (a3 : Nat) (s : State)  : Res.rest W (execTimeSourceMeasure a0 a1 a2 a3 s) = some (s.rest W) := by
  have ⟨_, _, _, _, _, _, _, _, _, _, _, _⟩ := Touch.levelIns W
  unfold execTimeSourceMeasure
  (repeat' (first | (refine ite_rest ?_ ?_) | (refine ite_res ?_ ?_) | split)) <;> simp only [State.dropSource_rest, State.measured_rest, State.missInterval_rest, State.rest_tm, rest_next, implies_true, State.each_rest, State.on_rest]

@[simp] theorem execSlewComplete_rest {W : Touch} [W.Tm] [W.In .time] (s : State)  : Res.rest W (execSlewComplete s) = some (s.rest W) := by
  unfold execSlewComplete
  simp only [State.endSlew_rest, rest_next, ite_self, implies_true, State.each_rest, State.on_rest, apply_ite (State.rest _), apply_ite (Res.rest _), apply_ite Prod.fst, apply_ite Prod.snd]

@[simp] theorem execTqEvaluate_rest {W : Touch} [W.Level] [W.Tm] [W.In .time] (s : State)  : Res.rest W (execTqEvaluate s) = some (s.rest W) := by
  have ⟨_, _, _, _, _, _, _, _, _, _, _, _⟩ := Touch.levelIns W
  unfold execTqEvaluate
  simp only [State.set_rest, State.recompute_rest, State.irq_rest, State.rest_tm, rest_next, ite_self, implies_true, State.each_rest, State.on_rest, apply_ite (State.rest _), apply_ite (Res.rest _), apply_ite Prod.fst, apply_ite Prod.snd]

@[simp] theorem execRefusedTimeout_rest {W : Touch} [W.In .time] (s : State)  : Res.rest W (execRefusedTimeout s) = some (s.rest W) := by
  unfold execRefusedTimeout
  (repeat' split) <;> simp only [State.set_rest, rest_next, implies_true, State.each_rest, State.on_rest]

@[simp] theorem execGapAllowExpiry_rest {W : Touch} [W.In .time] (s : State)  : Res.rest W (execGapAllowExpiry s) = some (s.rest W) := by
  unfold execGapAllowExpiry
  simp only [State.set_rest, rest_next, ite_self, implies_true, State.each_rest, State.on_rest, apply_ite (State.rest _), apply_ite (Res.rest _), apply_ite Prod.fst, apply_ite Prod.snd]

@[simp] theorem execStepToSource_rest {W : Touch} [W.Level] [W.Fresh] [W.Tm] [W.In .time] (s : State)  : Res.rest W (execStepToSource s) = some (s.rest W) := by
  have ⟨_, _, _, _, _, _, _, _, _, _, _, _⟩ := Touch.levelIns W
  unfold execStepToSource
  simp only [State.stepOp_rest, rest_next, ite_self, implies_true, State.each_rest, State.on_rest, apply_ite (State.rest _), apply_ite (Res.rest _), apply_ite Prod.fst, apply_ite Prod.snd]

@[simp] theorem execStepByOffset_rest {W : Touch} [W.Level] [W.Fresh] [W.Tm] [W.In .time] (a0 : Option Int) (s : State)  : Res.rest W (execStepByOffset a0 s) = some (s.rest W) := by
  have ⟨_, _, _, _, _, _, _, _, _, _, _, _⟩ := Touch.levelIns W
  unfold execStepByOffset
  simp only [State.stepOp_rest, rest_next, ite_self, implies_true, State.each_rest, State.on_rest, apply_ite (State.rest _), apply_ite (Res.rest _), apply_ite Prod.fst, apply_ite Prod.snd]

@[simp] theorem execAcceptFree_rest {W : Touch} [W.Level] [W.Fresh] [W.Tm] [W.In .time] (s : State)  : Res.rest W (execAcceptFree s) = some (s.rest W) := by
  have ⟨_, _, _, _, _, _, _, _, _, _, _, _⟩ := Touch.levelIns W
  unfold execAcceptFree
  simp only [State.stepOp_rest, rest_next, ite_self, implies_true, State.each_rest, State.on_rest, apply_ite (State.rest _), apply_ite (Res.rest _), apply_ite Prod.fst, apply_ite Prod.snd]

@[simp] theorem execSlewAccept_rest {W : Touch} [W.Level] [W.Fresh] [W.Tm] [W.In .time] (s : State)  : Res.rest W (execSlewAccept s) = some (s.rest W) := by
  have ⟨_, _, _, _, _, _, _, _, _, _, _, _⟩ := Touch.levelIns W
  unfold execSlewAccept
  simp only [State.stepOp_rest, rest_next, ite_self, implies_true, State.each_rest, State.on_rest, apply_ite (State.rest _), apply_ite (Res.rest _), apply_ite Prod.fst, apply_ite Prod.snd]

@[simp] theorem execTimeStepApply_rest {W : Touch} [W.Level] [W.Ft] [W.Fresh] [W.Tags] [W.Sup] [W.Held] [W.Air] [W.Gn] [W.Tm] [W.Ls] [W.Mot] [W.Rt] [W.Clk] [W.Met] [W.In .lease] [W.In .meter] [W.In .motion] [W.In .taskboard] [W.In .time] [W.In .turnout] (s : State)  : Res.rest W (execTimeStepApply s) = some (s.rest W) := by
  have ⟨_, _, _, _, _, _, _, _, _, _, _, _⟩ := Touch.levelIns W
  unfold execTimeStepApply
  dsimp only
  (repeat' split) <;> simp only [State.stepTime_rest, State.recompute_rest, State.acceptE_rest, State.selectSrc_rest, State.stepMeter_rest, State.stepObs_rest, State.stepMotion_rest, State.stepAborts_rest, State.rebaseTimers_rest, State.rebaseLeases_rest, State.refreeze_rest, State.set_rest, State.leaseShow_rest, State.rebaseTasks_rest, State.rest_tm, rest_next, implies_true, State.each_rest, State.on_rest]

@[simp] theorem execRebaseComplete_rest {W : Touch} [W.Log] [W.Fresh] [W.Dram] [W.Tags] [W.Held] [W.Air] [W.Pair] [W.Tm] [W.Disp] [W.Ls] [W.Mot] [W.Rtk] [W.Rt] [W.Clk] [∀ b, W.In b] (s : State)  : Res.rest W (execRebaseComplete s) = some (s.rest W) := by
  unfold execRebaseComplete
  simp only [State.set_rest, State.irq_rest, State.leaseShow_rest, State.refreeze_rest, State.rebaseHeld_rest, State.rest_held_tm, rest_next, ite_self, implies_true, State.each_rest, State.on_rest, apply_ite (State.rest _), apply_ite (Res.rest _), apply_ite Prod.fst, apply_ite Prod.snd]

@[simp] theorem execPpsEdge_rest {W : Touch} [W.Out] [W.Tm] (s : State)  : Res.rest W (execPpsEdge s) = some (s.rest W) := by
  unfold execPpsEdge
  simp only [State.ppsPin_rest, State.rest_tm, rest_next, ite_self, implies_true, State.each_rest, State.on_rest, apply_ite (State.rest _), apply_ite (Res.rest _), apply_ite Prod.fst, apply_ite Prod.snd]

@[simp] theorem execPtpEventRx_rest {W : Touch} [W.VecSent] [W.Fq] [W.Out] [W.Canal] [W.Lk] [W.Tm] [W.In .canal] [W.In .eth] [W.In .flume] [W.In .pcie] (a0 : Nat) (a1 : EthFrame) (s : State)  : Res.rest W (execPtpEventRx a0 a1 s) = some (s.rest W) := by
  unfold execPtpEventRx
  simp only [State.ethTake_rest, State.ptpRx_rest, rest_next, ite_self, implies_true, State.each_rest, State.on_rest, apply_ite (State.rest _), apply_ite (Res.rest _), apply_ite Prod.fst, apply_ite Prod.snd]

@[simp] theorem execPtpEventTx_rest {W : Touch} [W.Log] [W.Tm] [W.In .time] (a0 : Nat) (a1 : Nat) (a2 : Nat) (a3 : Nat) (a4 : Bool) (s : State)  : Res.rest W (execPtpEventTx a0 a1 a2 a3 a4 s) = some (s.rest W) := by
  have ⟨_, _, _, _, _⟩ := Touch.logIns W
  unfold execPtpEventTx
  simp only [State.inc_rest, State.announceTx_rest, State.ptpTx_rest, rest_next, ite_self, implies_true, State.each_rest, State.on_rest, apply_ite (State.rest _), apply_ite (Res.rest _), apply_ite Prod.fst, apply_ite Prod.snd]

@[simp] theorem execTxtsPop_rest {W : Touch} [W.VecSent] [W.Out] [W.Tm] [W.In .pcie] [W.In .time] (a0 : Src) (a1 : Nat) (s : State)  : Res.rest W (execTxtsPop a0 a1 s) = some (s.rest W) := by
  unfold execTxtsPop
  simp only [State.emit_rest, State.setTxts_rest, rest_next, ite_self, implies_true, State.each_rest, State.on_rest, apply_ite (State.rest _), apply_ite (Res.rest _), apply_ite Prod.fst, apply_ite Prod.snd]

@[simp] theorem execMemberEpochReady_rest {W : Touch} [W.Rtk] [W.In .rtkCtrl] (a0 : Nat) (s : State)  : Res.rest W (execMemberEpochReady a0 s) = some (s.rest W) := by
  unfold execMemberEpochReady
  simp only [State.makeReady_rest, rest_next, ite_self, implies_true, State.each_rest, State.on_rest, apply_ite (State.rest _), apply_ite (Res.rest _), apply_ite Prod.fst, apply_ite Prod.snd]

@[simp] theorem execCellTake_rest {W : Touch} [W.Rtk] [W.In .rtkCtrl] [W.In .solver] (a0 : Nat) (s : State)  : Res.rest W (execCellTake a0 s) = some (s.rest W) := by
  unfold execCellTake
  grind [State.dropQueue_rest, State.set_rest, State.rest_rtk, rest_next]

@[simp] theorem execDeadlineDrop_rest {W : Touch} [W.VecSent] [W.Out] [W.Rtk] [W.In .pcie] [W.In .rtkCtrl] (a0 : Nat) (s : State)  : Res.rest W (execDeadlineDrop a0 s) = some (s.rest W) := by
  unfold execDeadlineDrop
  simp only [State.dropQueue_rest, State.irq_rest, State.inc_rest, rest_next, ite_self, implies_true, State.each_rest, State.on_rest, apply_ite (State.rest _), apply_ite (Res.rest _), apply_ite Prod.fst, apply_ite Prod.snd]

@[simp] theorem execSolveComplete_rest {W : Touch} [W.Log] [W.Fresh] [W.Pair] [W.Disp] [W.Mot] [W.Rtk] [W.In .core] [W.In .dispatch] [W.In .registry] [W.In .rtkCtrl] [W.In .solver] (a0 : Nat) (a1 : Nat) (s : State)  : Res.rest W (execSolveComplete a0 a1 s) = some (s.rest W) := by
  have ⟨_, _, _, _, _⟩ := Touch.logIns W
  unfold execSolveComplete
  dsimp only
  (repeat' split) <;> simp only [State.inc_rest, State.set_rest, State.noteCost_rest, State.rtkShow_rest, State.releaseFix_rest, State.rest_rtk, rest_next, implies_true, State.each_rest, State.on_rest]

@[simp] theorem execCellWatchdog_rest {W : Touch} [W.All] [∀ b, W.In b] (a0 : Nat) (s : State)  : Res.rest W (execCellWatchdog a0 s) = some (s.rest W) := by
  unfold execCellWatchdog
  dsimp only
  (repeat' split) <;> simp only [State.free_rest, State.inc_rest, State.cellError_rest, rest_next, implies_true, State.each_rest, State.on_rest]

@[simp] theorem execRtkCapacityEval_rest {W : Touch} [W.Log] [W.Pair] [W.Rtk] [W.In .rtkCtrl] (s : State)  : Res.rest W (execRtkCapacityEval s) = some (s.rest W) := by
  have ⟨_, _, _, _, _⟩ := Touch.logIns W
  unfold execRtkCapacityEval
  simp only [State.rtkShow_rest, State.setTe_rest, State.set_rest, State.irq_rest, State.notice_rest, State.rest_rtk, rest_next, ite_self, implies_true, State.each_rest, State.on_rest, apply_ite (State.rest _), apply_ite (Res.rest _), apply_ite Prod.fst, apply_ite Prod.snd]

@[simp] theorem execSignalAbsentTimeout_rest {W : Touch} [W.Rtk] (a0 : Nat) (a1 : Nat) (a2 : Nat) (s : State)  : Res.rest W (execSignalAbsentTimeout a0 a1 a2 s) = some (s.rest W) := by
  unfold execSignalAbsentTimeout
  simp only [State.setRmem_rest, rest_next, ite_self, implies_true, State.each_rest, State.on_rest, apply_ite (State.rest _), apply_ite (Res.rest _), apply_ite Prod.fst, apply_ite Prod.snd]

@[simp] theorem execMemberStateTimeout_rest {W : Touch} [W.Pair] [W.Rtk] [W.In .rtkCtrl] (a0 : Nat) (s : State)  : Res.rest W (execMemberStateTimeout a0 s) = some (s.rest W) := by
  unfold execMemberStateTimeout
  (repeat' split) <;> simp only [State.rtkReset_rest, rest_next, implies_true, State.each_rest, State.on_rest]

@[simp] theorem execBaseLost_rest {W : Touch} [W.Level] (s : State)  : Res.rest W (execBaseLost s) = some (s.rest W) := by
  have ⟨_, _, _, _, _, _, _, _, _, _, _, _⟩ := Touch.levelIns W
  unfold execBaseLost
  simp only [State.recompute_rest, State.notice_rest, State.set_rest, rest_next, ite_self, implies_true, State.each_rest, State.on_rest, apply_ite (State.rest _), apply_ite (Res.rest _), apply_ite Prod.fst, apply_ite Prod.snd]

@[simp] theorem execCorrBuild_rest {W : Touch} [W.VecSent] [W.Fq] [W.Out] [W.Canal] [W.Rtk] [W.In .canal] [W.In .corrOut] [W.In .eth] [W.In .flume] [W.In .pcie] (s : State)  : Res.rest W (execCorrBuild s) = some (s.rest W) := by
  unfold execCorrBuild
  dsimp only
  (repeat' split) <;> simp only [State.inc_rest, State.set_rest, State.qBytes_rest, State.rest_rtk, rest_next, implies_true, State.each_rest, State.on_rest]

@[simp] theorem execCorrEntry_rest {W : Touch} [W.VecSent] [W.Out] [W.Hg] [W.Air] [W.Rtk] [W.In .airport] [W.In .corrOut] [W.In .frameSec] [W.In .pcie] [W.In .sluice] (a0 : Nat) (a1 : Nat) (s : State)  : Res.rest W (execCorrEntry a0 a1 s) = some (s.rest W) := by
  unfold execCorrEntry
  dsimp only
  (repeat' split) <;> simp only [State.entryRun_rest, State.corrAge_rest, State.inc_rest, State.sendZone_rest, State.rest_rtk, rest_next, implies_true, State.each_rest, State.on_rest]

@[simp] theorem execFramingLock_rest {W : Touch} [W.Air] [W.In .airport] (a0 : Nat) (s : State)  : Res.rest W (execFramingLock a0 s) = some (s.rest W) := by
  unfold execFramingLock
  simp only [State.set_rest, State.setPort_rest, rest_next, ite_self, implies_true, State.each_rest, State.on_rest, apply_ite (State.rest _), apply_ite (Res.rest _), apply_ite Prod.fst, apply_ite Prod.snd]

@[simp] theorem execFramingLoss_rest {W : Touch} [W.Level] [W.Fresh] [W.Air] [W.Arb] [W.In .airport] [W.In .pair] [W.In .regionCtl] (a0 : Nat) (s : State)  : Res.rest W (execFramingLoss a0 s) = some (s.rest W) := by
  have ⟨_, _, _, _, _, _, _, _, _, _, _, _⟩ := Touch.levelIns W
  unfold execFramingLoss
  simp only [State.irq_rest, State.inc_rest, State.set_rest, State.blockError_rest, rest_next, ite_self, implies_true, State.each_rest, State.on_rest, apply_ite (State.rest _), apply_ite (Res.rest _), apply_ite Prod.fst, apply_ite Prod.snd]

@[simp] theorem execPpduTx_rest {W : Touch} [W.Out] [W.Air] [W.In .airport] (a0 : Nat) (a1 : Nat) (a2 : Nat) (s : State)  : Res.rest W (execPpduTx a0 a1 a2 s) = some (s.rest W) := by
  unfold execPpduTx
  simp only [State.ppduTx_rest, rest_next, ite_self, implies_true, State.each_rest, State.on_rest, apply_ite (State.rest _), apply_ite (Res.rest _), apply_ite Prod.fst, apply_ite Prod.snd]

@[simp] theorem execPpduRx_rest {W : Touch} [W.Out] [W.Air] [W.In .airport] [W.In .frameSec] [W.In .sluice] (a0 : Nat) (a1 : Nat) (a2 : PpduIn) (s : State)  : Res.rest W (execPpduRx a0 a1 a2 s) = some (s.rest W) := by
  unfold execPpduRx
  dsimp only
  (repeat' split) <;> simp only [State.lnaAuto_rest, State.inc_rest, State.rxFrame_rest, rest_next, implies_true, State.each_rest, State.on_rest]

@[simp] theorem execSpiTxnDone_rest {W : Touch} [W.Level] [W.Fresh] [W.Air] [W.Arb] [W.In .airport] [W.In .pair] [W.In .regionCtl] (a0 : Nat) (a1 : Nat) (s : State)  : Res.rest W (execSpiTxnDone a0 a1 s) = some (s.rest W) := by
  have ⟨_, _, _, _, _, _, _, _, _, _, _, _⟩ := Touch.levelIns W
  unfold execSpiTxnDone
  dsimp only
  (repeat' split) <;> simp only [State.spiShift_rest, State.setPort_rest, State.set_rest, State.portError_rest, rest_next, implies_true, State.each_rest, State.on_rest]

@[simp] theorem execHealthCheck_rest {W : Touch} [W.Level] [W.Fresh] [W.Air] [W.Arb] [W.In .airport] [W.In .pair] [W.In .regionCtl] (a0 : Nat) (a1 : Nat) (s : State)  : Res.rest W (execHealthCheck a0 a1 s) = some (s.rest W) := by
  have ⟨_, _, _, _, _, _, _, _, _, _, _, _⟩ := Touch.levelIns W
  unfold execHealthCheck
  simp only [State.setPort_rest, State.spiShift_rest, State.set_rest, State.recompute_rest, State.portError_rest, State.irq_rest, State.inc_rest, rest_next, ite_self, implies_true, State.each_rest, State.on_rest, apply_ite (State.rest _), apply_ite (Res.rest _), apply_ite Prod.fst, apply_ite Prod.snd]

@[simp] theorem execAirportStartTimeout_rest {W : Touch} [W.Level] [W.Fresh] [W.Air] [W.Arb] [W.In .airport] [W.In .pair] [W.In .regionCtl] (a0 : Nat) (s : State)  : Res.rest W (execAirportStartTimeout a0 s) = some (s.rest W) := by
  have ⟨_, _, _, _, _, _, _, _, _, _, _, _⟩ := Touch.levelIns W
  unfold execAirportStartTimeout
  simp only [State.portError_rest, rest_next, ite_self, implies_true, State.each_rest, State.on_rest, apply_ite (State.rest _), apply_ite (Res.rest _), apply_ite Prod.fst, apply_ite Prod.snd]

@[simp] theorem execTxPathGrant_rest {W : Touch} [W.Air] [W.In .airport] [W.In .headgate] (a0 : Nat) (s : State)  : Res.rest W (execTxPathGrant a0 s) = some (s.rest W) := by
  unfold execTxPathGrant
  simp only [State.set_rest, State.setPort_rest, rest_next, ite_self, implies_true, State.each_rest, State.on_rest, apply_ite (State.rest _), apply_ite (Res.rest _), apply_ite Prod.fst, apply_ite Prod.snd]

@[simp] theorem execPortSvcStart_rest {W : Touch} [W.VecSent] [W.Out] [W.Air] [W.In .airport] [W.In .pcie] [W.In .sluice] (a0 : Nat) (s : State)  : Res.rest W (execPortSvcStart a0 s) = some (s.rest W) := by
  unfold execPortSvcStart
  simp only [State.svcStart_rest, rest_next, ite_self, implies_true, State.each_rest, State.on_rest, apply_ite (State.rest _), apply_ite (Res.rest _), apply_ite Prod.fst, apply_ite Prod.snd]

@[simp] theorem execPortSvcFault_rest {W : Touch} [W.Log] [W.Air] [W.Pair] [W.Disp] [W.In .airport] [W.In .core] [W.In .dispatch] [W.In .registry] (a0 : Nat) (s : State)  : Res.rest W (execPortSvcFault a0 s) = some (s.rest W) := by
  have ⟨_, _, _, _, _⟩ := Touch.logIns W
  unfold execPortSvcFault
  simp only [State.svcFault_rest, rest_next, ite_self, implies_true, State.each_rest, State.on_rest, apply_ite (State.rest _), apply_ite (Res.rest _), apply_ite Prod.fst, apply_ite Prod.snd]

@[simp] theorem execSuperframeBoundary_rest {W : Touch} [W.Level] [W.Fresh] [W.Tags] [W.VecMask] [W.Held] [W.Air] [W.Arb] [W.Lk] [W.Gn] [W.Ls] [W.Mot] [W.MotNsp] [W.Met] [∀ b, W.In b] (s : State)  : Res.rest W (execSuperframeBoundary s) = some (s.rest W) := by
  unfold execSuperframeBoundary
  simp only [State.set_rest, State.missRelayed_rest, State.switchBoundary_rest, State.cutAtBoundary_rest, State.keysAtBoundary_rest, State.swapAll_rest, State.beginSuperframe_rest, State.rest_air, rest_next, ite_self, implies_true, State.each_rest, State.on_rest, apply_ite (State.rest _), apply_ite (Res.rest _), apply_ite Prod.fst, apply_ite Prod.snd]

@[simp] theorem execUpFrameRx_rest {W : Touch} [W.Log] [W.Dram] [W.Air] [W.Pair] [W.Gn] [W.Disp] [W.Ls] [W.Mot] [W.Rtk] [W.Clk] [W.In .airport] [W.In .core] [W.In .dispatch] [W.In .dram] [W.In .frameSec] [W.In .keep] [W.In .lease] [W.In .motion] [W.In .obsIn] [W.In .registry] [W.In .rtkCtrl] [W.In .sluice] [W.In .taskboard] [W.In .turnout] (a0 : Nat) (s : State)  : Res.rest W (execUpFrameRx a0 s) = some (s.rest W) := by
  have ⟨_, _, _, _, _⟩ := Touch.logIns W
  unfold execUpFrameRx
  (repeat' (first | (refine ite_rest ?_ ?_) | (refine ite_res ?_ ?_) | split)) <;> simp only [State.rxPop_rest, State.upRx_rest, rest_next, implies_true, State.each_rest, State.on_rest]

@[simp] theorem execAckRx_rest {W : Touch} [W.Air] [W.Pair] [W.Mot] [W.In .sluice] (a0 : Nat) (s : State)  : Res.rest W (execAckRx a0 s) = some (s.rest W) := by
  unfold execAckRx
  dsimp only
  (repeat' split) <;> simp only [State.rxPop_rest, State.ackedFrame_rest, State.rest_air, rest_next, implies_true, State.each_rest, State.on_rest]

@[simp] theorem execAckMissing_rest {W : Touch} [W.Log] [W.Air] [W.In .sluice] (a0 : Nat) (a1 : Nat) (s : State)  : Res.rest W (execAckMissing a0 a1 s) = some (s.rest W) := by
  have ⟨_, _, _, _, _⟩ := Touch.logIns W
  rw [execAckMissing.eq_def]
  grind [State.noticeCtr_rest, State.inc_rest, State.rest_air, rest_next]

@[simp] theorem execJoinReqRx_rest {W : Touch} [W.Log] [W.Fresh] [W.Dram] [W.Tags] [W.Hg] [W.Held] [W.Air] [W.Pair] [W.Disp] [W.Ls] [W.Mot] [W.Rtk] [W.Clk] [∀ b, W.In b] (a0 : Nat) (s : State)  : Res.rest W (execJoinReqRx a0 s) = some (s.rest W) := by
  unfold execJoinReqRx
  dsimp only
  (repeat' split) <;> simp only [State.rxPop_rest, State.inc_rest, State.debugHold_rest, State.joinRx_rest, rest_next, implies_true, State.each_rest, State.on_rest]

@[simp] theorem execDownBcastEntry_rest {W : Touch} [W.VecSent] [W.Out] [W.Canal] [W.Hg] [W.Air] [W.In .airport] [W.In .canal] [W.In .flood] [W.In .frameSec] [W.In .pcie] [W.In .route] (a0 : Nat) (a1 : Nat) (s : State)  : Res.rest W (execDownBcastEntry a0 a1 s) = some (s.rest W) := by
  unfold execDownBcastEntry
  grind [State.entryRun_rest, State.setPort_rest, State.downNext_rest, State.sendBundle_rest, rest_next]

@[simp] theorem execUpEntryEnd_rest {W : Touch} [W.Log] [W.Air] [W.Pair] [W.Disp] [W.Ls] [W.Mot] [W.In .core] [W.In .dispatch] [W.In .lease] [W.In .motion] [W.In .registry] [W.In .sluice] [W.In .turnout] (a0 : Nat) (a1 : Nat) (s : State)  : Res.rest W (execUpEntryEnd a0 a1 s) = some (s.rest W) := by
  have ⟨_, _, _, _, _⟩ := Touch.logIns W
  unfold execUpEntryEnd
  simp only [State.entryRun_rest, State.missEntry_rest, rest_next, ite_self, implies_true, State.each_rest, State.on_rest, apply_ite (State.rest _), apply_ite (Res.rest _), apply_ite Prod.fst, apply_ite Prod.snd]

@[simp] theorem execRelayedFrameRx_rest {W : Touch} [W.Log] [W.Dram] [W.Air] [W.Pair] [W.Gn] [W.Disp] [W.Ls] [W.Mot] [W.Rtk] [W.Rt] [W.Clk] [W.In .airport] [W.In .core] [W.In .dispatch] [W.In .dram] [W.In .flood] [W.In .frameSec] [W.In .keep] [W.In .lease] [W.In .motion] [W.In .obsIn] [W.In .registry] [W.In .route] [W.In .rtkCtrl] [W.In .sluice] [W.In .taskboard] [W.In .turnout] (a0 : Nat) (s : State)  : Res.rest W (execRelayedFrameRx a0 s) = some (s.rest W) := by
  have ⟨_, _, _, _, _⟩ := Touch.logIns W
  unfold execRelayedFrameRx
  (repeat' (first | (refine ite_rest ?_ ?_) | (refine ite_res ?_ ?_) | split)) <;> simp only [State.rxPop_rest, State.relayRx_rest, rest_next, implies_true, State.each_rest, State.on_rest]

@[simp] theorem execRouteAgeTick_rest {W : Touch} [W.Rt] [W.In .route] (s : State)  : Res.rest W (execRouteAgeTick s) = some (s.rest W) := by
  unfold execRouteAgeTick
  simp only [State.setAge_rest, State.rest_rt, rest_next, ite_self, implies_true, State.each_rest, State.on_rest, apply_ite (State.rest _), apply_ite (Res.rest _), apply_ite Prod.fst, apply_ite Prod.snd]

@[simp] theorem execRouteScanStep_rest {W : Touch} [W.Log] [W.Dram] [W.Pair] [W.Rt] [W.Clk] [W.In .route] (s : State)  : Res.rest W (execRouteScanStep s) = some (s.rest W) := by
  have ⟨_, _, _, _, _⟩ := Touch.logIns W
  unfold execRouteScanStep
  simp only [State.inc_rest, State.setRoute_rest, State.compareShadow_rest, State.set_rest, State.shadowMode_rest, State.rest_rt, rest_next, ite_self, implies_true, State.each_rest, State.on_rest, apply_ite (State.rest _), apply_ite (Res.rest _), apply_ite Prod.fst, apply_ite Prod.snd]

@[simp] theorem execRepackComplete_rest {W : Touch} [W.Dram] [W.Tags] [W.VecSent] [W.Fq] [W.Out] [W.Canal] [W.Held] [W.Pair] [W.Rt] [W.Clk] [W.In .canal] [W.In .eth] [W.In .flume] [W.In .pcie] [W.In .route] (s : State) : Res.rest W (execRepackComplete s) = some (s.rest W) := by
  unfold execRepackComplete
  split
  · rfl
  · dsimp only
    split
    · exact congrArg some ((State.each_rest _ _ _ fun u r => State.routeHeld_rest ..).trans ((State.rest_held { s.set F.RT_STATUS_REPACK_BUSY 0 with rt := { s.rt with repack := none } } _).trans ((State.rest_rt (s.set F.RT_STATUS_REPACK_BUSY 0) _).trans
        (State.set_rest s F.RT_STATUS_REPACK_BUSY 0 0 0))))
    · exact congrArg some ((State.each_rest _ _ _ fun u r => State.routeHeld_rest ..).trans ((State.tblDone_rest ..).trans ((State.irq_rest ..).trans
        ((State.repackNow_rest ..).trans ((State.rest_held { s.set F.RT_STATUS_REPACK_BUSY 0 with rt := { s.rt with repack := none } } _).trans ((State.rest_rt (s.set F.RT_STATUS_REPACK_BUSY 0) _).trans (State.set_rest s F.RT_STATUS_REPACK_BUSY 0 0 0)))))))

@[simp] theorem execRouteEccHoldExpiry_rest {W : Touch} [W.Rt] [W.In .route] (s : State)  : Res.rest W (execRouteEccHoldExpiry s) = some (s.rest W) := by
  unfold execRouteEccHoldExpiry
  dsimp only
  (repeat' split) <;> simp only [State.shadowMode_rest, State.rest_rt, rest_next, implies_true, State.each_rest, State.on_rest]

@[simp] theorem execLearnRx_rest {W : Touch} [W.Log] [W.Dram] [W.Tags] [W.Held] [W.Pair] [W.Disp] [W.Ls] [W.Mot] [W.Rtk] [W.Clk] [∀ b, W.In b] (a0 : LearnMsg) (s : State)  : Res.rest W (execLearnRx a0 s) = some (s.rest W) := by
  unfold execLearnRx
  simp only [State.learnRx_rest, rest_next, ite_self, implies_true, State.each_rest, State.on_rest, apply_ite (State.rest _), apply_ite (Res.rest _), apply_ite Prod.fst, apply_ite Prod.snd]

@[simp] theorem execFloodSeenAge_rest {W : Touch} [W.Rt] [W.In .flood] (a0 : Nat) (a1 : Nat) (s : State)  : Res.rest W (execFloodSeenAge a0 a1 s) = some (s.rest W) := by
  unfold execFloodSeenAge
  simp only [State.seenShow_rest, State.rest_rt, rest_next, ite_self, implies_true, State.each_rest, State.on_rest, apply_ite (State.rest _), apply_ite (Res.rest _), apply_ite Prod.fst, apply_ite Prod.snd]

@[simp] theorem execBuildTimeout_rest {W : Touch} [W.Ls] [W.In .lease] [W.In .turnout] (a0 : Nat) (s : State)  : Res.rest W (execBuildTimeout a0 s) = some (s.rest W) := by
  unfold execBuildTimeout
  (repeat' split) <;> simp only [State.inc_rest, State.dropBuild_rest, rest_next, implies_true, State.each_rest, State.on_rest]

@[simp] theorem execXferDeadline_rest {W : Touch} [W.Tags] [W.VecSent] [W.Fq] [W.Out] [W.Canal] [W.Held] [W.Pair] [W.Disp] [W.Ls] [W.In .canal] [W.In .core] [W.In .dispatch] [W.In .eth] [W.In .flume] [W.In .lease] [W.In .pcie] [W.In .turnout] (a0 : Nat) (s : State)  : Res.rest W (execXferDeadline a0 s) = some (s.rest W) := by
  unfold execXferDeadline; (repeat' (first | split | intro)) <;> simp [State.abortXfer_rest, State.dropPart_rest, State.freeFurrow_rest, State.takeSeq_rest, rest_next, ite_self, implies_true, State.each_rest, State.on_rest, apply_ite (State.rest _), apply_ite (Res.rest _), apply_ite Prod.fst, apply_ite Prod.snd]

@[simp] theorem execCommittedTimeout_rest {W : Touch} [W.Log] [W.Pair] [W.Disp] [W.Ls] [W.Mot] [W.In .core] [W.In .dispatch] [W.In .lease] [W.In .motion] [W.In .turnout] (a0 : Nat) (s : State)  : Res.rest W (execCommittedTimeout a0 s) = some (s.rest W) := by
  have ⟨_, _, _, _, _⟩ := Touch.logIns W
  unfold execCommittedTimeout
  dsimp only
  (repeat' split) <;> simp only [State.sendRelease_rest, State.irq_rest, State.inc_rest, State.takeSeq_rest, State.freeFurrow_rest, State.leEvent_rest, State.motTrunc_rest, rest_next, implies_true, State.each_rest, State.on_rest]

@[simp] theorem execStepDue_rest {W : Touch} [W.Log] [W.Pair] [W.Disp] [W.Ls] [W.Mot] [W.In .core] [W.In .dispatch] [W.In .lease] [W.In .motion] [W.In .registry] [W.In .turnout] (a0 : Nat) (s : State)  : Res.rest W (execStepDue a0 s) = some (s.rest W) := by
  have ⟨_, _, _, _, _⟩ := Touch.logIns W
  unfold execStepDue
  simp only [State.stepDue_rest, rest_next, ite_self, implies_true, State.each_rest, State.on_rest, apply_ite (State.rest _), apply_ite (Res.rest _), apply_ite Prod.fst, apply_ite Prod.snd]

@[simp] theorem execReportWaitExpiry_rest {W : Touch} [W.VecSent] [W.Fq] [W.Out] [W.Canal] [W.Pair] [W.Disp] [W.In .canal] [W.In .core] [W.In .dispatch] [W.In .eth] [W.In .flume] [W.In .lease] [W.In .pcie] [W.In .registry] [W.In .turnout] (a0 : Nat) (s : State)  : Res.rest W (execReportWaitExpiry a0 s) = some (s.rest W) := by
  unfold execReportWaitExpiry
  simp only [State.toOverstay_rest, rest_next, ite_self, implies_true, State.each_rest, State.on_rest, apply_ite (State.rest _), apply_ite (Res.rest _), apply_ite Prod.fst, apply_ite Prod.snd]

@[simp] theorem execLostClr_rest {W : Touch} [W.In .lease] (a0 : Src) (s : State)  : Res.rest W (execLostClr a0 s) = some (s.rest W) := by
  unfold execLostClr
  simp only [State.lostClr_rest, rest_next, ite_self, implies_true, State.each_rest, State.on_rest, apply_ite (State.rest _), apply_ite (Res.rest _), apply_ite Prod.fst, apply_ite Prod.snd]

@[simp] theorem execOwnerForfeit_rest {W : Touch} [W.Log] [W.Tags] [W.Held] [W.Pair] [W.Disp] [W.Ls] [W.Mot] [∀ b, W.In b] (a0 : Nat) (s : State)  : Res.rest W (execOwnerForfeit a0 s) = some (s.rest W) := by
  unfold execOwnerForfeit
  simp only [State.forfeit_rest, rest_next, ite_self, implies_true, State.each_rest, State.on_rest, apply_ite (State.rest _), apply_ite (Res.rest _), apply_ite Prod.fst, apply_ite Prod.snd]

@[simp] theorem execHostGenBump_rest {W : Touch} [W.Log] [W.Tags] [W.Held] [W.Arb] [W.Lk] [W.Pair] [W.Disp] [W.Ls] [W.Mot] [∀ b, W.In b] (s : State)  : Res.rest W (execHostGenBump s) = some (s.rest W) := by
  unfold execHostGenBump
  simp only [State.hostBump_rest, rest_next, ite_self, implies_true, State.each_rest, State.on_rest, apply_ite (State.rest _), apply_ite (Res.rest _), apply_ite Prod.fst, apply_ite Prod.snd]

@[simp] theorem execTlockStart_rest {W : Touch} [W.VecSent] [W.Fq] [W.Out] [W.Canal] [W.Pair] [W.Disp] [W.In .canal] [W.In .core] [W.In .dispatch] [W.In .eth] [W.In .flume] [W.In .lease] [W.In .pcie] [W.In .registry] [W.In .turnout] (a0 : Nat) (s : State)  : Res.rest W (execTlockStart a0 s) = some (s.rest W) := by
  unfold execTlockStart
  simp only [State.lockFollow_rest, State.turnShow_rest, State.leSet_rest, State.blockOwner_rest, rest_next, ite_self, implies_true, State.each_rest, State.on_rest, apply_ite (State.rest _), apply_ite (Res.rest _), apply_ite Prod.fst, apply_ite Prod.snd]

@[simp] theorem execTlockEnd_rest {W : Touch} [W.Pair] [W.In .lease] [W.In .turnout] (a0 : Nat) (s : State)  : Res.rest W (execTlockEnd a0 s) = some (s.rest W) := by
  unfold execTlockEnd
  simp only [State.turnShow_rest, State.leSet_rest, State.leaseShow_rest, State.freeLock_rest, State.takeSeq_rest, rest_next, ite_self, implies_true, State.each_rest, State.on_rest, apply_ite (State.rest _), apply_ite (Res.rest _), apply_ite Prod.fst, apply_ite Prod.snd]

@[simp] theorem execSeqTimeout_rest {W : Touch} [W.VecSent] [W.Out] [W.Ls] [W.In .pcie] [W.In .turnout] (a0 : Nat) (s : State)  : Res.rest W (execSeqTimeout a0 s) = some (s.rest W) := by
  fun_cases execSeqTimeout <;> simp only [State.seqExpire_rest, rest_next, implies_true, State.each_rest, State.on_rest]

@[simp] theorem execNoPositionTimeout_rest {W : Touch} [W.VecSent] [W.Fq] [W.Out] [W.Canal] [W.Pair] [W.Disp] [W.In .canal] [W.In .core] [W.In .dispatch] [W.In .eth] [W.In .flume] [W.In .pcie] [W.In .registry] (a0 : Nat) (s : State)  : Res.rest W (execNoPositionTimeout a0 s) = some (s.rest W) := by
  unfold execNoPositionTimeout
  simp only [State.regCounts_rest, State.holdMember_rest, rest_next, ite_self, implies_true, State.each_rest, State.on_rest, apply_ite (State.rest _), apply_ite (Res.rest _), apply_ite Prod.fst, apply_ite Prod.snd]

@[simp] theorem execStopInputFiltered_rest {W : Touch} [W.Log] [W.Hg] [W.In .headgate] (a0 : Nat) (a1 : Bool) (s : State)  : Res.rest W (execStopInputFiltered a0 a1 s) = some (s.rest W) := by
  have ⟨_, _, _, _, _⟩ := Touch.logIns W
  unfold execStopInputFiltered
  simp only [State.set_rest, State.raiseCause_rest, State.armCheck_rest, State.rest_hg, rest_next, ite_self, implies_true, State.each_rest, State.on_rest, apply_ite (State.rest _), apply_ite (Res.rest _), apply_ite Prod.fst, apply_ite Prod.snd]

@[simp] theorem execDiscrepancy_rest {W : Touch} [W.Log] [W.Hg] [W.In .headgate] (s : State)  : Res.rest W (execDiscrepancy s) = some (s.rest W) := by
  have ⟨_, _, _, _, _⟩ := Touch.logIns W
  unfold execDiscrepancy
  dsimp only
  (repeat' split) <;> simp only [State.irq_rest, State.inc_rest, State.raiseCause_rest, State.rest_hg, rest_next, implies_true, State.each_rest, State.on_rest]

@[simp] theorem execBurstFrame_rest {W : Touch} [W.Out] [W.Hg] [W.Air] [W.In .airport] [W.In .headgate] [W.In .sluice] (s : State)  : Res.rest W (execBurstFrame s) = some (s.rest W) := by
  unfold execBurstFrame
  simp only [State.burstPort_rest, rest_next, ite_self, implies_true, State.each_rest, State.on_rest, apply_ite (State.rest _), apply_ite (Res.rest _), apply_ite Prod.fst, apply_ite Prod.snd]

@[simp] theorem execHgBeacon_rest {W : Touch} [W.VecSent] [W.Out] [W.Hg] [W.Air] [W.In .airport] [W.In .frameSec] [W.In .headgate] [W.In .pcie] (a0 : Nat) (s : State)  : Res.rest W (execHgBeacon a0 s) = some (s.rest W) := by
  unfold execHgBeacon
  simp only [State.inc_rest, State.takeNums_rest, State.ppduAt_rest, State.airEmit_rest, State.rest_air, rest_next, ite_self, implies_true, State.each_rest, State.on_rest, apply_ite (State.rest _), apply_ite (Res.rest _), apply_ite Prod.fst, apply_ite Prod.snd]

@[simp] theorem execHgKeyLoad_rest {W : Touch} [W.Hg] [W.In .headgate] (s : State)  : Res.rest W (execHgKeyLoad s) = some (s.rest W) := by
  unfold execHgKeyLoad
  simp only [State.hgLoadKey_rest, rest_next, ite_self, implies_true, State.each_rest, State.on_rest, apply_ite (State.rest _), apply_ite (Res.rest _), apply_ite Prod.fst, apply_ite Prod.snd]

@[simp] theorem execCanalStopRx_rest {W : Touch} [W.Log] [W.Hg] [W.In .headgate] (a0 : Nat) (a1 : Nat) (a2 : Nat) (a3 : StopMsg) (s : State)  : Res.rest W (execCanalStopRx a0 a1 a2 a3 s) = some (s.rest W) := by
  have ⟨_, _, _, _, _⟩ := Touch.logIns W
  unfold execCanalStopRx
  simp only [State.stopRx_rest, rest_next, ite_self, implies_true, State.each_rest, State.on_rest, apply_ite (State.rest _), apply_ite (Res.rest _), apply_ite Prod.fst, apply_ite Prod.snd]

@[simp] theorem execOutputTestPulse_rest {W : Touch} [W.Out] [W.Hg] (a0 : Bool) (s : State)  : Res.rest W (execOutputTestPulse a0 s) = some (s.rest W) := by
  unfold execOutputTestPulse
  simp only [State.emit_rest, State.rest_hg, rest_next, ite_self, implies_true, State.each_rest, State.on_rest, apply_ite (State.rest _), apply_ite (Res.rest _), apply_ite Prod.fst, apply_ite Prod.snd]

@[simp] theorem execOutputReadbackError_rest {W : Touch} [W.Level] [W.Fresh] [W.Air] [W.Arb] [W.In .airport] [W.In .pair] [W.In .regionCtl] (a0 : Bool) (s : State)  : Res.rest W (execOutputReadbackError a0 s) = some (s.rest W) := by
  have ⟨_, _, _, _, _, _, _, _, _, _, _, _⟩ := Touch.levelIns W
  unfold execOutputReadbackError
  simp only [State.set_rest, State.blockError_rest, rest_next, ite_self, implies_true, State.each_rest, State.on_rest, apply_ite (State.rest _), apply_ite (Res.rest _), apply_ite Prod.fst, apply_ite Prod.snd]

@[simp] theorem execResumeArm_rest {W : Touch} [W.Fresh] [W.VecSent] [W.Out] [W.Hg] [W.In .headgate] [W.In .pcie] (s : State)  : Res.rest W (execResumeArm s) = some (s.rest W) := by
  unfold execResumeArm
  simp only [State.resumeArm_rest, rest_next, ite_self, implies_true, State.each_rest, State.on_rest, apply_ite (State.rest _), apply_ite (Res.rest _), apply_ite Prod.fst, apply_ite Prod.snd]

@[simp] theorem execResumeRelease_rest {W : Touch} [W.Log] [W.Hg] [W.Dbg] [W.In .headgate] (a0 : Nat) (s : State)  : Res.rest W (execResumeRelease a0 s) = some (s.rest W) := by
  have ⟨_, _, _, _, _⟩ := Touch.logIns W
  unfold execResumeRelease
  simp only [State.resumeRelease_rest, rest_next, ite_self, implies_true, State.each_rest, State.on_rest, apply_ite (State.rest _), apply_ite (Res.rest _), apply_ite Prod.fst, apply_ite Prod.snd]

@[simp] theorem execArmWindowExpiry_rest {W : Touch} [W.Hg] [W.In .headgate] (s : State)  : Res.rest W (execArmWindowExpiry s) = some (s.rest W) := by
  fun_cases execArmWindowExpiry <;> simp only [State.disarm_rest, rest_next, implies_true, State.each_rest, State.on_rest]

@[simp] theorem execHgSelftest_rest {W : Touch} [W.Level] [W.Fresh] [W.Air] [W.Arb] [W.In .airport] [W.In .pair] [W.In .regionCtl] (a0 : Bool) (s : State)  : Res.rest W (execHgSelftest a0 s) = some (s.rest W) := by
  have ⟨_, _, _, _, _, _, _, _, _, _, _, _⟩ := Touch.levelIns W
  unfold execHgSelftest
  simp only [State.inc_rest, State.blockError_rest, State.rest_hg, rest_next, ite_self, implies_true, State.each_rest, State.on_rest, apply_ite (State.rest _), apply_ite (Res.rest _), apply_ite Prod.fst, apply_ite Prod.snd]

@[simp] theorem execHgPowerOn_rest {W : Touch} [W.Level] [W.Fresh] [W.Sup] [W.Air] [W.Arb] [W.In .airport] [W.In .pair] [W.In .regionCtl] (ok : Bool) (s : State) : Res.rest W (execHgPowerOn ok s) = some (s.rest W) := by
  have ⟨_, _, _, _, _, _, _, _, _, _, _, _⟩ := Touch.levelIns W
  unfold execHgPowerOn
  refine congrArg some ?_
  have h : ∀ t : State, (((t.inc C.HEADGATE_SELFTEST_RUNS).goState pHG stStarting).goState pHG stOn).rest W = t.rest W := fun t =>
    (State.goState_rest ..).trans ((State.goState_rest ..).trans (State.inc_rest ..))
  refine ite_rest ((h _).trans ?_) ((State.blockError_rest ..).trans ((h _).trans ?_)) <;>
  exact State.rest_hgclear s _ _

@[simp] theorem execDpTake_rest {W : Touch} [W.VecSent] [W.Fq] [W.Out] [W.Canal] [W.Disp] [W.In .canal] [W.In .core] [W.In .dispatch] [W.In .eth] [W.In .flume] [W.In .pcie] (core : Nat) (s : State) : Res.rest W (execDpTake core s) = some (s.rest W) := by
  unfold execDpTake
  dsimp only
  split
  · simp only [rest_next, State.emit_rest]
  · split
    · rename_i h _
      have ht := State.choose_rest (W := W) s _ _ h
      simp only [rest_next, State.emit_rest, State.traceItem_rest, State.intoCtx_rest]; rw [ht]
    · simp only [rest_next, State.emit_rest]

@[simp] theorem execItemDone_rest {W : Touch} [W.VecSent] [W.Fq] [W.Out] [W.Canal] [W.Air] [W.Disp] [W.In .canal] [W.In .core] [W.In .dispatch] [W.In .eth] [W.In .flume] [W.In .pcie] (a0 : Nat) (a1 : Nat) (s : State)  : Res.rest W (execItemDone a0 a1 s) = some (s.rest W) := by
  unfold execItemDone
  dsimp only
  (repeat' split) <;> simp only [State.traceItem_rest, State.inc_rest, State.setItem_rest, State.releaseFlow_rest, State.endCtx_rest, State.resumed_rest, rest_next, implies_true, State.each_rest, State.on_rest]

@[simp] theorem execEmitCmd_rest {W : Touch} [W.Disp] [W.In .dispatch] (a0 : Nat) (a1 : Nat) (a2 : Nat) (a3 : Nat) (a4 : Nat) (a5 : Nat) (a6 : List Nat) (s : State)  : Res.rest W (execEmitCmd a0 a1 a2 a3 a4 a5 a6 s) = some (s.rest W) := by
  unfold execEmitCmd
  dsimp only
  (repeat' split) <;> simp only [State.emitResult_rest, State.dispShow_rest, State.setItem_rest, rest_next, implies_true, State.each_rest, State.on_rest]

@[simp] theorem execItemTimeout_rest {W : Touch} [W.Log] [W.Tags] [W.Held] [W.Air] [W.Pair] [W.Disp] [W.Ls] [W.Mot] [∀ b, W.In b] (a0 : Nat) (a1 : Nat) (s : State)  : Res.rest W (execItemTimeout a0 a1 s) = some (s.rest W) := by
  unfold execItemTimeout
  dsimp only
  (repeat' split) <;> simp only [State.emit_rest, State.abortItem_rest, rest_next, implies_true, State.each_rest, State.on_rest]

@[simp] theorem execTimerFire_rest {W : Touch} [W.VecSent] [W.Fq] [W.Out] [W.Canal] [W.Pair] [W.Disp] [W.In .canal] [W.In .core] [W.In .dispatch] [W.In .eth] [W.In .flume] [W.In .pcie] (a0 : Nat) (s : State)  : Res.rest W (execTimerFire a0 s) = some (s.rest W) := by
  unfold execTimerFire
  grind [State.offer_rest, State.inc_rest, State.setTe_rest, rest_next]

@[simp] theorem execTraceSync_rest {W : Touch} [W.VecSent] [W.Fq] [W.Out] [W.Canal] [W.Disp] [W.In .canal] [W.In .dispatch] [W.In .eth] [W.In .flume] [W.In .pcie] (s : State)  : Res.rest W (execTraceSync s) = some (s.rest W) := by
  unfold execTraceSync
  simp only [State.traceRec_rest, State.rest_disp, rest_next, ite_self, implies_true, State.each_rest, State.on_rest, apply_ite (State.rest _), apply_ite (Res.rest _), apply_ite Prod.fst, apply_ite Prod.snd]

@[simp] theorem execTaskDeadline_rest {W : Touch} [W.VecSent] [W.Fq] [W.Out] [W.Canal] [W.Pair] [W.Disp] [W.In .canal] [W.In .core] [W.In .dispatch] [W.In .eth] [W.In .flume] [W.In .pcie] [W.In .taskboard] (a0 : Nat) (s : State)  : Res.rest W (execTaskDeadline a0 s) = some (s.rest W) := by
  unfold execTaskDeadline
  simp only [State.taskDeadline_rest, rest_next, ite_self, implies_true, State.each_rest, State.on_rest, apply_ite (State.rest _), apply_ite (Res.rest _), apply_ite Prod.fst, apply_ite Prod.snd]

@[simp] theorem execChargeEnergyTick_rest {W : Touch} [W.VecSent] [W.Fq] [W.Out] [W.Canal] [W.Pair] [W.Disp] [W.In .canal] [W.In .core] [W.In .dispatch] [W.In .eth] [W.In .flume] [W.In .pcie] [W.In .taskboard] (s : State)  : Res.rest W (execChargeEnergyTick s) = some (s.rest W) := by
  unfold execChargeEnergyTick
  simp only [State.chargeTick_rest, State.rest_disp, rest_next, ite_self, implies_true, State.each_rest, State.on_rest, apply_ite (State.rest _), apply_ite (Res.rest _), apply_ite Prod.fst, apply_ite Prod.snd]

@[simp] theorem execArbRequest_rest {W : Touch} [W.VecSent] [W.Out] [W.Arb] [W.In .pcie] [W.In .regionCtl] (a0 : Nat) (a1 : Nat) (a2 : Nat) (a3 : Bool) (a4 : Option Page) (s : State)  : Res.rest W (execArbRequest a0 a1 a2 a3 a4 s) = some (s.rest W) := by
  unfold execArbRequest
  simp only [State.incP_rest, State.emit_rest, State.arbSettle_rest, State.setArb_rest, State.arbShow_rest, State.arbDecide_rest, rest_next, ite_self, implies_true, State.each_rest, State.on_rest, apply_ite (State.rest _), apply_ite (Res.rest _), apply_ite Prod.fst, apply_ite Prod.snd]

@[simp] theorem execArbGrantEnd_rest {W : Touch} [W.VecSent] [W.Out] [W.Arb] [W.In .pcie] [W.In .regionCtl] (a0 : Nat) (s : State)  : Res.rest W (execArbGrantEnd a0 s) = some (s.rest W) := by
  unfold execArbGrantEnd
  grind [State.arbSettle_rest, State.arbDecide_rest, State.arbShow_rest, State.setArb_rest, rest_next]

@[simp] theorem execArbWithdraw_rest {W : Touch} [W.VecSent] [W.Out] [W.Arb] [W.In .pcie] [W.In .regionCtl] (a0 : Nat) (a1 : Nat) (a2 : Option Nat) (s : State)  : Res.rest W (execArbWithdraw a0 a1 a2 s) = some (s.rest W) := by
  unfold execArbWithdraw
  dsimp only
  (repeat' split) <;> simp only [State.arbSettle_rest, State.arbShow_rest, State.setArb_rest, State.incP_rest, rest_next, implies_true, State.each_rest, State.on_rest]

@[simp] theorem execQuotaWindow_rest {W : Touch} [W.VecSent] [W.Out] [W.Arb] [W.In .pcie] [W.In .regionCtl] (a0 : Nat) (s : State)  : Res.rest W (execQuotaWindow a0 s) = some (s.rest W) := by
  unfold execQuotaWindow
  simp only [State.arbSettle_rest, State.arbShow_rest, State.setArb_rest, rest_next, ite_self, implies_true, State.each_rest, State.on_rest, apply_ite (State.rest _), apply_ite (Res.rest _), apply_ite Prod.fst, apply_ite Prod.snd]

@[simp] theorem execFreezeWrite_rest {W : Touch} [W.VecSent] [W.Out] [W.Arb] [W.In .pcie] [W.In .regionCtl] (a0 : Nat) (a1 : Src) (a2 : Bool) (s : State)  : Res.rest W (execFreezeWrite a0 a1 a2 s) = some (s.rest W) := by
  unfold execFreezeWrite
  simp only [State.freezeWrite_rest, rest_next, ite_self, implies_true, State.each_rest, State.on_rest, apply_ite (State.rest _), apply_ite (Res.rest _), apply_ite Prod.fst, apply_ite Prod.snd]

@[simp] theorem execFreezeTimeout_rest {W : Touch} [W.Log] [W.Arb] [W.In .regionCtl] (a0 : Nat) (s : State)  : Res.rest W (execFreezeTimeout a0 s) = some (s.rest W) := by
  have ⟨_, _, _, _, _⟩ := Touch.logIns W
  fun_cases execFreezeTimeout <;> simp only [State.arbThaw_rest, State.notice_rest, State.incP_rest, rest_next, implies_true, State.each_rest, State.on_rest]

@[simp] theorem execLwClr_rest {W : Touch} [W.Arb] (a0 : Nat) (a1 : Nat) (s : State)  : Res.rest W (execLwClr a0 a1 s) = some (s.rest W) := by
  unfold execLwClr
  simp only [State.lwClr_rest, rest_next, ite_self, implies_true, State.each_rest, State.on_rest, apply_ite (State.rest _), apply_ite (Res.rest _), apply_ite Prod.fst, apply_ite Prod.snd]

@[simp] theorem execPcieLinkDown_rest {W : Touch} [W.Log] [W.Tags] [W.VecMask] [W.Held] [W.Arb] [W.Lk] [W.Pair] [W.Disp] [W.Ls] [W.Mot] [∀ b, W.In b] (a0 : Bool) (s : State)  : Res.rest W (execPcieLinkDown a0 s) = some (s.rest W) := by
  unfold execPcieLinkDown
  simp only [State.pcieDown_rest, State.hostBump_rest, State.pcieReset_rest, rest_next, ite_self, implies_true, State.each_rest, State.on_rest, apply_ite (State.rest _), apply_ite (Res.rest _), apply_ite Prod.fst, apply_ite Prod.snd]

@[simp] theorem execPcieFlr_rest {W : Touch} [W.Log] [W.Tags] [W.VecMask] [W.Held] [W.Arb] [W.Lk] [W.Pair] [W.Disp] [W.Ls] [W.Mot] [∀ b, W.In b] (s : State)  : Res.rest W (execPcieFlr s) = some (s.rest W) := by
  unfold execPcieFlr
  simp only [State.set_rest, State.hostBump_rest, State.inc_rest, State.rest_vecMask, rest_next, ite_self, implies_true, State.each_rest, State.on_rest, apply_ite (State.rest _), apply_ite (Res.rest _), apply_ite Prod.fst, apply_ite Prod.snd]

@[simp] theorem execFlumeFrameRx_rest {W : Touch} [W.Level] [W.Fresh] [W.Dram] [W.Tags] [W.Held] [W.Air] [W.Arb] [W.Lk] [W.Tm] [W.Ls] [W.Mot] [W.Rt] [W.Clk] [W.Key] [W.Boot] [∀ b, W.In b] (a0 : Nat) (a1 : EthFrame) (a2 : ImgSeen) (s : State)  : Res.rest W (execFlumeFrameRx a0 a1 a2 s) = some (s.rest W) := by
  unfold execFlumeFrameRx
  simp only [State.flumeIn_rest, State.inc_rest, State.ethTake_rest, State.xoff_rest, State.setEth_rest, State.flumePort_rest, State.ethDrain_rest, rest_next, ite_self, implies_true, State.each_rest, State.on_rest, apply_ite (State.rest _), apply_ite (Res.rest _), apply_ite Prod.fst, apply_ite Prod.snd]

@[simp] theorem execCreditRx_rest {W : Touch} [W.VecSent] [W.Fq] [W.Out] [W.Canal] [W.Air] [W.Lk] [W.Disp] [W.In .canal] [W.In .core] [W.In .dispatch] [W.In .eth] [W.In .flume] [W.In .pcie] (a0 : Nat) (a1 : Nat) (a2 : List Credit) (s : State)  : Res.rest W (execCreditRx a0 a1 a2 s) = some (s.rest W) := by
  unfold execCreditRx
  simp only [State.inc_rest, State.creditRx_rest, rest_next, ite_self, implies_true, State.each_rest, State.on_rest, apply_ite (State.rest _), apply_ite (Res.rest _), apply_ite Prod.fst, apply_ite Prod.snd]

@[simp] theorem execFlumeFlush_rest {W : Touch} [W.Fq] [W.Out] [W.Canal] [W.In .canal] [W.In .eth] [W.In .flume] (a0 : Nat) (s : State)  : Res.rest W (execFlumeFlush a0 s) = some (s.rest W) := by
  unfold execFlumeFlush
  simp only [State.markStall_rest, State.qPump_rest, State.setQ_rest, rest_next, ite_self, implies_true, State.each_rest, State.on_rest, apply_ite (State.rest _), apply_ite (Res.rest _), apply_ite Prod.fst, apply_ite Prod.snd]

@[simp] theorem execFlumeRetxTimeout_rest {W : Touch} [W.Fq] [W.Out] [W.Canal] [W.In .canal] [W.In .eth] [W.In .flume] (a0 : Nat) (s : State)  : Res.rest W (execFlumeRetxTimeout a0 s) = some (s.rest W) := by
  unfold execFlumeRetxTimeout
  simp only [State.setQ_rest, State.sendFrame_rest, rest_next, ite_self, implies_true, State.each_rest, State.on_rest, apply_ite (State.rest _), apply_ite (Res.rest _), apply_ite Prod.fst, apply_ite Prod.snd]

@[simp] theorem execCreditSend_rest {W : Touch} [W.Fq] [W.Out] [W.Canal] [W.Lk] [W.In .canal] [W.In .eth] (s : State)  : Res.rest W (execCreditSend s) = some (s.rest W) := by
  unfold execCreditSend
  simp only [State.sendCredit_rest, rest_next, ite_self, implies_true, State.each_rest, State.on_rest, apply_ite (State.rest _), apply_ite (Res.rest _), apply_ite Prod.fst, apply_ite Prod.snd]

@[simp] theorem execHostTimeout_rest {W : Touch} [W.VecSent] [W.Out] [W.In .flume] [W.In .pcie] (s : State)  : Res.rest W (execHostTimeout s) = some (s.rest W) := by
  unfold execHostTimeout
  simp only [State.irq_rest, State.set_rest, rest_next, ite_self, implies_true, State.each_rest, State.on_rest, apply_ite (State.rest _), apply_ite (Res.rest _), apply_ite Prod.fst, apply_ite Prod.snd]

@[simp] theorem execFlumeStall_rest {W : Touch} [W.VecSent] [W.Fq] [W.Out] [W.In .pcie] (a0 : Nat) (s : State)  : Res.rest W (execFlumeStall a0 s) = some (s.rest W) := by
  unfold execFlumeStall
  dsimp only
  (repeat' split) <;> simp only [State.markStall_rest, State.setQ_rest, State.qevent_rest, rest_next, implies_true, State.each_rest, State.on_rest]

@[simp] theorem execQevClr_rest {W : Touch} [W.Fq] (a0 : Nat) (s : State)  : Res.rest W (execQevClr a0 s) = some (s.rest W) := by
  unfold execQevClr
  simp only [State.qevClr_rest, rest_next, ite_self, implies_true, State.each_rest, State.on_rest, apply_ite (State.rest _), apply_ite (Res.rest _), apply_ite Prod.fst, apply_ite Prod.snd]

@[simp] theorem execPfcRx_rest {W : Touch} [W.Fq] [W.Out] [W.Canal] [W.Lk] [W.In .canal] [W.In .eth] [W.In .flume] (a0 : Nat) (a1 : Nat) (a2 : List Nat) (s : State)  : Res.rest W (execPfcRx a0 a1 a2 s) = some (s.rest W) := by
  unfold execPfcRx
  simp only [State.inc_rest, State.pfcPrio_rest, rest_next, ite_self, implies_true, State.each_rest, State.on_rest, apply_ite (State.rest _), apply_ite (Res.rest _), apply_ite Prod.fst, apply_ite Prod.snd]

@[simp] theorem execPfcXoffRepeat_rest {W : Touch} [W.Level] [W.Fresh] [W.Dram] [W.Tags] [W.Held] [W.Air] [W.Arb] [W.Lk] [W.Tm] [W.Ls] [W.Mot] [W.Rt] [W.Clk] [W.Key] [W.Boot] [∀ b, W.In b] (a0 : Nat) (s : State)  : Res.rest W (execPfcXoffRepeat a0 s) = some (s.rest W) := by
  unfold execPfcXoffRepeat
  simp only [State.xoff_rest, State.ethDrain_rest, rest_next, ite_self, implies_true, State.each_rest, State.on_rest, apply_ite (State.rest _), apply_ite (Res.rest _), apply_ite Prod.fst, apply_ite Prod.snd]

@[simp] theorem execEthLinkChange_rest {W : Touch} [W.VecSent] [W.Fq] [W.Out] [W.Canal] [W.In .canal] [W.In .eth] [W.In .flume] [W.In .pcie] (a0 : Nat) (a1 : Bool) (a2 : Bool) (s : State)  : Res.rest W (execEthLinkChange a0 a1 a2 s) = some (s.rest W) := by
  unfold execEthLinkChange
  simp only [State.ethLink_rest, rest_next, ite_self, implies_true, State.each_rest, State.on_rest, apply_ite (State.rest _), apply_ite (Res.rest _), apply_ite Prod.fst, apply_ite Prod.snd]

@[simp] theorem execCanalTrained_rest {W : Touch} [W.Log] [W.In .pair] (a0 : Nat) (a1 : Hello) (a2 : Bool) (s : State)  : Res.rest W (execCanalTrained a0 a1 a2 s) = some (s.rest W) := by
  have ⟨_, _, _, _, _⟩ := Touch.logIns W
  unfold execCanalTrained
  simp only [State.set_rest, State.irq_rest, State.inc_rest, State.setCport_rest, State.mapLink_rest, State.ctrlOut_rest, State.roleCheck_rest, State.enumStart_rest, rest_next, ite_self, implies_true, State.each_rest, State.on_rest, apply_ite (State.rest _), apply_ite (Res.rest _), apply_ite Prod.fst, apply_ite Prod.snd]

@[simp] theorem execCanalTrainTimeout_rest {W : Touch} [W.Out] [W.Canal] [W.In .canal] (a0 : Nat) (s : State)  : Res.rest W (execCanalTrainTimeout a0 s) = some (s.rest W) := by
  unfold execCanalTrainTimeout
  simp only [State.canalTrain_rest, State.inc_rest, rest_next, ite_self, implies_true, State.each_rest, State.on_rest, apply_ite (State.rest _), apply_ite (Res.rest _), apply_ite Prod.fst, apply_ite Prod.snd]

@[simp] theorem execCanalLinkFail_rest {W : Touch} [W.VecSent] [W.Out] [W.Canal] [W.In .canal] [W.In .pcie] (a0 : Nat) (a1 : Bool) (s : State)  : Res.rest W (execCanalLinkFail a0 a1 s) = some (s.rest W) := by
  unfold execCanalLinkFail
  simp only [State.canalLeave_rest, rest_next, ite_self, implies_true, State.each_rest, State.on_rest, apply_ite (State.rest _), apply_ite (Res.rest _), apply_ite Prod.fst, apply_ite Prod.snd]

@[simp] theorem execCanalReplayTimeout_rest {W : Touch} [W.Out] [W.Canal] [W.In .canal] (a0 : Nat) (s : State)  : Res.rest W (execCanalReplayTimeout a0 s) = some (s.rest W) := by
  unfold execCanalReplayTimeout
  simp only [State.inc_rest, State.emit_rest, State.setCport_rest, rest_next, ite_self, implies_true, State.each_rest, State.on_rest, apply_ite (State.rest _), apply_ite (Res.rest _), apply_ite Prod.fst, apply_ite Prod.snd]

@[simp] theorem execTimeMessageRx_rest {W : Touch} [W.Out] [W.Canal] [W.Tm] [W.In .canal] (a0 : Nat) (a1 : Nat) (a2 : Nat) (a3 : Nat) (a4 : Nat) (a5 : Nat) (a6 : Nat) (a7 : Nat) (a8 : Nat) (a9 : Nat) (a10 : Nat) (s : State)  : Res.rest W (execTimeMessageRx a0 a1 a2 a3 a4 a5 a6 a7 a8 a9 a10 s) = some (s.rest W) := by
  unfold execTimeMessageRx
  simp only [State.inc_rest, State.canalHeard_rest, State.canalOut_rest, State.rest_tm, rest_next, ite_self, implies_true, State.each_rest, State.on_rest, apply_ite (State.rest _), apply_ite (Res.rest _), apply_ite Prod.fst, apply_ite Prod.snd]

@[simp] theorem execCanalMessageRx_rest {W : Touch} [W.All] [∀ b, W.In b] (a0 : Nat) (a1 : CanalMsg) (a2 : WrExt) (s : State)  : Res.rest W (execCanalMessageRx a0 a1 a2 s) = some (s.rest W) := by
  unfold execCanalMessageRx
  dsimp only
  (repeat' split) <;> simp only [State.flitsFreed_rest, State.stopRx_rest, execTimeMessageRx_rest, State.canalHeard_rest, State.inc_rest, State.learnRx_rest, State.canalOut_rest, State.deliver_rest, State.onward_rest, rest_next, implies_true, State.each_rest, State.on_rest]

@[simp] theorem execEnumRx_rest {W : Touch} [W.Log] (a0 : Nat) (a1 : Nat) (a2 : Bool) (s : State)  : Res.rest W (execEnumRx a0 a1 a2 s) = some (s.rest W) := by
  have ⟨_, _, _, _, _⟩ := Touch.logIns W
  unfold execEnumRx
  simp only [State.set_rest, State.ringShow_rest, State.ringMismatch_rest, State.enumOn_rest, State.learnPositions_rest, State.offerNumber_rest, State.rest_canal, rest_next, ite_self, implies_true, State.each_rest, State.on_rest, apply_ite (State.rest _), apply_ite (Res.rest _), apply_ite Prod.fst, apply_ite Prod.snd]

@[simp] theorem execEnumTimeout_rest {W : Touch} [W.Out] [W.Canal] [W.In .canal] (s : State)  : Res.rest W (execEnumTimeout s) = some (s.rest W) := by
  unfold execEnumTimeout
  dsimp only
  (repeat' split) <;> simp only [State.ctrlOut_rest, State.rest_canal, rest_next, implies_true, State.each_rest, State.on_rest]

@[simp] theorem execRingNoticeRx_rest {W : Touch} [W.VecSent] [W.Out] [W.Canal] [W.In .canal] [W.In .pcie] (a0 : Nat) (a1 : Nat) (a2 : Bool) (s : State)  : Res.rest W (execRingNoticeRx a0 a1 a2 s) = some (s.rest W) := by
  unfold execRingNoticeRx
  simp only [State.mapLink_rest, State.irq_rest, State.ctrlOut_rest, State.enumStart_rest, rest_next, ite_self, implies_true, State.each_rest, State.on_rest, apply_ite (State.rest _), apply_ite (Res.rest _), apply_ite Prod.fst, apply_ite Prod.snd]

@[simp] theorem execIsland_rest {W : Touch} [W.Log] [W.Hg] [W.In .headgate] (s : State)  : Res.rest W (execIsland s) = some (s.rest W) := by
  have ⟨_, _, _, _, _⟩ := Touch.logIns W
  unfold execIsland
  simp only [State.notice_rest, State.inc_rest, State.set_rest, State.raiseCause_rest, rest_next, ite_self, implies_true, State.each_rest, State.on_rest, apply_ite (State.rest _), apply_ite (Res.rest _), apply_ite Prod.fst, apply_ite Prod.snd]

@[simp] theorem execDelayReq_rest {W : Touch} [W.Out] [W.Canal] [W.In .canal] (a0 : Nat) (s : State)  : Res.rest W (execDelayReq a0 s) = some (s.rest W) := by
  unfold execDelayReq
  simp only [State.ctrlOut_rest, State.setCport_rest, rest_next, ite_self, implies_true, State.each_rest, State.on_rest, apply_ite (State.rest _), apply_ite (Res.rest _), apply_ite Prod.fst, apply_ite Prod.snd]

@[simp] theorem execDelayRespRx_rest {W : Touch} [W.Canal] [W.In .canal] (a0 : Nat) (a1 : Nat) (a2 : Nat) (a3 : Nat) (s : State)  : Res.rest W (execDelayRespRx a0 a1 a2 a3 s) = some (s.rest W) := by
  unfold execDelayRespRx
  simp only [State.setCport_rest, State.set_rest, rest_next, ite_self, implies_true, State.each_rest, State.on_rest, apply_ite (State.rest _), apply_ite (Res.rest _), apply_ite Prod.fst, apply_ite Prod.snd]

@[simp] theorem execTimeMessageSend_rest {W : Touch} [W.Out] [W.Canal] [W.In .canal] (s : State)  : Res.rest W (execTimeMessageSend s) = some (s.rest W) := by
  unfold execTimeMessageSend
  simp only [State.canalBroadcast_rest, State.rest_canal, rest_next, ite_self, implies_true, State.each_rest, State.on_rest, apply_ite (State.rest _), apply_ite (Res.rest _), apply_ite Prod.fst, apply_ite Prod.snd]

@[simp] theorem execPeerAlivePulse_rest {W : Touch} [W.Out] [W.Pair] [W.In .pair] (s : State)  : Res.rest W (execPeerAlivePulse s) = some (s.rest W) := by
  unfold execPeerAlivePulse
  simp only [State.readyShow_rest, State.emit_rest, State.rest_pair, rest_next, ite_self, implies_true, State.each_rest, State.on_rest, apply_ite (State.rest _), apply_ite (Res.rest _), apply_ite Prod.fst, apply_ite Prod.snd]

@[simp] theorem execPeerPulseRx_rest {W : Touch} [W.Log] [W.Pair] [W.In .pair] (a0 : Nat) (s : State)  : Res.rest W (execPeerPulseRx a0 s) = some (s.rest W) := by
  have ⟨_, _, _, _, _⟩ := Touch.logIns W
  unfold execPeerPulseRx
  grind [State.setPeer_rest, State.rest_pair, rest_next]

@[simp] theorem execPeerPulseMissed_rest {W : Touch} [W.Log] [W.Pair] [W.In .pair] (s : State)  : Res.rest W (execPeerPulseMissed s) = some (s.rest W) := by
  have ⟨_, _, _, _, _⟩ := Touch.logIns W
  unfold execPeerPulseMissed
  simp only [State.setPeer_rest, State.inc_rest, rest_next, ite_self, implies_true, State.each_rest, State.on_rest, apply_ite (State.rest _), apply_ite (Res.rest _), apply_ite Prod.fst, apply_ite Prod.snd]

@[simp] theorem execPairResetRole_rest {W : Touch} [W.Level] [W.Fresh] [W.Tags] [W.VecMask] [W.Held] [W.Air] [W.Arb] [W.Lk] [W.Gn] [W.Ls] [W.Mot] [W.Met] [∀ b, W.In b] (s : State)  : Res.rest W (execPairResetRole s) = some (s.rest W) := by
  unfold execPairResetRole
  simp only [State.goPair_rest, State.claim_rest, State.goCold_rest, State.rest_pair, rest_next, ite_self, implies_true, State.each_rest, State.on_rest, apply_ite (State.rest _), apply_ite (Res.rest _), apply_ite Prod.fst, apply_ite Prod.snd]

@[simp] theorem execClaimCheck_rest {W : Touch} [W.Level] [W.Fresh] [W.Tags] [W.VecMask] [W.Held] [W.Air] [W.Arb] [W.Lk] [W.Gn] [W.Ls] [W.Mot] [W.Met] [∀ b, W.In b] (s : State)  : Res.rest W (execClaimCheck s) = some (s.rest W) := by
  unfold execClaimCheck
  dsimp only
  (repeat' split) <;> simp only [State.claimConflict_rest, State.gateShow_rest, State.rest_pair, rest_next, implies_true, State.each_rest, State.on_rest]

@[simp] theorem execClaimLineChange_rest {W : Touch} [W.Level] [W.Fresh] [W.Tags] [W.VecMask] [W.Held] [W.Air] [W.Arb] [W.Lk] [W.Gn] [W.Ls] [W.Mot] [W.Met] [∀ b, W.In b] (a0 : Bool) (s : State)  : Res.rest W (execClaimLineChange a0 s) = some (s.rest W) := by
  unfold execClaimLineChange
  simp only [State.set_rest, State.claimConflict_rest, State.gateShow_rest, State.switchNew_rest, State.rest_pair, rest_next, ite_self, implies_true, State.each_rest, State.on_rest, apply_ite (State.rest _), apply_ite (Res.rest _), apply_ite Prod.fst, apply_ite Prod.snd]

@[simp] theorem execPairWarm_rest {W : Touch} [W.Level] [W.Fresh] [W.Tags] [W.VecMask] [W.Held] [W.Air] [W.Arb] [W.Lk] [W.Gn] [W.Ls] [W.Mot] [W.Met] [∀ b, W.In b] (a0 : Bool) (s : State)  : Res.rest W (execPairWarm a0 s) = some (s.rest W) := by
  unfold execPairWarm
  simp only [State.warm_rest, rest_next, ite_self, implies_true, State.each_rest, State.on_rest, apply_ite (State.rest _), apply_ite (Res.rest _), apply_ite Prod.fst, apply_ite Prod.snd]

@[simp] theorem execPairTake_rest {W : Touch} [W.Level] [W.Fresh] [W.Air] [W.Arb] [W.Ls] [W.Mot] [W.Met] [∀ b, W.In b] (s : State)  : Res.rest W (execPairTake s) = some (s.rest W) := by
  unfold execPairTake
  simp only [State.take_rest, rest_next, ite_self, implies_true, State.each_rest, State.on_rest, apply_ite (State.rest _), apply_ite (Res.rest _), apply_ite Prod.fst, apply_ite Prod.snd]

@[simp] theorem execTakeoverStart_rest {W : Touch} [W.Level] [W.Fresh] [W.Air] [W.Arb] [∀ b, W.In b] (s : State)  : Res.rest W (execTakeoverStart s) = some (s.rest W) := by
  unfold execTakeoverStart
  simp only [State.readyShow_rest, State.inc_rest, State.goPair_rest, State.claim_rest, State.switchEnds_rest, State.setP_rest, State.startRegions_rest, State.rest_pair, rest_next, ite_self, implies_true, State.each_rest, State.on_rest, apply_ite (State.rest _), apply_ite (Res.rest _), apply_ite Prod.fst, apply_ite Prod.snd]

@[simp] theorem execTakeoverLoaded_rest {W : Touch} [W.Log] [W.Tags] [W.Hg] [W.Held] [W.Air] [W.Arb] [W.Lk] [W.Pair] [W.Disp] [W.Ls] [W.Mot] [∀ b, W.In b] (s : State)  : Res.rest W (execTakeoverLoaded s) = some (s.rest W) := by
  unfold execTakeoverLoaded
  grind [State.decidePast_rest, State.bumpSources_rest, State.loadCheckpoint_rest, State.rest_pair, rest_next]

@[simp] theorem execPartnerAckTimeout_rest {W : Touch} [W.Log] [W.Pair] [W.Disp] [W.Ls] [W.In .core] [W.In .dispatch] [W.In .lease] [W.In .pair] (s : State)  : Res.rest W (execPartnerAckTimeout s) = some (s.rest W) := by
  have ⟨_, _, _, _, _⟩ := Touch.logIns W
  unfold execPartnerAckTimeout
  simp only [State.notice_rest, State.set_rest, State.inc_rest, State.pairSend_rest, State.deltaAcked_rest, State.rest_pair, rest_next, ite_self, implies_true, State.each_rest, State.on_rest, apply_ite (State.rest _), apply_ite (Res.rest _), apply_ite Prod.fst, apply_ite Prod.snd]

@[simp] theorem execPairStatusSend_rest {W : Touch} [W.Out] [W.Canal] [W.Pair] [W.In .canal] [W.In .pair] (s : State)  : Res.rest W (execPairStatusSend s) = some (s.rest W) := by
  unfold execPairStatusSend
  simp only [State.set_rest, State.pairSend_rest, State.rest_pair, rest_next, ite_self, implies_true, State.each_rest, State.on_rest, apply_ite (State.rest _), apply_ite (Res.rest _), apply_ite Prod.fst, apply_ite Prod.snd]

@[simp] theorem execPairSwitch_rest {W : Touch} [W.Out] [W.Canal] [W.In .canal] [W.In .pair] (s : State)  : Res.rest W (execPairSwitch s) = some (s.rest W) := by
  unfold execPairSwitch
  simp only [State.switchCmd_rest, rest_next, ite_self, implies_true, State.each_rest, State.on_rest, apply_ite (State.rest _), apply_ite (Res.rest _), apply_ite Prod.fst, apply_ite Prod.snd]

@[simp] theorem execRevertHoldoffExpiry_rest {W : Touch} [W.Level] [W.Fresh] [W.Tags] [W.VecMask] [W.Held] [W.Air] [W.Arb] [W.Lk] [W.Gn] [W.Ls] [W.Mot] [W.Met] [∀ b, W.In b] (s : State)  : Res.rest W (execRevertHoldoffExpiry s) = some (s.rest W) := by
  fun_cases execRevertHoldoffExpiry <;> simp only [State.warm_rest, State.rest_pair, rest_next, implies_true, State.each_rest, State.on_rest]

@[simp] theorem execRevertRequest_rest {W : Touch} [W.Out] [W.Canal] [W.Pair] [W.In .canal] (s : State)  : Res.rest W (execRevertRequest s) = some (s.rest W) := by
  unfold execRevertRequest
  simp only [State.pairSend_rest, State.rest_pair, rest_next, ite_self, implies_true, State.each_rest, State.on_rest, apply_ite (State.rest _), apply_ite (Res.rest _), apply_ite Prod.fst, apply_ite Prod.snd]

@[simp] theorem execMeterWindow_rest {W : Touch} [W.VecSent] [W.Fq] [W.Out] [W.Canal] [W.Pair] [W.Met] [W.In .canal] [W.In .eth] [W.In .flume] [W.In .meter] [W.In .pcie] (w : MeterWin) (s : State) : Res.rest W (execMeterWindow w s) = some (s.rest W) := by
  unfold execMeterWindow
  split
  · rfl
  · simp only [rest_next, State.meterFlush_rest]
    congr 1
    rw [State.each_rest _ _ _ fun t k => State.pulseAdd_rest ..]
    refine (foldl_rest _ (fun (b : State × List (Nat × WinQ)) => b.1) _ (fun b x => State.dockAdd_rest ..) _).trans ?_
    dsimp only
    rw [State.each_rest _ _ _ fun t x => State.voltAdd_rest ..]
    simp only [State.set_rest]

@[simp] theorem execMeterSecond_rest {W : Touch} [W.Fresh] [W.VecSent] [W.Fq] [W.Out] [W.Canal] [W.Pair] [W.Met] [W.In .canal] [W.In .eth] [W.In .flume] [W.In .meter] [W.In .pcie] [W.In .taskboard] (s : State)  : Res.rest W (execMeterSecond s) = some (s.rest W) := by
  unfold execMeterSecond
  simp only [State.secondEntry_rest, State.taskE0_rest, State.meterFlush_rest, State.rest_met, rest_next, ite_self, implies_true, State.each_rest, State.on_rest, apply_ite (State.rest _), apply_ite (Res.rest _), apply_ite Prod.fst, apply_ite Prod.snd]

@[simp] theorem execMeterIntervalEnd_rest {W : Touch} [W.VecSent] [W.Fq] [W.Out] [W.Canal] [W.Met] [W.In .canal] [W.In .eth] [W.In .flume] [W.In .meter] [W.In .pcie] (s : State)  : Res.rest W (execMeterIntervalEnd s) = some (s.rest W) := by
  unfold execMeterIntervalEnd
  simp only [State.docksEnd_rest, State.rest_met, rest_next, ite_self, implies_true, State.each_rest, State.on_rest, apply_ite (State.rest _), apply_ite (Res.rest _), apply_ite Prod.fst, apply_ite Prod.snd]

@[simp] theorem execPqRefresh_rest {W : Touch} [W.Log] [W.Fresh] [W.Met] [W.In .meter] (a0 : Nat) (a1 : Nat) (s : State)  : Res.rest W (execPqRefresh a0 a1 s) = some (s.rest W) := by
  have ⟨_, _, _, _, _⟩ := Touch.logIns W
  unfold execPqRefresh
  simp only [State.pqRefresh_rest, rest_next, ite_self, implies_true, State.each_rest, State.on_rest, apply_ite (State.rest _), apply_ite (Res.rest _), apply_ite Prod.fst, apply_ite Prod.snd]

@[simp] theorem execMeterSave_rest {W : Touch} [W.Level] [W.Fresh] [W.Air] [W.Arb] [W.Met] [W.In .airport] [W.In .meter] [W.In .pair] [W.In .regionCtl] (a0 : Bool) (s : State)  : Res.rest W (execMeterSave a0 s) = some (s.rest W) := by
  have ⟨_, _, _, _, _, _, _, _, _, _, _, _⟩ := Touch.levelIns W
  unfold execMeterSave
  simp only [State.inc_rest, State.set_rest, State.blockError_rest, State.rest_met, rest_next, ite_self, implies_true, State.each_rest, State.on_rest, apply_ite (State.rest _), apply_ite (Res.rest _), apply_ite Prod.fst, apply_ite Prod.snd]

@[simp] theorem execMeterPulse_rest {W : Touch} [W.Out] [W.Met] (a0 : Nat) (s : State)  : Res.rest W (execMeterPulse a0 s) = some (s.rest W) := by
  unfold execMeterPulse
  simp only [State.pulseOut_rest, rest_next, ite_self, implies_true, State.each_rest, State.on_rest, apply_ite (State.rest _), apply_ite (Res.rest _), apply_ite Prod.fst, apply_ite Prod.snd]

@[simp] theorem execPulseCfgWrite_rest {W : Touch} [W.All] [∀ b, W.In b] (a0 : Src) (a1 : Nat) (a2 : Nat) (s : State)  : Res.rest W (execPulseCfgWrite a0 a1 a2 s) = some (s.rest W) := by
  unfold execPulseCfgWrite
  simp only [State.plainWrite_rest, rest_next, ite_self, implies_true, State.each_rest, State.on_rest, apply_ite (State.rest _), apply_ite (Res.rest _), apply_ite Prod.fst, apply_ite Prod.snd]

@[simp] theorem execAttestDone_rest {W : Touch} [W.Log] [W.Fresh] [W.Pair] [W.In .frameSec] [W.In .keystore] (s : State)  : Res.rest W (execAttestDone s) = some (s.rest W) := by
  have ⟨_, _, _, _, _⟩ := Touch.logIns W
  unfold execAttestDone
  simp only [State.set_rest, State.freeSig_rest, State.irq_rest, State.ksUse_rest, State.inc_rest, rest_next, ite_self, implies_true, State.each_rest, State.on_rest, apply_ite (State.rest _), apply_ite (Res.rest _), apply_ite Prod.fst, apply_ite Prod.snd]

@[simp] theorem execRemask_rest {W : Touch} [W.Fresh] [W.Pair] [W.Key] [W.In .keystore] (s : State)  : Res.rest W (execRemask s) = some (s.rest W) := by
  unfold execRemask
  simp only [State.free256_rest, State.setTe_rest, State.inc_rest, State.rest_key, rest_next, ite_self, implies_true, State.each_rest, State.on_rest, apply_ite (State.rest _), apply_ite (Res.rest _), apply_ite Prod.fst, apply_ite Prod.snd]

@[simp] theorem execTokOwnerTimeout_rest {W : Touch} [W.In .keystore] (s : State)  : Res.rest W (execTokOwnerTimeout s) = some (s.rest W) := by
  unfold execTokOwnerTimeout
  simp only [State.set_rest, rest_next, ite_self, implies_true, State.each_rest, State.on_rest, apply_ite (State.rest _), apply_ite (Res.rest _), apply_ite Prod.fst, apply_ite Prod.snd]

/-- A write of a token leaves the queue and the time alone, whether accepted or refused. -/
def TokStep.keeps (W : Touch) (x : Rest) : TokStep → Prop
  | .ok t => t.s.rest W = x
  | .error f => ∀ s, (f s).rest W = s.rest W
theorem ite_keeps {W : Touch}  {c : Prop} [Decidable c] {a b : TokStep} {x : Rest} (ha : a.keeps W x) (hb : b.keeps W x) :
    (if c then a else b).keeps W x := by
  split
  · exact ha
  · exact hb
theorem blocked_keeps {W : Touch}  (x : Rest) : blocked.keeps W x := fun _ => rfl
theorem supStep_keeps {W : Touch} [W.Level] [W.Clk] [W.In .reset] (t : TokRun) (w : RegWr) : (supStep t w).keeps W (t.s.rest W) := by
  have ⟨_, _, _, _, _, _, _, _, _, _, _, _⟩ := Touch.levelIns W
  unfold supStep
  refine (State.on_rest _ _ _ fun u => State.supRestart_rest u).trans ?_
  exact ite_rest (State.supHold_rest ..) rfl
theorem fuseStep_keeps {W : Touch} [W.Log] [W.Key] [∀ b, W.In b] (t : TokRun) (w : RegWr) (l : List FldDef) : (fuseStep t w l).keeps W (t.s.rest W) := by
  unfold fuseStep
  refine ite_keeps (blocked_keeps (W := W) _) (ite_keeps ?_ (ite_keeps (blocked_keeps (W := W) _) (ite_keeps ?_ ?_)))
  · exact (State.set_rest ..).trans (State.storeFields_rest ..)
  · exact fun s => State.set_rest ..
  · exact (State.fuseGo_rest ..).trans ((State.set_rest ..).trans (State.storeFields_rest ..))
theorem baseStep_keeps {W : Touch} [W.Gn] [W.In .gnssMeas] (t : TokRun) (w : RegWr) : (baseStep t w).keeps W (t.s.rest W) := by
  have h (m : Prop) [Decidable m] (c : Bool) : (if m then t.s.on c State.surveyStart else t.s).rest W = t.s.rest W :=
    ite_rest (State.on_rest _ _ _ fun u => State.surveyStart_rest u) rfl
  unfold baseStep
  exact ite_keeps (blocked_keeps (W := W) _) (ite_keeps (h _ _) (h _ _))
theorem stepStep_keeps {W : Touch} [W.Level] [W.Fresh] [W.Tm] [W.In .time] (t : TokRun) (w : RegWr) (ofs : Option Int) : (stepStep t w ofs).keeps W (t.s.rest W) := by
  have ⟨_, _, _, _, _, _, _, _, _, _, _, _⟩ := Touch.levelIns W
  unfold stepStep
  exact ite_keeps (fun s => State.set_rest ..) (ite_keeps (State.stepOp_rest ..) fun s => State.set_rest ..)
theorem pairStep_keeps {W : Touch} [W.Level] [W.Fresh] [W.Dram] [W.Tags] [W.VecMask] [W.Held] [W.Air] [W.Arb] [W.Lk] [W.Gn] [W.Ls] [W.Mot] [W.Clk] [W.Met] [W.Key] [W.Dbg] [W.Boot] [∀ b, W.In b] (t : TokRun) (w : RegWr) (l : List FldDef) (x : WrExt) : (pairStep t w l x).keeps W (t.s.rest W) := by
  unfold pairStep
  refine ite_keeps (blocked_keeps (W := W) _) (ite_keeps (blocked_keeps (W := W) _) ?_)
  refine (State.on_rest _ _ _ fun u => State.take_rest u).trans ((State.on_rest _ _ _ fun u => State.switchCmd_rest u).trans ?_)
  exact (State.blockAct_rest ..).trans (State.storeFields_rest ..)
theorem zeroStep_keeps {W : Touch} [W.Pair] [∀ b, W.In b] (t : TokRun) (w : RegWr) (l : List FldDef) : (zeroStep t w l).keeps W (t.s.rest W) := by
  unfold zeroStep
  refine ite_keeps (blocked_keeps (W := W) _) ?_
  refine (State.on_rest _ _ _ fun u => State.zeroise_rest u _).trans ?_
  exact (State.set_rest ..).trans (State.storeFields_rest ..)
theorem lcStep_keeps {W : Touch} [W.Level] [W.Fresh] [W.Dram] [W.Tags] [W.VecMask] [W.Held] [W.Air] [W.Arb] [W.Lk] [W.Gn] [W.Ls] [W.Mot] [W.Clk] [W.Met] [W.Key] [W.Dbg] [W.Boot] [∀ b, W.In b] (t : TokRun) (w : RegWr) (burnOk : Bool) (x : WrExt) : (lcStep t w burnOk x).keeps W (t.s.rest W) := by
  unfold lcStep
  exact ite_keeps (blocked_keeps (W := W) _) (ite_keeps (fun s => State.set_rest ..) ((State.blockAct_rest ..).trans (State.lcGo_rest ..)))
theorem debugStep_keeps {W : Touch} [W.Level] [W.Fresh] [W.Dram] [W.Tags] [W.VecMask] [W.Held] [W.Air] [W.Arb] [W.Lk] [W.Gn] [W.Ls] [W.Mot] [W.Clk] [W.Met] [W.Key] [W.Dbg] [W.Boot] [∀ b, W.In b] (t : TokRun) (w : RegWr) (x : WrExt) : (debugStep t w x).keeps W (t.s.rest W) := by
  unfold debugStep
  exact ite_keeps (blocked_keeps (W := W) _) (ite_keeps (fun s => State.dbgResult_rest ..)
    ((State.blockAct_rest ..).trans (State.on_rest _ _ _ fun u => State.dbgObserve_rest u)))
theorem updStep_keeps {W : Touch} [W.Level] [W.Fresh] [W.Dram] [W.Tags] [W.VecMask] [W.Held] [W.Air] [W.Arb] [W.Lk] [W.Gn] [W.Ls] [W.Mot] [W.Clk] [W.Met] [W.Key] [W.Dbg] [W.Boot] [∀ b, W.In b] (t : TokRun) (w : RegWr) (x : WrExt) : (updStep t w x).keeps W (t.s.rest W) := by
  unfold updStep
  refine ite_keeps (blocked_keeps (W := W) _) ((State.blockAct_rest ..).trans ((State.on_rest _ _ _ fun u => State.commit_rest u _).trans ?_))
  exact ite_rest (State.set_rest ..) rfl
theorem rotStep_keeps {W : Touch} [W.In .frameSec] (t : TokRun) (w : RegWr) : (rotStep t w).keeps W (t.s.rest W) := by
  unfold rotStep
  exact ite_keeps ((State.set_rest ..).trans (State.set_rest ..)) (ite_keeps (State.rotSet_rest ..) (blocked_keeps (W := W) _))
theorem resumeStep_keeps {W : Touch} [W.Log] [W.Fresh] [W.Hg] [W.Dbg] [∀ b, W.In b] (t : TokRun) (w : RegWr) : (resumeStep t w).keeps W (t.s.rest W) := by
  unfold resumeStep
  have hr (v : State) (c : Bool) (k r : Nat) : (State.resumeRefused { v.on c (fun u => u.disarm 9) with fresh := k } r).rest W = v.rest W :=
    (State.resumeRefused_rest ..).trans ((State.rest_fresh _ _).trans (State.on_rest _ _ _ fun u => State.disarm_rest ..))
  exact ite_keeps (ite_keeps ((State.resumeArm_rest _).trans (State.setReg_rest ..)) fun s => hr ..)
    (ite_keeps (ite_keeps ((State.resumeRelease_rest ..).trans (State.setReg_rest ..)) fun s => hr ..) (blocked_keeps (W := W) _))
theorem plainStep_keeps {W : Touch} [W.All] [∀ b, W.In b] (t : TokRun) (w : RegWr) (l : List FldDef) (x : WrExt) : (plainStep t w l x).keeps W (t.s.rest W) := by
  unfold plainStep
  exact ite_keeps (blocked_keeps (W := W) _) (State.applyWrite_rest ..)
theorem tokStep_keeps {W : Touch} [W.All] [∀ b, W.In b] (ofs : Option Int) (burnOk : Bool) (t : TokRun) (w : RegWr) : (tokStep ofs burnOk t w).keeps W (t.s.rest W) := by
  unfold tokStep
  refine ite_keeps (blocked_keeps (W := W) _) ?_
  split
  · exact supStep_keeps ..
  · rfl
  · exact fuseStep_keeps ..
  · exact baseStep_keeps ..
  · exact stepStep_keeps ..
  · exact State.storeFields_rest ..
  · exact State.storeFields_rest ..
  · exact pairStep_keeps ..
  · exact zeroStep_keeps ..
  · exact lcStep_keeps ..
  · exact debugStep_keeps ..
  · exact updStep_keeps ..
  · exact rotStep_keeps ..
  · exact resumeStep_keeps ..
  · exact plainStep_keeps ..
/-- What a token leaves the queue and the time as. -/
def tokKeeps (W : Touch) {α : Type} (g : α → State → State) (x : Rest) : Except α TokRun → Prop
  | .ok t => t.s.rest W = x
  | .error e => ∀ s, (g e s).rest W = s.rest W
theorem tokFold_keeps {W : Touch} [W.All] [∀ b, W.In b] (src : Src) (signer : Nat) (ofs : Option Int) (burnOk : Bool) (i : Nat) (t : TokRun) (l : List TokWr) :
    tokKeeps W (fun (e : Nat × (State → State)) => e.2) (t.s.rest W) (tokFold src signer ofs burnOk i t l) := by
  induction l generalizing i t with
  | nil => exact rfl
  | cons w r ih =>
    unfold tokFold
    split
    · exact fun s => rfl
    · rename_i p _
      have h := tokStep_keeps (W := W) ofs burnOk t ⟨src, p, w.addr % 0x1000, w.value, w.mask, some signer⟩
      generalize tokStep ofs burnOk t ⟨src, p, w.addr % 0x1000, w.value, w.mask, some signer⟩ = q at h
      cases q with
      | ok u =>
        have hu : u.s.rest W = t.s.rest W := h
        rw [← hu]
        exact ih ..
      | error f => exact h
theorem State.tokVerify_keeps {W : Touch} [W.All] [∀ b, W.In b] (s : State) (src : Src) (sigOk : Bool) (key : Option Nat) (burnOk : Bool) :
    tokKeeps W (fun (e : Nat × Nat × (State → State)) => e.2.2) (s.rest W) (s.tokVerify src sigOk key burnOk) := by
  unfold State.tokVerify
  dsimp only
  repeat' split
  all_goals first
    | exact fun _ => rfl
    | exact State.installKey_rest ..
    | (rename_i heq
       have h' := tokFold_keeps (W := W) src s.tokSigner (s.stepOfs s.tokWrites) burnOk 0 { s := s } s.tokWrites
       rw [heq] at h'
       exact h')

@[simp] theorem execTokenVerifyDone_rest {W : Touch} [W.All] [∀ b, W.In b] (sigOk : Bool) (key : Option Nat) (burnOk : Bool) (s : State) :
    Res.rest W (execTokenVerifyDone sigOk key burnOk s) = some (s.rest W) := by
  have hc : ∀ (c : Bool) (k : Nat) (t : State), (if c = true then t.ksUse k else t).rest W = t.rest W := fun c k t =>
    ite_rest (State.ksUse_rest ..) rfl
  have hv := State.tokVerify_keeps (W := W) s (ownerSrc (s.get F.TOK_STATUS_OWNER)) sigOk key burnOk
  unfold execTokenVerifyDone
  dsimp only
  split
  · rfl
  · generalize s.tokVerify (ownerSrc (s.get F.TOK_STATUS_OWNER)) sigOk key burnOk = r at hv
    cases r with
    | error e =>
      obtain ⟨e, i, f⟩ := e
      rw [rest_next, State.tokEnd_rest, State.tokRefused_rest]
      exact congrArg some ((hc ..).trans (hv s))
    | ok t =>
      have hu : t.s.rest W = s.rest W := hv
      have hp : (if t.base = [] then t.s else { t.s with gn := { t.s.gn with posPend := t.s.gn.posPend ++ [t.base] } }).rest W = s.rest W :=
        ite_rest hu ((State.rest_gn t.s _).trans hu)
      rw [rest_next]
      refine congrArg some (ite_rest ?_ ?_)
      · rw [State.chipReset_rest, State.tokEnd_rest, State.inc_rest]; exact (hc ..).trans hp
      · rw [State.tokEnd_rest, State.inc_rest]; exact (hc ..).trans hp

@[simp] theorem execTokNonceExpiry_rest {W : Touch} [W.Fresh] [W.Key] [W.In .keystore] (s : State)  : Res.rest W (execTokNonceExpiry s) = some (s.rest W) := by
  unfold execTokNonceExpiry
  simp only [State.drawNonce_rest, rest_next, ite_self, implies_true, State.each_rest, State.on_rest, apply_ite (State.rest _), apply_ite (Res.rest _), apply_ite Prod.fst, apply_ite Prod.snd]

@[simp] theorem execFuseProgGo_rest {W : Touch} [W.Log] [W.Key] [W.In .fuse] (a0 : Nat) (a1 : Nat) (a2 : Nat) (s : State)  : Res.rest W (execFuseProgGo a0 a1 a2 s) = some (s.rest W) := by
  have ⟨_, _, _, _, _⟩ := Touch.logIns W
  unfold execFuseProgGo
  simp only [State.fuseGo_rest, rest_next, ite_self, implies_true, State.each_rest, State.on_rest, apply_ite (State.rest _), apply_ite (Res.rest _), apply_ite Prod.fst, apply_ite Prod.snd]

@[simp] theorem execFuseBurnDone_rest {W : Touch} [W.Log] [W.Key] [W.In .fuse] (a0 : Bool) (s : State)  : Res.rest W (execFuseBurnDone a0 s) = some (s.rest W) := by
  have ⟨_, _, _, _, _⟩ := Touch.logIns W
  unfold execFuseBurnDone
  dsimp only
  (repeat' split) <;> simp only [State.set_rest, State.inc_rest, State.irq_rest, State.fuseStart_rest, State.rest_key, rest_next, implies_true, State.each_rest, State.on_rest]

@[simp] theorem execLcTransition_rest {W : Touch} [W.Level] [W.Fresh] [W.Tags] [W.VecMask] [W.Held] [W.Air] [W.Arb] [W.Lk] [W.Gn] [W.Ls] [W.Mot] [W.Met] [∀ b, W.In b] (a0 : Nat) (a1 : Nat) (a2 : Bool) (s : State)  : Res.rest W (execLcTransition a0 a1 a2 s) = some (s.rest W) := by
  unfold execLcTransition
  simp only [State.lcGo_rest, rest_next, ite_self, implies_true, State.each_rest, State.on_rest, apply_ite (State.rest _), apply_ite (Res.rest _), apply_ite Prod.fst, apply_ite Prod.snd]

@[simp] theorem execDbgObserve_rest {W : Touch} [W.Log] [W.Hg] [W.In .debug] [W.In .headgate] (s : State)  : Res.rest W (execDbgObserve s) = some (s.rest W) := by
  have ⟨_, _, _, _, _⟩ := Touch.logIns W
  unfold execDbgObserve
  simp only [State.dbgObserve_rest, rest_next, ite_self, implies_true, State.each_rest, State.on_rest, apply_ite (State.rest _), apply_ite (Res.rest _), apply_ite Prod.fst, apply_ite Prod.snd]

@[simp] theorem execDbgDurationExpiry_rest {W : Touch} [W.Level] [W.Dbg] [W.In .debug] [W.In .reset] (s : State)  : Res.rest W (execDbgDurationExpiry s) = some (s.rest W) := by
  have ⟨_, _, _, _, _, _, _, _, _, _, _, _⟩ := Touch.levelIns W
  fun_cases execDbgDurationExpiry <;> simp only [State.dbgClose_rest, rest_next, implies_true, State.each_rest, State.on_rest]

@[simp] theorem execExtest_rest {W : Touch} [W.Dbg] [W.In .debug] (a0 : Option Nat) (s : State)  : Res.rest W (execExtest a0 s) = some (s.rest W) := by
  unfold execExtest
  simp only [State.inc_rest, State.rest_dbg, rest_next, ite_self, implies_true, State.each_rest, State.on_rest, apply_ite (State.rest _), apply_ite (Res.rest _), apply_ite Prod.fst, apply_ite Prod.snd]

@[simp] theorem execPwrTargetWrite_rest {W : Touch} [W.Level] [W.Fresh] [W.Tags] [W.VecMask] [W.Held] [W.Air] [W.Arb] [W.Lk] [W.Gn] [W.Ls] [W.Mot] [W.Met] [∀ b, W.In b] (a0 : Nat) (s : State)  : Res.rest W (execPwrTargetWrite a0 s) = some (s.rest W) := by
  unfold execPwrTargetWrite
  simp only [State.powerTo_rest, rest_next, ite_self, implies_true, State.each_rest, State.on_rest, apply_ite (State.rest _), apply_ite (Res.rest _), apply_ite Prod.fst, apply_ite Prod.snd]

@[simp] theorem execMainSupplyLoss_rest {W : Touch} [W.All] [∀ b, W.In b] (a0 : Bool) (s : State)  : Res.rest W (execMainSupplyLoss a0 s) = some (s.rest W) := by
  unfold execMainSupplyLoss
  simp only [State.mainLost_rest, rest_next, ite_self, implies_true, State.each_rest, State.on_rest, apply_ite (State.rest _), apply_ite (Res.rest _), apply_ite Prod.fst, apply_ite Prod.snd]

@[simp] theorem execVddGateLoss_rest {W : Touch} [W.Level] [W.Sup] [W.In .airport] [W.In .pair] (s : State) : Res.rest W (execVddGateLoss s) = some (s.rest W) := by
  have ⟨_, _, _, _, _, _, _, _, _, _, _, _⟩ := Touch.levelIns W
  unfold execVddGateLoss
  refine ite_res rfl (congrArg some ((State.recompute_rest _).trans ((State.each_rest _ _ _ fun u p => State.set_rest u F.PORT_STATUS_TX_SRC 0 p 0).trans ?_)))
  exact (State.rest_hgclear _ _ _).trans ((State.handOver_rest ..).trans (State.outsLow_rest _))

@[simp] theorem execSupplyMonitorTrip_rest {W : Touch} [W.All] [∀ b, W.In b] (a0 : Nat) (a1 : Bool) (s : State)  : Res.rest W (execSupplyMonitorTrip a0 a1 s) = some (s.rest W) := by
  unfold execSupplyMonitorTrip
  dsimp only
  (repeat' split) <;> simp only [State.mainLost_rest, State.railFault_rest, State.meterCellGone_rest, State.chipReset_rest, State.rest_sup, rest_next, implies_true, State.each_rest, State.on_rest]

@[simp] theorem execThermalTrip_rest {W : Touch} [W.All] [∀ b, W.In b] (a0 : Int) (s : State)  : Res.rest W (execThermalTrip a0 s) = some (s.rest W) := by
  unfold execThermalTrip
  simp only [State.showTemp_rest, State.chipStop_rest, State.rest_sup, rest_next, ite_self, implies_true, State.each_rest, State.on_rest, apply_ite (State.rest _), apply_ite (Res.rest _), apply_ite Prod.fst, apply_ite Prod.snd]

@[simp] theorem execTempWarn_rest {W : Touch} [W.VecSent] [W.Out] [W.In .info] [W.In .pcie] (a0 : Int) (s : State)  : Res.rest W (execTempWarn a0 s) = some (s.rest W) := by
  unfold execTempWarn
  simp only [State.showTemp_rest, rest_next, ite_self, implies_true, State.each_rest, State.on_rest, apply_ite (State.rest _), apply_ite (Res.rest _), apply_ite Prod.fst, apply_ite Prod.snd]

@[simp] theorem execPorst_rest {W : Touch} [W.All] [∀ b, W.In b] (a0 : Nat) (a1 : Bool) (a2 : Bool) (a3 : Bool) (s : State)  : Res.rest W (execPorst a0 a1 a2 a3 s) = some (s.rest W) := by
  unfold execPorst
  simp only [State.free_rest, State.chipReset_rest, State.rest_sup, rest_next, ite_self, implies_true, State.each_rest, State.on_rest, apply_ite (State.rest _), apply_ite (Res.rest _), apply_ite Prod.fst, apply_ite Prod.snd]

@[simp] theorem execRomBoot_rest {W : Touch} [W.Level] [W.Fresh] [W.Sup] [W.Key] [W.Boot] [W.In .boot] [W.In .debug] [W.In .frameSec] [W.In .keystore] [W.In .reset] (a0 : Bool) (s : State)  : Res.rest W (execRomBoot a0 s) = some (s.rest W) := by
  have ⟨_, _, _, _, _, _, _, _, _, _, _, _⟩ := Touch.levelIns W
  unfold execRomBoot
  simp only [State.zeroiseAll_rest, State.drawChallenge_rest, State.drawNonce_rest, State.romTorn_rest, State.romKeys_rest, State.set_rest, State.recover_rest, State.romBanks_rest, rest_next, ite_self, implies_true, State.each_rest, State.on_rest, apply_ite (State.rest _), apply_ite (Res.rest _), apply_ite Prod.fst, apply_ite Prod.snd]

@[simp] theorem execKeepWatchdog_rest {W : Touch} [W.All] [∀ b, W.In b] (s : State)  : Res.rest W (execKeepWatchdog s) = some (s.rest W) := by
  unfold execKeepWatchdog
  (repeat' split) <;> simp only [State.chipReset_rest, rest_next, implies_true, State.each_rest, State.on_rest]

@[simp] theorem execImageLoad_rest {W : Touch} [W.Level] [W.Fresh] [W.Tags] [W.VecMask] [W.Held] [W.Air] [W.Arb] [W.Lk] [W.Gn] [W.Ls] [W.Mot] [W.Met] [W.Key] [W.Boot] [∀ b, W.In b] (a0 : Nat) (s : State)  : Res.rest W (execImageLoad a0 s) = some (s.rest W) := by
  unfold execImageLoad
  (repeat' split) <;> simp only [State.retain_rest, State.imagesShow_rest, State.imgLoaded_rest, State.imgBarred_rest, rest_next, implies_true, State.each_rest, State.on_rest]

@[simp] theorem execUpdDone_rest {W : Touch} [W.Fresh] [W.VecSent] [W.Out] [W.Boot] [W.In .boot] [W.In .pcie] (a0 : Option Nat) (a1 : Bool) (a2 : Nat) (s : State)  : Res.rest W (execUpdDone a0 a1 a2 s) = some (s.rest W) := by
  unfold execUpdDone
  dsimp only
  (repeat' split) <;> simp only [State.updEnd_rest, State.set_rest, State.free_rest, State.emptyBank_rest, State.inc_rest, State.dirWrite_rest, State.rest_boot, rest_next, implies_true, State.each_rest, State.on_rest]

@[simp] theorem execUpdCommit_rest {W : Touch} [W.Log] [W.Key] [W.Boot] [W.In .boot] [W.In .fuse] (a0 : Nat) (s : State)  : Res.rest W (execUpdCommit a0 s) = some (s.rest W) := by
  have ⟨_, _, _, _, _⟩ := Touch.logIns W
  unfold execUpdCommit
  simp only [State.commit_rest, rest_next, ite_self, implies_true, State.each_rest, State.on_rest, apply_ite (State.rest _), apply_ite (Res.rest _), apply_ite Prod.fst, apply_ite Prod.snd]

@[simp] theorem execRecoveryChunk_rest {W : Touch} [W.Level] [W.Fresh] [W.Dram] [W.Clk] [W.Key] [W.Boot] [W.In .boot] [W.In .frameSec] [W.In .keystore] [W.In .reset] (a0 : Nat) (a1 : List Nat) (a2 : ImgSeen) (s : State)  : Res.rest W (execRecoveryChunk a0 a1 a2 s) = some (s.rest W) := by
  have ⟨_, _, _, _, _, _, _, _, _, _, _, _⟩ := Touch.levelIns W
  unfold execRecoveryChunk
  simp only [State.chunkRx_rest, rest_next, ite_self, implies_true, State.each_rest, State.on_rest, apply_ite (State.rest _), apply_ite (Res.rest _), apply_ite Prod.fst, apply_ite Prod.snd]

@[simp] theorem execRecoverySilence_rest {W : Touch} [W.Boot] (s : State)  : Res.rest W (execRecoverySilence s) = some (s.rest W) := by
  unfold execRecoverySilence
  (repeat' (first | (refine ite_rest ?_ ?_) | (refine ite_res ?_ ?_) | split)) <;> simp only [State.rcvEnd_rest, rest_next, implies_true, State.each_rest, State.on_rest]

@[simp] theorem execWeirTokenDue_rest {W : Touch} [W.Ev] (a0 : Option Nat) (s : State)  : Res.rest W (execWeirTokenDue a0 s) = some (s.rest W) := by
  unfold execWeirTokenDue
  dsimp only
  (repeat' split) <;> simp only [State.rest_ev, rest_next, implies_true, State.each_rest, State.on_rest]

@[simp] theorem execWeirBucketReturn_rest {W : Touch} [W.Ev] (a0 : Nat) (s : State)  : Res.rest W (execWeirBucketReturn a0 s) = some (s.rest W) := by
  unfold execWeirBucketReturn
  simp only [State.rest_ev, rest_next, ite_self, implies_true, State.each_rest, State.on_rest, apply_ite (State.rest _), apply_ite (Res.rest _), apply_ite Prod.fst, apply_ite Prod.snd]

@[simp] theorem execEventSummary_rest {W : Touch} [W.Log] (s : State)  : Res.rest W (execEventSummary s) = some (s.rest W) := by
  have ⟨_, _, _, _, _⟩ := Touch.logIns W
  unfold execEventSummary
  simp only [State.bootRecord_rest, State.newSecond_rest, rest_next, ite_self, implies_true, State.each_rest, State.on_rest, apply_ite (State.rest _), apply_ite (Res.rest _), apply_ite Prod.fst, apply_ite Prod.snd]

@[simp] theorem execSeqSave_rest {W : Touch} [W.Ev] (s : State)  : Res.rest W (execSeqSave s) = some (s.rest W) := by
  unfold execSeqSave
  simp only [State.saveSeq_rest, rest_next, ite_self, implies_true, State.each_rest, State.on_rest, apply_ite (State.rest _), apply_ite (Res.rest _), apply_ite Prod.fst, apply_ite Prod.snd]

@[simp] theorem execFoundingBatch_rest {W : Touch} [W.Ev] [W.In .evlog] (a0 : Nat) (s : State)  : Res.rest W (execFoundingBatch a0 s) = some (s.rest W) := by
  unfold execFoundingBatch
  simp only [State.foundProgram_rest, rest_next, ite_self, implies_true, State.each_rest, State.on_rest, apply_ite (State.rest _), apply_ite (Res.rest _), apply_ite Prod.fst, apply_ite Prod.snd]

@[simp] theorem execMainSupplyReturn_rest {W : Touch} [W.All] [∀ b, W.In b] (a0 : Bool) (a1 : Bool) (a2 : Bool) (s : State)  : Res.rest W (execMainSupplyReturn a0 a1 a2 s) = some (s.rest W) := by
  rw [execMainSupplyReturn.eq_def]
  grind [State.mainBack_rest, State.chipReset_rest, State.outageEnd_rest, rest_next]

@[simp] theorem execRailBackInRange_rest {W : Touch} [W.All] [∀ b, W.In b] (a0 : Nat) (s : State)  : Res.rest W (execRailBackInRange a0 s) = some (s.rest W) := by
  unfold execRailBackInRange
  simp only [State.chipReset_rest, State.recompute_rest, State.rest_sup, rest_next, ite_self, implies_true, State.each_rest, State.on_rest, apply_ite (State.rest _), apply_ite (Res.rest _), apply_ite Prod.fst, apply_ite Prod.snd]

@[simp] theorem execAuxclkReturn_rest {W : Touch} [W.Out] [W.Canal] [W.In .canal] [W.In .clock] (a0 : Nat) (s : State)  : Res.rest W (execAuxclkReturn a0 s) = some (s.rest W) := by
  unfold execAuxclkReturn
  simp only [State.set_rest, State.canalTrain_rest, rest_next, ite_self, implies_true, State.each_rest, State.on_rest, apply_ite (State.rest _), apply_ite (Res.rest _), apply_ite Prod.fst, apply_ite Prod.snd]

@[simp] theorem execStepWindowBegins_rest {W : Touch} [W.VecSent] [W.Fq] [W.Out] [W.Canal] [W.Pair] [W.Disp] [W.In .canal] [W.In .core] [W.In .dispatch] [W.In .eth] [W.In .flume] [W.In .lease] [W.In .pcie] [W.In .registry] (a0 : Nat) (s : State)  : Res.rest W (execStepWindowBegins a0 s) = some (s.rest W) := by
  unfold execStepWindowBegins
  simp only [State.leSet_rest, State.blockOwner_rest, rest_next, ite_self, implies_true, State.each_rest, State.on_rest, apply_ite (State.rest _), apply_ite (Res.rest _), apply_ite Prod.fst, apply_ite Prod.snd]

@[simp] theorem execDirectLockEnd_rest {W : Touch} [W.Pair] [W.In .lease] [W.In .turnout] (a0 : Nat) (s : State)  : Res.rest W (execDirectLockEnd a0 s) = some (s.rest W) := by
  rw [execDirectLockEnd.eq_def]
  grind [State.dropDirect_rest, rest_next]

@[simp] theorem execPcieLinkUp_rest {W : Touch} [W.VecSent] [W.Out] [W.In .pcie] (a0 : Nat) (a1 : Nat) (a2 : Bool) (s : State)  : Res.rest W (execPcieLinkUp a0 a1 a2 s) = some (s.rest W) := by
  unfold execPcieLinkUp
  simp only [State.set_rest, State.sendAllVecs_rest, rest_next, ite_self, implies_true, State.each_rest, State.on_rest, apply_ite (State.rest _), apply_ite (Res.rest _), apply_ite Prod.fst, apply_ite Prod.snd]

@[simp] theorem execMsixVectorUnmask_rest {W : Touch} [W.VecSent] [W.VecMask] [W.Out] [W.In .pcie] (a0 : Nat) (s : State)  : Res.rest W (execMsixVectorUnmask a0 s) = some (s.rest W) := by
  unfold execMsixVectorUnmask
  simp only [State.sendVec_rest, State.rest_vecMask, rest_next, ite_self, implies_true, State.each_rest, State.on_rest, apply_ite (State.rest _), apply_ite (Res.rest _), apply_ite Prod.fst, apply_ite Prod.snd]

@[simp] theorem execCanalFlitRx_rest {W : Touch} [W.Out] [W.Canal] [W.In .canal] (a0 : Nat) (a1 : Bool) (a2 : Option Nat) (a3 : Nat) (a4 : Nat) (a5 : Nat) (a6 : Option CanalBody) (s : State)  : Res.rest W (execCanalFlitRx a0 a1 a2 a3 a4 a5 a6 s) = some (s.rest W) := by
  unfold execCanalFlitRx
  grind [State.inc_rest, State.setCport_rest, State.canalTail_rest, State.canalCtrl_rest, rest_next]

@[simp] theorem execPfcPauseExpiry_rest {W : Touch} [W.Fq] [W.Out] [W.Canal] [W.Lk] [W.In .canal] [W.In .eth] [W.In .flume] (a0 : Nat) (a1 : Nat) (s : State)  : Res.rest W (execPfcPauseExpiry a0 a1 s) = some (s.rest W) := by
  unfold execPfcPauseExpiry
  simp only [State.pfcPrio_rest, rest_next, ite_self, implies_true, State.each_rest, State.on_rest, apply_ite (State.rest _), apply_ite (Res.rest _), apply_ite Prod.fst, apply_ite Prod.snd]

@[simp] theorem execEthOtherFrameRx_rest {W : Touch} [W.VecSent] [W.Fq] [W.Out] [W.Canal] [W.Lk] [W.Tm] [W.In .canal] [W.In .eth] [W.In .flume] [W.In .pcie] (a0 : Nat) (a1 : EthFrame) (a2 : Bool) (s : State)  : Res.rest W (execEthOtherFrameRx a0 a1 a2 s) = some (s.rest W) := by
  unfold execEthOtherFrameRx
  simp only [State.ethTake_rest, State.inc_rest, State.ptpRx_rest, State.emit_rest, rest_next, ite_self, implies_true, State.each_rest, State.on_rest, apply_ite (State.rest _), apply_ite (Res.rest _), apply_ite Prod.fst, apply_ite Prod.snd]

@[simp] theorem execMeterOutageSample_rest {W : Touch} [W.Pair] [W.Met] [W.In .meter] (a0 : List Nat) (s : State)  : Res.rest W (execMeterOutageSample a0 s) = some (s.rest W) := by
  unfold execMeterOutageSample
  simp only [State.totalsShow_rest, State.setDock_rest, rest_next, ite_self, implies_true, State.each_rest, State.on_rest, apply_ite (State.rest _), apply_ite (Res.rest _), apply_ite Prod.fst, apply_ite Prod.snd]

@[simp] theorem execTjBelow105_rest {W : Touch} [W.Level] [W.Sup] [W.Boot] [W.In .info] [W.In .reset] (a0 : Int) (s : State)  : Res.rest W (execTjBelow105 a0 s) = some (s.rest W) := by
  have ⟨_, _, _, _, _, _, _, _, _, _, _, _⟩ := Touch.levelIns W
  unfold execTjBelow105
  simp only [State.showTemp_rest, State.romRelease_rest, State.rest_sup, rest_next, ite_self, implies_true, State.each_rest, State.on_rest, apply_ite (State.rest _), apply_ite (Res.rest _), apply_ite Prod.fst, apply_ite Prod.snd]

@[simp] theorem execDebugHalt_rest {W : Touch} [W.Level] [W.Dbg] [W.In .reset] (a0 : Nat) (a1 : Nat) (s : State)  : Res.rest W (execDebugHalt a0 a1 s) = some (s.rest W) := by
  have ⟨_, _, _, _, _, _, _, _, _, _, _, _⟩ := Touch.levelIns W
  unfold execDebugHalt
  simp only [State.debugHalt_rest, rest_next, ite_self, implies_true, State.each_rest, State.on_rest, apply_ite (State.rest _), apply_ite (Res.rest _), apply_ite Prod.fst, apply_ite Prod.snd]

@[simp] theorem execRecoveryLinkTry_rest {W : Touch} [W.Boot] [W.In .eth] (a0 : Nat) (s : State)  : Res.rest W (execRecoveryLinkTry a0 s) = some (s.rest W) := by
  unfold execRecoveryLinkTry
  simp only [State.set_rest, State.rest_boot, rest_next, ite_self, implies_true, State.each_rest, State.on_rest, apply_ite (State.rest _), apply_ite (Res.rest _), apply_ite Prod.fst, apply_ite Prod.snd]

end Sys2Proof.Machine
end

