-- ==== Sys2Proof/Laws/Canon.lean ====
section
/-! SUPPORT. Every function of the model keeps the canonical form of every memory (`State.wf`): one lemma for each. -/
namespace Sys2Proof.Machine
open Sys2Proof
set_option simprocs false
set_option linter.unreachableTactic false
set_option linter.unusedTactic false
set_option linter.unusedSimpArgs false
set_option linter.unusedVariables false
set_option linter.unusedSectionVars false
set_option linter.unnecessarySeqFocus false

/-- Where the memories of the second state are in canonical form, those of the first are. -/
abbrev Kept (t s : State) : Prop := s.wf = true → t.wf = true
theorem Kept.trans {u t s : State} (h : Kept u t) (k : Kept t s) : Kept u s := fun w => h (k w)
theorem Kept.refl (s : State) : Kept s s := id
/-- The memories of a next state are in canonical form. -/
def Res.wf : Res → Bool
  | .next t => t.wf
  | _ => false
/-- Where the memories of a state are in canonical form, those of the outcome are. -/
abbrev ResKept (r : Res) (s : State) : Prop := s.wf = true → Res.wf r = true
theorem wf_next (t : State) : Res.wf (.next t) = t.wf := rfl
theorem State.wf_air (t : State) (x0 : AirSt) :
    (State.mk t.pending t.now t.ft t.fresh t.regs t.ctrs t.latch t.tbl t.dram t.pg t.once t.tags t.vecSent t.vecMask t.fq t.ev t.out t.canal t.hg t.flt t.sup t.held x0 t.arb t.lk t.pair t.gn t.tm t.disp t.ls t.mot t.motNsp t.rtk t.rt t.clk t.met t.key t.dbg t.boot).wf = t.wf := rfl
theorem State.wf_air_motNsp (t : State) (x0 : AirSt) (x1 : Nat) :
    (State.mk t.pending t.now t.ft t.fresh t.regs t.ctrs t.latch t.tbl t.dram t.pg t.once t.tags t.vecSent t.vecMask t.fq t.ev t.out t.canal t.hg t.flt t.sup t.held x0 t.arb t.lk t.pair t.gn t.tm t.disp t.ls t.mot x1 t.rtk t.rt t.clk t.met t.key t.dbg t.boot).wf = t.wf := rfl
theorem State.wf_arb (t : State) (x0 : List ArbSt) :
    (State.mk t.pending t.now t.ft t.fresh t.regs t.ctrs t.latch t.tbl t.dram t.pg t.once t.tags t.vecSent t.vecMask t.fq t.ev t.out t.canal t.hg t.flt t.sup t.held t.air x0 t.lk t.pair t.gn t.tm t.disp t.ls t.mot t.motNsp t.rtk t.rt t.clk t.met t.key t.dbg t.boot).wf = t.wf := rfl
theorem State.wf_boot (t : State) (x0 : BootSt) :
    (State.mk t.pending t.now t.ft t.fresh t.regs t.ctrs t.latch t.tbl t.dram t.pg t.once t.tags t.vecSent t.vecMask t.fq t.ev t.out t.canal t.hg t.flt t.sup t.held t.air t.arb t.lk t.pair t.gn t.tm t.disp t.ls t.mot t.motNsp t.rtk t.rt t.clk t.met t.key t.dbg x0).wf = t.wf := rfl
theorem State.wf_canal (t : State) (x0 : CanalSt) :
    (State.mk t.pending t.now t.ft t.fresh t.regs t.ctrs t.latch t.tbl t.dram t.pg t.once t.tags t.vecSent t.vecMask t.fq t.ev t.out x0 t.hg t.flt t.sup t.held t.air t.arb t.lk t.pair t.gn t.tm t.disp t.ls t.mot t.motNsp t.rtk t.rt t.clk t.met t.key t.dbg t.boot).wf = t.wf := rfl
theorem State.wf_canal_hg_air_rtk_rt_clk_met (t : State) (x0 : CanalSt) (x1 : HgSt) (x2 : AirSt) (x3 : RtkSt) (x4 : RouteSt) (x5 : ClkSt) (x6 : MeterSt) :
    (State.mk t.pending t.now t.ft t.fresh t.regs t.ctrs t.latch t.tbl t.dram t.pg t.once t.tags t.vecSent t.vecMask t.fq t.ev t.out x0 x1 t.flt t.sup t.held x2 t.arb t.lk t.pair t.gn t.tm t.disp t.ls t.mot t.motNsp x3 x4 x5 x6 t.key t.dbg t.boot).wf = t.wf := rfl
theorem State.wf_clk (t : State) (x0 : ClkSt) :
    (State.mk t.pending t.now t.ft t.fresh t.regs t.ctrs t.latch t.tbl t.dram t.pg t.once t.tags t.vecSent t.vecMask t.fq t.ev t.out t.canal t.hg t.flt t.sup t.held t.air t.arb t.lk t.pair t.gn t.tm t.disp t.ls t.mot t.motNsp t.rtk t.rt x0 t.met t.key t.dbg t.boot).wf = t.wf := rfl
theorem State.wf_dbg (t : State) (x0 : DebugSt) :
    (State.mk t.pending t.now t.ft t.fresh t.regs t.ctrs t.latch t.tbl t.dram t.pg t.once t.tags t.vecSent t.vecMask t.fq t.ev t.out t.canal t.hg t.flt t.sup t.held t.air t.arb t.lk t.pair t.gn t.tm t.disp t.ls t.mot t.motNsp t.rtk t.rt t.clk t.met t.key x0 t.boot).wf = t.wf := rfl
theorem State.wf_disp (t : State) (x0 : DispSt) :
    (State.mk t.pending t.now t.ft t.fresh t.regs t.ctrs t.latch t.tbl t.dram t.pg t.once t.tags t.vecSent t.vecMask t.fq t.ev t.out t.canal t.hg t.flt t.sup t.held t.air t.arb t.lk t.pair t.gn t.tm x0 t.ls t.mot t.motNsp t.rtk t.rt t.clk t.met t.key t.dbg t.boot).wf = t.wf := rfl
theorem State.wf_ev (t : State) (x0 : EvLogSt) :
    (State.mk t.pending t.now t.ft t.fresh t.regs t.ctrs t.latch t.tbl t.dram t.pg t.once t.tags t.vecSent t.vecMask t.fq x0 t.out t.canal t.hg t.flt t.sup t.held t.air t.arb t.lk t.pair t.gn t.tm t.disp t.ls t.mot t.motNsp t.rtk t.rt t.clk t.met t.key t.dbg t.boot).wf = t.wf := rfl
theorem State.wf_flt (t : State) (x0 : FltSt) :
    (State.mk t.pending t.now t.ft t.fresh t.regs t.ctrs t.latch t.tbl t.dram t.pg t.once t.tags t.vecSent t.vecMask t.fq t.ev t.out t.canal t.hg x0 t.sup t.held t.air t.arb t.lk t.pair t.gn t.tm t.disp t.ls t.mot t.motNsp t.rtk t.rt t.clk t.met t.key t.dbg t.boot).wf = t.wf := rfl
theorem State.wf_fq (t : State) (x0 : List FQ) :
    (State.mk t.pending t.now t.ft t.fresh t.regs t.ctrs t.latch t.tbl t.dram t.pg t.once t.tags t.vecSent t.vecMask x0 t.ev t.out t.canal t.hg t.flt t.sup t.held t.air t.arb t.lk t.pair t.gn t.tm t.disp t.ls t.mot t.motNsp t.rtk t.rt t.clk t.met t.key t.dbg t.boot).wf = t.wf := rfl
theorem State.wf_fq_lk (t : State) (x0 : List FQ) (x1 : LinkSt) :
    (State.mk t.pending t.now t.ft t.fresh t.regs t.ctrs t.latch t.tbl t.dram t.pg t.once t.tags t.vecSent t.vecMask x0 t.ev t.out t.canal t.hg t.flt t.sup t.held t.air t.arb x1 t.pair t.gn t.tm t.disp t.ls t.mot t.motNsp t.rtk t.rt t.clk t.met t.key t.dbg t.boot).wf = t.wf := rfl
theorem State.wf_fresh (t : State) (x0 : Nat) :
    (State.mk t.pending t.now t.ft x0 t.regs t.ctrs t.latch t.tbl t.dram t.pg t.once t.tags t.vecSent t.vecMask t.fq t.ev t.out t.canal t.hg t.flt t.sup t.held t.air t.arb t.lk t.pair t.gn t.tm t.disp t.ls t.mot t.motNsp t.rtk t.rt t.clk t.met t.key t.dbg t.boot).wf = t.wf := rfl
theorem State.wf_ft (t : State) (x0 : Nat) :
    (State.mk t.pending t.now x0 t.fresh t.regs t.ctrs t.latch t.tbl t.dram t.pg t.once t.tags t.vecSent t.vecMask t.fq t.ev t.out t.canal t.hg t.flt t.sup t.held t.air t.arb t.lk t.pair t.gn t.tm t.disp t.ls t.mot t.motNsp t.rtk t.rt t.clk t.met t.key t.dbg t.boot).wf = t.wf := rfl
theorem State.wf_ft_clk (t : State) (x0 : Nat) (x1 : ClkSt) :
    (State.mk t.pending t.now x0 t.fresh t.regs t.ctrs t.latch t.tbl t.dram t.pg t.once t.tags t.vecSent t.vecMask t.fq t.ev t.out t.canal t.hg t.flt t.sup t.held t.air t.arb t.lk t.pair t.gn t.tm t.disp t.ls t.mot t.motNsp t.rtk t.rt x1 t.met t.key t.dbg t.boot).wf = t.wf := rfl
theorem State.wf_ft_sup (t : State) (x0 : Nat) (x1 : SupplySt) :
    (State.mk t.pending t.now x0 t.fresh t.regs t.ctrs t.latch t.tbl t.dram t.pg t.once t.tags t.vecSent t.vecMask t.fq t.ev t.out t.canal t.hg t.flt x1 t.held t.air t.arb t.lk t.pair t.gn t.tm t.disp t.ls t.mot t.motNsp t.rtk t.rt t.clk t.met t.key t.dbg t.boot).wf = t.wf := rfl
theorem State.wf_gn (t : State) (x0 : GnssSt) :
    (State.mk t.pending t.now t.ft t.fresh t.regs t.ctrs t.latch t.tbl t.dram t.pg t.once t.tags t.vecSent t.vecMask t.fq t.ev t.out t.canal t.hg t.flt t.sup t.held t.air t.arb t.lk t.pair x0 t.tm t.disp t.ls t.mot t.motNsp t.rtk t.rt t.clk t.met t.key t.dbg t.boot).wf = t.wf := rfl
theorem State.wf_held (t : State) (x0 : List Held) :
    (State.mk t.pending t.now t.ft t.fresh t.regs t.ctrs t.latch t.tbl t.dram t.pg t.once t.tags t.vecSent t.vecMask t.fq t.ev t.out t.canal t.hg t.flt t.sup x0 t.air t.arb t.lk t.pair t.gn t.tm t.disp t.ls t.mot t.motNsp t.rtk t.rt t.clk t.met t.key t.dbg t.boot).wf = t.wf := rfl
theorem State.wf_held_tm (t : State) (x0 : List Held) (x1 : TimeSt) :
    (State.mk t.pending t.now t.ft t.fresh t.regs t.ctrs t.latch t.tbl t.dram t.pg t.once t.tags t.vecSent t.vecMask t.fq t.ev t.out t.canal t.hg t.flt t.sup x0 t.air t.arb t.lk t.pair t.gn x1 t.disp t.ls t.mot t.motNsp t.rtk t.rt t.clk t.met t.key t.dbg t.boot).wf = t.wf := rfl
theorem State.wf_hg (t : State) (x0 : HgSt) :
    (State.mk t.pending t.now t.ft t.fresh t.regs t.ctrs t.latch t.tbl t.dram t.pg t.once t.tags t.vecSent t.vecMask t.fq t.ev t.out t.canal x0 t.flt t.sup t.held t.air t.arb t.lk t.pair t.gn t.tm t.disp t.ls t.mot t.motNsp t.rtk t.rt t.clk t.met t.key t.dbg t.boot).wf = t.wf := rfl
theorem State.wf_key (t : State) (x0 : KeySt) :
    (State.mk t.pending t.now t.ft t.fresh t.regs t.ctrs t.latch t.tbl t.dram t.pg t.once t.tags t.vecSent t.vecMask t.fq t.ev t.out t.canal t.hg t.flt t.sup t.held t.air t.arb t.lk t.pair t.gn t.tm t.disp t.ls t.mot t.motNsp t.rtk t.rt t.clk t.met x0 t.dbg t.boot).wf = t.wf := rfl
theorem State.wf_key_boot (t : State) (x0 : KeySt) (x1 : BootSt) :
    (State.mk t.pending t.now t.ft t.fresh t.regs t.ctrs t.latch t.tbl t.dram t.pg t.once t.tags t.vecSent t.vecMask t.fq t.ev t.out t.canal t.hg t.flt t.sup t.held t.air t.arb t.lk t.pair t.gn t.tm t.disp t.ls t.mot t.motNsp t.rtk t.rt t.clk t.met x0 t.dbg x1).wf = t.wf := rfl
theorem State.wf_lk (t : State) (x0 : LinkSt) :
    (State.mk t.pending t.now t.ft t.fresh t.regs t.ctrs t.latch t.tbl t.dram t.pg t.once t.tags t.vecSent t.vecMask t.fq t.ev t.out t.canal t.hg t.flt t.sup t.held t.air t.arb x0 t.pair t.gn t.tm t.disp t.ls t.mot t.motNsp t.rtk t.rt t.clk t.met t.key t.dbg t.boot).wf = t.wf := rfl
theorem State.wf_ls (t : State) (x0 : LeaseSt) :
    (State.mk t.pending t.now t.ft t.fresh t.regs t.ctrs t.latch t.tbl t.dram t.pg t.once t.tags t.vecSent t.vecMask t.fq t.ev t.out t.canal t.hg t.flt t.sup t.held t.air t.arb t.lk t.pair t.gn t.tm t.disp x0 t.mot t.motNsp t.rtk t.rt t.clk t.met t.key t.dbg t.boot).wf = t.wf := rfl
theorem State.wf_met (t : State) (x0 : MeterSt) :
    (State.mk t.pending t.now t.ft t.fresh t.regs t.ctrs t.latch t.tbl t.dram t.pg t.once t.tags t.vecSent t.vecMask t.fq t.ev t.out t.canal t.hg t.flt t.sup t.held t.air t.arb t.lk t.pair t.gn t.tm t.disp t.ls t.mot t.motNsp t.rtk t.rt t.clk x0 t.key t.dbg t.boot).wf = t.wf := rfl
theorem State.wf_out (t : State) (x0 : List Out) :
    (State.mk t.pending t.now t.ft t.fresh t.regs t.ctrs t.latch t.tbl t.dram t.pg t.once t.tags t.vecSent t.vecMask t.fq t.ev x0 t.canal t.hg t.flt t.sup t.held t.air t.arb t.lk t.pair t.gn t.tm t.disp t.ls t.mot t.motNsp t.rtk t.rt t.clk t.met t.key t.dbg t.boot).wf = t.wf := rfl
theorem State.wf_pair (t : State) (x0 : PairSt) :
    (State.mk t.pending t.now t.ft t.fresh t.regs t.ctrs t.latch t.tbl t.dram t.pg t.once t.tags t.vecSent t.vecMask t.fq t.ev t.out t.canal t.hg t.flt t.sup t.held t.air t.arb t.lk x0 t.gn t.tm t.disp t.ls t.mot t.motNsp t.rtk t.rt t.clk t.met t.key t.dbg t.boot).wf = t.wf := rfl
theorem State.wf_pair_boot (t : State) (x0 : PairSt) (x1 : BootSt) :
    (State.mk t.pending t.now t.ft t.fresh t.regs t.ctrs t.latch t.tbl t.dram t.pg t.once t.tags t.vecSent t.vecMask t.fq t.ev t.out t.canal t.hg t.flt t.sup t.held t.air t.arb t.lk x0 t.gn t.tm t.disp t.ls t.mot t.motNsp t.rtk t.rt t.clk t.met t.key t.dbg x1).wf = t.wf := rfl
theorem State.wf_pair_ls (t : State) (x0 : PairSt) (x1 : LeaseSt) :
    (State.mk t.pending t.now t.ft t.fresh t.regs t.ctrs t.latch t.tbl t.dram t.pg t.once t.tags t.vecSent t.vecMask t.fq t.ev t.out t.canal t.hg t.flt t.sup t.held t.air t.arb t.lk x0 t.gn t.tm t.disp x1 t.mot t.motNsp t.rtk t.rt t.clk t.met t.key t.dbg t.boot).wf = t.wf := rfl
theorem State.wf_rt (t : State) (x0 : RouteSt) :
    (State.mk t.pending t.now t.ft t.fresh t.regs t.ctrs t.latch t.tbl t.dram t.pg t.once t.tags t.vecSent t.vecMask t.fq t.ev t.out t.canal t.hg t.flt t.sup t.held t.air t.arb t.lk t.pair t.gn t.tm t.disp t.ls t.mot t.motNsp t.rtk x0 t.clk t.met t.key t.dbg t.boot).wf = t.wf := rfl
theorem State.wf_rtk (t : State) (x0 : RtkSt) :
    (State.mk t.pending t.now t.ft t.fresh t.regs t.ctrs t.latch t.tbl t.dram t.pg t.once t.tags t.vecSent t.vecMask t.fq t.ev t.out t.canal t.hg t.flt t.sup t.held t.air t.arb t.lk t.pair t.gn t.tm t.disp t.ls t.mot t.motNsp x0 t.rt t.clk t.met t.key t.dbg t.boot).wf = t.wf := rfl
theorem State.wf_sup (t : State) (x0 : SupplySt) :
    (State.mk t.pending t.now t.ft t.fresh t.regs t.ctrs t.latch t.tbl t.dram t.pg t.once t.tags t.vecSent t.vecMask t.fq t.ev t.out t.canal t.hg t.flt x0 t.held t.air t.arb t.lk t.pair t.gn t.tm t.disp t.ls t.mot t.motNsp t.rtk t.rt t.clk t.met t.key t.dbg t.boot).wf = t.wf := rfl
theorem State.wf_sup_gn_tm (t : State) (x0 : SupplySt) (x1 : GnssSt) (x2 : TimeSt) :
    (State.mk t.pending t.now t.ft t.fresh t.regs t.ctrs t.latch t.tbl t.dram t.pg t.once t.tags t.vecSent t.vecMask t.fq t.ev t.out t.canal t.hg t.flt x0 t.held t.air t.arb t.lk t.pair x1 x2 t.disp t.ls t.mot t.motNsp t.rtk t.rt t.clk t.met t.key t.dbg t.boot).wf = t.wf := rfl
theorem State.wf_tags (t : State) (x0 : List (Nat × Compl)) :
    (State.mk t.pending t.now t.ft t.fresh t.regs t.ctrs t.latch t.tbl t.dram t.pg t.once x0 t.vecSent t.vecMask t.fq t.ev t.out t.canal t.hg t.flt t.sup t.held t.air t.arb t.lk t.pair t.gn t.tm t.disp t.ls t.mot t.motNsp t.rtk t.rt t.clk t.met t.key t.dbg t.boot).wf = t.wf := rfl
theorem State.wf_tm (t : State) (x0 : TimeSt) :
    (State.mk t.pending t.now t.ft t.fresh t.regs t.ctrs t.latch t.tbl t.dram t.pg t.once t.tags t.vecSent t.vecMask t.fq t.ev t.out t.canal t.hg t.flt t.sup t.held t.air t.arb t.lk t.pair t.gn x0 t.disp t.ls t.mot t.motNsp t.rtk t.rt t.clk t.met t.key t.dbg t.boot).wf = t.wf := rfl
theorem State.wf_vecMask (t : State) (x0 : List Nat) :
    (State.mk t.pending t.now t.ft t.fresh t.regs t.ctrs t.latch t.tbl t.dram t.pg t.once t.tags t.vecSent x0 t.fq t.ev t.out t.canal t.hg t.flt t.sup t.held t.air t.arb t.lk t.pair t.gn t.tm t.disp t.ls t.mot t.motNsp t.rtk t.rt t.clk t.met t.key t.dbg t.boot).wf = t.wf := rfl
theorem State.wf_vecSent (t : State) (x0 : List Nat) :
    (State.mk t.pending t.now t.ft t.fresh t.regs t.ctrs t.latch t.tbl t.dram t.pg t.once t.tags x0 t.vecMask t.fq t.ev t.out t.canal t.hg t.flt t.sup t.held t.air t.arb t.lk t.pair t.gn t.tm t.disp t.ls t.mot t.motNsp t.rtk t.rt t.clk t.met t.key t.dbg t.boot).wf = t.wf := rfl
theorem State.each_wf {α : Type} (s : State) (l : List α) (f : State → α → State) (h : ∀ t x, Kept (f t x) t) : Kept (s.each l f) s := by
  unfold State.each
  induction l generalizing s with
  | nil => exact id
  | cons x r ih => exact (ih (f s x)).trans (h s x)
theorem State.on_wf (s : State) (c : Bool) (f : State → State) (h : Kept (f s) s) : Kept (s.on c f) s := by
  cases c
  · exact id
  · exact h
theorem ite_wf {c : Prop} [Decidable c] {a b s : State} (ha : Kept a s) (hb : Kept b s) : Kept (if c then a else b) s := by
  split
  · exact ha
  · exact hb
theorem ite_reswf {c : Prop} [Decidable c] {a b : Res} {s : State} (ha : ResKept a s) (hb : ResKept b s) : ResKept (if c then a else b) s := by
  split
  · exact ha
  · exact hb
theorem ite_wf' {c : Prop} [Decidable c] {a b : State} (ha : a.wf = true) (hb : b.wf = true) : (if c then a else b).wf = true := by
  split
  · exact ha
  · exact hb
theorem ite_reswf' {c : Prop} [Decidable c] {a b : Res} (ha : Res.wf a = true) (hb : Res.wf b = true) :
    Res.wf (if c then a else b) = true := by
  split
  · exact ha
  · exact hb
theorem next_wf {t : State} (h : t.wf = true) : Res.wf (.next t) = true := h
theorem foldl_wf {α β : Type} (l : List α) (g : β → State) (f : β → α → β) (h : ∀ b x, Kept (g (f b x)) (g b)) (b : β) :
    Kept (g (l.foldl f b)) (g b) := by
  induction l generalizing b with
  | nil => exact id
  | cons x r ih => exact (ih (f b x)).trans (h b x)
/-- The eight conditions of `State.wf`. -/
theorem State.wf_iff (s : State) : s.wf = true ↔ AMap.wf regReset s.regs = true ∧ AMap.wf (fun _ => (0 : BitVec 64)) s.ctrs = true ∧
    AMap.wf (fun _ => (0 : Word)) s.latch = true ∧ AMap.wf tblReset s.tbl = true ∧ AMap.wf (fun _ => (0 : Byte)) s.dram = true ∧
    AMap.wf (fun _ => ({} : PageSt)) s.pg = true ∧ AMap.wf (fun _ => 0) s.once = true ∧ AMap.wf (fun _ => ({} : MotSt)) s.mot = true := by
  simp only [State.wf, Bool.and_eq_true, and_assoc]

theorem State.keep_regs (t : State) (x : AMap Word) (hx : AMap.wf regReset t.regs = true → AMap.wf regReset x = true) : Kept { t with regs := x } t := by
  intro w
  rw [State.wf_iff] at w ⊢
  exact ⟨(hx w.1), (w.2.1), (w.2.2.1), (w.2.2.2.1), (w.2.2.2.2.1), (w.2.2.2.2.2.1), (w.2.2.2.2.2.2.1), (w.2.2.2.2.2.2.2)⟩

theorem State.setReg_wf (s : State) (a v : Nat) : Kept (s.setReg a v) s := State.keep_regs s _ (AMap.wf_set _ _ _ _)

theorem State.setTblData_wf (s : State) (a1 : Page) (a2 : Nat) : Kept (State.setTblData s a1 a2) s := by
  unfold State.setTblData
  intro h
  try dsimp only
  repeat' first
    | with_reducible assumption
    | with_reducible apply State.setReg_wf
    | with_reducible apply State.on_wf
    | with_reducible apply State.each_wf
    | with_reducible apply ite_wf'
    | with_reducible apply ite_reswf'
    | with_reducible apply next_wf
    | (intro _)
    | split

theorem State.emit_wf (s : State) (a1 : Out) : Kept (State.emit s a1) s := by
  unfold State.emit
  intro h
  simp +contextual only [h, State.wf_out, wf_next, ite_self, implies_true, State.each_wf, State.on_wf, apply_ite State.wf, apply_ite Res.wf, apply_ite Prod.fst, apply_ite Prod.snd, if_true]

theorem State.keep_ctrs (t : State) (x : AMap (BitVec 64)) (hx : AMap.wf (fun _ => (0 : BitVec 64)) t.ctrs = true → AMap.wf (fun _ => (0 : BitVec 64)) x = true) : Kept { t with ctrs := x } t := by
  intro w
  rw [State.wf_iff] at w ⊢
  exact ⟨(w.1), (hx w.2.1), (w.2.2.1), (w.2.2.2.1), (w.2.2.2.2.1), (w.2.2.2.2.2.1), (w.2.2.2.2.2.2.1), (w.2.2.2.2.2.2.2)⟩

theorem State.incAt_wf (s : State) (a n : Nat) : Kept (s.incAt a n) s := State.keep_ctrs s _ (AMap.wf_set _ _ _ _)

theorem State.incP_wf (s : State) (a1 : Page) (a2 : Ctr) (a3 : optParam Nat 1) : Kept (State.incP s a1 a2 a3) s := by
  unfold State.incP
  intro h
  simp +contextual only [h, State.incAt_wf, wf_next, ite_self, implies_true, State.each_wf, State.on_wf, apply_ite State.wf, apply_ite Res.wf, apply_ite Prod.fst, apply_ite Prod.snd, if_true]

theorem State.inc_wf (s : State) (a1 : Ctr) (a2 : optParam Nat 0) (a3 : optParam Nat 1) : Kept (State.inc s a1 a2 a3) s := by
  unfold State.inc
  intro h
  simp +contextual only [h, State.incP_wf, wf_next, ite_self, implies_true, State.each_wf, State.on_wf, apply_ite State.wf, apply_ite Res.wf, apply_ite Prod.fst, apply_ite Prod.snd, if_true]

theorem State.sendVec_wf (s : State) (a1 : Nat) : Kept (State.sendVec s a1) s := by
  unfold State.sendVec
  intro h
  simp +contextual only [h, State.inc_wf, State.emit_wf, State.wf_vecSent, wf_next, ite_self, implies_true, State.each_wf, State.on_wf, apply_ite State.wf, apply_ite Res.wf, apply_ite Prod.fst, apply_ite Prod.snd, if_true]

theorem State.assertSrc_wf (s : State) (a1 : Nat) : Kept (State.assertSrc s a1) s := by
  unfold State.assertSrc
  intro h
  simp +contextual only [h, State.emit_wf, State.sendVec_wf, wf_next, ite_self, implies_true, State.each_wf, State.on_wf, apply_ite State.wf, apply_ite Res.wf, apply_ite Prod.fst, apply_ite Prod.snd, if_true]

theorem State.irqBits_wf (s : State) (a1 : Page) (a2 : Nat) : Kept (State.irqBits s a1 a2) s := by
  unfold State.irqBits
  intro h
  simp +contextual only [h, State.setReg_wf, State.assertSrc_wf, wf_next, ite_self, implies_true, State.each_wf, State.on_wf, apply_ite State.wf, apply_ite Res.wf, apply_ite Prod.fst, apply_ite Prod.snd, if_true]

theorem State.irq_wf (s : State) (a1 : Page) (a2 : Nat) : Kept (State.irq s a1 a2) s := by
  unfold State.irq
  intro h
  simp +contextual only [h, State.irqBits_wf, wf_next, ite_self, implies_true, State.each_wf, State.on_wf, apply_ite State.wf, apply_ite Res.wf, apply_ite Prod.fst, apply_ite Prod.snd, if_true]

theorem State.setQ_wf (s : State) (a1 : Nat) (a2 : FQ) : Kept (State.setQ s a1 a2) s := by
  unfold State.setQ
  intro h
  simp +contextual only [h, State.wf_fq, wf_next, ite_self, implies_true, State.each_wf, State.on_wf, apply_ite State.wf, apply_ite Res.wf, apply_ite Prod.fst, apply_ite Prod.snd, if_true]

theorem State.qevent_wf (s : State) (a1 : Nat) (a2 : Nat) : Kept (State.qevent s a1 a2) s := by
  unfold State.qevent
  intro h
  simp +contextual only [h, State.setQ_wf, State.assertSrc_wf, wf_next, ite_self, implies_true, State.each_wf, State.on_wf, apply_ite State.wf, apply_ite Res.wf, apply_ite Prod.fst, apply_ite Prod.snd, if_true]

theorem State.qLose_wf (s : State) (a1 : Nat) (a2 : Nat) : Kept (State.qLose s a1 a2) s := by
  unfold State.qLose
  intro h
  simp +contextual only [h, State.qevent_wf, State.setQ_wf, wf_next, ite_self, implies_true, State.each_wf, State.on_wf, apply_ite State.wf, apply_ite Res.wf, apply_ite Prod.fst, apply_ite Prod.snd, if_true]

theorem State.qMakeRoom_wf (s : State) (n need k : Nat) : Kept (s.qMakeRoom n need k) s := by
  induction k generalizing s with
  | zero => exact id
  | succ k ih =>
    unfold State.qMakeRoom
    exact ite_wf id ((ih _).trans ((State.qLose_wf _ _ _).trans (State.setQ_wf _ _ _)))

theorem State.takeMseq_wf (s : State) (a1 : Nat) : Kept (State.takeMseq s a1).2 s := by
  unfold State.takeMseq
  intro h
  simp +contextual only [h, State.wf_canal, wf_next, ite_self, implies_true, State.each_wf, State.on_wf, apply_ite State.wf, apply_ite Res.wf, apply_ite Prod.fst, apply_ite Prod.snd, if_true]

theorem State.setCport_wf (s : State) (a1 : Nat) (a2 : CanalPort) : Kept (State.setCport s a1 a2) s := by
  unfold State.setCport
  intro h
  simp +contextual only [h, State.wf_canal, wf_next, ite_self, implies_true, State.each_wf, State.on_wf, apply_ite State.wf, apply_ite Res.wf, apply_ite Prod.fst, apply_ite Prod.snd, if_true]

theorem State.canalTurn_wf (s : State) (a1 : Nat) : Kept (State.canalTurn s a1) s := by
  unfold State.canalTurn
  intro h
  try dsimp only
  repeat' first
    | with_reducible assumption
    | with_reducible apply State.inc_wf
    | with_reducible apply State.emit_wf
    | with_reducible apply State.setCport_wf
    | with_reducible apply State.on_wf
    | with_reducible apply State.each_wf
    | with_reducible apply ite_wf'
    | with_reducible apply ite_reswf'
    | with_reducible apply next_wf
    | (intro _)
    | split

theorem State.canalPump_wf (s : State) (a1 : Nat) : Kept (State.canalPump s a1) s := by
  unfold State.canalPump
  intro h
  try dsimp only
  repeat' first
    | with_reducible assumption
    | with_reducible apply State.canalTurn_wf
    | with_reducible apply State.on_wf
    | with_reducible apply State.each_wf
    | with_reducible apply ite_wf'
    | with_reducible apply ite_reswf'
    | with_reducible apply next_wf
    | (intro _)
    | split

theorem State.canalOut_wf (s : State) (a1 : Nat) (a2 : CanalMsg) : Kept (State.canalOut s a1 a2) s := by
  unfold State.canalOut
  intro h
  simp +contextual only [h, State.canalPump_wf, State.setCport_wf, wf_next, ite_self, implies_true, State.each_wf, State.on_wf, apply_ite State.wf, apply_ite Res.wf, apply_ite Prod.fst, apply_ite Prod.snd, if_true]

theorem State.canalUnicast_wf (s : State) (a1 : Nat) (a2 : Nat) (a3 : CanalBody) : Kept (State.canalUnicast s a1 a2 a3) s := by
  unfold State.canalUnicast
  intro h
  grind [State.takeMseq_wf, State.canalOut_wf, State.inc_wf, wf_next]

theorem State.emitFlume_wf (s : State) (a1 : Nat) (a2 : FFrame) : Kept (State.emitFlume s a1 a2) s := by
  unfold State.emitFlume
  intro h
  simp +contextual only [h, State.emit_wf, wf_next, ite_self, implies_true, State.each_wf, State.on_wf, apply_ite State.wf, apply_ite Res.wf, apply_ite Prod.fst, apply_ite Prod.snd, if_true]

theorem State.sendFrame_wf (s : State) (a1 : FQ) (a2 : FFrame) : Kept (State.sendFrame s a1 a2) s := by
  unfold State.sendFrame
  intro h
  try dsimp only
  repeat' first
    | with_reducible assumption
    | with_reducible apply State.inc_wf
    | with_reducible apply State.canalUnicast_wf
    | with_reducible apply State.emitFlume_wf
    | with_reducible apply State.on_wf
    | with_reducible apply State.each_wf
    | with_reducible apply ite_wf'
    | with_reducible apply ite_reswf'
    | with_reducible apply next_wf
    | (intro _)
    | split

theorem State.qTurn_wf (s : State) (a1 : Nat) : Kept (State.qTurn s a1) s := by
  fun_cases State.qTurn <;> intro h <;> simp +contextual only [h, State.sendFrame_wf, State.setQ_wf, wf_next, implies_true, State.each_wf, State.on_wf]

theorem State.qPump_wf (s : State) (a1 : Nat) : Kept (State.qPump s a1) s := by
  unfold State.qPump
  intro h
  try dsimp only
  repeat' first
    | with_reducible assumption
    | with_reducible apply State.qTurn_wf
    | with_reducible apply State.on_wf
    | with_reducible apply State.each_wf
    | with_reducible apply ite_wf'
    | with_reducible apply ite_reswf'
    | with_reducible apply next_wf
    | (intro _)
    | split

theorem State.qPush_wf (s : State) (a1 : Nat) (a2 : Nat) (a3 : FBody) : Kept (State.qPush s a1 a2 a3) s := by
  unfold State.qPush
  intro h
  try dsimp only
  repeat' first
    | with_reducible assumption
    | with_reducible apply State.qLose_wf
    | with_reducible apply State.setQ_wf
    | with_reducible apply State.qMakeRoom_wf
    | with_reducible apply State.qPump_wf
    | with_reducible apply State.on_wf
    | with_reducible apply State.each_wf
    | with_reducible apply ite_wf'
    | with_reducible apply ite_reswf'
    | with_reducible apply next_wf
    | (intro _)
    | split

theorem State.writeCompl_wf (s : State) (a1 : Src) (a2 : Nat) (a3 : Compl) : Kept (State.writeCompl s a1 a2 a3) s := by
  unfold State.writeCompl
  intro h
  dsimp only
  (repeat' split) <;> simp +contextual only [h, State.qPush_wf, State.emit_wf, State.wf_tags, wf_next, implies_true, State.each_wf, State.on_wf]

theorem State.tblDone_wf (s : State) (a1 : Via) (a2 : Page) (a3 : Nat) (a4 : TRes) : Kept (State.tblDone s a1 a2 a3 a4) s := by
  unfold State.tblDone
  intro h
  try dsimp only
  repeat' first
    | with_reducible assumption
    | with_reducible apply State.setReg_wf
    | with_reducible apply State.setTblData_wf
    | with_reducible apply State.irq_wf
    | with_reducible apply State.writeCompl_wf
    | with_reducible apply State.on_wf
    | with_reducible apply State.each_wf
    | with_reducible apply ite_wf'
    | with_reducible apply ite_reswf'
    | with_reducible apply next_wf
    | (intro _)
    | split

theorem State.abortHeld_wf (s : State) (a1 : Page) (a2 : Nat) : Kept (State.abortHeld s a1 a2) s := by
  unfold State.abortHeld
  intro h
  try dsimp only
  repeat' first
    | with_reducible assumption
    | with_reducible apply State.tblDone_wf
    | with_reducible apply State.on_wf
    | with_reducible apply State.each_wf
    | with_reducible apply ite_wf'
    | with_reducible apply ite_reswf'
    | with_reducible apply next_wf
    | simp only [State.wf_held]
    | (intro _)
    | split

theorem State.abortAll_wf (s : State) : Kept (State.abortAll s) s := by
  unfold State.abortAll
  intro h
  try dsimp only
  repeat' first
    | with_reducible assumption
    | with_reducible apply State.abortHeld_wf
    | with_reducible apply State.on_wf
    | with_reducible apply State.each_wf
    | with_reducible apply ite_wf'
    | with_reducible apply ite_reswf'
    | with_reducible apply next_wf
    | (intro _)
    | split

theorem State.set_wf (s : State) (a1 : Fld) (a2 : Nat) (a3 : optParam Nat 0) (a4 : optParam Nat 0) : Kept (State.set s a1 a2 a3 a4) s := by
  unfold State.set
  intro h
  simp +contextual only [h, State.setReg_wf, wf_next, ite_self, implies_true, State.each_wf, State.on_wf, apply_ite State.wf, apply_ite Res.wf, apply_ite Prod.fst, apply_ite Prod.snd, if_true]

theorem State.takeSeq_wf (s : State) : Kept (State.takeSeq s) s := by
  unfold State.takeSeq
  intro h
  simp +contextual only [h, State.set_wf, wf_next, ite_self, implies_true, State.each_wf, State.on_wf, apply_ite State.wf, apply_ite Res.wf, apply_ite Prod.fst, apply_ite Prod.snd, if_true]

theorem State.keep_tbl (t : State) (x : AMap Nat) (hx : AMap.wf tblReset t.tbl = true → AMap.wf tblReset x = true) : Kept { t with tbl := x } t := by
  intro w
  rw [State.wf_iff] at w ⊢
  exact ⟨(w.1), (w.2.1), (w.2.2.1), (hx w.2.2.2.1), (w.2.2.2.2.1), (w.2.2.2.2.2.1), (w.2.2.2.2.2.2.1), (w.2.2.2.2.2.2.2)⟩

theorem State.setTe_wf (s : State) (p : Page) (t i v : Nat) : Kept (s.setTe p t i v) s := by
  have h := State.keep_tbl s _ (AMap.wf_set tblReset s.tbl (p.tblKey t i) v)
  unfold State.setTe
  exact ite_wf h h

theorem State.turnShow_wf (s : State) (a1 : Nat) : Kept (State.turnShow s a1) s := by
  unfold State.turnShow
  intro h
  simp +contextual only [h, State.setTe_wf, wf_next, ite_self, implies_true, State.each_wf, State.on_wf, apply_ite State.wf, apply_ite Res.wf, apply_ite Prod.fst, apply_ite Prod.snd, if_true]

theorem State.dropSeq_wf (s : State) (a1 : Nat) : Kept (State.dropSeq s a1) s := by
  unfold State.dropSeq
  intro h
  simp +contextual only [h, State.set_wf, State.wf_ls, wf_next, ite_self, implies_true, State.each_wf, State.on_wf, apply_ite State.wf, apply_ite Res.wf, apply_ite Prod.fst, apply_ite Prod.snd, if_true]

theorem State.leaseSend_wf (s : State) (a1 : Nat) (a2 : LeaseMsg) : Kept (State.leaseSend s a1 a2) s := by
  unfold State.leaseSend
  intro h
  simp +contextual only [h, State.canalUnicast_wf, wf_next, ite_self, implies_true, State.each_wf, State.on_wf, apply_ite State.wf, apply_ite Res.wf, apply_ite Prod.fst, apply_ite Prod.snd, if_true]

theorem State.sendRelease_wf (s : State) (a1 : Nat) (a2 : Nat) (a3 : Nat) (a4 : Nat) (a5 : Nat) : Kept (State.sendRelease s a1 a2 a3 a4 a5) s := by
  unfold State.sendRelease
  intro h
  simp +contextual only [h, State.leaseSend_wf, State.wf_ls, wf_next, ite_self, implies_true, State.each_wf, State.on_wf, apply_ite State.wf, apply_ite Res.wf, apply_ite Prod.fst, apply_ite Prod.snd, if_true]

theorem State.setLe_wf (s : State) (a1 : Nat) (a2 : Nat) : Kept (State.setLe s a1 a2) s := by
  unfold State.setLe
  intro h
  simp +contextual only [h, State.setTe_wf, wf_next, ite_self, implies_true, State.each_wf, State.on_wf, apply_ite State.wf, apply_ite Res.wf, apply_ite Prod.fst, apply_ite Prod.snd, if_true]

theorem State.freeLe_wf (s : State) (a1 : Nat) : Kept (State.freeLe s a1) s := by
  unfold State.freeLe
  intro h
  try dsimp only
  repeat' first
    | with_reducible assumption
    | with_reducible apply State.setTe_wf
    | with_reducible apply State.setLe_wf
    | with_reducible apply State.on_wf
    | with_reducible apply State.each_wf
    | with_reducible apply ite_wf'
    | with_reducible apply ite_reswf'
    | with_reducible apply next_wf
    | (intro _)
    | split

theorem State.freeLock_wf (s : State) (a1 : Nat) : Kept (State.freeLock s a1) s := by
  unfold State.freeLock
  intro h
  simp +contextual only [h, State.turnShow_wf, State.freeLe_wf, wf_next, ite_self, implies_true, State.each_wf, State.on_wf, apply_ite State.wf, apply_ite Res.wf, apply_ite Prod.fst, apply_ite Prod.snd, if_true]

theorem State.leaseShow_wf (s : State) : Kept (State.leaseShow s) s := by
  unfold State.leaseShow
  intro h
  try dsimp only
  repeat' first
    | with_reducible assumption
    | with_reducible apply State.set_wf
    | with_reducible apply State.on_wf
    | with_reducible apply State.each_wf
    | with_reducible apply ite_wf'
    | with_reducible apply ite_reswf'
    | with_reducible apply next_wf
    | (intro _)
    | split

theorem State.leSet_wf (s : State) (a1 : Nat) (a2 : EF) (a3 : Nat) : Kept (State.leSet s a1 a2 a3) s := by
  unfold State.leSet
  intro h
  simp +contextual only [h, State.setLe_wf, wf_next, ite_self, implies_true, State.each_wf, State.on_wf, apply_ite State.wf, apply_ite Res.wf, apply_ite Prod.fst, apply_ite Prod.snd, if_true]

theorem State.rechain_wf (s : State) (a1 : Nat) : Kept (State.rechain s a1) s := by
  unfold State.rechain
  intro h
  try dsimp only
  repeat' first
    | with_reducible assumption
    | with_reducible apply State.freeLe_wf
    | with_reducible apply State.leSet_wf
    | with_reducible apply State.on_wf
    | with_reducible apply State.each_wf
    | with_reducible apply ite_wf'
    | with_reducible apply ite_reswf'
    | with_reducible apply next_wf
    | simp only [State.wf_ls]
    | (intro _)
    | split

theorem State.freeFurrow_wf (s : State) (a1 : Nat) : Kept (State.freeFurrow s a1) s := by
  unfold State.freeFurrow
  intro h
  try dsimp only
  repeat' first
    | with_reducible assumption
    | with_reducible apply State.freeLock_wf
    | with_reducible apply State.freeLe_wf
    | with_reducible apply State.leaseShow_wf
    | with_reducible apply State.rechain_wf
    | with_reducible apply State.on_wf
    | with_reducible apply State.each_wf
    | with_reducible apply ite_wf'
    | with_reducible apply ite_reswf'
    | with_reducible apply next_wf
    | (intro _)
    | split

theorem State.incLost_wf (s : State) (a1 : Fld) (a2 : optParam Nat 1) : Kept (State.incLost s a1 a2) s := by
  unfold State.incLost
  intro h
  simp +contextual only [h, State.set_wf, wf_next, ite_self, implies_true, State.each_wf, State.on_wf, apply_ite State.wf, apply_ite Res.wf, apply_ite Prod.fst, apply_ite Prod.snd, if_true]

theorem State.traceLose_wf (s : State) (a1 : Nat) : Kept (State.traceLose s a1) s := by
  unfold State.traceLose
  intro h
  try dsimp only
  repeat' first
    | with_reducible assumption
    | with_reducible apply State.irq_wf
    | with_reducible apply State.incLost_wf
    | with_reducible apply State.on_wf
    | with_reducible apply State.each_wf
    | with_reducible apply ite_wf'
    | with_reducible apply ite_reswf'
    | with_reducible apply next_wf
    | simp only [State.wf_disp]
    | (intro _)
    | split

theorem State.stage_wf (s : State) (a1 : TraceRec) : Kept (State.stage s a1) s := by
  unfold State.stage
  intro h
  simp +contextual only [h, State.traceLose_wf, State.wf_disp, wf_next, ite_self, implies_true, State.each_wf, State.on_wf, apply_ite State.wf, apply_ite Res.wf, apply_ite Prod.fst, apply_ite Prod.snd, if_true]

theorem State.qBytes_wf (s : State) (a1 : Nat) (a2 : List Nat) : Kept (State.qBytes s a1 a2) s := by
  unfold State.qBytes
  intro h
  simp +contextual only [h, State.qPush_wf, wf_next, ite_self, implies_true, State.each_wf, State.on_wf, apply_ite State.wf, apply_ite Res.wf, apply_ite Prod.fst, apply_ite Prod.snd, if_true]

theorem State.traceOut_wf (s : State) (l : List TraceRec) : Kept (s.traceOut l).1 s := by
  induction l generalizing s with
  | nil => exact id
  | cons t r ih =>
    unfold State.traceOut
    split
    · exact (ih _).trans (State.qBytes_wf _ _ _)
    · exact id

theorem State.traceDrain_wf (s : State) : Kept (State.traceDrain s) s := by
  unfold State.traceDrain
  intro h
  simp +contextual only [h, State.traceOut_wf, State.traceLose_wf, State.wf_disp, wf_next, ite_self, implies_true, State.each_wf, State.on_wf, apply_ite State.wf, apply_ite Res.wf, apply_ite Prod.fst, apply_ite Prod.snd, if_true]

theorem State.traceRec_wf (s : State) (a1 : Nat) (a2 : Nat) (a3 : Nat) (a4 : Nat) (a5 : Nat) : Kept (State.traceRec s a1 a2 a3 a4 a5) s := by
  unfold State.traceRec
  intro h
  try dsimp only
  repeat' first
    | with_reducible assumption
    | with_reducible apply State.stage_wf
    | with_reducible apply State.traceDrain_wf
    | with_reducible apply State.on_wf
    | with_reducible apply State.each_wf
    | with_reducible apply ite_wf'
    | with_reducible apply ite_reswf'
    | with_reducible apply next_wf
    | simp only [State.wf_disp]
    | (intro _)
    | split

theorem State.traceItem_wf (s : State) (a1 : Nat) (a2 : DItem) (a3 : optParam Nat 0) : Kept (State.traceItem s a1 a2 a3) s := by
  unfold State.traceItem
  intro h
  simp +contextual only [h, State.traceRec_wf, wf_next, ite_self, implies_true, State.each_wf, State.on_wf, apply_ite State.wf, apply_ite Res.wf, apply_ite Prod.fst, apply_ite Prod.snd, if_true]

theorem State.flowOff_wf (s : State) (a1 : DItem) : Kept (State.flowOff s a1) s := by
  unfold State.flowOff
  intro h
  simp +contextual only [h, State.traceItem_wf, State.inc_wf, wf_next, ite_self, implies_true, State.each_wf, State.on_wf, apply_ite State.wf, apply_ite Res.wf, apply_ite Prod.fst, apply_ite Prod.snd, if_true]

theorem State.choose_wf (s : State) (ok : DItem → Bool) (t : DItem × State) (h : s.choose ok = some t) : Kept t.2 s := by
  unfold State.choose at h
  dsimp only at h
  split at h
  · cases h
  · split at h
    · cases h
    · split at h
      · cases h
      · split at h
        · cases h
        · cases h; exact id

theorem State.setItem_wf (s : State) (a1 : DItem) : Kept (State.setItem s a1) s := by
  unfold State.setItem
  intro h
  simp +contextual only [h, State.wf_disp, wf_next, ite_self, implies_true, State.each_wf, State.on_wf, apply_ite State.wf, apply_ite Res.wf, apply_ite Prod.fst, apply_ite Prod.snd, if_true]

theorem State.coreShow_wf (s : State) (a1 : Nat) : Kept (State.coreShow s a1) s := by
  unfold State.coreShow
  intro h
  try dsimp only
  repeat' first
    | with_reducible assumption
    | with_reducible apply State.set_wf
    | with_reducible apply State.on_wf
    | with_reducible apply State.each_wf
    | with_reducible apply ite_wf'
    | with_reducible apply ite_reswf'
    | with_reducible apply next_wf
    | (intro _)
    | split

theorem State.intoCtx_wf (s : State) (a1 : DItem) (a2 : Nat) (a3 : Nat) : Kept (State.intoCtx s a1 a2 a3) s := by
  unfold State.intoCtx
  intro h
  simp +contextual only [h, State.setItem_wf, State.coreShow_wf, State.wf_disp, wf_next, ite_self, implies_true, State.each_wf, State.on_wf, apply_ite State.wf, apply_ite Res.wf, apply_ite Prod.fst, apply_ite Prod.snd, if_true]

theorem State.preempt1_wf (s : State) : Kept s.preempt1 s := by
  unfold State.preempt1
  dsimp only
  split
  · exact id
  · rename_i i t h
    have ht := State.choose_wf s _ _ h
    split
    · exact id
    · exact (State.traceItem_wf _ _ _ _).trans ((State.inc_wf _ _ _ _).trans ((State.inc_wf _ _ _ _).trans ((State.intoCtx_wf _ _ _ _).trans ht)))

theorem State.preempt_wf (s : State) : Kept (State.preempt s) s := by
  unfold State.preempt
  intro h
  try dsimp only
  repeat' first
    | with_reducible assumption
    | with_reducible apply State.preempt1_wf
    | with_reducible apply State.on_wf
    | with_reducible apply State.each_wf
    | with_reducible apply ite_wf'
    | with_reducible apply ite_reswf'
    | with_reducible apply next_wf
    | (intro _)
    | split

theorem State.dispShow_wf (s : State) : Kept (State.dispShow s) s := by
  unfold State.dispShow
  intro h
  simp +contextual only [h, State.set_wf, wf_next, ite_self, implies_true, State.each_wf, State.on_wf, apply_ite State.wf, apply_ite Res.wf, apply_ite Prod.fst, apply_ite Prod.snd, if_true]

theorem State.enqueue_wf (s : State) (a1 : DItem) (a2 : Nat) : Kept (State.enqueue s a1 a2) s := by
  unfold State.enqueue
  intro h
  try dsimp only
  repeat' first
    | with_reducible assumption
    | with_reducible apply State.preempt_wf
    | with_reducible apply State.dispShow_wf
    | with_reducible apply State.traceItem_wf
    | with_reducible apply State.inc_wf
    | with_reducible apply State.on_wf
    | with_reducible apply State.each_wf
    | with_reducible apply ite_wf'
    | with_reducible apply ite_reswf'
    | with_reducible apply next_wf
    | simp only [State.wf_disp]
    | (intro _)
    | split

theorem State.offer_wf (s : State) (a1 : DItem) : Kept (State.offer s a1).1 s := by
  unfold State.offer
  intro h
  grind [State.flowOff_wf, State.enqueue_wf, wf_next]

theorem State.item_wf (s : State) (a1 : DItem) : Kept (State.item s a1) s := by
  unfold State.item
  intro h
  grind [State.offer_wf, State.wf_disp, wf_next]

theorem State.leaseEvent_wf (s : State) (a1 : Nat) (a2 : Nat) (a3 : Nat) (a4 : Nat) (a5 : Nat) (a6 : Nat) (a7 : Nat) : Kept (State.leaseEvent s a1 a2 a3 a4 a5 a6 a7) s := by
  unfold State.leaseEvent
  intro h
  dsimp only
  (repeat' split) <;> simp +contextual only [h, State.item_wf, State.qBytes_wf, wf_next, implies_true, State.each_wf, State.on_wf]

theorem State.refuseSubmit_wf (s : State) (a1 : Nat) (a2 : Deny) : Kept (State.refuseSubmit s a1 a2).1 s := by
  unfold State.refuseSubmit
  intro h
  try dsimp only
  repeat' first
    | with_reducible assumption
    | with_reducible apply State.inc_wf
    | with_reducible apply State.takeSeq_wf
    | with_reducible apply State.irq_wf
    | with_reducible apply State.leaseEvent_wf
    | with_reducible apply State.on_wf
    | with_reducible apply State.each_wf
    | with_reducible apply ite_wf'
    | with_reducible apply ite_reswf'
    | with_reducible apply next_wf
    | simp only [State.wf_ls]
    | (intro _)
    | split

theorem State.complHeld_wf (s : State) (via : Via) (p : Page) (r : TRes) : Kept (s.complHeld via p r) s := by
  unfold State.complHeld
  split
  · exact (State.tblDone_wf _ _ _ _ _).trans (ite_wf id id)
  · exact id

theorem State.abortXfer_wf (s : State) (a1 : Xfer) (a2 : Deny) : Kept (State.abortXfer s a1 a2) s := by
  unfold State.abortXfer
  intro h
  try dsimp only
  repeat' first
    | with_reducible assumption
    | with_reducible apply State.sendRelease_wf
    | with_reducible apply State.freeFurrow_wf
    | with_reducible apply State.refuseSubmit_wf
    | with_reducible apply State.inc_wf
    | with_reducible apply State.leaseShow_wf
    | with_reducible apply State.complHeld_wf
    | with_reducible apply State.on_wf
    | with_reducible apply State.each_wf
    | with_reducible apply ite_wf'
    | with_reducible apply ite_reswf'
    | with_reducible apply next_wf
    | simp only [State.wf_ls]
    | (intro _)
    | split

theorem State.oldOps_wf (s : State) (a1 : Nat) : Kept (State.oldOps s a1) s := by
  unfold State.oldOps
  intro h
  try dsimp only
  repeat' first
    | with_reducible assumption
    | with_reducible apply State.abortXfer_wf
    | with_reducible apply State.complHeld_wf
    | with_reducible apply State.on_wf
    | with_reducible apply State.each_wf
    | with_reducible apply ite_wf'
    | with_reducible apply ite_reswf'
    | with_reducible apply next_wf
    | (intro _)
    | split

theorem State.logLose_wf (s : State) (a1 : Nat) : Kept (State.logLose s a1) s := by
  unfold State.logLose
  intro h
  simp +contextual only [h, State.irq_wf, State.incLost_wf, State.wf_ev, wf_next, ite_self, implies_true, State.each_wf, State.on_wf, apply_ite State.wf, apply_ite Res.wf, apply_ite Prod.fst, apply_ite Prod.snd, if_true]

theorem State.hostDrain_wf (s : State) : Kept (State.hostDrain s) s := by
  unfold State.hostDrain
  intro h
  try dsimp only
  repeat' first
    | with_reducible assumption
    | with_reducible apply State.qPush_wf
    | with_reducible apply State.on_wf
    | with_reducible apply State.each_wf
    | with_reducible apply ite_wf'
    | with_reducible apply ite_reswf'
    | with_reducible apply next_wf
    | simp only [State.wf_ev]
    | (intro _)
    | split

theorem State.extDrain_wf (s : State) : Kept (State.extDrain s) s := by
  unfold State.extDrain
  intro h
  simp +contextual only [h, State.wf_ev, wf_next, ite_self, implies_true, State.each_wf, State.on_wf, apply_ite State.wf, apply_ite Res.wf, apply_ite Prod.fst, apply_ite Prod.snd, if_true]

theorem State.toCirc_wf (s : State) (a1 : EvRec) (a2 : Bool) : Kept (State.toCirc s a1 a2) s := by
  unfold State.toCirc
  intro h
  try dsimp only
  repeat' first
    | with_reducible assumption
    | with_reducible apply State.logLose_wf
    | with_reducible apply State.hostDrain_wf
    | with_reducible apply State.extDrain_wf
    | with_reducible apply State.on_wf
    | with_reducible apply State.each_wf
    | with_reducible apply ite_wf'
    | with_reducible apply ite_reswf'
    | with_reducible apply next_wf
    | simp only [State.wf_ev]
    | (intro _)
    | split

theorem State.writeRec_wf (s : State) (a1 : Nat) (a2 : Nat) (a3 : Nat) (a4 : Nat) (a5 : Nat) (a6 : Nat) : Kept (State.writeRec s a1 a2 a3 a4 a5 a6) s := by
  unfold State.writeRec
  intro h
  try dsimp only
  repeat' first
    | with_reducible assumption
    | with_reducible apply State.set_wf
    | with_reducible apply State.inc_wf
    | with_reducible apply State.irq_wf
    | with_reducible apply State.toCirc_wf
    | with_reducible apply State.logLose_wf
    | with_reducible apply State.on_wf
    | with_reducible apply State.each_wf
    | with_reducible apply ite_wf'
    | with_reducible apply ite_reswf'
    | with_reducible apply next_wf
    | simp only [State.wf_ev]
    | (intro _)
    | split

theorem State.writeLoss_wf (s : State) : Kept (State.writeLoss s) s := by
  unfold State.writeLoss
  intro h
  simp +contextual only [h, State.writeRec_wf, State.wf_ev, wf_next, ite_self, implies_true, State.each_wf, State.on_wf, apply_ite State.wf, apply_ite Res.wf, apply_ite Prod.fst, apply_ite Prod.snd, if_true]

theorem State.putRec_wf (s : State) (a1 : Nat) (a2 : Nat) (a3 : Nat) (a4 : Nat) (a5 : Nat) (a6 : Nat) : Kept (State.putRec s a1 a2 a3 a4 a5 a6) s := by
  unfold State.putRec
  intro h
  simp +contextual only [h, State.writeRec_wf, State.writeLoss_wf, State.wf_ev, wf_next, ite_self, implies_true, State.each_wf, State.on_wf, apply_ite State.wf, apply_ite Res.wf, apply_ite Prod.fst, apply_ite Prod.snd, if_true]

theorem State.summary_wf (s : State) (a1 : Suppr) : Kept (State.summary s a1) s := by
  unfold State.summary
  intro h
  simp +contextual only [h, State.inc_wf, State.putRec_wf, wf_next, ite_self, implies_true, State.each_wf, State.on_wf, apply_ite State.wf, apply_ite Res.wf, apply_ite Prod.fst, apply_ite Prod.snd, if_true]

theorem State.newSecond_wf (s : State) : Kept (State.newSecond s) s := by
  unfold State.newSecond
  intro h
  try dsimp only
  repeat' first
    | with_reducible assumption
    | with_reducible apply State.summary_wf
    | with_reducible apply State.on_wf
    | with_reducible apply State.each_wf
    | with_reducible apply ite_wf'
    | with_reducible apply ite_reswf'
    | with_reducible apply next_wf
    | simp only [State.wf_ev]
    | (intro _)
    | split

theorem State.keep_once (t : State) (x : AMap Nat) (hx : AMap.wf (fun _ => 0) t.once = true → AMap.wf (fun _ => 0) x = true) : Kept { t with once := x } t := by
  intro w
  rw [State.wf_iff] at w ⊢
  exact ⟨(w.1), (w.2.1), (w.2.2.1), (w.2.2.2.1), (w.2.2.2.2.1), (w.2.2.2.2.2.1), (hx w.2.2.2.2.2.2.1), (w.2.2.2.2.2.2.2)⟩

theorem State.firstInSecond_wf (s : State) (kind second : Nat) : Kept (s.firstInSecond kind second).2 s := by
  unfold State.firstInSecond
  split
  · exact id
  · exact State.keep_once s _ (AMap.wf_set _ _ _ _)

theorem State.suppress_wf (s : State) (a1 : Nat) (a2 : Nat) : Kept (State.suppress s a1 a2) s := by
  unfold State.suppress
  intro h
  simp +contextual only [h, State.inc_wf, State.wf_ev, wf_next, ite_self, implies_true, State.each_wf, State.on_wf, apply_ite State.wf, apply_ite Res.wf, apply_ite Prod.fst, apply_ite Prod.snd, if_true]

theorem State.putBucket_wf (s : State) (a1 : Nat) (a2 : Bucket) (a3 : Bool) : Kept (State.putBucket s a1 a2 a3) s := by
  unfold State.putBucket
  intro h
  simp +contextual only [h, State.inc_wf, State.wf_ev, wf_next, ite_self, implies_true, State.each_wf, State.on_wf, apply_ite State.wf, apply_ite Res.wf, apply_ite Prod.fst, apply_ite Prod.snd, if_true]

theorem State.eventAt_wf (s : State) (a1 : Nat) (a2 : Nat) (a3 : Nat) (a4 : Nat) (a5 : Nat) (a6 : Nat) : Kept (State.eventAt s a1 a2 a3 a4 a5 a6) s := by
  unfold State.eventAt
  intro h
  try dsimp only
  repeat' first
    | with_reducible assumption
    | with_reducible apply State.newSecond_wf
    | with_reducible apply State.firstInSecond_wf
    | with_reducible apply State.putRec_wf
    | with_reducible apply State.suppress_wf
    | with_reducible apply State.putBucket_wf
    | with_reducible apply State.on_wf
    | with_reducible apply State.each_wf
    | with_reducible apply ite_wf'
    | with_reducible apply ite_reswf'
    | with_reducible apply next_wf
    | (intro _)
    | split

theorem State.event_wf (s : State) (a1 : Nat) (a2 : Nat) (a3 : Nat) (a4 : Nat) (a5 : Nat) : Kept (State.event s a1 a2 a3 a4 a5) s := by
  unfold State.event
  intro h
  simp +contextual only [h, State.eventAt_wf, wf_next, ite_self, implies_true, State.each_wf, State.on_wf, apply_ite State.wf, apply_ite Res.wf, apply_ite Prod.fst, apply_ite Prod.snd, if_true]

theorem State.notice_wf (s : State) (a1 : Page) (a2 : Nat) (a3 : optParam Nat 0) (a4 : optParam Nat 0) (a5 : optParam Nat 0) (a6 : optParam Nat 255) : Kept (State.notice s a1 a2 a3 a4 a5 a6) s := by
  unfold State.notice
  intro h
  simp +contextual only [h, State.event_wf, State.irq_wf, wf_next, ite_self, implies_true, State.each_wf, State.on_wf, apply_ite State.wf, apply_ite Res.wf, apply_ite Prod.fst, apply_ite Prod.snd, if_true]

theorem State.orphanLocks_wf (s : State) (a1 : Nat) (a2 : Nat) : Kept (State.orphanLocks s a1 a2) s := by
  unfold State.orphanLocks
  intro h
  try dsimp only
  repeat' first
    | with_reducible assumption
    | with_reducible apply State.notice_wf
    | with_reducible apply State.inc_wf
    | with_reducible apply State.turnShow_wf
    | with_reducible apply State.leSet_wf
    | with_reducible apply State.freeLock_wf
    | with_reducible apply State.on_wf
    | with_reducible apply State.each_wf
    | with_reducible apply ite_wf'
    | with_reducible apply ite_reswf'
    | with_reducible apply next_wf
    | (intro _)
    | split

theorem State.leEvent_wf (s : State) (a1 : Nat) (a2 : Nat) : Kept (State.leEvent s a1 a2) s := by
  unfold State.leEvent
  intro h
  simp +contextual only [h, State.leaseEvent_wf, wf_next, ite_self, implies_true, State.each_wf, State.on_wf, apply_ite State.wf, apply_ite Res.wf, apply_ite Prod.fst, apply_ite Prod.snd, if_true]

theorem State.relock_wf (s : State) (a1 : Nat) : Kept (State.relock s a1) s := by
  unfold State.relock
  intro h
  dsimp only
  (repeat' split) <;> simp +contextual only [h, State.freeLock_wf, State.turnShow_wf, State.setLe_wf, wf_next, implies_true, State.each_wf, State.on_wf]

theorem State.keep_mot (t : State) (x : AMap MotSt) (hx : AMap.wf (fun _ => ({} : MotSt)) t.mot = true → AMap.wf (fun _ => ({} : MotSt)) x = true) : Kept { t with mot := x } t := by
  intro w
  rw [State.wf_iff] at w ⊢
  exact ⟨(w.1), (w.2.1), (w.2.2.1), (w.2.2.2.1), (w.2.2.2.2.1), (w.2.2.2.2.2.1), (w.2.2.2.2.2.2.1), (hx w.2.2.2.2.2.2.2)⟩

theorem State.setMotion_wf (s : State) (m : Nat) (x : MotSt) : Kept (s.setMotion m x) s := State.keep_mot s _ (AMap.wf_set _ _ _ _)

theorem State.setMove_wf (s : State) (a1 : Nat) (a2 : Nat) (a3 : Nat) : Kept (State.setMove s a1 a2 a3) s := by
  unfold State.setMove
  intro h
  simp +contextual only [h, State.setTe_wf, wf_next, ite_self, implies_true, State.each_wf, State.on_wf, apply_ite State.wf, apply_ite Res.wf, apply_ite Prod.fst, apply_ite Prod.snd, if_true]

theorem State.freeMove_wf (s : State) (a1 : Nat) (a2 : Nat) : Kept (State.freeMove s a1 a2) s := by
  unfold State.freeMove
  intro h
  simp +contextual only [h, State.setMotion_wf, State.setMove_wf, wf_next, ite_self, implies_true, State.each_wf, State.on_wf, apply_ite State.wf, apply_ite Res.wf, apply_ite Prod.fst, apply_ite Prod.snd, if_true]

theorem State.truncMove_wf (s : State) (a1 : Nat) (a2 : Nat) (a3 : Nat) : Kept (State.truncMove s a1 a2 a3) s := by
  unfold State.truncMove
  intro h
  try dsimp only
  repeat' first
    | with_reducible assumption
    | with_reducible apply State.item_wf
    | with_reducible apply State.inc_wf
    | with_reducible apply State.freeMove_wf
    | with_reducible apply State.setMove_wf
    | with_reducible apply State.setMotion_wf
    | with_reducible apply State.notice_wf
    | with_reducible apply State.on_wf
    | with_reducible apply State.each_wf
    | with_reducible apply ite_wf'
    | with_reducible apply ite_reswf'
    | with_reducible apply next_wf
    | (intro _)
    | split

theorem State.motTrunc_wf (s : State) (m : Nat) : Kept (s.motTrunc m) s := by
  unfold State.motTrunc
  refine foldl_wf _ (fun (b : State × Nat × Nat) => b.1) _ ?_ (s, 0, 0)
  rintro ⟨t, f, e⟩ slot
  exact State.truncMove_wf _ _ _ _

theorem State.releaseFrom_wf (s : State) (a1 : Nat) (a2 : Nat) : Kept (State.releaseFrom s a1 a2).1 s := by
  unfold State.releaseFrom
  intro h
  try dsimp only
  repeat' first
    | with_reducible assumption
    | with_reducible apply State.sendRelease_wf
    | with_reducible apply State.leEvent_wf
    | with_reducible apply State.freeLe_wf
    | with_reducible apply State.relock_wf
    | with_reducible apply State.leaseShow_wf
    | with_reducible apply State.rechain_wf
    | with_reducible apply State.motTrunc_wf
    | with_reducible apply State.on_wf
    | with_reducible apply State.each_wf
    | with_reducible apply ite_wf'
    | with_reducible apply ite_reswf'
    | with_reducible apply next_wf
    | (intro _)
    | split

theorem State.dropFurrows_wf (s : State) (a1 : Nat) : Kept (State.dropFurrows s a1) s := by
  unfold State.dropFurrows
  intro h
  try dsimp only
  repeat' first
    | with_reducible assumption
    | with_reducible apply State.abortXfer_wf
    | with_reducible apply State.releaseFrom_wf
    | with_reducible apply State.on_wf
    | with_reducible apply State.each_wf
    | with_reducible apply ite_wf'
    | with_reducible apply ite_reswf'
    | with_reducible apply next_wf
    | (intro _)
    | split

theorem State.taskShow_wf (s : State) : Kept (State.taskShow s) s := by
  unfold State.taskShow
  intro h
  simp +contextual only [h, State.set_wf, wf_next, ite_self, implies_true, State.each_wf, State.on_wf, apply_ite State.wf, apply_ite Res.wf, apply_ite Prod.fst, apply_ite Prod.snd, if_true]

theorem State.taskEvent_wf (s : State) (a1 : Nat) (a2 : Nat) : Kept (State.taskEvent s a1 a2) s := by
  unfold State.taskEvent
  intro h
  simp +contextual only [h, State.item_wf, wf_next, ite_self, implies_true, State.each_wf, State.on_wf, apply_ite State.wf, apply_ite Res.wf, apply_ite Prod.fst, apply_ite Prod.snd, if_true]

theorem State.taskTo_wf (s : State) (a1 : Nat) (a2 : Nat) (a3 : Nat) (a4 : Nat) : Kept (State.taskTo s a1 a2 a3 a4) s := by
  unfold State.taskTo
  intro h
  try dsimp only
  repeat' first
    | with_reducible assumption
    | with_reducible apply State.taskShow_wf
    | with_reducible apply State.setTe_wf
    | with_reducible apply State.taskEvent_wf
    | with_reducible apply State.on_wf
    | with_reducible apply State.each_wf
    | with_reducible apply ite_wf'
    | with_reducible apply ite_reswf'
    | with_reducible apply next_wf
    | (intro _)
    | split

theorem State.taskForfeit_wf (s : State) (a1 : Nat) : Kept (State.taskForfeit s a1) s := by
  unfold State.taskForfeit
  intro h
  try dsimp only
  repeat' first
    | with_reducible assumption
    | with_reducible apply State.irq_wf
    | with_reducible apply State.taskTo_wf
    | with_reducible apply State.inc_wf
    | with_reducible apply State.on_wf
    | with_reducible apply State.each_wf
    | with_reducible apply ite_wf'
    | with_reducible apply ite_reswf'
    | with_reducible apply next_wf
    | (intro _)
    | split

theorem State.motEmpty_wf (s : State) (a1 : Nat) : Kept (State.motEmpty s a1) s := by
  unfold State.motEmpty
  intro h
  try dsimp only
  repeat' first
    | with_reducible assumption
    | with_reducible apply State.setMove_wf
    | with_reducible apply State.setMotion_wf
    | with_reducible apply State.on_wf
    | with_reducible apply State.each_wf
    | with_reducible apply ite_wf'
    | with_reducible apply ite_reswf'
    | with_reducible apply next_wf
    | (intro _)
    | split

theorem State.forfeit_wf (s : State) (a1 : Nat) : Kept (State.forfeit s a1) s := by
  unfold State.forfeit
  intro h
  try dsimp only
  repeat' first
    | with_reducible assumption
    | with_reducible apply State.irq_wf
    | with_reducible apply State.inc_wf
    | with_reducible apply State.takeSeq_wf
    | with_reducible apply State.turnShow_wf
    | with_reducible apply State.setTe_wf
    | with_reducible apply State.dropSeq_wf
    | with_reducible apply State.oldOps_wf
    | with_reducible apply State.orphanLocks_wf
    | with_reducible apply State.dropFurrows_wf
    | with_reducible apply State.taskForfeit_wf
    | with_reducible apply State.motEmpty_wf
    | with_reducible apply State.leaseShow_wf
    | with_reducible apply State.on_wf
    | with_reducible apply State.each_wf
    | with_reducible apply ite_wf'
    | with_reducible apply ite_reswf'
    | with_reducible apply next_wf
    | simp only [State.wf_ls]
    | (intro _)
    | split

theorem State.setMember_wf (s : State) (a1 : Nat) (a2 : Nat) : Kept (State.setMember s a1 a2) s := by
  unfold State.setMember
  intro h
  simp +contextual only [h, State.setTe_wf, wf_next, ite_self, implies_true, State.each_wf, State.on_wf, apply_ite State.wf, apply_ite Res.wf, apply_ite Prod.fst, apply_ite Prod.snd, if_true]

theorem State.mset_wf (s : State) (a1 : Nat) (a2 : EF) (a3 : Nat) : Kept (State.mset s a1 a2 a3) s := by
  unfold State.mset
  intro h
  simp +contextual only [h, State.setMember_wf, wf_next, ite_self, implies_true, State.each_wf, State.on_wf, apply_ite State.wf, apply_ite Res.wf, apply_ite Prod.fst, apply_ite Prod.snd, if_true]

theorem State.bumpGen_wf (s : State) (a1 : Nat) (a2 : Nat) : Kept (State.bumpGen s a1 a2) s := by
  unfold State.bumpGen
  intro h
  try dsimp only
  repeat' first
    | with_reducible assumption
    | with_reducible apply State.setTe_wf
    | with_reducible apply State.set_wf
    | with_reducible apply State.mset_wf
    | with_reducible apply State.on_wf
    | with_reducible apply State.each_wf
    | with_reducible apply ite_wf'
    | with_reducible apply ite_reswf'
    | with_reducible apply next_wf
    | (intro _)
    | split

theorem State.bump_wf (s : State) (a1 : Nat) (a2 : Nat) : Kept (State.bump s a1 a2) s := by
  unfold State.bump
  intro h
  simp +contextual only [h, State.forfeit_wf, State.bumpGen_wf, wf_next, ite_self, implies_true, State.each_wf, State.on_wf, apply_ite State.wf, apply_ite Res.wf, apply_ite Prod.fst, apply_ite Prod.snd, if_true]

theorem State.dropTag_wf (s : State) (a1 : Nat) : Kept (State.dropTag s a1) s := by
  unfold State.dropTag
  intro h
  simp +contextual only [h, State.wf_held, wf_next, ite_self, implies_true, State.each_wf, State.on_wf, apply_ite State.wf, apply_ite Res.wf, apply_ite Prod.fst, apply_ite Prod.snd, if_true]

theorem State.endCtx_wf (s : State) (a1 : Nat) (a2 : Nat) : Kept (State.endCtx s a1 a2) s := by
  unfold State.endCtx
  intro h
  simp +contextual only [h, State.coreShow_wf, State.wf_disp, wf_next, ite_self, implies_true, State.each_wf, State.on_wf, apply_ite State.wf, apply_ite Res.wf, apply_ite Prod.fst, apply_ite Prod.snd, if_true]

theorem State.drainBacklog_wf (s : State) : Kept (State.drainBacklog s) s := by
  unfold State.drainBacklog
  intro h
  try dsimp only
  repeat' first
    | with_reducible assumption
    | with_reducible apply State.item_wf
    | with_reducible apply State.on_wf
    | with_reducible apply State.each_wf
    | with_reducible apply ite_wf'
    | with_reducible apply ite_reswf'
    | with_reducible apply next_wf
    | simp only [State.wf_disp]
    | (intro _)
    | split

theorem State.queueFrame_wf (s : State) (a1 : DownFrame) : Kept (State.queueFrame s a1) s := by
  unfold State.queueFrame
  intro h
  simp +contextual only [h, State.wf_air, wf_next, ite_self, implies_true, State.each_wf, State.on_wf, apply_ite State.wf, apply_ite Res.wf, apply_ite Prod.fst, apply_ite Prod.snd, if_true]

theorem State.queueDown_wf (s : State) (a1 : Nat) (a2 : Nat) (a3 : List Nat) : Kept (State.queueDown s a1 a2 a3) s := by
  unfold State.queueDown
  intro h
  simp +contextual only [h, State.queueFrame_wf, wf_next, ite_self, implies_true, State.each_wf, State.on_wf, apply_ite State.wf, apply_ite Res.wf, apply_ite Prod.fst, apply_ite Prod.snd, if_true]

theorem State.sendEmit_wf (s : State) (a1 : Emit) : Kept (State.sendEmit s a1) s := by
  unfold State.sendEmit
  intro h
  dsimp only
  (repeat' split) <;> simp +contextual only [h, State.queueDown_wf, State.enqueue_wf, State.flowOff_wf, State.qBytes_wf, wf_next, implies_true, State.each_wf, State.on_wf]

theorem State.sendEmits_wf (s : State) (i : DItem) (l : List Emit) : Kept (s.sendEmits i l) s := by
  induction l generalizing s with
  | nil => exact State.setItem_wf _ _
  | cons e r ih =>
    unfold State.sendEmits
    exact ite_wf (State.setItem_wf _ _) ((ih _).trans ((State.sendEmit_wf _ _).trans (State.setItem_wf _ _)))

theorem State.release1_wf (s : State) (a1 : Nat) : Kept (State.release1 s a1) s := by
  unfold State.release1
  intro h
  try dsimp only
  repeat' first
    | with_reducible assumption
    | with_reducible apply State.traceItem_wf
    | with_reducible apply State.inc_wf
    | with_reducible apply State.setItem_wf
    | with_reducible apply State.sendEmits_wf
    | with_reducible apply State.dispShow_wf
    | with_reducible apply State.on_wf
    | with_reducible apply State.each_wf
    | with_reducible apply ite_wf'
    | with_reducible apply ite_reswf'
    | with_reducible apply next_wf
    | simp only [State.wf_disp]
    | (intro _)
    | split

theorem State.releases_wf (s : State) (a1 : Nat) : Kept (State.releases s a1) s := by
  unfold State.releases
  intro h
  try dsimp only
  repeat' first
    | with_reducible assumption
    | with_reducible apply State.release1_wf
    | with_reducible apply State.on_wf
    | with_reducible apply State.each_wf
    | with_reducible apply ite_wf'
    | with_reducible apply ite_reswf'
    | with_reducible apply next_wf
    | (intro _)
    | split

theorem State.releaseFlow_wf (s : State) (a1 : Nat) : Kept (State.releaseFlow s a1) s := by
  unfold State.releaseFlow
  intro h
  try dsimp only
  repeat' first
    | with_reducible assumption
    | with_reducible apply State.preempt_wf
    | with_reducible apply State.drainBacklog_wf
    | with_reducible apply State.releases_wf
    | with_reducible apply State.on_wf
    | with_reducible apply State.each_wf
    | with_reducible apply ite_wf'
    | with_reducible apply ite_reswf'
    | with_reducible apply next_wf
    | (intro _)
    | split

theorem State.resumed_wf (s : State) (a1 : Nat) (a2 : Nat) : Kept (State.resumed s a1 a2) s := by
  unfold State.resumed
  intro h
  grind [State.traceItem_wf, wf_next]

theorem State.abortItem_wf (s : State) (a1 : DItem) (a2 : Bool) : Kept (State.abortItem s a1 a2) s := by
  unfold State.abortItem
  intro h
  try dsimp only
  repeat' first
    | with_reducible assumption
    | with_reducible apply State.bump_wf
    | with_reducible apply State.dropTag_wf
    | with_reducible apply State.traceItem_wf
    | with_reducible apply State.irq_wf
    | with_reducible apply State.inc_wf
    | with_reducible apply State.endCtx_wf
    | with_reducible apply State.preempt_wf
    | with_reducible apply State.dispShow_wf
    | with_reducible apply State.setItem_wf
    | with_reducible apply State.releaseFlow_wf
    | with_reducible apply State.resumed_wf
    | with_reducible apply State.on_wf
    | with_reducible apply State.each_wf
    | with_reducible apply ite_wf'
    | with_reducible apply ite_reswf'
    | with_reducible apply next_wf
    | (intro _)
    | split

theorem State.abortCore_wf (s : State) (a1 : Nat) : Kept (State.abortCore s a1) s := by
  unfold State.abortCore
  intro h
  try dsimp only
  repeat' first
    | with_reducible assumption
    | with_reducible apply State.abortItem_wf
    | with_reducible apply State.on_wf
    | with_reducible apply State.each_wf
    | with_reducible apply ite_wf'
    | with_reducible apply ite_reswf'
    | with_reducible apply next_wf
    | (intro _)
    | split

theorem State.abortPreparing_wf (s : State) : Kept (State.abortPreparing s) s := by
  unfold State.abortPreparing
  intro h
  try dsimp only
  repeat' first
    | with_reducible assumption
    | with_reducible apply State.abortXfer_wf
    | with_reducible apply State.on_wf
    | with_reducible apply State.each_wf
    | with_reducible apply ite_wf'
    | with_reducible apply ite_reswf'
    | with_reducible apply next_wf
    | (intro _)
    | split

theorem State.free_wf (s : State) : Kept (State.free s).2 s := by
  unfold State.free
  intro h
  simp +contextual only [h, State.wf_fresh, wf_next, ite_self, implies_true, State.each_wf, State.on_wf, apply_ite State.wf, apply_ite Res.wf, apply_ite Prod.fst, apply_ite Prod.snd, if_true]

theorem State.setSlew_wf (s : State) (a1 : Int) (a2 : Nat) : Kept (State.setSlew s a1 a2) s := by
  unfold State.setSlew
  intro h
  simp +contextual only [h, State.set_wf, State.wf_tm, wf_next, ite_self, implies_true, State.each_wf, State.on_wf, apply_ite State.wf, apply_ite Res.wf, apply_ite Prod.fst, apply_ite Prod.snd, if_true]

theorem State.acceptE_wf (s : State) (a1 : Int) (a2 : Nat) : Kept (State.acceptE s a1 a2) s := by
  unfold State.acceptE
  intro h
  try dsimp only
  repeat' first
    | with_reducible assumption
    | with_reducible apply State.free_wf
    | with_reducible apply State.setSlew_wf
    | with_reducible apply State.set_wf
    | with_reducible apply State.on_wf
    | with_reducible apply State.each_wf
    | with_reducible apply ite_wf'
    | with_reducible apply ite_reswf'
    | with_reducible apply next_wf
    | simp only [State.wf_tm]
    | (intro _)
    | split

theorem State.sendLease_wf (s : State) (a1 : Nat) (a2 : Nat) (a3 : Nat) (a4 : Nat) (a5 : Nat) (a6 : Nat) (a7 : optParam (List PrepStep) []) : Kept (State.sendLease s a1 a2 a3 a4 a5 a6 a7) s := by
  unfold State.sendLease
  intro h
  simp +contextual only [h, State.leaseSend_wf, wf_next, ite_self, implies_true, State.each_wf, State.on_wf, apply_ite State.wf, apply_ite Res.wf, apply_ite Prod.fst, apply_ite Prod.snd, if_true]

theorem State.ackLease_wf (s : State) (a1 : LeaseMsg) (a2 : Nat) : Kept (State.ackLease s a1 a2) s := by
  unfold State.ackLease
  intro h
  simp +contextual only [h, State.sendLease_wf, wf_next, ite_self, implies_true, State.each_wf, State.on_wf, apply_ite State.wf, apply_ite Res.wf, apply_ite Prod.fst, apply_ite Prod.snd, if_true]

theorem State.setLink_wf (s : State) (a1 : Nat) (a2 : Nat) : Kept (State.setLink s a1 a2) s := by
  unfold State.setLink
  intro h
  simp +contextual only [h, State.setTe_wf, wf_next, ite_self, implies_true, State.each_wf, State.on_wf, apply_ite State.wf, apply_ite Res.wf, apply_ite Prod.fst, apply_ite Prod.snd, if_true]

theorem State.ackedFrame_wf (s : State) (a1 : DownFrame) : Kept (State.ackedFrame s a1) s := by
  unfold State.ackedFrame
  intro h
  dsimp only
  (repeat' split) <;> simp +contextual only [h, State.setMotion_wf, State.setLink_wf, wf_next, implies_true, State.each_wf, State.on_wf]

theorem State.activate_wf (s : State) (a1 : Nat) : Kept (State.activate s a1) s := by
  rw [State.activate.eq_def]
  intro h
  grind [State.setMove_wf, wf_next]

theorem State.writeFurrow_wf (s : State) (owner state flags xid ownGen : Nat) (l : List ReqStep) (foreign : ReqStep → Bool) :
    Kept (s.writeFurrow owner state flags xid ownGen l foreign).1 s := by
  unfold State.writeFurrow
  dsimp only
  refine (State.leaseShow_wf _).trans ((State.rechain_wf _ _).trans (Kept.trans (State.each_wf _ _ _ ?_) (Kept.trans (foldl_wf _ (fun (b : State × Nat) => b.1) _ ?_ _) (State.setLe_wf _ _ _))))
  · intro t x
    exact (State.turnShow_wf _ _).trans ((State.setTe_wf _ _ _ _ _).trans (State.setLe_wf _ _ _))
  · rintro ⟨t, d⟩ ⟨r, i⟩
    exact (State.setTe_wf _ _ _ _ _).trans (State.setLe_wf _ _ _)

theorem State.setXfer_wf (s : State) (a1 : Xfer) : Kept (State.setXfer s a1) s := by
  unfold State.setXfer
  intro h
  simp +contextual only [h, State.wf_ls, wf_next, ite_self, implies_true, State.each_wf, State.on_wf, apply_ite State.wf, apply_ite Res.wf, apply_ite Prod.fst, apply_ite Prod.snd, if_true]

theorem State.sendPrepare_wf (s : State) (a1 : Xfer) (a2 : Nat) : Kept (State.sendPrepare s a1 a2) s := by
  unfold State.sendPrepare
  intro h
  simp +contextual only [h, State.sendLease_wf, wf_next, ite_self, implies_true, State.each_wf, State.on_wf, apply_ite State.wf, apply_ite Res.wf, apply_ite Prod.fst, apply_ite Prod.snd, if_true]

theorem State.advance_wf (s : State) (xid n : Nat) : Kept (s.advance xid n) s := by
  induction n generalizing s with
  | zero => exact id
  | succ n ih =>
    unfold State.advance
    split
    · exact id
    · split
      · exact (State.each_wf _ _ _ fun t z => State.sendLease_wf _ _ _ _ _ _ _ _).trans (State.leSet_wf _ _ _ _)
      · split
        · exact State.sendPrepare_wf _ _ _
        · dsimp only
          split
          · exact State.abortXfer_wf _ _ _
          · exact (ih _).trans ((State.setXfer_wf _ _).trans ((State.writeFurrow_wf _ _ _ _ _ _ _ _).trans (State.takeSeq_wf _)))

theorem State.rebuildSets_wf (s : State) (a1 : Nat) : Kept (State.rebuildSets s a1) s := by
  unfold State.rebuildSets
  intro h
  simp +contextual only [h, State.wf_hg, wf_next, ite_self, implies_true, State.each_wf, State.on_wf, apply_ite State.wf, apply_ite Res.wf, apply_ite Prod.fst, apply_ite Prod.snd, if_true]

theorem State.advanceFcnt_wf (s : State) : Kept (State.advanceFcnt s) s := by
  unfold State.advanceFcnt
  intro h
  try dsimp only
  repeat' first
    | with_reducible assumption
    | with_reducible apply State.rebuildSets_wf
    | with_reducible apply State.on_wf
    | with_reducible apply State.each_wf
    | with_reducible apply ite_wf'
    | with_reducible apply ite_reswf'
    | with_reducible apply next_wf
    | simp only [State.wf_air]
    | (intro _)
    | split

theorem State.graphShow_wf (s : State) : Kept (State.graphShow s) s := by
  unfold State.graphShow
  intro h
  simp +contextual only [h, State.set_wf, wf_next, ite_self, implies_true, State.each_wf, State.on_wf, apply_ite State.wf, apply_ite Res.wf, apply_ite Prod.fst, apply_ite Prod.snd, if_true]

theorem State.turnSegs_wf (s : State) (a1 : List Nat) : Kept (State.turnSegs s a1) s := by
  unfold State.turnSegs
  intro h
  try dsimp only
  repeat' first
    | with_reducible assumption
    | with_reducible apply State.setTe_wf
    | with_reducible apply State.on_wf
    | with_reducible apply State.each_wf
    | with_reducible apply ite_wf'
    | with_reducible apply ite_reswf'
    | with_reducible apply next_wf
    | (intro _)
    | split

theorem State.afterGraph_wf (s : State) (a1 : List Nat) : Kept (State.afterGraph s a1) s := by
  unfold State.afterGraph
  intro h
  simp +contextual only [h, State.graphShow_wf, State.turnSegs_wf, wf_next, ite_self, implies_true, State.each_wf, State.on_wf, apply_ite State.wf, apply_ite Res.wf, apply_ite Prod.fst, apply_ite Prod.snd, if_true]

theorem State.pwrPin_wf (s : State) (a1 : Nat) : Kept (State.pwrPin s a1) s := by
  unfold State.pwrPin
  intro h
  simp +contextual only [h, State.emit_wf, wf_next, ite_self, implies_true, State.each_wf, State.on_wf, apply_ite State.wf, apply_ite Res.wf, apply_ite Prod.fst, apply_ite Prod.snd, if_true]

theorem State.sysEvent_wf (s : State) (a1 : Nat) (a2 : Page) (a3 : Nat) (a4 : Nat) (a5 : Nat) : Kept (State.sysEvent s a1 a2 a3 a4 a5) s := by
  unfold State.sysEvent
  intro h
  simp +contextual only [h, State.event_wf, wf_next, ite_self, implies_true, State.each_wf, State.on_wf, apply_ite State.wf, apply_ite Res.wf, apply_ite Prod.fst, apply_ite Prod.snd, if_true]

theorem State.setActive_wf (s : State) : Kept (State.setActive s) s := by
  unfold State.setActive
  intro h
  try dsimp only
  repeat' first
    | with_reducible assumption
    | with_reducible apply State.set_wf
    | with_reducible apply State.sysEvent_wf
    | with_reducible apply State.on_wf
    | with_reducible apply State.each_wf
    | with_reducible apply ite_wf'
    | with_reducible apply ite_reswf'
    | with_reducible apply next_wf
    | simp only [State.wf_gn]
    | (intro _)
    | split

theorem State.antTimes_wf (s : State) : Kept (State.antTimes s) s := by
  unfold State.antTimes
  intro h
  simp +contextual only [h, State.setActive_wf, State.wf_gn, wf_next, ite_self, implies_true, State.each_wf, State.on_wf, apply_ite State.wf, apply_ite Res.wf, apply_ite Prod.fst, apply_ite Prod.snd, if_true]

theorem State.pwrSet_wf (s : State) (a1 : Nat) : Kept (State.pwrSet s a1) s := by
  unfold State.pwrSet
  intro h
  try dsimp only
  repeat' first
    | with_reducible assumption
    | with_reducible apply State.pwrPin_wf
    | with_reducible apply State.antTimes_wf
    | with_reducible apply State.set_wf
    | with_reducible apply State.on_wf
    | with_reducible apply State.each_wf
    | with_reducible apply ite_wf'
    | with_reducible apply ite_reswf'
    | with_reducible apply next_wf
    | (intro _)
    | split

theorem State.outsLow_wf (s : State) : Kept (State.outsLow s) s := by
  unfold State.outsLow
  intro h
  simp +contextual only [h, State.set_wf, State.wf_hg, wf_next, ite_self, implies_true, State.each_wf, State.on_wf, apply_ite State.wf, apply_ite Res.wf, apply_ite Prod.fst, apply_ite Prod.snd, if_true]

theorem State.outsHigh_wf (s : State) : Kept (State.outsHigh s) s := by
  unfold State.outsHigh
  intro h
  simp +contextual only [h, State.set_wf, State.wf_hg, wf_next, ite_self, implies_true, State.each_wf, State.on_wf, apply_ite State.wf, apply_ite Res.wf, apply_ite Prod.fst, apply_ite Prod.snd, if_true]

theorem State.outsCheck_wf (s : State) : Kept (State.outsCheck s) s := by
  unfold State.outsCheck
  intro h
  simp +contextual only [h, State.outsLow_wf, State.outsHigh_wf, wf_next, ite_self, implies_true, State.each_wf, State.on_wf, apply_ite State.wf, apply_ite Res.wf, apply_ite Prod.fst, apply_ite Prod.snd, if_true]

theorem State.setPulse_wf (s : State) (a1 : Nat) (a2 : PulseSt) : Kept (State.setPulse s a1 a2) s := by
  unfold State.setPulse
  intro h
  simp +contextual only [h, State.wf_met, wf_next, ite_self, implies_true, State.each_wf, State.on_wf, apply_ite State.wf, apply_ite Res.wf, apply_ite Prod.fst, apply_ite Prod.snd, if_true]

theorem State.afterStore_wf (s : State) (a1 : RegWr) : Kept (State.afterStore s a1) s := by
  unfold State.afterStore
  intro h
  grind [State.assertSrc_wf, State.preempt_wf, State.drainBacklog_wf, State.pwrSet_wf, State.setActive_wf, State.set_wf, State.hostDrain_wf, State.extDrain_wf, State.outsCheck_wf, State.setPulse_wf, wf_next]

theorem State.airEmit_wf (s : State) (a1 : Nat) (a2 : Bool) (a3 : AirFrame) : Kept (State.airEmit s a1 a2 a3) s := by
  unfold State.airEmit
  intro h
  simp +contextual only [h, State.emit_wf, wf_next, ite_self, implies_true, State.each_wf, State.on_wf, apply_ite State.wf, apply_ite Res.wf, apply_ite Prod.fst, apply_ite Prod.snd, if_true]

theorem State.noticeCtr_wf (s : State) (a1 : Page) (a2 : Ctr) (a3 : optParam Nat 0) (a4 : optParam Nat 0) (a5 : optParam Nat 0) (a6 : optParam Nat 255) : Kept (State.noticeCtr s a1 a2 a3 a4 a5 a6) s := by
  unfold State.noticeCtr
  intro h
  simp +contextual only [h, State.event_wf, wf_next, ite_self, implies_true, State.each_wf, State.on_wf, apply_ite State.wf, apply_ite Res.wf, apply_ite Prod.fst, apply_ite Prod.snd, if_true]

theorem State.airItem_wf (s : State) (a1 : DItem) : Kept (State.airItem s a1) s := by
  unfold State.airItem
  intro h
  grind [State.offer_wf, State.traceItem_wf, State.irq_wf, State.inc_wf, State.firstInSecond_wf, State.noticeCtr_wf, wf_next]

theorem State.obsLevelDrop_wf (s : State) : Kept (State.obsLevelDrop s) s := by
  unfold State.obsLevelDrop
  intro h
  simp +contextual only [h, State.set_wf, State.inc_wf, State.wf_rtk, wf_next, ite_self, implies_true, State.each_wf, State.on_wf, apply_ite State.wf, apply_ite Res.wf, apply_ite Prod.fst, apply_ite Prod.snd, if_true]

theorem State.regCounts_wf (s : State) : Kept (State.regCounts s) s := by
  unfold State.regCounts
  intro h
  try dsimp only
  repeat' first
    | with_reducible assumption
    | with_reducible apply State.set_wf
    | with_reducible apply State.on_wf
    | with_reducible apply State.each_wf
    | with_reducible apply ite_wf'
    | with_reducible apply ite_reswf'
    | with_reducible apply next_wf
    | (intro _)
    | split

theorem State.holdMember_wf (s : State) (a1 : Nat) (a2 : Nat) : Kept (State.holdMember s a1 a2) s := by
  unfold State.holdMember
  intro h
  try dsimp only
  repeat' first
    | with_reducible assumption
    | with_reducible apply State.mset_wf
    | with_reducible apply State.item_wf
    | with_reducible apply State.inc_wf
    | with_reducible apply State.on_wf
    | with_reducible apply State.each_wf
    | with_reducible apply ite_wf'
    | with_reducible apply ite_reswf'
    | with_reducible apply next_wf
    | (intro _)
    | split

theorem State.holdAll_wf (s : State) (a1 : Nat) : Kept (State.holdAll s a1) s := by
  unfold State.holdAll
  intro h
  try dsimp only
  repeat' first
    | with_reducible assumption
    | with_reducible apply State.holdMember_wf
    | with_reducible apply State.on_wf
    | with_reducible apply State.each_wf
    | with_reducible apply ite_wf'
    | with_reducible apply ite_reswf'
    | with_reducible apply next_wf
    | (intro _)
    | split

theorem State.disarm_wf (s : State) (a1 : Nat) : Kept (State.disarm s a1) s := by
  unfold State.disarm
  intro h
  try dsimp only
  repeat' first
    | with_reducible assumption
    | with_reducible apply State.set_wf
    | with_reducible apply State.on_wf
    | with_reducible apply State.each_wf
    | with_reducible apply ite_wf'
    | with_reducible apply ite_reswf'
    | with_reducible apply next_wf
    | simp only [State.wf_hg]
    | (intro _)
    | split

theorem State.startBursts_wf (s : State) (a1 : Nat) : Kept (State.startBursts s a1) s := by
  unfold State.startBursts
  intro h
  simp +contextual only [h, State.set_wf, State.wf_hg, wf_next, ite_self, implies_true, State.each_wf, State.on_wf, apply_ite State.wf, apply_ite Res.wf, apply_ite Prod.fst, apply_ite Prod.snd, if_true]

theorem State.canalBroadcast_wf (s : State) (a1 : CanalBody) : Kept (State.canalBroadcast s a1) s := by
  unfold State.canalBroadcast
  intro h
  try dsimp only
  repeat' first
    | with_reducible assumption
    | with_reducible apply State.takeMseq_wf
    | with_reducible apply State.canalOut_wf
    | with_reducible apply State.on_wf
    | with_reducible apply State.each_wf
    | with_reducible apply ite_wf'
    | with_reducible apply ite_reswf'
    | with_reducible apply next_wf
    | (intro _)
    | split

theorem State.pairSend_wf (s : State) (a1 : PairMsg) : Kept (State.pairSend s a1) s := by
  unfold State.pairSend
  intro h
  dsimp only
  (repeat' split) <;> simp +contextual only [h, State.takeMseq_wf, State.canalOut_wf, State.inc_wf, wf_next, implies_true, State.each_wf, State.on_wf]

theorem State.sendStopState_wf (s : State) (a1 : Nat) (a2 : Nat) : Kept (State.sendStopState s a1 a2) s := by
  unfold State.sendStopState
  intro h
  simp +contextual only [h, State.pairSend_wf, wf_next, ite_self, implies_true, State.each_wf, State.on_wf, apply_ite State.wf, apply_ite Res.wf, apply_ite Prod.fst, apply_ite Prod.snd, if_true]

theorem State.raiseCause_wf (s : State) (a1 : Nat) (a2 : Nat) : Kept (State.raiseCause s a1 a2) s := by
  unfold State.raiseCause
  intro h
  try dsimp only
  repeat' first
    | with_reducible assumption
    | with_reducible apply State.set_wf
    | with_reducible apply State.disarm_wf
    | with_reducible apply State.startBursts_wf
    | with_reducible apply State.outsCheck_wf
    | with_reducible apply State.inc_wf
    | with_reducible apply State.irq_wf
    | with_reducible apply State.canalBroadcast_wf
    | with_reducible apply State.sysEvent_wf
    | with_reducible apply State.sendStopState_wf
    | with_reducible apply State.on_wf
    | with_reducible apply State.each_wf
    | with_reducible apply ite_wf'
    | with_reducible apply ite_reswf'
    | with_reducible apply next_wf
    | simp only [State.wf_hg]
    | (intro _)
    | split

theorem State.announce_wf (s : State) (a1 : Nat) : Kept (State.announce s a1) s := by
  unfold State.announce
  intro h
  try dsimp only
  repeat' first
    | with_reducible assumption
    | with_reducible apply State.set_wf
    | with_reducible apply State.sysEvent_wf
    | with_reducible apply State.irq_wf
    | with_reducible apply State.inc_wf
    | with_reducible apply State.obsLevelDrop_wf
    | with_reducible apply State.regCounts_wf
    | with_reducible apply State.holdAll_wf
    | with_reducible apply State.raiseCause_wf
    | with_reducible apply State.on_wf
    | with_reducible apply State.each_wf
    | with_reducible apply ite_wf'
    | with_reducible apply ite_reswf'
    | with_reducible apply next_wf
    | (intro _)
    | split

theorem State.queueRecord_wf (s : State) (a1 : Nat) (a2 : Nat) (a3 : List Nat) (a4 : DownFrame → DownFrame) : Kept (State.queueRecord s a1 a2 a3 a4) s := by
  unfold State.queueRecord
  intro h
  simp +contextual only [h, State.queueFrame_wf, wf_next, ite_self, implies_true, State.each_wf, State.on_wf, apply_ite State.wf, apply_ite Res.wf, apply_ite Prod.fst, apply_ite Prod.snd, if_true]

theorem State.announceBank_wf (s : State) (a1 : Nat) : Kept (State.announceBank s a1) s := by
  unfold State.announceBank
  intro h
  try dsimp only
  repeat' first
    | with_reducible assumption
    | with_reducible apply State.setLink_wf
    | with_reducible apply State.queueRecord_wf
    | with_reducible apply State.on_wf
    | with_reducible apply State.each_wf
    | with_reducible apply ite_wf'
    | with_reducible apply ite_reswf'
    | with_reducible apply next_wf
    | (intro _)
    | split

theorem State.announceTx_wf (s : State) (a1 : Nat) (a2 : Nat) : Kept (State.announceTx s a1 a2) s := by
  unfold State.announceTx
  intro h
  simp +contextual only [h, State.emit_wf, wf_next, ite_self, implies_true, State.each_wf, State.on_wf, apply_ite State.wf, apply_ite Res.wf, apply_ite Prod.fst, apply_ite Prod.snd, if_true]

theorem State.applyBase_wf (s : State) (a1 : List (Nat × Nat)) : Kept (State.applyBase s a1) s := by
  unfold State.applyBase
  intro h
  try dsimp only
  repeat' first
    | with_reducible assumption
    | with_reducible apply State.set_wf
    | with_reducible apply State.setReg_wf
    | with_reducible apply State.setActive_wf
    | with_reducible apply State.on_wf
    | with_reducible apply State.each_wf
    | with_reducible apply ite_wf'
    | with_reducible apply ite_reswf'
    | with_reducible apply next_wf
    | simp only [State.wf_gn]
    | (intro _)
    | split

theorem State.applyImage_wf (s : State) (i : Image) : Kept (s.applyImage i) s := by
  unfold State.applyImage
  refine ite_wf (State.keep_tbl s _ (AMap.wf_set _ _ _ _)) (ite_wf ?_ (ite_wf id (ite_wf id (ite_wf (State.set_wf _ _ _ _ _) id))))
  split
  · exact State.set_wf _ _ _ _ _
  · exact id

theorem State.applyContent_wf (s : State) (imgs : List Image) (plans : List (Nat × MotSt)) : Kept (s.applyContent imgs plans) s := by
  unfold State.applyContent
  refine (State.each_wf _ _ _ fun t x => State.setMotion_wf _ _ _).trans ((State.each_wf _ _ _ fun t x => State.applyImage_wf _ _).trans ?_)
  exact (State.keep_mot { s with tbl := s.tbl.filter fun e => !(ckptTargets.contains (e.1 / 2 ^ 24)), ls := {} } [] fun _ => rfl).trans
      (State.keep_tbl s _ (AMap.wf_filter _ _ _))

theorem State.applyDec_wf (s : State) (a1 : Nat) : Kept (State.applyDec s a1) s := by
  unfold State.applyDec
  intro h
  dsimp only
  (repeat' split) <;> simp +contextual only [h, State.setMotion_wf, State.setMove_wf, wf_next, implies_true, State.each_wf, State.on_wf]

theorem State.storeFields_wf (s : State) (a1 : RegWr) (a2 : List FldDef) : Kept (State.storeFields s a1 a2) s := by
  unfold State.storeFields
  intro h
  simp +contextual only [h, State.setReg_wf, wf_next, ite_self, implies_true, State.each_wf, State.on_wf, apply_ite State.wf, apply_ite Res.wf, apply_ite Prod.fst, apply_ite Prod.snd, if_true]

theorem State.vecAck_wf (s : State) (a1 : Nat) : Kept (State.vecAck s a1) s := by
  unfold State.vecAck
  intro h
  simp +contextual only [h, State.sendVec_wf, State.wf_vecSent, wf_next, ite_self, implies_true, State.each_wf, State.on_wf, apply_ite State.wf, apply_ite Res.wf, apply_ite Prod.fst, apply_ite Prod.snd, if_true]

theorem Res.state_wf (s : State) (r : Res) (h : ResKept r s) : Kept (Res.state s r) s := by
  cases r with
  | next t => exact h
  | fault _ => exact id
  | refused _ => exact id

theorem State.doit_wf (s : State) (c : Bool) (f : State → Res) (h : ∀ t, ResKept (f t) t) : Kept (s.doit c f) s := by
  unfold State.doit
  cases c with
  | true => exact Res.state_wf s _ (h s)
  | false => exact id

theorem State.switchCount_wf (s : State) : Kept (State.switchCount s) s := by
  unfold State.switchCount
  intro h
  simp +contextual only [h, State.set_wf, wf_next, ite_self, implies_true, State.each_wf, State.on_wf, apply_ite State.wf, apply_ite Res.wf, apply_ite Prod.fst, apply_ite Prod.snd, if_true]

theorem State.setPort_wf (s : State) (a1 : Nat) (a2 : PortSt) : Kept (State.setPort s a1 a2) s := by
  unfold State.setPort
  intro h
  simp +contextual only [h, State.wf_air, wf_next, ite_self, implies_true, State.each_wf, State.on_wf, apply_ite State.wf, apply_ite Res.wf, apply_ite Prod.fst, apply_ite Prod.snd, if_true]

theorem State.gateClocks_wf (s : State) (a1 : Bool) (a2 : Bool) : Kept (State.gateClocks s a1 a2) s := by
  unfold State.gateClocks
  intro h
  try dsimp only
  repeat' first
    | with_reducible assumption
    | with_reducible apply State.set_wf
    | with_reducible apply State.setPort_wf
    | with_reducible apply State.on_wf
    | with_reducible apply State.each_wf
    | with_reducible apply ite_wf'
    | with_reducible apply ite_reswf'
    | with_reducible apply next_wf
    | simp only [State.wf_clk]
    | (intro _)
    | split

theorem State.switchRoot_wf (s : State) (a1 : Bool) : Kept (State.switchRoot s a1) s := by
  unfold State.switchRoot
  intro h
  simp +contextual only [h, State.switchCount_wf, State.gateClocks_wf, wf_next, ite_self, implies_true, State.each_wf, State.on_wf, apply_ite State.wf, apply_ite Res.wf, apply_ite Prod.fst, apply_ite Prod.snd, if_true]

theorem State.disarmReturn_wf (s : State) (a1 : Bool) : Kept (State.disarmReturn s a1) s := by
  unfold State.disarmReturn
  intro h
  simp +contextual only [h, State.set_wf, wf_next, ite_self, implies_true, State.each_wf, State.on_wf, apply_ite State.wf, apply_ite Res.wf, apply_ite Prod.fst, apply_ite Prod.snd, if_true]

theorem State.rootReturn_wf (s : State) : Kept (State.rootReturn s) s := by
  unfold State.rootReturn
  intro h
  simp +contextual only [h, State.switchRoot_wf, State.disarmReturn_wf, wf_next, ite_self, implies_true, State.each_wf, State.on_wf, apply_ite State.wf, apply_ite Res.wf, apply_ite Prod.fst, apply_ite Prod.snd, if_true]

theorem execReturnReq_wf (s : State) : ResKept (execReturnReq s) s := by
  unfold execReturnReq
  intro h
  simp +contextual only [h, State.set_wf, State.rootReturn_wf, State.wf_clk, wf_next, ite_self, implies_true, State.each_wf, State.on_wf, apply_ite State.wf, apply_ite Res.wf, apply_ite Prod.fst, apply_ite Prod.snd, if_true]

theorem State.surveyStart_wf (s : State) : Kept (State.surveyStart s) s := by
  unfold State.surveyStart
  intro h
  try dsimp only
  repeat' first
    | with_reducible assumption
    | with_reducible apply State.set_wf
    | with_reducible apply State.on_wf
    | with_reducible apply State.each_wf
    | with_reducible apply ite_wf'
    | with_reducible apply ite_reswf'
    | with_reducible apply next_wf
    | simp only [State.wf_gn]
    | (intro _)
    | split

theorem State.refuseCfg_wf (s : State) (a1 : Page) : Kept (State.refuseCfg s a1) s := by
  unfold State.refuseCfg
  intro h
  (repeat' split) <;> simp +contextual only [h, State.incP_wf, wf_next, implies_true, State.each_wf, State.on_wf]

theorem execSpiTxnGo_wf (a0 : Nat) (a1 : Nat) (s : State) : ResKept (execSpiTxnGo a0 a1 s) s := by
  unfold execSpiTxnGo
  intro h
  simp +contextual only [h, State.refuseCfg_wf, State.set_wf, State.setPort_wf, wf_next, ite_self, implies_true, State.each_wf, State.on_wf, apply_ite State.wf, apply_ite Res.wf, apply_ite Prod.fst, apply_ite Prod.snd, if_true]

theorem State.newPeriod_wf (s : State) (a1 : Nat) : Kept (State.newPeriod s a1) s := by
  unfold State.newPeriod
  intro h
  simp +contextual only [h, State.wf_air, wf_next, ite_self, implies_true, State.each_wf, State.on_wf, apply_ite State.wf, apply_ite Res.wf, apply_ite Prod.fst, apply_ite Prod.snd, if_true]

theorem State.setSvc_wf (s : State) (a1 : Nat) (a2 : Nat) : Kept (State.setSvc s a1 a2) s := by
  unfold State.setSvc
  intro h
  try dsimp only
  repeat' first
    | with_reducible assumption
    | with_reducible apply State.newPeriod_wf
    | with_reducible apply State.irq_wf
    | with_reducible apply State.set_wf
    | with_reducible apply State.on_wf
    | with_reducible apply State.each_wf
    | with_reducible apply ite_wf'
    | with_reducible apply ite_reswf'
    | with_reducible apply next_wf
    | (intro _)
    | split

theorem State.svcStart_wf (s : State) (a1 : Nat) : Kept (State.svcStart s a1) s := by
  unfold State.svcStart
  intro h
  try dsimp only
  repeat' first
    | with_reducible assumption
    | with_reducible apply State.setPort_wf
    | with_reducible apply State.set_wf
    | with_reducible apply State.setSvc_wf
    | with_reducible apply State.on_wf
    | with_reducible apply State.each_wf
    | with_reducible apply ite_wf'
    | with_reducible apply ite_reswf'
    | with_reducible apply next_wf
    | (intro _)
    | split

theorem execFaultClr_wf (a0 : Nat) (s : State) : ResKept (execFaultClr a0 s) s := by
  unfold execFaultClr
  intro h
  simp +contextual only [h, State.svcStart_wf, State.refuseCfg_wf, wf_next, ite_self, implies_true, State.each_wf, State.on_wf, apply_ite State.wf, apply_ite Res.wf, apply_ite Prod.fst, apply_ite Prod.snd, if_true]

theorem State.linkShow_wf (s : State) (a1 : Nat) : Kept (State.linkShow s a1) s := by
  unfold State.linkShow
  intro h
  grind [State.mset_wf, wf_next]

theorem State.portInfo_wf (s : State) (a1 : Nat) : Kept (State.portInfo s a1) s := by
  unfold State.portInfo
  intro h
  simp +contextual only [h, State.set_wf, wf_next, ite_self, implies_true, State.each_wf, State.on_wf, apply_ite State.wf, apply_ite Res.wf, apply_ite Prod.fst, apply_ite Prod.snd, if_true]

theorem State.swapBank_wf (s : State) (a1 : Nat) : Kept (State.swapBank s a1) s := by
  unfold State.swapBank
  intro h
  try dsimp only
  repeat' first
    | with_reducible assumption
    | with_reducible apply State.set_wf
    | with_reducible apply State.irq_wf
    | with_reducible apply State.setPort_wf
    | with_reducible apply State.linkShow_wf
    | with_reducible apply State.portInfo_wf
    | with_reducible apply State.on_wf
    | with_reducible apply State.each_wf
    | with_reducible apply ite_wf'
    | with_reducible apply ite_reswf'
    | with_reducible apply next_wf
    | (intro _)
    | split

theorem execBankArm_wf (a0 : Nat) (s : State) : ResKept (execBankArm a0 s) s := by
  unfold execBankArm
  intro h
  try dsimp only
  repeat' first
    | with_reducible assumption
    | with_reducible apply State.irq_wf
    | with_reducible apply State.set_wf
    | with_reducible apply State.newPeriod_wf
    | with_reducible apply State.swapBank_wf
    | with_reducible apply State.announceBank_wf
    | with_reducible apply State.on_wf
    | with_reducible apply State.each_wf
    | with_reducible apply ite_wf'
    | with_reducible apply ite_reswf'
    | with_reducible apply next_wf
    | (intro _)
    | split

theorem State.cancelBank_wf (s : State) (a1 : Nat) : Kept (State.cancelBank s a1) s := by
  unfold State.cancelBank
  intro h
  try dsimp only
  repeat' first
    | with_reducible assumption
    | with_reducible apply State.set_wf
    | with_reducible apply State.setLink_wf
    | with_reducible apply State.on_wf
    | with_reducible apply State.each_wf
    | with_reducible apply ite_wf'
    | with_reducible apply ite_reswf'
    | with_reducible apply next_wf
    | simp only [State.wf_air]
    | (intro _)
    | split

theorem execBankCancel_wf (a0 : Nat) (s : State) : ResKept (execBankCancel a0 s) s := by
  unfold execBankCancel
  intro h
  simp +contextual only [h, State.cancelBank_wf, wf_next, ite_self, implies_true, State.each_wf, State.on_wf, apply_ite State.wf, apply_ite Res.wf, apply_ite Prod.fst, apply_ite Prod.snd, if_true]

theorem State.lostClr_wf (s : State) (a1 : Src) : Kept (State.lostClr s a1) s := by
  unfold State.lostClr
  intro h
  simp +contextual only [h, State.set_wf, wf_next, ite_self, implies_true, State.each_wf, State.on_wf, apply_ite State.wf, apply_ite Res.wf, apply_ite Prod.fst, apply_ite Prod.snd, if_true]

theorem State.wantCredit_wf (s : State) (a1 : Nat) : Kept (State.wantCredit s a1) s := by
  unfold State.wantCredit
  intro h
  simp +contextual only [h, State.wf_lk, wf_next, ite_self, implies_true, State.each_wf, State.on_wf, apply_ite State.wf, apply_ite Res.wf, apply_ite Prod.fst, apply_ite Prod.snd, if_true]

theorem State.newSession_wf (s : State) : Kept (State.newSession s) s := by
  unfold State.newSession
  intro h
  simp +contextual only [h, State.wantCredit_wf, State.set_wf, State.wf_fq_lk, wf_next, ite_self, implies_true, State.each_wf, State.on_wf, apply_ite State.wf, apply_ite Res.wf, apply_ite Prod.fst, apply_ite Prod.snd, if_true]

theorem State.setArb_wf (s : State) (a1 : Nat) (a2 : ArbSt) : Kept (State.setArb s a1 a2) s := by
  unfold State.setArb
  intro h
  simp +contextual only [h, State.wf_arb, wf_next, ite_self, implies_true, State.each_wf, State.on_wf, apply_ite State.wf, apply_ite Res.wf, apply_ite Prod.fst, apply_ite Prod.snd, if_true]

theorem State.arbShow_wf (s : State) (a1 : Nat) : Kept (State.arbShow s a1) s := by
  unfold State.arbShow
  intro h
  try dsimp only
  repeat' first
    | with_reducible assumption
    | with_reducible apply State.set_wf
    | with_reducible apply State.irq_wf
    | with_reducible apply State.on_wf
    | with_reducible apply State.each_wf
    | with_reducible apply ite_wf'
    | with_reducible apply ite_reswf'
    | with_reducible apply next_wf
    | (intro _)
    | split

theorem State.setCtrAt_wf (s : State) (a v : Nat) : Kept (s.setCtrAt a v) s := State.keep_ctrs s _ (AMap.wf_set _ _ _ _)

theorem State.arbGrant_wf (s : State) (a1 : Nat) (a2 : Nat) (a3 : Nat) (a4 : ArbReq) : Kept (State.arbGrant s a1 a2 a3 a4) s := by
  unfold State.arbGrant
  intro h
  try dsimp only
  repeat' first
    | with_reducible assumption
    | with_reducible apply State.setCtrAt_wf
    | with_reducible apply State.incAt_wf
    | with_reducible apply State.setArb_wf
    | with_reducible apply State.on_wf
    | with_reducible apply State.each_wf
    | with_reducible apply ite_wf'
    | with_reducible apply ite_reswf'
    | with_reducible apply next_wf
    | (intro _)
    | split

theorem State.arbDecide_wf (s : State) (a1 : Nat) (a2 : Nat) : Kept (State.arbDecide s a1 a2) s := by
  unfold State.arbDecide
  intro h
  try dsimp only
  repeat' first
    | with_reducible assumption
    | with_reducible apply State.arbShow_wf
    | with_reducible apply State.setArb_wf
    | with_reducible apply State.arbGrant_wf
    | with_reducible apply State.on_wf
    | with_reducible apply State.each_wf
    | with_reducible apply ite_wf'
    | with_reducible apply ite_reswf'
    | with_reducible apply next_wf
    | (intro _)
    | split

theorem State.arbThaw_wf (s : State) (a1 : Nat) : Kept (State.arbThaw s a1) s := by
  unfold State.arbThaw
  intro h
  try dsimp only
  repeat' first
    | with_reducible assumption
    | with_reducible apply State.set_wf
    | with_reducible apply State.setArb_wf
    | with_reducible apply State.arbShow_wf
    | with_reducible apply State.arbDecide_wf
    | with_reducible apply State.on_wf
    | with_reducible apply State.each_wf
    | with_reducible apply ite_wf'
    | with_reducible apply ite_reswf'
    | with_reducible apply next_wf
    | (intro _)
    | split

theorem State.hostBump_wf (s : State) : Kept (State.hostBump s) s := by
  unfold State.hostBump
  intro h
  try dsimp only
  repeat' first
    | with_reducible assumption
    | with_reducible apply State.newSession_wf
    | with_reducible apply State.bump_wf
    | with_reducible apply State.arbThaw_wf
    | with_reducible apply State.on_wf
    | with_reducible apply State.each_wf
    | with_reducible apply ite_wf'
    | with_reducible apply ite_reswf'
    | with_reducible apply next_wf
    | (intro _)
    | split

theorem execStopReq_wf (a0 : Src) (a1 : Nat) (s : State) : ResKept (execStopReq a0 a1 s) s := by
  unfold execStopReq
  intro h
  simp +contextual only [h, State.raiseCause_wf, wf_next, ite_self, implies_true, State.each_wf, State.on_wf, apply_ite State.wf, apply_ite Res.wf, apply_ite Prod.fst, apply_ite Prod.snd, if_true]

theorem State.arbSettle_wf (s : State) (a1 : Nat) : Kept (State.arbSettle s a1) s := by
  unfold State.arbSettle
  intro h
  (repeat' split) <;> simp +contextual only [h, State.arbDecide_wf, wf_next, implies_true, State.each_wf, State.on_wf]

theorem State.freezeWrite_wf (s : State) (a1 : Nat) (a2 : Src) (a3 : Bool) : Kept (State.freezeWrite s a1 a2 a3) s := by
  unfold State.freezeWrite
  intro h
  try dsimp only
  repeat' first
    | with_reducible assumption
    | with_reducible apply State.set_wf
    | with_reducible apply State.arbSettle_wf
    | with_reducible apply State.arbShow_wf
    | with_reducible apply State.setArb_wf
    | with_reducible apply State.arbThaw_wf
    | with_reducible apply State.on_wf
    | with_reducible apply State.each_wf
    | with_reducible apply ite_wf'
    | with_reducible apply ite_reswf'
    | with_reducible apply next_wf
    | (intro _)
    | split

theorem State.lwClr_wf (s : State) (a1 : Nat) (a2 : Nat) : Kept (State.lwClr s a1 a2) s := by
  unfold State.lwClr
  intro h
  simp +contextual only [h, State.setArb_wf, wf_next, ite_self, implies_true, State.each_wf, State.on_wf, apply_ite State.wf, apply_ite Res.wf, apply_ite Prod.fst, apply_ite Prod.snd, if_true]

theorem State.qevClr_wf (s : State) (a1 : Nat) : Kept (State.qevClr s a1) s := by
  unfold State.qevClr
  intro h
  simp +contextual only [h, State.setQ_wf, wf_next, ite_self, implies_true, State.each_wf, State.on_wf, apply_ite State.wf, apply_ite Res.wf, apply_ite Prod.fst, apply_ite Prod.snd, if_true]

theorem State.kick_wf (s : State) : Kept (State.kick s) s := by
  unfold State.kick
  intro h
  simp +contextual only [h, State.wf_pair, wf_next, ite_self, implies_true, State.each_wf, State.on_wf, apply_ite State.wf, apply_ite Res.wf, apply_ite Prod.fst, apply_ite Prod.snd, if_true]

theorem execPairKick_wf (s : State) : ResKept (execPairKick s) s := by
  unfold execPairKick
  intro h
  simp +contextual only [h, State.kick_wf, wf_next, ite_self, implies_true, State.each_wf, State.on_wf, apply_ite State.wf, apply_ite Res.wf, apply_ite Prod.fst, apply_ite Prod.snd, if_true]

theorem State.readyShow_wf (s : State) : Kept (State.readyShow s) s := by
  unfold State.readyShow
  intro h
  simp +contextual only [h, State.set_wf, State.wf_pair, wf_next, ite_self, implies_true, State.each_wf, State.on_wf, apply_ite State.wf, apply_ite Res.wf, apply_ite Prod.fst, apply_ite Prod.snd, if_true]

theorem State.setP_wf (s : State) (a1 : Page) (a2 : Fld) (a3 : Nat) : Kept (State.setP s a1 a2 a3) s := by
  unfold State.setP
  intro h
  simp +contextual only [h, State.setReg_wf, wf_next, ite_self, implies_true, State.each_wf, State.on_wf, apply_ite State.wf, apply_ite Res.wf, apply_ite Prod.fst, apply_ite Prod.snd, if_true]

theorem State.arbDrop_wf (s : State) (a1 : Page) : Kept (State.arbDrop s a1) s := by
  unfold State.arbDrop
  intro h
  simp +contextual only [h, State.arbShow_wf, State.setArb_wf, wf_next, ite_self, implies_true, State.each_wf, State.on_wf, apply_ite State.wf, apply_ite Res.wf, apply_ite Prod.fst, apply_ite Prod.snd, if_true]

theorem State.regionCheck_wf (s : State) (a1 : Nat) : Kept (State.regionCheck s a1) s := by
  unfold State.regionCheck
  intro h
  simp +contextual only [h, State.set_wf, wf_next, ite_self, implies_true, State.each_wf, State.on_wf, apply_ite State.wf, apply_ite Res.wf, apply_ite Prod.fst, apply_ite Prod.snd, if_true]

theorem State.dropBurst_wf (s : State) (a1 : Nat) : Kept (State.dropBurst s a1) s := by
  unfold State.dropBurst
  intro h
  try dsimp only
  repeat' first
    | with_reducible assumption
    | with_reducible apply State.set_wf
    | with_reducible apply State.on_wf
    | with_reducible apply State.each_wf
    | with_reducible apply ite_wf'
    | with_reducible apply ite_reswf'
    | with_reducible apply next_wf
    | simp only [State.wf_hg]
    | (intro _)
    | split

theorem State.portDown_wf (s : State) (a1 : Nat) : Kept (State.portDown s a1) s := by
  unfold State.portDown
  intro h
  try dsimp only
  repeat' first
    | with_reducible assumption
    | with_reducible apply State.setPort_wf
    | with_reducible apply State.emit_wf
    | with_reducible apply State.set_wf
    | with_reducible apply State.dropBurst_wf
    | with_reducible apply State.on_wf
    | with_reducible apply State.each_wf
    | with_reducible apply ite_wf'
    | with_reducible apply ite_reswf'
    | with_reducible apply next_wf
    | (intro _)
    | split

theorem State.setBlocker_wf (s : State) : Kept (State.setBlocker s) s := by
  unfold State.setBlocker
  intro h
  (repeat' split) <;> simp +contextual only [h, State.setReg_wf, wf_next, implies_true, State.each_wf, State.on_wf]

theorem State.armCheck_wf (s : State) : Kept (State.armCheck s) s := by
  unfold State.armCheck
  intro h
  simp +contextual only [h, State.disarm_wf, wf_next, ite_self, implies_true, State.each_wf, State.on_wf, apply_ite State.wf, apply_ite Res.wf, apply_ite Prod.fst, apply_ite Prod.snd, if_true]

theorem State.recompute_wf (s : State) : Kept (State.recompute s) s := by
  unfold State.recompute
  intro h
  try dsimp only
  repeat' first
    | with_reducible assumption
    | with_reducible apply State.setBlocker_wf
    | with_reducible apply State.set_wf
    | with_reducible apply State.announce_wf
    | with_reducible apply State.armCheck_wf
    | with_reducible apply State.on_wf
    | with_reducible apply State.each_wf
    | with_reducible apply ite_wf'
    | with_reducible apply ite_reswf'
    | with_reducible apply next_wf
    | simp only [State.wf_flt]
    | (intro _)
    | split

theorem State.goState_wf (s : State) (a1 : Page) (a2 : Nat) : Kept (State.goState s a1 a2) s := by
  unfold State.goState
  intro h
  try dsimp only
  repeat' first
    | with_reducible assumption
    | with_reducible apply State.setP_wf
    | with_reducible apply State.irq_wf
    | with_reducible apply State.arbDrop_wf
    | with_reducible apply State.regionCheck_wf
    | with_reducible apply State.portDown_wf
    | with_reducible apply State.recompute_wf
    | with_reducible apply State.on_wf
    | with_reducible apply State.each_wf
    | with_reducible apply ite_wf'
    | with_reducible apply ite_reswf'
    | with_reducible apply next_wf
    | simp only [State.wf_pair]
    | (intro _)
    | split

theorem State.portStart_wf (s : State) (a1 : Nat) : Kept (State.portStart s a1) s := by
  unfold State.portStart
  intro h
  try dsimp only
  repeat' first
    | with_reducible assumption
    | with_reducible apply State.setPort_wf
    | with_reducible apply State.emit_wf
    | with_reducible apply State.set_wf
    | with_reducible apply State.on_wf
    | with_reducible apply State.each_wf
    | with_reducible apply ite_wf'
    | with_reducible apply ite_reswf'
    | with_reducible apply next_wf
    | (intro _)
    | split

theorem State.stateCompare_wf (s : State) (a1 : Nat) : Kept (State.stateCompare s a1) s := by
  unfold State.stateCompare
  intro h
  simp +contextual only [h, State.free_wf, State.set_wf, wf_next, ite_self, implies_true, State.each_wf, State.on_wf, apply_ite State.wf, apply_ite Res.wf, apply_ite Prod.fst, apply_ite Prod.snd, if_true]

theorem State.gateShow_wf (s : State) : Kept (State.gateShow s) s := by
  unfold State.gateShow
  intro h
  simp +contextual only [h, State.set_wf, wf_next, ite_self, implies_true, State.each_wf, State.on_wf, apply_ite State.wf, apply_ite Res.wf, apply_ite Prod.fst, apply_ite Prod.snd, if_true]

theorem State.unclaim_wf (s : State) : Kept (State.unclaim s) s := by
  unfold State.unclaim
  intro h
  try dsimp only
  repeat' first
    | with_reducible assumption
    | with_reducible apply State.gateShow_wf
    | with_reducible apply State.emit_wf
    | with_reducible apply State.set_wf
    | with_reducible apply State.on_wf
    | with_reducible apply State.each_wf
    | with_reducible apply ite_wf'
    | with_reducible apply ite_reswf'
    | with_reducible apply next_wf
    | simp only [State.wf_pair]
    | (intro _)
    | split

theorem State.switchEnds_wf (s : State) (a1 : Nat) : Kept (State.switchEnds s a1) s := by
  unfold State.switchEnds
  intro h
  simp +contextual only [h, State.sysEvent_wf, State.set_wf, wf_next, ite_self, implies_true, State.each_wf, State.on_wf, apply_ite State.wf, apply_ite Res.wf, apply_ite Prod.fst, apply_ite Prod.snd, if_true]

theorem State.handOver_wf (s : State) (a1 : Nat) : Kept (State.handOver s a1) s := by
  unfold State.handOver
  intro h
  try dsimp only
  repeat' first
    | with_reducible assumption
    | with_reducible apply State.unclaim_wf
    | with_reducible apply State.pairSend_wf
    | with_reducible apply State.switchEnds_wf
    | with_reducible apply State.inc_wf
    | with_reducible apply State.set_wf
    | with_reducible apply State.on_wf
    | with_reducible apply State.each_wf
    | with_reducible apply ite_wf'
    | with_reducible apply ite_reswf'
    | with_reducible apply next_wf
    | simp only [State.wf_pair]
    | (intro _)
    | split

theorem State.gateFault_wf (s : State) (a1 : optParam Nat (evCode 0 I.HEADGATE_GATE_FAULT)) : Kept (State.gateFault s a1) s := by
  unfold State.gateFault
  intro h
  try dsimp only
  repeat' first
    | with_reducible assumption
    | with_reducible apply State.irq_wf
    | with_reducible apply State.set_wf
    | with_reducible apply State.handOver_wf
    | with_reducible apply State.outsLow_wf
    | with_reducible apply State.raiseCause_wf
    | with_reducible apply State.on_wf
    | with_reducible apply State.each_wf
    | with_reducible apply ite_wf'
    | with_reducible apply ite_reswf'
    | with_reducible apply next_wf
    | (intro _)
    | split

theorem State.errShow_wf (s : State) (a1 : Page) (a2 : Nat) (a3 : Nat) (a4 : Nat) : Kept (State.errShow s a1 a2 a3 a4) s := by
  unfold State.errShow
  intro h
  simp +contextual only [h, State.setReg_wf, wf_next, ite_self, implies_true, State.each_wf, State.on_wf, apply_ite State.wf, apply_ite Res.wf, apply_ite Prod.fst, apply_ite Prod.snd, if_true]

theorem State.keep_pg (t : State) (x : AMap PageSt) (hx : AMap.wf (fun _ => ({} : PageSt)) t.pg = true → AMap.wf (fun _ => ({} : PageSt)) x = true) : Kept { t with pg := x } t := by
  intro w
  rw [State.wf_iff] at w ⊢
  exact ⟨(w.1), (w.2.1), (w.2.2.1), (w.2.2.2.1), (w.2.2.2.2.1), (hx w.2.2.2.2.2.1), (w.2.2.2.2.2.2.1), (w.2.2.2.2.2.2.2)⟩

theorem State.setPage_wf (s : State) (p : Page) (v : PageSt) : Kept (s.setPage p v) s := State.keep_pg s _ (AMap.wf_set _ _ _ _)

theorem State.errReport_wf (s : State) (a1 : Page) (a2 : Nat) (a3 : Nat) (a4 : Nat) (a5 : Bool) (a6 : Nat) (a7 : Nat) (a8 : Nat) : Kept (State.errReport s a1 a2 a3 a4 a5 a6 a7 a8) s := by
  unfold State.errReport
  intro h
  try dsimp only
  repeat' first
    | with_reducible assumption
    | with_reducible apply State.errShow_wf
    | with_reducible apply State.incP_wf
    | with_reducible apply State.setPage_wf
    | with_reducible apply State.set_wf
    | with_reducible apply State.event_wf
    | with_reducible apply State.irq_wf
    | with_reducible apply State.on_wf
    | with_reducible apply State.each_wf
    | with_reducible apply ite_wf'
    | with_reducible apply ite_reswf'
    | with_reducible apply next_wf
    | (intro _)
    | split

theorem State.enterFault_wf (s : State) (a1 : Page) : Kept (State.enterFault s a1) s := by
  unfold State.enterFault
  intro h
  simp +contextual only [h, State.goState_wf, State.setPage_wf, wf_next, ite_self, implies_true, State.each_wf, State.on_wf, apply_ite State.wf, apply_ite Res.wf, apply_ite Prod.fst, apply_ite Prod.snd, if_true]

theorem State.blockError_wf (s : State) (a1 : Page) (a2 : Nat) (a3 : Nat) (a4 : Nat) (a5 : Nat) (a6 : Nat) (a7 : Nat) : Kept (State.blockError s a1 a2 a3 a4 a5 a6 a7) s := by
  unfold State.blockError
  intro h
  try dsimp only
  repeat' first
    | with_reducible assumption
    | with_reducible apply State.recompute_wf
    | with_reducible apply State.stateCompare_wf
    | with_reducible apply State.gateFault_wf
    | with_reducible apply State.errReport_wf
    | with_reducible apply State.enterFault_wf
    | with_reducible apply State.on_wf
    | with_reducible apply State.each_wf
    | with_reducible apply ite_wf'
    | with_reducible apply ite_reswf'
    | with_reducible apply next_wf
    | (intro _)
    | split

theorem State.dramStart_wf (s : State) : Kept (State.dramStart s) s := by
  unfold State.dramStart
  intro h
  try dsimp only
  repeat' first
    | with_reducible assumption
    | with_reducible apply State.set_wf
    | with_reducible apply State.blockError_wf
    | with_reducible apply State.on_wf
    | with_reducible apply State.each_wf
    | with_reducible apply ite_wf'
    | with_reducible apply ite_reswf'
    | with_reducible apply next_wf
    | (intro _)
    | split

theorem State.startBlock_wf (s : State) (a1 : Page) : Kept (State.startBlock s a1) s := by
  unfold State.startBlock
  intro h
  grind [State.goState_wf, State.portStart_wf, State.dramStart_wf, wf_next]

theorem State.startRegions_wf (s : State) : Kept s.startRegions s := by
  unfold State.startRegions
  exact (State.recompute_wf _).trans ((State.set_wf _ _ _ _ _).trans (State.each_wf _ _ _ fun t p => ite_wf (State.startBlock_wf _ _) id))

theorem State.pairPower_wf (s : State) (a1 : Nat) (a2 : Nat) : Kept (State.pairPower s a1 a2) s := by
  unfold State.pairPower
  intro h
  simp +contextual only [h, State.set_wf, wf_next, ite_self, implies_true, State.each_wf, State.on_wf, apply_ite State.wf, apply_ite Res.wf, apply_ite Prod.fst, apply_ite Prod.snd, if_true]

theorem State.goPair_wf (s : State) (a1 : Nat) : Kept (State.goPair s a1) s := by
  unfold State.goPair
  intro h
  try dsimp only
  repeat' first
    | with_reducible assumption
    | with_reducible apply State.irq_wf
    | with_reducible apply State.pairPower_wf
    | with_reducible apply State.set_wf
    | with_reducible apply State.on_wf
    | with_reducible apply State.each_wf
    | with_reducible apply ite_wf'
    | with_reducible apply ite_reswf'
    | with_reducible apply next_wf
    | (intro _)
    | split

theorem State.relayMaps_wf (s : State) (a1 : Nat) (a2 : Bool) : Kept (State.relayMaps s a1 a2) s := by
  unfold State.relayMaps
  intro h
  try dsimp only
  repeat' first
    | with_reducible assumption
    | with_reducible apply State.queueRecord_wf
    | with_reducible apply State.on_wf
    | with_reducible apply State.each_wf
    | with_reducible apply ite_wf'
    | with_reducible apply ite_reswf'
    | with_reducible apply next_wf
    | (intro _)
    | split

theorem State.setChan_wf (s : State) (a1 : Nat) (a2 : Chan) : Kept (State.setChan s a1 a2) s := by
  unfold State.setChan
  intro h
  try dsimp only
  repeat' first
    | with_reducible assumption
    | with_reducible apply State.set_wf
    | with_reducible apply State.on_wf
    | with_reducible apply State.each_wf
    | with_reducible apply ite_wf'
    | with_reducible apply ite_reswf'
    | with_reducible apply next_wf
    | simp only [State.wf_gn]
    | (intro _)
    | split

theorem State.loseChan_wf (s : State) (a1 : Nat) : Kept (State.loseChan s a1) s := by
  unfold State.loseChan
  intro h
  simp +contextual only [h, State.inc_wf, State.setChan_wf, wf_next, ite_self, implies_true, State.each_wf, State.on_wf, apply_ite State.wf, apply_ite Res.wf, apply_ite Prod.fst, apply_ite Prod.snd, if_true]

theorem State.gnssBlock_wf (s : State) (a1 : Page) (a2 : Bool) : Kept (State.gnssBlock s a1 a2) s := by
  unfold State.gnssBlock
  intro h
  try dsimp only
  repeat' first
    | with_reducible assumption
    | with_reducible apply State.set_wf
    | with_reducible apply State.irq_wf
    | with_reducible apply State.setChan_wf
    | with_reducible apply State.antTimes_wf
    | with_reducible apply State.loseChan_wf
    | with_reducible apply State.on_wf
    | with_reducible apply State.each_wf
    | with_reducible apply ite_wf'
    | with_reducible apply ite_reswf'
    | with_reducible apply next_wf
    | simp only [State.wf_gn]
    | (intro _)
    | split

theorem State.sendHello_wf (s : State) (a1 : Nat) : Kept (State.sendHello s a1) s := by
  unfold State.sendHello
  intro h
  simp +contextual only [h, State.emit_wf, wf_next, ite_self, implies_true, State.each_wf, State.on_wf, apply_ite State.wf, apply_ite Res.wf, apply_ite Prod.fst, apply_ite Prod.snd, if_true]

theorem State.ringShow_wf (s : State) : Kept (State.ringShow s) s := by
  unfold State.ringShow
  intro h
  try dsimp only
  repeat' first
    | with_reducible assumption
    | with_reducible apply State.set_wf
    | with_reducible apply State.on_wf
    | with_reducible apply State.each_wf
    | with_reducible apply ite_wf'
    | with_reducible apply ite_reswf'
    | with_reducible apply next_wf
    | simp only [State.wf_canal]
    | (intro _)
    | split

theorem State.mapLink_wf (s : State) (a1 : Nat) (a2 : Bool) : Kept (State.mapLink s a1 a2) s := by
  unfold State.mapLink
  intro h
  simp +contextual only [h, State.ringShow_wf, State.wf_canal, wf_next, ite_self, implies_true, State.each_wf, State.on_wf, apply_ite State.wf, apply_ite Res.wf, apply_ite Prod.fst, apply_ite Prod.snd, if_true]

theorem State.reroute_wf (s : State) (a1 : Nat) (a2 : CanalMsg) : Kept (State.reroute s a1 a2) s := by
  rw [State.reroute.eq_def]
  intro h
  grind [State.canalOut_wf, State.inc_wf, wf_next]

theorem State.ctrlOut_wf (s : State) (a1 : Nat) (a2 : CanalBody) : Kept (State.ctrlOut s a1 a2) s := by
  unfold State.ctrlOut
  intro h
  simp +contextual only [h, State.canalOut_wf, wf_next, ite_self, implies_true, State.each_wf, State.on_wf, apply_ite State.wf, apply_ite Res.wf, apply_ite Prod.fst, apply_ite Prod.snd, if_true]

theorem State.canalLeave_wf (s : State) (a1 : Nat) (a2 : Nat) : Kept (State.canalLeave s a1 a2) s := by
  unfold State.canalLeave
  intro h
  try dsimp only
  repeat' first
    | with_reducible assumption
    | with_reducible apply State.set_wf
    | with_reducible apply State.setCport_wf
    | with_reducible apply State.sendHello_wf
    | with_reducible apply State.ringShow_wf
    | with_reducible apply State.irq_wf
    | with_reducible apply State.inc_wf
    | with_reducible apply State.mapLink_wf
    | with_reducible apply State.reroute_wf
    | with_reducible apply State.ctrlOut_wf
    | with_reducible apply State.on_wf
    | with_reducible apply State.each_wf
    | with_reducible apply ite_wf'
    | with_reducible apply ite_reswf'
    | with_reducible apply next_wf
    | (intro _)
    | split

theorem State.ethLink_wf (s : State) (a1 : Nat) (a2 : Bool) (a3 : Bool) : Kept (State.ethLink s a1 a2 a3) s := by
  unfold State.ethLink
  intro h
  try dsimp only
  repeat' first
    | with_reducible assumption
    | with_reducible apply State.set_wf
    | with_reducible apply State.inc_wf
    | with_reducible apply State.irq_wf
    | with_reducible apply State.qPump_wf
    | with_reducible apply State.on_wf
    | with_reducible apply State.each_wf
    | with_reducible apply ite_wf'
    | with_reducible apply ite_reswf'
    | with_reducible apply next_wf
    | (intro _)
    | split

theorem State.pcieReset_wf (s : State) : Kept (State.pcieReset s) s := by
  unfold State.pcieReset
  intro h
  try dsimp only
  repeat' first
    | with_reducible assumption
    | with_reducible apply State.set_wf
    | with_reducible apply State.on_wf
    | with_reducible apply State.each_wf
    | with_reducible apply ite_wf'
    | with_reducible apply ite_reswf'
    | with_reducible apply next_wf
    | simp only [State.wf_vecMask]
    | (intro _)
    | split

theorem State.pcieDown_wf (s : State) : Kept (State.pcieDown s) s := by
  unfold State.pcieDown
  intro h
  try dsimp only
  repeat' first
    | with_reducible assumption
    | with_reducible apply State.hostBump_wf
    | with_reducible apply State.pcieReset_wf
    | with_reducible apply State.inc_wf
    | with_reducible apply State.on_wf
    | with_reducible apply State.each_wf
    | with_reducible apply ite_wf'
    | with_reducible apply ite_reswf'
    | with_reducible apply next_wf
    | (intro _)
    | split

theorem State.meterFlush1_wf (s : State) : Kept (State.meterFlush1 s) s := by
  unfold State.meterFlush1
  intro h
  dsimp only
  (repeat' split) <;> simp +contextual only [h, State.inc_wf, State.qBytes_wf, State.wf_met, wf_next, implies_true, State.each_wf, State.on_wf]

theorem State.meterFlush_wf (s : State) : Kept (State.meterFlush s) s := by
  unfold State.meterFlush
  intro h
  try dsimp only
  repeat' first
    | with_reducible assumption
    | with_reducible apply State.meterFlush1_wf
    | with_reducible apply State.on_wf
    | with_reducible apply State.each_wf
    | with_reducible apply ite_wf'
    | with_reducible apply ite_reswf'
    | with_reducible apply next_wf
    | simp only [State.wf_met]
    | (intro _)
    | split

theorem State.setDock_wf (s : State) (a1 : Nat) (a2 : DockSt) : Kept (State.setDock s a1 a2) s := by
  unfold State.setDock
  intro h
  simp +contextual only [h, State.wf_met, wf_next, ite_self, implies_true, State.each_wf, State.on_wf, apply_ite State.wf, apply_ite Res.wf, apply_ite Prod.fst, apply_ite Prod.snd, if_true]

theorem State.meterStore_wf (s : State) (a1 : List Nat) : Kept (State.meterStore s a1) s := by
  unfold State.meterStore
  intro h
  simp +contextual only [h, State.meterFlush_wf, State.wf_met, wf_next, ite_self, implies_true, State.each_wf, State.on_wf, apply_ite State.wf, apply_ite Res.wf, apply_ite Prod.fst, apply_ite Prod.snd, if_true]

theorem State.dockEnd_wf (s : State) (a1 : Nat) (a2 : Nat) : Kept (State.dockEnd s a1 a2) s := by
  unfold State.dockEnd
  intro h
  simp +contextual only [h, State.setDock_wf, State.meterStore_wf, wf_next, ite_self, implies_true, State.each_wf, State.on_wf, apply_ite State.wf, apply_ite Res.wf, apply_ite Prod.fst, apply_ite Prod.snd, if_true]

theorem State.docksEnd_wf (s : State) (a1 : Nat) : Kept (State.docksEnd s a1) s := by
  unfold State.docksEnd
  intro h
  try dsimp only
  repeat' first
    | with_reducible assumption
    | with_reducible apply State.meterFlush_wf
    | with_reducible apply State.dockEnd_wf
    | with_reducible apply State.on_wf
    | with_reducible apply State.each_wf
    | with_reducible apply ite_wf'
    | with_reducible apply ite_reswf'
    | with_reducible apply next_wf
    | (intro _)
    | split

theorem State.pqShow_wf (s : State) : Kept (State.pqShow s) s := by
  unfold State.pqShow
  intro h
  try dsimp only
  repeat' first
    | with_reducible assumption
    | with_reducible apply State.set_wf
    | with_reducible apply State.on_wf
    | with_reducible apply State.each_wf
    | with_reducible apply ite_wf'
    | with_reducible apply ite_reswf'
    | with_reducible apply next_wf
    | (intro _)
    | split

theorem State.setPq_wf (s : State) (a1 : Nat) (a2 : PqSt) : Kept (State.setPq s a1 a2) s := by
  unfold State.setPq
  intro h
  simp +contextual only [h, State.pqShow_wf, State.wf_met, wf_next, ite_self, implies_true, State.each_wf, State.on_wf, apply_ite State.wf, apply_ite Res.wf, apply_ite Prod.fst, apply_ite Prod.snd, if_true]

theorem State.pqExtreme_wf (s : State) (a1 : Nat) : Kept (State.pqExtreme s a1).2 s := by
  unfold State.pqExtreme
  intro h
  simp +contextual only [h, State.free_wf, wf_next, ite_self, implies_true, State.each_wf, State.on_wf, apply_ite State.wf, apply_ite Res.wf, apply_ite Prod.fst, apply_ite Prod.snd, if_true]

theorem State.pqStore_wf (s : State) (a1 : List Nat) : Kept (State.pqStore s a1) s := by
  unfold State.pqStore
  intro h
  simp +contextual only [h, State.meterFlush_wf, State.wf_met, wf_next, ite_self, implies_true, State.each_wf, State.on_wf, apply_ite State.wf, apply_ite Res.wf, apply_ite Prod.fst, apply_ite Prod.snd, if_true]

theorem State.pqEnd_wf (s : State) (a1 : Nat) (a2 : Bool) : Kept (State.pqEnd s a1 a2) s := by
  unfold State.pqEnd
  intro h
  try dsimp only
  repeat' first
    | with_reducible assumption
    | with_reducible apply State.setPq_wf
    | with_reducible apply State.pqExtreme_wf
    | with_reducible apply State.pqStore_wf
    | with_reducible apply State.notice_wf
    | with_reducible apply State.inc_wf
    | with_reducible apply State.on_wf
    | with_reducible apply State.each_wf
    | with_reducible apply ite_wf'
    | with_reducible apply ite_reswf'
    | with_reducible apply next_wf
    | simp only [State.wf_met]
    | (intro _)
    | split

theorem State.pqTruncate_wf (s : State) : Kept (State.pqTruncate s) s := by
  unfold State.pqTruncate
  intro h
  try dsimp only
  repeat' first
    | with_reducible assumption
    | with_reducible apply State.pqEnd_wf
    | with_reducible apply State.on_wf
    | with_reducible apply State.each_wf
    | with_reducible apply ite_wf'
    | with_reducible apply ite_reswf'
    | with_reducible apply next_wf
    | (intro _)
    | split

theorem State.meterStop_wf (s : State) : Kept (State.meterStop s) s := by
  unfold State.meterStop
  intro h
  simp +contextual only [h, State.docksEnd_wf, State.pqTruncate_wf, wf_next, ite_self, implies_true, State.each_wf, State.on_wf, apply_ite State.wf, apply_ite Res.wf, apply_ite Prod.fst, apply_ite Prod.snd, if_true]

theorem State.leaveOn_wf (s : State) (a1 : Page) : Kept (State.leaveOn s a1) s := by
  unfold State.leaveOn
  intro h
  dsimp only
  (repeat' split) <;> simp +contextual only [h, State.setPage_wf, State.relayMaps_wf, State.gnssBlock_wf, State.canalLeave_wf, State.ethLink_wf, State.pcieDown_wf, State.meterStop_wf, State.wf_rtk, wf_next, implies_true, State.each_wf, State.on_wf]

theorem State.blockOff_wf (s : State) (a1 : Page) : Kept (State.blockOff s a1) s := by
  unfold State.blockOff
  intro h
  try dsimp only
  repeat' first
    | with_reducible assumption
    | with_reducible apply State.goState_wf
    | with_reducible apply State.leaveOn_wf
    | with_reducible apply State.abortCore_wf
    | with_reducible apply State.on_wf
    | with_reducible apply State.each_wf
    | with_reducible apply ite_wf'
    | with_reducible apply ite_reswf'
    | with_reducible apply next_wf
    | (intro _)
    | split

theorem State.secShow_wf (s : State) : Kept (State.secShow s) s := by
  unfold State.secShow
  intro h
  try dsimp only
  repeat' first
    | with_reducible assumption
    | with_reducible apply State.set_wf
    | with_reducible apply State.on_wf
    | with_reducible apply State.each_wf
    | with_reducible apply ite_wf'
    | with_reducible apply ite_reswf'
    | with_reducible apply next_wf
    | (intro _)
    | split

theorem State.ksPut_wf (s : State) (a1 : Nat) (a2 : Nat) (a3 : Nat) (a4 : Nat) (a5 : Nat) (a6 : Nat) : Kept (State.ksPut s a1 a2 a3 a4 a5 a6) s := by
  unfold State.ksPut
  intro h
  try dsimp only
  repeat' first
    | with_reducible assumption
    | with_reducible apply State.secShow_wf
    | with_reducible apply State.setTe_wf
    | with_reducible apply State.on_wf
    | with_reducible apply State.each_wf
    | with_reducible apply ite_wf'
    | with_reducible apply ite_reswf'
    | with_reducible apply next_wf
    | (intro _)
    | split

theorem State.zeroise_wf (s : State) (a1 : Nat) : Kept (State.zeroise s a1) s := by
  unfold State.zeroise
  intro h
  simp +contextual only [h, State.ksPut_wf, wf_next, ite_self, implies_true, State.each_wf, State.on_wf, apply_ite State.wf, apply_ite Res.wf, apply_ite Prod.fst, apply_ite Prod.snd, if_true]

theorem State.clearTable_wf (s : State) (p : Page) (t : Nat) : Kept (s.clearTable p t) s := State.keep_tbl s _ (AMap.wf_clearRange _ _ _ _)

theorem State.motClear_wf (s : State) : Kept (State.motClear s) s := by
  unfold State.motClear
  intro h
  try dsimp only
  repeat' first
    | with_reducible assumption
    | with_reducible apply State.setMove_wf
    | with_reducible apply State.setMotion_wf
    | with_reducible apply State.on_wf
    | with_reducible apply State.each_wf
    | with_reducible apply ite_wf'
    | with_reducible apply ite_reswf'
    | with_reducible apply next_wf
    | (intro _)
    | split

theorem State.setEth_wf (s : State) (a1 : Nat) (a2 : EthSt) : Kept (State.setEth s a1 a2) s := by
  unfold State.setEth
  intro h
  simp +contextual only [h, State.wf_lk, wf_next, ite_self, implies_true, State.each_wf, State.on_wf, apply_ite State.wf, apply_ite Res.wf, apply_ite Prod.fst, apply_ite Prod.snd, if_true]

theorem State.sramLost_wf (s : State) (p : Page) : Kept (s.sramLost p) s := by
  have h : Kept (if p.blk = .keystore then s.each (List.range 64) State.zeroise else s.each (List.range 16) fun s k => s.clearTable p k) s :=
    ite_wf (State.each_wf _ _ _ fun t x => State.zeroise_wf _ _) (State.each_wf _ _ _ fun t x => State.clearTable_wf _ _ _)
  unfold State.sramLost
  dsimp only
  revert h
  generalize (if p.blk = .keystore then s.each (List.range 64) State.zeroise else s.each (List.range 16) fun s k => s.clearTable p k) = u
  intro h
  split
  · exact (State.keep_mot u.motClear [] fun _ => rfl).trans ((State.motClear_wf _).trans h)
  · exact h
  · exact (State.leaseShow_wf { u with ls := _ }).trans h
  · exact h
  · exact (State.regCounts_wf _).trans h
  · exact h
  · exact h
  · exact h
  · exact (State.setEth_wf _ _ _).trans h
  · exact h

theorem State.gateRegions_wf (s : State) : Kept (State.gateRegions s) s := by
  unfold State.gateRegions
  intro h
  try dsimp only
  repeat' first
    | with_reducible assumption
    | with_reducible apply State.set_wf
    | with_reducible apply State.blockOff_wf
    | with_reducible apply State.sramLost_wf
    | with_reducible apply State.on_wf
    | with_reducible apply State.each_wf
    | with_reducible apply ite_wf'
    | with_reducible apply ite_reswf'
    | with_reducible apply next_wf
    | simp only [State.wf_ls]
    | (intro _)
    | split

theorem State.goCold_wf (s : State) : Kept (State.goCold s) s := by
  unfold State.goCold
  intro h
  try dsimp only
  repeat' first
    | with_reducible assumption
    | with_reducible apply State.readyShow_wf
    | with_reducible apply State.gateRegions_wf
    | with_reducible apply State.goPair_wf
    | with_reducible apply State.set_wf
    | with_reducible apply State.on_wf
    | with_reducible apply State.each_wf
    | with_reducible apply ite_wf'
    | with_reducible apply ite_reswf'
    | with_reducible apply next_wf
    | (intro _)
    | split

theorem State.warm_wf (s : State) (a1 : Bool) : Kept (State.warm s a1) s := by
  unfold State.warm
  intro h
  try dsimp only
  repeat' first
    | with_reducible assumption
    | with_reducible apply State.set_wf
    | with_reducible apply State.readyShow_wf
    | with_reducible apply State.startRegions_wf
    | with_reducible apply State.goPair_wf
    | with_reducible apply State.goCold_wf
    | with_reducible apply State.on_wf
    | with_reducible apply State.each_wf
    | with_reducible apply ite_wf'
    | with_reducible apply ite_reswf'
    | with_reducible apply next_wf
    | (intro _)
    | split

theorem State.foundStatus_wf (s : State) : Kept (State.foundStatus s) s := by
  unfold State.foundStatus
  intro h
  try dsimp only
  repeat' first
    | with_reducible assumption
    | with_reducible apply State.set_wf
    | with_reducible apply State.on_wf
    | with_reducible apply State.each_wf
    | with_reducible apply ite_wf'
    | with_reducible apply ite_reswf'
    | with_reducible apply next_wf
    | (intro _)
    | split

theorem State.saveSeq_wf (s : State) : Kept (State.saveSeq s) s := by
  unfold State.saveSeq
  intro h
  simp +contextual only [h, State.wf_ev, wf_next, ite_self, implies_true, State.each_wf, State.on_wf, apply_ite State.wf, apply_ite Res.wf, apply_ite Prod.fst, apply_ite Prod.snd, if_true]

theorem State.foundProgram_wf (s : State) (a1 : List FoundRec) (a2 : List FoundRec) : Kept (State.foundProgram s a1 a2) s := by
  unfold State.foundProgram
  intro h
  try dsimp only
  repeat' first
    | with_reducible assumption
    | with_reducible apply State.foundStatus_wf
    | with_reducible apply State.inc_wf
    | with_reducible apply State.saveSeq_wf
    | with_reducible apply State.on_wf
    | with_reducible apply State.each_wf
    | with_reducible apply ite_wf'
    | with_reducible apply ite_reswf'
    | with_reducible apply next_wf
    | simp only [State.wf_ev]
    | (intro _)
    | split

theorem State.foundNow_wf (s : State) (a1 : Nat) : Kept (State.foundNow s a1) s := by
  unfold State.foundNow
  intro h
  simp +contextual only [h, State.foundProgram_wf, wf_next, ite_self, implies_true, State.each_wf, State.on_wf, apply_ite State.wf, apply_ite Res.wf, apply_ite Prod.fst, apply_ite Prod.snd, if_true]

theorem State.free256_wf (s : State) : Kept (State.free256 s).2 s := by
  unfold State.free256
  intro h
  simp +contextual only [h, State.wf_fresh, wf_next, ite_self, implies_true, State.each_wf, State.on_wf, apply_ite State.wf, apply_ite Res.wf, apply_ite Prod.fst, apply_ite Prod.snd, if_true]

theorem State.freeSig_wf (s : State) : Kept (State.freeSig s).2 s := by
  unfold State.freeSig
  intro h
  simp +contextual only [h, State.free256_wf, wf_next, ite_self, implies_true, State.each_wf, State.on_wf, apply_ite State.wf, apply_ite Res.wf, apply_ite Prod.fst, apply_ite Prod.snd, if_true]

theorem State.transportKey_wf (s : State) : Kept (State.transportKey s) s := by
  unfold State.transportKey
  intro h
  try dsimp only
  repeat' first
    | with_reducible assumption
    | with_reducible apply State.free256_wf
    | with_reducible apply State.freeSig_wf
    | with_reducible apply State.ksPut_wf
    | with_reducible apply State.on_wf
    | with_reducible apply State.each_wf
    | with_reducible apply ite_wf'
    | with_reducible apply ite_reswf'
    | with_reducible apply next_wf
    | (intro _)
    | split

theorem State.hgKeyGone_wf (s : State) : Kept (State.hgKeyGone s) s := by
  fun_cases State.hgKeyGone <;> intro h <;> simp_all [State.set_wf, State.wf_hg, Kept]

theorem State.zeroiseAll_wf (s : State) : Kept (State.zeroiseAll s) s := by
  unfold State.zeroiseAll
  intro h
  try dsimp only
  repeat' first
    | with_reducible assumption
    | with_reducible apply State.hgKeyGone_wf
    | with_reducible apply State.zeroise_wf
    | with_reducible apply State.on_wf
    | with_reducible apply State.each_wf
    | with_reducible apply ite_wf'
    | with_reducible apply ite_reswf'
    | with_reducible apply next_wf
    | (intro _)
    | split

theorem State.svcDown_wf (s : State) (a1 : Nat) (a2 : Bool) : Kept (State.svcDown s a1 a2) s := by
  unfold State.svcDown
  intro h
  simp +contextual only [h, State.setSvc_wf, wf_next, ite_self, implies_true, State.each_wf, State.on_wf, apply_ite State.wf, apply_ite Res.wf, apply_ite Prod.fst, apply_ite Prod.snd, if_true]

theorem State.portStop_wf (s : State) (a1 : Nat) : Kept (State.portStop s a1) s := by
  unfold State.portStop
  intro h
  simp +contextual only [h, State.setPort_wf, wf_next, ite_self, implies_true, State.each_wf, State.on_wf, apply_ite State.wf, apply_ite Res.wf, apply_ite Prod.fst, apply_ite Prod.snd, if_true]

theorem State.stopBlock_wf (s : State) (a1 : Page) : Kept (State.stopBlock s a1) s := by
  unfold State.stopBlock
  intro h
  try dsimp only
  repeat' first
    | with_reducible assumption
    | with_reducible apply State.leaveOn_wf
    | with_reducible apply State.goState_wf
    | with_reducible apply State.setPage_wf
    | with_reducible apply State.svcDown_wf
    | with_reducible apply State.portStop_wf
    | with_reducible apply State.on_wf
    | with_reducible apply State.each_wf
    | with_reducible apply ite_wf'
    | with_reducible apply ite_reswf'
    | with_reducible apply next_wf
    | (intro _)
    | split

theorem State.barBlock_wf (s : State) (a1 : Page) : Kept (State.barBlock s a1) s := by
  unfold State.barBlock
  intro h
  simp +contextual only [h, State.setP_wf, State.stopBlock_wf, wf_next, ite_self, implies_true, State.each_wf, State.on_wf, apply_ite State.wf, apply_ite Res.wf, apply_ite Prod.fst, apply_ite Prod.snd, if_true]

theorem State.endService_wf (s : State) : Kept (State.endService s) s := by
  unfold State.endService
  intro h
  try dsimp only
  repeat' first
    | with_reducible assumption
    | with_reducible apply State.goPair_wf
    | with_reducible apply State.handOver_wf
    | with_reducible apply State.clearTable_wf
    | with_reducible apply State.zeroiseAll_wf
    | with_reducible apply State.set_wf
    | with_reducible apply State.recompute_wf
    | with_reducible apply State.barBlock_wf
    | with_reducible apply State.on_wf
    | with_reducible apply State.each_wf
    | with_reducible apply ite_wf'
    | with_reducible apply ite_reswf'
    | with_reducible apply next_wf
    | simp only [State.wf_pair]
    | (intro _)
    | split

theorem State.lcEffect_wf (s : State) (a1 : Nat) : Kept (State.lcEffect s a1) s := by
  unfold State.lcEffect
  intro h
  simp +contextual only [h, State.transportKey_wf, State.endService_wf, wf_next, ite_self, implies_true, State.each_wf, State.on_wf, apply_ite State.wf, apply_ite Res.wf, apply_ite Prod.fst, apply_ite Prod.snd, if_true]

theorem State.lcMove_wf (s : State) (a1 : Nat) (a2 : Nat) (a3 : Bool) : Kept (State.lcMove s a1 a2 a3) s := by
  unfold State.lcMove
  intro h
  try dsimp only
  repeat' first
    | with_reducible assumption
    | with_reducible apply State.eventAt_wf
    | with_reducible apply State.foundNow_wf
    | with_reducible apply State.set_wf
    | with_reducible apply State.lcEffect_wf
    | with_reducible apply State.foundStatus_wf
    | with_reducible apply State.on_wf
    | with_reducible apply State.each_wf
    | with_reducible apply ite_wf'
    | with_reducible apply ite_reswf'
    | with_reducible apply next_wf
    | simp only [State.wf_ev]
    | (intro _)
    | split

theorem State.lcGo_wf (s : State) (a1 : Nat) (a2 : Nat) (a3 : Bool) : Kept (State.lcGo s a1 a2 a3) s := by
  unfold State.lcGo
  intro h
  simp +contextual only [h, State.set_wf, State.lcMove_wf, wf_next, ite_self, implies_true, State.each_wf, State.on_wf, apply_ite State.wf, apply_ite Res.wf, apply_ite Prod.fst, apply_ite Prod.snd, if_true]

theorem execLcRetire_wf (a0 : Bool) (s : State) : ResKept (execLcRetire a0 s) s := by
  unfold execLcRetire
  intro h
  simp +contextual only [h, State.lcGo_wf, wf_next, ite_self, implies_true, State.each_wf, State.on_wf, apply_ite State.wf, apply_ite Res.wf, apply_ite Prod.fst, apply_ite Prod.snd, if_true]

theorem State.dozeBlocks_wf (s : State) (old t : Nat) : Kept (s.dozeBlocks old t) s := by
  unfold State.dozeBlocks
  exact ite_wf (State.each_wf _ _ _ fun t p => State.blockOff_wf _ _) (ite_wf
    (State.each_wf _ _ _ fun t p => ite_wf (State.startBlock_wf _ _) id) id)

theorem State.powerTo_wf (s : State) (a1 : Nat) : Kept (State.powerTo s a1) s := by
  unfold State.powerTo
  intro h
  try dsimp only
  repeat' first
    | with_reducible assumption
    | with_reducible apply State.set_wf
    | with_reducible apply State.recompute_wf
    | with_reducible apply State.dozeBlocks_wf
    | with_reducible apply State.on_wf
    | with_reducible apply State.each_wf
    | with_reducible apply ite_wf'
    | with_reducible apply ite_reswf'
    | with_reducible apply next_wf
    | (intro _)
    | split

theorem execTokOpen_wf (a0 : Src) (s : State) : ResKept (execTokOpen a0 s) s := by
  unfold execTokOpen
  intro h
  simp +contextual only [h, State.set_wf, State.wf_key, wf_next, ite_self, implies_true, State.each_wf, State.on_wf, apply_ite State.wf, apply_ite Res.wf, apply_ite Prod.fst, apply_ite Prod.snd, if_true]

theorem execTokGo_wf (a0 : Src) (s : State) : ResKept (execTokGo a0 s) s := by
  unfold execTokGo
  intro h
  simp +contextual only [h, State.set_wf, State.wf_key, wf_next, ite_self, implies_true, State.each_wf, State.on_wf, apply_ite State.wf, apply_ite Res.wf, apply_ite Prod.fst, apply_ite Prod.snd, if_true]

theorem execTokRelease_wf (a0 : Src) (s : State) : ResKept (execTokRelease a0 s) s := by
  unfold execTokRelease
  intro h
  simp +contextual only [h, State.set_wf, wf_next, ite_self, implies_true, State.each_wf, State.on_wf, apply_ite State.wf, apply_ite Res.wf, apply_ite Prod.fst, apply_ite Prod.snd, if_true]

theorem execAttGo_wf (s : State) : ResKept (execAttGo s) s := by
  unfold execAttGo
  intro h
  simp +contextual only [h, State.set_wf, State.wf_key, wf_next, ite_self, implies_true, State.each_wf, State.on_wf, apply_ite State.wf, apply_ite Res.wf, apply_ite Prod.fst, apply_ite Prod.snd, if_true]

theorem State.dbgResult_wf (s : State) (a1 : Nat) : Kept (State.dbgResult s a1) s := by
  unfold State.dbgResult
  intro h
  simp +contextual only [h, State.set_wf, wf_next, ite_self, implies_true, State.each_wf, State.on_wf, apply_ite State.wf, apply_ite Res.wf, apply_ite Prod.fst, apply_ite Prod.snd, if_true]

theorem State.debugHold_wf (s : State) : Kept (State.debugHold s) s := by
  unfold State.debugHold
  intro h
  simp +contextual only [h, State.raiseCause_wf, wf_next, ite_self, implies_true, State.each_wf, State.on_wf, apply_ite State.wf, apply_ite Res.wf, apply_ite Prod.fst, apply_ite Prod.snd, if_true]

theorem State.dbgOpen_wf (s : State) (a1 : Nat) (a2 : Nat) : Kept (State.dbgOpen s a1 a2) s := by
  unfold State.dbgOpen
  intro h
  try dsimp only
  repeat' first
    | with_reducible assumption
    | with_reducible apply State.inc_wf
    | with_reducible apply State.dbgResult_wf
    | with_reducible apply State.irq_wf
    | with_reducible apply State.set_wf
    | with_reducible apply State.debugHold_wf
    | with_reducible apply State.on_wf
    | with_reducible apply State.each_wf
    | with_reducible apply ite_wf'
    | with_reducible apply ite_reswf'
    | with_reducible apply next_wf
    | (intro _)
    | split

theorem execDbgOpenObserve_wf (s : State) : ResKept (execDbgOpenObserve s) s := by
  unfold execDbgOpenObserve
  intro h
  simp +contextual only [h, State.dbgOpen_wf, State.dbgResult_wf, wf_next, ite_self, implies_true, State.each_wf, State.on_wf, apply_ite State.wf, apply_ite Res.wf, apply_ite Prod.fst, apply_ite Prod.snd, if_true]

theorem execDbgOpenFull_wf (s : State) : ResKept (execDbgOpenFull s) s := by
  unfold execDbgOpenFull
  intro h
  simp +contextual only [h, State.dbgOpen_wf, State.dbgResult_wf, wf_next, ite_self, implies_true, State.each_wf, State.on_wf, apply_ite State.wf, apply_ite Res.wf, apply_ite Prod.fst, apply_ite Prod.snd, if_true]

theorem State.drawChallenge_wf (s : State) : Kept (State.drawChallenge s) s := by
  unfold State.drawChallenge
  intro h
  try dsimp only
  repeat' first
    | with_reducible assumption
    | with_reducible apply State.free256_wf
    | with_reducible apply State.set_wf
    | with_reducible apply State.on_wf
    | with_reducible apply State.each_wf
    | with_reducible apply ite_wf'
    | with_reducible apply ite_reswf'
    | with_reducible apply next_wf
    | (intro _)
    | split

theorem execCertGo_wf (a0 : Bool) (s : State) : ResKept (execCertGo a0 s) s := by
  unfold execCertGo
  intro h
  try dsimp only
  repeat' first
    | with_reducible assumption
    | with_reducible apply State.drawChallenge_wf
    | with_reducible apply State.inc_wf
    | with_reducible apply State.dbgResult_wf
    | with_reducible apply State.dbgOpen_wf
    | with_reducible apply State.set_wf
    | with_reducible apply State.on_wf
    | with_reducible apply State.each_wf
    | with_reducible apply ite_wf'
    | with_reducible apply ite_reswf'
    | with_reducible apply next_wf
    | simp only [State.wf_dbg]
    | (intro _)
    | split

theorem State.supUnhalt_wf (s : State) : Kept (State.supUnhalt s) s := by
  unfold State.supUnhalt
  intro h
  simp +contextual only [h, State.recompute_wf, State.set_wf, wf_next, ite_self, implies_true, State.each_wf, State.on_wf, apply_ite State.wf, apply_ite Res.wf, apply_ite Prod.fst, apply_ite Prod.snd, if_true]

theorem State.dbgClose_wf (s : State) : Kept (State.dbgClose s) s := by
  unfold State.dbgClose
  intro h
  try dsimp only
  repeat' first
    | with_reducible assumption
    | with_reducible apply State.set_wf
    | with_reducible apply State.recompute_wf
    | with_reducible apply State.preempt_wf
    | with_reducible apply State.irq_wf
    | with_reducible apply State.supUnhalt_wf
    | with_reducible apply State.on_wf
    | with_reducible apply State.each_wf
    | with_reducible apply ite_wf'
    | with_reducible apply ite_reswf'
    | with_reducible apply next_wf
    | simp only [State.wf_dbg]
    | (intro _)
    | split

theorem execDbgEnd_wf (s : State) : ResKept (execDbgEnd s) s := by
  unfold execDbgEnd
  intro h
  simp +contextual only [h, State.drawChallenge_wf, State.dbgClose_wf, wf_next, ite_self, implies_true, State.each_wf, State.on_wf, apply_ite State.wf, apply_ite Res.wf, apply_ite Prod.fst, apply_ite Prod.snd, if_true]

theorem execBootOk_wf (a0 : Src) (s : State) : ResKept (execBootOk a0 s) s := by
  unfold execBootOk
  intro h
  try dsimp only
  repeat' first
    | with_reducible assumption
    | with_reducible apply State.set_wf
    | with_reducible apply State.recompute_wf
    | with_reducible apply State.on_wf
    | with_reducible apply State.each_wf
    | with_reducible apply ite_wf'
    | with_reducible apply ite_reswf'
    | with_reducible apply next_wf
    | simp only [State.wf_boot]
    | (intro _)
    | split

theorem State.updResult_wf (s : State) (a1 : Nat) (a2 : Nat) : Kept (State.updResult s a1 a2) s := by
  unfold State.updResult
  intro h
  simp +contextual only [h, State.set_wf, wf_next, ite_self, implies_true, State.each_wf, State.on_wf, apply_ite State.wf, apply_ite Res.wf, apply_ite Prod.fst, apply_ite Prod.snd, if_true]

theorem State.updStart_wf (s : State) (a1 : UpdJob) : Kept (State.updStart s a1) s := by
  unfold State.updStart
  intro h
  simp +contextual only [h, State.updResult_wf, State.set_wf, State.wf_boot, wf_next, ite_self, implies_true, State.each_wf, State.on_wf, apply_ite State.wf, apply_ite Res.wf, apply_ite Prod.fst, apply_ite Prod.snd, if_true]

theorem execUpdVerify_wf (a0 : List ImgSeen) (s : State) : ResKept (execUpdVerify a0 s) s := by
  unfold execUpdVerify
  intro h
  simp +contextual only [h, State.set_wf, State.updStart_wf, State.wf_boot, wf_next, ite_self, implies_true, State.each_wf, State.on_wf, apply_ite State.wf, apply_ite Res.wf, apply_ite Prod.fst, apply_ite Prod.snd, if_true]

theorem execUpdProgram_wf (s : State) : ResKept (execUpdProgram s) s := by
  unfold execUpdProgram
  intro h
  grind [State.set_wf, State.updResult_wf, State.updStart_wf, State.wf_boot, wf_next]

theorem execUpdCancel_wf (s : State) : ResKept (execUpdCancel s) s := by
  unfold execUpdCancel
  intro h
  dsimp only
  (repeat' split) <;> simp +contextual only [h, State.wf_boot, wf_next, implies_true, State.each_wf, State.on_wf]

theorem State.rcvEnd_wf (s : State) : Kept (State.rcvEnd s) s := by
  unfold State.rcvEnd
  intro h
  simp +contextual only [h, State.wf_boot, wf_next, ite_self, implies_true, State.each_wf, State.on_wf, apply_ite State.wf, apply_ite Res.wf, apply_ite Prod.fst, apply_ite Prod.snd, if_true]

theorem State.keep_dram (t : State) (x : AMap Byte) (hx : AMap.wf (fun _ => (0 : Byte)) t.dram = true → AMap.wf (fun _ => (0 : Byte)) x = true) : Kept { t with dram := x } t := by
  intro w
  rw [State.wf_iff] at w ⊢
  exact ⟨(w.1), (w.2.1), (w.2.2.1), (w.2.2.2.1), (hx w.2.2.2.2.1), (w.2.2.2.2.2.1), (w.2.2.2.2.2.2.1), (w.2.2.2.2.2.2.2)⟩

theorem State.dramPut_wf (s : State) (off : Nat) (b : List Nat) : Kept (s.dramPut off b) s := by
  induction b generalizing s off with
  | nil => exact id
  | cons x r ih =>
    unfold State.dramPut
    exact (ih _ _).trans (State.keep_dram s _ (AMap.wf_set _ _ _ _))

theorem State.dramWrite_wf (s : State) (a1 : Nat) (a2 : List Nat) : Kept (State.dramWrite s a1 a2) s := by
  unfold State.dramWrite
  intro h
  simp +contextual only [h, State.dramPut_wf, State.wf_clk, wf_next, ite_self, implies_true, State.each_wf, State.on_wf, apply_ite State.wf, apply_ite Res.wf, apply_ite Prod.fst, apply_ite Prod.snd, if_true]

theorem State.rcvStore_wf (s : State) (a1 : Nat) (a2 : List Nat) : Kept (State.rcvStore s a1 a2) s := by
  unfold State.rcvStore
  intro h
  simp +contextual only [h, State.dramWrite_wf, wf_next, ite_self, implies_true, State.each_wf, State.on_wf, apply_ite State.wf, apply_ite Res.wf, apply_ite Prod.fst, apply_ite Prod.snd, if_true]

theorem State.identity_wf (s : State) (a1 : Nat) : Kept (State.identity s a1) s := by
  unfold State.identity
  intro h
  grind [State.free256_wf, State.freeSig_wf, State.ksPut_wf, State.wf_key, wf_next]

theorem State.romRelease_wf (s : State) : Kept (State.romRelease s) s := by
  unfold State.romRelease
  intro h
  simp +contextual only [h, State.recompute_wf, State.set_wf, State.wf_boot, wf_next, ite_self, implies_true, State.each_wf, State.on_wf, apply_ite State.wf, apply_ite Res.wf, apply_ite Prod.fst, apply_ite Prod.snd, if_true]

theorem State.bootSup_wf (s : State) (a1 : Nat) (a2 : Img) : Kept (State.bootSup s a1 a2) s := by
  unfold State.bootSup
  intro h
  try dsimp only
  repeat' first
    | with_reducible assumption
    | with_reducible apply State.identity_wf
    | with_reducible apply State.set_wf
    | with_reducible apply State.inc_wf
    | with_reducible apply State.romRelease_wf
    | with_reducible apply State.on_wf
    | with_reducible apply State.each_wf
    | with_reducible apply ite_wf'
    | with_reducible apply ite_reswf'
    | with_reducible apply next_wf
    | simp only [State.wf_boot, State.wf_pair_boot]
    | (intro _)
    | split

theorem State.rcvLast_wf (s : State) (a1 : ImgSeen) (a2 : Nat) : Kept (State.rcvLast s a1 a2).1 s := by
  unfold State.rcvLast
  intro h
  simp +contextual only [h, State.rcvEnd_wf, State.bootSup_wf, wf_next, ite_self, implies_true, State.each_wf, State.on_wf, apply_ite State.wf, apply_ite Res.wf, apply_ite Prod.fst, apply_ite Prod.snd, if_true]

theorem State.chunkOn_wf (s : State) (a1 : Nat) (a2 : Nat) (a3 : Nat) (a4 : List Nat) (a5 : ImgSeen) : Kept (State.chunkOn s a1 a2 a3 a4 a5).1 s := by
  unfold State.chunkOn
  intro h
  simp +contextual only [h, State.rcvEnd_wf, State.rcvStore_wf, State.rcvLast_wf, State.wf_boot, wf_next, ite_self, implies_true, State.each_wf, State.on_wf, apply_ite State.wf, apply_ite Res.wf, apply_ite Prod.fst, apply_ite Prod.snd, if_true]

theorem State.chunk_wf (s : State) (a1 : Nat) (a2 : List Nat) (a3 : ImgSeen) : Kept (State.chunk s a1 a2 a3).1 s := by
  unfold State.chunk
  intro h
  dsimp only
  (repeat' split) <;> simp +contextual only [h, State.chunkOn_wf, wf_next, implies_true, State.each_wf, State.on_wf]

theorem execRcvGo_wf (a0 : ImgSeen) (s : State) : ResKept (execRcvGo a0 s) s := by
  unfold execRcvGo
  intro h
  try dsimp only
  repeat' first
    | with_reducible assumption
    | with_reducible apply State.chunk_wf
    | with_reducible apply State.irq_wf
    | with_reducible apply State.set_wf
    | with_reducible apply State.on_wf
    | with_reducible apply State.each_wf
    | with_reducible apply ite_wf'
    | with_reducible apply ite_reswf'
    | with_reducible apply next_wf
    | (intro _)
    | split

theorem State.blockAct_wf (s : State) (a1 : RegWr) (a2 : WrExt) : Kept (State.blockAct s a1 a2) s := by
  unfold State.blockAct
  intro h
  try dsimp only
  repeat' first
    | with_reducible assumption
    | with_reducible apply State.vecAck_wf
    | with_reducible apply State.doit_wf
    | with_reducible apply execReturnReq_wf
    | with_reducible apply State.surveyStart_wf
    | with_reducible apply execSpiTxnGo_wf
    | with_reducible apply execFaultClr_wf
    | with_reducible apply execBankArm_wf
    | with_reducible apply execBankCancel_wf
    | with_reducible apply State.lostClr_wf
    | with_reducible apply State.hostBump_wf
    | with_reducible apply execStopReq_wf
    | with_reducible apply State.freezeWrite_wf
    | with_reducible apply State.lwClr_wf
    | with_reducible apply State.qevClr_wf
    | with_reducible apply execPairKick_wf
    | with_reducible apply State.warm_wf
    | with_reducible apply execLcRetire_wf
    | with_reducible apply State.powerTo_wf
    | with_reducible apply execTokOpen_wf
    | with_reducible apply execTokGo_wf
    | with_reducible apply execTokRelease_wf
    | with_reducible apply execAttGo_wf
    | with_reducible apply execDbgOpenObserve_wf
    | with_reducible apply execDbgOpenFull_wf
    | with_reducible apply execCertGo_wf
    | with_reducible apply execDbgEnd_wf
    | with_reducible apply execBootOk_wf
    | with_reducible apply execUpdVerify_wf
    | with_reducible apply execUpdProgram_wf
    | with_reducible apply execUpdCancel_wf
    | with_reducible apply execRcvGo_wf
    | with_reducible apply State.on_wf
    | with_reducible apply State.each_wf
    | with_reducible apply ite_wf'
    | with_reducible apply ite_reswf'
    | with_reducible apply next_wf
    | (intro _)
    | split

theorem State.refuseRwl_wf (s : State) (a1 : Src) (a2 : Nat) (a3 : optParam Nat 0) : Kept (State.refuseRwl s a1 a2 a3) s := by
  unfold State.refuseRwl
  intro h
  simp +contextual only [h, State.sysEvent_wf, State.inc_wf, wf_next, ite_self, implies_true, State.each_wf, State.on_wf, apply_ite State.wf, apply_ite Res.wf, apply_ite Prod.fst, apply_ite Prod.snd, if_true]

theorem State.enOn_wf (s : State) (a1 : Page) : Kept (State.enOn s a1) s := by
  unfold State.enOn
  intro h
  simp +contextual only [h, State.inc_wf, State.setP_wf, State.startBlock_wf, wf_next, ite_self, implies_true, State.each_wf, State.on_wf, apply_ite State.wf, apply_ite Res.wf, apply_ite Prod.fst, apply_ite Prod.snd, if_true]

theorem State.enOff_wf (s : State) (a1 : Page) : Kept (State.enOff s a1) s := by
  unfold State.enOff
  intro h
  try dsimp only
  repeat' first
    | with_reducible assumption
    | with_reducible apply State.inc_wf
    | with_reducible apply State.setP_wf
    | with_reducible apply State.stopBlock_wf
    | with_reducible apply State.svcDown_wf
    | with_reducible apply State.on_wf
    | with_reducible apply State.each_wf
    | with_reducible apply ite_wf'
    | with_reducible apply ite_reswf'
    | with_reducible apply next_wf
    | (intro _)
    | split

theorem State.writeEn_wf (s : State) (a1 : Src) (a2 : Page) (a3 : Bool) : Kept (State.writeEn s a1 a2 a3) s := by
  unfold State.writeEn
  intro h
  simp +contextual only [h, State.refuseRwl_wf, State.enOn_wf, State.enOff_wf, wf_next, ite_self, implies_true, State.each_wf, State.on_wf, apply_ite State.wf, apply_ite Res.wf, apply_ite Prod.fst, apply_ite Prod.snd, if_true]

theorem execCtrlRestart_wf (a0 : Page) (s : State) : ResKept (execCtrlRestart a0 s) s := by
  unfold execCtrlRestart
  intro h
  simp +contextual only [h, State.goState_wf, State.setP_wf, wf_next, ite_self, implies_true, State.each_wf, State.on_wf, apply_ite State.wf, apply_ite Res.wf, apply_ite Prod.fst, apply_ite Prod.snd, if_true]

theorem execIsoClear_wf (a0 : Page) (s : State) : ResKept (execIsoClear a0 s) s := by
  unfold execIsoClear
  intro h
  simp +contextual only [h, State.setPage_wf, wf_next, ite_self, implies_true, State.each_wf, State.on_wf, apply_ite State.wf, apply_ite Res.wf, apply_ite Prod.fst, apply_ite Prod.snd, if_true]

theorem State.noteCellErr_wf (s : State) (a1 : Page) (a2 : Nat) (a3 : Nat) : Kept (State.noteCellErr s a1 a2 a3) s := by
  unfold State.noteCellErr
  intro h
  simp +contextual only [h, State.setPage_wf, wf_next, ite_self, implies_true, State.each_wf, State.on_wf, apply_ite State.wf, apply_ite Res.wf, apply_ite Prod.fst, apply_ite Prod.snd, if_true]

theorem State.rtkShow_wf (s : State) : Kept (State.rtkShow s) s := by
  unfold State.rtkShow
  intro h
  try dsimp only
  repeat' first
    | with_reducible assumption
    | with_reducible apply State.set_wf
    | with_reducible apply State.on_wf
    | with_reducible apply State.each_wf
    | with_reducible apply ite_wf'
    | with_reducible apply ite_reswf'
    | with_reducible apply next_wf
    | (intro _)
    | split

theorem State.giveUp_wf (s : State) (a1 : Nat) : Kept (State.giveUp s a1) s := by
  unfold State.giveUp
  intro h
  try dsimp only
  repeat' first
    | with_reducible assumption
    | with_reducible apply State.set_wf
    | with_reducible apply State.irq_wf
    | with_reducible apply State.inc_wf
    | with_reducible apply State.rtkShow_wf
    | with_reducible apply State.on_wf
    | with_reducible apply State.each_wf
    | with_reducible apply ite_wf'
    | with_reducible apply ite_reswf'
    | with_reducible apply next_wf
    | simp only [State.wf_rtk]
    | (intro _)
    | split

theorem State.fifoGone_wf (s : State) (a1 : Page) (a2 : Nat) : Kept (State.fifoGone s a1 a2) s := by
  unfold State.fifoGone
  intro h
  try dsimp only
  repeat' first
    | with_reducible assumption
    | with_reducible apply State.free_wf
    | with_reducible apply State.setPage_wf
    | with_reducible apply State.errReport_wf
    | with_reducible apply State.on_wf
    | with_reducible apply State.each_wf
    | with_reducible apply ite_wf'
    | with_reducible apply ite_reswf'
    | with_reducible apply next_wf
    | (intro _)
    | split

theorem State.meterCellGone_wf (s : State) : Kept (State.meterCellGone s) s := by
  unfold State.meterCellGone
  intro h
  try dsimp only
  repeat' first
    | with_reducible assumption
    | with_reducible apply State.setTe_wf
    | with_reducible apply State.irq_wf
    | with_reducible apply State.on_wf
    | with_reducible apply State.each_wf
    | with_reducible apply ite_wf'
    | with_reducible apply ite_reswf'
    | with_reducible apply next_wf
    | (intro _)
    | split

theorem State.svcFault_wf (s : State) (a1 : Nat) : Kept (State.svcFault s a1) s := by
  unfold State.svcFault
  intro h
  try dsimp only
  repeat' first
    | with_reducible assumption
    | with_reducible apply State.newPeriod_wf
    | with_reducible apply State.notice_wf
    | with_reducible apply State.set_wf
    | with_reducible apply State.regCounts_wf
    | with_reducible apply State.holdMember_wf
    | with_reducible apply State.on_wf
    | with_reducible apply State.each_wf
    | with_reducible apply ite_wf'
    | with_reducible apply ite_reswf'
    | with_reducible apply next_wf
    | (intro _)
    | split

theorem State.routeShow_wf (s : State) : Kept (State.routeShow s) s := by
  unfold State.routeShow
  intro h
  simp +contextual only [h, State.set_wf, wf_next, ite_self, implies_true, State.each_wf, State.on_wf, apply_ite State.wf, apply_ite Res.wf, apply_ite Prod.fst, apply_ite Prod.snd, if_true]

theorem State.setRoute_wf (s : State) (a1 : Nat) (a2 : Nat) : Kept (State.setRoute s a1 a2) s := by
  unfold State.setRoute
  intro h
  try dsimp only
  repeat' first
    | with_reducible assumption
    | with_reducible apply State.setTe_wf
    | with_reducible apply State.dramWrite_wf
    | with_reducible apply State.routeShow_wf
    | with_reducible apply State.on_wf
    | with_reducible apply State.each_wf
    | with_reducible apply ite_wf'
    | with_reducible apply ite_reswf'
    | with_reducible apply next_wf
    | (intro _)
    | split

theorem State.setBank_wf (s : State) (a1 : Nat) (a2 : Nat) : Kept (State.setBank s a1 a2) s := by
  unfold State.setBank
  intro h
  simp +contextual only [h, State.set_wf, wf_next, ite_self, implies_true, State.each_wf, State.on_wf, apply_ite State.wf, apply_ite Res.wf, apply_ite Prod.fst, apply_ite Prod.snd, if_true]

theorem State.routeInsert_wf (s : State) (a1 : Nat) : Kept (State.routeInsert s a1).2 s := by
  unfold State.routeInsert
  intro h
  (repeat' split) <;> simp +contextual only [h, State.setRoute_wf, wf_next, implies_true, State.each_wf, State.on_wf]

theorem State.bankLost_wf (s : State) (a1 : Nat) : Kept (State.bankLost s a1) s := by
  unfold State.bankLost
  intro h
  try dsimp only
  repeat' first
    | with_reducible assumption
    | with_reducible apply State.setRoute_wf
    | with_reducible apply State.setBank_wf
    | with_reducible apply State.routeInsert_wf
    | with_reducible apply State.notice_wf
    | with_reducible apply State.on_wf
    | with_reducible apply State.each_wf
    | with_reducible apply ite_wf'
    | with_reducible apply ite_reswf'
    | with_reducible apply next_wf
    | (intro _)
    | split

theorem State.seenShow_wf (s : State) : Kept (State.seenShow s) s := by
  unfold State.seenShow
  intro h
  simp +contextual only [h, State.set_wf, wf_next, ite_self, implies_true, State.each_wf, State.on_wf, apply_ite State.wf, apply_ite Res.wf, apply_ite Prod.fst, apply_ite Prod.snd, if_true]

theorem State.cellHook_wf (s : State) (a1 : Page) (a2 : Nat) : Kept (State.cellHook s a1 a2) s := by
  unfold State.cellHook
  intro h
  try dsimp only
  repeat' first
    | with_reducible assumption
    | with_reducible apply State.setChan_wf
    | with_reducible apply State.meterCellGone_wf
    | with_reducible apply State.rtkShow_wf
    | with_reducible apply State.set_wf
    | with_reducible apply State.giveUp_wf
    | with_reducible apply State.svcFault_wf
    | with_reducible apply State.bankLost_wf
    | with_reducible apply State.seenShow_wf
    | with_reducible apply State.abortCore_wf
    | with_reducible apply State.on_wf
    | with_reducible apply State.each_wf
    | with_reducible apply ite_wf'
    | with_reducible apply ite_reswf'
    | with_reducible apply next_wf
    | simp only [State.wf_rt]
    | (intro _)
    | split

theorem State.removeCell_wf (s : State) (a1 : Page) (a2 : Nat) : Kept (State.removeCell s a1 a2) s := by
  unfold State.removeCell
  intro h
  simp +contextual only [h, State.setP_wf, State.setPage_wf, wf_next, ite_self, implies_true, State.each_wf, State.on_wf, apply_ite State.wf, apply_ite Res.wf, apply_ite Prod.fst, apply_ite Prod.snd, if_true]

theorem State.cellGone_wf (s : State) (a1 : Page) (a2 : Nat) : Kept (State.cellGone s a1 a2) s := by
  unfold State.cellGone
  intro h
  try dsimp only
  repeat' first
    | with_reducible assumption
    | with_reducible apply State.cellHook_wf
    | with_reducible apply State.removeCell_wf
    | with_reducible apply State.enterFault_wf
    | with_reducible apply State.on_wf
    | with_reducible apply State.each_wf
    | with_reducible apply ite_wf'
    | with_reducible apply ite_reswf'
    | with_reducible apply next_wf
    | (intro _)
    | split

theorem State.regionFailed_wf (s : State) (a1 : Nat) : Kept (State.regionFailed s a1) s := by
  unfold State.regionFailed
  intro h
  simp +contextual only [h, State.set_wf, State.irq_wf, wf_next, ite_self, implies_true, State.each_wf, State.on_wf, apply_ite State.wf, apply_ite Res.wf, apply_ite Prod.fst, apply_ite Prod.snd, if_true]

theorem State.dropQueue_wf (s : State) (a1 : MEpoch → Bool) : Kept (State.dropQueue s a1) s := by
  unfold State.dropQueue
  intro h
  simp +contextual only [h, State.rtkShow_wf, State.wf_rtk, wf_next, ite_self, implies_true, State.each_wf, State.on_wf, apply_ite State.wf, apply_ite Res.wf, apply_ite Prod.fst, apply_ite Prod.snd, if_true]

theorem State.obsClear_wf (s : State) : Kept (State.obsClear s) s := by
  unfold State.obsClear
  intro h
  simp +contextual only [h, State.dropQueue_wf, State.incP_wf, wf_next, ite_self, implies_true, State.each_wf, State.on_wf, apply_ite State.wf, apply_ite Res.wf, apply_ite Prod.fst, apply_ite Prod.snd, if_true]

theorem State.rtkClear_wf (s : State) : Kept (State.rtkClear s) s := by
  unfold State.rtkClear
  intro h
  try dsimp only
  repeat' first
    | with_reducible assumption
    | with_reducible apply State.clearTable_wf
    | with_reducible apply State.rtkShow_wf
    | with_reducible apply State.on_wf
    | with_reducible apply State.each_wf
    | with_reducible apply ite_wf'
    | with_reducible apply ite_reswf'
    | with_reducible apply next_wf
    | simp only [State.wf_rtk]
    | (intro _)
    | split

theorem State.dispRestart_wf (s : State) : Kept (State.dispRestart s) s := by
  unfold State.dispRestart
  intro h
  try dsimp only
  repeat' first
    | with_reducible assumption
    | with_reducible apply State.abortCore_wf
    | with_reducible apply State.dispShow_wf
    | with_reducible apply State.incP_wf
    | with_reducible apply State.on_wf
    | with_reducible apply State.each_wf
    | with_reducible apply ite_wf'
    | with_reducible apply ite_reswf'
    | with_reducible apply next_wf
    | simp only [State.wf_disp]
    | (intro _)
    | split

theorem State.resetCore_wf (s : State) (a1 : Nat) : Kept (State.resetCore s a1) s := by
  unfold State.resetCore
  intro h
  try dsimp only
  repeat' first
    | with_reducible assumption
    | with_reducible apply State.abortCore_wf
    | with_reducible apply State.bump_wf
    | with_reducible apply State.on_wf
    | with_reducible apply State.each_wf
    | with_reducible apply ite_wf'
    | with_reducible apply ite_reswf'
    | with_reducible apply next_wf
    | (intro _)
    | split

theorem State.clearBlock_wf (s : State) (a1 : Page) : Kept (State.clearBlock s a1) s := by
  unfold State.clearBlock
  intro h
  try dsimp only
  repeat' first
    | with_reducible assumption
    | with_reducible apply State.portDown_wf
    | with_reducible apply State.gnssBlock_wf
    | with_reducible apply State.obsClear_wf
    | with_reducible apply State.giveUp_wf
    | with_reducible apply State.rtkClear_wf
    | with_reducible apply State.set_wf
    | with_reducible apply State.clearTable_wf
    | with_reducible apply State.setRoute_wf
    | with_reducible apply State.seenShow_wf
    | with_reducible apply State.abortXfer_wf
    | with_reducible apply State.leaseShow_wf
    | with_reducible apply State.irq_wf
    | with_reducible apply State.dropSeq_wf
    | with_reducible apply State.dispRestart_wf
    | with_reducible apply State.resetCore_wf
    | with_reducible apply State.setEth_wf
    | with_reducible apply State.on_wf
    | with_reducible apply State.each_wf
    | with_reducible apply ite_wf'
    | with_reducible apply ite_reswf'
    | with_reducible apply next_wf
    | simp only [State.wf_fq_lk, State.wf_ls, State.wf_rt, State.wf_rtk]
    | (intro _)
    | split

theorem State.scrubLoss_wf (s : State) (p : Page) (e : Nat × Nat) : Kept (s.scrubLoss p e) s := by
  have h : ∀ c, Kept (({ s with tbl := AMap.del s.tbl (p.tblKey e.1 e.2) } : State).free.2.errReport p 0xFF 2 c false e.1 e.2 0) s := fun c =>
    (State.errReport_wf _ _ _ _ _ _ _ _ _).trans ((State.free_wf _).trans (State.keep_tbl s _ (AMap.wf_del _ _ _)))
  unfold State.scrubLoss
  dsimp only
  split
  · exact (State.set_wf _ _ _ _ _).trans (h _)
  · exact (State.graphShow_wf _).trans (h _)
  · exact (State.turnShow_wf _ _).trans (h _)
  · exact (State.routeShow_wf _).trans (h _)
  · exact (State.regCounts_wf _).trans (h _)
  · exact h _

theorem State.failedBlock_wf (s : State) (a1 : Page) (a2 : Bool) : Kept (State.failedBlock s a1 a2) s := by
  unfold State.failedBlock
  intro h
  simp +contextual only [h, State.set_wf, wf_next, ite_self, implies_true, State.each_wf, State.on_wf, apply_ite State.wf, apply_ite Res.wf, apply_ite Prod.fst, apply_ite Prod.snd, if_true]

theorem State.isolate_wf (s : State) (a1 : Page) (a2 : List (Nat × Nat)) (a3 : List Nat) : Kept (State.isolate s a1 a2 a3) s := by
  unfold State.isolate
  intro h
  try dsimp only
  repeat' first
    | with_reducible assumption
    | with_reducible apply State.abortHeld_wf
    | with_reducible apply State.leaveOn_wf
    | with_reducible apply State.setP_wf
    | with_reducible apply State.setPage_wf
    | with_reducible apply State.clearBlock_wf
    | with_reducible apply State.setBank_wf
    | with_reducible apply State.scrubLoss_wf
    | with_reducible apply State.goState_wf
    | with_reducible apply State.failedBlock_wf
    | with_reducible apply State.on_wf
    | with_reducible apply State.each_wf
    | with_reducible apply ite_wf'
    | with_reducible apply ite_reswf'
    | with_reducible apply next_wf
    | (intro _)
    | split

theorem State.powerDown_wf (s : State) (a1 : Page) : Kept (State.powerDown s a1) s := by
  unfold State.powerDown
  intro h
  try dsimp only
  repeat' first
    | with_reducible assumption
    | with_reducible apply State.isolate_wf
    | with_reducible apply State.sramLost_wf
    | with_reducible apply State.failedBlock_wf
    | with_reducible apply State.setPage_wf
    | with_reducible apply State.on_wf
    | with_reducible apply State.each_wf
    | with_reducible apply ite_wf'
    | with_reducible apply ite_reswf'
    | with_reducible apply next_wf
    | (intro _)
    | split

theorem State.regionFailing_wf (s : State) (a1 : Nat) (a2 : Nat) : Kept (State.regionFailing s a1 a2) s := by
  unfold State.regionFailing
  intro h
  try dsimp only
  repeat' first
    | with_reducible assumption
    | with_reducible apply State.regionFailed_wf
    | with_reducible apply State.handOver_wf
    | with_reducible apply State.abortXfer_wf
    | with_reducible apply State.recompute_wf
    | with_reducible apply State.powerDown_wf
    | with_reducible apply State.on_wf
    | with_reducible apply State.each_wf
    | with_reducible apply ite_wf'
    | with_reducible apply ite_reswf'
    | with_reducible apply next_wf
    | (intro _)
    | split

theorem State.tearFuse_wf (s : State) : Kept (State.tearFuse s) s := by
  unfold State.tearFuse
  intro h
  grind [State.set_wf, State.free_wf, State.wf_key, wf_next]

theorem State.expireSlots_wf (s : State) : Kept (State.expireSlots s) s := by
  unfold State.expireSlots
  intro h
  try dsimp only
  repeat' first
    | with_reducible assumption
    | with_reducible apply State.zeroise_wf
    | with_reducible apply State.on_wf
    | with_reducible apply State.each_wf
    | with_reducible apply ite_wf'
    | with_reducible apply ite_reswf'
    | with_reducible apply next_wf
    | (intro _)
    | split

theorem State.lifeOff_wf (s : State) : Kept (State.lifeOff s) s := by
  unfold State.lifeOff
  intro h
  try dsimp only
  repeat' first
    | with_reducible assumption
    | with_reducible apply State.setP_wf
    | with_reducible apply State.on_wf
    | with_reducible apply State.each_wf
    | with_reducible apply ite_wf'
    | with_reducible apply ite_reswf'
    | with_reducible apply next_wf
    | (intro _)
    | split

theorem foldl_set_wf (l : List (Nat × Word)) (m : AMap Word) (h : AMap.wf regReset m = true) :
    AMap.wf regReset (l.foldl (fun m e => AMap.set regReset m e.1 e.2) m) = true := by
  induction l generalizing m with
  | nil => exact h
  | cons e r ih => exact ih _ (AMap.wf_set _ _ _ _ h)
theorem resetRegsOf_wf (head role recovN : Bool) : AMap.wf regReset (resetRegsOf head role recovN) = true :=
  foldl_set_wf _ _ (by decide)
theorem State.keptRegs_wf (s : State) (powered : Bool) : AMap.wf regReset (s.keptRegs powered) = true :=
  foldl_set_wf _ _ (AMap.wf_filter _ _ _ (resetRegsOf_wf ..))
theorem State.resetMain_wf (s : State) (powered : Bool) : Kept (s.resetMain powered) s := by
  intro h
  rw [State.wf_iff] at h ⊢
  exact ⟨State.keptRegs_wf s powered, AMap.wf_filter _ _ _ h.2.1, rfl, AMap.wf_filter _ _ _ h.2.2.2.1, rfl, rfl, rfl, rfl⟩

theorem State.totalsShow_wf (s : State) (a1 : Nat) : Kept (State.totalsShow s a1) s := by
  unfold State.totalsShow
  intro h
  simp +contextual only [h, State.setTe_wf, wf_next, ite_self, implies_true, State.each_wf, State.on_wf, apply_ite State.wf, apply_ite Res.wf, apply_ite Prod.fst, apply_ite Prod.snd, if_true]

theorem State.foundGap_wf (s : State) (a1 : List FoundRec) : Kept (State.foundGap s a1) s := by
  unfold State.foundGap
  intro h
  try dsimp only
  repeat' first
    | with_reducible assumption
    | with_reducible apply State.inc_wf
    | with_reducible apply State.sysEvent_wf
    | with_reducible apply State.on_wf
    | with_reducible apply State.each_wf
    | with_reducible apply ite_wf'
    | with_reducible apply ite_reswf'
    | with_reducible apply next_wf
    | (intro _)
    | split

theorem State.metRestored_wf (s : State) : Kept (State.metRestored s) s := by
  unfold State.metRestored
  intro h
  simp +contextual only [h, State.set_wf, State.irq_wf, wf_next, ite_self, implies_true, State.each_wf, State.on_wf, apply_ite State.wf, apply_ite Res.wf, apply_ite Prod.fst, apply_ite Prod.snd, if_true]

theorem State.seqJump_wf (s : State) : Kept (State.seqJump s) s := by
  unfold State.seqJump
  intro h
  simp +contextual only [h, State.sysEvent_wf, State.irq_wf, wf_next, ite_self, implies_true, State.each_wf, State.on_wf, apply_ite State.wf, apply_ite Res.wf, apply_ite Prod.fst, apply_ite Prod.snd, if_true]

theorem State.chipReset_wf (s : State) (cause : Nat) (powered : Bool) : Kept (s.chipReset cause powered) s := by
  have hc : ∀ t : State, Kept { t with tbl := AMap.clearRange t.tbl (pKS.tblBase 10) (pKS.tblBase 10 + 2 ^ 24) } t := fun t =>
    State.keep_tbl t _ (AMap.wf_clearRange _ _ _ _)
  unfold State.chipReset
  intro h
  dsimp only
  repeat' first
    | with_reducible assumption
    | with_reducible apply State.recompute_wf
    | with_reducible apply State.raiseCause_wf
    | with_reducible apply State.secShow_wf
    | with_reducible apply State.set_wf
    | with_reducible apply ite_wf'
    | with_reducible apply State.foundGap_wf
    | with_reducible apply State.foundStatus_wf
    | with_reducible apply State.metRestored_wf
    | with_reducible apply State.seqJump_wf
    | with_reducible apply State.each_wf
    | with_reducible apply State.totalsShow_wf
    | with_reducible apply State.expireSlots_wf
    | with_reducible apply State.lifeOff_wf
    | with_reducible apply State.resetMain_wf
    | with_reducible apply State.tearFuse_wf
    | with_reducible apply State.on_wf
    | with_reducible apply State.pqTruncate_wf
    | with_reducible apply State.emit_wf
    | exact hc _ ‹_›
    | apply hc
    | (intro _)

theorem State.chipStop_wf (s : State) (a1 : Nat) (a2 : Nat) : Kept (State.chipStop s a1 a2) s := by
  unfold State.chipStop
  intro h
  try dsimp only
  repeat' first
    | with_reducible assumption
    | with_reducible apply State.chipReset_wf
    | with_reducible apply State.handOver_wf
    | with_reducible apply State.raiseCause_wf
    | with_reducible apply State.on_wf
    | with_reducible apply State.each_wf
    | with_reducible apply ite_wf'
    | with_reducible apply ite_reswf'
    | with_reducible apply next_wf
    | (intro _)
    | split

theorem State.cellError_wf (s : State) (a1 : Page) (a2 : Nat) (a3 : Nat) (a4 : Nat) (a5 : Bool) (a6 : Nat) (a7 : Nat) (a8 : Nat) : Kept (State.cellError s a1 a2 a3 a4 a5 a6 a7 a8) s := by
  unfold State.cellError
  intro h
  try dsimp only
  repeat' first
    | with_reducible assumption
    | with_reducible apply State.recompute_wf
    | with_reducible apply State.stateCompare_wf
    | with_reducible apply State.gateFault_wf
    | with_reducible apply State.errReport_wf
    | with_reducible apply State.noteCellErr_wf
    | with_reducible apply State.giveUp_wf
    | with_reducible apply State.fifoGone_wf
    | with_reducible apply State.cellGone_wf
    | with_reducible apply State.regionFailing_wf
    | with_reducible apply State.chipStop_wf
    | with_reducible apply State.enterFault_wf
    | with_reducible apply State.on_wf
    | with_reducible apply State.each_wf
    | with_reducible apply ite_wf'
    | with_reducible apply ite_reswf'
    | with_reducible apply next_wf
    | (intro _)
    | split

theorem State.errInject_wf (s : State) (a1 : Src) (a2 : Page) (a3 : Nat) (a4 : Nat) : Kept (State.errInject s a1 a2 a3 a4) s := by
  unfold State.errInject
  intro h
  simp +contextual only [h, State.refuseRwl_wf, State.cellError_wf, wf_next, ite_self, implies_true, State.each_wf, State.on_wf, apply_ite State.wf, apply_ite Res.wf, apply_ite Prod.fst, apply_ite Prod.snd, if_true]

theorem State.headerAct_wf (s : State) (a1 : RegWr) : Kept (State.headerAct s a1) s := by
  unfold State.headerAct
  intro h
  try dsimp only
  repeat' first
    | with_reducible assumption
    | with_reducible apply State.writeEn_wf
    | with_reducible apply State.doit_wf
    | with_reducible apply execCtrlRestart_wf
    | with_reducible apply execIsoClear_wf
    | with_reducible apply State.errInject_wf
    | with_reducible apply State.irqBits_wf
    | with_reducible apply State.setP_wf
    | with_reducible apply State.on_wf
    | with_reducible apply State.each_wf
    | with_reducible apply ite_wf'
    | with_reducible apply ite_reswf'
    | with_reducible apply next_wf
    | (intro _)
    | split

theorem State.clearW1c_wf (s : State) (a1 : RegWr) : Kept (State.clearW1c s a1) s := by
  unfold State.clearW1c
  intro h
  simp +contextual only [h, State.setReg_wf, wf_next, ite_self, implies_true, State.each_wf, State.on_wf, apply_ite State.wf, apply_ite Res.wf, apply_ite Prod.fst, apply_ite Prod.snd, if_true]

theorem State.clearErr_wf (s : State) (a1 : RegWr) : Kept (State.clearErr s a1) s := by
  unfold State.clearErr
  intro h
  try dsimp only
  repeat' first
    | with_reducible assumption
    | with_reducible apply State.clearW1c_wf
    | with_reducible apply State.setPage_wf
    | with_reducible apply State.set_wf
    | with_reducible apply State.on_wf
    | with_reducible apply State.each_wf
    | with_reducible apply ite_wf'
    | with_reducible apply ite_reswf'
    | with_reducible apply next_wf
    | (intro _)
    | split

theorem State.clearIrq_wf (s : State) (a1 : RegWr) : Kept (State.clearIrq s a1) s := by
  unfold State.clearIrq
  intro h
  try dsimp only
  repeat' first
    | with_reducible assumption
    | with_reducible apply State.clearW1c_wf
    | with_reducible apply State.irq_wf
    | with_reducible apply State.on_wf
    | with_reducible apply State.each_wf
    | with_reducible apply ite_wf'
    | with_reducible apply ite_reswf'
    | with_reducible apply next_wf
    | (intro _)
    | split

theorem State.spoofClear_wf (s : State) : Kept (State.spoofClear s) s := by
  unfold State.spoofClear
  intro h
  simp +contextual only [h, State.set_wf, wf_next, ite_self, implies_true, State.each_wf, State.on_wf, apply_ite State.wf, apply_ite Res.wf, apply_ite Prod.fst, apply_ite Prod.snd, if_true]

theorem State.w1cAct_wf (s : State) (a1 : RegWr) : Kept (State.w1cAct s a1) s := by
  unfold State.w1cAct
  intro h
  try dsimp only
  repeat' first
    | with_reducible assumption
    | with_reducible apply State.clearErr_wf
    | with_reducible apply State.clearIrq_wf
    | with_reducible apply State.spoofClear_wf
    | with_reducible apply State.clearW1c_wf
    | with_reducible apply State.on_wf
    | with_reducible apply State.each_wf
    | with_reducible apply ite_wf'
    | with_reducible apply ite_reswf'
    | with_reducible apply next_wf
    | (intro _)
    | split

theorem State.applyWrite_wf (s : State) (a1 : RegWr) (a2 : WrExt) : Kept (State.applyWrite s a1 a2) s := by
  unfold State.applyWrite
  intro h
  try dsimp only
  repeat' first
    | with_reducible assumption
    | with_reducible apply State.storeFields_wf
    | with_reducible apply State.afterStore_wf
    | with_reducible apply State.blockAct_wf
    | with_reducible apply State.headerAct_wf
    | with_reducible apply State.w1cAct_wf
    | with_reducible apply State.on_wf
    | with_reducible apply State.each_wf
    | with_reducible apply ite_wf'
    | with_reducible apply ite_reswf'
    | with_reducible apply next_wf
    | (intro _)
    | split

theorem State.arbGap_wf (s : State) (a1 : Nat) : Kept (State.arbGap s a1) s := by
  unfold State.arbGap
  intro h
  simp +contextual only [h, State.wf_arb, wf_next, ite_self, implies_true, State.each_wf, State.on_wf, apply_ite State.wf, apply_ite Res.wf, apply_ite Prod.fst, apply_ite Prod.snd, if_true]

theorem State.archLose_wf (s : State) : Kept (State.archLose s) s := by
  unfold State.archLose
  intro h
  simp +contextual only [h, State.irq_wf, State.incLost_wf, State.wf_gn, wf_next, ite_self, implies_true, State.each_wf, State.on_wf, apply_ite State.wf, apply_ite Res.wf, apply_ite Prod.fst, apply_ite Prod.snd, if_true]

theorem State.archRoom_wf (s : State) (head need k : Nat) : Kept (s.archRoom head need k) s := by
  induction k generalizing s with
  | zero => exact id
  | succ k ih =>
    unfold State.archRoom
    refine ite_wf id ?_
    split
    · exact id
    · exact (ih _).trans ((State.archLose_wf _).trans (Kept.refl _))

theorem State.archPut_wf (s : State) (a1 : Nat) (a2 : List Nat) : Kept (State.archPut s a1 a2) s := by
  unfold State.archPut
  intro h
  simp +contextual only [h, State.archRoom_wf, State.dramWrite_wf, State.wf_gn, wf_next, ite_self, implies_true, State.each_wf, State.on_wf, apply_ite State.wf, apply_ite Res.wf, apply_ite Prod.fst, apply_ite Prod.snd, if_true]

theorem State.archive_wf (s : State) (a1 : List Nat) : Kept (State.archive s a1) s := by
  unfold State.archive
  intro h
  simp +contextual only [h, State.archLose_wf, State.archPut_wf, wf_next, ite_self, implies_true, State.each_wf, State.on_wf, apply_ite State.wf, apply_ite Res.wf, apply_ite Prod.fst, apply_ite Prod.snd, if_true]

theorem State.sendGeom_wf (s : State) (a1 : Nat) (a2 : Nat) (a3 : Nat) : Kept (State.sendGeom s a1 a2 a3) s := by
  unfold State.sendGeom
  intro h
  try dsimp only
  repeat' first
    | with_reducible assumption
    | with_reducible apply State.queueRecord_wf
    | with_reducible apply State.setMotion_wf
    | with_reducible apply State.on_wf
    | with_reducible apply State.each_wf
    | with_reducible apply ite_wf'
    | with_reducible apply ite_reswf'
    | with_reducible apply next_wf
    | (intro _)
    | split

theorem State.extendPath_wf (s : State) (a1 : Nat) (a2 : Nat) : Kept (State.extendPath s a1 a2) s := by
  fun_cases State.extendPath <;> intro h <;> simp +contextual only [h, State.sendGeom_wf, State.setMotion_wf, wf_next, implies_true, State.each_wf, State.on_wf]

theorem State.extendPaths_wf (s : State) (a1 : Nat) : Kept (State.extendPaths s a1) s := by
  unfold State.extendPaths
  intro h
  try dsimp only
  repeat' first
    | with_reducible assumption
    | with_reducible apply State.extendPath_wf
    | with_reducible apply State.on_wf
    | with_reducible apply State.each_wf
    | with_reducible apply ite_wf'
    | with_reducible apply ite_reswf'
    | with_reducible apply next_wf
    | (intro _)
    | split

theorem State.moveDone_wf (s : State) (a1 : Nat) (a2 : Nat) : Kept (State.moveDone s a1 a2) s := by
  unfold State.moveDone
  intro h
  try dsimp only
  repeat' first
    | with_reducible assumption
    | with_reducible apply State.inc_wf
    | with_reducible apply State.freeMove_wf
    | with_reducible apply State.item_wf
    | with_reducible apply State.irq_wf
    | with_reducible apply State.on_wf
    | with_reducible apply State.each_wf
    | with_reducible apply ite_wf'
    | with_reducible apply ite_reswf'
    | with_reducible apply next_wf
    | (intro _)
    | split

theorem State.truncActive_wf (s : State) (a1 : Nat) (a2 : Nat) : Kept (State.truncActive s a1 a2) s := by
  unfold State.truncActive
  intro h
  try dsimp only
  repeat' first
    | with_reducible assumption
    | with_reducible apply State.item_wf
    | with_reducible apply State.inc_wf
    | with_reducible apply State.moveDone_wf
    | with_reducible apply State.setMove_wf
    | with_reducible apply State.on_wf
    | with_reducible apply State.each_wf
    | with_reducible apply ite_wf'
    | with_reducible apply ite_reswf'
    | with_reducible apply next_wf
    | (intro _)
    | split

theorem State.passMoves_wf (s : State) (m : Nat) (p : PState) : Kept (s.passMoves m p) s := by
  unfold State.passMoves
  exact State.each_wf _ _ _ fun t a => ite_wf (State.moveDone_wf _ _ _) id

theorem State.plan_wf (s : State) (a1 : Asm) (a2 : Nat) : Kept (State.plan s a1 a2).2 s := by
  unfold State.plan
  intro h
  grind [State.setMotion_wf, State.extendPaths_wf, State.truncActive_wf, State.activate_wf, State.applyDec_wf, State.passMoves_wf, wf_next]

theorem State.motTable_wf (s : State) (a1 : Nat) (a2 : List Piece) : Kept (State.motTable s a1 a2) s := by
  unfold State.motTable
  intro h
  simp +contextual only [h, State.setTe_wf, wf_next, ite_self, implies_true, State.each_wf, State.on_wf, apply_ite State.wf, apply_ite Res.wf, apply_ite Prod.fst, apply_ite Prod.snd, if_true]

theorem State.assembleOne_wf (s : State) (a1 : Asm) (a2 : Nat) : Kept (State.assembleOne s a1 a2).2 s := by
  unfold State.assembleOne
  intro h
  try dsimp only
  repeat' first
    | with_reducible assumption
    | with_reducible apply State.plan_wf
    | with_reducible apply State.setMotion_wf
    | with_reducible apply State.inc_wf
    | with_reducible apply State.motTable_wf
    | with_reducible apply State.on_wf
    | with_reducible apply State.each_wf
    | with_reducible apply ite_wf'
    | with_reducible apply ite_reswf'
    | with_reducible apply next_wf
    | (intro _)
    | split

theorem State.switchRef_wf (s : State) (a1 : Nat) : Kept (State.switchRef s a1) s := by
  unfold State.switchRef
  intro h
  simp +contextual only [h, State.irq_wf, State.set_wf, State.wf_gn, wf_next, ite_self, implies_true, State.each_wf, State.on_wf, apply_ite State.wf, apply_ite Res.wf, apply_ite Prod.fst, apply_ite Prod.snd, if_true]

theorem State.autoRef_wf (s : State) (a1 : List MeasRec) : Kept (State.autoRef s a1) s := by
  unfold State.autoRef
  intro h
  simp +contextual only [h, State.switchRef_wf, State.wf_gn, wf_next, ite_self, implies_true, State.each_wf, State.on_wf, apply_ite State.wf, apply_ite Res.wf, apply_ite Prod.fst, apply_ite Prod.snd, if_true]

theorem State.auxPortsDown_wf (s : State) : Kept (State.auxPortsDown s) s := by
  unfold State.auxPortsDown
  intro h
  try dsimp only
  repeat' first
    | with_reducible assumption
    | with_reducible apply State.canalLeave_wf
    | with_reducible apply State.ethLink_wf
    | with_reducible apply State.on_wf
    | with_reducible apply State.each_wf
    | with_reducible apply ite_wf'
    | with_reducible apply ite_reswf'
    | with_reducible apply next_wf
    | (intro _)
    | split

theorem State.awaitDelta_wf (s : State) (a1 : Nat) : Kept (State.awaitDelta s a1) s := by
  unfold State.awaitDelta
  intro h
  simp +contextual only [h, State.wf_ls, wf_next, ite_self, implies_true, State.each_wf, State.on_wf, apply_ite State.wf, apply_ite Res.wf, apply_ite Prod.fst, apply_ite Prod.snd, if_true]

theorem State.tryCommit_wf (s : State) (a1 : Nat) : Kept (State.tryCommit s a1) s := by
  unfold State.tryCommit
  intro h
  simp +contextual only [h, State.leSet_wf, State.sendLease_wf, State.leEvent_wf, State.wf_ls, wf_next, ite_self, implies_true, State.each_wf, State.on_wf, apply_ite State.wf, apply_ite Res.wf, apply_ite Prod.fst, apply_ite Prod.snd, if_true]

theorem State.awaitLoaded_wf (s : State) (a1 : Nat) : Kept (State.awaitLoaded s a1) s := by
  unfold State.awaitLoaded
  intro h
  simp +contextual only [h, State.tryCommit_wf, State.wf_ls, wf_next, ite_self, implies_true, State.each_wf, State.on_wf, apply_ite State.wf, apply_ite Res.wf, apply_ite Prod.fst, apply_ite Prod.snd, if_true]

theorem State.baseEffects_wf (s : State) (a1 : Epoch) : Kept (State.baseEffects s a1) s := by
  unfold State.baseEffects
  intro h
  simp +contextual only [h, State.wf_rtk, wf_next, ite_self, implies_true, State.each_wf, State.on_wf, apply_ite State.wf, apply_ite Res.wf, apply_ite Prod.fst, apply_ite Prod.snd, if_true]

theorem State.endBurst_wf (s : State) (a1 : Nat) (a2 : Burst) (a3 : Nat) : Kept (State.endBurst s a1 a2 a3) s := by
  unfold State.endBurst
  intro h
  try dsimp only
  repeat' first
    | with_reducible assumption
    | with_reducible apply State.inc_wf
    | with_reducible apply State.dropBurst_wf
    | with_reducible apply State.rebuildSets_wf
    | with_reducible apply State.setPort_wf
    | with_reducible apply State.on_wf
    | with_reducible apply State.each_wf
    | with_reducible apply ite_wf'
    | with_reducible apply ite_reswf'
    | with_reducible apply next_wf
    | (intro _)
    | split

theorem State.stepBurst_wf (s : State) (a1 : Nat) (a2 : Burst) (a3 : Nat) (a4 : Nat) : Kept (State.stepBurst s a1 a2 a3 a4) s := by
  unfold State.stepBurst
  intro h
  simp +contextual only [h, State.endBurst_wf, State.wf_hg, wf_next, ite_self, implies_true, State.each_wf, State.on_wf, apply_ite State.wf, apply_ite Res.wf, apply_ite Prod.fst, apply_ite Prod.snd, if_true]

theorem State.noteFirstFrame_wf (s : State) : Kept (State.noteFirstFrame s) s := by
  unfold State.noteFirstFrame
  intro h
  dsimp only
  (repeat' split) <;> simp +contextual only [h, State.set_wf, State.wf_hg, wf_next, implies_true, State.each_wf, State.on_wf]

theorem State.beaconForBurst_wf (s : State) (a1 : Nat) (a2 : Nat) (a3 : Nat) : Kept (State.beaconForBurst s a1 a2 a3) s := by
  unfold State.beaconForBurst
  intro h
  try dsimp only
  repeat' first
    | with_reducible assumption
    | with_reducible apply State.setPort_wf
    | with_reducible apply State.stepBurst_wf
    | with_reducible apply State.noteFirstFrame_wf
    | with_reducible apply State.on_wf
    | with_reducible apply State.each_wf
    | with_reducible apply ite_wf'
    | with_reducible apply ite_reswf'
    | with_reducible apply next_wf
    | (intro _)
    | split

theorem State.rotSet_wf (s : State) (a1 : Nat) : Kept (State.rotSet s a1) s := by
  unfold State.rotSet
  intro h
  simp +contextual only [h, State.set_wf, wf_next, ite_self, implies_true, State.each_wf, State.on_wf, apply_ite State.wf, apply_ite Res.wf, apply_ite Prod.fst, apply_ite Prod.snd, if_true]

theorem State.rotAuto_wf (s : State) : Kept (State.rotAuto s) s := by
  unfold State.rotAuto
  intro h
  simp +contextual only [h, State.rotSet_wf, wf_next, ite_self, implies_true, State.each_wf, State.on_wf, apply_ite State.wf, apply_ite Res.wf, apply_ite Prod.fst, apply_ite Prod.snd, if_true]

theorem State.noteFcnt_wf (s : State) (a1 : Nat) : Kept (State.noteFcnt s a1) s := by
  unfold State.noteFcnt
  intro h
  try dsimp only
  repeat' first
    | with_reducible assumption
    | with_reducible apply State.rotAuto_wf
    | with_reducible apply State.irq_wf
    | with_reducible apply State.set_wf
    | with_reducible apply State.on_wf
    | with_reducible apply State.each_wf
    | with_reducible apply ite_wf'
    | with_reducible apply ite_reswf'
    | with_reducible apply next_wf
    | (intro _)
    | split

theorem State.nearSets_wf (s : State) (a1 : Nat) : Kept (State.nearSets s a1) s := by
  unfold State.nearSets
  intro h
  simp +contextual only [h, State.rebuildSets_wf, wf_next, ite_self, implies_true, State.each_wf, State.on_wf, apply_ite State.wf, apply_ite Res.wf, apply_ite Prod.fst, apply_ite Prod.snd, if_true]

theorem State.takeNums_wf (s : State) (a1 : Nat) : Kept (State.takeNums s a1).2.2 s := by
  unfold State.takeNums
  intro h
  simp +contextual only [h, State.noteFcnt_wf, State.nearSets_wf, State.wf_air, wf_next, ite_self, implies_true, State.each_wf, State.on_wf, apply_ite State.wf, apply_ite Res.wf, apply_ite Prod.fst, apply_ite Prod.snd, if_true]

theorem State.strobes_wf (s : State) (a1 : Nat) (a2 : Nat) (a3 : Nat) : Kept (State.strobes s a1 a2 a3) s := by
  unfold State.strobes
  intro h
  try dsimp only
  repeat' first
    | with_reducible assumption
    | with_reducible apply State.emit_wf
    | with_reducible apply State.on_wf
    | with_reducible apply State.each_wf
    | with_reducible apply ite_wf'
    | with_reducible apply ite_reswf'
    | with_reducible apply next_wf
    | (intro _)
    | split

theorem State.ppduAt_wf (s : State) (a1 : Nat) (a2 : Nat) (a3 : Nat) (a4 : Nat) : Kept (State.ppduAt s a1 a2 a3 a4) s := by
  unfold State.ppduAt
  intro h
  try dsimp only
  repeat' first
    | with_reducible assumption
    | with_reducible apply State.strobes_wf
    | with_reducible apply State.inc_wf
    | with_reducible apply State.setPort_wf
    | with_reducible apply State.on_wf
    | with_reducible apply State.each_wf
    | with_reducible apply ite_wf'
    | with_reducible apply ite_reswf'
    | with_reducible apply next_wf
    | (intro _)
    | split

theorem State.ppduTx_wf (s : State) (a1 : Nat) (a2 : Nat) (a3 : Nat) : Kept (State.ppduTx s a1 a2 a3) s := by
  unfold State.ppduTx
  intro h
  simp +contextual only [h, State.ppduAt_wf, wf_next, ite_self, implies_true, State.each_wf, State.on_wf, apply_ite State.wf, apply_ite Res.wf, apply_ite Prod.fst, apply_ite Prod.snd, if_true]

theorem State.putAir_wf (s : State) (a1 : Nat) (a2 : AirFrame) : Kept (State.putAir s a1 a2) s := by
  unfold State.putAir
  intro h
  simp +contextual only [h, State.ppduTx_wf, State.airEmit_wf, wf_next, ite_self, implies_true, State.each_wf, State.on_wf, apply_ite State.wf, apply_ite Res.wf, apply_ite Prod.fst, apply_ite Prod.snd, if_true]

theorem State.sendZone_wf (s : State) (a1 : Nat) (a2 : Nat) (a3 : Nat) (a4 : List Nat) : Kept (State.sendZone s a1 a2 a3 a4) s := by
  unfold State.sendZone
  intro h
  simp +contextual only [h, State.takeNums_wf, State.putAir_wf, wf_next, ite_self, implies_true, State.each_wf, State.on_wf, apply_ite State.wf, apply_ite Res.wf, apply_ite Prod.fst, apply_ite Prod.snd, if_true]

theorem State.beacon_wf (s : State) (a1 : Nat) (a2 : Nat) : Kept (State.beacon s a1 a2).1 s := by
  unfold State.beacon
  intro h
  try dsimp only
  repeat' first
    | with_reducible assumption
    | with_reducible apply State.irq_wf
    | with_reducible apply State.inc_wf
    | with_reducible apply State.beaconForBurst_wf
    | with_reducible apply State.sendZone_wf
    | with_reducible apply State.on_wf
    | with_reducible apply State.each_wf
    | with_reducible apply ite_wf'
    | with_reducible apply ite_reswf'
    | with_reducible apply next_wf
    | (intro _)
    | split

theorem State.lockFollow_wf (s : State) (a1 : Nat) : Kept (State.lockFollow s a1) s := by
  unfold State.lockFollow
  intro h
  simp +contextual only [h, State.turnShow_wf, State.leSet_wf, State.freeLock_wf, wf_next, ite_self, implies_true, State.each_wf, State.on_wf, apply_ite State.wf, apply_ite Res.wf, apply_ite Prod.fst, apply_ite Prod.snd, if_true]

theorem State.locksFollow_wf (s : State) (a1 : List Nat) : Kept (State.locksFollow s a1) s := by
  unfold State.locksFollow
  intro h
  try dsimp only
  repeat' first
    | with_reducible assumption
    | with_reducible apply State.lockFollow_wf
    | with_reducible apply State.on_wf
    | with_reducible apply State.each_wf
    | with_reducible apply ite_wf'
    | with_reducible apply ite_reswf'
    | with_reducible apply next_wf
    | (intro _)
    | split

theorem State.blockOwner_wf (s : State) (a1 : Nat) : Kept (State.blockOwner s a1) s := by
  unfold State.blockOwner
  intro h
  try dsimp only
  repeat' first
    | with_reducible assumption
    | with_reducible apply State.regCounts_wf
    | with_reducible apply State.leEvent_wf
    | with_reducible apply State.holdMember_wf
    | with_reducible apply State.on_wf
    | with_reducible apply State.each_wf
    | with_reducible apply ite_wf'
    | with_reducible apply ite_reswf'
    | with_reducible apply next_wf
    | (intro _)
    | split

theorem State.blockAround_wf (s : State) (a1 : Nat) : Kept (State.blockAround s a1) s := by
  unfold State.blockAround
  intro h
  try dsimp only
  repeat' first
    | with_reducible assumption
    | with_reducible apply State.blockOwner_wf
    | with_reducible apply State.on_wf
    | with_reducible apply State.each_wf
    | with_reducible apply ite_wf'
    | with_reducible apply ite_reswf'
    | with_reducible apply next_wf
    | (intro _)
    | split

theorem State.toOverstay_wf (s : State) (a1 : Nat) : Kept (State.toOverstay s a1) s := by
  unfold State.toOverstay
  intro h
  try dsimp only
  repeat' first
    | with_reducible assumption
    | with_reducible apply State.irq_wf
    | with_reducible apply State.inc_wf
    | with_reducible apply State.leSet_wf
    | with_reducible apply State.takeSeq_wf
    | with_reducible apply State.lockFollow_wf
    | with_reducible apply State.blockAround_wf
    | with_reducible apply State.leEvent_wf
    | with_reducible apply State.sendLease_wf
    | with_reducible apply State.leaseShow_wf
    | with_reducible apply State.on_wf
    | with_reducible apply State.each_wf
    | with_reducible apply ite_wf'
    | with_reducible apply ite_reswf'
    | with_reducible apply next_wf
    | (intro _)
    | split

theorem State.freeStep_wf (s : State) (a1 : Nat) : Kept (State.freeStep s a1) s := by
  unfold State.freeStep
  intro h
  simp +contextual only [h, State.rechain_wf, State.freeLe_wf, wf_next, ite_self, implies_true, State.each_wf, State.on_wf, apply_ite State.wf, apply_ite Res.wf, apply_ite Prod.fst, apply_ite Prod.snd, if_true]

theorem State.freeDecided_wf (s : State) (a1 : Nat) (a2 : Nat) : Kept (State.freeDecided s a1 a2) s := by
  unfold State.freeDecided
  intro h
  try dsimp only
  repeat' first
    | with_reducible assumption
    | with_reducible apply State.takeSeq_wf
    | with_reducible apply State.leEvent_wf
    | with_reducible apply State.sendLease_wf
    | with_reducible apply State.freeStep_wf
    | with_reducible apply State.lockFollow_wf
    | with_reducible apply State.motTrunc_wf
    | with_reducible apply State.leaseShow_wf
    | with_reducible apply State.on_wf
    | with_reducible apply State.each_wf
    | with_reducible apply ite_wf'
    | with_reducible apply ite_reswf'
    | with_reducible apply next_wf
    | (intro _)
    | split

theorem State.stepDue_wf (s : State) (a1 : Nat) : Kept (State.stepDue s a1) s := by
  unfold State.stepDue
  intro h
  simp +contextual only [h, State.toOverstay_wf, State.freeDecided_wf, State.inc_wf, wf_next, ite_self, implies_true, State.each_wf, State.on_wf, apply_ite State.wf, apply_ite Res.wf, apply_ite Prod.fst, apply_ite Prod.snd, if_true]

theorem State.refreeze_wf (s : State) : Kept (State.refreeze s) s := by
  unfold State.refreeze
  intro h
  try dsimp only
  repeat' first
    | with_reducible assumption
    | with_reducible apply State.leSet_wf
    | with_reducible apply State.locksFollow_wf
    | with_reducible apply State.stepDue_wf
    | with_reducible apply State.on_wf
    | with_reducible apply State.each_wf
    | with_reducible apply ite_wf'
    | with_reducible apply ite_reswf'
    | with_reducible apply next_wf
    | (intro _)
    | split

theorem State.taskDeadline_wf (s : State) (a1 : Nat) : Kept (State.taskDeadline s a1) s := by
  unfold State.taskDeadline
  intro h
  simp +contextual only [h, State.inc_wf, State.taskTo_wf, wf_next, ite_self, implies_true, State.each_wf, State.on_wf, apply_ite State.wf, apply_ite Res.wf, apply_ite Prod.fst, apply_ite Prod.snd, if_true]

theorem State.taskDeadlines_wf (s : State) : Kept (State.taskDeadlines s) s := by
  unfold State.taskDeadlines
  intro h
  try dsimp only
  repeat' first
    | with_reducible assumption
    | with_reducible apply State.taskDeadline_wf
    | with_reducible apply State.on_wf
    | with_reducible apply State.each_wf
    | with_reducible apply ite_wf'
    | with_reducible apply ite_reswf'
    | with_reducible apply next_wf
    | (intro _)
    | split

theorem State.setLevel_wf (s : State) (a1 : Nat) : Kept (State.setLevel s a1) s := by
  unfold State.setLevel
  intro h
  try dsimp only
  repeat' first
    | with_reducible assumption
    | with_reducible apply State.announce_wf
    | with_reducible apply State.refreeze_wf
    | with_reducible apply State.set_wf
    | with_reducible apply State.taskDeadlines_wf
    | with_reducible apply State.abortPreparing_wf
    | with_reducible apply State.armCheck_wf
    | with_reducible apply State.on_wf
    | with_reducible apply State.each_wf
    | with_reducible apply ite_wf'
    | with_reducible apply ite_reswf'
    | with_reducible apply next_wf
    | (intro _)
    | split

theorem State.levelAtBeacon_wf (s : State) : Kept (State.levelAtBeacon s) s := by
  unfold State.levelAtBeacon
  intro h
  simp +contextual only [h, State.setLevel_wf, State.wf_flt, wf_next, ite_self, implies_true, State.each_wf, State.on_wf, apply_ite State.wf, apply_ite Res.wf, apply_ite Prod.fst, apply_ite Prod.snd, if_true]

theorem State.portBoundary_wf (s : State) (a1 : Nat) (a2 : Nat) : Kept (State.portBoundary s a1 a2) s := by
  unfold State.portBoundary
  intro h
  try dsimp only
  repeat' first
    | with_reducible assumption
    | with_reducible apply State.beacon_wf
    | with_reducible apply State.setPort_wf
    | with_reducible apply State.set_wf
    | with_reducible apply State.debugHold_wf
    | with_reducible apply State.setSvc_wf
    | with_reducible apply State.irq_wf
    | with_reducible apply State.svcFault_wf
    | with_reducible apply State.on_wf
    | with_reducible apply State.each_wf
    | with_reducible apply ite_wf'
    | with_reducible apply ite_reswf'
    | with_reducible apply next_wf
    | (intro _)
    | split

theorem State.latchPort_wf (s : State) (a1 : Nat) : Kept (State.latchPort s a1) s := by
  unfold State.latchPort
  intro h
  simp +contextual only [h, State.wf_hg, wf_next, ite_self, implies_true, State.each_wf, State.on_wf, apply_ite State.wf, apply_ite Res.wf, apply_ite Prod.fst, apply_ite Prod.snd, if_true]

theorem State.meterTake_wf (s : State) : Kept (State.meterTake s) s := by
  unfold State.meterTake
  intro h
  simp +contextual only [h, State.setP_wf, State.goState_wf, State.wf_met, wf_next, ite_self, implies_true, State.each_wf, State.on_wf, apply_ite State.wf, apply_ite Res.wf, apply_ite Prod.fst, apply_ite Prod.snd, if_true]

theorem State.releaseLoaded_wf (s : State) (a1 : Nat) : Kept (State.releaseLoaded s a1) s := by
  unfold State.releaseLoaded
  intro h
  try dsimp only
  repeat' first
    | with_reducible assumption
    | with_reducible apply State.sendRelease_wf
    | with_reducible apply State.freeFurrow_wf
    | with_reducible apply State.takeSeq_wf
    | with_reducible apply State.on_wf
    | with_reducible apply State.each_wf
    | with_reducible apply ite_wf'
    | with_reducible apply ite_reswf'
    | with_reducible apply next_wf
    | (intro _)
    | split

theorem State.takeZone_wf (s : State) (a1 : Nat) : Kept (State.takeZone s a1) s := by
  unfold State.takeZone
  intro h
  try dsimp only
  repeat' first
    | with_reducible assumption
    | with_reducible apply State.sendLease_wf
    | with_reducible apply State.releaseLoaded_wf
    | with_reducible apply State.awaitLoaded_wf
    | with_reducible apply State.on_wf
    | with_reducible apply State.each_wf
    | with_reducible apply ite_wf'
    | with_reducible apply ite_reswf'
    | with_reducible apply next_wf
    | (intro _)
    | split

theorem State.tookOver_wf (s : State) : Kept (State.tookOver s) s := by
  unfold State.tookOver
  intro h
  try dsimp only
  repeat' first
    | with_reducible assumption
    | with_reducible apply State.meterTake_wf
    | with_reducible apply State.goPair_wf
    | with_reducible apply State.takeZone_wf
    | with_reducible apply State.on_wf
    | with_reducible apply State.each_wf
    | with_reducible apply ite_wf'
    | with_reducible apply ite_reswf'
    | with_reducible apply next_wf
    | (intro _)
    | split

theorem State.resendReleases_wf (s : State) : Kept (State.resendReleases s) s := by
  unfold State.resendReleases
  intro h
  try dsimp only
  repeat' first
    | with_reducible assumption
    | with_reducible apply State.leaseSend_wf
    | with_reducible apply State.on_wf
    | with_reducible apply State.each_wf
    | with_reducible apply ite_wf'
    | with_reducible apply ite_reswf'
    | with_reducible apply next_wf
    | (intro _)
    | split

theorem State.clearSuperframe_wf (s : State) (a1 : Nat) (a2 : Nat) : Kept (State.clearSuperframe s a1 a2) s := by
  unfold State.clearSuperframe
  intro h
  simp +contextual only [h, State.wf_air_motNsp, wf_next, ite_self, implies_true, State.each_wf, State.on_wf, apply_ite State.wf, apply_ite Res.wf, apply_ite Prod.fst, apply_ite Prod.snd, if_true]

theorem State.beginSuperframe_wf (s : State) (a1 : Nat) : Kept (State.beginSuperframe s a1) s := by
  unfold State.beginSuperframe
  intro h
  try dsimp only
  repeat' first
    | with_reducible assumption
    | with_reducible apply State.levelAtBeacon_wf
    | with_reducible apply State.portBoundary_wf
    | with_reducible apply State.set_wf
    | with_reducible apply State.latchPort_wf
    | with_reducible apply State.tookOver_wf
    | with_reducible apply State.outsHigh_wf
    | with_reducible apply State.resendReleases_wf
    | with_reducible apply State.clearSuperframe_wf
    | with_reducible apply State.on_wf
    | with_reducible apply State.each_wf
    | with_reducible apply ite_wf'
    | with_reducible apply ite_reswf'
    | with_reducible apply next_wf
    | (intro _)
    | split

theorem State.bootRecord_wf (s : State) : Kept (State.bootRecord s) s := by
  unfold State.bootRecord
  intro h
  simp +contextual only [h, State.saveSeq_wf, State.sysEvent_wf, State.wf_ev, wf_next, ite_self, implies_true, State.each_wf, State.on_wf, apply_ite State.wf, apply_ite Res.wf, apply_ite Prod.fst, apply_ite Prod.snd, if_true]

theorem State.bufferWrite_wf (s : State) (a1 : RegWr) : ∀ t, (State.bufferWrite s a1) = some t → Kept t s := by
  intro t
  rw [State.bufferWrite.eq_def]
  intro h
  grind [State.setReg_wf, wf_next]

theorem State.bulkOut_wf (s : State) (a1 : Nat) (a2 : Nat → Out) : Kept (State.bulkOut s a1 a2) s := by
  unfold State.bulkOut
  intro h
  (repeat' split) <;> simp +contextual only [h, State.inc_wf, State.emit_wf, wf_next, implies_true, State.each_wf, State.on_wf]

theorem State.bumpSources_wf (s : State) : Kept (State.bumpSources s) s := by
  unfold State.bumpSources
  intro h
  try dsimp only
  repeat' first
    | with_reducible assumption
    | with_reducible apply State.hostBump_wf
    | with_reducible apply State.bump_wf
    | with_reducible apply State.on_wf
    | with_reducible apply State.each_wf
    | with_reducible apply ite_wf'
    | with_reducible apply ite_reswf'
    | with_reducible apply next_wf
    | (intro _)
    | split

theorem State.useSet_wf (s : State) (a1 : Nat) (a2 : Nat) : Kept (State.useSet s a1 a2) s := by
  unfold State.useSet
  intro h
  simp +contextual only [h, State.wf_air, wf_next, ite_self, implies_true, State.each_wf, State.on_wf, apply_ite State.wf, apply_ite Res.wf, apply_ite Prod.fst, apply_ite Prod.snd, if_true]

theorem State.burstPort_wf (s : State) (a1 : Nat) : Kept (State.burstPort s a1) s := by
  unfold State.burstPort
  intro h
  try dsimp only
  repeat' first
    | with_reducible assumption
    | with_reducible apply State.stepBurst_wf
    | with_reducible apply State.inc_wf
    | with_reducible apply State.useSet_wf
    | with_reducible apply State.ppduTx_wf
    | with_reducible apply State.airEmit_wf
    | with_reducible apply State.setPort_wf
    | with_reducible apply State.noteFirstFrame_wf
    | with_reducible apply State.on_wf
    | with_reducible apply State.each_wf
    | with_reducible apply ite_wf'
    | with_reducible apply ite_reswf'
    | with_reducible apply next_wf
    | (intro _)
    | split

theorem State.unmapped_wf (s : State) (a1 : Src) (a2 : Nat) (a3 : Bool) : Kept (State.unmapped s a1 a2 a3) s := by
  unfold State.unmapped
  intro h
  try dsimp only
  repeat' first
    | with_reducible assumption
    | with_reducible apply State.inc_wf
    | with_reducible apply State.firstInSecond_wf
    | with_reducible apply State.sysEvent_wf
    | with_reducible apply State.on_wf
    | with_reducible apply State.each_wf
    | with_reducible apply ite_wf'
    | with_reducible apply ite_reswf'
    | with_reducible apply next_wf
    | (intro _)
    | split

theorem State.coldWrite_wf (s : State) (a1 : Page) : Kept (State.coldWrite s a1) s := by
  unfold State.coldWrite
  intro h
  simp +contextual only [h, State.incP_wf, wf_next, ite_self, implies_true, State.each_wf, State.on_wf, apply_ite State.wf, apply_ite Res.wf, apply_ite Prod.fst, apply_ite Prod.snd, if_true]

theorem State.keep_latch (t : State) (x : AMap Word) (hx : AMap.wf (fun _ => (0 : Word)) t.latch = true → AMap.wf (fun _ => (0 : Word)) x = true) : Kept { t with latch := x } t := by
  intro w
  rw [State.wf_iff] at w ⊢
  exact ⟨(w.1), (w.2.1), (hx w.2.2.1), (w.2.2.2.1), (w.2.2.2.2.1), (w.2.2.2.2.2.1), (w.2.2.2.2.2.2.1), (w.2.2.2.2.2.2.2)⟩

theorem State.counterWord_wf (s : State) (src : Src) (a : Nat) : Kept (s.counterWord src a).2 s := by
  unfold State.counterWord
  split
  · exact State.keep_latch s _ (AMap.wf_set _ _ _ _)
  · exact id

theorem State.nowRead_wf (s : State) (src : Src) : Kept (s.nowRead src).2 s :=
  State.keep_latch s _ fun h => AMap.wf_set _ _ _ _ (AMap.wf_set _ _ _ _ (AMap.wf_set _ _ _ _ h))

theorem State.setTxts_wf (s : State) (a1 : Nat) (a2 : List TxStamp) : Kept (State.setTxts s a1 a2) s := by
  unfold State.setTxts
  intro h
  try dsimp only
  repeat' first
    | with_reducible assumption
    | with_reducible apply State.set_wf
    | with_reducible apply State.irq_wf
    | with_reducible apply State.on_wf
    | with_reducible apply State.each_wf
    | with_reducible apply ite_wf'
    | with_reducible apply ite_reswf'
    | with_reducible apply next_wf
    | simp only [State.wf_tm]
    | (intro _)
    | split

theorem State.regView_wf (s : State) (a1 : Src) (a2 : Page) (a3 : Nat) : Kept (State.regView s a1 a2 a3).2 s := by
  unfold State.regView
  intro h
  dsimp only
  (repeat' split) <;> simp +contextual only [h, State.counterWord_wf, State.nowRead_wf, State.setTxts_wf, wf_next, implies_true, State.each_wf, State.on_wf]

theorem State.busRead_wf (s : State) (a1 : Src) (a2 : Nat) : Kept (State.busRead s a1 a2).2 s := by
  unfold State.busRead
  intro h
  dsimp only
  (repeat' split) <;> simp +contextual only [h, State.unmapped_wf, State.coldWrite_wf, State.regView_wf, wf_next, implies_true, State.each_wf, State.on_wf]

theorem State.busyCycles_wf (s : State) : Kept (State.busyCycles s) s := by
  unfold State.busyCycles
  intro h
  try dsimp only
  repeat' first
    | with_reducible assumption
    | with_reducible apply State.inc_wf
    | with_reducible apply State.on_wf
    | with_reducible apply State.each_wf
    | with_reducible apply ite_wf'
    | with_reducible apply ite_reswf'
    | with_reducible apply next_wf
    | (intro _)
    | split

theorem State.canalTrain_wf (s : State) (a1 : Nat) : Kept (State.canalTrain s a1) s := by
  unfold State.canalTrain
  intro h
  try dsimp only
  repeat' first
    | with_reducible assumption
    | with_reducible apply State.set_wf
    | with_reducible apply State.sendHello_wf
    | with_reducible apply State.setCport_wf
    | with_reducible apply State.on_wf
    | with_reducible apply State.each_wf
    | with_reducible apply ite_wf'
    | with_reducible apply ite_reswf'
    | with_reducible apply next_wf
    | (intro _)
    | split

theorem State.canalCtrl_wf (s : State) (a1 : Nat) (a2 : CanalBody) : Kept (State.canalCtrl s a1 a2) s := by
  unfold State.canalCtrl
  intro h
  (repeat' split) <;> simp +contextual only [h, State.canalTrain_wf, State.set_wf, State.ctrlOut_wf, wf_next, implies_true, State.each_wf, State.on_wf]

theorem State.canalHeard_wf (s : State) (a1 : Nat) (a2 : Nat) (a3 : Nat) (a4 : Nat) : Kept (State.canalHeard s a1 a2 a3 a4).2 s := by
  unfold State.canalHeard
  intro h
  dsimp only
  (repeat' split) <;> simp +contextual only [h, State.wf_canal, wf_next, implies_true, State.each_wf, State.on_wf]

theorem State.canalTail_wf (s : State) (a1 : Nat) (a2 : Nat) (a3 : Nat) (a4 : Nat) : Kept (State.canalTail s a1 a2 a3 a4) s := by
  unfold State.canalTail
  intro h
  simp +contextual only [h, State.canalPump_wf, State.setCport_wf, wf_next, ite_self, implies_true, State.each_wf, State.on_wf, apply_ite State.wf, apply_ite Res.wf, apply_ite Prod.fst, apply_ite Prod.snd, if_true]

theorem State.chanWrite_wf (s : State) (a1 : Nat) (a2 : Nat) : ∀ t, (State.chanWrite s a1 a2) = some t → Kept t s := by
  intro t h
  unfold State.chanWrite at h
  dsimp only at h
  split at h
  · cases h
    exact State.setTe_wf _ _ _ _ _
  · cases h

theorem State.chargeTick_wf (s : State) (a1 : Nat) : Kept (State.chargeTick s a1) s := by
  unfold State.chargeTick
  intro h
  try dsimp only
  repeat' first
    | with_reducible assumption
    | with_reducible apply State.taskEvent_wf
    | with_reducible apply State.irq_wf
    | with_reducible apply State.setTe_wf
    | with_reducible apply State.on_wf
    | with_reducible apply State.each_wf
    | with_reducible apply ite_wf'
    | with_reducible apply ite_reswf'
    | with_reducible apply next_wf
    | (intro _)
    | split

theorem State.chunkRx_wf (s : State) (a1 : Nat) (a2 : List Nat) (a3 : ImgSeen) : Kept (State.chunkRx s a1 a2 a3) s := by
  unfold State.chunkRx
  intro h
  simp +contextual only [h, State.chunk_wf, State.emit_wf, wf_next, ite_self, implies_true, State.each_wf, State.on_wf, apply_ite State.wf, apply_ite Res.wf, apply_ite Prod.fst, apply_ite Prod.snd, if_true]

theorem State.claim_wf (s : State) : Kept (State.claim s) s := by
  unfold State.claim
  intro h
  try dsimp only
  repeat' first
    | with_reducible assumption
    | with_reducible apply State.gateShow_wf
    | with_reducible apply State.emit_wf
    | with_reducible apply State.set_wf
    | with_reducible apply State.on_wf
    | with_reducible apply State.each_wf
    | with_reducible apply ite_wf'
    | with_reducible apply ite_reswf'
    | with_reducible apply next_wf
    | simp only [State.wf_pair]
    | (intro _)
    | split

theorem State.claimConflict_wf (s : State) : Kept (State.claimConflict s) s := by
  unfold State.claimConflict
  intro h
  try dsimp only
  repeat' first
    | with_reducible assumption
    | with_reducible apply State.notice_wf
    | with_reducible apply State.inc_wf
    | with_reducible apply State.goCold_wf
    | with_reducible apply State.unclaim_wf
    | with_reducible apply State.gateShow_wf
    | with_reducible apply State.on_wf
    | with_reducible apply State.each_wf
    | with_reducible apply ite_wf'
    | with_reducible apply ite_reswf'
    | with_reducible apply next_wf
    | (intro _)
    | split

theorem State.clearCauses_wf (s : State) : Kept s.clearCauses s := by
  unfold State.clearCauses
  dsimp only
  generalize s.get F.CAUSES_HELD / 2 ^ (rsGATEFAULT - 1) % 2 = fault
  have h : Kept (((s.set F.CAUSES_HELD (fault * 2 ^ (rsGATEFAULT - 1))).set F.HG_STATE_CLASS (2 * fault)).set F.HG_STATE_REASON
      (if fault = 1 then rsGATEFAULT else 0)) s :=
    (State.set_wf _ F.HG_STATE_REASON _ _ _).trans ((State.set_wf _ F.HG_STATE_CLASS _ _ _).trans (State.set_wf _ F.CAUSES_HELD _ _ _))
  revert h
  generalize ((s.set F.CAUSES_HELD (fault * 2 ^ (rsGATEFAULT - 1))).set F.HG_STATE_CLASS (2 * fault)).set F.HG_STATE_REASON
      (if fault = 1 then rsGATEFAULT else 0) = u
  intro h
  have h2 : Kept { u with dbg := { u.dbg with extest := u.dbg.extest && decide (fault = 1) }, hg := { u.hg with outPending := true, bursts := [none, none, none, none] } } s := h
  exact (State.set_wf _ F.HG_STATE_BURST 0 0 0).trans h2

theorem State.cmdDone_wf (s : State) (a1 : Nat) (a2 : Nat) (a3 : Nat) (a4 : Nat) : Kept (State.cmdDone s a1 a2 a3 a4) s := by
  unfold State.cmdDone
  intro h
  simp +contextual only [h, State.writeCompl_wf, wf_next, ite_self, implies_true, State.each_wf, State.on_wf, apply_ite State.wf, apply_ite Res.wf, apply_ite Prod.fst, apply_ite Prod.snd, if_true]

theorem State.gapHold_wf (s : State) (a1 : GapOp) : Kept (State.gapHold s a1) s := by
  unfold State.gapHold
  intro h
  simp +contextual only [h, State.wf_clk, wf_next, ite_self, implies_true, State.each_wf, State.on_wf, apply_ite State.wf, apply_ite Res.wf, apply_ite Prod.fst, apply_ite Prod.snd, if_true]

theorem State.tblAnswer_wf (via : Via) (p : Page) (opcode table index : Nat) (key : List Nat) (data gen : Nat)
    (x : State × Option TRes) : Kept (State.tblAnswer via p opcode table index key data gen x) x.1 := by
  obtain ⟨s, r⟩ := x
  cases r with
  | none => exact id
  | some r => exact State.tblDone_wf _ _ _ _ _

theorem State.tblDecide_wf (s : State) (via : Via) (p : Page) (opcode table index : Nat) (key : List Nat) (data : Nat) (f : TFn)
    (h : ∀ t k d, Kept (f t k d).1 t) : Kept (s.tblDecide via p opcode table index key data f) s := by
  unfold State.tblDecide
  refine (State.tblAnswer_wf _ _ _ _ _ _ _ _ _).trans ?_
  cases s.rebaseHolds p with
  | true => exact id
  | false => exact h s key data

theorem State.tblOpNow_wf (s : State) (via : Via) (p : Page) (opcode table index : Nat) (f : TFn)
    (h : ∀ t k d, Kept (f t k d).1 t) : Kept (s.tblOpNow via p opcode table index f) s := by
  unfold State.tblOpNow
  split
  · exact State.inc_wf _ _ _ _
  · refine ite_wf (State.unmapped_wf _ _ _ _) (ite_wf (State.setReg_wf _ _ _) ?_)
    have h2 (v : Nat) (w : Nat → Nat) : Kept ((s.setReg p.tblCmd v).setReg p.tblStatus (w ((s.setReg p.tblCmd v).reg p.tblStatus))) s :=
      (State.setReg_wf _ _ _).trans (State.setReg_wf _ _ _)
    have h3 := h2 (opcode % 16 + table % 16 * 16 + index % 2 ^ 24 * 256) fun x => Nat.lor x 1
    dsimp only at h3 ⊢
    revert h3
    generalize (s.setReg p.tblCmd (opcode % 16 + table % 16 * 16 + index % 2 ^ 24 * 256)).setReg p.tblStatus _ = u
    intro h3
    exact ite_wf ((State.tblDone_wf _ _ _ _ _).trans h3) ((State.tblDecide_wf _ _ _ _ _ _ _ _ _ h).trans h3)
  · exact ite_wf (State.tblDone_wf _ _ _ _ _) (ite_wf (State.tblDone_wf _ _ _ _ _) (ite_wf (State.tblDone_wf _ _ _ _ _) (ite_wf
      (State.tblDone_wf _ _ _ _ _) (State.tblDecide_wf _ _ _ _ _ _ _ _ _ h))))

theorem State.tblOp_wf (s : State) (via : Via) (p : Page) (opcode table index : Nat) (f : TFn)
    (h : ∀ t k d, Kept (f t k d).1 t) : Kept (s.tblOp via p opcode table index f) s := by
  unfold State.tblOp
  exact ite_wf id (ite_wf (State.gapHold_wf _ _) (State.tblOpNow_wf _ _ _ _ _ _ _ h))

theorem clearBankFn_wf (a0 : Nat) (a1 : Nat) : ∀ s k d, Kept (clearBankFn a0 a1 s k d).1 s := by
  intro s k d
  unfold clearBankFn
  intro h
  try dsimp only
  repeat' first
    | with_reducible assumption
    | with_reducible apply State.setTe_wf
    | with_reducible apply State.on_wf
    | with_reducible apply State.each_wf
    | with_reducible apply ite_wf'
    | with_reducible apply ite_reswf'
    | with_reducible apply next_wf
    | (intro _)
    | split

theorem execSluiceBankClear_wf (a0 : Via) (a1 : Nat) (a2 : Nat) (s : State) : ResKept (execSluiceBankClear a0 a1 a2 s) s := by
  unfold execSluiceBankClear
  intro h
  try dsimp only
  repeat' first
    | with_reducible assumption
    | with_reducible apply State.tblOp_wf
    | with_reducible apply clearBankFn_wf
    | with_reducible apply State.on_wf
    | with_reducible apply State.each_wf
    | with_reducible apply ite_wf'
    | with_reducible apply ite_reswf'
    | with_reducible apply next_wf
    | (intro _)
    | split

theorem State.routeOpInsert_wf (s : State) (a1 : List Nat) (a2 : Nat) : Kept (State.routeOpInsert s a1 a2).1 s := by
  unfold State.routeOpInsert
  intro h
  grind [State.routeInsert_wf, wf_next]

theorem State.routeOpDelete_wf (s : State) (a1 : Nat) (a2 : List Nat) : Kept (State.routeOpDelete s a1 a2).1 s := by
  unfold State.routeOpDelete
  intro h
  dsimp only
  (repeat' split) <;> simp +contextual only [h, State.setRoute_wf, wf_next, implies_true, State.each_wf, State.on_wf]

theorem State.routeOp_wf (s : State) (a1 : Nat) (a2 : Nat) (a3 : List Nat) (a4 : Nat) : Kept (State.routeOp s a1 a2 a3 a4).1 s := by
  unfold State.routeOp
  intro h
  (repeat' split) <;> simp +contextual only [h, State.routeOpInsert_wf, State.routeOpDelete_wf, wf_next, implies_true, State.each_wf, State.on_wf]

theorem State.routeTbl_wf (a0 : Nat) (a1 : Nat) : ∀ s k d, Kept (State.routeTbl a0 a1 s k d).1 s := by
  intro s k d
  unfold State.routeTbl
  intro h
  simp +contextual only [h, State.routeOp_wf, wf_next, ite_self, implies_true, State.each_wf, State.on_wf, apply_ite State.wf, apply_ite Res.wf, apply_ite Prod.fst, apply_ite Prod.snd, if_true]

theorem now_wf (f : State → List Nat → Nat → State × TRes) (h : ∀ t k d, Kept (f t k d).1 t) (s : State)
    (k : List Nat) (d : Nat) : Kept (now f s k d).1 s := h s k d

theorem State.evAnswer_wf (s : State) (a1 : Option EvRec) : Kept (State.evAnswer s a1).1 s := by
  unfold State.evAnswer
  intro h
  grind [State.irq_wf, State.inc_wf, wf_next]

theorem State.readEvent_wf (s : State) (a1 : Nat) : Kept (State.readEvent s a1).1 s := by
  unfold State.readEvent
  intro h
  simp +contextual only [h, State.evAnswer_wf, wf_next, ite_self, implies_true, State.each_wf, State.on_wf, apply_ite State.wf, apply_ite Res.wf, apply_ite Prod.fst, apply_ite Prod.snd, if_true]

theorem tblReadFn_wf (a0 : Via) (a1 : Page) (a2 : Nat) (a3 : Nat) : ∀ s k d, Kept (tblReadFn a0 a1 a2 a3 s k d).1 s := by
  intro s k d
  unfold tblReadFn
  intro h
  try dsimp only
  repeat' first
    | with_reducible assumption
    | with_reducible apply State.routeTbl_wf
    | with_reducible apply now_wf
    | with_reducible apply State.readEvent_wf
    | with_reducible apply State.on_wf
    | with_reducible apply State.each_wf
    | with_reducible apply ite_wf'
    | with_reducible apply ite_reswf'
    | with_reducible apply next_wf
    | (intro _)
    | split

theorem State.setRmem_wf (s : State) (a1 : Nat) (a2 : RtkMem) : Kept (State.setRmem s a1 a2) s := by
  unfold State.setRmem
  intro h
  simp +contextual only [h, State.wf_rtk, wf_next, ite_self, implies_true, State.each_wf, State.on_wf, apply_ite State.wf, apply_ite Res.wf, apply_ite Prod.fst, apply_ite Prod.snd, if_true]

theorem State.rtkReset_wf (s : State) (a1 : Nat) : Kept (State.rtkReset s a1) s := by
  unfold State.rtkReset
  intro h
  try dsimp only
  repeat' first
    | with_reducible assumption
    | with_reducible apply State.setRmem_wf
    | with_reducible apply State.setTe_wf
    | with_reducible apply State.rtkShow_wf
    | with_reducible apply State.on_wf
    | with_reducible apply State.each_wf
    | with_reducible apply ite_wf'
    | with_reducible apply ite_reswf'
    | with_reducible apply next_wf
    | simp only [State.wf_rtk]
    | (intro _)
    | split

theorem State.writeRtk_wf (s : State) (a1 : Nat) (a2 : Nat) : Kept (State.writeRtk s a1 a2).1 s := by
  unfold State.writeRtk
  intro h
  simp +contextual only [h, State.setTe_wf, State.rtkReset_wf, State.rtkShow_wf, wf_next, ite_self, implies_true, State.each_wf, State.on_wf, apply_ite State.wf, apply_ite Res.wf, apply_ite Prod.fst, apply_ite Prod.snd, if_true]

theorem State.writeSpi_wf (s : State) (a1 : Nat) (a2 : Nat) (a3 : Nat) : Kept (State.writeSpi s a1 a2 a3).1 s := by
  unfold State.writeSpi
  intro h
  simp +contextual only [h, State.setTe_wf, wf_next, ite_self, implies_true, State.each_wf, State.on_wf, apply_ite State.wf, apply_ite Res.wf, apply_ite Prod.fst, apply_ite Prod.snd, if_true]

theorem State.writeSlot_wf (s : State) (a1 : Nat) (a2 : Nat) (a3 : Nat) (a4 : Nat) : Kept (State.writeSlot s a1 a2 a3 a4).1 s := by
  unfold State.writeSlot
  intro h
  simp +contextual only [h, State.setTe_wf, wf_next, ite_self, implies_true, State.each_wf, State.on_wf, apply_ite State.wf, apply_ite Res.wf, apply_ite Prod.fst, apply_ite Prod.snd, if_true]

theorem State.writeAuth_wf (s : State) (a1 : Src) (a2 : Nat) (a3 : Nat) : Kept (State.writeAuth s a1 a2 a3).1 s := by
  unfold State.writeAuth
  intro h
  simp +contextual only [h, State.setTe_wf, wf_next, ite_self, implies_true, State.each_wf, State.on_wf, apply_ite State.wf, apply_ite Res.wf, apply_ite Prod.fst, apply_ite Prod.snd, if_true]

theorem State.writeMember_wf (s : State) (a1 : Nat) (a2 : Nat) : Kept (State.writeMember s a1 a2).1 s := by
  unfold State.writeMember
  intro h
  simp +contextual only [h, State.setMember_wf, wf_next, ite_self, implies_true, State.each_wf, State.on_wf, apply_ite State.wf, apply_ite Res.wf, apply_ite Prod.fst, apply_ite Prod.snd, if_true]

theorem State.storeEntry_wf (s : State) (a1 : Nat) (a2 : Nat) (a3 : Nat) : Kept (State.storeEntry s a1 a2 a3) s := by
  unfold State.storeEntry
  intro h
  simp +contextual only [h, State.setTe_wf, wf_next, ite_self, implies_true, State.each_wf, State.on_wf, apply_ite State.wf, apply_ite Res.wf, apply_ite Prod.fst, apply_ite Prod.snd, if_true]

theorem State.writeGraph_wf (s : State) (a1 : Nat) (a2 : Nat) (a3 : Nat) (a4 : Nat) : Kept (State.writeGraph s a1 a2 a3 a4).1 s := by
  unfold State.writeGraph
  intro h
  simp +contextual only [h, State.inc_wf, State.storeEntry_wf, State.afterGraph_wf, wf_next, ite_self, implies_true, State.each_wf, State.on_wf, apply_ite State.wf, apply_ite Res.wf, apply_ite Prod.fst, apply_ite Prod.snd, if_true]

theorem State.writeLease_wf (s : State) (a1 : Nat) (a2 : Nat) (a3 : Nat) : Kept (State.writeLease s a1 a2 a3).1 s := by
  unfold State.writeLease
  intro h
  simp +contextual only [h, State.setLe_wf, wf_next, ite_self, implies_true, State.each_wf, State.on_wf, apply_ite State.wf, apply_ite Res.wf, apply_ite Prod.fst, apply_ite Prod.snd, if_true]

theorem State.writeFlow_wf (s : State) (a1 : Nat) (a2 : Nat) : Kept (State.writeFlow s a1 a2).1 s := by
  unfold State.writeFlow
  intro h
  simp +contextual only [h, State.preempt_wf, State.setTe_wf, wf_next, ite_self, implies_true, State.each_wf, State.on_wf, apply_ite State.wf, apply_ite Res.wf, apply_ite Prod.fst, apply_ite Prod.snd, if_true]

theorem State.writeTimer_wf (s : State) (a1 : Nat) (a2 : Nat) : Kept (State.writeTimer s a1 a2).1 s := by
  unfold State.writeTimer
  intro h
  simp +contextual only [h, State.setTe_wf, wf_next, ite_self, implies_true, State.each_wf, State.on_wf, apply_ite State.wf, apply_ite Res.wf, apply_ite Prod.fst, apply_ite Prod.snd, if_true]

theorem State.qWaits_wf (s : State) (a1 : Nat) : Kept (State.qWaits s a1) s := by
  unfold State.qWaits
  intro h
  try dsimp only
  repeat' first
    | with_reducible assumption
    | with_reducible apply State.setQ_wf
    | with_reducible apply State.qPush_wf
    | with_reducible apply State.on_wf
    | with_reducible apply State.each_wf
    | with_reducible apply ite_wf'
    | with_reducible apply ite_reswf'
    | with_reducible apply next_wf
    | (intro _)
    | split

theorem State.writeQueue_wf (s : State) (a1 : Nat) (a2 : Nat) : Kept (State.writeQueue s a1 a2).1 s := by
  unfold State.writeQueue
  intro h
  try dsimp only
  repeat' first
    | with_reducible assumption
    | with_reducible apply State.qWaits_wf
    | with_reducible apply State.qPump_wf
    | with_reducible apply State.setQ_wf
    | with_reducible apply State.on_wf
    | with_reducible apply State.each_wf
    | with_reducible apply ite_wf'
    | with_reducible apply ite_reswf'
    | with_reducible apply next_wf
    | (intro _)
    | split

theorem State.writeChan_wf (s : State) (i v : Nat) : Kept (s.writeChan i v).1 s := by
  unfold State.writeChan
  split
  · rename_i h
    exact State.chanWrite_wf _ _ _ _ h
  · exact id

theorem State.writeWeir_wf (s : State) (a1 : Nat) (a2 : Nat) : Kept (State.writeWeir s a1 a2).1 s := by
  unfold State.writeWeir
  intro h
  simp +contextual only [h, State.setTe_wf, State.wf_ev, wf_next, ite_self, implies_true, State.each_wf, State.on_wf, apply_ite State.wf, apply_ite Res.wf, apply_ite Prod.fst, apply_ite Prod.snd, if_true]

theorem State.tblWrite_wf (s : State) (a1 : Via) (a2 : Page) (a3 : Nat) (a4 : Nat) (a5 : Nat) : Kept (State.tblWrite s a1 a2 a3 a4 a5).1 s := by
  unfold State.tblWrite
  intro h
  (repeat' split) <;> simp +contextual only [h, State.writeRtk_wf, State.writeSpi_wf, State.writeSlot_wf, State.writeAuth_wf, State.writeMember_wf, State.writeGraph_wf, State.writeLease_wf, State.writeFlow_wf, State.writeTimer_wf, State.writeQueue_wf, State.writeChan_wf, State.writeWeir_wf, wf_next, implies_true, State.each_wf, State.on_wf]

theorem tblWriteFn_wf (a0 : Via) (a1 : Page) (a2 : Nat) (a3 : Nat) : ∀ s k d, Kept (tblWriteFn a0 a1 a2 a3 s k d).1 s := by
  intro s k d
  unfold tblWriteFn
  intro h
  dsimp only
  (repeat' split) <;> simp +contextual only [h, State.tblWrite_wf, State.inc_wf, wf_next, implies_true, State.each_wf, State.on_wf]

theorem tblKeyFn_wf (a0 : Page) (a1 : Nat) (a2 : Nat) (a3 : Nat) : ∀ s k d, Kept (tblKeyFn a0 a1 a2 a3 s k d).1 s := by
  intro s k d
  unfold tblKeyFn
  intro h
  simp +contextual only [h, State.routeTbl_wf, wf_next, ite_self, implies_true, State.each_wf, State.on_wf, apply_ite State.wf, apply_ite Res.wf, apply_ite Prod.fst, apply_ite Prod.snd, if_true]

theorem State.nextEvent_wf (s : State) (a1 : Nat) : Kept (State.nextEvent s a1).1 s := by
  unfold State.nextEvent
  intro h
  simp +contextual only [h, State.evAnswer_wf, wf_next, ite_self, implies_true, State.each_wf, State.on_wf, apply_ite State.wf, apply_ite Res.wf, apply_ite Prod.fst, apply_ite Prod.snd, if_true]

theorem tblNextFn_wf (a0 : Via) (a1 : Page) (a2 : Nat) (a3 : Nat) : ∀ s k d, Kept (tblNextFn a0 a1 a2 a3 s k d).1 s := by
  intro s k d
  unfold tblNextFn
  intro h
  try dsimp only
  repeat' first
    | with_reducible assumption
    | with_reducible apply State.routeTbl_wf
    | with_reducible apply now_wf
    | with_reducible apply State.nextEvent_wf
    | with_reducible apply State.on_wf
    | with_reducible apply State.each_wf
    | with_reducible apply ite_wf'
    | with_reducible apply ite_reswf'
    | with_reducible apply next_wf
    | (intro _)
    | split

theorem State.tblCmp_wf (s : State) (a1 : Via) (a2 : Page) (a3 : Nat) (a4 : Nat) (a5 : List Nat) (a6 : Nat) : Kept (State.tblCmp s a1 a2 a3 a4 a5 a6).1 s := by
  unfold State.tblCmp
  intro h
  simp +contextual only [h, State.writeLease_wf, wf_next, ite_self, implies_true, State.each_wf, State.on_wf, apply_ite State.wf, apply_ite Res.wf, apply_ite Prod.fst, apply_ite Prod.snd, if_true]

theorem tblCmpFn_wf (a0 : Via) (a1 : Page) (a2 : Nat) (a3 : Nat) : ∀ s k d, Kept (tblCmpFn a0 a1 a2 a3 s k d).1 s := by
  intro s k d
  unfold tblCmpFn
  intro h
  dsimp only
  (repeat' split) <;> simp +contextual only [h, State.tblCmp_wf, wf_next, implies_true, State.each_wf, State.on_wf]

theorem tblFn_wf (a0 : Via) (a1 : Page) (a2 : Nat) (a3 : Nat) (a4 : Nat) : ∀ s k d, Kept (tblFn a0 a1 a2 a3 a4 s k d).1 s := by
  intro s k d
  unfold tblFn
  intro h
  (repeat' split) <;> simp +contextual only [h, tblReadFn_wf, tblWriteFn_wf, tblKeyFn_wf, tblNextFn_wf, tblCmpFn_wf, wf_next, implies_true, State.each_wf, State.on_wf]

theorem State.tblGo_wf (s : State) (a1 : Via) (a2 : Page) (a3 : Nat) (a4 : Nat) (a5 : Nat) : Kept (State.tblGo s a1 a2 a3 a4 a5) s := by
  unfold State.tblGo
  intro h
  try dsimp only
  repeat' first
    | with_reducible assumption
    | with_reducible apply State.tblOp_wf
    | with_reducible apply tblFn_wf
    | with_reducible apply State.unmapped_wf
    | with_reducible apply State.tblDone_wf
    | with_reducible apply State.on_wf
    | with_reducible apply State.each_wf
    | with_reducible apply ite_wf'
    | with_reducible apply ite_reswf'
    | with_reducible apply next_wf
    | (intro _)
    | split

theorem execRouteRepack_wf (a0 : Via) (s : State) : ResKept (execRouteRepack a0 s) s := by
  unfold execRouteRepack
  intro h
  try dsimp only
  repeat' first
    | with_reducible assumption
    | with_reducible apply State.tblOp_wf
    | with_reducible apply State.set_wf
    | with_reducible apply State.on_wf
    | with_reducible apply State.each_wf
    | with_reducible apply ite_wf'
    | with_reducible apply ite_reswf'
    | with_reducible apply next_wf
    | simp only [State.wf_rt]
    | (intro _)
    | split

theorem openFn_wf (a0 : Via) : ∀ s k d, Kept (openFn a0 s k d).1 s := by
  intro s k d
  unfold openFn
  intro h
  dsimp only
  (repeat' split) <;> simp +contextual only [h, State.leaseShow_wf, State.wf_ls, wf_next, implies_true, State.each_wf, State.on_wf]

theorem execFurrowOpen_wf (a0 : Via) (s : State) : ResKept (execFurrowOpen a0 s) s := by
  unfold execFurrowOpen
  intro h
  try dsimp only
  repeat' first
    | with_reducible assumption
    | with_reducible apply State.tblOp_wf
    | with_reducible apply openFn_wf
    | with_reducible apply State.on_wf
    | with_reducible apply State.each_wf
    | with_reducible apply ite_wf'
    | with_reducible apply ite_reswf'
    | with_reducible apply next_wf
    | (intro _)
    | split

theorem stepsFn_wf (a0 : Via) : ∀ s k d, Kept (stepsFn a0 s k d).1 s := by
  intro s k d
  fun_cases stepsFn <;> intro h <;> simp +contextual only [h, State.wf_ls, wf_next, implies_true, State.each_wf, State.on_wf]

theorem execFurrowSteps_wf (a0 : Via) (s : State) : ResKept (execFurrowSteps a0 s) s := by
  unfold execFurrowSteps
  intro h
  try dsimp only
  repeat' first
    | with_reducible assumption
    | with_reducible apply State.tblOp_wf
    | with_reducible apply stepsFn_wf
    | with_reducible apply State.on_wf
    | with_reducible apply State.each_wf
    | with_reducible apply ite_wf'
    | with_reducible apply ite_reswf'
    | with_reducible apply next_wf
    | (intro _)
    | split

theorem State.grantDone_wf (s : State) (a1 : Nat) : Kept (State.grantDone s a1).1 s := by
  unfold State.grantDone
  intro h
  try dsimp only
  repeat' first
    | with_reducible assumption
    | with_reducible apply State.awaitDelta_wf
    | with_reducible apply State.leEvent_wf
    | with_reducible apply State.inc_wf
    | with_reducible apply State.on_wf
    | with_reducible apply State.each_wf
    | with_reducible apply ite_wf'
    | with_reducible apply ite_reswf'
    | with_reducible apply next_wf
    | (intro _)
    | split

theorem State.submit_wf (s : State) (a1 : Build) (a2 : Via) : Kept (State.submit s a1 a2).1 s := by
  unfold State.submit
  intro h
  try dsimp only
  repeat' first
    | with_reducible assumption
    | with_reducible apply State.refuseSubmit_wf
    | with_reducible apply State.takeSeq_wf
    | with_reducible apply State.writeFurrow_wf
    | with_reducible apply State.grantDone_wf
    | with_reducible apply State.advance_wf
    | with_reducible apply State.on_wf
    | with_reducible apply State.each_wf
    | with_reducible apply ite_wf'
    | with_reducible apply ite_reswf'
    | with_reducible apply next_wf
    | simp only [State.wf_ls]
    | (intro _)
    | split

theorem State.dropBuild_wf (s : State) (a1 : Nat) : Kept (State.dropBuild s a1) s := by
  unfold State.dropBuild
  intro h
  simp +contextual only [h, State.leaseShow_wf, State.wf_ls, wf_next, ite_self, implies_true, State.each_wf, State.on_wf, apply_ite State.wf, apply_ite Res.wf, apply_ite Prod.fst, apply_ite Prod.snd, if_true]

theorem submitFn_wf (a0 : Via) : ∀ s k d, Kept (submitFn a0 s k d).1 s := by
  intro s k d
  unfold submitFn
  intro h
  grind [State.submit_wf, State.dropBuild_wf, wf_next]

theorem submitDone_wf (a0 : Via) : ∀ s k d, Kept (submitDone a0 s k d).1 s := by
  intro s k d
  unfold submitDone
  intro h
  grind [submitFn_wf, State.dropBuild_wf, wf_next]

theorem execFurrowSubmit_wf (a0 : Via) (s : State) : ResKept (execFurrowSubmit a0 s) s := by
  unfold execFurrowSubmit
  intro h
  try dsimp only
  repeat' first
    | with_reducible assumption
    | with_reducible apply State.tblOp_wf
    | with_reducible apply submitDone_wf
    | with_reducible apply State.on_wf
    | with_reducible apply State.each_wf
    | with_reducible apply ite_wf'
    | with_reducible apply ite_reswf'
    | with_reducible apply next_wf
    | (intro _)
    | split

theorem releaseFn_wf  : ∀ s k d, Kept (releaseFn s k d).1 s := by
  intro s k d
  unfold releaseFn
  intro h
  dsimp only
  (repeat' split) <;> simp +contextual only [h, State.takeSeq_wf, State.releaseFrom_wf, wf_next, implies_true, State.each_wf, State.on_wf]

theorem execFurrowRelease_wf (a0 : Via) (s : State) : ResKept (execFurrowRelease a0 s) s := by
  unfold execFurrowRelease
  intro h
  try dsimp only
  repeat' first
    | with_reducible assumption
    | with_reducible apply State.tblOp_wf
    | with_reducible apply releaseFn_wf
    | with_reducible apply State.on_wf
    | with_reducible apply State.each_wf
    | with_reducible apply ite_wf'
    | with_reducible apply ite_reswf'
    | with_reducible apply next_wf
    | (intro _)
    | split

theorem clearFn_wf (a0 : Via) : ∀ s k d, Kept (clearFn a0 s k d).1 s := by
  intro s k d
  unfold clearFn
  intro h
  (repeat' split) <;> simp +contextual only [h, State.takeSeq_wf, State.freeDecided_wf, wf_next, implies_true, State.each_wf, State.on_wf]

theorem execClearOverstay_wf (a0 : Via) (s : State) : ResKept (execClearOverstay a0 s) s := by
  unfold execClearOverstay
  intro h
  try dsimp only
  repeat' first
    | with_reducible assumption
    | with_reducible apply State.tblOp_wf
    | with_reducible apply clearFn_wf
    | with_reducible apply State.on_wf
    | with_reducible apply State.each_wf
    | with_reducible apply ite_wf'
    | with_reducible apply ite_reswf'
    | with_reducible apply next_wf
    | (intro _)
    | split

theorem abandonFn_wf (a0 : Via) : ∀ s k d, Kept (abandonFn a0 s k d).1 s := by
  intro s k d
  unfold abandonFn
  intro h
  (repeat' split) <;> simp +contextual only [h, State.dropBuild_wf, wf_next, implies_true, State.each_wf, State.on_wf]

theorem execAbandon_wf (a0 : Via) (s : State) : ResKept (execAbandon a0 s) s := by
  unfold execAbandon
  intro h
  try dsimp only
  repeat' first
    | with_reducible assumption
    | with_reducible apply State.tblOp_wf
    | with_reducible apply abandonFn_wf
    | with_reducible apply State.on_wf
    | with_reducible apply State.each_wf
    | with_reducible apply ite_wf'
    | with_reducible apply ite_reswf'
    | with_reducible apply next_wf
    | (intro _)
    | split

theorem takeFn_wf (a0 : Via) : ∀ s k d, Kept (takeFn a0 s k d).1 s := by
  intro s k d
  unfold takeFn
  intro h
  try dsimp only
  repeat' first
    | with_reducible assumption
    | with_reducible apply State.takeSeq_wf
    | with_reducible apply State.leaseShow_wf
    | with_reducible apply State.turnShow_wf
    | with_reducible apply State.setTe_wf
    | with_reducible apply State.on_wf
    | with_reducible apply State.each_wf
    | with_reducible apply ite_wf'
    | with_reducible apply ite_reswf'
    | with_reducible apply next_wf
    | (intro _)
    | split

theorem execTurnoutTake_wf (a0 : Via) (s : State) : ResKept (execTurnoutTake a0 s) s := by
  unfold execTurnoutTake
  intro h
  try dsimp only
  repeat' first
    | with_reducible assumption
    | with_reducible apply State.tblOp_wf
    | with_reducible apply takeFn_wf
    | with_reducible apply State.on_wf
    | with_reducible apply State.each_wf
    | with_reducible apply ite_wf'
    | with_reducible apply ite_reswf'
    | with_reducible apply next_wf
    | (intro _)
    | split

theorem State.dropDirect_wf (s : State) (a1 : Nat) : Kept (State.dropDirect s a1) s := by
  unfold State.dropDirect
  intro h
  try dsimp only
  repeat' first
    | with_reducible assumption
    | with_reducible apply State.leaseShow_wf
    | with_reducible apply State.turnShow_wf
    | with_reducible apply State.setTe_wf
    | with_reducible apply State.on_wf
    | with_reducible apply State.each_wf
    | with_reducible apply ite_wf'
    | with_reducible apply ite_reswf'
    | with_reducible apply next_wf
    | (intro _)
    | split

theorem dropFn_wf (a0 : Via) : ∀ s k d, Kept (dropFn a0 s k d).1 s := by
  intro s k d
  unfold dropFn
  intro h
  simp +contextual only [h, State.takeSeq_wf, State.dropDirect_wf, wf_next, ite_self, implies_true, State.each_wf, State.on_wf, apply_ite State.wf, apply_ite Res.wf, apply_ite Prod.fst, apply_ite Prod.snd, if_true]

theorem execTurnoutDrop_wf (a0 : Via) (s : State) : ResKept (execTurnoutDrop a0 s) s := by
  unfold execTurnoutDrop
  intro h
  try dsimp only
  repeat' first
    | with_reducible assumption
    | with_reducible apply State.tblOp_wf
    | with_reducible apply dropFn_wf
    | with_reducible apply State.on_wf
    | with_reducible apply State.each_wf
    | with_reducible apply ite_wf'
    | with_reducible apply ite_reswf'
    | with_reducible apply next_wf
    | (intro _)
    | split

theorem orphanFn_wf (a0 : Via) : ∀ s k d, Kept (orphanFn a0 s k d).1 s := by
  intro s k d
  unfold orphanFn
  intro h
  try dsimp only
  repeat' first
    | with_reducible assumption
    | with_reducible apply State.inc_wf
    | with_reducible apply State.takeSeq_wf
    | with_reducible apply State.leaseShow_wf
    | with_reducible apply State.turnShow_wf
    | with_reducible apply State.leSet_wf
    | with_reducible apply State.freeLock_wf
    | with_reducible apply State.on_wf
    | with_reducible apply State.each_wf
    | with_reducible apply ite_wf'
    | with_reducible apply ite_reswf'
    | with_reducible apply next_wf
    | (intro _)
    | split

theorem execOrphanClear_wf (a0 : Via) (s : State) : ResKept (execOrphanClear a0 s) s := by
  unfold execOrphanClear
  intro h
  try dsimp only
  repeat' first
    | with_reducible assumption
    | with_reducible apply State.tblOp_wf
    | with_reducible apply orphanFn_wf
    | with_reducible apply State.on_wf
    | with_reducible apply State.each_wf
    | with_reducible apply ite_wf'
    | with_reducible apply ite_reswf'
    | with_reducible apply next_wf
    | (intro _)
    | split

theorem State.seqExpire_wf (s : State) (a1 : TblSeq) : Kept (State.seqExpire s a1) s := by
  unfold State.seqExpire
  intro h
  try dsimp only
  repeat' first
    | with_reducible assumption
    | with_reducible apply State.irq_wf
    | with_reducible apply State.inc_wf
    | with_reducible apply State.dropSeq_wf
    | with_reducible apply State.on_wf
    | with_reducible apply State.each_wf
    | with_reducible apply ite_wf'
    | with_reducible apply ite_reswf'
    | with_reducible apply next_wf
    | (intro _)
    | split

theorem State.seqPurge_wf (s : State) : Kept (State.seqPurge s) s := by
  unfold State.seqPurge
  intro h
  try dsimp only
  repeat' first
    | with_reducible assumption
    | with_reducible apply State.seqExpire_wf
    | with_reducible apply State.on_wf
    | with_reducible apply State.each_wf
    | with_reducible apply ite_wf'
    | with_reducible apply ite_reswf'
    | with_reducible apply next_wf
    | (intro _)
    | split

theorem State.seqShow_wf (s : State) : Kept (State.seqShow s) s := by
  unfold State.seqShow
  intro h
  simp +contextual only [h, State.set_wf, wf_next, ite_self, implies_true, State.each_wf, State.on_wf, apply_ite State.wf, apply_ite Res.wf, apply_ite Prod.fst, apply_ite Prod.snd, if_true]

theorem seqOpenFn_wf (a0 : Via) : ∀ s k d, Kept (seqOpenFn a0 s k d).1 s := by
  intro s k d
  unfold seqOpenFn
  intro h
  dsimp only
  (repeat' split) <;> simp +contextual only [h, State.seqPurge_wf, State.seqShow_wf, State.wf_ls, wf_next, implies_true, State.each_wf, State.on_wf]

theorem execSeqOpen_wf (a0 : Via) (s : State) : ResKept (execSeqOpen a0 s) s := by
  unfold execSeqOpen
  intro h
  try dsimp only
  repeat' first
    | with_reducible assumption
    | with_reducible apply State.tblOp_wf
    | with_reducible apply seqOpenFn_wf
    | with_reducible apply State.on_wf
    | with_reducible apply State.each_wf
    | with_reducible apply ite_wf'
    | with_reducible apply ite_reswf'
    | with_reducible apply next_wf
    | (intro _)
    | split

theorem onSeq_wf (via : Via) (f : State → TblSeq → State × TRes) (h : ∀ t q, Kept (f t q).1 t) (s : State)
    (k : List Nat) : Kept (onSeq via f s k).1 s := by
  unfold onSeq
  dsimp only
  split
  · exact State.seqPurge_wf s
  · split
    · exact State.seqPurge_wf s
    · exact (h _ _).trans (State.seqPurge_wf s)

theorem State.setSeq_wf (s : State) (a1 : TblSeq) : Kept (State.setSeq s a1) s := by
  unfold State.setSeq
  intro h
  simp +contextual only [h, State.seqShow_wf, State.wf_ls, wf_next, ite_self, implies_true, State.each_wf, State.on_wf, apply_ite State.wf, apply_ite Res.wf, apply_ite Prod.fst, apply_ite Prod.snd, if_true]

theorem seqStageFn_wf (a0 : Via) : ∀ s k d, Kept (seqStageFn a0 s k d).1 s := by
  intro s k d
  unfold seqStageFn
  intro h
  try dsimp only
  repeat' first
    | with_reducible assumption
    | with_reducible apply onSeq_wf
    | with_reducible apply State.setSeq_wf
    | with_reducible apply State.on_wf
    | with_reducible apply State.each_wf
    | with_reducible apply ite_wf'
    | with_reducible apply ite_reswf'
    | with_reducible apply next_wf
    | (intro _)
    | split

theorem execSeqStage_wf (a0 : Via) (s : State) : ResKept (execSeqStage a0 s) s := by
  unfold execSeqStage
  intro h
  try dsimp only
  repeat' first
    | with_reducible assumption
    | with_reducible apply State.tblOp_wf
    | with_reducible apply seqStageFn_wf
    | with_reducible apply State.on_wf
    | with_reducible apply State.each_wf
    | with_reducible apply ite_wf'
    | with_reducible apply ite_reswf'
    | with_reducible apply next_wf
    | (intro _)
    | split

theorem State.seqStored_wf (s : State) (a1 : TblSeq) : Kept (State.seqStored s a1) s := by
  unfold State.seqStored
  intro h
  try dsimp only
  repeat' first
    | with_reducible assumption
    | with_reducible apply State.storeEntry_wf
    | with_reducible apply State.on_wf
    | with_reducible apply State.each_wf
    | with_reducible apply ite_wf'
    | with_reducible apply ite_reswf'
    | with_reducible apply next_wf
    | (intro _)
    | split

theorem State.leaseRebuilt_wf (s : State) : Kept s.leaseRebuilt s := by
  unfold State.leaseRebuilt
  dsimp only
  refine (State.leaseShow_wf _).trans ((State.each_wf _ _ _ fun t x => State.turnShow_wf t x).trans
    ((State.each_wf _ _ _ fun t x => State.setTe_wf t _ _ _ _).trans (State.each_wf _ _ _ ?_)))
  intro t x
  refine foldl_wf _ (fun (b : State × Nat) => b.1) _ ?_ (t, 0)
  rintro ⟨u, d⟩ i
  exact State.setTe_wf _ _ _ _ _

theorem State.seqFollow_wf (t s : State) (q : TblSeq) : Kept (t.seqFollow s q) t := by
  unfold State.seqFollow
  exact ite_wf ((State.leaseRebuilt_wf _).trans (State.afterGraph_wf _ _)) (State.afterGraph_wf _ _)

theorem State.seqCommit_wf (s : State) (q : TblSeq) : Kept (s.seqCommit q).1 s := by
  unfold State.seqCommit
  dsimp only
  split
  · exact State.inc_wf _ _ _ _
  · exact (State.inc_wf _ _ _ _).trans ((State.dropSeq_wf _ _).trans ((State.seqFollow_wf _ _ _).trans (State.seqStored_wf _ _)))

theorem seqCommitFn_wf (a0 : Via) : ∀ s k d, Kept (seqCommitFn a0 s k d).1 s := by
  intro s k d
  unfold seqCommitFn
  intro h
  try dsimp only
  repeat' first
    | with_reducible assumption
    | with_reducible apply onSeq_wf
    | with_reducible apply State.seqCommit_wf
    | with_reducible apply State.takeSeq_wf
    | with_reducible apply State.on_wf
    | with_reducible apply State.each_wf
    | with_reducible apply ite_wf'
    | with_reducible apply ite_reswf'
    | with_reducible apply next_wf
    | (intro _)
    | split

theorem execSeqCommit_wf (a0 : Via) (s : State) : ResKept (execSeqCommit a0 s) s := by
  unfold execSeqCommit
  intro h
  try dsimp only
  repeat' first
    | with_reducible assumption
    | with_reducible apply State.tblOp_wf
    | with_reducible apply seqCommitFn_wf
    | with_reducible apply State.on_wf
    | with_reducible apply State.each_wf
    | with_reducible apply ite_wf'
    | with_reducible apply ite_reswf'
    | with_reducible apply next_wf
    | (intro _)
    | split

theorem seqDiscardFn_wf (a0 : Via) : ∀ s k d, Kept (seqDiscardFn a0 s k d).1 s := by
  intro s k d
  unfold seqDiscardFn
  intro h
  try dsimp only
  repeat' first
    | with_reducible assumption
    | with_reducible apply onSeq_wf
    | with_reducible apply State.irq_wf
    | with_reducible apply State.dropSeq_wf
    | with_reducible apply State.on_wf
    | with_reducible apply State.each_wf
    | with_reducible apply ite_wf'
    | with_reducible apply ite_reswf'
    | with_reducible apply next_wf
    | (intro _)
    | split

theorem execSeqDiscard_wf (a0 : Via) (s : State) : ResKept (execSeqDiscard a0 s) s := by
  unfold execSeqDiscard
  intro h
  try dsimp only
  repeat' first
    | with_reducible assumption
    | with_reducible apply State.tblOp_wf
    | with_reducible apply seqDiscardFn_wf
    | with_reducible apply State.on_wf
    | with_reducible apply State.each_wf
    | with_reducible apply ite_wf'
    | with_reducible apply ite_reswf'
    | with_reducible apply next_wf
    | (intro _)
    | split

theorem State.releaseHold_wf (s : State) (a1 : Nat) (a2 : Nat) : Kept (State.releaseHold s a1 a2) s := by
  unfold State.releaseHold
  intro h
  try dsimp only
  repeat' first
    | with_reducible assumption
    | with_reducible apply State.mset_wf
    | with_reducible apply State.inc_wf
    | with_reducible apply State.item_wf
    | with_reducible apply State.regCounts_wf
    | with_reducible apply State.on_wf
    | with_reducible apply State.each_wf
    | with_reducible apply ite_wf'
    | with_reducible apply ite_reswf'
    | with_reducible apply next_wf
    | (intro _)
    | split

theorem State.regRelease_wf (s : State) (a1 : List Nat) : Kept (State.regRelease s a1).1 s := by
  unfold State.regRelease
  intro h
  simp +contextual only [h, State.inc_wf, State.releaseHold_wf, wf_next, ite_self, implies_true, State.each_wf, State.on_wf, apply_ite State.wf, apply_ite Res.wf, apply_ite Prod.fst, apply_ite Prod.snd, if_true]

theorem execRegistryRelease_wf (a0 : Via) (s : State) : ResKept (execRegistryRelease a0 s) s := by
  unfold execRegistryRelease
  intro h
  try dsimp only
  repeat' first
    | with_reducible assumption
    | with_reducible apply State.tblOp_wf
    | with_reducible apply now_wf
    | with_reducible apply State.regRelease_wf
    | with_reducible apply State.on_wf
    | with_reducible apply State.each_wf
    | with_reducible apply ite_wf'
    | with_reducible apply ite_reswf'
    | with_reducible apply next_wf
    | (intro _)
    | split

theorem State.regHold_wf (s : State) (a1 : List Nat) : Kept (State.regHold s a1).1 s := by
  unfold State.regHold
  intro h
  simp +contextual only [h, State.regCounts_wf, State.holdMember_wf, wf_next, ite_self, implies_true, State.each_wf, State.on_wf, apply_ite State.wf, apply_ite Res.wf, apply_ite Prod.fst, apply_ite Prod.snd, if_true]

theorem execRegistryHold_wf (a0 : Via) (s : State) : ResKept (execRegistryHold a0 s) s := by
  unfold execRegistryHold
  intro h
  try dsimp only
  repeat' first
    | with_reducible assumption
    | with_reducible apply State.tblOp_wf
    | with_reducible apply now_wf
    | with_reducible apply State.regHold_wf
    | with_reducible apply State.on_wf
    | with_reducible apply State.each_wf
    | with_reducible apply ite_wf'
    | with_reducible apply ite_reswf'
    | with_reducible apply next_wf
    | (intro _)
    | split

theorem State.depart_wf (s : State) (a1 : Nat) : Kept (State.depart s a1) s := by
  unfold State.depart
  intro h
  try dsimp only
  repeat' first
    | with_reducible assumption
    | with_reducible apply State.rtkReset_wf
    | with_reducible apply State.bump_wf
    | with_reducible apply State.setMember_wf
    | with_reducible apply State.regCounts_wf
    | with_reducible apply State.irq_wf
    | with_reducible apply State.inc_wf
    | with_reducible apply State.item_wf
    | with_reducible apply State.on_wf
    | with_reducible apply State.each_wf
    | with_reducible apply ite_wf'
    | with_reducible apply ite_reswf'
    | with_reducible apply next_wf
    | (intro _)
    | split

theorem State.regEvict_wf (s : State) (a1 : Src) (a2 : List Nat) : Kept (State.regEvict s a1 a2).1 s := by
  unfold State.regEvict
  intro h
  simp +contextual only [h, State.queueFrame_wf, State.depart_wf, wf_next, ite_self, implies_true, State.each_wf, State.on_wf, apply_ite State.wf, apply_ite Res.wf, apply_ite Prod.fst, apply_ite Prod.snd, if_true]

theorem execEvict_wf (a0 : Via) (s : State) : ResKept (execEvict a0 s) s := by
  unfold execEvict
  intro h
  try dsimp only
  repeat' first
    | with_reducible assumption
    | with_reducible apply State.tblOp_wf
    | with_reducible apply now_wf
    | with_reducible apply State.regEvict_wf
    | with_reducible apply State.on_wf
    | with_reducible apply State.each_wf
    | with_reducible apply ite_wf'
    | with_reducible apply ite_reswf'
    | with_reducible apply next_wf
    | (intro _)
    | split

theorem State.motShow_wf (s : State) : Kept (State.motShow s) s := by
  unfold State.motShow
  intro h
  try dsimp only
  repeat' first
    | with_reducible assumption
    | with_reducible apply State.set_wf
    | with_reducible apply State.on_wf
    | with_reducible apply State.each_wf
    | with_reducible apply ite_wf'
    | with_reducible apply ite_reswf'
    | with_reducible apply next_wf
    | (intro _)
    | split

theorem State.moveAdd_wf (s : State) (a1 : List Nat) (a2 : Nat) : Kept (State.moveAdd s a1 a2).1 s := by
  unfold State.moveAdd
  intro h
  try dsimp only
  repeat' first
    | with_reducible assumption
    | with_reducible apply State.setMotion_wf
    | with_reducible apply State.setMove_wf
    | with_reducible apply State.motShow_wf
    | with_reducible apply State.inc_wf
    | with_reducible apply State.on_wf
    | with_reducible apply State.each_wf
    | with_reducible apply ite_wf'
    | with_reducible apply ite_reswf'
    | with_reducible apply next_wf
    | (intro _)
    | split

theorem execMoveAdd_wf (a0 : Via) (s : State) : ResKept (execMoveAdd a0 s) s := by
  unfold execMoveAdd
  intro h
  try dsimp only
  repeat' first
    | with_reducible assumption
    | with_reducible apply State.tblOp_wf
    | with_reducible apply now_wf
    | with_reducible apply State.moveAdd_wf
    | with_reducible apply State.on_wf
    | with_reducible apply State.each_wf
    | with_reducible apply ite_wf'
    | with_reducible apply ite_reswf'
    | with_reducible apply next_wf
    | (intro _)
    | split

theorem State.moveFlush_wf (s : State) (a1 : List Nat) : Kept (State.moveFlush s a1).1 s := by
  unfold State.moveFlush
  intro h
  try dsimp only
  repeat' first
    | with_reducible assumption
    | with_reducible apply State.motShow_wf
    | with_reducible apply State.freeMove_wf
    | with_reducible apply State.on_wf
    | with_reducible apply State.each_wf
    | with_reducible apply ite_wf'
    | with_reducible apply ite_reswf'
    | with_reducible apply next_wf
    | (intro _)
    | split

theorem execMoveFlush_wf (a0 : Via) (s : State) : ResKept (execMoveFlush a0 s) s := by
  unfold execMoveFlush
  intro h
  try dsimp only
  repeat' first
    | with_reducible assumption
    | with_reducible apply State.tblOp_wf
    | with_reducible apply now_wf
    | with_reducible apply State.moveFlush_wf
    | with_reducible apply State.on_wf
    | with_reducible apply State.each_wf
    | with_reducible apply ite_wf'
    | with_reducible apply ite_reswf'
    | with_reducible apply next_wf
    | (intro _)
    | split

theorem State.setLimits_wf (s : State) (a1 : List Nat) (a2 : Nat) : Kept (State.setLimits s a1 a2).1 s := by
  unfold State.setLimits
  intro h
  try dsimp only
  repeat' first
    | with_reducible assumption
    | with_reducible apply State.setMotion_wf
    | with_reducible apply State.setMove_wf
    | with_reducible apply State.on_wf
    | with_reducible apply State.each_wf
    | with_reducible apply ite_wf'
    | with_reducible apply ite_reswf'
    | with_reducible apply next_wf
    | (intro _)
    | split

theorem execSetLimits_wf (a0 : Via) (s : State) : ResKept (execSetLimits a0 s) s := by
  unfold execSetLimits
  intro h
  try dsimp only
  repeat' first
    | with_reducible assumption
    | with_reducible apply State.tblOp_wf
    | with_reducible apply now_wf
    | with_reducible apply State.setLimits_wf
    | with_reducible apply State.on_wf
    | with_reducible apply State.each_wf
    | with_reducible apply ite_wf'
    | with_reducible apply ite_reswf'
    | with_reducible apply next_wf
    | (intro _)
    | split

theorem postFn_wf  : ∀ s k d, Kept (postFn s k d).1 s := by
  intro s k d
  rw [postFn.eq_def]
  intro h
  grind [State.offer_wf, wf_next]

theorem execDispatchPost_wf (a0 : Via) (s : State) : ResKept (execDispatchPost a0 s) s := by
  unfold execDispatchPost
  intro h
  try dsimp only
  repeat' first
    | with_reducible assumption
    | with_reducible apply State.tblOp_wf
    | with_reducible apply postFn_wf
    | with_reducible apply State.on_wf
    | with_reducible apply State.each_wf
    | with_reducible apply ite_wf'
    | with_reducible apply ite_reswf'
    | with_reducible apply next_wf
    | (intro _)
    | split

theorem createFn_wf  : ∀ s k d, Kept (createFn s k d).1 s := by
  intro s k d
  unfold createFn
  intro h
  dsimp only
  (repeat' split) <;> simp +contextual only [h, State.inc_wf, State.taskTo_wf, wf_next, implies_true, State.each_wf, State.on_wf]

theorem execTaskCreate_wf (a0 : Via) (s : State) : ResKept (execTaskCreate a0 s) s := by
  unfold execTaskCreate
  intro h
  try dsimp only
  repeat' first
    | with_reducible assumption
    | with_reducible apply State.tblOp_wf
    | with_reducible apply createFn_wf
    | with_reducible apply State.on_wf
    | with_reducible apply State.each_wf
    | with_reducible apply ite_wf'
    | with_reducible apply ite_reswf'
    | with_reducible apply next_wf
    | (intro _)
    | split

theorem onTask_wf (f : State → Nat → State × TRes) (h : ∀ t i, Kept (f t i).1 t) (s : State)
    (k : List Nat) (d : Nat) : Kept (onTask f s k d).1 s := by
  unfold onTask
  dsimp only
  split
  · exact id
  · exact h s _

theorem offerFn_wf  : ∀ s k d, Kept (offerFn s k d).1 s := by
  intro s k d
  unfold offerFn
  intro h
  try dsimp only
  repeat' first
    | with_reducible assumption
    | with_reducible apply onTask_wf
    | with_reducible apply State.taskDeadline_wf
    | with_reducible apply State.taskTo_wf
    | with_reducible apply State.queueDown_wf
    | with_reducible apply State.on_wf
    | with_reducible apply State.each_wf
    | with_reducible apply ite_wf'
    | with_reducible apply ite_reswf'
    | with_reducible apply next_wf
    | (intro _)
    | split

theorem execTaskOffer_wf (a0 : Via) (s : State) : ResKept (execTaskOffer a0 s) s := by
  unfold execTaskOffer
  intro h
  try dsimp only
  repeat' first
    | with_reducible assumption
    | with_reducible apply State.tblOp_wf
    | with_reducible apply offerFn_wf
    | with_reducible apply State.on_wf
    | with_reducible apply State.each_wf
    | with_reducible apply ite_wf'
    | with_reducible apply ite_reswf'
    | with_reducible apply next_wf
    | (intro _)
    | split

theorem State.taskClaim_wf (s : State) (a1 : Nat) (a2 : Nat) : Kept (State.taskClaim s a1 a2).1 s := by
  unfold State.taskClaim
  intro h
  try dsimp only
  repeat' first
    | with_reducible assumption
    | with_reducible apply State.inc_wf
    | with_reducible apply State.taskDeadline_wf
    | with_reducible apply State.taskTo_wf
    | with_reducible apply State.on_wf
    | with_reducible apply State.each_wf
    | with_reducible apply ite_wf'
    | with_reducible apply ite_reswf'
    | with_reducible apply next_wf
    | (intro _)
    | split

theorem execTaskClaim_wf (a0 : Via) (s : State) : ResKept (execTaskClaim a0 s) s := by
  unfold execTaskClaim
  intro h
  try dsimp only
  repeat' first
    | with_reducible assumption
    | with_reducible apply State.tblOp_wf
    | with_reducible apply onTask_wf
    | with_reducible apply State.taskClaim_wf
    | with_reducible apply State.on_wf
    | with_reducible apply State.each_wf
    | with_reducible apply ite_wf'
    | with_reducible apply ite_reswf'
    | with_reducible apply next_wf
    | (intro _)
    | split

theorem State.taskStart_wf (s : State) (a1 : Nat) (a2 : Option Nat) : Kept (State.taskStart s a1 a2).1 s := by
  unfold State.taskStart
  intro h
  try dsimp only
  repeat' first
    | with_reducible assumption
    | with_reducible apply State.taskDeadline_wf
    | with_reducible apply State.setTe_wf
    | with_reducible apply State.taskTo_wf
    | with_reducible apply State.on_wf
    | with_reducible apply State.each_wf
    | with_reducible apply ite_wf'
    | with_reducible apply ite_reswf'
    | with_reducible apply next_wf
    | (intro _)
    | split

theorem execTaskStart_wf (a0 : Via) (s : State) : ResKept (execTaskStart a0 s) s := by
  unfold execTaskStart
  intro h
  try dsimp only
  repeat' first
    | with_reducible assumption
    | with_reducible apply State.tblOp_wf
    | with_reducible apply onTask_wf
    | with_reducible apply State.taskStart_wf
    | with_reducible apply State.on_wf
    | with_reducible apply State.each_wf
    | with_reducible apply ite_wf'
    | with_reducible apply ite_reswf'
    | with_reducible apply next_wf
    | (intro _)
    | split

theorem State.taskFinish_wf (s : State) (a1 : Nat) (a2 : Bool) (a3 : Option (Nat × Nat)) : Kept (State.taskFinish s a1 a2 a3).1 s := by
  unfold State.taskFinish
  intro h
  try dsimp only
  repeat' first
    | with_reducible assumption
    | with_reducible apply State.taskDeadline_wf
    | with_reducible apply State.inc_wf
    | with_reducible apply State.taskTo_wf
    | with_reducible apply State.on_wf
    | with_reducible apply State.each_wf
    | with_reducible apply ite_wf'
    | with_reducible apply ite_reswf'
    | with_reducible apply next_wf
    | (intro _)
    | split

theorem execTaskFinish_wf (a0 : Via) (s : State) : ResKept (execTaskFinish a0 s) s := by
  unfold execTaskFinish
  intro h
  try dsimp only
  repeat' first
    | with_reducible assumption
    | with_reducible apply State.tblOp_wf
    | with_reducible apply onTask_wf
    | with_reducible apply State.taskFinish_wf
    | with_reducible apply State.on_wf
    | with_reducible apply State.each_wf
    | with_reducible apply ite_wf'
    | with_reducible apply ite_reswf'
    | with_reducible apply next_wf
    | (intro _)
    | split

theorem execTaskWithdraw_wf (a0 : Via) (s : State) : ResKept (execTaskWithdraw a0 s) s := by
  unfold execTaskWithdraw
  intro h
  try dsimp only
  repeat' first
    | with_reducible assumption
    | with_reducible apply State.tblOp_wf
    | with_reducible apply onTask_wf
    | with_reducible apply State.taskDeadline_wf
    | with_reducible apply State.taskTo_wf
    | with_reducible apply State.queueDown_wf
    | with_reducible apply State.on_wf
    | with_reducible apply State.each_wf
    | with_reducible apply ite_wf'
    | with_reducible apply ite_reswf'
    | with_reducible apply next_wf
    | (intro _)
    | split

theorem execTaskFree_wf (a0 : Via) (s : State) : ResKept (execTaskFree a0 s) s := by
  unfold execTaskFree
  intro h
  try dsimp only
  repeat' first
    | with_reducible assumption
    | with_reducible apply State.tblOp_wf
    | with_reducible apply onTask_wf
    | with_reducible apply State.setTe_wf
    | with_reducible apply State.taskTo_wf
    | with_reducible apply State.on_wf
    | with_reducible apply State.each_wf
    | with_reducible apply ite_wf'
    | with_reducible apply ite_reswf'
    | with_reducible apply next_wf
    | (intro _)
    | split

theorem State.ksUse_wf (s : State) (a1 : Nat) : Kept (State.ksUse s a1) s := by
  unfold State.ksUse
  intro h
  try dsimp only
  repeat' first
    | with_reducible assumption
    | with_reducible apply State.notice_wf
    | with_reducible apply State.inc_wf
    | with_reducible apply State.ksPut_wf
    | with_reducible apply State.setTe_wf
    | with_reducible apply State.on_wf
    | with_reducible apply State.each_wf
    | with_reducible apply ite_wf'
    | with_reducible apply ite_reswf'
    | with_reducible apply next_wf
    | (intro _)
    | split

theorem ksSignFn_wf (a0 : Src) : ∀ s k d, Kept (ksSignFn a0 s k d).1 s := by
  intro s k d
  unfold ksSignFn
  intro h
  try dsimp only
  repeat' first
    | with_reducible assumption
    | with_reducible apply State.freeSig_wf
    | with_reducible apply State.ksUse_wf
    | with_reducible apply State.inc_wf
    | with_reducible apply State.on_wf
    | with_reducible apply State.each_wf
    | with_reducible apply ite_wf'
    | with_reducible apply ite_reswf'
    | with_reducible apply next_wf
    | (intro _)
    | split

theorem execKsSign_wf (a0 : Via) (s : State) : ResKept (execKsSign a0 s) s := by
  unfold execKsSign
  intro h
  try dsimp only
  repeat' first
    | with_reducible assumption
    | with_reducible apply State.tblOp_wf
    | with_reducible apply ksSignFn_wf
    | with_reducible apply State.on_wf
    | with_reducible apply State.each_wf
    | with_reducible apply ite_wf'
    | with_reducible apply ite_reswf'
    | with_reducible apply next_wf
    | (intro _)
    | split

theorem ksVerifyFn_wf (a0 : Src) (a1 : Bool) : ∀ s k d, Kept (ksVerifyFn a0 a1 s k d).1 s := by
  intro s k d
  unfold ksVerifyFn
  intro h
  dsimp only
  (repeat' split) <;> simp +contextual only [h, State.ksUse_wf, State.inc_wf, wf_next, implies_true, State.each_wf, State.on_wf]

theorem execKsVerify_wf (a0 : Via) (a1 : Bool) (s : State) : ResKept (execKsVerify a0 a1 s) s := by
  unfold execKsVerify
  intro h
  try dsimp only
  repeat' first
    | with_reducible assumption
    | with_reducible apply State.tblOp_wf
    | with_reducible apply ksVerifyFn_wf
    | with_reducible apply State.on_wf
    | with_reducible apply State.each_wf
    | with_reducible apply ite_wf'
    | with_reducible apply ite_reswf'
    | with_reducible apply next_wf
    | (intro _)
    | split

theorem ksDeriveFn_wf (a0 : Src) : ∀ s k d, Kept (ksDeriveFn a0 s k d).1 s := by
  intro s k d
  unfold ksDeriveFn
  intro h
  try dsimp only
  repeat' first
    | with_reducible assumption
    | with_reducible apply State.free256_wf
    | with_reducible apply State.ksPut_wf
    | with_reducible apply State.ksUse_wf
    | with_reducible apply State.inc_wf
    | with_reducible apply State.on_wf
    | with_reducible apply State.each_wf
    | with_reducible apply ite_wf'
    | with_reducible apply ite_reswf'
    | with_reducible apply next_wf
    | (intro _)
    | split

theorem execKsDerive_wf (a0 : Via) (s : State) : ResKept (execKsDerive a0 s) s := by
  unfold execKsDerive
  intro h
  try dsimp only
  repeat' first
    | with_reducible assumption
    | with_reducible apply State.tblOp_wf
    | with_reducible apply ksDeriveFn_wf
    | with_reducible apply State.on_wf
    | with_reducible apply State.each_wf
    | with_reducible apply ite_wf'
    | with_reducible apply ite_reswf'
    | with_reducible apply next_wf
    | (intro _)
    | split

theorem State.tblStart_wf (s : State) (via : Via) (p : Page) (opcode table i : Nat) : Kept (s.tblStart via p opcode table i) s := by
  unfold State.tblStart
  dsimp only
  split
  · exact ite_wf (Res.state_wf _ _ (execSluiceBankClear_wf _ _ _ _)) (State.tblGo_wf _ _ _ _ _ _)
  · exact Res.state_wf _ _ (execRouteRepack_wf _ _)
  · exact Res.state_wf _ _ (execFurrowOpen_wf _ _)
  · exact Res.state_wf _ _ (execFurrowSteps_wf _ _)
  · exact Res.state_wf _ _ (execFurrowSubmit_wf _ _)
  · exact Res.state_wf _ _ (execFurrowRelease_wf _ _)
  · exact Res.state_wf _ _ (execClearOverstay_wf _ _)
  · exact Res.state_wf _ _ (execAbandon_wf _ _)
  · exact Res.state_wf _ _ (execTurnoutTake_wf _ _)
  · exact Res.state_wf _ _ (execTurnoutDrop_wf _ _)
  · exact Res.state_wf _ _ (execOrphanClear_wf _ _)
  · exact Res.state_wf _ _ (execSeqOpen_wf _ _)
  · exact Res.state_wf _ _ (execSeqStage_wf _ _)
  · exact Res.state_wf _ _ (execSeqCommit_wf _ _)
  · exact Res.state_wf _ _ (execSeqDiscard_wf _ _)
  · exact Res.state_wf _ _ (execRegistryRelease_wf _ _)
  · exact Res.state_wf _ _ (execRegistryHold_wf _ _)
  · exact Res.state_wf _ _ (execEvict_wf _ _)
  · exact Res.state_wf _ _ (execMoveAdd_wf _ _)
  · exact Res.state_wf _ _ (execMoveFlush_wf _ _)
  · exact Res.state_wf _ _ (execSetLimits_wf _ _)
  · exact Res.state_wf _ _ (execDispatchPost_wf _ _)
  · exact Res.state_wf _ _ (execTaskCreate_wf _ _)
  · exact Res.state_wf _ _ (execTaskOffer_wf _ _)
  · exact Res.state_wf _ _ (execTaskClaim_wf _ _)
  · exact Res.state_wf _ _ (execTaskStart_wf _ _)
  · exact Res.state_wf _ _ (execTaskFinish_wf _ _)
  · exact Res.state_wf _ _ (execTaskWithdraw_wf _ _)
  · exact Res.state_wf _ _ (execTaskFree_wf _ _)
  · exact Res.state_wf _ _ (execKsSign_wf _ _)
  · exact (Res.state_wf _ _ (execKsVerify_wf _ _ _)).trans (State.free_wf _)
  · exact Res.state_wf _ _ (execKsDerive_wf _ _)
  · exact State.tblGo_wf _ _ _ _ _ _

theorem State.cmdRec_wf (s : State) (a1 : Nat) (a2 : List Nat) : Kept (State.cmdRec s a1 a2) s := by
  unfold State.cmdRec
  intro h
  dsimp only
  (repeat' split) <;> simp +contextual only [h, State.tblStart_wf, State.cmdDone_wf, wf_next, implies_true, State.each_wf, State.on_wf]

theorem State.dirWrite_wf (s : State) (a1 : DirCopy) : Kept (State.dirWrite s a1) s := by
  unfold State.dirWrite
  intro h
  simp +contextual only [h, State.set_wf, State.wf_boot, wf_next, ite_self, implies_true, State.each_wf, State.on_wf, apply_ite State.wf, apply_ite Res.wf, apply_ite Prod.fst, apply_ite Prod.snd, if_true]

theorem State.fuseStart_wf (s : State) (a1 : FuseJob) : Kept (State.fuseStart s a1) s := by
  unfold State.fuseStart
  intro h
  try dsimp only
  repeat' first
    | with_reducible assumption
    | with_reducible apply State.sysEvent_wf
    | with_reducible apply State.foundNow_wf
    | with_reducible apply State.set_wf
    | with_reducible apply State.on_wf
    | with_reducible apply State.each_wf
    | with_reducible apply ite_wf'
    | with_reducible apply ite_reswf'
    | with_reducible apply next_wf
    | simp only [State.wf_key]
    | (intro _)
    | split

theorem State.commit_wf (s : State) (a1 : Nat) : Kept (State.commit s a1) s := by
  unfold State.commit
  intro h
  try dsimp only
  repeat' first
    | with_reducible assumption
    | with_reducible apply State.dirWrite_wf
    | with_reducible apply State.set_wf
    | with_reducible apply State.fuseStart_wf
    | with_reducible apply State.on_wf
    | with_reducible apply State.each_wf
    | with_reducible apply ite_wf'
    | with_reducible apply ite_reswf'
    | with_reducible apply next_wf
    | simp only [State.wf_key]
    | (intro _)
    | split

theorem State.repaired_wf (t : State) (k w : Nat) : Kept { t with tbl := AMap.set tblReset t.tbl k w } t :=
  State.keep_tbl t _ (AMap.wf_set _ _ _ _)
theorem State.compareShadow_wf (s : State) (i : Nat) : Kept (s.compareShadow i) s := by
  have h : Kept ((s.inc C.ROUTE_SHADOW_MISMATCH).notice pRT I.ROUTE_MISMATCH i) s := (State.notice_wf _ _ _ _ _ _ _).trans (State.inc_wf _ _ _ _)
  unfold State.compareShadow
  generalize (s.inc C.ROUTE_SHADOW_MISMATCH).notice pRT I.ROUTE_MISMATCH i = t at h
  refine ite_wf id (ite_wf id (ite_wf ?_ ?_))
  · exact (State.routeShow_wf _).trans ((State.inc_wf _ _ _ _).trans ((State.repaired_wf t _ _).trans h))
  · exact Kept.trans (t := t.set F.RT_STATUS_MODE_NOW 0) id ((State.set_wf _ _ _ _ _).trans h)

theorem State.conform_wf (s : State) (a1 : Nat) (a2 : Nat) (a3 : List Int) (a4 : Nat) : Kept (State.conform s a1 a2 a3 a4) s := by
  unfold State.conform
  intro h
  try dsimp only
  repeat' first
    | with_reducible assumption
    | with_reducible apply State.setMotion_wf
    | with_reducible apply State.mset_wf
    | with_reducible apply State.inc_wf
    | with_reducible apply State.regCounts_wf
    | with_reducible apply State.holdMember_wf
    | with_reducible apply State.notice_wf
    | with_reducible apply State.on_wf
    | with_reducible apply State.each_wf
    | with_reducible apply ite_wf'
    | with_reducible apply ite_reswf'
    | with_reducible apply next_wf
    | (intro _)
    | split

theorem State.spoofLatch_wf (s : State) : Kept (State.spoofLatch s) s := by
  unfold State.spoofLatch
  intro h
  simp +contextual only [h, State.notice_wf, State.set_wf, wf_next, ite_self, implies_true, State.each_wf, State.on_wf, apply_ite State.wf, apply_ite Res.wf, apply_ite Prod.fst, apply_ite Prod.snd, if_true]

theorem State.consist_wf (s : State) (a1 : List MeasRec) (a2 : List SigGeom) : Kept (State.consist s a1 a2) s := by
  unfold State.consist
  intro h
  try dsimp only
  repeat' first
    | with_reducible assumption
    | with_reducible apply State.setActive_wf
    | with_reducible apply State.set_wf
    | with_reducible apply State.spoofLatch_wf
    | with_reducible apply State.on_wf
    | with_reducible apply State.each_wf
    | with_reducible apply ite_wf'
    | with_reducible apply ite_reswf'
    | with_reducible apply next_wf
    | simp only [State.wf_gn]
    | (intro _)
    | split

theorem State.corrDrop_wf (s : State) (a1 : Ctr) (a2 : Nat) : Kept (State.corrDrop s a1 a2) s := by
  unfold State.corrDrop
  intro h
  simp +contextual only [h, State.irq_wf, State.inc_wf, wf_next, ite_self, implies_true, State.each_wf, State.on_wf, apply_ite State.wf, apply_ite Res.wf, apply_ite Prod.fst, apply_ite Prod.snd, if_true]

theorem State.corrAge_wf (s : State) (a1 : Nat) (a2 : Nat) : Kept (State.corrAge s a1 a2) s := by
  unfold State.corrAge
  intro h
  dsimp only
  (repeat' split) <;> simp +contextual only [h, State.corrDrop_wf, State.wf_rtk, wf_next, implies_true, State.each_wf, State.on_wf]

theorem State.hostSeen_wf (s : State) : Kept (State.hostSeen s) s := by
  unfold State.hostSeen
  intro h
  simp +contextual only [h, State.set_wf, State.wf_lk, wf_next, ite_self, implies_true, State.each_wf, State.on_wf, apply_ite State.wf, apply_ite Res.wf, apply_ite Prod.fst, apply_ite Prod.snd, if_true]

theorem State.takeCredit_wf (s : State) (a1 : Credit) : Kept (State.takeCredit s a1) s := by
  unfold State.takeCredit
  intro h
  simp +contextual only [h, State.qPump_wf, State.setQ_wf, wf_next, ite_self, implies_true, State.each_wf, State.on_wf, apply_ite State.wf, apply_ite Res.wf, apply_ite Prod.fst, apply_ite Prod.snd, if_true]

theorem State.hostRoom_wf (s : State) : Kept (State.hostRoom s) s := by
  unfold State.hostRoom
  intro h
  try dsimp only
  repeat' first
    | with_reducible assumption
    | with_reducible apply State.traceDrain_wf
    | with_reducible apply State.qWaits_wf
    | with_reducible apply State.releaseFlow_wf
    | with_reducible apply State.on_wf
    | with_reducible apply State.each_wf
    | with_reducible apply ite_wf'
    | with_reducible apply ite_reswf'
    | with_reducible apply next_wf
    | (intro _)
    | split

theorem State.markStall_wf (s : State) (a1 : Nat) : Kept (State.markStall s a1) s := by
  unfold State.markStall
  intro h
  simp +contextual only [h, State.setQ_wf, wf_next, ite_self, implies_true, State.each_wf, State.on_wf, apply_ite State.wf, apply_ite Res.wf, apply_ite Prod.fst, apply_ite Prod.snd, if_true]

theorem State.creditRx_wf (s : State) (a1 : Nat) (a2 : List Credit) : Kept (State.creditRx s a1 a2) s := by
  unfold State.creditRx
  intro h
  try dsimp only
  repeat' first
    | with_reducible assumption
    | with_reducible apply State.inc_wf
    | with_reducible apply State.hostSeen_wf
    | with_reducible apply State.takeCredit_wf
    | with_reducible apply State.hostRoom_wf
    | with_reducible apply State.markStall_wf
    | with_reducible apply State.on_wf
    | with_reducible apply State.each_wf
    | with_reducible apply ite_wf'
    | with_reducible apply ite_reswf'
    | with_reducible apply next_wf
    | (intro _)
    | split

theorem State.sendImages_wf (s : State) (a1 : Nat) (a2 : Nat) (a3 : List Image) (a4 : Bool) : Kept (State.sendImages s a1 a2 a3 a4) s := by
  unfold State.sendImages
  intro h
  try dsimp only
  repeat' first
    | with_reducible assumption
    | with_reducible apply State.pairSend_wf
    | with_reducible apply State.on_wf
    | with_reducible apply State.each_wf
    | with_reducible apply ite_wf'
    | with_reducible apply ite_reswf'
    | with_reducible apply next_wf
    | (intro _)
    | split

theorem State.pairCut_wf (s : State) : Kept (State.pairCut s) s := by
  unfold State.pairCut
  intro h
  try dsimp only
  repeat' first
    | with_reducible assumption
    | with_reducible apply State.set_wf
    | with_reducible apply State.pairSend_wf
    | with_reducible apply State.sendImages_wf
    | with_reducible apply State.sendStopState_wf
    | with_reducible apply State.inc_wf
    | with_reducible apply State.on_wf
    | with_reducible apply State.each_wf
    | with_reducible apply ite_wf'
    | with_reducible apply ite_reswf'
    | with_reducible apply next_wf
    | simp only [State.wf_pair]
    | (intro _)
    | split

theorem State.deltaAcked_wf (s : State) (a1 : Nat) : Kept (State.deltaAcked s a1) s := by
  unfold State.deltaAcked
  intro h
  try dsimp only
  repeat' first
    | with_reducible assumption
    | with_reducible apply State.tryCommit_wf
    | with_reducible apply State.on_wf
    | with_reducible apply State.each_wf
    | with_reducible apply ite_wf'
    | with_reducible apply ite_reswf'
    | with_reducible apply next_wf
    | simp only [State.wf_ls]
    | (intro _)
    | split

theorem State.cutAtBoundary_wf (s : State) : Kept (State.cutAtBoundary s) s := by
  unfold State.cutAtBoundary
  intro h
  simp +contextual only [h, State.pairCut_wf, State.deltaAcked_wf, wf_next, ite_self, implies_true, State.each_wf, State.on_wf, apply_ite State.wf, apply_ite Res.wf, apply_ite Prod.fst, apply_ite Prod.snd, if_true]

theorem State.dbgObserve_wf (s : State) : Kept (State.dbgObserve s) s := by
  unfold State.dbgObserve
  intro h
  simp +contextual only [h, State.dbgOpen_wf, State.dbgResult_wf, wf_next, ite_self, implies_true, State.each_wf, State.on_wf, apply_ite State.wf, apply_ite Res.wf, apply_ite Prod.fst, apply_ite Prod.snd, if_true]

theorem State.debugHalt_wf (s : State) (a1 : Nat) (a2 : Nat) : Kept (State.debugHalt s a1 a2) s := by
  unfold State.debugHalt
  intro h
  simp +contextual only [h, State.recompute_wf, State.set_wf, State.supUnhalt_wf, State.preempt_wf, State.wf_dbg, wf_next, ite_self, implies_true, State.each_wf, State.on_wf, apply_ite State.wf, apply_ite Res.wf, apply_ite Prod.fst, apply_ite Prod.snd, if_true]

theorem State.decidePast_wf (s : State) : Kept (State.decidePast s) s := by
  unfold State.decidePast
  intro h
  try dsimp only
  repeat' first
    | with_reducible assumption
    | with_reducible apply State.taskDeadlines_wf
    | with_reducible apply State.stepDue_wf
    | with_reducible apply State.on_wf
    | with_reducible apply State.each_wf
    | with_reducible apply ite_wf'
    | with_reducible apply ite_reswf'
    | with_reducible apply next_wf
    | (intro _)
    | split

theorem State.run_wf (s : State) (f : State → Res) (h : ∀ t, ResKept (f t) t) : Kept (s.run f) s := Res.state_wf s _ (h s)

theorem State.pairData_wf (s : State) (a1 : PairMsg) : Kept (State.pairData s a1) s := by
  unfold State.pairData
  intro h
  grind [State.inc_wf, State.set_wf, State.wf_pair, wf_next]

theorem execPairDataRx_wf (a0 : PairMsg) (s : State) : ResKept (execPairDataRx a0 s) s := by
  unfold execPairDataRx
  intro h
  simp +contextual only [h, State.readyShow_wf, State.pairData_wf, wf_next, ite_self, implies_true, State.each_wf, State.on_wf, apply_ite State.wf, apply_ite Res.wf, apply_ite Prod.fst, apply_ite Prod.snd, if_true]

theorem State.noteTrailer_wf (s : State) (a1 : Nat) (a2 : Nat) (a3 : Bool) : Kept (State.noteTrailer s a1 a2 a3) s := by
  unfold State.noteTrailer
  intro h
  simp +contextual only [h, State.wf_ls, wf_next, ite_self, implies_true, State.each_wf, State.on_wf, apply_ite State.wf, apply_ite Res.wf, apply_ite Prod.fst, apply_ite Prod.snd, if_true]

theorem State.followTables_wf (s : State) : Kept (State.followTables s) s := by
  unfold State.followTables
  intro h
  try dsimp only
  repeat' first
    | with_reducible assumption
    | with_reducible apply State.noteTrailer_wf
    | with_reducible apply State.portInfo_wf
    | with_reducible apply State.leaseShow_wf
    | with_reducible apply State.regCounts_wf
    | with_reducible apply State.on_wf
    | with_reducible apply State.each_wf
    | with_reducible apply ite_wf'
    | with_reducible apply ite_reswf'
    | with_reducible apply next_wf
    | simp only [State.wf_ls]
    | (intro _)
    | split

theorem State.switchFinish_wf (s : State) (a1 : DeltaRec) : Kept (State.switchFinish s a1) s := by
  unfold State.switchFinish
  intro h
  try dsimp only
  repeat' first
    | with_reducible assumption
    | with_reducible apply State.bumpSources_wf
    | with_reducible apply State.followTables_wf
    | with_reducible apply State.applyImage_wf
    | with_reducible apply State.setMotion_wf
    | with_reducible apply State.takeZone_wf
    | with_reducible apply State.on_wf
    | with_reducible apply State.each_wf
    | with_reducible apply ite_wf'
    | with_reducible apply ite_reswf'
    | with_reducible apply next_wf
    | simp only [State.wf_pair_ls]
    | (intro _)
    | split

theorem State.warmApply_wf (s : State) : Kept (State.warmApply s) s := by
  unfold State.warmApply
  intro h
  grind [State.followTables_wf, State.applyContent_wf, wf_next]

theorem State.takeDelta_wf (s : State) (a1 : PairMsg) (a2 : DeltaRec) (a3 : List DeltaRec) : Kept (State.takeDelta s a1 a2 a3) s := by
  unfold State.takeDelta
  intro h
  try dsimp only
  repeat' first
    | with_reducible assumption
    | with_reducible apply State.inc_wf
    | with_reducible apply State.set_wf
    | with_reducible apply State.switchFinish_wf
    | with_reducible apply State.warmApply_wf
    | with_reducible apply State.pairSend_wf
    | with_reducible apply State.on_wf
    | with_reducible apply State.each_wf
    | with_reducible apply ite_wf'
    | with_reducible apply ite_reswf'
    | with_reducible apply next_wf
    | simp only [State.wf_pair]
    | (intro _)
    | split

theorem execPairCutRx_wf (a0 : PairMsg) (s : State) : ResKept (execPairCutRx a0 s) s := by
  unfold execPairCutRx
  intro h
  simp +contextual only [h, State.readyShow_wf, State.takeDelta_wf, State.wf_pair, wf_next, ite_self, implies_true, State.each_wf, State.on_wf, apply_ite State.wf, apply_ite Res.wf, apply_ite Prod.fst, apply_ite Prod.snd, if_true]

theorem execPairAckRx_wf (a0 : Nat) (s : State) : ResKept (execPairAckRx a0 s) s := by
  unfold execPairAckRx
  intro h
  try dsimp only
  repeat' first
    | with_reducible assumption
    | with_reducible apply State.set_wf
    | with_reducible apply State.tryCommit_wf
    | with_reducible apply State.on_wf
    | with_reducible apply State.each_wf
    | with_reducible apply ite_wf'
    | with_reducible apply ite_reswf'
    | with_reducible apply next_wf
    | simp only [State.wf_pair, State.wf_pair_ls]
    | (intro _)
    | split

theorem execStopStateRx_wf (a0 : Nat) (a1 : Nat) (a2 : Nat) (s : State) : ResKept (execStopStateRx a0 a1 a2 s) s := by
  unfold execStopStateRx
  intro h
  try dsimp only
  repeat' first
    | with_reducible assumption
    | with_reducible apply State.set_wf
    | with_reducible apply State.raiseCause_wf
    | with_reducible apply State.clearCauses_wf
    | with_reducible apply State.disarm_wf
    | with_reducible apply State.on_wf
    | with_reducible apply State.each_wf
    | with_reducible apply ite_wf'
    | with_reducible apply ite_reswf'
    | with_reducible apply next_wf
    | (intro _)
    | split

theorem State.ksMove_wf (s : State) (a1 : Nat) (a2 : Nat) : Kept (State.ksMove s a1 a2) s := by
  unfold State.ksMove
  intro h
  simp +contextual only [h, State.ksPut_wf, wf_next, ite_self, implies_true, State.each_wf, State.on_wf, apply_ite State.wf, apply_ite Res.wf, apply_ite Prod.fst, apply_ite Prod.snd, if_true]

theorem State.graceBegin_wf (s : State) (a1 : List Nat) : Kept (State.graceBegin s a1) s := by
  unfold State.graceBegin
  intro h
  simp +contextual only [h, State.wf_air, wf_next, ite_self, implies_true, State.each_wf, State.on_wf, apply_ite State.wf, apply_ite Res.wf, apply_ite Prod.fst, apply_ite Prod.snd, if_true]

theorem State.hgLoadKey_wf (s : State) (a1 : Nat) : Kept (State.hgLoadKey s a1) s := by
  unfold State.hgLoadKey
  intro h
  try dsimp only
  repeat' first
    | with_reducible assumption
    | with_reducible apply State.set_wf
    | with_reducible apply State.rebuildSets_wf
    | with_reducible apply State.on_wf
    | with_reducible apply State.each_wf
    | with_reducible apply ite_wf'
    | with_reducible apply ite_reswf'
    | with_reducible apply next_wf
    | simp only [State.wf_hg]
    | (intro _)
    | split

theorem State.rotateKeys_wf (s : State) : Kept (State.rotateKeys s) s := by
  unfold State.rotateKeys
  intro h
  try dsimp only
  repeat' first
    | with_reducible assumption
    | with_reducible apply State.zeroise_wf
    | with_reducible apply State.ksMove_wf
    | with_reducible apply State.graceBegin_wf
    | with_reducible apply State.setLink_wf
    | with_reducible apply State.setTe_wf
    | with_reducible apply State.set_wf
    | with_reducible apply State.hgLoadKey_wf
    | with_reducible apply State.irq_wf
    | with_reducible apply State.inc_wf
    | with_reducible apply State.on_wf
    | with_reducible apply State.each_wf
    | with_reducible apply ite_wf'
    | with_reducible apply ite_reswf'
    | with_reducible apply next_wf
    | (intro _)
    | split

theorem execPairStatusRx_wf (a0 : PairMsg) (s : State) : ResKept (execPairStatusRx a0 s) s := by
  unfold execPairStatusRx
  intro h
  simp +contextual only [h, State.rotateKeys_wf, State.readyShow_wf, State.wf_pair, wf_next, ite_self, implies_true, State.each_wf, State.on_wf, apply_ite State.wf, apply_ite Res.wf, apply_ite Prod.fst, apply_ite Prod.snd, if_true]

theorem execHandoverRx_wf (s : State) : ResKept (execHandoverRx s) s := by
  unfold execHandoverRx
  intro h
  simp +contextual only [h, State.wf_pair, wf_next, ite_self, implies_true, State.each_wf, State.on_wf, apply_ite State.wf, apply_ite Res.wf, apply_ite Prod.fst, apply_ite Prod.snd, if_true]

theorem State.switchStart_wf (s : State) : Kept (State.switchStart s) s := by
  unfold State.switchStart
  intro h
  simp +contextual only [h, State.pairSend_wf, State.set_wf, wf_next, ite_self, implies_true, State.each_wf, State.on_wf, apply_ite State.wf, apply_ite Res.wf, apply_ite Prod.fst, apply_ite Prod.snd, if_true]

theorem execSwitchReqRx_wf (s : State) : ResKept (execSwitchReqRx s) s := by
  unfold execSwitchReqRx
  intro h
  simp +contextual only [h, State.pairSend_wf, State.switchStart_wf, State.wf_pair, wf_next, ite_self, implies_true, State.each_wf, State.on_wf, apply_ite State.wf, apply_ite Res.wf, apply_ite Prod.fst, apply_ite Prod.snd, if_true]

theorem execSwitchRx_wf (a0 : Nat) (s : State) : ResKept (execSwitchRx a0 s) s := by
  unfold execSwitchRx
  intro h
  simp +contextual only [h, State.set_wf, State.wf_pair, wf_next, ite_self, implies_true, State.each_wf, State.on_wf, apply_ite State.wf, apply_ite Res.wf, apply_ite Prod.fst, apply_ite Prod.snd, if_true]

theorem execResyncRx_wf (s : State) : ResKept (execResyncRx s) s := by
  unfold execResyncRx
  intro h
  simp +contextual only [h, State.readyShow_wf, State.inc_wf, State.wf_pair, wf_next, ite_self, implies_true, State.each_wf, State.on_wf, apply_ite State.wf, apply_ite Res.wf, apply_ite Prod.fst, apply_ite Prod.snd, if_true]

theorem State.pairRx_wf (s : State) (a1 : PairMsg) : Kept (State.pairRx s a1) s := by
  unfold State.pairRx
  intro h
  try dsimp only
  repeat' first
    | with_reducible assumption
    | with_reducible apply State.run_wf
    | with_reducible apply execPairDataRx_wf
    | with_reducible apply execPairCutRx_wf
    | with_reducible apply execPairAckRx_wf
    | with_reducible apply execStopStateRx_wf
    | with_reducible apply execPairStatusRx_wf
    | with_reducible apply execHandoverRx_wf
    | with_reducible apply execSwitchReqRx_wf
    | with_reducible apply execSwitchRx_wf
    | with_reducible apply execResyncRx_wf
    | with_reducible apply State.on_wf
    | with_reducible apply State.each_wf
    | with_reducible apply ite_wf'
    | with_reducible apply ite_reswf'
    | with_reducible apply next_wf
    | (intro _)
    | split

theorem execPrepareRx_wf (a0 : LeaseMsg) (s : State) : ResKept (execPrepareRx a0 s) s := by
  unfold execPrepareRx
  intro h
  grind [State.inc_wf, State.sendLease_wf, State.takeSeq_wf, State.writeFurrow_wf, State.leaseShow_wf, State.wf_ls, wf_next]

theorem execVoteRx_wf (a0 : LeaseMsg) (s : State) : ResKept (execVoteRx a0 s) s := by
  unfold execVoteRx
  intro h
  try dsimp only
  repeat' first
    | with_reducible assumption
    | with_reducible apply State.abortXfer_wf
    | with_reducible apply State.advance_wf
    | with_reducible apply State.setXfer_wf
    | with_reducible apply State.on_wf
    | with_reducible apply State.each_wf
    | with_reducible apply ite_wf'
    | with_reducible apply ite_reswf'
    | with_reducible apply next_wf
    | (intro _)
    | split

theorem execCommitRx_wf (a0 : LeaseMsg) (s : State) : ResKept (execCommitRx a0 s) s := by
  unfold execCommitRx
  intro h
  try dsimp only
  repeat' first
    | with_reducible assumption
    | with_reducible apply State.awaitDelta_wf
    | with_reducible apply State.leSet_wf
    | with_reducible apply State.takeSeq_wf
    | with_reducible apply State.leaseShow_wf
    | with_reducible apply State.ackLease_wf
    | with_reducible apply State.on_wf
    | with_reducible apply State.each_wf
    | with_reducible apply ite_wf'
    | with_reducible apply ite_reswf'
    | with_reducible apply next_wf
    | simp only [State.wf_ls]
    | (intro _)
    | split

theorem execCommitAckRx_wf (a0 : LeaseMsg) (s : State) : ResKept (execCommitAckRx a0 s) s := by
  unfold execCommitAckRx
  intro h
  try dsimp only
  repeat' first
    | with_reducible assumption
    | with_reducible apply State.abortXfer_wf
    | with_reducible apply State.setXfer_wf
    | with_reducible apply State.leSet_wf
    | with_reducible apply State.takeSeq_wf
    | with_reducible apply State.grantDone_wf
    | with_reducible apply State.leaseShow_wf
    | with_reducible apply State.complHeld_wf
    | with_reducible apply State.on_wf
    | with_reducible apply State.each_wf
    | with_reducible apply ite_wf'
    | with_reducible apply ite_reswf'
    | with_reducible apply next_wf
    | simp only [State.wf_ls]
    | (intro _)
    | split

theorem execCommittedRx_wf (a0 : LeaseMsg) (s : State) : ResKept (execCommittedRx a0 s) s := by
  unfold execCommittedRx
  intro h
  dsimp only
  (repeat' split) <;> simp +contextual only [h, State.setXfer_wf, State.tryCommit_wf, wf_next, implies_true, State.each_wf, State.on_wf]

theorem State.dropPart_wf (s : State) (a1 : Nat) : Kept (State.dropPart s a1) s := by
  unfold State.dropPart
  intro h
  simp +contextual only [h, State.wf_ls, wf_next, ite_self, implies_true, State.each_wf, State.on_wf, apply_ite State.wf, apply_ite Res.wf, apply_ite Prod.fst, apply_ite Prod.snd, if_true]

theorem execAbortRx_wf (a0 : LeaseMsg) (s : State) : ResKept (execAbortRx a0 s) s := by
  unfold execAbortRx
  intro h
  try dsimp only
  repeat' first
    | with_reducible assumption
    | with_reducible apply State.dropPart_wf
    | with_reducible apply State.freeFurrow_wf
    | with_reducible apply State.takeSeq_wf
    | with_reducible apply State.ackLease_wf
    | with_reducible apply State.on_wf
    | with_reducible apply State.each_wf
    | with_reducible apply ite_wf'
    | with_reducible apply ite_reswf'
    | with_reducible apply next_wf
    | (intro _)
    | split

theorem execLeaseReleaseRx_wf (a0 : LeaseMsg) (s : State) : ResKept (execLeaseReleaseRx a0 s) s := by
  unfold execLeaseReleaseRx
  intro h
  try dsimp only
  repeat' first
    | with_reducible assumption
    | with_reducible apply State.takeSeq_wf
    | with_reducible apply State.freeLe_wf
    | with_reducible apply State.relock_wf
    | with_reducible apply State.ackLease_wf
    | with_reducible apply State.leaseShow_wf
    | with_reducible apply State.rechain_wf
    | with_reducible apply State.on_wf
    | with_reducible apply State.each_wf
    | with_reducible apply ite_wf'
    | with_reducible apply ite_reswf'
    | with_reducible apply next_wf
    | (intro _)
    | split

theorem execStepDoneRx_wf (a0 : LeaseMsg) (s : State) : ResKept (execStepDoneRx a0 s) s := by
  unfold execStepDoneRx
  intro h
  (repeat' split) <;> simp +contextual only [h, State.freeDecided_wf, State.ackLease_wf, wf_next, implies_true, State.each_wf, State.on_wf]

theorem execStepOverstayRx_wf (a0 : LeaseMsg) (s : State) : ResKept (execStepOverstayRx a0 s) s := by
  unfold execStepOverstayRx
  intro h
  (repeat' split) <;> simp +contextual only [h, State.toOverstay_wf, State.ackLease_wf, wf_next, implies_true, State.each_wf, State.on_wf]

theorem execTakeoverRx_wf (a0 : LeaseMsg) (s : State) : ResKept (execTakeoverRx a0 s) s := by
  unfold execTakeoverRx
  intro h
  try dsimp only
  repeat' first
    | with_reducible assumption
    | with_reducible apply State.dropPart_wf
    | with_reducible apply State.freeFurrow_wf
    | with_reducible apply State.takeSeq_wf
    | with_reducible apply State.sendLease_wf
    | with_reducible apply State.on_wf
    | with_reducible apply State.each_wf
    | with_reducible apply ite_wf'
    | with_reducible apply ite_reswf'
    | with_reducible apply next_wf
    | (intro _)
    | split

theorem State.leaseRx_wf (s : State) (a1 : LeaseMsg) : Kept (State.leaseRx s a1) s := by
  unfold State.leaseRx
  intro h
  try dsimp only
  repeat' first
    | with_reducible assumption
    | with_reducible apply State.run_wf
    | with_reducible apply execPrepareRx_wf
    | with_reducible apply execVoteRx_wf
    | with_reducible apply execCommitRx_wf
    | with_reducible apply execCommitAckRx_wf
    | with_reducible apply execCommittedRx_wf
    | with_reducible apply execAbortRx_wf
    | with_reducible apply execLeaseReleaseRx_wf
    | with_reducible apply execStepDoneRx_wf
    | with_reducible apply execStepOverstayRx_wf
    | with_reducible apply execTakeoverRx_wf
    | with_reducible apply State.on_wf
    | with_reducible apply State.each_wf
    | with_reducible apply ite_wf'
    | with_reducible apply ite_reswf'
    | with_reducible apply next_wf
    | (intro _)
    | split

theorem State.windowWrite_wf (s : State) (a1 : Src) (a2 : Page) (a3 : Nat) (a4 : Nat) : Kept (State.windowWrite s a1 a2 a3 a4) s := by
  unfold State.windowWrite
  intro h
  simp +contextual only [h, State.tblStart_wf, State.setReg_wf, wf_next, ite_self, implies_true, State.each_wf, State.on_wf, apply_ite State.wf, apply_ite Res.wf, apply_ite Prod.fst, apply_ite Prod.snd, if_true]

theorem State.regWrite_wf (s : State) (w : RegWr) (x : WrExt) : Kept (s.regWrite w x) s := by
  unfold State.regWrite
  split
  · rename_i heq
    exact State.bufferWrite_wf _ _ _ heq
  · exact ite_wf (State.refuseCfg_wf _ _) ((State.applyWrite_wf _ _ _).trans (ite_wf (State.refuseRwl_wf _ _ _ _) id))

theorem State.plainWrite_wf (s : State) (a1 : Src) (a2 : Nat) (a3 : Nat) (a4 : WrExt) : Kept (State.plainWrite s a1 a2 a3 a4) s := by
  unfold State.plainWrite
  intro h
  dsimp only
  (repeat' split) <;> simp +contextual only [h, State.gapHold_wf, State.inc_wf, State.unmapped_wf, State.coldWrite_wf, State.windowWrite_wf, State.regWrite_wf, wf_next, implies_true, State.each_wf, State.on_wf]

theorem State.tunSend_wf (s : State) (a1 : TunAccess) : Kept (State.tunSend s a1) s := by
  unfold State.tunSend
  intro h
  simp +contextual only [h, State.canalUnicast_wf, State.wf_canal, wf_next, ite_self, implies_true, State.each_wf, State.on_wf, apply_ite State.wf, apply_ite Res.wf, apply_ite Prod.fst, apply_ite Prod.snd, if_true]

theorem State.tunPump_wf (s : State) : Kept (State.tunPump s) s := by
  unfold State.tunPump
  intro h
  try dsimp only
  repeat' first
    | with_reducible assumption
    | with_reducible apply State.tunSend_wf
    | with_reducible apply State.on_wf
    | with_reducible apply State.each_wf
    | with_reducible apply ite_wf'
    | with_reducible apply ite_reswf'
    | with_reducible apply next_wf
    | simp only [State.wf_canal]
    | (intro _)
    | split

theorem State.regRx_wf (s : State) (a1 : CanalMsg) (a2 : WrExt) : Kept (State.regRx s a1 a2) s := by
  unfold State.regRx
  intro h
  dsimp only
  (repeat' split) <;> simp +contextual only [h, State.canalUnicast_wf, State.plainWrite_wf, State.busRead_wf, State.inc_wf, State.tunPump_wf, State.emit_wf, State.wf_canal, wf_next, implies_true, State.each_wf, State.on_wf]

theorem State.zoneFrame_wf (s : State) (a1 : Nat) (a2 : List Nat) : Kept (State.zoneFrame s a1 a2) s := by
  unfold State.zoneFrame
  intro h
  simp +contextual only [h, State.canalUnicast_wf, State.inc_wf, wf_next, ite_self, implies_true, State.each_wf, State.on_wf, apply_ite State.wf, apply_ite Res.wf, apply_ite Prod.fst, apply_ite Prod.snd, if_true]

theorem State.denyFrame_wf (s : State) (a1 : Nat) : Kept (State.denyFrame s a1) s := by
  unfold State.denyFrame
  intro h
  simp +contextual only [h, State.qevent_wf, State.setQ_wf, wf_next, ite_self, implies_true, State.each_wf, State.on_wf, apply_ite State.wf, apply_ite Res.wf, apply_ite Prod.fst, apply_ite Prod.snd, if_true]

theorem State.malformed_wf (s : State) : Kept (State.malformed s) s := by
  unfold State.malformed
  intro h
  simp +contextual only [h, State.inc_wf, wf_next, ite_self, implies_true, State.each_wf, State.on_wf, apply_ite State.wf, apply_ite Res.wf, apply_ite Prod.fst, apply_ite Prod.snd, if_true]

theorem State.setPart_wf (s : State) (a1 : Nat) (a2 : List Nat) : Kept (State.setPart s a1 a2) s := by
  unfold State.setPart
  intro h
  simp +contextual only [h, State.setQ_wf, State.wf_lk, wf_next, ite_self, implies_true, State.each_wf, State.on_wf, apply_ite State.wf, apply_ite Res.wf, apply_ite Prod.fst, apply_ite Prod.snd, if_true]

theorem postRecFn_wf (a0 : Nat) (a1 : Nat) (a2 : Nat) (a3 : Nat) (a4 : List Nat) : ∀ s k d, Kept (postRecFn a0 a1 a2 a3 a4 s k d).1 s := by
  intro s k d
  unfold postRecFn
  intro h
  grind [State.offer_wf, wf_next]

theorem State.postRec_wf (s : State) (a1 : Nat) (a2 : List Nat) : Kept (State.postRec s a1 a2) s := by
  unfold State.postRec
  intro h
  try dsimp only
  repeat' first
    | with_reducible assumption
    | with_reducible apply State.malformed_wf
    | with_reducible apply State.tblOp_wf
    | with_reducible apply postRecFn_wf
    | with_reducible apply State.on_wf
    | with_reducible apply State.each_wf
    | with_reducible apply ite_wf'
    | with_reducible apply ite_reswf'
    | with_reducible apply next_wf
    | (intro _)
    | split

theorem State.freeBytes_wf (s : State) (n : Nat) : Kept (s.freeBytes n).2 s := by
  induction n generalizing s with
  | zero => exact id
  | succ n ih => exact (ih _).trans (State.free_wf s)

theorem State.partBytes_wf (s : State) (a1 : Nat) (a2 : Nat) (a3 : Nat) : Kept (State.partBytes s a1 a2 a3).2 s := by
  unfold State.partBytes
  intro h
  simp +contextual only [h, State.freeBytes_wf, wf_next, ite_self, implies_true, State.each_wf, State.on_wf, apply_ite State.wf, apply_ite Res.wf, apply_ite Prod.fst, apply_ite Prod.snd, if_true]

theorem State.dramMet_wf (s : State) (a1 : Nat) (a2 : Nat) : Kept (State.dramMet s a1 a2) s := by
  unfold State.dramMet
  intro h
  try dsimp only
  repeat' first
    | with_reducible assumption
    | with_reducible apply State.blockError_wf
    | with_reducible apply State.inc_wf
    | with_reducible apply State.on_wf
    | with_reducible apply State.each_wf
    | with_reducible apply ite_wf'
    | with_reducible apply ite_reswf'
    | with_reducible apply next_wf
    | (intro _)
    | split

theorem State.readTurn_wf (s : State) : Kept (State.readTurn s) s := by
  unfold State.readTurn
  intro h
  try dsimp only
  repeat' first
    | with_reducible assumption
    | with_reducible apply State.cmdDone_wf
    | with_reducible apply State.partBytes_wf
    | with_reducible apply State.dramMet_wf
    | with_reducible apply State.qPush_wf
    | with_reducible apply State.on_wf
    | with_reducible apply State.each_wf
    | with_reducible apply ite_wf'
    | with_reducible apply ite_reswf'
    | with_reducible apply next_wf
    | simp only [State.wf_lk]
    | (intro _)
    | split

theorem State.readPump_wf (s : State) : Kept (State.readPump s) s := by
  unfold State.readPump
  intro h
  try dsimp only
  repeat' first
    | with_reducible assumption
    | with_reducible apply State.readTurn_wf
    | with_reducible apply State.on_wf
    | with_reducible apply State.each_wf
    | with_reducible apply ite_wf'
    | with_reducible apply ite_reswf'
    | with_reducible apply next_wf
    | (intro _)
    | split

theorem State.dramReadRec_wf (s : State) (a1 : Nat) (a2 : List Nat) : Kept (State.dramReadRec s a1 a2) s := by
  unfold State.dramReadRec
  intro h
  simp +contextual only [h, State.cmdDone_wf, State.readPump_wf, State.wf_lk, wf_next, ite_self, implies_true, State.each_wf, State.on_wf, apply_ite State.wf, apply_ite Res.wf, apply_ite Prod.fst, apply_ite Prod.snd, if_true]

theorem State.dramWriteRec_wf (s : State) (a1 : List Nat) : Kept (State.dramWriteRec s a1) s := by
  unfold State.dramWriteRec
  intro h
  simp +contextual only [h, State.dramWrite_wf, State.cmdDone_wf, wf_next, ite_self, implies_true, State.each_wf, State.on_wf, apply_ite State.wf, apply_ite Res.wf, apply_ite Prod.fst, apply_ite Prod.snd, if_true]

theorem State.ptpTx_wf (s : State) (a1 : Nat) (a2 : Nat) (a3 : Nat) (a4 : Nat) (a5 : Bool) (a6 : optParam (List Nat) []) : Kept (State.ptpTx s a1 a2 a3 a4 a5 a6) s := by
  unfold State.ptpTx
  intro h
  try dsimp only
  repeat' first
    | with_reducible assumption
    | with_reducible apply State.inc_wf
    | with_reducible apply State.emit_wf
    | with_reducible apply State.firstInSecond_wf
    | with_reducible apply State.noticeCtr_wf
    | with_reducible apply State.setTxts_wf
    | with_reducible apply State.on_wf
    | with_reducible apply State.each_wf
    | with_reducible apply ite_wf'
    | with_reducible apply ite_reswf'
    | with_reducible apply next_wf
    | (intro _)
    | split

theorem State.ptpRec_wf (s : State) (a1 : List Nat) : Kept (State.ptpRec s a1) s := by
  unfold State.ptpRec
  intro h
  simp +contextual only [h, State.ptpTx_wf, wf_next, ite_self, implies_true, State.each_wf, State.on_wf, apply_ite State.wf, apply_ite Res.wf, apply_ite Prod.fst, apply_ite Prod.snd, if_true]

theorem State.runRec_wf (s : State) (a1 : Nat) (a2 : Nat) (a3 : List Nat) : Kept (State.runRec s a1 a2 a3) s := by
  unfold State.runRec
  intro h
  (repeat' split) <;> simp +contextual only [h, State.cmdRec_wf, State.malformed_wf, State.postRec_wf, State.dramReadRec_wf, State.dramWriteRec_wf, State.ptpRec_wf, wf_next, implies_true, State.each_wf, State.on_wf]

theorem State.fragRec_wf (s : State) (a1 : Nat) (a2 : Nat × Nat × List Nat) : Kept (State.fragRec s a1 a2) s := by
  unfold State.fragRec
  intro h
  try dsimp only
  repeat' first
    | with_reducible assumption
    | with_reducible apply State.malformed_wf
    | with_reducible apply State.setPart_wf
    | with_reducible apply State.runRec_wf
    | with_reducible apply State.on_wf
    | with_reducible apply State.each_wf
    | with_reducible apply ite_wf'
    | with_reducible apply ite_reswf'
    | with_reducible apply next_wf
    | (intro _)
    | split

theorem State.flumeData_wf (s : State) (a1 : Nat) (a2 : Nat) (a3 : Nat) (a4 : List (Nat × Nat × List Nat)) : Kept (State.flumeData s a1 a2 a3 a4) s := by
  unfold State.flumeData
  intro h
  try dsimp only
  repeat' first
    | with_reducible assumption
    | with_reducible apply State.denyFrame_wf
    | with_reducible apply State.inc_wf
    | with_reducible apply State.hostSeen_wf
    | with_reducible apply State.wantCredit_wf
    | with_reducible apply State.setQ_wf
    | with_reducible apply State.fragRec_wf
    | with_reducible apply State.on_wf
    | with_reducible apply State.each_wf
    | with_reducible apply ite_wf'
    | with_reducible apply ite_reswf'
    | with_reducible apply next_wf
    | (intro _)
    | split

theorem State.flumeIn_wf (s : State) (a1 : List Nat) (a2 : ImgSeen) : Kept (State.flumeIn s a1 a2) s := by
  unfold State.flumeIn
  intro h
  dsimp only
  (repeat' split) <;> simp +contextual only [h, State.inc_wf, State.chunkRx_wf, State.zoneFrame_wf, State.flumeData_wf, State.creditRx_wf, wf_next, implies_true, State.each_wf, State.on_wf]

theorem State.setAge_wf (s : State) (i v : Nat) : Kept (s.setAge i v) s := State.keep_tbl s _ (AMap.wf_set _ _ _ _)

theorem State.routeLookup_wf (s : State) (a1 : Nat) : Kept (State.routeLookup s a1).2 s := by
  unfold State.routeLookup
  intro h
  try dsimp only
  repeat' first
    | with_reducible assumption
    | with_reducible apply State.inc_wf
    | with_reducible apply State.setAge_wf
    | with_reducible apply State.on_wf
    | with_reducible apply State.each_wf
    | with_reducible apply ite_wf'
    | with_reducible apply ite_reswf'
    | with_reducible apply next_wf
    | (intro _)
    | split

theorem State.wayTo_wf (s : State) (a1 : Nat) : Kept (State.wayTo s a1).2 s := by
  rw [State.wayTo.eq_def]
  intro h
  grind [State.inc_wf, State.routeLookup_wf, wf_next]

theorem State.downRx_wf (s : State) (a1 : Nat) (a2 : List Nat) : Kept (State.downRx s a1 a2) s := by
  unfold State.downRx
  intro h
  grind [State.queueFrame_wf, State.wayTo_wf, State.inc_wf, State.canalUnicast_wf, wf_next]

theorem State.deliver_wf (s : State) (a1 : CanalMsg) (a2 : WrExt) : Kept (State.deliver s a1 a2) s := by
  fun_cases State.deliver <;> intro h <;> simp_all [State.pairRx_wf, State.leaseRx_wf, State.regRx_wf, State.bulkOut_wf, State.flumeIn_wf, State.inc_wf, State.downRx_wf, Kept]

theorem State.disagreeHold_wf (s : State) (a1 : Nat) (a2 : Option (Nat × Nat × Nat)) : Kept (State.disagreeHold s a1 a2) s := by
  fun_cases State.disagreeHold <;> intro h <;> simp +contextual only [h, State.regCounts_wf, State.holdMember_wf, wf_next, implies_true, State.each_wf, State.on_wf]

theorem State.disagreeNote_wf (s : State) (a1 : Nat) (a2 : Option (Nat × Nat × Nat)) : Kept (State.disagreeNote s a1 a2) s := by
  rw [State.disagreeNote.eq_def]
  intro h
  grind [State.notice_wf, State.inc_wf, State.noticeCtr_wf, wf_next]

theorem State.setSum_wf (s : State) (a1 : Nat) (a2 : ChanSum) : Kept (State.setSum s a1 a2) s := by
  unfold State.setSum
  intro h
  simp +contextual only [h, State.wf_met, wf_next, ite_self, implies_true, State.each_wf, State.on_wf, apply_ite State.wf, apply_ite Res.wf, apply_ite Prod.fst, apply_ite Prod.snd, if_true]

theorem State.dockAdd_wf (s : State) (a1 : MeterWin) (a2 : Bool) (a3 : Nat) (a4 : DockWin) : Kept (State.dockAdd s a1 a2 a3 a4).1 s := by
  unfold State.dockAdd
  intro h
  try dsimp only
  repeat' first
    | with_reducible assumption
    | with_reducible apply State.setDock_wf
    | with_reducible apply State.setSum_wf
    | with_reducible apply State.totalsShow_wf
    | with_reducible apply State.on_wf
    | with_reducible apply State.each_wf
    | with_reducible apply ite_wf'
    | with_reducible apply ite_reswf'
    | with_reducible apply next_wf
    | (intro _)
    | split

theorem State.putDown_wf (s : State) (a1 : Nat) (a2 : DownFrame) : Kept (State.putDown s a1 a2) s := by
  unfold State.putDown
  intro h
  simp +contextual only [h, State.wf_air, wf_next, ite_self, implies_true, State.each_wf, State.on_wf, apply_ite State.wf, apply_ite Res.wf, apply_ite Prod.fst, apply_ite Prod.snd, if_true]

theorem State.sendDown_wf (s : State) (a1 : Nat) (a2 : Nat) (a3 : Nat) (a4 : DownFrame) (a5 : Nat) (a6 : Option Nat) : Kept (State.sendDown s a1 a2 a3 a4 a5 a6) s := by
  unfold State.sendDown
  intro h
  try dsimp only
  repeat' first
    | with_reducible assumption
    | with_reducible apply State.wayTo_wf
    | with_reducible apply State.takeNums_wf
    | with_reducible apply State.putAir_wf
    | with_reducible apply State.inc_wf
    | with_reducible apply State.putDown_wf
    | with_reducible apply State.on_wf
    | with_reducible apply State.each_wf
    | with_reducible apply ite_wf'
    | with_reducible apply ite_reswf'
    | with_reducible apply next_wf
    | (intro _)
    | split

theorem State.entryRun_wf (s : State) (a1 : Nat) (a2 : Nat) : Kept (State.entryRun s a1 a2) s := by
  unfold State.entryRun
  intro h
  simp +contextual only [h, State.wf_air, wf_next, ite_self, implies_true, State.each_wf, State.on_wf, apply_ite State.wf, apply_ite Res.wf, apply_ite Prod.fst, apply_ite Prod.snd, if_true]

theorem State.downOne_wf (p e g lead : Nat) (acc : State × Option Nat) (i : Nat) : Kept (State.downOne p e g lead acc i).1 acc.1 := by
  obtain ⟨s, off⟩ := acc
  unfold State.downOne
  intro h
  dsimp only at h ⊢
  repeat' first
    | with_reducible assumption
    | with_reducible apply State.putDown_wf
    | with_reducible apply State.canalUnicast_wf
    | with_reducible apply State.wayTo_wf
    | with_reducible apply State.sendDown_wf
    | split

theorem State.downNext_wf (s : State) (p i e lead : Nat) : Kept (s.downNext p i e lead) s := by
  have hf (acc : State × Option Nat) (l : List Nat) : Kept (l.foldl (State.downOne p e (slMember e / 64) lead) acc).1 acc.1 :=
    foldl_wf l (fun b => b.1) _ (fun b x => State.downOne_wf p e _ lead b x) acc
  unfold State.downNext
  dsimp only
  split
  · exact (State.setPort_wf _ _ _).trans (hf (s, none) _)
  · exact (State.entryRun_wf _ _ _).trans ((State.setPort_wf _ _ _).trans (hf (s, none) _))

theorem State.dramClear_wf (s : State) : Kept s.dramClear s := State.keep_dram s [] fun _ => rfl

theorem State.dramGap_wf (s : State) (a1 : Nat) : Kept (State.dramGap s a1) s := by
  unfold State.dramGap
  intro h
  simp +contextual only [h, State.enterFault_wf, wf_next, ite_self, implies_true, State.each_wf, State.on_wf, apply_ite State.wf, apply_ite Res.wf, apply_ite Prod.fst, apply_ite Prod.snd, if_true]

theorem State.drawNonce_wf (s : State) : Kept (State.drawNonce s) s := by
  unfold State.drawNonce
  intro h
  try dsimp only
  repeat' first
    | with_reducible assumption
    | with_reducible apply State.free_wf
    | with_reducible apply State.set_wf
    | with_reducible apply State.on_wf
    | with_reducible apply State.each_wf
    | with_reducible apply ite_wf'
    | with_reducible apply ite_reswf'
    | with_reducible apply next_wf
    | simp only [State.wf_key]
    | (intro _)
    | split

theorem State.selectSrc_wf (s : State) (a1 : Nat) : Kept (State.selectSrc s a1) s := by
  unfold State.selectSrc
  intro h
  try dsimp only
  repeat' first
    | with_reducible assumption
    | with_reducible apply State.irq_wf
    | with_reducible apply State.set_wf
    | with_reducible apply State.on_wf
    | with_reducible apply State.each_wf
    | with_reducible apply ite_wf'
    | with_reducible apply ite_reswf'
    | with_reducible apply next_wf
    | simp only [State.wf_tm]
    | (intro _)
    | split

theorem State.endSlew_wf (s : State) : Kept (State.endSlew s) s := by
  unfold State.endSlew
  intro h
  simp +contextual only [h, State.set_wf, State.wf_tm, wf_next, ite_self, implies_true, State.each_wf, State.on_wf, apply_ite State.wf, apply_ite Res.wf, apply_ite Prod.fst, apply_ite Prod.snd, if_true]

theorem State.toHoldover_wf (s : State) : Kept (State.toHoldover s) s := by
  unfold State.toHoldover
  intro h
  try dsimp only
  repeat' first
    | with_reducible assumption
    | with_reducible apply State.endSlew_wf
    | with_reducible apply State.irq_wf
    | with_reducible apply State.recompute_wf
    | with_reducible apply State.set_wf
    | with_reducible apply State.on_wf
    | with_reducible apply State.each_wf
    | with_reducible apply ite_wf'
    | with_reducible apply ite_reswf'
    | with_reducible apply next_wf
    | simp only [State.wf_tm]
    | (intro _)
    | split

theorem State.loseSource_wf (s : State) : Kept (State.loseSource s) s := by
  unfold State.loseSource
  intro h
  (repeat' split) <;> simp +contextual only [h, State.acceptE_wf, State.selectSrc_wf, State.toHoldover_wf, wf_next, implies_true, State.each_wf, State.on_wf]

theorem State.dropSource_wf (s : State) (a1 : Nat) : Kept (State.dropSource s a1) s := by
  unfold State.dropSource
  intro h
  simp +contextual only [h, State.loseSource_wf, State.wf_tm, wf_next, ite_self, implies_true, State.each_wf, State.on_wf, apply_ite State.wf, apply_ite Res.wf, apply_ite Prod.fst, apply_ite Prod.snd, if_true]

theorem State.emitCredit_wf (s : State) (a1 : Nat) (a2 : Nat) (a3 : Nat) (a4 : List Credit) : Kept (State.emitCredit s a1 a2 a3 a4) s := by
  unfold State.emitCredit
  intro h
  simp +contextual only [h, State.emit_wf, wf_next, ite_self, implies_true, State.each_wf, State.on_wf, apply_ite State.wf, apply_ite Res.wf, apply_ite Prod.fst, apply_ite Prod.snd, if_true]

theorem State.emitResult_wf (s : State) (a1 : Nat) (a2 : Nat) (a3 : Nat) : Kept (State.emitResult s a1 a2 a3) s := by
  unfold State.emitResult
  intro h
  simp +contextual only [h, State.wf_disp, wf_next, ite_self, implies_true, State.each_wf, State.on_wf, apply_ite State.wf, apply_ite Res.wf, apply_ite Prod.fst, apply_ite Prod.snd, if_true]

theorem State.emptyBank_wf (s : State) (a1 : Nat) : Kept (State.emptyBank s a1) s := by
  unfold State.emptyBank
  intro h
  simp +contextual only [h, State.dirWrite_wf, wf_next, ite_self, implies_true, State.each_wf, State.on_wf, apply_ite State.wf, apply_ite Res.wf, apply_ite Prod.fst, apply_ite Prod.snd, if_true]

theorem State.endGrace_wf (s : State) : Kept (State.endGrace s) s := by
  unfold State.endGrace
  intro h
  grind [State.zeroise_wf, State.wf_air, wf_next]

theorem State.stagingDrain_wf (s : State) : Kept (State.stagingDrain s) s := by
  unfold State.stagingDrain
  intro h
  try dsimp only
  repeat' first
    | with_reducible assumption
    | with_reducible apply State.toCirc_wf
    | with_reducible apply State.on_wf
    | with_reducible apply State.each_wf
    | with_reducible apply ite_wf'
    | with_reducible apply ite_reswf'
    | with_reducible apply next_wf
    | simp only [State.wf_ev]
    | (intro _)
    | split

theorem State.joinBurst_wf (s : State) (a1 : Nat) : Kept (State.joinBurst s a1) s := by
  unfold State.joinBurst
  intro h
  dsimp only
  (repeat' split) <;> simp +contextual only [h, State.rebuildSets_wf, State.wf_hg, wf_next, implies_true, State.each_wf, State.on_wf]

theorem State.routeStart_wf (s : State) (restart : Bool) : Kept (s.routeStart restart) s := by
  unfold State.routeStart
  intro h
  have h0 : ∀ r : RouteSt, ({ s with rt := r } : State).wf = true := fun r => by
    rw [State.wf_rt]
    exact h
  refine ite_wf' ?_ ?_ <;> with_reducible apply State.routeShow_wf
  · with_reducible apply State.each_wf
    · intro t i
      exact State.repaired_wf t _ _
    · exact h0 _
  · exact h0 _

theorem State.sendAllVecs_wf (s : State) : Kept (State.sendAllVecs s) s := by
  unfold State.sendAllVecs
  intro h
  try dsimp only
  repeat' first
    | with_reducible assumption
    | with_reducible apply State.sendVec_wf
    | with_reducible apply State.on_wf
    | with_reducible apply State.each_wf
    | with_reducible apply ite_wf'
    | with_reducible apply ite_reswf'
    | with_reducible apply next_wf
    | (intro _)
    | split

theorem State.meterStart_wf (s : State) : Kept (State.meterStart s) s := by
  unfold State.meterStart
  intro h
  simp +contextual only [h, State.wf_met, wf_next, ite_self, implies_true, State.each_wf, State.on_wf, apply_ite State.wf, apply_ite Res.wf, apply_ite Prod.fst, apply_ite Prod.snd, if_true]

theorem State.onHook_wf (s : State) (a1 : Page) (a2 : Bool) : Kept (State.onHook s a1 a2) s := by
  unfold State.onHook
  intro h
  try dsimp only
  repeat' first
    | with_reducible assumption
    | with_reducible apply State.joinBurst_wf
    | with_reducible apply State.setPort_wf
    | with_reducible apply State.irq_wf
    | with_reducible apply State.relayMaps_wf
    | with_reducible apply State.routeStart_wf
    | with_reducible apply State.hgLoadKey_wf
    | with_reducible apply State.sendAllVecs_wf
    | with_reducible apply State.gnssBlock_wf
    | with_reducible apply State.rtkShow_wf
    | with_reducible apply State.set_wf
    | with_reducible apply State.canalTrain_wf
    | with_reducible apply State.meterStart_wf
    | with_reducible apply State.extDrain_wf
    | with_reducible apply State.qPump_wf
    | with_reducible apply State.preempt_wf
    | with_reducible apply State.drainBacklog_wf
    | with_reducible apply State.setArb_wf
    | with_reducible apply State.on_wf
    | with_reducible apply State.each_wf
    | with_reducible apply ite_wf'
    | with_reducible apply ite_reswf'
    | with_reducible apply next_wf
    | simp only [State.wf_vecSent]
    | (intro _)
    | split

theorem State.enterOn_wf (s : State) (a1 : Page) : Kept (State.enterOn s a1) s := by
  unfold State.enterOn
  intro h
  try dsimp only
  repeat' first
    | with_reducible assumption
    | with_reducible apply State.setP_wf
    | with_reducible apply State.enterFault_wf
    | with_reducible apply State.goState_wf
    | with_reducible apply State.setPage_wf
    | with_reducible apply State.recompute_wf
    | with_reducible apply State.stagingDrain_wf
    | with_reducible apply State.onHook_wf
    | with_reducible apply State.on_wf
    | with_reducible apply State.each_wf
    | with_reducible apply ite_wf'
    | with_reducible apply ite_reswf'
    | with_reducible apply next_wf
    | (intro _)
    | split

theorem State.enumOn_wf (s : State) (a1 : Nat) (a2 : Nat) : Kept (State.enumOn s a1 a2) s := by
  unfold State.enumOn
  intro h
  simp +contextual only [h, State.ctrlOut_wf, wf_next, ite_self, implies_true, State.each_wf, State.on_wf, apply_ite State.wf, apply_ite Res.wf, apply_ite Prod.fst, apply_ite Prod.snd, if_true]

theorem State.enumStart_wf (s : State) : Kept (State.enumStart s) s := by
  unfold State.enumStart
  intro h
  try dsimp only
  repeat' first
    | with_reducible assumption
    | with_reducible apply State.set_wf
    | with_reducible apply State.ctrlOut_wf
    | with_reducible apply State.on_wf
    | with_reducible apply State.each_wf
    | with_reducible apply ite_wf'
    | with_reducible apply ite_reswf'
    | with_reducible apply next_wf
    | simp only [State.wf_canal]
    | (intro _)
    | split

theorem State.flumePort_wf (s : State) (a1 : List Nat) (a2 : ImgSeen) : Kept (State.flumePort s a1 a2) s := by
  unfold State.flumePort
  intro h
  simp +contextual only [h, State.inc_wf, State.flumeIn_wf, wf_next, ite_self, implies_true, State.each_wf, State.on_wf, apply_ite State.wf, apply_ite Res.wf, apply_ite Prod.fst, apply_ite Prod.snd, if_true]

theorem State.xoff_wf (s : State) (a1 : Nat) : Kept (State.xoff s a1) s := by
  unfold State.xoff
  intro h
  try dsimp only
  repeat' first
    | with_reducible assumption
    | with_reducible apply State.inc_wf
    | with_reducible apply State.emit_wf
    | with_reducible apply State.set_wf
    | with_reducible apply State.setEth_wf
    | with_reducible apply State.on_wf
    | with_reducible apply State.each_wf
    | with_reducible apply ite_wf'
    | with_reducible apply ite_reswf'
    | with_reducible apply next_wf
    | (intro _)
    | split

theorem State.ptpRx_wf (s : State) (a1 : Nat) (a2 : Nat) (a3 : EthFrame) : Kept (State.ptpRx s a1 a2 a3) s := by
  unfold State.ptpRx
  intro h
  simp +contextual only [h, State.qPush_wf, State.xoff_wf, State.setEth_wf, State.emit_wf, State.wf_tm, wf_next, ite_self, implies_true, State.each_wf, State.on_wf, apply_ite State.wf, apply_ite Res.wf, apply_ite Prod.fst, apply_ite Prod.snd, if_true]

theorem State.ethDrain_wf (s : State) (a1 : Nat) (a2 : ImgSeen) : Kept (State.ethDrain s a1 a2) s := by
  unfold State.ethDrain
  intro h
  try dsimp only
  repeat' first
    | with_reducible assumption
    | with_reducible apply State.setEth_wf
    | with_reducible apply State.flumePort_wf
    | with_reducible apply State.ptpRx_wf
    | with_reducible apply State.on_wf
    | with_reducible apply State.each_wf
    | with_reducible apply ite_wf'
    | with_reducible apply ite_reswf'
    | with_reducible apply next_wf
    | (intro _)
    | split

theorem State.ethTake_wf (s : State) (a1 : Nat) (a2 : EthFrame) : Kept (State.ethTake s a1 a2).1 s := by
  unfold State.ethTake
  intro h
  simp +contextual only [h, State.inc_wf, wf_next, ite_self, implies_true, State.each_wf, State.on_wf, apply_ite State.wf, apply_ite Res.wf, apply_ite Prod.fst, apply_ite Prod.snd, if_true]

theorem State.stepMarks_wf (s : State) (a1 : Int) : Kept (State.stepMarks s a1) s := by
  unfold State.stepMarks
  intro h
  simp +contextual only [h, State.wf_canal_hg_air_rtk_rt_clk_met, wf_next, ite_self, implies_true, State.each_wf, State.on_wf, apply_ite State.wf, apply_ite Res.wf, apply_ite Prod.fst, apply_ite Prod.snd, if_true]

theorem State.stepFrames_wf (s : State) (a1 : Int) : Kept (State.stepFrames s a1) s := by
  unfold State.stepFrames
  intro h
  simp +contextual only [h, State.wf_air, wf_next, ite_self, implies_true, State.each_wf, State.on_wf, apply_ite State.wf, apply_ite Res.wf, apply_ite Prod.fst, apply_ite Prod.snd, if_true]

theorem State.stepTime_wf (s : State) (a1 : Int) (a2 : Nat) : Kept (State.stepTime s a1 a2) s := by
  unfold State.stepTime
  intro h
  try dsimp only
  repeat' first
    | with_reducible assumption
    | with_reducible apply State.inc_wf
    | with_reducible apply State.set_wf
    | with_reducible apply State.sysEvent_wf
    | with_reducible apply State.stepMarks_wf
    | with_reducible apply State.stepFrames_wf
    | with_reducible apply State.on_wf
    | with_reducible apply State.each_wf
    | with_reducible apply ite_wf'
    | with_reducible apply ite_reswf'
    | with_reducible apply next_wf
    | simp only [State.wf_ft, State.wf_sup_gn_tm]
    | (intro _)
    | split

theorem State.firstStep_wf (s : State) (a1 : Nat) (a2 : Int) : Kept (State.firstStep s a1 a2) s := by
  unfold State.firstStep
  intro h
  try dsimp only
  repeat' first
    | with_reducible assumption
    | with_reducible apply State.stepTime_wf
    | with_reducible apply State.recompute_wf
    | with_reducible apply State.acceptE_wf
    | with_reducible apply State.selectSrc_wf
    | with_reducible apply State.set_wf
    | with_reducible apply State.on_wf
    | with_reducible apply State.each_wf
    | with_reducible apply ite_wf'
    | with_reducible apply ite_reswf'
    | with_reducible apply next_wf
    | (intro _)
    | split

theorem State.flitsFreed_wf (s : State) (a1 : Nat) (a2 : CanalMsg) : Kept (State.flitsFreed s a1 a2) s := by
  unfold State.flitsFreed
  intro h
  simp +contextual only [h, State.setCport_wf, wf_next, ite_self, implies_true, State.each_wf, State.on_wf, apply_ite State.wf, apply_ite Res.wf, apply_ite Prod.fst, apply_ite Prod.snd, if_true]

theorem State.floodSee_wf (s : State) (a1 : Nat) (a2 : Nat) : Kept (State.floodSee s a1 a2).2 s := by
  unfold State.floodSee
  intro h
  try dsimp only
  repeat' first
    | with_reducible assumption
    | with_reducible apply State.inc_wf
    | with_reducible apply State.seenShow_wf
    | with_reducible apply State.on_wf
    | with_reducible apply State.each_wf
    | with_reducible apply ite_wf'
    | with_reducible apply ite_reswf'
    | with_reducible apply next_wf
    | simp only [State.wf_rt]
    | (intro _)
    | split

theorem State.freeMeas_wf (s : State) (a1 : Nat) : Kept (State.freeMeas s a1).2 s := by
  unfold State.freeMeas
  intro h
  try dsimp only
  repeat' first
    | with_reducible assumption
    | with_reducible apply State.free_wf
    | with_reducible apply State.on_wf
    | with_reducible apply State.each_wf
    | with_reducible apply ite_wf'
    | with_reducible apply ite_reswf'
    | with_reducible apply next_wf
    | (intro _)
    | split

theorem State.freePos_wf (s : State) : Kept (State.freePos s).2 s := by
  unfold State.freePos
  intro h
  try dsimp only
  repeat' first
    | with_reducible assumption
    | with_reducible apply State.free_wf
    | with_reducible apply State.on_wf
    | with_reducible apply State.each_wf
    | with_reducible apply ite_wf'
    | with_reducible apply ite_reswf'
    | with_reducible apply next_wf
    | (intro _)
    | split

theorem State.fuseGo_wf (s : State) (a1 : Nat) (a2 : Nat) (a3 : Nat) : Kept (State.fuseGo s a1 a2 a3) s := by
  unfold State.fuseGo
  intro h
  simp +contextual only [h, State.set_wf, State.fuseStart_wf, wf_next, ite_self, implies_true, State.each_wf, State.on_wf, apply_ite State.wf, apply_ite Res.wf, apply_ite Prod.fst, apply_ite Prod.snd, if_true]

theorem State.gnssGap_wf (s : State) (a1 : Nat) : Kept (State.gnssGap s a1) s := by
  unfold State.gnssGap
  intro h
  try dsimp only
  repeat' first
    | with_reducible assumption
    | with_reducible apply State.setChan_wf
    | with_reducible apply State.on_wf
    | with_reducible apply State.each_wf
    | with_reducible apply ite_wf'
    | with_reducible apply ite_reswf'
    | with_reducible apply next_wf
    | simp only [State.wf_gn]
    | (intro _)
    | split

theorem State.silentChg_wf (s : State) (a1 : Nat) (a2 : Nat) : Kept (State.silentChg s a1 a2) s := by
  unfold State.silentChg
  intro h
  try dsimp only
  repeat' first
    | with_reducible assumption
    | with_reducible apply State.irq_wf
    | with_reducible apply State.item_wf
    | with_reducible apply State.portInfo_wf
    | with_reducible apply State.refreeze_wf
    | with_reducible apply State.regCounts_wf
    | with_reducible apply State.on_wf
    | with_reducible apply State.each_wf
    | with_reducible apply ite_wf'
    | with_reducible apply ite_reswf'
    | with_reducible apply next_wf
    | (intro _)
    | split

theorem State.goSilent_wf (s : State) (a1 : Nat) (a2 : Nat) : Kept (State.goSilent s a1 a2) s := by
  unfold State.goSilent
  intro h
  try dsimp only
  repeat' first
    | with_reducible assumption
    | with_reducible apply State.setLink_wf
    | with_reducible apply State.mset_wf
    | with_reducible apply State.notice_wf
    | with_reducible apply State.silentChg_wf
    | with_reducible apply State.holdMember_wf
    | with_reducible apply State.on_wf
    | with_reducible apply State.each_wf
    | with_reducible apply ite_wf'
    | with_reducible apply ite_reswf'
    | with_reducible apply next_wf
    | (intro _)
    | split

theorem State.goodInterval_wf (s : State) (a1 : Nat) (a2 : Int) (a3 : Nat) : Kept (State.goodInterval s a1 a2 a3) s := by
  unfold State.goodInterval
  intro h
  simp +contextual only [h, State.wf_tm, wf_next, ite_self, implies_true, State.each_wf, State.on_wf, apply_ite State.wf, apply_ite Res.wf, apply_ite Prod.fst, apply_ite Prod.snd, if_true]

theorem State.heard_wf (s : State) (a1 : Nat) (a2 : Nat) : Kept (State.heard s a1 a2) s := by
  unfold State.heard
  intro h
  try dsimp only
  repeat' first
    | with_reducible assumption
    | with_reducible apply State.mset_wf
    | with_reducible apply State.setLink_wf
    | with_reducible apply State.silentChg_wf
    | with_reducible apply State.on_wf
    | with_reducible apply State.each_wf
    | with_reducible apply ite_wf'
    | with_reducible apply ite_reswf'
    | with_reducible apply next_wf
    | simp only [State.wf_air]
    | (intro _)
    | split

theorem State.hostRef_wf (s : State) (a1 : List MeasRec) : Kept (State.hostRef s a1) s := by
  unfold State.hostRef
  intro h
  simp +contextual only [h, State.switchRef_wf, State.set_wf, State.autoRef_wf, wf_next, ite_self, implies_true, State.each_wf, State.on_wf, apply_ite State.wf, apply_ite Res.wf, apply_ite Prod.fst, apply_ite Prod.snd, if_true]

theorem State.idleChan_wf (s : State) (a1 : Nat) : Kept (State.idleChan s a1) s := by
  unfold State.idleChan
  intro h
  simp +contextual only [h, State.set_wf, State.setChan_wf, wf_next, ite_self, implies_true, State.each_wf, State.on_wf, apply_ite State.wf, apply_ite Res.wf, apply_ite Prod.fst, apply_ite Prod.snd, if_true]

theorem State.imagesShow_wf (s : State) : Kept (State.imagesShow s) s := by
  unfold State.imagesShow
  intro h
  simp +contextual only [h, State.readyShow_wf, State.wf_pair, wf_next, ite_self, implies_true, State.each_wf, State.on_wf, apply_ite State.wf, apply_ite Res.wf, apply_ite Prod.fst, apply_ite Prod.snd, if_true]

theorem State.imgBarred_wf (s : State) (a1 : Nat) : Kept (State.imgBarred s a1) s := by
  unfold State.imgBarred
  intro h
  try dsimp only
  repeat' first
    | with_reducible assumption
    | with_reducible apply State.set_wf
    | with_reducible apply State.blockOff_wf
    | with_reducible apply State.setP_wf
    | with_reducible apply State.recompute_wf
    | with_reducible apply State.on_wf
    | with_reducible apply State.each_wf
    | with_reducible apply ite_wf'
    | with_reducible apply ite_reswf'
    | with_reducible apply next_wf
    | simp only [State.wf_boot]
    | (intro _)
    | split

theorem State.retain_wf (s : State) (a1 : Nat) : Kept (State.retain s a1) s := by
  unfold State.retain
  intro h
  simp +contextual only [h, State.wf_boot, wf_next, ite_self, implies_true, State.each_wf, State.on_wf, apply_ite State.wf, apply_ite Res.wf, apply_ite Prod.fst, apply_ite Prod.snd, if_true]

theorem State.imgLoaded_wf (s : State) (a1 : Nat) (a2 : Img) : Kept (State.imgLoaded s a1 a2) s := by
  unfold State.imgLoaded
  intro h
  try dsimp only
  repeat' first
    | with_reducible assumption
    | with_reducible apply State.set_wf
    | with_reducible apply State.retain_wf
    | with_reducible apply State.on_wf
    | with_reducible apply State.each_wf
    | with_reducible apply ite_wf'
    | with_reducible apply ite_reswf'
    | with_reducible apply next_wf
    | simp only [State.wf_key_boot]
    | (intro _)
    | split

theorem State.installKey_wf (s : State) (a1 : Nat) : Kept (State.installKey s a1) s := by
  unfold State.installKey
  intro h
  try dsimp only
  repeat' first
    | with_reducible assumption
    | with_reducible apply State.free256_wf
    | with_reducible apply State.freeSig_wf
    | with_reducible apply State.ksPut_wf
    | with_reducible apply State.hgLoadKey_wf
    | with_reducible apply State.on_wf
    | with_reducible apply State.each_wf
    | with_reducible apply ite_wf'
    | with_reducible apply ite_reswf'
    | with_reducible apply next_wf
    | (intro _)
    | split

theorem State.integCounts_wf (s : State) (a1 : Nat) (a2 : Solved) : Kept (State.integCounts s a1 a2) s := by
  unfold State.integCounts
  intro h
  grind [State.inc_wf, State.irq_wf, State.notice_wf, wf_next]

theorem State.interfShow_wf (s : State) : Kept (State.interfShow s) s := by
  unfold State.interfShow
  intro h
  simp +contextual only [h, State.set_wf, wf_next, ite_self, implies_true, State.each_wf, State.on_wf, apply_ite State.wf, apply_ite Res.wf, apply_ite Prod.fst, apply_ite Prod.snd, if_true]

theorem State.takeJoin_wf (s : State) (a1 : Nat) (a2 : JoinRec) (a3 : Bool) : Kept (State.takeJoin s a1 a2 a3) s := by
  unfold State.takeJoin
  intro h
  try dsimp only
  repeat' first
    | with_reducible assumption
    | with_reducible apply State.rtkReset_wf
    | with_reducible apply State.bump_wf
    | with_reducible apply State.mset_wf
    | with_reducible apply State.setMember_wf
    | with_reducible apply State.linkShow_wf
    | with_reducible apply State.inc_wf
    | with_reducible apply State.holdMember_wf
    | with_reducible apply State.item_wf
    | with_reducible apply State.regCounts_wf
    | with_reducible apply State.on_wf
    | with_reducible apply State.each_wf
    | with_reducible apply ite_wf'
    | with_reducible apply ite_reswf'
    | with_reducible apply next_wf
    | (intro _)
    | split

theorem State.join_wf (s : State) (a1 : JoinRec) : Kept (State.join s a1).2 s := by
  unfold State.join
  intro h
  grind [State.takeJoin_wf, wf_next]

theorem State.sendAck_wf (s : State) (a1 : Nat) (a2 : Nat) (a3 : Nat) (a4 : Nat) (a5 : Nat) (a6 : Nat) (a7 : Nat) : Kept (State.sendAck s a1 a2 a3 a4 a5 a6 a7) s := by
  unfold State.sendAck
  intro h
  try dsimp only
  repeat' first
    | with_reducible assumption
    | with_reducible apply State.inc_wf
    | with_reducible apply State.ppduAt_wf
    | with_reducible apply State.airEmit_wf
    | with_reducible apply State.on_wf
    | with_reducible apply State.each_wf
    | with_reducible apply ite_wf'
    | with_reducible apply ite_reswf'
    | with_reducible apply next_wf
    | (intro _)
    | split

theorem State.joinAck_wf (s : State) (a1 : Nat) (a2 : JoinIn) : Kept (State.joinAck s a1 a2) s := by
  unfold State.joinAck
  intro h
  simp +contextual only [h, State.sendAck_wf, wf_next, ite_self, implies_true, State.each_wf, State.on_wf, apply_ite State.wf, apply_ite Res.wf, apply_ite Prod.fst, apply_ite Prod.snd, if_true]

theorem State.joinResp_wf (s : State) (a1 : Nat) (a2 : JoinIn) (a3 : Nat) (a4 : Nat) (a5 : Nat) (a6 : List Nat) : Kept (State.joinResp s a1 a2 a3 a4 a5 a6) s := by
  unfold State.joinResp
  intro h
  simp +contextual only [h, State.queueFrame_wf, wf_next, ite_self, implies_true, State.each_wf, State.on_wf, apply_ite State.wf, apply_ite Res.wf, apply_ite Prod.fst, apply_ite Prod.snd, if_true]

theorem State.routePut_wf (s : State) (a1 : Nat) : Kept (State.routePut s a1) s := by
  unfold State.routePut
  intro h
  (repeat' split) <;> simp +contextual only [h, State.setRoute_wf, State.routeInsert_wf, wf_next, implies_true, State.each_wf, State.on_wf]

theorem State.sendLearn_wf (s : State) (a1 : LearnMsg) : Kept (State.sendLearn s a1) s := by
  unfold State.sendLearn
  intro h
  simp +contextual only [h, State.inc_wf, State.canalBroadcast_wf, wf_next, ite_self, implies_true, State.each_wf, State.on_wf, apply_ite State.wf, apply_ite Res.wf, apply_ite Prod.fst, apply_ite Prod.snd, if_true]

theorem State.joinLearn_wf (s : State) (a1 : Nat) (a2 : Nat) (a3 : Bool) (a4 : Nat) : Kept (State.joinLearn s a1 a2 a3 a4) s := by
  unfold State.joinLearn
  intro h
  simp +contextual only [h, State.routePut_wf, State.sendLearn_wf, wf_next, ite_self, implies_true, State.each_wf, State.on_wf, apply_ite State.wf, apply_ite Res.wf, apply_ite Prod.fst, apply_ite Prod.snd, if_true]

theorem State.joined_wf (s : State) (a1 : Nat) (a2 : JoinIn) (a3 : Nat) (a4 : Bool) : Kept (State.joined s a1 a2 a3 a4) s := by
  unfold State.joined
  intro h
  try dsimp only
  repeat' first
    | with_reducible assumption
    | with_reducible apply State.setLink_wf
    | with_reducible apply State.refreeze_wf
    | with_reducible apply State.joinLearn_wf
    | with_reducible apply State.portInfo_wf
    | with_reducible apply State.joinResp_wf
    | with_reducible apply State.on_wf
    | with_reducible apply State.each_wf
    | with_reducible apply ite_wf'
    | with_reducible apply ite_reswf'
    | with_reducible apply next_wf
    | simp only [State.wf_air]
    | (intro _)
    | split

theorem State.joinAsk_wf (s : State) (a1 : Nat) (a2 : JoinIn) : Kept (State.joinAsk s a1 a2) s := by
  unfold State.joinAsk
  intro h
  grind [State.free_wf, State.joinResp_wf, State.join_wf, State.joined_wf, wf_next]

theorem State.joinDeliver_wf (s : State) (a1 : Nat) (a2 : JoinIn) : Kept (State.joinDeliver s a1 a2) s := by
  unfold State.joinDeliver
  intro h
  dsimp only
  (repeat' split) <;> simp +contextual only [h, State.joinAsk_wf, State.setLink_wf, State.queueRecord_wf, State.joinResp_wf, State.depart_wf, wf_next, implies_true, State.each_wf, State.on_wf]

theorem State.offerRoute_wf (s : State) (a1 : Nat) (a2 : Nat) (a3 : Nat) (a4 : Nat) (a5 : Nat) : Kept (State.offerRoute s a1 a2 a3 a4 a5) s := by
  unfold State.offerRoute
  intro h
  grind [State.sendLearn_wf, State.setAge_wf, State.setRoute_wf, State.routeInsert_wf, State.irq_wf, State.inc_wf, wf_next]

theorem State.joinOffer_wf (s : State) (a1 : Nat) (a2 : JoinIn) : Kept (State.joinOffer s a1 a2) s := by
  unfold State.joinOffer
  intro h
  grind [State.offerRoute_wf, wf_next]

theorem State.secDerive_wf (s : State) (a1 : Nat) : Kept (State.secDerive s a1) s := by
  unfold State.secDerive
  intro h
  simp +contextual only [h, State.ksUse_wf, State.inc_wf, wf_next, ite_self, implies_true, State.each_wf, State.on_wf, apply_ite State.wf, apply_ite Res.wf, apply_ite Prod.fst, apply_ite Prod.snd, if_true]

theorem State.joinTake_wf (s : State) (a1 : JoinIn) : Kept (State.joinTake s a1) s := by
  unfold State.joinTake
  intro h
  simp +contextual only [h, State.setTe_wf, State.wf_air, wf_next, ite_self, implies_true, State.each_wf, State.on_wf, apply_ite State.wf, apply_ite Res.wf, apply_ite Prod.fst, apply_ite Prod.snd, if_true]

theorem State.joinRx_wf (s : State) (a1 : Nat) (a2 : JoinIn) : Kept (State.joinRx s a1 a2) s := by
  unfold State.joinRx
  intro h
  try dsimp only
  repeat' first
    | with_reducible assumption
    | with_reducible apply State.inc_wf
    | with_reducible apply State.secDerive_wf
    | with_reducible apply State.joinResp_wf
    | with_reducible apply State.joinAck_wf
    | with_reducible apply State.joinTake_wf
    | with_reducible apply State.joinDeliver_wf
    | with_reducible apply State.joinOffer_wf
    | with_reducible apply State.on_wf
    | with_reducible apply State.each_wf
    | with_reducible apply ite_wf'
    | with_reducible apply ite_reswf'
    | with_reducible apply next_wf
    | (intro _)
    | split

theorem State.keysAtBoundary_wf (s : State) : Kept (State.keysAtBoundary s) s := by
  unfold State.keysAtBoundary
  intro h
  simp +contextual only [h, State.rotateKeys_wf, State.endGrace_wf, State.rotAuto_wf, wf_next, ite_self, implies_true, State.each_wf, State.on_wf, apply_ite State.wf, apply_ite Res.wf, apply_ite Prod.fst, apply_ite Prod.snd, if_true]

theorem State.latchOne_wf (meas : List MeasIn) (acc : List MeasRec × State) (c : Nat) : Kept (State.latchOne meas acc c).2 acc.2 := by
  unfold State.latchOne
  dsimp only
  split
  · exact id
  · split
    · exact id
    · exact State.freeMeas_wf _ c

theorem State.latchAll_wf (s : State) (meas : List MeasIn) : Kept (s.latchAll meas).2 s :=
  foldl_wf (List.range 256) (fun b : List MeasRec × State => b.2) _ (fun b x => State.latchOne_wf meas b x) ([], s)

theorem State.learnEntry_wf (s : State) (a1 : Nat) (a2 : Nat) : Kept (State.learnEntry s a1 a2) s := by
  unfold State.learnEntry
  intro h
  simp +contextual only [h, State.setAge_wf, State.setRoute_wf, wf_next, ite_self, implies_true, State.each_wf, State.on_wf, apply_ite State.wf, apply_ite Res.wf, apply_ite Prod.fst, apply_ite Prod.snd, if_true]

theorem State.learnGains_wf (s : State) (a1 : Nat) (a2 : Nat) (a3 : Nat) : Kept (State.learnGains s a1 a2 a3) s := by
  unfold State.learnGains
  intro h
  simp +contextual only [h, State.wf_gn, wf_next, ite_self, implies_true, State.each_wf, State.on_wf, apply_ite State.wf, apply_ite Res.wf, apply_ite Prod.fst, apply_ite Prod.snd, if_true]

theorem State.learnPositions_wf (s : State) (a1 : Nat) : Kept (State.learnPositions s a1) s := by
  unfold State.learnPositions
  intro h
  simp +contextual only [h, State.set_wf, wf_next, ite_self, implies_true, State.each_wf, State.on_wf, apply_ite State.wf, apply_ite Res.wf, apply_ite Prod.fst, apply_ite Prod.snd, if_true]

theorem State.learnRoutes_wf (s : State) (m : LearnMsg) : Kept (s.learnRoutes m) s := by
  unfold State.learnRoutes
  dsimp only
  refine (State.each_wf _ _ _ fun t i => State.learnEntry_wf _ _ _).trans ?_
  split
  · exact State.learnEntry_wf _ _ _
  · have h := State.routeInsert_wf s (mkRoute m.prev 32 1 0 (m.chip % 64) 0 2 0 (m.timeMs / 100 % 65536))
    split
    · rename_i heq; rw [heq] at h; exact h
    · rename_i heq; rw [heq] at h; exact (State.irq_wf _ _ _).trans ((State.inc_wf _ _ _ _).trans h)

theorem State.learnRx_wf (s : State) (a1 : LearnMsg) : Kept (State.learnRx s a1) s := by
  unfold State.learnRx
  intro h
  try dsimp only
  repeat' first
    | with_reducible assumption
    | with_reducible apply State.inc_wf
    | with_reducible apply State.learnRoutes_wf
    | with_reducible apply State.depart_wf
    | with_reducible apply State.on_wf
    | with_reducible apply State.each_wf
    | with_reducible apply ite_wf'
    | with_reducible apply ite_reswf'
    | with_reducible apply next_wf
    | (intro _)
    | split

theorem State.linkTake_wf (s : State) (a1 : Nat) (a2 : Nat) (a3 : Nat) (a4 : Nat) : Kept (State.linkTake s a1 a2 a3 a4) s := by
  unfold State.linkTake
  intro h
  simp +contextual only [h, State.noteFcnt_wf, State.setLink_wf, State.wf_air, wf_next, ite_self, implies_true, State.each_wf, State.on_wf, apply_ite State.wf, apply_ite Res.wf, apply_ite Prod.fst, apply_ite Prod.snd, if_true]

theorem State.lnaAuto_wf (s : State) (a1 : Nat) (a2 : Nat) (a3 : PpduIn) : Kept (State.lnaAuto s a1 a2 a3) s := by
  unfold State.lnaAuto
  intro h
  simp +contextual only [h, State.emit_wf, wf_next, ite_self, implies_true, State.each_wf, State.on_wf, apply_ite State.wf, apply_ite Res.wf, apply_ite Prod.fst, apply_ite Prod.snd, if_true]

theorem State.motLoad_wf (s : State) (a1 : Nat) : Kept (State.motLoad s a1) s := by
  unfold State.motLoad
  intro h
  simp +contextual only [h, State.setMotion_wf, wf_next, ite_self, implies_true, State.each_wf, State.on_wf, apply_ite State.wf, apply_ite Res.wf, apply_ite Prod.fst, apply_ite Prod.snd, if_true]

theorem State.loadCheckpoint_wf (s : State) : Kept (State.loadCheckpoint s) s := by
  unfold State.loadCheckpoint
  intro h
  try dsimp only
  repeat' first
    | with_reducible assumption
    | with_reducible apply State.applyContent_wf
    | with_reducible apply State.set_wf
    | with_reducible apply State.followTables_wf
    | with_reducible apply State.advanceFcnt_wf
    | with_reducible apply State.motLoad_wf
    | with_reducible apply State.on_wf
    | with_reducible apply State.each_wf
    | with_reducible apply ite_wf'
    | with_reducible apply ite_reswf'
    | with_reducible apply next_wf
    | simp only [State.wf_pair]
    | (intro _)
    | split

theorem State.mainBack_wf (s : State) (a1 : Bool) (a2 : Bool) (a3 : Bool) : Kept (State.mainBack s a1 a2 a3) s := by
  unfold State.mainBack
  intro h
  grind [State.wf_sup, wf_next]

theorem State.outageBegin_wf (s : State) (a1 : List Nat) : Kept (State.outageBegin s a1) s := by
  unfold State.outageBegin
  intro h
  try dsimp only
  repeat' first
    | with_reducible assumption
    | with_reducible apply State.on_wf
    | with_reducible apply State.each_wf
    | with_reducible apply ite_wf'
    | with_reducible apply ite_reswf'
    | with_reducible apply next_wf
    | simp only [State.wf_met]
    | (intro _)
    | split

theorem State.mainLost_wf (s : State) (vbat : Bool) : Kept (s.mainLost vbat) s := by
  unfold State.mainLost
  dsimp only
  split
  · exact id
  · exact (State.recompute_wf _).trans ((State.outsLow_wf _).trans (Kept.trans (t := State.chipReset _ _ _) id ((State.chipReset_wf _ _ _).trans
      ((State.outageBegin_wf _ _).trans (State.on_wf _ _ _ (State.pqTruncate_wf _))))))

theorem State.makeReady_wf (s : State) (a1 : MEpoch) : Kept (State.makeReady s a1) s := by
  unfold State.makeReady
  intro h
  dsimp only
  (repeat' split) <;> simp +contextual only [h, State.dropQueue_wf, State.inc_wf, State.wf_rtk, wf_next, implies_true, State.each_wf, State.on_wf]

theorem State.steerDac_wf (s : State) : Kept (State.steerDac s) s := by
  unfold State.steerDac
  intro h
  simp +contextual only [h, State.set_wf, State.wf_tm, wf_next, ite_self, implies_true, State.each_wf, State.on_wf, apply_ite State.wf, apply_ite Res.wf, apply_ite Prod.fst, apply_ite Prod.snd, if_true]

theorem State.refuseE_wf (s : State) : Kept (State.refuseE s) s := by
  unfold State.refuseE
  intro h
  simp +contextual only [h, State.inc_wf, wf_next, ite_self, implies_true, State.each_wf, State.on_wf, apply_ite State.wf, apply_ite Res.wf, apply_ite Prod.fst, apply_ite Prod.snd, if_true]

theorem State.takeMeasure_wf (s : State) (a1 : Nat) (a2 : Int) : Kept (State.takeMeasure s a1 a2) s := by
  unfold State.takeMeasure
  intro h
  try dsimp only
  repeat' first
    | with_reducible assumption
    | with_reducible apply State.firstStep_wf
    | with_reducible apply State.notice_wf
    | with_reducible apply State.acceptE_wf
    | with_reducible apply State.refuseE_wf
    | with_reducible apply State.set_wf
    | with_reducible apply State.endSlew_wf
    | with_reducible apply State.firstInSecond_wf
    | with_reducible apply State.selectSrc_wf
    | with_reducible apply State.sysEvent_wf
    | with_reducible apply State.irq_wf
    | with_reducible apply State.recompute_wf
    | with_reducible apply State.on_wf
    | with_reducible apply State.each_wf
    | with_reducible apply ite_wf'
    | with_reducible apply ite_reswf'
    | with_reducible apply next_wf
    | simp only [State.wf_tm]
    | (intro _)
    | split

theorem State.measured_wf (s : State) (a1 : Nat) (a2 : Int) (a3 : Nat) : Kept (State.measured s a1 a2 a3) s := by
  unfold State.measured
  intro h
  try dsimp only
  repeat' first
    | with_reducible assumption
    | with_reducible apply State.set_wf
    | with_reducible apply State.goodInterval_wf
    | with_reducible apply State.steerDac_wf
    | with_reducible apply State.takeMeasure_wf
    | with_reducible apply State.on_wf
    | with_reducible apply State.each_wf
    | with_reducible apply ite_wf'
    | with_reducible apply ite_reswf'
    | with_reducible apply next_wf
    | (intro _)
    | split

theorem State.missEntry_wf (s : State) (a1 : Nat) (a2 : Nat) : Kept (State.missEntry s a1 a2) s := by
  unfold State.missEntry
  intro h
  simp +contextual only [h, State.setLink_wf, State.goSilent_wf, wf_next, ite_self, implies_true, State.each_wf, State.on_wf, apply_ite State.wf, apply_ite Res.wf, apply_ite Prod.fst, apply_ite Prod.snd, if_true]

theorem State.missInterval_wf (s : State) (a1 : Nat) : Kept (State.missInterval s a1) s := by
  unfold State.missInterval
  intro h
  simp +contextual only [h, State.dropSource_wf, State.wf_tm, wf_next, ite_self, implies_true, State.each_wf, State.on_wf, apply_ite State.wf, apply_ite Res.wf, apply_ite Prod.fst, apply_ite Prod.snd, if_true]

theorem State.missRelayed_wf (s : State) : Kept (State.missRelayed s) s := by
  unfold State.missRelayed
  intro h
  try dsimp only
  repeat' first
    | with_reducible assumption
    | with_reducible apply State.missEntry_wf
    | with_reducible apply State.on_wf
    | with_reducible apply State.each_wf
    | with_reducible apply ite_wf'
    | with_reducible apply ite_reswf'
    | with_reducible apply next_wf
    | (intro _)
    | split

theorem State.moveGroups_wf (s : State) : Kept (State.moveGroups s) s := by
  unfold State.moveGroups
  intro h
  try dsimp only
  repeat' first
    | with_reducible assumption
    | with_reducible apply State.idleChan_wf
    | with_reducible apply State.setChan_wf
    | with_reducible apply State.on_wf
    | with_reducible apply State.each_wf
    | with_reducible apply ite_wf'
    | with_reducible apply ite_reswf'
    | with_reducible apply next_wf
    | simp only [State.wf_gn]
    | (intro _)
    | split

theorem State.moveRoute_wf (s : State) (a1 : Nat) : Kept (State.moveRoute s a1) s := by
  unfold State.moveRoute
  intro h
  simp +contextual only [h, State.routeInsert_wf, wf_next, ite_self, implies_true, State.each_wf, State.on_wf, apply_ite State.wf, apply_ite Res.wf, apply_ite Prod.fst, apply_ite Prod.snd, if_true]

theorem State.noteArp_wf (s : State) (a1 : Epoch) : Kept (State.noteArp s a1) s := by
  unfold State.noteArp
  intro h
  simp +contextual only [h, State.wf_rtk, wf_next, ite_self, implies_true, State.each_wf, State.on_wf, apply_ite State.wf, apply_ite Res.wf, apply_ite Prod.fst, apply_ite Prod.snd, if_true]

theorem State.noteCost_wf (s : State) (a1 : Nat) : Kept (State.noteCost s a1) s := by
  unfold State.noteCost
  intro h
  simp +contextual only [h, State.set_wf, State.wf_rtk, wf_next, ite_self, implies_true, State.each_wf, State.on_wf, apply_ite State.wf, apply_ite Res.wf, apply_ite Prod.fst, apply_ite Prod.snd, if_true]

theorem State.notePosition_wf (s : State) (a1 : Nat) (a2 : Nat) : Kept (State.notePosition s a1 a2) s := by
  unfold State.notePosition
  intro h
  simp +contextual only [h, State.setMotion_wf, wf_next, ite_self, implies_true, State.each_wf, State.on_wf, apply_ite State.wf, apply_ite Res.wf, apply_ite Prod.fst, apply_ite Prod.snd, if_true]

theorem State.obsAccept_wf (s : State) (a1 : Nat) (a2 : Nat) (a3 : List Nat) (a4 : Nat) (a5 : OwnFix) : Kept (State.obsAccept s a1 a2 a3 a4 a5) s := by
  unfold State.obsAccept
  intro h
  try dsimp only
  repeat' first
    | with_reducible assumption
    | with_reducible apply State.incP_wf
    | with_reducible apply State.inc_wf
    | with_reducible apply State.archive_wf
    | with_reducible apply State.qBytes_wf
    | with_reducible apply State.setRmem_wf
    | with_reducible apply State.dropQueue_wf
    | with_reducible apply State.rtkShow_wf
    | with_reducible apply State.makeReady_wf
    | with_reducible apply State.on_wf
    | with_reducible apply State.each_wf
    | with_reducible apply ite_wf'
    | with_reducible apply ite_reswf'
    | with_reducible apply next_wf
    | simp only [State.wf_rtk]
    | (intro _)
    | split

theorem State.ringMismatch_wf (s : State) : Kept (State.ringMismatch s) s := by
  unfold State.ringMismatch
  intro h
  simp +contextual only [h, State.notice_wf, State.inc_wf, wf_next, ite_self, implies_true, State.each_wf, State.on_wf, apply_ite State.wf, apply_ite Res.wf, apply_ite Prod.fst, apply_ite Prod.snd, if_true]

theorem State.offerNumber_wf (s : State) (n : Nat) : Kept (s.offerNumber n) s := by
  unfold State.offerNumber
  refine ite_wf id (ite_wf (ite_wf id (State.ringMismatch_wf _)) (ite_wf (State.ringMismatch_wf _) ?_))
  refine (State.each_wf _ _ _ fun t p => ite_wf (State.sendHello_wf _ _) id).trans ?_
  exact (State.learnPositions_wf _ _).trans ((State.set_wf _ _ _ _ _).trans (State.set_wf _ _ _ _ _))

theorem State.onward_wf (s : State) (a1 : Nat) (a2 : Nat) (a3 : CanalMsg) : Kept (State.onward s a1 a2 a3) s := by
  unfold State.onward
  intro h
  dsimp only
  (repeat' split) <;> simp +contextual only [h, State.canalOut_wf, State.inc_wf, wf_next, implies_true, State.each_wf, State.on_wf]

theorem State.outageRecord_wf (s : State) (a1 : Nat) (a2 : Nat) : Kept (State.outageRecord s a1 a2) s := by
  unfold State.outageRecord
  intro h
  simp +contextual only [h, State.setDock_wf, State.irq_wf, State.wf_met, wf_next, ite_self, implies_true, State.each_wf, State.on_wf, apply_ite State.wf, apply_ite Res.wf, apply_ite Prod.fst, apply_ite Prod.snd, if_true]

theorem State.outageEnd_wf (s : State) (a1 : List Nat) (a2 : Nat) : Kept (State.outageEnd s a1 a2) s := by
  unfold State.outageEnd
  intro h
  try dsimp only
  repeat' first
    | with_reducible assumption
    | with_reducible apply State.outageRecord_wf
    | with_reducible apply State.inc_wf
    | with_reducible apply State.on_wf
    | with_reducible apply State.each_wf
    | with_reducible apply ite_wf'
    | with_reducible apply ite_reswf'
    | with_reducible apply next_wf
    | simp only [State.wf_met]
    | (intro _)
    | split

theorem State.passAnt_wf (s : State) (a : Nat) (sky want : List SkySig) : Kept (s.passAnt a sky want).1 s := by
  unfold State.passAnt
  exact (State.each_wf _ _ _ fun t x => State.setChan_wf _ _ _).trans (State.each_wf _ _ _ fun t c => ite_wf (State.idleChan_wf _ _) id)

theorem State.pfcPrio_wf (s : State) (a1 : Nat) (a2 : Nat × Nat) : Kept (State.pfcPrio s a1 a2) s := by
  unfold State.pfcPrio
  intro h
  try dsimp only
  repeat' first
    | with_reducible assumption
    | with_reducible apply State.set_wf
    | with_reducible apply State.qPump_wf
    | with_reducible apply State.setEth_wf
    | with_reducible apply State.on_wf
    | with_reducible apply State.each_wf
    | with_reducible apply ite_wf'
    | with_reducible apply ite_reswf'
    | with_reducible apply next_wf
    | simp only [State.wf_fq]
    | (intro _)
    | split

theorem State.portError_wf (s : State) (a1 : Nat) (a2 : Nat) : Kept (State.portError s a1 a2) s := by
  unfold State.portError
  intro h
  simp +contextual only [h, State.blockError_wf, wf_next, ite_self, implies_true, State.each_wf, State.on_wf, apply_ite State.wf, apply_ite Res.wf, apply_ite Prod.fst, apply_ite Prod.snd, if_true]

theorem State.ppsPin_wf (s : State) (a1 : Bool) : Kept (State.ppsPin s a1) s := by
  unfold State.ppsPin
  intro h
  simp +contextual only [h, State.emit_wf, State.wf_tm, wf_next, ite_self, implies_true, State.each_wf, State.on_wf, apply_ite State.wf, apply_ite Res.wf, apply_ite Prod.fst, apply_ite Prod.snd, if_true]

theorem State.pqBegin_wf (s : State) (a1 : Nat) (a2 : Nat) (a3 : Nat) : Kept (State.pqBegin s a1 a2 a3) s := by
  unfold State.pqBegin
  intro h
  simp +contextual only [h, State.setPq_wf, State.wf_met, wf_next, ite_self, implies_true, State.each_wf, State.on_wf, apply_ite State.wf, apply_ite Res.wf, apply_ite Prod.fst, apply_ite Prod.snd, if_true]

theorem State.pqIdle_wf (s : State) (a1 : Nat) (a2 : Nat) : Kept (State.pqIdle s a1 a2) s := by
  unfold State.pqIdle
  intro h
  simp +contextual only [h, State.pqBegin_wf, wf_next, ite_self, implies_true, State.each_wf, State.on_wf, apply_ite State.wf, apply_ite Res.wf, apply_ite Prod.fst, apply_ite Prod.snd, if_true]

theorem State.pqRefresh_wf (s : State) (a1 : Nat) (a2 : Nat) : Kept (State.pqRefresh s a1 a2) s := by
  unfold State.pqRefresh
  intro h
  simp +contextual only [h, State.pqIdle_wf, State.pqEnd_wf, State.setPq_wf, wf_next, ite_self, implies_true, State.each_wf, State.on_wf, apply_ite State.wf, apply_ite Res.wf, apply_ite Prod.fst, apply_ite Prod.snd, if_true]

theorem State.pulsePin_wf (s : State) (a1 : Nat) (a2 : Bool) : Kept (State.pulsePin s a1 a2) s := by
  unfold State.pulsePin
  intro h
  simp +contextual only [h, State.emit_wf, wf_next, ite_self, implies_true, State.each_wf, State.on_wf, apply_ite State.wf, apply_ite Res.wf, apply_ite Prod.fst, apply_ite Prod.snd, if_true]

theorem State.pulseEnd_wf (s : State) (a1 : Nat) : Kept (State.pulseEnd s a1) s := by
  unfold State.pulseEnd
  intro h
  simp +contextual only [h, State.pulsePin_wf, State.setPulse_wf, wf_next, ite_self, implies_true, State.each_wf, State.on_wf, apply_ite State.wf, apply_ite Res.wf, apply_ite Prod.fst, apply_ite Prod.snd, if_true]

theorem State.pulseOut_wf (s : State) (a1 : Nat) : Kept (State.pulseOut s a1) s := by
  unfold State.pulseOut
  intro h
  try dsimp only
  repeat' first
    | with_reducible assumption
    | with_reducible apply State.pulseEnd_wf
    | with_reducible apply State.pulsePin_wf
    | with_reducible apply State.setPulse_wf
    | with_reducible apply State.on_wf
    | with_reducible apply State.each_wf
    | with_reducible apply ite_wf'
    | with_reducible apply ite_reswf'
    | with_reducible apply next_wf
    | (intro _)
    | split

theorem State.pulseAdd_wf (s : State) (a1 : Nat) (a2 : Nat) (a3 : Nat) : Kept (State.pulseAdd s a1 a2 a3) s := by
  unfold State.pulseAdd
  intro h
  try dsimp only
  repeat' first
    | with_reducible assumption
    | with_reducible apply State.pulseOut_wf
    | with_reducible apply State.setPulse_wf
    | with_reducible apply State.inc_wf
    | with_reducible apply State.on_wf
    | with_reducible apply State.each_wf
    | with_reducible apply ite_wf'
    | with_reducible apply ite_reswf'
    | with_reducible apply next_wf
    | (intro _)
    | split

theorem State.railFault_wf (s : State) (a1 : Page) : Kept (State.railFault s a1) s := by
  unfold State.railFault
  intro h
  simp +contextual only [h, State.leaveOn_wf, State.goState_wf, wf_next, ite_self, implies_true, State.each_wf, State.on_wf, apply_ite State.wf, apply_ite Res.wf, apply_ite Prod.fst, apply_ite Prod.snd, if_true]

theorem State.rebaseHeld_wf (s : State) (a1 : Held) : Kept (State.rebaseHeld s a1) s := by
  unfold State.rebaseHeld
  intro h
  try dsimp only
  repeat' first
    | with_reducible assumption
    | with_reducible apply State.tblDone_wf
    | with_reducible apply State.setP_wf
    | with_reducible apply State.setReg_wf
    | with_reducible apply State.tblStart_wf
    | with_reducible apply State.on_wf
    | with_reducible apply State.each_wf
    | with_reducible apply ite_wf'
    | with_reducible apply ite_reswf'
    | with_reducible apply next_wf
    | (intro _)
    | split

theorem State.rebaseLeases_wf (s : State) (a1 : Int) : Kept (State.rebaseLeases s a1) s := by
  unfold State.rebaseLeases
  intro h
  try dsimp only
  repeat' first
    | with_reducible assumption
    | with_reducible apply State.setLe_wf
    | with_reducible apply State.setTe_wf
    | with_reducible apply State.on_wf
    | with_reducible apply State.each_wf
    | with_reducible apply ite_wf'
    | with_reducible apply ite_reswf'
    | with_reducible apply next_wf
    | simp only [State.wf_ls]
    | (intro _)
    | split

theorem State.rebaseTasks_wf (s : State) (a1 : Int) : Kept (State.rebaseTasks s a1) s := by
  unfold State.rebaseTasks
  intro h
  try dsimp only
  repeat' first
    | with_reducible assumption
    | with_reducible apply State.setTe_wf
    | with_reducible apply State.on_wf
    | with_reducible apply State.each_wf
    | with_reducible apply ite_wf'
    | with_reducible apply ite_reswf'
    | with_reducible apply next_wf
    | (intro _)
    | split

theorem State.rebaseTimers_wf (s : State) (a1 : Int) : Kept (State.rebaseTimers s a1) s := by
  unfold State.rebaseTimers
  intro h
  try dsimp only
  repeat' first
    | with_reducible assumption
    | with_reducible apply State.setTe_wf
    | with_reducible apply State.on_wf
    | with_reducible apply State.each_wf
    | with_reducible apply ite_wf'
    | with_reducible apply ite_reswf'
    | with_reducible apply next_wf
    | (intro _)
    | split

theorem State.recover_wf (s : State) : Kept (State.recover s) s := by
  unfold State.recover
  intro h
  dsimp only
  (repeat' split) <;> simp +contextual only [h, State.inc_wf, State.bootSup_wf, State.wf_boot, wf_next, implies_true, State.each_wf, State.on_wf]

theorem State.relayAck_wf (s : State) (a1 : Nat) (a2 : RelayIn) : Kept (State.relayAck s a1 a2) s := by
  unfold State.relayAck
  intro h
  (repeat' split) <;> simp +contextual only [h, State.sendAck_wf, wf_next, implies_true, State.each_wf, State.on_wf]

theorem State.relaySeen_wf (s : State) (a1 : RelayIn) : Kept (State.relaySeen s a1).2 s := by
  unfold State.relaySeen
  intro h
  simp +contextual only [h, State.floodSee_wf, wf_next, ite_self, implies_true, State.each_wf, State.on_wf, apply_ite State.wf, apply_ite Res.wf, apply_ite Prod.fst, apply_ite Prod.snd, if_true]

theorem State.upBad_wf (s : State) (a1 : Nat) (a2 : UpIn) : ∀ t, (State.upBad s a1 a2) = some t → Kept t s := by
  intro t
  unfold State.upBad
  intro h
  split at h
  · cases h; exact State.inc_wf _ _ _ _
  · split at h
    · cases h; exact State.inc_wf _ _ _ _
    · split at h
      · cases h; exact State.inc_wf _ _ _ _
      · cases h

theorem State.taskRecord_wf (s : State) (a1 : Nat) (a2 : List Nat) : Kept (State.taskRecord s a1 a2) s := by
  unfold State.taskRecord
  intro h
  dsimp only
  (repeat' split) <;> simp +contextual only [h, State.inc_wf, State.taskClaim_wf, State.taskStart_wf, State.taskFinish_wf, State.queueDown_wf, wf_next, implies_true, State.each_wf, State.on_wf]

theorem State.upRecord_wf (s : State) (a1 : Nat) (a2 : UpIn) (a3 : Nat) (a4 : List Nat) : Kept (State.upRecord s a1 a2 a3 a4) s := by
  unfold State.upRecord
  intro h
  simp +contextual only [h, State.inc_wf, State.taskRecord_wf, State.airItem_wf, wf_next, ite_self, implies_true, State.each_wf, State.on_wf, apply_ite State.wf, apply_ite Res.wf, apply_ite Prod.fst, apply_ite Prod.snd, if_true]

theorem State.upRecords_wf (s : State) (p : Nat) (y : UpIn) (k : Nat) (l : List Nat) : Kept (s.upRecords p y k l) s := by
  induction k generalizing s l with
  | zero => exact id
  | succ k ih =>
    match l with
    | [] => exact id
    | [_] => exact id
    | a :: b :: rest =>
      unfold State.upRecords
      exact ite_wf id ((ih _ _).trans (State.upRecord_wf _ _ _ _ _))

theorem State.trailerFrees_wf (s : State) (a1 : Nat) (a2 : Bool) : Kept (State.trailerFrees s a1 a2) s := by
  unfold State.trailerFrees
  intro h
  try dsimp only
  repeat' first
    | with_reducible assumption
    | with_reducible apply State.freeDecided_wf
    | with_reducible apply State.leaseShow_wf
    | with_reducible apply State.inc_wf
    | with_reducible apply State.turnShow_wf
    | with_reducible apply State.leSet_wf
    | with_reducible apply State.freeLock_wf
    | with_reducible apply State.on_wf
    | with_reducible apply State.each_wf
    | with_reducible apply ite_wf'
    | with_reducible apply ite_reswf'
    | with_reducible apply next_wf
    | simp only [State.wf_ls]
    | (intro _)
    | split

theorem State.trailerRx_wf (s : State) (a1 : UpIn) (a2 : Nat) (a3 : List Nat) : Kept (State.trailerRx s a1 a2 a3) s := by
  unfold State.trailerRx
  intro h
  try dsimp only
  repeat' first
    | with_reducible assumption
    | with_reducible apply State.mset_wf
    | with_reducible apply State.item_wf
    | with_reducible apply State.notice_wf
    | with_reducible apply State.trailerFrees_wf
    | with_reducible apply State.noteTrailer_wf
    | with_reducible apply State.conform_wf
    | with_reducible apply State.notePosition_wf
    | with_reducible apply State.on_wf
    | with_reducible apply State.each_wf
    | with_reducible apply ite_wf'
    | with_reducible apply ite_reswf'
    | with_reducible apply next_wf
    | (intro _)
    | split

theorem State.upDeliver_wf (s : State) (a1 : Nat) (a2 : UpIn) : Kept (State.upDeliver s a1 a2) s := by
  unfold State.upDeliver
  intro h
  try dsimp only
  repeat' first
    | with_reducible assumption
    | with_reducible apply State.obsAccept_wf
    | with_reducible apply State.upRecords_wf
    | with_reducible apply State.trailerRx_wf
    | with_reducible apply State.on_wf
    | with_reducible apply State.each_wf
    | with_reducible apply ite_wf'
    | with_reducible apply ite_reswf'
    | with_reducible apply next_wf
    | (intro _)
    | split

theorem State.upTake_wf (s : State) (p : Nat) (y : UpIn) (ack offer : State → State) (ha : ∀ t, Kept (ack t) t)
    (ho : ∀ t, Kept (offer t) t) : Kept (s.upTake p y ack offer) s := by
  unfold State.upTake
  split
  all_goals
    intro h
    repeat' first
      | with_reducible assumption
      | with_reducible apply ha
      | with_reducible apply ho
      | with_reducible apply State.inc_wf
      | with_reducible apply State.heard_wf
      | with_reducible apply State.linkTake_wf
      | with_reducible apply State.upDeliver_wf
      | with_reducible apply ite_wf'

theorem State.relayUp_wf (s : State) (p : Nat) (y : RelayIn) : Kept (s.relayUp p y) s := by
  unfold State.relayUp
  split
  · rename_i heq
    exact State.upBad_wf _ _ _ _ heq
  · exact State.upTake_wf _ _ _ _ _ (fun u => State.relayAck_wf _ _ _) fun u => ite_wf id (State.offerRoute_wf _ _ _ _ _ _)

theorem State.relayRx_wf (s : State) (a1 : Nat) (a2 : RelayIn) : Kept (State.relayRx s a1 a2) s := by
  unfold State.relayRx
  intro h
  simp +contextual only [h, State.inc_wf, State.relaySeen_wf, State.relayUp_wf, wf_next, ite_self, implies_true, State.each_wf, State.on_wf, apply_ite State.wf, apply_ite Res.wf, apply_ite Prod.fst, apply_ite Prod.snd, if_true]

theorem State.timeGap_wf (s : State) (a1 : Nat) : Kept (State.timeGap s a1) s := by
  unfold State.timeGap
  intro h
  simp +contextual only [h, State.set_wf, State.wf_tm, wf_next, ite_self, implies_true, State.each_wf, State.on_wf, apply_ite State.wf, apply_ite Res.wf, apply_ite Prod.fst, apply_ite Prod.snd, if_true]

theorem State.ungate_wf (s : State) (a1 : Nat) : Kept (State.ungate s a1) s := by
  unfold State.ungate
  intro h
  grind [State.set_wf, State.outsCheck_wf, State.wf_ft_clk, wf_next]

theorem State.releaseClocks_wf (s : State) (a1 : Nat) : Kept (State.releaseClocks s a1) s := by
  unfold State.releaseClocks
  intro h
  try dsimp only
  repeat' first
    | with_reducible assumption
    | with_reducible apply State.recompute_wf
    | with_reducible apply State.dramGap_wf
    | with_reducible apply State.arbGap_wf
    | with_reducible apply State.gnssGap_wf
    | with_reducible apply State.timeGap_wf
    | with_reducible apply State.ungate_wf
    | with_reducible apply State.on_wf
    | with_reducible apply State.each_wf
    | with_reducible apply ite_wf'
    | with_reducible apply ite_reswf'
    | with_reducible apply next_wf
    | (intro _)
    | split

theorem State.solveOut_wf (s : State) (a1 : Bool) (a2 : Nat) (a3 : Nat) (a4 : List Nat) : Kept (State.solveOut s a1 a2 a3 a4) s := by
  unfold State.solveOut
  intro h
  simp +contextual only [h, State.item_wf, State.qBytes_wf, wf_next, ite_self, implies_true, State.each_wf, State.on_wf, apply_ite State.wf, apply_ite Res.wf, apply_ite Prod.fst, apply_ite Prod.snd, if_true]

theorem State.releaseFix_wf (s : State) (a1 : CellWork) (a2 : Epoch) : Kept (State.releaseFix s a1 a2) s := by
  unfold State.releaseFix
  intro h
  try dsimp only
  repeat' first
    | with_reducible assumption
    | with_reducible apply State.inc_wf
    | with_reducible apply State.freePos_wf
    | with_reducible apply State.setRmem_wf
    | with_reducible apply State.setTe_wf
    | with_reducible apply State.disagreeNote_wf
    | with_reducible apply State.integCounts_wf
    | with_reducible apply State.solveOut_wf
    | with_reducible apply State.disagreeHold_wf
    | with_reducible apply State.conform_wf
    | with_reducible apply State.notePosition_wf
    | with_reducible apply State.rtkShow_wf
    | with_reducible apply State.on_wf
    | with_reducible apply State.each_wf
    | with_reducible apply ite_wf'
    | with_reducible apply ite_reswf'
    | with_reducible apply next_wf
    | (intro _)
    | split

theorem State.released_wf (s : State) : Kept (State.released s) s := by
  unfold State.released
  intro h
  try dsimp only
  repeat' first
    | with_reducible assumption
    | with_reducible apply State.set_wf
    | with_reducible apply State.clearCauses_wf
    | with_reducible apply State.inc_wf
    | with_reducible apply State.sendStopState_wf
    | with_reducible apply State.on_wf
    | with_reducible apply State.each_wf
    | with_reducible apply ite_wf'
    | with_reducible apply ite_reswf'
    | with_reducible apply next_wf
    | simp only [State.wf_hg]
    | (intro _)
    | split

theorem State.repackNow_wf (s : State) (a1 : List Nat) : Kept (State.repackNow s a1) s := by
  unfold State.repackNow
  intro h
  try dsimp only
  repeat' first
    | with_reducible assumption
    | with_reducible apply State.setRoute_wf
    | with_reducible apply State.setBank_wf
    | with_reducible apply State.on_wf
    | with_reducible apply State.each_wf
    | with_reducible apply ite_wf'
    | with_reducible apply ite_reswf'
    | with_reducible apply next_wf
    | (intro _)
    | split

theorem execCounterRead_wf (a0 : Src) (a1 : Nat) (s : State) : ResKept (execCounterRead a0 a1 s) s := by
  unfold execCounterRead
  intro h
  dsimp only
  (repeat' split) <;> simp +contextual only [h, State.gapHold_wf, State.inc_wf, State.busRead_wf, State.emit_wf, wf_next, implies_true, State.each_wf, State.on_wf]

theorem execUnmappedAccess_wf (a0 : Src) (a1 : Nat) (a2 : Bool) (a3 : Bool) (s : State) : ResKept (execUnmappedAccess a0 a1 a2 a3 s) s := by
  unfold execUnmappedAccess
  intro h
  dsimp only
  (repeat' split) <;> simp +contextual only [h, State.gapHold_wf, State.inc_wf, State.unmapped_wf, State.emit_wf, wf_next, implies_true, State.each_wf, State.on_wf]

theorem execRegMessageRx_wf (a0 : CanalMsg) (a1 : WrExt) (s : State) : ResKept (execRegMessageRx a0 a1 s) s := by
  unfold execRegMessageRx
  intro h
  simp +contextual only [h, State.gapHold_wf, State.regRx_wf, wf_next, ite_self, implies_true, State.each_wf, State.on_wf, apply_ite State.wf, apply_ite Res.wf, apply_ite Prod.fst, apply_ite Prod.snd, if_true]

theorem State.replayOne_wf (s : State) (o : GapOp) : Kept (s.replayOne o) s := by
  unfold State.replayOne
  split
  · exact State.tblStart_wf _ _ _ _ _ _
  · exact State.plainWrite_wf _ _ _ _ _
  · exact Res.state_wf _ _ (execCounterRead_wf _ _ _)
  · exact Res.state_wf _ _ (execUnmappedAccess_wf _ _ _ _ _)
  · exact Res.state_wf _ _ (execRegMessageRx_wf _ _ _)

theorem State.replayGap_wf (s : State) : Kept (State.replayGap s) s := by
  unfold State.replayGap
  intro h
  try dsimp only
  repeat' first
    | with_reducible assumption
    | with_reducible apply State.replayOne_wf
    | with_reducible apply State.on_wf
    | with_reducible apply State.each_wf
    | with_reducible apply ite_wf'
    | with_reducible apply ite_reswf'
    | with_reducible apply next_wf
    | simp only [State.wf_clk]
    | (intro _)
    | split

theorem State.resumeRefused_wf (s : State) (a1 : Nat) : Kept (State.resumeRefused s a1) s := by
  unfold State.resumeRefused
  intro h
  try dsimp only
  repeat' first
    | with_reducible assumption
    | with_reducible apply State.irq_wf
    | with_reducible apply State.inc_wf
    | with_reducible apply State.set_wf
    | with_reducible apply State.on_wf
    | with_reducible apply State.each_wf
    | with_reducible apply ite_wf'
    | with_reducible apply ite_reswf'
    | with_reducible apply next_wf
    | (intro _)
    | split

theorem State.resumeArm_wf (s : State) : Kept (State.resumeArm s) s := by
  unfold State.resumeArm
  intro h
  try dsimp only
  repeat' first
    | with_reducible assumption
    | with_reducible apply State.free_wf
    | with_reducible apply State.resumeRefused_wf
    | with_reducible apply State.set_wf
    | with_reducible apply State.on_wf
    | with_reducible apply State.each_wf
    | with_reducible apply ite_wf'
    | with_reducible apply ite_reswf'
    | with_reducible apply next_wf
    | simp only [State.wf_hg]
    | (intro _)
    | split

theorem State.resumeRelease_wf (s : State) (a1 : Nat) : Kept (State.resumeRelease s a1) s := by
  unfold State.resumeRelease
  intro h
  (repeat' split) <;> simp +contextual only [h, State.resumeRefused_wf, State.disarm_wf, State.debugHold_wf, State.released_wf, wf_next, implies_true, State.each_wf, State.on_wf]

theorem State.roleCheck_wf (s : State) (a1 : Nat) (a2 : Hello) : Kept (State.roleCheck s a1 a2) s := by
  unfold State.roleCheck
  intro h
  simp +contextual only [h, State.sysEvent_wf, State.set_wf, wf_next, ite_self, implies_true, State.each_wf, State.on_wf, apply_ite State.wf, apply_ite Res.wf, apply_ite Prod.fst, apply_ite Prod.snd, if_true]

theorem State.romRefuse_wf (s : State) (a1 : Nat) (a2 : Nat) : Kept (State.romRefuse s a1 a2) s := by
  unfold State.romRefuse
  intro h
  grind [State.set_wf, State.inc_wf, State.wf_boot, wf_next]

theorem State.romTry_wf (s : State) (a1 : Nat) : Kept (State.romTry s a1).2 s := by
  unfold State.romTry
  intro h
  simp +contextual only [h, State.dirWrite_wf, wf_next, ite_self, implies_true, State.each_wf, State.on_wf, apply_ite State.wf, apply_ite Res.wf, apply_ite Prod.fst, apply_ite Prod.snd, if_true]

theorem State.romBanks_wf (s : State) (l : List Nat) : Kept (s.romBanks l) s := by
  induction l generalizing s with
  | nil => exact State.recover_wf s
  | cons b r ih =>
    have h := State.romTry_wf s b
    unfold State.romBanks
    generalize s.romTry b = p at h
    obtain ⟨may, t⟩ := p
    dsimp only at h ⊢
    split
    · exact (ih _).trans h
    · split
      · split
        · exact (State.bootSup_wf _ _ _).trans h
        · exact (ih _).trans ((State.romRefuse_wf _ _ _).trans h)
      · exact (ih _).trans ((State.romRefuse_wf _ _ _).trans h)

theorem State.romKeys_wf (s : State) (a1 : Bool) : Kept (State.romKeys s a1) s := by
  unfold State.romKeys
  intro h
  try dsimp only
  repeat' first
    | with_reducible assumption
    | with_reducible apply State.sysEvent_wf
    | with_reducible apply State.zeroise_wf
    | with_reducible apply State.on_wf
    | with_reducible apply State.each_wf
    | with_reducible apply ite_wf'
    | with_reducible apply ite_reswf'
    | with_reducible apply next_wf
    | simp only [State.wf_sup]
    | (intro _)
    | split

theorem State.romTorn_wf (s : State) : Kept (State.romTorn s) s := by
  unfold State.romTorn
  intro h
  try dsimp only
  repeat' first
    | with_reducible assumption
    | with_reducible apply State.sysEvent_wf
    | with_reducible apply State.on_wf
    | with_reducible apply State.each_wf
    | with_reducible apply ite_wf'
    | with_reducible apply ite_reswf'
    | with_reducible apply next_wf
    | simp only [State.wf_key]
    | (intro _)
    | split

theorem State.rootLost_wf (s : State) : Kept (State.rootLost s) s := by
  unfold State.rootLost
  intro h
  try dsimp only
  repeat' first
    | with_reducible assumption
    | with_reducible apply State.gateClocks_wf
    | with_reducible apply State.outsLow_wf
    | with_reducible apply State.raiseCause_wf
    | with_reducible apply State.sysEvent_wf
    | with_reducible apply State.on_wf
    | with_reducible apply State.each_wf
    | with_reducible apply ite_wf'
    | with_reducible apply ite_reswf'
    | with_reducible apply next_wf
    | (intro _)
    | split

theorem State.routeHeld_wf (s : State) (a1 : Held) : Kept (State.routeHeld s a1) s := by
  unfold State.routeHeld
  intro h
  try dsimp only
  repeat' first
    | with_reducible assumption
    | with_reducible apply State.tblDone_wf
    | with_reducible apply State.irq_wf
    | with_reducible apply State.repackNow_wf
    | with_reducible apply State.routeOp_wf
    | with_reducible apply State.on_wf
    | with_reducible apply State.each_wf
    | with_reducible apply ite_wf'
    | with_reducible apply ite_reswf'
    | with_reducible apply next_wf
    | (intro _)
    | split

theorem State.rxPut_wf (s : State) (a1 : Nat) (a2 : RxFrame) : Kept (State.rxPut s a1 a2) s := by
  unfold State.rxPut
  intro h
  simp +contextual only [h, State.setPort_wf, wf_next, ite_self, implies_true, State.each_wf, State.on_wf, apply_ite State.wf, apply_ite Res.wf, apply_ite Prod.fst, apply_ite Prod.snd, if_true]

theorem State.rxFrame_wf (s : State) (a1 : Nat) (a2 : Nat) (a3 : PpduIn) (a4 : AirHdr) : Kept (State.rxFrame s a1 a2 a3 a4) s := by
  unfold State.rxFrame
  intro h
  try dsimp only
  repeat' first
    | with_reducible assumption
    | with_reducible apply State.rxPut_wf
    | with_reducible apply State.inc_wf
    | with_reducible apply State.on_wf
    | with_reducible apply State.each_wf
    | with_reducible apply ite_wf'
    | with_reducible apply ite_reswf'
    | with_reducible apply next_wf
    | simp only [State.wf_air]
    | (intro _)
    | split

theorem State.rxPop_wf (s : State) (a1 : Nat) : Kept (State.rxPop s a1) s := by
  unfold State.rxPop
  intro h
  simp +contextual only [h, State.setPort_wf, wf_next, ite_self, implies_true, State.each_wf, State.on_wf, apply_ite State.wf, apply_ite Res.wf, apply_ite Prod.fst, apply_ite Prod.snd, if_true]

theorem State.secondEntry_wf (s : State) (a1 : Nat) : Kept (State.secondEntry s a1) s := by
  unfold State.secondEntry
  intro h
  try dsimp only
  repeat' first
    | with_reducible assumption
    | with_reducible apply State.free_wf
    | with_reducible apply State.setDock_wf
    | with_reducible apply State.setSum_wf
    | with_reducible apply State.setTe_wf
    | with_reducible apply State.on_wf
    | with_reducible apply State.each_wf
    | with_reducible apply ite_wf'
    | with_reducible apply ite_reswf'
    | with_reducible apply next_wf
    | (intro _)
    | split

theorem State.sendBundle_wf (s : State) (a1 : Nat) (a2 : Nat) (a3 : Nat) : Kept (State.sendBundle s a1 a2 a3).1 s := by
  unfold State.sendBundle
  intro h
  simp +contextual only [h, State.sendZone_wf, wf_next, ite_self, implies_true, State.each_wf, State.on_wf, apply_ite State.wf, apply_ite Res.wf, apply_ite Prod.fst, apply_ite Prod.snd, if_true]

theorem State.sendCredit_wf (s : State) : Kept (State.sendCredit s) s := by
  unfold State.sendCredit
  intro h
  grind [State.canalUnicast_wf, State.inc_wf, State.emitCredit_wf, State.wf_fq_lk, wf_next]

theorem State.set64_wf (s : State) (a1 : Fld) (a2 : Fld) (a3 : Nat) (a4 : optParam Nat 0) : Kept (State.set64 s a1 a2 a3 a4) s := by
  unfold State.set64
  intro h
  simp +contextual only [h, State.set_wf, wf_next, ite_self, implies_true, State.each_wf, State.on_wf, apply_ite State.wf, apply_ite Res.wf, apply_ite Prod.fst, apply_ite Prod.snd, if_true]

theorem State.setGains_wf (s : State) (a1 : Nat) (a2 : Nat) (a3 : Nat) : Kept (State.setGains s a1 a2 a3) s := by
  unfold State.setGains
  intro h
  try dsimp only
  repeat' first
    | with_reducible assumption
    | with_reducible apply State.set_wf
    | with_reducible apply State.on_wf
    | with_reducible apply State.each_wf
    | with_reducible apply ite_wf'
    | with_reducible apply ite_reswf'
    | with_reducible apply next_wf
    | (intro _)
    | split

theorem State.setI64_wf (s : State) (a1 : Fld) (a2 : Fld) (a3 : Int) : Kept (State.setI64 s a1 a2 a3) s := by
  unfold State.setI64
  intro h
  simp +contextual only [h, State.set64_wf, wf_next, ite_self, implies_true, State.each_wf, State.on_wf, apply_ite State.wf, apply_ite Res.wf, apply_ite Prod.fst, apply_ite Prod.snd, if_true]

theorem State.switchCancel_wf (s : State) : Kept (State.switchCancel s) s := by
  unfold State.switchCancel
  intro h
  simp +contextual only [h, State.pairSend_wf, State.switchEnds_wf, wf_next, ite_self, implies_true, State.each_wf, State.on_wf, apply_ite State.wf, apply_ite Res.wf, apply_ite Prod.fst, apply_ite Prod.snd, if_true]

theorem State.setPeer_wf (s : State) (a1 : Nat) : Kept (State.setPeer s a1) s := by
  unfold State.setPeer
  intro h
  try dsimp only
  repeat' first
    | with_reducible assumption
    | with_reducible apply State.switchCancel_wf
    | with_reducible apply State.irq_wf
    | with_reducible apply State.set_wf
    | with_reducible apply State.on_wf
    | with_reducible apply State.each_wf
    | with_reducible apply ite_wf'
    | with_reducible apply ite_reswf'
    | with_reducible apply next_wf
    | simp only [State.wf_pair]
    | (intro _)
    | split

theorem State.shadowMode_wf (s : State) : Kept (State.shadowMode s) s := by
  unfold State.shadowMode
  intro h
  simp +contextual only [h, State.set_wf, wf_next, ite_self, implies_true, State.each_wf, State.on_wf, apply_ite State.wf, apply_ite Res.wf, apply_ite Prod.fst, apply_ite Prod.snd, if_true]

theorem State.showTemp_wf (s : State) (a1 : Int) : Kept (State.showTemp s a1) s := by
  unfold State.showTemp
  intro h
  try dsimp only
  repeat' first
    | with_reducible assumption
    | with_reducible apply State.set_wf
    | with_reducible apply State.irq_wf
    | with_reducible apply State.on_wf
    | with_reducible apply State.each_wf
    | with_reducible apply ite_wf'
    | with_reducible apply ite_reswf'
    | with_reducible apply next_wf
    | (intro _)
    | split

theorem State.spiShift_wf (s : State) (a1 : Nat) (a2 : Nat) (a3 : Nat × Nat) : Kept (State.spiShift s a1 a2 a3) s := by
  unfold State.spiShift
  intro h
  simp +contextual only [h, State.set_wf, State.emit_wf, wf_next, ite_self, implies_true, State.each_wf, State.on_wf, apply_ite State.wf, apply_ite Res.wf, apply_ite Prod.fst, apply_ite Prod.snd, if_true]

theorem State.spoofDrops_wf (s : State) : Kept (State.spoofDrops s) s := by
  unfold State.spoofDrops
  intro h
  simp +contextual only [h, State.dropSource_wf, wf_next, ite_self, implies_true, State.each_wf, State.on_wf, apply_ite State.wf, apply_ite Res.wf, apply_ite Prod.fst, apply_ite Prod.snd, if_true]

theorem State.startMode_wf (s : State) (a1 : Page) (a2 : StartIn) : Kept (State.startMode s a1 a2) s := by
  unfold State.startMode
  intro h
  simp +contextual only [h, State.set_wf, wf_next, ite_self, implies_true, State.each_wf, State.on_wf, apply_ite State.wf, apply_ite Res.wf, apply_ite Prod.fst, apply_ite Prod.snd, if_true]

theorem State.stepAborts_wf (s : State) : Kept (State.stepAborts s) s := by
  unfold State.stepAborts
  intro h
  try dsimp only
  repeat' first
    | with_reducible assumption
    | with_reducible apply State.dropBuild_wf
    | with_reducible apply State.abortXfer_wf
    | with_reducible apply State.dropPart_wf
    | with_reducible apply State.freeFurrow_wf
    | with_reducible apply State.takeSeq_wf
    | with_reducible apply State.on_wf
    | with_reducible apply State.each_wf
    | with_reducible apply ite_wf'
    | with_reducible apply ite_reswf'
    | with_reducible apply next_wf
    | (intro _)
    | split

theorem State.stepAccept_wf (s : State) (a1 : Nat) (a2 : Int) (a3 : Option Nat) : Kept (State.stepAccept s a1 a2 a3) s := by
  unfold State.stepAccept
  intro h
  try dsimp only
  repeat' first
    | with_reducible assumption
    | with_reducible apply State.set_wf
    | with_reducible apply State.on_wf
    | with_reducible apply State.each_wf
    | with_reducible apply ite_wf'
    | with_reducible apply ite_reswf'
    | with_reducible apply next_wf
    | simp only [State.wf_tm]
    | (intro _)
    | split

theorem State.stepMeter_wf (s : State) (a1 : Nat) : Kept (State.stepMeter s a1) s := by
  unfold State.stepMeter
  intro h
  simp +contextual only [h, State.docksEnd_wf, State.wf_met, wf_next, ite_self, implies_true, State.each_wf, State.on_wf, apply_ite State.wf, apply_ite Res.wf, apply_ite Prod.fst, apply_ite Prod.snd, if_true]

theorem AMap.wf_shift (d : Int) (m : AMap MotSt) (h : AMap.wf (fun _ => ({} : MotSt)) m = true) :
    AMap.wf (fun _ => ({} : MotSt)) (m.map fun x => (x.1, { x.2 with posAt := x.2.posAt.map (shiftNs d) })) = true := by
  have hs : ∀ (l : AMap MotSt) (lo : Nat), AMap.sortedFrom lo l = true →
      AMap.sortedFrom lo (l.map fun x => (x.1, { x.2 with posAt := x.2.posAt.map (shiftNs d) })) = true := by
    intro l
    induction l with
    | nil => exact fun _ _ => rfl
    | cons e r ih =>
      intro lo hl
      simp only [AMap.sortedFrom, List.map_cons, Bool.and_eq_true] at hl ⊢
      exact ⟨hl.1, ih _ hl.2⟩
  have hn : ∀ l : AMap MotSt, AMap.noDefault (fun _ => ({} : MotSt)) l = true →
      AMap.noDefault (fun _ => ({} : MotSt)) (l.map fun x => (x.1, { x.2 with posAt := x.2.posAt.map (shiftNs d) })) = true := by
    intro l
    induction l with
    | nil => exact fun _ => rfl
    | cons e r ih =>
      intro hl
      simp only [AMap.noDefault, List.map_cons, Bool.and_eq_true, decide_eq_true_eq] at hl ⊢
      refine ⟨fun he => hl.1 ?_, ih hl.2⟩
      obtain ⟨k, x⟩ := e
      cases x
      simp only [MotSt.mk.injEq, Option.map_eq_none_iff] at he ⊢
      exact he
  simp only [AMap.wf, Bool.and_eq_true] at h ⊢
  exact ⟨hs m 0 h.1, hn m h.2⟩
theorem State.shiftMot_wf (t : State) (d : Int) :
    Kept { t with mot := t.mot.map fun (x : Nat × MotSt) => (x.1, { x.2 with posAt := x.2.posAt.map (shiftNs d) }) } t :=
  State.keep_mot t _ (AMap.wf_shift d t.mot)
theorem State.stepMotion_wf (s : State) (d : Int) : Kept (s.stepMotion d) s := by
  unfold State.stepMotion
  have h := State.motClear_wf s
  generalize s.motClear = t at h ⊢
  intro w
  replace h := h w
  refine State.motShow_wf _ ?_
  rw [State.wf_iff] at h ⊢
  exact ⟨h.1, h.2.1, h.2.2.1, h.2.2.2.1, h.2.2.2.2.1, h.2.2.2.2.2.1, h.2.2.2.2.2.2.1, AMap.wf_shift d t.mot h.2.2.2.2.2.2.2⟩

theorem State.stepObs_wf (s : State) : Kept (State.stepObs s) s := by
  unfold State.stepObs
  intro h
  simp +contextual only [h, State.inc_wf, State.wf_rtk, wf_next, ite_self, implies_true, State.each_wf, State.on_wf, apply_ite State.wf, apply_ite Res.wf, apply_ite Prod.fst, apply_ite Prod.snd, if_true]

theorem State.stepOp_wf (s : State) (a1 : Nat) (a2 : Option Int) : Kept (State.stepOp s a1 a2) s := by
  unfold State.stepOp
  intro h
  try dsimp only
  repeat' first
    | with_reducible assumption
    | with_reducible apply State.set_wf
    | with_reducible apply State.stepAccept_wf
    | with_reducible apply State.set64_wf
    | with_reducible apply State.recompute_wf
    | with_reducible apply State.acceptE_wf
    | with_reducible apply State.selectSrc_wf
    | with_reducible apply State.on_wf
    | with_reducible apply State.each_wf
    | with_reducible apply ite_wf'
    | with_reducible apply ite_reswf'
    | with_reducible apply next_wf
    | simp only [State.wf_tm]
    | (intro _)
    | split

theorem State.stopRx_wf (s : State) (a1 : Nat) (a2 : Nat) (a3 : Nat) (a4 : StopMsg) : Kept (State.stopRx s a1 a2 a3 a4) s := by
  unfold State.stopRx
  intro h
  try dsimp only
  repeat' first
    | with_reducible assumption
    | with_reducible apply State.canalHeard_wf
    | with_reducible apply State.inc_wf
    | with_reducible apply State.raiseCause_wf
    | with_reducible apply State.canalOut_wf
    | with_reducible apply State.on_wf
    | with_reducible apply State.each_wf
    | with_reducible apply ite_wf'
    | with_reducible apply ite_reswf'
    | with_reducible apply next_wf
    | simp only [State.wf_hg]
    | (intro _)
    | split

theorem State.supStop_wf (s : State) (a1 : Bool) : Kept (State.supStop s a1) s := by
  unfold State.supStop
  intro h
  simp +contextual only [h, State.recompute_wf, State.set_wf, State.wf_clk, wf_next, ite_self, implies_true, State.each_wf, State.on_wf, apply_ite State.wf, apply_ite Res.wf, apply_ite Prod.fst, apply_ite Prod.snd, if_true]

theorem State.supRestart_wf (s : State) : Kept (State.supRestart s) s := by
  unfold State.supRestart
  intro h
  simp +contextual only [h, State.supStop_wf, wf_next, ite_self, implies_true, State.each_wf, State.on_wf, apply_ite State.wf, apply_ite Res.wf, apply_ite Prod.fst, apply_ite Prod.snd, if_true]

theorem State.supHold_wf (s : State) (a1 : Bool) : Kept (State.supHold s a1) s := by
  unfold State.supHold
  intro h
  try dsimp only
  repeat' first
    | with_reducible assumption
    | with_reducible apply State.supStop_wf
    | with_reducible apply State.set_wf
    | with_reducible apply State.supRestart_wf
    | with_reducible apply State.on_wf
    | with_reducible apply State.each_wf
    | with_reducible apply ite_wf'
    | with_reducible apply ite_reswf'
    | with_reducible apply next_wf
    | (intro _)
    | split

theorem State.supReleased_wf (s : State) : Kept (State.supReleased s) s := by
  unfold State.supReleased
  intro h
  try dsimp only
  repeat' first
    | with_reducible assumption
    | with_reducible apply State.set_wf
    | with_reducible apply State.recompute_wf
    | with_reducible apply State.bump_wf
    | with_reducible apply State.on_wf
    | with_reducible apply State.each_wf
    | with_reducible apply ite_wf'
    | with_reducible apply ite_reswf'
    | with_reducible apply next_wf
    | simp only [State.wf_clk]
    | (intro _)
    | split

theorem State.surveyAdd_wf (s : State) (a1 : List Int) : Kept (State.surveyAdd s a1) s := by
  unfold State.surveyAdd
  intro h
  simp +contextual only [h, State.set_wf, State.wf_gn, wf_next, ite_self, implies_true, State.each_wf, State.on_wf, apply_ite State.wf, apply_ite Res.wf, apply_ite Prod.fst, apply_ite Prod.snd, if_true]

theorem State.surveyDone_wf (s : State) : Kept (State.surveyDone s) s := by
  unfold State.surveyDone
  intro h
  try dsimp only
  repeat' first
    | with_reducible assumption
    | with_reducible apply State.setI64_wf
    | with_reducible apply State.notice_wf
    | with_reducible apply State.set_wf
    | with_reducible apply State.on_wf
    | with_reducible apply State.each_wf
    | with_reducible apply ite_wf'
    | with_reducible apply ite_reswf'
    | with_reducible apply next_wf
    | simp only [State.wf_gn]
    | (intro _)
    | split

theorem State.swapAll_wf (s : State) : Kept (State.swapAll s) s := by
  unfold State.swapAll
  intro h
  try dsimp only
  repeat' first
    | with_reducible assumption
    | with_reducible apply State.notice_wf
    | with_reducible apply State.cancelBank_wf
    | with_reducible apply State.swapBank_wf
    | with_reducible apply State.on_wf
    | with_reducible apply State.each_wf
    | with_reducible apply ite_wf'
    | with_reducible apply ite_reswf'
    | with_reducible apply next_wf
    | (intro _)
    | split

theorem State.switched_wf (s : State) : Kept (State.switched s) s := by
  unfold State.switched
  intro h
  try dsimp only
  repeat' first
    | with_reducible assumption
    | with_reducible apply State.irq_wf
    | with_reducible apply State.inc_wf
    | with_reducible apply State.set_wf
    | with_reducible apply State.on_wf
    | with_reducible apply State.each_wf
    | with_reducible apply ite_wf'
    | with_reducible apply ite_reswf'
    | with_reducible apply next_wf
    | (intro _)
    | split

theorem State.switchOld_wf (s : State) : Kept (State.switchOld s) s := by
  unfold State.switchOld
  intro h
  try dsimp only
  repeat' first
    | with_reducible assumption
    | with_reducible apply State.pairSend_wf
    | with_reducible apply State.set_wf
    | with_reducible apply State.switchCancel_wf
    | with_reducible apply State.switched_wf
    | with_reducible apply State.goCold_wf
    | with_reducible apply State.abortAll_wf
    | with_reducible apply State.unclaim_wf
    | with_reducible apply State.on_wf
    | with_reducible apply State.each_wf
    | with_reducible apply ite_wf'
    | with_reducible apply ite_reswf'
    | with_reducible apply next_wf
    | (intro _)
    | split

theorem State.switchNew_wf (s : State) : Kept (State.switchNew s) s := by
  unfold State.switchNew
  intro h
  grind [State.set_wf, State.claim_wf, State.switched_wf, State.advanceFcnt_wf, State.meterTake_wf, State.goPair_wf, State.gateShow_wf, State.wf_pair, wf_next]

theorem State.switchBoundary_wf (s : State) : Kept (State.switchBoundary s) s := by
  unfold State.switchBoundary
  intro h
  simp +contextual only [h, State.switchFinish_wf, State.switchOld_wf, State.switchNew_wf, wf_next, ite_self, implies_true, State.each_wf, State.on_wf, apply_ite State.wf, apply_ite Res.wf, apply_ite Prod.fst, apply_ite Prod.snd, if_true]

theorem State.switchCmd_wf (s : State) : Kept (State.switchCmd s) s := by
  unfold State.switchCmd
  intro h
  simp +contextual only [h, State.switchStart_wf, wf_next, ite_self, implies_true, State.each_wf, State.on_wf, apply_ite State.wf, apply_ite Res.wf, apply_ite Prod.fst, apply_ite Prod.snd, if_true]

theorem State.take_wf (s : State) : Kept s.take s := by
  have h0 : Kept { s with tbl := s.tbl.filter fun e => !(ckptTargets.contains (e.1 / 2 ^ 24)), ls := {}, mot := [],
                          air := { s.air with downq := [] }, pair := { s.pair with roleDone := true, loaded := true } } s :=
    (State.keep_mot { s with tbl := s.tbl.filter fun e => !(ckptTargets.contains (e.1 / 2 ^ 24)), ls := {} } [] fun _ => rfl).trans
      (State.keep_tbl s _ (AMap.wf_filter _ _ _))
  unfold State.take
  refine ite_wf id ?_
  dsimp only
  revert h0
  generalize ({ s with tbl := s.tbl.filter fun e => !(ckptTargets.contains (e.1 / 2 ^ 24)), ls := {}, mot := [],
                          air := { s.air with downq := [] }, pair := { s.pair with roleDone := true, loaded := true } } : State) = u
  intro h0
  exact (State.leaseShow_wf _).trans ((State.regCounts_wf _).trans ((State.advanceFcnt_wf _).trans ((State.meterTake_wf _).trans
    ((State.startRegions_wf _).trans ((State.goPair_wf _ _).trans ((State.claim_wf _).trans h0))))))

theorem State.taskE0_wf (s : State) (a1 : Nat) : Kept (State.taskE0 s a1) s := by
  unfold State.taskE0
  intro h
  simp +contextual only [h, State.setTe_wf, wf_next, ite_self, implies_true, State.each_wf, State.on_wf, apply_ite State.wf, apply_ite Res.wf, apply_ite Prod.fst, apply_ite Prod.snd, if_true]

theorem State.testCells_wf (s : State) (a1 : Page) (a2 : List Nat) : Kept (State.testCells s a1 a2) s := by
  unfold State.testCells
  intro h
  simp +contextual only [h, State.setPage_wf, wf_next, ite_self, implies_true, State.each_wf, State.on_wf, apply_ite State.wf, apply_ite Res.wf, apply_ite Prod.fst, apply_ite Prod.snd, if_true]

theorem State.tokEnd_wf (s : State) (a1 : Nat) (a2 : Nat) : Kept (State.tokEnd s a1 a2) s := by
  unfold State.tokEnd
  intro h
  try dsimp only
  repeat' first
    | with_reducible assumption
    | with_reducible apply State.set_wf
    | with_reducible apply State.irq_wf
    | with_reducible apply State.drawNonce_wf
    | with_reducible apply State.on_wf
    | with_reducible apply State.each_wf
    | with_reducible apply ite_wf'
    | with_reducible apply ite_reswf'
    | with_reducible apply next_wf
    | simp only [State.wf_key]
    | (intro _)
    | split

theorem State.tokRefused_wf (s : State) (a1 : Nat) (a2 : Nat) (a3 : Nat) (a4 : Bool) : Kept (State.tokRefused s a1 a2 a3 a4) s := by
  unfold State.tokRefused
  intro h
  try dsimp only
  repeat' first
    | with_reducible assumption
    | with_reducible apply State.inc_wf
    | with_reducible apply State.sysEvent_wf
    | with_reducible apply State.on_wf
    | with_reducible apply State.each_wf
    | with_reducible apply ite_wf'
    | with_reducible apply ite_reswf'
    | with_reducible apply next_wf
    | (intro _)
    | split

theorem State.tunFail_wf (s : State) (a1 : Nat) (a2 : Nat) (a3 : Bool) : Kept (State.tunFail s a1 a2 a3) s := by
  unfold State.tunFail
  intro h
  simp +contextual only [h, State.unmapped_wf, State.emit_wf, wf_next, ite_self, implies_true, State.each_wf, State.on_wf, apply_ite State.wf, apply_ite Res.wf, apply_ite Prod.fst, apply_ite Prod.snd, if_true]

theorem State.upRx_wf (s : State) (p : Nat) (y : UpIn) : Kept (s.upRx p y) s := by
  unfold State.upRx
  split
  · rename_i heq
    exact State.upBad_wf _ _ _ _ heq
  · exact State.upTake_wf _ _ _ _ _ (fun u => State.sendAck_wf _ _ _ _ _ _ _ _) fun u => id

theorem State.updEnd_wf (s : State) (a1 : Nat) (a2 : Nat) : Kept (State.updEnd s a1 a2) s := by
  unfold State.updEnd
  intro h
  try dsimp only
  repeat' first
    | with_reducible assumption
    | with_reducible apply State.irq_wf
    | with_reducible apply State.updResult_wf
    | with_reducible apply State.set_wf
    | with_reducible apply State.on_wf
    | with_reducible apply State.each_wf
    | with_reducible apply ite_wf'
    | with_reducible apply ite_reswf'
    | with_reducible apply next_wf
    | simp only [State.wf_boot]
    | (intro _)
    | split

theorem State.voltAdd_wf (s : State) (a1 : Bool) (a2 : Nat) (a3 : VoltWin) : Kept (State.voltAdd s a1 a2 a3) s := by
  unfold State.voltAdd
  intro h
  simp +contextual only [h, State.setSum_wf, wf_next, ite_self, implies_true, State.each_wf, State.on_wf, apply_ite State.wf, apply_ite Res.wf, apply_ite Prod.fst, apply_ite Prod.snd, if_true]

theorem execRegisterWrite_wf (a0 : Src) (a1 : Nat) (a2 : Nat) (a3 : WrExt) (s : State) : ResKept (execRegisterWrite a0 a1 a2 a3 s) s := by
  unfold execRegisterWrite
  intro h
  simp +contextual only [h, State.inc_wf, State.plainWrite_wf, wf_next, ite_self, implies_true, State.each_wf, State.on_wf, apply_ite State.wf, apply_ite Res.wf, apply_ite Prod.fst, apply_ite Prod.snd, if_true]

theorem execNowNsRead_wf (a0 : Src) (s : State) : ResKept (execNowNsRead a0 s) s := by
  unfold execNowNsRead
  intro h
  simp +contextual only [h, State.nowRead_wf, State.emit_wf, wf_next, ite_self, implies_true, State.each_wf, State.on_wf, apply_ite State.wf, apply_ite Res.wf, apply_ite Prod.fst, apply_ite Prod.snd, if_true]

theorem execBar2Access_wf (a0 : Nat) (a1 : Nat) (a2 : Nat) (a3 : Bool) (a4 : WrExt) (s : State) : ResKept (execBar2Access a0 a1 a2 a3 a4 s) s := by
  unfold execBar2Access
  intro h
  simp +contextual only [h, State.tunFail_wf, State.plainWrite_wf, State.gapHold_wf, State.busRead_wf, State.emit_wf, State.tunPump_wf, State.wf_canal, wf_next, ite_self, implies_true, State.each_wf, State.on_wf, apply_ite State.wf, apply_ite Res.wf, apply_ite Prod.fst, apply_ite Prod.snd, if_true]

theorem execTunnelTimeout_wf (a0 : Nat) (s : State) : ResKept (execTunnelTimeout a0 s) s := by
  unfold execTunnelTimeout
  intro h
  try dsimp only
  repeat' first
    | with_reducible assumption
    | with_reducible apply State.noticeCtr_wf
    | with_reducible apply State.inc_wf
    | with_reducible apply State.tunFail_wf
    | with_reducible apply State.irq_wf
    | with_reducible apply State.tunPump_wf
    | with_reducible apply State.on_wf
    | with_reducible apply State.each_wf
    | with_reducible apply ite_wf'
    | with_reducible apply ite_reswf'
    | with_reducible apply next_wf
    | simp only [State.wf_canal]
    | (intro _)
    | split

theorem execCtrlEnWrite_wf (a0 : Src) (a1 : Page) (a2 : Bool) (s : State) : ResKept (execCtrlEnWrite a0 a1 a2 s) s := by
  unfold execCtrlEnWrite
  intro h
  simp +contextual only [h, State.writeEn_wf, wf_next, ite_self, implies_true, State.each_wf, State.on_wf, apply_ite State.wf, apply_ite Res.wf, apply_ite Prod.fst, apply_ite Prod.snd, if_true]

theorem execStartupComplete_wf (a0 : Page) (a1 : Bool) (a2 : Nat) (a3 : StartIn) (s : State) : ResKept (execStartupComplete a0 a1 a2 a3 s) s := by
  unfold execStartupComplete
  intro h
  try dsimp only
  repeat' first
    | with_reducible assumption
    | with_reducible apply State.blockError_wf
    | with_reducible apply State.cellError_wf
    | with_reducible apply State.enterFault_wf
    | with_reducible apply State.enterOn_wf
    | with_reducible apply State.testCells_wf
    | with_reducible apply State.startMode_wf
    | with_reducible apply State.on_wf
    | with_reducible apply State.each_wf
    | with_reducible apply ite_wf'
    | with_reducible apply ite_reswf'
    | with_reducible apply next_wf
    | (intro _)
    | split

theorem execStartupSafePoint_wf (a0 : Page) (s : State) : ResKept (execStartupSafePoint a0 s) s := by
  unfold execStartupSafePoint
  intro h
  simp +contextual only [h, State.stopBlock_wf, State.setP_wf, wf_next, ite_self, implies_true, State.each_wf, State.on_wf, apply_ite State.wf, apply_ite Res.wf, apply_ite Prod.fst, apply_ite Prod.snd, if_true]

theorem execShutdownComplete_wf (a0 : Page) (s : State) : ResKept (execShutdownComplete a0 s) s := by
  unfold execShutdownComplete
  intro h
  try dsimp only
  repeat' first
    | with_reducible assumption
    | with_reducible apply State.startBlock_wf
    | with_reducible apply State.setP_wf
    | with_reducible apply State.abortCore_wf
    | with_reducible apply State.blockOff_wf
    | with_reducible apply State.on_wf
    | with_reducible apply State.each_wf
    | with_reducible apply ite_wf'
    | with_reducible apply ite_reswf'
    | with_reducible apply next_wf
    | (intro _)
    | split

theorem execRegionIsolate_wf (a0 : Page) (a1 : List (Nat × Nat)) (a2 : List Nat) (a3 : Bool) (s : State) : ResKept (execRegionIsolate a0 a1 a2 a3 s) s := by
  unfold execRegionIsolate
  intro h
  simp +contextual only [h, State.recompute_wf, State.isolate_wf, State.regionFailing_wf, wf_next, ite_self, implies_true, State.each_wf, State.on_wf, apply_ite State.wf, apply_ite Res.wf, apply_ite Prod.fst, apply_ite Prod.snd, if_true]

theorem execBlockAutoRestart_wf (a0 : Page) (s : State) : ResKept (execBlockAutoRestart a0 s) s := by
  unfold execBlockAutoRestart
  intro h
  try dsimp only
  repeat' first
    | with_reducible assumption
    | with_reducible apply State.failedBlock_wf
    | with_reducible apply State.setPage_wf
    | with_reducible apply State.startBlock_wf
    | with_reducible apply State.setP_wf
    | with_reducible apply State.goState_wf
    | with_reducible apply State.on_wf
    | with_reducible apply State.each_wf
    | with_reducible apply ite_wf'
    | with_reducible apply ite_reswf'
    | with_reducible apply next_wf
    | (intro _)
    | split

theorem execCellError_wf (a0 : Page) (a1 : Nat) (a2 : Nat) (a3 : Nat) (a4 : Nat) (a5 : Nat) (a6 : Nat) (s : State) : ResKept (execCellError a0 a1 a2 a3 a4 a5 a6 s) s := by
  unfold execCellError
  intro h
  simp +contextual only [h, State.cellError_wf, wf_next, ite_self, implies_true, State.each_wf, State.on_wf, apply_ite State.wf, apply_ite Res.wf, apply_ite Prod.fst, apply_ite Prod.snd, if_true]

theorem execLevelRise_wf (s : State) : ResKept (execLevelRise s) s := by
  unfold execLevelRise
  intro h
  simp +contextual only [h, State.setLevel_wf, State.wf_flt, wf_next, ite_self, implies_true, State.each_wf, State.on_wf, apply_ite State.wf, apply_ite Res.wf, apply_ite Prod.fst, apply_ite Prod.snd, if_true]

theorem execErrInject_wf (a0 : Src) (a1 : Page) (a2 : Nat) (a3 : Nat) (s : State) : ResKept (execErrInject a0 a1 a2 a3 s) s := by
  unfold execErrInject
  intro h
  simp +contextual only [h, State.errInject_wf, wf_next, ite_self, implies_true, State.each_wf, State.on_wf, apply_ite State.wf, apply_ite Res.wf, apply_ite Prod.fst, apply_ite Prod.snd, if_true]

theorem execIrqForce_wf (a0 : Src) (a1 : Page) (a2 : Nat) (s : State) : ResKept (execIrqForce a0 a1 a2 s) s := by
  unfold execIrqForce
  intro h
  simp +contextual only [h, State.plainWrite_wf, wf_next, ite_self, implies_true, State.each_wf, State.on_wf, apply_ite State.wf, apply_ite Res.wf, apply_ite Prod.fst, apply_ite Prod.snd, if_true]

theorem execLockWrite_wf (a0 : Src) (a1 : Page) (s : State) : ResKept (execLockWrite a0 a1 s) s := by
  unfold execLockWrite
  intro h
  simp +contextual only [h, State.plainWrite_wf, wf_next, ite_self, implies_true, State.each_wf, State.on_wf, apply_ite State.wf, apply_ite Res.wf, apply_ite Prod.fst, apply_ite Prod.snd, if_true]

theorem execVecAck_wf (a0 : Nat) (s : State) : ResKept (execVecAck a0 s) s := by
  unfold execVecAck
  intro h
  simp +contextual only [h, State.vecAck_wf, wf_next, ite_self, implies_true, State.each_wf, State.on_wf, apply_ite State.wf, apply_ite Res.wf, apply_ite Prod.fst, apply_ite Prod.snd, if_true]

theorem execTblRead_wf (a0 : Via) (a1 : Page) (a2 : Nat) (a3 : Nat) (s : State) : ResKept (execTblRead a0 a1 a2 a3 s) s := by
  unfold execTblRead
  intro h
  simp +contextual only [h, State.tblGo_wf, wf_next, ite_self, implies_true, State.each_wf, State.on_wf, apply_ite State.wf, apply_ite Res.wf, apply_ite Prod.fst, apply_ite Prod.snd, if_true]

theorem execTblWrite_wf (a0 : Via) (a1 : Page) (a2 : Nat) (a3 : Nat) (s : State) : ResKept (execTblWrite a0 a1 a2 a3 s) s := by
  unfold execTblWrite
  intro h
  simp +contextual only [h, State.tblGo_wf, wf_next, ite_self, implies_true, State.each_wf, State.on_wf, apply_ite State.wf, apply_ite Res.wf, apply_ite Prod.fst, apply_ite Prod.snd, if_true]

theorem execTblInsert_wf (a0 : Via) (a1 : Page) (a2 : Nat) (a3 : Nat) (s : State) : ResKept (execTblInsert a0 a1 a2 a3 s) s := by
  unfold execTblInsert
  intro h
  simp +contextual only [h, State.tblGo_wf, wf_next, ite_self, implies_true, State.each_wf, State.on_wf, apply_ite State.wf, apply_ite Res.wf, apply_ite Prod.fst, apply_ite Prod.snd, if_true]

theorem execTblDelete_wf (a0 : Via) (a1 : Page) (a2 : Nat) (a3 : Nat) (s : State) : ResKept (execTblDelete a0 a1 a2 a3 s) s := by
  unfold execTblDelete
  intro h
  simp +contextual only [h, State.tblGo_wf, wf_next, ite_self, implies_true, State.each_wf, State.on_wf, apply_ite State.wf, apply_ite Res.wf, apply_ite Prod.fst, apply_ite Prod.snd, if_true]

theorem execTblLookup_wf (a0 : Via) (a1 : Page) (a2 : Nat) (a3 : Nat) (s : State) : ResKept (execTblLookup a0 a1 a2 a3 s) s := by
  unfold execTblLookup
  intro h
  simp +contextual only [h, State.tblGo_wf, wf_next, ite_self, implies_true, State.each_wf, State.on_wf, apply_ite State.wf, apply_ite Res.wf, apply_ite Prod.fst, apply_ite Prod.snd, if_true]

theorem execTblNext_wf (a0 : Via) (a1 : Page) (a2 : Nat) (a3 : Nat) (s : State) : ResKept (execTblNext a0 a1 a2 a3 s) s := by
  unfold execTblNext
  intro h
  simp +contextual only [h, State.tblGo_wf, wf_next, ite_self, implies_true, State.each_wf, State.on_wf, apply_ite State.wf, apply_ite Res.wf, apply_ite Prod.fst, apply_ite Prod.snd, if_true]

theorem execTblCmpwrite_wf (a0 : Via) (a1 : Page) (a2 : Nat) (a3 : Nat) (s : State) : ResKept (execTblCmpwrite a0 a1 a2 a3 s) s := by
  unfold execTblCmpwrite
  intro h
  simp +contextual only [h, State.tblGo_wf, wf_next, ite_self, implies_true, State.each_wf, State.on_wf, apply_ite State.wf, apply_ite Res.wf, apply_ite Prod.fst, apply_ite Prod.snd, if_true]

theorem execTagCompletion_wf (s : State) : ResKept (execTagCompletion s) s := by
  unfold execTagCompletion
  intro h
  try dsimp only
  repeat' first
    | with_reducible assumption
    | with_reducible apply State.readPump_wf
    | with_reducible apply State.writeCompl_wf
    | with_reducible apply State.on_wf
    | with_reducible apply State.each_wf
    | with_reducible apply ite_wf'
    | with_reducible apply ite_reswf'
    | with_reducible apply next_wf
    | simp only [State.wf_tags]
    | (intro _)
    | split

theorem execRefclkLost_wf (a0 : Nat) (a1 : Nat) (s : State) : ResKept (execRefclkLost a0 a1 s) s := by
  unfold execRefclkLost
  intro h
  simp +contextual only [h, State.set_wf, State.disarmReturn_wf, State.switchRoot_wf, State.rootLost_wf, State.wf_clk, wf_next, ite_self, implies_true, State.each_wf, State.on_wf, apply_ite State.wf, apply_ite Res.wf, apply_ite Prod.fst, apply_ite Prod.snd, if_true]

theorem execPllRelock_wf (a0 : Nat) (s : State) : ResKept (execPllRelock a0 s) s := by
  unfold execPllRelock
  intro h
  try dsimp only
  repeat' first
    | with_reducible assumption
    | with_reducible apply State.replayGap_wf
    | with_reducible apply State.releaseClocks_wf
    | with_reducible apply State.recompute_wf
    | with_reducible apply State.set_wf
    | with_reducible apply State.on_wf
    | with_reducible apply State.each_wf
    | with_reducible apply ite_wf'
    | with_reducible apply ite_reswf'
    | with_reducible apply next_wf
    | simp only [State.wf_ft_sup]
    | (intro _)
    | split

theorem execRefGood10s_wf (s : State) : ResKept (execRefGood10s s) s := by
  unfold execRefGood10s
  intro h
  simp +contextual only [h, State.set_wf, wf_next, ite_self, implies_true, State.each_wf, State.on_wf, apply_ite State.wf, apply_ite Res.wf, apply_ite Prod.fst, apply_ite Prod.snd, if_true]

theorem execRootReturn_wf (s : State) : ResKept (execRootReturn s) s := by
  unfold execRootReturn
  intro h
  simp +contextual only [h, State.rootReturn_wf, wf_next, ite_self, implies_true, State.each_wf, State.on_wf, apply_ite State.wf, apply_ite Res.wf, apply_ite Prod.fst, apply_ite Prod.snd, if_true]

theorem execReturnFail_wf (s : State) : ResKept (execReturnFail s) s := by
  unfold execReturnFail
  intro h
  simp +contextual only [h, State.disarmReturn_wf, wf_next, ite_self, implies_true, State.each_wf, State.on_wf, apply_ite State.wf, apply_ite Res.wf, apply_ite Prod.fst, apply_ite Prod.snd, if_true]

theorem execAuxclkLost_wf (a0 : Nat) (a1 : Nat) (s : State) : ResKept (execAuxclkLost a0 a1 s) s := by
  unfold execAuxclkLost
  intro h
  try dsimp only
  repeat' first
    | with_reducible assumption
    | with_reducible apply State.auxPortsDown_wf
    | with_reducible apply State.set_wf
    | with_reducible apply State.switchRoot_wf
    | with_reducible apply State.disarmReturn_wf
    | with_reducible apply State.rootLost_wf
    | with_reducible apply State.on_wf
    | with_reducible apply State.each_wf
    | with_reducible apply ite_wf'
    | with_reducible apply ite_reswf'
    | with_reducible apply next_wf
    | simp only [State.wf_clk]
    | (intro _)
    | split

theorem execRootInputRecovered_wf (refEdges auxEdges rcCycles : Nat) (s : State) : ResKept (execRootInputRecovered refEdges auxEdges rcCycles s) s := by
  have h : Kept (((({ s with clk := { s.clk with toAux := !refGood refEdges } } : State).switchCount).set F.ROOT_STATUS_AUX_OK
      (b2n (auxGood auxEdges))).releaseClocks rcCycles) s :=
    (State.releaseClocks_wf _ _).trans ((State.set_wf _ _ _ _ _).trans (State.switchCount_wf { s with clk := _ }))
  unfold execRootInputRecovered
  refine ite_reswf id ?_
  dsimp only
  revert h
  generalize ((({ s with clk := { s.clk with toAux := !refGood refEdges } } : State).switchCount).set F.ROOT_STATUS_AUX_OK
      (b2n (auxGood auxEdges))).releaseClocks rcCycles = u
  intro h
  refine (State.replayGap_wf _).trans (ite_wf ?_ h)
  exact (State.each_wf _ _ _ fun t p => ite_wf (State.canalTrain_wf _ _) id).trans h

theorem execDramScrubPass_wf (a0 : Nat) (a1 : List Nat) (s : State) : ResKept (execDramScrubPass a0 a1 s) s := by
  unfold execDramScrubPass
  intro h
  try dsimp only
  repeat' first
    | with_reducible assumption
    | with_reducible apply State.inc_wf
    | with_reducible apply State.incP_wf
    | with_reducible apply State.blockError_wf
    | with_reducible apply State.on_wf
    | with_reducible apply State.each_wf
    | with_reducible apply ite_wf'
    | with_reducible apply ite_reswf'
    | with_reducible apply next_wf
    | simp only [State.wf_clk]
    | (intro _)
    | split

theorem execDramTrainingDone_wf (a0 : Bool) (s : State) : ResKept (execDramTrainingDone a0 s) s := by
  unfold execDramTrainingDone
  intro h
  try dsimp only
  repeat' first
    | with_reducible assumption
    | with_reducible apply State.enterOn_wf
    | with_reducible apply State.dramClear_wf
    | with_reducible apply State.set_wf
    | with_reducible apply State.blockError_wf
    | with_reducible apply State.on_wf
    | with_reducible apply State.each_wf
    | with_reducible apply ite_wf'
    | with_reducible apply ite_reswf'
    | with_reducible apply next_wf
    | (intro _)
    | split

theorem execSupRestart_wf (s : State) : ResKept (execSupRestart s) s := by
  unfold execSupRestart
  intro h
  simp +contextual only [h, State.supRestart_wf, wf_next, ite_self, implies_true, State.each_wf, State.on_wf, apply_ite State.wf, apply_ite Res.wf, apply_ite Prod.fst, apply_ite Prod.snd, if_true]

theorem execSupHold_wf (a0 : Bool) (s : State) : ResKept (execSupHold a0 s) s := by
  unfold execSupHold
  intro h
  simp +contextual only [h, State.supHold_wf, wf_next, ite_self, implies_true, State.each_wf, State.on_wf, apply_ite State.wf, apply_ite Res.wf, apply_ite Prod.fst, apply_ite Prod.snd, if_true]

theorem execSupRelease_wf (a0 : Bool) (a1 : Bool) (s : State) : ResKept (execSupRelease a0 a1 s) s := by
  unfold execSupRelease
  intro h
  simp +contextual only [h, State.supReleased_wf, State.blockError_wf, State.wf_clk, wf_next, ite_self, implies_true, State.each_wf, State.on_wf, apply_ite State.wf, apply_ite Res.wf, apply_ite Prod.fst, apply_ite Prod.snd, if_true]

theorem execChipResetGo_wf (s : State) : ResKept (execChipResetGo s) s := by
  unfold execChipResetGo
  intro h
  simp +contextual only [h, State.chipReset_wf, wf_next, ite_self, implies_true, State.each_wf, State.on_wf, apply_ite State.wf, apply_ite Res.wf, apply_ite Prod.fst, apply_ite Prod.snd, if_true]

theorem execBundleAssembly_wf (p g : Nat) (late : List Nat) (s : State) : ResKept (execBundleAssembly p g late s) s := by
  unfold execBundleAssembly
  split
  · exact id
  · split
    · exact id
    · refine (State.motShow_wf _).trans (Kept.trans (t := Prod.snd _) id (foldl_wf _ (fun (b : List (Nat × List Nat) × State) => b.2) _ (fun b x => ?_) ([], s)))
      split
      · exact State.inc_wf _ _ _ _
      · exact State.assembleOne_wf _ _ _

theorem execAntCurrentClassify_wf (a0 : Nat) (a1 : Nat) (s : State) : ResKept (execAntCurrentClassify a0 a1 s) s := by
  unfold execAntCurrentClassify
  intro h
  try dsimp only
  repeat' first
    | with_reducible assumption
    | with_reducible apply State.antTimes_wf
    | with_reducible apply State.set_wf
    | with_reducible apply State.notice_wf
    | with_reducible apply State.pwrPin_wf
    | with_reducible apply State.on_wf
    | with_reducible apply State.each_wf
    | with_reducible apply ite_wf'
    | with_reducible apply ite_reswf'
    | with_reducible apply next_wf
    | (intro _)
    | split

theorem execInterfSet_wf (a0 : Nat) (a1 : Nat) (a2 : Nat) (a3 : Nat) (a4 : Nat) (s : State) : ResKept (execInterfSet a0 a1 a2 a3 a4 s) s := by
  unfold execInterfSet
  intro h
  try dsimp only
  repeat' first
    | with_reducible assumption
    | with_reducible apply State.learnGains_wf
    | with_reducible apply State.setGains_wf
    | with_reducible apply State.interfShow_wf
    | with_reducible apply State.irq_wf
    | with_reducible apply State.set_wf
    | with_reducible apply State.on_wf
    | with_reducible apply State.each_wf
    | with_reducible apply ite_wf'
    | with_reducible apply ite_reswf'
    | with_reducible apply next_wf
    | (intro _)
    | split

theorem execInterfClear_wf (a0 : Nat) (a1 : Nat) (a2 : Nat) (a3 : Nat) (a4 : Nat) (s : State) : ResKept (execInterfClear a0 a1 a2 a3 a4 s) s := by
  unfold execInterfClear
  intro h
  try dsimp only
  repeat' first
    | with_reducible assumption
    | with_reducible apply State.learnGains_wf
    | with_reducible apply State.setGains_wf
    | with_reducible apply State.interfShow_wf
    | with_reducible apply State.set_wf
    | with_reducible apply State.on_wf
    | with_reducible apply State.each_wf
    | with_reducible apply ite_wf'
    | with_reducible apply ite_reswf'
    | with_reducible apply next_wf
    | (intro _)
    | split

theorem execAcqPass_wf (a0 : List SkySig) (s : State) : ResKept (execAcqPass a0 s) s := by
  unfold execAcqPass
  intro h
  try dsimp only
  repeat' first
    | with_reducible assumption
    | with_reducible apply State.moveGroups_wf
    | with_reducible apply State.antTimes_wf
    | with_reducible apply State.passAnt_wf
    | with_reducible apply State.set_wf
    | with_reducible apply State.on_wf
    | with_reducible apply State.each_wf
    | with_reducible apply ite_wf'
    | with_reducible apply ite_reswf'
    | with_reducible apply next_wf
    | simp only [State.wf_gn]
    | (intro _)
    | split

theorem execChannelLock_wf (a0 : Nat) (s : State) : ResKept (execChannelLock a0 s) s := by
  unfold execChannelLock
  intro h
  simp +contextual only [h, State.setChan_wf, wf_next, ite_self, implies_true, State.each_wf, State.on_wf, apply_ite State.wf, apply_ite Res.wf, apply_ite Prod.fst, apply_ite Prod.snd, if_true]

theorem execPullInTimeout_wf (a0 : Nat) (s : State) : ResKept (execPullInTimeout a0 s) s := by
  unfold execPullInTimeout
  intro h
  simp +contextual only [h, State.idleChan_wf, wf_next, ite_self, implies_true, State.each_wf, State.on_wf, apply_ite State.wf, apply_ite Res.wf, apply_ite Prod.fst, apply_ite Prod.snd, if_true]

theorem execCycleSlip_wf (a0 : Nat) (s : State) : ResKept (execCycleSlip a0 s) s := by
  unfold execCycleSlip
  intro h
  simp +contextual only [h, State.inc_wf, State.setChan_wf, wf_next, ite_self, implies_true, State.each_wf, State.on_wf, apply_ite State.wf, apply_ite Res.wf, apply_ite Prod.fst, apply_ite Prod.snd, if_true]

theorem execTrackLoss_wf (a0 : Nat) (s : State) : ResKept (execTrackLoss a0 s) s := by
  unfold execTrackLoss
  intro h
  simp +contextual only [h, State.loseChan_wf, wf_next, ite_self, implies_true, State.each_wf, State.on_wf, apply_ite State.wf, apply_ite Res.wf, apply_ite Prod.fst, apply_ite Prod.snd, if_true]

theorem execChannelRelock_wf (a0 : Nat) (s : State) : ResKept (execChannelRelock a0 s) s := by
  unfold execChannelRelock
  intro h
  simp +contextual only [h, State.setChan_wf, wf_next, ite_self, implies_true, State.each_wf, State.on_wf, apply_ite State.wf, apply_ite Res.wf, apply_ite Prod.fst, apply_ite Prod.snd, if_true]

theorem execLostTimeout_wf (a0 : Nat) (a1 : Bool) (s : State) : ResKept (execLostTimeout a0 a1 s) s := by
  unfold execLostTimeout
  intro h
  simp +contextual only [h, State.idleChan_wf, wf_next, ite_self, implies_true, State.each_wf, State.on_wf, apply_ite State.wf, apply_ite Res.wf, apply_ite Prod.fst, apply_ite Prod.snd, if_true]

theorem execPolarityResolved_wf (a0 : Nat) (s : State) : ResKept (execPolarityResolved a0 s) s := by
  unfold execPolarityResolved
  intro h
  simp +contextual only [h, State.setChan_wf, wf_next, ite_self, implies_true, State.each_wf, State.on_wf, apply_ite State.wf, apply_ite Res.wf, apply_ite Prod.fst, apply_ite Prod.snd, if_true]

theorem execMeasStrobe_wf (a0 : List MeasIn) (s : State) : ResKept (execMeasStrobe a0 s) s := by
  unfold execMeasStrobe
  intro h
  try dsimp only
  repeat' first
    | with_reducible assumption
    | with_reducible apply State.applyBase_wf
    | with_reducible apply State.latchAll_wf
    | with_reducible apply State.hostRef_wf
    | with_reducible apply State.set_wf
    | with_reducible apply State.setChan_wf
    | with_reducible apply State.on_wf
    | with_reducible apply State.each_wf
    | with_reducible apply ite_wf'
    | with_reducible apply ite_reswf'
    | with_reducible apply next_wf
    | simp only [State.wf_gn]
    | (intro _)
    | split

theorem execEpochComplete_wf (a0 : Option Nat) (a1 : List SigGeom) (s : State) : ResKept (execEpochComplete a0 a1 s) s := by
  unfold execEpochComplete
  intro h
  repeat' first
    | with_reducible assumption
    | with_reducible apply State.spoofDrops_wf
    | with_reducible apply State.consist_wf
    | with_reducible apply State.irq_wf
    | with_reducible apply State.set_wf
    | with_reducible apply State.noteArp_wf
    | with_reducible apply State.baseEffects_wf
    | with_reducible apply State.recompute_wf
    | with_reducible apply State.archive_wf
    | with_reducible apply State.qBytes_wf
    | with_reducible apply State.on_wf
    | with_reducible apply State.each_wf
    | with_reducible apply ite_wf'
    | with_reducible apply ite_reswf'
    | with_reducible apply next_wf
    | simp only [State.wf_gn]
    | (intro _)
    | split

theorem execSpoofClear_wf (s : State) : ResKept (execSpoofClear s) s := by
  unfold execSpoofClear
  intro h
  simp +contextual only [h, State.spoofClear_wf, wf_next, ite_self, implies_true, State.each_wf, State.on_wf, apply_ite State.wf, apply_ite Res.wf, apply_ite Prod.fst, apply_ite Prod.snd, if_true]

theorem execSurveyStart_wf (s : State) : ResKept (execSurveyStart s) s := by
  unfold execSurveyStart
  intro h
  simp +contextual only [h, State.surveyStart_wf, wf_next, ite_self, implies_true, State.each_wf, State.on_wf, apply_ite State.wf, apply_ite Res.wf, apply_ite Prod.fst, apply_ite Prod.snd, if_true]

theorem execSurveySecond_wf (a0 : Int) (a1 : Int) (a2 : Int) (s : State) : ResKept (execSurveySecond a0 a1 a2 s) s := by
  unfold execSurveySecond
  intro h
  simp +contextual only [h, State.surveyAdd_wf, State.surveyDone_wf, State.wf_gn, wf_next, ite_self, implies_true, State.each_wf, State.on_wf, apply_ite State.wf, apply_ite Res.wf, apply_ite Prod.fst, apply_ite Prod.snd, if_true]

theorem execSurveyTimeout_wf (s : State) : ResKept (execSurveyTimeout s) s := by
  unfold execSurveyTimeout
  intro h
  try dsimp only
  repeat' first
    | with_reducible assumption
    | with_reducible apply State.irq_wf
    | with_reducible apply State.set_wf
    | with_reducible apply State.on_wf
    | with_reducible apply State.each_wf
    | with_reducible apply ite_wf'
    | with_reducible apply ite_reswf'
    | with_reducible apply next_wf
    | (intro _)
    | split

theorem execTimeSourceMeasure_wf (a0 : Nat) (a1 : Option Int) (a2 : Bool) (a3 : Nat) (s : State) : ResKept (execTimeSourceMeasure a0 a1 a2 a3 s) s := by
  unfold execTimeSourceMeasure
  intro h
  try dsimp only
  repeat' first
    | with_reducible assumption
    | with_reducible apply State.dropSource_wf
    | with_reducible apply State.measured_wf
    | with_reducible apply State.missInterval_wf
    | with_reducible apply State.on_wf
    | with_reducible apply State.each_wf
    | with_reducible apply ite_wf'
    | with_reducible apply ite_reswf'
    | with_reducible apply next_wf
    | simp only [State.wf_tm]
    | (intro _)
    | split

theorem execSlewComplete_wf (s : State) : ResKept (execSlewComplete s) s := by
  unfold execSlewComplete
  intro h
  simp +contextual only [h, State.endSlew_wf, wf_next, ite_self, implies_true, State.each_wf, State.on_wf, apply_ite State.wf, apply_ite Res.wf, apply_ite Prod.fst, apply_ite Prod.snd, if_true]

theorem execTqEvaluate_wf (s : State) : ResKept (execTqEvaluate s) s := by
  unfold execTqEvaluate
  intro h
  try dsimp only
  repeat' first
    | with_reducible assumption
    | with_reducible apply State.set_wf
    | with_reducible apply State.recompute_wf
    | with_reducible apply State.irq_wf
    | with_reducible apply State.on_wf
    | with_reducible apply State.each_wf
    | with_reducible apply ite_wf'
    | with_reducible apply ite_reswf'
    | with_reducible apply next_wf
    | simp only [State.wf_tm]
    | (intro _)
    | split

theorem execRefusedTimeout_wf (s : State) : ResKept (execRefusedTimeout s) s := by
  unfold execRefusedTimeout
  intro h
  (repeat' split) <;> simp +contextual only [h, State.set_wf, wf_next, implies_true, State.each_wf, State.on_wf]

theorem execGapAllowExpiry_wf (s : State) : ResKept (execGapAllowExpiry s) s := by
  unfold execGapAllowExpiry
  intro h
  simp +contextual only [h, State.set_wf, wf_next, ite_self, implies_true, State.each_wf, State.on_wf, apply_ite State.wf, apply_ite Res.wf, apply_ite Prod.fst, apply_ite Prod.snd, if_true]

theorem execStepToSource_wf (s : State) : ResKept (execStepToSource s) s := by
  unfold execStepToSource
  intro h
  simp +contextual only [h, State.stepOp_wf, wf_next, ite_self, implies_true, State.each_wf, State.on_wf, apply_ite State.wf, apply_ite Res.wf, apply_ite Prod.fst, apply_ite Prod.snd, if_true]

theorem execStepByOffset_wf (a0 : Option Int) (s : State) : ResKept (execStepByOffset a0 s) s := by
  unfold execStepByOffset
  intro h
  simp +contextual only [h, State.stepOp_wf, wf_next, ite_self, implies_true, State.each_wf, State.on_wf, apply_ite State.wf, apply_ite Res.wf, apply_ite Prod.fst, apply_ite Prod.snd, if_true]

theorem execAcceptFree_wf (s : State) : ResKept (execAcceptFree s) s := by
  unfold execAcceptFree
  intro h
  simp +contextual only [h, State.stepOp_wf, wf_next, ite_self, implies_true, State.each_wf, State.on_wf, apply_ite State.wf, apply_ite Res.wf, apply_ite Prod.fst, apply_ite Prod.snd, if_true]

theorem execSlewAccept_wf (s : State) : ResKept (execSlewAccept s) s := by
  unfold execSlewAccept
  intro h
  simp +contextual only [h, State.stepOp_wf, wf_next, ite_self, implies_true, State.each_wf, State.on_wf, apply_ite State.wf, apply_ite Res.wf, apply_ite Prod.fst, apply_ite Prod.snd, if_true]

theorem execTimeStepApply_wf (s : State) : ResKept (execTimeStepApply s) s := by
  unfold execTimeStepApply
  intro h
  try dsimp only
  repeat' first
    | with_reducible assumption
    | with_reducible apply State.stepTime_wf
    | with_reducible apply State.recompute_wf
    | with_reducible apply State.acceptE_wf
    | with_reducible apply State.selectSrc_wf
    | with_reducible apply State.stepMeter_wf
    | with_reducible apply State.stepObs_wf
    | with_reducible apply State.stepMotion_wf
    | with_reducible apply State.stepAborts_wf
    | with_reducible apply State.rebaseTimers_wf
    | with_reducible apply State.rebaseLeases_wf
    | with_reducible apply State.refreeze_wf
    | with_reducible apply State.set_wf
    | with_reducible apply State.leaseShow_wf
    | with_reducible apply State.rebaseTasks_wf
    | with_reducible apply State.on_wf
    | with_reducible apply State.each_wf
    | with_reducible apply ite_wf'
    | with_reducible apply ite_reswf'
    | with_reducible apply next_wf
    | simp only [State.wf_tm]
    | (intro _)
    | split

theorem execRebaseComplete_wf (s : State) : ResKept (execRebaseComplete s) s := by
  unfold execRebaseComplete
  intro h
  try dsimp only
  repeat' first
    | with_reducible assumption
    | with_reducible apply State.set_wf
    | with_reducible apply State.irq_wf
    | with_reducible apply State.leaseShow_wf
    | with_reducible apply State.refreeze_wf
    | with_reducible apply State.rebaseHeld_wf
    | with_reducible apply State.on_wf
    | with_reducible apply State.each_wf
    | with_reducible apply ite_wf'
    | with_reducible apply ite_reswf'
    | with_reducible apply next_wf
    | simp only [State.wf_held_tm]
    | (intro _)
    | split

theorem execPpsEdge_wf (s : State) : ResKept (execPpsEdge s) s := by
  unfold execPpsEdge
  intro h
  simp +contextual only [h, State.ppsPin_wf, State.wf_tm, wf_next, ite_self, implies_true, State.each_wf, State.on_wf, apply_ite State.wf, apply_ite Res.wf, apply_ite Prod.fst, apply_ite Prod.snd, if_true]

theorem execPtpEventRx_wf (a0 : Nat) (a1 : EthFrame) (s : State) : ResKept (execPtpEventRx a0 a1 s) s := by
  unfold execPtpEventRx
  intro h
  simp +contextual only [h, State.ethTake_wf, State.ptpRx_wf, wf_next, ite_self, implies_true, State.each_wf, State.on_wf, apply_ite State.wf, apply_ite Res.wf, apply_ite Prod.fst, apply_ite Prod.snd, if_true]

theorem execPtpEventTx_wf (a0 : Nat) (a1 : Nat) (a2 : Nat) (a3 : Nat) (a4 : Bool) (s : State) : ResKept (execPtpEventTx a0 a1 a2 a3 a4 s) s := by
  unfold execPtpEventTx
  intro h
  simp +contextual only [h, State.inc_wf, State.announceTx_wf, State.ptpTx_wf, wf_next, ite_self, implies_true, State.each_wf, State.on_wf, apply_ite State.wf, apply_ite Res.wf, apply_ite Prod.fst, apply_ite Prod.snd, if_true]

theorem execTxtsPop_wf (a0 : Src) (a1 : Nat) (s : State) : ResKept (execTxtsPop a0 a1 s) s := by
  unfold execTxtsPop
  intro h
  simp +contextual only [h, State.emit_wf, State.setTxts_wf, wf_next, ite_self, implies_true, State.each_wf, State.on_wf, apply_ite State.wf, apply_ite Res.wf, apply_ite Prod.fst, apply_ite Prod.snd, if_true]

theorem execMemberEpochReady_wf (a0 : Nat) (s : State) : ResKept (execMemberEpochReady a0 s) s := by
  unfold execMemberEpochReady
  intro h
  try dsimp only
  repeat' first
    | with_reducible assumption
    | with_reducible apply State.makeReady_wf
    | with_reducible apply State.on_wf
    | with_reducible apply State.each_wf
    | with_reducible apply ite_wf'
    | with_reducible apply ite_reswf'
    | with_reducible apply next_wf
    | (intro _)
    | split

theorem execCellTake_wf (a0 : Nat) (s : State) : ResKept (execCellTake a0 s) s := by
  unfold execCellTake
  intro h
  grind [State.dropQueue_wf, State.set_wf, State.wf_rtk, wf_next]

theorem execDeadlineDrop_wf (a0 : Nat) (s : State) : ResKept (execDeadlineDrop a0 s) s := by
  unfold execDeadlineDrop
  intro h
  try dsimp only
  repeat' first
    | with_reducible assumption
    | with_reducible apply State.dropQueue_wf
    | with_reducible apply State.irq_wf
    | with_reducible apply State.inc_wf
    | with_reducible apply State.on_wf
    | with_reducible apply State.each_wf
    | with_reducible apply ite_wf'
    | with_reducible apply ite_reswf'
    | with_reducible apply next_wf
    | (intro _)
    | split

theorem execSolveComplete_wf (a0 : Nat) (a1 : Nat) (s : State) : ResKept (execSolveComplete a0 a1 s) s := by
  unfold execSolveComplete
  intro h
  try dsimp only
  repeat' first
    | with_reducible assumption
    | with_reducible apply State.inc_wf
    | with_reducible apply State.set_wf
    | with_reducible apply State.noteCost_wf
    | with_reducible apply State.rtkShow_wf
    | with_reducible apply State.releaseFix_wf
    | with_reducible apply State.on_wf
    | with_reducible apply State.each_wf
    | with_reducible apply ite_wf'
    | with_reducible apply ite_reswf'
    | with_reducible apply next_wf
    | simp only [State.wf_rtk]
    | (intro _)
    | split

theorem execCellWatchdog_wf (a0 : Nat) (s : State) : ResKept (execCellWatchdog a0 s) s := by
  unfold execCellWatchdog
  intro h
  try dsimp only
  repeat' first
    | with_reducible assumption
    | with_reducible apply State.free_wf
    | with_reducible apply State.inc_wf
    | with_reducible apply State.cellError_wf
    | with_reducible apply State.on_wf
    | with_reducible apply State.each_wf
    | with_reducible apply ite_wf'
    | with_reducible apply ite_reswf'
    | with_reducible apply next_wf
    | (intro _)
    | split

theorem execRtkCapacityEval_wf (s : State) : ResKept (execRtkCapacityEval s) s := by
  unfold execRtkCapacityEval
  intro h
  try dsimp only
  repeat' first
    | with_reducible assumption
    | with_reducible apply State.rtkShow_wf
    | with_reducible apply State.setTe_wf
    | with_reducible apply State.set_wf
    | with_reducible apply State.irq_wf
    | with_reducible apply State.notice_wf
    | with_reducible apply State.on_wf
    | with_reducible apply State.each_wf
    | with_reducible apply ite_wf'
    | with_reducible apply ite_reswf'
    | with_reducible apply next_wf
    | simp only [State.wf_rtk]
    | (intro _)
    | split

theorem execSignalAbsentTimeout_wf (a0 : Nat) (a1 : Nat) (a2 : Nat) (s : State) : ResKept (execSignalAbsentTimeout a0 a1 a2 s) s := by
  unfold execSignalAbsentTimeout
  intro h
  simp +contextual only [h, State.setRmem_wf, wf_next, ite_self, implies_true, State.each_wf, State.on_wf, apply_ite State.wf, apply_ite Res.wf, apply_ite Prod.fst, apply_ite Prod.snd, if_true]

theorem execMemberStateTimeout_wf (a0 : Nat) (s : State) : ResKept (execMemberStateTimeout a0 s) s := by
  unfold execMemberStateTimeout
  intro h
  (repeat' split) <;> simp +contextual only [h, State.rtkReset_wf, wf_next, implies_true, State.each_wf, State.on_wf]

theorem execBaseLost_wf (s : State) : ResKept (execBaseLost s) s := by
  unfold execBaseLost
  intro h
  try dsimp only
  repeat' first
    | with_reducible assumption
    | with_reducible apply State.recompute_wf
    | with_reducible apply State.notice_wf
    | with_reducible apply State.set_wf
    | with_reducible apply State.on_wf
    | with_reducible apply State.each_wf
    | with_reducible apply ite_wf'
    | with_reducible apply ite_reswf'
    | with_reducible apply next_wf
    | (intro _)
    | split

theorem execCorrBuild_wf (s : State) : ResKept (execCorrBuild s) s := by
  unfold execCorrBuild
  intro h
  try dsimp only
  repeat' first
    | with_reducible assumption
    | with_reducible apply State.inc_wf
    | with_reducible apply State.set_wf
    | with_reducible apply State.qBytes_wf
    | with_reducible apply State.on_wf
    | with_reducible apply State.each_wf
    | with_reducible apply ite_wf'
    | with_reducible apply ite_reswf'
    | with_reducible apply next_wf
    | simp only [State.wf_rtk]
    | (intro _)
    | split

theorem execCorrEntry_wf (a0 : Nat) (a1 : Nat) (s : State) : ResKept (execCorrEntry a0 a1 s) s := by
  unfold execCorrEntry
  intro h
  try dsimp only
  repeat' first
    | with_reducible assumption
    | with_reducible apply State.entryRun_wf
    | with_reducible apply State.corrAge_wf
    | with_reducible apply State.inc_wf
    | with_reducible apply State.sendZone_wf
    | with_reducible apply State.on_wf
    | with_reducible apply State.each_wf
    | with_reducible apply ite_wf'
    | with_reducible apply ite_reswf'
    | with_reducible apply next_wf
    | simp only [State.wf_rtk]
    | (intro _)
    | split

theorem execFramingLock_wf (a0 : Nat) (s : State) : ResKept (execFramingLock a0 s) s := by
  unfold execFramingLock
  intro h
  simp +contextual only [h, State.set_wf, State.setPort_wf, wf_next, ite_self, implies_true, State.each_wf, State.on_wf, apply_ite State.wf, apply_ite Res.wf, apply_ite Prod.fst, apply_ite Prod.snd, if_true]

theorem execFramingLoss_wf (a0 : Nat) (s : State) : ResKept (execFramingLoss a0 s) s := by
  unfold execFramingLoss
  intro h
  try dsimp only
  repeat' first
    | with_reducible assumption
    | with_reducible apply State.irq_wf
    | with_reducible apply State.inc_wf
    | with_reducible apply State.set_wf
    | with_reducible apply State.blockError_wf
    | with_reducible apply State.on_wf
    | with_reducible apply State.each_wf
    | with_reducible apply ite_wf'
    | with_reducible apply ite_reswf'
    | with_reducible apply next_wf
    | (intro _)
    | split

theorem execPpduTx_wf (a0 : Nat) (a1 : Nat) (a2 : Nat) (s : State) : ResKept (execPpduTx a0 a1 a2 s) s := by
  unfold execPpduTx
  intro h
  simp +contextual only [h, State.ppduTx_wf, wf_next, ite_self, implies_true, State.each_wf, State.on_wf, apply_ite State.wf, apply_ite Res.wf, apply_ite Prod.fst, apply_ite Prod.snd, if_true]

theorem execPpduRx_wf (a0 : Nat) (a1 : Nat) (a2 : PpduIn) (s : State) : ResKept (execPpduRx a0 a1 a2 s) s := by
  unfold execPpduRx
  intro h
  try dsimp only
  repeat' first
    | with_reducible assumption
    | with_reducible apply State.lnaAuto_wf
    | with_reducible apply State.inc_wf
    | with_reducible apply State.rxFrame_wf
    | with_reducible apply State.on_wf
    | with_reducible apply State.each_wf
    | with_reducible apply ite_wf'
    | with_reducible apply ite_reswf'
    | with_reducible apply next_wf
    | (intro _)
    | split

theorem execSpiTxnDone_wf (a0 : Nat) (a1 : Nat) (s : State) : ResKept (execSpiTxnDone a0 a1 s) s := by
  unfold execSpiTxnDone
  intro h
  try dsimp only
  repeat' first
    | with_reducible assumption
    | with_reducible apply State.spiShift_wf
    | with_reducible apply State.setPort_wf
    | with_reducible apply State.set_wf
    | with_reducible apply State.portError_wf
    | with_reducible apply State.on_wf
    | with_reducible apply State.each_wf
    | with_reducible apply ite_wf'
    | with_reducible apply ite_reswf'
    | with_reducible apply next_wf
    | (intro _)
    | split

theorem execHealthCheck_wf (a0 : Nat) (a1 : Nat) (s : State) : ResKept (execHealthCheck a0 a1 s) s := by
  unfold execHealthCheck
  intro h
  try dsimp only
  repeat' first
    | with_reducible assumption
    | with_reducible apply State.setPort_wf
    | with_reducible apply State.spiShift_wf
    | with_reducible apply State.set_wf
    | with_reducible apply State.recompute_wf
    | with_reducible apply State.portError_wf
    | with_reducible apply State.irq_wf
    | with_reducible apply State.inc_wf
    | with_reducible apply State.on_wf
    | with_reducible apply State.each_wf
    | with_reducible apply ite_wf'
    | with_reducible apply ite_reswf'
    | with_reducible apply next_wf
    | (intro _)
    | split

theorem execAirportStartTimeout_wf (a0 : Nat) (s : State) : ResKept (execAirportStartTimeout a0 s) s := by
  unfold execAirportStartTimeout
  intro h
  simp +contextual only [h, State.portError_wf, wf_next, ite_self, implies_true, State.each_wf, State.on_wf, apply_ite State.wf, apply_ite Res.wf, apply_ite Prod.fst, apply_ite Prod.snd, if_true]

theorem execTxPathGrant_wf (a0 : Nat) (s : State) : ResKept (execTxPathGrant a0 s) s := by
  unfold execTxPathGrant
  intro h
  try dsimp only
  repeat' first
    | with_reducible assumption
    | with_reducible apply State.set_wf
    | with_reducible apply State.setPort_wf
    | with_reducible apply State.on_wf
    | with_reducible apply State.each_wf
    | with_reducible apply ite_wf'
    | with_reducible apply ite_reswf'
    | with_reducible apply next_wf
    | (intro _)
    | split

theorem execPortSvcStart_wf (a0 : Nat) (s : State) : ResKept (execPortSvcStart a0 s) s := by
  unfold execPortSvcStart
  intro h
  simp +contextual only [h, State.svcStart_wf, wf_next, ite_self, implies_true, State.each_wf, State.on_wf, apply_ite State.wf, apply_ite Res.wf, apply_ite Prod.fst, apply_ite Prod.snd, if_true]

theorem execPortSvcFault_wf (a0 : Nat) (s : State) : ResKept (execPortSvcFault a0 s) s := by
  unfold execPortSvcFault
  intro h
  simp +contextual only [h, State.svcFault_wf, wf_next, ite_self, implies_true, State.each_wf, State.on_wf, apply_ite State.wf, apply_ite Res.wf, apply_ite Prod.fst, apply_ite Prod.snd, if_true]

theorem execSuperframeBoundary_wf (s : State) : ResKept (execSuperframeBoundary s) s := by
  unfold execSuperframeBoundary
  intro h
  try dsimp only
  repeat' first
    | with_reducible assumption
    | with_reducible apply State.set_wf
    | with_reducible apply State.missRelayed_wf
    | with_reducible apply State.switchBoundary_wf
    | with_reducible apply State.cutAtBoundary_wf
    | with_reducible apply State.keysAtBoundary_wf
    | with_reducible apply State.swapAll_wf
    | with_reducible apply State.beginSuperframe_wf
    | with_reducible apply State.on_wf
    | with_reducible apply State.each_wf
    | with_reducible apply ite_wf'
    | with_reducible apply ite_reswf'
    | with_reducible apply next_wf
    | simp only [State.wf_air]
    | (intro _)
    | split

theorem execUpFrameRx_wf (a0 : Nat) (s : State) : ResKept (execUpFrameRx a0 s) s := by
  unfold execUpFrameRx
  intro h
  try dsimp only
  repeat' first
    | with_reducible assumption
    | with_reducible apply State.rxPop_wf
    | with_reducible apply State.upRx_wf
    | with_reducible apply State.on_wf
    | with_reducible apply State.each_wf
    | with_reducible apply ite_wf'
    | with_reducible apply ite_reswf'
    | with_reducible apply next_wf
    | (intro _)
    | split

theorem execAckRx_wf (a0 : Nat) (s : State) : ResKept (execAckRx a0 s) s := by
  unfold execAckRx
  intro h
  dsimp only
  (repeat' split) <;> simp +contextual only [h, State.rxPop_wf, State.ackedFrame_wf, State.wf_air, wf_next, implies_true, State.each_wf, State.on_wf]

theorem execAckMissing_wf (a0 : Nat) (a1 : Nat) (s : State) : ResKept (execAckMissing a0 a1 s) s := by
  rw [execAckMissing.eq_def]
  intro h
  grind [State.noticeCtr_wf, State.inc_wf, State.wf_air, wf_next]

theorem execJoinReqRx_wf (a0 : Nat) (s : State) : ResKept (execJoinReqRx a0 s) s := by
  unfold execJoinReqRx
  intro h
  try dsimp only
  repeat' first
    | with_reducible assumption
    | with_reducible apply State.rxPop_wf
    | with_reducible apply State.inc_wf
    | with_reducible apply State.debugHold_wf
    | with_reducible apply State.joinRx_wf
    | with_reducible apply State.on_wf
    | with_reducible apply State.each_wf
    | with_reducible apply ite_wf'
    | with_reducible apply ite_reswf'
    | with_reducible apply next_wf
    | (intro _)
    | split

theorem execDownBcastEntry_wf (a0 : Nat) (a1 : Nat) (s : State) : ResKept (execDownBcastEntry a0 a1 s) s := by
  unfold execDownBcastEntry
  intro h
  grind [State.entryRun_wf, State.setPort_wf, State.downNext_wf, State.sendBundle_wf, wf_next]

theorem execUpEntryEnd_wf (a0 : Nat) (a1 : Nat) (s : State) : ResKept (execUpEntryEnd a0 a1 s) s := by
  unfold execUpEntryEnd
  intro h
  simp +contextual only [h, State.entryRun_wf, State.missEntry_wf, wf_next, ite_self, implies_true, State.each_wf, State.on_wf, apply_ite State.wf, apply_ite Res.wf, apply_ite Prod.fst, apply_ite Prod.snd, if_true]

theorem execRelayedFrameRx_wf (a0 : Nat) (s : State) : ResKept (execRelayedFrameRx a0 s) s := by
  unfold execRelayedFrameRx
  intro h
  try dsimp only
  repeat' first
    | with_reducible assumption
    | with_reducible apply State.rxPop_wf
    | with_reducible apply State.relayRx_wf
    | with_reducible apply State.on_wf
    | with_reducible apply State.each_wf
    | with_reducible apply ite_wf'
    | with_reducible apply ite_reswf'
    | with_reducible apply next_wf
    | (intro _)
    | split

theorem execRouteAgeTick_wf (s : State) : ResKept (execRouteAgeTick s) s := by
  unfold execRouteAgeTick
  intro h
  try dsimp only
  repeat' first
    | with_reducible assumption
    | with_reducible apply State.setAge_wf
    | with_reducible apply State.on_wf
    | with_reducible apply State.each_wf
    | with_reducible apply ite_wf'
    | with_reducible apply ite_reswf'
    | with_reducible apply next_wf
    | simp only [State.wf_rt]
    | (intro _)
    | split

theorem execRouteScanStep_wf (s : State) : ResKept (execRouteScanStep s) s := by
  unfold execRouteScanStep
  intro h
  try dsimp only
  repeat' first
    | with_reducible assumption
    | with_reducible apply State.inc_wf
    | with_reducible apply State.setRoute_wf
    | with_reducible apply State.compareShadow_wf
    | with_reducible apply State.set_wf
    | with_reducible apply State.shadowMode_wf
    | with_reducible apply State.on_wf
    | with_reducible apply State.each_wf
    | with_reducible apply ite_wf'
    | with_reducible apply ite_reswf'
    | with_reducible apply next_wf
    | simp only [State.wf_rt]
    | (intro _)
    | split

theorem execRepackComplete_wf (s : State) : ResKept (execRepackComplete s) s := by
  unfold execRepackComplete
  split
  · exact id
  · have h : Kept ({ s.set F.RT_STATUS_REPACK_BUSY 0 with rt := { s.rt with repack := none }, held := s.held.filter fun h => h.page ≠ pRT } : State) s :=
      State.set_wf s F.RT_STATUS_REPACK_BUSY 0 0 0
    dsimp only
    split
    · exact (State.each_wf _ _ _ fun u r => State.routeHeld_wf _ _).trans h
    · exact (State.each_wf _ _ _ fun u r => State.routeHeld_wf _ _).trans ((State.tblDone_wf _ _ _ _ _).trans ((State.irq_wf _ _ _).trans
        ((State.repackNow_wf _ _).trans h)))

theorem execRouteEccHoldExpiry_wf (s : State) : ResKept (execRouteEccHoldExpiry s) s := by
  unfold execRouteEccHoldExpiry
  intro h
  dsimp only
  (repeat' split) <;> simp +contextual only [h, State.shadowMode_wf, State.wf_rt, wf_next, implies_true, State.each_wf, State.on_wf]

theorem execLearnRx_wf (a0 : LearnMsg) (s : State) : ResKept (execLearnRx a0 s) s := by
  unfold execLearnRx
  intro h
  simp +contextual only [h, State.learnRx_wf, wf_next, ite_self, implies_true, State.each_wf, State.on_wf, apply_ite State.wf, apply_ite Res.wf, apply_ite Prod.fst, apply_ite Prod.snd, if_true]

theorem execFloodSeenAge_wf (a0 : Nat) (a1 : Nat) (s : State) : ResKept (execFloodSeenAge a0 a1 s) s := by
  unfold execFloodSeenAge
  intro h
  simp +contextual only [h, State.seenShow_wf, State.wf_rt, wf_next, ite_self, implies_true, State.each_wf, State.on_wf, apply_ite State.wf, apply_ite Res.wf, apply_ite Prod.fst, apply_ite Prod.snd, if_true]

theorem execBuildTimeout_wf (a0 : Nat) (s : State) : ResKept (execBuildTimeout a0 s) s := by
  unfold execBuildTimeout
  intro h
  (repeat' split) <;> simp +contextual only [h, State.inc_wf, State.dropBuild_wf, wf_next, implies_true, State.each_wf, State.on_wf]

theorem execXferDeadline_wf (a0 : Nat) (s : State) : ResKept (execXferDeadline a0 s) s := by
  unfold execXferDeadline
  intro h
  try dsimp only
  repeat' first
    | with_reducible assumption
    | with_reducible apply State.abortXfer_wf
    | with_reducible apply State.dropPart_wf
    | with_reducible apply State.freeFurrow_wf
    | with_reducible apply State.takeSeq_wf
    | with_reducible apply State.on_wf
    | with_reducible apply State.each_wf
    | with_reducible apply ite_wf'
    | with_reducible apply ite_reswf'
    | with_reducible apply next_wf
    | (intro _)
    | split

theorem execCommittedTimeout_wf (a0 : Nat) (s : State) : ResKept (execCommittedTimeout a0 s) s := by
  unfold execCommittedTimeout
  intro h
  try dsimp only
  repeat' first
    | with_reducible assumption
    | with_reducible apply State.sendRelease_wf
    | with_reducible apply State.irq_wf
    | with_reducible apply State.inc_wf
    | with_reducible apply State.takeSeq_wf
    | with_reducible apply State.freeFurrow_wf
    | with_reducible apply State.leEvent_wf
    | with_reducible apply State.motTrunc_wf
    | with_reducible apply State.on_wf
    | with_reducible apply State.each_wf
    | with_reducible apply ite_wf'
    | with_reducible apply ite_reswf'
    | with_reducible apply next_wf
    | (intro _)
    | split

theorem execStepDue_wf (a0 : Nat) (s : State) : ResKept (execStepDue a0 s) s := by
  unfold execStepDue
  intro h
  simp +contextual only [h, State.stepDue_wf, wf_next, ite_self, implies_true, State.each_wf, State.on_wf, apply_ite State.wf, apply_ite Res.wf, apply_ite Prod.fst, apply_ite Prod.snd, if_true]

theorem execReportWaitExpiry_wf (a0 : Nat) (s : State) : ResKept (execReportWaitExpiry a0 s) s := by
  unfold execReportWaitExpiry
  intro h
  simp +contextual only [h, State.toOverstay_wf, wf_next, ite_self, implies_true, State.each_wf, State.on_wf, apply_ite State.wf, apply_ite Res.wf, apply_ite Prod.fst, apply_ite Prod.snd, if_true]

theorem execLostClr_wf (a0 : Src) (s : State) : ResKept (execLostClr a0 s) s := by
  unfold execLostClr
  intro h
  simp +contextual only [h, State.lostClr_wf, wf_next, ite_self, implies_true, State.each_wf, State.on_wf, apply_ite State.wf, apply_ite Res.wf, apply_ite Prod.fst, apply_ite Prod.snd, if_true]

theorem execOwnerForfeit_wf (a0 : Nat) (s : State) : ResKept (execOwnerForfeit a0 s) s := by
  unfold execOwnerForfeit
  intro h
  simp +contextual only [h, State.forfeit_wf, wf_next, ite_self, implies_true, State.each_wf, State.on_wf, apply_ite State.wf, apply_ite Res.wf, apply_ite Prod.fst, apply_ite Prod.snd, if_true]

theorem execHostGenBump_wf (s : State) : ResKept (execHostGenBump s) s := by
  unfold execHostGenBump
  intro h
  simp +contextual only [h, State.hostBump_wf, wf_next, ite_self, implies_true, State.each_wf, State.on_wf, apply_ite State.wf, apply_ite Res.wf, apply_ite Prod.fst, apply_ite Prod.snd, if_true]

theorem execTlockStart_wf (a0 : Nat) (s : State) : ResKept (execTlockStart a0 s) s := by
  unfold execTlockStart
  intro h
  try dsimp only
  repeat' first
    | with_reducible assumption
    | with_reducible apply State.lockFollow_wf
    | with_reducible apply State.turnShow_wf
    | with_reducible apply State.leSet_wf
    | with_reducible apply State.blockOwner_wf
    | with_reducible apply State.on_wf
    | with_reducible apply State.each_wf
    | with_reducible apply ite_wf'
    | with_reducible apply ite_reswf'
    | with_reducible apply next_wf
    | (intro _)
    | split

theorem execTlockEnd_wf (a0 : Nat) (s : State) : ResKept (execTlockEnd a0 s) s := by
  unfold execTlockEnd
  intro h
  try dsimp only
  repeat' first
    | with_reducible assumption
    | with_reducible apply State.turnShow_wf
    | with_reducible apply State.leSet_wf
    | with_reducible apply State.leaseShow_wf
    | with_reducible apply State.freeLock_wf
    | with_reducible apply State.takeSeq_wf
    | with_reducible apply State.on_wf
    | with_reducible apply State.each_wf
    | with_reducible apply ite_wf'
    | with_reducible apply ite_reswf'
    | with_reducible apply next_wf
    | (intro _)
    | split

theorem execSeqTimeout_wf (a0 : Nat) (s : State) : ResKept (execSeqTimeout a0 s) s := by
  fun_cases execSeqTimeout <;> intro h <;> simp +contextual only [h, State.seqExpire_wf, wf_next, implies_true, State.each_wf, State.on_wf]

theorem execNoPositionTimeout_wf (a0 : Nat) (s : State) : ResKept (execNoPositionTimeout a0 s) s := by
  unfold execNoPositionTimeout
  intro h
  simp +contextual only [h, State.regCounts_wf, State.holdMember_wf, wf_next, ite_self, implies_true, State.each_wf, State.on_wf, apply_ite State.wf, apply_ite Res.wf, apply_ite Prod.fst, apply_ite Prod.snd, if_true]

theorem execStopInputFiltered_wf (a0 : Nat) (a1 : Bool) (s : State) : ResKept (execStopInputFiltered a0 a1 s) s := by
  unfold execStopInputFiltered
  intro h
  try dsimp only
  repeat' first
    | with_reducible assumption
    | with_reducible apply State.set_wf
    | with_reducible apply State.raiseCause_wf
    | with_reducible apply State.armCheck_wf
    | with_reducible apply State.on_wf
    | with_reducible apply State.each_wf
    | with_reducible apply ite_wf'
    | with_reducible apply ite_reswf'
    | with_reducible apply next_wf
    | simp only [State.wf_hg]
    | (intro _)
    | split

theorem execDiscrepancy_wf (s : State) : ResKept (execDiscrepancy s) s := by
  unfold execDiscrepancy
  intro h
  try dsimp only
  repeat' first
    | with_reducible assumption
    | with_reducible apply State.irq_wf
    | with_reducible apply State.inc_wf
    | with_reducible apply State.raiseCause_wf
    | with_reducible apply State.on_wf
    | with_reducible apply State.each_wf
    | with_reducible apply ite_wf'
    | with_reducible apply ite_reswf'
    | with_reducible apply next_wf
    | simp only [State.wf_hg]
    | (intro _)
    | split

theorem execBurstFrame_wf (s : State) : ResKept (execBurstFrame s) s := by
  unfold execBurstFrame
  intro h
  try dsimp only
  repeat' first
    | with_reducible assumption
    | with_reducible apply State.burstPort_wf
    | with_reducible apply State.on_wf
    | with_reducible apply State.each_wf
    | with_reducible apply ite_wf'
    | with_reducible apply ite_reswf'
    | with_reducible apply next_wf
    | (intro _)
    | split

theorem execHgBeacon_wf (a0 : Nat) (s : State) : ResKept (execHgBeacon a0 s) s := by
  unfold execHgBeacon
  intro h
  try dsimp only
  repeat' first
    | with_reducible assumption
    | with_reducible apply State.inc_wf
    | with_reducible apply State.takeNums_wf
    | with_reducible apply State.ppduAt_wf
    | with_reducible apply State.airEmit_wf
    | with_reducible apply State.on_wf
    | with_reducible apply State.each_wf
    | with_reducible apply ite_wf'
    | with_reducible apply ite_reswf'
    | with_reducible apply next_wf
    | simp only [State.wf_air]
    | (intro _)
    | split

theorem execHgKeyLoad_wf (s : State) : ResKept (execHgKeyLoad s) s := by
  unfold execHgKeyLoad
  intro h
  simp +contextual only [h, State.hgLoadKey_wf, wf_next, ite_self, implies_true, State.each_wf, State.on_wf, apply_ite State.wf, apply_ite Res.wf, apply_ite Prod.fst, apply_ite Prod.snd, if_true]

theorem execCanalStopRx_wf (a0 : Nat) (a1 : Nat) (a2 : Nat) (a3 : StopMsg) (s : State) : ResKept (execCanalStopRx a0 a1 a2 a3 s) s := by
  unfold execCanalStopRx
  intro h
  simp +contextual only [h, State.stopRx_wf, wf_next, ite_self, implies_true, State.each_wf, State.on_wf, apply_ite State.wf, apply_ite Res.wf, apply_ite Prod.fst, apply_ite Prod.snd, if_true]

theorem execOutputTestPulse_wf (a0 : Bool) (s : State) : ResKept (execOutputTestPulse a0 s) s := by
  unfold execOutputTestPulse
  intro h
  simp +contextual only [h, State.emit_wf, State.wf_hg, wf_next, ite_self, implies_true, State.each_wf, State.on_wf, apply_ite State.wf, apply_ite Res.wf, apply_ite Prod.fst, apply_ite Prod.snd, if_true]

theorem execOutputReadbackError_wf (a0 : Bool) (s : State) : ResKept (execOutputReadbackError a0 s) s := by
  unfold execOutputReadbackError
  intro h
  simp +contextual only [h, State.set_wf, State.blockError_wf, wf_next, ite_self, implies_true, State.each_wf, State.on_wf, apply_ite State.wf, apply_ite Res.wf, apply_ite Prod.fst, apply_ite Prod.snd, if_true]

theorem execResumeArm_wf (s : State) : ResKept (execResumeArm s) s := by
  unfold execResumeArm
  intro h
  simp +contextual only [h, State.resumeArm_wf, wf_next, ite_self, implies_true, State.each_wf, State.on_wf, apply_ite State.wf, apply_ite Res.wf, apply_ite Prod.fst, apply_ite Prod.snd, if_true]

theorem execResumeRelease_wf (a0 : Nat) (s : State) : ResKept (execResumeRelease a0 s) s := by
  unfold execResumeRelease
  intro h
  simp +contextual only [h, State.resumeRelease_wf, wf_next, ite_self, implies_true, State.each_wf, State.on_wf, apply_ite State.wf, apply_ite Res.wf, apply_ite Prod.fst, apply_ite Prod.snd, if_true]

theorem execArmWindowExpiry_wf (s : State) : ResKept (execArmWindowExpiry s) s := by
  fun_cases execArmWindowExpiry <;> intro h <;> simp +contextual only [h, State.disarm_wf, wf_next, implies_true, State.each_wf, State.on_wf]

theorem execHgSelftest_wf (a0 : Bool) (s : State) : ResKept (execHgSelftest a0 s) s := by
  unfold execHgSelftest
  intro h
  simp +contextual only [h, State.inc_wf, State.blockError_wf, State.wf_hg, wf_next, ite_self, implies_true, State.each_wf, State.on_wf, apply_ite State.wf, apply_ite Res.wf, apply_ite Prod.fst, apply_ite Prod.snd, if_true]

theorem State.gateCleared_wf (t : State) (y : SupplySt) (z : HgSt) : Kept { t with
    regs := AMap.clearRange t.regs pHG.base (pHG.base + 0x1000),
    ctrs := AMap.clearRange t.ctrs pHG.base (pHG.base + 0x1000), sup := y, hg := z } t :=
  (State.keep_ctrs { t with regs := AMap.clearRange t.regs pHG.base (pHG.base + 0x1000) } _ (AMap.wf_clearRange _ _ _ _)).trans
    (State.keep_regs t _ (AMap.wf_clearRange _ _ _ _))
theorem execVddGateLoss_wf (s : State) : ResKept (execVddGateLoss s) s := by
  unfold execVddGateLoss
  refine ite_reswf id ?_
  have h := (State.handOver_wf s.outsLow (evCode 0 I.HEADGATE_GATE_FAULT)).trans (State.outsLow_wf s)
  dsimp only
  revert h
  generalize s.outsLow.handOver (evCode 0 I.HEADGATE_GATE_FAULT) = u
  intro h
  have h2 := (State.gateCleared_wf u { u.sup with vddGate := false } {}).trans h
  revert h2
  generalize ({ u with regs := AMap.clearRange u.regs pHG.base (pHG.base + 0x1000), ctrs := AMap.clearRange u.ctrs pHG.base (pHG.base + 0x1000), sup := { u.sup with vddGate := false }, hg := {} } : State) = v
  intro h2
  exact (State.recompute_wf _).trans ((State.each_wf _ _ _ fun t p => State.set_wf _ _ _ _ _).trans h2)

theorem execHgPowerOn_wf (ok : Bool) (s : State) : ResKept (execHgPowerOn ok s) s := by
  unfold execHgPowerOn
  have h : ∀ t : State, Kept (((t.inc C.HEADGATE_SELFTEST_RUNS).goState pHG stStarting).goState pHG stOn) t := fun t =>
    (State.goState_wf _ _ _).trans ((State.goState_wf _ _ _).trans (State.inc_wf _ _ _ _))
  exact ite_wf ((h _).trans (State.gateCleared_wf s _ _)) ((State.blockError_wf _ _ _ _ _ _ _ _).trans ((h _).trans (State.gateCleared_wf s _ _)))

theorem execDpTake_wf (core : Nat) (s : State) : ResKept (execDpTake core s) s := by
  unfold execDpTake
  dsimp only
  split
  · exact State.emit_wf _ _
  · split
    · rename_i h _
      have ht := State.choose_wf s _ _ h
      exact (State.emit_wf _ _).trans ((State.traceItem_wf _ _ _ _).trans ((State.intoCtx_wf _ _ _ _).trans ht))
    · exact State.emit_wf _ _

theorem execItemDone_wf (a0 : Nat) (a1 : Nat) (s : State) : ResKept (execItemDone a0 a1 s) s := by
  unfold execItemDone
  intro h
  try dsimp only
  repeat' first
    | with_reducible assumption
    | with_reducible apply State.traceItem_wf
    | with_reducible apply State.inc_wf
    | with_reducible apply State.setItem_wf
    | with_reducible apply State.releaseFlow_wf
    | with_reducible apply State.endCtx_wf
    | with_reducible apply State.resumed_wf
    | with_reducible apply State.on_wf
    | with_reducible apply State.each_wf
    | with_reducible apply ite_wf'
    | with_reducible apply ite_reswf'
    | with_reducible apply next_wf
    | (intro _)
    | split

theorem execEmitCmd_wf (a0 : Nat) (a1 : Nat) (a2 : Nat) (a3 : Nat) (a4 : Nat) (a5 : Nat) (a6 : List Nat) (s : State) : ResKept (execEmitCmd a0 a1 a2 a3 a4 a5 a6 s) s := by
  unfold execEmitCmd
  intro h
  try dsimp only
  repeat' first
    | with_reducible assumption
    | with_reducible apply State.emitResult_wf
    | with_reducible apply State.dispShow_wf
    | with_reducible apply State.setItem_wf
    | with_reducible apply State.on_wf
    | with_reducible apply State.each_wf
    | with_reducible apply ite_wf'
    | with_reducible apply ite_reswf'
    | with_reducible apply next_wf
    | (intro _)
    | split

theorem execItemTimeout_wf (a0 : Nat) (a1 : Nat) (s : State) : ResKept (execItemTimeout a0 a1 s) s := by
  unfold execItemTimeout
  intro h
  dsimp only
  (repeat' split) <;> simp +contextual only [h, State.emit_wf, State.abortItem_wf, wf_next, implies_true, State.each_wf, State.on_wf]

theorem execTimerFire_wf (a0 : Nat) (s : State) : ResKept (execTimerFire a0 s) s := by
  unfold execTimerFire
  intro h
  grind [State.offer_wf, State.inc_wf, State.setTe_wf, wf_next]

theorem execTraceSync_wf (s : State) : ResKept (execTraceSync s) s := by
  unfold execTraceSync
  intro h
  simp +contextual only [h, State.traceRec_wf, State.wf_disp, wf_next, ite_self, implies_true, State.each_wf, State.on_wf, apply_ite State.wf, apply_ite Res.wf, apply_ite Prod.fst, apply_ite Prod.snd, if_true]

theorem execTaskDeadline_wf (a0 : Nat) (s : State) : ResKept (execTaskDeadline a0 s) s := by
  unfold execTaskDeadline
  intro h
  simp +contextual only [h, State.taskDeadline_wf, wf_next, ite_self, implies_true, State.each_wf, State.on_wf, apply_ite State.wf, apply_ite Res.wf, apply_ite Prod.fst, apply_ite Prod.snd, if_true]

theorem execChargeEnergyTick_wf (s : State) : ResKept (execChargeEnergyTick s) s := by
  unfold execChargeEnergyTick
  intro h
  try dsimp only
  repeat' first
    | with_reducible assumption
    | with_reducible apply State.chargeTick_wf
    | with_reducible apply State.on_wf
    | with_reducible apply State.each_wf
    | with_reducible apply ite_wf'
    | with_reducible apply ite_reswf'
    | with_reducible apply next_wf
    | simp only [State.wf_disp]
    | (intro _)
    | split

theorem execArbRequest_wf (a0 : Nat) (a1 : Nat) (a2 : Nat) (a3 : Bool) (a4 : Option Page) (s : State) : ResKept (execArbRequest a0 a1 a2 a3 a4 s) s := by
  unfold execArbRequest
  intro h
  simp +contextual only [h, State.incP_wf, State.emit_wf, State.arbSettle_wf, State.setArb_wf, State.arbShow_wf, State.arbDecide_wf, wf_next, ite_self, implies_true, State.each_wf, State.on_wf, apply_ite State.wf, apply_ite Res.wf, apply_ite Prod.fst, apply_ite Prod.snd, if_true]

theorem execArbGrantEnd_wf (a0 : Nat) (s : State) : ResKept (execArbGrantEnd a0 s) s := by
  unfold execArbGrantEnd
  intro h
  grind [State.arbSettle_wf, State.arbDecide_wf, State.arbShow_wf, State.setArb_wf, wf_next]

theorem execArbWithdraw_wf (a0 : Nat) (a1 : Nat) (a2 : Option Nat) (s : State) : ResKept (execArbWithdraw a0 a1 a2 s) s := by
  unfold execArbWithdraw
  intro h
  try dsimp only
  repeat' first
    | with_reducible assumption
    | with_reducible apply State.arbSettle_wf
    | with_reducible apply State.arbShow_wf
    | with_reducible apply State.setArb_wf
    | with_reducible apply State.incP_wf
    | with_reducible apply State.on_wf
    | with_reducible apply State.each_wf
    | with_reducible apply ite_wf'
    | with_reducible apply ite_reswf'
    | with_reducible apply next_wf
    | (intro _)
    | split

theorem execQuotaWindow_wf (a0 : Nat) (s : State) : ResKept (execQuotaWindow a0 s) s := by
  unfold execQuotaWindow
  intro h
  try dsimp only
  repeat' first
    | with_reducible assumption
    | with_reducible apply State.arbSettle_wf
    | with_reducible apply State.arbShow_wf
    | with_reducible apply State.setArb_wf
    | with_reducible apply State.on_wf
    | with_reducible apply State.each_wf
    | with_reducible apply ite_wf'
    | with_reducible apply ite_reswf'
    | with_reducible apply next_wf
    | (intro _)
    | split

theorem execFreezeWrite_wf (a0 : Nat) (a1 : Src) (a2 : Bool) (s : State) : ResKept (execFreezeWrite a0 a1 a2 s) s := by
  unfold execFreezeWrite
  intro h
  simp +contextual only [h, State.freezeWrite_wf, wf_next, ite_self, implies_true, State.each_wf, State.on_wf, apply_ite State.wf, apply_ite Res.wf, apply_ite Prod.fst, apply_ite Prod.snd, if_true]

theorem execFreezeTimeout_wf (a0 : Nat) (s : State) : ResKept (execFreezeTimeout a0 s) s := by
  unfold execFreezeTimeout
  intro h
  try dsimp only
  repeat' first
    | with_reducible assumption
    | with_reducible apply State.arbThaw_wf
    | with_reducible apply State.notice_wf
    | with_reducible apply State.incP_wf
    | with_reducible apply State.on_wf
    | with_reducible apply State.each_wf
    | with_reducible apply ite_wf'
    | with_reducible apply ite_reswf'
    | with_reducible apply next_wf
    | (intro _)
    | split

theorem execLwClr_wf (a0 : Nat) (a1 : Nat) (s : State) : ResKept (execLwClr a0 a1 s) s := by
  unfold execLwClr
  intro h
  simp +contextual only [h, State.lwClr_wf, wf_next, ite_self, implies_true, State.each_wf, State.on_wf, apply_ite State.wf, apply_ite Res.wf, apply_ite Prod.fst, apply_ite Prod.snd, if_true]

theorem execPcieLinkDown_wf (a0 : Bool) (s : State) : ResKept (execPcieLinkDown a0 s) s := by
  unfold execPcieLinkDown
  intro h
  simp +contextual only [h, State.pcieDown_wf, State.hostBump_wf, State.pcieReset_wf, wf_next, ite_self, implies_true, State.each_wf, State.on_wf, apply_ite State.wf, apply_ite Res.wf, apply_ite Prod.fst, apply_ite Prod.snd, if_true]

theorem execPcieFlr_wf (s : State) : ResKept (execPcieFlr s) s := by
  unfold execPcieFlr
  intro h
  try dsimp only
  repeat' first
    | with_reducible assumption
    | with_reducible apply State.set_wf
    | with_reducible apply State.hostBump_wf
    | with_reducible apply State.inc_wf
    | with_reducible apply State.on_wf
    | with_reducible apply State.each_wf
    | with_reducible apply ite_wf'
    | with_reducible apply ite_reswf'
    | with_reducible apply next_wf
    | simp only [State.wf_vecMask]
    | (intro _)
    | split

theorem execFlumeFrameRx_wf (a0 : Nat) (a1 : EthFrame) (a2 : ImgSeen) (s : State) : ResKept (execFlumeFrameRx a0 a1 a2 s) s := by
  unfold execFlumeFrameRx
  intro h
  simp +contextual only [h, State.flumeIn_wf, State.inc_wf, State.ethTake_wf, State.xoff_wf, State.setEth_wf, State.flumePort_wf, State.ethDrain_wf, wf_next, ite_self, implies_true, State.each_wf, State.on_wf, apply_ite State.wf, apply_ite Res.wf, apply_ite Prod.fst, apply_ite Prod.snd, if_true]

theorem execCreditRx_wf (a0 : Nat) (a1 : Nat) (a2 : List Credit) (s : State) : ResKept (execCreditRx a0 a1 a2 s) s := by
  unfold execCreditRx
  intro h
  try dsimp only
  repeat' first
    | with_reducible assumption
    | with_reducible apply State.inc_wf
    | with_reducible apply State.creditRx_wf
    | with_reducible apply State.on_wf
    | with_reducible apply State.each_wf
    | with_reducible apply ite_wf'
    | with_reducible apply ite_reswf'
    | with_reducible apply next_wf
    | (intro _)
    | split

theorem execFlumeFlush_wf (a0 : Nat) (s : State) : ResKept (execFlumeFlush a0 s) s := by
  unfold execFlumeFlush
  intro h
  try dsimp only
  repeat' first
    | with_reducible assumption
    | with_reducible apply State.markStall_wf
    | with_reducible apply State.qPump_wf
    | with_reducible apply State.setQ_wf
    | with_reducible apply State.on_wf
    | with_reducible apply State.each_wf
    | with_reducible apply ite_wf'
    | with_reducible apply ite_reswf'
    | with_reducible apply next_wf
    | (intro _)
    | split

theorem execFlumeRetxTimeout_wf (a0 : Nat) (s : State) : ResKept (execFlumeRetxTimeout a0 s) s := by
  unfold execFlumeRetxTimeout
  intro h
  try dsimp only
  repeat' first
    | with_reducible assumption
    | with_reducible apply State.setQ_wf
    | with_reducible apply State.sendFrame_wf
    | with_reducible apply State.on_wf
    | with_reducible apply State.each_wf
    | with_reducible apply ite_wf'
    | with_reducible apply ite_reswf'
    | with_reducible apply next_wf
    | (intro _)
    | split

theorem execCreditSend_wf (s : State) : ResKept (execCreditSend s) s := by
  unfold execCreditSend
  intro h
  simp +contextual only [h, State.sendCredit_wf, wf_next, ite_self, implies_true, State.each_wf, State.on_wf, apply_ite State.wf, apply_ite Res.wf, apply_ite Prod.fst, apply_ite Prod.snd, if_true]

theorem execHostTimeout_wf (s : State) : ResKept (execHostTimeout s) s := by
  unfold execHostTimeout
  intro h
  simp +contextual only [h, State.irq_wf, State.set_wf, wf_next, ite_self, implies_true, State.each_wf, State.on_wf, apply_ite State.wf, apply_ite Res.wf, apply_ite Prod.fst, apply_ite Prod.snd, if_true]

theorem execFlumeStall_wf (a0 : Nat) (s : State) : ResKept (execFlumeStall a0 s) s := by
  unfold execFlumeStall
  intro h
  dsimp only
  (repeat' split) <;> simp +contextual only [h, State.markStall_wf, State.setQ_wf, State.qevent_wf, wf_next, implies_true, State.each_wf, State.on_wf]

theorem execQevClr_wf (a0 : Nat) (s : State) : ResKept (execQevClr a0 s) s := by
  unfold execQevClr
  intro h
  simp +contextual only [h, State.qevClr_wf, wf_next, ite_self, implies_true, State.each_wf, State.on_wf, apply_ite State.wf, apply_ite Res.wf, apply_ite Prod.fst, apply_ite Prod.snd, if_true]

theorem execPfcRx_wf (a0 : Nat) (a1 : Nat) (a2 : List Nat) (s : State) : ResKept (execPfcRx a0 a1 a2 s) s := by
  unfold execPfcRx
  intro h
  try dsimp only
  repeat' first
    | with_reducible assumption
    | with_reducible apply State.inc_wf
    | with_reducible apply State.pfcPrio_wf
    | with_reducible apply State.on_wf
    | with_reducible apply State.each_wf
    | with_reducible apply ite_wf'
    | with_reducible apply ite_reswf'
    | with_reducible apply next_wf
    | (intro _)
    | split

theorem execPfcXoffRepeat_wf (a0 : Nat) (s : State) : ResKept (execPfcXoffRepeat a0 s) s := by
  unfold execPfcXoffRepeat
  intro h
  simp +contextual only [h, State.xoff_wf, State.ethDrain_wf, wf_next, ite_self, implies_true, State.each_wf, State.on_wf, apply_ite State.wf, apply_ite Res.wf, apply_ite Prod.fst, apply_ite Prod.snd, if_true]

theorem execEthLinkChange_wf (a0 : Nat) (a1 : Bool) (a2 : Bool) (s : State) : ResKept (execEthLinkChange a0 a1 a2 s) s := by
  unfold execEthLinkChange
  intro h
  simp +contextual only [h, State.ethLink_wf, wf_next, ite_self, implies_true, State.each_wf, State.on_wf, apply_ite State.wf, apply_ite Res.wf, apply_ite Prod.fst, apply_ite Prod.snd, if_true]

theorem execCanalTrained_wf (a0 : Nat) (a1 : Hello) (a2 : Bool) (s : State) : ResKept (execCanalTrained a0 a1 a2 s) s := by
  unfold execCanalTrained
  intro h
  try dsimp only
  repeat' first
    | with_reducible assumption
    | with_reducible apply State.set_wf
    | with_reducible apply State.irq_wf
    | with_reducible apply State.inc_wf
    | with_reducible apply State.setCport_wf
    | with_reducible apply State.mapLink_wf
    | with_reducible apply State.ctrlOut_wf
    | with_reducible apply State.roleCheck_wf
    | with_reducible apply State.enumStart_wf
    | with_reducible apply State.on_wf
    | with_reducible apply State.each_wf
    | with_reducible apply ite_wf'
    | with_reducible apply ite_reswf'
    | with_reducible apply next_wf
    | (intro _)
    | split

theorem execCanalTrainTimeout_wf (a0 : Nat) (s : State) : ResKept (execCanalTrainTimeout a0 s) s := by
  unfold execCanalTrainTimeout
  intro h
  simp +contextual only [h, State.canalTrain_wf, State.inc_wf, wf_next, ite_self, implies_true, State.each_wf, State.on_wf, apply_ite State.wf, apply_ite Res.wf, apply_ite Prod.fst, apply_ite Prod.snd, if_true]

theorem execCanalLinkFail_wf (a0 : Nat) (a1 : Bool) (s : State) : ResKept (execCanalLinkFail a0 a1 s) s := by
  unfold execCanalLinkFail
  intro h
  simp +contextual only [h, State.canalLeave_wf, wf_next, ite_self, implies_true, State.each_wf, State.on_wf, apply_ite State.wf, apply_ite Res.wf, apply_ite Prod.fst, apply_ite Prod.snd, if_true]

theorem execCanalReplayTimeout_wf (a0 : Nat) (s : State) : ResKept (execCanalReplayTimeout a0 s) s := by
  unfold execCanalReplayTimeout
  intro h
  try dsimp only
  repeat' first
    | with_reducible assumption
    | with_reducible apply State.inc_wf
    | with_reducible apply State.emit_wf
    | with_reducible apply State.setCport_wf
    | with_reducible apply State.on_wf
    | with_reducible apply State.each_wf
    | with_reducible apply ite_wf'
    | with_reducible apply ite_reswf'
    | with_reducible apply next_wf
    | (intro _)
    | split

theorem execTimeMessageRx_wf (a0 : Nat) (a1 : Nat) (a2 : Nat) (a3 : Nat) (a4 : Nat) (a5 : Nat) (a6 : Nat) (a7 : Nat) (a8 : Nat) (a9 : Nat) (a10 : Nat) (s : State) : ResKept (execTimeMessageRx a0 a1 a2 a3 a4 a5 a6 a7 a8 a9 a10 s) s := by
  unfold execTimeMessageRx
  intro h
  simp +contextual only [h, State.inc_wf, State.canalHeard_wf, State.canalOut_wf, State.wf_tm, wf_next, ite_self, implies_true, State.each_wf, State.on_wf, apply_ite State.wf, apply_ite Res.wf, apply_ite Prod.fst, apply_ite Prod.snd, if_true]

theorem execCanalMessageRx_wf (a0 : Nat) (a1 : CanalMsg) (a2 : WrExt) (s : State) : ResKept (execCanalMessageRx a0 a1 a2 s) s := by
  unfold execCanalMessageRx
  intro h
  try dsimp only
  repeat' first
    | with_reducible assumption
    | with_reducible apply State.flitsFreed_wf
    | with_reducible apply State.stopRx_wf
    | with_reducible apply execTimeMessageRx_wf
    | with_reducible apply State.canalHeard_wf
    | with_reducible apply State.inc_wf
    | with_reducible apply State.learnRx_wf
    | with_reducible apply State.canalOut_wf
    | with_reducible apply State.deliver_wf
    | with_reducible apply State.onward_wf
    | with_reducible apply State.on_wf
    | with_reducible apply State.each_wf
    | with_reducible apply ite_wf'
    | with_reducible apply ite_reswf'
    | with_reducible apply next_wf
    | (intro _)
    | split

theorem execEnumRx_wf (a0 : Nat) (a1 : Nat) (a2 : Bool) (s : State) : ResKept (execEnumRx a0 a1 a2 s) s := by
  unfold execEnumRx
  intro h
  try dsimp only
  repeat' first
    | with_reducible assumption
    | with_reducible apply State.set_wf
    | with_reducible apply State.ringShow_wf
    | with_reducible apply State.ringMismatch_wf
    | with_reducible apply State.enumOn_wf
    | with_reducible apply State.learnPositions_wf
    | with_reducible apply State.offerNumber_wf
    | with_reducible apply State.on_wf
    | with_reducible apply State.each_wf
    | with_reducible apply ite_wf'
    | with_reducible apply ite_reswf'
    | with_reducible apply next_wf
    | simp only [State.wf_canal]
    | (intro _)
    | split

theorem execEnumTimeout_wf (s : State) : ResKept (execEnumTimeout s) s := by
  unfold execEnumTimeout
  intro h
  dsimp only
  (repeat' split) <;> simp +contextual only [h, State.ctrlOut_wf, State.wf_canal, wf_next, implies_true, State.each_wf, State.on_wf]

theorem execRingNoticeRx_wf (a0 : Nat) (a1 : Nat) (a2 : Bool) (s : State) : ResKept (execRingNoticeRx a0 a1 a2 s) s := by
  unfold execRingNoticeRx
  intro h
  try dsimp only
  repeat' first
    | with_reducible assumption
    | with_reducible apply State.mapLink_wf
    | with_reducible apply State.irq_wf
    | with_reducible apply State.ctrlOut_wf
    | with_reducible apply State.enumStart_wf
    | with_reducible apply State.on_wf
    | with_reducible apply State.each_wf
    | with_reducible apply ite_wf'
    | with_reducible apply ite_reswf'
    | with_reducible apply next_wf
    | (intro _)
    | split

theorem execIsland_wf (s : State) : ResKept (execIsland s) s := by
  unfold execIsland
  intro h
  try dsimp only
  repeat' first
    | with_reducible assumption
    | with_reducible apply State.notice_wf
    | with_reducible apply State.inc_wf
    | with_reducible apply State.set_wf
    | with_reducible apply State.raiseCause_wf
    | with_reducible apply State.on_wf
    | with_reducible apply State.each_wf
    | with_reducible apply ite_wf'
    | with_reducible apply ite_reswf'
    | with_reducible apply next_wf
    | (intro _)
    | split

theorem execDelayReq_wf (a0 : Nat) (s : State) : ResKept (execDelayReq a0 s) s := by
  unfold execDelayReq
  intro h
  simp +contextual only [h, State.ctrlOut_wf, State.setCport_wf, wf_next, ite_self, implies_true, State.each_wf, State.on_wf, apply_ite State.wf, apply_ite Res.wf, apply_ite Prod.fst, apply_ite Prod.snd, if_true]

theorem execDelayRespRx_wf (a0 : Nat) (a1 : Nat) (a2 : Nat) (a3 : Nat) (s : State) : ResKept (execDelayRespRx a0 a1 a2 a3 s) s := by
  unfold execDelayRespRx
  intro h
  try dsimp only
  repeat' first
    | with_reducible assumption
    | with_reducible apply State.setCport_wf
    | with_reducible apply State.set_wf
    | with_reducible apply State.on_wf
    | with_reducible apply State.each_wf
    | with_reducible apply ite_wf'
    | with_reducible apply ite_reswf'
    | with_reducible apply next_wf
    | (intro _)
    | split

theorem execTimeMessageSend_wf (s : State) : ResKept (execTimeMessageSend s) s := by
  unfold execTimeMessageSend
  intro h
  simp +contextual only [h, State.canalBroadcast_wf, State.wf_canal, wf_next, ite_self, implies_true, State.each_wf, State.on_wf, apply_ite State.wf, apply_ite Res.wf, apply_ite Prod.fst, apply_ite Prod.snd, if_true]

theorem execPeerAlivePulse_wf (s : State) : ResKept (execPeerAlivePulse s) s := by
  unfold execPeerAlivePulse
  intro h
  simp +contextual only [h, State.readyShow_wf, State.emit_wf, State.wf_pair, wf_next, ite_self, implies_true, State.each_wf, State.on_wf, apply_ite State.wf, apply_ite Res.wf, apply_ite Prod.fst, apply_ite Prod.snd, if_true]

theorem execPeerPulseRx_wf (a0 : Nat) (s : State) : ResKept (execPeerPulseRx a0 s) s := by
  unfold execPeerPulseRx
  intro h
  grind [State.setPeer_wf, State.wf_pair, wf_next]

theorem execPeerPulseMissed_wf (s : State) : ResKept (execPeerPulseMissed s) s := by
  unfold execPeerPulseMissed
  intro h
  simp +contextual only [h, State.setPeer_wf, State.inc_wf, wf_next, ite_self, implies_true, State.each_wf, State.on_wf, apply_ite State.wf, apply_ite Res.wf, apply_ite Prod.fst, apply_ite Prod.snd, if_true]

theorem execPairResetRole_wf (s : State) : ResKept (execPairResetRole s) s := by
  unfold execPairResetRole
  intro h
  simp +contextual only [h, State.goPair_wf, State.claim_wf, State.goCold_wf, State.wf_pair, wf_next, ite_self, implies_true, State.each_wf, State.on_wf, apply_ite State.wf, apply_ite Res.wf, apply_ite Prod.fst, apply_ite Prod.snd, if_true]

theorem execClaimCheck_wf (s : State) : ResKept (execClaimCheck s) s := by
  unfold execClaimCheck
  intro h
  dsimp only
  (repeat' split) <;> simp +contextual only [h, State.claimConflict_wf, State.gateShow_wf, State.wf_pair, wf_next, implies_true, State.each_wf, State.on_wf]

theorem execClaimLineChange_wf (a0 : Bool) (s : State) : ResKept (execClaimLineChange a0 s) s := by
  unfold execClaimLineChange
  intro h
  try dsimp only
  repeat' first
    | with_reducible assumption
    | with_reducible apply State.set_wf
    | with_reducible apply State.claimConflict_wf
    | with_reducible apply State.gateShow_wf
    | with_reducible apply State.switchNew_wf
    | with_reducible apply State.on_wf
    | with_reducible apply State.each_wf
    | with_reducible apply ite_wf'
    | with_reducible apply ite_reswf'
    | with_reducible apply next_wf
    | simp only [State.wf_pair]
    | (intro _)
    | split

theorem execPairWarm_wf (a0 : Bool) (s : State) : ResKept (execPairWarm a0 s) s := by
  unfold execPairWarm
  intro h
  simp +contextual only [h, State.warm_wf, wf_next, ite_self, implies_true, State.each_wf, State.on_wf, apply_ite State.wf, apply_ite Res.wf, apply_ite Prod.fst, apply_ite Prod.snd, if_true]

theorem execPairTake_wf (s : State) : ResKept (execPairTake s) s := by
  unfold execPairTake
  intro h
  simp +contextual only [h, State.take_wf, wf_next, ite_self, implies_true, State.each_wf, State.on_wf, apply_ite State.wf, apply_ite Res.wf, apply_ite Prod.fst, apply_ite Prod.snd, if_true]

theorem execTakeoverStart_wf (s : State) : ResKept (execTakeoverStart s) s := by
  unfold execTakeoverStart
  intro h
  try dsimp only
  repeat' first
    | with_reducible assumption
    | with_reducible apply State.readyShow_wf
    | with_reducible apply State.inc_wf
    | with_reducible apply State.goPair_wf
    | with_reducible apply State.claim_wf
    | with_reducible apply State.switchEnds_wf
    | with_reducible apply State.setP_wf
    | with_reducible apply State.startRegions_wf
    | with_reducible apply State.on_wf
    | with_reducible apply State.each_wf
    | with_reducible apply ite_wf'
    | with_reducible apply ite_reswf'
    | with_reducible apply next_wf
    | simp only [State.wf_pair]
    | (intro _)
    | split

theorem execTakeoverLoaded_wf (s : State) : ResKept (execTakeoverLoaded s) s := by
  unfold execTakeoverLoaded
  intro h
  grind [State.decidePast_wf, State.bumpSources_wf, State.loadCheckpoint_wf, State.wf_pair, wf_next]

theorem execPartnerAckTimeout_wf (s : State) : ResKept (execPartnerAckTimeout s) s := by
  unfold execPartnerAckTimeout
  intro h
  try dsimp only
  repeat' first
    | with_reducible assumption
    | with_reducible apply State.notice_wf
    | with_reducible apply State.set_wf
    | with_reducible apply State.inc_wf
    | with_reducible apply State.pairSend_wf
    | with_reducible apply State.deltaAcked_wf
    | with_reducible apply State.on_wf
    | with_reducible apply State.each_wf
    | with_reducible apply ite_wf'
    | with_reducible apply ite_reswf'
    | with_reducible apply next_wf
    | simp only [State.wf_pair]
    | (intro _)
    | split

theorem execPairStatusSend_wf (s : State) : ResKept (execPairStatusSend s) s := by
  unfold execPairStatusSend
  intro h
  simp +contextual only [h, State.set_wf, State.pairSend_wf, State.wf_pair, wf_next, ite_self, implies_true, State.each_wf, State.on_wf, apply_ite State.wf, apply_ite Res.wf, apply_ite Prod.fst, apply_ite Prod.snd, if_true]

theorem execPairSwitch_wf (s : State) : ResKept (execPairSwitch s) s := by
  unfold execPairSwitch
  intro h
  simp +contextual only [h, State.switchCmd_wf, wf_next, ite_self, implies_true, State.each_wf, State.on_wf, apply_ite State.wf, apply_ite Res.wf, apply_ite Prod.fst, apply_ite Prod.snd, if_true]

theorem execRevertHoldoffExpiry_wf (s : State) : ResKept (execRevertHoldoffExpiry s) s := by
  fun_cases execRevertHoldoffExpiry <;> intro h <;> simp +contextual only [h, State.warm_wf, State.wf_pair, wf_next, implies_true, State.each_wf, State.on_wf]

theorem execRevertRequest_wf (s : State) : ResKept (execRevertRequest s) s := by
  unfold execRevertRequest
  intro h
  simp +contextual only [h, State.pairSend_wf, State.wf_pair, wf_next, ite_self, implies_true, State.each_wf, State.on_wf, apply_ite State.wf, apply_ite Res.wf, apply_ite Prod.fst, apply_ite Prod.snd, if_true]

theorem execMeterWindow_wf (w : MeterWin) (s : State) : ResKept (execMeterWindow w s) s := by
  unfold execMeterWindow
  split
  · exact id
  · refine (State.meterFlush_wf _).trans ((State.each_wf _ _ _ fun t k => State.pulseAdd_wf t _ _ _).trans ?_)
    refine Kept.trans (foldl_wf _ (fun (b : State × List (Nat × WinQ)) => b.1) _ ?_ _) (Kept.trans (State.each_wf _ _ _ ?_)
      ((State.set_wf _ _ _ _ _).trans (State.set_wf _ _ _ _ _)))
    · rintro ⟨t, l⟩ ⟨d, k⟩
      exact State.dockAdd_wf _ _ _ _ _
    · rintro t ⟨v, k⟩
      exact State.voltAdd_wf _ _ _ _

theorem execMeterSecond_wf (s : State) : ResKept (execMeterSecond s) s := by
  unfold execMeterSecond
  intro h
  try dsimp only
  repeat' first
    | with_reducible assumption
    | with_reducible apply State.secondEntry_wf
    | with_reducible apply State.taskE0_wf
    | with_reducible apply State.meterFlush_wf
    | with_reducible apply State.on_wf
    | with_reducible apply State.each_wf
    | with_reducible apply ite_wf'
    | with_reducible apply ite_reswf'
    | with_reducible apply next_wf
    | simp only [State.wf_met]
    | (intro _)
    | split

theorem execMeterIntervalEnd_wf (s : State) : ResKept (execMeterIntervalEnd s) s := by
  unfold execMeterIntervalEnd
  intro h
  simp +contextual only [h, State.docksEnd_wf, State.wf_met, wf_next, ite_self, implies_true, State.each_wf, State.on_wf, apply_ite State.wf, apply_ite Res.wf, apply_ite Prod.fst, apply_ite Prod.snd, if_true]

theorem execPqRefresh_wf (a0 : Nat) (a1 : Nat) (s : State) : ResKept (execPqRefresh a0 a1 s) s := by
  unfold execPqRefresh
  intro h
  simp +contextual only [h, State.pqRefresh_wf, wf_next, ite_self, implies_true, State.each_wf, State.on_wf, apply_ite State.wf, apply_ite Res.wf, apply_ite Prod.fst, apply_ite Prod.snd, if_true]

theorem execMeterSave_wf (a0 : Bool) (s : State) : ResKept (execMeterSave a0 s) s := by
  unfold execMeterSave
  intro h
  simp +contextual only [h, State.inc_wf, State.set_wf, State.blockError_wf, State.wf_met, wf_next, ite_self, implies_true, State.each_wf, State.on_wf, apply_ite State.wf, apply_ite Res.wf, apply_ite Prod.fst, apply_ite Prod.snd, if_true]

theorem execMeterPulse_wf (a0 : Nat) (s : State) : ResKept (execMeterPulse a0 s) s := by
  unfold execMeterPulse
  intro h
  simp +contextual only [h, State.pulseOut_wf, wf_next, ite_self, implies_true, State.each_wf, State.on_wf, apply_ite State.wf, apply_ite Res.wf, apply_ite Prod.fst, apply_ite Prod.snd, if_true]

theorem execPulseCfgWrite_wf (a0 : Src) (a1 : Nat) (a2 : Nat) (s : State) : ResKept (execPulseCfgWrite a0 a1 a2 s) s := by
  unfold execPulseCfgWrite
  intro h
  simp +contextual only [h, State.plainWrite_wf, wf_next, ite_self, implies_true, State.each_wf, State.on_wf, apply_ite State.wf, apply_ite Res.wf, apply_ite Prod.fst, apply_ite Prod.snd, if_true]

theorem execAttestDone_wf (s : State) : ResKept (execAttestDone s) s := by
  unfold execAttestDone
  intro h
  try dsimp only
  repeat' first
    | with_reducible assumption
    | with_reducible apply State.set_wf
    | with_reducible apply State.freeSig_wf
    | with_reducible apply State.irq_wf
    | with_reducible apply State.ksUse_wf
    | with_reducible apply State.inc_wf
    | with_reducible apply State.on_wf
    | with_reducible apply State.each_wf
    | with_reducible apply ite_wf'
    | with_reducible apply ite_reswf'
    | with_reducible apply next_wf
    | (intro _)
    | split

theorem execRemask_wf (s : State) : ResKept (execRemask s) s := by
  unfold execRemask
  intro h
  try dsimp only
  repeat' first
    | with_reducible assumption
    | with_reducible apply State.free256_wf
    | with_reducible apply State.setTe_wf
    | with_reducible apply State.inc_wf
    | with_reducible apply State.on_wf
    | with_reducible apply State.each_wf
    | with_reducible apply ite_wf'
    | with_reducible apply ite_reswf'
    | with_reducible apply next_wf
    | simp only [State.wf_key]
    | (intro _)
    | split

theorem execTokOwnerTimeout_wf (s : State) : ResKept (execTokOwnerTimeout s) s := by
  unfold execTokOwnerTimeout
  intro h
  simp +contextual only [h, State.set_wf, wf_next, ite_self, implies_true, State.each_wf, State.on_wf, apply_ite State.wf, apply_ite Res.wf, apply_ite Prod.fst, apply_ite Prod.snd, if_true]

theorem State.on_wf_all (s : State) (c : Bool) (f : State → State) (h : ∀ t, Kept (f t) t) : Kept (s.on c f) s := State.on_wf s c f (h s)
/-- A write of a token keeps the canonical form, whether accepted or refused. -/
def TokStep.keepsWf (x : State) : TokStep → Prop
  | .ok t => Kept t.s x
  | .error f => ∀ s, Kept (f s) s
theorem ite_keepsWf {c : Prop} [Decidable c] {a b : TokStep} {x : State} (ha : a.keepsWf x) (hb : b.keepsWf x) :
    (if c then a else b).keepsWf x := by
  split
  · exact ha
  · exact hb
theorem blocked_keepsWf (x : State) : blocked.keepsWf x := fun _ => id
theorem supStep_keepsWf (t : TokRun) (w : RegWr) : (supStep t w).keepsWf t.s := by
  unfold supStep
  refine (State.on_wf _ _ _ (State.supRestart_wf _)).trans ?_
  exact ite_wf (State.supHold_wf _ _) id
theorem fuseStep_keepsWf (t : TokRun) (w : RegWr) (l : List FldDef) : (fuseStep t w l).keepsWf t.s := by
  unfold fuseStep
  refine ite_keepsWf (blocked_keepsWf _) (ite_keepsWf ?_ (ite_keepsWf (blocked_keepsWf _) (ite_keepsWf ?_ ?_)))
  · exact (State.set_wf _ _ _ _ _).trans (State.storeFields_wf _ _ _)
  · exact fun s => State.set_wf _ _ _ _ _
  · exact (State.fuseGo_wf _ _ _ _).trans ((State.set_wf _ _ _ _ _).trans (State.storeFields_wf _ _ _))
theorem baseStep_keepsWf (t : TokRun) (w : RegWr) : (baseStep t w).keepsWf t.s := by
  have h (m : Prop) [Decidable m] (c : Bool) : Kept (if m then t.s.on c State.surveyStart else t.s) t.s :=
    ite_wf (State.on_wf _ _ _ (State.surveyStart_wf _)) id
  unfold baseStep
  exact ite_keepsWf (blocked_keepsWf _) (ite_keepsWf (h _ _) (h _ _))
theorem stepStep_keepsWf (t : TokRun) (w : RegWr) (ofs : Option Int) : (stepStep t w ofs).keepsWf t.s := by
  unfold stepStep
  exact ite_keepsWf (fun s => State.set_wf _ _ _ _ _) (ite_keepsWf (State.stepOp_wf _ _ _) fun s => State.set_wf _ _ _ _ _)
theorem pairStep_keepsWf (t : TokRun) (w : RegWr) (l : List FldDef) (x : WrExt) : (pairStep t w l x).keepsWf t.s := by
  unfold pairStep
  refine ite_keepsWf (blocked_keepsWf _) (ite_keepsWf (blocked_keepsWf _) ?_)
  refine (State.on_wf _ _ _ (State.take_wf _)).trans ((State.on_wf _ _ _ (State.switchCmd_wf _)).trans ?_)
  exact (State.blockAct_wf _ _ _).trans (State.storeFields_wf _ _ _)
theorem zeroStep_keepsWf (t : TokRun) (w : RegWr) (l : List FldDef) : (zeroStep t w l).keepsWf t.s := by
  unfold zeroStep
  refine ite_keepsWf (blocked_keepsWf _) ?_
  refine (State.on_wf_all _ _ _ fun u => State.zeroise_wf u _).trans ?_
  exact (State.set_wf _ _ _ _ _).trans (State.storeFields_wf _ _ _)
theorem lcStep_keepsWf (t : TokRun) (w : RegWr) (burnOk : Bool) (x : WrExt) : (lcStep t w burnOk x).keepsWf t.s := by
  unfold lcStep
  exact ite_keepsWf (blocked_keepsWf _) (ite_keepsWf (fun s => State.set_wf _ _ _ _ _) ((State.blockAct_wf _ _ _).trans (State.lcGo_wf _ _ _ _)))
theorem debugStep_keepsWf (t : TokRun) (w : RegWr) (x : WrExt) : (debugStep t w x).keepsWf t.s := by
  unfold debugStep
  exact ite_keepsWf (blocked_keepsWf _) (ite_keepsWf (fun s => State.dbgResult_wf _ _)
    ((State.blockAct_wf _ _ _).trans (State.on_wf _ _ _ (State.dbgObserve_wf _))))
theorem updStep_keepsWf (t : TokRun) (w : RegWr) (x : WrExt) : (updStep t w x).keepsWf t.s := by
  unfold updStep
  refine ite_keepsWf (blocked_keepsWf _) ((State.blockAct_wf _ _ _).trans ((State.on_wf_all _ _ _ fun u => State.commit_wf u _).trans ?_))
  exact ite_wf (State.set_wf _ _ _ _ _) id
theorem rotStep_keepsWf (t : TokRun) (w : RegWr) : (rotStep t w).keepsWf t.s := by
  unfold rotStep
  exact ite_keepsWf ((State.set_wf _ _ _ _ _).trans (State.set_wf _ _ _ _ _)) (ite_keepsWf (State.rotSet_wf _ _) (blocked_keepsWf _))
theorem resumeStep_keepsWf (t : TokRun) (w : RegWr) : (resumeStep t w).keepsWf t.s := by
  unfold resumeStep
  have hr (v : State) (c : Bool) (k r : Nat) : Kept (State.resumeRefused { v.on c (fun u => u.disarm 9) with fresh := k } r) v :=
    (State.resumeRefused_wf { v.on c (fun u => u.disarm 9) with fresh := k } r).trans (State.on_wf v c _ (State.disarm_wf v 9))
  exact ite_keepsWf (ite_keepsWf ((State.resumeArm_wf _).trans (State.setReg_wf _ _ _)) fun s => hr _ _ _ _)
    (ite_keepsWf (ite_keepsWf ((State.resumeRelease_wf _ _).trans (State.setReg_wf _ _ _)) fun s => hr _ _ _ _) (blocked_keepsWf _))
theorem plainStep_keepsWf (t : TokRun) (w : RegWr) (l : List FldDef) (x : WrExt) : (plainStep t w l x).keepsWf t.s := by
  unfold plainStep
  exact ite_keepsWf (blocked_keepsWf _) (State.applyWrite_wf _ _ _)
theorem tokStep_keepsWf (ofs : Option Int) (burnOk : Bool) (t : TokRun) (w : RegWr) : (tokStep ofs burnOk t w).keepsWf t.s := by
  unfold tokStep
  refine ite_keepsWf (blocked_keepsWf _) ?_
  split
  · exact supStep_keepsWf _ _
  · exact id
  · exact fuseStep_keepsWf _ _ _
  · exact baseStep_keepsWf _ _
  · exact stepStep_keepsWf _ _ _
  · exact State.storeFields_wf _ _ _
  · exact State.storeFields_wf _ _ _
  · exact pairStep_keepsWf _ _ _ _
  · exact zeroStep_keepsWf _ _ _
  · exact lcStep_keepsWf _ _ _ _
  · exact debugStep_keepsWf _ _ _
  · exact updStep_keepsWf _ _ _
  · exact rotStep_keepsWf _ _
  · exact resumeStep_keepsWf _ _
  · exact plainStep_keepsWf _ _ _ _
/-- What a token does to the canonical form. -/
def tokKeepsWf {α : Type} (g : α → State → State) (x : State) : Except α TokRun → Prop
  | .ok t => Kept t.s x
  | .error e => ∀ s, Kept (g e s) s
theorem tokFold_keepsWf (src : Src) (signer : Nat) (ofs : Option Int) (burnOk : Bool) (i : Nat) (t : TokRun) (l : List TokWr) :
    tokKeepsWf (fun (e : Nat × (State → State)) => e.2) t.s (tokFold src signer ofs burnOk i t l) := by
  induction l generalizing i t with
  | nil => exact id
  | cons w r ih =>
    unfold tokFold
    split
    · exact fun s => id
    · rename_i p _
      have h := tokStep_keepsWf ofs burnOk t ⟨src, p, w.addr % 0x1000, w.value, w.mask, some signer⟩
      generalize tokStep ofs burnOk t ⟨src, p, w.addr % 0x1000, w.value, w.mask, some signer⟩ = q at h
      cases q with
      | ok u =>
        have hu : Kept u.s t.s := h
        have hr := ih (i + 1) u
        show tokKeepsWf _ t.s (tokFold src signer ofs burnOk (i + 1) u r)
        generalize tokFold src signer ofs burnOk (i + 1) u r = z at hr ⊢
        cases z with
        | ok v => exact fun w => hr (hu w)
        | error e => exact hr
      | error f => exact h
theorem State.tokVerify_keepsWf (s : State) (src : Src) (sigOk : Bool) (key : Option Nat) (burnOk : Bool) :
    tokKeepsWf (fun (e : Nat × Nat × (State → State)) => e.2.2) s (s.tokVerify src sigOk key burnOk) := by
  unfold State.tokVerify
  dsimp only
  iterate 5
    split
    · exact fun u => Kept.refl u
  split
  · split
    · exact fun u => Kept.refl u
    · split
      · exact fun u => Kept.refl u
      · have h := tokFold_keepsWf src s.tokSigner (s.stepOfs s.tokWrites) burnOk 0 { s := s } s.tokWrites
        generalize tokFold src s.tokSigner (s.stepOfs s.tokWrites) burnOk 0 { s := s } s.tokWrites = z at h ⊢
        cases z with
        | ok v => exact h
        | error e => exact h
  · iterate 3
      split
      · exact fun u => Kept.refl u
    split
    · split
      · exact State.installKey_wf s 0
      · exact fun u => Kept.refl u
    · exact State.installKey_wf s _

theorem execTokenVerifyDone_wf (sigOk : Bool) (key : Option Nat) (burnOk : Bool) (s : State) :
    ResKept (execTokenVerifyDone sigOk key burnOk s) s := by
  have hc : ∀ (c : Bool) (k : Nat) (t : State), Kept (if c = true then t.ksUse k else t) t := fun c k t =>
    ite_wf (State.ksUse_wf _ _) id
  have hv := State.tokVerify_keepsWf s (ownerSrc (s.get F.TOK_STATUS_OWNER)) sigOk key burnOk
  unfold execTokenVerifyDone
  dsimp only
  split
  · exact id
  · generalize s.tokVerify (ownerSrc (s.get F.TOK_STATUS_OWNER)) sigOk key burnOk = r at hv
    cases r with
    | error e =>
      obtain ⟨e, i, f⟩ := e
      exact (State.tokEnd_wf _ _ _).trans ((State.tokRefused_wf _ _ _ _ _).trans ((hc _ _ _).trans (hv s)))
    | ok t =>
      have hu : Kept t.s s := hv
      have hp : Kept (if t.base = [] then t.s else { t.s with gn := { t.s.gn with posPend := t.s.gn.posPend ++ [t.base] } }) s :=
        ite_wf hu hu
      intro h
      apply next_wf
      refine ite_wf' ?_ ?_
      · exact State.chipReset_wf _ _ _ (State.tokEnd_wf _ _ _ (State.inc_wf _ _ _ _ (hc _ _ _ (hp h))))
      · exact State.tokEnd_wf _ _ _ (State.inc_wf _ _ _ _ (hc _ _ _ (hp h)))

theorem execTokNonceExpiry_wf (s : State) : ResKept (execTokNonceExpiry s) s := by
  unfold execTokNonceExpiry
  intro h
  simp +contextual only [h, State.drawNonce_wf, wf_next, ite_self, implies_true, State.each_wf, State.on_wf, apply_ite State.wf, apply_ite Res.wf, apply_ite Prod.fst, apply_ite Prod.snd, if_true]

theorem execFuseProgGo_wf (a0 : Nat) (a1 : Nat) (a2 : Nat) (s : State) : ResKept (execFuseProgGo a0 a1 a2 s) s := by
  unfold execFuseProgGo
  intro h
  simp +contextual only [h, State.fuseGo_wf, wf_next, ite_self, implies_true, State.each_wf, State.on_wf, apply_ite State.wf, apply_ite Res.wf, apply_ite Prod.fst, apply_ite Prod.snd, if_true]

theorem execFuseBurnDone_wf (a0 : Bool) (s : State) : ResKept (execFuseBurnDone a0 s) s := by
  unfold execFuseBurnDone
  intro h
  grind [State.set_wf, State.inc_wf, State.irq_wf, State.fuseStart_wf, State.wf_key, wf_next]

theorem execLcTransition_wf (a0 : Nat) (a1 : Nat) (a2 : Bool) (s : State) : ResKept (execLcTransition a0 a1 a2 s) s := by
  unfold execLcTransition
  intro h
  simp +contextual only [h, State.lcGo_wf, wf_next, ite_self, implies_true, State.each_wf, State.on_wf, apply_ite State.wf, apply_ite Res.wf, apply_ite Prod.fst, apply_ite Prod.snd, if_true]

theorem execDbgObserve_wf (s : State) : ResKept (execDbgObserve s) s := by
  unfold execDbgObserve
  intro h
  simp +contextual only [h, State.dbgObserve_wf, wf_next, ite_self, implies_true, State.each_wf, State.on_wf, apply_ite State.wf, apply_ite Res.wf, apply_ite Prod.fst, apply_ite Prod.snd, if_true]

theorem execDbgDurationExpiry_wf (s : State) : ResKept (execDbgDurationExpiry s) s := by
  fun_cases execDbgDurationExpiry <;> intro h <;> simp +contextual only [h, State.dbgClose_wf, wf_next, implies_true, State.each_wf, State.on_wf]

theorem execExtest_wf (a0 : Option Nat) (s : State) : ResKept (execExtest a0 s) s := by
  unfold execExtest
  intro h
  simp +contextual only [h, State.inc_wf, State.wf_dbg, wf_next, ite_self, implies_true, State.each_wf, State.on_wf, apply_ite State.wf, apply_ite Res.wf, apply_ite Prod.fst, apply_ite Prod.snd, if_true]

theorem execPwrTargetWrite_wf (a0 : Nat) (s : State) : ResKept (execPwrTargetWrite a0 s) s := by
  unfold execPwrTargetWrite
  intro h
  simp +contextual only [h, State.powerTo_wf, wf_next, ite_self, implies_true, State.each_wf, State.on_wf, apply_ite State.wf, apply_ite Res.wf, apply_ite Prod.fst, apply_ite Prod.snd, if_true]

theorem execMainSupplyLoss_wf (a0 : Bool) (s : State) : ResKept (execMainSupplyLoss a0 s) s := by
  unfold execMainSupplyLoss
  intro h
  simp +contextual only [h, State.mainLost_wf, wf_next, ite_self, implies_true, State.each_wf, State.on_wf, apply_ite State.wf, apply_ite Res.wf, apply_ite Prod.fst, apply_ite Prod.snd, if_true]

theorem execSupplyMonitorTrip_wf (a0 : Nat) (a1 : Bool) (s : State) : ResKept (execSupplyMonitorTrip a0 a1 s) s := by
  unfold execSupplyMonitorTrip
  intro h
  try dsimp only
  repeat' first
    | with_reducible assumption
    | with_reducible apply State.mainLost_wf
    | with_reducible apply State.railFault_wf
    | with_reducible apply State.meterCellGone_wf
    | with_reducible apply State.chipReset_wf
    | with_reducible apply State.on_wf
    | with_reducible apply State.each_wf
    | with_reducible apply ite_wf'
    | with_reducible apply ite_reswf'
    | with_reducible apply next_wf
    | simp only [State.wf_sup]
    | (intro _)
    | split

theorem execThermalTrip_wf (a0 : Int) (s : State) : ResKept (execThermalTrip a0 s) s := by
  unfold execThermalTrip
  intro h
  simp +contextual only [h, State.showTemp_wf, State.chipStop_wf, State.wf_sup, wf_next, ite_self, implies_true, State.each_wf, State.on_wf, apply_ite State.wf, apply_ite Res.wf, apply_ite Prod.fst, apply_ite Prod.snd, if_true]

theorem execTempWarn_wf (a0 : Int) (s : State) : ResKept (execTempWarn a0 s) s := by
  unfold execTempWarn
  intro h
  simp +contextual only [h, State.showTemp_wf, wf_next, ite_self, implies_true, State.each_wf, State.on_wf, apply_ite State.wf, apply_ite Res.wf, apply_ite Prod.fst, apply_ite Prod.snd, if_true]

theorem execPorst_wf (a0 : Nat) (a1 : Bool) (a2 : Bool) (a3 : Bool) (s : State) : ResKept (execPorst a0 a1 a2 a3 s) s := by
  unfold execPorst
  intro h
  simp +contextual only [h, State.free_wf, State.chipReset_wf, State.wf_sup, wf_next, ite_self, implies_true, State.each_wf, State.on_wf, apply_ite State.wf, apply_ite Res.wf, apply_ite Prod.fst, apply_ite Prod.snd, if_true]

theorem execRomBoot_wf (a0 : Bool) (s : State) : ResKept (execRomBoot a0 s) s := by
  unfold execRomBoot
  intro h
  try dsimp only
  repeat' first
    | with_reducible assumption
    | with_reducible apply State.zeroiseAll_wf
    | with_reducible apply State.drawChallenge_wf
    | with_reducible apply State.drawNonce_wf
    | with_reducible apply State.romTorn_wf
    | with_reducible apply State.romKeys_wf
    | with_reducible apply State.set_wf
    | with_reducible apply State.recover_wf
    | with_reducible apply State.romBanks_wf
    | with_reducible apply State.on_wf
    | with_reducible apply State.each_wf
    | with_reducible apply ite_wf'
    | with_reducible apply ite_reswf'
    | with_reducible apply next_wf
    | (intro _)
    | split

theorem execKeepWatchdog_wf (s : State) : ResKept (execKeepWatchdog s) s := by
  unfold execKeepWatchdog
  intro h
  (repeat' split) <;> simp +contextual only [h, State.chipReset_wf, wf_next, implies_true, State.each_wf, State.on_wf]

theorem execImageLoad_wf (a0 : Nat) (s : State) : ResKept (execImageLoad a0 s) s := by
  unfold execImageLoad
  intro h
  (repeat' split) <;> simp +contextual only [h, State.retain_wf, State.imagesShow_wf, State.imgLoaded_wf, State.imgBarred_wf, wf_next, implies_true, State.each_wf, State.on_wf]

theorem execUpdDone_wf (a0 : Option Nat) (a1 : Bool) (a2 : Nat) (s : State) : ResKept (execUpdDone a0 a1 a2 s) s := by
  unfold execUpdDone
  intro h
  try dsimp only
  repeat' first
    | with_reducible assumption
    | with_reducible apply State.updEnd_wf
    | with_reducible apply State.set_wf
    | with_reducible apply State.free_wf
    | with_reducible apply State.emptyBank_wf
    | with_reducible apply State.inc_wf
    | with_reducible apply State.dirWrite_wf
    | with_reducible apply State.on_wf
    | with_reducible apply State.each_wf
    | with_reducible apply ite_wf'
    | with_reducible apply ite_reswf'
    | with_reducible apply next_wf
    | simp only [State.wf_boot]
    | (intro _)
    | split

theorem execUpdCommit_wf (a0 : Nat) (s : State) : ResKept (execUpdCommit a0 s) s := by
  unfold execUpdCommit
  intro h
  simp +contextual only [h, State.commit_wf, wf_next, ite_self, implies_true, State.each_wf, State.on_wf, apply_ite State.wf, apply_ite Res.wf, apply_ite Prod.fst, apply_ite Prod.snd, if_true]

theorem execRecoveryChunk_wf (a0 : Nat) (a1 : List Nat) (a2 : ImgSeen) (s : State) : ResKept (execRecoveryChunk a0 a1 a2 s) s := by
  unfold execRecoveryChunk
  intro h
  simp +contextual only [h, State.chunkRx_wf, wf_next, ite_self, implies_true, State.each_wf, State.on_wf, apply_ite State.wf, apply_ite Res.wf, apply_ite Prod.fst, apply_ite Prod.snd, if_true]

theorem execRecoverySilence_wf (s : State) : ResKept (execRecoverySilence s) s := by
  unfold execRecoverySilence
  intro h
  try dsimp only
  repeat' first
    | with_reducible assumption
    | with_reducible apply State.rcvEnd_wf
    | with_reducible apply State.on_wf
    | with_reducible apply State.each_wf
    | with_reducible apply ite_wf'
    | with_reducible apply ite_reswf'
    | with_reducible apply next_wf
    | (intro _)
    | split

theorem execWeirTokenDue_wf (a0 : Option Nat) (s : State) : ResKept (execWeirTokenDue a0 s) s := by
  unfold execWeirTokenDue
  intro h
  dsimp only
  (repeat' split) <;> simp +contextual only [h, State.wf_ev, wf_next, implies_true, State.each_wf, State.on_wf]

theorem execWeirBucketReturn_wf (a0 : Nat) (s : State) : ResKept (execWeirBucketReturn a0 s) s := by
  unfold execWeirBucketReturn
  intro h
  simp +contextual only [h, State.wf_ev, wf_next, ite_self, implies_true, State.each_wf, State.on_wf, apply_ite State.wf, apply_ite Res.wf, apply_ite Prod.fst, apply_ite Prod.snd, if_true]

theorem execEventSummary_wf (s : State) : ResKept (execEventSummary s) s := by
  unfold execEventSummary
  intro h
  simp +contextual only [h, State.bootRecord_wf, State.newSecond_wf, wf_next, ite_self, implies_true, State.each_wf, State.on_wf, apply_ite State.wf, apply_ite Res.wf, apply_ite Prod.fst, apply_ite Prod.snd, if_true]

theorem execSeqSave_wf (s : State) : ResKept (execSeqSave s) s := by
  unfold execSeqSave
  intro h
  simp +contextual only [h, State.saveSeq_wf, wf_next, ite_self, implies_true, State.each_wf, State.on_wf, apply_ite State.wf, apply_ite Res.wf, apply_ite Prod.fst, apply_ite Prod.snd, if_true]

theorem execFoundingBatch_wf (a0 : Nat) (s : State) : ResKept (execFoundingBatch a0 s) s := by
  unfold execFoundingBatch
  intro h
  simp +contextual only [h, State.foundProgram_wf, wf_next, ite_self, implies_true, State.each_wf, State.on_wf, apply_ite State.wf, apply_ite Res.wf, apply_ite Prod.fst, apply_ite Prod.snd, if_true]

theorem execMainSupplyReturn_wf (a0 : Bool) (a1 : Bool) (a2 : Bool) (s : State) : ResKept (execMainSupplyReturn a0 a1 a2 s) s := by
  rw [execMainSupplyReturn.eq_def]
  intro h
  grind [State.mainBack_wf, State.chipReset_wf, State.outageEnd_wf, wf_next]

theorem execRailBackInRange_wf (a0 : Nat) (s : State) : ResKept (execRailBackInRange a0 s) s := by
  unfold execRailBackInRange
  intro h
  simp +contextual only [h, State.chipReset_wf, State.recompute_wf, State.wf_sup, wf_next, ite_self, implies_true, State.each_wf, State.on_wf, apply_ite State.wf, apply_ite Res.wf, apply_ite Prod.fst, apply_ite Prod.snd, if_true]

theorem execAuxclkReturn_wf (auxEdges : Nat) (s : State) : ResKept (execAuxclkReturn auxEdges s) s := by
  unfold execAuxclkReturn
  exact ite_reswf id ((State.each_wf _ _ _ fun t p => ite_wf (State.canalTrain_wf _ _) id).trans (State.set_wf _ _ _ _ _))

theorem execStepWindowBegins_wf (a0 : Nat) (s : State) : ResKept (execStepWindowBegins a0 s) s := by
  unfold execStepWindowBegins
  intro h
  simp +contextual only [h, State.leSet_wf, State.blockOwner_wf, wf_next, ite_self, implies_true, State.each_wf, State.on_wf, apply_ite State.wf, apply_ite Res.wf, apply_ite Prod.fst, apply_ite Prod.snd, if_true]

theorem execDirectLockEnd_wf (a0 : Nat) (s : State) : ResKept (execDirectLockEnd a0 s) s := by
  rw [execDirectLockEnd.eq_def]
  intro h
  grind [State.dropDirect_wf, wf_next]

theorem execPcieLinkUp_wf (a0 : Nat) (a1 : Nat) (a2 : Bool) (s : State) : ResKept (execPcieLinkUp a0 a1 a2 s) s := by
  unfold execPcieLinkUp
  intro h
  try dsimp only
  repeat' first
    | with_reducible assumption
    | with_reducible apply State.set_wf
    | with_reducible apply State.sendAllVecs_wf
    | with_reducible apply State.on_wf
    | with_reducible apply State.each_wf
    | with_reducible apply ite_wf'
    | with_reducible apply ite_reswf'
    | with_reducible apply next_wf
    | (intro _)
    | split

theorem execMsixVectorUnmask_wf (a0 : Nat) (s : State) : ResKept (execMsixVectorUnmask a0 s) s := by
  unfold execMsixVectorUnmask
  intro h
  simp +contextual only [h, State.sendVec_wf, State.wf_vecMask, wf_next, ite_self, implies_true, State.each_wf, State.on_wf, apply_ite State.wf, apply_ite Res.wf, apply_ite Prod.fst, apply_ite Prod.snd, if_true]

theorem execCanalFlitRx_wf (a0 : Nat) (a1 : Bool) (a2 : Option Nat) (a3 : Nat) (a4 : Nat) (a5 : Nat) (a6 : Option CanalBody) (s : State) : ResKept (execCanalFlitRx a0 a1 a2 a3 a4 a5 a6 s) s := by
  unfold execCanalFlitRx
  intro h
  grind [State.inc_wf, State.setCport_wf, State.canalTail_wf, State.canalCtrl_wf, wf_next]

theorem execPfcPauseExpiry_wf (a0 : Nat) (a1 : Nat) (s : State) : ResKept (execPfcPauseExpiry a0 a1 s) s := by
  unfold execPfcPauseExpiry
  intro h
  simp +contextual only [h, State.pfcPrio_wf, wf_next, ite_self, implies_true, State.each_wf, State.on_wf, apply_ite State.wf, apply_ite Res.wf, apply_ite Prod.fst, apply_ite Prod.snd, if_true]

theorem execEthOtherFrameRx_wf (a0 : Nat) (a1 : EthFrame) (a2 : Bool) (s : State) : ResKept (execEthOtherFrameRx a0 a1 a2 s) s := by
  unfold execEthOtherFrameRx
  intro h
  simp +contextual only [h, State.ethTake_wf, State.inc_wf, State.ptpRx_wf, State.emit_wf, wf_next, ite_self, implies_true, State.each_wf, State.on_wf, apply_ite State.wf, apply_ite Res.wf, apply_ite Prod.fst, apply_ite Prod.snd, if_true]

theorem execMeterOutageSample_wf (a0 : List Nat) (s : State) : ResKept (execMeterOutageSample a0 s) s := by
  unfold execMeterOutageSample
  intro h
  try dsimp only
  repeat' first
    | with_reducible assumption
    | with_reducible apply State.totalsShow_wf
    | with_reducible apply State.setDock_wf
    | with_reducible apply State.on_wf
    | with_reducible apply State.each_wf
    | with_reducible apply ite_wf'
    | with_reducible apply ite_reswf'
    | with_reducible apply next_wf
    | (intro _)
    | split

theorem execTjBelow105_wf (a0 : Int) (s : State) : ResKept (execTjBelow105 a0 s) s := by
  unfold execTjBelow105
  intro h
  simp +contextual only [h, State.showTemp_wf, State.romRelease_wf, State.wf_sup, wf_next, ite_self, implies_true, State.each_wf, State.on_wf, apply_ite State.wf, apply_ite Res.wf, apply_ite Prod.fst, apply_ite Prod.snd, if_true]

theorem execDebugHalt_wf (a0 : Nat) (a1 : Nat) (s : State) : ResKept (execDebugHalt a0 a1 s) s := by
  unfold execDebugHalt
  intro h
  simp +contextual only [h, State.debugHalt_wf, wf_next, ite_self, implies_true, State.each_wf, State.on_wf, apply_ite State.wf, apply_ite Res.wf, apply_ite Prod.fst, apply_ite Prod.snd, if_true]

theorem execRecoveryLinkTry_wf (a0 : Nat) (s : State) : ResKept (execRecoveryLinkTry a0 s) s := by
  unfold execRecoveryLinkTry
  intro h
  simp +contextual only [h, State.set_wf, State.wf_boot, wf_next, ite_self, implies_true, State.each_wf, State.on_wf, apply_ite State.wf, apply_ite Res.wf, apply_ite Prod.fst, apply_ite Prod.snd, if_true]

theorem State.supplyGone_wf (s : State) (vbat : Bool) (old : State) : Kept (s.supplyGone vbat old) s := id

end Sys2Proof.Machine
end

