-- ==== Sys2Proof/Laws/Keep.lean ====
section
/-! SUPPORT. What equal rests (`State.rest`) say of the single parts: the registers, counters, table entries and pages of a
block that is not touched, and every part that is not touched, are as before. -/
namespace Sys2Proof.Machine
open Sys2Proof

theorem AMap.get_filter {α : Type} (d : Nat → α) (m : AMap α) (p : Nat × α → Bool) (k : Nat) (h : ∀ x, p (k, x) = true) :
    AMap.get d (m.filter p) k = AMap.get d m k := by
  induction m with
  | nil => rfl
  | cons e r ih =>
    obtain ⟨k', v⟩ := e
    rw [List.filter_cons]
    by_cases hk : k = k'
    · subst hk
      rw [if_pos (h v)]
      simp [AMap.get]
    · split
      · simp only [AMap.get, if_neg hk, ih]
      · simp only [AMap.get, if_neg hk, ih]

theorem Touch.get_regLeft {α : Type} (W : Touch) (d : Nat → α) (m : AMap α) (p : Page) (o : Nat) (hb : W.has (some p.blk) = false) :
    AMap.get d (W.regLeft m) (p.adr o) = AMap.get d m (p.adr o) :=
  AMap.get_filter d m (fun e => !W.has (blkAt e.1)) _ fun x => by simp [blkAt_adr, hb]

theorem Touch.get_tblLeft (W : Touch) (m : AMap Nat) (p : Page) (n i : Nat) (hb : W.has (some p.blk) = false) :
    AMap.get tblReset (W.tblLeft m) (p.tblKey n i) = AMap.get tblReset m (p.tblKey n i) :=
  AMap.get_filter tblReset m (fun e => !W.has (blkAt (e.1 / 2 ^ 28 * 0x1000))) _ fun x => by
    simp only [blkAt_tblKey, hb]
    rfl

theorem State.reg_of_rest {W : Touch} {s t : State} (h : t.rest W = s.rest W) (p : Page) (o : Nat) (hb : W.has (some p.blk) = false) :
    t.reg (p.adr o) = s.reg (p.adr o) := by
  have hr : W.regLeft t.regs = W.regLeft s.regs := congrArg Rest.regs h
  unfold State.reg
  rw [← Touch.get_regLeft W regReset t.regs p o hb, hr, Touch.get_regLeft W regReset s.regs p o hb]

theorem State.get_of_rest {W : Touch} {s t : State} (h : t.rest W = s.rest W) (F : Fld) (i k : Nat) (hb : W.has (some F.blk) = false) :
    t.get F i k = s.get F i k :=
  congrArg (fun x => bits x F.lsb F.width) (State.reg_of_rest h ⟨F.blk, i⟩ _ hb)

theorem State.getP_of_rest {W : Touch} {s t : State} (h : t.rest W = s.rest W) (p : Page) (F : Fld) (hb : W.has (some p.blk) = false) :
    t.getP p F = s.getP p F :=
  congrArg (fun x => bits x F.lsb F.width) (State.reg_of_rest h p _ hb)

theorem State.ctr_of_rest {W : Touch} {s t : State} (h : t.rest W = s.rest W) (p : Page) (c : Ctr) (hb : W.has (some p.blk) = false) :
    t.ctr p c = s.ctr p c := by
  have hr : W.regLeft t.ctrs = W.regLeft s.ctrs := congrArg Rest.ctrs h
  unfold State.ctr
  rw [← Touch.get_regLeft W _ t.ctrs p c.off hb, hr, Touch.get_regLeft W _ s.ctrs p c.off hb]

theorem State.te_of_rest {W : Touch} {s t : State} (h : t.rest W = s.rest W) (p : Page) (n i : Nat) (hb : W.has (some p.blk) = false) :
    t.te p n i = s.te p n i := by
  have hr : W.tblLeft t.tbl = W.tblLeft s.tbl := congrArg Rest.tbl h
  unfold State.te
  rw [← Touch.get_tblLeft W t.tbl p n i hb, hr, Touch.get_tblLeft W s.tbl p n i hb]

theorem State.page_of_rest {W : Touch} {s t : State} (h : t.rest W = s.rest W) (p : Page) (hb : W.has (some p.blk) = false) :
    t.page p = s.page p := by
  have hr : W.regLeft t.pg = W.regLeft s.pg := congrArg Rest.pg h
  have h1 := Touch.get_regLeft W (fun _ => ({} : PageSt)) t.pg p 0 hb
  have h2 := Touch.get_regLeft W (fun _ => ({} : PageSt)) s.pg p 0 hb
  unfold State.page
  exact h1.symm.trans ((congrArg (fun m => AMap.get (fun _ => ({} : PageSt)) m (p.adr 0)) hr).trans h2)

theorem State.pending_of_rest {W : Touch} {s t : State} (h : t.rest W = s.rest W) : t.pending = s.pending := congrArg Rest.pending h
theorem State.now_of_rest {W : Touch} {s t : State} (h : t.rest W = s.rest W) : t.now = s.now := congrArg Rest.now h
theorem hide_inj {α : Type} {b : Bool} (hb : b = false) {x y : α} (h : hide b x = hide b y) : x = y := by
  subst hb
  exact Option.some.inj h

theorem State.ft_of_rest {W : Touch} {s t : State} (h : t.rest W = s.rest W) (hb : W.ft = false) : t.ft = s.ft :=
  hide_inj hb (congrArg Rest.ft h)

theorem State.fresh_of_rest {W : Touch} {s t : State} (h : t.rest W = s.rest W) (hb : W.fresh = false) : t.fresh = s.fresh :=
  hide_inj hb (congrArg Rest.fresh h)

theorem State.latch_of_rest {W : Touch} {s t : State} (h : t.rest W = s.rest W) (hb : W.latch = false) : t.latch = s.latch :=
  hide_inj hb (congrArg Rest.latch h)

theorem State.dram_of_rest {W : Touch} {s t : State} (h : t.rest W = s.rest W) (hb : W.dram = false) : t.dram = s.dram :=
  hide_inj hb (congrArg Rest.dram h)

theorem State.once_of_rest {W : Touch} {s t : State} (h : t.rest W = s.rest W) (hb : W.once = false) : t.once = s.once :=
  hide_inj hb (congrArg Rest.once h)

theorem State.tags_of_rest {W : Touch} {s t : State} (h : t.rest W = s.rest W) (hb : W.tags = false) : t.tags = s.tags :=
  hide_inj hb (congrArg Rest.tags h)

theorem State.vecSent_of_rest {W : Touch} {s t : State} (h : t.rest W = s.rest W) (hb : W.vecSent = false) : t.vecSent = s.vecSent :=
  hide_inj hb (congrArg Rest.vecSent h)

theorem State.vecMask_of_rest {W : Touch} {s t : State} (h : t.rest W = s.rest W) (hb : W.vecMask = false) : t.vecMask = s.vecMask :=
  hide_inj hb (congrArg Rest.vecMask h)

theorem State.fq_of_rest {W : Touch} {s t : State} (h : t.rest W = s.rest W) (hb : W.fq = false) : t.fq = s.fq :=
  hide_inj hb (congrArg Rest.fq h)

theorem State.ev_of_rest {W : Touch} {s t : State} (h : t.rest W = s.rest W) (hb : W.ev = false) : t.ev = s.ev :=
  hide_inj hb (congrArg Rest.ev h)

theorem State.out_of_rest {W : Touch} {s t : State} (h : t.rest W = s.rest W) (hb : W.out = false) : t.out = s.out :=
  hide_inj hb (congrArg Rest.out h)

theorem State.canal_of_rest {W : Touch} {s t : State} (h : t.rest W = s.rest W) (hb : W.canal = false) : t.canal = s.canal :=
  hide_inj hb (congrArg Rest.canal h)

theorem State.hg_of_rest {W : Touch} {s t : State} (h : t.rest W = s.rest W) (hb : W.hg = false) : t.hg = s.hg :=
  hide_inj hb (congrArg Rest.hg h)

theorem State.flt_of_rest {W : Touch} {s t : State} (h : t.rest W = s.rest W) (hb : W.flt = false) : t.flt = s.flt :=
  hide_inj hb (congrArg Rest.flt h)

theorem State.sup_of_rest {W : Touch} {s t : State} (h : t.rest W = s.rest W) (hb : W.sup = false) : t.sup = s.sup :=
  hide_inj hb (congrArg Rest.sup h)

theorem State.held_of_rest {W : Touch} {s t : State} (h : t.rest W = s.rest W) (hb : W.held = false) : t.held = s.held :=
  hide_inj hb (congrArg Rest.held h)

theorem State.air_of_rest {W : Touch} {s t : State} (h : t.rest W = s.rest W) (hb : W.air = false) : t.air = s.air :=
  hide_inj hb (congrArg Rest.air h)

theorem State.arb_of_rest {W : Touch} {s t : State} (h : t.rest W = s.rest W) (hb : W.arb = false) : t.arb = s.arb :=
  hide_inj hb (congrArg Rest.arb h)

theorem State.lk_of_rest {W : Touch} {s t : State} (h : t.rest W = s.rest W) (hb : W.lk = false) : t.lk = s.lk :=
  hide_inj hb (congrArg Rest.lk h)

theorem State.pair_of_rest {W : Touch} {s t : State} (h : t.rest W = s.rest W) (hb : W.pair = false) : t.pair = s.pair :=
  hide_inj hb (congrArg Rest.pair h)

theorem State.gn_of_rest {W : Touch} {s t : State} (h : t.rest W = s.rest W) (hb : W.gn = false) : t.gn = s.gn :=
  hide_inj hb (congrArg Rest.gn h)

theorem State.tm_of_rest {W : Touch} {s t : State} (h : t.rest W = s.rest W) (hb : W.tm = false) : t.tm = s.tm :=
  hide_inj hb (congrArg Rest.tm h)

theorem State.disp_of_rest {W : Touch} {s t : State} (h : t.rest W = s.rest W) (hb : W.disp = false) : t.disp = s.disp :=
  hide_inj hb (congrArg Rest.disp h)

theorem State.ls_of_rest {W : Touch} {s t : State} (h : t.rest W = s.rest W) (hb : W.ls = false) : t.ls = s.ls :=
  hide_inj hb (congrArg Rest.ls h)

theorem State.mot_of_rest {W : Touch} {s t : State} (h : t.rest W = s.rest W) (hb : W.mot = false) : t.mot = s.mot :=
  hide_inj hb (congrArg Rest.mot h)

theorem State.motNsp_of_rest {W : Touch} {s t : State} (h : t.rest W = s.rest W) (hb : W.motNsp = false) : t.motNsp = s.motNsp :=
  hide_inj hb (congrArg Rest.motNsp h)

theorem State.rtk_of_rest {W : Touch} {s t : State} (h : t.rest W = s.rest W) (hb : W.rtk = false) : t.rtk = s.rtk :=
  hide_inj hb (congrArg Rest.rtk h)

theorem State.rt_of_rest {W : Touch} {s t : State} (h : t.rest W = s.rest W) (hb : W.rt = false) : t.rt = s.rt :=
  hide_inj hb (congrArg Rest.rt h)

theorem State.clk_of_rest {W : Touch} {s t : State} (h : t.rest W = s.rest W) (hb : W.clk = false) : t.clk = s.clk :=
  hide_inj hb (congrArg Rest.clk h)

theorem State.met_of_rest {W : Touch} {s t : State} (h : t.rest W = s.rest W) (hb : W.met = false) : t.met = s.met :=
  hide_inj hb (congrArg Rest.met h)

theorem State.key_of_rest {W : Touch} {s t : State} (h : t.rest W = s.rest W) (hb : W.key = false) : t.key = s.key :=
  hide_inj hb (congrArg Rest.key h)

theorem State.dbg_of_rest {W : Touch} {s t : State} (h : t.rest W = s.rest W) (hb : W.dbg = false) : t.dbg = s.dbg :=
  hide_inj hb (congrArg Rest.dbg h)

theorem State.boot_of_rest {W : Touch} {s t : State} (h : t.rest W = s.rest W) (hb : W.boot = false) : t.boot = s.boot :=
  hide_inj hb (congrArg Rest.boot h)

end Sys2Proof.Machine
end

