-- ==== Sys2Proof/Laws/Log.lean ====
section
/-! SUPPORT. What raising an interrupt, a notice or a record does to the registers: the bit of IRQ_STATUS is set, and every
other register of a block that records do not touch is as before. -/
namespace Sys2Proof.Machine
open Sys2Proof

@[simp] theorem State.assertSrc_regs (s : State) (n : Nat) : (s.assertSrc n).regs = s.regs := by
  unfold State.assertSrc State.sendVec
  repeat' split
  all_goals rfl

theorem State.irqBits_regs (s : State) (p : Page) (m : Nat) :
    (s.irqBits p m).regs = (s.setReg (p.adr 0x01C) (Nat.lor (s.reg (p.adr 0x01C)) m)).regs := by
  unfold State.irqBits
  dsimp only
  split
  · exact State.assertSrc_regs _ _
  · rfl

/-- The word of IRQ_STATUS after bits were set in it. -/
theorem State.irqBits_word (s : State) (p : Page) (m : Nat) :
    (s.irqBits p m).reg (p.adr 0x01C) = Nat.lor (s.reg (p.adr 0x01C)) m % 2 ^ 32 := by
  have h : (s.irqBits p m).reg (p.adr 0x01C) = (s.setReg (p.adr 0x01C) (Nat.lor (s.reg (p.adr 0x01C)) m)).reg (p.adr 0x01C) :=
    congrArg (fun x => (AMap.get regReset x (p.adr 0x01C)).toNat) (State.irqBits_regs s p m)
  rw [h, State.reg_setReg_same]

/-- Every other word. -/
theorem State.irqBits_reg (s : State) (p : Page) (m a : Nat) (h : a ≠ p.adr 0x01C) : (s.irqBits p m).reg a = s.reg a := by
  have h2 : (s.irqBits p m).reg a = (s.setReg (p.adr 0x01C) (Nat.lor (s.reg (p.adr 0x01C)) m)).reg a :=
    congrArg (fun x => (AMap.get regReset x a).toNat) (State.irqBits_regs s p m)
  rw [h2, State.reg_setReg_ne _ _ _ _ h]

/-- A field that does not stand in the page's IRQ_STATUS. -/
theorem State.irq_get (s : State) (p : Page) (n : Nat) (F : Fld) (i k : Nat) (h : F.addr i k ≠ p.adr 0x01C) :
    (s.irq p n).get F i k = s.get F i k :=
  congrArg (fun x => bits x F.lsb F.width) (State.irqBits_reg s p _ _ h)

theorem State.irq_getP (s : State) (p : Page) (n : Nat) (q : Page) (F : Fld) (h : q.adr F.off ≠ p.adr 0x01C) :
    (s.irq p n).getP q F = s.getP q F :=
  congrArg (fun x => bits x F.lsb F.width) (State.irqBits_reg s p _ _ h)

/-- A field's offset that is not that of IRQ_STATUS is enough. -/
theorem Fld.addr_ne_irq (F : Fld) (i k : Nat) (p : Page) (h : (F.off + k * F.step) % 0x1000 ≠ 0x01C) : F.addr i k ≠ p.adr 0x01C := by
  have h1 := Page.base_mod p
  have h2 := Page.base_mod ⟨F.blk, i⟩
  unfold Fld.addr Page.adr
  omega

/-- Fields of different offsets, or of different bits, share no bit. -/
theorem State.get_set_off (s : State) (F : Fld) (v i k : Nat) (G : Fld) (j l : Nat) (hf : F.lsb + F.width ≤ 32)
    (h : (G.off + l * G.step) % 0x1000 ≠ (F.off + k * F.step) % 0x1000 ∨ G.lsb + G.width ≤ F.lsb ∨ F.lsb + F.width ≤ G.lsb) :
    (s.set F v i k).get G j l = s.get G j l := by
  refine State.get_set_apart s F v i k G j l hf fun ha => ?_
  rcases h with h | h
  · have h1 := Page.base_mod ⟨G.blk, j⟩
    have h2 := Page.base_mod ⟨F.blk, i⟩
    unfold Fld.addr Page.adr at ha
    omega
  · exact h

/-- Fields of different blocks share no bit. -/
theorem State.get_set_blk (s : State) (F : Fld) (v i k : Nat) (G : Fld) (j l : Nat) (h : G.blk ≠ F.blk) :
    (s.set F v i k).get G j l = s.get G j l := by
  unfold State.set State.get
  rw [State.reg_setReg_ne]
  intro ha
  have h1 := blkAt_adr ⟨G.blk, j⟩ (G.off + l * G.step)
  have h2 := blkAt_adr ⟨F.blk, i⟩ (F.off + k * F.step)
  rw [show Page.adr ⟨G.blk, j⟩ (G.off + l * G.step) = Page.adr ⟨F.blk, i⟩ (F.off + k * F.step) from ha, h2] at h1
  exact h (Option.some.inj h1).symm

theorem State.irqUp_set (s : State) (F : Fld) (v i k : Nat) (p : Page) (n : Nat) (h : (F.off + k * F.step) % 0x1000 ≠ 0x01C) :
    (s.set F v i k).irqUp p n = s.irqUp p n := by
  unfold State.irqUp State.set
  rw [State.reg_setReg_ne _ _ _ _ (Ne.symm (Fld.addr_ne_irq F i k p h))]

theorem State.irq_get_off (s : State) (p : Page) (n : Nat) (F : Fld) (i k : Nat) (h : (F.off + k * F.step) % 0x1000 ≠ 0x01C) :
    (s.irq p n).get F i k = s.get F i k := State.irq_get _ _ _ _ _ _ (Fld.addr_ne_irq F i k p h)

theorem State.getP_set_off (s : State) (F : Fld) (v i k : Nat) (p : Page) (G : Fld)
    (h : G.off % 0x1000 ≠ (F.off + k * F.step) % 0x1000) : (s.set F v i k).getP p G = s.getP p G := by
  unfold State.set State.getP
  rw [State.reg_setReg_ne]
  have h1 := Page.base_mod p
  have h2 := Page.base_mod ⟨F.blk, i⟩
  unfold Fld.addr Page.adr
  omega

/-- Counters of different offsets. -/
theorem State.ctr_incP_off (s : State) (p : Page) (c : Ctr) (n : Nat) (q : Page) (d : Ctr) (h : d.off % 0x1000 ≠ c.off % 0x1000) :
    (s.incP p c n).ctr q d = s.ctr q d := by
  refine State.ctr_incP_ne s p c n q d ?_
  have h1 := Page.base_mod p
  have h2 := Page.base_mod q
  unfold Page.adr
  omega

/-- Counters of different blocks. -/
theorem State.ctr_incP_blk (s : State) (p : Page) (c : Ctr) (n : Nat) (q : Page) (d : Ctr) (h : q.blk ≠ p.blk) :
    (s.incP p c n).ctr q d = s.ctr q d := by
  refine State.ctr_incP_ne s p c n q d fun ha => ?_
  have h1 := blkAt_adr q d.off
  rw [ha, blkAt_adr] at h1
  exact h (Option.some.inj h1).symm

/-- Interrupts touch no counter but those of PCIE. -/
theorem State.irq_ctr (s : State) (p : Page) (n : Nat) (q : Page) (c : Ctr) (h : q.blk ≠ .pcie) : (s.irq p n).ctr q c = s.ctr q c := by
  unfold State.irq State.irqBits State.assertSrc State.sendVec
  dsimp only
  repeat' split
  all_goals first
    | rfl
    | exact State.ctr_incP_blk _ ⟨.pcie, 0⟩ C.PCIE_MSIX_SENT 1 q c h

theorem bit_lor (x n : Nat) (h : n < 32) : bit (Nat.lor x (2 ^ n) % 2 ^ 32) n = true := by
  unfold bit bits
  have h1 : (Nat.lor x (2 ^ n) % 2 ^ 32).testBit n = true := by
    rw [Nat.testBit_mod_two_pow]
    have : (Nat.lor x (2 ^ n)).testBit n = ((x ||| 2 ^ n) : Nat).testBit n := rfl
    rw [this, Nat.testBit_or, Nat.testBit_two_pow_self]
    simp [h]
  rw [Nat.testBit_eq_decide_div_mod_eq] at h1
  simpa using h1

/-- The interrupt bit is set. -/
theorem State.irq_up (s : State) (p : Page) (n : Nat) (h : n < 32) : (s.irq p n).irqUp p n = true := by
  unfold State.irqUp State.irq
  rw [State.irqBits_word]
  exact bit_lor _ _ h

/-- A bit that was set stays so when another is. -/
theorem State.irqUp_irq (s : State) (p : Page) (n : Nat) (q : Page) (m : Nat) (h : s.irqUp p n = true) (hn : n < 32) : (s.irq q m).irqUp p n = true := by
  unfold State.irqUp State.irq at *
  by_cases ha : p.adr 0x01C = q.adr 0x01C
  · rw [ha] at h ⊢
    rw [State.irqBits_word]
    unfold bit bits at *
    have h1 : (s.reg (q.adr 0x01C)).testBit n = true := by
      rw [Nat.testBit_eq_decide_div_mod_eq]
      simpa using h
    have h2 : (Nat.lor (s.reg (q.adr 0x01C)) (2 ^ m) % 2 ^ 32).testBit n = true := by
      rw [Nat.testBit_mod_two_pow]
      have : (Nat.lor (s.reg (q.adr 0x01C)) (2 ^ m)).testBit n = ((s.reg (q.adr 0x01C) ||| 2 ^ m) : Nat).testBit n := rfl
      rw [this, Nat.testBit_or, h1]
      simp [hn]
    rw [Nat.testBit_eq_decide_div_mod_eq] at h2
    simpa using h2
  · rw [State.irqBits_reg _ _ _ _ ha]
    exact h

theorem touchLog_log : touchLog.Log where
  out_on := rfl
  vecSent_on := rfl
  fq_on := rfl
  ev_on := rfl
  once_on := rfl
  canal_on := rfl
  canal_in := ⟨rfl⟩
  eth_in := ⟨rfl⟩
  evlog_in := ⟨rfl⟩
  flume_in := ⟨rfl⟩
  pcie_in := ⟨rfl⟩

/-- A record leaves a field alone whose block records do not touch. -/
theorem State.event_get (s : State) (code source a b c : Nat) (F : Fld) (i k : Nat) (h : touchLog.has (some F.blk) = false) :
    (s.event code source a b c).get F i k = s.get F i k := by
  have := touchLog_log
  exact State.get_of_rest (W := touchLog) (State.event_rest s code source a b c) F i k h

theorem State.event_irqUp (s : State) (code source a b c : Nat) (p : Page) (n : Nat) (h : touchLog.has (some p.blk) = false) :
    (s.event code source a b c).irqUp p n = s.irqUp p n := by
  have := touchLog_log
  exact congrArg (fun x => bit x n) (State.reg_of_rest (W := touchLog) (State.event_rest s code source a b c) p _ h)

theorem State.event_ctr (s : State) (code source a b c : Nat) (p : Page) (d : Ctr) (h : touchLog.has (some p.blk) = false) :
    (s.event code source a b c).ctr p d = s.ctr p d := by
  have := touchLog_log
  exact State.ctr_of_rest (W := touchLog) (State.event_rest s code source a b c) p d h

/-- A notice sets its bit. -/
theorem State.notice_up (s : State) (p : Page) (n a1 a2 a0 cell : Nat) (h : touchLog.has (some p.blk) = false) (hn : n < 32) :
    (s.notice p n a1 a2 a0 cell).irqUp p n = true := by
  unfold State.notice
  rw [State.event_irqUp _ _ _ _ _ _ _ _ h]
  exact State.irq_up _ _ _ hn

theorem State.notice_get (s : State) (p : Page) (n a1 a2 a0 cell : Nat) (F : Fld) (i k : Nat) (h : touchLog.has (some F.blk) = false)
    (ho : (F.off + k * F.step) % 0x1000 ≠ 0x01C) : (s.notice p n a1 a2 a0 cell).get F i k = s.get F i k := by
  unfold State.notice
  rw [State.event_get _ _ _ _ _ _ _ _ _ h, State.irq_get _ _ _ _ _ _ (Fld.addr_ne_irq F i k p ho)]

theorem State.notice_ctr (s : State) (p : Page) (n a1 a2 a0 cell : Nat) (q : Page) (d : Ctr) (h : touchLog.has (some q.blk) = false) :
    (s.notice p n a1 a2 a0 cell).ctr q d = s.ctr q d := by
  unfold State.notice
  rw [State.event_ctr _ _ _ _ _ _ _ _ h, State.irq_ctr]
  intro hq
  rw [hq] at h
  exact absurd h (by decide)

end Sys2Proof.Machine
end

