-- ==== Sys2Proof/WellFormed.lean ====
section
/-! DEFINITION. Which commands are well formed: every operand lies in the range that the interface it comes over gives it.
The machine takes any command; a claim about commands may ask for a well-formed one. -/
namespace Sys2Proof.Machine

/-- A source that exists: 64 tunnel windows (R40), eight cores (R39). -/
def Src.wf : Src → Bool
  | .host => true
  | .bar2 z => decide (z < 64)
  | .sup => true
  | .jtag => true
  | .core n => decide (n < 8)

/-- Bytes. -/
def bytesOk (l : List Nat) : Bool := l.all fun b => decide (b < 256)

/-- Words of a key. -/
def wordsOk (l : List Nat) : Bool := l.all fun w => decide (w < 2 ^ 32)

/-- A table operation's form: an 8-bit tag, the key's four words, a 64-byte entry (R49, R50). -/
def Via.wf : Via → Bool
  | .page src => src.wf
  | .tag src t q key data => src.wf && decide (t < 256) && decide (q < 64) && decide (key.length = 4) && wordsOk key && decide (data < 2 ^ 512)

/-- An Ethernet frame: addresses of 48 bits, an EtherType of 16, bytes (R347). -/
def EthFrame.wf (f : EthFrame) : Bool :=
  decide (f.da < 2 ^ 48) && decide (f.sa < 2 ^ 48) && decide (f.etype < 2 ^ 16) && bytesOk f.body

/-- A PPDU at a receiver: a PSDU of at most the 4,095 bytes that SIGNAL's 12-bit LENGTH can tell, in bytes (R165). -/
def PpduIn.wf (y : PpduIn) : Bool := decide (y.psdu.length < 4096) && bytesOk y.psdu

/-- A LEASE message: a zone number of 6 bits, an XID of 32 (R243). -/
def LeaseMsg.wf (m : LeaseMsg) : Bool := decide (m.from_ < 64) && decide (m.xid < 2 ^ 32) && decide (m.epoch < 256)

/-- A STOP message (R300). -/
def StopMsg.wf (m : StopMsg) : Bool := decide (m.cls < 4) && decide (m.seq < 2 ^ 16)

end Sys2Proof.Machine

namespace Sys2Proof
open Sys2Proof.Machine

/-- A command is well formed. -/
def Instr.wf : Instr → Bool
  | .registerWrite src addr value _ => src.wf && decide (addr < 2 ^ 24) && decide (value < 2 ^ 32)
  | .unmappedAccess src addr _ _ => src.wf && decide (addr < 2 ^ 24)
  | .counterRead src addr => src.wf && decide (addr < 2 ^ 24)
  | .nowNsRead src => src.wf
  | .bar2Access z addr value _ _ => decide (z < 64) && decide (addr < 2 ^ 24) && decide (value < 2 ^ 32)
  | .tunnelTimeout id => decide (id < 2 ^ 16)
  | .ctrlEnWrite src p _ => src.wf && allPages.contains p
  | .ctrlRestart p => allPages.contains p
  | .isoClear p => allPages.contains p
  | .startupComplete p _ code x => allPages.contains p && decide (code < 256) && x.badCells.all fun c => decide (c < p.blk.cells)
  | .startupSafePoint p => allPages.contains p
  | .shutdownComplete p => allPages.contains p
  | .regionIsolate p _ _ _ => allPages.contains p
  | .blockAutoRestart p => allPages.contains p
  | .cellError p cell cls code a0 a1 a2 => allPages.contains p && decide (cell < 256) && decide (cls < 4) && decide (code < 256) && decide (a0 < 2 ^ 16) && decide (a1 < 2 ^ 32) && decide (a2 < 2 ^ 32)
  | .levelRise => true
  | .errInject src p cls cell => src.wf && allPages.contains p && decide (cls < 4) && decide (cell < 256)
  | .irqForce src p mask => src.wf && allPages.contains p && decide (mask < 2 ^ 32)
  | .lockWrite src p => src.wf && allPages.contains p
  | .vecAck v => decide (v < 64)
  | .tblRead via p table i => via.wf && allPages.contains p && decide (table < 16) && decide (i < 2 ^ 24)
  | .tblWrite via p table i => via.wf && allPages.contains p && decide (table < 16) && decide (i < 2 ^ 24)
  | .tblInsert via p table i => via.wf && allPages.contains p && decide (table < 16) && decide (i < 2 ^ 24)
  | .tblDelete via p table i => via.wf && allPages.contains p && decide (table < 16) && decide (i < 2 ^ 24)
  | .tblLookup via p table i => via.wf && allPages.contains p && decide (table < 16) && decide (i < 2 ^ 24)
  | .tblNext via p table i => via.wf && allPages.contains p && decide (table < 16) && decide (i < 2 ^ 24)
  | .tblCmpwrite via p table i => via.wf && allPages.contains p && decide (table < 16) && decide (i < 2 ^ 24)
  | .tagCompletion => true
  | .refclkLost _ _ => true
  | .pllRelock _ => true
  | .refGood10s => true
  | .returnReq => true
  | .rootReturn => true
  | .returnFail => true
  | .auxclkLost _ _ => true
  | .rootInputRecovered _ _ _ => true
  | .dramScrubPass _ _ => true
  | .dramTrainingDone _ => true
  | .supRestart => true
  | .supHold _ => true
  | .supRelease _ _ => true
  | .chipResetGo => true
  | .bundleAssembly p g _ => decide (p < 4) && decide (g < 8)
  | .antCurrentClassify ant _ => decide (ant < 2)
  | .interfSet ant _ _ _ _ => decide (ant < 2)
  | .interfClear ant _ _ _ _ => decide (ant < 2)
  | .acqPass sky => sky.all fun x => decide (x.sig < 13 ∧ x.elev ≤ 90)
  | .channelLock c => decide (c < 1024)
  | .pullInTimeout c => decide (c < 1024)
  | .cycleSlip c => decide (c < 1024)
  | .trackLoss c => decide (c < 1024)
  | .channelRelock c => decide (c < 1024)
  | .lostTimeout c _ => decide (c < 1024)
  | .polarityResolved c => decide (c < 1024)
  | .measStrobe l => decide ((l.map (·.channel)).Pairwise (· < ·)) && l.all fun m => decide (m.channel < 256)
  | .epochComplete _ geom => geom.all fun x => decide (x.sig < 13)
  | .spoofClear => true
  | .surveyStart => true
  | .surveySecond _ _ _ => true
  | .surveyTimeout => true
  | .timeSourceMeasure src _ _ cls => decide (src < 3) && decide (cls < 256)
  | .slewComplete => true
  | .tqEvaluate => true
  | .refusedTimeout => true
  | .gapAllowExpiry => true
  | .stepToSource => true
  | .stepByOffset _ => true
  | .acceptFree => true
  | .slewAccept => true
  | .timeStepApply => true
  | .rebaseComplete => true
  | .ppsEdge => true
  | .ptpEventRx port f => decide (port < 2) && f.wf
  | .ptpEventTx port msgType domain seqId _ => decide (port < 2) && decide (msgType < 16) && decide (domain < 256) && decide (seqId < 2 ^ 16)
  | .txtsPop src port => src.wf && decide (port < 2)
  | .memberEpochReady m => decide (m < 512)
  | .cellTake cell => decide (cell < 16)
  | .deadlineDrop m => decide (m < 512)
  | .solveComplete cell _ => decide (cell < 16)
  | .cellWatchdog cell => decide (cell < 16)
  | .rtkCapacityEval => true
  | .signalAbsentTimeout m sig svid => decide (m < 512) && decide (sig < 16) && decide (svid < 64)
  | .memberStateTimeout m => decide (m < 512)
  | .baseLost => true
  | .corrBuild => true
  | .corrEntry p i => decide (p < 4) && decide (i < 2048)
  | .framingLock p => decide (p < 4)
  | .framingLoss p => decide (p < 4)
  | .ppduTx p rate len => decide (p < 4) && decide (rate < 8) && decide (len < 4096)
  | .ppduRx p rate y => decide (p < 4) && decide (rate < 8) && y.wf
  | .spiTxnGo p len => decide (p < 4) && decide (len < 4096)
  | .spiTxnDone p miso => decide (p < 4) && decide (miso < 2 ^ 32)
  | .healthCheck p miso => decide (p < 4) && decide (miso < 2 ^ 32)
  | .airportStartTimeout p => decide (p < 4)
  | .txPathGrant p => decide (p < 4)
  | .portSvcStart p => decide (p < 4)
  | .portSvcFault p => decide (p < 4)
  | .faultClr p => decide (p < 4)
  | .superframeBoundary => true
  | .sluiceBankClear via p bank => via.wf && decide (p < 4) && decide (bank < 2)
  | .bankArm p => decide (p < 4)
  | .bankCancel p => decide (p < 4)
  | .upFrameRx p => decide (p < 4)
  | .ackRx p => decide (p < 4)
  | .ackMissing p seq => decide (p < 4) && decide (seq < 256)
  | .joinReqRx p => decide (p < 4)
  | .downBcastEntry p i => decide (p < 4) && decide (i < 2048)
  | .upEntryEnd p i => decide (p < 4) && decide (i < 2048)
  | .relayedFrameRx p => decide (p < 4)
  | .routeAgeTick => true
  | .routeScanStep => true
  | .routeRepack via => via.wf
  | .repackComplete => true
  | .routeEccHoldExpiry => true
  | .learnRx _ => true
  | .floodSeenAge src seq => decide (src < 2 ^ 32) && decide (seq < 2 ^ 16)
  | .furrowOpen via => via.wf
  | .furrowSteps via => via.wf
  | .furrowSubmit via => via.wf
  | .furrowRelease via => via.wf
  | .clearOverstay via => via.wf
  | .abandon via => via.wf
  | .buildTimeout handle => decide (handle < 64)
  | .prepareRx m => m.wf
  | .voteRx m => m.wf
  | .commitRx m => m.wf
  | .commitAckRx m => m.wf
  | .committedRx m => m.wf
  | .abortRx m => m.wf
  | .leaseReleaseRx m => m.wf
  | .stepDoneRx m => m.wf
  | .stepOverstayRx m => m.wf
  | .takeoverRx m => m.wf
  | .xferDeadline xid => decide (xid < 2 ^ 32)
  | .committedTimeout xid => decide (xid < 2 ^ 32)
  | .stepDue i => decide (i < 2 ^ 18)
  | .reportWaitExpiry i => decide (i < 2 ^ 18)
  | .lostClr src => src.wf
  | .ownerForfeit i => decide (i < 578)
  | .hostGenBump => true
  | .tlockStart i => decide (i < 2 ^ 18)
  | .tlockEnd i => decide (i < 2 ^ 18)
  | .turnoutTake via => via.wf
  | .turnoutDrop via => via.wf
  | .orphanClear via => via.wf
  | .seqOpen via => via.wf
  | .seqStage via => via.wf
  | .seqCommit via => via.wf
  | .seqDiscard via => via.wf
  | .seqTimeout handle => decide (handle < 64)
  | .registryRelease via => via.wf
  | .registryHold via => via.wf
  | .evict via => via.wf
  | .noPositionTimeout m => decide (m < 512)
  | .moveAdd via => via.wf
  | .moveFlush via => via.wf
  | .setLimits via => via.wf
  | .stopInputFiltered input _ => decide (input < 4)
  | .discrepancy => true
  | .stopReq src req => src.wf && decide (req < 16)
  | .burstFrame => true
  | .hgBeacon port => decide (port < 4)
  | .hgKeyLoad => true
  | .canalStopRx port unit mseq m => decide (port < 2) && decide (unit < 2) && decide (mseq < 2 ^ 32) && m.wf
  | .outputTestPulse _ => true
  | .outputReadbackError _ => true
  | .resumeArm => true
  | .resumeRelease tag => decide (tag < 2 ^ 32)
  | .armWindowExpiry => true
  | .hgSelftest _ => true
  | .hgPowerOn _ => true
  | .dpTake core => decide (core < 8)
  | .itemDone core ctx => decide (core < 8) && decide (ctx < 8)
  | .emitCmd core ctx dest kind target arg body => decide (core < 8) && decide (ctx < 8) && decide (dest < 4) && decide (kind < 256) && decide (target < 2 ^ 32) && decide (arg < 2 ^ 32) && bytesOk body
  | .itemTimeout core ctx => decide (core < 8) && decide (ctx < 8)
  | .dispatchPost via => via.wf
  | .timerFire t => decide (t < 256)
  | .traceSync => true
  | .taskCreate via => via.wf
  | .taskOffer via => via.wf
  | .taskClaim via => via.wf
  | .taskStart via => via.wf
  | .taskFinish via => via.wf
  | .taskWithdraw via => via.wf
  | .taskFree via => via.wf
  | .taskDeadline i => decide (i < 2048)
  | .chargeEnergyTick => true
  | .arbRequest region r beats _ target => decide (region < 8) && decide (r < 32) && decide (beats < 2 ^ 16) && (match target with | some q => allPages.contains q | none => true)
  | .arbGrantEnd region => decide (region < 8)
  | .arbWithdraw region r _ => decide (region < 8) && decide (r < 32)
  | .quotaWindow region => decide (region < 8)
  | .freezeWrite region src _ => decide (region < 8) && src.wf
  | .freezeTimeout region => decide (region < 8)
  | .lwClr region r => decide (region < 8) && decide (r < 32)
  | .pcieLinkDown _ => true
  | .pcieFlr => true
  | .flumeFrameRx port f _ => decide (port < 2) && f.wf
  | .creditRx port session _ => decide (port < 2) && decide (session < 2 ^ 16)
  | .flumeFlush queue => decide (queue < 64)
  | .flumeRetxTimeout queue => decide (queue < 64)
  | .creditSend => true
  | .hostTimeout => true
  | .flumeStall queue => decide (queue < 64)
  | .qevClr queue => decide (queue < 64)
  | .pfcRx port mask _ => decide (port < 2) && decide (mask < 256)
  | .pfcXoffRepeat port => decide (port < 2)
  | .ethLinkChange port _ _ => decide (port < 2)
  | .canalTrained port _ _ => decide (port < 2)
  | .canalTrainTimeout port => decide (port < 2)
  | .canalLinkFail port _ => decide (port < 2)
  | .canalReplayTimeout port => decide (port < 2)
  | .canalMessageRx port _ _ => decide (port < 2)
  | .enumRx port count _ => decide (port < 2) && decide (count < 64)
  | .enumTimeout => true
  | .ringNoticeRx port link _ => decide (port < 2) && decide (link < 64)
  | .island => true
  | .delayReq port => decide (port < 2)
  | .delayRespRx port _ _ _ => decide (port < 2)
  | .timeMessageSend => true
  | .timeMessageRx port hops timeS timeNs corr uncert epoch tq mseq origin unit => decide (port < 2) && decide (hops < 64) && decide (timeS < 2 ^ 48) && decide (timeNs < 1000000000) && decide (corr < 2 ^ 32) && decide (uncert < 2 ^ 32) && decide (epoch < 256) && decide (tq < 16) && decide (mseq < 2 ^ 32) && decide (origin < 64) && decide (unit < 2)
  | .regMessageRx _ _ => true
  | .peerAlivePulse => true
  | .peerPulseRx _ => true
  | .peerPulseMissed => true
  | .pairKick => true
  | .pairResetRole => true
  | .claimCheck => true
  | .claimLineChange _ => true
  | .pairWarm _ => true
  | .pairTake => true
  | .takeoverStart => true
  | .takeoverLoaded => true
  | .pairDataRx _ => true
  | .pairCutRx _ => true
  | .pairAckRx sfn => decide (sfn < 2 ^ 32)
  | .partnerAckTimeout => true
  | .stopStateRx cls reason stopSeq => decide (cls < 4) && decide (reason < 256) && decide (stopSeq < 2 ^ 16)
  | .pairStatusSend => true
  | .pairStatusRx _ => true
  | .handoverRx => true
  | .resyncRx => true
  | .pairSwitch => true
  | .switchReqRx => true
  | .switchRx sfn => decide (sfn < 2 ^ 32)
  | .revertHoldoffExpiry => true
  | .revertRequest => true
  | .meterWindow _ => true
  | .meterSecond => true
  | .meterIntervalEnd => true
  | .pqRefresh v rms => decide (v < 3) && decide (rms < 2 ^ 32)
  | .meterSave _ => true
  | .meterPulse k => decide (k < 2)
  | .pulseCfgWrite src k value => src.wf && decide (k < 2) && decide (value < 2 ^ 32)
  | .attGo => true
  | .attestDone => true
  | .ksSign via => via.wf
  | .ksVerify via _ => via.wf
  | .ksDerive via => via.wf
  | .remask => true
  | .tokOpen src => src.wf
  | .tokGo src => src.wf
  | .tokRelease src => src.wf
  | .tokOwnerTimeout => true
  | .tokenVerifyDone _ _ _ => true
  | .tokNonceExpiry => true
  | .fuseProgGo setting value signer => decide (setting < 16) && decide (value < 256) && decide (signer < 256)
  | .fuseBurnDone _ => true
  | .lcTransition target signer _ => decide (target < 8) && decide (signer < 256)
  | .lcRetire _ => true
  | .dbgOpenObserve => true
  | .dbgOpenFull => true
  | .dbgObserve => true
  | .certGo _ => true
  | .dbgEnd => true
  | .dbgDurationExpiry => true
  | .extest _ => true
  | .pwrTargetWrite t => decide (t < 4)
  | .mainSupplyLoss _ => true
  | .vddGateLoss => true
  | .supplyMonitorTrip rail _ => decide (rail < 8)
  | .thermalTrip _ => true
  | .tempWarn _ => true
  | .porst _ _ _ _ => true
  | .romBoot _ => true
  | .bootOk src => src.wf
  | .keepWatchdog => true
  | .imageLoad t => decide (t < 5)
  | .updVerify _ => true
  | .updProgram => true
  | .updCancel => true
  | .updDone _ _ _ => true
  | .updCommit signer => decide (signer < 256)
  | .recoveryChunk ch rec _ => decide (ch = 1 ∨ ch = 2) && bytesOk rec
  | .rcvGo _ => true
  | .recoverySilence => true
  | .weirTokenDue _ => true
  | .weirBucketReturn code => decide (code < 2 ^ 16)
  | .eventSummary => true
  | .seqSave => true
  | .foundingBatch _ => true
  | .mainSupplyReturn _ _ _ => true
  | .railBackInRange rail => decide (rail < 8)
  | .auxclkReturn _ => true
  | .stepWindowBegins i => decide (i < 2 ^ 18)
  | .directLockEnd t => decide (t < 8192)
  | .pcieLinkUp speed _ _ => decide (speed < 8)
  | .msixVectorUnmask v => decide (v < 64)
  | .canalFlitRx port _ _ ackSeq crClass crTotal _ => decide (port < 2) && decide (ackSeq < 2 ^ 16) && decide (crClass < 8) && decide (crTotal < 2 ^ 16)
  | .pfcPauseExpiry port prio => decide (port < 2) && decide (prio < 8)
  | .ethOtherFrameRx port f _ => decide (port < 2) && f.wf
  | .meterOutageSample _ => true
  | .tjBelow105 _ => true
  | .debugHalt core act => decide (core < 9) && decide (act < 3)
  | .recoveryLinkTry port => decide (port < 2)

end Sys2Proof
end

