-- ==== Sys2Proof/Tests/Slice0.lean ====
section
/-! SUPPORT. Tests of the model: what is ill formed is refused by the check, single steps on small states, and for every
statement with hypotheses a state and operands that meet them. -/
set_option linter.unusedVariables false
set_option Elab.async false
namespace Sys2Proof.Machine
open Sys2Proof

/-! ### Single steps -/

theorem test_reset_idle : step State.reset = .next State.reset.tick := rfl

/-! ### WellFormed refuses what is out of range -/

theorem test_wf_source : Instr.wf (.nowNsRead (.core 8)) = false := by decide
theorem test_wf_window : Instr.wf (.bar2Access 64 0 0 false {}) = false := by decide
theorem test_wf_value : Instr.wf (.registerWrite .host 0 (2 ^ 32) {}) = false := by decide
theorem test_wf_table : Instr.wf (.tblRead (.page .host) ⟨.lease, 0⟩ 16 0) = false := by decide
theorem test_wf_vector : Instr.wf (.vecAck 64) = false := by decide

theorem test_wf_page : Instr.wf (.ctrlRestart ⟨.airport, 4⟩) = false := by decide
theorem test_wf_tag : Instr.wf (.ksSign (.tag .sup 256 0 [0, 0, 0, 0] 0)) = false := by decide
theorem test_wf_key : Instr.wf (.ksSign (.tag .sup 128 0 [0, 0, 2 ^ 32, 0] 0)) = false := by decide
theorem test_wf_channel : Instr.wf (.channelLock 1024) = false := by decide
theorem test_wf_member : Instr.wf (.memberEpochReady 512) = false := by decide
theorem test_wf_strobe : Instr.wf (.measStrobe [⟨2, 45, 0, 0, 0, 40, true, true, true⟩, ⟨1, 45, 0, 0, 0, 40, true, true, true⟩]) = false := by decide
theorem test_wf_frame : Instr.wf (.ethOtherFrameRx 0 ⟨true, 2 ^ 48, 0, none, 0, []⟩ false) = false := by decide
theorem test_wf_psdu : Instr.wf (.ppduRx 0 0 ⟨0, true, 0, 0, 0, [256]⟩) = false := by decide
theorem test_wf_slot : Instr.wf (.corrEntry 0 2048) = false := by decide
theorem test_wf_lease : Instr.wf (.stepDue (2 ^ 18)) = false := by decide
theorem test_wf_core : Instr.wf (.dpTake 8) = false := by decide
theorem test_wf_region : Instr.wf (.arbGrantEnd 8) = false := by decide
theorem test_wf_queue : Instr.wf (.flumeFlush 64) = false := by decide
theorem test_wf_rail : Instr.wf (.railBackInRange 8) = false := by decide
theorem test_wf_image : Instr.wf (.imageLoad 5) = false := by decide
theorem test_wf_halt : Instr.wf (.debugHalt 9 0) = false := by decide
theorem test_wf_chunk : Instr.wf (.recoveryChunk 0 [] {}) = false := by decide

/-! ### Worked examples of the spec -/

/-- 00_scope.md: the pages of AIRPORT 1 and of CORE 1. -/
theorem test_page_addresses : Page.base ⟨.airport, 1⟩ = 0x601000 ∧ Page.base ⟨.core, 1⟩ = 0x871000 := by decide
/-- 00_scope.md: site 0x2C, zone 5, member 300. -/
theorem test_addresses : (let s := State.reset.set F.RING_STATUS_NUMBER 5; { s with canal := { s.canal with site := 0x2C } }).addrOf 300 = 0x2C165800 ∧
    airAddr 0x0B2C = .member 5 300 := by decide +kernel
/-- 08_sluice_mac.md, the frames of port A0 at 10 MHz. -/
theorem test_ppdu_times : [(0, 74), (4, 406), (4, 14), (4, 1066), (4, 37), (0, 42), (0, 14)].map (fun (x : Nat × Nat) => State.reset.portUs 0 x.1 x.2) =
    [248, 320, 56, 760, 72, 160, 88] := by decide +kernel
/-- 04_fleet_time.md, holdover and return: the instantaneous TQ of u. -/
theorem test_tq : [25000, 50000, 100000, 250300, 501200, 1004800, 2500001].map tqOf = [0, 1, 2, 4, 5, 6, 7] := by decide

/-! ### The hypotheses of the statements can be met -/

/-- The state after reset with the given pages ON. -/
def up (l : List Page) : State := l.foldl (fun s p => s.setP p F.STATE 2) State.reset

/-- A token that installs a key in slot 16 for this chip, under verification: its words 1 and 2 are the serial number. -/
def tokenWords (serial : Nat) : List Nat :=
  [0x20020201, serial % 2 ^ 32, serial / 2 ^ 32, 0, 0, 0, 0x00040210, 0xFFFFFFFF] ++ List.replicate 56 0

def witToken : State :=
  let s := ((up [⟨.keystore, 0⟩]).set F.TOK_STATUS_BUSY 1).setTe ⟨.keystore, 0⟩ 0 2 (KS.usage.set (KS.ktype.set 0 4) 2)
  { s with key := { s.key with tok := tokenWords Config.serial.toNat } }

theorem witToken_serial (n : Nat) (h : n < 2 ^ 64) : ofBytes ((((tokenWords n).flatMap (toBytes 4)).drop 4).take 8) = n := by
  simp only [tokenWords, List.cons_append, List.nil_append, List.flatMap_cons, toBytes, List.drop_succ_cons, List.drop_zero,
    List.take_succ_cons, List.take_zero, ofBytes]
  omega

/-- A certificate's words for this chip with the challenge 0, for 60 s. -/
def certWords (serial : Nat) : List Nat := [0x00020201, serial % 2 ^ 32, serial / 2 ^ 32, 0, 0, 0, 0, 0, 0, 0, 0, 60]

def witCertAt (n : Nat) : State :=
  let s := (up [⟨.debug, 0⟩]).set F.LC_STATUS_STATE 1
  { s with regs := s.regs ++ ((certWords n).zipIdx.map fun (w, k) => (Page.base ⟨.debug, 0⟩ + 0x400 + 4 * k, BitVec.ofNat 32 w)) }

def witCert : State := witCertAt Config.serial.toNat

theorem witCertAt_words (n : Nat) : (witCertAt n).words ⟨.debug, 0⟩ 0x400 32 =
    [0x00020201, n % 2 ^ 32 % 2 ^ 32, n / 2 ^ 32 % 2 ^ 32, 0, 0, 0, 0, 0, 0, 0, 0, 60, 0, 0, 0, 0, 0, 0, 0, 0, 0, 0, 0, 0, 0, 0, 0, 0, 0, 0, 0, 0] := by
  rfl
theorem witCertAt_chal (n : Nat) : (witCertAt n).words ⟨.debug, 0⟩ 0x320 8 = [0, 0, 0, 0, 0, 0, 0, 0] := by rfl
theorem AMap.get_append_absent {α : Type} (d : Nat → α) (l l' : AMap α) (k : Nat) (h : k ∉ l'.map Prod.fst) :
    AMap.get d (l ++ l') k = AMap.get d l k := by
  induction l with
  | nil =>
    induction l' with
    | nil => rfl
    | cons e r ih => simp only [List.map_cons, List.mem_cons, not_or] at h; simpa [AMap.get, h.1] using ih h.2
  | cons e r ih => simp only [List.cons_append, AMap.get, ih]

theorem witCertAt_get (n : Nat) (G : Fld) (i k : Nat) (h : G.addr i k ∉ (List.range 12).map fun j => Page.base ⟨.debug, 0⟩ + 0x400 + 4 * j) :
    (witCertAt n).get G i k = ((up [⟨.debug, 0⟩]).set F.LC_STATUS_STATE 1).get G i k := by
  unfold State.get State.reg
  rw [show (witCertAt n).regs = ((up [⟨.debug, 0⟩]).set F.LC_STATUS_STATE 1).regs ++
    ((certWords n).zipIdx.map fun (w, k) => (Page.base ⟨.debug, 0⟩ + 0x400 + 4 * k, BitVec.ofNat 32 w)) from rfl, AMap.get_append_absent]
  exact h

theorem certNum (n c : Nat) (h : n < 2 ^ 64) (hc : c = 0x00020201 + n * 2 ^ 32 + 60 * 2 ^ 176 * 2 ^ 176) : bits c 0 8 = 1 ∧ bits c 8 8 = 2 ∧ bits c 16 8 = 2 ∧ bits c 24 8 = 0 ∧ bits c 352 32 = 60 ∧ bits c 384 128 = 0 ∧ bits c 32 64 = n ∧ bits c 96 256 = 0 := by
  refine ⟨?_, ?_, ?_, ?_, ?_, ?_, ?_, ?_⟩ <;> unfold bits <;> omega


theorem foldr_cert (B u x y v : Nat) : List.foldr (fun w acc => w + acc * B) 0
    [u, x, y, 0, 0, 0, 0, 0, 0, 0, 0, v, 0, 0, 0, 0, 0, 0, 0, 0, 0, 0, 0, 0, 0, 0, 0, 0, 0, 0, 0, 0] =
    u + (x + (y + v * B * B * B * B * B * B * B * B * B) * B) * B := by
  simp only [List.foldr_cons, List.foldr_nil, Nat.zero_mul, Nat.add_zero, Nat.zero_add]

theorem witCertAt_cert (n : Nat) (h : n < 2 ^ 64) : (witCertAt n).cert = 0x00020201 + n * 2 ^ 32 + 60 * 2 ^ 176 * 2 ^ 176 := by
  unfold State.cert
  rw [witCertAt_words, foldr_cert]
  omega

theorem witCertAt_result (n : Nat) (h : n < 2 ^ 64) (hs : Config.serial.toNat = n) : (witCertAt n).certResult true = 1 := by
  obtain ⟨h0, h1, h2, h3, h4, h5, h6, h7⟩ := certNum n _ h (witCertAt_cert n h)
  have hr : (witCertAt n).get F.SETTING_VALUE 0 3 = 0 := by
    rw [witCertAt_get n F.SETTING_VALUE 0 3 (by decide +kernel)]
    decide +kernel
  have hf : (witCertAt n).fullByCert = true := by
    unfold State.fullByCert
    rw [witCertAt_get n F.LC_STATUS_STATE 0 0 (by decide +kernel), show ((up [⟨.debug, 0⟩]).set F.LC_STATUS_STATE 1).get F.LC_STATUS_STATE 0 0 = 1 by decide +kernel]
    rfl
  unfold State.certResult
  rw [witCertAt_chal, hf]
  simp only [Nat.reduceMul, hr, h0, h1, h2, h3, h4, h5, h6, h7, hs]
  simp [bits, bit]

/-- A standby unit with a complete full, before it has heard its partner. -/
def witStandby0 : State :=
  let s := State.reset.set F.PAIR_STATUS_STATE 2
  { s with now := ms 30, boot := { s.boot with waiting := false }, pair := { s.pair with paired := true, slots := [some ⟨5, [], true, []⟩, none] } }

/-- The same unit once its partner's STATUS has come. -/
def witStandby : State :=
  { witStandby0 with pair := { witStandby0.pair with peer := some { typ := 6, format := witStandby0.pair.format, cfgHash := witStandby0.cfgHash, kgen := witStandby0.get F.SEC_STATUS_KGEN_CUR, pstate := 4 } } }

theorem witStandby_cfg : witStandby.cfgHash = witStandby0.cfgHash := rfl

/-- A state and operands that meet the hypotheses of a clause of `Obligations.StepTakesTheFront`. -/
theorem test_wit_StepTakesTheFront_1 : ({ State.reset with pending := [.levelRise, .island] } : State).pending = .levelRise :: [.island] := by decide +kernel

/-- A state and operands that meet the hypotheses of a clause of `Obligations.IdleStepIsOneClockCycle`. -/
theorem test_wit_IdleStepIsOneClockCycle_1 : State.reset.pending = [] := by decide +kernel

/-- A state and operands that meet the hypotheses of a clause of `Obligations.IdleStepIsOneClockCycle`. -/
theorem test_wit_IdleStepIsOneClockCycle_2 : State.reset.pending = [] ∧ State.reset.get F.ROOT_STATUS_ROOT_LOCK ≠ 1 := by decide +kernel

/-- A state and operands that meet the hypotheses of a clause of `Obligations.OutsideTheFrame`. -/
theorem test_wit_OutsideTheFrame_1 : Blk.headgate ∉ (touches (.nowNsRead .host)).blks ∧ (touches (.nowNsRead .host)).dram = false ∧ (touches (.nowNsRead .host)).hg = false ∧ (touches (.nowNsRead .host)).ls = false ∧ (touches (.nowNsRead .host)).key = false := by decide +kernel

/-- A state and operands that meet the hypotheses of a clause of `Obligations.StepKeepsCanonicalForm`. -/
theorem test_wit_StepKeepsCanonicalForm_1 : State.reset.wf = true := by decide +kernel

/-- A state and operands that meet the hypotheses of a clause of `Obligations.ResetStartsTheBlocks`. -/
theorem test_wit_ResetStartsTheBlocks_1 : (⟨.keep, 0⟩ : Page) ∈ allPages ∧ (⟨.keep, 0⟩ : Page).blk ≠ .regionCtl := by decide +kernel

/-- A state and operands that meet the hypotheses of a clause of `Obligations.ContentsReadBack`. -/
theorem test_wit_ContentsReadBack_1 : F.RF_CFG_INTERF_DB.lsb + F.RF_CFG_INTERF_DB.width ≤ 32 := by decide +kernel

/-- A state and operands that meet the hypotheses of a clause of `Obligations.ContentsReadBack`. -/
theorem test_wit_ContentsReadBack_2 : F.RF_CFG_INTERF_DB.lsb + F.RF_CFG_INTERF_DB.width ≤ 32 ∧ F.RF_STATUS_INTERF.addr 1 0 ≠ F.RF_CFG_INTERF_DB.addr 1 0 := by decide +kernel

/-- A state and operands that meet the hypotheses of a clause of `Obligations.ContentsReadBack`. -/
theorem test_wit_ContentsReadBack_3 : (⟨.fault, 0⟩ : Page).adr 0x040 ≠ (⟨.fault, 0⟩ : Page).adr 0x048 := by decide +kernel

/-- A state and operands that meet the hypotheses of a clause of `Obligations.ContentsReadBack`. -/
theorem test_wit_ContentsReadBack_4 : (⟨.lease, 0⟩ : Page).tblKey 0 1 ≠ (⟨.lease, 0⟩ : Page).tblKey 0 0 := by decide +kernel

/-- A state and operands that meet the hypotheses of a clause of `Obligations.ReadOfTimeLatchesForItsSource`. -/
theorem test_wit_ReadOfTimeLatchesForItsSource_1 : latchKey .sup (F.NOW_S_LO.addr 0 0) ≠ latchKey .host (F.NOW_S_LO.addr 0 0) ∧ latchKey .sup (F.NOW_S_LO.addr 0 0) ≠ latchKey .host (F.NOW_S_HI.addr 0 0) := by decide +kernel

/-- A state and operands that meet the hypotheses of a clause of `Obligations.ReadOfTimeLatchesForItsSource`. -/
theorem test_wit_ReadOfTimeLatchesForItsSource_2 : let src : Src := .sup; let s : State := State.reset; (s.jtagBars src ⟨.time, 0⟩ false = false) := by decide +kernel

/-- A state and operands that meet the hypotheses of a clause of `Obligations.PlainAccesses`. -/
theorem test_wit_PlainAccesses_1 : let s : State := State.reset; let src : Src := .host; let p : Page := ⟨.lease, 0⟩; let addr : Nat := (⟨.lease, 0⟩ : Page).adr 0x244; let value : Nat := 7; let x : WrExt := {}; (x.poisoned = false) ∧ (s.powered = true) ∧ (s.gated = false) ∧ (s.jtagBarsAt src addr true = false) ∧ (coreFault src addr true = none) ∧ (Page.ofAddr addr = some p) ∧ (s.decodes p (addr % 0x1000) = true) ∧ (s.coldGated p = false) ∧ (s.reg p.tblStatus % 2 = 0) ∧ ((0x210 ≤ addr % 0x1000 ∧ addr % 0x1000 < 0x220) ∨ (0x240 ≤ addr % 0x1000 ∧ addr % 0x1000 < 0x280)) := by decide +kernel

/-- A state and operands that meet the hypotheses of a clause of `Obligations.PlainAccesses`. -/
theorem test_wit_PlainAccesses_2 : let s : State := State.reset; let src : Src := .sup; let value : Nat := 100; let x : WrExt := {}; (x.poisoned = false) ∧ (s.powered = true) ∧ (s.gated = false) ∧ (s.jtagBarsAt src (F.SLEW_LIMIT.addr 0 0) true = false) ∧ (coreFault src (F.SLEW_LIMIT.addr 0 0) true = none) ∧ (s.boot.waiting = false) ∧ (s.coldGated ⟨.time, 0⟩ = false) ∧ (s.getP ⟨.time, 0⟩ F.LOCK_LOCKED = 0) ∧ (100 ≤ value) ∧ (value ≤ 100000) := by decide +kernel

/-- A state and operands that meet the hypotheses of a clause of `Obligations.PlainAccesses`. -/
theorem test_wit_PlainAccesses_3 : let s : State := State.reset; let src : Src := .host; let value : Nat := 99; let x : WrExt := {}; (x.poisoned = false) ∧ (s.powered = true) ∧ (s.gated = false) ∧ (s.jtagBarsAt src (F.SLEW_LIMIT.addr 0 0) true = false) ∧ (coreFault src (F.SLEW_LIMIT.addr 0 0) true = none) ∧ (s.boot.waiting = false) ∧ (s.coldGated ⟨.time, 0⟩ = false) ∧ (s.getP ⟨.time, 0⟩ F.LOCK_LOCKED = 0) ∧ (value < 100 ∨ 100000 < value) ∧ (value < 2 ^ 32) ∧ (s.get F.SLEW_LIMIT ≠ value) := by decide +kernel

/-- A state and operands that meet the hypotheses of a clause of `Obligations.PlainAccesses`. -/
theorem test_wit_PlainAccesses_4 : let s : State := State.reset; let src : Src := .host; let value : Nat := 100001; let x : WrExt := {}; (x.poisoned = false) ∧ (s.powered = true) ∧ (s.gated = false) ∧ (s.jtagBarsAt src (F.SLEW_LIMIT.addr 0 0) true = false) ∧ (coreFault src (F.SLEW_LIMIT.addr 0 0) true = none) ∧ (s.boot.waiting = false) ∧ (s.coldGated ⟨.time, 0⟩ = false) ∧ (s.getP ⟨.time, 0⟩ F.LOCK_LOCKED = 0) ∧ (value < 100 ∨ 100000 < value) ∧ (value < 2 ^ 32) ∧ (s.get F.SLEW_LIMIT ≠ value) := by decide +kernel

/-- A state and operands that meet the hypotheses of a clause of `Obligations.PlainAccesses`. -/
theorem test_wit_PlainAccesses_5 : let s : State := State.reset; let src : Src := .core 3; let addr : Nat := 0xFFF000; let write : Bool := false; let bad : Bool := false; (s.powered = true) ∧ (s.gated = false) ∧ (s.jtagBarsAt src addr write = false) ∧ (coreFault src addr write = none) ∧ (bad = true ∨ Page.ofAddr addr = none) := by decide +kernel

/-- A state and operands that meet the hypotheses of a clause of `Obligations.PlainAccesses`. -/
theorem test_wit_PlainAccesses_6 : let s : State := State.reset.incP ⟨.fault, 0⟩ C.FAULT_UNMAPPED (2 ^ 33 + 5); let src : Src := .host; let p : Page := ⟨.fault, 0⟩; let addr : Nat := (⟨.fault, 0⟩ : Page).adr C.FAULT_UNMAPPED.off; (s.powered = true) ∧ (s.gated = false) ∧ (s.jtagBarsAt src addr false = false) ∧ (coreFault src addr false = none) ∧ (Page.ofAddr addr = some p) ∧ (s.decodes p (addr % 0x1000) = true) ∧ (s.coldGated p = false) ∧ (0x040 ≤ addr % 0x1000) ∧ (addr % 0x1000 < 0x040 + 8 * p.blk.ncount) ∧ (addr % 8 = 0) := by decide +kernel

/-- A state and operands that meet the hypotheses of a clause of `Obligations.PlainAccesses`. -/
theorem test_wit_PlainAccesses_7 : let s : State := State.reset.set F.RING_STATUS_POSITIONS 3; let z : Nat := 2; let addr : Nat := 0x240304; let value : Nat := 5; let write : Bool := true; let x : WrExt := {}; (s.powered = true) ∧ (s.isHead = true) ∧ (1 ≤ z) ∧ (z < 64) ∧ (z < s.get F.RING_STATUS_POSITIONS) ∧ (addr < 2 ^ 24) ∧ (s.canal.tunWait = []) ∧ ((∀ a ∈ s.canal.tun, a.zone ≠ z)) := by decide +kernel

/-- A state and operands that meet the hypotheses of a clause of `Obligations.PlainAccesses`. -/
theorem test_wit_PlainAccesses_8 : let s : State := State.reset; let z : Nat := 9; let addr : Nat := 0; let value : Nat := 0; let write : Bool := false; let x : WrExt := {}; (s.powered = true) ∧ (64 ≤ z ∨ s.isHead = false ∨ (1 ≤ z ∧ s.get F.RING_STATUS_POSITIONS ≤ z)) := by decide +kernel

/-- A state and operands that meet the hypotheses of a clause of `Obligations.PlainAccesses`. -/
theorem test_wit_PlainAccesses_9 : let id : Nat := 4; let a : TunAccess := ⟨4, 2, false, 16, 0, 0⟩; let s : State := { State.reset with now := sec 1, canal := { State.reset.canal with tun := [⟨4, 2, false, 16, 0, 0⟩] } }; ((s.canal.tun.find? fun y => y.id = id) = some a) ∧ (a.sentAt + us (s.get F.TUN_TIMEOUT) ≤ s.now) ∧ (a.write = false) := by decide +kernel

/-- A state and operands that meet the hypotheses of a clause of `Obligations.PlainAccesses`. -/
theorem test_wit_PlainAccesses_10 : let id : Nat := 4; let a : TunAccess := ⟨4, 2, true, 16, 0, 0⟩; let s : State := { State.reset with now := sec 1, canal := { State.reset.canal with tun := [⟨4, 2, true, 16, 0, 0⟩] } }; ((s.canal.tun.find? fun y => y.id = id) = some a) ∧ (a.sentAt + us (s.get F.TUN_TIMEOUT) ≤ s.now) ∧ (a.write = true) := by decide +kernel

/-- A state and operands that meet the hypotheses of a clause of `Obligations.BlockStateMachine`. -/
theorem test_wit_BlockStateMachine_1 : let s : State := State.reset; let src : Src := .host; let p : Page := ⟨.lease, 0⟩; (p ∈ allPages) ∧ (p.blk ≠ .headgate) ∧ (s.jtagBars src p true = false) ∧ (s.coldGated p = false) ∧ (s.powered = true) ∧ (s.getP p F.CTRL_EN = 0) ∧ (s.getP p F.LOCK_LOCKED = 0) ∧ (s.lifeBars p = false) ∧ (s.imgRefused p = false) ∧ (s.st p = stOff) ∧ (s.dozeGated p = false) ∧ ((p.blk = .dram → s.badPart = none)) := by decide +kernel

/-- A state and operands that meet the hypotheses of a clause of `Obligations.BlockStateMachine`. -/
theorem test_wit_BlockStateMachine_2 : let s : State := State.reset; let src : Src := .host; let p : Page := ⟨.airport, 2⟩; (p ∈ allPages) ∧ (p.blk ≠ .headgate) ∧ (s.jtagBars src p true = false) ∧ (s.coldGated p = false) ∧ (s.powered = true) ∧ (s.getP p F.CTRL_EN = 0) ∧ (s.getP p F.LOCK_LOCKED = 0) ∧ (s.lifeBars p = false) ∧ (s.imgRefused p = false) ∧ (s.st p = stOff) ∧ (s.dozeGated p = false) ∧ ((p.blk = .dram → s.badPart = none)) := by decide +kernel

/-- A state and operands that meet the hypotheses of a clause of `Obligations.BlockStateMachine`. -/
theorem test_wit_BlockStateMachine_3 : let s : State := up [⟨.pcie, 0⟩]; let src : Src := .host; let p : Page := ⟨.pcie, 0⟩; (p ∈ allPages) ∧ (p.blk ≠ .headgate) ∧ (s.jtagBars src p true = false) ∧ (s.coldGated p = false) ∧ (s.powered = true) ∧ (s.getP p F.CTRL_EN = 1) ∧ (s.getP p F.LOCK_LOCKED = 0) ∧ (s.st p = stOn) ∧ (s.lastPort p = false) := by decide +kernel

/-- A state and operands that meet the hypotheses of a clause of `Obligations.BlockStateMachine`. -/
theorem test_wit_BlockStateMachine_4 : let s : State := ((up [⟨.airport, 1⟩, ⟨.airport, 0⟩]).setP ⟨.airport, 1⟩ F.CTRL_EN 1); let src : Src := .host; let p : Page := ⟨.airport, 1⟩; (p ∈ allPages) ∧ (p.blk ≠ .headgate) ∧ (s.jtagBars src p true = false) ∧ (s.coldGated p = false) ∧ (s.powered = true) ∧ (s.getP p F.CTRL_EN = 1) ∧ (s.getP p F.LOCK_LOCKED = 0) ∧ (s.st p = stOn) ∧ (s.lastPort p = false) := by decide +kernel

/-- A state and operands that meet the hypotheses of a clause of `Obligations.BlockStateMachine`. -/
theorem test_wit_BlockStateMachine_5 : let s : State := State.reset; let src : Src := .host; let p : Page := ⟨.keep, 0⟩; let en : Bool := true; (p ∈ allPages) ∧ (s.getP p F.CTRL_EN = b2n en) := by decide +kernel

/-- A state and operands that meet the hypotheses of a clause of `Obligations.BlockStateMachine`. -/
theorem test_wit_BlockStateMachine_6 : let s : State := State.reset; let src : Src := .host; let p : Page := ⟨.pcie, 0⟩; (p ∈ allPages) ∧ (p.blk ≠ .headgate) ∧ (s.jtagBars src p true = false) ∧ (s.coldGated p = false) ∧ (s.powered = true) ∧ (s.getP p F.CTRL_EN = 1) ∧ (s.getP p F.LOCK_LOCKED = 0) ∧ (s.st p = stStarting) := by decide +kernel

/-- A state and operands that meet the hypotheses of a clause of `Obligations.BlockStateMachine`. -/
theorem test_wit_BlockStateMachine_7 : let s : State := State.reset.setP ⟨.pcie, 0⟩ F.STATE_PEND_OFF 1; let p : Page := ⟨.pcie, 0⟩; (p ∈ allPages) ∧ (s.st p = stStarting) ∧ (s.getP p F.STATE_PEND_OFF = 1) := by decide +kernel

/-- A state and operands that meet the hypotheses of a clause of `Obligations.BlockStateMachine`. -/
theorem test_wit_BlockStateMachine_8 : let s : State := let s := State.reset.setP ⟨.airport, 1⟩ F.STATE 1; s.setPort 1 { s.port 1 with step := 5 }; let p : Page := ⟨.airport, 1⟩; let code : Nat := 0; let x : StartIn := {}; (p ∈ allPages) ∧ (s.powered = true) ∧ (s.st p = stStarting) ∧ (s.getP p F.STATE_PEND_OFF = 0) ∧ (p.blk ≠ .dram) ∧ ((p.blk = .gnssRf → s.get F.ROOT_STATUS_ROOT_LOCK = 1)) ∧ ((p.blk = .airport → 5 ≤ (s.port p.inst).step)) ∧ ((0 < p.blk.cells → (((s.startMode p x).testCells p x.badCells).page p).removed.length < p.blk.cells)) := by decide +kernel

/-- A state and operands that meet the hypotheses of a clause of `Obligations.BlockStateMachine`. -/
theorem test_wit_BlockStateMachine_9 : let s : State := State.reset.setP ⟨.route, 0⟩ F.STATE 1; let p : Page := ⟨.route, 0⟩; let code : Nat := 0; let x : StartIn := { badCells := [1, 2] }; (p ∈ allPages) ∧ (s.powered = true) ∧ (s.st p = stStarting) ∧ (s.getP p F.STATE_PEND_OFF = 0) ∧ (p.blk ≠ .dram) ∧ ((p.blk = .gnssRf → s.get F.ROOT_STATUS_ROOT_LOCK = 1)) ∧ ((p.blk = .airport → 5 ≤ (s.port p.inst).step)) ∧ ((0 < p.blk.cells → (((s.startMode p x).testCells p x.badCells).page p).removed.length < p.blk.cells)) := by decide +kernel

/-- A state and operands that meet the hypotheses of a clause of `Obligations.BlockStateMachine`. -/
theorem test_wit_BlockStateMachine_10 : let s : State := State.reset; let p : Page := ⟨.fault, 0⟩; let code : Nat := 0; let x : StartIn := {}; (p ∈ allPages) ∧ (s.powered = true) ∧ (s.st p = stStarting) ∧ (s.getP p F.STATE_PEND_OFF = 0) ∧ (p.blk ≠ .dram) ∧ ((p.blk = .gnssRf → s.get F.ROOT_STATUS_ROOT_LOCK = 1)) ∧ ((p.blk = .airport → 5 ≤ (s.port p.inst).step)) ∧ ((0 < p.blk.cells → (((s.startMode p x).testCells p x.badCells).page p).removed.length < p.blk.cells)) := by decide +kernel

/-- A state and operands that meet the hypotheses of a clause of `Obligations.BlockStateMachine`. -/
theorem test_wit_BlockStateMachine_11 : let s : State := State.reset.setP ⟨.meter, 0⟩ F.STATE 1; let p : Page := ⟨.meter, 0⟩; let code : Nat := 0; let x : StartIn := {}; (p ∈ allPages) ∧ (s.powered = true) ∧ (s.st p = stStarting) ∧ (s.getP p F.STATE_PEND_OFF = 0) ∧ (p.blk ≠ .dram) ∧ ((p.blk = .gnssRf → s.get F.ROOT_STATUS_ROOT_LOCK = 1)) ∧ ((p.blk = .airport → 5 ≤ (s.port p.inst).step)) ∧ ((0 < p.blk.cells → (((s.startMode p x).testCells p x.badCells).page p).removed.length < p.blk.cells)) := by decide +kernel

/-- A state and operands that meet the hypotheses of a clause of `Obligations.BlockStateMachine`. -/
theorem test_wit_BlockStateMachine_12 : let s : State := State.reset; let p : Page := ⟨.keep, 0⟩; let code : Nat := 3; let x : StartIn := {}; (p ∈ allPages) ∧ (s.powered = true) ∧ (s.st p = stStarting) ∧ (s.getP p F.STATE_PEND_OFF = 0) ∧ (p.blk ≠ .dram) ∧ ((p.blk = .gnssRf → s.get F.ROOT_STATUS_ROOT_LOCK = 1)) := by decide +kernel

/-- A state and operands that meet the hypotheses of a clause of `Obligations.BlockStateMachine`. -/
theorem test_wit_BlockStateMachine_13 : let s : State := State.reset; let p : Page := ⟨.headgate, 0⟩; let code : Nat := 3; let x : StartIn := {}; (p ∈ allPages) ∧ (s.powered = true) ∧ (s.st p = stStarting) ∧ (s.getP p F.STATE_PEND_OFF = 0) ∧ (p.blk ≠ .dram) ∧ ((p.blk = .gnssRf → s.get F.ROOT_STATUS_ROOT_LOCK = 1)) := by decide +kernel

/-- A state and operands that meet the hypotheses of a clause of `Obligations.BlockStateMachine`. -/
theorem test_wit_BlockStateMachine_14 : let s : State := State.reset.setP ⟨.core, 3⟩ F.STATE 3; let p : Page := ⟨.core, 3⟩; (p ∈ allPages) ∧ (s.st p = stStopping) ∧ (s.stopReady p = true) ∧ (s.getP p F.STATE_PEND_ON = 0) := by decide +kernel

/-- A state and operands that meet the hypotheses of a clause of `Obligations.BlockStateMachine`. -/
theorem test_wit_BlockStateMachine_15 : let s : State := (State.reset.setP ⟨.core, 3⟩ F.STATE 3).setP ⟨.core, 3⟩ F.STATE_PEND_ON 1; let p : Page := ⟨.core, 3⟩; (p ∈ allPages) ∧ (s.st p = stStopping) ∧ (s.stopReady p = true) ∧ (s.getP p F.STATE_PEND_ON = 1) ∧ (s.dozeGated p = false) ∧ (p.blk ≠ .dram) := by decide +kernel

/-- A state and operands that meet the hypotheses of a clause of `Obligations.BlockStateMachine`. -/
theorem test_wit_BlockStateMachine_16 : let s : State := up [⟨.solver, 4⟩]; let p : Page := ⟨.solver, 4⟩; (p ∈ allPages) ∧ (p.region ≠ 7) ∧ (s.st p = stOn) := by decide +kernel

/-- A state and operands that meet the hypotheses of a clause of `Obligations.BlockStateMachine`. -/
theorem test_wit_BlockStateMachine_17 : let p : Page := ⟨.lease, 0⟩; let s : State := let s := State.reset.setP ⟨.lease, 0⟩ F.STATE 5; s.setPage ⟨.lease, 0⟩ { s.page ⟨.lease, 0⟩ with stuck := true }; (p ∈ allPages) ∧ (s.st p = stIsolated) ∧ ((s.page p).stuck = true) := by decide +kernel

/-- A state and operands that meet the hypotheses of a clause of `Obligations.BlockStateMachine`. -/
theorem test_wit_BlockStateMachine_18 : let s : State := State.reset.setP ⟨.route, 0⟩ F.STATE 4; let p : Page := ⟨.route, 0⟩; let lost : List (Nat × Nat) := [(0, 5)]; let badCells : List Nat := [2]; (p ∈ allPages) ∧ (p.region ≠ 7) ∧ (s.st p = stFault) := by decide +kernel

/-- A state and operands that meet the hypotheses of a clause of `Obligations.BlockStateMachine`. -/
theorem test_wit_BlockStateMachine_19 : let s : State := State.reset.setP ⟨.route, 0⟩ F.STATE 4; let p : Page := ⟨.route, 0⟩; let lost : List (Nat × Nat) := []; let badCells : List Nat := []; (p ∈ allPages) ∧ (p.region ≠ 7) ∧ (s.st p = stFault) := by decide +kernel

/-- A state and operands that meet the hypotheses of a clause of `Obligations.BlockStateMachine`. -/
theorem test_wit_BlockStateMachine_20 : let p : Page := ⟨.keystore, 0⟩; let s : State := State.reset.setP ⟨.keystore, 0⟩ F.STATE 5; (p ∈ allPages) ∧ (s.st p = stIsolated) ∧ ((s.page p).stuck = false ∨ (s.page p).isoAllow = true) ∧ (s.railHolds p = false) ∧ (s.getP p F.CTRL_EN = 1) ∧ (s.lifeBars p = false) ∧ (s.dozeGated p = false) ∧ (p.blk ≠ .dram) := by decide +kernel

/-- A state and operands that meet the hypotheses of a clause of `Obligations.BlockStateMachine`. -/
theorem test_wit_BlockStateMachine_21 : let p : Page := ⟨.lease, 0⟩; let s : State := State.reset.setP ⟨.lease, 0⟩ F.STATE 5; (p ∈ allPages) ∧ (s.st p = stIsolated) ∧ ((s.page p).stuck = false ∨ (s.page p).isoAllow = true) ∧ (s.railHolds p = false) ∧ (s.getP p F.CTRL_EN = 0) := by decide +kernel

/-- A state and operands that meet the hypotheses of a clause of `Obligations.ErrorsInterruptsAndLocks`. -/
theorem test_wit_ErrorsInterruptsAndLocks_1 : let s : State := up [⟨.solver, 2⟩]; let p : Page := ⟨.solver, 2⟩; let cell : Nat := 0; let code : Nat := 5; let a0 : Nat := 0; let a1 : Nat := 0; let a2 : Nat := 0; (p ∈ allPages) ∧ (s.powered = true) ∧ (s.cellFails p cell 1 = false) ∧ (selfCheck p code = false) := by decide +kernel

/-- A state and operands that meet the hypotheses of a clause of `Obligations.ErrorsInterruptsAndLocks`. -/
theorem test_wit_ErrorsInterruptsAndLocks_2 : let s : State := up [⟨.solver, 2⟩]; let p : Page := ⟨.solver, 2⟩; let cell : Nat := 0; let code : Nat := 5; let a0 : Nat := 0; let a1 : Nat := 0; let a2 : Nat := 0; (p ∈ allPages) ∧ (s.powered = true) ∧ (p.region ≠ 7) ∧ (s.cellFails p cell 2 = false) ∧ (selfCheck p code = false) := by decide +kernel

/-- A state and operands that meet the hypotheses of a clause of `Obligations.ErrorsInterruptsAndLocks`. -/
theorem test_wit_ErrorsInterruptsAndLocks_3 : let s : State := up [⟨.meter, 0⟩]; let src : Src := .sup; let p : Page := ⟨.meter, 0⟩; let cell : Nat := 0xFF; (p ∈ allPages) ∧ (s.jtagBars src p true = false) ∧ (s.coldGated p = false) ∧ (s.powered = true) ∧ (s.cellFails p (cell % 256) 1 = false) := by decide +kernel

/-- A state and operands that meet the hypotheses of a clause of `Obligations.ErrorsInterruptsAndLocks`. -/
theorem test_wit_ErrorsInterruptsAndLocks_4 : let s : State := up [⟨.meter, 0⟩]; let src : Src := .sup; let p : Page := ⟨.meter, 0⟩; let cls : Nat := 3; let cell : Nat := 0xFF; (p ∈ allPages) ∧ (s.jtagBars src p true = false) ∧ (s.coldGated p = false) ∧ (s.powered = true) ∧ (cls = 2 ∨ cls = 3) ∧ (s.st p = stOn) ∧ (s.get F.DBG_STATUS_LEVEL ≠ 2) := by decide +kernel

/-- A state and operands that meet the hypotheses of a clause of `Obligations.ErrorsInterruptsAndLocks`. -/
theorem test_wit_ErrorsInterruptsAndLocks_5 : let s : State := let s := (((up [⟨.headgate, 0⟩, ⟨.airport, 0⟩, ⟨.fault, 0⟩, ⟨.irq, 0⟩, ⟨.keep, 0⟩, ⟨.keystore, 0⟩, ⟨.evlog, 0⟩, ⟨.registry, 0⟩, ⟨.sluice, 0⟩, ⟨.frameSec, 0⟩]).set F.ROOT_STATUS_ROOT_LOCK 1).set F.SUP_STATUS_RUNNING 1); { s with now := sec 3, flt := { s.flt with since1 := some 0 }, sup := { s.sup with vddGate := true, mainOk := true } }; (s.noPortOn = true ∨ s.air.nextB ≤ s.fleetNs) ∧ (s.get F.SVC_STATUS_LEVEL ≤ s.flt.low) ∧ (s.get F.SVC_STATUS_LEVEL < s.risen) := by decide +kernel

/-- A state and operands that meet the hypotheses of a clause of `Obligations.ErrorsInterruptsAndLocks`. -/
theorem test_wit_ErrorsInterruptsAndLocks_6 : let s : State := State.reset; let src : Src := .host; let p : Page := ⟨.lease, 0⟩; let mask : Nat := 0xF01; (p ∈ allPages) ∧ (s.powered = true) ∧ (s.gated = false) ∧ (s.jtagBarsAt src (p.base + 0x024) true = false) ∧ (coreFault src (p.base + 0x024) true = none) ∧ (s.boot.waiting = false) ∧ (s.coldGated p = false) ∧ (mask < 2 ^ 32) := by decide +kernel

/-- A state and operands that meet the hypotheses of a clause of `Obligations.ErrorsInterruptsAndLocks`. -/
theorem test_wit_ErrorsInterruptsAndLocks_7 : let s : State := State.reset; let src : Src := .host; let p : Page := ⟨.lease, 0⟩; (p ∈ allPages) ∧ (s.powered = true) ∧ (s.gated = false) ∧ (s.jtagBarsAt src (p.base + 0x030) true = false) ∧ (coreFault src (p.base + 0x030) true = none) ∧ (s.boot.waiting = false) ∧ (s.coldGated p = false) ∧ (p.blk.lockable = true) := by decide +kernel

/-- A state and operands that meet the hypotheses of a clause of `Obligations.TableOperations`. -/
theorem test_wit_TableOperations_1 : let s : State := (up [⟨.lease, 0⟩]).setTe ⟨.lease, 0⟩ 0 70000 (2 ^ 255 + 77); let src : Src := .host; let i : Nat := 70000; (s.gated = false) ∧ (s.jtagBars src ⟨.lease, 0⟩ true = false) ∧ (coreFault src (Page.tblCmd ⟨.lease, 0⟩) true = none) ∧ (s.isOn .lease = true) ∧ (s.reg (Page.tblStatus ⟨.lease, 0⟩) % 2 = 0) ∧ (s.get F.LEASE_STATUS_REBASING = 0) ∧ (i < 262144) := by decide +kernel

/-- A state and operands that meet the hypotheses of a clause of `Obligations.TableOperations`. -/
theorem test_wit_TableOperations_2 : let s : State := (up [⟨.lease, 0⟩]).setTe ⟨.lease, 0⟩ 0 70000 (2 ^ 255 + 77); let tg : Nat := 0x80; let q : Nat := 0; let i : Nat := 70000; let data : Nat := 0; let key : List Nat := []; (s.gated = false) ∧ (s.isOn .lease = true) ∧ (0x80 ≤ tg) ∧ (tg ≤ 0xBF) ∧ (s.tagBusy tg = false) ∧ (s.get F.LEASE_STATUS_REBASING = 0) ∧ (i < 262144) := by decide +kernel

/-- A state and operands that meet the hypotheses of a clause of `Obligations.TableOperations`. -/
theorem test_wit_TableOperations_3 : let s : State := up [⟨.dispatch, 0⟩]; let tg : Nat := 0xBF; let q : Nat := 0; let i : Nat := 255; let data : Nat := 2 ^ 63 + 5; let key : List Nat := []; (s.gated = false) ∧ (s.isOn .dispatch = true) ∧ (0x80 ≤ tg) ∧ (tg ≤ 0xBF) ∧ (s.tagBusy tg = false) ∧ (s.get F.LEASE_STATUS_REBASING = 0) ∧ (i < 256) ∧ (bits data 58 5 = 0) ∧ (bits data 48 10 < 576) ∧ (bits data 64 32 < 1000000000) := by decide +kernel

/-- A state and operands that meet the hypotheses of a clause of `Obligations.TableOperations`. -/
theorem test_wit_TableOperations_4 : let s : State := up [⟨.sluice, 1⟩]; let tg : Nat := 0xBF; let q : Nat := 0; let port : Nat := 1; let i : Nat := 2047; let data : Nat := 0; let key : List Nat := []; (s.gated = false) ∧ (port < 4) ∧ (s.isOn .sluice port = true) ∧ (0x80 ≤ tg) ∧ (tg ≤ 0xBF) ∧ (s.tagBusy tg = false) ∧ (i < 2048) ∧ (s.activeBank port < 2) := by decide +kernel

/-- A state and operands that meet the hypotheses of a clause of `Obligations.TableOperations`. -/
theorem test_wit_TableOperations_5 : let s : State := up [⟨.route, 0⟩]; let tg : Nat := 0x90; let q : Nat := 0; let i : Nat := 0; let k : Nat := 0x12345678; let plen : Nat := 23; let j : Nat := ((up [⟨.route, 0⟩]).routeFreeIn ((up [⟨.route, 0⟩]).banksOf 23)).getD 0; let data : Nat := 2 ^ 41; (s.gated = false) ∧ (s.isOn .route = true) ∧ (0x80 ≤ tg) ∧ (tg ≤ 0xBF) ∧ (s.tagBusy tg = false) ∧ (s.rt.repack = none) ∧ (1 ≤ plen) ∧ (plen ≤ 32) ∧ (k < 2 ^ 32) ∧ (s.routeFind k plen = none) ∧ (s.routeFreeIn (s.banksOf plen) = some j) := by decide +kernel

/-- A state and operands that meet the hypotheses of a clause of `Obligations.TableOperations`. -/
theorem test_wit_TableOperations_6 : let s : State := (up [⟨.route, 0⟩]).setTe ⟨.route, 0⟩ 0 130 (mkRoute 0x12345678 23 1 0 2 0 0 0 0); let tg : Nat := 0x90; let q : Nat := 0; let i : Nat := 0; let k : Nat := 0x12345678; let plen : Nat := 23; let j : Nat := 130; let data : Nat := 0; (s.gated = false) ∧ (s.isOn .route = true) ∧ (0x80 ≤ tg) ∧ (tg ≤ 0xBF) ∧ (s.tagBusy tg = false) ∧ (s.rt.repack = none) ∧ (1 ≤ plen) ∧ (plen ≤ 32) ∧ (s.routeFind k plen = some j) := by decide +kernel

/-- A state and operands that meet the hypotheses of a clause of `Obligations.TableOperations`. -/
theorem test_wit_TableOperations_7 : let s : State := (up [⟨.route, 0⟩]).setTe ⟨.route, 0⟩ 0 130 (mkRoute 0x12345678 23 1 0 2 0 0 0 0); let tg : Nat := 0x90; let q : Nat := 0; let i : Nat := 0; let k : Nat := 0x12345679; let j : Nat := 130; let data : Nat := 0; (s.gated = false) ∧ (s.isOn .route = true) ∧ (0x80 ≤ tg) ∧ (tg ≤ 0xBF) ∧ (s.tagBusy tg = false) ∧ (s.rt.repack = none) ∧ (s.routeMatch k = some j) := by decide +kernel

/-- A state and operands that meet the hypotheses of a clause of `Obligations.TableOperations`. -/
theorem test_wit_TableOperations_8 : let s : State := ((up [⟨.lease, 0⟩]).setTe ⟨.lease, 0⟩ 0 7 (LE.kind.set 0 1)).setTe ⟨.lease, 0⟩ 0 900 (LE.kind.set 0 2); let tg : Nat := 0x80; let q : Nat := 0; let i : Nat := 7; let j : Nat := 900; let data : Nat := 0; let key : List Nat := []; (s.gated = false) ∧ (s.isOn .lease = true) ∧ (0x80 ≤ tg) ∧ (tg ≤ 0xBF) ∧ (s.tagBusy tg = false) ∧ (s.get F.LEASE_STATUS_REBASING = 0) ∧ (((s.teListed ⟨.lease, 0⟩ 0).find? fun k => decide (i < k) && decide (LE.kind.get (s.le k) ≠ 0)) = some j) := by decide +kernel

/-- A state and operands that meet the hypotheses of a clause of `Obligations.TableOperations`. -/
theorem test_wit_TableOperations_9 : let s : State := (up [⟨.lease, 0⟩]).setTe ⟨.lease, 0⟩ 0 7 1; let tg : Nat := 0x80; let q : Nat := 0; let i : Nat := 7; let data : Nat := 5; let key : List Nat := [0, 0, 0, 0]; (s.gated = false) ∧ (s.isOn .lease = true) ∧ (0x80 ≤ tg) ∧ (tg ≤ 0xBF) ∧ (s.tagBusy tg = false) ∧ (s.get F.LEASE_STATUS_REBASING = 0) ∧ (i < 262144) ∧ (s.seqLocks 3 i 577 = false) ∧ (s.le i % 2 ^ 64 ≠ nth 0 key 0 + nth 0 key 1 * 2 ^ 32) := by decide +kernel

/-- A state and operands that meet the hypotheses of a clause of `Obligations.TableOperations`. -/
theorem test_wit_TableOperations_10 : let s : State := (up [⟨.lease, 0⟩]).setTe ⟨.lease, 0⟩ 0 7 (LE.kind.set 0 1); let tg : Nat := 0x80; let q : Nat := 0; let i : Nat := 7; let data : Nat := LE.user.set (LE.kind.set 0 1) 99; let key : List Nat := [LE.kind.set 0 1 % 2 ^ 32, LE.kind.set 0 1 / 2 ^ 32 % 2 ^ 32, 0, 0]; (s.gated = false) ∧ (s.isOn .lease = true) ∧ (0x80 ≤ tg) ∧ (tg ≤ 0xBF) ∧ (s.tagBusy tg = false) ∧ (s.get F.LEASE_STATUS_REBASING = 0) ∧ (i < 262144) ∧ (s.seqLocks 3 i 577 = false) ∧ (s.le i % 2 ^ 64 = nth 0 key 0 + nth 0 key 1 * 2 ^ 32) ∧ (LE.kind.get (s.le i) = 1) ∧ (LE.user.set (data % 2 ^ 256) (LE.user.get (s.le i)) = s.le i) := by decide +kernel

/-- A state and operands that meet the hypotheses of a clause of `Obligations.RootClock`. -/
theorem test_wit_RootClock_1 : let s : State := (State.reset.set F.ROOT_STATUS_ROOT_LOCK 1).set F.ROOT_STATUS_SWITCH_COUNT 255; let re : Nat := 9; let ax : Nat := 156; (refGood re = false) ∧ (s.clk.lost = false) ∧ (s.clk.gapAt = none) ∧ (s.get F.ROOT_STATUS_ON_AUX = 0) ∧ (auxGood ax = true) := by decide +kernel

/-- A state and operands that meet the hypotheses of a clause of `Obligations.RootClock`. -/
theorem test_wit_RootClock_2 : let s : State := State.reset; let re : Nat := 31; let ax : Nat := 469; (refGood re = false) ∧ (s.clk.lost = false) ∧ (s.clk.gapAt = none) ∧ (s.get F.ROOT_STATUS_ON_AUX = 0) ∧ (auxGood ax = true) := by decide +kernel

/-- A state and operands that meet the hypotheses of a clause of `Obligations.RootClock`. -/
theorem test_wit_RootClock_3 : let s : State := State.reset; let re : Nat := 0; let ax : Nat := 470; (refGood re = false) ∧ (s.clk.lost = false) ∧ (s.onAux = false) ∧ (auxGood ax = false) := by decide +kernel

/-- A state and operands that meet the hypotheses of a clause of `Obligations.RootClock`. -/
theorem test_wit_RootClock_4 : let s : State := { State.reset with now := us 24, clk := { State.reset.clk with gapAt := some 0, toAux := true } }; let rc : Nat := 384; let a : Nat := 0; (s.clk.lost = false) ∧ (s.powered = true) ∧ (s.clk.gapAt = some a) ∧ (s.clk.gapOps = []) := by decide +kernel

/-- A state and operands that meet the hypotheses of a clause of `Obligations.RootClock`. -/
theorem test_wit_RootClock_5 : let s : State := State.reset; let rc : Nat := 0; (s.clk.lost = false) ∧ (s.powered = true) ∧ (s.clk.gapAt = none) ∧ (s.get F.ROOT_STATUS_ROOT_LOCK = 0) := by decide +kernel

/-- A state and operands that meet the hypotheses of a clause of `Obligations.RootClock`. -/
theorem test_wit_RootClock_6 : let s : State := { State.reset with now := sec 10 }; (s.clk.refBadAt + sec 10 ≤ s.now) ∧ (s.clk.lost = false) := by decide +kernel

/-- A state and operands that meet the hypotheses of a clause of `Obligations.RootClock`. -/
theorem test_wit_RootClock_7 : let s : State := ((up [⟨.airport, 0⟩]).set F.ROOT_STATUS_REF_OK 1).set F.ROOT_STATUS_ON_AUX 1; (s.get F.ROOT_STATUS_REF_OK = 1) ∧ (s.get F.ROOT_STATUS_ON_AUX = 1) ∧ (s.get F.ROOT_SEL_RETURN_REQ = 0) ∧ (s.noPortOn = false) := by decide +kernel

/-- A state and operands that meet the hypotheses of a clause of `Obligations.RootClock`. -/
theorem test_wit_RootClock_8 : let s : State := ((up []).set F.ROOT_STATUS_REF_OK 1).set F.ROOT_STATUS_ON_AUX 1; (s.get F.ROOT_STATUS_REF_OK = 1) ∧ (s.get F.ROOT_STATUS_ON_AUX = 1) ∧ (s.get F.ROOT_SEL_RETURN_REQ = 0) ∧ (s.noPortOn = true) ∧ (s.clk.gapAt = none) := by decide +kernel

/-- A state and operands that meet the hypotheses of a clause of `Obligations.RootClock`. -/
theorem test_wit_RootClock_9 : let s : State := let s := (up [⟨.airport, 0⟩]).set F.ROOT_SEL_RETURN_REQ 1; s.setTe ⟨.sluice, 0⟩ 0 0 (2 ^ 34 + 2 ^ 11 + 6 * 2 ^ 19); (s.get F.ROOT_SEL_RETURN_REQ = 1) ∧ (s.clk.gapAt = none) ∧ (s.noPortOn = true ∨ (s.returnSlot = true ∧ s.commonIdle = true)) := by decide +kernel

/-- A state and operands that meet the hypotheses of a clause of `Obligations.RootClock`. -/
theorem test_wit_RootClock_10 : let s : State := { (up []).set F.ROOT_SEL_RETURN_REQ 1 with ft := 10 ^ 9 * 2 ^ 32 }; (s.get F.ROOT_SEL_RETURN_REQ = 1) ∧ (s.clk.armAt + s.period ≤ s.fleetNs) := by decide +kernel

/-- A state and operands that meet the hypotheses of a clause of `Obligations.RootClock`. -/
theorem test_wit_RootClock_11 : let s : State := ((State.reset.set F.CPORT_STATUS_STATE 3 0).set F.CPORT_STATUS_STATE 3 1).set F.ETH_STATUS_LINK 1 1; let re : Nat := 20; let ax : Nat := 155; (auxGood ax = false) ∧ (s.clk.lost = false) ∧ (s.onAux = false) := by decide +kernel

/-- A state and operands that meet the hypotheses of a clause of `Obligations.RootClock`. -/
theorem test_wit_RootClock_12 : let s : State := (State.reset.set F.ROOT_STATUS_ON_AUX 1).set F.ROOT_SEL_RETURN_REQ 1; let re : Nat := 10; let ax : Nat := 0; (auxGood ax = false) ∧ (s.clk.lost = false) ∧ (s.onAux = true) ∧ (refGood re = true) := by decide +kernel

/-- A state and operands that meet the hypotheses of a clause of `Obligations.RootClock`. -/
theorem test_wit_RootClock_13 : let s : State := { State.reset with now := sec 2, clk := { State.reset.clk with gapAt := some 0, lost := true } }; let re : Nat := 20; let ax : Nat := 313; let rc : Nat := 32000000; let a : Nat := 0; (s.clk.lost = true) ∧ (s.clk.gapAt = some a) ∧ (s.clk.gapOps = []) ∧ (refGood re = true ∨ auxGood ax = true) := by decide +kernel

/-- A state and operands that meet the hypotheses of a clause of `Obligations.RootClock`. -/
theorem test_wit_RootClock_14 : let s : State := { State.reset with now := sec 2, clk := { State.reset.clk with gapAt := some 0, lost := true } }; let re : Nat := 2; let ax : Nat := 313; let rc : Nat := 32000000; let a : Nat := 0; (s.clk.lost = true) ∧ (s.clk.gapAt = some a) ∧ (s.clk.gapOps = []) ∧ (refGood re = true ∨ auxGood ax = true) := by decide +kernel

/-- A state and operands that meet the hypotheses of a clause of `Obligations.DramSupervisorAndReset`. -/
theorem test_wit_DramSupervisorAndReset_1 : let s : State := { (up [⟨.dram, 0⟩]).set F.DRAM_CFG_SCRUB_EN 1 with now := sec 86400 }; let corrected : Nat := 3; let bad : List Nat := [64, 4096]; (s.isOn .dram = true) ∧ (s.get F.DRAM_CFG_SCRUB_EN = 1) ∧ (s.clk.scrubAt + sec 86400 ≤ s.now) := by decide +kernel

/-- A state and operands that meet the hypotheses of a clause of `Obligations.DramSupervisorAndReset`. -/
theorem test_wit_DramSupervisorAndReset_2 : let s : State := State.reset.setP pDRAM F.STATE 1; (s.st pDRAM = stStarting) ∧ (s.getP pDRAM F.STATE_PEND_OFF = 0) := by decide +kernel

/-- A state and operands that meet the hypotheses of a clause of `Obligations.DramSupervisorAndReset`. -/
theorem test_wit_DramSupervisorAndReset_3 : let s : State := State.reset.setP pDRAM F.STATE 1; (s.st pDRAM = stStarting) ∧ (s.getP pDRAM F.STATE_PEND_OFF = 0) := by decide +kernel

/-- A state and operands that meet the hypotheses of a clause of `Obligations.DramSupervisorAndReset`. -/
theorem test_wit_DramSupervisorAndReset_4 : let s : State := State.reset.set F.SUP_STATUS_RUNNING 1; (s.clk.supDead = false) ∧ (s.get F.SUP_CTRL_HOLD = 0) := by decide +kernel

/-- A state and operands that meet the hypotheses of a clause of `Obligations.DramSupervisorAndReset`. -/
theorem test_wit_DramSupervisorAndReset_5 : let s : State := State.reset.set F.SUP_STATUS_RUNNING 1; True := by decide +kernel

/-- A state and operands that meet the hypotheses of a clause of `Obligations.DramSupervisorAndReset`. -/
theorem test_wit_DramSupervisorAndReset_6 : let s : State := State.reset.set F.SUP_CTRL_HOLD 1; (s.get F.SUP_CTRL_HOLD = 1) ∧ (s.clk.supDead = false) := by decide +kernel

/-- A state and operands that meet the hypotheses of a clause of `Obligations.DramSupervisorAndReset`. -/
theorem test_wit_DramSupervisorAndReset_7 : let s : State := { up [⟨.dram, 0⟩] with clk := { State.reset.clk with supLoading := true } }; let flashOk : Bool := false; (s.clk.supLoading = true) ∧ (s.isOn .dram = true) := by decide +kernel

/-- A state and operands that meet the hypotheses of a clause of `Obligations.DramSupervisorAndReset`. -/
theorem test_wit_DramSupervisorAndReset_8 : let s : State := { up [] with clk := { State.reset.clk with supLoading := true } }; let copyOk : Bool := true; (s.clk.supLoading = true) ∧ (s.isOn .dram = false) := by decide +kernel

/-- A state and operands that meet the hypotheses of a clause of `Obligations.DramSupervisorAndReset`. -/
theorem test_wit_DramSupervisorAndReset_9 : let s : State := let s := State.reset.set F.HG_STATE_CLASS 0; { s with hg := { s.hg with key := some 7 }, sup := { s.sup with vddGate := true } }; (s.sup.vddGate = true) := by decide +kernel

/-- A state and operands that meet the hypotheses of a clause of `Obligations.DramSupervisorAndReset`. -/
theorem test_wit_DramSupervisorAndReset_10 : let p : Nat := 0; let g : Nat := 0; let late : List Nat := []; let s : State := let s := (up [⟨.motion, 0⟩]).set F.PORT_STATUS_SVC 2 0; s.setTe ⟨.sluice, 0⟩ 0 0 (2 ^ 34 + 8 + 2 ^ 11 + 1 * 2 ^ 19); let y : Asm := (s.asmDue 0 0).getD ⟨0, 0, 0, 0, 0, 0, 0, 0⟩; (p < 4) ∧ (g < 8) ∧ (s.isOn .motion = true) ∧ (s.offDuty = false) ∧ (s.svc p = 2) ∧ (s.asmDue p g = some y) := by decide +kernel

/-- A state and operands that meet the hypotheses of a clause of `Obligations.AntennaAndInterference`. -/
theorem test_wit_AntennaAndInterference_1 : let s : State := (up [⟨.gnssRf, 1⟩]).set F.RF_CFG_PWR_EN 1 1; let ant : Nat := 1; let current : Nat := 80001; (ant < 2) ∧ (s.powered = true) ∧ (s.get F.RF_CFG_PWR_EN ant = 1) ∧ (80000 < current) := by decide +kernel

/-- A state and operands that meet the hypotheses of a clause of `Obligations.AntennaAndInterference`. -/
theorem test_wit_AntennaAndInterference_2 : let s : State := (up [⟨.gnssRf, 0⟩]).set F.RF_CFG_PWR_EN 1 0; let ant : Nat := 0; let current : Nat := 4999; (ant < 2) ∧ (s.powered = true) ∧ (s.get F.RF_CFG_PWR_EN ant = 1) ∧ (current ≤ 80000) := by decide +kernel

/-- A state and operands that meet the hypotheses of a clause of `Obligations.AntennaAndInterference`. -/
theorem test_wit_AntennaAndInterference_3 : let s : State := (up [⟨.gnssRf, 0⟩]).set F.RF_CFG_PWR_EN 1 0; let ant : Nat := 0; let current : Nat := 80000; (ant < 2) ∧ (s.powered = true) ∧ (s.get F.RF_CFG_PWR_EN ant = 1) ∧ (current ≤ 80000) := by decide +kernel

/-- A state and operands that meet the hypotheses of a clause of `Obligations.AntennaAndInterference`. -/
theorem test_wit_AntennaAndInterference_4 : let s : State := (up [⟨.gnssRf, 0⟩]).set F.RF_CFG_PWR_EN 0 0; let ant : Nat := 0; let current : Nat := 0; (ant < 2) ∧ (s.powered = true) ∧ (s.get F.RF_CFG_PWR_EN ant = 0) := by decide +kernel

/-- A state and operands that meet the hypotheses of a clause of `Obligations.AntennaAndInterference`. -/
theorem test_wit_AntennaAndInterference_5 : let s : State := ((up [⟨.gnssRf, 1⟩]).set F.RF_CFG_INTERF_DB 6 1).set F.RF_CFG_UPPER_EN 1 1; let ant : Nat := 1; let upper : Nat := 20; let lower : Nat := 40; let refUpper : Nat := 27; let refLower : Nat := 40; (ant < 2) ∧ (s.isOn .gnssRf ant = true) ∧ (s.get F.RF_CFG_INTERF_DB ant ≠ 0) ∧ (s.get F.RF_STATUS_INTERF ant = 0) ∧ (s.gn.refGain.length = 4) ∧ ((s.get F.RF_CFG_UPPER_EN ant = 1 ∧ upper + s.get F.RF_CFG_INTERF_DB ant < refUpper) ∨ (s.get F.RF_CFG_LOWER_EN ant = 1 ∧ lower + s.get F.RF_CFG_INTERF_DB ant < refLower)) := by decide +kernel

/-- A state and operands that meet the hypotheses of a clause of `Obligations.AntennaAndInterference`. -/
theorem test_wit_AntennaAndInterference_6 : let s : State := up [⟨.gnssRf, 0⟩]; let ant : Nat := 0; let upper : Nat := 30; let lower : Nat := 30; let refUpper : Nat := 30; let refLower : Nat := 30; (ant < 2) ∧ (s.isOn .gnssRf ant = true) ∧ (s.gn.refGain.length = 4) ∧ ((s.get F.RF_STATUS_INTERF ant = 0 ∧ refUpper ≤ upper + s.get F.RF_CFG_INTERF_DB ant ∧ refLower ≤ lower + s.get F.RF_CFG_INTERF_DB ant) ∨ (s.get F.RF_STATUS_INTERF ant = 1 ∧ nth 0 s.gn.refGain (2 * ant) ≤ upper + s.get F.RF_CFG_INTERF_DB ant ∧ nth 0 s.gn.refGain (2 * ant + 1) ≤ lower + s.get F.RF_CFG_INTERF_DB ant)) := by decide +kernel

/-- A state and operands that meet the hypotheses of a clause of `Obligations.AntennaAndInterference`. -/
theorem test_wit_AntennaAndInterference_7 : let s : State := let s := ((up [⟨.gnssRf, 0⟩]).set F.RF_STATUS_INTERF 1 0).set F.RF_CFG_INTERF_DB 6 0; { s with gn := { s.gn with refGain := [36, 30, 0, 0] } }; let ant : Nat := 0; let upper : Nat := 30; let lower : Nat := 30; let refUpper : Nat := 90; let refLower : Nat := 30; (ant < 2) ∧ (s.isOn .gnssRf ant = true) ∧ (s.gn.refGain.length = 4) ∧ ((s.get F.RF_STATUS_INTERF ant = 0 ∧ refUpper ≤ upper + s.get F.RF_CFG_INTERF_DB ant ∧ refLower ≤ lower + s.get F.RF_CFG_INTERF_DB ant) ∨ (s.get F.RF_STATUS_INTERF ant = 1 ∧ nth 0 s.gn.refGain (2 * ant) ≤ upper + s.get F.RF_CFG_INTERF_DB ant ∧ nth 0 s.gn.refGain (2 * ant + 1) ≤ lower + s.get F.RF_CFG_INTERF_DB ant)) := by decide +kernel

/-- A state and operands that meet the hypotheses of a clause of `Obligations.TrackingChannels`. -/
theorem test_wit_TrackingChannels_1 : let s : State := State.reset.setChan 17 { st := 1 }; let c : Nat := 17; ((s.chan c).st = 1) ∧ (s.now ≤ (s.chan c).at_ + sec 2) := by decide +kernel

/-- A state and operands that meet the hypotheses of a clause of `Obligations.TrackingChannels`. -/
theorem test_wit_TrackingChannels_2 : let s : State := { State.reset with now := sec 5 }.setChan 3 { st := 1 }; let c : Nat := 3; ((s.chan c).st = 1) ∧ ((s.chan c).at_ + sec 2 ≤ s.now) := by decide +kernel

/-- A state and operands that meet the hypotheses of a clause of `Obligations.TrackingChannels`. -/
theorem test_wit_TrackingChannels_3 : let s : State := State.reset.setChan 40 { st := 2 }; let c : Nat := 40; ((s.chan c).st = 2) := by decide +kernel

/-- A state and operands that meet the hypotheses of a clause of `Obligations.TrackingChannels`. -/
theorem test_wit_TrackingChannels_4 : let s : State := State.reset.setChan 255 { st := 2 }; let c : Nat := 255; ((s.chan c).st = 2) := by decide +kernel

/-- A state and operands that meet the hypotheses of a clause of `Obligations.TrackingChannels`. -/
theorem test_wit_TrackingChannels_5 : let s : State := State.reset.setChan 0 { st := 3 }; let c : Nat := 0; ((s.chan c).st = 3) ∧ (s.now ≤ (s.chan c).at_ + sec 10) := by decide +kernel

/-- A state and operands that meet the hypotheses of a clause of `Obligations.TrackingChannels`. -/
theorem test_wit_TrackingChannels_6 : let s : State := State.reset.setChan 9 { st := 3 }; let c : Nat := 9; let below : Bool := true; ((s.chan c).st = 3) ∧ ((s.chan c).at_ + sec 10 ≤ s.now ∨ below = true) := by decide +kernel

/-- A state and operands that meet the hypotheses of a clause of `Obligations.TrackingChannels`. -/
theorem test_wit_TrackingChannels_7 : let s : State := State.reset.setChan 1 { st := 2, half := true }; let c : Nat := 1; ((s.chan c).st = 2) ∧ ((s.chan c).half = true) := by decide +kernel

/-- A state and operands that meet the hypotheses of a clause of `Obligations.MeasurementAndSurvey`. -/
theorem test_wit_MeasurementAndSurvey_1 : let s : State := { up [⟨.gnssAcq, 0⟩, ⟨.gnssTrk, 0⟩, ⟨.gnssRf, 0⟩] with now := sec 1 }; let sky : List SkySig := [⟨0, 5, 60, true⟩, ⟨1, 5, 2, true⟩, ⟨0, 7, 40, false⟩]; (s.isOn .gnssAcq = true) ∧ (s.gn.passAt + sec 1 ≤ s.now) := by decide +kernel

/-- A state and operands that meet the hypotheses of a clause of `Obligations.MeasurementAndSurvey`. -/
theorem test_wit_MeasurementAndSurvey_2 : let s : State := let s := ((up [⟨.gnssMeas, 0⟩]).set F.ROOT_STATUS_ROOT_LOCK 1).setChan 3 { st := 2, slip := true, sig := 1, svid := 9 }; { s with ft := 1000000000 * 2 ^ 32 }; let meas : List MeasIn := [⟨3, 40, 1, 2, 3, 4000, true, true, true⟩, ⟨4, 40, 1, 2, 3, 4000, true, true, true⟩]; let t0 : Nat := 1000000000; (s.isOn .gnssMeas = true) ∧ (s.get F.ROOT_STATUS_ROOT_LOCK ≠ 0) ∧ (t0 = s.fleetNs / ratePeriod s.gn.rate * ratePeriod s.gn.rate) ∧ (s.gn.lastStrobe < t0) := by decide +kernel

/-- A state and operands that meet the hypotheses of a clause of `Obligations.MeasurementAndSurvey`. -/
theorem test_wit_MeasurementAndSurvey_3 : let s : State := let s := up [⟨.gnssMeas, 0⟩]; { s with gn := { s.gn with latched := some ⟨5, 3, 0, 0, 8, 1, 0, 0, 2300, []⟩ } }; let r : Option Nat := none; let geom : List SigGeom := []; let e : Epoch := ⟨5, 3, 0, 0, 8, 1, 0, 0, 2300, []⟩; (s.gn.latched = some e) ∧ (e.seq < 2 ^ 32) := by decide +kernel

/-- A state and operands that meet the hypotheses of a clause of `Obligations.MeasurementAndSurvey`. -/
theorem test_wit_MeasurementAndSurvey_4 : let s : State := let s := (up [⟨.gnssMeas, 0⟩]).set F.BASE_CTRL_BASE_VALID 1; { s with gn := { s.gn with latched := some ⟨5, 3, 0, 0, 8, 1, 0, 0, 2300, (List.range 6).map fun i => ⟨i, 0, 0, i + 1, 40, 5, 6, 7, 4500, 300, 15⟩⟩ } }; let r : Option Nat := some 4; let geom : List SigGeom := []; let e : Epoch := ⟨5, 3, 0, 0, 8, 1, 0, 0, 2300, (List.range 6).map fun i => ⟨i, 0, 0, i + 1, 40, 5, 6, 7, 4500, 300, 15⟩⟩; (s.gn.latched = some e) ∧ (e.seq < 2 ^ 32) := by decide +kernel

/-- A state and operands that meet the hypotheses of a clause of `Obligations.MeasurementAndSurvey`. -/
theorem test_wit_MeasurementAndSurvey_5 : let s : State := let s := up [⟨.gnssMeas, 0⟩]; { s with gn := { s.gn with latched := some ⟨5, 3, 0, 0, 8, 1, 0, 0, 2300, []⟩ } }; let r : Option Nat := none; let geom : List SigGeom := []; let e : Epoch := ⟨5, 3, 0, 0, 8, 1, 0, 0, 2300, []⟩; (s.gn.latched = some e) ∧ (s.get F.BASE_CTRL_BASE_VALID = 0) := by decide +kernel

/-- A state and operands that meet the hypotheses of a clause of `Obligations.MeasurementAndSurvey`. -/
theorem test_wit_MeasurementAndSurvey_6 : let s : State := State.reset.set F.CONSIST_STATUS_SPOOF 1; (s.get F.CONSIST_STATUS_SPOOF_NOW = 0) := by decide +kernel

/-- A state and operands that meet the hypotheses of a clause of `Obligations.MeasurementAndSurvey`. -/
theorem test_wit_MeasurementAndSurvey_7 : let s : State := State.reset.set F.CONSIST_STATUS_SPOOF_NOW 1; (s.get F.CONSIST_STATUS_SPOOF_NOW = 1) := by decide +kernel

/-- A state and operands that meet the hypotheses of a clause of `Obligations.MeasurementAndSurvey`. -/
theorem test_wit_MeasurementAndSurvey_8 : let s : State := (State.reset.set F.BASE_CTRL_MODE 2).set F.BASE_CTRL_SURVEY_STATE 3; (s.get F.BASE_CTRL_MODE = 2) ∧ (s.get F.BASE_CTRL_SURVEY_STATE ≠ 1) := by decide +kernel

/-- A state and operands that meet the hypotheses of a clause of `Obligations.MeasurementAndSurvey`. -/
theorem test_wit_MeasurementAndSurvey_9 : let s : State := { (State.reset.set F.BASE_CTRL_SURVEY_STATE 1).set F.SURVEY_MIN_DUR 600 with ft := 10 ^ 9 * 2 ^ 32 }; let x : Int := 5; let y : Int := -7; let z : Int := 9; (s.get F.BASE_CTRL_SURVEY_STATE = 1) ∧ (s.gn.svSecond < s.fleetSec) ∧ ((∀ e ∈ s.gn.ring.getLast?, bit e.hflags 6 = false ∧ bit e.hflags 7 = false)) ∧ (s.gn.svN + 1 < s.get F.SURVEY_MIN_DUR) := by decide +kernel

/-- A state and operands that meet the hypotheses of a clause of `Obligations.MeasurementAndSurvey`. -/
theorem test_wit_MeasurementAndSurvey_10 : let s : State := { ((State.reset.set F.BASE_CTRL_SURVEY_STATE 1).set F.SURVEY_MIN_DUR 0).set F.SURVEY_SIGMA 0xFFFFFFFF with ft := 10 ^ 9 * 2 ^ 32 }; let x : Int := -5; let y : Int := -7; let z : Int := -9; (s.get F.BASE_CTRL_SURVEY_STATE = 1) ∧ (s.gn.svSecond < s.fleetSec) ∧ ((∀ e ∈ s.gn.ring.getLast?, bit e.hflags 6 = false ∧ bit e.hflags 7 = false)) ∧ (s.get F.SURVEY_MIN_DUR ≤ s.gn.svN + 1) ∧ ((s.surveyAdd (s.toAnt0 [x, y, z])).get F.SURVEY_SIGMA_NOW ≤ s.get F.SURVEY_SIGMA) ∧ (s.gn.svSum.length = 3) := by decide +kernel

/-- A state and operands that meet the hypotheses of a clause of `Obligations.MeasurementAndSurvey`. -/
theorem test_wit_MeasurementAndSurvey_11 : let s : State := { State.reset.set F.BASE_CTRL_SURVEY_STATE 1 with now := sec 100000 }; (s.get F.BASE_CTRL_SURVEY_STATE = 1) ∧ (s.gn.svAt + sec (s.get F.SURVEY_MAX_DUR) ≤ s.now) := by decide +kernel

/-- A state and operands that meet the hypotheses of a clause of `Obligations.FleetTimeSources`. -/
theorem test_wit_FleetTimeSources_1 : let s : State := (up [⟨.time, 0⟩]).set F.TIME_CFG_SRC_EN 7; let e : Int := 1234; let cls : Nat := 6; (6 ≤ cls) ∧ (cls ≤ 7) ∧ (s.isOn .time = true) ∧ (bit (s.get F.TIME_CFG_SRC_EN) 1 = true) ∧ (s.qualified 1 = false) ∧ (nth 0 s.tm.good 1 < 15) := by decide +kernel

/-- A state and operands that meet the hypotheses of a clause of `Obligations.FleetTimeSources`. -/
theorem test_wit_FleetTimeSources_2 : let s : State := let s := (((up [⟨.time, 0⟩]).set F.TIME_CFG_SRC_EN 7).set F.TIME_STATUS_STATE 1).set F.TIME_STATUS_SRC 1; { s with tm := { s.tm with qual := [false, true, false] } }; let e : Int := -1000000000; let cls : Nat := 6; (cls ≤ 7) ∧ (s.isOn .time = true) ∧ (bit (s.get F.TIME_CFG_SRC_EN) 1 = true) ∧ (s.get F.TIME_STATUS_STATE = 1) ∧ (s.get F.TIME_STATUS_SRC = 1) ∧ (s.qualified 1 = true) ∧ (s.jumpLimit < iabs e) := by decide +kernel

/-- A state and operands that meet the hypotheses of a clause of `Obligations.FleetTimeSources`. -/
theorem test_wit_FleetTimeSources_3 : let s : State := let s := (((up [⟨.time, 0⟩]).set F.TIME_CFG_SRC_EN 7).set F.TIME_STATUS_STATE 1).set F.TIME_STATUS_SRC 1; { s with tm := { s.tm with qual := [false, true, false] } }; let e : Int := 10; let cls : Nat := 6; (cls ≤ 7) ∧ (s.isOn .time = true) ∧ (bit (s.get F.TIME_CFG_SRC_EN) 1 = true) ∧ (s.get F.TIME_STATUS_STATE = 1) ∧ (s.get F.TIME_STATUS_SRC = 1) ∧ (s.qualified 1 = true) ∧ (iabs e ≤ s.jumpLimit) := by decide +kernel

/-- A state and operands that meet the hypotheses of a clause of `Obligations.FleetTimeSources`. -/
theorem test_wit_FleetTimeSources_4 : let s : State := State.reset.set F.TIME_STATUS_SLEWING 1; (s.get F.TIME_STATUS_SLEWING = 1) ∧ (s.tm.slewAt + s.tm.slewTime ≤ s.now) := by decide +kernel

/-- A state and operands that meet the hypotheses of a clause of `Obligations.FleetTimeSources`. -/
theorem test_wit_FleetTimeSources_5 : let s : State := { up [⟨.time, 0⟩] with now := 10 ^ 12 }; (s.isOn .time = true) ∧ (s.tm.evalAt + ms 10 ≤ s.now) := by decide +kernel

/-- A state and operands that meet the hypotheses of a clause of `Obligations.FleetTimeSources`. -/
theorem test_wit_FleetTimeSources_6 : let at_ : Nat := 0; let s : State := let s := State.reset.set F.TIME_STATUS_STATE 3; { s with now := sec 10, tm := { s.tm with noneSince := some 0 } }; (s.get F.TIME_STATUS_STATE = 3) ∧ (s.tm.noneSince = some at_) ∧ (at_ + sec 10 ≤ s.now) := by decide +kernel

/-- A state and operands that meet the hypotheses of a clause of `Obligations.FleetTimeSources`. -/
theorem test_wit_FleetTimeSources_7 : let s : State := { State.reset.set F.TIME_STATUS_GAP_ALLOW 1 with now := sec 10 }; (s.get F.TIME_STATUS_GAP_ALLOW = 1) ∧ (s.tm.gapAt + sec 10 ≤ s.now) := by decide +kernel

/-- A state and operands that meet the hypotheses of a clause of `Obligations.AuthorisedTimeSteps`. -/
theorem test_wit_AuthorisedTimeSteps_1 : let x : Nat := 1; let s : State := let s := (State.reset.set F.TIME_STATUS_STATE 3); { s with tm := { s.tm with qual := [false, true, false] } }; (s.get F.TIME_STATUS_STATE = 3) ∧ (s.get F.TIME_STATUS_STEP_PEND = 0) ∧ (s.allHeld = true) ∧ (s.bestSource = some x) := by decide +kernel

/-- A state and operands that meet the hypotheses of a clause of `Obligations.AuthorisedTimeSteps`. -/
theorem test_wit_AuthorisedTimeSteps_2 : let d : Int := 5000; let s : State := State.reset.set F.TIME_STATUS_STATE 2; (s.get F.TIME_STATUS_STATE = 2 ∨ s.get F.TIME_STATUS_STATE = 3) ∧ (s.get F.TIME_STATUS_STEP_PEND = 0) ∧ (s.allHeld = true) ∧ (iabs d ≤ 10 ^ 15) ∧ (0 ≤ (s.fleetNs : Int) + d) := by decide +kernel

/-- A state and operands that meet the hypotheses of a clause of `Obligations.AuthorisedTimeSteps`. -/
theorem test_wit_AuthorisedTimeSteps_3 : let s : State := State.reset; (s.get F.TIME_STATUS_STATE = 0) ∧ (s.get F.TIME_STATUS_STEP_PEND = 0) := by decide +kernel

/-- A state and operands that meet the hypotheses of a clause of `Obligations.AuthorisedTimeSteps`. -/
theorem test_wit_AuthorisedTimeSteps_4 : let x : Nat := 1; let s : State := let s := (State.reset.set F.TIME_STATUS_STATE 3); { s with tm := { s.tm with qual := [false, true, false] } }; (s.get F.TIME_STATUS_STATE = 3) ∧ (s.get F.TIME_STATUS_STEP_PEND = 0) ∧ (s.bestSource = some x) := by decide +kernel

/-- A state and operands that meet the hypotheses of a clause of `Obligations.AuthorisedTimeSteps`. -/
theorem test_wit_AuthorisedTimeSteps_5 : let d : Int := 25000000000; let s : State := { State.reset with ft := 2 ^ 62, tm := { State.reset.tm with stepBy := some 25000000000 } }; (s.tm.stepBy = some d) ∧ (s.powered = true) ∧ (s.noPortOn = true ∨ s.air.nextB ≤ s.fleetNs) := by decide +kernel

/-- A state and operands that meet the hypotheses of a clause of `Obligations.AuthorisedTimeSteps`. -/
theorem test_wit_AuthorisedTimeSteps_6 : let s : State := (State.reset.set F.LEASE_STATUS_REBASING 1).set F.TIME_STATUS_STEP_PEND 1; (s.get F.LEASE_STATUS_REBASING = 1) ∧ ((∀ h ∈ s.held, s.rebaseHolds h.page = false)) := by decide +kernel

/-- A state and operands that meet the hypotheses of a clause of `Obligations.PulsePerSecondAndTimeStamps`. -/
theorem test_wit_PulsePerSecondAndTimeStamps_1 : let s : State := { (((up [⟨.time, 0⟩]).set F.PPS_CFG_EN 1).set F.PPS_CFG_UNSET_EN 1).set F.ROOT_STATUS_ROOT_LOCK 1 with ft := 5000020000 * 2 ^ 32 }; (s.isOn .time = true) ∧ (s.get F.PPS_CFG_EN = 1) ∧ (s.get F.TIME_STATUS_STATE ≠ 0 ∨ s.get F.PPS_CFG_UNSET_EN = 1) ∧ (s.tm.ppsHold ≤ s.now) ∧ (s.tm.ppsSec < (((s.fleetNs : Int) + sext (s.get F.PPS_CFG_COMP) 16) / 1000000000).toNat) ∧ (s.tm.ppsAt = none) ∧ (s.get F.ROOT_STATUS_ROOT_LOCK = 1) ∧ (((s.fleetNs : Int) + sext (s.get F.PPS_CFG_COMP) 16) % 1000000000 ≤ 25000) := by decide +kernel

/-- A state and operands that meet the hypotheses of a clause of `Obligations.PulsePerSecondAndTimeStamps`. -/
theorem test_wit_PulsePerSecondAndTimeStamps_2 : let a : Nat := 0; let s : State := { State.reset with now := ms 500, tm := { State.reset.tm with ppsAt := some 0 } }; (s.tm.ppsAt = some a) ∧ (a + ms (s.get F.PPS_CFG_WIDTH) ≤ s.now) := by decide +kernel

/-- A state and operands that meet the hypotheses of a clause of `Obligations.PulsePerSecondAndTimeStamps`. -/
theorem test_wit_PulsePerSecondAndTimeStamps_3 : let s : State := up [⟨.eth, 1⟩]; let port : Nat := 1; let f : EthFrame := ⟨true, 0x011B19000000, 5, none, 0x88F7, []⟩; (port < 2) ∧ (s.isOn .eth port = true) ∧ (f.fcsOk = true) ∧ (f.da = 0x011B19000000 ∨ f.da = s.macOf port) ∧ (s.get F.ETH_CFG_VLAN_EN port = 0) ∧ (s.get F.TIME_CFG_PTP_HOST = 0) ∧ (ptpFrame f.bytes 319 = true) := by decide +kernel

/-- A state and operands that meet the hypotheses of a clause of `Obligations.PulsePerSecondAndTimeStamps`. -/
theorem test_wit_PulsePerSecondAndTimeStamps_4 : let s : State := { (up [⟨.eth, 1⟩]).set F.ETH_STATUS_LINK 1 1 with ft := 2 ^ 60 }; let port : Nat := 1; let msgType : Nat := 1; let domain : Nat := 3; let seqId : Nat := 77; (port < 2) ∧ (s.isOn .eth port = true) ∧ (s.get F.ETH_STATUS_LINK port ≠ 0) ∧ (msgType < 4) ∧ ((s.txts port).length < 64) := by decide +kernel

/-- A state and operands that meet the hypotheses of a clause of `Obligations.PulsePerSecondAndTimeStamps`. -/
theorem test_wit_PulsePerSecondAndTimeStamps_5 : let s : State := let s := (up [⟨.eth, 0⟩]).set F.ETH_STATUS_LINK 1 0; { s with tm := { s.tm with txts0 := List.replicate 64 ⟨1, 2⟩ } }; let msgType : Nat := 0; let domain : Nat := 0; let seqId : Nat := 1; (s.isOn .eth 0 = true) ∧ (s.get F.ETH_STATUS_LINK 0 ≠ 0) ∧ (msgType < 4) ∧ (64 ≤ s.tm.txts0.length) := by decide +kernel

/-- A state and operands that meet the hypotheses of a clause of `Obligations.PulsePerSecondAndTimeStamps`. -/
theorem test_wit_PulsePerSecondAndTimeStamps_6 : let s : State := let s := State.reset; { s with tm := { s.tm with txts1 := [⟨1, 2⟩, ⟨3, 4⟩] } }; let src : Src := .sup; let port : Nat := 1; (port < 2) ∧ (s.jtagBars src ⟨.time, 0⟩ false = false) ∧ (s.txtsOwner src = true) := by decide +kernel

/-- A state and operands that meet the hypotheses of a clause of `Obligations.PulsePerSecondAndTimeStamps`. -/
theorem test_wit_PulsePerSecondAndTimeStamps_7 : let s : State := State.reset; let src : Src := .host; let port : Nat := 0; (port < 2) ∧ (s.jtagBars src ⟨.time, 0⟩ false = false) ∧ (s.txtsOwner src = false) := by decide +kernel

/-- A state and operands that meet the hypotheses of a clause of `Obligations.RtkCorrectionsAndCells`. -/
theorem test_wit_RtkCorrectionsAndCells_1 : let m : Nat := 4; let x : MEpoch := { member := 4, e := 5000000000, arrival := 5010000000 }; let b : Epoch := ⟨5, 3, 0, 0, 8, 1, 0, 0, 2300, []⟩; let s : State := { State.reset with ft := 5020000000 * 2 ^ 32, rtk := { State.reset.rtk with queue := [x] }, gn := { State.reset.gn with ring := [b] } }; (x ∈ s.rtk.queue) ∧ (x.member = m) ∧ (x.ready = none) ∧ (s.baseAt x.e = some b) ∧ (b.withheld = 0) := by decide +kernel

/-- A state and operands that meet the hypotheses of a clause of `Obligations.RtkCorrectionsAndCells`. -/
theorem test_wit_RtkCorrectionsAndCells_2 : let m : Nat := 4; let x : MEpoch := { member := 4, e := 5000000000, arrival := 5010000000 }; let b : Epoch := ⟨5, 3, 0, 0, 8, 1, 2, 0, 2300, []⟩; let s : State := { State.reset with ft := 5020000000 * 2 ^ 32, rtk := { State.reset.rtk with queue := [x] }, gn := { State.reset.gn with ring := [b] } }; (x ∈ s.rtk.queue) ∧ (x.member = m) ∧ (x.ready = none) ∧ (s.baseAt x.e = some b) ∧ (b.withheld ≠ 0) := by decide +kernel

/-- A state and operands that meet the hypotheses of a clause of `Obligations.RtkCorrectionsAndCells`. -/
theorem test_wit_RtkCorrectionsAndCells_3 : let cell : Nat := 15; let d : Nat := 5050000000; let x : MEpoch := { member := 511, e := 5000000000, arrival := 5010000000, ready := some 5020000000 }; let s : State := let s := (up [⟨.rtkCtrl, 0⟩, ⟨.solver, 15⟩]).setP ⟨.solver, 15⟩ F.STATE_CELLS_LIVE 1; { s with ft := 5020000000 * 2 ^ 32, rtk := { s.rtk with queue := [{ member := 3, e := 5000000000, arrival := 0, ready := some 5020000001 }, x] } }; (cell < 16) ∧ (s.isOn .solver cell = true) ∧ (s.getP ⟨.solver, cell⟩ F.STATE_CELLS_LIVE ≠ 0) ∧ ((s.rtk.cells.any fun c => decide (c.cell = cell)) = false) ∧ (s.isOn .rtkCtrl = true) ∧ (x ∈ s.rtk.queue) ∧ (x.member < 512) ∧ (x.deadline = some d) ∧ (s.fleetNs < d) ∧ ((s.rtk.cells.any fun c => decide (c.me.member = x.member)) = false) ∧ ((∀ y ∈ s.rtk.queue, y ≠ x → s.before x y = true ∧ (y.member = x.member → x.e < y.e))) := by decide +kernel

/-- A state and operands that meet the hypotheses of a clause of `Obligations.RtkCorrectionsAndCells`. -/
theorem test_wit_RtkCorrectionsAndCells_4 : let m : Nat := 4; let s : State := { State.reset with ft := 5050000000 * 2 ^ 32, rtk := { State.reset.rtk with queue := [{ member := 4, e := 5000000000, arrival := 0, ready := some 5020000000 }, { member := 4, e := 5100000000, arrival := 0 }] } }; ((s.rtk.queue.filter fun x => decide (x.member = m) && (match x.deadline with | some d => decide (d ≤ s.fleetNs) | none => false)) ≠ []) := by decide +kernel

/-- A state and operands that meet the hypotheses of a clause of `Obligations.RtkCorrectionsAndCells`. -/
theorem test_wit_RtkCorrectionsAndCells_5 : let cell : Nat := 3; let cycles : Nat := 900000; let b : Epoch := ⟨5, 3, 0, 0, 8, 1, 0, 0, 2300, []⟩; let w : CellWork := ⟨3, { member := 9, e := 5000000000, arrival := 5010000000, base := some b }, 0, false, {}, 0⟩; let s : State := { up [⟨.solver, 3⟩] with rtk := { State.reset.rtk with cells := [w] }, gn := { State.reset.gn with ring := [b] } }; (s.rtk.cells.find? (fun c => decide (c.cell = cell)) = some w) ∧ (cell < 16) ∧ (w.discard = false) ∧ (s.level ≠ 3) ∧ (w.me.base = some b) := by decide +kernel

/-- A state and operands that meet the hypotheses of a clause of `Obligations.RtkCorrectionsAndCells`. -/
theorem test_wit_RtkCorrectionsAndCells_6 : let cell : Nat := 3; let w : CellWork := ⟨3, { member := 9, e := 5000000000, arrival := 5010000000 }, 0, false, {}, 0⟩; let s : State := { up [⟨.solver, 3⟩] with now := 3333333334, rtk := { State.reset.rtk with cells := [w] } }; (s.rtk.cells.find? (fun c => decide (c.cell = cell)) = some w) ∧ (cell < 16) ∧ (w.at_ + 3333333334 ≤ s.now) := by decide +kernel

/-- A state and operands that meet the hypotheses of a clause of `Obligations.RtkCorrectionsAndCells`. -/
theorem test_wit_RtkCorrectionsAndCells_7 : let s : State := { (up [⟨.rtkCtrl, 0⟩]).setTe ⟨.rtkCtrl, 0⟩ 0 5 3 with ft := 10 ^ 9 * 2 ^ 32 }; (s.isOn .rtkCtrl = true) ∧ (s.rtk.second < s.fleetSec) := by decide +kernel

/-- A state and operands that meet the hypotheses of a clause of `Obligations.RtkCorrectionsAndCells`. -/
theorem test_wit_RtkCorrectionsAndCells_8 : let m : Nat := 511; let sig : Nat := 2; let svid : Nat := 30; let s : State := { State.reset with now := sec 10 }.setRmem 511 { ambs := [⟨2, 30, 0, none, true, 0⟩, ⟨2, 31, 0, none, true, 0⟩] }; (((s.rmem m).ambs.any fun a => decide (a.sig = sig ∧ a.svid = svid ∧ a.seenAt + sec 10 ≤ s.now)) = true) := by decide +kernel

/-- A state and operands that meet the hypotheses of a clause of `Obligations.RtkCorrectionsAndCells`. -/
theorem test_wit_RtkCorrectionsAndCells_9 : let m : Nat := 7; let a : Nat := 0; let s : State := { State.reset with now := sec 10 }.setRmem 7 { solvedAt := some 0, ambs := [⟨2, 30, 0, none, true, 0⟩] }; (m < 512) ∧ ((s.rmem m).solvedAt = some a) ∧ (a + sec 10 ≤ s.now) := by decide +kernel

/-- A state and operands that meet the hypotheses of a clause of `Obligations.RtkCorrectionsAndCells`. -/
theorem test_wit_RtkCorrectionsAndCells_10 : let s : State := { up [⟨.rtkCtrl, 0⟩] with ft := 10 ^ 12 * 2 ^ 32 }; (s.isOn .rtkCtrl = true) ∧ (s.get F.INTEG_STATUS_BASE_LOST = 0) ∧ (s.gn.lastBase.getD 0 + s.get F.BASE_LOSS * 1000000 ≤ s.fleetNs) := by decide +kernel

/-- A state and operands that meet the hypotheses of a clause of `Obligations.RtkCorrectionsAndCells`. -/
theorem test_wit_RtkCorrectionsAndCells_11 : let e : Epoch := ⟨5, 3, 0, 0, 8, 1, 0, 0, 2300, []⟩; let t0 : Nat := 5000000000; let s : State := { (((up [⟨.corrOut, 0⟩]).set F.BASE_CTRL_BASE_VALID 1).set F.SVC_STATUS_LEVEL 3).set F.CORR_CFG_AIR_EN 1 with gn := { State.reset.gn with delivered := [e] } }; (s.gn.delivered.getLast? = some e) ∧ (t0 = e.timeS * 1000000000 + e.timeNs) ∧ (s.isOn .corrOut = true) ∧ (s.rtk.corrE < t0) ∧ (t0 % (s.get F.CORR_CFG2_DIV * ratePeriod e.rate) = 0) ∧ (s.get F.BASE_CTRL_BASE_VALID = 1) ∧ (s.get F.CONSIST_STATUS_SPOOF = 0) ∧ (s.level = 3) ∧ (s.rtk.arpAt = none) := by decide +kernel

/-- A state and operands that meet the hypotheses of a clause of `Obligations.RtkCorrectionsAndCells`. -/
theorem test_wit_RtkCorrectionsAndCells_12 : let p : Nat := 2; let i : Nat := 0; let e : Nat := 2 ^ 34 + 8 * 2 ^ 11 + 3 * 2 ^ 19; let m : List Nat := [1, 2, 3]; let x : CorrEpoch := { seq := 5, e := 0, built := 0, msgs := [[1, 2, 3]] }; let s : State := let s := ((((up [⟨.airport, 2⟩, ⟨.sluice, 2⟩, ⟨.frameSec, 0⟩]).set F.PORT_STATUS_SVC 2 2).set F.ROOT_STATUS_ROOT_LOCK 1).set F.SVC_STATUS_LEVEL 3).setTe ⟨.sluice, 2⟩ 0 0 e; let s := s.set F.SEC_STATUS_KGEN_CUR 1; { s with ft := 300000 * 2 ^ 32, air := { s.air with curB := 200000 }, rtk := { s.rtk with corr := [[], [], [x], []] } }; (s.entryDue p i 3 = some e) ∧ (s.level = 3) ∧ (s.maySend p = true) ∧ (s.gateNow = true) ∧ (s.dbg.extest = false) ∧ (nth [] s.rtk.corr p = [x]) ∧ (x.msgs = [m]) ∧ (x.built + 200000 ≤ s.entryAt e) ∧ (s.entryAt e < x.e + s.get F.MAX_AGE * 1000000) ∧ (s.corrFits p (slRate e) (slLen e) m.length = true) := by decide +kernel

/-- A state and operands that meet the hypotheses of a clause of `Obligations.AirPorts`. -/
theorem test_wit_AirPorts_1 : let p : Nat := 3; let s : State := (up [⟨.airport, 3⟩]).set F.ROOT_STATUS_ROOT_LOCK 1; (p < 4) ∧ (s.rxEn p = true) ∧ (s.get F.ROOT_STATUS_ROOT_LOCK = 1) ∧ (s.get F.PORT_STATUS_RX_LOCK p = 0) := by decide +kernel

/-- A state and operands that meet the hypotheses of a clause of `Obligations.AirPorts`. -/
theorem test_wit_AirPorts_2 : let p : Nat := 0; let s : State := ((up [⟨.airport, 0⟩]).set F.ROOT_STATUS_ROOT_LOCK 1).set F.PORT_STATUS_RX_LOCK 1 0; (p < 4) ∧ (s.rxEn p = true) ∧ (s.get F.PORT_STATUS_RX_LOCK p = 1) := by decide +kernel

/-- A state and operands that meet the hypotheses of a clause of `Obligations.AirPorts`. -/
theorem test_wit_AirPorts_3 : let p : Nat := 2; let rate : Nat := 7; let len : Nat := 2048; let s : State := (up [⟨.airport, 2⟩]).set F.ROOT_STATUS_ROOT_LOCK 1; (p < 4) ∧ (s.isOn .airport p = true) ∧ (s.get F.ROOT_STATUS_ROOT_LOCK = 1) ∧ (rate < 8) ∧ (14 ≤ len) ∧ (len ≤ 2048) ∧ (p < s.air.ports.length) := by decide +kernel

/-- A state and operands that meet the hypotheses of a clause of `Obligations.AirPorts`. -/
theorem test_wit_AirPorts_4 : let p : Nat := 0; let rate : Nat := 0; let y : PpduIn := ⟨2, false, 50, 20, 30, [1, 2, 3]⟩; let s : State := ((up [⟨.airport, 0⟩]).set F.ROOT_STATUS_ROOT_LOCK 1).set F.PORT_STATUS_RX_LOCK 1 0; (p < 4) ∧ (s.rxWords p = true) ∧ (s.st ⟨.airport, p⟩ = stOn) ∧ (s.get F.PORT_STATUS_RX_LOCK p = 1) ∧ (y.signalOk = false) := by decide +kernel

/-- A state and operands that meet the hypotheses of a clause of `Obligations.AirPorts`. -/
theorem test_wit_AirPorts_5 : let p : Nat := 0; let rate : Nat := 0; let y : PpduIn := ⟨0, true, 50, 20, 30, List.replicate 13 7⟩; let s : State := ((up [⟨.airport, 0⟩]).set F.ROOT_STATUS_ROOT_LOCK 1).set F.PORT_STATUS_RX_LOCK 1 0; (p < 4) ∧ (s.rxWords p = true) ∧ (s.st ⟨.airport, p⟩ = stOn) ∧ (s.get F.PORT_STATUS_RX_LOCK p = 1) ∧ (y.signalOk = true) ∧ (y.psdu.length < 14 ∨ 2048 < y.psdu.length) := by decide +kernel

/-- A state and operands that meet the hypotheses of a clause of `Obligations.AirPorts`. -/
theorem test_wit_AirPorts_6 : let p : Nat := 0; let rate : Nat := 0; let y : PpduIn := ⟨0, true, 50, 20, 30, List.replicate 2049 7⟩; let s : State := ((up [⟨.airport, 0⟩]).set F.ROOT_STATUS_ROOT_LOCK 1).set F.PORT_STATUS_RX_LOCK 1 0; (p < 4) ∧ (s.rxWords p = true) ∧ (s.st ⟨.airport, p⟩ = stOn) ∧ (s.get F.PORT_STATUS_RX_LOCK p = 1) ∧ (y.signalOk = true) ∧ (y.psdu.length < 14 ∨ 2048 < y.psdu.length) := by decide +kernel

/-- A state and operands that meet the hypotheses of a clause of `Obligations.AirPorts`. -/
theorem test_wit_AirPorts_7 : let p : Nat := 0; let rate : Nat := 0; let y : PpduIn := ⟨0, true, 50, 20, 30, List.replicate 14 7⟩; let s : State := ((up [⟨.airport, 0⟩, ⟨.sluice, 0⟩]).set F.ROOT_STATUS_ROOT_LOCK 1).set F.PORT_STATUS_RX_LOCK 1 0; (p < 4) ∧ (s.rxWords p = true) ∧ (s.st ⟨.airport, p⟩ = stOn) ∧ (s.get F.PORT_STATUS_RX_LOCK p = 1) ∧ (y.signalOk = true) ∧ (14 ≤ y.psdu.length) ∧ (y.psdu.length ≤ 2048) ∧ (s.isOn .sluice p = true) ∧ ((parseAir y.psdu).any (fun h => s.dstMine p h.dst) = false) := by decide +kernel

/-- A state and operands that meet the hypotheses of a clause of `Obligations.AirPorts`. -/
theorem test_wit_AirPorts_8 : let p : Nat := 1; let rate : Nat := 0; let y : PpduIn := ⟨0, true, 8 * 125000 + 20000, 20, 30, (let b := toBytes 2 (1 + 2 * 16) ++ toBytes 2 0x81FD ++ toBytes 2 4 ++ toBytes 2 77; b ++ [0, 0] ++ toBytes 4 (crc32 (b ++ [0, 0])))⟩; let s : State := (((up [⟨.airport, 1⟩, ⟨.sluice, 1⟩]).set F.ROOT_STATUS_ROOT_LOCK 1).set F.PORT_STATUS_RX_LOCK 1 1); let h : AirHdr := ⟨1, 2, false, 0x81FD, 4, 77, none, ofBytes ((y.psdu.drop 8).take 4), nth 0 (y.psdu.drop 8) 4, nth 0 (y.psdu.drop 8) 5, [0, 0]⟩; (p < 4) ∧ (s.rxWords p = true) ∧ (s.st ⟨.airport, p⟩ = stOn) ∧ (s.get F.PORT_STATUS_RX_LOCK p = 1) ∧ (y.signalOk = true) ∧ (14 ≤ y.psdu.length) ∧ (y.psdu.length ≤ 2048) ∧ (s.isOn .sluice p = true) ∧ (parseAir y.psdu = some h) ∧ (s.dstMine p h.dst = true) ∧ (h.typ = 1) ∧ (p < s.air.ports.length) := by decide +kernel

/-- A state and operands that meet the hypotheses of a clause of `Obligations.AirPorts`. -/
theorem test_wit_AirPorts_9 : let p : Nat := 1; let rate : Nat := 0; let a : Nat := 8 * 125000; let s : State := let s := (((up [⟨.airport, 1⟩, ⟨.sluice, 1⟩]).set F.ROOT_STATUS_ROOT_LOCK 1).set F.PORT_STATUS_RX_LOCK 1 1).set F.SEC_STATUS_KGEN_CUR 1; s.setTe ⟨.sluice, 1⟩ 0 0 (2 ^ 34 + 8 + 8 * 2 ^ 11 + 2 * 2 ^ 19 + 4 * 2 ^ 22); let lim : Nat := s.entryEnd (2 ^ 34 + 8 + 8 * 2 ^ 11 + 2 * 2 ^ 19 + 4 * 2 ^ 22); let y : PpduIn := ⟨0, true, 8 * 125000 + 20000, 20, 30, (let b := toBytes 2 (2 + 2 * 16 + 256) ++ toBytes 2 0x81FD ++ toBytes 2 4 ++ toBytes 2 77 ++ toBytes 4 5 ++ [1, 0] ++ List.replicate 8 0; b ++ toBytes 4 (crc32 b))⟩; let h : AirHdr := (parseAir y.psdu).getD ⟨0, 0, false, 0, 0, 0, none, 0, 0, 0, []⟩; (p < 4) ∧ (s.rxWords p = true) ∧ (s.st ⟨.airport, p⟩ = stOn) ∧ (s.get F.PORT_STATUS_RX_LOCK p = 1) ∧ (y.signalOk = true) ∧ (14 ≤ y.psdu.length) ∧ (y.psdu.length ≤ 2048) ∧ (s.isOn .sluice p = true) ∧ (parseAir y.psdu = some h) ∧ (s.dstMine p h.dst = true) ∧ (h.typ = 2) ∧ (s.inWindow p (y.ballNs - s.get F.LAT_RX_LAT p) h = some (a, lim)) ∧ (s.foreignFrame h = false) ∧ (s.kgenOk h.kgen = true) ∧ (h.fcnt < 2 ^ 31) ∧ (p < s.air.ports.length) := by decide +kernel

/-- A state and operands that meet the hypotheses of a clause of `Obligations.AirPorts`. -/
theorem test_wit_AirPorts_10 : let s : State := State.reset; let p : Nat := 3; let len : Nat := 32; (p < 4) ∧ (8 ≤ len) ∧ (len ≤ 32) ∧ (s.get F.SPI_TXN_BUSY p = 0) ∧ (s.st ⟨.airport, p⟩ ≠ stFault) ∧ (s.st ⟨.airport, p⟩ ≠ stIsolated) ∧ (p < s.air.ports.length) := by decide +kernel

/-- A state and operands that meet the hypotheses of a clause of `Obligations.AirPorts`. -/
theorem test_wit_AirPorts_11 : let s : State := ((State.reset.set F.SPI_TXN_LEN 8 1).set F.ROOT_STATUS_ROOT_LOCK 1).setPort 1 { spi := [1] }; let p : Nat := 1; let miso : Nat := 0x1FF; let rest : List Nat := []; (p < 4) ∧ ((s.port p).spi = 1 :: rest) ∧ (s.spiReady p 1 = true) ∧ (p < s.air.ports.length) := by decide +kernel

/-- A state and operands that meet the hypotheses of a clause of `Obligations.AirPorts`. -/
theorem test_wit_AirPorts_12 : let s : State := ((((up [⟨.airport, 1⟩]).set F.ROOT_STATUS_ROOT_LOCK 1)).set F.SPI_CFG_HEALTH_EN 1 1).set F.PORT_STATUS_HEALTH_RUN 2 1; let p : Nat := 1; let miso : Nat := 0; (p < 4) ∧ (s.isOn .airport p = true) ∧ (s.get F.SPI_CFG_HEALTH_EN p = 1) ∧ (s.get F.ROOT_STATUS_ROOT_LOCK = 1) ∧ ((s.port p).healthAt ≤ s.fleetNs) ∧ ((s.port p).spi = []) ∧ (s.healthOk p (miso % 2 ^ s.get F.SPI_CFG_HEALTH_LEN p) = true) := by decide +kernel

/-- A state and operands that meet the hypotheses of a clause of `Obligations.AirPorts`. -/
theorem test_wit_AirPorts_13 : let s : State := (((((up [⟨.airport, 1⟩]).set F.ROOT_STATUS_ROOT_LOCK 1)).set F.SPI_CFG_HEALTH_EN 1 1).set F.PORT_STATUS_HEALTH_RUN 2 1).set F.HEALTH_EXPECT 1 1; let p : Nat := 1; let miso : Nat := 0; (p < 4) ∧ (s.isOn .airport p = true) ∧ (s.get F.SPI_CFG_HEALTH_EN p = 1) ∧ (s.get F.ROOT_STATUS_ROOT_LOCK = 1) ∧ ((s.port p).healthAt ≤ s.fleetNs) ∧ ((s.port p).spi = []) ∧ (s.healthOk p (miso % 2 ^ s.get F.SPI_CFG_HEALTH_LEN p) = false) ∧ (2 ≤ s.get F.PORT_STATUS_HEALTH_RUN p) := by decide +kernel

/-- A state and operands that meet the hypotheses of a clause of `Obligations.AirPorts`. -/
theorem test_wit_AirPorts_14 : let s : State := { (State.reset.setP ⟨.airport, 2⟩ F.STATE 1).setPort 2 { step := 4, rxAt := 0 } with now := ms 1 }; let p : Nat := 2; (p < 4) ∧ (s.st ⟨.airport, p⟩ = stStarting) ∧ ((s.port p).step = 4) ∧ (s.get F.PORT_STATUS_RX_LOCK p = 0) ∧ ((s.port p).rxAt + ms 1 ≤ s.now) := by decide +kernel

/-- A state and operands that meet the hypotheses of a clause of `Obligations.AirPorts`. -/
theorem test_wit_AirPorts_15 : let s : State := let s := up [⟨.airport, 2⟩]; { s with hg := { s.hg with bursts := [none, none, some ⟨2, 0, none, 0, none⟩, none] } }; let p : Nat := 2; (p < 4) ∧ ((nth none s.hg.bursts p).isSome = true) ∧ (s.get F.PORT_STATUS_TX_SRC p = 0) ∧ ((s.port p).txEnd ≤ s.now) ∧ (s.isOn .airport p = true) ∧ (p < s.air.ports.length) := by decide +kernel

/-- A state and operands that meet the hypotheses of a clause of `Obligations.AirPorts`. -/
theorem test_wit_AirPorts_16 : let s : State := (up [⟨.airport, 3⟩, ⟨.sluice, 3⟩]).setP ⟨.sluice, 3⟩ F.STATE_CELLS_LIVE 1; let p : Nat := 3; (p < 4) ∧ (s.svc p = 0) ∧ (s.svcReady p = true) ∧ (s.svcClash p = false) ∧ (p < s.air.ports.length) := by decide +kernel

/-- A state and operands that meet the hypotheses of a clause of `Obligations.AirPorts`. -/
theorem test_wit_AirPorts_17 : let s : State := ((up [⟨.airport, 3⟩, ⟨.sluice, 3⟩]).set F.PORT_STATUS_SVC 2 3).set F.PORT_INFO_BEACON_MISS 3 3; let p : Nat := 3; (p < 4) ∧ (s.svcCause p = true) ∧ ((s.svc p = 1 ∨ s.svc p = 2)) := by decide +kernel

/-- A state and operands that meet the hypotheses of a clause of `Obligations.AirPorts`. -/
theorem test_wit_AirPorts_18 : let s : State := ((up [⟨.airport, 3⟩, ⟨.sluice, 3⟩]).setP ⟨.sluice, 3⟩ F.STATE_CELLS_LIVE 1).set F.PORT_STATUS_SVC 3 3; let p : Nat := 3; (p < 4) ∧ (s.svc p = 3) ∧ (s.svcReady p = true) ∧ (s.svcClash p = false) := by decide +kernel

/-- A state and operands that meet the hypotheses of a clause of `Obligations.AirPorts`. -/
theorem test_wit_AirPorts_19 : let s : State := (up []).set F.PORT_STATUS_SVC 3 0; let p : Nat := 0; (p < 4) ∧ (s.svc p = 3) ∧ (s.svcReady p = false) := by decide +kernel

/-- A state and operands that meet the hypotheses of a clause of `Obligations.SluiceMac`. -/
theorem test_wit_SluiceMac_1 : let s : State := { (up [⟨.airport, 0⟩, ⟨.sluice, 0⟩]).set F.SFN 0xFFFFFFFF with ft := 10 ^ 9 * 2 ^ 32 }; (s.air.nextB ≤ s.fleetNs) ∧ ((s.air.curB = 0 ∨ s.air.nextB ≠ s.air.curB)) ∧ (s.pair.lastDelta = false) ∧ (s.get F.SWITCH_SFN = 0) := by decide +kernel

/-- A state and operands that meet the hypotheses of a clause of `Obligations.SluiceMac`. -/
theorem test_wit_SluiceMac_2 : let p : Nat := 1; let s : State := { ((((up [⟨.airport, 1⟩, ⟨.sluice, 1⟩]).set F.PORT_STATUS_SVC 1 1).set F.SFN 9).set F.SWAP_SFN 10 1).set F.BANK_CTRL_ARMED 1 1 with ft := 10 ^ 9 * 2 ^ 32 }; (p < 4) ∧ (s.air.nextB ≤ s.fleetNs) ∧ ((s.air.curB = 0 ∨ s.air.nextB ≠ s.air.curB)) ∧ (s.pair.lastDelta = false) ∧ (s.get F.SWITCH_SFN = 0) ∧ (s.get F.BANK_CTRL_ARMED p = 1) ∧ (s.get F.SWAP_SFN p = (s.get F.SFN + 1) % 2 ^ 32) ∧ ((∀ q ∈ List.range 4, s.svc q ≠ 2)) := by decide +kernel

/-- A state and operands that meet the hypotheses of a clause of `Obligations.SluiceMac`. -/
theorem test_wit_SluiceMac_3 : let p : Nat := 2; let tg : Nat := 0x80; let q : Nat := 0; let data : Nat := 0; let bank : Nat := 1; let key : List Nat := []; let s : State := ((up [⟨.sluice, 2⟩]).setTe ⟨.sluice, 2⟩ 1 2047 (2 ^ 34)).setTe ⟨.sluice, 2⟩ 0 5 (2 ^ 34); (s.gated = false) ∧ (p < 4) ∧ (s.isOn .sluice p = true) ∧ (0x80 ≤ tg) ∧ (tg ≤ 0xBF) ∧ (s.tagBusy tg = false) ∧ (bank < 2) ∧ (s.activeBank p ≠ bank) ∧ (s.get F.BANK_CTRL_ARMED p = 0) := by decide +kernel

/-- A state and operands that meet the hypotheses of a clause of `Obligations.SluiceMac`. -/
theorem test_wit_SluiceMac_4 : let p : Nat := 2; let tg : Nat := 0x80; let q : Nat := 0; let data : Nat := 0; let key : List Nat := []; let s : State := up [⟨.sluice, 2⟩]; (s.gated = false) ∧ (p < 4) ∧ (s.isOn .sluice p = true) ∧ (0x80 ≤ tg) ∧ (tg ≤ 0xBF) ∧ (s.tagBusy tg = false) ∧ (s.activeBank p < 2) := by decide +kernel

/-- A state and operands that meet the hypotheses of a clause of `Obligations.SluiceMac`. -/
theorem test_wit_SluiceMac_5 : let p : Nat := 0; let s : State := (((up [⟨.sluice, 0⟩]).set F.PORT_STATUS_SVC 2 0).set F.SWAP_SFN 10 0).setTe ⟨.sluice, 0⟩ 1 0 (2 ^ 34 + 12 * 2 ^ 11); (p < 4) ∧ (s.get F.BANK_CTRL_ARMED p = 0) ∧ ((∀ c ∈ s.armChecks p, c.2 = none)) ∧ (s.svc p ≠ 0) := by decide +kernel

/-- A state and operands that meet the hypotheses of a clause of `Obligations.SluiceMac`. -/
theorem test_wit_SluiceMac_6 : let p : Nat := 3; let s : State := (up [⟨.sluice, 3⟩]).setTe ⟨.sluice, 3⟩ 1 0 (2 ^ 34 + 12 * 2 ^ 11); (p < 4) ∧ (s.get F.BANK_CTRL_ARMED p = 0) ∧ ((∀ c ∈ s.armChecks p, c.2 = none)) ∧ (s.svc p = 0) := by decide +kernel

/-- A state and operands that meet the hypotheses of a clause of `Obligations.SluiceMac`. -/
theorem test_wit_SluiceMac_7 : let p : Nat := 3; let code : Nat := 2; let idx : Nat := 7; let s : State := ((up [⟨.sluice, 3⟩]).setTe ⟨.sluice, 3⟩ 1 0 (2 ^ 34 + 12 * 2 ^ 11)).setTe ⟨.sluice, 3⟩ 1 7 (2 ^ 34 + 11 + 4 * 2 ^ 11 + 6 * 2 ^ 19); let code : Nat := ((s.armChecks 3).find? (fun c => c.2.isSome)).elim 0 (·.1); let idx : Nat := ((s.armChecks 3).find? (fun c => c.2.isSome)).elim 0 (fun c => c.2.getD 0); (p < 4) ∧ (s.get F.BANK_CTRL_ARMED p = 0) ∧ ((s.armChecks p).find? (fun c => c.2.isSome) = some (code, some idx)) ∧ (code < 16) ∧ (idx < 2048) := by decide +kernel

/-- A state and operands that meet the hypotheses of a clause of `Obligations.SluiceMac`. -/
theorem test_wit_SluiceMac_8 : let p : Nat := 1; let s : State := let s := (up [⟨.sluice, 1⟩]).set F.BANK_CTRL_ARMED 1 1; { s with air := { s.air with downq := [{ typ := 3, body := [], assign := some (256 + nextEpochOf (s.get F.BANK_HDR_EPOCH 1 0)) }, { typ := 3, body := [1] }] } }; (p < 4) ∧ (s.get F.BANK_CTRL_ARMED p = 1) := by decide +kernel

/-- A state and operands that meet the hypotheses of a clause of `Obligations.SluiceMac`. -/
theorem test_wit_SluiceMac_9 : let p : Nat := 0; let f : RxFrame := ⟨⟨2, 2, false, 0x81FC, 3, 5, none, 9, 1, 0, []⟩, true, [], 40, 1000, 2000, 100000⟩; let rest : List RxFrame := []; let s : State := let s := ((up [⟨.airport, 0⟩, ⟨.sluice, 0⟩, ⟨.frameSec, 0⟩]).set F.SEC_STATUS_KGEN_CUR 1).mset 3 RG.rstate 1; (s.set F.SVC_STATUS_LEVEL 3).setPort 0 { rxq := [f] }; (s.receives p = true) ∧ ((s.port p).rxq = f :: rest) ∧ (f.hdr.typ = 2) ∧ (f.hdr.relay = none) ∧ (p < s.air.ports.length) ∧ ((s.upOf f).m < 512) ∧ (s.mget (s.upOf f).m RG.rstate ≠ 0) ∧ (s.kgenOk f.hdr.kgen = true) ∧ (f.hdr.fcnt < 2 ^ 31) ∧ (freshness (s.linkUnder (s.upOf f).m f.hdr.kgen) f.hdr.fcnt f.hdr.seq = .deliver) ∧ (f.body.length < 32) := by decide +kernel

/-- A state and operands that meet the hypotheses of a clause of `Obligations.SluiceMac`. -/
theorem test_wit_SluiceMac_10 : let p : Nat := 0; let f : RxFrame := ⟨⟨2, 2, false, 0x81FC, 3, 5, none, 9, 1, 0, []⟩, true, [], 40, 1000, 2000, 100000⟩; let rest : List RxFrame := []; let s : State := let s := (((up [⟨.airport, 0⟩, ⟨.sluice, 0⟩, ⟨.frameSec, 0⟩]).set F.SEC_STATUS_KGEN_CUR 1).mset 3 RG.rstate 1).setLink 3 (LK.fcnt.set 0 9); (s.set F.SVC_STATUS_LEVEL 3).setPort 0 { rxq := [f] }; (s.receives p = true) ∧ ((s.port p).rxq = f :: rest) ∧ (f.hdr.typ = 2) ∧ (f.hdr.relay = none) ∧ (p < s.air.ports.length) ∧ ((s.upOf f).m < 512) ∧ (s.mget (s.upOf f).m RG.rstate ≠ 0) ∧ (s.kgenOk f.hdr.kgen = true) ∧ (f.hdr.fcnt < 2 ^ 31) ∧ (freshness (s.linkUnder (s.upOf f).m f.hdr.kgen) f.hdr.fcnt f.hdr.seq = .replay) := by decide +kernel

/-- A state and operands that meet the hypotheses of a clause of `Obligations.SluiceMac`. -/
theorem test_wit_SluiceMac_11 : let p : Nat := 1; let d : DownFrame := { typ := 3, body := [], waiting := true, sentPort := 1, seq := 77, dst := 0x8003, member := 3, assign := some 257, endAt := 900 }; let f : RxFrame := ⟨⟨1, 2, false, 0x81FD, 0x8003, 77, none, 0, 0, 0, []⟩, true, [], 40, 1000, 2000, 0⟩; let rest : List RxFrame := []; let s : State := let s := ((up [⟨.airport, 1⟩, ⟨.sluice, 1⟩, ⟨.frameSec, 0⟩]).set F.SVC_STATUS_LEVEL 3).setLink 3 (LK.pend.set 0 1); { s with air := { s.air with downq := [d] } }.setPort 1 { rxq := [f] }; (s.receives p = true) ∧ ((s.port p).rxq = f :: rest) ∧ (f.hdr.typ = 1) ∧ (p < s.air.ports.length) ∧ (s.air.downq.find? (f.acks p) = some d) := by decide +kernel

/-- A state and operands that meet the hypotheses of a clause of `Obligations.SluiceMac`. -/
theorem test_wit_SluiceMac_12 : let p : Nat := 1; let seq : Nat := 77; let f : DownFrame := { typ := 3, body := [], waiting := true, sentPort := 1, seq := 77, tries := 3 }; let s : State := let s := up []; { s with ft := 56000 * 2 ^ 32, air := { s.air with downq := [f] } }; (s.air.downq.find? (fun g => g.matches_ p seq) = some f) ∧ (f.endAt + 56000 ≤ s.fleetNs) ∧ (((s.port p).rxq.any fun a => a.acks p f) = false) ∧ (f.tries ≤ 3) := by decide +kernel

/-- A state and operands that meet the hypotheses of a clause of `Obligations.SluiceMac`. -/
theorem test_wit_SluiceMac_13 : let p : Nat := 1; let seq : Nat := 77; let f : DownFrame := { typ := 3, body := [], waiting := true, sentPort := 1, seq := 77, tries := 4 }; let s : State := let s := up []; { s with ft := 56000 * 2 ^ 32, air := { s.air with downq := [f] } }; (s.air.downq.find? (fun g => g.matches_ p seq) = some f) ∧ (f.endAt + 56000 ≤ s.fleetNs) ∧ (((s.port p).rxq.any fun a => a.acks p f) = false) ∧ (3 < f.tries) := by decide +kernel

/-- A state and operands that meet the hypotheses of a clause of `Obligations.SluiceMac`. -/
theorem test_wit_SluiceMac_14 : let p : Nat := 0; let f : RxFrame := ⟨⟨6, 2, false, 0x81FC, 0x81FB, 4, none, 2 ^ 31 + 5 * 2 ^ 19 + 9, 1, 0, []⟩, true, toBytes 8 0x1234 ++ [0, 0, 7, 1, 0, 0], 50, 1000, 2000, 400000⟩; let rest : List RxFrame := []; let s : State := let s := ((up [⟨.airport, 0⟩, ⟨.sluice, 0⟩, ⟨.frameSec, 0⟩, ⟨.registry, 0⟩]).set F.SEC_STATUS_KGEN_CUR 1).setTe ⟨.frameSec, 0⟩ 0 5 (AU.flags.set 0x1234 3); (s.set F.SVC_STATUS_LEVEL 3).setPort 0 { rxq := [f] }; let y : JoinIn := s.joinOf f; (s.receives p = true) ∧ ((s.port p).rxq = f :: rest) ∧ (f.hdr.typ = 6) ∧ (s.foreignFrame f.hdr = false) ∧ (p < s.air.ports.length) ∧ (y = s.joinOf f) ∧ (bit (AU.flags.get (s.auth (y.hint % 4096))) 0 = true) ∧ (bit (AU.flags.get (s.auth (y.hint % 4096))) 1 = true) ∧ (y.kgen = s.kgen) ∧ (s.kgen ≠ 0) ∧ (y.micOk = true) ∧ (y.id = AU.id.get (s.auth (y.hint % 4096))) ∧ (y.kind ≤ 2) ∧ (AU.last.get (s.auth (y.hint % 4096)) < y.jcnt % 2 ^ 19) ∧ (s.offDuty = false) := by decide +kernel

/-- A state and operands that meet the hypotheses of a clause of `Obligations.SluiceMac`. -/
theorem test_wit_SluiceMac_15 : let p : Nat := 0; let f : RxFrame := ⟨⟨6, 2, false, 0x81FC, 0x81FB, 4, none, 2 ^ 31 + 5 * 2 ^ 19 + 9, 1, 0, []⟩, true, toBytes 8 0x1235 ++ [0, 0, 7, 1, 0, 0], 50, 1000, 2000, 400000⟩; let rest : List RxFrame := []; let s : State := let s := ((up [⟨.airport, 0⟩, ⟨.sluice, 0⟩, ⟨.frameSec, 0⟩, ⟨.registry, 0⟩]).set F.SEC_STATUS_KGEN_CUR 1).setTe ⟨.frameSec, 0⟩ 0 5 (AU.flags.set 0x1234 3); (s.set F.SVC_STATUS_LEVEL 3).setPort 0 { rxq := [f] }; let y : JoinIn := s.joinOf f; (s.receives p = true) ∧ ((s.port p).rxq = f :: rest) ∧ (f.hdr.typ = 6) ∧ (s.foreignFrame f.hdr = false) ∧ (p < s.air.ports.length) ∧ (y = s.joinOf f) ∧ (bit (AU.flags.get (s.auth (y.hint % 4096))) 0 = true) ∧ (s.kgenOk y.kgen = true) ∧ (y.micOk = true) ∧ (y.id ≠ AU.id.get (s.auth (y.hint % 4096))) := by decide +kernel

/-- A state and operands that meet the hypotheses of a clause of `Obligations.SluiceMac`. -/
theorem test_wit_SluiceMac_16 : let p : Nat := 1; let i : Nat := 0; let e : Nat := 2 ^ 34 + 16 * 2 ^ 11 + 2 ^ 19; let s : State := let s := (((((up [⟨.airport, 1⟩, ⟨.sluice, 1⟩, ⟨.frameSec, 0⟩]).set F.SEC_STATUS_KGEN_CUR 1).set F.PORT_STATUS_SVC 2 1).set F.ROOT_STATUS_ROOT_LOCK 1).set F.SVC_STATUS_LEVEL 2).mset 3 RG.rstate 1; (s.setTe ⟨.sluice, 1⟩ 0 0 e).setTe ⟨.sluice, 1⟩ 0 1 (2 ^ 34 + 20 + 2 ^ 11 + 2 * 2 ^ 19 + 3 * 2 ^ 22); (s.entryDue p i 1 = some e) ∧ ((s.port p).down = none) ∧ (2 ≤ s.level) ∧ (s.groupMembers p (s.activeBank p) (slMember e / 64) ≠ []) ∧ (s.maySend p = true) ∧ (s.gateNow = true) ∧ (s.dbg.extest = false) ∧ (s.fleetNs + (s.portUs p (slRate e) (26 + (s.bundleBody p (slMember e / 64) e).length) + 10) * 1000 ≤ s.entryEnd e) ∧ (p < s.air.ports.length) := by decide +kernel

/-- A state and operands that meet the hypotheses of a clause of `Obligations.SluiceMac`. -/
theorem test_wit_SluiceMac_17 : let p : Nat := 1; let i : Nat := 0; let d : Nat := 0; let e : Nat := 2 ^ 34 + 16 * 2 ^ 11 + 2 ^ 19; let s : State := (((up [⟨.airport, 1⟩, ⟨.sluice, 1⟩]).set F.PORT_STATUS_SVC 2 1).setTe ⟨.sluice, 1⟩ 0 0 e).setPort 1 { down := some (0, 0) }; (s.entryDue p i 1 = some e) ∧ ((s.port p).down = some (i, d)) ∧ (d ≤ s.fleetNs) ∧ (s.hgHolds p = false) ∧ ((s.port p).txEnd ≤ s.now) ∧ (s.air.downq = []) ∧ (p < s.air.ports.length) := by decide +kernel

/-- A state and operands that meet the hypotheses of a clause of `Obligations.SluiceMac`. -/
theorem test_wit_SluiceMac_18 : let p : Nat := 1; let i : Nat := 0; let e : Nat := 2 ^ 34 + 16 * 2 ^ 11 + 2 ^ 19; let s : State := (((up [⟨.airport, 1⟩, ⟨.sluice, 1⟩]).set F.PORT_STATUS_SVC 2 1).set F.PORT_STATUS_TX_SRC 1 1).setTe ⟨.sluice, 1⟩ 0 0 e; (s.entryDue p i 1 = some e) ∧ ((s.port p).down = none) ∧ (s.hgHolds p = true) := by decide +kernel

/-- A state and operands that meet the hypotheses of a clause of `Obligations.SluiceMac`. -/
theorem test_wit_SluiceMac_19 : let p : Nat := 1; let i : Nat := 4; let m : Nat := 3; let s : State := let s := (((up [⟨.airport, 1⟩, ⟨.sluice, 1⟩]).set F.PORT_STATUS_SVC 2 1).setPort 1 { onAir := true }).mset 3 RG.rstate 1; { (s.setTe ⟨.sluice, 1⟩ 0 4 (2 ^ 34 + 2 ^ 11 + 2 * 2 ^ 19 + 3 * 2 ^ 22)).setLink 3 (LK.miss.set 0 2) with ft := 125000 * 2 ^ 32 }; (p < 4) ∧ (slValid (s.te ⟨.sluice, p⟩ (s.activeBank p) i) = true) ∧ (slKind (s.te ⟨.sluice, p⟩ (s.activeBank p) i) = 2) ∧ (s.svc p = 2) ∧ (s.isOn .sluice p = true) ∧ (s.offDuty = false) ∧ (s.entryEnd (s.te ⟨.sluice, p⟩ (s.activeBank p) i) ≤ s.fleetNs) ∧ (s.air.done.contains (p, i) = false) ∧ (m = slMember (s.te ⟨.sluice, p⟩ (s.activeBank p) i)) ∧ (s.entryVoid p (s.te ⟨.sluice, p⟩ (s.activeBank p) i) = false) ∧ (s.depthOf m < 2) ∧ (s.air.got.contains (p, m) = false) := by decide +kernel

/-- A state and operands that meet the hypotheses of a clause of `Obligations.RoutesAndRelaying`. -/
theorem test_wit_RoutesAndRelaying_1 : let p : Nat := 1; let i : Nat := 5; let f : RxFrame := ⟨⟨2, 2, false, 0x81FD, 7, 3, some ⟨0x81FD, 3, 5, 1, false, 1, 0⟩, 9, 1, 0, []⟩, true, [], 40, 1000, 2000, 100000⟩; let r : RelayHdr := ⟨0x81FD, 3, 5, 1, false, 1, 0⟩; let rest : List RxFrame := []; let s : State := let s := ((((up [⟨.airport, 1⟩, ⟨.sluice, 1⟩, ⟨.frameSec, 0⟩, ⟨.route, 0⟩]).set F.SEC_STATUS_KGEN_CUR 1).set F.RT_CFG_LEARN_EN 1).set F.SVC_STATUS_LEVEL 3).mset 3 RG.rstate 1; (s.setTe ⟨.route, 0⟩ 0 5 (RT.age.set (mkRoute (s.addrOf 3) 23 0 1 7 2 2 5 0) 9)).setPort 1 { rxq := [f] }; let y : RelayIn := s.relayOf f r; (s.receives p = true) ∧ ((s.port p).rxq = f :: rest) ∧ (f.hdr.typ = 2) ∧ (f.hdr.relay = some r) ∧ (p < s.air.ports.length) ∧ (y = s.relayOf f r) ∧ (y.prof ≠ 1) ∧ (y.zone = s.number) ∧ (y.up.m < 512) ∧ (s.mget y.up.m RG.rstate ≠ 0) ∧ (s.kgenOk y.up.kgen = true) ∧ (y.up.fcnt < 2 ^ 31) ∧ (freshness (s.linkUnder y.up.m y.up.kgen) y.up.fcnt y.up.seq = .deliver) ∧ (y.up.body.length < 32) ∧ (s.get F.RT_CFG_LEARN_EN = 1) ∧ (s.isOn .route = true) ∧ (s.offDuty = false) ∧ (s.routeFind (s.addrOf y.up.m) 23 = some i) ∧ (RT.target.get (s.route i) = 0) ∧ (RT.port.get (s.route i) = p) ∧ (RT.next.get (s.route i) = y.hop) ∧ (RT.hops.get (s.route i) = y.hops + 1) := by decide +kernel

/-- A state and operands that meet the hypotheses of a clause of `Obligations.RoutesAndRelaying`. -/
theorem test_wit_RoutesAndRelaying_2 : let p : Nat := 1; let f : RxFrame := ⟨⟨2, 2, false, 0x81FD, 7, 3, some ⟨0x81FD, (5 * 2 ^ 9 + 3), 5, 1, false, 1, 0⟩, 9, 1, 0, []⟩, true, [], 40, 1000, 2000, 100000⟩; let r : RelayHdr := ⟨0x81FD, (5 * 2 ^ 9 + 3), 5, 1, false, 1, 0⟩; let rest : List RxFrame := []; let s : State := ((up [⟨.airport, 1⟩, ⟨.sluice, 1⟩, ⟨.frameSec, 0⟩]).set F.SVC_STATUS_LEVEL 3).setPort 1 { rxq := [f] }; let y : RelayIn := s.relayOf f r; (s.receives p = true) ∧ ((s.port p).rxq = f :: rest) ∧ (f.hdr.typ = 2) ∧ (f.hdr.relay = some r) ∧ (p < s.air.ports.length) ∧ (y = s.relayOf f r) ∧ (y.zone ≠ s.number) := by decide +kernel

/-- A state and operands that meet the hypotheses of a clause of `Obligations.RoutesAndRelaying`. -/
theorem test_wit_RoutesAndRelaying_3 : let s : State := { ((up [⟨.route, 0⟩]).setTe ⟨.route, 0⟩ 0 4095 (RT.age.set (mkRoute 77 32 0 1 7 2 2 5 0) 65535)).setTe ⟨.route, 0⟩ 0 3 (RT.static.set (mkRoute 78 32 0 1 7 2 2 5 0) 1) with ft := 10 ^ 9 * 2 ^ 32 }; (s.wf = true) ∧ (s.isOn .route = true) ∧ (s.offDuty = false) ∧ (s.rt.ageSec < s.fleetSec) := by decide +kernel

/-- A state and operands that meet the hypotheses of a clause of `Obligations.RoutesAndRelaying`. -/
theorem test_wit_RoutesAndRelaying_4 : let i : Nat := 4095; let s : State := let s := (up [⟨.route, 0⟩]).setTe ⟨.route, 0⟩ 0 4095 (RT.age.set (mkRoute 77 32 0 1 7 2 2 5 0) 65535); { s with now := us 10, rt := { s.rt with scan := 4095 } }; (s.isOn .route = true) ∧ (s.rt.scanAt + us 10 ≤ s.now) ∧ (i = s.rt.scan % 4096) ∧ (RT.plen.get (s.route i) ≠ 0) ∧ (RT.static.get (s.route i) = 0) ∧ (s.get F.AGE_LIMIT ≤ RT.age.get (s.route i)) ∧ (s.rt.repack = none) := by decide +kernel

/-- A state and operands that meet the hypotheses of a clause of `Obligations.RoutesAndRelaying`. -/
theorem test_wit_RoutesAndRelaying_5 : let i : Nat := 0; let s : State := let s := ((((up [⟨.route, 0⟩, ⟨.dram, 0⟩]).set F.RT_CFG_MODE 1).set F.RT_STATUS_MODE_NOW 1).set F.RT_CFG_REPAIR_EN 1).set F.PART_SIZE_SIZE 1 0 1; let s := (s.set F.SHADOW_BASE (s.get F.PART_BASE_BASE 0 1 * 16 + 1)).setTe ⟨.route, 0⟩ 0 0 (RT.static.set (mkRoute 78 32 0 1 7 2 2 5 0) 1); { s with now := us 10 }; (s.isOn .route = true) ∧ (s.rt.scanAt + us 10 ≤ s.now) ∧ (i = s.rt.scan % 4096) ∧ (RT.plen.get (s.route i) = 0 ∨ RT.static.get (s.route i) ≠ 0 ∨ RT.age.get (s.route i) < s.get F.AGE_LIMIT) ∧ (s.shadowed = true) ∧ (s.get F.RT_STATUS_MODE_NOW = 1) ∧ (s.get F.RT_CFG_REPAIR_EN = 1) ∧ (RT.age.set (s.route i) 0 ≠ RT.age.set (s.shadow i) 0) := by decide +kernel

/-- A state and operands that meet the hypotheses of a clause of `Obligations.RoutesAndRelaying`. -/
theorem test_wit_RoutesAndRelaying_6 : let tg : Nat := 0x80; let q : Nat := 0; let data : Nat := 0; let key : List Nat := []; let s : State := up [⟨.route, 0⟩]; (s.gated = false) ∧ (s.isOn .route = true) ∧ (0x80 ≤ tg) ∧ (tg ≤ 0xBF) ∧ (s.tagBusy tg = false) ∧ (s.rt.repack = none) ∧ (((toBytes 32 data).any fun l => decide (32 < l)) = false) ∧ (s.repackFits (toBytes 32 data) = true) := by decide +kernel

/-- A state and operands that meet the hypotheses of a clause of `Obligations.RoutesAndRelaying`. -/
theorem test_wit_RoutesAndRelaying_7 : let tg : Nat := 0x80; let q : Nat := 0; let data : Nat := 0; let key : List Nat := []; let s : State := (up [⟨.route, 0⟩]).setTe ⟨.route, 0⟩ 0 3 (RT.static.set (mkRoute 78 32 0 1 7 2 2 5 0) 1); (s.gated = false) ∧ (s.isOn .route = true) ∧ (0x80 ≤ tg) ∧ (tg ≤ 0xBF) ∧ (s.tagBusy tg = false) ∧ (s.rt.repack = none) ∧ (((toBytes 32 data).any fun l => decide (32 < l)) = false) ∧ (s.repackFits (toBytes 32 data) = false) := by decide +kernel

/-- A state and operands that meet the hypotheses of a clause of `Obligations.RoutesAndRelaying`. -/
theorem test_wit_RoutesAndRelaying_8 : let lens : List Nat := toBytes 32 0; let h : Held := ⟨.tag .sup 0x80 0 [] 0, ⟨.route, 0⟩, 8, 0, 0, [], 0, 0⟩; let s : State := let s := (up [⟨.route, 0⟩]).set F.RT_STATUS_REPACK_BUSY 1; { s with rt := { s.rt with repack := some (toBytes 32 0) }, held := [h, ⟨.page .host, ⟨.route, 0⟩, 1, 0, 4, [], 0, 0⟩, ⟨.page .host, ⟨.lease, 0⟩, 1, 0, 4, [], 0, 0⟩] }; (s.rt.repack = some lens) ∧ (h ∈ s.held) ∧ (h.page = ⟨.route, 0⟩) ∧ (h.opcode = 8) ∧ (toBytes 32 h.data = lens) := by decide +kernel

/-- A state and operands that meet the hypotheses of a clause of `Obligations.RoutesAndRelaying`. -/
theorem test_wit_RoutesAndRelaying_9 : let a : Nat := 0; let s : State := { up [⟨.route, 0⟩] with now := sec 1, rt := { State.reset.rt with startAt := some 0 } }; (s.rt.startAt = some a) ∧ (a + sec 1 ≤ s.now) := by decide +kernel

/-- A state and operands that meet the hypotheses of a clause of `Obligations.RoutesAndRelaying`. -/
theorem test_wit_RoutesAndRelaying_10 : let s : State := (up [⟨.route, 0⟩]).mset 511 RG.rstate 1; let m : LearnMsg := ⟨5, s.addrOf 511, 1000, 3, 0, 0⟩; (s.isOn .route = true) ∧ (m.prev ≠ 0) ∧ (s.ownAddr m.prev = true) ∧ (s.mget (memberOf m.prev) RG.rstate ≠ 0) := by decide +kernel

/-- A state and operands that meet the hypotheses of a clause of `Obligations.RoutesAndRelaying`. -/
theorem test_wit_RoutesAndRelaying_11 : let s : State := up [⟨.route, 0⟩]; let m : LearnMsg := ⟨5, 0, 1000, 3, 0, 0⟩; (s.isOn .route = true) ∧ (m.prev = 0 ∨ s.ownAddr m.prev = false) := by decide +kernel

/-- A state and operands that meet the hypotheses of a clause of `Obligations.FurrowRequests`. -/
theorem test_wit_FurrowRequests_1 : let tg : Nat := 0x80; let q : Nat := 0; let h : Nat := 0; let data : Nat := 2 ^ 112; let key : List Nat := []; let s : State := up [⟨.lease, 0⟩]; (s.gated = false) ∧ (s.isOn .lease = true) ∧ (0x80 ≤ tg) ∧ (tg ≤ 0xBF) ∧ (s.tagBusy tg = false) ∧ (s.get F.LEASE_STATUS_REBASING = 0) ∧ (s.ls.builds.length < 64) ∧ (1 ≤ bits data 112 8) ∧ (bits data 112 8 ≤ 64) ∧ (bits data 80 32 < 1000000000) ∧ (bits data 128 8 < 16) ∧ (bits data 136 8 < 2) ∧ (lowestFree (s.ls.builds.map (·.handle)) 64 0 = some h) := by decide +kernel

/-- A state and operands that meet the hypotheses of a clause of `Obligations.FurrowRequests`. -/
theorem test_wit_FurrowRequests_2 : let tg : Nat := 0x80; let q : Nat := 0; let data : Nat := 0; let key : List Nat := []; let s : State := up [⟨.lease, 0⟩]; (s.gated = false) ∧ (s.isOn .lease = true) ∧ (0x80 ≤ tg) ∧ (tg ≤ 0xBF) ∧ (s.tagBusy tg = false) ∧ (s.get F.LEASE_STATUS_REBASING = 0) ∧ (s.ls.builds.length < 64) ∧ (bits data 112 8 = 0) := by decide +kernel

/-- A state and operands that meet the hypotheses of a clause of `Obligations.FurrowRequests`. -/
theorem test_wit_FurrowRequests_3 : let tg : Nat := 0x80; let q : Nat := 0; let data : Nat := 7 + 2 ^ 64 * 5; let k1 : Nat := 1; let b : Build := { handle := 3, src := .sup, owner := 9, base := 0, nstep := 2, epoch := 0, wclass := 0, rflags := 0, steps := [], at_ := 0 }; let s : State := let s := up [⟨.lease, 0⟩]; { s with ls := { s.ls with builds := [b] } }; (s.gated = false) ∧ (s.isOn .lease = true) ∧ (0x80 ≤ tg) ∧ (tg ≤ 0xBF) ∧ (s.tagBusy tg = false) ∧ (s.get F.LEASE_STATUS_REBASING = 0) ∧ (s.build (.tag .sup tg q [b.handle, k1] data) b.handle = some b) ∧ (bits k1 8 2 = 0) ∧ (k1 % 64 < b.nstep) ∧ (bits data 16 8 < 2) ∧ (bits data 64 32 ≠ 0) := by decide +kernel

/-- A state and operands that meet the hypotheses of a clause of `Obligations.FurrowRequests`. -/
theorem test_wit_FurrowRequests_4 : let tg : Nat := 0x80; let q : Nat := 0; let data : Nat := 0; let m : Nat := 3; let b : Build := { handle := 3, src := .sup, owner := 0x600, base := 10 ^ 9, nstep := 1, epoch := 0, wclass := 1, rflags := 0, steps := [(0, 1, 0, 0, 1000000)], at_ := 0 }; let l : List ReqStep := [⟨0, 1, 0, 10 ^ 9, 1000000⟩]; let s : State := let s := (((up [⟨.lease, 0⟩]).set F.SVC_STATUS_LEVEL 2).set F.TIME_STATUS_STEPPED 1).setTe ⟨.graph, 0⟩ 0 1 (SG.valid.set (SG.turnout.set (SG.width.set (SG.length.set (SG.vmax.set 0 2000) 1000) 15) 0xFFFF) 1); let s := (s.mset 3 RG.rstate 1).mset 3 RG.addr 0x600; { s with ls := { s.ls with builds := [b] } }; (s.wf = true) ∧ (s.gated = false) ∧ (s.isOn .lease = true) ∧ (0x80 ≤ tg) ∧ (tg ≤ 0xBF) ∧ (s.tagBusy tg = false) ∧ (s.get F.LEASE_STATUS_REBASING = 0) ∧ (s.build (.tag .sup tg q [b.handle] data) b.handle = some b) ∧ (s.held = []) ∧ (l = b.steps.map (fun x => ⟨x.1, x.2.1, x.2.2.1 % 2, b.base + x.2.2.2.1 * 1000, x.2.2.2.2⟩)) ∧ ((∀ r ∈ l, s.segZone r.seg = s.number)) ∧ (2 ≤ s.level) ∧ (s.get F.TIME_STATUS_STEPPED = 1) ∧ (b.epoch = s.get F.TIME_STATUS_EPOCH) ∧ (l.length = b.nstep) ∧ (s.memberAt b.owner = some m) ∧ (s.mget m RG.silent = 0) ∧ (s.checkPath l = none) ∧ (s.checkWindows l = none) ∧ (s.checkLocal b.wclass l = none) ∧ (s.get F.LEASE_STATUS_LOST = 0) ∧ (s.checkReserve b.owner l 0 = none) ∧ (b.owner < 2 ^ 32) := by decide +kernel

/-- A state and operands that meet the hypotheses of a clause of `Obligations.FurrowRequests`. -/
theorem test_wit_FurrowRequests_5 : let tg : Nat := 0x80; let q : Nat := 0; let data : Nat := 0; let b : Build := { handle := 3, src := .sup, owner := 0x600, base := 10 ^ 9, nstep := 1, epoch := 0, wclass := 1, rflags := 0, steps := [(0, 1, 0, 0, 1000000)], at_ := 0 }; let s : State := let s := up [⟨.lease, 0⟩]; { s with ls := { s.ls with builds := [b] } }; (s.gated = false) ∧ (s.isOn .lease = true) ∧ (0x80 ≤ tg) ∧ (tg ≤ 0xBF) ∧ (s.tagBusy tg = false) ∧ (s.get F.LEASE_STATUS_REBASING = 0) ∧ (s.build (.tag .sup tg q [b.handle] data) b.handle = some b) ∧ (s.held = []) ∧ (s.level < 2) := by decide +kernel

/-- A state and operands that meet the hypotheses of a clause of `Obligations.FurrowRequests`. -/
theorem test_wit_FurrowRequests_6 : let tg : Nat := 0x80; let q : Nat := 0; let data : Nat := 0; let p : Nat := 0; let h : Nat := 5; let s : State := ((up [⟨.lease, 0⟩]).setTe ⟨.lease, 0⟩ 0 5 (LE.state.set (LE.kind.set (LE.id.set 0 (2 ^ 18 + 5)) 1) 4)).setTe ⟨.lease, 0⟩ 0 6 (LE.startS.set (LE.head.set (LE.kind.set (LE.id.set 0 (2 ^ 18 + 6)) 2) 5) 9); (s.gated = false) ∧ (s.isOn .lease = true) ∧ (0x80 ≤ tg) ∧ (tg ≤ 0xBF) ∧ (s.tagBusy tg = false) ∧ (s.get F.LEASE_STATUS_REBASING = 0) ∧ (s.leById (LE.id.get (s.le h)) = some h) ∧ (LE.kind.get (s.le h) = 1) ∧ (LE.state.get (s.le h) ≠ hsPREPARING) ∧ (LE.state.get (s.le h) ≠ hsCOMMITTING) ∧ (LE.part.get (s.le h) = 0) := by decide +kernel

/-- A state and operands that meet the hypotheses of a clause of `Obligations.FurrowRequests`. -/
theorem test_wit_FurrowRequests_7 : let tg : Nat := 0x80; let q : Nat := 0; let data : Nat := 0; let p : Nat := 0; let h : Nat := 5; let s : State := (up [⟨.lease, 0⟩]).setTe ⟨.lease, 0⟩ 0 5 (LE.state.set (LE.kind.set (LE.id.set 0 (2 ^ 18 + 5)) 1) 2); (s.gated = false) ∧ (s.isOn .lease = true) ∧ (0x80 ≤ tg) ∧ (tg ≤ 0xBF) ∧ (s.tagBusy tg = false) ∧ (s.get F.LEASE_STATUS_REBASING = 0) ∧ (s.leById (LE.id.get (s.le h)) = some h) ∧ (LE.kind.get (s.le h) = 1) ∧ (LE.state.get (s.le h) = hsPREPARING) := by decide +kernel

/-- A state and operands that meet the hypotheses of a clause of `Obligations.FurrowRequests`. -/
theorem test_wit_FurrowRequests_8 : let q : Nat := 0; let i : Nat := 6; let src : Src := .bar2 4; let s : State := let s := ((up [⟨.lease, 0⟩]).setTe ⟨.lease, 0⟩ 0 5 (LE.state.set (LE.kind.set (LE.id.set 0 (2 ^ 18 + 5)) 1) 4)).setTe ⟨.lease, 0⟩ 0 6 (LE.startS.set (LE.head.set (LE.kind.set (LE.id.set 0 (2 ^ 18 + 6)) 3) 5) 9); s.setReg (Page.adr ⟨.lease, 0⟩ 0x210) (2 ^ 18 + 6); (s.gated = false) ∧ (s.isOn .lease = true) ∧ (s.reg (Page.tblStatus ⟨.lease, 0⟩) % 2 = 0) ∧ (s.get F.LEASE_STATUS_REBASING = 0) ∧ (src.slot = .host) ∧ (s.words ⟨.lease, 0⟩ 0x210 4 = [LE.id.get (s.le i), 0, 0, q]) ∧ (s.leById (LE.id.get (s.le i)) = some i) ∧ (LE.kind.get (s.le i) = 3) := by decide +kernel

/-- A state and operands that meet the hypotheses of a clause of `Obligations.FurrowRequests`. -/
theorem test_wit_FurrowRequests_9 : let tg : Nat := 0x80; let q : Nat := 0; let data : Nat := 0; let i : Nat := 6; let s : State := (up [⟨.lease, 0⟩]).setTe ⟨.lease, 0⟩ 0 6 (LE.startS.set (LE.head.set (LE.kind.set (LE.id.set 0 (2 ^ 18 + 6)) 3) 5) 9); (s.gated = false) ∧ (s.isOn .lease = true) ∧ (0x80 ≤ tg) ∧ (tg ≤ 0xBF) ∧ (s.tagBusy tg = false) ∧ (s.get F.LEASE_STATUS_REBASING = 0) ∧ (s.leById (LE.id.get (s.le i)) = some i) := by decide +kernel

/-- A state and operands that meet the hypotheses of a clause of `Obligations.FurrowRequests`. -/
theorem test_wit_FurrowRequests_10 : let tg : Nat := 0x80; let q : Nat := 0; let h : Nat := 3; let data : Nat := 0; let b : Build := { handle := 3, src := .sup, owner := 0x600, base := 10 ^ 9, nstep := 1, epoch := 0, wclass := 1, rflags := 0, steps := [], at_ := 0 }; let s : State := let s := up [⟨.lease, 0⟩]; { s with ls := { s.ls with builds := [b] } }; (s.gated = false) ∧ (s.isOn .lease = true) ∧ (0x80 ≤ tg) ∧ (tg ≤ 0xBF) ∧ (s.tagBusy tg = false) ∧ (s.get F.LEASE_STATUS_REBASING = 0) ∧ (s.build (.tag .sup tg q [h] data) h = some b) := by decide +kernel

/-- A state and operands that meet the hypotheses of a clause of `Obligations.FurrowRequests`. -/
theorem test_wit_FurrowRequests_11 : let b : Build := { handle := 3, src := .sup, owner := 0x600, base := 10 ^ 9, nstep := 1, epoch := 0, wclass := 1, rflags := 0, steps := [], at_ := 0 }; let s : State := let s := up [⟨.lease, 0⟩]; { s with now := sec 100, ls := { s.ls with builds := [b] } }; (s.ls.builds.find? (fun x => decide (x.handle = b.handle)) = some b) ∧ (s.buildLate b = true) ∧ (s.held = []) := by decide +kernel

/-- A state and operands that meet the hypotheses of a clause of `Obligations.CrossZoneReservation`. -/
theorem test_wit_CrossZoneReservation_1 : let s : State := up [⟨.lease, 0⟩]; let m : LeaseMsg := { typ := 1, epoch := 0, from_ := 5, xid := 77, owner := 9 }; let d : Deny := { code := 0x11 }; (s.isOn .lease = true) ∧ (s.part m.xid = none) ∧ ((s.takeSeq).prepareDeny m (rebuildMs m.arg s.fleetMs * 1000000) (m.steps.map fun x => ⟨x.pos, x.seg, x.dir, x.startS * 1000000000 + x.startNs, x.dur⟩) = some d) := by decide +kernel

/-- A state and operands that meet the hypotheses of a clause of `Obligations.CrossZoneReservation`. -/
theorem test_wit_CrossZoneReservation_2 : let m : LeaseMsg := { typ := 1, epoch := 0, from_ := 5, xid := 77, owner := 9, arg := 5000, steps := [⟨1, 0, 0, 1000000, 0, 1⟩] }; let s : State := (((up [⟨.lease, 0⟩]).set F.SVC_STATUS_LEVEL 2).set F.TIME_STATUS_STEPPED 1).setTe ⟨.graph, 0⟩ 0 1 (SG.valid.set (SG.turnout.set (SG.width.set (SG.length.set (SG.vmax.set 0 2000) 1000) 15) 0xFFFF) 1) |>.set F.LEASE_CFG_CROSS_EN 1; (s.wf = true) ∧ (s.isOn .lease = true) ∧ (s.part m.xid = none) ∧ (m.xid < 2 ^ 32) ∧ (m.steps ≠ []) ∧ ((s.takeSeq).prepareDeny m (rebuildMs m.arg s.fleetMs * 1000000) (m.steps.map fun x => ⟨x.pos, x.seg, x.dir, x.startS * 1000000000 + x.startNs, x.dur⟩) = none) := by decide +kernel

/-- A state and operands that meet the hypotheses of a clause of `Obligations.CrossZoneReservation`. -/
theorem test_wit_CrossZoneReservation_3 : let p : Part := ⟨77, none, 5, 9, 0, none, 0x11, 0⟩; let m : LeaseMsg := { typ := 1, epoch := 0, from_ := 5, xid := 77, owner := 9 }; let s : State := let s := up [⟨.lease, 0⟩]; { s with ls := { s.ls with parts := [p] } }; (s.isOn .lease = true) ∧ (s.part m.xid = some p) := by decide +kernel

/-- A state and operands that meet the hypotheses of a clause of `Obligations.CrossZoneReservation`. -/
theorem test_wit_CrossZoneReservation_4 : let m : LeaseMsg := { typ := 2, epoch := 0, from_ := 5, n := 0, xid := 77, owner := 9 }; let x : Xfer := { xid := 77, head := noHead, owner := 9, zones := [0, 5, 6], ask := [5, 6], yes := [0], acked := [], noted := [], deadline := 0, grantAt := none, steps := [], via := none, wclass := 0, ownGen := 0 }; let y : Nat := 6; let rest : List Nat := []; let s : State := let s := (up [⟨.lease, 0⟩]).set F.SVC_STATUS_LEVEL 2; { s with ls := { s.ls with xfers := [x] } }; (s.xfer m.xid = some x) ∧ (x.xid = m.xid) ∧ (x.ask = m.from_ :: y :: rest) ∧ (s.isOn .lease = true) ∧ (2 ≤ s.level) ∧ (m.n = 0) ∧ (y ≠ s.number) := by decide +kernel

/-- A state and operands that meet the hypotheses of a clause of `Obligations.CrossZoneReservation`. -/
theorem test_wit_CrossZoneReservation_5 : let m : LeaseMsg := { typ := 2, epoch := 0, from_ := 5, n := 0x19, xid := 77, owner := 9 }; let x : Xfer := { xid := 77, head := noHead, owner := 9, zones := [0, 5, 6], ask := [5, 6], yes := [0], acked := [], noted := [], deadline := 0, grantAt := none, steps := [], via := none, wclass := 0, ownGen := 0 }; let rest : List Nat := [6]; let s : State := let s := (up [⟨.lease, 0⟩]).set F.SVC_STATUS_LEVEL 2; { s with ls := { s.ls with xfers := [x] } }; (s.xfer m.xid = some x) ∧ (x.xid = m.xid) ∧ (x.ask = m.from_ :: rest) ∧ (s.isOn .lease = true) ∧ (2 ≤ s.level) ∧ (m.n ≠ 0) := by decide +kernel

/-- A state and operands that meet the hypotheses of a clause of `Obligations.CrossZoneReservation`. -/
theorem test_wit_CrossZoneReservation_6 : let h : Nat := 5; let m : LeaseMsg := { typ := 3, epoch := 0, from_ := 5, xid := 77, owner := 9 }; let s : State := let s := (up [⟨.lease, 0⟩]).setTe ⟨.lease, 0⟩ 0 5 (LE.xid.set (LE.state.set (LE.kind.set (LE.id.set 0 (2 ^ 18 + 5)) 1) 1) 77); { s with ls := { s.ls with parts := [⟨77, some 5, 5, 9, 0, none, 0, 0⟩] } }; (s.partIn m.xid hsPREPARED = some h) := by decide +kernel

/-- A state and operands that meet the hypotheses of a clause of `Obligations.CrossZoneReservation`. -/
theorem test_wit_CrossZoneReservation_7 : let g : Nat := 3; let m : LeaseMsg := { typ := 4, epoch := 0, from_ := 5, xid := 77, owner := 0x600 }; let s : State := let s := (up [⟨.lease, 0⟩]).setTe ⟨.lease, 0⟩ 0 5 (LE.xid.set (LE.state.set (LE.kind.set (LE.id.set 0 (2 ^ 18 + 5)) 1) 3) 77); let s := (s.mset 3 RG.rstate 1).mset 3 RG.addr 0x600; { s with ls := { s.ls with xfers := [{ xid := 77, head := 5, owner := 0x600, zones := [0, 5], ask := [], yes := [0, 5], acked := [], noted := [], deadline := 0, grantAt := none, steps := [], via := none, wclass := 0, ownGen := s.gen 3 }] } }; let x : Xfer := { xid := 77, head := 5, owner := 0x600, zones := [0, 5], ask := [], yes := [0, 5], acked := [], noted := [], deadline := 0, grantAt := none, steps := [], via := none, wclass := 0, ownGen := s.gen 3 }; (s.xfer m.xid = some x) ∧ (x.xid = m.xid) ∧ (x.head ≠ noHead) ∧ (LE.state.get (s.le x.head) = hsCOMMITTING) ∧ (m.n = 0) ∧ ((∀ z ∈ x.zones, z = s.number ∨ z = m.from_ ∨ z ∈ x.acked)) ∧ (s.memberAt x.owner = some g) ∧ (s.gen g = x.ownGen) := by decide +kernel

/-- A state and operands that meet the hypotheses of a clause of `Obligations.CrossZoneReservation`. -/
theorem test_wit_CrossZoneReservation_8 : let m : LeaseMsg := { typ := 4, epoch := 0, from_ := 5, n := 1, xid := 77, owner := 0x600 }; let x : Xfer := { xid := 77, head := 5, owner := 0x600, zones := [0, 5], ask := [], yes := [0, 5], acked := [], noted := [], deadline := 0, grantAt := none, steps := [], via := none, wclass := 0, ownGen := 0 }; let s : State := let s := (up [⟨.lease, 0⟩]).setTe ⟨.lease, 0⟩ 0 5 (LE.xid.set (LE.state.set (LE.kind.set (LE.id.set 0 (2 ^ 18 + 5)) 1) 3) 77); { s with ls := { s.ls with xfers := [x] } }; (s.xfer m.xid = some x) ∧ (x.xid = m.xid) ∧ (x.head ≠ noHead) ∧ (LE.state.get (s.le x.head) = hsCOMMITTING) ∧ (m.n ≠ 0) := by decide +kernel

/-- A state and operands that meet the hypotheses of a clause of `Obligations.CrossZoneReservation`. -/
theorem test_wit_CrossZoneReservation_9 : let g : Nat := 0; let m : LeaseMsg := { typ := 5, epoch := 0, from_ := 5, xid := 77, owner := 0x600 }; let x : Xfer := { xid := 77, head := 5, owner := 0x600, zones := [0, 5], ask := [], yes := [0, 5], acked := [5], noted := [], deadline := 0, grantAt := some 0, steps := [], via := none, wclass := 0, ownGen := 0 }; let s : State := let s := up [⟨.lease, 0⟩]; { s with ls := { s.ls with xfers := [x] } }; (s.xfer m.xid = some x) ∧ (x.xid = m.xid) ∧ (x.grantAt = some g) ∧ (LE.state.get (s.le x.head) ≠ hsGRANTED) := by decide +kernel

/-- A state and operands that meet the hypotheses of a clause of `Obligations.CrossZoneReservation`. -/
theorem test_wit_CrossZoneReservation_10 : let h : Nat := 5; let m : LeaseMsg := { typ := 6, epoch := 0, from_ := 5, xid := 77, owner := 9 }; let s : State := let s := ((up [⟨.lease, 0⟩]).setTe ⟨.lease, 0⟩ 0 5 (LE.xid.set (LE.state.set (LE.kind.set (LE.id.set 0 (2 ^ 18 + 5)) 1) 1) 77)).setTe ⟨.lease, 0⟩ 0 6 (LE.head.set (LE.kind.set (LE.id.set 0 (2 ^ 18 + 6)) 2) 5); { s with ls := { s.ls with parts := [⟨77, some 5, 5, 9, 0, none, 0, 0⟩] } }; (s.partIn m.xid hsPREPARED = some h) := by decide +kernel

/-- A state and operands that meet the hypotheses of a clause of `Obligations.CrossZoneReservation`. -/
theorem test_wit_CrossZoneReservation_11 : let h : Nat := 5; let i : Nat := 6; let p : Part := ⟨77, some 5, 5, 9, 0, none, 0, 0⟩; let m : LeaseMsg := { typ := 7, epoch := 0, from_ := 5, n := 0, xid := 77, owner := 9 }; let s : State := let s := ((up [⟨.lease, 0⟩]).setTe ⟨.lease, 0⟩ 0 5 (LE.xid.set (LE.state.set (LE.kind.set (LE.id.set 0 (2 ^ 18 + 5)) 1) 4) 77)).setTe ⟨.lease, 0⟩ 0 6 (LE.head.set (LE.kind.set (LE.id.set 0 (2 ^ 18 + 6)) 2) 5); { s with ls := { s.ls with parts := [p] } }; (s.part m.xid = some p) ∧ (p.head = some h) ∧ (i ∈ s.stepsOf h) ∧ (m.n ≤ LE.pos.get (s.le i)) := by decide +kernel

/-- A state and operands that meet the hypotheses of a clause of `Obligations.CrossZoneReservation`. -/
theorem test_wit_CrossZoneReservation_12 : let i : Nat := 6; let m : LeaseMsg := { typ := 8, epoch := 0, from_ := 5, n := 0, xid := 77, owner := 9, arg := 0 }; let s : State := let s := ((up [⟨.lease, 0⟩]).setTe ⟨.lease, 0⟩ 0 5 (LE.xid.set (LE.state.set (LE.kind.set (LE.id.set 0 (2 ^ 18 + 5)) 1) 4) 77)).setTe ⟨.lease, 0⟩ 0 6 (LE.head.set (LE.kind.set (LE.id.set 0 (2 ^ 18 + 6)) 2) 5); { s with ls := { s.ls with parts := [⟨77, some 5, 5, 9, 0, none, 0, 0⟩] } }; (s.partStep m.xid (m.arg % 64) = some i) := by decide +kernel

/-- A state and operands that meet the hypotheses of a clause of `Obligations.CrossZoneReservation`. -/
theorem test_wit_CrossZoneReservation_13 : let i : Nat := 6; let m : LeaseMsg := { typ := 9, epoch := 0, from_ := 5, n := 0, xid := 77, owner := 9, arg := 0 }; let s : State := let s := ((up [⟨.lease, 0⟩]).setTe ⟨.lease, 0⟩ 0 5 (LE.xid.set (LE.state.set (LE.kind.set (LE.id.set 0 (2 ^ 18 + 5)) 1) 4) 77)).setTe ⟨.lease, 0⟩ 0 6 (LE.head.set (LE.kind.set (LE.id.set 0 (2 ^ 18 + 6)) 2) 5); { s with ls := { s.ls with parts := [⟨77, some 5, 5, 9, 0, none, 0, 0⟩] } }; (s.partStep m.xid (m.arg % 64) = some i) ∧ (LE.kind.get (s.le i) = 2) := by decide +kernel

/-- A state and operands that meet the hypotheses of a clause of `Obligations.CrossZoneReservation`. -/
theorem test_wit_CrossZoneReservation_14 : let h : Nat := 5; let p : Part := ⟨77, some 5, 5, 9, 0, none, 0, 0⟩; let m : LeaseMsg := { typ := 10, epoch := 0, from_ := 5 }; let s : State := let s := ((up [⟨.lease, 0⟩]).setTe ⟨.lease, 0⟩ 0 5 (LE.xid.set (LE.state.set (LE.kind.set (LE.id.set 0 (2 ^ 18 + 5)) 1) 1) 77)).setTe ⟨.lease, 0⟩ 0 6 (LE.head.set (LE.kind.set (LE.id.set 0 (2 ^ 18 + 6)) 2) 5); { s with ls := { s.ls with parts := [p] } }; (s.ls.parts = [p]) ∧ (p.zone = m.from_) ∧ (p.head = some h) ∧ (LE.state.get (s.le h) = hsPREPARED) := by decide +kernel

/-- A state and operands that meet the hypotheses of a clause of `Obligations.CrossZoneReservation`. -/
theorem test_wit_CrossZoneReservation_15 : let x : Xfer := { xid := 77, head := noHead, owner := 9, zones := [0, 5, 6], ask := [5, 6], yes := [0], acked := [], noted := [], deadline := 0, grantAt := none, steps := [], via := none, wclass := 0, ownGen := 0 }; let s : State := let s := up [⟨.lease, 0⟩]; { s with ft := 10 ^ 9 * 2 ^ 32, ls := { s.ls with xfers := [x] } }; (s.xfer x.xid = some x) ∧ (x.grantAt = none) ∧ (x.deadline + s.period ≤ s.fleetNs) := by decide +kernel

/-- A state and operands that meet the hypotheses of a clause of `Obligations.CrossZoneReservation`. -/
theorem test_wit_CrossZoneReservation_16 : let h : Nat := 5; let xid : Nat := 77; let p : Part := ⟨77, some 5, 5, 9, 0, none, 0, 0⟩; let s : State := let s := ((up [⟨.lease, 0⟩]).setTe ⟨.lease, 0⟩ 0 5 (LE.xid.set (LE.state.set (LE.kind.set (LE.id.set 0 (2 ^ 18 + 5)) 1) 1) 77)).setTe ⟨.lease, 0⟩ 0 6 (LE.head.set (LE.kind.set (LE.id.set 0 (2 ^ 18 + 6)) 2) 5); { s with ls := { s.ls with parts := [p] } }; (s.xfer xid = none) ∧ (s.part xid = some p) ∧ (p.head = some h) ∧ (LE.state.get (s.le h) = hsPREPARED) ∧ (p.deadline ≤ s.fleetNs) := by decide +kernel

/-- A state and operands that meet the hypotheses of a clause of `Obligations.CrossZoneReservation`. -/
theorem test_wit_CrossZoneReservation_17 : let g : Nat := 0; let z : Nat := 5; let x : Xfer := { xid := 77, head := 5, owner := 0x600, zones := [0, 5], ask := [], yes := [0, 5], acked := [5], noted := [], deadline := 0, grantAt := some 0, steps := [], via := none, wclass := 0, ownGen := 0 }; let s : State := let s := ((up [⟨.lease, 0⟩]).setTe ⟨.lease, 0⟩ 0 5 (LE.xid.set (LE.state.set (LE.kind.set (LE.id.set 0 (2 ^ 18 + 5)) 1) 4) 77)).setTe ⟨.lease, 0⟩ 0 6 (LE.head.set (LE.kind.set (LE.id.set 0 (2 ^ 18 + 6)) 2) 5); { s with ft := 10 ^ 10 * 2 ^ 32, ls := { s.ls with xfers := [x] } }; (s.xfer x.xid = some x) ∧ (x.grantAt = some g) ∧ (g + 2 * s.period ≤ s.fleetNs) ∧ (z ∈ x.zones) ∧ (z ≠ s.number) ∧ (x.noted.contains z = false) := by decide +kernel

/-- A state and operands that meet the hypotheses of a clause of `Obligations.EstopDiscrepancy`. -/
theorem test_wit_EstopDiscrepancy_1 : let s : State := { State.reset with sup := { State.reset.sup with vddGate := true } }; let input : Nat := 1; let active : Bool := true; (input < 2) ∧ (s.sup.vddGate = true) ∧ (bit (s.get F.PINS_FILTERED) input ≠ active) ∧ (bit (s.get F.PINS_FILTERED) (1 - input) ≠ active) ∧ (s.hg.discAt = none) := by decide +kernel

/-- A state and operands that meet the hypotheses of a clause of `Obligations.EstopDiscrepancy`. -/
theorem test_wit_EstopDiscrepancy_2 : let s : State := { State.reset.set F.PINS_FILTERED 7 with sup := { State.reset.sup with vddGate := true } }; let input : Nat := 0; let active : Bool := false; (input < 2) ∧ (s.sup.vddGate = true) ∧ (bit (s.get F.PINS_FILTERED) input ≠ active) ∧ (bit (s.get F.PINS_FILTERED) (1 - input) ≠ active) ∧ (s.hg.discAt = none) := by decide +kernel

/-- A state and operands that meet the hypotheses of a clause of `Obligations.EstopDiscrepancy`. -/
theorem test_wit_EstopDiscrepancy_3 : let s : State := let s := State.reset.set F.PINS_FILTERED 1; { s with hg := { s.hg with discAt := some 0, discRaised := true }, sup := { s.sup with vddGate := true } }; let input : Nat := 0; let active : Bool := false; (input < 2) ∧ (s.sup.vddGate = true) ∧ (bit (s.get F.PINS_FILTERED) input ≠ active) ∧ (bit (s.get F.PINS_FILTERED) (1 - input) = active) := by decide +kernel

/-- A state and operands that meet the hypotheses of a clause of `Obligations.EstopDiscrepancy`. -/
theorem test_wit_EstopDiscrepancy_4 : let s : State := let s := State.reset.set F.HG_STATE_CLASS 0; { s with now := ms 20, hg := { s.hg with discAt := some 0 }, sup := { s.sup with vddGate := true } }; let a : Nat := 0; (s.hg.discAt = some a) ∧ (s.hg.discRaised = false) ∧ (a + ms 20 ≤ s.now) ∧ (s.get F.HG_CFG_ESTOP_CLASS ≠ 0) ∧ (s.sup.vddGate = true) := by decide +kernel

/-- A state and operands that meet the hypotheses of a clause of `Obligations.EstopDiscrepancy`. -/
theorem test_wit_EstopDiscrepancy_5 : let s : State := { State.reset with now := ms 21, hg := { State.reset.hg with discAt := some 5 }, sup := { State.reset.sup with vddGate := true } }; let a : Nat := 5; (s.hg.discAt = some a) ∧ (s.hg.discRaised = false) ∧ (a + ms 20 ≤ s.now) ∧ (s.get F.HG_CFG_ESTOP_CLASS ≠ 0) ∧ (s.sup.vddGate = true) := by decide +kernel

/-- A state and operands that meet the hypotheses of a clause of `Obligations.EstopDiscrepancy`. -/
theorem test_wit_EstopDiscrepancy_6 : let s : State := State.reset; (s.hg.discAt = none) := by decide +kernel

/-- A state and operands that meet the hypotheses of a clause of `Obligations.EstopDiscrepancy`. -/
theorem test_wit_EstopDiscrepancy_7 : let a : Nat := 0; let s : State := { State.reset with now := ms 20 - 1, hg := { State.reset.hg with discAt := some 0 } }; (s.hg.discAt = some a) ∧ (s.now < a + ms 20) := by decide +kernel

/-- A state and operands that meet the hypotheses of a clause of `Obligations.HeadgateStops`. -/
theorem test_wit_HeadgateStops_1 : let s : State := { State.reset.set F.HG_STATE_CLASS 0 with sup := { State.reset.sup with vddGate := true } }; let input : Nat := 2; (input < 3) ∧ (bit (s.get F.PINS_FILTERED) input = false) ∧ (s.sup.vddGate = true) ∧ ((input < 2 → s.get F.HG_CFG_ESTOP_CLASS ≠ 0)) := by decide +kernel

/-- A state and operands that meet the hypotheses of a clause of `Obligations.HeadgateStops`. -/
theorem test_wit_HeadgateStops_2 : let s : State := { State.reset.set F.HG_STATE_CLASS 0 with sup := { State.reset.sup with vddGate := true } }; let input : Nat := 0; (input < 3) ∧ (bit (s.get F.PINS_FILTERED) input = false) ∧ (s.sup.vddGate = true) ∧ ((input < 2 → s.get F.HG_CFG_ESTOP_CLASS ≠ 0)) := by decide +kernel

/-- A state and operands that meet the hypotheses of a clause of `Obligations.HeadgateStops`. -/
theorem test_wit_HeadgateStops_3 : let s : State := { State.reset.set F.HG_STATE_CLASS 1 with sup := { State.reset.sup with vddGate := true } }; let src : Src := .core 3; let req : Nat := 7; (s.jtagBars src pHG true = false) ∧ (s.sup.vddGate = true) ∧ (s.mayRaise src.stopReason = true) ∧ (s.get F.HG_STATE_CLASS < reqClass req) := by decide +kernel

/-- A state and operands that meet the hypotheses of a clause of `Obligations.HeadgateStops`. -/
theorem test_wit_HeadgateStops_4 : let s : State := { State.reset.set F.HG_STATE_CLASS 0 with sup := { State.reset.sup with vddGate := true } }; let src : Src := .host; let req : Nat := 1; (s.jtagBars src pHG true = false) ∧ (s.sup.vddGate = true) ∧ (s.mayRaise src.stopReason = true) ∧ (s.get F.HG_STATE_CLASS < reqClass req) := by decide +kernel

/-- A state and operands that meet the hypotheses of a clause of `Obligations.HeadgateStops`. -/
theorem test_wit_HeadgateStops_5 : let s : State := { State.reset with sup := { State.reset.sup with vddGate := true } }; let src : Src := .sup; let req : Nat := 2; (s.jtagBars src pHG true = false) ∧ (s.sup.vddGate = true) ∧ (s.mayRaise src.stopReason = true) ∧ (reqClass req ≠ 0) ∧ (reqClass req ≤ s.get F.HG_STATE_CLASS) := by decide +kernel

/-- A state and operands that meet the hypotheses of a clause of `Obligations.HeadgateStops`. -/
theorem test_wit_HeadgateStops_6 : let b : Burst := ⟨2, 4, some 16, 0, none⟩; let p : Nat := 1; let s : State := let s := ((up [⟨.airport, 1⟩]).set F.ROOT_STATUS_ROOT_LOCK 1).set F.PORT_STATUS_TX_SRC 1 1; { s with hg := { s.hg with key := some 5, bursts := [none, some ⟨2, 4, some 16, 0, none⟩, none, none] } }; (p < 4) ∧ (nth none s.hg.bursts p = some b) ∧ (s.get F.ROOT_STATUS_ROOT_LOCK ≠ 0) ∧ (s.get F.PORT_STATUS_TX_SRC p ≠ 0) ∧ (b.at_ ≤ s.slotNow) ∧ ((s.port p).txEnd ≤ s.now) ∧ (s.isOn .airport p = true) ∧ (s.hg.key.isSome = true) ∧ (s.gateNow = true) ∧ (s.dbg.extest = false) := by decide +kernel

/-- A state and operands that meet the hypotheses of a clause of `Obligations.HeadgateStops`. -/
theorem test_wit_HeadgateStops_7 : let b : Burst := ⟨3, 8, some 16, 0, none⟩; let p : Nat := 3; let s : State := let s := ((up [⟨.airport, 3⟩]).set F.ROOT_STATUS_ROOT_LOCK 1).set F.PORT_STATUS_TX_SRC 1 3; { s with hg := { s.hg with key := some 5, bursts := [none, none, none, some ⟨3, 8, some 16, 0, none⟩] } }; (p < 4) ∧ (nth none s.hg.bursts p = some b) ∧ (s.get F.ROOT_STATUS_ROOT_LOCK ≠ 0) ∧ (s.get F.PORT_STATUS_TX_SRC p ≠ 0) ∧ (b.at_ ≤ s.slotNow) ∧ ((s.port p).txEnd ≤ s.now) ∧ (s.isOn .airport p = true) ∧ (s.hg.key.isSome = true) ∧ (s.gateNow = true) ∧ (s.dbg.extest = false) := by decide +kernel

/-- A state and operands that meet the hypotheses of a clause of `Obligations.HeadgateStops`. -/
theorem test_wit_HeadgateStops_8 : let port : Nat := 2; let s : State := let s := (up [⟨.airport, 2⟩]).set F.ROOT_STATUS_ROOT_LOCK 1; { s with hg := { s.hg with key := some 5 } }; (port < 4) ∧ (s.get F.ROOT_STATUS_ROOT_LOCK ≠ 0) ∧ (s.get F.HG_STATE_CLASS ≠ 0) ∧ (s.isOn .airport port = true) ∧ (s.enginePosts port s.air.nextB = false) ∧ (s.hg.key.isSome = true) ∧ (s.air.nextB ≤ s.fleetNs + 200000) ∧ (s.fleetNs ≤ s.air.nextB + 10000) ∧ (nth true s.air.hgSent port = false) ∧ ((s.port port).txEnd ≤ s.momentOf s.air.nextB) ∧ (s.gateNow = true) ∧ (s.dbg.extest = false) := by decide +kernel

/-- A state and operands that meet the hypotheses of a clause of `Obligations.HeadgateStops`. -/
theorem test_wit_HeadgateStops_9 : let s : State := { State.reset with sup := { State.reset.sup with vddGate := true } }; let port : Nat := 0; let unit : Nat := 0; let mseq : Nat := 1; let m : StopMsg := ⟨3, 3, 1, 9, 2, 77⟩; ((s.canalHeard m.origin unit 0 mseq).1 = false) ∧ (s.hg.seen.contains (m.origin, m.seq) = false) ∧ (s.get F.HG_CFG_SITE_RX = 1) ∧ (m.cls ≠ 0) ∧ (m.cls < 4) ∧ (s.sup.vddGate = true) ∧ (s.mayRaise rsREMOTE = true) := by decide +kernel

/-- A state and operands that meet the hypotheses of a clause of `Obligations.HeadgateStops`. -/
theorem test_wit_HeadgateStops_10 : let s : State := { State.reset with hg := { State.reset.hg with seen := [(3, 9)] } }; let port : Nat := 0; let unit : Nat := 0; let mseq : Nat := 1; let m : StopMsg := ⟨3, 3, 1, 9, 2, 77⟩; (s.hg.seen.contains (m.origin, m.seq) = true) := by decide +kernel

/-- A state and operands that meet the hypotheses of a clause of `Obligations.HeadgateStops`. -/
theorem test_wit_HeadgateStops_11 : let s : State := let s := (up [⟨.keystore, 0⟩]).setTe ⟨.keystore, 0⟩ 0 8 3; { s with sup := { s.sup with vddGate := true } }; (s.isOn .keystore = true) ∧ (s.zoneKeyHeld = true) ∧ (s.sup.vddGate = true) := by decide +kernel

/-- A state and operands that meet the hypotheses of a clause of `Obligations.HeadgateStops`. -/
theorem test_wit_HeadgateStops_12 : let s : State := let s := State.reset.set F.HG_CFG_OUT_PULSE_EN 1; { s with now := ms 500, hg := { s.hg with outB := true, pulseAt := some 0 } }; let outB : Bool := true; (s.get F.HG_CFG_OUT_PULSE_EN = 1) ∧ ((if outB then s.hg.outB else s.hg.outA) = true) ∧ (s.pulseDue outB = true) := by decide +kernel

/-- A state and operands that meet the hypotheses of a clause of `Obligations.HeadgateStops`. -/
theorem test_wit_HeadgateStops_13 : let s : State := let s := State.reset.set F.HG_STATE_CLASS 0; { s with hg := { s.hg with outA := true, outB := true }, sup := { s.sup with vddGate := true } }; let outB : Bool := false; (s.sup.vddGate = true) := by decide +kernel

/-- A state and operands that meet the hypotheses of a clause of `Obligations.HeadgateStops`. -/
theorem test_wit_HeadgateStops_14 : let s : State := { State.reset with now := sec 10, sup := { State.reset.sup with vddGate := true } }; (s.hg.selfTestAt + sec 10 ≤ s.now) ∧ (s.sup.vddGate = true) := by decide +kernel

/-- A state and operands that meet the hypotheses of a clause of `Obligations.HeadgateStops`. -/
theorem test_wit_HeadgateStops_15 : let s : State := { State.reset with now := sec 10, sup := { State.reset.sup with vddGate := true } }; (s.hg.selfTestAt + sec 10 ≤ s.now) ∧ (s.sup.vddGate = true) := by decide +kernel

/-- A state and operands that meet the hypotheses of a clause of `Obligations.HeadgateStops`. -/
theorem test_wit_HeadgateStops_16 : let s : State := let s := State.reset; { s with hg := { s.hg with outA := true, key := some 1 } }; True := by decide +kernel

/-- A state and operands that meet the hypotheses of a clause of `Obligations.HeadgateResume`. -/
theorem test_wit_HeadgateResume_1 : let s : State := let s := State.reset.set F.SVC_STATUS_LEVEL 1; { s with now := sec 1, hg := { s.hg with estopClearAt := some 0 } }; (s.get F.HG_STATE_CLASS ≠ 0) ∧ (s.pinsClear = true) ∧ (s.get F.HG_STATE_GATE_FAULT ≠ 1) ∧ (s.get F.SVC_STATUS_LEVEL ≠ 0) := by decide +kernel

/-- A state and operands that meet the hypotheses of a clause of `Obligations.HeadgateResume`. -/
theorem test_wit_HeadgateResume_2 : let s : State := State.reset.set F.PINS_FILTERED 4; (s.get F.HG_STATE_CLASS ≠ 0) ∧ (s.pinsClear = false) := by decide +kernel

/-- A state and operands that meet the hypotheses of a clause of `Obligations.HeadgateResume`. -/
theorem test_wit_HeadgateResume_3 : let s : State := let s := State.reset; { s with now := sec 1, hg := { s.hg with estopClearAt := some 0 } }; (s.get F.HG_STATE_CLASS ≠ 0) ∧ (s.pinsClear = true) ∧ ((s.get F.HG_STATE_GATE_FAULT = 1 ∨ s.get F.SVC_STATUS_LEVEL = 0)) := by decide +kernel

/-- A state and operands that meet the hypotheses of a clause of `Obligations.HeadgateResume`. -/
theorem test_wit_HeadgateResume_4 : let a : Nat := sec 1; let s : State := let s := (State.reset.set F.SVC_STATUS_LEVEL 1).set F.HG_STATE_ARMED 1; { s with now := sec 1 + ms 4999, hg := { s.hg with estopClearAt := some 0, armedAt := some (sec 1) } }; (s.hg.armedAt = some a) ∧ (s.now < a + ms 5000) ∧ (s.get F.TIME_STATUS_STEP_PEND ≠ 1) ∧ (s.pinsClear = true) ∧ (s.get F.HG_STATE_GATE_FAULT ≠ 1) ∧ (s.get F.SVC_STATUS_LEVEL ≠ 0) ∧ (bit (s.get F.CAUSES_HELD) 10 = false) ∧ (s.get F.DBG_STATUS_LEVEL ≠ 2) := by decide +kernel

/-- A state and operands that meet the hypotheses of a clause of `Obligations.HeadgateResume`. -/
theorem test_wit_HeadgateResume_5 : let s : State := State.reset; let tag : Nat := 0; (s.hg.armedAt = none) := by decide +kernel

/-- A state and operands that meet the hypotheses of a clause of `Obligations.HeadgateResume`. -/
theorem test_wit_HeadgateResume_6 : let a : Nat := 7; let tag : Nat := 0; let s : State := { State.reset with now := ms 5000 + 7, hg := { State.reset.hg with armedAt := some 7 } }; (s.hg.armedAt = some a) ∧ (a + ms 5000 ≤ s.now) := by decide +kernel

/-- A state and operands that meet the hypotheses of a clause of `Obligations.HeadgateResume`. -/
theorem test_wit_HeadgateResume_7 : let a : Nat := 0; let tag : Nat := 1; let s : State := { State.reset with hg := { State.reset.hg with armedAt := some 0 } }; (s.hg.armedAt = some a) ∧ (s.now < a + ms 5000) ∧ (tag ≠ s.get F.RESUME_STATUS_ARM_TAG) := by decide +kernel

/-- A state and operands that meet the hypotheses of a clause of `Obligations.HeadgateResume`. -/
theorem test_wit_HeadgateResume_8 : let a : Nat := 0; let s : State := { State.reset.set F.TIME_STATUS_STEP_PEND 1 with hg := { State.reset.hg with armedAt := some 0 } }; (s.hg.armedAt = some a) ∧ (s.now < a + ms 5000) ∧ (s.get F.TIME_STATUS_STEP_PEND = 1) := by decide +kernel

/-- A state and operands that meet the hypotheses of a clause of `Obligations.HeadgateResume`. -/
theorem test_wit_HeadgateResume_9 : let a : Nat := 0; let s : State := { State.reset.set F.HG_STATE_ARMED 1 with now := ms 5000, hg := { State.reset.hg with armedAt := some 0 } }; (s.hg.armedAt = some a) ∧ (a + ms 5000 ≤ s.now) ∧ (s.get F.HG_STATE_ARMED = 1) := by decide +kernel

/-- A state and operands that meet the hypotheses of a clause of `Obligations.LeaseTimesAndTurnouts`. -/
theorem test_wit_LeaseTimesAndTurnouts_1 : let i : Nat := 6; let s : State := { ((((up [⟨.lease, 0⟩]).set F.SVC_STATUS_LEVEL 2).setTe ⟨.lease, 0⟩ 0 5 (LE.state.set (LE.kind.set (LE.id.set 0 (2 ^ 18 + 5)) 1) 4)).setTe ⟨.lease, 0⟩ 0 6 (LE.head.set (LE.kind.set (LE.id.set 0 (2 ^ 18 + 6)) 2) 5)) with ft := 10 ^ 11 * 2 ^ 32 }; (s.isOn .lease = true) ∧ (s.offDuty = false) ∧ (LE.kind.get (s.le i) = 2) ∧ (s.cold i = false) ∧ (LE.part.get (s.le (LE.head.get (s.le i))) ≠ 1) ∧ (s.get F.LEASE_STATUS_LOST ≠ 1) ∧ (4 ≤ LE.state.get (s.le (LE.head.get (s.le i)))) ∧ (leEnd (s.le i) + s.get F.GRACE * 1000000 ≤ s.fleetNs) ∧ (s.onStep i = false) := by decide +kernel

/-- A state and operands that meet the hypotheses of a clause of `Obligations.LeaseTimesAndTurnouts`. -/
theorem test_wit_LeaseTimesAndTurnouts_2 : let i : Nat := 6; let s : State := let s := { ((((up [⟨.lease, 0⟩]).set F.SVC_STATUS_LEVEL 2).setTe ⟨.lease, 0⟩ 0 5 (LE.state.set (LE.kind.set (LE.id.set 0 (2 ^ 18 + 5)) 1) 4)).setTe ⟨.lease, 0⟩ 0 6 (LE.head.set (LE.kind.set (LE.id.set 0 (2 ^ 18 + 6)) 2) 5)) with ft := 10 ^ 11 * 2 ^ 32 }; { s with ls := { s.ls with ghosts := [5] } }; (s.isOn .lease = true) ∧ (s.offDuty = false) ∧ (LE.kind.get (s.le i) = 2) ∧ (s.cold i = false) ∧ (LE.part.get (s.le (LE.head.get (s.le i))) ≠ 1) ∧ (s.get F.LEASE_STATUS_LOST ≠ 1) ∧ (4 ≤ LE.state.get (s.le (LE.head.get (s.le i)))) ∧ (leEnd (s.le i) + s.get F.GRACE * 1000000 ≤ s.fleetNs) ∧ (s.onStep i = true) := by decide +kernel

/-- A state and operands that meet the hypotheses of a clause of `Obligations.LeaseTimesAndTurnouts`. -/
theorem test_wit_LeaseTimesAndTurnouts_3 : let i : Nat := 6; let s : State := { ((((up [⟨.lease, 0⟩]).set F.SVC_STATUS_LEVEL 2).setTe ⟨.lease, 0⟩ 0 5 (LE.part.set (LE.state.set (LE.kind.set (LE.id.set 0 (2 ^ 18 + 5)) 1) 4) 1)).setTe ⟨.lease, 0⟩ 0 6 (LE.head.set (LE.kind.set (LE.id.set 0 (2 ^ 18 + 6)) 2) 5)) with ft := 10 ^ 11 * 2 ^ 32 }; (s.isOn .lease = true) ∧ (s.offDuty = false) ∧ (LE.kind.get (s.le i) = 2) ∧ (s.cold i = false) ∧ (LE.part.get (s.le (LE.head.get (s.le i))) ≠ 0) ∧ (s.get F.LEASE_STATUS_LOST ≠ 1) ∧ (leEnd (s.le i) + (s.get F.GRACE + s.get F.REPORT_WAIT) * 1000000 ≤ s.fleetNs) := by decide +kernel

/-- A state and operands that meet the hypotheses of a clause of `Obligations.LeaseTimesAndTurnouts`. -/
theorem test_wit_LeaseTimesAndTurnouts_4 : let src : Src := .bar2 3; let s : State := State.reset.set F.LEASE_STATUS_LOST 1; (src.slot = .host) := by decide +kernel

/-- A state and operands that meet the hypotheses of a clause of `Obligations.LeaseTimesAndTurnouts`. -/
theorem test_wit_LeaseTimesAndTurnouts_5 : let src : Src := .sup; let s : State := State.reset.set F.LEASE_STATUS_LOST 1; (src.slot ≠ .host) := by decide +kernel

/-- A state and operands that meet the hypotheses of a clause of `Obligations.LeaseTimesAndTurnouts`. -/
theorem test_wit_LeaseTimesAndTurnouts_6 : let i : Nat := 6; let s : State := { (((up [⟨.lease, 0⟩]).set F.SVC_STATUS_LEVEL 2).setTe ⟨.lease, 0⟩ 0 6 (LE.head.set (LE.state.set (LE.kind.set (LE.id.set 0 (2 ^ 18 + 6)) 4) 1) 5)) with ft := 10 ^ 11 * 2 ^ 32 }; (s.isOn .lease = true) ∧ (s.offDuty = false) ∧ (LE.kind.get (s.le i) = 4) ∧ (LE.state.get (s.le i) = 1) ∧ (leStart (s.le i) ≤ s.fleetNs) ∧ (s.lockHeldOpen i = false) := by decide +kernel

/-- A state and operands that meet the hypotheses of a clause of `Obligations.LeaseTimesAndTurnouts`. -/
theorem test_wit_LeaseTimesAndTurnouts_7 : let i : Nat := 6; let s : State := { (((up [⟨.lease, 0⟩]).set F.SVC_STATUS_LEVEL 2).setTe ⟨.lease, 0⟩ 0 6 (LE.head.set (LE.state.set (LE.kind.set (LE.id.set 0 (2 ^ 18 + 6)) 4) 2) 5)) with ft := 10 ^ 11 * 2 ^ 32 }; (s.isOn .lease = true) ∧ (s.offDuty = false) ∧ (LE.kind.get (s.le i) = 4) ∧ (LE.state.get (s.le i) = 2) ∧ (leEnd (s.le i) ≤ s.fleetNs) ∧ (s.get F.LEASE_STATUS_LOST ≠ 1) := by decide +kernel

/-- A state and operands that meet the hypotheses of a clause of `Obligations.LeaseTimesAndTurnouts`. -/
theorem test_wit_LeaseTimesAndTurnouts_8 : let i : Nat := 6; let s : State := { (((up [⟨.lease, 0⟩]).set F.SVC_STATUS_LEVEL 2).setTe ⟨.graph, 0⟩ 0 0 (SG.turnout.set 0 7)).setTe ⟨.lease, 0⟩ 0 6 (LE.turn.set (LE.head.set (LE.state.set (LE.kind.set (LE.id.set 0 (2 ^ 18 + 6)) 4) 2) 5) 7) |>.setTe ⟨.lease, 0⟩ 0 5 (LE.state.set (LE.kind.set (LE.id.set 0 (2 ^ 18 + 5)) 1) 4) |>.setTe ⟨.lease, 0⟩ 0 8 (LE.head.set (LE.kind.set (LE.id.set 0 (2 ^ 18 + 8)) 3) 5) with ft := 10 ^ 11 * 2 ^ 32 }; (s.isOn .lease = true) ∧ (s.offDuty = false) ∧ (LE.kind.get (s.le i) = 4) ∧ (LE.state.get (s.le i) = 2) ∧ (leEnd (s.le i) ≤ s.fleetNs) ∧ (s.get F.LEASE_STATUS_LOST ≠ 1) := by decide +kernel

/-- A state and operands that meet the hypotheses of a clause of `Obligations.LeaseTimesAndTurnouts`. -/
theorem test_wit_LeaseTimesAndTurnouts_9 : let src : Src := .host; let k : Nat := 7; let a : Nat := 0; let d : Nat := 0; let q : Nat := 0; let s : State := ((up [⟨.turnout, 0⟩]).setTe ⟨.turnout, 0⟩ 0 7 (TU.valid.set 0 1)).setReg (Page.adr ⟨.turnout, 0⟩ 0x210) 7; (s.gated = false) ∧ (s.isOn .turnout = true) ∧ (s.reg (Page.tblStatus ⟨.turnout, 0⟩) % 2 = 0) ∧ (src.slot = .host) ∧ (s.get F.LEASE_STATUS_REBASING = 0) ∧ (s.words ⟨.turnout, 0⟩ 0x210 4 = [k, a, d, q]) ∧ (k < 2 ^ 13) ∧ (d ≠ 0xFFFFFFFF) ∧ (TU.valid.get (s.turn k) = 1) ∧ (TU.closed.get (s.turn k) = 0) ∧ (TU.downer.get (s.turn k) = 0) ∧ (s.lockConflict noOwner k (rebuildMs (a % 2 ^ 32) s.fleetMs * 1000000) (rebuildMs (a % 2 ^ 32) s.fleetMs * 1000000 + d % 2 ^ 32 * 1000000) = none) := by decide +kernel

/-- A state and operands that meet the hypotheses of a clause of `Obligations.LeaseTimesAndTurnouts`. -/
theorem test_wit_LeaseTimesAndTurnouts_10 : let tg : Nat := 0x81; let q : Nat := 0; let k : Nat := 7; let data : Nat := 0; let key : List Nat := []; let s : State := (up [⟨.turnout, 0⟩]).setTe ⟨.turnout, 0⟩ 0 7 (TU.valid.set 0 1); (s.gated = false) ∧ (s.isOn .turnout = true) ∧ (0x80 ≤ tg) ∧ (tg ≤ 0xBF) ∧ (s.tagBusy tg = false) ∧ (s.get F.LEASE_STATUS_REBASING = 0) := by decide +kernel

/-- A state and operands that meet the hypotheses of a clause of `Obligations.LeaseTimesAndTurnouts`. -/
theorem test_wit_LeaseTimesAndTurnouts_11 : let src : Src := .bar2 4; let k : Nat := 7; let a : Nat := 0; let d : Nat := 0; let q : Nat := 0; let s : State := let s := up [⟨.turnout, 0⟩]; (s.setTe ⟨.turnout, 0⟩ 0 7 (TU.dgen.set (TU.downer.set (TU.valid.set 0 1) 0x8000) (s.gen 576))).setReg (Page.adr ⟨.turnout, 0⟩ 0x210) 7; (s.gated = false) ∧ (s.isOn .turnout = true) ∧ (s.reg (Page.tblStatus ⟨.turnout, 0⟩) % 2 = 0) ∧ (src.slot = .host) ∧ (s.get F.LEASE_STATUS_REBASING = 0) ∧ (s.words ⟨.turnout, 0⟩ 0x210 4 = [k, a, d, q]) ∧ (k < 2 ^ 13) ∧ (TU.downer.get (s.turn k) = 0x8000) ∧ (TU.dgen.get (s.turn k) = s.gen 576) := by decide +kernel

/-- A state and operands that meet the hypotheses of a clause of `Obligations.LeaseTimesAndTurnouts`. -/
theorem test_wit_LeaseTimesAndTurnouts_12 : let tg : Nat := 0x81; let q : Nat := 0; let k : Nat := 7; let data : Nat := 0; let key : List Nat := []; let s : State := (up [⟨.turnout, 0⟩]).setTe ⟨.turnout, 0⟩ 0 7 (TU.downer.set (TU.valid.set 0 1) 0x8000); (s.gated = false) ∧ (s.isOn .turnout = true) ∧ (0x80 ≤ tg) ∧ (tg ≤ 0xBF) ∧ (s.tagBusy tg = false) ∧ (s.get F.LEASE_STATUS_REBASING = 0) ∧ (TU.downer.get (s.turn (k % 2 ^ 13)) ≠ 0xC000) := by decide +kernel

/-- A state and operands that meet the hypotheses of a clause of `Obligations.LeaseTimesAndTurnouts`. -/
theorem test_wit_LeaseTimesAndTurnouts_13 : let src : Src := .host; let i : Nat := 6; let a : Nat := 0; let d : Nat := 0; let q : Nat := 0; let s : State := ((up [⟨.turnout, 0⟩]).setTe ⟨.lease, 0⟩ 0 6 (LE.head.set (LE.state.set (LE.kind.set (LE.id.set 0 (2 ^ 18 + 6)) 4) 4) 5)).setReg (Page.adr ⟨.turnout, 0⟩ 0x210) (2 ^ 18 + 6); (s.gated = false) ∧ (s.isOn .turnout = true) ∧ (s.reg (Page.tblStatus ⟨.turnout, 0⟩) % 2 = 0) ∧ (src.slot = .host) ∧ (s.get F.LEASE_STATUS_REBASING = 0) ∧ (s.words ⟨.turnout, 0⟩ 0x210 4 = [LE.id.get (s.le i), a, d, q]) ∧ (s.leById (LE.id.get (s.le i)) = some i) ∧ (LE.kind.get (s.le i) = 4) ∧ (LE.state.get (s.le i) = 4) ∧ (((s.stepsOfLock i).any fun j => decide (LE.kind.get (s.le j) = 3)) = false) := by decide +kernel

/-- A state and operands that meet the hypotheses of a clause of `Obligations.LeaseTimesAndTurnouts`. -/
theorem test_wit_LeaseTimesAndTurnouts_14 : let tg : Nat := 0x81; let q : Nat := 0; let data : Nat := 0; let key : List Nat := [7]; let s : State := up [⟨.turnout, 0⟩]; (s.gated = false) ∧ (s.isOn .turnout = true) ∧ (0x80 ≤ tg) ∧ (tg ≤ 0xBF) ∧ (s.tagBusy tg = false) ∧ (s.get F.LEASE_STATUS_REBASING = 0) := by decide +kernel

/-- A state and operands that meet the hypotheses of a clause of `Obligations.LeaseTimesAndTurnouts`. -/
theorem test_wit_LeaseTimesAndTurnouts_15 : let i : Nat := 6; let s : State := { (((up [⟨.lease, 0⟩]).setTe ⟨.lease, 0⟩ 0 5 (LE.state.set (LE.kind.set (LE.id.set 0 (2 ^ 18 + 5)) 1) 4)).setTe ⟨.lease, 0⟩ 0 6 (LE.startS.set (LE.head.set (LE.kind.set (LE.id.set 0 (2 ^ 18 + 6)) 2) 5) 100)) with ft := 10 ^ 11 * 2 ^ 32 }; (s.isOn .lease = true) ∧ (LE.kind.get (s.le i) = 2) ∧ (LE.begun.get (s.le i) = 0) ∧ (leStart (s.le i) ≤ s.fleetNs) := by decide +kernel

/-- A state and operands that meet the hypotheses of a clause of `Obligations.LeaseTimesAndTurnouts`. -/
theorem test_wit_LeaseTimesAndTurnouts_16 : let i : Nat := 7; let b : Nat := 1000000; let s : State := { (up [⟨.turnout, 0⟩]).setTe ⟨.turnout, 0⟩ 0 7 (TU.ddur.set (TU.downer.set (TU.valid.set 0 1) 0x8000) 1) with ft := 10 ^ 6 * 2 ^ 32 }; (TU.downer.get (s.turn i) ≠ 0) ∧ ((s.directIv i).2 = some b) ∧ (b ≤ s.fleetNs) := by decide +kernel

/-- A state and operands that meet the hypotheses of a clause of `Obligations.TableSequences`. -/
theorem test_wit_TableSequences_1 : let tg : Nat := 0x81; let q : Nat := 0; let g : Nat := 2; let lo : Nat := 5; let hi : Nat := 8191; let h : Nat := 0; let data : Nat := 0; let s : State := up [⟨.turnout, 0⟩]; (s.gated = false) ∧ (s.isOn .turnout = true) ∧ (0x80 ≤ tg) ∧ (tg ≤ 0xBF) ∧ (s.tagBusy tg = false) ∧ (s.get F.LEASE_STATUS_REBASING = 0) ∧ (s.seqPurge = s) ∧ (lowestFree (s.ls.seqs.map (·.handle)) 8 0 = some h) ∧ ((s.ls.seqs.any fun q => decide (q.target = g ∧ lo ≤ q.hi ∧ q.lo ≤ hi)) = false) ∧ (g < 3) ∧ (lo ≤ hi) ∧ (hi < seqSize g) := by decide +kernel

/-- A state and operands that meet the hypotheses of a clause of `Obligations.TableSequences`. -/
theorem test_wit_TableSequences_2 : let tg : Nat := 0x81; let q : Nat := 0; let g : Nat := 2; let lo : Nat := 5; let hi : Nat := 8192; let h : Nat := 0; let data : Nat := 0; let s : State := up [⟨.turnout, 0⟩]; (s.gated = false) ∧ (s.isOn .turnout = true) ∧ (0x80 ≤ tg) ∧ (tg ≤ 0xBF) ∧ (s.tagBusy tg = false) ∧ (s.get F.LEASE_STATUS_REBASING = 0) ∧ (s.seqPurge = s) ∧ (lowestFree (s.ls.seqs.map (·.handle)) 8 0 = some h) ∧ ((s.ls.seqs.any fun q => decide (q.target = g ∧ lo ≤ q.hi ∧ q.lo ≤ hi)) = false) ∧ (g < 4) ∧ ((hi < lo ∨ seqSize g ≤ hi)) := by decide +kernel

/-- A state and operands that meet the hypotheses of a clause of `Obligations.TableSequences`. -/
theorem test_wit_TableSequences_3 : let tg : Nat := 0x81; let q : Nat := 0; let g : Nat := 0; let lo : Nat := 5; let hi : Nat := 4; let h : Nat := 0; let data : Nat := 0; let s : State := up [⟨.turnout, 0⟩]; (s.gated = false) ∧ (s.isOn .turnout = true) ∧ (0x80 ≤ tg) ∧ (tg ≤ 0xBF) ∧ (s.tagBusy tg = false) ∧ (s.get F.LEASE_STATUS_REBASING = 0) ∧ (s.seqPurge = s) ∧ (lowestFree (s.ls.seqs.map (·.handle)) 8 0 = some h) ∧ ((s.ls.seqs.any fun q => decide (q.target = g ∧ lo ≤ q.hi ∧ q.lo ≤ hi)) = false) ∧ (g < 4) ∧ ((hi < lo ∨ seqSize g ≤ hi)) := by decide +kernel

/-- A state and operands that meet the hypotheses of a clause of `Obligations.TableSequences`. -/
theorem test_wit_TableSequences_4 : let tg : Nat := 0x81; let q : Nat := 0; let i : Nat := 9; let data : Nat := 77; let x : TblSeq := { handle := 3, owner := 577, gen := up [] |>.gen 577, target := 2, lo := 5, hi := 9, edits := [⟨6, 1⟩], at_ := 0 }; let s : State := let s := up [⟨.turnout, 0⟩]; { s with ls := { s.ls with seqs := [x] } }; (s.gated = false) ∧ (s.isOn .turnout = true) ∧ (0x80 ≤ tg) ∧ (tg ≤ 0xBF) ∧ (s.tagBusy tg = false) ∧ (s.get F.LEASE_STATUS_REBASING = 0) ∧ (s.seqPurge = s) ∧ (s.ls.seqs.find? (fun q => decide (q.handle = x.handle)) = some x) ∧ (x.handle < 8) ∧ (x.owner = 577) ∧ (x.gen = s.gen 577) ∧ (x.lo ≤ i) ∧ (i ≤ x.hi) ∧ (s.get F.SEQ_STAGED < 16384) ∧ ((x.edits.any fun e => decide (e.index = i)) = false) := by decide +kernel

/-- A state and operands that meet the hypotheses of a clause of `Obligations.TableSequences`. -/
theorem test_wit_TableSequences_5 : let tg : Nat := 0x81; let q : Nat := 0; let i : Nat := 10; let data : Nat := 77; let x : TblSeq := { handle := 3, owner := 577, gen := up [] |>.gen 577, target := 2, lo := 5, hi := 9, edits := [⟨6, 1⟩], at_ := 0 }; let s : State := let s := up [⟨.turnout, 0⟩]; { s with ls := { s.ls with seqs := [x] } }; (s.gated = false) ∧ (s.isOn .turnout = true) ∧ (0x80 ≤ tg) ∧ (tg ≤ 0xBF) ∧ (s.tagBusy tg = false) ∧ (s.get F.LEASE_STATUS_REBASING = 0) ∧ (s.seqPurge = s) ∧ (s.ls.seqs.find? (fun q => decide (q.handle = x.handle)) = some x) ∧ (x.handle < 8) ∧ (x.owner = 577) ∧ (x.gen = s.gen 577) ∧ ((i < x.lo ∨ x.hi < i)) := by decide +kernel

/-- A state and operands that meet the hypotheses of a clause of `Obligations.TableSequences`. -/
theorem test_wit_TableSequences_6 : let tg : Nat := 0x81; let q : Nat := 0; let i : Nat := 9; let data : Nat := 77; let x : TblSeq := { handle := 3, owner := 576, gen := up [] |>.gen 576, target := 2, lo := 5, hi := 9, edits := [⟨6, 1⟩], at_ := 0 }; let s : State := let s := up [⟨.turnout, 0⟩]; { s with ls := { s.ls with seqs := [x] } }; (s.gated = false) ∧ (s.isOn .turnout = true) ∧ (0x80 ≤ tg) ∧ (tg ≤ 0xBF) ∧ (s.tagBusy tg = false) ∧ (s.get F.LEASE_STATUS_REBASING = 0) ∧ (s.seqPurge = s) ∧ (s.ls.seqs.find? (fun q => decide (q.handle = x.handle)) = some x) ∧ (x.handle < 8) ∧ (x.owner ≠ 577) := by decide +kernel

/-- A state and operands that meet the hypotheses of a clause of `Obligations.TableSequences`. -/
theorem test_wit_TableSequences_7 : let tg : Nat := 0x81; let q : Nat := 0; let data : Nat := 77; let x : TblSeq := { handle := 3, owner := 577, gen := up [] |>.gen 577, target := 2, lo := 5, hi := 9, edits := [⟨6, 0⟩], at_ := 0 }; let s : State := let s := up [⟨.turnout, 0⟩]; { s with ls := { s.ls with seqs := [x] } }; (s.gated = false) ∧ (s.isOn .turnout = true) ∧ (0x80 ≤ tg) ∧ (tg ≤ 0xBF) ∧ (s.tagBusy tg = false) ∧ (s.get F.LEASE_STATUS_REBASING = 0) ∧ (s.seqPurge = s) ∧ (s.ls.seqs.find? (fun q => decide (q.handle = x.handle)) = some x) ∧ (x.handle < 8) ∧ (x.owner = 577) ∧ (x.gen = s.gen 577) ∧ (x.target ≠ 3) ∧ ((x.edits.find? fun e => decide (entryErr x.target s.takeSeq (s.takeSeq.seqStored x) e.index ≠ 0)) = none) := by decide +kernel

/-- A state and operands that meet the hypotheses of a clause of `Obligations.TableSequences`. -/
theorem test_wit_TableSequences_8 : let tg : Nat := 0x81; let q : Nat := 0; let data : Nat := 77; let x : TblSeq := { handle := 3, owner := 577, gen := up [] |>.gen 577, target := 2, lo := 5, hi := 9, edits := [⟨6, 2 ^ 32 - 1⟩], at_ := 0 }; let e : StagedEdit := ⟨6, 2 ^ 32 - 1⟩; let s : State := let s := up [⟨.turnout, 0⟩]; { s with ls := { s.ls with seqs := [x] } }; (s.gated = false) ∧ (s.isOn .turnout = true) ∧ (0x80 ≤ tg) ∧ (tg ≤ 0xBF) ∧ (s.tagBusy tg = false) ∧ (s.get F.LEASE_STATUS_REBASING = 0) ∧ (s.seqPurge = s) ∧ (s.ls.seqs.find? (fun q => decide (q.handle = x.handle)) = some x) ∧ (x.handle < 8) ∧ (x.owner = 577) ∧ (x.gen = s.gen 577) ∧ ((x.edits.find? fun e => decide (entryErr x.target s.takeSeq (s.takeSeq.seqStored x) e.index ≠ 0)) = some e) := by decide +kernel

/-- A state and operands that meet the hypotheses of a clause of `Obligations.TableSequences`. -/
theorem test_wit_TableSequences_9 : let tg : Nat := 0x81; let q : Nat := 0; let data : Nat := 77; let x : TblSeq := { handle := 3, owner := 577, gen := up [] |>.gen 577, target := 2, lo := 5, hi := 9, edits := [⟨6, 1⟩], at_ := 0 }; let s : State := let s := up [⟨.turnout, 0⟩]; { s with ls := { s.ls with seqs := [x] } }; (s.gated = false) ∧ (s.isOn .turnout = true) ∧ (0x80 ≤ tg) ∧ (tg ≤ 0xBF) ∧ (s.tagBusy tg = false) ∧ (s.get F.LEASE_STATUS_REBASING = 0) ∧ (s.seqPurge = s) ∧ (s.ls.seqs.find? (fun q => decide (q.handle = x.handle)) = some x) ∧ (x.handle < 8) ∧ (x.owner = 577) ∧ (x.gen = s.gen 577) := by decide +kernel

/-- A state and operands that meet the hypotheses of a clause of `Obligations.TableSequences`. -/
theorem test_wit_TableSequences_10 : let x : TblSeq := { handle := 3, owner := 577, gen := up [] |>.gen 577, target := 2, lo := 5, hi := 9, edits := [⟨6, 1⟩], at_ := 0 }; let s : State := let s := up [⟨.turnout, 0⟩]; { s with now := sec 100, ls := { s.ls with seqs := [x] } }; (s.ls.seqs.find? (fun q => decide (q.handle = x.handle)) = some x) ∧ (s.seqLate x = true) := by decide +kernel

/-- A state and operands that meet the hypotheses of a clause of `Obligations.HoldsAndEviction`. -/
theorem test_wit_HoldsAndEviction_1 : let tg : Nat := 0x80; let q : Nat := 0; let m : Nat := 3; let mask : Nat := 3; let data : Nat := 0; let s : State := ((up [⟨.registry, 0⟩]).mset 3 RG.rstate 2).mset 3 RG.cause 0x103; (s.gated = false) ∧ (s.isOn .registry = true) ∧ (0x80 ≤ tg) ∧ (tg ≤ 0xBF) ∧ (s.tagBusy tg = false) ∧ (m < 512) ∧ (s.mget m RG.rstate ≠ 0) ∧ (((List.range 8).any fun c => bit (mask % 256) c && s.causeHolds m c) = false) ∧ (s.get F.TIME_STATUS_STEP_PEND ≠ 1) := by decide +kernel

/-- A state and operands that meet the hypotheses of a clause of `Obligations.HoldsAndEviction`. -/
theorem test_wit_HoldsAndEviction_2 : let tg : Nat := 0x80; let q : Nat := 0; let m : Nat := 511; let mask : Nat := 1; let data : Nat := 0; let s : State := ((up [⟨.registry, 0⟩]).mset 511 RG.rstate 2).mset 511 RG.cause 1; (s.gated = false) ∧ (s.isOn .registry = true) ∧ (0x80 ≤ tg) ∧ (tg ≤ 0xBF) ∧ (s.tagBusy tg = false) ∧ (m < 512) ∧ (s.mget m RG.rstate ≠ 0) ∧ (((List.range 8).any fun c => bit (mask % 256) c && s.causeHolds m c) = false) ∧ (s.get F.TIME_STATUS_STEP_PEND ≠ 1) := by decide +kernel

/-- A state and operands that meet the hypotheses of a clause of `Obligations.HoldsAndEviction`. -/
theorem test_wit_HoldsAndEviction_3 : let tg : Nat := 0x80; let q : Nat := 0; let m : Nat := 3; let mask : Nat := 0x40; let data : Nat := 0; let s : State := ((up [⟨.registry, 0⟩]).mset 3 RG.rstate 2).mset 3 RG.cause 0x40; (s.gated = false) ∧ (s.isOn .registry = true) ∧ (0x80 ≤ tg) ∧ (tg ≤ 0xBF) ∧ (s.tagBusy tg = false) ∧ (m < 512) ∧ (s.mget m RG.rstate ≠ 0) ∧ (((List.range 8).any fun c => bit (mask % 256) c && s.causeHolds m c) = true) := by decide +kernel

/-- A state and operands that meet the hypotheses of a clause of `Obligations.HoldsAndEviction`. -/
theorem test_wit_HoldsAndEviction_4 : let tg : Nat := 0x80; let q : Nat := 0; let m : Nat := 3; let mask : Nat := 1; let data : Nat := 0; let s : State := (((up [⟨.registry, 0⟩]).mset 3 RG.rstate 2).mset 3 RG.cause 1).set F.TIME_STATUS_STEP_PEND 1; (s.gated = false) ∧ (s.isOn .registry = true) ∧ (0x80 ≤ tg) ∧ (tg ≤ 0xBF) ∧ (s.tagBusy tg = false) ∧ (m < 512) ∧ (s.mget m RG.rstate ≠ 0) ∧ (((List.range 8).any fun c => bit (mask % 256) c && s.causeHolds m c) = false) ∧ (s.get F.TIME_STATUS_STEP_PEND = 1) := by decide +kernel

/-- A state and operands that meet the hypotheses of a clause of `Obligations.HoldsAndEviction`. -/
theorem test_wit_HoldsAndEviction_5 : let tg : Nat := 0x80; let q : Nat := 0; let m : Nat := 3; let data : Nat := 0; let key : List Nat := []; let s : State := (up [⟨.registry, 0⟩]).mset 3 RG.rstate 1; (s.gated = false) ∧ (s.isOn .registry = true) ∧ (0x80 ≤ tg) ∧ (tg ≤ 0xBF) ∧ (s.tagBusy tg = false) ∧ (m < 512) ∧ (s.mget m RG.rstate ≠ 0) := by decide +kernel

/-- A state and operands that meet the hypotheses of a clause of `Obligations.HoldsAndEviction`. -/
theorem test_wit_HoldsAndEviction_6 : let tg : Nat := 0x80; let q : Nat := 0; let m : Nat := 3; let data : Nat := 0; let key : List Nat := [4]; let s : State := ((up [⟨.registry, 0⟩]).mset 3 RG.rstate 2).mset 3 RG.cause 5; (s.gated = false) ∧ (s.isOn .registry = true) ∧ (0x80 ≤ tg) ∧ (tg ≤ 0xBF) ∧ (s.tagBusy tg = false) ∧ (m < 512) ∧ (s.mget m RG.rstate ≠ 0) := by decide +kernel

/-- A state and operands that meet the hypotheses of a clause of `Obligations.HoldsAndEviction`. -/
theorem test_wit_HoldsAndEviction_7 : let src : Src := .host; let m : Nat := 3; let a : Nat := 0; let d : Nat := 0; let q : Nat := 0; let s : State := ((up [⟨.registry, 0⟩]).mset 3 RG.rstate 2).setReg (Page.adr ⟨.registry, 0⟩ 0x210) 3; (s.gated = false) ∧ (s.isOn .registry = true) ∧ (s.reg (Page.tblStatus ⟨.registry, 0⟩) % 2 = 0) ∧ (src.slot = .host) ∧ (s.words ⟨.registry, 0⟩ 0x210 4 = [m, a, d, q]) ∧ (m < 512) ∧ (s.mget m RG.rstate ≠ 0) := by decide +kernel

/-- A state and operands that meet the hypotheses of a clause of `Obligations.HoldsAndEviction`. -/
theorem test_wit_HoldsAndEviction_8 : let tg : Nat := 0x80; let q : Nat := 0; let data : Nat := 0; let key : List Nat := [3]; let s : State := (up [⟨.registry, 0⟩]).mset 3 RG.rstate 2; (s.gated = false) ∧ (s.isOn .registry = true) ∧ (0x80 ≤ tg) ∧ (tg ≤ 0xBF) ∧ (s.tagBusy tg = false) := by decide +kernel

/-- A state and operands that meet the hypotheses of a clause of `Obligations.HoldsAndEviction`. -/
theorem test_wit_HoldsAndEviction_9 : let m : Nat := 3; let s : State := (((up [⟨.motion, 0⟩]).mset 3 RG.rstate 1).set F.HG_STATE_CLASS 0).set F.CONF_CFG_STALE_SF 2 |>.set F.SFN 9 |>.setMotion 3 { posSfn := 7, bundles := [⟨0, [(0, 5)]⟩] }; (m < 512) ∧ (s.isOn .motion = true) ∧ (s.offDuty = false) ∧ (s.mget m RG.rstate ≠ 0) ∧ (s.noPosition m = true) ∧ (s.get F.HG_STATE_CLASS ≠ 3) ∧ (bit (s.mget m RG.cause) 3 = false) := by decide +kernel

/-- A state and operands that meet the hypotheses of a clause of `Obligations.HoldsAndEviction`. -/
theorem test_wit_HoldsAndEviction_10 : let m : Nat := 3; let s : State := (((up [⟨.motion, 0⟩]).mset 3 RG.rstate 1).set F.HG_STATE_CLASS 0).set F.CONF_CFG_STALE_SF 3 |>.set F.SFN 9 |>.setMotion 3 { posSfn := 7, bundles := [⟨0, [(0, 5)]⟩] }; (s.noPosition m = false) := by decide +kernel

/-- A state and operands that meet the hypotheses of a clause of `Obligations.MoveQueues`. -/
theorem test_wit_MoveQueues_1 : let tg : Nat := 0x80; let q : Nat := 0; let m : Nat := 3; let k : Nat := 0; let data : Nat := MV.furrow.set (MV.vMax.set (MV.aMax.set (MV.aDec.set (MV.jMax.set (MV.aLat.set 0 500) 1000) 500) 500) 3000) (2 ^ 18 + 5); let key : List Nat := []; let s : State := (((((up [⟨.motion, 0⟩]).set F.STOP_JERK 5000).mset 3 RG.rstate 1).mset 3 RG.addr 0x600).mset 3 RG.decel 800).setTe ⟨.lease, 0⟩ 0 5 (LE.owner.set (LE.state.set (LE.kind.set (LE.id.set 0 (2 ^ 18 + 5)) 1) hsGRANTED) 0x600); (s.gated = false) ∧ (s.isOn .motion = true) ∧ (0x80 ≤ tg) ∧ (tg ≤ 0xBF) ∧ (s.tagBusy tg = false) ∧ (m < 512) ∧ (s.moveErr m (MV.mstate.set (data % 2 ^ 224 - bits data 184 8 * 2 ^ 184) 1) = 0) ∧ (((List.range 16).find? fun k => !((s.motion m).order.contains k)) = some k) := by decide +kernel

/-- A state and operands that meet the hypotheses of a clause of `Obligations.MoveQueues`. -/
theorem test_wit_MoveQueues_2 : let tg : Nat := 0x80; let q : Nat := 0; let m : Nat := 3; let data : Nat := 0; let key : List Nat := []; let s : State := up [⟨.motion, 0⟩]; (s.gated = false) ∧ (s.isOn .motion = true) ∧ (0x80 ≤ tg) ∧ (tg ≤ 0xBF) ∧ (s.tagBusy tg = false) ∧ (m < 512) ∧ (s.moveErr m (MV.mstate.set (data % 2 ^ 224 - bits data 184 8 * 2 ^ 184) 1) ≠ 0) := by decide +kernel

/-- A state and operands that meet the hypotheses of a clause of `Obligations.MoveQueues`. -/
theorem test_wit_MoveQueues_3 : let tg : Nat := 0x80; let q : Nat := 0; let m : Nat := 3; let data : Nat := 0; let key : List Nat := []; let s : State := ((up [⟨.motion, 0⟩]).setMotion 3 { order := [2, 0, 1] }).setMove 3 2 (MV.mstate.set 0 3) |>.setMove 3 0 (MV.mstate.set 0 1); (s.gated = false) ∧ (s.isOn .motion = true) ∧ (0x80 ≤ tg) ∧ (tg ≤ 0xBF) ∧ (s.tagBusy tg = false) ∧ (m < 512) := by decide +kernel

/-- A state and operands that meet the hypotheses of a clause of `Obligations.MoveQueues`. -/
theorem test_wit_MoveQueues_4 : let tg : Nat := 0x80; let q : Nat := 0; let m : Nat := 3; let k : Nat := 1; let data : Nat := MV.aMax.set (MV.aDec.set (MV.jMax.set (MV.aLat.set 0 500) 1000) 500) 500; let key : List Nat := []; let s : State := ((((up [⟨.motion, 0⟩]).set F.STOP_JERK 5000).mset 3 RG.decel 800).setMotion 3 { order := [2, 1] }).setMove 3 2 (MV.mstate.set 0 3) |>.setMove 3 1 (MV.mstate.set 0 1); (s.gated = false) ∧ (s.isOn .motion = true) ∧ (0x80 ≤ tg) ∧ (tg ≤ 0xBF) ∧ (s.tagBusy tg = false) ∧ (m < 512) ∧ (s.badLimits m data false = false) ∧ (k ∈ (s.motion m).order) ∧ (MV.mstate.get (s.move m k) ≠ 3) := by decide +kernel

/-- A state and operands that meet the hypotheses of a clause of `Obligations.MoveQueues`. -/
theorem test_wit_MoveQueues_5 : let tg : Nat := 0x80; let q : Nat := 0; let m : Nat := 3; let data : Nat := 0; let key : List Nat := []; let s : State := up [⟨.motion, 0⟩]; (s.gated = false) ∧ (s.isOn .motion = true) ∧ (0x80 ≤ tg) ∧ (tg ≤ 0xBF) ∧ (s.tagBusy tg = false) ∧ (m < 512) ∧ (s.badLimits m data false = true) := by decide +kernel

/-- A state and operands that meet the hypotheses of a clause of `Obligations.DispatcherItems`. -/
theorem test_wit_DispatcherItems_1 : let core : Nat := 3; let x : Nat := 0; let i : DItem := { flow := 5, src := 7, kind := 1, seq := 9 }; let s : State := let s := ((up [⟨.dispatch, 0⟩, ⟨.core, 3⟩]).set F.GROUP_CFG_CORE_MASK 8 0 2).setTe ⟨.dispatch, 0⟩ 0 5 (2 ^ 16 + 2); { s with disp := { s.disp with items := [i] } }; let u : State := ((s.choose (s.deliverable 3)).map (·.2)).getD s; (core < 8) ∧ (s.isOn .dispatch = true) ∧ (s.dbg.halted.contains core = false) ∧ (s.choose (s.deliverable core) = some (i, u)) ∧ (s.freeCtx core = some x) := by decide +kernel

/-- A state and operands that meet the hypotheses of a clause of `Obligations.DispatcherItems`. -/
theorem test_wit_DispatcherItems_2 : let core : Nat := 3; let s : State := up [⟨.dispatch, 0⟩, ⟨.core, 3⟩]; (core < 8) ∧ ((s.choose (s.deliverable core)).isNone = true) := by decide +kernel

/-- A state and operands that meet the hypotheses of a clause of `Obligations.DispatcherItems`. -/
theorem test_wit_DispatcherItems_3 : let core : Nat := 3; let ctx : Nat := 2; let i : DItem := { flow := 5, src := 7, kind := 1, seq := 9, st := 1, core := 3, ctx := 2 }; let s : State := let s := up [⟨.dispatch, 0⟩, ⟨.core, 3⟩]; { s with disp := { s.disp with items := [i], stack := [[], [], [], [2], [], [], [], []] } }; (core < 8) ∧ (s.ctxItem core ctx = some i) := by decide +kernel

/-- A state and operands that meet the hypotheses of a clause of `Obligations.DispatcherItems`. -/
theorem test_wit_DispatcherItems_4 : let core : Nat := 3; let ctx : Nat := 2; let dest : Nat := 1; let kind : Nat := 0; let target : Nat := 576; let arg : Nat := 0; let body : List Nat := [1]; let i : DItem := { flow := 5, src := 7, kind := 1, seq := 9, st := 1, core := 3, ctx := 2 }; let s : State := let s := up [⟨.dispatch, 0⟩, ⟨.core, 3⟩]; { s with disp := { s.disp with items := [i] } }; (s.ctxItem core ctx = some i) ∧ (emitOk dest kind target body.length = false) := by decide +kernel

/-- A state and operands that meet the hypotheses of a clause of `Obligations.DispatcherItems`. -/
theorem test_wit_DispatcherItems_5 : let core : Nat := 3; let ctx : Nat := 2; let dest : Nat := 1; let kind : Nat := 0; let target : Nat := 5; let arg : Nat := 0; let body : List Nat := [1]; let i : DItem := { flow := 5, src := 7, kind := 1, seq := 9, st := 1, core := 3, ctx := 2, emits := List.replicate 16 ⟨2, 0, 0, 0, [], 0, 0⟩ }; let s : State := let s := up [⟨.dispatch, 0⟩, ⟨.core, 3⟩]; { s with disp := { s.disp with items := [i] } }; (s.ctxItem core ctx = some i) ∧ (emitOk dest kind target body.length = true) ∧ (16 ≤ i.emits.length) := by decide +kernel

/-- A state and operands that meet the hypotheses of a clause of `Obligations.DispatcherItems`. -/
theorem test_wit_DispatcherItems_6 : let core : Nat := 3; let ctx : Nat := 2; let dest : Nat := 1; let kind : Nat := 0; let target : Nat := 5; let arg : Nat := 0; let b : Nat := 0; let body : List Nat := [1]; let i : DItem := { flow := 5, src := 7, kind := 1, seq := 9, st := 1, core := 3, ctx := 2 }; let s : State := let s := (up [⟨.dispatch, 0⟩, ⟨.core, 3⟩]).set F.HW_RESERVE 256; { s with disp := { s.disp with items := [i] } }; (s.ctxItem core ctx = some i) ∧ (emitOk dest kind target body.length = true) ∧ (i.emits.length < 16) ∧ ((dest = 1 → s.roomFor srcCORE body.length = true)) ∧ (s.bufferFor body.length = some b) := by decide +kernel

/-- A state and operands that meet the hypotheses of a clause of `Obligations.DispatcherItems`. -/
theorem test_wit_DispatcherItems_7 : let core : Nat := 3; let ctx : Nat := 2; let dest : Nat := 1; let kind : Nat := 0; let target : Nat := 5; let arg : Nat := 0; let body : List Nat := [1]; let i : DItem := { flow := 5, src := 7, kind := 1, seq := 9, st := 1, core := 3, ctx := 2 }; let s : State := let s := (up [⟨.dispatch, 0⟩, ⟨.core, 3⟩]).set F.HW_RESERVE 5000; { s with disp := { s.disp with items := [i] } }; (s.ctxItem core ctx = some i) ∧ (emitOk dest kind target body.length = true) ∧ (i.emits.length < 16) ∧ (dest = 1) ∧ (s.roomFor srcCORE body.length = false) := by decide +kernel

/-- A state and operands that meet the hypotheses of a clause of `Obligations.DispatcherItems`. -/
theorem test_wit_DispatcherItems_8 : let core : Nat := 3; let ctx : Nat := 2; let i : DItem := { flow := 5, src := 7, kind := 1, seq := 9, st := 1, core := 3, ctx := 2 }; let s : State := let s := up [⟨.dispatch, 0⟩, ⟨.core, 3⟩]; { s with now := sec 100, disp := { s.disp with items := [i], stack := [[], [], [], [2], [], [], [], []] } }; (core < 8) ∧ (ctx < 8) ∧ (s.ctxItem core ctx = some i) ∧ (i.since + us (if s.flowClass i.flow = 0 then s.get F.CLASS0_TIMEOUT else s.get F.ITEM_TIMEOUT) < s.now) := by decide +kernel

/-- A state and operands that meet the hypotheses of a clause of `Obligations.DispatcherItems`. -/
theorem test_wit_DispatcherItems_9 : let tg : Nat := 0x80; let q : Nat := 0; let flow : Nat := 575; let w : Nat := 3 * 2 ^ 16 + 5; let a : Nat := 1; let b : Nat := 2; let data : Nat := 0x030201; let s : State := ((up [⟨.dispatch, 0⟩]).set F.HW_RESERVE 256).setTe ⟨.dispatch, 0⟩ 0 575 (2 ^ 16); (s.gated = false) ∧ (s.isOn .dispatch = true) ∧ (0x80 ≤ tg) ∧ (tg ≤ 0xBF) ∧ (s.tagBusy tg = false) ∧ (s.get F.LEASE_STATUS_REBASING = 0) ∧ (flow < 576) ∧ (w / 2 ^ 16 ≤ 48) ∧ (s.flowEn flow = true) ∧ (s.roomFor srcHOST (w / 2 ^ 16) = true) := by decide +kernel

/-- A state and operands that meet the hypotheses of a clause of `Obligations.DispatcherItems`. -/
theorem test_wit_DispatcherItems_10 : let tg : Nat := 0x80; let q : Nat := 0; let flow : Nat := 576; let w : Nat := 0; let data : Nat := 0; let key : List Nat := []; let s : State := up [⟨.dispatch, 0⟩]; (s.gated = false) ∧ (s.isOn .dispatch = true) ∧ (0x80 ≤ tg) ∧ (tg ≤ 0xBF) ∧ (s.tagBusy tg = false) ∧ (s.get F.LEASE_STATUS_REBASING = 0) ∧ (576 ≤ flow) ∧ (flow < 1024) := by decide +kernel

/-- A state and operands that meet the hypotheses of a clause of `Obligations.DispatcherItems`. -/
theorem test_wit_DispatcherItems_11 : let tg : Nat := 0x80; let q : Nat := 0; let flow : Nat := 0; let w : Nat := 49 * 2 ^ 16; let data : Nat := 0; let key : List Nat := []; let s : State := up [⟨.dispatch, 0⟩]; (s.gated = false) ∧ (s.isOn .dispatch = true) ∧ (0x80 ≤ tg) ∧ (tg ≤ 0xBF) ∧ (s.tagBusy tg = false) ∧ (s.get F.LEASE_STATUS_REBASING = 0) ∧ (flow < 576) ∧ (49 * 2 ^ 16 ≤ w) := by decide +kernel

/-- A state and operands that meet the hypotheses of a clause of `Obligations.DispatcherItems`. -/
theorem test_wit_DispatcherItems_12 : let k : Nat := 255; let e : Nat := 7 + 575 * 2 ^ 48 + 2 ^ 63 + 5 * 2 ^ 64 + 1000 * 2 ^ 96; let at_ : Nat := 7000000005; let period : Nat := 1000; let f : Nat := 575; let s : State := { (((up [⟨.dispatch, 0⟩]).set F.HW_RESERVE 256).setTe ⟨.dispatch, 0⟩ 0 575 (2 ^ 16)).setTe ⟨.dispatch, 0⟩ 1 255 (7 + 575 * 2 ^ 48 + 2 ^ 63 + 5 * 2 ^ 64 + 1000 * 2 ^ 96) with ft := 7012345678 * 2 ^ 32 }; (k < 256) ∧ (s.isOn .dispatch = true) ∧ (s.offDuty = false) ∧ (e = s.te ⟨.dispatch, 0⟩ 1 k) ∧ (at_ = bits e 0 48 * 1000000000 + bits e 64 32) ∧ (period = bits e 96 32) ∧ (f = bits e 48 10) ∧ (bits e 63 1 = 1) ∧ (at_ ≤ s.fleetNs) ∧ (s.flowEn f = true) ∧ (s.roomFor srcTIMER 0 = true) ∧ ((timerNext at_ period s.fleetNs).1 / 1000000000 < 2 ^ 48) := by decide +kernel

/-- A state and operands that meet the hypotheses of a clause of `Obligations.DispatcherItems`. -/
theorem test_wit_DispatcherItems_13 : let k : Nat := 0; let e : Nat := 7 + 575 * 2 ^ 48 + 2 ^ 63 + 5 * 2 ^ 64; let at_ : Nat := 7000000005; let period : Nat := 0; let f : Nat := 575; let s : State := { (((up [⟨.dispatch, 0⟩]).set F.HW_RESERVE 256).setTe ⟨.dispatch, 0⟩ 0 575 (2 ^ 16)).setTe ⟨.dispatch, 0⟩ 1 0 (7 + 575 * 2 ^ 48 + 2 ^ 63 + 5 * 2 ^ 64) with ft := 7012345678 * 2 ^ 32 }; (k < 256) ∧ (s.isOn .dispatch = true) ∧ (s.offDuty = false) ∧ (e = s.te ⟨.dispatch, 0⟩ 1 k) ∧ (at_ = bits e 0 48 * 1000000000 + bits e 64 32) ∧ (period = bits e 96 32) ∧ (f = bits e 48 10) ∧ (bits e 63 1 = 1) ∧ (at_ ≤ s.fleetNs) ∧ (s.flowEn f = true) ∧ (s.roomFor srcTIMER 0 = true) ∧ ((timerNext at_ period s.fleetNs).1 / 1000000000 < 2 ^ 48) := by decide +kernel

/-- A state and operands that meet the hypotheses of a clause of `Obligations.DispatcherItems`. -/
theorem test_wit_DispatcherItems_14 : let s : State := { (((up [⟨.dispatch, 0⟩]).set F.DISP_CFG_TRACE_EN 1).set F.PART_SIZE_SIZE 1 0 3) with ft := 2 ^ 32 * 10 ^ 9 * 5 }; (s.disp.traceSec ≠ s.fleetSec + 1) ∧ (s.isOn .dispatch = true) ∧ (s.get F.DISP_CFG_TRACE_EN = 1) ∧ (s.get F.PART_SIZE_SIZE 0 3 ≠ 0) ∧ (s.isOn .dram = false) := by decide +kernel

/-- A state and operands that meet the hypotheses of a clause of `Obligations.DispatcherItems`. -/
theorem test_wit_DispatcherItems_15 : let s : State := let s := State.reset; { s with disp := { s.disp with traceSec := s.fleetSec + 1 } }; (s.disp.traceSec = s.fleetSec + 1) := by decide +kernel

/-- A state and operands that meet the hypotheses of a clause of `Obligations.TaskBoard`. -/
theorem test_wit_TaskBoard_1 : let tg : Nat := 0x80; let q : Nat := 0; let i : Nat := 1; let data : Nat := TK.energy.set (TK.dock.set (TK.kind.set 0 1) 5) 77; let key : List Nat := []; let s : State := (up [⟨.taskboard, 0⟩]).setTe ⟨.taskboard, 0⟩ 0 0 (TK.state.set 0 1) |>.setTe ⟨.taskboard, 0⟩ 0 1 (TK.id.set 0 0x2001); (s.gated = false) ∧ (s.isOn .taskboard = true) ∧ (0x80 ≤ tg) ∧ (tg ≤ 0xBF) ∧ (s.tagBusy tg = false) ∧ (s.get F.LEASE_STATUS_REBASING = 0) ∧ (lowestFree s.tasksLive 4096 0 = some i) := by decide +kernel

/-- A state and operands that meet the hypotheses of a clause of `Obligations.TaskBoard`. -/
theorem test_wit_TaskBoard_2 : let tg : Nat := 0x80; let q : Nat := 0; let i : Nat := 5; let d : Nat := 3; let lo : Nat := 9; let hi : Nat := 1; let data : Nat := 0; let s : State := ((up [⟨.taskboard, 0⟩]).set F.SVC_STATUS_LEVEL 2).setTe ⟨.taskboard, 0⟩ 0 5 (TK.state.set (TK.id.set 0 0x2005) 1); (s.gated = false) ∧ (s.isOn .taskboard = true) ∧ (0x80 ≤ tg) ∧ (tg ≤ 0xBF) ∧ (s.tagBusy tg = false) ∧ (s.get F.LEASE_STATUS_REBASING = 0) ∧ (i < 4096) ∧ (TK.id.get (s.task i) % 4096 = i) ∧ (2 ≤ s.get F.SVC_STATUS_LEVEL) ∧ (TK.state.get (s.task i) = 1) ∧ (d < 2 ^ 16) ∧ (lo < 2 ^ 32) ∧ (hi < 2 ^ 32) := by decide +kernel

/-- A state and operands that meet the hypotheses of a clause of `Obligations.TaskBoard`. -/
theorem test_wit_TaskBoard_3 : let tg : Nat := 0x80; let q : Nat := 0; let i : Nat := 5; let data : Nat := 0; let key : List Nat := []; let s : State := (up [⟨.taskboard, 0⟩]).setTe ⟨.taskboard, 0⟩ 0 5 (TK.state.set (TK.id.set 0 0x2005) 1); (s.gated = false) ∧ (s.isOn .taskboard = true) ∧ (0x80 ≤ tg) ∧ (tg ≤ 0xBF) ∧ (s.tagBusy tg = false) ∧ (s.get F.LEASE_STATUS_REBASING = 0) ∧ (i < 4096) ∧ (TK.id.get (s.task i) % 4096 = i) ∧ (s.get F.SVC_STATUS_LEVEL < 2) := by decide +kernel

/-- A state and operands that meet the hypotheses of a clause of `Obligations.TaskBoard`. -/
theorem test_wit_TaskBoard_4 : let tg : Nat := 0x80; let q : Nat := 0; let i : Nat := 5; let m : Nat := 3; let data : Nat := 0; let s : State := ((up [⟨.taskboard, 0⟩]).set F.SVC_STATUS_LEVEL 2).setTe ⟨.taskboard, 0⟩ 0 5 (TK.offerTo.set (TK.state.set (TK.id.set 0 0x2005) 2) 3); (s.gated = false) ∧ (s.isOn .taskboard = true) ∧ (0x80 ≤ tg) ∧ (tg ≤ 0xBF) ∧ (s.tagBusy tg = false) ∧ (s.get F.LEASE_STATUS_REBASING = 0) ∧ (i < 4096) ∧ (TK.id.get (s.task i) % 4096 = i) ∧ (2 ≤ s.get F.SVC_STATUS_LEVEL) ∧ (TK.state.get (s.task i) = 2) ∧ (s.offerLapsed i = false) ∧ (m < 512) ∧ (bit (TK.offerTo.get (s.task i)) 15 = true ∨ bits (TK.offerTo.get (s.task i)) 0 9 = m) ∧ (s.dockBusy i = false) := by decide +kernel

/-- A state and operands that meet the hypotheses of a clause of `Obligations.TaskBoard`. -/
theorem test_wit_TaskBoard_5 : let tg : Nat := 0x80; let q : Nat := 0; let i : Nat := 5; let m : Nat := 4; let data : Nat := 0; let s : State := ((up [⟨.taskboard, 0⟩]).set F.SVC_STATUS_LEVEL 2).setTe ⟨.taskboard, 0⟩ 0 5 (TK.offerTo.set (TK.state.set (TK.id.set 0 0x2005) 2) 0x8003); (s.gated = false) ∧ (s.isOn .taskboard = true) ∧ (0x80 ≤ tg) ∧ (tg ≤ 0xBF) ∧ (s.tagBusy tg = false) ∧ (s.get F.LEASE_STATUS_REBASING = 0) ∧ (i < 4096) ∧ (TK.id.get (s.task i) % 4096 = i) ∧ (2 ≤ s.get F.SVC_STATUS_LEVEL) ∧ (TK.state.get (s.task i) = 2) ∧ (s.offerLapsed i = false) ∧ (m < 512) ∧ (bit (TK.offerTo.get (s.task i)) 15 = true ∨ bits (TK.offerTo.get (s.task i)) 0 9 = m) ∧ (s.dockBusy i = false) := by decide +kernel

/-- A state and operands that meet the hypotheses of a clause of `Obligations.TaskBoard`. -/
theorem test_wit_TaskBoard_6 : let tg : Nat := 0x80; let q : Nat := 0; let i : Nat := 5; let m : Nat := 4; let data : Nat := 0; let s : State := ((up [⟨.taskboard, 0⟩]).set F.SVC_STATUS_LEVEL 2).setTe ⟨.taskboard, 0⟩ 0 5 (TK.offerTo.set (TK.state.set (TK.id.set 0 0x2005) 2) 3); (s.gated = false) ∧ (s.isOn .taskboard = true) ∧ (0x80 ≤ tg) ∧ (tg ≤ 0xBF) ∧ (s.tagBusy tg = false) ∧ (s.get F.LEASE_STATUS_REBASING = 0) ∧ (i < 4096) ∧ (TK.id.get (s.task i) % 4096 = i) ∧ (2 ≤ s.get F.SVC_STATUS_LEVEL) ∧ (TK.state.get (s.task i) = 2) ∧ (s.offerLapsed i = false) ∧ (m < 512) ∧ (bit (TK.offerTo.get (s.task i)) 15 = false) ∧ (bits (TK.offerTo.get (s.task i)) 0 9 ≠ m) := by decide +kernel

/-- A state and operands that meet the hypotheses of a clause of `Obligations.TaskBoard`. -/
theorem test_wit_TaskBoard_7 : let tg : Nat := 0x80; let q : Nat := 0; let i : Nat := 5; let data : Nat := 0; let key : List Nat := []; let s : State := ((up [⟨.taskboard, 0⟩]).set F.SVC_STATUS_LEVEL 2).setTe ⟨.taskboard, 0⟩ 0 5 (TK.kind.set (TK.state.set (TK.id.set 0 0x2005) 3) 1) |>.setTe ⟨.meter, 0⟩ 1 0 77; (s.gated = false) ∧ (s.isOn .taskboard = true) ∧ (0x80 ≤ tg) ∧ (tg ≤ 0xBF) ∧ (s.tagBusy tg = false) ∧ (s.get F.LEASE_STATUS_REBASING = 0) ∧ (i < 4096) ∧ (TK.id.get (s.task i) % 4096 = i) ∧ (2 ≤ s.get F.SVC_STATUS_LEVEL) ∧ (TK.state.get (s.task i) = 3) ∧ (s.taskOverdue i = false) := by decide +kernel

/-- A state and operands that meet the hypotheses of a clause of `Obligations.TaskBoard`. -/
theorem test_wit_TaskBoard_8 : let tg : Nat := 0x80; let q : Nat := 0; let i : Nat := 5; let w : Nat := 1; let data : Nat := 0; let s : State := (up [⟨.taskboard, 0⟩]).setTe ⟨.taskboard, 0⟩ 0 5 (TK.state.set (TK.id.set 0 0x2005) 4); (s.gated = false) ∧ (s.isOn .taskboard = true) ∧ (0x80 ≤ tg) ∧ (tg ≤ 0xBF) ∧ (s.tagBusy tg = false) ∧ (s.get F.LEASE_STATUS_REBASING = 0) ∧ (i < 4096) ∧ (TK.id.get (s.task i) % 4096 = i) ∧ (TK.state.get (s.task i) = 4) ∧ ((2 ≤ s.get F.SVC_STATUS_LEVEL → s.taskOverdue i = false)) ∧ (w < 2) := by decide +kernel

/-- A state and operands that meet the hypotheses of a clause of `Obligations.TaskBoard`. -/
theorem test_wit_TaskBoard_9 : let tg : Nat := 0x80; let q : Nat := 0; let i : Nat := 5; let w : Nat := 0; let data : Nat := 0; let s : State := ((up [⟨.taskboard, 0⟩]).set F.SVC_STATUS_LEVEL 2).setTe ⟨.taskboard, 0⟩ 0 5 (TK.energy.set (TK.state.set (TK.id.set 0 0x2005) 4) 9); (s.gated = false) ∧ (s.isOn .taskboard = true) ∧ (0x80 ≤ tg) ∧ (tg ≤ 0xBF) ∧ (s.tagBusy tg = false) ∧ (s.get F.LEASE_STATUS_REBASING = 0) ∧ (i < 4096) ∧ (TK.id.get (s.task i) % 4096 = i) ∧ (TK.state.get (s.task i) = 4) ∧ ((2 ≤ s.get F.SVC_STATUS_LEVEL → s.taskOverdue i = false)) ∧ (w < 2) := by decide +kernel

/-- A state and operands that meet the hypotheses of a clause of `Obligations.TaskBoard`. -/
theorem test_wit_TaskBoard_10 : let tg : Nat := 0x80; let q : Nat := 0; let i : Nat := 5; let data : Nat := 0; let key : List Nat := []; let s : State := (up [⟨.taskboard, 0⟩]).setTe ⟨.taskboard, 0⟩ 0 5 (TK.holder.set (TK.state.set (TK.id.set 0 0x2005) 4) 0x8003); (s.gated = false) ∧ (s.isOn .taskboard = true) ∧ (0x80 ≤ tg) ∧ (tg ≤ 0xBF) ∧ (s.tagBusy tg = false) ∧ (s.get F.LEASE_STATUS_REBASING = 0) ∧ (i < 4096) ∧ (TK.id.get (s.task i) % 4096 = i) ∧ (1 ≤ TK.state.get (s.task i)) ∧ (TK.state.get (s.task i) ≤ 4) ∧ (s.offerLapsed i = false) ∧ (s.taskOverdue i = false) := by decide +kernel

/-- A state and operands that meet the hypotheses of a clause of `Obligations.TaskBoard`. -/
theorem test_wit_TaskBoard_11 : let tg : Nat := 0x80; let q : Nat := 0; let i : Nat := 5; let data : Nat := 0; let key : List Nat := []; let s : State := (up [⟨.taskboard, 0⟩]).setTe ⟨.taskboard, 0⟩ 0 5 (TK.state.set (TK.id.set 0 0x2005) 6); (s.gated = false) ∧ (s.isOn .taskboard = true) ∧ (0x80 ≤ tg) ∧ (tg ≤ 0xBF) ∧ (s.tagBusy tg = false) ∧ (s.get F.LEASE_STATUS_REBASING = 0) ∧ (i < 4096) ∧ (TK.id.get (s.task i) % 4096 = i) ∧ (5 ≤ TK.state.get (s.task i)) := by decide +kernel

/-- A state and operands that meet the hypotheses of a clause of `Obligations.TaskBoard`. -/
theorem test_wit_TaskBoard_12 : let i : Nat := 5; let s : State := { ((up [⟨.taskboard, 0⟩]).set F.SVC_STATUS_LEVEL 2).setTe ⟨.taskboard, 0⟩ 0 5 (TK.claimBy.set (TK.state.set (TK.id.set 0 0x2005) 2) 5) with ft := 5000000 * 2 ^ 32 }; (s.isOn .taskboard = true) ∧ (s.offDuty = false) ∧ (i < 4096) ∧ (2 ≤ s.get F.SVC_STATUS_LEVEL) ∧ (s.offerLapsed i = true) := by decide +kernel

/-- A state and operands that meet the hypotheses of a clause of `Obligations.TaskBoard`. -/
theorem test_wit_TaskBoard_13 : let i : Nat := 5; let s : State := { ((up [⟨.taskboard, 0⟩]).set F.SVC_STATUS_LEVEL 2).setTe ⟨.taskboard, 0⟩ 0 5 (TK.due.set (TK.state.set (TK.id.set 0 0x2005) 4) 5) with ft := 5000000 * 2 ^ 32 }; (s.isOn .taskboard = true) ∧ (s.offDuty = false) ∧ (i < 4096) ∧ (2 ≤ s.get F.SVC_STATUS_LEVEL) ∧ (s.taskOverdue i = true) := by decide +kernel

/-- A state and operands that meet the hypotheses of a clause of `Obligations.TaskBoard`. -/
theorem test_wit_TaskBoard_14 : let i : Nat := 5; let d : Nat := 2; let s : State := ((up [⟨.taskboard, 0⟩, ⟨.meter, 0⟩]).setTe ⟨.taskboard, 0⟩ 0 5 (TK.dock.set (TK.kind.set (TK.state.set (TK.id.set 0 0x2005) 4) 1) 2)).setTe ⟨.taskboard, 0⟩ 8 5 7 |>.setTe ⟨.meter, 0⟩ 1 2 90007 |>.setTe ⟨.meter, 0⟩ 0 5 (MC.en.set 0 1) |>.setTe ⟨.meter, 0⟩ 0 0 (MC.en.set 0 1); (s.wf = true) ∧ (s.disp.taskSec ≠ s.fleetSec + 1) ∧ (s.offDuty = false) ∧ (s.isOn .taskboard = true) ∧ (i ∈ s.tasksLive) ∧ (s.taskSt i = 4) ∧ (TK.kind.get (s.task i) = 1) ∧ (d = TK.dock.get (s.task i)) ∧ (s.dockInvalid d = false) := by decide +kernel

/-- A state and operands that meet the hypotheses of a clause of `Obligations.TaskBoard`. -/
theorem test_wit_TaskBoard_15 : let i : Nat := 5; let d : Nat := 2; let s : State := (up [⟨.taskboard, 0⟩]).setTe ⟨.taskboard, 0⟩ 0 5 (TK.dock.set (TK.kind.set (TK.state.set (TK.id.set 0 0x2005) 4) 1) 2); (s.wf = true) ∧ (s.disp.taskSec ≠ s.fleetSec + 1) ∧ (s.offDuty = false) ∧ (s.isOn .taskboard = true) ∧ (i ∈ s.tasksLive) ∧ (s.taskSt i = 4) ∧ (TK.kind.get (s.task i) = 1) ∧ (d = TK.dock.get (s.task i)) ∧ (s.dockInvalid d = true) ∧ (TK.invalid.get (s.task i) = 0) := by decide +kernel

/-- A state and operands that meet the hypotheses of a clause of `Obligations.RegionArbiter`. -/
theorem test_wit_RegionArbiter_1 : let region : Nat := 4; let r : Nat := 14; let beats : Nat := 16; let write : Bool := true; let s : State := State.reset; (region < 8) ∧ (region < s.arb.length) ∧ (isRequester region r = true) ∧ (1 ≤ beats) ∧ (beats ≤ 256) ∧ ((s.arbOf region).grant = none) ∧ ((s.arbOf region).parked = []) ∧ ((s.arbOf region).stalled = []) ∧ ((s.arbOf region).decideAt = none) ∧ (s.get F.ARB_CTRL_FREEZE region = 0) ∧ (r < 32) ∧ ((s.arbOf region).last.length = 3) := by decide +kernel

/-- A state and operands that meet the hypotheses of a clause of `Obligations.RegionArbiter`. -/
theorem test_wit_RegionArbiter_2 : let region : Nat := 7; let r : Nat := 31; let beats : Nat := 256; let write : Bool := false; let s : State := State.reset; (region < 8) ∧ (region < s.arb.length) ∧ (isRequester region r = true) ∧ (1 ≤ beats) ∧ (beats ≤ 256) ∧ ((s.arbOf region).grant = none) ∧ ((s.arbOf region).parked = []) ∧ ((s.arbOf region).stalled = []) ∧ ((s.arbOf region).decideAt = none) ∧ (s.get F.ARB_CTRL_FREEZE region = 0) ∧ (r < 32) ∧ ((s.arbOf region).last.length = 3) := by decide +kernel

/-- A state and operands that meet the hypotheses of a clause of `Obligations.RegionArbiter`. -/
theorem test_wit_RegionArbiter_3 : let region : Nat := 4; let r : Nat := 14; let beats : Nat := 16; let write : Bool := true; let g : ArbGrant := ⟨⟨2, 8, 0⟩, 8⟩; let s : State := { State.reset with arb := setNth State.reset.arb 4 { grant := some ⟨⟨2, 8, 0⟩, 8⟩ } }; (region < 8) ∧ (region < s.arb.length) ∧ (isRequester region r = true) ∧ (1 ≤ beats) ∧ (beats ≤ 256) ∧ ((s.arbOf region).grant = some g) ∧ ((s.arbOf region).decideAt = none) ∧ (((s.arbOf region).parked.filter fun q => q.who = r).length < 4) := by decide +kernel

/-- A state and operands that meet the hypotheses of a clause of `Obligations.RegionArbiter`. -/
theorem test_wit_RegionArbiter_4 : let region : Nat := 4; let r : Nat := 14; let beats : Nat := 16; let write : Bool := true; let s : State := { State.reset with arb := setNth State.reset.arb 4 { grant := some ⟨⟨2, 8, 0⟩, 8⟩, parked := List.replicate 4 ⟨14, 1, 0⟩ } }; (region < 8) ∧ (region < s.arb.length) ∧ (isRequester region r = true) ∧ (1 ≤ beats) ∧ (beats ≤ 256) ∧ ((s.arbOf region).decideAt = none) ∧ (4 ≤ ((s.arbOf region).parked.filter fun q => q.who = r).length) ∧ (((s.arbOf region).stalled.any fun q => decide (q.who = r)) = false) := by decide +kernel

/-- A state and operands that meet the hypotheses of a clause of `Obligations.RegionArbiter`. -/
theorem test_wit_RegionArbiter_5 : let region : Nat := 4; let r : Nat := 14; let beats : Nat := 16; let p : Page := ⟨.meter, 0⟩; let s : State := State.reset; (region < 8) ∧ (isRequester region r = true) ∧ (1 ≤ beats) ∧ (beats ≤ 256) ∧ (s.st p ≠ stOn) := by decide +kernel

/-- A state and operands that meet the hypotheses of a clause of `Obligations.RegionArbiter`. -/
theorem test_wit_RegionArbiter_6 : let region : Nat := 4; let g : ArbGrant := ⟨⟨2, 8, 0⟩, 8⟩; let s : State := { State.reset with arb := setNth State.reset.arb 4 { grant := some ⟨⟨2, 8, 0⟩, 8⟩ } }; (region < 8) ∧ (region < s.arb.length) ∧ ((s.arbOf region).grant = some g) ∧ ((s.arbOf region).decideAt = none) ∧ (g.req.beats ≤ g.len) ∧ ((s.arbOf region).parked = []) := by decide +kernel

/-- A state and operands that meet the hypotheses of a clause of `Obligations.RegionArbiter`. -/
theorem test_wit_RegionArbiter_7 : let region : Nat := 4; let g : ArbGrant := ⟨⟨2, 8, 0⟩, 8⟩; let s : State := { State.reset with arb := setNth State.reset.arb 4 { grant := some ⟨⟨2, 8, 0⟩, 8⟩ } }; (region < 8) ∧ (region < s.arb.length) ∧ ((s.arbOf region).grant = some g) ∧ ((s.arbOf region).decideAt = none) := by decide +kernel

/-- A state and operands that meet the hypotheses of a clause of `Obligations.RegionArbiter`. -/
theorem test_wit_RegionArbiter_8 : let region : Nat := 4; let r : Nat := 14; let k : Nat := 1; let s : State := { State.reset with arb := setNth State.reset.arb 4 { grant := some ⟨⟨2, 8, 0⟩, 8⟩, parked := [⟨14, 1, 0⟩, ⟨3, 1, 0⟩, ⟨14, 2, 0⟩] } }; (region < 8) ∧ (region < s.arb.length) ∧ ((s.arbOf region).decideAt = none) ∧ (k < ((s.arbOf region).parked.filter fun q => q.who = r).length) ∧ ((s.arbOf region).stalled = []) := by decide +kernel

/-- A state and operands that meet the hypotheses of a clause of `Obligations.RegionArbiter`. -/
theorem test_wit_RegionArbiter_9 : let region : Nat := 4; let s : State := { State.reset with now := sec 1, arb := setNth State.reset.arb 4 { used := AMap.set (fun _ => 0) [] 14 3 } }; (region < 8) ∧ (region < s.arb.length) ∧ ((s.arbOf region).decideAt = none) ∧ ((s.arbOf region).winAt + max 1 (s.get F.ARB_CFG_QUOTA_WIN region) * cyclePs ≤ s.now) := by decide +kernel

/-- A state and operands that meet the hypotheses of a clause of `Obligations.RegionArbiter`. -/
theorem test_wit_RegionArbiter_10 : let region : Nat := 4; let src : Src := .host; let s : State := State.reset; (region < 8) ∧ (region < s.arb.length) ∧ (s.jtagBars src ⟨.regionCtl, region⟩ true = false) ∧ (s.get F.ARB_CTRL_FREEZE region = 0) := by decide +kernel

/-- A state and operands that meet the hypotheses of a clause of `Obligations.RegionArbiter`. -/
theorem test_wit_RegionArbiter_11 : let region : Nat := 4; let src : Src := .sup; let s : State := State.reset; (region < 8) ∧ (region < s.arb.length) ∧ (s.jtagBars src ⟨.regionCtl, region⟩ true = false) ∧ (s.get F.ARB_CTRL_FREEZE region = 0) := by decide +kernel

/-- A state and operands that meet the hypotheses of a clause of `Obligations.RegionArbiter`. -/
theorem test_wit_RegionArbiter_12 : let region : Nat := 4; let src : Src := .host; let s : State := State.reset.set F.ARB_CTRL_FREEZE 1 4; (region < 8) ∧ (region < s.arb.length) ∧ (s.jtagBars src ⟨.regionCtl, region⟩ true = false) ∧ (s.get F.ARB_CTRL_FREEZE region = 1) := by decide +kernel

/-- A state and operands that meet the hypotheses of a clause of `Obligations.RegionArbiter`. -/
theorem test_wit_RegionArbiter_13 : let region : Nat := 4; let a : Nat := 0; let s : State := { State.reset.set F.ARB_CTRL_FREEZE 1 4 with now := sec 1, arb := setNth State.reset.arb 4 { freezeAt := some 0 } }; (region < 8) ∧ (region < s.arb.length) ∧ ((s.arbOf region).freezeAt = some a) ∧ (a + ms (s.get F.ARB_CFG_FREEZE_MAX region) ≤ s.now) := by decide +kernel

/-- A state and operands that meet the hypotheses of a clause of `Obligations.RegionArbiter`. -/
theorem test_wit_RegionArbiter_14 : let region : Nat := 4; let r : Nat := 31; let s : State := State.reset; (region < 8) ∧ (region < s.arb.length) ∧ (r < 32) := by decide +kernel

/-- A state and operands that meet the hypotheses of a clause of `Obligations.PciExpressAndVectors`. -/
theorem test_wit_PciExpressAndVectors_1 : let s : State := up [⟨.pcie, 0⟩]; let speed : Nat := 3; let width : Nat := 4; let bme : Bool := true; (s.isOn .pcie = true) ∧ (1 ≤ speed) ∧ (speed ≤ 3) ∧ (width = 1 ∨ width = 2 ∨ width = 4) := by decide +kernel

/-- A state and operands that meet the hypotheses of a clause of `Obligations.PciExpressAndVectors`. -/
theorem test_wit_PciExpressAndVectors_2 : let s : State := let s := (((up [⟨.irq, 0⟩]).set F.PCIE_STATUS_LINK_UP 1).set F.PCIE_STATUS_BME 1).set F.ROUTE_EN 1 0 1; (s.setReg ((⟨.fault, 0⟩ : Page).adr 0x01C) 1).setReg ((⟨.fault, 0⟩ : Page).adr 0x020) 1; let v : Nat := 0; (v < 64) ∧ (s.vecAsserts v = true) ∧ (v ∉ s.vecSent) ∧ (s.isOn .irq = true) ∧ (s.get F.PCIE_STATUS_LINK_UP = 1) ∧ (s.get F.PCIE_STATUS_BME = 1) := by decide +kernel

/-- A state and operands that meet the hypotheses of a clause of `Obligations.PciExpressAndVectors`. -/
theorem test_wit_PciExpressAndVectors_3 : let s : State := { up [⟨.irq, 0⟩] with vecSent := [3, 5] }; let v : Nat := 3; (s.isOn .irq = true) ∧ (s.vecAsserts v = false) := by decide +kernel

/-- A state and operands that meet the hypotheses of a clause of `Obligations.PciExpressAndVectors`. -/
theorem test_wit_PciExpressAndVectors_4 : let s : State := let s := (((up [⟨.irq, 0⟩]).set F.PCIE_STATUS_LINK_UP 1).set F.PCIE_STATUS_BME 1).set F.ROUTE_EN 1 0 1; { (s.setReg ((⟨.fault, 0⟩ : Page).adr 0x01C) 1).setReg ((⟨.fault, 0⟩ : Page).adr 0x020) 1 with vecMask := [], vecSent := [0] }; let v : Nat := 0; (s.isOn .irq = true) ∧ (s.vecAsserts v = true) ∧ (v ∉ s.vecMask) ∧ (s.get F.PCIE_STATUS_LINK_UP = 1) ∧ (s.get F.PCIE_STATUS_BME = 1) := by decide +kernel

/-- A state and operands that meet the hypotheses of a clause of `Obligations.PciExpressAndVectors`. -/
theorem test_wit_PciExpressAndVectors_5 : let s : State := (up [⟨.pcie, 0⟩]).set F.PCIE_STATUS_LINK_UP 1; let perst : Bool := false; (s.powered = true) ∧ (s.isOn .pcie = true) ∧ (s.get F.PCIE_STATUS_LINK_UP = 1) := by decide +kernel

/-- A state and operands that meet the hypotheses of a clause of `Obligations.PciExpressAndVectors`. -/
theorem test_wit_PciExpressAndVectors_6 : let s : State := ((up [⟨.pcie, 0⟩]).set F.PCIE_STATUS_LINK_UP 1).set F.PCIE_STATUS_BME 1; (s.powered = true) ∧ (s.isOn .pcie = true) ∧ (s.get F.PCIE_STATUS_LINK_UP = 1) := by decide +kernel

/-- A state and operands that meet the hypotheses of a clause of `Obligations.PciExpressAndVectors`. -/
theorem test_wit_PciExpressAndVectors_7 : let s : State := State.reset; (s.powered = true) := by decide +kernel

/-- A state and operands that meet the hypotheses of a clause of `Obligations.PciExpressAndVectors`. -/
theorem test_wit_PciExpressAndVectors_8 : let s : State := { State.reset with ls := { State.reset.ls with seqs := [{ handle := 1, owner := 576, gen := 7, at_ := 0, target := 0, lo := 0, hi := 0, edits := [] }] } }; let i : Nat := 576; (i < 578) ∧ (s.powered = true) ∧ (s.oldLeft i = true) := by decide +kernel

/-- A state and operands that meet the hypotheses of a clause of `Obligations.FlumeQueues`. -/
theorem test_wit_FlumeQueues_1 : let port : Nat := 0; let queue : Nat := 0; let seq : Nat := 1; let i : ImgSeen := {}; let s : State := let s := up [⟨.eth, 0⟩, ⟨.flume, 0⟩]; s.setQ 0 { s.q 0 with toChip := true, en := true, ringKB := 16 }; let f : EthFrame := ⟨true, 0xFFFFFFFFFFFF, 5, none, s.get F.FLUME_CFG_ETHERTYPE, [1, 0, 0, s.number, 1, 0, 0, 0] ++ toBytes 2 (s.get F.FLUME_STATUS_SESSION) ++ [0, 0, 0, 0, 0, 0]⟩; (port < 2) ∧ (s.powered = true) ∧ (s.boot.waiting = false) ∧ (s.isOn .eth port = true) ∧ (s.isOn .flume = true) ∧ (s.linkFrozen = false) ∧ ((s.ethSt port).buf = []) ∧ (f.fcsOk = true) ∧ (f.da = 0xFFFFFFFFFFFF ∨ f.da = s.macOf port) ∧ (s.get F.ETH_CFG_VLAN_EN port = 0) ∧ (f.etype = s.get F.FLUME_CFG_ETHERTYPE) ∧ (s.funnelled = false) ∧ (queue < 64) ∧ ((s.q queue).toChip = true) ∧ ((s.q queue).en = true) ∧ (seq = ((s.q queue).ackSeq + 1) % 2 ^ 32) ∧ (1 ≤ s.grantWindow (s.q queue)) ∧ (s.number < 64) ∧ (f.body = [1, 0, queue, s.number] ++ toBytes 4 seq ++ toBytes 2 (s.get F.FLUME_STATUS_SESSION) ++ [0, 0, 0, 0, 0, 0]) := by decide +kernel

/-- A state and operands that meet the hypotheses of a clause of `Obligations.FlumeQueues`. -/
theorem test_wit_FlumeQueues_2 : let s : State := { up [⟨.eth, 0⟩, ⟨.flume, 0⟩] with now := 77 }; let port : Nat := 0; let session : Nat := (up []).get F.FLUME_STATUS_SESSION; let l : List Credit := [⟨16, 0, 4, 0⟩]; (port < 2) ∧ (s.isOn .eth port = true) ∧ (s.isOn .flume = true) ∧ (s.funnelled = false) ∧ (session = s.get F.FLUME_STATUS_SESSION) := by decide +kernel

/-- A state and operands that meet the hypotheses of a clause of `Obligations.FlumeQueues`. -/
theorem test_wit_FlumeQueues_3 : let s : State := up [⟨.eth, 0⟩, ⟨.flume, 0⟩]; let port : Nat := 0; let session : Nat := 7; let l : List Credit := []; (port < 2) ∧ (s.isOn .eth port = true) ∧ (s.isOn .flume = true) ∧ (s.funnelled = false) ∧ (session ≠ s.get F.FLUME_STATUS_SESSION) := by decide +kernel

/-- A state and operands that meet the hypotheses of a clause of `Obligations.FlumeQueues`. -/
theorem test_wit_FlumeQueues_4 : let queue : Nat := 20; let s : State := let s := { (up [⟨.eth, 0⟩, ⟨.flume, 0⟩]).set F.ETH_STATUS_LINK 1 0 with now := sec 1 }; s.setQ 20 { s.q 20 with en := true, portSel := 2, window := 4, ringKB := 16, opened := [⟨4, 0, true, true, false, .bytes 7 [1, 2, 3, 4]⟩], ovw := false }; (queue < 64) ∧ ((s.q queue).opened ≠ []) ∧ ((s.q queue).openedAt + us (s.get F.FLUSH_US) ≤ s.now) ∧ ((s.q queue).ring = []) ∧ ((s.q queue).closed = false) ∧ ((s.q queue).ovw = false) ∧ (s.qMay (s.q queue) = true) ∧ (((s.q queue).txSeq + 1 + 2 ^ 32 - (s.q queue).ackSeq) % 2 ^ 32 ≤ (s.q queue).window) ∧ ((s.q queue).txSeq < 2 ^ 32 - 1) ∧ ((s.q queue).ackSeq < 2 ^ 32) := by decide +kernel

/-- A state and operands that meet the hypotheses of a clause of `Obligations.FlumeQueues`. -/
theorem test_wit_FlumeQueues_5 : let queue : Nat := 20; let s : State := let s := { (up [⟨.eth, 0⟩, ⟨.flume, 0⟩]).set F.ETH_STATUS_LINK 1 0 with now := sec 1 }; s.setQ 20 { s.q 20 with en := true, portSel := 0, unacked := [⟨20, 0, 1, 0, [], 0⟩] }; (queue < 64) ∧ ((s.q queue).unacked ≠ []) ∧ ((s.q queue).ackAt + us (s.get F.RETX_TIMEOUT) ≤ s.now) ∧ (s.qMay (s.q queue) = true) := by decide +kernel

/-- A state and operands that meet the hypotheses of a clause of `Obligations.FlumeQueues`. -/
theorem test_wit_FlumeQueues_6 : let s : State := { up [⟨.flume, 0⟩] with now := ms 10 }; (s.isOn .flume = true) ∧ (s.lk.creditAt + ms 10 ≤ s.now) := by decide +kernel

/-- A state and operands that meet the hypotheses of a clause of `Obligations.FlumeQueues`. -/
theorem test_wit_FlumeQueues_7 : let s : State := { State.reset.set F.FLUME_STATUS_HOST_SEEN 1 with now := sec 1000 }; (s.get F.FLUME_STATUS_HOST_SEEN = 1) ∧ (s.lk.seenAt + ms (s.get F.HOST_TIMEOUT) ≤ s.now) := by decide +kernel

/-- A state and operands that meet the hypotheses of a clause of `Obligations.FlumeQueues`. -/
theorem test_wit_FlumeQueues_8 : let queue : Nat := 20; let at_ : Nat := 0; let s : State := let s := { State.reset with now := sec 1 }; s.setQ 20 { s.q 20 with stalledAt := some 0, opened := [⟨4, 0, true, true, false, .bytes 7 [1, 2, 3, 4]⟩] }; ((s.q queue).stalledAt = some at_) ∧ ((s.q queue).toChip = false) ∧ ((s.q queue).window = 0) ∧ (0 < (s.q queue).fill) ∧ (at_ + ms 10 ≤ s.now) := by decide +kernel

/-- A state and operands that meet the hypotheses of a clause of `Obligations.FlumeQueues`. -/
theorem test_wit_FlumeQueues_9 : let queue : Nat := 20; let s : State := up [⟨.flume, 0⟩]; (s.isOn .flume = true) := by decide +kernel

/-- A state and operands that meet the hypotheses of a clause of `Obligations.FlumeQueues`. -/
theorem test_wit_FlumeQueues_10 : let queue : Nat := 0; let c : Compl := ⟨5, 0, 0, 0, none⟩; let s : State := { State.reset with tags := [(0, ⟨5, 0, 0, 0, none⟩)] }; (s.tags = [(queue, c)]) ∧ (s.lk.reads = []) ∧ (s.qRoom (queue + 8) (if c.data.isSome then 72 else 8) = true) := by decide +kernel

/-- A state and operands that meet the hypotheses of a clause of `Obligations.EthernetPorts`. -/
theorem test_wit_EthernetPorts_1 : let s : State := (up [⟨.eth, 1⟩]).set F.ROOT_STATUS_AUX_OK 1; let port : Nat := 1; let anDone : Bool := true; (port < 2) ∧ (s.isOn .eth port = true) ∧ (s.get F.ROOT_STATUS_AUX_OK = 1) ∧ (s.get F.ETH_STATUS_LINK port = 0) := by decide +kernel

/-- A state and operands that meet the hypotheses of a clause of `Obligations.EthernetPorts`. -/
theorem test_wit_EthernetPorts_2 : let s : State := ((up [⟨.eth, 1⟩]).set F.ETH_STATUS_LINK 1 1).set F.ETH_STATUS_PAUSED_RX 5 1; let port : Nat := 1; let anDone : Bool := false; (port < 2) ∧ (s.get F.ETH_STATUS_LINK port = 1) := by decide +kernel

/-- A state and operands that meet the hypotheses of a clause of `Obligations.EthernetPorts`. -/
theorem test_wit_EthernetPorts_3 : let s : State := ((up [⟨.eth, 1⟩]).set F.ETH_CFG_PFC_EN 1 1).set F.ETH_STATUS_PAUSED_RX 0x11 1; let port : Nat := 1; let mask : Nat := 0x93; let quanta : List Nat := [5, 6, 0, 0, 0, 9, 0, 7]; (port < 2) ∧ (s.isOn .eth port = true) ∧ (s.get F.ETH_CFG_PFC_EN port = 1) := by decide +kernel

/-- A state and operands that meet the hypotheses of a clause of `Obligations.EthernetPorts`. -/
theorem test_wit_EthernetPorts_4 : let s : State := (up [⟨.eth, 1⟩]).set F.ETH_STATUS_PAUSED_RX 0x15 1; let port : Nat := 1; let prio : Nat := 2; (port < 2) ∧ (prio < 8) ∧ (nth 0 (s.ethSt port).pauseEnd prio ≤ s.now) := by decide +kernel

/-- A state and operands that meet the hypotheses of a clause of `Obligations.EthernetPorts`. -/
theorem test_wit_EthernetPorts_5 : let port : Nat := 0; let s : State := let s := ((((up [⟨.eth, 0⟩]).set F.ETH_CFG_PFC_EN 1 0).set F.PFC_XOFF 0 0).set F.ARB_CTRL_FREEZE 1 5); { s with now := ms 1, lk := { s.lk with eth0 := { s.lk.eth0 with buf := [(3, 0, ⟨true, 1, 2, none, 3, [1, 2]⟩)] } } }; (port < 2) ∧ (s.isOn .eth port = true) ∧ (s.linkFrozen = true) ∧ (s.get F.ETH_CFG_PFC_EN port = 1) ∧ (s.get F.PFC_XOFF port * 1024 < (s.ethSt port).fill) ∧ ((s.ethSt port).xoffAt + us 250 ≤ s.now) := by decide +kernel

/-- A state and operands that meet the hypotheses of a clause of `Obligations.EthernetPorts`. -/
theorem test_wit_EthernetPorts_6 : let s : State := up [⟨.eth, 1⟩]; let port : Nat := 1; let f : EthFrame := ⟨true, 0xFFFFFFFFFFFF, 5, none, 0x0806, []⟩; (port < 2) ∧ (s.isOn .eth port = true) ∧ (f.fcsOk = true) ∧ (f.da = 0xFFFFFFFFFFFF ∨ f.da = s.macOf port) ∧ (s.get F.ETH_CFG_VLAN_EN port = 0) ∧ (ptpFrame f.bytes 320 = false) := by decide +kernel

/-- A state and operands that meet the hypotheses of a clause of `Obligations.EthernetPorts`. -/
theorem test_wit_EthernetPorts_7 : let s : State := up [⟨.eth, 1⟩]; let port : Nat := 1; let f : EthFrame := ⟨true, 0xFFFFFFFFFFFF, 5, none, 0x0806, []⟩; (port < 2) ∧ (s.isOn .eth port = true) ∧ (f.fcsOk = true) ∧ (f.da = 0xFFFFFFFFFFFF ∨ f.da = s.macOf port) ∧ (s.get F.ETH_CFG_VLAN_EN port = 0) ∧ (ptpFrame f.bytes 320 = false) := by decide +kernel

/-- A state and operands that meet the hypotheses of a clause of `Obligations.CanalLink`. -/
theorem test_wit_CanalLink_1 : let port : Nat := 1; let ackSeq : Nat := 0; let crClass : Nat := 0; let crTotal : Nat := 0; let seq : Option Nat := some 4; let b : Option CanalBody := none; let s : State := up [⟨.canal, 1⟩]; (port < 2) ∧ (s.isOn .canal port = true) := by decide +kernel

/-- A state and operands that meet the hypotheses of a clause of `Obligations.CanalLink`. -/
theorem test_wit_CanalLink_2 : let port : Nat := 1; let q : Nat := 0; let ackSeq : Nat := 0; let crClass : Nat := 2; let crTotal : Nat := 5; let s : State := ((up [⟨.canal, 1⟩]).set F.CPORT_STATUS_STATE 2 1).setCport 1 { rxSeq := 4095 }; (port < 2) ∧ (s.isOn .canal port = true) ∧ (s.canalUp port = true) ∧ (q < 4096) ∧ (q = ((s.cport port).rxSeq + 1) % 4096) ∧ ((s.cport port).replay = []) ∧ ((s.cport port).txq = []) := by decide +kernel

/-- A state and operands that meet the hypotheses of a clause of `Obligations.CanalLink`. -/
theorem test_wit_CanalLink_3 : let port : Nat := 1; let ackSeq : Nat := 0; let crClass : Nat := 2; let crTotal : Nat := 5; let h : Hello := ⟨9, false, 0, 63, true, false, 0⟩; let s : State := (up [⟨.canal, 1⟩]).set F.CPORT_STATUS_STATE 2 1; (port < 2) ∧ (s.isOn .canal port = true) ∧ (s.canalUp port = true) ∧ (h.number < 64) := by decide +kernel

/-- A state and operands that meet the hypotheses of a clause of `Obligations.CanalLink`. -/
theorem test_wit_CanalLink_4 : let port : Nat := 1; let h : Hello := ⟨State.reset.canal.site, false, 1, 63, true, false, 0⟩; let laneSwap : Bool := true; let s : State := (up [⟨.canal, 1⟩]).set F.CPORT_STATUS_STATE 1 1; (port < 2) ∧ (s.get F.CPORT_STATUS_STATE port = 1) ∧ (s.now ≤ (s.cport port).trainAt + ms 2) ∧ (s.isOn .canal port = true) ∧ (h.site = s.canal.site) ∧ (h.number < 64) ∧ (h.role < 2) := by decide +kernel

/-- A state and operands that meet the hypotheses of a clause of `Obligations.CanalLink`. -/
theorem test_wit_CanalLink_5 : let port : Nat := 0; let h : Hello := ⟨State.reset.canal.site + 1, false, 1, 63, true, false, 0⟩; let laneSwap : Bool := true; let s : State := (up [⟨.canal, 0⟩]).set F.CPORT_STATUS_STATE 1 0; (port < 2) ∧ (s.get F.CPORT_STATUS_STATE port = 1) ∧ (s.now ≤ (s.cport port).trainAt + ms 2) ∧ (s.isOn .canal port = true) ∧ (h.site ≠ s.canal.site) := by decide +kernel

/-- A state and operands that meet the hypotheses of a clause of `Obligations.CanalLink`. -/
theorem test_wit_CanalLink_6 : let port : Nat := 1; let s : State := { (up [⟨.canal, 1⟩]).set F.CPORT_STATUS_STATE 1 1 with now := ms 2 }; (port < 2) ∧ (s.get F.CPORT_STATUS_STATE port = 1) ∧ ((s.cport port).trainAt + ms 2 ≤ s.now) := by decide +kernel

/-- A state and operands that meet the hypotheses of a clause of `Obligations.CanalLink`. -/
theorem test_wit_CanalLink_7 : let port : Nat := 1; let lockLost : Bool := true; let s : State := (up [⟨.canal, 1⟩]).set F.CPORT_STATUS_STATE 2 1; (port < 2) ∧ (s.canalUp port = true) ∧ (lockLost = true ∨ (s.cport port).goodAt + us 4 ≤ s.now ∨ 8 ≤ (s.cport port).replaysRow) := by decide +kernel

/-- A state and operands that meet the hypotheses of a clause of `Obligations.CanalLink`. -/
theorem test_wit_CanalLink_8 : let port : Nat := 0; let lockLost : Bool := false; let s : State := ((up [⟨.canal, 0⟩]).set F.CPORT_STATUS_STATE 2 0).setCport 0 { replaysRow := 8 }; (port < 2) ∧ (s.canalUp port = true) ∧ (lockLost = true ∨ (s.cport port).goodAt + us 4 ≤ s.now ∨ 8 ≤ (s.cport port).replaysRow) := by decide +kernel

/-- A state and operands that meet the hypotheses of a clause of `Obligations.CanalLink`. -/
theorem test_wit_CanalLink_9 : let port : Nat := 1; let q : Nat := 7; let m : CanalMsg := ⟨some 3, 0, 0, 0, 1, 0, true, .regAns false 5 6⟩; let s : State := { ((up [⟨.canal, 1⟩]).set F.CPORT_STATUS_STATE 2 1).setCport 1 { replay := [(7, ⟨some 3, 0, 0, 0, 1, 0, true, .regAns false 5 6⟩)] } with now := us 1 }; (port < 2) ∧ (s.canalUp port = true) ∧ ((s.cport port).replay = [(q, m)]) ∧ ((s.cport port).ackAt + us 1 ≤ s.now) := by decide +kernel

/-- A state and operands that meet the hypotheses of a clause of `Obligations.CanalLink`. -/
theorem test_wit_CanalLink_10 : let port : Nat := 1; let m : CanalMsg := ⟨some 3, 0, 5, 0, 1, 0, true, .regAns false 5 6⟩; let x : WrExt := {}; let s : State := let s := (up [⟨.canal, 1⟩]).set F.CPORT_STATUS_STATE 2 1; { s with canal := { s.canal with seen := [(5, 0, 5, [9, 1])] } }; (port < 2) ∧ (s.canalUp port = true) ∧ (s.isOn .canal port = true) ∧ (s.get F.RING_STATUS_CONFLICT = 0) ∧ (m.body.cls ∈ [2, 3, 5, 6]) ∧ ((s.canalHeard m.src m.srcUnit m.body.cls m.mseq).1 = true) := by decide +kernel

/-- A state and operands that meet the hypotheses of a clause of `Obligations.CanalLink`. -/
theorem test_wit_CanalLink_11 : let port : Nat := 1; let z : Nat := 3; let m : CanalMsg := ⟨some 3, 0, 5, 0, 1, 0, true, .regAns false 5 6⟩; let x : WrExt := {}; let s : State := ((up [⟨.canal, 1⟩]).set F.CPORT_STATUS_STATE 2 1).set F.CPORT_STATUS_STATE 2 0; (port < 2) ∧ (s.canalUp port = true) ∧ (s.isOn .canal port = true) ∧ (m.dest = some z) ∧ (m.body.cls ∈ [2, 3, 5, 6]) ∧ ((s.canalHeard m.src m.srcUnit m.body.cls m.mseq).1 = false) ∧ (z ≠ s.number) ∧ (s.canal.down = []) ∧ (m.flits ≤ 256) ∧ (s.canalUp (1 - port) = true) ∧ ((s.cport (1 - port)).txq = []) ∧ ((s.cport (1 - port)).replay = []) ∧ (s.get F.RING_STATUS_CONFLICT = 0) ∧ (canalBuffer m.body.cls ≤ nth 0 (s.cport (1 - port)).credits m.body.cls) := by decide +kernel

/-- A state and operands that meet the hypotheses of a clause of `Obligations.CanalLink`. -/
theorem test_wit_CanalLink_12 : let port : Nat := 1; let z : Nat := 5; let v : Nat := 77; let id : Nat := 6; let mseq : Nat := 2; let unit : Nat := 0; let x : WrExt := {}; let a : TunAccess := ⟨6, 5, false, 0x100, 0, 0⟩; let s : State := let s := ((up [⟨.canal, 1⟩]).set F.CPORT_STATUS_STATE 2 1).set F.RING_STATUS_NUMBERED 1; { s with canal := { s.canal with tun := [⟨6, 5, false, 0x100, 0, 0⟩] } }; (port < 2) ∧ (s.canalUp port = true) ∧ (s.isOn .canal port = true) ∧ (s.get F.RING_STATUS_CONFLICT = 0) ∧ (s.get F.RING_STATUS_NUMBERED = 1) ∧ (s.pair.paired = false) ∧ ((s.canalHeard z unit 5 mseq).1 = false) ∧ (s.canal.tun = [a]) ∧ (a.id = id) ∧ (a.zone = z) ∧ (a.write = false) ∧ (s.canal.tunWait = []) := by decide +kernel

/-- A state and operands that meet the hypotheses of a clause of `Obligations.CanalRing`. -/
theorem test_wit_CanalRing_1 : let count : Nat := 63; let own : Bool := false; let s : State := ((((up [⟨.canal, 1⟩]).set F.CPORT_STATUS_STATE 2 1).set F.CPORT_STATUS_STATE 2 0).set F.RING_STATUS_HEAD 0).set F.RING_CFG_EXPECT_ZONE 0x7F; (s.canalUp 1 = true) ∧ (s.get F.RING_STATUS_CONFLICT = 0) ∧ (s.get F.RING_STATUS_HEAD = 0) ∧ (s.partnerOn 1 = false) ∧ (s.get F.RING_STATUS_NUMBERED = 0) ∧ (s.get F.RING_CFG_EXPECT_ZONE = 0x7F) ∧ (count < 64) ∧ (s.canalUp 0 = true) ∧ ((s.cport (0)).txq = []) ∧ (canalBuffer 7 ≤ nth 0 (s.cport (0)).credits 7) := by decide +kernel

/-- A state and operands that meet the hypotheses of a clause of `Obligations.CanalRing`. -/
theorem test_wit_CanalRing_2 : let count : Nat := 6; let own : Bool := false; let s : State := (((up [⟨.canal, 1⟩]).set F.CPORT_STATUS_STATE 2 1).set F.RING_STATUS_HEAD 0).set F.RING_STATUS_NUMBERED 1; (s.canalUp 1 = true) ∧ (s.get F.RING_STATUS_CONFLICT = 0) ∧ (s.get F.RING_STATUS_HEAD = 0) ∧ (s.partnerOn 1 = false) ∧ (s.get F.RING_STATUS_NUMBERED = 1) ∧ (s.number ≠ count) ∧ (count < 64) := by decide +kernel

/-- A state and operands that meet the hypotheses of a clause of `Obligations.CanalRing`. -/
theorem test_wit_CanalRing_3 : let count : Nat := 6; let s : State := ((up [⟨.canal, 1⟩]).set F.CPORT_STATUS_STATE 2 1).set F.RING_STATUS_HEAD 1; (s.canalUp 1 = true) ∧ (s.get F.RING_STATUS_CONFLICT = 0) ∧ (s.isHead = true) ∧ (s.get F.RING_CFG_RING_SIZE = 0 ∨ s.get F.RING_CFG_RING_SIZE = count) := by decide +kernel

/-- A state and operands that meet the hypotheses of a clause of `Obligations.CanalRing`. -/
theorem test_wit_CanalRing_4 : let a : Nat := 0; let s : State := let s := (((up [⟨.canal, 1⟩]).set F.CPORT_STATUS_STATE 2 1).set F.RING_STATUS_HEAD 1).set F.RING_CFG_RING_SIZE 4; { s with now := ms 10, canal := { s.canal with enumAt := some 0 } }; (s.canal.enumAt = some a) ∧ (a + ms 10 ≤ s.now) ∧ (s.isHead = true) ∧ (s.get F.RING_CFG_RING_SIZE ≠ 0) ∧ (s.canalUp 1 = true) ∧ ((s.cport (1)).txq = []) ∧ (canalBuffer 7 ≤ nth 0 (s.cport (1)).credits 7) := by decide +kernel

/-- A state and operands that meet the hypotheses of a clause of `Obligations.CanalRing`. -/
theorem test_wit_CanalRing_5 : let port : Nat := 0; let link : Nat := 2; let s : State := (up [⟨.canal, 0⟩]).set F.CPORT_STATUS_STATE 2 0; (port < 2) ∧ (s.canalUp port = true) ∧ (s.canal.down.contains link = false) := by decide +kernel

/-- A state and operands that meet the hypotheses of a clause of `Obligations.CanalRing`. -/
theorem test_wit_CanalRing_6 : let port : Nat := 0; let link : Nat := 2; let s : State := let s := (up [⟨.canal, 0⟩]).set F.CPORT_STATUS_STATE 2 0; { s with canal := { s.canal with down := [1, 2] } }; (port < 2) ∧ (s.canalUp port = true) := by decide +kernel

/-- A state and operands that meet the hypotheses of a clause of `Obligations.CanalRing`. -/
theorem test_wit_CanalRing_7 : let a : Nat := 0; let s : State := let s := ((up [⟨.canal, 1⟩]).set F.RING_CFG_ISLAND_CLASS 2).set F.HG_CFG_SITE_RX 1; { s with now := sec 10, sup := { s.sup with vddGate := true } }; (s.get F.RING_STATUS_ISLAND = 0) ∧ ((s.canal.bothDownAt = some a ∨ s.canal.unreachAt = some a)) ∧ (a + ms (s.get F.ISLAND_TIME) ≤ s.now) ∧ (s.isOn .canal 0 = true ∨ s.isOn .canal 1 = true) := by decide +kernel

/-- A state and operands that meet the hypotheses of a clause of `Obligations.CanalRing`. -/
theorem test_wit_CanalRing_8 : let port : Nat := 1; let s : State := { (up [⟨.canal, 1⟩]).set F.CPORT_STATUS_STATE 2 1 with now := ms 10, ft := 12345 }; (port < 2) ∧ ((s.cport port).reqAt + ms 10 ≤ s.now) ∧ (s.canalUp port = true) ∧ ((s.cport (port)).txq = []) ∧ (canalBuffer 7 ≤ nth 0 (s.cport (port)).credits 7) := by decide +kernel

/-- A state and operands that meet the hypotheses of a clause of `Obligations.CanalRing`. -/
theorem test_wit_CanalRing_9 : let port : Nat := 1; let t1 : Nat := 0; let t2 : Nat := 5; let t3 : Nat := 5; let l : List Nat := [1, 2, 3, 4, 5, 6, 7, 50]; let s : State := { ((up [⟨.canal, 1⟩]).set F.CPORT_STATUS_STATE 2 1).setCport 1 { nDelays := 7, delays := [1, 2, 3, 4, 5, 6, 7] } with ft := 10 * 2 ^ 32 }; (port < 2) ∧ (s.canalUp port = true) ∧ (7 ≤ (s.cport port).nDelays) ∧ (l = lastN 8 ((s.cport port).delays ++ [((((s.ft : Int) - t1) - ((t3 : Int) - t2)) * 10 / (2 ^ 33 : Int)).toNat])) := by decide +kernel

/-- A state and operands that meet the hypotheses of a clause of `Obligations.CanalRing`. -/
theorem test_wit_CanalRing_10 : let port : Nat := 1; let t1 : Nat := 0; let t2 : Nat := 5; let t3 : Nat := 5; let s : State := { (up [⟨.canal, 1⟩]).set F.CPORT_STATUS_STATE 2 1 with ft := 10 * 2 ^ 32 }; (port < 2) ∧ (s.canalUp port = true) ∧ ((s.cport port).nDelays < 7) := by decide +kernel

/-- A state and operands that meet the hypotheses of a clause of `Obligations.CanalRing`. -/
theorem test_wit_CanalRing_11 : let s : State := { ((((up [⟨.canal, 0⟩]).set F.CPORT_STATUS_STATE 2 0).set F.RING_STATUS_HEAD 1).set F.TIME_STATUS_STATE 2) with ft := 10 ^ 9 * 2 ^ 32 }; (s.isHead = true) ∧ (s.get F.TIME_STATUS_STATE ≠ 0) ∧ (s.canal.timeSent < s.fleetNs / 62500000) ∧ (s.canalUp 0 = true) ∧ ((s.cport (0)).txq = []) ∧ ((s.cport (0)).replay = []) ∧ (s.get F.RING_STATUS_CONFLICT = 0) ∧ (canalBuffer 1 ≤ nth 0 (s.cport (0)).credits 1) := by decide +kernel

/-- A state and operands that meet the hypotheses of a clause of `Obligations.CanalRing`. -/
theorem test_wit_CanalRing_12 : let port : Nat := 1; let hops : Nat := 2; let timeS : Nat := 5; let timeNs : Nat := 6; let corr : Nat := 7; let uncert : Nat := 8; let epoch : Nat := 9; let tq : Nat := 3; let mseq : Nat := 0; let origin : Nat := 0; let unit : Nat := 0; let s : State := (((up [⟨.canal, 1⟩]).set F.CPORT_STATUS_STATE 2 1).set F.CPORT_STATUS_DELAY_VALID 1 1).set F.LINK_DELAY 77 1; (port < 2) ∧ (s.canalUp port = true) ∧ (s.get F.CPORT_STATUS_DELAY_VALID port ≠ 0) ∧ (s.tm.canalNew = none) := by decide +kernel

/-- A state and operands that meet the hypotheses of a clause of `Obligations.CanalRing`. -/
theorem test_wit_CanalRing_13 : let port : Nat := 1; let hops : Nat := 2; let timeS : Nat := 5; let timeNs : Nat := 6; let corr : Nat := 7; let uncert : Nat := 8; let epoch : Nat := 9; let tq : Nat := 3; let mseq : Nat := 0; let origin : Nat := 0; let unit : Nat := 0; let s : State := (up [⟨.canal, 1⟩]).set F.CPORT_STATUS_STATE 2 1; (port < 2) ∧ (s.canalUp port = true) ∧ (s.get F.CPORT_STATUS_DELAY_VALID port = 0) := by decide +kernel

/-- A state and operands that meet the hypotheses of a clause of `Obligations.CanalRing`. -/
theorem test_wit_CanalRing_14 : let addr : Nat := 0x1000; let id : Nat := 5; let unit : Nat := 0; let z : Nat := 0; let mseq : Nat := 0; let p : Nat := 1; let x : WrExt := {}; let s : State := (((up [⟨.canal, 1⟩, ⟨.canal, 0⟩]).set F.CPORT_STATUS_STATE 2 1).set F.RING_STATUS_NUMBER 1).set F.RING_STATUS_POSITIONS 4; let v : Nat := (s.busRead (.bar2 s.number) addr).1; let u : State := (s.busRead (.bar2 s.number) addr).2; (s.powered = true) ∧ (s.gated = false) ∧ (s.busRead (.bar2 s.number) addr = (v, u)) ∧ (u.canalWay z = some p) ∧ (u.canalUp p = true) ∧ ((u.cport p).txq = []) ∧ ((u.cport p).replay = []) ∧ (u.get F.RING_STATUS_CONFLICT = 0) ∧ (32 ≤ nth 0 (u.cport p).credits 5) := by decide +kernel

/-- A state and operands that meet the hypotheses of a clause of `Obligations.CanalRing`. -/
theorem test_wit_CanalRing_15 : let v : Nat := 77; let id : Nat := 6; let mseq : Nat := 2; let unit : Nat := 0; let x : WrExt := {}; let a : TunAccess := ⟨6, 5, false, 0x100, 0, 0⟩; let s : State := let s := up [⟨.canal, 1⟩]; { s with canal := { s.canal with tun := [⟨6, 5, false, 0x100, 0, 0⟩] } }; (s.powered = true) ∧ (s.gated = false) ∧ (s.canal.tun = [a]) ∧ (a.id = id) ∧ (a.write = false) ∧ (s.canal.tunWait = []) := by decide +kernel

/-- A state and operands that meet the hypotheses of a clause of `Obligations.PairRoles`. -/
theorem test_wit_PairRoles_1 : let s : State := { (up [⟨.pair, 0⟩]).set F.PAIR_STATUS_STATE 2 with now := ms 10 }; (s.isPaired = true) ∧ (s.isOn .pair = true) ∧ (s.inRecovery = false) ∧ (s.pair.pulseAt + ms 10 ≤ s.now) ∧ (s.get F.PAIR_STATUS_STATE = 2) := by decide +kernel

/-- A state and operands that meet the hypotheses of a clause of `Obligations.PairRoles`. -/
theorem test_wit_PairRoles_2 : let s : State := let s := (up [⟨.pair, 0⟩]).set F.PAIR_STATUS_STATE 4; { s with now := ms 20, pair := { s.pair with kickAt := some 0 } }; (s.isPaired = true) ∧ (s.isOn .pair = true) ∧ (s.inRecovery = false) ∧ (s.pair.pulseAt + ms 10 ≤ s.now) ∧ (s.get F.PAIR_STATUS_STATE = 4) := by decide +kernel

/-- A state and operands that meet the hypotheses of a clause of `Obligations.PairRoles`. -/
theorem test_wit_PairRoles_3 : let s : State := let s := (up [⟨.pair, 0⟩]).set F.PAIR_STATUS_STATE 4; { s with now := ms 20 + 1, pair := { s.pair with kickAt := some 0 } }; (s.isPaired = true) ∧ (s.isOn .pair = true) ∧ (s.inRecovery = false) ∧ (s.pair.pulseAt + ms 10 ≤ s.now) ∧ (s.get F.PAIR_STATUS_STATE = 4) := by decide +kernel

/-- A state and operands that meet the hypotheses of a clause of `Obligations.PairRoles`. -/
theorem test_wit_PairRoles_4 : let width : Nat := 1750; let k : Nat := 1; let s : State := { State.reset with now := sec 1 }; (k < 3) ∧ (nth 0 [500, 1500, 3500] k ≤ width + 250) ∧ (width ≤ nth 0 [500, 1500, 3500] k + 250) := by decide +kernel

/-- A state and operands that meet the hypotheses of a clause of `Obligations.PairRoles`. -/
theorem test_wit_PairRoles_5 : let s : State := { State.reset.set F.PAIR_STATUS_PEER_STATE 2 with now := ms 30 }; (s.get F.PAIR_STATUS_PEER_STATE ≠ 0) ∧ (s.pair.edgeAt + ms 30 ≤ s.now) := by decide +kernel

/-- A state and operands that meet the hypotheses of a clause of `Obligations.PairRoles`. -/
theorem test_wit_PairRoles_6 : let s : State := { State.reset with now := 5 }; True := by decide +kernel

/-- A state and operands that meet the hypotheses of a clause of `Obligations.PairRoles`. -/
theorem test_wit_PairRoles_7 : let s : State := let s := (State.reset.set F.PAIR_STATUS_STATE 1).set F.PAIR_STATUS_PEER_STATE 0; { s with now := ms 30, boot := { s.boot with waiting := false }, pair := { s.pair with paired := true } }; (s.pair.paired = true) ∧ (s.pair.roleDone = false) ∧ (s.get F.PAIR_STATUS_CLAIM_PEER = 0) ∧ (s.pair.peerRelAt ≤ s.pair.resetAt) ∧ (s.pair.resetAt + ms 30 ≤ s.now) ∧ (s.get F.PAIR_STATUS_ROLE = 0) ∧ (s.mayClaim = true) := by decide +kernel

/-- A state and operands that meet the hypotheses of a clause of `Obligations.PairRoles`. -/
theorem test_wit_PairRoles_8 : let s : State := let s := State.reset.set F.PAIR_STATUS_CLAIM_PEER 1; { s with pair := { s.pair with paired := true } }; (s.pair.paired = true) ∧ (s.pair.roleDone = false) ∧ (s.get F.PAIR_STATUS_CLAIM_PEER = 1) ∧ (s.get F.PAIR_STATUS_ROLE_CONFLICT = 0) := by decide +kernel

/-- A state and operands that meet the hypotheses of a clause of `Obligations.PairRoles`. -/
theorem test_wit_PairRoles_9 : let a : Nat := 0; let s : State := let s := (((State.reset.set F.PAIR_STATUS_CLAIM_PEER 1).set F.PAIR_STATUS_ROLE 1).set F.PAIR_STATUS_CLAIM_OWN 1).set F.PAIR_STATUS_STATE 3; { s with now := us 50, pair := { s.pair with paired := true, claimAt := some 0 } }; (s.pair.claimAt = some a) ∧ (a + us 50 ≤ s.now) ∧ (s.pair.checked = false) ∧ (s.get F.PAIR_STATUS_CLAIM_PEER = 1) ∧ (s.get F.PAIR_STATUS_ROLE = 1) := by decide +kernel

/-- A state and operands that meet the hypotheses of a clause of `Obligations.PairRoles`. -/
theorem test_wit_PairRoles_10 : let a : Nat := 0; let s : State := let s := (State.reset.set F.PAIR_STATUS_CLAIM_OWN 1).set F.PAIR_STATUS_STATE 4; { s with now := us 50, pair := { s.pair with paired := true, claimAt := some 0 } }; (s.pair.claimAt = some a) ∧ (a + us 50 ≤ s.now) ∧ (s.pair.checked = false) ∧ (s.get F.PAIR_STATUS_CLAIM_PEER = 0) ∧ (s.get F.PAIR_STATUS_CLAIM_OWN = 1) ∧ (s.isPaired = true) := by decide +kernel

/-- A state and operands that meet the hypotheses of a clause of `Obligations.PairRoles`. -/
theorem test_wit_PairRoles_11 : let s : State := let s := State.reset.set F.PAIR_STATUS_STATE 1; { s with pair := { s.pair with paired := true } }; (s.isPaired = true) ∧ (s.get F.PAIR_STATUS_CLAIM_OWN = 0 ∨ s.pair.checked = false) := by decide +kernel

/-- A state and operands that meet the hypotheses of a clause of `Obligations.PairRoles`. -/
theorem test_wit_PairRoles_12 : let s : State := let s := (State.reset.set F.PAIR_STATUS_STATE 1).set F.PAIR_STATUS_CLAIM_PEER 1; { s with now := 7, pair := { s.pair with paired := true } }; (s.isPaired = true) ∧ (s.get F.PAIR_STATUS_STATE ≠ 2 ∨ s.get F.SWITCH_SFN = 0) := by decide +kernel

/-- A state and operands that meet the hypotheses of a clause of `Obligations.PairRoles`. -/
theorem test_wit_PairRoles_13 : let s : State := let s := State.reset.set F.PAIR_STATUS_STATE 1; { s with pair := { s.pair with paired := true } }; (s.get F.PAIR_STATUS_STATE = 1) := by decide +kernel

/-- A state and operands that meet the hypotheses of a clause of `Obligations.PairRoles`. -/
theorem test_wit_PairRoles_14 : let s : State := let s := State.reset.set F.PAIR_STATUS_STATE 2; { s with pair := { s.pair with paired := true } }; (s.get F.PAIR_STATUS_STATE = 2) := by decide +kernel

/-- A state and operands that meet the hypotheses of a clause of `Obligations.PairRoles`. -/
theorem test_wit_PairRoles_15 : let s : State := let s := ((State.reset.set F.PAIR_STATUS_STATE 1).set F.PAIR_STATUS_ROLE 1).mset 3 RG.rstate 1; { s with now := ms 30, boot := { s.boot with waiting := false }, pair := { s.pair with paired := true } }; (s.isPaired = true) ∧ (s.get F.PAIR_STATUS_ROLE = 1) ∧ (s.get F.PAIR_STATUS_STATE ≠ 4) ∧ (s.mayClaim = true) := by decide +kernel

/-- A state and operands that meet the hypotheses of a clause of `Obligations.PairRoles`. -/
theorem test_wit_PairRoles_16 : (fun s : State => s.standby = true ∧ s.nrReason = 0 ∧ s.mayClaim = true ∧ (s.pair.handover = true ∨ (s.get F.PAIR_STATUS_PEER_STATE = 0 ∧ s.pair.flitAt + ms 30 ≤ s.now))) witStandby := by
  refine ⟨by decide +kernel, ?_, by decide +kernel, by decide +kernel⟩
  unfold State.nrReason
  rw [witStandby_cfg, show witStandby.pair.full = some ⟨5, [], true, []⟩ by decide +kernel, show witStandby.pair.gap = false by decide +kernel,
    show witStandby.get F.SEC_STATUS_KGEN_CUR = witStandby0.get F.SEC_STATUS_KGEN_CUR from rfl]
  simp [witStandby, show witStandby0.pair.imagesOk = true by decide +kernel, show witStandby0.pair.oos = false by decide +kernel]

/-- A state and operands that meet the hypotheses of a clause of `Obligations.PairRoles`. -/
theorem test_wit_PairRoles_17 : let s : State := let s := State.reset.set F.PAIR_STATUS_STATE 3; { s with pair := { s.pair with paired := true, slots := [some ⟨5, [], true, []⟩, none] } }; (s.get F.PAIR_STATUS_STATE = 3) ∧ (s.pair.loaded = false) := by decide +kernel

/-- A state and operands that meet the hypotheses of a clause of `Obligations.PairCheckpoint`. -/
theorem test_wit_PairCheckpoint_1 : let m : PairMsg := { typ := 1, lastRec := true, sfn := 7, images := [⟨0x8000, 3, 9⟩] }; let s : State := (up [⟨.dram, 0⟩]).set F.PAIR_STATUS_STATE 1; (s.standby = true) ∧ (s.isOn .dram = true) ∧ (m.typ = 1) ∧ (m.lastRec = true) ∧ (m.rseq = 0) ∧ (m.sfn < 2 ^ 32) ∧ (s.pair.slots = [none, none]) ∧ (s.pair.deltas = []) := by decide +kernel

/-- A state and operands that meet the hypotheses of a clause of `Obligations.PairCheckpoint`. -/
theorem test_wit_PairCheckpoint_2 : let m : PairMsg := { typ := 2, lastRec := false, sfn := 7, images := [⟨0x8000, 3, 9⟩] }; let s : State := (up [⟨.dram, 0⟩]).set F.PAIR_STATUS_STATE 1; (s.standby = true) ∧ (s.isOn .dram = true) ∧ (m.typ = 2) ∧ (s.pair.deltas = []) := by decide +kernel

/-- A state and operands that meet the hypotheses of a clause of `Obligations.PairCheckpoint`. -/
theorem test_wit_PairCheckpoint_3 : let d : DeltaRec := ⟨7, [], false, []⟩; let m : PairMsg := { typ := 3, sfn := 7, arg := crc32c (imageBytes []) }; let s : State := let s := (((up [⟨.dram, 0⟩]).set F.PAIR_STATUS_STATE 1).set F.CPORT_STATUS_STATE 2 0).set F.PART_SIZE_SIZE 64 0 1; { s with pair := { s.pair with deltas := [d] } }; (s.get F.PAIR_STATUS_STATE = 1) ∧ (s.pair.lastDelta = false) ∧ (s.isOn .dram = true) ∧ (s.pair.deltas = [d]) ∧ (d.done = false) ∧ (d.sfn = m.sfn) ∧ (m.sfn < 2 ^ 32) ∧ (crc32c (imageBytes d.images) = m.arg) ∧ (16 + 68 * d.images.length ≤ s.deltaRing) ∧ (s.pair.full = none) ∧ (s.canalUp (s.get F.RING_STATUS_UNIT) = true) ∧ ((s.cport (s.get F.RING_STATUS_UNIT)).txq = []) ∧ ((s.cport (s.get F.RING_STATUS_UNIT)).replay = []) ∧ (s.get F.RING_STATUS_CONFLICT = 0) ∧ (canalBuffer 2 ≤ nth 0 (s.cport (s.get F.RING_STATUS_UNIT)).credits 2) := by decide +kernel

/-- A state and operands that meet the hypotheses of a clause of `Obligations.PairCheckpoint`. -/
theorem test_wit_PairCheckpoint_4 : let d : DeltaRec := ⟨7, [], false, []⟩; let m : PairMsg := { typ := 3, sfn := 7, arg := crc32c (imageBytes []) + 1 }; let s : State := let s := (up [⟨.dram, 0⟩]).set F.PAIR_STATUS_STATE 1; { s with pair := { s.pair with deltas := [d] } }; (s.standby = true) ∧ (s.isOn .dram = true) ∧ (s.pair.deltas = [d]) ∧ (d.done = false) ∧ (d.sfn = m.sfn) ∧ (crc32c (imageBytes d.images) ≠ m.arg) := by decide +kernel

/-- A state and operands that meet the hypotheses of a clause of `Obligations.PairCheckpoint`. -/
theorem test_wit_PairCheckpoint_5 : let sfn : Nat := 9; let s : State := let s := State.reset.set F.PAIR_STATUS_STATE 4; { s with pair := { s.pair with unacked := [8, 9] }, ls := { s.ls with uncommitted := [(5, 9), (6, 10)] } }; (s.get F.PAIR_STATUS_STATE = 4) ∧ (s.pair.unacked.contains sfn = true) ∧ (sfn < 2 ^ 32) := by decide +kernel

/-- A state and operands that meet the hypotheses of a clause of `Obligations.PairCheckpoint`. -/
theorem test_wit_PairCheckpoint_6 : let s : State := let s := (State.reset.set F.PAIR_STATUS_STATE 4).set F.CPORT_STATUS_STATE 2 0; { s with pair := { s.pair with unacked := [1, 2, 3, 4, 5, 6, 7, 8, 9, 10, 11, 12, 13, 14, 15] } }; (s.get F.PAIR_STATUS_STATE = 4) ∧ (s.get F.PAIR_CFG_ACK_SF ≤ s.pair.unacked.length) ∧ (s.ls.uncommitted = []) ∧ (s.canalUp (s.get F.RING_STATUS_UNIT) = true) ∧ ((s.cport (s.get F.RING_STATUS_UNIT)).txq = []) ∧ ((s.cport (s.get F.RING_STATUS_UNIT)).replay = []) ∧ (s.get F.RING_STATUS_CONFLICT = 0) ∧ (canalBuffer 2 ≤ nth 0 (s.cport (s.get F.RING_STATUS_UNIT)).credits 2) := by decide +kernel

/-- A state and operands that meet the hypotheses of a clause of `Obligations.PairCheckpoint`. -/
theorem test_wit_PairCheckpoint_7 : let cls : Nat := 2; let reason : Nat := 1; let seq : Nat := 260; let s : State := let s := (State.reset.set F.PAIR_STATUS_STATE 1).set F.HG_STATE_CLASS 1; { s with sup := { s.sup with vddGate := true } }; (s.standby = true) ∧ (1 ≤ cls) ∧ (cls ≤ 3) ∧ (s.sup.vddGate = true) := by decide +kernel

/-- A state and operands that meet the hypotheses of a clause of `Obligations.PairCheckpoint`. -/
theorem test_wit_PairCheckpoint_8 : let reason : Nat := 0; let seq : Nat := 5; let s : State := ((State.reset.set F.PAIR_STATUS_STATE 1).set F.HG_STATE_CLASS 2).set F.CAUSES_HELD 0x200; (s.standby = true) ∧ (s.get F.PINS_FILTERED = 0) ∧ (s.get F.HG_STATE_GATE_FAULT = 0) ∧ (bit (s.get F.CAUSES_HELD) (rsGATEFAULT - 1) = false) := by decide +kernel

/-- A state and operands that meet the hypotheses of a clause of `Obligations.PairCheckpoint`. -/
theorem test_wit_PairCheckpoint_9 : let s : State := { (State.reset.set F.PAIR_STATUS_STATE 4).set F.CPORT_STATUS_STATE 2 0 with now := sec 1 }; (s.isPaired = true) ∧ (s.pair.statusAt + sec 1 ≤ s.now) ∧ (s.canalUp (s.get F.RING_STATUS_UNIT) = true) ∧ ((s.cport (s.get F.RING_STATUS_UNIT)).txq = []) ∧ ((s.cport (s.get F.RING_STATUS_UNIT)).replay = []) ∧ (s.get F.RING_STATUS_CONFLICT = 0) ∧ (canalBuffer 2 ≤ nth 0 (s.cport (s.get F.RING_STATUS_UNIT)).credits 2) := by decide +kernel

/-- A state and operands that meet the hypotheses of a clause of `Obligations.PairCheckpoint`. -/
theorem test_wit_PairCheckpoint_10 : let m : PairMsg := { typ := 6, cfgHash := 9, pstate := 4 }; let s : State := State.reset.set F.PAIR_STATUS_STATE 1; (s.isPaired = true) ∧ (m.kgen = 0 ∨ m.kgen ≠ s.get F.SEC_STATUS_KGEN_NEXT ∨ s.standby = false) := by decide +kernel

/-- A state and operands that meet the hypotheses of a clause of `Obligations.PairCheckpoint`. -/
theorem test_wit_PairCheckpoint_11 : let s : State := State.reset.set F.PAIR_STATUS_STATE 2; (s.standby = true) := by decide +kernel

/-- A state and operands that meet the hypotheses of a clause of `Obligations.PairCheckpoint`. -/
theorem test_wit_PairCheckpoint_12 : let s : State := State.reset.set F.PAIR_STATUS_STATE 1; (s.standby = true) := by decide +kernel

/-- A state and operands that meet the hypotheses of a clause of `Obligations.PairCheckpoint`. -/
theorem test_wit_PairCheckpoint_13 : let s : State := State.reset.set F.PAIR_STATUS_STATE 4; (s.standby = false) := by decide +kernel

/-- A state and operands that meet the hypotheses of a clause of `Obligations.PairSwitchOver`. -/
theorem test_wit_PairSwitchOver_1 : let s : State := let s := (((State.reset.set F.PAIR_STATUS_STATE 4).set F.CPORT_STATUS_STATE 2 0).set F.PAIR_STATUS_PEER_STATE 2).set F.SFN 7; { s with pair := { s.pair with peer := some { typ := 6, pstate := 2 } } }; (s.get F.PAIR_STATUS_STATE = 4) ∧ (s.get F.SWITCH_SFN = 0) ∧ (s.peerWarmReady = true) ∧ (s.canalUp (s.get F.RING_STATUS_UNIT) = true) ∧ ((s.cport (s.get F.RING_STATUS_UNIT)).txq = []) ∧ ((s.cport (s.get F.RING_STATUS_UNIT)).replay = []) ∧ (s.get F.RING_STATUS_CONFLICT = 0) ∧ (canalBuffer 2 ≤ nth 0 (s.cport (s.get F.RING_STATUS_UNIT)).credits 2) := by decide +kernel

/-- A state and operands that meet the hypotheses of a clause of `Obligations.PairSwitchOver`. -/
theorem test_wit_PairSwitchOver_2 : let s : State := State.reset.set F.PAIR_STATUS_STATE 4; (s.peerWarmReady = false) := by decide +kernel

/-- A state and operands that meet the hypotheses of a clause of `Obligations.PairSwitchOver`. -/
theorem test_wit_PairSwitchOver_3 : let s : State := (State.reset.set F.PAIR_STATUS_STATE 4).set F.SFN (2 ^ 32 - 1); (s.get F.PAIR_STATUS_STATE = 4) ∧ (s.get F.PAIR_CTRL_NO_REVERT = 0) ∧ (s.get F.SWITCH_SFN = 0) := by decide +kernel

/-- A state and operands that meet the hypotheses of a clause of `Obligations.PairSwitchOver`. -/
theorem test_wit_PairSwitchOver_4 : let s : State := ((State.reset.set F.PAIR_STATUS_STATE 4).set F.CPORT_STATUS_STATE 2 0).set F.PAIR_CTRL_NO_REVERT 1; (s.get F.PAIR_STATUS_STATE = 4) ∧ (s.get F.PAIR_CTRL_NO_REVERT = 1 ∨ s.get F.SWITCH_SFN ≠ 0) ∧ (s.canalUp (s.get F.RING_STATUS_UNIT) = true) ∧ ((s.cport (s.get F.RING_STATUS_UNIT)).txq = []) ∧ ((s.cport (s.get F.RING_STATUS_UNIT)).replay = []) ∧ (s.get F.RING_STATUS_CONFLICT = 0) ∧ (canalBuffer 2 ≤ nth 0 (s.cport (s.get F.RING_STATUS_UNIT)).credits 2) := by decide +kernel

/-- A state and operands that meet the hypotheses of a clause of `Obligations.PairSwitchOver`. -/
theorem test_wit_PairSwitchOver_5 : let sfn : Nat := 9; let s : State := State.reset.set F.PAIR_STATUS_STATE 2; (s.get F.PAIR_STATUS_STATE = 2) := by decide +kernel

/-- A state and operands that meet the hypotheses of a clause of `Obligations.PairSwitchOver`. -/
theorem test_wit_PairSwitchOver_6 : let s : State := { ((State.reset.set F.PAIR_STATUS_STATE 1).set F.PAIR_STATUS_READY 1).set F.PAIR_CFG_REVERT_EN 1 with now := sec 100000 }; (s.get F.PAIR_STATUS_STATE = 1) ∧ (s.get F.PAIR_STATUS_ROLE = 0) ∧ (s.get F.PAIR_STATUS_READY = 1) ∧ (s.get F.PAIR_CFG_REVERT_EN = 1) ∧ (s.blocksWork = true) ∧ (max s.pair.brokeAt s.pair.resetAt + sec (s.get F.REVERT_HOLDOFF) ≤ s.now) := by decide +kernel

/-- A state and operands that meet the hypotheses of a clause of `Obligations.PairSwitchOver`. -/
theorem test_wit_PairSwitchOver_7 : let a : Nat := 0; let s : State := let s := (((State.reset.set F.PAIR_STATUS_STATE 2).set F.PAIR_STATUS_READY 1).set F.PAIR_CFG_REVERT_EN 1).set F.CPORT_STATUS_STATE 2 0; { s with now := sec 10, pair := { s.pair with warmReadyAt := some 0 } }; (s.get F.PAIR_STATUS_STATE = 2) ∧ (s.get F.PAIR_STATUS_READY = 1) ∧ (s.get F.PAIR_STATUS_ROLE = 0) ∧ (s.get F.PAIR_CFG_REVERT_EN = 1) ∧ (s.get F.SWITCH_SFN = 0) ∧ ((s.pair.askAt = none ∧ s.pair.warmReadyAt = some a ∧ a + sec 10 ≤ s.now) ∨ (s.pair.askAt = some a ∧ a + sec 60 ≤ s.now)) ∧ (s.canalUp (s.get F.RING_STATUS_UNIT) = true) ∧ ((s.cport (s.get F.RING_STATUS_UNIT)).txq = []) ∧ ((s.cport (s.get F.RING_STATUS_UNIT)).replay = []) ∧ (s.get F.RING_STATUS_CONFLICT = 0) ∧ (canalBuffer 2 ≤ nth 0 (s.cport (s.get F.RING_STATUS_UNIT)).credits 2) := by decide +kernel

/-- A state and operands that meet the hypotheses of a clause of `Obligations.PairSwitchOver`. -/
theorem test_wit_PairSwitchOver_8 : let a : Nat := 5; let s : State := let s := (((State.reset.set F.PAIR_STATUS_STATE 2).set F.PAIR_STATUS_READY 1).set F.PAIR_CFG_REVERT_EN 1).set F.CPORT_STATUS_STATE 2 0; { s with now := sec 60 + 5, pair := { s.pair with askAt := some 5 } }; (s.get F.PAIR_STATUS_STATE = 2) ∧ (s.get F.PAIR_STATUS_READY = 1) ∧ (s.get F.PAIR_STATUS_ROLE = 0) ∧ (s.get F.PAIR_CFG_REVERT_EN = 1) ∧ (s.get F.SWITCH_SFN = 0) ∧ ((s.pair.askAt = none ∧ s.pair.warmReadyAt = some a ∧ a + sec 10 ≤ s.now) ∨ (s.pair.askAt = some a ∧ a + sec 60 ≤ s.now)) ∧ (s.canalUp (s.get F.RING_STATUS_UNIT) = true) ∧ ((s.cport (s.get F.RING_STATUS_UNIT)).txq = []) ∧ ((s.cport (s.get F.RING_STATUS_UNIT)).replay = []) ∧ (s.get F.RING_STATUS_CONFLICT = 0) ∧ (canalBuffer 2 ≤ nth 0 (s.cport (s.get F.RING_STATUS_UNIT)).credits 2) := by decide +kernel

/-- A state and operands that meet the hypotheses of a clause of `Obligations.Metering`. -/
theorem test_wit_Metering_1 : let w : MeterWin := ⟨200000000, [⟨230000, 229000, 50000, false⟩, ⟨230000, 229000, 50000, false⟩, ⟨230000, 229000, 50000, false⟩], List.replicate 12 ⟨10000, 9000, 2000000, 1900000, 300000, false⟩⟩; let d : Nat := 11; let v : VoltWin := ⟨230000, 229000, 50000, false⟩; let x : DockWin := ⟨10000, 9000, 2000000, 1900000, 300000, false⟩; let s : State := (((up [⟨.meter, 0⟩]).set F.MET_CFG_V_NOM 2300).setTe ⟨.meter, 0⟩ 0 14 (MC.en.set 0 1)).setTe ⟨.meter, 0⟩ 0 0 (MC.en.set 0 1); (s.meterRuns = true) ∧ (d < 12) ∧ (s.met.docks.length = 12) ∧ (s.dockEn d = true) ∧ (s.dockOk d = true) ∧ (w.volts[s.dockV d]? = some v) ∧ (w.docks[d]? = some x) := by decide +kernel

/-- A state and operands that meet the hypotheses of a clause of `Obligations.Metering`. -/
theorem test_wit_Metering_2 : let c : Nat := 0; let s : State := let s := up [⟨.meter, 0⟩]; { s with ft := 5 * 10 ^ 9 * 2 ^ 32, met := { s.met with sums := { rms := 460000, fund := 459000, freq := 100000, n := 2 } :: List.replicate 14 {} } }; (s.meterRuns = true) ∧ (s.met.lastSec ≠ s.fleetSec) ∧ (c < 15) ∧ (s.met.sums.length = 15) ∧ (s.met.e0Due = false) := by decide +kernel

/-- A state and operands that meet the hypotheses of a clause of `Obligations.Metering`. -/
theorem test_wit_Metering_3 : let d : Nat := 11; let s : State := let s := (((up [⟨.meter, 0⟩]).set F.INTERVAL 60).set F.MET_CFG_REC_EN 1).setTe ⟨.meter, 0⟩ 0 14 (MC.en.set 0 1); { s with ft := 61 * 10 ^ 9 * 2 ^ 32, met := { s.met with nextIv := 60, docks := List.replicate 12 { ivImp := 5, ivNs := 7, imp := 9, seq := 2 ^ 32 - 1 } } }; (s.meterRuns = true) ∧ (s.met.nextIv ≤ s.fleetSec) ∧ (d < 12) ∧ (s.met.docks.length = 12) ∧ (s.dockEn d = true) ∧ (s.get F.MET_CFG_REC_EN = 1) ∧ (s.met.store.length ≤ 244) := by decide +kernel

/-- A state and operands that meet the hypotheses of a clause of `Obligations.Metering`. -/
theorem test_wit_Metering_4 : let v : Nat := 2; let rms : Nat := 9199; let s : State := (((up [⟨.meter, 0⟩]).set F.MET_CFG_V_NOM 2300).set F.PQ_CFG_INT_TH 4).setTe ⟨.meter, 0⟩ 0 2 (MC.en.set 0 1); (s.meterRuns = true) ∧ (v < 3) ∧ (s.met.pq.length = 3) ∧ (s.chanOn v = true) ∧ ((nth {} s.met.pq v).kind = 0) ∧ (s.belowPct rms (s.get F.PQ_CFG_INT_TH) = true) := by decide +kernel

/-- A state and operands that meet the hypotheses of a clause of `Obligations.Metering`. -/
theorem test_wit_Metering_5 : let v : Nat := 0; let rms : Nat := 9200; let s : State := ((((up [⟨.meter, 0⟩]).set F.MET_CFG_V_NOM 2300).set F.PQ_CFG_INT_TH 4).set F.PQ_CFG_SAG_TH 90).setTe ⟨.meter, 0⟩ 0 0 (MC.en.set 0 1); (s.meterRuns = true) ∧ (v < 3) ∧ (s.met.pq.length = 3) ∧ (s.chanOn v = true) ∧ ((nth {} s.met.pq v).kind = 0) ∧ (s.belowPct rms (s.get F.PQ_CFG_INT_TH) = false) ∧ (s.belowPct rms (s.get F.PQ_CFG_SAG_TH) = true) := by decide +kernel

/-- A state and operands that meet the hypotheses of a clause of `Obligations.Metering`. -/
theorem test_wit_Metering_6 : let v : Nat := 0; let rms : Nat := 230000; let s : State := let s := ((((((up [⟨.meter, 0⟩]).set F.MET_CFG_V_NOM 2300).set F.PQ_CFG_INT_TH 4).set F.PQ_CFG_SAG_TH 90).set F.PQ_CFG_HYST 2).set F.PQ_CFG_SWELL_TH 110).setTe ⟨.meter, 0⟩ 0 0 (MC.en.set 0 1); { s with met := { s.met with pq := [⟨1, 3, 4, 5, 6⟩, {}, {}] } }; (s.meterRuns = true) ∧ (v < 3) ∧ (s.met.pq.length = 3) ∧ (s.chanOn v = true) ∧ ((nth {} s.met.pq v).kind = 1 ∨ (nth {} s.met.pq v).kind = 3) ∧ (s.belowPct rms (s.get F.PQ_CFG_SAG_TH + s.get F.PQ_CFG_HYST) = false) ∧ (s.belowPct rms (s.get F.PQ_CFG_INT_TH) = false) ∧ (s.belowPct rms (s.get F.PQ_CFG_SAG_TH) = false) ∧ (rms * 100 ≤ s.vNom * s.get F.PQ_CFG_SWELL_TH) := by decide +kernel

/-- A state and operands that meet the hypotheses of a clause of `Obligations.Metering`. -/
theorem test_wit_Metering_7 : let s : State := let s := up [⟨.meter, 0⟩]; { s with ft := 61 * 10 ^ 9 * 2 ^ 32, met := { s.met with saveDue := 61, saveSlot := 1 } }; (s.meterRuns = true) ∧ (s.met.saveDue ≤ s.fleetSec) ∧ (s.met.saveSlot < 2) ∧ (s.met.saves.length = 2) := by decide +kernel

/-- A state and operands that meet the hypotheses of a clause of `Obligations.Metering`. -/
theorem test_wit_Metering_8 : let s : State := let s := up [⟨.meter, 0⟩]; { s with ft := 61 * 10 ^ 9 * 2 ^ 32, met := { s.met with saveDue := 61, saveSlot := 1 } }; (s.meterRuns = true) ∧ (s.met.saveDue ≤ s.fleetSec) ∧ (s.met.saveSlot < 2) ∧ (s.met.saves.length = 2) := by decide +kernel

/-- A state and operands that meet the hypotheses of a clause of `Obligations.Metering`. -/
theorem test_wit_Metering_9 : let k : Nat := 1; let s : State := let s := (up [⟨.meter, 0⟩]).set F.PULSE_CFG_EN 1 0 1; { s with now := ms 60, met := { s.met with pulses := [{}, { backlog := 3, lastAt := some 0 }] } }; (s.meterRuns = true) ∧ (k < 2) ∧ (s.met.pulses.length = 2) ∧ ((s.pulse k).high = false) ∧ (1 ≤ (s.pulse k).backlog) ∧ (s.get F.PULSE_CFG_EN 0 k = 1) ∧ (((s.pulse k).lastAt.any fun a => decide (s.now < a + ms (2 * s.get F.PULSE_CFG_WIDTH 0 k))) = false) := by decide +kernel

/-- A state and operands that meet the hypotheses of a clause of `Obligations.Metering`. -/
theorem test_wit_Metering_10 : let src : Src := .host; let k : Nat := 1; let value : Nat := 0x03E8644C; let s : State := let s := up [⟨.meter, 0⟩]; { s with boot := { s.boot with waiting := false }, met := { s.met with pulses := [{}, { remK := 77, backlog := 3 }] } }; (k < 2) ∧ (s.met.pulses.length = 2) ∧ (s.powered = true) ∧ (s.gated = false) ∧ (s.jtagBarsAt src (Page.base ⟨.meter, 0⟩ + 0x320 + 4 * k) true = false) ∧ (coreFault src (Page.base ⟨.meter, 0⟩ + 0x320 + 4 * k) true = none) ∧ (s.boot.waiting = false) ∧ (s.coldGated ⟨.meter, 0⟩ = false) ∧ (s.getP ⟨.meter, 0⟩ F.LOCK_LOCKED = 0) ∧ (bits value 0 4 ≤ 12) ∧ (5 ≤ bits value 8 8) ∧ (bits value 8 8 ≤ 100) ∧ (1 ≤ bits value 16 16) ∧ (value < 2 ^ 32) := by decide +kernel

/-- A state and operands that meet the hypotheses of a clause of `Obligations.Metering`. -/
theorem test_wit_Metering_11 : let d : Nat := 11; let ma : List Nat := [0, 0, 0, 0, 0, 0, 0, 0, 0, 0, 0, 5000]; let s : State := let s := State.reset; { s with sup := { s.sup with battery := true }, met := { s.met with outDocks := [11] } }; (s.sup.battery = true) ∧ (s.met.outDocks = [d]) ∧ (d < 12) ∧ (s.met.docks.length = 12) := by decide +kernel

/-- A state and operands that meet the hypotheses of a clause of `Obligations.KeysAndTokens`. -/
theorem test_wit_KeysAndTokens_1 : let s : State := up [⟨.keystore, 0⟩]; (s.isOn .keystore = true) ∧ (s.get F.ATT_STATUS_BUSY = 0) := by decide +kernel

/-- A state and operands that meet the hypotheses of a clause of `Obligations.KeysAndTokens`. -/
theorem test_wit_KeysAndTokens_2 : let s : State := ((up [⟨.keystore, 0⟩]).set F.ATT_STATUS_BUSY 1).setTe ⟨.keystore, 0⟩ 0 1 (KS.uses.set (KS.usage.set (KS.ktype.set 0 3) 16) 0xFFFFFFFF); (s.get F.ATT_STATUS_BUSY = 1) ∧ (s.ksMay 1 4 = true) := by decide +kernel

/-- A state and operands that meet the hypotheses of a clause of `Obligations.KeysAndTokens`. -/
theorem test_wit_KeysAndTokens_3 : let tg : Nat := 0x80; let q : Nat := 0; let k : Nat := 20; let data : Nat := 5; let key : List Nat := []; let s : State := (up [⟨.keystore, 0⟩]).setTe ⟨.keystore, 0⟩ 0 20 (KS.uses.set (KS.usage.set (KS.ktype.set 0 3) 1) 5); (s.gated = false) ∧ (s.isOn .keystore = true) ∧ (0x80 ≤ tg) ∧ (tg ≤ 0xBF) ∧ (s.tagBusy tg = false) ∧ (s.ksCheck .sup k usSIGN = none) ∧ (KS.ktype.get (s.ks k) = 3) := by decide +kernel

/-- A state and operands that meet the hypotheses of a clause of `Obligations.KeysAndTokens`. -/
theorem test_wit_KeysAndTokens_4 : let tg : Nat := 0x80; let q : Nat := 0; let k : Nat := 20; let data : Nat := 5; let key : List Nat := []; let s : State := (up [⟨.keystore, 0⟩]).setTe ⟨.keystore, 0⟩ 0 20 (KS.usage.set (KS.ktype.set 0 3) 2); (s.gated = false) ∧ (s.isOn .keystore = true) ∧ (0x80 ≤ tg) ∧ (tg ≤ 0xBF) ∧ (s.tagBusy tg = false) ∧ (k < 64) ∧ (s.ksKilled k = false) ∧ (s.ksMay k usSIGN = false) := by decide +kernel

/-- A state and operands that meet the hypotheses of a clause of `Obligations.KeysAndTokens`. -/
theorem test_wit_KeysAndTokens_5 : let tg : Nat := 0x80; let q : Nat := 0; let k : Nat := 20; let data : Nat := 5; let key : List Nat := []; let ok : Bool := false; let s : State := (up [⟨.keystore, 0⟩]).setTe ⟨.keystore, 0⟩ 0 20 (KS.uses.set (KS.usage.set (KS.ktype.set 0 4) 2) 5); (s.gated = false) ∧ (s.isOn .keystore = true) ∧ (0x80 ≤ tg) ∧ (tg ≤ 0xBF) ∧ (s.tagBusy tg = false) ∧ (s.ksCheck .sup k usVERIFY = none) ∧ (3 ≤ KS.ktype.get (s.ks k)) := by decide +kernel

/-- A state and operands that meet the hypotheses of a clause of `Obligations.KeysAndTokens`. -/
theorem test_wit_KeysAndTokens_6 : let tg : Nat := 0x80; let q : Nat := 0; let k : Nat := 20; let i : Nat := 63; let u : Nat := 9; let data : Nat := 5; let s : State := (up [⟨.keystore, 0⟩]).setTe ⟨.keystore, 0⟩ 0 20 (KS.uses.set (KS.usage.set (KS.ktype.set 0 2) 4) 5); (s.gated = false) ∧ (s.isOn .keystore = true) ∧ (0x80 ≤ tg) ∧ (tg ≤ 0xBF) ∧ (s.tagBusy tg = false) ∧ (s.ksCheck .sup k usDERIVE = none) ∧ (16 ≤ i) ∧ (i < 64) ∧ (s.ksHeld i = false) ∧ (k ≠ i) ∧ (u < 2 ^ 32) := by decide +kernel

/-- A state and operands that meet the hypotheses of a clause of `Obligations.KeysAndTokens`. -/
theorem test_wit_KeysAndTokens_7 : let k : Nat := 63; let s : State := let s := up [⟨.keystore, 0⟩]; { s with now := sec 100, sup := { s.sup with mainOk := true } }; (s.key.remaskAt + ms (s.get F.KS_CFG_REMASK_MS) ≤ s.now) ∧ (s.sup.mainOk = true ∨ s.sup.battery = true) := by decide +kernel

/-- A state and operands that meet the hypotheses of a clause of `Obligations.KeysAndTokens`. -/
theorem test_wit_KeysAndTokens_8 : let src : Src := .core 7; let s : State := { up [⟨.keystore, 0⟩] with now := 9 }; (s.isOn .keystore = true) ∧ (s.get F.TOK_STATUS_OWNER = 0) ∧ (s.jtagBars src ⟨.keystore, 0⟩ true = false) ∧ (src.code < 256) := by decide +kernel

/-- A state and operands that meet the hypotheses of a clause of `Obligations.KeysAndTokens`. -/
theorem test_wit_KeysAndTokens_9 : let src : Src := .sup; let s : State := (up [⟨.keystore, 0⟩]).set F.TOK_STATUS_OWNER 2; (s.isOn .keystore = true) ∧ (s.get F.TOK_STATUS_OWNER = src.code) ∧ (s.get F.TOK_STATUS_BUSY = 0) ∧ (s.jtagBars src ⟨.keystore, 0⟩ true = false) := by decide +kernel

/-- A state and operands that meet the hypotheses of a clause of `Obligations.KeysAndTokens`. -/
theorem test_wit_KeysAndTokens_10 : let src : Src := .bar2 3; let s : State := State.reset.set F.TOK_STATUS_OWNER 3; (s.get F.TOK_STATUS_OWNER = src.code) ∧ (s.get F.TOK_STATUS_BUSY = 0) ∧ (s.jtagBars src ⟨.keystore, 0⟩ true = false) := by decide +kernel

/-- A state and operands that meet the hypotheses of a clause of `Obligations.KeysAndTokens`. -/
theorem test_wit_KeysAndTokens_11 : let s : State := { State.reset.set F.TOK_STATUS_OWNER 3 with now := ms 100 }; (s.get F.TOK_STATUS_OWNER ≠ 0) ∧ (s.get F.TOK_STATUS_BUSY = 0) ∧ (s.key.tokAt + ms 100 ≤ s.now) := by decide +kernel

/-- A state and operands that meet the hypotheses of a clause of `Obligations.KeysAndTokens`. -/
theorem test_wit_KeysAndTokens_12 : (fun s : State => s.get F.TOK_STATUS_BUSY = 1 ∧ s.tokFormat = true ∧ s.tokKind = 2 ∧ s.tokAt 4 8 = Config.serial.toNat ∧ s.tokAt 12 8 = s.get64 F.TOK_NONCE_LO F.TOK_NONCE_HI ∧ s.tokSignerOk = true ∧
      s.mayInstall s.tokSigner (s.tokAt 24 1) = true ∧ (s.tokAt 24 1 < 8 ∨ 10 < s.tokAt 24 1) ∧ s.ksHeld (s.tokAt 24 1) = false ∧ s.tokAt 25 1 < 4) witToken := by
  refine ⟨by decide +kernel, by decide +kernel, by decide +kernel, ?_, by decide +kernel, by decide +kernel, by decide +kernel, by decide +kernel, by decide +kernel, by decide +kernel⟩
  exact witToken_serial Config.serial.toNat Config.serial.isLt

/-- A state and operands that meet the hypotheses of a clause of `Obligations.KeysAndTokens`. -/
theorem test_wit_KeysAndTokens_13 : let sigOk : Bool := true; let burnOk : Bool := true; let key : Option Nat := none; let s : State := (up [⟨.keystore, 0⟩]).set F.TOK_STATUS_BUSY 1; (s.get F.TOK_STATUS_BUSY = 1) ∧ (s.tokFormat = false) := by decide +kernel

/-- A state and operands that meet the hypotheses of a clause of `Obligations.KeysAndTokens`. -/
theorem test_wit_KeysAndTokens_14 : let s : State := { up [⟨.keystore, 0⟩] with now := sec 300 }; (s.isOn .keystore = true) ∧ (s.key.nonceAt + sec 300 ≤ s.now) := by decide +kernel

/-- A state and operands that meet the hypotheses of a clause of `Obligations.FusesAndLifecycle`. -/
theorem test_wit_FusesAndLifecycle_1 : let setting : Nat := 0; let value : Nat := 5; let signer : Nat := 2; let s : State := State.reset; (s.fuseRefused setting value = false) ∧ (s.fuseResult setting value = 0) := by decide +kernel

/-- A state and operands that meet the hypotheses of a clause of `Obligations.FusesAndLifecycle`. -/
theorem test_wit_FusesAndLifecycle_2 : let setting : Nat := 3; let value : Nat := 0; let signer : Nat := 2; let s : State := State.reset; (s.fuseRefused setting value = false) ∧ (s.fuseResult setting value ≠ 0) := by decide +kernel

/-- A state and operands that meet the hypotheses of a clause of `Obligations.FusesAndLifecycle`. -/
theorem test_wit_FusesAndLifecycle_3 : let j : FuseJob := ⟨0, 0, 5, 0, 2⟩; let s : State := let s := State.reset.set F.FUSE_STATUS_BUSY 1; { s with key := { s.key with job := some j } }; (s.key.job = some j) ∧ (s.key.jobs = []) ∧ (j.setting < 3) ∧ (j.value < 256) ∧ (j.slot < 255) := by decide +kernel

/-- A state and operands that meet the hypotheses of a clause of `Obligations.FusesAndLifecycle`. -/
theorem test_wit_FusesAndLifecycle_4 : let j : FuseJob := ⟨2, 0, 3, 7, 2⟩; let s : State := let s := State.reset.set F.FUSE_STATUS_BUSY 1; { s with key := { s.key with job := some j } }; (s.key.job = some j) ∧ (s.key.jobs = []) ∧ (j.setting < 3) ∧ (j.slot < 255) := by decide +kernel

/-- A state and operands that meet the hypotheses of a clause of `Obligations.FusesAndLifecycle`. -/
theorem test_wit_FusesAndLifecycle_5 : let target : Nat := 1; let signer : Nat := 2; let s : State := State.reset.setTe ⟨.keystore, 0⟩ 0 2 (KS.ktype.set 0 4); (signer ≠ 0) ∧ (target < 3) ∧ (s.get F.FUSE_STATUS_BUSY = 0) ∧ (s.lcRefusal target signer = 0) := by decide +kernel

/-- A state and operands that meet the hypotheses of a clause of `Obligations.FusesAndLifecycle`. -/
theorem test_wit_FusesAndLifecycle_6 : let target : Nat := 2; let signer : Nat := 2; let s : State := State.reset; (signer ≠ 0) ∧ (s.get F.FUSE_STATUS_BUSY = 0) ∧ (s.lcListed target signer = false) := by decide +kernel

/-- A state and operands that meet the hypotheses of a clause of `Obligations.FusesAndLifecycle`. -/
theorem test_wit_FusesAndLifecycle_7 : let s : State := let s := (State.reset.set F.LC_STATUS_STATE 3).set F.DBG_STATUS_LEVEL 2; { s with dbg := { s.dbg with vendor := true } }; (s.get F.LC_STATUS_STATE = 3) ∧ (s.get F.DBG_STATUS_LEVEL = 2) ∧ (s.dbg.vendor = true) ∧ (s.get F.FUSE_STATUS_BUSY = 0) ∧ (s.inRun = true) := by decide +kernel

/-- A state and operands that meet the hypotheses of a clause of `Obligations.DebugSessions`. -/
theorem test_wit_DebugSessions_1 : let s : State := up [⟨.debug, 0⟩]; (s.isOn .debug = true) ∧ (s.observeFree = true) := by decide +kernel

/-- A state and operands that meet the hypotheses of a clause of `Obligations.DebugSessions`. -/
theorem test_wit_DebugSessions_2 : let s : State := (up [⟨.debug, 0⟩]).set F.LC_STATUS_STATE 1; (s.isOn .debug = true) ∧ (s.observeFree = false) := by decide +kernel

/-- A state and operands that meet the hypotheses of a clause of `Obligations.DebugSessions`. -/
theorem test_wit_DebugSessions_3 : let s : State := up [⟨.debug, 0⟩]; (s.isOn .debug = true) ∧ (s.get F.LC_STATUS_STATE = 0) := by decide +kernel

/-- A state and operands that meet the hypotheses of a clause of `Obligations.DebugSessions`. -/
theorem test_wit_DebugSessions_4 : let s : State := (up [⟨.debug, 0⟩]).set F.LC_STATUS_STATE 2; (s.isOn .debug = true) ∧ (s.observeToken = true) := by decide +kernel

/-- A state and operands that meet the hypotheses of a clause of `Obligations.DebugSessions`. -/
theorem test_wit_DebugSessions_5 : (fun s : State => s.isOn .debug = true ∧ s.certResult true = 1) witCert := by
  exact ⟨by decide +kernel, witCertAt_result Config.serial.toNat Config.serial.isLt rfl⟩

/-- A state and operands that meet the hypotheses of a clause of `Obligations.DebugSessions`. -/
theorem test_wit_DebugSessions_6 : let sigOk : Bool := true; let s : State := up [⟨.debug, 0⟩]; (s.isOn .debug = true) ∧ (s.certResult sigOk ≠ 1) := by decide +kernel

/-- A state and operands that meet the hypotheses of a clause of `Obligations.DebugSessions`. -/
theorem test_wit_DebugSessions_7 : let s : State := (up [⟨.debug, 0⟩]).set F.DBG_STATUS_LEVEL 2; (s.isOn .debug = true) ∧ (s.get F.DBG_STATUS_LEVEL ≠ 0) := by decide +kernel

/-- A state and operands that meet the hypotheses of a clause of `Obligations.DebugSessions`. -/
theorem test_wit_DebugSessions_8 : let at_ : Nat := 7; let s : State := let s := (up [⟨.debug, 0⟩]).set F.DBG_STATUS_LEVEL 2; { s with now := 7, dbg := { s.dbg with endAt := some 7, halted := [8, 0] } }; (s.dbg.endAt = some at_) ∧ (at_ ≤ s.now) ∧ (s.get F.DBG_STATUS_LEVEL ≠ 0) := by decide +kernel

/-- A state and operands that meet the hypotheses of a clause of `Obligations.DebugSessions`. -/
theorem test_wit_DebugSessions_9 : let s : State := ((up [⟨.debug, 0⟩]).set F.DBG_STATUS_LEVEL 2).set F.HG_STATE_CLASS 3; (s.powered = true) ∧ (s.get F.DBG_STATUS_LEVEL = 2) ∧ (2 ≤ s.get F.HG_STATE_CLASS) := by decide +kernel

/-- A state and operands that meet the hypotheses of a clause of `Obligations.DebugSessions`. -/
theorem test_wit_DebugSessions_10 : let s : State := up [⟨.debug, 0⟩]; (s.powered = true) ∧ (s.get F.DBG_STATUS_LEVEL ≠ 2 ∨ s.get F.HG_STATE_CLASS < 2) := by decide +kernel

/-- A state and operands that meet the hypotheses of a clause of `Obligations.DebugSessions`. -/
theorem test_wit_DebugSessions_11 : let n : Nat := 100; let s : State := let s := up []; { s with dbg := { s.dbg with extest := true } }; (s.powered = true) := by decide +kernel

/-- A state and operands that meet the hypotheses of a clause of `Obligations.DebugSessions`. -/
theorem test_wit_DebugSessions_12 : let core : Nat := 8; let s : State := ((up [⟨.debug, 0⟩]).set F.DBG_STATUS_LEVEL 2).set F.DBG_STATUS_GRANTS 4; (s.haltGranted core = true) ∧ (s.dbg.halted.contains core = false) := by decide +kernel

/-- A state and operands that meet the hypotheses of a clause of `Obligations.DebugSessions`. -/
theorem test_wit_DebugSessions_13 : let core : Nat := 0; let s : State := let s := ((up [⟨.debug, 0⟩]).set F.DBG_STATUS_LEVEL 2).set F.DBG_STATUS_GRANTS 2; { s with dbg := { s.dbg with halted := [8, 0] } }; (s.haltGranted core = true) ∧ (s.dbg.halted.contains core = true) := by decide +kernel

/-- A state and operands that meet the hypotheses of a clause of `Obligations.PowerAndSupplies`. -/
theorem test_wit_PowerAndSupplies_1 : let v : Nat := 1; let s : State := State.reset; (s.powered = true) ∧ (v < 2) ∧ (s.get F.PWR_STATUS_STATE < 2) := by decide +kernel

/-- A state and operands that meet the hypotheses of a clause of `Obligations.PowerAndSupplies`. -/
theorem test_wit_PowerAndSupplies_2 : let s : State := State.reset; (s.powered = true) ∧ (s.get F.PWR_STATUS_STATE < 3) ∧ (s.allParked = true) ∧ (s.slowBanks = true) := by decide +kernel

/-- A state and operands that meet the hypotheses of a clause of `Obligations.PowerAndSupplies`. -/
theorem test_wit_PowerAndSupplies_3 : let s : State := State.reset.set F.MOT_STATUS_MOVING 1; (s.powered = true) ∧ (s.get F.PWR_STATUS_STATE ≠ 3) ∧ (s.allParked = false) := by decide +kernel

/-- A state and operands that meet the hypotheses of a clause of `Obligations.PowerAndSupplies`. -/
theorem test_wit_PowerAndSupplies_4 : let vbat : Bool := false; let s : State := { State.reset with now := 9 }; (s.sup.mainOk = true) ∧ (s.sup.vddGate = true) := by decide +kernel

/-- A state and operands that meet the hypotheses of a clause of `Obligations.PowerAndSupplies`. -/
theorem test_wit_PowerAndSupplies_5 : let head : Bool := false; let role : Bool := true; let recovN : Bool := true; let s : State := { State.reset with now := 9, sup := { State.reset.sup with mainOk := false, battery := true } }; (s.sup.mainOk = false) ∧ (s.sup.battery = true) ∧ (s.sup.railsOut = []) := by decide +kernel

/-- A state and operands that meet the hypotheses of a clause of `Obligations.PowerAndSupplies`. -/
theorem test_wit_PowerAndSupplies_6 : let head : Bool := false; let role : Bool := true; let recovN : Bool := true; let s : State := { State.reset with now := 9, sup := { State.reset.sup with mainOk := false } }; (s.sup.mainOk = false) ∧ (s.sup.battery = false) ∧ (s.sup.railsOut = []) := by decide +kernel

/-- A state and operands that meet the hypotheses of a clause of `Obligations.PowerAndSupplies`. -/
theorem test_wit_PowerAndSupplies_7 : let p : Nat := 3; let s : State := State.reset.set F.PORT_STATUS_TX_SRC 1 3; (s.sup.vddGate = true) ∧ (p < 4) := by decide +kernel

/-- A state and operands that meet the hypotheses of a clause of `Obligations.PowerAndSupplies`. -/
theorem test_wit_PowerAndSupplies_8 : let rail : Nat := 2; let vbat : Bool := true; let s : State := State.reset; (rail = 1 ∨ rail = 2) ∧ (s.sup.railsOut.contains rail = false) ∧ (s.sup.mainOk = true) ∧ (s.sup.vddGate = true) := by decide +kernel

/-- A state and operands that meet the hypotheses of a clause of `Obligations.PowerAndSupplies`. -/
theorem test_wit_PowerAndSupplies_9 : let vbat : Bool := true; let i : Nat := 1; let s : State := up [⟨.gnssRf, 1⟩, ⟨.meter, 0⟩]; (s.sup.railsOut.contains 3 = false) ∧ (s.sup.mainOk = true) ∧ (i < 2) := by decide +kernel

/-- A state and operands that meet the hypotheses of a clause of `Obligations.PowerAndSupplies`. -/
theorem test_wit_PowerAndSupplies_10 : let vbat : Bool := true; let s : State := State.reset; (s.sup.railsOut.contains 4 = false) ∧ (s.sup.mainOk = true) := by decide +kernel

/-- A state and operands that meet the hypotheses of a clause of `Obligations.PowerAndSupplies`. -/
theorem test_wit_PowerAndSupplies_11 : let rail : Nat := 5; let vbat : Bool := true; let i : Nat := 1; let s : State := up [⟨.pcie, 0⟩, ⟨.eth, 1⟩, ⟨.canal, 1⟩]; (rail = 5 ∨ rail = 6) ∧ (s.sup.railsOut.contains rail = false) ∧ (s.sup.mainOk = true) ∧ (i < 2) := by decide +kernel

/-- A state and operands that meet the hypotheses of a clause of `Obligations.PowerAndSupplies`. -/
theorem test_wit_PowerAndSupplies_12 : let vbat : Bool := true; let s : State := up [⟨.dram, 0⟩]; (s.sup.railsOut.contains 7 = false) ∧ (s.sup.mainOk = true) := by decide +kernel

/-- A state and operands that meet the hypotheses of a clause of `Obligations.PowerAndSupplies`. -/
theorem test_wit_PowerAndSupplies_13 : let rail : Nat := 3; let s : State := { State.reset with sup := { State.reset.sup with railsOut := [7, 3] } }; (s.sup.railsOut.contains rail = true) ∧ (2 < rail) := by decide +kernel

/-- A state and operands that meet the hypotheses of a clause of `Obligations.PowerAndSupplies`. -/
theorem test_wit_PowerAndSupplies_14 : let rail : Nat := 1; let s : State := { State.reset with sup := { State.reset.sup with railsOut := [1] } }; (s.sup.railsOut = [rail]) ∧ (rail ≤ 2) ∧ (s.sup.mainOk = true) := by decide +kernel

/-- A state and operands that meet the hypotheses of a clause of `Obligations.PowerAndSupplies`. -/
theorem test_wit_PowerAndSupplies_15 : let tj : Int := 1000; let s : State := State.reset; (1000 ≤ tj) ∧ (s.powered = true) ∧ (s.sup.vddGate = true) := by decide +kernel

/-- A state and operands that meet the hypotheses of a clause of `Obligations.PowerAndSupplies`. -/
theorem test_wit_PowerAndSupplies_16 : let tj : Int := 920; let s : State := State.reset; (s.powered = true) ∧ (920 ≤ tj) ∧ (tj < 32768) := by decide +kernel

/-- A state and operands that meet the hypotheses of a clause of `Obligations.PowerAndSupplies`. -/
theorem test_wit_PowerAndSupplies_17 : let tj : Int := 919; let s : State := State.reset.set F.TEMP_WARN 1; (s.powered = true) ∧ (tj < 920) ∧ (0 ≤ tj) := by decide +kernel

/-- A state and operands that meet the hypotheses of a clause of `Obligations.PowerAndSupplies`. -/
theorem test_wit_PowerAndSupplies_18 : let w : Nat := 10000; let head : Bool := false; let role : Bool := true; let recovN : Bool := false; let s : State := State.reset; (10000 ≤ w) ∧ (s.powered = true) ∧ (s.sup.vddGate = true) := by decide +kernel

/-- A state and operands that meet the hypotheses of a clause of `Obligations.PowerAndSupplies`. -/
theorem test_wit_PowerAndSupplies_19 : let w : Nat := 999; let head : Bool := false; let role : Bool := true; let recovN : Bool := false; let s : State := State.reset; (w < 1000) := by decide +kernel

/-- A state and operands that meet the hypotheses of a clause of `Obligations.PowerAndSupplies`. -/
theorem test_wit_PowerAndSupplies_20 : let tj : Int := 839; let s : State := { State.reset with now := 9, sup := { State.reset.sup with tripHold := true }, boot := { State.reset.boot with relDue := true } }; (tj < 840) ∧ (s.sup.tripHold = true) ∧ (s.powered = true) ∧ (s.boot.relDue = true) := by decide +kernel

/-- A state and operands that meet the hypotheses of a clause of `Obligations.PowerAndSupplies`. -/
theorem test_wit_PowerAndSupplies_21 : let auxEdges : Nat := 156; let s : State := up [⟨.canal, 0⟩]; (auxGood auxEdges = true) ∧ (s.clk.lost = false) := by decide +kernel

/-- A state and operands that meet the hypotheses of a clause of `Obligations.BootAndImages`. -/
theorem test_wit_BootAndImages_1 : (fun s : State => s.powered = true ∧ s.boot.romDone = false ∧ s.sup.keepValid = true ∧ s.sup.tripHold = false ∧ s.get F.LC_STATUS_STATE < 3 ∧ s.key.torn = [] ∧ s.sup.recovN = true ∧ s.boot.dir.pref < 2 ∧
      s.boot.dir.state s.boot.dir.pref = 2 ∧ imgOf (nth [] s.boot.banks s.boot.dir.pref) 0 = some (Img.made 0) ∧ s.imgCheck 0 (Img.made 0) = 0 ∧ (Img.made 0).version < 2 ^ 32) State.reset := by
  refine ⟨by decide +kernel, by decide +kernel, by decide +kernel, by decide +kernel, by decide +kernel, by decide +kernel, by decide +kernel, by decide +kernel, by decide +kernel, by decide +kernel, ?_, by decide +kernel⟩
  unfold State.imgCheck
  rw [show (Img.made 0).minStep = 0 by decide +kernel, show (Img.made 0).serial = 0 by decide +kernel, show (Img.made 0).headerOk = true by decide +kernel,
    show (Img.made 0).typ = 0 by decide +kernel, show State.reset.imgSigner (Img.made 0).signer = true by decide +kernel,
    show (Img.made 0).arb = 0 by decide +kernel, show (Img.made 0).hash = (Img.made 0).seen.digest by decide +kernel, show (Img.made 0).seen.sigOk = true by decide +kernel]
  simp
  decide +kernel

/-- A state and operands that meet the hypotheses of a clause of `Obligations.BootAndImages`. -/
theorem test_wit_BootAndImages_2 : let copyOk : Bool := true; let s : State := let s := State.reset; { s with now := 9, sup := { s.sup with recovN := false } }; (s.powered = true) ∧ (s.boot.romDone = false) ∧ (s.sup.keepValid = true) ∧ (s.sup.recovN = false) := by decide +kernel

/-- A state and operands that meet the hypotheses of a clause of `Obligations.BootAndImages`. -/
theorem test_wit_BootAndImages_3 : let s : State := let s := State.reset; { s with boot := { s.boot with romDone := true, wdAt := some 7 } }; (s.boot.romDone = true) ∧ (s.boot.waiting = false) ∧ (s.boot.relDue = false) ∧ (s.get F.PAIR_STATUS_STATE ≠ 1) := by decide +kernel

/-- A state and operands that meet the hypotheses of a clause of `Obligations.BootAndImages`. -/
theorem test_wit_BootAndImages_4 : let s : State := let s := (State.reset.set F.PAIR_STATUS_STATE 1).set F.SUP_STATUS_RUNNING 1; { s with boot := { s.boot with romDone := true, wdAt := some 7 } }; (s.boot.romDone = true) ∧ (s.boot.waiting = false) ∧ (s.boot.relDue = false) ∧ (s.get F.PAIR_STATUS_STATE = 1) := by decide +kernel

/-- A state and operands that meet the hypotheses of a clause of `Obligations.BootAndImages`. -/
theorem test_wit_BootAndImages_5 : let w : Nat := 7; let s : State := let s := State.reset; { s with now := sec 11, boot := { s.boot with romDone := true, wdAt := some 7 } }; (s.boot.wdAt = some w) ∧ (w + sec 10 ≤ s.now) ∧ (s.sup.vddGate = true) := by decide +kernel

/-- A state and operands that meet the hypotheses of a clause of `Obligations.BootAndImages`. -/
theorem test_wit_BootAndImages_6 : (fun s : State => s.get F.SUP_STATUS_RUNNING = 1 ∧ s.boot.src < 3 ∧ imgOf (nth [] s.boot.banks s.boot.src) 4 = some (Img.made 4) ∧ s.imgCheck 4 (Img.made 4) = 0 ∧ (Img.made 4).version < 2 ^ 32 ∧ s.key.meas.length = 5)
      (State.reset.set F.SUP_STATUS_RUNNING 1) := by
  refine ⟨by decide +kernel, by decide +kernel, by decide +kernel, ?_, by decide +kernel, by decide +kernel⟩
  unfold State.imgCheck
  rw [show (Img.made 4).minStep = 0 by decide +kernel, show (Img.made 4).serial = 0 by decide +kernel, show (Img.made 4).headerOk = true by decide +kernel,
    show (Img.made 4).typ = 4 by decide +kernel, show (State.reset.set F.SUP_STATUS_RUNNING 1).imgSigner (Img.made 4).signer = true by decide +kernel,
    show (Img.made 4).arb = 0 by decide +kernel, show (Img.made 4).hash = (Img.made 4).seen.digest by decide +kernel, show (Img.made 4).seen.sigOk = true by decide +kernel]
  simp
  decide +kernel

/-- A state and operands that meet the hypotheses of a clause of `Obligations.BootAndImages`. -/
theorem test_wit_BootAndImages_7 : let k : Nat := 4; let p : Page := ⟨.solver, 3⟩; let s : State := let s := (up [⟨.solver, 3⟩]).set F.SUP_STATUS_RUNNING 1; { s with boot := { s.boot with banks := [[], [], []] } }; (s.get F.SUP_STATUS_RUNNING = 1) ∧ (s.boot.src < 3) ∧ (k < 5) ∧ (1 ≤ k) ∧ (imgOf (nth [] s.boot.banks s.boot.src) k = none) ∧ (imageOf p.blk = some k) ∧ (p ∈ allPages) := by decide +kernel

/-- A state and operands that meet the hypotheses of a clause of `Obligations.UpdateAndRecovery`. -/
theorem test_wit_UpdateAndRecovery_1 : let seen : List ImgSeen := []; let s : State := up [⟨.boot, 0⟩]; (s.isOn .boot = true) ∧ (s.get F.UPD_STATUS_BUSY = 0) := by decide +kernel

/-- A state and operands that meet the hypotheses of a clause of `Obligations.UpdateAndRecovery`. -/
theorem test_wit_UpdateAndRecovery_2 : let seen : List ImgSeen := []; let s : State := (up [⟨.boot, 0⟩]).set F.UPD_STATUS_BUSY 1; (s.isOn .boot = true) ∧ (s.get F.UPD_STATUS_BUSY = 1) := by decide +kernel

/-- A state and operands that meet the hypotheses of a clause of `Obligations.UpdateAndRecovery`. -/
theorem test_wit_UpdateAndRecovery_3 : let s : State := let s := up [⟨.boot, 0⟩]; { s with boot := { s.boot with verified := true, banks := [[], [Img.made 0], []] } }; (s.isOn .boot = true) ∧ (s.get F.UPD_STATUS_BUSY = 0) ∧ (s.get F.BOOT_STATUS_TRIAL = 0) ∧ (s.boot.verified = true) ∧ (s.boot.banks.length = 3) ∧ (s.updTarget < 3) := by decide +kernel

/-- A state and operands that meet the hypotheses of a clause of `Obligations.UpdateAndRecovery`. -/
theorem test_wit_UpdateAndRecovery_4 : let s : State := (up [⟨.boot, 0⟩]).set F.BOOT_STATUS_TRIAL 1; (s.isOn .boot = true) ∧ (s.get F.UPD_STATUS_BUSY = 0) ∧ (s.get F.BOOT_STATUS_TRIAL = 1) := by decide +kernel

/-- A state and operands that meet the hypotheses of a clause of `Obligations.UpdateAndRecovery`. -/
theorem test_wit_UpdateAndRecovery_5 : let s : State := up [⟨.boot, 0⟩]; (s.isOn .boot = true) ∧ (s.get F.UPD_STATUS_BUSY = 0) ∧ (s.get F.BOOT_STATUS_TRIAL = 0) ∧ (s.boot.verified = false) := by decide +kernel

/-- A state and operands that meet the hypotheses of a clause of `Obligations.UpdateAndRecovery`. -/
theorem test_wit_UpdateAndRecovery_6 : let j : UpdJob := ⟨2, 1, false⟩; let s : State := let s := up [⟨.boot, 0⟩]; { s with boot := { s.boot with job := some j } }; (s.boot.job = some j) ∧ (j.op = 2) := by decide +kernel

/-- A state and operands that meet the hypotheses of a clause of `Obligations.UpdateAndRecovery`. -/
theorem test_wit_UpdateAndRecovery_7 : let changed : Option Nat := none; let flashOk : Bool := true; let n : Nat := 0; let j : UpdJob := ⟨1, 0, false⟩; let s : State := let s := up [⟨.boot, 0⟩]; { s with boot := { s.boot with job := some j } }; (s.boot.job = some j) ∧ (j.op = 1) ∧ ((s.verifyResult s.boot.staged).1 < 16) := by decide +kernel

/-- A state and operands that meet the hypotheses of a clause of `Obligations.UpdateAndRecovery`. -/
theorem test_wit_UpdateAndRecovery_8 : let n : Nat := 9; let j : UpdJob := ⟨2, 1, false⟩; let s : State := let s := up [⟨.boot, 0⟩]; { s with boot := { s.boot with job := some j, staged := [Img.made 0] } }; (s.boot.job = some j) ∧ (j.op = 2) ∧ (j.cancel = false) ∧ (j.target < 2) ∧ (s.boot.banks.length = 3) ∧ (s.boot.dirs.length = 2) ∧ (n < 65536) := by decide +kernel

/-- A state and operands that meet the hypotheses of a clause of `Obligations.UpdateAndRecovery`. -/
theorem test_wit_UpdateAndRecovery_9 : let changed : Option Nat := none; let n : Nat := 9; let j : UpdJob := ⟨2, 0, false⟩; let s : State := let s := up [⟨.boot, 0⟩]; { s with boot := { s.boot with job := some j } }; (s.boot.job = some j) ∧ (j.op = 2) ∧ (j.cancel = false) ∧ (j.target < 2) ∧ (s.boot.dirs.length = 2) := by decide +kernel

/-- A state and operands that meet the hypotheses of a clause of `Obligations.UpdateAndRecovery`. -/
theorem test_wit_UpdateAndRecovery_10 : let k : Nat := 4; let n : Nat := 9; let j : UpdJob := ⟨2, 0, false⟩; let s : State := let s := up [⟨.boot, 0⟩]; { s with boot := { s.boot with job := some j } }; (s.boot.job = some j) ∧ (j.op = 2) ∧ (j.cancel = false) ∧ (k < 8) := by decide +kernel

/-- A state and operands that meet the hypotheses of a clause of `Obligations.UpdateAndRecovery`. -/
theorem test_wit_UpdateAndRecovery_11 : let signer : Nat := 2; let s : State := ((up [⟨.boot, 0⟩]).set F.BOOT_STATUS_TRIAL 1).set F.BOOT_STATUS_BOOT_OK 1; (s.commitOk = true) ∧ (s.boot.dirs.length = 2) ∧ (s.boot.src < 2) := by decide +kernel

/-- A state and operands that meet the hypotheses of a clause of `Obligations.UpdateAndRecovery`. -/
theorem test_wit_UpdateAndRecovery_12 : let ch : Nat := 2; let at_ : Nat := 0; let len : Nat := 4; let r : List Nat := let b := [0, 0, 0, 0, 4, 0, 0, 0, 1, 2, 3, 4]; b ++ toBytes 4 (crc32c b); let i : ImgSeen := {}; let s : State := let s := up []; { s with boot := { s.boot with waiting := true, claim := some (2, 0) } }; (ch = 1 ∨ ch = 2) ∧ (s.boot.waiting = true) ∧ (s.boot.claim = some (ch, at_)) ∧ (ofBytes (r.take 4) = s.boot.rcvNext) ∧ (len = ofBytes ((r.drop 4).take 2)) ∧ (4 ≤ len) ∧ (len ≤ 1024) ∧ (len % 4 = 0) ∧ (r.length = 12 + len) ∧ (nth 0 r 6 = 0) ∧ (nth 0 r 7 = 0) ∧ (ofBytes ((r.drop (8 + len)).take 4) = crc32c (r.take (8 + len))) := by decide +kernel

/-- A state and operands that meet the hypotheses of a clause of `Obligations.UpdateAndRecovery`. -/
theorem test_wit_UpdateAndRecovery_13 : let ch : Nat := 1; let len : Nat := 4; let r : List Nat := [0, 0, 0, 0, 4, 0, 0, 0, 1, 2, 3, 4, 0, 0, 0, 0]; let i : ImgSeen := {}; let s : State := let s := up []; { s with boot := { s.boot with waiting := true } }; (ch = 1 ∨ ch = 2) ∧ (s.rcvListens = true) ∧ (len = ofBytes ((r.drop 4).take 2)) ∧ (ofBytes ((r.drop (8 + len)).take 4) ≠ crc32c (r.take (8 + len))) := by decide +kernel

/-- A state and operands that meet the hypotheses of a clause of `Obligations.UpdateAndRecovery`. -/
theorem test_wit_UpdateAndRecovery_14 : let ch : Nat := 2; let at_ : Nat := 0; let len : Nat := 4; let r : List Nat := let b := [4, 0, 0, 0, 4, 0, 0, 0, 1, 2, 3, 4]; b ++ toBytes 4 (crc32c b); let i : ImgSeen := {}; let s : State := let s := up []; { s with boot := { s.boot with waiting := true, claim := some (2, 0) } }; (ch = 1 ∨ ch = 2) ∧ (s.rcvListens = true) ∧ (s.boot.claim = some (ch, at_)) ∧ (ofBytes (r.take 4) ≠ s.boot.rcvNext) ∧ (len = ofBytes ((r.drop 4).take 2)) ∧ (4 ≤ len) ∧ (len ≤ 1024) ∧ (len % 4 = 0) ∧ (r.length = 12 + len) ∧ (nth 0 r 6 = 0) ∧ (nth 0 r 7 = 0) ∧ (ofBytes ((r.drop (8 + len)).take 4) = crc32c (r.take (8 + len))) := by decide +kernel

/-- A state and operands that meet the hypotheses of a clause of `Obligations.UpdateAndRecovery`. -/
theorem test_wit_UpdateAndRecovery_15 : let i : ImgSeen := {}; let s : State := let s := up []; { s with boot := { s.boot with waiting := true } }; (s.rcvListens = true) ∧ (ofBytes ((((s.words ⟨.boot, 0⟩ 0x400 272).flatMap (toBytes 4)).drop 4).take 2) = 0) := by decide +kernel

/-- A state and operands that meet the hypotheses of a clause of `Obligations.UpdateAndRecovery`. -/
theorem test_wit_UpdateAndRecovery_16 : let i : ImgSeen := {}; let at_ : Nat := 0; let len : Nat := 4; let s : State := let s := (((up []).setReg (Page.adr ⟨.boot, 0⟩ 0x404) 4).setReg (Page.adr ⟨.boot, 0⟩ 0x408) 7).setReg (Page.adr ⟨.boot, 0⟩ 0x40C) (crc32c [0, 0, 0, 0, 4, 0, 0, 0, 7, 0, 0, 0]); { s with boot := { s.boot with waiting := true, claim := some (0, 0) } }; let r : List Nat := ((s.words ⟨.boot, 0⟩ 0x400 272).flatMap (toBytes 4)).take (12 + len); (s.boot.waiting = true) ∧ (s.boot.claim = some (0, at_)) ∧ (r = ((s.words ⟨.boot, 0⟩ 0x400 272).flatMap (toBytes 4)).take (12 + len)) ∧ (ofBytes (r.take 4) = s.boot.rcvNext) ∧ (len = ofBytes ((((s.words ⟨.boot, 0⟩ 0x400 272).flatMap (toBytes 4)).drop 4).take 2)) ∧ (len = ofBytes ((r.drop 4).take 2)) ∧ (4 ≤ len) ∧ (len ≤ 1024) ∧ (len % 4 = 0) ∧ (r.length = 12 + len) ∧ (nth 0 r 6 = 0) ∧ (nth 0 r 7 = 0) ∧ (ofBytes ((r.drop (8 + len)).take 4) = crc32c (r.take (8 + len))) := by decide +kernel

/-- A state and operands that meet the hypotheses of a clause of `Obligations.UpdateAndRecovery`. -/
theorem test_wit_UpdateAndRecovery_17 : let ch : Nat := 1; let at_ : Nat := 7; let s : State := let s := up []; { s with now := sec 61, boot := { s.boot with claim := some (1, 7), rcvNext := 4 } }; (s.boot.claim = some (ch, at_)) ∧ (at_ + sec 60 ≤ s.now) := by decide +kernel

/-- A state and operands that meet the hypotheses of a clause of `Obligations.UpdateAndRecovery`. -/
theorem test_wit_UpdateAndRecovery_18 : let p : Nat := 1; let s : State := let s := up []; { s with now := sec 2, boot := { s.boot with waiting := true } }; (p < 2) ∧ (s.boot.waiting = true) ∧ (s.get F.ETH_STATUS_LINK p = 0) ∧ (nth 0 s.boot.linkAt p + sec 2 ≤ s.now) ∧ (s.boot.linkAt.length = 2) ∧ (s.get F.ETH_CFG_MODE p < 2) := by decide +kernel

/-- A state and operands that meet the hypotheses of a clause of `Obligations.EventRecorderUpkeep`. -/
theorem test_wit_EventRecorderUpkeep_1 : let c : Nat := 5; let b : Bucket := ⟨some 5, 0, 7, 0⟩; let s : State := let s := up []; { s with now := sec 1, ev := { s.ev with buckets := [b] } }; (b ∈ s.ev.buckets) ∧ (b.code = some c) ∧ ((s.weirOf c).1 ≠ 0) ∧ (b.due ≤ s.now) := by decide +kernel

/-- A state and operands that meet the hypotheses of a clause of `Obligations.EventRecorderUpkeep`. -/
theorem test_wit_EventRecorderUpkeep_2 : let s : State := { up [] with now := sec 1 }; (s.ev.global.due ≤ s.now) := by decide +kernel

/-- A state and operands that meet the hypotheses of a clause of `Obligations.EventRecorderUpkeep`. -/
theorem test_wit_EventRecorderUpkeep_3 : let s : State := let s := up []; { s with ft := 10 ^ 10 * 2 ^ 32, sup := { s.sup with downAt := none } }; (s.fleetSec ≠ s.ev.lastSumSec) ∧ (s.noCounter = false) := by decide +kernel

/-- A state and operands that meet the hypotheses of a clause of `Obligations.EventRecorderUpkeep`. -/
theorem test_wit_EventRecorderUpkeep_4 : let s : State := { (up []).set F.SUP_STATUS_RUNNING 1 with now := 9 }; (s.ev.saveAt ≤ s.now) ∧ (s.get F.SUP_STATUS_RUNNING = 1) ∧ (s.ev.saves.length = 2) ∧ (s.ev.saveNext < 2) := by decide +kernel

/-- A state and operands that meet the hypotheses of a clause of `Obligations.EventRecorderUpkeep`. -/
theorem test_wit_EventRecorderUpkeep_5 : let n : Nat := 4; let s : State := up []; (s.get F.UPD_STATUS_BUSY = 0) := by decide +kernel

end Sys2Proof.Machine
end

section
/-! SUPPORT. The proofs of the scope family: every command completes inside its own frame (`Obligations.FrameOfEveryCommand`,
`Obligations.OutsideTheFrame`), every step keeps the canonical form of the memories (`Obligations.StepKeepsCanonicalForm`,
`Obligations.ResetIsCanonical`), and what is written is read back (`Obligations.ContentsReadBack`). -/
namespace Sys2Proof.Machine
open Sys2Proof

/-! ### From a frame that is written out to the classes that the frame lemmas ask for -/

theorem Blk.mem_every (b : Blk) : b ∈ Blk.every := by cases b <;> decide

theorem Touch.in_of_mem {W : Touch} {b : Blk} (h : b ∈ W.blks) : W.In b :=
  ⟨show W.blks.contains b = true from List.contains_iff_mem.mpr h⟩

/-- The class of each part follows from the flag of that part, and that of a block from its place in the list of blocks.
The frame lemmas of Sys2Proof/Laws/Frame.lean speak of any frame with the classes they name. For the frame of one command,
written out, these rules find the classes: a flag that is set is `true` by computation, and a block, or the blocks of
`touchLog` and `touchLevel`, stand at the front of the list or further down. Each rule stands with its proof. -/
structure Touch.Granting : Prop where
  ft (W : Touch) [h : Fact (W.ft = true)] : W.Ft := ⟨h.out⟩
  fresh (W : Touch) [h : Fact (W.fresh = true)] : W.Fresh := ⟨h.out⟩
  latch (W : Touch) [h : Fact (W.latch = true)] : W.Latch := ⟨h.out⟩
  dram (W : Touch) [h : Fact (W.dram = true)] : W.Dram := ⟨h.out⟩
  once (W : Touch) [h : Fact (W.once = true)] : W.Once := ⟨h.out⟩
  tags (W : Touch) [h : Fact (W.tags = true)] : W.Tags := ⟨h.out⟩
  vecSent (W : Touch) [h : Fact (W.vecSent = true)] : W.VecSent := ⟨h.out⟩
  vecMask (W : Touch) [h : Fact (W.vecMask = true)] : W.VecMask := ⟨h.out⟩
  fq (W : Touch) [h : Fact (W.fq = true)] : W.Fq := ⟨h.out⟩
  ev (W : Touch) [h : Fact (W.ev = true)] : W.Ev := ⟨h.out⟩
  out (W : Touch) [h : Fact (W.out = true)] : W.Out := ⟨h.out⟩
  canal (W : Touch) [h : Fact (W.canal = true)] : W.Canal := ⟨h.out⟩
  hg (W : Touch) [h : Fact (W.hg = true)] : W.Hg := ⟨h.out⟩
  flt (W : Touch) [h : Fact (W.flt = true)] : W.Flt := ⟨h.out⟩
  sup (W : Touch) [h : Fact (W.sup = true)] : W.Sup := ⟨h.out⟩
  held (W : Touch) [h : Fact (W.held = true)] : W.Held := ⟨h.out⟩
  air (W : Touch) [h : Fact (W.air = true)] : W.Air := ⟨h.out⟩
  arb (W : Touch) [h : Fact (W.arb = true)] : W.Arb := ⟨h.out⟩
  lk (W : Touch) [h : Fact (W.lk = true)] : W.Lk := ⟨h.out⟩
  pair (W : Touch) [h : Fact (W.pair = true)] : W.Pair := ⟨h.out⟩
  gn (W : Touch) [h : Fact (W.gn = true)] : W.Gn := ⟨h.out⟩
  tm (W : Touch) [h : Fact (W.tm = true)] : W.Tm := ⟨h.out⟩
  disp (W : Touch) [h : Fact (W.disp = true)] : W.Disp := ⟨h.out⟩
  ls (W : Touch) [h : Fact (W.ls = true)] : W.Ls := ⟨h.out⟩
  mot (W : Touch) [h : Fact (W.mot = true)] : W.Mot := ⟨h.out⟩
  motNsp (W : Touch) [h : Fact (W.motNsp = true)] : W.MotNsp := ⟨h.out⟩
  rtk (W : Touch) [h : Fact (W.rtk = true)] : W.Rtk := ⟨h.out⟩
  rt (W : Touch) [h : Fact (W.rt = true)] : W.Rt := ⟨h.out⟩
  clk (W : Touch) [h : Fact (W.clk = true)] : W.Clk := ⟨h.out⟩
  met (W : Touch) [h : Fact (W.met = true)] : W.Met := ⟨h.out⟩
  key (W : Touch) [h : Fact (W.key = true)] : W.Key := ⟨h.out⟩
  dbg (W : Touch) [h : Fact (W.dbg = true)] : W.Dbg := ⟨h.out⟩
  boot (W : Touch) [h : Fact (W.boot = true)] : W.Boot := ⟨h.out⟩
  block (W : Touch) (b : Blk) [h : Fact ([b] ⊆ W.blks)] : W.In b := Touch.in_of_mem (h.out List.mem_cons_self)
  log (W : Touch) [W.Out] [W.VecSent] [W.Fq] [W.Ev] [W.Once] [W.Canal] [h : Fact (touchLog.blks ⊆ W.blks)] : W.Log :=
    have hin (b : Blk) (hb : b ∈ touchLog.blks) : W.In b := Touch.in_of_mem (h.out hb)
    ⟨hin _ (by decide), hin _ (by decide), hin _ (by decide), hin _ (by decide), hin _ (by decide)⟩
  level (W : Touch) [W.Log] [W.Hg] [W.Flt] [W.Pair] [W.Disp] [W.Rtk] [h : Fact (touchLevel.blks ⊆ W.blks)] : W.Level :=
    have hin (b : Blk) (hb : b ∈ touchLevel.blks) : W.In b := Touch.in_of_mem (h.out hb)
    ⟨hin _ (by decide), hin _ (by decide), hin _ (by decide), hin _ (by decide), hin _ (by decide), hin _ (by decide),
      hin _ (by decide)⟩
  flag : Fact (true = true) := ⟨rfl⟩
  every (l : List Blk) : Fact (l ⊆ Blk.every) := ⟨fun b _ => Blk.mem_every b⟩
  further (b : Blk) (l m : List Blk) [h : Fact (l ⊆ m)] : Fact (l ⊆ b :: m) := ⟨List.subset_cons_of_subset b h.out⟩
  frontBlock (b : Blk) (l : List Blk) : Fact ([b] ⊆ b :: l) := ⟨List.subset_append_left [b] l⟩
  frontLog (l : List Blk) : Fact (touchLog.blks ⊆ .canal :: .eth :: .evlog :: .flume :: .pcie :: l) :=
    ⟨List.subset_append_left touchLog.blks l⟩
  frontLevel (l : List Blk) : Fact (touchLevel.blks ⊆ .canal :: .eth :: .evlog :: .flume :: .pcie :: .core :: .dispatch ::
      .fault :: .headgate :: .obsIn :: .registry :: .rtkCtrl :: l) :=
    ⟨List.subset_append_left touchLevel.blks l⟩

theorem Touch.granting : Touch.Granting := {}

/-! ### What the outcome of a command says -/

theorem Res.rest_eq_some {W : Touch} {r : Res} {x : Rest} : Res.rest W r = some x ↔ ∃ t, r = .next t ∧ t.rest W = x := by
  cases r <;> simp [Res.rest]

theorem Res.wf_iff {r : Res} : Res.wf r = true ↔ ∃ t, r = .next t ∧ t.wf = true := by
  cases r <;> simp [Res.wf]

/-! ### Every command completes, inside its frame -/

/-- The frame lemma of each command's function (`simp` has them all), for the frame that `touches` gives the command:
`Touch.granting` gives that frame the classes that the lemma asks for. -/
theorem exec_rest (c : Instr) (s : State) : Res.rest (touches c) (exec c s) = some (s.rest (touches c)) := by
  cases Touch.granting
  have := @Touch.All.mk
  cases c
  all_goals
    dsimp only [exec, touches, touchAll, touchLevel, touchLog, List.cons_append, List.nil_append]
    simp

theorem exec_completes (c : Instr) (s : State) : ∃ t, exec c s = .next t ∧ t.rest (touches c) = s.rest (touches c) :=
  Res.rest_eq_some.mp (exec_rest c s)

/-- Settles O3: the frame lemma of each command's function, `exec_rest`. -/
theorem frameOfEveryCommand : Obligations.FrameOfEveryCommand := exec_completes

theorem Touch.has_eq_false {W : Touch} {b : Blk} (h : b ∉ W.blks) : W.has (some b) = false := by
  simpa [Touch.has] using h

/-- Settles O4: the next state of `exec_completes`, read part by part (Sys2Proof/Laws/Keep.lean). -/
theorem outsideTheFrame : Obligations.OutsideTheFrame := by
  intro c s
  obtain ⟨t, ht, hr⟩ := exec_completes c s
  exact ⟨t, ht, State.pending_of_rest hr, State.now_of_rest hr,
    fun p o hp => State.reg_of_rest hr p o (Touch.has_eq_false hp),
    fun f i k hf => State.get_of_rest hr f i k (Touch.has_eq_false hf),
    fun p n hp => State.ctr_of_rest hr p n (Touch.has_eq_false hp),
    fun p table idx hp => State.te_of_rest hr p table idx (Touch.has_eq_false hp),
    fun p hp => State.page_of_rest hr p (Touch.has_eq_false hp),
    fun hd a => congrArg (AMap.get _ · a) (State.dram_of_rest hr hd),
    State.hg_of_rest hr, State.ls_of_rest hr, State.key_of_rest hr⟩

/-! ### Every step keeps the canonical form -/

/-- Each command's function keeps the canonical form of every memory (its lemma in Sys2Proof/Laws/Canon.lean). -/
theorem exec_wf (c : Instr) (s : State) : ResKept (exec c s) s :=
  match c with
  | .registerWrite src addr value x => execRegisterWrite_wf src addr value x s
  | .unmappedAccess src addr write bad => execUnmappedAccess_wf src addr write bad s
  | .counterRead src addr => execCounterRead_wf src addr s
  | .nowNsRead src => execNowNsRead_wf src s
  | .bar2Access z addr value write x => execBar2Access_wf z addr value write x s
  | .tunnelTimeout id => execTunnelTimeout_wf id s
  | .ctrlEnWrite src p en => execCtrlEnWrite_wf src p en s
  | .ctrlRestart p => execCtrlRestart_wf p s
  | .isoClear p => execIsoClear_wf p s
  | .startupComplete p ok code x => execStartupComplete_wf p ok code x s
  | .startupSafePoint p => execStartupSafePoint_wf p s
  | .shutdownComplete p => execShutdownComplete_wf p s
  | .regionIsolate p lost badCells can => execRegionIsolate_wf p lost badCells can s
  | .blockAutoRestart p => execBlockAutoRestart_wf p s
  | .cellError p cell cls code a0 a1 a2 => execCellError_wf p cell cls code a0 a1 a2 s
  | .levelRise => execLevelRise_wf s
  | .errInject src p cls cell => execErrInject_wf src p cls cell s
  | .irqForce src p mask => execIrqForce_wf src p mask s
  | .lockWrite src p => execLockWrite_wf src p s
  | .vecAck v => execVecAck_wf v s
  | .tblRead via p table idx => execTblRead_wf via p table idx s
  | .tblWrite via p table idx => execTblWrite_wf via p table idx s
  | .tblInsert via p table idx => execTblInsert_wf via p table idx s
  | .tblDelete via p table idx => execTblDelete_wf via p table idx s
  | .tblLookup via p table idx => execTblLookup_wf via p table idx s
  | .tblNext via p table idx => execTblNext_wf via p table idx s
  | .tblCmpwrite via p table idx => execTblCmpwrite_wf via p table idx s
  | .tagCompletion => execTagCompletion_wf s
  | .refclkLost refEdges auxEdges => execRefclkLost_wf refEdges auxEdges s
  | .pllRelock rcCycles => execPllRelock_wf rcCycles s
  | .refGood10s => execRefGood10s_wf s
  | .returnReq => execReturnReq_wf s
  | .rootReturn => execRootReturn_wf s
  | .returnFail => execReturnFail_wf s
  | .auxclkLost refEdges auxEdges => execAuxclkLost_wf refEdges auxEdges s
  | .rootInputRecovered refEdges auxEdges rcCycles => execRootInputRecovered_wf refEdges auxEdges rcCycles s
  | .dramScrubPass corrected bad => execDramScrubPass_wf corrected bad s
  | .dramTrainingDone pass => execDramTrainingDone_wf pass s
  | .supRestart => execSupRestart_wf s
  | .supHold hold => execSupHold_wf hold s
  | .supRelease copyOk flashOk => execSupRelease_wf copyOk flashOk s
  | .chipResetGo => execChipResetGo_wf s
  | .bundleAssembly p g late => execBundleAssembly_wf p g late s
  | .antCurrentClassify ant current => execAntCurrentClassify_wf ant current s
  | .interfSet ant upper lower refUpper refLower => execInterfSet_wf ant upper lower refUpper refLower s
  | .interfClear ant upper lower refUpper refLower => execInterfClear_wf ant upper lower refUpper refLower s
  | .acqPass sky => execAcqPass_wf sky s
  | .channelLock c => execChannelLock_wf c s
  | .pullInTimeout c => execPullInTimeout_wf c s
  | .cycleSlip c => execCycleSlip_wf c s
  | .trackLoss c => execTrackLoss_wf c s
  | .channelRelock c => execChannelRelock_wf c s
  | .lostTimeout c belowMask => execLostTimeout_wf c belowMask s
  | .polarityResolved c => execPolarityResolved_wf c s
  | .measStrobe meas => execMeasStrobe_wf meas s
  | .epochComplete clkResid geom => execEpochComplete_wf clkResid geom s
  | .spoofClear => execSpoofClear_wf s
  | .surveyStart => execSurveyStart_wf s
  | .surveySecond x y z => execSurveySecond_wf x y z s
  | .surveyTimeout => execSurveyTimeout_wf s
  | .timeSourceMeasure src ptp slave cls => execTimeSourceMeasure_wf src ptp slave cls s
  | .slewComplete => execSlewComplete_wf s
  | .tqEvaluate => execTqEvaluate_wf s
  | .refusedTimeout => execRefusedTimeout_wf s
  | .gapAllowExpiry => execGapAllowExpiry_wf s
  | .stepToSource => execStepToSource_wf s
  | .stepByOffset ofs => execStepByOffset_wf ofs s
  | .acceptFree => execAcceptFree_wf s
  | .slewAccept => execSlewAccept_wf s
  | .timeStepApply => execTimeStepApply_wf s
  | .rebaseComplete => execRebaseComplete_wf s
  | .ppsEdge => execPpsEdge_wf s
  | .ptpEventRx port f => execPtpEventRx_wf port f s
  | .ptpEventTx port msgType domain seqId oneStep => execPtpEventTx_wf port msgType domain seqId oneStep s
  | .txtsPop src port => execTxtsPop_wf src port s
  | .memberEpochReady m => execMemberEpochReady_wf m s
  | .cellTake cell => execCellTake_wf cell s
  | .deadlineDrop m => execDeadlineDrop_wf m s
  | .solveComplete cell cycles => execSolveComplete_wf cell cycles s
  | .cellWatchdog cell => execCellWatchdog_wf cell s
  | .rtkCapacityEval => execRtkCapacityEval_wf s
  | .signalAbsentTimeout m sig svid => execSignalAbsentTimeout_wf m sig svid s
  | .memberStateTimeout m => execMemberStateTimeout_wf m s
  | .baseLost => execBaseLost_wf s
  | .corrBuild => execCorrBuild_wf s
  | .corrEntry p idx => execCorrEntry_wf p idx s
  | .framingLock p => execFramingLock_wf p s
  | .framingLoss p => execFramingLoss_wf p s
  | .ppduTx p rate len => execPpduTx_wf p rate len s
  | .ppduRx p rate y => execPpduRx_wf p rate y s
  | .spiTxnGo p len => execSpiTxnGo_wf p len s
  | .spiTxnDone p miso => execSpiTxnDone_wf p miso s
  | .healthCheck p miso => execHealthCheck_wf p miso s
  | .airportStartTimeout p => execAirportStartTimeout_wf p s
  | .txPathGrant p => execTxPathGrant_wf p s
  | .portSvcStart p => execPortSvcStart_wf p s
  | .portSvcFault p => execPortSvcFault_wf p s
  | .faultClr p => execFaultClr_wf p s
  | .superframeBoundary => execSuperframeBoundary_wf s
  | .sluiceBankClear via p bank => execSluiceBankClear_wf via p bank s
  | .bankArm p => execBankArm_wf p s
  | .bankCancel p => execBankCancel_wf p s
  | .upFrameRx p => execUpFrameRx_wf p s
  | .ackRx p => execAckRx_wf p s
  | .ackMissing p seq => execAckMissing_wf p seq s
  | .joinReqRx p => execJoinReqRx_wf p s
  | .downBcastEntry p idx => execDownBcastEntry_wf p idx s
  | .upEntryEnd p idx => execUpEntryEnd_wf p idx s
  | .relayedFrameRx p => execRelayedFrameRx_wf p s
  | .routeAgeTick => execRouteAgeTick_wf s
  | .routeScanStep => execRouteScanStep_wf s
  | .routeRepack via => execRouteRepack_wf via s
  | .repackComplete => execRepackComplete_wf s
  | .routeEccHoldExpiry => execRouteEccHoldExpiry_wf s
  | .learnRx m => execLearnRx_wf m s
  | .floodSeenAge src seq => execFloodSeenAge_wf src seq s
  | .furrowOpen via => execFurrowOpen_wf via s
  | .furrowSteps via => execFurrowSteps_wf via s
  | .furrowSubmit via => execFurrowSubmit_wf via s
  | .furrowRelease via => execFurrowRelease_wf via s
  | .clearOverstay via => execClearOverstay_wf via s
  | .abandon via => execAbandon_wf via s
  | .buildTimeout handle => execBuildTimeout_wf handle s
  | .prepareRx m => execPrepareRx_wf m s
  | .voteRx m => execVoteRx_wf m s
  | .commitRx m => execCommitRx_wf m s
  | .commitAckRx m => execCommitAckRx_wf m s
  | .committedRx m => execCommittedRx_wf m s
  | .abortRx m => execAbortRx_wf m s
  | .leaseReleaseRx m => execLeaseReleaseRx_wf m s
  | .stepDoneRx m => execStepDoneRx_wf m s
  | .stepOverstayRx m => execStepOverstayRx_wf m s
  | .takeoverRx m => execTakeoverRx_wf m s
  | .xferDeadline xid => execXferDeadline_wf xid s
  | .committedTimeout xid => execCommittedTimeout_wf xid s
  | .stepDue idx => execStepDue_wf idx s
  | .reportWaitExpiry idx => execReportWaitExpiry_wf idx s
  | .lostClr src => execLostClr_wf src s
  | .ownerForfeit idx => execOwnerForfeit_wf idx s
  | .hostGenBump => execHostGenBump_wf s
  | .tlockStart idx => execTlockStart_wf idx s
  | .tlockEnd idx => execTlockEnd_wf idx s
  | .turnoutTake via => execTurnoutTake_wf via s
  | .turnoutDrop via => execTurnoutDrop_wf via s
  | .orphanClear via => execOrphanClear_wf via s
  | .seqOpen via => execSeqOpen_wf via s
  | .seqStage via => execSeqStage_wf via s
  | .seqCommit via => execSeqCommit_wf via s
  | .seqDiscard via => execSeqDiscard_wf via s
  | .seqTimeout handle => execSeqTimeout_wf handle s
  | .registryRelease via => execRegistryRelease_wf via s
  | .registryHold via => execRegistryHold_wf via s
  | .evict via => execEvict_wf via s
  | .noPositionTimeout m => execNoPositionTimeout_wf m s
  | .moveAdd via => execMoveAdd_wf via s
  | .moveFlush via => execMoveFlush_wf via s
  | .setLimits via => execSetLimits_wf via s
  | .stopInputFiltered input active => execStopInputFiltered_wf input active s
  | .discrepancy => execDiscrepancy_wf s
  | .stopReq src req => execStopReq_wf src req s
  | .burstFrame => execBurstFrame_wf s
  | .hgBeacon port => execHgBeacon_wf port s
  | .hgKeyLoad => execHgKeyLoad_wf s
  | .canalStopRx port unit mseq m => execCanalStopRx_wf port unit mseq m s
  | .outputTestPulse outB => execOutputTestPulse_wf outB s
  | .outputReadbackError outB => execOutputReadbackError_wf outB s
  | .resumeArm => execResumeArm_wf s
  | .resumeRelease tag => execResumeRelease_wf tag s
  | .armWindowExpiry => execArmWindowExpiry_wf s
  | .hgSelftest ok => execHgSelftest_wf ok s
  | .hgPowerOn ok => execHgPowerOn_wf ok s
  | .dpTake core => execDpTake_wf core s
  | .itemDone core ctx => execItemDone_wf core ctx s
  | .emitCmd core ctx dest kind target arg body => execEmitCmd_wf core ctx dest kind target arg body s
  | .itemTimeout core ctx => execItemTimeout_wf core ctx s
  | .dispatchPost via => execDispatchPost_wf via s
  | .timerFire t => execTimerFire_wf t s
  | .traceSync => execTraceSync_wf s
  | .taskCreate via => execTaskCreate_wf via s
  | .taskOffer via => execTaskOffer_wf via s
  | .taskClaim via => execTaskClaim_wf via s
  | .taskStart via => execTaskStart_wf via s
  | .taskFinish via => execTaskFinish_wf via s
  | .taskWithdraw via => execTaskWithdraw_wf via s
  | .taskFree via => execTaskFree_wf via s
  | .taskDeadline idx => execTaskDeadline_wf idx s
  | .chargeEnergyTick => execChargeEnergyTick_wf s
  | .arbRequest region r beats write target => execArbRequest_wf region r beats write target s
  | .arbGrantEnd region => execArbGrantEnd_wf region s
  | .arbWithdraw region r parked => execArbWithdraw_wf region r parked s
  | .quotaWindow region => execQuotaWindow_wf region s
  | .freezeWrite region src on => execFreezeWrite_wf region src on s
  | .freezeTimeout region => execFreezeTimeout_wf region s
  | .lwClr region r => execLwClr_wf region r s
  | .pcieLinkDown perst => execPcieLinkDown_wf perst s
  | .pcieFlr => execPcieFlr_wf s
  | .flumeFrameRx port f idx => execFlumeFrameRx_wf port f idx s
  | .creditRx port session l => execCreditRx_wf port session l s
  | .flumeFlush queue => execFlumeFlush_wf queue s
  | .flumeRetxTimeout queue => execFlumeRetxTimeout_wf queue s
  | .creditSend => execCreditSend_wf s
  | .hostTimeout => execHostTimeout_wf s
  | .flumeStall queue => execFlumeStall_wf queue s
  | .qevClr queue => execQevClr_wf queue s
  | .pfcRx port mask quanta => execPfcRx_wf port mask quanta s
  | .pfcXoffRepeat port => execPfcXoffRepeat_wf port s
  | .ethLinkChange port up anDone => execEthLinkChange_wf port up anDone s
  | .canalTrained port h laneSwap => execCanalTrained_wf port h laneSwap s
  | .canalTrainTimeout port => execCanalTrainTimeout_wf port s
  | .canalLinkFail port lockLost => execCanalLinkFail_wf port lockLost s
  | .canalReplayTimeout port => execCanalReplayTimeout_wf port s
  | .canalMessageRx port m x => execCanalMessageRx_wf port m x s
  | .enumRx port count own => execEnumRx_wf port count own s
  | .enumTimeout => execEnumTimeout_wf s
  | .ringNoticeRx port link up => execRingNoticeRx_wf port link up s
  | .island => execIsland_wf s
  | .delayReq port => execDelayReq_wf port s
  | .delayRespRx port t1 t2 t3 => execDelayRespRx_wf port t1 t2 t3 s
  | .timeMessageSend => execTimeMessageSend_wf s
  | .timeMessageRx port hops timeS timeNs corr uncert epoch tq mseq origin unit => execTimeMessageRx_wf port hops timeS timeNs corr uncert epoch tq mseq origin unit s
  | .regMessageRx m x => execRegMessageRx_wf m x s
  | .peerAlivePulse => execPeerAlivePulse_wf s
  | .peerPulseRx width => execPeerPulseRx_wf width s
  | .peerPulseMissed => execPeerPulseMissed_wf s
  | .pairKick => execPairKick_wf s
  | .pairResetRole => execPairResetRole_wf s
  | .claimCheck => execClaimCheck_wf s
  | .claimLineChange asserted => execClaimLineChange_wf asserted s
  | .pairWarm on => execPairWarm_wf on s
  | .pairTake => execPairTake_wf s
  | .takeoverStart => execTakeoverStart_wf s
  | .takeoverLoaded => execTakeoverLoaded_wf s
  | .pairDataRx m => execPairDataRx_wf m s
  | .pairCutRx m => execPairCutRx_wf m s
  | .pairAckRx sfn => execPairAckRx_wf sfn s
  | .partnerAckTimeout => execPartnerAckTimeout_wf s
  | .stopStateRx cls reason stopSeq => execStopStateRx_wf cls reason stopSeq s
  | .pairStatusSend => execPairStatusSend_wf s
  | .pairStatusRx m => execPairStatusRx_wf m s
  | .handoverRx => execHandoverRx_wf s
  | .resyncRx => execResyncRx_wf s
  | .pairSwitch => execPairSwitch_wf s
  | .switchReqRx => execSwitchReqRx_wf s
  | .switchRx sfn => execSwitchRx_wf sfn s
  | .revertHoldoffExpiry => execRevertHoldoffExpiry_wf s
  | .revertRequest => execRevertRequest_wf s
  | .meterWindow w => execMeterWindow_wf w s
  | .meterSecond => execMeterSecond_wf s
  | .meterIntervalEnd => execMeterIntervalEnd_wf s
  | .pqRefresh v rms => execPqRefresh_wf v rms s
  | .meterSave ok => execMeterSave_wf ok s
  | .meterPulse k => execMeterPulse_wf k s
  | .pulseCfgWrite src k value => execPulseCfgWrite_wf src k value s
  | .attGo => execAttGo_wf s
  | .attestDone => execAttestDone_wf s
  | .ksSign via => execKsSign_wf via s
  | .ksVerify via ok => execKsVerify_wf via ok s
  | .ksDerive via => execKsDerive_wf via s
  | .remask => execRemask_wf s
  | .tokOpen src => execTokOpen_wf src s
  | .tokGo src => execTokGo_wf src s
  | .tokRelease src => execTokRelease_wf src s
  | .tokOwnerTimeout => execTokOwnerTimeout_wf s
  | .tokenVerifyDone sigOk key burnOk => execTokenVerifyDone_wf sigOk key burnOk s
  | .tokNonceExpiry => execTokNonceExpiry_wf s
  | .fuseProgGo setting value signer => execFuseProgGo_wf setting value signer s
  | .fuseBurnDone ok => execFuseBurnDone_wf ok s
  | .lcTransition target signer burnOk => execLcTransition_wf target signer burnOk s
  | .lcRetire burnOk => execLcRetire_wf burnOk s
  | .dbgOpenObserve => execDbgOpenObserve_wf s
  | .dbgOpenFull => execDbgOpenFull_wf s
  | .dbgObserve => execDbgObserve_wf s
  | .certGo sigOk => execCertGo_wf sigOk s
  | .dbgEnd => execDbgEnd_wf s
  | .dbgDurationExpiry => execDbgDurationExpiry_wf s
  | .extest trst => execExtest_wf trst s
  | .pwrTargetWrite t => execPwrTargetWrite_wf t s
  | .mainSupplyLoss vbat => execMainSupplyLoss_wf vbat s
  | .vddGateLoss => execVddGateLoss_wf s
  | .supplyMonitorTrip rail vbat => execSupplyMonitorTrip_wf rail vbat s
  | .thermalTrip tj => execThermalTrip_wf tj s
  | .tempWarn tj => execTempWarn_wf tj s
  | .porst widthNs head role recovN => execPorst_wf widthNs head role recovN s
  | .romBoot copyOk => execRomBoot_wf copyOk s
  | .bootOk src => execBootOk_wf src s
  | .keepWatchdog => execKeepWatchdog_wf s
  | .imageLoad t => execImageLoad_wf t s
  | .updVerify set => execUpdVerify_wf set s
  | .updProgram => execUpdProgram_wf s
  | .updCancel => execUpdCancel_wf s
  | .updDone changed flashOk sectors => execUpdDone_wf changed flashOk sectors s
  | .updCommit signer => execUpdCommit_wf signer s
  | .recoveryChunk ch rec idx => execRecoveryChunk_wf ch rec idx s
  | .rcvGo idx => execRcvGo_wf idx s
  | .recoverySilence => execRecoverySilence_wf s
  | .weirTokenDue code => execWeirTokenDue_wf code s
  | .weirBucketReturn code => execWeirBucketReturn_wf code s
  | .eventSummary => execEventSummary_wf s
  | .seqSave => execSeqSave_wf s
  | .foundingBatch n => execFoundingBatch_wf n s
  | .mainSupplyReturn head role recovN => execMainSupplyReturn_wf head role recovN s
  | .railBackInRange rail => execRailBackInRange_wf rail s
  | .auxclkReturn auxEdges => execAuxclkReturn_wf auxEdges s
  | .stepWindowBegins idx => execStepWindowBegins_wf idx s
  | .directLockEnd t => execDirectLockEnd_wf t s
  | .pcieLinkUp speed width bme => execPcieLinkUp_wf speed width bme s
  | .msixVectorUnmask v => execMsixVectorUnmask_wf v s
  | .canalFlitRx port crcOk seq ackSeq crClass crTotal ctrl => execCanalFlitRx_wf port crcOk seq ackSeq crClass crTotal ctrl s
  | .pfcPauseExpiry port prio => execPfcPauseExpiry_wf port prio s
  | .ethOtherFrameRx port f forSup => execEthOtherFrameRx_wf port f forSup s
  | .meterOutageSample ma => execMeterOutageSample_wf ma s
  | .tjBelow105 tj => execTjBelow105_wf tj s
  | .debugHalt core act => execDebugHalt_wf core act s
  | .recoveryLinkTry port => execRecoveryLinkTry_wf port s

theorem State.wf_time (s : State) (n f : Nat) : ({ s with now := n, ft := f } : State).wf = s.wf := rfl

theorem State.wf_pending (s : State) (q : List Instr) : ({ s with pending := q } : State).wf = s.wf := rfl

/-- A clock cycle writes only the time and BUSY_CYCLES. -/
theorem State.tick_wf (s : State) : Kept s.tick s := by
  intro h
  unfold State.tick
  split
  · exact State.busyCycles_wf _ ((State.wf_time s _ _).trans h)
  · exact (State.wf_time s _ s.ft).trans h

theorem step_wf (s : State) : ResKept (step s) s := by
  intro h
  unfold step
  split
  · exact State.tick_wf s h
  next c rest _ => exact exec_wf c _ ((State.wf_pending s rest).trans h)

/-- Settles O5: a step is a clock cycle or a command, and each keeps the canonical form. -/
theorem stepKeepsCanonicalForm : Obligations.StepKeepsCanonicalForm :=
  fun s h => Res.wf_iff.mp (step_wf s h)

/-- The words that reset sets stand in rising order, and each differs from the reset word of its register. -/
theorem resetRegs_wf : AMap.wf regReset resetRegs = true := by decide +kernel

/-- Settles O6: only registers are listed after reset, in canonical form; every other memory is empty. -/
theorem resetIsCanonical : Obligations.ResetIsCanonical :=
  ⟨(State.wf_iff State.reset).mpr ⟨resetRegs_wf, AMap.wf_nil _, AMap.wf_nil _, AMap.wf_nil _, AMap.wf_nil _, AMap.wf_nil _,
    AMap.wf_nil _, AMap.wf_nil _⟩, rfl⟩

/-! ### What is written is read back -/

/-- Settles O8: read after write of fields, counters, table entries and the sparse memories (Sys2Proof/Laws/State.lean,
Sys2Proof/Laws/Data.lean). -/
theorem contentsReadBack : Obligations.ContentsReadBack :=
  ⟨State.get_set_same,
    fun s f v i k g j l hw h => State.get_set_apart s f v i k g j l hw fun ha => h.resolve_left (not_not_intro ha),
    State.ctr_incP_same,
    fun s p q c d n => State.ctr_incP_ne s p c n q d,
    State.te_setTe_same,
    fun s p q table idx v table' idx' => State.te_setTe_ne s p table idx v q table' idx',
    fun m a b v => ⟨AMap.get_set_same _ m a v, AMap.get_set_ne _ m a v b⟩⟩

end Sys2Proof.Machine
end

section
/-! SUPPORT. The proofs of the register-page family: the state after reset (`Obligations.ResetStartsTheBlocks`), plain accesses
(`Obligations.PlainAccesses`), the state machine of a block (`Obligations.BlockStateMachine`), the common table opcodes
(`Obligations.TableOperations`), and the PCI Express link, the vectors and the host's generation
(`Obligations.PciExpressAndVectors`). -/
namespace Sys2Proof.Machine
open Sys2Proof

/-! ### After reset (R41, R42, R43) -/

/-- CTRL.EN and STATE of every page but the REGION_CTL pages, in the words that reset leaves. -/
theorem reset_en_st : ∀ p ∈ allPages, p.blk ≠ .regionCtl →
    State.reset.getP p F.CTRL_EN = (if p.blk.region = 0 ∨ p.blk ∈ [Blk.keep, .keystore, .evlog, .boot, .pcie, .headgate] then 1 else 0) ∧
    State.reset.st p = State.reset.getP p F.CTRL_EN := by decide +kernel

/-- No counter is listed at reset. -/
theorem reset_ctr (p : Page) (c : Ctr) : State.reset.ctr p c = 0 := rfl

/-- An unlisted member's record has RSTATE FREE. -/
theorem reset_members : State.reset.members = [] := by decide +kernel

/-- Settles O7. -/
theorem resetStartsTheBlocks : Obligations.ResetStartsTheBlocks :=
  ⟨reset_en_st, reset_ctr, rfl, rfl, reset_members⟩

/-! ### A tunnel access whose number comes again (R381) -/

/-- A read of zone 1 that was sent at reset and is not answered, and a write to the same zone that waits behind it. The numbers of accesses are
taken modulo 2^16, so that the access which waits may carry the number of the one which is outstanding: here both carry 0. -/
def tunnelNumberTwice : State :=
  { State.reset with now := sec 1, canal := { tun := [⟨0, 1, false, 0, 0, 0⟩], tunWait := [⟨0, 1, true, 0xC, 0, 0⟩] } }

/-- The time-out takes the read away and then sends what waits, so that an access of number 0 is outstanding again. -/
theorem tunnelTimeout_sends_number_again :
    ((Res.state tunnelNumberTwice (exec (.tunnelTimeout 0) tunnelNumberTwice)).canal.tun.find? fun y => decide (y.id = 0)) =
      some ⟨0, 1, true, 0xC, 0, sec 1⟩ := by decide +kernel

/-- Refutes O10: of its clauses the one of a tunnel read that times out says that no access with the number of the read is outstanding
afterwards; in `tunnelNumberTwice` one is. -/
theorem not_plainAccesses : ¬ Obligations.PlainAccesses := by
  rintro ⟨-, -, -, -, -, -, -, hread, -⟩
  obtain ⟨t, ht, hnone, -⟩ := hread tunnelNumberTwice 0 ⟨0, 1, false, 0, 0, 0⟩ rfl (by decide +kernel) rfl
  have hsome := tunnelTimeout_sends_number_again
  rw [ht] at hsome
  exact Option.some_ne_none _ (hsome.symm.trans hnone)

/-! ### A region controller whose start fails (R43, R52) -/

/-- The controller of region CHIP is STARTING after reset. Where its self-test fails, the error is UNCONTAINED at a REGION_CTL page, which fails the
region: every page of the region is powered down, the controller's own among them. -/
theorem controller_failed_start_isolated :
    (Res.state State.reset (exec (.startupComplete ⟨.regionCtl, 0⟩ false 0 {}) State.reset)).st ⟨.regionCtl, 0⟩ = stIsolated := by decide +kernel

/-- Refutes O11: its clause of a start whose self-test fails says that the page is in FAULT afterwards; the controller of region CHIP is
ISOLATED. -/
theorem not_blockStateMachine : ¬ Obligations.BlockStateMachine := by
  rintro ⟨-, -, -, -, -, -, hfails, -⟩
  obtain ⟨t, ht, hfault⟩ := hfails State.reset ⟨.regionCtl, 0⟩ 0 {} (by decide) (by decide) (by decide +kernel) (by decide +kernel) (by decide)
    (by decide)
  have hiso := controller_failed_start_isolated
  rw [ht] at hiso
  exact absurd (hfault.symm.trans hiso) (by decide)

/-! ### A table operation that is looked at once (R49 to R51) -/

theorem State.rebaseHolds_of_idle (s : State) (p : Page) (h : s.get F.LEASE_STATUS_REBASING = 0) : s.rebaseHolds p = false := by
  simp [State.rebaseHolds, h]

theorem State.rebaseHolds_route (s : State) : s.rebaseHolds pRT = false := by
  simp [State.rebaseHolds]

theorem State.rebaseHolds_sluice (s : State) (port : Nat) : s.rebaseHolds (pSL port) = false := by
  simp [State.rebaseHolds]

/-- An operation that a block decides as it accepts it. -/
theorem State.tblDecide_now {s t : State} {via : Via} {p : Page} {op table i data : Nat} {key : List Nat} {f : TFn} {r : TRes}
    (hheld : s.rebaseHolds p = false) (hf : f s key data = (t, some r)) :
    s.tblDecide via p op table i key data f = t.tblDone via p i r := by
  rw [State.tblDecide, if_neg (by simp [hheld]), hf]
  rfl

/-- An operation that a supervisor's tag brings to a block that is ON, and that the block decides at once, completes on the supervisor's private
port with what the block answers. -/
theorem State.tblGo_sup_tag {s t : State} {r : TRes} (p : Page) (op table i tg q : Nat) (key : List Nat) (data : Nat)
    (hp : allPages.contains p = true) (hgap : s.gated = false) (htab : p.blk.tables ≠ 0) (hon : s.st p = stOn)
    (hlo : 0x80 ≤ tg) (hhi : tg ≤ 0xBF) (hbusy : s.tagBusy tg = false) (hheld : s.rebaseHolds p = false)
    (hf : tblFn (.tag .sup tg q key data) p op table i s key data = (t, some r)) :
    s.tblGo (.tag .sup tg q key data) p op table i = t.emit (.compl .sup ⟨tg, r.err, p.wire, r.index.getD i, r.data⟩) := by
  have hbar : s.jtagBars (Via.tag Src.sup tg q key data).src p true = false := rfl
  have htag : tagOk .sup tg = true := decide_eq_true ⟨hlo, hhi⟩
  rw [State.tblGo, if_pos hp, State.tblOp, if_neg (by simp [hbar]), if_neg (by simp [hgap]), State.tblOpNow, if_neg (by simp [htag]),
    if_neg (by simp [hbusy]), if_neg htab, if_neg (not_not_intro hon)]
  exact State.tblDecide_now hheld hf

/-! ### The entry window (R506) -/

/-- The words of a number, least significant first, spell the number again. -/
theorem foldr_words (n v : Nat) :
    ((List.range n).map fun i => v / 2 ^ (32 * i) % 2 ^ 32).foldr (fun w acc => w + acc * 2 ^ 32) 0 = v % 2 ^ (32 * n) := by
  induction n generalizing v with
  | zero => simp [Nat.mod_one]
  | succ n ih =>
    have hshift (i : Nat) : v / 2 ^ (32 * (i + 1)) = v / 2 ^ 32 / 2 ^ (32 * i) := by
      rw [Nat.div_div_eq_div_mul, ← pow_add, Nat.mul_add, Nat.add_comm]
    rw [List.range_succ_eq_map, List.map_cons, List.map_map, List.foldr_cons]
    simp only [Function.comp_def, Nat.succ_eq_add_one, hshift, ih (v / 2 ^ 32)]
    rw [show 32 * (n + 1) = 32 + 32 * n by ring, pow_add, Nat.mod_mul]
    simp [Nat.mul_comm]

/-- The words of the window stand at different addresses. -/
theorem Page.window_ne (p : Page) {i j : Nat} (hi : i < 16) (hj : j < 16) (h : i ≠ j) : p.adr (0x240 + 4 * i) ≠ p.adr (0x240 + 4 * j) :=
  Page.off_ne p p _ _ (by omega) (by omega) (by omega)

theorem State.setTblData_reg_ne (s : State) (p : Page) (v a : Nat) (h : ∀ i < 16, a ≠ p.adr (0x240 + 4 * i)) :
    (s.setTblData p v).reg a = s.reg a := by
  have hall : ∀ (l : List Nat) (t : State), (∀ i ∈ l, i < 16) →
      (t.each l fun s i => s.setReg (p.adr (0x240 + 4 * i)) (v / 2 ^ (32 * i) % 2 ^ 32)).reg a = t.reg a := by
    intro l
    induction l with
    | nil => intro t _; rfl
    | cons i l ih =>
      intro t hl
      refine (ih _ fun j hj => hl j (List.mem_cons_of_mem i hj)).trans ?_
      exact State.reg_setReg_ne _ _ _ _ (h i (hl i List.mem_cons_self))
  exact hall _ s fun i hi => List.mem_range.mp hi

theorem State.each_window_reg (s : State) (p : Page) (f : Nat → Nat) (n j : Nat) (hn : n ≤ 16) (hj : j < n) :
    (s.each (List.range n) fun s i => s.setReg (p.adr (0x240 + 4 * i)) (f i)).reg (p.adr (0x240 + 4 * j)) = f j % 2 ^ 32 := by
  induction n with
  | zero => omega
  | succ n ih =>
    rw [State.each, List.range_succ, List.foldl_append]
    by_cases h : j = n
    · subst h
      exact State.reg_setReg_same _ _ _
    · refine (State.reg_setReg_ne _ _ _ _ (p.window_ne (by omega) (by omega) h)).trans ?_
      exact ih (by omega) (by omega)

theorem State.setTblData_word (s : State) (p : Page) (v i : Nat) (h : i < 16) :
    (s.setTblData p v).reg (p.adr (0x240 + 4 * i)) = v / 2 ^ (32 * i) % 2 ^ 32 := by
  rw [State.setTblData, State.each_window_reg _ _ _ _ _ (Nat.le_refl 16) h, Nat.mod_mod]

/-- A state whose window words are those of a number shows that number in the window. -/
theorem State.tblData_of_words {s : State} {p : Page} {v : Nat}
    (h : ∀ i < 16, s.reg (p.adr (0x240 + 4 * i)) = v / 2 ^ (32 * i) % 2 ^ 32) : s.tblData p = v % 2 ^ 512 := by
  have hw : s.words p 0x240 16 = (List.range 16).map fun i => v / 2 ^ (32 * i) % 2 ^ 32 :=
    List.map_congr_left fun i hi => h i (List.mem_range.mp hi)
  rw [State.tblData, hw, foldr_words]

@[simp] theorem State.setTblData_tbl (s : State) (p : Page) (v : Nat) : (s.setTblData p v).tbl = s.tbl :=
  State.each_keeps State.tbl s _ _ fun _ _ => rfl

@[simp] theorem State.irq_tbl (s : State) (p : Page) (n : Nat) : (s.irq p n).tbl = s.tbl := by
  unfold State.irq State.irqBits State.assertSrc State.sendVec
  dsimp only
  (repeat' split) <;> rfl

/-! ### A READ through the page interface -/

/-- A page interface that has accepted an operation: TBL_CMD holds it, and BUSY is set. -/
def State.tblBegin (s : State) (p : Page) (op table i : Nat) : State :=
  let s := s.setReg p.tblCmd (op % 16 + table % 16 * 16 + i % 2 ^ 24 * 256)
  s.setReg p.tblStatus (Nat.lor (s.reg p.tblStatus) 1)

theorem Page.adr_ne_tblStatus (p : Page) {o : Nat} (ho : o < 0x1000) (h : o ≠ 0x204) : p.adr o ≠ p.tblStatus :=
  Page.off_ne p p _ _ ho (by omega) h

theorem Page.adr_ne_tblCmd (p : Page) {o : Nat} (ho : o < 0x1000) (h : o ≠ 0x200) : p.adr o ≠ p.tblCmd :=
  Page.off_ne p p _ _ ho (by omega) h

theorem Page.tblStatus_ne_irqStatus (p : Page) : p.tblStatus ≠ p.adr 0x01C := Page.off_ne p p _ _ (by omega) (by omega) (by omega)

theorem Page.tblCmd_ne_tblStatus (p : Page) : p.tblCmd ≠ p.tblStatus := p.adr_ne_tblStatus (by omega) (by omega)

theorem Page.tblStatus_ne_window (p : Page) (i : Nat) (h : i < 16) : p.tblStatus ≠ p.adr (0x240 + 4 * i) :=
  (p.adr_ne_tblStatus (by omega) (by omega)).symm

theorem Page.tblCmd_ne_window (p : Page) (i : Nat) (h : i < 16) : p.tblCmd ≠ p.adr (0x240 + 4 * i) :=
  (p.adr_ne_tblCmd (by omega) (by omega)).symm

theorem State.tblBegin_reg (s : State) (p : Page) (op table i : Nat) {o : Nat} (ho : o < 0x1000) (hc : o ≠ 0x200) (hs : o ≠ 0x204) :
    (s.tblBegin p op table i).reg (p.adr o) = s.reg (p.adr o) := by
  rw [State.tblBegin, State.reg_setReg_ne _ _ _ _ (p.adr_ne_tblStatus ho hs), State.reg_setReg_ne _ _ _ _ (p.adr_ne_tblCmd ho hc)]

theorem State.tblBegin_opcode (s : State) (p : Page) (op table i : Nat) : (s.tblBegin p op table i).reg p.tblCmd % 16 = op % 16 := by
  rw [State.tblBegin, State.reg_setReg_ne _ _ _ _ p.tblCmd_ne_tblStatus, State.reg_setReg_same]
  omega

theorem State.tblOpNow_page (s : State) {src : Src} (p : Page) (op table i : Nat) (f : TFn) (hcore : ∀ n, src ≠ .core n) :
    s.tblOpNow (.page src) p op table i f =
      if p.blk.tables = 0 then s.unmapped src p.tblCmd true
      else if s.reg p.tblStatus % 2 = 1 then s.setReg p.tblStatus (Nat.lor (s.reg p.tblStatus) 4)
      else if (s.tblBegin p op table i).st p ≠ stOn then
        (s.tblBegin p op table i).tblDone (.page src) p i { err := (s.tblBegin p op table i).notOnErr p op }
      else (s.tblBegin p op table i).tblDecide (.page src) p op table i (s.words p 0x210 4) (s.tblData p) f := by
  cases src with
  | core n => exact absurd rfl (hcore n)
  | _ => rfl

/-- An operation of the page interface that a block which is ON decides at once completes with what the block answers. -/
theorem State.tblGo_page {s t : State} {src : Src} {p : Page} {op table i : Nat} {r : TRes}
    (hp : allPages.contains p = true) (hgap : s.gated = false) (hbar : s.jtagBars src p true = false)
    (hcore : ∀ n, src ≠ .core n) (htab : p.blk.tables ≠ 0) (hon : s.st p = stOn) (hidle : s.reg p.tblStatus % 2 = 0)
    (hheld : (s.tblBegin p op table i).rebaseHolds p = false)
    (hf : tblFn (.page src) p op table i (s.tblBegin p op table i) (s.words p 0x210 4) (s.tblData p) = (t, some r)) :
    s.tblGo (.page src) p op table i = t.tblDone (.page src) p i r := by
  have hon' : (s.tblBegin p op table i).st p = stOn :=
    (congrArg (fun x => bits x F.STATE.lsb F.STATE.width) (s.tblBegin_reg p op table i (by decide) (by decide) (by decide))).trans hon
  have hsrc : (Via.page src).src = src := rfl
  rw [State.tblGo, if_pos hp, State.tblOp, if_neg (by simp [hsrc, hbar]), if_neg (by simp [hgap]), State.tblOpNow_page s p op table i _ hcore,
    if_neg htab, if_neg (by omega), if_neg (not_not_intro hon')]
  exact State.tblDecide_now hheld hf

/-- A READ, whose opcode 0 leaves TBL_CMD.INDEX alone, shows its entry in the window, then DONE. -/
theorem State.tblDone_page_read (s : State) (src : Src) (p : Page) (index i e : Nat) (hop : s.reg p.tblCmd % 16 = 0) :
    s.tblDone (.page src) p index { index := some i, data := some e } =
      ((s.setReg p.tblStatus (Nat.lor (s.reg p.tblStatus % 8 - s.reg p.tblStatus % 2) 2)).setTblData p e).irq p 2 := by
  have hcmd (v : Nat) : ((s.setReg p.tblStatus v).setTblData p e).reg p.tblCmd % 16 = 0 := by
    rw [State.setTblData_reg_ne _ p e _ p.tblCmd_ne_window, State.reg_setReg_ne _ _ _ _ p.tblCmd_ne_tblStatus, hop]
  simp [State.tblDone, hcmd]

/-- What a READ through the page interface leaves: the entry in the window, TBL_STATUS with DONE, without BUSY and without an error, and
IRQ_STATUS.TBL_DONE. -/
theorem State.tblDone_page_read_shows {s t : State} {src : Src} {p : Page} {index i e : Nat} (hop : s.reg p.tblCmd % 16 = 0)
    (ht : t = s.tblDone (.page src) p index { index := some i, data := some e }) :
    t.tblData p = e % 2 ^ 512 ∧ t.tbl = s.tbl ∧ t.reg p.tblStatus % 2 = 0 ∧ t.reg p.tblStatus / 256 = 0 ∧ t.irqUp p 2 = true := by
  rw [State.tblDone_page_read s src p index i e hop] at ht
  have hword (j : Nat) (hj : j < 16) : t.reg (p.adr (0x240 + 4 * j)) = e / 2 ^ (32 * j) % 2 ^ 32 := by
    rw [ht, State.irq, State.irqBits_reg _ p _ _ (Page.off_ne p p _ _ (by omega) (by omega) (by omega)), State.setTblData_word _ p e j hj]
  have hst : t.reg p.tblStatus = Nat.lor (s.reg p.tblStatus % 8 - s.reg p.tblStatus % 2) 2 % 2 ^ 32 := by
    rw [ht, State.irq, State.irqBits_reg _ p _ _ p.tblStatus_ne_irqStatus, State.setTblData_reg_ne _ p e _ p.tblStatus_ne_window,
      State.reg_setReg_same]
  have hlor : ∀ x < 8, Nat.lor (x - x % 2) 2 % 2 ^ 32 % 2 = 0 ∧ Nat.lor (x - x % 2) 2 % 2 ^ 32 / 256 = 0 := by decide
  obtain ⟨hbusy, herr⟩ := hlor (s.reg p.tblStatus % 8) (Nat.mod_lt _ (by omega))
  rw [Nat.mod_mod_of_dvd _ (by decide : 2 ∣ 8), ← hst] at hbusy herr
  refine ⟨State.tblData_of_words hword, ?_, hbusy, herr, ?_⟩
  · rw [ht, State.irq_tbl, State.setTblData_tbl, State.setReg_tbl]
  · rw [ht]
    exact State.irq_up _ p 2 (by omega)

/-! ### Route entries (R213, R217) -/

theorem State.te_emit (s : State) (o : Out) (p : Page) (table idx : Nat) : (s.emit o).te p table idx = s.te p table idx :=
  State.te_of_tbl (State.emit_tbl s o) p table idx

theorem State.dramWrite_te (s : State) (off : Nat) (l : List Nat) (p : Page) (table idx : Nat) :
    (s.dramWrite off l).te p table idx = s.te p table idx := by
  have : Touch.Dram { dram := true, clk := true } := ⟨rfl⟩
  have : Touch.Clk { dram := true, clk := true } := ⟨rfl⟩
  exact State.te_of_rest (State.dramWrite_rest (W := { dram := true, clk := true }) s off l) p table idx rfl

theorem State.route_routeShow (s : State) (i : Nat) : s.routeShow.route i = s.te pRT 0 i := rfl

/-- An entry that was written, in the table and in its shadow. -/
theorem State.route_setRoute_same (s : State) (i v : Nat) : (s.setRoute i v).route i = v := by
  rw [State.setRoute, State.route_routeShow]
  split
  · rw [State.dramWrite_te, State.te_setTe_same]
  · exact State.te_setTe_same s pRT 0 i v

theorem State.setRoute_out (s : State) (i v : Nat) : (s.setRoute i v).out = s.out := by
  let W : Touch := { blks := [.route], dram := true, clk := true, pair := true }
  have : W.Dram := ⟨rfl⟩
  have : W.Clk := ⟨rfl⟩
  have : W.Pair := ⟨rfl⟩
  have : W.In .route := ⟨rfl⟩
  exact State.out_of_rest (State.setRoute_rest (W := W) s i v) rfl

/-- The entry that INSERT stores: the fields of the data, with the key cut to its prefix, its length, and AGE 0 (R217). -/
def routeNew (k plen data : Nat) : Nat :=
  RT.age.set (RT.ltime.set (RT.age.set (RT.plen.set (RT.key.set (data % 2 ^ 128) (prefixOf k plen)) plen) 0) (RT.ltime.get data)) 0

theorem routeNew_key (k plen data : Nat) (hk : k < 2 ^ 32) : RT.key.get (routeNew k plen data) = prefixOf k plen := by
  have hle : prefixOf k plen ≤ k := Nat.div_mul_le_self k _
  rw [routeNew, EF.get_set_apart _ _ _ _ (by decide), EF.get_set_apart _ _ _ _ (by decide), EF.get_set_apart _ _ _ _ (by decide),
    EF.get_set_apart _ _ _ _ (by decide), EF.get_set_same]
  exact Nat.mod_eq_of_lt (Nat.lt_of_le_of_lt hle hk)

theorem routeNew_plen (k plen data : Nat) (h : plen ≤ 32) : RT.plen.get (routeNew k plen data) = plen := by
  rw [routeNew, EF.get_set_apart _ _ _ _ (by decide), EF.get_set_apart _ _ _ _ (by decide), EF.get_set_apart _ _ _ _ (by decide), EF.get_set_same]
  exact Nat.mod_eq_of_lt (Nat.lt_of_le_of_lt h (by decide))

theorem routeNew_target (k plen data : Nat) : RT.target.get (routeNew k plen data) = RT.target.get data := by
  rw [routeNew, EF.get_set_apart _ _ _ _ (by decide), EF.get_set_apart _ _ _ _ (by decide), EF.get_set_apart _ _ _ _ (by decide),
    EF.get_set_apart _ _ _ _ (by decide), EF.get_set_apart _ _ _ _ (by decide)]
  simp only [EF.get, bits, RT.target]
  omega

theorem routeNew_before_age_plen (k plen data : Nat) (h : plen ≤ 32) :
    RT.plen.get (RT.ltime.set (RT.age.set (RT.plen.set (RT.key.set (data % 2 ^ 128) (prefixOf k plen)) plen) 0) (RT.ltime.get data)) = plen := by
  rw [← EF.get_set_apart RT.age RT.plen _ 0 (by decide)]
  exact routeNew_plen k plen data h

/-- INSERT of a key that is not there, where a bank of its length has a free entry. -/
theorem State.routeOpInsert_free {s : State} {k plen j : Nat} (data : Nat) (h1 : 1 ≤ plen) (h2 : plen ≤ 32) (hnew : s.routeFind k plen = none)
    (hfree : s.routeFreeIn (s.banksOf plen) = some j) :
    s.routeOpInsert [k, plen, 0, 0] data = (s.setRoute j (routeNew k plen data), { index := some j }) := by
  have hplen : nth 0 [k, plen, 0, 0] 1 % 64 = plen := Nat.mod_eq_of_lt (by omega : plen < 64)
  have hkey : nth 0 [k, plen, 0, 0] 0 = k := rfl
  unfold State.routeOpInsert
  rw [hplen, hkey]
  simp only [State.routeInsert, routeNew_before_age_plen _ _ _ h2, hfree, hnew]
  rw [if_neg (by omega), if_neg (by simp)]
  rfl

/-- DELETE of a key that is there. -/
theorem State.routeOpDelete_found {s : State} {k plen j : Nat} (i : Nat) (h1 : 1 ≤ plen) (h2 : plen ≤ 32) (hfind : s.routeFind k plen = some j) :
    s.routeOpDelete i [k, plen, 0, 0] = (s.setRoute j 0, {}) := by
  have hplen : nth 0 [k, plen, 0, 0] 1 % 64 = plen := Nat.mod_eq_of_lt (by omega : plen < 64)
  have hkey : nth 0 [k, plen, 0, 0] 0 = k := rfl
  unfold State.routeOpDelete
  rw [hplen, hkey]
  simp only [hfind]
  rw [if_pos (by omega)]

/-- LOOKUP of an address that an entry matches. -/
theorem State.routeOpLookup_match {s : State} {k j : Nat} (h : s.routeMatch k = some j) :
    s.routeOpLookup [k, 0, 0, 0] = { index := some j, data := some (s.route j) } := by
  have hkey : nth 0 [k, 0, 0, 0] 0 = k := rfl
  simp only [State.routeOpLookup, hkey, h]

/-- What ROUTE decides while no REPACK runs (R217). -/
theorem tblKeyFn_route {s t : State} {op i data : Nat} {key : List Nat} {r : TRes} (hrep : s.rt.repack = none)
    (h : s.routeOp op i key data = (t, r)) : tblKeyFn pRT op 0 i s key data = (t, some r) := by
  rw [tblKeyFn, if_pos ⟨rfl, rfl⟩, State.routeTbl, if_neg (by simp [hrep]), h]

/-! ### Entries of the tables with an index -/

theorem State.tblRead_lease (s : State) (i : Nat) (h : i < 262144) : s.tblRead pLEASE 0 262144 i = { index := some i, data := some (s.le i) } := by
  rw [State.tblRead, if_neg (by omega)]
  rfl

theorem tblReadFn_lease (via : Via) (s : State) (i data : Nat) (key : List Nat) (h : i < 262144) :
    tblReadFn via pLEASE 0 i s key data = (s, some { index := some i, data := some (s.le i) }) := by
  rw [← State.tblRead_lease s i h]
  cases via with
  | page src => cases src <;> rfl
  | tag src tg q k d => cases src <;> rfl

/-- NEXT of the lease table: the first listed index after the one named whose entry has a KIND (R49). -/
theorem State.tblNext_lease {s : State} {n i j : Nat}
    (h : ((s.teListed pLEASE 0).find? fun k => decide (i < k) && decide (LE.kind.get (s.le k) ≠ 0)) = some j) :
    s.tblNext pLEASE 0 n i = { index := some j, data := some (s.le j) } := by
  have h' : ((s.tblMaybe pLEASE 0 n).find? fun k => decide (i < k) && s.tblValid pLEASE 0 k) = some j := h
  rw [State.tblNext, h']
  rfl

/-- WRITE of a timer with FLAGS, FLOW and START in their ranges (R321). -/
theorem State.writeTimer_ok (s : State) {i v : Nat} (h1 : bits v 58 5 = 0) (h2 : bits v 48 10 < 576) (h3 : bits v 64 32 < 1000000000) :
    s.writeTimer i v = ((s.setTe pDISP 1 i (v % 2 ^ 128)).setTe pDISP 8 i 0, {}) := by
  rw [State.writeTimer, if_neg (by omega)]

/-- WRITE of an entry of the bank that is in use (R173). -/
theorem State.writeSlot_active (s : State) (port i v : Nat) : s.writeSlot port (s.activeBank port) i v = (s, { err := 0x10 }) := by
  rw [State.writeSlot, if_pos rfl]

/-- A WRITE of USER alone of a HEAD (R232). -/
theorem State.writeLease_user {s : State} {owner i v : Nat} (hlock : s.seqLocks 3 i owner = false) (hhead : LE.kind.get (s.le i) = 1)
    (huser : LE.user.set (v % 2 ^ 256) (LE.user.get (s.le i)) = s.le i) : s.writeLease owner i v = (s.setLe i (v % 2 ^ 256), {}) := by
  rw [State.writeLease, if_neg (by simp [hlock])]
  exact if_neg (not_or.mpr ⟨not_not_intro hhead, not_not_intro huser⟩)

theorem tblCmpFn_lease (via : Via) (s : State) {i data : Nat} {key : List Nat} (hi : i < 262144) :
    tblCmpFn via pLEASE 0 i s key data = ((s.tblCmp via pLEASE 0 i key data).1, some (s.tblCmp via pLEASE 0 i key data).2) :=
  if_neg (not_and_of_not_right _ (Nat.not_le.mpr hi))

/-- CMPWRITE of an entry whose first 8 bytes are not the key (R49). -/
theorem tblCmpFn_differs {via : Via} {s : State} {i : Nat} {key : List Nat} (data : Nat) (hi : i < 262144) (hlock : s.seqLocks 3 i via.owner = false)
    (hne : s.le i % 2 ^ 64 ≠ nth 0 key 0 + nth 0 key 1 * 2 ^ 32) :
    tblCmpFn via pLEASE 0 i s key data = (s, some { err := 0x08, index := some i, data := some (s.le i) }) := by
  rw [tblCmpFn_lease via s hi, State.tblCmp, if_neg (by simp), if_neg (by simp [hlock]), if_pos hne]

/-- CMPWRITE of USER of a HEAD whose first 8 bytes are the key (R49, R232). -/
theorem tblCmpFn_agrees {via : Via} {s : State} {i data : Nat} {key : List Nat} (hi : i < 262144) (hlock : s.seqLocks 3 i via.owner = false)
    (heq : s.le i % 2 ^ 64 = nth 0 key 0 + nth 0 key 1 * 2 ^ 32) (hhead : LE.kind.get (s.le i) = 1)
    (huser : LE.user.set (data % 2 ^ 256) (LE.user.get (s.le i)) = s.le i) :
    tblCmpFn via pLEASE 0 i s key data = (s.setLe i (data % 2 ^ 256), some {}) := by
  rw [tblCmpFn_lease via s hi, State.tblCmp, if_neg (by simp), if_neg (by simp [hlock]), if_neg (not_not_intro heq),
    State.writeLease_user hlock hhead huser]

/-! ### The common opcodes -/

theorem State.tblBegin_rebaseHolds (s : State) (op table i : Nat) (h : s.get F.LEASE_STATUS_REBASING = 0) :
    (s.tblBegin pLEASE op table i).rebaseHolds pLEASE = false :=
  State.rebaseHolds_of_idle _ _ ((congrArg (fun x => bits x F.LEASE_STATUS_REBASING.lsb F.LEASE_STATUS_REBASING.width)
    (s.tblBegin_reg pLEASE op table i (by decide) (by decide) (by decide))).trans h)

/-- Settles O13: each operation is accepted and decided at once (`State.tblGo_page`, `State.tblGo_sup_tag`), and its block answers what the lemma of its
opcode says. -/
theorem tableOperations : Obligations.TableOperations := by
  refine ⟨?read, ?readTag, ?writeTimer, ?writeActive, ?insert, ?delete, ?lookup, ?next, ?compare, ?cmpwrite⟩
  case read =>
    intro s src i hgap hbar hcore hon hidle hreb hi
    have hsrc : ∀ n, src ≠ .core n := by
      rintro n rfl
      cases hcore
    have hf := tblReadFn_lease (.page src) (s.tblBegin pLEASE 0 0 i) i (s.tblData pLEASE) (s.words pLEASE 0x210 4) hi
    have hgo := State.tblGo_page (op := 0) (table := 0) (by decide) hgap hbar hsrc (by decide) (of_decide_eq_true hon) hidle
      (s.tblBegin_rebaseHolds 0 0 i hreb) hf
    obtain ⟨hdata, htbl, hbusy, herr, hup⟩ := State.tblDone_page_read_shows (s.tblBegin_opcode pLEASE 0 0 i) hgo
    exact ⟨_, rfl, hdata, htbl, hbusy, herr, hup⟩
  case readTag =>
    intro s tg q i data key hgap hon hlo hhi hbusy hreb hi
    have hf := tblReadFn_lease (.tag .sup tg q key data) s i data key hi
    have hgo := State.tblGo_sup_tag pLEASE 0 0 i tg q key data (by decide) hgap (by decide) (of_decide_eq_true hon) hlo hhi hbusy
      (s.rebaseHolds_of_idle pLEASE hreb) hf
    exact ⟨_, congrArg Host.Outcome.next hgo, rfl, rfl, rfl⟩
  case writeTimer =>
    intro s tg q i data key hgap hon hlo hhi hbusy hreb hi h1 h2 h3
    have hf : tblWriteFn (.tag .sup tg q key data) pDISP 1 i s key data =
        ((s.setTe pDISP 1 i (data % 2 ^ 128)).setTe pDISP 8 i 0, some {}) := by
      have hw : s.tblWrite (.tag .sup tg q key data) pDISP 1 i data = _ := s.writeTimer_ok h1 h2 h3
      unfold tblWriteFn
      simp only [tblSize]
      rw [if_neg (by omega), hw]
    have hgo := State.tblGo_sup_tag pDISP 1 1 i tg q key data (by decide) hgap (by decide) (of_decide_eq_true hon) hlo hhi hbusy
      (s.rebaseHolds_of_idle pDISP hreb) hf
    refine ⟨_, congrArg Host.Outcome.next hgo, (State.te_emit _ _ pDISP 1 i).trans ?_, ?_⟩
    · refine (State.te_setTe_ne _ pDISP 8 i 0 pDISP 1 i ?_).trans (State.te_setTe_same s pDISP 1 i _)
      unfold Page.tblKey Page.tblBase
      omega
    · exact congrArg (List.cons _) ((State.setTe_out _ pDISP 8 i 0).trans (State.setTe_out s pDISP 1 i _))
  case writeActive =>
    intro s tg q port i data key hgap hport hon hlo hhi hbusy hi hbank
    have hf : tblWriteFn (.tag .sup tg q key data) (pSL port) (s.activeBank port) i s key data = (s, some { err := 0x10 }) := by
      have hw := s.writeSlot_active port i data
      unfold tblWriteFn
      rcases (by omega : s.activeBank port = 0 ∨ s.activeBank port = 1) with h | h
      · rw [h] at hw ⊢
        simp only [tblSize]
        rw [if_neg (by omega), show s.tblWrite (.tag .sup tg q key data) (pSL port) 0 i data = _ from hw]
      · rw [h] at hw ⊢
        simp only [tblSize]
        rw [if_neg (by omega), show s.tblWrite (.tag .sup tg q key data) (pSL port) 1 i data = _ from hw]
    have hpage : ∀ n < 4, allPages.contains (pSL n) = true := by decide
    have hgo := State.tblGo_sup_tag (pSL port) 1 (s.activeBank port) i tg q key data (hpage port hport) hgap (Nat.succ_ne_zero 2) (of_decide_eq_true hon) hlo hhi hbusy (s.rebaseHolds_sluice port) hf
    exact ⟨_, congrArg Host.Outcome.next hgo, rfl, rfl⟩
  case insert =>
    intro s tg q i j k plen data hgap hon hlo hhi hbusy hrep h1 h2 hk hnew hfree
    have hf := tblKeyFn_route (op := 2) (i := i) hrep (State.routeOpInsert_free data h1 h2 hnew hfree)
    have hgo := State.tblGo_sup_tag pRT 2 0 i tg q [k, plen, 0, 0] data (by decide) hgap (by decide) (of_decide_eq_true hon) hlo hhi hbusy s.rebaseHolds_route hf
    have he (o : Out) : ((s.setRoute j (routeNew k plen data)).emit o).route j = routeNew k plen data :=
      (State.te_emit _ o pRT 0 j).trans (s.route_setRoute_same j _)
    refine ⟨_, congrArg Host.Outcome.next hgo, ?_, ?_, ?_, ?_⟩
    · rw [he, routeNew_key k plen data hk]
    · rw [he, routeNew_plen k plen data h2]
    · rw [he, routeNew_target]
    · exact congrArg (List.cons _) (s.setRoute_out j _)
  case delete =>
    intro s tg q i j k plen data hgap hon hlo hhi hbusy hrep h1 h2 hfind
    have hf := tblKeyFn_route (op := 3) (data := data) hrep (State.routeOpDelete_found i h1 h2 hfind)
    have hgo := State.tblGo_sup_tag pRT 3 0 i tg q [k, plen, 0, 0] data (by decide) hgap (by decide) (of_decide_eq_true hon) hlo hhi hbusy s.rebaseHolds_route hf
    exact ⟨_, congrArg Host.Outcome.next hgo, (State.te_emit _ _ pRT 0 j).trans (s.route_setRoute_same j 0), congrArg (List.cons _) (s.setRoute_out j 0)⟩
  case lookup =>
    intro s tg q i j k data hgap hon hlo hhi hbusy hrep hmatch
    have hf := tblKeyFn_route (op := 4) (i := i) (data := data) hrep (congrArg (Prod.mk s) (State.routeOpLookup_match hmatch))
    have hgo := State.tblGo_sup_tag pRT 4 0 i tg q [k, 0, 0, 0] data (by decide) hgap (by decide) (of_decide_eq_true hon) hlo hhi hbusy s.rebaseHolds_route hf
    exact ⟨_, congrArg Host.Outcome.next hgo, rfl, rfl, rfl⟩
  case next =>
    intro s tg q i j data key hgap hon hlo hhi hbusy hreb hnext
    have hf : tblNextFn (.tag .sup tg q key data) pLEASE 0 i s key data = (s, some { index := some j, data := some (s.le j) }) :=
      congrArg (fun r => (s, some r)) (State.tblNext_lease (n := 262144) hnext)
    have hgo := State.tblGo_sup_tag pLEASE 5 0 i tg q key data (by decide) hgap (by decide) (of_decide_eq_true hon) hlo hhi hbusy
      (s.rebaseHolds_of_idle pLEASE hreb) hf
    exact ⟨_, congrArg Host.Outcome.next hgo, rfl, rfl⟩
  case compare =>
    intro s tg q i data key hgap hon hlo hhi hbusy hreb hi hlock hne
    have hf := tblCmpFn_differs (via := .tag .sup tg q key data) data hi hlock hne
    have hgo := State.tblGo_sup_tag pLEASE 6 0 i tg q key data (by decide) hgap (by decide) (of_decide_eq_true hon) hlo hhi hbusy
      (s.rebaseHolds_of_idle pLEASE hreb) hf
    exact ⟨_, congrArg Host.Outcome.next hgo, rfl, rfl⟩
  case cmpwrite =>
    intro s tg q i data key hgap hon hlo hhi hbusy hreb hi hlock heq hhead huser
    have hf := tblCmpFn_agrees (via := .tag .sup tg q key data) hi hlock heq hhead huser
    have hgo := State.tblGo_sup_tag pLEASE 6 0 i tg q key data (by decide) hgap (by decide) (of_decide_eq_true hon) hlo hhi hbusy
      (s.rebaseHolds_of_idle pLEASE hreb) hf
    exact ⟨_, congrArg Host.Outcome.next hgo, (State.te_emit _ _ pLEASE 0 i).trans (s.te_setTe_same pLEASE 0 i _)⟩

/-! ### What the host's side reads (R256, R346, R355) -/

/-- The parts of the state that a loss of the host's link, a function-level reset and a step of the host's generation are stated about: the words
of PCIE_STATUS, HOST_GEN and FLUME_STATUS, the three counters, the masks of the vectors and the members' records (registry table 1). -/
structure HostView where
  status : Nat
  hostGen : Nat
  session : Nat
  linkDowns : Nat
  flrs : Nat
  forfeits : Nat
  mask : List Nat
  members : Nat → Nat

def State.hostView (s : State) : HostView where
  status := s.reg (F.PCIE_STATUS_LINK_UP.addr 0 0)
  hostGen := s.reg (F.HOST_GEN_GEN.addr 0 0)
  session := s.reg (F.FLUME_STATUS_SESSION.addr 0 0)
  linkDowns := s.ctr ⟨.pcie, 0⟩ C.PCIE_LINK_DOWNS
  flrs := s.ctr ⟨.pcie, 0⟩ C.PCIE_FLRS
  forfeits := s.ctr ⟨.turnout, 0⟩ C.TURNOUT_FORFEITS
  mask := s.vecMask
  members := s.te ⟨.registry, 0⟩ 1

/-- The words of `State.hostView`. -/
def hostWords : List Nat := [F.PCIE_STATUS_LINK_UP.addr 0 0, F.HOST_GEN_GEN.addr 0 0, F.FLUME_STATUS_SESSION.addr 0 0]

/-- The counters of `State.hostView`. -/
def hostCtrs : List Ctr := [C.PCIE_LINK_DOWNS, C.PCIE_FLRS, C.TURNOUT_FORFEITS]

/-- The view depends on the registers, the counters, the tables and the masks alone. -/
@[simp] theorem State.hostView_mk (t : State) pending now ft fresh latch dram pg once tags vecSent fq ev out canal hg flt sup held air arb lk pair gn tm disp
    ls mot motNsp rtk rt clk met key dbg boot :
    (State.mk pending now ft fresh t.regs t.ctrs latch t.tbl dram pg once tags vecSent t.vecMask fq ev out canal hg flt sup held air arb lk pair gn tm disp
      ls mot motNsp rtk rt clk met key dbg boot).hostView = t.hostView := rfl

theorem State.hostView_ite {c : Prop} [Decidable c] (a b : State) :
    (if c then a else b).hostView = if c then a.hostView else b.hostView := apply_ite _ _ _ _

@[simp] theorem State.hostView_each {α : Type} (s : State) (l : List α) (f : State → α → State) (h : ∀ t x, (f t x).hostView = t.hostView) :
    (s.each l f).hostView = s.hostView :=
  State.each_keeps State.hostView s l f h

theorem State.hostView_setReg (s : State) (a v : Nat) (h : a ∉ hostWords) : (s.setReg a v).hostView = s.hostView := by
  simp only [hostWords, List.mem_cons, List.not_mem_nil, or_false, not_or] at h
  obtain ⟨h1, h2, h3⟩ := h
  unfold State.hostView
  rw [State.reg_setReg_ne _ _ _ _ (Ne.symm h1), State.reg_setReg_ne _ _ _ _ (Ne.symm h2), State.reg_setReg_ne _ _ _ _ (Ne.symm h3)]
  rfl

/-- A word below 0x300 of any page is none of the view's. -/
theorem adr_notMem_hostWords (p : Page) (o : Nat) (h : o < 0x300) : p.adr o ∉ hostWords := by
  have e : ∀ a ∈ hostWords, 0x300 ≤ a % 0x1000 := by decide
  intro hm
  have h1 := e _ hm
  have h2 := Page.base_mod p
  unfold Page.adr at h1
  omega

/-- A field of another block is in none of the view's words. -/
theorem Fld.addr_notMem_hostWords (F : Fld) (i k : Nat) (h : F.blk ∉ [Blk.pcie, .registry, .flume]) : F.addr i k ∉ hostWords := by
  have e : ∀ a ∈ hostWords, ∃ b ∈ [Blk.pcie, .registry, .flume], blkAt a = some b := by decide
  intro hm
  obtain ⟨b, hb, ha⟩ := e _ hm
  rw [show F.addr i k = Page.adr ⟨F.blk, i⟩ (F.off + k * F.step) from rfl, blkAt_adr] at ha
  rw [show F.blk = b from Option.some.inj ha] at h
  exact h hb

theorem State.hostView_set (s : State) (F : Fld) (v i k : Nat) (h : F.blk ∉ [Blk.pcie, .registry, .flume]) : (s.set F v i k).hostView = s.hostView :=
  State.hostView_setReg _ _ _ (F.addr_notMem_hostWords i k h)

theorem State.hostView_inc (s : State) (c : Ctr) (i n : Nat) (h : c ∉ hostCtrs) (ho : c.off < 0x1000) : (s.inc c i n).hostView = s.hostView := by
  have e : ∀ d ∈ hostCtrs, (s.inc c i n).ctr ⟨d.blk, 0⟩ d = s.ctr ⟨d.blk, 0⟩ d := fun d hd => by
    by_cases hb : d.blk = c.blk
    · refine State.ctr_incP_off s ⟨c.blk, i⟩ c n _ d fun hf => h ?_
      have hm : d.off < 0x1000 := (by decide : ∀ d ∈ hostCtrs, d.off < 0x1000) d hd
      rw [Nat.mod_eq_of_lt hm, Nat.mod_eq_of_lt ho] at hf
      obtain ⟨b, o⟩ := c
      obtain ⟨b', o'⟩ := d
      obtain rfl : b' = b := hb
      obtain rfl : o' = o := hf
      exact hd
    · exact State.ctr_incP_blk s ⟨c.blk, i⟩ c n _ d hb
  unfold State.hostView
  rw [e C.PCIE_LINK_DOWNS (by decide), e C.PCIE_FLRS (by decide), e C.TURNOUT_FORFEITS (by decide)]
  rfl

theorem State.hostView_setTe (s : State) (p : Page) (t i v : Nat) (h : p.blk ≠ .registry) : (s.setTe p t i v).hostView = s.hostView := by
  have hm : (s.setTe p t i v).te ⟨.registry, 0⟩ 1 = s.te ⟨.registry, 0⟩ 1 := funext fun j =>
    State.te_setTe_ne s p t i v _ 1 j fun hk => by
      have h1 := blkAt_tblKey ⟨.registry, 0⟩ 1 j
      rw [hk, blkAt_tblKey] at h1
      exact h (Option.some.inj h1)
  simp only [State.hostView, State.reg, State.ctr, State.setTe_regs, State.setTe_ctrs, State.setTe_vecMask, hm]

/-! ### What leaves the host's side alone -/

@[simp] theorem State.hostView_emit (s : State) (o : Out) : (s.emit o).hostView = s.hostView := rfl

@[simp] theorem State.hostView_setQ (s : State) (n : Nat) (q : FQ) : (s.setQ n q).hostView = s.hostView := rfl

@[simp] theorem State.hostView_sendVec (s : State) (v : Nat) : (s.sendVec v).hostView = s.hostView := by
  simp only [State.sendVec, State.hostView_ite, State.hostView_inc _ C.PCIE_MSIX_SENT _ _ (by decide) (by decide), State.hostView_emit, State.hostView_mk,
    ite_self]

@[simp] theorem State.hostView_assertSrc (s : State) (n : Nat) : (s.assertSrc n).hostView = s.hostView := by
  simp only [State.assertSrc, State.hostView_ite, State.hostView_emit, State.hostView_sendVec, ite_self]

@[simp] theorem State.hostView_irq (s : State) (p : Page) (n : Nat) : (s.irq p n).hostView = s.hostView := by
  simp only [State.irq, State.irqBits, State.hostView_ite, State.hostView_assertSrc, State.hostView_setReg _ _ _ (adr_notMem_hostWords p 0x01C (by decide)),
    ite_self]

@[simp] theorem State.hostView_incLost (s : State) (F : Fld) (n : Nat) (h : F.blk ∉ [Blk.pcie, .registry, .flume]) :
    (s.incLost F n).hostView = s.hostView :=
  State.hostView_set _ _ _ _ _ h

/-- The parts that a message on the Canal, the display of the dispatcher and the freeing of a lease entry may touch, none of which the host's side
reads. -/
def besideHost : Touch where
  blks := [.canal, .core, .dispatch, .lease, .regionCtl]
  out := true
  canal := true
  pair := true
  arb := true
  disp := true
  ls := true

theorem State.hostView_of_rest {s t : State} (h : t.rest besideHost = s.rest besideHost) : t.hostView = s.hostView := by
  simp only [State.hostView, Fld.addr, State.reg_of_rest h ⟨.pcie, 0⟩ _ rfl, State.reg_of_rest h ⟨.registry, 0⟩ _ rfl,
    State.reg_of_rest h ⟨.flume, 0⟩ _ rfl, State.ctr_of_rest h ⟨.pcie, 0⟩ _ rfl, State.ctr_of_rest h ⟨.turnout, 0⟩ _ rfl, State.vecMask_of_rest h rfl,
    funext (State.te_of_rest h ⟨.registry, 0⟩ 1 · rfl)]

@[simp] theorem State.hostView_canalUnicast (s : State) (z r : Nat) (b : CanalBody) : (s.canalUnicast z r b).hostView = s.hostView := by
  have : besideHost.Out := ⟨rfl⟩
  have : besideHost.Canal := ⟨rfl⟩
  have : besideHost.In .canal := ⟨rfl⟩
  exact State.hostView_of_rest (State.canalUnicast_rest ..)

@[simp] theorem State.hostView_rechain (s : State) (h : Nat) : (s.rechain h).hostView = s.hostView := by
  have : besideHost.Pair := ⟨rfl⟩
  have : besideHost.Ls := ⟨rfl⟩
  have : besideHost.In .lease := ⟨rfl⟩
  exact State.hostView_of_rest (State.rechain_rest ..)

@[simp] theorem State.hostView_freeLe (s : State) (i : Nat) : (s.freeLe i).hostView = s.hostView := by
  have : besideHost.Pair := ⟨rfl⟩
  have : besideHost.In .lease := ⟨rfl⟩
  exact State.hostView_of_rest (State.freeLe_rest ..)

@[simp] theorem State.hostView_intoCtx (s : State) (i : DItem) (c x : Nat) : (s.intoCtx i c x).hostView = s.hostView := by
  have : besideHost.Disp := ⟨rfl⟩
  have : besideHost.In .core := ⟨rfl⟩
  exact State.hostView_of_rest (State.intoCtx_rest ..)

theorem State.hostView_choose (s : State) (ok : DItem → Bool) (t : DItem × State) (h : s.choose ok = some t) : t.2.hostView = s.hostView := by
  have : besideHost.Disp := ⟨rfl⟩
  exact State.hostView_of_rest (State.choose_rest s ok t h)

@[simp] theorem State.hostView_dispShow (s : State) : s.dispShow.hostView = s.hostView := by
  have : besideHost.In .dispatch := ⟨rfl⟩
  exact State.hostView_of_rest (State.dispShow_rest ..)

@[simp] theorem State.hostView_arbGrant (s : State) (region lv t : Nat) (q : ArbReq) : (s.arbGrant region lv t q).hostView = s.hostView := by
  have : besideHost.Arb := ⟨rfl⟩
  have : besideHost.In .regionCtl := ⟨rfl⟩
  exact State.hostView_of_rest (State.arbGrant_rest ..)

@[simp] theorem State.hostView_setArb (s : State) (r : Nat) (a : ArbSt) : (s.setArb r a).hostView = s.hostView := rfl

/-! A completion: through a queue to the host, or shown in the page. -/

@[simp] theorem State.hostView_qevent (s : State) (n b : Nat) : (s.qevent n b).hostView = s.hostView := by
  simp only [State.qevent, State.hostView_ite, State.hostView_assertSrc, State.hostView_setQ, ite_self]

@[simp] theorem State.hostView_qLose (s : State) (n k : Nat) : (s.qLose n k).hostView = s.hostView := by
  simp only [State.qLose, State.hostView_qevent, State.hostView_setQ]

@[simp] theorem State.hostView_qMakeRoom (s : State) (n need k : Nat) : (s.qMakeRoom n need k).hostView = s.hostView := by
  induction k generalizing s with
  | zero => rfl
  | succ k ih => simp only [State.qMakeRoom, State.hostView_ite, ih, State.hostView_qLose, State.hostView_setQ, ite_self]

@[simp] theorem State.hostView_sendFrame (s : State) (q : FQ) (f : FFrame) : (s.sendFrame q f).hostView = s.hostView := by
  unfold State.sendFrame State.emitFlume
  split
  · rw [State.hostView_inc _ _ _ _ (by decide) (by decide), State.hostView_canalUnicast]
  · split
    · rw [State.hostView_inc _ _ _ _ (by decide) (by decide), State.hostView_inc _ _ _ _ (by decide) (by decide), State.hostView_emit]
    · rfl

@[simp] theorem State.hostView_qTurn (s : State) (n : Nat) : (s.qTurn n).hostView = s.hostView := by
  fun_cases State.qTurn <;> simp only [State.hostView_sendFrame, State.hostView_setQ]

@[simp] theorem State.hostView_qPump (s : State) (n : Nat) : (s.qPump n).hostView = s.hostView :=
  State.hostView_each _ _ _ fun t _ => t.hostView_qTurn n

@[simp] theorem State.hostView_qPush (s : State) (n len : Nat) (b : FBody) : (s.qPush n len b).hostView = s.hostView := by
  simp only [State.qPush, State.hostView_ite, State.hostView_qLose, State.hostView_setQ, State.hostView_qMakeRoom, State.hostView_qPump, ite_self]

@[simp] theorem State.hostView_writeCompl (s : State) (src : Src) (q : Nat) (c : Compl) : (s.writeCompl src q c).hostView = s.hostView := by
  cases src <;> simp only [State.writeCompl, State.hostView_ite, State.hostView_qPush, State.hostView_emit, State.hostView_mk, ite_self]

@[simp] theorem State.hostView_setTblData (s : State) (p : Page) (v : Nat) : (s.setTblData p v).hostView = s.hostView := by
  have h : ∀ l : List Nat, (∀ i ∈ l, i < 16) → ∀ t : State,
      (t.each l fun t i => t.setReg (p.adr (0x240 + 4 * i)) (v / 2 ^ (32 * i) % 2 ^ 32)).hostView = t.hostView := by
    intro l
    induction l with
    | nil => exact fun _ _ => rfl
    | cons i l ih =>
      intro hl t
      have hi : i < 16 := hl i List.mem_cons_self
      exact (ih (fun j hj => hl j (List.mem_cons_of_mem i hj)) _).trans (State.hostView_setReg t _ _ (adr_notMem_hostWords p _ (by omega)))
  exact h (List.range 16) (fun _ hi => List.mem_range.mp hi) s

@[simp] theorem State.hostView_tblDone (s : State) (via : Via) (p : Page) (i : Nat) (r : TRes) : (s.tblDone via p i r).hostView = s.hostView := by
  have hs : ∀ (t : State) (v : Nat), (t.setReg p.tblStatus v).hostView = t.hostView := fun t v =>
    State.hostView_setReg t _ v (adr_notMem_hostWords p _ (by decide))
  have hc : ∀ (t : State) (v : Nat), (t.setReg p.tblCmd v).hostView = t.hostView := fun t v =>
    State.hostView_setReg t _ v (adr_notMem_hostWords p _ (by decide))
  cases via with
  | page src =>
    unfold State.tblDone
    dsimp only
    rw [State.hostView_irq]
    (repeat' split) <;> simp only [hs, hc, State.hostView_setTblData]
  | tag => exact State.hostView_writeCompl ..

@[simp] theorem State.hostView_complHeld (s : State) (via : Via) (p : Page) (r : TRes) : (s.complHeld via p r).hostView = s.hostView := by
  unfold State.complHeld
  split
  · simp only [State.hostView_tblDone, State.hostView_ite, State.hostView_mk, ite_self]
  · rfl

/-! An event for a member: the dispatcher's queues and its trace. -/

@[simp] theorem State.hostView_traceLose (s : State) (k : Nat) : (s.traceLose k).hostView = s.hostView := by
  have hl : ∀ (t : State) (l : List Nat), (t.each l fun t _ => t.incLost F.TRACE_LOST).hostView = t.hostView := fun t l =>
    State.hostView_each t l _ fun u _ => u.hostView_incLost _ _ (by decide)
  simp only [State.traceLose, State.hostView_ite, State.hostView_irq, hl, State.hostView_mk, ite_self]

@[simp] theorem State.hostView_stage (s : State) (r : TraceRec) : (s.stage r).hostView = s.hostView := by
  simp only [State.stage, State.hostView_mk, State.hostView_ite, State.hostView_traceLose, ite_self]

@[simp] theorem State.hostView_qBytes (s : State) (n : Nat) (b : List Nat) : (s.qBytes n b).hostView = s.hostView := State.hostView_qPush ..

@[simp] theorem State.hostView_traceOut (s : State) (l : List TraceRec) : (s.traceOut l).1.hostView = s.hostView := by
  induction l generalizing s with
  | nil => rfl
  | cons r l ih =>
    unfold State.traceOut
    split
    · exact (ih _).trans (State.hostView_qBytes ..)
    · rfl

@[simp] theorem State.hostView_traceDrain (s : State) : s.traceDrain.hostView = s.hostView := by
  simp only [State.traceDrain, State.hostView_ite, State.hostView_mk, State.hostView_traceOut, State.hostView_traceLose, ite_self]

@[simp] theorem State.hostView_traceItem (s : State) (evt : Nat) (i : DItem) (arg : Nat) : (s.traceItem evt i arg).hostView = s.hostView := by
  simp only [State.traceItem, State.traceRec, State.hostView_ite, State.hostView_traceDrain, State.hostView_stage, State.hostView_mk, ite_self]

@[simp] theorem State.hostView_preempt1 (s : State) : s.preempt1.hostView = s.hostView := by
  unfold State.preempt1
  dsimp only
  split
  · rfl
  · rename_i i t h
    split
    · rfl
    · rw [State.hostView_traceItem, State.hostView_inc _ _ _ _ (by decide) (by decide), State.hostView_inc _ _ _ _ (by decide) (by decide),
        State.hostView_intoCtx]
      exact State.hostView_choose s _ _ h

@[simp] theorem State.hostView_preempt (s : State) : s.preempt.hostView = s.hostView := by
  unfold State.preempt
  split
  · exact State.hostView_each _ _ _ fun t _ => t.hostView_preempt1
  · rfl

@[simp] theorem State.hostView_offer (s : State) (i : DItem) : (s.offer i).1.hostView = s.hostView := by
  have hq : ∀ b, (s.enqueue i b).hostView = s.hostView := fun b => by
    simp only [State.enqueue, State.hostView_preempt, State.hostView_dispShow, State.hostView_traceItem,
      State.hostView_inc _ C.DISPATCH_ENQUEUED _ _ (by decide) (by decide), State.hostView_mk]
  have hf : (s.flowOff i).hostView = s.hostView := by
    rw [State.flowOff, State.hostView_traceItem, State.hostView_inc _ _ _ _ (by decide) (by decide)]
  unfold State.offer
  split
  · rfl
  · split
    · exact hf
    · split
      · rfl
      · split
        · rfl
        · exact hq _

@[simp] theorem State.hostView_item (s : State) (i : DItem) : (s.item i).hostView = s.hostView := by
  have ho := s.hostView_offer i
  unfold State.item
  dsimp only
  split
  · rfl
  · split
    · rfl
    · rename_i h
      rwa [h] at ho

@[simp] theorem State.hostView_leaseEvent (s : State) (code owner furrow lease pos gseq refusal : Nat) :
    (s.leaseEvent code owner furrow lease pos gseq refusal).hostView = s.hostView := by
  unfold State.leaseEvent
  split
  · rfl
  · simp only [State.hostView_ite, State.hostView_qBytes, State.hostView_item, ite_self]

/-! A forfeit: the entries, the exchanges and the held operations of an owner. -/

@[simp] theorem State.hostView_takeSeq (s : State) : s.takeSeq.hostView = s.hostView := s.hostView_set _ _ _ _ (by decide)

@[simp] theorem State.hostView_turnShow (s : State) (t : Nat) : (s.turnShow t).hostView = s.hostView :=
  s.hostView_setTe _ _ _ _ (by decide)

@[simp] theorem State.hostView_leaseShow (s : State) : s.leaseShow.hostView = s.hostView := by
  simp only [State.leaseShow]
  rw [State.hostView_set _ _ _ _ _ (by decide), State.hostView_set _ _ _ _ _ (by decide), State.hostView_set _ _ _ _ _ (by decide),
    State.hostView_set _ _ _ _ _ (by decide), State.hostView_set _ _ _ _ _ (by decide), State.hostView_set _ _ _ _ _ (by decide)]

@[simp] theorem State.hostView_freeFurrow (s : State) (h : Nat) : (s.freeFurrow h).hostView = s.hostView := by
  have hl : ∀ (t : State) (l : List Nat), (t.each l State.freeLock).hostView = t.hostView := fun t l =>
    State.hostView_each t l _ fun u i => (State.hostView_turnShow ..).trans (u.hostView_freeLe i)
  simp only [State.freeFurrow, State.hostView_leaseShow, State.hostView_rechain, State.hostView_each _ _ State.freeLe State.hostView_freeLe, hl]

@[simp] theorem State.hostView_sendRelease (s : State) (zone typ n xid owner : Nat) : (s.sendRelease zone typ n xid owner).hostView = s.hostView := by
  simp only [State.sendRelease, State.leaseSend, State.hostView_ite, State.hostView_mk, State.hostView_canalUnicast, ite_self]

@[simp] theorem State.hostView_refuseSubmit (s : State) (owner : Nat) (d : Deny) : (s.refuseSubmit owner d).1.hostView = s.hostView := by
  simp only [State.refuseSubmit, State.hostView_mk, State.hostView_leaseEvent, State.hostView_ite, State.hostView_irq,
    State.hostView_inc _ C.LEASE_REFUSALS _ _ (by decide) (by decide), State.hostView_takeSeq, ite_self]

@[simp] theorem State.hostView_abortXfer (s : State) (x : Xfer) (d : Deny) : (s.abortXfer x d).hostView = s.hostView := by
  unfold State.abortXfer
  dsimp only
  (repeat' split) <;> simp only [State.hostView_leaseShow, State.hostView_complHeld, State.hostView_refuseSubmit,
    State.hostView_inc _ C.LEASE_XFER_ABORT _ _ (by decide) (by decide), State.hostView_freeFurrow, State.hostView_mk,
    State.hostView_each _ _ _ fun t z => State.hostView_sendRelease t z _ _ _ _]

@[simp] theorem State.hostView_oldOps (s : State) (i : Nat) : (s.oldOps i).hostView = s.hostView := by
  refine State.hostView_each s _ _ fun t h => ?_
  split <;> simp only [State.hostView_abortXfer, State.hostView_complHeld]

@[simp] theorem State.hostView_dropSeq (s : State) (h : Nat) : (s.dropSeq h).hostView = s.hostView := by
  simp only [State.dropSeq]
  rw [State.hostView_set _ _ _ _ _ (by decide), State.hostView_set _ _ _ _ _ (by decide)]
  rfl

/-! A forfeit in three parts: the direct owners of turnouts, the open batches of sequences, and what is left of the owner. -/

/-- What a forfeit does before it drops the owner's batches. -/
def State.forfeitDirect (s : State) (i : Nat) : State :=
  let s := ((s.takeSeq).inc C.TURNOUT_FORFEITS).irq pTURN I.TURNOUT_FORFEIT
  let id := ownerId i
  let direct := (s.teListed pTURN 0).filter fun t => decide (TU.downer.get (s.turn t) = id ∧ id ≠ 0 ∧ TU.dgen.get (s.turn t) ≠ s.gen i)
  s.each direct fun s t => (s.setTe pTURN 0 t (s.turn t % 2 ^ 128)).turnShow t

/-- The owner's batches that are of an older generation. -/
def State.oldBatches (s : State) (i : Nat) : List TblSeq := s.ls.seqs.filter fun q => decide (q.owner = i ∧ q.gen ≠ s.gen i)

def State.dropBatch (s : State) (q : TblSeq) : State :=
  ((s.dropSeq q.handle).inc C.TURNOUT_SEQ_FORFEITS).irq pTURN I.TURNOUT_SEQ_DISCARD

/-- What a forfeit does to a member: its locks, its furrows, its motion and its tasks. -/
def State.forfeitMember (s : State) (i : Nat) : State :=
  let addr := s.addrOf i
  let s := s.orphanLocks addr (s.gen i)
  let s := s.dropFurrows addr
  let mine := s.heads.filter fun h => decide (LE.owner.get (s.le h) = addr ∧ LE.part.get (s.le h) = 0)
  let s : State := if bits (s.te pREG 1 i) 16 8 = 2 then s
    else { s with ls := { s.ls with ghosts := (s.ls.ghosts.filter fun h => !(mine.contains h)) ++ mine } }
  (s.motEmpty i).taskForfeit i

/-- What a forfeit does after it dropped the owner's batches. -/
def State.forfeitRest (s : State) (i : Nat) : State :=
  let s := s.oldOps i
  (if i < 512 then s.forfeitMember i else s).leaseShow

theorem State.forfeit_eq (s : State) (i : Nat) :
    s.forfeit i = ((s.forfeitDirect i).each ((s.forfeitDirect i).oldBatches i) State.dropBatch).forfeitRest i := by
  unfold State.forfeit
  extract_lets s1 id direct s2 old s3 s4 addr s5 s6 mine ls s7 s8
  have h2 : s.forfeitDirect i = s2 := rfl
  have h3 : s2.each (s2.oldBatches i) State.dropBatch = s3 := rfl
  have h4 : s3.oldOps i = s4 := rfl
  have h5 : s4.forfeitMember i = (s7.motEmpty i).taskForfeit i := by
    unfold State.forfeitMember
    extract_lets
    rfl
  rw [h2, h3, State.forfeitRest, h4, h5]

theorem State.hostView_forfeitDirect (s : State) (i : Nat) : (s.forfeitDirect i).hostView = (s.takeSeq.inc C.TURNOUT_FORFEITS).hostView := by
  refine (State.hostView_each _ _ _ fun t n => ?_).trans (State.hostView_irq ..)
  exact (State.hostView_turnShow ..).trans (t.hostView_setTe _ _ _ _ (by decide))

@[simp] theorem State.hostView_dropBatch (s : State) (q : TblSeq) : (s.dropBatch q).hostView = s.hostView := by
  rw [State.dropBatch, State.hostView_irq, State.hostView_inc _ _ _ _ (by decide) (by decide), State.hostView_dropSeq]

/-- A step of the host's own generation (owner 576) counts a forfeit and leaves the rest of the host's side alone. -/
theorem State.hostView_forfeit (s : State) (i : Nat) (h : 512 ≤ i) : (s.forfeit i).hostView = (s.takeSeq.inc C.TURNOUT_FORFEITS).hostView := by
  rw [State.forfeit_eq, State.forfeitRest, if_neg (Nat.not_lt.mpr h), State.hostView_leaseShow, State.hostView_oldOps,
    State.hostView_each _ _ _ State.hostView_dropBatch, State.hostView_forfeitDirect]

@[simp] theorem State.hostView_arbShow (s : State) (r : Nat) : (s.arbShow r).hostView = s.hostView := by
  have hs : ∀ (t : State) (F : Fld) (v : Nat), F.blk = .regionCtl → (t.set F v r).hostView = t.hostView := fun t F v h =>
    t.hostView_set F v r 0 (by rw [h]; decide)
  unfold State.arbShow
  dsimp only
  rw [State.on_keeps State.hostView _ _ _ (State.hostView_irq ..)]
  split <;> simp only [hs]

@[simp] theorem State.hostView_arbDecide (s : State) (r t : Nat) : (s.arbDecide r t).hostView = s.hostView := by
  unfold State.arbDecide
  dsimp only
  split
  · rfl
  · split
    · rw [State.hostView_arbShow, State.hostView_setArb]
    · split
      · rfl
      · rw [State.hostView_arbShow, State.hostView_arbGrant, State.hostView_setArb]

/-- A thaw is two control bits, the arbiter's own state, a decision and its display. -/
@[simp] theorem State.hostView_arbThaw (s : State) (r : Nat) : (s.arbThaw r).hostView = s.hostView := by
  have hc : ((s.set F.ARB_CTRL_FREEZE 0 r).set F.ARB_CTRL_FREEZE_HOST 0 r).hostView = s.hostView := by
    rw [State.hostView_set _ _ _ _ _ (by decide), State.hostView_set _ _ _ _ _ (by decide)]
  unfold State.arbThaw
  dsimp only
  split
  · rw [State.hostView_arbShow, State.hostView_setArb, hc]
  · rw [State.hostView_arbShow, State.hostView_arbDecide, State.hostView_setArb, hc]

/-! ### A step of the host's generation (R256, R346) -/

/-- What equal views of the host's side say of a field of one of its words. -/
theorem State.get_of_hostView {s t : State} (h : t.hostView = s.hostView) (F : Fld) (hF : F.addr 0 0 ∈ hostWords) : t.get F = s.get F := by
  have hr : t.reg (F.addr 0 0) = s.reg (F.addr 0 0) := by
    simp only [hostWords, List.mem_cons, List.not_mem_nil, or_false] at hF
    rcases hF with e | e | e
    · rw [e]; exact congrArg HostView.status h
    · rw [e]; exact congrArg HostView.hostGen h
    · rw [e]; exact congrArg HostView.session h
  exact congrArg (bits · F.lsb F.width) hr

theorem State.gen_of_hostView {s t : State} (h : t.hostView = s.hostView) (i : Nat) : t.gen i = s.gen i :=
  congrArg (fun v : HostView => bits (v.members i) 0 16) h

/-- The host's generation after the present one: 65,535 goes to 1 (R256). -/
def State.nextGen (s : State) (i : Nat) : Nat := if 65535 ≤ s.gen i then 1 else s.gen i + 1

theorem State.nextGen_lt (s : State) (i : Nat) : s.nextGen i < 2 ^ 16 := by
  unfold State.nextGen
  split <;> omega

/-- The member's record of the host is written anew, and its generation shown in HOST_GEN and in FLUME_STATUS. -/
theorem State.bumpGen_host (s : State) (cause : Nat) : ∃ e, bits e 0 16 = s.nextGen 576 ∧
    s.bumpGen 576 cause = ((s.setTe pREG 1 576 e).set F.HOST_GEN_GEN (s.nextGen 576)).set F.FLUME_STATUS_SESSION (s.nextGen 576) := by
  refine ⟨s.nextGen 576 + cause * 2 ^ 16 + s.fleetMs % 2 ^ 32 * 2 ^ 32, ?_, ?_⟩
  · have := s.nextGen_lt 576
    unfold bits
    omega
  · rfl

/-- A new session restarts the queues and shows the host's generation in FLUME_STATUS. -/
theorem State.hostView_newSession (s : State) : s.newSession.hostView = (s.set F.FLUME_STATUS_SESSION (s.gen 576)).hostView := rfl

/-- After the step and its forfeit FLUME_STATUS shows the new generation once more, and the thawed arbiters change nothing of the host's side. -/
theorem State.hostView_hostBump (s : State) : s.hostBump.hostView =
    ((s.bump 576 4).set F.FLUME_STATUS_SESSION ((s.bump 576 4).gen 576)).hostView := by
  unfold State.hostBump
  dsimp only
  rw [State.hostView_each _ _ _ State.hostView_arbThaw, State.hostView_newSession]

theorem State.hostView_bump_host (s : State) : (s.bump 576 4).hostView = ((s.bumpGen 576 4).takeSeq.inc C.TURNOUT_FORFEITS).hostView :=
  State.hostView_forfeit _ _ (by decide)

theorem State.gen_set (s : State) (G : Fld) (v i k n : Nat) : (s.set G v i k).gen n = s.gen n := rfl

theorem State.gen_inc (s : State) (c : Ctr) (i k n : Nat) : (s.inc c i k).gen n = s.gen n := rfl

theorem State.bump_host_gen (s : State) : (s.bump 576 4).gen 576 = s.nextGen 576 := by
  obtain ⟨e, hbits, he⟩ := s.bumpGen_host 4
  rw [State.gen_of_hostView s.hostView_bump_host 576, State.gen_inc, State.takeSeq, State.gen_set, he, State.gen_set, State.gen_set]
  exact (congrArg (bits · 0 16) (s.te_setTe_same pREG 1 576 e)).trans hbits

theorem State.hostBump_gen (s : State) : s.hostBump.gen 576 = s.nextGen 576 := by
  rw [State.gen_of_hostView s.hostView_hostBump 576, State.gen_set, s.bump_host_gen]

theorem State.hostBump_session (s : State) : s.hostBump.get F.FLUME_STATUS_SESSION = s.nextGen 576 := by
  rw [State.get_of_hostView s.hostView_hostBump _ (by decide), State.get_set_same _ _ _ _ _ (by decide), s.bump_host_gen]
  exact Nat.mod_eq_of_lt (s.nextGen_lt 576)

/-- A field of another block than FLUME reads after the step as once the generation is written. -/
theorem State.hostBump_get (s : State) (G : Fld) (hG : G.addr 0 0 ∈ hostWords) (hb : G.blk ≠ .flume) (hl : G.blk ≠ .lease) :
    s.hostBump.get G = (s.bumpGen 576 4).get G := by
  rw [State.get_of_hostView s.hostView_hostBump G hG, State.get_set_blk _ _ _ _ _ _ _ _ hb, State.get_of_hostView s.hostView_bump_host G hG,
    State.get_inc, State.takeSeq, State.get_set_blk _ _ _ _ _ _ _ _ hl]

theorem State.hostBump_hostGen (s : State) : s.hostBump.get F.HOST_GEN_GEN = s.nextGen 576 := by
  obtain ⟨e, -, he⟩ := s.bumpGen_host 4
  rw [s.hostBump_get _ (by decide) (by decide) (by decide), he, State.get_set_blk _ _ _ _ _ _ _ _ (by decide),
    State.get_set_same _ _ _ _ _ (by decide)]
  exact Nat.mod_eq_of_lt (s.nextGen_lt 576)

/-- PCIE_STATUS is as before. -/
theorem State.hostBump_pcie (s : State) (G : Fld) (hG : G.addr 0 0 ∈ hostWords) (hb : G.blk = .pcie) : s.hostBump.get G = s.get G := by
  obtain ⟨e, -, he⟩ := s.bumpGen_host 4
  rw [s.hostBump_get G hG (by rw [hb]; decide) (by rw [hb]; decide), he, State.get_set_blk _ _ _ _ _ _ _ _ (by rw [hb]; decide),
    State.get_set_blk _ _ _ _ _ _ _ _ (by rw [hb]; decide)]
  exact congrArg (fun m => bits (AMap.get regReset m (G.addr 0 0)).toNat G.lsb G.width) (s.setTe_regs pREG 1 576 e)

/-- The counters and the masks: the step writes none of them, its forfeit counts one of TURNOUT_FORFEITS. -/
theorem State.bumpGen_host_ctrs (s : State) : (s.bumpGen 576 4).ctrs = s.ctrs ∧ (s.bumpGen 576 4).vecMask = s.vecMask := by
  obtain ⟨e, -, he⟩ := s.bumpGen_host 4
  rw [he]
  exact ⟨s.setTe_ctrs .., s.setTe_vecMask ..⟩

theorem State.hostBump_vecMask (s : State) : s.hostBump.vecMask = s.vecMask := by
  have e : ∀ {t u : State}, t.hostView = u.hostView → t.vecMask = u.vecMask := fun h => congrArg HostView.mask h
  rw [e s.hostView_hostBump, State.set_vecMask, e s.hostView_bump_host, State.inc_vecMask, State.takeSeq, State.set_vecMask, s.bumpGen_host_ctrs.2]

/-- A counter of the host's side is after the step what the count of the forfeit leaves. -/
theorem State.hostBump_ctr (s : State) (c : Ctr) (h : c ∈ hostCtrs) :
    s.hostBump.ctr ⟨c.blk, 0⟩ c = (s.inc C.TURNOUT_FORFEITS).ctr ⟨c.blk, 0⟩ c := by
  have e : ∀ {t u : State}, t.hostView = u.hostView → t.ctr ⟨c.blk, 0⟩ c = u.ctr ⟨c.blk, 0⟩ c := fun {t u} hv => by
    simp only [hostCtrs, List.mem_cons, List.not_mem_nil, or_false] at h
    rcases h with rfl | rfl | rfl
    · exact congrArg HostView.linkDowns hv
    · exact congrArg HostView.flrs hv
    · exact congrArg HostView.forfeits hv
  have hs : ∀ t : State, t.ctrs = s.ctrs → (t.inc C.TURNOUT_FORFEITS).ctr ⟨c.blk, 0⟩ c = (s.inc C.TURNOUT_FORFEITS).ctr ⟨c.blk, 0⟩ c := fun t ht => by
    simp only [State.inc, State.incP, State.incAt, State.ctr, ht]
  rw [e s.hostView_hostBump, State.ctr_set, e s.hostView_bump_host, hs]
  rw [State.takeSeq, State.set_ctrs, s.bumpGen_host_ctrs.1]

/-! ### The vectors (R55) -/

theorem State.sendVec_keeps (s : State) (v : Nat) : (s.sendVec v).regs = s.regs ∧ (s.sendVec v).vecMask = s.vecMask := by
  unfold State.sendVec
  split <;> exact ⟨rfl, rfl⟩

/-- A vector whose message is not outstanding and that may send sends one message. -/
theorem State.sendVec_open (s : State) (v : Nat) (hv : v ∉ s.vecSent) (hon : s.isOn .irq = true) (hl : s.get F.PCIE_STATUS_LINK_UP = 1)
    (hb : s.get F.PCIE_STATUS_BME = 1) (hm : v ∉ s.vecMask) :
    s.sendVec v = ({ s with vecSent := v :: s.vecSent }.emit (.msix v)).inc C.PCIE_MSIX_SENT := by
  have ho : s.msixOpen v = true := by simp [State.msixOpen, hon, hl, hb, hm]
  unfold State.sendVec
  rw [if_neg (by simp [hv, ho])]

@[simp] theorem State.hostView_sendAllVecs (s : State) : s.sendAllVecs.hostView = s.hostView :=
  State.hostView_each _ _ _ State.hostView_sendVec

theorem msixVectorUnmask_mask (s : State) (v : Nat) : ∃ t, exec (.msixVectorUnmask v) s = .next t ∧ v ∉ t.vecMask ∧
    (∀ w, w ≠ v → (w ∈ t.vecMask ↔ w ∈ s.vecMask)) ∧ t.regs = s.regs := by
  have hm : ∀ t : State, t.vecMask = s.vecMask.filter (· ≠ v) →
      v ∉ t.vecMask ∧ ∀ w, w ≠ v → (w ∈ t.vecMask ↔ w ∈ s.vecMask) := fun t h => by simp +contextual [h]
  refine ⟨_, rfl, ?_⟩
  split
  · obtain ⟨hr, hk⟩ := State.sendVec_keeps { s with vecMask := s.vecMask.filter (· ≠ v) } v
    obtain ⟨h1, h2⟩ := hm _ hk
    exact ⟨h1, h2, hr⟩
  · obtain ⟨h1, h2⟩ := hm { s with vecMask := s.vecMask.filter (· ≠ v) } rfl
    exact ⟨h1, h2, rfl⟩

theorem msixVectorUnmask_sends (s : State) (v : Nat) (hlt : v < 64) (ha : s.vecAsserts v = true) (hv : v ∉ s.vecSent) (hon : s.isOn .irq = true)
    (hl : s.get F.PCIE_STATUS_LINK_UP = 1) (hb : s.get F.PCIE_STATUS_BME = 1) :
    ∃ t, exec (.msixVectorUnmask v) s = .next t ∧ t.out = .msix v :: s.out ∧ v ∈ t.vecSent := by
  refine ⟨State.sendVec { s with vecMask := s.vecMask.filter (· ≠ v) } v, congrArg Host.Outcome.next (if_pos ⟨hlt, ha⟩), ?_⟩
  rw [State.sendVec_open { s with vecMask := s.vecMask.filter (· ≠ v) } v hv hon hl hb (by simp)]
  exact ⟨rfl, List.mem_cons_self⟩

theorem vecAck_quiet (s : State) (v : Nat) (hon : s.isOn .irq = true) (ha : s.vecAsserts v = false) :
    ∃ t, exec (.vecAck v) s = .next t ∧ t.vecSent = s.vecSent.filter (· ≠ v) ∧ t.out = s.out ∧ t.regs = s.regs := by
  refine ⟨{ s with vecSent := s.vecSent.filter (· ≠ v) }, congrArg Host.Outcome.next ((if_pos hon).trans (if_neg ?_)), rfl, rfl, rfl⟩
  exact Bool.eq_false_iff.mp ha

theorem vecAck_sends (s : State) (v : Nat) (hon : s.isOn .irq = true) (ha : s.vecAsserts v = true) (hm : v ∉ s.vecMask)
    (hl : s.get F.PCIE_STATUS_LINK_UP = 1) (hb : s.get F.PCIE_STATUS_BME = 1) :
    ∃ t, exec (.vecAck v) s = .next t ∧ t.out = .msix v :: s.out ∧ v ∈ t.vecSent ∧
      t.ctr ⟨.pcie, 0⟩ C.PCIE_MSIX_SENT = (s.ctr ⟨.pcie, 0⟩ C.PCIE_MSIX_SENT + 1) % 2 ^ 64 := by
  refine ⟨State.sendVec { s with vecSent := s.vecSent.filter (· ≠ v) } v, congrArg Host.Outcome.next ((if_pos hon).trans (if_pos ha)), ?_⟩
  rw [State.sendVec_open { s with vecSent := s.vecSent.filter (· ≠ v) } v (by simp) hon hl hb hm]
  exact ⟨rfl, List.mem_cons_self, State.ctr_incP_same ..⟩

/-! ### The link (R346) -/

theorem pcieLinkUp_status (s : State) (speed width : Nat) (bme : Bool) (hon : s.isOn .pcie = true) (h1 : 1 ≤ speed) (h3 : speed ≤ 3)
    (hw : width = 1 ∨ width = 2 ∨ width = 4) :
    ∃ t, exec (.pcieLinkUp speed width bme) s = .next t ∧ t.get F.PCIE_STATUS_LINK_UP = 1 ∧ t.get F.PCIE_STATUS_SPEED = speed ∧
      t.get F.PCIE_STATUS_WIDTH = width ∧ t.get F.PCIE_STATUS_BME = b2n bme := by
  refine ⟨_, if_neg (by simp [hon, hw]; omega), ?_⟩
  have e := fun (G : Fld) (hG : G.addr 0 0 ∈ hostWords) => State.get_of_hostView (State.hostView_sendAllVecs
    ((((s.set F.PCIE_STATUS_LINK_UP 1).set F.PCIE_STATUS_SPEED speed).set F.PCIE_STATUS_WIDTH width).set F.PCIE_STATUS_BME (b2n bme))) G hG
  have off := fun (t : State) (G H : Fld) (v : Nat) hl ho => State.get_set_off t G v 0 0 H 0 0 hl ho
  have same := fun (t : State) (G : Fld) (v : Nat) hl => State.get_set_same t G v 0 0 hl
  refine ⟨?_, ?_, ?_, ?_⟩
  · rw [e _ (by decide), off _ _ _ _ (by decide) (by decide), off _ _ _ _ (by decide) (by decide), off _ _ _ _ (by decide) (by decide),
      same _ _ _ (by decide)]
    rfl
  · rw [e _ (by decide), off _ _ _ _ (by decide) (by decide), off _ _ _ _ (by decide) (by decide), same _ _ _ (by decide)]
    exact Nat.mod_eq_of_lt (show speed < 4 by omega)
  · rw [e _ (by decide), off _ _ _ _ (by decide) (by decide), same _ _ _ (by decide)]
    exact Nat.mod_eq_of_lt (show width < 8 by omega)
  · rw [e _ (by decide), same _ _ _ (by decide)]
    cases bme <;> rfl

/-- A reset of the link clears LINK_UP and BME and masks every vector; it keeps the generations and the counters. -/
theorem State.pcieReset_keeps (s : State) : s.pcieReset.get F.PCIE_STATUS_LINK_UP = 0 ∧ s.pcieReset.get F.PCIE_STATUS_BME = 0 ∧
    s.pcieReset.vecMask = List.range 64 ∧ s.pcieReset.ctrs = s.ctrs ∧ s.pcieReset.tbl = s.tbl := by
  have off := fun (t : State) (G H : Fld) (v : Nat) hl ho => State.get_set_off t G v 0 0 H 0 0 hl ho
  have same := fun (t : State) (G : Fld) (v : Nat) hl => State.get_set_same t G v 0 0 hl
  have mask : ∀ (t : State) (G : Fld) (l : List Nat), State.get { t with vecMask := l } G = t.get G := fun _ _ _ => rfl
  unfold State.pcieReset
  dsimp only
  refine ⟨?_, ?_, rfl, ?_, ?_⟩
  · rw [mask, off _ _ _ _ (by decide) (by decide), off _ _ _ _ (by decide) (by decide), off _ _ _ _ (by decide) (by decide),
      off _ _ _ _ (by decide) (by decide), same _ _ _ (by decide)]
    rfl
  · rw [mask, off _ _ _ _ (by decide) (by decide), off _ _ _ _ (by decide) (by decide), off _ _ _ _ (by decide) (by decide),
      same _ _ _ (by decide)]
    rfl
  · simp only [State.set_ctrs]
  · simp only [State.set_tbl]

theorem State.nextGen_of_tbl {s t : State} (h : t.tbl = s.tbl) (i : Nat) : t.nextGen i = s.nextGen i := by
  unfold State.nextGen State.gen State.te
  rw [h]

/-- A counter of the PCI Express page is none of the forfeit's. -/
theorem State.ctr_inc_forfeits (s : State) (c : Ctr) (h : c.blk ≠ .turnout) :
    (s.inc C.TURNOUT_FORFEITS).ctr ⟨c.blk, 0⟩ c = s.ctr ⟨c.blk, 0⟩ c := State.ctr_incP_blk _ _ _ _ _ _ h

theorem pcieLinkDown_up (s : State) (perst : Bool) (hp : s.powered = true) (hon : s.isOn .pcie = true) (hl : s.get F.PCIE_STATUS_LINK_UP = 1) :
    ∃ t, exec (.pcieLinkDown perst) s = .next t ∧ t.get F.PCIE_STATUS_LINK_UP = 0 ∧ t.get F.PCIE_STATUS_BME = 0 ∧ t.vecMask = List.range 64 ∧
      t.ctr ⟨.pcie, 0⟩ C.PCIE_LINK_DOWNS = (s.ctr ⟨.pcie, 0⟩ C.PCIE_LINK_DOWNS + 1) % 2 ^ 64 ∧ t.gen 576 = s.nextGen 576 := by
  have hx : exec (.pcieLinkDown perst) s = .next (s.inc C.PCIE_LINK_DOWNS).pcieReset.hostBump := by
    show execPcieLinkDown perst s = _
    unfold execPcieLinkDown State.pcieDown
    rw [if_neg (by simp [hp, hon]), if_pos hl, if_neg (by rw [hl]; decide)]
  obtain ⟨hup, hbme, hmask, hctrs, htbl⟩ := (s.inc C.PCIE_LINK_DOWNS).pcieReset_keeps
  refine ⟨_, hx, ?_, ?_, ?_, ?_, ?_⟩
  · rw [State.hostBump_pcie _ _ (by decide) rfl, hup]
  · rw [State.hostBump_pcie _ _ (by decide) rfl, hbme]
  · rw [State.hostBump_vecMask, hmask]
  · rw [State.hostBump_ctr _ C.PCIE_LINK_DOWNS (by decide), State.ctr_inc_forfeits _ C.PCIE_LINK_DOWNS (by decide), State.ctr, hctrs]
    exact State.ctr_incP_same ..
  · rw [State.hostBump_gen, State.nextGen_of_tbl htbl, State.nextGen_of_tbl (s.inc_tbl ..)]

theorem pcieFlr_up (s : State) (hp : s.powered = true) (hon : s.isOn .pcie = true) (hl : s.get F.PCIE_STATUS_LINK_UP = 1) :
    ∃ t, exec .pcieFlr s = .next t ∧ t.get F.PCIE_STATUS_BME = 0 ∧ t.get F.PCIE_STATUS_LINK_UP = 1 ∧ t.vecMask = List.range 64 ∧
      t.ctr ⟨.pcie, 0⟩ C.PCIE_FLRS = (s.ctr ⟨.pcie, 0⟩ C.PCIE_FLRS + 1) % 2 ^ 64 ∧ t.gen 576 = s.nextGen 576 := by
  have hx : exec .pcieFlr s = .next (State.inc { s.set F.PCIE_STATUS_BME 0 with vecMask := List.range 64 } C.PCIE_FLRS).hostBump := by
    show execPcieFlr s = _
    unfold execPcieFlr
    rw [if_neg (by simp [hp, hon, hl])]
  have mask : ∀ (t : State) (G : Fld) (l : List Nat), State.get { t with vecMask := l } G = t.get G := fun _ _ _ => rfl
  refine ⟨_, hx, ?_, ?_, ?_, ?_, ?_⟩
  · rw [State.hostBump_pcie _ _ (by decide) rfl, State.get_inc, mask, State.get_set_same _ _ _ _ _ (by decide)]
    rfl
  · rw [State.hostBump_pcie _ _ (by decide) rfl, State.get_inc, mask, State.get_set_off _ _ _ _ _ _ _ _ (by decide) (by decide), hl]
  · rw [State.hostBump_vecMask, State.inc_vecMask]
  · rw [State.hostBump_ctr _ C.PCIE_FLRS (by decide), State.ctr_inc_forfeits _ C.PCIE_FLRS (by decide)]
    exact State.ctr_incP_same ..
  · rw [State.hostBump_gen]
    exact State.nextGen_of_tbl rfl 576

theorem hostGenBump_steps (s : State) (hp : s.powered = true) :
    ∃ t, exec .hostGenBump s = .next t ∧ t.gen 576 = s.nextGen 576 ∧ t.get F.FLUME_STATUS_SESSION = t.gen 576 ∧ t.get F.HOST_GEN_GEN = t.gen 576 ∧
      t.ctr ⟨.turnout, 0⟩ C.TURNOUT_FORFEITS = (s.ctr ⟨.turnout, 0⟩ C.TURNOUT_FORFEITS + 1) % 2 ^ 64 := by
  refine ⟨s.hostBump, congrArg Host.Outcome.next (if_pos hp), s.hostBump_gen, ?_, ?_, ?_⟩
  · rw [s.hostBump_session, s.hostBump_gen]
  · rw [s.hostBump_hostGen, s.hostBump_gen]
  · rw [State.hostBump_ctr _ C.TURNOUT_FORFEITS (by decide)]
    exact State.ctr_incP_same ..

/-! ### The batches of an owner that is gone (R256, R257) -/

/-- Every part but the lease's own state, which holds the open batches of sequences. -/
def allButBatches : Touch where
  blks := .regionCtl :: Blk.all
  tags := true
  vecSent := true
  fq := true
  ev := true
  out := true
  once := true
  canal := true
  pair := true
  disp := true
  mot := true

theorem allButBatches_in (b : Blk) : allButBatches.In b := ⟨by cases b <;> rfl⟩

theorem allButBatches_log : allButBatches.Log where
  out_on := rfl
  vecSent_on := rfl
  fq_on := rfl
  ev_on := rfl
  once_on := rfl
  canal_on := rfl
  canal_in := allButBatches_in _
  eth_in := allButBatches_in _
  evlog_in := allButBatches_in _
  flume_in := allButBatches_in _
  pcie_in := allButBatches_in _

/-- The open batches of sequences. -/
def State.batches (s : State) : List TblSeq := s.ls.seqs

theorem State.batches_of_rest {s t : State} (h : t.rest allButBatches = s.rest allButBatches) : t.batches = s.batches :=
  congrArg LeaseSt.seqs (State.ls_of_rest h rfl)

theorem State.batches_each {α : Type} (s : State) (l : List α) (f : State → α → State) (h : ∀ t x, (f t x).batches = t.batches) :
    (s.each l f).batches = s.batches :=
  State.each_keeps State.batches s l f h

/-! What a forfeit does beside dropping batches leaves them alone. -/

section
variable (s : State)

theorem State.batches_tblDone (via : Via) (p : Page) (i : Nat) (r : TRes) : (s.tblDone via p i r).batches = s.batches := by
  have := allButBatches_in
  have := allButBatches_log
  have : allButBatches.Tags := ⟨rfl⟩
  exact State.batches_of_rest (State.tblDone_rest ..)

theorem State.batches_complHeld (via : Via) (p : Page) (r : TRes) : (s.complHeld via p r).batches = s.batches := by
  unfold State.complHeld
  split
  · rw [State.batches_tblDone]
    dsimp only
    split <;> rfl
  · rfl

theorem State.batches_sendRelease (zone typ n xid owner : Nat) : (s.sendRelease zone typ n xid owner).batches = s.batches := by
  have := allButBatches_in
  have := allButBatches_log
  have hl : ∀ m, (s.leaseSend zone m).batches = s.batches := fun m => State.batches_of_rest (State.leaseSend_rest ..)
  unfold State.sendRelease
  dsimp only
  split
  · exact hl _
  · exact hl _

theorem State.batches_freeLe (i : Nat) : (s.freeLe i).batches = s.batches := by
  have := allButBatches_in
  have : allButBatches.Pair := ⟨rfl⟩
  exact State.batches_of_rest (State.freeLe_rest ..)

theorem State.batches_leSet (i : Nat) (f : EF) (v : Nat) : (s.leSet i f v).batches = s.batches := by
  have := allButBatches_in
  have : allButBatches.Pair := ⟨rfl⟩
  exact State.batches_of_rest (State.leSet_rest ..)

theorem State.batches_freeLock (i : Nat) : (s.freeLock i).batches = s.batches := by
  have := allButBatches_in
  have : allButBatches.Pair := ⟨rfl⟩
  exact State.batches_of_rest (State.freeLock_rest ..)

theorem State.batches_leaseShow : s.leaseShow.batches = s.batches := by
  have := allButBatches_in
  exact State.batches_of_rest (State.leaseShow_rest ..)

theorem State.batches_rechain (h : Nat) : (s.rechain h).batches = s.batches := by
  unfold State.rechain
  split
  · exact s.batches_freeLe h
  · rw [State.batches_each _ _ _ fun t x => t.batches_leSet _ _ _, State.batches_leSet, State.batches_leSet]

theorem State.batches_freeFurrow (h : Nat) : (s.freeFurrow h).batches = s.batches := by
  unfold State.freeFurrow
  dsimp only
  rw [State.batches_leaseShow, State.batches_rechain, State.batches_each _ _ _ State.batches_freeLe, State.batches_each _ _ _ State.batches_freeLock]

theorem State.batches_refuseSubmit (owner : Nat) (d : Deny) : (s.refuseSubmit owner d).1.batches = s.batches := by
  have := allButBatches_in
  have := allButBatches_log
  have : allButBatches.Disp := ⟨rfl⟩
  have hi : (s.takeSeq.inc C.LEASE_REFUSALS).batches = s.batches :=
    State.batches_of_rest ((State.inc_rest ..).trans (State.takeSeq_rest ..))
  have hq : ∀ t : State, (t.irq pLEASE I.LEASE_NO_ROOM).batches = t.batches := fun t => State.batches_of_rest (State.irq_rest ..)
  have he : ∀ (t : State) a b c e f g h, (t.leaseEvent a b c e f g h).batches = t.batches := fun t a b c e f g h =>
    State.batches_of_rest (State.leaseEvent_rest ..)
  unfold State.refuseSubmit
  refine (he _ _ _ _ _ _ _ _).trans ?_
  split
  · rw [hq, hi]
  · exact hi

theorem State.batches_abortXfer (x : Xfer) (d : Deny) : (s.abortXfer x d).batches = s.batches := by
  have := allButBatches_in
  have hi : ∀ t : State, (t.inc C.LEASE_XFER_ABORT).batches = t.batches := fun t => State.batches_of_rest (State.inc_rest ..)
  have hx : ∀ (t : State) (l : List Xfer), State.batches { t with ls := { t.ls with xfers := l } } = t.batches := fun _ _ => rfl
  unfold State.abortXfer
  dsimp only
  (repeat' split) <;> simp only [State.batches_leaseShow, State.batches_complHeld, State.batches_refuseSubmit, hi, State.batches_freeFurrow, hx,
    State.batches_each _ _ _ fun t z => State.batches_sendRelease t z _ _ _ _]

theorem State.batches_oldOps (i : Nat) : (s.oldOps i).batches = s.batches := by
  refine s.batches_each _ _ fun t h => ?_
  split <;> simp only [State.batches_abortXfer, State.batches_complHeld]

theorem State.batches_releaseFrom (h p : Nat) : (s.releaseFrom h p).1.batches = s.batches := by
  have := allButBatches_in
  have := allButBatches_log
  have : allButBatches.Pair := ⟨rfl⟩
  have : allButBatches.Disp := ⟨rfl⟩
  have : allButBatches.Mot := ⟨rfl⟩
  have he : ∀ (t : State) n k, (t.leEvent n k).batches = t.batches := fun t n k => State.batches_of_rest (State.leEvent_rest ..)
  have hr : ∀ (t : State) k, (t.relock k).batches = t.batches := fun t k => State.batches_of_rest (State.relock_rest ..)
  have hm : ∀ (t : State) m, (t.motTrunc m).batches = t.batches := fun t m => State.batches_of_rest (State.motTrunc_rest ..)
  unfold State.releaseFrom
  dsimp only
  (repeat' split) <;> simp only [hm, State.batches_leaseShow, State.batches_rechain, State.batches_each _ _ _ hr,
    State.batches_each _ _ _ State.batches_freeLe,
    State.batches_each _ _ _ fun t i => he t _ i, State.batches_each _ _ _ fun t z => State.batches_sendRelease t _ _ _ _ _]

theorem State.batches_dropFurrows (addr : Nat) : (s.dropFurrows addr).batches = s.batches := by
  unfold State.dropFurrows
  dsimp only
  rw [State.batches_each _ _ _ fun t h => t.batches_releaseFrom h 0, State.batches_each _ _ _ fun t x => t.batches_abortXfer x _]

theorem State.batches_forfeitDirect (i : Nat) : (s.forfeitDirect i).batches = s.batches := by
  have := allButBatches_in
  have := allButBatches_log
  have : allButBatches.Pair := ⟨rfl⟩
  refine (State.batches_each _ _ _ fun t n => ?_).trans ?_
  · exact State.batches_of_rest ((State.turnShow_rest ..).trans (State.setTe_rest ..))
  · exact State.batches_of_rest ((State.irq_rest ..).trans ((State.inc_rest ..).trans (State.takeSeq_rest ..)))

theorem State.batches_dropBatch (q : TblSeq) : (s.dropBatch q).batches = s.batches.filter fun r => r.handle ≠ q.handle := by
  have := allButBatches_in
  have := allButBatches_log
  exact State.batches_of_rest ((State.irq_rest ..).trans (State.inc_rest ..))

theorem State.batches_forfeitMember (i : Nat) : (s.forfeitMember i).batches = s.batches := by
  have := allButBatches_in
  have := allButBatches_log
  have : allButBatches.Pair := ⟨rfl⟩
  have : allButBatches.Disp := ⟨rfl⟩
  have : allButBatches.Mot := ⟨rfl⟩
  have hm : ∀ t : State, ((t.motEmpty i).taskForfeit i).batches = t.batches := fun t =>
    State.batches_of_rest ((State.taskForfeit_rest ..).trans (State.motEmpty_rest ..))
  have ho : ∀ a g, (s.orphanLocks a g).batches = s.batches := fun a g => State.batches_of_rest (State.orphanLocks_rest ..)
  have hg : ∀ (t : State) (l : List Nat), State.batches { t with ls := { t.ls with ghosts := l } } = t.batches := fun _ _ => rfl
  unfold State.forfeitMember
  dsimp only
  rw [hm]
  split
  · rw [State.batches_dropFurrows, ho]
  · rw [hg, State.batches_dropFurrows, ho]

theorem State.batches_forfeitRest (i : Nat) : (s.forfeitRest i).batches = s.batches := by
  unfold State.forfeitRest
  dsimp only
  rw [State.batches_leaseShow]
  split
  · rw [State.batches_forfeitMember, State.batches_oldOps]
  · exact s.batches_oldOps i

/-- None of the listed batches is left once all of them are dropped, and none is new. -/
theorem State.batches_dropped (l : List TblSeq) : ∀ q ∈ (s.each l State.dropBatch).batches, q ∈ s.batches ∧ q ∉ l := by
  induction l generalizing s with
  | nil => exact fun q hq => ⟨hq, List.not_mem_nil⟩
  | cons r l ih =>
    intro q hq
    obtain ⟨hm, hl⟩ := ih (s.dropBatch r) q hq
    rw [State.batches_dropBatch, List.mem_filter] at hm
    obtain ⟨hm, hr⟩ := hm
    refine ⟨hm, fun h => ?_⟩
    rcases List.mem_cons.mp h with rfl | h
    · simp at hr
    · exact hl h

end

/-! The generations: the members' records of the registry's table 1. -/

/-- Every part but the registry's registers and tables. -/
def allButRegistry : Touch where
  blks := .regionCtl :: Blk.all.filter (· ≠ .registry)
  tags := true
  vecSent := true
  fq := true
  ev := true
  out := true
  once := true
  canal := true
  held := true
  pair := true
  disp := true
  ls := true
  mot := true

theorem allButRegistry_log : allButRegistry.Log where
  out_on := rfl
  vecSent_on := rfl
  fq_on := rfl
  ev_on := rfl
  once_on := rfl
  canal_on := rfl
  canal_in := ⟨rfl⟩
  eth_in := ⟨rfl⟩
  evlog_in := ⟨rfl⟩
  flume_in := ⟨rfl⟩
  pcie_in := ⟨rfl⟩

theorem State.gen_of_rest {s t : State} (h : t.rest allButRegistry = s.rest allButRegistry) (i : Nat) : t.gen i = s.gen i :=
  congrArg (bits · 0 16) (State.te_of_rest h ⟨.registry, 0⟩ 1 i rfl)

theorem State.forfeitMember_gen (s : State) (i k : Nat) : (s.forfeitMember i).gen k = s.gen k := by
  have := allButRegistry_log
  obtain ⟨_, _, _, _, _⟩ := Touch.logIns allButRegistry
  have : allButRegistry.In .core := ⟨rfl⟩
  have : allButRegistry.In .dispatch := ⟨rfl⟩
  have : allButRegistry.In .lease := ⟨rfl⟩
  have : allButRegistry.In .turnout := ⟨rfl⟩
  have : allButRegistry.In .motion := ⟨rfl⟩
  have : allButRegistry.In .taskboard := ⟨rfl⟩
  have : allButRegistry.Tags := ⟨rfl⟩
  have : allButRegistry.Held := ⟨rfl⟩
  have : allButRegistry.Pair := ⟨rfl⟩
  have : allButRegistry.Disp := ⟨rfl⟩
  have : allButRegistry.Ls := ⟨rfl⟩
  have : allButRegistry.Mot := ⟨rfl⟩
  refine State.gen_of_rest ?_ k
  unfold State.forfeitMember
  dsimp only
  rw [State.taskForfeit_rest, State.motEmpty_rest]
  split
  · rw [State.dropFurrows_rest, State.orphanLocks_rest]
  · rw [State.rest_ls, State.dropFurrows_rest, State.orphanLocks_rest]

theorem State.gen_leaseShow (s : State) (k : Nat) : s.leaseShow.gen k = s.gen k := State.gen_of_hostView s.hostView_leaseShow k

/-- A forfeit steps no generation. -/
theorem State.forfeit_gen (s : State) (i k : Nat) : (s.forfeit i).gen k = s.gen k := by
  rw [State.forfeit_eq, State.forfeitRest, State.gen_leaseShow]
  have hd : (((s.forfeitDirect i).each ((s.forfeitDirect i).oldBatches i) State.dropBatch).oldOps i).gen k = s.gen k := by
    rw [State.gen_of_hostView (State.hostView_oldOps ..), State.gen_of_hostView (State.hostView_each _ _ _ State.hostView_dropBatch),
      State.gen_of_hostView (s.hostView_forfeitDirect i), State.gen_inc, State.takeSeq, State.gen_set]
  split
  · rw [State.forfeitMember_gen, hd]
  · exact hd

/-- After its forfeit an owner has no batch of an older generation open. -/
theorem State.batches_forfeit (s : State) (i : Nat) : ∀ q ∈ (s.forfeit i).batches, q.owner = i → q.gen = s.gen i := by
  have hg : (s.forfeitDirect i).gen i = s.gen i := by
    rw [State.gen_of_hostView (s.hostView_forfeitDirect i), State.gen_inc, State.takeSeq, State.gen_set]
  rw [State.forfeit_eq, State.batches_forfeitRest]
  intro q hq ho
  obtain ⟨hm, hn⟩ := State.batches_dropped _ _ q hq
  by_contra hne
  refine hn (List.mem_filter.mpr ⟨hm, decide_eq_true ⟨ho, ?_⟩⟩)
  rwa [hg]

theorem ownerForfeit_batches (s : State) (i : Nat) (hi : i < 578) (hp : s.powered = true) (ho : s.oldLeft i = true) :
    ∃ t, exec (.ownerForfeit i) s = .next t ∧ (∀ q ∈ t.ls.seqs, q.owner = i → q.gen = s.gen i) ∧ t.gen i = s.gen i :=
  ⟨s.forfeit i, if_neg (by simp [hp, ho]; omega), s.batches_forfeit i, s.forfeit_gen i i⟩

/-- Settles O38: training and vectors read the words they write, a step of the host's generation is read through `State.hostView`, and a forfeit
drops the owner's batches one by one. -/
theorem pciExpressAndVectors : Obligations.PciExpressAndVectors :=
  ⟨pcieLinkUp_status, msixVectorUnmask_mask, msixVectorUnmask_sends, vecAck_quiet, vecAck_sends, pcieLinkDown_up, pcieFlr_up, hostGenBump_steps,
    ownerForfeit_batches⟩

end Sys2Proof.Machine
end

section
/-! SUPPORT. The proofs of the channels and the antennas: the states of a tracking channel (`Obligations.TrackingChannels`), and the LNA supply and
interference (`Obligations.AntennaAndInterference`). -/
namespace Sys2Proof.Machine
open Sys2Proof

/-! ### A channel and what CH_STATUS shows of it (R62) -/

theorem State.chan_of_gn {s t : State} (h : t.gn.chans = s.gn.chans) (c : Nat) : t.chan c = s.chan c := by
  rw [State.chan, h, State.chan]

@[simp] theorem State.chan_set (s : State) (F : Fld) (v i k c : Nat) : (s.set F v i k).chan c = s.chan c := rfl
@[simp] theorem State.chan_inc (s : State) (x : Ctr) (i n c : Nat) : (s.inc x i n).chan c = s.chan c := rfl

@[simp] theorem State.chan_setChan_same (s : State) (c : Nat) (h : Chan) : (s.setChan c h).chan c = h :=
  AMap.get_set_same _ s.gn.chans c h

theorem State.chan_setChan_ne (s : State) (c : Nat) (h : Chan) {d : Nat} (hd : d ≠ c) : (s.setChan c h).chan d = s.chan d :=
  AMap.get_set_ne _ s.gn.chans c h d hd

@[simp] theorem State.ctr_setChan (s : State) (c : Nat) (h : Chan) (p : Page) (x : Ctr) : (s.setChan c h).ctr p x = s.ctr p x := rfl

/-- CH_STATUS shows the state of the channel that was replaced. -/
theorem State.get_setChan_state (s : State) (c : Nat) (h : Chan) :
    (s.setChan c h).get F.CH_STATUS_STATE (c / 16) (c % 16) = h.st % 2 ^ 3 := by
  have off := fun (t : State) (G : Fld) (v : Nat) hl hb =>
    State.get_set_off t G v (c / 16) (c % 16) F.CH_STATUS_STATE (c / 16) (c % 16) hl (.inr hb)
  rw [State.setChan, off _ _ _ (by decide) (by decide), off _ _ _ (by decide) (by decide), off _ _ _ (by decide) (by decide),
    State.get_set_same _ _ _ _ _ (by decide)]

/-- A channel that holds a signal goes IDLE: it keeps its antenna, and CH_STATUS shows no C/N0. -/
theorem State.idleChan_of_holds (s : State) (c : Nat) (h : (s.chan c).st = 1 ∨ (s.chan c).st = 3) :
    (s.idleChan c).chan c = { ant := (s.chan c).ant } ∧ (s.idleChan c).get F.CH_STATUS_CN0 (c / 16) (c % 16) = 0 := by
  rw [State.idleChan, if_neg (by omega), State.chan_set, State.chan_setChan_same, State.get_set_same _ _ _ _ _ (by decide)]
  exact ⟨rfl, rfl⟩

/-! ### The commands of a channel (R62, R63) -/

/-- A channel whose lock comes within 2 s of PULL_IN tracks, and its lock time starts. -/
theorem channelLock_tracks (s : State) (c : Nat) (h1 : (s.chan c).st = 1) (hin : s.now ≤ (s.chan c).at_ + sec 2) :
    ∃ t, exec (.channelLock c) s = .next t ∧ t.get F.CH_STATUS_STATE (c / 16) (c % 16) = 2 ∧ (t.chan c).st = 2 ∧ (t.chan c).lockAt = s.now ∧
      (t.chan c).half = dataOnly (s.chan c).sig := by
  refine ⟨_, if_neg (by omega), State.get_setChan_state .., ?_⟩
  simp only [State.chan_setChan_same, and_self]

theorem pullInTimeout_idle (s : State) (c : Nat) (h1 : (s.chan c).st = 1) (hout : (s.chan c).at_ + sec 2 ≤ s.now) :
    ∃ t, exec (.pullInTimeout c) s = .next t ∧ t.get F.CH_STATUS_CN0 (c / 16) (c % 16) = 0 ∧ (t.chan c).st = 0 ∧
      (t.chan c).ant = (s.chan c).ant := by
  obtain ⟨hidle, hcn0⟩ := s.idleChan_of_holds c (.inl h1)
  exact ⟨s.idleChan c, if_neg (by omega), hcn0, by rw [hidle], by rw [hidle]⟩

theorem cycleSlip_restarts (s : State) (c : Nat) (h2 : (s.chan c).st = 2) :
    ∃ t, exec (.cycleSlip c) s = .next t ∧ (t.chan c).lockAt = s.now ∧ (t.chan c).slip = true ∧ (t.chan c).st = 2 ∧
      t.ctr ⟨.gnssTrk, c / 16⟩ C.GNSS_TRK_SLIP_COUNT = (s.ctr ⟨.gnssTrk, c / 16⟩ C.GNSS_TRK_SLIP_COUNT + 1) % 2 ^ 64 := by
  refine ⟨_, if_neg (not_not_intro h2), ?_⟩
  rw [State.chan_inc, State.chan_setChan_same, State.ctr_inc_same _ C.GNSS_TRK_SLIP_COUNT, State.ctr_setChan]
  exact ⟨rfl, rfl, h2, rfl⟩

theorem trackLoss_lost (s : State) (c : Nat) (h2 : (s.chan c).st = 2) :
    ∃ t, exec (.trackLoss c) s = .next t ∧ (t.chan c).st = 3 ∧ (t.chan c).at_ = s.now ∧ t.get F.CH_STATUS_STATE (c / 16) (c % 16) = 3 ∧
      t.ctr ⟨.gnssTrk, c / 16⟩ C.GNSS_TRK_LOSS_COUNT = (s.ctr ⟨.gnssTrk, c / 16⟩ C.GNSS_TRK_LOSS_COUNT + 1) % 2 ^ 64 := by
  refine ⟨_, congrArg Host.Outcome.next (if_neg (not_not_intro h2)), ?_⟩
  rw [State.chan_inc, State.chan_setChan_same, State.get_inc, State.get_setChan_state, State.ctr_inc_same _ C.GNSS_TRK_LOSS_COUNT,
    State.ctr_setChan]
  exact ⟨rfl, rfl, rfl, rfl⟩

theorem channelRelock_tracks (s : State) (c : Nat) (h3 : (s.chan c).st = 3) (hin : s.now ≤ (s.chan c).at_ + sec 10) :
    ∃ t, exec (.channelRelock c) s = .next t ∧ (t.chan c).st = 2 ∧ (t.chan c).slip = true ∧ (t.chan c).lockAt = s.now ∧
      t.get F.CH_STATUS_STATE (c / 16) (c % 16) = 2 := by
  refine ⟨_, if_neg (by omega), ?_⟩
  rw [State.chan_setChan_same]
  exact ⟨rfl, rfl, rfl, State.get_setChan_state ..⟩

theorem lostTimeout_idle (s : State) (c : Nat) (below : Bool) (h3 : (s.chan c).st = 3)
    (hout : (s.chan c).at_ + sec 10 ≤ s.now ∨ below = true) :
    ∃ t, exec (.lostTimeout c below) s = .next t ∧ (t.chan c).st = 0 ∧ (t.chan c).ant = (s.chan c).ant ∧
      t.get F.CH_STATUS_CN0 (c / 16) (c % 16) = 0 := by
  obtain ⟨hidle, hcn0⟩ := s.idleChan_of_holds c (.inr h3)
  refine ⟨s.idleChan c, if_neg ?_, by rw [hidle], by rw [hidle], hcn0⟩
  rcases hout with h | h
  · omega
  · simp [h3, h]

theorem polarityResolved_starts (s : State) (c : Nat) (h2 : (s.chan c).st = 2) (hh : (s.chan c).half = true) :
    ∃ t, exec (.polarityResolved c) s = .next t ∧ (t.chan c).half = false ∧ (t.chan c).lockAt = s.now ∧ (t.chan c).st = 2 := by
  refine ⟨_, if_neg (by simp [h2, hh]), ?_⟩
  rw [State.chan_setChan_same]
  exact ⟨rfl, rfl, h2⟩

/-- Settles O17: each command replaces its channel by `State.setChan` or takes it to IDLE by `State.idleChan`, and what CH_STATUS and the
channel read as after these is said once. -/
theorem trackingChannels : Obligations.TrackingChannels :=
  ⟨channelLock_tracks, pullInTimeout_idle, cycleSlip_restarts, trackLoss_lost, channelRelock_tracks, lostTimeout_idle, polarityResolved_starts⟩

/-! ### What the two-antenna check leaves alone (R76) -/

/-- What a change of an antenna's state touches: GNSS_MEAS with the check that it shows, sensing beside its registers, and what a record
touches. -/
def touchCheck : Touch := { touchLog with blks := [.gnssMeas] ++ touchLog.blks, gn := true }

theorem State.antTimes_check (s : State) : s.antTimes.rest touchCheck = s.rest touchCheck := by
  cases Touch.granting
  dsimp only [touchCheck, touchLog, List.cons_append, List.nil_append]
  exact s.antTimes_rest

theorem State.antTimes_get (s : State) (F : Fld) (i k : Nat) (h : touchCheck.has (some F.blk) = false) : s.antTimes.get F i k = s.get F i k :=
  State.get_of_rest s.antTimes_check F i k h

theorem State.antTimes_irqUp (s : State) (p : Page) (n : Nat) (h : touchCheck.has (some p.blk) = false) : s.antTimes.irqUp p n = s.irqUp p n :=
  congrArg (bit · n) (State.reg_of_rest s.antTimes_check p _ h)

/-! ### The LNA supply (R58) -/

@[simp] theorem State.get_pwrPin (s : State) (ant : Nat) (F : Fld) (i k : Nat) : (s.pwrPin ant).get F i k = s.get F i k := rfl

theorem antCurrentClassify_short (s : State) (ant current : Nat) (ha : ant < 2) (hp : s.powered = true) (hen : s.get F.RF_CFG_PWR_EN ant = 1)
    (hc : 80000 < current) : ∃ t, exec (.antCurrentClassify ant current) s = .next t ∧ t.get F.RF_STATUS_ANT_STATE ant = 2 ∧
      t.get F.RF_CFG_PWR_EN ant = 0 ∧ t.irqUp ⟨.gnssRf, ant⟩ I.GNSS_RF_SHORT = true := by
  refine ⟨_, (if_neg (by simp [hp, ha])).trans ((if_neg (by omega)).trans (if_pos hc)), ?_, ?_, ?_⟩
  · rw [State.antTimes_get _ _ _ _ rfl, State.notice_get _ _ _ _ _ _ _ _ _ _ rfl (by decide), State.get_pwrPin,
      State.get_set_off _ _ _ _ _ _ _ _ (by decide) (by decide), State.get_set_same _ _ _ _ _ (by decide)]
    rfl
  · rw [State.antTimes_get _ _ _ _ rfl, State.notice_get _ _ _ _ _ _ _ _ _ _ rfl (by decide), State.get_pwrPin,
      State.get_set_same _ _ _ _ _ (by decide)]
    rfl
  · rw [State.antTimes_irqUp _ _ _ rfl]
    exact State.notice_up _ _ _ _ _ _ _ rfl (by decide)

/-- ANT_STATE of an antenna takes a value, and the times of the antennas follow. -/
theorem State.antState_shows (s : State) (ant v : Nat) (hv : v < 2 ^ 2) :
    (s.set F.RF_STATUS_ANT_STATE v ant).antTimes.get F.RF_STATUS_ANT_STATE ant = v ∧
      (s.set F.RF_STATUS_ANT_STATE v ant).antTimes.get F.RF_CFG_PWR_EN ant = s.get F.RF_CFG_PWR_EN ant := by
  rw [State.antTimes_get _ _ _ _ rfl, State.antTimes_get _ _ _ _ rfl, State.get_set_same _ _ _ _ _ (by decide),
    State.get_set_off _ _ _ _ _ _ _ _ (by decide) (by decide)]
  exact ⟨Nat.mod_eq_of_lt hv, rfl⟩

theorem antCurrentClassify_supplied (s : State) (ant current : Nat) (ha : ant < 2) (hp : s.powered = true) (hen : s.get F.RF_CFG_PWR_EN ant = 1)
    (hc : current ≤ 80000) : ∃ t, exec (.antCurrentClassify ant current) s = .next t ∧
      t.get F.RF_STATUS_ANT_STATE ant = (if current < 5000 then 1 else 0) ∧ t.get F.RF_CFG_PWR_EN ant = 1 := by
  obtain ⟨hst, hpwr⟩ := s.antState_shows ant (if current < 5000 then 1 else 0) (by split <;> decide)
  exact ⟨_, (if_neg (by simp [hp, ha])).trans ((if_neg (by omega)).trans (if_neg (by omega))), hst, hpwr.trans hen⟩

theorem antCurrentClassify_off (s : State) (ant current : Nat) (ha : ant < 2) (hp : s.powered = true) (hen : s.get F.RF_CFG_PWR_EN ant = 0) :
    ∃ t, exec (.antCurrentClassify ant current) s = .next t ∧
      t.get F.RF_STATUS_ANT_STATE ant = (if s.get F.RF_STATUS_ANT_STATE ant = 2 then 2 else 3) ∧ t.get F.RF_CFG_PWR_EN ant = 0 := by
  refine ⟨_, (if_neg (by simp [hp, ha])).trans (if_pos hen), ?_⟩
  by_cases hshort : s.get F.RF_STATUS_ANT_STATE ant = 2
  · rw [if_pos hshort, if_pos hshort]
    exact ⟨hshort, hen⟩
  · rw [if_neg hshort, if_neg hshort]
    obtain ⟨hst, hpwr⟩ := s.antState_shows ant 3 (by decide)
    exact ⟨hst, hpwr.trans hen⟩

/-! ### Lists with one element replaced -/

theorem length_setNth {α : Type} (l : List α) (i : Nat) (v : α) : (setNth l i v).length = l.length := by
  induction l generalizing i with
  | nil => rfl
  | cons x r ih => cases i with
    | zero => rfl
    | succ i => exact congrArg (· + 1) (ih i)

theorem nth_setNth_same {α : Type} (d : α) (l : List α) (i : Nat) (v : α) (h : i < l.length) : nth d (setNth l i v) i = v := by
  induction l generalizing i with
  | nil => exact absurd h (Nat.not_lt_zero i)
  | cons x r ih => cases i with
    | zero => rfl
    | succ i => exact ih i (Nat.lt_of_succ_lt_succ h)

theorem nth_setNth_ne {α : Type} (d : α) (l : List α) (i : Nat) (v : α) (j : Nat) (h : j ≠ i) : nth d (setNth l i v) j = nth d l j := by
  induction l generalizing i j with
  | nil => rfl
  | cons x r ih => cases i with
    | zero => cases j with
      | zero => exact absurd rfl h
      | succ j => rfl
    | succ i => cases j with
      | zero => rfl
      | succ j => exact ih i j (fun e => h (congrArg (· + 1) e))

/-! ### The gains and their references (R57, R59) -/

theorem State.get_setGains_upper (s : State) (ant upper lower : Nat) :
    (s.setGains ant upper lower).get F.RF_STATUS_GAIN_UPPER ant = s.pathGain ant upper F.RF_CFG_UPPER_EN % 2 ^ 8 := by
  unfold State.setGains
  rw [State.get_set_off _ _ _ _ _ _ _ _ (by decide) (by decide), State.get_set_off _ _ _ _ _ _ _ _ (by decide) (by decide),
    State.get_set_same _ _ _ _ _ (by decide)]

theorem State.get_setGains_lower (s : State) (ant upper lower : Nat) :
    (s.setGains ant upper lower).get F.RF_STATUS_GAIN_LOWER ant = s.pathGain ant lower F.RF_CFG_LOWER_EN % 2 ^ 8 := by
  unfold State.setGains
  rw [State.get_set_off _ _ _ _ _ _ _ _ (by decide) (by decide), State.get_set_same _ _ _ _ _ (by decide)]

/-- RF_CFG and the low bits of RF_STATUS are none of the gains'. -/
theorem State.get_setGains_off (s : State) (ant upper lower : Nat) (G : Fld) (i : Nat) (h : G.off % 0x1000 ≠ 0x304 ∨ G.lsb + G.width ≤ 4) :
    (s.setGains ant upper lower).get G i = s.get G i := by
  have off := fun (t : State) (F : Fld) (v : Nat) (hl : F.lsb + F.width ≤ 32) (hF : F.off = 0x304 ∧ 4 ≤ F.lsb) =>
    State.get_set_off t F v ant 0 G i 0 hl (by omega)
  unfold State.setGains
  rw [off _ _ _ (by decide) (by decide), off _ _ _ (by decide) (by decide), off _ _ _ (by decide) (by decide)]

@[simp] theorem State.get_learnGains (s : State) (ant x y : Nat) (F : Fld) (i k : Nat) : (s.learnGains ant x y).get F i k = s.get F i k := by
  unfold State.learnGains
  split <;> rfl

/-- The gains are shown, and the reference gains follow. -/
def State.takeGains (s : State) (ant upper lower refUpper refLower : Nat) : State :=
  (s.setGains ant upper lower).learnGains ant refUpper refLower

theorem State.get_takeGains (s : State) (ant upper lower x y : Nat) (G : Fld) (i : Nat) (h : G.off % 0x1000 ≠ 0x304 ∨ G.lsb + G.width ≤ 4) :
    (s.takeGains ant upper lower x y).get G i = s.get G i :=
  (State.get_learnGains ..).trans (s.get_setGains_off ant upper lower G i h)

/-- While INTERF is 0 the references are those that the command brings. -/
theorem State.refGains_takeGains (s : State) (ant upper lower x y : Nat) (ha : ant < 2) (hl : s.gn.refGain.length = 4)
    (hi : s.get F.RF_STATUS_INTERF ant = 0) : (s.takeGains ant upper lower x y).refGains ant = (x, y) := by
  have hl' : (s.setGains ant upper lower).gn.refGain.length = 4 := hl
  rw [State.takeGains, State.learnGains, if_neg (by rw [s.get_setGains_off _ _ _ _ _ (by decide), hi]; decide), State.refGains,
    nth_setNth_ne _ _ _ _ _ (by omega), nth_setNth_same _ _ _ _ (by omega), nth_setNth_same _ _ _ _ (by rw [length_setNth]; omega)]

/-- While INTERF is 1 the references stay. -/
theorem State.refGains_takeGains_frozen (s : State) (ant upper lower x y : Nat) (hi : s.get F.RF_STATUS_INTERF ant = 1) :
    (s.takeGains ant upper lower x y).refGains ant = s.refGains ant := by
  rw [State.takeGains, State.learnGains, if_pos (by rw [s.get_setGains_off _ _ _ _ _ (by decide), hi])]
  rfl

/-- Whether a gain stands too low goes by the enables that the state had before. -/
theorem State.gainLow_takeGains (s : State) (ant upper lower x y db : Nat) :
    (s.takeGains ant upper lower x y).gainLow ant upper lower db = true ↔
      s.get F.RF_CFG_UPPER_EN ant = 1 ∧ upper + db < ((s.takeGains ant upper lower x y).refGains ant).1 ∨
        s.get F.RF_CFG_LOWER_EN ant = 1 ∧ lower + db < ((s.takeGains ant upper lower x y).refGains ant).2 := by
  simp [State.gainLow, s.get_takeGains ant upper lower x y _ _ (.inl (by decide : F.RF_CFG_UPPER_EN.off % 0x1000 ≠ 0x304)),
    s.get_takeGains ant upper lower x y _ _ (.inl (by decide : F.RF_CFG_LOWER_EN.off % 0x1000 ≠ 0x304))]

/-! ### Interference (R59) -/

theorem State.get_interfShow (s : State) (F : Fld) (i k : Nat) (h : F.blk ≠ .gnssMeas) : s.interfShow.get F i k = s.get F i k :=
  State.get_set_blk _ _ _ _ _ _ _ _ h

theorem interfSet_sets (s : State) (ant upper lower refUpper refLower : Nat) (ha : ant < 2) (hon : s.isOn .gnssRf ant = true)
    (hdb : s.get F.RF_CFG_INTERF_DB ant ≠ 0) (hi : s.get F.RF_STATUS_INTERF ant = 0) (hl : s.gn.refGain.length = 4)
    (hlow : (s.get F.RF_CFG_UPPER_EN ant = 1 ∧ upper + s.get F.RF_CFG_INTERF_DB ant < refUpper) ∨
      (s.get F.RF_CFG_LOWER_EN ant = 1 ∧ lower + s.get F.RF_CFG_INTERF_DB ant < refLower)) :
    ∃ t, exec (.interfSet ant upper lower refUpper refLower) s = .next t ∧ t.get F.RF_STATUS_INTERF ant = 1 ∧
      t.get F.RF_STATUS_GAIN_UPPER ant = (if s.get F.RF_CFG_UPPER_EN ant = 1 then upper % 2 ^ 8 else 0) ∧
      t.get F.RF_STATUS_GAIN_LOWER ant = (if s.get F.RF_CFG_LOWER_EN ant = 1 then lower % 2 ^ 8 else 0) ∧
      t.irqUp ⟨.gnssRf, ant⟩ I.GNSS_RF_INTERF = true := by
  have hg : (s.takeGains ant upper lower refUpper refLower).gainLow ant upper lower (s.get F.RF_CFG_INTERF_DB ant) = true := by
    rw [State.gainLow_takeGains, s.refGains_takeGains ant upper lower refUpper refLower ha hl hi]
    exact hlow
  have hi' : (s.takeGains ant upper lower refUpper refLower).get F.RF_STATUS_INTERF ant = 0 := by
    rw [s.get_takeGains _ _ _ _ _ _ _ (by decide), hi]
  have keeps := fun (t : State) (F : Fld) h ho => (State.get_interfShow (t.irq (pRF ant) I.GNSS_RF_INTERF) F ant 0 h).trans
    (State.irq_get_off t (pRF ant) I.GNSS_RF_INTERF F ant 0 ho)
  refine ⟨((s.takeGains ant upper lower refUpper refLower).set F.RF_STATUS_INTERF 1 ant |>.irq (pRF ant) I.GNSS_RF_INTERF).interfShow,
    (if_neg (by simp [hon, ha])).trans (if_neg ?_), ?_, ?_, ?_, ?_⟩
  · simp only [not_or, Bool.not_eq_true', Bool.not_eq_false]
    exact ⟨hdb, fun h => absurd (hi'.symm.trans h) (by decide), hg⟩
  · rw [keeps _ _ (by decide) (by decide), State.get_set_same _ _ _ _ _ (by decide)]
    rfl
  · rw [keeps _ _ (by decide) (by decide), State.get_set_off _ _ _ _ _ _ _ _ (by decide) (by decide), State.takeGains, State.get_learnGains,
      State.get_setGains_upper, State.pathGain, apply_ite (· % 2 ^ 8), Nat.zero_mod]
  · rw [keeps _ _ (by decide) (by decide), State.get_set_off _ _ _ _ _ _ _ _ (by decide) (by decide), State.takeGains, State.get_learnGains,
      State.get_setGains_lower, State.pathGain, apply_ite (· % 2 ^ 8), Nat.zero_mod]
  · rw [State.interfShow, State.irqUp_set _ _ _ _ _ _ _ (by decide)]
    exact State.irq_up _ _ _ (by decide)

theorem interfClear_clears (s : State) (ant upper lower refUpper refLower : Nat) (ha : ant < 2) (hon : s.isOn .gnssRf ant = true)
    (hl : s.gn.refGain.length = 4)
    (hin : (s.get F.RF_STATUS_INTERF ant = 0 ∧ refUpper ≤ upper + s.get F.RF_CFG_INTERF_DB ant ∧ refLower ≤ lower + s.get F.RF_CFG_INTERF_DB ant) ∨
      (s.get F.RF_STATUS_INTERF ant = 1 ∧ nth 0 s.gn.refGain (2 * ant) ≤ upper + s.get F.RF_CFG_INTERF_DB ant ∧
        nth 0 s.gn.refGain (2 * ant + 1) ≤ lower + s.get F.RF_CFG_INTERF_DB ant)) :
    ∃ t, exec (.interfClear ant upper lower refUpper refLower) s = .next t ∧ t.get F.RF_STATUS_INTERF ant = 0 := by
  have href : ((s.takeGains ant upper lower refUpper refLower).refGains ant).1 ≤ upper + s.get F.RF_CFG_INTERF_DB ant ∧
      ((s.takeGains ant upper lower refUpper refLower).refGains ant).2 ≤ lower + s.get F.RF_CFG_INTERF_DB ant := by
    rcases hin with ⟨hi, h⟩ | ⟨hi, h⟩
    · rw [s.refGains_takeGains ant upper lower refUpper refLower ha hl hi]
      exact h
    · rw [s.refGains_takeGains_frozen ant upper lower refUpper refLower hi]
      exact h
  obtain ⟨hu, hlo⟩ := href
  have hg : ¬ (s.takeGains ant upper lower refUpper refLower).gainLow ant upper lower (s.get F.RF_CFG_INTERF_DB ant) = true := by
    rw [State.gainLow_takeGains]
    omega
  refine ⟨((s.takeGains ant upper lower refUpper refLower).set F.RF_STATUS_INTERF 0 ant).interfShow,
    (if_neg (by simp [hon, ha])).trans (if_pos ?_), ?_⟩
  · exact congrArg Bool.not (Bool.eq_false_iff.mpr hg)
  · rw [State.get_interfShow _ _ _ _ (by decide), State.get_set_same _ _ _ _ _ (by decide)]
    rfl

/-- Settles O16: ANT_STATE and PWR_EN are read after they are written, through what the two-antenna check leaves alone; whether a gain stands
too low is told of the references that the command brings, or, while INTERF is 1, of those that stand. -/
theorem antennaAndInterference : Obligations.AntennaAndInterference :=
  ⟨antCurrentClassify_short, antCurrentClassify_supplied, antCurrentClassify_off, interfSet_sets, interfClear_clears⟩

end Sys2Proof.Machine
end

section
/-! SUPPORT. Sensing beside its registers: what leaves it alone, the acquisition pass, and the records of the measurement strobe (R61, R66, R67). -/
namespace Sys2Proof.Machine
open Sys2Proof

/-! ### What leaves sensing beside its registers alone -/

/-- Every part but sensing beside its registers. -/
def allButSensing : Touch := { touchAll with gn := false }

/-- What stays inside every frame that has the service level, the free values, DRAM, fleet time, the clocks and every block leaves sensing beside
its registers alone. -/
theorem State.gn_of_frame {s t : State}
    (h : ∀ W : Touch, [W.Level] → [W.Fresh] → [W.Dram] → [W.Tm] → [W.Clk] → [∀ b, W.In b] → t.rest W = s.rest W) : t.gn = s.gn := by
  cases Touch.granting
  have hin (b : Blk) : allButSensing.In b := Touch.in_of_mem (Blk.mem_every b)
  refine State.gn_of_rest (W := allButSensing) ?_ rfl
  dsimp only [allButSensing, touchAll, touchLevel, touchLog] at hin ⊢
  exact h _

@[simp] theorem State.irq_gn (s : State) (p : Page) (n : Nat) : (s.irq p n).gn = s.gn :=
  State.gn_of_frame fun _ _ _ _ _ _ _ => s.irq_rest p n

@[simp] theorem State.sysEvent_gn (s : State) (n : Nat) (p : Page) (a b c : Nat) : (s.sysEvent n p a b c).gn = s.gn :=
  State.gn_of_frame fun _ _ _ _ _ _ _ => s.sysEvent_rest n p a b c

@[simp] theorem State.notice_gn (s : State) (p : Page) (n a1 a2 a0 cell : Nat) : (s.notice p n a1 a2 a0 cell).gn = s.gn :=
  State.gn_of_frame fun _ _ _ _ _ _ _ => s.notice_rest p n a1 a2 a0 cell

@[simp] theorem State.spoofDrops_gn (s : State) : s.spoofDrops.gn = s.gn :=
  State.gn_of_frame fun _ _ _ _ _ _ _ => s.spoofDrops_rest

@[simp] theorem State.recompute_gn (s : State) : s.recompute.gn = s.gn :=
  State.gn_of_frame fun _ _ _ _ _ _ _ => s.recompute_rest

@[simp] theorem State.noteArp_gn (s : State) (e : Epoch) : (s.noteArp e).gn = s.gn :=
  State.gn_of_frame fun _ _ _ _ _ _ _ => s.noteArp_rest e

@[simp] theorem State.baseEffects_gn (s : State) (e : Epoch) : (s.baseEffects e).gn = s.gn :=
  State.gn_of_frame fun _ _ _ _ _ _ _ => s.baseEffects_rest e

@[simp] theorem State.qBytes_gn (s : State) (n : Nat) (l : List Nat) : (s.qBytes n l).gn = s.gn :=
  State.gn_of_frame fun _ _ _ _ _ _ _ => s.qBytes_rest n l

@[simp] theorem State.dramWrite_gn (s : State) (off : Nat) (l : List Nat) : (s.dramWrite off l).gn = s.gn :=
  State.gn_of_frame fun _ _ _ _ _ _ _ => s.dramWrite_rest off l

/-! ### The strobe's and the channels' part of sensing -/

/-- Sensing beside its registers, without what the times of the antennas, the reference antenna, the check and the archive keep there. -/
def State.sense (s : State) : GnssSt :=
  { s.gn with okSince := [], ref := 0, weakSince := none, baseChanged := false, suspects := [], archHead := 0, arch := [], archLoss := false }

theorem State.sense_of_gn {s t : State} (h : t.gn = s.gn) : t.sense = s.sense := by rw [State.sense, h, State.sense]

theorem State.chan_of_sense {s t : State} (h : t.sense = s.sense) (c : Nat) : t.chan c = s.chan c :=
  State.chan_of_gn (show t.sense.chans = s.sense.chans from congrArg GnssSt.chans h) c

section
variable {s t : State} (h : t.sense = s.sense)
include h

theorem State.passAt_of_sense : t.gn.passAt = s.gn.passAt := show t.sense.passAt = s.sense.passAt from congrArg GnssSt.passAt h
theorem State.latched_of_sense : t.gn.latched = s.gn.latched := show t.sense.latched = s.sense.latched from congrArg GnssSt.latched h
theorem State.nextSeq_of_sense : t.gn.nextSeq = s.gn.nextSeq := show t.sense.nextSeq = s.sense.nextSeq from congrArg GnssSt.nextSeq h
theorem State.ring_of_sense : t.gn.ring = s.gn.ring := show t.sense.ring = s.sense.ring from congrArg GnssSt.ring h
theorem State.delivered_of_sense : t.gn.delivered = s.gn.delivered := show t.sense.delivered = s.sense.delivered from congrArg GnssSt.delivered h
theorem State.lastBase_of_sense : t.gn.lastBase = s.gn.lastBase := show t.sense.lastBase = s.sense.lastBase from congrArg GnssSt.lastBase h

end

theorem State.sense_if {c : Prop} [Decidable c] {s t u : State} (ht : t.sense = s.sense) (hu : u.sense = s.sense) :
    (if c then t else u).sense = s.sense := by
  split
  · exact ht
  · exact hu

@[simp] theorem State.sense_set (s : State) (F : Fld) (v i k : Nat) : (s.set F v i k).sense = s.sense := rfl
@[simp] theorem State.sense_irq (s : State) (p : Page) (n : Nat) : (s.irq p n).sense = s.sense := State.sense_of_gn (s.irq_gn p n)
@[simp] theorem State.sense_sysEvent (s : State) (n : Nat) (p : Page) (a b c : Nat) : (s.sysEvent n p a b c).sense = s.sense :=
  State.sense_of_gn (s.sysEvent_gn n p a b c)
@[simp] theorem State.sense_notice (s : State) (p : Page) (n a1 a2 a0 cell : Nat) : (s.notice p n a1 a2 a0 cell).sense = s.sense :=
  State.sense_of_gn (s.notice_gn p n a1 a2 a0 cell)

@[simp] theorem State.sense_spoofDrops (s : State) : s.spoofDrops.sense = s.sense := State.sense_of_gn s.spoofDrops_gn
@[simp] theorem State.sense_recompute (s : State) : s.recompute.sense = s.sense := State.sense_of_gn s.recompute_gn
@[simp] theorem State.sense_noteArp (s : State) (e : Epoch) : (s.noteArp e).sense = s.sense := State.sense_of_gn (s.noteArp_gn e)
@[simp] theorem State.sense_baseEffects (s : State) (e : Epoch) : (s.baseEffects e).sense = s.sense := State.sense_of_gn (s.baseEffects_gn e)
@[simp] theorem State.sense_qBytes (s : State) (n : Nat) (l : List Nat) : (s.qBytes n l).sense = s.sense := State.sense_of_gn (s.qBytes_gn n l)

@[simp] theorem State.sense_setActive (s : State) : s.setActive.sense = s.sense := by
  unfold State.setActive
  exact State.sense_if rfl (State.sense_if (State.sense_sysEvent ..) rfl)

@[simp] theorem State.sense_antTimes (s : State) : s.antTimes.sense = s.sense := State.sense_setActive _

@[simp] theorem State.sense_spoofLatch (s : State) : s.spoofLatch.sense = s.sense := by
  unfold State.spoofLatch
  exact State.sense_if (State.sense_notice ..) rfl

@[simp] theorem State.sense_consist (s : State) (l : List MeasRec) (geom : List SigGeom) : (s.consist l geom).sense = s.sense := by
  unfold State.consist
  exact State.sense_if s.sense_setActive ((State.sense_spoofLatch _).trans s.sense_setActive)

@[simp] theorem State.sense_applyBase (s : State) (l : List (Nat × Nat)) : (s.applyBase l).sense = s.sense := by
  have hw : (s.each l fun s w => if w.1 = F.BASE_CTRL_MODE.addr 0 0 then s.set F.BASE_CTRL_MODE w.2 else s.setReg w.1 w.2).sense = s.sense :=
    State.each_keeps State.sense s l _ fun t w => by split <;> rfl
  unfold State.applyBase
  dsimp only
  rw [State.sense_setActive]
  (repeat' split) <;> exact hw

@[simp] theorem State.sense_switchRef (s : State) (a : Nat) : (s.switchRef a).sense = s.sense := State.sense_irq ..

@[simp] theorem State.sense_hostRef (s : State) (l : List MeasRec) : (s.hostRef l).sense = s.sense := by
  have hauto : (s.autoRef l).sense = s.sense := by
    unfold State.autoRef
    exact State.sense_if (State.sense_switchRef ..) rfl
  unfold State.hostRef
  exact State.sense_if (State.sense_if (State.sense_switchRef ..) rfl) hauto

@[simp] theorem State.sense_archLose (s : State) : s.archLose.sense = s.sense := State.sense_irq ..

@[simp] theorem State.sense_archRoom (s : State) (head need k : Nat) : (s.archRoom head need k).sense = s.sense := by
  induction k generalizing s with
  | zero => rfl
  | succ k ih =>
    unfold State.archRoom
    split
    · rfl
    · split
      · rfl
      · rw [ih, State.sense_archLose]
        rfl

@[simp] theorem State.sense_archPut (s : State) (status : Nat) (payload : List Nat) : (s.archPut status payload).sense = s.sense := by
  unfold State.archPut
  dsimp only
  exact (State.sense_of_gn (State.dramWrite_gn ..)).trans (s.sense_archRoom _ _ _)

@[simp] theorem State.sense_archive (s : State) (payload : List Nat) : (s.archive payload).sense = s.sense := by
  unfold State.archive
  exact State.sense_if s.sense_archLose (State.sense_if ((State.sense_archPut ..).trans s.sense_archLose) (s.sense_archPut _ _))

/-! ### The order of an acquisition pass (R61) -/

theorem insertElev_perm (x : SkySig) (l : List SkySig) : (insertElev x l).Perm (x :: l) := by
  induction l with
  | nil => exact List.Perm.refl _
  | cons y r ih =>
    unfold insertElev
    split
    · exact List.Perm.refl _
    · exact (ih.cons y).trans (List.Perm.swap x y r)

theorem foldr_insertElev_perm (l : List SkySig) : (l.foldr insertElev []).Perm l := by
  induction l with
  | nil => exact List.Perm.refl _
  | cons x r ih => exact (insertElev_perm x _).trans (ih.cons x)

theorem State.each_cons {α : Type} (s : State) (x : α) (l : List α) (f : State → α → State) : s.each (x :: l) f = (f s x).each l f := rfl

/-- What every single update keeps of a property, a repetition keeps. -/
theorem State.each_inv {α : Type} (P : State → Prop) {s : State} {l : List α} {f : State → α → State} (h0 : P s)
    (h : ∀ t, P t → ∀ x ∈ l, P (f t x)) : P (s.each l f) := by
  unfold State.each
  induction l generalizing s with
  | nil => exact h0
  | cons x r ih => exact ih (h s h0 x List.mem_cons_self) fun t ht y hy => h t ht y (List.mem_cons_of_mem x hy)

/-! ### What a pass starts (R61) -/

/-- A channel pulls in, from a given time on, a signal of a list that the search has found. -/
def Chan.pullsIn (h : Chan) (at_ : Nat) (want : List SkySig) : Prop :=
  h.at_ = at_ ∧ ∃ x ∈ want, x.found = true ∧ x.sig = h.sig ∧ x.svid = h.svid

/-- A state that a pass has come to from `s`: the time and the time of the pass are as in `s`, and every channel that it has started pulls in a
found signal of `want`. -/
def State.Passing (s : State) (want : List SkySig) (t : State) : Prop :=
  t.now = s.now ∧ t.gn.passAt = s.gn.passAt ∧ ∀ c, (s.chan c).st ≠ 1 → (t.chan c).st = 1 → (t.chan c).pullsIn s.now want

section
variable {s t : State} {want : List SkySig}

theorem State.Passing.refl (s : State) (want : List SkySig) : s.Passing want s := ⟨rfl, rfl, fun _ h0 h1 => absurd h1 h0⟩

theorem State.Passing.of_chans {u : State} (ht : s.Passing want t) (hn : u.now = t.now) (hp : u.gn.passAt = t.gn.passAt)
    (hc : u.gn.chans = t.gn.chans) : s.Passing want u :=
  ⟨hn.trans ht.1, hp.trans ht.2.1, fun c => by rw [State.chan_of_gn hc]; exact ht.2.2 c⟩

theorem State.Passing.of_sense {u : State} (ht : s.Passing want t) (hn : u.now = t.now) (h : u.sense = t.sense) : s.Passing want u :=
  ht.of_chans hn (State.passAt_of_sense h) (show u.sense.chans = t.sense.chans from congrArg GnssSt.chans h)

theorem State.Passing.set (ht : s.Passing want t) (F : Fld) (v i k : Nat) : s.Passing want (t.set F v i k) := ht.of_chans rfl rfl rfl

/-- A channel is replaced: by one that does not pull in, by one that holds what the channel held, or by one that pulls in a found signal. -/
theorem State.Passing.setChan (ht : s.Passing want t) (c : Nat) (h : Chan)
    (hh : h.st = 1 → { t.chan c with ant := h.ant } = h ∨ h.pullsIn s.now want) : s.Passing want (t.setChan c h) := by
  obtain ⟨hn, hp, hc⟩ := ht
  refine ⟨hn, hp, fun d h0 h1 => ?_⟩
  by_cases hd : d = c
  · subst hd
    rw [State.chan_setChan_same] at h1 ⊢
    rcases hh h1 with he | he
    · rw [← he] at h1 ⊢
      exact hc d h0 h1
    · exact he
  · rw [State.chan_setChan_ne _ _ _ hd] at h1 ⊢
    exact hc d h0 h1

theorem State.Passing.idleChan (ht : s.Passing want t) (c : Nat) : s.Passing want (t.idleChan c) := by
  unfold State.idleChan
  dsimp only
  split
  · exact ht
  · exact (ht.setChan c { ant := (t.chan c).ant } fun h => absurd h Nat.zero_ne_one).set _ _ _ _

theorem State.Passing.moveGroups (ht : s.Passing want t) : s.Passing want t.moveGroups := by
  unfold State.moveGroups
  refine State.each_inv (s.Passing want) (ht.of_chans rfl rfl rfl) fun t1 h1 g _ => ?_
  refine State.each_inv (s.Passing want) (h1.of_chans rfl rfl rfl) fun t2 h2 k _ => ?_
  dsimp only
  split
  · exact h2
  · exact (h2.idleChan _).setChan _ _ fun _ => .inl rfl

theorem State.Passing.passAnt (ht : s.Passing want t) (a : Nat) (sky : List SkySig) : s.Passing want (t.passAnt a sky want).1 := by
  unfold State.passAnt
  dsimp only
  refine State.each_inv (s.Passing want) (State.each_inv (s.Passing want) ht fun t1 h1 c _ => ?_) fun t2 h2 x hx => ?_
  · split
    · exact h1.idleChan c
    · exact h1
  · have hneed := (List.of_mem_zip hx).2
    obtain ⟨htake, hfound⟩ := List.mem_filter.mp hneed
    rw [Bool.and_eq_true] at hfound
    exact h2.setChan _ _ fun _ => .inr ⟨h2.1, x.2, List.mem_of_mem_take htake, hfound.1, rfl, rfl⟩

end

/-! ### The acquisition pass (R61) -/

/-- The signals of the sky that a pass wants a channel for. -/
def State.wanted (s : State) (sky : List SkySig) : List SkySig :=
  sky.filter fun x => bit (s.get F.SIG_EN_SIG) x.sig && decide (s.get F.ALLOC_ELEV_MASK < x.elev) && svidOk x.sig x.svid

/-- The time of a pass is noted. -/
def State.notePass (s : State) : State := { s with gn := { s.gn with passAt := s.now } }

/-- A pass notes its time, and the groups move. -/
def State.beginPass (s : State) : State := s.notePass.antTimes.moveGroups

/-- The pass for both antennas. -/
def State.passBoth (s : State) (sky want : List SkySig) : State := ((s.passAnt 0 sky want).1.passAnt 1 sky want).1

/-- What moving the groups touches. -/
def touchGroups : Touch := { blks := [.gnssTrk], gn := true }

/-- The settings of the acquisition are as before when the groups have moved. -/
theorem State.get_beginPass (s : State) (G : Fld) (h : G.blk = .gnssAcq) : s.beginPass.get G = s.get G := by
  have hgroups : s.beginPass.rest touchGroups = s.notePass.antTimes.rest touchGroups := by
    cases Touch.granting
    dsimp only [touchGroups]
    exact State.moveGroups_rest _
  rw [State.get_of_rest hgroups _ _ _ (by rw [h]; rfl), State.antTimes_get _ _ _ _ (by rw [h]; rfl)]
  rfl

theorem State.wanted_beginPass (s : State) (sky : List SkySig) : s.beginPass.wanted sky = s.wanted sky := by
  rw [State.wanted, State.wanted, s.get_beginPass _ rfl, s.get_beginPass _ rfl]

/-- A pass that is due. -/
theorem execAcqPass_due (s : State) (sky : List SkySig) (hon : s.isOn .gnssAcq = true) (hdue : s.gn.passAt + sec 1 ≤ s.now) :
    ∃ dropped, exec (.acqPass sky) s =
      .next (((s.beginPass.passBoth sky ((s.wanted sky).foldr insertElev [])).set F.ACQ_STATUS_DROPPED dropped).set F.ACQ_STATUS_PENDING
        (min 255 (((s.wanted sky).foldr insertElev []).filter fun x => !x.found).length)) := by
  have hcond : ¬ (¬ s.isOn .gnssAcq = true ∨ s.now < s.gn.passAt + sec 1) := by simp [hon]; omega
  rw [← s.wanted_beginPass, State.passBoth]
  show ∃ dropped, execAcqPass sky s = _
  rw [execAcqPass, if_neg hcond, ← State.notePass, ← State.beginPass]
  dsimp only
  rw [State.wanted]
  exact ⟨_, rfl⟩

/-- What of the wanted signals is still searched for does not depend on their order. -/
theorem State.pending_wanted (s : State) (sky : List SkySig) :
    (((s.wanted sky).foldr insertElev []).filter fun x => !x.found).length =
      (sky.filter fun x => bit (s.get F.SIG_EN_SIG) x.sig && decide (s.get F.ALLOC_ELEV_MASK < x.elev) && svidOk x.sig x.svid && !x.found).length := by
  rw [((foldr_insertElev_perm (s.wanted sky)).filter _).length_eq, State.wanted, List.filter_filter]
  exact congrArg List.length (List.filter_congr fun x _ => Bool.and_comm _ _)

/-- Every channel that a pass starts pulls in a found signal of those it wants. -/
theorem State.passing_passBoth (s : State) (sky want : List SkySig) :
    s.notePass.Passing want (s.beginPass.passBoth sky want) :=
  ((((State.Passing.refl _ want).of_sense (State.now_of_rest (State.antTimes_check _)) (State.sense_antTimes _)).moveGroups).passAnt 0 sky).passAnt
    1 sky

theorem acqPass_starts (s : State) (sky : List SkySig) (hon : s.isOn .gnssAcq = true) (hdue : s.gn.passAt + sec 1 ≤ s.now) :
    ∃ t, exec (.acqPass sky) s = .next t ∧ t.gn.passAt = s.now ∧
      t.get F.ACQ_STATUS_PENDING = min 255 (sky.filter fun x =>
        bit (s.get F.SIG_EN_SIG) x.sig && decide (s.get F.ALLOC_ELEV_MASK < x.elev) && svidOk x.sig x.svid && !x.found).length ∧
      (∀ c ∈ List.range 256, (s.chan c).st ≠ 1 → (t.chan c).st = 1 → (t.chan c).at_ = s.now ∧
        (sky.any fun x => x.found && bit (s.get F.SIG_EN_SIG) x.sig &&
          decide (s.get F.ALLOC_ELEV_MASK < x.elev ∧ x.sig = (t.chan c).sig ∧ x.svid = (t.chan c).svid)) = true) := by
  obtain ⟨dropped, hx⟩ := execAcqPass_due s sky hon hdue
  obtain ⟨-, hpass, hstart⟩ := s.passing_passBoth sky ((s.wanted sky).foldr insertElev [])
  refine ⟨_, hx, ?_, ?_, fun c _ h0 h1 => ?_⟩
  · rw [State.set_gn, State.set_gn]
    exact hpass
  · rw [State.get_set_same _ _ _ _ _ (by decide), s.pending_wanted]
    exact Nat.mod_eq_of_lt (Nat.lt_of_le_of_lt (Nat.min_le_left _ _) (by decide))
  · rw [State.chan_set, State.chan_set] at h1 ⊢
    obtain ⟨hat, x, hx, hfound, hsig, hsvid⟩ := hstart c h0 h1
    refine ⟨hat, List.any_eq_true.mpr ⟨x, ?_⟩⟩
    obtain ⟨hsky, hwant⟩ := List.mem_filter.mp ((foldr_insertElev_perm _).mem_iff.mp hx)
    simp only [Bool.and_eq_true, decide_eq_true_eq] at hwant ⊢
    obtain ⟨⟨hen, hmask⟩, -⟩ := hwant
    exact ⟨hsky, ⟨hfound, hen⟩, hmask, hsig, hsvid⟩

/-! ### The records of a strobe (R67) -/

/-- A channel latches a record: it tracks, and it can be used. -/
def State.latches (s : State) (c : Nat) : Bool := decide ((s.chan c).st = 2) && s.chanLive c

/-- The free values that a latch draws. -/
def touchFresh : Touch := { fresh := true }

theorem State.latches_of_rest {s t : State} (h : t.rest touchFresh = s.rest touchFresh) (c : Nat) : t.latches c = s.latches c := by
  have hc : t.chan c = s.chan c := State.chan_of_gn (congrArg GnssSt.chans (State.gn_of_rest h rfl)) c
  have hl : t.chanLive c = s.chanLive c := by
    rw [State.chanLive, State.isOn, State.st, State.getP_of_rest h _ _ rfl, State.page_of_rest h _ rfl]
    rfl
  rw [State.latches, hc, hl, State.latches]

/-- The record that a channel latches is its own. -/
theorem State.latch1_channel (s : State) (m : MeasIn) (h : s.latches m.channel = true) :
    (s.latch1 m).toList.map (·.channel) = [m.channel] := by
  rw [State.latches, Bool.and_eq_true, decide_eq_true_eq] at h
  unfold State.latch1
  dsimp only
  rw [if_neg (by simp [h])]
  rfl

theorem State.latchOne_channels (meas : List MeasIn) (acc : List MeasRec × State) (c : Nat) :
    (State.latchOne meas acc c).1.map (·.channel) = acc.1.map (·.channel) ++ if acc.2.latches c then [c] else [] := by
  unfold State.latchOne
  dsimp only
  by_cases h : acc.2.latches c = true
  · have h' := h
    rw [State.latches, Bool.and_eq_true, decide_eq_true_eq] at h'
    rw [if_neg (by simp [h']), if_pos h]
    split
    · rename_i m hm
      have hmc : m.channel = c := by simpa using List.find?_some hm
      rw [List.map_append, acc.2.latch1_channel m (by rw [hmc, h]), hmc]
    · have hf : (acc.2.freeMeas c).2.latches (acc.2.freeMeas c).1.channel = true := h
      rw [List.map_append]
      exact congrArg _ (State.latch1_channel _ _ hf)
  · rw [if_pos, if_neg h, List.append_nil]
    rw [State.latches, Bool.and_eq_true, decide_eq_true_eq] at h
    simpa [imp_iff_not_or] using h

theorem State.latchOne_fresh (meas : List MeasIn) (acc : List MeasRec × State) (c : Nat) :
    (State.latchOne meas acc c).2.rest touchFresh = acc.2.rest touchFresh := by
  cases Touch.granting
  dsimp only [touchFresh]
  exact State.latchOne_rest meas acc c

theorem State.foldl_latchOne_channels (meas : List MeasIn) (l : List Nat) (acc : List MeasRec × State) :
    (l.foldl (State.latchOne meas) acc).1.map (·.channel) = acc.1.map (·.channel) ++ l.filter acc.2.latches := by
  induction l generalizing acc with
  | nil => simp
  | cons c r ih =>
    have hr : r.filter (State.latchOne meas acc c).2.latches = r.filter acc.2.latches :=
      List.filter_congr fun d _ => State.latches_of_rest (State.latchOne_fresh meas acc c) d
    rw [List.foldl_cons, ih, hr, State.latchOne_channels, List.append_assoc, List.filter_cons]
    split <;> rfl

/-- The records of a strobe are those of the channels that track, one for each, in ascending order. -/
theorem State.latchAll_channels (s : State) (meas : List MeasIn) :
    (s.latchAll meas).1.map (·.channel) = (List.range 256).filter s.latches :=
  State.foldl_latchOne_channels meas (List.range 256) ([], s)

theorem State.latchAll_gn (s : State) (meas : List MeasIn) : (s.latchAll meas).2.gn = s.gn := by
  cases Touch.granting
  exact State.gn_of_rest (W := { fresh := true }) (s.latchAll_rest meas) rfl

/-- A channel has one record where it latches, and no other. -/
theorem State.latchAll_count (s : State) (meas : List MeasIn) (c : Nat) (hc : c ∈ List.range 256) :
    ((s.latchAll meas).1.filter fun r => r.channel = c).length = if s.latches c then 1 else 0 := by
  have hcount : ((s.latchAll meas).1.filter fun r => decide (r.channel = c)).length = ((s.latchAll meas).1.map (·.channel)).count c := by
    rw [List.count, List.countP_map, List.countP_eq_length_filter]
    rfl
  rw [hcount, s.latchAll_channels, (List.nodup_range.filter _).count]
  simp only [List.mem_filter, hc, true_and]

/-! ### The strobe (R66, R67) -/

/-- CH_STATUS shows the C/N0 of a record, and its channel's slip mark is taken back. -/
def State.recordTaken (s : State) (r : MeasRec) : State :=
  let s := s.set F.CH_STATUS_CN0 (min 255 (r.cn0 / 100)) (r.channel / 16) (r.channel % 16)
  s.setChan r.channel { s.chan r.channel with slip := false }

theorem State.recordTaken_slip_same (s : State) (r : MeasRec) : ((s.recordTaken r).chan r.channel).slip = false := by
  rw [State.recordTaken, State.chan_setChan_same]

theorem State.recordTaken_slip (s : State) (r : MeasRec) (c : Nat) (h : (s.chan c).slip = false) : ((s.recordTaken r).chan c).slip = false := by
  by_cases hc : c = r.channel
  · rw [hc, State.recordTaken_slip_same]
  · rw [State.recordTaken, State.chan_setChan_ne _ _ _ hc, State.chan_set, h]

/-- When the records are taken, no channel that latched one is marked. -/
theorem State.each_recordTaken_slip (s : State) (l : List MeasRec) : ∀ r ∈ l, ((s.each l State.recordTaken).chan r.channel).slip = false := by
  induction l generalizing s with
  | nil => exact fun r hr => absurd hr List.not_mem_nil
  | cons x l ih =>
    intro r hr
    rw [State.each_cons]
    rcases List.mem_cons.mp hr with rfl | hr
    · exact State.each_inv (fun t => (t.chan r.channel).slip = false) (s.recordTaken_slip_same r)
        fun t ht y _ => t.recordTaken_slip y _ ht
    · exact ih (s.recordTaken x) r hr

/-- Sensing beside its registers, without the channels. -/
def GnssSt.sansChans (g : GnssSt) : GnssSt := { g with chans := [] }

section
variable {g g' : GnssSt} (h : g.sansChans = g'.sansChans)
include h

theorem GnssSt.lastStrobe_of_sansChans : g.lastStrobe = g'.lastStrobe :=
  show g.sansChans.lastStrobe = g'.sansChans.lastStrobe from congrArg GnssSt.lastStrobe h
theorem GnssSt.latched_of_sansChans : g.latched = g'.latched :=
  show g.sansChans.latched = g'.sansChans.latched from congrArg GnssSt.latched h
theorem GnssSt.posPend_of_sansChans : g.posPend = g'.posPend :=
  show g.sansChans.posPend = g'.sansChans.posPend from congrArg GnssSt.posPend h

end

theorem State.sansChans_setChan (s : State) (c : Nat) (h : Chan) : (s.setChan c h).gn.sansChans = s.gn.sansChans := by
  rw [State.setChan, State.set_gn, State.set_gn, State.set_gn, State.set_gn]
  rfl

theorem State.sansChans_recordTaken (s : State) (r : MeasRec) : (s.recordTaken r).gn.sansChans = s.gn.sansChans := by
  rw [State.recordTaken, State.sansChans_setChan, State.set_gn]

/-- What the taking of records keeps beside the channels. -/
theorem State.each_recordTaken_keeps (s : State) (l : List MeasRec) : (s.each l State.recordTaken).gn.sansChans = s.gn.sansChans :=
  State.each_keeps (fun t => t.gn.sansChans) s l State.recordTaken State.sansChans_recordTaken

/-- The state in which the records are latched: the base position that waited for the strobe is in force. -/
def State.atStrobe (s : State) : State := s.each s.gn.posPend State.applyBase

theorem State.sense_atStrobe (s : State) : s.atStrobe.sense = s.sense := State.each_keeps State.sense s _ _ State.sense_applyBase

/-- What a strobe leaves before it takes the records: the latched epoch stands, and no base position waits. -/
structure State.Strobed (s : State) (meas : List MeasIn) (t0 : Nat) (u : State) : Prop where
  strobe : u.gn.lastStrobe = t0
  pend : u.gn.posPend = []
  latched : ∃ e, u.gn.latched = some e ∧ e.timeS = t0 / 1000000000 ∧ e.timeNs = t0 % 1000000000 ∧ e.seq = s.gn.nextSeq ∧
    e.recs = (s.atStrobe.latchAll meas).1

theorem execMeasStrobe_due (s : State) (meas : List MeasIn) (t0 : Nat) (hon : s.isOn .gnssMeas = true) (hlock : s.get F.ROOT_STATUS_ROOT_LOCK ≠ 0)
    (ht : t0 = s.fleetNs / ratePeriod s.gn.rate * ratePeriod s.gn.rate) (hlast : s.gn.lastStrobe < t0) :
    ∃ u, exec (.measStrobe meas) s = .next (u.each (s.atStrobe.latchAll meas).1 State.recordTaken) ∧ s.Strobed meas t0 u := by
  have hseq : ((s.atStrobe.latchAll meas).2.hostRef (s.atStrobe.latchAll meas).1).gn.nextSeq = s.gn.nextSeq :=
    State.nextSeq_of_sense ((State.sense_hostRef ..).trans ((State.sense_of_gn (State.latchAll_gn ..)).trans s.sense_atStrobe))
  have hcond : ¬ (¬ s.isOn .gnssMeas = true ∨ t0 ≤ s.gn.lastStrobe ∨ s.get F.ROOT_STATUS_ROOT_LOCK = 0) := by
    simp [hon, hlock]
    omega
  rw [ht] at hcond
  show ∃ u, execMeasStrobe meas s = _ ∧ _
  rw [execMeasStrobe, if_neg hcond, ← ht]
  dsimp only
  rw [← State.atStrobe]
  refine ⟨_, rfl, rfl, rfl, _, rfl, rfl, rfl, hseq, ?_⟩
  dsimp only

theorem measStrobe_latches (s : State) (meas : List MeasIn) (t0 : Nat) (hon : s.isOn .gnssMeas = true) (hlock : s.get F.ROOT_STATUS_ROOT_LOCK ≠ 0)
    (ht : t0 = s.fleetNs / ratePeriod s.gn.rate * ratePeriod s.gn.rate) (hlast : s.gn.lastStrobe < t0) :
    ∃ t, exec (.measStrobe meas) s = .next t ∧ t.gn.lastStrobe = t0 ∧
      t.gn.latched.map (fun e => (e.timeS, e.timeNs, e.seq, e.recs)) = some (t0 / 1000000000, t0 % 1000000000, s.gn.nextSeq, ((s.each s.gn.posPend State.applyBase).latchAll meas).1) ∧
      (∀ c ∈ List.range 256, ((((t.gn.latched.map (·.recs)).getD []).filter fun r => r.channel = c).length =
        if (s.chan c).st = 2 ∧ (s.each s.gn.posPend State.applyBase).chanLive c = true then 1 else 0)) ∧
      (∀ r ∈ (t.gn.latched.map (·.recs)).getD [], (t.chan r.channel).slip = false) ∧ t.gn.posPend = [] := by
  obtain ⟨u, hx, hstrobe, hpend, e, hlatched, hs, hns, hseq, hrecs⟩ := execMeasStrobe_due s meas t0 hon hlock ht hlast
  have keeps := u.each_recordTaken_keeps (s.atStrobe.latchAll meas).1
  have hl : (u.each (s.atStrobe.latchAll meas).1 State.recordTaken).gn.latched = some e := (GnssSt.latched_of_sansChans keeps).trans hlatched
  refine ⟨_, hx, (GnssSt.lastStrobe_of_sansChans keeps).trans hstrobe, ?_, ?_, ?_, (GnssSt.posPend_of_sansChans keeps).trans hpend⟩
  · rw [hl, Option.map_some, hs, hns, hseq, hrecs]
    rfl
  · intro c hc
    have hst : (s.atStrobe.chan c).st = (s.chan c).st := congrArg Chan.st (State.chan_of_sense s.sense_atStrobe c)
    rw [hl, Option.map_some, Option.getD_some, hrecs, s.atStrobe.latchAll_count meas c hc, State.latches, hst]
    simp only [Bool.and_eq_true, decide_eq_true_eq]
    rfl
  · rw [hl, Option.map_some, Option.getD_some, hrecs]
    exact u.each_recordTaken_slip _

end Sys2Proof.Machine
end

section
/-! SUPPORT. The proofs of the completed epoch, the clearing of SPOOF and the self-survey, and with the pass and the strobe that of
`Obligations.MeasurementAndSurvey`. -/
namespace Sys2Proof.Machine
open Sys2Proof

/-! ### What the check leaves of the registers of GNSS_MEAS (R76, R77) -/

theorem State.get_if {c : Prop} [Decidable c] {s t u : State} {G : Fld} {i k : Nat} (ht : t.get G i k = s.get G i k)
    (hu : u.get G i k = s.get G i k) : (if c then t else u).get G i k = s.get G i k := by
  split
  · exact ht
  · exact hu

section
variable (G : Fld) (i k : Nat) (hlog : touchLog.has (some G.blk) = false) (hchk : (G.off + k * G.step) % 0x1000 ≠ 0x364)
  (hirq : (G.off + k * G.step) % 0x1000 ≠ 0x01C)
include hchk

theorem State.get_set_check (s : State) (F : Fld) (v : Nat) (hl : F.lsb + F.width ≤ 32) (hF : F.off = 0x364) :
    (s.set F v).get G i k = s.get G i k :=
  State.get_set_off _ _ _ _ _ _ _ _ hl (.inl (by rw [hF, Nat.zero_mul]; exact hchk))

include hlog

theorem State.get_setActive (s : State) : s.setActive.get G i k = s.get G i k := by
  have hset := fun (t : State) (F : Fld) (v : Nat) => State.get_set_check G i k hchk t F v
  unfold State.setActive
  dsimp only
  refine State.get_if (hset _ _ _ (by decide) rfl) (State.get_if ((State.event_get _ _ _ _ _ _ _ _ _ hlog).trans ?_) ?_) <;>
    exact (hset _ _ _ (by decide) rfl).trans ((hset _ _ _ (by decide) rfl).trans ((hset _ _ _ (by decide) rfl).trans (hset s _ _ (by decide) rfl)))

include hirq

theorem State.get_consist (s : State) (l : List MeasRec) (geom : List SigGeom) : (s.consist l geom).get G i k = s.get G i k := by
  have hset := fun (t : State) (F : Fld) (v : Nat) => State.get_set_check G i k hchk t F v
  have hlatch : ∀ t : State, t.spoofLatch.get G i k = t.get G i k := fun t => by
    unfold State.spoofLatch
    exact State.get_if ((State.notice_get _ _ _ _ _ _ _ _ _ _ hlog hirq).trans (hset _ _ _ (by decide) rfl)) rfl
  have hact := State.get_setActive G i k hlog hchk s
  unfold State.consist
  dsimp only
  exact State.get_if hact ((hlatch _).trans ((hset _ _ _ (by decide) rfl).trans ((hset _ _ _ (by decide) rfl).trans
    ((hset _ _ _ (by decide) rfl).trans hact))))

end

/-! ### The completed epoch (R70, R72) -/

/-- The state in which an epoch is completed: its records are checked. -/
def State.epochChecked (s : State) (e : Epoch) (geom : List SigGeom) : State := (s.consist e.recs geom).spoofDrops

/-- The epoch as it is completed: suspect records are marked, and it says whether it is withheld. -/
def State.completed (s : State) (clkResid : Option Nat) (e : Epoch) : Epoch :=
  let sus := fun (r : MeasRec) => s.gn.suspects.any fun x => x.sus && decide (x.sig = r.signal ∧ x.svid = r.svid)
  let recs := e.recs.map fun r => if sus r then { r with flags := Nat.lor r.flags 64 } else r
  let e := { e with recs := recs, clkResid := clkResid.getD 0x80000000 }
  { e with withheld := s.withheld e }

/-- A completed epoch enters the ring and, where it is not withheld, is delivered. -/
def State.keepEpoch (s : State) (e : Epoch) : State :=
  { s with gn := { s.gn with latched := none, nextSeq := (e.seq + 1) % 2 ^ 32, ring := (s.gn.ring.filter fun x => x.seq % 64 ≠ e.seq % 64) ++ [e],
                             delivered := if e.withheld = 0 then lastN 8 (s.gn.delivered ++ [e]) else s.gn.delivered,
                             lastBase := if e.withheld = 0 then some (e.timeS * 1000000000 + e.timeNs) else s.gn.lastBase } }

/-- What a completed epoch does outside GNSS_MEAS: to the corrections, the integrity status, the archive and the host. -/
def State.spreadEpoch (s : State) (e : Epoch) : State :=
  let s := s.noteArp e
  let s := if e.withheld = 0 then s.baseEffects e else s
  let s := if e.withheld = 0 ∧ s.get F.INTEG_STATUS_BASE_LOST = 1 then (s.set F.INTEG_STATUS_BASE_LOST 0).recompute else s
  let s := if s.get F.MEAS_CFG_ARCHIVE_EN = 1 then s.archive ([1, 0, 0, 0] ++ e.bytes) else s
  if s.get F.MEAS_CFG_HOST_EN = 1 then s.qBytes 19 e.bytes else s

/-- EPOCH_SEQ and IRQ bit EPOCH show a completed epoch, which then spreads. -/
def State.showEpoch (s : State) (e : Epoch) : State := ((s.set F.EPOCH_SEQ e.seq).irq pMEAS I.GNSS_MEAS_EPOCH).spreadEpoch e

theorem execEpochComplete_latched (s : State) (r : Option Nat) (geom : List SigGeom) (e : Epoch) (hl : s.gn.latched = some e) :
    exec (.epochComplete r geom) s =
      .next (((s.epochChecked e geom).keepEpoch ((s.epochChecked e geom).completed r e)).showEpoch ((s.epochChecked e geom).completed r e)) := by
  show execEpochComplete r geom s = _
  rw [execEpochComplete, hl]
  rfl

/-- What the spreading of an epoch touches. -/
def touchSpread : Touch := { touchLevel with blks := [.dram] ++ touchLevel.blks, dram := true, gn := true, clk := true }

theorem State.spreadEpoch_rest (s : State) (e : Epoch) : (s.spreadEpoch e).rest touchSpread = s.rest touchSpread := by
  cases Touch.granting
  dsimp only [touchSpread, touchLevel, touchLog, List.cons_append, List.nil_append]
  unfold State.spreadEpoch
  simp only [apply_ite (State.rest _), State.qBytes_rest, State.archive_rest, State.recompute_rest, State.set_rest, State.baseEffects_rest,
    State.noteArp_rest, ite_self]

theorem State.sense_spreadEpoch (s : State) (e : Epoch) : (s.spreadEpoch e).sense = s.sense := by
  unfold State.spreadEpoch
  simp only [apply_ite State.sense, State.sense_qBytes, State.sense_archive, State.sense_recompute, State.sense_set, State.sense_baseEffects,
    State.sense_noteArp, ite_self]

theorem State.sense_showEpoch (s : State) (e : Epoch) : (s.showEpoch e).sense = s.sense :=
  (State.sense_spreadEpoch ..).trans (State.sense_irq ..)

theorem State.showEpoch_shows (s : State) (e : Epoch) (h : e.seq < 2 ^ 32) :
    (s.showEpoch e).get F.EPOCH_SEQ = e.seq ∧ (s.showEpoch e).irqUp ⟨.gnssMeas, 0⟩ I.GNSS_MEAS_EPOCH = true := by
  have hspread := State.spreadEpoch_rest ((s.set F.EPOCH_SEQ e.seq).irq pMEAS I.GNSS_MEAS_EPOCH) e
  constructor
  · rw [State.showEpoch, State.get_of_rest hspread _ _ _ rfl, State.irq_get_off _ _ _ _ _ _ (by decide), State.get_set_same _ _ _ _ _ (by decide)]
    exact Nat.mod_eq_of_lt h
  · exact (congrArg (bit · I.GNSS_MEAS_EPOCH) (State.reg_of_rest hspread ⟨.gnssMeas, 0⟩ 0x01C rfl)).trans (State.irq_up _ _ _ (by decide))

theorem State.sense_epochChecked (s : State) (e : Epoch) (geom : List SigGeom) : (s.epochChecked e geom).sense = s.sense :=
  (State.sense_spoofDrops _).trans (State.sense_consist ..)

/-- The last epoch of the ring is the one that was completed. -/
theorem State.keepEpoch_last (s u : State) (e : Epoch) (h : u.sense = (s.keepEpoch e).sense) : u.gn.ring.getLast? = some e := by
  rw [State.ring_of_sense h]
  exact List.getLast?_concat

theorem epochComplete_shows (s : State) (r : Option Nat) (geom : List SigGeom) (e : Epoch) (hl : s.gn.latched = some e) (hseq : e.seq < 2 ^ 32) :
    ∃ t, exec (.epochComplete r geom) s = .next t ∧ t.gn.latched = none ∧ t.gn.nextSeq = (e.seq + 1) % 2 ^ 32 ∧ t.get F.EPOCH_SEQ = e.seq ∧
      t.irqUp ⟨.gnssMeas, 0⟩ I.GNSS_MEAS_EPOCH = true ∧ t.gn.ring.getLast?.map (·.seq) = some e.seq ∧
      t.gn.ring.getLast?.map (·.clkResid) = some (r.getD 0x80000000) ∧
      t.gn.delivered = (if t.gn.ring.getLast?.map (·.withheld) = some 0 then lastN 8 (s.gn.delivered ++ t.gn.ring.getLast?.toList) else s.gn.delivered) := by
  have hx := execEpochComplete_latched s r geom e hl
  have hold := State.delivered_of_sense (s.sense_epochChecked e geom)
  generalize s.epochChecked e geom = u at hx hold
  have hdone : (u.completed r e).seq = e.seq ∧ (u.completed r e).clkResid = r.getD 0x80000000 := ⟨rfl, rfl⟩
  generalize u.completed r e = d at hx hdone
  obtain ⟨hd, hclk⟩ := hdone
  have hs := (u.keepEpoch d).sense_showEpoch d
  obtain ⟨hget, hirq⟩ := (u.keepEpoch d).showEpoch_shows d (hd ▸ hseq)
  refine ⟨_, hx, State.latched_of_sense hs, ?_, hget.trans hd, hirq, ?_⟩
  · rw [State.nextSeq_of_sense hs, ← hd]
    rfl
  · rw [State.keepEpoch_last _ _ _ hs, Option.map_some, Option.map_some, Option.map_some, hd, hclk, State.delivered_of_sense hs, ← hold]
    refine ⟨rfl, rfl, ?_⟩
    simp only [Option.some.injEq, Option.toList_some]
    rfl

/-- While BASE_VALID is 0 an epoch is withheld. -/
theorem State.completed_withheld (s : State) (r : Option Nat) (e : Epoch) (h : s.get F.BASE_CTRL_BASE_VALID = 0) :
    (s.completed r e).withheld = 1 := if_pos h

/-- What the drop of a time source touches. -/
def touchDrops : Touch := { touchLevel with blks := [.time] ++ touchLevel.blks, fresh := true, tm := true }

theorem State.epochChecked_baseValid (s : State) (e : Epoch) (geom : List SigGeom) :
    (s.epochChecked e geom).get F.BASE_CTRL_BASE_VALID = s.get F.BASE_CTRL_BASE_VALID := by
  have hdrops : (s.epochChecked e geom).rest touchDrops = (s.consist e.recs geom).rest touchDrops := by
    cases Touch.granting
    dsimp only [touchDrops, touchLevel, touchLog, List.cons_append, List.nil_append]
    exact State.spoofDrops_rest _
  rw [State.get_of_rest hdrops _ _ _ rfl, State.get_consist _ _ _ rfl (by decide) (by decide)]

theorem epochComplete_withheld (s : State) (r : Option Nat) (geom : List SigGeom) (e : Epoch) (hl : s.gn.latched = some e)
    (hbase : s.get F.BASE_CTRL_BASE_VALID = 0) :
    ∃ t, exec (.epochComplete r geom) s = .next t ∧ t.gn.ring.getLast?.map (·.withheld) = some 1 ∧ t.gn.delivered = s.gn.delivered ∧
      t.gn.lastBase = s.gn.lastBase := by
  have hx := execEpochComplete_latched s r geom e hl
  have hold := s.sense_epochChecked e geom
  have hd := State.completed_withheld (s.epochChecked e geom) r e ((s.epochChecked_baseValid e geom).trans hbase)
  generalize s.epochChecked e geom = u at hx hold hd
  generalize u.completed r e = d at hx hd
  have hs := (u.keepEpoch d).sense_showEpoch d
  have hw : d.withheld ≠ 0 := by omega
  refine ⟨_, hx, ?_, ?_, ?_⟩
  · rw [State.keepEpoch_last _ _ _ hs, Option.map_some, hd]
  · rw [State.delivered_of_sense hs, ← State.delivered_of_sense hold]
    exact if_neg hw
  · rw [State.lastBase_of_sense hs, ← State.lastBase_of_sense hold]
    exact if_neg hw

/-! ### The clearing of SPOOF (R77) -/

theorem spoofClear_clears (s : State) (h : s.get F.CONSIST_STATUS_SPOOF_NOW = 0) :
    ∃ t, exec .spoofClear s = .next t ∧ t.get F.CONSIST_STATUS_SPOOF = 0 :=
  ⟨_, congrArg Host.Outcome.next (if_neg (by omega)), State.get_set_same _ _ _ _ _ (by decide)⟩

theorem spoofClear_ignored (s : State) (h : s.get F.CONSIST_STATUS_SPOOF_NOW = 1) : exec .spoofClear s = .next s :=
  congrArg Host.Outcome.next (if_pos h)

/-! ### The self-survey (R74) -/

theorem surveyStart_runs (s : State) (hmode : s.get F.BASE_CTRL_MODE = 2) (hst : s.get F.BASE_CTRL_SURVEY_STATE ≠ 1) :
    ∃ t, exec .surveyStart s = .next t ∧ t.get F.BASE_CTRL_SURVEY_STATE = 1 ∧ t.get F.SURVEY_ELAPSED = 0 ∧ t.gn.svN = 0 ∧ t.gn.svAt = s.now ∧
      t.gn.svSum = [0, 0, 0] := by
  refine ⟨_, congrArg Host.Outcome.next (if_neg (by simp [hmode, hst])), ?_, ?_, ?_⟩
  · rw [State.get_set_off _ _ _ _ _ _ _ _ (by decide) (by decide), State.get_set_off _ _ _ _ _ _ _ _ (by decide) (by decide),
      State.get_set_same _ _ _ _ _ (by decide)]
    rfl
  · rw [State.get_set_off _ _ _ _ _ _ _ _ (by decide) (by decide), State.get_set_same _ _ _ _ _ (by decide)]
    rfl
  · rw [State.set_gn, State.set_gn, State.set_gn]
    exact ⟨rfl, rfl, rfl⟩

/-- The registers of the survey's own progress are ELAPSED and SIGMA_NOW. -/
theorem State.get_surveyAdd (s : State) (p : List Int) (G : Fld) (h : G.step = 0) (ho : G.off % 0x1000 ≠ 0x34C ∧ G.off % 0x1000 ≠ 0x350) :
    (s.surveyAdd p).get G = s.get G := by
  unfold State.surveyAdd
  dsimp only
  rw [State.get_set_off _ _ _ _ _ _ _ _ (by decide) (.inl (by rw [h]; exact ho.2)),
    State.get_set_off _ _ _ _ _ _ _ _ (by decide) (.inl (by rw [h]; exact ho.1))]
  rfl

theorem State.get_surveyAdd_elapsed (s : State) (p : List Int) : (s.surveyAdd p).get F.SURVEY_ELAPSED = (s.gn.svN + 1) % 2 ^ 32 := by
  unfold State.surveyAdd
  dsimp only
  rw [State.get_set_off _ _ _ _ _ _ _ _ (by decide) (by decide), State.get_set_same _ _ _ _ _ (by decide)]

/-- The second of a survey is noted. -/
def State.noteSecond (s : State) : State := { s with gn := { s.gn with svSecond := s.fleetSec } }

theorem State.get_surveyAdd_sigma (s : State) (p : List Int) :
    (s.noteSecond.surveyAdd p).get F.SURVEY_SIGMA_NOW = (s.surveyAdd p).get F.SURVEY_SIGMA_NOW := by
  unfold State.surveyAdd
  dsimp only
  rw [State.get_set_same _ _ _ _ _ (by decide), State.get_set_same _ _ _ _ _ (by decide)]
  rfl

theorem State.surveyAdd_svN (s : State) (p : List Int) : (s.surveyAdd p).gn.svN = s.gn.svN + 1 := rfl

/-- An axis of the sum takes the axis of the position. -/
theorem State.surveyAdd_svSum (s : State) (p : List Int) (i : Nat) (hi : i < 3) (hs : s.gn.svSum.length = 3) (hp : p.length = 3) :
    nth 0 (s.surveyAdd p).gn.svSum i = nth 0 s.gn.svSum i + nth 0 p i := by
  have hadd : (s.surveyAdd p).gn.svSum = (s.gn.svSum.zip p).map fun a => a.1 + a.2 := rfl
  rw [hadd]
  obtain ⟨a, b, c, ha⟩ := List.length_eq_three.mp hs
  obtain ⟨x, y, z, hx⟩ := List.length_eq_three.mp hp
  rw [ha, hx]
  interval_cases i <;> rfl

theorem State.toAnt0_length (s : State) (x y z : Int) : (s.toAnt0 [x, y, z]).length = 3 := by
  unfold State.toAnt0
  split <;> simp

/-- A second of a running survey whose epoch carries neither SPOOF nor INTERF. -/
theorem execSurveySecond_accepted (s : State) (x y z : Int) (hrun : s.get F.BASE_CTRL_SURVEY_STATE = 1) (hnew : s.gn.svSecond < s.fleetSec)
    (hgood : ∀ e ∈ s.gn.ring.getLast?, bit e.hflags 6 = false ∧ bit e.hflags 7 = false) :
    exec (.surveySecond x y z) s = .next (
      if s.get F.SURVEY_MIN_DUR ≤ s.gn.svN + 1 ∧ (s.surveyAdd (s.toAnt0 [x, y, z])).get F.SURVEY_SIGMA_NOW ≤ s.get F.SURVEY_SIGMA then
        (s.noteSecond.surveyAdd (s.toAnt0 [x, y, z])).surveyDone
      else s.noteSecond.surveyAdd (s.toAnt0 [x, y, z])) := by
  have hmin : (s.noteSecond.surveyAdd (s.toAnt0 [x, y, z])).get F.SURVEY_MIN_DUR = s.get F.SURVEY_MIN_DUR :=
    State.get_surveyAdd _ _ _ rfl (by decide)
  have hsigma : (s.noteSecond.surveyAdd (s.toAnt0 [x, y, z])).get F.SURVEY_SIGMA = s.get F.SURVEY_SIGMA :=
    State.get_surveyAdd _ _ _ rfl (by decide)
  have hcond : ¬ (s.get F.BASE_CTRL_SURVEY_STATE ≠ 1 ∨ s.fleetSec ≤ s.gn.svSecond) := by omega
  rw [← s.get_surveyAdd_sigma, ← hmin, ← hsigma]
  show execSurveySecond x y z s = _
  rw [execSurveySecond, if_neg hcond]
  dsimp only
  rw [if_neg]
  · rfl
  · cases hlast : s.gn.ring.getLast? with
    | none => simp
    | some e =>
      obtain ⟨h6, h7⟩ := hgood e hlast
      simp [h6, h7]

theorem surveySecond_counts (s : State) (x y z : Int) (hrun : s.get F.BASE_CTRL_SURVEY_STATE = 1) (hnew : s.gn.svSecond < s.fleetSec)
    (hgood : ∀ e ∈ s.gn.ring.getLast?, bit e.hflags 6 = false ∧ bit e.hflags 7 = false) (hmin : s.gn.svN + 1 < s.get F.SURVEY_MIN_DUR) :
    ∃ t, exec (.surveySecond x y z) s = .next t ∧ t.gn.svN = s.gn.svN + 1 ∧ t.get F.SURVEY_ELAPSED = (s.gn.svN + 1) % 2 ^ 32 ∧
      t.gn.svSecond = s.fleetSec ∧ t.get F.BASE_CTRL_SURVEY_STATE = 1 ∧ t.get F.BASE_CTRL_BASE_VALID = s.get F.BASE_CTRL_BASE_VALID := by
  have hx := execSurveySecond_accepted s x y z hrun hnew hgood
  rw [if_neg (by omega)] at hx
  refine ⟨_, hx, rfl, State.get_surveyAdd_elapsed .., rfl, ?_, ?_⟩
  · exact (State.get_surveyAdd _ _ _ rfl (by decide)).trans hrun
  · exact State.get_surveyAdd _ _ _ rfl (by decide)

/-- The words of a 64-bit two's-complement value. -/
theorem trunc_words (x : Int) : trunc x 64 % 2 ^ 32 = (x % 2 ^ 32).toNat ∧ trunc x 64 / 2 ^ 32 % 2 ^ 32 = (x / 2 ^ 32 % 2 ^ 32).toNat := by
  unfold trunc
  norm_num
  omega

/-- The low word of the pair of registers that a 64-bit value was written to. -/
theorem State.get_setI64_lo (s : State) (lo hi : Fld) (x : Int) (hlo : lo.lsb + lo.width ≤ 32) (hw : lo.width = 32) (hhi : hi.lsb + hi.width ≤ 32)
    (h : (lo.off + 0 * lo.step) % 0x1000 ≠ (hi.off + 0 * hi.step) % 0x1000) : (s.setI64 lo hi x).get lo = (x % 2 ^ 32).toNat := by
  rw [State.setI64, State.set64, State.get_set_off _ _ _ _ _ _ _ _ hhi (.inl h), State.get_set_same _ _ _ _ _ hlo, hw, Nat.mod_mod]
  exact (trunc_words x).1

theorem State.get_setI64_hi (s : State) (lo hi : Fld) (x : Int) (hw : hi.width = 32) (hhi : hi.lsb + hi.width ≤ 32) :
    (s.setI64 lo hi x).get hi = (x / 2 ^ 32 % 2 ^ 32).toNat := by
  rw [State.setI64, State.set64, State.get_set_same _ _ _ _ _ hhi, hw]
  exact (trunc_words x).2

theorem State.get_setI64_off (s : State) (lo hi : Fld) (x : Int) (G : Fld) (hlo : lo.lsb + lo.width ≤ 32) (hhi : hi.lsb + hi.width ≤ 32)
    (h : (G.off + 0 * G.step) % 0x1000 ≠ (lo.off + 0 * lo.step) % 0x1000 ∧ (G.off + 0 * G.step) % 0x1000 ≠ (hi.off + 0 * hi.step) % 0x1000) :
    (s.setI64 lo hi x).get G = s.get G := by
  rw [State.setI64, State.set64, State.get_set_off _ _ _ _ _ _ _ _ hhi (.inl h.2), State.get_set_off _ _ _ _ _ _ _ _ hlo (.inl h.1)]

/-- The mean of an axis of the survey. -/
def State.surveyMean (s : State) (i : Nat) : Int := nth 0 s.gn.svSum i / (s.gn.svN : Int)

/-- The mean of a converged survey stands in the base position. -/
def State.meanStored (s : State) : State :=
  ((s.setI64 F.BASE_POS_X_LO F.BASE_POS_X_HI (s.surveyMean 0)).setI64 F.BASE_POS_Y_LO F.BASE_POS_Y_HI (s.surveyMean 1)).setI64
    F.BASE_POS_Z_LO F.BASE_POS_Z_HI (s.surveyMean 2)

theorem State.surveyDone_eq (s : State) : s.surveyDone =
    ((({ s.meanStored with gn := { s.meanStored.gn with baseChanged := true } } : State).set F.BASE_CTRL_BASE_VALID 1).set
      F.BASE_CTRL_SURVEY_STATE 2).notice pMEAS I.GNSS_MEAS_SURVEY_DONE := rfl

theorem State.get_surveyDone (s : State) (G : Fld) (hlog : touchLog.has (some G.blk) = false)
    (ho : (G.off + 0 * G.step) % 0x1000 ≠ 0x308 ∧ (G.off + 0 * G.step) % 0x1000 ≠ 0x01C) : s.surveyDone.get G = s.meanStored.get G := by
  rw [State.surveyDone_eq, State.notice_get _ _ _ _ _ _ _ _ _ _ hlog ho.2, State.get_set_off _ _ _ _ _ _ _ _ (by decide) (.inl ho.1),
    State.get_set_off _ _ _ _ _ _ _ _ (by decide) (.inl ho.1)]
  rfl

theorem State.surveyDone_ctrl (s : State) : s.surveyDone.get F.BASE_CTRL_SURVEY_STATE = 2 ∧ s.surveyDone.get F.BASE_CTRL_BASE_VALID = 1 ∧
    s.surveyDone.gn.baseChanged = true := by
  rw [State.surveyDone_eq, State.notice_get _ _ _ _ _ _ _ _ _ _ rfl (by decide), State.notice_get _ _ _ _ _ _ _ _ _ _ rfl (by decide),
    State.notice_gn, State.get_set_same _ _ _ _ _ (by decide), State.get_set_off _ _ _ _ _ _ _ _ (by decide) (by decide),
    State.get_set_same _ _ _ _ _ (by decide)]
  exact ⟨rfl, rfl, rfl⟩

theorem State.surveyDone_pos (s : State) : s.surveyDone.get F.BASE_POS_X_LO = (s.surveyMean 0 % 2 ^ 32).toNat ∧
    s.surveyDone.get F.BASE_POS_Z_HI = (s.surveyMean 2 / 2 ^ 32 % 2 ^ 32).toNat := by
  rw [State.get_surveyDone _ _ rfl (by decide), State.get_surveyDone _ _ rfl (by decide), State.meanStored,
    State.get_setI64_hi _ _ _ _ rfl (by decide), State.get_setI64_off _ _ _ _ _ (by decide) (by decide) (by decide),
    State.get_setI64_off _ _ _ _ _ (by decide) (by decide) (by decide), State.get_setI64_lo _ _ _ _ (by decide) rfl (by decide) (by decide)]
  exact ⟨rfl, rfl⟩

theorem surveySecond_converges (s : State) (x y z : Int) (hrun : s.get F.BASE_CTRL_SURVEY_STATE = 1) (hnew : s.gn.svSecond < s.fleetSec)
    (hgood : ∀ e ∈ s.gn.ring.getLast?, bit e.hflags 6 = false ∧ bit e.hflags 7 = false) (hmin : s.get F.SURVEY_MIN_DUR ≤ s.gn.svN + 1)
    (hsig : (s.surveyAdd (s.toAnt0 [x, y, z])).get F.SURVEY_SIGMA_NOW ≤ s.get F.SURVEY_SIGMA) (hsum : s.gn.svSum.length = 3) :
    ∃ t, exec (.surveySecond x y z) s = .next t ∧ t.get F.BASE_CTRL_SURVEY_STATE = 2 ∧ t.get F.BASE_CTRL_BASE_VALID = 1 ∧ t.gn.baseChanged = true ∧
      t.get F.BASE_POS_X_LO = (((nth 0 s.gn.svSum 0 + nth 0 (s.toAnt0 [x, y, z]) 0) / (s.gn.svN + 1)) % 2 ^ 32).toNat ∧
      t.get F.BASE_POS_Z_HI = (((nth 0 s.gn.svSum 2 + nth 0 (s.toAnt0 [x, y, z]) 2) / (s.gn.svN + 1)) / 2 ^ 32 % 2 ^ 32).toNat := by
  have hx := execSurveySecond_accepted s x y z hrun hnew hgood
  rw [if_pos ⟨hmin, hsig⟩] at hx
  have hmean : ∀ i < 3, (s.noteSecond.surveyAdd (s.toAnt0 [x, y, z])).surveyMean i =
      (nth 0 s.gn.svSum i + nth 0 (s.toAnt0 [x, y, z]) i) / (s.gn.svN + 1) := fun i hi => by
    rw [State.surveyMean, s.noteSecond.surveyAdd_svSum _ i hi hsum (s.toAnt0_length x y z), State.surveyAdd_svN, Nat.cast_succ]
    rfl
  obtain ⟨hst, hvalid, hchanged⟩ := (s.noteSecond.surveyAdd (s.toAnt0 [x, y, z])).surveyDone_ctrl
  obtain ⟨hxlo, hzhi⟩ := (s.noteSecond.surveyAdd (s.toAnt0 [x, y, z])).surveyDone_pos
  rw [hmean 0 (by decide)] at hxlo
  rw [hmean 2 (by decide)] at hzhi
  exact ⟨_, hx, hst, hvalid, hchanged, hxlo, hzhi⟩

theorem surveyTimeout_fails (s : State) (hrun : s.get F.BASE_CTRL_SURVEY_STATE = 1)
    (hlate : s.gn.svAt + sec (s.get F.SURVEY_MAX_DUR) ≤ s.now) :
    ∃ t, exec .surveyTimeout s = .next t ∧ t.get F.BASE_CTRL_SURVEY_STATE = 3 ∧ t.get F.BASE_CTRL_BASE_VALID = 0 ∧
      t.irqUp ⟨.gnssMeas, 0⟩ I.GNSS_MEAS_SURVEY_DONE = true := by
  refine ⟨_, if_neg (by omega), ?_, ?_, State.irq_up _ _ _ (by decide)⟩
  · rw [State.irq_get_off _ _ _ _ _ _ (by decide), State.get_set_off _ _ _ _ _ _ _ _ (by decide) (by decide),
      State.get_set_same _ _ _ _ _ (by decide)]
    rfl
  · rw [State.irq_get_off _ _ _ _ _ _ (by decide), State.get_set_same _ _ _ _ _ (by decide)]
    rfl

/-- Settles O18: a pass keeps `State.Passing` step by step, a strobe's records are those of the channels that latch (`State.latchAll_channels`),
and what follows an epoch's entry into the ring leaves `State.sense` alone. -/
theorem measurementAndSurvey : Obligations.MeasurementAndSurvey :=
  ⟨acqPass_starts, measStrobe_latches, epochComplete_shows, epochComplete_withheld, spoofClear_clears, spoofClear_ignored, surveyStart_runs,
    surveySecond_counts, surveySecond_converges, surveyTimeout_fails⟩

end Sys2Proof.Machine
end

section
/-! SUPPORT. The proofs of the sources of fleet time (`Obligations.FleetTimeSources`), and the refutation of
`Obligations.ReadOfTimeLatchesForItsSource`. -/
namespace Sys2Proof.Machine
open Sys2Proof

/-! ### What a read of NOW_NS latches (R81) -/

/-- With the seconds a read marks, under the address of NOW_NS, that its source has latched them (R80). -/
theorem State.nowRead_mark (s : State) (src : Src) :
    AMap.get (fun _ => (0 : Word)) (s.nowRead src).2.latch (latchKey src (F.NOW_NS.addr 0 0)) = 1 := by
  have hne : latchKey src (F.NOW_NS.addr 0 0) ≠ latchKey src (F.NOW_S_HI.addr 0 0) := Nat.add_left_cancel_iff.not.mpr (by decide)
  exact (AMap.get_set_ne _ _ _ _ _ hne).trans (AMap.get_set_same ..)

/-- Refutes O9: beside the two words of the seconds the read keeps a mark for its source, under the address of NOW_NS. After reset, where nothing is
latched yet, a read by the host takes that mark from 0 to 1, and the statement says that no other latched word changes. -/
theorem not_readOfTimeLatchesForItsSource : ¬ Obligations.ReadOfTimeLatchesForItsSource := by
  intro h
  obtain ⟨t, ht, -, -, -, hkeep, -⟩ := h .host State.reset rfl
  obtain rfl : (State.reset.nowRead .host).2.emit (.readData .host (State.reset.nowRead .host).1) = t := by
    injection ht
  have hmark := hkeep (latchKey .host (F.NOW_NS.addr 0 0)) (by decide) (by decide)
  rw [State.emit_latch, State.nowRead_mark] at hmark
  exact absurd hmark (by decide)

/-! ### Lists with one element replaced -/

theorem nth_of_length_le {α : Type} (d : α) (l : List α) (i : Nat) (h : l.length ≤ i) : nth d l i = d := by
  induction l generalizing i with
  | nil => rfl
  | cons x r ih => cases i with
    | zero => exact absurd h (Nat.not_succ_le_zero _)
    | succ i => exact ih i (Nat.le_of_succ_le_succ h)

/-- An element that is not the default one stands in the list. -/
theorem lt_length_of_nth {α : Type} {d : α} {l : List α} {i : Nat} (h : nth d l i ≠ d) : i < l.length :=
  Nat.lt_of_not_le fun hle => h (nth_of_length_le d l i hle)

theorem nth_setNth_default {α : Type} (d : α) (l : List α) (i : Nat) : nth d (setNth l i d) i = d := by
  by_cases h : i < l.length
  · exact nth_setNth_same d l i d h
  · exact nth_of_length_le d _ i (by rw [length_setNth]; omega)

/-- A largest element to which the one it starts from is put once more. -/
theorem foldl_max_append_self (l : List Nat) (a : Nat) : (l ++ [a]).foldl max a = l.foldl max a := by
  have hle : ∀ (l : List Nat) (a : Nat), a ≤ l.foldl max a := fun l => by
    induction l with
    | nil => exact Nat.le_refl
    | cons x r ih => exact fun a => (Nat.le_max_left a x).trans (ih _)
  rw [List.foldl_append]
  exact Nat.max_eq_left (hle l a)

/-! ### What leaves fleet time alone -/

/-- What a record, or an interrupt of TIME, touches. -/
def touchTimeLog : Touch := { touchLog with blks := [.time] ++ touchLog.blks }

theorem State.notice_timeLog (s : State) (n a1 a2 a0 cell : Nat) : (s.notice pTIME n a1 a2 a0 cell).rest touchTimeLog = s.rest touchTimeLog := by
  cases Touch.granting
  dsimp only [touchTimeLog, touchLog, List.cons_append, List.nil_append]
  exact s.notice_rest pTIME n a1 a2 a0 cell

theorem State.irq_timeLog (s : State) (n : Nat) : (s.irq pTIME n).rest touchTimeLog = s.rest touchTimeLog := by
  cases Touch.granting
  dsimp only [touchTimeLog, touchLog, List.cons_append, List.nil_append]
  exact s.irq_rest pTIME n

theorem State.recompute_level (s : State) : s.recompute.rest touchLevel = s.rest touchLevel := by
  cases Touch.granting
  dsimp only [touchLevel, touchLog, List.cons_append, List.nil_append]
  exact s.recompute_rest

/-- A field of TIME outside IRQ_STATUS, through an interrupt of TIME and a new level. -/
theorem State.get_irq_recompute (s : State) (n : Nat) (G : Fld) (hlev : touchLevel.has (some G.blk) = false)
    (hirq : (G.off + 0 * G.step) % 0x1000 ≠ 0x01C) : (s.irq pTIME n).recompute.get G = s.get G :=
  (State.get_of_rest (State.recompute_level _) G 0 0 hlev).trans (s.irq_get_off pTIME n G 0 0 hirq)

/-! ### The slews (R84) -/

theorem State.get_endSlew (s : State) (G : Fld) (hadj : (G.off + 0 * G.step) % 0x1000 ≠ 0x324)
    (hslew : (G.off + 0 * G.step) % 0x1000 ≠ 0x30C ∨ G.lsb + G.width ≤ 6 ∨ 7 ≤ G.lsb) : s.endSlew.get G = s.get G :=
  (State.get_set_off _ _ _ _ _ G 0 0 (by decide) hslew).trans (State.get_set_off _ F.FREQ_ADJ _ _ _ G 0 0 (by decide) (.inl hadj))

theorem State.get_endSlew_slewing (s : State) : s.endSlew.get F.TIME_STATUS_SLEWING = 0 := State.get_set_same _ _ _ _ _ (by decide)

theorem State.get_endSlew_freqAdj (s : State) : s.endSlew.get F.FREQ_ADJ = satInt s.tm.freq 32 % 2 ^ 32 :=
  (State.get_set_off _ F.TIME_STATUS_SLEWING _ _ _ _ _ _ (by decide) (by decide)).trans (State.get_set_same _ _ _ _ _ (by decide))

theorem State.get_acceptE (s : State) (e : Int) (rate : Nat) (G : Fld) (hadj : (G.off + 0 * G.step) % 0x1000 ≠ 0x324)
    (hslew : (G.off + 0 * G.step) % 0x1000 ≠ 0x30C ∨ G.lsb + G.width ≤ 6 ∨ 7 ≤ G.lsb)
    (hgap : (G.off + 0 * G.step) % 0x1000 ≠ 0x30C ∨ G.lsb + G.width ≤ 25 ∨ 26 ≤ G.lsb) : (s.acceptE e rate).get G = s.get G :=
  (State.get_set_off _ F.TIME_STATUS_SLEWING _ _ _ G 0 0 (by decide) hslew).trans
    ((State.get_set_off _ F.FREQ_ADJ _ _ _ G 0 0 (by decide) (.inl hadj)).trans
      (State.get_set_off _ F.TIME_STATUS_GAP_ALLOW _ _ _ G 0 0 (by decide) hgap))

theorem State.get_acceptE_gapAllow (s : State) (e : Int) (rate : Nat) : (s.acceptE e rate).get F.TIME_STATUS_GAP_ALLOW = 0 :=
  (State.get_set_off _ F.TIME_STATUS_SLEWING _ _ _ _ _ _ (by decide) (by decide)).trans
    ((State.get_set_off _ F.FREQ_ADJ _ _ _ _ _ _ (by decide) (by decide)).trans (State.get_set_same _ _ _ _ _ (by decide)))

theorem slewComplete_ends (s : State) (hslew : s.get F.TIME_STATUS_SLEWING = 1) (hdone : s.tm.slewAt + s.tm.slewTime ≤ s.now) :
    ∃ t, exec .slewComplete s = .next t ∧ t.get F.TIME_STATUS_SLEWING = 0 ∧ t.get F.FREQ_ADJ = satInt s.tm.freq 32 % 2 ^ 32 ∧ t.tm.slewRate = 0 ∧
      t.get F.TIME_STATUS_STATE = s.get F.TIME_STATUS_STATE :=
  ⟨_, if_neg (by omega), s.get_endSlew_slewing, s.get_endSlew_freqAdj, rfl, s.get_endSlew _ (by decide) (by decide)⟩

/-! ### The time-outs (R85, R89) -/

theorem refusedTimeout_holdover (s : State) (since : Nat) (hst : s.get F.TIME_STATUS_STATE = 3) (hnone : s.tm.noneSince = some since)
    (hlate : since + sec 10 ≤ s.now) : ∃ t, exec .refusedTimeout s = .next t ∧ t.get F.TIME_STATUS_STATE = 2 ∧ t.ft = s.ft := by
  refine ⟨s.set F.TIME_STATUS_STATE tHoldover, ?_, State.get_set_same _ _ _ _ _ (by decide), rfl⟩
  rw [exec, execRefusedTimeout, hnone]
  exact if_pos ⟨hst, hlate⟩

theorem gapAllowExpiry_clears (s : State) (hgap : s.get F.TIME_STATUS_GAP_ALLOW = 1) (hlate : s.tm.gapAt + sec 10 ≤ s.now) :
    ∃ t, exec .gapAllowExpiry s = .next t ∧ t.get F.TIME_STATUS_GAP_ALLOW = 0 ∧ t.get F.TIME_STATUS_STATE = s.get F.TIME_STATUS_STATE :=
  ⟨_, if_pos ⟨hgap, hlate⟩, State.get_set_same _ _ _ _ _ (by decide), State.get_set_off _ _ _ _ _ _ _ _ (by decide) (by decide)⟩

/-! ### The evaluation of quality (R94, R95) -/

/-- The evaluations that an evaluation due finds, its own the last. -/
def State.tqHist (s : State) : List (Nat × Nat) :=
  (s.tm.hist.filter fun x => decide (s.now < x.1 + sec 10 + ms 10)) ++
    [(s.now, if s.get F.TIME_STATUS_STATE = 0 then 15 else tqOf s.uNow)]

/-- The worst TQ of those evaluations. -/
def State.tqWorst (s : State) : Nat := (s.tqHist.map (·.2)).foldl max (if s.get F.TIME_STATUS_STATE = 0 then 15 else tqOf s.uNow)

/-- What an evaluation shows, before a change of the reported TQ is told. -/
def State.tqShown (s : State) : State :=
  ((({ s with tm := { s.tm with u := s.uNow, hist := s.tqHist, evalAt := s.now } } : State).set F.UNCERT (min 0xFFFFFFFF (s.uNow / 1000))).set
    F.TIME_STATUS_DEGRADED (s.get F.ROOT_STATUS_ON_AUX)).set F.TIME_STATUS_TQ s.tqWorst

theorem execTqEvaluate_due (s : State) (hon : s.isOn .time = true) (hdue : s.tm.evalAt + ms 10 ≤ s.now) :
    exec .tqEvaluate s =
      .next (if s.tqWorst = s.get F.TIME_STATUS_TQ then s.tqShown else (s.tqShown.irq pTIME I.TIME_TQ_CHG).recompute) :=
  if_neg (by simp [hon]; omega)

theorem State.tqWorst_eq (s : State) :
    s.tqWorst = ((s.tm.hist.filter fun x => decide (s.now < x.1 + sec 10 + ms 10)).map (·.2)).foldl max
      (if s.get F.TIME_STATUS_STATE = 0 then 15 else tqOf s.uNow) := by
  rw [State.tqWorst, State.tqHist, List.map_append]
  exact foldl_max_append_self _ _

theorem tqEvaluate_shows (s : State) (hon : s.isOn .time = true) (hdue : s.tm.evalAt + ms 10 ≤ s.now) :
    ∃ t, exec .tqEvaluate s = .next t ∧ t.get F.UNCERT = min 0xFFFFFFFF (s.uNow / 1000) ∧ t.tm.u = s.uNow ∧
      t.get F.TIME_STATUS_TQ = (((s.tm.hist.filter fun x => decide (s.now < x.1 + sec 10 + ms 10)).map (·.2)).foldl max
        (if s.get F.TIME_STATUS_STATE = 0 then 15 else tqOf s.uNow)) % 2 ^ 4 := by
  have huncert : s.tqShown.get F.UNCERT = min 0xFFFFFFFF (s.uNow / 1000) := by
    rw [State.tqShown, State.get_set_off _ _ _ _ _ _ _ _ (by decide) (by decide), State.get_set_off _ _ _ _ _ _ _ _ (by decide) (by decide),
      State.get_set_same _ _ _ _ _ (by decide)]
    exact Nat.mod_eq_of_lt (Nat.lt_of_le_of_lt (Nat.min_le_left ..) (by decide))
  have htq : s.tqShown.get F.TIME_STATUS_TQ = s.tqWorst % 2 ^ 4 := State.get_set_same _ _ _ _ _ (by decide)
  rw [← State.tqWorst_eq]
  refine ⟨_, execTqEvaluate_due s hon hdue, ?_⟩
  split
  · exact ⟨huncert, rfl, htq⟩
  · refine ⟨?_, ?_, ?_⟩
    · rw [State.get_irq_recompute _ _ _ rfl (by decide), huncert]
    · rw [State.tm_of_rest (State.recompute_level _) rfl, State.tm_of_rest (State.irq_timeLog _ _) rfl]
      rfl
    · rw [State.get_irq_recompute _ _ _ rfl (by decide), htq]

/-! ### A good interval of a source (R82) -/

/-- A measured offset is shown and counted towards the run of its source. -/
def State.counted (s : State) (src : Nat) (e : Int) (u : Nat) : State := (s.set F.PHASE_ERR (satInt (e / 10) 32)).goodInterval src e u

theorem State.measured_eq (s : State) (src : Nat) (e : Int) (u : Nat) :
    s.measured src e u =
      if (s.counted src e u).qualified src then ((s.counted src e u).takeMeasure src e).steerDac else s.counted src e u := rfl

theorem State.get_counted_phaseErr (s : State) (src : Nat) (e : Int) (u : Nat) :
    (s.counted src e u).get F.PHASE_ERR = satInt (e / 10) 32 % 2 ^ 32 := State.get_set_same s _ _ _ _ (by decide)

theorem State.get_counted (s : State) (src : Nat) (e : Int) (u : Nat) (G : Fld) (h : (G.off + 0 * G.step) % 0x1000 ≠ 0x320) :
    (s.counted src e u).get G = s.get G := State.get_set_off s _ _ _ _ _ _ _ (by decide) (.inl h)

theorem State.qualified_counted_eq (s : State) (src : Nat) (e : Int) (u : Nat) :
    (s.counted src e u).qualified src =
      nth false (setNth s.tm.qual src (s.qualified src || decide (needGood src ≤ min (nth 0 s.tm.good src + 1) 16))) src := rfl

/-- A source whose run is still too short does not yet qualify. -/
theorem State.qualified_counted_short (s : State) (src : Nat) (e : Int) (u : Nat) (hq : s.qualified src = false)
    (hgood : nth 0 s.tm.good src + 1 < needGood src) : (s.counted src e u).qualified src = false := by
  rw [State.qualified_counted_eq, hq, Bool.false_or, decide_eq_false (by omega)]
  exact nth_setNth_default false _ _

/-- A source that is qualified stays so at a good interval. -/
theorem State.qualified_counted (s : State) (src : Nat) (e : Int) (u : Nat) (hq : s.qualified src = true) :
    (s.counted src e u).qualified src = true := by
  have hlen : src < s.tm.qual.length := lt_length_of_nth (d := false) (ne_of_eq_of_ne hq (by decide))
  rw [State.qualified_counted_eq, hq, nth_setNth_same _ _ _ _ hlen, Bool.true_or]

/-! ### A measurement of the selected source (R83, R88) -/

/-- An offset beyond u is told (R83). -/
def State.modelWatched (s : State) (e : Int) : State := if s.tm.u < iabs e * 100 then s.notice pTIME I.TIME_MODEL_EXCEEDED else s

theorem State.modelWatched_timeLog (s : State) (e : Int) : (s.modelWatched e).rest touchTimeLog = s.rest touchTimeLog := by
  unfold State.modelWatched
  split
  · exact s.notice_timeLog ..
  · rfl

theorem State.get_modelWatched (s : State) (e : Int) (G : Fld) (hlog : touchLog.has (some G.blk) = false)
    (hirq : (G.off + 0 * G.step) % 0x1000 ≠ 0x01C) : (s.modelWatched e).get G = s.get G :=
  State.get_if (State.notice_get _ _ _ _ _ _ _ _ _ _ hlog hirq) rfl

theorem State.ctr_modelWatched (s : State) (e : Int) (c : Ctr) : (s.modelWatched e).ctr pTIME c = s.ctr pTIME c := by
  unfold State.modelWatched
  split
  · exact State.notice_ctr _ _ _ _ _ _ _ _ _ rfl
  · rfl

theorem State.jumpLimit_modelWatched (s : State) (e : Int) : (s.modelWatched e).jumpLimit = s.jumpLimit := by
  rw [State.jumpLimit, State.get_modelWatched _ _ _ rfl (by decide), State.get_modelWatched _ _ _ rfl (by decide),
    State.tm_of_rest (s.modelWatched_timeLog e) rfl, State.jumpLimit]

/-- An offset of the selected source beyond the limit: STATE REFUSED, no source. -/
def State.refuseSelected (s : State) : State :=
  let s := s.refuseE.notice pTIME I.TIME_JUMP_REFUSED
  let s : State := { s with tm := { s.tm with u0 := s.tm.u, lossAt := s.now, noneSince := none } }
  (s.endSlew.set F.TIME_STATUS_SRC 3).set F.TIME_STATUS_STATE tRefused

theorem State.takeMeasure_selected (s : State) (src : Nat) (e : Int) (hst : s.get F.TIME_STATUS_STATE = 1) (hsel : s.get F.TIME_STATUS_SRC = src) :
    s.takeMeasure src e =
      if iabs e ≤ s.jumpLimit then (s.modelWatched e).acceptE e ((s.modelWatched e).slewOf e) else (s.modelWatched e).refuseSelected := by
  have hrun : s.takeMeasure src e = if (s.modelWatched e).within e then (s.modelWatched e).acceptE e ((s.modelWatched e).slewOf e)
      else (s.modelWatched e).refuseSelected :=
    (if_neg (ne_of_eq_of_ne hst (by decide))).trans ((if_pos hst).trans (if_pos hsel.symm))
  rw [hrun, State.within, s.jumpLimit_modelWatched]
  simp only [decide_eq_true_eq]

theorem State.refuseSelected_shows (s : State) :
    s.refuseSelected.get F.TIME_STATUS_STATE = 3 ∧ s.refuseSelected.get F.TIME_STATUS_SRC = 3 ∧ s.refuseSelected.get F.TIME_STATUS_SLEWING = 0 := by
  refine ⟨State.get_set_same _ _ _ _ _ (by decide), ?_, ?_⟩
  · exact (State.get_set_off _ _ _ _ _ _ _ _ (by decide) (by decide)).trans (State.get_set_same _ _ _ _ _ (by decide))
  · exact (State.get_set_off _ _ _ _ _ _ _ _ (by decide) (by decide)).trans
      ((State.get_set_off _ _ _ _ _ _ _ _ (by decide) (by decide)).trans (State.get_endSlew_slewing _))

theorem State.refuseSelected_told (s : State) :
    s.refuseSelected.irqUp pTIME I.TIME_JUMP_REFUSED = true ∧
      s.refuseSelected.ctr pTIME C.TIME_JUMP_REFUSED = (s.ctr pTIME C.TIME_JUMP_REFUSED + 1) % 2 ^ 64 ∧ s.refuseSelected.ft = s.ft := by
  refine ⟨?_, ?_, ?_⟩
  · rw [State.refuseSelected, State.irqUp_set _ _ _ _ _ _ _ (by decide), State.irqUp_set _ _ _ _ _ _ _ (by decide), State.endSlew,
      State.irqUp_set _ _ _ _ _ _ _ (by decide), State.irqUp_set _ _ _ _ _ _ _ (by decide)]
    exact State.notice_up s.refuseE pTIME I.TIME_JUMP_REFUSED 0 0 0 0xFF rfl (by decide)
  · rw [State.refuseSelected, State.ctr_set, State.ctr_set, State.endSlew, State.ctr_set, State.ctr_set]
    exact (State.notice_ctr s.refuseE pTIME I.TIME_JUMP_REFUSED 0 0 0 0xFF pTIME C.TIME_JUMP_REFUSED rfl).trans
      (s.ctr_inc_same C.TIME_JUMP_REFUSED 0 1)
  · have hft : (s.refuseE.notice pTIME I.TIME_JUMP_REFUSED).ft = s.refuseE.ft := State.ft_of_rest (s.refuseE.notice_timeLog ..) rfl
    exact hft

/-! The oscillator's DAC follows a measurement in LOCKED (R99). -/

theorem State.steerDac_unlocked (s : State) (h : s.get F.TIME_STATUS_STATE ≠ 1) : s.steerDac = s := if_pos (.inr (.inl h))

theorem State.get_steerDac (s : State) (G : Fld) (h : (G.off + 0 * G.step) % 0x1000 ≠ 0x340) : s.steerDac.get G = s.get G :=
  State.get_if rfl (State.get_set_off _ F.OSC_TUNE_VALUE _ _ _ G 0 0 (by decide) (.inl h))

theorem State.steerDac_keeps (s : State) : s.steerDac.ft = s.ft ∧ s.steerDac.ctrs = s.ctrs ∧ s.steerDac.tm.slewE = s.tm.slewE := by
  unfold State.steerDac
  dsimp only
  split
  · exact ⟨rfl, rfl, rfl⟩
  · exact ⟨rfl, rfl, rfl⟩

/-! ### A PTP interval (R82) -/

/-- The clockClass of the grandmaster is noted. -/
def State.gmSeen (s : State) (cls : Nat) : State := { s with tm := { s.tm with gmClass := cls } }

/-- A PTP interval brings an offset from a port in SLAVE, of a grandmaster whose clockClass keeps the source. -/
theorem execTimeSourceMeasure_ptp (s : State) (e : Int) (cls : Nat) (hcls : cls ≤ 7) (hqual : 6 ≤ cls ∨ s.qualified 1 = true)
    (hon : s.isOn .time = true) (hen : bit (s.get F.TIME_CFG_SRC_EN) 1 = true) :
    exec (.timeSourceMeasure 1 (some e) true cls) s = .next ((s.gmSeen cls).measured 1 e (s.get F.PTP_UNCERT)) := by
  have hcold : ¬(cls < 6 ∧ (!s.qualified 1) = true) := by
    rintro ⟨hlow, hq⟩
    rcases hqual with h | h
    · omega
    · rw [h] at hq
      cases hq
  rw [exec, execTimeSourceMeasure, if_neg (by simp [hon]), if_neg (by simp [hen]), if_neg (by decide), if_pos rfl, if_neg (by simp [hcls]),
    if_neg hcold]
  rfl

theorem timeSourceMeasure_counts (s : State) (e : Int) (cls : Nat) (hlo : 6 ≤ cls) (hhi : cls ≤ 7) (hon : s.isOn .time = true)
    (hen : bit (s.get F.TIME_CFG_SRC_EN) 1 = true) (hq : s.qualified 1 = false) (hgood : nth 0 s.tm.good 1 < 15) :
    ∃ t, exec (.timeSourceMeasure 1 (some e) true cls) s = .next t ∧ t.get F.PHASE_ERR = satInt (e / 10) 32 % 2 ^ 32 ∧
      t.tm.good = setNth s.tm.good 1 (nth 0 s.tm.good 1 + 1) ∧ t.get F.TIME_STATUS_STATE = s.get F.TIME_STATUS_STATE ∧ t.ft = s.ft := by
  have hshort : ((s.gmSeen cls).counted 1 e (s.get F.PTP_UNCERT)).qualified 1 = false :=
    State.qualified_counted_short (s.gmSeen cls) 1 e _ hq (Nat.succ_lt_succ hgood)
  have hx := execTimeSourceMeasure_ptp s e cls hhi (.inl hlo) hon hen
  rw [State.measured_eq, hshort] at hx
  refine ⟨_, hx, State.get_counted_phaseErr .., ?_, State.get_counted _ _ _ _ _ (by decide), rfl⟩
  show setNth s.tm.good 1 (min (nth 0 s.tm.good 1 + 1) 16) = _
  rw [Nat.min_eq_left (by omega)]

section
variable (s : State) (e : Int) (cls : Nat) (hcls : cls ≤ 7) (hon : s.isOn .time = true) (hen : bit (s.get F.TIME_CFG_SRC_EN) 1 = true)
  (hst : s.get F.TIME_STATUS_STATE = 1) (hsel : s.get F.TIME_STATUS_SRC = 1) (hq : s.qualified 1 = true)

/-- The state in which an offset of the selected PTP source is judged: it is shown and counted, and told where it is beyond u. -/
def State.ptpJudged : State := ((s.gmSeen cls).counted 1 e (s.get F.PTP_UNCERT)).modelWatched e

theorem State.get_ptpJudged (G : Fld) (hlog : touchLog.has (some G.blk) = false) (hphase : (G.off + 0 * G.step) % 0x1000 ≠ 0x320)
    (hirq : (G.off + 0 * G.step) % 0x1000 ≠ 0x01C) : (s.ptpJudged e cls).get G = s.get G :=
  (State.get_modelWatched _ _ _ hlog hirq).trans (State.get_counted (s.gmSeen cls) _ _ _ _ hphase)

theorem State.ctr_ptpJudged (c : Ctr) : (s.ptpJudged e cls).ctr pTIME c = s.ctr pTIME c := State.ctr_modelWatched ..

theorem State.ft_ptpJudged : (s.ptpJudged e cls).ft = s.ft :=
 (State.ft_of_rest (State.modelWatched_timeLog ((s.gmSeen cls).counted 1 e (s.get F.PTP_UNCERT)) e) rfl :)

include hcls hon hen hst hsel hq

/-- The selected PTP source measures an offset: taken within the limit, refused beyond it. -/
theorem execTimeSourceMeasure_selected :
    exec (.timeSourceMeasure 1 (some e) true cls) s = .next (State.steerDac (if iabs e ≤ s.jumpLimit then
      (s.ptpJudged e cls).acceptE e ((s.ptpJudged e cls).slewOf e) else (s.ptpJudged e cls).refuseSelected)) := by
  have hjump : ((s.gmSeen cls).counted 1 e (s.get F.PTP_UNCERT)).jumpLimit = s.jumpLimit := by
    rw [State.jumpLimit, State.get_counted _ _ _ _ _ (by decide), State.get_counted _ _ _ _ _ (by decide)]
    rfl
  rw [execTimeSourceMeasure_ptp s e cls hcls (.inr hq) hon hen, State.measured_eq, if_pos (State.qualified_counted (s.gmSeen cls) 1 e _ hq),
    State.takeMeasure_selected, hjump]
  · rfl
  · exact (State.get_counted _ _ _ _ _ (by decide)).trans hst
  · exact (State.get_counted _ _ _ _ _ (by decide)).trans hsel

theorem timeSourceMeasure_refuses (hfar : s.jumpLimit < iabs e) :
    ∃ t, exec (.timeSourceMeasure 1 (some e) true cls) s = .next t ∧ t.get F.TIME_STATUS_STATE = 3 ∧ t.get F.TIME_STATUS_SRC = 3 ∧
      t.get F.TIME_STATUS_SLEWING = 0 ∧ t.irqUp ⟨.time, 0⟩ I.TIME_JUMP_REFUSED = true ∧
      t.ctr ⟨.time, 0⟩ C.TIME_JUMP_REFUSED = (s.ctr ⟨.time, 0⟩ C.TIME_JUMP_REFUSED + 1) % 2 ^ 64 ∧ t.ft = s.ft := by
  have hx := execTimeSourceMeasure_selected s e cls hcls hon hen hst hsel hq
  obtain ⟨hstate, hsrc, hslew⟩ := (s.ptpJudged e cls).refuseSelected_shows
  obtain ⟨hup, hctr, hft⟩ := (s.ptpJudged e cls).refuseSelected_told
  rw [if_neg (Nat.not_le_of_lt hfar), State.steerDac_unlocked _ (by rw [hstate]; decide)] at hx
  exact ⟨_, hx, hstate, hsrc, hslew, hup, hctr.trans (by rw [State.ctr_ptpJudged]), hft.trans (s.ft_ptpJudged e cls)⟩

theorem timeSourceMeasure_accepts (hnear : iabs e ≤ s.jumpLimit) :
    ∃ t, exec (.timeSourceMeasure 1 (some e) true cls) s = .next t ∧ t.get F.TIME_STATUS_STATE = 1 ∧ t.get F.TIME_STATUS_SRC = 1 ∧
      t.get F.TIME_STATUS_GAP_ALLOW = 0 ∧ t.tm.slewE = e ∧
      t.ctr ⟨.time, 0⟩ C.TIME_JUMP_REFUSED = s.ctr ⟨.time, 0⟩ C.TIME_JUMP_REFUSED ∧ t.ft = s.ft := by
  have hx := execTimeSourceMeasure_selected s e cls hcls hon hen hst hsel hq
  rw [if_pos hnear] at hx
  obtain ⟨hft, hctrs, hslew⟩ := ((s.ptpJudged e cls).acceptE e ((s.ptpJudged e cls).slewOf e)).steerDac_keeps
  refine ⟨_, hx, ?_, ?_, ?_, hslew, ?_, hft.trans (s.ft_ptpJudged e cls)⟩
  · rw [State.get_steerDac _ _ (by decide), State.get_acceptE _ _ _ _ (by decide) (by decide) (by decide),
      State.get_ptpJudged _ _ _ _ rfl (by decide) (by decide), hst]
  · rw [State.get_steerDac _ _ (by decide), State.get_acceptE _ _ _ _ (by decide) (by decide) (by decide),
      State.get_ptpJudged _ _ _ _ rfl (by decide) (by decide), hsel]
  · rw [State.get_steerDac _ _ (by decide), State.get_acceptE_gapAllow]
  · exact (State.ctr_of_ctrs hctrs ..).trans (s.ctr_ptpJudged e cls _)

end

/-- Settles O19: a measurement is shown and counted, then judged by the limit; each time-out and evaluation writes its own fields. -/
theorem fleetTimeSources : Obligations.FleetTimeSources :=
  ⟨timeSourceMeasure_counts, timeSourceMeasure_refuses, timeSourceMeasure_accepts, slewComplete_ends, tqEvaluate_shows, refusedTimeout_holdover,
    gapAllowExpiry_clears⟩

end Sys2Proof.Machine
end

section
/-! SUPPORT. The proofs of the authorised operations on fleet time (`Obligations.AuthorisedTimeSteps`): an accepted operation, its application in
one update, and the re-base pass. -/
namespace Sys2Proof.Machine
open Sys2Proof

/-! ### REBASING through the lease engine (R92, R246, R249) -/

/-- REBASING as it reads. -/
def State.rebasing (s : State) : Nat := s.get F.LEASE_STATUS_REBASING

theorem State.rebasing_ite {c : Prop} [Decidable c] (a b : State) : (if c then a else b).rebasing = if c then a.rebasing else b.rebasing :=
  apply_ite _ _ _ _

theorem State.rebasing_each {α : Type} (s : State) (l : List α) (f : State → α → State) (h : ∀ t x, (f t x).rebasing = t.rebasing) :
    (s.each l f).rebasing = s.rebasing := State.each_keeps State.rebasing s l f h

/-- A field that shares no bit with REBASING. -/
theorem State.rebasing_set (s : State) (G : Fld) (v : Nat) (hw : G.lsb + G.width ≤ 32)
    (h : 0x318 ≠ (G.off + 0 * G.step) % 0x1000 ∨ 20 ≤ G.lsb ∨ G.lsb + G.width ≤ 19) : (s.set G v).rebasing = s.rebasing :=
  State.get_set_off s G v 0 0 F.LEASE_STATUS_REBASING 0 0 hw h

@[simp] theorem State.rebasing_ls (s : State) (x : LeaseSt) : ({ s with ls := x } : State).rebasing = s.rebasing := rfl
@[simp] theorem State.rebasing_inc (s : State) (c : Ctr) (i n : Nat) : (s.inc c i n).rebasing = s.rebasing := rfl
@[simp] theorem State.rebasing_setTe (s : State) (p : Page) (t i v : Nat) : (s.setTe p t i v).rebasing = s.rebasing := s.get_setTe p t i v _ 0 0
@[simp] theorem State.rebasing_irq (s : State) (p : Page) (n : Nat) : (s.irq p n).rebasing = s.rebasing := s.irq_get_off p n _ 0 0 (by decide)
@[simp] theorem State.rebasing_takeSeq (s : State) : s.takeSeq.rebasing = s.rebasing := s.rebasing_set _ _ (by decide) (by decide)

@[simp] theorem State.rebasing_leaseShow (s : State) : s.leaseShow.rebasing = s.rebasing := by
  unfold State.leaseShow
  dsimp only
  rw [State.rebasing_set _ _ _ (by decide) (by decide), State.rebasing_set _ _ _ (by decide) (by decide),
    State.rebasing_set _ _ _ (by decide) (by decide), State.rebasing_set _ _ _ (by decide) (by decide),
    State.rebasing_set _ _ _ (by decide) (by decide), State.rebasing_set _ _ _ (by decide) (by decide)]

/-! Lease entries and turnout records are table entries. -/

@[simp] theorem State.rebasing_setLe (s : State) (i v : Nat) : (s.setLe i v).rebasing = s.rebasing := s.rebasing_setTe ..
@[simp] theorem State.rebasing_leSet (s : State) (i : Nat) (f : EF) (v : Nat) : (s.leSet i f v).rebasing = s.rebasing := s.rebasing_setTe ..
@[simp] theorem State.rebasing_turnShow (s : State) (t : Nat) : (s.turnShow t).rebasing = s.rebasing := s.rebasing_setTe ..

@[simp] theorem State.rebasing_freeLe (s : State) (i : Nat) : (s.freeLe i).rebasing = s.rebasing := by simp [State.freeLe]

@[simp] theorem State.rebasing_freeLock (s : State) (i : Nat) : (s.freeLock i).rebasing = s.rebasing := by simp [State.freeLock]

@[simp] theorem State.rebasing_rechain (s : State) (head : Nat) : (s.rechain head).rebasing = s.rebasing := by
  unfold State.rechain
  split
  · simp
  · rw [State.rebasing_each _ _ _ fun t x => t.rebasing_leSet .., State.rebasing_leSet, State.rebasing_leSet]

@[simp] theorem State.rebasing_freeStep (s : State) (i : Nat) : (s.freeStep i).rebasing = s.rebasing := by simp [State.freeStep]

@[simp] theorem State.rebasing_lockFollow (s : State) (k : Nat) : (s.lockFollow k).rebasing = s.rebasing := by
  simp [State.lockFollow, State.rebasing_ite]

/-! What a decided step tells, holds and truncates stands outside the lease engine. -/

/-- What a decided step touches beside the lease engine and the turnouts. -/
def touchDecided : Touch := { touchLog with blks := [.core, .dispatch, .motion, .registry] ++ touchLog.blks, pair := true, disp := true, mot := true }

theorem State.rebasing_of_frame {s t : State}
    (h : ∀ W : Touch, [W.Log] → [W.Pair] → [W.Disp] → [W.Mot] → [W.In .canal] → [W.In .core] → [W.In .dispatch] → [W.In .eth] → [W.In .flume] →
      [W.In .motion] → [W.In .pcie] → [W.In .registry] → t.rest W = s.rest W) : t.rebasing = s.rebasing := by
  cases Touch.granting
  refine State.get_of_rest (W := touchDecided) ?_ F.LEASE_STATUS_REBASING 0 0 rfl
  dsimp only [touchDecided, touchLog, List.cons_append, List.nil_append]
  exact h _

@[simp] theorem State.rebasing_leEvent (s : State) (code i : Nat) : (s.leEvent code i).rebasing = s.rebasing :=
  State.rebasing_of_frame fun _ _ _ _ _ _ _ _ _ _ _ _ _ => s.leEvent_rest code i

@[simp] theorem State.rebasing_blockAround (s : State) (i : Nat) : (s.blockAround i).rebasing = s.rebasing :=
  State.rebasing_of_frame fun _ _ _ _ _ _ _ _ _ _ _ _ _ => s.blockAround_rest i

@[simp] theorem State.rebasing_sendLease (s : State) (zone typ n xid owner arg : Nat) (l : List PrepStep) :
    (s.sendLease zone typ n xid owner arg l).rebasing = s.rebasing :=
  State.rebasing_of_frame fun _ _ _ _ _ _ _ _ _ _ _ _ _ => s.sendLease_rest zone typ n xid owner arg l

@[simp] theorem State.rebasing_motTrunc (s : State) (m : Nat) : (s.motTrunc m).rebasing = s.rebasing :=
  State.rebasing_of_frame fun _ _ _ _ _ _ _ _ _ _ _ _ _ => s.motTrunc_rest m

/-! The decision of a step, and the freezing of the entries. -/

@[simp] theorem State.rebasing_toOverstay (s : State) (i : Nat) : (s.toOverstay i).rebasing = s.rebasing := by
  unfold State.toOverstay
  dsimp only
  split <;> simp [State.rebasing_ite]

@[simp] theorem State.rebasing_freeDecided (s : State) (i code : Nat) : (s.freeDecided i code).rebasing = s.rebasing := by
  unfold State.freeDecided
  dsimp only
  split <;> split <;> simp [State.rebasing_ite]

@[simp] theorem State.rebasing_stepDue (s : State) (i : Nat) : (s.stepDue i).rebasing = s.rebasing := by
  simp [State.stepDue, State.rebasing_ite]

@[simp] theorem State.rebasing_refreeze (s : State) : s.refreeze.rebasing = s.rebasing := by
  unfold State.refreeze
  dsimp only
  rw [State.rebasing_each _ _ _ State.rebasing_stepDue, State.locksFollow, State.rebasing_each _ _ _ State.rebasing_lockFollow,
    State.rebasing_each _ _ _ fun t i => t.rebasing_leSet ..]

/-! The tables that the pass moves. -/

@[simp] theorem State.rebasing_rebaseLeases (s : State) (d : Int) : (s.rebaseLeases d).rebasing = s.rebasing := by
  unfold State.rebaseLeases
  dsimp only
  rw [State.rebasing_ls, State.rebasing_each _ _ _ fun t i => t.rebasing_setTe .., State.rebasing_each _ _ _ fun t i => t.rebasing_setLe ..]

@[simp] theorem State.rebasing_rebaseTimers (s : State) (d : Int) : (s.rebaseTimers d).rebasing = s.rebasing :=
  State.rebasing_each _ _ _ fun t _ => t.rebasing_setTe ..

@[simp] theorem State.rebasing_rebaseTasks (s : State) (d : Int) : (s.rebaseTasks d).rebasing = s.rebasing :=
  State.rebasing_each _ _ _ fun t _ => t.rebasing_setTe ..

/-! ### An operation from a token (R90) -/

theorem State.stepAccept_shows (s : State) (op : Nat) (d : Int) (epoch : Option Nat) (hop : op < 2 ^ 3) :
    (s.stepAccept op d epoch).get F.TIME_STATUS_STEP_PEND = 1 ∧ (s.stepAccept op d epoch).get F.STEP_CTRL_RESULT = 1 ∧
      (s.stepAccept op d epoch).get F.STEP_CTRL_OP = op := by
  refine ⟨?_, ?_, (State.get_set_same _ _ _ _ _ (by decide)).trans (Nat.mod_eq_of_lt hop)⟩
  · exact (State.get_set_off _ _ _ _ _ _ _ _ (by decide) (by decide)).trans
      ((State.get_set_off _ _ _ _ _ _ _ _ (by decide) (by decide)).trans (State.get_set_same _ _ _ _ _ (by decide)))
  · exact (State.get_set_off _ _ _ _ _ _ _ _ (by decide) (by decide)).trans (State.get_set_same _ _ _ _ _ (by decide))

theorem State.stepAccept_keeps (s : State) (op : Nat) (d : Int) (epoch : Option Nat) :
    (s.stepAccept op d epoch).tm.stepBy = some d ∧ (s.stepAccept op d epoch).ft = s.ft := by
  rw [State.stepAccept, State.set_tm, State.set_tm, State.set_tm, State.set_ft, State.set_ft, State.set_ft]
  exact ⟨rfl, rfl⟩

/-- A token that passes its check is carried out. -/
theorem State.stepOp_toSource (s : State) (x : Nat) (hc : s.stepCheck 1 none = 0) (hx : s.bestSource = some x) :
    s.stepOp 1 none = ({ s with tm := { s.tm with stepSrc := some x } } : State).stepAccept 1 (nth 0 s.tm.lastE x)
      (if x = 2 then some s.tm.epochC else none) := by
  rw [State.stepOp, hc, hx]
  rfl

theorem State.stepOp_slewAccept (s : State) (x : Nat) (hc : s.stepCheck 4 none = 0) (hx : s.bestSource = some x) :
    s.stepOp 4 none = ((s.selectSrc x).acceptE (nth 0 s.tm.lastE x) (s.get F.SLEW_LIMIT * 1000)).set F.STEP_CTRL_RESULT 2 := by
  rw [State.stepOp, hc, hx]
  rfl

/-- Fleet time beside its registers, replaced. -/
def State.setTm (s : State) (x : TimeSt) : State := { s with tm := x }

@[simp] theorem State.setTm_ft (s : State) (x : TimeSt) : (s.setTm x).ft = s.ft := rfl
@[simp] theorem State.setTm_tm (s : State) (x : TimeSt) : (s.setTm x).tm = x := rfl
@[simp] theorem State.get_setTm (s : State) (x : TimeSt) (F : Fld) (i k : Nat) : (s.setTm x).get F i k = s.get F i k := rfl

/-- ACCEPT_FREE before the service level is told. -/
def State.freeAccepted (s : State) : State :=
  let s := (s.set F.TIME_STATUS_STEPPED 1).set F.TIME_STATUS_EPOCH 1
  ((s.setTm { s.tm with u := 20000000000, u0 := 20000000000, lossAt := s.now, freeRun := true }).set F.TIME_STATUS_STATE tHoldover).set
    F.STEP_CTRL_RESULT 2

theorem State.stepOp_acceptFree (s : State) (hc : s.stepCheck 3 none = 0) : s.stepOp 3 none = s.freeAccepted.recompute := by
  rw [State.stepOp, hc]
  rfl

theorem stepToSource_accepted (s : State) (x : Nat) (hst : s.get F.TIME_STATUS_STATE = 3) (hpend : s.get F.TIME_STATUS_STEP_PEND = 0)
    (hheld : s.allHeld = true) (hx : s.bestSource = some x) :
    ∃ t, exec .stepToSource s = .next t ∧ t.get F.TIME_STATUS_STEP_PEND = 1 ∧ t.get F.STEP_CTRL_RESULT = 1 ∧ t.get F.STEP_CTRL_OP = 1 ∧
      t.tm.stepBy = some (nth 0 s.tm.lastE x) ∧ t.ft = s.ft := by
  have hc : s.stepCheck 1 none = 0 := by simp [State.stepCheck, hst, hpend, hheld, tRefused]
  obtain ⟨hp, hr, ho⟩ := State.stepAccept_shows { s with tm := { s.tm with stepSrc := some x } } 1 (nth 0 s.tm.lastE x)
    (if x = 2 then some s.tm.epochC else none) (by decide)
  obtain ⟨hby, hft⟩ := State.stepAccept_keeps { s with tm := { s.tm with stepSrc := some x } } 1 (nth 0 s.tm.lastE x)
    (if x = 2 then some s.tm.epochC else none)
  exact ⟨_, congrArg Host.Outcome.next (s.stepOp_toSource x hc hx), hp, hr, ho, hby, hft⟩

theorem stepByOffset_accepted (s : State) (d : Int) (hst : s.get F.TIME_STATUS_STATE = 2 ∨ s.get F.TIME_STATUS_STATE = 3)
    (hpend : s.get F.TIME_STATUS_STEP_PEND = 0) (hheld : s.allHeld = true) (hrange : iabs d ≤ 10 ^ 15) (hpos : 0 ≤ (s.fleetNs : Int) + d) :
    ∃ t, exec (.stepByOffset (some d)) s = .next t ∧ t.get F.TIME_STATUS_STEP_PEND = 1 ∧ t.get F.STEP_CTRL_RESULT = 1 ∧
      t.get F.STEP_CTRL_OP = 2 ∧ t.tm.stepBy = some (d * 10) ∧ t.ft = s.ft := by
  have hc : s.stepCheck 2 (some d) = 0 := by
    unfold State.stepCheck
    rw [if_neg (by simp [hpend]), if_neg (by decide), if_pos rfl]
    exact (if_neg (not_not_intro hst)).trans <| (if_pos ⟨hrange, hpos⟩).trans (if_neg (by simp [hheld]))
  have hx : s.stepOp 2 (some d) = (s.set64 F.STEP_OFS_LO F.STEP_OFS_HI (trunc d 64)).stepAccept 2 (d * 10) none := by
    rw [State.stepOp, hc]
    rfl
  obtain ⟨hp, hr, ho⟩ := State.stepAccept_shows (s.set64 F.STEP_OFS_LO F.STEP_OFS_HI (trunc d 64)) 2 (d * 10) none (by decide)
  obtain ⟨hby, hft⟩ := (s.set64 F.STEP_OFS_LO F.STEP_OFS_HI (trunc d 64)).stepAccept_keeps 2 (d * 10) none
  exact ⟨_, congrArg Host.Outcome.next hx, hp, hr, ho, hby, hft.trans (s.set64_ft ..)⟩

theorem State.freeAccepted_shows (s : State) :
    s.freeAccepted.get F.TIME_STATUS_STATE = 2 ∧ s.freeAccepted.get F.TIME_STATUS_STEPPED = 1 ∧ s.freeAccepted.get F.TIME_STATUS_EPOCH = 1 ∧
      s.freeAccepted.get F.STEP_CTRL_RESULT = 2 ∧ s.freeAccepted.ft = s.ft := by
  unfold State.freeAccepted
  refine ⟨?_, ?_, ?_, State.get_set_same _ _ _ _ _ (by decide), ?_⟩
  · rw [State.get_set_off _ _ _ _ _ _ _ _ (by decide) (by decide), State.get_set_same _ _ _ _ _ (by decide)]
    rfl
  · rw [State.get_set_off _ _ _ _ _ _ _ _ (by decide) (by decide), State.get_set_off _ _ _ _ _ _ _ _ (by decide) (by decide), State.get_setTm,
      State.get_set_off _ _ _ _ _ _ _ _ (by decide) (by decide), State.get_set_same _ _ _ _ _ (by decide)]
    rfl
  · rw [State.get_set_off _ _ _ _ _ _ _ _ (by decide) (by decide), State.get_set_off _ _ _ _ _ _ _ _ (by decide) (by decide), State.get_setTm,
      State.get_set_same _ _ _ _ _ (by decide)]
    rfl
  · rw [State.set_ft, State.set_ft, State.setTm_ft, State.set_ft, State.set_ft]

theorem acceptFree_done (s : State) (hst : s.get F.TIME_STATUS_STATE = 0) (hpend : s.get F.TIME_STATUS_STEP_PEND = 0) :
    ∃ t, exec .acceptFree s = .next t ∧ t.get F.TIME_STATUS_STATE = 2 ∧ t.get F.TIME_STATUS_STEPPED = 1 ∧ t.get F.TIME_STATUS_EPOCH = 1 ∧
      t.get F.STEP_CTRL_RESULT = 2 ∧ t.ft = s.ft := by
  have hc : s.stepCheck 3 none = 0 := by simp [State.stepCheck, hst, hpend, tUnset]
  have hlev := s.freeAccepted.recompute_level
  obtain ⟨hstate, hstep, hepoch, hres, hft⟩ := s.freeAccepted_shows
  exact ⟨_, congrArg Host.Outcome.next (s.stepOp_acceptFree hc), (State.get_of_rest hlev _ _ _ rfl).trans hstate,
    (State.get_of_rest hlev _ _ _ rfl).trans hstep, (State.get_of_rest hlev _ _ _ rfl).trans hepoch,
    (State.get_of_rest hlev _ _ _ rfl).trans hres, (State.ft_of_rest hlev rfl).trans hft⟩

theorem State.setSlew_ft (s : State) (e : Int) (rate : Nat) : (s.setSlew e rate).ft = s.ft := by
  unfold State.setSlew
  dsimp only
  rw [State.set_ft, State.set_ft]

theorem State.setSlew_tm (s : State) (e : Int) (rate : Nat) :
    (s.setSlew e rate).tm = { s.tm with slewE := e, slewRate := rate, slewAt := s.now } := by
  unfold State.setSlew
  dsimp only
  rw [State.set_tm, State.set_tm]

theorem State.acceptE_ft (s : State) (e : Int) (rate : Nat) : (s.acceptE e rate).ft = s.ft := by
  unfold State.acceptE
  dsimp only
  rw [State.setSlew_ft, State.set_ft]
  exact s.free_ft

theorem State.acceptE_tm (s : State) (e : Int) (rate : Nat) :
    (s.acceptE e rate).tm = { s.tm with freq := sext s.free.1 32, gapU := 0, slewE := e, slewRate := rate, slewAt := s.now } := by
  unfold State.acceptE
  dsimp only
  rw [State.setSlew_tm, State.set_tm, State.set_now, State.free_tm, State.free_now]

/-- A source selected: LOCKED on it, its change told. -/
theorem State.selectSrc_shows (s : State) (src : Nat) :
    (s.selectSrc src).get F.TIME_STATUS_STATE = 1 ∧ (s.selectSrc src).get F.TIME_STATUS_SRC = src % 2 ^ 2 :=
  ⟨State.get_set_same _ _ _ _ _ (by decide),
    (State.get_set_off _ _ _ _ _ _ _ _ (by decide) (by decide)).trans (State.get_set_same _ _ _ _ _ (by decide))⟩

theorem State.selectSrc_ft (s : State) (src : Nat) : (s.selectSrc src).ft = s.ft := by
  unfold State.selectSrc
  rw [State.set_ft, State.set_ft]
  dsimp only
  split
  · exact State.ft_of_rest (W := touchTimeLog) (s.irq_timeLog _) rfl
  · rfl

theorem slewAccept_done (s : State) (x : Nat) (hst : s.get F.TIME_STATUS_STATE = 3) (hpend : s.get F.TIME_STATUS_STEP_PEND = 0)
    (hx : s.bestSource = some x) :
    ∃ t, exec .slewAccept s = .next t ∧ t.get F.TIME_STATUS_STATE = 1 ∧ t.get F.TIME_STATUS_SRC = x % 2 ^ 2 ∧ t.get F.STEP_CTRL_RESULT = 2 ∧
      t.tm.slewE = nth 0 s.tm.lastE x ∧ t.ft = s.ft := by
  have hc : s.stepCheck 4 none = 0 := by simp [State.stepCheck, hst, hpend, tRefused]
  obtain ⟨hstate, hsrc⟩ := s.selectSrc_shows x
  refine ⟨_, congrArg Host.Outcome.next (s.stepOp_slewAccept x hc hx), ?_, ?_, State.get_set_same _ _ _ _ _ (by decide), ?_, ?_⟩
  · rw [State.get_set_off _ _ _ _ _ _ _ _ (by decide) (by decide), State.get_acceptE _ _ _ _ (by decide) (by decide) (by decide), hstate]
  · rw [State.get_set_off _ _ _ _ _ _ _ _ (by decide) (by decide), State.get_acceptE _ _ _ _ (by decide) (by decide) (by decide), hsrc]
  · rw [State.set_tm, State.acceptE_tm]
  · rw [State.set_ft, State.acceptE_ft, State.selectSrc_ft]

/-! ### The step in one update (R86, R91) -/

/-- Fleet time has moved, with its EPOCH, and the step is counted. -/
def State.timeMoved (s : State) (d : Int) (epoch : Nat) : State :=
  let s : State := { s with ft := ((s.ft : Int) + d * 2 ^ 32 / 10).toNat }
  let s := (s.set F.TIME_STATUS_EPOCH epoch).inc C.TIME_STEPS
  { s with gn := { s.gn with stepped := true, lastStrobe := s.fleetNs - 1 },
           sup := { s.sup with rtcAhead := 0 }, tm := { s.tm with ppsHold := s.now + ms 500, ppsSec := s.fleetSec } }

theorem State.stepTime_eq (s : State) (d : Int) (epoch : Nat) :
    s.stepTime d epoch = (((s.timeMoved d epoch).stepFrames (d / 10)).stepMarks (d / 10)).sysEvent 10 pTIME epoch (s.fleetSec % 2 ^ 32)
      ((s.timeMoved d epoch).fleetSec % 2 ^ 32) := rfl

/-- What a step of fleet time touches beside fleet time: what the blocks hold to measure elapsed time, and its record. -/
def touchMarks : Touch := { touchLog with hg := true, air := true, rtk := true, rt := true, clk := true, met := true }

theorem State.stepTime_marks (s : State) (d : Int) (epoch : Nat) : (s.stepTime d epoch).rest touchMarks = (s.timeMoved d epoch).rest touchMarks := by
  cases Touch.granting
  dsimp only [touchMarks, touchLog]
  rw [State.stepTime_eq, State.sysEvent_rest, State.stepMarks_rest, State.stepFrames_rest]

theorem State.stepTime_shows (s : State) (d : Int) (epoch : Nat) :
    (s.stepTime d epoch).ft = ((s.ft : Int) + d * 2 ^ 32 / 10).toNat ∧ (s.stepTime d epoch).get F.TIME_STATUS_EPOCH = epoch % 2 ^ 8 := by
  rw [State.ft_of_rest (s.stepTime_marks d epoch) rfl, State.get_of_rest (s.stepTime_marks d epoch) _ _ _ rfl]
  unfold State.timeMoved
  dsimp only
  constructor
  · rw [State.inc_ft, State.set_ft]
  · exact State.get_set_same _ F.TIME_STATUS_EPOCH _ _ _ (by decide)

theorem State.selectSrc_keeps (s : State) (src : Nat) :
    (s.selectSrc src).tm = { s.tm with freeRun := false } ∧ (s.selectSrc src).get F.TIME_STATUS_EPOCH = s.get F.TIME_STATUS_EPOCH := by
  unfold State.selectSrc
  dsimp only
  rw [State.set_tm, State.set_tm, State.get_set_off _ _ _ _ _ _ _ _ (by decide) (by decide), State.get_set_off _ _ _ _ _ _ _ _ (by decide) (by decide)]
  split
  · exact ⟨congrArg (fun x : TimeSt => { x with freeRun := false }) (State.tm_of_rest (s.irq_timeLog _) rfl), s.irq_get_off _ _ _ _ _ (by decide)⟩
  · exact ⟨rfl, rfl⟩

/-- The source of a step to the source is selected. -/
def State.sourceTaken (s : State) : Option Nat → State
  | some x => ((s.selectSrc x).acceptE 0 0).recompute
  | none => s

theorem State.sourceTaken_keeps (s : State) (src : Option Nat) :
    (s.sourceTaken src).ft = s.ft ∧ (s.sourceTaken src).get F.TIME_STATUS_EPOCH = s.get F.TIME_STATUS_EPOCH ∧
      (s.sourceTaken src).tm.stepBy = s.tm.stepBy := by
  cases src with
  | none => exact ⟨rfl, rfl, rfl⟩
  | some x =>
    have hlev := ((s.selectSrc x).acceptE 0 0).recompute_level
    obtain ⟨htm, hepoch⟩ := s.selectSrc_keeps x
    refine ⟨(State.ft_of_rest hlev rfl).trans ?_, (State.get_of_rest hlev _ _ _ rfl).trans ?_, ?_⟩
    · rw [State.acceptE_ft, State.selectSrc_ft]
    · rw [State.get_acceptE _ _ _ _ (by decide) (by decide) (by decide), hepoch]
    · rw [State.sourceTaken, State.tm_of_rest hlev rfl, State.acceptE_tm, htm]

/-- The step that waits is taken: fleet time has moved, and its source is selected. -/
def State.stepTaken (s : State) (d : Int) : State :=
  let t := s.stepTime d (s.tm.stepEpoch.getD (s.get F.TIME_STATUS_EPOCH % 255 + 1))
  (t.setTm { t.tm with stepBy := none, stepEpoch := none, stepSrc := none, lastE := t.tm.lastE.map (· - d) }).sourceTaken s.tm.stepSrc

theorem State.stepTaken_shows (s : State) (d : Int) :
    (s.stepTaken d).ft = ((s.ft : Int) + d * 2 ^ 32 / 10).toNat ∧
      (s.stepTaken d).get F.TIME_STATUS_EPOCH = (s.tm.stepEpoch.getD (s.get F.TIME_STATUS_EPOCH % 255 + 1)) % 2 ^ 8 ∧
      (s.stepTaken d).tm.stepBy = none := by
  obtain ⟨hft, hepoch⟩ := s.stepTime_shows d (s.tm.stepEpoch.getD (s.get F.TIME_STATUS_EPOCH % 255 + 1))
  unfold State.stepTaken
  dsimp only
  obtain ⟨h1, h2, h3⟩ := State.sourceTaken_keeps (State.setTm _ _) s.tm.stepSrc
  rw [h1, h2, h3]
  exact ⟨hft, hepoch, rfl⟩

/-! ### The re-base pass begins (R92) -/

/-- What the step undoes, and the start of the pass. -/
def State.rebaseBegun (s : State) (d : Int) (old : Nat) : State :=
  let s := (s.stepAborts.stepMotion d).stepObs.stepMeter old
  ((((s.set F.LEASE_STATUS_REBASING 1).refreeze.rebaseLeases d).rebaseTimers d).rebaseTasks d).leaseShow

/-- What the re-base touches; fleet time and the page TIME stand outside. -/
def touchRebase : Touch :=
  { touchLevel with
    blks := [.lease, .meter, .motion, .taskboard, .turnout] ++ touchLevel.blks,
    tags := true, held := true, air := true, ls := true, mot := true, met := true }

theorem State.rebaseBegun_rest (s : State) (d : Int) (old : Nat) : (s.rebaseBegun d old).rest touchRebase = s.rest touchRebase := by
  cases Touch.granting
  dsimp only [touchRebase, touchLevel, touchLog, List.cons_append, List.nil_append]
  unfold State.rebaseBegun
  dsimp only
  rw [State.leaseShow_rest, State.rebaseTasks_rest, State.rebaseTimers_rest, State.rebaseLeases_rest, State.refreeze_rest, State.set_rest _ F.LEASE_STATUS_REBASING,
    State.stepMeter_rest, State.stepObs_rest, State.stepMotion_rest, State.stepAborts_rest]

theorem State.rebaseBegun_rebasing (s : State) (d : Int) (old : Nat) : (s.rebaseBegun d old).rebasing = 1 := by
  unfold State.rebaseBegun
  dsimp only
  rw [State.rebasing_leaseShow, State.rebasing_rebaseTasks, State.rebasing_rebaseTimers, State.rebasing_rebaseLeases, State.rebasing_refreeze]
  exact State.get_set_same _ _ _ _ _ (by decide)

theorem execTimeStepApply_due (s : State) (d : Int) (hstep : s.tm.stepBy = some d) (hp : s.powered = true)
    (hdue : s.noPortOn = true ∨ s.air.nextB ≤ s.fleetNs) :
    exec .timeStepApply s = .next ((s.stepTaken d).rebaseBegun (d / 10) s.fleetSec) := by
  rw [exec, execTimeStepApply, hstep]
  refine (if_neg ?_).trans ?_
  · rintro (h | h)
    · rw [hp] at h
      cases h
    · exact h hdue
  · unfold State.stepTaken State.sourceTaken
    cases s.tm.stepSrc <;> rfl

theorem timeStepApply_applies (s : State) (d : Int) (hstep : s.tm.stepBy = some d) (hp : s.powered = true)
    (hdue : s.noPortOn = true ∨ s.air.nextB ≤ s.fleetNs) :
    ∃ t, exec .timeStepApply s = .next t ∧ t.ft = ((s.ft : Int) + d * 2 ^ 32 / 10).toNat ∧ t.get F.LEASE_STATUS_REBASING = 1 ∧
      t.get F.TIME_STATUS_EPOCH = (s.tm.stepEpoch.getD (s.get F.TIME_STATUS_EPOCH % 255 + 1)) % 2 ^ 8 ∧ t.tm.stepBy = none := by
  have hr := (s.stepTaken d).rebaseBegun_rest (d / 10) s.fleetSec
  obtain ⟨hft, hepoch, hby⟩ := s.stepTaken_shows d
  refine ⟨_, execTimeStepApply_due s d hstep hp hdue, (State.ft_of_rest hr rfl).trans hft, State.rebaseBegun_rebasing .., ?_, ?_⟩
  · exact (State.get_of_rest hr _ _ _ rfl).trans hepoch
  · rw [State.tm_of_rest hr rfl, hby]

/-! ### The pass ends (R92) -/

/-- The registers at the end of the pass, and its interrupt. -/
def State.rebaseEnded (s : State) : State :=
  ((((s.set F.LEASE_STATUS_REBASING 0).set F.TIME_STATUS_STEP_PEND 0).set F.STEP_CTRL_RESULT 2).set F.STEP_CTRL_OP 0).irq pLEASE I.LEASE_REBASE_DONE

theorem State.rebaseEnded_shows (s : State) :
    s.rebaseEnded.rebasing = 0 ∧ s.rebaseEnded.get F.TIME_STATUS_STEP_PEND = 0 ∧ s.rebaseEnded.get F.STEP_CTRL_RESULT = 2 ∧
      s.rebaseEnded.get F.STEP_CTRL_OP = 0 := by
  unfold State.rebaseEnded
  rw [State.rebasing_irq, State.rebasing_set _ _ _ (by decide) (by decide), State.rebasing_set _ _ _ (by decide) (by decide),
    State.rebasing_set _ _ _ (by decide) (by decide)]
  refine ⟨State.get_set_same _ _ _ _ _ (by decide), ?_, ?_, ?_⟩
  · rw [State.irq_get_off _ _ _ _ _ _ (by decide), State.get_set_off _ _ _ _ _ _ _ _ (by decide) (by decide),
      State.get_set_off _ _ _ _ _ _ _ _ (by decide) (by decide), State.get_set_same _ _ _ _ _ (by decide)]
    rfl
  · rw [State.irq_get_off _ _ _ _ _ _ (by decide), State.get_set_off _ _ _ _ _ _ _ _ (by decide) (by decide),
      State.get_set_same _ _ _ _ _ (by decide)]
    rfl
  · rw [State.irq_get_off _ _ _ _ _ _ (by decide), State.get_set_same _ _ _ _ _ (by decide)]
    rfl

theorem State.each_nil {α : Type} (s : State) (f : State → α → State) : s.each [] f = s := rfl

/-- With no operation held back, the pass only lets the frozen entries go on. -/
theorem execRebaseComplete_idle (s : State) (hreb : s.get F.LEASE_STATUS_REBASING = 1) (hheld : ∀ h ∈ s.held, s.rebaseHolds h.page = false) :
    exec .rebaseComplete s =
      .next (State.rebaseEnded { s with held := s.held.filter fun h => !s.rebaseHolds h.page }).refreeze.leaseShow := by
  have hnone : (s.held.filter fun h => s.rebaseHolds h.page) = [] := List.filter_eq_nil_iff.mpr fun h hm => by
    rw [hheld h hm]
    decide
  rw [exec, execRebaseComplete, if_neg (by omega)]
  dsimp only
  rw [hnone, State.each_nil, State.rebaseEnded]

theorem rebaseComplete_finishes (s : State) (hreb : s.get F.LEASE_STATUS_REBASING = 1) (hheld : ∀ h ∈ s.held, s.rebaseHolds h.page = false) :
    ∃ t, exec .rebaseComplete s = .next t ∧ t.get F.LEASE_STATUS_REBASING = 0 ∧ t.get F.TIME_STATUS_STEP_PEND = 0 ∧
      t.get F.STEP_CTRL_RESULT = 2 ∧ t.get F.STEP_CTRL_OP = 0 := by
  have hr (u : State) : u.refreeze.leaseShow.rest touchRebase = u.rest touchRebase := by
    cases Touch.granting
    dsimp only [touchRebase, touchLevel, touchLog, List.cons_append, List.nil_append]
    rw [State.leaseShow_rest, State.refreeze_rest]
  have hshow (u : State) : u.refreeze.leaseShow.rebasing = u.rebasing := by rw [State.rebasing_leaseShow, State.rebasing_refreeze]
  obtain ⟨hrebasing, hpend, hres, hop⟩ := State.rebaseEnded_shows { s with held := s.held.filter fun h => !s.rebaseHolds h.page }
  exact ⟨_, execRebaseComplete_idle s hreb hheld, (hshow _).trans hrebasing, (State.get_of_rest (hr _) _ _ _ rfl).trans hpend,
    (State.get_of_rest (hr _) _ _ _ rfl).trans hres, (State.get_of_rest (hr _) _ _ _ rfl).trans hop⟩

/-- Settles O20: an accepted operation writes STEP_CTRL and TIME_STATUS; fleet time and EPOCH of an applied step stand outside what the re-base
touches (`touchRebase`), and no command of the lease engine writes REBASING. -/
theorem authorisedTimeSteps : Obligations.AuthorisedTimeSteps :=
  ⟨stepToSource_accepted, stepByOffset_accepted, acceptFree_done, slewAccept_done, timeStepApply_applies, rebaseComplete_finishes⟩

end Sys2Proof.Machine
end

section
/-! SUPPORT. The proofs of PPS_OUT and of PTP's time stamps (`Obligations.PulsePerSecondAndTimeStamps`). -/
namespace Sys2Proof.Machine
open Sys2Proof

/-! ### What has been sent stays sent -/

/-- All of `l` has been sent, before whatever else has. -/
def State.hasSent (s : State) (l : List Out) : Prop := l <:+ s.out

section
variable {s t : State} {l : List Out}

theorem State.sent_of_out (he : t.out = s.out) (h : s.hasSent l) : t.hasSent l := by
  rw [State.hasSent, he]
  exact h

theorem State.sent_of_if {c : Prop} [Decidable c] (ht : s.hasSent l) (hu : t.hasSent l) : (if c then s else t).hasSent l := by
  split
  · exact ht
  · exact hu

theorem State.sent_each {α : Type} {m : List α} {f : State → α → State} (h : s.hasSent l) (hf : ∀ t x, t.hasSent l → (f t x).hasSent l) :
    (s.each m f).hasSent l := State.each_inv (State.hasSent · l) h fun u hu x _ => hf u x hu

theorem State.sent_set (F : Fld) (v i k : Nat) (h : s.hasSent l) : (s.set F v i k).hasSent l := h
theorem State.sent_inc (c : Ctr) (i n : Nat) (h : s.hasSent l) : (s.inc c i n).hasSent l := h
theorem State.sent_setQ (n : Nat) (q : FQ) (h : s.hasSent l) : (s.setQ n q).hasSent l := h

theorem State.sent_emit (o : Out) (h : s.hasSent l) : (s.emit o).hasSent l := h.trans (List.suffix_cons o s.out)

theorem State.sent_sendVec (v : Nat) (h : s.hasSent l) : (s.sendVec v).hasSent l :=
  State.sent_of_if h (State.sent_inc _ _ _ (State.sent_emit _ h))

theorem State.sent_assertSrc (n : Nat) (h : s.hasSent l) : (s.assertSrc n).hasSent l :=
  State.sent_of_if h (State.sent_of_if (State.sent_emit _ h) (State.sent_sendVec _ h))

theorem State.sent_irq (p : Page) (n : Nat) (h : s.hasSent l) : (s.irq p n).hasSent l :=
  State.sent_of_if (State.sent_assertSrc _ h) h

/-! Messages of the Canal. -/

theorem State.sent_setCport (p : Nat) (c : CanalPort) (h : s.hasSent l) : (s.setCport p c).hasSent l := State.sent_of_if h h

theorem State.sent_canalTurn (p : Nat) (h : s.hasSent l) : (s.canalTurn p).hasSent l := by
  unfold State.canalTurn
  dsimp only
  split
  · exact h
  · split
    · exact h
    · exact State.sent_inc _ _ _ (State.sent_emit _ (State.sent_setCport _ _ h))

theorem State.sent_canalUnicast (z unit : Nat) (b : CanalBody) (h : s.hasSent l) : (s.canalUnicast z unit b).hasSent l := by
  unfold State.canalUnicast
  dsimp only
  split
  · exact State.sent_each (State.sent_setCport _ _ h) fun _ _ ht => State.sent_canalTurn _ ht
  · exact State.sent_inc _ _ _ h

/-! Records on the queues to the host. -/

theorem State.sent_sendFrame (q : FQ) (f : FFrame) (h : s.hasSent l) : (s.sendFrame q f).hasSent l := by
  unfold State.sendFrame
  split
  · exact State.sent_inc _ _ _ (State.sent_canalUnicast _ _ _ h)
  · split
    · exact State.sent_inc _ _ _ (State.sent_inc _ _ _ (State.sent_emit _ h))
    · exact h

theorem State.sent_qTurn (n : Nat) (h : s.hasSent l) : (s.qTurn n).hasSent l := by
  unfold State.qTurn
  dsimp only
  split
  · exact State.sent_of_if (State.sent_sendFrame _ _ (State.sent_setQ _ _ h)) h
  · split
    · exact h
    · exact State.sent_of_if (State.sent_setQ _ _ h) (State.sent_setQ _ _ h)

theorem State.sent_qLose (n k : Nat) (h : s.hasSent l) : (s.qLose n k).hasSent l :=
  State.sent_of_if (State.sent_assertSrc _ h) h

theorem State.sent_qMakeRoom (n need k : Nat) (h : s.hasSent l) : (s.qMakeRoom n need k).hasSent l := by
  induction k generalizing s with
  | zero => exact h
  | succ k ih => exact State.sent_of_if h (ih (State.sent_qLose _ _ (State.sent_setQ _ _ h)))

theorem State.sent_qPush (n len : Nat) (body : FBody) (h : s.hasSent l) : (s.qPush n len body).hasSent l := by
  unfold State.qPush
  dsimp only
  split
  · exact State.sent_qLose _ _ h
  · split
    · exact State.sent_setQ _ _ h
    · refine State.sent_each (State.sent_setQ _ _ ?_) fun _ _ ht => State.sent_qTurn _ ht
      exact State.sent_of_if (State.sent_qMakeRoom _ _ _ h) h

/-! Event records. -/

theorem State.sent_hostDrain (h : s.hasSent l) : s.hostDrain.hasSent l :=
  State.sent_of_if h (State.sent_each h fun _ _ ht => State.sent_qPush _ _ _ ht)

theorem State.sent_extDrain (h : s.hasSent l) : s.extDrain.hasSent l := State.sent_of_if h h

theorem State.sent_logLose (seq : Nat) (h : s.hasSent l) : (s.logLose seq).hasSent l := State.sent_irq _ _ (State.sent_set _ _ _ _ h)

theorem State.sent_toCirc (r : EvRec) (pin : Bool) (h : s.hasSent l) : (s.toCirc r pin).hasSent l := by
  refine State.sent_hostDrain (State.sent_extDrain ?_)
  refine State.sent_of_if (l := l) h ?_
  split
  · exact h
  · exact State.sent_of_if (State.sent_logLose _ h) h

theorem State.sent_writeRec (code source a b c area : Nat) (h : s.hasSent l) : (s.writeRec code source a b c area).hasSent l := by
  have hon (t : State) (d : Bool) (ht : t.hasSent l) : (t.on d fun u => u.irq ⟨.evlog, 0⟩ I.EVLOG_FOUND_CLOSED).hasSent l := by
    cases d
    · exact ht
    · exact State.sent_irq _ _ ht
  refine State.sent_of_if ?battery (State.sent_of_if (State.sent_toCirc _ _ ?circ) (State.sent_of_if ?staging ?full))
  case full =>
    split
    · exact hon _ _ (State.sent_set _ _ _ _ (State.sent_inc _ _ _ h))
    · exact State.sent_logLose _ (hon _ _ (State.sent_set _ _ _ _ (State.sent_inc _ _ _ h)))
  all_goals exact hon _ _ (State.sent_set _ _ _ _ (State.sent_inc _ _ _ h))

theorem State.sent_putRec (code source a b c area : Nat) (h : s.hasSent l) : (s.putRec code source a b c area).hasSent l :=
  State.sent_writeRec _ _ _ _ _ _ (State.sent_of_if h (State.sent_writeRec _ _ _ _ _ _ h))

theorem State.sent_newSecond (h : s.hasSent l) : s.newSecond.hasSent l :=
  State.sent_of_if h (State.sent_each h fun _ _ ht => State.sent_inc _ _ _ (State.sent_putRec _ _ _ _ _ _ ht))

theorem State.sent_firstInSecond (kind second : Nat) (h : s.hasSent l) : (s.firstInSecond kind second).2.hasSent l := by
  unfold State.firstInSecond
  split
  · exact h
  · exact h

theorem State.sent_putBucket (code : Nat) (b : Bucket) (sh : Bool) (h : s.hasSent l) : (s.putBucket code b sh).hasSent l :=
  State.sent_of_if h h

theorem State.sent_suppress (code source : Nat) (h : s.hasSent l) : (s.suppress code source).hasSent l := h

theorem State.sent_event (code source a b c : Nat) (h : s.hasSent l) : (s.event code source a b c).hasSent l := by
  have hfirst (t : State) (kind second : Nat) (ht : t.hasSent l) :
      (if t.sup.battery then t.firstInSecond kind second else (true, t)).2.hasSent l := by
    split
    · exact State.sent_firstInSecond _ _ ht
    · exact ht
  have hs := hfirst s.newSecond (0x10000 + code) (s.newSecond.rtc / 2 ^ 32 / 1000000000) (State.sent_newSecond h)
  unfold State.event State.eventAt
  dsimp only
  refine State.sent_of_if hs (State.sent_of_if (State.sent_putRec _ _ _ _ _ _ hs) ?_)
  exact State.sent_of_if (State.sent_suppress _ _ (State.sent_putBucket _ _ _ hs))
    (State.sent_of_if (State.sent_suppress _ _ (State.sent_putBucket _ _ _ hs)) (State.sent_putRec _ _ _ _ _ _ (State.sent_putBucket _ _ _ hs)))

end

/-! ### PPS_OUT (R101) -/

theorem ppsEdge_rises (s : State) (hon : s.isOn .time = true) (hen : s.get F.PPS_CFG_EN = 1)
    (hrun : s.get F.TIME_STATUS_STATE ≠ 0 ∨ s.get F.PPS_CFG_UNSET_EN = 1) (hhold : s.tm.ppsHold ≤ s.now)
    (hnew : s.tm.ppsSec < (((s.fleetNs : Int) + sext (s.get F.PPS_CFG_COMP) 16) / 1000000000).toNat) (hat : s.tm.ppsAt = none)
    (hlock : s.get F.ROOT_STATUS_ROOT_LOCK = 1) (hnear : ((s.fleetNs : Int) + sext (s.get F.PPS_CFG_COMP) 16) % 1000000000 ≤ 25000) :
    ∃ t, exec .ppsEdge s = .next t ∧ t.out = .pin "PPS_OUT" (decide (s.get F.PPS_CFG_POL = 0)) :: s.out ∧
      t.tm.ppsSec = (((s.fleetNs : Int) + sext (s.get F.PPS_CFG_COMP) 16) / 1000000000).toNat := by
  have hx : exec .ppsEdge s = .next (State.ppsPin
      (s.setTm { s.tm with ppsSec := (((s.fleetNs : Int) + sext (s.get F.PPS_CFG_COMP) 16) / 1000000000).toNat }) true) := by
    rw [exec, execPpsEdge, hat]
    refine (if_neg Bool.false_ne_true).trans (if_neg ?_)
    rw [decide_eq_true (p := s.get F.TIME_STATUS_STATE ≠ tUnset ∨ s.get F.PPS_CFG_UNSET_EN = 1) hrun]
    rintro (h | h | h | h | h | h | h)
    · omega
    · cases h
    · omega
    · omega
    · exact h hon
    · omega
    · omega
  refine ⟨_, hx, ?_, rfl⟩
  show .pin "PPS_OUT" (true == decide (s.get F.PPS_CFG_POL = 0)) :: s.out = _
  rw [Bool.true_beq]

theorem ppsEdge_ends (s : State) (a : Nat) (hat : s.tm.ppsAt = some a) (hlate : a + ms (s.get F.PPS_CFG_WIDTH) ≤ s.now) :
    ∃ t, exec .ppsEdge s = .next t ∧ t.out = .pin "PPS_OUT" (decide (s.get F.PPS_CFG_POL ≠ 0)) :: s.out ∧ t.tm.ppsAt = none ∧
      t.tm.ppsSec = s.tm.ppsSec := by
  have hx : exec .ppsEdge s = .next (s.ppsPin false) := by
    rw [exec, execPpsEdge, hat]
    exact if_pos (by simp [hlate])
  refine ⟨_, hx, ?_, rfl, rfl⟩
  show .pin "PPS_OUT" (false == decide (s.get F.PPS_CFG_POL = 0)) :: s.out = _
  rw [Bool.false_beq, decide_not]

/-! ### A PTP event message received (R102, R104, R363) -/

/-- A port takes a good frame to its own address or to PTP's multicast address. -/
theorem State.ethTake_taken (s : State) (port : Nat) (f : EthFrame) (hfcs : f.fcsOk = true) (hda : f.da = 0x011B19000000 ∨ f.da = s.macOf port)
    (hvlan : s.get F.ETH_CFG_VLAN_EN port = 0) : s.ethTake port f = (s.inc C.ETH_FRAMES_RX port, true) := by
  unfold State.ethTake
  rw [hfcs, hvlan]
  refine (if_neg (by decide)).trans (if_neg ?_)
  rcases hda with h | h
  · rw [h]
    simp [ptpMulticast]
  · simp [h]

/-- Without PTP_HOST a message goes to the supervisor with its time stamp. -/
theorem State.ptpRx_sup (s : State) (port at01 : Nat) (f : EthFrame) (h : s.get F.TIME_CFG_PTP_HOST = 0) :
    (s.ptpRx port at01 f).out = .supFrame port
      (some (((at01 : Int) - (s.ethLatency port).1 - sext (s.get F.ETH_CORR_INGRESS 0 port) 16).toNat / 10)) f :: s.out ∧
      (s.ptpRx port at01 f).ctrs = s.ctrs := by
  have hsup : ¬s.get F.TIME_CFG_PTP_HOST = 1 := by omega
  unfold State.ptpRx
  dsimp only
  split
  · exact ⟨rfl, rfl⟩
  · rw [if_neg (by exact hsup)]
    exact ⟨rfl, rfl⟩

theorem ptpEventRx_delivers (s : State) (port : Nat) (f : EthFrame) (hport : port < 2) (hon : s.isOn .eth port = true) (hfcs : f.fcsOk = true)
    (hda : f.da = 0x011B19000000 ∨ f.da = s.macOf port) (hvlan : s.get F.ETH_CFG_VLAN_EN port = 0) (hsup : s.get F.TIME_CFG_PTP_HOST = 0)
    (hptp : ptpFrame f.bytes 319 = true) :
    ∃ t, exec (.ptpEventRx port f) s = .next t ∧
      t.out = .supFrame port
        (some (((s.fleet01 : Int) - (s.ethLatency port).1 - sext (s.get F.ETH_CORR_INGRESS 0 port) 16).toNat / 10)) f :: s.out ∧
      t.ctr ⟨.eth, port⟩ C.ETH_FRAMES_RX = (s.ctr ⟨.eth, port⟩ C.ETH_FRAMES_RX + 1) % 2 ^ 64 := by
  have hx : exec (.ptpEventRx port f) s = .next ((s.inc C.ETH_FRAMES_RX port).ptpRx port s.fleet01 f) := by
    rw [exec, execPtpEventRx, if_neg (by simp [hon, hptp]; omega), s.ethTake_taken port f hfcs hda hvlan]
    rfl
  obtain ⟨hout, hctrs⟩ := (s.inc C.ETH_FRAMES_RX port).ptpRx_sup port s.fleet01 f hsup
  exact ⟨_, hx, hout, (State.ctr_of_ctrs hctrs ..).trans (s.ctr_inc_same C.ETH_FRAMES_RX port 1)⟩

/-! ### The time-stamp queues (R109) -/

/-- The time-stamp queue of a port replaced. -/
def State.putTxts (s : State) (port : Nat) (l : List TxStamp) : State :=
  if port = 0 then s.setTm { s.tm with txts0 := l } else s.setTm { s.tm with txts1 := l }

/-- The queue replaced, and TXTS_W0 to W3 after it. -/
def State.txtsShown (s : State) (port : Nat) (l : List TxStamp) : State :=
  let h : TxStamp := (l.head?).getD ⟨0, 0⟩
  let s := ((s.putTxts port l).set F.TXTS_W0_ID h.id 0 port).set F.TXTS_W0_VALID (b2n (!l.isEmpty)) 0 port
  let s := (s.set F.TXTS_W0_DEPTH l.length 0 port).set F.TXTS_W1_TIME_NS (h.ns % 1000000000) 0 port
  (s.set F.TXTS_W2_TIME_S_LO (h.ns / 1000000000 % 2 ^ 32) 0 port).set F.TXTS_W3_TIME_S_HI (h.ns / 1000000000 / 2 ^ 32) 0 port

theorem State.setTxts_eq (s : State) (port : Nat) (l : List TxStamp) :
    s.setTxts port l = if l.isEmpty then s.txtsShown port l
      else (s.txtsShown port l).irq pTIME (if port = 0 then I.TIME_TXTS0 else I.TIME_TXTS1) := rfl

theorem State.txts_of_tm {s t : State} (h : t.tm = s.tm) (port : Nat) : t.txts port = s.txts port := by
  unfold State.txts
  rw [h]

theorem State.txtsShown_txts (s : State) (port : Nat) (l : List TxStamp) : (s.txtsShown port l).txts port = l := by
  have htm : (s.txtsShown port l).tm = (s.putTxts port l).tm := by
    unfold State.txtsShown
    dsimp only
    rw [State.set_tm, State.set_tm, State.set_tm, State.set_tm, State.set_tm, State.set_tm]
  rw [State.txts_of_tm htm, State.putTxts, State.txts]
  split
  · rfl
  · rfl

theorem State.txtsShown_out (s : State) (port : Nat) (l : List TxStamp) : (s.txtsShown port l).out = s.out := by
  unfold State.txtsShown State.putTxts
  dsimp only
  rw [State.set_out, State.set_out, State.set_out, State.set_out, State.set_out, State.set_out]
  split
  · rfl
  · rfl

theorem State.txtsShown_valid (s : State) (port : Nat) (l : List TxStamp) :
    (s.txtsShown port l).get F.TXTS_W0_VALID 0 port = b2n (!l.isEmpty) := by
  unfold State.txtsShown
  dsimp only
  have hoff (d : Nat) (hd : 0 < d) (hlt : d < 16) : (0x380 + port * 16) % 0x1000 ≠ (0x380 + d + port * 16) % 0x1000 := by omega
  rw [State.get_set_off _ _ _ _ _ _ _ _ (by decide) (.inl (hoff 12 (by decide) (by decide))),
    State.get_set_off _ _ _ _ _ _ _ _ (by decide) (.inl (hoff 8 (by decide) (by decide))),
    State.get_set_off _ _ _ _ _ _ _ _ (by decide) (.inl (hoff 4 (by decide) (by decide))),
    State.get_set_off _ _ _ _ _ _ _ _ (by decide) (.inr (by decide)), State.get_set_same _ _ _ _ _ (by decide)]
  cases l.isEmpty <;> rfl

theorem State.setTxts_shows (s : State) (port : Nat) (l : List TxStamp) :
    (s.setTxts port l).txts port = l ∧ (s.setTxts port l).get F.TXTS_W0_VALID 0 port = b2n (!l.isEmpty) ∧
      s.out <:+ (s.setTxts port l).out := by
  have hsent : (s.txtsShown port l).hasSent s.out := State.sent_of_out (s.txtsShown_out port l) (List.suffix_refl _)
  rw [State.setTxts_eq]
  split
  · exact ⟨s.txtsShown_txts port l, s.txtsShown_valid port l, hsent⟩
  · refine ⟨?_, ?_, State.sent_irq _ _ hsent⟩
    · rw [State.txts_of_tm (State.tm_of_rest (State.irq_timeLog _ _) rfl), State.txtsShown_txts]
    · rw [State.irq_get_off _ _ _ _ _ _ (show (0x380 + port * 16) % 0x1000 ≠ 0x01C by omega), State.txtsShown_valid]

theorem State.setTxts_up (s : State) (port : Nat) (l : List TxStamp) (hl : l ≠ []) :
    (s.setTxts port l).irqUp pTIME (if port = 0 then I.TIME_TXTS0 else I.TIME_TXTS1) = true := by
  rw [State.setTxts_eq, if_neg (by simpa using hl)]
  exact State.irq_up _ _ _ (by split <;> decide)

/-! ### A PTP event message sent (R107 to R109) -/

/-- A two-step message has left a port. -/
def State.ptpSent (s : State) (port msgType seqId : Nat) : State :=
  (s.emit (.ptpFrame port msgType seqId none none)).inc C.ETH_FRAMES_TX port

/-- A time stamp finds its queue full: counted, and told once in a second. -/
def State.stampDropped (s : State) (port : Nat) : State :=
  let c := if port = 0 then C.TIME_TXTS_DROP0 else C.TIME_TXTS_DROP1
  let r := (s.inc c).firstInSecond (2 + port)
  if r.1 then r.2.noticeCtr pTIME c else r.2

theorem execPtpEventTx_twoStep (s : State) (port msgType domain seqId : Nat) (hport : port < 2) (hon : s.isOn .eth port = true)
    (hlink : s.get F.ETH_STATUS_LINK port ≠ 0) (hmsg : msgType < 4) :
    exec (.ptpEventTx port msgType domain seqId false) s = .next (if 64 ≤ (s.txts port).length then (s.ptpSent port msgType seqId).stampDropped port
      else (s.ptpSent port msgType seqId).setTxts port (s.txts port ++ [⟨msgType * 4096 + domain % 16 * 256 + seqId % 256,
        ((s.fleet01 : Int) + (s.ethLatency port).2 + sext (s.get F.ETH_CORR_EGRESS 0 port) 16).toNat / 10⟩])) := by
  have hmod : msgType % 16 = msgType := Nat.mod_eq_of_lt (by omega)
  rw [exec, execPtpEventTx, if_neg (by simp [hon, hlink]; omega), if_neg (by omega)]
  refine congrArg Host.Outcome.next ((if_neg (by simp; omega)).trans ?_)
  rw [hmod]
  rfl

theorem ptpEventTx_queues (s : State) (port msgType domain seqId : Nat) (hport : port < 2) (hon : s.isOn .eth port = true)
    (hlink : s.get F.ETH_STATUS_LINK port ≠ 0) (hmsg : msgType < 4) (hroom : (s.txts port).length < 64) :
    ∃ t, exec (.ptpEventTx port msgType domain seqId false) s = .next t ∧
      t.txts port = s.txts port ++ [⟨msgType * 4096 + domain % 16 * 256 + seqId % 256,
        ((s.fleet01 : Int) + (s.ethLatency port).2 + sext (s.get F.ETH_CORR_EGRESS 0 port) 16).toNat / 10⟩] ∧
      t.get F.TXTS_W0_VALID 0 port = 1 ∧ t.irqUp ⟨.time, 0⟩ (if port = 0 then I.TIME_TXTS0 else I.TIME_TXTS1) = true ∧
      (.ptpFrame port msgType seqId none none :: s.out) <:+ t.out := by
  have hx := execPtpEventTx_twoStep s port msgType domain seqId hport hon hlink hmsg
  rw [if_neg (by omega)] at hx
  obtain ⟨hq, hvalid, hsent⟩ := (s.ptpSent port msgType seqId).setTxts_shows port (s.txts port ++ [⟨msgType * 4096 + domain % 16 * 256 + seqId % 256,
    ((s.fleet01 : Int) + (s.ethLatency port).2 + sext (s.get F.ETH_CORR_EGRESS 0 port) 16).toNat / 10⟩])
  refine ⟨_, hx, hq, hvalid.trans ?_, State.setTxts_up _ _ _ (by simp), hsent⟩
  cases s.txts port <;> rfl

theorem State.firstInSecond_keeps (s : State) (kind second : Nat) :
    (s.firstInSecond kind second).2.tm = s.tm ∧ (s.firstInSecond kind second).2.ctrs = s.ctrs := by
  unfold State.firstInSecond
  split
  · exact ⟨rfl, rfl⟩
  · exact ⟨rfl, rfl⟩

theorem State.noticeCtr_keeps (s : State) (c d : Ctr) :
    (s.noticeCtr pTIME c).tm = s.tm ∧ (s.noticeCtr pTIME c).ctr pTIME d = s.ctr pTIME d := by
  have := touchLog_log
  exact ⟨State.tm_of_rest (W := touchLog) (s.noticeCtr_rest pTIME c) rfl, State.event_ctr _ _ _ _ _ _ _ _ rfl⟩

theorem State.stampDropped_shows (s : State) :
    (s.stampDropped 0).tm = s.tm ∧ (s.stampDropped 0).ctr pTIME C.TIME_TXTS_DROP0 = (s.ctr pTIME C.TIME_TXTS_DROP0 + 1) % 2 ^ 64 := by
  obtain ⟨htm, hctrs⟩ := (s.inc C.TIME_TXTS_DROP0).firstInSecond_keeps 2 (s.inc C.TIME_TXTS_DROP0).fleetSec
  have hctr : ((s.inc C.TIME_TXTS_DROP0).firstInSecond 2).2.ctr pTIME C.TIME_TXTS_DROP0 = (s.ctr pTIME C.TIME_TXTS_DROP0 + 1) % 2 ^ 64 :=
    (State.ctr_of_ctrs hctrs ..).trans (s.ctr_inc_same C.TIME_TXTS_DROP0 0 1)
  obtain ⟨htm', hctr'⟩ := ((s.inc C.TIME_TXTS_DROP0).firstInSecond 2).2.noticeCtr_keeps C.TIME_TXTS_DROP0 C.TIME_TXTS_DROP0
  have hdrop : s.stampDropped 0 = if ((s.inc C.TIME_TXTS_DROP0).firstInSecond 2).1
      then ((s.inc C.TIME_TXTS_DROP0).firstInSecond 2).2.noticeCtr pTIME C.TIME_TXTS_DROP0 else ((s.inc C.TIME_TXTS_DROP0).firstInSecond 2).2 := rfl
  rw [hdrop]
  split
  · exact ⟨htm'.trans htm, hctr'.trans hctr⟩
  · exact ⟨htm, hctr⟩

theorem State.sent_stampDropped {s : State} {l : List Out} (port : Nat) (h : s.hasSent l) : (s.stampDropped port).hasSent l :=
  State.sent_of_if (State.sent_event _ _ _ _ _ (State.sent_firstInSecond _ _ h)) (State.sent_firstInSecond _ _ h)

theorem ptpEventTx_drops (s : State) (msgType domain seqId : Nat) (hon : s.isOn .eth 0 = true) (hlink : s.get F.ETH_STATUS_LINK 0 ≠ 0)
    (hmsg : msgType < 4) (hfull : 64 ≤ s.tm.txts0.length) :
    ∃ t, exec (.ptpEventTx 0 msgType domain seqId false) s = .next t ∧ t.tm.txts0 = s.tm.txts0 ∧
      t.ctr ⟨.time, 0⟩ C.TIME_TXTS_DROP0 = (s.ctr ⟨.time, 0⟩ C.TIME_TXTS_DROP0 + 1) % 2 ^ 64 ∧
      (.ptpFrame 0 msgType seqId none none :: s.out) <:+ t.out := by
  have hx := execPtpEventTx_twoStep s 0 msgType domain seqId (by decide) hon hlink hmsg
  rw [if_pos (show 64 ≤ (s.txts 0).length from hfull)] at hx
  obtain ⟨htm, hctr⟩ := (s.ptpSent 0 msgType seqId).stampDropped_shows
  have hsent : ((s.ptpSent 0 msgType seqId).stampDropped 0).hasSent (.ptpFrame 0 msgType seqId none none :: s.out) :=
    State.sent_stampDropped 0 (List.suffix_refl _)
  have hother : (s.ptpSent 0 msgType seqId).ctr pTIME C.TIME_TXTS_DROP0 = s.ctr pTIME C.TIME_TXTS_DROP0 :=
    State.ctr_incP_blk _ ⟨.eth, 0⟩ C.ETH_FRAMES_TX 1 pTIME _ (by decide)
  exact ⟨_, hx, congrArg TimeSt.txts0 htm, hctr.trans (by rw [hother]), hsent⟩

/-! ### A read of TXTS_W3 (R109) -/

theorem execTxtsPop_reads (s : State) (src : Src) (port : Nat) (hport : port < 2) (hbar : s.jtagBars src ⟨.time, 0⟩ false = false) :
    exec (.txtsPop src port) s = .next (if s.txtsOwner src then
      (s.emit (.readData src (s.get F.TXTS_W3_TIME_S_HI 0 port))).setTxts port ((s.txts port).drop 1)
      else s.emit (.readData src (s.get F.TXTS_W3_TIME_S_HI 0 port))) := by
  rw [exec, execTxtsPop, if_neg (by simp [hbar]; omega)]
  rfl

theorem txtsPop_owner (s : State) (src : Src) (port : Nat) (hport : port < 2) (hbar : s.jtagBars src ⟨.time, 0⟩ false = false)
    (hown : s.txtsOwner src = true) :
    ∃ t, exec (.txtsPop src port) s = .next t ∧ t.txts port = (s.txts port).drop 1 ∧
      t.get F.TXTS_W0_VALID 0 port = b2n (!((s.txts port).drop 1).isEmpty) ∧
      (.readData src (s.get F.TXTS_W3_TIME_S_HI 0 port) :: s.out) <:+ t.out := by
  have hx := execTxtsPop_reads s src port hport hbar
  rw [if_pos hown] at hx
  exact ⟨_, hx, (s.emit (.readData src (s.get F.TXTS_W3_TIME_S_HI 0 port))).setTxts_shows port ((s.txts port).drop 1)⟩

theorem txtsPop_other (s : State) (src : Src) (port : Nat) (hport : port < 2) (hbar : s.jtagBars src ⟨.time, 0⟩ false = false)
    (hown : s.txtsOwner src = false) :
    ∃ t, exec (.txtsPop src port) s = .next t ∧ t.tm = s.tm ∧ t.regs = s.regs ∧
      t.out = .readData src (s.get F.TXTS_W3_TIME_S_HI 0 port) :: s.out := by
  have hx := execTxtsPop_reads s src port hport hbar
  rw [hown] at hx
  exact ⟨_, hx, rfl, rfl, rfl⟩

/-- Settles O21: an edge and a read write what they show at once; a stamp enters its queue through `State.setTxts`, or is dropped, and what a drop
tells leaves the frame that was sent standing (`State.sent_event`). -/
theorem pulsePerSecondAndTimeStamps : Obligations.PulsePerSecondAndTimeStamps :=
  ⟨ppsEdge_rises, ppsEdge_ends, ptpEventRx_delivers, ptpEventTx_queues, ptpEventTx_drops, txtsPop_owner, txtsPop_other⟩

end Sys2Proof.Machine
end

section
/-! SUPPORT. Member-epochs and the evaluation of capacity: what the queue, the cells, shedding and the time-outs of RTK state show (R116, R118, R124, R128). -/
namespace Sys2Proof.Machine
open Sys2Proof

/-! ### Repeated updates that reach something -/

/-- Where `P` holds all along, the update for `x` brings about `Q`, and every update leaves `Q` standing, a repetition over a list with `x` ends in `Q`. -/
theorem State.each_reaches {α : Type} (P Q : State → Prop) {s : State} {l : List α} {f : State → α → State} {x : α} (hx : x ∈ l) (h0 : P s)
    (hkeep : ∀ t, P t → ∀ y ∈ l, P (f t y)) (hreach : ∀ t, P t → Q (f t x)) (hstay : ∀ t, P t → Q t → ∀ y ∈ l, Q (f t y)) : Q (s.each l f) := by
  induction l generalizing s with
  | nil => cases hx
  | cons y r ih =>
    rw [State.each_cons]
    have hP : P (f s y) := hkeep s h0 y List.mem_cons_self
    rcases List.mem_cons.mp hx with rfl | hr
    · refine (State.each_inv (fun t => P t ∧ Q t) ⟨hP, hreach s h0⟩ fun t ht z hz => ?_).2
      exact ⟨hkeep t ht.1 z (List.mem_cons_of_mem _ hz), hstay t ht.1 ht.2 z (List.mem_cons_of_mem _ hz)⟩
    · exact ih hr hP (fun t ht z hz => hkeep t ht z (List.mem_cons_of_mem _ hz)) fun t ht hQ z hz => hstay t ht hQ z (List.mem_cons_of_mem _ hz)

/-! ### What the shown counts leave alone -/

theorem State.rtkShow_sets (s : State) : ∃ q c d, s.rtkShow =
    ((s.set F.RTK_STATUS_QUEUED q).set F.RTK_STATUS_CELLS_LIVE c).set F.INTEG_STATUS_DISAGREE_NOW d := ⟨_, _, _, rfl⟩

/-- What no field that is set changes, the showing of the counts leaves alone. -/
theorem State.rtkShow_keeps {β : Type} (π : State → β) (h : ∀ (t : State) (F : Fld) (v : Nat), π (t.set F v) = π t) (s : State) :
    π s.rtkShow = π s := by
  obtain ⟨q, c, d, hs⟩ := s.rtkShow_sets
  rw [hs, h, h, h]

@[simp] theorem State.rtkShow_rtk (s : State) : s.rtkShow.rtk = s.rtk := State.rtkShow_keeps State.rtk (fun _ _ _ => rfl) s
@[simp] theorem State.rtkShow_tbl (s : State) : s.rtkShow.tbl = s.tbl := State.rtkShow_keeps State.tbl (fun _ _ _ => rfl) s
@[simp] theorem State.rtkShow_ctrs (s : State) : s.rtkShow.ctrs = s.ctrs := State.rtkShow_keeps State.ctrs (fun _ _ _ => rfl) s
@[simp] theorem State.rtkShow_gn (s : State) : s.rtkShow.gn = s.gn := State.rtkShow_keeps State.gn (fun _ _ _ => rfl) s
@[simp] theorem State.rtkShow_now (s : State) : s.rtkShow.now = s.now := State.rtkShow_keeps State.now (fun _ _ _ => rfl) s
@[simp] theorem State.rtkShow_ft (s : State) : s.rtkShow.ft = s.ft := State.rtkShow_keeps State.ft (fun _ _ _ => rfl) s
@[simp] theorem State.ctr_rtkShow (s : State) (p : Page) (c : Ctr) : s.rtkShow.ctr p c = s.ctr p c := State.ctr_of_ctrs s.rtkShow_ctrs p c

theorem State.irqUp_rtkShow (s : State) (p : Page) (n : Nat) : s.rtkShow.irqUp p n = s.irqUp p n := by
  obtain ⟨q, c, d, hs⟩ := s.rtkShow_sets
  rw [hs, State.irqUp_set _ _ _ _ _ _ _ (by decide), State.irqUp_set _ _ _ _ _ _ _ (by decide), State.irqUp_set _ _ _ _ _ _ _ (by decide)]

@[simp] theorem State.dropQueue_rtk (s : State) (drop : MEpoch → Bool) :
    (s.dropQueue drop).rtk = { s.rtk with queue := s.rtk.queue.filter fun x => !drop x } := State.rtkShow_rtk _

@[simp] theorem State.dropQueue_gn (s : State) (drop : MEpoch → Bool) : (s.dropQueue drop).gn = s.gn := State.rtkShow_gn _
@[simp] theorem State.dropQueue_ft (s : State) (drop : MEpoch → Bool) : (s.dropQueue drop).ft = s.ft := State.rtkShow_ft _
@[simp] theorem State.dropQueue_now (s : State) (drop : MEpoch → Bool) : (s.dropQueue drop).now = s.now := State.rtkShow_now _
@[simp] theorem State.ctr_dropQueue (s : State) (drop : MEpoch → Bool) (p : Page) (c : Ctr) : (s.dropQueue drop).ctr p c = s.ctr p c :=
  State.ctr_rtkShow _ p c

theorem State.irqUp_dropQueue (s : State) (drop : MEpoch → Bool) (p : Page) (n : Nat) : (s.dropQueue drop).irqUp p n = s.irqUp p n :=
  State.irqUp_rtkShow _ p n

/-! ### Member-epochs become ready (R116) -/

/-- `y` is the member-epoch `x`: of the same member and strobe. -/
def MEpoch.same (x y : MEpoch) : Bool := decide (y.member = x.member ∧ y.e = x.e)

theorem MEpoch.same_self (x : MEpoch) : x.same x = true := decide_eq_true ⟨rfl, rfl⟩

/-- A member-epoch that becomes ready now, with its base epoch. -/
def State.readied (s : State) (b : Epoch) (x : MEpoch) : MEpoch := { x with ready := some s.fleetNs, base := some b }

theorem State.makeReady_unknown (s : State) (me : MEpoch) (h : s.baseAt me.e = none) : s.makeReady me = s := by
  unfold State.makeReady
  rw [h]

theorem State.makeReady_queue (s : State) (me : MEpoch) (b : Epoch) (h : s.baseAt me.e = some b) :
    (s.makeReady me).rtk.queue = if b.withheld ≠ 0 then s.rtk.queue.filter fun y => !me.same y
      else s.rtk.queue.map fun y => if me.same y then s.readied b y else y := by
  unfold State.makeReady
  rw [h]
  dsimp only
  rw [apply_ite State.rtk, State.dropQueue_rtk, apply_ite RtkSt.queue]
  rfl

theorem State.makeReady_keeps (s : State) (me : MEpoch) : (s.makeReady me).gn = s.gn ∧ (s.makeReady me).ft = s.ft := by
  unfold State.makeReady
  split
  · exact ⟨rfl, rfl⟩
  · dsimp only
    split
    · exact ⟨State.dropQueue_gn .., State.dropQueue_ft ..⟩
    · exact ⟨rfl, rfl⟩

/-- One whose base epoch was delivered stays in the queue, ready where it is the one that is made so. -/
theorem State.mem_makeReady (s : State) (me z : MEpoch) (b : Epoch) (hz : z ∈ s.rtk.queue) (hb : s.baseAt z.e = some b) (hw : b.withheld = 0) :
    (if me.same z then s.readied b z else z) ∈ (s.makeReady me).rtk.queue := by
  by_cases hsame : me.same z = true
  · have he : z.e = me.e := (of_decide_eq_true hsame).2
    rw [s.makeReady_queue me b (he ▸ hb), if_neg (by omega)]
    exact List.mem_map_of_mem hz
  · rw [if_neg hsame]
    cases hme : s.baseAt me.e with
    | none => rwa [s.makeReady_unknown me hme]
    | some b' =>
      rw [s.makeReady_queue me b' hme]
      split
      · exact List.mem_filter.mpr ⟨hz, by simpa using hsame⟩
      · exact List.mem_map.mpr ⟨z, hz, if_neg hsame⟩

/-- One that is in the queue no more stays away. -/
theorem State.makeReady_away (s : State) (me x : MEpoch) (h : ∀ y ∈ s.rtk.queue, x.same y = false) :
    ∀ y ∈ (s.makeReady me).rtk.queue, x.same y = false := by
  cases hme : s.baseAt me.e with
  | none => rwa [s.makeReady_unknown me hme]
  | some b =>
    rw [s.makeReady_queue me b hme]
    split
    · exact fun y hy => h y (List.mem_of_mem_filter hy)
    · intro y hy
      obtain ⟨z, hz, rfl⟩ := List.mem_map.mp hy
      split
      · exact h z hz
      · exact h z hz

theorem State.baseAt_of_gn {s t : State} (h : t.gn = s.gn) (e : Nat) : t.baseAt e = s.baseAt e := by
  unfold State.baseAt
  rw [h]

theorem State.readied_of_ft {s t : State} (h : t.ft = s.ft) (b : Epoch) (x : MEpoch) : t.readied b x = s.readied b x := by
  unfold State.readied State.fleetNs
  rw [h]

/-- A state that readying has come to from `s`: base epochs and fleet time are as they were. -/
def State.Readying (s t : State) : Prop := t.gn = s.gn ∧ t.ft = s.ft

theorem State.Readying.step {s t : State} (h : s.Readying t) (y : MEpoch) : s.Readying (t.makeReady y) :=
  ⟨(t.makeReady_keeps y).1.trans h.1, (t.makeReady_keeps y).2.trans h.2⟩

theorem mem_readied_member (s : State) (m : Nat) (x : MEpoch) (hx : x ∈ s.rtk.queue) (hm : x.member = m) (hr : x.ready = none) :
    x ∈ s.rtk.queue.filter fun x => decide (x.member = m ∧ x.ready = none) :=
  List.mem_filter.mpr ⟨hx, decide_eq_true ⟨hm, hr⟩⟩

theorem memberEpochReady_delivered (s : State) (m : Nat) (x : MEpoch) (b : Epoch) (hx : x ∈ s.rtk.queue) (hm : x.member = m) (hr : x.ready = none)
    (hb : s.baseAt x.e = some b) (hw : b.withheld = 0) :
    ∃ t, exec (.memberEpochReady m) s = .next t ∧ { x with ready := some s.fleetNs, base := some b } ∈ t.rtk.queue := by
  refine ⟨_, rfl, ?_⟩
  have hone : ∀ t, s.Readying t → ∀ z : MEpoch, z.e = x.e → z ∈ t.rtk.queue → ∀ y : MEpoch,
      (if y.same z then s.readied b z else z) ∈ (t.makeReady y).rtk.queue := fun t ht z hz hq y => by
    rw [← State.readied_of_ft ht.2]
    exact t.mem_makeReady y z b hq ((State.baseAt_of_gn ht.1 _).trans (hz ▸ hb)) hw
  have hstay : ∀ t, s.Readying t → s.readied b x ∈ t.rtk.queue → ∀ y : MEpoch, s.readied b x ∈ (t.makeReady y).rtk.queue := fun t ht hq y => by
    have := hone t ht (s.readied b x) rfl hq y
    rwa [show s.readied b (s.readied b x) = s.readied b x from rfl, ite_self] at this
  refine State.each_reaches (fun t => s.Readying t ∧ (x ∈ t.rtk.queue ∨ s.readied b x ∈ t.rtk.queue)) (s.readied b x ∈ ·.rtk.queue)
    (mem_readied_member s m x hx hm hr) ⟨⟨rfl, rfl⟩, .inl hx⟩ ?_ ?_ fun t ht hq y _ => hstay t ht.1 hq y
  · rintro t ⟨ht, hq | hq⟩ y -
    · have := hone t ht x rfl hq y
      refine ⟨ht.step y, ?_⟩
      split at this
      · exact .inr this
      · exact .inl this
    · exact ⟨ht.step y, .inr (hstay t ht hq y)⟩
  · rintro t ⟨ht, hq | hq⟩
    · have := hone t ht x rfl hq x
      rwa [if_pos x.same_self] at this
    · exact hstay t ht hq x

theorem memberEpochReady_withheld (s : State) (m : Nat) (x : MEpoch) (b : Epoch) (hx : x ∈ s.rtk.queue) (hm : x.member = m) (hr : x.ready = none)
    (hb : s.baseAt x.e = some b) (hw : b.withheld ≠ 0) :
    ∃ t, exec (.memberEpochReady m) s = .next t ∧ (t.rtk.queue.any fun y => decide (y.member = m ∧ y.e = x.e)) = false := by
  subst hm
  refine ⟨_, rfl, List.any_eq_false.mpr fun y hy => Bool.not_eq_true _ ▸ ?_⟩
  refine State.each_reaches s.Readying (fun t => ∀ y ∈ t.rtk.queue, x.same y = false) (mem_readied_member s _ x hx rfl hr) ⟨rfl, rfl⟩
    (fun t ht y _ => ht.step y) (fun t ht => ?_) (fun t _ hq y _ => t.makeReady_away y x hq) y hy
  rw [t.makeReady_queue x b ((State.baseAt_of_gn ht.1 _).trans hb), if_pos hw]
  exact fun y hy => by simpa using (List.mem_filter.mp hy).2

/-! ### A free cell takes a member-epoch (R118) -/

/-- A member-epoch that a free cell may take: ready, before its deadline, its member in no cell, and none of the member's queued before it. -/
def State.mayTake (s : State) (x : MEpoch) : Bool :=
  (match x.deadline with | some d => decide (s.fleetNs < d) | none => false) && !(s.rtk.cells.any fun c => c.me.member = x.member) &&
    (s.rtk.queue.filter fun y => y.member = x.member).all fun y => decide (x.e ≤ y.e)

/-- The one of two member-epochs that goes first. -/
def State.sooner (s : State) (b : Option MEpoch) (x : MEpoch) : Option MEpoch := match b with
  | some y => if s.before x y then some x else some y
  | none => some x

/-- A cell has taken a member-epoch out of the queue. -/
def State.cellTaken (s : State) (cell : Nat) (x : MEpoch) : State :=
  let s := s.dropQueue x.same
  let s : State := { s with rtk := { s.rtk with cells := s.rtk.cells ++ [⟨cell, x, s.now, false, s.rmem x.member, 0⟩] } }
  (s.set F.CELL_STATUS_BUSY 1 cell).set F.CELL_STATUS_MEMBER x.member cell

theorem State.cellTaken_rtk (s : State) (cell : Nat) (x : MEpoch) : (s.cellTaken cell x).rtk =
    { s.rtk with queue := s.rtk.queue.filter fun y => !x.same y, cells := s.rtk.cells ++ [⟨cell, x, s.now, false, s.rmem x.member, 0⟩] } := by
  unfold State.cellTaken State.rmem
  rw [State.set_rtk, State.set_rtk, State.dropQueue_rtk, State.dropQueue_now]

theorem execCellTake_takes (s : State) (cell : Nat) (x : MEpoch) (hcell : cell < 16) (hon : s.isOn .solver cell = true)
    (hlive : s.getP ⟨.solver, cell⟩ F.STATE_CELLS_LIVE ≠ 0) (hfree : (s.rtk.cells.any fun c => decide (c.cell = cell)) = false)
    (hctrl : s.isOn .rtkCtrl = true) (hx : (s.rtk.queue.filter s.mayTake).foldl s.sooner none = some x) :
    exec (.cellTake cell) s = .next (s.cellTaken cell x) := by
  rw [exec, execCellTake, if_neg (by simp [hon, hlive, hfree, hctrl, hcell])]
  dsimp only
  split
  next hnone => exact absurd (hnone.symm.trans hx) nofun
  next y hy =>
    obtain rfl : y = x := Option.some.inj (hy.symm.trans hx)
    rfl

theorem State.before_asymm (s : State) (x y : MEpoch) (h : s.before x y = true) : s.before y x = false := by
  unfold State.before at *
  simp only [decide_eq_true_eq, decide_eq_false_iff_not] at *
  omega

theorem State.before_self (s : State) (x : MEpoch) : s.before x x = false := decide_eq_false (Nat.lt_irrefl _)

/-- What goes before every other of a list is what the choice comes to. -/
theorem State.foldl_sooner (s : State) (x : MEpoch) (l : List MEpoch) (hl : ∀ y ∈ l, y ≠ x → s.before x y = true) (b : Option MEpoch)
    (hb : b = some x ∨ (x ∈ l ∧ ∀ y, b = some y → s.before x y = true)) : l.foldl s.sooner b = some x := by
  induction l generalizing b with
  | nil => exact hb.resolve_right fun h => absurd h.1 List.not_mem_nil
  | cons z r ih =>
    refine ih (fun y hy => hl y (List.mem_cons_of_mem z hy)) _ ?_
    by_cases hz : z = x
    · subst hz
      left
      rcases hb with rfl | ⟨-, hb⟩
      · exact if_neg (by simp [s.before_self])
      · cases b with
        | none => rfl
        | some y => exact if_pos (hb y rfl)
    · have hxz := hl z List.mem_cons_self hz
      rcases hb with rfl | ⟨hmem, hb⟩
      · exact .inl (if_neg (by simp [s.before_asymm _ _ hxz]))
      · refine .inr ⟨(List.mem_cons.mp hmem).resolve_left fun h => hz h.symm, fun y hy => ?_⟩
        cases b with
        | none => exact Option.some.inj hy ▸ hxz
        | some w =>
          rw [State.sooner] at hy
          split at hy
          · exact Option.some.inj hy ▸ hxz
          · exact hb y hy

theorem State.mayTake_of_first (s : State) (x : MEpoch) (d : Nat) (hd : x.deadline = some d) (hlt : s.fleetNs < d)
    (hidle : (s.rtk.cells.any fun c => decide (c.me.member = x.member)) = false) (hfirst : ∀ y ∈ s.rtk.queue, y ≠ x → y.member = x.member → x.e < y.e) :
    s.mayTake x = true := by
  unfold State.mayTake
  rw [hd, hidle]
  simp only [hlt, decide_true, Bool.not_false, Bool.and_self, Bool.true_and, List.all_eq_true, List.mem_filter, decide_eq_true_eq]
  rintro y ⟨hy, hm⟩
  by_cases hyx : y = x
  · rw [hyx]
  · exact Nat.le_of_lt (hfirst y hy hyx hm)

theorem cellTake_takes (s : State) (cell d : Nat) (x : MEpoch) (hcell : cell < 16) (hon : s.isOn .solver cell = true)
    (hlive : s.getP ⟨.solver, cell⟩ F.STATE_CELLS_LIVE ≠ 0) (hfree : (s.rtk.cells.any fun c => decide (c.cell = cell)) = false)
    (hctrl : s.isOn .rtkCtrl = true) (hx : x ∈ s.rtk.queue) (hmem : x.member < 512) (hd : x.deadline = some d) (hlt : s.fleetNs < d)
    (hidle : (s.rtk.cells.any fun c => decide (c.me.member = x.member)) = false)
    (hfirst : ∀ y ∈ s.rtk.queue, y ≠ x → s.before x y = true ∧ (y.member = x.member → x.e < y.e)) :
    ∃ t, exec (.cellTake cell) s = .next t ∧ t.rtk.cells = s.rtk.cells ++ [⟨cell, x, s.now, false, s.rmem x.member, 0⟩] ∧
      t.get F.CELL_STATUS_BUSY cell = 1 ∧ t.get F.CELL_STATUS_MEMBER cell = x.member ∧
      t.rtk.queue = s.rtk.queue.filter fun y => !decide (y.member = x.member ∧ y.e = x.e) := by
  have hmay := s.mayTake_of_first x d hd hlt hidle fun y hy hne => (hfirst y hy hne).2
  have hchosen : (s.rtk.queue.filter s.mayTake).foldl s.sooner none = some x :=
    s.foldl_sooner x _ (fun y hy hne => (hfirst y (List.mem_of_mem_filter hy) hne).1) none (.inr ⟨List.mem_filter.mpr ⟨hx, hmay⟩, nofun⟩)
  refine ⟨_, execCellTake_takes s cell x hcell hon hlive hfree hctrl hchosen, ?_, ?_, ?_, ?_⟩
  · rw [s.cellTaken_rtk]
  · exact (State.get_set_off _ _ _ _ _ _ _ _ (by decide) (by decide)).trans (State.get_set_same _ _ _ _ _ (by decide))
  · exact (State.get_set_same _ _ _ _ _ (by decide)).trans (Nat.mod_eq_of_lt hmem)
  · rw [s.cellTaken_rtk]
    rfl

/-! ### What leaves the solving of member-epochs alone -/

/-- Every part but the solving beside its registers. -/
def allButSolving : Touch := { touchAll with rtk := false }

/-- What stays inside every frame with every block and every part but the solving leaves the solving alone. -/
theorem State.rtk_of_frame {s t : State}
    (h : ∀ W : Touch, [W.Log] → [W.Fresh] → [W.Pair] → [W.Disp] → [W.Mot] → [W.Hg] → [W.Flt] → [W.Air] → [W.Arb] → [∀ b, W.In b] →
      t.rest W = s.rest W) : t.rtk = s.rtk := by
  cases Touch.granting
  have hin (b : Blk) : allButSolving.In b := Touch.in_of_mem (Blk.mem_every b)
  refine State.rtk_of_rest (W := allButSolving) ?_ rfl
  dsimp only [allButSolving, touchAll, touchLevel, touchLog] at hin ⊢
  exact h _

@[simp] theorem State.irq_rtk (s : State) (p : Page) (n : Nat) : (s.irq p n).rtk = s.rtk :=
  State.rtk_of_frame fun _ _ _ _ _ _ _ _ _ _ _ => s.irq_rest p n

@[simp] theorem State.notice_rtk (s : State) (p : Page) (n a1 a2 a0 cell : Nat) : (s.notice p n a1 a2 a0 cell).rtk = s.rtk :=
  State.rtk_of_frame fun _ _ _ _ _ _ _ _ _ _ _ => s.notice_rest p n a1 a2 a0 cell

/-! ### A deadline comes (R118) -/

/-- A member-epoch of a member has reached its deadline. -/
def State.overdue (s : State) (m : Nat) (x : MEpoch) : Bool :=
  decide (x.member = m) && (match x.deadline with | some d => decide (d ≤ s.fleetNs) | none => false)

/-- As many queued member-epochs of a member as have reached their deadline are counted and told as dropped. -/
def State.dropsTold (s : State) (m : Nat) : State :=
  (s.inc C.RTK_CTRL_DEADLINE_DROP 0 (s.rtk.queue.filter (s.overdue m)).length).irq pRTK I.RTK_CTRL_DEADLINE_DROP

theorem deadlineDrop_drops (s : State) (m : Nat) (h : s.rtk.queue.filter (s.overdue m) ≠ []) :
    ∃ t, exec (.deadlineDrop m) s = .next t ∧ t.rtk.queue = s.rtk.queue.filter (fun x => !s.overdue m x) ∧
      t.irqUp ⟨.rtkCtrl, 0⟩ I.RTK_CTRL_DEADLINE_DROP = true ∧ t.ctr ⟨.rtkCtrl, 0⟩ C.RTK_CTRL_DEADLINE_DROP =
        (s.ctr ⟨.rtkCtrl, 0⟩ C.RTK_CTRL_DEADLINE_DROP + (s.rtk.queue.length - t.rtk.queue.length)) % 2 ^ 64 := by
  have hx : exec (.deadlineDrop m) s = .next ((s.dropsTold m).dropQueue (s.overdue m)) := if_neg fun h0 => h (List.eq_nil_of_length_eq_zero h0)
  have hq : ((s.dropsTold m).dropQueue (s.overdue m)).rtk.queue = s.rtk.queue.filter (fun x => !s.overdue m x) := by
    rw [State.dropQueue_rtk, State.dropsTold, State.irq_rtk]
    rfl
  refine ⟨_, hx, hq, ?_, ?_⟩
  · exact (State.irqUp_dropQueue ..).trans (State.irq_up _ _ _ (by decide))
  · have hlen := List.length_eq_length_filter_add (l := s.rtk.queue) (s.overdue m)
    rw [hq, hlen, Nat.add_sub_cancel]
    exact (State.ctr_dropQueue ..).trans ((State.irq_ctr _ _ _ _ _ (by decide)).trans (State.ctr_inc_same ..))

end Sys2Proof.Machine
end

section
/-! SUPPORT. What the evaluation of capacity shows, and the time-outs of a member's RTK state (R124, R127, R128). -/
namespace Sys2Proof.Machine
open Sys2Proof

/-! ### The evaluation of capacity (R128) -/

theorem effRate_le (shed : List Nat) (prio rate : Nat) : effRate shed prio rate ≤ rate := by
  unfold effRate
  dsimp only
  split
  · exact Nat.le_refl _
  · split
    · exact Nat.min_le_left ..
    · split
      · exact Nat.min_le_left ..
      · exact Nat.le_refl _

/-- The steps in force set the effective rate of every member with an entry. -/
def State.ratesSet (s : State) (shed : List Nat) : State :=
  s.each ((List.range 512).filter fun m => decide (s.rk m ≠ 0)) fun s m =>
    s.setTe pRTK 0 m (RK.eff.set (s.rk m) (effRate shed (RK.prio.get (s.rk m)) (RK.rate.get (s.rk m))))

/-- The step in force, DEMAND and CAP_SHORT are shown and told. -/
def State.shedTold (s : State) (old shed : List Nat) (short : Bool) : State :=
  let s := (s.set F.RTK_STATUS_SHED_STEP (shed.headD 0)).set F.DEMAND ((s.sumRate shed * s.get F.MEAN_COST / 6000000) % 2 ^ 32)
  let s := if shed ≠ old then s.irq pRTK I.RTK_CTRL_SHED_CHG else s
  let was := s.get F.RTK_STATUS_CAP_SHORT
  let s := s.set F.RTK_STATUS_CAP_SHORT (b2n short)
  if short ∧ was = 0 then s.notice pRTK I.RTK_CTRL_CAP_SHORT else s

/-- A whole second of shedding is noted, with what is shown of the cells. -/
def State.secondBegun (s : State) : State := ({ s with rtk := { s.rtk with second := s.fleetSec } } : State).rtkShow

/-- Whether even the last step leaves demand above capacity. -/
def State.capShort (s : State) : Bool := s.overC (s.sumRate (s.shedMore s.rtk.shed 6 (s.rtk.shed.headD 0 + 1))) 10

/-- The steps applied, with the times of undoing, replaced. -/
def State.putShed (s : State) (shed : List Nat) (easySince undoneAt : Option Nat) : State :=
  { s with rtk := { s.rtk with shed := shed, easySince := easySince, undoneAt := undoneAt } }

theorem execRtkCapacityEval_due (s : State) (hon : s.isOn .rtkCtrl = true) (hnew : s.rtk.second < s.fleetSec) :
    ∃ shed easySince undoneAt, exec .rtkCapacityEval s =
      .next (((s.secondBegun.putShed shed easySince undoneAt).ratesSet shed).shedTold s.secondBegun.rtk.shed shed s.secondBegun.capShort) := by
  rw [exec, execRtkCapacityEval, if_neg (by simp [hon]; omega)]
  extract_lets _ u old more short easy now since long paced undo shed next
  have hu : s.secondBegun = u := rfl
  rw [hu]
  clear_value u
  exact ⟨shed, if undo then next else since, if undo then some now else u.rtk.undoneAt, rfl⟩

theorem State.putShed_rtk (s : State) (shed : List Nat) (a b : Option Nat) :
    (s.putShed shed a b).rtk = { s.rtk with shed := shed, easySince := a, undoneAt := b } := rfl

@[simp] theorem State.putShed_tbl (s : State) (shed : List Nat) (a b : Option Nat) : (s.putShed shed a b).tbl = s.tbl := rfl

theorem State.rk_of_tbl {s t : State} (h : t.tbl = s.tbl) (m : Nat) : t.rk m = s.rk m := State.te_of_tbl h ..

theorem State.sumRate_of_tbl {s t : State} (h : t.tbl = s.tbl) (shed : List Nat) : t.sumRate shed = s.sumRate shed := by
  simp only [State.sumRate, State.rk_of_tbl h]

theorem State.overC_of_regs {s t : State} (h : t.regs = s.regs) (sum num : Nat) : t.overC sum num = s.overC sum num := by
  simp only [State.overC, State.get_of_regs h]

theorem State.shedMore_of_rates {s t : State} (hr : t.regs = s.regs) (ht : t.tbl = s.tbl) (shed : List Nat) (n k : Nat) :
    t.shedMore shed n k = s.shedMore shed n k := by
  induction n generalizing shed k with
  | zero => rfl
  | succ n ih => simp only [State.shedMore, State.overC_of_regs hr, State.sumRate_of_tbl ht, ih]

theorem State.secondBegun_rtk (s : State) : s.secondBegun.rtk = { s.rtk with second := s.fleetSec } := State.rtkShow_rtk _
theorem State.secondBegun_tbl (s : State) : s.secondBegun.tbl = s.tbl := State.rtkShow_tbl _

/-- Beginning a second changes nothing that the counts show. -/
theorem State.secondBegun_regs (s : State) : s.secondBegun.regs = s.rtkShow.regs := rfl

theorem State.capShort_secondBegun (s : State) : s.secondBegun.capShort =
    s.rtkShow.overC (s.sumRate (s.rtkShow.shedMore s.rtk.shed 6 (s.rtk.shed.headD 0 + 1))) 10 := by
  have ht : s.secondBegun.tbl = s.rtkShow.tbl := s.secondBegun_tbl.trans s.rtkShow_tbl.symm
  rw [State.capShort, State.overC_of_regs s.secondBegun_regs, State.sumRate_of_tbl s.secondBegun_tbl,
    State.shedMore_of_rates s.secondBegun_regs ht, s.secondBegun_rtk]

/-! Rates are entries of the solver's table, and nothing else. -/

theorem State.ratesSet_rtk (s : State) (shed : List Nat) : (s.ratesSet shed).rtk = s.rtk :=
  State.each_keeps State.rtk _ _ _ fun t m => State.setTe_rtk t pRTK 0 m _

theorem State.ratesSet_regs (s : State) (shed : List Nat) : (s.ratesSet shed).regs = s.regs :=
  State.each_keeps State.regs _ _ _ fun t m => State.setTe_regs t pRTK 0 m _

theorem RK.eff_of_set (shed : List Nat) (k : Nat) :
    RK.eff.get (RK.eff.set k (effRate shed (RK.prio.get k) (RK.rate.get k))) = effRate shed (RK.prio.get k) (RK.rate.get k) := by
  have hle := effRate_le shed (RK.prio.get k) (RK.rate.get k)
  have hlt : RK.rate.get k < 2 ^ 3 := Nat.mod_lt _ (by decide)
  rw [EF.get_set_same]
  exact Nat.mod_eq_of_lt (Nat.lt_of_le_of_lt hle (Nat.lt_of_lt_of_le hlt (by decide)))

theorem State.rk_setTe_eff (s : State) (m n v : Nat) (hm : m < 512) (hn : n < 512) :
    (s.setTe pRTK 0 n v).rk m = if m = n then v else s.rk m := by
  split
  next h => rw [h]; exact State.te_setTe_same ..
  next h => exact State.te_setTe_idx _ _ _ _ _ _ (by omega)

theorem State.ratesSet_eff (s : State) (shed : List Nat) (m : Nat) (hm : m < 512) (hk : s.rk m ≠ 0) :
    RK.eff.get ((s.ratesSet shed).rk m) = effRate shed (RK.prio.get (s.rk m)) (RK.rate.get (s.rk m)) := by
  have hmem : m ∈ (List.range 512).filter fun m => decide (s.rk m ≠ 0) := List.mem_filter.mpr ⟨List.mem_range.mpr hm, decide_eq_true hk⟩
  have hlt : ∀ y ∈ (List.range 512).filter fun m => decide (s.rk m ≠ 0), y < 512 := fun y hy => List.mem_range.mp (List.mem_of_mem_filter hy)
  refine State.each_reaches (fun t => RK.prio.get (t.rk m) = RK.prio.get (s.rk m) ∧ RK.rate.get (t.rk m) = RK.rate.get (s.rk m))
    (fun t => RK.eff.get (t.rk m) = effRate shed (RK.prio.get (s.rk m)) (RK.rate.get (s.rk m))) hmem ⟨rfl, rfl⟩ ?_ ?_ ?_
  · rintro t ⟨hp, hr⟩ y hy
    rw [State.rk_setTe_eff _ _ _ _ hm (hlt y hy)]
    split
    next h =>
      rw [EF.get_set_apart _ _ _ _ (by decide), EF.get_set_apart _ _ _ _ (by decide), ← h]
      exact ⟨hp, hr⟩
    next => exact ⟨hp, hr⟩
  · rintro t ⟨hp, hr⟩
    rw [State.rk_setTe_eff _ _ _ _ hm hm, if_pos rfl, RK.eff_of_set, hp, hr]
  · rintro t ⟨hp, hr⟩ hQ y hy
    rw [State.rk_setTe_eff _ _ _ _ hm (hlt y hy)]
    split
    next h => rw [← h, RK.eff_of_set, hp, hr]
    next => exact hQ

/-! What the steps in force tell. -/

theorem State.rk_notice (s : State) (n m : Nat) : (s.notice pRTK n).rk m = s.rk m := by
  have := touchLog_log
  have hrec : (s.notice pRTK n).rk m = (s.irq pRTK n).rk m := State.te_of_rest (W := touchLog) (State.event_rest ..) pRTK 0 m rfl
  exact hrec.trans (State.rk_of_tbl (State.irq_tbl ..) m)

/-- The step in force and DEMAND are shown, and a change of the step is told. -/
def State.stepShown (s : State) (old shed : List Nat) : State :=
  let s := (s.set F.RTK_STATUS_SHED_STEP (shed.headD 0)).set F.DEMAND ((s.sumRate shed * s.get F.MEAN_COST / 6000000) % 2 ^ 32)
  if shed ≠ old then s.irq pRTK I.RTK_CTRL_SHED_CHG else s

theorem State.shedTold_eq (s : State) (old shed : List Nat) (short : Bool) : s.shedTold old shed short =
    if short ∧ (s.stepShown old shed).get F.RTK_STATUS_CAP_SHORT = 0
    then ((s.stepShown old shed).set F.RTK_STATUS_CAP_SHORT (b2n short)).notice pRTK I.RTK_CTRL_CAP_SHORT
    else (s.stepShown old shed).set F.RTK_STATUS_CAP_SHORT (b2n short) := rfl

theorem State.stepShown_keeps (s : State) (old shed : List Nat) : (s.stepShown old shed).rtk = s.rtk ∧ (s.stepShown old shed).tbl = s.tbl := by
  unfold State.stepShown
  dsimp only
  split
  · exact ⟨State.irq_rtk .., State.irq_tbl ..⟩
  · exact ⟨rfl, rfl⟩

theorem State.get_stepShown (s : State) (old shed : List Nat) : (s.stepShown old shed).get F.RTK_STATUS_SHED_STEP = shed.headD 0 % 8 := by
  have hset := (State.get_set_off (s.set F.RTK_STATUS_SHED_STEP (shed.headD 0)) F.DEMAND ((s.sumRate shed * s.get F.MEAN_COST / 6000000) % 2 ^ 32) 0 0
    F.RTK_STATUS_SHED_STEP 0 0 (by decide) (by decide)).trans (State.get_set_same _ _ _ _ _ (by decide))
  unfold State.stepShown
  dsimp only
  split
  · exact (State.irq_get_off _ _ _ _ _ _ (by decide)).trans hset
  · exact hset

theorem State.shedTold_keeps (s : State) (old shed : List Nat) (short : Bool) :
    (s.shedTold old shed short).rtk = s.rtk ∧ ∀ m, (s.shedTold old shed short).rk m = s.rk m := by
  obtain ⟨hrtk, htbl⟩ := s.stepShown_keeps old shed
  rw [State.shedTold_eq]
  split
  · exact ⟨(State.notice_rtk ..).trans hrtk, fun m => (State.rk_notice ..).trans (State.rk_of_tbl htbl m)⟩
  · exact ⟨hrtk, State.rk_of_tbl htbl⟩

theorem State.shedTold_shows (s : State) (old shed : List Nat) (short : Bool) :
    (s.shedTold old shed short).get F.RTK_STATUS_SHED_STEP = shed.headD 0 % 8 ∧ (s.shedTold old shed short).get F.RTK_STATUS_CAP_SHORT = b2n short := by
  have hstep : ((s.stepShown old shed).set F.RTK_STATUS_CAP_SHORT (b2n short)).get F.RTK_STATUS_SHED_STEP = shed.headD 0 % 8 :=
    (State.get_set_off _ _ _ _ _ _ _ _ (by decide) (by decide)).trans (s.get_stepShown old shed)
  have hshort : ((s.stepShown old shed).set F.RTK_STATUS_CAP_SHORT (b2n short)).get F.RTK_STATUS_CAP_SHORT = b2n short :=
    (State.get_set_same _ _ _ _ _ (by decide)).trans (by cases short <;> rfl)
  rw [State.shedTold_eq]
  split
  · exact ⟨(State.notice_get _ _ _ _ _ _ _ _ _ _ rfl (by decide)).trans hstep, (State.notice_get _ _ _ _ _ _ _ _ _ _ rfl (by decide)).trans hshort⟩
  · exact ⟨hstep, hshort⟩

theorem rtkCapacityEval_shows (s : State) (hon : s.isOn .rtkCtrl = true) (hnew : s.rtk.second < s.fleetSec) :
    ∃ t, exec .rtkCapacityEval s = .next t ∧ t.rtk.second = s.fleetSec ∧ t.get F.RTK_STATUS_SHED_STEP = t.rtk.shed.headD 0 % 8 ∧
      t.get F.RTK_STATUS_CAP_SHORT = b2n (s.rtkShow.overC (s.sumRate (s.rtkShow.shedMore s.rtk.shed 6 (s.rtk.shed.headD 0 + 1))) 10) ∧
      ∀ m ∈ List.range 512, s.rk m ≠ 0 → RK.eff.get (t.rk m) = effRate t.rtk.shed (RK.prio.get (s.rk m)) (RK.rate.get (s.rk m)) := by
  obtain ⟨shed, easySince, undoneAt, hx⟩ := execRtkCapacityEval_due s hon hnew
  have hsecond : (s.secondBegun.putShed shed easySince undoneAt).rtk.second = s.fleetSec := by rw [State.putShed_rtk, State.secondBegun_rtk]
  have hshed : (s.secondBegun.putShed shed easySince undoneAt).rtk.shed = shed := by rw [State.putShed_rtk]
  have hold : ∀ m, (s.secondBegun.putShed shed easySince undoneAt).rk m = s.rk m :=
    State.rk_of_tbl ((State.putShed_tbl ..).trans s.secondBegun_tbl)
  generalize s.secondBegun.putShed shed easySince undoneAt = u at *
  obtain ⟨hrtk, hrk⟩ := (u.ratesSet shed).shedTold_keeps s.secondBegun.rtk.shed shed s.secondBegun.capShort
  obtain ⟨hstep, hshort⟩ := (u.ratesSet shed).shedTold_shows s.secondBegun.rtk.shed shed s.secondBegun.capShort
  rw [u.ratesSet_rtk] at hrtk
  refine ⟨_, hx, ?_, ?_, ?_, ?_⟩
  · rw [hrtk, hsecond]
  · rw [hstep, hrtk, hshed]
  · rw [hshort, s.capShort_secondBegun]
  · intro m hm hk
    rw [← hold] at hk
    rw [hrk, hrtk, u.ratesSet_eff shed m (List.mem_range.mp hm) hk, hold, hshed]

/-! ### Time-outs of RTK state (R124) -/

@[simp] theorem State.rmem_setRmem_same (s : State) (m : Nat) (x : RtkMem) : (s.setRmem m x).rmem m = x := AMap.get_set_same ..

theorem State.rmem_of_mems {s t : State} (h : t.rtk.mems = s.rtk.mems) (m : Nat) : t.rmem m = s.rmem m := by
  unfold State.rmem
  rw [h]

theorem signalAbsentTimeout_leaves (s : State) (m sig svid : Nat)
    (h : ((s.rmem m).ambs.any fun a => decide (a.sig = sig ∧ a.svid = svid ∧ a.seenAt + sec 10 ≤ s.now)) = true) :
    ∃ t, exec (.signalAbsentTimeout m sig svid) s = .next t ∧
      (t.rmem m).ambs = (s.rmem m).ambs.filter fun a => !decide (a.sig = sig ∧ a.svid = svid ∧ a.seenAt + sec 10 ≤ s.now) :=
  ⟨_, if_pos h, congrArg RtkMem.ambs (State.rmem_setRmem_same ..)⟩

theorem State.rmem_rtkReset (s : State) (m : Nat) : (s.rtkReset m).rmem m = { lastE := (s.rmem m).lastE } := by
  refine Eq.trans (State.rmem_of_mems ?_ m) (s.rmem_setRmem_same m _)
  unfold State.rtkReset
  dsimp only
  rw [State.rtkShow_rtk]
  dsimp only
  rw [State.setTe_rtk, State.setTe_rtk]

/-- The record of a member's last fix is empty after a whole-state reset. -/
theorem State.te_rtkReset (s : State) (m : Nat) : (s.rtkReset m).te pRTK 1 m = 0 := by
  have hkey : pRTK.tblKey 1 m ≠ pRTK.tblKey 0 m := by
    unfold Page.tblKey Page.tblBase
    omega
  unfold State.rtkReset
  dsimp only
  rw [State.te_of_tbl (State.rtkShow_tbl _)]
  exact (State.te_setTe_ne _ _ _ _ _ _ _ _ hkey).trans (State.te_setTe_same ..)

theorem memberStateTimeout_clears (s : State) (m a : Nat) (hat : (s.rmem m).solvedAt = some a) (hlate : a + sec 10 ≤ s.now) :
    ∃ t, exec (.memberStateTimeout m) s = .next t ∧ (t.rmem m).ambs = [] ∧ (t.rmem m).solvedAt = none ∧ t.te ⟨.rtkCtrl, 0⟩ 1 m = 0 ∧
      (t.rmem m).lastE = (s.rmem m).lastE := by
  have hx : exec (.memberStateTimeout m) s = .next (s.rtkReset m) := by
    rw [exec, execMemberStateTimeout, hat]
    exact if_pos hlate
  have hmem := s.rmem_rtkReset m
  exact ⟨_, hx, congrArg RtkMem.ambs hmem, congrArg RtkMem.solvedAt hmem, s.te_rtkReset m, by rw [hmem]⟩

end Sys2Proof.Machine
end

section
/-! SUPPORT. The outcome of a cell and the loss of the base: what a released fix stores, how a watchdog gives a member-epoch up, and what a new level leaves
of the solving (R119, R120, R140). -/
namespace Sys2Proof.Machine
open Sys2Proof

/-! ### What a change of the service level leaves of the solving (R141) -/

/-- What an error of a solver cell, the release of a fix and a change of the service level touch outside the solving of member-epochs. -/
def besideSolving : Touch :=
  { touchLog with blks := [.airport, .core, .dispatch, .fault, .headgate, .registry, .regionCtl] ++ touchLog.blks,
                  hg := true, flt := true, air := true, arb := true, pair := true, disp := true, mot := true }

theorem besideSolving_parts : besideSolving.Log ∧ besideSolving.Hg ∧ besideSolving.Flt ∧ besideSolving.Air ∧ besideSolving.Arb ∧
    besideSolving.Pair ∧ besideSolving.Disp ∧ besideSolving.Mot :=
  ⟨{ out_on := rfl, vecSent_on := rfl, fq_on := rfl, ev_on := rfl, once_on := rfl, canal_on := rfl, canal_in := ⟨rfl⟩, eth_in := ⟨rfl⟩,
     evlog_in := ⟨rfl⟩, flume_in := ⟨rfl⟩, pcie_in := ⟨rfl⟩ }, ⟨rfl⟩, ⟨rfl⟩, ⟨rfl⟩, ⟨rfl⟩, ⟨rfl⟩, ⟨rfl⟩, ⟨rfl⟩⟩

theorem besideSolving_blocks : besideSolving.In .airport ∧ besideSolving.In .core ∧ besideSolving.In .dispatch ∧ besideSolving.In .fault ∧
    besideSolving.In .headgate ∧ besideSolving.In .registry ∧ besideSolving.In .regionCtl :=
  ⟨⟨rfl⟩, ⟨rfl⟩, ⟨rfl⟩, ⟨rfl⟩, ⟨rfl⟩, ⟨rfl⟩, ⟨rfl⟩⟩

section
variable {β : Type} (π : State → β) (hframe : ∀ s t : State, t.rest besideSolving = s.rest besideSolving → π t = π s)
  (hdrop : ∀ s : State, π s.obsLevelDrop = π s)
include hframe hdrop

/-- Of the solving, an announced level changes what the drop of the queue changes, and nothing else. -/
theorem State.announce_keeps (s : State) (new : Nat) : π (s.announce new) = π s := by
  have ⟨_, _, _, _, _, _, _, _⟩ := besideSolving_parts
  have ⟨_, _, _, _, _, _, _⟩ := besideSolving_blocks
  have ⟨_, _, _, _, _⟩ := Touch.logIns besideSolving
  have hset (t : State) (v : Nat) : π (t.set F.SVC_STATUS_LEVEL v) = π t := hframe _ _ (State.set_rest ..)
  have hirq (t : State) : π (t.irq ⟨.fault, 0⟩ I.FAULT_LEVEL_CHG) = π t := hframe _ _ (State.irq_rest ..)
  have htold (t : State) (a b : Nat) : π (t.sysEvent 11 ⟨.fault, 0⟩ a b 0) = π t := hframe _ _ (State.sysEvent_rest ..)
  have hfalls (t : State) : π (t.inc C.FAULT_LEVEL_FALLS) = π t := hframe _ _ (State.inc_rest ..)
  have hhold (t : State) : π (t.holdAll 6).regCounts = π t := hframe _ _ ((State.regCounts_rest _).trans (State.holdAll_rest ..))
  have hcause (t : State) : π (t.raiseCause rsSERVICE 2) = π t := hframe _ _ (State.raiseCause_rest ..)
  unfold State.announce
  simp only [apply_ite π, hcause, hhold, State.on_keeps π _ _ _ (hdrop _), hfalls, htold, hirq, hset, ite_self]

theorem State.recompute_keeps (s : State) : π s.recompute = π s := by
  have ⟨_, _, _, _, _, _, _, _⟩ := besideSolving_parts
  have ⟨_, _, _, _, _, _, _⟩ := besideSolving_blocks
  have hblock (t : State) (v : Nat) : π (t.set F.SVC_STATUS_PERMIT v).setBlocker = π t := hframe _ _ ((State.setBlocker_rest _).trans (State.set_rest ..))
  have hflt (t : State) (x : FltSt) : π { t with flt := x } = π t := hframe _ _ (State.rest_flt t x)
  have hrising (t : State) (v : Nat) : π (t.set F.SVC_STATUS_RISING v) = π t := hframe _ _ (State.set_rest ..)
  have harm (t : State) : π t.armCheck = π t := hframe _ _ (State.armCheck_rest _)
  unfold State.recompute
  simp only [apply_ite π, harm, hflt, State.announce_keeps π hframe hdrop, hrising, hblock, ite_self]

end

/-! ### The loss of the base (R140) -/

theorem State.obsLevelDrop_baseLost (s : State) : s.obsLevelDrop.get F.INTEG_STATUS_BASE_LOST = s.get F.INTEG_STATUS_BASE_LOST := by
  unfold State.obsLevelDrop
  dsimp only
  split
  · rfl
  · exact State.get_set_off _ _ _ _ _ _ _ _ (by decide) (by decide)

theorem State.obsLevelDrop_irqUp (s : State) (p : Page) (n : Nat) : s.obsLevelDrop.irqUp p n = s.irqUp p n := by
  unfold State.obsLevelDrop
  dsimp only
  split
  · rfl
  · exact State.irqUp_set _ _ _ _ _ _ _ (by decide)

theorem baseLost_tells (s : State) (hon : s.isOn .rtkCtrl = true) (hlost : s.get F.INTEG_STATUS_BASE_LOST = 0)
    (hlate : s.gn.lastBase.getD 0 + s.get F.BASE_LOSS * 1000000 ≤ s.fleetNs) :
    ∃ t, exec .baseLost s = .next t ∧ t.get F.INTEG_STATUS_BASE_LOST = 1 ∧ t.irqUp ⟨.rtkCtrl, 0⟩ I.RTK_CTRL_BASE_LOST = true := by
  have hx : exec .baseLost s = .next ((s.set F.INTEG_STATUS_BASE_LOST 1).notice pRTK I.RTK_CTRL_BASE_LOST).recompute := by
    rw [exec, execBaseLost, if_neg (by simp [hon]; omega)]
  refine ⟨_, hx, ?_, ?_⟩
  · refine (State.recompute_keeps (·.get F.INTEG_STATUS_BASE_LOST) (fun _ _ h => State.get_of_rest h _ 0 0 rfl) State.obsLevelDrop_baseLost _).trans ?_
    exact (State.notice_get _ _ _ _ _ _ _ _ _ _ rfl (by decide)).trans (State.get_set_same _ _ _ _ _ (by decide))
  · refine (State.recompute_keeps (·.irqUp pRTK I.RTK_CTRL_BASE_LOST) (fun _ _ h => congrArg (bit · I.RTK_CTRL_BASE_LOST) (State.reg_of_rest h pRTK 0x01C rfl))
      (State.obsLevelDrop_irqUp · _ _) _).trans ?_
    exact State.notice_up _ _ _ _ _ _ _ rfl (by decide)

/-! ### A member-epoch given up (R119, R120) -/

/-- A cell is at work on nothing. -/
def State.cellIdle (s : State) (cell : Nat) : Prop := (s.rtk.cells.any fun c => decide (c.cell = cell)) = false

theorem cells_without (l : List CellWork) (cell : Nat) :
    ((l.filter fun c => decide (c.cell ≠ cell)).any fun c => decide (c.cell = cell)) = false := by
  rw [List.any_filter]
  exact List.any_eq_false.mpr fun c _ => by simp

theorem State.giveUp_of_idle (s : State) (cell : Nat) (h : s.cellIdle cell) : s.giveUp cell = s := by
  have hnone : (s.rtk.cells.find? fun c => decide (c.cell = cell)) = none := by
    rw [List.find?_eq_none]
    exact fun c hc => List.any_eq_false.mp h c hc
  unfold State.giveUp
  rw [hnone]

/-- A cell has no member-epoch any more. -/
def State.cellLeft (s : State) (cell : Nat) : State :=
  ({ s with rtk := { s.rtk with cells := s.rtk.cells.filter fun c => decide (c.cell ≠ cell) } } : State).set F.CELL_STATUS_BUSY 0 cell

theorem State.giveUp_found (s : State) (cell : Nat) (w : CellWork) (hw : (s.rtk.cells.find? fun c => decide (c.cell = cell)) = some w) :
    ∃ late, s.giveUp cell = if w.me.again || late
      then ((s.cellLeft cell).inc C.RTK_CTRL_DEADLINE_DROP).irq pRTK I.RTK_CTRL_DEADLINE_DROP
      else (({ s.cellLeft cell with rtk := { (s.cellLeft cell).rtk with
        queue := { w.me with again := true } :: (s.cellLeft cell).rtk.queue } } : State).inc C.RTK_CTRL_REQUEUED).rtkShow := by
  unfold State.giveUp
  rw [hw]
  exact ⟨_, rfl⟩

theorem State.giveUp_shows (s : State) (cell : Nat) :
    (s.giveUp cell).cellIdle cell ∧ (s.giveUp cell).ctr ⟨.solver, cell⟩ C.SOLVER_WATCHDOG = s.ctr ⟨.solver, cell⟩ C.SOLVER_WATCHDOG := by
  by_cases hidle : s.cellIdle cell
  · rw [s.giveUp_of_idle cell hidle]
    exact ⟨hidle, rfl⟩
  · obtain ⟨w, hw⟩ : ∃ w, (s.rtk.cells.find? fun c => decide (c.cell = cell)) = some w := by
      rw [← Option.isSome_iff_exists, List.find?_isSome, ← List.any_eq_true]
      simpa [State.cellIdle] using hidle
    have hother (t : State) (c : Ctr) (n : Nat) : (t.incP pRTK c n).ctr ⟨.solver, cell⟩ C.SOLVER_WATCHDOG = t.ctr ⟨.solver, cell⟩ C.SOLVER_WATCHDOG :=
      State.ctr_incP_blk t pRTK c n ⟨.solver, cell⟩ _ nofun
    have hpcie : (⟨.solver, cell⟩ : Page).blk ≠ .pcie := nofun
    obtain ⟨late, hs⟩ := s.giveUp_found cell w hw
    rw [hs, State.cellIdle]
    split
    · rw [State.irq_rtk, State.irq_ctr _ _ _ _ _ hpcie]
      exact ⟨cells_without s.rtk.cells cell, hother ..⟩
    · rw [State.rtkShow_rtk, State.ctr_rtkShow]
      exact ⟨cells_without s.rtk.cells cell, hother ..⟩

/-- What the watchdog of a cell and the errors of its block leave alone: its count, and the cells at work. -/
def State.solverWatch (s : State) (cell : Nat) : Nat × List CellWork := (s.ctr ⟨.solver, cell⟩ C.SOLVER_WATCHDOG, s.rtk.cells)

section
variable (s : State) (cell : Nat)

theorem State.solverWatch_setPage (p : Page) (g : PageSt) : (s.setPage p g).solverWatch cell = s.solverWatch cell := rfl
theorem State.solverWatch_set (F : Fld) (v i k : Nat) : (s.set F v i k).solverWatch cell = s.solverWatch cell := rfl
theorem State.solverWatch_setP (p : Page) (F : Fld) (v : Nat) : (s.setP p F v).solverWatch cell = s.solverWatch cell := rfl
theorem State.solverWatch_setReg (a v : Nat) : (s.setReg a v).solverWatch cell = s.solverWatch cell := rfl

theorem State.solverWatch_of_rest {s t : State} (h : t.rest besideSolving = s.rest besideSolving) (cell : Nat) :
    t.solverWatch cell = s.solverWatch cell :=
  Prod.ext (State.ctr_of_rest h _ _ rfl) (congrArg RtkSt.cells (State.rtk_of_rest h rfl))

theorem State.solverWatch_recompute : s.recompute.solverWatch cell = s.solverWatch cell := by
  refine State.recompute_keeps (·.solverWatch cell) (fun _ _ h => State.solverWatch_of_rest h cell) (fun t => ?_) s
  unfold State.obsLevelDrop
  dsimp only
  split
  · rfl
  · exact (State.solverWatch_set ..).trans (Prod.ext (State.ctr_incP_blk _ ⟨.obsIn, 0⟩ _ _ _ _ nofun) rfl)

theorem State.solverWatch_irq (p : Page) (n : Nat) : (s.irq p n).solverWatch cell = s.solverWatch cell :=
  Prod.ext (State.irq_ctr _ _ _ _ _ nofun) (congrArg RtkSt.cells (State.irq_rtk ..))

theorem State.solverWatch_event (code source a b c : Nat) : (s.event code source a b c).solverWatch cell = s.solverWatch cell := by
  have ⟨_, _, _, _, _, _, _, _⟩ := besideSolving_parts
  exact State.solverWatch_of_rest (State.event_rest ..) cell

theorem State.solverWatch_rtkShow : s.rtkShow.solverWatch cell = s.solverWatch cell :=
  State.rtkShow_keeps (·.solverWatch cell) (fun _ _ _ => rfl) s

theorem State.solverWatch_on (c : Bool) (f : State → State) (h : ∀ t, (f t).solverWatch cell = t.solverWatch cell) :
    (s.on c f).solverWatch cell = s.solverWatch cell := State.on_keeps (·.solverWatch cell) s c f (h s)

theorem State.solverWatch_if {c : Prop} [Decidable c] {t u : State} (ht : t.solverWatch cell = s.solverWatch cell)
    (hu : u.solverWatch cell = s.solverWatch cell) : (if c then t else u).solverWatch cell = s.solverWatch cell := by
  split
  · exact ht
  · exact hu

theorem State.solverWatch_goState (p : Page) (st : Nat) : (s.goState p st).solverWatch cell = s.solverWatch cell := by
  have ⟨_, _, _, _, _, _, _, _⟩ := besideSolving_parts
  have ⟨_, _, _, _, _, _, _⟩ := besideSolving_blocks
  have ⟨_, _, _, _, _⟩ := Touch.logIns besideSolving
  have harb (t : State) : (t.arbDrop p).solverWatch cell = t.solverWatch cell := State.solverWatch_of_rest (State.arbDrop_rest ..) cell
  have hregion (t : State) : (t.regionCheck p.region).solverWatch cell = t.solverWatch cell := State.solverWatch_of_rest (State.regionCheck_rest ..) cell
  have hport (t : State) : (t.portDown p.inst).solverWatch cell = t.solverWatch cell := State.solverWatch_of_rest (State.portDown_rest ..) cell
  have hpair (t : State) (x : PairSt) : ({ t with pair := x } : State).solverWatch cell = t.solverWatch cell := rfl
  refine State.solverWatch_if s cell rfl ?_
  simp only [State.solverWatch_recompute, State.solverWatch_on, State.solverWatch_irq, State.solverWatch_setP, harb, hregion, hport, hpair, implies_true]
  exact State.solverWatch_on s cell _ _ fun _ => rfl

theorem State.solverWatch_enterFault (p : Page) : (s.enterFault p).solverWatch cell = s.solverWatch cell :=
  (State.solverWatch_goState ..).trans (State.solverWatch_setPage ..)

theorem State.solverWatch_removeCell (p : Page) (k : Nat) : (s.removeCell p k).solverWatch cell = s.solverWatch cell := by
  unfold State.removeCell
  exact State.solverWatch_if s cell rfl rfl

theorem State.solverWatch_contained (code : Nat) :
    ((s.errReport ⟨.solver, cell⟩ 0 2 code false 0 0 0).noteCellErr ⟨.solver, cell⟩ 0 2).solverWatch cell = s.solverWatch cell := by
  have hcount (t : State) : (t.incP ⟨.solver, cell⟩ C.CONT_COUNT).solverWatch cell = t.solverWatch cell :=
    Prod.ext (State.ctr_incP_off _ _ _ _ _ _ (by decide)) rfl
  have hnote (t : State) : (t.noteCellErr ⟨.solver, cell⟩ 0 2).solverWatch cell = t.solverWatch cell := by
    unfold State.noteCellErr
    exact State.solverWatch_if t cell (State.solverWatch_setPage ..) (State.solverWatch_if t cell (State.solverWatch_setPage ..) rfl)
  rw [hnote]
  unfold State.errReport
  dsimp only
  rw [if_neg (by decide : ¬(2 : Nat) = 1), if_pos (rfl : (2 : Nat) = 2)]
  refine State.solverWatch_if s cell ((hcount _).trans (State.solverWatch_setReg ..)) ?_
  rw [State.solverWatch_event, State.solverWatch_irq, State.solverWatch_set, State.solverWatch_setPage, hcount]
  exact State.solverWatch_setReg ..

theorem State.cellGone_solver (h : s.cellIdle cell) : (s.cellGone ⟨.solver, cell⟩ 0).solverWatch cell = s.solverWatch cell := by
  have hremove := s.solverWatch_removeCell cell ⟨.solver, cell⟩ 0
  have hidle : (s.removeCell ⟨.solver, cell⟩ 0).cellIdle cell := by
    rw [State.cellIdle, show (s.removeCell ⟨.solver, cell⟩ 0).rtk.cells = s.rtk.cells from congrArg Prod.snd hremove]
    exact h
  have hhook : ((s.removeCell ⟨.solver, cell⟩ 0).cellHook ⟨.solver, cell⟩ 0).solverWatch cell = s.solverWatch cell := by
    unfold State.cellHook
    dsimp only
    rw [State.solverWatch_rtkShow, State.solverWatch_set, State.giveUp_of_idle _ _ hidle, hremove]
  unfold State.cellGone
  exact State.solverWatch_if s cell rfl (State.solverWatch_if s cell ((State.solverWatch_enterFault ..).trans hhook) hhook)

end

theorem State.cellError_solver (s : State) (cell code : Nat) : ∃ gone, s.cellError ⟨.solver, cell⟩ 0 2 code false 0 0 0 =
    ((((s.errReport ⟨.solver, cell⟩ 0 2 code false 0 0 0).noteCellErr ⟨.solver, cell⟩ 0 2).giveUp cell).on gone fun s =>
      s.cellGone ⟨.solver, cell⟩ 0).recompute := by
  have hregion : ¬(Page.region ⟨.solver, cell⟩ = 7 ∧ 2 ≠ 1) := fun h => absurd h.1 (show (2 : Nat) ≠ 7 by decide)
  have hpool : Page.isFifo ⟨.solver, cell⟩ 0 = false := rfl
  refine ⟨s.cellFails ⟨.solver, cell⟩ 0 2 || (selfCheck ⟨.solver, cell⟩ code && !false), ?_⟩
  unfold State.cellError
  rw [if_neg hregion]
  dsimp only
  simp only [hpool, Bool.false_eq_true, if_false, and_self, decide_true, State.on_true]
  rw [if_pos (by decide)]

theorem execCellWatchdog_expires (s : State) (cell : Nat) (w : CellWork) (hw : s.rtk.cells.find? (fun c => decide (c.cell = cell)) = some w)
    (hcell : cell < 16) (hlate : w.at_ + 3333333334 ≤ s.now) :
    exec (.cellWatchdog cell) s = .next ((s.inc C.SOLVER_WATCHDOG cell).free.2.cellError ⟨.solver, cell⟩ 0 2
      ((s.inc C.SOLVER_WATCHDOG cell).free.1 % 256) false 0 0 0) := by
  rw [exec, execCellWatchdog, hw]
  exact if_neg (by omega)

theorem cellWatchdog_givesUp (s : State) (cell : Nat) (w : CellWork) (hw : s.rtk.cells.find? (fun c => decide (c.cell = cell)) = some w)
    (hcell : cell < 16) (hlate : w.at_ + 3333333334 ≤ s.now) :
    ∃ t, exec (.cellWatchdog cell) s = .next t ∧ t.ctr ⟨.solver, cell⟩ C.SOLVER_WATCHDOG = (s.ctr ⟨.solver, cell⟩ C.SOLVER_WATCHDOG + 1) % 2 ^ 64 ∧
      (t.rtk.cells.any fun c => decide (c.cell = cell)) = false := by
  have hx := execCellWatchdog_expires s cell w hw hcell hlate
  have hcount : (s.inc C.SOLVER_WATCHDOG cell).free.2.ctr ⟨.solver, cell⟩ C.SOLVER_WATCHDOG = (s.ctr ⟨.solver, cell⟩ C.SOLVER_WATCHDOG + 1) % 2 ^ 64 :=
    s.ctr_inc_same C.SOLVER_WATCHDOG cell 1
  generalize (s.inc C.SOLVER_WATCHDOG cell).free.1 % 256 = code at hx
  generalize (s.inc C.SOLVER_WATCHDOG cell).free.2 = u at hx hcount
  obtain ⟨gone, herr⟩ := u.cellError_solver cell code
  obtain ⟨hidle, hgiven⟩ := State.giveUp_shows ((u.errReport ⟨.solver, cell⟩ 0 2 code false 0 0 0).noteCellErr ⟨.solver, cell⟩ 0 2) cell
  have hcont := congrArg Prod.fst (u.solverWatch_contained cell code)
  generalize ((u.errReport ⟨.solver, cell⟩ 0 2 code false 0 0 0).noteCellErr ⟨.solver, cell⟩ 0 2).giveUp cell = v at *
  have hgone : (v.on gone fun s => s.cellGone ⟨.solver, cell⟩ 0).recompute.solverWatch cell = v.solverWatch cell :=
    (State.solverWatch_recompute ..).trans (State.on_keeps (·.solverWatch cell) v gone _ (v.cellGone_solver cell hidle))
  refine ⟨_, hx, ?_, ?_⟩
  · rw [herr, show State.ctr _ _ _ = v.ctr _ _ from congrArg Prod.fst hgone, hgiven, show State.ctr _ _ _ = u.ctr _ _ from hcont, hcount]
  · rw [herr, show (State.rtk _).cells = v.rtk.cells from congrArg Prod.snd hgone]
    exact hidle

end Sys2Proof.Machine
end

section
/-! SUPPORT. A member-epoch that a cell completes (R119, R120, R127). -/
namespace Sys2Proof.Machine
open Sys2Proof

/-! ### What the release of a fix leaves of the solving -/

@[simp] theorem State.integCounts_rtk (s : State) (m : Nat) (r : Solved) : (s.integCounts m r).rtk = s.rtk :=
  State.rtk_of_frame fun _ _ _ _ _ _ _ _ _ _ _ => s.integCounts_rest m r

@[simp] theorem State.disagreeNote_rtk (s : State) (m : Nat) (n : Option (Nat × Nat × Nat)) : (s.disagreeNote m n).rtk = s.rtk :=
  State.rtk_of_frame fun _ _ _ _ _ _ _ _ _ _ _ => s.disagreeNote_rest m n

@[simp] theorem State.disagreeHold_rtk (s : State) (m : Nat) (n : Option (Nat × Nat × Nat)) : (s.disagreeHold m n).rtk = s.rtk :=
  State.rtk_of_frame fun _ _ _ _ _ _ _ _ _ _ _ => s.disagreeHold_rest m n

@[simp] theorem State.solveOut_rtk (s : State) (toPlan : Bool) (m kind : Nat) (body : List Nat) : (s.solveOut toPlan m kind body).rtk = s.rtk :=
  State.rtk_of_frame fun _ _ _ _ _ _ _ _ _ _ _ => s.solveOut_rest toPlan m kind body

@[simp] theorem State.conform_rtk (s : State) (m t : Nat) (pos : List Int) (hpl : Nat) : (s.conform m t pos hpl).rtk = s.rtk :=
  State.rtk_of_frame fun _ _ _ _ _ _ _ _ _ _ _ => s.conform_rest m t pos hpl

@[simp] theorem State.notePosition_rtk (s : State) (m t : Nat) : (s.notePosition m t).rtk = s.rtk := rfl

@[simp] theorem State.freePos_rtk (s : State) : s.freePos.2.rtk = s.rtk := rfl
@[simp] theorem State.freePos_now (s : State) : s.freePos.2.now = s.now := rfl

theorem State.rtk_each {α : Type} (s : State) (l : List α) (f : State → α → State) (h : ∀ t x, (f t x).rtk = t.rtk) : (s.each l f).rtk = s.rtk :=
  State.each_keeps State.rtk s l f h

theorem State.rtk_on (s : State) (c : Bool) (f : State → State) (h : ∀ t, (f t).rtk = t.rtk) : (s.on c f).rtk = s.rtk :=
  State.on_keeps State.rtk s c f (h s)

theorem State.setRmem_of_rtk {s t : State} (h : t.rtk = s.rtk) (m : Nat) (x : RtkMem) : (t.setRmem m x).rtk = (s.setRmem m x).rtk := by
  unfold State.setRmem
  rw [h]

theorem State.rtk_late (s : State) (c : Bool) : (s.on c fun s => s.inc C.RTK_CTRL_LATE_FIX).rtk = s.rtk := s.rtk_on c _ fun _ => rfl

/-- Of the solving, a released fix changes what is stored of its member, and nothing else. -/
theorem State.releaseFix_stores (s : State) (w : CellWork) (b : Epoch) : ∃ x : RtkMem,
    (s.releaseFix w b).rtk = (s.setRmem w.me.member x).rtk ∧ x.solvedE = shiftNs w.shift w.me.e ∧ x.solvedAt = some s.now := by
  unfold State.releaseFix
  simp only [State.rtkShow_rtk, apply_ite State.rtk, State.conform_rtk, State.notePosition_rtk, State.rtk_on, State.disagreeHold_rtk, State.rtk_each,
    State.solveOut_rtk, State.disagreeNote_rtk, State.integCounts_rtk, State.inc_rtk, State.rtk_late, State.setTe_rtk, ite_self, implies_true]
  refine ⟨_, State.setRmem_of_rtk ?_ _ _, rfl, congrArg some ?_⟩
  · simp only [apply_ite Prod.snd, apply_ite State.rtk, State.freePos_rtk, State.inc_rtk, ite_self]
  · simp only [apply_ite Prod.snd, apply_ite State.now, State.freePos_now, State.inc_now, ite_self]

/-! ### The count of fixes -/

/-- The fixes counted so far. -/
def State.fixes (s : State) : Nat := s.ctr pRTK C.RTK_CTRL_FIXES

section
variable (s : State)

theorem State.fixes_of_rest {s t : State} (h : t.rest besideSolving = s.rest besideSolving) : t.fixes = s.fixes := State.ctr_of_rest h _ _ rfl

theorem State.fixes_incFixes : (s.inc C.RTK_CTRL_FIXES).fixes = (s.fixes + 1) % 2 ^ 64 := s.ctr_inc_same C.RTK_CTRL_FIXES 0 1

theorem State.fixes_inc (c : Ctr) (i n : Nat) (h : c.off ≠ 0x050 ∧ c.off < 0x1000) : (s.inc c i n).fixes = s.fixes :=
  State.ctr_incP_off _ _ _ _ _ _ (by rw [Nat.mod_eq_of_lt h.2]; exact h.1.symm)

theorem State.fixes_setTe (p : Page) (n i v : Nat) : (s.setTe p n i v).fixes = s.fixes := State.ctr_of_ctrs (State.setTe_ctrs ..) ..
theorem State.fixes_setRmem (m : Nat) (x : RtkMem) : (s.setRmem m x).fixes = s.fixes := rfl
theorem State.fixes_freePos : s.freePos.2.fixes = s.fixes := rfl
theorem State.fixes_rtkShow : s.rtkShow.fixes = s.fixes := State.ctr_rtkShow ..

theorem State.fixes_each {α : Type} (l : List α) (f : State → α → State) (h : ∀ t x, (f t x).fixes = t.fixes) : (s.each l f).fixes = s.fixes :=
  State.each_keeps State.fixes s l f h

theorem State.fixes_on (c : Bool) (f : State → State) (h : ∀ t, (f t).fixes = t.fixes) : (s.on c f).fixes = s.fixes :=
  State.on_keeps State.fixes s c f (h s)

theorem State.fixes_notice (n a1 a2 : Nat) : (s.notice pRTK n a1 a2).fixes = s.fixes := State.notice_ctr _ _ _ _ _ _ _ _ _ rfl

theorem State.fixes_integCounts (m : Nat) (r : Solved) : (s.integCounts m r).fixes = s.fixes := by
  have hexcl (t : State) (n : Nat) : (t.inc C.RTK_CTRL_RAIM_EXCL 0 n).fixes = t.fixes := t.fixes_inc _ _ _ (by decide)
  have hfail (t : State) : ((t.inc C.RTK_CTRL_RAIM_FAIL).irq pRTK I.RTK_CTRL_RAIM_FAIL).fixes = t.fixes :=
    (State.irq_ctr _ _ _ _ _ (by decide)).trans (t.fixes_inc _ _ _ (by decide))
  unfold State.integCounts
  generalize (r.notices.find? fun n => decide (n.1 = 3)).map (·.2.1) = excluded
  cases excluded with
  | none => simp only [apply_ite State.fixes, State.fixes_notice, hfail, ite_self]
  | some k => simp only [apply_ite State.fixes, State.fixes_notice, hfail, hexcl, ite_self]

theorem State.fixes_disagreeNote (m : Nat) (note : Option (Nat × Nat × Nat)) : (s.disagreeNote m note).fixes = s.fixes := by
  unfold State.disagreeNote
  split
  · exact (State.fixes_notice ..).trans (s.fixes_inc _ _ _ (by decide))
  · exact State.event_ctr _ _ _ _ _ _ _ _ rfl
  · rfl

theorem State.fixes_disagreeHold (m : Nat) (note : Option (Nat × Nat × Nat)) : (s.disagreeHold m note).fixes = s.fixes := by
  have ⟨_, _, _, _, _, _, _, _⟩ := besideSolving_parts
  have ⟨_, _, _, _, _, _, _⟩ := besideSolving_blocks
  have ⟨_, _, _, _, _⟩ := Touch.logIns besideSolving
  exact State.fixes_of_rest (State.disagreeHold_rest ..)

theorem State.fixes_solveOut (toPlan : Bool) (m kind : Nat) (body : List Nat) : (s.solveOut toPlan m kind body).fixes = s.fixes := by
  have ⟨_, _, _, _, _, _, _, _⟩ := besideSolving_parts
  have ⟨_, _, _, _, _, _, _⟩ := besideSolving_blocks
  have ⟨_, _, _, _, _⟩ := Touch.logIns besideSolving
  exact State.fixes_of_rest (State.solveOut_rest ..)

theorem State.fixes_conform (m t : Nat) (pos : List Int) (hpl : Nat) : (s.conform m t pos hpl).fixes = s.fixes := by
  have ⟨_, _, _, _, _, _, _, _⟩ := besideSolving_parts
  have ⟨_, _, _, _, _, _, _⟩ := besideSolving_blocks
  exact State.fixes_of_rest (State.conform_rest ..)

theorem State.fixes_notePosition (m t : Nat) : (s.notePosition m t).fixes = s.fixes := rfl

end

theorem State.fixes_releaseFix (s : State) (w : CellWork) (b : Epoch) : (s.releaseFix w b).fixes = (s.fixes + 1) % 2 ^ 64 := by
  have hlate (t : State) (c : Bool) : (t.on c fun s => s.inc C.RTK_CTRL_LATE_FIX).fixes = t.fixes :=
    t.fixes_on c _ fun u => u.fixes_inc _ _ _ (by decide)
  have haccept (t : State) : (t.inc C.RTK_CTRL_AR_ACCEPT).fixes = t.fixes := t.fixes_inc _ _ _ (by decide)
  have hreject (t : State) : (t.inc C.RTK_CTRL_AR_REJECT).fixes = t.fixes := t.fixes_inc _ _ _ (by decide)
  have hstale (t : State) : (t.inc C.RTK_CTRL_OWN_FIX_STALE).fixes = t.fixes := t.fixes_inc _ _ _ (by decide)
  unfold State.releaseFix
  simp only [State.fixes_rtkShow, apply_ite State.fixes, State.fixes_conform, State.fixes_notePosition, State.fixes_on, State.fixes_disagreeHold,
    State.fixes_each, State.fixes_solveOut, State.fixes_disagreeNote, State.fixes_integCounts, haccept, hreject, hlate, State.fixes_incFixes,
    State.fixes_setTe, State.fixes_setRmem, apply_ite Prod.snd, State.fixes_freePos, hstale, ite_self, implies_true]

/-! ### A cell completes (R119, R120, R127) -/

theorem State.noteCost_rtk (s : State) (cycles : Nat) :
    (s.noteCost cycles).rtk = { s.rtk with costs := (s.now, cycles) :: s.rtk.costs.filter fun c => decide (s.now < c.1 + sec 10) } := rfl

/-- A cell has ended its work on a member-epoch: it is free, and its cycles count. -/
def State.cellDone (s : State) (cell cycles : Nat) : State :=
  ((((s.cellLeft cell).set F.CYCLES_LAST (cycles % 2 ^ 32) cell).inc C.SOLVER_BUSY_CYCLES cell cycles).inc C.SOLVER_SOLVED cell).noteCost cycles

theorem execSolveComplete_releases (s : State) (cell cycles : Nat) (w : CellWork) (b : Epoch)
    (hw : s.rtk.cells.find? (fun c => decide (c.cell = cell)) = some w) (hkeep : w.discard = false) (hlevel : s.level ≠ 3) (hb : w.me.base = some b) :
    exec (.solveComplete cell cycles) s = .next ((s.cellDone cell cycles).releaseFix w b) := by
  rw [exec, execSolveComplete, hw]
  dsimp only
  rw [if_neg fun h => hlevel h.1, if_neg (by rw [hkeep]; nofun), hb]
  rfl

theorem State.cellDone_rtk (s : State) (cell cycles : Nat) :
    (s.cellDone cell cycles).rtk.cells = s.rtk.cells.filter fun c => decide (c.cell ≠ cell) := by
  unfold State.cellDone
  rw [State.noteCost_rtk]
  rfl

theorem State.cellDone_now (s : State) (cell cycles : Nat) : (s.cellDone cell cycles).now = s.now := by
  have hcost (t : State) : (t.noteCost cycles).now = t.now := rfl
  unfold State.cellDone
  rw [hcost, State.inc_now, State.inc_now, State.set_now, State.cellLeft, State.set_now]

theorem State.cellDone_shows (s : State) (cell cycles : Nat) :
    (s.cellDone cell cycles).get F.CELL_STATUS_BUSY cell = 0 ∧ (s.cellDone cell cycles).get F.CYCLES_LAST cell = cycles % 2 ^ 32 := by
  have hcost (t : State) (F : Fld) (h : F.blk ≠ .rtkCtrl) : (t.noteCost cycles).get F cell = t.get F cell := State.get_set_blk _ _ _ _ _ _ _ _ h
  unfold State.cellDone State.cellLeft
  rw [hcost _ _ (by decide), hcost _ _ (by decide), State.get_inc, State.get_inc, State.get_inc, State.get_inc]
  constructor
  · exact (State.get_set_off _ _ _ _ _ _ _ _ (by decide) (by decide)).trans (State.get_set_same _ _ _ _ _ (by decide))
  · exact (State.get_set_same _ _ _ _ _ (by decide)).trans (Nat.mod_mod ..)

theorem State.cellDone_counts (s : State) (cell cycles : Nat) :
    (s.cellDone cell cycles).ctr ⟨.solver, cell⟩ C.SOLVER_SOLVED = (s.ctr ⟨.solver, cell⟩ C.SOLVER_SOLVED + 1) % 2 ^ 64 ∧
      (s.cellDone cell cycles).fixes = s.fixes := by
  have hbusy (t : State) : (t.inc C.SOLVER_BUSY_CYCLES cell cycles).ctr ⟨.solver, cell⟩ C.SOLVER_SOLVED = t.ctr ⟨.solver, cell⟩ C.SOLVER_SOLVED :=
    State.ctr_incP_off _ _ _ _ _ _ (by decide)
  have hother (t : State) (c : Ctr) (n : Nat) (h : c.blk = .solver) : (t.inc c cell n).fixes = t.fixes :=
    State.ctr_incP_blk t _ _ _ _ _ (by rw [h]; nofun)
  have hcost (t : State) (p : Page) (c : Ctr) : (t.noteCost cycles).ctr p c = t.ctr p c := rfl
  unfold State.cellDone
  constructor
  · rw [hcost]
    exact (State.ctr_inc_same ..).trans (congrArg (fun n => (n + 1) % 2 ^ 64) (hbusy _))
  · exact (hcost ..).trans ((hother _ _ _ rfl).trans (hother _ _ _ rfl))

/-- What the release of a fix touches. -/
def touchFix : Touch :=
  { touchLog with blks := [.core, .dispatch, .registry, .rtkCtrl] ++ touchLog.blks, fresh := true, pair := true, disp := true, mot := true, rtk := true }

theorem State.releaseFix_touches (s : State) (w : CellWork) (b : Epoch) : (s.releaseFix w b).rest touchFix = s.rest touchFix := by
  cases Touch.granting
  dsimp only [touchFix, touchLog, List.cons_append, List.nil_append]
  exact s.releaseFix_rest w b

theorem solveComplete_stores (s : State) (cell cycles : Nat) (w : CellWork) (b : Epoch)
    (hw : s.rtk.cells.find? (fun c => decide (c.cell = cell)) = some w) (hkeep : w.discard = false) (hlevel : s.level ≠ 3) (hb : w.me.base = some b) :
    ∃ t, exec (.solveComplete cell cycles) s = .next t ∧ (t.rtk.cells.any fun c => decide (c.cell = cell)) = false ∧
      t.get F.CELL_STATUS_BUSY cell = 0 ∧ t.ctr ⟨.solver, cell⟩ C.SOLVER_SOLVED = (s.ctr ⟨.solver, cell⟩ C.SOLVER_SOLVED + 1) % 2 ^ 64 ∧
      t.ctr ⟨.rtkCtrl, 0⟩ C.RTK_CTRL_FIXES = (s.ctr ⟨.rtkCtrl, 0⟩ C.RTK_CTRL_FIXES + 1) % 2 ^ 64 ∧
      (t.rmem w.me.member).solvedE = shiftNs w.shift w.me.e ∧ t.get F.CYCLES_LAST cell = cycles % 2 ^ 32 ∧ (t.rmem w.me.member).solvedAt = some s.now := by
  have hx := execSolveComplete_releases s cell cycles w b hw hkeep hlevel hb
  obtain ⟨hbusy, hcycles⟩ := s.cellDone_shows cell cycles
  obtain ⟨hsolved, hfixes⟩ := s.cellDone_counts cell cycles
  have hcells := s.cellDone_rtk cell cycles
  have hnow := s.cellDone_now cell cycles
  generalize s.cellDone cell cycles = u at *
  have hrest := u.releaseFix_touches w b
  obtain ⟨x, hrtk, he, hat⟩ := u.releaseFix_stores w b
  have hmem : (u.releaseFix w b).rmem w.me.member = x := (State.rmem_of_mems (congrArg RtkSt.mems hrtk) _).trans (State.rmem_setRmem_same ..)
  refine ⟨u.releaseFix w b, hx, ?_, ?_, ?_, ?_, ?_, ?_, ?_⟩
  · rw [hrtk, show (u.setRmem w.me.member x).rtk.cells = u.rtk.cells from rfl, hcells]
    exact cells_without ..
  · exact (State.get_of_rest hrest _ _ _ rfl).trans hbusy
  · exact (State.ctr_of_rest hrest _ _ rfl).trans hsolved
  · exact (u.fixes_releaseFix w b).trans (by rw [hfixes]; rfl)
  · rw [hmem, he]
  · exact (State.get_of_rest hrest _ _ _ rfl).trans hcycles
  · rw [hmem, hat, hnow]

end Sys2Proof.Machine
end

section
/-! SUPPORT. Correction epochs: what a delivered base epoch builds, and what a CORR entry sends (R144, R146, R192). With the member-epochs, the cells and the
time-outs that is the proof of `Obligations.RtkCorrectionsAndCells`. -/
namespace Sys2Proof.Machine
open Sys2Proof

/-! ### A correction epoch is built (R144, R145) -/

/-- A correction epoch of strobe `t`, with the antenna reference point, enters the port queues where CORR_CFG.AIR_EN says so. -/
def State.corrStored (s : State) (t : Nat) (x : CorrEpoch) : State :=
  { s with rtk := { s.rtk with corrE := t, corrSeq := (s.rtk.corrSeq + 1) % 65536, arpAt := some t, arpDue := false, antDue := false,
                               corr := if s.get F.CORR_CFG_AIR_EN = 1 then s.rtk.corr.map fun c => c ++ [x] else s.rtk.corr } }

/-- A correction epoch that was built is counted and shown, and goes to the host where CORR_CFG.HOST_EN says so. -/
def State.corrTold (s : State) (msgs : List (List Nat)) : State :=
  let s := (s.inc C.CORR_OUT_EPOCHS_BUILT).set F.LAST_SIZE (msgs.foldl (fun n m => n + m.length) 0)
  if s.get F.CORR_CFG_HOST_EN = 1 then s.qBytes 21 msgs.flatten else s

/-- A TQ worse than CORR_TQ_MAX is counted. -/
def State.corrSkips (s : State) : State := if s.get F.CORR_CFG2_CORR_TQ_MAX < s.get F.TIME_STATUS_TQ then s.inc C.CORR_OUT_SKIPPED_TQ else s

theorem State.corrMsgs_arp (s : State) (e : Epoch) (ant0 : Bool) : s.corrMsgs e true ant0 ≠ [] := nofun

theorem execCorrBuild_builds (s : State) (e : Epoch) (t0 : Nat) (he : s.gn.delivered.getLast? = some e)
    (ht : t0 = e.timeS * 1000000000 + e.timeNs) (hon : s.isOn .corrOut = true) (hnew : s.rtk.corrE < t0)
    (hdiv : t0 % (s.get F.CORR_CFG2_DIV * ratePeriod e.rate) = 0) (hvalid : s.get F.BASE_CTRL_BASE_VALID = 1)
    (hspoof : s.get F.CONSIST_STATUS_SPOOF = 0) (hlevel : s.level = 3) (harp : s.rtk.arpAt = none) :
    ∃ x : CorrEpoch, x.seq = s.corrSkips.rtk.corrSeq ∧ x.e = t0 ∧ exec .corrBuild s = .next ((s.corrSkips.corrStored t0 x).corrTold x.msgs) := by
  subst ht
  rw [exec, execCorrBuild, he]
  dsimp only
  rw [if_neg (by rw [hon, hvalid, hspoof, hlevel]; simp only [not_true, false_or]; omega), harp]
  simp only [Bool.or_true, if_true]
  rw [if_neg (State.corrMsgs_arp s e s.rtk.antDue)]
  exact ⟨_, rfl, rfl, rfl⟩

@[simp] theorem State.qBytes_rtk (s : State) (n : Nat) (l : List Nat) : (s.qBytes n l).rtk = s.rtk :=
  State.rtk_of_frame fun W _ _ _ _ _ _ _ _ _ _ => have ⟨_, _, _, _, _⟩ := Touch.logIns W; s.qBytes_rest n l

theorem State.ctr_qBytes (s : State) (n : Nat) (l : List Nat) (p : Page) (c : Ctr) (h : touchLog.has (some p.blk) = false) :
    (s.qBytes n l).ctr p c = s.ctr p c := by
  have := touchLog_log
  have ⟨_, _, _, _, _⟩ := Touch.logIns touchLog
  exact State.ctr_of_rest (W := touchLog) (s.qBytes_rest n l) p c h

theorem State.corrTold_rtk (s : State) (msgs : List (List Nat)) : (s.corrTold msgs).rtk = s.rtk := by
  unfold State.corrTold
  dsimp only
  split
  · exact State.qBytes_rtk ..
  · rfl

theorem State.corrTold_counts (s : State) (msgs : List (List Nat)) :
    (s.corrTold msgs).ctr pCORR C.CORR_OUT_EPOCHS_BUILT = (s.ctr pCORR C.CORR_OUT_EPOCHS_BUILT + 1) % 2 ^ 64 := by
  unfold State.corrTold
  dsimp only
  split
  · exact (State.ctr_qBytes _ _ _ _ _ rfl).trans (State.ctr_inc_same ..)
  · exact State.ctr_inc_same ..

theorem State.corrSkips_keeps (s : State) : s.corrSkips.rtk = s.rtk ∧ s.corrSkips.regs = s.regs ∧
    s.corrSkips.ctr pCORR C.CORR_OUT_EPOCHS_BUILT = s.ctr pCORR C.CORR_OUT_EPOCHS_BUILT := by
  unfold State.corrSkips
  split
  · exact ⟨rfl, rfl, State.ctr_incP_off _ _ _ _ _ _ (by decide)⟩
  · exact ⟨rfl, rfl, rfl⟩

theorem corrBuild_builds (s : State) (e : Epoch) (t0 : Nat) (he : s.gn.delivered.getLast? = some e)
    (ht : t0 = e.timeS * 1000000000 + e.timeNs) (hon : s.isOn .corrOut = true) (hnew : s.rtk.corrE < t0)
    (hdiv : t0 % (s.get F.CORR_CFG2_DIV * ratePeriod e.rate) = 0) (hvalid : s.get F.BASE_CTRL_BASE_VALID = 1)
    (hspoof : s.get F.CONSIST_STATUS_SPOOF = 0) (hlevel : s.level = 3) (harp : s.rtk.arpAt = none) :
    ∃ t, exec .corrBuild s = .next t ∧ t.rtk.corrE = t0 ∧ t.rtk.corrSeq = (s.rtk.corrSeq + 1) % 65536 ∧ t.rtk.arpAt = some t0 ∧
      t.ctr ⟨.corrOut, 0⟩ C.CORR_OUT_EPOCHS_BUILT = (s.ctr ⟨.corrOut, 0⟩ C.CORR_OUT_EPOCHS_BUILT + 1) % 2 ^ 64 ∧
      (s.get F.CORR_CFG_AIR_EN = 1 → ∀ q ∈ t.rtk.corr, q.getLast?.map (·.seq) = some s.rtk.corrSeq ∧ q.getLast?.map (·.e) = some t0) := by
  obtain ⟨x, hseq, hxe, hx⟩ := execCorrBuild_builds s e t0 he ht hon hnew hdiv hvalid hspoof hlevel harp
  obtain ⟨hrtk, hregs, hctr⟩ := s.corrSkips_keeps
  have htold := (s.corrSkips.corrStored t0 x).corrTold_rtk x.msgs
  refine ⟨_, hx, ?_, ?_, ?_, ?_, ?_⟩
  · rw [htold, State.corrStored]
  · rw [htold, State.corrStored, hrtk]
  · rw [htold, State.corrStored]
  · rw [State.corrTold_counts, ← hctr]
    rfl
  · intro hair q hq
    rw [htold, State.corrStored, State.get_of_regs hregs] at hq
    dsimp only at hq
    rw [if_pos hair] at hq
    obtain ⟨c, -, rfl⟩ := List.mem_map.mp hq
    rw [List.getLast?_concat, ← hxe, ← hrtk, ← hseq]
    exact ⟨rfl, rfl⟩

/-! ### A CORR entry (R146, R192) -/

/-- What is left to send of a port's correction epochs, replaced. -/
def State.corrPut (s : State) (p : Nat) (l : List CorrEpoch) : State := { s with rtk := { s.rtk with corr := setNth s.rtk.corr p l } }

theorem State.corrDrop_none (s : State) (c : Ctr) : s.corrDrop c 0 = s := rfl

/-- One epoch, neither aged nor before its time, stays. -/
theorem State.corrAge_one (s : State) (p t : Nat) (x : CorrEpoch) (hl : nth [] s.rtk.corr p = [x]) (hyoung : t < x.e + s.get F.MAX_AGE * 1000000)
    (hripe : x.built + 200000 ≤ t) : s.corrAge p t = s.corrPut p [x] := by
  unfold State.corrAge
  rw [hl]
  simp [hyoung, hripe, State.corrDrop_none, State.corrPut]

theorem takeMsgs_one (fits : Nat → Bool) (m : List Nat) (h : fits m.length = true) : takeMsgs fits 0 [m] = ([m], []) := by
  simp [takeMsgs, h]

theorem State.maySend_free {s : State} {p : Nat} (h : s.maySend p = true) : s.hgHolds p = false := by
  simp only [State.maySend, Bool.and_eq_true, Bool.not_eq_true'] at h
  exact h.1.1.1.1.1.1.1.1.2

theorem execCorrEntry_sends (s : State) (p i e : Nat) (x : CorrEpoch) (m : List Nat) (hdue : s.entryDue p i 3 = some e) (hlevel : s.level = 3)
    (hmay : s.maySend p = true) (hl : nth [] s.rtk.corr p = [x]) (hm : x.msgs = [m]) (hripe : x.built + 200000 ≤ s.entryAt e)
    (hyoung : s.entryAt e < x.e + s.get F.MAX_AGE * 1000000) (hfits : s.corrFits p (slRate e) (slLen e) m.length = true) :
    exec (.corrEntry p i) s = .next (((((s.entryRun p i).corrPut p [x]).corrPut p []).sendZone p 5 (slRate e) (toBytes 2 x.seq ++ [1, 1] ++ m)).inc
      C.CORR_OUT_BYTES_AIR 0 m.length) := by
  have hfree : ¬(s.entryRun p i).preempted p = true := Bool.eq_false_iff.mp (State.maySend_free hmay)
  have hage : (s.entryRun p i).corrAge p ((s.entryRun p i).entryAt e) = (s.entryRun p i).corrPut p [x] := State.corrAge_one _ _ _ x hl hyoung hripe
  have hput : nth [] ((s.entryRun p i).corrPut p [x]).rtk.corr p = [x] :=
    nth_setNth_same _ _ _ _ (lt_length_of_nth (d := []) fun h => absurd (hl.symm.trans h) (List.cons_ne_nil x []))
  have hsend : ¬(((s.entryRun p i).corrPut p [x]).level ≠ 3 ∨ ¬((s.entryRun p i).corrPut p [x]).maySend p = true) :=
    fun h => h.elim (· hlevel) (· hmay)
  have hfind : [x].find? (fun y => y.begun || decide (y.built + 200000 ≤ (s.entryRun p i).entryAt e)) = some x :=
    List.find?_cons_of_pos (by rw [Bool.or_eq_true, decide_eq_true_eq]; exact Or.inr hripe)
  have hfits' : ((s.entryRun p i).corrPut p [x]).corrFits p (slRate e) (slLen e) m.length = true := hfits
  rw [exec, execCorrEntry, hdue]
  dsimp only
  rw [if_neg hfree, hage, if_neg hsend, hput, hfind]
  generalize (s.entryRun p i).corrPut p [x] = u at *
  simp [hm, hfits', takeMsgs_one _ m hfits', State.corrPut, b2n]

/-! ### A frame of the zone on air (R180, R389) -/

/-- What the sending of a frame touches, with or without the state of the air ports. -/
def sending (air : Bool) : Touch := { blks := [.airport, .frameSec, .pcie], vecSent := true, out := true, hg := true, air := air }

theorem sending_parts (air : Bool) : (sending air).VecSent ∧ (sending air).Out ∧ (sending air).Hg ∧ (sending air).In .airport ∧
    (sending air).In .frameSec ∧ (sending air).In .pcie := ⟨⟨rfl⟩, ⟨rfl⟩, ⟨rfl⟩, ⟨rfl⟩, ⟨rfl⟩, ⟨rfl⟩⟩

theorem State.sendZone_sending (s : State) (p typ rate : Nat) (body : List Nat) :
    (s.sendZone p typ rate body).rest (sending true) = s.rest (sending true) := by
  have ⟨_, _, _, _, _, _⟩ := sending_parts true
  have : (sending true).Air := ⟨rfl⟩
  exact State.sendZone_rest ..

theorem State.takeNums_sending (s : State) (p : Nat) : (s.takeNums p).2.2.rest (sending true) = s.rest (sending true) := by
  have ⟨_, _, _, _, _, _⟩ := sending_parts true
  have : (sending true).Air := ⟨rfl⟩
  exact State.takeNums_rest ..

/-- The counters of a frame are taken without an entry becoming due again. -/
theorem State.takeNums_done (s : State) (p : Nat) : (s.takeNums p).2.2.air.done = s.air.done := by
  have ⟨_, _, _, _, _, _⟩ := sending_parts false
  have hnoted (t : State) (v : Nat) : ((t.nearSets p).noteFcnt v).air = t.air :=
    State.air_of_rest (W := sending false) ((State.noteFcnt_rest ..).trans (State.nearSets_rest ..)) rfl
  unfold State.takeNums
  dsimp only
  rw [hnoted]

theorem State.strobes_air (s : State) (p at_ us : Nat) : (s.strobes p at_ us).air = s.air :=
  have ⟨_, _, _, _, _, _⟩ := sending_parts false
  State.air_of_rest (W := sending false) (State.strobes_rest ..) rfl

theorem State.setPort_done (s : State) (p : Nat) (x : PortSt) : (s.setPort p x).air.done = s.air.done := rfl

theorem State.ppduAt_done (s : State) (p at_ rate n : Nat) : (s.ppduAt p at_ rate n).air.done = s.air.done := by
  unfold State.ppduAt
  split
  · rfl
  · rw [State.setPort_done, State.strobes_air]
    rfl

theorem State.airEmit_air (s : State) (p : Nat) (hg : Bool) (f : AirFrame) : (s.airEmit p hg f).air = s.air := by
  unfold State.airEmit
  split <;> rfl

theorem State.sendZone_done (s : State) (p typ rate : Nat) (body : List Nat) : (s.sendZone p typ rate body).air.done = s.air.done :=
  (State.ppduAt_done ..).trans ((congrArg AirSt.done (State.airEmit_air ..)).trans (State.takeNums_done ..))

theorem State.gateNow_of_rest {s t : State} (h : t.rest (sending true) = s.rest (sending true)) : t.gateNow = s.gateNow := by
  have hget (F : Fld) (hb : F.blk = .pair) : t.get F = s.get F := State.get_of_rest h F 0 0 (by rw [hb]; rfl)
  simp only [State.gateNow, State.isPaired, hget F.PAIR_STATUS_STATE rfl, hget F.PAIR_STATUS_CLAIM_OWN rfl, hget F.PAIR_STATUS_CLAIM_PEER rfl,
    State.pair_of_rest h rfl, State.now_of_rest h]

theorem State.sent_strobes {s : State} {l : List Out} (p at_ us : Nat) (h : s.hasSent l) : (s.strobes p at_ us).hasSent l := by
  have hon (t : State) (c : Bool) (o : Out) (ht : t.hasSent l) : (t.on c fun u => u.emit o).hasSent l := State.sent_of_if (State.sent_emit _ ht) ht
  exact State.sent_emit _ (hon _ _ _ (State.sent_emit _ (State.sent_emit _ (State.sent_of_if (State.sent_emit _ h)
    (State.sent_emit _ (hon _ _ _ (State.sent_emit _ (State.sent_emit _ h))))))))

theorem State.sent_ppduAt {s : State} {l : List Out} (p at_ rate n : Nat) (h : s.hasSent l) : (s.ppduAt p at_ rate n).hasSent l :=
  State.sent_of_if h (State.sent_strobes p _ _ (State.sent_inc C.AIRPORT_PPDU_TX p 1 h))

/-- A frame of this type and body, of the slot engine's, from this port. -/
def Out.zoneFrame (p typ : Nat) (body : List Nat) : Out → Bool
  | .air q false f => decide (q = p ∧ f.typ = typ ∧ f.body = body)
  | _ => false

/-- With the transmit gate open a frame of the zone goes on air. -/
theorem State.sendZone_sends (s : State) (p typ rate : Nat) (body : List Nat) (hgate : s.gateNow = true) (hext : s.dbg.extest = false) :
    (s.sendZone p typ rate body).out.any (Out.zoneFrame p typ body) = true := by
  have hrest := s.takeNums_sending p
  have hopen : ((s.takeNums p).2.2.gateNow && !(s.takeNums p).2.2.dbg.extest) = true := by
    rw [State.gateNow_of_rest hrest, State.dbg_of_rest hrest rfl, hgate, hext]
    rfl
  have hemit (f : AirFrame) : ((s.takeNums p).2.2.airEmit p false f).hasSent (.air p false f :: (s.takeNums p).2.2.out) := by
    rw [State.airEmit, if_pos hopen]
    exact List.suffix_rfl
  have hsent : (s.sendZone p typ rate body).hasSent (_ :: _) := State.sent_ppduAt _ _ _ _ (hemit _)
  exact List.any_eq_true.mpr ⟨_, hsent.subset List.mem_cons_self, decide_eq_true ⟨rfl, rfl, rfl⟩⟩

/-! ### The CORR entry sends the epoch (R146, R192) -/

theorem corrEntry_sends (s : State) (p i e : Nat) (x : CorrEpoch) (m : List Nat) (hdue : s.entryDue p i 3 = some e) (hlevel : s.level = 3)
    (hmay : s.maySend p = true) (hgate : s.gateNow = true) (hext : s.dbg.extest = false) (hl : nth [] s.rtk.corr p = [x]) (hm : x.msgs = [m])
    (hripe : x.built + 200000 ≤ s.entryAt e) (hyoung : s.entryAt e < x.e + s.get F.MAX_AGE * 1000000)
    (hfits : s.corrFits p (slRate e) (slLen e) m.length = true) :
    ∃ t, exec (.corrEntry p i) s = .next t ∧ nth [] t.rtk.corr p = [] ∧ (p, i) ∈ t.air.done ∧
      t.ctr ⟨.corrOut, 0⟩ C.CORR_OUT_BYTES_AIR = (s.ctr ⟨.corrOut, 0⟩ C.CORR_OUT_BYTES_AIR + m.length) % 2 ^ 64 ∧
      t.out.any (Out.zoneFrame p 5 (toBytes 2 x.seq ++ [1, 1] ++ m)) = true := by
  refine ⟨_, execCorrEntry_sends s p i e x m hdue hlevel hmay hl hm hripe hyoung hfits, ?_⟩
  have hput : ((((s.entryRun p i).corrPut p [x]).corrPut p [])).air.done = (p, i) :: s.air.done := rfl
  have hleft : nth [] (((s.entryRun p i).corrPut p [x]).corrPut p []).rtk.corr p = [] := nth_setNth_default ..
  have hctr : (((s.entryRun p i).corrPut p [x]).corrPut p []).ctr ⟨.corrOut, 0⟩ C.CORR_OUT_BYTES_AIR = s.ctr ⟨.corrOut, 0⟩ C.CORR_OUT_BYTES_AIR := rfl
  have hgate' : (((s.entryRun p i).corrPut p [x]).corrPut p []).gateNow = true := hgate
  have hext' : (((s.entryRun p i).corrPut p [x]).corrPut p []).dbg.extest = false := hext
  generalize ((s.entryRun p i).corrPut p [x]).corrPut p [] = u at *
  have hrest := u.sendZone_sending p 5 (slRate e) (toBytes 2 x.seq ++ [1, 1] ++ m)
  refine ⟨?left, ?done, ?counted, u.sendZone_sends p 5 _ _ hgate' hext'⟩
  case left => exact (congrArg (fun r : RtkSt => nth [] r.corr p) (State.rtk_of_rest hrest rfl)).trans hleft
  case done => exact (u.sendZone_done ..).trans hput ▸ List.mem_cons_self
  case counted =>
    refine (State.ctr_inc_same ..).trans ?_
    rw [State.ctr_of_rest hrest ⟨.corrOut, 0⟩ _ rfl, hctr]

/-- Settles O22: one lemma for each clause, from the queue of member-epochs over the cells, the shedding, the time-outs and the loss of the base to the
corrections on air. -/
theorem rtkCorrectionsAndCells : Obligations.RtkCorrectionsAndCells :=
  ⟨memberEpochReady_delivered, memberEpochReady_withheld, cellTake_takes, deadlineDrop_drops,
   fun s cell cycles w b hw _ hkeep hlevel hb => solveComplete_stores s cell cycles w b hw hkeep hlevel hb,
   cellWatchdog_givesUp, rtkCapacityEval_shows, signalAbsentTimeout_leaves, fun s m a _ hat hlate => memberStateTimeout_clears s m a hat hlate,
   baseLost_tells, corrBuild_builds, corrEntry_sends⟩

end Sys2Proof.Machine
end

section
/-! SUPPORT. The page of an air port, and what errors and the states of its block leave of it; with them framing lock and its loss, and a start
without lock (R52, R152, R160). -/
namespace Sys2Proof.Machine
open Sys2Proof

/-! ### What stands in a port's page (R50, R54) -/

@[simp] theorem State.get_setPort (s : State) (p : Nat) (x : PortSt) (F : Fld) (i k : Nat) : (s.setPort p x).get F i k = s.get F i k := rfl
@[simp] theorem State.st_setPort (s : State) (p : Nat) (x : PortSt) (q : Page) : (s.setPort p x).st q = s.st q := rfl
@[simp] theorem State.ctr_setPort (s : State) (p : Nat) (x : PortSt) (q : Page) (c : Ctr) : (s.setPort p x).ctr q c = s.ctr q c := rfl

theorem State.port_setPort_same (s : State) (p : Nat) (x : PortSt) (h : p < s.air.ports.length) : (s.setPort p x).port p = x :=
  nth_setNth_same _ _ _ _ h

theorem State.ctr_inc_off (s : State) (c : Ctr) (i n : Nat) (q : Page) (d : Ctr) (h : d.off % 0x1000 ≠ c.off % 0x1000) :
    (s.inc c i n).ctr q d = s.ctr q d := State.ctr_incP_off s ⟨c.blk, i⟩ c n q d h

theorem bit_eq_testBit (x n : Nat) : bit x n = x.testBit n := by
  rw [Nat.testBit_eq_decide_div_mod_eq]
  rfl

/-- A bit that is set in a field wide enough. -/
theorem bit_lor_mod (x n w : Nat) (h : n < w) : bit (Nat.lor x (2 ^ n) % 2 ^ w) n = true := by
  have hlor : (Nat.lor x (2 ^ n)).testBit n = (x.testBit n || (2 ^ n).testBit n) := Nat.testBit_or ..
  rw [bit_eq_testBit, Nat.testBit_mod_two_pow, hlor, Nat.testBit_two_pow_self]
  simp [h]

/-- A bit of IRQ_STATUS is as it was when another one is set. -/
theorem State.irqUp_irq_ne (s : State) (p q : Page) (n m : Nat) (hn : n < 32) (h : n ≠ m) : (s.irq q m).irqUp p n = s.irqUp p n := by
  unfold State.irqUp State.irq
  by_cases ha : p.adr 0x01C = q.adr 0x01C
  · have hlor : (Nat.lor (s.reg (q.adr 0x01C)) (2 ^ m)).testBit n = ((s.reg (q.adr 0x01C)).testBit n || (2 ^ m).testBit n) := Nat.testBit_or ..
    rw [ha, State.irqBits_word, bit_eq_testBit, bit_eq_testBit, Nat.testBit_mod_two_pow, hlor, Nat.testBit_two_pow_of_ne h.symm]
    simp [hn]
  · rw [State.irqBits_reg _ _ _ _ ha]

theorem State.irq_ctr_port (s : State) (q : Page) (m p : Nat) (c : Ctr) : (s.irq q m).ctr (pAP p) c = s.ctr (pAP p) c :=
  State.irq_ctr s q m (pAP p) c nofun

/-- A bit of IRQ_STATUS and a counter of a rule of the block's own: neither ERROR nor STATE_CHG, neither of the counts of errors. -/
def ownEvent (n : Nat) (c : Ctr) : Prop := 1 < n ∧ n < 32 ∧ c.off % 0x1000 ≠ 0x040 ∧ c.off % 0x1000 ≠ 0x048

theorem ownEvent_framingLoss : ownEvent I.AIRPORT_FRAMING_LOSS C.AIRPORT_FRAMING_LOSS := by
  unfold ownEvent
  decide

theorem ownEvent_healthFail : ownEvent I.AIRPORT_HEALTH_FAIL C.AIRPORT_HEALTH_FAIL := by
  unfold ownEvent
  decide

/-- What a port's page shows of its state, of an event and of a counter. -/
def State.portView (s : State) (p n : Nat) (c : Ctr) : Nat × Bool × Nat := (s.st (pAP p), s.irqUp (pAP p) n, s.ctr (pAP p) c)

section
variable (s : State) (p n : Nat) (c : Ctr)

theorem State.portView_of_rest {W : Touch} {s t : State} (h : t.rest W = s.rest W) (hb : W.has (some .airport) = false) (p n : Nat) (c : Ctr) :
    t.portView p n c = s.portView p n c :=
  Prod.ext (State.getP_of_rest h (pAP p) _ hb)
    (Prod.ext (congrArg (bit · n) (State.reg_of_rest h (pAP p) 0x01C hb)) (State.ctr_of_rest h (pAP p) c hb))

theorem State.portView_setReg (q : Page) (o v : Nat) (ho : o < 0x1000) (hst : o ≠ 0x00C) (hirq : o ≠ 0x01C) :
    (s.setReg (q.adr o) v).portView p n c = s.portView p n c :=
  have hreg (a : Nat) (ha : a < 0x1000) (hne : a ≠ o) : (s.setReg (q.adr o) v).reg ((pAP p).adr a) = s.reg ((pAP p).adr a) :=
    State.reg_setReg_ne _ _ _ _ (Page.off_ne _ _ _ _ ha ho hne)
  Prod.ext (congrArg (bits · 0 3) (hreg 0x00C (by decide) hst.symm)) (Prod.ext (congrArg (bit · n) (hreg 0x01C (by decide) hirq.symm)) rfl)

theorem State.portView_set (F : Fld) (v i : Nat) (ho : F.off < 0x1000) (hst : F.off ≠ 0x00C) (hirq : F.off ≠ 0x01C) :
    (s.set F v i).portView p n c = s.portView p n c := by
  rw [State.set, Fld.addr, Nat.zero_mul, Nat.add_zero]
  exact s.portView_setReg p n c _ _ _ ho hst hirq

theorem State.portView_setState (v : Nat) (hv : v < 8) :
    (s.setP (pAP p) F.STATE v).portView p n c = (v, s.irqUp (pAP p) n, s.ctr (pAP p) c) := by
  have hst : (s.setP (pAP p) F.STATE v).st (pAP p) = v := (State.getP_setP_same _ _ _ _ (by decide)).trans (Nat.mod_eq_of_lt hv)
  have hword : (s.setP (pAP p) F.STATE v).reg ((pAP p).adr 0x01C) = s.reg ((pAP p).adr 0x01C) :=
    State.reg_setReg_ne _ _ _ _ (Page.off_ne _ _ _ _ (by decide) (by decide) (by decide))
  exact Prod.ext hst (Prod.ext (congrArg (bit · n) hword) rfl)

theorem State.portView_setPage (q : Page) (g : PageSt) : (s.setPage q g).portView p n c = s.portView p n c := rfl

theorem State.portView_event (code source a b d : Nat) : (s.event code source a b d).portView p n c = s.portView p n c :=
  have := touchLog_log
  State.portView_of_rest (W := touchLog) (State.event_rest ..) rfl p n c

theorem State.portView_recompute : s.recompute.portView p n c = s.portView p n c := State.portView_of_rest s.recompute_level rfl p n c

/-- What the arbiter's drop of a block's requests touches. -/
def touchArb : Touch := { blks := [.pcie, .regionCtl], vecSent := true, out := true, arb := true }

theorem State.portView_arbDrop (q : Page) : (s.arbDrop q).portView p n c = s.portView p n c :=
  have : touchArb.VecSent := ⟨rfl⟩
  have : touchArb.Out := ⟨rfl⟩
  have : touchArb.Arb := ⟨rfl⟩
  have : touchArb.In .pcie := ⟨rfl⟩
  have : touchArb.In .regionCtl := ⟨rfl⟩
  State.portView_of_rest (State.arbDrop_rest (W := touchArb) ..) rfl p n c

theorem State.portView_regionCheck (r : Nat) : (s.regionCheck r).portView p n c = s.portView p n c := by
  unfold State.regionCheck
  dsimp only
  split
  · exact s.portView_set p n c F.SVC_STATUS_FAILED_REGIONS _ 0 (by decide) (by decide) (by decide)
  · rfl

theorem State.portView_dropBurst (i : Nat) : (s.dropBurst i).portView p n c = s.portView p n c := by
  have hports (t : State) (v : Nat) : (t.set F.HG_STATE_PORTS v).portView p n c = t.portView p n c :=
    t.portView_set p n c F.HG_STATE_PORTS v 0 (by decide) (by decide) (by decide)
  have hburst (t : State) (v : Nat) : (t.set F.HG_STATE_BURST v).portView p n c = t.portView p n c :=
    t.portView_set p n c F.HG_STATE_BURST v 0 (by decide) (by decide) (by decide)
  have hsource : (s.set F.PORT_STATUS_TX_SRC 0 i).portView p n c = s.portView p n c :=
    s.portView_set p n c F.PORT_STATUS_TX_SRC 0 i (by decide) (by decide) (by decide)
  unfold State.dropBurst
  simp only [apply_ite (State.portView · p n c), hburst, ite_self]
  exact (hports _ _).trans hsource

theorem State.portView_portDown (i : Nat) : (s.portDown i).portView p n c = s.portView p n c := by
  have hbusy (t : State) : (t.set F.SPI_TXN_BUSY 0 i).portView p n c = t.portView p n c :=
    t.portView_set p n c F.SPI_TXN_BUSY 0 i (by decide) (by decide) (by decide)
  have hlock (t : State) : (t.set F.PORT_STATUS_RX_LOCK 0 i).portView p n c = t.portView p n c :=
    t.portView_set p n c F.PORT_STATUS_RX_LOCK 0 i (by decide) (by decide) (by decide)
  exact (hbusy _).trans ((hlock _).trans (State.portView_dropBurst ..))

/-- An error of a port's block is reported, and an UNCONTAINED one may take it to FAULT: no port is in region 7. -/
theorem State.blockError_port (cls code : Nat) : s.blockError (pAP p) 0xFF cls code 0 0 0 =
    if cls = 3 ∧ (s.errReport (pAP p) 0xFF cls code false 0 0 0).mayFault (pAP p) then (s.errReport (pAP p) 0xFF cls code false 0 0 0).enterFault (pAP p)
    else s.errReport (pAP p) 0xFF cls code false 0 0 0 := by
  have hregion : (pAP p).region ≠ 7 := (by decide : (3 : Nat) ≠ 7)
  rw [State.blockError, if_neg fun hgate => hregion hgate.1]

variable {n c} (h : ownEvent n c)
include h

theorem State.portView_irq (m : Nat) (hm : m ≤ 1) : (s.irq (pAP p) m).portView p n c = s.portView p n c := by
  obtain ⟨hlo, hhi, -, -⟩ := h
  exact Prod.ext (State.irq_getP _ _ _ _ _ (Page.off_ne _ _ _ _ (by decide) (by decide) (by decide)))
    (Prod.ext (State.irqUp_irq_ne _ _ _ _ _ hhi (by omega)) (State.irq_ctr_port ..))

/-- An error changes neither the state of the port's block, nor what its own rules have noted. -/
theorem State.portView_errReport (cell cls code : Nat) (injected : Bool) (a0 a1 a2 : Nat) :
    (s.errReport (pAP p) cell cls code injected a0 a1 a2).portView p n c = s.portView p n c := by
  obtain ⟨-, -, hcorr, hcont⟩ := id h
  have hshow (t : State) (v : Nat) : (t.setReg ((pAP p).adr 0x010) v).portView p n c = t.portView p n c :=
    t.portView_setReg p n c _ _ v (by decide) (by decide) (by decide)
  have hcount (t : State) (d : Ctr) (hd : c.off % 0x1000 ≠ d.off % 0x1000) : (t.incP (pAP p) d).portView p n c = t.portView p n c :=
    Prod.ext rfl (Prod.ext rfl (State.ctr_incP_off _ _ _ _ _ _ hd))
  have hsum (t : State) (v i : Nat) : (t.set F.ERR_SUMMARY v i).portView p n c = t.portView p n c :=
    t.portView_set p n c F.ERR_SUMMARY v i (by decide) (by decide) (by decide)
  unfold State.errReport State.errShow
  simp only [apply_ite (State.portView · p n c), State.portView_event, State.portView_irq _ p h 0 (Nat.zero_le 1), hsum,
    State.portView_setPage, hcount _ C.CORR_COUNT hcorr, hcount _ C.CONT_COUNT hcont, hshow, ite_self]

/-- A port's block goes to another state: the page shows it, and what its own rules have noted stays. -/
theorem State.portView_goState (v : Nat) (hv : v < 8) (hst : s.st (pAP p) ≠ v) :
    (s.goState (pAP p) v).portView p n c = (v, s.irqUp (pAP p) n, s.ctr (pAP p) c) := by
  have hon (t : State) (b : Bool) (f : State → State) (hf : ∀ u, (f u).portView p n c = u.portView p n c) : (t.on b f).portView p n c = t.portView p n c :=
    State.on_keeps (State.portView · p n c) t b f (hf t)
  have hrestart (t : State) : (t.setP (pAP p) F.CTRL_RESTART 0).portView p n c = t.portView p n c :=
    t.portView_setReg p n c _ _ _ (by decide) (by decide) (by decide)
  have hbroken (t : State) (b : Bool) : (t.on b fun u => { u with pair := { u.pair with brokeAt := u.now } }).portView p n c = t.portView p n c :=
    hon _ _ _ fun _ => rfl
  unfold State.goState
  rw [if_neg hst]
  dsimp only
  simp only [State.portView_recompute, hon, State.portView_portDown, State.portView_regionCheck, State.portView_arbDrop,
    State.portView_irq _ p h 1 (Nat.le_refl 1), State.portView_setState _ p n c v hv, implies_true]
  exact congrArg (Prod.mk v) (congrArg Prod.snd ((hbroken _ _).trans (hon _ _ _ hrestart)))

theorem State.portView_enterFault (hst : s.st (pAP p) ≠ stFault) :
    (s.enterFault (pAP p)).portView p n c = (stFault, s.irqUp (pAP p) n, s.ctr (pAP p) c) := by
  have hgo (t : State) (ht : t.portView p n c = s.portView p n c) :
      (t.goState (pAP p) stFault).portView p n c = (stFault, s.irqUp (pAP p) n, s.ctr (pAP p) c) :=
    have hne : t.st (pAP p) ≠ stFault := fun hsame => hst ((congrArg Prod.fst ht).symm.trans hsame)
    (t.portView_goState p h stFault (by decide) hne).trans (congrArg (Prod.mk stFault) (congrArg Prod.snd ht))
  unfold State.enterFault
  exact hgo _ (State.portView_setPage ..)

/-- An UNCONTAINED error takes a port that is ON or STARTING to FAULT (R52). -/
theorem State.portView_portError (code : Nat) (hst : s.st (pAP p) = stOn ∨ s.st (pAP p) = stStarting) :
    (s.portError p code).portView p n c = (stFault, s.irqUp (pAP p) n, s.ctr (pAP p) c) := by
  have hrep := s.portView_errReport p h 0xFF 3 code false 0 0 0
  have hstays : (s.errReport (pAP p) 0xFF 3 code false 0 0 0).st (pAP p) = s.st (pAP p) := congrArg Prod.fst hrep
  have hfalls : (s.errReport (pAP p) 0xFF 3 code false 0 0 0).mayFault (pAP p) = true := by
    simp only [State.mayFault, hstays]
    rcases hst with hst | hst <;> simp [hst]
  have hne : (s.errReport (pAP p) 0xFF 3 code false 0 0 0).st (pAP p) ≠ stFault := by
    rw [hstays]
    rcases hst with hst | hst <;> rw [hst] <;> decide
  rw [State.portError, State.blockError_port, if_pos ⟨rfl, hfalls⟩]
  exact (State.portView_enterFault _ p h hne).trans (congrArg (Prod.mk stFault) (congrArg Prod.snd hrep))

end

/-- A CONTAINED error leaves the framing lock alone. -/
theorem State.rxLock_errReport (s : State) (p code : Nat) :
    (s.errReport (pAP p) 0xFF 2 code false 0 0 0).get F.PORT_STATUS_RX_LOCK p = s.get F.PORT_STATUS_RX_LOCK p := by
  have hirq (t : State) : (t.irq (pAP p) 0).get F.PORT_STATUS_RX_LOCK p = t.get F.PORT_STATUS_RX_LOCK p := State.irq_get_off _ _ _ _ _ _ (by decide)
  have hevent (t : State) (code source a b d : Nat) : (t.event code source a b d).get F.PORT_STATUS_RX_LOCK p = t.get F.PORT_STATUS_RX_LOCK p :=
    State.event_get _ _ _ _ _ _ _ _ _ rfl
  have hsum (t : State) (v i : Nat) : (t.set F.ERR_SUMMARY v i).get F.PORT_STATUS_RX_LOCK p = t.get F.PORT_STATUS_RX_LOCK p :=
    State.get_set_blk _ _ _ _ _ _ _ _ nofun
  have hshow (t : State) (v : Nat) : (t.setReg ((pAP p).adr 0x010) v).get F.PORT_STATUS_RX_LOCK p = t.get F.PORT_STATUS_RX_LOCK p :=
    congrArg (bits · 2 1) (State.reg_setReg_ne _ _ _ _ (Page.off_ne _ _ _ _ (by decide) (by decide) (by decide)))
  have hpage (t : State) (g : PageSt) : (t.setPage (pAP p) g).get F.PORT_STATUS_RX_LOCK p = t.get F.PORT_STATUS_RX_LOCK p := rfl
  have hcount (t : State) (c : Ctr) : (t.incP (pAP p) c).get F.PORT_STATUS_RX_LOCK p = t.get F.PORT_STATUS_RX_LOCK p := rfl
  unfold State.errReport State.errShow
  simp only [apply_ite (State.get · F.PORT_STATUS_RX_LOCK p), hevent, hirq, hsum, hpage, hcount, hshow, ite_self]

/-! ### Framing lock (R152, R160) -/

theorem framingLock_locks (s : State) (p : Nat) (hp : p < 4) (hen : s.rxEn p = true) (hroot : s.get F.ROOT_STATUS_ROOT_LOCK = 1)
    (hno : s.get F.PORT_STATUS_RX_LOCK p = 0) :
    ∃ t, exec (.framingLock p) s = .next t ∧ t.get F.PORT_STATUS_RX_LOCK p = 1 ∧ t.get F.PORT_STATUS_SVC p = s.get F.PORT_STATUS_SVC p := by
  have hwords : s.rxWords p = true := by simp [State.rxWords, hen, hroot]
  have hlock : (s.set F.PORT_STATUS_RX_LOCK 1 p).get F.PORT_STATUS_RX_LOCK p = 1 := State.get_set_same _ _ _ _ _ (by decide)
  have hsvc : (s.set F.PORT_STATUS_RX_LOCK 1 p).get F.PORT_STATUS_SVC p = s.get F.PORT_STATUS_SVC p :=
    State.get_set_off _ _ _ _ _ _ _ _ (by decide) (by decide)
  have hx : exec (.framingLock p) s = .next (if (s.set F.PORT_STATUS_RX_LOCK 1 p).st (pAP p) = stStarting ∧ (s.port p).step = 4
      then (s.set F.PORT_STATUS_RX_LOCK 1 p).setPort p { s.port p with step := 5 } else s.set F.PORT_STATUS_RX_LOCK 1 p) := by
    show execFramingLock p s = _
    rw [execFramingLock, if_neg (by simp [hwords, hno]; omega)]
    rfl
  refine ⟨_, hx, ?_⟩
  split
  · exact ⟨hlock, hsvc⟩
  · exact ⟨hlock, hsvc⟩

/-- The loss of framing lock, before it counts as an error. -/
def State.lockLost (s : State) (p : Nat) : State :=
  ((s.set F.PORT_STATUS_RX_LOCK 0 p).inc C.AIRPORT_FRAMING_LOSS p).irq (pAP p) I.AIRPORT_FRAMING_LOSS

theorem State.lockLost_shows (s : State) (p : Nat) :
    (s.lockLost p).get F.PORT_STATUS_RX_LOCK p = 0 ∧ (s.lockLost p).irqUp (pAP p) I.AIRPORT_FRAMING_LOSS = true ∧
      (s.lockLost p).ctr (pAP p) C.AIRPORT_FRAMING_LOSS = (s.ctr (pAP p) C.AIRPORT_FRAMING_LOSS + 1) % 2 ^ 64 := by
  unfold State.lockLost
  refine ⟨?_, State.irq_up _ _ _ (by decide), ?_⟩
  · rw [State.irq_get_off _ _ _ _ _ _ (by decide), State.get_inc, State.get_set_same _ _ _ _ _ (by decide)]
    rfl
  · rw [State.irq_ctr_port, State.ctr_inc_same, State.ctr_set]

theorem framingLoss_counts (s : State) (p : Nat) (hp : p < 4) (hen : s.rxEn p = true) (hlock : s.get F.PORT_STATUS_RX_LOCK p = 1) :
    ∃ t, exec (.framingLoss p) s = .next t ∧ t.get F.PORT_STATUS_RX_LOCK p = 0 ∧ t.irqUp (pAP p) I.AIRPORT_FRAMING_LOSS = true ∧
      t.ctr (pAP p) C.AIRPORT_FRAMING_LOSS = (s.ctr (pAP p) C.AIRPORT_FRAMING_LOSS + 1) % 2 ^ 64 := by
  have hx : exec (.framingLoss p) s = .next (if (s.lockLost p).nearGap then s.lockLost p else (s.lockLost p).blockError (pAP p) 0xFF 2 0x02 0 0 0) := by
    show execFramingLoss p s = _
    rw [execFramingLoss, if_neg (by simp [hen, hlock]; omega)]
    rfl
  refine ⟨_, hx, ?_⟩
  rw [State.blockError_port, if_neg (c := (2 : Nat) = 3 ∧ _) fun hcls => absurd hcls.1 (by decide)]
  split
  · exact s.lockLost_shows p
  · have hview := (s.lockLost p).portView_errReport p ownEvent_framingLoss 0xFF 2 0x02 false 0 0 0
    obtain ⟨hfree, hup, hcount⟩ := s.lockLost_shows p
    obtain ⟨-, hlog⟩ := Prod.mk.inj hview
    obtain ⟨hupStays, hcountStays⟩ := Prod.mk.inj hlog
    exact ⟨(State.rxLock_errReport ..).trans hfree, hupStays.trans hup, hcountStays.trans hcount⟩

/-! ### A start without lock (R160) -/

theorem airportStartTimeout_faults (s : State) (p : Nat) (hp : p < 4) (hst : s.st (pAP p) = stStarting) (hstep : (s.port p).step = 4)
    (hno : s.get F.PORT_STATUS_RX_LOCK p = 0) (hlate : (s.port p).rxAt + ms 1 ≤ s.now) :
    ∃ t, exec (.airportStartTimeout p) s = .next t ∧ t.st (pAP p) = stFault := by
  have hx : exec (.airportStartTimeout p) s = .next (s.portError p 0x02) := by
    show execAirportStartTimeout p s = _
    rw [execAirportStartTimeout, if_neg (by simp [hst]; omega), if_pos ⟨hstep, hno, hlate⟩]
  exact ⟨_, hx, congrArg Prod.fst (s.portView_portError p ownEvent_healthFail 0x02 (.inr hst))⟩

end Sys2Proof.Machine
end

section
/-! SUPPORT. PPDUs of an air port: what is sent, and how far a received PPDU comes (R153, R155, R166, R181). -/
namespace Sys2Proof.Machine
open Sys2Proof

/-! ### A PPDU sent (R153, R166) -/

/-- What only leaves the chip. -/
def touchEmit : Touch := { out := true }

theorem State.ctr_strobes (s : State) (p at_ us : Nat) (q : Page) (c : Ctr) : (s.strobes p at_ us).ctr q c = s.ctr q c := by
  have : touchEmit.Out := ⟨rfl⟩
  exact State.ctr_of_rest (W := touchEmit) (State.strobes_rest ..) q c rfl

theorem ppduTx_holds (s : State) (p rate len : Nat) (hp : p < 4) (hon : s.isOn .airport p = true) (hroot : s.get F.ROOT_STATUS_ROOT_LOCK = 1)
    (hrate : rate < 8) (hlo : 14 ≤ len) (hhi : len ≤ 2048) (hport : p < s.air.ports.length) :
    ∃ t, exec (.ppduTx p rate len) s = .next t ∧ (t.port p).txEnd = s.now + us (s.portUs p rate len) ∧
      t.ctr (pAP p) C.AIRPORT_PPDU_TX = (s.ctr (pAP p) C.AIRPORT_PPDU_TX + 1) % 2 ^ 64 := by
  have hx : exec (.ppduTx p rate len) s = .next (s.ppduAt p s.now rate len) := by
    show execPpduTx p rate len s = _
    rw [execPpduTx, if_pos ⟨hp, hon, hroot⟩, Nat.mod_eq_of_lt hrate]
    rfl
  refine ⟨_, hx, ?_⟩
  rw [State.ppduAt, if_neg (by omega)]
  dsimp only
  constructor
  · rw [State.port_setPort_same _ _ _ (by rw [State.strobes_air]; exact hport)]
  · exact (State.ctr_strobes ..).trans (State.ctr_inc_same ..)

/-! ### A PPDU received (R155, R166, R181) -/

/-- A PPDU comes to a port that has framing lock: its overloads are counted, its strength sets LNA_BYP. -/
def State.ppduHeard (s : State) (p rate : Nat) (y : PpduIn) : State := (s.inc C.AIRPORT_OVR_COUNT p y.ovr).lnaAuto p rate y

/-- A PPDU whose SIGNAL and length are right. -/
def State.ppduTaken (s : State) (p rate : Nat) (y : PpduIn) : State := (s.ppduHeard p rate y).inc C.AIRPORT_PPDU_RX p

/-- A state with other counters, and with more or less that has left the chip. -/
def State.counting (s : State) (c : AMap (BitVec 64)) (l : List Out) : State := { s with ctrs := c, out := l }

theorem State.lnaAuto_counting (s : State) (p rate : Nat) (y : PpduIn) : ∃ l, s.lnaAuto p rate y = s.counting s.ctrs l := by
  unfold State.lnaAuto
  split
  · exact ⟨_, rfl⟩
  · exact ⟨_, rfl⟩

theorem State.ppduHeard_counting (s : State) (p rate : Nat) (y : PpduIn) : ∃ c l, s.ppduHeard p rate y = s.counting c l := by
  obtain ⟨l, hl⟩ := (s.inc C.AIRPORT_OVR_COUNT p y.ovr).lnaAuto_counting p rate y
  rw [State.ppduHeard, hl]
  exact ⟨_, l, rfl⟩

theorem State.ppduTaken_counting (s : State) (p rate : Nat) (y : PpduIn) : ∃ c l, s.ppduTaken p rate y = s.counting c l := by
  obtain ⟨c, l, hl⟩ := s.ppduHeard_counting p rate y
  rw [State.ppduTaken, hl]
  exact ⟨_, l, rfl⟩

theorem State.ctr_lnaAuto (s : State) (p rate : Nat) (y : PpduIn) (q : Page) (c : Ctr) : (s.lnaAuto p rate y).ctr q c = s.ctr q c := by
  obtain ⟨l, hl⟩ := s.lnaAuto_counting p rate y
  rw [hl]
  rfl

theorem State.ppduHeard_overloads (s : State) (p rate : Nat) (y : PpduIn) :
    (s.ppduHeard p rate y).ctr (pAP p) C.AIRPORT_OVR_COUNT = (s.ctr (pAP p) C.AIRPORT_OVR_COUNT + y.ovr) % 2 ^ 64 := by
  rw [State.ppduHeard, State.ctr_lnaAuto, State.ctr_inc_same]

/-- The other counters are as before the PPDU came. -/
theorem State.ctr_ppduHeard (s : State) (p rate : Nat) (y : PpduIn) (q : Page) (c : Ctr) (hc : c.off % 0x1000 ≠ 0x090) :
    (s.ppduHeard p rate y).ctr q c = s.ctr q c := by
  rw [State.ppduHeard, State.ctr_lnaAuto, State.ctr_inc_off _ _ _ _ _ _ hc]

theorem State.ppduHeard_air (s : State) (p rate : Nat) (y : PpduIn) : (s.ppduHeard p rate y).air = s.air := by
  obtain ⟨c, l, hl⟩ := s.ppduHeard_counting p rate y
  rw [hl]
  rfl

theorem State.ppduTaken_counts (s : State) (p rate : Nat) (y : PpduIn) :
    (s.ppduTaken p rate y).ctr (pAP p) C.AIRPORT_PPDU_RX = (s.ctr (pAP p) C.AIRPORT_PPDU_RX + 1) % 2 ^ 64 := by
  rw [State.ppduTaken, State.ctr_inc_same, State.ctr_ppduHeard _ _ _ _ _ _ (by decide)]

theorem State.ctr_ppduTaken (s : State) (p rate : Nat) (y : PpduIn) (q : Page) (c : Ctr) (hr : c.off % 0x1000 ≠ 0x058) (ho : c.off % 0x1000 ≠ 0x090) :
    (s.ppduTaken p rate y).ctr q c = s.ctr q c := by
  rw [State.ppduTaken, State.ctr_inc_off _ _ _ _ _ _ hr, State.ctr_ppduHeard _ _ _ _ _ _ ho]

section
variable (s : State) (p rate : Nat) (y : PpduIn) (hp : p < 4) (hwords : s.rxWords p = true) (hst : s.st (pAP p) = stOn)
  (hlock : s.get F.PORT_STATUS_RX_LOCK p = 1)
include hp hwords hst hlock

theorem State.ppduRx_comes : ¬(4 ≤ p ∨ ¬ s.rxWords p ∨ s.st (pAP p) = stStarting ∨ s.get F.PORT_STATUS_RX_LOCK p = 0) := by
  simp [hwords, hst, hlock, stOn, stStarting]
  omega

theorem ppduRx_badSignal (hsig : y.signalOk = false) :
    ∃ t, exec (.ppduRx p rate y) s = .next t ∧ t.ctr (pAP p) C.AIRPORT_RX_BAD_SIGNAL = (s.ctr (pAP p) C.AIRPORT_RX_BAD_SIGNAL + 1) % 2 ^ 64 ∧
      t.ctr (pAP p) C.AIRPORT_OVR_COUNT = (s.ctr (pAP p) C.AIRPORT_OVR_COUNT + y.ovr) % 2 ^ 64 ∧
      t.ctr (pAP p) C.AIRPORT_PPDU_RX = s.ctr (pAP p) C.AIRPORT_PPDU_RX ∧ t.air = s.air := by
  have hx : exec (.ppduRx p rate y) s = .next ((s.ppduHeard p rate y).inc C.AIRPORT_RX_BAD_SIGNAL p) := by
    show execPpduRx p rate y s = _
    rw [execPpduRx, if_neg (s.ppduRx_comes p hp hwords hst hlock), hsig]
    rfl
  refine ⟨_, hx, ?_, ?_, ?_, s.ppduHeard_air p rate y⟩
  · rw [State.ctr_inc_same, State.ctr_ppduHeard _ _ _ _ _ _ (by decide)]
  · rw [State.ctr_inc_off _ _ _ _ _ _ (by decide), State.ppduHeard_overloads]
  · rw [State.ctr_inc_off _ _ _ _ _ _ (by decide), State.ctr_ppduHeard _ _ _ _ _ _ (by decide)]

variable (hsig : y.signalOk = true)
include hsig

theorem ppduRx_badLength (hlen : y.psdu.length < 14 ∨ 2048 < y.psdu.length) :
    ∃ t, exec (.ppduRx p rate y) s = .next t ∧ t.ctr (pAP p) C.AIRPORT_RX_LEN_DROP = (s.ctr (pAP p) C.AIRPORT_RX_LEN_DROP + 1) % 2 ^ 64 ∧
      t.air = s.air := by
  have hx : exec (.ppduRx p rate y) s = .next ((s.ppduHeard p rate y).inc C.AIRPORT_RX_LEN_DROP p) := by
    show execPpduRx p rate y s = _
    rw [execPpduRx, if_neg (s.ppduRx_comes p hp hwords hst hlock), hsig]
    dsimp only
    rw [if_neg (by decide), if_pos hlen]
    rfl
  refine ⟨_, hx, ?_, s.ppduHeard_air p rate y⟩
  rw [State.ctr_inc_same, State.ctr_ppduHeard _ _ _ _ _ _ (by decide)]

variable (hlo : 14 ≤ y.psdu.length) (hhi : y.psdu.length ≤ 2048) (hmac : s.isOn .sluice p = true)
include hlo hhi hmac

/-- A PPDU of a right length goes to the MAC, which reads its headers and its DST. -/
theorem execPpduRx_taken : exec (.ppduRx p rate y) s = .next ((parseAir y.psdu).elim ((s.ppduTaken p rate y).inc C.SLUICE_RX_DISCARD p) fun h =>
    if s.dstMine p h.dst then (s.ppduTaken p rate y).rxFrame p rate y h else (s.ppduTaken p rate y).inc C.SLUICE_RX_DISCARD p) := by
  obtain ⟨c, l, hl⟩ := s.ppduTaken_counting p rate y
  have hon : (s.ppduTaken p rate y).isOn .sluice p = true := by
    rw [hl]
    exact hmac
  have hdst (dst : Nat) : (s.ppduTaken p rate y).dstMine p dst = s.dstMine p dst := by
    rw [hl]
    rfl
  show execPpduRx p rate y s = _
  rw [execPpduRx, if_neg (s.ppduRx_comes p hp hwords hst hlock), hsig]
  dsimp only
  rw [if_neg (by decide), if_neg (by omega), ← State.ppduHeard, ← State.ppduTaken, if_neg (not_not_intro hon)]
  cases parseAir y.psdu with
  | none => rfl
  | some h =>
    dsimp only [Option.elim_some]
    rw [hdst]
    exact (apply_ite Host.Outcome.next ..).symm

theorem ppduRx_discards (hany : (parseAir y.psdu).any (fun h => s.dstMine p h.dst) = false) :
    ∃ t, exec (.ppduRx p rate y) s = .next t ∧ t.ctr (pAP p) C.AIRPORT_PPDU_RX = (s.ctr (pAP p) C.AIRPORT_PPDU_RX + 1) % 2 ^ 64 ∧
      t.ctr (pSL p) C.SLUICE_RX_DISCARD = (s.ctr (pSL p) C.SLUICE_RX_DISCARD + 1) % 2 ^ 64 ∧ t.air = s.air := by
  have hx : exec (.ppduRx p rate y) s = .next ((s.ppduTaken p rate y).inc C.SLUICE_RX_DISCARD p) := by
    rw [execPpduRx_taken s p rate y hp hwords hst hlock hsig hlo hhi hmac]
    cases hparse : parseAir y.psdu with
    | none => rfl
    | some h =>
      have hother : s.dstMine p h.dst = false := by simpa [hparse] using hany
      exact congrArg _ (if_neg (Bool.eq_false_iff.mp hother))
  refine ⟨_, hx, ?_, ?_, ?_⟩
  · rw [State.ctr_inc_off _ _ _ _ _ _ (by decide), State.ppduTaken_counts]
  · rw [State.ctr_inc_same, State.ctr_ppduTaken _ _ _ _ _ _ (by decide) (by decide)]
  · rw [State.inc_air, State.ppduTaken, State.inc_air, State.ppduHeard_air]

/-- A frame for this port is the MAC's to take. -/
theorem execPpduRx_mine (h : AirHdr) (hparse : parseAir y.psdu = some h) (hdst : s.dstMine p h.dst = true) :
    exec (.ppduRx p rate y) s = .next ((s.ppduTaken p rate y).rxFrame p rate y h) := by
  rw [execPpduRx_taken s p rate y hp hwords hst hlock hsig hlo hhi hmac, hparse]
  exact congrArg _ (if_pos hdst)

end

/-! ### A frame that the MAC takes (R181, R205) -/

/-- An ACK waits as it is. -/
theorem State.rxFrame_ack (s : State) (p rate : Nat) (y : PpduIn) (h : AirHdr) (htyp : h.typ = 1) :
    s.rxFrame p rate y h = s.rxPut p ⟨h, true, h.body, y.snr, s.rxStart p y, s.ppduEnd p rate y, 0⟩ := if_pos htyp

/-- The ack of a relay's frame is due before the next frame of the phase. -/
def State.ackExpected (s : State) (p rate : Nat) (y : PpduIn) (h : AirHdr) : State :=
  if h.relay = none then s
  else { s with air := { s.air with inEnd := setNth s.air.inEnd p (some (s.ppduEnd p rate y + 32000 + s.ackUs p * 1000)) } }

theorem State.ackExpected_eq (s : State) (p rate : Nat) (y : PpduIn) (h : AirHdr) :
    ∃ ends, s.ackExpected p rate y h = { s with air := { s.air with inEnd := ends } } := by
  unfold State.ackExpected
  split
  · exact ⟨_, rfl⟩
  · exact ⟨_, rfl⟩

section
variable (s : State) (p rate a lim : Nat) (y : PpduIn) (h : AirHdr) (htyp : h.typ = 2) (hwin : s.inWindow p (s.rxStart p y) h = some (a, lim))
  (hown : s.foreignFrame h = false) (hgen : s.kgenOk h.kgen = true)
include htyp hwin hown hgen

/-- An UP frame in its time, of a generation in force, whose MIC fails. -/
theorem State.rxFrame_unverified (hopen : s.rxOpen h = none) : s.rxFrame p rate y h = (s.ackExpected p rate y h).inc C.SLUICE_MIC_FAIL p := by
  obtain ⟨ends, hends⟩ := s.ackExpected_eq p rate y h
  have hown' : (s.ackExpected p rate y h).foreignFrame h = false := by rw [hends]; exact hown
  have hgen' : (s.ackExpected p rate y h).kgenOk h.kgen = true := by rw [hends]; exact hgen
  have hopen' : (s.ackExpected p rate y h).rxOpen h = none := by rw [hends]; exact hopen
  unfold State.rxFrame
  dsimp only
  rw [if_neg (by omega), if_neg (by omega), hwin]
  dsimp only
  rw [← State.ackExpected]
  rw [hown', if_neg (by decide), if_neg (by omega), hgen', if_neg (by decide), hopen']

/-- One whose MIC verifies waits with what it says. -/
theorem State.rxFrame_verified (hfcnt : h.fcnt < 2 ^ 31) {b : List Nat} (hopen : s.rxOpen h = some b) : s.rxFrame p rate y h =
    (s.ackExpected p rate y h).rxPut p ⟨h, true, b, y.snr, s.rxStart p y, s.ppduEnd p rate y, lim⟩ := by
  obtain ⟨ends, hends⟩ := s.ackExpected_eq p rate y h
  have hown' : (s.ackExpected p rate y h).foreignFrame h = false := by rw [hends]; exact hown
  have hgen' : (s.ackExpected p rate y h).kgenOk h.kgen = true := by rw [hends]; exact hgen
  have hopen' : (s.ackExpected p rate y h).rxOpen h = some b := by rw [hends]; exact hopen
  unfold State.rxFrame
  dsimp only
  rw [if_neg (by omega), if_neg (by omega), hwin]
  dsimp only
  rw [← State.ackExpected]
  rw [hown', if_neg (by decide), if_neg (by omega), hgen', if_neg (by decide), hopen']
  exact if_neg (by omega)

end

/-! ### What waits for the MAC's commands (R181) -/

theorem State.rxPut_rxq (s : State) (p : Nat) (f : RxFrame) (hport : p < s.air.ports.length) : ((s.rxPut p f).port p).rxq = (s.port p).rxq ++ [f] :=
  congrArg PortSt.rxq (State.port_setPort_same _ _ _ hport)

theorem ppduRx_queuesAck (s : State) (p rate : Nat) (y : PpduIn) (h : AirHdr) (hp : p < 4) (hwords : s.rxWords p = true) (hst : s.st (pAP p) = stOn)
    (hlock : s.get F.PORT_STATUS_RX_LOCK p = 1) (hsig : y.signalOk = true) (hlo : 14 ≤ y.psdu.length) (hhi : y.psdu.length ≤ 2048)
    (hmac : s.isOn .sluice p = true) (hparse : parseAir y.psdu = some h) (hdst : s.dstMine p h.dst = true) (htyp : h.typ = 1)
    (hport : p < s.air.ports.length) :
    ∃ t, exec (.ppduRx p rate y) s = .next t ∧ t.ctr (pAP p) C.AIRPORT_PPDU_RX = (s.ctr (pAP p) C.AIRPORT_PPDU_RX + 1) % 2 ^ 64 ∧
      (t.port p).rxq = (s.port p).rxq ++ [⟨h, true, h.body, y.snr, s.rxStart p y, s.ppduEnd p rate y, 0⟩] := by
  have hcount := s.ppduTaken_counts p rate y
  obtain ⟨c, l, hl⟩ := s.ppduTaken_counting p rate y
  refine ⟨_, execPpduRx_mine s p rate y hp hwords hst hlock hsig hlo hhi hmac h hparse hdst, ?_⟩
  rw [hl] at hcount ⊢
  rw [State.rxFrame_ack _ p rate y h htyp]
  exact ⟨hcount, State.rxPut_rxq (s.counting c l) p _ hport⟩

section
variable (s : State) (p rate a lim : Nat) (y : PpduIn) (h : AirHdr) (htyp : h.typ = 2) (hwin : s.inWindow p (s.rxStart p y) h = some (a, lim))
  (hown : s.foreignFrame h = false) (hgen : s.kgenOk h.kgen = true)
include htyp hwin hown hgen

/-- An UP frame whose MIC fails is counted, and none waits. -/
theorem State.rxFrame_unverified_shows (hopen : s.rxOpen h = none) : ((s.rxFrame p rate y h).port p).rxq = (s.port p).rxq ∧
    (s.rxFrame p rate y h).ctr (pAP p) C.AIRPORT_PPDU_RX = s.ctr (pAP p) C.AIRPORT_PPDU_RX ∧
    (s.rxFrame p rate y h).ctr (pSL p) C.SLUICE_MIC_FAIL = (s.ctr (pSL p) C.SLUICE_MIC_FAIL + 1) % 2 ^ 64 := by
  obtain ⟨ends, hends⟩ := s.ackExpected_eq p rate y h
  rw [s.rxFrame_unverified p rate a lim y h htyp hwin hown hgen hopen, hends]
  exact ⟨rfl, State.ctr_inc_off _ _ _ _ _ _ (by decide), State.ctr_inc_same ..⟩

/-- One whose MIC verifies waits, and is not counted. -/
theorem State.rxFrame_verified_shows (hfcnt : h.fcnt < 2 ^ 31) (hport : p < s.air.ports.length) {b : List Nat} (hopen : s.rxOpen h = some b) :
    ((s.rxFrame p rate y h).port p).rxq = (s.port p).rxq ++ [⟨h, true, b, y.snr, s.rxStart p y, s.ppduEnd p rate y, lim⟩] ∧
    (s.rxFrame p rate y h).ctrs = s.ctrs := by
  obtain ⟨ends, hends⟩ := s.ackExpected_eq p rate y h
  rw [s.rxFrame_verified p rate a lim y h htyp hwin hown hgen hfcnt hopen, hends]
  exact ⟨State.rxPut_rxq _ p _ hport, rfl⟩

end

theorem ppduRx_queuesUp (s : State) (p rate a lim : Nat) (y : PpduIn) (h : AirHdr) (hp : p < 4) (hwords : s.rxWords p = true) (hst : s.st (pAP p) = stOn)
    (hlock : s.get F.PORT_STATUS_RX_LOCK p = 1) (hsig : y.signalOk = true) (hlo : 14 ≤ y.psdu.length) (hhi : y.psdu.length ≤ 2048)
    (hmac : s.isOn .sluice p = true) (hparse : parseAir y.psdu = some h) (hdst : s.dstMine p h.dst = true) (htyp : h.typ = 2)
    (hwin : s.inWindow p (s.rxStart p y) h = some (a, lim)) (hown : s.foreignFrame h = false) (hgen : s.kgenOk h.kgen = true)
    (hfcnt : h.fcnt < 2 ^ 31) (hport : p < s.air.ports.length) :
    ∃ t, exec (.ppduRx p rate y) s = .next t ∧ t.ctr (pAP p) C.AIRPORT_PPDU_RX = (s.ctr (pAP p) C.AIRPORT_PPDU_RX + 1) % 2 ^ 64 ∧
      (t.port p).rxq = (s.port p).rxq ++ (match s.rxOpen h with
        | some b => [⟨h, true, b, y.snr, s.rxStart p y, s.ppduEnd p rate y, lim⟩]
        | none => []) ∧
      t.ctr (pSL p) C.SLUICE_MIC_FAIL = (s.ctr (pSL p) C.SLUICE_MIC_FAIL + b2n (s.rxOpen h).isNone) % 2 ^ 64 := by
  have hcount := s.ppduTaken_counts p rate y
  have hfails : (s.ppduTaken p rate y).ctr (pSL p) C.SLUICE_MIC_FAIL = s.ctr (pSL p) C.SLUICE_MIC_FAIL :=
    s.ctr_ppduTaken p rate y _ _ (by decide) (by decide)
  obtain ⟨c, l, hl⟩ := s.ppduTaken_counting p rate y
  refine ⟨_, execPpduRx_mine s p rate y hp hwords hst hlock hsig hlo hhi hmac h hparse hdst, ?_⟩
  rw [hl] at hcount hfails ⊢
  cases hopen : s.rxOpen h with
  | none =>
    obtain ⟨hrxq, hrx, hmic⟩ := (s.counting c l).rxFrame_unverified_shows p rate a lim y h htyp hwin hown hgen hopen
    refine ⟨hrx.trans hcount, hrxq.trans (List.append_nil _).symm, hmic.trans ?_⟩
    rw [hfails]
    rfl
  | some b =>
    obtain ⟨hrxq, hctrs⟩ := (s.counting c l).rxFrame_verified_shows p rate a lim y h htyp hwin hown hgen hfcnt hport hopen
    have hlt : s.ctr (pSL p) C.SLUICE_MIC_FAIL < 2 ^ 64 := BitVec.isLt _
    refine ⟨(State.ctr_of_ctrs hctrs ..).trans hcount, hrxq, (State.ctr_of_ctrs hctrs ..).trans (hfails.trans ?_)⟩
    exact (Nat.mod_eq_of_lt hlt).symm

end Sys2Proof.Machine
end

section
/-! SUPPORT. The transceiver's control, the transmit path and the service of an air port: a direct transaction, the health checks, the path's grant to
the Headgate and the service states (R157, R158, R162, R163). -/
namespace Sys2Proof.Machine
open Sys2Proof

/-! ### A direct transaction (R157) -/

theorem spiTxnGo_queues (s : State) (p len : Nat) (hp : p < 4) (hlo : 8 ≤ len) (hhi : len ≤ 32) (hfree : s.get F.SPI_TXN_BUSY p = 0)
    (hfault : s.st (pAP p) ≠ stFault) (hiso : s.st (pAP p) ≠ stIsolated) (hport : p < s.air.ports.length) :
    ∃ t, exec (.spiTxnGo p len) s = .next t ∧ t.get F.SPI_TXN_BUSY p = 1 ∧ t.get F.SPI_TXN_LEN p = len ∧ (t.port p).spi = (s.port p).spi ++ [1] := by
  have hfree' : (s.set F.SPI_TXN_LEN len p).get F.SPI_TXN_BUSY p = 0 := (State.get_set_off _ _ _ _ _ _ _ _ (by decide) (by decide)).trans hfree
  have hst : (s.set F.SPI_TXN_LEN len p).st (pAP p) = s.st (pAP p) := State.getP_set_off _ _ _ _ _ _ _ (by decide)
  have hx : exec (.spiTxnGo p len) s =
      .next (((s.set F.SPI_TXN_LEN len p).set F.SPI_TXN_BUSY 1 p).setPort p { s.port p with spi := (s.port p).spi ++ [1] }) := by
    show execSpiTxnGo p len s = _
    rw [execSpiTxnGo, if_neg (by omega), if_neg (by omega)]
    exact if_neg (by simp [hfree', hst, hfault, hiso])
  refine ⟨_, hx, ?_, ?_, ?_⟩
  · rw [State.get_setPort, State.get_set_same _ _ _ _ _ (by decide)]
    rfl
  · rw [State.get_setPort, State.get_set_off _ _ _ _ _ _ _ _ (by decide) (by decide), State.get_set_same _ _ _ _ _ (by decide)]
    exact Nat.mod_eq_of_lt (Nat.lt_of_le_of_lt hhi (by decide))
  · rw [State.port_setPort_same _ _ _ (by exact hport)]

theorem State.get_spiShift_rx (s : State) (p miso : Nat) (w : Nat × Nat) : (s.spiShift p miso w).get F.SPI_RX p = miso % 2 ^ w.1 % 2 ^ 32 :=
  State.get_set_same _ _ _ _ _ (by decide)

theorem State.get_spiShift (s : State) (p miso : Nat) (w : Nat × Nat) (G : Fld) (h : G.off % 0x1000 ≠ 0x338) (hstep : G.step = 0) :
    (s.spiShift p miso w).get G p = s.get G p :=
  State.get_set_off _ _ _ _ _ _ _ _ (by decide) (.inl (by rw [hstep]; exact h))

theorem State.st_spiShift (s : State) (p miso : Nat) (w : Nat × Nat) (q : Page) : (s.spiShift p miso w).st q = s.st q :=
  State.getP_set_off _ _ _ _ _ _ _ (by decide)

theorem spiTxnDone_shows (s : State) (p miso : Nat) (rest : List Nat) (hspi : (s.port p).spi = 1 :: rest) (hready : s.spiReady p 1 = true)
    (hport : p < s.air.ports.length) :
    ∃ t, exec (.spiTxnDone p miso) s = .next t ∧ t.get F.SPI_TXN_BUSY p = 0 ∧ t.get F.SPI_TXN_DONE p = 1 ∧
      t.get F.SPI_RX p = miso % 2 ^ s.get F.SPI_TXN_LEN p % 2 ^ 32 ∧ (t.port p).spi = rest ∧
      t.out = .spi p (s.get F.SPI_TXN_LEN p) (s.get F.SPI_TXD p % 2 ^ s.get F.SPI_TXN_LEN p) :: s.out := by
  have hx : exec (.spiTxnDone p miso) s =
      .next ((((s.spiShift p miso (s.spiWord p 1)).setPort p { s.port p with spi := rest }).set F.SPI_TXN_BUSY 0 p).set F.SPI_TXN_DONE 1 p) := by
    show execSpiTxnDone p miso s = _
    rw [execSpiTxnDone, hspi]
    dsimp only
    rw [if_neg (by rw [hready]; decide)]
    rfl
  have hset (t : State) (x : PortSt) (v w : Nat) (G : Fld) (hG : G.off % 0x1000 ≠ 0x334) (hstep : G.step = 0) :
      (((t.setPort p x).set F.SPI_TXN_BUSY v p).set F.SPI_TXN_DONE w p).get G p = t.get G p := by
    have hoff : (G.off + 0 * G.step) % 0x1000 ≠ 0x334 := by rw [hstep]; exact hG
    rw [State.get_set_off _ _ _ _ _ _ _ _ (by decide) (.inl hoff), State.get_set_off _ _ _ _ _ _ _ _ (by decide) (.inl hoff), State.get_setPort]
  have hport' (t : State) (x : PortSt) (v w : Nat) : (((t.setPort p x).set F.SPI_TXN_BUSY v p).set F.SPI_TXN_DONE w p).port p = (t.setPort p x).port p := rfl
  refine ⟨_, hx, ?_, ?_, ?_, ?_, rfl⟩
  · rw [State.get_set_off _ _ _ _ _ _ _ _ (by decide) (by decide), State.get_set_same _ _ _ _ _ (by decide)]
    rfl
  · rw [State.get_set_same _ _ _ _ _ (by decide)]
    rfl
  · rw [hset _ _ _ _ _ (by decide) rfl, State.get_spiShift_rx]
    rfl
  · rw [hport', State.port_setPort_same _ _ _ (by exact hport)]

/-! ### The health checks (R158) -/

/-- A health check's answer is read, and the time of the next one noted. -/
def State.healthRead (s : State) (p miso : Nat) : State :=
  (s.spiShift p miso (s.spiWord p 0)).setPort p { s.port p with healthAt := (s.fleetNs / 100000000 + 1) * 100000000 }

theorem State.get_healthRead (s : State) (p miso : Nat) (G : Fld) (h : G.off % 0x1000 ≠ 0x338) (hstep : G.step = 0) :
    (s.healthRead p miso).get G p = s.get G p := by
  rw [State.healthRead, State.get_setPort, State.get_spiShift _ _ _ _ _ h hstep]

theorem State.get_healthRead_rx (s : State) (p miso : Nat) :
    (s.healthRead p miso).get F.SPI_RX p = miso % 2 ^ s.get F.SPI_CFG_HEALTH_LEN p % 2 ^ 32 := by
  rw [State.healthRead, State.get_setPort, State.get_spiShift_rx]
  rfl

theorem State.st_healthRead (s : State) (p miso : Nat) (q : Page) : (s.healthRead p miso).st q = s.st q := by
  rw [State.healthRead, State.st_setPort, State.st_spiShift]

theorem State.healthOk_healthRead (s : State) (p miso v : Nat) : (s.healthRead p miso).healthOk p v = s.healthOk p v := by
  rw [State.healthOk, State.get_healthRead _ _ _ _ (by decide) rfl, State.get_healthRead _ _ _ _ (by decide) rfl, State.healthOk]

section
variable (s : State) (p miso : Nat) (hp : p < 4) (hon : s.isOn .airport p = true) (hen : s.get F.SPI_CFG_HEALTH_EN p = 1)
  (hroot : s.get F.ROOT_STATUS_ROOT_LOCK = 1) (hdue : (s.port p).healthAt ≤ s.fleetNs) (hidle : (s.port p).spi = [])
include hp hon hen hroot hdue

theorem State.healthCheck_due : ¬(4 ≤ p ∨ ¬ s.isOn .airport p ∨ s.get F.SPI_CFG_HEALTH_EN p = 0 ∨ s.get F.ROOT_STATUS_ROOT_LOCK = 0 ∨
    s.fleetNs < (s.port p).healthAt) := by
  simp [hon, hen, hroot]
  omega

include hidle

theorem healthCheck_passes (hok : s.healthOk p (miso % 2 ^ s.get F.SPI_CFG_HEALTH_LEN p) = true) :
    ∃ t, exec (.healthCheck p miso) s = .next t ∧ t.get F.PORT_STATUS_HEALTH_RUN p = 0 ∧ t.st (pAP p) = stOn ∧
      t.get F.SPI_RX p = miso % 2 ^ s.get F.SPI_CFG_HEALTH_LEN p % 2 ^ 32 := by
  have hx : exec (.healthCheck p miso) s = .next ((s.healthRead p miso).set F.PORT_STATUS_HEALTH_RUN 0 p) := by
    show execHealthCheck p miso s = _
    rw [execHealthCheck, if_neg (s.healthCheck_due p hp hon hen hroot hdue), if_neg (not_not_intro hidle)]
    dsimp only
    rw [← State.healthRead, if_pos ((s.healthOk_healthRead p miso _).trans hok)]
  refine ⟨_, hx, ?_, ?_, ?_⟩
  · rw [State.get_set_same _ _ _ _ _ (by decide)]
    rfl
  · rw [State.st_eq, State.getP_set_off _ _ _ _ _ _ _ (by decide), ← State.st_eq, State.st_healthRead]
    exact of_decide_eq_true hon
  · rw [State.get_set_off _ _ _ _ _ _ _ _ (by decide) (by decide), State.get_healthRead_rx]

/-- The third failure in a row, before the port's block takes it. -/
def State.healthFailed (s : State) (p miso : Nat) : State :=
  (((s.healthRead p miso).set F.PORT_STATUS_HEALTH_RUN 3 p).inc C.AIRPORT_HEALTH_FAIL p).irq (pAP p) I.AIRPORT_HEALTH_FAIL

theorem execHealthCheck_third (hbad : s.healthOk p (miso % 2 ^ s.get F.SPI_CFG_HEALTH_LEN p) = false) (hrun : 2 ≤ s.get F.PORT_STATUS_HEALTH_RUN p) :
    exec (.healthCheck p miso) s = .next ((s.healthFailed p miso).portError p 0x01).recompute := by
  have hthree : min 3 ((s.healthRead p miso).get F.PORT_STATUS_HEALTH_RUN p + 1) = 3 := by
    rw [State.get_healthRead _ _ _ _ (by decide) rfl]
    omega
  show execHealthCheck p miso s = _
  rw [execHealthCheck, if_neg (s.healthCheck_due p hp hon hen hroot hdue), if_neg (not_not_intro hidle)]
  dsimp only
  rw [← State.healthRead, State.healthOk_healthRead, hbad, if_neg (by decide), hthree, if_neg (by decide)]
  rfl

theorem healthCheck_faults (hbad : s.healthOk p (miso % 2 ^ s.get F.SPI_CFG_HEALTH_LEN p) = false) (hrun : 2 ≤ s.get F.PORT_STATUS_HEALTH_RUN p) :
    ∃ t, exec (.healthCheck p miso) s = .next t ∧ t.st (pAP p) = stFault ∧ t.irqUp (pAP p) I.AIRPORT_HEALTH_FAIL = true ∧
      t.ctr (pAP p) C.AIRPORT_HEALTH_FAIL = (s.ctr (pAP p) C.AIRPORT_HEALTH_FAIL + 1) % 2 ^ 64 := by
  have hst : (s.healthFailed p miso).st (pAP p) = stOn := by
    rw [State.healthFailed, State.st_eq, State.irq_getP _ _ _ _ _ (Page.off_ne _ _ _ _ (by decide) (by decide) (by decide)), State.getP_inc,
      State.getP_set_off _ _ _ _ _ _ _ (by decide), ← State.st_eq, State.st_healthRead]
    exact of_decide_eq_true hon
  have hctr (t : State) (x : PortSt) (v : Nat) (w : Nat × Nat) (c : Ctr) :
      (((t.spiShift p miso w).setPort p x).set F.PORT_STATUS_HEALTH_RUN v p).ctr (pAP p) c = t.ctr (pAP p) c := rfl
  have hview := (State.portView_recompute ..).trans ((s.healthFailed p miso).portView_portError p ownEvent_healthFail 0x01 (.inl hst))
  obtain ⟨hfault, hlog⟩ := Prod.mk.inj hview
  obtain ⟨hup, hcount⟩ := Prod.mk.inj hlog
  refine ⟨_, execHealthCheck_third s p miso hp hon hen hroot hdue hidle hbad hrun, hfault, hup.trans (State.irq_up _ _ _ (by decide)), hcount.trans ?_⟩
  rw [State.healthFailed, State.irq_ctr_port, State.ctr_inc_same, State.healthRead, hctr]

end

/-! ### The path's grant to the Headgate (R162) -/

/-- The registers of the Headgate's path: its frames go out next, and HG_STATE shows the port. -/
def State.pathShown (s : State) (p : Nat) : State :=
  (s.set F.PORT_STATUS_TX_SRC 1 p).set F.HG_STATE_PORTS (Nat.lor ((s.set F.PORT_STATUS_TX_SRC 1 p).get F.HG_STATE_PORTS) (2 ^ p))

theorem State.pathShown_shows (s : State) (p : Nat) (hp : p < 4) :
    (s.pathShown p).get F.PORT_STATUS_TX_SRC p = 1 ∧ bit ((s.pathShown p).get F.HG_STATE_PORTS) p = true := by
  have hports (t : State) (v : Nat) : bit ((t.set F.HG_STATE_PORTS (Nat.lor v (2 ^ p))).get F.HG_STATE_PORTS) p = true := by
    rw [State.get_set_same _ _ _ _ _ (by decide)]
    exact bit_lor_mod v p F.HG_STATE_PORTS.width hp
  refine ⟨?_, hports _ _⟩
  rw [State.pathShown, State.get_set_blk _ _ _ _ _ _ _ _ (by decide), State.get_set_same _ _ _ _ _ (by decide)]
  rfl

theorem State.pathShown_keeps (s : State) (p : Nat) : (s.pathShown p).air = s.air ∧ (s.pathShown p).ft = s.ft :=
  ⟨(State.set_air ..).trans (State.set_air ..), (State.set_ft ..).trans (State.set_ft ..)⟩

theorem txPathGrant_grants (s : State) (p : Nat) (hp : p < 4) (hburst : (nth none s.hg.bursts p).isSome = true)
    (hown : s.get F.PORT_STATUS_TX_SRC p = 0) (hend : (s.port p).txEnd ≤ s.now) (hon : s.isOn .airport p = true) (hport : p < s.air.ports.length) :
    ∃ t, exec (.txPathGrant p) s = .next t ∧ t.get F.PORT_STATUS_TX_SRC p = 1 ∧ bit (t.get F.HG_STATE_PORTS) p = true ∧
      (t.port p).heldAt = some s.fleetNs := by
  have hx : exec (.txPathGrant p) s =
      .next ((s.pathShown p).setPort p { (s.pathShown p).port p with heldAt := some (s.pathShown p).fleetNs }) := by
    show execTxPathGrant p s = _
    rw [execTxPathGrant, if_pos ⟨hp, hburst, hown, hend, .inl hon⟩]
    rfl
  obtain ⟨hsource, hbit⟩ := s.pathShown_shows p hp
  obtain ⟨hair, hft⟩ := s.pathShown_keeps p
  refine ⟨_, hx, ?_, ?_, ?_⟩
  · rw [State.get_setPort, hsource]
  · rw [State.get_setPort, hbit]
  · rw [State.port_setPort_same _ _ _ (by rw [hair]; exact hport), State.fleetNs, hft, State.fleetNs]

/-! ### The service of a port (R163) -/

theorem State.svc_newPeriod (s : State) (old p : Nat) : (s.newPeriod old).svc p = s.svc p := by
  unfold State.newPeriod
  split <;> rfl

theorem State.ports_newPeriod (s : State) (old : Nat) : (s.newPeriod old).air.ports = s.air.ports := by
  unfold State.newPeriod
  split <;> rfl

theorem State.irq_air (s : State) (p n : Nat) : (s.irq (pAP p) n).air = s.air :=
  have ⟨_, _, _, _, _, _⟩ := sending_parts false
  State.air_of_rest (W := sending false) (State.irq_rest ..) rfl

theorem State.svc_setSvc (s : State) (p v : Nat) (hv : v < 4) : (s.setSvc p v).svc p = v := by
  unfold State.setSvc
  split
  case isTrue hsame => exact hsame
  case isFalse =>
    exact (State.svc_newPeriod ..).trans ((State.irq_get_off _ _ _ _ _ _ (by decide)).trans
      ((State.get_set_same _ _ _ _ _ (by decide)).trans (Nat.mod_eq_of_lt hv)))

theorem State.ports_setSvc (s : State) (p v : Nat) : (s.setSvc p v).air.ports = s.air.ports := by
  unfold State.setSvc
  split
  · rfl
  · exact (State.ports_newPeriod ..).trans (congrArg AirSt.ports (State.irq_air ..))

theorem State.svcStart_shows (s : State) (p : Nat) : (s.svcStart p).svc p = 1 ∧ (s.svcStart p).get F.PORT_INFO_BEACON_MISS p = 0 := by
  unfold State.svcStart
  constructor
  · rw [State.svc, State.get_setPort, State.get_set_blk _ _ _ _ _ _ _ _ (by decide)]
    exact s.svc_setSvc p 1 (by decide)
  · rw [State.get_setPort, State.get_set_same _ _ _ _ _ (by decide)]
    rfl

theorem State.svcStart_at (s : State) (p : Nat) (hport : p < s.air.ports.length) : ((s.svcStart p).port p).svcAt = s.fleetNs := by
  have hlen : p < ((s.setSvc p 1).set F.PORT_INFO_BEACON_MISS 0 p).air.ports.length := by
    rw [State.set_air, State.ports_setSvc]
    exact hport
  rw [State.svcStart, State.port_setPort_same _ _ _ hlen]

theorem portSvcStart_starts (s : State) (p : Nat) (hp : p < 4) (hdown : s.svc p = 0) (hready : s.svcReady p = true) (hclash : s.svcClash p = false)
    (hport : p < s.air.ports.length) :
    ∃ t, exec (.portSvcStart p) s = .next t ∧ t.svc p = 1 ∧ (t.port p).svcAt = s.fleetNs ∧ t.get F.PORT_INFO_BEACON_MISS p = 0 := by
  have hx : exec (.portSvcStart p) s = .next (s.svcStart p) := by
    show execPortSvcStart p s = _
    rw [execPortSvcStart, if_pos ⟨hp, hdown, hready, by simp [hclash]⟩]
  obtain ⟨hsvc, hmiss⟩ := s.svcStart_shows p
  exact ⟨_, hx, hsvc, s.svcStart_at p hport, hmiss⟩

/-- What the service of a port shows: its state, and the event of a change. -/
def State.svcView (s : State) (p : Nat) : Nat × Bool := (s.svc p, s.irqUp (pAP p) I.AIRPORT_SVC_CHG)

/-- The members that a port in FAULT leaves are held without touching the port. -/
theorem State.svcView_held (s : State) (p : Nat) (l : List Nat) : ((s.each l fun s m => s.holdMember m 5).regCounts).svcView p = s.svcView p := by
  have hframe {t u : State} (h : u.rest touchDecided = t.rest touchDecided) : u.svcView p = t.svcView p :=
    Prod.ext (State.get_of_rest h _ _ _ rfl) (congrArg (bit · I.AIRPORT_SVC_CHG) (State.reg_of_rest h (pAP p) 0x01C rfl))
  have hcounts (t : State) : t.regCounts.svcView p = t.svcView p := hframe (by
    cases Touch.granting
    dsimp only [touchDecided, touchLog, List.cons_append, List.nil_append]
    exact t.regCounts_rest)
  have hhold (t : State) (m : Nat) : (t.holdMember m 5).svcView p = t.svcView p := hframe (by
    cases Touch.granting
    dsimp only [touchDecided, touchLog, List.cons_append, List.nil_append]
    exact t.holdMember_rest m 5)
  exact (hcounts _).trans (State.each_keeps (State.svcView · p) s l _ hhold)

theorem State.svcFault_shows (s : State) (p : Nat) (h : s.svc p = 1 ∨ s.svc p = 2) :
    (s.svcFault p).svc p = 3 ∧ (s.svcFault p).irqUp (pAP p) I.AIRPORT_SVC_CHG = true := by
  have hnew (t : State) (old : Nat) : (t.newPeriod old).irqUp (pAP p) I.AIRPORT_SVC_CHG = t.irqUp (pAP p) I.AIRPORT_SVC_CHG := by
    unfold State.newPeriod
    split <;> rfl
  unfold State.svcFault
  rw [if_neg (by omega)]
  dsimp only
  obtain ⟨hsvc, hup⟩ := Prod.mk.inj (State.svcView_held _ p _)
  constructor
  · exact hsvc.trans ((State.svc_newPeriod ..).trans ((State.notice_get _ _ _ _ _ _ _ _ _ _ rfl (by decide)).trans
      (State.get_set_same _ _ _ _ _ (by decide))))
  · exact hup.trans ((hnew _ _).trans (State.notice_up _ _ _ _ _ _ _ rfl (by decide)))

theorem portSvcFault_faults (s : State) (p : Nat) (hp : p < 4) (hcause : s.svcCause p = true) (h : s.svc p = 1 ∨ s.svc p = 2) :
    ∃ t, exec (.portSvcFault p) s = .next t ∧ t.svc p = 3 ∧ t.irqUp (pAP p) I.AIRPORT_SVC_CHG = true := by
  have hx : exec (.portSvcFault p) s = .next (s.svcFault p) := by
    show execPortSvcFault p s = _
    rw [execPortSvcFault, if_pos ⟨hp, hcause⟩]
  exact ⟨_, hx, s.svcFault_shows p h⟩

theorem faultClr_starts (s : State) (p : Nat) (hp : p < 4) (hfault : s.svc p = 3) (hready : s.svcReady p = true) (hclash : s.svcClash p = false) :
    ∃ t, exec (.faultClr p) s = .next t ∧ t.svc p = 1 := by
  have hx : exec (.faultClr p) s = .next (s.svcStart p) := by
    show execFaultClr p s = _
    rw [execFaultClr, if_neg (by omega), if_pos ⟨hready, by simp [hclash]⟩]
  obtain ⟨hsvc, -⟩ := s.svcStart_shows p
  exact ⟨_, hx, hsvc⟩

theorem State.refuseCfg_port (s : State) (p : Nat) : s.refuseCfg (pAP p) = s.inc C.AIRPORT_CFG_REFUSED p := rfl

theorem faultClr_refused (s : State) (p : Nat) (hp : p < 4) (hfault : s.svc p = 3) (hready : s.svcReady p = false) :
    ∃ t, exec (.faultClr p) s = .next t ∧ t.svc p = 3 ∧
      t.ctr (pAP p) C.AIRPORT_CFG_REFUSED = (s.ctr (pAP p) C.AIRPORT_CFG_REFUSED + 1) % 2 ^ 64 := by
  have hx : exec (.faultClr p) s = .next (s.inc C.AIRPORT_CFG_REFUSED p) := by
    show execFaultClr p s = _
    rw [execFaultClr, if_neg (by omega), if_neg (by simp [hready]), State.refuseCfg_port]
  refine ⟨_, hx, ?_, s.ctr_inc_same C.AIRPORT_CFG_REFUSED p 1⟩
  rw [State.svc, State.get_inc]
  exact hfault

end Sys2Proof.Machine
end

section
/-! SUPPORT. The proof of `Obligations.AirPorts`. -/
namespace Sys2Proof.Machine
open Sys2Proof

/-- Settles O23: one lemma for each clause, from framing lock over the PPDUs and the transceiver's control to the path's grant and the service of a port. -/
theorem airPorts : Obligations.AirPorts := by
  unfold Obligations.AirPorts
  exact ⟨framingLock_locks, framingLoss_counts, ppduTx_holds, ppduRx_badSignal, ppduRx_badLength, ppduRx_discards,
   ppduRx_queuesAck, ppduRx_queuesUp, spiTxnGo_queues, fun s p miso rest _ hspi hready hport => spiTxnDone_shows s p miso rest hspi hready hport,
   healthCheck_passes, healthCheck_faults, airportStartTimeout_faults, txPathGrant_grants, portSvcStart_starts, portSvcFault_faults,
   faultClr_starts, faultClr_refused⟩

end Sys2Proof.Machine
end

section
/-! SUPPORT. The refutation of `Obligations.SluiceMac`: a swap at a boundary may lengthen P, and then no superframe begins there (R168, R175, R176). -/
namespace Sys2Proof.Machine
open Sys2Proof

/-! ### A swap that lengthens P (R176) -/

/-- Port 0 is SERVING with P = 100 ms, and its armed bank, whose P is 200 ms, swaps at the boundary at 300 ms, which has just been reached. The superframe
that ends there began at 200 ms. -/
def swapLengthensPeriod : State :=
  let s := ((up [pAP 0, pSL 0]).set F.PORT_STATUS_SVC 2 0).set F.SFN 9
  let s := ((s.set F.BANK_HDR_SF_CODE 2 0 1).set F.BANK_CTRL_ARMED 1 0).set F.SWAP_SFN 10 0
  { s with ft := 300000000 * 2 ^ 32, air := { s.air with curB := 200000000, nextB := 300000000 } }

/-- The boundary falls on a multiple of the P under which it is reached. -/
theorem swapLengthensPeriod_boundary :
    swapLengthensPeriod.fleetNs / swapLengthensPeriod.period * swapLengthensPeriod.period = 300000000 := by decide +kernel

/-- The first superframe under the new bank waits for 400 ms, the next multiple of the new P (R176). -/
theorem superframeBoundary_waits_for_new_period :
    (Res.state swapLengthensPeriod (exec .superframeBoundary swapLengthensPeriod)).air.curB = 400000000 := by decide +kernel

/-- Refutes O24: its first clause says of every boundary that a superframe starts at that boundary. In `swapLengthensPeriod` a swap changes P there, the
boundary is no multiple of the new P, and the superframe starts at the next multiple. -/
theorem not_sluiceMac : ¬ Obligations.SluiceMac := by
  rintro ⟨hstarts, -⟩
  obtain ⟨t, ht, -, hnow, -⟩ := hstarts swapLengthensPeriod (by decide +kernel) (by decide +kernel) (by decide +kernel) (by decide +kernel)
  have hlater := superframeBoundary_waits_for_new_period
  rw [ht] at hlater
  exact absurd (hlater.symm.trans (hnow.trans swapLengthensPeriod_boundary)) (by decide)

end Sys2Proof.Machine
end

section
/-! SUPPORT. The zone that a chip takes itself for and the part it has in a pair: every update that the reception of a frame reaches leaves them alone
(R211, R215, R387). -/
namespace Sys2Proof.Machine
open Sys2Proof

/-! ### The zone and the part in a pair -/

/-- What a member's address and `State.offDuty` are read from: the site, the ring number, PAIR_STATUS.STATE, and two marks of the pair. -/
structure ZoneView where
  site : Nat
  number : Nat
  role : Nat
  paired : Bool
  loaded : Bool

def State.zoneView (s : State) : ZoneView := ⟨s.canal.site, s.number, s.get F.PAIR_STATUS_STATE, s.pair.paired, s.pair.loaded⟩

theorem State.addrOf_of_zoneView {s t : State} (h : t.zoneView = s.zoneView) (m : Nat) : t.addrOf m = s.addrOf m := by
  unfold State.addrOf
  rw [show t.canal.site = s.canal.site from congrArg ZoneView.site h, show t.number = s.number from congrArg ZoneView.number h]

theorem State.offDuty_of_zoneView {s t : State} (h : t.zoneView = s.zoneView) : t.offDuty = s.offDuty := by
  unfold State.offDuty
  rw [show t.get F.PAIR_STATUS_STATE = s.get F.PAIR_STATUS_STATE from congrArg ZoneView.role h,
    show t.pair.paired = s.pair.paired from congrArg ZoneView.paired h, show t.pair.loaded = s.pair.loaded from congrArg ZoneView.loaded h]

/-- The view depends on the registers, the Canal and the pair alone. -/
@[simp] theorem State.zoneView_mk (t : State) pending now ft fresh ctrs latch tbl dram pg once tags vecSent vecMask fq ev out hg flt sup held air arb lk gn tm
    disp ls mot motNsp rtk rt clk met key dbg boot :
    (State.mk pending now ft fresh t.regs ctrs latch tbl dram pg once tags vecSent vecMask fq ev out t.canal hg flt sup held air arb lk t.pair gn tm disp
      ls mot motNsp rtk rt clk met key dbg boot).zoneView = t.zoneView := rfl

theorem State.zoneView_ite {c : Prop} [Decidable c] (a b : State) : (if c then a else b).zoneView = if c then a.zoneView else b.zoneView :=
  apply_ite _ _ _ _

@[simp] theorem State.zoneView_each {α : Type} (s : State) (l : List α) (f : State → α → State) (h : ∀ t x, (f t x).zoneView = t.zoneView) :
    (s.each l f).zoneView = s.zoneView := State.each_keeps State.zoneView s l f h

theorem State.zoneView_on (s : State) (c : Bool) (f : State → State) (h : (f s).zoneView = s.zoneView) : (s.on c f).zoneView = s.zoneView :=
  State.on_keeps State.zoneView s c f h

/-- What leaves the Canal, the pair and their registers alone. -/
theorem State.zoneView_of_rest {W : Touch} {s t : State} (h : t.rest W = s.rest W) (hc : W.canal = false) (hp : W.pair = false)
    (hcb : W.has (some .canal) = false) (hpb : W.has (some .pair) = false) : t.zoneView = s.zoneView := by
  unfold State.zoneView State.number
  rw [State.canal_of_rest h hc, State.pair_of_rest h hp, State.get_of_rest h F.RING_STATUS_NUMBER 0 0 hcb,
    State.get_of_rest h F.PAIR_STATUS_STATE 0 0 hpb]

section
variable (s : State)

theorem State.zoneView_set (F : Fld) (v i k : Nat) (h : F.blk ∉ [Blk.canal, .pair]) : (s.set F v i k).zoneView = s.zoneView := by
  simp only [List.mem_cons, List.not_mem_nil, or_false, not_or] at h
  obtain ⟨hc, hp⟩ := h
  unfold State.zoneView State.number
  rw [State.get_set_blk _ _ _ _ _ _ _ _ (Ne.symm hc), State.get_set_blk _ _ _ _ _ _ _ _ (Ne.symm hp), State.set_canal, State.set_pair]

@[simp] theorem State.zoneView_inc (c : Ctr) (i n : Nat) : (s.inc c i n).zoneView = s.zoneView := rfl
@[simp] theorem State.zoneView_emit (o : Out) : (s.emit o).zoneView = s.zoneView := rfl
@[simp] theorem State.zoneView_setQ (n : Nat) (q : FQ) : (s.setQ n q).zoneView = s.zoneView := rfl

theorem State.zoneView_incLost (F : Fld) (n : Nat) (h : F.blk ∉ [Blk.canal, .pair]) : (s.incLost F n).zoneView = s.zoneView :=
  s.zoneView_set F _ 0 0 h

@[simp] theorem State.zoneView_setTe (p : Page) (t i v : Nat) : (s.setTe p t i v).zoneView = s.zoneView := by
  unfold State.setTe
  dsimp only
  split <;> rfl

@[simp] theorem State.zoneView_assertSrc (n : Nat) : (s.assertSrc n).zoneView = s.zoneView := by
  simp only [State.assertSrc, State.sendVec, State.zoneView_ite, State.zoneView_inc, State.zoneView_emit, State.zoneView_mk, ite_self]

@[simp] theorem State.zoneView_irq (p : Page) (n : Nat) : (s.irq p n).zoneView = s.zoneView := by
  have hset : ∀ v, (s.setReg (p.adr 0x01C) v).zoneView = s.zoneView := fun v => by
    have hword : ∀ F : Fld, F.off % 0x1000 ≠ 0x01C → (s.setReg (p.adr 0x01C) v).get F = s.get F := fun F hF =>
      congrArg (fun x => bits x F.lsb F.width) (State.reg_setReg_ne _ _ _ _ (Fld.addr_ne_irq F 0 0 p (by omega)))
    unfold State.zoneView State.number
    rw [hword F.RING_STATUS_NUMBER (by decide), hword F.PAIR_STATUS_STATE (by decide)]
    rfl
  simp only [State.irq, State.irqBits, State.zoneView_ite, State.zoneView_assertSrc, hset, ite_self]

/-! ### Messages of the Canal and records on the queues to the host -/

@[simp] theorem State.zoneView_setCport (p : Nat) (c : CanalPort) : (s.setCport p c).zoneView = s.zoneView := by
  unfold State.setCport
  split <;> rfl

@[simp] theorem State.zoneView_canalTurn (p : Nat) : (s.canalTurn p).zoneView = s.zoneView := by
  unfold State.canalTurn
  dsimp only
  split
  · rfl
  · split
    · rfl
    · rw [State.zoneView_inc, State.zoneView_emit, State.zoneView_setCport]

@[simp] theorem State.zoneView_canalOut (p : Nat) (m : CanalMsg) : (s.canalOut p m).zoneView = s.zoneView :=
  (State.zoneView_each _ _ _ fun t _ => t.zoneView_canalTurn p).trans (s.zoneView_setCport p _)

@[simp] theorem State.zoneView_canalUnicast (z unit : Nat) (b : CanalBody) : (s.canalUnicast z unit b).zoneView = s.zoneView := by
  unfold State.canalUnicast
  dsimp only
  split
  · exact State.zoneView_canalOut ..
  · rfl

@[simp] theorem State.zoneView_sendFrame (q : FQ) (f : FFrame) : (s.sendFrame q f).zoneView = s.zoneView := by
  unfold State.sendFrame State.emitFlume
  split
  · rw [State.zoneView_inc, State.zoneView_canalUnicast]
  · split <;> rfl

@[simp] theorem State.zoneView_qTurn (n : Nat) : (s.qTurn n).zoneView = s.zoneView := by
  fun_cases State.qTurn <;> simp only [State.zoneView_sendFrame, State.zoneView_setQ]

@[simp] theorem State.zoneView_qLose (n k : Nat) : (s.qLose n k).zoneView = s.zoneView := by
  simp only [State.qLose, State.qevent, State.zoneView_ite, State.zoneView_assertSrc, State.zoneView_setQ, ite_self]

@[simp] theorem State.zoneView_qMakeRoom (n need k : Nat) : (s.qMakeRoom n need k).zoneView = s.zoneView := by
  induction k generalizing s with
  | zero => rfl
  | succ k ih => simp only [State.qMakeRoom, State.zoneView_ite, ih, State.zoneView_qLose, State.zoneView_setQ, ite_self]

@[simp] theorem State.zoneView_qPump (n : Nat) : (s.qPump n).zoneView = s.zoneView := State.zoneView_each _ _ _ fun t _ => t.zoneView_qTurn n

@[simp] theorem State.zoneView_qPush (n len : Nat) (b : FBody) : (s.qPush n len b).zoneView = s.zoneView := by
  simp only [State.qPush, State.zoneView_ite, State.zoneView_qLose, State.zoneView_setQ, State.zoneView_qMakeRoom, State.zoneView_qPump, ite_self]

@[simp] theorem State.zoneView_qBytes (n : Nat) (b : List Nat) : (s.qBytes n b).zoneView = s.zoneView := State.zoneView_qPush ..

/-! ### Event records -/

@[simp] theorem State.zoneView_logLose (seq : Nat) : (s.logLose seq).zoneView = s.zoneView := by
  simp only [State.logLose, State.zoneView_irq, State.zoneView_incLost _ F.LOG_LOST _ (by decide), State.zoneView_mk]

@[simp] theorem State.zoneView_hostDrain : s.hostDrain.zoneView = s.zoneView := by
  simp only [State.hostDrain, State.zoneView_ite, State.zoneView_each _ _ _ fun t r => State.zoneView_qPush t 16 32 (.event r), State.zoneView_mk, ite_self]

@[simp] theorem State.zoneView_extDrain : s.extDrain.zoneView = s.zoneView := by
  simp only [State.extDrain, State.zoneView_ite, State.zoneView_mk, ite_self]

@[simp] theorem State.zoneView_toCirc (r : EvRec) (pin : Bool) : (s.toCirc r pin).zoneView = s.zoneView := by
  unfold State.toCirc
  dsimp only
  (repeat' split) <;> simp only [State.zoneView_hostDrain, State.zoneView_extDrain, State.zoneView_logLose, State.zoneView_mk]

@[simp] theorem State.zoneView_writeRec (code source a b c area : Nat) : (s.writeRec code source a b c area).zoneView = s.zoneView := by
  have hset : ∀ (t : State) (v : Nat), (t.set F.NEWEST_SEQ v).zoneView = t.zoneView := fun t v => t.zoneView_set _ _ _ _ (by decide)
  have hon : ∀ (t : State) (d : Bool), (t.on d fun u => u.irq ⟨.evlog, 0⟩ I.EVLOG_FOUND_CLOSED).zoneView = t.zoneView := fun t d =>
    t.zoneView_on d _ (State.zoneView_irq ..)
  unfold State.writeRec
  dsimp only
  (repeat' split) <;> simp only [State.zoneView_toCirc, State.zoneView_logLose, State.zoneView_mk, hon, hset, State.zoneView_inc]

@[simp] theorem State.zoneView_putRec (code source a b c area : Nat) : (s.putRec code source a b c area).zoneView = s.zoneView := by
  simp only [State.putRec, State.writeLoss, State.zoneView_ite, State.zoneView_writeRec, State.zoneView_mk, ite_self]

@[simp] theorem State.zoneView_newSecond : s.newSecond.zoneView = s.zoneView := by
  have hsum : ∀ (t : State) (x : Suppr), (t.summary x).zoneView = t.zoneView := fun t x => State.zoneView_putRec ..
  simp only [State.newSecond, State.zoneView_ite, State.zoneView_each _ _ _ hsum, State.zoneView_mk, ite_self]

@[simp] theorem State.zoneView_firstInSecond (kind second : Nat) : (s.firstInSecond kind second).2.zoneView = s.zoneView := by
  unfold State.firstInSecond
  split <;> rfl

@[simp] theorem State.zoneView_putBucket (code : Nat) (b : Bucket) (sh : Bool) : (s.putBucket code b sh).zoneView = s.zoneView := by
  simp only [State.putBucket, State.zoneView_ite, State.zoneView_inc, State.zoneView_mk, ite_self]

@[simp] theorem State.zoneView_suppress (code source : Nat) : (s.suppress code source).zoneView = s.zoneView := rfl

@[simp] theorem State.zoneView_event (code source a b c : Nat) : (s.event code source a b c).zoneView = s.zoneView := by
  have hfirst : ∀ (t : State) (kind second : Nat), (if t.sup.battery then t.firstInSecond kind second else (true, t)).2.zoneView = t.zoneView := by
    intro t kind second
    split
    · exact State.zoneView_firstInSecond ..
    · rfl
  simp only [State.event, State.eventAt, State.zoneView_ite, hfirst, State.zoneView_newSecond, State.zoneView_putRec, State.zoneView_suppress,
    State.zoneView_putBucket, ite_self]

@[simp] theorem State.zoneView_notice (p : Page) (n a1 a2 a0 cell : Nat) : (s.notice p n a1 a2 a0 cell).zoneView = s.zoneView :=
  (State.zoneView_event ..).trans (State.zoneView_irq ..)

/-! ### Items of the dispatcher -/

@[simp] theorem State.zoneView_traceLose (k : Nat) : (s.traceLose k).zoneView = s.zoneView := by
  have hl : ∀ (t : State) (l : List Nat), (t.each l fun t _ => t.incLost F.TRACE_LOST).zoneView = t.zoneView := fun t l =>
    State.zoneView_each t l _ fun u _ => u.zoneView_incLost _ _ (by decide)
  simp only [State.traceLose, State.zoneView_ite, State.zoneView_irq, hl, State.zoneView_mk, ite_self]

@[simp] theorem State.zoneView_stage (r : TraceRec) : (s.stage r).zoneView = s.zoneView := by
  simp only [State.stage, State.zoneView_mk, State.zoneView_ite, State.zoneView_traceLose, ite_self]

@[simp] theorem State.zoneView_traceOut (l : List TraceRec) : (s.traceOut l).1.zoneView = s.zoneView := by
  induction l generalizing s with
  | nil => rfl
  | cons r l ih =>
    unfold State.traceOut
    split
    · exact (ih _).trans (State.zoneView_qBytes ..)
    · rfl

@[simp] theorem State.zoneView_traceItem (evt : Nat) (i : DItem) (arg : Nat) : (s.traceItem evt i arg).zoneView = s.zoneView := by
  have hdrain : ∀ t : State, t.traceDrain.zoneView = t.zoneView := fun t => by
    simp only [State.traceDrain, State.zoneView_ite, State.zoneView_mk, State.zoneView_traceOut, State.zoneView_traceLose, ite_self]
  simp only [State.traceItem, State.traceRec, State.zoneView_ite, hdrain, State.zoneView_stage, State.zoneView_mk, ite_self]

/-- What the dispatcher shows of its store and of a core, and the choice of the next item. -/
def touchStore : Touch := { blks := [.core, .dispatch], disp := true }

theorem State.zoneView_of_store {t : State} (h : t.rest touchStore = s.rest touchStore) : t.zoneView = s.zoneView :=
  State.zoneView_of_rest h rfl rfl rfl rfl

@[simp] theorem State.zoneView_preempt1 : s.preempt1.zoneView = s.zoneView := by
  have : touchStore.Disp := ⟨rfl⟩
  have : touchStore.In .core := ⟨rfl⟩
  unfold State.preempt1
  dsimp only
  split
  · rfl
  · rename_i i t h
    split
    · rfl
    · rw [State.zoneView_traceItem, State.zoneView_inc, State.zoneView_inc, State.zoneView_of_store _ (State.intoCtx_rest ..)]
      exact s.zoneView_of_store (State.choose_rest s _ _ h)

@[simp] theorem State.zoneView_item (i : DItem) : (s.item i).zoneView = s.zoneView := by
  have : touchStore.In .dispatch := ⟨rfl⟩
  have hpre : ∀ t : State, t.preempt.zoneView = t.zoneView := fun t => by
    simp only [State.preempt, State.zoneView_ite, State.zoneView_each _ _ _ fun u (_ : Nat) => State.zoneView_preempt1 u, ite_self]
  have hshow : ∀ t : State, t.dispShow.zoneView = t.zoneView := fun t => t.zoneView_of_store (State.dispShow_rest ..)
  have hoffer : (s.offer i).1.zoneView = s.zoneView := by
    unfold State.offer State.flowOff State.enqueue
    (repeat' split) <;> simp only [hpre, hshow, State.zoneView_traceItem, State.zoneView_inc, State.zoneView_mk]
  unfold State.item
  dsimp only
  split
  · rfl
  · split
    · rfl
    · rename_i h
      rwa [h] at hoffer

@[simp] theorem State.zoneView_leEvent (code i : Nat) : (s.leEvent code i).zoneView = s.zoneView := by
  have hev : ∀ o f l p g r, (s.leaseEvent code o f l p g r).zoneView = s.zoneView := fun o f l p g r => by
    unfold State.leaseEvent
    split
    · rfl
    · simp only [State.zoneView_ite, State.zoneView_qBytes, State.zoneView_item, ite_self]
  simp only [State.leEvent, State.zoneView_ite, hev, ite_self]

end

end Sys2Proof.Machine
end

section
/-! SUPPORT. A member that is heard (R185, R199): the thaw of its steps, its holds and its moves leave the zone and the part in a pair alone. -/
namespace Sys2Proof.Machine
open Sys2Proof

section
variable (s : State)

/-! ### Holds and moves of a member (R264, R287) -/

@[simp] theorem State.zoneView_mset (i : Nat) (f : EF) (v : Nat) : (s.mset i f v).zoneView = s.zoneView := s.zoneView_setTe pREG 0 i _

@[simp] theorem State.zoneView_regCounts : s.regCounts.zoneView = s.zoneView := by
  simp only [State.regCounts]
  rw [State.zoneView_set _ _ _ _ _ (by decide), State.zoneView_set _ _ _ _ _ (by decide), State.zoneView_set _ _ _ _ _ (by decide)]

@[simp] theorem State.zoneView_holdMember (i cause : Nat) : (s.holdMember i cause).zoneView = s.zoneView := by
  simp only [State.holdMember, State.zoneView_ite, State.zoneView_item, State.zoneView_inc, State.zoneView_mset, ite_self]

@[simp] theorem State.zoneView_blockAround (i : Nat) : (s.blockAround i).zoneView = s.zoneView := by
  refine State.zoneView_each _ _ _ fun t j => ?_
  unfold State.blockOwner
  split
  · rw [State.zoneView_regCounts, State.zoneView_leEvent, State.zoneView_holdMember]
  · rfl

@[simp] theorem State.zoneView_truncMove (m slot from_ : Nat) : (s.truncMove m slot from_).zoneView = s.zoneView := by
  have hmove : ∀ (t : State) (v : Nat), (t.setMove m slot v).zoneView = t.zoneView := fun t v => t.zoneView_setTe ..
  have hmot : ∀ (t : State) (x : MotSt), (t.setMotion m x).zoneView = t.zoneView := fun _ _ => rfl
  have hfree : ∀ t : State, (t.freeMove m slot).zoneView = t.zoneView := fun t => t.zoneView_setTe ..
  simp only [State.truncMove, State.zoneView_ite, State.zoneView_notice, State.zoneView_inc, hmot, hmove, hfree, State.zoneView_item, ite_self]

@[simp] theorem State.zoneView_motTrunc (m : Nat) : (s.motTrunc m).zoneView = s.zoneView := by
  have hall : ∀ (l : List Nat) (x : State × Nat × Nat), (l.foldl (fun (acc : State × Nat × Nat) slot =>
      let (s, fur, end_) := acc
      let e := s.move m slot
      let from_ := if MV.furrow.get e = fur then end_ else 0
      (s.truncMove m slot from_, MV.furrow.get e, MV.dEnd.get e)) x).1.zoneView = x.1.zoneView := by
    intro l
    induction l with
    | nil => exact fun _ => rfl
    | cons k l ih => exact fun x => (ih _).trans (State.zoneView_truncMove ..)
  exact hall _ _

/-! ### The lease entries that thaw (R249) -/

@[simp] theorem State.zoneView_leSet (i : Nat) (f : EF) (v : Nat) : (s.leSet i f v).zoneView = s.zoneView := s.zoneView_setTe ..
@[simp] theorem State.zoneView_turnShow (t : Nat) : (s.turnShow t).zoneView = s.zoneView := s.zoneView_setTe ..
@[simp] theorem State.zoneView_takeSeq : s.takeSeq.zoneView = s.zoneView := s.zoneView_set _ _ _ _ (by decide)

@[simp] theorem State.zoneView_leaseShow : s.leaseShow.zoneView = s.zoneView := by
  simp only [State.leaseShow]
  rw [State.zoneView_set _ _ _ _ _ (by decide), State.zoneView_set _ _ _ _ _ (by decide), State.zoneView_set _ _ _ _ _ (by decide),
    State.zoneView_set _ _ _ _ _ (by decide), State.zoneView_set _ _ _ _ _ (by decide), State.zoneView_set _ _ _ _ _ (by decide)]

@[simp] theorem State.zoneView_freeLe (i : Nat) : (s.freeLe i).zoneView = s.zoneView := by
  simp only [State.freeLe, State.setLe, State.zoneView_setTe]

@[simp] theorem State.zoneView_rechain (head : Nat) : (s.rechain head).zoneView = s.zoneView := by
  unfold State.rechain
  split
  · exact s.zoneView_freeLe head
  · rw [State.zoneView_each _ _ _ fun t x => t.zoneView_leSet .., State.zoneView_leSet, State.zoneView_leSet]

@[simp] theorem State.zoneView_lockFollow (k : Nat) : (s.lockFollow k).zoneView = s.zoneView := by
  simp only [State.lockFollow, State.freeLock, State.zoneView_ite, State.zoneView_turnShow, State.zoneView_leSet, State.zoneView_freeLe, ite_self]

@[simp] theorem State.zoneView_sendLease (zone typ n xid owner arg : Nat) (l : List PrepStep) :
    (s.sendLease zone typ n xid owner arg l).zoneView = s.zoneView := State.zoneView_canalUnicast ..

@[simp] theorem State.zoneView_stepDue (i : Nat) : (s.stepDue i).zoneView = s.zoneView := by
  have hover : (s.toOverstay i).zoneView = s.zoneView := by
    unfold State.toOverstay
    dsimp only
    split <;> simp only [State.zoneView_leaseShow, State.zoneView_ite, State.zoneView_sendLease, State.zoneView_blockAround, State.zoneView_leEvent,
      State.zoneView_lockFollow, State.zoneView_irq, State.zoneView_inc, State.zoneView_leSet, State.zoneView_takeSeq, ite_self]
  have hfree : ∀ t : State, (t.freeDecided i 4).zoneView = t.zoneView := fun t => by
    unfold State.freeDecided State.freeStep
    dsimp only
    split <;> split <;> simp only [State.zoneView_leaseShow, State.zoneView_motTrunc, State.zoneView_lockFollow, State.zoneView_rechain,
      State.zoneView_freeLe, State.zoneView_ite, State.zoneView_sendLease, State.zoneView_leEvent, State.zoneView_takeSeq, ite_self]
  simp only [State.stepDue, State.zoneView_ite, hover, hfree, State.zoneView_inc, ite_self]

@[simp] theorem State.zoneView_refreeze : s.refreeze.zoneView = s.zoneView := by
  unfold State.refreeze
  dsimp only
  rw [State.zoneView_each _ _ _ State.zoneView_stepDue, State.locksFollow, State.zoneView_each _ _ _ State.zoneView_lockFollow,
    State.zoneView_each _ _ _ fun t i => t.zoneView_leSet ..]

/-! ### A member is heard (R199) -/

@[simp] theorem State.zoneView_silentChg (p m : Nat) : (s.silentChg p m).zoneView = s.zoneView := by
  have hinfo : ∀ t : State, (t.portInfo p).zoneView = t.zoneView := fun t => by
    simp only [State.portInfo]
    rw [State.zoneView_set _ _ _ _ _ (by decide), State.zoneView_set _ _ _ _ _ (by decide)]
  simp only [State.silentChg, State.zoneView_item, hinfo, State.zoneView_refreeze, State.zoneView_regCounts, State.zoneView_irq]

/-- The marks of a heard member, before a change of SILENT shows. -/
def State.heardMarks (s : State) (p m : Nat) : State :=
  let s := s.mset m RG.lastRx (s.fleetMs % 2 ^ 32)
  let s : State := { s with air := { s.air with got := (p, m) :: s.air.got } }
  s.setLink m (LK.silent.set (LK.miss.set (s.link m) 0) 0)

theorem State.heard_cases (p m : Nat) (hduty : s.offDuty = false) :
    s.heard p m = s.heardMarks p m ∨ s.heard p m = ((s.heardMarks p m).mset m RG.silent 0).silentChg p m := by
  unfold State.heard
  rw [if_neg (by simp [hduty])]
  dsimp only
  split
  · exact .inr rfl
  · exact .inl rfl

theorem State.zoneView_heardMarks (p m : Nat) : (s.heardMarks p m).zoneView = s.zoneView := by
  simp only [State.heardMarks, State.setLink, State.zoneView_setTe, State.zoneView_mk, State.zoneView_mset]

theorem State.zoneView_heard (p m : Nat) (hduty : s.offDuty = false) : (s.heard p m).zoneView = s.zoneView := by
  rcases s.heard_cases p m hduty with h | h
  · rw [h, State.zoneView_heardMarks]
  · rw [h, State.zoneView_silentChg, State.zoneView_mset, State.zoneView_heardMarks]

end

end Sys2Proof.Machine
end

section
/-! SUPPORT. A relayed frame (R201, R211, R215): the clauses of `Obligations.RoutesAndRelaying` on frames of this zone and of another. -/
namespace Sys2Proof.Machine
open Sys2Proof

/-! ### The route table beside updates of other blocks -/

/-- The indices listed for a table whose block is not touched. -/
theorem State.teListed_of_rest {W : Touch} {s t : State} (h : t.rest W = s.rest W) (p : Page) (n : Nat) (hb : W.has (some p.blk) = false) :
    t.teListed p n = s.teListed p n := by
  have hleft : ∀ m : AMap Nat, AMap.keysIn (W.tblLeft m) (p.tblBase n) (p.tblBase n + 2 ^ 24) = AMap.keysIn m (p.tblBase n) (p.tblBase n + 2 ^ 24) := by
    intro m
    unfold AMap.keysIn Touch.tblLeft
    rw [List.filter_filter]
    refine congrArg (List.map _) (List.filter_congr fun e _ => ?_)
    by_cases hr : p.tblBase n ≤ e.1 ∧ e.1 < p.tblBase n + 2 ^ 24
    · have hk : e.1 = p.tblKey n (e.1 - p.tblBase n) := by
        unfold Page.tblKey
        omega
      rw [hk, blkAt_tblKey, hb]
      simp
    · simp [show ¬(p.tblBase n ≤ e.1 ∧ e.1 < p.tblBase n + 16777216) from hr]
  have ht : W.tblLeft t.tbl = W.tblLeft s.tbl := congrArg Rest.tbl h
  unfold State.teListed
  rw [← hleft t.tbl, ht, hleft s.tbl]

section
variable {W : Touch} {s t : State} (h : t.rest W = s.rest W) (hb : W.has (some .route) = false)
include h hb

theorem State.route_of_rest (i : Nat) : t.route i = s.route i := State.te_of_rest h pRT 0 i hb

theorem State.routes_of_rest : t.routes = s.routes := by
  unfold State.routes
  rw [State.teListed_of_rest h pRT 0 hb, funext (State.route_of_rest h hb)]

theorem State.routeFind_of_rest (key plen : Nat) : t.routeFind key plen = s.routeFind key plen := by
  unfold State.routeFind
  rw [State.routes_of_rest h hb, funext (State.route_of_rest h hb)]

end

theorem State.route_setAge_same (s : State) (i v : Nat) : (s.setAge i v).route i = RT.age.set (s.route i) v := AMap.get_set_same ..

theorem State.air_setAge (s : State) (i v : Nat) : (s.setAge i v).air = s.air := by rw [State.setAge]

theorem State.ctr_setAge (s : State) (i v : Nat) (q : Page) (c : Ctr) : (s.setAge i v).ctr q c = s.ctr q c := by rw [State.setAge, State.ctr, State.ctr]

theorem State.age_setAge (s : State) (i v : Nat) : RT.age.get ((s.setAge i v).route i) = v % 2 ^ 16 := by
  rw [State.route_setAge_same, EF.get_set_same]
  rfl

theorem State.key_setAge (s : State) (i v : Nat) : RT.key.get ((s.setAge i v).route i) = RT.key.get (s.route i) := by
  rw [State.route_setAge_same, EF.get_set_apart _ _ _ _ (by decide)]

/-- An offer of the route that the table holds is a hit (R215). -/
theorem State.offerRoute_confirms (s : State) {m port hop hops i : Nat} (snr : Nat) (hen : s.get F.RT_CFG_LEARN_EN = 1) (hon : s.isOn .route = true)
    (hfind : s.routeFind (s.addrOf m) 23 = some i) (htarget : RT.target.get (s.route i) = 0) (hport : RT.port.get (s.route i) = port)
    (hnext : RT.next.get (s.route i) = hop) (hhops : RT.hops.get (s.route i) = hops) :
    s.offerRoute m port hop hops snr = s.setAge i 0 := by
  unfold State.offerRoute
  rw [if_neg (by simp [hen, hon])]
  simp only [hfind]
  rw [if_pos ⟨htarget, hport, hnext, hhops⟩]

/-! ### A frame taken off the queue (R187) -/

theorem State.rxFront_of_rxq {s : State} {p : Nat} {f : RxFrame} {rest : List RxFrame} (h : (s.port p).rxq = f :: rest) {ok : AirHdr → Bool}
    (hok : ok f.hdr = true) : s.rxFront p ok = some f := by
  simp only [State.rxFront, h]
  rw [if_pos hok]

theorem State.rxPop_rxq {s : State} {p : Nat} {f : RxFrame} {rest : List RxFrame} (h : (s.port p).rxq = f :: rest) (hport : p < s.air.ports.length) :
    ((s.rxPop p).port p).rxq = rest := by
  rw [State.rxPop, State.port_setPort_same _ _ _ hport, h]
  rfl

theorem State.rxPop_ports_length (s : State) (p : Nat) : (s.rxPop p).air.ports.length = s.air.ports.length := length_setNth ..

theorem execRelayedFrameRx_receives {s : State} {p : Nat} {f : RxFrame} {r : RelayHdr} {rest : List RxFrame} (hrx : s.receives p = true)
    (hq : (s.port p).rxq = f :: rest) (htyp : f.hdr.typ = 2) (hrelay : f.hdr.relay = some r) :
    exec (.relayedFrameRx p) s = .next ((s.rxPop p).relayRx p (s.relayOf f r)) := by
  show execRelayedFrameRx p s = _
  unfold execRelayedFrameRx
  rw [State.rxFront_of_rxq hq (by simp [htyp, hrelay])]
  simp only [hrelay]
  rw [if_neg (by simp [hrx])]

/-! ### A frame of another zone (R201) -/

theorem relayedFrameRx_foreign (s : State) (p : Nat) (f : RxFrame) (r : RelayHdr) (rest : List RxFrame) (y : RelayIn) (hrx : s.receives p = true)
    (hq : (s.port p).rxq = f :: rest) (htyp : f.hdr.typ = 2) (hrelay : f.hdr.relay = some r) (hport : p < s.air.ports.length)
    (hy : y = s.relayOf f r) (hzone : y.zone ≠ s.number) :
    ∃ t, exec (.relayedFrameRx p) s = .next t ∧ (t.port p).rxq = rest ∧ t.air.got = s.air.got ∧ t.air.downq = s.air.downq ∧ t.tbl = s.tbl ∧
      t.ctr ⟨.route, 0⟩ C.ROUTE_FOREIGN = (s.ctr ⟨.route, 0⟩ C.ROUTE_FOREIGN + 1) % 2 ^ 64 := by
  have hrel : (s.rxPop p).relayRx p (s.relayOf f r) = (s.rxPop p).inc C.ROUTE_FOREIGN := if_pos (hy ▸ hzone)
  refine ⟨_, (execRelayedFrameRx_receives hrx hq htyp hrelay).trans (congrArg Host.Outcome.next hrel), State.rxPop_rxq hq hport, rfl, rfl, rfl, ?_⟩
  exact State.ctr_inc_same (s.rxPop p) C.ROUTE_FOREIGN 0 1

/-! ### A fresh frame of this zone: its hop is acknowledged, its counter taken, its member heard (R185, R211) -/

/-- A fresh relayed frame before it offers a route. -/
def State.relayHeard (s : State) (p : Nat) (y : RelayIn) : State :=
  (((s.relayAck p y).linkTake y.up.m y.up.kgen y.up.fcnt y.up.seq).inc C.SLUICE_UP_RX p).heard p y.up.m

/-- What the acknowledgement and the marks of a heard member may touch; the route table is not among it. -/
def touchHeard : Touch :=
  { touchLog with blks := [.airport, .core, .dispatch, .frameSec, .lease, .motion, .registry, .sluice, .turnout] ++ touchLog.blks,
                  air := true, pair := true, disp := true, ls := true, mot := true }

section
variable (s : State) (p : Nat) (y : RelayIn)

theorem State.relayHeard_rest : (s.relayHeard p y).rest touchHeard = s.rest touchHeard := by
  cases Touch.granting
  have hack : (s.relayAck p y).rest touchHeard = s.rest touchHeard := by
    dsimp only [touchHeard, touchLog, List.cons_append, List.nil_append]
    unfold State.relayAck
    split
    · rfl
    · exact State.sendAck_rest ..
  rw [← hack]
  dsimp only [touchHeard, touchLog, List.cons_append, List.nil_append]
  unfold State.relayHeard
  rw [State.heard_rest, State.inc_rest _ _ _ _, State.linkTake_rest]

theorem State.relayAck_ports (hport : p < s.air.ports.length) : ((s.relayAck p y).port p).rxq = (s.port p).rxq := by
  have hair : ∀ (t : State) (hg : Bool) (g : AirFrame), (t.airEmit p hg g).air = t.air := fun t hg g => by
    unfold State.airEmit
    split <;> rfl
  have hppdu : ∀ (t : State) (at_ rate n : Nat), t.air = s.air → ((t.ppduAt p at_ rate n).port p).rxq = (s.port p).rxq := by
    intro t at_ rate n ht
    have hp : ∀ u : State, u.air = s.air → u.port p = s.port p := fun u hu => by rw [State.port, hu, State.port]
    unfold State.ppduAt
    split
    · rw [hp t ht]
    · have hst := (State.strobes_air (t.inc C.AIRPORT_PPDU_TX p) p at_ (t.portUs p rate n)).trans ht
      dsimp only
      rw [State.port_setPort_same _ _ _ (by rw [hst]; exact hport)]
      rw [hp _ hst]
  unfold State.relayAck State.sendAck
  split
  · rfl
  · dsimp only
    split
    · exact hppdu _ _ _ _ (hair s _ _)
    · rfl

theorem State.linkTake_ports (m kgen fcnt seq : Nat) : (s.linkTake m kgen fcnt seq).air.ports = s.air.ports := by
  have hnote : ∀ (t : State) (v : Nat), (t.noteFcnt v).air = t.air := fun t v => by
    have ⟨_, _, _, _, _, _⟩ := sending_parts false
    exact State.air_of_rest (W := sending false) (State.noteFcnt_rest ..) rfl
  unfold State.linkTake
  dsimp only
  split
  · rw [hnote, State.setLink, State.setTe_air]
  · rfl

theorem State.zoneView_relayAck : (s.relayAck p y).zoneView = s.zoneView := by
  cases Touch.granting
  unfold State.relayAck
  split
  · rfl
  · exact State.zoneView_of_rest (W := { blks := [.airport, .sluice], out := true, air := true }) (State.sendAck_rest ..) rfl rfl rfl rfl

theorem State.zoneView_linkTake (m kgen fcnt seq : Nat) : (s.linkTake m kgen fcnt seq).zoneView = s.zoneView := by
  have hnote : ∀ (t : State) (v : Nat), (t.noteFcnt v).zoneView = t.zoneView := fun t v => by
    have ⟨_, _, _, _, _, _⟩ := sending_parts false
    exact State.zoneView_of_rest (W := sending false) (State.noteFcnt_rest ..) rfl rfl rfl rfl
  simp only [State.linkTake, State.zoneView_ite, hnote, State.setLink, State.zoneView_setTe, State.zoneView_mk, ite_self]

/-! The member is heard once the zone view shows the unit on duty. -/

theorem State.heardMarks_air (m : Nat) : (s.heardMarks p m).air = { s.air with got := (p, m) :: s.air.got } := by
  unfold State.heardMarks
  dsimp only
  rw [State.setLink, State.setTe_air]
  simp only [State.mset_air]

/-- What the change of SILENT may touch beside the page of the port. -/
def touchSilent : Touch := { touchHeard with air := false }

theorem State.silentChg_air (m : Nat) : (s.silentChg p m).air = s.air := by
  cases Touch.granting
  refine State.air_of_rest (W := touchSilent) ?_ rfl
  dsimp only [touchSilent, touchHeard, touchLog, List.cons_append, List.nil_append]
  exact State.silentChg_rest ..

theorem State.heard_air (m : Nat) (hduty : s.offDuty = false) : (s.heard p m).air = { s.air with got := (p, m) :: s.air.got } := by
  rcases s.heard_cases p m hduty with h | h
  · rw [h, State.heardMarks_air]
  · rw [h, State.silentChg_air, State.mset_air, State.heardMarks_air]

/-- What an item may touch, and what the thaw of lease entries may. -/
def touchItem : Touch := { touchLog with blks := [.core, .dispatch] ++ touchLog.blks, disp := true }

def touchThaw : Touch :=
  { touchLog with blks := [.core, .dispatch, .lease, .motion, .registry, .turnout] ++ touchLog.blks, pair := true, disp := true, ls := true, mot := true }

/-- An item, and the thaw of lease entries, count only in the pages that they touch. -/
theorem State.item_ctr (i : DItem) (q : Page) (c : Ctr) (hq : touchItem.has (some q.blk) = false) : (s.item i).ctr q c = s.ctr q c := by
  cases Touch.granting
  refine State.ctr_of_rest (W := touchItem) ?_ q c hq
  dsimp only [touchItem, touchLog, List.cons_append, List.nil_append]
  exact State.item_rest ..

theorem State.refreeze_ctr (q : Page) (c : Ctr) (hq : touchThaw.has (some q.blk) = false) : s.refreeze.ctr q c = s.ctr q c := by
  cases Touch.granting
  refine State.ctr_of_rest (W := touchThaw) ?_ q c hq
  dsimp only [touchThaw, touchLog, List.cons_append, List.nil_append]
  exact State.refreeze_rest ..

theorem State.silentChg_ctr (m : Nat) (c : Ctr) : (s.silentChg p m).ctr (pSL p) c = s.ctr (pSL p) c := by
  have hirq : ∀ (t : State) (q : Page) (n : Nat), (t.irq q n).ctr (pSL p) c = t.ctr (pSL p) c := fun t q n => t.irq_ctr q n _ c (by simp)
  unfold State.silentChg
  dsimp only
  rw [State.item_ctr _ _ _ _ rfl, State.portInfo, State.ctr_set, State.ctr_set, State.refreeze_ctr _ _ _ rfl, State.regCounts, State.ctr_set,
    State.ctr_set, State.ctr_set, hirq, hirq]

theorem State.heard_ctr (m : Nat) (c : Ctr) (hduty : s.offDuty = false) : (s.heard p m).ctr (pSL p) c = s.ctr (pSL p) c := by
  have hmset : ∀ (t : State) (f : EF) (v : Nat), (t.mset m f v).ctr (pSL p) c = t.ctr (pSL p) c := fun t f v =>
    State.ctr_of_ctrs (t.setTe_ctrs pREG 0 m _) _ c
  have hmarks : (s.heardMarks p m).ctr (pSL p) c = s.ctr (pSL p) c := by
    refine (State.ctr_of_ctrs (State.setTe_ctrs ..) _ c).trans ?_
    exact hmset s RG.lastRx _
  rcases s.heard_cases p m hduty with h | h
  · rw [h, hmarks]
  · rw [h, State.silentChg_ctr, hmset, hmarks]

/-! What stands once the frame is taken. -/

theorem State.relayAck_ctr (c : Ctr) (hc : c.off % 0x1000 ≠ C.SLUICE_ACK_TX.off % 0x1000) : (s.relayAck p y).ctr (pSL p) c = s.ctr (pSL p) c := by
  have hsent : ∀ (g : AirFrame) (at_ rate n : Nat), ((s.airEmit p false g).ppduAt p at_ rate n).ctr (pSL p) c = s.ctr (pSL p) c := by
    have ⟨_, _, _, _, _, _⟩ := sending_parts true
    have : (sending true).Air := ⟨rfl⟩
    exact fun g at_ rate n => State.ctr_of_rest (W := sending true) ((State.ppduAt_rest ..).trans (State.airEmit_rest ..)) _ c rfl
  unfold State.relayAck State.sendAck
  split
  · rfl
  · dsimp only
    split
    · rw [State.ctr_inc_off _ _ _ _ _ _ hc, hsent]
    · rfl

theorem State.linkTake_ctr (m kgen fcnt seq : Nat) (c : Ctr) : (s.linkTake m kgen fcnt seq).ctr (pSL p) c = s.ctr (pSL p) c := by
  have hnote : ∀ (t : State) (v : Nat), (t.noteFcnt v).ctr (pSL p) c = t.ctr (pSL p) c := fun t v => by
    have ⟨_, _, _, _, _, _⟩ := sending_parts false
    exact State.ctr_of_rest (W := sending false) (State.noteFcnt_rest ..) _ c rfl
  unfold State.linkTake
  dsimp only
  split
  · rw [hnote]
    exact State.ctr_of_ctrs (State.setTe_ctrs ..) _ c
  · rfl

theorem State.zoneView_relayTaken : (((s.relayAck p y).linkTake y.up.m y.up.kgen y.up.fcnt y.up.seq).inc C.SLUICE_UP_RX p).zoneView = s.zoneView := by
  rw [State.zoneView_inc, State.zoneView_linkTake, State.zoneView_relayAck]

variable {s} (hduty : s.offDuty = false)
include hduty

theorem State.relayTaken_onDuty : (((s.relayAck p y).linkTake y.up.m y.up.kgen y.up.fcnt y.up.seq).inc C.SLUICE_UP_RX p).offDuty = false :=
  (State.offDuty_of_zoneView (s.zoneView_relayTaken p y)).trans hduty

theorem State.zoneView_relayHeard : (s.relayHeard p y).zoneView = s.zoneView := by
  rw [State.relayHeard, State.zoneView_heard _ _ _ (State.relayTaken_onDuty p y hduty), State.zoneView_relayTaken]

theorem State.relayHeard_got : (p, y.up.m) ∈ (s.relayHeard p y).air.got := by
  rw [State.relayHeard, State.heard_air _ _ _ (State.relayTaken_onDuty p y hduty)]
  exact List.mem_cons_self

theorem State.relayHeard_rxq (hport : p < s.air.ports.length) : ((s.relayHeard p y).port p).rxq = (s.port p).rxq := by
  rw [← s.relayAck_ports p y hport, State.relayHeard, State.port, State.heard_air _ _ _ (State.relayTaken_onDuty p y hduty), State.inc_air,
    State.linkTake_ports, State.port]

theorem State.relayHeard_counts :
    (s.relayHeard p y).ctr (pSL p) C.SLUICE_UP_RX = (s.ctr (pSL p) C.SLUICE_UP_RX + 1) % 2 ^ 64 := by
  rw [State.relayHeard, State.heard_ctr _ _ _ _ (State.relayTaken_onDuty p y hduty)]
  refine (State.ctr_inc_same _ C.SLUICE_UP_RX p 1).trans ?_
  rw [State.linkTake_ctr, State.relayAck_ctr _ _ _ _ (by decide)]

end

/-! ### The frame is delivered, and its route confirmed (R211, R215) -/

theorem State.upDeliver_short (s : State) (p : Nat) (y : UpIn) (h : y.body.length < 32) : s.upDeliver p y = s := if_pos h

theorem State.upTake_fresh {s : State} {p : Nat} {y : UpIn} (ack offer : State → State)
    (h : freshness (s.linkUnder y.m y.kgen) y.fcnt y.seq = .deliver) :
    s.upTake p y ack offer = (offer ((((ack s).linkTake y.m y.kgen y.fcnt y.seq).inc C.SLUICE_UP_RX p).heard p y.m)).upDeliver p y := by
  unfold State.upTake
  rw [h]

theorem State.upBad_none {s : State} (p : Nat) {y : UpIn} (hm : y.m < 512) (hreg : s.mget y.m RG.rstate ≠ 0) (hgen : s.kgenOk y.kgen = true)
    (hfcnt : y.fcnt < 2 ^ 31) : s.upBad p y = none := by
  unfold State.upBad
  rw [if_neg (not_or.mpr ⟨by omega, hreg⟩), if_neg (by simp [hgen]), if_neg (by omega)]

/-- A fresh frame of a registered member of this zone, without observation, is heard and offers its route. -/
theorem State.relayRx_fresh {s : State} {p : Nat} {y : RelayIn} (hprof : y.prof ≠ 1) (hzone : y.zone = s.number) (hm : y.up.m < 512)
    (hreg : s.mget y.up.m RG.rstate ≠ 0) (hgen : s.kgenOk y.up.kgen = true) (hfcnt : y.up.fcnt < 2 ^ 31)
    (hfresh : freshness (s.linkUnder y.up.m y.up.kgen) y.up.fcnt y.up.seq = .deliver) (hlen : y.up.body.length < 32) (hduty : s.offDuty = false) :
    s.relayRx p y = (s.relayHeard p y).offerRoute y.up.m p y.hop (y.hops + 1) y.up.snr := by
  have hduty' : (s.relayHeard p y).offDuty = false := (State.offDuty_of_zoneView (State.zoneView_relayHeard p y hduty)).trans hduty
  have hseen : s.relaySeen y = (false, s) := if_neg hprof
  unfold State.relayRx
  rw [if_neg (not_not_intro hzone)]
  simp only [hseen, State.relayUp, State.upBad_none p hm hreg hgen hfcnt]
  rw [if_neg (by decide), State.upTake_fresh _ _ hfresh, State.upDeliver_short _ _ _ hlen]
  exact if_neg (by simpa [State.relayHeard] using hduty')

section
variable {s : State} {p i : Nat} {y : RelayIn} (hprof : y.prof ≠ 1) (hzone : y.zone = s.number) (hm : y.up.m < 512) (hreg : s.mget y.up.m RG.rstate ≠ 0)
  (hgen : s.kgenOk y.up.kgen = true) (hfcnt : y.up.fcnt < 2 ^ 31) (hfresh : freshness (s.linkUnder y.up.m y.up.kgen) y.up.fcnt y.up.seq = .deliver)
  (hlen : y.up.body.length < 32) (hen : s.get F.RT_CFG_LEARN_EN = 1) (hon : s.isOn .route = true) (hduty : s.offDuty = false)
  (hfind : s.routeFind (s.addrOf y.up.m) 23 = some i) (htarget : RT.target.get (s.route i) = 0) (hrport : RT.port.get (s.route i) = p)
  (hnext : RT.next.get (s.route i) = y.hop) (hhops : RT.hops.get (s.route i) = y.hops + 1)
include hprof hzone hm hreg hgen hfcnt hfresh hlen hen hon hduty hfind htarget hrport hnext hhops

/-- All that a frame over the route that the table holds does beside being heard: its entry is young again. -/
theorem State.relayRx_confirms : s.relayRx p y = (s.relayHeard p y).setAge i 0 := by
  have hrest := s.relayHeard_rest p y
  have hroute := State.route_of_rest hrest rfl i
  rw [State.relayRx_fresh hprof hzone hm hreg hgen hfcnt hfresh hlen hduty]
  refine State.offerRoute_confirms _ _ ?_ ?_ ?_ (hroute ▸ htarget) (hroute ▸ hrport) (hroute ▸ hnext) (hroute ▸ hhops)
  · exact (State.get_of_rest hrest F.RT_CFG_LEARN_EN 0 0 rfl).trans hen
  · rw [State.isOn, State.st, State.getP_of_rest hrest ⟨.route, 0⟩ F.STATE rfl]
    exact hon
  · rw [State.routeFind_of_rest hrest rfl, State.addrOf_of_zoneView (State.zoneView_relayHeard p y hduty)]
    exact hfind

theorem State.relayRx_confirms_shows (hport : p < s.air.ports.length) :
    ((s.relayRx p y).port p).rxq = (s.port p).rxq ∧ (p, y.up.m) ∈ (s.relayRx p y).air.got ∧
      (s.relayRx p y).ctr (pSL p) C.SLUICE_UP_RX = (s.ctr (pSL p) C.SLUICE_UP_RX + 1) % 2 ^ 64 ∧
      RT.age.get ((s.relayRx p y).route i) = 0 ∧ RT.key.get ((s.relayRx p y).route i) = RT.key.get (s.route i) := by
  have hroute := State.route_of_rest (s.relayHeard_rest p y) rfl i
  rw [State.relayRx_confirms hprof hzone hm hreg hgen hfcnt hfresh hlen hen hon hduty hfind htarget hrport hnext hhops]
  rw [State.port, State.air_setAge, State.ctr_setAge, State.age_setAge, State.key_setAge, hroute]
  exact ⟨State.relayHeard_rxq p y hduty hport, State.relayHeard_got p y hduty, State.relayHeard_counts p y hduty, rfl, rfl⟩

end

theorem relayedFrameRx_confirms (s : State) (p i : Nat) (f : RxFrame) (r : RelayHdr) (rest : List RxFrame) (y : RelayIn) (hrx : s.receives p = true)
    (hq : (s.port p).rxq = f :: rest) (htyp : f.hdr.typ = 2) (hrelay : f.hdr.relay = some r) (hport : p < s.air.ports.length)
    (hy : y = s.relayOf f r) (hprof : y.prof ≠ 1) (hzone : y.zone = s.number) (hm : y.up.m < 512) (hreg : s.mget y.up.m RG.rstate ≠ 0)
    (hgen : s.kgenOk y.up.kgen = true) (hfcnt : y.up.fcnt < 2 ^ 31)
    (hfresh : freshness (s.linkUnder y.up.m y.up.kgen) y.up.fcnt y.up.seq = .deliver) (hlen : y.up.body.length < 32)
    (hen : s.get F.RT_CFG_LEARN_EN = 1) (hon : s.isOn .route = true) (hduty : s.offDuty = false)
    (hfind : s.routeFind (s.addrOf y.up.m) 23 = some i) (htarget : RT.target.get (s.route i) = 0) (hrport : RT.port.get (s.route i) = p)
    (hnext : RT.next.get (s.route i) = y.hop) (hhops : RT.hops.get (s.route i) = y.hops + 1) :
    ∃ t, exec (.relayedFrameRx p) s = .next t ∧ (t.port p).rxq = rest ∧ (p, y.up.m) ∈ t.air.got ∧
      t.ctr ⟨.sluice, p⟩ C.SLUICE_UP_RX = (s.ctr ⟨.sluice, p⟩ C.SLUICE_UP_RX + 1) % 2 ^ 64 ∧
      RT.age.get (t.route i) = 0 ∧ RT.key.get (t.route i) = RT.key.get (s.route i) := by
  have hlink : (s.rxPop p).linkUnder y.up.m y.up.kgen = s.linkUnder y.up.m y.up.kgen := rfl
  obtain ⟨hrxq, hgot, hcount, hage, hkey⟩ := State.relayRx_confirms_shows (s := s.rxPop p) (p := p) (i := i) hprof hzone hm hreg hgen hfcnt
    (hlink ▸ hfresh) hlen hen hon hduty hfind htarget hrport hnext hhops ((s.rxPop_ports_length p).symm ▸ hport)
  exact ⟨_, hy ▸ execRelayedFrameRx_receives hrx hq htyp hrelay, hrxq.trans (State.rxPop_rxq hq hport), hgot, hcount, hage, hkey⟩

end Sys2Proof.Machine
end

section
/-! SUPPORT. The ageing of routes, the scan of the table against its shadow, the forced ECC mode and the seen cache (R216, R221, R222, R225). -/
namespace Sys2Proof.Machine
open Sys2Proof

/-! ### The listed entries of a table in canonical form -/

/-- The keys of sorted contents rise, from their lower bound on. -/
theorem AMap.sortedFrom_pairwise {α : Type} (m : AMap α) (lo : Nat) (h : AMap.sortedFrom lo m = true) :
    (m.map (·.1)).Pairwise (· < ·) ∧ ∀ k ∈ m.map (·.1), lo ≤ k := by
  induction m generalizing lo with
  | nil => exact ⟨List.Pairwise.nil, fun _ hk => absurd hk List.not_mem_nil⟩
  | cons e r ih =>
    obtain ⟨k, v⟩ := e
    simp only [AMap.sortedFrom, Bool.and_eq_true, decide_eq_true_eq] at h
    obtain ⟨hlo, hr⟩ := h
    obtain ⟨hrise, hbound⟩ := ih (k + 1) hr
    refine ⟨List.pairwise_cons.mpr ⟨fun j hj => hbound j hj, hrise⟩, fun j hj => ?_⟩
    rcases List.mem_cons.mp hj with rfl | hj
    · exact hlo
    · have := hbound j hj
      omega

theorem State.nodup_teListed {s : State} (h : s.wf = true) (p : Page) (n : Nat) : (s.teListed p n).Nodup := by
  have hsorted : AMap.sortedFrom 0 s.tbl = true := by
    simp only [State.wf, AMap.wf, Bool.and_eq_true] at h
    tauto
  have hkeys : (AMap.keysIn s.tbl (p.tblBase n) (p.tblBase n + 2 ^ 24)).Pairwise (· < ·) :=
    (AMap.sortedFrom_pairwise _ 0 hsorted).1.sublist (List.filter_sublist.map _)
  have hlow : ∀ k ∈ AMap.keysIn s.tbl (p.tblBase n) (p.tblBase n + 2 ^ 24), p.tblBase n ≤ k := by
    intro k hk
    simp only [AMap.keysIn, List.mem_map, List.mem_filter, Bool.and_eq_true, decide_eq_true_eq] at hk
    obtain ⟨e, ⟨-, he, -⟩, rfl⟩ := hk
    exact he
  refine List.Pairwise.map _ (fun _ _ h => h) (List.Pairwise.imp_of_mem (fun ha hb hab => ?_) hkeys)
  have := hlow _ ha
  have := hlow _ hb
  omega

theorem State.nodup_routes {s : State} (h : s.wf = true) : s.routes.Nodup := (s.nodup_teListed h pRT 0).filter _

theorem State.lt_of_mem_routes {s : State} {i : Nat} (h : i ∈ s.routes) : i < 4096 :=
  (of_decide_eq_true (List.mem_filter.mp h).2).1

/-! ### A whole fleet second (R216) -/

theorem State.route_setAge_ne (s : State) (i v j : Nat) (hi : i < 4096) (hj : j < 4096) (h : j ≠ i) : (s.setAge i v).route j = s.route j :=
  AMap.get_set_ne _ _ _ _ _ (by unfold Page.tblKey; omega)

/-- An entry is one second older. -/
def State.ageRoute (s : State) (i : Nat) : State := s.setAge i (satAdd (RT.age.get (s.route i)) 1 65535)

/-- Every entry of a list without repetition is a second older, every other one as before. -/
theorem State.route_each_ageRoute (s : State) (l : List Nat) (hl : l.Nodup) (hlt : ∀ i ∈ l, i < 4096) (j : Nat) (hj : j < 4096) :
    (s.each l State.ageRoute).route j = if j ∈ l then (s.ageRoute j).route j else s.route j := by
  induction l generalizing s with
  | nil => rfl
  | cons i l ih =>
    obtain ⟨hi, hl⟩ := List.nodup_cons.mp hl
    refine (ih (s.ageRoute i) hl fun k hk => hlt k (List.mem_cons_of_mem i hk)).trans ?_
    by_cases hji : j = i
    · subst hji
      rw [if_neg hi, if_pos List.mem_cons_self]
    · have hkeep : (s.ageRoute i).route j = s.route j := s.route_setAge_ne i _ j (hlt i List.mem_cons_self) hj hji
      rw [State.ageRoute, State.route_setAge_same, hkeep, State.ageRoute, State.route_setAge_same]
      simp [hji]

theorem State.age_ageRoute (s : State) (i : Nat) : RT.age.get ((s.ageRoute i).route i) = min 65535 (RT.age.get (s.route i) + 1) := by
  rw [State.ageRoute, State.age_setAge]
  unfold satAdd
  omega

theorem State.rt_ageRoute (s : State) (i : Nat) : (s.ageRoute i).rt = s.rt := by
  rw [State.ageRoute, State.setAge]

theorem routeAgeTick_ages (s : State) (hwf : s.wf = true) (hon : s.isOn .route = true) (hduty : s.offDuty = false) (hsec : s.rt.ageSec < s.fleetSec) :
    ∃ t, exec .routeAgeTick s = .next t ∧ t.rt.ageSec = s.fleetSec ∧
      (∀ i ∈ s.routes, (RT.static.get (s.route i) = 0 → RT.age.get (t.route i) = min 65535 (RT.age.get (s.route i) + 1)) ∧
        (RT.static.get (s.route i) ≠ 0 → t.route i = s.route i) ∧ RT.key.get (t.route i) = RT.key.get (s.route i)) := by
  let u : State := { s with rt := { s.rt with ageSec := s.fleetSec } }
  let l := s.routes.filter fun i => decide (RT.static.get (s.route i) = 0)
  have hx : exec .routeAgeTick s = .next (u.each l State.ageRoute) := if_neg (by simp [hon, hduty]; omega)
  have hroute (i : Nat) (hi : i ∈ s.routes) : (u.each l State.ageRoute).route i = if i ∈ l then (s.ageRoute i).route i else s.route i :=
    u.route_each_ageRoute l ((State.nodup_routes hwf).filter _) (fun j hj => State.lt_of_mem_routes (List.mem_filter.mp hj).1) i
      (State.lt_of_mem_routes hi)
  refine ⟨_, hx, ?_, fun i hi => ?_⟩
  · exact congrArg RouteSt.ageSec (State.each_keeps State.rt u l State.ageRoute State.rt_ageRoute)
  · rw [hroute i hi]
    by_cases hstatic : RT.static.get (s.route i) = 0
    · rw [if_pos (List.mem_filter.mpr ⟨hi, decide_eq_true hstatic⟩)]
      exact ⟨fun _ => s.age_ageRoute i, fun h => absurd hstatic h, s.key_setAge i _⟩
    · have hout : i ∉ l := fun h => hstatic (of_decide_eq_true (List.mem_filter.mp h).2)
      rw [if_neg hout]
      exact ⟨fun h => absurd h hstatic, fun _ => rfl, rfl⟩

/-! ### The end of a scan step (R216, R221) -/

/-- What a scan step does once it has visited entry `i`: MODE_NOW where no shadow is kept, the place of the next step, the end of a pass. -/
def State.scanMoves (s : State) (i : Nat) : State :=
  let s := if s.shadowed then s else { s.set F.RT_STATUS_MODE_NOW 0 with rt := { s.rt with clean := false, passed := false } }
  let s : State := { s with rt := { s.rt with scan := (i + 1) % 4096, scanAt := s.now } }
  if i = 4095 then ({ s with rt := { s.rt with passed := s.rt.clean, clean := s.shadowed } } : State).shadowMode else s

theorem State.scanMoves_shows (s : State) (i : Nat) :
    (s.scanMoves i).tbl = s.tbl ∧ (s.scanMoves i).ctrs = s.ctrs ∧ (s.scanMoves i).rt.scan = (i + 1) % 4096 ∧ (s.scanMoves i).rt.scanAt = s.now := by
  unfold State.scanMoves State.shadowMode
  dsimp only
  (repeat' split) <;> exact ⟨rfl, rfl, rfl, rfl⟩

/-- What a scan step does at the entry it visits. -/
def State.scanVisits (s : State) (i : Nat) : State :=
  if RT.plen.get (s.route i) ≠ 0 ∧ RT.static.get (s.route i) = 0 ∧ s.get F.AGE_LIMIT ≤ RT.age.get (s.route i) ∧ s.rt.repack = none then
    (s.setRoute i 0).inc C.ROUTE_AGED
  else if s.shadowed then s.compareShadow i
  else s

theorem execRouteScanStep_due {s : State} {i : Nat} (hon : s.isOn .route = true) (hdue : s.rt.scanAt + us 10 ≤ s.now) (hi : i = s.rt.scan % 4096) :
    exec .routeScanStep s = .next ((s.scanVisits i).scanMoves i) := by
  subst hi
  show execRouteScanStep s = _
  unfold execRouteScanStep
  rw [if_neg (by simp [hon]; omega)]
  unfold State.scanMoves State.scanVisits
  dsimp only
  by_cases hlast : s.rt.scan % 4096 = 4095
  · simp only [if_pos hlast]
  · simp only [if_neg hlast]

/-! ### An entry that is aged out (R216) -/

/-- What a write of a route may touch. -/
def touchRoute : Touch := { blks := [.route], dram := true, pair := true, clk := true }

theorem State.setRoute_frame (s : State) (i v : Nat) : (s.setRoute i v).rest touchRoute = s.rest touchRoute := by
  have : touchRoute.Dram := ⟨rfl⟩
  have : touchRoute.Pair := ⟨rfl⟩
  have : touchRoute.Clk := ⟨rfl⟩
  have : touchRoute.In .route := ⟨rfl⟩
  exact State.setRoute_rest ..

theorem State.dramWrite_keeps {β : Type} (π : State → β) (hclk : ∀ (t : State) (c : ClkSt), π { t with clk := c } = π t)
    (hdram : ∀ (t : State) (d : AMap Byte), π { t with dram := d } = π t) (s : State) (off : Nat) (l : List Nat) : π (s.dramWrite off l) = π s := by
  have hput : ∀ (l : List Nat) (t : State) (off : Nat), π (t.dramPut off l) = π t := by
    intro l
    induction l with
    | nil => exact fun _ _ => rfl
    | cons b r ih => exact fun t off => (ih _ _).trans (hdram t _)
  exact (hput l _ off).trans (hclk s _)

theorem State.setRoute_ctrs (s : State) (i v : Nat) : (s.setRoute i v).ctrs = s.ctrs := by
  unfold State.setRoute State.routeShow
  dsimp only
  rw [State.set_ctrs]
  split
  · rw [State.dramWrite_keeps State.ctrs (fun _ _ => rfl) (fun _ _ => rfl), State.setTe_ctrs]
  · rw [State.setTe_ctrs]

theorem routeScanStep_ages (s : State) (i : Nat) (hon : s.isOn .route = true) (hdue : s.rt.scanAt + us 10 ≤ s.now) (hi : i = s.rt.scan % 4096)
    (hvalid : RT.plen.get (s.route i) ≠ 0) (hstatic : RT.static.get (s.route i) = 0) (hage : s.get F.AGE_LIMIT ≤ RT.age.get (s.route i))
    (hrepack : s.rt.repack = none) :
    ∃ t, exec .routeScanStep s = .next t ∧ t.route i = 0 ∧ t.rt.scan = (i + 1) % 4096 ∧ t.rt.scanAt = s.now ∧
      t.ctr ⟨.route, 0⟩ C.ROUTE_AGED = (s.ctr ⟨.route, 0⟩ C.ROUTE_AGED + 1) % 2 ^ 64 := by
  have hvisit : s.scanVisits i = (s.setRoute i 0).inc C.ROUTE_AGED := if_pos ⟨hvalid, hstatic, hage, hrepack⟩
  obtain ⟨htbl, hctrs, hscan, hat⟩ := (s.scanVisits i).scanMoves_shows i
  refine ⟨_, execRouteScanStep_due hon hdue hi, ?_, hscan, hat.trans ?_, (State.ctr_of_ctrs hctrs _ _).trans ?_⟩
  · rw [State.route, State.te_of_tbl htbl, hvisit]
    exact s.route_setRoute_same i 0
  · rw [hvisit, State.inc_now]
    exact State.now_of_rest (s.setRoute_frame i 0)
  · rw [hvisit]
    refine (State.ctr_inc_same _ C.ROUTE_AGED 0 1).trans ?_
    rw [State.ctr_of_ctrs (s.setRoute_ctrs i 0)]

/-! ### A mismatch with the shadow (R222) -/

theorem State.route_repaired (s : State) (i v : Nat) : ({ s with tbl := AMap.set tblReset s.tbl (pRT.tblKey 0 i) v } : State).route i = v := by
  rw [State.route, State.te, AMap.get_set_same]

theorem State.ctr_tbl (s : State) (m : AMap Nat) (q : Page) (c : Ctr) : ({ s with tbl := m } : State).ctr q c = s.ctr q c := rfl

theorem State.compareShadow_repairs (s : State) (i : Nat) (hmode : s.get F.RT_STATUS_MODE_NOW = 1) (hrepair : s.get F.RT_CFG_REPAIR_EN = 1)
    (hne : RT.age.set (s.route i) 0 ≠ RT.age.set (s.shadow i) 0) :
    (s.compareShadow i).route i = s.shadow i ∧
      (s.compareShadow i).ctr pRT C.ROUTE_SHADOW_MISMATCH = (s.ctr pRT C.ROUTE_SHADOW_MISMATCH + 1) % 2 ^ 64 := by
  have hen : ((s.inc C.ROUTE_SHADOW_MISMATCH).notice pRT I.ROUTE_MISMATCH i).get F.RT_CFG_REPAIR_EN = 1 :=
    (State.notice_get _ _ _ _ _ _ _ _ _ _ rfl (by decide)).trans hrepair
  unfold State.compareShadow
  dsimp only
  rw [if_neg hne, if_neg (by omega), if_pos hen]
  generalize hu : (s.inc C.ROUTE_SHADOW_MISMATCH).notice pRT I.ROUTE_MISMATCH i = u
  have hcount : u.ctr pRT C.ROUTE_SHADOW_MISMATCH = (s.ctr pRT C.ROUTE_SHADOW_MISMATCH + 1) % 2 ^ 64 := by
    rw [← hu, State.notice_ctr _ _ _ _ _ _ _ _ _ rfl]
    exact State.ctr_inc_same s C.ROUTE_SHADOW_MISMATCH 0 1
  refine ⟨?_, ?_⟩
  · rw [State.route_routeShow, State.te_of_tbl (State.inc_tbl ..)]
    exact u.route_repaired i _
  · rw [State.routeShow, State.ctr_set, State.ctr_inc_off _ _ _ _ _ _ (by decide), State.ctr_tbl, hcount]

theorem routeScanStep_repairs (s : State) (i : Nat) (hon : s.isOn .route = true) (hdue : s.rt.scanAt + us 10 ≤ s.now) (hi : i = s.rt.scan % 4096)
    (hkeep : RT.plen.get (s.route i) = 0 ∨ RT.static.get (s.route i) ≠ 0 ∨ RT.age.get (s.route i) < s.get F.AGE_LIMIT) (hshadow : s.shadowed = true)
    (hmode : s.get F.RT_STATUS_MODE_NOW = 1) (hrepair : s.get F.RT_CFG_REPAIR_EN = 1) (hne : RT.age.set (s.route i) 0 ≠ RT.age.set (s.shadow i) 0) :
    ∃ t, exec .routeScanStep s = .next t ∧ t.route i = s.shadow i ∧ t.rt.scan = (i + 1) % 4096 ∧
      t.ctr ⟨.route, 0⟩ C.ROUTE_SHADOW_MISMATCH = (s.ctr ⟨.route, 0⟩ C.ROUTE_SHADOW_MISMATCH + 1) % 2 ^ 64 := by
  have hvisit : s.scanVisits i = s.compareShadow i := by
    unfold State.scanVisits
    rw [if_neg (by omega), if_pos hshadow]
  obtain ⟨hroute, hcount⟩ := s.compareShadow_repairs i hmode hrepair hne
  obtain ⟨htbl, hctrs, hscan, -⟩ := (s.scanVisits i).scanMoves_shows i
  refine ⟨_, execRouteScanStep_due hon hdue hi, ?_, hscan, (State.ctr_of_ctrs hctrs _ _).trans ?_⟩
  · rw [State.route, State.te_of_tbl htbl, hvisit]
    exact hroute
  · rw [hvisit]
    exact hcount

/-! ### The forced ECC mode ends (R221) -/

theorem State.shadowMode_of_passed {s : State} (hpassed : s.rt.passed = true) (hstart : s.rt.startAt = none) (hshadow : s.shadowed = true) :
    s.shadowMode.get F.RT_STATUS_MODE_NOW = 1 := by
  rw [State.shadowMode, if_pos ⟨hpassed, hstart, hshadow⟩]
  exact s.get_set_same F.RT_STATUS_MODE_NOW 1 0 0 (by decide)

theorem State.shadowMode_keeps (s : State) : s.shadowMode.rt = s.rt ∧ s.shadowMode.tbl = s.tbl := by
  unfold State.shadowMode
  split <;> exact ⟨rfl, rfl⟩

theorem routeEccHoldExpiry_ends (s : State) (a : Nat) (hstart : s.rt.startAt = some a) (hdue : a + sec 1 ≤ s.now) :
    ∃ t, exec .routeEccHoldExpiry s = .next t ∧ t.rt.startAt = none ∧
      (s.rt.passed = true → s.shadowed = true → t.get F.RT_STATUS_MODE_NOW = 1) ∧ t.tbl = s.tbl := by
  let u : State := { s with rt := { s.rt with startAt := none } }
  have hx : exec .routeEccHoldExpiry s = .next u.shadowMode := by
    show execRouteEccHoldExpiry s = _
    simp only [execRouteEccHoldExpiry, hstart]
    exact if_pos hdue
  obtain ⟨hrt, htbl⟩ := u.shadowMode_keeps
  exact ⟨_, hx, congrArg RouteSt.startAt hrt, fun hpassed hshadow => State.shadowMode_of_passed hpassed rfl hshadow, htbl⟩

/-! ### The seen cache (R225) -/

theorem floodSeenAge_filters (s : State) (src seq : Nat) :
    ∃ t, exec (.floodSeenAge src seq) s = .next t ∧ AMap.get (fun _ => ([] : List (Nat × Nat × Nat))) t.rt.seen (seenSet src seq) =
      (AMap.get (fun _ => ([] : List (Nat × Nat × Nat))) s.rt.seen (seenSet src seq)).filter
        fun x => !decide (x.1 = src ∧ x.2.1 = seq ∧ x.2.2 + 10000000000 ≤ s.fleetNs) :=
  ⟨_, rfl, AMap.get_set_same ..⟩

end Sys2Proof.Machine
end

section
/-! SUPPORT. REPACK (R217): how it is accepted or refused, and what stands once it has ended with the operations that it held back. -/
namespace Sys2Proof.Machine
open Sys2Proof

/-! ### A REPACK by a supervisor's tag -/

section
variable {s : State} {tg q data : Nat} {key : List Nat} (hgap : s.gated = false) (hon : s.isOn .route = true) (hlo : 0x80 ≤ tg) (hhi : tg ≤ 0xBF)
  (hbusy : s.tagBusy tg = false) (hrepack : s.rt.repack = none) (hlens : ((toBytes 32 data).any fun l => decide (32 < l)) = false)
include hgap hon hlo hhi hbusy hrepack hlens

/-- With lengths in range and no other REPACK running, what fits is held until its moves are done, and anything else refused. -/
theorem execRouteRepack_sup_tag : exec (.routeRepack (.tag .sup tg q key data)) s = .next (State.tblAnswer (.tag .sup tg q key data) pRT 8 0 0 key data
    (s.gen (Via.tag .sup tg q key data).owner) (if !s.repackFits (toBytes 32 data) then (s, some { err := 0x03 })
      else ({ s.set F.RT_STATUS_REPACK_BUSY 1 with rt := { s.rt with repack := some (toBytes 32 data) } }, none))) := by
  have hbar : s.jtagBars (Via.tag Src.sup tg q key data).src pRT true = false := rfl
  have htag : tagOk .sup tg = true := decide_eq_true ⟨hlo, hhi⟩
  have hst : s.st pRT = stOn := of_decide_eq_true hon
  show execRouteRepack _ s = _
  rw [execRouteRepack, State.tblOp, if_neg (by simp [hbar]), if_neg (by simp [hgap]), State.tblOpNow, if_neg (by simp [htag]),
    if_neg (by simp [hbusy]), if_neg (by decide), if_neg (not_not_intro hst), State.tblDecide, State.rebaseHolds_route]
  dsimp only
  rw [if_neg (by decide), if_neg (by simp [hrepack]), if_neg (by simp [hlens])]

theorem routeRepack_begins (hfits : s.repackFits (toBytes 32 data) = true) :
    ∃ t, exec (.routeRepack (.tag .sup tg q key data)) s = .next t ∧ t.rt.repack = some (toBytes 32 data) ∧ t.get F.RT_STATUS_REPACK_BUSY = 1 ∧
      t.tbl = s.tbl ∧ t.out = s.out := by
  have hx := execRouteRepack_sup_tag (q := q) (key := key) hgap hon hlo hhi hbusy hrepack hlens
  rw [if_neg (by simp [hfits])] at hx
  exact ⟨_, hx, rfl, s.get_set_same F.RT_STATUS_REPACK_BUSY 1 0 0 (by decide), rfl, rfl⟩

theorem routeRepack_refuses (hfits : s.repackFits (toBytes 32 data) = false) :
    ∃ t, exec (.routeRepack (.tag .sup tg q key data)) s = .next t ∧ t.rt.repack = none ∧ t.tbl = s.tbl ∧
      t.out = .compl .sup ⟨tg, 3, Page.wire ⟨.route, 0⟩, 0, none⟩ :: s.out := by
  have hx := execRouteRepack_sup_tag (q := q) (key := key) hgap hon hlo hhi hbusy hrepack hlens
  rw [if_pos (by simp [hfits])] at hx
  exact ⟨_, hx, hrepack, rfl, rfl⟩

end

/-! ### What writes of entries and of BANK_MAP leave alone -/

/-- What the end of a REPACK is stated about: the REPACK in progress, BUSY, the interrupt and the operations held back. -/
structure RepackView where
  repack : Option (List Nat)
  busy : Nat
  done : Bool
  held : List Held

def State.repackView (s : State) : RepackView := ⟨s.rt.repack, s.get F.RT_STATUS_REPACK_BUSY, s.irqUp pRT I.ROUTE_REPACK_DONE, s.held⟩

theorem State.repackView_set (s : State) (G : Fld) (v i k : Nat) (hw : G.lsb + G.width ≤ 32) (hirq : (G.off + k * G.step) % 0x1000 ≠ 0x01C)
    (hbusy : 0x304 ≠ (G.off + k * G.step) % 0x1000 ∨ 2 ≤ G.lsb ∨ G.lsb + G.width ≤ 1) : (s.set G v i k).repackView = s.repackView := by
  unfold State.repackView
  rw [State.get_set_off s G v i k F.RT_STATUS_REPACK_BUSY 0 0 hw hbusy, State.irqUp_set _ _ _ _ _ _ _ hirq, State.set_rt, State.set_held]

theorem State.repackView_setTe (s : State) (p : Page) (t i v : Nat) : (s.setTe p t i v).repackView = s.repackView := by
  unfold State.repackView State.irqUp State.reg
  rw [State.get_setTe, State.setTe_regs, State.setTe_rt, State.setTe_held]

theorem State.repackView_setRoute (s : State) (i v : Nat) : (s.setRoute i v).repackView = s.repackView := by
  unfold State.setRoute State.routeShow
  dsimp only
  rw [State.repackView_set _ F.RT_STATUS_VALID _ _ _ (by decide) (by decide) (by decide)]
  split
  · rw [State.dramWrite_keeps State.repackView (fun _ _ => rfl) (fun _ _ => rfl), State.repackView_setTe]
  · rw [State.repackView_setTe]

theorem State.repackView_routeInsert (s : State) (e : Nat) : (s.routeInsert e).2.repackView = s.repackView := by
  unfold State.routeInsert
  split
  · exact s.repackView_setRoute ..
  · rfl

/-- BANK_MAP has eight words, of four banks each. -/
theorem State.repackView_setBank (s : State) {b : Nat} (v : Nat) (hb : b < 32) : (s.setBank b v).repackView = s.repackView := by
  refine s.repackView_set F.BANK_MAP_W _ 0 (b / 4) (by decide) ?_ (.inl ?_)
  · show (0x320 + b / 4 * 4) % 0x1000 ≠ 0x01C
    omega
  · show 0x304 ≠ (0x320 + b / 4 * 4) % 0x1000
    omega

theorem State.repackView_repackNow (s : State) (lens : List Nat) : (s.repackNow lens).repackView = s.repackView := by
  unfold State.repackNow
  dsimp only
  rw [State.each_keeps State.repackView]
  · refine State.each_inv (fun t => t.repackView = s.repackView) ?_ fun t ht b hb => ?_
    · exact State.each_keeps State.repackView s _ _ fun t i => t.repackView_setRoute i 0
    · exact (t.repackView_setBank _ (List.mem_range.mp (List.mem_filter.mp hb).1)).trans ht
  · intro t e
    split
    · exact t.repackView_setRoute ..
    · rfl

theorem State.repackView_routeOp (s : State) (opcode idx : Nat) (key : List Nat) (data : Nat) :
    (s.routeOp opcode idx key data).1.repackView = s.repackView := by
  have hins : (s.routeOpInsert key data).1.repackView = s.repackView := by
    unfold State.routeOpInsert
    dsimp only
    split
    · rfl
    · split
      · rfl
      · have h := s.repackView_routeInsert (RT.ltime.set (RT.age.set (RT.plen.set (RT.key.set (data % 2 ^ 128)
          (prefixOf (nth 0 key 0) (nth 0 key 1 % 64))) (nth 0 key 1 % 64)) 0) (RT.ltime.get data))
        split
        all_goals
          rename_i hi
          rwa [hi] at h
  have hdel : (s.routeOpDelete idx key).1.repackView = s.repackView := by
    unfold State.routeOpDelete
    dsimp only
    split
    · exact s.repackView_setRoute _ 0
    · rfl
  unfold State.routeOp
  split
  · rfl
  · exact hins
  · exact hdel
  · rfl
  · rfl
  · rfl

/-! ### A completion in the page of ROUTE -/

/-- The completion of an operation of the page interface: it ends in TBL_DONE, and before that no counter changes, and of the words the table registers only. -/
theorem State.tblDone_page_irq (s : State) (src : Src) (p : Page) (i : Nat) (r : TRes) :
    ∃ u : State, s.tblDone (.page src) p i r = u.irq p 2 ∧ u.ctrs = s.ctrs ∧ ∀ o < 0x1000, o < 0x200 ∨ 0x280 ≤ o → u.reg (p.adr o) = s.reg (p.adr o) := by
  have hstatus : ∀ (t : State) (v o : Nat), o < 0x1000 → o < 0x200 ∨ 0x280 ≤ o → (t.setReg p.tblStatus v).reg (p.adr o) = t.reg (p.adr o) :=
    fun t v o ho h => State.reg_setReg_ne _ _ _ _ (p.adr_ne_tblStatus ho (by omega))
  have hcmd : ∀ (t : State) (v o : Nat), o < 0x1000 → o < 0x200 ∨ 0x280 ≤ o → (t.setReg p.tblCmd v).reg (p.adr o) = t.reg (p.adr o) :=
    fun t v o ho h => State.reg_setReg_ne _ _ _ _ (p.adr_ne_tblCmd ho (by omega))
  have hdata : ∀ (t : State) (v o : Nat), o < 0x1000 → o < 0x200 ∨ 0x280 ≤ o → (t.setTblData p v).reg (p.adr o) = t.reg (p.adr o) :=
    fun t v o ho h => State.setTblData_reg_ne t p v _ fun j hj => Page.off_ne p p _ _ ho (by omega) (by omega)
  have hctrs : ∀ (t : State) (v : Nat), (t.setTblData p v).ctrs = t.ctrs := fun t v => State.each_keeps State.ctrs t _ _ fun _ _ => rfl
  unfold State.tblDone
  dsimp only
  refine ⟨_, rfl, ?_, fun o ho h => ?_⟩
  · (repeat' split) <;> simp only [State.setReg_ctrs, hctrs]
  (repeat' split) <;> simp only [hcmd _ _ o ho h, hdata _ _ o ho h, hstatus _ _ o ho h]

/-- What a completion may touch beside the page of its block. -/
def touchCompl : Touch := { blks := [.canal, .eth, .flume, .pcie], tags := true, vecSent := true, fq := true, out := true, canal := true }

theorem State.writeCompl_frame (s : State) (src : Src) (q : Nat) (c : Compl) : (s.writeCompl src q c).rest touchCompl = s.rest touchCompl := by
  cases Touch.granting
  dsimp only [touchCompl]
  exact State.writeCompl_rest ..

def touchRouteCompl : Touch := { touchCompl with blks := [.route] ++ touchCompl.blks }

theorem State.tblDone_route_rest (s : State) (via : Via) (i : Nat) (r : TRes) :
    (s.tblDone via pRT i r).rest touchRouteCompl = s.rest touchRouteCompl := by
  cases Touch.granting
  dsimp only [touchRouteCompl, touchCompl, List.cons_append, List.nil_append]
  exact State.tblDone_rest ..

/-! ### The end of a REPACK -/

/-- A REPACK has ended: none is in progress, BUSY is 0, its interrupt is set, and ROUTE holds no operation back. -/
structure State.RepackOver (t : State) : Prop where
  idle : t.rt.repack = none
  busy : t.get F.RT_STATUS_REPACK_BUSY = 0
  done : t.irqUp pRT I.ROUTE_REPACK_DONE = true
  unheld : ∀ x ∈ t.held, x.page ≠ pRT

theorem State.RepackOver.of_view {s t : State} (hs : s.RepackOver) (h : t.repackView = s.repackView) : t.RepackOver where
  idle := (congrArg RepackView.repack h).trans hs.idle
  busy := (congrArg RepackView.busy h).trans hs.busy
  done := (congrArg RepackView.done h).trans hs.done
  unheld := (show t.held = s.held from congrArg RepackView.held h) ▸ hs.unheld

theorem State.irq_rt (s : State) (p : Page) (n : Nat) : (s.irq p n).rt = s.rt := by
  unfold State.irq State.irqBits State.assertSrc State.sendVec
  dsimp only
  (repeat' split) <;> rfl

theorem State.irq_held (s : State) (p : Page) (n : Nat) : (s.irq p n).held = s.held := by
  unfold State.irq State.irqBits State.assertSrc State.sendVec
  dsimp only
  (repeat' split) <;> rfl

/-- The interrupt is the last that is missing. -/
theorem State.repackOver_irq {s : State} (hidle : s.rt.repack = none) (hbusy : s.get F.RT_STATUS_REPACK_BUSY = 0) (hheld : ∀ x ∈ s.held, x.page ≠ pRT) :
    (s.irq pRT I.ROUTE_REPACK_DONE).RepackOver where
  idle := by rw [State.irq_rt, hidle]
  busy := (s.irq_get_off pRT I.ROUTE_REPACK_DONE F.RT_STATUS_REPACK_BUSY 0 0 (by decide)).trans hbusy
  done := s.irq_up pRT I.ROUTE_REPACK_DONE (by decide)
  unheld := by rw [State.irq_held]; exact hheld

theorem State.RepackOver.tblDone {s : State} (hs : s.RepackOver) (via : Via) (i : Nat) (r : TRes) : (s.tblDone via pRT i r).RepackOver := by
  have hrest := s.tblDone_route_rest via i r
  have hrt : (s.tblDone via pRT i r).rt = s.rt := State.rt_of_rest hrest rfl
  have hheld : (s.tblDone via pRT i r).held = s.held := State.held_of_rest hrest rfl
  refine ⟨hrt ▸ hs.idle, ?_, ?_, hheld ▸ hs.unheld⟩
  case refine_1 =>
    cases via with
    | page src =>
      obtain ⟨u, hu, -, hword⟩ := s.tblDone_page_irq src pRT i r
      have haddr : F.RT_STATUS_REPACK_BUSY.addr 0 0 = pRT.adr 0x304 := by decide
      rw [hu, u.irq_get_off pRT 2 F.RT_STATUS_REPACK_BUSY 0 0 (by decide), State.get, haddr, hword 0x304 (by decide) (by decide), ← haddr]
      exact hs.busy
    | tag src t q key data => exact (State.get_of_rest (s.writeCompl_frame src q _) F.RT_STATUS_REPACK_BUSY 0 0 rfl).trans hs.busy
  case refine_2 =>
    cases via with
    | page src =>
      obtain ⟨u, hu, -, hword⟩ := s.tblDone_page_irq src pRT i r
      rw [hu]
      exact State.irqUp_irq _ _ _ _ _ ((congrArg (fun x => bit x _) (hword 0x01C (by decide) (by decide))).trans hs.done) (by decide)
    | tag src t q key data =>
      exact (congrArg (fun x => bit x _) (State.reg_of_rest (s.writeCompl_frame src q _) pRT 0x01C rfl)).trans hs.done

/-- An operation that was held back is applied. -/
theorem State.RepackOver.routeHeld {s : State} (hs : s.RepackOver) (h : Held) : (s.routeHeld h).RepackOver := by
  have hmoved := hs.of_view (s.repackView_repackNow (toBytes 32 h.data))
  unfold State.routeHeld
  dsimp only
  split
  · split
    · exact hs.tblDone ..
    · split
      · exact hs.tblDone ..
      · exact (State.repackOver_irq hmoved.idle hmoved.busy hmoved.unheld).tblDone ..
  · exact (hs.of_view (s.repackView_routeOp ..)).tblDone ..

/-- The state in which the operations held back are applied: no REPACK runs, and ROUTE holds nothing back. -/
def State.repackOff (s : State) : State :=
  { s.set F.RT_STATUS_REPACK_BUSY 0 with rt := { s.rt with repack := none }, held := s.held.filter fun h => decide (h.page ≠ pRT) }

/-- The operations of ROUTE that a REPACK holds back. -/
def State.heldRoute (s : State) : List Held := s.held.filter fun h => decide (h.page = pRT)

/-- Where the REPACK's own operation is among those held back, the moves are made, it completes, and the others follow. -/
theorem execRepackComplete_own (s : State) {lens : List Nat} {r : Held} (hrepack : s.rt.repack = some lens)
    (hr : s.heldRoute.find? (fun h => decide (h.opcode = 8 ∧ toBytes 32 h.data = lens)) = some r) :
    execRepackComplete s = .next ((((s.repackOff.repackNow lens).irq pRT I.ROUTE_REPACK_DONE).tblDone r.via pRT r.index {}).each
      (s.heldRoute.erase r) State.routeHeld) := by
  unfold execRepackComplete
  rw [hrepack]
  dsimp only
  split
  next hnone => exact absurd (hnone.symm.trans hr) (by simp)
  next r' hsome =>
    obtain rfl : r' = r := Option.some.inj (hsome.symm.trans hr)
    rfl

theorem repackComplete_ends (s : State) (lens : List Nat) (h : Held) (hrepack : s.rt.repack = some lens) (hmem : h ∈ s.held) (hpage : h.page = ⟨.route, 0⟩)
    (hop : h.opcode = 8) (hlens : toBytes 32 h.data = lens) :
    ∃ t, exec .repackComplete s = .next t ∧ t.rt.repack = none ∧ t.get F.RT_STATUS_REPACK_BUSY = 0 ∧ t.irqUp ⟨.route, 0⟩ I.ROUTE_REPACK_DONE = true ∧
      (∀ x ∈ t.held, x.page ≠ ⟨.route, 0⟩) := by
  obtain ⟨r, hr⟩ : ∃ r, s.heldRoute.find? (fun h => decide (h.opcode = 8 ∧ toBytes 32 h.data = lens)) = some r :=
    Option.isSome_iff_exists.mp (List.find?_isSome.mpr ⟨h, List.mem_filter.mpr ⟨hmem, decide_eq_true hpage⟩, decide_eq_true ⟨hop, hlens⟩⟩)
  have hview : (s.repackOff.repackNow lens).repackView = s.repackOff.repackView := State.repackView_repackNow ..
  have hidle : (s.repackOff.repackNow lens).rt.repack = none := congrArg RepackView.repack hview
  have hbusy : (s.repackOff.repackNow lens).get F.RT_STATUS_REPACK_BUSY = 0 :=
    (congrArg RepackView.busy hview).trans (s.get_set_same F.RT_STATUS_REPACK_BUSY 0 0 0 (by decide))
  have hheld : ∀ x ∈ (s.repackOff.repackNow lens).held, x.page ≠ pRT := by
    rw [show (s.repackOff.repackNow lens).held = s.repackOff.held from congrArg RepackView.held hview]
    exact fun x hx => of_decide_eq_true (List.mem_filter.mp hx).2
  have hover := (State.repackOver_irq hidle hbusy hheld).tblDone r.via r.index {}
  obtain ⟨h1, h2, h3, h4⟩ := State.each_inv State.RepackOver hover (l := s.heldRoute.erase r) fun t ht x _ => ht.routeHeld x
  exact ⟨_, execRepackComplete_own s hrepack hr, h1, h2, h3, h4⟩

end Sys2Proof.Machine
end

section
/-! SUPPORT. LEARN (R220) and the departure of a member whose previous address it names (R265): what the forfeit, the dropped
furrows and the reset solver leave of the counters of REGISTRY and ROUTE. -/
namespace Sys2Proof.Machine
open Sys2Proof

/-! ### The counters of REGISTRY and ROUTE over a forfeit (R257) -/

/-- What the parts of a forfeit touch, but for the operations that it ends, which lie in any block. -/
def touchForfeit : Touch :=
  { touchLog with
    blks := [.core, .dispatch, .lease, .motion, .taskboard, .turnout] ++ touchLog.blks
    tags := true
    held := true
    pair := true
    disp := true
    ls := true
    mot := true }

/-- What the routes and the solver touch. -/
def touchSolver : Touch := { pair := true, rtk := true, blks := [.rtkCtrl] }

section
variable {q : Page} (c : Ctr) (hq : q = pREG ∨ q = pRT)
include hq

theorem State.ctr_of_forfeitRest {s t : State} (h : t.rest touchForfeit = s.rest touchForfeit) : t.ctr q c = s.ctr q c :=
  State.ctr_of_rest h q c (by rcases hq with rfl | rfl <;> rfl)

theorem State.ctr_irq (s : State) (p : Page) (n : Nat) : (s.irq p n).ctr q c = s.ctr q c :=
  State.irq_ctr _ _ _ _ _ (by rcases hq with rfl | rfl <;> decide)

/-- An operation completes in its own page's words, or by its tag. -/
theorem State.ctr_tblDone (s : State) (via : Via) (p : Page) (i : Nat) (r : TRes) : (s.tblDone via p i r).ctr q c = s.ctr q c := by
  cases via with
  | page src =>
    obtain ⟨u, hu, hctrs, -⟩ := s.tblDone_page_irq src p i r
    rw [hu, State.ctr_irq c hq, State.ctr_of_ctrs hctrs]
  | tag src t k key data => exact State.ctr_of_rest (s.writeCompl_frame src k _) q c (by rcases hq with rfl | rfl <;> rfl)

theorem State.ctr_complHeld (s : State) (via : Via) (p : Page) (r : TRes) : (s.complHeld via p r).ctr q c = s.ctr q c := by
  unfold State.complHeld
  split
  · rw [State.ctr_tblDone c hq]
    dsimp only
    split <;> rfl
  · rfl

theorem State.ctr_abortXfer (s : State) (x : Xfer) (d : Deny) : (s.abortXfer x d).ctr q c = s.ctr q c := by
  refine State.ctr_of_forfeitRest c hq ?_
  cases Touch.granting
  dsimp only [touchForfeit, touchLog, List.cons_append, List.nil_append]
  exact State.abortXfer_rest ..

theorem State.ctr_oldOps (s : State) (i : Nat) : (s.oldOps i).ctr q c = s.ctr q c := by
  refine State.each_keeps (fun t => t.ctr q c) s _ _ fun t h => ?_
  split
  · rw [State.ctr_abortXfer c hq, State.ctr_complHeld c hq]
  · exact t.ctr_complHeld c hq ..

theorem State.ctr_forfeitDirect (s : State) (i : Nat) : (s.forfeitDirect i).ctr q c = s.ctr q c := by
  refine State.ctr_of_forfeitRest c hq ?_
  cases Touch.granting
  dsimp only [touchForfeit, touchLog, List.cons_append, List.nil_append]
  refine (State.each_rest _ _ _ fun t n => ?_).trans ?_
  · exact (State.turnShow_rest ..).trans (State.setTe_rest ..)
  · exact (State.irq_rest ..).trans ((State.inc_rest _ _ _ _).trans (State.takeSeq_rest ..))

theorem State.ctr_dropBatch (s : State) (b : TblSeq) : (s.dropBatch b).ctr q c = s.ctr q c := by
  refine State.ctr_of_forfeitRest c hq ?_
  cases Touch.granting
  dsimp only [touchForfeit, touchLog, List.cons_append, List.nil_append]
  exact (State.irq_rest ..).trans ((State.inc_rest _ _ _ _).trans (State.dropSeq_rest ..))

theorem State.ctr_forfeitMember (s : State) (i : Nat) : (s.forfeitMember i).ctr q c = s.ctr q c := by
  refine State.ctr_of_forfeitRest c hq ?_
  cases Touch.granting
  dsimp only [touchForfeit, touchLog, List.cons_append, List.nil_append]
  unfold State.forfeitMember
  dsimp only
  rw [State.taskForfeit_rest, State.motEmpty_rest]
  split
  · rw [State.dropFurrows_rest, State.orphanLocks_rest]
  · rw [State.rest_ls, State.dropFurrows_rest, State.orphanLocks_rest]

theorem State.ctr_forfeitRest (s : State) (i : Nat) : (s.forfeitRest i).ctr q c = s.ctr q c := by
  have hshow (t : State) : t.leaseShow.ctr q c = t.ctr q c := by
    refine State.ctr_of_forfeitRest c hq ?_
    cases Touch.granting
    dsimp only [touchForfeit, touchLog, List.cons_append, List.nil_append]
    exact State.leaseShow_rest ..
  unfold State.forfeitRest
  dsimp only
  rw [hshow]
  split
  · rw [State.ctr_forfeitMember c hq, State.ctr_oldOps c hq]
  · exact s.ctr_oldOps c hq i

theorem State.ctr_forfeit (s : State) (i : Nat) : (s.forfeit i).ctr q c = s.ctr q c := by
  rw [State.forfeit_eq, State.ctr_forfeitRest c hq, State.each_keeps (fun t => State.ctr t q c) _ _ _ fun t b => t.ctr_dropBatch c hq b,
    State.ctr_forfeitDirect c hq]

theorem State.ctr_bump (s : State) (i cause : Nat) : (s.bump i cause).ctr q c = s.ctr q c := by
  have hgen : (s.bumpGen i cause).ctrs = s.ctrs := by
    unfold State.bumpGen
    dsimp only
    (repeat' split) <;> simp only [State.mset, State.setMember, State.setTe_ctrs, State.set_ctrs]
  rw [State.bump, State.ctr_forfeit c hq, State.ctr_of_ctrs hgen]

theorem State.ctr_rtkReset (s : State) (m : Nat) : (s.rtkReset m).ctr q c = s.ctr q c := by
  refine State.ctr_of_rest (W := touchSolver) ?_ q c (by rcases hq with rfl | rfl <;> rfl)
  cases Touch.granting
  dsimp only [touchSolver]
  exact State.rtkReset_rest ..

/-- A departure counts itself in REGISTRY, and of the other counters of REGISTRY and ROUTE none. -/
theorem State.ctr_depart (s : State) (m : Nat) (h : s.mget m RG.rstate ≠ 0) : (s.depart m).ctr q c = (s.inc C.REGISTRY_DEPARTS).ctr q c := by
  have hbefore : (((s.bump m 2).rtkReset m).setMember m (clearDeparted (((s.bump m 2).rtkReset m).member m))).ctrs = ((s.bump m 2).rtkReset m).ctrs :=
    State.setTe_ctrs ..
  have hinc {t u : State} (ht : t.ctr q c = u.ctr q c) : (t.inc C.REGISTRY_DEPARTS).ctr q c = (u.inc C.REGISTRY_DEPARTS).ctr q c := by
    by_cases ha : q.adr c.off = pREG.adr C.REGISTRY_DEPARTS.off
    · simp only [State.inc, State.incP, State.incAt, State.ctr, ← ha, AMap.get_set_same] at ht ⊢
      rw [BitVec.eq_of_toNat_eq ht]
    · rw [State.inc, State.inc, State.ctr_incP_ne _ _ _ _ _ _ ha, State.ctr_incP_ne _ _ _ _ _ _ ha, ht]
  unfold State.depart
  rw [if_neg h]
  dsimp only
  rw [State.item_ctr _ _ _ _ (by rcases hq with rfl | rfl <;> rfl), State.regCounts, State.ctr_set, State.ctr_set, State.ctr_set, State.ctr_irq c hq]
  exact hinc ((State.ctr_of_ctrs hbefore q c).trans ((State.ctr_rtkReset c hq _ m).trans (s.ctr_bump c hq m 2)))

end

/-! ### A departed member (R265) -/

/-- A cleared record is free: RSTATE lies in the bytes that are cleared. -/
theorem rstate_clearDeparted (e : Nat) : RG.rstate.get (clearDeparted e) = 0 := by
  have h64 : bits (clearDeparted e) 64 32 = 0 := (bits_setBits_below _ _ _ _ _ _ (by decide)).trans (bits_setBits_same e 64 32 0)
  have hmod : RG.rstate.get (clearDeparted e) = bits (clearDeparted e) 64 32 % 2 ^ 2 := (Nat.mod_mod_of_dvd _ (by decide)).symm
  rw [hmod, h64, Nat.zero_mod]

theorem State.depart_frees (s : State) (m : Nat) : (s.depart m).mget m RG.rstate = 0 := by
  by_cases h : s.mget m RG.rstate = 0
  · rwa [State.depart, if_pos h]
  have hitem (t : State) (i : DItem) : (t.item i).member m = t.member m := by
    refine State.te_of_rest (W := touchItem) ?_ pREG 0 m rfl
    cases Touch.granting
    dsimp only [touchItem, touchLog, List.cons_append, List.nil_append]
    exact State.item_rest ..
  have htbl {t u : State} (ht : t.tbl = u.tbl) : t.member m = u.member m := by
    unfold State.member State.te
    rw [ht]
  unfold State.depart
  rw [if_neg h]
  dsimp only
  rw [State.mget, hitem, htbl (t := State.regCounts _) ((State.set_tbl ..).trans ((State.set_tbl ..).trans ((State.set_tbl ..).trans (State.irq_tbl ..)))),
    htbl (State.inc_tbl ..), State.setMember, State.member, State.te_setTe_same]
  exact rstate_clearDeparted _

/-! ### The routes that a LEARN changes -/

theorem State.ctr_setRoute (s : State) (i v : Nat) (q : Page) (c : Ctr) : (s.setRoute i v).ctr q c = s.ctr q c := State.ctr_of_ctrs (s.setRoute_ctrs i v) q c

theorem State.ctr_learnEntry (s : State) (i e : Nat) (q : Page) (c : Ctr) : (s.learnEntry i e).ctr q c = s.ctr q c := by
  unfold State.learnEntry
  dsimp only
  split
  · exact s.ctr_setAge ..
  · split
    · exact s.ctr_setRoute ..
    · rfl

/-- A LEARN counts in ROUTE only that there is no room. -/
theorem State.ctr_learnRoutes (s : State) (m : LearnMsg) {q : Page} (c : Ctr) (hq : q = pREG ∨ q = pRT)
    (hc : c.off % 0x1000 ≠ C.ROUTE_LEARN_NO_ROOM.off % 0x1000) : (s.learnRoutes m).ctr q c = s.ctr q c := by
  unfold State.learnRoutes
  dsimp only
  rw [State.each_keeps (fun t => State.ctr t q c) _ _ _ fun t i => t.ctr_learnEntry i _ q c]
  split
  · exact s.ctr_learnEntry ..
  · unfold State.routeInsert
    cases s.routeFreeIn _ with
    | some i => exact s.ctr_setRoute ..
    | none => exact (State.ctr_irq c hq ..).trans (State.ctr_inc_off _ _ _ _ _ _ hc)

def touchLearn : Touch := { blks := [.pcie, .route], dram := true, vecSent := true, out := true, pair := true, clk := true }

theorem State.member_learnRoutes (s : State) (m : LearnMsg) (i : Nat) : (s.learnRoutes m).member i = s.member i := by
  refine State.te_of_rest (W := touchLearn) ?_ pREG 0 i rfl
  cases Touch.granting
  dsimp only [touchLearn]
  exact State.learnRoutes_rest ..

/-! ### LEARN -/

theorem learnRx_departs (s : State) (m : LearnMsg) (hon : s.isOn .route = true) (hprev : m.prev ≠ 0) (hown : s.ownAddr m.prev = true)
    (hmem : s.mget (memberOf m.prev) RG.rstate ≠ 0) :
    ∃ t, exec (.learnRx m) s = .next t ∧ t.mget (memberOf m.prev) RG.rstate = 0 ∧
      t.ctr ⟨.route, 0⟩ C.ROUTE_LEARN_RX = (s.ctr ⟨.route, 0⟩ C.ROUTE_LEARN_RX + 1) % 2 ^ 64 ∧
      t.ctr ⟨.registry, 0⟩ C.REGISTRY_DEPARTS = (s.ctr ⟨.registry, 0⟩ C.REGISTRY_DEPARTS + 1) % 2 ^ 64 := by
  have hx : s.learnRx m = ((s.inc C.ROUTE_LEARN_RX).learnRoutes m).depart (memberOf m.prev) := by
    have hown' : (s.inc C.ROUTE_LEARN_RX).ownAddr m.prev = true := hown
    unfold State.learnRx
    simp [hon, hprev, hown']
  have hmem' : ((s.inc C.ROUTE_LEARN_RX).learnRoutes m).mget (memberOf m.prev) RG.rstate ≠ 0 := by
    rw [State.mget, State.member_learnRoutes]
    exact hmem
  refine ⟨s.learnRx m, rfl, ?_, ?_, ?_⟩ <;> rw [hx]
  · exact State.depart_frees ..
  · rw [State.ctr_depart _ (.inr rfl) _ _ hmem', State.ctr_inc_off _ _ _ _ _ _ (by decide), State.ctr_learnRoutes _ _ _ (.inr rfl) (by decide)]
    exact s.ctr_inc_same C.ROUTE_LEARN_RX 0 1
  · rw [State.ctr_depart _ (.inl rfl) _ _ hmem', State.ctr_inc_same _ C.REGISTRY_DEPARTS, State.ctr_learnRoutes _ _ _ (.inl rfl) (by decide),
      State.ctr_inc_off _ _ _ _ _ _ (by decide)]

theorem learnRx_counts (s : State) (m : LearnMsg) (hon : s.isOn .route = true) (hprev : m.prev = 0 ∨ s.ownAddr m.prev = false) :
    ∃ t, exec (.learnRx m) s = .next t ∧ t.tbl = s.tbl ∧ t.ctr ⟨.route, 0⟩ C.ROUTE_LEARN_RX = (s.ctr ⟨.route, 0⟩ C.ROUTE_LEARN_RX + 1) % 2 ^ 64 := by
  have hx : s.learnRx m = s.inc C.ROUTE_LEARN_RX := by
    have hown : (s.inc C.ROUTE_LEARN_RX).ownAddr m.prev = s.ownAddr m.prev := rfl
    unfold State.learnRx
    dsimp only
    rw [if_pos hon]
    exact if_pos (hprev.imp_right fun h => by simp [hown, h])
  refine ⟨s.learnRx m, rfl, ?_, ?_⟩ <;> rw [hx]
  · rfl
  · exact s.ctr_inc_same C.ROUTE_LEARN_RX 0 1

/-- Settles O25: a clause for each command, from what a relayed frame, an ageing step, a scan, a REPACK and a departure leave alone. -/
theorem routesAndRelaying : Obligations.RoutesAndRelaying := by
  unfold Obligations.RoutesAndRelaying
  exact ⟨relayedFrameRx_confirms, relayedFrameRx_foreign, routeAgeTick_ages, routeScanStep_ages, routeScanStep_repairs,
    fun s tg q data key hgap hon hlo hhi hbusy hrepack hlens hfits => routeRepack_begins hgap hon hlo hhi hbusy hrepack hlens hfits,
    fun s tg q data key hgap hon hlo hhi hbusy hrepack hlens hfits => routeRepack_refuses hgap hon hlo hhi hbusy hrepack hlens hfits,
    repackComplete_ends, routeEccHoldExpiry_ends, learnRx_departs, learnRx_counts, floodSeenAge_filters⟩

end Sys2Proof.Machine
end
